-- ==== Sys2Proof/Word.lean ====
section
/-! DEFINITION. The plain number and byte types of the DXB-64 model.

Registers and fields that the manual adds, masks or shifts are natural numbers held below a stated
width (the width is in the dictionary table or in the field's docstring); byte strings are lists of
bytes, the first byte at the lowest offset. -/

namespace Sys2Proof

/-- One byte. -/
abbrev Byte := BitVec 8

/-- A byte string, lowest offset first. -/
abbrev Bytes := List (BitVec 8)

/-- A 32-bit register of an Awl core (R454). -/
abbrev Word := BitVec 32

/-- A finite map from natural numbers: key and value pairs with strictly rising keys. -/
abbrev KMap (α : Type) := List (Nat × α)

/-- A chain time as TIME80 carries it (R59): whole seconds and nanoseconds. -/
structure Time80 where
  /-- seconds, 48 bits -/
  sec : Nat
  /-- nanoseconds, 0 to 999,999,999 -/
  ns : Nat
  deriving DecidableEq, Repr

end Sys2Proof
end

