-- ==== Sys2Proof/Machine/Types.lean ====
section
/-! DEFINITION. The data that commands carry and that the state holds: chain frames, access frames,
log entries, results. -/

namespace Sys2Proof

/-! ### Chain (Tack Chain, Addressing and Heads) -/

/-- The two chain ports, TACK_UP and TACK_DN. -/
inductive Side where
  | up
  | dn
  deriving DecidableEq, Repr

/-- The opposite port. -/
def Side.other : Side → Side
  | .up => .dn
  | .dn => .up

/-- Rank of a head candidate (R36): pinned to 0 first, then the lower EUI-64. -/
structure Rank where
  pinZero : Bool
  eui : Nat
  deriving DecidableEq, Repr

/-- Content of a LINK frame (R27, R31, R426): sender identity, port name, protocol level and partner range,
credit returns of the four lanes in units of 64 bytes. -/
structure LinkMsg where
  eui : Nat
  port : Side
  level : Nat
  minPartner : Nat
  maxPartner : Nat
  credits : Vector Nat 4
  deriving DecidableEq, Repr

/-- Content of SURVEY (R37, R42). -/
structure Survey where
  rank : Rank
  mask : Nat
  count : Nat
  /-- a full enumeration, which returns unpinned devices to 0xFF (R42) -/
  full : Bool
  deriving DecidableEq, Repr

/-- Content of ASSIGN (R37): the assign mask and the offer, 64 or more once the numbers are used up. -/
structure Assign where
  mask : Nat
  offer : Nat
  deriving DecidableEq, Repr

/-- One device in a TOPO map (R37, R45, R46). A map lists the devices in cabling order: TACK_DN of each
leads to TACK_UP of the next (R26). -/
structure TopoEntry where
  addr : Nat
  eui : Nat
  role : Nat
  upLink : Bool
  dnLink : Bool
  /-- false while the address is reserved for an absent device (R43) -/
  present : Bool
  /-- TOPO generation of the assignment (R46) -/
  gen : Nat
  deriving DecidableEq, Repr

/-- Content of a TOPO broadcast (R37, R47). -/
structure Topo where
  gen : Nat
  head : Nat
  ring : Bool
  map : List TopoEntry
  deriving DecidableEq, Repr

/-- A TOPO frame: the head's map, or a member's report of its own link states (R50). -/
inductive TopoMsg where
  | map (m : Topo)
  | report (addr : Nat) (upLink dnLink : Bool)
  deriving DecidableEq, Repr

/-- Content of HEAD (R44, R46). -/
structure HeadMsg where
  addr : Nat
  rank : Rank
  relinquish : Bool
  deriving DecidableEq, Repr

/-- TIME frame payload (Table 17-2) with its arrival stamp. -/
structure TimeMsg where
  tTx : Time80
  srcState : Nat
  hops : Nat
  stepGen : Nat
  /-- CRC-32C over bytes 0 to 27 -/
  crc : Nat
  /-- stamp of the start block's arrival, chain time in ns -/
  tRx : Nat
  deriving DecidableEq, Repr

/-- A Sync with its Delay_Req exchange (R446): its four times in ns, the master's t1 and t4 and this device's t2 and t3; the correction
fields of the Sync with its Follow_Up and of the Delay_Resp, ns; the master's Sync interval. -/
structure PtpExchange where
  t1 : Nat
  t2 : Nat
  t3 : Nat
  t4 : Nat
  corrSync : Int
  corrResp : Int
  syncUs : Nat
  deriving DecidableEq, Repr

/-- Codes of an SB_RSP (R54). -/
inductive SbCode where
  | ok
  | unmapped
  | mediaError
  | retrainFail
  deriving DecidableEq, Repr

/-- A remote Saddlebag request (R53, R54): a 52-bit chain address, a length, and the bytes of a write. -/
structure SbReq where
  addr : Nat
  len : Nat
  write : Option Bytes
  deriving DecidableEq, Repr

/-- A Tabina access frame (Table 3-3): header fields, payload, and whether its CRC-32C passed. -/
structure Access where
  ver : Nat
  op : Nat
  resp : Bool
  last : Bool
  pending : Bool
  sub : Bool
  retry : Bool
  status : Nat
  target : Nat
  origin : Nat
  reqId : Nat
  index : Nat
  subindex : Nat
  subcount : Nat
  offset : Nat
  length : Nat
  txn : Nat
  payload : Bytes
  crcOk : Bool
  deriving DecidableEq, Repr

/-- What a chain frame carries (Table 2-3). -/
inductive ChainBody where
  | link (m : LinkMsg)
  | survey (m : Survey)
  | assign (m : Assign)
  | done (m : Survey) (offer : Option Nat)
  | topo (m : TopoMsg)
  | head (m : HeadMsg)
  | time (m : TimeMsg)
  | delayReq (t1 : Nat)
  | delayRsp (t1 t2 t3 : Nat)
  | dict (a : Access)
  | data (bytes : Bytes)
  | sbReq (r : SbReq)
  | sbRsp (c : SbCode) (bytes : Bytes)
  | none
  deriving DecidableEq, Repr

/-- A chain frame (Table 2-2). -/
structure ChainFrame where
  dst : Nat
  src : Nat
  typ : Nat
  /-- chain lane, fixed by TYPE for the types of Table 2-3 -/
  lane : Nat
  cls : Nat
  hops : Nat
  tenant : Nat
  length : Nat
  tag : Nat
  body : ChainBody
  deriving DecidableEq, Repr

/-! ### Dictionary -/

/-- How an access frame reached the device, and so where its response goes (R74, R75). -/
inductive Via where
  | mailbox
  | chain (p : Side)
  | core (n : Nat)
  deriving DecidableEq, Repr

/-- Header and result data of a RES object (Table 3-7). -/
structure ResRec where
  seq : Nat
  outcome : Nat
  busy : Bool
  code : Nat
  data : Bytes
  deriving DecidableEq, Repr

/-- Error log entry (Table 4-4). -/
structure ErrEntry where
  time : Time80
  code : Nat
  source : Nat
  clkdom : Nat
  severity : Nat
  arg : Nat
  arg2 : Nat
  deriving DecidableEq, Repr

/-- Clamp log entry (Table 3-2). -/
structure ClampEntry where
  time : Time80
  index : Nat
  sub : Nat
  origin : Nat
  field : Nat
  requested : Nat
  stored : Nat
  deriving DecidableEq, Repr

/-- One stored response (R78). -/
structure Stored where
  origin : Nat
  reqId : Nat
  answer : Access
  deriving DecidableEq, Repr

/-- A NOTIFY subscription (R81). -/
structure Subscription where
  via : Via
  origin : Nat
  key : Nat
  intervalUs : Nat
  lastSent : Option Nat
  count : Nat
  seen : Nat
  deriving DecidableEq, Repr

/-- A DOMAIN transfer in progress (R82). -/
structure Transfer where
  origin : Nat
  key : Nat
  staged : Bytes
  lastBlock : Nat
  winFirst : Nat
  winCount : Nat
  deriving DecidableEq, Repr

/-- States of the epoch transaction other than IDLE (Table 3-8). -/
inductive TxnPhase where
  | opened
  | prepared
  | armed
  deriving DecidableEq, Repr

/-- The transaction a device holds (R87). -/
structure Txn where
  origin : Nat
  txn : Nat
  phase : TxnPhase
  epoch : Time80
  staged : KMap Nat
  lastReq : Nat
  deriving DecidableEq, Repr

/-- Outcome of a finished transaction (R90). -/
inductive TxnOutcome where
  | applied
  | aborted
  | expired
  deriving DecidableEq, Repr

/-- A recorded transaction outcome (R90). -/
structure TxnRecord where
  origin : Nat
  txn : Nat
  outcome : TxnOutcome
  deriving DecidableEq, Repr

/-- A running dual-map grace (R93): the tenant, its four old maps and the slotframe ends left. -/
structure Grace where
  tenant : Nat
  oldMaps : List Nat
  /-- chain time, in ns, at which it ends -/
  endsAt : Nat
  /-- placements of the old maps counted in `GRACE_UNPLACED` -/
  counted : List Nat
  deriving DecidableEq, Repr

/-- A request this device has sent and not had answered (R75, R79, R80). -/
structure Asked where
  frame : Access
  via : Via
  /-- the device asked -/
  dest : Nat
  sentAt : Nat
  resends : Nat
  deriving DecidableEq, Repr

/-! ### Memories -/

/-- The on-die memories, in the row order of Table 1-4. -/
inductive Mem where
  | nodeRecords
  | sampleHistory
  | coreLocal
  | harnessBuffer
  | halter
  | bridle
  | calendar
  | keeper
  | lacing
  | misc
  | mramAB
  | mramC
  | vbat
  deriving DecidableEq, Repr

/-- What a check of a protected word finds (R8, R9). -/
inductive MemErr where
  | none
  | single
  | uncorrectable
  deriving DecidableEq, Repr

/-- A frame in a node's downlink ring (R314, R315). -/
structure NodeFrame where
  tenant : Nat
  cls : Nat
  bytes : Bytes
  /-- handle of a directed frame of the host, for its report (R505) -/
  handle : Option Nat
  /-- its report is asked for -/
  report : Bool
  dsn : Option Nat
  attempts : Nat
  /-- it lies in the head cache -/
  cached : Bool
  /-- in one of the entries reserved for planning reads -/
  reserved : Bool
  /-- an attempt was sent (R227) -/
  sent : Bool
  /-- an empty frame that only carries the Handover IE (R239) -/
  forHandover : Bool
  /-- transmit report of its last attempt (Table 7-4) -/
  lastReport : Nat
  deriving DecidableEq, Repr

/-! ### Harness inputs -/

/-- What accompanies a frame into the Harness, by input (R274, R275, R350). -/
inductive InMeta where
  /-- HP0 to HP3: the sending node's record and the receive metadata of Table 6-7 -/
  | radio (record rxMeta : Nat)
  /-- HP4, HP5, with the receive stamp's chain time in ns -/
  | ethernet (stamp : Nat)
  /-- HP6, HP7: a DATA frame's chain header -/
  | chainData (tenant cls src dst : Nat)
  /-- HP6, HP7: DICT, SB_REQ or SB_RSP -/
  | chainOther (dict : Bool)
  /-- HP8, HP9: a routed frame of a descriptor; form 0 IP packet, 1 6LoWPAN, 2 Ethernet -/
  | routed (tenant cls : Nat) (handle : Option Nat) (report : Bool)
  /-- HP8, HP9: a directed frame: output, and for HP0 to HP3 a node's short address -/
  | directed (tenant cls output : Nat) (node : Option Nat) (core : Option Nat) (handle : Option Nat) (report : Bool)
  /-- HP10: an SB_RSP to a device, for a chain output -/
  | saddlebag (output dst : Nat)
  /-- HP11: an announcement or cancel of a campaign to a node's short address (R401) -/
  | lacing (campaign node : Nat)
  deriving DecidableEq, Repr

/-- Words that fail their parity in the lookups of one frame (R346, R347). -/
structure TableHit where
  /-- stage and word address of a failed Bridle word -/
  bridle : Option (Nat × Nat)
  /-- failed entries of the Halter places that the lookup reads: bits 3 to 0 the bucket's ways, bits 11 to 4 the overflow set's -/
  halter : Nat
  deriving DecidableEq, Repr

/-- A stored word of an item, by the item's place in what is read and the word's place in it, whose read fails: lanes that fail
their parity, or an error that the expander reports (R300, R318). -/
structure WordFail where
  item : Nat
  word : Nat
  /-- bit i: lane i, data bytes 4i to 4i + 3 -/
  lanes : Nat
  media : Bool
  deriving DecidableEq, Repr

/-- A copy-list entry (R330): output 0 to 11, target kind 0 to 2, short address or tenant. -/
structure CopyEntry where
  output : Nat
  target : Nat
  value : Nat
  deriving DecidableEq, Repr

/-- An entry of a host receive ring as the host set it up: buffer address and length. -/
structure RxDesc where
  buf : Nat
  len : Nat
  deriving DecidableEq, Repr

/-! ### Contactless -/

/-- Protocols of the reader, numbered in records as 1, 2 and 3 (R521). -/
inductive TagProto where
  | typeA
  | typeB
  | vicinity
  deriving DecidableEq, Repr

/-- The main rails (Table 22-3). -/
inductive Rail where
  | vddCore
  | vddMem
  | vddRf
  | vddIo
  | vdd33
  deriving DecidableEq, Repr

/-- What makes a cold start possible (R540, R557): the main rails reach their operating ranges, in an order; RESET_N is released. -/
inductive ColdEvent where
  | rails (order : List Rail)
  | released
  deriving DecidableEq, Repr

/-- An excursion of VDD_CORE or VDD_MEM: the farthest level in mV, its length in ns, and whether the rail returned (Table 21-8). -/
structure Glitch where
  core : Bool
  mv : Nat
  ns : Nat
  back : Bool
  deriving DecidableEq, Repr

/-- What the tamper detector senses (Table 21-8): for how many ns each of TAMPER0 to TAMPER3 has been high, the mesh open or short,
rail excursions, and the junction temperature in °C with the ns for which it has been there. -/
structure TamperSense where
  high : List Nat
  mesh : Bool
  glitches : List Glitch
  temp : Int
  tempNs : Nat
  deriving DecidableEq, Repr

/-- A tag that answers a poll, and what it holds. What its protocol does not read is not looked at (Table 20-2). -/
structure TagSeen where
  proto : TagProto
  /-- UID, or PUPI for Type B -/
  uid : Bytes
  /-- SAK of a Type A tag -/
  sak : Byte
  /-- Type 4 procedure: the CC file; none: the application or the file cannot be selected -/
  cc : Option Bytes
  /-- Type 4 procedure: the NDEF file; none: it cannot be selected -/
  ndef : Option Bytes
  /-- memory: of a Type 2 tag from block 3, of an ISO/IEC 15693 tag from block 0 -/
  mem : Bytes
  /-- memory size that an ISO/IEC 15693 tag reports, in bytes -/
  size : Nat
  deriving DecidableEq, Repr

/-- What the reader sends to a tag beside its reads (R516, R519, R520). -/
inductive ReaderSent where
  /-- R(NAK), or the command again for a tag without blocks -/
  | nak
  /-- S(DESELECT) -/
  | deselect
  /-- HLTA, HLTB or Stay Quiet -/
  | halt
  /-- S(WTX) granted with a multiplier -/
  | wtx (m : Nat)
  deriving DecidableEq, Repr

/-- How the reader waits for a tag: ISO-DEP with its FWI, Type 2 READ, or ISO/IEC 15693 (R519). -/
inductive TagLink where
  | isoDep (fwi : Fin 16)
  | type2
  | vicinity
  deriving DecidableEq, Repr

/-- A tag that has been singled out and has not answered. -/
structure TagWait where
  proto : TagProto
  uid : Bytes
  link : TagLink
  /-- place of the exchange among those with this tag (R520) -/
  exch : Nat
  /-- place of the command block within its exchange (R519) -/
  block : Nat
  deriving DecidableEq, Repr

/-! ### Radio and nodes -/

/-- Hardware part of a node record (Tables 8-10, 9-4, 14-7). -/
structure NodeHw where
  /-- `LEDGER_LU` -/
  ledger : Nat
  /-- `LEDGER_DAY` -/
  ledgerDay : Nat
  /-- `LIFE_LU`, U64 -/
  life : Nat
  /-- `NEXT_UL_ASN` -/
  nextUl : Nat
  /-- `NEXT_DL_ASN` -/
  nextDl : Nat
  /-- `DEFER_TO_S` -/
  deferTo : Nat
  /-- `NODE_DEFERRALS` -/
  deferrals : Nat
  /-- `NODE_MISSED` -/
  missed : Nat
  /-- `LAST_CHARGE_LU` -/
  lastCharge : Nat
  /-- `BATT_FLAGS` -/
  battFlags : Nat
  /-- `MAC_STATE` (Table 8-7) -/
  macState : Nat
  /-- `DESYNC_CAUSE` -/
  cause : Nat
  /-- `OFFSET_US` -/
  offset : Int
  /-- `LAST_CONTACT_MS` -/
  lastContact : Nat
  /-- `HO_ASN` -/
  hoAsn : Nat
  /-- `UL_DSN` -/
  ulDsn : Nat
  /-- `DL_DSN` -/
  dlDsn : Nat
  /-- `UL_DSN_TIME_MS` -/
  ulDsnTime : Nat
  /-- `UL_FC_HIGH` -/
  ulFc : Nat
  /-- `UL_WINDOW` -/
  ulWin : Nat
  /-- `FC_FLAGS` -/
  fcFlags : Nat
  /-- `DL_FC_NEXT` -/
  dlFc : Nat
  /-- `TK_FC_HIGH` -/
  tkFc : Nat
  /-- `NODE_SEC_FAIL` -/
  secFail : Nat
  /-- `NODE_REPLAY` -/
  replay : Nat
  /-- `FRAMES_UP` -/
  framesUp : Nat
  /-- `FRAMES_DOWN` -/
  framesDown : Nat
  deriving DecidableEq, Repr

/-- What a transmission is for (R205, R263). -/
inductive TxKind where
  /-- Enh-Ack or Imm-Ack to a node -/
  | answer (record : Nat)
  | assocRsp (record : Nat)
  | beacon (tenant : Nat) (padded : Bool)
  /-- an attempt of the frame at the head of a node's queue -/
  | downlink (record : Nat)
  | broadcast (tenant : Nat) (handle : Option Nat) (report : Bool)
  /-- a symbol or announcement of a campaign (R405) -/
  | lacing (campaign : Nat)
  deriving DecidableEq, Repr

/-- Key under which a frame is secured (R386). -/
inductive KeyUse where
  | none
  | link (record : Nat)
  | tenant (tenant : Nat)
  deriving DecidableEq, Repr

/-- A frame before it is secured: the MHR up to the addresses, header IEs, the payload (with payload
IEs), and its key. -/
structure Draft where
  mhr : Bytes
  ies : Bytes
  payload : Bytes
  key : KeyUse
  deriving DecidableEq, Repr

/-- A transmission that Girth commits (R196). -/
structure TxReq where
  kind : TxKind
  port : Nat
  mode : Nat
  /-- carrier in kHz -/
  freq : Nat
  tenant : Nat
  draft : Draft
  /-- chain time of the first chip, ns -/
  due : Nat
  /-- chain time at which its transmit window ends, ns -/
  windowEnd : Nat
  /-- a power that Girth names, in half dB; none: `TXC_POWER_DBM` -/
  power : Option Int
  /-- code under which Cinch may refuse it (4 low class); none: a wake-up -/
  code : Option Nat
  /-- energy already granted, µJ (R262 step 7, R409) -/
  granted : Option Nat
  deriving DecidableEq, Repr

/-- A tile with islands: a receive tile or a transmit tile. -/
inductive Tile where
  | rx (n : Fin 64)
  | tx (n : Fin 16)
  /-- the island of a core (R539) -/
  | core (n : Fin 16)
  deriving DecidableEq, Repr

/-- What reaches a despreader in one symbol period: the soft chips after the tile's filter, and what its timing-error detector does
to the despread oscillator (R170 to R172). -/
structure RxSym where
  chips : List Int
  /-- change of the oscillator's frequency word, 0.1 ppm -/
  dWord : Int
  /-- oscillator cycles added less those removed, each 1/16 chip -/
  dPhase : Int
  deriving DecidableEq, Repr

/-- What one kind of calibration measured (R145, Table 5-8). -/
structure CalMeas where
  /-- in-band powers at the antenna connector with the loopback tone off, half dBm: before the kind and between its steps -/
  power : List Int
  /-- DC offset: residuals in 0.1 dBFS, one for each gain step; image: rejections in 0.1 dB, one for each gain step; filter: the
  corner's deviation from nominal in 0.01 % -/
  figure : List Int
  deriving DecidableEq, Repr

/-- The core that executes an instruction, and the core cycles that the instruction took beyond the count of its table: a cache
miss, a store buffer that drains, an access off the core (R457, R472, R473, R477). -/
structure CoreRun where
  n : Fin 16
  stall : Nat
  deriving DecidableEq, Repr

/-- A register that a write reaches. -/
inductive Reg where
  /-- BAR0 of the PCIe function (Tables 19-3, 19-4, R506, R507) -/
  | bar0 (off : BitVec 16)
  /-- BAR2 (Table 19-8) -/
  | bar2 (off : BitVec 15)
  /-- the core page of a core (Tables 18-10 and 19-2) -/
  | corePage (n : Fin 16) (off : BitVec 12)
  /-- the function mask of MSI-X (R507) -/
  | msixControl
  /-- a subentry of the dictionary (R63) -/
  | subentry (index : BitVec 16) (sub : BitVec 8)
  deriving DecidableEq, Repr

end Sys2Proof
end

