-- ==== Sys2Proof/Syntax.lean ====
section
/-! DEFINITION. The commands of the DXB-64: one constructor per row of the opcode table, with what the
command carries from outside the device. `dt` is the elapsed device time, in 4 ns cycles, since the
command before it (log 2). -/

namespace Sys2Proof

/-- A command of the block. -/
inductive Instr where
  /-- R10: The background scrubber reads a SECDED word on its 8 s SRAM or 24 h MRAM schedule and corrects it if needed. -/
  | scrubPass (mem : Mem) (addr unit : Nat) (err : MemErr) (clash : Bool)
  /-- R11: A bridge flit that fails its CRC is replayed. -/
  | bridgeFlitCrcFail (replays : Nat)
  /-- R21: A sample queue overflows, so the tile aborts its frame and reports SAMPLE_OVERRUN. -/
  | sampleOverrun (n : Fin 64)
  /-- R140: A tile takes a power request and starts its island sequence. -/
  | islandStart (t : Tile) (dt : Nat)
  /-- R140: The rail settles, the oscillators lock and the queues reset, so the tile is ON. -/
  | islandOn (t : Tile) (dt : Nat)
  /-- R140: A tile takes a stop request and waits for the queues on both sides to empty. -/
  | islandStop (t : Tile) (dt : Nat)
  /-- R140: With both queues empty, the clocks stop and the power switch opens, so the tile is OFF. -/
  | islandOff (t : Tile) (dt : Nat)
  /-- R141: The 10 µs ON or OFF dwell ends and a pending island request is served. -/
  | islandDwellEnd (t : Tile) (dt : Nat)
  /-- R27: Signal appears on a chain receive lane, so the port enters LOCKING and starts block alignment. -/
  | linkSignalDetected (p : Side)
  /-- R27: 64 consecutive valid sync headers take the port to HELLO, and it starts sending LINK frames. -/
  | linkLocked (p : Side)
  /-- R27: A LINK frame is received: it returns credits and, in HELLO, takes the port to UP or reports LEVEL_MISMATCH or WIRING_BAD. -/
  | linkFrameRx (p : Side) (m : LinkMsg)
  /-- R27: A port sends a LINK frame at least every 10 µs. -/
  | linkFrameTx (p : Side)
  /-- R27: Loss of signal, 16 invalid sync headers within 125 µs or 100 µs without a LINK frame takes the port to DOWN. -/
  | linkDown (p : Side)
  /-- R29: A chain frame is taken whole and is checked, routed, forwarded or dropped. -/
  | chainFrameRx (p : Side) (f : ChainFrame) (payload : Bytes) (crc : BitVec 32)
  /-- R34: The count of non-data blocks reaches CHAIN_IDLE_BLOCKS, or block lock is lost, so the partial frame is discarded. -/
  | chainFrameAbort (p : Side) (lane : Fin 4) (units blocks : Nat) (lockLost : Bool)
  /-- R31: A chain frame is sent once credits for the whole frame are held. -/
  | chainFrameTx (p : Side) (dt : Nat)
  /-- R37: A device handles SURVEY: it ranks, sets its pin bit, counts and forwards. -/
  | surveyRx (p : Side) (m : Survey)
  /-- R37: The SURVEY or DONE returns to the candidate, which takes address 0 and sends ASSIGN. -/
  | surveyReturn (p : Side) (m : Survey) (byDone : Bool)
  /-- R37: A device takes its pin or the offer from ASSIGN and forwards the next offer. -/
  | assignRx (p : Side) (m : Assign)
  /-- R40: ASSIGN or DONE returns to the head, which sets CHAIN_RING and broadcasts TOPO. -/
  | assignReturn (p : Side) (m : Assign) (byDone : Bool) (map : List TopoEntry)
  /-- R47: A device takes a TOPO frame and updates its routes, addresses and time neighbour. -/
  | topoRx (p : Side) (m : TopoMsg)
  /-- R43: The active head starts an incremental enumeration within 100 µs of a link reaching UP, unless a PREPARE defers it. -/
  | enumAutoStart
  /-- R42: A write of 1 to CHAIN_ENUM_CMD starts an incremental enumeration. -/
  | chainEnumIncremental
  /-- R42: A write of 2 to CHAIN_ENUM_CMD returns unpinned devices to 0xFF and enumerates anew. -/
  | chainEnumFull
  /-- R41: An enumeration pass exceeds 1 ms, so the head retries, and after three attempts reports ENUM_FAIL. -/
  | enumPassTimeout (map : List TopoEntry) (dt : Nat)
  /-- R44: The active head broadcasts HEAD every 1 ms. -/
  | headBroadcast
  /-- R46: A device takes a HEAD frame, including its relinquish flag and two-head resolution. -/
  | headRx (p : Side) (m : HeadMsg)
  /-- R44: A standby head misses CHAIN_HEAD_MISS HEAD frames and takes over. -/
  | headMissTakeover (dt : Nat)
  /-- R44: A write to CHAIN_SWITCHOVER hands the active role to the other head. -/
  | chainSwitchover
  /-- R51: A link starts its 125 ms delay measurement with DELAY_REQ. -/
  | delayMeasure (p : Side) (t1 : Nat)
  /-- R51: A DELAY_REQ is received and answered with DELAY_RSP. -/
  | delayReqRx (p : Side) (t1 t2 t3 : Nat)
  /-- R51: A DELAY_RSP completes the four stamps and updates LINK_DELAY_NS. -/
  | delayRspRx (p : Side) (t1 t2 t3 t4 : Nat)
  /-- R52: A device sends its time in a TIME frame 16 times per second. -/
  | timeFrameTx (p : Side)
  /-- R441: An accepted TIME frame is one sample for the servo, which may step the counter or refuse the sample. -/
  | timeFrameRx (p : Side) (m : TimeMsg) (dt : Nat)
  /-- R54: A requester issues a remote Saddlebag request, or refuses it locally. -/
  | sbReqIssue (r : SbReq)
  /-- R306: A target serves an SB_REQ or refuses it. -/
  | sbReqRx (p : Side) (src tag : Nat) (r : SbReq)
  /-- R55: An SB_RSP completes its open request, or is discarded when late. -/
  | sbRspRx (tag : Nat) (code : SbCode) (bytes : Bytes)
  /-- R55: No SB_RSP arrives within CHAIN_SB_TIMEOUT_US, so the request fails. -/
  | sbTimeout (tag dt : Nat)
  /-- R63: A dictionary READ access frame returns the values of SUBCOUNT subentries. -/
  | read (via : Via) (a : Access)
  /-- R70: A dictionary WRITE checks, clamps or rejects, and applies its subentries at one instant or stages RWE values. -/
  | write (via : Via) (a : Access)
  /-- R82: A READ_BLOCK returns bytes of a DOMAIN object from OFFSET. -/
  | readBlock (via : Via) (a : Access)
  /-- R82: A WRITE_BLOCK opens, extends or ends a staging copy of a DOMAIN object, with the content check at LAST. -/
  | writeBlock (via : Via) (a : Access)
  /-- R87: A PREPARE checks the epoch and the staged values and moves the transaction to PREPARED. -/
  | prepare (via : Via) (a : Access)
  /-- R87: A COMMIT arms a prepared transaction, or applies it at once when late, or is answered from the record. -/
  | commit (via : Via) (a : Access)
  /-- R87: An ABORT discards the transaction, or a DOMAIN staging copy when TXN is 0. -/
  | abort (via : Via) (a : Access)
  /-- R81: A NOTIFY request subscribes to or unsubscribes from a subentry. -/
  | notify (via : Via) (a : Access)
  /-- R81: A subscribed value or RES sequence changes, and an event is sent at most once per interval. -/
  | notifyEventSend (slot dt : Nat)
  /-- R80: No response arrives within DICT_TIMEOUT_US, so the requester resends, or the head returns TIMEOUT. -/
  | dictRetryTimeout (slot : Nat) (dt : Nat)
  /-- R75: A requester or the forwarding head takes the response to an access frame. -/
  | dictResponseRx (src : Nat) (a : Access)
  /-- R82: No block arrives for DICT_BLOCK_IDLE_MS, so the staging copy is abandoned. -/
  | blockIdleExpiry (origin key dt : Nat)
  /-- R87: An OPEN transaction idles for DICT_TXN_IDLE_MS and is discarded with TXN_EXPIRED. -/
  | txnIdleExpiry (dt : Nat)
  /-- R87: A PREPARED transaction reaches E plus DICT_COMMIT_GRACE_MS and is discarded. -/
  | commitGraceExpiry (dt : Nat)
  /-- R451: Chain time reaches the epoch of an ARMED transaction, and every staged subentry applies at one instant. -/
  | epochApply (dt : Nat)
  /-- R93: The dual-map grace ends at the end of the second whole slotframe, and the old map is no longer received. -/
  | graceEnd (tenant dt : Nat)
  /-- R67: A write of 1 to DICT_STORE_CMD copies the present values into bank C as stored defaults. -/
  | dictStore
  /-- R67: A write of 2 to DICT_STORE_CMD erases all stored defaults. -/
  | dictErase
  /-- R67: The bank C write ends and DICT_STORE_RES takes its outcome. -/
  | dictStoreDone (ok : Bool)
  /-- R94: A CLAMP_LOG_CLEAR command zeroes the clamp log and CLAMP_LOG_NEXT. -/
  | clampLogClear
  /-- R103: An ERR_LOG_CLEAR command zeroes the error log and ERR_LOG_NEXT. -/
  | errLogClear
  /-- R63: A write to a register or subentry that has no behaviour of its own takes effect. -/
  | registerWrite (r : Reg) (v : Nat)
  /-- R134: A PORT_STATE_CMD starts a path of the port towards the commanded state. -/
  | portStateCmd (p : Fin 4) (t : Fin 5)
  /-- R130: A port completes one state transition and reaches a safe point. -/
  | portTransitionDone (p : Fin 4) (locked : Bool) (out : List CalMeas) (measured : Bytes) (dt : Nat)
  /-- R135: The SLEEP or STANDBY dwell ends, and a pending port request starts. -/
  | portDwellEnd (p : Fin 4) (dt : Nat)
  /-- R137: A synthesiser loses lock, so transmissions ramp down and the port goes to SYNTH. -/
  | synthLockLost (p : Fin 4)
  /-- R137: A relock attempt ends: success resumes the former state, and a third failure leaves the port in STANDBY with SYNTH_UNLOCK. -/
  | synthRelockDone (p : Fin 4) (locked : Bool) (dt : Nat)
  /-- R138: A new port centre applies once the transmissions on air end, and the port retunes. -/
  | retuneStart (p : Fin 4)
  /-- R146: A CAL_CMD write starts calibration of the named kinds on a port. -/
  | calCmd (v : BitVec 8)
  /-- R147: CAL_INTERVAL_S elapses for a port in RX, and a periodic run of all four kinds starts. -/
  | calPeriodic (p : Fin 4) (dt : Nat)
  /-- R143: An island DCO is measured, or the crystal trim is made. -/
  | oscCalMeasure (which : Fin 41) (measured : Bytes) (dt : Nat)
  /-- R144: An eligible slot boundary opens the 6.5 ms blind window. -/
  | calWindowOpen (dt : Nat)
  /-- R145: The blind window ends, and coefficients that passed replace the old ones per kind. -/
  | calWindowEnd (out : List CalMeas) (measured : Bytes) (dt : Nat)
  /-- R144: No window opens within 60 s, so the blind kinds end with CAL_NO_WINDOW. -/
  | calNoWindow (dt : Nat)
  /-- R152: A write of 0xA5 to STAMP_LOCK_CMD programs the records into fuses and blows the lock fuse. -/
  | stampLock
  /-- R152: The fuse programming ends and STAMP_LOCK_RES takes its outcome. -/
  | stampLockDone (ok : Bool)
  /-- R156: A measurable burst ends its steady part, and forward and reflected power update the antenna state. -/
  | pdMeasure (p : Fin 4) (fwd ref : Int) (dt : Nat)
  /-- R157: 10 s pass without a measurable burst, so the port becomes starved. -/
  | portStarved (p : Fin 4) (dt : Nat)
  /-- R166: A listening tile's strength reaches the threshold, so the tile enters detected and freezes its gain. -/
  | rxDetect (n : Fin 64) (level : Int) (dt : Nat)
  /-- R169: Two consecutive preamble symbols reach the qualifier, so RX_DETECT counts and AFC starts. -/
  | qualifierConfirm (n : Fin 64) (s1 s2 : List Int) (est : Int) (dt : Nat)
  /-- R176: No confirmation comes within 4 symbol periods, and the tile returns to listening. -/
  | detectTimeout (n : Fin 64) (dt : Nat)
  /-- R176: The SFD is found: AFC freezes, the stamp is taken, and the tile enters receiving. -/
  | sfdFound (n : Fin 64) (sfd : List (List Int)) (word phase fofs : Int) (dt : Nat)
  /-- R174: No SFD comes within 40 symbol periods of qualification, and RX_DESPREAD_TIMEOUT counts. -/
  | sfdTimeout (n : Fin 64) (dt : Nat)
  /-- R173: The PHR is decoded, and a length of 0 to 4 ends the frame with RX_FCS_ERR. -/
  | phrRx (n : Fin 64) (syms : List RxSym) (dt : Nat)
  /-- R174: 8 symbol periods pass without correlation, and the receiving tile ends its frame. -/
  | despreadTimeout (n : Fin 64) (syms : List RxSym) (dt : Nat)
  /-- R173: The last chip of the PSDU ends the frame, which goes to the checks. -/
  | rxFrameEnd (n : Fin 64) (syms : List RxSym) (rssi : Int) (haBad : Nat) (dt : Nat)
  /-- R180: A preamble at least 6 dB stronger captures the tile, and the abandoned frame becomes a candidate. -/
  | capture (n : Fin 64) (s1 s2 : List Int) (level : Int) (chips : Nat) (est : Int) (sofar : List RxSym) (dt : Nat)
  /-- R180: The secondary correlator records a preamble at least 6 dB weaker as a candidate. -/
  | lateArrival (n : Fin 64) (s1 s2 : List Int) (level : Int) (chips dt : Nat)
  /-- R168: An ADC at full scale forces a port gain step down, compensated in the tiles. -/
  | adcClipGainStep (p : Fin 4)
  /-- R167: The port front-end gain changes while no tile is detected or receiving. -/
  | portGainStep (p : Fin 4) (step : Fin 32) (dt : Nat)
  /-- R164: A tile reaches its safe point and takes its new placement. -/
  | placementChange (n : Fin 64)
  /-- R184: A free engine takes the oldest queued candidate and starts subtracting. -/
  | backstitchEngineStart (dt : Nat)
  /-- R183: A candidate waits 1.0 ms without an engine and fails. -/
  | backstitchQueueTimeout (dt : Nat)
  /-- R184: The candidate's frame ends, and the recovered frame goes to the checks, or the attempt fails. -/
  | backstitchFrameEnd (e : Fin 8) (sfd : List (List Int)) (syms : List RxSym) (stamp : Nat) (fofs rssi : Int) (haBad : Nat) (dt : Nat)
  /-- R197: Girth commits a transmission, and the checks take a tile or end it with an outcome. -/
  | txCommit (q : TxReq) (dt : Nat)
  /-- R200: The listen before talk is due, and the tile listens on its channel. -/
  | lbtListenDue (n : Fin 16) (dt : Nat)
  /-- R200: The listen ends: a clear channel starts RX to TX, and a busy one withholds the frame. -/
  | lbtListenEnd (n : Fin 16) (blocks : List Int) (dt : Nat)
  /-- R199: The ramp is due: checks 3 and 4 run again, the cap applies, and power is granted. -/
  | rampDue (n : Fin 16) (dt : Nat)
  /-- R198: A transmission waiting on the cap reaches the end of its transmit window with TX_CINCH_DEFER. -/
  | txWindowEnd (n : Fin 16) (dt : Nat)
  /-- R207: Ramp-up ends at the first chip, and the tile is sending. -/
  | rampUpEnd (n : Fin 16) (dt : Nat)
  /-- R207: The last chip is sent, and ramp-down starts. -/
  | lastChip (n : Fin 16) (dt : Nat)
  /-- R205: Ramp-down ends, the report is issued and the tile is off. -/
  | rampDownEnd (n : Fin 16) (dt : Nat)
  /-- R201: One minute of elapsed time advances the hourly duty buckets. -/
  | dutyBucketAdvance (dt : Nat)
  /-- R222: A beacon slot commits the tenant's enhanced beacons, with padding when starved. -/
  | beaconSend (f : Fin 32) (dt : Nat)
  /-- R229: An association request is answered, or posts ASSOC_UNKNOWN. -/
  | assocRequestRx (t : Fin 256) (eui : Nat) (p : Fin 4) (mode freq : Nat) (dsn dt : Nat)
  /-- R224: A node's acknowledgement of a downlink is accepted, and the head leaves its queue. -/
  | dlAckRx (r : Fin 16384) (dsn : Nat) (offset : Int) (dt : Nat)
  /-- R227: No acknowledgement arrives in the window, so the attempt fails, possibly leaving the frame undelivered and the node DESYNC. -/
  | dlAckTimeout (r : Fin 16384) (dt : Nat)
  /-- R228: A broadcast is sent once in the tenant's next shared cell. -/
  | broadcastDownlink (t : Fin 256) (dt : Nat)
  /-- R233: A compatibility node's guard reaches G, and the node enters DESYNC with cause 1. -/
  | guardLimit (r : Fin 16384) (dt : Nat)
  /-- R238: The peer firmware confirms the handover records, and the state transfer is sent. -/
  | handoverConfirm (r : Fin 16384) (ok : Bool) (pan : BitVec 16)
  /-- R239: Device B takes and stages the state transfer. -/
  | handoverStateRx (r : Fin 16384) (hw : NodeHw)
  /-- R239: Device A sends the Handover IE in the node's next downlink cell. -/
  | handoverIeSend (r : Fin 16384) (dt : Nat)
  /-- R239: At H, A sends the final state and held frames, frees its record and posts HO_DONE. -/
  | handoverHReached (r : Fin 16384) (dt : Nat)
  /-- R393: B takes the final state, merges the windows and serves the node. -/
  | handoverFinalRx (r : Fin 16384) (hw : NodeHw) (dt : Nat)
  /-- R239: 60 s after H, A stops passing the node's downlinks to B. -/
  | handoverForwardEnd (dt : Nat)
  /-- R241: A handover is abandoned, and both devices post HO_FAIL. -/
  | handoverAbandon (r : Fin 16384)
  /-- R249: The 1 ms timing wheel tick opens buckets and fires due entries. -/
  | wheelTick (farOk : Bool) (dt : Nat)
  /-- R252: A level-2 bucket opens, and far entries due in the new span move into the wheel. -/
  | farListMove (ok : Bool) (dt : Nat)
  /-- R262: At the planning instant of a downlink cell, the scheduler decides and commits its delivery. -/
  | downlinkCellPlanning (r : Fin 16384) (dt : Nat)
  /-- R262: At the planning instant of an uplink cell, the cell is marked a scheduled reception. -/
  | uplinkCellPlanning (r : Fin 16384) (dt : Nat)
  /-- R256: A node cell ends and the node is charged to its ledger. -/
  | cellEndCharge (r : Fin 16384) (dt : Nat)
  /-- R253: The scheduler rebuilds node entries from the records. -/
  | schedRebuild
  /-- R257: A changed SCHED_DAY_START_S takes effect at the first new day start at least 1 s after the write. -/
  | dayStartChange (dt : Nat)
  /-- R267: Each 1 ms Cinch tick adds the budget, subtracts consumption and moves the shedding positions. -/
  | cinchTick (pCont : Nat) (tj : List Int)
  /-- R273: An input takes a frame whole, then parses, classifies, looks up, polices, copies and admits it. -/
  | harnessFrameIn (h : Fin 12) (m : InMeta) (bytes : Bytes) (hit : TableHit) (dt : Nat)
  /-- R287: An output serves its highest eligible queue and converts the frame. -/
  | outputDequeue (h : Fin 12) (bad : Option Nat) (dt : Nat)
  /-- R289: A down output discards the frame at the head of each of its queues. -/
  | outputLinkDownDiscard (h : Fin 12)
  /-- R291: A spill write to the Saddlebag completes, and the copy's on-die cells are freed. -/
  | spillWriteDone (h : Fin 12) (c : Fin 8) (ok : Bool)
  /-- R290: A SPILLED queue below 128 cells fetches spilled frames back and returns to ON_DIE after the last. -/
  | spillFetch (h : Fin 12) (c : Fin 8)
  /-- R361: A shaping calendar slot fires and the queue becomes eligible or is re-entered. -/
  | shaperCalendarFire (dt : Nat)
  /-- R364: At each 2^k µs instant, a tenant's depth and delay item is written to queue 3. -/
  | curbSample (tenant : Fin 256) (dt : Nat)
  /-- R299: Training of the CXL link starts at reset, or 1 s after the link went down. -/
  | cxlTrainingStart (dt : Nat)
  /-- R299: The link is trained and enumerated: SB_ATTACHED is set and the layout checked. -/
  | cxlTrained (expanders : List Nat) (lanes rate : Nat) (dt : Nat)
  /-- R299: Training does not finish within 500 ms, and the link goes down. -/
  | cxlTrainTimeout (dt : Nat)
  /-- R299: The link layer starts a retrain, and new requests wait. -/
  | cxlRetrainStart
  /-- R299: The link comes up within 50 ms, and outstanding requests are replayed. -/
  | cxlRetrainDone (dt : Nat)
  /-- R320: The retrain exceeds 50 ms: the link goes down and Saddlebag users lose their contents. -/
  | cxlRetrainFail (dt : Nat)
  /-- R300: A Saddlebag word access completes, including media-error handling. -/
  | sbAccessDone (k : Nat) (mediaErr : Bool)
  /-- R312: A producer offers an item to a strap queue, which accepts it or refuses it with a welt. -/
  | strapPush (q : Fin 64) (words : Nat) (data : Bytes)
  /-- R310: Tail words are written to the queue's middle. -/
  | strapMiddleWrite (q : Fin 64) (dt : Nat)
  /-- R310: Words of whole items are read from the middle into the head ring. -/
  | strapMiddleRead (q : Fin 64) (fails : List WordFail)
  /-- R313: An open welt closes after 1 ms without a drop. -/
  | weltClose (q : Fin 64) (r : Nat) (dt : Nat)
  /-- R319: The duplicate pointers disagree, and the queue is reset with a welt. -/
  | pointerMismatch (q : Fin 64) (r : Nat)
  /-- R315: Girth takes a downlink copy into the node's queue, cache or ring, or drops it at the limit. -/
  | downlinkEnqueue (r : Fin 16384) (f : NodeFrame)
  /-- R315: A queue head is read into the head cache at the planning instant. -/
  | downlinkHeadRead (r : Fin 16384) (fails : List WordFail)
  /-- R315: A head read not done 1 ms after planning leaves the cell missed. -/
  | headReadTimeout (r : Fin 16384) (dt : Nat)
  /-- R317: Once a path exists, held frames are admitted to the chain output in order. -/
  | holdDrain
  /-- R321: A journal record write completes, advancing SB_JOURNAL_SEQ. -/
  | journalRecordCommit (seq : Nat)
  /-- R321: The journal header is rewritten every 1 s. -/
  | journalHeaderRewrite (dt : Nat)
  /-- R340: A Bridle insert builds the new trie words and makes them reachable in one write. -/
  | brInsert (rewritten : List (Nat × Nat))
  /-- R340: A Bridle delete removes a prefix. -/
  | brDelete (rewritten : List (Nat × Nat))
  /-- R337: A Bridle read returns the result of a prefix. -/
  | brRead (bad : Option (Nat × Nat))
  /-- R340: A Bridle flush removes an instance's prefixes of one family. -/
  | brFlush (rewritten : List (Nat × Nat))
  /-- R330: A next-hop entry is written. -/
  | nhWrite
  /-- R330: A copy list is written. -/
  | clWrite
  /-- R342: A Halter insert writes, rewrites or evicts an entry. -/
  | haInsert (bad : Nat)
  /-- R341: A Halter delete frees an entry and pulls an overflow entry into the way. -/
  | haDelete (bad : Nat)
  /-- R337: A Halter read returns an entry and its place. -/
  | haRead (bad : Nat)
  /-- R337: A bucket read returns four ways and the overflow entries. -/
  | haReadBucket (bad : Nat)
  /-- R336: Every 4,096 s each valid entry's AGE rises by one. -/
  | halterAgeing (dt : Nat)
  /-- R381: A Keeper operation generates a key into a slot. -/
  | kGenerate
  /-- R378: A Keeper operation derives a key from a parent slot. -/
  | kDerive
  /-- R380: A Keeper operation imports a plain or wrapped key. -/
  | kImport
  /-- R380: A Keeper operation exports an exportable key wrapped. -/
  | kExport
  /-- R373: A Keeper operation invalidates a slot and orphans its descendants. -/
  | kInvalidate
  /-- R381: A Keeper operation returns a slot's attribute block. -/
  | kReadAttr
  /-- R383: A Keeper operation wraps a link key under slot 1 for a node record. -/
  | kLinkWrap
  /-- R373: After an invalidation, orphaned descendants are freed and KEEPER_SLOTS_USED is updated. -/
  | orphanSweep
  /-- R370: A KEEPER_PROVISION command generates a new root and enters keyed. -/
  | keeperProvision
  /-- R384: An ATTEST_CMD write produces a signed statement for a slot. -/
  | attest
  /-- R367: An enabled tamper source zeroes the root from VBAT and records the causes. -/
  | tamperDetect (x : TamperSense)
  /-- R368: The tamper report reaches the fabric: slots are cleared, frames fail and TAMPER_ZEROISED is posted. -/
  | tamperReport
  /-- R369: VBAT falls below 1.70 V and the root is zeroed without the tamper flag. -/
  | vbatLowZero
  /-- R398: CAMP_CMD 1 starts loading a campaign. -/
  | campStart (k : Fin 16)
  /-- R398: CAMP_CMD 2 pauses a running campaign. -/
  | campPause (k : Fin 16)
  /-- R398: CAMP_CMD 3 resumes a paused campaign. -/
  | campResume (k : Fin 16)
  /-- R398: CAMP_CMD 4 stops a campaign and queues cancels. -/
  | campStop (k : Fin 16)
  /-- R399: Loading ends: checks pass into running with targets resolved, or the run fails. -/
  | campLoadDone (k : Fin 16) (got : Bytes) (bad : Option Nat) (dt : Nat)
  /-- R401: A target silent for ANNOUNCE_S is announced again. -/
  | announceResend (k : Fin 16) (r : Fin 16384) (dt : Nat)
  /-- R409: At the burst planning instant, contents are fixed, blocks read and a Cinch grant asked. -/
  | burstPlanning (k : Fin 16) (got : Bytes) (bad : List Nat) (dt : Nat)
  /-- R410: The engine takes a node report from queue 5 and updates NEED. -/
  | laceReportTake
  /-- R398: The campaign deadline ends it as complete or failed. -/
  | campDeadline (k : Fin 16) (dt : Nat)
  /-- R412: Image reads fail for 60 s, and the campaign fails. -/
  | laceReadFail (k : Fin 16) (dt : Nat)
  /-- R425: TREE_SWITCH_CMD checks the inactive bank, arms it and makes a warm reset. -/
  | treeSwitch
  /-- R427: SEAT_OK closes the seat window and makes the bank SEATED. -/
  | seatOk
  /-- R428: The seat window expires and the device falls back to the previous bank. -/
  | seatWindowExpiry (dt : Nat)
  /-- R419: BANK_WIPE_CMD starts erasing a bank, or fails with BANK_BUSY. -/
  | bankWipe (b : Fin 2)
  /-- R419: The bank erase completes and the bank is BLANK. -/
  | bankWipeDone
  /-- R437: TIME_STEP_NS steps the counter, or is refused. -/
  | timeStep (delta : Int)
  /-- R437: TIME_SET sets the counter to an absolute time. -/
  | timeSet (sec : Fin 281474976710656) (ns : Fin 1000000000)
  /-- R446: A Sync with its Delay_Req exchange gives one IEEE 1588 sample to the servo. -/
  | ptpSample (x : PtpExchange) (dt : Nat)
  /-- R435: No sample is accepted for 4 intervals, so the device enters holdover. -/
  | holdoverTimeout (dt : Nat)
  /-- R434: While locked, the seconds are written to the RTC at each carry. -/
  | rtcWrite (dt : Nat)
  /-- R432: A snapshot request latches seconds and nanoseconds in one cycle. -/
  | timeSnapshot (dt : Nat)
  /-- R449: A write of TPO_MODE arms or disarms a pulse output. -/
  | tpoArm (k : Fin 4) (mode : Fin 3)
  /-- R449: A write of TPO_START, TPO_PERIOD_NS or TPO_WIDTH_NS re-arms the output. -/
  | tpoParamWrite (k : Fin 4) (start : Time80) (periodNs widthNs : Nat)
  /-- R448: The counter reaches a pulse instant and the output rises. -/
  | tpoRise (k : Fin 4) (dt : Nat)
  /-- R448: TPO_WIDTH_NS of elapsed time passes and the pulse falls. -/
  | tpoFall (k : Fin 4) (dt : Nat)
  /-- R457: ALU ADD. -/
  | add (r : CoreRun) (rd ra rb : Fin 32)
  /-- R457: ALU SUB. -/
  | sub (r : CoreRun) (rd ra rb : Fin 32)
  /-- R457: ALU AND. -/
  | and (r : CoreRun) (rd ra rb : Fin 32)
  /-- R457: ALU OR. -/
  | or (r : CoreRun) (rd ra rb : Fin 32)
  /-- R457: ALU XOR. -/
  | xor (r : CoreRun) (rd ra rb : Fin 32)
  /-- R457: ALU shift left logical by rb. -/
  | sll (r : CoreRun) (rd ra rb : Fin 32)
  /-- R457: ALU shift right logical by rb. -/
  | srl (r : CoreRun) (rd ra rb : Fin 32)
  /-- R457: ALU shift right arithmetic by rb. -/
  | sra (r : CoreRun) (rd ra rb : Fin 32)
  /-- R457: ALU signed compare less than. -/
  | cmplt (r : CoreRun) (rd ra rb : Fin 32)
  /-- R457: ALU unsigned compare less than. -/
  | cmpltu (r : CoreRun) (rd ra rb : Fin 32)
  /-- R457: ALU multiply, low word. -/
  | mul (r : CoreRun) (rd ra rb : Fin 32)
  /-- R457: ALU multiply, high word signed. -/
  | mulh (r : CoreRun) (rd ra rb : Fin 32)
  /-- R457: ALU multiply, high word unsigned. -/
  | mulhu (r : CoreRun) (rd ra rb : Fin 32)
  /-- R457: ALU signed divide. -/
  | div (r : CoreRun) (rd ra rb : Fin 32)
  /-- R457: ALU unsigned divide. -/
  | divu (r : CoreRun) (rd ra rb : Fin 32)
  /-- R457: ALU signed remainder. -/
  | rem (r : CoreRun) (rd ra rb : Fin 32)
  /-- R457: ALU unsigned remainder. -/
  | remu (r : CoreRun) (rd ra rb : Fin 32)
  /-- R457: ALU signed minimum. -/
  | min (r : CoreRun) (rd ra rb : Fin 32)
  /-- R457: ALU signed maximum. -/
  | max (r : CoreRun) (rd ra rb : Fin 32)
  /-- R457: ALU unsigned minimum. -/
  | minu (r : CoreRun) (rd ra rb : Fin 32)
  /-- R457: ALU unsigned maximum. -/
  | maxu (r : CoreRun) (rd ra rb : Fin 32)
  /-- R457: ALU count leading zeros. -/
  | clz (r : CoreRun) (rd ra : Fin 32)
  /-- R457: ALU population count. -/
  | popc (r : CoreRun) (rd ra : Fin 32)
  /-- R457: ALU byte swap. -/
  | bswap (r : CoreRun) (rd ra : Fin 32)
  /-- R457: Add immediate. -/
  | addi (r : CoreRun) (rd ra : Fin 32) (imm : BitVec 16)
  /-- R457: AND with zero-extended immediate. -/
  | andi (r : CoreRun) (rd ra : Fin 32) (imm : BitVec 16)
  /-- R457: OR with zero-extended immediate. -/
  | ori (r : CoreRun) (rd ra : Fin 32) (imm : BitVec 16)
  /-- R457: XOR with zero-extended immediate. -/
  | xori (r : CoreRun) (rd ra : Fin 32) (imm : BitVec 16)
  /-- R457: Signed compare with immediate. -/
  | cmplti (r : CoreRun) (rd ra : Fin 32) (imm : BitVec 16)
  /-- R457: Unsigned compare with immediate. -/
  | cmpltiu (r : CoreRun) (rd ra : Fin 32) (imm : BitVec 16)
  /-- R457: Shift left logical by immediate. -/
  | shiSll (r : CoreRun) (rd ra : Fin 32) (k : BitVec 5)
  /-- R457: Shift right logical by immediate. -/
  | shiSrl (r : CoreRun) (rd ra : Fin 32) (k : BitVec 5)
  /-- R457: Shift right arithmetic by immediate. -/
  | shiSra (r : CoreRun) (rd ra : Fin 32) (k : BitVec 5)
  /-- R457: Rotate right by immediate. -/
  | shiRor (r : CoreRun) (rd ra : Fin 32) (k : BitVec 5)
  /-- R457: Load the immediate into the high half. -/
  | ldhi (r : CoreRun) (rd : Fin 32) (imm : BitVec 16)
  /-- R457: Add the shifted immediate to pc. -/
  | addpch (r : CoreRun) (rd : Fin 32) (imm : BitVec 16)
  /-- R457: Load a sign-extended byte. -/
  | lb (r : CoreRun) (rd ra : Fin 32) (imm : BitVec 16) (err : MemErr)
  /-- R457: Load a zero-extended byte. -/
  | lbu (r : CoreRun) (rd ra : Fin 32) (imm : BitVec 16) (err : MemErr)
  /-- R457: Load a sign-extended halfword. -/
  | lh (r : CoreRun) (rd ra : Fin 32) (imm : BitVec 16) (err : MemErr)
  /-- R457: Load a zero-extended halfword. -/
  | lhu (r : CoreRun) (rd ra : Fin 32) (imm : BitVec 16) (err : MemErr)
  /-- R457: Load a word. -/
  | lw (r : CoreRun) (rd ra : Fin 32) (imm : BitVec 16) (err : MemErr)
  /-- R470: Store a byte. -/
  | sb (r : CoreRun) (rs ra : Fin 32) (imm : BitVec 16) (err : MemErr)
  /-- R470: Store a halfword. -/
  | sh (r : CoreRun) (rs ra : Fin 32) (imm : BitVec 16) (err : MemErr)
  /-- R470: Store a word. -/
  | sw (r : CoreRun) (rs ra : Fin 32) (imm : BitVec 16)
  /-- R473: Atomic swap. -/
  | amoSwap (r : CoreRun) (rd ra rb : Fin 32) (err : MemErr)
  /-- R473: Atomic add. -/
  | amoAdd (r : CoreRun) (rd ra rb : Fin 32) (err : MemErr)
  /-- R473: Atomic AND. -/
  | amoAnd (r : CoreRun) (rd ra rb : Fin 32) (err : MemErr)
  /-- R473: Atomic OR. -/
  | amoOr (r : CoreRun) (rd ra rb : Fin 32) (err : MemErr)
  /-- R473: Atomic XOR. -/
  | amoXor (r : CoreRun) (rd ra rb : Fin 32) (err : MemErr)
  /-- R473: Atomic unsigned maximum. -/
  | amoMaxu (r : CoreRun) (rd ra rb : Fin 32) (err : MemErr)
  /-- R457: Branch if equal. -/
  | beq (r : CoreRun) (ra rb : Fin 32) (off : BitVec 16)
  /-- R457: Branch if not equal. -/
  | bne (r : CoreRun) (ra rb : Fin 32) (off : BitVec 16)
  /-- R457: Branch if signed less. -/
  | blt (r : CoreRun) (ra rb : Fin 32) (off : BitVec 16)
  /-- R457: Branch if signed greater or equal. -/
  | bge (r : CoreRun) (ra rb : Fin 32) (off : BitVec 16)
  /-- R457: Branch if unsigned less. -/
  | bltu (r : CoreRun) (ra rb : Fin 32) (off : BitVec 16)
  /-- R457: Branch if unsigned greater or equal. -/
  | bgeu (r : CoreRun) (ra rb : Fin 32) (off : BitVec 16)
  /-- R457: Jump. -/
  | j (r : CoreRun) (off : BitVec 26)
  /-- R457: Call, setting lk. -/
  | call (r : CoreRun) (off : BitVec 26)
  /-- R457: Jump to register. -/
  | jr (r : CoreRun) (ra : Fin 32)
  /-- R457: Call through a register. -/
  | callr (r : CoreRun) (ra : Fin 32)
  /-- R457: Return to lk. -/
  | ret (r : CoreRun)
  /-- R459: Arm a hardware loop with a register count. -/
  | loop (r : CoreRun) (n : Fin 4) (ra : Fin 32) (stop : BitVec 12)
  /-- R459: Arm a hardware loop with an immediate count. -/
  | loopi (r : CoreRun) (n : Fin 4) (count stop : BitVec 12)
  /-- R457: Take a cause 7 exception. -/
  | trap (r : CoreRun) (imm : BitVec 16)
  /-- R455: Read a control register. -/
  | getc (r : CoreRun) (rd : Fin 32) (num : BitVec 16)
  /-- R455: Write a control register. -/
  | setc (r : CoreRun) (ra : Fin 32) (num : BitVec 16)
  /-- R473: Complete when the store buffer is empty. -/
  | fence (r : CoreRun)
  /-- R473: Drain the store buffer and discard the instruction cache and prefetch. -/
  | fenceI (r : CoreRun)
  /-- R468: Return from an exception and re-execute XPC. -/
  | xret (r : CoreRun)
  /-- R468: Return from an exception and complete the instruction at XPC. -/
  | xretc (r : CoreRun)
  /-- R469: Stop fetching until a targeted source is pending. -/
  | wait (r : CoreRun)
  /-- R469: A pending source ends WAIT. -/
  | waitWake (r : CoreRun)
  /-- R457: Take a cause 8 exception. -/
  | brk (r : CoreRun)
  /-- R469: Drain stores and halt the core. -/
  | halt (r : CoreRun)
  /-- R458: A reserved word traps to the emulation vector. -/
  | reservedInstruction (r : CoreRun) (word : BitVec 32)
  /-- R467: A core takes a pending unmasked interrupt between instructions. -/
  | interruptTake (n : Fin 16)
  /-- R472: A buffered store drains to local memory. -/
  | storeBufferDrain (n : Fin 16)
  /-- R475: The power sequencer asks the cores to stop, drain and acknowledge. -/
  | coreStopRequest (dt : Nat)
  /-- R479: CORE_RUN_CMD 1 starts an extension core. -/
  | coreStart (k : Fin 4)
  /-- R479: CORE_RUN_CMD 2 stops an extension core. -/
  | coreStop (k : Fin 4)
  /-- R477: A core submits an access frame through its dictionary server port. -/
  | dictPortSubmit (n : Fin 16) (len : BitVec 32)
  /-- R477: A write of the word count pushes an item to a strap queue. -/
  | strapPortPush (n : Fin 16) (q : Fin 64) (words : BitVec 32)
  /-- R477: A read pops the oldest item into the window. -/
  | strapPortPop (who : Fin 17) (q : Fin 64)
  /-- R483: A frame for HP9 is written to a core's receive ring, or dropped. -/
  | hp9RxDeliver
  /-- R482: The Harness takes a frame from a core's transmit ring. -/
  | hp9TxTake (n : Fin 16) (dt : Nat)
  /-- R486: An edge source is assigned by round robin, merged or discarded, and counted. -/
  | buckleEdge (src : Fin 256)
  /-- R486: A level source rises and becomes pending in one core. -/
  | buckleLevelRise (src : Fin 256)
  /-- R487: A cleared level still held is assigned again. -/
  | levelReassign (src : Fin 256)
  /-- R491: A write replaces a pending word, possibly losing edges. -/
  | pendingWrite (n : Fin 16) (w : Fin 8) (v : BitVec 32)
  /-- R491: A write replaces a mask word. -/
  | maskWrite (n : Fin 16) (w : Fin 8) (v : BitVec 32)
  /-- R489: A core raises one of sources 240 to 255. -/
  | awlBuckleRaise (n : Fin 16) (v : BitVec 8)
  /-- R489: A core sets host cause 72 plus the value. -/
  | awlHostRaise (n : Fin 16) (v : Fin 8)
  /-- R495: The host raises one of sources 224 to 239. -/
  | hifBuckleRaise (v : BitVec 8)
  /-- R494: The PCIe link goes down, resetting the host interface. -/
  | pcieLinkDown
  /-- R493: The PCIe link comes up, and head candidacy returns. -/
  | pcieLinkUp
  /-- R494: A Function Level Reset or hot reset resets the host interface. -/
  | functionLevelReset
  /-- R497: The host gives receive entries by writing the tail. -/
  | rxRingTailWrite (n : Fin 32) (v : BitVec 12)
  /-- R501: The host queues transmit entries by writing the tail. -/
  | txRingTailWrite (n : Fin 32) (v : BitVec 12)
  /-- R496: A receive ring size write enables or disables the ring. -/
  | rxRingSizeWrite (n : Fin 32) (k : BitVec 4)
  /-- R496: A transmit ring size write starts or stops the ring. -/
  | txRingSizeWrite (n : Fin 32) (k : BitVec 4)
  /-- R499: A frame leaving HP8 is written into its receive ring. -/
  | hostRxFrame (ds : List RxDesc) (dt : Nat)
  /-- R501: The device fetches a frame from a transmit ring and decides it. -/
  | txFrameFetch (n : Fin 32) (ds : List (BitVec 512)) (data : Bytes) (dt : Nat)
  /-- R502: A failed DMA completion stops its ring. -/
  | dmaError (rx : Bool) (n : Fin 32) (addr : BitVec 64)
  /-- R505: A directed frame's outcome is final and its report record is written. -/
  | reportRecordWrite
  /-- R507: A vector with a set flag and elapsed holdoff sends its message. -/
  | msixSend (v : Fin 64) (dt : Nat)
  /-- R509: A write of mbx.req_len submits a mailbox request. -/
  | mbxSubmit (len : BitVec 11)
  /-- R509: A response enters the mailbox queue. -/
  | mbxResponseEnqueue
  /-- R508: A write of mbx.rsp_pop removes the oldest response. -/
  | mbxRspPop
  /-- R510: A write of tp.op starts the named table-port operation. -/
  | tpOpStart (who : Fin 17) (op : BitVec 8)
  /-- R511: nr.op 1 reads one node record. -/
  | nrRead
  /-- R511: nr.op 2 writes one node record. -/
  | nrWrite
  /-- R512: An external field reaches 0.5 A/m: FD_N falls and the tag takes the antenna. -/
  | extFieldDetect (dt : Nat)
  /-- R514: Low-power card detection measures the antenna and may make a cycle due. -/
  | lpcdMeasure (amp : Nat) (phase : Int) (dt : Nat)
  /-- R513: A reader cycle falls due and the device listens for 1.0 ms. -/
  | readerCycleDue (dt : Nat)
  /-- R512: 1.0 ms without external field switches the field on and the cycle runs. -/
  | readerListenEnd (tags : List TagSeen) (run dt : Nat)
  /-- R519: A tag does not answer within FWT, so the reader retries or gives up. -/
  | fwtTimeout (w : TagWait) (dt : Nat)
  /-- R520: A tag asks for waiting-time extension, granted up to the cap. -/
  | wtxRequest (w : TagWait) (m : Fin 59) (dt : Nat)
  /-- R515: The cycle ends and the field turns off. -/
  | readerCycleEnd (tags : List TagSeen) (dt : Nat)
  /-- R512: The external field is absent for 50 ms, so the antenna returns to quiet. -/
  | tagFieldAbsent (absent dt : Nat)
  /-- R526: A field absent for 5 ms returns a SECURED tag to OPEN. -/
  | tagSessionEnd (absent dt : Nat)
  /-- R524: The tag serves SELECT. -/
  | tagSelect (name : Option Bytes) (file : BitVec 16)
  /-- R524: The tag serves READ BINARY. -/
  | tagReadBinary (off : BitVec 15) (le : Fin 256)
  /-- R528: The tag writes the shadow, and commits it when NLEN is written. -/
  | tagUpdateBinary (off : BitVec 15) (data : Bytes) (written : Fin 67)
  /-- R525: The tag checks a password. -/
  | tagVerify (pw : BitVec 32)
  /-- R525: The tag returns a challenge. -/
  | tagGetChallenge
  /-- R525: The tag checks an AES response. -/
  | tagExternalAuth (data : BitVec 128)
  /-- R524: Any other APDU gets 6D00. -/
  | tagUnknownIns
  /-- R526: S(DESELECT) returns the tag to OPEN. -/
  | tagDeselect
  /-- R525: 60 s of lockout end. -/
  | tagLockoutEnd (dt : Nat)
  /-- R530: FD_N is released once the field has been absent for 50 ms. -/
  | fdNRelease (dt : Nat)
  /-- R535: PWR_STATE_CMD starts a move between STANDBY, IDLE and RUN. -/
  | pwrStateCmd (t : Fin 3)
  /-- R535: A power transition reaches its safe point. -/
  | pwrTransitionDone (dt : Nat)
  /-- R538: The state dwell ends and a pending power request starts. -/
  | pwrDwellEnd (dt : Nat)
  /-- R537: A host write, DICT frame or card detection wakes STANDBY to IDLE. -/
  | standbyWake (card : Bool)
  /-- R542: SHUTDOWN_N low or VDD_33 low starts a shutdown. -/
  | shutdownTrigger (pin : Bool)
  /-- R542: The shutdown record is written to VBAT and the domains isolated. -/
  | retentionCommit (dt : Nat)
  /-- R543: The supply returns: before the commit the shutdown is abandoned. -/
  | supplyReturn (bad : List (Fin 2048))
  /-- R544: 50 ms after the commit, the device cold-starts. -/
  | offTimeEnd (bad : List (Fin 2048)) (dt : Nat)
  /-- R545: A rail falls below brownout before the commit, stopping everything at once. -/
  | lossOfPower
  /-- R546: A sensor at 120 °C for 100 µs runs the shutdown without the wait. -/
  | thermalTrip
  /-- R546: TJ_MAX falls below 90 °C and the device cold-starts. -/
  | thermalCool (bad : List (Fin 2048))
  /-- R540: Rails in range or RESET_N released runs the cold start sequence. -/
  | coldStart (ev : ColdEvent) (kept : Bool) (bad : List (Fin 2048)) (dt : Nat)
  /-- R547: RESET_N low for 1 µs resets the device. -/
  | resetNLow
  /-- R547: A warm reset stops the cores and reboots from bank selection. -/
  | warmReset (cause : Fin 4)
  /-- R547: The vendor firmware refreshes the watchdog. -/
  | watchdogRefresh
  /-- R547: 2 s without refresh causes a warm reset. -/
  | watchdogExpiry (dt : Nat)
  /-- R551: VBAT falls below 1.50 V and the domain's contents are lost. -/
  | vbatLost
  /-- R574: 1 s without a host path posts HOST_UNREACHABLE. -/
  | hostUnreachable (dt : Nat)
  /-- R36: The HEAD_SEL strap changes level and holds for 100 µs, so the device becomes or stops being a head candidate. -/
  | headSelChange (high : Bool)
  /-- R289: An Ethernet port gains or loses its link, which makes HP4 or HP5 down or up and can change the port used for IEEE 1588. -/
  | ethernetLinkChange (p : Fin 2) (up : Bool)
  /-- R465: An instruction fetch meets an uncorrectable error or a forbidden address, and the core enters the fault vector with XPC at the failed fetch address. -/
  | fetchError (r : CoreRun)
  /-- R143: 10 s after an oscillator calibration run starts, each island not yet measured keeps its table and the kind ends with CAL_PARTIAL. -/
  | calPartial (dt : Nat)
  /-- R551: The always-on domain's supply rises again after falling below 1.50 V, and the domain clears all 8 KiB with flag [0] left clear. -/
  | vbatSupplyRise
  deriving DecidableEq, Repr

end Sys2Proof
end

