-- ==== Sys2Proof/WellFormed.lean ====
section
/-! DEFINITION. Which commands are well formed: numbers inside the fields that carry them (Tables 2-2, 3-3, 7-1, 17-2). A command
that is not well formed still has a meaning; no statement needs it not to arrive. -/

namespace Sys2Proof

/-- A value of w bits. -/
def fits (w x : Nat) : Bool := decide (x < 2 ^ w)

/-- A device's chain address, or 0xFF (R35). -/
def chainAddrOk (a : Nat) : Bool := decide (a ≤ 63) || a == 0xFF

/-- A chain time: nanoseconds below one second (R431). -/
def Time80.wf (t : Time80) : Bool := fits 48 t.sec && decide (t.ns < 1000000000)

/-- Fields of an access frame fit their bits, and LENGTH is at most 1,024 (Table 3-3). -/
def Access.wf (a : Access) : Bool :=
  fits 4 a.ver && fits 4 a.op && fits 8 a.status && fits 8 a.target && fits 8 a.origin && fits 16 a.reqId && fits 16 a.index
    && fits 8 a.subindex && fits 8 a.subcount && fits 32 a.offset && decide (a.length ≤ 1024) && fits 16 a.txn
    && decide (a.payload.length ≤ 1024)

/-- LINK content. -/
def LinkMsg.wf (m : LinkMsg) : Bool := fits 64 m.eui && fits 8 m.level && fits 8 m.minPartner && fits 8 m.maxPartner

/-- SURVEY content: a 64-bit pin mask. -/
def Survey.wf (m : Survey) : Bool := fits 64 m.rank.eui && fits 64 m.mask

/-- ASSIGN content. -/
def Assign.wf (m : Assign) : Bool := fits 64 m.mask

/-- One device of a map. -/
def TopoEntry.wf (e : TopoEntry) : Bool := chainAddrOk e.addr && fits 64 e.eui && decide (e.role ≤ 2) && fits 32 e.gen

/-- TOPO content. -/
def TopoMsg.wf : TopoMsg → Bool
  | .map m => fits 32 m.gen && chainAddrOk m.head && m.map.all TopoEntry.wf
  | .report a _ _ => chainAddrOk a

/-- HEAD content. -/
def HeadMsg.wf (m : HeadMsg) : Bool := chainAddrOk m.addr && fits 64 m.rank.eui

/-- TIME content (Table 17-2). -/
def TimeMsg.wf (m : TimeMsg) : Bool := m.tTx.wf && decide (m.srcState ≤ 3) && fits 8 m.hops

/-- A remote Saddlebag request (R53). -/
def SbReq.wf (r : SbReq) : Bool := fits 52 r.addr && fits 32 r.len

/-- TYPE of a frame by what it carries (Table 2-3). -/
def ChainBody.typeOf : ChainBody → Option Nat
  | .link _ => some 0
  | .survey _ => some 1
  | .assign _ => some 2
  | .done _ _ => some 3
  | .topo _ => some 4
  | .head _ => some 5
  | .time _ => some 6
  | .delayReq _ => some 7
  | .delayRsp _ _ _ => some 8
  | .dict _ => some 9
  | .data _ => some 10
  | .sbReq _ => some 11
  | .sbRsp _ _ => some 12
  | .none => Option.none

/-- Content of a frame. -/
def ChainBody.wf : ChainBody → Bool
  | .link m => m.wf
  | .survey m => m.wf
  | .assign m => m.wf
  | .done m _ => m.wf
  | .topo m => m.wf
  | .head m => m.wf
  | .time m => m.wf
  | .dict a => a.wf
  | .data b => decide (b.length ≤ 2048)
  | .sbReq r => r.wf
  | .delayReq _ | .delayRsp _ _ _ | .sbRsp _ _ | .none => true

/-- A chain frame: header fields fit, and the content is what TYPE says (Tables 2-2 and 2-3). -/
def ChainFrame.wf (f : ChainFrame) : Bool :=
  fits 8 f.dst && fits 8 f.src && fits 4 f.typ && fits 2 f.lane && fits 3 f.cls && fits 8 f.hops && fits 8 f.tenant && fits 16 f.length && fits 32 f.tag
    && (match f.body.typeOf with | some t => t == f.typ | Option.none => decide (12 < f.typ)) && f.body.wf

/-- What accompanies a frame into the Harness. -/
def InMeta.wf : InMeta → Bool
  | .radio r m => decide (r < 16384) && fits 128 m
  | .ethernet _ => true
  | .chainData t c s d => fits 8 t && fits 3 c && fits 8 s && fits 8 d
  | .chainOther _ => true
  | .routed t c _ _ => fits 8 t && fits 3 c
  | .directed t c o _ _ _ _ => fits 8 t && fits 3 c && decide (o ≤ 11)
  | .saddlebag o d => decide (o ≤ 11) && fits 8 d
  | .lacing k a => decide (k < 16) && fits 16 a

/-- A frame of a node's downlink ring. -/
def NodeFrame.wf (f : NodeFrame) : Bool := fits 8 f.tenant && fits 3 f.cls && decide (f.bytes.length ≤ 127)

/-- A transmission that Girth commits: a port, a mode of Table 7-1 and a tenant. -/
def TxReq.wf (q : TxReq) : Bool := decide (q.port ≤ 3) && decide (q.mode ≤ 7) && fits 8 q.tenant

/-- A command is well formed. -/
def Instr.wf : Instr → Bool
  | .scrubPass _ _ _ _ _ => true
  | .bridgeFlitCrcFail _ => true
  | .sampleOverrun _ => true
  | .islandStart _ _ => true
  | .islandOn _ _ => true
  | .islandStop _ _ => true
  | .islandOff _ _ => true
  | .islandDwellEnd _ _ => true
  | .linkSignalDetected _ => true
  | .linkLocked _ => true
  | .linkFrameRx _ m => m.wf
  | .linkFrameTx _ => true
  | .linkDown _ => true
  | .chainFrameRx _ f _ _ => f.wf
  | .chainFrameAbort _ _ _ _ _ => true
  | .chainFrameTx _ _ => true
  | .surveyRx _ m => m.wf
  | .surveyReturn _ m _ => m.wf
  | .assignRx _ m => m.wf
  | .assignReturn _ m _ map => m.wf && map.all TopoEntry.wf
  | .topoRx _ m => m.wf
  | .enumAutoStart => true
  | .chainEnumIncremental => true
  | .chainEnumFull => true
  | .enumPassTimeout map _ => map.all TopoEntry.wf
  | .headBroadcast => true
  | .headRx _ m => m.wf
  | .headMissTakeover _ => true
  | .chainSwitchover => true
  | .delayMeasure _ _ => true
  | .delayReqRx _ _ _ _ => true
  | .delayRspRx _ _ _ _ _ => true
  | .timeFrameTx _ => true
  | .timeFrameRx _ m _ => m.wf
  | .sbReqIssue r => r.wf
  | .sbReqRx _ src tag r => chainAddrOk src && decide (tag < 2 ^ 32) && r.wf
  | .sbRspRx tag _ _ => decide (tag < 2 ^ 32)
  | .sbTimeout tag _ => decide (tag < 2 ^ 32)
  | .read _ a => a.wf
  | .write _ a => a.wf
  | .readBlock _ a => a.wf
  | .writeBlock _ a => a.wf
  | .prepare _ a => a.wf
  | .commit _ a => a.wf
  | .abort _ a => a.wf
  | .notify _ a => a.wf
  | .notifyEventSend _ _ => true
  | .dictRetryTimeout _ _ => true
  | .dictResponseRx src a => chainAddrOk src && a.wf
  | .blockIdleExpiry _ _ _ => true
  | .txnIdleExpiry _ => true
  | .commitGraceExpiry _ => true
  | .epochApply _ => true
  | .graceEnd _ _ => true
  | .dictStore => true
  | .dictErase => true
  | .dictStoreDone _ => true
  | .clampLogClear => true
  | .errLogClear => true
  | .registerWrite _ _ => true
  | .portStateCmd _ _ => true
  | .portTransitionDone _ _ _ _ _ => true
  | .portDwellEnd _ _ => true
  | .synthLockLost _ => true
  | .synthRelockDone _ _ _ => true
  | .retuneStart _ => true
  | .calCmd _ => true
  | .calPeriodic _ _ => true
  | .oscCalMeasure _ _ _ => true
  | .calWindowOpen _ => true
  | .calWindowEnd _ _ _ => true
  | .calNoWindow _ => true
  | .stampLock => true
  | .stampLockDone _ => true
  | .pdMeasure _ _ _ _ => true
  | .portStarved _ _ => true
  | .rxDetect _ _ _ => true
  | .qualifierConfirm _ _ _ _ _ => true
  | .detectTimeout _ _ => true
  | .sfdFound _ _ _ _ _ _ => true
  | .sfdTimeout _ _ => true
  | .phrRx _ _ _ => true
  | .despreadTimeout _ _ _ => true
  | .rxFrameEnd _ _ _ _ _ => true
  | .capture _ _ _ _ _ _ _ _ => true
  | .lateArrival _ _ _ _ _ _ => true
  | .adcClipGainStep _ => true
  | .portGainStep _ _ _ => true
  | .placementChange _ => true
  | .backstitchEngineStart _ => true
  | .backstitchQueueTimeout _ => true
  | .backstitchFrameEnd _ _ _ _ _ _ _ _ => true
  | .txCommit q _ => q.wf
  | .lbtListenDue _ _ => true
  | .lbtListenEnd _ _ _ => true
  | .rampDue _ _ => true
  | .txWindowEnd _ _ => true
  | .rampUpEnd _ _ => true
  | .lastChip _ _ => true
  | .rampDownEnd _ _ => true
  | .dutyBucketAdvance _ => true
  | .beaconSend _ _ => true
  | .assocRequestRx _ eui _ _ _ dsn _ => decide (eui < 2 ^ 64) && decide (dsn < 256)
  | .dlAckRx _ dsn _ _ => decide (dsn < 256)
  | .dlAckTimeout _ _ => true
  | .broadcastDownlink _ _ => true
  | .guardLimit _ _ => true
  | .handoverConfirm _ _ _ => true
  | .handoverStateRx _ _ => true
  | .handoverIeSend _ _ => true
  | .handoverHReached _ _ => true
  | .handoverFinalRx _ _ _ => true
  | .handoverForwardEnd _ => true
  | .handoverAbandon _ => true
  | .wheelTick _ _ => true
  | .farListMove _ _ => true
  | .downlinkCellPlanning _ _ => true
  | .uplinkCellPlanning _ _ => true
  | .cellEndCharge _ _ => true
  | .schedRebuild => true
  | .dayStartChange _ => true
  | .cinchTick _ _ => true
  | .harnessFrameIn _ m _ _ _ => m.wf
  | .outputDequeue _ _ _ => true
  | .outputLinkDownDiscard _ => true
  | .spillWriteDone _ _ _ => true
  | .spillFetch _ _ => true
  | .shaperCalendarFire _ => true
  | .curbSample _ _ => true
  | .cxlTrainingStart _ => true
  | .cxlTrained _ _ _ _ => true
  | .cxlTrainTimeout _ => true
  | .cxlRetrainStart => true
  | .cxlRetrainDone _ => true
  | .cxlRetrainFail _ => true
  | .sbAccessDone _ _ => true
  | .strapPush _ _ _ => true
  | .strapMiddleWrite _ _ => true
  | .strapMiddleRead _ _ => true
  | .weltClose _ _ _ => true
  | .pointerMismatch _ _ => true
  | .downlinkEnqueue _ f => f.wf
  | .downlinkHeadRead _ _ => true
  | .headReadTimeout _ _ => true
  | .holdDrain => true
  | .journalRecordCommit _ => true
  | .journalHeaderRewrite _ => true
  | .brInsert _ => true
  | .brDelete _ => true
  | .brRead _ => true
  | .brFlush _ => true
  | .nhWrite => true
  | .clWrite => true
  | .haInsert _ => true
  | .haDelete _ => true
  | .haRead _ => true
  | .haReadBucket _ => true
  | .halterAgeing _ => true
  | .kGenerate => true
  | .kDerive => true
  | .kImport => true
  | .kExport => true
  | .kInvalidate => true
  | .kReadAttr => true
  | .kLinkWrap => true
  | .orphanSweep => true
  | .keeperProvision => true
  | .attest => true
  | .tamperDetect _ => true
  | .tamperReport => true
  | .vbatLowZero => true
  | .campStart _ => true
  | .campPause _ => true
  | .campResume _ => true
  | .campStop _ => true
  | .campLoadDone _ _ _ _ => true
  | .announceResend _ _ _ => true
  | .burstPlanning _ _ _ _ => true
  | .laceReportTake => true
  | .campDeadline _ _ => true
  | .laceReadFail _ _ => true
  | .treeSwitch => true
  | .seatOk => true
  | .seatWindowExpiry _ => true
  | .bankWipe _ => true
  | .bankWipeDone => true
  | .timeStep _ => true
  | .timeSet _ _ => true
  | .ptpSample _ _ => true
  | .holdoverTimeout _ => true
  | .rtcWrite _ => true
  | .timeSnapshot _ => true
  | .tpoArm _ _ => true
  | .tpoParamWrite _ start _ _ => start.wf
  | .tpoRise _ _ => true
  | .tpoFall _ _ => true
  | .add _ _ _ _ => true
  | .sub _ _ _ _ => true
  | .and _ _ _ _ => true
  | .or _ _ _ _ => true
  | .xor _ _ _ _ => true
  | .sll _ _ _ _ => true
  | .srl _ _ _ _ => true
  | .sra _ _ _ _ => true
  | .cmplt _ _ _ _ => true
  | .cmpltu _ _ _ _ => true
  | .mul _ _ _ _ => true
  | .mulh _ _ _ _ => true
  | .mulhu _ _ _ _ => true
  | .div _ _ _ _ => true
  | .divu _ _ _ _ => true
  | .rem _ _ _ _ => true
  | .remu _ _ _ _ => true
  | .min _ _ _ _ => true
  | .max _ _ _ _ => true
  | .minu _ _ _ _ => true
  | .maxu _ _ _ _ => true
  | .clz _ _ _ => true
  | .popc _ _ _ => true
  | .bswap _ _ _ => true
  | .addi _ _ _ _ => true
  | .andi _ _ _ _ => true
  | .ori _ _ _ _ => true
  | .xori _ _ _ _ => true
  | .cmplti _ _ _ _ => true
  | .cmpltiu _ _ _ _ => true
  | .shiSll _ _ _ _ => true
  | .shiSrl _ _ _ _ => true
  | .shiSra _ _ _ _ => true
  | .shiRor _ _ _ _ => true
  | .ldhi _ _ _ => true
  | .addpch _ _ _ => true
  | .lb _ _ _ _ _ => true
  | .lbu _ _ _ _ _ => true
  | .lh _ _ _ _ _ => true
  | .lhu _ _ _ _ _ => true
  | .lw _ _ _ _ _ => true
  | .sb _ _ _ _ _ => true
  | .sh _ _ _ _ _ => true
  | .sw _ _ _ _ => true
  | .amoSwap _ _ _ _ _ => true
  | .amoAdd _ _ _ _ _ => true
  | .amoAnd _ _ _ _ _ => true
  | .amoOr _ _ _ _ _ => true
  | .amoXor _ _ _ _ _ => true
  | .amoMaxu _ _ _ _ _ => true
  | .beq _ _ _ _ => true
  | .bne _ _ _ _ => true
  | .blt _ _ _ _ => true
  | .bge _ _ _ _ => true
  | .bltu _ _ _ _ => true
  | .bgeu _ _ _ _ => true
  | .j _ _ => true
  | .call _ _ => true
  | .jr _ _ => true
  | .callr _ _ => true
  | .ret _ => true
  | .loop _ _ _ _ => true
  | .loopi _ _ _ _ => true
  | .trap _ _ => true
  | .getc _ _ _ => true
  | .setc _ _ _ => true
  | .fence _ => true
  | .fenceI _ => true
  | .xret _ => true
  | .xretc _ => true
  | .wait _ => true
  | .waitWake _ => true
  | .brk _ => true
  | .halt _ => true
  | .reservedInstruction _ _ => true
  | .interruptTake _ => true
  | .storeBufferDrain _ => true
  | .coreStopRequest _ => true
  | .coreStart _ => true
  | .coreStop _ => true
  | .dictPortSubmit _ _ => true
  | .strapPortPush _ _ _ => true
  | .strapPortPop _ _ => true
  | .hp9RxDeliver => true
  | .hp9TxTake _ _ => true
  | .buckleEdge _ => true
  | .buckleLevelRise _ => true
  | .levelReassign _ => true
  | .pendingWrite _ _ _ => true
  | .maskWrite _ _ _ => true
  | .awlBuckleRaise _ _ => true
  | .awlHostRaise _ _ => true
  | .hifBuckleRaise _ => true
  | .pcieLinkDown => true
  | .pcieLinkUp => true
  | .functionLevelReset => true
  | .rxRingTailWrite _ _ => true
  | .txRingTailWrite _ _ => true
  | .rxRingSizeWrite _ _ => true
  | .txRingSizeWrite _ _ => true
  | .hostRxFrame _ _ => true
  | .txFrameFetch _ _ _ _ => true
  | .dmaError _ _ _ => true
  | .reportRecordWrite => true
  | .msixSend _ _ => true
  | .mbxSubmit _ => true
  | .mbxResponseEnqueue => true
  | .mbxRspPop => true
  | .tpOpStart _ _ => true
  | .nrRead => true
  | .nrWrite => true
  | .extFieldDetect _ => true
  | .lpcdMeasure _ _ _ => true
  | .readerCycleDue _ => true
  | .readerListenEnd tags _ _ => tags.all (fun t => decide (t.uid.length ≤ 10))
  | .fwtTimeout _ _ => true
  | .wtxRequest _ _ _ => true
  | .readerCycleEnd tags _ => tags.all (fun t => decide (t.uid.length ≤ 10))
  | .tagFieldAbsent _ _ => true
  | .tagSessionEnd _ _ => true
  | .tagSelect _ _ => true
  | .tagReadBinary _ _ => true
  | .tagUpdateBinary _ _ _ => true
  | .tagVerify _ => true
  | .tagGetChallenge => true
  | .tagExternalAuth _ => true
  | .tagUnknownIns => true
  | .tagDeselect => true
  | .tagLockoutEnd _ => true
  | .fdNRelease _ => true
  | .pwrStateCmd _ => true
  | .pwrTransitionDone _ => true
  | .pwrDwellEnd _ => true
  | .standbyWake _ => true
  | .shutdownTrigger _ => true
  | .retentionCommit _ => true
  | .supplyReturn _ => true
  | .offTimeEnd _ _ => true
  | .lossOfPower => true
  | .thermalTrip => true
  | .thermalCool _ => true
  | .coldStart _ _ _ _ => true
  | .resetNLow => true
  | .warmReset _ => true
  | .watchdogRefresh => true
  | .watchdogExpiry _ => true
  | .vbatLost => true
  | .hostUnreachable _ => true
  | .headSelChange _ => true
  | .ethernetLinkChange _ _ => true
  | .fetchError _ => true
  | .calPartial _ => true
  | .vbatSupplyRise => true

end Sys2Proof
end

