-- ==== Sys2Proof/Machine/KMap.lean ====
section
/-! DEFINITION. Finite maps in one canonical form, and byte-string helpers.

A map lists its keys in strictly rising order. A defaulted map also lists no value equal to what an
unlisted key reads as, so equal contents are equal lists. -/

namespace Sys2Proof

/-- The value listed for a key. -/
def KMap.find {α : Type} : KMap α → Nat → Option α
  | [], _ => none
  | (j, v) :: m, k => if j = k then some v else KMap.find m k

/-- List a value for a key, in place of any value listed before. -/
def KMap.put {α : Type} : KMap α → Nat → α → KMap α
  | [], k, v => [(k, v)]
  | (j, w) :: m, k, v =>
    if k < j then (k, v) :: (j, w) :: m
    else if k = j then (k, v) :: m
    else (j, w) :: KMap.put m k v

/-- List no value for a key. -/
def KMap.drop {α : Type} : KMap α → Nat → KMap α
  | [], _ => []
  | (j, w) :: m, k => if j = k then KMap.drop m k else (j, w) :: KMap.drop m k

/-- The value of a key in a map whose unlisted keys read d. -/
def KMap.getD {α : Type} (m : KMap α) (d : α) (k : Nat) : α :=
  match KMap.find m k with
  | some v => v
  | none => d

/-- Write a key of a map whose unlisted keys read d, keeping the canonical form. -/
def KMap.setD {α : Type} [DecidableEq α] (m : KMap α) (d : α) (k : Nat) (v : α) : KMap α :=
  if v = d then KMap.drop m k else KMap.put m k v

/-- The keys rise strictly, and each is at least lo. -/
def KMap.risesFrom {α : Type} : Nat → KMap α → Bool
  | _, [] => true
  | lo, (k, _) :: m => decide (lo ≤ k) && KMap.risesFrom (k + 1) m

/-- The keys rise strictly. -/
def KMap.rises {α : Type} (m : KMap α) : Bool := KMap.risesFrom 0 m

/-- Canonical form of a defaulted map: keys rise, and no listed value is its key's default. -/
def KMap.canon {α : Type} [DecidableEq α] (d : Nat → α) (m : KMap α) : Bool :=
  KMap.rises m && m.all (fun p => decide (p.2 ≠ d p.1))

/-- Write one value over a run of n keys from k. -/
def KMap.putRange {α : Type} (m : KMap α) (k : Nat) : List α → KMap α
  | [] => m
  | v :: vs => KMap.putRange (KMap.put m k v) (k + 1) vs

/-- The number that bytes spell, lowest byte first (R59). -/
def leNat : Bytes → Nat
  | [] => 0
  | b :: bs => b.toNat + 256 * leNat bs

/-- The low n bytes of a number, lowest first (R59, R577). -/
def leBytes : Nat → Nat → Bytes
  | 0, _ => []
  | n + 1, x => BitVec.ofNat 8 x :: leBytes n (x / 256)

/-- The number that bytes spell, highest byte first. -/
def beNat (bs : Bytes) : Nat := bs.foldl (fun a b => 256 * a + b.toNat) 0

/-- The low n bytes of a number, highest first. -/
def beBytes (n x : Nat) : Bytes := (leBytes n x).reverse

/-- n zero bytes. -/
def zeros (n : Nat) : Bytes := List.replicate n 0#8

/-- bytes off to off + n - 1, zeros beyond the end. -/
def slice (bs : Bytes) (off n : Nat) : Bytes :=
  let got := (bs.drop off).take n
  got ++ zeros (n - got.length)

/-- bs with the bytes of new laid over it from off (bs is lengthened with zeros if it is short). -/
def splice (bs : Bytes) (off : Nat) (new : Bytes) : Bytes :=
  let head := bs.take off
  head ++ zeros (off - head.length) ++ new ++ bs.drop (off + new.length)

/-- The field of width w that starts at bit lo of x. -/
def bits (x lo w : Nat) : Nat := x / 2 ^ lo % 2 ^ w

/-- Bit k of x. -/
def bitOf (x k : Nat) : Bool := x / 2 ^ k % 2 == 1

/-- x with bit k set to b. -/
def setBit (x k : Nat) (b : Bool) : Nat :=
  if bitOf x k == b then x else if b then x + 2 ^ k else x - 2 ^ k

/-- x with the field of width w at bit lo replaced by the low w bits of v. -/
def setBits (x lo w v : Nat) : Nat :=
  x - bits x lo w * 2 ^ lo + (v % 2 ^ w) * 2 ^ lo

/-- Two's complement of an integer at a width of w bits. -/
def toRaw (w : Nat) (x : Int) : Nat := (x % (2 ^ w : Int)).toNat

/-- The signed number that a w-bit two's complement value stands for. -/
def ofRaw (w x : Nat) : Int :=
  if x % 2 ^ w < 2 ^ (w - 1) then (x % 2 ^ w : Int) else (x % 2 ^ w : Int) - 2 ^ w

/-- Number of set bits among the low n bits. -/
def popcount : Nat → Nat → Nat
  | 0, _ => 0
  | n + 1, x => x % 2 + popcount n (x / 2)

/-- A sum held at a ceiling. -/
def satAdd (top x d : Nat) : Nat := if x + d ≤ top then x + d else top

/-- The greatest 32-bit value, at which counters saturate (R99). -/
def u32Max : Nat := 4294967295

/-- The first index at which p holds, counting from i. -/
def findIdxFrom {α : Type} (p : α → Bool) : Nat → List α → Option Nat
  | _, [] => none
  | i, x :: xs => if p x then some i else findIdxFrom p (i + 1) xs

/-- The least number in a list, if there is one. -/
def minNat? : List Nat → Option Nat
  | [] => none
  | x :: xs => match minNat? xs with
    | none => some x
    | some y => some (min x y)

/-- A list with its i-th element replaced by f of it. -/
def modifyAt {α : Type} (f : α → α) : Nat → List α → List α
  | _, [] => []
  | 0, x :: xs => f x :: xs
  | n + 1, x :: xs => x :: modifyAt f n xs

/-- A vector with its i-th element replaced by f of it; a vector without one is unchanged. -/
def vmod {α : Type} {n : Nat} (f : α → α) (i : Nat) (v : Vector α n) : Vector α n :=
  if h : i < n then v.set i (f v[i]) else v

/-- A list without its i-th element. -/
def removeAt {α : Type} : Nat → List α → List α
  | _, [] => []
  | 0, _ :: xs => xs
  | n + 1, x :: xs => x :: removeAt n xs

end Sys2Proof
end

