-- ==== Sys2Proof/Machine/DictTable.lean ====
section
/-! DEFINITION. The object table of the Tabina dictionary, transcribed from Tables 2-5, R57, 3-10 and
4-2 to 4-22: for each row its indices, subindices, type, access class, built-in default and range. -/

namespace Sys2Proof.Machine.Dict

/-- Types of Table 3-1 (FX16 is a 4-byte two's complement value, BITS32 a 4-byte unsigned one). -/
inductive Ty where
  | bool
  | u (bytes : Nat)
  | i (bytes : Nat)
  | str
  | time
  | domain
  deriving DecidableEq, Repr

/-- Access classes of Table 0-1. -/
inductive Acc where
  | const
  | ro
  | rw
  | wo
  | rwe
  | rwp
  | cmd
  | res
  deriving DecidableEq, Repr

/-- Range cells that need more than a list of intervals. -/
inductive Dep where
  | laneWeights
  | shedOrder
  | centre
  | txLimit
  | femCfg
  | pin
  | calCmd
  | chmap
  | upToSlots
  | pulseWidth
  | nanoseconds
  | alphaK
  | polMode
  | polPir
  | campAddr
  | winCount
  | mask (legal : Nat)
  deriving DecidableEq, Repr

/-- Range cell of a row: none to check, any value, intervals that clamp, intervals that reject, or
a check of its own. -/
inductive Rng where
  | none
  | any
  | clampL (ivs : List (Int × Int))
  | rejectL (ivs : List (Int × Int))
  | dep (d : Dep)
  deriving DecidableEq, Repr

/-- One row of the object tables. It stands for the indices base, base + 1, … (count of them) and the
subindices sub + stride·c + k with c below rep and k below span. -/
structure Entry where
  name : String
  base : Nat
  count : Nat
  sub : Nat
  span : Nat
  rep : Nat
  stride : Nat
  ty : Ty
  acc : Acc
  reset : Nat
  /-- clears when read (R99, R57, R94) -/
  clears : Bool
  rng : Rng
  /-- greatest length of a DOMAIN object -/
  maxLen : Nat
  deriving DecidableEq, Repr

/-- Short form of a row. -/
def e (name : String) (base count sub span rep stride : Nat) (ty : Ty) (acc : Acc) (reset : Nat)
    (clears : Bool) (rng : Rng) (maxLen : Nat) : Entry :=
  { name, base, count, sub, span, rep, stride, ty, acc, reset, clears, rng, maxLen }

/-- Object table rows, indices 0x1000 and up. -/
def rows10 : List Entry := [
  e "ID_VENDOR" 0x1000 1 0x01 1 1 0 (.str) .const 0 false (.none) 0,
  e "ID_PRODUCT" 0x1000 1 0x02 1 1 0 (.str) .const 0 false (.none) 0,
  e "ID_ORDER_CODE" 0x1000 1 0x03 1 1 0 (.u 1) .const 0 false (.none) 0,
  e "ID_SILICON_REV" 0x1000 1 0x04 1 1 0 (.u 2) .const 1 false (.none) 0,
  e "ID_EUI64" 0x1000 1 0x05 1 1 0 (.u 8) .const 0 false (.none) 0,
  e "ID_SERIAL" 0x1000 1 0x06 1 1 0 (.str) .const 0 false (.none) 0,
  e "ID_TREE_VERSION" 0x1000 1 0x07 1 1 0 (.u 4) .ro 0 false (.none) 0,
  e "ID_CHAIN_LEVEL" 0x1000 1 0x08 1 1 0 (.u 1) .ro 0 false (.none) 0,
  e "ID_OBJECTS" 0x1000 1 0x09 1 1 0 (.u 2) .const 1133 false (.none) 0,
  e "ID_SUBENTRIES" 0x1000 1 0x0A 1 1 0 (.u 2) .const 0 false (.none) 0,
  e "ID_STRAPS" 0x1000 1 0x0B 1 1 0 (.u 1) .ro 0 false (.none) 0,
  e "ID_UPTIME_S" 0x1000 1 0x0C 1 1 0 (.u 4) .ro 0 false (.none) 0]

/-- Object table rows, indices 0x1100 and up. -/
def rows11 : List Entry := [
  e "CHAIN_ADDR" 0x1100 1 0x01 1 1 0 (.u 1) .ro 255 false (.none) 0,
  e "CHAIN_PIN" 0x1100 1 0x02 1 1 0 (.u 1) .rwp 255 false (.rejectL [(0, 63), (255, 255)]) 0,
  e "CHAIN_ROLE" 0x1100 1 0x03 1 1 0 (.u 1) .ro 0 false (.none) 0,
  e "CHAIN_COUNT" 0x1100 1 0x04 1 1 0 (.u 1) .ro 0 false (.none) 0,
  e "CHAIN_RING" 0x1100 1 0x05 1 1 0 (.bool) .ro 0 false (.none) 0,
  e "CHAIN_ENUM_STATE" 0x1100 1 0x06 1 1 0 (.u 1) .ro 0 false (.none) 0,
  e "CHAIN_ENUM_CMD" 0x1100 1 0x07 1 1 0 (.u 1) .cmd 0 false (.rejectL [(1, 1), (2, 2)]) 0,
  e "CHAIN_IDLE_BLOCKS" 0x1100 1 0x08 1 1 0 (.u 2) .rw 64 false (.clampL [(16, 4096)]) 0,
  e "CHAIN_SB_TIMEOUT_US" 0x1100 1 0x09 1 1 0 (.u 2) .rw 50 false (.clampL [(10, 10000)]) 0,
  e "CHAIN_HEAD_MISS" 0x1100 1 0x0A 1 1 0 (.u 1) .rw 3 false (.clampL [(2, 16)]) 0,
  e "CHAIN_LANE_WEIGHTS" 0x1100 1 0x0B 1 1 0 (.u 4) .rw 66571 false (.dep .laneWeights) 0,
  e "CHAIN_SWITCHOVER" 0x1100 1 0x0C 1 1 0 (.u 1) .cmd 0 false (.rejectL [(1, 1)]) 0,
  e "LINK_STATE" 0x1101 2 0x01 1 1 0 (.u 1) .ro 0 false (.none) 0,
  e "LINK_DELAY_NS" 0x1101 2 0x02 1 1 0 (.u 4) .ro 0 false (.none) 0,
  e "RX_CRC_ERR" 0x1101 2 0x03 1 1 0 (.u 4) .ro 0 true (.none) 0,
  e "RX_LEN_BAD" 0x1101 2 0x04 1 1 0 (.u 4) .ro 0 true (.none) 0,
  e "TYPE_BAD" 0x1101 2 0x05 1 1 0 (.u 4) .ro 0 true (.none) 0,
  e "RX_ABORT" 0x1101 2 0x06 1 1 0 (.u 4) .ro 0 true (.none) 0,
  e "HOP_EXPIRED" 0x1101 2 0x07 1 1 0 (.u 4) .ro 0 true (.none) 0,
  e "NO_ROUTE" 0x1101 2 0x08 1 1 0 (.u 4) .ro 0 true (.none) 0,
  e "LINK_DOWN_EVENTS" 0x1101 2 0x09 1 1 0 (.u 4) .ro 0 true (.none) 0,
  e "CHAIN_ENUM_RES" 0x1103 1 0x01 1 1 0 (.domain) .res 0 false (.none) 20,
  e "CHAIN_SWITCHOVER_RES" 0x1103 1 0x02 1 1 0 (.domain) .res 0 false (.none) 8]

/-- Object table rows, indices 0x1200 and up. -/
def rows12a : List Entry := [
  e "ERR_LOG" 0x1200 1 0x01 1 1 0 (.domain) .ro 0 false (.none) 8192,
  e "ERR_LOG_NEXT" 0x1200 1 0x02 1 1 0 (.u 1) .ro 0 false (.none) 0,
  e "ERR_TOTAL" 0x1200 1 0x03 1 1 0 (.u 4) .ro 0 false (.none) 0,
  e "ERR_LOG_CLEAR" 0x1200 1 0x04 1 1 0 (.u 1) .cmd 0 false (.rejectL [(1, 1)]) 0,
  e "ERR_LOG_CLEAR_RES" 0x1200 1 0x05 1 1 0 (.domain) .res 0 false (.none) 8,
  e "ERR_MIN_SEVERITY" 0x1200 1 0x06 1 1 0 (.u 1) .rw 0 false (.clampL [(0, 3)]) 0,
  e "ERR_SUPPRESSED" 0x1200 1 0x07 1 1 0 (.u 4) .ro 0 true (.none) 0,
  e "MEM_ERR" 0x1200 1 0x10 13 1 0 (.u 4) .ro 0 true (.none) 0,
  e "MEM_UNCORRECTED" 0x1200 1 0x1D 1 1 0 (.u 4) .ro 0 true (.none) 0,
  e "CLAMP_LOG" 0x1201 1 0x01 1 1 0 (.domain) .ro 0 false (.none) 2048,
  e "CLAMP_LOG_NEXT" 0x1201 1 0x02 1 1 0 (.u 1) .ro 0 false (.none) 0,
  e "CLAMP_TOTAL" 0x1201 1 0x03 1 1 0 (.u 4) .ro 0 false (.none) 0,
  e "CLAMP_LOG_CLEAR" 0x1201 1 0x04 1 1 0 (.u 1) .cmd 0 false (.rejectL [(1, 1)]) 0,
  e "CLAMP_LOG_CLEAR_RES" 0x1201 1 0x05 1 1 0 (.domain) .res 0 false (.none) 8,
  e "DICT_TIMEOUT_US" 0x1202 1 0x01 1 1 0 (.u 2) .rw 2000 false (.clampL [(100, 50000)]) 0,
  e "DICT_RETRIES" 0x1202 1 0x02 1 1 0 (.u 1) .rw 3 false (.clampL [(0, 8)]) 0,
  e "DICT_BLOCK_IDLE_MS" 0x1202 1 0x03 1 1 0 (.u 2) .rw 5000 false (.clampL [(100, 60000)]) 0,
  e "DICT_COMMIT_GRACE_MS" 0x1202 1 0x04 1 1 0 (.u 2) .rw 2000 false (.clampL [(100, 60000)]) 0,
  e "DICT_EPOCH_MAX_S" 0x1202 1 0x05 1 1 0 (.u 4) .rw 3600 false (.clampL [(1, 86400)]) 0,
  e "DICT_TXN_STATE" 0x1202 1 0x06 1 1 0 (.u 1) .ro 0 false (.none) 0,
  e "DICT_TXN_ID" 0x1202 1 0x07 1 1 0 (.u 4) .ro 0 false (.none) 0,
  e "DICT_TXN_EPOCH" 0x1202 1 0x08 1 1 0 (.time) .ro 0 false (.none) 0,
  e "DICT_CRC_ERR" 0x1202 1 0x09 1 1 0 (.u 4) .ro 0 true (.none) 0,
  e "DICT_STORE_CMD" 0x1202 1 0x0A 1 1 0 (.u 1) .cmd 0 false (.rejectL [(1, 1), (2, 2)]) 0]

/-- Object table rows, indices 0x1200 and up. -/
def rows12b : List Entry := [
  e "DICT_STORE_RES" 0x1202 1 0x0B 1 1 0 (.domain) .res 0 false (.none) 8,
  e "DICT_TXN_IDLE_MS" 0x1202 1 0x0C 1 1 0 (.u 2) .rw 10000 false (.clampL [(1000, 60000)]) 0,
  e "GRACE_UNPLACED" 0x1202 1 0x0D 1 1 0 (.u 4) .ro 0 true (.none) 0]

/-- Object table rows, indices 0x1400 and up. -/
def rows14 : List Entry := [
  e "PWR_STATE" 0x1400 1 0x01 1 1 0 (.u 1) .ro 3 false (.none) 0,
  e "PWR_STATE_CMD" 0x1400 1 0x02 1 1 0 (.u 1) .cmd 0 false (.rejectL [(2, 4)]) 0,
  e "PWR_STATE_RES" 0x1400 1 0x03 1 1 0 (.domain) .res 0 false (.none) 8,
  e "CINCH_BUDGET_MW" 0x1401 1 0x01 1 1 0 (.u 4) .rw 24000 false (.clampL [(6000, 24000)]) 0,
  e "CINCH_TJ_LIMIT_C" 0x1401 1 0x02 1 1 0 (.i 1) .rw 100 false (.clampL [(70, 105)]) 0,
  e "CINCH_SHED_ORDER" 0x1401 1 0x03 1 1 0 (.u 4) .rw 6636321 false (.dep .shedOrder) 0,
  e "CINCH_LOW_CLASSES" 0x1401 1 0x04 1 1 0 (.u 1) .rw 3 false (.any) 0,
  e "CINCH_POWER_MW" 0x1401 1 0x05 1 1 0 (.u 4) .ro 0 false (.none) 0,
  e "CINCH_TOKENS" 0x1401 1 0x06 1 1 0 (.i 4) .ro 0 false (.none) 0,
  e "CINCH_STAGE" 0x1401 1 0x07 1 1 0 (.u 1) .ro 0 false (.none) 0,
  e "SHED_COUNT" 0x1401 1 0x10 6 1 0 (.u 4) .ro 0 true (.none) 0,
  e "TJ_SENSOR" 0x1402 1 0x01 8 1 0 (.i 4) .ro 0 false (.none) 0,
  e "TJ_MAX" 0x1402 1 0x09 1 1 0 (.i 4) .ro 0 false (.none) 0]

/-- Object table rows, indices 0x1800 and up. -/
def rows18 : List Entry := [
  e "TIME_NOW" 0x1800 1 0x01 1 1 0 (.time) .ro 0 false (.none) 0,
  e "TIME_INCR" 0x1800 1 0x02 1 1 0 (.u 4) .rw 1073741824 false (.clampL [(1073204953, 1074278695)]) 0,
  e "TIME_JUMP_LIMIT_NS" 0x1800 1 0x03 1 1 0 (.u 4) .rw 1000000 false (.clampL [(100, 1000000000)]) 0,
  e "TIME_STEP_NS" 0x1800 1 0x04 1 1 0 (.i 8) .cmd 0 false (.any) 0,
  e "TIME_STEP_RES" 0x1800 1 0x05 1 1 0 (.domain) .res 0 false (.none) 8,
  e "TIME_SET" 0x1800 1 0x06 1 1 0 (.time) .cmd 0 false (.dep .nanoseconds) 0,
  e "TIME_SET_RES" 0x1800 1 0x07 1 1 0 (.domain) .res 0 false (.none) 8,
  e "TIME_STATE" 0x1800 1 0x08 1 1 0 (.u 1) .ro 0 false (.none) 0,
  e "TIME_OFFSET_NS" 0x1800 1 0x09 1 1 0 (.i 4) .ro 0 false (.none) 0,
  e "JUMP_REFUSED" 0x1800 1 0x0A 1 1 0 (.u 4) .ro 0 true (.none) 0,
  e "PTP_PORTS" 0x1801 1 0x01 1 1 0 (.u 1) .rw 0 false (.clampL [(0, 3)]) 0,
  e "PTP_STEP_MODE" 0x1801 1 0x02 1 1 0 (.u 1) .rw 2 false (.clampL [(1, 1), (2, 2)]) 0,
  e "TIME_SOURCE" 0x1801 1 0x03 1 1 0 (.u 1) .rw 0 false (.rejectL [(0, 0), (1, 1)]) 0,
  e "TPO_MODE" 0x1802 4 0x01 1 1 0 (.u 1) .rw 0 false (.rejectL [(0, 2)]) 0,
  e "TPO_START" 0x1802 4 0x02 1 1 0 (.time) .rw 0 false (.dep .nanoseconds) 0,
  e "TPO_PERIOD_NS" 0x1802 4 0x03 1 1 0 (.u 4) .rw 1000000000 false (.clampL [(1000, 1000000000)]) 0,
  e "TPO_WIDTH_NS" 0x1802 4 0x04 1 1 0 (.u 4) .rw 100000 false (.dep .pulseWidth) 0]

/-- Object table rows, indices 0x2000 and up. -/
def rows20 : List Entry := [
  e "PORT_STATE" 0x2000 4 0x01 1 1 0 (.u 1) .ro 0 false (.none) 0,
  e "PORT_STATE_CMD" 0x2000 4 0x02 1 1 0 (.u 1) .cmd 0 false (.rejectL [(0, 4)]) 0,
  e "PORT_STATE_RES" 0x2000 4 0x03 1 1 0 (.domain) .res 0 false (.none) 8,
  e "PORT_AUTO_RETURN" 0x2000 4 0x04 1 1 0 (.u 1) .rw 3 false (.rejectL [(0, 3)]) 0,
  e "PORT_CENTRE_KHZ" 0x2000 4 0x05 1 1 0 (.u 4) .rwe 0 false (.dep .centre) 0,
  e "PORT_TX_LIMIT_DBM" 0x2000 4 0x06 1 1 0 (.i 1) .rw 0 false (.dep .txLimit) 0,
  e "PORT_FEM_CFG" 0x2000 4 0x07 1 1 0 (.u 4) .rw 0 false (.dep .femCfg) 0,
  e "PORT_PD_FWD_DBM" 0x2000 4 0x08 1 1 0 (.i 4) .ro 0 false (.none) 0,
  e "PORT_PD_REF_DBM" 0x2000 4 0x09 1 1 0 (.i 4) .ro 0 false (.none) 0,
  e "PORT_ANT_STATE" 0x2000 4 0x0A 1 1 0 (.u 1) .ro 0 false (.none) 0,
  e "PORT_DIAG_STRETCH" 0x2000 4 0x0B 1 1 0 (.bool) .rw 0 false (.rejectL [(0, 1)]) 0,
  e "PORT_STARVED" 0x2000 4 0x10 1 1 0 (.u 4) .ro 0 true (.none) 0]

/-- Object table rows, indices 0x2100 and up. -/
def rows21 : List Entry := [
  e "RXC_OWNER" 0x2100 64 0x01 1 1 0 (.u 1) .rwe 0 false (.rejectL [(0, 0), (1, 1)]) 0,
  e "RXC_PIN" 0x2100 64 0x02 1 1 0 (.u 4) .rwe 0 false (.dep .pin) 0,
  e "RXC_DETECT_DBM" 0x2100 64 0x03 1 1 0 (.i 1) .rw 146 false (.clampL [(-125, -60)]) 0,
  e "RXC_QUALIFIER" 0x2100 64 0x04 1 1 0 (.u 1) .rw 40 false (.clampL [(16, 63)]) 0,
  e "RXC_BACKSTITCH" 0x2100 64 0x05 1 1 0 (.bool) .rw 1 false (.rejectL [(0, 1)]) 0,
  e "RXC_PLACED" 0x2100 64 0x06 1 1 0 (.u 4) .ro 4294967295 false (.none) 0,
  e "RXC_STATE" 0x2100 64 0x07 1 1 0 (.u 1) .ro 0 false (.none) 0,
  e "RX_FRAMES" 0x2100 64 0x10 1 1 0 (.u 4) .ro 0 true (.none) 0,
  e "RX_DETECT" 0x2100 64 0x11 1 1 0 (.u 4) .ro 0 true (.none) 0,
  e "RX_FCS_ERR" 0x2100 64 0x12 1 1 0 (.u 4) .ro 0 true (.none) 0,
  e "RX_SEC_FAIL" 0x2100 64 0x13 1 1 0 (.u 4) .ro 0 true (.none) 0,
  e "RX_REPLAY" 0x2100 64 0x14 1 1 0 (.u 4) .ro 0 true (.none) 0,
  e "RX_DUP" 0x2100 64 0x15 1 1 0 (.u 4) .ro 0 true (.none) 0,
  e "RX_FOREIGN" 0x2100 64 0x16 1 1 0 (.u 4) .ro 0 true (.none) 0,
  e "RX_DESPREAD_TIMEOUT" 0x2100 64 0x17 1 1 0 (.u 4) .ro 0 true (.none) 0,
  e "SAMPLE_OVERRUN" 0x2100 64 0x18 1 1 0 (.u 4) .ro 0 true (.none) 0,
  e "BS_RECOVERED" 0x2100 64 0x19 1 1 0 (.u 4) .ro 0 true (.none) 0,
  e "BS_FAILED" 0x2100 64 0x1A 1 1 0 (.u 4) .ro 0 true (.none) 0]

/-- Object table rows, indices 0x2200 and up. -/
def rows22 : List Entry := [
  e "TXC_OWNER" 0x2200 16 0x01 1 1 0 (.u 1) .rwe 0 false (.rejectL [(0, 0), (1, 1)]) 0,
  e "TXC_PIN" 0x2200 16 0x02 1 1 0 (.u 4) .rwe 0 false (.dep .pin) 0,
  e "TXC_POWER_DBM" 0x2200 16 0x03 1 1 0 (.i 1) .rw 8 false (.clampL [(-20, 8)]) 0,
  e "TXC_PLACED" 0x2200 16 0x04 1 1 0 (.u 4) .ro 4294967295 false (.none) 0,
  e "TXC_STATE" 0x2200 16 0x05 1 1 0 (.u 1) .ro 0 false (.none) 0,
  e "TX_FRAMES" 0x2200 16 0x10 1 1 0 (.u 4) .ro 0 true (.none) 0,
  e "TX_LBT_BUSY" 0x2200 16 0x11 1 1 0 (.u 4) .ro 0 true (.none) 0,
  e "TX_CINCH_DEFER" 0x2200 16 0x12 1 1 0 (.u 4) .ro 0 true (.none) 0,
  e "TX_POWER_CUT" 0x2200 16 0x13 1 1 0 (.u 4) .ro 0 true (.none) 0,
  e "TX_DUTY_BLOCK" 0x2200 16 0x14 1 1 0 (.u 4) .ro 0 true (.none) 0]

/-- Object table rows, indices 0x2300 and up. -/
def rows23 : List Entry := [
  e "STAMP_LOCKED" 0x2300 1 0x01 1 1 0 (.bool) .ro 0 false (.none) 0,
  e "STAMP_LOCK_CMD" 0x2300 1 0x02 1 1 0 (.u 1) .cmd 0 false (.rejectL [(165, 165)]) 0,
  e "STAMP_LOCK_RES" 0x2300 1 0x03 1 1 0 (.domain) .res 0 false (.none) 8,
  e "STAMP_PORT" 0x2301 4 0x01 1 1 0 (.domain) .rw 0 false (.none) 256]

/-- Object table rows, indices 0x2400 and up. -/
def rows24 : List Entry := [
  e "CAL_CMD" 0x2400 1 0x01 1 1 0 (.u 4) .cmd 0 false (.dep .calCmd) 0,
  e "CAL_RES" 0x2400 1 0x02 1 1 0 (.domain) .res 0 false (.none) 12,
  e "CAL_DISTURB_DBM" 0x2400 1 0x03 1 1 0 (.i 1) .rw 166 false (.clampL [(-110, -60)]) 0,
  e "CAL_INTERVAL_S" 0x2400 1 0x04 1 1 0 (.u 4) .rw 3600 false (.clampL [(0, 0), (60, 86400)]) 0,
  e "CAL_COEFF" 0x2401 4 0x01 1 1 0 (.domain) .rw 0 false (.none) 2048]

/-- Object table rows, indices 0x3000 and up. -/
def rows30 : List Entry := [
  e "GIRTH_SLOT_US" 0x3000 1 0x01 1 1 0 (.u 2) .rwe 10000 false (.clampL [(5000, 20000)]) 0,
  e "GIRTH_ASN" 0x3000 1 0x02 1 1 0 (.u 8) .ro 0 false (.none) 0,
  e "GIRTH_COMPAT" 0x3000 1 0x03 1 1 0 (.bool) .rw 0 false (.rejectL [(0, 1)]) 0,
  e "GUARD_BASE_US" 0x3000 1 0x04 1 1 0 (.u 2) .rw 1000 false (.clampL [(100, 5000)]) 0,
  e "GUARD_GROWTH_PPM" 0x3000 1 0x05 1 1 0 (.u 2) .rw 20 false (.clampL [(1, 500)]) 0,
  e "GUARD_CAP_US" 0x3000 1 0x06 1 1 0 (.u 2) .rw 4000 false (.clampL [(100, 10000)]) 0,
  e "DESYNC_NODES" 0x3000 1 0x07 1 1 0 (.u 2) .ro 0 false (.none) 0,
  e "DESYNC_EVENTS" 0x3000 1 0x08 1 1 0 (.u 4) .ro 0 true (.none) 0,
  e "ASSOC_OPEN" 0x3000 1 0x09 1 1 0 (.bool) .rw 1 false (.rejectL [(0, 1)]) 0,
  e "DL_RETRY_LIMIT" 0x3000 1 0x0A 1 1 0 (.u 1) .rw 3 false (.clampL [(0, 7)]) 0,
  e "DL_UNDELIVERED" 0x3000 1 0x0B 1 1 0 (.u 4) .ro 0 true (.none) 0,
  e "SF_SLOTS" 0x3010 32 0x01 1 1 0 (.u 2) .rwe 0 false (.clampL [(0, 0), (2, 16384)]) 0,
  e "SF_TENANT" 0x3010 32 0x02 1 1 0 (.u 1) .rwe 0 false (.rejectL [(0, 255)]) 0,
  e "SF_BEACON_EVERY" 0x3010 32 0x03 1 1 0 (.u 2) .rwe 0 false (.dep .upToSlots) 0,
  e "SF_SHARED_SLOTS" 0x3010 32 0x04 1 1 0 (.u 2) .rwe 0 false (.dep .upToSlots) 0]

/-- Object table rows, indices 0x3100 and up. -/
def rows31 : List Entry := [
  e "TEN_ENABLE" 0x3100 256 0x01 1 1 0 (.bool) .rwe 0 false (.rejectL [(0, 1)]) 0,
  e "TEN_PAN_ID" 0x3100 256 0x02 1 1 0 (.u 2) .rwe 65535 false (.rejectL [(0, 65533)]) 0,
  e "TEN_CHMAP" 0x3100 256 0x03 4 1 0 (.u 8) .rwe 0 false (.dep .chmap) 0,
  e "TEN_SLOTFRAME" 0x3100 256 0x07 1 1 0 (.u 1) .rwe 0 false (.rejectL [(0, 31)]) 0,
  e "TEN_SEC_LEVEL" 0x3100 256 0x08 1 1 0 (.u 1) .rwe 5 false (.rejectL [(5, 7)]) 0,
  e "TEN_KEY_SLOT" 0x3100 256 0x09 1 1 0 (.u 2) .rwe 65535 false (.rejectL [(0, 4095), (65535, 65535)]) 0,
  e "TEN_NODE_MAX" 0x3100 256 0x0A 1 1 0 (.u 2) .rw 16384 false (.clampL [(0, 16384)]) 0,
  e "TEN_NODES" 0x3100 256 0x0B 1 1 0 (.u 2) .ro 0 false (.none) 0,
  e "TEN_BUDGET_NAH" 0x3100 256 0x0C 1 1 0 (.u 4) .rw 100000 false (.clampL [(1, 10000000)]) 0]

/-- Object table rows, indices 0x3200 and up. -/
def rows32 : List Entry := [
  e "SCHED_DAY_START_S" 0x3200 1 0x01 1 1 0 (.u 4) .rw 0 false (.clampL [(0, 86399)]) 0,
  e "SCHED_WHEEL_USED" 0x3200 1 0x02 1 1 0 (.u 4) .ro 0 false (.none) 0,
  e "SCHED_WHEEL_SPILL" 0x3200 1 0x03 1 1 0 (.u 4) .ro 0 true (.none) 0,
  e "LEDGER_DEFERRALS" 0x3200 1 0x04 1 1 0 (.u 4) .ro 0 true (.none) 0,
  e "SCHED_MISSED" 0x3200 1 0x05 1 1 0 (.u 4) .ro 0 true (.none) 0,
  e "COST_TABLE" 0x3201 1 0x01 1 1 0 (.domain) .rw 0 false (.none) 1024]

/-- Object table rows, indices 0x4000 and up. -/
def rows40 : List Entry := [
  e "HAR_ALPHA_K" 0x4000 1 0x01 1 1 0 (.u 4) .rw 0 false (.dep .alphaK) 0,
  e "HAR_SPILLABLE" 0x4000 1 0x02 1 1 0 (.u 1) .rw 3 false (.any) 0,
  e "HAR_FREE_CELLS" 0x4000 1 0x03 1 1 0 (.u 4) .ro 65536 false (.none) 0,
  e "LEN_CONFLICT_COPY" 0x4000 1 0x04 1 1 0 (.bool) .rw 0 false (.rejectL [(0, 1)]) 0,
  e "PARSE_DEEP" 0x4000 1 0x05 1 1 0 (.u 4) .ro 0 true (.none) 0,
  e "LEN_CONFLICT" 0x4000 1 0x06 1 1 0 (.u 4) .ro 0 true (.none) 0,
  e "HP_RX/HP_TX/HP_DROP" 0x4001 12 0x01 3 1 0 (.u 4) .ro 0 true (.none) 0,
  e "Q_CELLS" 0x4020 96 0x01 1 1 0 (.u 4) .ro 0 false (.none) 0,
  e "Q_SPILLED" 0x4020 96 0x02 1 1 0 (.u 1) .ro 0 false (.none) 0,
  e "Q_DROPS" 0x4020 96 0x03 1 1 0 (.u 4) .ro 0 true (.none) 0,
  e "Q_SPILLS" 0x4020 96 0x04 1 1 0 (.u 4) .ro 0 true (.none) 0]

/-- Object table rows, indices 0x4100 and up. -/
def rows41 : List Entry := [
  e "SB_ATTACHED" 0x4100 1 0x01 1 1 0 (.u 8) .ro 0 false (.none) 0,
  e "SB_LINK_STATE" 0x4100 1 0x02 1 1 0 (.u 1) .ro 0 false (.none) 0,
  e "SB_LAYOUT" 0x4100 1 0x03 1 1 0 (.domain) .rw 0 false (.none) 4096,
  e "SB_JOURNAL_SEQ" 0x4100 1 0x04 1 1 0 (.u 8) .ro 0 false (.none) 0,
  e "SB_REMOTE_SERVE" 0x4100 1 0x05 1 1 0 (.bool) .rw 1 false (.rejectL [(0, 1)]) 0,
  e "CXL_RETRAINS/CXL_REPLAYED/CXL_FAILED/SB_MEDIA_ERR" 0x4101 1 0x01 4 1 0 (.u 4) .ro 0 true (.none) 0,
  e "SQ_ITEMS" 0x4110 64 0x01 1 1 0 (.u 4) .ro 0 false (.none) 0,
  e "SQ_LIMIT" 0x4110 64 0x02 1 1 0 (.u 4) .rw 1048576 false (.clampL [(1024, 4294967295)]) 0,
  e "SQ_WELTS/SQ_LOST/SQ_POISON/SQ_RESETS" 0x4110 64 0x03 4 1 0 (.u 4) .ro 0 true (.none) 0]

/-- Object table rows, indices 0x4200 and up. -/
def rows42 : List Entry := [
  e "BRIDLE_USED" 0x4200 1 0x01 1 1 0 (.u 4) .ro 0 false (.none) 0,
  e "BRIDLE_PARITY_ERR" 0x4200 1 0x02 1 1 0 (.u 4) .ro 0 true (.none) 0,
  e "HALTER_USED" 0x4201 1 0x01 1 1 0 (.u 4) .ro 0 false (.none) 0,
  e "HALTER_OVF_USED" 0x4201 1 0x02 1 1 0 (.u 2) .ro 0 false (.none) 0,
  e "HALTER_EVICT" 0x4201 1 0x03 1 1 0 (.u 1) .rw 0 false (.rejectL [(0, 0), (1, 1)]) 0,
  e "HALTER_EVICTIONS" 0x4201 1 0x04 1 1 0 (.u 4) .ro 0 true (.none) 0,
  e "HALTER_PARITY_ERR" 0x4201 1 0x05 1 1 0 (.u 4) .ro 0 true (.none) 0,
  e "LEARN_NOTIFY" 0x4201 1 0x06 1 1 0 (.bool) .rw 1 false (.rejectL [(0, 1)]) 0,
  e "DL_UNKNOWN" 0x4201 1 0x07 1 1 0 (.u 4) .ro 0 true (.none) 0,
  e "STITCH_MAX_HOPS" 0x4202 1 0x01 1 1 0 (.u 1) .rw 16 false (.clampL [(1, 16)]) 0,
  e "STITCH_TOO_DEEP" 0x4202 1 0x02 1 1 0 (.u 4) .ro 0 true (.none) 0,
  e "NODE_WIN_FIRST" 0x4210 1 0x01 1 1 0 (.u 2) .rw 16384 false (.rejectL [(16384, 32767)]) 0,
  e "NODE_WIN_COUNT" 0x4210 1 0x02 1 1 0 (.u 2) .rw 1 false (.dep .winCount) 0,
  e "NODE_WIN" 0x4210 1 0x03 1 1 0 (.domain) .rw 0 false (.none) 16384,
  e "NODE_WIN_BAD" 0x4210 1 0x04 1 1 0 (.u 4) .ro 0 true (.none) 0]

/-- Object table rows, indices 0x4300 and up. -/
def rows43 : List Entry := [
  e "CURB_SAMPLE" 0x4300 256 0x01 1 1 0 (.bool) .rw 0 false (.rejectL [(0, 1)]) 0,
  e "CURB_SAMPLE_EXP" 0x4300 256 0x02 1 1 0 (.u 1) .rw 14 false (.clampL [(4, 24)]) 0,
  e "POL_MODE" 0x4300 256 0x10 1 8 8 (.u 1) .rw 0 false (.dep .polMode) 0,
  e "POL_CIR_KBPS" 0x4300 256 0x11 1 8 8 (.u 4) .rw 0 false (.clampL [(0, 10000000)]) 0,
  e "POL_CBS" 0x4300 256 0x12 1 8 8 (.u 4) .rw 0 false (.clampL [(0, 16777216)]) 0,
  e "POL_XBS" 0x4300 256 0x13 1 8 8 (.u 4) .rw 0 false (.clampL [(0, 16777216)]) 0,
  e "POL_PIR_KBPS" 0x4300 256 0x14 1 8 8 (.u 4) .rw 0 false (.dep .polPir) 0,
  e "POL_GREEN/POL_YELLOW/POL_RED" 0x4300 256 0x15 3 8 8 (.u 4) .ro 0 true (.none) 0,
  e "SHP_RATE_KBPS" 0x4300 256 0x50 1 16 2 (.u 4) .rw 0 false (.clampL [(0, 10000000)]) 0,
  e "SHP_BURST" 0x4300 256 0x51 1 16 2 (.u 4) .rw 2048 false (.clampL [(128, 1048576)]) 0]

/-- Object table rows, indices 0x5000 and up. -/
def rows50 : List Entry := [
  e "KEEPER_STATE" 0x5000 1 0x01 1 1 0 (.u 1) .ro 0 false (.none) 0,
  e "KEEPER_SLOTS_USED" 0x5000 1 0x02 1 1 0 (.u 2) .ro 0 false (.none) 0,
  e "TAMPER_ENABLE" 0x5000 1 0x03 1 1 0 (.u 4) .rwp 112 false (.dep (.mask 127)) 0,
  e "TAMPER_LAST" 0x5000 1 0x04 1 1 0 (.u 4) .ro 0 false (.none) 0,
  e "TAMPER_EVENTS" 0x5000 1 0x05 1 1 0 (.u 4) .ro 0 true (.none) 0,
  e "KEEPER_PROVISION" 0x5000 1 0x06 1 1 0 (.u 1) .cmd 0 false (.rejectL [(1, 1)]) 0,
  e "KEEPER_PROVISION_RES" 0x5000 1 0x07 1 1 0 (.domain) .res 0 false (.none) 8,
  e "ATTEST_CMD" 0x5001 1 0x01 1 1 0 (.u 2) .cmd 0 false (.rejectL [(0, 4095)]) 0,
  e "ATTEST_RES" 0x5001 1 0x02 1 1 0 (.domain) .res 0 false (.none) 296]

/-- Object table rows, indices 0x5100 and up. -/
def rows51 : List Entry := [
  e "LACE_ACTIVE" 0x5100 1 0x01 1 1 0 (.u 1) .ro 0 false (.none) 0,
  e "LACE_REPAIRS" 0x5100 1 0x02 1 1 0 (.u 4) .ro 0 true (.none) 0,
  e "CAMP_STATE" 0x5110 16 0x01 1 1 0 (.u 1) .ro 0 false (.none) 0,
  e "CAMP_IMAGE_ADDR" 0x5110 16 0x02 1 1 0 (.u 8) .rw 0 false (.dep .campAddr) 0,
  e "CAMP_IMAGE_BYTES" 0x5110 16 0x03 1 1 0 (.u 4) .rw 0 false (.rejectL [(1, 4194304)]) 0,
  e "CAMP_TENANT" 0x5110 16 0x04 1 1 0 (.u 1) .rw 0 false (.rejectL [(1, 255)]) 0,
  e "CAMP_TARGETS" 0x5110 16 0x05 1 1 0 (.domain) .rw 0 false (.none) 524288,
  e "CAMP_CMD" 0x5110 16 0x06 1 1 0 (.u 1) .cmd 0 false (.rejectL [(1, 4)]) 0,
  e "CAMP_RES" 0x5110 16 0x07 1 1 0 (.domain) .res 0 false (.none) 8,
  e "CAMP_DONE" 0x5110 16 0x08 1 1 0 (.u 4) .ro 0 false (.none) 0,
  e "CAMP_PENDING" 0x5110 16 0x09 1 1 0 (.u 4) .ro 0 false (.none) 0]

/-- Object table rows, indices 0x5200 and up. -/
def rows52 : List Entry := [
  e "TREE_ACTIVE_BANK" 0x5200 1 0x01 1 1 0 (.u 1) .ro 0 false (.none) 0,
  e "TREE_IMAGE" 0x5200 1 0x02 1 1 0 (.domain) .wo 0 false (.none) 16777216,
  e "TREE_VERSION_A" 0x5200 1 0x03 1 1 0 (.u 4) .ro 0 false (.none) 0,
  e "TREE_VERSION_B" 0x5200 1 0x04 1 1 0 (.u 4) .ro 0 false (.none) 0,
  e "TREE_SWITCH_CMD" 0x5200 1 0x05 1 1 0 (.u 1) .cmd 0 false (.rejectL [(1, 1)]) 0,
  e "TREE_SWITCH_RES" 0x5200 1 0x06 1 1 0 (.domain) .res 0 false (.none) 8,
  e "SEAT_OK" 0x5200 1 0x07 1 1 0 (.u 1) .cmd 0 false (.rejectL [(1, 1)]) 0,
  e "SEAT_OK_RES" 0x5200 1 0x08 1 1 0 (.domain) .res 0 false (.none) 8,
  e "SEAT_WINDOW_S" 0x5200 1 0x09 1 1 0 (.u 2) .rwp 120 false (.clampL [(30, 600)]) 0,
  e "TREE_FALLBACKS" 0x5200 1 0x0A 1 1 0 (.u 4) .ro 0 true (.none) 0,
  e "BANK_WIPE_CMD" 0x5200 1 0x0B 1 1 0 (.u 1) .cmd 0 false (.rejectL [(0, 0), (1, 1)]) 0,
  e "BANK_WIPE_RES" 0x5200 1 0x0C 1 1 0 (.domain) .res 0 false (.none) 8]

/-- Object table rows, indices 0x6000 and up. -/
def rows60 : List Entry := [
  e "CON_READER" 0x6000 1 0x01 1 1 0 (.bool) .rw 0 false (.rejectL [(0, 1)]) 0,
  e "CON_PROTOCOLS" 0x6000 1 0x02 1 1 0 (.u 4) .rw 7 false (.dep (.mask 7)) 0,
  e "CON_WTX_CAP" 0x6000 1 0x03 1 1 0 (.u 1) .rw 8 false (.clampL [(0, 32)]) 0,
  e "CON_LPCD" 0x6000 1 0x04 1 1 0 (.bool) .rw 1 false (.rejectL [(0, 1)]) 0,
  e "CON_LPCD_MS" 0x6000 1 0x05 1 1 0 (.u 2) .rw 300 false (.clampL [(100, 2000)]) 0,
  e "TAG_ENABLE" 0x6001 1 0x01 1 1 0 (.bool) .rwp 1 false (.rejectL [(0, 1)]) 0,
  e "TAG_STATE" 0x6001 1 0x02 1 1 0 (.u 1) .ro 0 false (.none) 0,
  e "TAG_AUTH" 0x6001 1 0x03 1 1 0 (.u 1) .rwp 1 false (.rejectL [(1, 1), (2, 2)]) 0,
  e "TAG_PASSWORD" 0x6001 1 0x04 1 1 0 (.u 4) .wo 0 false (.any) 0,
  e "TAG_KEY_SLOT" 0x6001 1 0x05 1 1 0 (.u 2) .rw 65535 false (.rejectL [(0, 4095), (65535, 65535)]) 0,
  e "TAG_NDEF" 0x6001 1 0x06 1 1 0 (.domain) .rw 0 false (.none) 4096,
  e "TAG_FD_WAKE" 0x6001 1 0x07 1 1 0 (.bool) .rw 1 false (.rejectL [(0, 1)]) 0,
  e "TAG_AUTH_FAILS" 0x6001 1 0x08 1 1 0 (.u 4) .ro 0 true (.none) 0]

/-- Object table rows, indices 0x7000 and up. -/
def rows70 : List Entry := [
  e "CORE_FREQ_MHZ" 0x7000 1 0x01 1 1 0 (.u 2) .rw 800 false (.clampL [(200, 800)]) 0,
  e "CORE_STATE" 0x7001 16 0x01 1 1 0 (.u 1) .ro 0 false (.none) 0,
  e "CORE_IMAGE" 0x7001 16 0x02 1 1 0 (.domain) .rw 0 false (.none) 262144,
  e "CORE_RUN_CMD" 0x7001 16 0x03 1 1 0 (.u 1) .cmd 0 false (.rejectL [(1, 1), (2, 2)]) 0,
  e "CORE_RUN_RES" 0x7001 16 0x04 1 1 0 (.domain) .res 0 false (.none) 8,
  e "CORE_LOAD_PCT" 0x7001 16 0x05 1 1 0 (.u 1) .ro 0 false (.none) 0,
  e "CORE_EXCEPTIONS" 0x7001 16 0x06 1 1 0 (.u 4) .ro 0 true (.none) 0,
  e "CORE_STORES_LOST" 0x7001 16 0x07 1 1 0 (.bool) .ro 0 false (.none) 0,
  e "BUCKLE_SOURCES" 0x7020 1 0x01 1 1 0 (.u 2) .const 256 false (.none) 0]

/-- Object table rows, indices 0x7100 and up. -/
def rows71 : List Entry := [
  e "SRC_TARGETS" 0x7100 256 0x01 1 1 0 (.u 2) .rw 0 false (.any) 0,
  e "SRC_EDGE" 0x7100 256 0x02 1 1 0 (.bool) .const 0 false (.none) 0,
  e "SRC_EVENTS" 0x7100 256 0x03 1 1 0 (.u 4) .ro 0 false (.none) 0]

/-- The rows whose indices share a high byte. -/
def group : Nat → List Entry
  | 0x10 => rows10
  | 0x11 => rows11
  | 0x12 => rows12a ++ rows12b
  | 0x14 => rows14
  | 0x18 => rows18
  | 0x20 => rows20
  | 0x21 => rows21
  | 0x22 => rows22
  | 0x23 => rows23
  | 0x24 => rows24
  | 0x30 => rows30
  | 0x31 => rows31
  | 0x32 => rows32
  | 0x40 => rows40
  | 0x41 => rows41
  | 0x42 => rows42
  | 0x43 => rows43
  | 0x50 => rows50
  | 0x51 => rows51
  | 0x52 => rows52
  | 0x60 => rows60
  | 0x70 => rows70
  | 0x71 => rows71
  | _ => []

/-- Every row of the object tables (R96 to R121, R56, R57, R94). -/
def rows : List Entry :=
  rows10 ++ rows11 ++ rows12a ++ rows12b ++ rows14 ++ rows18 ++ rows20 ++ rows21 ++ rows22 ++ rows23 ++ rows24 ++ rows30 ++ rows31 ++ rows32 ++ rows40 ++ rows41 ++ rows42 ++ rows43 ++ rows50 ++ rows51 ++ rows52 ++ rows60 ++ rows70 ++ rows71

/-- The row covers a subindex. -/
def Entry.hasSub (r : Entry) (s : Nat) : Bool :=
  if r.rep ≤ 1 then decide (r.sub ≤ s ∧ s < r.sub + r.span)
  else decide (r.sub ≤ s ∧ s < r.sub + r.stride * r.rep ∧ (s - r.sub) % r.stride < r.span)

/-- The row of a subentry. -/
def find (idx s : Nat) : Option Entry :=
  (group (idx / 256)).find? (fun r => decide (r.base ≤ idx ∧ idx < r.base + r.count) && r.hasSub s)

/-- The index is present (R96). -/
def present (idx : Nat) : Bool := (group (idx / 256)).any (fun r => decide (r.base ≤ idx ∧ idx < r.base + r.count))

/-- Highest subindex of an index, the value of its subindex 0x00 (R96). -/
def topSub (idx : Nat) : Nat :=
  (group (idx / 256)).foldl (fun m r =>
    if r.base ≤ idx ∧ idx < r.base + r.count then
      max m (if r.rep ≤ 1 then r.sub + r.span - 1 else r.sub + r.stride * (r.rep - 1) + r.span - 1)
    else m) 0

/-- Payload size of a type in bytes (Table 3-1); DOMAIN values travel by blocks only. -/
def Ty.size : Ty → Nat
  | .bool => 1
  | .u n => n
  | .i n => n
  | .str => 32
  | .time => 10
  | .domain => 0

/-- Subentries present, subindex 0x00 excluded (`ID_SUBENTRIES`, R96). -/
def subentryCount : Nat := 31713

end Sys2Proof.Machine.Dict
end

