-- ==== Sys2Proof/Machine/Errors.lean ====
section
/-! DEFINITION. The status codes that are posted to the error objects, numbered by R575 and Table 23-2,
with the severities of the chapters' code tables. -/

namespace Sys2Proof.Machine

/-- Codes of Table 23-2. -/
inductive Err where
  | memUncorrected
  | wiringBad | levelMismatch | pinConflict | chainOverfull | enumFail | linkLong | sbBadReq | sbNoDevice | sbTimeout
  | late | txnExpired | stageLost
  | nodeRecordBad
  | portHeld | rxPreempted | synthUnlock | calDisturbed | calRange | calNoWindow | calPartial | stampCrcBad | antOpen | diagStarved
  | rxcEdge | rxcNoTile | sampleOverrun | dupfOverwrite
  | txcNoTile | txNoHeadroom | txAborted | txMask | txMap | txNoTile | txBadFrame
  | sfMismatch | compatNoChannel | assocUnknown | dlUndelivered | nodeDesync | hoDone | hoFail
  | schedRebuild | cellClash | nodeOverBudget | nodeBatteryLow | cinchOverdraw | cinchOvertemp
  | mcTruncated | spillLost | stitchBroken | stitchNoRoom
  | sbLinkDegraded | sbOversize | sbLinkDown | sbLayoutBad | sbTooSmall | dlQueueFull | dlPoisoned | sqReset | sbQueuesLost | sbJournalNew
  | brParity | haParity
  | tamperZeroised | ctrEpochEnd | keySlotError | keyLimit | linkKeyStale | linkKeyBad | dlCounterEnd | ulCounterEnd
  | laceDone | laceFailed | laceNoStore | laceCompatTarget | laceEsiEnd | laceBlockRestart
  | treeHeaderBad | treeBootBad | treeFallback | treeSeated
  | jumpRefused | timeHoldover | tpoMissed | epochUnsynced
  | coreDoubleFault | coreStoresLost
  | hifLinkDown | hifFlr | hifDmaError
  | conTagRead | conTrayFull | tagWritten | tagWriteBad | tagRecordBad
  | resetCause | vbatLost
  | hostUnreachable | hostReached
  deriving DecidableEq, Repr

/-- CODE of an error log entry (R575). -/
def Err.code : Err → Nat
  | .memUncorrected => 0x0101
  | .wiringBad => 0x0201 | .levelMismatch => 0x0202 | .pinConflict => 0x0203 | .chainOverfull => 0x0204
  | .enumFail => 0x0205 | .linkLong => 0x0206 | .sbBadReq => 0x0207 | .sbNoDevice => 0x0208 | .sbTimeout => 0x0209
  | .late => 0x0301 | .txnExpired => 0x0302 | .stageLost => 0x0303
  | .nodeRecordBad => 0x0401
  | .portHeld => 0x0501 | .rxPreempted => 0x0502 | .synthUnlock => 0x0503 | .calDisturbed => 0x0504 | .calRange => 0x0505
  | .calNoWindow => 0x0506 | .calPartial => 0x0507 | .stampCrcBad => 0x0508 | .antOpen => 0x0509 | .diagStarved => 0x050A
  | .rxcEdge => 0x0601 | .rxcNoTile => 0x0602 | .sampleOverrun => 0x0603 | .dupfOverwrite => 0x0604
  | .txcNoTile => 0x0701 | .txNoHeadroom => 0x0702 | .txAborted => 0x0703 | .txMask => 0x0704 | .txMap => 0x0705
  | .txNoTile => 0x0706 | .txBadFrame => 0x0707
  | .sfMismatch => 0x0801 | .compatNoChannel => 0x0802 | .assocUnknown => 0x0803 | .dlUndelivered => 0x0804
  | .nodeDesync => 0x0805 | .hoDone => 0x0806 | .hoFail => 0x0807
  | .schedRebuild => 0x0901 | .cellClash => 0x0902 | .nodeOverBudget => 0x0903 | .nodeBatteryLow => 0x0904
  | .cinchOverdraw => 0x0905 | .cinchOvertemp => 0x0906
  | .mcTruncated => 0x0A01 | .spillLost => 0x0A02 | .stitchBroken => 0x0A03 | .stitchNoRoom => 0x0A04
  | .sbLinkDegraded => 0x0B01 | .sbOversize => 0x0B02 | .sbLinkDown => 0x0B03 | .sbLayoutBad => 0x0B04 | .sbTooSmall => 0x0B05
  | .dlQueueFull => 0x0B06 | .dlPoisoned => 0x0B07 | .sqReset => 0x0B08 | .sbQueuesLost => 0x0B09 | .sbJournalNew => 0x0B0A
  | .brParity => 0x0C01 | .haParity => 0x0C02
  | .tamperZeroised => 0x0E01 | .ctrEpochEnd => 0x0E02 | .keySlotError => 0x0E03 | .keyLimit => 0x0E04
  | .linkKeyStale => 0x0E05 | .linkKeyBad => 0x0E06 | .dlCounterEnd => 0x0E07 | .ulCounterEnd => 0x0E08
  | .laceDone => 0x0F01 | .laceFailed => 0x0F02 | .laceNoStore => 0x0F03 | .laceCompatTarget => 0x0F04
  | .laceEsiEnd => 0x0F05 | .laceBlockRestart => 0x0F06
  | .treeHeaderBad => 0x1001 | .treeBootBad => 0x1002 | .treeFallback => 0x1003 | .treeSeated => 0x1004
  | .jumpRefused => 0x1101 | .timeHoldover => 0x1102 | .tpoMissed => 0x1103 | .epochUnsynced => 0x1104
  | .coreDoubleFault => 0x1201 | .coreStoresLost => 0x1202
  | .hifLinkDown => 0x1301 | .hifFlr => 0x1302 | .hifDmaError => 0x1303
  | .conTagRead => 0x1401 | .conTrayFull => 0x1402 | .tagWritten => 0x1403 | .tagWriteBad => 0x1404 | .tagRecordBad => 0x1405
  | .resetCause => 0x1501 | .vbatLost => 0x1502
  | .hostUnreachable => 0x1701 | .hostReached => 0x1702

/-- SEVERITY of an entry: 0 information, 1 warning, 2 error, 3 fatal (Table 4-4; R575 and the chapters'
code tables). `CORE_DOUBLE_FAULT` is 3 for cores 0 to 11 and is posted with its own severity. -/
def Err.severity : Err → Nat
  | .stampCrcBad | .tamperZeroised | .ctrEpochEnd => 3
  | .memUncorrected | .chainOverfull | .enumFail | .synthUnlock | .calDisturbed | .calRange
    | .calNoWindow | .antOpen | .txAborted | .txBadFrame | .cinchOverdraw | .cinchOvertemp | .spillLost
    | .sbLinkDown | .sbLayoutBad | .sbTooSmall | .dlPoisoned | .sqReset | .sbQueuesLost | .brParity
    | .haParity | .keySlotError | .linkKeyBad | .dlCounterEnd | .ulCounterEnd | .laceFailed
    | .laceNoStore | .treeBootBad | .treeFallback | .jumpRefused | .tagRecordBad | .vbatLost
    | .hostUnreachable | .hifDmaError => 2
  | .rxPreempted | .txMap | .assocUnknown | .nodeDesync | .hoDone | .nodeOverBudget | .sbJournalNew
    | .laceDone | .treeSeated | .conTagRead | .tagWritten | .hostReached | .hifFlr => 0
  | .wiringBad | .levelMismatch | .pinConflict | .linkLong | .sbBadReq | .sbNoDevice | .sbTimeout | .late
    | .txnExpired | .stageLost | .nodeRecordBad | .portHeld | .calPartial | .diagStarved | .rxcEdge
    | .rxcNoTile | .sampleOverrun | .dupfOverwrite | .txcNoTile | .txNoHeadroom | .txMask | .txNoTile
    | .sfMismatch | .compatNoChannel | .dlUndelivered | .hoFail | .schedRebuild | .cellClash
    | .nodeBatteryLow | .mcTruncated | .stitchBroken | .stitchNoRoom | .sbLinkDegraded | .sbOversize
    | .dlQueueFull | .keyLimit | .linkKeyStale | .laceCompatTarget | .laceEsiEnd | .laceBlockRestart
    | .treeHeaderBad | .timeHoldover | .tpoMissed | .epochUnsynced | .coreDoubleFault | .coreStoresLost
    | .hifLinkDown | .conTrayFull | .tagWriteBad | .resetCause => 1

end Sys2Proof.Machine
end

