-- ==== Sys2Proof/Machine/Key.lean ====
section
/-! DEFINITION. Names of the dictionary subentries: index times 256 plus subindex (R59, Tables 2-5 to 4-22).

An object that stands in an array takes its element number; a subentry that repeats inside an object
takes its number there. A number that names no element of the array gives a key above every index, where
nothing stands. -/

namespace Sys2Proof.Machine.Key

/-- `ID_VENDOR` -/
def idVendor : Nat := 0x100001

/-- `ID_PRODUCT` -/
def idProduct : Nat := 0x100002

/-- `ID_ORDER_CODE` -/
def idOrderCode : Nat := 0x100003

/-- `ID_SILICON_REV` -/
def idSiliconRev : Nat := 0x100004

/-- `ID_EUI64` -/
def idEui64 : Nat := 0x100005

/-- `ID_SERIAL` -/
def idSerial : Nat := 0x100006

/-- `ID_TREE_VERSION` -/
def idTreeVersion : Nat := 0x100007

/-- `ID_CHAIN_LEVEL` -/
def idChainLevel : Nat := 0x100008

/-- `ID_OBJECTS` -/
def idObjects : Nat := 0x100009

/-- `ID_SUBENTRIES` -/
def idSubentries : Nat := 0x10000A

/-- `ID_STRAPS` -/
def idStraps : Nat := 0x10000B

/-- `ID_UPTIME_S` -/
def idUptimeS : Nat := 0x10000C

/-- `CHAIN_ADDR` -/
def chainAddr : Nat := 0x110001

/-- `CHAIN_PIN` -/
def chainPin : Nat := 0x110002

/-- `CHAIN_ROLE` -/
def chainRole : Nat := 0x110003

/-- `CHAIN_COUNT` -/
def chainCount : Nat := 0x110004

/-- `CHAIN_RING` -/
def chainRing : Nat := 0x110005

/-- `CHAIN_ENUM_STATE` -/
def chainEnumState : Nat := 0x110006

/-- `CHAIN_ENUM_CMD` -/
def chainEnumCmd : Nat := 0x110007

/-- `CHAIN_IDLE_BLOCKS` -/
def chainIdleBlocks : Nat := 0x110008

/-- `CHAIN_SB_TIMEOUT_US` -/
def chainSbTimeoutUs : Nat := 0x110009

/-- `CHAIN_HEAD_MISS` -/
def chainHeadMiss : Nat := 0x11000A

/-- `CHAIN_LANE_WEIGHTS` -/
def chainLaneWeights : Nat := 0x11000B

/-- `CHAIN_SWITCHOVER` -/
def chainSwitchover : Nat := 0x11000C

/-- `LINK_STATE` -/
def linkState (i : Nat) : Nat := if i < 2 then 0x110101 + 256 * i else 0x1110101

/-- `LINK_DELAY_NS` -/
def linkDelayNs (i : Nat) : Nat := if i < 2 then 0x110102 + 256 * i else 0x1110102

/-- `RX_CRC_ERR` -/
def rxCrcErr (i : Nat) : Nat := if i < 2 then 0x110103 + 256 * i else 0x1110103

/-- `RX_LEN_BAD` -/
def rxLenBad (i : Nat) : Nat := if i < 2 then 0x110104 + 256 * i else 0x1110104

/-- `TYPE_BAD` -/
def typeBad (i : Nat) : Nat := if i < 2 then 0x110105 + 256 * i else 0x1110105

/-- `RX_ABORT` -/
def rxAbort (i : Nat) : Nat := if i < 2 then 0x110106 + 256 * i else 0x1110106

/-- `HOP_EXPIRED` -/
def hopExpired (i : Nat) : Nat := if i < 2 then 0x110107 + 256 * i else 0x1110107

/-- `NO_ROUTE` -/
def noRoute (i : Nat) : Nat := if i < 2 then 0x110108 + 256 * i else 0x1110108

/-- `LINK_DOWN_EVENTS` -/
def linkDownEvents (i : Nat) : Nat := if i < 2 then 0x110109 + 256 * i else 0x1110109

/-- `CHAIN_ENUM_RES` -/
def chainEnumRes : Nat := 0x110301

/-- `CHAIN_SWITCHOVER_RES` -/
def chainSwitchoverRes : Nat := 0x110302

/-- `ERR_LOG` -/
def errLog : Nat := 0x120001

/-- `ERR_LOG_NEXT` -/
def errLogNext : Nat := 0x120002

/-- `ERR_TOTAL` -/
def errTotal : Nat := 0x120003

/-- `ERR_LOG_CLEAR` -/
def errLogClear : Nat := 0x120004

/-- `ERR_LOG_CLEAR_RES` -/
def errLogClearRes : Nat := 0x120005

/-- `ERR_MIN_SEVERITY` -/
def errMinSeverity : Nat := 0x120006

/-- `ERR_SUPPRESSED` -/
def errSuppressed : Nat := 0x120007

/-- `MEM_ERR` -/
def memErr (k : Nat) : Nat := if k < 13 then 0x120010 + k else 0x1120010

/-- `MEM_UNCORRECTED` -/
def memUncorrected : Nat := 0x12001D

/-- `CLAMP_LOG` -/
def clampLog : Nat := 0x120101

/-- `CLAMP_LOG_NEXT` -/
def clampLogNext : Nat := 0x120102

/-- `CLAMP_TOTAL` -/
def clampTotal : Nat := 0x120103

/-- `CLAMP_LOG_CLEAR` -/
def clampLogClear : Nat := 0x120104

/-- `CLAMP_LOG_CLEAR_RES` -/
def clampLogClearRes : Nat := 0x120105

/-- `DICT_TIMEOUT_US` -/
def dictTimeoutUs : Nat := 0x120201

/-- `DICT_RETRIES` -/
def dictRetries : Nat := 0x120202

/-- `DICT_BLOCK_IDLE_MS` -/
def dictBlockIdleMs : Nat := 0x120203

/-- `DICT_COMMIT_GRACE_MS` -/
def dictCommitGraceMs : Nat := 0x120204

/-- `DICT_EPOCH_MAX_S` -/
def dictEpochMaxS : Nat := 0x120205

/-- `DICT_TXN_STATE` -/
def dictTxnState : Nat := 0x120206

/-- `DICT_TXN_ID` -/
def dictTxnId : Nat := 0x120207

/-- `DICT_TXN_EPOCH` -/
def dictTxnEpoch : Nat := 0x120208

/-- `DICT_CRC_ERR` -/
def dictCrcErr : Nat := 0x120209

/-- `DICT_STORE_CMD` -/
def dictStoreCmd : Nat := 0x12020A

/-- `DICT_STORE_RES` -/
def dictStoreRes : Nat := 0x12020B

/-- `DICT_TXN_IDLE_MS` -/
def dictTxnIdleMs : Nat := 0x12020C

/-- `GRACE_UNPLACED` -/
def graceUnplaced : Nat := 0x12020D

/-- `PWR_STATE` -/
def pwrState : Nat := 0x140001

/-- `PWR_STATE_CMD` -/
def pwrStateCmd : Nat := 0x140002

/-- `PWR_STATE_RES` -/
def pwrStateRes : Nat := 0x140003

/-- `CINCH_BUDGET_MW` -/
def cinchBudgetMw : Nat := 0x140101

/-- `CINCH_TJ_LIMIT_C` -/
def cinchTjLimitC : Nat := 0x140102

/-- `CINCH_SHED_ORDER` -/
def cinchShedOrder : Nat := 0x140103

/-- `CINCH_LOW_CLASSES` -/
def cinchLowClasses : Nat := 0x140104

/-- `CINCH_POWER_MW` -/
def cinchPowerMw : Nat := 0x140105

/-- `CINCH_TOKENS` -/
def cinchTokens : Nat := 0x140106

/-- `CINCH_STAGE` -/
def cinchStage : Nat := 0x140107

/-- `SHED_COUNT` -/
def shedCount (k : Nat) : Nat := if k < 6 then 0x140110 + k else 0x1140110

/-- `TJ_SENSOR` -/
def tjSensor (k : Nat) : Nat := if k < 8 then 0x140201 + k else 0x1140201

/-- `TJ_MAX` -/
def tjMax : Nat := 0x140209

/-- `TIME_NOW` -/
def timeNow : Nat := 0x180001

/-- `TIME_INCR` -/
def timeIncr : Nat := 0x180002

/-- `TIME_JUMP_LIMIT_NS` -/
def timeJumpLimitNs : Nat := 0x180003

/-- `TIME_STEP_NS` -/
def timeStepNs : Nat := 0x180004

/-- `TIME_STEP_RES` -/
def timeStepRes : Nat := 0x180005

/-- `TIME_SET` -/
def timeSet : Nat := 0x180006

/-- `TIME_SET_RES` -/
def timeSetRes : Nat := 0x180007

/-- `TIME_STATE` -/
def timeState : Nat := 0x180008

/-- `TIME_OFFSET_NS` -/
def timeOffsetNs : Nat := 0x180009

/-- `JUMP_REFUSED` -/
def jumpRefused : Nat := 0x18000A

/-- `PTP_PORTS` -/
def ptpPorts : Nat := 0x180101

/-- `PTP_STEP_MODE` -/
def ptpStepMode : Nat := 0x180102

/-- `TIME_SOURCE` -/
def timeSource : Nat := 0x180103

/-- `TPO_MODE` -/
def tpoMode (i : Nat) : Nat := if i < 4 then 0x180201 + 256 * i else 0x1180201

/-- `TPO_START` -/
def tpoStart (i : Nat) : Nat := if i < 4 then 0x180202 + 256 * i else 0x1180202

/-- `TPO_PERIOD_NS` -/
def tpoPeriodNs (i : Nat) : Nat := if i < 4 then 0x180203 + 256 * i else 0x1180203

/-- `TPO_WIDTH_NS` -/
def tpoWidthNs (i : Nat) : Nat := if i < 4 then 0x180204 + 256 * i else 0x1180204

/-- `PORT_STATE` -/
def portState (i : Nat) : Nat := if i < 4 then 0x200001 + 256 * i else 0x1200001

/-- `PORT_STATE_CMD` -/
def portStateCmd (i : Nat) : Nat := if i < 4 then 0x200002 + 256 * i else 0x1200002

/-- `PORT_STATE_RES` -/
def portStateRes (i : Nat) : Nat := if i < 4 then 0x200003 + 256 * i else 0x1200003

/-- `PORT_AUTO_RETURN` -/
def portAutoReturn (i : Nat) : Nat := if i < 4 then 0x200004 + 256 * i else 0x1200004

/-- `PORT_CENTRE_KHZ` -/
def portCentreKhz (i : Nat) : Nat := if i < 4 then 0x200005 + 256 * i else 0x1200005

/-- `PORT_TX_LIMIT_DBM` -/
def portTxLimitDbm (i : Nat) : Nat := if i < 4 then 0x200006 + 256 * i else 0x1200006

/-- `PORT_FEM_CFG` -/
def portFemCfg (i : Nat) : Nat := if i < 4 then 0x200007 + 256 * i else 0x1200007

/-- `PORT_PD_FWD_DBM` -/
def portPdFwdDbm (i : Nat) : Nat := if i < 4 then 0x200008 + 256 * i else 0x1200008

/-- `PORT_PD_REF_DBM` -/
def portPdRefDbm (i : Nat) : Nat := if i < 4 then 0x200009 + 256 * i else 0x1200009

/-- `PORT_ANT_STATE` -/
def portAntState (i : Nat) : Nat := if i < 4 then 0x20000A + 256 * i else 0x120000A

/-- `PORT_DIAG_STRETCH` -/
def portDiagStretch (i : Nat) : Nat := if i < 4 then 0x20000B + 256 * i else 0x120000B

/-- `PORT_STARVED` -/
def portStarved (i : Nat) : Nat := if i < 4 then 0x200010 + 256 * i else 0x1200010

/-- `RXC_OWNER` -/
def rxcOwner (i : Nat) : Nat := if i < 64 then 0x210001 + 256 * i else 0x1210001

/-- `RXC_PIN` -/
def rxcPin (i : Nat) : Nat := if i < 64 then 0x210002 + 256 * i else 0x1210002

/-- `RXC_DETECT_DBM` -/
def rxcDetectDbm (i : Nat) : Nat := if i < 64 then 0x210003 + 256 * i else 0x1210003

/-- `RXC_QUALIFIER` -/
def rxcQualifier (i : Nat) : Nat := if i < 64 then 0x210004 + 256 * i else 0x1210004

/-- `RXC_BACKSTITCH` -/
def rxcBackstitch (i : Nat) : Nat := if i < 64 then 0x210005 + 256 * i else 0x1210005

/-- `RXC_PLACED` -/
def rxcPlaced (i : Nat) : Nat := if i < 64 then 0x210006 + 256 * i else 0x1210006

/-- `RXC_STATE` -/
def rxcState (i : Nat) : Nat := if i < 64 then 0x210007 + 256 * i else 0x1210007

/-- `RX_FRAMES` -/
def rxFrames (i : Nat) : Nat := if i < 64 then 0x210010 + 256 * i else 0x1210010

/-- `RX_DETECT` -/
def rxDetect (i : Nat) : Nat := if i < 64 then 0x210011 + 256 * i else 0x1210011

/-- `RX_FCS_ERR` -/
def rxFcsErr (i : Nat) : Nat := if i < 64 then 0x210012 + 256 * i else 0x1210012

/-- `RX_SEC_FAIL` -/
def rxSecFail (i : Nat) : Nat := if i < 64 then 0x210013 + 256 * i else 0x1210013

/-- `RX_REPLAY` -/
def rxReplay (i : Nat) : Nat := if i < 64 then 0x210014 + 256 * i else 0x1210014

/-- `RX_DUP` -/
def rxDup (i : Nat) : Nat := if i < 64 then 0x210015 + 256 * i else 0x1210015

/-- `RX_FOREIGN` -/
def rxForeign (i : Nat) : Nat := if i < 64 then 0x210016 + 256 * i else 0x1210016

/-- `RX_DESPREAD_TIMEOUT` -/
def rxDespreadTimeout (i : Nat) : Nat := if i < 64 then 0x210017 + 256 * i else 0x1210017

/-- `SAMPLE_OVERRUN` -/
def sampleOverrun (i : Nat) : Nat := if i < 64 then 0x210018 + 256 * i else 0x1210018

/-- `BS_RECOVERED` -/
def bsRecovered (i : Nat) : Nat := if i < 64 then 0x210019 + 256 * i else 0x1210019

/-- `BS_FAILED` -/
def bsFailed (i : Nat) : Nat := if i < 64 then 0x21001A + 256 * i else 0x121001A

/-- `TXC_OWNER` -/
def txcOwner (i : Nat) : Nat := if i < 16 then 0x220001 + 256 * i else 0x1220001

/-- `TXC_PIN` -/
def txcPin (i : Nat) : Nat := if i < 16 then 0x220002 + 256 * i else 0x1220002

/-- `TXC_POWER_DBM` -/
def txcPowerDbm (i : Nat) : Nat := if i < 16 then 0x220003 + 256 * i else 0x1220003

/-- `TXC_PLACED` -/
def txcPlaced (i : Nat) : Nat := if i < 16 then 0x220004 + 256 * i else 0x1220004

/-- `TXC_STATE` -/
def txcState (i : Nat) : Nat := if i < 16 then 0x220005 + 256 * i else 0x1220005

/-- `TX_FRAMES` -/
def txFrames (i : Nat) : Nat := if i < 16 then 0x220010 + 256 * i else 0x1220010

/-- `TX_LBT_BUSY` -/
def txLbtBusy (i : Nat) : Nat := if i < 16 then 0x220011 + 256 * i else 0x1220011

/-- `TX_CINCH_DEFER` -/
def txCinchDefer (i : Nat) : Nat := if i < 16 then 0x220012 + 256 * i else 0x1220012

/-- `TX_POWER_CUT` -/
def txPowerCut (i : Nat) : Nat := if i < 16 then 0x220013 + 256 * i else 0x1220013

/-- `TX_DUTY_BLOCK` -/
def txDutyBlock (i : Nat) : Nat := if i < 16 then 0x220014 + 256 * i else 0x1220014

/-- `STAMP_LOCKED` -/
def stampLocked : Nat := 0x230001

/-- `STAMP_LOCK_CMD` -/
def stampLockCmd : Nat := 0x230002

/-- `STAMP_LOCK_RES` -/
def stampLockRes : Nat := 0x230003

/-- `STAMP_PORT` -/
def stampPort (i : Nat) : Nat := if i < 4 then 0x230101 + 256 * i else 0x1230101

/-- `CAL_CMD` -/
def calCmd : Nat := 0x240001

/-- `CAL_RES` -/
def calRes : Nat := 0x240002

/-- `CAL_DISTURB_DBM` -/
def calDisturbDbm : Nat := 0x240003

/-- `CAL_INTERVAL_S` -/
def calIntervalS : Nat := 0x240004

/-- `CAL_COEFF` -/
def calCoeff (i : Nat) : Nat := if i < 4 then 0x240101 + 256 * i else 0x1240101

/-- `GIRTH_SLOT_US` -/
def girthSlotUs : Nat := 0x300001

/-- `GIRTH_ASN` -/
def girthAsn : Nat := 0x300002

/-- `GIRTH_COMPAT` -/
def girthCompat : Nat := 0x300003

/-- `GUARD_BASE_US` -/
def guardBaseUs : Nat := 0x300004

/-- `GUARD_GROWTH_PPM` -/
def guardGrowthPpm : Nat := 0x300005

/-- `GUARD_CAP_US` -/
def guardCapUs : Nat := 0x300006

/-- `DESYNC_NODES` -/
def desyncNodes : Nat := 0x300007

/-- `DESYNC_EVENTS` -/
def desyncEvents : Nat := 0x300008

/-- `ASSOC_OPEN` -/
def assocOpen : Nat := 0x300009

/-- `DL_RETRY_LIMIT` -/
def dlRetryLimit : Nat := 0x30000A

/-- `DL_UNDELIVERED` -/
def dlUndelivered : Nat := 0x30000B

/-- `SF_SLOTS` -/
def sfSlots (i : Nat) : Nat := if i < 32 then 0x301001 + 256 * i else 0x1301001

/-- `SF_TENANT` -/
def sfTenant (i : Nat) : Nat := if i < 32 then 0x301002 + 256 * i else 0x1301002

/-- `SF_BEACON_EVERY` -/
def sfBeaconEvery (i : Nat) : Nat := if i < 32 then 0x301003 + 256 * i else 0x1301003

/-- `SF_SHARED_SLOTS` -/
def sfSharedSlots (i : Nat) : Nat := if i < 32 then 0x301004 + 256 * i else 0x1301004

/-- `TEN_ENABLE` -/
def tenEnable (i : Nat) : Nat := if i < 256 then 0x310001 + 256 * i else 0x1310001

/-- `TEN_PAN_ID` -/
def tenPanId (i : Nat) : Nat := if i < 256 then 0x310002 + 256 * i else 0x1310002

/-- `TEN_CHMAP` -/
def tenChmap (i : Nat) (k : Nat) : Nat := if i < 256 ∧ k < 4 then 0x310003 + 256 * i + k else 0x1310003

/-- `TEN_SLOTFRAME` -/
def tenSlotframe (i : Nat) : Nat := if i < 256 then 0x310007 + 256 * i else 0x1310007

/-- `TEN_SEC_LEVEL` -/
def tenSecLevel (i : Nat) : Nat := if i < 256 then 0x310008 + 256 * i else 0x1310008

/-- `TEN_KEY_SLOT` -/
def tenKeySlot (i : Nat) : Nat := if i < 256 then 0x310009 + 256 * i else 0x1310009

/-- `TEN_NODE_MAX` -/
def tenNodeMax (i : Nat) : Nat := if i < 256 then 0x31000A + 256 * i else 0x131000A

/-- `TEN_NODES` -/
def tenNodes (i : Nat) : Nat := if i < 256 then 0x31000B + 256 * i else 0x131000B

/-- `TEN_BUDGET_NAH` -/
def tenBudgetNah (i : Nat) : Nat := if i < 256 then 0x31000C + 256 * i else 0x131000C

/-- `SCHED_DAY_START_S` -/
def schedDayStartS : Nat := 0x320001

/-- `SCHED_WHEEL_USED` -/
def schedWheelUsed : Nat := 0x320002

/-- `SCHED_WHEEL_SPILL` -/
def schedWheelSpill : Nat := 0x320003

/-- `LEDGER_DEFERRALS` -/
def ledgerDeferrals : Nat := 0x320004

/-- `SCHED_MISSED` -/
def schedMissed : Nat := 0x320005

/-- `COST_TABLE` -/
def costTable : Nat := 0x320101

/-- `HAR_ALPHA_K` -/
def harAlphaK : Nat := 0x400001

/-- `HAR_SPILLABLE` -/
def harSpillable : Nat := 0x400002

/-- `HAR_FREE_CELLS` -/
def harFreeCells : Nat := 0x400003

/-- `LEN_CONFLICT_COPY` -/
def lenConflictCopy : Nat := 0x400004

/-- `PARSE_DEEP` -/
def parseDeep : Nat := 0x400005

/-- `LEN_CONFLICT` -/
def lenConflict : Nat := 0x400006

/-- `HP_RX` -/
def hpRx (i : Nat) : Nat := if i < 12 then 0x400101 + 256 * i else 0x1400101

/-- `HP_TX` -/
def hpTx (i : Nat) : Nat := if i < 12 then 0x400102 + 256 * i else 0x1400102

/-- `HP_DROP` -/
def hpDrop (i : Nat) : Nat := if i < 12 then 0x400103 + 256 * i else 0x1400103

/-- `Q_CELLS` -/
def qCells (i : Nat) : Nat := if i < 96 then 0x402001 + 256 * i else 0x1402001

/-- `Q_SPILLED` -/
def qSpilled (i : Nat) : Nat := if i < 96 then 0x402002 + 256 * i else 0x1402002

/-- `Q_DROPS` -/
def qDrops (i : Nat) : Nat := if i < 96 then 0x402003 + 256 * i else 0x1402003

/-- `Q_SPILLS` -/
def qSpills (i : Nat) : Nat := if i < 96 then 0x402004 + 256 * i else 0x1402004

/-- `SB_ATTACHED` -/
def sbAttached : Nat := 0x410001

/-- `SB_LINK_STATE` -/
def sbLinkState : Nat := 0x410002

/-- `SB_LAYOUT` -/
def sbLayout : Nat := 0x410003

/-- `SB_JOURNAL_SEQ` -/
def sbJournalSeq : Nat := 0x410004

/-- `SB_REMOTE_SERVE` -/
def sbRemoteServe : Nat := 0x410005

/-- `CXL_RETRAINS` -/
def cxlRetrains : Nat := 0x410101

/-- `CXL_REPLAYED` -/
def cxlReplayed : Nat := 0x410102

/-- `CXL_FAILED` -/
def cxlFailed : Nat := 0x410103

/-- `SB_MEDIA_ERR` -/
def sbMediaErr : Nat := 0x410104

/-- `SQ_ITEMS` -/
def sqItems (i : Nat) : Nat := if i < 64 then 0x411001 + 256 * i else 0x1411001

/-- `SQ_LIMIT` -/
def sqLimit (i : Nat) : Nat := if i < 64 then 0x411002 + 256 * i else 0x1411002

/-- `SQ_WELTS` -/
def sqWelts (i : Nat) : Nat := if i < 64 then 0x411003 + 256 * i else 0x1411003

/-- `SQ_LOST` -/
def sqLost (i : Nat) : Nat := if i < 64 then 0x411004 + 256 * i else 0x1411004

/-- `SQ_POISON` -/
def sqPoison (i : Nat) : Nat := if i < 64 then 0x411005 + 256 * i else 0x1411005

/-- `SQ_RESETS` -/
def sqResets (i : Nat) : Nat := if i < 64 then 0x411006 + 256 * i else 0x1411006

/-- `BRIDLE_USED` -/
def bridleUsed : Nat := 0x420001

/-- `BRIDLE_PARITY_ERR` -/
def bridleParityErr : Nat := 0x420002

/-- `HALTER_USED` -/
def halterUsed : Nat := 0x420101

/-- `HALTER_OVF_USED` -/
def halterOvfUsed : Nat := 0x420102

/-- `HALTER_EVICT` -/
def halterEvict : Nat := 0x420103

/-- `HALTER_EVICTIONS` -/
def halterEvictions : Nat := 0x420104

/-- `HALTER_PARITY_ERR` -/
def halterParityErr : Nat := 0x420105

/-- `LEARN_NOTIFY` -/
def learnNotify : Nat := 0x420106

/-- `DL_UNKNOWN` -/
def dlUnknown : Nat := 0x420107

/-- `STITCH_MAX_HOPS` -/
def stitchMaxHops : Nat := 0x420201

/-- `STITCH_TOO_DEEP` -/
def stitchTooDeep : Nat := 0x420202

/-- `NODE_WIN_FIRST` -/
def nodeWinFirst : Nat := 0x421001

/-- `NODE_WIN_COUNT` -/
def nodeWinCount : Nat := 0x421002

/-- `NODE_WIN` -/
def nodeWin : Nat := 0x421003

/-- `NODE_WIN_BAD` -/
def nodeWinBad : Nat := 0x421004

/-- `CURB_SAMPLE` -/
def curbSample (i : Nat) : Nat := if i < 256 then 0x430001 + 256 * i else 0x1430001

/-- `CURB_SAMPLE_EXP` -/
def curbSampleExp (i : Nat) : Nat := if i < 256 then 0x430002 + 256 * i else 0x1430002

/-- `POL_MODE` -/
def polMode (i : Nat) (c : Nat) : Nat := if i < 256 ∧ c < 8 then 0x430010 + 256 * i + 8 * c else 0x1430010

/-- `POL_CIR_KBPS` -/
def polCirKbps (i : Nat) (c : Nat) : Nat := if i < 256 ∧ c < 8 then 0x430011 + 256 * i + 8 * c else 0x1430011

/-- `POL_CBS` -/
def polCbs (i : Nat) (c : Nat) : Nat := if i < 256 ∧ c < 8 then 0x430012 + 256 * i + 8 * c else 0x1430012

/-- `POL_XBS` -/
def polXbs (i : Nat) (c : Nat) : Nat := if i < 256 ∧ c < 8 then 0x430013 + 256 * i + 8 * c else 0x1430013

/-- `POL_PIR_KBPS` -/
def polPirKbps (i : Nat) (c : Nat) : Nat := if i < 256 ∧ c < 8 then 0x430014 + 256 * i + 8 * c else 0x1430014

/-- `POL_GREEN` -/
def polGreen (i : Nat) (c : Nat) : Nat := if i < 256 ∧ c < 8 then 0x430015 + 256 * i + 8 * c else 0x1430015

/-- `POL_YELLOW` -/
def polYellow (i : Nat) (c : Nat) : Nat := if i < 256 ∧ c < 8 then 0x430016 + 256 * i + 8 * c else 0x1430016

/-- `POL_RED` -/
def polRed (i : Nat) (c : Nat) : Nat := if i < 256 ∧ c < 8 then 0x430017 + 256 * i + 8 * c else 0x1430017

/-- `SHP_RATE_KBPS` -/
def shpRateKbps (i : Nat) (c : Nat) : Nat := if i < 256 ∧ c < 16 then 0x430050 + 256 * i + 2 * c else 0x1430050

/-- `SHP_BURST` -/
def shpBurst (i : Nat) (c : Nat) : Nat := if i < 256 ∧ c < 16 then 0x430051 + 256 * i + 2 * c else 0x1430051

/-- `KEEPER_STATE` -/
def keeperState : Nat := 0x500001

/-- `KEEPER_SLOTS_USED` -/
def keeperSlotsUsed : Nat := 0x500002

/-- `TAMPER_ENABLE` -/
def tamperEnable : Nat := 0x500003

/-- `TAMPER_LAST` -/
def tamperLast : Nat := 0x500004

/-- `TAMPER_EVENTS` -/
def tamperEvents : Nat := 0x500005

/-- `KEEPER_PROVISION` -/
def keeperProvision : Nat := 0x500006

/-- `KEEPER_PROVISION_RES` -/
def keeperProvisionRes : Nat := 0x500007

/-- `ATTEST_CMD` -/
def attestCmd : Nat := 0x500101

/-- `ATTEST_RES` -/
def attestRes : Nat := 0x500102

/-- `LACE_ACTIVE` -/
def laceActive : Nat := 0x510001

/-- `LACE_REPAIRS` -/
def laceRepairs : Nat := 0x510002

/-- `CAMP_STATE` -/
def campState (i : Nat) : Nat := if i < 16 then 0x511001 + 256 * i else 0x1511001

/-- `CAMP_IMAGE_ADDR` -/
def campImageAddr (i : Nat) : Nat := if i < 16 then 0x511002 + 256 * i else 0x1511002

/-- `CAMP_IMAGE_BYTES` -/
def campImageBytes (i : Nat) : Nat := if i < 16 then 0x511003 + 256 * i else 0x1511003

/-- `CAMP_TENANT` -/
def campTenant (i : Nat) : Nat := if i < 16 then 0x511004 + 256 * i else 0x1511004

/-- `CAMP_TARGETS` -/
def campTargets (i : Nat) : Nat := if i < 16 then 0x511005 + 256 * i else 0x1511005

/-- `CAMP_CMD` -/
def campCmd (i : Nat) : Nat := if i < 16 then 0x511006 + 256 * i else 0x1511006

/-- `CAMP_RES` -/
def campRes (i : Nat) : Nat := if i < 16 then 0x511007 + 256 * i else 0x1511007

/-- `CAMP_DONE` -/
def campDone (i : Nat) : Nat := if i < 16 then 0x511008 + 256 * i else 0x1511008

/-- `CAMP_PENDING` -/
def campPending (i : Nat) : Nat := if i < 16 then 0x511009 + 256 * i else 0x1511009

/-- `TREE_ACTIVE_BANK` -/
def treeActiveBank : Nat := 0x520001

/-- `TREE_IMAGE` -/
def treeImage : Nat := 0x520002

/-- `TREE_VERSION_A` -/
def treeVersionA : Nat := 0x520003

/-- `TREE_VERSION_B` -/
def treeVersionB : Nat := 0x520004

/-- `TREE_SWITCH_CMD` -/
def treeSwitchCmd : Nat := 0x520005

/-- `TREE_SWITCH_RES` -/
def treeSwitchRes : Nat := 0x520006

/-- `SEAT_OK` -/
def seatOk : Nat := 0x520007

/-- `SEAT_OK_RES` -/
def seatOkRes : Nat := 0x520008

/-- `SEAT_WINDOW_S` -/
def seatWindowS : Nat := 0x520009

/-- `TREE_FALLBACKS` -/
def treeFallbacks : Nat := 0x52000A

/-- `BANK_WIPE_CMD` -/
def bankWipeCmd : Nat := 0x52000B

/-- `BANK_WIPE_RES` -/
def bankWipeRes : Nat := 0x52000C

/-- `CON_READER` -/
def conReader : Nat := 0x600001

/-- `CON_PROTOCOLS` -/
def conProtocols : Nat := 0x600002

/-- `CON_WTX_CAP` -/
def conWtxCap : Nat := 0x600003

/-- `CON_LPCD` -/
def conLpcd : Nat := 0x600004

/-- `CON_LPCD_MS` -/
def conLpcdMs : Nat := 0x600005

/-- `TAG_ENABLE` -/
def tagEnable : Nat := 0x600101

/-- `TAG_STATE` -/
def tagState : Nat := 0x600102

/-- `TAG_AUTH` -/
def tagAuth : Nat := 0x600103

/-- `TAG_PASSWORD` -/
def tagPassword : Nat := 0x600104

/-- `TAG_KEY_SLOT` -/
def tagKeySlot : Nat := 0x600105

/-- `TAG_NDEF` -/
def tagNdef : Nat := 0x600106

/-- `TAG_FD_WAKE` -/
def tagFdWake : Nat := 0x600107

/-- `TAG_AUTH_FAILS` -/
def tagAuthFails : Nat := 0x600108

/-- `CORE_FREQ_MHZ` -/
def coreFreqMhz : Nat := 0x700001

/-- `CORE_STATE` -/
def coreState (i : Nat) : Nat := if i < 16 then 0x700101 + 256 * i else 0x1700101

/-- `CORE_IMAGE` -/
def coreImage (i : Nat) : Nat := if i < 16 then 0x700102 + 256 * i else 0x1700102

/-- `CORE_RUN_CMD` -/
def coreRunCmd (i : Nat) : Nat := if i < 16 then 0x700103 + 256 * i else 0x1700103

/-- `CORE_RUN_RES` -/
def coreRunRes (i : Nat) : Nat := if i < 16 then 0x700104 + 256 * i else 0x1700104

/-- `CORE_LOAD_PCT` -/
def coreLoadPct (i : Nat) : Nat := if i < 16 then 0x700105 + 256 * i else 0x1700105

/-- `CORE_EXCEPTIONS` -/
def coreExceptions (i : Nat) : Nat := if i < 16 then 0x700106 + 256 * i else 0x1700106

/-- `CORE_STORES_LOST` -/
def coreStoresLost (i : Nat) : Nat := if i < 16 then 0x700107 + 256 * i else 0x1700107

/-- `BUCKLE_SOURCES` -/
def buckleSources : Nat := 0x702001

/-- `SRC_TARGETS` -/
def srcTargets (i : Nat) : Nat := if i < 256 then 0x710001 + 256 * i else 0x1710001

/-- `SRC_EDGE` -/
def srcEdge (i : Nat) : Nat := if i < 256 then 0x710002 + 256 * i else 0x1710002

/-- `SRC_EVENTS` -/
def srcEvents (i : Nat) : Nat := if i < 256 then 0x710003 + 256 * i else 0x1710003

end Sys2Proof.Machine.Key
end

