-- ==== Sys2Proof/Config.lean ====
section
/-! DEFINITION. What one part fixes, and the free values.

Every constant here has no body that a proof can see: a statement about the model holds whatever the
constant is. The per-part constants are copied into the state at reset; the free values are applied
to the state's own counter, so that each use is a fresh value. -/

namespace Sys2Proof.Config

/-- A free value of w bits, the n-th that this machine draws (log 1): a result that the manual does
not state, or that the hardware draws from its random source. -/
opaque freeBits (w : Nat) (n : Nat) : BitVec w

/-- Device identity EUI-64 of this part (`ID_EUI64`, R102; log 4). -/
opaque eui64 : BitVec 64

/-- Ordering code of this part, 0 or 1 (`ID_ORDER_CODE`, R102; log 4). -/
opaque orderCode : BitVec 1

/-- Production serial number of this part, 32 bytes (`ID_SERIAL`, R102; log 4). -/
opaque serial : BitVec 256

/-- The device-identity seed blown into this part's fuses (R366, R380; log 4). -/
opaque identitySeed : BitVec 256

/-- Tree image that this part carries in bank A when it is shipped, and its running version and levels (R102,
R417; log 5). -/
opaque shippedTree : Bytes

/-- What a byte of the running tree image's address range reads as beyond the image (Table 18-8 gives the range 16 MiB
and an image may be shorter; log 57). -/
opaque beyondImage (addr : Nat) : Byte

/-- Krabrikin image key in the boot ROM: the public point, X then Y (R420; log 5). -/
opaque imageKey : BitVec 512

/-- Coefficients of a port measured at production test and held in fuses, laid out as `CAL_COEFF` (R148; log 119). -/
opaque productionCal (p : Nat) : Bytes

/-- Strength, in half dBm at the ball, that brings the ADC to full scale at gain step 0 (R167; log 120). -/
opaque adcFullScale : Int

/-- Calibrated size, in half dB, of a gain step, from its entries of `CAL_COEFF` (R168, Table 5-9; log 120). -/
opaque gainStepSize (lower upper : Bytes) : Int

/-- Sample j of the 32 of a half-sine pulse in the modulator's number format (R193; log 121). -/
opaque halfSine (j : Nat) : Int

/-- Sample k at a rate, in kHz, interpolated from a stream at another (R193 item 1; log 121). -/
opaque interpolate (fromKhz toKhz : Nat) (samples : List (Int × Int)) (k : Nat) : Int × Int

/-- A sample at place k of a rate turned by a shift in kHz (R193 item 2; log 121). -/
opaque rotate (shift : Int) (rateKhz k : Nat) (v : Int × Int) : Int × Int

/-- A sample scaled to a power in half dB (R193 item 3; log 121). -/
opaque scaled (power : Int) (v : Int × Int) : Int × Int

/-- A sample under the raised-cosine envelope of ramps of some µs (R202; log 121). -/
opaque envelope (rampUs k : Nat) (v : Int × Int) : Int × Int

/-- What a rebuilt stronger frame of a level (half dB), offset (100 Hz) and phase (1/16 chip) adds to one soft chip of a candidate,
from its own chip there (R184; log 122). -/
opaque rebuilt (level fofs phase : Int) (k : Nat) (chip : Bool) : Int

end Sys2Proof.Config
end

