-- ==== Sys2Proof/Machine/State.lean ====
section
/-! DEFINITION. The state of the device, as plain data, and the state after reset. -/

namespace Sys2Proof.Machine

/-! ### Identity, pins and supplies -/

/-- Per-part constants copied from Config at reset (R102, R366). -/
structure Ident where
  eui64 : Nat
  orderCode : Nat
  serial : Nat
  seed : BitVec 256
  deriving DecidableEq, Repr

/-- The front-end pins of one port (Table 5-2); none: high impedance. -/
structure FemPin where
  lna : Option Bool
  pa : Option Bool
  /-- antenna switch code -/
  ant : Option Nat
  /-- elapsed time at which LNA_EN and PA_EN were last asserted, their lead before the state (Table 5-3) -/
  lnaAt : Nat
  paAt : Nat
  deriving DecidableEq, Repr

/-- Levels of the pins that commands sense or drive. -/
structure Pins where
  /-- HEAD_SEL strap (R36) -/
  headSel : Bool
  /-- SHUTDOWN_N is low (R542) -/
  shutdownLow : Bool
  /-- RESET_N is low (R554) -/
  resetLow : Bool
  /-- FD_N is driven low (R530) -/
  fdLow : Bool
  /-- levels of TPO0 to TPO3 (R448) -/
  tpo : Vector Bool 4
  /-- FEM_x pins of the four ports (R127) -/
  fem : Vector FemPin 4
  deriving DecidableEq, Repr

/-! ### Time (Time Unit, Pulses and Chain Time) -/

/-- The time unit: counter, elapsed device time, servo (R430 to R441). -/
structure Clock where
  /-- chain seconds, 48 bits -/
  sec : Nat
  /-- nanoseconds, 30 bits -/
  ns : Nat
  /-- fraction of a nanosecond, 28 bits -/
  frac : Nat
  /-- elapsed device time in 4 ns cycles, 64 bits (R433) -/
  elapsed : Nat
  /-- 0x1800.08 `TIME_STATE` -/
  state : Nat
  /-- servo integrator, in 1/64 ppb -/
  integ : Int
  /-- servo correction, in 1/64 ppb -/
  corr : Int
  /-- step generation, 16 bits (R437, R439) -/
  stepGen : Nat
  /-- no sample since state 0 was entered (Table 17-1) -/
  fresh : Bool
  /-- consecutive samples within 50 ns in state 0 -/
  good : Nat
  /-- corrections with the elapsed time they took effect, newest first, kept for 16 s (Table 17-1) -/
  history : List (Nat × Int)
  /-- elapsed time at which holdover began -/
  heldSince : Nat
  /-- a refusal was posted in this holdover -/
  posted : Bool
  /-- elapsed time of the last accepted sample -/
  lastSample : Nat
  /-- the master's Sync interval, µs, as the last exchange named it -/
  syncUs : Nat
  deriving DecidableEq, Repr

/-- Values by which a pulse output runs (R448, R449). -/
structure PulseSet where
  mode : Nat
  start : Time80
  periodNs : Nat
  widthNs : Nat
  deriving DecidableEq, Repr

/-- One pulse output (R448 to R450). -/
structure Pulse where
  /-- values in force while armed -/
  run : Option PulseSet
  /-- a change of start, period or width waits for the falling edge -/
  waiting : Bool
  /-- an arming waits for the falling edge -/
  arming : Bool
  /-- the arming instant, chain time in ns -/
  armedAt : Nat
  /-- instant of the next pulse, chain time in ns; none: none to come -/
  next : Option Nat
  /-- elapsed time of the falling edge while high -/
  fallAt : Option Nat
  deriving DecidableEq, Repr

/-! ### Tack chain -/

/-- One chain port (R27 to R34, R51). -/
structure ChainPort where
  partner : Option LinkMsg
  /-- credits held per lane, units of 64 bytes -/
  credits : Vector Nat 4
  /-- credits to return per lane -/
  owed : Vector Nat 4
  /-- blocks are ignored until the next start block (R34) -/
  ignoring : Bool
  /-- frames that wait for credits, oldest first -/
  out : List ChainFrame
  /-- deficits of lanes 0 to 3 in bytes (R32) -/
  deficit : Vector Nat 4
  turn : Nat
  /-- stamp t1 of a measurement in progress -/
  t1 : Option Nat
  /-- accepted delay measurements, newest first, at most 16 (R440) -/
  delays : List Nat
  /-- consecutive measurements discarded -/
  discards : Nat
  /-- measurements taken on this port -/
  measured : Nat
  /-- the last measurement was above 20 µs (R51) -/
  long : Bool
  deriving DecidableEq, Repr

/-- Enumeration run by this device as candidate or head (R37, R41, R43). -/
structure EnumRun where
  dir : Side
  full : Bool
  attempts : Nat
  /-- SURVEY returned on the other port -/
  ring : Bool
  mask : Nat
  count : Nat
  started : Nat
  deriving DecidableEq, Repr

/-- A remote Saddlebag request in flight (R54, R55). -/
structure SbOpen where
  tag : Nat
  req : SbReq
  sentAt : Nat
  deriving DecidableEq, Repr

/-- Chain state of the device (R35 to R55). -/
structure Chain where
  portUp : ChainPort
  portDn : ChainPort
  topo : Topo
  enumRun : Option EnumRun
  /-- address claimed in SURVEY for the pass in progress -/
  claim : Option Nat
  /-- elapsed time of the last HEAD frame received (R44) -/
  headAt : Nat
  /-- a full enumeration is still owed since the cold start (R42) -/
  fullOwed : Bool
  /-- next TAG of a Saddlebag request, 32 bits (R55) -/
  nextTag : Nat
  opens : List SbOpen
  /-- responses that matched no open request (R55) -/
  late : Nat
  deriving DecidableEq, Repr

/-! ### Dictionary service -/

/-- Contents of the stored defaults in MRAM bank C (R65, R67). -/
structure BankC where
  nums : KMap Nat
  doms : KMap Bytes
  deriving DecidableEq, Repr

/-- State of the dictionary and its server (R59 to R95). The numbers of all subentries, the byte
strings of DOMAIN objects and the results of commands have their one home here. -/
structure Dictionary where
  /-- numbers by key; an unlisted key reads its built-in default -/
  nums : KMap Nat
  /-- byte strings by key; an unlisted key reads its built-in default -/
  doms : KMap Bytes
  /-- results by key of the RES object; unlisted: header zero -/
  results : KMap ResRec
  /-- R65 has completed (R68) -/
  ready : Bool
  clampLog : KMap ClampEntry
  errLog : KMap ErrEntry
  /-- elapsed time of the newest entry of severity 2 or 3, for status lamp 2 (Table 22-2) -/
  alarmAt : Option Nat
  /-- stored responses, newest first (R78) -/
  stored : List Stored
  /-- requests that wait for a wake from STANDBY, oldest first (R537) -/
  waiting : List (Via × Access)
  /-- lane-1 units that receive buffers hold for waiting requests beyond the 16th, with their ports (R77) -/
  held : List (Side × Nat)
  subs : List Subscription
  transfers : List Transfer
  txn : Option Txn
  /-- newest first, at most 4 (R90) -/
  outcomes : List TxnRecord
  graces : List Grace
  /-- stored defaults; none: no set is stored -/
  bankC : Option BankC
  /-- a store (the new set) or an erase (none) in progress (R67) -/
  storing : Option (Option BankC)
  /-- next REQ_ID of this device, 16 bits (R79) -/
  nextReq : Nat
  asked : List Asked
  deriving DecidableEq, Repr

/-! ### Power, reset and the battery-backed domain -/

/-- Steps of the shutdown sequence (Table 21-3). -/
inductive ShutPhase where
  /-- triggered, retention not committed -/
  | running
  /-- retention committed, main domains in reset -/
  | committed
  deriving DecidableEq, Repr

/-- A shutdown in progress or completed (R542 to R546). -/
structure Shutdown where
  phase : ShutPhase
  /-- elapsed time of the retention commit -/
  committedAt : Nat
  /-- state in which the trigger found the device -/
  found : Nat
  /-- elapsed time of the trigger -/
  since : Nat
  thermal : Bool
  /-- the supply returned (R543, R544) -/
  returned : Bool
  /-- off time elapsed (R544) -/
  offDone : Bool
  /-- TJ_MAX has fallen below 90 °C since a thermal trip (R546) -/
  cool : Bool
  deriving DecidableEq, Repr

/-- Phase of an island, or of a tile's islands (Table 5-7). -/
inductive Island where
  | off
  | starting
  | on
  | stopping
  deriving DecidableEq, Repr

/-- Islands of a tile, or the island of a core (R140, R141, R539). -/
structure Islands where
  phase : Island
  /-- elapsed time at which ON or OFF was reached -/
  since : Nat
  /-- pending request: true start, false stop -/
  want : Option Bool
  deriving DecidableEq, Repr

/-- A start in progress (Table 21-2): released, and RESET_CAUSE not posted yet. -/
structure StartUp where
  /-- a cold start -/
  cold : Bool
  /-- cause (Table 21-6) -/
  cause : Nat
  /-- VBAT was lost (R551) -/
  vbatLost : Bool
  /-- elapsed time at its reference: step 1 of a cold start, step 3 of a warm one -/
  since : Nat
  deriving DecidableEq, Repr

/-- Power sequencing (R533 to R547). -/
structure Power where
  /-- transition in progress: its target -/
  moving : Option Nat
  /-- pending request (R538) -/
  pending : Option Nat
  /-- final target of the run of `PWR_STATE_CMD` -/
  goal : Option Nat
  /-- elapsed time at which the dwell of the present state ends -/
  dwellUntil : Nat
  shutdown : Option Shutdown
  /-- the start whose RESET_CAUSE is not posted yet; while R65 has not completed, dict.ready is false -/
  start : Option StartUp
  /-- cause that the next cold start will post; none: a power-on, inferred from the VBAT header (R549) -/
  cause : Option Nat
  /-- the main rails are in their operating range -/
  rails : Bool
  /-- a shutdown trigger is held until start-up ends (R541) -/
  held : Bool
  /-- islands of the 16 cores (R539) -/
  coreIslands : Vector Islands 16
  /-- elapsed time at which the transition in progress began -/
  movedAt : Nat
  /-- elapsed time of the last watchdog refresh (R547) -/
  watchdog : Nat
  deriving DecidableEq, Repr

/-- The battery-backed registers (Table 21-7) outside the dictionary values they hold. -/
structure Vbat where
  /-- flag [0]: contents valid since the last loss of VBAT -/
  valid : Bool
  /-- flag [3]: clean shutdown record valid -/
  clean : Bool
  /-- flag [1] -/
  tamper : Bool
  /-- cause of the last reset -/
  cause : Nat
  /-- shutdown sequence, U32 -/
  shutSeq : Nat
  /-- RTC seconds at the last retention commit -/
  rtcAtCommit : Nat
  /-- RTC seconds -/
  rtc : Nat
  /-- cycles counted since the RTC's last second -/
  rtcFrac : Nat
  /-- root secret; none: no root (flag [2] clear) -/
  root : Option (BitVec 256)
  rootGen : Nat
  /-- counter epoch E -/
  epochE : Nat
  /-- battery-backed copies of RWP subentries (R66) -/
  rwp : KMap Nat
  tamperLast : Nat
  tamperEvents : Nat
  /-- vendor firmware area, bytes 4,096 to 8,191 by offset; unlisted bytes are 0 -/
  vendor : KMap Byte
  /-- VBAT ball below 1.70 V (R369) -/
  low : Bool
  deriving DecidableEq, Repr

/-! ### Radio: ports, tiles, calibration, Stamp -/

/-- A port and its state machine (R129 to R139, R155 to R157). `PORT_STATE` stands in the dictionary. -/
structure Port where
  /-- state towards which a step runs -/
  step : Option Nat
  /-- target of the running host command -/
  host : Option Nat
  /-- the power sequencer wants SLEEP -/
  seq : Bool
  /-- the device's own raising under R133, with its target -/
  own : Option Nat
  /-- state to return to after a relock or retune (R137, R138) -/
  back : Option Nat
  /-- elapsed time at which the present state was entered -/
  since : Nat
  /-- failed lock attempts in a row -/
  tries : Nat
  /-- a relock or retune is in progress: the state to resume -/
  resume : Option Nat
  /-- centre in force, kHz -/
  centre : Nat
  /-- `PORT_FEM_CFG` as sampled (R128) -/
  fem : Nat
  /-- port gain step, 0 to 31 (R167) -/
  gain : Nat
  /-- elapsed time of the last gain change -/
  gainAt : Option Nat
  /-- gain steps in force before the last changes, newest first, each with the elapsed time at which it ended -/
  gains : List (Nat × Nat)
  /-- elapsed time at which a transmit tile of the port last started or ended; none: the burst since then has been measured (R155) -/
  burst : Option Nat
  /-- calibrated or given valid coefficients since the reset (R148) -/
  calibrated : Bool
  /-- elapsed time of the last calibration run (R147) -/
  lastCal : Nat
  /-- elapsed time of the last measurable burst, exit from STANDBY or setting of `PD_USED` (R157) -/
  diagSince : Nat
  /-- consecutive bursts below 3.0 dB and at 4.0 dB or above -/
  lowBursts : Nat
  goodBursts : Nat
  deriving DecidableEq, Repr

/-- The despread loop of a frame (R171, R172, R174). -/
structure RxLoop where
  /-- correlation of the last spread symbol (Deep modes) -/
  ref : Int
  /-- frequency word of the despread oscillator as its offset from nominal, 0.1 ppm -/
  word : Int
  /-- phase corrections, 1/16 chip -/
  phase : Int
  /-- consecutive symbol periods below 12/64 of full correlation -/
  low : Nat
  /-- 8 of them have passed in a row -/
  lost : Bool
  /-- sum of the normalised correlations × 255, and the symbols in it -/
  qual : Nat
  count : Nat
  deriving DecidableEq, Repr

/-- What a tile saves of a captured frame that had passed its SFD (R180). -/
structure SavedFrame where
  /-- PHR and PSDU octets decoded -/
  octets : Bytes
  loop : RxLoop
  fofs : Int
  /-- chain time, ns, of the stamp -/
  stamp : Nat
  /-- port gain step at the SFD -/
  gain : Nat
  deriving DecidableEq, Repr

/-- A collision candidate (R180, R181). -/
structure Candidate where
  late : Bool
  /-- elapsed time of the start of need -/
  need : Nat
  /-- power difference, half dB -/
  diff : Nat
  /-- the frame had captured the tile from another -/
  capt : Bool
  saved : Option SavedFrame
  deriving DecidableEq, Repr

/-- A frame in detection or reception on a tile. -/
structure RxFrame where
  /-- elapsed time of detection -/
  at0 : Nat
  /-- elapsed time of qualification -/
  qualified : Option Nat
  /-- elapsed time at which the SFD was found -/
  sfd : Option Nat
  /-- chain time, ns, of the stamp -/
  stamp : Nat
  /-- port gain step at the SFD -/
  gain : Nat
  /-- the tile's digital gain, half dB, frozen at the detection (R167, R168) -/
  agc : Int
  /-- frequency shift by which AFC steers the tile, 100 Hz; none: AFC does not run (R169) -/
  afc : Option Int
  fofs : Int
  /-- strength in half dB -/
  level : Int
  /-- PHR length -/
  len : Option Nat
  capt : Bool
  loop : RxLoop
  cands : List Candidate
  deriving DecidableEq, Repr

/-- A receive tile (R162 to R181). `RXC_STATE` and `RXC_PLACED` stand in the dictionary. -/
structure RxTile where
  isl : Islands
  /-- placement to take at the safe point; 0xFFFFFFFF unplaced -/
  next : Option Nat
  /-- Girth's triple held by the tile: tenant it was placed for -/
  triple : Option Nat
  frame : Option RxFrame
  /-- Skiver bin, and the shift from its centre in kHz (R161) -/
  bin : Nat
  shift : Int
  /-- elapsed time until which a calibration keeps the tile out of listening (R143) -/
  calUntil : Nat
  /-- elapsed time from which the history is written (R179) -/
  histFrom : Nat
  /-- elapsed time since which the tile has been blanked -/
  blankSince : Option Nat
  /-- invalid blocks of 64 µs, first and last, within the ring (R179) -/
  bad : List (Nat × Nat)
  /-- pairs of pin and port centre already posted (R161, R162) -/
  edgePosted : Option (Nat × Nat)
  noTilePosted : Option (Nat × Nat)
  deriving DecidableEq, Repr

/-- A transmission held by a transmit tile (R195 to R207). -/
structure TxJob where
  req : TxReq
  /-- PSDU without FCS, secured -/
  psdu : Bytes
  /-- energy granted, µJ -/
  grant : Nat
  sub : Nat
  /-- airtime reserved in the duty bucket, µs -/
  airtime : Nat
  lbt : Bool
  /-- the listen is over and the channel was clear -/
  clear : Bool
  /-- elapsed time of the ramp's start -/
  rampAt : Option Nat
  /-- chain time of the first chip, ns, once the ramp has begun -/
  first : Nat
  /-- the last chip has been sent -/
  ended : Bool
  /-- elapsed time at which it was cut (R203) -/
  aborted : Option Nat
  /-- the cap has held it (R198) -/
  capped : Bool
  /-- driver power granted, half dB -/
  power : Int
  cut : Bool
  deriving DecidableEq, Repr

/-- A transmit tile (R194 to R207). `TXC_STATE` and `TXC_PLACED` stand in the dictionary. -/
structure TxTile where
  isl : Islands
  job : Option TxJob
  posted : Option (Nat × Nat)
  deriving DecidableEq, Repr

/-- A calibration run (R144 to R148). -/
structure CalRun where
  port : Nat
  /-- requested kinds: [0] image, [1] filter, [2] oscillator, [3] DC offset -/
  kinds : Nat
  /-- code bytes of kinds that have ended, by kind -/
  codes : KMap Nat
  started : Nat
  /-- the blind window is open -/
  blind : Bool
  /-- elapsed time at which it opened -/
  openedAt : Nat
  /-- slot at whose boundary a tile in a frame alone kept the window from opening (R144) -/
  heldSlot : Option Nat
  /-- homed islands 0 to 39, and 40 for the crystal trim, not yet measured -/
  left : List Nat
  /-- an oscillator measurement failed its acceptance -/
  bad : Bool
  /-- coefficients measured so far, as `CAL_COEFF` bytes -/
  coeff : Bytes
  periodic : Bool
  deriving DecidableEq, Repr

/-- Stamp fuses (R152, R153). -/
structure Fuses where
  /-- records programmed by a lock that verified -/
  locked : Option (List Bytes)
  /-- a lock failed with `STAMP_PROGRAM_FAIL` -/
  failed : Bool
  /-- coefficients measured at production test, by port (R148) -/
  cal : List Bytes
  deriving DecidableEq, Repr

/-- An entry of the duplicate filter (R186). -/
structure DupEntry where
  pan : Nat
  src : Nat
  dsn : Nat
  counter : Nat
  fcs : Nat
  len : Nat
  /-- SFD stamp, chain time in ns -/
  stamp : Nat
  /-- elapsed time of the entry -/
  since : Nat
  deriving DecidableEq, Repr

/-- A verified stronger frame, as an engine rebuilds it (R184 item 1). -/
structure StrongFrame where
  mode : Nat
  /-- PSDU without FCS -/
  psdu : Bytes
  /-- chain time, ns, of its SFD stamp -/
  stamp : Nat
  /-- amplitude: strength in half dB -/
  level : Int
  /-- frequency offset, 100 Hz, and phase, 1/16 chip -/
  fofs : Int
  phase : Int
  deriving DecidableEq, Repr

/-- A candidate that waits for an engine or is worked by one (R183, R184). -/
structure Recovery where
  tile : Nat
  cand : Candidate
  strong : StrongFrame
  /-- elapsed time of the stronger frame's verdict -/
  verdict : Nat
  /-- energy granted, µJ -/
  grant : Nat
  /-- elapsed time at which the engine started -/
  started : Nat
  deriving DecidableEq, Repr

/-- The radio. -/
structure Radio where
  ports : Vector Port 4
  rx : Vector RxTile 64
  tx : Vector TxTile 16
  cal : Option CalRun
  /-- a lock is being programmed -/
  locking : Bool
  /-- one-minute airtime buckets in µs by 8 × port + sub-band, newest first (R201) -/
  duty : KMap (List Nat)
  /-- minutes of elapsed time by which the buckets have advanced -/
  dutyMin : Nat
  dup : List DupEntry
  bsQueue : List Recovery
  bsEngines : Vector (Option Recovery) 8
  deriving DecidableEq, Repr

/-! ### Girth: node records, handovers, scheduler, Cinch -/

/-- What a node cell has carried so far, for its charge (R256). -/
structure CellUse where
  /-- first slot of the cell -/
  asn : Nat
  /-- chain time, ns, at which the cell starts and ends, by the slot length at its planning (R209) -/
  start : Nat
  stop : Nat
  uplink : Bool
  /-- frame time of the frame received or sent, µs; none: nothing -/
  frameUs : Option Nat
  /-- answer time charged, µs; none: the nominal answer; 0 with noAnswer -/
  answerUs : Option Nat
  /-- the frame had AR 0, so the third term is 0 -/
  noAnswer : Bool
  deriving DecidableEq, Repr

/-- A handover of which this device is A (R238, R239). -/
structure HandoverOut where
  /-- MAC state before HANDOVER_OUT -/
  former : Nat
  /-- H, once fixed -/
  h : Option Nat
  /-- the peer has confirmed and the state transfer was sent (R239) -/
  confirmed : Bool
  /-- the frame that carried the Handover IE was acknowledged -/
  acked : Bool
  /-- the node's PAN ID on the peer -/
  pan : Nat
  deriving DecidableEq, Repr

/-- An acknowledgement that Girth awaits (R224). -/
structure AckWait where
  dsn : Nat
  /-- elapsed time of the last chip of the downlink -/
  lastChip : Nat
  deriving DecidableEq, Repr

/-- A node record (R122): its 128-byte host part as written, its hardware part, and what the device
keeps about the node beside the record. -/
structure NodeRec where
  host : Bytes
  hw : NodeHw
  /-- quarantined by Table 1-4 -/
  quarantined : Bool
  /-- `LINK_KEY_STALE` and `LINK_KEY_BAD` posted for this write -/
  stalePosted : Bool
  badPosted : Bool
  handover : Option HandoverOut
  /-- hardware part staged by a handover to this device (R239) -/
  staged : Option NodeHw
  /-- the final state, received before H (R239 step 4) -/
  final : Option NodeHw
  ack : Option AckWait
  /-- cells planned and not yet charged, oldest first -/
  cells : List CellUse
  deriving DecidableEq, Repr

/-- Frames of a node handed over that still pass to its new device (R239 step 5). -/
structure Forwarding where
  eui : Nat
  tenant : Nat
  peer : Nat
  /-- elapsed time at which it ends -/
  endsAt : Nat
  deriving DecidableEq, Repr

/-- A broadcast that waits for its tenant's next shared cell (R228). -/
structure PendingCast where
  tenant : Nat
  cls : Nat
  bytes : Bytes
  handle : Option Nat
  report : Bool
  /-- chain time, ns, of its arrival -/
  arrived : Nat
  deriving DecidableEq, Repr

/-- What a wheel entry is for (R250). -/
inductive Due where
  | uplink (record asn : Nat)
  | downlink (record asn : Nat)
  /-- a delivery moved by R259 -/
  | moved (record asn : Nat)
  | handover (record asn : Nat)
  | beacon (slotframe asn : Nat)
  | shared (slotframe asn : Nat)
  /-- the burst of a campaign in a slot (R407) -/
  | burst (campaign asn : Nat)
  /-- a slot in which a port's blind window may open (R144) -/
  | window (port asn : Nat)
  /-- a flush of a strap queue that was refused asks again (R311) -/
  | flush (queue : Nat)
  deriving DecidableEq, Repr

/-- An entry of the timing wheel or the far list (R249, R252). -/
structure WheelEntry where
  /-- due chain time, ms -/
  ms : Nat
  due : Due
  /-- level of the wheel that it lies in: buckets of 1 ms, 256 ms or 65.536 s -/
  level : Nat
  deriving DecidableEq, Repr

/-- The timing wheel and far list (R249 to R254). -/
structure Sched where
  /-- entries in order of entry -/
  wheel : List WheelEntry
  /-- entries fired and not yet planned, oldest first -/
  fired : List WheelEntry
  far : List WheelEntry
  /-- entries whose write into the far list is in progress, and counts from the next tick (R252) -/
  writing : List WheelEntry
  /-- entries parked in the furthest level-2 bucket, with that bucket's number (R252) -/
  parked : List (Nat × WheelEntry)
  /-- last whole millisecond of chain time handled -/
  ms : Nat
  /-- day start in force, and the instant (chain seconds) from which a newly written one may be (R257) -/
  dayStart : Nat
  dayWritten : Option Nat
  /-- causes of the rebuilds that are due, oldest first (R253) -/
  rebuild : List Nat
  /-- records whose entries were in words that failed (R253 cause 4) -/
  lost : List Nat
  /-- chain time, ns, at which slots of the present length began (R209) -/
  slotsFrom : Nat
  deriving DecidableEq, Repr

/-- Cinch (R265 to R270). Tokens, stage and counts stand in the dictionary. -/
structure Cinch where
  /-- positions 1 to 6 in force -/
  inForce : Vector Bool 6
  overdraw : Bool
  /-- effective budget at the last tick, mW -/
  beff : Nat
  /-- TJ_MAX was at or above the limit at the last tick -/
  hot : Bool
  /-- shedding order at the last tick -/
  order : Nat
  /-- energy granted since the last tick, µJ -/
  granted : Nat
  /-- frequency ceiling imposed on the cores, MHz -/
  ceiling : Nat
  deriving DecidableEq, Repr

/-- Girth, its scheduler and Cinch. -/
structure Girth where
  /-- node records by record number -/
  recs : KMap NodeRec
  forwards : List Forwarding
  casts : List PendingCast
  sched : Sched
  cinch : Cinch
  deriving DecidableEq, Repr

/-! ### Harness and Curb -/

/-- Where a copy is bound at its output (R285): the port only, a node's short address, or a tenant
broadcast. -/
inductive CopyTarget where
  | port
  | node (short : Nat)
  | tenantCast (tenant : Nat)
  deriving DecidableEq, Repr

/-- Form in which a frame's bytes stand in the buffer (Table 10-3, Table 10-5). -/
inductive FrameForm where
  /-- IEEE 802.15.4 frame, deciphered, without FCS -/
  | radio
  | ethernet
  /-- IPv6 or IPv4 packet -/
  | ip
  /-- 6LoWPAN payload -/
  | lowpan
  /-- anything else, such as an access frame -/
  | other
  deriving DecidableEq, Repr

/-- A frame or copy in the Harness (R273 to R285). -/
structure HFrame where
  input : Nat
  tenant : Nat
  cls : Nat
  form : FrameForm
  bytes : Bytes
  target : CopyTarget
  /-- next-hop entry for HP4 and HP5 (R276) -/
  nextHop : Option Nat
  /-- chain address it travels to on HP6 and HP7 -/
  device : Nat
  /-- reason code in its HP9 descriptor (Table 10-4); 0 none -/
  reason : Nat
  /-- record of the sending node, for HP0 to HP3 -/
  record : Option Nat
  /-- handle of the host or firmware descriptor it came from -/
  handle : Option Nat
  /-- a report record is asked for (R505) -/
  report : Bool
  /-- receive stamp of an IEEE 1588 event message, low 32 bits (R447); none otherwise -/
  ptp : Option Nat
  /-- receive metadata of Table 6-7; 0 without -/
  rxMeta : Nat
  /-- SRC of a chain DATA frame; 0xFF otherwise -/
  chainSrc : Nat
  /-- core named by a frame directed to HP9 (R483) -/
  core : Option Nat
  /-- number of the free value that stands for what its compressed header elides (log 36) -/
  ctx : Nat
  /-- elapsed time at the end of its input handling (R363) -/
  since : Nat
  deriving DecidableEq, Repr

/-- One output queue (h, c): on-die part, spill write buffer, spill ring (R283, R290). -/
structure OutQ where
  frames : List HFrame
  spilled : Bool
  buffer : List HFrame
  ring : List HFrame
  deriving DecidableEq, Repr

/-- A frame that waits at a Harness input. -/
structure Arrival where
  h : Nat
  info : InMeta
  bytes : Bytes
  deriving DecidableEq, Repr

/-- The Harness: its output queues by 8h + c. -/
structure Harness where
  queues : KMap OutQ
  /-- Ethernet links up -/
  eth : Vector Bool 2
  /-- frames handed to an input and not yet taken, oldest first -/
  arrivals : List Arrival
  /-- cells freed in the Harness cycle of the last removal, and that cycle's elapsed time (R284) -/
  freed : Nat
  freedAt : Nat
  /-- the frame that has been dequeued and is leaving through HP8 or HP9, by port -/
  leaving : KMap HFrame
  deriving DecidableEq, Repr

/-- A policer's buckets, in 1/65,536 byte, their carried remainders and last update (R354). -/
structure Policer where
  tc : Nat
  te : Nat
  /-- remainders below 1/65,536 byte, in units of 1/8,000,000 of it -/
  remC : Nat
  remE : Nat
  last : Nat
  /-- mode at the last update -/
  mode : Nat
  deriving DecidableEq, Repr

/-- A shaper (R359, R363). -/
structure Shaper where
  /-- next eligible time, 1/256 µs -/
  next : Nat
  /-- rate at the last test -/
  rate : Nat
  /-- sojourn of the last frame to leave since the last item, µs -/
  sojourn : Option Nat
  deriving DecidableEq, Repr

/-- Curb: policers by 8t + c, shapers by 16t + s, and the shaping calendar. -/
structure Curb where
  policers : KMap Policer
  shapers : KMap Shaper
  /-- queue 8h + c and the µs slot in which it stands (R361) -/
  calendar : List (Nat × Nat)
  /-- by tenant, the last instant of a sample that was written or passed, in µs of elapsed time (R364) -/
  sampled : KMap Nat
  /-- elapsed time at which the last sample was written -/
  sampledAt : Nat
  deriving DecidableEq, Repr

/-! ### Saddlebag and strap queues -/

/-- A region of the Saddlebag layout (Table 11-2). -/
structure Region where
  kind : Nat
  index : Nat
  base : Nat
  size : Nat
  deriving DecidableEq, Repr

/-- An item or welt of a strap queue (Table 11-6): its data bytes after the header. -/
structure StrapItem where
  kind : Nat
  poison : Bool
  words : Nat
  seq : Nat
  data : Bytes
  /-- elapsed time at which its first word entered the tail ring -/
  entered : Nat
  deriving DecidableEq, Repr

/-- What an open or pending welt has counted (R313). -/
structure Welt where
  items : Nat
  words : Nat
  first : Time80
  last : Time80
  /-- elapsed time of the last drop -/
  lastAt : Nat
  deriving DecidableEq, Repr

/-- A strap queue of number 1 to 63 (R310 to R313). -/
structure StrapQ where
  head : List StrapItem
  mid : List StrapItem
  /-- words of the first tail item already written to the middle -/
  part : Nat
  tail : List StrapItem
  /-- the newest entry of the tail ring is an open welt with these counts; it is not in tail -/
  welt : Option (Nat × Welt)
  nextSeq : Nat
  deriving DecidableEq, Repr

/-- The downlink queue of one node record (R314 to R316): head first. -/
structure NodeQ where
  frames : List NodeFrame
  welt : Option Welt
  deriving DecidableEq, Repr

/-- Users of an outstanding Saddlebag access that answers someone (R300, R306). -/
inductive SbUser where
  | remote (p : Side) (src tag : Nat) (req : SbReq)
  | own (req : SbReq)
  deriving DecidableEq, Repr

/-- One journal record (R321). -/
inductive JournalRec where
  | err (e : ErrEntry)
  | clamp (e : ClampEntry)
  deriving DecidableEq, Repr

/-- The engine of the event journal, whose records and header stand in Saddlebag memory (R321, R322). -/
structure Journal where
  /-- oldest sequence kept -/
  oldest : Nat
  /-- elapsed time at which the header was last written -/
  headerAt : Nat
  /-- records written and not committed -/
  flight : List (Nat × JournalRec)
  nextSeq : Nat
  /-- the journal was read or begun since the cold start -/
  running : Bool
  /-- records that wait for the journal to run -/
  held : List JournalRec
  deriving DecidableEq, Repr

/-- The Saddlebag engine, its memory and the strap queues. -/
structure Saddlebag where
  /-- memory bytes by offset; a byte nothing has written reads 0 -/
  mem : KMap Byte
  outstanding : List SbUser
  waiting : List SbUser
  /-- regions in force; none: no layout, every queue runs as while the link is down -/
  layout : Option (List Region)
  /-- elapsed time at which the link entered its present state -/
  since : Nat
  /-- no training has started since the cores were reset (Table 11-1) -/
  fresh : Bool
  queues : KMap StrapQ
  nodes : KMap NodeQ
  /-- the duplicate pointers are compared (R319) -/
  compare : Bool
  /-- bytes left of the flush grant in hand (R311) -/
  flushLeft : Nat
  journal : Journal
  deriving DecidableEq, Repr

/-! ### Bridle and Halter -/

/-- A prefix of the Bridle (R325): instance, family (true: IPv4), length, address left-aligned in
128 or 32 bits, result of Table 12-3. -/
structure Prefix where
  inst : Nat
  v4 : Bool
  len : Nat
  addr : Nat
  result : Nat
  deriving DecidableEq, Repr

/-- Next-hop table entry (R330). -/
structure NextHop where
  mac : Nat
  vlan : Nat
  output : Nat
  deriving DecidableEq, Repr

/-- Halter entry (Table 12-4), without its parity bit. The key's low bits are recovered from the
bucket (R332). -/
structure HalterEntry where
  age : Nat
  tenant : Nat
  euiHi : Nat
  device : Nat
  record : Nat
  parent : Option Nat
  /-- elapsed time at which it was last written or refreshed (R336) -/
  setAt : Nat
  deriving DecidableEq, Repr

/-- An overflow entry (R334): the entry and b[17:10] of its bucket. -/
structure OverflowEntry where
  entry : HalterEntry
  bucketHi : Nat
  deriving DecidableEq, Repr

/-- A notification remembered by the learn filter (R345). -/
structure Learnt where
  kind : Nat
  tenant : Nat
  eui : Nat
  sentAt : Nat
  deriving DecidableEq, Repr

/-- A table-port window: the host's (16) or a core's (its number): arguments, result code, returned
values (Table 19-8, R477). -/
structure TpWindow where
  arg : Bytes
  code : Nat
  ret : Bytes
  /-- an operation of the requester is in flight (R510) -/
  busy : Bool
  deriving DecidableEq, Repr

/-- An operation that waits at the table port: its requester, code and arguments (R339). -/
structure TpOp where
  who : Nat
  op : Nat
  arg : Bytes
  deriving DecidableEq, Repr

/-- The Bridle, the Halter and their neighbours. -/
structure Tables where
  prefixes : List Prefix
  /-- addresses (stage, word) of Bridle words that failed parity, oldest first (R346) -/
  badWords : List (Nat × Nat)
  nextHops : KMap NextHop
  copyLists : KMap (List CopyEntry)
  /-- entries by 4 × bucket + way -/
  halter : KMap HalterEntry
  /-- entries by 8 × set + way -/
  overflow : KMap OverflowEntry
  /-- ways and overflow ways whose entries failed their check, and which the next insert takes first (R347) -/
  badWays : List Nat
  badOverflow : List Nat
  /-- elapsed time of the next rise of the ages (R336) -/
  ageNext : Nat
  lfsr : Nat
  /-- operations of all requesters, oldest first (R339) -/
  ops : List TpOp
  /-- table-port windows by requester, 0 to 15 a core, 16 the host -/
  windows : KMap TpWindow
  filter : List Learnt
  deriving DecidableEq, Repr

/-! ### Keeper -/

/-- A Keeper slot: its attributes (Table 14-2) and its key material. -/
structure Slot where
  valid : Bool
  expire : Bool
  exportable : Bool
  use : Nat
  alg : Nat
  origin : Nat
  gen : Nat
  parent : Nat
  parentGen : Nat
  depth : Nat
  uses : Nat
  useLimit : Nat
  label : Bytes
  key : Bytes
  deriving DecidableEq, Repr

/-- Transmit counter of a tenant (R389, R390). -/
structure TenantFc where
  counter : Nat
  /-- 0xFFFF_FFFF has been taken -/
  last : Bool
  /-- `DL_COUNTER_END` posted for the tenant -/
  posted : Bool
  deriving DecidableEq, Repr

/-- The Keeper: slots by number (the key of slot 0 is derived from the fuse seed at each use, R376), transmit counters by
tenant, and the old key slots that still verify (R392). -/
structure Keeper where
  slots : KMap Slot
  fc : KMap TenantFc
  /-- tenant, old slot, chain time in ns of the grace's end -/
  oldSlots : List (Nat × Nat × Nat)
  /-- a tamper event is not yet reported to the fabric -/
  unreported : Bool
  /-- a sweep follows an invalidation (R373) -/
  sweepDue : Bool
  /-- the slot of an `ATTEST_CMD` run in progress (R384) -/
  attesting : Option Nat
  deriving DecidableEq, Repr

/-! ### Lacing -/

/-- An owned target of a campaign (R400). -/
structure LaceTarget where
  record : Nat
  eui : Nat
  done : Bool
  /-- it reported status 3 -/
  noStorage : Bool
  /-- elapsed time of its last announcement or report -/
  heardAt : Nat
  deriving DecidableEq, Repr

/-- Repair state of one block in one stream (R410). -/
structure LaceBlock where
  need : Nat
  /-- repair symbols taken so far: NEXT_X less the bottom of the range -/
  taken : Nat
  /-- `LACE_ESI_END` was posted -/
  ended : Bool
  deriving DecidableEq, Repr

/-- A campaign's transmission in one mode (R400). -/
structure LaceStream where
  mode : Nat
  /-- source symbols passed in the first pass, by 64z + x -/
  cursor : Nat
  /-- symbols planned and not sent, oldest first -/
  again : List (Nat × Nat)
  blocks : KMap LaceBlock
  deriving DecidableEq, Repr

/-- A planned burst frame that waits for its lead, with its symbol. -/
structure LaceFrame where
  req : TxReq
  z : Nat
  x : Nat
  deriving DecidableEq, Repr

/-- A burst frame's hold on a frequency, for the streams of campaigns with a higher number (R409). -/
structure LaceUse where
  freq : Nat
  /-- first and last slot that the frame's span touches -/
  first : Nat
  last : Nat
  /-- its first chip, chain time in ns -/
  due : Nat
  deriving DecidableEq, Repr

/-- What is kept on die of a stored `CAMP_TARGETS` list (R397). -/
structure ListMark where
  len : Nat
  /-- CRC-32C of the list -/
  crc : Nat
  deriving DecidableEq, Repr

/-- A campaign's engine state (R398 to R414). -/
structure Campaign where
  /-- descriptor (Table 15-1) -/
  desc : Bytes
  crc : Nat
  blockCrc : List Nat
  /-- address of R410 -/
  a : Nat
  /-- elapsed time of the start of loading -/
  started : Nat
  /-- elapsed time of the entry into running -/
  running : Nat
  /-- chain seconds of the deadline, for announcements -/
  deadline : Nat
  targets : List LaceTarget
  streams : List LaceStream
  /-- a target was complete at some time -/
  everDone : Bool
  /-- first slot of the next burst -/
  burst : Nat
  planned : List LaceFrame
  /-- frames of the newest burst that were not dropped -/
  uses : List LaceUse
  /-- elapsed time since which image reads have failed -/
  failing : Option Nat
  deriving DecidableEq, Repr

/-- The Lacing engine. -/
structure Lacing where
  camps : KMap Campaign
  /-- length and CRC-32C of the stored target list of each campaign -/
  lists : KMap ListMark
  deriving DecidableEq, Repr

/-! ### Tree images -/

/-- State of a code bank (Table 16-3). -/
inductive BankState where
  | blank
  | staging
  | staged
  | armed
  | trial
  | seated
  | rejected
  deriving DecidableEq, Repr

/-- A code bank of MRAM (R417, R423). -/
structure Bank where
  st : BankState
  /-- seat sequence -/
  seat : Nat
  image : Bytes
  deriving DecidableEq, Repr

/-- A code that arose during start-up selection and waits for R65 (R429). -/
inductive TreeNote where
  | bootBad (bank version : Nat)
  | fallback (version : Nat)
  deriving DecidableEq, Repr

/-- Tree images: banks A and B, the seat window and what the update journal keeps (R417 to R428). -/
structure Tree where
  a : Bank
  b : Bank
  /-- image key that the boot ROM holds: X then Y (Table 16-2) -/
  imageKey : BitVec 512
  /-- the device stays in the boot ROM (R424) -/
  rom : Bool
  /-- elapsed time at which the seat window opened, and its seconds -/
  window : Option (Nat × Nat)
  /-- bank whose wipe runs -/
  wiping : Option Nat
  /-- sequence of a switch run kept across the reset, and its bank (R425) -/
  switching : Option (Nat × Nat)
  notes : List TreeNote
  deriving DecidableEq, Repr

/-! ### Awl cores -/

/-- Registers of one hardware loop (R459). -/
structure HwLoop where
  lb : Word
  le : Word
  lc : Word
  deriving DecidableEq, Repr

/-- A SETC to a loop register that end tests do not see yet (R463): register 3n + 0 lb, 1 le, 2 lc. -/
structure LateLoop where
  reg : Nat
  /-- value that end tests use until then -/
  old : Word
  /-- instructions still to complete -/
  left : Nat
  deriving DecidableEq, Repr

/-- A ring of a core page (Table 18-10). -/
structure CoreRing where
  base : Nat
  size : Nat
  head : Nat
  tail : Nat
  deriving DecidableEq, Repr

/-- What the header of an extension program gives (Table 18-9). -/
structure ExtImage where
  entry : Nat
  stackTop : Nat
  vbase : Nat
  deriving DecidableEq, Repr

/-- One Awl core (R454 to R483); `CORE_STATE` stands in the dictionary. -/
structure Core where
  pc : Word
  /-- g1 to g31; an unlisted register reads 0, and g0 is never listed (R454) -/
  regs : KMap Word
  lk : Word
  /-- loops 0 to 2 -/
  loops : Vector HwLoop 3
  late : List LateLoop
  /-- MODE: [1] HND, [0] IEN -/
  mode : BitVec 2
  smode : BitVec 2
  xpc : Word
  xcause : BitVec 16
  xaddr : Word
  xword : Word
  vbase : Word
  hscr0 : Word
  hscr1 : Word
  /-- core cycles since the core started -/
  cycles : Nat
  /-- register that the instruction before loaded (R457) -/
  loadedReg : Option Nat
  /-- WAIT has stopped fetching (R469) -/
  waiting : Bool
  /-- store buffer, oldest first: address in its own local memory and bytes (R472) -/
  stores : List (Nat × Bytes)
  /-- extension program loaded since the last cold start (R479) -/
  image : Option ExtImage
  rxRing : CoreRing
  txRing : CoreRing
  /-- entries of the receive ring that are filled and not given again (Table 19-1) -/
  rxFilled : List Nat
  /-- `awl.hp9.accept` -/
  accept : Nat
  /-- `awl.hp9.drops` -/
  drops : Nat
  /-- dictionary server port: request bytes, and the response once ready (R477) -/
  dictReq : Bytes
  dictRsp : Option Bytes
  deriving DecidableEq, Repr

/-- The cores, their local memories and the strap queue ports. -/
structure Cores where
  /-- by core number; an unlisted core is as R480 leaves it -/
  core : KMap Core
  /-- local memory bytes by 262,144 × core + address; a byte nothing has written reads 0 (log 44) -/
  mem : KMap Byte
  /-- words of local memory stored to since their core's last FENCE.I or start, by 65,536 × core + address / 4: a fetch may still find the
  old word (R473) -/
  stale : List Nat
  /-- strap queue port windows by queue (R477) -/
  windows : KMap Bytes
  /-- word count of the last push of a port, 0 where it was refused -/
  pushed : KMap Nat
  deriving DecidableEq, Repr

/-! ### Buckle and host interface -/

/-- The Buckle (R485 to R492). -/
structure Buckle where
  /-- pending register of a core, 256 bits, by core -/
  pend : KMap Nat
  /-- mask register of a core -/
  mask : KMap Nat
  /-- core that took the last assignment, by source -/
  last : KMap Nat
  /-- edges on their way from their block to the Buckle, oldest first (R488) -/
  edges : List Nat
  deriving DecidableEq, Repr

/-- A descriptor ring (R496). -/
structure Ring where
  base : Nat
  /-- k of 2^k entries; 0 disabled -/
  size : Nat
  tail : Nat
  head : Nat
  /-- next frame number, receive rings (R503) -/
  seq : Nat
  /-- frames truncated, receive rings (R500) -/
  trunc : Nat
  /-- 0 off, 1 running, 2 stopped, transmit rings -/
  state : Nat
  /-- the tail at which the next frame's LAST entry was found to lie beyond it, transmit rings (R501) -/
  short : Option Nat
  deriving DecidableEq, Repr

/-- An MSI-X vector (R507). -/
structure MsixVector where
  addr : Nat
  data : Nat
  masked : Bool
  pending : Bool
  holdoff : Nat
  /-- elapsed time of the last message -/
  sentAt : Option Nat
  deriving DecidableEq, Repr

/-- What a directed frame's report needs (R505). -/
structure ReportTo where
  cookie : Nat
  addr : Nat
  deriving DecidableEq, Repr

/-- The host interface (R493 to R511). -/
structure HostIf where
  linkUp : Bool
  rx : KMap Ring
  tx : KMap Ring
  /-- transmit ring served last (R501) -/
  lastTx : Nat
  /-- causes whose flag is set -/
  flags : List Nat
  /-- EN and VECTOR of a cause that differs from its reset value (R506) -/
  causes : KMap (Bool × Nat)
  vectors : KMap MsixVector
  functionMask : Bool
  snapSeq : Nat
  snap : Time80
  eventSel : Nat
  /-- `mbx.req` (R508) -/
  mbxReq : Bytes
  /-- responses queued in the mailbox, oldest first (R508) -/
  mailbox : List Access
  /-- responses that wait while 32 are queued; true: the response waits in the lane-1 credits of the port that it came by (R509) -/
  mailboxWait : List (Access × Bool)
  /-- port and units of those credits, oldest first -/
  mailboxHeld : List (Side × Nat)
  nrData : Bytes
  nrShort : Nat
  nrCode : Nat
  /-- reports due, by handle of the frame -/
  reports : KMap ReportTo
  /-- final outcomes not yet written: handle, report, OUTCOME, oldest first -/
  reportsDue : List (Nat × Nat × Nat)
  nextHandle : Nat
  /-- elapsed time since which no head can be reached (R574) -/
  cutSince : Option Nat
  /-- `HOST_UNREACHABLE` was posted in this cut -/
  cutPosted : Bool
  deriving DecidableEq, Repr

/-! ### Concho -/

/-- Use of the antenna (Table 20-1). -/
inductive Antenna where
  | quiet
  | listening
  | reader
  | tag
  deriving DecidableEq, Repr

/-- An exchange with a tag that has not answered (R519, R520). -/
structure TagExchange where
  tag : TagWait
  /-- R(NAK)s or repeats sent for the present block -/
  naks : Nat
  /-- extensions granted in the exchange -/
  granted : Nat
  /-- elapsed time at which the present wait ends -/
  waitUntil : Nat
  deriving DecidableEq, Repr

/-- The contactless front end: reader, tag emulation and the record slots in MRAM bank C (R512 to R531). -/
structure Concho where
  antenna : Antenna
  /-- an external field is present, sensed or not -/
  field : Bool
  /-- elapsed time at which the external field left -/
  goneAt : Nat
  /-- elapsed time at which the device's own field went on -/
  onAt : Nat
  /-- number of the protocol that the cycle is polling (Table 20-3); 0 before the first -/
  polling : Nat
  /-- a reader cycle is due -/
  due : Bool
  /-- elapsed time at which the last cycle started -/
  cycleAt : Option Nat
  /-- the last cycle found a tag -/
  found : Bool
  /-- elapsed time at which listening began -/
  listenAt : Nat
  /-- reference amplitude and phase (in 0.01°) of low-power card detection; none before the first -/
  reference : Option (Nat × Int)
  /-- the next measurement becomes the reference (R514) -/
  refNext : Bool
  /-- elapsed time of the last measurement -/
  measuredAt : Option Nat
  /-- presence list, oldest first: protocol and UID (R516) -/
  presence : List (Nat × Bytes)
  /-- tags found in this cycle -/
  seen : List (Nat × Bytes)
  /-- tags read in this cycle -/
  read : Nat
  exchange : Option TagExchange
  /-- random UID drawn at the entry of the field (R523) -/
  uid : Bytes
  /-- selected file: 0 none, else its identifier -/
  file : Nat
  shadow : Option Bytes
  challenge : Option (BitVec 128)
  /-- consecutive failed authentications (R525) -/
  fails : Nat
  /-- elapsed time at which the lockout ends -/
  lockedUntil : Option Nat
  /-- elapsed time at which FD_N went low -/
  fdAt : Nat
  /-- record slots 0 and 1 in bank C; none: its CRC fails (R528) -/
  records : Vector (Option Bytes) 2
  /-- flag lines 0 and 1: sequence and slot; none: its CRC fails -/
  flagLines : Vector (Option (Nat × Nat)) 2
  deriving DecidableEq, Repr

/-! ### What leaves the device -/

/-- One tile's part of a port's transmit signal (R193). -/
structure AirStream where
  tile : Nat
  mode : Nat
  /-- f less the port's centre, kHz -/
  shift : Int
  /-- driver power, half dB -/
  power : Int
  /-- chain time of the first chip, ns -/
  first : Nat
  chips : List Bool
  deriving DecidableEq, Repr

/-- What a command sent out of the device, newest first in State.out: chain frames, responses,
frames handed to a link, records written to the host. -/
inductive Out where
  /-- a chain frame left a port -/
  | chain (p : Side) (f : ChainFrame)
  /-- an access frame was returned to its requester -/
  | access (via : Via) (a : Access)
  /-- a NOTIFY event was sent to a subscriber -/
  | notify (via : Via) (a : Access)
  /-- the tiles in ramp or sending on a port changed: their streams, which the port sums (R193) -/
  | radio (p : Nat) (streams : List AirStream)
  /-- a frame left a Harness output -/
  | harness (h : Nat) (f : HFrame)
  /-- a remote Saddlebag request of this device ended -/
  | saddlebag (tag : Nat) (code : Option SbCode) (bytes : Bytes)
  /-- bytes written to host memory (R499 to R505) -/
  | dma (addr : Nat) (bytes : Bytes)
  /-- the tag answers a field it has entered: UID, SAK, FSCI, FWI and SFGI (R523) -/
  | tagEntry (uid : Bytes) (sak fsci fwi sfgi : Nat)
  /-- the reader sends to a tag -/
  | reader (x : ReaderSent)
  /-- the tag's reply: data and status words (R524) -/
  | tag (data : Bytes) (sw : Nat)
  /-- an MSI-X message (R507) -/
  | msix (addr data : Nat)
  /-- node state of a handover goes to the peer device (R239) -/
  | handover (peer eui tenant : Nat) (final : Bool) (hw : NodeHw)
  /-- a downlink frame passes to the node's new device (R239) -/
  | passed (peer eui tenant : Nat) (f : NodeFrame)
  deriving DecidableEq, Repr

/-- Why the machine stops. -/
inductive Fault where
  /-- A command names a part that the device does not have. Operands of bounded types leave no such command, so no meaning
  raises it; safe. -/
  | noSuchPart
  deriving DecidableEq, Repr

/-- Why a command is turned away. -/
inductive Refusal where
  /-- The command has no meaning yet; raised by exec's refused arms only; safe. -/
  | notModelled (mnemonic : String)
  deriving DecidableEq, Repr

/-- The whole machine. -/
structure State where
  /-- commands waiting, first in first out -/
  pending : List Instr
  /-- free values drawn so far (the model's own counter, log 1) -/
  draws : Nat
  /-- what has left the device, newest first (the model's own record, log 3) -/
  out : List Out
  ident : Ident
  /-- Stamp fuses (R152, R153) -/
  fuses : Fuses
  pins : Pins
  clock : Clock
  pulses : Vector Pulse 4
  chain : Chain
  dict : Dictionary
  power : Power
  vbat : Vbat
  radio : Radio
  girth : Girth
  keeper : Keeper
  sb : Saddlebag
  tables : Tables
  har : Harness
  lacing : Lacing
  tree : Tree
  curb : Curb
  concho : Concho
  cores : Cores
  buckle : Buckle
  host : HostIf
  deriving DecidableEq, Repr

/-! ### Reset -/

/-- A chain port that is DOWN. -/
def ChainPort.down : ChainPort :=
  { partner := none, credits := #v[0, 0, 0, 0], owed := #v[0, 0, 0, 0], ignoring := false, out := [], deficit := #v[0, 0, 0, 0],
    turn := 0, t1 := none, delays := [], discards := 0, measured := 0, long := false }

/-- A port at reset (Table 5-6: SLEEP). -/
def Port.atReset (centre : Nat) : Port :=
  { step := none, host := none, seq := false, own := none, since := 0, tries := 0, resume := none, back := none, centre := centre, fem := 0,
    gain := 0, gainAt := none, gains := [], burst := none, calibrated := false, lastCal := 0, diagSince := 0, lowBursts := 0, goodBursts := 0 }

/-- A tile's islands at reset (R177, R207). -/
def Islands.atReset : Islands := { phase := .off, since := 0, want := none }

/-- A receive tile at reset (R177). -/
def RxTile.atReset : RxTile :=
  { isl := Islands.atReset, next := none, triple := none, frame := none, bin := 0, shift := 0, calUntil := 0, histFrom := 0,
    blankSince := none, bad := [], edgePosted := none,
    noTilePosted := none }

/-- A transmit tile at reset (R207). -/
def TxTile.atReset : TxTile := { isl := Islands.atReset, job := none, posted := none }

/-- A pulse output that is off (R448). -/
def Pulse.atReset : Pulse :=
  { run := none, waiting := false, arming := false, armedAt := 0, next := none, fallAt := none }

/-- A ring of a core page that is off (Table 18-10). -/
def CoreRing.atReset : CoreRing := { base := 0, size := 0, head := 0, tail := 0 }

/-- A core of the vendor firmware at reset, at an entry point (R480, R484, log 49). -/
def Core.firmware (entry : Nat) : Core :=
  { pc := BitVec.ofNat 32 (0x10000000 + entry), regs := [], lk := 0#32,
    loops := Vector.replicate 3 { lb := 0#32, le := 0#32, lc := 0#32 }, late := [], mode := 0#2, smode := 0#2,
    xpc := 0#32, xcause := 0#16, xaddr := 0#32, xword := 0#32, vbase := 0x10000100#32, hscr0 := 0#32, hscr1 := 0#32,
    cycles := 0, loadedReg := none, waiting := false, stores := [], image := none, rxRing := CoreRing.atReset,
    txRing := CoreRing.atReset, rxFilled := [], accept := 0, drops := 0, dictReq := [], dictRsp := none }

/-- The slot of the device identity, derived at every start (R376). -/
def Slot.identity : Slot :=
  { valid := true, expire := false, exportable := false, use := 4, alg := 3, origin := 5, gen := 1, parent := 0xFFFD, parentGen := 0,
    depth := 1, uses := 0, useLimit := 0,
    label := [0x49#8, 0x44#8, 0x45#8, 0x4E#8, 0x54#8, 0x49#8, 0x54#8, 0x59#8, 0#8, 0#8, 0#8, 0#8], key := [] }

/-- The host interface with its link down (R494, Tables 19-3, 19-4, 19-8). -/
def HostIf.atReset : HostIf :=
  { linkUp := false, rx := [], tx := [], lastTx := 31, flags := [], causes := [], vectors := [], functionMask := false, snapSeq := 0,
    snap := { sec := 0, ns := 0 }, eventSel := 0, mbxReq := [], mailbox := [], mailboxWait := [], mailboxHeld := [], nrData := [], nrShort := 0x4000,
    nrCode := 0, reports := [], reportsDue := [], nextHandle := 0, cutSince := some 0, cutPosted := false }

/-- The chain block after a cold start: not enumerated (R35, R42). -/
def Chain.atReset : Chain :=
  { portUp := ChainPort.down, portDn := ChainPort.down, topo := { gen := 0, head := 0xFF, ring := false, map := [] }, enumRun := none,
    claim := none, headAt := 0, fullOwed := true, nextTag := 0, opens := [], late := 0 }

/-- The dictionary with every number at its built-in default (R65, R103): the numbers listed are those that a start-up
leaves elsewhere, `KEEPER_SLOTS_USED` 1 and `CORE_STATE` 1 of cores 0 to 11. -/
def Dictionary.atReset : Dictionary :=
  { nums := (0x500002, 1) :: (List.range 12).map (fun n => (0x700101 + 256 * n, 1)), doms := [], results := [], ready := true,
    clampLog := [], errLog := [], alarmAt := none, stored := [], waiting := [], held := [], subs := [], transfers := [], txn := none, outcomes := [], graces := [],
    bankC := none, storing := none, nextReq := 0, asked := [] }

/-- The device as its first power-on leaves it at the instant R65 completes (Table 21-2 step 4): state IDLE on its way to
RUN, VBAT just lost, bank C without stored defaults, the shipped tree image running. Values that the manual does not
give are named in logs 5, 6, 7, 44, 46 and 49. -/
def State.reset : State :=
  { pending := [], draws := 0, out := []
    ident := { eui64 := Config.eui64.toNat, orderCode := Config.orderCode.toNat, serial := Config.serial.toNat,
               seed := Config.identitySeed }
    fuses := { locked := none, failed := false, cal := (List.range 4).map Config.productionCal }
    pins := { headSel := false, shutdownLow := false, resetLow := false, fdLow := false, tpo := Vector.replicate 4 false,
              fem := Vector.replicate 4 { lna := none, pa := none, ant := none, lnaAt := 0, paAt := 0 } }
    clock := { sec := 0, ns := 0, frac := 0, elapsed := 0, state := 0, integ := 0, corr := 0, stepGen := 0, fresh := true, good := 0,
               history := [], heldSince := 0, posted := false, lastSample := 0, syncUs := 0 }
    pulses := Vector.replicate 4 Pulse.atReset
    chain := Chain.atReset
    dict := Dictionary.atReset
    power := { moving := some 4, pending := none, goal := none, dwellUntil := 0, shutdown := none,
               start := some { cold := true, cause := 3, vbatLost := true, since := 0 }, cause := none, rails := true, held := false,
               coreIslands := Vector.ofFn (fun n => { phase := if n.val < 12 then .on else .off, since := 0, want := none }), movedAt := 0, watchdog := 0 }
    vbat := { valid := true, clean := false, tamper := false, cause := 3, shutSeq := 0, rtcAtCommit := 0, rtc := 0, rtcFrac := 0,
              root := none, rootGen := 0, epochE := 0, rwp := [], tamperLast := 0, tamperEvents := 0, vendor := [], low := false }
    radio := { ports := #v[Port.atReset 868000, Port.atReset 915000, Port.atReset 2441750, Port.atReset 2441750],
               rx := Vector.replicate 64 RxTile.atReset, tx := Vector.replicate 16 TxTile.atReset, cal := none,
               locking := false, duty := [], dutyMin := 0, dup := [], bsQueue := [],
               bsEngines := Vector.replicate 8 none }
    girth := { recs := [], forwards := [], casts := [],
               sched := { wheel := [], fired := [], far := [], parked := [], ms := 0, dayStart := 0, dayWritten := none, rebuild := [1], writing := [], lost := [], slotsFrom := 0 },
               cinch := { inForce := Vector.replicate 6 false, overdraw := false, beff := 24000, hot := false, order := 0x654321,
                          granted := 0, ceiling := 800 } }
    keeper := { slots := [(0, Slot.identity)], fc := [], oldSlots := [], unreported := false, sweepDue := false, attesting := none }
    sb := { mem := [], outstanding := [], waiting := [], layout := none, since := 0, fresh := true, queues := [], nodes := [], compare := false,
            flushLeft := 0, journal := { oldest := 1, headerAt := 0, flight := [], nextSeq := 1, running := false, held := [] } }
    tables := { prefixes := [], badWords := [], nextHops := [], copyLists := [], halter := [], overflow := [], badWays := [], badOverflow := [],
                ageNext := 1024000000000, lfsr := 0xACE1, ops := [],
                windows := [], filter := [] }
    har := { queues := [], eth := #v[false, false], arrivals := [], freed := 0, freedAt := 0, leaving := [] }
    lacing := { camps := [], lists := [] }
    tree := { a := { st := .seated, seat := 1, image := Config.shippedTree }, b := { st := .blank, seat := 0, image := [] },
              imageKey := Config.imageKey, rom := false, window := none, wiping := none, switching := none, notes := [] }
    curb := { policers := [], shapers := [], calendar := [], sampled := [], sampledAt := 0 }
    concho := { antenna := .quiet, field := false, goneAt := 0, onAt := 0, polling := 0, due := false, cycleAt := none, found := false, listenAt := 0, reference := none, refNext := true,
                measuredAt := none, presence := [], seen := [], read := 0, exchange := none, uid := [], file := 0, shadow := none,
                challenge := none, fails := 0, lockedUntil := none, fdAt := 0, records := #v[some [], none],
                flagLines := #v[some (0, 0), none] }
    cores := { core := (List.range 12).map (fun n => (n, Core.firmware (leNat (slice Config.shippedTree 28 4)))), mem := [], stale := [],
               windows := [], pushed := [] }
    buckle := { pend := [], mask := [], last := [], edges := [] }
    host := HostIf.atReset }

end Sys2Proof.Machine
end

