-- ==== Sys2Proof/Machine/Ops.lean ====
section
/-! DEFINITION. The shared operations: dictionary numbers, free values, what leaves the device, edges of
the Buckle, host causes, results of commands, strap queues, the journal and the error log. -/

namespace Sys2Proof.Machine

/-! ### Dictionary numbers -/

/-- Reset of `SRC_TARGETS` of source n (Table 19-1). -/
def srcTargetsReset (n : Nat) : Nat :=
  if n ≤ 1 then 0x0001
  else if n = 2 then 0x0002
  else if n = 3 then 0x0001
  else if n ≤ 8 then 0x0004
  else if n ≤ 11 then 0x0008
  else if n = 12 then 0x0010
  else if n ≤ 15 then 0
  else if n ≤ 23 then 0x0020
  else if n ≤ 25 then 0x0040
  else if n ≤ 27 then 0x0080
  else if n ≤ 31 then 0
  else if n ≤ 47 then 2 ^ (n - 32)
  else if n ≤ 63 then 2 ^ (n - 48)
  else if n ≤ 111 then 0x0100
  else if n ≤ 127 then 2 ^ (12 + (n - 112) / 4)
  else if n ≤ 143 then 2 ^ (n - 128)
  else if n ≤ 159 then 2 ^ (n - 144)
  else if n ≤ 175 then 0x0200
  else if n ≤ 223 then 0
  else if n ≤ 239 then 0x0800
  else 0x0400

/-- The source is a level source (Table 19-1). -/
def srcLevel (n : Nat) : Bool :=
  n == 3 || n == 12 || (32 ≤ n && n ≤ 47) || (64 ≤ n && n ≤ 127)

/-- The source is reserved (Table 19-1). -/
def srcReserved (n : Nat) : Bool :=
  (13 ≤ n && n ≤ 15) || (28 ≤ n && n ≤ 31) || (176 ≤ n && n ≤ 223)

/-- T_max of R270 at the reset values: 20 × 24,000 mW, in µJ (R265). -/
def tMaxReset : Nat := 480000

/-- Built-in default of a number (the Reset cells, R65): values per element where a cell gives them. -/
def dflt (k : Nat) : Nat :=
  let idx := k / 256
  let sub := k % 256
  if 0x2000 ≤ idx ∧ idx ≤ 0x2003 ∧ sub = 5 then
    (if idx = 0x2000 then 868000 else if idx = 0x2001 then 915000 else 2441750)
  else if 0x7100 ≤ idx ∧ idx ≤ 0x71FF ∧ sub = 1 then srcTargetsReset (idx - 0x7100)
  else if 0x7100 ≤ idx ∧ idx ≤ 0x71FF ∧ sub = 2 then (if srcLevel (idx - 0x7100) then 0 else 1)
  else if k = Key.cinchTokens then tMaxReset
  else match Dict.find idx sub with
    | some r => r.reset
    | none => 0

/-- The stored number of a subentry. -/
def State.rd (s : State) (k : Nat) : Nat := KMap.getD s.dict.nums (dflt k) k

/-- Write the stored number of a subentry. -/
def State.wr (s : State) (k v : Nat) : State :=
  { s with dict := { s.dict with nums := KMap.setD s.dict.nums (dflt k) k v } }

/-- Count n in a counter that saturates (R99). -/
def State.bump (s : State) (k : Nat) (n : Nat := 1) : State := s.wr k (satAdd u32Max (s.rd k) n)

/-- Count n in a running counter, which wraps modulo 2^32 (R99). -/
def State.run32 (s : State) (k : Nat) (n : Nat := 1) : State := s.wr k ((s.rd k + n) % 4294967296)

/-- A number read as a Boolean. -/
abbrev State.flag (s : State) (k : Nat) : Bool := s.rd k != 0

/-- A number read as a signed value of w bits. -/
def State.rdI (s : State) (w k : Nat) : Int := ofRaw w (s.rd k)

/-- The bytes of a DOMAIN object (log 6: an object nothing has written is empty, unless its reset says
otherwise). -/
def State.dom (s : State) (k : Nat) : Bytes := KMap.getD s.dict.doms [] k

/-- Replace the bytes of a DOMAIN object. -/
def State.setDom (s : State) (k : Nat) (bs : Bytes) : State :=
  { s with dict := { s.dict with doms := KMap.setD s.dict.doms [] k bs } }

/-! ### Free values, output, edges, causes -/

/-- A fresh free value of w bits (log 1). -/
def State.draw (s : State) (w : Nat) : BitVec w := Config.freeBits w s.draws

/-- Count the free value as drawn. -/
def State.drawn (s : State) : State := { s with draws := s.draws + 1 }

/-- Something leaves the device. -/
def State.emit (s : State) (o : Out) : State := { s with out := o :: s.out }

/-- An edge sets out for the Buckle (R488). -/
def State.raise (s : State) (src : Nat) : State :=
  { s with buckle := { s.buckle with edges := s.buckle.edges ++ [src] } }

/-- Write a number whose change is an edge of the Buckle (Table 19-1). -/
def State.wrEdge (s : State) (k v src : Nat) : State := if s.rd k = v then s.wr k v else (s.wr k v).raise src

/-- EN and VECTOR of a host cause (R506). -/
def State.cause (s : State) (c : Nat) : Bool × Nat := KMap.getD s.host.causes (false, c % 64) c

/-- Set a host cause's flag, while the cause is enabled (R506). -/
def State.setCause (s : State) (c : Nat) : State :=
  if (s.cause c).1 && !s.host.flags.contains c then
    { s with host := { s.host with flags := s.host.flags ++ [c] } }
  else s

/-! ### Time -/

/-- Chain time as TIME80 carries it. -/
def State.time80 (s : State) : Time80 := { sec := s.clock.sec, ns := s.clock.ns }

/-- Nanoseconds of a TIME80 value. -/
def timeNs (t : Time80) : Nat := t.sec * 1000000000 + t.ns

/-- The TIME80 value of a number of nanoseconds. -/
def nsToTime (n : Nat) : Time80 := { sec := n / 1000000000 % 2 ^ 48, ns := n % 1000000000 }

/-- TIME80 as an 80-bit number (R59). -/
def timeRaw (t : Time80) : Nat := t.sec * 2 ^ 32 + t.ns

/-- The TIME80 value that an 80-bit number holds. -/
def rawToTime (x : Nat) : Time80 := { sec := x / 2 ^ 32 % 2 ^ 48, ns := x % 2 ^ 30 }

/-- Chain time in nanoseconds. -/
def State.nowNs (s : State) : Nat := s.clock.sec * 1000000000 + s.clock.ns

/-- Elapsed device time in 4 ns cycles (R433). -/
def State.elapsed (s : State) : Nat := s.clock.elapsed

/-- Cycles of elapsed device time in n microseconds. -/
def us (n : Nat) : Nat := 250 * n

/-- Cycles of elapsed device time in n milliseconds. -/
def ms (n : Nat) : Nat := 250000 * n

/-! ### Results of commands -/

/-- The record of a RES object; header zero before the first run (R84). -/
def State.res (s : State) (k : Nat) : ResRec :=
  KMap.getD s.dict.results { seq := 0, outcome := 0, busy := false, code := 0, data := [] } k

/-- Replace the record of a RES object. -/
def State.setRes (s : State) (k : Nat) (r : ResRec) : State :=
  let z : ResRec := { seq := 0, outcome := 0, busy := false, code := 0, data := [] }
  { s with dict := { s.dict with results := KMap.setD s.dict.results z k r } }

/-- Sequence after q: 0xFFFF_FFFF wraps to 1 (R83). -/
def nextResSeq (q : Nat) : Nat := if q ≥ u32Max then 1 else q + 1

/-- A run begins (R85). -/
def State.resBegin (s : State) (k : Nat) : State := s.setRes k { s.res k with busy := true }

/-- A run ends: sequence, outcome, code and data are replaced at one instant (R85). CODE 0 is done. -/
def State.resEnd (s : State) (k code : Nat) (data : Bytes := []) : State :=
  s.setRes k { seq := nextResSeq (s.res k).seq, outcome := if code = 0 then 1 else 2, busy := false,
               code := code, data := data }

/-- A run in progress ends; without one, nothing. -/
def State.resEndIfBusy (s : State) (k code : Nat) (data : Bytes := []) : State :=
  if (s.res k).busy then s.resEnd k code data else s

/-! ### Strap queues (R308 to R313) -/

/-- A strap queue with nothing in it. -/
def StrapQ.empty : StrapQ := { head := [], mid := [], part := 0, tail := [], welt := none, nextSeq := 0 }

/-- Strap queue q. -/
def State.strap (s : State) (q : Nat) : StrapQ := KMap.getD s.sb.queues StrapQ.empty q

/-- Replace strap queue q. -/
def State.setStrap (s : State) (q : Nat) (x : StrapQ) : State :=
  { s with sb := { s.sb with queues := KMap.setD s.sb.queues StrapQ.empty q x } }

/-- Words of a list of items. -/
def itemWords (l : List StrapItem) : Nat := (l.map (·.words)).sum

/-- Words that the tail ring holds. -/
def StrapQ.tailWords (x : StrapQ) : Nat :=
  itemWords x.tail - x.part + (if x.welt.isSome then 1 else 0)

/-- `SQ_ITEMS`: items and welts held (R312). -/
def StrapQ.items (x : StrapQ) : Nat :=
  x.head.length + x.mid.length + x.tail.length + (if x.welt.isSome then 1 else 0)

/-- Welts held. -/
def StrapQ.welts (x : StrapQ) : Nat :=
  ((x.head ++ x.mid ++ x.tail).filter (fun i => i.kind == 1)).length + (if x.welt.isSome then 1 else 0)

/-- Base and size of the STRAP region of queue q while the link is up and a layout is in force. -/
def State.strapRegion (s : State) (q : Nat) : Option Region :=
  if s.rd Key.sbLinkState = 2 then
    match s.sb.layout with
    | some l => l.find? (fun r => r.kind == 5 && r.index == q)
    | none => none
  else none

/-- Words of the middle of queue q. -/
def State.midWords (s : State) (q : Nat) : Nat :=
  match s.strapRegion q with
  | some r => r.size / 64
  | none => 0

/-- L of R312. -/
def State.strapLimit (s : State) (q : Nat) : Nat := min (s.rd (Key.sqLimit q)) (s.midWords q + 128)

/-- Data bytes of a welt after its header (R313). -/
def Welt.bytes (w : Welt) : Bytes :=
  leBytes 4 w.items ++ leBytes 4 w.words ++ leBytes 10 (timeRaw w.first) ++ leBytes 10 (timeRaw w.last)

/-- A closed welt as an item. -/
def Welt.item (w : Welt) (seq entered : Nat) : StrapItem :=
  { kind := 1, poison := false, words := 1, seq := seq, data := w.bytes, entered := entered }

/-- Step 2 of R310: whole items pass from the tail ring to the head ring while the middle is empty. -/
def passToHead : Nat → StrapQ → StrapQ
  | 0, x => x
  | n + 1, x =>
    if x.mid.isEmpty && x.part == 0 then
      match x.tail with
      | i :: rest =>
        if itemWords x.head + i.words ≤ 64 then
          passToHead n { x with head := x.head ++ [i], tail := rest }
        else x
      | [] => x
    else x

/-- The open welt closes and becomes an item of the tail ring (R313). -/
def StrapQ.closeWelt (x : StrapQ) (now : Nat) : StrapQ :=
  match x.welt with
  | some (seq, w) => { x with tail := x.tail ++ [w.item seq now], welt := none }
  | none => x

/-- An item of w words is refused by queue q (R312). -/
def State.strapFull (s : State) (q w : Nat) : Bool :=
  let x := s.strap q
  decide (s.strapLimit q ≤ x.items - x.welts) || decide (64 < x.tailWords + w + 1)

/-- Count a drop of w words in the queue's welt, opening one if none is open (R313). -/
def State.strapDrop (s : State) (q w : Nat) : State :=
  let x := s.strap q
  let t := s.time80
  let s := s.bump (Key.sqLost q)
  match x.welt with
  | some (seq, o) =>
    s.setStrap q { x with welt := some (seq, { o with items := o.items + 1, words := o.words + w, last := t, lastAt := s.elapsed }) }
  | none =>
    (s.bump (Key.sqWelts q)).setStrap q
      { x with welt := some (x.nextSeq, { items := 1, words := w, first := t, last := t, lastAt := s.elapsed })
               nextSeq := (x.nextSeq + 1) % 4294967296 }

/-- A producer offers an item of w words (R309, R312, R313); data are its bytes after the header. -/
def State.strapPush (s : State) (q w : Nat) (data : Bytes) (kind : Nat := 0) : State :=
  if w = 0 ∨ 16 < w then s.bump (Key.sqLost q)
  else if s.strapFull q w then s.strapDrop q w
  else
    let x := (s.strap q).closeWelt s.elapsed
    let item : StrapItem :=
      { kind := kind, poison := false, words := w, seq := x.nextSeq, data := data, entered := s.elapsed }
    let x := { x with tail := x.tail ++ [item], nextSeq := (x.nextSeq + 1) % 4294967296 }
    let s := s.setStrap q (passToHead 65 x)
    if 1 ≤ q ∧ q ≤ 3 then s.setCause (64 + q) else s

/-! ### Journal, error log -/

/-- Add a record to the event journal (R321); before the journal runs the record is held. -/
def State.journalAdd (s : State) (r : JournalRec) : State :=
  let j := s.sb.journal
  let j := if j.running then { j with flight := j.flight ++ [(j.nextSeq, r)], nextSeq := j.nextSeq + 1 }
           else { j with held := j.held ++ [r] }
  { s with sb := { s.sb with journal := j } }

/-- Bytes of an error log entry (Table 4-4, R577). -/
def errBytes (e : ErrEntry) : Bytes :=
  leBytes 8 e.arg2 ++ leBytes 8 e.arg ++ leBytes 1 e.severity ++ leBytes 1 e.clkdom ++ leBytes 2 e.source
    ++ leBytes 2 e.code ++ leBytes 10 (timeRaw e.time)

/-- Objects that the boot ROM serves (R424). -/
def romServes (idx : Nat) : Bool := idx == 0x1000 || (decide (0x1100 ≤ idx) && decide (idx ≤ 0x1103)) || idx == 0x1200 || idx == 0x5200

/-- A CMD subentry starts nothing: R65 has not completed, the boot ROM does not serve its index, or its run is in progress; k is the key
of its RES object (R68, R85, R424). -/
def State.cmdBlocked (s : State) (k : Nat) : Bool := !s.dict.ready || (s.tree.rom && !romServes (k / 256)) || (s.res k).busy

/-- Bytes of a clamp log entry (Table 3-2, R577). -/
def clampBytes (e : ClampEntry) : Bytes :=
  leBytes 8 e.stored ++ leBytes 8 e.requested ++ leBytes 1 0 ++ leBytes 1 e.field ++ leBytes 1 e.origin
    ++ leBytes 1 e.sub ++ leBytes 2 e.index ++ leBytes 10 (timeRaw e.time)

/-- Write an entry into the error log, or count it as suppressed (R103, Table 4-3); extra bytes follow
the entry in its item of strap queue 1, which then has 16 words (R522). -/
def State.logErr (s : State) (e : ErrEntry) (extra : Bytes := []) : State :=
  let s := (s.run32 Key.errTotal).journalAdd (.err e)
  if e.severity < s.rd Key.errMinSeverity then s.bump Key.errSuppressed
  else
    let n := s.rd Key.errLogNext
    let alarm := if 2 ≤ e.severity then some s.clock.elapsed else s.dict.alarmAt
    let s := { s with dict := { s.dict with errLog := KMap.put s.dict.errLog n e, alarmAt := alarm } }
    let s := s.wr Key.errLogNext ((n + 1) % 256)
    let data := errBytes e ++ extra
    let s := s.strapPush 1 (if extra.isEmpty then 1 else 16) data
    let s := s.raise 2
    if e.severity = 3 then s.raise 1 else s

/-- Post a status with a severity of its own (R103). -/
def State.postSev (s : State) (c : Err) (sev source arg arg2 : Nat) (dom : Nat := 0xFF)
    (extra : Bytes := []) : State :=
  s.logErr { time := s.time80, code := c.code, source := source, clkdom := dom, severity := sev,
             arg := arg % 2 ^ 64, arg2 := arg2 % 2 ^ 64 } extra

/-- Post a status to the error objects (R103, R575). -/
def State.post (s : State) (c : Err) (source : Nat) (arg : Nat := 0) (arg2 : Nat := 0) (dom : Nat := 0xFF) :
    State := s.postSev c c.severity source arg arg2 dom

/-- What the check of a word of memory k (row of Table 1-4) finds: every error counts, and an uncorrectable one is posted
(R9, R103, R575). -/
def State.memFound (s : State) (k : Nat) (e : MemErr) (addr : Nat) : State :=
  match e with
  | .none => s
  | .single => s.bump (Key.memErr k)
  | .uncorrectable => ((s.bump (Key.memErr k)).bump Key.memUncorrected).post .memUncorrected 0x1200 (0x10 + k) addr

/-- Add an entry to the clamp log (R73, R94). -/
def State.logClamp (s : State) (e : ClampEntry) : State :=
  let n := s.rd Key.clampLogNext
  let s := { s with dict := { s.dict with clampLog := KMap.put s.dict.clampLog n e } }
  ((s.wr Key.clampLogNext ((n + 1) % 64)).bump Key.clampTotal).journalAdd (.clamp e)

/-! ### Reports of directed frames (R505) -/

/-- The outcome of a directed frame whose report is asked for is final. -/
def State.reportFinal (s : State) (handle : Option Nat) (report outcome : Nat) : State :=
  match handle with
  | none => s
  | some h =>
    match KMap.find s.host.reports h with
    | none => s
    | some _ => { s with host := { s.host with reportsDue := s.host.reportsDue ++ [(h, report, outcome)] } }

/-! ### The running tree image (R102, R422) -/

/-- Bank b of MRAM: 0 A, 1 B. -/
def State.bank (s : State) (b : Nat) : Bank := if b = 1 then s.tree.b else s.tree.a

/-- Bank that the cores run (`TREE_ACTIVE_BANK`). -/
abbrev State.runBank (s : State) : Nat := s.rd Key.treeActiveBank

/-- A field of the running image's header; 0 in the boot ROM. -/
def State.runField (s : State) (off n : Nat) : Nat :=
  if s.tree.rom then 0 else leNat (slice (s.bank s.runBank).image off n)

/-- `ID_TREE_VERSION`. -/
def State.treeVersion (s : State) : Nat := s.runField 8 4

/-- `ID_CHAIN_LEVEL`; the boot ROM sends level 1 (R424). -/
def State.chainLevel (s : State) : Nat := if s.tree.rom then 1 else s.runField 12 1

/-! ### Outcome of a meaning -/

/-- Outcomes of the commands. -/
abbrev Step := Host.Outcome State Fault Refusal

/-- Apply f to the elements of a list in order, carrying the state. -/
def State.each {α : Type} (s : State) (l : List α) (f : State → α → State) : State := l.foldl f s

end Sys2Proof.Machine
end

