-- ==== Sys2Proof/Machine/Clock.lean ====
section
/-! DEFINITION. The chain-time counter and elapsed device time advancing by clock cycles (R430 to R434). -/

namespace Sys2Proof.Machine

/-- Least and greatest effective increment, the range of `TIME_INCR` (R431, Table 4-6). -/
def incrMin : Nat := 0x3FF7CED9
def incrMax : Nat := 0x40083127

/-- Effective increment of one 250 MHz cycle, in 2^-28 ns (R431). The product with the correction is
rounded down (log 12). -/
def State.increment (s : State) : Nat :=
  let base := s.rd Key.timeIncr
  if s.clock.state = 1 ∨ s.clock.state = 2 then
    let c := max (-12800000) (min 12800000 s.clock.corr)
    let v := ((base : Int) * (64000000000 + c)) / 64000000000
    max incrMin (min incrMax v.toNat)
  else base

/-- The counter after n cycles at an increment (R430): seconds, nanoseconds and fraction. -/
def counterAfter (c : Clock) (incr n : Nat) : Clock :=
  let total := c.ns * 2 ^ 28 + c.frac + n * incr
  let nsAll := total / 2 ^ 28
  { c with
    sec := (c.sec + nsAll / 1000000000) % 2 ^ 48
    ns := nsAll % 1000000000
    frac := total % 2 ^ 28
    elapsed := (c.elapsed + n) % 2 ^ 64 }

/-- The RTC after n cycles (R551: it counts from its own crystal in every state but OFF). -/
def rtcAfter (v : Vbat) (n : Nat) : Vbat :=
  { v with rtc := (v.rtc + (v.rtcFrac + n) / 250000000) % 2 ^ 48, rtcFrac := (v.rtcFrac + n) % 250000000 }

/-- The seconds carry within n cycles at an increment (R430). -/
def carries (c : Clock) (incr n : Nat) : Bool := decide (1000000000 * 2 ^ 28 ≤ c.ns * 2 ^ 28 + c.frac + n * incr)

/-- The RTC after the newest carry of a clock: the present seconds, and the cycles since the carry (R434). -/
def rtcWritten (v : Vbat) (c : Clock) (incr : Nat) : Vbat :=
  { v with rtc := c.sec, rtcFrac := (c.ns * 2 ^ 28 + c.frac) / max 1 incr }

/-- n cycles of the time domain pass; a carry while chain time is locked writes the RTC (R430, R433, R434). -/
def State.advance (s : State) (n : Nat) : State :=
  let c := counterAfter s.clock s.increment n
  let v := if s.rd Key.pwrState = 0 then s.vbat else rtcAfter s.vbat n
  let locked : Bool := (s.clock.state == 1 || s.clock.state == 2) && (s.dict.ready || s.power.start.isSome)
  { s with clock := c, vbat := if locked && carries s.clock s.increment n then rtcWritten v c s.increment else v }

/-- The power sequencer holds the RF ports in SLEEP: the device is not in RUN and not on its way there, a
shutdown runs, R65 has not completed, or the device stays in the boot ROM (R68, R424, R535, R542). -/
def State.radioHeld (s : State) : Bool :=
  !s.dict.ready || s.tree.rom || s.power.shutdown.isSome || (match s.power.moving with
    | some t => t != 4
    | none => s.rd Key.pwrState != 4)

/-- The wheel is stopped: the device is in STANDBY (R536), or does not run. -/
def State.standby (s : State) : Bool := !s.dict.ready || s.rd Key.pwrState == 2

/-- A Harness input is closed (R535, R542), or the device does not run. -/
def State.inputClosed (s : State) (h : Nat) : Bool :=
  !s.dict.ready || s.tree.rom || match s.power.shutdown with
  | some _ => true
  | none => (s.rd Key.pwrState == 2 || s.power.moving == some 2) && !(h == 6 || h == 7 || h == 8)

end Sys2Proof.Machine
end

