-- ==== Sys2Proof/Machine/Tables.lean ====
section
/-! DEFINITION. Bridle and Halter: lookups, learning, and the table-port operations (Bridle and Halter
Tables). -/

namespace Sys2Proof.Machine

/-! ### Table-port windows -/

/-- The host's number among the requesters of the table port; 0 to 15 are the cores. -/
def hostWindow : Nat := 16

/-- A requester's window. -/
def State.window (s : State) (who : Nat) : TpWindow := KMap.getD s.tables.windows { arg := [], code := 0, ret := [], busy := false } who

/-- Replace a requester's window. -/
def State.setWindow (s : State) (who : Nat) (w : TpWindow) : State :=
  { s with tables := { s.tables with windows := KMap.setD s.tables.windows { arg := [], code := 0, ret := [], busy := false } who w } }

/-- The operation at the front of the port's queue, if its code is op: operations run one at a time, in the order of arrival (R339). -/
def State.tpFront (s : State) (op : Nat) : Option TpOp := s.tables.ops.head?.filter (fun o => o.op == op)

/-- The port's queue without its front. -/
def State.tpTaken (s : State) : State := { s with tables := { s.tables with ops := s.tables.ops.drop 1 } }

/-- A little-endian argument of k bytes at offset o (R510). -/
def tpArg (x : Bytes) (o k : Nat) : Nat := leNat (slice x o k)

/-- F of a prefix argument: 0 IPv6, 1 IPv4. -/
def tpV4 (x : Bytes) : Bool := tpArg x 1 1 == 1

/-- The prefix argument, in network order; an IPv4 prefix fills the first 4 bytes. -/
def tpPrefix (x : Bytes) : Nat := beNat (slice x 2 (if tpV4 x then 4 else 16))

/-- Entries of a copy list up to its end mark (R330). -/
def copyEntries (x : Bytes) : List CopyEntry :=
  let w (i : Nat) : Nat := tpArg x (2 + 4 * i) 4
  ((List.range 16).takeWhile (fun i => bits (w i) 28 4 != 15)).map
    (fun i => { output := bits (w i) 28 4, target := bits (w i) 26 2, value := bits (w i) 0 16 })

/-- An operation ends: its code and returned values stand in the requester's window, and the requester
learns of it (R506 cause 68, Table 19-1 sources 128 to 143). -/
def State.tpDone (s : State) (who code : Nat) (ret : Bytes := []) : State :=
  let s := s.setWindow who { s.window who with code := code, ret := slice ret 0 128, busy := false }
  if who = hostWindow then s.setCause 68 else s.raise (128 + who)

/-! ### Bridle -/

/-- Address width of a family. -/
def famBits (v4 : Bool) : Nat := if v4 then 32 else 128

/-- The first n bits of an address of a family. -/
def topBits (v4 : Bool) (addr n : Nat) : Nat := addr / 2 ^ (famBits v4 - n)

/-- The prefix covers an address. -/
def Prefix.covers (p : Prefix) (addr : Nat) : Bool :=
  topBits p.v4 p.addr p.len == topBits p.v4 addr p.len

/-- Stage of a prefix length (Table 12-1). -/
def stageOf (len : Nat) : Nat := if len ≤ 16 then 0 else (len - 16 + 7) / 8

/-- KIND of a result (Table 12-3). -/
def resultKind (r : Nat) : Nat := bits r 28 4

/-- VALUE of a result. -/
def resultValue (r : Nat) : Nat := bits r 0 16

/-- The longest of some prefixes that covers an address. -/
def longest (addr : Nat) : List Prefix → Option Prefix
  | [] => none
  | p :: ps =>
    match longest addr ps with
    | some q => if p.covers addr && decide (q.len < p.len) then some p else some q
    | none => if p.covers addr then some p else none

/-- Result after stages k, k + 1, …, with the best result so far (R328, R329). -/
def walkStages (ps : List Prefix) (addr : Nat) : Nat → Nat → Option Nat → Option Nat
  | 0, _, best => best
  | n + 1, k, best =>
    let here := ps.filter (fun p => p.len ≠ 0 && stageOf p.len == k)
    let best := match longest addr here with
      | some p => if resultKind p.result = 0 then best else some p.result
      | none => best
    walkStages ps addr n (k + 1) best

/-- Longest-prefix lookup of an address in an instance (R324, R326 to R329); none: a miss. -/
def State.bridleFind (s : State) (inst : Nat) (v4 : Bool) (addr : Nat) : Option Nat :=
  let ps := s.tables.prefixes.filter (fun p => p.inst == inst && p.v4 == v4)
  let base := match ps.find? (fun p => p.len == 0) with
    | some p => if resultKind p.result = 0 then none else some p.result
    | none => none
  walkStages ps addr 15 0 base

/-- A walk for an address reads a word of stage k: stage 0 always, and a later one where a node lies on the way (R326 to R328). -/
def State.bridleReads (s : State) (inst : Nat) (v4 : Bool) (addr k : Nat) : Bool :=
  k == 0 || s.tables.prefixes.any (fun p => p.inst == inst && p.v4 == v4 && decide (16 < p.len ∧ k ≤ stageOf p.len)
    && topBits v4 p.addr (16 + 8 * (k - 1)) == topBits v4 addr (16 + 8 * (k - 1)))

/-- The failed word that a walk for an address meets. -/
def State.bridleHit (s : State) (inst : Nat) (v4 : Bool) (addr : Nat) (bad : Option (Nat × Nat)) : Option (Nat × Nat) :=
  bad.filter (fun w => s.bridleReads inst v4 addr w.1)

/-- A word is read that fails its parity: it enters the list of failed words and is posted (R9, R346). -/
def State.bridleBad (s : State) (w : Nat × Nat) (inst : Nat) : State :=
  let s := s.memFound 5 .uncorrectable w.2
  let arg := w.1 * 2 ^ 56 + w.2 % 2 ^ 20
  if s.tables.badWords.contains w then s
  else if s.tables.badWords.length < 64 then
    ({ s with tables := { s.tables with badWords := s.tables.badWords ++ [w] } }).post .brParity 0x4200 arg inst 194
  else s.post .brParity 0x4200 arg inst 194

/-- A lookup meets a word that fails its parity: it is a miss, counted and posted (R346). -/
def State.bridleParity (s : State) (w : Nat × Nat) (inst : Nat) : State := (s.bump Key.bridleParityErr).bridleBad w inst

/-- Runs of equal results over a list of slot results (`RUNS`, Table 12-2). -/
def countRuns : Option (Option Nat) → List (Option Nat) → Nat
  | _, [] => 0
  | prev, r :: rs => (if prev == some r then 0 else 1) + countRuns (some r) rs

/-- Words of the stage-k node that holds own prefixes (R328): header, results, own-prefix list. -/
def nodeWords (v4 : Bool) (k : Nat) (own : List Prefix) : Nat :=
  let slot (b : Nat) : Option Nat :=
    (longest (b * 2 ^ (famBits v4 - (16 + 8 * k)))
      (own.map (fun p => { p with addr := bits p.addr (famBits v4 - (16 + 8 * k)) 8 * 2 ^ (famBits v4 - (16 + 8 * k)) }))).map (·.result)
  let runs := countRuns none ((List.range 256).map slot)
  5 + (runs + 3) / 4 + (own.length + 1) / 2

/-- The nodes of stage k: (instance, family, address bits above the stage), each once. -/
def stageNodes (ps : List Prefix) (k : Nat) : List (Nat × Bool × Nat) :=
  ((ps.filter (fun p => decide (16 < p.len) && decide (k ≤ stageOf p.len))).map
    (fun p => (p.inst, p.v4, topBits p.v4 p.addr (16 + 8 * (k - 1))))).eraseDups

/-- Words that stage k needs. -/
def stageWords (ps : List Prefix) (k : Nat) : Nat :=
  ((stageNodes ps k).map (fun n =>
    nodeWords n.2.1 k (ps.filter (fun p => decide (16 < p.len) && stageOf p.len == k && p.inst == n.1 && p.v4 == n.2.1
      && topBits p.v4 p.addr (16 + 8 * (k - 1)) == n.2.2)))).sum

/-- The stage-0 keys (instance, family, B) that need a root entry (R327). -/
def rootKeys (ps : List Prefix) : List (Nat × Bool × Nat) :=
  ((ps.filter (fun p => p.len ≠ 0)).flatMap (fun p =>
    if p.len ≤ 16 then
      (List.range (2 ^ (16 - p.len))).map (fun j => (p.inst, p.v4, topBits p.v4 p.addr 16 + j))
    else [(p.inst, p.v4, topBits p.v4 p.addr 16)])).eraseDups

/-- Root-directory set of a key (R327). -/
def rootSet (inst : Nat) (v4 : Bool) (b : Nat) : Nat :=
  Nat.xor (Nat.xor (Nat.xor (b % 4096) (b / 4096 * 256)) (inst * 0xA5 % 4096)) (if v4 then 2048 else 0)

/-- No set of the root directory holds more than its 4 ways. -/
def rootFits (keys : List (Nat × Bool × Nat)) : Bool :=
  let sets := keys.map (fun k => rootSet k.1 k.2.1 k.2.2)
  sets.all (fun x => decide ((sets.filter (· == x)).length ≤ 4))

/-- The pool holds what these prefixes need: 123 blocks of 4,096 words, the root sets, and the 4,096
places of the short-prefix list (R327, R331; log 20). -/
def bridleFits (ps : List Prefix) : Bool :=
  decide ((((List.range 14).map (fun i => (stageWords ps (i + 1) + 4095) / 4096)).sum) ≤ 123)
    && decide ((ps.filter (fun p => decide (8 ≤ p.len ∧ p.len ≤ 16))).length ≤ 4096)
    && rootFits (rootKeys ps)

/-- A result that a table may hold (R337, Table 12-3). -/
def resultOk (r : Nat) : Bool :=
  let v := resultValue r
  decide (r < 2 ^ 32) &&
  match resultKind r with
  | 0 => true
  | 1 => v == 8 || v == 9
  | 2 => decide (v < 4096)
  | 3 => decide (v < 2048)
  | 4 => v == 0
  | 5 => v == 0
  | 6 => decide (v < 64)
  | _ => false

/-- Argument checks of a prefix (R325, R337): none when it is legal, else the result code. -/
def prefixArg (inst : Nat) (v4 : Bool) (addr len : Nat) : Option Nat :=
  if 1 ≤ len ∧ len ≤ 7 then some 0x12
  else if famBits v4 < len ∨ 255 < inst ∨ 2 ^ famBits v4 ≤ addr ∨ addr % 2 ^ (famBits v4 - len) ≠ 0 then some 0x11
  else none

/-- The stored prefix with this key. -/
def State.prefix? (s : State) (inst : Nat) (v4 : Bool) (addr len : Nat) : Option Prefix :=
  s.tables.prefixes.find? (fun p => p.inst == inst && p.v4 == v4 && p.len == len && p.addr == addr)

/-- Replace the prefixes. -/
def State.setPrefixes (s : State) (l : List Prefix) : State := { s with tables := { s.tables with prefixes := l } }

/-- Words that an operation rewrites leave the list of failed words (R346). -/
def State.rewriteWords (s : State) (ws : List (Nat × Nat)) : State :=
  { s with tables := { s.tables with badWords := s.tables.badWords.filter (fun w => !ws.contains w) } }

/-- Cores 12 to 15, which may use only reads of the tables and of slot attributes (R481). -/
def tpBarred (who : Nat) : Bool := decide (12 ≤ who) && decide (who ≤ 15)

/-- The operation at the front runs as op, unless cores 12 to 15 may not use it (R339, R481). -/
def State.tpRun (s : State) (op : Nat) (f : State → Nat → Bytes → State) : State :=
  match s.tpFront op with
  | some o => if tpBarred o.who then s.tpTaken.tpDone o.who 0x11 else f s.tpTaken o.who o.arg
  | none => s

/-- The operation at the front runs as op, which every requester may use (R481). -/
def State.tpRead (s : State) (op : Nat) (f : State → Nat → Bytes → State) : State :=
  match s.tpFront op with
  | some o => f s.tpTaken o.who o.arg
  | none => s

/-- A prefix is inserted or its result rewritten (R331, R337, R340). -/
def State.brInsert (s : State) (who : Nat) (p : Prefix) (rewritten : List (Nat × Nat)) : State :=
  match prefixArg p.inst p.v4 p.addr p.len with
  | some c => s.tpDone who c
  | none =>
    if !resultOk p.result then s.tpDone who 0x11
    else match s.prefix? p.inst p.v4 p.addr p.len with
      | some old =>
        let l := s.tables.prefixes.map (fun q => if q == old then p else q)
        if bridleFits l then ((s.setPrefixes l).rewriteWords rewritten).tpDone who 0x01 else s.tpDone who 0x14
      | none =>
        if 262144 ≤ s.tables.prefixes.length then s.tpDone who 0x13
        else if bridleFits (s.tables.prefixes ++ [p]) then
          ((s.setPrefixes (s.tables.prefixes ++ [p])).rewriteWords rewritten).tpDone who 0x00
        else s.tpDone who 0x14

/-- The prefix argument is in its ranges: F 0 or 1 (R337). -/
def tpFamOk (x : Bytes) : Bool := decide (tpArg x 1 1 ≤ 1)

/-- `BR_INSERT`: I, F, prefix, length, result; rewritten: failed words that it rewrites (R346). -/
def execBrInsert (rewritten : List (Nat × Nat)) (s : State) : Step :=
  .next (s.tpRun 0x01 (fun s who x =>
    if !tpFamOk x then s.tpDone who 0x11
    else s.brInsert who { inst := tpArg x 0 1, v4 := tpV4 x, len := tpArg x 18 1, addr := tpPrefix x, result := tpArg x 19 4 } rewritten))

/-- `BR_DELETE`: I, F, prefix, length (R337, R340). -/
def execBrDelete (rewritten : List (Nat × Nat)) (s : State) : Step :=
  .next (s.tpRun 0x02 (fun s who x =>
    if !tpFamOk x then s.tpDone who 0x11
    else match prefixArg (tpArg x 0 1) (tpV4 x) (tpPrefix x) (tpArg x 18 1) with
      | some c => s.tpDone who c
      | none =>
        match s.prefix? (tpArg x 0 1) (tpV4 x) (tpPrefix x) (tpArg x 18 1) with
        | some old => ((s.setPrefixes (s.tables.prefixes.filter (fun q => q != old))).rewriteWords rewritten).tpDone who 0x00
        | none => s.tpDone who 0x10))

/-- `BR_READ`: I, F, prefix, length (R337, R346); bad: a failed word that its walk meets. -/
def execBrRead (bad : Option (Nat × Nat)) (s : State) : Step :=
  .next (s.tpRead 0x03 (fun s who x =>
    if !tpFamOk x then s.tpDone who 0x11
    else match prefixArg (tpArg x 0 1) (tpV4 x) (tpPrefix x) (tpArg x 18 1) with
      | some c => s.tpDone who c
      | none =>
        match s.bridleHit (tpArg x 0 1) (tpV4 x) (tpPrefix x) bad with
        | some w => (s.bridleBad w (tpArg x 0 1)).tpDone who 0x16
        | none =>
          match s.prefix? (tpArg x 0 1) (tpV4 x) (tpPrefix x) (tpArg x 18 1) with
          | some p => s.tpDone who 0x00 (leBytes 4 p.result)
          | none => s.tpDone who 0x10))

/-- `BR_FLUSH`: I, F (R340); it returns how many prefixes it removed. -/
def execBrFlush (rewritten : List (Nat × Nat)) (s : State) : Step :=
  .next (s.tpRun 0x04 (fun s who x =>
    if !tpFamOk x then s.tpDone who 0x11
    else
      let mine (p : Prefix) : Bool := p.inst == tpArg x 0 1 && p.v4 == tpV4 x
      ((s.setPrefixes (s.tables.prefixes.filter (fun p => !mine p))).rewriteWords rewritten).tpDone who 0x00
        (leBytes 4 (s.tables.prefixes.filter mine).length)))

/-- `NH_WRITE`: entry and its 16 bytes (R330; their places: log 45). -/
def execNhWrite (s : State) : Step :=
  .next (s.tpRun 0x08 (fun s who x =>
    let n := tpArg x 0 2
    let nh : NextHop := { mac := beNat (slice x 2 6), vlan := tpArg x 8 2, output := tpArg x 10 1 }
    if 4095 < n ∨ 4094 < nh.vlan ∨ ¬ (nh.output = 4 ∨ nh.output = 5) then s.tpDone who 0x11
    else
      let m := if tpArg x 11 1 % 2 = 1 then KMap.put s.tables.nextHops n nh else KMap.drop s.tables.nextHops n
      ({ s with tables := { s.tables with nextHops := m } }).tpDone who 0x00))

/-- `CL_WRITE`: list and its 64 bytes; an output above 11 other than the end mark is refused (R330, R337). -/
def execClWrite (s : State) : Step :=
  .next (s.tpRun 0x09 (fun s who x =>
    let n := tpArg x 0 2
    let l := copyEntries x
    if 2047 < n ∨ l.any (fun e => decide (11 < e.output)) then s.tpDone who 0x11
    else ({ s with tables := { s.tables with copyLists := KMap.setD s.tables.copyLists [] n l } }).tpDone who 0x00))

/-! ### Halter -/

/-- Bucket of a key, from u[63:18] and u[17:0] (R332). -/
def halterMix (t hi : Nat) : Nat :=
  Nat.xor (Nat.xor (Nat.xor (hi % 2 ^ 18) (hi / 2 ^ 18 % 2 ^ 18)) (hi / 2 ^ 36 % 2 ^ 10 * 256)) (t * 0x2D9A3 % 2 ^ 18)

/-- Bucket of tenant t and EUI-64 u (R332). -/
def halterBucket (t u : Nat) : Nat := Nat.xor (u % 2 ^ 18) (halterMix t (u / 2 ^ 18))

/-- EUI-64 of an entry of bucket b (R332). -/
def entryEui (b : Nat) (e : HalterEntry) : Nat := e.euiHi * 2 ^ 18 + Nat.xor b (halterMix e.tenant e.euiHi)

/-- Where a Halter entry stands: in a bucket way or an overflow way. -/
inductive HalterPlace where
  | way (w : Nat)
  | overflow (w : Nat)
  deriving DecidableEq, Repr

/-- The entry matches tenant and u[63:18]. -/
def HalterEntry.isKey (e : HalterEntry) (t u : Nat) : Bool := e.tenant == t && e.euiHi == u / 2 ^ 18

/-- Overflow way of bucket b that holds the key (R334). -/
def State.overflowWay (s : State) (b t u : Nat) : Option Nat :=
  (List.range 8).find? (fun w => match KMap.find s.tables.overflow (8 * (b % 1024) + w) with
    | some o => o.entry.isKey t u && o.bucketHi == b / 1024
    | none => false)

/-- Lookup of a key: its entry and place, the bucket before the overflow set (R334). -/
def State.halterFind (s : State) (t u : Nat) : Option (HalterEntry × HalterPlace) :=
  let b := halterBucket t u
  match (List.range 4).find? (fun w => match KMap.find s.tables.halter (4 * b + w) with
      | some e => e.isKey t u
      | none => false) with
  | some w => (KMap.find s.tables.halter (4 * b + w)).map (fun e => (e, .way w))
  | none =>
    match s.overflowWay b t u with
    | some w => (KMap.find s.tables.overflow (8 * (b % 1024) + w)).map (fun o => (o.entry, .overflow w))
    | none => none

/-- Write an entry at a place of bucket b. -/
def State.halterPut (s : State) (b : Nat) (p : HalterPlace) (e : HalterEntry) : State :=
  match p with
  | .way w => { s with tables := { s.tables with halter := KMap.put s.tables.halter (4 * b + w) { e with setAt := s.elapsed },
                                                 badWays := s.tables.badWays.filter (· != 4 * b + w) } }
  | .overflow w =>
    let k := 8 * (b % 1024) + w
    { s with tables := { s.tables with overflow := KMap.put s.tables.overflow k { entry := { e with setAt := s.elapsed }, bucketHi := b / 1024 },
                                       badOverflow := s.tables.badOverflow.filter (· != k) } }

/-- Free a place of bucket b. -/
def State.halterFree (s : State) (b : Nat) (p : HalterPlace) : State :=
  match p with
  | .way w => { s with tables := { s.tables with halter := KMap.drop s.tables.halter (4 * b + w) } }
  | .overflow w => { s with tables := { s.tables with overflow := KMap.drop s.tables.overflow (8 * (b % 1024) + w) } }

/-- A Halter entry whose check fails reads as a miss, leaves the table and is posted; its place is the first that an insert takes
(R347). b: a bucket that the place serves. -/
def State.halterParity (s : State) (b : Nat) (p : HalterPlace) : State :=
  match p with
  | .way w =>
    let k := 4 * b + w
    if (KMap.find s.tables.halter k).isNone then s
    else
      let s := (s.halterFree b p).bump Key.halterParityErr
      let s := { s with tables := { s.tables with badWays := s.tables.badWays ++ [k] } }
      (s.memFound 4 .uncorrectable k).post .haParity 0x4201 b w 194
  | .overflow w =>
    let k := 8 * (b % 1024) + w
    match KMap.find s.tables.overflow k with
    | none => s
    | some o =>
      let s := (s.halterFree b p).bump Key.halterParityErr
      let s := { s with tables := { s.tables with badOverflow := s.tables.badOverflow ++ [k] } }
      (s.memFound 9 .uncorrectable k).post .haParity 0x4201 (o.bucketHi * 1024 + b % 1024 + 2 ^ 31) w 194

/-- The bucket and its overflow set are read together; the entries of the places in bad fail their check (R334, R347). -/
def State.halterCheck (s : State) (b bad : Nat) : State :=
  let s := s.each ((List.range 4).filter (fun w => bitOf bad w)) (fun s w => s.halterParity b (.way w))
  s.each ((List.range 8).filter (fun w => bitOf bad (4 + w))) (fun s w => s.halterParity b (.overflow w))

/-- Lookup that may meet failed entries (R347). -/
def State.halterLook (s : State) (t u bad : Nat) : State × Option HalterEntry :=
  let s := s.halterCheck (halterBucket t u) bad
  (s, (s.halterFind t u).map (·.1))

/-- PARENT short address of an entry: 0x0000 the device, else the parent record's. -/
def HalterEntry.parentShort (e : HalterEntry) : Nat :=
  match e.parent with
  | some r => 0x4000 + r
  | none => 0

/-- The 96 bits of an entry (Table 12-4). -/
def HalterEntry.raw (e : HalterEntry) : Nat :=
  let low := 2 ^ 94 + e.age * 2 ^ 90 + e.tenant * 2 ^ 82 + e.euiHi * 2 ^ 36 + e.device * 2 ^ 30 + e.record * 2 ^ 16
    + (match e.parent with | some r => 2 ^ 15 + r * 2 | none => 0)
  low + popcount 95 low % 2 * 2 ^ 95

/-- Send a notification of Table 12-6 to strap queue 2. -/
def State.notice (s : State) (kind tenant eui short parent : Nat) (old : Option HalterEntry) : State :=
  let b := halterBucket tenant eui
  let (od, os, op) := match old with
    | some e => (e.device, 0x4000 + e.record, e.parentShort)
    | none => (0xFF, 0xFFFE, 0xFFFE)
  s.strapPush 2 1 (leBytes 1 kind ++ leBytes 1 (b / 2 ^ 16) ++ leBytes 1 tenant ++ zeros 13 ++ leBytes 8 eui
    ++ leBytes 1 (s.rd Key.chainAddr) ++ leBytes 2 short ++ leBytes 2 parent ++ leBytes 1 od ++ leBytes 2 os
    ++ leBytes 2 op ++ leBytes 10 (timeRaw s.time80))

/-- Notify of kind 1, 2, 3 or 5 under `LEARN_NOTIFY` and the filter (R345). -/
def State.learnNotice (s : State) (kind tenant eui short parent : Nat) (old : Option HalterEntry) : State :=
  if !s.flag Key.learnNotify then s
  else if s.tables.filter.any (fun f => f.kind == kind && f.tenant == tenant && f.eui == eui
      && decide (s.elapsed < f.sentAt + ms 1000)) then s
  else
    let f : Learnt := { kind := kind, tenant := tenant, eui := eui, sentAt := s.elapsed }
    let kept := s.tables.filter.filter (fun g => !(g.kind == kind && g.tenant == tenant && g.eui == eui))
    let kept := if 1024 ≤ kept.length then kept.drop 1 else kept
    ({ s with tables := { s.tables with filter := kept ++ [f] } }).notice kind tenant eui short parent old

/-- Learning lookup of an uplink frame of record r that passed R12 (R343). -/
def State.learn (s : State) (r tenant eui parent bad : Nat) : State :=
  if s.rd Key.chainAddr = 0xFF then s
  else
    let (s, found) := s.halterLook tenant eui bad
    match found with
    | none => s.learnNotice 1 tenant eui (0x4000 + r) parent none
    | some e =>
      if e.device ≠ s.rd Key.chainAddr ∨ e.record ≠ r then s.learnNotice 2 tenant eui (0x4000 + r) parent (some e)
      else if e.parentShort ≠ parent then s.learnNotice 3 tenant eui (0x4000 + r) parent (some e)
      else match s.halterFind tenant eui with
        | some (_, p) => if e.age = 0 then s else s.halterPut (halterBucket tenant eui) p { e with age := 0 }
        | none => s

/-- Next state of the 16-bit Fibonacci register, taps 16, 14, 13, 11 (R342). -/
def lfsrNext (x : Nat) : Nat :=
  let b := (bits x 0 1 + bits x 2 1 + bits x 3 1 + bits x 5 1) % 2
  x / 2 + b * 2 ^ 15

/-- Victim way of a full bucket (R342). -/
def State.victim (s : State) (b : Nat) : Nat × State :=
  let age (w : Nat) := match KMap.find s.tables.halter (4 * b + w) with | some e => e.age | none => 0
  let other := (List.range 4).filter (fun w => match KMap.find s.tables.halter (4 * b + w) with
    | some e => e.device != s.rd Key.chainAddr
    | none => false)
  let cand := if other.isEmpty then List.range 4 else other
  if s.rd Key.halterEvict = 1 then
    (cand.foldl (fun best w => if age best < age w then w else best) (cand.headD 0), s)
  else
    (cand.getD (s.tables.lfsr % cand.length) 0, { s with tables := { s.tables with lfsr := lfsrNext s.tables.lfsr } })

/-- The free way of bucket b that an insert takes: one whose entry failed before the others, then the lowest (R342, R347). -/
def State.freeWay (s : State) (b : Nat) : Option Nat :=
  let free := (List.range 4).filter (fun w => (KMap.find s.tables.halter (4 * b + w)).isNone)
  match free.find? (fun w => s.tables.badWays.contains (4 * b + w)) with
  | some w => some w
  | none => free.head?

/-- The free way of bucket b's overflow set that an insert takes. -/
def State.freeOverflow (s : State) (b : Nat) : Option Nat :=
  let free := (List.range 8).filter (fun w => (KMap.find s.tables.overflow (8 * (b % 1024) + w)).isNone)
  match free.find? (fun w => s.tables.badOverflow.contains (8 * (b % 1024) + w)) with
  | some w => some w
  | none => free.head?

/-- An entry is inserted or rewritten (R342). -/
def State.haInsert (s : State) (who u : Nat) (e : HalterEntry) (noEvict : Bool) : State :=
  let b := halterBucket e.tenant u
  match s.halterFind e.tenant u with
  | some (_, p) => (s.halterPut b p e).tpDone who 0x01
  | none =>
    match s.freeWay b with
    | some w => (s.halterPut b (.way w) e).tpDone who 0x00
    | none =>
      match s.freeOverflow b with
      | some w => (s.halterPut b (.overflow w) e).tpDone who 0x00
      | none =>
        if noEvict then s.tpDone who 0x15
        else
          let v := s.victim b
          match KMap.find s.tables.halter (4 * b + v.1) with
          | some old =>
            let s := (v.2.notice 4 old.tenant (entryEui b old) 0xFFFE 0xFFFE (some old)).bump Key.halterEvictions
            (s.halterPut b (.way v.1) e).tpDone who 0x02 (leBytes 12 old.raw)
          | none => (v.2.halterPut b (.way v.1) e).tpDone who 0x00

/-- `HA_INSERT`: t, EUI-64, DEVICE, RECORD, parent, NOEVICT (R337, R342); bad: failed entries that it reads. -/
def execHaInsert (bad : Nat) (s : State) : Step :=
  .next (s.tpRun 0x10 (fun s who x =>
    let t := tpArg x 0 1
    let u := tpArg x 1 8
    let parent := tpArg x 12 2
    if 63 < tpArg x 9 1 ∨ 16383 < tpArg x 10 2 ∨ (parent ≠ 0 ∧ ¬ (0x4000 ≤ parent ∧ parent ≤ 0x7FFF)) then s.tpDone who 0x11
    else (s.halterCheck (halterBucket t u) bad).haInsert who u
      { age := 0, tenant := t, euiHi := u / 2 ^ 18, device := tpArg x 9 1, record := tpArg x 10 2,
        parent := if parent = 0 then none else some (parent - 0x4000), setAt := 0 } (tpArg x 14 1 != 0)))

/-- An overflow entry of bucket b moves into the bucket way that a delete freed (R341). -/
def State.pullOverflow (s : State) (b w : Nat) : State :=
  match (List.range 8).find? (fun v => match KMap.find s.tables.overflow (8 * (b % 1024) + v) with
      | some o => o.bucketHi == b / 1024
      | none => false) with
  | some v =>
    match KMap.find s.tables.overflow (8 * (b % 1024) + v) with
    | some o => (s.halterPut b (.way w) o.entry).halterFree b (.overflow v)
    | none => s
  | none => s

/-- `HA_DELETE`: t, EUI-64 (R341). -/
def execHaDelete (bad : Nat) (s : State) : Step :=
  .next (s.tpRun 0x11 (fun s who x =>
    let b := halterBucket (tpArg x 0 1) (tpArg x 1 8)
    let s := s.halterCheck b bad
    match s.halterFind (tpArg x 0 1) (tpArg x 1 8) with
    | some (_, .way w) => ((s.halterFree b (.way w)).pullOverflow b w).tpDone who 0x00
    | some (_, p) => (s.halterFree b p).tpDone who 0x00
    | none => s.tpDone who 0x10))

/-- `HA_READ`: t, EUI-64 (R337, R338, R347): entry, bucket, way (128 and above: overflow way; log 21). -/
def execHaRead (bad : Nat) (s : State) : Step :=
  .next (s.tpRead 0x12 (fun s who x =>
    let b := halterBucket (tpArg x 0 1) (tpArg x 1 8)
    let had := (s.halterFind (tpArg x 0 1) (tpArg x 1 8)).isSome
    let s := s.halterCheck b bad
    match s.halterFind (tpArg x 0 1) (tpArg x 1 8) with
    | some (e, p) =>
      let way := match p with | .way w => w | .overflow w => 128 + w
      s.tpDone who 0x00 (leBytes 12 e.raw ++ leBytes 2 b ++ leBytes 1 way)
    | none => s.tpDone who (if had then 0x16 else 0x10)))

/-- `HA_READ_BUCKET`: bucket (R337, R347): four ways, then the bucket's overflow entries (log 21). -/
def execHaReadBucket (bad : Nat) (s : State) : Step :=
  .next (s.tpRead 0x13 (fun s who x =>
    let b := tpArg x 0 2
    let way (s : State) (w : Nat) := match KMap.find s.tables.halter (4 * b + w) with
      | some e => leBytes 12 e.raw
      | none => zeros 12
    let ovf (s : State) (w : Nat) : Bytes := match KMap.find s.tables.overflow (8 * (b % 1024) + w) with
      | some o => if o.bucketHi = b / 1024 then leBytes 12 o.entry.raw else []
      | none => []
    let got (s : State) : Bytes := (List.range 4).flatMap (way s) ++ (List.range 8).flatMap (ovf s)
    let t := s.halterCheck b bad
    if got t = got s then t.tpDone who 0x00 (got s) else t.tpDone who 0x16))

/-- Every 4,096 s since reset each valid entry's AGE rises by one, to at most 15; one written at this instant keeps its 0 (R336). -/
def execHalterAgeing (dt : Nat) (s : State) : Step :=
  let s := s.advance dt
  let older (e : HalterEntry) : HalterEntry := if e.setAt = s.elapsed ∧ e.age = 0 then e else { e with age := min 15 (e.age + 1) }
  .next (if s.elapsed < s.tables.ageNext then s
    else { s with tables := { s.tables with
      ageNext := s.tables.ageNext + ms 4096000
      halter := s.tables.halter.map (fun p => (p.1, older p.2))
      overflow := s.tables.overflow.map (fun p => (p.1, { p.2 with entry := older p.2.entry })) } })

/-- Any reset empties the tables and zeroes their counters (R348). -/
def State.resetTables (s : State) : State :=
  let s := { s with tables := { s.tables with
    prefixes := [], badWords := [], nextHops := [], copyLists := [], halter := [], overflow := [], badWays := [], badOverflow := [],
    ageNext := s.elapsed + ms 4096000, lfsr := 0xACE1, ops := [], filter := [] } }
  ((((s.wr Key.bridleParityErr 0).wr Key.halterEvictions 0).wr Key.halterParityErr 0).wr Key.dlUnknown 0)

end Sys2Proof.Machine
end

