-- ==== Sys2Proof/Machine/Crypto.lean ====
section
/-! DEFINITION. The published algorithms that the manual names: CRC-32C, the FCS of IEEE 802.15.4, AES,
AES-CMAC, AES key wrap (RFC 3394), CCM* (IEEE 802.15.4), SHA-256, HMAC and ECDSA P-256 with the nonce of
RFC 6979 (R378, R379, R384, R385 to R387; log 30). Bytes are lists of byte values. -/

namespace Sys2Proof.Machine.Crypto

/-! ### Checksums -/

/-- One bit step of a reflected CRC. -/
def crcStep (poly x : Nat) : Nat := if x % 2 = 1 then Nat.xor (x / 2) poly else x / 2

/-- A byte into a reflected CRC. -/
def crcByte (poly x b : Nat) : Nat := Nat.repeat (crcStep poly) 8 (Nat.xor x b)

/-- Octets into a reflected CRC. The two branches agree: the test has the register computed before the next octet enters it. -/
def crcFold (poly : Nat) : Nat → Bytes → Nat
  | x, [] => x
  | x, b :: bs => if x = 0 then crcFold poly (crcByte poly 0 b.toNat) bs else crcFold poly (crcByte poly x b.toNat) bs

/-- CRC-32C. -/
def crc32c (bs : Bytes) : Nat := Nat.xor (crcFold 0x82F63B78 0xFFFFFFFF bs) 0xFFFFFFFF

/-- Frame check sequence of IEEE 802.15.4: CRC-16 of ITU-T, initial value 0. -/
def fcs (bs : Bytes) : Nat := bs.foldl (fun x b => crcByte 0x8408 x b.toNat) 0

/-! ### AES -/

/-- S-box, one byte per entry, entry 0 lowest. -/
def sboxWord : Nat := 0x16bb54b00f2d99416842e6bf0d89a18cdf2855cee9871e9b948ed9691198f8e19e1dc186b95735610ef6034866b53e708a8bbd4b1f74dde8c6b4a61c2e2578ba08ae7a65eaf4566ca94ed58d6d37c8e779e4959162acd3c25c2406490a3a32e0db0b5ede14b8ee4688902a22dc4f816073195d643d7ea7c41744975fec130ccdd2f3ff1021dab6bcf5389d928f40a351a89f3c507f02f94585334d43fbaaefd0cf584c4a39becb6a5bb1fc20ed00d153842fe329b3d63b52a05a6e1b1a2c830975b227ebe28012079a059618c323c7041531d871f1e5a534ccf73f362693fdb7c072a49cafa2d4adf04759fa7dc982ca76abd7fe2b670130c56f6bf27b777c63

/-- Inverse S-box. -/
def invSboxWord : Nat := 0x7d0c2155631469e126d677ba7e042b17619953833cbbebc8b0f52aae4d3be0a0ef9cc9939f7ae52d0d4ab519a97f51605fec8027591012b131c7078833a8dd1ff45acd78fec0db9a2079d2c64b3e56fc1bbe18aa0e62b76f89c5291d711af1476edf751ce837f9e28535ade72274ac9673e6b4f0cecff297eadc674f4111913a6b8a130103bdafc1020f3fca8f1e2cd00645b3b80558e4f70ad3bc8c00abd890849d8da75746155edab9edfd5048706c92b6655dcc5ca4d41698688664f6f87225d18b6d49a25b76b224d92866a12e084ec3fa420b954cee3d23c2a632947b54cbe9dec444438e3487ff2f9b8239e37cfbd7f3819ea340bf38a53630d56a0952

/-- S-box entry. -/
def sub (x : Nat) : Nat := sboxWord / 256 ^ x % 256

/-- Inverse S-box entry. -/
def invSub (x : Nat) : Nat := invSboxWord / 256 ^ x % 256

/-- Product by x in GF(2^8). -/
def xtime (x : Nat) : Nat := if x < 128 then 2 * x else Nat.xor (2 * x - 256) 0x1B

/-- Product in GF(2^8) with a factor below 16. -/
def gmul (k x : Nat) : Nat :=
  let x2 := xtime x
  let x4 := xtime x2
  let x8 := xtime x4
  Nat.xor (Nat.xor (if k % 2 = 1 then x else 0) (if k / 2 % 2 = 1 then x2 else 0))
    (Nat.xor (if k / 4 % 2 = 1 then x4 else 0) (if k / 8 % 2 = 1 then x8 else 0))

/-- XOR of two lists, byte by byte. -/
def xorList (a b : List Nat) : List Nat := List.zipWith Nat.xor a b

/-- Key schedule words (each four bytes), newest first; nk words of key, i words made so far. -/
def expand : Nat → Nat → Nat → Nat → List (List Nat) → List (List Nat)
  | 0, _, _, _, ws => ws
  | fuel + 1, nk, i, rcon, ws =>
    let prev := ws.headD []
    let base := ws.getD (nk - 1) []
    let t := if i % nk = 0 then
        let r := (prev.drop 1 ++ prev.take 1).map sub
        xorList r [rcon, 0, 0, 0]
      else if 6 < nk ∧ i % nk = 4 then prev.map sub
      else prev
    expand fuel nk (i + 1) (if i % nk = 0 then xtime rcon else rcon) (xorList base t :: ws)

/-- A list cut into pieces of n. -/
def chunks {α : Type} (n : Nat) : Nat → List α → List (List α)
  | 0, _ => []
  | k + 1, l => l.take n :: chunks n k (l.drop n)

/-- Round keys of a 16- or 32-byte key, in order. -/
def roundKeys (key : List Nat) : List (List Nat) :=
  let nk := key.length / 4
  let rounds := nk + 6
  let ws := (expand (4 * (rounds + 1) - nk) nk nk 1 (chunks 4 nk key).reverse).reverse
  (chunks 4 (rounds + 1) ws).map List.flatten

/-- Row shift by the given index map. -/
def permute (idx : List Nat) (s : List Nat) : List Nat := idx.map (fun i => s.getD i 0)

/-- ShiftRows. -/
def shiftRows : List Nat → List Nat := permute [0, 5, 10, 15, 4, 9, 14, 3, 8, 13, 2, 7, 12, 1, 6, 11]

/-- Inverse ShiftRows. -/
def invShiftRows : List Nat → List Nat := permute [0, 13, 10, 7, 4, 1, 14, 11, 8, 5, 2, 15, 12, 9, 6, 3]

/-- One column times a circulant matrix. -/
def mixColumn (m : List Nat) (c : List Nat) : List Nat :=
  (List.range 4).map (fun r => (List.range 4).foldl (fun a k => Nat.xor a (gmul (m.getD ((k + 4 - r) % 4) 0) (c.getD k 0))) 0)

/-- MixColumns with a circulant matrix. -/
def mixColumns (m : List Nat) (s : List Nat) : List Nat := ((chunks 4 4 s).map (mixColumn m)).flatten

/-- AES encryption rounds after the first key. -/
def encRounds : List (List Nat) → List Nat → List Nat
  | [], s => s
  | [k], s => xorList (shiftRows (s.map sub)) k
  | k :: ks, s => encRounds ks (xorList (mixColumns [2, 3, 1, 1] (shiftRows (s.map sub))) k)

/-- AES encryption of one block. -/
def aesEnc (key block : List Nat) : List Nat :=
  match roundKeys key with
  | k :: ks => encRounds ks (xorList block k)
  | [] => block

/-- AES decryption rounds: keys from the last but one down. -/
def decRounds : List (List Nat) → List Nat → List Nat
  | [], s => s
  | [k], s => xorList ((invShiftRows s).map invSub) k
  | k :: ks, s => decRounds ks (mixColumns [14, 11, 13, 9] (xorList ((invShiftRows s).map invSub) k))

/-- AES decryption of one block. -/
def aesDec (key block : List Nat) : List Nat :=
  match (roundKeys key).reverse with
  | k :: ks => decRounds ks (xorList block k)
  | [] => block

/-- Byte values of a byte string. -/
def ofBytes (bs : Bytes) : List Nat := bs.map (·.toNat)

/-- Byte string of byte values. -/
def toBytes (l : List Nat) : Bytes := l.map (BitVec.ofNat 8)

/-! ### CMAC and the derivation function -/

/-- Doubling in GF(2^128), big-endian. -/
def cmacDouble (l : List Nat) : List Nat :=
  let x := beNat (toBytes l)
  let y := 2 * x % 2 ^ 128
  ofBytes (beBytes 16 (if x < 2 ^ 127 then y else Nat.xor y 0x87))

/-- CBC-MAC chaining over blocks. -/
def cbcMac (key : List Nat) : List (List Nat) → List Nat → List Nat
  | [], x => x
  | b :: bs, x => cbcMac key bs (aesEnc key (xorList x b))

/-- A list filled with zeros to a multiple of 16. -/
def pad16 (l : List Nat) : List Nat := l ++ List.replicate ((16 - l.length % 16) % 16) 0

/-- AES-CMAC. -/
def cmac (key msg : List Nat) : List Nat :=
  let z := List.replicate 16 0
  let k1 := cmacDouble (aesEnc key z)
  let n := (msg.length + 15) / 16
  let full := msg.length % 16 == 0 && 0 < msg.length
  let n := if n = 0 then 1 else n
  let headBlocks := chunks 16 (n - 1) msg
  let tail := msg.drop (16 * (n - 1))
  let last := if full then xorList tail k1 else xorList (pad16 (tail ++ [0x80])) (cmacDouble k1)
  cbcMac key (headBlocks ++ [last]) z

/-- The derivation function of R378: key, label (12 bytes as one number), ALG, USE, parent generation. -/
def kdf (key : List Nat) (label : Bytes) (alg use gen lb : Nat) : Bytes :=
  let part (i : Nat) : List Nat :=
    cmac key ([i] ++ ofBytes label ++ [0] ++ [alg, use] ++ [gen / 256 % 256, gen % 256] ++ [lb / 256, lb % 256])
  toBytes ((List.range (lb / 128)).flatMap (fun i => part (i + 1)))

/-! ### Key wrap -/

/-- One pass step of the wrap: A, the blocks done and to do, and the counter. -/
def wrapPass (key : List Nat) : Nat → List Nat → List (List Nat) → List Nat × List (List Nat)
  | _, a, [] => (a, [])
  | t, a, r :: rs =>
    let b := aesEnc key (a ++ r)
    let a := xorList (b.take 8) (ofBytes (beBytes 8 t))
    let (a', rs') := wrapPass key (t + 1) a rs
    (a', b.drop 8 :: rs')

/-- AES key wrap of RFC 3394. -/
def keyWrap (key : Bytes) (plain : Bytes) : Bytes :=
  let n := plain.length / 8
  let k := ofBytes key
  let (a, rs) := (List.range 6).foldl (fun (p : List Nat × List (List Nat)) j => wrapPass k (n * j + 1) p.1 p.2)
    (List.replicate 8 0xA6, chunks 8 n (ofBytes plain))
  toBytes (a ++ rs.flatten)

/-- One pass step of the unwrap, blocks from the last. -/
def unwrapPass (key : List Nat) : Nat → List Nat → List (List Nat) → List Nat × List (List Nat)
  | _, a, [] => (a, [])
  | t, a, r :: rs =>
    let b := aesDec key (xorList a (ofBytes (beBytes 8 t)) ++ r)
    let (a', rs') := unwrapPass key (t - 1) (b.take 8) rs
    (a', b.drop 8 :: rs')

/-- AES key unwrap of RFC 3394; none when the integrity check fails. -/
def keyUnwrap (key : Bytes) (blob : Bytes) : Option Bytes :=
  if blob.length % 8 ≠ 0 ∨ blob.length < 24 then none
  else
    let n := blob.length / 8 - 1
    let k := ofBytes key
    let c := chunks 8 (n + 1) (ofBytes blob)
    let (a, rs) := (List.range 6).foldl (fun (p : List Nat × List (List Nat)) j => unwrapPass k (n * (6 - j)) p.1 p.2)
      (c.headD [], (c.drop 1).reverse)
    if a = List.replicate 8 0xA6 then some (toBytes rs.reverse.flatten) else none

/-! ### CCM* -/

/-- Keystream blocks A_1, A_2, … over the message blocks. -/
def ctrBlocks (key nonce : List Nat) : Nat → List (List Nat) → List Nat
  | _, [] => []
  | i, m :: ms => xorList m (aesEnc key ([1] ++ nonce ++ [i / 256, i % 256])) ++ ctrBlocks key nonce (i + 1) ms

/-- The CCM* tag of authenticated data a and message m, before encryption. -/
def ccmTag (key nonce : List Nat) (micLen : Nat) (a m : List Nat) : List Nat :=
  let flags := (if a.isEmpty then 0 else 0x40) + 8 * ((micLen - 2) / 2) + 1
  let b0 := [flags] ++ nonce ++ [m.length / 256, m.length % 256]
  let auth := if a.isEmpty then [] else pad16 ([a.length / 256, a.length % 256] ++ a)
  let body := auth ++ pad16 m
  (cbcMac key (b0 :: chunks 16 (body.length / 16) body) (List.replicate 16 0)).take micLen

/-- CCM* seal: the encrypted message followed by the MIC. -/
def ccmSeal (key nonce : Bytes) (micLen : Nat) (a m : Bytes) : Bytes :=
  let k := ofBytes key
  let n := ofBytes nonce
  let t := ccmTag k n micLen (ofBytes a) (ofBytes m)
  let s0 := aesEnc k ([1] ++ n ++ [0, 0])
  toBytes (ctrBlocks k n 1 (chunks 16 ((m.length + 15) / 16) (ofBytes m)) ++ xorList t s0)

/-- CCM* open: the message, or none when the MIC does not verify. -/
def ccmOpen (key nonce : Bytes) (micLen : Nat) (a c : Bytes) : Option Bytes :=
  if c.length < micLen then none
  else
    let k := ofBytes key
    let n := ofBytes nonce
    let body := ofBytes (c.take (c.length - micLen))
    let m := ctrBlocks k n 1 (chunks 16 ((body.length + 15) / 16) body)
    let s0 := aesEnc k ([1] ++ n ++ [0, 0])
    if xorList (ccmTag k n micLen (ofBytes a) m) s0 = ofBytes (c.drop (c.length - micLen)) then some (toBytes m) else none

/-! ### SHA-256 and HMAC -/

/-- Round constants, entry 0 lowest. -/
def shaK : Nat := 0xc67178f2bef9a3f7a4506ceb90befffa8cc7020884c8781478a5636f748f82ee682e6ff35b9cca4f4ed8aa4a391c0cb334b0bcb52748774c1e376c0819a4c116106aa070f40e3585d6990624d192e819c76c51a3c24b8b70a81a664ba2bfe8a192722c8581c2c92e766a0abb650a735453380d134d2c6dfc2e1b213827b70a851429296706ca6351d5a79147c6e00bf3bf597fc7b00327c8a831c66d983e515276f988da5cb0a9dc4a7484aa2de92c6f240ca1cc0fc19dc6efbe4786e49b69c1c19bf1749bdc06a780deb1fe72be5d74550c7dc3243185be12835b01d807aa98ab1c5ed5923f82a459f111f13956c25be9b5dba5b5c0fbcf71374491428a2f98

/-- 32-bit rotation to the right. -/
def rotr (n x : Nat) : Nat := x / 2 ^ n + x % 2 ^ n * 2 ^ (32 - n)

/-- Three-way XOR. -/
def xor3 (a b c : Nat) : Nat := Nat.xor (Nat.xor a b) c

/-- Message schedule, newest first. -/
def shaSchedule : Nat → List Nat → List Nat
  | 0, w => w
  | n + 1, w =>
    let w2 := w.getD 1 0
    let w15 := w.getD 14 0
    let s1 := xor3 (rotr 17 w2) (rotr 19 w2) (w2 / 2 ^ 10)
    let s0 := xor3 (rotr 7 w15) (rotr 18 w15) (w15 / 2 ^ 3)
    shaSchedule n ((s1 + w.getD 6 0 + s0 + w.getD 15 0) % 2 ^ 32 :: w)

/-- One round on the eight working variables. -/
def shaRound (v : List Nat) (kw : Nat) : List Nat :=
  match v with
  | [a, b, c, d, e, f, g, h] =>
    let s1 := xor3 (rotr 6 e) (rotr 11 e) (rotr 25 e)
    let ch := Nat.xor (Nat.land e f) (Nat.land (2 ^ 32 - 1 - e) g)
    let t1 := h + s1 + ch + kw
    let s0 := xor3 (rotr 2 a) (rotr 13 a) (rotr 22 a)
    let maj := xor3 (Nat.land a b) (Nat.land a c) (Nat.land b c)
    [(t1 + s0 + maj) % 2 ^ 32, a, b, c, (d + t1) % 2 ^ 32, e, f, g]
  | _ => v

/-- Compression of one 64-byte block. -/
def shaBlock (h : List Nat) (block : List Nat) : List Nat :=
  let w0 := (chunks 4 16 block).map (fun b => beNat (toBytes b))
  let w := (shaSchedule 48 w0.reverse).reverse
  let v := (List.range 64).foldl (fun v i => shaRound v (shaK / 2 ^ (32 * i) % 2 ^ 32 + w.getD i 0)) h
  List.zipWith (fun a b => (a + b) % 2 ^ 32) h v

/-- SHA-256. -/
def sha256 (msg : Bytes) : Bytes :=
  let l := msg.length
  let padded := ofBytes msg ++ [0x80] ++ List.replicate ((119 - l % 64) % 64) 0 ++ ofBytes (beBytes 8 (8 * l))
  let h := (chunks 64 (padded.length / 64) padded).foldl shaBlock
    [0x6a09e667, 0xbb67ae85, 0x3c6ef372, 0xa54ff53a, 0x510e527f, 0x9b05688c, 0x1f83d9ab, 0x5be0cd19]
  h.flatMap (beBytes 4)

/-- HMAC-SHA-256 with a key of at most 64 bytes. -/
def hmac (key msg : Bytes) : Bytes :=
  let k := ofBytes key ++ List.replicate (64 - key.length) 0
  sha256 (toBytes (k.map (Nat.xor 0x5C)) ++ sha256 (toBytes (k.map (Nat.xor 0x36)) ++ msg))

/-! ### ECDSA P-256 -/

/-- Field prime of P-256. -/
def fp : Nat := 2 ^ 256 - 2 ^ 224 + 2 ^ 192 + 2 ^ 96 - 1

/-- Order of P-256. -/
def order : Nat := 0xFFFFFFFF00000000FFFFFFFFFFFFFFFFBCE6FAADA7179E84F3B9CAC2FC632551

/-- Base point of P-256. -/
def basePoint : Nat × Nat :=
  (0x6B17D1F2E12C4247F8BCE6E563A440F277037D812DEB33A0F4A13945D898C296,
   0x4FE342E2FE1A7F9B8EE7EB4A7C0F9E162BCE33576B315ECECBB6406837BF51F5)

/-- Power modulo m, over n bits of the exponent. -/
def powMod (m : Nat) : Nat → Nat → Nat → Nat
  | 0, _, _ => 1 % m
  | n + 1, b, e =>
    let r := powMod m n (b * b % m) (e / 2)
    if e % 2 = 1 then b * r % m else r

/-- Inverse modulo a prime. -/
def invMod (m x : Nat) : Nat := powMod m 256 (x % m) (m - 2)

/-- Sum of two points; none is the point at infinity. -/
def pointAdd : Option (Nat × Nat) → Option (Nat × Nat) → Option (Nat × Nat)
  | none, q => q
  | some p, none => some p
  | some (x1, y1), some (x2, y2) =>
    if x1 = x2 ∧ (y1 + y2) % fp = 0 then none
    else
      let l := if x1 = x2 then (3 * x1 * x1 + (fp - 3)) * invMod fp (2 * y1) % fp
               else (y2 + fp - y1) * invMod fp (x2 + fp - x1) % fp
      let x := (l * l + 2 * fp - x1 - x2) % fp
      some (x, (l * (x1 + fp - x) + fp - y1) % fp)

/-- Multiple of a point, over n bits. -/
def pointMul : Nat → Nat → Option (Nat × Nat) → Option (Nat × Nat)
  | 0, _, _ => none
  | n + 1, k, p =>
    let r := pointMul n (k / 2) (pointAdd p p)
    if k % 2 = 1 then pointAdd p r else r

/-- Public key of a private key: X then Y. -/
def publicKey (d : Nat) : Bytes :=
  match pointMul 256 d (some basePoint) with
  | some (x, y) => beBytes 32 x ++ beBytes 32 y
  | none => zeros 64

/-- First acceptable nonce of RFC 6979 from K and V, within the given number of tries. -/
def nonceLoop : Nat → Bytes → Bytes → Nat
  | 0, _, _ => 1
  | n + 1, k, v =>
    let v := hmac k v
    let t := beNat v
    if 1 ≤ t ∧ t < order then t
    else
      let k := hmac k (v ++ [0#8])
      nonceLoop n k (hmac k v)

/-- Nonce of RFC 6979 for private key d and digest h. -/
def rfc6979 (d : Nat) (h : Bytes) : Nat :=
  let x := beBytes 32 d ++ beBytes 32 (beNat h % order)
  let v := List.replicate 32 1#8
  let k := hmac (zeros 32) (v ++ [0#8] ++ x)
  let v := hmac k v
  let k := hmac k (v ++ [1#8] ++ x)
  let v := hmac k v
  nonceLoop 8 k v

/-- ECDSA P-256 signature with SHA-256: r then s. -/
def ecdsaSign (d : Nat) (msg : Bytes) : Bytes :=
  let h := sha256 msg
  let k := rfc6979 d h
  match pointMul 256 k (some basePoint) with
  | some (x, _) =>
    let r := x % order
    let s := invMod order k * (beNat h + r * d) % order
    beBytes 32 r ++ beBytes 32 s
  | none => zeros 64

/-- ECDSA P-256 verification with SHA-256: a public key X then Y, a message, and r then s. -/
def ecdsaVerify (pub msg sig : Bytes) : Bool :=
  let r := beNat (sig.take 32)
  let s := beNat ((sig.drop 32).take 32)
  let w := invMod order s
  let q := (beNat (pub.take 32), beNat ((pub.drop 32).take 32))
  decide (1 ≤ r ∧ r < order ∧ 1 ≤ s ∧ s < order) &&
    (match pointAdd (pointMul 256 (beNat (sha256 msg) * w % order) (some basePoint)) (pointMul 256 (r * w % order) (some q)) with
    | some (x, _) => x % order == r
    | none => false)

end Sys2Proof.Machine.Crypto
end

