-- ==== Sys2Proof/Machine/Operands.lean ====
section
/-! DEFINITION. Operand forms of the Awl instruction set: formats, immediates and addresses (R456, Table 18-3), and the words that
are reserved (R458). -/

namespace Sys2Proof.Machine

/-- Format R. -/
def encR (op rd ra rb func : Nat) : Word := BitVec.ofNat 32 (op * 2 ^ 26 + rd * 2 ^ 21 + ra * 2 ^ 16 + rb * 2 ^ 11 + func)

/-- Formats I, S and B: two registers and 16 bits. -/
def encI (op a b imm : Nat) : Word := BitVec.ofNat 32 (op * 2 ^ 26 + a * 2 ^ 21 + b * 2 ^ 16 + imm)

/-- Format J. -/
def encJ (op off : Nat) : Word := BitVec.ofNat 32 (op * 2 ^ 26 + off)

/-- Format L: loop number, bits [23:12], end. -/
def encL (op n mid stop : Nat) : Word := BitVec.ofNat 32 (op * 2 ^ 26 + n * 2 ^ 24 + mid * 2 ^ 12 + stop)

/-- imm16, sign-extended. -/
def simm (i : BitVec 16) : Word := i.signExtend 32

/-- imm16, zero-extended. -/
def zimm (i : BitVec 16) : Word := i.zeroExtend 32

/-- imm16 in the high half. -/
def himm (i : BitVec 16) : Word := i.zeroExtend 32 <<< 16

/-- Target of a branch at pc. -/
def branchTarget (pc : Word) (off : BitVec 16) : Word := pc + (off.signExtend 32 <<< 2)

/-- Target of a jump at pc. -/
def jumpTarget (pc : Word) (off : BitVec 26) : Word := pc + (off.signExtend 32 <<< 2)

/-- The low two bits cleared: they are ignored (Table 18-2). -/
def wordAligned (x : Word) : Word := x &&& 0xFFFFFFFC#32

/-- Sign extension of a byte or halfword of w bytes. -/
def signedLoad (w v : Nat) : Word := BitVec.ofInt 32 (ofRaw (8 * w) v)

/-- A control register is listed in Table 18-2. -/
def ctlListed (k : Nat) : Bool := decide (k ≤ 8) || (decide (0x10 ≤ k) && decide (k ≤ 0x19)) || (decide (0x20 ≤ k) && decide (k ≤ 0x23))

/-- A control register is listed and may be written. -/
def ctlWritable (k : Nat) : Bool := ctlListed k && decide (k < 0x20)

/-- The word raises the reserved-instruction exception (R458). -/
def awlReserved (w : Word) : Bool :=
  let x := w.toNat
  let op := bits x 26 6
  let rd := bits x 21 5
  let ra := bits x 16 5
  let rb := bits x 11 5
  let func := bits x 0 11
  let imm := bits x 0 16
  if op = 0x01 then decide (0x17 < func) || (decide (0x15 ≤ func) && rb != 0)
  else if op = 0x08 then bits x 7 9 != 0
  else if op = 0x09 ∨ op = 0x0A then ra != 0
  else if op = 0x1C then decide (5 < func)
  else if op = 0x2A then decide (2 < func) || rd != 0 || rb != 0 || (func == 2 && ra != 0)
  else if op = 0x30 then bits x 24 2 == 3 || bits x 0 12 == 0 || bits x 17 7 != 0
  else if op = 0x31 then bits x 24 2 == 3 || bits x 0 12 == 0
  else if op = 0x3C then rd != 0 || ra != 0
  else if op = 0x3D then ra != 0 || !ctlListed imm
  else if op = 0x3E then rd != 0 || ra != 0 || rb != 0 || decide (6 < func)
  else if op = 0x3F then rd != 0 || !ctlWritable imm
  else !((decide (0x02 ≤ op) && decide (op ≤ 0x07)) || (decide (0x10 ≤ op) && decide (op ≤ 0x14))
    || (decide (0x18 ≤ op) && decide (op ≤ 0x1A)) || (decide (0x20 ≤ op) && decide (op ≤ 0x25)) || op == 0x28 || op == 0x29)

end Sys2Proof.Machine
end

