-- ==== Sys2Proof/Machine/Flags.lean ====
section
/-! DEFINITION. Comparisons and results of the Awl ALU. The cores have no flags: a comparison answers 1 or 0 in a register or
decides a branch (R457, Tables 18-4 and 18-5). -/

namespace Sys2Proof.Machine

/-- 1 or 0. -/
def ofBool (b : Bool) : Word := if b then 1#32 else 0#32

/-- Signed less than. -/
def ltS (a b : Word) : Bool := a.slt b

/-- Unsigned less than. -/
def ltU (a b : Word) : Bool := a.ult b

/-- High word of the signed product. -/
def mulHigh (a b : Word) : Word := BitVec.ofInt 32 (a.toInt * b.toInt / 4294967296)

/-- High word of the unsigned product. -/
def mulHighU (a b : Word) : Word := BitVec.ofNat 32 (a.toNat * b.toNat / 4294967296)

/-- Signed quotient, rounded towards zero; by zero it is 0xFFFF_FFFF. -/
def divS (a b : Word) : Word := if b = 0#32 then 0xFFFFFFFF#32 else BitVec.ofInt 32 (a.toInt.tdiv b.toInt)

/-- Unsigned quotient; by zero it is 0xFFFF_FFFF. -/
def divU (a b : Word) : Word := if b = 0#32 then 0xFFFFFFFF#32 else BitVec.ofNat 32 (a.toNat / b.toNat)

/-- Signed remainder with the dividend's sign; by zero it is the dividend. -/
def remS (a b : Word) : Word := if b = 0#32 then a else BitVec.ofInt 32 (a.toInt.tmod b.toInt)

/-- Unsigned remainder; by zero it is the dividend. -/
def remU (a b : Word) : Word := if b = 0#32 then a else BitVec.ofNat 32 (a.toNat % b.toNat)

/-- Zeros above the highest set bit among the low n bits. -/
def leadingZeros (x : Nat) : Nat → Nat
  | 0 => 0
  | n + 1 => if bitOf x n then 0 else 1 + leadingZeros x n

/-- The bytes in the opposite order. -/
def byteSwap (a : Word) : Word := BitVec.ofNat 32 (beNat (leBytes 4 a.toNat))

/-- Rotate right. -/
def rotR (a : Word) (k : Nat) : Word := a.rotateRight k

/-- What an AMO writes: 0 SWAP, 1 ADD, 2 AND, 3 OR, 4 XOR, 5 MAXU. -/
def amoValue (func : Nat) (old b : Word) : Word :=
  match func with
  | 0 => b
  | 1 => old + b
  | 2 => old &&& b
  | 3 => old ||| b
  | 4 => old ^^^ b
  | _ => if ltU old b then b else old

end Sys2Proof.Machine
end

