-- ==== Sys2Proof/Machine/Awl.lean ====
section
/-! DEFINITION. The Awl cores: registers, hardware loops, local memory, the store buffer, exception entry, and
the start and stop of a core (R454 to R484). -/

namespace Sys2Proof.Machine

/-! ### Registers (R454, R455) -/

/-- A loop that is not armed. -/
def HwLoop.off : HwLoop := { lb := 0#32, le := 0#32, lc := 0#32 }

/-- A ring that is off. -/
def CoreRing.off : CoreRing := { base := 0, size := 0, head := 0, tail := 0 }

/-- VBASE of core n at each reset (R484). -/
def vbaseReset (n : Nat) : Word := if n < 12 then 0x10000100#32 else 0x00000100#32

/-- Core n at a reset (R480, R484, Tables 18-2 and 18-10). -/
def Core.atReset (n : Nat) : Core :=
  { pc := 0#32, regs := [], lk := 0#32, loops := #v[HwLoop.off, HwLoop.off, HwLoop.off], late := [], mode := 0#2, smode := 0#2,
    xpc := 0#32, xcause := 0#16, xaddr := 0#32, xword := 0#32, vbase := vbaseReset n, hscr0 := 0#32, hscr1 := 0#32,
    cycles := 0, loadedReg := none, waiting := false, stores := [], image := none, rxRing := CoreRing.off,
    txRing := CoreRing.off, rxFilled := [], accept := 0, drops := 0, dictReq := [], dictRsp := none }

/-- Core n. -/
def State.core (s : State) (n : Nat) : Core := KMap.getD s.cores.core (Core.atReset n) n

/-- Replace core n. -/
def State.setCore (s : State) (n : Nat) (c : Core) : State :=
  { s with cores := { s.cores with core := KMap.setD s.cores.core (Core.atReset n) n c } }

/-- General register r; g0 reads as 0 (R454). -/
def Core.g (c : Core) (r : Nat) : Word := if r = 0 then 0#32 else KMap.getD c.regs 0#32 r

/-- Write general register r; a write to g0 is discarded (R454). -/
def Core.setG (c : Core) (r : Nat) (v : Word) : Core :=
  if r = 0 then c else { c with regs := KMap.setD c.regs 0#32 r v }

/-- HND: an exception handler runs. -/
def Core.hnd (c : Core) : Bool := c.mode.getLsbD 1

/-- IEN: interrupts are enabled. -/
def Core.ien (c : Core) : Bool := c.mode.getLsbD 0

/-- `CORE_STATE` of core n. -/
abbrev State.coreState (s : State) (n : Nat) : Nat := s.rd (Key.coreState n)

/-- Core n's power island is on (R539). -/
def State.coreIsland (s : State) (n : Nat) : Bool := (s.power.coreIslands.getD n Islands.atReset).phase == .on

/-- Core n executes instructions: it is running, powered and not in WAIT. -/
def State.coreRuns (s : State) (n : Nat) : Bool :=
  s.coreState n == 1 && s.coreIsland n && !(s.core n).waiting

/-- Post a code of Table 18-12. -/
def State.corePost (s : State) (c : Err) (n sev arg arg2 : Nat) : State :=
  s.postSev c sev (0x7001 + n) arg arg2 (176 + n)

/-! ### Hardware loops (R459 to R463) -/

/-- Loop n. -/
def Core.loop (c : Core) (n : Nat) : HwLoop := c.loops.getD n HwLoop.off

/-- Loop register 3n + 0 lb, 1 le, 2 lc: its latest value. -/
def Core.loopReg (c : Core) (r : Nat) : Word :=
  let l := c.loop (r / 3)
  if r % 3 = 0 then l.lb else if r % 3 = 1 then l.le else l.lc

/-- Write a loop register. -/
def Core.setLoopReg (c : Core) (r : Nat) (v : Word) : Core :=
  let f := fun (l : HwLoop) =>
    if r % 3 = 0 then { l with lb := v } else if r % 3 = 1 then { l with le := v } else { l with lc := v }
  { c with loops := vmod f (r / 3) c.loops }

/-- Value of a loop register that an end test uses now (R463). -/
def Core.seenReg (c : Core) (r : Nat) : Word :=
  match c.late.find? (fun e => e.reg == r) with
  | some e => e.old
  | none => c.loopReg r

/-- A SETC to a loop register that two more instructions must follow (R463). -/
def Core.setcLoop (c : Core) (r : Nat) (v : Word) : Core :=
  let c' : Core := { c with late := c.late ++ [{ reg := r, old := c.loopReg r, left := 3 }] }
  c'.setLoopReg r v

/-- An end test writes lc; where a SETC to it is on its way, the SETC's value stands (R463). -/
def Core.testWrite (c : Core) (r : Nat) (v : Word) : Core :=
  if c.late.any (fun e => e.reg == r) then c else c.setLoopReg r v

/-- The end test of one loop at address x (R460): the next pc where it branches. -/
def Core.endStep (c : Core) (x : Word) (n : Nat) : Core × Option Word :=
  let lc := c.seenReg (3 * n + 2)
  if lc ≠ 0#32 ∧ c.seenReg (3 * n + 1) = x then
    if 1 < lc.toNat then (c.testWrite (3 * n + 2) (lc - 1#32), some (c.seenReg (3 * n)))
    else (c.testWrite (3 * n + 2) 0#32, none)
  else (c, none)

/-- The end test at address x, loop 2 first (R460). -/
def Core.endTest (c : Core) (x : Word) : Core × Option Word :=
  let a := c.endStep x 2
  match a.2 with
  | some p => (a.1, some p)
  | none =>
    let b := a.1.endStep x 1
    match b.2 with
    | some p => (b.1, some p)
    | none => b.1.endStep x 0

/-- The address is the last of an active loop (R461). -/
def Core.atLoopEnd (c : Core) (x : Word) : Bool :=
  [0, 1, 2].any (fun n => c.seenReg (3 * n + 2) != 0#32 && c.seenReg (3 * n + 1) == x)

/-- One instruction has completed, for the delay of R463. -/
def Core.tickLate (c : Core) : Core :=
  { c with late := (c.late.map (fun e => { e with left := e.left - 1 })).filter (fun e => e.left != 0) }

/-- An instruction at x completes: end test, next pc, cycles; a body of one instruction costs one cycle more
per iteration (R457, R460). -/
def Core.complete (c : Core) (x : Word) (cost : Nat) : Core :=
  let t := c.endTest x
  let c := t.1.tickLate
  match t.2 with
  | some p => { c with pc := p, cycles := c.cycles + cost + (if p = x then 1 else 0) }
  | none => { c with pc := x + 4#32, cycles := c.cycles + cost }

/-- Arm loop n at address a (R459). -/
def Core.armLoop (c : Core) (a : Word) (n : Nat) (last : Word) (count : Word) : Core :=
  let c : Core := { c with late := c.late.filter (fun e => e.reg / 3 != n) }
  let le := a + 4#32 * last
  let c := ((c.setLoopReg (3 * n) (a + 4#32)).setLoopReg (3 * n + 1) le).setLoopReg (3 * n + 2) count
  { c with pc := if count = 0#32 then le + 4#32 else a + 4#32 }

/-! ### Local memory and the store buffer (R472 to R474) -/

/-- Bytes of a local memory. -/
def localSize : Nat := 262144

/-- Byte a of core n's local memory, as it stands in the memory. -/
def State.localByte (s : State) (n a : Nat) : Byte := KMap.getD s.cores.mem 0#8 (localSize * n + a)

/-- Bytes a to a + k - 1 of core n's local memory. -/
def State.localBytes (s : State) (n a k : Nat) : Bytes := (List.range k).map (fun i => s.localByte n (a + i))

/-- Bytes of core n's local memory from a take new contents. -/
def State.localPut (s : State) (n a : Nat) (bs : Bytes) : State :=
  let put := fun (m : KMap Byte) (i : Nat) => KMap.setD m 0#8 (localSize * n + a + i) (bs.getD i 0#8)
  { s with cores := { s.cores with mem := (List.range bs.length).foldl put s.cores.mem } }

/-- Words of core n's local memory that k bytes from a touch, by 65,536 × core + address / 4. -/
def wordsOf (n a k : Nat) : List Nat := (List.range ((a % 4 + k + 3) / 4)).map (fun i => 65536 * n + a / 4 + i)

/-- Write bytes of core n's local memory from a; until FENCE.I a fetch of their words may find what stood there (R473). -/
def State.localStore (s : State) (n a : Nat) (bs : Bytes) : State :=
  let s := s.localPut n a bs
  { s with cores := { s.cores with stale := (wordsOf n a bs.length).filter (fun w => !s.cores.stale.contains w) ++ s.cores.stale } }

/-- Core n discards what it has fetched ahead (R473). -/
def State.fetchAnew (s : State) (n : Nat) : State :=
  { s with cores := { s.cores with stale := s.cores.stale.filter (fun w => w / 65536 != n) } }

/-- The newest byte that the store buffer holds for address a. -/
def bufferByte (a : Nat) : List (Nat × Bytes) → Option Byte
  | [] => none
  | (b, bs) :: older =>
    match bufferByte a older with
    | some v => some v
    | none => if b ≤ a ∧ a < b + bs.length then some (bs.getD (a - b) 0#8) else none

/-- Byte a as core n's loads see it: merged from buffer and memory (R472). -/
def State.ownByte (s : State) (n a : Nat) : Byte :=
  match bufferByte a (s.core n).stores with
  | some v => v
  | none => s.localByte n a

/-- Little-endian value of k bytes at a as core n sees them. -/
def State.ownValue (s : State) (n a k : Nat) : Nat := leNat ((List.range k).map (fun i => s.ownByte n (a + i)))

/-- The oldest entry of core n's store buffer drains (R472). -/
def State.drainOne (s : State) (n : Nat) : State :=
  let c := s.core n
  match c.stores with
  | [] => s
  | (a, bs) :: rest => (s.setCore n { c with stores := rest }).localStore n a bs

/-- Core n's store buffer drains. -/
def State.drainAll (s : State) (n : Nat) : State := s.each (s.core n).stores (fun s _ => s.drainOne n)

/-- A store to core n's own memory; one that finds the buffer full waits for the oldest entry (R472). -/
def State.bufferStore (s : State) (n a : Nat) (bs : Bytes) : State :=
  let s := if 4 ≤ (s.core n).stores.length then s.drainOne n else s
  let c := s.core n
  s.setCore n { c with stores := c.stores ++ [(a, bs)] }

/-! ### Exception entry (R464 to R466, R471) -/

/-- Vector offset of a cause (Table 18-6). -/
def vectorOf (cause : Nat) : Word :=
  if cause = 1 then 0x00#32 else if cause = 7 then 0x80#32 else if cause = 0x100 then 0xC0#32 else 0x40#32

/-- Entry (R466): SMODE, MODE, the trap frame, then the pc. -/
def Core.enter (c : Core) (cause : Nat) (xpc xaddr xword : Word) : Core :=
  { c with smode := c.mode, mode := 2#2, xpc := wordAligned xpc, xcause := BitVec.ofNat 16 cause, xaddr := xaddr, xword := xword,
           pc := c.vbase + vectorOf cause, cycles := c.cycles + 5, loadedReg := none, waiting := false }

/-- A double fault: earlier stores drain, the core is trapped, and it is posted (R471). -/
def State.doubleFault (s : State) (n : Nat) : State :=
  let s := (s.drainAll n).wr (Key.coreState n) 3
  let c := s.core n
  s.corePost .coreDoubleFault n (if n < 12 then 3 else 2) c.xpc.toNat c.xcause.toNat

/-- A synchronous exception of core n; tells whether it was a double fault (R466, R471). -/
def State.except (s : State) (n cause : Nat) (xpc xaddr xword : Word) : State × Bool :=
  let c := s.core n
  if c.hnd then (s.doubleFault n, true)
  else ((s.bump (Key.coreExceptions n)).setCore n (c.enter cause xpc xaddr xword), false)

/-! ### Extension programs (R478, R479) -/

/-- Instruction set level of the silicon (Table 18-2). -/
def isaLevel : Nat := 1

/-- The content check of an image (R478, Table 18-9), and what its header gives. -/
def extImage (d : Bytes) : Option ExtImage :=
  let f := fun (o : Nat) (k : Nat) => leNat (slice d o k)
  let len := f 8 4
  let entry := f 12 4
  let stack := f 16 4
  let vb := f 20 4
  if slice d 0 4 = beBytes 4 0x41574C58 ∧ f 4 2 = 1 ∧ 1 ≤ f 6 1 ∧ f 6 1 ≤ isaLevel ∧ f 7 1 = 0
      ∧ d.length = len ∧ 64 ≤ len ∧ len ≤ localSize ∧ len % 4 = 0
      ∧ 64 ≤ entry ∧ entry ≤ len - 4 ∧ entry % 4 = 0
      ∧ len ≤ stack ∧ stack ≤ localSize ∧ stack % 8 = 0
      ∧ vb ≤ localSize - 256 ∧ vb % 256 = 0
      ∧ f 24 4 = Crypto.crc32c (slice d 64 (len - 64)) ∧ leNat (slice d 28 32) = 0 ∧ f 60 4 = Crypto.crc32c (slice d 0 60) then
    some { entry := entry, stackTop := stack, vbase := vb }
  else none

/-- The content check of `CORE_IMAGE` of core n at LAST (R478). -/
def State.coreImageOk (s : State) (n : Nat) (d : Bytes) : Bool :=
  (extImage d).isSome && (s.coreState n == 0 || s.coreState n == 2)

/-- Core n's local memory takes new contents from address 0; the rest is zero. -/
def State.localLoad (s : State) (n : Nat) (d : Bytes) : State :=
  let m := s.cores.mem.filter (fun p => p.1 / localSize != n)
  ({ s with cores := { s.cores with mem := m } }).localPut n 0 d

/-- At LAST the image is copied to local memory (R478). -/
def State.coreImageTake (s : State) (n : Nat) (d : Bytes) : State :=
  let s := s.localLoad n d
  let c := s.core n
  s.setCore n { c with image := extImage d, stores := [] }

/-- A core starts at an address with its registers as R479 sets them; the trap frame and the scratch registers stay. -/
def Core.start (c : Core) (n entry stack : Nat) (vbase : Word) : Core :=
  { (Core.atReset n).setG 29 (BitVec.ofNat 32 stack) with
      pc := BitVec.ofNat 32 entry, vbase := vbase, image := c.image, stores := c.stores, dictReq := c.dictReq, dictRsp := c.dictRsp,
      smode := c.smode, xpc := c.xpc, xcause := c.xcause, xaddr := c.xaddr, xword := c.xword, hscr0 := c.hscr0, hscr1 := c.hscr1 }

/-- The island of core n. -/
def State.coreIsl (s : State) (n : Nat) : Islands := s.power.coreIslands.getD n Islands.atReset

/-- Replace the island of core n. -/
def State.setCoreIsl (s : State) (n : Nat) (i : Islands) : State :=
  { s with power := { s.power with coreIslands := vmod (fun _ => i) n s.power.coreIslands } }

/-- Core n's island is on or off at once, as resets and losses of supply leave it (R141). -/
def State.setIsland (s : State) (n : Nat) (on : Bool) : State :=
  s.setCoreIsl n { phase := if on then .on else .off, since := s.elapsed, want := none }

/-- A core's island is asked on or off. It stays on and off for 10 µs each; a start that arrives during a stop waits for the island to
be off and for its dwell (R539). -/
def Islands.coreAsk (i : Islands) (on : Bool) (now : Nat) : Islands :=
  let dwelt := decide (i.since + us 10 ≤ now)
  match i.phase, on with
  | .on, true | .starting, true => { i with want := none }
  | .off, true => if dwelt then { phase := .on, since := now, want := none } else { i with want := some true }
  | .stopping, true => { i with want := some true }
  | .on, false | .starting, false => if dwelt then { phase := .off, since := now, want := none } else { i with phase := .stopping, want := none }
  | .off, false | .stopping, false => { i with want := none }

/-- What waits for a dwell goes on once it has passed (R539). -/
def Islands.coreServe (i : Islands) (now : Nat) : Islands :=
  if now < i.since + us 10 then i
  else match i.phase with
    | .stopping => { i with phase := .off, since := now }
    | .off => if i.want = some true then { phase := .on, since := now, want := none } else i
    | .on | .starting => i

/-- Ask for core n's island. -/
def State.coreIslAsk (s : State) (n : Nat) (on : Bool) : State := s.setCoreIsl n ((s.coreIsl n).coreAsk on s.elapsed)

/-- Core n starts at its image's entry, and the run ends (R479). -/
def State.coreGo (s : State) (n : Nat) : State :=
  let c := s.core n
  match c.image with
  | none => s.resEnd (Key.coreRunRes n) 1
  | some i => (((s.fetchAnew n).setCore n (c.start n i.entry i.stackTop (BitVec.ofNat 32 i.vbase))).wr (Key.coreState n) 1).resEnd
      (Key.coreRunRes n) 0

/-- `CORE_RUN_CMD` 1 (R479): the core starts once its island is on. -/
def State.coreStart (s : State) (n : Nat) : State :=
  let s := s.resBegin (Key.coreRunRes n)
  if s.coreState n = 1 then s.resEnd (Key.coreRunRes n) 2
  else if (s.core n).image.isNone then s.resEnd (Key.coreRunRes n) 1
  else
    let s := s.coreIslAsk n true
    if s.coreIsland n then s.coreGo n else s

/-- The dwell of core n's island is looked at: a stop ends, or a start that waited goes on (R539). -/
def State.coreIslServe (s : State) (n : Nat) : State :=
  let was := s.coreIsland n
  let s := s.setCoreIsl n ((s.coreIsl n).coreServe s.elapsed)
  if !was && s.coreIsland n && (s.res (Key.coreRunRes n)).busy then s.coreGo n else s

/-- The orderly stop of a core: it completes its instruction, takes no interrupt and drains (R475). -/
def State.coreDrain (s : State) (n : Nat) : State := s.drainAll n

/-- `CORE_RUN_CMD` 2 (R479). -/
def State.coreStop (s : State) (n : Nat) : State :=
  let s := s.resBegin (Key.coreRunRes n)
  if s.coreState n = 1 ∨ s.coreState n = 3 then
    (((s.coreDrain n).wr (Key.coreState n) 2).coreIslAsk n false).resEnd (Key.coreRunRes n) 0
  else s.resEnd (Key.coreRunRes n) 0

/-- `CORE_RUN_CMD` of core n, cores 12 to 15 only (Table 4-22). -/
def State.coreRunCmd (s : State) (n cmd : Nat) : State :=
  if n < 12 then s else if cmd = 1 then s.coreStart n else s.coreStop n

/-- `CORE_START` of extension core 12 + k. -/
def execCoreStart (k : Fin 4) (s : State) : Step :=
  .next (if s.cmdBlocked (Key.coreRunRes (12 + k)) then s else s.coreStart (12 + k))

/-- `CORE_STOP` of extension core 12 + k. -/
def execCoreStop (k : Fin 4) (s : State) : Step :=
  .next (if s.cmdBlocked (Key.coreRunRes (12 + k)) then s else s.coreStop (12 + k))

/-- `STORE_BUFFER_DRAIN` (R472). -/
def execStoreBufferDrain (n : Fin 16) (s : State) : Step := .next (s.drainOne n)

/-- A warm reset stops core n at once and discards its undrained entries (R474). -/
def State.coreWarm (s : State) (n : Nat) : State :=
  let lost := (s.core n).stores.length
  let s := s.wr (Key.coreStoresLost n) (if lost = 0 then 0 else 1)
  s.setCore n { Core.atReset n with image := (s.core n).image }

end Sys2Proof.Machine
end

