-- ==== Sys2Proof/Machine/Radio.lean ====
section
/-! DEFINITION. Radio figures: modes, airtimes, the raster, powers, the Stamp records and the cost table. -/

namespace Sys2Proof.Machine

/-! ### Modes (Tables 6-2, 7-1, 7-3) -/

/-- Octet time in µs; mode codes 1 M1, 2 M2, 3 M3, 4 D32, 5 D64, 6 D128 (R107). -/
def octetUs (mode : Nat) : Nat :=
  match mode with
  | 1 | 2 => 32
  | 3 => 80
  | 4 => 256
  | 5 => 512
  | 6 => 1024
  | _ => 0

/-- SHR time in µs. -/
def shrUs (mode : Nat) : Nat := 5 * octetUs mode

/-- Frame time of a PSDU of n octets, FCS included, in µs (R190). -/
def frameUs (mode n : Nat) : Nat := shrUs mode + octetUs mode + n * octetUs mode

/-- Symbol period in µs (a spread bit in the Deep modes). -/
def symbolUs (mode : Nat) : Nat :=
  match mode with
  | 1 | 2 => 16
  | 3 => 40
  | 4 => 32
  | 5 => 64
  | 6 => 128
  | _ => 0

/-- Half the passband in kHz. -/
def halfPass (mode : Nat) : Nat := if mode = 1 then 1200 else if mode = 3 then 300 else 600

/-- Threshold offset in dB. -/
def thrOffset (mode : Nat) : Nat := if mode = 4 then 9 else if mode = 5 then 12 else if mode = 6 then 15 else 0

/-- Ramp time in µs (Table 7-3). -/
def rampUs (mode : Nat) : Nat := if mode ≤ 2 then 4 else 8

/-- Airtime of a transmission with its ramps, µs (R201). -/
def airUs (mode n : Nat) : Nat := frameUs mode n + 2 * rampUs mode

/-- A port is one of IS-C and IS-D. -/
def isPort (p : Nat) : Bool := decide (2 ≤ p)

/-- The mode is legal on the port's band (R107). -/
def modeLegal (p mode : Nat) : Bool := if isPort p then mode == 1 else decide (2 ≤ mode ∧ mode ≤ 6)

/-- Half the window of a port in kHz (Table 6-1). -/
def halfWindow (p : Nat) : Nat := if isPort p then 42000 else 16000

/-- A placement at f in a mode fits the port's window (R161, R194). -/
def fits (p centre f mode : Nat) : Bool :=
  decide (centre ≤ f + halfWindow p - halfPass mode) && decide (f + halfPass mode ≤ centre + halfWindow p)

/-- Placement word of `RXC_PIN` (R107): mode, port, frequency. -/
def placeWord (mode p f : Nat) : Nat := mode * 2 ^ 24 + p * 2 ^ 22 + f

/-- Fields of a placement word. -/
def placeMode (w : Nat) : Nat := bits w 24 8
def placePort (w : Nat) : Nat := bits w 22 2
def placeFreq (w : Nat) : Nat := bits w 0 22

/-- The word of an unplaced tile. -/
def unplaced : Nat := 0xFFFFFFFF

/-! ### Power -/

/-- Powers of half decibels from −20 dBm to +20 dBm in pW (log 31). -/
def powerTable : List Nat := [
    10000000, 11220185, 12589254, 14125375, 15848932, 17782794, 19952623, 22387211, 25118864, 28183829,
    31622777, 35481339, 39810717, 44668359, 50118723, 56234133, 63095734, 70794578, 79432823, 89125094,
    100000000, 112201845, 125892541, 141253754, 158489319, 177827941, 199526231, 223872114, 251188643,
    281838293, 316227766, 354813389, 398107171, 446683592, 501187234, 562341325, 630957344, 707945784,
    794328235, 891250938, 1000000000, 1122018454, 1258925412, 1412537545, 1584893192, 1778279410,
    1995262315, 2238721139, 2511886432, 2818382931, 3162277660, 3548133892, 3981071706, 4466835922,
    5011872336, 5623413252, 6309573445, 7079457844, 7943282347, 8912509381, 10000000000, 11220184543,
    12589254118, 14125375446, 15848931925, 17782794100, 19952623150, 22387211386, 25118864315, 28183829313,
    31622776602, 35481338923, 39810717055, 44668359215, 50118723363, 56234132519, 63095734448, 70794578438,
    79432823472, 89125093813, 100000000000]

/-- Power of h half dB over 1 mW, in pW; below −20 dBm it is taken as 0. -/
def pw (h : Int) : Nat := if h < -40 then 0 else powerTable.getD (min 80 (h + 40).toNat) 0

/-- Power in 1/16 mW, rounded up (R268). -/
def mw16 (h : Int) : Nat := (pw h * 16 + 999999999) / 1000000000

/-! ### Stamp records (R150 to R154) -/

/-- One sub-band (Table 5-10). -/
structure SubBand where
  lo : Nat
  hi : Nat
  /-- 0.01 % -/
  duty : Nat
  maxDbm : Int
  lbt : Bool
  thr : Int
  listenUs : Nat
  deriving DecidableEq, Repr

/-- Unsigned field of a byte string. -/
def fieldLe (bs : Bytes) (off n : Nat) : Nat := leNat (slice bs off n)

/-- Signed byte of a byte string. -/
def fieldI8 (bs : Bytes) (off : Nat) : Int := ofRaw 8 (fieldLe bs off 1)

/-- Sub-band i of a record. -/
def subBand (rec : Bytes) (i : Nat) : SubBand :=
  let o := 16 + 24 * i
  { lo := fieldLe rec o 4, hi := fieldLe rec (o + 4) 4, duty := fieldLe rec (o + 8) 2, maxDbm := fieldI8 rec (o + 10),
    lbt := fieldLe rec (o + 11) 1 == 1, thr := fieldI8 rec (o + 12), listenUs := fieldLe rec (o + 14) 2 }

/-- A sub-band entry is in use. -/
def SubBand.used (b : SubBand) : Bool := b.lo != 0 || b.hi != 0

/-- The built-in record of a port (R151). -/
def builtInStamp (p : Nat) : Bytes :=
  let body := leBytes 2 1 ++ leBytes 1 p ++ zeros 249
  body ++ leBytes 4 (Crypto.crc32c body)

/-- The present record of a port: from fuses after lock, else the record written, else the built-in one
(R151, R153). -/
def State.stampBytes (s : State) (p : Nat) : Bytes :=
  match s.fuses.locked with
  | some recs => recs.getD p []
  | none =>
    let d := s.dom (Key.stampPort p)
    if d.isEmpty then builtInStamp p else d

/-- CRC of a record holds. -/
def stampCrcOk (rec : Bytes) : Bool := Crypto.crc32c (rec.take 252) == fieldLe rec 252 4

/-- The record that binds transmissions; none: a locked record whose CRC fails (R153). -/
def State.stamp (s : State) (p : Nat) : Option Bytes :=
  let r := s.stampBytes p
  if s.fuses.locked.isSome && !stampCrcOk r then none else some r

/-- `CHMASK` in force. -/
def State.chMask (s : State) (p : Nat) : Nat :=
  match s.stamp p with
  | some r => fieldLe r 8 8
  | none => 0

/-- `MAX_DBM` of the present record. -/
def State.stampMax (s : State) (p : Nat) : Int := fieldI8 (s.stampBytes p) 4

/-- `FEM_GAIN_DB` of the present record. -/
def State.femGain (s : State) (p : Nat) : Int := fieldI8 (s.stampBytes p) 5

/-- Sub-bands of the present record with their numbers. -/
def State.subBands (s : State) (p : Nat) : List (Nat × SubBand) :=
  ((List.range 8).map (fun i => (i, subBand (s.stampBytes p) i))).filter (fun x => x.2.used)

/-! ### Raster (R215) -/

/-- Raster origin of an SG record: the start of its lowest defined sub-band. -/
def rasterF0 (rec : Bytes) : Option Nat :=
  minNat? (((List.range 8).map (subBand rec)).filterMap (fun b => if b.used then some b.lo else none))

/-- Centre of raster channel k of a port under a record, kHz. -/
def rasterOf (rec : Bytes) (p k : Nat) : Option Nat :=
  if isPort p then some (2401250 + 1250 * k) else (rasterF0 rec).map (· + 400 * k)

/-- Half the width of a raster channel, kHz (Table 8-2). -/
def rasterHalf (p : Nat) : Nat := if isPort p then 1200 else 600

/-- Centre of raster channel k of a port. -/
def State.raster (s : State) (p k : Nat) : Option Nat := rasterOf (s.stampBytes p) p k

/-- The raster channel whose centre is f. -/
def State.rasterAt (s : State) (p f : Nat) : Option Nat := (List.range 64).find? (fun k => s.raster p k == some f)

/-- The sub-band in which f lies. -/
def State.subOf (s : State) (p f : Nat) : Option (Nat × SubBand) :=
  (s.subBands p).find? (fun x => decide (x.2.lo ≤ f ∧ f ≤ x.2.hi))

/-- Some frequency lies strictly inside both sub-bands (R150 item 3). -/
def SubBand.overlaps (a b : SubBand) : Bool := decide (max a.lo b.lo < min a.hi b.hi)

/-- No sub-band of a list overlaps a later one. -/
def noOverlap : List SubBand → Bool
  | [] => true
  | b :: bs => bs.all (fun c => !b.overlaps c) && noOverlap bs

/-- Content check of a Stamp record for port p (R150). -/
def stampOk (p : Nat) (rec : Bytes) : Bool :=
  let subs := ((List.range 8).map (subBand rec)).filter SubBand.used
  let (lo, hi) := if isPort p then (2400000, 2483500) else (769000, 960000)
  let inSub (k : Nat) : Bool := match rasterOf rec p k with
    | some c => subs.any (fun b => decide (b.lo + rasterHalf p ≤ c ∧ c + rasterHalf p ≤ b.hi))
    | none => false
  rec.length == 256 && fieldLe rec 0 2 == 1 && fieldLe rec 2 1 == p
    && subs.all (fun b => decide (lo ≤ b.lo ∧ b.lo < b.hi ∧ b.hi ≤ hi))
    && noOverlap subs && subs.all (fun b => decide (b.duty ≤ 10000))
    && (List.range 64).all (fun k => !bitOf (fieldLe rec 8 8) k || inSub k)
    && stampCrcOk rec
    && decide (-20 ≤ fieldI8 rec 4 ∧ fieldI8 rec 4 ≤ 36) && decide (-10 ≤ fieldI8 rec 5 ∧ fieldI8 rec 5 ≤ 30)

/-! ### Cost table (R255) -/

/-- Node costs of a mode: `WAKE_LU`, `TX_LU_MS`, `RX_LU_MS`, `RX_GUARD_US`. -/
structure ModeCost where
  wake : Nat
  tx : Nat
  rx : Nat
  guard : Nat
  deriving DecidableEq, Repr

/-- Built-in node costs (Table 9-3). -/
def builtInCost (mode : Nat) : ModeCost :=
  if mode = 1 then { wake := 300, tx := 556, rx := 500, guard := 1000 }
  else { wake := 300, tx := 833, rx := 222, guard := if mode ≤ 3 then 1000 else 2000 }

/-- Node costs in force. -/
def State.modeCost (s : State) (mode : Nat) : ModeCost :=
  let d := s.dom Key.costTable
  if d.isEmpty then builtInCost mode
  else
    let o := 8 + 32 * (mode - 1)
    { wake := fieldLe d o 4, tx := fieldLe d (o + 4) 4, rx := fieldLe d (o + 8) 4, guard := fieldLe d (o + 12) 2 }

/-- A device energy: its offset, width and built-in value. -/
def State.energy (s : State) (off n builtIn : Nat) : Nat :=
  let d := s.dom Key.costTable
  if d.isEmpty then builtIn else fieldLe d off n

def State.txTileUj (s : State) : Nat := s.energy 200 2 60
def State.txDrvQ4 (s : State) : Nat := s.energy 202 2 64
def State.bsUj (s : State) : Nat := s.energy 204 2 50
def State.laceUj (s : State) : Nat := s.energy 206 2 3
def State.flushUj (s : State) : Nat := s.energy 208 4 80

/-- Content check of a cost table (R255). -/
def costTableOk (d : Bytes) : Bool :=
  let okMode (m : Nat) : Bool :=
    let o := 8 + 32 * m
    fieldLe d (o + 4) 4 != 0 && fieldLe d (o + 8) 4 != 0 && decide (100 ≤ fieldLe d (o + 12) 2 ∧ fieldLe d (o + 12) 2 ≤ 10000)
  d.length == 1024 && fieldLe d 0 2 == 1 && Crypto.crc32c (d.take 1020) == fieldLe d 1020 4
    && (List.range 6).all okMode && fieldLe d 200 2 != 0 && fieldLe d 202 2 != 0 && fieldLe d 204 2 != 0
    && fieldLe d 206 2 != 0 && fieldLe d 208 4 != 0

/-- Energy of a transmission of the given airtime at a driver power, µJ (Table 9-5). -/
def State.txEnergy (s : State) (airtime : Nat) (h : Int) : Nat :=
  (airtime * (s.txTileUj * 256 + s.txDrvQ4 * mw16 h) + 255999) / 256000

/-! ### Slots and slotframes (R208 to R212) -/

/-- Slot length in ns. -/
def State.slotNs (s : State) : Nat := s.rd Key.girthSlotUs * 1000

/-- ASN at a chain time in ns. -/
def State.asnAt (s : State) (t : Nat) : Nat := t / s.slotNs

/-- Present ASN. -/
def State.asn (s : State) : Nat := s.asnAt s.nowNs

/-- Slotframe of a tenant if the tenant is served (R211). -/
def State.served (s : State) (t : Nat) : Option Nat :=
  let f := s.rd (Key.tenSlotframe t)
  if s.flag (Key.tenEnable t) && decide (2 ≤ s.rd (Key.sfSlots f)) && s.rd (Key.sfTenant f) == t then some f else none

/-- Cell length in slots of a frame time F and an answer time A (none: no answer) (R213). -/
def State.cellSlots (s : State) (f : Nat) (a : Option Nat) : Nat :=
  let l := s.rd Key.girthSlotUs
  let span2 := l + 2 * f + (match a with | some x => 2000 + 2 * x | none => 0) + 2000
  (span2 + 2 * l - 1) / (2 * l)

/-- Octets that the tenant's security level adds to a secured form (R220). -/
def State.secExtra (s : State) (t : Nat) : Nat :=
  let l := s.rd (Key.tenSecLevel t)
  if l = 6 then 4 else if l = 7 then 12 else 0

/-- Hopping list of a tenant for a band: frequency and lowest port, rising (R216). -/
def State.hopList (s : State) (t : Nat) (is : Bool) : List (Nat × Nat) :=
  let ports := if is then [2, 3] else [0, 1]
  let one (p : Nat) : List (Nat × Nat) := (List.range 64).filterMap (fun k =>
    if bitOf (s.rd (Key.tenChmap t p)) k then (s.raster p k).map (fun f => (f, p)) else none)
  let m : KMap Nat := (ports.reverse.flatMap one).foldl (fun m x => KMap.put m x.1 x.2) []
  m

/-- Channel of a native cell: frequency and port (R216). -/
def State.hop (s : State) (t : Nat) (is : Bool) (asn off : Nat) : Option (Nat × Nat) :=
  let h := s.hopList t is
  if h.isEmpty then none else h[(asn + off) % h.length]?

end Sys2Proof.Machine
end

