-- ==== Sys2Proof/Machine/Records.lean ====
section
/-! DEFINITION. Node records: fields of the host part, the record as bytes, and what Girth derives from it
(R122, R242, R243, R246, R261, R394). -/

namespace Sys2Proof.Machine

/-- A hardware part of zeros. -/
def hwZero : NodeHw :=
  { ledger := 0, ledgerDay := 0, life := 0, nextUl := 0, nextDl := 0, deferTo := 0, deferrals := 0, missed := 0,
    lastCharge := 0, battFlags := 0, macState := 0, cause := 0, offset := 0, lastContact := 0, hoAsn := 0, ulDsn := 0,
    dlDsn := 0, ulDsnTime := 0, ulFc := 0, ulWin := 0, fcFlags := 0, dlFc := 0, tkFc := 0, secFail := 0, replay := 0,
    framesUp := 0, framesDown := 0 }

/-- A free record. -/
def NodeRec.free : NodeRec :=
  { host := zeros 128, hw := hwZero, quarantined := false, stalePosted := false, badPosted := false,
    handover := none, staged := none, final := none, ack := none, cells := [] }

/-- Record r. -/
def State.nrec (s : State) (r : Nat) : NodeRec := KMap.getD s.girth.recs NodeRec.free r

/-- Replace record r. -/
def State.setRec (s : State) (r : Nat) (x : NodeRec) : State :=
  { s with girth := { s.girth with recs := KMap.setD s.girth.recs NodeRec.free r x } }

/-- Change the hardware part of record r. -/
def State.modHw (s : State) (r : Nat) (f : NodeHw → NodeHw) : State :=
  let x := s.nrec r
  s.setRec r { x with hw := f x.hw }

/-- Number of node records (R122). -/
def recordCount : Nat := 16384

/-- Short address of record r (R122). -/
def shortOf (r : Nat) : Nat := 0x4000 + r

/-! ### Fields of the host part -/

/-- EUI-64; 0 marks a free record. -/
def NodeRec.eui (x : NodeRec) : Nat := fieldLe x.host 0 8
/-- The word of bytes 8 to 15 (Table 8-9). -/
def NodeRec.word (x : NodeRec) : Nat := fieldLe x.host 8 8
def NodeRec.tenant (x : NodeRec) : Nat := bits x.word 0 8
def NodeRec.compat (x : NodeRec) : Bool := bitOf x.word 11
def NodeRec.mode (x : NodeRec) : Nat := bits x.word 12 4
def NodeRec.parent (x : NodeRec) : Nat := bits x.word 16 16
def NodeRec.hoPeer (x : NodeRec) : Nat := bits x.word 32 8
def NodeRec.chOffset (x : NodeRec) : Nat := bits x.word 40 6
def NodeRec.hoRole (x : NodeRec) : Nat := bits x.word 46 2
def NodeRec.hoShort (x : NodeRec) : Nat := bits x.word 48 16
def NodeRec.linkWrapped (x : NodeRec) : Bytes := slice x.host 16 24
def NodeRec.linkRootGen (x : NodeRec) : Nat := fieldLe x.host 40 2
def NodeRec.keyPresent (x : NodeRec) : Bool := bitOf (fieldLe x.host 42 1) 0
def NodeRec.capacity (x : NodeRec) : Nat := fieldLe x.host 48 4
def NodeRec.dailyNah (x : NodeRec) : Nat := fieldLe x.host 52 4
def NodeRec.burstMin (x : NodeRec) : Nat := fieldLe x.host 56 2
def NodeRec.ulPeriod (x : NodeRec) : Nat := fieldLe x.host 58 2
def NodeRec.ulPhase (x : NodeRec) : Nat := fieldLe x.host 60 2
def NodeRec.ulSlot (x : NodeRec) : Nat := fieldLe x.host 62 2
def NodeRec.dlPeriod (x : NodeRec) : Nat := fieldLe x.host 64 2
def NodeRec.dlPhase (x : NodeRec) : Nat := fieldLe x.host 66 2
def NodeRec.dlSlot (x : NodeRec) : Nat := fieldLe x.host 68 2
/-- `UL_PSDU`; 0 reads as 127. -/
def NodeRec.ulPsdu (x : NodeRec) : Nat := let n := fieldLe x.host 70 1; if n = 0 then 127 else n
def NodeRec.lowPct (x : NodeRec) : Nat := fieldLe x.host 71 1

/-- The record is free. -/
def NodeRec.isFree (x : NodeRec) : Bool := x.eui == 0

/-- The node's band is IS (R242). -/
def NodeRec.isIs (x : NodeRec) : Bool := x.mode == 1

/-- Bytes 128 to 255 of a record. -/
def hwBytes (h : NodeHw) : Bytes :=
  leBytes 4 h.ledger ++ leBytes 4 h.ledgerDay ++ leBytes 8 h.life ++ leBytes 4 h.nextUl ++ leBytes 4 h.nextDl
    ++ leBytes 4 h.deferTo ++ leBytes 4 h.deferrals ++ leBytes 4 h.missed ++ leBytes 4 h.lastCharge
    ++ leBytes 1 h.battFlags ++ zeros 7
    ++ leBytes 1 h.macState ++ leBytes 1 h.cause ++ leBytes 4 (toRaw 32 h.offset) ++ leBytes 6 h.lastContact
    ++ leBytes 4 h.hoAsn
    ++ leBytes 1 h.ulDsn ++ leBytes 1 h.dlDsn ++ leBytes 6 h.ulDsnTime ++ leBytes 4 h.ulFc ++ leBytes 2 h.ulWin
    ++ leBytes 1 h.fcFlags ++ zeros 1 ++ leBytes 4 h.dlFc ++ leBytes 4 h.tkFc ++ leBytes 4 h.secFail
    ++ leBytes 4 h.replay ++ leBytes 4 h.framesUp ++ leBytes 4 h.framesDown ++ zeros 24

/-- The 256 bytes of a record (Table 4-23). -/
def NodeRec.bytes (x : NodeRec) : Bytes := slice x.host 0 128 ++ hwBytes x.hw

/-- Records that are not free, with their numbers. -/
def State.heldRecs (s : State) : List (Nat × NodeRec) := s.girth.recs.filter (fun p => !p.2.isFree)

/-- Record of a tenant's EUI-64. -/
def State.findRec (s : State) (tenant eui : Nat) : Option Nat :=
  (s.heldRecs.find? (fun p => p.2.tenant == tenant && p.2.eui == eui)).map (·.1)

/-- `TEN_NODES`: records a tenant holds. -/
def State.tenantNodes (s : State) (t : Nat) : Nat := (s.heldRecs.filter (fun p => p.2.tenant == t)).length

/-- MAC states (Table 8-10). -/
def macFree : Nat := 0
def macProvisioned : Nat := 1
def macAssociating : Nat := 2
def macSync : Nat := 3
def macDesync : Nat := 4
def macOut : Nat := 5
def macIn : Nat := 6

/-- The device serves downlink and uplink cells of the node: in SYNC, or handed over and not yet gone. -/
def NodeRec.inService (x : NodeRec) : Bool :=
  x.hw.macState == macSync || (x.hw.macState == macOut && (match x.handover with
    | some h => h.former == macSync
    | none => false))

/-! ### Cells of a node (R246, R247) -/

/-- The first ASN from a on at which a pattern (period, phase, slot) has a cell, in a slotframe of S slots;
none without cells (R246, R247). -/
def nextCell (S l period phase slot a : Nat) : Option Nat :=
  if S < 2 ∨ period = 0 ∨ S ≤ slot ∨ 604800000000 < period * S * l then none
  else
    let m0 := (a + S - 1 - slot) / S
    let m := m0 + (phase + period - m0 % period) % period
    some (m * S + slot)

/-- Channel of a node's own cell at ASN a: frequency and port (R216, R217). -/
def State.cellChannel (s : State) (x : NodeRec) (a : Nat) : Option (Nat × Nat) :=
  if x.compat then
    let ports := if x.isIs then [2, 3] else [0, 1]
    match ports.find? (fun p => bitOf (s.rd (Key.tenChmap x.tenant p)) x.chOffset) with
    | some p => (s.raster p x.chOffset).map (fun f => (f, p))
    | none => none
  else s.hop x.tenant x.isIs a x.chOffset

/-- Slots per slotframe of a record's tenant; 0 while the node is not served: its record is quarantined, its tenant's slotframe fails
R211, a compatibility node while `GIRTH_COMPAT` is 0, or no channel in the maps for its band (R8, R211, R217, R219, R242). -/
def State.recSlots (s : State) (x : NodeRec) : Nat :=
  if x.quarantined || (x.compat && !s.flag Key.girthCompat) || (s.cellChannel x 0).isNone then 0
  else match s.served x.tenant with
    | some f => s.rd (Key.sfSlots f)
    | none => 0

/-- Next uplink cell of a record at or after ASN a. -/
def State.nextUl (s : State) (x : NodeRec) (a : Nat) : Option Nat :=
  nextCell (s.recSlots x) (s.rd Key.girthSlotUs) x.ulPeriod x.ulPhase x.ulSlot a

/-- Next downlink cell of a record at or after ASN a. -/
def State.nextDl (s : State) (x : NodeRec) (a : Nat) : Option Nat :=
  nextCell (s.recSlots x) (s.rd Key.girthSlotUs) x.dlPeriod x.dlPhase x.dlSlot a

/-- ASN a is a cell of a pattern (R246, R247). -/
def isCell (S l period phase slot a : Nat) : Bool :=
  decide (2 ≤ S ∧ period ≠ 0 ∧ slot < S ∧ period * S * l ≤ 604800000000) && a % S == slot && a / S % period == phase

/-- Octets of a native Enh-Ack of n octets at level 5 (R247). -/
def State.ackOctets (s : State) (x : NodeRec) (n : Nat) : Nat :=
  if x.compat then 5 else n + s.secExtra x.tenant

/-- Slots of a record's uplink cell. -/
def State.ulCellSlots (s : State) (x : NodeRec) : Nat :=
  s.cellSlots (frameUs x.mode x.ulPsdu) (some (frameUs x.mode (s.ackOctets x 20)))

/-- Slots of a record's downlink cell. -/
def State.dlCellSlots (s : State) (x : NodeRec) : Nat :=
  s.cellSlots (frameUs x.mode 127) (some (frameUs x.mode (s.ackOctets x 16)))

/-- Chain time in ns at which slot a begins. -/
def State.slotStart (s : State) (a : Nat) : Nat := a * s.slotNs

end Sys2Proof.Machine
end

