-- ==== Sys2Proof/Machine/Keeper.lean ====
section
/-! DEFINITION. The Keeper: slots, table-port operations, provisioning, tamper, attestation, link keys and
counters (Keeper Key Store and Frame Security). -/

namespace Sys2Proof.Machine

/-! ### Slots (R371 to R377) -/

/-- An empty slot whose generation is g. -/
def Slot.empty (g : Nat) : Slot :=
  { valid := false, expire := false, exportable := false, use := 0, alg := 0, origin := 0, gen := g, parent := 0,
    parentGen := 0, depth := 0, uses := 0, useLimit := 0, label := [], key := [] }

/-- Slot n. -/
def State.slot (s : State) (n : Nat) : Slot := KMap.getD s.keeper.slots (Slot.empty 0) n

/-- Replace slot n. -/
def State.setSlot (s : State) (n : Nat) (x : Slot) : State :=
  { s with keeper := { s.keeper with slots := KMap.setD s.keeper.slots (Slot.empty 0) n x } }

/-- Generation after g (R373). -/
def nextGen (g : Nat) : Nat := if 0xFFFF ≤ g then 1 else g + 1

/-- Free a slot: VALID 0 and GEN increased (R373); its other attributes read 0 (log 32). -/
def State.freeSlot (s : State) (n : Nat) : State :=
  let x := s.slot n
  if x.valid then s.setSlot n (Slot.empty (nextGen x.gen)) else s

/-- Invalidate a slot: a sweep of its descendants follows (R373). -/
def State.invalidate (s : State) (n : Nat) : State :=
  let s := s.freeSlot n
  { s with keeper := { s.keeper with sweepDue := true } }

/-- PARENT values that are no slot. -/
def parentFuse : Nat := 0xFFFD
def parentRoot : Nat := 0xFFFE
def parentNone : Nat := 0xFFFF

/-- Walk of a key's ancestors, at most n levels (R372). -/
def State.ancestorsOk (s : State) : Nat → Slot → Bool
  | 0, x => x.parent == parentNone || x.parent == parentFuse
      || (x.parent == parentRoot && s.vbat.root.isSome && x.parentGen == s.vbat.rootGen)
  | n + 1, x =>
    if x.parent = parentNone ∨ x.parent = parentFuse then true
    else if x.parent = parentRoot then s.vbat.root.isSome && x.parentGen == s.vbat.rootGen
    else
      let p := s.slot x.parent
      p.valid && p.gen == x.parentGen && State.ancestorsOk s n p

/-- Slot n is usable (R372). -/
def State.slotUsable (s : State) (n : Nat) : Bool :=
  decide (n < 4096) && (s.slot n).valid && s.ancestorsOk (s.slot n).depth (s.slot n)

/-- The use limit is reached (R374). -/
def Slot.spent (x : Slot) : Bool := x.useLimit != 0 && decide (x.useLimit ≤ x.uses)

/-- Post with the Keeper's source and clock domain (R395). -/
def State.kPost (s : State) (c : Err) (arg : Nat) (arg2 : Nat := 0) : State := s.post c 0x5000 arg arg2 214

/-- One use of slot n (R374). -/
def State.useSlot (s : State) (n : Nat) : State :=
  let x := s.slot n
  let u := satAdd u32Max x.uses 1
  let s := s.setSlot n { x with uses := u }
  if x.useLimit ≠ 0 ∧ u = x.useLimit ∧ x.uses < u then s.kPost .keyLimit n u else s

/-- USE bits. -/
def useEnc : Nat := 0
def useDec : Nat := 1
def useSign : Nat := 2
def useDerive : Nat := 3
def useWrap : Nat := 4

/-- Source slot check of R382 item 5: usable, then its use, algorithm and limit. -/
def State.sourceCheck (s : State) (n use : Nat) : Option Nat :=
  if !s.slotUsable n then some 0x21
  else
    let x := s.slot n
    if !bitOf x.use use || !(x.alg == 1 || x.alg == 2) || x.spent then some 0x22 else none

/-- Bytes of the identity seed. -/
def State.seedBytes (s : State) : Bytes := beBytes 32 s.ident.seed.toNat

/-- Label of a slot 0 or 1 key, zero-padded to 12 bytes (R376). -/
def labelIdentity : Bytes := beBytes 12 0x4944454E5449545900000000
def labelLinkWrap : Bytes := beBytes 12 0x4C494E4B5752415000000000

/-- Private key d of slot 0 (R376, R378). -/
def State.identityKey (s : State) : Nat :=
  beNat (Crypto.kdf (Crypto.ofBytes s.seedBytes) labelIdentity 3 (2 ^ useSign) 0 256) % (Crypto.order - 1) + 1

/-- Bits of a key of an algorithm (R378). -/
def keyBits (alg : Nat) : Nat := if alg = 1 then 128 else 256

/-- `KEEPER_SLOTS_USED` takes the number of usable slots (R373). -/
def State.countSlots (s : State) : State :=
  s.wr Key.keeperSlotsUsed ((s.keeper.slots.filter (fun p => s.slotUsable p.1)).length)

/-- Write key material and attributes into a slot (R373). -/
def State.writeSlot (s : State) (n : Nat) (x : Slot) : State :=
  s.setSlot n { x with valid := true, gen := nextGen (s.slot n).gen, uses := 0 }

/-- Slot 0 is derived again (R376). -/
def State.deriveIdentity (s : State) : State :=
  s.writeSlot 0 { Slot.empty 0 with use := 2 ^ useSign, alg := 3, origin := 5, parent := parentFuse, depth := 1,
                                    label := labelIdentity }

/-- Slot 1 is derived again from a root (R376). -/
def State.deriveLinkWrap (s : State) : State :=
  match s.vbat.root with
  | some r =>
    let key := Crypto.kdf (Crypto.ofBytes (beBytes 32 r.toNat)) labelLinkWrap 1 (2 ^ useWrap) s.vbat.rootGen 128
    s.writeSlot 1
      { Slot.empty 0 with
        use := 2 ^ useWrap, alg := 1, origin := 2, parent := parentRoot, parentGen := s.vbat.rootGen, depth := 1,
        label := labelLinkWrap, key := key }
  | none => s

/-- Free the slots of some numbers. -/
def State.freeSlots (s : State) (p : Nat → Slot → Bool) : State :=
  s.each ((s.keeper.slots.filter (fun q => p q.1 q.2)).map (·.1)) (fun s n => s.freeSlot n)

/-- The Keeper is keyed (R366). -/
abbrev State.keyed (s : State) : Bool := s.rd Key.keeperState == 1

/-! ### Start-up (Table 14-1, R375) -/

/-- E rises at a start-up in the keyed state, or ends (R389). -/
def State.startEpoch (s : State) : State :=
  if s.vbat.epochE + 1 < 4096 then
    (({ s with vbat := { s.vbat with epochE := s.vbat.epochE + 1 } }).wr Key.keeperState 1).deriveLinkWrap
  else
    let s := (s.freeSlots (fun n _ => decide (1 ≤ n)))
    (({ s with vbat := { s.vbat with root := none } }).wr Key.keeperState 0).kPost .ctrEpochEnd s.vbat.epochE

/-- Post a tamper event not yet posted (R368). -/
def State.postTamper (s : State) : State :=
  if s.keeper.unreported then
    (({ s with keeper := { s.keeper with unreported := false } }).raise 0).kPost .tamperZeroised s.vbat.tamperLast s.vbat.rootGen
  else s

/-- The Keeper at a cold start (Table 14-1, R368, R375, R376). -/
def State.keeperCold (s : State) : State :=
  let s := { s with keeper := { s.keeper with slots := [], fc := [], oldSlots := [], sweepDue := false, attesting := none } }
  let s := s.deriveIdentity
  let s := match s.vbat.root with
    | some _ => s.startEpoch
    | none => s.wr Key.keeperState (if s.vbat.tamper then 2 else 0)
  s.postTamper.countSlots

/-- The Keeper at a warm reset (Table 14-1, R375, R376). -/
def State.keeperWarm (s : State) : State :=
  let s := { s with keeper := { s.keeper with fc := [], oldSlots := [], sweepDue := false, attesting := none } }
  let s := s.freeSlots (fun _ x => x.expire)
  let s := s.deriveIdentity
  let s := if s.keyed && s.vbat.root.isSome then s.startEpoch else s
  s.countSlots

/-! ### Table-port operations (R378 to R383) -/

/-- State check of R382 item 1. -/
def State.unkeyed (s : State) : Bool := !s.keyed

/-- ALG and USE ranges of Table 14-2. -/
def attrOk (alg use : Nat) : Bool := (alg == 1 || alg == 2) && decide (use < 32)

/-- Slot 0 or 1 is named. -/
def reservedSlot (n : Nat) : Bool := decide (n ≤ 1)

/-- What `K_GENERATE` does (R381, R382). -/
def State.kGenerate (s : State) (who : Nat) (slot alg use : Nat) (expire : Bool) (limit : Nat) : State :=
  if s.unkeyed then s.tpDone who 0x27
    else if 4095 < slot || !attrOk alg use || u32Max < limit then s.tpDone who 0x11
    else if reservedSlot slot then s.tpDone who 0x26
    else if s.slotUsable slot then s.tpDone who 0x20
    else
      let n := keyBits alg / 8
      let key := leBytes n (s.draw (8 * n)).toNat
      let s := s.drawn.writeSlot slot { Slot.empty 0 with expire := expire, use := use, alg := alg, origin := 1,
                                                          parent := parentNone, useLimit := limit, key := key }
      s.countSlots.tpDone who 0x00

/-- What `K_DERIVE` does (R378, R381, R382). -/
def State.kDerive (s : State) (who : Nat) (parent slot : Nat) (label : Bytes) (alg use : Nat) (expire : Bool) (limit : Nat) : State :=
  if s.unkeyed then s.tpDone who 0x27
    else if 4095 < slot || 4095 < parent || !attrOk alg use || u32Max < limit then s.tpDone who 0x11
    else if reservedSlot slot || reservedSlot parent then s.tpDone who 0x26
    else if s.slotUsable slot then s.tpDone who 0x20
    else match s.sourceCheck parent useDerive with
      | some c => s.tpDone who c
      | none =>
        let p := s.slot parent
        if 8 < p.depth + 1 then s.tpDone who 0x25
        else
          let lab := slice label 0 12
          let key := Crypto.kdf (Crypto.ofBytes p.key) lab alg use p.gen (keyBits alg)
          let s := (s.useSlot parent).writeSlot slot
            { Slot.empty 0 with
              expire := expire, use := use, alg := alg, origin := 2, parent := parent, parentGen := p.gen,
              depth := p.depth + 1, useLimit := limit, label := lab, key := key }
          s.countSlots.tpDone who 0x00

/-- What `K_IMPORT` does (R379 to R382). -/
def State.kImport (s : State) (who : Nat) (slot unwrap alg use : Nat) (exportable expire : Bool) (limit : Nat) (key : Bytes) : State :=
  let plain := unwrap == 0xFFFF
  let n := keyBits alg / 8
  if s.unkeyed then s.tpDone who 0x27
    else if 4095 < slot || (!plain && decide (4095 < unwrap)) || !attrOk alg use || u32Max < limit
        || key.length != (if plain then n else n + 8) then s.tpDone who 0x11
    else if reservedSlot slot || reservedSlot unwrap then s.tpDone who 0x26
    else if s.slotUsable slot then s.tpDone who 0x20
    else if plain then
      (s.writeSlot slot
        { Slot.empty 0 with
          expire := expire, exportable := exportable, use := use, alg := alg, origin := 4, parent := parentNone,
          useLimit := limit, key := key }).countSlots.tpDone who 0x00
    else match s.sourceCheck unwrap useWrap with
      | some c => s.tpDone who c
      | none =>
        let w := s.slot unwrap
        if 8 < w.depth + 1 then s.tpDone who 0x25
        else match Crypto.keyUnwrap w.key key with
          | none => s.tpDone who 0x24
          | some k =>
            ((s.useSlot unwrap).writeSlot slot
              { Slot.empty 0 with
                expire := expire, exportable := exportable, use := use, alg := alg, origin := 3, parent := unwrap,
                parentGen := w.gen, depth := w.depth + 1, useLimit := limit, key := k }).countSlots.tpDone who 0x00

/-- What `K_EXPORT` does (R379, R380, R382). -/
def State.kExport (s : State) (who : Nat) (slot wrap : Nat) : State :=
  if s.unkeyed then s.tpDone who 0x27
    else if 4095 < slot || 4095 < wrap then s.tpDone who 0x11
    else if reservedSlot slot || reservedSlot wrap then s.tpDone who 0x26
    else if !s.slotUsable slot then s.tpDone who 0x21
    else match s.sourceCheck wrap useWrap with
      | some c => s.tpDone who c
      | none =>
        if !(s.slot slot).exportable then s.tpDone who 0x23
        else (s.useSlot wrap).tpDone who 0x00 (Crypto.keyWrap (s.slot wrap).key (s.slot slot).key)

/-- What `K_INVALIDATE` does (R372, R373, R381). -/
def State.kInvalidate (s : State) (who : Nat) (slot : Nat) : State :=
  if s.unkeyed then s.tpDone who 0x27
    else if 4095 < slot then s.tpDone who 0x11
    else if reservedSlot slot then s.tpDone who 0x26
    else if !(s.slot slot).valid then s.tpDone who 0x10
    else (s.invalidate slot).tpDone who 0x00

/-- The attribute block of a slot as a number (Table 14-2). -/
def State.attrRaw (s : State) (n : Nat) : Nat :=
  let x := s.slot n
  let b (v : Bool) (k : Nat) : Nat := if v then 2 ^ k else 0
  b x.valid 255 + b (x.valid && !s.slotUsable n) 254 + b x.expire 253 + b x.exportable 252 + x.use * 2 ^ 240
    + x.alg * 2 ^ 236 + x.origin * 2 ^ 232 + x.gen * 2 ^ 208 + x.parent * 2 ^ 192 + x.parentGen * 2 ^ 176
    + x.depth * 2 ^ 168 + x.uses * 2 ^ 128 + x.useLimit * 2 ^ 96 + leNat (slice x.label 0 12)

/-- What `K_READ_ATTR` does: served in every Keeper state (R366, R381). -/
def State.kReadAttr (s : State) (who : Nat) (slot : Nat) : State :=
  if 4095 < slot then s.tpDone who 0x11 else s.tpDone who 0x00 (leBytes 32 (s.attrRaw slot))

/-- What `K_LINK_WRAP` does (R382, R383). -/
def State.kLinkWrap (s : State) (who : Nat) (unwrap : Nat) (key : Bytes) : State :=
  let plain := unwrap == 0xFFFF
  let field (s : State) (k : Bytes) : Bytes :=
    Crypto.keyWrap (s.slot 1).key k ++ leBytes 2 s.vbat.rootGen ++ leBytes 1 1 ++ zeros 5
  if s.unkeyed then s.tpDone who 0x27
    else if (!plain && decide (4095 < unwrap)) || key.length != (if plain then 16 else 24) then s.tpDone who 0x11
    else if reservedSlot unwrap then s.tpDone who 0x26
    else if plain then
      if !s.slotUsable 1 then s.tpDone who 0x21 else (s.useSlot 1).tpDone who 0x00 (field s key)
    else match s.sourceCheck unwrap useWrap with
      | some c => s.tpDone who c
      | none =>
        if !s.slotUsable 1 then s.tpDone who 0x21
        else match Crypto.keyUnwrap (s.slot unwrap).key key with
          | none => s.tpDone who 0x24
          | some k => ((s.useSlot unwrap).useSlot 1).tpDone who 0x00 (field s k)

/-- Key bytes after the attributes of `K_IMPORT`: a plain key of ALG's length, or its blob. -/
def importLen (plain : Bool) (alg : Nat) : Nat := (if alg = 2 then 32 else 16) + (if plain then 0 else 8)

/-- `K_GENERATE`: slot, ALG, USE, EXPIRE, USE_LIMIT. -/
def execKGenerate (s : State) : Step :=
  .next (s.tpRun 0x20 (fun s who x =>
    if 1 < tpArg x 4 1 ∧ s.keyed = true then s.tpDone who 0x11
    else s.kGenerate who (tpArg x 0 2) (tpArg x 2 1) (tpArg x 3 1) (tpArg x 4 1 != 0) (tpArg x 5 4)))

/-- `K_DERIVE`: parent, slot, LABEL, ALG, USE, EXPIRE, USE_LIMIT. -/
def execKDerive (s : State) : Step :=
  .next (s.tpRun 0x21 (fun s who x =>
    if 1 < tpArg x 18 1 ∧ s.keyed = true then s.tpDone who 0x11
    else s.kDerive who (tpArg x 0 2) (tpArg x 2 2) (slice x 4 12) (tpArg x 16 1) (tpArg x 17 1) (tpArg x 18 1 != 0) (tpArg x 19 4)))

/-- `K_IMPORT`: slot, unwrap slot, the block of Table 14-2, key or blob (R510). -/
def execKImport (s : State) : Step :=
  .next (s.tpRun 0x22 (fun s who x =>
    let b := tpArg x 4 32
    let alg := bits b 236 4
    s.kImport who (tpArg x 0 2) (tpArg x 2 2) alg (bits b 240 5) (bitOf b 252) (bitOf b 253) (bits b 96 32)
      (slice x 36 (importLen (tpArg x 2 2 == 0xFFFF) alg))))

/-- `K_EXPORT`: slot, wrap slot. -/
def execKExport (s : State) : Step := .next (s.tpRun 0x23 (fun s who x => s.kExport who (tpArg x 0 2) (tpArg x 2 2)))

/-- `K_INVALIDATE`: slot. -/
def execKInvalidate (s : State) : Step := .next (s.tpRun 0x24 (fun s who x => s.kInvalidate who (tpArg x 0 2)))

/-- `K_READ_ATTR`: slot; every requester may use it (R481). -/
def execKReadAttr (s : State) : Step := .next (s.tpRead 0x25 (fun s who x => s.kReadAttr who (tpArg x 0 2)))

/-- `K_LINK_WRAP`: unwrap slot, key or blob. -/
def execKLinkWrap (s : State) : Step :=
  .next (s.tpRun 0x26 (fun s who x => s.kLinkWrap who (tpArg x 0 2) (slice x 2 (if tpArg x 0 2 = 0xFFFF then 16 else 24))))

/-- The sweep that follows an invalidation: every orphaned slot is freed, then the count is updated (R373). -/
def State.sweep (s : State) : State :=
  if !s.keeper.sweepDue then s
  else (({ s with keeper := { s.keeper with sweepDue := false } }).freeSlots (fun n x => x.valid && !s.slotUsable n)).countSlots

/-- `ORPHAN_SWEEP`. -/
def execOrphanSweep (s : State) : Step := .next s.sweep

/-- A slot's memory meets an uncorrectable error (R377). -/
def State.slotError (s : State) (n : Nat) : State := (s.invalidate n).kPost .keySlotError n

/-! ### Provisioning, tamper and attestation -/

/-- `KEEPER_PROVISION` is written: while keyed the run ends with CODE 1 and nothing changes (Table 14-1). -/
def State.provisionCmd (s : State) : State :=
  let s := s.resBegin Key.keeperProvisionRes
  if s.keyed then s.resEnd Key.keeperProvisionRes 1 else s

/-- A new root, the next generation, E 1, empty slots, fresh counters and slots 0 and 1 (R370, R376). -/
def State.provision (s : State) : State :=
  let root := s.draw 256
  let s := s.drawn
  let s := { s with vbat := { s.vbat with root := some root, rootGen := (s.vbat.rootGen + 1) % 65536, epochE := 1, tamper := false } }
  let s := s.freeSlots (fun n _ => decide (2 ≤ n))
  let s := { s with keeper := { s.keeper with fc := [] } }
  ((s.wr Key.keeperState 1).deriveIdentity.deriveLinkWrap).countSlots.resEnd Key.keeperProvisionRes 0

/-- `KEEPER_PROVISION`: the run in progress completes (R370); nothing without one. -/
def execKeeperProvision (s : State) : Step := .next (if (s.res Key.keeperProvisionRes).busy then s.provision else s)

/-- A tamper event takes precedence over the Keeper operation in progress, which ends as failed (R368). -/
def State.tamperOps (s : State) : State :=
  match s.tables.ops with
  | o :: rest => if 0x20 ≤ o.op then ({ s with tables := { s.tables with ops := rest } }).tpDone o.who 0x27 else s
  | [] => s

/-- A rail excursion that the detector takes for a voltage glitch: outside 0.62 to 0.90 V and back within 1 µs, or VDD_CORE above
0.90 V for 2 ns (Table 21-8). -/
def glitchSeen (g : Glitch) : Bool :=
  (decide (g.mv < 620 ∨ 900 < g.mv) && g.back && decide (g.ns ≤ 1000)) || (g.core && decide (900 < g.mv) && decide (2 ≤ g.ns))

/-- Sources that are detected, as bits of `TAMPER_ENABLE` (Table 21-8). -/
def tamperSources (x : TamperSense) : Nat :=
  let b (k : Nat) (on : Bool) : Nat := if on then 2 ^ k else 0
  let ball (k : Nat) : Nat := b k (decide (100000 ≤ x.high.getD k 0))
  ball 0 + ball 1 + ball 2 + ball 3 + b 4 x.mesh + b 5 (x.glitches.any glitchSeen)
    + b 6 (decide (x.temp < -55 ∨ 135 < x.temp) && decide (100000 ≤ x.tempNs))

/-- `TAMPER_ENABLE` as the battery-backed registers give it; without a record there its stored or built-in default (R552, R65). -/
def State.tamperMask (s : State) : Nat :=
  if s.dict.ready || s.power.start.isSome then s.rd Key.tamperEnable
  else match KMap.find s.vbat.rwp Key.tamperEnable with
    | some v => v
    | none => match s.dict.bankC with
      | some c => KMap.getD c.nums (dflt Key.tamperEnable) Key.tamperEnable
      | none => dflt Key.tamperEnable

/-- `TAMPER_DETECT`: what is sensed in every state but OFF; zeroing of R367 for the sources that are enabled, nothing for others. -/
def execTamperDetect (x : TamperSense) (s : State) : Step :=
  let active := Nat.land (tamperSources x) s.tamperMask
  .next (if active = 0 ∨ s.rd Key.pwrState = 0 then s
    else
      let s := { s with vbat := { s.vbat with root := none, tamper := true, tamperLast := active
                                              tamperEvents := satAdd u32Max s.vbat.tamperEvents 1 }
                        keeper := { s.keeper with unreported := true } }
      (s.wr Key.keeperState 2).tamperOps)

/-- `ATTEST_CMD` is written with a slot (R384). -/
def State.attestCmd (s : State) (n : Nat) : State :=
  let s := s.resBegin Key.attestRes
  { s with keeper := { s.keeper with attesting := some n } }

/-- The attestation run ends. -/
def State.attestEnd (s : State) (code : Nat) (d : Bytes) : State :=
  ({ s with keeper := { s.keeper with attesting := none } }).resEnd Key.attestRes code d

/-- The tamper report reaches the fabric (R368); nothing without an event. -/
def State.tamperReport (s : State) : State :=
  if !s.keeper.unreported then s
  else
    let s := s.freeSlots (fun n _ => decide (1 ≤ n))
    let s := { s with keeper := { s.keeper with fc := [], oldSlots := [] } }
    let s := if (s.res Key.keeperProvisionRes).busy then s.resEnd Key.keeperProvisionRes 2 else s
    let s := if s.keeper.attesting.isSome then s.attestEnd 2 (zeros 288) else s
    (s.wr Key.keeperState 2).countSlots.postTamper

/-- `TAMPER_REPORT`. -/
def execTamperReport (s : State) : Step := .next s.tamperReport

/-- VBAT falls below 1.70 V: the root is zeroed without the tamper flag (R369). -/
def execVbatLowZero (s : State) : Step := .next { s with vbat := { s.vbat with root := none, low := true } }

/-- Ancestors of a slot that are slots, nearest first. -/
def State.ancestry (s : State) : Nat → Slot → List Nat
  | 0, _ => []
  | n + 1, x => if 4096 ≤ x.parent then [] else x.parent :: State.ancestry s n (s.slot x.parent)

/-- Bytes 0 to 223 of the attestation statement (Table 14-5). -/
def State.statement (s : State) (n : Nat) : Bytes :=
  let x := s.slot n
  let anc := if x.valid then s.ancestry 8 x else []
  let entry (a : Nat) : Bytes :=
    let y := s.slot a
    beBytes 2 a ++ beBytes 2 y.gen ++ beBytes 1 y.alg ++ beBytes 1 y.origin ++ beBytes 1 y.use ++ zeros 1
  let proof : Bytes := if n = 0 then Crypto.publicKey s.identityKey
    else slice (Crypto.toBytes ((Crypto.aesEnc (Crypto.ofBytes x.key) (List.replicate 16 0)).take 8)) 0 64
  beBytes 4 0x4B415431 ++ beBytes 2 1 ++ beBytes 2 288 ++ beBytes 8 s.ident.eui64 ++ beBytes 2 1
    ++ beBytes 4 (s.treeVersion) ++ beBytes 10 (timeRaw s.time80)
    ++ beBytes 4 (nextResSeq (s.res Key.attestRes).seq) ++ beBytes 2 s.vbat.rootGen ++ beBytes 2 s.vbat.epochE
    ++ beBytes 4 s.vbat.tamperLast ++ beBytes 1 (s.rd Key.keeperState) ++ beBytes 1 anc.length ++ beBytes 2 n
    ++ leBytes 32 (s.attrRaw n) ++ slice (anc.flatMap entry) 0 64 ++ proof ++ zeros 16

/-- The statement of slot n, or why there is none (R366, R384). -/
def State.attest (s : State) (n : Nat) : State :=
  if n ≠ 0 ∧ !s.keyed then s.attestEnd 2 (zeros 288)
  else if !s.slotUsable n then s.attestEnd 1 (zeros 288)
  else
    let body := s.statement n
    let sig := Crypto.ecdsaSign s.identityKey body
    (s.useSlot 0).attestEnd 0 (body ++ sig)

/-- `ATTEST`: the run in progress completes; nothing without one. -/
def execAttest (s : State) : Step :=
  .next (match s.keeper.attesting with
    | some n => s.attest n
    | none => s)

/-! ### Link keys and tenant keys (R383, R386) -/

/-- Link key of a record's host part, if it unwraps under slot 1 and the present root (R383). -/
def State.unwrapLink (s : State) (x : NodeRec) : Option Bytes :=
  if x.keyPresent && x.linkRootGen == s.vbat.rootGen && s.slotUsable 1 then
    match Crypto.keyUnwrap (s.slot 1).key x.linkWrapped with
    | some k => if k.length = 16 then some k else none
    | none => none
  else none

/-- Unwrapping a record's link key is one use of slot 1 (R374, log 139). -/
def State.useLinkWrap (s : State) (x : NodeRec) : State :=
  if x.keyPresent && x.linkRootGen == s.vbat.rootGen && s.slotUsable 1 then s.useSlot 1 else s

/-- Link key of record r for a frame; without one the device posts once per write of the record (R383,
R386). -/
def State.linkKey (s : State) (r : Nat) : State × Option Bytes :=
  let x := s.nrec r
  let s := s.useLinkWrap x
  match s.unwrapLink x with
  | some k => (s, some k)
  | none =>
    if x.keyPresent ∧ x.linkRootGen ≠ s.vbat.rootGen then
      if x.stalePosted then (s, none)
      else ((s.setRec r { x with stalePosted := true }).kPost .linkKeyStale (shortOf r) x.linkRootGen, none)
    else if x.badPosted then (s, none)
    else ((s.setRec r { x with badPosted := true }).kPost .linkKeyBad (shortOf r), none)

/-- Key of a tenant's slot for one use; none where the slot may not be used so (R374, R386). -/
def State.slotFor (s : State) (n use : Nat) : Option Bytes :=
  if s.slotUsable n && bitOf (s.slot n).use use && !(s.slot n).spent then some (s.slot n).key else none

/-- Old slot under which a tenant's frames still verify (R392). -/
def State.oldSlot (s : State) (t : Nat) : Option Nat :=
  (s.keeper.oldSlots.find? (fun g => g.1 == t && decide (s.nowNs < g.2.2))).map (·.2.1)

/-! ### Counters (R389, R390) -/

/-- Raise E to a taken counter's epoch (R389). -/
def State.noteEpoch (s : State) (c : Nat) : State :=
  if s.vbat.epochE < c / 2 ^ 20 then { s with vbat := { s.vbat with epochE := c / 2 ^ 20 } } else s

/-- Take a downlink counter of record r (R389, R390); none: the counters are used up. -/
def State.takeLinkFc (s : State) (r : Nat) : State × Option Nat :=
  let h := (s.nrec r).hw
  if bitOf h.fcFlags 4 then
    if bitOf h.fcFlags 1 then (s, none)
    else ((s.modHw r (fun h => { h with fcFlags := setBit h.fcFlags 1 true })).kPost .dlCounterEnd (shortOf r), none)
  else
    let c := max h.dlFc (s.vbat.epochE * 2 ^ 20)
    let s := s.noteEpoch c
    if c = u32Max then (s.modHw r (fun h => { h with dlFc := u32Max, fcFlags := setBit h.fcFlags 4 true }), some c)
    else (s.modHw r (fun h => { h with dlFc := c + 1 }), some c)

/-- Take a transmit counter of tenant t (R389, R390). -/
def State.takeTenantFc (s : State) (t : Nat) : State × Option Nat :=
  let z : TenantFc := { counter := 0, last := false, posted := false }
  let f := KMap.getD s.keeper.fc z t
  let put (s : State) (f : TenantFc) : State := { s with keeper := { s.keeper with fc := KMap.setD s.keeper.fc z t f } }
  if f.last then
    if f.posted then (s, none) else ((put s { f with posted := true }).kPost .dlCounterEnd t, none)
  else
    let c := max f.counter (s.vbat.epochE * 2 ^ 20)
    let s := s.noteEpoch c
    if c = u32Max then (put s { f with counter := u32Max, last := true }, some c)
    else (put s { f with counter := c + 1 }, some c)

end Sys2Proof.Machine
end

