-- ==== Sys2Proof/Machine/Mac.lean ====
section
/-! DEFINITION. MAC frames: reading the MHR, the forms of Table 8-4, information elements, and securing and
opening frames (R219 to R221, R385 to R388). -/

namespace Sys2Proof.Machine

/-! ### Reading a frame -/

/-- A frame's header as read (Table 8-3, R385). Addresses are none where the frame holds none. -/
structure Mhr where
  typ : Nat
  security : Bool
  ar : Bool
  panComp : Bool
  suppress : Bool
  iePresent : Bool
  dstMode : Nat
  version : Nat
  srcMode : Nat
  /-- reserved bit [7] -/
  res7 : Bool
  dsn : Nat
  dstPan : Option Nat
  dst : Option Nat
  srcPan : Option Nat
  src : Option Nat
  secCtl : Nat
  counter : Nat
  keyIndex : Option Nat
  /-- octets before the auxiliary security header -/
  addrEnd : Nat
  /-- octets before the header IEs -/
  auxEnd : Nat
  /-- octets before the payload -/
  iesEnd : Nat
  deriving DecidableEq, Repr

/-- Octets of an address of a mode. -/
def addrLen (mode : Nat) : Nat := if mode = 2 then 2 else if mode = 3 then 8 else 0

/-- PAN IDs present (destination, source) for a version, modes and PAN ID compression (IEEE 802.15.4-2006
and -2015; log 33). -/
def panFields (version dm sm : Nat) (pc : Bool) : Bool × Bool :=
  if version = 1 then
    (dm != 0, sm != 0 && !(pc && dm != 0))
  else if dm = 0 ∧ sm = 0 then (pc, false)
  else if sm = 0 then (!pc, false)
  else if dm = 0 then (false, !pc)
  else if dm = 3 ∧ sm = 3 then (!pc, false)
  else (true, !pc)

/-- End of the header IEs that start at an offset, in a frame whose payload may not pass an end. -/
def iesEndFrom (bs : Bytes) (stop : Nat) : Nat → Nat → Nat
  | 0, off => off
  | n + 1, off =>
    if stop < off + 2 then off
    else
      let h := fieldLe bs off 2
      if bitOf h 15 then off
      else
        let id := bits h 7 8
        let nxt := off + 2 + bits h 0 7
        if id = 0x7E ∨ id = 0x7F then off + 2
        else if stop < nxt then off
        else iesEndFrom bs stop n nxt

/-- MIC length of a security level (R385). -/
def micLen (level : Nat) : Nat := if level = 5 then 4 else if level = 6 then 8 else if level = 7 then 16 else 0

/-- Read the header of a PSDU without FCS; none when it is too short for the fields it announces. -/
def parseMhr (bs : Bytes) : Option Mhr :=
  if bs.length < 3 then none
  else
    let f := fieldLe bs 0 2
    let dm := bits f 10 2
    let sm := bits f 14 2
    let ver := bits f 12 2
    let pc := bitOf f 6
    let (dp, sp) := panFields ver dm sm pc
    let o1 := 3 + (if dp then 2 else 0)
    let o2 := o1 + addrLen dm
    let o3 := o2 + (if sp then 2 else 0)
    let o4 := o3 + addrLen sm
    let sec := bitOf f 3
    let ctl := fieldLe bs o4 1
    let km := bits ctl 3 2
    let o5 := if sec then o4 + 5 + (if km = 1 then 1 else 0) else o4
    if bs.length < o5 then none
    else
      let stop := bs.length - micLen (if sec then bits ctl 0 3 else 0)
      some {
        typ := bits f 0 3, security := sec, ar := bitOf f 5, panComp := pc, suppress := bitOf f 8,
        iePresent := bitOf f 9, dstMode := dm, version := ver, srcMode := sm, res7 := bitOf f 7, dsn := fieldLe bs 2 1,
        dstPan := if dp then some (fieldLe bs 3 2) else none,
        dst := if dm = 0 then none else some (fieldLe bs o1 (addrLen dm)),
        srcPan := if sp then some (fieldLe bs o2 2) else none,
        src := if sm = 0 then none else some (fieldLe bs o3 (addrLen sm)),
        secCtl := if sec then ctl else 0,
        counter := if sec then fieldLe bs (o4 + 1) 4 else 0,
        keyIndex := if sec && km == 1 then some (fieldLe bs (o4 + 5) 1) else none,
        addrEnd := o4, auxEnd := o5,
        iesEnd := if bitOf f 9 then iesEndFrom bs stop 127 o5 else o5 }

/-- Security level of a header. -/
def Mhr.level (m : Mhr) : Nat := bits m.secCtl 0 3

/-- Key identifier mode of a header. -/
def Mhr.keyMode (m : Mhr) : Nat := bits m.secCtl 3 2

/-- Forms that the device accepts (Table 8-4). -/
inductive Form where
  | uplink
  /-- MAC command with the addressing of uplink data (log 34) -/
  | command
  | assocRequest
  | enhAck
  | immAck
  deriving DecidableEq, Repr

/-- Field values and addressing of an accepted form (R219, R220). -/
def Mhr.form (m : Mhr) : Option Form :=
  if m.suppress || m.res7 || (m.version == 1 && m.iePresent) then none
  else if m.typ == 2 && m.version == 1 && !m.security && m.dstMode == 0 && m.srcMode == 0 && !m.panComp then some .immAck
  else if !m.security then none
  else if m.typ == 1 && (m.version == 1 || m.version == 2) && m.dst == some 0 && m.dstMode == 2 && m.srcMode == 2 && m.panComp then
    some .uplink
  else if m.typ == 3 && (m.version == 1 || m.version == 2) && m.dst == some 0 && m.dstMode == 2 && m.srcMode == 2 && m.panComp then
    some .command
  else if m.typ == 3 && m.version == 2 && m.dst == some 0 && m.dstMode == 2 && m.srcMode == 3 && m.panComp then
    some .assocRequest
  else if m.typ == 2 && m.version == 2 && m.dst == some 0 && m.dstMode == 2 && m.srcMode == 0 && m.panComp then
    some .enhAck
  else none

/-- Key identifier mode of a form. -/
def Form.keyMode : Form → Nat
  | .assocRequest => 1
  | _ => 0

/-- Security control of a frame is accepted for its form and level (R385). -/
def Mhr.secOk (m : Mhr) (form : Form) (level : Nat) : Bool :=
  m.level == level && m.keyMode == form.keyMode && bits m.secCtl 5 3 == 0
    && (form.keyMode == 0 || m.keyIndex == some 1)

/-- CCM* nonce (R387). -/
def nonceOf (eui counter level : Nat) : Bytes := beBytes 8 eui ++ beBytes 4 counter ++ beBytes 1 level

/-- Verify and decipher a frame under a key: the frame without MIC, payload in clear. -/
def openFrame (key : Bytes) (eui : Nat) (m : Mhr) (bs : Bytes) : Option Bytes :=
  match Crypto.ccmOpen key (nonceOf eui m.counter m.level) (micLen m.level) (bs.take m.iesEnd) (bs.drop m.iesEnd) with
  | some p => some (bs.take m.iesEnd ++ p)
  | none => none

/-! ### Building frames -/

/-- Frame control of a form: type, AR, PENDING, IE present, version, destination and source modes,
PAN ID compression; every frame but an Imm-Ack is secured. -/
def frameControl (typ : Nat) (security pending ar panComp ie : Bool) (dm ver sm : Nat) : Nat :=
  let b (v : Bool) (k : Nat) : Nat := if v then 2 ^ k else 0
  typ + b security 3 + b pending 4 + b ar 5 + b panComp 6 + b ie 9 + dm * 2 ^ 10 + ver * 2 ^ 12 + sm * 2 ^ 14

/-- Header IE with its descriptor (IEEE 802.15.4-2015; log 33). -/
def headerIe (id : Nat) (content : Bytes) : Bytes := leBytes 2 (content.length + id * 128) ++ content

/-- Vendor header IE (R221). -/
def vendorIe (sub : Nat) (content : Bytes) : Bytes := headerIe 0 (leBytes 3 0x4B524B ++ leBytes 1 sub ++ content)

/-- Header Termination 1. -/
def ht1 : Bytes := headerIe 0x7E []

/-- Time Correction IE of a correction in µs. -/
def timeCorrection (c : Int) : Bytes := headerIe 0x1E (leBytes 2 (toRaw 12 c))

/-- Time Anchor IE: the slot that holds the first chip and its offset in µs. -/
def timeAnchor (asn off : Nat) : Bytes := vendorIe 1 (leBytes 5 asn ++ leBytes 2 off)

/-- Handover IE. -/
def handoverIe (pan short asn : Nat) : Bytes := vendorIe 2 (leBytes 2 pan ++ leBytes 2 short ++ leBytes 5 asn)

/-- MLME payload IE with the TSCH Synchronization IE nested in it. -/
def tschSync (asn : Nat) : Bytes :=
  let nested := leBytes 2 (6 + 0x1A * 256) ++ leBytes 5 asn ++ leBytes 1 0
  leBytes 2 (nested.length + 1 * 2 ^ 11 + 2 ^ 15) ++ nested

/-- Enh-Ack to a node (Table 8-4). -/
def enhAckDraft (r short dsn : Nat) (pending : Bool) (ie : Bytes) : Draft :=
  { mhr := leBytes 2 (frameControl 2 true pending false true true 2 2 0) ++ leBytes 1 dsn ++ leBytes 2 short
    ies := ie, payload := [], key := .link r }

/-- Imm-Ack to a compatibility node. -/
def immAckDraft (dsn : Nat) (pending : Bool) : Draft :=
  { mhr := leBytes 2 (frameControl 2 false pending false false false 0 1 0) ++ leBytes 1 dsn
    ies := [], payload := [], key := .none }

/-- Association response; pending tells that frames wait for the node (Table 8-3). -/
def assocRspDraft (t pan eui short dsn : Nat) (pending : Bool) (ie : Bytes) : Draft :=
  { mhr := leBytes 2 (frameControl 3 true pending false true true 3 2 2) ++ leBytes 1 dsn ++ leBytes 2 pan ++ leBytes 8 eui ++ leBytes 2 0
    ies := ie ++ ht1, payload := leBytes 1 2 ++ leBytes 2 short ++ leBytes 1 0, key := .tenant t }

/-- Data frame to a node; a version-1 frame carries no IE. -/
def downlinkDraft (r pan short dsn : Nat) (compat pending : Bool) (ie payload : Bytes) : Draft :=
  { mhr := leBytes 2 (frameControl 1 true pending true true (!ie.isEmpty) 2 (if compat then 1 else 2) 2) ++ leBytes 1 dsn
      ++ leBytes 2 pan ++ leBytes 2 short ++ leBytes 2 0
    ies := if ie.isEmpty then [] else ie ++ ht1
    payload := payload, key := .link r }

/-- Broadcast data frame. -/
def broadcastDraft (t pan dsn : Nat) (payload : Bytes) : Draft :=
  { mhr := leBytes 2 (frameControl 1 true false false true false 2 2 2) ++ leBytes 1 dsn ++ leBytes 2 pan ++ leBytes 2 0xFFFF
      ++ leBytes 2 0
    ies := [], payload := payload, key := .tenant t }

/-- Lacing symbol frame. -/
def lacingDraft (t dsn : Nat) (payload : Bytes) : Draft :=
  { mhr := leBytes 2 (frameControl 1 true false false true false 2 2 0) ++ leBytes 1 dsn ++ leBytes 2 0xFFFF
    ies := [], payload := payload, key := .tenant t }

/-- Enhanced beacon: slot descriptor, channel set, padding of n zero octets when given. -/
def beaconDraft (t pan asn dsn : Nat) (slotDesc channelSet : Bytes) (pad : Option Nat) : Draft :=
  { mhr := leBytes 2 (frameControl 0 true false false false true 0 2 2) ++ leBytes 1 dsn ++ leBytes 2 pan ++ leBytes 2 0
    ies := vendorIe 4 slotDesc ++ vendorIe 5 channelSet ++ (match pad with | some n => vendorIe 3 (zeros n) | none => []) ++ ht1
    payload := tschSync asn, key := .tenant t }

/-- Octets of a draft as a PSDU with FCS, at the security level of its tenant. -/
def State.draftLen (s : State) (d : Draft) (t : Nat) : Nat :=
  let n := d.mhr.length + d.ies.length + d.payload.length + 2
  match d.key with
  | .none => n
  | .link _ => n + 5 + micLen (s.rd (Key.tenSecLevel t))
  | .tenant _ => n + 6 + micLen (s.rd (Key.tenSecLevel t))

/-- Secure a draft with a key and counter. -/
def State.sealWith (s : State) (d : Draft) (t counter : Nat) (key : Bytes) (aux : Bytes) : Bytes :=
  let level := s.rd (Key.tenSecLevel t)
  let hdr := d.mhr ++ aux ++ d.ies
  hdr ++ Crypto.ccmSeal key (nonceOf s.ident.eui64 counter level) (micLen level) hdr d.payload

/-- The Keeper secures a frame at its commit, taking its counter (R388 to R390); none: it is not sent. -/
def State.secure (s : State) (d : Draft) (t : Nat) : State × Option Bytes :=
  let level := s.rd (Key.tenSecLevel t)
  match d.key with
  | .none => (s, some (d.mhr ++ d.ies ++ d.payload))
  | .link r =>
    let (s, key) := s.linkKey r
    match key with
    | none => (s, none)
    | some k =>
      let (s, c) := s.takeLinkFc r
      match c with
      | none => (s, none)
      | some c => (s, some (s.sealWith d t c k (leBytes 1 level ++ leBytes 4 c)))
  | .tenant u =>
    let n := s.rd (Key.tenKeySlot u)
    match s.slotFor n useEnc with
    | none => (s, none)
    | some k =>
      let s := s.useSlot n
      let (s, c) := s.takeTenantFc u
      match c with
      | none => (s, none)
      | some c => (s, some (s.sealWith d t c k (leBytes 1 (level + 8) ++ leBytes 4 c ++ leBytes 1 1)))

end Sys2Proof.Machine
end

