-- ==== Sys2Proof/Machine/ChainNet.lean ====
section
/-! DEFINITION. Chain ports, routes and the sending of chain frames (R29 to R35, R47 to R49). -/

namespace Sys2Proof.Machine

/-- Number of a port among its objects: 0 TACK_UP, 1 TACK_DN (R57). -/
def sideNum (p : Side) : Nat :=
  match p with
  | .up => 0
  | .dn => 1

/-- State of a chain port. -/
def State.cport (s : State) (p : Side) : ChainPort :=
  match p with
  | .up => s.chain.portUp
  | .dn => s.chain.portDn

/-- Replace the state of a chain port. -/
def State.setCport (s : State) (p : Side) (x : ChainPort) : State :=
  match p with
  | .up => { s with chain := { s.chain with portUp := x } }
  | .dn => { s with chain := { s.chain with portDn := x } }

/-- `LINK_STATE` of a port. -/
abbrev State.link (s : State) (p : Side) : Nat := s.rd (Key.linkState (sideNum p))

/-- The link of a port is UP. -/
abbrev State.linkUp (s : State) (p : Side) : Bool := s.link p == 3

/-- This device's chain address. -/
abbrev State.addr (s : State) : Nat := s.rd Key.chainAddr

/-- Destination of a broadcast, and of a frame to the active head. -/
def dstAll : Nat := 0x40
def dstHead : Nat := 0x41

/-- Frame type codes (Table 2-3). -/
def bodyType (b : ChainBody) : Nat :=
  match b with
  | .link _ => 0
  | .survey _ => 1
  | .assign _ => 2
  | .done _ _ => 3
  | .topo _ => 4
  | .head _ => 5
  | .time _ => 6
  | .delayReq _ => 7
  | .delayRsp _ _ _ => 8
  | .dict _ => 9
  | .data _ => 10
  | .sbReq _ => 11
  | .sbRsp _ _ => 12
  | .none => 13

/-- Lane of a frame type (Table 2-3). -/
def laneOf (typ : Nat) : Nat := if typ = 9 then 1 else if typ = 10 then 3 else if typ = 11 ∨ typ = 12 then 2 else 0

/-- Types that a device with address 0xFF accepts and sends (R35). -/
def unassignedType (typ : Nat) : Bool := typ ≤ 4 || typ == 6 || typ == 7 || typ == 8

/-- Credits of a frame in units of 64 bytes: header, payload and CRC (R31). -/
def unitsOf (len : Nat) : Nat := (16 + len + 4 + 63) / 64

/-- Credits granted when a link reaches UP: the receive buffers of R31. -/
def initialCredits : Vector Nat 4 := #v[64, 128, 512, 1024]

/-- Devices of the map that are present. -/
def topoLive (t : Topo) : List TopoEntry := t.map.filter (·.present)

/-- Position of an address among the present devices. -/
def topoPos (t : Topo) (a : Nat) : Option Nat := findIdxFrom (fun e => e.addr == a) 0 (topoLive t)

/-- Every link on the way down from position i over n hops is up. -/
def pathDown (l : List TopoEntry) : Nat → Nat → Bool
  | _, 0 => true
  | i, n + 1 =>
    let a := l[i % l.length]?
    let b := l[(i + 1) % l.length]?
    (match a, b with
      | some x, some y => x.dnLink && y.upLink
      | _, _ => false) && pathDown l (i + 1) n

/-- Port by which a frame to an address leaves its source (R47); none: no path. -/
def State.routeTo (s : State) (dst : Nat) : Option Side :=
  let t := s.chain.topo
  let l := topoLive t
  let n := l.length
  match topoPos t s.addr, topoPos t dst with
  | some i, some j =>
    if i = j then none
    else
      let down := (j + n - i) % n
      let up := n - down
      let okDn := pathDown l i down && (t.ring || decide (i < j))
      let okUp := pathDown l j up && (t.ring || decide (j < i))
      if okDn && (down ≤ up || !okUp) then some .dn else if okUp then some .up else none
  | _, _ => none

/-- A frame waits at a port for credits; at a port that is not UP it is dropped (R48). -/
def State.queueAt (s : State) (p : Side) (f : ChainFrame) : State :=
  if s.linkUp p then
    let x := s.cport p
    s.setCport p { x with out := x.out ++ [f] }
  else s.bump (Key.noRoute (sideNum p))

/-- A frame that this device originates. -/
def State.mkFrame (s : State) (dst cls tenant len tag : Nat) (body : ChainBody) : ChainFrame :=
  { dst := dst, src := s.addr, typ := bodyType body, lane := laneOf (bodyType body), cls := cls, hops := 64, tenant := tenant, length := len,
    tag := tag, body := body }

/-- The ring is closed and every link of it is up. -/
def State.ringIntact (s : State) : Bool :=
  s.chain.topo.ring && pathDown (topoLive s.chain.topo) 0 (topoLive s.chain.topo).length

/-- Send a broadcast (R49). -/
def State.broadcast (s : State) (f : ChainFrame) : State :=
  if s.ringIntact then s.queueAt .dn f
  else
    let s := if s.linkUp .dn then s.queueAt .dn f else s
    if s.linkUp .up then s.queueAt .up f else s

/-- The header of a frame as Table 2-2 lays it out, as the 128-bit number whose most significant bit is bit 127; reserved
fields are zero. -/
def frameHeader (f : ChainFrame) : Nat :=
  f.dst % 256 * 2 ^ 120 + f.src % 256 * 2 ^ 112 + f.typ % 16 * 2 ^ 108 + f.lane % 4 * 2 ^ 106 + f.cls % 8 * 2 ^ 103 + f.hops % 256 * 2 ^ 88
    + f.tenant % 256 * 2 ^ 80 + f.length % 65536 * 2 ^ 64 + f.tag % 2 ^ 32 * 2 ^ 32

/-- The CRC-32C of a frame over its 16-byte header and its payload (R29). The header's first byte is DST: the order of its bytes
is a DESIGN CHOICE (log 107). -/
def frameCrc (f : ChainFrame) (payload : Bytes) : Nat := Crypto.crc32c (beBytes 16 (frameHeader f) ++ payload)

/-- A frame between its start and terminate blocks: header, payload, CRC-32C (R29). -/
def frameWire (f : ChainFrame) (payload : Bytes) : Bytes := beBytes 16 (frameHeader f) ++ payload ++ leBytes 4 (frameCrc f payload)

/-- Send a frame to a device, to the active head or to all (R35, R47). A frame without a route is counted in NO_ROUTE of TACK_DN
(DESIGN CHOICE, log 108: R48 names no port for it). -/
def State.sendChain (s : State) (dst cls tenant len tag : Nat) (body : ChainBody) : State :=
  if s.addr = 0xFF ∧ !unassignedType (bodyType body) then s
  else
    let f := s.mkFrame dst cls tenant len tag body
    if dst = dstAll then s.broadcast f
    else
      let dest := if dst = dstHead then s.chain.topo.head else dst
      match s.routeTo dest with
      | some p => s.queueAt p f
      | none => s.bump (Key.noRoute 1)

/-- Send a frame out of one port, without a route (neighbour frames and enumeration). -/
def State.sendPort (s : State) (p : Side) (body : ChainBody) (len : Nat := 32) : State :=
  s.queueAt p (s.mkFrame dstAll 0 0 len 0 body)

/-- Credits of a lane go back to the partner with the next LINK frame (R31). -/
def State.credit (s : State) (p : Side) (lane units : Nat) : State :=
  let x := s.cport p
  s.setCport p { x with owed := vmod (fun n => n + units) lane x.owed }

end Sys2Proof.Machine
end

