-- ==== Sys2Proof/Machine/Cinch.lean ====
section
/-! DEFINITION. Cinch: budget, tick, grants and releases (R265 to R270). -/

namespace Sys2Proof.Machine

/-- Token balance, µJ. -/
def State.tokens (s : State) : Int := s.rdI 32 Key.cinchTokens

/-- Replace the balance, saturated at −2^31 (R267). -/
def State.setTokens (s : State) (x : Int) : State := s.wr Key.cinchTokens (toRaw 32 (max (-2147483648) x))

/-- Effective budget in mW for a budget, a limit in °C and TJ_MAX in 1/65,536 °C (R265). -/
def budgetFor (budget : Nat) (lim tj : Int) : Nat :=
  if tj ≤ (lim - 10) * 65536 then budget
  else if lim * 65536 ≤ tj then budget / 2
  else ((budget : Int) * (10 * 65536 + lim * 65536 - tj) / (20 * 65536)).toNat

/-- Effective budget of the present settings. -/
def State.beffNow (s : State) : Nat :=
  budgetFor (s.rd Key.cinchBudgetMw) (s.rdI 8 Key.cinchTjLimitC) (s.rdI 32 Key.tjMax)

/-- T_max in µJ. -/
def Cinch.tmax (c : Cinch) : Nat := 20 * c.beff

/-- Code at position k (0 to 5) of a shedding order. -/
def orderCode (order k : Nat) : Nat := bits order (4 * k) 4

/-- Position (0 to 5) of a code in a shedding order. -/
def orderPos (order code : Nat) : Nat := ((List.range 6).find? (fun k => orderCode order k == code)).getD 5

/-- The code's position is in force. -/
def State.codeInForce (s : State) (code : Nat) : Bool :=
  s.girth.cinch.inForce.getD (orderPos s.girth.cinch.order code) false

/-- Replace Cinch's state. -/
def State.setCinch (s : State) (c : Cinch) : State := { s with girth := { s.girth with cinch := c } }

/-- Count a refusal or an entry into force (`SHED_COUNT`). -/
def State.shed (s : State) (code : Nat) : State := s.bump (Key.shedCount (code - 1))

/-- Frequency ceiling of the cores, MHz (R269). -/
def State.coreCeiling (s : State) : Nat :=
  let f := s.rd Key.coreFreqMhz
  if s.codeInForce 5 then max 200 (f / (if s.tokens < 0 then 4 else 2)) else f

/-- The ceiling in force takes the present one (R269, R476). -/
def State.applyCeiling (s : State) : State := s.setCinch { s.girth.cinch with ceiling := s.coreCeiling }

/-- Cap of R198 on transmissions on air (R269). -/
def State.txCap (s : State) (sheddable : Bool) : Nat :=
  if sheddable && s.codeInForce 6 then (if s.tokens < 0 then 1 else 4) else 16

/-- One position of the tick (R267). -/
def tickPos (tmax : Nat) (s : State) (k : Nat) : State :=
  let c := s.girth.cinch
  let x := s.tokens
  let code := orderCode c.order k
  let on := c.inForce.getD k false
  let enters := !on && decide (8 * x < ((7 - k : Nat) : Int) * tmax)
  let s := if enters && decide (5 ≤ code) then s.shed code else s
  let on := on || enters
  let on := on && !decide (((8 - k : Nat) : Int) * tmax ≤ 8 * x)
  s.setCinch { c with inForce := vmod (fun _ => on) k c.inForce }

/-- The tick of R267 with a continuous power in mW. -/
def State.cinchTick (s : State) (pCont : Nat) : State :=
  let c := s.girth.cinch
  let order := s.rd Key.cinchShedOrder
  let beff := s.beffNow
  let c := { c with beff := beff, order := order, inForce := if order = c.order then c.inForce else Vector.replicate 6 false }
  let tmax : Nat := c.tmax
  let s := (s.setCinch c).setTokens (min tmax (s.tokens + beff - pCont))
  let s := s.each (List.range 6) (tickPos tmax)
  let s := s.wr Key.cinchStage ((s.girth.cinch.inForce.toList.filter id).length)
  let power := min 30000 (pCont + c.granted)
  let s := s.wr Key.cinchPowerMw power
  let x := s.tokens
  let s := if x < -(tmax : Int) && !s.girth.cinch.overdraw then
      (s.post .cinchOverdraw 0x1401 (toRaw 64 x) power).setCinch { s.girth.cinch with overdraw := true }
    else if 0 ≤ x then s.setCinch { s.girth.cinch with overdraw := false } else s
  (s.setCinch { s.girth.cinch with granted := 0 }).applyCeiling

/-- Junction sensors take their readings; `CINCH_OVERTEMP` posts each time TJ_MAX rises to the limit
(R265). Readings are in 1/65,536 °C. -/
def State.readSensors (s : State) (tj : List Int) : State :=
  let s := s.each (List.range 8) (fun s i => s.wr (Key.tjSensor i) (toRaw 32 (tj.getD i 0)))
  let top := tj.foldl max (tj.headD 0)
  let s := s.wr Key.tjMax (toRaw 32 top)
  let hot := decide (s.rdI 8 Key.cinchTjLimitC * 65536 ≤ top)
  let s := if hot && !s.girth.cinch.hot then s.post .cinchOvertemp 0x1402 (toRaw 32 top) s.beffNow else s
  s.setCinch { s.girth.cinch with hot := hot }

/-- `CINCH_TICK`: the sensors and the power estimate over the last 1 ms are what the tick finds. -/
def execCinchTick (pCont : Nat) (tj : List Int) (s : State) : Step :=
  .next ((if tj.isEmpty then s else s.readSensors tj).cinchTick pCont)

/-- Ask for energy; code none is a wake-up, which is never refused (R263, R267). -/
def State.grant (s : State) (code : Option Nat) (e : Nat) : State × Bool :=
  let c := s.girth.cinch
  let give (s : State) : State :=
    (s.setTokens (s.tokens - e)).setCinch { c with granted := c.granted + e }
  match code with
  | none => (give s, true)
  | some k =>
    if s.codeInForce k || decide (8 * (s.tokens - e) < ((6 - orderPos c.order k : Nat) : Int) * c.tmax) then (s.shed k, false)
    else (give s, true)

/-- Return unused energy (R267). -/
def State.release (s : State) (e : Nat) : State := s.setTokens (min s.girth.cinch.tmax (s.tokens + e))

/-- Cinch at any reset (R270). -/
def State.resetCinch (s : State) : State :=
  let beff := s.beffNow
  let s := s.setCinch { inForce := Vector.replicate 6 false, overdraw := false, beff := beff, hot := false,
                        order := s.rd Key.cinchShedOrder, granted := 0, ceiling := s.rd Key.coreFreqMhz }
  (s.setTokens (20 * beff)).wr Key.cinchStage 0

end Sys2Proof.Machine
end

