-- ==== Sys2Proof/Machine/Curb.lean ====
section
/-! DEFINITION. Curb: policers, shapers, the shaping calendar and sampling (Curb Policing, Shaping and
Tenants), with the cell arithmetic of the Harness that they share. -/

namespace Sys2Proof.Machine

/-! ### Cells and queues of the Harness -/

/-- Cells of a frame of b bytes (R282). -/
def cellsOf (b : Nat) : Nat := (b + 32 + 127) / 128

/-- Cells of a copy. -/
def HFrame.cells (f : HFrame) : Nat := cellsOf f.bytes.length

/-- Cells of a list of copies. -/
def cellSum (l : List HFrame) : Nat := (l.map HFrame.cells).sum

/-- An output queue with nothing in it, ON_DIE. -/
def OutQ.empty : OutQ := { frames := [], spilled := false, buffer := [], ring := [] }

/-- Output queue (h, c). -/
def State.outQ (s : State) (h c : Nat) : OutQ := KMap.getD s.har.queues OutQ.empty (8 * h + c)

/-- Cells that a queue holds on die: those of its frames and of its part of the spill write buffer (R282, R291). -/
def OutQ.held (q : OutQ) : Nat := cellSum q.frames + cellSum q.buffer

/-- Cells freed in the present Harness cycle, which become free at its end (R284); a cycle is one instant of elapsed time (log 135). -/
def State.freedNow (s : State) : Nat := if s.har.freedAt = s.elapsed then s.har.freed else 0

/-- Replace output queue (h, c); the cells that it gives up are free from the next cycle on. -/
def State.setOutQ (s : State) (h c : Nat) (q : OutQ) : State :=
  { s with har := { s.har with queues := KMap.setD s.har.queues OutQ.empty (8 * h + c) q,
                               freed := s.freedNow + ((s.outQ h c).held - q.held), freedAt := s.elapsed } }

/-- Free cells F (R282, R284): cells on die, in the spill write buffer or freed in this cycle are not free. -/
def State.freeCells (s : State) : Nat :=
  65536 - (s.har.queues.map (fun p => p.2.held)).sum - s.freedNow

/-! ### Policers (R352 to R357) -/

/-- Colour of a frame. -/
inductive Colour where
  | green
  | yellow
  | red
  deriving DecidableEq, Repr

/-- Policer c of tenant t. -/
def State.policer (s : State) (t c : Nat) : Policer :=
  KMap.getD s.curb.policers { tc := 0, te := 0, remC := 0, remE := 0, last := 0, mode := 0 } (8 * t + c)

/-- Replace a policer. -/
def State.setPolicer (s : State) (t c : Nat) (p : Policer) : State :=
  let z : Policer := { tc := 0, te := 0, remC := 0, remE := 0, last := 0, mode := 0 }
  { s with curb := { s.curb with policers := KMap.setD s.curb.policers z (8 * t + c) p } }

/-- Pre-colour of a Traffic Class (R353); none: no IP header, or elided. -/
def preColour (tc : Option Nat) : Colour :=
  match tc with
  | none => .green
  | some x => let d := bits x 3 2
    if d ≤ 1 then .green else if d = 2 then .yellow else .red

/-- 1/65,536 bytes that a rate in 1,000 b/s gives in dt ns, with the carried remainder (R354). -/
def bucketGain (rate dtNs rem : Nat) : Nat × Nat :=
  let x := rate * dtNs * 65536 + rem
  (x / 8000000, x % 8000000)

/-- Meter a frame of b bytes at policer (t, c) and count its colour (R354, R356). -/
def State.police (s : State) (t c b : Nat) (tc : Option Nat) : State × Colour :=
  let raw := s.rd (Key.polMode t c)
  let mode := bits raw 0 2
  if mode = 0 then (s, .green)
  else
    let pc := if bitOf raw 7 then preColour tc else .green
    let cbs := s.rd (Key.polCbs t c) * 65536
    let xbs := s.rd (Key.polXbs t c) * 65536
    let cir := s.rd (Key.polCirKbps t c)
    let pir := max cir (s.rd (Key.polPirKbps t c))
    let p := s.policer t c
    let p := if p.mode = mode then { p with tc := min p.tc cbs, te := min p.te xbs }
             else { p with tc := cbs, te := xbs, remC := 0, remE := 0, last := s.elapsed, mode := mode }
    let dt := (s.elapsed - p.last) * 4
    let need := b * 65536
    let (p, colour) :=
      if mode = 1 then
        let (add, rem) := bucketGain cir dt p.remC
        let tcNew := min cbs (p.tc + add)
        let te := min xbs (p.te + (p.tc + add - tcNew))
        let p := { p with tc := tcNew, te := te, remC := rem }
        if pc = Colour.green ∧ need ≤ p.tc then ({ p with tc := p.tc - need }, Colour.green)
        else if pc ≠ Colour.red ∧ need ≤ p.te then ({ p with te := p.te - need }, Colour.yellow)
        else (p, Colour.red)
      else
        let (addP, remP) := bucketGain pir dt p.remE
        let (addC, remC) := bucketGain cir dt p.remC
        let p := { p with te := min xbs (p.te + addP), tc := min cbs (p.tc + addC), remC := remC, remE := remP }
        if pc = Colour.red ∨ p.te < need then (p, Colour.red)
        else if pc = Colour.yellow ∨ p.tc < need then ({ p with te := p.te - need }, Colour.yellow)
        else ({ p with te := p.te - need, tc := p.tc - need }, Colour.green)
    let s := s.setPolicer t c { p with last := s.elapsed }
    match colour with
    | .green => (s.bump (Key.polGreen t c), .green)
    | .yellow => (s.bump (Key.polYellow t c), .yellow)
    | .red => (s.bump (Key.polRed t c), .red)

/-! ### Shapers (R358 to R362) -/

/-- Shaper of tenant t for output queue (h, c) (R358). -/
def shaperOf (h c : Nat) : Nat := 2 * (h - 4) + c / 4

/-- Shaper x of tenant t. -/
def State.shaper (s : State) (t x : Nat) : Shaper :=
  KMap.getD s.curb.shapers { next := 0, rate := 0, sojourn := none } (16 * t + x)

/-- Replace a shaper. -/
def State.setShaper (s : State) (t x : Nat) (v : Shaper) : State :=
  let z : Shaper := { next := 0, rate := 0, sojourn := none }
  { s with curb := { s.curb with shapers := KMap.setD s.curb.shapers z (16 * t + x) v } }

/-- Device time in 1/256 µs. -/
def State.us256 (s : State) : Nat := s.elapsed * 1024 / 1000

/-- Burst allowance τ_b in 1/256 µs (R359). -/
def State.burstAllow (s : State) (t x : Nat) : Nat :=
  s.rd (Key.shpBurst t x) * 8000 * 256 / s.rd (Key.shpRateKbps t x)

/-- The shaper as the next eligibility test finds it: a rate that came from 0 sets N to now (R362). -/
def State.shaperNow (s : State) (t x : Nat) : State :=
  let rate := s.rd (Key.shpRateKbps t x)
  let v := s.shaper t x
  if v.rate = rate then s
  else s.setShaper t x { v with rate := rate, next := if v.rate = 0 then s.us256 else v.next }

/-- Eligible time N − τ_b of the shaper, in 1/256 µs; 0 while unshaped. -/
def State.eligibleAt (s : State) (t x : Nat) : Nat :=
  if s.rd (Key.shpRateKbps t x) = 0 then 0 else (s.shaper t x).next - s.burstAllow t x

/-- Advance the shaper by a departed copy of b bytes and note its sojourn (R359, R363). -/
def State.shaperDepart (s : State) (t x b since : Nat) : State :=
  let rate := s.rd (Key.shpRateKbps t x)
  let v := s.shaper t x
  let next := if rate = 0 then v.next else max v.next s.us256 + b * 8000 * 256 / rate
  s.setShaper t x { v with next := next, sojourn := some ((s.elapsed - since) * 4 / 1000) }

/-- Enter an ineligible queue on the calendar (R361). -/
def State.calendarEnter (s : State) (q at256 : Nat) : State :=
  let now := s.us256 / 256
  let slot := min ((at256 + 255) / 256) (now + 16383)
  if s.curb.calendar.any (fun p => p.1 == q) then s
  else { s with curb := { s.curb with calendar := s.curb.calendar ++ [(q, slot)] } }

/-- The queue stands on the calendar. -/
def State.onCalendar (s : State) (q : Nat) : Bool := s.curb.calendar.any (fun p => p.1 == q)

/-- A calendar slot fires: the queues of slots reached leave the wheel, and a queue whose head is still
not eligible is entered again (R361). -/
def execShaperCalendarFire (dt : Nat) (s : State) : Step :=
  let s := s.advance dt
  let now := s.us256 / 256
  let due := s.curb.calendar.filter (fun p => decide (p.2 ≤ now))
  let s := { s with curb := { s.curb with calendar := s.curb.calendar.filter (fun p => decide (now < p.2)) } }
  .next (s.each due (fun s p =>
    let h := p.1 / 8
    let c := p.1 % 8
    match (s.outQ h c).frames with
    | f :: _ =>
      let at256 := s.eligibleAt f.tenant (shaperOf h c)
      if s.us256 < at256 then s.calendarEnter p.1 at256 else s
    | [] => s))

/-- Cells of tenant t in the queues of shaper x, on die and spilled (R363). -/
def State.shaperCells (s : State) (t x : Nat) : Nat :=
  (s.har.queues.map (fun p =>
    if 32 ≤ p.1 ∧ shaperOf (p.1 / 8) (p.1 % 8) = x then
      cellSum ((p.2.frames ++ p.2.buffer ++ p.2.ring).filter (fun f => f.tenant == t))
    else 0)).sum

/-- Device time in whole microseconds. -/
def State.nowUs (s : State) : Nat := s.elapsed / 250

/-- The last instant of tenant t's samples, at the multiples of 2^k µs of device time (R364). -/
def State.sampleInstant (s : State) (t : Nat) : Nat := s.nowUs / 2 ^ s.rd (Key.curbSampleExp t) * 2 ^ s.rd (Key.curbSampleExp t)

/-- A sample of tenant t is due: an instant has come since the last one. -/
def State.sampleDue (s : State) (t : Nat) : Bool :=
  s.flag (Key.curbSample t) && match KMap.find s.curb.sampled t with
    | some u => decide (u < s.sampleInstant t)
    | none => true

/-- Items of tenant t that were not written before the next instant. -/
def State.samplesMissed (s : State) (t : Nat) : Nat :=
  match KMap.find s.curb.sampled t with
  | some u => (s.sampleInstant t - u) / 2 ^ s.rd (Key.curbSampleExp t) - (if u % 2 ^ s.rd (Key.curbSampleExp t) = 0 then 1 else 0)
  | none => 0

/-- Chain time n cycles ago, at the nominal rate (log 140). -/
def State.timeBack (s : State) (n : Nat) : Time80 :=
  let t := s.nowNs - 4 * n
  { sec := t / 1000000000, ns := t % 1000000000 }

/-- The item of tenant t for its present instant (Table 13-3). -/
def State.sampleItem (s : State) (t : Nat) : Bytes :=
  let one (x : Nat) : Bytes :=
    leBytes 4 (min u32Max (s.shaperCells t x)) ++ leBytes 4 (match (s.shaper t x).sojourn with
      | some d => min u32Max d
      | none => u32Max)
  leBytes 1 t ++ leBytes 1 (s.rd (Key.curbSampleExp t)) ++ leBytes 10 (timeRaw (s.timeBack (s.elapsed - 250 * s.sampleInstant t)))
    ++ zeros 4 ++ (List.range 16).flatMap one

/-- `CURB_SAMPLE`: tenant t's item of its instant is written, at most one item per microsecond and the tenants of one instant in
increasing order; items that were not written in time count as refused (R364). -/
def execCurbSample (tenant : Fin 256) (dt : Nat) (s : State) : Step :=
  let s := s.advance dt
  let t : Nat := tenant
  .next (if !s.sampleDue t || decide (s.elapsed < s.curb.sampledAt + us 1 ∧ !s.curb.sampled.isEmpty)
      || (List.range t).any (fun u => s.sampleDue u && decide (s.sampleInstant u ≤ s.sampleInstant t)) then s
    else
      let s := s.each (List.replicate (s.samplesMissed t) 3) (fun s w => s.strapDrop 3 w)
      let s := s.strapPush 3 3 (s.sampleItem t)
      let s := { s with curb := { s.curb with sampled := KMap.put s.curb.sampled t (s.sampleInstant t), sampledAt := s.elapsed } }
      s.each (List.range 16) (fun s x =>
        let v := s.shaper t x
        if v.sojourn.isSome then s.setShaper t x { v with sojourn := none } else s))

end Sys2Proof.Machine
end

