-- ==== Sys2Proof/Machine/Wheel.lean ====
section
/-! DEFINITION. The timing wheel's entries: levels and buckets, the pool and its shares, the far list, and what takes an entry out
(R249 to R252). -/

namespace Sys2Proof.Machine

/-- Replace the scheduler's state. -/
def State.setSched (s : State) (c : Sched) : State := { s with girth := { s.girth with sched := c } }

/-! ### What an entry is for -/

/-- Record of a node entry. -/
def nodeOf (d : Due) : Option Nat :=
  match d with
  | .uplink r _ | .downlink r _ | .moved r _ | .handover r _ => some r
  | .beacon _ _ | .shared _ _ | .burst _ _ | .window _ _ | .flush _ => none

/-- ASN of an entry; 0 for a flush. -/
def Due.asn (d : Due) : Nat :=
  match d with
  | .uplink _ a | .downlink _ a | .moved _ a | .handover _ a | .beacon _ a | .shared _ a | .burst _ a | .window _ a => a
  | .flush _ => 0

/-- An uplink cell of record r. -/
def Due.ulOf (r : Nat) (d : Due) : Bool :=
  match d with
  | .uplink q _ => q == r
  | _ => false

/-- A downlink cell of record r: its own, or a moved delivery's. -/
def Due.dlOf (r : Nat) (d : Due) : Bool :=
  match d with
  | .downlink q _ | .moved q _ => q == r
  | _ => false

/-- A moved delivery of record r. -/
def Due.movedOf (r : Nat) (d : Due) : Bool :=
  match d with
  | .moved q _ => q == r
  | _ => false

/-- The handover instant of record r. -/
def Due.handoverOf (r : Nat) (d : Due) : Bool :=
  match d with
  | .handover q _ => q == r
  | _ => false

/-- A beacon slot of slotframe f. -/
def Due.beaconOf (f : Nat) (d : Due) : Bool :=
  match d with
  | .beacon g _ => g == f
  | _ => false

/-- A shared slot of slotframe f. -/
def Due.sharedOf (f : Nat) (d : Due) : Bool :=
  match d with
  | .shared g _ => g == f
  | _ => false

/-- A burst of campaign k. -/
def Due.burstOf (k : Nat) (d : Due) : Bool :=
  match d with
  | .burst j _ => j == k
  | _ => false

/-- An entry whose slot has no more use once it is past. -/
def Due.slotted (d : Due) : Bool :=
  match d with
  | .beacon _ _ | .shared _ _ | .window _ _ => true
  | _ => false

/-! ### Levels and buckets (R249) -/

/-- Present millisecond of chain time. -/
def State.nowMs (s : State) : Nat := s.nowNs / 1000000

/-- Width of a bucket of a level, ms. -/
def levelWidth (level : Nat) : Nat := 256 ^ level

/-- End of a level's span of 256 buckets at a millisecond. -/
def levelEnd (level now : Nat) : Nat := (now / levelWidth level + 256) * levelWidth level

/-- The lowest level whose span covers a due time. -/
def levelFor (now due : Nat) : Nat := if due < levelEnd 0 now then 0 else if due < levelEnd 1 now then 1 else 2

/-- Bucket of a level in which an entry lies. -/
def WheelEntry.bucket (e : WheelEntry) : Nat := e.ms / levelWidth e.level % 256

/-- An entry whose bucket of a higher level has opened moves down one level. -/
def WheelEntry.down (e : WheelEntry) (level now : Nat) : WheelEntry :=
  if e.level = level ∧ e.ms / levelWidth level ≤ now / levelWidth level then { e with level := level - 1 } else e

/-- Opened buckets of level 2, then of level 1, are redistributed. -/
def WheelEntry.settle (e : WheelEntry) (now : Nat) : WheelEntry := (e.down 2 now).down 1 now

/-- First millisecond beyond the level-2 span. -/
def State.wheelEnd (s : State) : Nat := levelEnd 2 s.nowMs

/-- Number of the furthest level-2 bucket. -/
def State.lastBucket (s : State) : Nat := s.nowMs / 65536 + 255

/-! ### Entering (R250, R252) -/

/-- Entries that are no node's, in the pool. -/
def Sched.others (c : Sched) : Nat := (c.wheel.filter (fun e => (nodeOf e.due).isNone)).length

/-- Enter what falls due at a millisecond (R250, R252). An entry of no node that finds its share full is not entered; its requester
asks again at the next tick. A node entry beyond the span goes to the far list, or is parked while the link is not up. -/
def State.wheelEnter (s : State) (ms : Nat) (d : Due) : State :=
  let c := s.girth.sched
  let e : WheelEntry := { ms := ms, due := d, level := levelFor s.nowMs ms }
  match nodeOf d with
  | some _ =>
    if ms < s.wheelEnd then s.setSched { c with wheel := c.wheel ++ [e] }
    else
      let s := s.bump Key.schedWheelSpill
      if s.rd Key.sbLinkState = 2 then s.setSched { c with writing := c.writing ++ [e] }
      else s.setSched { c with parked := c.parked ++ [(s.lastBucket, e)] }
  | none => if c.others < 65280 then s.setSched { c with wheel := c.wheel ++ [e] } else s

/-- An entry, on the wheel or fired and not yet served, is for d. -/
def State.entered (s : State) (d : Due) : Bool :=
  s.girth.sched.wheel.any (fun e => e.due == d) || s.girth.sched.fired.any (fun e => e.due == d)

/-- Enter d at a millisecond, unless an entry for it stands. -/
def State.enterOnce (s : State) (ms : Nat) (d : Due) : State := if s.entered d then s else s.wheelEnter ms d

/-- Remove the entries that p names from every list. -/
def State.wheelDrop (s : State) (p : Due → Bool) : State :=
  let c := s.girth.sched
  let keep (l : List WheelEntry) : List WheelEntry := l.filter (fun e => !p e.due)
  s.setSched { c with wheel := keep c.wheel, fired := keep c.fired, far := keep c.far, writing := keep c.writing,
                      parked := c.parked.filter (fun e => !p e.2.due) }

/-- The oldest fired entry that p names, taken out of the list. -/
def State.takeFired (s : State) (p : Due → Bool) : State × Option Due :=
  let c := s.girth.sched
  match c.fired.find? (fun e => p e.due) with
  | some e => (s.setSched { c with fired := c.fired.filter (fun d => d != e) }, some e.due)
  | none => (s, none)

/-- A rebuild is due for a cause (R253). -/
def State.askRebuild (s : State) (cause : Nat) : State :=
  let c := s.girth.sched
  if c.rebuild.contains cause then s else s.setSched { c with rebuild := c.rebuild ++ [cause] }

end Sys2Proof.Machine
end

