-- ==== Sys2Proof/Machine/Strap.lean ====
section
/-! DEFINITION. The Saddlebag: link states, layout, strap queues, node downlink rings, the journal and remote
access (Saddlebag Memory and Strap Queues). -/

namespace Sys2Proof.Machine

/-- `SB_LINK_STATE`. -/
abbrev State.sbLink (s : State) : Nat := s.rd Key.sbLinkState

/-- The Saddlebag link is up. -/
abbrev State.sbUp (s : State) : Bool := s.sbLink == 2

/-- The link enters a state (Table 11-1). -/
def State.setSbLink (s : State) (x : Nat) : State :=
  let s := s.wrEdge Key.sbLinkState x 25
  { s with sb := { s.sb with since := s.elapsed } }

/-! ### Layout (R301 to R305) -/

/-- 1 MiB and 1 GiB. -/
def mib : Nat := 1048576
def gib : Nat := 1073741824

/-- The regions that `SB_LAYOUT` bytes list. -/
def layoutRegions (d : Bytes) : List Region :=
  (List.range (fieldLe d 2 2)).map (fun i =>
    let o := 64 + 32 * i
    { kind := fieldLe d o 1, index := fieldLe d (o + 1) 1, base := fieldLe d (o + 8) 8, size := fieldLe d (o + 16) 8 })

/-- Entry counts of Table 11-2. -/
def layoutCounts (rs : List Region) : Bool :=
  let count (p : Region → Bool) : Nat := (rs.filter p).length
  rs.all (fun r => decide (1 ≤ r.kind ∧ r.kind ≤ 6)
      && (if r.kind = 5 then decide (1 ≤ r.index ∧ r.index ≤ 63) else r.index == 0))
    && [1, 2, 3, 4].all (fun k => count (fun r => r.kind == k) == 1)
    && (List.range 64).all (fun q => decide (count (fun r => r.kind == 5 && r.index == q) ≤ 1))

/-- No two regions overlap. -/
def regionsDisjoint : List Region → Bool
  | [] => true
  | r :: rs => rs.all (fun q => decide (r.base + r.size ≤ q.base ∨ q.base + q.size ≤ r.base ∨ r.size = 0 ∨ q.size = 0)) && regionsDisjoint rs

/-- Content check of `SB_LAYOUT` against an attached size (R114, R302). -/
def layoutOk (d : Bytes) (attached : Nat) : Bool :=
  let rs := layoutRegions d
  let big (k n : Nat) : Bool := rs.all (fun r => r.kind != k || decide (n ≤ r.size))
  d.length == 4096 && fieldLe d 0 2 == 1 && decide (fieldLe d 2 2 ≤ 125) && Crypto.crc32c (d.take 4092) == fieldLe d 4092 4
    && layoutCounts rs && rs.all (fun r => r.base % mib == 0 && r.size % mib == 0 && decide (r.base + r.size ≤ attached))
    && regionsDisjoint rs && big 1 (64 * mib) && big 2 (16 * mib) && big 3 (64 * mib)

/-- The built-in layout for A attached bytes (R303). -/
def builtInLayout (a : Nat) : List Region :=
  let d := (a - 89 * gib) / (8 * gib) * (4 * gib)
  [{ kind := 1, index := 0, base := 0, size := gib }, { kind := 2, index := 0, base := gib, size := gib }]
    ++ (List.range 63).map (fun i => { kind := 5, index := i + 1, base := (i + 2) * gib, size := gib })
    ++ [{ kind := 4, index := 0, base := 65 * gib, size := 24 * gib },
        { kind := 3, index := 0, base := 89 * gib, size := d },
        { kind := 6, index := 0, base := 89 * gib + d, size := a - 89 * gib - d }]

/-- Region of a kind and index in force. -/
def State.region (s : State) (kind index : Nat) : Option Region :=
  match s.sb.layout with
  | some l => l.find? (fun r => r.kind == kind && r.index == index)
  | none => none

/-! ### Welts and queue losses -/

/-- Post with the source of queue q. -/
def State.sqPost (s : State) (c : Err) (q arg : Nat) (arg2 : Nat := 0) : State := s.post c (0x4110 + q) arg arg2

/-- The middle of queue q is discarded; a welt with the count stands before the tail items (R320). -/
def State.loseMiddle (s : State) (q : Nat) : State :=
  let x := s.strap q
  let split : List StrapItem := if x.part = 0 then [] else x.tail.take 1
  let gone := x.mid ++ split
  let n := (gone.filter (fun i => i.kind != 1)).length
  if gone.isEmpty then s
  else
    let w : Welt := { items := n, words := itemWords gone, first := s.time80, last := s.time80, lastAt := s.elapsed }
    let seq := match gone with
      | i :: _ => i.seq
      | [] => 0
    let x := { x with mid := [], part := 0, tail := w.item seq s.elapsed :: x.tail.drop split.length }
    (((s.setStrap q x).bump (Key.sqLost q) n).bump (Key.sqWelts q)).setStrap q (passToHead 65 x)

/-- A forced reset of queue q of 1 to 63 (R319). -/
def State.resetStrap (s : State) (q : Nat) : State :=
  let x := s.strap q
  let held := x.head ++ x.mid ++ x.tail
  let n := (held.filter (fun i => i.kind != 1)).length
  let w : Welt := { items := n, words := itemWords held, first := s.time80, last := s.time80, lastAt := s.elapsed }
  let y : StrapQ := { StrapQ.empty with welt := some (x.nextSeq, w), nextSeq := (x.nextSeq + 1) % 4294967296 }
  ((((s.setStrap q y).bump (Key.sqLost q) n).bump (Key.sqResets q)).bump (Key.sqWelts q)).sqPost .sqReset q n

/-! ### Node downlink rings (R314 to R316) -/

/-- Queue of node record r. -/
def State.nodeQ (s : State) (r : Nat) : NodeQ := KMap.getD s.sb.nodes { frames := [], welt := none } r

/-- Replace the queue of node record r. -/
def State.setNodeQ (s : State) (r : Nat) (x : NodeQ) : State :=
  { s with sb := { s.sb with nodes := KMap.setD s.sb.nodes { frames := [], welt := none } r x } }

/-- Frames in the head cache, in its reserved entries or in the others. -/
def State.cachedHeads (s : State) (reserved : Bool) : Nat :=
  (s.sb.nodes.map (fun p => (p.2.frames.filter (fun f => f.cached && f.reserved == reserved)).length)).sum

/-- An unreserved head-cache entry is free (R315). -/
def State.cacheFree (s : State) : Bool := decide (s.cachedHeads false < 4032)

/-- A head-cache entry reserved for planning reads is free (R315). -/
def State.planFree (s : State) : Bool := decide (s.cachedHeads true < 64)

/-- Slots of a node's share; while the link is not up only a cached head is held (R320). -/
def State.nodeSlots (s : State) : Nat :=
  if s.sbUp then
    match s.region 3 0 with
    | some r => r.size / 16384 / 256
    | none => 1
  else 1

/-- A frame for node r is dropped for its limit (R316). -/
def State.nodeDrop (s : State) (r : Nat) (f : NodeFrame) : State :=
  let q := s.nodeQ r
  let s := (s.bump (Key.sqLost 0)).bump Key.dlUndelivered
  let w : Welt := match q.welt with
    | some w => { w with items := w.items + 1, words := w.words + 4, last := s.time80, lastAt := s.elapsed }
    | none => { items := 1, words := 4, first := s.time80, last := s.time80, lastAt := s.elapsed }
  (s.setNodeQ r { q with welt := some w }).reportFinal (if f.report then f.handle else none) 0 2

/-- The open welt count of node r closes (R316). -/
def State.closeNodeWelt (s : State) (r : Nat) : State :=
  let q := s.nodeQ r
  match q.welt with
  | none => s
  | some w => ((s.setNodeQ r { q with welt := none }).bump (Key.sqWelts 0)).sqPost .dlQueueFull 0 (shortOf r) w.items

/-- A downlink frame enters node r's queue (R314 to R316). -/
def State.nodePush (s : State) (r : Nat) (f : NodeFrame) : State :=
  let q := s.nodeQ r
  let n := q.frames.length
  let inCache := n == 0 && s.cacheFree
  let ringOk := s.sbUp && (s.region 3 0).isSome
  if decide (min (s.rd (Key.sqLimit 0)) s.nodeSlots ≤ n) || !(inCache || ringOk) then s.nodeDrop r f
  else
    let s := s.closeNodeWelt r
    let q := s.nodeQ r
    s.setNodeQ r { q with frames := q.frames ++ [{ f with cached := inCache }] }

/-- The head of node r's queue leaves it; the next frame becomes the head. Its read into the cache is a DOWNLINK_HEAD_READ (R315). -/
def State.nodePop (s : State) (r : Nat) : State :=
  let q := s.nodeQ r
  s.setNodeQ r { q with frames := q.frames.drop 1 }

/-- Change the head of node r's queue. -/
def State.modHead (s : State) (r : Nat) (f : NodeFrame → NodeFrame) : State :=
  let q := s.nodeQ r
  s.setNodeQ r { q with frames := modifyAt f 0 q.frames }

/-- A forced reset of node r's queue (R319). -/
def State.resetNodeQ (s : State) (r : Nat) : State :=
  let q := s.nodeQ r
  let n := q.frames.length
  let s := s.each q.frames (fun s f => s.reportFinal (if f.report then f.handle else none) 0 2)
  let w : Welt := { items := n, words := 4 * n, first := s.time80, last := s.time80, lastAt := s.elapsed }
  let s := s.setNodeQ r { frames := [], welt := some w }
  ((((s.bump (Key.sqLost 0) n).bump Key.dlUndelivered n).bump (Key.sqResets 0))).sqPost .sqReset 0 n (shortOf r)

/-- Every node ring is emptied; heads cached on die stay if asked (R305, R320). -/
def State.loseRings (s : State) (keepHeads : Bool) : State :=
  let lost (q : NodeQ) : List NodeFrame := q.frames.filter (fun f => !(keepHeads && f.cached))
  let frames := (s.sb.nodes.map (fun p => (lost p.2).length)).sum
  let nodes := (s.sb.nodes.filter (fun p => !(lost p.2).isEmpty)).length
  if frames = 0 then s
  else
    let s := s.each (s.sb.nodes.flatMap (fun p => lost p.2)) (fun s f => s.reportFinal (if f.report then f.handle else none) 0 2)
    let s := s.each (s.sb.nodes.map (·.1)) (fun s r =>
      let q := s.nodeQ r
      s.setNodeQ r { q with frames := q.frames.filter (fun f => keepHeads && f.cached) })
    ((s.bump (Key.sqLost 0) frames).bump Key.dlUndelivered frames).sqPost .sbQueuesLost 0 frames nodes

/-! ### Spill rings -/

/-- The spill of queue (h, c) is unreadable: it returns to ON_DIE and its spilled frames are discarded
(Table 10-6, R290, R291). -/
def State.spillLost (s : State) (h c : Nat) : State :=
  let q := s.outQ h c
  if !q.spilled then s
  else
    let gone := q.buffer ++ q.ring
    let s := s.each gone (fun s f => s.reportFinal (if f.report then f.handle else none) 0 2)
    let s := s.setOutQ h c { q with spilled := false, buffer := [], ring := [] }
    (s.bump (Key.qDrops (8 * h + c)) gone.length).post .spillLost (0x4020 + 8 * h + c) (cellSum gone)

/-- Every spilled queue is treated as unreadable. -/
def State.loseSpills (s : State) : State :=
  s.each (s.har.queues.map (·.1)) (fun s k => s.spillLost (k / 8) (k % 8))

/-! ### Far list -/

/-- The far list cannot be read: the entries are lost until the scheduler rebuilds (R252). -/
def State.loseFar (s : State) : State :=
  { s with girth := { s.girth with sched := { s.girth.sched with far := [] } } }

/-! ### Taking a layout (R305) -/

/-- The regions of a kind and index in a layout. -/
def regionIn (l : Option (List Region)) (kind index : Nat) : Option Region :=
  match l with
  | some rs => rs.find? (fun r => r.kind == kind && r.index == index)
  | none => none

/-- The `JOURNAL` region is emptied: no record is kept, and numbering continues (R305). -/
def State.emptyJournal (s : State) : State :=
  { s with sb := { s.sb with journal := { s.sb.journal with oldest := s.sb.journal.nextSeq } } }

/-- A layout takes effect; regions whose place changes are emptied (R305). rebuild tells that `FAR` changed. -/
def State.takeLayout (s : State) (l : Option (List Region)) : State × Bool :=
  let old := s.sb.layout
  let changed (k i : Nat) : Bool := regionIn old k i != regionIn l k i
  let s := s.each ((List.range 64).filter (fun q => 1 ≤ q && changed 5 q)) (fun s q => s.loseMiddle q)
  let s := if changed 4 0 then s.loseSpills else s
  let s := if changed 3 0 then s.loseRings (keepHeads := true) else s
  let s := if changed 2 0 then s.loseFar else s
  let s := if changed 1 0 && old.isSome then s.emptyJournal else s
  ({ s with sb := { s.sb with layout := l } }, changed 2 0 && old.isSome)

/-- The layout at an entry into up (R302, R303). -/
def State.layoutAtUp (s : State) : State × Bool :=
  let a := s.rd Key.sbAttached
  let d := s.dom Key.sbLayout
  let builtIn (s : State) : State × Bool :=
    if a < 128 * gib then let r := s.takeLayout none; (r.1.post .sbTooSmall 0x4100 a, r.2)
    else s.takeLayout (some (builtInLayout a))
  if d.isEmpty then builtIn s
  else if layoutOk d a then s.takeLayout (some (layoutRegions d))
  else builtIn (s.post .sbLayoutBad 0x4100 a)

/-! ### Saddlebag memory and stored words (R309) -/

/-- Bytes of a Saddlebag range. -/
def State.sbBytes (s : State) (off n : Nat) : Bytes := (List.range n).map (fun i => KMap.getD s.sb.mem 0#8 (off + i))

/-- Write bytes at a Saddlebag offset. -/
def State.sbStore (s : State) (off : Nat) (bs : Bytes) : State :=
  { s with sb := { s.sb with mem := ((List.range bs.length).zip bs).foldl (fun m p => KMap.setD m 0#8 (off + p.1) p.2) s.sb.mem } }

/-- One when a number has an odd number of bits set. -/
def oddBits (n v : Nat) : Nat := ((List.range n).map (fun i => v / 2 ^ i % 2)).sum % 2

/-- PARITY of a stored word: bit i makes the parity of data bytes 4i to 4i + 3 even (Table 11-5). -/
def laneParity (data : Bytes) : Nat := ((List.range 15).map (fun i => oddBits 32 (fieldLe data (4 * i) 4) * 2 ^ i)).sum

/-- A stored word with up to 60 data bytes (Table 11-5). -/
def sbWord (data : Bytes) : Bytes :=
  let d := slice data 0 60
  leBytes 4 (laneParity d) ++ d

/-- The stored word's lanes pass their parity. -/
def sbWordOk (w : Bytes) : Bool := fieldLe w 0 4 % 32768 == laneParity (w.drop 4)

/-! ### Journal (R321, R322) -/

/-- Base of the `JOURNAL` region, and the records that its ring holds. -/
def State.journalBase (s : State) : Nat :=
  match s.region 1 0 with
  | some r => r.base
  | none => 0

def State.journalRoom (s : State) : Nat :=
  match s.region 1 0 with
  | some r => r.size / 64 - 1
  | none => 0

/-- Offset of the record with sequence n: the ring follows the 64-byte header (R321). -/
def State.journalSlot (s : State) (n : Nat) : Nat := s.journalBase + 64 + 64 * ((n - 1) % s.journalRoom)

/-- Kind and entry of a record. -/
def JournalRec.kind : JournalRec → Nat
  | .err _ => 1
  | .clamp _ => 2

def JournalRec.entry : JournalRec → Bytes
  | .err e => errBytes e
  | .clamp e => clampBytes e

/-- The word of a record: an item header of KIND 2 and one word, the sequence, the kind and the entry (R321, R577, Table 11-6). -/
def JournalRec.word (r : JournalRec) (n : Nat) : Bytes :=
  sbWord (leBytes 8 (2 * 2 ^ 60 + 2 ^ 48 + n % 2 ^ 32) ++ leBytes 8 n ++ leBytes 2 r.kind ++ zeros 6 ++ r.entry)

/-- The ring holds a valid record of sequence n. -/
def State.journalHas (s : State) (n : Nat) : Bool :=
  let w := s.sbBytes (s.journalSlot n) 64
  sbWordOk w && fieldLe w 4 8 / 2 ^ 60 == 2 && fieldLe w 12 8 == n

/-- Last record that is valid in order from sequence n on; the ring may have been overwritten since the header was. -/
def State.journalLast (s : State) : Nat → Nat → Nat
  | 0, n => n - 1
  | fuel + 1, n =>
    if s.journalHas n then s.journalLast fuel (n + 1)
    else if s.journalHas (n + s.journalRoom) then s.journalLast fuel (n + s.journalRoom + 1)
    else n - 1

/-- Bytes of a journal header: EUI-64, oldest sequence kept, CRC-32C (R321); the places of the fields are the model's (log 136). -/
def journalHeadBytes (eui oldest : Nat) : Bytes :=
  let b := leBytes 8 eui ++ leBytes 8 oldest ++ zeros 44
  b ++ leBytes 4 (Crypto.crc32c b)

/-- The journal header is written. -/
def State.journalHeader (s : State) : State :=
  let s := { s with sb := { s.sb with journal := { s.sb.journal with headerAt := s.elapsed } } }
  s.sbStore s.journalBase (journalHeadBytes s.ident.eui64 s.sb.journal.oldest)

/-- The journal runs, its next record after sequence last; the records that waited are written. -/
def State.journalRun (s : State) (oldest last : Nat) : State :=
  let j := s.sb.journal
  let n := j.held.length
  let numbered := (List.range n).zip j.held |>.map (fun p => (last + 1 + p.1, p.2))
  let s := { s with sb := { s.sb with journal := { j with oldest := oldest, running := true, nextSeq := last + 1 + n,
                                                          flight := j.flight ++ numbered, held := [] } } }
  s.wr Key.sbJournalSeq last

/-- The journal header is read at the first entry into up after a cold start: the journal continues, or starts anew (R322). -/
def State.journalResume (s : State) : State :=
  if s.sb.journal.running then s
  else
    let h := s.sbBytes s.journalBase 64
    let oldest := fieldLe h 8 8
    if h = journalHeadBytes s.ident.eui64 oldest ∧ 1 ≤ oldest then
      let last := s.journalLast (2 * s.journalRoom) oldest
      s.journalRun (max oldest (last + 1 - s.journalRoom)) last
    else (s.journalRun 1 0).journalHeader.post .sbJournalNew 0x4100

/-- A record's write completes; the oldest record is overwritten when the ring is full, and `SB_JOURNAL_SEQ` follows (R321). -/
def State.journalCommit (s : State) (n : Nat) : State :=
  let j := s.sb.journal
  match j.flight.find? (fun p => p.1 == n) with
  | none => s
  | some (_, r) =>
    let flight := j.flight.filter (fun p => p.1 != n)
    let s := if s.journalRoom = 0 then s else s.sbStore (s.journalSlot n) (r.word n)
    let s := { s with sb := { s.sb with journal := { j with flight := flight, oldest := max j.oldest (n + 1 - s.journalRoom) } } }
    let top := match minNat? (flight.map (·.1)) with
      | some f => f - 1
      | none => j.nextSeq - 1
    s.wr Key.sbJournalSeq (max (s.rd Key.sbJournalSeq) top)

/-- `JOURNAL_RECORD_COMMIT`: nothing unless the record is in flight and the link is up. -/
def execJournalRecordCommit (seq : Nat) (s : State) : Step := .next (if s.sbUp then s.journalCommit seq else s)

/-- `JOURNAL_HEADER_REWRITE`: 1 s has passed since the header was written (R321). -/
def execJournalHeaderRewrite (dt : Nat) (s : State) : Step :=
  let s := s.advance dt
  .next (if s.sbUp ∧ s.sb.journal.running = true ∧ s.sb.journal.headerAt + ms 1000 ≤ s.elapsed then s.journalHeader else s)

/-- The records in flight are lost; `SB_JOURNAL_SEQ` stands, and numbering continues from it (R320, log 136). -/
def State.journalCut (s : State) : State :=
  let j := s.sb.journal
  { s with sb := { s.sb with journal :=
      { j with flight := [], nextSeq := if j.running then s.rd Key.sbJournalSeq + 1 else j.nextSeq } } }

/-! ### Accesses and remote requests (R300, R306) -/

/-- The range touches a region of kind 1 to 5. -/
def State.sbReserved (s : State) (off n : Nat) : Bool :=
  match s.sb.layout with
  | some l => l.any (fun r => decide (r.kind ≤ 5) && decide (off < r.base + r.size ∧ r.base < off + n))
  | none => false

/-- Offset of a chain Saddlebag address. -/
def sbOffset (addr : Nat) : Nat := addr % 2 ^ 46

/-- Device of a chain Saddlebag address. -/
def sbDevice (addr : Nat) : Nat := addr / 2 ^ 46 % 64

/-- The byte at an offset lies in a region of kind 2 to 5, whose words the model does not keep as bytes. -/
def State.sbOpen (s : State) (off : Nat) : Bool :=
  match s.sb.layout with
  | some l => l.any (fun r => decide (2 ≤ r.kind ∧ r.kind ≤ 5 ∧ r.base ≤ off ∧ off < r.base + r.size))
  | none => false

/-- Bytes that a read of a range gives; those of queue and spill words are free values (log 35). -/
def State.sbRead (s : State) (off n : Nat) : Bytes :=
  let x := (s.draw (8 * n)).toNat
  (List.range n).map (fun i => if s.sbOpen (off + i) then BitVec.ofNat 8 (x / 256 ^ i) else KMap.getD s.sb.mem 0#8 (off + i))

/-- The outcome of a local request: code and bytes read. -/
def State.sbServe (s : State) (r : SbReq) : State × SbCode × Bytes :=
  let off := sbOffset r.addr
  if s.rd Key.sbAttached < off + r.len then (s, .unmapped, [])
  else match r.write with
    | some bs => if s.sbReserved off r.len then (s, .unmapped, []) else (s.sbStore off (slice bs 0 r.len), .ok, [])
    | none =>
      if (List.range r.len).any (fun i => s.sbOpen (off + i)) then (s.drawn, .ok, s.sbRead off r.len)
      else (s, .ok, s.sbBytes off r.len)

/-- Answer a remote request on the chain. -/
def State.sbAnswer (s : State) (dst tag : Nat) (c : SbCode) (bs : Bytes) : State :=
  s.sendChain dst 0 0 bs.length tag (.sbRsp c bs)

/-- Requests wait for room among the outstanding (R300). -/
def State.sbAdmit (s : State) : State :=
  if !s.sbUp then s
  else
    let room := 256 - s.sb.outstanding.length
    { s with sb := { s.sb with outstanding := s.sb.outstanding ++ s.sb.waiting.take room, waiting := s.sb.waiting.drop room } }

/-- A user asks for an access: outstanding while the link is up and there is room, else waiting (R299,
R300). -/
def State.sbAsk (s : State) (u : SbUser) : State :=
  ({ s with sb := { s.sb with waiting := s.sb.waiting ++ [u] } }).sbAdmit

/-- Serve or refuse an SB_REQ from a device (R306, Table 4-15). A device without an address takes none (R35). With the CXL link
DOWN or training the answer is SB_UNMAPPED (DESIGN CHOICE, log 110). -/
def State.sbRequest (s : State) (p : Side) (src tag : Nat) (r : SbReq) : State :=
  if s.addr = 0xFF then s
  else if !s.flag Key.sbRemoteServe then s.sbAnswer src tag .unmapped []
  else if s.sbLink = 2 ∨ s.sbLink = 3 then
    let off := sbOffset r.addr
    if s.rd Key.sbAttached < off + r.len || (r.write.isSome && s.sbReserved off r.len) then s.sbAnswer src tag .unmapped []
    else s.sbAsk (.remote p src tag r)
  else s.sbAnswer src tag .unmapped []

/-- `SB_REQ_RX` (R306). -/
def execSbReqRx (p : Side) (src tag : Nat) (r : SbReq) (s : State) : Step := .next (s.sbRequest p src tag r)

/-- The request of a user. -/
def SbUser.req : SbUser → SbReq
  | .remote _ _ _ r => r
  | .own r => r

/-- The answer to a user's access. -/
def State.sbReply (s : State) (u : SbUser) (c : SbCode) (bs : Bytes) : State :=
  match u with
  | .remote _ src tag _ => s.sbAnswer src tag c bs
  | .own _ => s.emit (.saddlebag 0 (some c) bs)

/-- An access of a user completes; bad: the expander reports its read uncorrectable (R54, R300). -/
def State.sbFinish (s : State) (u : SbUser) (bad : Bool) : State :=
  if bad then (s.bump Key.sbMediaErr).sbReply u .mediaError []
  else
    let r := s.sbServe u.req
    r.1.sbReply u r.2.1 r.2.2

/-- `SB_ACCESS_DONE`: outstanding access k ends (R300); nothing where there is none or the link is not up. A write reports no
media error. -/
def execSbAccessDone (k : Nat) (mediaErr : Bool) (s : State) : Step :=
  .next (match s.sb.outstanding[k]? with
    | none => s
    | some u =>
      if !s.sbUp then s
      else ({ s with sb := { s.sb with outstanding := removeAt k s.sb.outstanding } }.sbFinish u (mediaErr && u.req.write.isNone)).sbAdmit)

/-- The outstanding writes complete (R322). -/
def State.sbDrain (s : State) : State :=
  let w := s.sb.outstanding.filter (fun u => u.req.write.isSome)
  let s := { s with sb := { s.sb with outstanding := s.sb.outstanding.filter (fun u => u.req.write.isNone) } }
  s.each w (fun s u => s.sbFinish u false)

/-! ### Link states (Table 11-1) -/

/-- `CXL_TRAINING_START`: the cores have left reset, or 1 s has passed in down (Table 11-1). -/
def execCxlTrainingStart (dt : Nat) (s : State) : Step :=
  let s := s.advance dt
  let due : Bool := (s.sb.fresh && !s.cores.core.isEmpty) || decide (s.sb.since + ms 1000 ≤ s.elapsed)
  .next (if s.sbLink = 0 ∧ due = true then { s with sb := { s.sb with fresh := false } }.setSbLink 1 else s)

/-- Attached bytes of a list of expanders (R298). -/
def attachedBytes (expanders : List Nat) : Nat := (expanders.map (fun c => c / (256 * mib) * (256 * mib))).sum

/-- What the link can train to: one to four expanders, ×4, ×2 or ×1, at 32, 16 or 8 GT/s (R297). -/
def linkFits (expanders : List Nat) (lanes rate : Nat) : Bool :=
  decide (1 ≤ expanders.length ∧ expanders.length ≤ 4) && [1, 2, 4].contains lanes && [8, 16, 32].contains rate

/-- The link is trained and the expanders are enumerated: `SB_ATTACHED`, the layout, the journal (R297 to R299, R302, R322). -/
def State.sbTrained (s : State) (total lanes rate : Nat) : State :=
  let mapped := min total (2 ^ 46)
  let s := (s.setSbLink 2).wr Key.sbAttached mapped
  let s := if rate < 32 ∨ lanes < 4 then s.post .sbLinkDegraded 0x4101 lanes rate else s
  let s := if mapped < total then s.post .sbOversize 0x4100 total mapped else s
  let r := s.layoutAtUp
  let s := if r.1.sb.layout.isSome then r.1.journalResume else r.1
  let s := s.sbAdmit
  if r.2 then s.askRebuild 2 else s

/-- `CXL_TRAINED`: 50 ms to 500 ms after training began. -/
def execCxlTrained (expanders : List Nat) (lanes rate dt : Nat) (s : State) : Step :=
  let s := s.advance dt
  .next (if s.sbLink = 1 ∧ s.sb.since + ms 50 ≤ s.elapsed ∧ s.elapsed ≤ s.sb.since + ms 500 ∧ linkFits expanders lanes rate = true
    then s.sbTrained (attachedBytes expanders) lanes rate else s)

/-- `CXL_TRAIN_TIMEOUT`: 500 ms of training have passed. -/
def execCxlTrainTimeout (dt : Nat) (s : State) : Step :=
  let s := s.advance dt
  .next (if s.sbLink = 1 ∧ s.sb.since + ms 500 ≤ s.elapsed then s.setSbLink 0 else s)

/-- `CXL_RETRAIN_START`. -/
def execCxlRetrainStart (s : State) : Step :=
  .next (if s.sbUp then (s.setSbLink 3).bump Key.cxlRetrains else s)

/-- Requests of the Saddlebag engine that stand: accesses, journal records and spill writes. It holds at most 256 outstanding and
256 waiting; a requester beyond them waits itself (R300). -/
def State.sbRequests (s : State) : Nat :=
  s.sb.outstanding.length + s.sb.waiting.length + s.sb.journal.flight.length + (s.har.queues.map (fun p => p.2.buffer.length)).sum

/-- `CXL_RETRAIN_DONE`: within 50 ms the link is up again and outstanding requests are replayed. -/
def execCxlRetrainDone (dt : Nat) (s : State) : Step :=
  let s := s.advance dt
  .next (if s.sbLink = 3 ∧ s.elapsed ≤ s.sb.since + ms 50 then
      ((s.setSbLink 2).bump Key.cxlReplayed (min 256 s.sbRequests)).sbAdmit
    else s)

/-- The link fails: requests, middles, rings, spills, far list and uncommitted journal records are lost
(R291, R306, R320). -/
def State.sbLinkFail (s : State) : State :=
  let all := s.sb.outstanding ++ s.sb.waiting
  let n := min 512 s.sbRequests
  let s := { s with sb := { s.sb with outstanding := [], waiting := [] } }
  let s := s.each all (fun s u => s.sbReply u .retrainFail [])
  let s := ((s.setSbLink 0).bump Key.cxlFailed n).post .sbLinkDown 0x4101 n
  let s := s.each (List.range 64) (fun s q => if q = 0 then s else s.loseMiddle q)
  let s := (s.loseRings (keepHeads := true)).loseSpills
  let s := if s.girth.sched.far.isEmpty then s
    else (s.askRebuild 2).loseFar
  s.journalCut

/-- `CXL_RETRAIN_FAIL`: 50 ms of retraining have passed. -/
def execCxlRetrainFail (dt : Nat) (s : State) : Step :=
  let s := s.advance dt
  .next (if s.sbLink = 3 ∧ s.sb.since + ms 50 ≤ s.elapsed then s.sbLinkFail else s)

/-! ### Strap queue commands -/

/-- `STRAP_PUSH`: a producer offers an item (R309, R312, R313); queue 0 takes frames only. -/
def execStrapPush (q : Fin 64) (words : Nat) (data : Bytes) (s : State) : Step :=
  .next (if q.val = 0 then s else s.strapPush q words data)

/-- A grant of 64 KiB of flush at a time; while code 2 is in force every middle write waits, also one under an earlier grant (R268, R311). -/
def State.flushGrant (s : State) (bytes : Nat) : State × Bool :=
  if s.codeInForce 2 then (s, false)
  else if bytes ≤ s.sb.flushLeft then ({ s with sb := { s.sb with flushLeft := s.sb.flushLeft - bytes } }, true)
  else
    let (s, ok) := s.grant (some 2) ((s.flushUj + 15) / 16)
    if ok then ({ s with sb := { s.sb with flushLeft := s.sb.flushLeft + 65536 - bytes } }, true) else (s, false)

/-- Move n words of the tail to the middle; whole items that end there become items of the middle. -/
def wordsToMiddle : Nat → Nat → StrapQ → StrapQ
  | 0, _, x => x
  | fuel + 1, n, x =>
    match x.tail with
    | i :: rest =>
      if i.words ≤ x.part + n then
        wordsToMiddle fuel (x.part + n - i.words) { x with mid := x.mid ++ [i], part := 0, tail := rest }
      else { x with part := x.part + n }
    | [] => x

/-- Words that the engine writes to the middle next (R310 step 3): a block of 8, or an item that has waited
100 µs. -/
def State.middleWords (s : State) (x : StrapQ) : Nat :=
  if 8 ≤ itemWords x.tail - x.part then 8
  else match x.tail with
    | i :: _ => if i.entered + us 100 ≤ s.elapsed then i.words - x.part else 0
    | [] => 0

/-- `STRAP_MIDDLE_WRITE`: a flush that is refused takes an entry of the calendar and asks again when it fires (R250, R310, R311). -/
def execStrapMiddleWrite (q : Fin 64) (dt : Nat) (s : State) : Step :=
  let s := s.advance dt
  .next (
    let x := passToHead 65 (s.strap q)
    let n := s.middleWords x
    if q.val = 0 ∨ !s.sbUp ∨ n = 0 ∨ s.midWords q < itemWords x.mid + x.part + n ∨ s.entered (.flush q) then s.setStrap q x
    else
      let (s, ok) := s.flushGrant (64 * n)
      if ok then s.setStrap q (wordsToMiddle 65 n x) else (s.setStrap q x).wheelEnter (s.nowMs + 1) (.flush q))

/-- Whole items of up to 8 words from the middle into the head ring; at least one item. -/
def middleToHead : Nat → Nat → StrapQ → StrapQ
  | 0, _, x => x
  | fuel + 1, got, x =>
    match x.mid with
    | i :: rest =>
      if (got = 0 ∨ got + i.words ≤ 8) ∧ itemWords x.head + i.words ≤ 64 then
        middleToHead fuel (got + i.words) { x with head := x.head ++ [i], mid := rest }
      else x
    | [] => x

/-- Lanes of a word that count as failing: every lane where the expander reported an error (R300, R318). -/
def failLanes (w : WordFail) : Nat := if w.media then 32767 else w.lanes % 32768

/-- The failure meets an item's header, the first 8 data bytes (Table 11-6). -/
def failHead (w : WordFail) : Bool := w.word == 0 && failLanes w % 4 != 0

/-- Failing lanes of item data. -/
def failItem (w : WordFail) : Nat :=
  ((List.range 15).map (fun i => if w.word = 0 ∧ i < 2 then 0 else failLanes w / 2 ^ i % 2)).sum

/-- Failures that meet words of items of given lengths. -/
def meetItems (words : List Nat) (fails : List WordFail) : List WordFail :=
  fails.filter (fun w => decide (w.word < words.getD w.item 0))

/-- Words of queue q are read: media errors and failing lanes of item data count (R300, R318). -/
def State.wordsRead (s : State) (q : Nat) (fails : List WordFail) : State :=
  (s.bump Key.sbMediaErr (fails.filter (·.media)).length).bump (Key.sqPoison q) (fails.map failItem).sum

/-- The items of a list that a failing lane of data has met are poisoned. -/
def poisonItems (fails : List WordFail) (l : List StrapItem) : List StrapItem :=
  ((List.range l.length).zip l).map (fun p =>
    if fails.any (fun w => w.item == p.1 && failItem w != 0) then { p.2 with poison := true } else p.2)

/-- `STRAP_MIDDLE_READ`: whole items of the middle are read; a header that fails resets the queue (R310, R318). -/
def execStrapMiddleRead (q : Fin 64) (fails : List WordFail) (s : State) : Step :=
  .next (
    let x := s.strap q
    if q.val = 0 ∨ !s.sbUp ∨ 32 < itemWords x.head ∨ x.mid.isEmpty then s
    else
      let y := middleToHead 65 0 x
      let got := x.mid.take (x.mid.length - y.mid.length)
      let fails := meetItems (got.map (·.words)) fails
      let s := s.wordsRead q fails
      if fails.any failHead then s.resetStrap q
      else s.setStrap q (passToHead 65 { y with head := x.head ++ poisonItems fails got }))

/-- The consumer takes the oldest item of queue q (R310). -/
def State.strapPop (s : State) (q : Nat) : State × Option StrapItem :=
  let x := passToHead 65 (s.strap q)
  match x.head with
  | i :: rest => (s.setStrap q (passToHead 65 { x with head := rest }), some i)
  | [] => (s.setStrap q x, none)

/-- `WELT_CLOSE`: 1 ms has passed without a drop (R313, R316). -/
def execWeltClose (q : Fin 64) (r : Nat) (dt : Nat) (s : State) : Step :=
  let s := s.advance dt
  .next (if q.val = 0 then
      match (s.nodeQ r).welt with
      | some w => if w.lastAt + ms 1 ≤ s.elapsed then s.closeNodeWelt r else s
      | none => s
    else match (s.strap q).welt with
      | some (_, w) =>
        if w.lastAt + ms 1 ≤ s.elapsed then s.setStrap q (passToHead 65 ((s.strap q).closeWelt s.elapsed)) else s
      | none => s)

/-- `POINTER_MISMATCH`: the copies of a queue's pointers differ, while they are compared (R319). -/
def execPointerMismatch (q : Fin 64) (r : Nat) (s : State) : Step :=
  .next (if !s.sb.compare then s else if q.val = 0 then s.resetNodeQ r else s.resetStrap q)

/-- Any reset empties every strap queue, node queue and spill ring (R322). -/
def State.resetStraps (s : State) : State :=
  { s with sb := { s.sb with queues := [], nodes := [], compare := false, flushLeft := 0, fresh := true }
           har := { s.har with queues := [], arrivals := [], freed := 0 } }

end Sys2Proof.Machine
end

