-- ==== Sys2Proof/Machine/GirthNode.lean ====
section
/-! DEFINITION. What Girth keeps of each node: wheel entries, ledger, guard, DESYNC, contact, attempts and the
downlink queue's head (Girth MAC; Girth Scheduler). -/

namespace Sys2Proof.Machine

/-- Post with Girth's source (Table 8-11). -/
def State.girthPost (s : State) (c : Err) (arg : Nat) (arg2 : Nat := 0) : State := s.post c 0x3000 arg arg2

/-- Post with the scheduler's source (Table 9-6). -/
def State.schedPost (s : State) (c : Err) (arg : Nat) (arg2 : Nat := 0) : State := s.post c 0x3200 arg arg2

/-! ### Wheel entries (R249 to R252) -/

/-- Planning instant of a cell, in ms of chain time (R251). -/
def State.planMs (s : State) (a : Nat) : Nat := (s.slotStart a - 2000000) / 1000000

/-- Enter the next uplink cell of record r at or after ASN a (R247, R251, R261). -/
def State.enterUl (s : State) (r a : Nat) : State :=
  match s.nextUl (s.nrec r) a with
  | some n => (s.modHw r (fun h => { h with nextUl := n % 2 ^ 32 })).wheelEnter (s.planMs n) (.uplink r n)
  | none => s

/-- Enter the next downlink cell of record r at or after ASN a. -/
def State.enterDl (s : State) (r a : Nat) : State :=
  match s.nextDl (s.nrec r) a with
  | some n => (s.modHw r (fun h => { h with nextDl := n % 2 ^ 32 })).wheelEnter (s.planMs n) (.downlink r n)
  | none => s

/-- The entries of record r leave the wheel. -/
def State.unschedule (s : State) (r : Nat) : State := s.wheelDrop (fun d => nodeOf d == some r)

/-- First ASN of a cell that has not yet started. -/
def State.freshAsn (s : State) : Nat := (s.nowNs + s.slotNs - 1) / s.slotNs

/-- The entries of record r are entered from its pattern and the present ASN, and its handover instant where one is fixed; a delivery
that was moved is decided again in the next cell (R247, R253). -/
def State.reschedule (s : State) (r : Nat) : State :=
  let s := s.unschedule r
  let x := s.nrec r
  if x.isFree || x.quarantined || x.hw.macState == macIn then s
  else
    let s := (s.enterUl r s.freshAsn).enterDl r s.freshAsn
    match x.handover with
    | some h => (match h.h with
        | some b => s.wheelEnter (s.planMs b) (.handover r b)
        | none => s)
    | none => s

/-- Nodes whose cells have changed with what serves them are scheduled anew (R211, R217, R246). -/
def State.servedFollow (s old : State) : State :=
  s.each ((s.heldRecs.filter (fun q => old.recSlots q.2 != s.recSlots q.2)).map (·.1)) (fun s r => s.reschedule r)

/-! ### Cells in use -/

/-- A planned cell of record r at ASN a, from which its charge is worked out when it ends (R256). -/
def State.useCell (s : State) (r a : Nat) (uplink : Bool) : State :=
  let x := s.nrec r
  let n := if uplink then s.ulCellSlots x else s.dlCellSlots x
  let c : CellUse :=
    { asn := a, start := s.slotStart a, stop := s.slotStart (a + n), uplink := uplink, frameUs := none, answerUs := none, noAnswer := false }
  s.setRec r { x with cells := x.cells ++ [c] }

/-- The instant lies in the cell. -/
def CellUse.holds (c : CellUse) (t : Nat) : Bool := decide (c.start ≤ t ∧ t < c.stop)

/-- A cell of record r is missed (R251). -/
def State.cellMissed (s : State) (r : Nat) : State :=
  (s.bump Key.schedMissed).modHw r (fun h => { h with missed := (h.missed + 1) % 2 ^ 32 })

/-! ### Ledger (R256 to R260) -/

/-- Daily charge of a record in LU (R255, R257). -/
def State.dayLu (s : State) (x : NodeRec) : Nat :=
  100 * (if x.dailyNah = 0 then s.rd (Key.tenBudgetNah x.tenant) else x.dailyNah)

/-- Day number at chain second t; before the first day start no day has begun. -/
def State.dayOf (s : State) (t : Nat) : Option Nat :=
  let st := s.girth.sched.dayStart
  if st ≤ t then some ((t - st) / 86400) else none

/-- Rollover of record r's ledger at chain second t (R257). -/
def State.rollover (s : State) (r t : Nat) : State :=
  let x := s.nrec r
  match s.dayOf t with
  | none => s
  | some d =>
    if x.hw.ledgerDay < d then
      let lu := s.dayLu x
      let s := if lu < x.hw.ledger then s.schedPost .nodeOverBudget (shortOf r) x.hw.ledger else s
      let left := x.hw.ledger - lu * (d - x.hw.ledgerDay)
      s.modHw r (fun h => { h with ledger := left, ledgerDay := d, battFlags := setBit h.battFlags 1 (left != 0) })
    else s

/-- A term of R256: ⌈c × t / 1,000⌉. -/
def luOf (c t : Nat) : Nat := (c * t + 999) / 1000

/-- Charge of an uplink cell or of a frame outside own cells (R256). -/
def ulCharge (m : ModeCost) (f : Nat) (a : Option Nat) : Nat :=
  m.wake + luOf m.tx f + (match a with | some x => luOf m.rx (1000 + x) | none => 0)

/-- Charge of a downlink cell with a delivery (R256). -/
def dlCharge (m : ModeCost) (f a : Nat) : Nat := m.wake + luOf m.rx (m.guard + f) + luOf m.tx a

/-- Charge of a downlink cell with nothing sent (R256). -/
def emptyCharge (m : ModeCost) (mode : Nat) : Nat := m.wake + luOf m.rx (2 * m.guard + shrUs mode)

/-- Frame time of the nominal answer to an uplink (R247). -/
def State.ulAnswerUs (s : State) (x : NodeRec) : Nat := frameUs x.mode (s.ackOctets x 20)

/-- Frame time of a node's acknowledgement (R247). -/
def State.dlAckUs (s : State) (x : NodeRec) : Nat := frameUs x.mode (s.ackOctets x 16)

/-- Remaining charge of a declared battery, 1/100,000 µAh. -/
def NodeRec.remaining (x : NodeRec) : Int := (x.capacity : Int) * 100000 - x.hw.life

/-- Add a charge to record r at chain second t, with the battery-low report (R256, R257, R260). -/
def State.charge (s : State) (r lu t : Nat) : State :=
  let s := s.rollover r t
  let s := s.modHw r (fun h => { h with ledger := h.ledger + lu, life := h.life + lu, lastCharge := lu })
  let x := s.nrec r
  if x.capacity ≠ 0 ∧ x.lowPct ≠ 0 ∧ !bitOf x.hw.battFlags 0
      ∧ x.remaining * 100 ≤ (x.capacity : Int) * x.lowPct * 100000 then
    (s.modHw r (fun h => { h with battFlags := setBit h.battFlags 0 true })).schedPost .nodeBatteryLow (shortOf r)
      (x.remaining / 100000).toNat
  else s

/-- Charge of a planned cell when it ends (R256). -/
def State.cellCharge (s : State) (x : NodeRec) (c : CellUse) : Nat :=
  let m := s.modeCost x.mode
  if c.uplink then
    ulCharge m (c.frameUs.getD (frameUs x.mode x.ulPsdu)) (if c.noAnswer then none else some (c.answerUs.getD (s.ulAnswerUs x)))
  else match c.frameUs with
    | some f => dlCharge m f (s.dlAckUs x)
    | none => emptyCharge m x.mode

/-- `CELL_END_CHARGE`: the first cell of record r that has ended is charged; nothing where none has. -/
def execCellEndCharge (r : Fin 16384) (dt : Nat) (s : State) : Step :=
  let s := s.advance dt
  let x := s.nrec r
  .next (match x.cells.find? (fun c => decide (c.stop ≤ s.nowNs)) with
    | none => s
    | some c =>
      let s := s.setRec r { x with cells := x.cells.filter (fun d => d != c) }
      s.charge r (s.cellCharge x c) s.clock.sec)

/-- Change a planned cell of record r. -/
def State.modCell (s : State) (r : Nat) (p : CellUse → Bool) (f : CellUse → CellUse) : State :=
  let x := s.nrec r
  s.setRec r { x with cells := x.cells.map (fun c => if p c then f c else c) }

/-! ### Guard (R233) -/

/-- Guard limit G, ns. -/
def State.guardLimit (s : State) : Nat := min (s.rd Key.guardCapUs * 1000) (s.slotNs / 2)

/-- Guard g of a compatibility node at chain time t (ns), in whole ns, rounded down. -/
def State.guardAt (s : State) (x : NodeRec) (t : Nat) : Nat :=
  s.rd Key.guardBaseUs * 1000 + s.rd Key.guardGrowthPpm * (t - x.hw.lastContact * 1000000) / 1000000

/-- The node is heard (R233). -/
def State.contact (s : State) (r : Nat) : State := s.modHw r (fun h => { h with lastContact := s.nowMs % 2 ^ 48 })

/-! ### DESYNC (R235) -/

/-- Node r enters DESYNC with a cause. A node being handed over stays in HANDOVER_OUT and its former state
becomes DESYNC (R240). -/
def State.desync (s : State) (r cause : Nat) : State :=
  let x := s.nrec r
  let s := match x.handover with
    | some h =>
      if x.hw.macState = macOut then s.setRec r { x with handover := some { h with former := macDesync } }
      else s.modHw r (fun h => { h with macState := macDesync })
    | none => s.modHw r (fun h => { h with macState := macDesync })
  let s := s.modHw r (fun h => { h with cause := cause })
  let s := if cause = 5 then s else s.bump Key.desyncEvents
  s.girthPost .nodeDesync (shortOf r) cause

/-- MAC state for synchronisation: that before a handover while one runs. -/
def NodeRec.syncState (x : NodeRec) : Nat :=
  if x.hw.macState = macOut then (match x.handover with | some h => h.former | none => macOut) else x.hw.macState

/-- Node r returns to SYNC. -/
def State.resync (s : State) (r : Nat) : State :=
  let x := s.nrec r
  match x.handover with
  | some h =>
    if x.hw.macState = macOut then s.setRec r { x with handover := some { h with former := macSync } }
    else s.modHw r (fun h => { h with macState := macSync })
  | none => s.modHw r (fun h => { h with macState := macSync })

/-- `GUARD_LIMIT`: a compatibility node in SYNC whose guard has reached G enters DESYNC (R233). -/
def execGuardLimit (r : Fin 16384) (dt : Nat) (s : State) : Step :=
  let s := s.advance dt
  let x := s.nrec r
  .next (if x.compat && x.syncState == macSync && decide (s.guardLimit ≤ s.guardAt x s.nowNs) then s.desync r 1 else s)

/-! ### Downlink attempts (R225, R227) -/

/-- A frame of node r is reported undelivered (R227). -/
def State.undelivered (s : State) (r : Nat) (f : NodeFrame) : State :=
  ((s.bump Key.dlUndelivered).girthPost .dlUndelivered (shortOf r) (f.dsn.getD 0)).reportFinal
    (if f.report then f.handle else none) f.lastReport 1

/-- Every frame of node r's queue is reported undelivered (R124 item 4). -/
def State.undeliverAll (s : State) (r : Nat) : State :=
  let fs := (s.nodeQ r).frames
  let s := s.each fs (fun s f => s.undelivered r f)
  s.setNodeQ r { (s.nodeQ r) with frames := [] }

/-- An attempt of the head of node r's queue has failed (R227). -/
def State.attemptFailed (s : State) (r : Nat) : State :=
  let s := s.setRec r { (s.nrec r) with ack := none }
  match (s.nodeQ r).frames with
  | [] => s
  | f :: _ =>
    if s.rd Key.dlRetryLimit < f.attempts then
      let s := (s.nodePop r).undelivered r f
      if f.sent ∧ (s.nrec r).syncState = macSync then s.desync r 3 else s
    else s

/-- An acknowledgement of DSN d, its first chip ns after the downlink's last chip, is accepted; otherwise
nothing (R224). -/
def State.ackAccept (s : State) (r d : Nat) (offset : Int) : State :=
  let x := s.nrec r
  match x.ack with
  | none => s
  | some w =>
    if w.dsn = d ∧ 800000 ≤ offset ∧ offset ≤ 1200000 then
      let s := s.setRec r { x with ack := none, handover := x.handover.map (fun h => { h with acked := h.acked || h.h.isSome }) }
      let s := (s.contact r).modHw r (fun h => { h with framesDown := (h.framesDown + 1) % 2 ^ 32 })
      match (s.nodeQ r).frames with
      | f :: _ => (s.nodePop r).reportFinal (if f.report then f.handle else none) f.lastReport 0
      | [] => s
    else s

/-- `DL_ACK_RX`: offset is the acknowledgement's first chip less the downlink's last chip, in ns. -/
def execDlAckRx (r : Fin 16384) (dsn : Nat) (offset : Int) (dt : Nat) (s : State) : Step :=
  .next ((s.advance dt).ackAccept r dsn offset)

/-- `DL_ACK_TIMEOUT`: the acknowledgement's window and frame time have passed (R224, R227). -/
def execDlAckTimeout (r : Fin 16384) (dt : Nat) (s : State) : Step :=
  let s := s.advance dt
  let x := s.nrec r
  .next (match x.ack with
    | none => s
    | some w => if w.lastChip + us (1200 + s.dlAckUs x) ≤ s.elapsed then s.attemptFailed r else s)

/-! ### Downlink queue commands (R16, R17, R314 to R318) -/

/-- Girth takes a downlink frame for record r; a free or quarantined record has no entry to send to
(R8, R16). -/
def State.downlink (s : State) (r : Nat) (f : NodeFrame) : State :=
  let x := s.nrec r
  if x.isFree || x.quarantined then (s.bump Key.dlUnknown).reportFinal (if f.report then f.handle else none) 0 2
  else s.nodePush r f

/-- A frame as Girth takes it into a node's queue: in the node's tenant, with no attempt made. -/
def freshFrame (f : NodeFrame) (tenant : Nat) : NodeFrame :=
  { f with tenant := tenant, dsn := none, attempts := 0, cached := false, reserved := false, sent := false, forHandover := false, lastReport := 0 }

/-- `DOWNLINK_ENQUEUE` (R315, R316). -/
def execDownlinkEnqueue (r : Fin 16384) (f : NodeFrame) (s : State) : Step := .next (s.downlink r (freshFrame f (s.nrec r).tenant))

/-- The oldest fired downlink entry of record r. -/
def State.firedDl (s : State) (r : Nat) : Option Nat :=
  (s.girth.sched.fired.find? (fun e => e.due.dlOf r)).map (fun e => e.due.asn)

/-- The downlink cell at ASN a of record r has been planned: its entries go, and the next cell is entered. -/
def State.dlPlanned (s : State) (r a : Nat) : State :=
  let c := s.girth.sched
  let own := c.fired.any (fun e => e.due == .downlink r a)
  let s := s.setSched { c with fired := c.fired.filter (fun e => !(e.due.dlOf r && e.due.asn == a)) }
  if own then s.enterDl r (a + 1) else s

/-- The head of node r's queue is read into the head cache: into a reserved entry at a planning instant, else into another, where
one is free (R315). A header that fails resets the node's queue; a poisoned head is reported undelivered (R318). -/
def State.headRead (s : State) (r : Nat) (fails : List WordFail) : State :=
  match (s.nodeQ r).frames with
  | [] => s
  | f :: _ =>
    let planned := (s.firedDl r).isSome
    if f.cached || !(if planned then s.planFree else s.cacheFree) then s
    else
      let fails := meetItems [4] fails
      let s := s.wordsRead 0 fails
      if fails.any failHead then s.resetNodeQ r
      else if fails.any (fun w => failItem w != 0) then ((s.nodePop r).undelivered r f).sqPost .dlPoisoned 0 (shortOf r)
      else s.modHead r (fun f => { f with cached := true, reserved := planned })

/-- `DOWNLINK_HEAD_READ`: nothing while the link is not up, the head is cached or no entry is free. -/
def execDownlinkHeadRead (r : Fin 16384) (fails : List WordFail) (s : State) : Step :=
  .next (if s.sbUp then s.headRead r fails else s)

/-- `HEAD_READ_TIMEOUT`: the head read of a fired downlink cell is not done 1 ms after the planning instant; the cell is missed,
the frame stays (R315). -/
def execHeadReadTimeout (r : Fin 16384) (dt : Nat) (s : State) : Step :=
  let s := s.advance dt
  .next (match s.firedDl r, (s.nodeQ r).frames with
    | some a, f :: _ =>
      if f.cached || decide (s.nowMs < s.planMs a + 1) then s
      else ((s.useCell r a false).cellMissed r).dlPlanned r a
    | _, _ => s)

end Sys2Proof.Machine
end

