-- ==== Sys2Proof/Machine/Packet.lean ====
section
/-! DEFINITION. Packets: the parser's header units, 6LoWPAN expansion and compression, Ethernet frames and
IEEE 1588 messages (R274, R277 to R281, R293, R443, R444). -/

namespace Sys2Proof.Machine

/-- Unsigned field in network order. -/
def fieldBe (bs : Bytes) (off n : Nat) : Nat := beNat (slice bs off n)

/-- One byte as a number. -/
def byteAt (bs : Bytes) (off : Nat) : Nat := fieldLe bs off 1

/-! ### IP headers -/

/-- What a compressed header elides: a context's prefix and the interface identifiers of the link-layer
addresses (RFC 6282). The manual names no contexts, so the prefix is free (log 36). -/
structure LinkCtx where
  pre : Nat
  srcIid : Nat
  dstIid : Nat
  deriving DecidableEq, Repr

/-- An IP header as read. -/
structure IpHead where
  v4 : Bool
  /-- Traffic Class; 0 where it is elided -/
  tc : Nat
  flow : Nat
  hlim : Nat
  src : Nat
  dst : Nat
  /-- next header; none: a compressed next header follows -/
  next : Option Nat
  /-- first byte after the header -/
  off : Nat
  deriving DecidableEq, Repr

/-- Interface identifier of a short address (RFC 6282). -/
def shortIid (a : Nat) : Nat := 0xFFFE000000 + a

/-- Prefix of the link-local addresses. -/
def linkLocal : Nat := 0xFE80000000000000

/-- A unicast address of an IPHC mode with a prefix; its size in the header. -/
def iphcUni (bs : Bytes) (off mode pre iid : Nat) : Nat × Nat :=
  match mode with
  | 0 => (fieldBe bs off 16, 16)
  | 1 => (pre * 2 ^ 64 + fieldBe bs off 8, 8)
  | 2 => (pre * 2 ^ 64 + shortIid (fieldBe bs off 2), 2)
  | _ => (pre * 2 ^ 64 + iid, 0)

/-- A multicast address of an IPHC mode without context. -/
def iphcMulti (bs : Bytes) (off mode : Nat) : Nat × Nat :=
  match mode with
  | 0 => (fieldBe bs off 16, 16)
  | 1 => ((0xFF00 + byteAt bs off) * 2 ^ 112 + fieldBe bs (off + 1) 5, 6)
  | 2 => ((0xFF00 + byteAt bs off) * 2 ^ 112 + fieldBe bs (off + 1) 3, 4)
  | _ => (0xFF02 * 2 ^ 112 + byteAt bs off, 1)

/-- Destination of an IPHC header. -/
def iphcDst (bs : Bytes) (off b1 : Nat) (l : LinkCtx) : Nat × Nat :=
  if bitOf b1 3 then
    if bitOf b1 2 then
      ((0xFF00 + byteAt bs off) * 2 ^ 112 + byteAt bs (off + 1) * 2 ^ 104 + 64 * 2 ^ 96 + l.pre * 2 ^ 32 + fieldBe bs (off + 2) 4, 6)
    else iphcMulti bs off (bits b1 0 2)
  else iphcUni bs off (bits b1 0 2) (if bitOf b1 2 then l.pre else linkLocal) l.dstIid

/-- Source of an IPHC header. -/
def iphcSrc (bs : Bytes) (off b1 : Nat) (l : LinkCtx) : Nat × Nat :=
  if bitOf b1 6 && bits b1 4 2 == 0 then (0, 0)
  else iphcUni bs off (bits b1 4 2) (if bitOf b1 6 then l.pre else linkLocal) l.srcIid

/-- Reserved address modes of RFC 6282. -/
def iphcReserved (b1 : Nat) : Bool :=
  bitOf b1 2 && (if bitOf b1 3 then bits b1 0 2 != 0 else bits b1 0 2 == 0)

/-- Traffic Class, flow label and size of a TF field. -/
def iphcTf (bs : Bytes) (off tf : Nat) : Nat × Nat × Nat :=
  match tf with
  | 0 => let w := fieldBe bs off 4; (bits w 24 6 * 4 + bits w 30 2, bits w 0 20, 4)
  | 1 => let w := fieldBe bs off 3; (bits w 22 2, bits w 0 20, 3)
  | 2 => let w := byteAt bs off; (bits w 0 6 * 4 + bits w 6 2, 0, 1)
  | _ => (0, 0, 0)

/-- IPHC header at an offset; its end may lie beyond the bytes. -/
def iphcHead (bs : Bytes) (off : Nat) (l : LinkCtx) : IpHead :=
  let b0 := byteAt bs off
  let b1 := byteAt bs (off + 1)
  let o := off + 2 + (if bitOf b1 7 then 1 else 0)
  let tf := iphcTf bs o (bits b0 3 2)
  let o1 := o + tf.2.2
  let nhc := bitOf b0 2
  let o2 := if nhc then o1 else o1 + 1
  let hl := bits b0 0 2
  let o3 := if hl = 0 then o2 + 1 else o2
  let src := iphcSrc bs o3 b1 l
  let dst := iphcDst bs (o3 + src.2) b1 l
  { v4 := false, tc := tf.1, flow := tf.2.1
    hlim := if hl = 0 then byteAt bs o2 else if hl = 1 then 1 else if hl = 2 then 64 else 255
    src := src.1, dst := dst.1, next := if nhc then none else some (byteAt bs o1), off := o3 + src.2 + dst.2 }

/-- IPv6 header at an offset. -/
def ip6Head (bs : Bytes) (off : Nat) : IpHead :=
  let w := fieldBe bs off 4
  { v4 := false, tc := bits w 20 8, flow := bits w 0 20, hlim := byteAt bs (off + 7), src := fieldBe bs (off + 8) 16,
    dst := fieldBe bs (off + 24) 16, next := some (byteAt bs (off + 6)), off := off + 40 }

/-- IPv4 header at an offset. -/
def ip4Head (bs : Bytes) (off : Nat) : IpHead :=
  { v4 := true, tc := byteAt bs (off + 1), flow := 0, hlim := byteAt bs (off + 8), src := fieldBe bs (off + 12) 4,
    dst := fieldBe bs (off + 16) 4, next := some (byteAt bs (off + 9)), off := off + 4 * (byteAt bs off % 16) }

/-! ### The parser (R277 to R279) -/

/-- How a parse ends (R278 to R280). -/
inductive ParseEnd where
  | complete
  /-- short of a limit, or a unit not read: reason 1; counted in `PARSE_DEEP` when a limit stopped it -/
  | deep (limit : Bool)
  | conflict
  | fragment
  /-- RPL control, MAC command or no IPv6: reason 4 -/
  | control
  deriving DecidableEq, Repr

/-- Fewest bytes that an IPv6 extension header of a number has (R279 item 2): only an authentication header can claim fewer. -/
def extMin (nh : Nat) : Nat := if nh = 51 then 12 else 8

/-- Bytes of an IPv6 extension header, none where the next header is not one that the parser reads. -/
def extLen (bs : Bytes) (off nh : Nat) : Option Nat :=
  if nh = 0 ∨ nh = 43 ∨ nh = 60 ∨ nh = 135 ∨ nh = 139 ∨ nh = 140 then some (8 * (byteAt bs (off + 1) + 1))
  else if nh = 44 then some 8
  else if nh = 51 then some (4 * (byteAt bs (off + 1) + 2))
  else none

/-- The fields of a source-routing header relate as RFC 6554 says: addresses of n octets in all, Segments
Left, CmprI, CmprE and Pad. -/
def srhOk (n left cmprI cmprE pad : Nat) : Bool :=
  if n = 0 then left == 0
  else decide (pad + 16 - cmprE ≤ n) && (n - pad - (16 - cmprE)) % (16 - cmprI) == 0
    && decide (left ≤ (n - pad - (16 - cmprE)) / (16 - cmprI) + 1)

/-- A routing header is in order: only type 3 has relations to meet. Its type stands at an offset. -/
def routingOk (bs : Bytes) (at0 n : Nat) : Bool :=
  if byteAt bs at0 = 3 then
    srhOk n (byteAt bs (at0 + 1)) (byteAt bs (at0 + 2) / 16) (byteAt bs (at0 + 2) % 16) (byteAt bs (at0 + 3) / 16)
  else true

/-- UDP header at an offset, the units-th unit after those read; strict: a shorter claim conflicts. -/
def udpVerdict (bs : Bytes) (strict : Bool) (units off : Nat) : ParseEnd :=
  let n := fieldBe bs (off + 4) 2
  let have_ := bs.length - off
  if 8 ≤ units then .deep true
  else if bs.length < off + 8 ∨ n < 8 ∨ have_ < n ∨ (strict ∧ n < have_) then .conflict
  else if 128 < off + 8 then .deep true
  else .complete

/-- The chain of uncompressed headers from an offset (R278). -/
def walkHeaders (bs : Bytes) (strict radio : Bool) : Nat → Nat → Nat → Nat → ParseEnd
  | 0, _, _, _ => .deep true
  | fuel + 1, units, off, nh =>
    if nh = 17 then udpVerdict bs strict units off
    else if nh = 58 then (if radio && byteAt bs off == 155 && decide (off < bs.length) then .control else .complete)
    else match extLen bs off nh with
      | none => .complete
      | some n =>
        if 8 ≤ units then .deep true
        else if bs.length < off + 8 ∨ bs.length < off + n ∨ n < extMin nh ∨ (nh = 43 ∧ !routingOk bs (off + 2) (n - 8)) then .conflict
        else if 128 < off + n then .deep true
        else if nh = 44 ∧ fieldBe bs (off + 2) 2 / 8 ≠ 0 then .complete
        else walkHeaders bs strict radio fuel (units + 1) (off + n) (byteAt bs off)

/-- Octets of a compressed UDP header. -/
def nhcUdpLen (b : Nat) : Nat :=
  1 + (match bits b 0 2 with | 0 => 4 | 3 => 1 | _ => 3) + (if bitOf b 2 then 0 else 2)

/-- The chain of compressed headers from an offset. -/
def walkNhc (bs : Bytes) (strict radio : Bool) : Nat → Nat → Nat → ParseEnd
  | 0, _, _ => .deep true
  | fuel + 1, units, off =>
    let b := byteAt bs off
    if bs.length ≤ off then .conflict
    else if bits b 3 5 = 30 then
      if 8 ≤ units then .deep true
      else if bs.length < off + nhcUdpLen b then .conflict
      else if 128 < off + nhcUdpLen b then .deep true
      else .complete
    else if bits b 4 4 = 14 ∧ bits b 1 3 ≤ 4 then
      let o := if bitOf b 0 then off + 1 else off + 2
      let n := byteAt bs o
      let stop := o + 1 + n
      if 8 ≤ units then .deep true
      else if bs.length ≤ o ∨ bs.length < stop ∨ ((bits b 1 3 = 1 ∨ bits b 1 3 = 2) ∧ n < 6) ∨ (bits b 1 3 = 1 ∧ !routingOk bs (o + 1) (n - 6)) then .conflict
      else if 128 < stop then .deep true
      else if bits b 1 3 = 2 ∧ fieldBe bs (o + 1) 2 / 8 ≠ 0 then .complete
      else if bitOf b 0 then walkNhc bs strict radio fuel (units + 1) stop
      else walkHeaders bs strict radio fuel (units + 1) stop (byteAt bs (off + 1))
    else .deep false

/-- A parse: its end, the IP header where one was reached, and the frame without padding. -/
structure Parsed where
  verdict : ParseEnd
  ip : Option IpHead
  bytes : Bytes
  deriving DecidableEq, Repr

/-- An IPHC header as the units-th unit. -/
def parseIphc (bs : Bytes) (radio : Bool) (units off : Nat) (l : LinkCtx) : Parsed :=
  let h := iphcHead bs off l
  if 8 ≤ units then { verdict := .deep true, ip := none, bytes := bs }
  else if bs.length < h.off then { verdict := .conflict, ip := none, bytes := bs }
  else if iphcReserved (byteAt bs (off + 1)) then { verdict := .deep false, ip := none, bytes := bs }
  else if 128 < h.off then { verdict := .deep true, ip := none, bytes := bs }
  else
    let v := match h.next with
      | none => walkNhc bs true radio 9 (units + 1) h.off
      | some nh => walkHeaders bs true radio 9 (units + 1) h.off nh
    { verdict := v, ip := some h, bytes := bs }

/-- An uncompressed IPv6 header as the units-th unit. -/
def parseIp6 (bs : Bytes) (strict radio : Bool) (units off : Nat) : Parsed :=
  let n := fieldBe bs (off + 4) 2
  let present := bs.length - (off + 40)
  if 8 ≤ units then { verdict := .deep true, ip := none, bytes := bs }
  else if bs.length < off + 40 then { verdict := .conflict, ip := none, bytes := bs }
  else if present < n ∨ (strict ∧ n < present) then { verdict := .conflict, ip := some (ip6Head bs off), bytes := bs }
  else if 128 < off + 40 then { verdict := .deep true, ip := none, bytes := bs }
  else
    let bs := bs.take (off + 40 + n)
    let h := ip6Head bs off
    { verdict := walkHeaders bs strict radio 9 (units + 1) h.off (h.next.getD 59), ip := some h, bytes := bs }

/-- An IPv4 header as the units-th unit. -/
def parseIp4 (bs : Bytes) (strict : Bool) (units off : Nat) : Parsed :=
  let ihl := 4 * (byteAt bs off % 16)
  let total := fieldBe bs (off + 2) 2
  let present := bs.length - off
  if 8 ≤ units then { verdict := .deep true, ip := none, bytes := bs }
  else if present < 20 then { verdict := .conflict, ip := none, bytes := bs }
  else if ihl < 20 ∨ total < ihl ∨ present < total ∨ (strict ∧ total < present) then
    { verdict := .conflict, ip := some (ip4Head bs off), bytes := bs }
  else if 128 < off + ihl then { verdict := .deep true, ip := none, bytes := bs }
  else
    let bs := bs.take (off + total)
    let h := ip4Head bs off
    let v := if h.next = some 17 ∧ fieldBe bs (off + 6) 2 % 8192 = 0 then udpVerdict bs strict (units + 1) h.off else .complete
    { verdict := v, ip := some h, bytes := bs }

/-- A 6LoWPAN payload at an offset (R277, R278). -/
def parseLowpan (bs : Bytes) (radio : Bool) (units off : Nat) (l : LinkCtx) : Parsed :=
  let d := byteAt bs off
  let stop (v : ParseEnd) : Parsed := { verdict := v, ip := none, bytes := bs }
  if bs.length ≤ off then stop .control
  else if d / 8 = 24 ∨ d / 8 = 28 then
    let n := if d / 8 = 24 then 4 else 5
    let size := fieldBe bs off 2 % 2048
    let before := if d / 8 = 24 then 0 else 8 * byteAt bs (off + 4)
    if 8 ≤ units then stop (.deep true)
    else if bs.length < off + n ∨ size < before + (bs.length - off - n) then stop .conflict
    else stop .fragment
  else if d / 32 = 3 then parseIphc bs radio units off l
  else if d = 0x41 then parseIp6 bs true radio units (off + 1)
  else if d / 64 = 0 then stop .control
  else stop (.deep false)

/-- End of the payload IEs that start at an offset. -/
def payloadIesEnd (bs : Bytes) : Nat → Nat → Nat
  | 0, off => off
  | n + 1, off =>
    if bs.length < off + 2 then off
    else
      let h := fieldLe bs off 2
      if !bitOf h 15 then off
      else if bits h 11 4 = 15 then off + 2
      else payloadIesEnd bs n (off + 2 + bits h 0 11)

/-- Payload IEs follow the header IEs: these end with Header Termination 1. -/
def hasPayloadIes (bs : Bytes) (m : Mhr) : Bool :=
  m.iePresent && decide (m.auxEnd + 2 ≤ m.iesEnd) && bits (fieldLe bs (m.iesEnd - 2) 2) 7 8 == 0x7E

/-- First payload byte of a radio frame, after the IEs, and the units before it. -/
def radioPayload (bs : Bytes) (m : Mhr) : Nat × Nat :=
  if hasPayloadIes bs m then (payloadIesEnd bs 64 m.iesEnd, 3)
  else (m.iesEnd, if m.iePresent then 2 else 1)

/-- Interface identifiers of a radio frame's addresses. -/
def radioCtx (m : Mhr) (pre : Nat) : LinkCtx :=
  let iid (mode : Nat) (a : Option Nat) : Nat :=
    if mode = 3 then Nat.xor (a.getD 0) (2 ^ 57) else shortIid (a.getD 0)
  { pre := pre, srcIid := iid m.srcMode m.src, dstIid := iid m.dstMode m.dst }

/-- A radio frame (R274, R277). -/
def parseRadio (bs : Bytes) (l : LinkCtx) : Parsed :=
  match parseMhr bs with
  | none => { verdict := .conflict, ip := none, bytes := bs }
  | some m =>
    if m.typ ≠ 1 then { verdict := .control, ip := none, bytes := bs }
    else
      let p := radioPayload bs m
      if bs.length < p.1 then { verdict := .conflict, ip := none, bytes := bs }
      else parseLowpan bs true p.2 p.1 (radioCtx m l.pre)

/-- Offset of the EtherType of an Ethernet frame, after at most one IEEE 802.1Q tag. -/
def etherTypeAt (bs : Bytes) : Nat := if fieldBe bs 12 2 = 0x8100 then 16 else 12

/-- VLAN identifier of an Ethernet frame; 0 without a tag. -/
def vlanOf (bs : Bytes) : Nat := if fieldBe bs 12 2 = 0x8100 then fieldBe bs 14 2 % 4096 else 0

/-- An Ethernet frame. A frame that carries neither IPv6 nor IPv4 holds a unit that the parser does not
read (log 37). -/
def parseEthernet (bs : Bytes) : Parsed :=
  let o := etherTypeAt bs
  if bs.length < o + 2 then { verdict := .conflict, ip := none, bytes := bs }
  else if fieldBe bs o 2 = 0x86DD then parseIp6 bs false false 1 (o + 2)
  else if fieldBe bs o 2 = 0x0800 then parseIp4 bs false 1 (o + 2)
  else { verdict := .deep false, ip := none, bytes := bs }

/-- Form of a packet that begins with its own header, by its first byte (log 38). -/
def packetForm (bs : Bytes) : FrameForm :=
  if byteAt bs 0 / 16 = 6 ∨ byteAt bs 0 = 0x45 ∨ (byteAt bs 0 / 16 = 4 ∧ byteAt bs 0 ≠ 0x41) then .ip else .lowpan

/-- A packet from HP6 to HP9 or HP11, where IPv4 is read from HP8 and HP9 only. -/
def parsePacket (bs : Bytes) (v4 : Bool) (l : LinkCtx) : Parsed :=
  match packetForm bs with
  | .ip =>
    if byteAt bs 0 / 16 = 6 then parseIp6 bs true false 0 0
    else if v4 then parseIp4 bs true 0 0
    else { verdict := .deep false, ip := none, bytes := bs }
  | .radio | .ethernet | .lowpan | .other => parseLowpan bs false 0 0 l

/-! ### Expansion to IPv6 (RFC 6282) -/

/-- An IPv6 header. -/
def ip6Bytes (h : IpHead) (len nh : Nat) : Bytes :=
  beBytes 4 (6 * 2 ^ 28 + h.tc * 2 ^ 20 + h.flow) ++ beBytes 2 len ++ beBytes 1 nh ++ beBytes 1 h.hlim ++ beBytes 16 h.src ++ beBytes 16 h.dst

/-- Sum of 16-bit words in network order; an odd last byte is padded with zero. -/
def wordSum : Bytes → Nat
  | a :: b :: rest => a.toNat * 256 + b.toNat + wordSum rest
  | [a] => a.toNat * 256
  | [] => 0

/-- One's-complement fold of a sum. -/
def onesFold (x : Nat) : Nat := if x = 0 then 0 else (x - 1) % 65535 + 1

/-- UDP checksum of a datagram between two IPv6 addresses (RFC 768, RFC 8200). -/
def udpChecksum (src dst : Nat) (udp : Bytes) : Nat :=
  let x := 65535 - onesFold (wordSum (beBytes 16 src ++ beBytes 16 dst) + udp.length + 17 + wordSum udp)
  if x = 0 then 65535 else x

/-- UDP datagram from its compressed header at an offset. -/
def expandUdp (bs : Bytes) (off : Nat) (h : IpHead) : Bytes :=
  let b := byteAt bs off
  let p := off + 1
  let ports : Nat × Nat × Nat := match bits b 0 2 with
    | 0 => (fieldBe bs p 2, fieldBe bs (p + 2) 2, 4)
    | 1 => (fieldBe bs p 2, 0xF000 + byteAt bs (p + 2), 3)
    | 2 => (0xF000 + byteAt bs p, fieldBe bs (p + 1) 2, 3)
    | _ => (0xF0B0 + byteAt bs p / 16, 0xF0B0 + byteAt bs p % 16, 1)
  let data := bs.drop (off + nhcUdpLen b)
  let head (c : Nat) : Bytes := beBytes 2 ports.1 ++ beBytes 2 ports.2.1 ++ beBytes 2 (8 + data.length) ++ beBytes 2 c
  if bitOf b 2 then head (udpChecksum h.src h.dst (head 0 ++ data)) ++ data
  else head (fieldBe bs (p + ports.2.2) 2) ++ data

/-- Padding option of n octets (RFC 8200). -/
def padOption (n : Nat) : Bytes := if n = 0 then [] else if n = 1 then [0#8] else 1#8 :: (beBytes 1 (n - 2) ++ zeros (n - 2))

/-- Next-header number of an extension header of NHC. -/
def eidNext (eid : Nat) : Nat := match eid with | 0 => 0 | 1 => 43 | 2 => 44 | 3 => 60 | _ => 135

/-- Next header and bytes from a chain of compressed headers. -/
def expandNhc (bs : Bytes) (h : IpHead) : Nat → Nat → Nat × Bytes
  | 0, _ => (59, [])
  | fuel + 1, off =>
    let b := byteAt bs off
    if bits b 3 5 = 30 then (17, expandUdp bs off h)
    else if bits b 4 4 = 14 then
      let o := if bitOf b 0 then off + 1 else off + 2
      let n := byteAt bs o
      let stop := o + 1 + n
      let rest : Nat × Bytes := if bitOf b 0 then expandNhc bs h fuel stop else (byteAt bs (off + 1), bs.drop stop)
      let pad := (8 - (n + 2) % 8) % 8
      let body := slice bs (o + 1) n ++ padOption pad
      (eidNext (bits b 1 3), beBytes 1 rest.1 ++ beBytes 1 ((n + 2 + pad) / 8 - 1) ++ body ++ rest.2)
    else (59, [])

/-- IPv6 packet from a 6LoWPAN payload; none where it holds none. -/
def expandLowpan (bs : Bytes) (l : LinkCtx) : Option Bytes :=
  let d := byteAt bs 0
  if d = 0x41 then some (bs.drop 1)
  else if d / 32 = 3 then
    let h := iphcHead bs 0 l
    let rest : Nat × Bytes := match h.next with
      | some nh => (nh, bs.drop h.off)
      | none => expandNhc bs h 9 h.off
    some (ip6Bytes h rest.2.length rest.1 ++ rest.2)
  else none

/-! ### Compression (RFC 6282, without contexts; log 36) -/

/-- IPHC fields of a source or unicast destination: mode and bytes. -/
def compressUni (a : Nat) : Nat × Bytes :=
  let iid := a % 2 ^ 64
  if a / 2 ^ 64 = linkLocal then
    if iid / 2 ^ 16 = 0xFFFE00 then (2, beBytes 2 (iid % 2 ^ 16)) else (1, beBytes 8 iid)
  else (0, beBytes 16 a)

/-- IPHC fields of a multicast destination. -/
def compressMulti (a : Nat) : Nat × Bytes :=
  let flags := a / 2 ^ 112 % 256
  let low := a % 2 ^ 112
  if flags = 2 ∧ low < 256 then (3, beBytes 1 low)
  else if low < 2 ^ 24 then (2, beBytes 1 flags ++ beBytes 3 low)
  else if low < 2 ^ 40 then (1, beBytes 1 flags ++ beBytes 5 low)
  else (0, beBytes 16 a)

/-- Compressed UDP header of a datagram. -/
def compressUdp (u : Bytes) : Bytes :=
  let sp := fieldBe u 0 2
  let dp := fieldBe u 2 2
  let c := slice u 6 2
  if sp / 16 = 0xF0B ∧ dp / 16 = 0xF0B then beBytes 1 0xF3 ++ beBytes 1 (sp % 16 * 16 + dp % 16) ++ c
  else if dp / 256 = 0xF0 then beBytes 1 0xF1 ++ beBytes 2 sp ++ beBytes 1 (dp % 256) ++ c
  else if sp / 256 = 0xF0 then beBytes 1 0xF2 ++ beBytes 1 (sp % 256) ++ beBytes 2 dp ++ c
  else beBytes 1 0xF0 ++ beBytes 2 sp ++ beBytes 2 dp ++ c

/-- IPHC header of an IPv6 header whose next header is nh; nhc: it is compressed. -/
def compressHead (h : IpHead) (nh : Nat) (nhc : Bool) : Bytes :=
  let ecn := h.tc % 4
  let dscp := h.tc / 4
  let tf : Nat × Bytes :=
    if h.flow = 0 then (if h.tc = 0 then (3, []) else (2, beBytes 1 (ecn * 64 + dscp)))
    else if dscp = 0 then (1, beBytes 3 (ecn * 2 ^ 22 + h.flow))
    else (0, beBytes 4 (ecn * 2 ^ 30 + dscp * 2 ^ 24 + h.flow))
  let hl : Nat × Bytes :=
    if h.hlim = 1 then (1, []) else if h.hlim = 64 then (2, []) else if h.hlim = 255 then (3, []) else (0, beBytes 1 h.hlim)
  let src : Nat × Bytes := if h.src = 0 then (4, []) else compressUni h.src
  let multi := h.dst / 2 ^ 120 == 255
  let dst : Nat × Bytes := if multi then compressMulti h.dst else compressUni h.dst
  beBytes 1 (0x60 + tf.1 * 8 + (if nhc then 4 else 0) + hl.1) ++ beBytes 1 (src.1 * 16 + (if multi then 8 else 0) + dst.1)
    ++ tf.2 ++ (if nhc then [] else beBytes 1 nh) ++ hl.2 ++ src.2 ++ dst.2

/-- 6LoWPAN form of an IPv6 packet: IPHC and NHC, extension headers uncompressed (Table 10-5). -/
def compressIp6 (pkt : Bytes) : Bytes :=
  let h := ip6Head pkt 0
  if h.next = some 17 then compressHead h 17 true ++ compressUdp (pkt.drop 40) ++ pkt.drop 48
  else compressHead h (h.next.getD 59) false ++ pkt.drop 40

/-- Octets of the extension headers of an IPv6 packet from an offset. -/
def extsLen (pkt : Bytes) : Nat → Nat → Nat → Nat
  | 0, _, _ => 0
  | fuel + 1, off, nh =>
    match extLen pkt off nh with
    | none => 0
    | some n => n + extsLen pkt fuel (off + n) (byteAt pkt off)

/-- Octets of the compressed IPv6 header and the extension headers of a packet (R294). -/
def headersLen (pkt : Bytes) : Nat :=
  let h := ip6Head pkt 0
  let nh := h.next.getD 59
  (compressHead h nh (nh == 17)).length + extsLen pkt 16 40 nh

/-! ### Source-routing headers (R281, R293) -/

/-- Insert a source-routing header before any other routing header: a hop-by-hop header stays in front. -/
def insertSrh (pkt : Bytes) (first : Nat) (rest : List Nat) : Bytes :=
  let h := ip6Head pkt 0
  let n := rest.length + 1
  let hbh := h.next == some 0
  let split := if hbh then 40 + 8 * (byteAt pkt 41 + 1) else 40
  let nh := if hbh then byteAt pkt 40 else h.next.getD 59
  let srh := beBytes 1 nh ++ beBytes 1 (n - 1) ++ beBytes 1 3 ++ beBytes 1 (n - 1) ++ beBytes 1 0x88 ++ zeros 3
    ++ rest.flatMap (fun iid => beBytes 8 iid)
  let front := pkt.take split
  let front := if hbh then splice front 40 (beBytes 1 43) else splice front 6 (beBytes 1 43)
  let front := splice front 4 (beBytes 2 (fieldBe pkt 4 2 + srh.length))
  splice front 24 (beBytes 16 (h.dst / 2 ^ 64 * 2 ^ 64 + first)) ++ srh ++ pkt.drop split

/-- Options of a hop-by-hop header without RPL Options and padding. -/
def keepOptions (bs : Bytes) : Nat → Nat → Bytes
  | 0, _ => []
  | fuel + 1, off =>
    if bs.length ≤ off then []
    else
      let t := byteAt bs off
      if t = 0 then keepOptions bs fuel (off + 1)
      else
        let n := 2 + byteAt bs (off + 1)
        (if t = 1 ∨ t = 0x63 ∨ t = 0x23 then [] else slice bs off n) ++ keepOptions bs fuel (off + n)

/-- A header chain from an offset without RPL Options and source-routing headers: next header and bytes. -/
def stripChain (pkt : Bytes) : Nat → Nat → Nat → Nat × Bytes
  | 0, off, nh => (nh, pkt.drop off)
  | fuel + 1, off, nh =>
    match extLen pkt off nh with
    | none => (nh, pkt.drop off)
    | some n =>
      let rest := stripChain pkt fuel (off + n) (byteAt pkt off)
      if nh = 43 ∧ byteAt pkt (off + 2) = 3 then rest
      else if nh = 0 then
        let opts := keepOptions (slice pkt off n) n 2
        if opts.isEmpty then rest
        else
          let pad := (8 - (opts.length + 2) % 8) % 8
          (0, beBytes 1 rest.1 ++ beBytes 1 ((opts.length + 2 + pad) / 8 - 1) ++ opts ++ padOption pad ++ rest.2)
      else (nh, beBytes 1 rest.1 ++ slice pkt (off + 1) (n - 1) ++ rest.2)

/-- An IPv6 packet as it leaves by Ethernet (Table 10-5). -/
def stripRouting (pkt : Bytes) : Bytes :=
  let h := ip6Head pkt 0
  let rest := stripChain pkt 16 40 (h.next.getD 59)
  ip6Bytes h rest.2.length rest.1 ++ rest.2

/-! ### Network part of a frame in the buffer -/

/-- Bytes from the network header on, in their own form. -/
def netBytes (form : FrameForm) (bs : Bytes) : Bytes :=
  match form with
  | .radio => match parseMhr bs with
    | some m => bs.drop (radioPayload bs m).1
    | none => bs
  | .ethernet => bs.drop (etherTypeAt bs + 2)
  | .ip | .lowpan | .other => bs

/-- What a frame's link header gives to its compressed header. -/
def ctxOf (form : FrameForm) (bs : Bytes) (l : LinkCtx) : LinkCtx :=
  match form with
  | .radio => match parseMhr bs with
    | some m => radioCtx m l.pre
    | none => l
  | .ethernet | .ip | .lowpan | .other => l

/-- IP packet of a frame; none where it carries none. -/
def toIp (form : FrameForm) (bs : Bytes) (l : LinkCtx) : Option Bytes :=
  let n := netBytes form bs
  match form with
  | .radio | .lowpan => expandLowpan n (ctxOf form bs l)
  | .ethernet | .ip => if byteAt n 0 / 16 = 6 ∨ byteAt n 0 / 16 = 4 then some n else none
  | .other => none

/-! ### IEEE 1588 event messages (R443, R444) -/

/-- Offset of an IEEE 1588 message in an Ethernet frame, and how it is carried: 0 EtherType 0x88F7, 4 UDP on
IPv4, 6 UDP on IPv6. -/
def ptpAt (bs : Bytes) : Option (Nat × Nat) :=
  let o := etherTypeAt bs
  let t := fieldBe bs o 2
  if t = 0x88F7 then some (o + 2, 0)
  else if t = 0x86DD ∧ byteAt bs (o + 8) = 17 ∧ fieldBe bs (o + 44) 2 = 319 then some (o + 50, 6)
  else if t = 0x0800 ∧ byteAt bs (o + 11) = 17 then
    let u := o + 2 + 4 * (byteAt bs (o + 2) % 16)
    if fieldBe bs (u + 2) 2 = 319 then some (u + 8, 4) else none
  else none

/-- The frame carries an event message: Sync, Delay_Req, Pdelay_Req or Pdelay_Resp. -/
def ptpEvent (bs : Bytes) : Option (Nat × Nat) :=
  match ptpAt bs with
  | some p => if p.1 < bs.length ∧ byteAt bs p.1 % 16 ≤ 3 then some p else none
  | none => none

/-- A Sync or Pdelay_Resp with a stamp inserted (R444). -/
def ptpInsert (bs : Bytes) (t : Time80) : Bytes :=
  match ptpEvent bs with
  | none => bs
  | some (o, carry) =>
    let typ := byteAt bs o % 16
    if typ ≠ 0 ∧ typ ≠ 3 then bs
    else
      let stamp := beBytes 6 t.sec ++ beBytes 4 t.ns
      let old := slice bs (o + 34) 10
      let out := splice bs (o + 34) stamp
      let tail := o + fieldBe bs (o + 2) 2
      if carry = 4 then splice out (o - 2) (zeros 2)
      else if carry = 6 ∧ tail + 2 ≤ bs.length ∧ o + fieldBe bs (o - 4) 2 - 8 = tail + 2 then
        splice out tail (beBytes 2 (onesFold (fieldBe bs tail 2 + onesFold (wordSum old) + 65535 - onesFold (wordSum stamp))))
      else out

end Sys2Proof.Machine
end

