-- ==== Sys2Proof/Machine/LaceBase.lean ====
section
/-! DEFINITION. Lacing state that other units touch: a symbol not sent, a record that stops being a target,
reports of nodes (R406, R409, R413). -/

namespace Sys2Proof.Machine

/-- A campaign with nothing in it. -/
def Campaign.empty : Campaign :=
  { desc := [], crc := 0, blockCrc := [], a := 0, started := 0, running := 0, deadline := 0, targets := [], streams := [], everDone := false,
    burst := 0, planned := [], uses := [], failing := none }

/-- Engine state of campaign k. -/
def State.camp (s : State) (k : Nat) : Campaign := KMap.getD s.lacing.camps Campaign.empty k

/-- Replace the engine state of campaign k. -/
def State.setCamp (s : State) (k : Nat) (c : Campaign) : State :=
  { s with lacing := { s.lacing with camps := KMap.setD s.lacing.camps Campaign.empty k c } }

/-- `CAMP_STATE`. -/
abbrev State.campSt (s : State) (k : Nat) : Nat := s.rd (Key.campState k)

/-- Change the stream of a mode. -/
def State.modStream (s : State) (k mode : Nat) (f : LaceStream → LaceStream) : State :=
  let c := s.camp k
  s.setCamp k { c with streams := c.streams.map (fun x => if x.mode = mode then f x else x) }

/-- A symbol's frame was not sent: it is sent again (R409). -/
def State.laceUnsent (s : State) (k mode z x : Nat) : State :=
  s.modStream k mode (fun t => { t with again := t.again ++ [(z, x)] })

/-- A burst frame of campaign k ended without being sent; its symbol stands in its payload (Table 15-4). -/
def State.laceFailed (s : State) (k : Nat) (q : TxReq) : State :=
  s.laceUnsent k q.mode (leNat (slice q.draft.payload 4 2)) (leNat (slice q.draft.payload 6 2))

/-- `CAMP_DONE` and `CAMP_PENDING` follow the targets. -/
def State.laceCount (s : State) (k : Nat) : State :=
  let l := (s.camp k).targets
  (s.wr (Key.campDone k) (l.filter (·.done)).length).wr (Key.campPending k) (l.filter (fun t => !t.done)).length

/-- `LACE_ACTIVE` counts the campaigns in states 1 to 3. -/
def State.laceActiveNow (s : State) : State :=
  s.wr Key.laceActive ((List.range 16).filter (fun k => decide (1 ≤ s.campSt k ∧ s.campSt k ≤ 3))).length

/-- Campaign k enters a state. -/
def State.setCampSt (s : State) (k x : Nat) : State := (s.wrEdge (Key.campState k) x (160 + k)).laceActiveNow

/-- Post with the source of campaign k. -/
def State.lacePost (s : State) (c : Err) (k : Nat) (arg : Nat := 0) (arg2 : Nat := 0) : State := s.post c (0x5110 + k) arg arg2

/-- Campaign k is complete (Table 15-2). -/
def State.laceDone (s : State) (k : Nat) : State :=
  (s.setCampSt k 4).lacePost .laceDone k (s.rd (Key.campDone k)) (s.rd (Key.campPending k))

/-- Campaign k has failed with a code. -/
def State.laceFail (s : State) (k code : Nat) : State :=
  (s.setCampSt k 5).lacePost .laceFailed k code (s.rd (Key.campPending k))

/-- A running campaign with no pending target left, and one complete at some time, is complete. -/
def State.laceCheck (s : State) (k : Nat) : State :=
  let s := s.laceCount k
  if s.campSt k = 2 ∧ s.rd (Key.campPending k) = 0 ∧ (s.camp k).everDone then s.laceDone k else s

/-! ### The target store (R397) -/

/-- Offset of the target store: the last 8 MiB of the `DEPOT` region with the lowest base (R397). -/
def State.targetStore (s : State) : Option Nat :=
  match s.sb.layout with
  | none => none
  | some l =>
    match (l.filter (fun r => r.kind == 6)).foldl (fun (a : Option Region) r => match a with
        | some b => if r.base < b.base then some r else a
        | none => some r) none with
    | some r => if s.sbUp && decide (8 * mib ≤ r.size) then some (r.base + r.size - 8 * mib) else none
    | none => none

/-- `CAMP_TARGETS` of campaign k as the target store holds it; empty where there is no list or no store. -/
def State.targetBytes (s : State) (k : Nat) : Bytes :=
  match s.targetStore, KMap.find s.lacing.lists k with
  | some o, some m => s.sbBytes (o + k * 524288) m.len
  | _, _ => []

/-- The list of campaign k as read fails its CRC-32C. -/
def State.targetsBad (s : State) (k : Nat) : Bool :=
  match s.targetStore, KMap.find s.lacing.lists k with
  | some _, some m => Crypto.crc32c (s.targetBytes k) != m.crc
  | _, _ => false

/-- The list is written to the target store, and its CRC-32C kept on die. -/
def State.storeTargets (s : State) (k : Nat) (d : Bytes) : State :=
  match s.targetStore with
  | none => s
  | some o =>
    let s := s.sbStore (o + k * 524288) d
    { s with lacing := { s.lacing with lists := KMap.put s.lacing.lists k { len := d.length, crc := Crypto.crc32c d } } }

/-- A read of the list of campaign k: one whose CRC fails ends a running or paused campaign with code 7 (R412). -/
def State.targetCheck (s : State) (k : Nat) : State :=
  if s.targetsBad k && (s.campSt k == 2 || s.campSt k == 3) then s.laceFail k 7 else s

/-- Record r stops being a target of every campaign (R413). -/
def State.laceForget (s : State) (r : Nat) : State :=
  s.each (List.range 16) (fun s k =>
    let c := s.camp k
    if c.targets.any (fun t => t.record == r) then
      (s.setCamp k { c with targets := c.targets.filter (fun t => t.record != r) }).laceCheck k
    else s)

/-- Payload p of a frame of tenant t is a report that names the tag of campaign k. A campaign has a tag once it is loaded. -/
def State.laceTagged (s : State) (k t : Nat) (p : Bytes) : Bool :=
  slice p 0 2 == [0x2C#8, 3#8] && decide (4 ≤ p.length) && !(s.camp k).desc.isEmpty && s.rd (Key.campTenant k) == t
    && (s.camp k).crc % 65536 == leNat (slice p 2 2)

/-- A payload of tenant t is a report: its tag is that of a campaign of the tenant in states 1 to 5 (R406). -/
def State.laceReportOf (s : State) (t : Nat) (p : Bytes) : Option Nat :=
  (List.range 16).find? (fun k => decide (1 ≤ s.campSt k) && s.laceTagged k t p)

/-- The running or paused campaign that a report is for: there is one at most (R399 item 6). -/
def State.laceRunning (s : State) (t : Nat) (p : Bytes) : Option Nat :=
  (List.range 16).find? (fun k => (s.campSt k == 2 || s.campSt k == 3) && s.laceTagged k t p)

/-- Write a node's report to strap queue 5 (R406). -/
def State.laceReport (s : State) (short t : Nat) (p : Bytes) : State :=
  let d := leBytes 2 short ++ leBytes 1 t ++ p
  s.strapPush 5 ((8 + d.length + 59) / 60) d

/-- An uncorrectable error in the state of block z of campaign k (R414): NEXT_X moves above every index sent. -/
def State.laceRestart (s : State) (k z : Nat) : State :=
  if (s.camp k).streams.isEmpty then s
  else
    let c := s.camp k
    let low := 64 + 1000 * c.a
    let redo (t : LaceStream) : LaceStream :=
      let waits (y x : Nat) : Bool :=
        t.again.contains (y, x) || c.planned.any (fun f => f.req.mode == t.mode && f.z == y && f.x == x)
      let sent (p : Nat × LaceBlock) : Nat :=
        match ((List.range p.2.taken).filter (fun i => !waits p.1 (low + i))).getLast? with
        | some i => i + 1
        | none => 0
      { t with blocks := KMap.put t.blocks z { need := 0, taken := (t.blocks.map sent).foldl max 0, ended := false } }
    (s.setCamp k { c with streams := c.streams.map redo }).lacePost .laceBlockRestart k z

end Sys2Proof.Machine
end

