-- ==== Sys2Proof/Machine/Phy.lean ====
section
/-! DEFINITION. Chips: the sequences of the modes, despreading and the despread loop, the chips of a transmission and the composite
signal (R169 to R174, R178, R190 to R193, Tables 6-4 and 7-1). -/

namespace Sys2Proof.Machine

/-! ### Sequences (R170, R171) -/

/-- The bits of a value of w bits, the most significant first. -/
def msbBits (w v : Nat) : List Bool := (List.range w).map (fun i => v.testBit (w - 1 - i))

/-- A value of w bits turned right by k. -/
def turnR (w k v : Nat) : Nat := (v / 2 ^ k + v * 2 ^ (w - k)) % 2 ^ w

/-- Chips per symbol; per spread bit in the Deep modes (Table 6-2). -/
def chipsPer (mode : Nat) : Nat :=
  match mode with
  | 1 | 4 => 32
  | 2 | 3 => 16
  | 5 => 64
  | _ => 128

/-- A Deep mode: D32, D64, D128. -/
def deepMode (mode : Nat) : Bool := decide (4 ≤ mode)

/-- Chip sequence of data symbol k, c0 first: M1 by the 32-chip table of IEEE 802.15.4 for 2450 MHz, M2 and M3 by its 16-chip table
(R170, R193). Symbols 1 to 7 turn symbol 0, symbols 8 to 15 invert the odd chips (PRESUMED, log 116). -/
def symbolChips (mode k : Nat) : List Bool :=
  let (w, base, turn, odd) := if mode = 1 then (32, 0xD9C3522E, 4, 0x55555555) else (16, 0x3E25, 2, 0x5555)
  let v := turnR w (turn * (k % 8)) base
  msbBits w (if k < 8 then v else Nat.xor v odd)

/-- C_N of a Deep mode (Table 6-4). -/
def deepChips (mode : Nat) : List Bool :=
  if mode = 4 then msbBits 32 0x7AE14C93
  else if mode = 5 then msbBits 64 0x9C5B23E60F74AD18
  else msbBits 128 0xE3A51F68C2B9470D5E86B13C9A742FD0

/-- The mode's preamble symbol (R169, R190, R191). -/
def preambleChips (mode : Nat) : List Bool := if deepMode mode then deepChips mode else symbolChips mode 0

/-! ### Correlation and decision (R169 to R171) -/

/-- Correlation of soft chips with a sequence; a chip of 1 is positive. -/
def corrOf (x : List Int) (seq : List Bool) : Int := ((x.zip seq).map (fun p => if p.2 then p.1 else -p.1)).sum

/-- Full correlation of soft chips: every chip agrees with its sequence (DEDUCED, log 117). -/
def fullOf (x : List Int) : Int := (x.map (fun c => (c.natAbs : Int))).sum

/-- The symbol of highest correlation among the 16 sequences of a mode, the lowest of equals, with its correlation (R170). -/
def decideSymbol (mode : Nat) (x : List Int) : Nat × Int :=
  ((List.range 15).map (· + 1)).foldl (fun b k => let c := corrOf x (symbolChips mode k); if b.2 < c then (k, c) else b)
    (0, corrOf x (symbolChips mode 0))

/-- Best correlation of one symbol period. A spread bit's carrier phase is not recovered, so its sign does not count (R171). -/
def bestCorr (mode : Nat) (x : List Int) : Int :=
  if deepMode mode then ((corrOf x (deepChips mode)).natAbs : Int) else (decideSymbol mode x).2

/-- A symbol reaches num/den of full correlation with the preamble symbol (R169, R180). -/
def qualifies (mode num den : Nat) (x : List Int) : Bool :=
  let c := corrOf x (preambleChips mode)
  let c : Int := if deepMode mode then c.natAbs else c
  decide (0 < fullOf x ∧ (num : Int) * fullOf x ≤ (den : Int) * c)

/-- A symbol period whose best correlation is below 12/64 of full (R174). -/
def lowSymbol (mode : Nat) (x : List Int) : Bool := decide (fullOf x = 0 ∨ 64 * bestCorr mode x < 12 * fullOf x)

/-- Normalised correlation of a symbol × 255 (Table 6-7). -/
def symbolQuality (mode : Nat) (x : List Int) : Nat :=
  if fullOf x = 0 then 0 else (bestCorr mode x * 255 / fullOf x).toNat

/-! ### The despread loop (R171, R172, R174) -/

/-- The loop at the start of a frame's PHR; ref is the correlation of the SFD's last symbol. -/
def RxLoop.start (ref word phase : Int) : RxLoop :=
  { ref := ref, word := word, phase := phase, low := 0, lost := false, qual := 0, count := 0 }

/-- The frequency word of the despread oscillator, held within ±1,000 ppm (R172). -/
def steer (word d : Int) : Int := max (-10000) (min 10000 (word + d))

/-- One symbol period: the timing-error detector corrects word and phase, the correlation is judged (R172, R174). -/
def RxLoop.take (mode : Nat) (l : RxLoop) (x : RxSym) : RxLoop :=
  let low := if lowSymbol mode x.chips then l.low + 1 else 0
  { ref := if deepMode mode then corrOf x.chips (deepChips mode) else l.ref
    word := steer l.word x.dWord, phase := l.phase + x.dPhase, low := low, lost := l.lost || decide (8 ≤ low)
    qual := l.qual + symbolQuality mode x.chips, count := l.count + 1 }

/-- Several symbol periods. -/
def RxLoop.run (mode : Nat) (l : RxLoop) (xs : List RxSym) : RxLoop := xs.foldl (RxLoop.take mode) l

/-- Mean normalised correlation × 255 (Table 6-7). -/
def RxLoop.lqi (l : RxLoop) : Nat := if l.count = 0 then 0 else l.qual / l.count

/-- Bits b_k of spread symbols: the sign of the product of the correlations of symbols k − 1 and k (R171). -/
def deepBits (mode : Nat) : Int → List (List Int) → List Bool
  | _, [] => []
  | ref, x :: xs =>
    let c := corrOf x (deepChips mode)
    decide (ref * c < 0) :: deepBits mode c xs

/-- Octets of bits, the least significant first (R171). -/
def octetsOfBits : List Bool → Bytes
  | a :: b :: c :: d :: e :: f :: g :: h :: rest =>
    BitVec.ofNat 8 ((([a, b, c, d, e, f, g, h].zip [1, 2, 4, 8, 16, 32, 64, 128]).map (fun p => if p.1 then p.2 else 0)).sum) :: octetsOfBits rest
  | _ => []

/-- Octets of data symbols, the low nibble first (R190). -/
def octetsOfSymbols : List Nat → Bytes
  | a :: b :: rest => BitVec.ofNat 8 (a + 16 * b) :: octetsOfSymbols rest
  | _ => []

/-- Octets despread from soft chips; ref is the correlation before them in a Deep mode. -/
def despread (mode : Nat) (ref : Int) (xs : List RxSym) : Bytes :=
  if deepMode mode then octetsOfBits (deepBits mode ref (xs.map (·.chips)))
  else octetsOfSymbols (xs.map (fun x => (decideSymbol mode x.chips).1))

/-- Symbol periods of n octets. -/
def symbolsOf (mode n : Nat) : Nat := if deepMode mode then 8 * n else 2 * n

/-- The SFD is found: the two symbols of 0xA7, or, after the last symbol of the preamble, 16 spread symbols with the bits of 0xE5B1
(R190, R191). -/
def sfdFound (mode : Nat) (xs : List (List Int)) : Bool :=
  if deepMode mode then
    match xs with
    | [] => false
    | p :: rest =>
      let c0 := corrOf p (deepChips mode)
      rest.map (fun x => decide (c0 * corrOf x (deepChips mode) < 0)) == msbBits 16 0xE5B1
  else xs.map (fun x => (decideSymbol mode x).1) == [7, 10]

/-- Correlation of the SFD's last symbol, the reference d_(−1) of a Deep mode. -/
def sfdRef (mode : Nat) (xs : List (List Int)) : Int :=
  match xs.getLast? with
  | some x => if deepMode mode then corrOf x (deepChips mode) else 0
  | none => 0

/-! ### What a transmission sends (R190 to R192) -/

/-- PSDU with the FCS that the transmit tile appends (R192). -/
def withFcs (psdu : Bytes) : Bytes := psdu ++ leBytes 2 (Crypto.fcs psdu)

/-- Bits of octets, the least significant first. -/
def bitsOf (bs : Bytes) : List Bool := bs.flatMap (fun b => (List.range 8).map (fun i => b.toNat.testBit i))

/-- Data symbols of octets, the low nibble first (R190). -/
def nibblesOf (bs : Bytes) : List Nat := bs.flatMap (fun b => [b.toNat % 16, b.toNat / 16])

/-- Spread symbols d_k = d_(k−1) xor b_k (R171). -/
def diffEncode : Bool → List Bool → List Bool
  | _, [] => []
  | d, b :: bs => (d != b) :: diffEncode (d != b) bs

/-- PHR: the length of the PSDU with FCS; bit [7] is sent as 0 (R190). -/
def phrOf (psdu : Bytes) : Bytes := leBytes 1 ((psdu.length + 2) % 128)

/-- Chips of a transmission, from the first of the preamble to the last of the PSDU (R190, R191). -/
def airChips (mode : Nat) (psdu : Bytes) : List Bool :=
  let body := phrOf psdu ++ withFcs psdu
  if deepMode mode then
    let ds := List.replicate 24 false ++ msbBits 16 0xE5B1 ++ diffEncode true (bitsOf body)
    ds.flatMap (fun d => (deepChips mode).map (fun c => c != d))
  else (nibblesOf (zeros 4 ++ leBytes 1 0xA7 ++ body)).flatMap (symbolChips mode)

/-! ### The composite signal (R193, R202) -/

/-- Value of a half-sine pulse of a chip, 32 samples long; a chip of 1 is a positive pulse. -/
def pulseOf (chips : List Bool) (k j : Nat) : Int :=
  match chips[k]? with
  | some c => if c then Config.halfSine j else -Config.halfSine j
  | none => 0

/-- Sample n of the modulator island, 16 per chip: even chips on I, odd chips, one chip later, on Q (R193). -/
def modSample (chips : List Bool) (n : Nat) : Int × Int :=
  (pulseOf chips (2 * (n / 32)) (n % 32), if n < 16 then 0 else pulseOf chips (2 * ((n - 16) / 32) + 1) ((n - 16) % 32))

/-- The modulator's stream of a transmission. -/
def modulate (chips : List Bool) : List (Int × Int) := (List.range (16 * chips.length + 16)).map (modSample chips)

/-- DAC rate of a port in kHz (R193). -/
def dacKhz (p : Nat) : Nat := if isPort p then 100000 else 40000

/-- Chip rate of a mode in kHz (Table 6-2). -/
def chipKhz (mode : Nat) : Nat := if mode = 1 then 2000 else if mode = 3 then 400 else 1000

/-- Sample k, at the DAC rate of port p, of one tile's stream: interpolated, shifted by f − `PORT_CENTRE_KHZ`, and scaled to the tile's
power under the ramp's envelope (R193, R202). The numbers of the filter, of the rotation and of the scale are the free functions of
Config. -/
def AirStream.sample (x : AirStream) (p k : Nat) : Int × Int :=
  let at0 := Config.interpolate (chipKhz x.mode * 16) (dacKhz p) (modulate x.chips) k
  Config.scaled x.power (Config.rotate x.shift (dacKhz p) k (Config.envelope (rampUs x.mode) k at0))

/-- The sum of the streams of all tiles in ramp or sending on a port, at DAC sample k (R193). -/
def dacSum (p : Nat) (l : List AirStream) (k : Nat) : Int × Int :=
  l.foldl (fun a x => let v := x.sample p k; (a.1 + v.1, a.2 + v.2)) (0, 0)

/-! ### Bins (R159, R161) -/

/-- Spacing of a port's 16 bins in kHz (Table 6-1). -/
def binKhz (p : Nat) : Nat := if isPort p then 6250 else 2500

/-- Centre of bin b of a port, kHz: bin 8 lies on the port's centre (DESIGN CHOICE, log 118). -/
def binCentre (p centre b : Nat) : Int := (centre : Int) + ((b : Int) - 8) * binKhz p

/-- The bin whose centre is nearest to f, the lower of two equally near (R161). -/
def binOf (p centre f : Nat) : Nat :=
  let off (b : Nat) : Nat := ((f : Int) - binCentre p centre b).natAbs
  ((List.range 15).map (· + 1)).foldl (fun b k => if off k < off b then k else b) 0

/-- Shift from the bin's centre to the channel, kHz (R161). -/
def binShift (p centre f : Nat) : Int := (f : Int) - binCentre p centre (binOf p centre f)

end Sys2Proof.Machine
end

