-- ==== Sys2Proof/Machine/Tiles.lean ====
section
/-! DEFINITION. Ports and tiles: access, the ends of transmissions with their reports, and the frames that a
port's tiles lose (RF Ports; Transmit Channels; Skiver). -/

namespace Sys2Proof.Machine

/-! ### Access -/

/-- A port as reset leaves it. -/
def Port.initial : Port :=
  { step := none, host := none, seq := false, own := none, since := 0, tries := 0, resume := none, back := none, centre := 0, fem := 0,
    gain := 0, gainAt := none, gains := [], burst := none, calibrated := false, lastCal := 0, diagSince := 0, lowBursts := 0, goodBursts := 0 }

/-- Islands as reset leaves them. -/
def Islands.initial : Islands := { phase := .off, since := 0, want := none }

/-- A receive tile as reset leaves it. -/
def RxTile.initial : RxTile :=
  { isl := Islands.initial, next := none, triple := none, frame := none, bin := 0, shift := 0, calUntil := 0, histFrom := 0,
    blankSince := none, bad := [], edgePosted := none, noTilePosted := none }

/-- A transmit tile as reset leaves it. -/
def TxTile.initial : TxTile := { isl := Islands.initial, job := none, posted := none }

/-- Replace the radio. -/
def State.setRadio (s : State) (x : Radio) : State := { s with radio := x }

/-- Port p. -/
def State.port (s : State) (p : Nat) : Port := s.radio.ports.getD p Port.initial

/-- Replace port p. -/
def State.setPort (s : State) (p : Nat) (x : Port) : State :=
  { s with radio := { s.radio with ports := vmod (fun _ => x) p s.radio.ports } }

/-- Receive tile n. -/
def State.rx (s : State) (n : Nat) : RxTile := s.radio.rx.getD n RxTile.initial

/-- Replace receive tile n. -/
def State.setRx (s : State) (n : Nat) (x : RxTile) : State :=
  { s with radio := { s.radio with rx := vmod (fun _ => x) n s.radio.rx } }

/-- Transmit tile n. -/
def State.tx (s : State) (n : Nat) : TxTile := s.radio.tx.getD n TxTile.initial

/-- Replace transmit tile n. -/
def State.setTx (s : State) (n : Nat) (x : TxTile) : State :=
  { s with radio := { s.radio with tx := vmod (fun _ => x) n s.radio.tx } }

/-- `PORT_STATE`: 0 SLEEP, 1 STANDBY, 2 SYNTH, 3 RX, 4 TX. -/
abbrev State.pstate (s : State) (p : Nat) : Nat := s.rd (Key.portState p)

/-- Receive tiles whose placement lies on port p. -/
def State.rxOn (s : State) (p : Nat) : List Nat :=
  (List.range 64).filter (fun n => s.rd (Key.rxcPlaced n) != unplaced && placePort (s.rd (Key.rxcPlaced n)) == p)

/-- Transmit tiles that hold a transmission on port p. -/
def State.jobsOn (s : State) (p : Nat) : List Nat :=
  (List.range 16).filter (fun n => match (s.tx n).job with
    | some j => j.req.port == p
    | none => false)

/-- The tile is in ramp or sending. -/
def State.onAir (s : State) (n : Nat) : Bool := decide (3 ≤ s.rd (Key.txcState n))

/-- Transmit tiles in ramp or sending on port p. -/
def State.airOn (s : State) (p : Nat) : List Nat := (s.jobsOn p).filter (fun n => s.onAir n)

/-- Port of a tile's placement. -/
def State.rxPort (s : State) (n : Nat) : Nat := placePort (s.rd (Key.rxcPlaced n))

/-- Mode of a tile's placement. -/
def State.rxMode (s : State) (n : Nat) : Nat := placeMode (s.rd (Key.rxcPlaced n))

/-- Tiles in ramp or sending on the device (R198). -/
def State.airCount (s : State) : Nat := ((List.range 16).filter (fun n => s.onAir n)).length

/-- Post with the source of port p. -/
def State.portPost (s : State) (c : Err) (p : Nat) (arg : Nat := 0) (arg2 : Nat := 0) : State := s.post c (0x2000 + p) arg arg2

/-- Post with the source of receive tile n and its despread domain (R189). -/
def State.rxPost (s : State) (c : Err) (n : Nat) (arg : Nat := 0) (arg2 : Nat := 0) : State :=
  s.post c (0x2100 + n) arg arg2 (2 * n + 1)

/-! ### Candidates and aborted frames -/

/-- Candidates fail (R182, R185). -/
def State.failCands (s : State) (n k : Nat) : State := s.bump (Key.bsFailed n) k

/-- The tile's frame ends without a frame for the checks; its candidates fail. The tile returns to
listening, or is off where its port is below RX. -/
def State.rxIdle (s : State) (n : Nat) : State :=
  let t := s.rx n
  let p := placePort (s.rd (Key.rxcPlaced n))
  let s := match t.frame with
    | some f => s.failCands n f.cands.length
    | none => s
  (s.setRx n { t with frame := none }).wr (Key.rxcState n) (if 3 ≤ s.pstate p then 1 else 0)

/-- The tile holds a detection or a frame. -/
def State.rxBusy (s : State) (n : Nat) : Bool := decide (2 ≤ s.rd (Key.rxcState n))

/-! ### Sample history (R179) -/

/-- Block of 256 samples (64 µs) of an elapsed time (log 123). -/
def histBlock (t : Nat) : Nat := t / 16000

/-- Blocks touched from a to b are invalid; blocks that the ring of 128 has overwritten are forgotten. -/
def RxTile.spoil (t : RxTile) (a b : Nat) : RxTile :=
  { t with bad := (histBlock a, histBlock b) :: t.bad.filter (fun x => decide (histBlock b ≤ x.2 + 128)) }

/-- The tile is blanked from now on. -/
def RxTile.blankOn (t : RxTile) (now : Nat) : RxTile := { t with blankSince := some (t.blankSince.getD now) }

/-- The blanking ends; the blocks it touched are invalid. -/
def RxTile.blankOff (t : RxTile) (now : Nat) : RxTile :=
  match t.blankSince with
  | some a => { t.spoil a now with blankSince := none }
  | none => t

/-- The port is blanked: every frame in detection or reception is aborted (R136), and the port's tiles are blanked from this
instant on (R179). -/
def State.preempt (s : State) (p : Nat) : State :=
  s.each (s.rxOn p) (fun s n =>
    let s := if s.rxBusy n then (s.rxPost .rxPreempted n p).rxIdle n else s
    s.setRx n ((s.rx n).blankOn s.elapsed))

/-! ### Islands (R140, R141) -/

/-- A request to start or stop a tile's islands; one for the state already reached is discarded. -/
def Islands.ask (i : Islands) (on : Bool) : Islands :=
  let there := match i.phase with
    | .on => on
    | .off => !on
    | .starting | .stopping => false
  { i with want := if there then none else some on }

/-- A pending request starts its sequence once the dwell of 10 µs has passed. -/
def Islands.serve (i : Islands) (now : Nat) : Islands :=
  if now < i.since + us 10 then i
  else match i.phase, i.want with
    | .off, some true => { i with phase := .starting, want := none }
    | .on, some false => { i with phase := .stopping, want := none }
    | .off, _ | .on, _ | .starting, _ | .stopping, _ => i

/-- The islands of a tile. -/
def State.isl (s : State) (t : Tile) : Islands :=
  match t with
  | .rx n => (s.rx n).isl
  | .tx n => (s.tx n).isl
  | .core n => s.power.coreIslands.getD n Islands.atReset

/-- Replace the islands of a tile. -/
def State.setIsl (s : State) (t : Tile) (i : Islands) : State :=
  match t with
  | .rx n => s.setRx n { (s.rx n) with isl := i }
  | .tx n => s.setTx n { (s.tx n) with isl := i }
  | .core n => { s with power := { s.power with coreIslands := vmod (fun _ => i) n s.power.coreIslands } }

/-- Replace the islands of receive tile n. -/
def State.setRxIsl (s : State) (n : Nat) (i : Islands) : State := s.setRx n { (s.rx n) with isl := i }

/-- A receive tile's islands are on while it is placed on a port in RX or TX (R140). -/
def State.rxWanted (s : State) (n : Nat) : Bool :=
  let w := s.rd (Key.rxcPlaced n)
  w != unplaced && decide (3 ≤ s.pstate (placePort w))

/-- Ask for a receive tile's islands as R140 wants them; a tile without them is off. It writes valid samples only while it is on
and its port is in RX (R129, R179). -/
def State.rxAsk (s : State) (n : Nat) : State :=
  let on := s.rxWanted n
  let t := s.rx n
  let up := on && t.isl.phase == .on
  let hears := up && s.pstate (s.rxPort n) == 3
  let t := if hears then t.blankOff s.elapsed else t.blankOn s.elapsed
  let s := s.setRx n { t with isl := t.isl.ask on }
  if s.rxBusy n then s else s.wr (Key.rxcState n) (if up then 1 else 0)

/-- The tiles of port p follow a change of its state. -/
def State.rxFollow (s : State) (p : Nat) : State := s.each (s.rxOn p) (fun s n => s.rxAsk n)

/-! ### Reports and ends of transmissions (R205, R206) -/

/-- Outcome codes of Table 7-5. -/
def txOk : Nat := 0
def txLbtBusy : Nat := 1
def txDutyBlock : Nat := 2
def txCinchDefer : Nat := 3
def txNoHeadroom : Nat := 4
def txPortHeld : Nat := 5
def txAborted : Nat := 6
def txMask : Nat := 7
def txMap : Nat := 8
def txNoTile : Nat := 9
def txBadFrame : Nat := 10

/-- The 64-bit report (Table 7-4). -/
def txReportWord (stamp code channel port mode : Nat) (cut : Bool) (power : Int) : Nat :=
  stamp % 2 ^ 32 * 2 ^ 32 + code * 2 ^ 24 + channel * 2 ^ 20 + port * 2 ^ 18 + mode * 2 ^ 14
    + (if cut then 2 ^ 13 else 0) + toRaw 8 power

/-- Count an outcome on its tile, or post it, with the port's index where no tile was taken (R206). A grant below the request
counts whatever the outcome (R199). -/
def State.txCount (s : State) (tile : Option Nat) (p code : Nat) (cut : Bool) : State :=
  let src := match tile with
    | some n => 0x2200 + n
    | none => 0x2000 + p
  let n := tile.getD 0
  let s := if cut then s.bump (Key.txPowerCut n) else s
  if code = txOk then s.bump (Key.txFrames n)
  else if code = txLbtBusy then s.bump (Key.txLbtBusy n)
  else if code = txDutyBlock then s.bump (Key.txDutyBlock n)
  else if code = txCinchDefer then s.bump (Key.txCinchDefer n)
  else if code = txNoHeadroom then s.post .txNoHeadroom src
  else if code = txPortHeld then s.post .portHeld src
  else if code = txAborted then s.post .txAborted src
  else if code = txMask then s.post .txMask src
  else if code = txMap then s.post .txMap src
  else if code = txNoTile then s.post .txNoTile src
  else s.post .txBadFrame src

/-- What Girth does with the outcome of a transmission whose last chip left at an elapsed time (R227, R228, R256, R263, R505). -/
def State.txReport (s : State) (q : TxReq) (code word octets last : Nat) : State :=
  let s := if code ≠ txOk ∧ (q.code.isNone ∨ q.granted.isSome) then s.bump Key.schedMissed else s
  match q.kind with
  | .answer r =>
    if code = txOk then
      s.modCell r (fun c => c.uplink && c.holds q.due) (fun c => { c with answerUs := some (frameUs q.mode octets) })
    else s
  | .assocRsp _ | .beacon _ _ => s
  | .lacing k => if code = txOk then s else s.laceFailed k q
  | .downlink r =>
    let s := s.modHead r (fun f => { f with lastReport := word })
    if code = txOk then
      let s := s.modHead r (fun f => { f with sent := true })
      let s := s.modCell r (fun c => !c.uplink && c.holds q.due) (fun c => { c with frameUs := some (frameUs q.mode octets) })
      s.setRec r { (s.nrec r) with ack := some { dsn := (leNat (slice q.draft.mhr 2 1)), lastChip := last } }
    else s.attemptFailed r
  | .broadcast _ h rep =>
    s.reportFinal (if rep then h else none) word (if code = txOk then 0 else 2)

/-- Buckets of a port's sub-band at any reset: the current one empty, the others full (R201). -/
def dutyReset (duty : Nat) : List Nat := 0 :: List.replicate 59 (duty * 6000)

/-- Duty buckets of sub-band i of port p. -/
def State.dutyOf (s : State) (p i : Nat) : List Nat :=
  KMap.getD s.radio.duty (dutyReset (subBand (s.stampBytes p) i).duty) (8 * p + i)

/-- Add airtime to the current bucket. -/
def State.addAir (s : State) (p i t : Nat) : State :=
  { s with radio := { s.radio with duty := KMap.put s.radio.duty (8 * p + i) (modifyAt (· + t) 0 (s.dutyOf p i)) } }

/-- Pinned transmit tiles (R194). A pin that Girth's transmissions leave no place for waits for one of them to end (R195; log 124);
a tile that holds a transmission keeps its placement until it ends. -/
def State.placeTx (s : State) : State :=
  s.each (List.range 16) (fun s n =>
    let w := s.rd (Key.txcPin n)
    let t := s.tx n
    if t.job.isSome then s
    else if s.rd (Key.txcOwner n) ≠ 1 ∨ w = 0 then s.wr (Key.txcPlaced n) unplaced
    else
      let p := placePort w
      let c := (s.port p).centre
      let on (m : Nat) : Bool := s.rd (Key.txcPlaced m) != unplaced && placePort (s.rd (Key.txcPlaced m)) == p
      let pins := ((List.range n).filter (fun m => s.rd (Key.txcOwner m) == 1 && on m)).length
      let busy := ((List.range 16).filter (fun m => (s.rd (Key.txcOwner m) != 1 || decide (n < m)) && (s.tx m).job.isSome && on m)).length
      if fits p c (placeFreq w) (placeMode w) && decide (pins < 8) then
        s.wr (Key.txcPlaced n) (if pins + busy < 8 then w else unplaced)
      else
        let s := s.wr (Key.txcPlaced n) unplaced
        if t.posted = some (w, c) then s
        else (s.setTx n { t with posted := some (w, c) }).post .txcNoTile (0x2200 + n))

/-- Streams of the tiles in ramp or sending on a port. -/
def State.streamsOn (s : State) (p : Nat) : List AirStream :=
  (s.airOn p).filterMap (fun n => (s.tx n).job.map (fun j =>
    { tile := n, mode := j.req.mode, shift := (j.req.freq : Int) - (s.port p).centre, power := j.power, first := j.first,
      chips := airChips j.req.mode j.psdu }))

/-- The composite signal of a port has changed (R193). -/
def State.airOut (s : State) (p : Nat) : State := s.emit (.radio p (s.streamsOn p))

/-- A transmit tile of port p starts or ends: a new stretch of steady power begins (R155). -/
def State.burstMark (s : State) (p : Nat) : State := s.setPort p { (s.port p) with burst := some s.elapsed }

/-- Airtime in µs that a transmission has used, its ramp-down included (R201). -/
def TxJob.used (j : TxJob) (now : Nat) : Nat :=
  match j.rampAt with
  | some a => min j.airtime ((j.aborted.getD now - a + 249) / 250 + rampUs j.req.mode)
  | none => 0

/-- The transmission of tile n ends with an outcome: energy, duty, counts, report and what follows from it;
the tile is off (Table 7-6). -/
def State.txFinish (s : State) (n code : Nat) : State :=
  match (s.tx n).job with
  | none => s
  | some j =>
    let used := j.used s.elapsed
    let s := if j.rampAt.isNone then s.release j.grant
      else if code = txOk then s
      else s.release (j.grant - min j.grant (s.txEnergy used j.power))
    let s := if j.rampAt.isSome then s.addAir j.req.port j.sub (if code = txOk then j.airtime else used) else s
    let s := s.txCount (some n) j.req.port code j.cut
    let word := if j.rampAt.isSome then
        txReportWord (j.first + shrUs j.req.mode * 1000) code n j.req.port j.req.mode j.cut (j.power + 2 * s.femGain j.req.port)
      else txReportWord 0 code n j.req.port j.req.mode false 0
    let s := s.setTx n { (s.tx n) with job := none, isl := (s.tx n).isl.ask false }
    let s := s.wr (Key.txcState n) 0
    let s := if s.rd (Key.txcOwner n) = 1 then s else s.wr (Key.txcPlaced n) unplaced
    let s := if j.rampAt.isSome then (s.airOut j.req.port).burstMark j.req.port else s
    let octets := j.psdu.length + 2
    s.placeTx.txReport j.req code word octets (j.rampAt.getD 0 + us (rampUs j.req.mode + frameUs j.req.mode octets))

/-- A transmission that took no tile ends with an outcome. -/
def State.txRefuse (s : State) (q : TxReq) (tile : Option Nat) (code octets : Nat) : State :=
  let s := match q.granted with
    | some e => s.release e
    | none => s
  (s.txCount tile q.port code false).txReport q code (txReportWord 0 code (tile.getD 0) q.port q.mode false 0) octets 0

/-- Every transmission on air of port p ramps down at once; it ends when its ramp-down does (R203). -/
def State.abortAir (s : State) (p : Nat) : State :=
  s.each (s.airOn p) (fun s n => match (s.tx n).job with
    | some j =>
      if j.aborted.isSome then s
      else ((s.wr (Key.txcState n) 3).setTx n { (s.tx n) with job := some { j with ended := true, aborted := some s.elapsed } }).burstMark p
    | none => s)

/-! ### Front-end pins (R127, R128, Table 5-4) -/

/-- Level of an enable pin of a polarity: 1 is active low. -/
def femLevel (on pol : Bool) : Bool := on != pol

/-- The pins of port p as its state and the sampled `PORT_FEM_CFG` want them; hold keeps them as in SYNTH (calibration). An enable
that comes on did so its lead before the state was reached. -/
def State.femDrive (s : State) (p st : Nat) (hold : Bool) : State :=
  let c := (s.port p).fem
  let live := bitOf c 0 && !hold
  let lna := live && st == 3
  let pa := live && st == 4
  let x := s.pins.fem.getD p { lna := none, pa := none, ant := none, lnaAt := 0, paAt := 0 }
  let lnaPin := femLevel lna (bitOf c 1)
  let paPin := femLevel pa (bitOf c 2)
  let y : FemPin :=
    { lna := some lnaPin, pa := some paPin, ant := some (if lna then bits c 16 2 else if pa then bits c 18 2 else bits c 14 2)
      lnaAt := if lna && x.lna != some lnaPin then s.elapsed - us (bits c 20 4) else x.lnaAt
      paAt := if pa && x.pa != some paPin then s.elapsed - us (bits c 24 4) else x.paAt }
  { s with pins := { s.pins with fem := vmod (fun _ => y) p s.pins.fem } }

/-! ### Placements taken (R161, R164) -/

/-- Bin and shift of a placement on its port's present centre (R161). -/
def State.binned (s : State) (w : Nat) (t : RxTile) : RxTile :=
  let p := placePort w
  { t with bin := binOf p (s.port p).centre (placeFreq w), shift := binShift p (s.port p).centre (placeFreq w) }

/-- Tile n takes placement w. On its own port only the block of the change is invalid; a move to another port invalidates the whole
history, and the islands stop and start again (R164, R179). -/
def State.rxTake (s : State) (n w : Nat) : State :=
  let old := s.rd (Key.rxcPlaced n)
  let moved := old = unplaced || placePort old != placePort w
  let t := s.rx n
  let t := if moved then { t with histFrom := s.elapsed, bad := [], blankSince := some s.elapsed } else t.spoil s.elapsed s.elapsed
  let s := (s.setRx n { s.binned w t with next := none }).wr (Key.rxcPlaced n) w
  if moved && t.isl.phase == .on then (s.setRxIsl n ((s.rx n).isl.ask false)).wr (Key.rxcState n) 0 else s.rxAsk n

/-- Tile n leaves its placement; it may be bound for another. -/
def State.rxLeave (s : State) (n : Nat) (next : Option Nat) : State :=
  ((s.setRx n { (s.rx n) with next := next }).wr (Key.rxcPlaced n) unplaced).rxAsk n

/-- Tiles that port p holds, other than n (R7). -/
def State.rxOthers (s : State) (p n : Nat) : Nat := ((s.rxOn p).filter (· != n)).length

/-- Tile n, at its safe point, goes to the placement it is bound for: at once where that port is in RX or TX, when it reaches RX
otherwise (R164, R177). -/
def State.rxMove (s : State) (n : Nat) : State :=
  match (s.rx n).next with
  | none => s
  | some w =>
    let p := placePort w
    if s.rxBusy n then s
    else if w = unplaced then s.rxLeave n none
    else if 3 ≤ s.pstate p ∧ s.rxOthers p n < 32 then s.rxTake n w
    else if s.rd (Key.rxcPlaced n) = unplaced then s
    else s.rxLeave n (some w)

end Sys2Proof.Machine
end

