-- ==== Sys2Proof/Machine/Ports.lean ====
section
/-! DEFINITION. Port states, the placement of receive and transmit tiles, retunes and loss of lock (R126 to
R139, R161 to R165, R177, R194, R218). -/

namespace Sys2Proof.Machine

/-! ### Placement (R93, R161, R162, R194, R218) -/

/-- A demanded triple with its order: tenant, port, raster channel, mode; its placement word; and whether it
comes from an old map only (R93). -/
structure Demand where
  tenant : Nat
  port : Nat
  chan : Nat
  mode : Nat
  word : Nat
  old : Bool
  deriving DecidableEq, Repr

/-- Beacon modes of a tenant on a port (R218). -/
def State.beaconModes (s : State) (t p : Nat) : List Nat :=
  let held := (s.heldRecs.filter (fun q => q.2.tenant == t)).map (fun q => q.2.mode)
  let own := [1, 2, 3, 4, 5, 6].filter (fun m => modeLegal p m && held.contains m)
  if own.isEmpty then (if isPort p then [1] else [6]) else own

/-- Triples of one tenant's map words on a port, that fit the port's window (R161, R165). -/
def State.mapDemand (s : State) (t p map : Nat) (old : Bool) : List Demand :=
  (List.range 64).flatMap (fun k =>
    if bitOf map k then
      match s.raster p k with
      | some f => (s.beaconModes t p).filterMap (fun m =>
          if fits p (s.port p).centre f m then some { tenant := t, port := p, chan := k, mode := m, word := placeWord m p f, old := old } else none)
      | none => []
    else [])

/-- Demands without repeats of a placement, the first in order kept. -/
def dedupe : List Nat → List Demand → List Demand
  | _, [] => []
  | seen, d :: ds => if seen.contains d.word then dedupe seen ds else d :: dedupe (d.word :: seen) ds

/-- Girth's demand set in its order; old-map triples of a running grace come last (R93, R162, R218). -/
def State.demands (s : State) : List Demand :=
  let tenants := (List.range 256).filter (fun t => (s.served t).isSome)
  let now := tenants.flatMap (fun t => (List.range 4).flatMap (fun p => s.mapDemand t p (s.rd (Key.tenChmap t p)) false))
  let olds := s.dict.graces.flatMap (fun g =>
    if (s.served g.tenant).isSome then (List.range 4).flatMap (fun p => s.mapDemand g.tenant p (g.oldMaps.getD p 0) true) else [])
  dedupe [] (now ++ olds)

/-- Placement that a tile is bound for. -/
def State.bound (s : State) (n : Nat) : Nat :=
  match (s.rx n).next with
  | some w => w
  | none => s.rd (Key.rxcPlaced n)

/-- An assignment of tiles in progress: placement words by tile. -/
abbrev Plan := List Nat

/-- Tiles of a plan on port p. -/
def planCount (l : Plan) (p : Nat) : Nat := (l.filter (fun w => w != unplaced && placePort w == p)).length

/-- Place the pinned tiles in order (R161, R162 item 1). -/
def State.placePins (s : State) : State × Plan :=
  (List.range 64).foldl (fun (x : State × Plan) n =>
    let (s, l) := x
    let w := s.rd (Key.rxcPin n)
    let t := s.rx n
    if s.rd (Key.rxcOwner n) ≠ 1 ∨ w = 0 then (s, l ++ [unplaced])
    else
      let p := placePort w
      let c := (s.port p).centre
      if !fits p c (placeFreq w) (placeMode w) then
        if t.edgePosted = some (w, c) then (s, l ++ [unplaced])
        else ((s.setRx n { t with edgePosted := some (w, c) }).rxPost .rxcEdge n w c, l ++ [unplaced])
      else if 32 ≤ planCount l p then
        if t.noTilePosted = some (w, c) then (s, l ++ [unplaced])
        else ((s.setRx n { t with noTilePosted := some (w, c) }).rxPost .rxcNoTile n w (planCount l p), l ++ [unplaced])
      else (s, l ++ [w])) (s, [])

/-- Girth-owned tiles that hold a triple still in demand keep it, in tile order, as far as their port's 32 tiles go (R162 items 1
and 2; log 125). -/
def State.keepTriples (s : State) (ds : List Demand) (l : Plan) : Plan :=
  (List.range 64).foldl (fun (l : Plan) n =>
    let w := s.bound n
    if s.rd (Key.rxcOwner n) ≠ 1 ∧ ds.any (fun d => d.word == w) ∧ planCount l (placePort w) < 32 then modifyAt (fun _ => w) n l else l) l

/-- A Girth-owned tile of the plan holds the placement: a pinned tile serves no triple (R162, R163). -/
def State.planned (s : State) (l : Plan) (w : Nat) : Bool :=
  (List.range 64).any (fun n => s.rd (Key.rxcOwner n) == 0 && l.getD n unplaced == w)

/-- A free tile for a demand: the lowest homed in its port, else the lowest of the device (R162 item 3). -/
def State.freeTile (s : State) (l : Plan) (d : Demand) : Option Nat :=
  let free (n : Nat) : Bool := s.rd (Key.rxcOwner n) == 0 && l.getD n unplaced == unplaced
  if 32 ≤ planCount l d.port then none
  else match (List.range 16).find? (fun i => free (16 * d.port + i)) with
    | some i => some (16 * d.port + i)
    | none => (List.range 64).find? free

/-- The old-map triple, last in order, that gives way to a new-map triple of port p: any port's where no tile
is free, the port's own where the port is full (R93). -/
def State.planVictim (s : State) (ds : List Demand) (l : Plan) (p : Nat) : Option Nat :=
  let full := decide (32 ≤ planCount l p)
  let olds := (ds.filter (fun d => d.old && (!full || d.port == p) && s.planned l d.word)).reverse
  match olds with
  | d :: _ => (List.range 64).find? (fun n => s.rd (Key.rxcOwner n) == 0 && l.getD n unplaced == d.word)
  | [] => none

/-- Place the demands that hold no tile. -/
def State.placeRest (s : State) (ds : List Demand) (l : Plan) : State × Plan :=
  ds.foldl (fun (x : State × Plan) d =>
    let (s, l) := x
    if s.planned l d.word then (s, l)
    else match s.freeTile l d with
      | some n => (s, modifyAt (fun _ => d.word) n l)
      | none =>
        if d.old then
          match s.dict.graces.find? (fun g => g.tenant == d.tenant) with
          | some g =>
            if g.counted.contains d.word then (s, l)
            else
              let gs := s.dict.graces.map (fun h => if h.tenant = d.tenant then { h with counted := d.word :: h.counted } else h)
              (({ s with dict := { s.dict with graces := gs } }).bump Key.graceUnplaced, l)
          | none => (s, l)
        else
          match s.planVictim ds l d.port with
          | some v =>
            let l := modifyAt (fun _ => unplaced) v l
            match s.freeTile l d with
            | some n => (s, modifyAt (fun _ => d.word) n l)
            | none => (s, l)
          | none => (s.portPost .rxcNoTile d.port d.word (planCount l d.port), l)) (s, l)

/-! ### The port state machine (Table 5-6) -/

/-- State named by `PORT_AUTO_RETURN` (R132). -/
def State.autoReturn (s : State) (p : Nat) : Nat := s.rd (Key.portAutoReturn p)

/-- Transmissions of port p that need no listen, or have found their channel clear. -/
def State.jobsClear (s : State) (p : Nat) : List Nat :=
  (s.jobsOn p).filter (fun n => match (s.tx n).job with
    | some j => !j.lbt || j.clear
    | none => false)

/-- Where Girth's transmissions take port p: to TX for one that needs no listen, else to RX for those that must listen first. Girth
never raises a port from SLEEP (R132, R200). -/
def State.girthTarget (s : State) (p : Nat) : Option Nat :=
  if s.pstate p = 0 ∨ s.autoReturn p = 0 ∨ (s.jobsOn p).isEmpty then none
  else some (if (s.jobsClear p).isEmpty then 3 else 4)

/-- State that the requests of port p ask for, in the order of R135: power sequencer, host, the return after a relock or retune, Girth,
the device's own raising, and the return of R132. -/
def State.portTarget (s : State) (p : Nat) : Option Nat :=
  let x := s.port p
  if x.seq || s.radioHeld then some 0
  else match x.host with
    | some t => some t
    | none =>
      match x.back with
      | some t => some t
      | none =>
        match s.girthTarget p with
        | some t => some t
        | none =>
          match x.own with
          | some t => some t
          | none => if s.pstate p = 4 ∧ (s.jobsOn p).isEmpty ∧ s.autoReturn p ≠ 0 then some (s.autoReturn p) else none

/-- Next state on the way from a state to a target (R130, Table 5-6). -/
def nextState (st t : Nat) : Nat :=
  if st < t then (if st = 2 then t else st + 1)
  else if st = 4 then (if t = 3 then 3 else 2)
  else st - 1

/-- The minimum dwell of SLEEP and STANDBY has passed (R135 item 2). -/
def State.dwellOver (s : State) (p : Nat) : Bool :=
  let x := s.port p
  if s.pstate p = 0 then decide (x.since + us 1000 ≤ s.elapsed)
  else if s.pstate p = 1 then decide (x.since + us 20 ≤ s.elapsed)
  else true

/-- Requests that a state satisfies end (R134, R135 item 4). -/
def State.portSettle (s : State) (p t : Nat) : State :=
  let x := s.port p
  let x := { x with back := none, own := none }
  if x.seq || s.radioHeld then s.setPort p { x with seq := false, own := if s.radioHeld then none else (s.port p).own, host := if x.host = some t || s.radioHeld then none else x.host }
  else match x.host with
    | some _ => (s.setPort p { x with host := none }).resEndIfBusy (Key.portStateRes p) 0
    | none => s.setPort p x

/-- The port takes the centre of its object, once its present transmissions have ended; its tiles' bins follow (R133, R138, R165). -/
def State.takeCentre (s : State) (p : Nat) : State :=
  let s := s.setPort p { (s.port p) with centre := s.rd (Key.portCentreKhz p) }
  s.each (s.rxOn p) (fun s n => s.setRx n { s.binned (s.rd (Key.rxcPlaced n)) (s.rx n) with histFrom := s.elapsed })

/-- A relock or retune waits for the port's ramp-downs; then the port is in SYNTH and locks (R135 item 3, R137, R138). -/
def State.relockGo (s : State) (p : Nat) : State :=
  let x := s.port p
  if x.resume.isNone || x.step.isSome || !(s.airOn p).isEmpty then s
  else
    let s := ((s.wrEdge (Key.portState p) 2 (16 + p)).setPort p { x with step := some 2, since := s.elapsed }).rxFollow p
    s.femDrive p 2 false

/-- At a safe point the port starts its next step, or ends the requests that its state satisfies. -/
def State.portGo : Nat → State → Nat → State
  | 0, s, _ => s
  | n + 1, s, p =>
    let x := s.port p
    if x.step.isSome then s
    else if x.resume.isSome then s.relockGo p
    else match s.portTarget p with
      | none => s
      | some t =>
        let st := s.pstate p
        if st = t then
          if x.seq || x.host.isSome || x.own.isSome || x.back.isSome then State.portGo n (s.portSettle p t) p else s
        else if !s.dwellOver p || (st == 4 && !(s.airOn p).isEmpty) then s
        else
          let dest := nextState st t
          let s := if st = 3 ∧ dest = 4 then s.preempt p else s
          let x := s.port p
          s.setPort p { x with step := some dest, fem := if st = 0 ∨ st = 2 then s.rd (Key.portFemCfg p) else x.fem,
                               tries := if st = 1 ∧ 3 ≤ x.tries then 0 else x.tries }

/-- Start the port's work as far as it can go now. -/
def State.portRun (s : State) (p : Nat) : State := State.portGo 8 s p

/-- The port enters a state: its pins are driven, and its tiles follow; in RX or TX those bound for it take their placements (R128,
R129, R164, R177). -/
def State.portEnter (s : State) (p st : Nat) : State :=
  let s := s.wrEdge (Key.portState p) st (16 + p)
  let s := (s.setPort p { (s.port p) with step := none, since := s.elapsed }).femDrive p st false
  let s := if 3 ≤ st then
      s.each ((List.range 64).filter (fun n => match (s.rx n).next with
        | some w => w != unplaced && placePort w == p
        | none => false)) (fun s n => s.rxMove n)
    else s
  s.rxFollow p

/-- A power-sequencer request for SLEEP replaces all others (R135 item 3). -/
def State.portSleep (s : State) (p : Nat) : State :=
  let x := s.port p
  let s := s.resEndIfBusy (Key.portStateRes p) 2
  (s.setPort p { x with seq := true, host := none, own := none, back := none }).portRun p

/-- A shutdown or thermal trip: every transmission ramps down at once, and the path to SLEEP starts when the ramp-downs end (R135 item
3, R203). -/
def State.portShut (s : State) (p : Nat) : State := (s.abortAir p).portSleep p

/-- A warm reset: transmissions on air are aborted, those not yet on air are not sent, and the port is in SLEEP; the ramp-downs lie
within the reset (Table 5-6, R203; log 24). -/
def State.portStop (s : State) (p : Nat) : State :=
  let s := s.each (s.airOn p) (fun s n => s.txFinish n txAborted)
  let s := s.each (s.jobsOn p) (fun s n => s.txFinish n txPortHeld)
  let s := (s.preempt p).resEndIfBusy (Key.portStateRes p) 2
  let s := s.setPort p { (s.port p) with host := none, own := none, back := none, seq := false, resume := none }
  s.portEnter p 0

/-! ### Placement taking effect (R133, R162, R164) -/

/-- Ports that a plan or the pinned transmit tiles give a placement. -/
def State.portHeld (s : State) (l : Plan) (p : Nat) : Bool :=
  decide (0 < planCount l p) || (List.range 16).any (fun n => s.rd (Key.txcOwner n) == 1 && s.rd (Key.txcPlaced n) != unplaced
    && placePort (s.rd (Key.txcPlaced n)) == p)

/-- The placement computation at start-up and at every change of pins, channel maps, records or port
centres. New placements wait for their tiles' safe points; a port in SLEEP that comes to hold a placement,
or one that lost its lock, is raised (R133, R137, R162). -/
def State.placeAll (s : State) : State :=
  let before := (List.range 4).map (fun p => s.portHeld ((List.range 64).map (fun n => s.bound n)) p)
  let ds := s.demands
  let (s, pins) := s.placePins
  let (s, plan) := s.placeRest ds (s.keepTriples ds pins)
  let s := s.placeTx
  let s := s.each (List.range 64) (fun s n =>
    let w := plan.getD n unplaced
    let t := s.rx n
    let owner : Option Nat := if s.rd (Key.rxcOwner n) = 1 then none else (ds.find? (fun d => d.word == w)).map (·.tenant)
    s.setRx n { t with next := if w = s.rd (Key.rxcPlaced n) then none else some w, triple := owner })
  s.each (List.range 4) (fun s p =>
    let x := s.port p
    let raise := s.portHeld plan p && s.autoReturn p != 0
      && ((s.pstate p == 0 && !before.getD p false) || (s.pstate p == 1 && decide (3 ≤ x.tries)))
    if raise && s.dict.ready && !s.radioHeld then (s.setPort p { x with own := some (s.autoReturn p) }).portRun p else s)

/-- `PLACEMENT_CHANGE`: tile n is at its safe point and takes its new placement (R164). -/
def execPlacementChange (n : Fin 64) (s : State) : Step := .next (s.rxMove n)

/-! ### Port commands -/

/-- A run of `PORT_STATE_CMD` starts (R134); while the power sequencer holds the ports it is overridden (R135). -/
def State.portCmd (s : State) (p t : Nat) : State :=
  let s := s.resBegin (Key.portStateRes p)
  if s.radioHeld then s.resEnd (Key.portStateRes p) 2 else
  (s.setPort p { (s.port p) with host := some t, back := none }).portRun p

/-- `PORT_STATE_CMD`: nothing while a run is in progress (R85). -/
def execPortStateCmd (p : Fin 4) (t : Fin 5) (s : State) : Step :=
  .next (if s.cmdBlocked (Key.portStateRes p.val) then s else s.portCmd p t)

/-- Three lock attempts in a row have failed (R137). -/
def State.lockFailed (s : State) (p : Nat) : State :=
  let s := s.resEndIfBusy (Key.portStateRes p) 1
  let s := s.each (s.jobsOn p) (fun s n => s.txFinish n txPortHeld)
  let s := s.setPort p { (s.port p) with host := none, own := none, back := none, resume := none, tries := 3 }
  (s.portEnter p 1).portPost .synthUnlock p

/-- Status of a calibration code. -/
def calErr (code : Nat) : Err :=
  if code = 1 then .calDisturbed else if code = 2 then .calRange else if code = 3 then .calNoWindow else .calPartial

/-- Post a calibration code of port p (R147). -/
def State.calPost (s : State) (p code : Nat) : State := if code = 0 then s else s.post (calErr code) (0x2401 + p)

/-- Spans of `CAL_COEFF` that a kind measures: 0 image, 1 filter, 2 oscillator, 3 DC offset (Table 5-9). -/
def calSpans (kind : Nat) : List (Nat × Nat) :=
  if kind = 0 then (List.range 32).map (fun g => (24 + 8 * g + 4, 4))
  else if kind = 1 then [(280, 64)]
  else if kind = 2 then [(16, 4), (344, 1680)]
  else (List.range 32).map (fun g => (24 + 8 * g, 4))

/-- Format, port, EUI-64 and CRC of a `CAL_COEFF` record (R149). -/
def State.calHead (s : State) (p valid : Nat) (d : Bytes) : Bytes :=
  let d := splice d 0 (leBytes 2 1 ++ leBytes 1 p ++ leBytes 1 valid)
  let d := splice d 8 (beBytes 8 s.ident.eui64)
  splice d 2044 (leBytes 4 (Crypto.crc32c (d.take 2044)))

/-- Measured coefficients of a kind replace the old ones at one instant (R145). -/
def State.calTake (s : State) (p kind : Nat) (measured : Bytes) : State :=
  let old := slice (s.dom (Key.calCoeff p)) 0 2048
  let d := (calSpans kind).foldl (fun d x => splice d x.1 (slice measured x.1 x.2)) old
  s.setDom (Key.calCoeff p) (s.calHead p (setBit (fieldLe old 3 1) kind true) d)

/-- No figure lies outside its acceptance, and there is one (Table 5-8): image rejection at least 40 dB, corner within ±2 %, residual
below −40 dBFS. -/
def figuresOk (kind : Nat) (xs : List Int) : Bool :=
  !xs.isEmpty && xs.all (fun x => if kind = 0 then decide (400 ≤ x) else if kind = 1 then decide (x.natAbs ≤ 200) else decide (x < -400))

/-- The crystal trim lies within ±40 ppm (Table 5-8; in units of 0.001 ppm). -/
def trimOk (b : Bytes) : Bool := decide ((ofRaw 32 (leNat (b.take 4))).natAbs ≤ 40000)

/-- No entry of an island table is below the one before it: 21 U16 entries (Table 5-8; DESIGN CHOICE, log 126). -/
def islandOk (b : Bytes) : Bool :=
  (List.range 20).all (fun i => decide (fieldLe b (2 * i) 2 ≤ fieldLe b (2 * i + 2) 2))

/-- Acceptance of a whole set of oscillator coefficients. -/
def oscOk (d : Bytes) : Bool := trimOk (slice d 16 4) && (List.range 40).all (fun i => islandOk (slice d (344 + 42 * i) 42))

/-- Code of a blind kind: disturbed, out of range, or done (R145). -/
def State.blindCode (s : State) (kind : Nat) (m : CalMeas) : Nat :=
  if m.power.any (fun x => decide (2 * s.rdI 8 Key.calDisturbDbm < x)) then 1 else if figuresOk kind m.figure then 0 else 2

/-- A trim counted against the device's own 250 MHz clock, brought into agreement with the time unit where it follows one (R143;
log 127). -/
def State.trimmed (s : State) (t : Int) : Int :=
  if s.clock.state = 1 ∨ s.clock.state = 2 then t + s.clock.corr / 64 else t

/-- Measured bytes with the trim as R143 has it. -/
def State.withTrim (s : State) (d : Bytes) (off : Nat) : Bytes :=
  splice d off (leBytes 4 (toRaw 32 (s.trimmed (ofRaw 32 (leNat (slice d off 4))))))

/-- Start-up calibration of R148 on the port's first entry into SYNTH after a reset; a kind that fails takes the coefficients of the
production test. -/
def State.calStartUp (s : State) (p : Nat) (out : List CalMeas) (measured : Bytes) : State :=
  let x := s.port p
  if x.calibrated then s
  else
    let s := s.setPort p { x with calibrated := true, lastCal := s.elapsed }
    let d := s.withTrim measured 16
    s.each [2, 3, 0, 1] (fun s k =>
      let code := if k = 2 then (if oscOk d then 0 else 2) else s.blindCode k (out.getD k { power := [], figure := [] })
      if code = 0 then s.calTake p k d else (s.calTake p k (s.fuses.cal.getD p [])).calPost p code)

/-- A port takes a centre applied before, and placements are computed for it (R133, R138). -/
def State.centreFollow (s : State) (p : Nat) : State :=
  if (s.port p).centre ≠ s.rd (Key.portCentreKhz p) then (s.takeCentre p).placeAll else s

/-- `PORT_TRANSITION_DONE`: the step in progress ends (Table 5-5). locked, out and measured are what a step
into SYNTH finds: the lock within 80 µs, and the start-up calibration. -/
def execPortTransitionDone (p : Fin 4) (locked : Bool) (out : List CalMeas) (measured : Bytes) (dt : Nat) (s : State) : Step :=
  let s := s.advance dt
  let k : Nat := p
  let x := s.port k
  .next (match x.step with
    | none => s
    | some dest =>
      if x.resume.isSome then s
      else if s.pstate k = 1 ∧ dest = 2 then
        if !locked then
          if 3 ≤ x.tries + 1 then s.lockFailed k else s.setPort k { x with tries := x.tries + 1 }
        else
          let s := s.setPort k { x with tries := 0, diagSince := s.elapsed }
          (((s.calStartUp k out measured).portEnter k 2).centreFollow k).portRun k
      else
        let s := s.portEnter k dest
        (if dest ≤ 1 then s.centreFollow k else s).portRun k)

/-- `PORT_DWELL_END`: the dwell of SLEEP or STANDBY ends and a pending request starts (R135). -/
def execPortDwellEnd (p : Fin 4) (dt : Nat) (s : State) : Step := .next ((s.advance dt).portRun p)

/-- The port is blanked and relocks once its ramp-downs have ended; a host run goes on towards its target, otherwise the state that
the port held or made for is resumed (R137, R138). -/
def State.relock (s : State) (p : Nat) : State :=
  let x := s.port p
  let goal := (s.portTarget p).getD (s.pstate p)
  let s := s.preempt p
  let s := s.setPort p { (s.port p) with step := none, resume := some goal, tries := 0,
                                         back := if x.seq || x.host.isSome then none else some goal }
  s.relockGo p

/-- `SYNTH_LOCK_LOST`: in RX or TX, or on the way from SYNTH to them: transmissions ramp down at once (R137). -/
def execSynthLockLost (p : Fin 4) (s : State) : Step :=
  let k : Nat := p
  let x := s.port k
  .next (if x.resume.isSome then s
    else if 3 ≤ s.pstate k ∨ (s.pstate k = 2 ∧ 3 ≤ x.step.getD 0) then (s.abortAir k).relock k
    else s)

/-- `SYNTH_RELOCK_DONE`: a relock or retune attempt ends (R137, R138). -/
def execSynthRelockDone (p : Fin 4) (locked : Bool) (dt : Nat) (s : State) : Step :=
  let s := s.advance dt
  let k : Nat := p
  let x := s.port k
  .next (match x.resume with
    | none => s
    | some _ =>
      if s.pstate k ≠ 2 then s
      else if !locked then
        if 3 ≤ x.tries + 1 then s.lockFailed k else s.setPort k { x with tries := x.tries + 1 }
      else (s.setPort k { x with resume := none, step := none, tries := 0 }).portRun k)

/-- A new centre is in force at its epoch: a port in SLEEP or STANDBY takes it, and its placements are
computed again (R133, R138). -/
def State.centreApplied (s : State) (p : Nat) : State := if s.pstate p ≤ 1 ∧ (s.port p).step.isNone then s.centreFollow p else s

/-- `RETUNE_START`: an applied centre that differs takes effect once no transmission is on air; the port is blanked, its placements are
tested again and its tiles re-binned, and it relocks (R138, R165). A step in progress runs to its end first (R135). -/
def execRetuneStart (p : Fin 4) (s : State) : Step :=
  let k : Nat := p
  let x := s.port k
  .next (if x.centre = s.rd (Key.portCentreKhz k) ∨ s.pstate k ≤ 1 ∨ x.step.isSome ∨ x.resume.isSome ∨ !(s.airOn k).isEmpty then s
    else ((s.takeCentre k).relock k).placeAll)

/-! ### Islands (Table 5-7) -/

/-- The tile's islands may stop: it holds no frame, so the queues on both of their sides are empty (R25). -/
def State.islandIdle (s : State) (t : Tile) : Bool :=
  match t with
  | .rx n => !s.rxBusy n
  | .tx n => (s.tx n).job.isNone
  | .core _ => true

/-- A tile takes its pending request once the dwell has passed; it stops only when it is idle (R25, R141). A core's island does what
waits for its dwell (R539). -/
def State.islandServe (s : State) (t : Tile) (on : Bool) : State :=
  match t with
  | .core n => s.coreIslServe n
  | .rx _ | .tx _ =>
    let i := s.isl t
    if i.want = some on ∧ (on ∨ s.islandIdle t) then s.setIsl t (i.serve s.elapsed) else s

/-- What a receive tile does once its islands have ended a sequence. -/
def State.islandEnded (s : State) (t : Tile) : State :=
  match t with
  | .rx n => s.rxAsk n
  | .tx _ | .core _ => s

/-- `ISLAND_START` (R140). -/
def execIslandStart (t : Tile) (dt : Nat) (s : State) : Step := .next ((s.advance dt).islandServe t true)

/-- `ISLAND_STOP` (R140). -/
def execIslandStop (t : Tile) (dt : Nat) (s : State) : Step := .next ((s.advance dt).islandServe t false)

/-- `ISLAND_ON`: the sequence ends and the tile is ON; a receive tile listens where its port is in RX. -/
def execIslandOn (t : Tile) (dt : Nat) (s : State) : Step :=
  let s := s.advance dt
  let i := s.isl t
  .next (if i.phase = .starting then (s.setIsl t { i with phase := .on, since := s.elapsed }).islandEnded t else s)

/-- `ISLAND_OFF`: the clocks stop and the power switch opens; a tile wanted on again asks again. -/
def execIslandOff (t : Tile) (dt : Nat) (s : State) : Step :=
  let s := s.advance dt
  let i := s.isl t
  .next (match t with
    | .core n => s.coreIslServe n
    | .rx _ | .tx _ =>
      if i.phase = .stopping ∧ s.islandIdle t then (s.setIsl t { i with phase := .off, since := s.elapsed }).islandEnded t else s)

/-- `ISLAND_DWELL_END`: a pending request starts after the dwell (R141). -/
def execIslandDwellEnd (t : Tile) (dt : Nat) (s : State) : Step :=
  let s := s.advance dt
  .next (s.islandServe t ((s.isl t).want.getD true))

/-! ### Power detection and antenna diagnosis (R155 to R157) -/

/-- `PD_USED` as sampled (R128). -/
def State.pdUsed (s : State) (p : Nat) : Bool := bitOf (s.port p).fem 4

/-- 320 µs of steady power have passed on port p in which no tile started or ended, and a tile of it is sending (R155). -/
def State.burstSteady (s : State) (p : Nat) : Bool :=
  s.pstate p == 4 && (s.airOn p).any (fun n => s.rd (Key.txcState n) == 4) && (s.airOn p).all (fun n => s.rd (Key.txcState n) == 4)
    && (match (s.port p).burst with
      | some a => decide (a + us 320 ≤ s.elapsed)
      | none => false)

/-- Antenna states of `PORT_ANT_STATE`. -/
def antGood : Nat := 1
def antOpen : Nat := 2
def antStarved : Nat := 3

/-- Enter antenna state open. -/
def State.antOpenNow (s : State) (p : Nat) : State := (s.wr (Key.portAntState p) antOpen).portPost .antOpen p

/-- `PD_MEASURE`: the detector inputs, in 1/65,536 dBm, at the end of 320 µs of steady power; a burst below 0 dBm at the connector is not
measurable. A burst is measured once (R155 to R157). -/
def execPdMeasure (p : Fin 4) (fwd ref : Int) (dt : Nat) (s : State) : Step :=
  let s := s.advance dt
  let k : Nat := p
  let coupler : Int := bits (s.port k).fem 8 6 * 65536
  let f := fwd + coupler
  let r := ref + coupler
  .next (if !s.pdUsed k ∨ !s.burstSteady k ∨ f < 0 then s
    else
      let s := s.setPort k { (s.port k) with burst := none }
      let s := (s.wr (Key.portPdFwdDbm k) (toRaw 32 f)).wr (Key.portPdRefDbm k) (toRaw 32 r)
      let x := s.port k
      let loss := f - r
      if s.rd (Key.portAntState k) = antStarved then
        let s := s.setPort k { x with diagSince := s.elapsed, lowBursts := 0, goodBursts := 0 }
        if loss < 3 * 65536 then s.antOpenNow k else s.wr (Key.portAntState k) antGood
      else
        let low := if loss < 3 * 65536 then x.lowBursts + 1 else 0
        let good := if 4 * 65536 ≤ loss then x.goodBursts + 1 else 0
        let s := s.setPort k { x with diagSince := s.elapsed, lowBursts := min 3 low, goodBursts := min 3 good }
        if 3 ≤ low ∧ s.rd (Key.portAntState k) ≠ antOpen then s.antOpenNow k
        else if 3 ≤ good then s.wr (Key.portAntState k) antGood
        else s)

/-- `PORT_STARVED`: 10 s without a measurable burst (R157). -/
def execPortStarved (p : Fin 4) (dt : Nat) (s : State) : Step :=
  let s := s.advance dt
  let k : Nat := p
  let x := s.port k
  .next (if s.pdUsed k ∧ 2 ≤ s.pstate k ∧ s.rd (Key.portAntState k) ≠ antStarved ∧ x.diagSince + ms 10000 ≤ s.elapsed then
      ((s.wr (Key.portAntState k) antStarved).bump (Key.portStarved k)).portPost .diagStarved k
    else s)

end Sys2Proof.Machine
end

