-- ==== Sys2Proof/Machine/TxPath.lean ====
section
/-! DEFINITION. The transmit path: commit, listen before talk, ramps, power limits, duty (Transmit Channels and
PHY Framing). -/

namespace Sys2Proof.Machine

/-! ### Powers (R199) -/

/-- Driver power requested on tile n, half dB. -/
def State.reqPower (s : State) (n : Nat) (q : TxReq) : Int :=
  let own := 2 * s.rdI 8 (Key.txcPowerDbm n)
  match q.power with
  | some h => min own h
  | none => own

/-- Highest driver power of the tiles, half dB: asked of Cinch before a tile is taken (log 41). -/
def State.topPower (s : State) : Int := (List.range 16).foldl (fun m n => max m (2 * s.rdI 8 (Key.txcPowerDbm n))) (-40)

/-- Composite driver limit of a port, half dB (R199 item 2, R154, R156). -/
def State.portLimit (s : State) (p : Nat) : Int :=
  let l := 2 * min (s.rdI 8 (Key.portTxLimitDbm p)) (s.stampMax p)
  let lim := min 16 (l - 2 * s.femGain p)
  if s.rd (Key.portAntState p) = antOpen then lim - 20 else lim

/-- Driver power, pW, of the transmissions in ramp or sending on a port, of one sub-band or of all. -/
def State.airPw (s : State) (p : Nat) (sub : Option Nat) : Nat :=
  ((s.airOn p).map (fun n => match (s.tx n).job with
    | some j => if sub.isNone || sub == some j.sub then pw j.power else 0
    | none => 0)).sum

/-- Power granted at the ramp: the highest in 0.5 dB steps that meets the limits of R199. -/
def State.grantPower (s : State) (n : Nat) (j : TxJob) : Option Int :=
  let p := j.req.port
  let b := subBand (s.stampBytes p) j.sub
  let top := s.reqPower n j.req
  let all := s.airPw p none
  let same := s.airPw p (some j.sub)
  let lim := pw (s.portLimit p)
  let limSub := pw (2 * b.maxDbm - 2 * s.femGain p)
  let steps := (top + 40).toNat + 1
  ((List.range steps).map (fun (i : Nat) => top - (i : Int))).find? (fun h => decide (-40 ≤ h ∧ all + pw h ≤ lim ∧ same + pw h ≤ limSub))

/-! ### The lead (R196) -/

/-- Lead of Table 7-2 on a port for a frequency, ns. -/
def State.leadNs (s : State) (p freq : Nat) : Nat :=
  let (lbt, listen) := match s.subOf p freq with
    | some (_, b) => (b.lbt, b.listenUs)
    | none => (false, 0)
  let st := s.pstate p
  let base := if st = 4 then 20 else if st = 3 then 32 else if st = 2 then (if lbt then 48 else 30) else if lbt then 128 else 110
  (base + (if lbt then listen else 0)) * 1000

/-- The port's state at commit has a lead: Table 7-2 gives none for SLEEP, for `PORT_AUTO_RETURN` 0 outside TX, and for a listen in TX. -/
def State.hasLead (s : State) (p freq : Nat) : Bool :=
  let st := s.pstate p
  let lbt := match s.subOf p freq with
    | some (_, b) => b.lbt
    | none => false
  st != 0 && !(s.autoReturn p == 0 && st != 4) && !(lbt && st == 4)

/-- The first chip at a chain time in ns can no longer meet the lead of Table 7-2 (R196). -/
def State.leadGone (s : State) (p freq due : Nat) : Bool := s.hasLead p freq && decide (due < s.nowNs + s.leadNs p freq)

/-! ### Checks at commit (R195, R197, R201) -/

/-- The channel of a frequency on a port, if it is one of the raster. -/
def State.txChannel (s : State) (q : TxReq) : Option Nat :=
  if fits q.port (s.port q.port).centre q.freq q.mode && modeLegal q.port q.mode then s.rasterAt q.port q.freq else none

/-- Check 3 of R197. -/
def State.maskOk (s : State) (q : TxReq) : Bool :=
  match s.txChannel q with
  | some k => bitOf (s.chMask q.port) k
  | none => false

/-- Check 4 of R197. -/
def State.mapOk (s : State) (q : TxReq) : Bool :=
  match s.rasterAt q.port q.freq with
  | some k => bitOf (s.rd (Key.tenChmap q.tenant q.port)) k
  | none => false

/-- Tiles that port p holds (R195). -/
def State.txHeld (s : State) (p : Nat) : Nat :=
  ((List.range 16).filter (fun n => s.rd (Key.txcPlaced n) != unplaced && placePort (s.rd (Key.txcPlaced n)) == p)).length

/-- Tile that a transmission takes (R195). -/
def State.pickTx (s : State) (q : TxReq) : Option Nat :=
  let w := placeWord q.mode q.port q.freq
  let off (n : Nat) : Bool := (s.tx n).job.isNone
  match (List.range 16).find? (fun n => s.rd (Key.txcOwner n) == 1 && s.rd (Key.txcPlaced n) == w && off n) with
  | some n => some n
  | none =>
    if 8 ≤ s.txHeld q.port then none
    else
      let girth (n : Nat) : Bool := s.rd (Key.txcOwner n) == 0 && off n
      match (List.range 4).find? (fun i => girth (4 * q.port + i)) with
      | some i => some (4 * q.port + i)
      | none => (List.range 16).find? girth

/-- Airtime committed in a sub-band and not yet ended. -/
def State.airCommitted (s : State) (p i : Nat) : Nat :=
  ((s.jobsOn p).map (fun n => match (s.tx n).job with
    | some j => if j.sub = i then j.airtime else 0
    | none => 0)).sum

/-- Check 6 of R197 (R201). -/
def State.dutyOk (s : State) (p : Nat) (sub : Option (Nat × SubBand)) (air : Nat) : Bool :=
  match sub with
  | none => false
  | some (i, b) => b.duty == 10000 || decide ((s.dutyOf p i).sum + s.airCommitted p i + air ≤ b.duty * 360000)

/-- Port check of R197 (Table 7-2): none passes, else the outcome. -/
def State.portCheck (s : State) (q : TxReq) (lbt : Bool) : Option Nat :=
  let st := s.pstate q.port
  if st = 0 ∨ (s.autoReturn q.port = 0 ∧ st ≠ 4) then some txPortHeld
  else if lbt ∧ st = 4 then some txLbtBusy
  else none

/-- Energy of a transmission, µJ (R268). -/
def State.reqEnergy (s : State) (q : TxReq) (octets : Nat) (h : Int) : Nat := s.txEnergy (airUs q.mode octets) h

/-- The commit of a secured PSDU (without FCS): R197's checks, then the tile is idle (Table 7-6). -/
def State.commitPsdu (s : State) (q : TxReq) (psdu : Bytes) : State :=
  let n := psdu.length + 2
  if n < 5 ∨ 127 < n then s.txRefuse q none txBadFrame n
  else match s.pickTx q with
    | none => s.txRefuse q none txNoTile n
    | some t =>
      let sub := s.subOf q.port q.freq
      let lbt := match sub with
        | some (_, b) => b.lbt
        | none => false
      let air := airUs q.mode n
      if !s.maskOk q then s.txRefuse q (some t) txMask n
      else if !s.mapOk q then s.txRefuse q (some t) txMap n
      else match s.portCheck q lbt with
        | some c => s.txRefuse q (some t) c n
        | none =>
          if !s.dutyOk q.port sub air then s.txRefuse q (some t) txDutyBlock n
          else
            let (s, e) := match q.granted with
              | some e => (s, some e)
              | none =>
                let e := s.reqEnergy q n (s.reqPower t q)
                let (s, ok) := s.grant q.code e
                (s, if ok then some e else none)
            match e with
            | none => s.txRefuse q (some t) txCinchDefer n
            | some e =>
              let i := match sub with
                | some (i, _) => i
                | none => 0
              let j : TxJob :=
                { req := { q with granted := some e }, psdu := psdu, grant := e, sub := i, airtime := air, lbt := lbt, clear := false,
                  rampAt := none, first := 0, ended := false, aborted := none, capped := false, power := 0, cut := false }
              let s := s.setTx t { (s.tx t) with job := some j, isl := (s.tx t).isl.ask true }
              let s := (s.wr (Key.txcState t) 1).wr (Key.txcPlaced t) (placeWord q.mode q.port q.freq)
              s.portRun q.port

/-- A transmission whose lead has gone is not committed: what it was granted is returned, a downlink's cell is missed, a broadcast or
symbol is not sent (R196, R251; log 129). -/
def State.notCommitted (s : State) (q : TxReq) : State :=
  let s := match q.granted with
    | some e => s.release e
    | none => s
  match q.kind with
  | .downlink r => s.cellMissed r
  | .broadcast _ h rep => s.reportFinal (if rep then h else none) 0 2
  | .lacing k => s.laceFailed k q
  | .answer _ | .assocRsp _ | .beacon _ _ => s

/-- A transmission is committed no later than its lead: the Keeper secures it and its counter is taken, then the checks (R196,
R197, R388). A frame that cannot be secured is not sent; a downlink whose counters are used up is reported
undelivered (R390). -/
def State.commit (s : State) (q : TxReq) : State :=
  if s.leadGone q.port q.freq q.due then s.notCommitted q else
  let (s, psdu) := s.secure q.draft q.tenant
  match psdu with
  | some b => s.commitPsdu q b
  | none =>
    let s := match q.granted with
      | some e => s.release e
      | none => s
    match q.kind with
    | .downlink r =>
      if bitOf (s.nrec r).hw.fcFlags 4 then
        match (s.nodeQ r).frames with
        | f :: _ =>
          let s := (s.nodePop r).undelivered r f
          if f.sent ∧ (s.nrec r).syncState = macSync then s.desync r 3 else s
        | [] => s
      else s.attemptFailed r
    | .broadcast _ h rep => s.reportFinal (if rep then h else none) 0 2
    | .lacing k => s.laceFailed k q
    | .answer _ | .assocRsp _ | .beacon _ _ => s

/-! ### Reservations of compatibility cells (R234) -/

/-- Reservation in ns of a compatibility record's cell at ASN a: its start and end. -/
def State.reservation (s : State) (x : NodeRec) (a f ans : Nat) : Int × Int :=
  let g : Int := (s.guardAt x s.nowNs : Nat)
  let due : Int := (s.slotStart a + s.slotNs / 2 : Nat) + x.hw.offset * 1000
  (due - g, due + g + (f + 1000 + ans : Nat) * 1000)

/-- The ASNs whose cell could hold an instant of [a, b] in the reservation of record x: none of the others reaches it. -/
def State.reachSlots (s : State) (x : NodeRec) (a b : Nat) : List Nat :=
  let slack := s.guardAt x s.nowNs + x.hw.offset.natAbs * 1000 + (frameUs x.mode 127 + 1000 + s.ulAnswerUs x + s.dlAckUs x) * 1000 + s.slotNs
  let lo := s.asnAt (a - slack)
  (List.range (s.asnAt (b + slack) + 1 - lo)).map (lo + ·)

/-- The span [a, b] in ns on frequency f overlaps the reservation of some cell of record x (R234). -/
def State.reservedBy (s : State) (x : NodeRec) (f a b : Nat) : Bool :=
  let S := s.recSlots x
  let l := s.rd Key.girthSlotUs
  let hits (n fr ans : Nat) : Bool :=
    let (lo, hi) := s.reservation x n fr ans
    decide (lo < b ∧ (a : Int) < hi)
  (match s.cellChannel x 0 with
    | some (g, _) => g == f
    | none => false)
  && (s.reachSlots x a b).any (fun n =>
      (isCell S l x.ulPeriod x.ulPhase x.ulSlot n && hits n (frameUs x.mode x.ulPsdu) (s.ulAnswerUs x))
      || (isCell S l x.dlPeriod x.dlPhase x.dlSlot n && hits n (frameUs x.mode 127) (s.dlAckUs x)))

/-- The span [a, b] in ns on frequency f overlaps the reservation of some compatibility cell, other than of
record own. A node that another device still serves has none. -/
def State.reserved (s : State) (own : Option Nat) (f : Nat) (a b : Nat) : Bool :=
  s.heldRecs.any (fun q => q.2.compat && own != some q.1 && q.2.hw.macState != macIn && s.reservedBy q.2 f a b)

/-- A transmission's span on air in ns: first chip to the end of its answer, when one is due. -/
def spanOf (q : TxReq) (octets : Nat) (ans : Option Nat) : Nat × Nat :=
  (q.due, q.due + (frameUs q.mode octets + (match ans with | some a => 1000 + a | none => 0)) * 1000)

/-- An answer is committed whatever is reserved (R234). -/
def kindExempt (k : TxKind) : Bool :=
  match k with
  | .answer _ | .assocRsp _ => true
  | .beacon _ _ | .downlink _ | .broadcast _ _ _ | .lacing _ => false

/-- Record of a downlink. -/
def kindRecord (k : TxKind) : Option Nat :=
  match k with
  | .downlink r | .answer r | .assocRsp r => some r
  | .beacon _ _ | .broadcast _ _ _ | .lacing _ => none

/-- Octets of a request's PSDU with FCS, before it is secured. -/
def State.reqOctets (s : State) (q : TxReq) : Nat := s.draftLen q.draft q.tenant

/-- The commit is refused for a reservation of R234. -/
def State.reservedFor (s : State) (q : TxReq) : Bool :=
  let (a, b) := spanOf q (s.reqOctets q) none
  !kindExempt q.kind && s.reserved (kindRecord q.kind) q.freq a b

/-! ### Listening, ramps and ends (R198 to R200, R207) -/

/-- End of a tile's transmission, and the port's return (R132). -/
def State.txEnd (s : State) (n code : Nat) : State :=
  match (s.tx n).job with
  | none => s
  | some j => (s.txFinish n code).portRun j.req.port

/-- Listen time of a job, ns. -/
def State.listenNs (s : State) (j : TxJob) : Nat := (subBand (s.stampBytes j.req.port) j.sub).listenUs * 1000

/-- Start of a job's ramp, chain time in ns. -/
def TxJob.rampNs (j : TxJob) : Nat := j.req.due - rampUs j.req.mode * 1000

/-- The port can take this transmission no further: it is in SLEEP, or under `PORT_AUTO_RETURN` 0 outside TX (R132). -/
def State.portHolds (s : State) (p : Nat) : Bool := s.pstate p == 0 || (s.autoReturn p == 0 && s.pstate p != 4)

/-- `LBT_LISTEN_DUE`: the listen time and 32 µs before the first chip; a port that is not in RX cannot listen (R196, R200, Table 7-7). -/
def execLbtListenDue (n : Fin 16) (dt : Nat) (s : State) : Step :=
  let s := s.advance dt
  let k : Nat := n
  .next (match (s.tx k).job with
    | none => s
    | some j =>
      if s.rd (Key.txcState k) ≠ 1 ∨ !j.lbt ∨ j.clear ∨ s.nowNs + s.listenNs j + 32000 < j.req.due then s
      else if s.portHolds j.req.port then s.txEnd k txPortHeld
      else if s.pstate j.req.port = 3 ∧ (s.port j.req.port).step.isNone then s.wr (Key.txcState k) 2
      else s.txEnd k txLbtBusy)

/-- `LBT_LISTEN_END`: blocks are the mean powers, half dBm, of the listen's blocks of 16 µs, measured in the port's bin over the mode's
passband. A port that has left RX ends the listen as busy (R200, Table 7-6). -/
def execLbtListenEnd (n : Fin 16) (blocks : List Int) (dt : Nat) (s : State) : Step :=
  let s := s.advance dt
  let k : Nat := n
  .next (match (s.tx k).job with
    | none => s
    | some j =>
      let busy := s.pstate j.req.port != 3 || (s.port j.req.port).step.isSome
      if s.rd (Key.txcState k) ≠ 2 then s
      else if busy then s.txEnd k txLbtBusy
      else if s.nowNs + 32000 < j.req.due then s
      else if blocks.any (fun b => decide (2 * (subBand (s.stampBytes j.req.port) j.sub).thr ≤ b)) then s.txEnd k txLbtBusy
      else ((s.wr (Key.txcState k) 1).setTx k { (s.tx k) with job := some { j with clear := true } }).portRun j.req.port)

/-- The port can start a transmission: in TX, with no step, no request and no retune pending (R135 item 5). -/
def State.portReady (s : State) (p : Nat) : Bool :=
  let x := s.port p
  s.pstate p == 4 && x.step.isNone && !x.seq && !s.radioHeld && x.host.isNone && x.back.isNone && x.resume.isNone && x.own.isNone
    && x.centre == s.rd (Key.portCentreKhz p)

/-- Last chip of a transmission on air, chain time in ns. -/
def TxJob.lastNs (j : TxJob) : Nat := j.first + frameUs j.req.mode (j.psdu.length + 2) * 1000

/-- A start now lies in the transmit window: the first chip by its end, to the µs (R198; log 42). -/
def State.inWindow (s : State) (j : TxJob) : Bool := decide (s.nowNs + rampUs j.req.mode * 1000 < j.req.windowEnd + 1000)

/-- A padded beacon. -/
def TxJob.padded (j : TxJob) : Bool :=
  match j.req.kind with
  | .beacon _ pad => pad
  | .answer _ | .assocRsp _ | .downlink _ | .broadcast _ _ _ | .lacing _ => false

/-- A transmission on air on the port holds a start that still fits its window after it: a padded beacon holds every other, and a padded
beacon waits for any other that would end in its steady part (R158). -/
def State.beaconHolds (s : State) (j : TxJob) : Bool :=
  (s.airOn j.req.port).any (fun m => match (s.tx m).job with
    | some b =>
      (b.padded || (j.padded && decide (b.lastNs < s.nowNs + (rampUs j.req.mode + frameUs j.req.mode (j.psdu.length + 2)) * 1000)))
        && decide (b.lastNs + (rampUs b.req.mode + rampUs j.req.mode) * 1000 < j.req.windowEnd)
    | none => false)

/-- The cap of R198 is reached for the transmission. -/
def State.capReached (s : State) (j : TxJob) : Bool := decide (s.txCap j.req.code.isSome ≤ s.airCount)

/-- Tile k's ramp is due and can be granted now. -/
def State.rampReady (s : State) (k : Nat) (j : TxJob) : Bool :=
  s.rd (Key.txcState k) == 1 && (!j.lbt || j.clear) && decide (j.rampNs ≤ s.nowNs) && s.inWindow j && s.portReady j.req.port
    && (s.tx k).isl.phase == .on && !s.capReached j && !s.beaconHolds j

/-- A lower tile of the port has a ramp due in the same 8 MHz cycle and is granted first (R199). -/
def State.lowerDue (s : State) (k : Nat) (j : TxJob) : Bool :=
  (s.jobsOn j.req.port).any (fun m => decide (m < k) && (match (s.tx m).job with
    | some i => i.rampNs / 125 == j.rampNs / 125 && s.rampReady m i
    | none => false))

/-- The ramp begins at a power: the scheduled first chip where the ramp is on time, else the present instant and the ramp (R204). -/
def TxJob.begin (j : TxJob) (now nowNs : Nat) (h asked : Int) : TxJob :=
  { j with rampAt := some now, first := if nowNs < j.rampNs + 1000 then j.req.due else nowNs + rampUs j.req.mode * 1000,
           power := h, cut := decide (h < asked) }

/-- `RAMP_DUE`: checks 3 and 4 again, the cap, and the power; ramps due in one cycle are granted in tile order (R197 to R199). -/
def execRampDue (n : Fin 16) (dt : Nat) (s : State) : Step :=
  let s := s.advance dt
  let k : Nat := n
  .next (match (s.tx k).job with
    | none => s
    | some j =>
      if s.rd (Key.txcState k) ≠ 1 ∨ (j.lbt ∧ !j.clear) ∨ s.nowNs < j.rampNs then s
      else if !s.maskOk j.req then s.txEnd k txMask
      else if !s.mapOk j.req then s.txEnd k txMap
      else if s.portHolds j.req.port then s.txEnd k txPortHeld
      else if s.lowerDue k j then s
      else if !s.rampReady k j then
        (if s.capReached j then s.setTx k { (s.tx k) with job := some { j with capped := true } } else s)
      else match s.grantPower k j with
        | none => s.txEnd k txNoHeadroom
        | some h =>
          ((((s.wr (Key.txcState k) 3).setTx k { (s.tx k) with job := some (j.begin s.elapsed s.nowNs h (s.reqPower k j.req)) }).airOut
            j.req.port)).burstMark j.req.port)

/-- `TX_WINDOW_END`: a transmission that has not started ends at the end of its window: deferred where the cap or a beacon held it, held
by the port otherwise (R132, R135, R198). -/
def execTxWindowEnd (n : Fin 16) (dt : Nat) (s : State) : Step :=
  let s := s.advance dt
  let k : Nat := n
  .next (match (s.tx k).job with
    | none => s
    | some j =>
      if s.rd (Key.txcState k) ≠ 1 ∨ s.nowNs < j.req.windowEnd then s
      else if j.capped || s.capReached j || s.portReady j.req.port then s.txEnd k txCinchDefer
      else s.txEnd k txPortHeld)

/-- `RAMP_UP_END`: the first chip; a node answered with an association response moves to ASSOCIATING
(Table 8-6). -/
def execRampUpEnd (n : Fin 16) (dt : Nat) (s : State) : Step :=
  let s := s.advance dt
  let k : Nat := n
  .next (match (s.tx k).job with
    | none => s
    | some j =>
      match j.rampAt with
      | none => s
      | some a =>
        if s.rd (Key.txcState k) ≠ 3 ∨ j.ended ∨ s.elapsed < a + us (rampUs j.req.mode) then s
        else
          let s := (s.wr (Key.txcState k) 4).burstMark j.req.port
          match j.req.kind with
          | .assocRsp r =>
            if (s.nrec r).hw.macState = macProvisioned then s.modHw r (fun h => { h with macState := macAssociating }) else s
          | .answer _ | .beacon _ _ | .downlink _ | .broadcast _ _ _ | .lacing _ => s)

/-- `LAST_CHIP`: ramp-down starts. -/
def execLastChip (n : Fin 16) (dt : Nat) (s : State) : Step :=
  let s := s.advance dt
  let k : Nat := n
  .next (match (s.tx k).job with
    | none => s
    | some j =>
      match j.rampAt with
      | none => s
      | some a =>
        if s.rd (Key.txcState k) ≠ 4 ∨ s.elapsed < a + us (rampUs j.req.mode + frameUs j.req.mode (j.psdu.length + 2)) then s
        else ((s.wr (Key.txcState k) 3).setTx k { (s.tx k) with job := some { j with ended := true } }).burstMark j.req.port)

/-- `RAMP_DOWN_END`: the report is issued and the tile is off; a transmission cut short ends with its own ramp-down (R203). -/
def execRampDownEnd (n : Fin 16) (dt : Nat) (s : State) : Step :=
  let s := s.advance dt
  let k : Nat := n
  .next (match (s.tx k).job with
    | none => s
    | some j =>
      match j.rampAt with
      | none => s
      | some a =>
        match j.aborted with
        | some d => if min (d + us (rampUs j.req.mode)) (a + us j.airtime) ≤ s.elapsed then s.txEnd k txAborted else s
        | none => if j.ended ∧ a + us j.airtime ≤ s.elapsed then s.txEnd k txOk else s)

/-- `DUTY_BUCKET_ADVANCE`: a minute of elapsed time has passed (R201). -/
def execDutyBucketAdvance (dt : Nat) (s : State) : Step :=
  let s := s.advance dt
  .next (if ms (60000 * (s.radio.dutyMin + 1)) ≤ s.elapsed then
      let keys := (List.range 4).flatMap (fun p => (s.subBands p).map (fun b => (p, b.1)))
      let duty := keys.foldl (fun m k => KMap.put m (8 * k.1 + k.2) (0 :: (s.dutyOf k.1 k.2).take 59)) s.radio.duty
      { s with radio := { s.radio with duty := duty, dutyMin := s.radio.dutyMin + 1 } }
    else s)

end Sys2Proof.Machine
end

