-- ==== Sys2Proof/Machine/Lacing.lean ====
section
/-! DEFINITION. The Lacing engine: campaigns, loading, symbols, bursts, reports (Lacing Engine and Node Image
Campaigns). -/

namespace Sys2Proof.Machine

/-! ### Descriptor and store (R396, R397) -/

def Campaign.period (c : Campaign) : Nat := fieldLe c.desc 8 2
def Campaign.phase (c : Campaign) : Nat := fieldLe c.desc 10 2
def Campaign.offset (c : Campaign) : Nat := fieldLe c.desc 12 2
def Campaign.slots (c : Campaign) : Nat := fieldLe c.desc 14 2
def Campaign.reportEvery (c : Campaign) : Nat := fieldLe c.desc 16 1
def Campaign.margin (c : Campaign) : Nat := fieldLe c.desc 17 1
def Campaign.drvDbm (c : Campaign) : Int := fieldI8 c.desc 19
def Campaign.deadlineS (c : Campaign) : Nat := fieldLe c.desc 20 4
def Campaign.announceS (c : Campaign) : Nat := fieldLe c.desc 24 4
/-- Tag of a campaign (R402). -/
def Campaign.tag (c : Campaign) : Nat := c.crc % 65536

/-- Ranges of Table 15-1, in a slotframe of S slots. -/
def descOk (d : Bytes) (S : Nat) : Bool :=
  let f (o n : Nat) : Nat := fieldLe d o n
  slice d 0 4 == [0x4C#8, 0x41#8, 0x43#8, 0x44#8] && f 4 2 == 1 && f 6 2 == 0 && decide (1 ≤ f 8 2) && decide (f 10 2 < f 8 2)
    && decide (f 12 2 < S) && decide (1 ≤ f 14 2 ∧ f 14 2 ≤ 255 ∧ f 12 2 + f 14 2 ≤ S) && decide (1 ≤ f 16 1) && decide (f 17 1 ≤ 8)
    && f 18 1 == 0 && decide (-20 ≤ fieldI8 d 19 ∧ fieldI8 d 19 ≤ 8) && decide (60 ≤ f 20 4 ∧ f 20 4 ≤ 2592000)
    && decide (600 ≤ f 24 4 ∧ f 24 4 ≤ 604800) && (slice d 28 32).all (· == 0#8) && Crypto.crc32c (d.take 60) == f 60 4

/-- EUI-64s of a list. -/
def euiList (bs : Bytes) : List Nat := (List.range (bs.length / 8)).map (fun i => fieldLe bs (8 * i) 8)

/-- The campaign's image lies in this device's own Saddlebag (R53). -/
def State.imageLocal (s : State) (k : Nat) : Bool := sbDevice (s.rd (Key.campImageAddr k)) == s.addr

/-- Bytes from offset o of this device's own Saddlebag: none beyond the attached memory or while the link is not up. -/
def State.ownBytes (s : State) (o n : Nat) : Bytes := if s.sbUp then s.sbBytes o (min n (s.rd Key.sbAttached - o)) else []

/-- What the engine has read of the descriptor and the image: from this device's own Saddlebag, or got, as the chain returned it; up to
the 64-byte line that could not be read. -/
def State.imageRegion (s : State) (k : Nat) (got : Bytes) (bad : Option Nat) : Bytes :=
  let n := 64 + s.rd (Key.campImageBytes k)
  let all := if s.imageLocal k then s.ownBytes (sbOffset (s.rd (Key.campImageAddr k)) - 64) n else got.take n
  match bad with
  | some l => all.take (64 * l)
  | none => all

/-- The image as it can be read now; got is the image as the chain returned it. -/
def State.imageNow (s : State) (k : Nat) (got : Bytes) : Bytes :=
  let n := s.rd (Key.campImageBytes k)
  if s.imageLocal k then s.ownBytes (sbOffset (s.rd (Key.campImageAddr k))) n else got.take n

/-! ### Symbols (R402 to R404) -/

/-- Source blocks of an image of B bytes. -/
def blocksOf (b : Nat) : Nat := (b + 6143) / 6144

/-- Block z of an image. -/
def blockOf (image : Bytes) (z : Nat) : Bytes := slice image (6144 * z) 6144

/-- Source symbol i of a block. -/
def symbolOf (block : Bytes) (i : Nat) : Bytes := slice block (96 * i) 96

/-- One step of the generator of R403. -/
def laceNext (s : Nat) : Nat :=
  let s := Nat.xor s (s * 2 ^ 13 % 2 ^ 32)
  let s := Nat.xor s (s / 2 ^ 17)
  Nat.xor s (s * 2 ^ 5 % 2 ^ 32)

/-- Degree of a value (Table 15-3). -/
def laceDegree (v : Nat) : Nat :=
  if v < 1000 then 1 else if v < 20000 then 2 else if v < 32000 then 3 else if v < 40000 then 4
  else if v < 48000 then 6 else if v < 55000 then 10 else if v < 60000 then 16 else 32

/-- Draw symbol numbers until d are chosen. -/
def laceChoose : Nat → Nat → Nat → List Nat → List Nat
  | 0, _, _, l => l
  | fuel + 1, s, d, l =>
    if d ≤ l.length then l
    else
      let s := laceNext s
      let i := s / 2 ^ 26
      laceChoose fuel s d (if l.contains i then l else l ++ [i])

/-- Source symbols of repair symbol (z, x) (R403). At most 4,096 draws are made of a loop that the rule does not bound (log 141). -/
def laceSubset (crc z x : Nat) : List Nat :=
  let s := Nat.xor (Nat.xor crc (z * 0x9E3779B9 % 2 ^ 32)) (x * 0x85EBCA6B % 2 ^ 32)
  let s := laceNext (if s = 0 then 0x6B43A9B5 else s)
  laceChoose 4096 s (laceDegree (s / 2 ^ 16)) []

/-- Exclusive OR of two byte strings of one length. -/
def xorBytes (a b : Bytes) : Bytes := (a.zip b).map (fun p => p.1 ^^^ p.2)

/-- Symbol (z, x) of a block. -/
def laceSymbol (crc z x : Nat) (block : Bytes) : Bytes :=
  if x < 64 then symbolOf block x
  else (laceSubset crc z x).foldl (fun a i => xorBytes a (symbolOf block i)) (zeros 96)

/-! ### Payloads (Table 15-4) -/

/-- Header of a Lacing payload. -/
def laceHead (typ tag : Nat) : Bytes := leBytes 1 0x2C ++ leBytes 1 typ ++ leBytes 2 tag

/-- Symbol payload. -/
def symbolPayload (c : Campaign) (z x : Nat) (block : Bytes) : Bytes :=
  laceHead 1 c.tag ++ leBytes 2 z ++ leBytes 2 x ++ laceSymbol c.crc z x block

/-- Announcement payload for a mode. -/
def announcePayload (c : Campaign) (b mode : Nat) : Bytes :=
  laceHead 2 c.tag ++ leBytes 4 c.crc ++ leBytes 4 b ++ leBytes 2 (blocksOf b) ++ slice c.desc 8 8 ++ leBytes 1 mode
    ++ leBytes 1 c.reportEvery ++ leBytes 4 (c.deadline % 2 ^ 32)

/-- A frame of campaign k joins HP11 for record r (R401). -/
def State.laceSend (s : State) (k r : Nat) (payload : Bytes) : State :=
  { s with har := { s.har with arrivals := s.har.arrivals ++ [{ h := 11, info := .lacing k (shortOf r), bytes := payload }] } }

/-- Announce campaign k to record r (R401). -/
def State.announce (s : State) (k r : Nat) : State :=
  let c := s.camp k
  match c.targets.find? (fun t => t.record == r) with
  | none => s
  | some _ =>
    let s := s.setCamp k { c with targets := c.targets.map (fun u => if u.record = r then { u with heardAt := s.elapsed } else u) }
    s.laceSend k r (announcePayload c (s.rd (Key.campImageBytes k)) (s.nrec r).mode)

/-! ### Commands (R398) -/

/-- A command that Table 15-2 does not accept (CODE 6 `LACE_BAD_STATE`). -/
def State.campBad (s : State) (k : Nat) : State := s.resEnd (Key.campRes k) 6

/-- `CAMP_CMD` 1. -/
def State.campStart (s : State) (k : Nat) : State :=
  let st := s.campSt k
  if st = 0 ∨ st = 4 ∨ st = 5 then
    let s := s.resBegin (Key.campRes k)
    let s := s.each (s.camp k).planned (fun s f => s.release (f.req.granted.getD 0))
    let s := s.setCamp k { Campaign.empty with a := if s.addr = 0xFF then 64 else s.addr, started := s.elapsed }
    (s.laceCount k).setCampSt k 1
  else s.campBad k

/-- `CAMP_CMD` 2. -/
def State.campPause (s : State) (k : Nat) : State :=
  if s.campSt k = 2 then ((s.setCamp k { s.camp k with failing := none }).setCampSt k 3).resEnd (Key.campRes k) 0 else s.campBad k

/-- Burst slot of campaign k at or after ASN a (R407). -/
def State.nextBurst (s : State) (k a : Nat) : Nat :=
  let c := s.camp k
  match s.served (s.rd (Key.campTenant k)) with
  | some f => (nextCell (s.rd (Key.sfSlots f)) 1 c.period c.phase c.offset a).getD 0
  | none => 0

/-- `CAMP_CMD` 3. A campaign whose last target became complete while it was paused is complete as it runs again (log 142). -/
def State.campResume (s : State) (k : Nat) : State :=
  if s.campSt k = 3 then
    let s := s.setCamp k { s.camp k with burst := s.nextBurst k s.freshAsn }
    ((s.setCampSt k 2).resEnd (Key.campRes k) 0).laceCheck k
  else s.campBad k

/-- `CAMP_CMD` 4: cancels go to the owned targets. -/
def State.campStop (s : State) (k : Nat) : State :=
  if s.campSt k = 2 ∨ s.campSt k = 3 then
    let c := s.camp k
    let s := s.each c.targets (fun s t => s.laceSend k t.record (laceHead 4 c.tag))
    (s.laceFail k 9).resEnd (Key.campRes k) 0
  else s.campBad k

/-- `CAMP_CMD` v of campaign k; a start in progress leaves the command without effect (R85, R398). -/
def State.campCmd (s : State) (k v : Nat) : State :=
  if s.cmdBlocked (Key.campRes k) then s
  else if v = 1 then s.campStart k
  else if v = 2 then s.campPause k
  else if v = 3 then s.campResume k
  else if v = 4 then s.campStop k
  else s

/-- `CAMP_START`. -/
def execCampStart (k : Fin 16) (s : State) : Step := .next (s.campCmd k 1)

/-- `CAMP_PAUSE`. -/
def execCampPause (k : Fin 16) (s : State) : Step := .next (s.campCmd k 2)

/-- `CAMP_RESUME`. -/
def execCampResume (k : Fin 16) (s : State) : Step := .next (s.campCmd k 3)

/-- `CAMP_STOP`. -/
def execCampStop (k : Fin 16) (s : State) : Step := .next (s.campCmd k 4)

/-! ### Loading (R399, R400) -/

/-- The Halter entry of an EUI-64 names this device: the record it names, if that is the node's. -/
def State.ownedRecord (s : State) (t eui : Nat) : Option Nat :=
  match s.halterFind t eui with
  | some (e, _) =>
    let x := s.nrec e.record
    if e.device = s.addr ∧ !x.isFree ∧ x.eui = eui ∧ x.tenant = t then some e.record else none
  | none => none

/-- Octets of a symbol PSDU of a tenant. -/
def State.symbolOctets (s : State) (t : Nat) : Nat := s.draftLen (lacingDraft t 0 (zeros 104)) t

/-- A new stream: with its first pass, or with the pass behind it (R411, R413). -/
def laceStream (mode : Nat) (pass : Bool) (z : Nat) : LaceStream :=
  { mode := mode, cursor := if pass then 0 else 64 * z, again := [], blocks := [] }

/-- First failing check of R399, in order, over the descriptor and image as read. -/
def State.loadCheck (s : State) (k : Nat) (region : Bytes) (owned : List Nat) : Option Nat :=
  let t := s.rd (Key.campTenant k)
  let slots := match s.served t with
    | some f => s.rd (Key.sfSlots f)
    | none => 0
  let level := s.rd (Key.tenSecLevel t)
  let desc := region.take 64
  let span := fieldLe desc 14 2 * s.rd Key.girthSlotUs
  let fits (r : Nat) : Bool := decide (frameUs (s.nrec r).mode (s.symbolOctets t) + 2000 ≤ span)
  let tag := Crypto.crc32c (region.drop 64) % 65536
  if s.targetStore.isNone then some 5
  else if !s.flag (Key.tenEnable t) ∨ s.rd (Key.tenKeySlot t) = 0xFFFF ∨ !(level == 5 || level == 6) then some 3
  else if sbOffset (s.rd (Key.campImageAddr k)) < 64 ∨ region.length < 64 ∨ !descOk desc slots then some 1
  else if !owned.all fits then some 1
  else if region.length < 64 + s.rd (Key.campImageBytes k) ∨ (s.camp k).started + ms 5000 < s.elapsed then some 2
  else if (List.range 16).any (fun j => j != k && decide (2 ≤ s.campSt j ∧ s.campSt j ≤ 3) && s.rd (Key.campTenant j) == t
      && (s.camp j).tag == tag) then some 4
  else none

/-- Streams of the modes that have none begin without a first pass (R413). -/
def Campaign.withStream (c : Campaign) (mode z : Nat) : Campaign :=
  if c.streams.any (fun y => y.mode == mode) then c else { c with streams := c.streams ++ [laceStream mode false z] }

/-- `CAMP_LOAD_DONE`: got is what the chain returned of the descriptor and image of another device; bad is the first 64-byte line, the
descriptor being line 0, whose read failed. -/
def execCampLoadDone (k : Fin 16) (got : Bytes) (bad : Option Nat) (dt : Nat) (s : State) : Step :=
  let s := s.advance dt
  let n : Nat := k
  .next (if s.campSt n ≠ 1 then s
    else
      let t := s.rd (Key.campTenant n)
      let found := (euiList (s.targetBytes n)).filterMap (fun e => s.ownedRecord t e)
      let owned := found.filter (fun r => !(s.nrec r).compat)
      let region := s.imageRegion n got bad
      match s.loadCheck n region owned with
      | some c => (s.setCampSt n 5).resEnd (Key.campRes n) c
      | none =>
        if s.targetsBad n then (s.laceFail n 7).resEnd (Key.campRes n) 2
        else
          let image := region.drop 64
          let z := blocksOf (s.rd (Key.campImageBytes n))
          let targets := owned.map (fun r =>
            ({ record := r, eui := (s.nrec r).eui, done := false, noStorage := false, heardAt := s.elapsed } : LaceTarget))
          let modes := (owned.map (fun r => (s.nrec r).mode)).eraseDups
          let desc := region.take 64
          let c : Campaign :=
            { s.camp n with desc := desc, crc := Crypto.crc32c image, blockCrc := (List.range z).map (fun i => Crypto.crc32c (blockOf image i)),
                            running := s.elapsed, deadline := s.clock.sec + fieldLe desc 20 4, targets := targets,
                            streams := modes.map (fun m => laceStream m true z) }
          let s := (s.setCamp n c).laceCount n
          let s := s.setCamp n { c with burst := s.nextBurst n s.freshAsn }
          let s := (s.setCampSt n 2).resEnd (Key.campRes n) 0
          let old := found.length - owned.length
          let s := if old = 0 then s else s.lacePost .laceCompatTarget n old
          s.each owned (fun s r => s.announce n r))

/-- `ANNOUNCE_RESEND` (R401). -/
def execAnnounceResend (k : Fin 16) (r : Fin 16384) (dt : Nat) (s : State) : Step :=
  let s := s.advance dt
  let c := s.camp k
  .next (if s.campSt k ≠ 2 then s
    else match c.targets.find? (fun t => t.record == r.val) with
      | some t => if !t.done && decide (t.heardAt + ms (1000 * c.announceS) ≤ s.elapsed) then s.announce k r else s
      | none => s)

/-! ### Bursts (R407 to R412) -/

/-- Symbols of R411: up to n; the stream afterwards, the repair symbols taken, and blocks found at the end of
their range. -/
structure LaceFill where
  symbols : List (Nat × Nat)
  stream : LaceStream
  ended : List Nat
  deriving DecidableEq, Repr

/-- Block state z of a stream. -/
def LaceStream.block (t : LaceStream) (z : Nat) : LaceBlock :=
  KMap.getD t.blocks { need := 0, taken := 0, ended := false } z

/-- Replace block state z. -/
def LaceStream.setBlock (t : LaceStream) (z : Nat) (b : LaceBlock) : LaceStream :=
  { t with blocks := KMap.setD t.blocks { need := 0, taken := 0, ended := false } z b }

/-- Blocks whose NEXT_X has passed the top of the device's range, not yet posted (R411). -/
def LaceStream.exhausted (t : LaceStream) : List Nat :=
  (t.blocks.filter (fun p => decide (1000 ≤ p.2.taken) && !p.2.ended)).map (·.1)

/-- Lowest block that needs repair and has an index left. -/
def LaceStream.needy (t : LaceStream) : Option Nat :=
  (t.blocks.find? (fun p => decide (0 < p.2.need ∧ p.2.taken < 1000))).map (·.1)

/-- Repair symbols. -/
def fillRepair (low : Nat) : Nat → LaceStream → List (Nat × Nat) → LaceFill
  | 0, t, l => { symbols := l, stream := t, ended := [] }
  | n + 1, t, l =>
    match t.needy with
    | some z =>
      let b := t.block z
      fillRepair low n (t.setBlock z { b with need := b.need - 1, taken := b.taken + 1 }) (l ++ [(z, low + b.taken)])
    | none => { symbols := l, stream := t, ended := [] }

/-- A symbol in its place in a list that rises by z and then x. -/
def symbolInsert (p : Nat × Nat) : List (Nat × Nat) → List (Nat × Nat)
  | [] => [p]
  | q :: l => if p.1 < q.1 ∨ (p.1 = q.1 ∧ p.2 ≤ q.2) then p :: q :: l else q :: symbolInsert p l

/-- Symbols in order of z and then x. -/
def symbolSort (l : List (Nat × Nat)) : List (Nat × Nat) := l.foldr symbolInsert []

/-- Fill a burst of n frames of an image of z blocks: source symbols not yet sent, in order; then repair symbols that were not sent,
oldest first; then new ones (R409, R411). -/
def laceFill (low z n : Nat) (t : LaceStream) : LaceFill :=
  let src := symbolSort (t.again.filter (fun p => decide (p.2 < 64)))
  let rep := t.again.filter (fun p => decide (64 ≤ p.2))
  let l1 := src.take n
  let fresh := (List.range (min (n - l1.length) (64 * z - t.cursor))).map (fun i => ((t.cursor + i) / 64, (t.cursor + i) % 64))
  let l2 := rep.take (n - l1.length - fresh.length)
  let t := { t with again := src.drop l1.length ++ rep.drop l2.length, cursor := t.cursor + fresh.length }
  let got := fillRepair low (n - l1.length - fresh.length - l2.length) t (l1 ++ fresh ++ l2)
  let ended := got.stream.exhausted
  { got with ended := ended, stream := ended.foldl (fun t y => t.setBlock y { t.block y with ended := true }) got.stream }

/-- G of R407 on a port's frequency, µs. -/
def State.burstGap (s : State) (p f : Nat) : Nat :=
  match s.subOf p f with
  | some (_, b) => if b.lbt then b.listenUs + 100 else 200
  | none => 200

/-- Frames of a burst: C of R408. -/
def State.burstFrames (s : State) (c : Campaign) (f g : Nat) : Nat := (c.slots * s.rd Key.girthSlotUs + g - 2000) / (f + g)

/-- The planned frames of one stream. -/
def State.burstReqs (s : State) (k : Nat) (c : Campaign) (mode freq p f g : Nat) (image : Bytes) (l : List (Nat × Nat)) : List LaceFrame :=
  let t := s.rd (Key.campTenant k)
  (List.range l.length).map (fun j =>
    let zx := l.getD j (0, 0)
    let due := s.slotStart c.burst + (1000 + j * (f + g)) * 1000
    let dsn := (Config.freeBits 8 (s.draws + j)).toNat
    { z := zx.1, x := zx.2,
      req := { kind := .lacing k, port := p, mode := mode, freq := freq, tenant := t,
               draft := lacingDraft t dsn (symbolPayload c zx.1 zx.2 (blockOf image zx.1)), due := due, windowEnd := due + g * 1000,
               power := some (2 * c.drvDbm), code := some 1, granted := none } })

/-- What a planned frame holds of its frequency. -/
def State.laceUse (s : State) (f : LaceFrame) : LaceUse :=
  { freq := f.req.freq, first := s.asnAt (f.req.due - rampUs f.req.mode * 1000),
    last := s.asnAt (f.req.due + (frameUs f.req.mode (s.reqOctets f.req) + rampUs f.req.mode) * 1000), due := f.req.due }

/-- The symbols of a burst wait for the stream's next burst, which has the same contents (R409). -/
def State.burstHeld (s : State) (k mode : Nat) (l : List (Nat × Nat)) : State :=
  s.modStream k mode (fun u => { u with again := l ++ u.again })

/-- A block of the symbols cannot be read whole: bad names blocks whose read fails or times out (R412). -/
def State.burstUnread (s : State) (k : Nat) (image : Bytes) (bad : List Nat) (l : List (Nat × Nat)) : Bool :=
  l.any (fun p => bad.contains p.1 || decide (image.length < min (6144 * (p.1 + 1)) (s.rd (Key.campImageBytes k))))

/-- One stream of a burst: its contents are fixed, its blocks read and checked, a grant asked, and its frames wait for their leads
(R409, R411, R412). -/
def State.burstStream (s : State) (k : Nat) (image : Bytes) (bad : List Nat) (t : LaceStream) : State :=
  let c := s.camp k
  let ten := s.rd (Key.campTenant k)
  match s.hop ten (t.mode == 1) c.burst (8 + t.mode) with
  | none => s
  | some (freq, p) =>
    if s.campSt k ≠ 2 then s
    else
      let f := frameUs t.mode (s.symbolOctets ten)
      let g := s.burstGap p freq
      let low := 64 + 1000 * c.a
      let fill := laceFill low (blocksOf (s.rd (Key.campImageBytes k))) (s.burstFrames c f g) t
      let l := fill.symbols
      let s := s.modStream k t.mode (fun _ => fill.stream)
      let s := s.each fill.ended (fun s z => s.lacePost .laceEsiEnd k z t.mode)
      let s := s.bump Key.laceRepairs (l.filter (fun p => decide (64 ≤ p.2) && !(t.again.contains p))).length
      if l.isEmpty then s
      else if s.burstUnread k image bad l then
        (s.setCamp k { s.camp k with failing := some ((s.camp k).failing.getD s.elapsed) }).burstHeld k t.mode l
      else if l.any (fun p => Crypto.crc32c (blockOf image p.1) != c.blockCrc.getD p.1 0) then s.laceFail k 7
      else
        let s := s.setCamp k { s.camp k with failing := none }
        let one := s.txEnergy (airUs t.mode (s.symbolOctets ten)) (min s.topPower (2 * c.drvDbm))
        let got := s.grant (some 1) (l.length * (s.laceUj + one))
        let s := got.1
        if !got.2 then s.burstHeld k t.mode l
        else
          let reqs := (s.burstReqs k c t.mode freq p f g image l).map (fun r => { r with req := { r.req with granted := some one } })
          let s := { s with draws := s.draws + l.length }
          let d := s.camp k
          s.setCamp k { d with planned := d.planned ++ reqs, uses := d.uses ++ reqs.map s.laceUse }

/-- `BURST_PLANNING`: the burst's entry has fired, 2 ms before it; its contents are fixed, blocks read and a grant asked (R250, R409,
R411, R412). got is the image as the chain returned it from another device's Saddlebag, bad the blocks whose read failed or timed out. A
burst that has begun is passed over. -/
def execBurstPlanning (k : Fin 16) (got : Bytes) (bad : List Nat) (dt : Nat) (s : State) : Step :=
  let s := s.advance dt
  let n : Nat := k
  let c := s.camp n
  let b := c.burst
  let fired := s.takeFired (fun d => d == .burst n b)
  .next (if s.campSt n ≠ 2 ∨ fired.2.isNone then s
    else
      let s := fired.1
      let next (s : State) : State := s.setCamp n { s.camp n with burst := s.nextBurst n (max s.freshAsn (b + 1)) }
      if s.slotStart b ≤ s.nowNs ∨ (s.served (s.rd (Key.campTenant n))).isNone then next s
      else
        let image := s.imageNow n got
        let s := s.setCamp n { s.camp n with uses := [] }
        next (s.each c.streams (fun s t => s.burstStream n image bad t)))

/-- The span [a, b] in ns overlaps a cell of record x on port p (R409). -/
def State.cellOverlaps (s : State) (x : NodeRec) (p a b : Nat) : Bool :=
  let S := s.recSlots x
  let l := s.rd Key.girthSlotUs
  let hits (n slots : Nat) : Bool := decide (s.slotStart n < b ∧ a < s.slotStart (n + slots))
  let here (n : Nat) : Bool := match s.cellChannel x n with
    | some (_, q) => q == p
    | none => false
  let lo := s.asnAt a - max (s.ulCellSlots x) (s.dlCellSlots x)
  ((List.range (s.asnAt b + 1 - lo)).map (lo + ·)).any (fun n => here n
    && ((isCell S l x.ulPeriod x.ulPhase x.ulSlot n && hits n (s.ulCellSlots x))
      || (isCell S l x.dlPeriod x.dlPhase x.dlSlot n && hits n (s.dlCellSlots x))))

/-- A planned burst frame is not sent: its span, from ramp-up to ramp-down, overlaps a node cell on its port or a compatibility
reservation, or a stream of a campaign with a lower number uses the frequency in one of its slots (R409). -/
def State.burstBlocked (s : State) (k : Nat) (f : LaceFrame) : Bool :=
  let q := f.req
  let a := q.due - rampUs q.mode * 1000
  let b := q.due + (frameUs q.mode (s.reqOctets q) + rampUs q.mode) * 1000
  let u := s.laceUse f
  let lower (j : Nat) : Bool := (s.camp j).uses.any (fun v => v.freq == u.freq && decide (v.first ≤ u.last ∧ u.first ≤ v.last))
  s.heldRecs.any (fun r => r.2.hw.macState != macIn && s.cellOverlaps r.2 q.port a b) || s.reserved none q.freq a b || (List.range k).any lower

/-- A planned burst frame is not sent: it no longer uses its frequency, its energy is released and its symbol waits (R409). -/
def State.burstDrop (s : State) (k : Nat) (f : LaceFrame) : State :=
  let c := s.camp k
  let s := s.setCamp k { c with uses := c.uses.filter (fun u => u.freq != f.req.freq || u.due != f.req.due) }
  (s.release (f.req.granted.getD 0)).laceUnsent k f.req.mode f.z f.x

/-- Commit a planned burst frame at its lead; before its lead it waits (R409). -/
def State.burstCommit (s : State) (k : Nat) (f : LaceFrame) : State :=
  let c := s.camp k
  if s.campSt k = 2 ∧ s.nowNs + s.leadNs f.req.port f.req.freq + 1000 ≤ f.req.due then s
  else
    let s := s.setCamp k { c with planned := c.planned.filter (fun g => g != f) }
    if s.campSt k ≠ 2 ∨ s.burstBlocked k f then s.burstDrop k f else s.commit f.req

/-- `TX_COMMIT`: a planned burst frame, or any transmission, which is not committed where it would overlap a
reservation (R234). -/
def execTxCommit (q : TxReq) (dt : Nat) (s : State) : Step :=
  let s := s.advance dt
  let planned (k : Nat) : Option LaceFrame := (s.camp k).planned.find? (fun f => f.req == q)
  .next (match q.kind with
    | .lacing k => (match planned k with
        | some f => s.burstCommit k f
        | none => s)
    | .answer _ | .assocRsp _ | .beacon _ _ | .downlink _ | .broadcast _ _ _ =>
      if 3 < q.port ∨ s.reservedFor q then s else s.commit q)

/-! ### Reports and ends (R410, R398, R412, R413) -/

/-- Entries (z, deficit) of a report: those that its payload holds, 16 at most. -/
def reportEntries (p : Bytes) : List (Nat × Nat) :=
  (List.range (min (min (fieldLe p 5 1) 16) ((p.length - 6) / 3))).map (fun i => (fieldLe p (6 + 3 * i) 2, fieldLe p (8 + 3 * i) 1))

/-- A report of an owned target updates the stream of its record's mode (R400, R410). An entry that names no block of the image changes
nothing. -/
def State.takeReport (s : State) (k : Nat) (t : LaceTarget) (p : Bytes) : State :=
  let status := fieldLe p 4 1
  let z := blocksOf (s.rd (Key.campImageBytes k))
  let mode := (s.nrec t.record).mode
  let c := (s.camp k).withStream mode z
  let t1 : LaceTarget :=
    { t with heardAt := s.elapsed, done := t.done || status == 1, noStorage := t.noStorage || status == 3 }
  let s := s.setCamp k { c with targets := c.targets.map (fun u => if u.record = t.record then t1 else u), everDone := c.everDone || status == 1 }
  let s := s.modStream k mode (fun x => (reportEntries p).foldl (fun x e =>
    if e.1 < z then
      let b := x.block e.1
      x.setBlock e.1 { b with need := min 255 (max b.need (e.2 + c.margin)) }
    else x) x)
  s.laceCheck k

/-- `LACE_REPORT_TAKE`: the engine takes the oldest item of queue 5. -/
def execLaceReportTake (s : State) : Step :=
  let got := s.strapPop 5
  .next (match got.2 with
    | none => got.1
    | some i =>
      let s := got.1
      if i.kind = 1 ∨ i.poison then s
      else
        let short := fieldLe i.data 0 2
        let p := i.data.drop 3
        match s.laceRunning (fieldLe i.data 2 1) p with
        | none => s
        | some k =>
          match (s.camp k).targets.find? (fun t => shortOf t.record == short) with
          | some t => s.takeReport k t p
          | none => s)

/-- `CAMP_DEADLINE` (Table 15-2). -/
def execCampDeadline (k : Fin 16) (dt : Nat) (s : State) : Step :=
  let s := s.advance dt
  let c := s.camp k
  .next (if (s.campSt k = 2 ∨ s.campSt k = 3) ∧ c.running + ms (1000 * c.deadlineS) ≤ s.elapsed then
      if s.rd (Key.campPending k) = 0 then s.laceDone k else s.laceFail k 8
    else s)

/-- `LACE_READ_FAIL` (R412). -/
def execLaceReadFail (k : Fin 16) (dt : Nat) (s : State) : Step :=
  let s := s.advance dt
  .next (match (s.camp k).failing with
    | some a => if s.campSt k = 2 ∧ a + ms 60000 ≤ s.elapsed then s.laceFail k 2 else s
    | none => s)

/-- Record r has reached SYNC from HANDOVER_IN: the target stores of its tenant's running or paused campaigns
are searched (R413). A compatibility record is not served (R400). -/
def State.laceAdopt (s : State) (r : Nat) : State :=
  let x := s.nrec r
  s.each (List.range 16) (fun s k =>
    if !(s.campSt k = 2 ∨ s.campSt k = 3) ∨ s.rd (Key.campTenant k) ≠ x.tenant then s
    else if s.targetsBad k then s.laceFail k 7
    else if x.compat ∨ !(euiList (s.targetBytes k)).contains x.eui then s
    else
      let c := (s.camp k).withStream x.mode (blocksOf (s.rd (Key.campImageBytes k)))
      let t : LaceTarget := { record := r, eui := x.eui, done := false, noStorage := false, heardAt := s.elapsed }
      let s := (s.setCamp k { c with targets := c.targets.filter (fun u => u.record != r) ++ [t] }).laceCount k
      if s.campSt k = 2 then s.announce k r else s)

end Sys2Proof.Machine
end

