-- ==== Sys2Proof/Machine/PowerBase.lean ====
section
/-! DEFINITION. Moves between the power states, and what wakes the device (R535 to R538). -/

namespace Sys2Proof.Machine

/-- `PWR_STATE`: the state last reached. -/
abbrev State.pwr (s : State) : Nat := s.rd Key.pwrState

/-- Replace the power sequencing. -/
def State.setPower (s : State) (p : Power) : State := { s with power := p }

/-- Ports that R133 would raise go to the state of `PORT_AUTO_RETURN` (R133, R535, R543). -/
def State.raisePorts (s : State) : State :=
  let plan := (List.range 64).map (fun n => s.bound n)
  s.each (List.range 4) (fun s p =>
    if s.portHeld plan p && s.autoReturn p != 0 && (s.pstate p == 0 || (s.port p).seq) then
      (s.setPort p { (s.port p) with own := some (s.autoReturn p) }).portRun p
    else s)

/-- Minimum dwell of a power state, in cycles (R538). -/
def powerDwell (st : Nat) : Nat := if st = 2 then ms 20 else if st = 3 then ms 1 else 0

/-- The next state on the way to a target. -/
def powerHop (st t : Nat) : Nat := if st < t then st + 1 else st - 1

/-- The transition towards t starts (R535). -/
def State.powerStart (s : State) (t : Nat) : State :=
  let st := s.pwr
  let hop := powerHop st t
  let s := s.setPower { s.power with moving := some hop, goal := some t, pending := none, movedAt := s.elapsed }
  if st = 4 then s.each (List.range 4) (fun s p => s.portSleep p)
  else if hop = 4 then s.raisePorts
  else s

/-- The state asked for is reached: the run of `PWR_STATE_CMD` ends done, if one runs (R535). -/
def State.powerReached (s : State) : State :=
  (s.setPower { s.power with goal := none, pending := none }).resEndIfBusy Key.pwrStateRes 0

/-- A request for state t (R538). -/
def State.powerAsk (s : State) (t : Nat) : State :=
  if s.power.shutdown.isSome then s
  else if s.power.moving.isSome then s.setPower { s.power with pending := some t }
  else if s.pwr = t then s.powerReached
  else if s.elapsed < s.power.dwellUntil then s.setPower { s.power with pending := some t }
  else s.powerStart t

/-- An event of R537 wakes a device in STANDBY to IDLE. A request for RUN that waits stands. -/
def State.wake (s : State) : State :=
  if s.pwr = 2 ∧ s.power.moving = none ∧ s.power.pending = none then s.powerAsk 3 else s

/-- The cores' islands are asked on or off; an extension core's on only while it runs or is trapped, or its start waits (R539). -/
def State.coreIslandsSet (s : State) (on : Bool) : State :=
  s.each (List.range 16) (fun s n =>
    s.coreIslAsk n (on && (decide (n < 12) || s.coreState n == 1 || s.coreState n == 3 || (s.res (Key.coreRunRes n)).busy)))

/-- Every core stops under R475: it drains its store buffer and its island goes off (R475, R539). -/
def State.coresStop (s : State) : State := (s.each (List.range 16) (fun s n => s.coreDrain n)).coreIslandsSet false

/-- Frames of the closed ports' queues are dropped once STANDBY is reached (R535). -/
def State.dropClosed (s : State) : State :=
  s.each (List.range 12) (fun s h =>
    if h = 6 ∨ h = 7 ∨ h = 8 then s
    else s.each (List.range 8) (fun s c =>
      let q := KMap.getD s.har.queues { frames := [], spilled := false, buffer := [], ring := [] } (8 * h + c)
      let s := (q.frames ++ q.buffer ++ q.ring).foldl (fun (s : State) f =>
        (s.bump (Key.qDrops (8 * h + c))).reportFinal (if f.report then f.handle else none) 0 2) s
      let none' : OutQ := { frames := [], spilled := false, buffer := [], ring := [] }
      { s with har := { s.har with queues := KMap.setD s.har.queues none' (8 * h + c) none' } }))

/-- The watchdog starts a full count (R547). -/
def State.watchdogStart (s : State) : State := s.setPower { s.power with watchdog := s.elapsed }

/-- A state is reached: its dwell begins, and what waits goes on (R538). -/
def State.powerArrive (s : State) (st : Nat) : State :=
  let s := s.wr Key.pwrState st
  let s := s.setPower { s.power with moving := none, dwellUntil := s.elapsed + powerDwell st }
  match s.power.pending, s.power.goal with
  | some t, _ =>
    if t = st then s.powerReached
    else if powerDwell st = 0 then s.powerStart t
    else s
  | none, some g => if g = st then s.powerReached else s.powerStart g
  | none, none => s

/-- The queues of the ports that STANDBY closes are empty (R535). -/
def State.closedDrained (s : State) : Bool :=
  s.har.queues.all (fun p => p.1 / 8 == 6 || p.1 / 8 == 7 || p.1 / 8 == 8 || (p.2.frames.isEmpty && p.2.buffer.isEmpty && p.2.ring.isEmpty))

/-- The transition in progress can end (R535): towards IDLE from RUN every port sleeps; towards RUN no port is on its way; towards
STANDBY the closed queues have drained, or 10 ms have passed. -/
def State.powerCanEnd (s : State) : Bool :=
  if s.pwr = 4 then (List.range 4).all (fun p => s.pstate p == 0 && (s.port p).step.isNone)
  else if s.power.moving = some 4 then (List.range 4).all (fun p => (s.port p).step.isNone)
  else if s.power.moving = some 2 then s.closedDrained || decide (s.power.movedAt + ms 10 ≤ s.elapsed)
  else true

/-- What a transition does at its end, before the state is reached (R535). -/
def State.powerEndWork (s : State) (hop : Nat) : State :=
  if s.pwr = 3 ∧ hop = 2 then s.dropClosed.coresStop
  else if s.pwr = 2 ∧ hop = 3 then
    let s := (s.coreIslandsSet true).watchdogStart
    s.askRebuild 1
  else s

end Sys2Proof.Machine
end

