-- ==== Sys2Proof/Machine/Calibrate.lean ====
section
/-! DEFINITION. Calibration runs and the Stamp lock (R142 to R154). -/

namespace Sys2Proof.Machine

/-! ### Runs -/

/-- Kinds of a run that are blind: 0 image, 1 filter, 3 DC offset. -/
def blindKinds : List Nat := [0, 1, 3]

/-- Replace the run. -/
def State.setCal (s : State) (x : Option CalRun) : State := { s with radio := { s.radio with cal := x } }

/-- The run's requested kinds. -/
def CalRun.asked (c : CalRun) : List Nat := (List.range 4).filter (fun k => bitOf c.kinds k)

/-- Requested blind kinds that have not ended. -/
def CalRun.blindLeft (c : CalRun) : List Nat := blindKinds.filter (fun k => bitOf c.kinds k && (KMap.find c.codes k).isNone)

/-- Code byte of a kind: 0xFF not requested (R146). -/
def CalRun.byte (c : CalRun) (k : Nat) : Nat := if bitOf c.kinds k then KMap.getD c.codes 0 k else 0xFF

/-- A kind of the run ends with a code; a non-zero code is posted (R147). -/
def State.calKind (s : State) (c : CalRun) (k code : Nat) : State × CalRun :=
  (s.calPost c.port code, { c with codes := KMap.put c.codes k code })

/-- The run ends once every requested kind has (R146). -/
def State.calSettle (s : State) (c : CalRun) : State :=
  if c.asked.all (fun k => (KMap.find c.codes k).isSome) then
    let bad := (c.asked.map (fun k => KMap.getD c.codes 0 k)).filter (· != 0)
    ((s.setCal none).raise (20 + c.port)).resEnd Key.calRes ((minNat? bad).getD 0) ((List.range 4).flatMap (fun k => leBytes 1 (c.byte k)))
  else s.setCal (some c)

/-- Several kinds of the run end with one code. -/
def State.calEnd (s : State) (c : CalRun) (ks : List Nat) (code : Nat) : State :=
  let (s, c) := ks.foldl (fun (x : State × CalRun) k => x.1.calKind x.2 k code) (s, c)
  s.calSettle c

/-- A run starts on a port with kinds [3:0] (R146). Its blind kinds end at once on a port in SLEEP or
STANDBY. -/
def State.calStart (s : State) (p kinds : Nat) (periodic : Bool) : State :=
  let c : CalRun :=
    { port := p, kinds := kinds, codes := [], started := s.elapsed, blind := false, openedAt := 0, heldSlot := none,
      left := if bitOf kinds 2 then List.range 41 else [], bad := false, coeff := zeros 2048, periodic := periodic }
  let s := (s.resBegin Key.calRes).setPort p { (s.port p) with lastCal := s.elapsed }
  if s.pstate p ≤ 1 then s.calEnd c c.blindLeft 3 else s.setCal (some c)

/-- A write to `CAL_CMD` in its range: port [1:0], kinds [7:4]. -/
def State.calWrite (s : State) (v : Nat) : State := s.calStart (bits v 0 2) (bits v 4 4) false

/-- `CAL_CMD`: a value with no kind bit is rejected (R146); nothing while a run is in progress. -/
def execCalCmd (v : BitVec 8) (s : State) : Step :=
  .next (if bits v.toNat 4 4 = 0 ∨ s.cmdBlocked Key.calRes ∨ s.radio.cal.isSome then s else s.calWrite v.toNat)

/-- The interval has passed for port p in RX (R147). -/
def State.calDue (s : State) (p : Nat) : Bool :=
  let i := s.rd Key.calIntervalS
  i != 0 && s.pstate p == 3 && decide ((s.port p).lastCal + ms (1000 * i) ≤ s.elapsed)

/-- `CAL_PERIODIC`: all four kinds, one port at a time in port order (R147). -/
def execCalPeriodic (p : Fin 4) (dt : Nat) (s : State) : Step :=
  let s := s.advance dt
  let k : Nat := p
  .next (if s.radio.cal.isNone && s.calDue k && !(List.range k).any (fun q => s.calDue q) then s.calStart k 15 true else s)

/-! ### Oscillators (R143) -/

/-- Tile of island i of a port: receive tiles first, two islands each (Table 5-9). -/
def islandTile (p i : Nat) : Nat × Bool := if i < 32 then (16 * p + i / 2, false) else (4 * p + (i - 32) / 2, true)

/-- Girth has scheduled a reception of a node in slot a on port p, on frequency f where one is named: the slot lies in one of its
uplink cells, or in a cell marked by planning (R143, R144, R261). -/
def State.plannedRx (s : State) (p : Nat) (f : Option Nat) (a : Nat) : Bool :=
  s.heldRecs.any (fun q =>
    let n := s.ulCellSlots q.2
    let starts := (match s.nextUl q.2 (a + 1 - n) with
      | some b => [b]
      | none => []) ++ (q.2.cells.filter (·.uplink)).map (·.asn)
    starts.any (fun b => decide (b ≤ a ∧ a < b + n) && (match s.cellChannel q.2 b with
      | some (g, port) => port == p && (f.isNone || f == some g)
      | none => false)))

/-- Island i of port p may be measured now: its tile is OFF, or listens on a channel on which no reception is scheduled in the present
slot (R143). -/
def State.measurable (s : State) (p i : Nat) : Bool :=
  if 40 ≤ i then true
  else
    let (n, tx) := islandTile p i
    if tx then (s.tx n).isl.phase == .off
    else (s.rx n).isl.phase == .off
      || (s.rd (Key.rxcState n) == 1 && !s.plannedRx (s.rxPort n) (some (placeFreq (s.rd (Key.rxcPlaced n)))) s.asn)

/-- A receive tile whose island is measured is out of listening for 40 µs (R143). -/
def State.calTouch (s : State) (p i : Nat) : State :=
  if i < 32 then
    let n := (islandTile p i).1
    s.setRx n { (s.rx n) with calUntil := s.elapsed + us 40 }
  else s

/-- Bytes of an island's table, or of the trim for 40 (Table 5-9). -/
def islandSpan (i : Nat) : Nat × Nat := if 40 ≤ i then (16, 4) else (344 + 42 * i, 42)

/-- `OSC_CAL_MEASURE`: island i of the run's port (40: the crystal trim) is measured, and judged by Table 5-8 (R143). -/
def execOscCalMeasure (i : Fin 41) (measured : Bytes) (dt : Nat) (s : State) : Step :=
  let s := s.advance dt
  .next (match s.radio.cal with
    | none => s
    | some c =>
      let k : Nat := i
      if !c.left.contains k ∨ !s.measurable c.port k then s
      else
        let (o, n) := islandSpan k
        let got := slice (if k = 40 then s.withTrim measured 0 else measured) 0 n
        let ok := if k = 40 then trimOk got else islandOk got
        let s := s.calTouch c.port k
        let c := { c with left := c.left.filter (· != k), bad := c.bad || !ok, coeff := splice c.coeff o got }
        if c.left.isEmpty then
          if c.bad then s.calEnd c [2] 2
          else (s.calTake c.port 2 c.coeff).calEnd c [2] 0
        else s.setCal (some c))

/-- `CAL_PARTIAL`: 10 s after the run's start the islands not measured keep their tables (R143). -/
def execCalPartial (dt : Nat) (s : State) : Step :=
  let s := s.advance dt
  .next (match s.radio.cal with
    | none => s
    | some c =>
      if c.left.isEmpty ∨ s.elapsed < c.started + ms 10000 then s
      else
        let old := slice (s.dom (Key.calCoeff c.port)) 0 2048
        let kept := c.left.foldl (fun d i => splice d (islandSpan i).1 (slice old (islandSpan i).1 (islandSpan i).2)) c.coeff
        let s := if c.bad then s else s.calTake c.port 2 kept
        s.calEnd { c with left := [] } [2] 4)

/-! ### The blind window (R144, R145) -/

/-- Slots of the blind window. -/
def State.blindSlots (s : State) : Nat := if 6500 ≤ s.rd Key.girthSlotUs then 1 else 2

/-- Slot a is a shared slot, on port p, of a served tenant whose channel map has a channel there (R144, R212). -/
def State.sharedSlot (s : State) (p a : Nat) : Bool :=
  (List.range 32).any (fun f =>
    let n := s.rd (Key.sfSlots f)
    let t := s.rd (Key.sfTenant f)
    decide (2 ≤ n) && s.served t == some f && decide (a % n < s.rd (Key.sfSharedSlots f)) && s.rd (Key.tenChmap t p) != 0)

/-- A transmission committed on port p lies in slot a. -/
def State.txIn (s : State) (p a : Nat) : Bool :=
  (s.jobsOn p).any (fun n => match (s.tx n).job with
    | some j => decide (j.req.due - rampUs j.req.mode * 1000 < s.slotStart (a + 1)
        ∧ s.slotStart a < j.req.due + (j.airtime - rampUs j.req.mode) * 1000)
    | none => false)

/-- Every slot of a window that opens in slot a is free of committed transmissions, scheduled receptions and shared slots on port p
(R144). -/
def State.windowFree (s : State) (p a : Nat) : Bool :=
  s.pstate p == 3 && (s.port p).step.isNone
    && ((List.range s.blindSlots).map (a + ·)).all (fun b => !s.sharedSlot p b && !s.plannedRx p none b && !s.txIn p b)

/-- The present instant is the boundary of its slot: its first µs (log 128). -/
def State.atBoundary (s : State) : Bool := decide (s.nowNs < s.slotStart s.asn + 1000)

/-- No receive tile of the port is in a frame. -/
def State.rxQuiet (s : State) (p : Nat) : Bool := (s.rxOn p).all (fun n => !s.rxBusy n)

/-- The slot was entered on the calendar as one for the run's window, and its entry has fired (R250). -/
def State.windowDue (s : State) (c : CalRun) : Bool := s.girth.sched.fired.any (fun e => e.due == .window c.port s.asn)

/-- The run's window opens now: at the boundary of a free slot, or up to 1 ms into one whose boundary a tile in a frame alone kept from
opening (R144). -/
def State.windowOpen (s : State) (c : CalRun) : Bool :=
  s.windowDue c && s.windowFree c.port s.asn && s.rxQuiet c.port
    && (s.atBoundary || (c.heldSlot == some s.asn && decide (s.nowNs ≤ s.slotStart s.asn + 1000000)))

/-- `CAL_WINDOW_OPEN`: the port is blind: its tiles detect nothing, the LNA is off and the antenna switch at `ANT_IDLE` (R142, R144). -/
def execCalWindowOpen (dt : Nat) (s : State) : Step :=
  let s := s.advance dt
  .next (match s.radio.cal with
    | none => s
    | some c =>
      if c.blind ∨ c.blindLeft.isEmpty then s
      else if s.windowOpen c then
        let s := (s.takeFired (fun d => d == .window c.port s.asn)).1
        let s := s.setCal (some { c with blind := true, openedAt := s.elapsed, heldSlot := none })
        (s.each (s.rxOn c.port) (fun s n => s.setRx n ((s.rx n).blankOn s.elapsed))).femDrive c.port 3 true
      else if s.atBoundary && s.windowDue c && s.windowFree c.port s.asn then s.setCal (some { c with heldSlot := some s.asn })
      else s)

/-- A blind kind ends: DC offset, image, filter run in this order (R145, Table 5-8). -/
def State.blindEnd (s : State) (c : CalRun) (k : Nat) (m : CalMeas) (measured : Bytes) : State × CalRun :=
  let code := s.blindCode k m
  (if code = 0 then s.calTake c.port k measured else s).calKind c k code

/-- `CAL_WINDOW_END`: 6.5 ms after the window opened; what it measured for the kinds image, filter, (oscillator), DC offset (R145). -/
def execCalWindowEnd (out : List CalMeas) (measured : Bytes) (dt : Nat) (s : State) : Step :=
  let s := s.advance dt
  .next (match s.radio.cal with
    | none => s
    | some c =>
      if !c.blind ∨ s.elapsed < c.openedAt + us 6500 then s
      else
        let (s, c) := ([3, 0, 1].filter (fun k => c.blindLeft.contains k)).foldl
          (fun (x : State × CalRun) k => x.1.blindEnd x.2 k (out.getD k { power := [], figure := [] }) measured) (s, { c with blind := false })
        ((s.calSettle c).femDrive c.port (s.pstate c.port) false).rxFollow c.port)

/-- `CAL_NO_WINDOW`: no window opened within 60 s (R144). -/
def execCalNoWindow (dt : Nat) (s : State) : Step :=
  let s := s.advance dt
  .next (match s.radio.cal with
    | none => s
    | some c =>
      if c.blind ∨ c.blindLeft.isEmpty ∨ s.elapsed < c.started + ms 60000 then s else s.calEnd c c.blindLeft 3)

/-- The port is blind for calibration. -/
def State.blindNow (s : State) (p : Nat) : Bool :=
  match s.radio.cal with
  | some c => c.blind && c.port == p
  | none => false

/-! ### Stamp lock (R152, R153) -/

/-- Fuses replaced. -/
def State.setFuses (s : State) (f : Fuses) : State := { s with fuses := f, radio := { s.radio with locking := false } }

/-- A run of `STAMP_LOCK_CMD`. -/
def State.stampLock (s : State) : State :=
  let k := Key.stampLockRes
  if s.fuses.locked.isSome then s.resEnd k 3
  else if s.fuses.failed then s.resEnd k 2
  else if (List.range 4).any (fun p => (s.dom (Key.stampPort p)).isEmpty) then s.resEnd k 1
  else (s.resBegin k).setRadio { s.radio with locking := true }

/-- `STAMP_LOCK`: a write of 0xA5; nothing while a lock is being programmed. -/
def execStampLock (s : State) : Step := .next (if s.cmdBlocked Key.stampLockRes || s.radio.locking then s else s.stampLock)

/-- `STAMP_LOCK_DONE`: ok tells that all four records verified. -/
def execStampLockDone (ok : Bool) (s : State) : Step :=
  .next (if !s.radio.locking then s
    else if ok then
      ((s.setFuses { s.fuses with locked := some ((List.range 4).map (fun p => s.dom (Key.stampPort p))), failed := false }).wr
        Key.stampLocked 1).resEnd Key.stampLockRes 0
    else (s.setFuses { s.fuses with locked := none, failed := true }).resEnd Key.stampLockRes 2)

end Sys2Proof.Machine
end

