-- ==== Sys2Proof/Machine/GirthSync.lean ====
section
/-! DEFINITION. Synchronisation of nodes: reference cells, windows, re-find, answers and association (R223,
R226, R229 to R237). -/

namespace Sys2Proof.Machine

/-! ### Reference cells (R231) -/

/-- A frame accepted from the air, as the checks pass it on. -/
structure Heard where
  record : Nat
  mhr : Mhr
  form : Form
  /-- frame without FCS, deciphered -/
  bytes : Bytes
  /-- octets of the PSDU with FCS -/
  octets : Nat
  tile : Nat
  port : Nat
  mode : Nat
  freq : Nat
  /-- SFD stamp, chain time in ns -/
  stamp : Nat
  rxMeta : Nat
  /-- the Halter entry that the learning lookup meets fails its check (R347) -/
  haBad : Nat
  deriving DecidableEq, Repr

/-- Measured first chip, ns (R231). -/
def Heard.firstChip (f : Heard) : Nat := f.stamp - shrUs f.mode * 1000

/-- End of the last chip, ns. -/
def Heard.lastChip (f : Heard) : Nat := f.stamp + (1 + f.octets) * octetUs f.mode * 1000

/-- Cells of a pattern about ASN a: the last at or before it, and the next after. -/
def aboutCells (S l period phase slot a : Nat) : List Nat :=
  let step := period * S
  match nextCell S l period phase slot a with
  | none => []
  | some n => (if step ≤ n then [n - step] else []) ++ [n] ++ (if n = a then [n + step] else [])

/-- Shared slots about ASN a in a slotframe of S slots with k shared ones. -/
def aboutShared (S k a : Nat) : List Nat :=
  if S < 2 ∨ k = 0 then []
  else
    let m := a / S
    let near := [a - 1, a, a + 1].filter (fun b => decide (b % S < k))
    near ++ (if m = 0 then [] else [(m - 1) * S + min k S - 1]) ++ [m * S + min k S - 1, (m + 1) * S]

/-- Offset e in ns of a first chip from the reference cell's due first chip, with the node's offset in µs: the nearest of the node's
uplink and downlink cells and its tenant's shared slots, the earlier of two equally near; none where the node has no cells, and none of
the time before the slots of the present length (R209, R231). -/
def State.refOffset (s : State) (x : NodeRec) (first : Nat) (off : Int) : Option Int :=
  let S := s.recSlots x
  let half := s.slotNs / 2
  let a := s.asnAt (first - half)
  let k := match s.served x.tenant with
    | some f => s.rd (Key.sfSharedSlots f)
    | none => 0
  let l := s.rd Key.girthSlotUs
  let own := aboutCells S l x.ulPeriod x.ulPhase x.ulSlot a ++ aboutCells S l x.dlPeriod x.dlPhase x.dlSlot a
  let cells := (own ++ aboutShared S k a).filter (fun b => decide (s.girth.sched.slotsFrom ≤ s.slotStart b))
  let err (b : Nat) : Int := (first : Int) - ((s.slotStart b + half : Nat) : Int) - off * 1000
  let better (p q : Int) : Bool := decide (p.natAbs < q.natAbs ∨ (p.natAbs = q.natAbs ∧ q < p))
  (cells.map err).foldl (fun best e => match best with
    | none => some e
    | some b => if better e b then some e else some b) none

/-- Nearest µs to a number of ns, ties away from zero (R232). -/
def roundUs (e : Int) : Int := if 0 ≤ e then (e + 500) / 1000 else -((-e + 500) / 1000)

/-! ### Synchronising on a frame (R232, R233, R236) -/

/-- What the answer to a frame carries. -/
inductive Sync where
  | correction (c : Int)
  | anchor
  | plain
  deriving DecidableEq, Repr

/-- Re-find of a compatibility node: OFFSET becomes e against the reference cell taken with OFFSET 0
(R236); a guard base at the limit returns it to DESYNC at once (R233). -/
def State.refindCompat (s : State) (r first : Nat) : State :=
  let s := match s.refOffset (s.nrec r) first 0 with
    | some e => s.modHw r (fun h => { h with offset := roundUs e })
    | none => s
  let s := (s.contact r).resync r
  if s.guardLimit ≤ s.rd Key.guardBaseUs * 1000 then s.desync r 1 else s

/-- A compatibility node's frame (R233, R236). -/
def State.syncCompat (s : State) (r first : Nat) : State :=
  let x := s.nrec r
  if x.syncState = macSync then
    match s.refOffset x first x.hw.offset with
    | some e =>
      if e.natAbs ≤ s.guardAt x first then
        (s.modHw r (fun h => { h with offset := h.offset + roundUs e })).contact r
      else (s.desync r 2).refindCompat r first
    | none => (s.desync r 2).refindCompat r first
  else if x.syncState = macDesync then s.refindCompat r first
  else s.contact r

/-- A native node's frame; short tells that it carries the node's short address (R232, R236, Table 8-7). -/
def State.syncNative (s : State) (r first : Nat) (short : Bool) : State × Sync :=
  let x := s.nrec r
  let s := s.contact r
  let e := s.refOffset x first 0
  let fine : Option Int := match e with
    | some e => if 2 * e.natAbs ≤ s.slotNs then some e else none
    | none => none
  let byOffset : Sync := match fine with
    | some e => if e.natAbs ≤ 2047000 then .correction (-(roundUs e)) else .anchor
    | none => .anchor
  if x.syncState = macSync then
    match fine with
    | some _ => (s, byOffset)
    | none => ((s.desync r 2).resync r, .anchor)
  else if x.syncState = macDesync then (s.resync r, .anchor)
  else if x.hw.macState = macProvisioned ∨ x.hw.macState = macAssociating then
    if short then (s.modHw r (fun h => { h with macState := macSync }), .anchor) else (s, byOffset)
  else (s, .plain)

/-! ### Answers (R213, R223) -/

/-- IE of an answer whose first chip is due at an instant. -/
def State.syncIe (s : State) (y : Sync) (due : Nat) : Bytes :=
  match y with
  | .correction c => timeCorrection c
  | .anchor => timeAnchor (s.asnAt due) ((due - s.slotStart (s.asnAt due)) / 1000)
  | .plain => []

/-- Answer due 1,000 µs after the frame's last chip; none where the lead has gone (R223). -/
def State.answerDue (s : State) (f : Heard) : Option Nat :=
  let due := f.lastChip + 1000000
  if s.nowNs + s.leadNs f.port f.freq ≤ due then some due else none

/-- A request to send an answer to a heard frame. -/
def answerReq (f : Heard) (k : TxKind) (tenant : Nat) (d : Draft) (due : Nat) : TxReq :=
  { kind := k, port := f.port, mode := f.mode, freq := f.freq, tenant := tenant, draft := d, due := due, windowEnd := due,
    power := none, code := none, granted := none }

/-- Acknowledge a frame, if R223 allows it and the node is served (R211, R217, R242); with the octets of the answer. -/
def State.acknowledge (s : State) (f : Heard) (y : Sync) : State × Option Nat :=
  let x := s.nrec f.record
  let ok := 1 ≤ x.hw.macState ∧ x.hw.macState ≤ 5 ∧ s.recSlots x ≠ 0
  if !f.mhr.ar || !decide ok then (s, none)
  else match s.answerDue f with
    | none => (s, none)
    | some due =>
      let more := !(s.nodeQ f.record).frames.isEmpty
      let d := if x.compat then immAckDraft f.mhr.dsn more else enhAckDraft f.record (shortOf f.record) f.mhr.dsn more (s.syncIe y due)
      (s.commit (answerReq f (.answer f.record) x.tenant d due), some (s.draftLen d x.tenant))

/-- The association response to a request (R229, R230); with its octets. -/
def State.assocAnswer (s : State) (f : Heard) (y : Sync) : State × Option Nat :=
  let x := s.nrec f.record
  let t := x.tenant
  if !s.flag Key.assocOpen || s.rd (Key.tenKeySlot t) == 0xFFFF || x.hw.macState == macIn || x.compat || s.recSlots x == 0 then (s, none)
  else match s.answerDue f with
    | none => (s, none)
    | some due =>
      let dsn := (s.draw 8).toNat
      let s := s.drawn
      let d := assocRspDraft t (s.rd (Key.tenPanId t)) x.eui (shortOf f.record) dsn (!(s.nodeQ f.record).frames.isEmpty) (s.syncIe y due)
      (s.commit (answerReq f (.assocRsp f.record) t d due), some (s.draftLen d t))

/-- `ASSOC_REQUEST_RX`: a request that passed checks 1 to 4 names a record, or none (R229). -/
def State.assocUnknown (s : State) (t eui : Nat) : State := s.post .assocUnknown (0x3100 + t) eui

/-! ### An accepted frame -/

/-- Charge for a frame in or outside the node's own cells; ans is the octets of the answer due to it (R256). An association request
has its response in place of an acknowledgement. -/
def State.chargeHeard (s : State) (f : Heard) (ans : Option Nat) : State :=
  let x := s.nrec f.record
  let inCell (c : CellUse) : Bool := c.uplink && c.holds f.firstChip
  let time := frameUs f.mode f.octets
  let none' := !f.mhr.ar && f.form != .assocRequest
  if x.cells.any inCell then
    s.modCell f.record inCell (fun c => { c with frameUs := some time, noAnswer := none' })
  else
    let a := if none' then none else some (match ans with
      | some n => frameUs f.mode n
      | none => s.ulAnswerUs x)
    s.charge f.record (ulCharge (s.modeCost x.mode) time a) s.clock.sec

/-- The frame is a MAC retry: its DSN is the last accepted, within 120 s (R226). -/
def State.macRetry (s : State) (f : Heard) : Bool :=
  let h := (s.nrec f.record).hw
  f.form != .assocRequest && h.ulDsnTime != 0 && h.ulDsn == f.mhr.dsn && decide (s.nowMs ≤ h.ulDsnTime + 120000)

/-- The frame enters the Harness at its port (R14). -/
def State.toHarness (s : State) (f : Heard) : State :=
  { s with har := { s.har with arrivals := s.har.arrivals ++ [{ h := f.port, info := .radio f.record f.rxMeta, bytes := f.bytes }] } }

/-- A frame that passed the checks of R12 for a record this device serves (R223 to R237, R256,
R343). -/
def State.heard (s : State) (f : Heard) : State :=
  let r := f.record
  let x := s.nrec r
  let s := s.modHw r (fun h => { h with framesUp := (h.framesUp + 1) % 2 ^ 32 })
  let s := s.learn r x.tenant x.eui x.parent f.haBad
  let retry := s.macRetry f
  let (s, y) := if x.compat then (s.syncCompat r f.firstChip, Sync.plain) else s.syncNative r f.firstChip (f.form != .assocRequest)
  let ans := match f.form with
    | .assocRequest => s.assocAnswer f y
    | .uplink | .command => s.acknowledge f y
    | .enhAck | .immAck => (s, none)
  let s := ans.1.chargeHeard f ans.2
  if retry then s
  else
    let s := match f.form with
      | .uplink | .command => s.modHw r (fun h => { h with ulDsn := f.mhr.dsn, ulDsnTime := s.nowMs % 2 ^ 48 })
      | .assocRequest | .enhAck | .immAck => s
    let p := f.bytes.drop (radioPayload f.bytes f.mhr).1
    if f.mhr.typ = 1 ∧ (s.laceReportOf x.tenant p).isSome then s.laceReport (shortOf r) x.tenant p else s.toHarness f

/-- `ASSOC_REQUEST_RX`: an association request of EUI-64 eui under tenant t, its SFD stamp now; the request has
passed checks 1 to 4 (R229). -/
def execAssocRequestRx (t : Fin 256) (eui : Nat) (p : Fin 4) (mode freq : Nat) (dsn dt : Nat) (s : State) : Step :=
  let s := s.advance dt
  .next (match s.findRec t eui with
    | none => s.assocUnknown t eui
    | some r =>
      if (s.nrec r).quarantined then s else
      let m : Mhr :=
        { typ := 3, security := true, ar := true, panComp := true, suppress := false, iePresent := false, dstMode := 2, version := 2,
          srcMode := 3, res7 := false, dsn := dsn, dstPan := some (s.rd (Key.tenPanId t)), dst := some 0, srcPan := none, src := some eui,
          secCtl := 0, counter := 0, keyIndex := some 1, addrEnd := 0, auxEnd := 0, iesEnd := 0 }
      let len := 29 + s.secExtra t
      let f : Heard :=
        { record := r, mhr := m, form := .assocRequest, bytes := [], octets := len, tile := 0, port := p, mode := mode, freq := freq,
          stamp := s.nowNs - (1 + len) * octetUs mode * 1000, rxMeta := 0, haBad := 0 }
      let (s, y) := if (s.nrec r).compat then (s, Sync.plain) else s.syncNative r f.firstChip false
      (s.assocAnswer f y).1)

end Sys2Proof.Machine
end

