-- ==== Sys2Proof/Machine/GirthMac.lean ====
section
/-! DEFINITION. Beacons, broadcasts and handovers, and the slot length change (R209, R212, R222, R228, R238 to
R241, R393). -/

namespace Sys2Proof.Machine

/-! ### Beacons and broadcasts -/

/-- Beacon modes of a tenant, SG modes first (R218, R222). -/
def State.tenantModes (s : State) (t : Nat) : List Nat := s.beaconModes t 0 ++ s.beaconModes t 2

/-- First chip due in a slot, ns (R213). -/
def State.dueIn (s : State) (a : Nat) : Nat := s.slotStart a + s.slotNs / 2

/-- End of a slot's transmit window: the end of the slot (log 42). -/
def State.windowOf (s : State) (a : Nat) : Nat := s.slotStart (a + 1)

/-- Channel Set IE of a band (Table 8-5). -/
def State.channelSet (s : State) (t : Nat) (is : Bool) : Bytes :=
  (if is then [2, 3] else [0, 1]).flatMap (fun p => leBytes 4 ((s.raster p 0).getD 0) ++ leBytes 8 (s.rd (Key.tenChmap t p)))

/-- Slot Descriptor IE of a slotframe (Table 8-5). -/
def State.slotDesc (s : State) (f : Nat) : Bytes :=
  leBytes 2 (s.rd Key.girthSlotUs) ++ leBytes 2 (s.rd (Key.sfSlots f)) ++ leBytes 2 (s.rd (Key.sfBeaconEvery f))
    ++ leBytes 2 (s.rd (Key.sfSharedSlots f))

/-- A transmission in a cell at ASN a, unless a reservation refuses it (R234). -/
def State.sendIn (s : State) (q : TxReq) : State := if s.reservedFor q then s else s.commit q

/-- One beacon of tenant t in slot a and a mode (R158, R222). -/
def State.beacon (s : State) (f t a mode : Nat) : State :=
  match s.hop t (mode == 1) a mode with
  | none => s
  | some (freq, p) =>
    let dsn := (s.draw 8).toNat
    let s := s.drawn
    let draft (pad : Option Nat) : Draft :=
      beaconDraft t (s.rd (Key.tenPanId t)) a dsn (s.slotDesc f) (s.channelSet t (mode == 1)) pad
    let room := 127 - (s.draftLen (draft none) t + 6)
    let starved := s.rd (Key.portAntState p) == antStarved && s.flag (Key.portDiagStretch p)
    let pads := starved && s.dutyOk p (s.subOf p freq) (airUs mode 127) && decide (s.draftLen (draft none) t + 6 ≤ 127)
    s.sendIn { kind := .beacon t pads, port := p, mode := mode, freq := freq, tenant := t, draft := draft (if pads then some room else none),
               due := s.dueIn a, windowEnd := s.windowOf a, power := none, code := none, granted := none }

/-- Slots of a beacon's cell in a mode, for a PSDU of n octets: no answer is due (R213, R222). -/
def State.beaconSlots (s : State) (mode n : Nat) : Nat := s.cellSlots (frameUs mode n) none

/-- Slot a is a beacon slot of slotframe f (R212). -/
def State.beaconSlot (s : State) (f a : Nat) : Bool :=
  let every := s.rd (Key.sfBeaconEvery f)
  every != 0 && a % s.rd (Key.sfSlots f) % every == 0

/-- Slot a is a shared slot of slotframe f (R212). -/
def State.sharedAt (s : State) (f a : Nat) : Bool := decide (a % s.rd (Key.sfSlots f) < s.rd (Key.sfSharedSlots f))

/-- `BEACON_SEND`: a fired slot of slotframe f, if it still is a beacon slot (R212, R222). -/
def execBeaconSend (f : Fin 32) (dt : Nat) (s : State) : Step :=
  let s := s.advance dt
  let k : Nat := f
  let got := s.takeFired (Due.beaconOf k)
  let t := s.rd (Key.sfTenant k)
  .next (match got.2 with
    | none => s
    | some d =>
      if s.served t = some k ∧ s.beaconSlot k d.asn then got.1.each (s.tenantModes t) (fun s m => s.beacon k t d.asn m) else got.1)

/-- One broadcast frame in shared slot a and a mode; the last mode carries the report. -/
def State.castIn (s : State) (c : PendingCast) (a mode : Nat) (last : Bool) : State :=
  match s.hop c.tenant (mode == 1) a 0 with
  | none => s
  | some (freq, p) =>
    let dsn := (s.draw 8).toNat
    let s := s.drawn
    s.sendIn { kind := .broadcast c.tenant (if last then c.handle else none) c.report, port := p, mode := mode, freq := freq, tenant := c.tenant,
               draft := broadcastDraft c.tenant (s.rd (Key.tenPanId c.tenant)) dsn c.bytes, due := s.dueIn a, windowEnd := s.windowOf a,
               power := none, code := if bitOf (s.rd Key.cinchLowClasses) c.cls then some 4 else none, granted := none }

/-- A broadcast goes out in shared slot a in each of its tenant's beacon modes that has a channel there; with none it is reported
not sent (R228). -/
def State.castOut (s : State) (c : PendingCast) (a : Nat) : State :=
  let modes := (s.tenantModes c.tenant).filter (fun m => (s.hop c.tenant (m == 1) a 0).isSome)
  if modes.isEmpty then s.reportFinal (if c.report then c.handle else none) 0 2
  else s.each modes (fun s m => s.castIn c a m (some m == modes.getLast?))

/-- `BROADCAST_DOWNLINK`: every broadcast of the tenant that had arrived when a fired shared cell begins goes out in it (R228). -/
def execBroadcastDownlink (t : Fin 256) (dt : Nat) (s : State) : Step :=
  let s := s.advance dt
  let k : Nat := t
  .next (match s.served k with
    | none => s
    | some f =>
      let got := s.takeFired (Due.sharedOf f)
      match got.2 with
      | none => s
      | some d =>
        let due (c : PendingCast) : Bool := c.tenant == k && decide (c.arrived ≤ s.slotStart d.asn)
        if !s.sharedAt f d.asn then got.1
        else
          let s := got.1
          let now := s.girth.casts.filter due
          let s := { s with girth := { s.girth with casts := s.girth.casts.filter (fun c => !due c) } }
          s.each now (fun s c => s.castOut c d.asn))

/-! ### Handover (R238 to R241, R393) -/

/-- A record's handover fields are cleared (R241). -/
def NodeRec.clearRole (x : NodeRec) : NodeRec :=
  { x with host := splice x.host 8 (leBytes 8 (setBits x.word 46 2 0)), handover := none }

/-- A handover of record r is abandoned: the former state returns, or the record is freed on B (R241). -/
def State.abandon (s : State) (r : Nat) : State :=
  let x := s.nrec r
  if x.hw.macState = macIn then
    ((((s.undeliverAll r).unschedule r).setRec r NodeRec.free).laceForget r).girthPost .hoFail x.eui x.hoPeer
  else if x.hoRole = 1 ∧ !x.isFree then
    let former := match x.handover with
      | some h => if x.hw.macState = macOut then h.former else x.hw.macState
      | none => x.hw.macState
    let y := x.clearRole
    let s := s.wheelDrop (Due.handoverOf r)
    (s.setRec r { y with hw := { y.hw with macState := former, hoAsn := 0 } }).girthPost .hoFail x.eui x.hoPeer
  else s

/-- A handover of record r is begun or asked for: HO_ROLE 1 was written, or the record is HANDOVER_IN (R241). -/
def State.inHandover (s : State) (r : Nat) : Bool :=
  let x := s.nrec r
  !x.isFree && (x.hoRole == 1 || x.handover.isSome || x.hw.macState == macIn)

/-- `HANDOVER_ABANDON`. -/
def execHandoverAbandon (r : Fin 16384) (s : State) : Step := .next (s.abandon r)

/-- First cell of a record at or after ASN a. -/
def State.firstCell (s : State) (x : NodeRec) (a : Nat) : Option Nat :=
  minNat? ((match s.nextUl x a with | some n => [n] | none => []) ++ (match s.nextDl x a with | some n => [n] | none => []))

/-- H is fixed at least n of the tenant's slotframes after ASN a (R239). -/
def State.fixH (s : State) (r a n : Nat) : State :=
  let x := s.nrec r
  match x.handover, s.firstCell x (a + n * s.recSlots x) with
  | some h, some b =>
    let s := s.setRec r { x with handover := some { h with h := some b }, hw := { x.hw with hoAsn := b % 2 ^ 32 } }
    s.wheelEnter (s.planMs b) (.handover r b)
  | _, _ => s

/-- `HANDOVER_CONFIRM`: the peer's firmware answers; ok tells that its record matches, pan is the tenant's PAN
ID there (R238, R239). -/
def execHandoverConfirm (r : Fin 16384) (ok : Bool) (pan : BitVec 16) (s : State) : Step :=
  let k : Nat := r
  let x := s.nrec k
  .next (if x.hoRole ≠ 1 ∨ x.isFree ∨ !(x.hw.macState == macSync || x.hw.macState == macDesync) then s
    else if !ok ∨ (x.compat ∧ (x.hoShort ≠ shortOf k ∨ pan.toNat ≠ s.rd (Key.tenPanId x.tenant))) then s.abandon k
    else
      let h : HandoverOut := { former := x.hw.macState, h := none, confirmed := true, acked := false, pan := pan.toNat }
      let s := s.setRec k { x with handover := some h, hw := { x.hw with macState := macOut } }
      let s := s.emit (.handover x.hoPeer x.eui x.tenant false { x.hw with macState := macOut })
      if x.compat then s.fixH k s.freshAsn 2 else s)

/-- `HANDOVER_STATE_RX`: B stages the state transfer (R239). -/
def execHandoverStateRx (r : Fin 16384) (hw : NodeHw) (s : State) : Step :=
  let x := s.nrec r
  .next (if x.hw.macState = macIn then s.setRec r { x with staged := some hw } else s)

/-- The union of two windows, aligned to the larger highest counter (R393). -/
def mergeWindow (a b : NodeHw) : Nat × Nat :=
  let shifted (h : NodeHw) (top : Nat) : Nat := if top - h.ulFc < 16 && bitOf h.fcFlags 0 then h.ulWin * 2 ^ (top - h.ulFc) % 65536 else 0
  let top := max a.ulFc b.ulFc
  (top, Nat.lor (shifted a top) (shifted b top))

/-- B serves the node of record r from its final state: the windows are merged, the record moves to SYNC (R239, R393). -/
def State.serveIn (s : State) (r : Nat) (hw : NodeHw) : State :=
  let x := s.nrec r
  let st := match x.staged with
    | some h => h
    | none => hw
  let (top, w) := mergeWindow st hw
  let merged : NodeHw :=
    { hw with macState := macSync, ulFc := top, ulWin := w, dlFc := max st.dlFc hw.dlFc, hoAsn := 0,
              fcFlags := setBit hw.fcFlags 0 (bitOf hw.fcFlags 0 || bitOf st.fcFlags 0) }
  let y := x.clearRole
  ((s.setRec r { y with hw := merged, staged := none, final := none }).reschedule r).laceAdopt r

/-- ASN H of a hardware part, from its low 32 bits: the first at or after the present one less half the range. -/
def State.fullH (s : State) (h : Nat) : Nat :=
  let d := (h + 2 ^ 32 - s.asn % 2 ^ 32) % 2 ^ 32
  if d < 2 ^ 31 then s.asn + d else s.asn + d - 2 ^ 32

/-- `HANDOVER_H_REACHED`: on A the final state and the held frames go to the peer and the record is free; on B a final state that came
before H takes effect (R239). -/
def execHandoverHReached (r : Fin 16384) (dt : Nat) (s : State) : Step :=
  let s := s.advance dt
  let k : Nat := r
  let x := s.nrec k
  .next (if x.hw.macState = macIn then
      match x.final with
      | some hw => if s.fullH hw.hoAsn ≤ s.asn then s.serveIn k hw else s
      | none => s
    else match x.handover with
    | none => s
    | some h =>
      match h.h with
      | none => s
      | some b =>
        if x.hw.macState ≠ macOut ∨ s.asn < b then s
        else
          let s := s.emit (.handover x.hoPeer x.eui x.tenant true x.hw)
          let s := s.each ((s.nodeQ k).frames.filter (fun f => !f.forHandover)) (fun s f => s.emit (.passed x.hoPeer x.eui x.tenant f))
          let s := (s.setNodeQ k { frames := [], welt := none }).unschedule k
          let s := (s.setRec k NodeRec.free).laceForget k
          let fw : Forwarding := { eui := x.eui, tenant := x.tenant, peer := x.hoPeer, endsAt := s.elapsed + ms 60000 }
          ({ s with girth := { s.girth with forwards := s.girth.forwards ++ [fw] } }).girthPost .hoDone x.eui x.hoPeer)

/-- `HANDOVER_FINAL_RX`: B takes the final state; at or after H it serves the node at once, else from H (R239, R393). -/
def execHandoverFinalRx (r : Fin 16384) (hw : NodeHw) (dt : Nat) (s : State) : Step :=
  let s := s.advance dt
  let k : Nat := r
  let x := s.nrec k
  let h := s.fullH hw.hoAsn
  .next (if x.hw.macState ≠ macIn then s
    else if h ≤ s.asn then s.serveIn k hw
    else (s.setRec k { x with final := some hw }).enterOnce (s.planMs h) (.handover k h))

/-- `HANDOVER_FORWARD_END`: 60 s after H (R239). -/
def execHandoverForwardEnd (dt : Nat) (s : State) : Step :=
  let s := s.advance dt
  .next { s with girth := { s.girth with forwards := s.girth.forwards.filter (fun f => decide (s.elapsed < f.endsAt)) } }

/-! ### Slot length and map changes (R209, R211, R217) -/

/-- Bursts of campaign k are placed anew; what was planned is not sent (R407, R409). -/
def State.burstAnew (s : State) (k : Nat) : State :=
  let c := s.camp k
  let s := s.setCamp k { c with planned := [], uses := [] }
  let s := s.each c.planned (fun s f => (s.release (f.req.granted.getD 0)).laceUnsent k f.req.mode f.z f.x)
  s.setCamp k { s.camp k with burst := s.nextBurst k s.freshAsn }

/-- The slot length has changed at its epoch. The next slot begins at the first multiple of the new length, and no cell of the old length
is left but those that have begun; handovers are abandoned, every node enters DESYNC with cause 4, and the scheduler rebuilds (R209,
R253). -/
def State.slotChange (s : State) : State :=
  let s := s.wheelDrop (fun _ => true)
  let s := s.setSched { s.girth.sched with slotsFrom := s.slotStart s.freshAsn }
  let s := s.each (s.heldRecs.map (·.1)) (fun s r =>
    let x := s.nrec r
    let s := s.setRec r { x with cells := x.cells.filter (fun c => decide (c.start < s.nowNs)) }
    let s := if s.inHandover r then s.abandon r else s
    let m := (s.nrec r).hw.macState
    if 1 ≤ m ∧ m ≤ 4 then s.desync r 4 else s)
  let s := s.each ((List.range 16).filter (fun k => decide (2 ≤ s.campSt k ∧ s.campSt k ≤ 3))) (fun s k => s.burstAnew k)
  s.askRebuild 3

/-- Beacon and shared slots of the slotframes that have changed leave the wheel, and are entered anew at the next tick (R212). -/
def State.framesFollow (s old : State) : State :=
  let keys (f : Nat) : List Nat := [Key.sfSlots f, Key.sfTenant f, Key.sfBeaconEvery f, Key.sfSharedSlots f]
  let changed (f : Nat) : Bool := (keys f).any (fun k => old.rd k != s.rd k)
  let l := (List.range 32).filter changed
  let s := s.wheelDrop (fun d => l.any (fun f => d.beaconOf f || d.sharedOf f))
  s.each ((List.range 16).filter (fun k => s.campSt k == 2
    && l.contains (s.rd (Key.tenSlotframe (s.rd (Key.campTenant k)))))) (fun s k => s.burstAnew k)

/-- `SF_MISMATCH` once for each tenant whose slotframe fails the check of R211 when a change applies. -/
def State.slotframesApplied (s : State) : State :=
  s.each ((List.range 256).filter (fun t => s.flag (Key.tenEnable t) && (s.served t).isNone)) (fun s t =>
    s.post .sfMismatch (0x3100 + t) (s.rd (Key.tenSlotframe t)))

/-- A tenant's maps have changed from old ones: compatibility records that lose their channel are posted
(R217). -/
def State.compatLost (s : State) (t : Nat) (old : List Nat) : State :=
  s.each (s.heldRecs.filter (fun q => q.2.tenant == t && q.2.compat)) (fun s q =>
    let x := q.2
    let ports := if x.isIs then [2, 3] else [0, 1]
    let had := ports.any (fun p => bitOf (old.getD p 0) x.chOffset)
    let has := ports.any (fun p => bitOf (s.rd (Key.tenChmap t p)) x.chOffset)
    if had && !has then s.post .compatNoChannel (0x3100 + t) (shortOf q.1) x.chOffset else s)

end Sys2Proof.Machine
end

