-- ==== Sys2Proof/Machine/Sched.lean ====
section
/-! DEFINITION. The scheduler: the tick, the far list, planning, rebuilds and the day start (R246 to R264). -/

namespace Sys2Proof.Machine

/-! ### The tick (R249 to R254) -/

/-- An entry placed after the entries due no later than it. -/
def insertDue (e : WheelEntry) : List WheelEntry → List WheelEntry
  | [] => [e]
  | d :: ds => if e.ms < d.ms then e :: d :: ds else d :: insertDue e ds

/-- Entries in due order, those of one millisecond in the order of entry. -/
def sortDue (l : List WheelEntry) : List WheelEntry := l.foldl (fun acc e => insertDue e acc) []

/-- First beacon slot of a slotframe at or after ASN a (R212). -/
def nextBeacon (S every a : Nat) : Option Nat :=
  if S < 2 ∨ every = 0 then none
  else
    let o := a % S
    let m := (o + every - 1) / every * every
    some (if m < S then a - o + m else a - o + S)

/-- First shared slot at or after ASN a (R212). -/
def nextShared (S k a : Nat) : Option Nat :=
  if S < 2 ∨ k = 0 then none else some (if a % S < k then a else a - a % S + S)

/-- Enter the next beacon and shared slots of the served slotframes, the bursts of running campaigns and the next slot in which a blind
window may open, each where no entry for it stands (R250). -/
def State.enterOthers (s : State) : State :=
  let a := s.asn + 1
  let once (s : State) (t : Nat) (d : Option Due) : State := match d with
    | some d => s.enterOnce t d
    | none => s
  let s := s.each (List.range 32) (fun s f =>
    let S := s.rd (Key.sfSlots f)
    if s.served (s.rd (Key.sfTenant f)) ≠ some f then s
    else
      let b := nextBeacon S (s.rd (Key.sfBeaconEvery f)) a
      let k := nextShared S (s.rd (Key.sfSharedSlots f)) a
      once (once s (s.slotStart (b.getD 0) / 1000000) (b.map (Due.beacon f))) (s.slotStart (k.getD 0) / 1000000) (k.map (Due.shared f)))
  let s := s.each ((List.range 16).filter (fun k => s.campSt k == 2 && (s.served (s.rd (Key.campTenant k))).isSome))
    (fun s k => s.enterOnce (s.planMs (s.camp k).burst) (.burst k (s.camp k).burst))
  match s.radio.cal with
  | some c => if c.blind || c.blindLeft.isEmpty then s else s.enterOnce (s.slotStart a / 1000000) (.window c.port a)
  | none => s

/-- First chip of record r's downlink in the cell at ASN a, chain time in ns (R213, R234). -/
def State.dlDue (s : State) (r a : Nat) : Nat := (((s.dueIn a : Nat) : Int) + (s.nrec r).hw.offset * 1000).toNat

/-- The first transmission of a downlink cell at ASN a can no longer meet its lead, or its instant has passed (R251). -/
def State.tooLate (s : State) (r a : Nat) : Bool :=
  decide (s.dlDue r a < s.nowNs) || (match s.cellChannel (s.nrec r) a with
    | some (f, p) => s.leadGone p f (s.dlDue r a)
    | none => false)

/-- A node cell that falls due while the radio is held is missed, and not charged (R536). -/
def State.fireHeld (s : State) (e : WheelEntry) : State :=
  match e.due with
  | .downlink r _ => (s.cellMissed r).enterDl r (s.asn + 1)
  | .uplink r _ => (s.cellMissed r).enterUl r (s.asn + 1)
  | .moved _ _ | .beacon _ _ | .shared _ _ | .window _ _ | .flush _ => s
  | .handover _ _ | .burst _ _ => s.setSched { s.girth.sched with fired := s.girth.sched.fired ++ [e] }

/-- A downlink cell of record r is missed: it is charged as an empty one where the node listens in it (log 80). -/
def State.dlMissed (s : State) (r a : Nat) : State :=
  (if (s.nrec r).syncState = macSync then s.useCell r a false else s).cellMissed r

/-- One entry fires: a downlink cell that is too late is missed, and its node's next cell is entered; a flush may ask again; the
others wait for their planning. -/
def State.fire (s : State) (e : WheelEntry) : State :=
  let wait (s : State) : State := s.setSched { s.girth.sched with fired := s.girth.sched.fired ++ [e] }
  if s.radioHeld then s.fireHeld e else
  match e.due with
  | .downlink r a => if s.tooLate r a then (s.dlMissed r a).enterDl r (s.asn + 1) else wait s
  | .moved r a => if s.tooLate r a then s else wait s
  | .flush _ => s
  | .uplink _ _ | .handover _ _ | .beacon _ _ | .shared _ _ | .burst _ _ | .window _ _ => wait s

/-- A fired entry still has a use: a beacon or shared slot whose first chip is not past, a window's slot that is not past, the burst that
its campaign waits for. -/
def State.stillDue (s : State) (d : Due) : Bool :=
  match d with
  | .beacon _ a | .shared _ a => decide (s.nowNs ≤ s.dueIn a)
  | .window _ a => decide (s.asn ≤ a)
  | .burst k a => (s.camp k).burst == a && s.campSt k == 2
  | .uplink _ _ | .downlink _ _ | .moved _ _ | .handover _ _ | .flush _ => true

/-- Fired entries that have no more use go. -/
def State.dropStale (s : State) : State :=
  let c := s.girth.sched
  s.setSched { c with fired := c.fired.filter (fun e => s.stillDue e.due) }

/-- Parked entries whose bucket has opened are placed again (R252). -/
def State.unpark (s : State) : State :=
  let c := s.girth.sched
  let open_ := c.parked.filter (fun p => decide (p.1 ≤ s.nowMs / 65536))
  let s := s.setSched { c with parked := c.parked.filter (fun p => decide (s.nowMs / 65536 < p.1)) }
  s.each open_ (fun s p => s.wheelEnter p.2.ms p.2.due)

/-- Writes into the far list that were in progress have ended: where they failed, or the link is not up, the entries are parked in the
furthest level-2 bucket (R252). -/
def State.farWritten (s : State) (ok : Bool) : State :=
  let c := s.girth.sched
  if ok && s.sbUp then s.setSched { c with far := c.far ++ c.writing, writing := [] }
  else s.setSched { c with parked := c.parked ++ c.writing.map (fun e => (s.lastBucket, e)), writing := [] }

/-- Opened buckets are redistributed (R249). -/
def State.redistribute (s : State) : State :=
  let c := s.girth.sched
  s.setSched { c with wheel := c.wheel.map (fun e => e.settle s.nowMs) }

/-- Entries of level 0 whose millisecond has come, in due order and those of one millisecond in the order of entry, at most 65,536
(R249, R251, R254). -/
def State.dueNow (s : State) : List WheelEntry :=
  (sortDue (s.girth.sched.wheel.filter (fun e => e.level == 0 && decide (e.ms ≤ s.nowMs)))).take 65536

/-- The tick's work: due entries leave the wheel and fire (R249, R251). -/
def State.fireDue (s : State) : State :=
  let due := s.dueNow
  let c := s.girth.sched
  (s.setSched { c with wheel := c.wheel.filter (fun e => !due.contains e), ms := s.nowMs }).each due (fun s e => s.fire e)

/-- `WHEEL_TICK`: a new millisecond of chain time; buckets open and due entries fire (R249, R251, R254). farOk tells how the far list's
writes in progress ended. -/
def execWheelTick (farOk : Bool) (dt : Nat) (s : State) : Step :=
  let s := s.advance dt
  .next (if s.standby ∨ s.nowMs = s.girth.sched.ms then s
    else (((s.farWritten farOk).dropStale.unpark).redistribute.fireDue).enterOthers)

/-- `FAR_LIST_MOVE`: far entries due within the span move into the wheel; a failed read asks for a rebuild
(R252). -/
def execFarListMove (ok : Bool) (dt : Nat) (s : State) : Step :=
  let s := s.advance dt
  let c := s.girth.sched
  .next (if c.far.isEmpty then s
    else if !ok ∨ !s.sbUp then (s.setSched { c with far := [] }).askRebuild 2
    else
      let near := c.far.filter (fun e => decide (e.ms < s.wheelEnd))
      let s := s.setSched { c with far := c.far.filter (fun e => decide (s.wheelEnd ≤ e.ms)) }
      s.each near (fun s e => s.wheelEnter e.ms e.due))

/-- Records rebuilt (R253). -/
def State.rebuildFor (s : State) (nodes : List Nat) : State := s.each nodes (fun s r => s.reschedule r)

/-- `SCHED_REBUILD`: the oldest rebuild that is due, of every record that is not free, or for cause 4 of those whose entries shared a
failed word (R253). -/
def execSchedRebuild (s : State) : Step :=
  let c := s.girth.sched
  .next (match c.rebuild with
    | [] => s
    | cause :: more =>
      let all := s.heldRecs.map (·.1)
      let l := if cause = 4 then all.filter (fun r => c.lost.contains r) else all
      let s := (s.setSched { c with rebuild := more, lost := if cause = 4 then [] else c.lost }).rebuildFor l
      if cause = 1 then s else s.schedPost .schedRebuild cause l.length)

/-- `DAY_START_CHANGE`: the day start in force changes at the first new day start at least 1 s after the
write (R257). -/
def execDayStartChange (dt : Nat) (s : State) : Step :=
  let s := s.advance dt
  let c := s.girth.sched
  let st := s.rd Key.schedDayStartS
  .next (match c.dayWritten with
    | none => s
    | some w =>
      let first := if w ≤ st then st else st + (w - st + 86399) / 86400 * 86400
      if first ≤ s.clock.sec then s.setSched { c with dayStart := st, dayWritten := none } else s)

/-! ### Planning (R258 to R262) -/

/-- The allowance of a day τ seconds after its start (R258). -/
def State.allowance (s : State) (x : NodeRec) (tau : Nat) : Nat :=
  let d := s.dayLu x
  min d (d * (tau + 60 * x.burstMin) / 86400)

/-- Chain second of the start of the day of second t. -/
def State.dayStartOf (s : State) (t : Nat) : Nat :=
  match s.dayOf t with
  | some d => s.girth.sched.dayStart + 86400 * d
  | none => 0

/-- A delivery is deferred (R259). -/
def State.deferDelivery (s : State) (r c t : Nat) : State :=
  let x := s.nrec r
  let d := s.dayLu x
  let st := s.dayStartOf t
  let want := x.hw.ledger + c
  let at_ := if want ≤ d then st + ((want * 86400 + d - 1) / d - 60 * x.burstMin) else st + 86400
  let s := (s.bump Key.ledgerDeferrals).modHw r (fun h => { h with deferrals := (h.deferrals + 1) % 2 ^ 32, deferTo := at_ % 2 ^ 32 })
  match s.nextDl x ((at_ * 1000000000 + s.slotNs - 1) / s.slotNs) with
  | some n => s.wheelEnter (s.planMs n) (.moved r n)
  | none => s

/-- A delivery of record r waits for a cell after ASN a (R259). -/
def State.deferred (s : State) (r a : Nat) : Bool :=
  let later (d : Due) : Bool := d.movedOf r && decide (a < d.asn)
  let c := s.girth.sched
  c.wheel.any (fun e => later e.due) || c.far.any (fun e => later e.due) || c.writing.any (fun e => later e.due)
    || c.fired.any (fun e => later e.due) || c.parked.any (fun e => later e.2.due)

/-- The ledger's decision for a delivery of cost c in a cell that starts at chain second t (R258, R259). -/
def State.ledgerFits (s : State) (r c t : Nat) : State × Bool :=
  let before := (s.nrec r).hw.ledger
  let s := s.rollover r t
  let x := s.nrec r
  let d := s.dayLu x
  if x.hw.ledger + c ≤ s.allowance x (t - s.dayStartOf t) then (s.modHw r (fun h => { h with deferTo := 0 }), true)
  else if d < c ∧ x.hw.ledger = 0 then
    ((s.modHw r (fun h => { h with deferTo := 0 })).schedPost .nodeOverBudget (shortOf r) before, true)
  else (s.deferDelivery r c t, false)

/-- A committed transmission on a frequency whose span overlaps [a, b]: the record it is for, or 0xFFFF. -/
def State.clash (s : State) (freq a b : Nat) : Option Nat :=
  ((List.range 16).filterMap (fun n => (s.tx n).job)).findSome? (fun j =>
    let stop := j.req.due + (frameUs j.req.mode (j.psdu.length + 2)) * 1000
    if j.req.freq = freq ∧ j.req.due < b ∧ a < stop then some (match kindRecord j.req.kind with
      | some r => shortOf r
      | none => 0xFFFF)
    else none)

/-- The node's next downlink carries the Handover IE: a native node is handed over, and no frame with the IE was acknowledged (R239). -/
def NodeRec.ieDue (x : NodeRec) : Bool :=
  match x.handover with
  | some h => !h.acked && !x.compat
  | none => false

/-- The head frame of node r's queue as a request for the cell at ASN a, its attempt counted and its DSN
given (R225, R227, R239). -/
def State.dlRequest (s : State) (r a freq p : Nat) (f : NodeFrame) : State × TxReq :=
  let x := s.nrec r
  let dsn := match f.dsn with
    | some d => d
    | none => (x.hw.dlDsn + 1) % 256
  let s := s.modHw r (fun h => { h with dlDsn := dsn })
  let s := s.modHead r (fun f => { f with dsn := some dsn, attempts := f.attempts + 1 })
  let s := match x.handover with
    | some h => if h.h.isNone && !x.compat then s.fixH r a 4 else s
    | none => s
  let y := s.nrec r
  let ie := match y.handover with
    | some h => (match h.h with
        | some b => if y.ieDue then handoverIe h.pan y.hoShort b else []
        | none => [])
    | none => []
  let more := decide (1 < (s.nodeQ r).frames.length)
  let draft := downlinkDraft r (s.rd (Key.tenPanId x.tenant)) (shortOf r) dsn x.compat more ie f.bytes
  let low := bitOf (s.rd Key.cinchLowClasses) f.cls && ie.isEmpty
  (s, { kind := .downlink r, port := p, mode := x.mode, freq := freq, tenant := x.tenant, draft := draft, due := s.dlDue r a,
        windowEnd := s.windowOf a, power := none, code := if low then some 4 else none, granted := none })

/-- Octets of the delivery of the head frame f (R262 step 4). -/
def State.dlOctets (s : State) (r : Nat) (f : NodeFrame) : Nat :=
  let x := s.nrec r
  let ie := if x.ieDue then handoverIe 0 0 0 else []
  s.draftLen (downlinkDraft r 0 0 0 x.compat false ie f.bytes) x.tenant

/-- An empty frame for the Handover IE where nothing is queued (R239). -/
def State.ieFrame (s : State) (r : Nat) : State :=
  let x := s.nrec r
  match x.handover with
  | some h =>
    if h.h.isNone && !x.compat && (s.nodeQ r).frames.isEmpty then
      let f : NodeFrame :=
        { tenant := x.tenant, cls := 7, bytes := [], handle := none, report := false, dsn := none, attempts := 0,
          cached := true, reserved := false, sent := false, forHandover := true, lastReport := 0 }
      s.setNodeQ r { (s.nodeQ r) with frames := [f] }
    else s
  | none => s

/-- Steps 4 to 7 of R262 for the head frame f in the cell at ASN a on a channel. -/
def State.deliver (s : State) (r a freq p : Nat) (f : NodeFrame) : State :=
  let x := s.nrec r
  let n := s.dlOctets r f
  let time := frameUs x.mode n
  let fit := s.ledgerFits r (dlCharge (s.modeCost x.mode) time (s.dlAckUs x)) (s.slotStart a / 1000000000)
  let s := fit.1
  if !fit.2 then s.useCell r a false
  else
    let low := bitOf (s.rd Key.cinchLowClasses) f.cls && !x.ieDue
    let e := s.txEnergy (airUs x.mode n) s.topPower
    let got := s.grant (if low then some 4 else none) e
    let s := got.1
    if !got.2 then s.useCell r a false
    else
      let due := s.dlDue r a
      let last := due + time * 1000
      let stop := last + (1000 + s.dlAckUs x) * 1000
      if s.reserved (some r) freq due last then ((s.release e).useCell r a false).cellMissed r
      else match s.clash freq due stop with
        | some other =>
          let s := ((s.release e).useCell r a false).cellMissed r
          if x.compat then s else s.schedPost .cellClash (shortOf r) other
        | none =>
          let (s, q) := s.dlRequest r a freq p f
          (s.useCell r a false).commit { q with granted := some e }

/-- Planning of record r's downlink cell at ASN a (R251, R262). -/
def State.planDl (s : State) (r a : Nat) : State :=
  let s := s.dlPlanned r a
  let x := s.nrec r
  if x.syncState ≠ macSync ∨ s.recSlots x = 0 then s
  else match s.cellChannel x a with
    | none => s
    | some (freq, p) =>
      if !fits p (s.port p).centre freq x.mode ∨ s.tooLate r a then (s.useCell r a false).cellMissed r
      else
        let s := s.ieFrame r
        match (s.nodeQ r).frames with
        | [] => s.useCell r a false
        | f :: _ => if s.deferred r a then s.useCell r a false else s.deliver r a freq p f

/-- A delivery to record r waits for the read of its queue's head (R315). -/
def State.headAwaited (s : State) (r : Nat) : Bool :=
  (s.nrec r).syncState == macSync && s.recSlots (s.nrec r) != 0 && match (s.nodeQ r).frames with
    | f :: _ => !f.cached
    | [] => false

/-- `DOWNLINK_CELL_PLANNING`: the oldest fired downlink entry of record r; where its head is not cached, the planning waits for it. -/
def execDownlinkCellPlanning (r : Fin 16384) (dt : Nat) (s : State) : Step :=
  let s := s.advance dt
  .next (match s.firedDl r with
    | some a => if s.headAwaited r then s else s.planDl r a
    | none => s)

/-- `HANDOVER_IE_SEND`: the node's next downlink cell is planned with the Handover IE (R239). -/
def execHandoverIeSend (r : Fin 16384) (dt : Nat) (s : State) : Step :=
  let s := s.advance dt
  let x := s.nrec r
  .next (match x.handover, s.firedDl r with
    | some h, some a => if h.acked || x.compat then s else s.planDl r a
    | _, _ => s)

/-- Planning of record r's uplink cell at ASN a: it is marked a scheduled reception; where its frequency cannot be placed at the port's
centre it is missed. The next cell is entered (R216, R262). -/
def State.planUl (s : State) (r a : Nat) : State :=
  let x := s.nrec r
  let placed := match s.cellChannel x a with
    | some (freq, p) => fits p (s.port p).centre freq x.mode
    | none => false
  let s := s.useCell r a true
  (if placed then s else s.cellMissed r).enterUl r (a + 1)

/-- `UPLINK_CELL_PLANNING`: the oldest fired uplink entry of record r (R262). -/
def execUplinkCellPlanning (r : Fin 16384) (dt : Nat) (s : State) : Step :=
  let s := s.advance dt
  let got := s.takeFired (Due.ulOf r)
  .next (match got.2 with
    | none => s
    | some d => got.1.planUl r d.asn)

end Sys2Proof.Machine
end

