-- ==== Sys2Proof/Machine/NodeWin.lean ====
section
/-! DEFINITION. Writes of node records: the content check and what a write changes (R122 to R125, R242, R246,
R383). -/

namespace Sys2Proof.Machine

/-! ### Content check -/

/-- A short address of a node. -/
def nodeShort (x : Nat) : Bool := decide (0x4000 ≤ x) && decide (x ≤ 0x7FFF)

/-- Range of HO_SHORT by HO_ROLE (Table 8-9). -/
def hoShortOk (role x : Nat) : Bool := nodeShort x || (role != 1 && (x == 0 || x == 0xFFFE))

/-- The fields of Table 8-9 lie in their ranges. -/
def State.macFieldsOk (s : State) (x : NodeRec) : Bool :=
  s.flag (Key.tenEnable x.tenant) && decide (1 ≤ x.mode) && decide (x.mode ≤ 6) && (x.parent == 0 || nodeShort x.parent)
    && (decide (x.hoPeer ≤ 63) || x.hoPeer == 0xFF) && decide (x.hoRole ≤ 2) && hoShortOk x.hoRole x.hoShort

/-- A cell pattern lies in its range for S slots per slotframe (R246, Table 9-1). -/
def State.patternOk (s : State) (S period phase slot : Nat) : Bool :=
  (if S < 2 then decide (slot ≤ 16383) else decide (slot < S) && decide (period * S * s.rd Key.girthSlotUs ≤ 604800000000))
    && (decide (phase < period) || phase == 0)

/-- The fields of Table 9-1 lie in their ranges. -/
def State.wakeFieldsOk (s : State) (x : NodeRec) : Bool :=
  let S := s.rd (Key.sfSlots (s.rd (Key.tenSlotframe x.tenant)))
  let psdu := fieldLe x.host 70 1
  decide (x.lowPct ≤ 100) && (psdu == 0 || (decide (5 ≤ psdu) && decide (psdu ≤ 127)))
    && s.patternOk S x.ulPeriod x.ulPhase x.ulSlot && s.patternOk S x.dlPeriod x.dlPhase x.dlSlot
    && decide (x.burstMin ≤ 1440) && decide (x.dailyNah ≤ 10000000) && decide (x.capacity ≤ 100000000)

/-- The link key of a record unwraps under slot 1 and the present root (R383). -/
def State.linkFieldOk (s : State) (x : NodeRec) : Bool := !x.keyPresent || (s.unwrapLink x).isSome

/-- A host part as it is held: reserved bits read zero (R5; word [10:8], LINK_FLAGS [7:1], bytes 43 to 47 and 72 to 127). -/
def hostMask (h : Bytes) : Bytes :=
  slice h 0 9 ++ [BitVec.ofNat 8 (fieldLe h 9 1 / 8 * 8)] ++ slice h 10 32 ++ [BitVec.ofNat 8 (fieldLe h 42 1 % 2)] ++ zeros 5
    ++ slice h 48 24 ++ zeros 56

/-- A record with a written host part. -/
def hostRec (host : Bytes) : NodeRec := { NodeRec.free with host := hostMask host }

/-- Records as they would stand after a write of several: record numbers with host parts. -/
def State.recsAfter (s : State) (new : List (Nat × Bytes)) : List (Nat × NodeRec) :=
  s.heldRecs.filter (fun q => new.all (fun w => w.1 != q.1))
    ++ (new.map (fun w => (w.1, hostRec w.2))).filter (fun q => !q.2.isFree)

/-- One record of a write passes the content check among the records after it (R124 item 2). -/
def State.recOk (s : State) (all : List (Nat × NodeRec)) (r : Nat) (x : NodeRec) : Bool :=
  x.isFree ||
    (s.macFieldsOk x && s.wakeFieldsOk x && s.linkFieldOk x
      && all.all (fun q => q.1 == r || q.2.eui != x.eui || q.2.tenant != x.tenant)
      && decide ((all.filter (fun q => q.2.tenant == x.tenant)).length ≤ s.rd (Key.tenNodeMax x.tenant)))

/-- The first record of a write that fails the content check. -/
def State.badRec (s : State) (new : List (Nat × Bytes)) : Option Nat :=
  let all := s.recsAfter new
  (new.find? (fun w => !s.recOk all w.1 (hostRec w.2))).map (·.1)

/-! ### What a write changes (R124 items 3 to 5, Table 8-7) -/

/-- The hardware part of a record that takes a new identity (R124, R237). -/
def freshHw (x : NodeRec) : NodeHw :=
  if x.isFree then hwZero
  else if x.hoRole = 2 then { hwZero with macState := macIn }
  else if x.compat then { hwZero with macState := macDesync, cause := 5 }
  else { hwZero with macState := macProvisioned }

/-- Record r takes a new identity or becomes free; a compatibility record enters DESYNC with cause 5, which is posted and not counted
(R235). -/
def State.recNew (s : State) (r : Nat) (host : Bytes) : State :=
  let s := if s.inHandover r then s.abandon r else s
  let s := ((s.undeliverAll r).unschedule r).laceForget r
  let y := hostRec host
  let s := s.setRec r { y with hw := freshHw y }
  if y.isFree || y.hoRole == 2 || !y.compat then s else s.girthPost .nodeDesync (shortOf r) 5

/-- Record r keeps its identity: its hardware part stays, and a handover ends where the HO fields change
(R124, R241). -/
def State.recSame (s : State) (r : Nat) (host : Bytes) : State :=
  let x := s.nrec r
  let y := hostRec host
  let changed := x.hoRole != y.hoRole || x.hoPeer != y.hoPeer || x.hoShort != y.hoShort
  if changed && x.hw.macState == macIn then s.recNew r host
  else
    let ended := changed && s.inHandover r
    let s := if ended then s.abandon r else s
    let x := s.nrec r
    let y := if ended then y.clearRole else y
    s.setRec r { x with host := y.host, quarantined := false, stalePosted := false, badPosted := false }

/-- The host part of record r is replaced (R124, R125). -/
def State.recWrite (s : State) (r : Nat) (host : Bytes) : State :=
  let x := s.nrec r
  let y := hostRec host
  let s := if x.isFree || y.isFree || x.eui != y.eui || x.tenant != y.tenant then s.recNew r host else s.recSame r host
  s.reschedule r

/-- Several records are replaced at one instant; Girth's demand follows (R218). -/
def State.recsWrite (s : State) (new : List (Nat × Bytes)) : State :=
  (s.each new (fun s w => s.recWrite w.1 w.2)).placeAll

/-- The link keys of written records are unwrapped for their check, each one use of slot 1 (R374, R383). -/
def State.unwraps (s : State) (new : List (Nat × Bytes)) : State := s.each new (fun s w => s.useLinkWrap (hostRec w.2))

/-- Post `NODE_RECORD_BAD` (R124). -/
def State.recBadPost (s : State) (r : Nat) : State := s.post .nodeRecordBad 0x4210 r

/-- The records that a window's bytes hold, its first given by short address; places past record 16,383 hold none (log 114). -/
def windowRecs (first count : Nat) (d : Bytes) : List (Nat × Bytes) :=
  ((List.range count).map (fun k => (first - 0x4000 + k, slice d (256 * k) 128))).filter (fun w => decide (w.1 < recordCount))

/-- A transfer to `NODE_WIN` ends: the window sampled at its first block, and the bytes; tells whether its
content check passes (R124). -/
def State.winTake (s : State) (first count : Nat) (d : Bytes) : State × Bool :=
  if d.length ≠ 256 * count then (s.bump Key.nodeWinBad, false)
  else
    let new := windowRecs first count d
    let s := s.unwraps new
    match s.badRec new with
    | some r => ((s.bump Key.nodeWinBad).recBadPost r, false)
    | none => (s.recsWrite new, true)

/-- `NODE_WIN` as it reads now (R123). Where `NODE_WIN_FIRST` was rewritten so that it and the standing count pass 0x8000, the places
past record 16,383 read as free records (DESIGN CHOICE, log 114). -/
def State.winBytes (s : State) : Bytes :=
  (List.range (s.rd Key.nodeWinCount)).flatMap (fun k => (s.nrec (s.rd Key.nodeWinFirst - 0x4000 + k)).bytes)

/-! ### The node record port (R511) -/

/-- `NR_READ`: the host reads the addressed record. -/
def execNrRead (s : State) : Step :=
  .next (if !s.host.linkUp then s
    else
      let s := s.wake.setCause 69
      { s with host := { s.host with nrData := (s.nrec (s.host.nrShort - 0x4000)).bytes, nrCode := 0 } })

/-- `NR_WRITE`: the host writes the addressed record from `nr.data`. -/
def execNrWrite (s : State) : Step :=
  let r := s.host.nrShort - 0x4000
  let new := [(r, slice s.host.nrData 0 128)]
  let s := if s.host.linkUp then s.wake.unwraps new else s
  .next (if !s.host.linkUp then s
    else match s.badRec new with
      | some k => (({ s with host := { s.host with nrCode := 0x30 } }).recBadPost k).setCause 69
      | none =>
        let t := s.recsWrite new
        ({ t with host := { t.host with nrCode := 0 } }).setCause 69)

end Sys2Proof.Machine
end

