-- ==== Sys2Proof/Machine/Concho.lean ====
section
/-! DEFINITION. Concho: the contactless reader and the emulated tag (R512 to R532). -/

namespace Sys2Proof.Machine

/-- Clock domain of the contactless protocol engine (R532). -/
def conDom : Nat := 211

/-- Replace the contactless front end. -/
def State.setCon (s : State) (c : Concho) : State := { s with concho := c }

/-- Post with the reader's source. -/
def State.conPost (s : State) (c : Err) (arg : Nat) (arg2 : Nat := 0) : State := s.post c 0x6000 arg arg2 conDom

/-- Post with the tag's source. -/
def State.tagPost (s : State) (c : Err) (arg : Nat := 0) (arg2 : Nat := 0) : State := s.post c 0x6001 arg arg2 conDom

/-! ### Field and antenna (R512, R530) -/

/-- The tag's session ends: OPEN, the shadow is discarded (R526, R527). -/
def State.tagOpen (s : State) : State := (s.wr Key.tagState 0).setCon { s.concho with shadow := none }

/-- The device serves an external field as a tag: `TAG_ENABLE` is 1, in IDLE or RUN (R523). -/
def State.tagAnswers (s : State) : Bool :=
  s.concho.antenna == .tag && s.concho.field && s.flag Key.tagEnable && decide (3 ≤ s.pwr)

/-- A new entry of the field: a new random UID, no challenge, no file; a tag that answers does so with the properties of R523 (R523,
R525, R526). -/
def State.fieldEntry (s : State) : State :=
  let uid := leBytes 4 (8 + 256 * (s.draw 24).toNat)
  let s := s.drawn.tagOpen
  let s := s.setCon { s.concho with uid := uid, challenge := none, file := 0 }
  if s.tagAnswers then s.emit (.tagEntry uid 0x20 8 7 0) else s

/-- The detector senses an external field: the antenna serves it, FD_N goes low, source 26; a cycle that was listening is due again
(R512, R530). -/
def State.fieldSensed (s : State) : State :=
  let c := s.concho
  let s := s.setCon { c with antenna := .tag, due := c.due || c.antenna == .listening, fdAt := if s.pins.fdLow then c.fdAt else s.elapsed }
  let s := if s.flag Key.tagFdWake then { s with pins := { s.pins with fdLow := true } } else s
  s.fieldEntry.raise 26

/-- `EXT_FIELD_DETECT`: an external field reaches 0.5 A/m. It is not sensed while the device's own field is on, and in OFF nothing
runs. -/
def execExtFieldDetect (dt : Nat) (s : State) : Step :=
  let s := s.advance dt
  .next (if s.pwr = 0 then s
    else
      let s := s.setCon { s.concho with field := true }
      match s.concho.antenna with
      | .reader => s
      | .tag => s.fieldEntry
      | .quiet | .listening => s.fieldSensed)

/-- A due cycle listens first (R512). -/
def State.cycleListen (s : State) : State :=
  s.setCon { s.concho with antenna := .listening, due := false, listenAt := s.elapsed }

/-- The antenna is quiet: a field that is there is sensed, and any due cycle runs (R512). -/
def State.antennaFree (s : State) : State :=
  let s := s.setCon { s.concho with antenna := .quiet }
  if s.concho.field then s.fieldSensed
  else if s.concho.due && s.flag Key.conReader && decide (3 ≤ s.pwr) then s.cycleListen
  else s

/-- The external field left so many cycles ago. -/
def State.fieldGone (s : State) (absent : Nat) : State :=
  if s.concho.field then s.setCon { s.concho with field := false, goneAt := s.elapsed - absent } else s

/-- `TAG_FIELD_ABSENT`: no external field for 50 ms. -/
def execTagFieldAbsent (absent dt : Nat) (s : State) : Step :=
  let s := s.advance dt
  .next (if absent < ms 50 then s
    else
      let s := s.fieldGone absent
      if s.concho.antenna = .tag then
        let s := s.tagOpen
        (s.setCon { s.concho with challenge := none }).antennaFree
      else s)

/-- `TAG_SESSION_END`: no external field for 5 ms. -/
def execTagSessionEnd (absent dt : Nat) (s : State) : Step :=
  let s := s.advance dt
  .next (if absent < ms 5 then s
    else
      let s := s.fieldGone absent
      if s.concho.antenna = .tag then
        let s := s.tagOpen
        s.setCon { s.concho with challenge := none }
      else s)

/-- `FD_N_RELEASE`: the field has been absent for 50 ms, and FD_N low for 10 ms. -/
def execFdNRelease (dt : Nat) (s : State) : Step :=
  let s := s.advance dt
  .next (if s.pins.fdLow ∧ !s.concho.field ∧ s.concho.goneAt + ms 50 ≤ s.elapsed ∧ s.concho.fdAt + ms 10 ≤ s.elapsed then
      { s with pins := { s.pins with fdLow := false } }
    else s)

/-- Cycle and session end: a warm reset, or the reader and the tag are both off with no field (R512, R531). -/
def State.conQuiet (s : State) : State :=
  let s := s.tagOpen
  s.setCon { s.concho with antenna := .quiet, due := false, seen := [], read := 0, polling := 0, exchange := none }

/-! ### Low-power card detection (R514) -/

/-- The difference of two natural numbers. -/
def absDiff (a b : Nat) : Nat := (a - b) + (b - a)

/-- A measurement differs from the reference by more than 3 % in amplitude or 2° in phase. -/
def lpcdHit (ref : Nat × Int) (amp : Nat) (phase : Int) : Bool :=
  decide (3 * ref.1 < 100 * absDiff amp ref.1) || decide (200 < (phase - ref.2).natAbs)

/-- The reference moves one sixteenth of the way (log 12). -/
def lpcdMove (ref : Nat × Int) (amp : Nat) (phase : Int) : Nat × Int :=
  ((((ref.1 : Int) + ((amp : Int) - ref.1) / 16)).toNat, ref.2 + (phase - ref.2) / 16)

/-- `LPCD_MEASURE`: amplitude in any unit, phase in 0.01°. -/
def execLpcdMeasure (amp : Nat) (phase : Int) (dt : Nat) (s : State) : Step :=
  let s := s.advance dt
  let c := s.concho
  let early := match c.measuredAt with
    | some t => decide (s.elapsed < t + ms (s.rd Key.conLpcdMs))
    | none => false
  .next (if !s.flag Key.conLpcd || decide (s.pwr < 2) || c.antenna != .quiet || early then s
    else
      let c := { c with measuredAt := some s.elapsed }
      match c.reference, c.refNext with
      | some r, false =>
        if lpcdHit r amp phase then
          let s := (s.setCon { c with due := c.due || s.flag Key.conReader }).raise 26
          if s.flag Key.conReader then s.wake else s
        else s.setCon { c with reference := some (lpcdMove r amp phase) }
      | _, _ => s.setCon { c with reference := some (amp, phase), refNext := false })

/-! ### Reader cycles (R513, R515 to R517, R521, R522) -/

/-- A cycle falls due by time (R513): the interval counts from the start of the last cycle, which is its listening (Table 20-6, step
7); with low-power card detection only after a cycle that found a tag. -/
def State.cycleTime (s : State) : Bool :=
  let c := s.concho
  match c.cycleAt with
  | none => !s.flag Key.conLpcd
  | some t => decide (t + ms (s.rd Key.conLpcdMs) ≤ s.elapsed) && (!s.flag Key.conLpcd || c.found || !c.seen.isEmpty)

/-- `READER_CYCLE_DUE`: a due cycle listens first; one that falls due while another runs, or while a field is served, waits. -/
def execReaderCycleDue (dt : Nat) (s : State) : Step :=
  let s := s.advance dt
  .next (if !s.flag Key.conReader || decide (s.pwr < 3) then s
    else match s.concho.antenna with
      | .listening => s
      | .quiet => if s.concho.due || s.cycleTime then s.cycleListen else s
      | .reader | .tag => if s.cycleTime then s.setCon { s.concho with due := true } else s)

/-- Number of a protocol in records. -/
def protoNum : TagProto → Nat
  | .typeA => 1
  | .typeB => 2
  | .vicinity => 3

/-- `CON_PROTOCOLS` enables a protocol. -/
def State.protoOn (s : State) (p : TagProto) : Bool := bitOf (s.rd Key.conProtocols) (protoNum p - 1)

/-- Data limit of a record (R522). -/
def tagDataMax : Nat := 904

/-- The NDEF message of a Type 2 tag: the value of the first NDEF TLV of its data area (R518; the TLV layout of the NFC Forum, log
118). The first argument bounds the walk. -/
def ndefTlv : Nat → Bytes → Option Bytes
  | 0, _ => none
  | n + 1, bs =>
    match bs with
    | [] => none
    | t :: rest =>
      if t = 0#8 then ndefTlv n rest
      else if t = 0xFE#8 then none
      else
        let long := leNat (slice rest 0 1) == 255
        let len := if long then beNat (slice rest 1 2) else leNat (slice rest 0 1)
        let v := rest.drop (if long then 3 else 1)
        if v.length < len then none
        else if t = 3#8 then some (v.take len)
        else ndefTlv n (v.drop len)

/-- The NDEF message of a Type 2 tag whose block 3 holds the magic: its capability container gives the size of the data area. -/
def type2Message (mem : Bytes) : Option Bytes :=
  let area := (mem.drop 4).take (8 * leNat (slice mem 2 1))
  ndefTlv (area.length + 1) area

/-- The NDEF message by the Type 4 procedure (R518): the CC file gives MLe and names a readable NDEF file, whose NLEN gives the
length. -/
def type4Message (cc ndef : Option Bytes) : Option Bytes :=
  match cc, ndef with
  | some c, some f =>
    let n := beNat (slice f 0 2)
    if 15 ≤ c.length ∧ 1 ≤ beNat (slice c 3 2) ∧ slice c 7 2 = beBytes 2 0x0406 ∧ slice c 13 1 = zeros 1 ∧ 2 + n ≤ f.length then
      some ((f.drop 2).take n)
    else none
  | _, _ => none

/-- The reader reads a tag by ISO-DEP and the Type 4 procedure (Table 20-2). -/
def readsIsoDep (t : TagSeen) : Bool :=
  match t.proto with
  | .typeA => bitOf t.sak.toNat 5
  | .typeB => true
  | .vicinity => false

/-- KIND, STATUS and data of a record (R518, R522, Table 20-3). -/
def tagResult (t : TagSeen) : Nat × Nat × Bytes :=
  let cut (kind : Nat) (d : Bytes) : Nat × Nat × Bytes := (kind, if tagDataMax < d.length then 1 else 0, d.take tagDataMax)
  let msg (kind : Nat) (m : Option Bytes) : Nat × Nat × Bytes :=
    match m with
    | some d => cut kind d
    | none => (kind, 2, [])
  if readsIsoDep t then msg 4 (type4Message t.cc t.ndef)
  else if t.proto = .vicinity then cut 5 (t.mem.take t.size)
  else if slice t.mem 0 1 = beBytes 1 0xE1 then msg 2 (type2Message t.mem)
  else (0, 0, [])

/-- A tag's record and its post (R521, R522). -/
def State.tagRecord (s : State) (p : TagProto) (uid : Bytes) (kind status : Nat) (data : Bytes) : State :=
  let n := protoNum p
  let arg := n + kind * 2 ^ 8 + status * 2 ^ 16 + uid.length % 256 * 2 ^ 24 + data.length * 2 ^ 32
  let arg2 := beNat (slice uid 0 8)
  let extra := leBytes 1 n ++ leBytes 1 kind ++ leBytes 1 uid.length ++ leBytes 1 status ++ slice uid 0 10 ++ leBytes 2 data.length ++ data
  s.postSev .conTagRead 0 0x6000 arg arg2 conDom extra

/-- A tag is remembered as present; the oldest entry gives way when 256 are held (R516). -/
def Concho.remember (c : Concho) (t : Nat × Bytes) : Concho :=
  let l := if 256 ≤ c.presence.length then c.presence.drop 1 else c.presence
  { c with presence := l ++ [t], seen := c.seen ++ [t], read := c.read + 1 }

/-- Guard time of the field before the first poll: 5.1 ms, in cycles (R515). -/
def guardCycles : Nat := us 5100

/-- Lengths of the UID of a protocol: one to three cascade levels, a PUPI, an ISO/IEC 15693 UID (Table 20-2). -/
def uidOk (p : TagProto) (uid : Bytes) : Bool :=
  match p with
  | .typeA => uid.length == 4 || uid.length == 7 || uid.length == 10
  | .typeB => uid.length == 4
  | .vicinity => uid.length == 8

/-- A tag of protocol p can be singled out now: the guard time has passed, the protocol is enabled, the cycle is at it or comes to it,
and 64 tags have not been read (R515, R517). -/
def State.canPoll (s : State) (p : TagProto) (uid : Bytes) : Bool :=
  let c := s.concho
  c.antenna == .reader && decide (c.onAt + guardCycles ≤ s.elapsed) && s.protoOn p && uidOk p uid && decide (c.polling ≤ protoNum p)
    && decide (c.read < 64)

/-- The reader sends to a tag. -/
def State.readerSend (s : State) (x : ReaderSent) : State := s.emit (.reader x)

/-- A tag is singled out: one already listed is halted unread, a new one is read, reported and halted (R516, R518). -/
def State.tagFound (s : State) (t : TagSeen) : State :=
  let key := (protoNum t.proto, t.uid)
  if !s.canPoll t.proto t.uid then s
  else
    let s := s.setCon { s.concho with polling := protoNum t.proto }
    let c := s.concho
    if c.presence.contains key then (s.setCon { c with seen := c.seen ++ [key] }).readerSend .halt
    else
      let r := tagResult t
      ((s.tagRecord t.proto t.uid r.1 r.2.1 r.2.2).setCon (c.remember key)).readerSend (if readsIsoDep t then .deselect else .halt)

/-- `READER_LISTEN_END`: 1.0 ms without external field; the field goes on, and the cycle reads tags until it has been on for run
cycles. -/
def execReaderListenEnd (tags : List TagSeen) (run dt : Nat) (s : State) : Step :=
  let s := s.advance dt
  let c := s.concho
  .next (if c.antenna = .listening ∧ c.listenAt + ms 1 ≤ s.elapsed then
      let s := s.setCon { c with antenna := .reader, cycleAt := some c.listenAt, onAt := s.elapsed, seen := [], read := 0, polling := 0,
                                 found := false, exchange := none }
      (s.advance run).each tags (fun s t => s.tagFound t)
    else s)

/-- Entries of protocols that were polled to their end and not found leave the list (R516). -/
def presenceLeft (polled : List Nat) (seen l : List (Nat × Bytes)) : List (Nat × Bytes) :=
  l.filter (fun e => !polled.contains e.1 || seen.contains e)

/-- Protocols that the ending cycle has polled to their end: all that are enabled, or where 64 tags were read those before the one
being polled (R516, R517). -/
def State.polledOut (s : State) : List Nat :=
  let c := s.concho
  ([TagProto.typeA, .typeB, .vicinity].filter (fun p => s.protoOn p && (decide (c.read < 64) || decide (protoNum p < c.polling)))).map protoNum

/-- `READER_CYCLE_END`: further tags; then the last enabled protocol finds no more, or 64 tags were read. The cycle ends, and the
field goes off. -/
def execReaderCycleEnd (tags : List TagSeen) (dt : Nat) (s : State) : Step :=
  let s := s.advance dt
  .next (if s.concho.antenna ≠ .reader ∨ s.elapsed < s.concho.onAt + guardCycles then s
    else
      let s := s.each tags (fun s t => s.tagFound t)
      let c := s.concho
      let full := decide (64 ≤ c.read)
      let left := presenceLeft s.polledOut c.seen c.presence
      let s := if full then s.conPost .conTrayFull c.read else s
      let s := s.setCon { c with presence := left, found := !c.seen.isEmpty, refNext := c.refNext || c.seen.isEmpty,
                                 seen := [], read := 0, polling := 0, exchange := none }
      (s.raise 27).antennaFree)

/-! ### Waiting for a tag (R519, R520) -/

/-- FWT of an FWI in cycles: 302.1 µs × 2^FWI; an FWI of 15 is read as 4. -/
def fwtCycles (fwi : Nat) : Nat := 75525 * 2 ^ (if fwi = 15 then 4 else fwi)

/-- The wait for an answer, in cycles; ISO/IEC 15693 sets 4,352 carrier periods (log 150). -/
def linkWait (l : TagLink) : Nat :=
  match l with
  | .isoDep f => fwtCycles f
  | .type2 => us 5000
  | .vicinity => 80236

/-- The protocol has such a link (Table 20-2). -/
def tagLinkFits (p : TagProto) (l : TagLink) : Bool :=
  match p, l with
  | .typeA, .isoDep _ | .typeA, .type2 | .typeB, .isoDep _ | .vicinity, .vicinity => true
  | _, _ => false

/-- KIND of a tag that is given up on (log 47). -/
def linkKind (l : TagLink) : Nat :=
  match l with
  | .isoDep _ => 4
  | .type2 => 2
  | .vicinity => 5

/-- The exchange that the wait belongs to; its block was sent at the elapsed time t0. Retries count for one block, extensions for one
exchange (R519, R520). -/
def State.exchangeOf (s : State) (w : TagWait) (t0 : Nat) : TagExchange :=
  let new : TagExchange := { tag := w, naks := 0, granted := 0, waitUntil := t0 + linkWait w.link }
  match s.concho.exchange with
  | some e =>
    if e.tag = w then e
    else if e.tag.proto = w.proto ∧ e.tag.uid = w.uid ∧ e.tag.exch = w.exch then { new with granted := e.granted }
    else new
  | none => new

/-- The tag is one that the cycle reads now. -/
def State.waitsFor (s : State) (w : TagWait) : Bool :=
  s.canPoll w.proto w.uid && tagLinkFits w.proto w.link && !s.concho.presence.contains (protoNum w.proto, w.uid)

/-- A tag is given up on with a status: it is deselected or halted, and reported (R519, R520). -/
def State.giveUp (s : State) (w : TagWait) (status : Nat) : State :=
  let key := (protoNum w.proto, w.uid)
  let s := s.readerSend (match w.link with
    | .isoDep _ => .deselect
    | .type2 | .vicinity => .halt)
  let s := s.tagRecord w.proto w.uid (linkKind w.link) status []
  s.setCon { s.concho.remember key with polling := protoNum w.proto, exchange := none }

/-- `FWT_TIMEOUT`: two retries, then status 4. -/
def execFwtTimeout (w : TagWait) (dt : Nat) (s : State) : Step :=
  let start := s.elapsed
  let s := s.advance dt
  let e := s.exchangeOf w start
  .next (if !s.waitsFor w ∨ s.elapsed < e.waitUntil then s
    else if e.naks < 2 then
      (s.setCon { s.concho with exchange := some { e with naks := e.naks + 1, waitUntil := s.elapsed + linkWait w.link } }).readerSend .nak
    else s.giveUp w 4)

/-- Longest granted wait: 4,949.3 ms, in cycles (R520). -/
def wtxMax : Nat := 1237325000

/-- `WTX_REQUEST` with multiplier m + 1: granted up to the cap, then status 3; one that begins after the wait is ignored (R519). -/
def execWtxRequest (w : TagWait) (m : Fin 59) (dt : Nat) (s : State) : Step :=
  let start := s.elapsed
  let s := s.advance dt
  let e := s.exchangeOf w start
  .next (match w.link with
    | .isoDep f =>
      if !s.waitsFor w ∨ e.waitUntil < s.elapsed then s
      else if e.granted < s.rd Key.conWtxCap then
        let wait := min wtxMax (fwtCycles f * (m + 1))
        (s.setCon { s.concho with exchange := some { e with granted := e.granted + 1, waitUntil := s.elapsed + wait } }).readerSend
          (.wtx (m + 1))
      else s.giveUp w 3
    | .type2 | .vicinity => s)

/-! ### The NDEF file (R523, R527 to R529) -/

/-- A well-formed NDEF message: records of the NFC Forum's format with MB on the first and ME on the last
only (log 48). -/
def ndefRecords : Nat → Bool → Bytes → Bool
  | 0, _, _ => false
  | n + 1, first, bs =>
    match bs with
    | [] => false
    | h :: rest =>
      let h := h.toNat
      let short := bitOf h 4
      let idl := if bitOf h 3 then 1 else 0
      let typeLen := leNat (slice rest 0 1)
      let payLen := if short then leNat (slice rest 1 1) else beNat (slice rest 1 4)
      let head := 1 + (if short then 1 else 4) + idl
      let idLen := if bitOf h 3 then leNat (slice rest (head - 1) 1) else 0
      let size := head + typeLen + idLen + payLen
      bitOf h 7 == first && h % 8 != 7 && decide (size ≤ rest.length)
        && (if bitOf h 6 then decide (rest.length = size) else ndefRecords n false (rest.drop size))

/-- The content check of `TAG_NDEF`. -/
def ndefOk (d : Bytes) : Bool := decide (d.length ≤ 4096) && ndefRecords (d.length + 1) true d

/-- Record of slot i. -/
def Concho.slotRec (c : Concho) (i : Nat) : Option Bytes := c.records.getD i none

/-- Flag line i. -/
def Concho.flagLine (c : Concho) (i : Nat) : Option (Nat × Nat) := c.flagLines.getD i none

/-- The message that line i names, where line and slot both pass their CRC. -/
def Concho.lineRec (c : Concho) (i : Nat) : Option Bytes :=
  match c.flagLine i with
  | some f => c.slotRec f.2
  | none => none

/-- The line in force: of those that name a valid slot the one of higher sequence (R529). -/
def Concho.lineInForce (c : Concho) : Option Nat :=
  let seq (i : Nat) : Nat := ((c.flagLine i).getD (0, 0)).1
  match (c.lineRec 0).isSome, (c.lineRec 1).isSome with
  | true, true => some (if seq 0 < seq 1 then 1 else 0)
  | true, false => some 0
  | false, true => some 1
  | false, false => none

/-- The committed record (R529). -/
def Concho.committed (c : Concho) : Option Bytes :=
  match c.lineInForce with
  | some i => c.lineRec i
  | none => none

/-- The older of the two flag lines; one that fails its CRC is older (R528). -/
def Concho.olderLine (c : Concho) : Nat :=
  match c.flagLine 0, c.flagLine 1 with
  | some a, some b => if a.1 < b.1 then 0 else 1
  | some _, none => 1
  | none, _ => 0

/-- Lines that a commit writes: 65 of the record slot, then the flag line (R528). -/
def commitLines : Nat := 66

/-- Commit a message, of whose lines the first n are written whole (R528, R529): the inactive slot, then the older flag line with the
next sequence. The line being written at a loss fails its CRC. Answers the sequence too. -/
def Concho.commit (c : Concho) (d : Bytes) (n : Nat) : Concho × Nat :=
  let cur := match c.lineInForce with
    | some i => ((c.flagLine i).getD (0, 1)).2
    | none => 1
  let slot := if cur = 0 then 1 else 0
  let older := c.olderLine
  let seq := ((c.flagLine (1 - older)).getD (0, 0)).1 + 1
  ({ c with records := vmod (fun _ => if n < 65 then none else some d) slot c.records,
            flagLines := vmod (fun l => if n < 65 then l else if n = 65 then none else some (seq, slot)) older c.flagLines }, seq)

/-- A message is committed: source 27, the post, and `TAG_NDEF` reads it (R528). -/
def State.tagCommit (s : State) (d : Bytes) : State :=
  let r := s.concho.commit d commitLines
  (((s.setCon r.1).setDom Key.tagNdef d).raise 27).tagPost .tagWritten d.length r.2

/-- The committed NDEF file: NLEN, the message, and bytes that the manual does not give (log 1). -/
def State.ndefFile (s : State) : Bytes :=
  let d := s.dom Key.tagNdef
  beBytes 2 d.length ++ d ++ leBytes (4096 - d.length) (s.draw (8 * (4096 - d.length))).toNat

/-- The CC file of R523; its mapping version is not given (log 1). -/
def State.ccFile (s : State) : Bytes :=
  beBytes 2 15 ++ leBytes 1 (s.draw 8).toNat ++ beBytes 2 255 ++ beBytes 2 246 ++ beBytes 4 0x0406E104 ++ beBytes 2 4098 ++ beBytes 2 0

/-! ### Tag commands (R524 to R528) -/

/-- The tag replies. -/
def State.reply (s : State) (sw : Nat) (data : Bytes := []) : State := s.emit (.tag data sw)

/-- Name of the NDEF Tag Application (R518). -/
def ndefAid : Bytes := beBytes 7 0xD2760000850101

/-- `TAG_SELECT` by name, or by file identifier. -/
def execTagSelect (name : Option Bytes) (file : BitVec 16) (s : State) : Step :=
  .next (if !s.tagAnswers then s
    else match name with
      | some n => if n = ndefAid then (s.setCon { s.concho with file := 0 }).reply 0x9000 else s.reply 0x6A82
      | none =>
        if file = 0xE103#16 ∨ file = 0xE104#16 then (s.setCon { s.concho with file := file.toNat }).reply 0x9000
        else s.reply 0x6A82)

/-- Contents of the selected file, and the state once it is read. -/
def State.fileNow (s : State) : Option Bytes × State :=
  let c := s.concho
  if c.file = 0xE103 then (some s.ccFile, s.drawn)
  else if c.file = 0xE104 then
    match c.shadow with
    | some d => (some d, s)
    | none => (some s.ndefFile, s.drawn)
  else (none, s)

/-- `TAG_READ_BINARY` at an offset for le bytes, 1 to 256. -/
def execTagReadBinary (off : BitVec 15) (le : Fin 256) (s : State) : Step :=
  let n : Nat := le + 1
  .next (if !s.tagAnswers then s
    else if 255 < n then s.reply 0x6700
    else
      let got := s.fileNow
      match got.1 with
      | none => s.reply 0x6A82
      | some d => if d.length ≤ off.toNat then got.2.reply 0x6B00 else got.2.reply 0x9000 ((d.drop off.toNat).take n))

/-- An UPDATE BINARY of the shadow that commits it: the check, then the commit or its refusal (R528). A loss of field or supply after
the first n lines leaves no reply and the previous record (R529). -/
def State.shadowCommit (s : State) (d : Bytes) (n : Nat) : State :=
  let len := beNat (slice d 0 2)
  let m := slice d 2 len
  if 4096 < len ∨ !ndefOk m then
    ((s.setCon { s.concho with shadow := none }).tagPost .tagWriteBad len).reply 0x6A80
  else if n < commitLines then s.setCon (s.concho.commit m n).1
  else (s.tagCommit m).reply 0x9000

/-- `TAG_UPDATE_BINARY`; written: lines that a commit writes before the field or the supply is lost, all 66 where it is not. Short
APDUs carry 1 to 255 bytes (R524). -/
def execTagUpdateBinary (off : BitVec 15) (data : Bytes) (written : Fin 67) (s : State) : Step :=
  .next (if !s.tagAnswers then s
    else if data.length = 0 ∨ 255 < data.length then s.reply 0x6D00
    else if s.rd Key.tagState ≠ 1 ∨ s.concho.file ≠ 0xE104 then s.reply 0x6982
    else
      let got := s.fileNow
      let s := got.2
      let d := got.1.getD []
      if d.length < off.toNat + data.length then s.reply 0x6B00
      else
        let d := splice d off.toNat data
        let s := s.setCon { s.concho with shadow := some d }
        if off.toNat = 0 ∧ 2 ≤ data.length ∧ beNat (slice d 0 2) ≠ 0 then s.shadowCommit d written else s.reply 0x9000)

/-- Authentication is locked (R525). -/
def State.tagLocked (s : State) : Bool := s.concho.lockedUntil.isSome

/-- The outcome of an authentication (R525, R526). -/
def State.authDone (s : State) (ok : Bool) : State :=
  if ok then ((s.setCon { s.concho with fails := 0 }).wr Key.tagState 1).reply 0x9000
  else
    let n := s.concho.fails + 1
    let s := (s.bump Key.tagAuthFails).tagOpen
    (s.setCon { s.concho with fails := n, lockedUntil := if 4 ≤ n then some (s.elapsed + ms 60000) else none }).reply 0x6300

/-- `TAG_VERIFY`: a password of 0 never matches. -/
def execTagVerify (pw : BitVec 32) (s : State) : Step :=
  .next (if !s.tagAnswers then s
    else if s.tagLocked then s.reply 0x6983
    else if s.rd Key.tagAuth ≠ 1 then s.reply 0x6985
    else s.authDone (pw.toNat != 0 && pw.toNat == s.rd Key.tagPassword))

/-- `TAG_GET_CHALLENGE`: 16 random bytes. -/
def execTagGetChallenge (s : State) : Step :=
  .next (if !s.tagAnswers then s
    else if s.rd Key.tagAuth ≠ 2 then s.reply 0x6985
    else
      let c := s.draw 128
      (s.drawn.setCon { s.concho with challenge := some c }).reply 0x9000 (beBytes 16 c.toNat))

/-- The key slot of mode 2 may be used for an attempt (R525). -/
def State.tagSlotOk (s : State) : Bool :=
  let n := s.rd Key.tagKeySlot
  decide (n ≤ 4095) && s.slotUsable n && (s.slot n).alg == 1 && bitOf (s.slot n).use useEnc && !(s.slot n).spent

/-- `TAG_EXTERNAL_AUTH`: the challenge serves one attempt. -/
def execTagExternalAuth (data : BitVec 128) (s : State) : Step :=
  .next (if !s.tagAnswers then s
    else if s.tagLocked then s.reply 0x6983
    else if s.rd Key.tagAuth ≠ 2 then s.reply 0x6985
    else match s.concho.challenge with
      | none => s.reply 0x6985
      | some c =>
        let s := s.setCon { s.concho with challenge := none }
        if s.tagSlotOk then
          let n := s.rd Key.tagKeySlot
          let want := Crypto.aesEnc ((s.slot n).key.map (·.toNat)) ((beBytes 16 c.toNat).map (·.toNat))
          (s.useSlot n).authDone ((beBytes 16 data.toNat).map (·.toNat) == want)
        else s.authDone false)

/-- `TAG_UNKNOWN_INS`. -/
def execTagUnknownIns (s : State) : Step := .next (if s.tagAnswers then s.reply 0x6D00 else s)

/-- `TAG_DESELECT`. -/
def execTagDeselect (s : State) : Step := .next (if s.tagAnswers then s.tagOpen else s)

/-- `TAG_LOCKOUT_END`: 60 s have passed. -/
def execTagLockoutEnd (dt : Nat) (s : State) : Step :=
  let s := s.advance dt
  .next (match s.concho.lockedUntil with
    | some t => if t ≤ s.elapsed then s.setCon { s.concho with lockedUntil := none } else s
    | none => s)

/-! ### Resets and writes -/

/-- Any reset: the tag is OPEN and silent, the count and the lockout are cleared, the reader stops and the
presence list is empty (R525, R526, R531). -/
def State.resetCon (s : State) : State :=
  let s := s.conQuiet
  s.setCon { s.concho with presence := [], cycleAt := none, found := false, fails := 0, lockedUntil := none, challenge := none, file := 0 }

/-- The committed record at start-up: `TAG_NDEF`, or `TAG_RECORD_BAD` (R529). -/
def State.conStart (s : State) (cold : Bool) : State :=
  match s.concho.committed with
  | some d => s.setDom Key.tagNdef d
  | none => if cold then (s.setDom Key.tagNdef []).tagPost .tagRecordBad else s.setDom Key.tagNdef []

/-- The device serves again: a field that stayed through the start is sensed. -/
def State.conSense (s : State) : State := if s.concho.field && s.concho.antenna == .quiet then s.fieldSensed else s

end Sys2Proof.Machine
end

