-- ==== Sys2Proof/Machine/Buckle.lean ====
section
/-! DEFINITION. The Buckle: assignment of sources to cores, pending and mask words (R485 to R492). -/

namespace Sys2Proof.Machine

/-! ### Registers of the Buckle view (Table 19-2) -/

/-- Pending register of core n. -/
def State.pend (s : State) (n : Nat) : Nat := KMap.getD s.buckle.pend 0 n

/-- Mask register of core n. -/
def State.mask (s : State) (n : Nat) : Nat := KMap.getD s.buckle.mask 0 n

/-- Replace the pending register of core n. -/
def State.setPend (s : State) (n v : Nat) : State :=
  { s with buckle := { s.buckle with pend := KMap.setD s.buckle.pend 0 n v } }

/-- Replace the mask register of core n. -/
def State.setMask (s : State) (n v : Nat) : State :=
  { s with buckle := { s.buckle with mask := KMap.setD s.buckle.mask 0 n v } }

/-- A core has a pending source that may interrupt it (R490). -/
def State.interrupted (s : State) (n : Nat) : Bool := Nat.land (s.pend n) (s.mask n) != 0

/-- The lowest set bit below n, counted from bit i. -/
def lowestBit (x : Nat) : Nat → Nat → Option Nat
  | 0, _ => none
  | n + 1, i => if bitOf x i then some i else lowestBit x n (i + 1)

/-- `awl.buckle.next` of core n. -/
def State.buckleNext (s : State) (n : Nat) : Nat :=
  match lowestBit (Nat.land (s.pend n) (s.mask n)) 256 0 with
  | some b => b
  | none => 0x100

/-! ### Assignment (R486) -/

/-- Core n may be given source src. -/
def State.takesSource (s : State) (src n : Nat) : Bool := bitOf (s.rd (Key.srcTargets src)) n && s.coreState n == 1

/-- The core that an assignment of a source goes to: the first eligible core above the last, wrapping past
15; the lowest after a reset. -/
def State.nextCore (s : State) (src : Nat) : Option Nat :=
  let first := match KMap.find s.buckle.last src with
    | some c => c + 1
    | none => 0
  ((List.range 16).map (fun i => (first + i) % 16)).find? (fun n => s.takesSource src n)

/-- Assign a source to a core by round robin. -/
def State.assign (s : State) (src : Nat) : State :=
  match s.nextCore src with
  | none => s
  | some n =>
    let s := s.setPend n (setBit (s.pend n) src true)
    { s with buckle := { s.buckle with last := KMap.put s.buckle.last src n } }

/-- `BUCKLE_EDGE`: an edge that has set out reaches the Buckle (R486, R488). -/
def execBuckleEdge (src : Fin 256) (s : State) : Step :=
  let k : Nat := src
  .next (if s.buckle.edges.contains k && !srcReserved k && !srcLevel k then
      let s := { s with buckle := { s.buckle with edges := s.buckle.edges.erase k } }
      (s.run32 (Key.srcEvents k)).assign k
    else s)

/-! ### Levels (R485, R487) -/

/-- Items of strap queue q (R312, R314). -/
def State.strapItems (s : State) (q : Nat) : Nat :=
  if q = 0 then (s.sb.nodes.map (fun p => p.2.frames.length)).sum else (s.strap q).items

/-- The level of a level source holds (Table 19-1). -/
def State.levelHolds (s : State) (src : Nat) : Bool :=
  if src = 3 then s.rd Key.cinchStage != 0
  else if src = 12 then !s.dict.waiting.isEmpty
  else if 32 ≤ src ∧ src ≤ 47 then !(s.core (src - 32)).rxFilled.isEmpty
  else if 64 ≤ src ∧ src ≤ 127 then s.strapItems (src - 64) != 0
  else false

/-- A source is pending in some core. -/
def State.pendingAnywhere (s : State) (src : Nat) : Bool := s.buckle.pend.any (fun p => bitOf p.2 src)

/-- A level source that holds and is pending in no core is assigned. -/
def State.levelAssign (s : State) (src : Nat) : State :=
  if srcLevel src && s.levelHolds src && !s.pendingAnywhere src then s.assign src else s

/-- `BUCKLE_LEVEL_RISE` (R486). -/
def execBuckleLevelRise (src : Fin 256) (s : State) : Step := .next (s.levelAssign src)

/-- `LEVEL_REASSIGN` (R487). -/
def execLevelReassign (src : Fin 256) (s : State) : Step := .next (s.levelAssign src)

/-! ### Writes (R489, R491) -/

/-- Core n replaces word w of its pending register. -/
def State.pendWrite (s : State) (n w v : Nat) : State := s.setPend n (setBits (s.pend n) (32 * w) 32 v)

/-- Core n replaces word w of its mask register. -/
def State.maskWrite (s : State) (n w v : Nat) : State := s.setMask n (setBits (s.mask n) (32 * w) 32 v)

/-- `PENDING_WRITE` by a core that runs. -/
def execPendingWrite (n : Fin 16) (w : Fin 8) (v : BitVec 32) (s : State) : Step :=
  .next (if s.coreRuns n then s.pendWrite n w v.toNat else s)

/-- `MASK_WRITE` by a core that runs. -/
def execMaskWrite (n : Fin 16) (w : Fin 8) (v : BitVec 32) (s : State) : Step :=
  .next (if s.coreRuns n then s.maskWrite n w v.toNat else s)

/-- A write of `awl.buckle.raise`: 240 to 255; other values are ignored. -/
def State.awlRaise (s : State) (v : Nat) : State := if 240 ≤ v ∧ v ≤ 255 then s.raise v else s

/-- A write of `awl.buckle.host_raise` by core n: ignored from cores 12 to 15. -/
def State.awlHostRaise (s : State) (n v : Nat) : State := if n < 12 then s.setCause (72 + v % 8) else s

/-- `AWL_BUCKLE_RAISE` by a core that runs. -/
def execAwlBuckleRaise (n : Fin 16) (v : BitVec 8) (s : State) : Step :=
  .next (if s.coreRuns n then s.awlRaise v.toNat else s)

/-- `AWL_HOST_RAISE` by a core that runs. -/
def execAwlHostRaise (n : Fin 16) (v : Fin 8) (s : State) : Step := .next (if s.coreRuns n then s.awlHostRaise n v else s)

/-- A write of `hif.buckle.raise`: 224 to 239; other values are ignored (R495). -/
def State.hifRaise (s : State) (v : Nat) : State := if 224 ≤ v ∧ v ≤ 239 then s.raise v else s

/-- `HIF_BUCKLE_RAISE` (R495, R537). -/
def execHifBuckleRaise (v : BitVec 8) (s : State) : Step :=
  .next (if s.host.linkUp then s.wake.hifRaise v.toNat else s)

/-- At any reset every pending and mask word, pointer and counter is cleared, and edges on their way are
lost (R492). -/
def State.resetBuckle (s : State) : State :=
  let s := s.each (List.range 256) (fun s k => s.wr (Key.srcEvents k) 0)
  { s with buckle := { pend := [], mask := [], last := [], edges := [] } }

end Sys2Proof.Machine
end

