-- ==== Sys2Proof/Machine/Harness.lean ====
section
/-! DEFINITION. The Harness: classes, lookup, admission, output service, sticky spill, route stitching and the
uplink hold (Harness Switch and Parser, R317). -/

namespace Sys2Proof.Machine

/-! ### Admission and spill (R282 to R286, R290 to R292) -/

/-- floor(2^k × F) for the exponent of class c. -/
def State.alphaLimit (s : State) (c : Nat) : Nat :=
  let k := max (-4) (ofRaw 4 (bits (s.rd Key.harAlphaK) (4 * c) 4))
  if 0 ≤ k then s.freeCells * 2 ^ k.toNat else s.freeCells / 2 ^ (-k).toNat

/-- Cells that a queue holds on die. -/
def OutQ.cells (q : OutQ) : Nat := cellSum q.frames

/-- Cells in the spill write buffer of all queues. -/
def State.bufferCells (s : State) : Nat := (s.har.queues.map (fun p => cellSum p.2.buffer)).sum

/-- Bytes of one spill ring (R304). -/
def State.spillRingBytes (s : State) : Nat :=
  match s.region 4 0 with
  | some r => r.size / 96 / 65536 * 65536
  | none => 0

/-- The spill of a queue is writable for a copy (R290). -/
def State.spillWritable (s : State) (q : OutQ) (f : HFrame) : Bool :=
  s.sbUp && decide (128 * (cellSum q.ring + cellSum q.buffer + f.cells) ≤ s.spillRingBytes) && decide (s.bufferCells < 512)

/-- The outcome of a copy that is dropped (R505). -/
def State.copyLost (s : State) (f : HFrame) : State := s.reportFinal (if f.report then f.handle else none) 0 2

/-- A copy is dropped at its queue. -/
def State.qDrop (s : State) (h : Nat) (f : HFrame) : State := (s.bump (Key.qDrops (8 * h + f.cls))).copyLost f

/-- Admit a copy to output queue (h, class) (R283, Table 10-6); tells whether it was admitted or spilled. -/
def State.admitOne (s : State) (h : Nat) (f : HFrame) : State × Bool :=
  let q := s.outQ h f.cls
  if q.spilled then
    if s.spillWritable q f then (s.setOutQ h f.cls { q with buffer := q.buffer ++ [f] }, true) else (s.qDrop h f, false)
  else if q.cells + f.cells ≤ s.alphaLimit f.cls ∧ f.cells ≤ s.freeCells then
    (s.setOutQ h f.cls { q with frames := q.frames ++ [f] }, true)
  else if bitOf (s.rd Key.harSpillable) f.cls && s.spillWritable q f then
    ((s.bump (Key.qSpills (8 * h + f.cls))).setOutQ h f.cls { q with spilled := true, buffer := q.buffer ++ [f] }, true)
  else (s.qDrop h f, false)

/-- Admit copies in order; tells whether any was admitted. -/
def State.admitAll (s : State) (l : List (Nat × HFrame)) : State × Bool :=
  l.foldl (fun a p => let r := a.1.admitOne p.1 p.2; (r.1, a.2 || r.2)) (s, false)

/-- A frame of input h leaves no copy anywhere (R295). -/
def State.frameLost (s : State) (h : Nat) (f : HFrame) : State := (s.bump (Key.hpDrop h)).copyLost f

/-! ### Lookup (R276, R324, R335) -/

/-- What becomes of a frame that gets no copy in an output queue. -/
inductive Aside where
  | nothing
  /-- into the uplink hold (R317) -/
  | hold
  /-- to the target of a handover (R239): the peer and the node's EUI-64 -/
  | pass (peer eui : Nat)
  /-- no route at chain port p (R47) -/
  | noRoute (p : Side)
  /-- discarded at the chain port that its lookup names (R317) -/
  | discard (p : Side)
  deriving DecidableEq, Repr

/-- What the lookup makes of a routed frame: copies by output, or none of them. -/
structure Routed where
  copies : List (Nat × HFrame)
  aside : Aside
  /-- the lookup gave a result, so the frame is policed -/
  found : Bool
  deriving DecidableEq, Repr

/-- A lookup without result. -/
def Routed.miss : Routed := { copies := [], aside := .nothing, found := false }

/-- A lookup whose result is no output queue of this device. -/
def Routed.off (a : Aside) : Routed := { copies := [], aside := a, found := true }

/-- Harness port of a chain port. -/
def harnessPort (p : Side) : Nat :=
  match p with
  | .up => 6
  | .dn => 7

/-- Chain port towards an address by position in the map, whatever the links (log 39). -/
def State.nominalSide (s : State) (d : Nat) : Side :=
  match topoPos s.chain.topo s.addr, topoPos s.chain.topo d with
  | some i, some j => if i < j then .dn else .up
  | _, _ => .up

/-- No device of the map that is a head has a path of up links (R317). -/
def State.headless (s : State) : Bool :=
  (topoLive s.chain.topo).all (fun e => e.role == 0 || (s.routeTo e.addr).isNone)

/-- Item of the uplink hold: tenant, class, device, input, record, metadata, length and frame. -/
def holdBytes (f : HFrame) : Bytes :=
  leBytes 1 f.tenant ++ leBytes 1 f.cls ++ leBytes 1 f.device ++ leBytes 1 f.input ++ leBytes 2 (f.record.getD 0)
    ++ leBytes 2 f.bytes.length ++ leBytes 16 f.rxMeta ++ f.bytes

/-- Hold a frame in strap queue 4 (R317). -/
def State.hold (s : State) (f : HFrame) : State :=
  let d := holdBytes f
  s.strapPush 4 ((8 + d.length + 59) / 60) d

/-- Copies of a frame bound for a device of the chain (R47, R317). -/
def State.toDevice (s : State) (f : HFrame) (d : Nat) : Routed :=
  let toHead := d == s.chain.topo.head
  let held := decide (0 < (s.strap 4).items)
  if toHead && decide (f.input < 4) && (held || s.headless) then .off .hold
  else match s.routeTo d with
    | some p => { copies := [(harnessPort p, { f with device := d })], aside := .nothing, found := true }
    | none => .off (if toHead && s.headless then .discard (s.nominalSide d) else .noRoute (s.nominalSide d))

/-- Downlink frame for a node's queue. -/
def HFrame.nodeFrame (f : HFrame) (bytes : Bytes) : NodeFrame :=
  { tenant := f.tenant, cls := f.cls, bytes := bytes, handle := f.handle, report := f.report, dsn := none, attempts := 0, cached := false,
    reserved := false, sent := false, forHandover := false, lastReport := 0 }

/-- 6LoWPAN form of a frame; a frame that holds no IPv6 stays as it is. -/
def HFrame.lowpan (f : HFrame) (l : LinkCtx) : Bytes :=
  match toIp f.form f.bytes l with
  | some p => if byteAt p 0 / 16 = 6 then compressIp6 p else p
  | none => netBytes f.form f.bytes

/-- Free values for what a compressed header elides (log 36). -/
def linkCtx (n : Nat) : LinkCtx :=
  let x := (Config.freeBits 192 n).toNat
  { pre := x / 2 ^ 128, srcIid := x / 2 ^ 64 % 2 ^ 64, dstIid := x % 2 ^ 64 }

/-- Radio port of a node's frames: the first of its band (log 40). -/
def NodeRec.outPort (x : NodeRec) : Nat := if x.isIs then 2 else 0

/-- Mesh lookup of a frame for interface identifier u (R16, R239, R324, R335). -/
def State.meshRoute (s : State) (f : HFrame) (u bad : Nat) : State × Routed :=
  match s.girth.forwards.find? (fun w => w.eui == u && w.tenant == f.tenant && decide (s.elapsed < w.endsAt)) with
  | some w => (s, .off (.pass w.peer w.eui))
  | none =>
    let got := s.halterLook f.tenant u bad
    let s := got.1
    match got.2 with
    | none => (s.bump Key.dlUnknown, Routed.miss)
    | some e =>
      if e.device ≠ s.addr then (s, s.toDevice f e.device)
      else
        let x := s.nrec e.record
        if x.isFree || x.eui != u || x.tenant != f.tenant then
          ((s.bump Key.dlUnknown).learnNotice 5 f.tenant u (shortOf e.record) 0xFFFE (some e), Routed.miss)
        else (s, { copies := [(x.outPort, { f with target := .node (shortOf e.record) })], aside := .nothing, found := true })

/-- One copy of a copy list (R285, R330). -/
def copyOf (f : HFrame) (e : CopyEntry) : Nat × HFrame :=
  let t : CopyTarget := if e.target = 1 then .node e.value else if e.target = 2 then .tenantCast (e.value % 256) else .port
  (e.output, { f with target := t, device := dstAll })

/-- Lookup of a routed frame by its IP header (R276, R324, R329, R330). A result that only an IPv6 frame can follow leaves an IPv4 frame
without a copy. -/
def State.routeFrame (s : State) (f : HFrame) (ip : IpHead) (hit : TableHit) : State × Routed :=
  match s.bridleHit f.tenant ip.v4 ip.dst hit.bridle with
  | some w => (s.bridleParity w f.tenant, Routed.miss)
  | none =>
    match s.bridleFind f.tenant ip.v4 ip.dst with
    | none => (s, Routed.miss)
    | some r =>
      let v := resultValue r
      match resultKind r with
      | 1 => (s, { copies := [(v, f)], aside := .nothing, found := true })
      | 2 => match KMap.find s.tables.nextHops v with
        | some nh => (s, { copies := [(nh.output, { f with nextHop := some v })], aside := .nothing, found := true })
        | none => (s, Routed.miss)
      | 3 =>
        let l := KMap.getD s.tables.copyLists [] v
        let s := if 16 < l.length then s.post .mcTruncated 0x4200 f.tenant l.length else s
        (s, { copies := (l.take 16).map (copyOf f), aside := .nothing, found := true })
      | 4 => if ip.v4 then (s, .off .nothing) else s.meshRoute f (Nat.xor (ip.dst % 2 ^ 64) (2 ^ 57)) hit.halter
      | 6 => (s, if ip.v4 then .off .nothing else s.toDevice f v)
      | _ => (s, Routed.miss)

/-! ### Frame input (R273 to R280, R285, R295, R350, R352) -/

/-- A copy may leave by an output: no copy returns by its own input but to the radio or the cores, and IPv4
leaves by Ethernet, the host and the cores only (R276, R285). -/
def copyAllowed (input : Nat) (v4 : Bool) (out : Nat) : Bool :=
  (out != input || decide (out < 4) || out == 9) && (!v4 || out == 4 || out == 5 || out == 8 || out == 9)

/-- A frame goes to HP9 for a reason of Table 10-4. -/
def State.toCores (s : State) (f : HFrame) (reason cls : Nat) : State × Bool :=
  let r := s.admitOne 9 { f with reason := reason, cls := cls, target := .port }
  if r.2 then r else (r.1.bump (Key.hpDrop f.input), false)

/-- A frame that passed the policer goes where no output queue is; tells whether it is kept. -/
def State.setAside (s : State) (f : HFrame) (a : Aside) : State × Bool :=
  match a with
  | .nothing => (s.frameLost f.input f, false)
  | .hold => (s.hold { f with device := s.chain.topo.head }, true)
  | .pass peer eui => (s.emit (.passed peer eui f.tenant (f.nodeFrame (f.lowpan (linkCtx f.ctx)))), true)
  | .noRoute p => ((s.bump (Key.noRoute (sideNum p))).frameLost f.input f, false)
  | .discard p => ((s.bump (Key.qDrops (8 * harnessPort p + f.cls))).frameLost f.input f, false)

/-- A frame with a result passes the policer, and then its copies are made and admitted (R285, R352, R355). -/
def State.policeAdmit (s : State) (f : HFrame) (ip : IpHead) (r : Routed) : State × Bool :=
  if !r.found then (s.frameLost f.input f, false)
  else
    let p := s.police f.tenant f.cls f.bytes.length (some ip.tc)
    if p.2 = Colour.red then (p.1.frameLost f.input f, false)
    else if r.copies.isEmpty then p.1.setAside f r.aside
    else
      let l := r.copies.filter (fun c => copyAllowed f.input ip.v4 c.1)
      let a := p.1.admitAll l
      if a.2 then a else (if l.isEmpty then a.1.frameLost f.input f else a.1.bump (Key.hpDrop f.input), false)

/-- Class by DSCP of an IP header; 0 without one. -/
def ipClass (ip : Option IpHead) : Nat :=
  match ip with
  | some h => bits h.tc 5 3
  | none => 0

/-- A frame after its parse (R276, R279, R280). byDscp: its class comes from its DSCP. -/
def State.parsed (s : State) (f : HFrame) (p : Parsed) (byDscp : Bool) (hit : TableHit) : State × Bool :=
  let headCls := if byDscp then ipClass p.ip else f.cls
  match p.verdict with
  | .conflict =>
    let s := s.bump Key.lenConflict
    if s.flag Key.lenConflictCopy then
      ((s.admitOne 9 { f with reason := 2, cls := ipClass p.ip, handle := none, report := false }).1.frameLost f.input f, false)
    else (s.frameLost f.input f, false)
  | .deep limit => (if limit then s.bump Key.parseDeep else s).toCores f 1 (ipClass p.ip)
  | .fragment => s.toCores f 3 3
  | .control => s.toCores f 4 6
  | .complete =>
    match p.ip with
    | none => (s.frameLost f.input f, false)
    | some ip =>
      let f := { f with bytes := p.bytes, cls := headCls }
      let r := s.routeFrame f ip hit
      r.1.policeAdmit f ip r.2

/-- A frame as its input takes it, before classification. -/
def State.inFrame (s : State) (h : Nat) (bytes : Bytes) : HFrame :=
  { input := h, tenant := 0, cls := 0, form := .other, bytes := bytes, target := .port, nextHop := none, device := 0, reason := 0,
    record := none, handle := none, report := false, ptp := none, rxMeta := 0, chainSrc := 0xFF, core := none, ctx := s.draws, since := s.elapsed }

/-- Receive stamp of an Ethernet frame (R443). -/
def State.ptpStamp (s : State) (h : Nat) (bytes : Bytes) (stamp : Nat) : Option Nat :=
  if bitOf (s.rd Key.ptpPorts) (h - 4) && (ptpEvent bytes).isSome then some (stamp % 2 ^ 32) else none

/-- An input takes a frame whole; tells whether a copy was admitted or sent to spill. A directed frame for HP6 or HP7 goes to DST 0x40,
all devices (log 85, DESIGN CHOICE). -/
def State.frameIn (s : State) (h : Nat) (m : InMeta) (bytes : Bytes) (hit : TableHit) : State × Bool :=
  let f := s.inFrame h bytes
  let l := linkCtx s.draws
  let s := s.drawn.bump (Key.hpRx h)
  let big := decide (9216 < bytes.length)
  match m with
  | .radio r rm =>
    if big then (s.frameLost h f, false)
    else
      s.parsed { f with form := .radio, tenant := (s.nrec r).tenant, record := some r, rxMeta := rm } (parseRadio bytes l) true hit
  | .ethernet t =>
    if big then (s.frameLost h f, false)
    else
      let v := vlanOf bytes
      s.parsed { f with form := .ethernet, tenant := if v < 256 then v else 0, ptp := s.ptpStamp h bytes t } (parseEthernet bytes) true hit
  | .chainData t c src _ =>
    if big then (s.frameLost h f, false)
    else
      s.parsed { f with form := packetForm bytes, tenant := t, cls := c, chainSrc := src } (parsePacket bytes false l) false hit
  | .chainOther dict =>
    if big then (s.frameLost h f, false)
    else if dict then s.toCores { f with cls := 7 } 6 7
    else
      let r := s.admitOne 10 { f with cls := 5 }
      if r.2 then r else (r.1.bump (Key.hpDrop h), false)
  | .routed t c handle rep =>
    let f := { f with form := packetForm bytes, tenant := t, cls := c, handle := handle, report := rep }
    if big then (s.frameLost h f, false)
    else s.parsed f (parsePacket bytes true l) false hit
  | .directed t c out node core handle rep =>
    let tgt : CopyTarget := match node with
      | some a => .node a
      | none => .port
    let f := { f with form := if out < 4 then packetForm bytes else .other, tenant := t, cls := c, target := tgt, core := core,
                      handle := handle, report := rep, device := dstAll }
    if big then (s.frameLost h f, false)
    else
      let r := s.admitOne out f
      if r.2 then r else (r.1.bump (Key.hpDrop h), false)
  | .saddlebag out dst =>
    let r := s.admitOne out { f with cls := 5, device := dst }
    if r.2 then r else (r.1.bump (Key.hpDrop h), false)
  | .lacing k a =>
    let f := { f with cls := 2, tenant := s.rd (Key.campTenant k), target := .node a }
    let r := s.admitOne (s.nrec (a - 0x4000)).outPort f
    if r.2 then r else (r.1.bump (Key.hpDrop h), false)

/-- Inputs whose frames come from outside: Ethernet, descriptors, and the Saddlebag's responses. Those of the radio, the chain and the
Lacing engine come from this device's own receivers and engines. -/
def freshInput (h : Nat) (m : InMeta) : Bool :=
  match m with
  | .ethernet _ => h == 4 || h == 5
  | .routed _ _ _ _ | .directed _ _ _ _ _ _ _ => h == 8 || h == 9
  | .saddlebag _ _ => h == 10
  | .radio _ _ | .chainData _ _ _ _ | .chainOther _ | .lacing _ _ => false

/-- Input h takes this frame next: its oldest arrival, or a frame from outside where none waits (R14, R273). -/
def State.takesNext (s : State) (h : Nat) (a : Arrival) : Bool :=
  match s.har.arrivals.find? (fun x => x.h == h) with
  | some x => decide (x = a)
  | none => freshInput h a.info

/-- The arrivals without the frame that is taken. -/
def State.takeArrival (s : State) (a : Arrival) : State := { s with har := { s.har with arrivals := s.har.arrivals.erase a } }

/-- `HARNESS_FRAME_IN`: input h takes its oldest arrival, or a frame from outside. A closed input takes nothing (R535, R542). -/
def execHarnessFrameIn (h : Fin 12) (m : InMeta) (bytes : Bytes) (hit : TableHit) (dt : Nat) (s : State) : Step :=
  let s := s.advance dt
  .next (if s.inputClosed h then s
    else if s.takesNext h { h := h, info := m, bytes := bytes } then
      ((s.takeArrival { h := h, info := m, bytes := bytes }).frameIn h m bytes hit).1
    else s)

/-! ### Route stitching (R293, R294) -/

/-- A walk up the parents of a node. -/
inductive Walk where
  /-- records P1 to Pn -/
  | path (l : List Nat)
  | tooDeep
  | broken (short : Nat)
  deriving DecidableEq, Repr

/-- Follow `PARENT` from record r; seen holds the records from there down to N. -/
def State.walkUp (s : State) (tenant : Nat) : Nat → Nat → List Nat → Walk
  | 0, _, _ => .tooDeep
  | n + 1, r, seen =>
    let p := (s.nrec r).parent
    let l := r :: seen
    if p = 0 then .path l
    else if p < 0x4000 ∨ 0x7FFF < p then .broken p
    else
      let x := s.nrec (p - 0x4000)
      if x.isFree || x.tenant != tenant || l.contains (p - 0x4000) then .broken p
      else s.walkUp tenant n (p - 0x4000) l

/-- Interface identifier of record r's node. -/
def State.iidOf (s : State) (r : Nat) : Nat := Nat.xor (s.nrec r).eui (2 ^ 57)

/-- PSDU room of a downlink data frame of a tenant (R281). -/
def State.dlRoom (s : State) (t : Nat) : Nat := 111 - micLen (s.rd (Key.tenSecLevel t))

/-- A frame whose stitch fails is dropped (R294). -/
def State.stitchDrop (s : State) (f : HFrame) : State := s.frameLost f.input f

/-- The frame leaves for a node's queue, or goes to the cores for fragmentation (R281). -/
def State.toNode (s : State) (h r : Nat) (f : HFrame) (bytes : Bytes) : State :=
  if s.dlRoom f.tenant < bytes.length then
    let s := s.copyLost f
    (s.toCores { f with form := .lowpan, bytes := bytes, handle := none, report := false } 5 f.cls).1
  else (s.bump (Key.hpTx h)).downlink r (f.nodeFrame bytes)

/-- Stitch a unicast IPv6 packet for record r and pass it on (R293, R294). -/
def State.stitch (s : State) (h r : Nat) (f : HFrame) (pkt : Bytes) : State :=
  match s.walkUp f.tenant (min 16384 (s.rd Key.stitchMaxHops)) r [] with
  | .tooDeep => (s.bump Key.stitchTooDeep).stitchDrop f
  | .broken a => (s.post .stitchBroken 0x4202 (shortOf r) a).stitchDrop f
  | .path l =>
    let first := l.headD r
    let pkt := if l.length ≤ 1 then pkt else insertSrh pkt (s.iidOf first) ((l.drop 1).map s.iidOf)
    if s.dlRoom f.tenant - 4 < headersLen pkt then (s.post .stitchNoRoom 0x4202 (shortOf r) l.length).stitchDrop f
    else s.toNode h first f (compressIp6 pkt)

/-- Output stage of HP0 to HP3 (R281, R284, R285, R293). -/
def State.radioOut (s : State) (h : Nat) (f : HFrame) : State :=
  match f.target with
  | .port => s.frameLost f.input f
  | .tenantCast t =>
    let bytes := f.lowpan (linkCtx f.ctx)
    if s.dlRoom t < bytes.length then
      let s := s.copyLost f
      (s.toCores { f with form := .lowpan, bytes := bytes, handle := none, report := false } 5 f.cls).1
    else
      let c : PendingCast := { tenant := t, cls := f.cls, bytes := bytes, handle := f.handle, report := f.report, arrived := s.nowNs }
      let s := s.bump (Key.hpTx h)
      { s with girth := { s.girth with casts := s.girth.casts ++ [c] } }
  | .node a =>
    let r := a - 0x4000
    match toIp f.form f.bytes (linkCtx f.ctx) with
    | some p =>
      if byteAt p 0 / 16 = 6 ∧ byteAt p 24 ≠ 255 ∧ !((s.nrec r).isFree) then s.stitch h r f p
      else s.toNode h r f (f.lowpan (linkCtx f.ctx))
    | none => s.toNode h r f (netBytes f.form f.bytes)

/-! ### Other output stages (R281) -/

/-- Ethernet header with a destination, a VLAN identifier (0: untagged) and a source address, which the manual
does not give (log 1). -/
def etherHead (dst src vlan typ : Nat) : Bytes :=
  beBytes 6 dst ++ beBytes 6 src ++ (if vlan = 0 then [] else beBytes 2 0x8100 ++ beBytes 2 vlan) ++ beBytes 2 typ

/-- A frame as it leaves by Ethernet: none where it carries no IP packet. -/
def State.etherBytes (s : State) (f : HFrame) : Option Bytes :=
  if f.form = .other then some f.bytes
  else match toIp f.form f.bytes (linkCtx f.ctx) with
    | none => none
    | some p =>
      let v6 := byteAt p 0 / 16 == 6
      let x := (s.draw 108).toNat
      let nh := match f.nextHop with
        | some n => KMap.find s.tables.nextHops n
        | none => none
      let dst := match nh with
        | some n => n.mac
        | none => x / 2 ^ 60
      let vlan := match nh with
        | some n => n.vlan
        | none => x / 2 ^ 48 % 4096
      some (etherHead dst (x % 2 ^ 48) vlan (if v6 then 0x86DD else 0x0800) ++ (if v6 then stripRouting p else p))

/-- Output stage of HP4 and HP5: conversion, IEEE 1588 stamps and report (R443, R444, R505). -/
def State.etherOut (s : State) (h : Nat) (f : HFrame) : State :=
  match s.etherBytes f with
  | none => s.frameLost f.input f
  | some b =>
    let s := s.drawn
    let event := bitOf (s.rd Key.ptpPorts) (h - 4) && (ptpEvent b).isSome
    let b := if event && s.rd Key.ptpStepMode == 1 then ptpInsert b s.time80 else b
    let rep := if event then s.nowNs % 2 ^ 32 * 2 ^ 32 else 0
    ((s.bump (Key.hpTx h)).emit (.harness h { f with bytes := b })).reportFinal (if f.report then f.handle else none) rep 0

/-- Output stage of HP6 and HP7: a DATA frame joins the chain port, and one for all devices leaves as R49 has it (R29, R47, R49,
R281). A frame above the chain's payload limit, or from a device without an address (R35), is dropped (log 43). -/
def State.chainOut (s : State) (p : Side) (f : HFrame) : State :=
  let b := netBytes f.form f.bytes
  if 2048 < b.length ∨ s.addr = 0xFF then s.qDrop (harnessPort p) f
  else
    let s := s.bump (Key.hpTx (harnessPort p))
    let c := s.mkFrame f.device f.cls f.tenant b.length 0 (.data b)
    let s := if f.device = dstAll then s.broadcast c else s.queueAt p c
    s.reportFinal (if f.report then f.handle else none) 0 0

/-- A frame leaves an output as it is. -/
def State.plainOut (s : State) (h : Nat) (f : HFrame) : State :=
  ((s.bump (Key.hpTx h)).emit (.harness h f)).reportFinal (if f.report then f.handle else none) 0 0

/-! ### Output service (R287 to R289) -/

/-- A ring as the host has not set it up. -/
def Ring.off : Ring := { base := 0, size := 0, tail := 0, head := 0, seq := 0, trunc := 0, state := 0, short := none }

/-- Receive ring n. -/
def State.rxRing (s : State) (n : Nat) : Ring := KMap.getD s.host.rx Ring.off n

/-- Receive ring of a frame at HP8 (R498). -/
def rxRingOf (f : HFrame) : Nat :=
  8 * (if f.input < 4 then 0 else if f.input < 6 then 1 else if f.input < 8 then 2 else 3) + f.cls

/-- The output's link is down (R289). -/
def State.outDown (s : State) (h : Nat) : Bool :=
  if h = 4 ∨ h = 5 then !(s.har.eth.getD (h - 4) false)
  else if h = 6 then !s.linkUp .up
  else if h = 7 then !s.linkUp .dn
  else if h = 8 then !s.host.linkUp
  else if h = 10 then !s.sbUp
  else false

/-- The chain port has credits for a DATA frame that this device injects, and none waits before it (R31,
R33). -/
def State.chainReady (s : State) (p : Side) (f : HFrame) : Bool :=
  let x := s.cport p
  x.out.all (fun g => laneOf g.typ != 3)
    && decide (unitsOf (netBytes f.form f.bytes).length + 33 ≤ x.credits.getD 3 0)

/-- The output can take the frame now (R31, R498). -/
def State.outReady (s : State) (h : Nat) (f : HFrame) : Bool :=
  if h = 6 then s.chainReady .up f
  else if h = 7 then s.chainReady .dn f
  else if h = 8 then
    let r := s.rxRing (rxRingOf f)
    (KMap.find s.har.leaving 8).isNone && (r.size == 0 || r.head != r.tail)
  else if h = 9 then (KMap.find s.har.leaving 9).isNone
  else true

/-- The head of queue (h, c) is eligible; a queue that its shaper holds is entered on the calendar (R359 to
R361). -/
def State.eligible (s : State) (h c : Nat) : State × Bool :=
  match (s.outQ h c).frames with
  | [] => (s, false)
  | f :: _ =>
    if h < 4 then (s, true)
    else if s.onCalendar (8 * h + c) then (s, false)
    else
      let x := shaperOf h c
      let s := s.shaperNow f.tenant x
      let t := s.eligibleAt f.tenant x
      if s.us256 < t then (s.calendarEnter (8 * h + c) t, false) else (s, s.outReady h f)

/-- The highest class below n with an eligible queue. -/
def State.pickClass (s : State) (h : Nat) : Nat → State × Option Nat
  | 0 => (s, none)
  | n + 1 =>
    let r := s.eligible h n
    if r.2 then (r.1, some n) else r.1.pickClass h n

/-- A dequeued frame passes its output stage. -/
def State.outStage (s : State) (h : Nat) (f : HFrame) : State :=
  if h < 4 then s.radioOut h f
  else if h < 6 then s.etherOut h f
  else if h = 6 then s.chainOut .up f
  else if h = 7 then s.chainOut .dn f
  else if h = 8 then
    if (s.rxRing (rxRingOf f)).size = 0 then s.qDrop 8 f
    else { s with har := { s.har with leaving := KMap.put s.har.leaving 8 f } }
  else if h = 9 then { s with har := { s.har with leaving := KMap.put s.har.leaving 9 f } }
  else s.plainOut h f

/-- `OUTPUT_DEQUEUE`; bad: address of a word of the frame that holds an uncorrectable error (Table 1-4). -/
def execOutputDequeue (h : Fin 12) (bad : Option Nat) (dt : Nat) (s : State) : Step :=
  let s := s.advance dt
  let k : Nat := h
  .next (if s.outDown k then s
    else
      let p := s.pickClass k 8
      let s := p.1
      match p.2 with
      | none => s
      | some c =>
        let q := s.outQ k c
        match q.frames with
        | [] => s
        | f :: rest =>
          let s := s.setOutQ k c { q with frames := rest }
          match bad with
          | some a => (s.qDrop k f).memFound 3 .uncorrectable a
          | none =>
            let s := if k < 4 then s else s.shaperDepart f.tenant (shaperOf k c) f.bytes.length f.since
            s.outStage k f)

/-- `OUTPUT_LINK_DOWN_DISCARD` (R289). -/
def execOutputLinkDownDiscard (h : Fin 12) (s : State) : Step :=
  let k : Nat := h
  .next (if !s.outDown k then s
    else s.each (List.range 8) (fun s c =>
      let q := s.outQ k c
      match q.frames with
      | [] => s
      | f :: rest => (s.setOutQ k c { q with frames := rest }).qDrop k f))

/-! ### Sticky spill (Table 10-6, R291) -/

/-- `SPILL_WRITE_DONE`: the oldest write of queue (h, c) completes, or finally fails. -/
def execSpillWriteDone (h : Fin 12) (c : Fin 8) (ok : Bool) (s : State) : Step :=
  let k : Nat := h
  let d : Nat := c
  let q := s.outQ k d
  .next (match q.buffer with
    | [] => s
    | f :: rest =>
      if ok then (if s.sbUp then s.setOutQ k d { q with buffer := rest, ring := q.ring ++ [f] } else s)
      else (s.setOutQ k d { q with buffer := rest }).qDrop k f)

/-- Whole frames of a ring within a number of cells; at least one. -/
def takeCells : Nat → List HFrame → List HFrame
  | _, [] => []
  | n, f :: rest => f :: (match rest with
    | g :: _ => if f.cells + g.cells ≤ n then takeCells (n - f.cells) rest else []
    | [] => [])

/-- `SPILL_FETCH`. -/
def execSpillFetch (h : Fin 12) (c : Fin 8) (s : State) : Step :=
  let k : Nat := h
  let d : Nat := c
  let q := s.outQ k d
  .next (if !q.spilled || !s.sbUp || decide (128 ≤ q.cells) || decide (s.freeCells < 4096) then s
    else
      let got := takeCells 64 q.ring
      let ring := q.ring.drop got.length
      s.setOutQ k d { q with frames := q.frames ++ got, ring := ring, spilled := !(ring.isEmpty && q.buffer.isEmpty) })

/-! ### The uplink hold (R317, R318) -/

/-- The frame that a held item carries. -/
def State.heldFrame (s : State) (d : Bytes) : HFrame :=
  let f := s.inFrame (fieldLe d 3 1) (slice d 24 (fieldLe d 6 2))
  { f with form := .radio, tenant := fieldLe d 0 1, cls := fieldLe d 1 1 % 8, device := fieldLe d 2 1, record := some (fieldLe d 4 2),
           rxMeta := fieldLe d 8 16 }

/-- `HOLD_DRAIN`: the oldest held frame joins the chain output of its class. -/
def execHoldDrain (s : State) : Step :=
  let got := s.strapPop 4
  .next (match got.2 with
    | none => s
    | some i =>
      let f := s.heldFrame i.data
      match s.routeTo s.chain.topo.head with
      | none => s
      | some p =>
        let h := harnessPort p
        if 128 ≤ (s.outQ h f.cls).cells then s
        else if i.kind = 1 then got.1
        else if i.poison then got.1.bump (Key.sqLost 4)
        else
          let r := got.1.drawn.admitOne h f
          if r.2 then r.1 else r.1.bump (Key.sqLost 4))

/-- `ETHERNET_LINK_CHANGE` (R289). -/
def execEthernetLinkChange (p : Fin 2) (up : Bool) (s : State) : Step :=
  .next { s with har := { s.har with eth := vmod (fun _ => up) p s.har.eth } }

end Sys2Proof.Machine
end

