-- ==== Sys2Proof/Machine/HostIf.lean ====
section
/-! DEFINITION. The host interface: descriptor rings, descriptors, reports and MSI-X (R493 to R507). -/

namespace Sys2Proof.Machine

/-! ### Rings (R496, R497) -/

/-- Transmit ring n. -/
def State.txRing (s : State) (n : Nat) : Ring := KMap.getD s.host.tx Ring.off n

/-- Replace receive ring n. -/
def State.setRxRing (s : State) (n : Nat) (r : Ring) : State :=
  { s with host := { s.host with rx := KMap.setD s.host.rx Ring.off n r } }

/-- Replace transmit ring n. -/
def State.setTxRing (s : State) (n : Nat) (r : Ring) : State :=
  { s with host := { s.host with tx := KMap.setD s.host.tx Ring.off n r } }

/-- Entries that the device owns. -/
def Ring.given (r : Ring) : Nat := (r.tail + 2 ^ r.size - r.head) % 2 ^ r.size

/-- Host address of entry i. -/
def Ring.entry (r : Ring) (i : Nat) : Nat := r.base + 64 * (i % 2 ^ r.size)

/-- A write by the host to BAR0 or BAR2 reaches the device: it wakes from STANDBY (R537). -/
def State.hostWrites (s : State) (f : State → State) : State := if s.host.linkUp then f s.wake else s

/-- A tail is written: below 2^k, else the write is rejected. -/
def Ring.setTail (r : Ring) (v : Nat) : Ring := if r.size ≠ 0 ∧ v < 2 ^ r.size then { r with tail := v } else r

/-- `RX_RING_TAIL_WRITE`. -/
def execRxRingTailWrite (n : Fin 32) (v : BitVec 12) (s : State) : Step :=
  .next (s.hostWrites (fun s => s.setRxRing n ((s.rxRing n).setTail v.toNat)))

/-- `TX_RING_TAIL_WRITE`. -/
def execTxRingTailWrite (n : Fin 32) (v : BitVec 12) (s : State) : Step :=
  .next (s.hostWrites (fun s => s.setTxRing n ((s.txRing n).setTail v.toNat)))

/-- A size is written: 0, or 3 to 12 while the ring is disabled (Table 19-4). -/
def Ring.setSize (r : Ring) (k : Nat) : Ring :=
  if k = 0 then { r with size := 0, state := 0, short := none }
  else if 3 ≤ k ∧ k ≤ 12 ∧ r.size = 0 then { r with size := k, head := 0, tail := 0, state := 1, short := none }
  else r

/-- `RX_RING_SIZE_WRITE`; a receive ring has no state of its own. -/
def execRxRingSizeWrite (n : Fin 32) (k : BitVec 4) (s : State) : Step :=
  .next (s.hostWrites (fun s => s.setRxRing n { (s.rxRing n).setSize k.toNat with state := 0 }))

/-- `TX_RING_SIZE_WRITE`. -/
def execTxRingSizeWrite (n : Fin 32) (k : BitVec 4) (s : State) : Step :=
  .next (s.hostWrites (fun s => s.setTxRing n ((s.txRing n).setSize k.toNat)))

/-! ### Receive frames (R498 to R500, R503) -/

/-- BUF and BUFLEN lie in their ranges (Table 19-5). -/
def rxDescOk (d : RxDesc) : Bool :=
  d.buf % 64 == 0 && decide (256 ≤ d.len) && decide (d.len ≤ 16384) && d.len % 64 == 0

/-- An entry of a frame being written: its place, what it takes, and whether it is a bad descriptor. -/
structure RxPiece where
  index : Nat
  buf : Nat
  bytes : Bytes
  bad : Bool
  deriving DecidableEq, Repr

/-- Fill the entries of a ring with frame bytes, at most n entries; also the bytes that found none. -/
def fillEntries : Nat → Nat → List RxDesc → Bytes → List RxPiece × Bytes
  | 0, _, _, rest => ([], rest)
  | n + 1, i, ds, rest =>
    if rest.isEmpty then ([], [])
    else
      let d := ds.headD { buf := 0, len := 0 }
      let take := if rxDescOk d then rest.take d.len else []
      let more := fillEntries n (i + 1) (ds.drop 1) (rest.drop take.length)
      ({ index := i, buf := d.buf, bytes := take, bad := !rxDescOk d } :: more.1, more.2)

/-- Bytes 0 to 53 of a receive descriptor (Table 19-5). -/
def rxBack (f : HFrame) (seq len status : Nat) (first last : Bool) : Bytes :=
  let b (v : Bool) (k : Nat) : Nat := if v then 2 ^ k else 0
  leBytes 54 (len * 2 ^ 416 + f.bytes.length * 2 ^ 400 + status * 2 ^ 396 + b first 395 + b last 394 + b f.ptp.isSome 393
    + f.input * 2 ^ 388 + f.cls * 2 ^ 385 + f.tenant * 2 ^ 376 + f.chainSrc * 2 ^ 368 + seq * 2 ^ 352 + f.ptp.getD 0 * 2 ^ 320
    + f.rxMeta)

/-- Write one entry of a frame: its bytes, and its descriptor. -/
def State.writePiece (s : State) (r : Ring) (f : HFrame) (p : RxPiece) (trunc first last : Bool) : State :=
  let status := if p.bad then 2 else if trunc then 1 else 0
  let s := if p.bad then s else s.emit (.dma p.buf p.bytes)
  s.emit (.dma (r.entry p.index) (rxBack f r.seq p.bytes.length status (first && !p.bad) (last && !p.bad)))

/-- Index of the first and of the last piece that took bytes. -/
def goodEnds (l : List RxPiece) : Option Nat × Option Nat :=
  let g := (l.filter (fun p => !p.bad)).map (·.index)
  (g.head?, g.getLast?)

/-- The frame that is leaving HP8 is written into its ring; ds are the entries from head on. -/
def State.rxFrame (s : State) (f : HFrame) (ds : List RxDesc) : State :=
  let n := rxRingOf f
  let r := s.rxRing n
  if r.size = 0 then s.qDrop 8 f
  else
    let got := fillEntries r.given r.head ds f.bytes
    let trunc := !got.2.isEmpty
    let ends := goodEnds got.1
    let s := s.each got.1 (fun s p => s.writePiece r f p trunc (some p.index == ends.1) (some p.index == ends.2))
    let r := { r with head := (r.head + got.1.length) % 2 ^ r.size, seq := (r.seq + 1) % 65536,
                      trunc := if trunc then satAdd u32Max r.trunc 1 else r.trunc }
    ((((s.setRxRing n r).bump (Key.hpTx 8)).setCause n)).reportFinal (if f.report then f.handle else none) 0 0

/-- `HOST_RX_FRAME`: ds are the ring's entries from head on, as the host wrote them. A frame that finds no
entry waits (R498). -/
def execHostRxFrame (ds : List RxDesc) (dt : Nat) (s : State) : Step :=
  let s := s.advance dt
  .next (match KMap.find s.har.leaving 8 with
    | none => s
    | some f =>
      let r := s.rxRing (rxRingOf f)
      if r.size ≠ 0 ∧ r.head = r.tail then s
      else ({ s with har := { s.har with leaving := KMap.drop s.har.leaving 8 } }).rxFrame f ds)

/-! ### Transmit frames (R501, R504) -/

/-- A field of a transmit descriptor. -/
def txField (d : BitVec 512) (lo w : Nat) : Nat := bits d.toNat lo w

/-- FIRST and LAST. -/
def txFirst (d : BitVec 512) : Bool := txField d 415 1 == 1
def txLast (d : BitVec 512) : Bool := txField d 414 1 == 1

/-- The fields of one descriptor lie in their ranges (Table 19-6). -/
def txRanges (d : BitVec 512) : Bool :=
  let len := txField d 432 16
  let all := txField d 416 16
  let short := txField d 376 16
  decide (1 ≤ len) && decide (len ≤ 9216) && decide (1 ≤ all) && decide (all ≤ 9216) && decide (txField d 408 4 ≤ 11)
    && (short == 0xFFFE || (decide (0x4000 ≤ short) && decide (short ≤ 0x7FFF)))
    && (txField d 413 1 == 0 || txField d 412 1 == 0 || txField d 192 64 % 32 == 0)

/-- Entries of the next frame of a ring: how many, and whether they run from FIRST to LAST; none while the
frame waits for tail. -/
def txSpan (given : Nat) (ds : List (BitVec 512)) : Option (Nat × Bool) :=
  let l := ds.take (min given 16)
  match findIdxFrom txLast 0 l with
  | some i => some (i + 1, txFirst (l.headD 0) && (l.drop 1 |>.take i).all (fun d => !txFirst d))
  | none => if 16 ≤ given ∧ 16 ≤ l.length then some (16, false) else none

/-- The descriptors of a frame say one frame that may be sent (R501). -/
def txDescsOk (l : List (BitVec 512)) : Bool :=
  let d := l.headD 0
  l.all txRanges && l.all (fun e => txField e 416 16 == txField d 416 16)
    && (l.map (fun e => txField e 432 16)).sum == txField d 416 16
    && !(txField d 413 1 == 1 && txField d 408 4 == 8)

/-- STATUS is written back to entry i, whose other bits stay (R504). -/
def State.txBack (s : State) (r : Ring) (i : Nat) (d : BitVec 512) (status : Nat) : State :=
  s.emit (.dma (r.entry i + 46) (leBytes 1 (status * 16 + txField d 368 4)))

/-- Statuses of a frame's entries. -/
def State.txBackAll (s : State) (r : Ring) (l : List (BitVec 512)) (status : Nat) : State :=
  (l.foldl (fun (a : State × Nat) d => (a.1.txBack r a.2 d status, a.2 + 1)) (s, r.head)).1

/-- A decided frame goes to the Harness at HP8 (R273, R275); the cookie and address stay with it (R505). -/
def State.txTake (s : State) (d : BitVec 512) (bytes : Bytes) : State × Bool :=
  let directed := txField d 413 1 == 1
  let report := directed && txField d 412 1 == 1
  let h := s.host.nextHandle
  let s := if report then
      { s with host := { s.host with
          reports := KMap.put s.host.reports h { cookie := txField d 256 64, addr := txField d 192 64 }
          nextHandle := h + 1 } }
    else s
  let handle := if report then some h else none
  let short := txField d 376 16
  let out := txField d 408 4
  let node := if out < 4 ∧ short ≠ 0xFFFE then some short else none
  let info : InMeta := if directed then .directed (txField d 392 8) (txField d 405 3) out node none handle report
    else .routed (txField d 392 8) (txField d 405 3) none false
  s.frameIn 8 info bytes { bridle := none, halter := 0 }

/-- Transmit ring m has entries to serve, and no frame that waits for its tail. -/
def State.txReady (s : State) (m : Nat) : Bool :=
  let r := s.txRing m
  r.state == 1 && r.size != 0 && r.given != 0 && r.short != some r.tail

/-- The turn of the round robin has come to ring n: no ring after the last served and before it is ready (R501). -/
def State.txTurn (s : State) (n : Nat) : Bool :=
  (List.range ((n + 31 - s.host.lastTx) % 32)).all (fun i => !s.txReady ((s.host.lastTx + 1 + i) % 32))

/-- `TX_FRAME_FETCH`: the device serves ring n, whose turn it is; ds are its entries from head on, and data the bytes of their
buffers in order. -/
def execTxFrameFetch (n : Fin 32) (ds : List (BitVec 512)) (data : Bytes) (dt : Nat) (s : State) : Step :=
  let s := s.advance dt
  let k : Nat := n
  let r := s.txRing k
  .next (if r.state ≠ 1 ∨ r.size = 0 ∨ s.inputClosed 8 ∨ !s.host.linkUp ∨ !s.txTurn k then s
    else match txSpan r.given ds with
      | none => s.setTxRing k { r with short := some r.tail }
      | some (count, whole) =>
        let l := ds.take count
        let d := l.headD 0
        let s := { s with host := { s.host with lastTx := k } }
        let got := if whole && txDescsOk l then s.txTake d (slice data 0 (txField d 416 16)) else (s, false)
        let status := if whole && txDescsOk l then (if got.2 then 0 else 2) else 1
        let s := got.1.txBackAll r l status
        (s.setTxRing k { r with head := (r.head + count) % 2 ^ r.size, short := none }).setCause (32 + k))

/-! ### DMA errors and reports (R502, R505) -/

/-- `DMA_ERROR` of receive ring n, or of transmit ring n. -/
def execDmaError (rx : Bool) (n : Fin 32) (addr : BitVec 64) (s : State) : Step :=
  let k : Nat := n
  let s' := if rx then
      let s := match KMap.find s.har.leaving 8 with
        | some f => if rxRingOf f = k then ({ s with har := { s.har with leaving := KMap.drop s.har.leaving 8 } }).qDrop 8 f else s
        | none => s
      s.setRxRing k { s.rxRing k with size := 0 }
    else s.setTxRing k { s.txRing k with state := 2 }
  let live := if rx then (s.rxRing k).size != 0 else (s.txRing k).state == 1
  .next (if live then s'.post .hifDmaError 0x1000 (if rx then k else 32 + k) addr.toNat else s)

/-- `REPORT_RECORD_WRITE`: the oldest final outcome is written to its report address (R505). -/
def execReportRecordWrite (s : State) : Step :=
  .next (match s.host.reportsDue with
    | [] => s
    | (h, report, outcome) :: rest =>
      if !s.host.linkUp then s
      else match KMap.find s.host.reports h with
        | none => { s with host := { s.host with reportsDue := rest } }
        | some t =>
          let s := { s with host := { s.host with reportsDue := rest, reports := KMap.drop s.host.reports h } }
          (s.emit (.dma t.addr (leBytes 8 t.cookie ++ leBytes 8 report ++ leBytes 1 outcome ++ zeros 15))).setCause 70)

/-! ### Host interrupts (R506, R507) -/

/-- A vector as it is before the host sets it up: masked, as PCIe resets it (log 46). -/
def MsixVector.off : MsixVector := { addr := 0, data := 0, masked := true, pending := false, holdoff := 0, sentAt := none }

/-- MSI-X vector v. -/
def State.vector (s : State) (v : Nat) : MsixVector := KMap.getD s.host.vectors MsixVector.off v

/-- Replace MSI-X vector v. -/
def State.setVector (s : State) (v : Nat) (x : MsixVector) : State :=
  { s with host := { s.host with vectors := KMap.setD s.host.vectors MsixVector.off v x } }

/-- Set flags of enabled causes that are mapped to v. -/
def State.flagsOf (s : State) (v : Nat) : List Nat := s.host.flags.filter (fun c => (s.cause c).1 && (s.cause c).2 == v)

/-- The holdoff of a vector has passed. -/
def State.holdoffOver (s : State) (x : MsixVector) : Bool :=
  match x.sentAt with
  | some t => decide (t + us x.holdoff ≤ s.elapsed)
  | none => true

/-- `MSIX_SEND` of vector v (R507). -/
def execMsixSend (v : Fin 64) (dt : Nat) (s : State) : Step :=
  let s := s.advance dt
  let k : Nat := v
  let x := s.vector k
  let due := s.flagsOf k
  .next (if (due.isEmpty && !x.pending) || !s.holdoffOver x || !s.host.linkUp then s
    else if x.masked || s.host.functionMask then s.setVector k { x with pending := true }
    else
      let s := { s with host := { s.host with flags := s.host.flags.filter (fun c => !due.contains c) } }
      (s.emit (.msix x.addr x.data)).setVector k { x with pending := false, sentAt := some s.elapsed })

/-! ### Loss of the link and Function Level Reset (R494) -/

/-- What a loss of the link or a Function Level Reset does to the host interface. Responses that waited outside the mailbox queue enter it
afterwards (R494, R509). -/
def State.hifReset (s : State) : State :=
  let off (m : KMap Ring) : KMap Ring := m.map (fun p => (p.1, { p.2 with size := 0, state := 0, short := none }))
  let tidy (m : KMap Ring) : KMap Ring := (off m).filter (fun p => p.2 != Ring.off)
  { s with host := { s.host with
      rx := tidy s.host.rx, tx := tidy s.host.tx, mailbox := [], flags := [], vectors := [],
      functionMask := false } }

/-- `FUNCTION_LEVEL_RESET`, by request or hot reset of a host whose link is up. -/
def execFunctionLevelReset (s : State) : Step := .next (if s.host.linkUp then s.hifReset.post .hifFlr 0x1000 else s)

end Sys2Proof.Machine
end

