-- ==== Sys2Proof/Machine/HostPath.lean ====
section
/-! DEFINITION. The path to a host: whether a head can be reached, and what its loss and return post (R36, R572 to
R574). -/

namespace Sys2Proof.Machine

/-- This device is a head candidate (R36). -/
def State.headCandidate (s : State) : Bool := s.pins.headSel && s.host.linkUp

/-- Rank of this device as a candidate (R36). -/
def State.rank (s : State) : Rank := { pinZero := s.rd Key.chainPin == 0, eui := s.ident.eui64 }

/-- A candidate of rank a ranks above one of rank b. -/
def rankAbove (a b : Rank) : Bool := (a.pinZero && !b.pinZero) || (a.pinZero == b.pinZero && decide (a.eui < b.eui))

/-- Some device of the map is a head that this device can reach: its active head or a standby head. -/
def State.headReached (s : State) (active : Bool) : Bool :=
  (topoLive s.chain.topo).any (fun e =>
    (e.role == 2 || (active && (e.role == 1 || e.addr == s.chain.topo.head))) && (s.routeTo e.addr).isSome)

/-- A path to a host: on the active head its PCIe link or a standby head, elsewhere an UP path to a head (R572). -/
def State.hostPath (s : State) : Bool :=
  if s.rd Key.chainRole = 1 then s.host.linkUp || s.headReached false else s.headReached true

/-- Follow the path: a cut begins, or it ends and `HOST_REACHED` is posted (R574). -/
def State.pathCheck (s : State) : State :=
  match s.hostPath, s.host.cutSince with
  | true, some t =>
    let s' := { s with host := { s.host with cutSince := none, cutPosted := false } }
    if s.host.cutPosted then s'.post .hostReached 0x1100 ((s.elapsed - t) / 250000) (s.strap 4).items else s'
  | false, none => { s with host := { s.host with cutSince := some s.elapsed, cutPosted := false } }
  | true, none => s
  | false, some _ => s

/-- `HOST_UNREACHABLE`: a cut has lasted 1 s without a break (R574). -/
def execHostUnreachable (dt : Nat) (s : State) : Step :=
  let s := (s.advance dt).pathCheck
  .next (match s.host.cutSince with
    | some t =>
      if !s.host.cutPosted ∧ t + ms 1000 ≤ s.elapsed then
        ({ s with host := { s.host with cutPosted := true } }).post .hostUnreachable 0x1100
      else s
    | none => s)

end Sys2Proof.Machine
end

