-- ==== Sys2Proof/Machine/Time.lean ====
section
/-! DEFINITION. Steps of chain time, the servo and its states, holdover, and the pulse outputs (R430 to R450). -/

namespace Sys2Proof.Machine

/-- Clock domain of the time unit (R430). -/
def timeDom : Nat := 212

/-- Nanoseconds after which chain time wraps (R430). -/
def chainWrap : Nat := 2 ^ 48 * 1000000000

/-! ### Pulse outputs (R448 to R450) -/

/-- A pulse output that is off. -/
def Pulse.off : Pulse := { run := none, waiting := false, arming := false, armedAt := 0, next := none, fallAt := none }

/-- Pulse output k. -/
def State.pulse (s : State) (k : Nat) : Pulse := s.pulses.getD k Pulse.off

/-- Replace pulse output k, and drive its ball to its level; a rising edge is an edge of the Buckle (Table 19-1). -/
def State.setPulse (s : State) (k : Nat) (x : Pulse) : State :=
  let s := if x.fallAt.isSome && (s.pulse k).fallAt.isNone then s.raise (4 + k) else s
  { s with pulses := vmod (fun _ => x) k s.pulses,
           pins := { s.pins with tpo := vmod (fun _ => x.fallAt.isSome) k s.pins.tpo } }

/-- The first periodic instant at or after t, chain time in ns (R448). -/
def firstInstant (start period t : Nat) : Nat :=
  if t ≤ start then start
  else start + (t - start + period - 1) / period * period

/-- Values that the objects of output k hold. -/
def State.pulseObjects (s : State) (k : Nat) : PulseSet :=
  { mode := s.rd (Key.tpoMode k), start := rawToTime (s.rd (Key.tpoStart k)),
    periodNs := s.rd (Key.tpoPeriodNs k), widthNs := s.rd (Key.tpoWidthNs k) }

/-- An arming or change of output k takes effect: the arming instant (R449). -/
def State.pulseArm (s : State) (k : Nat) : State :=
  let p := s.pulseObjects k
  let lead := s.nowNs + 2000
  let armed : Pulse := { Pulse.off with run := some p, armedAt := s.nowNs }
  if p.mode = 0 then s.setPulse k Pulse.off
  else if p.mode = 1 then
    if lead ≤ timeNs p.start then s.setPulse k { armed with next := some (timeNs p.start) }
    else
      ((s.wr (Key.tpoMode k) 0).setPulse k Pulse.off).post .tpoMissed (0x1802 + k) p.start.sec 0 timeDom
  else s.setPulse k { armed with next := some (firstInstant (timeNs p.start) p.periodNs lead) }

/-- The objects of output k were written: its mode, or only its other values (R449). -/
def State.pulseWritten (s : State) (k : Nat) (modeWritten : Bool) : State :=
  let x := s.pulse k
  if modeWritten then
    if s.rd (Key.tpoMode k) = 0 then s.setPulse k Pulse.off
    else if x.fallAt.isSome then s.setPulse k { x with arming := true }
    else s.pulseArm k
  else if s.rd (Key.tpoMode k) = 0 then s
  else if x.fallAt.isSome then s.setPulse k { x with waiting := true }
  else s.pulseArm k

/-- The counter has reached or passed an instant of output k: one pulse, unless one is high (R448, R450). -/
def State.pulseFire (s : State) (k : Nat) : State :=
  let x := s.pulse k
  match x.run, x.next with
  | some p, some at' =>
    if s.nowNs < at' then s
    else
      let after := if p.mode = 2 then some (firstInstant (timeNs p.start) p.periodNs (s.nowNs + 1)) else none
      let fall := match x.fallAt with
        | some f => some f
        | none => some (s.elapsed + (p.widthNs + 3) / 4)
      s.setPulse k { x with next := after, fallAt := fall }
  | _, _ => s

/-- A backward step: the next pulse is at the first instant after the new time; a once output that has
fired does not fire again (R450). -/
def State.pulseBack (s : State) (k : Nat) : State :=
  let x := s.pulse k
  match x.run, x.next with
  | some p, some _ =>
    if p.mode = 2 then
      s.setPulse k { x with next := some (firstInstant (timeNs p.start) p.periodNs (s.nowNs + 1)) }
    else s
  | _, _ => s

/-- The falling edge of output k (R448, R449). -/
def State.pulseFall (s : State) (k : Nat) : State :=
  let x := s.pulse k
  let once := match x.run with
    | some p => p.mode == 1
    | none => false
  let low := { x with fallAt := none }
  if x.arming then (s.setPulse k low).pulseArm k
  else if once then (s.wr (Key.tpoMode k) 0).setPulse k Pulse.off
  else if x.waiting then (s.setPulse k low).pulseArm k
  else s.setPulse k low

/-! ### Steps (R437, R438) -/

/-- This device is the active head. -/
abbrev State.isHead (s : State) : Bool := s.rd Key.chainRole == 1

/-- A change of `TIME_STATE` from was is an edge of the Buckle (Table 19-1). -/
def State.timeEdge (s : State) (was : Nat) : State := if s.clock.state = was then s else s.raise 8

/-- The counter takes a new time, in ns; on the active head `STEP_GEN` increases (R437, R438, R450). -/
def State.stepTo (s : State) (ns frac : Nat) : State :=
  let was := s.nowNs
  let t := nsToTime ns
  let gen := if s.isHead then (s.clock.stepGen + 1) % 65536 else s.clock.stepGen
  let s := { s with clock := { s.clock with sec := t.sec, ns := t.ns, frac := frac, stepGen := gen } }
  s.each [0, 1, 2, 3] (fun s k => if s.nowNs < was then s.pulseBack k else s.pulseFire k)

/-- The counter steps by a number of nanoseconds. -/
def State.stepBy (s : State) (delta : Int) : State :=
  s.stepTo (((s.nowNs : Int) + delta) % (chainWrap : Int)).toNat s.clock.frac

/-- `TIME_STEP_NS` (R437). -/
def State.timeStep (s : State) (delta : Int) : State :=
  let s := s.resBegin Key.timeStepRes
  if s.clock.state = 1 ∨ s.clock.state = 2 then s.resEnd Key.timeStepRes 2
  else if s.rd Key.timeJumpLimitNs < delta.natAbs then
    ((s.bump Key.jumpRefused).post .jumpRefused 0x1800 (toRaw 64 delta) 2 timeDom).resEnd Key.timeStepRes 1
  else (s.stepBy delta).resEnd Key.timeStepRes 0

/-- `TIME_SET`, on the active head (R437); elsewhere the dictionary answers `ACCESS` and nothing is set. -/
def State.timeSetTo (s : State) (t : Time80) : State :=
  if s.isHead then ((s.resBegin Key.timeSetRes).stepTo (timeNs t) 0).resEnd Key.timeSetRes 0 else s

/-! ### Samples (R435, R436, R441) -/

/-- The greatest correction, in 1/64 ppb (R431, R441). -/
def corrMax : Int := 12800000

/-- A correction held within its limits. -/
def corrClamp (x : Int) : Int := max (-corrMax) (min corrMax x)

/-- Corrections that the last 16 s before `now` need: all younger ones and the one in force at its start. -/
def keepHistory (now : Nat) : List (Nat × Int) → List (Nat × Int)
  | [] => []
  | e :: l => if e.1 + us 16000000 ≤ now then [e] else e :: keepHistory now l

/-- Sum of corrections times the cycles they were in force, from `lo` to `hi`, newest first. -/
def weighCorr (lo : Nat) : Nat → List (Nat × Int) → Int
  | _, [] => 0
  | hi, (t, c) :: l =>
    if t ≤ lo then c * ((hi - lo : Nat) : Int)
    else c * ((hi - t : Nat) : Int) + weighCorr lo t l

/-- Mean correction over the last 16 s, or since the lock where that is shorter (Table 17-1; log 12). -/
def meanCorr (now : Nat) (h : List (Nat × Int)) (corr : Int) : Int :=
  match h.getLast? with
  | none => corr
  | some oldest =>
    let lo := max oldest.1 (now - us 16000000)
    if now ≤ lo then corr else weighCorr lo now h / ((now - lo : Nat) : Int)

/-- The servo runs on an offset (R441). -/
def State.servo (s : State) (off : Int) : State :=
  let c := s.clock
  let integ := corrClamp (c.integ + off)
  let corr := corrClamp (integ + 8 * off)
  { s with clock := { c with integ := integ, corr := corr,
                             history := keepHistory c.elapsed ((c.elapsed, corr) :: c.history) } }

/-- The state that a source locks to: 1 chain, 2 IEEE 1588 (Table 17-1). -/
def lockState (ptp : Bool) : Nat := if ptp then 2 else 1

/-- A sample is accepted in a state. -/
def State.accepted (s : State) (st : Nat) : State :=
  { s with clock := { s.clock with state := st, lastSample := s.clock.elapsed, fresh := false } }

/-- The servo correction starts at 0 (Table 17-1). -/
def State.lockFrom (s : State) (st : Nat) : State :=
  { s with clock := { s.clock with state := st, lastSample := s.clock.elapsed, integ := 0, corr := 0, good := 0,
                                   history := [(s.clock.elapsed, 0)] } }

/-- Largest offset that a sample may have now: A of R435; in holdover it grows by 500 ppm. -/
def State.jumpAllowed (s : State) : Nat :=
  if s.clock.state = 3 then
    s.rd Key.timeJumpLimitNs + 4 * (s.clock.elapsed - s.clock.heldSince) / 2000
  else s.rd Key.timeJumpLimitNs

/-- A sample is refused: the device is in holdover, and posts once per holdover (Table 17-1). -/
def State.sampleRefused (s : State) (off : Int) (ptp : Bool) : State :=
  let s := s.bump Key.jumpRefused
  let s := if s.clock.state = 3 then s
    else { s with clock := { s.clock with state := 3, heldSince := s.clock.elapsed, posted := false } }
  if s.clock.posted then s
  else
    ({ s with clock := { s.clock with posted := true } }).post .jumpRefused 0x1800 (toRaw 64 off)
      (if ptp then 1 else 0) timeDom

/-- A sample in state 0 (Table 17-1; R441 with A unbounded). -/
def State.sampleFree (s : State) (off : Int) (newGen ptp : Bool) : State :=
  let good := if off.natAbs ≤ 50 then s.clock.good + 1 else 0
  let first := s.clock.fresh
  let s := ({ s with clock := { s.clock with good := good } }).accepted 0
  let s := if first || newGen || decide (1000 < off.natAbs) then s.stepBy off else s
  if 16 ≤ good then s.lockFrom (lockState ptp) else s

/-- One sample by the rows of Table 17-1 (R441). State 1 is taken from the chain and state 2 from IEEE 1588, so an accepted sample names
the state by its source (log 144). -/
def State.sampleRow (s : State) (off : Int) (newGen ptp : Bool) : State :=
  if s.clock.state = 0 then s.sampleFree off newGen ptp
  else if newGen then (s.stepBy off).accepted (if s.clock.state = 3 then 1 else s.clock.state)
  else if s.jumpAllowed < off.natAbs then s.sampleRefused off ptp
  else
    let s := s.accepted (lockState ptp)
    if 1000 < off.natAbs then s.stepBy off else s.servo off

/-- One sample: the offset in ns, whether it carries a new `STEP_GEN`, and whether IEEE 1588 gave it
(Table 17-1, R441). -/
def State.sample (s : State) (off : Int) (newGen ptp : Bool) : State :=
  let was := s.clock.state
  let shown := max (-2147483648) (min 2147483647 off)
  ((s.wr Key.timeOffsetNs (toRaw 32 shown)).sampleRow off newGen ptp).timeEdge was

/-- No sample was accepted for 4 intervals: the correction is held at its mean (Table 17-1). -/
def State.holdover (s : State) : State :=
  let c := s.clock
  let held := meanCorr c.elapsed c.history c.corr
  let s := ({ s with clock := { c with state := 3, corr := held, heldSince := c.elapsed, posted := false } }).timeEdge c.state
  s.post .timeHoldover 0x1800 (toRaw 64 (s.rdI 32 Key.timeOffsetNs)) (toRaw 64 (held / 64)) timeDom

/-- `TIME_SOURCE` of the active head is set to 0 (Table 17-1). -/
def State.timeFree (s : State) : State :=
  ({ s with clock := { s.clock with state := 0, fresh := true, good := 0 } }).timeEdge s.clock.state

/-! ### Commands -/

/-- Offset of an exchange as IEEE 1588-2019 defines it, with the sign of R441: the master's time less this device's (R446, log 145). -/
def ptpOffset (x : PtpExchange) : Int :=
  let delay := (((x.t2 : Int) - x.t3) + ((x.t4 : Int) - x.t1) - x.corrSync - x.corrResp) / 2
  x.corrSync + delay - ((x.t2 : Int) - x.t1)

/-- The Ethernet port of the ordinary clock: the lowest of `PTP_PORTS` whose link is up (R445). -/
def State.ptpPort (s : State) : Option Nat :=
  [0, 1].find? (fun e => bitOf (s.rd Key.ptpPorts) e && s.har.eth.getD e false)

/-- `PTP_SAMPLE`: only the active head takes time from IEEE 1588 (R445, R446). -/
def State.ptpSample (s : State) (x : PtpExchange) : State :=
  if s.isHead && s.rd Key.timeSource == 1 && s.ptpPort.isSome then
    ({ s with clock := { s.clock with syncUs := x.syncUs } }).sample (ptpOffset x) false true
  else s

/-- `HOLDOVER_TIMEOUT` (Table 17-1): the sample interval is 62.5 ms on the chain, the master's otherwise. -/
def execHoldoverTimeout (dt : Nat) (s : State) : Step :=
  let s := s.advance dt
  let wait := if s.clock.state = 1 then us 250000 else 4 * us s.clock.syncUs
  let locked := decide (s.clock.state = 1) || decide (s.clock.state = 2)
  .next (if locked && decide (s.clock.lastSample + wait ≤ s.elapsed) then s.holdover else s)

/-- `RTC_WRITE`: the seconds carry while time passes, and the RTC takes them at the carry (R434). -/
def execRtcWrite (dt : Nat) (s : State) : Step := .next (s.advance dt)

/-- `TIME_SNAPSHOT` (R432). -/
def execTimeSnapshot (dt : Nat) (s : State) : Step :=
  let s := s.advance dt
  .next { s with host := { s.host with snap := s.time80, snapSeq := (s.host.snapSeq + 1) % 65536 } }

/-- `TPO_ARM` (R449). -/
def execTpoArm (k : Fin 4) (mode : Fin 3) (s : State) : Step :=
  .next ((s.wr (Key.tpoMode k) mode).pulseWritten k true)

/-- `TPO_PARAM_WRITE` (R449); the ranges of Table 4-6 hold the period and the width. -/
def execTpoParamWrite (k : Fin 4) (start : Time80) (periodNs widthNs : Nat) (s : State) : Step :=
  let period := max 1000 (min 1000000000 periodNs)
  let width := max 8 (min (period - 8) widthNs)
  if 1000000000 ≤ start.ns then .next s
  else
    let s := ((s.wr (Key.tpoStart k) (timeRaw { sec := start.sec % 2 ^ 48, ns := start.ns })).wr (Key.tpoPeriodNs k) period).wr
      (Key.tpoWidthNs k) width
    .next (s.pulseWritten k false)

/-- `TPO_RISE` (R448). -/
def execTpoRise (k : Fin 4) (dt : Nat) (s : State) : Step := .next ((s.advance dt).pulseFire k)

/-- `TPO_FALL` (R448, R449). -/
def execTpoFall (k : Fin 4) (dt : Nat) (s : State) : Step :=
  let s := s.advance dt
  .next (match (s.pulse k).fallAt with
    | some f => if f ≤ s.elapsed then s.pulseFall k else s
    | none => s)

end Sys2Proof.Machine
end

