-- ==== Sys2Proof/Machine/Tree.lean ====
section
/-! DEFINITION. Tree images: header and image checks, bank states, start-up selection, the seat window (Device
Firmware: Tree Images and Seat Window). -/

namespace Sys2Proof.Machine

/-- Replace bank b. -/
def State.setBank (s : State) (b : Nat) (x : Bank) : State :=
  if b = 1 then { s with tree := { s.tree with b := x } } else { s with tree := { s.tree with a := x } }

/-- The bank that the cores do not run. -/
def State.idleBank (s : State) : Nat := 1 - min 1 s.runBank

/-- `VERSION` of a header. -/
def imageVersion (im : Bytes) : Nat := fieldLe im 8 4

/-- `IMAGE_LEN` of a header. -/
def imageLen (im : Bytes) : Nat := fieldLe im 24 4

/-- `TREE_VERSION_A` and `TREE_VERSION_B` (R422). -/
def Bank.version (b : Bank) : Nat :=
  match b.st with
  | .blank | .staging => 0
  | .staged | .armed | .trial | .seated | .rejected => imageVersion b.image

/-! ### Header (R420, R421) -/

/-- `MAGIC`, `FORMAT` and `HEADER_CRC`. -/
def headerMagic (h : Bytes) : Bool :=
  slice h 0 4 == [0x54#8, 0x52#8, 0x45#8, 0x45#8] && fieldLe h 4 2 == 1 && Crypto.crc32c (slice h 0 252) == fieldLe h 252 4

/-- Ranges of Table 16-2. -/
def headerRanges (h : Bytes) : Bool :=
  let level := fieldLe h 12 1
  let n := imageLen h
  fieldLe h 6 2 == 0 && imageVersion h != 0 && decide (1 ≤ level) && decide (1 ≤ fieldLe h 13 1 ∧ fieldLe h 13 1 ≤ level)
    && decide (level ≤ fieldLe h 14 1) && fieldLe h 15 1 == 0 && decide (fieldLe h 16 2 ≤ fieldLe h 18 2)
    && decide (512 ≤ n ∧ n ≤ 16777216) && n % 64 == 0 && decide (256 ≤ fieldLe h 28 4 ∧ fieldLe h 28 4 + 4 ≤ n)
    && fieldLe h 28 4 % 4 == 0 && (slice h 128 124).all (· == 0#8)

/-- `SIGNATURE` over bytes 0 to 63, under an image key. -/
def headerSigned (key : BitVec 512) (h : Bytes) : Bool := Crypto.ecdsaVerify (beBytes 64 key.toNat) (slice h 0 64) (slice h 64 64)

/-- The silicon revision is served. -/
def State.siliconOk (s : State) (h : Bytes) : Bool :=
  decide (fieldLe h 16 2 ≤ s.rd Key.idSiliconRev ∧ s.rd Key.idSiliconRev ≤ fieldLe h 18 2)

/-- Reason of Table 16-5 for which a first block is refused. -/
def State.headerBad (s : State) (h : Bytes) : Option Nat :=
  if h.length ≠ 256 then some 1
  else if !headerMagic h then some 2
  else if !headerRanges h then some 3
  else if !s.siliconOk h then some 4
  else if !headerSigned s.tree.imageKey h then some 5
  else none

/-- The check of R424. -/
def State.imageOk (s : State) (im : Bytes) : Bool :=
  headerMagic im && headerSigned s.tree.imageKey im && Crypto.sha256 ((im.take (imageLen im)).drop 256) == slice im 32 32

/-- Post with the source of the tree image objects. -/
def State.treePost (s : State) (c : Err) (arg : Nat := 0) (arg2 : Nat := 0) : State := s.post c 0x5200 arg arg2

/-- The first block of a `TREE_IMAGE` transfer (R421 items 1 and 2); tells whether it passed. -/
def State.treeFirst (s : State) (h : Bytes) : State × Bool :=
  match s.headerBad h with
  | some r => (s.treePost .treeHeaderBad r (if h.length = 256 ∧ headerMagic h then imageVersion h else 0), false)
  | none =>
    let b := s.idleBank
    (s.setBank b { st := .staging, seat := (s.bank b).seat, image := h }, true)

/-- A later block is written to the inactive bank. -/
def State.treeBlock (s : State) (off : Nat) (bs : Bytes) : State :=
  let b := s.idleBank
  s.setBank b { s.bank b with image := splice (s.bank b).image off bs }

/-- The block with LAST, ending at an offset (R421 item 4); tells whether the image is whole. -/
def State.treeLast (s : State) (stop : Nat) : State × Bool :=
  let b := s.idleBank
  let x := s.bank b
  if stop ≠ imageLen x.image then (s.treePost .treeHeaderBad 7 (imageVersion x.image), false)
  else if Crypto.sha256 ((x.image.take (imageLen x.image)).drop 256) ≠ slice x.image 32 32 then
    (s.treePost .treeHeaderBad 6 (imageVersion x.image), false)
  else (s.setBank b { x with st := .staged }, true)

/-! ### Start-up selection (R423, R424) -/

/-- Note a code for R65. -/
def State.treeNote (s : State) (n : TreeNote) : State := { s with tree := { s.tree with notes := s.tree.notes ++ [n] } }

/-- A trial has failed. -/
def State.endTrial (s : State) (b : Nat) : State :=
  let x := s.bank b
  if x.st = .trial then
    ((s.setBank b { x with st := .rejected }).bump Key.treeFallbacks).treeNote (.fallback (imageVersion x.image))
  else s

/-- Bank b is started. -/
def State.runNow (s : State) (b : Nat) : State :=
  let s := s.wr Key.treeActiveBank b
  { s with tree := { s.tree with rom := false } }

/-- A bank whose check fails is rejected. -/
def State.rejectBank (s : State) (b : Nat) : State :=
  let x := s.bank b
  (s.setBank b { x with st := .rejected }).treeNote (.bootBad b (imageVersion x.image))

/-- Try the banks of a list, best first. -/
def State.trySeated (s : State) : List Nat → State
  | [] => { s with tree := { s.tree with rom := true } }
  | b :: rest => if s.imageOk (s.bank b).image then s.runNow b else (s.rejectBank b).trySeated rest

/-- Seated banks, the higher seat sequence first. -/
def State.seatedBanks (s : State) : List Nat :=
  let l := [0, 1].filter (fun b => (s.bank b).st == .seated)
  if l.length = 2 ∧ (s.bank 0).seat < (s.bank 1).seat then [1, 0] else l

/-- The boot ROM selects a bank (R424). -/
def State.treeSelect (s : State) : State :=
  let s := { s with tree := { s.tree with window := none, wiping := none } }
  let s := (s.endTrial 0).endTrial 1
  match [0, 1].find? (fun b => (s.bank b).st == .armed) with
  | some b =>
    if s.imageOk (s.bank b).image then (s.setBank b { s.bank b with st := .trial }).runNow b
    else let s := s.rejectBank b; s.trySeated s.seatedBanks
  | none => s.trySeated s.seatedBanks

/-- R65 completes: the seat window opens in a trial, the switch run ends, and the noted codes are posted; in the boot ROM no image runs,
and they wait for one (R425, R427, R429). -/
def State.treeUp (s : State) : State :=
  let b := s.runBank
  let s := if !s.tree.rom ∧ (s.bank b).st = .trial then
      { s with tree := { s.tree with window := some (s.elapsed, s.rd Key.seatWindowS) } }
    else s
  let s := match s.tree.switching with
    | some (q, t) =>
      let s := s.setRes Key.treeSwitchRes { seq := q, outcome := 0, busy := true, code := 0, data := [] }
      let s := s.resEnd Key.treeSwitchRes (if b = t ∧ !s.tree.rom then 0 else 1)
      { s with tree := { s.tree with switching := none } }
    | none => s
  let notes := if s.tree.rom then [] else s.tree.notes
  let s := if s.tree.rom then s else { s with tree := { s.tree with notes := [] } }
  s.each notes (fun s n => match n with
    | .bootBad k v => s.treePost .treeBootBad k v
    | .fallback v => s.treePost .treeFallback v s.treeVersion)

/-! ### Switching (R425, R426) -/

/-- The levels of a new image and of the partners of the links in UP agree (R426). -/
def State.switchCompatible (s : State) (im : Bytes) : Bool :=
  let level := fieldLe im 12 1
  let ok (up : Bool) (p : Option LinkMsg) : Bool :=
    match p with
    | some m => !up || decide (fieldLe im 13 1 ≤ m.level ∧ m.level ≤ fieldLe im 14 1 ∧ m.minPartner ≤ level ∧ level ≤ m.maxPartner)
    | none => true
  ok (s.rd (Key.linkState 0) == 3) s.chain.portUp.partner && ok (s.rd (Key.linkState 1) == 3) s.chain.portDn.partner

/-- The first failing check of R425. -/
def State.switchBad (s : State) : Option Nat :=
  let x := s.bank s.idleBank
  let pending : Bool := match s.dict.txn with
    | some t => t.phase != .opened
    | none => false
  let ready := x.st == .staged || x.st == .seated || x.st == .rejected
  if s.tree.window.isSome then some 3
  else if pending then some 4
  else if !ready || !s.imageOk x.image then some 1
  else if s.treeVersion < fieldLe x.image 20 4 || !s.switchCompatible x.image then some 2
  else none

/-- The checks pass: the bank is armed and the run is kept across the reset. -/
def State.armSwitch (s : State) : State :=
  let b := s.idleBank
  let s := (s.resBegin Key.treeSwitchRes).setBank b { s.bank b with st := .armed }
  { s with tree := { s.tree with switching := some ((s.res Key.treeSwitchRes).seq, b) } }

/-! ### Seat window (R427, R428) -/

/-- The seat window has expired in an earlier cycle: the device is on its way into the fallback (R428). -/
def State.seatLate (s : State) : Bool :=
  match s.tree.window with
  | some (a, n) => decide (a + ms (1000 * n) < s.elapsed)
  | none => false

/-- `SEAT_OK`; in the cycle of the expiry it goes before it, later it finds the device resetting (R428). -/
def State.seat (s : State) : State :=
  if s.seatLate then s
  else match s.tree.window with
  | none => s.resEnd Key.seatOkRes 1
  | some _ =>
    let b := s.runBank
    let q := max s.tree.a.seat s.tree.b.seat + 1
    let s := s.setBank b { s.bank b with st := .seated, seat := q }
    let s := { s with tree := { s.tree with window := none } }
    (s.treePost .treeSeated s.treeVersion q).resEnd Key.seatOkRes 0

/-- The row `SEAT_OK`. -/
def execSeatOk (s : State) : Step := .next (if s.cmdBlocked Key.seatOkRes then s else s.seat)

/-- The seat window has expired. -/
def State.seatExpired (s : State) : Bool :=
  match s.tree.window with
  | some (a, n) => decide (a + ms (1000 * n) ≤ s.elapsed)
  | none => false

/-! ### Wipe (R419) -/

/-- A transfer to `TREE_IMAGE` is open. -/
def State.treeOpen (s : State) : Bool := s.dict.transfers.any (fun t => t.key == Key.treeImage)

/-- `BANK_WIPE_CMD` b: the erased bank is BLANK from the start of the erasure, so that no part of its image can start (log 143). -/
def State.wipe (s : State) (b : Nat) : State :=
  let running := b == s.runBank && !s.tree.rom
  if running || s.tree.window.isSome || (b == s.idleBank && s.treeOpen) then s.resEnd Key.bankWipeRes 1
  else
    let s := (s.resBegin Key.bankWipeRes).setBank b { s.bank b with st := .blank, image := [] }
    { s with tree := { s.tree with wiping := some b } }

/-- `BANK_WIPE`. -/
def execBankWipe (b : Fin 2) (s : State) : Step := .next (if s.cmdBlocked Key.bankWipeRes then s else s.wipe b)

/-- `BANK_WIPE_DONE`: the run of an erasure ends. -/
def execBankWipeDone (s : State) : Step :=
  .next (match s.tree.wiping with
    | none => s
    | some _ => { s.resEnd Key.bankWipeRes 0 with tree := { s.tree with wiping := none } })

end Sys2Proof.Machine
end

