-- ==== Sys2Proof/Machine/Startup.lean ====
section
/-! DEFINITION. Starts and resets: the values of R65, what survives (Table 21-5), the cold start and the warm reset
(R540, R541, R547 to R549). -/

namespace Sys2Proof.Machine

/-! ### Start-up values (R65) -/

/-- Access class of a subentry. -/
def accessOf (k : Nat) : Dict.Acc :=
  match Dict.find (k / 256) (k % 256) with
  | some r => r.acc
  | none => .const

/-- Numbers that stand in non-volatile memory of their own: `TREE_FALLBACKS` in the update journal (R428), and
`TAG_PASSWORD` in bank C (R120). -/
def lastingNum (k : Nat) : Bool := k == Key.treeFallbacks || k == Key.tagPassword

/-- Byte strings that stand in non-volatile memory of their own: the Stamp records (R151). -/
def lastingDom (k : Nat) : Bool := [0, 1, 2, 3].any (fun p => k == Key.stampPort p)

/-- Read-only values that start anew at every reset, by the rules of their blocks: port and tile states and placements, the
objects of Table 4-14 (R290), of the Bridle and Halter (R348), campaigns (R398), the tag (R526), `SRC_EVENTS` (R492). Log 50
names what the other read-only values do. -/
def restartsRo (k : Nat) : Bool :=
  let i := k / 256
  let b := k % 256
  (decide (0x2000 ≤ i ∧ i ≤ 0x2003) && decide (b ≤ 0x0A)) || (decide (0x2100 ≤ i ∧ i ≤ 0x213F) && decide (b ≤ 0x07))
    || (decide (0x2200 ≤ i ∧ i ≤ 0x220F) && decide (b ≤ 0x05)) || decide (0x4000 ≤ i ∧ i ≤ 0x407F)
    || i == 0x4200 || i == 0x4201 || i == 0x5100 || decide (0x5110 ≤ i ∧ i ≤ 0x511F)
    || k == Key.tagState || decide (0x7100 ≤ i ∧ i ≤ 0x71FF) || (i == 0x1401 && decide (5 ≤ b ∧ b ≤ 7))

/-- Stored numbers laid over others. -/
def overlay (base stored : KMap Nat) : KMap Nat := stored.foldl (fun m p => KMap.setD m (dflt p.1) p.1 p.2) base

/-- Numbers of the stored defaults. -/
def State.storedNums (s : State) : KMap Nat :=
  match s.dict.bankC with
  | some c => c.nums
  | none => []

/-- Byte strings of the stored defaults. -/
def State.storedDoms (s : State) : KMap Bytes :=
  match s.dict.bankC with
  | some c => c.doms
  | none => []

/-- Numbers after a cold start: battery-backed values, else stored defaults, else built-in defaults (R65). -/
def State.coldNums (s : State) : KMap Nat :=
  let base := s.dict.nums.filter (fun p => lastingNum p.1)
  let stored := s.storedNums.filter (fun p => accessOf p.1 == .rw || accessOf p.1 == .rwe || accessOf p.1 == .rwp)
  overlay (overlay base stored) (if s.vbat.valid then s.vbat.rwp.filter (fun p => accessOf p.1 == .rwp) else [])

/-- Numbers after a warm reset: `RW`, `RWE`, `WO` and `CMD` values by the list without its first item; `RWP` values stay
(R65). -/
def State.warmNums (s : State) : KMap Nat :=
  let stays (k : Nat) : Bool :=
    lastingNum k || (match accessOf k with
      | .rwp | .const => true
      | .ro => !restartsRo k
      | .rw | .wo | .rwe | .cmd | .res => false)
  overlay (s.dict.nums.filter (fun p => stays p.1))
    (s.storedNums.filter (fun p => accessOf p.1 == .rw || accessOf p.1 == .rwe))

/-- Byte strings after a reset. -/
def State.startDoms (s : State) : KMap Bytes :=
  s.storedDoms.foldl (fun m p => KMap.setD m [] p.1 p.2) (s.dict.doms.filter (fun p => lastingDom p.1))

/-- `PORT_TX_LIMIT_DBM` of a port without a stored default is the port's Stamp maximum (Table 4-7). -/
def State.txLimits (s : State) : State :=
  if s.dict.bankC.isSome then s
  else s.each [0, 1, 2, 3] (fun s p => s.wr (Key.portTxLimitDbm p) (toRaw 8 (s.stampMax p)))

/-- A locked Stamp record whose CRC fails is posted at each reset (R153). -/
def State.stampCheck (s : State) : State :=
  s.each [0, 1, 2, 3] (fun s p =>
    if s.fuses.locked.isSome && !stampCrcOk (s.stampBytes p) then s.post .stampCrcBad (0x2301 + p) else s)

/-- Content check of `CAL_COEFF` of port p (R149). -/
def State.calCoeffOk (s : State) (p : Nat) (d : Bytes) : Bool :=
  decide (d.length = 2048) && fieldLe d 0 2 == 1 && fieldLe d 2 1 == p && slice d 8 8 == beBytes 8 s.ident.eui64
    && Crypto.crc32c (d.take 2044) == fieldLe d 2044 4

/-- Ports take the centre that their object names; coefficients that pass their check spare the start-up calibration
(R133, R148, R149). -/
def State.portsStart (s : State) : State :=
  s.each [0, 1, 2, 3] (fun s p =>
    let good := s.calCoeffOk p (s.dom (Key.calCoeff p))
    s.setPort p { (s.port p) with centre := s.rd (Key.portCentreKhz p), calibrated := good, since := s.elapsed, lastCal := s.elapsed })

/-- The cores after a reset: 0 to 11 run the vendor firmware, 12 to 15 are off (R480). The boot ROM that finds no image releases no core
(R424). -/
def State.coresStart (s : State) : State :=
  let entry := s.runField 28 4
  let s := s.each (List.range 12) (fun s n => (s.setCore n (Core.firmware entry)).wr (Key.coreState n) (if s.tree.rom then 0 else 1))
  let s := s.each [12, 13, 14, 15] (fun s n => s.wr (Key.coreState n) 0)
  let s := s.each (List.range 16) (fun s n => s.setIsland n (decide (n < 12)))
  s.setPower { s.power with watchdog := s.elapsed }

/-! ### The battery-backed registers (R550, R551) -/

/-- Contents of the battery-backed registers after they were cleared. -/
def Vbat.cleared : Vbat :=
  { valid := false, clean := false, tamper := false, cause := 0, shutSeq := 0, rtcAtCommit := 0, rtc := 0, rtcFrac := 0, root := none,
    rootGen := 0, epochE := 0, rwp := [], tamperLast := 0, tamperEvents := 0, vendor := [], low := false }

/-- RWP subentries in the order of their records at 256 + 16k (Table 21-7; the order is log 151). -/
def rwpKeys : List Nat := [Key.chainPin, Key.tamperEnable, Key.tagEnable, Key.tagAuth, Key.seatWindowS]

/-- A word whose parity fails reverts as on loss of VBAT, for the item that holds it (R550, Table 21-7); w is the word's place. -/
def Vbat.wordLost (v : Vbat) (w : Nat) : Vbat :=
  if w = 1 then { v with valid := false, clean := false, tamper := false, cause := 0, root := none }
  else if w = 2 then { v with shutSeq := 0 }
  else if w = 3 ∨ w = 4 then { v with rtcAtCommit := 0 }
  else if 16 ≤ w ∧ w ≤ 23 then { v with root := none }
  else if w = 24 then { v with rootGen := 0, epochE := 0 }
  else if w = 25 then { v with tamperLast := 0 }
  else if w = 26 then { v with tamperEvents := 0 }
  else if 64 ≤ w ∧ w < 512 then
    match rwpKeys[(w - 64) / 4]? with
    | some k => { v with rwp := KMap.drop v.rwp k }
    | none => v
  else if 1024 ≤ w then { v with vendor := v.vendor.filter (fun p => p.1 / 4 + 1024 != w) }
  else v

/-- The errors of the check are counted and posted (Table 1-4). -/
def State.vbatPosts (s : State) (bad : List (Fin 2048)) : State := s.each bad (fun s w => s.memFound 12 .uncorrectable (4 * w.val))

/-! ### The main domains go down -/

/-- What the main domains hold after they were in reset or without supply; what stands outside them stays: fuses, MRAM, VBAT,
the powered expanders, the pins, the always-on detector's `TAG_FD_WAKE`, and the time unit's count until the next cold start (Table
21-5, R530, R542 step 7, R545, R547). -/
def State.mainDown (s : State) : State :=
  let z := State.reset
  { z with
    pending := s.pending, draws := s.draws, out := s.out, ident := s.ident, fuses := s.fuses, clock := s.clock, vbat := s.vbat, tree := s.tree
    pins := { z.pins with headSel := s.pins.headSel, shutdownLow := s.pins.shutdownLow, resetLow := s.pins.resetLow, fdLow := s.pins.fdLow }
    dict := { z.dict with nums := s.dict.nums.filter (fun p => lastingNum p.1 || p.1 == Key.tagFdWake),
                          doms := s.dict.doms.filter (fun p => lastingDom p.1), ready := false, bankC := s.dict.bankC }
    power := { z.power with moving := none, start := none, shutdown := s.power.shutdown, cause := s.power.cause, rails := s.power.rails,
                            coreIslands := Vector.replicate 16 { phase := .off, since := s.elapsed, want := none } }
    keeper := { z.keeper with slots := [], unreported := s.keeper.unreported }
    sb := { z.sb with mem := s.sb.mem }
    concho := { z.concho with records := s.concho.records, flagLines := s.concho.flagLines, fdAt := s.concho.fdAt,
                              field := s.concho.field, goneAt := s.concho.goneAt }
    cores := { z.cores with core := [] }, host := { z.host with cutSince := none } }

/-! ### Cold start (R540) -/

/-- Cause of a cold start (Table 21-6, R549). -/
def State.coldCause (s : State) : Nat :=
  match s.power.cause with
  | some c => c
  | none => if !s.vbat.valid then 3 else if s.vbat.clean then 1 else 2

/-- Chain time at a cold start (R434). -/
def State.coldClock (s : State) : Clock :=
  { State.reset.clock with sec := if s.vbat.valid then s.vbat.rtc else 0 }

/-- Steps 1 to 3 of Table 21-2: the device starts, and R65 has not completed. bad: words of the battery-backed registers whose parity
fails at the check of step 2 (R550). -/
def State.coldBegin (s : State) (bad : List (Fin 2048)) : State :=
  let s := { s with vbat := bad.foldl (fun (v : Vbat) (w : Fin 2048) => v.wordLost w.val) s.vbat }
  let cause := s.coldCause
  let lost := !s.vbat.valid
  let s := s.mainDown
  let s := { s with clock := s.coldClock }
  let s := s.setPower { s.power with rails := true, shutdown := none, cause := none, start := some { cold := true, cause := cause, vbatLost := lost, since := s.elapsed } }
  let s := { s with dict := { s.dict with nums := s.coldNums, doms := s.startDoms } }
  let s := (s.wr Key.stampLocked (if s.fuses.locked.isSome then 1 else 0)).wr Key.idStraps (if s.pins.headSel then 1 else 0)
  let s := s.treeSelect
  (((s.vbatPosts bad).stampCheck.txLimits.portsStart.keeperCold.conStart true).resetCinch).coresStart

/-- Earliest time from the reference to step 4 of Table 21-2, in cycles: the fuses of a cold start, 0.5 ms per MiB of the image, and
1 ms. -/
def State.startLeast (s : State) (cold : Bool) : Nat :=
  (if cold then us 300 else 0) + us 500 * (if s.tree.rom then 0 else s.runField 24 4) / 2 ^ 20 + ms 1

/-- Step 4 can be reached: no earlier than Table 21-2 has it. -/
def State.startWaited (s : State) : Bool :=
  match s.power.start with
  | some st => decide (st.since + s.startLeast st.cold ≤ s.elapsed)
  | none => false

/-- R65 completes (Table 21-2 step 4): requests are served, the state is IDLE on its way to RUN, the scheduler is built, and
ports are raised (R68, R133, R253, R541). -/
def State.startDone (s : State) : State :=
  match s.power.start with
  | none => s
  | some st =>
    let s := { s with dict := { s.dict with ready := true },
                      vbat := { s.vbat with valid := true, clean := false, cause := st.cause } }
    let s := s.setPower { s.power with moving := some 4, pending := none, goal := none, dwellUntil := s.elapsed, movedAt := s.elapsed }
    let s := (s.askRebuild 1).setSched { (s.askRebuild 1).girth.sched with ms := s.nowMs, dayStart := s.rd Key.schedDayStartS }
    s.treeUp.placeAll.pathCheck.conSense

/-- RUN is reached at the end of a start: `RESET_CAUSE`, and `VBAT_LOST` (R549, R551). -/
def State.startPosts (s : State) : State :=
  match s.power.start with
  | none => s
  | some st =>
    let s := s.setPower { s.power with start := none }
    let s := s.post .resetCause 0x1400 st.cause (if st.cold then 0 else 1)
    if st.vbatLost then s.post .vbatLost 0x1400 else s

/-! ### Warm reset (R547) -/

/-- The RF ports and tiles ramp down and start anew, their front-end pins at high impedance (R127); the fuses stay. -/
def State.radioWarm (s : State) : State :=
  let s := s.each [0, 1, 2, 3] (fun s p => s.portStop p)
  { s with radio := { State.reset.radio with dutyMin := s.radio.dutyMin }, pins := { s.pins with fem := State.reset.pins.fem } }

/-- Cores stop at once; each that loses stores is posted (R474, R480). -/
def State.coresWarm (s : State) : State :=
  s.each (List.range 16) (fun s n =>
    let lost := (s.core n).stores.length
    let s := s.coreWarm n
    if lost = 0 then s else s.corePost .coreStoresLost n 1 lost 0)

/-- Node records are kept; what they await is not (Table 21-5, R253). -/
def State.girthWarm (s : State) : State :=
  let recs := s.girth.recs.map (fun p => (p.1, { p.2 with ack := none, cells := [] }))
  { s with girth := { s.girth with recs := recs, forwards := [], casts := [], sched := State.reset.girth.sched } }

/-- The dictionary service: open transfers end with `STAGE_LOST`, runs, subscriptions and the open transaction end (R81, R82,
R86, Table 3-8); logs, stored responses and outcomes stay. -/
def State.dictWarm (s : State) : State :=
  let s := s.each s.dict.transfers (fun s t => s.post .stageLost 0x1202 (t.key / 256))
  let s := s.each (s.dict.held ++ s.host.mailboxHeld) (fun s x => s.credit x.1 1 x.2)
  let s := { s with host := { s.host with mailboxWait := [], mailboxHeld := [] } }
  { s with dict := { s.dict with nums := s.warmNums, doms := s.startDoms, results := [], ready := false, waiting := [], held := [], subs := [],
                                 transfers := [], txn := none, graces := [], storing := none, asked := [] } }

/-- A warm reset for a cause of Table 21-6, up to step 3 of Table 21-2. A start in progress begins anew, and a shutdown that
had not committed is held (R541). -/
def State.warmReset (s : State) (cause : Nat) : State :=
  let cut := [0, 1, 2, 3].filter (fun p => (s.res (Key.portStateRes p)).busy)
  let moved := (s.res Key.pwrStateRes).busy
  let s := s.radioWarm.coresWarm
  let s := s.girthWarm.dictWarm
  let s := s.each cut (fun s p => s.setRes (Key.portStateRes p) { seq := 0, outcome := 0, busy := false, code := 2, data := [] })
  let s := if moved then s.setRes Key.pwrStateRes { seq := 0, outcome := 0, busy := false, code := 1, data := [] } else s
  let held := s.power.held || s.power.shutdown.isSome
  let s := s.setPower { s.power with moving := none, pending := none, goal := none, shutdown := none, held := held,
                                     start := some { cold := false, cause := cause, vbatLost := false, since := s.elapsed } }
  let s := { s with pulses := State.reset.pulses, pins := { s.pins with tpo := State.reset.pins.tpo }, lacing := { s.lacing with camps := [] },
                    curb := State.reset.curb, tables := { s.tables with windows := [] },
                    cores := { s.cores with windows := [], pushed := [], stale := [] },
                    chain := { s.chain with opens := [] } }
  let s := s.resetTables.resetStraps
  let s := { s with har := { s.har with leaving := [] } }
  let s := (s.resetBuckle.hifReset.resetCon.conStart false).wr Key.pwrState 3
  (s.treeSelect.stampCheck.txLimits.portsStart.keeperWarm.resetCinch).coresStart

/-- A device reset by one of its own causes: while it runs or starts, not while it is down. -/
def State.ownReset (s : State) (cause : Nat) : State :=
  if s.dict.ready || s.power.start.isSome then s.warmReset cause else s

end Sys2Proof.Machine
end

