-- ==== Sys2Proof/Machine/Arch.lean ====
section
/-! DEFINITION. The whole device: the background scrubber and the bridge between the dies (R8 to R11). -/

namespace Sys2Proof.Machine

/-- A free or held record takes the quarantine of Table 1-4: its node is not scheduled. -/
def State.quarantine (s : State) (r : Nat) : State :=
  let x := s.nrec r
  if x.isFree then s else (s.setRec r { x with quarantined := true }).reschedule r

/-- The frame at place i of output queue q = 8h + c loses a word and is dropped (Table 1-4). -/
def State.loseFrame (s : State) (q i : Nat) : State :=
  let x := s.outQ (q / 8) (q % 8)
  match x.frames[i]? with
  | some f => (s.setOutQ (q / 8) (q % 8) { x with frames := removeAt i x.frames }).qDrop (q / 8) f
  | none => s

/-- A record of bank C is lost: the object reverts to its built-in default at once, and so does its stored default (Table 1-4, log
68). -/
def State.bankLost (s : State) (k : Nat) : State :=
  let stored : Bool := match s.dict.bankC with
    | some c => (KMap.find c.nums k).isSome || (KMap.find c.doms k).isSome
    | none => false
  let s := if lastingNum k || (stored && (KMap.find s.dict.nums k).isSome) then s.wr k (dflt k)
    else if lastingDom k || stored then s.setDom k [] else s
  match s.dict.bankC with
  | some c => { s with dict := { s.dict with bankC := some { c with nums := KMap.drop c.nums k, doms := KMap.drop c.doms k } } }
  | none => s

/-- The calendar entry at place i of the pool is dropped; a node's cells are entered anew by a rebuild of cause 4, any other's
requester asks again at the next tick (R250, R253, Table 1-4). -/
def State.entryLost (s : State) (i : Nat) : State :=
  let c := s.girth.sched
  match c.wheel[i]? with
  | none => s
  | some e =>
    let s := s.setSched { c with wheel := removeAt i c.wheel }
    match nodeOf e.due with
    | some r => (s.setSched { s.girth.sched with lost := s.girth.sched.lost ++ [r] }).askRebuild 4
    | none => s

/-- Overflow entry of the Halter at place p of the miscellaneous SRAM (R347). -/
def State.overflowLost (s : State) (p : Nat) : State :=
  match KMap.find s.tables.overflow p with
  | some o => s.halterParity (o.bucketHi * 1024 + p / 8) (.overflow (p % 8))
  | none => s.memFound 9 .uncorrectable p

/-- The device's response to an uncorrectable error (Table 1-4). unit names what the word belongs to: a node record; a frame as
65,536 times its queue plus its place; a calendar entry's place in the pool; a Keeper slot; a source block as 16 times its number plus
the campaign; an overflow entry; a subentry's key in bank C. -/
def State.memLost (s : State) (m : Mem) (unit addr : Nat) : State :=
  match m with
  | .nodeRecords => (s.memFound 0 .uncorrectable addr).quarantine (unit % 16384)
  | .coreLocal => s.memFound 2 .uncorrectable addr
  | .harnessBuffer => (s.memFound 3 .uncorrectable addr).loseFrame (unit / 65536) (unit % 65536)
  | .calendar =>
    (s.memFound 6 .uncorrectable addr).entryLost unit
  | .keeper => (s.memFound 7 .uncorrectable addr).slotError (unit % 4096)
  | .lacing => (s.memFound 8 .uncorrectable addr).laceRestart (unit % 16) (unit / 16)
  | .misc => s.overflowLost unit
  | .mramAB => s.memFound 10 .uncorrectable addr
  | .mramC => (s.memFound 11 .uncorrectable addr).bankLost unit
  | .sampleHistory | .halter | .bridle | .vbat => s

/-- Row of a memory that SECDED protects, so that the scrubber reads it (R10, Table 1-4). -/
def scrubbed : Mem → Option Nat
  | .nodeRecords => some 0
  | .coreLocal => some 2
  | .harnessBuffer => some 3
  | .calendar => some 6
  | .keeper => some 7
  | .lacing => some 8
  | .misc => some 9
  | .mramAB => some 10
  | .mramC => some 11
  | .sampleHistory | .halter | .bridle | .vbat => none

/-- `SCRUB_PASS`: one SECDED word is read and checked. A single-bit error is corrected and written back, unless a functional
write meets the word in the same cycle (clash); either way the memory then holds what the write or the correction gives, and the
error counts (R9, R10). -/
def execScrubPass (mem : Mem) (addr unit : Nat) (err : MemErr) (_clash : Bool) (s : State) : Step :=
  .next (match scrubbed mem with
    | none => s
    | some k =>
      match err with
      | .none => s
      | .single => s.memFound k .single addr
      | .uncorrectable => s.memLost mem unit addr)

/-- `BRIDGE_FLIT_CRC_FAIL`: the flit is replayed; after 16 replays of it in a row the device resets for cause 7 (R11). replays:
how many times this flit has been replayed before this failure. -/
def execBridgeFlitCrcFail (replays : Nat) (s : State) : Step := .next (if 16 ≤ replays then s.ownReset 7 else s)

end Sys2Proof.Machine
end

