-- ==== Sys2Proof/Machine/ChainEnum.lean ====
section
/-! DEFINITION. Links, enumeration, maps and head roles of the chain (R26 to R28, R35 to R50). -/

namespace Sys2Proof.Machine

/-- Post a status of a chain port: the port's object is SOURCE (R58, log 53). -/
def State.chainPost (s : State) (c : Err) (p : Side) : State := s.post c (0x1101 + sideNum p)

/-- The device runs or starts, so its chain ports have power and clock. -/
def State.alive (s : State) : Bool := s.dict.ready || s.power.start.isSome

/-- The link of a port enters a state (Tables 2-1, 19-1). -/
def State.setLink (s : State) (p : Side) (x : Nat) : State := s.wrEdge (Key.linkState (sideNum p)) x (9 + sideNum p)

/-- Replace the chain block. -/
def State.setChain (s : State) (c : Chain) : State := { s with chain := c }

/-! ### Maps (R37, R43, R46, R47, R50) -/

/-- This device's own entry of the map. -/
def State.ownEntry (s : State) (gen : Nat) : TopoEntry :=
  { addr := s.addr, eui := s.ident.eui64, role := s.rd Key.chainRole, upLink := s.linkUp .up, dnLink := s.linkUp .dn,
    present := true, gen := gen }

/-- The head marks the devices that no path of links reaches as absent; their addresses stay reserved (R43). -/
def State.markAbsent (s : State) : State :=
  let t := s.chain.topo
  let seen (e : TopoEntry) : Bool := e.eui == s.ident.eui64 || e.addr == 0xFF || (s.routeTo e.addr).isSome
  { s with chain := { s.chain with topo := { t with map := t.map.map (fun e => { e with present := e.present && seen e }) } } }

/-- Values that follow a map: count, ring, and the comparison of pointer copies (R56, R319). -/
def State.topoValues (s : State) : State :=
  let t := s.chain.topo
  let n := ((topoLive t).filter (fun e => decide (e.addr ≤ 63))).length
  let s := (s.wr Key.chainCount n).wr Key.chainRing (if t.ring then 1 else 0)
  if 16 < n then { s with sb := { s.sb with compare := true } } else s

/-- A device takes a map; routes follow it (R47, R574). -/
def State.takeMap (s : State) (t : Topo) : State := ({ s with chain := { s.chain with topo := t } }).topoValues.pathCheck

/-- The head takes a new map and broadcasts it in TOPO (R37, R50). -/
def State.giveMap (s : State) (t : Topo) : State :=
  let s := ({ s with chain := { s.chain with topo := { t with gen := t.gen + 1, head := s.addr } } }).markAbsent
  let s := s.topoValues.pathCheck
  s.sendChain dstAll 0 0 (16 + 16 * s.chain.topo.map.length) 0 (.topo (.map s.chain.topo))

/-- The links of one device in a map. -/
def linksOf (l : List TopoEntry) (addr : Nat) (up dn : Bool) : List TopoEntry :=
  l.map (fun e => if e.addr == addr && e.present then { e with upLink := up, dnLink := dn } else e)

/-- A link of this device changed: its own map follows, and the active head learns it in TOPO (R47, R50). -/
def State.linkReport (s : State) : State :=
  let t := s.chain.topo
  let t := { t with map := linksOf t.map s.addr (s.linkUp .up) (s.linkUp .dn) }
  if s.rd Key.chainRole = 1 then s.giveMap t
  else
    let s := ({ s with chain := { s.chain with topo := t } }).pathCheck
    let body := ChainBody.topo (.report s.addr (s.linkUp .up) (s.linkUp .dn))
    if s.addr = 0xFF then
      s.each [Side.dn, Side.up] (fun s p => if s.linkUp p then s.queueAt p (s.mkFrame dstHead 0 0 16 0 body) else s)
    else s.sendChain dstHead 0 0 16 0 body

/-! ### Links (Table 2-1) -/

/-- Lowest and highest partner level of the running image; the boot ROM accepts every level (R424, R426). -/
def State.partnerRange (s : State) : Nat × Nat := if s.tree.rom then (1, 255) else (s.runField 13 1, s.runField 14 1)

/-- Send a LINK frame with the credits to return; it needs no credits itself (R27, R31). -/
def State.linkTx (s : State) (p : Side) : State :=
  if 2 ≤ s.link p then
    let x := s.cport p
    let r := s.partnerRange
    let m : LinkMsg := { eui := s.ident.eui64, port := p, level := s.chainLevel, minPartner := r.1, maxPartner := r.2, credits := x.owed }
    (s.setCport p { x with owed := #v[0, 0, 0, 0] }).emit (.chain p (s.mkFrame dstAll 0 0 32 0 (.link m)))
  else s

/-- `LINK_SIGNAL_DETECTED` (Table 2-1). -/
def execLinkSignalDetected (p : Side) (s : State) : Step :=
  .next (if s.alive && s.link p == 0 then s.setLink p 1 else s)

/-- `LINK_LOCKED` (Table 2-1). -/
def execLinkLocked (p : Side) (s : State) : Step :=
  .next (if s.link p = 1 then (s.setLink p 2).linkTx p else s)

/-- `LINK_FRAME_TX` (R27). -/
def execLinkFrameTx (p : Side) (s : State) : Step := .next (s.linkTx p)

/-- Sums of two sets of credits, held at the partner's buffers. -/
def addCredits (a b : Vector Nat 4) : Vector Nat 4 :=
  Vector.ofFn (fun i => min (initialCredits.getD i 0) (a.getD i 0 + b.getD i 0))

/-- A LINK frame in HELLO: names, then levels, then UP (R26, R27). A condition is posted once per partner. -/
def State.linkHello (s : State) (p : Side) (m : LinkMsg) : State :=
  let x := s.cport p
  let same := match x.partner with
    | some q => q.eui == m.eui && q.port == m.port && q.level == m.level
    | none => false
  let r := s.partnerRange
  let s' := s.setCport p { x with partner := some m }
  if m.port = p then (if same then s' else s'.chainPost .wiringBad p)
  else if m.level < r.1 ∨ r.2 < m.level then (if same then s' else s'.chainPost .levelMismatch p)
  else
    let s := s.setCport p { ChainPort.down with partner := some m, credits := initialCredits }
    (s.setLink p 3).linkReport

/-- A LINK frame arrives (R26, R27, R31). -/
def State.linkRx (s : State) (p : Side) (m : LinkMsg) : State :=
  if s.link p = 2 then s.linkHello p m
  else if s.link p = 3 then
    let x := s.cport p
    s.setCport p { x with partner := some m, credits := addCredits x.credits m.credits }
  else s

/-- `LINK_FRAME_RX`. -/
def execLinkFrameRx (p : Side) (m : LinkMsg) (s : State) : Step := .next (s.linkRx p m)

/-- The frame set out from this device. -/
def frameOwn (f : ChainFrame) : Bool := f.hops == 64

/-- The link leaves for DOWN: partial and queued frames are lost, and frames in transit give the buffers back that they held at the
other port (Table 2-1, R31, R48, R50). -/
def State.linkFall (s : State) (p : Side) : State :=
  if s.link p = 0 then s
  else
    let lost := (s.cport p).out
    let s := s.each (lost.filter (fun f => !frameOwn f)) (fun s f => s.credit p.other f.lane (unitsOf f.length))
    let s := (s.setCport p ChainPort.down).setLink p 0
    let s := { s with dict := { s.dict with held := s.dict.held.filter (fun x => x.1 != p) } }
    let s := (s.bump (Key.linkDownEvents (sideNum p))).bump (Key.noRoute (sideNum p)) lost.length
    s.linkReport

/-- `LINK_DOWN`. -/
def execLinkDown (p : Side) (s : State) : Step := .next (s.linkFall p)

/-! ### Roles (R36, R44 to R46) -/

/-- The device becomes a standby head; a run of `CHAIN_ENUM_CMD` that it had ends failed. It is no longer the head of its own cold
start (R42). -/
def State.toStandby (s : State) : State :=
  let s := { s with chain := { s.chain with enumRun := none, headAt := s.elapsed, fullOwed := false } }
  ((s.wr Key.chainRole 2).wr Key.chainEnumState 0).resEndIfBusy Key.chainEnumRes 1

/-- Broadcast HEAD (R44). -/
def State.headSend (s : State) : State :=
  s.sendChain dstAll 0 0 16 0 (.head { addr := s.addr, rank := s.rank, relinquish := !s.host.linkUp })

/-- A map in which one device is the active head and a former one stands by. -/
def headIn (eui : Nat) (l : List TopoEntry) : List TopoEntry :=
  l.map (fun e => { e with role := if e.eui == eui then 1 else if e.role == 1 then 2 else e.role })

/-- A standby head takes over: its address stays, and it broadcasts TOPO and HEAD (R44, R52). -/
def State.takeover (s : State) : State :=
  let s := s.wr Key.chainRole 1
  let t := s.chain.topo
  (s.giveMap { t with map := headIn s.ident.eui64 t.map }).headSend

/-- `HEAD_MISS_TAKEOVER` (R44). -/
def execHeadMissTakeover (dt : Nat) (s : State) : Step :=
  let s := s.advance dt
  .next (if s.rd Key.chainRole = 2 ∧ s.host.linkUp ∧ s.chain.headAt + ms (s.rd Key.chainHeadMiss) ≤ s.elapsed then s.takeover else s)

/-- `HEAD_BROADCAST` (R44). -/
def execHeadBroadcast (s : State) : Step := .next (if s.rd Key.chainRole = 1 then s.headSend else s)

/-- `CHAIN_SWITCHOVER` (R44): on the active head it needs a standby head within reach, else it fails with CODE 1. On a device that
is no head, and on a standby head whose PCIe link is down, it fails with CODE 1 too (DESIGN CHOICE, log 109). -/
def State.switchover (s : State) : State :=
  let s := s.resBegin Key.chainSwitchoverRes
  if s.rd Key.chainRole = 1 then
    if s.headReached false then
      let s := s.sendChain dstAll 0 0 16 0 (.head { addr := s.addr, rank := s.rank, relinquish := true })
      s.toStandby.resEnd Key.chainSwitchoverRes 0
    else s.resEnd Key.chainSwitchoverRes 1
  else if s.rd Key.chainRole = 2 ∧ s.host.linkUp then s.takeover.resEnd Key.chainSwitchoverRes 0
  else s.resEnd Key.chainSwitchoverRes 1

/-- `CHAIN_SWITCHOVER`. -/
def execChainSwitchover (s : State) : Step := .next (if s.cmdBlocked Key.chainSwitchoverRes then s else s.switchover)

/-! ### Enumeration (R36 to R43) -/

/-- The lowest number from n to 63 whose bit is clear in the mask; 64 if there is none. -/
def freeFrom (mask n : Nat) : Nat :=
  match (List.range 64).find? (fun k => decide (n ≤ k) && !bitOf mask k) with
  | some k => k
  | none => 64

/-- The mask with one more bit set. -/
def markBit (mask k : Nat) : Nat := if bitOf mask k then mask else mask + 2 ^ k

/-- Addresses that a map reserves for absent devices (R37, R43). -/
def reservedOf (t : Topo) : List Nat := ((t.map.filter (fun e => !e.present)).map (·.addr)).filter (fun a => decide (a ≤ 63))

/-- A device that takes part in a pass forwards an enumeration frame, or turns it into DONE at the end (R37). -/
def State.enumForward (s : State) (p : Side) (onward back : ChainBody) : State :=
  if s.linkUp p.other then s.sendPort p.other onward else s.sendPort p back

/-- An enumeration ends: the head's new map, and the outcome of a run of `CHAIN_ENUM_CMD` (R37, R40, R43, R46). l lists the
devices in cabling order. -/
def State.enumEnd (s : State) (full ring : Bool) (count attempts code : Nat) (l : List TopoEntry) : State :=
  let old := s.chain.topo
  let gen := old.gen + 1
  let others := l.filter (fun e => e.eui != s.ident.eui64)
  let after (e : TopoEntry) : TopoEntry :=
    let kept := old.map.find? (fun o => o.eui == e.eui && o.addr == e.addr)
    { e with present := true, gen := match kept with
                                      | some o => o.gen
                                      | none => gen }
  let self := after (s.ownEntry gen)
  let found := match findIdxFrom (fun e => e.eui == s.ident.eui64) 0 l with
    | some i => (l.take i).map after ++ [self] ++ (l.drop (i + 1)).map after
    | none => self :: others.map after
  let reserved := if full then []
    else (old.map.filter (fun o => decide (o.addr ≤ 63) && found.all (fun e => e.addr != o.addr))).map (fun o => { o with present := false })
  let s := { s with chain := { s.chain with enumRun := none, claim := none, fullOwed := s.chain.fullOwed && !full } }
  let s := s.wr Key.chainEnumState 0
  let s := s.giveMap { gen := old.gen, head := s.addr, ring := ring, map := found ++ reserved }
  s.resEndIfBusy Key.chainEnumRes code (leBytes 4 count ++ leBytes 4 (if ring then 1 else 0) ++ leBytes 4 attempts)

/-- This device takes the active role, and address 0 where it has none or the enumeration is full (R36, R37). -/
def State.takeHead (s : State) (full : Bool) : State :=
  let s := s.wr Key.chainRole 1
  if full ∨ s.addr = 0xFF then s.wr Key.chainAddr 0 else s

/-- A candidate or head starts an enumeration (R37, R42); without an UP link it is alone on its chain. -/
def State.startEnum (s : State) (full : Bool) (attempts : Nat := 1) : State :=
  let s := { s with chain := { s.chain with claim := none } }
  match (if s.linkUp .dn then some Side.dn else if s.linkUp .up then some Side.up else none) with
  | none => (s.takeHead full).enumEnd full false 1 attempts 0 []
  | some d =>
    let mask := if full ∨ s.addr = 0xFF then 1 else 2 ^ s.addr
    let s := if s.rd Key.chainRole = 1 then s else s.wr Key.chainRole 3
    let s := s.wr Key.chainEnumState 1
    let s := { s with chain := { s.chain with
      enumRun := some { dir := d, full := full, attempts := attempts, ring := false, mask := mask, count := 1, started := s.elapsed } } }
    s.sendPort d (.survey { rank := s.rank, mask := mask, count := 1, full := full })

/-- The transaction that this device holds is PREPARED (R43, R92). -/
def State.prepared (s : State) : Bool :=
  match s.dict.txn with
  | some t => t.phase == .prepared
  | none => false

/-- An enumeration is asked for; the head defers it while a PREPARE is pending (R43). -/
def State.enumAsk (s : State) (full : Bool) : State :=
  if s.prepared then
    let s := s.wr Key.chainEnumState 3
    { s with chain := { s.chain with fullOwed := s.chain.fullOwed || full, enumRun := none } }
  else s.startEnum (full || s.chain.fullOwed)

/-- COMMIT or ABORT has completed, or the transaction expired: a deferred enumeration starts (R43). -/
def State.enumResume (s : State) : State :=
  if s.rd Key.chainEnumState = 3 ∧ !s.prepared then s.startEnum s.chain.fullOwed else s

/-- The device is due to enumerate: the active head, or a candidate that can reach no head (R36, R43). -/
def State.enumDue (s : State) : Bool :=
  s.alive && (s.rd Key.chainRole == 1 || (s.headCandidate && s.rd Key.chainRole != 3 && !s.headReached true))

/-- `ENUM_AUTO_START`: the head learns of a link that reached UP, or a candidate starts (R37, R42, R43). -/
def execEnumAutoStart (s : State) : Step := .next (if s.enumDue then s.enumAsk false else s)

/-- `CHAIN_ENUM_CMD`: on the active head only. -/
def State.enumCmd (s : State) (full : Bool) : State :=
  if s.rd Key.chainRole = 1 then (s.resBegin Key.chainEnumRes).enumAsk full else s

/-- `CHAIN_ENUM_INCREMENTAL`: a write of 1 to `CHAIN_ENUM_CMD`; nothing while a run is in progress (R85). -/
def execChainEnumIncremental (s : State) : Step := .next (if s.cmdBlocked Key.chainEnumRes then s else s.enumCmd false)

/-- `CHAIN_ENUM_FULL`: a write of 2 to `CHAIN_ENUM_CMD`. -/
def execChainEnumFull (s : State) : Step := .next (if s.cmdBlocked Key.chainEnumRes then s else s.enumCmd true)

/-- What a device claims in a SURVEY: its address in an incremental enumeration, else its pin (R37, R38, R42); and whether the
claim or its pin conflicts. A pin of 0 conflicts at every device that is not the active head. -/
def State.surveyClaim (s : State) (m : Survey) : Option Nat × Bool :=
  let held := !m.full && s.addr != 0xFF
  let want := if held then s.addr else s.rd Key.chainPin
  let zero := s.rd Key.chainPin == 0
  if want = 0xFF then (none, false)
  else if bitOf m.mask want || (want == 0 && !held) then (none, true)
  else (some want, zero)

/-- A SURVEY passes through a device (R37 item 2, R38, R42). -/
def State.surveyPass (s : State) (p : Side) (m : Survey) : State :=
  let c := s.surveyClaim m
  let s := if c.2 then s.chainPost .pinConflict p else s
  let s := if c.1.isNone then s.wr Key.chainAddr 0xFF else s
  let s := { s with chain := { s.chain with claim := c.1, fullOwed := false } }
  let mask := match c.1 with
    | some a => markBit m.mask a
    | none => m.mask
  let m := { m with mask := mask, count := m.count + 1 }
  s.enumForward p (.survey m) (.done m none)

/-- A SURVEY of another candidate arrives (R36, R37, R45): a candidate of higher rank that does not stand by issues its own. -/
def State.surveyRx (s : State) (p : Side) (m : Survey) : State :=
  if s.headCandidate && s.rd Key.chainRole != 2 && rankAbove s.rank m.rank then
    (if s.chain.enumRun.isSome then s else s.enumAsk false)
  else
    let s := if s.headCandidate || s.rd Key.chainRole == 1 then s.toStandby else s
    s.surveyPass p m

/-- `SURVEY_RX`. -/
def execSurveyRx (p : Side) (m : Survey) (s : State) : Step := .next (if s.linkUp p then s.surveyRx p m else s)

/-- The SURVEY returns to its candidate on its other port, or as DONE (R37 items 3 and 4, R41). -/
def State.surveyBack (s : State) (m : Survey) (byDone : Bool) : State :=
  match s.chain.enumRun with
  | none => s
  | some r =>
    if s.rd Key.chainEnumState ≠ 1 then s
    else
      let s := s.takeHead r.full
      let reserved := if r.full then [] else reservedOf s.chain.topo
      let mask := reserved.foldl markBit (markBit m.mask s.addr)
      let s := s.wr Key.chainEnumState 2
      let s := { s with chain := { s.chain with enumRun := some { r with ring := !byDone, mask := mask, count := m.count, started := s.elapsed } } }
      s.sendPort r.dir (.assign { mask := mask, offer := freeFrom mask 1 })

/-- `SURVEY_RETURN`: on a ring it arrives on the port opposite its departure. -/
def execSurveyReturn (p : Side) (m : Survey) (byDone : Bool) (s : State) : Step :=
  .next (match s.chain.enumRun with
    | some r => if (p = r.dir) = (byDone = true) then s.surveyBack m byDone else s
    | none => s)

/-- An ASSIGN passes through a device (R37 item 5, R39). An active head that runs no enumeration meets here the end of one that it
deferred, and removes the frame (R43). -/
def State.assignRx (s : State) (p : Side) (m : Assign) : State :=
  let done (a : Assign) : ChainBody := .done { rank := s.rank, mask := a.mask, count := 0, full := false } (some a.offer)
  match s.chain.claim with
  | some a =>
    let s := (s.wr Key.chainAddr a).setChain { s.chain with claim := none }
    s.enumForward p (.assign m) (done m)
  | none =>
    if s.rd Key.chainRole = 1 then s
    else if s.addr ≠ 0xFF then s.enumForward p (.assign m) (done m)
    else if 63 < m.offer then (s.chainPost .chainOverfull p).enumForward p (.assign m) (done m)
    else
      let next := { m with offer := freeFrom m.mask (m.offer + 1) }
      (s.wr Key.chainAddr m.offer).enumForward p (.assign next) (done next)

/-- `ASSIGN_RX`: at a device that did not issue it. -/
def execAssignRx (p : Side) (m : Assign) (s : State) : Step :=
  .next (if s.linkUp p && s.chain.enumRun.isNone then s.assignRx p m else s)

/-- `ASSIGN_RETURN`: the ASSIGN returns, or DONE reports its end; map lists the devices that it passed, in cabling order (R37
item 6, R40). -/
def execAssignReturn (p : Side) (_m : Assign) (byDone : Bool) (map : List TopoEntry) (s : State) : Step :=
  .next (match s.chain.enumRun with
    | some r =>
      if s.rd Key.chainEnumState = 2 ∧ (p = r.dir) = (byDone = true) then s.enumEnd r.full (!byDone) r.count r.attempts 0 map else s
    | none => s)

/-- `ENUM_PASS_TIMEOUT`: a pass has taken 1 ms; the third failure ends the attempts, and the addresses that the last ASSIGN
reached are kept (R40, R41). -/
def execEnumPassTimeout (map : List TopoEntry) (dt : Nat) (s : State) : Step :=
  let s := s.advance dt
  .next (match s.chain.enumRun with
    | none => s
    | some r =>
      if s.elapsed < r.started + ms 1 then s
      else
        let s := if r.ring then s.wr Key.chainRing 0 else s
        if r.attempts < 3 then s.startEnum r.full (r.attempts + 1)
        else ((s.takeHead r.full).chainPost .enumFail r.dir).enumEnd r.full false r.count 3 1 map)

/-! ### TOPO and HEAD frames (R44 to R46, R50) -/

/-- A device whose number a map gives to another returns to 0xFF, unless its own assignment is the older (R46). Its own assignment
is the one of the map, or where the map does not list it the one of the map that it held before. -/
def State.addrClash (s : State) (t : Topo) : Bool :=
  let mine := (t.map ++ s.chain.topo.map).find? (fun e => e.addr == s.addr && e.eui == s.ident.eui64)
  s.addr != 0xFF && (topoLive t).any (fun e => e.addr == s.addr && e.eui != s.ident.eui64 && (match mine with
    | some o => decide (e.gen < o.gen ∨ (e.gen = o.gen ∧ e.eui < o.eui))
    | none => true))

/-- A member takes the map of an active head. -/
def State.memberMap (s : State) (t : Topo) : State :=
  let s := { s with chain := { s.chain with fullOwed := false } }
  let s := if s.addrClash t then s.wr Key.chainAddr 0xFF else s
  s.takeMap t

/-- The surviving head takes over the other half's devices, and enumerates where two hold one number (R46). -/
def State.mergeMap (s : State) (t : Topo) : State :=
  let own := s.chain.topo
  let more := (topoLive t).filter (fun e => own.map.all (fun o => o.eui != e.eui || !o.present))
  let clash := more.any (fun e => e.addr != 0xFF && (topoLive own).any (fun o => o.addr == e.addr))
  let kept := own.map.filter (fun o => o.present || more.all (fun e => e.eui != o.eui))
  let s := s.giveMap { own with gen := max own.gen t.gen, map := kept ++ more.map (fun e => { e with role := if e.role = 1 then 2 else e.role }) }
  if clash then s.enumAsk false else s

/-- A map names this device as present and as a standby head. -/
def State.namedStandby (s : State) (t : Topo) : Bool := (topoLive t).any (fun e => e.eui == s.ident.eui64 && e.role == 2)

/-- A TOPO frame arrives (R45 to R47, R50). -/
def State.topoRx (s : State) (m : TopoMsg) : State :=
  match m with
  | .report a up dn =>
    if s.rd Key.chainRole = 1 then s.giveMap { s.chain.topo with map := linksOf s.chain.topo.map a up dn } else s
  | .map t =>
    if s.rd Key.chainRole = 1 then
      if t.head = s.addr then s.mergeMap t
      else if s.namedStandby t || !s.host.linkUp then s.toStandby.memberMap t
      else s
    else
      let s := if s.headCandidate && s.rd Key.chainRole == 0 then s.toStandby else s
      s.memberMap t

/-- `TOPO_RX`. -/
def execTopoRx (p : Side) (m : TopoMsg) (s : State) : Step := .next (if s.linkUp p then (s.topoRx m).raise 11 else s)

/-- The lower-ranked of two active heads yields: it stands by and sends TOPO, without renumbering (R46). -/
def State.yieldHead (s : State) (dest : Nat) : State :=
  let s := s.toStandby
  let t := { s.chain.topo with head := dest, map := s.chain.topo.map.map (fun e => if e.eui == s.ident.eui64 then { e with role := 2 } else e) }
  (s.takeMap t).sendChain dstAll 0 0 (16 + 16 * t.map.length) 0 (.topo (.map t))

/-- A HEAD frame arrives (R44 to R46). -/
def State.headRx (s : State) (m : HeadMsg) : State :=
  let role := s.rd Key.chainRole
  if m.rank.eui = s.ident.eui64 then s
  else if role = 1 then
    if m.relinquish then s
    else if !s.host.linkUp then s.toStandby
    else if rankAbove m.rank s.rank then s.yieldHead m.addr
    else s
  else
    let s := { s with chain := { s.chain with headAt := s.elapsed } }
    if role = 2 then (if m.relinquish && s.host.linkUp then s.takeover else s)
    else if !s.headCandidate then s
    else if role = 0 || rankAbove m.rank s.rank then s.toStandby
    else s

/-- `HEAD_RX`. -/
def execHeadRx (p : Side) (m : HeadMsg) (s : State) : Step := .next (if s.linkUp p && s.addr != 0xFF then s.headRx m else s)

/-! ### The host's link and the strap pin (R36, R44, R494) -/

/-- A device becomes a candidate: it starts an enumeration where it can reach no head, else it stands by (R36, R45). -/
def State.newCandidate (s : State) : State :=
  if !s.alive || !s.headCandidate || s.rd Key.chainRole == 1 || s.rd Key.chainRole == 3 then s
  else if s.headReached true then (if s.rd Key.chainRole = 0 then s.toStandby else s)
  else s.enumAsk false

/-- `PCIE_LINK_UP` (R36, R493, R574). -/
def execPcieLinkUp (s : State) : Step :=
  .next (if !s.alive || s.host.linkUp then s
    else (({ s with host := { s.host with linkUp := true } }).raise 24).newCandidate.pathCheck)

/-- A candidate in enumeration stops being one: its enumeration ends (R36). -/
def State.noCandidate (s : State) : State :=
  if s.rd Key.chainRole = 3 then
    (({ s with chain := { s.chain with enumRun := none } }).wr Key.chainRole 0).wr Key.chainEnumState 0
  else s

/-- `PCIE_LINK_DOWN` (R44, R494): an active head announces with HEAD that it relinquishes. -/
def execPcieLinkDown (s : State) : Step :=
  .next (if !s.host.linkUp then s
    else
      let s := (({ s with host := { s.host with linkUp := false } }).raise 24).hifReset.post .hifLinkDown 0x1000
      let s := if s.rd Key.chainRole = 1 then s.headSend else s
      s.noCandidate.pathCheck)

/-- `HEAD_SEL_CHANGE`: the strap pin has held its new level for 100 µs (R36, R554). A head keeps its role. -/
def execHeadSelChange (high : Bool) (s : State) : Step :=
  let s := { s with pins := { s.pins with headSel := high } }
  .next (if high then s.newCandidate.pathCheck else s.noCandidate)

end Sys2Proof.Machine
end

