-- ==== Sys2Proof/Machine/DictVals.lean ====
section
/-! DEFINITION. What subentries and objects read as, and the range checks of written values (R59 to R64, R69 to R72, R96 to
R121). -/

namespace Sys2Proof.Machine

/-! ### Values read -/

/-- Bytes of a STR32 value, padded with zeros (Table 3-1). -/
def str32 (t : String) : Bytes :=
  let b := t.toList.map (fun c => BitVec.ofNat 8 c.toNat)
  b ++ zeros (32 - b.length)

/-- Identity values (Table 4-2). -/
def State.idValue (s : State) (sub : Nat) : Option Nat :=
  match sub with
  | 0x01 => some (leNat (str32 "Krabrikin Microsystems"))
  | 0x02 => some (leNat (str32 "DXB-64"))
  | 0x03 => some s.ident.orderCode
  | 0x05 => some s.ident.eui64
  | 0x06 => some s.ident.serial
  | 0x07 => some s.treeVersion
  | 0x08 => some s.chainLevel
  | 0x0A => some Dict.subentryCount
  | 0x0C => some (s.elapsed / 250000000 % 2 ^ 32)
  | _ => none

/-- `DICT_TXN_STATE` of a phase (Table 3-10). -/
def txnState : TxnPhase → Nat
  | .opened => 1
  | .prepared => 2
  | .armed => 3

/-- `DICT_TXN_ID` of a transaction. -/
def txnId (origin txn : Nat) : Nat := origin * 2 ^ 16 + txn

/-- Transaction values (Table 3-10). -/
def State.txnValue (s : State) (sub : Nat) : Option Nat :=
  match sub, s.dict.txn with
  | 0x06, some t => some (txnState t.phase)
  | 0x07, some t => some (txnId t.origin t.txn)
  | 0x08, some t => some (if t.phase = .opened then 0 else timeRaw t.epoch)
  | 0x06, none | 0x07, none | 0x08, none => some 0
  | _, _ => none

/-- Items that the node queues hold, `SQ_ITEMS` of strap queue 0 (R314). -/
def State.nodeItems (s : State) : Nat :=
  (s.sb.nodes.map (fun p => p.2.frames.length + (if p.2.welt.isSome then 1 else 0))).sum

/-- `CORE_LOAD_PCT`: the manual does not say how the load is measured (log 1). -/
def State.coreLoad (s : State) (n : Nat) : Nat := (Config.freeBits 32 (s.elapsed / 250000000 + n)).toNat % 101

/-- `TREE_VERSION_A` or `_B`: the header's version in the states STAGED to REJECTED (R422). -/
def bankVersion (b : Bank) : Nat :=
  match b.st with
  | .blank | .staging => 0
  | .staged | .armed | .trial | .seated | .rejected => leNat (slice b.image 8 4)

/-- Values that stand elsewhere than among the dictionary's numbers (log 8). -/
def State.derived (s : State) (idx sub : Nat) : Option Nat :=
  if sub = 0 then some (Dict.topSub idx)
  else if idx = 0x1000 then s.idValue sub
  else if idx = 0x1202 then s.txnValue sub
  else if idx = 0x1800 then (match sub with
    | 0x01 => some (timeRaw s.time80)
    | 0x08 => some s.clock.state
    | _ => none)
  else if idx = 0x3000 then (match sub with
    | 0x02 => some (s.asn % 2 ^ 64)
    | 0x07 => some (s.girth.recs.filter (fun p => !p.2.isFree && p.2.hw.macState == macDesync)).length
    | _ => none)
  else if 0x3100 ≤ idx ∧ idx ≤ 0x31FF ∧ sub = 0x0B then some (s.tenantNodes (idx - 0x3100))
  else if idx = 0x3200 ∧ sub = 2 then some (s.girth.sched.wheel.length + s.girth.sched.parked.length)
  else if idx = 0x4000 ∧ sub = 3 then some s.freeCells
  else if 0x4020 ≤ idx ∧ idx ≤ 0x407F then
    let n := idx - 0x4020
    (match sub with
      | 0x01 => some (s.outQ (n / 8) (n % 8)).cells
      | 0x02 => some (if (s.outQ (n / 8) (n % 8)).spilled then 1 else 0)
      | _ => none)
  else if 0x4110 ≤ idx ∧ idx ≤ 0x414F ∧ sub = 1 then
    some (if idx = 0x4110 then s.nodeItems else (s.strap (idx - 0x4110)).items)
  else if idx = 0x4200 ∧ sub = 1 then some s.tables.prefixes.length
  else if idx = 0x4201 ∧ sub = 1 then some s.tables.halter.length
  else if idx = 0x4201 ∧ sub = 2 then some s.tables.overflow.length
  else if idx = 0x5000 ∧ sub = 4 then some s.vbat.tamperLast
  else if idx = 0x5000 ∧ sub = 5 then some s.vbat.tamperEvents
  else if idx = 0x5200 ∧ sub = 3 then some (bankVersion s.tree.a)
  else if idx = 0x5200 ∧ sub = 4 then some (bankVersion s.tree.b)
  else if 0x7001 ≤ idx ∧ idx ≤ 0x7010 ∧ sub = 5 then some (s.coreLoad (idx - 0x7001))
  else none

/-- Key of a subentry. -/
def keyOf (idx sub : Nat) : Nat := idx * 256 + sub

/-- The value of a subentry as READ returns it: WO and CMD subentries read zero (R61). -/
def State.value (s : State) (idx sub : Nat) : Nat :=
  match accessOf (keyOf idx sub) with
  | .wo | .cmd => 0
  | .const | .ro | .rw | .rwe | .rwp | .res =>
    match s.derived idx sub with
    | some v => v
    | none => s.rd (keyOf idx sub)

/-- A counter that clears when read is cleared (R64, R99). -/
def State.clearRead (s : State) (idx sub : Nat) : State :=
  if idx = 0x5000 ∧ sub = 5 then { s with vbat := { s.vbat with tamperEvents := 0 } } else s.wr (keyOf idx sub) 0

/-- A RES record as its object reads: Table 3-7, then its data up to the object's size (R84, R100). -/
def State.resBytes (s : State) (k size : Nat) : Bytes :=
  let r := s.res k
  let head := leBytes 2 r.code ++ leBytes 1 (if r.busy then 0x80 else 0) ++ leBytes 1 r.outcome ++ leBytes 4 r.seq
  slice (head ++ r.data) 0 size

/-- `ERR_LOG` (Table 4-3). -/
def State.errLogBytes (s : State) : Bytes :=
  (List.range 256).flatMap (fun i => match KMap.find s.dict.errLog i with
    | some e => errBytes e
    | none => zeros 32)

/-- `CLAMP_LOG` (Table 3-10). -/
def State.clampLogBytes (s : State) : Bytes :=
  (List.range 64).flatMap (fun i => match KMap.find s.dict.clampLog i with
    | some e => clampBytes e
    | none => zeros 32)

/-- A byte string with its CRC-32C behind it. -/
def withCrc (d : Bytes) : Bytes := d ++ leBytes 4 (Crypto.crc32c d)

/-- The region table of the layout in force (Table 11-2). -/
def State.layoutBytes (s : State) : Bytes :=
  let rs := s.sb.layout.getD []
  let entry (r : Region) : Bytes :=
    leBytes 1 r.kind ++ leBytes 1 r.index ++ zeros 6 ++ leBytes 8 r.base ++ leBytes 8 r.size ++ zeros 8
  withCrc (slice (leBytes 2 1 ++ leBytes 2 rs.length ++ zeros 60 ++ rs.flatMap entry) 0 4092)

/-- The built-in cost table (Tables 9-2 and 9-3). -/
def builtInCostBytes : Bytes :=
  let mode (m : Nat) : Bytes :=
    let c := builtInCost m
    leBytes 4 c.wake ++ leBytes 4 c.tx ++ leBytes 4 c.rx ++ leBytes 2 c.guard ++ zeros 18
  let energies := leBytes 2 60 ++ leBytes 2 64 ++ leBytes 2 50 ++ leBytes 2 3 ++ leBytes 4 80
  withCrc (slice (leBytes 2 1 ++ zeros 6 ++ [1, 2, 3, 4, 5, 6].flatMap mode ++ energies) 0 1020)

/-- A byte string with zeros in its reserved spans, given as offset and length (R5). -/
def blankSpans (d : Bytes) (l : List (Nat × Nat)) : Bytes := l.foldl (fun d p => splice d p.1 (zeros p.2)) d

/-- Reserved spans of `COST_TABLE` (Table 9-2). -/
def costReserved : List (Nat × Nat) := (2, 6) :: (212, 808) :: (List.range 6).map (fun m => (8 + 32 * m + 14, 18))

/-- Reserved spans of `CAL_COEFF` (Table 5-9). -/
def calReserved : List (Nat × Nat) := [(4, 4), (20, 4), (2024, 20)]

/-- Reserved spans of `SB_LAYOUT` (Table 11-2). -/
def layoutReserved : List (Nat × Nat) :=
  (4, 60) :: (4064, 28) :: (List.range 125).flatMap (fun i => [(64 + 32 * i + 2, 6), (64 + 32 * i + 24, 8)])

/-- Reserved spans of a Stamp record (Table 5-10); the two bytes of a sub-band entry that the table leaves unnamed count as reserved. -/
def stampReserved : List (Nat × Nat) :=
  (3, 1) :: (6, 2) :: (208, 44) :: (List.range 8).flatMap (fun i => [(16 + 24 * i + 13, 1), (16 + 24 * i + 16, 8)])

/-- A written object as it reads: reserved bytes read zero (R5), an object that was never written reads empty. -/
def State.domBlank (s : State) (k : Nat) (l : List (Nat × Nat)) : Bytes := if (s.dom k).isEmpty then [] else blankSpans (s.dom k) l

/-- Content of a DOMAIN object as READ_BLOCK returns it (R61, R82, R123). -/
def State.domainBytes (s : State) (idx sub : Nat) (r : Dict.Entry) : Bytes :=
  let k := keyOf idx sub
  if r.acc = .wo then []
  else if r.acc = .res then s.resBytes k r.maxLen
  else if k = Key.errLog then s.errLogBytes
  else if k = Key.clampLog then s.clampLogBytes
  else if 0x2301 ≤ idx ∧ idx ≤ 0x2304 then blankSpans (s.stampBytes (idx - 0x2301)) stampReserved
  else if 0x2401 ≤ idx ∧ idx ≤ 0x2404 then s.domBlank k calReserved
  else if k = Key.costTable then (if (s.dom k).isEmpty then builtInCostBytes else s.domBlank k costReserved)
  else if k = Key.sbLayout then (if (s.dom k).isEmpty then s.layoutBytes else s.domBlank k layoutReserved)
  else if k = Key.nodeWin then s.winBytes
  else if 0x5110 ≤ idx ∧ idx ≤ 0x511F then s.targetBytes (idx - 0x5110)
  else s.dom k

/-! ### Range checks (R69 to R72) -/

/-- Outcome of the checks of one subentry: the value stored, masks of fields clamped and rejected, and for each clamped field
its number, the value written and the value taken. -/
structure Checked where
  stored : Nat
  clamped : Nat
  rejected : Nat
  log : List (Nat × Nat × Nat)
  deriving DecidableEq, Repr

/-- A value that passes unchanged. -/
def Checked.pass (v : Nat) : Checked := { stored := v, clamped := 0, rejected := 0, log := [] }

/-- A value of which some fields are rejected. -/
def Checked.reject (v mask : Nat) : Checked := { stored := v, clamped := 0, rejected := mask, log := [] }

/-- Fields that fail their test, as a mask. -/
def failMask (l : List (Nat × Bool)) : Nat := (l.map (fun p => if p.2 then 0 else 2 ^ p.1)).sum

/-- The legal value nearest to x; the lower of two that are equally near (R69). -/
def nearest (ivs : List (Int × Int)) (x : Int) : Int :=
  let near (iv : Int × Int) : Int := max iv.1 (min iv.2 x)
  match ivs with
  | [] => x
  | iv :: rest => rest.foldl (fun best i =>
      let c := near i
      let d := (x - c).natAbs
      let b := (x - best).natAbs
      if d < b ∨ (d = b ∧ c < best) then c else best) (near iv)

/-- x lies in one of the intervals. -/
def inIntervals (ivs : List (Int × Int)) (x : Int) : Bool := ivs.any (fun i => decide (i.1 ≤ x ∧ x ≤ i.2))

/-- Bytes of a type as the sign of its values. -/
def tySigned (t : Dict.Ty) : Option Nat :=
  match t with
  | .i n => some (8 * n)
  | .bool | .u _ | .str | .time | .domain => none

/-- The number that a raw value of a type stands for. -/
def tyInt (t : Dict.Ty) (raw : Nat) : Int :=
  match tySigned t with
  | some w => ofRaw w raw
  | none => raw

/-- A scalar that clamps. -/
def clampCheck (t : Dict.Ty) (ivs : List (Int × Int)) (raw : Nat) : Checked :=
  let x := tyInt t raw
  if inIntervals ivs x then Checked.pass raw
  else
    let y := nearest ivs x
    { stored := toRaw (8 * t.size) y, clamped := 1, rejected := 0, log := [(0, toRaw 64 x, toRaw 64 y)] }

/-- A scalar that rejects. -/
def rejectCheck (t : Dict.Ty) (ivs : List (Int × Int)) (raw : Nat) : Checked :=
  if inIntervals ivs (tyInt t raw) then Checked.pass raw else Checked.reject raw 1

/-- Fields of one value, each with its place, width and clamp interval. -/
def clampFields (signed : Bool) (lo hi : Int) (w n : Nat) (raw : Nat) : Checked :=
  (List.range n).foldl (fun (c : Checked) i =>
    let f := bits raw (w * i) w
    let x : Int := if signed then ofRaw w f else f
    let y := max lo (min hi x)
    if x = y then { c with stored := c.stored + f * 2 ^ (w * i) }
    else { stored := c.stored + toRaw w y * 2 ^ (w * i), clamped := c.clamped + 2 ^ i, rejected := c.rejected,
           log := c.log ++ [(i, toRaw 64 x, toRaw 64 y)] }) (Checked.pass 0)

/-- `CINCH_SHED_ORDER` (Table 4-5). -/
def shedCheck (raw : Nat) : Checked :=
  let v := raw % 2 ^ 24
  let f (i : Nat) : Nat := bits v (4 * i) 4
  let ok (i : Nat) : Bool :=
    decide (1 ≤ f i ∧ f i ≤ 6) && (List.range 6).all (fun j => j == i || f j != f i)
  Checked.reject v (failMask ((List.range 6).map (fun i => (i, ok i))))

/-- `PORT_FEM_CFG` (Table 5-3). -/
def femCheck (raw : Nat) : Checked :=
  let v := raw % 2 ^ 28 - bits raw 5 3 * 2 ^ 5
  let fem := bitOf v 0
  let lead (x : Nat) : Bool := !fem || decide (1 ≤ x ∧ x ≤ 10)
  Checked.reject v (failMask [(5, decide (bits v 8 6 ≤ 40)), (8, !fem || bits v 18 2 != bits v 16 2), (9, lead (bits v 20 4)),
    (10, lead (bits v 24 4))])

/-- A placement written to `RXC_PIN` or `TXC_PIN` (R107, R108, R154). look gives other subentries as they stand. -/
def State.pinCheck (s : State) (look : Nat → Nat) (tx : Bool) (v : Nat) : Checked :=
  if v = 0 then Checked.pass v
  else
    let p := bits v 22 2
    let f := bits v 0 22
    let mode := bits v 24 8
    let centre := look (Key.portCentreKhz p)
    let half := if p < 2 then 16000 else 42000
    let onMask := match s.rasterAt p f with
      | some k => bitOf (s.chMask p) k
      | none => false
    let freqOk := decide (centre ≤ f + half ∧ f ≤ centre + half) && (!tx || onMask)
    let modeOk := if p < 2 then decide (2 ≤ mode ∧ mode ≤ 6) else mode == 1
    Checked.reject v (failMask [(0, freqOk), (2, modeOk)])

/-- `CAL_CMD` (Table 4-10). -/
def calCheck (raw : Nat) : Checked :=
  let v := bits raw 4 4 * 16 + bits raw 0 2
  Checked.reject v (failMask [(1, bits v 4 4 != 0)])

/-- `POL_MODE` (Table 4-17). -/
def polModeCheck (raw : Nat) : Checked :=
  let v := bits raw 7 1 * 128 + bits raw 0 2
  Checked.reject v (failMask [(0, bits v 0 2 != 3)])

/-- A TIME80 value whose nanoseconds reject (Table 4-6). -/
def timeCheck (raw : Nat) : Checked :=
  let v := timeRaw (rawToTime raw)
  Checked.reject v (if v % 2 ^ 30 < 1000000000 then 0 else 1)

/-- Range cells that name more than intervals. A value of several parts that has no per-field limits, `CAMP_IMAGE_ADDR` or a channel map,
is one field, field 0 (R60; DESIGN CHOICE, log 115). -/
def State.depCheck (s : State) (look : Nat → Nat) (d : Dict.Dep) (t : Dict.Ty) (idx sub raw : Nat) : Checked :=
  match d with
  | .laneWeights => clampFields false 1 32 8 3 raw
  | .shedOrder => shedCheck raw
  | .centre => clampCheck t (if idx % 256 < 2 then [(785000, 944000)] else [(2441000, 2442500)]) raw
  | .txLimit => clampCheck t [(-20, s.stampMax (idx % 256))] raw
  | .femCfg => femCheck raw
  | .pin => s.pinCheck look (decide (0x2200 ≤ idx)) raw
  | .calCmd => calCheck raw
  | .chmap => Checked.reject raw (if (List.range 64).all (fun k => !bitOf raw k || bitOf (s.chMask (sub - 3)) k) then 0 else 1)
  | .upToSlots => clampCheck t [(0, (look (keyOf idx 1) : Int))] raw
  | .pulseWidth => clampCheck t [(8, (look (keyOf idx 3) : Int) - 8)] raw
  | .nanoseconds => timeCheck raw
  | .alphaK => clampFields true (-4) 3 4 8 raw
  | .polMode => polModeCheck raw
  | .polPir => clampCheck t [((look (keyOf idx (sub - 3)) : Int), 10000000)] raw
  | .campAddr => Checked.reject raw (if raw < 2 ^ 52 ∧ raw % 64 = 0 then 0 else 1)
  | .winCount => clampCheck t [(1, min 64 (0x8000 - (look (keyOf idx 1) : Int)))] raw
  | .mask legal => Checked.pass (raw % (legal + 1))

/-- A campaign loads, runs or is paused, so its settings reject (R118). -/
def State.campClosed (s : State) (idx : Nat) : Bool :=
  decide (0x5110 ≤ idx ∧ idx ≤ 0x511F) && decide (1 ≤ s.campSt (idx - 0x5110) ∧ s.campSt (idx - 0x5110) ≤ 3)

/-- The check of one written subentry against its Range cell (R69). -/
def State.check (s : State) (look : Nat → Nat) (r : Dict.Entry) (idx sub raw : Nat) : Checked :=
  if s.campClosed idx && decide (2 ≤ sub ∧ sub ≤ 4) then Checked.reject raw 1
  else match r.rng with
    | .none | .any => Checked.pass raw
    | .clampL ivs => clampCheck r.ty ivs raw
    | .rejectL ivs => rejectCheck r.ty ivs raw
    | .dep d => s.depCheck look d r.ty idx sub raw

/-- A subentry as it stands after a WRITE: what this WRITE or the transaction has for it, else its present value (R71). -/
def State.stands (s : State) (staged : KMap Nat) (k : Nat) : Nat :=
  match KMap.find staged k with
  | some v => v
  | none => s.rd k

/-- One written subentry, checked. -/
structure Written where
  key : Nat
  out : Checked
  deriving DecidableEq, Repr

/-- The checks of a WRITE, in subindex order (R71): vals are the values of subentries sub, sub + 1, …; before holds staged values
that stand. -/
def State.checkAll (s : State) (idx : Nat) : Nat → KMap Nat → List (Dict.Entry × Nat) → List Written
  | _, _, [] => []
  | sub, before, (r, raw) :: rest =>
    let c := s.check (s.stands before) r idx sub raw
    { key := keyOf idx sub, out := c } :: s.checkAll idx (sub + 1) (KMap.put before (keyOf idx sub) c.stored) rest

/-- Field report: one mask per subentry (R72). -/
def reportBytes (masks : List Nat) : Bytes := masks.flatMap (fun m => leBytes 4 m)

end Sys2Proof.Machine
end

