-- ==== Sys2Proof/Machine/DictApply.lean ====
section
/-! DEFINITION. How written values take effect: what a WRITE changes besides the number, the runs that commands start, the
content checks of DOMAIN objects, and the instant at which a transaction applies (R61 to R67, R82, R88, R93, R451, R452). -/

namespace Sys2Proof.Machine

/-! ### Writes that take effect at once (R63, R66, R73) -/

/-- Replace one number; an RWP subentry also in its battery-backed copy (R66). -/
def State.put1 (s : State) (k v : Nat) : State :=
  let s := s.wr k v
  if accessOf k = .rwp then { s with vbat := { s.vbat with rwp := KMap.put s.vbat.rwp k v } } else s

/-- Clamp log entries of one written subentry (R73). -/
def State.clampEntries (s : State) (origin : Nat) (w : Written) : State :=
  s.each w.out.log (fun s l =>
    s.logClamp { time := s.time80, index := w.key / 256, sub := w.key % 256, origin := origin, field := l.1, requested := l.2.1,
                 stored := l.2.2 })

/-- A written `POL_MODE` that differs from what the policer last used refills its buckets at its next update (R356). -/
def State.polWritten (s : State) (t c : Nat) : State :=
  let p := s.policer t c
  if p.mode = bits (s.rd (Key.polMode t c)) 0 2 then s else s.setPolicer t c { p with mode := 0 }

/-- Sampling of a tenant begins: its first instant lies after the write (R364). -/
def State.sampleWritten (s : State) (t : Nat) : State :=
  { s with curb := { s.curb with sampled := KMap.put s.curb.sampled t s.nowUs } }

/-- What blocks do at the instant a WRITE of index idx takes effect; keys names the subentries written. -/
def State.afterWrite (s : State) (old : State) (idx : Nat) (keys : List Nat) : State :=
  let wrote (k : Nat) : Bool := keys.contains k
  if idx = 0x1801 then
    (if wrote Key.timeSource && s.rd Key.timeSource == 0 && s.isHead then s.timeFree else s)
  else if 0x1802 ≤ idx ∧ idx ≤ 0x1805 then s.pulseWritten (idx - 0x1802) (wrote (Key.tpoMode (idx - 0x1802)))
  else if 0x2000 ≤ idx ∧ idx ≤ 0x2003 then
    let p := idx - 0x2000
    let on := bitOf (s.rd (Key.portFemCfg p)) 4 && !bitOf (old.rd (Key.portFemCfg p)) 4
    if on then s.setPort p { (s.port p) with diagSince := s.elapsed } else s
  else if idx = 0x3200 then
    (if wrote Key.schedDayStartS then s.setSched { s.girth.sched with dayWritten := some (s.clock.sec + (if s.clock.ns = 0 then 1 else 2)) } else s)
  else if idx = 0x3000 then s.servedFollow old
  else if 0x4300 ≤ idx ∧ idx ≤ 0x43FF then
    let t := idx - 0x4300
    let s := s.each (List.range 8) (fun s c => s.polWritten t c)
    if s.flag (Key.curbSample t) && (!old.flag (Key.curbSample t) || wrote (Key.curbSampleExp t)) then s.sampleWritten t else s
  else if idx = 0x6000 ∨ idx = 0x6001 then
    let off := idx == 0x6001 && (wrote Key.tagAuth || wrote Key.tagPassword || wrote Key.tagKeySlot || !s.flag Key.tagEnable)
    let s := if off then s.tagOpen else s
    if !s.flag Key.tagEnable && !s.flag Key.conReader && !s.concho.field then s.conQuiet else s
  else s

/-- A WRITE of RW, RWP and WO subentries takes effect (R63, R70, R73). -/
def State.applyWrite (s : State) (origin idx : Nat) (l : List Written) : State :=
  let old := s
  let s := s.each l (fun s w => s.put1 w.key w.out.stored)
  let s := s.each l (fun s w => s.clampEntries origin w)
  s.afterWrite old idx (l.map (·.key))

/-! ### Commands (R83, R85, R100) -/

/-- Key of the RES object of a CMD subentry (R56, R100). -/
def resKey (k : Nat) : Nat :=
  if k = Key.chainEnumCmd then Key.chainEnumRes else if k = Key.chainSwitchover then Key.chainSwitchoverRes else k + 1

/-- `ERR_LOG_CLEAR` (Table 4-3). -/
def State.errLogClear (s : State) : State :=
  let s := s.resBegin Key.errLogClearRes
  let s := { s with dict := { s.dict with errLog := [] } }
  (s.wr Key.errLogNext 0).resEnd Key.errLogClearRes 0

/-- `CLAMP_LOG_CLEAR` (Table 3-10). -/
def State.clampLogClear (s : State) : State :=
  let s := s.resBegin Key.clampLogClearRes
  let s := { s with dict := { s.dict with clampLog := [] } }
  (s.wr Key.clampLogNext 0).resEnd Key.clampLogClearRes 0

/-- Present values of RW, RWE and RWP subentries, the copy that a store takes (R67); `PORT_TX_LIMIT_DBM` is listed even where it
is the Stamp maximum. -/
def State.defaultsNow (s : State) : BankC :=
  let kept (k : Nat) : Bool := accessOf k == .rw || accessOf k == .rwe || accessOf k == .rwp
  let nums := s.dict.nums.filter (fun p => kept p.1)
  let nums := [0, 1, 2, 3].foldl (fun m p => KMap.put m (Key.portTxLimitDbm p) (s.rd (Key.portTxLimitDbm p))) nums
  let dom (k : Nat) : Bool := [0, 1, 2, 3].any (fun p => k == Key.calCoeff p) || k == Key.costTable || k == Key.sbLayout
  { nums := nums, doms := s.dict.doms.filter (fun p => dom p.1) }

/-- `DICT_STORE_CMD`: 1 stores, 2 erases (R67). -/
def State.storeCmd (s : State) (v : Nat) : State :=
  let set := if v = 1 then some s.defaultsNow else none
  let s := s.resBegin Key.dictStoreRes
  { s with dict := { s.dict with storing := some set } }

/-- `TREE_SWITCH_CMD` (R425): the first check that fails ends the run; else the bank is armed and the device resets. -/
def State.treeSwitch (s : State) : State :=
  match s.switchBad with
  | some c => (s.resBegin Key.treeSwitchRes).resEnd Key.treeSwitchRes c
  | none => s.armSwitch.warmReset 6

/-- `PWR_STATE_CMD` (R535); during a shutdown the run is overridden. -/
def State.pwrCmd (s : State) (t : Nat) : State :=
  let s := s.resBegin Key.pwrStateRes
  if s.power.shutdown.isSome then s.resEnd Key.pwrStateRes 1 else s.powerAsk t

/-- Start the run of a CMD subentry whose value has passed its checks. -/
def State.runCmd (s : State) (k v : Nat) : State :=
  let idx := k / 256
  if k = Key.chainEnumCmd then s.enumCmd (v == 2)
  else if k = Key.chainSwitchover then s.switchover
  else if k = Key.errLogClear then s.errLogClear
  else if k = Key.clampLogClear then s.clampLogClear
  else if k = Key.dictStoreCmd then s.storeCmd v
  else if k = Key.pwrStateCmd then s.pwrCmd v
  else if k = Key.timeStepNs then s.timeStep (ofRaw 64 v)
  else if k = Key.timeSet then s.timeSetTo (rawToTime v)
  else if 0x2000 ≤ idx ∧ idx ≤ 0x2003 then s.portCmd (idx - 0x2000) v
  else if k = Key.stampLockCmd then s.stampLock
  else if k = Key.calCmd then s.calWrite v
  else if k = Key.keeperProvision then s.provisionCmd
  else if k = Key.attestCmd then s.attestCmd v
  else if 0x5110 ≤ idx ∧ idx ≤ 0x511F then s.campCmd (idx - 0x5110) v
  else if k = Key.treeSwitchCmd then s.treeSwitch
  else if k = Key.seatOk then s.seat
  else if k = Key.bankWipeCmd then s.wipe v
  else if 0x7001 ≤ idx ∧ idx ≤ 0x7010 then s.coreRunCmd (idx - 0x7001) v
  else s

/-- `ERR_LOG_CLEAR`; nothing while a run is in progress (R85). -/
def execErrLogClear (s : State) : Step := .next (if s.cmdBlocked Key.errLogClearRes then s else s.errLogClear)

/-- `CLAMP_LOG_CLEAR`. -/
def execClampLogClear (s : State) : Step := .next (if s.cmdBlocked Key.clampLogClearRes then s else s.clampLogClear)

/-- `DICT_STORE`. -/
def execDictStore (s : State) : Step := .next (if s.cmdBlocked Key.dictStoreRes then s else s.storeCmd 1)

/-- `DICT_ERASE`. -/
def execDictErase (s : State) : Step := .next (if s.cmdBlocked Key.dictStoreRes then s else s.storeCmd 2)

/-- `DICT_STORE_DONE`: the bank C write has ended (R67). -/
def execDictStoreDone (ok : Bool) (s : State) : Step :=
  .next (match s.dict.storing with
    | none => s
    | some set =>
      let s := { s with dict := { s.dict with storing := none } }
      if ok then ({ s with dict := { s.dict with bankC := set } }).resEnd Key.dictStoreRes 0
      else s.resEnd Key.dictStoreRes 1)

/-- `TREE_SWITCH`; nothing while a run is in progress. -/
def execTreeSwitch (s : State) : Step := .next (if s.cmdBlocked Key.treeSwitchRes then s else s.treeSwitch)

/-- `SEAT_WINDOW_EXPIRY`: the trial ends and the device falls back by a warm reset (R428). -/
def execSeatWindowExpiry (dt : Nat) (s : State) : Step :=
  let s := s.advance dt
  .next (if s.seatExpired then s.warmReset 6 else s)

/-- `PWR_STATE_CMD`; nothing while a run is in progress. -/
def execPwrStateCmd (t : Fin 3) (s : State) : Step :=
  .next (if s.cmdBlocked Key.pwrStateRes then s else s.pwrCmd (t + 2))

/-! ### DOMAIN objects (R82 item 4) -/

/-- Content check of `CAMP_TARGETS` of campaign k (Table 4-19, R397); a missing store is posted. -/
def State.targetsTake (s : State) (k : Nat) (d : Bytes) : State × Bool :=
  let l := euiList d
  let t := s.rd (Key.campTenant k)
  let ok := d.length % 8 == 0 && decide (8 ≤ d.length) && decide l.Nodup && l.all (fun u => (s.halterFind t u).isSome)
  if !ok then (s, false)
  else if s.targetStore.isNone then (s.lacePost .laceNoStore k, false)
  else (s.storeTargets k d, true)

/-- A new layout is written (R302, R305, R322). -/
def State.layoutTake (s : State) (d : Bytes) : State × Bool :=
  if !layoutOk d (s.rd Key.sbAttached) then (s, false)
  else
    let s := s.setDom Key.sbLayout d
    if !s.sbUp then (s, true)
    else
      let r := s.takeLayout (some (layoutRegions d))
      let s := r.1.journalResume
      (if r.2 then s.askRebuild 2 else s, true)

/-- The content check of an object's staging copy, and its taking effect; tells whether it passed. -/
def State.domainTake (s : State) (t : Transfer) : State × Bool :=
  let k := t.key
  let idx := k / 256
  let d := t.staged
  if 0x2301 ≤ idx ∧ idx ≤ 0x2304 then (if stampOk (idx - 0x2301) d then ((((s.setDom k d).servedFollow s)).placeAll, true) else (s, false))
  else if 0x2401 ≤ idx ∧ idx ≤ 0x2404 then
    let p := idx - 0x2401
    if s.calCoeffOk p d then ((s.setDom k d).setPort p { (s.port p) with calibrated := true }, true) else (s, false)
  else if k = Key.costTable then (if costTableOk d then (s.setDom k d, true) else (s, false))
  else if k = Key.sbLayout then s.layoutTake d
  else if k = Key.nodeWin then s.winTake t.winFirst t.winCount d
  else if 0x5110 ≤ idx ∧ idx ≤ 0x511F then s.targetsTake (idx - 0x5110) d
  else if k = Key.treeImage then s.treeLast d.length
  else if k = Key.tagNdef then (if ndefOk d then (s.tagCommit d, true) else (s, false))
  else if 0x7001 ≤ idx ∧ idx ≤ 0x7010 then
    let n := idx - 0x7001
    if s.coreImageOk n d then ((s.coreImageTake n d).setDom k d, true) else (s, false)
  else (s, false)

/-! ### Transactions (R87 to R93, R451, R452) -/

/-- Replace the transaction. -/
def State.setTxn (s : State) (t : Option Txn) : State := { s with dict := { s.dict with txn := t } }

/-- The transaction ends, and its outcome is recorded among the last 4 (R90). -/
def State.txnEnd (s : State) (t : Txn) (o : TxnOutcome) : State :=
  { s with dict := { s.dict with txn := none, outcomes := ({ origin := t.origin, txn := t.txn, outcome := o } :: s.dict.outcomes).take 4 } }

/-- Recorded outcome of a transaction (R90). -/
def State.txnRecorded (s : State) (origin txn : Nat) : Option TxnOutcome :=
  (s.dict.outcomes.find? (fun r => r.origin == origin && r.txn == txn)).map (·.outcome)

/-- The four channel maps of a tenant. -/
def State.mapsOf (s : State) (t : Nat) : List Nat := [0, 1, 2, 3].map (fun p => s.rd (Key.tenChmap t p))

/-- Chain time, in ns, at which the second whole slotframe that begins at or after now ends (R93). -/
def State.graceEnd (s : State) (slots : Nat) : Nat :=
  let n := (s.nowNs + s.slotNs - 1) / s.slotNs
  ((n + slots - 1) / slots * slots + 2 * slots) * s.slotNs

/-- A tenant's maps have changed from old ones: its grace starts anew (R93). -/
def State.graceStart (s : State) (t : Nat) (old : List Nat) : State :=
  let rest := s.dict.graces.filter (fun g => g.tenant != t)
  let gs := match s.served t with
    | some f => rest ++ [{ tenant := t, oldMaps := old, endsAt := s.graceEnd (s.rd (Key.sfSlots f)), counted := [] }]
    | none => rest
  ({ s with dict := { s.dict with graces := gs } }).compatLost t old

/-- What blocks do at the instant a transaction applies. -/
def State.afterApply (s : State) (old : State) (keys : List Nat) : State :=
  let changed (k : Nat) : Bool := old.rd k != s.rd k
  let touched (lo hi : Nat) : Bool := keys.any (fun k => decide (lo ≤ k / 256 ∧ k / 256 ≤ hi))
  let s := if changed Key.girthSlotUs then s.slotChange else s
  let s := if touched 0x3010 0x31FF then (s.framesFollow old).slotframesApplied else s
  let tenants := (List.range 256).filter (fun t => old.mapsOf t != s.mapsOf t)
  let s := s.each tenants (fun s t => s.graceStart t (old.mapsOf t))
  let s := s.servedFollow old
  let s := if touched 0x2100 0x220F || touched 0x3000 0x31FF then s.placeAll else s
  s.each [0, 1, 2, 3] (fun s p => if changed (Key.portCentreKhz p) then s.centreApplied p else s)

/-- Every staged subentry applies at one instant (R88, R451, R452). -/
def State.txnApply (s : State) (t : Txn) : State :=
  let old := s
  let s := (s.each t.staged (fun s p => s.wr p.1 p.2)).txnEnd t .applied
  let s := if s.clock.state = 0 ∨ s.clock.state = 3 then
      s.post .epochUnsynced 0x1202 (txnId t.origin t.txn) s.clock.state timeDom
    else s
  (s.afterApply old (t.staged.map (·.1))).enumResume

/-- The armed transaction whose epoch the counter has reached applies (R451). -/
def State.epochCheck (s : State) : State :=
  match s.dict.txn with
  | some t => if t.phase = .armed ∧ timeNs t.epoch ≤ s.nowNs then s.txnApply t else s
  | none => s

/-- `EPOCH_APPLY`. -/
def execEpochApply (dt : Nat) (s : State) : Step := .next (s.advance dt).epochCheck

/-- A transaction expires and is reported (Table 3-8, R95). -/
def State.txnExpire (s : State) (t : Txn) : State :=
  ((s.txnEnd t .expired).post .txnExpired 0x1202 (txnId t.origin t.txn)).enumResume

/-- `TXN_IDLE_EXPIRY` (Table 3-8). -/
def execTxnIdleExpiry (dt : Nat) (s : State) : Step :=
  let s := s.advance dt
  .next (match s.dict.txn with
    | some t => if t.phase = .opened ∧ t.lastReq + ms (s.rd Key.dictTxnIdleMs) ≤ s.elapsed then s.txnExpire t else s
    | none => s)

/-- `COMMIT_GRACE_EXPIRY` (Table 3-8). -/
def execCommitGraceExpiry (dt : Nat) (s : State) : Step :=
  let s := s.advance dt
  .next (match s.dict.txn with
    | some t =>
      if t.phase = .prepared ∧ timeNs t.epoch + 1000000 * s.rd Key.dictCommitGraceMs ≤ s.nowNs then s.txnExpire t else s
    | none => s)

/-- `GRACE_END` (R93). -/
def execGraceEnd (tenant dt : Nat) (s : State) : Step :=
  let s := s.advance dt
  .next (match s.dict.graces.find? (fun g => g.tenant == tenant) with
    | some g =>
      if g.endsAt ≤ s.nowNs then
        ({ s with dict := { s.dict with graces := s.dict.graces.filter (fun h => h.tenant != tenant) } }).placeAll
      else s
    | none => s)

end Sys2Proof.Machine
end

