-- ==== Sys2Proof/Machine/DictServer.lean ====
section
/-! DEFINITION. The dictionary server: access frames, operations, stored responses, forwarding and NOTIFY (R74 to R90, R509). -/

namespace Sys2Proof.Machine

/-! ### Access frames (Table 3-3, R577) -/

/-- The bytes of a header and payload, without the CRC. -/
def accessBytes (a : Access) : Bytes :=
  let b (v : Bool) (k : Nat) : Nat := if v then 2 ^ k else 0
  leBytes 24 (a.ver % 16 * 2 ^ 188 + a.op % 16 * 2 ^ 184 + b a.resp 183 + b a.last 182 + b a.pending 181 + b a.sub 180
    + b a.retry 179 + a.status % 256 * 2 ^ 168 + a.target % 256 * 2 ^ 160 + a.origin % 256 * 2 ^ 152 + a.reqId % 65536 * 2 ^ 136
    + a.index % 65536 * 2 ^ 112 + a.subindex % 256 * 2 ^ 104 + a.subcount % 256 * 2 ^ 96 + a.offset % 2 ^ 32 * 2 ^ 64
    + a.length % 65536 * 2 ^ 48 + a.txn % 65536 * 2 ^ 32) ++ a.payload

/-- The access frame that bytes spell; a frame without CRC counts as passed. -/
def parseAccess (bs : Bytes) : Access :=
  let x := leNat (slice bs 0 24)
  { ver := bits x 188 4, op := bits x 184 4, resp := bitOf x 183, last := bitOf x 182, pending := bitOf x 181, sub := bitOf x 180,
    retry := bitOf x 179, status := bits x 168 8, target := bits x 160 8, origin := bits x 152 8, reqId := bits x 136 16,
    index := bits x 112 16, subindex := bits x 104 8, subcount := bits x 96 8, offset := bits x 64 32, length := bits x 48 16,
    txn := bits x 32 16, payload := bs.drop 24, crcOk := true }

/-- The response to a request; the header repeats the request's (DEDUCED, log 51). -/
def respond (a : Access) (status : Nat) (payload : Bytes) : Access :=
  { a with resp := true, status := status, payload := payload, length := payload.length, crcOk := true }

/-- The first failing header check of R74: `BAD_OP` or `BAD_LENGTH`. LENGTH of a READ_BLOCK gives the bytes wanted. -/
def headerStatus (a : Access) : Option Nat :=
  if a.ver ≠ 1 ∨ a.op = 0 ∨ 8 < a.op then some 0x16
  else if (63 < a.target ∧ a.target ≠ 0x40) ∨ (a.target = 0x40 ∧ !(a.op == 2 || a.op == 5 || a.op == 6 || a.op == 7)) then some 0x16
  else if (63 < a.origin ∧ a.origin < 0x80) ∨ 0xBF < a.origin then some 0x16
  else if a.subcount = 0 ∨ (a.subcount ≠ 1 ∧ a.op ≠ 1 ∧ a.op ≠ 2) then some 0x16
  else if a.status ≠ 0 then some 0x16
  else if 1024 < a.length ∨ (a.op ≠ 3 ∧ a.length ≠ a.payload.length) then some 0x17
  else none

/-- Device of an ORIGIN (Table 3-3). -/
def originDevice (o : Nat) : Nat := o % 0x80

/-- Chain TAG of an access frame (R75). -/
def accessTag (a : Access) : Nat := a.origin * 2 ^ 24 + a.reqId

/-! ### Where answers go (R74, R75, R509) -/

/-- The mailbox queue has room for the next response (R509). -/
def State.mailboxRoom (s : State) : Bool := decide (s.host.mailbox.length < 32) && s.host.mailboxWait.isEmpty

/-- A response enters the mailbox, or waits while 32 are queued (R508, R509). -/
def State.mailboxIn (s : State) (a : Access) (chain : Bool) : State :=
  if s.mailboxRoom then ({ s with host := { s.host with mailbox := s.host.mailbox ++ [a] } }).setCause 64
  else { s with host := { s.host with mailboxWait := s.host.mailboxWait ++ [(a, chain)] } }

/-- A frame arrives in a core's dictionary port (R477). -/
def State.corePut (s : State) (n : Nat) (a : Access) : State :=
  let c := KMap.getD s.cores.core (Core.atReset n) n
  let c : Core := { c with dictRsp := some (accessBytes a) }
  ({ s with cores := { s.cores with core := KMap.setD s.cores.core (Core.atReset n) n c } }).raise (144 + n)

/-- Send an access frame in a DICT frame (R75). -/
def State.dictSend (s : State) (dst : Nat) (a : Access) : State :=
  s.sendChain dst 0 0 (24 + a.payload.length + 4) (accessTag a) (.dict a)

/-- An answer returns to where its request came from. -/
def State.answerTo (s : State) (via : Via) (a : Access) : State :=
  let s := s.emit (.access via a)
  match via with
  | .mailbox => s.mailboxIn a false
  | .chain _ => s.dictSend (originDevice a.origin) a
  | .core n => s.corePut n a

/-! ### Operations -/

/-- Answer of an operation: status, payload, and the run that starts once it is sent. -/
structure Reply where
  state : State
  status : Nat
  payload : Bytes
  run : Option (Nat × Nat)

/-- An answer without a payload. -/
def State.say (s : State) (status : Nat) : Reply := { state := s, status := status, payload := [], run := none }

/-- Row of a subindex 0x00: a U8 constant (R96). -/
def countRow (idx : Nat) : Dict.Entry := Dict.e "" idx 1 0 1 1 0 (.u 1) .const 0 false .none 0

/-- Row of a subentry, subindex 0x00 included. -/
def rowOf (idx sub : Nat) : Option Dict.Entry :=
  if sub = 0 then some (countRow idx) else if 255 < sub then none else Dict.find idx sub

/-- Rows of n consecutive subentries; none where one is absent. -/
def rowsFrom (idx : Nat) : Nat → Nat → Option (List Dict.Entry)
  | _, 0 => some []
  | sub, n + 1 => match rowOf idx sub, rowsFrom idx (sub + 1) n with
    | some r, some l => some (r :: l)
    | _, _ => none

/-- The rows that a request names, or `NO_OBJECT` or `NO_SUBINDEX`. -/
def namedRows (a : Access) : Nat ⊕ List Dict.Entry :=
  if !Dict.present a.index then .inl 0x10
  else match rowsFrom a.index a.subindex a.subcount with
    | none => .inl 0x11
    | some l => .inr l

/-- The value that READ returns of a subentry: staged, where PENDING asks for it, else present. -/
def State.readValue (s : State) (a : Access) (k : Nat) : Nat :=
  match s.dict.txn with
  | some t =>
    (match (if a.pending then KMap.find t.staged k else none) with
      | some v => v
      | none => s.value (k / 256) (k % 256))
  | none => s.value (k / 256) (k % 256)

/-- Values of consecutive subentries, each at its own size (R59). -/
def State.readBytes (s : State) (a : Access) : Nat → List Dict.Entry → Bytes
  | _, [] => []
  | sub, r :: rest => leBytes r.ty.size (s.readValue a (keyOf a.index sub)) ++ s.readBytes a (sub + 1) rest

/-- Counters among consecutive subentries that clear when read are cleared (R64). -/
def State.readClears (s : State) (idx : Nat) : Nat → List Dict.Entry → State
  | _, [] => s
  | sub, r :: rest => (if r.clears then s.clearRead idx sub else s).readClears idx (sub + 1) rest

/-- READ (R61, R63, R64). DOMAIN values travel by blocks only: a READ of one gets `ACCESS` (DESIGN CHOICE, log 111). -/
def State.readOp (s : State) (a : Access) : Reply :=
  match namedRows a with
  | .inl e => s.say e
  | .inr l =>
    if l.any (fun r => r.ty == .domain) then s.say 0x12
    else { state := s.readClears a.index a.subindex l, status := 0, payload := s.readBytes a a.subindex l, run := none }

/-- A READ of this request clears a counter, so that its answer is stored (R78). -/
def readsCounter (a : Access) : Bool :=
  match namedRows a with
  | .inl _ => false
  | .inr l => l.any (·.clears) && !l.any (fun r => r.ty == .domain)

/-- Class group of a subentry in a WRITE (R62): 0 not written, 1 RWE, 2 CMD, 3 RW, RWP and WO. -/
def classGroup (r : Dict.Entry) : Nat :=
  if r.ty = .domain then 0
  else match r.acc with
    | .const | .ro | .res => 0
    | .rwe => 1
    | .cmd => 2
    | .rw | .rwp | .wo => 3

/-- The group of a WRITE; 0 where R61 or R62 forbids it. -/
def writeGroup (l : List Dict.Entry) : Nat :=
  match l with
  | [] => 0
  | r :: rest =>
    let g := classGroup r
    if rest.any (fun x => classGroup x != g) || (g == 2 && !rest.isEmpty) then 0 else g

/-- Values of a WRITE payload, one per row. -/
def splitValues : List Dict.Entry → Bytes → List (Dict.Entry × Nat)
  | [], _ => []
  | r :: rest, p => (r, leNat (p.take r.ty.size)) :: splitValues rest (p.drop r.ty.size)

/-- A command that this device does not take: `TIME_SET` on a member (Table 4-6), `CORE_RUN_CMD` of cores 0 to 11
(Table 4-22). -/
def State.cmdAbsent (s : State) (k : Nat) : Bool :=
  (k == Key.timeSet && !s.isHead) || (decide (0x7001 ≤ k / 256 ∧ k / 256 ≤ 0x700C) && k % 256 == 3)

/-- Field report of a WRITE with a status. -/
def State.report (s : State) (status : Nat) (masks : List Nat) : Reply :=
  { state := s, status := status, payload := reportBytes masks, run := none }

/-- `OK`, or `CLAMPED` with its report (R70, R72). -/
def State.written (s : State) (l : List Written) : Reply :=
  if l.all (fun w => w.out.clamped == 0) then s.say 0 else s.report 1 (l.map (·.out.clamped))

/-- A command is written (R83, R85). The answer carries the sequence of the run, which starts once it is sent. -/
def State.writeCmd (s : State) (k : Nat) (w : Written) : Reply :=
  let role : Bool := k == Key.chainEnumCmd && s.rd Key.chainRole != 1
  let r := s.res (resKey k)
  if role then s.report 0x14 [1]
  else if r.busy then s.say 0x15
  else { state := s, status := 0, payload := leBytes 4 (nextResSeq r.seq), run := some (k, w.out.stored) }

/-- The transaction a request names is the one held. -/
def txnIsOf (t : Txn) (a : Access) : Bool := t.origin == a.origin && t.txn == a.txn

/-- Values of a transaction that are staged so far. -/
def State.stagedNow (s : State) : KMap Nat :=
  match s.dict.txn with
  | some t => t.staged
  | none => []

/-- Why a WRITE to RWE subentries stages nothing (Table 3-8). -/
def State.stageBad (s : State) (a : Access) : Option Nat :=
  if a.txn = 0 then some 0x30
  else match s.dict.txn with
    | none => none
    | some t => if !txnIsOf t a then some 0x31 else if t.phase ≠ .opened then some 0x32 else none

/-- Checked values enter the transaction, which opens where none is held (Table 3-8, R73). -/
def State.stage (s : State) (a : Access) (l : List Written) : State :=
  let staged := l.foldl (fun m w => KMap.put m w.key w.out.stored) s.stagedNow
  let t : Txn := { origin := a.origin, txn := a.txn, phase := .opened, epoch := { sec := 0, ns := 0 }, staged := staged, lastReq := s.elapsed }
  (s.setTxn (some t)).each l (fun s w => s.clampEntries a.origin w)

/-- The checked values of a WRITE act by their class group. -/
def State.writeTake (s : State) (a : Access) (g : Nat) (l : List Written) : Reply :=
  if l.any (fun w => w.out.rejected != 0) then s.report 0x14 (l.map (·.out.rejected))
  else if g = 1 then (s.stage a l).written l
  else if g = 2 then
    match l with
    | w :: _ => s.writeCmd w.key w
    | [] => s.say 0
  else (s.applyWrite a.origin a.index l).written l

/-- WRITE (R62, R63, R69 to R73, R83, R87); of a DOMAIN subentry it gets `ACCESS` (DESIGN CHOICE, log 111). -/
def State.writeOp (s : State) (a : Access) : Reply :=
  match namedRows a with
  | .inl e => s.say e
  | .inr l =>
    let g := writeGroup l
    if g = 0 ∨ (g = 2 ∧ s.cmdAbsent (keyOf a.index a.subindex)) then s.say 0x12
    else if (l.map (·.ty.size)).sum ≠ a.payload.length then s.say 0x13
    else match (if g = 1 then s.stageBad a else none) with
      | some e => s.say e
      | none =>
        let before := if g = 1 then s.stagedNow else []
        s.writeTake a g (s.checkAll a.index a.subindex before (splitValues l a.payload))

/-! ### Blocks (R61, R82, R421) -/

/-- READ_BLOCK: the live object (R61, R82). -/
def State.readBlockOp (s : State) (a : Access) : Reply :=
  match namedRows a with
  | .inl e => s.say e
  | .inr l =>
    match l with
    | [r] =>
      if r.ty ≠ .domain then s.say 0x12
      else
        let d := ((s.domainBytes a.index a.subindex r).drop a.offset).take a.length
        let s := if 0x5110 ≤ a.index ∧ a.index ≤ 0x511F ∧ r.acc ≠ .res then s.targetCheck (a.index - 0x5110) else s
        { state := s, status := if d.length < a.length ∨ r.acc = .wo then 4 else 0, payload := d, run := none }
    | _ => s.say 0x12

/-- A DOMAIN object takes no transfer: its class, `STAMP_PORT` after lock (R153), `CORE_IMAGE` of cores 0 to 11. -/
def State.blockAbsent (s : State) (idx : Nat) (r : Dict.Entry) : Bool :=
  r.ty != .domain || !(r.acc == .rw || r.acc == .rwp || r.acc == .wo)
    || (decide (0x2301 ≤ idx ∧ idx ≤ 0x2304) && s.fuses.locked.isSome)
    || decide (0x7001 ≤ idx ∧ idx ≤ 0x700C)

/-- The transfer of an origin to an object. -/
def State.transferOf (s : State) (origin k : Nat) : Option Transfer :=
  s.dict.transfers.find? (fun t => t.origin == origin && t.key == k)

/-- The transfer to an object is abandoned or has ended. -/
def State.transferDrop (s : State) (k : Nat) : State :=
  { s with dict := { s.dict with transfers := s.dict.transfers.filter (fun t => t.key != k) } }

/-- A transfer stands as given. -/
def State.transferPut (s : State) (t : Transfer) : State :=
  let s := s.transferDrop t.key
  { s with dict := { s.dict with transfers := s.dict.transfers ++ [t] } }

/-- Greatest length of a transfer: `NODE_WIN` by its window, `TREE_IMAGE` by its header (R124, R421). -/
def State.transferMax (s : State) (r : Dict.Entry) (t : Transfer) : Nat :=
  if t.key = Key.nodeWin then 256 * t.winCount
  else if t.key = Key.treeImage then imageLen (s.bank s.idleBank).image
  else r.maxLen

/-- Post `STAGE_LOST` for an object's index (R82, R95). -/
def State.stageLost (s : State) (idx : Nat) : State := s.post .stageLost 0x1202 idx

/-- The transfer to an object is abandoned, which is posted (R82, R95). -/
def State.transferLost (s : State) (k : Nat) : State := (s.transferDrop k).stageLost (k / 256)

/-- The last block: the transfer ends, then its content check; a copy that fails it is abandoned (R82 item 4). -/
def State.blockLast (s : State) (t : Transfer) : Reply :=
  let r := (s.transferDrop t.key).domainTake t
  if r.2 then r.1.say 0 else (r.1.stageLost (t.key / 256)).say 0x23

/-- A block joins its staging copy. -/
def State.blockJoin (s : State) (r : Dict.Entry) (t : Transfer) (a : Access) : Reply :=
  if s.transferMax r t < t.staged.length + a.payload.length then (s.transferLost t.key).say 0x24
  else
    let s := if t.key = Key.treeImage ∧ t.staged ≠ [] then s.treeBlock t.staged.length a.payload else s
    let t := { t with staged := t.staged ++ a.payload, lastBlock := s.elapsed }
    if a.last then s.blockLast t else (s.transferPut t).say 0

/-- The block at OFFSET 0 opens a staging copy (R82 item 1, R421). -/
def State.blockOpen (s : State) (k : Nat) (r : Dict.Entry) (a : Access) : Reply :=
  if s.dict.transfers.any (fun t => t.key == k && t.origin != a.origin) then s.say 0x21
  else if k = Key.treeImage ∧ s.tree.window.isSome then s.say 0x21
  else
    let s := if (s.transferOf a.origin k).isSome then s.transferLost k else s
    if 4 ≤ s.dict.transfers.length then s.say 0x40
    else
      let t : Transfer := { origin := a.origin, key := k, staged := [], lastBlock := s.elapsed, winFirst := s.rd Key.nodeWinFirst,
                            winCount := s.rd Key.nodeWinCount }
      if k = Key.treeImage then
        let f := s.treeFirst a.payload
        if f.2 then f.1.blockJoin r t a else (f.1.stageLost (k / 256)).say 0x23
      else s.blockJoin r t a

/-- A later block (R82 item 2). -/
def State.blockNext (s : State) (k : Nat) (r : Dict.Entry) (a : Access) : Reply :=
  match s.transferOf a.origin k with
  | none => (s.stageLost (k / 256)).say 0x22
  | some t => if t.staged.length ≠ a.offset then s.say 0x20 else s.blockJoin r t a

/-- WRITE_BLOCK (R82, R118). The `REJECTED` answer of a campaign that is not open carries no payload (Table 3-4). -/
def State.writeBlockOp (s : State) (a : Access) : Reply :=
  match namedRows a with
  | .inl e => s.say e
  | .inr l =>
    match l with
    | [r] =>
      let k := keyOf a.index a.subindex
      if s.blockAbsent a.index r then s.say 0x12
      else if s.campClosed a.index then s.say 0x14
      else if a.offset = 0 then s.blockOpen k r a
      else s.blockNext k r a
    | _ => s.say 0x12

/-- `BLOCK_IDLE_EXPIRY` (R82 item 5). -/
def execBlockIdleExpiry (origin key dt : Nat) (s : State) : Step :=
  let s := s.advance dt
  .next (match s.transferOf origin key with
    | some t =>
      if t.lastBlock + ms (s.rd Key.dictBlockIdleMs) ≤ s.elapsed then s.transferLost key else s
    | none => s)

/-! ### Transactions (Table 3-8, R88 to R90) -/

/-- Mask of one staged value checked again: a field that a fresh staging would clamp or reject (R88). -/
def State.stagedMask (s : State) (staged : KMap Nat) (p : Nat × Nat) : Nat :=
  match Dict.find (p.1 / 256) (p.1 % 256) with
  | some r =>
    let c := s.check (s.stands staged) r (p.1 / 256) (p.1 % 256) p.2
    c.clamped ||| c.rejected
  | none => 0

/-- PREPARE of the open transaction. -/
def State.prepareOpen (s : State) (t : Txn) (e : Time80) : Reply :=
  let masks := t.staged.map (fun p => s.stagedMask t.staged p)
  if timeNs e < s.nowNs + 1000000 then s.say 0x34
  else if s.nowNs + 1000000000 * s.rd Key.dictEpochMaxS < timeNs e then s.say 0x35
  else if masks.any (· != 0) then s.report 0x14 masks
  else (s.setTxn (some { t with phase := .prepared, epoch := e })).say 0

/-- PREPARE (Table 3-8). TXN 0 names no transaction, so it is answered as another one's: `TXN_CONFLICT` while one is held, `NO_TXN`
else (DESIGN CHOICE, log 22). -/
def State.prepareOp (s : State) (a : Access) : Reply :=
  if a.payload.length ≠ 10 then s.say 0x13
  else
    let e := rawToTime (leNat a.payload)
    match s.dict.txn with
    | none => s.say 0x30
    | some t =>
      if !txnIsOf t a then s.say 0x31
      else if t.phase = .opened then s.prepareOpen t e
      else if t.epoch = e then s.say 0
      else s.say 0x31

/-- COMMIT or ABORT of a transaction that is not held, from the record (R90). -/
def State.txnAnswer (s : State) (a : Access) (commit : Bool) : Nat :=
  match s.txnRecorded a.origin a.txn with
  | some .applied => 3
  | some .aborted | some .expired => if commit then 0x37 else 0
  | none => if commit then 0x33 else 0

/-- COMMIT of a prepared transaction: armed before its epoch, applied at once from then on (Table 3-8, R95). -/
def State.commitPrepared (s : State) (t : Txn) : Reply :=
  if s.nowNs < timeNs t.epoch then (s.setTxn (some { t with phase := .armed })).enumResume.say 0
  else ((s.txnApply t).post .late 0x1202 (txnId t.origin t.txn)).say 2

/-- COMMIT (Table 3-8); with TXN 0 it names a transaction that no record holds (DESIGN CHOICE, log 22). -/
def State.commitOp (s : State) (a : Access) : Reply :=
  match s.dict.txn with
  | none => s.say (s.txnAnswer a true)
  | some t =>
    if !txnIsOf t a then s.say (s.txnAnswer a true)
    else match t.phase with
      | .opened => s.say 0x33
      | .prepared => s.commitPrepared t
      | .armed => s.say 0

/-- ABORT (Table 3-8); with TXN 0 it ends the transfers to the index it names (R82 item 5). -/
def State.abortOp (s : State) (a : Access) : Reply :=
  if a.txn = 0 then
    let lost := s.dict.transfers.filter (fun t => t.key / 256 == a.index)
    (s.each lost (fun s t => s.transferLost t.key)).say 0
  else match s.dict.txn with
    | none => s.say (s.txnAnswer a false)
    | some t => if txnIsOf t a then (s.txnEnd t .aborted).enumResume.say 0 else s.say (s.txnAnswer a false)

/-! ### NOTIFY (R81) -/

/-- What a subscription watches: the value, or the sequence of a RES object. -/
def State.watched (s : State) (k : Nat) : Nat :=
  if accessOf k = .res then (s.res k).seq else s.value (k / 256) (k % 256)

/-- NOTIFY (R72, R81). A DOMAIN subentry that is no RES object gets `ACCESS`; a subscription of the same origin to the same subentry is
replaced and counts anew; ending one that does not stand is `OK` (DESIGN CHOICE, log 112). -/
def State.notifyOp (s : State) (via : Via) (a : Access) : Reply :=
  let k := keyOf a.index a.subindex
  match namedRows a with
  | .inl e => s.say e
  | .inr l =>
    let rest := s.dict.subs.filter (fun x => !(x.origin == a.origin && x.key == k))
    if l.any (fun r => r.ty == .domain && r.acc != .res) then s.say 0x12
    else if !a.sub then ({ s with dict := { s.dict with subs := rest } }).say 0
    else if a.payload.length ≠ 4 then s.say 0x13
    else if 32 ≤ rest.length then s.say 0x40
    else
      let want := leNat a.payload
      let iv := max 100 (min 10000000 want)
      let sub : Subscription :=
        { via := via, origin := a.origin, key := k, intervalUs := iv, lastSent := none, count := 0, seen := s.watched k }
      let s := { s with dict := { s.dict with subs := rest ++ [sub] } }
      if iv = want then s.say 0 else s.report 1 [1]

/-- Items of strap queue 1 that carry an event to the host: the frame's header and payload (R509; its layout is a DESIGN
CHOICE, log 52). -/
def State.notifyHost (s : State) (a : Access) : State :=
  let b := accessBytes a
  s.strapPush 1 ((8 + b.length + 59) / 60) b

/-- An event for an origin on this device arrives: for the host in strap queue 1, for firmware at core 0 (R509, log 52). -/
def State.notifyHere (s : State) (a : Access) : State :=
  if 0x80 ≤ a.origin then s.notifyHost a else s.corePut 0 a

/-- Payload of an event: the value at the time of sending, or a RES record header. -/
def State.eventBytes (s : State) (k : Nat) : Bytes :=
  if accessOf k = .res then s.resBytes k 8
  else match rowOf (k / 256) (k % 256) with
    | some r => leBytes r.ty.size (s.value (k / 256) (k % 256))
    | none => []

/-- The event of a subscription. Its TARGET is this device's own address (DESIGN CHOICE, log 112). -/
def State.eventOf (s : State) (x : Subscription) : Access :=
  let p := s.eventBytes x.key
  { ver := 1, op := 8, resp := false, last := false, pending := false, sub := false, retry := false, status := 0, target := s.addr,
    origin := x.origin, reqId := (x.count + 1) % 65536, index := x.key / 256, subindex := x.key % 256, subcount := 1, offset := 0,
    length := p.length, txn := 0, payload := p, crcOk := true }

/-- The event goes to the subscriber. -/
def State.eventSend (s : State) (x : Subscription) (a : Access) : State :=
  let s := s.emit (.notify x.via a)
  match x.via with
  | .mailbox => s.notifyHost a
  | .core n => s.corePut n a
  | .chain _ => s.dictSend (originDevice x.origin) a

/-- `NOTIFY_EVENT_SEND` of a subscription: once per interval, when the watched value has changed (R81). -/
def execNotifyEventSend (slot dt : Nat) (s : State) : Step :=
  let s := s.advance dt
  .next (match s.dict.subs[slot]? with
    | none => s
    | some x =>
      let v := s.watched x.key
      let early : Bool := match x.lastSent with
        | some t => decide (s.elapsed < t + us x.intervalUs)
        | none => false
      if v = x.seen ∨ early then s
      else
        let a := s.eventOf x
        let x' := { x with seen := v, count := a.reqId, lastSent := some s.elapsed }
        ({ s with dict := { s.dict with subs := modifyAt (fun _ => x') slot s.dict.subs } }).eventSend x a)

/-! ### Serving a request (R68, R74, R78, R424) -/

/-- A request of the transaction held keeps it from idling (Table 3-8). -/
def State.txnTouch (s : State) (a : Access) : State :=
  match s.dict.txn with
  | some t => if a.txn ≠ 0 ∧ txnIsOf t a then s.setTxn (some { t with lastReq := s.elapsed }) else s
  | none => s

/-- A block of an open transfer keeps it from idling, whatever its answer (R82 item 5). -/
def State.blockTouch (s : State) (a : Access) : State :=
  if a.op ≠ 4 then s
  else match s.transferOf a.origin (keyOf a.index a.subindex) with
    | some t => s.transferPut { t with lastBlock := s.elapsed }
    | none => s

/-- The operation of a request whose header has passed (Table 3-4). -/
def State.runOp (s : State) (via : Via) (a : Access) : Reply :=
  match a.op with
  | 1 => s.readOp a
  | 2 => s.writeOp a
  | 3 => s.readBlockOp a
  | 4 => s.writeBlockOp a
  | 5 => s.prepareOp a
  | 6 => s.commitOp a
  | 7 => s.abortOp a
  | 8 => s.notifyOp via a
  | _ => s.say 0x16

/-- The answer of a request is kept (R78). -/
def keeps (a : Access) : Bool := a.op == 2 || (decide (4 ≤ a.op) && decide (a.op ≤ 7)) || (a.op == 1 && readsCounter a)

/-- The answers kept with one more: the last 8 of its ORIGIN (R78). -/
def storeAnswer (l : List Stored) (x : Stored) : List Stored :=
  let own := (l.filter (fun y => y.origin == x.origin)).take 7
  x :: own ++ l.filter (fun y => y.origin != x.origin)

/-- The stored answer of a repeated request (R78). -/
def State.storedFor (s : State) (a : Access) : Option Access :=
  (s.dict.stored.find? (fun x => x.origin == a.origin && x.reqId == a.reqId)).map (·.answer)

/-- A request is executed and answered; a run that it starts begins after its answer is kept and sent. -/
def State.execute (s : State) (via : Via) (a : Access) : State :=
  let r := s.runOp via a
  let ans := respond a r.status r.payload
  let s := r.state
  let s := if keeps a then
      { s with dict := { s.dict with stored := storeAnswer s.dict.stored { origin := a.origin, reqId := a.reqId, answer := ans } } }
    else s
  let s := s.answerTo via ans
  match r.run with
  | some (k, v) => (s.runCmd k v).epochCheck
  | none => s

/-- A frame whose CRC passed is answered. A repeated request too names its transaction and its transfer (R82, Table 3-8). -/
def State.answer (s : State) (via : Via) (a : Access) : State :=
  if !s.dict.ready ∨ (s.tree.rom ∧ !romServes a.index) then s.answerTo via (respond a 0x44 [])
  else match headerStatus a with
    | some e => s.answerTo via (respond a e [])
    | none =>
      let s := (s.txnTouch a).blockTouch a
      match s.storedFor a with
      | some ans => s.answerTo via ans
      | none => s.execute via a

/-- A request arrives at this device's server: it is dropped on its CRC, waits for a wake from STANDBY, or is answered (R74,
R537). A device whose seat window has expired gives no response (R428). The first 16 that wait stand in the server, later ones in the receive buffers (R77). -/
def State.serve (s : State) (via : Via) (a : Access) : State :=
  if !s.alive || s.seatLate then s
  else if !a.crcOk then s.bump Key.dictCrcErr
  else if s.dict.ready && s.pwr == 2 then ({ s with dict := { s.dict with waiting := s.dict.waiting ++ [(via, a)] } }).wake
  else s.answer via a

/-- The server holds 16 requests, so a further one stays in the receive buffer of its chain port (R77). -/
def State.serverFull (s : State) : Bool := s.dict.ready && s.pwr == 2 && decide (16 ≤ s.dict.waiting.length)

/-- The receive buffers give back the lane-1 units of the requests that they held for the server. -/
def State.heldReturn (s : State) : State :=
  let l := s.dict.held
  ({ s with dict := { s.dict with held := [] } }).each l (fun s x => s.credit x.1 1 x.2)

/-- The requests that waited for the wake are answered in order. -/
def State.serveWaiting (s : State) : State :=
  let l := s.dict.waiting
  (({ s with dict := { s.dict with waiting := [] } }).each l (fun s x => s.answer x.1 x.2)).heldReturn

/-! ### Requests to other devices (R75, R76, R79, R80, R509) -/

/-- Devices of the map other than this one. -/
def State.otherDevices (s : State) : List Nat :=
  ((topoLive s.chain.topo).map (·.addr)).filter (fun d => d != s.addr && decide (d ≤ 63))

/-- A request waits for its response. -/
def State.askedAdd (s : State) (via : Via) (a : Access) (dest : Nat) : State :=
  { s with dict := { s.dict with asked := s.dict.asked ++ [{ frame := a, via := via, dest := dest, sentAt := s.elapsed, resends := 0 }] } }

/-- A request of the host or of a core goes to its TARGET (R75, R509). -/
def State.ask (s : State) (via : Via) (a : Access) : State :=
  if a.target = 0x40 then
    let s := s.each s.otherDevices (fun s d => s.askedAdd via a d)
    (s.dictSend dstAll a).serve via a
  else if s.addr ≠ 0xFF ∧ s.otherDevices.contains a.target then (s.askedAdd via a a.target).dictSend a.target a
  else s.answerTo via (respond a 0x41 [])

/-- The request names this device: its address, or 0 while it has none (R509). -/
def State.ownTarget (s : State) (t : Nat) : Bool := if s.addr = 0xFF then t == 0 || t == 0x40 else t == s.addr

/-- A request arrives by any way: from the chain it is served; from the host or a core it is served here or forwarded. A header
out of range is answered here (R74). -/
def State.request (s : State) (via : Via) (a : Access) : State :=
  match via with
  | .chain _ => s.serve via a
  | .mailbox | .core _ =>
    if !s.alive || !a.crcOk || !s.dict.ready || (headerStatus a).isSome || s.ownTarget a.target then s.serve via a
    else s.ask via a

/-- One row of the operations: the frame carries its OP and is a request. -/
def State.opRow (s : State) (op : Nat) (via : Via) (a : Access) : State := s.request via { a with op := op, resp := false }

/-- `READ`. -/
def execRead (via : Via) (a : Access) (s : State) : Step := .next (s.opRow 1 via a)

/-- `WRITE`. -/
def execWrite (via : Via) (a : Access) (s : State) : Step := .next (s.opRow 2 via a)

/-- `READ_BLOCK`. -/
def execReadBlock (via : Via) (a : Access) (s : State) : Step := .next (s.opRow 3 via a)

/-- `WRITE_BLOCK`. -/
def execWriteBlock (via : Via) (a : Access) (s : State) : Step := .next (s.opRow 4 via a)

/-- `PREPARE`. -/
def execPrepare (via : Via) (a : Access) (s : State) : Step := .next (s.opRow 5 via a)

/-- `COMMIT`. -/
def execCommit (via : Via) (a : Access) (s : State) : Step := .next (s.opRow 6 via a)

/-- `ABORT`. -/
def execAbort (via : Via) (a : Access) (s : State) : Step := .next (s.opRow 7 via a)

/-- `NOTIFY`. -/
def execNotify (via : Via) (a : Access) (s : State) : Step := .next (s.opRow 8 via a)

/-- The request that a response of device src answers. -/
def askedBy (x : Asked) (src : Nat) (a : Access) : Bool :=
  x.dest == src && x.frame.origin == a.origin && x.frame.reqId == a.reqId

/-- A response arrives from a device and returns to its requester (R75); one that nothing waits for is dropped. chain: where the mailbox
is full it waits in the credits of its chain port (R509). -/
def State.dictResponse (s : State) (src : Nat) (a : Access) (chain : Bool) : State :=
  match s.dict.asked.find? (fun x => askedBy x src a) with
  | none => s
  | some x =>
    let s := { s with dict := { s.dict with asked := s.dict.asked.filter (fun y => !(askedBy y src a)) } }
    match x.via with
    | .mailbox => (s.emit (.access .mailbox a)).mailboxIn a chain
    | .chain _ | .core _ => s.answerTo x.via a

/-- A response of device src would wait for room in the mailbox (R509). -/
def State.responseWaits (s : State) (src : Nat) (a : Access) : Bool :=
  !s.mailboxRoom && (match s.dict.asked.find? (fun x => askedBy x src a) with
    | some x => (match x.via with
      | .mailbox => true
      | .chain _ | .core _ => false)
    | none => false)

/-- `DICT_RESPONSE_RX`; a frame whose CRC fails is dropped and counted (R74). -/
def execDictResponseRx (src : Nat) (a : Access) (s : State) : Step :=
  .next (if !s.alive then s else if !a.crcOk then s.bump Key.dictCrcErr else s.dictResponse src { a with resp := true } false)

/-- `DICT_RETRY_TIMEOUT` of a request that waits: it is sent again with RETRY set, or ends `TIMEOUT` (R76, R80). -/
def execDictRetryTimeout (slot dt : Nat) (s : State) : Step :=
  let s := s.advance dt
  .next (match s.dict.asked[slot]? with
    | none => s
    | some x =>
      if s.elapsed < x.sentAt + us (s.rd Key.dictTimeoutUs) then s
      else if x.resends < s.rd Key.dictRetries then
        let x' := { x with sentAt := s.elapsed, resends := x.resends + 1 }
        ({ s with dict := { s.dict with asked := modifyAt (fun _ => x') slot s.dict.asked } }).dictSend x.dest { x.frame with retry := true }
      else ({ s with dict := { s.dict with asked := removeAt slot s.dict.asked } }).answerTo x.via (respond x.frame 0x42 []))

end Sys2Proof.Machine
end

