-- ==== Sys2Proof/Machine/TablePort.lean ====
section
/-! DEFINITION. The table port's windows: arguments, the start of an operation, state and returned values (R337 to R339,
R381, R481, R508, R510). -/

namespace Sys2Proof.Machine

/-- The codes of Tables 12-5 and 14-3. -/
def tpCode (op : Nat) : Bool :=
  decide ((1 ≤ op ∧ op ≤ 4) ∨ op = 8 ∨ op = 9 ∨ (0x10 ≤ op ∧ op ≤ 0x13) ∨ (0x20 ≤ op ∧ op ≤ 0x26))

/-- Start an operation of requester who with its window's arguments: it joins the shared queue. A write while the requester is busy
is ignored, and a code that the tables do not list is rejected (R339, R508, R510). -/
def State.tpStart (s : State) (who op : Nat) : State :=
  let w := s.window who
  if w.busy || !tpCode op then s
  else
    let s := s.setWindow who { w with busy := true }
    { s with tables := { s.tables with ops := s.tables.ops ++ [{ who := who, op := op, arg := w.arg }] } }

/-- `TP_OP_START`: the host, over its link, or a core that runs. -/
def execTpOpStart (who : Fin 17) (op : BitVec 8) (s : State) : Step :=
  .next (if who.val = hostWindow then (if s.host.linkUp then s.wake.tpStart who op.toNat else s)
    else if s.coreRuns who then s.tpStart who op.toNat
    else s)

/-- The state that a meaning answers. -/
def outOf (s : State) : Step → State
  | .next t => t
  | _ => s

/-! ### The window (Table 19-8; a core's port is laid out as from 0x2000 on, log 58) -/

/-- A word is written at offset o of the port of requester who. -/
def State.tpWrite (s : State) (who : Fin 17) (o v : Nat) : State :=
  if o < 128 then
    let w := s.window who
    s.setWindow who { w with arg := slice (splice w.arg o (leBytes 4 v)) 0 128 }
  else if o = 0x100 then s.tpStart who (v % 256)
  else s

/-- The word that offset o of the port reads; `tp.arg` and `tp.op` are write only. -/
def State.tpWord (s : State) (who : Fin 17) (o : Nat) : Nat :=
  let w := s.window who
  if o = 0x104 then w.code + (if w.busy then 2 ^ 31 else 0)
  else if 0x200 ≤ o ∧ o < 0x280 then leNat (slice w.ret (o - 0x200) 4)
  else 0

end Sys2Proof.Machine
end

