-- ==== Sys2Proof/Machine/CorePorts.lean ====
section
/-! DEFINITION. Device space as the cores see it: strap queue ports, the dictionary server port, the rings and the Buckle view
of the core page (R477, R481, R482, R489). -/

namespace Sys2Proof.Machine

/-! ### Strap queue ports (R477, R508) -/

/-- Requester who (a core, or 16 for the host) has a port of queue q (Tables 18-8 and 19-8). -/
def strapPortOf (who q : Nat) : Bool :=
  if who = hostWindow then decide (1 ≤ q) && decide (q ≤ 3)
  else if who < 12 then decide (6 ≤ q) && decide (q ≤ 47)
  else decide (48 + 4 * (who - 12) ≤ q) && decide (q ≤ 51 + 4 * (who - 12))

/-- Bytes of a strap port's window. -/
def portBytes : Nat := 960

/-- Window of the port of queue q. -/
def State.portWindow (s : State) (q : Nat) : Bytes := KMap.getD s.cores.windows [] q

/-- Replace the window of the port of queue q. -/
def State.setPortWindow (s : State) (q : Nat) (d : Bytes) : State :=
  { s with cores := { s.cores with windows := KMap.setD s.cores.windows [] q d } }

/-- Bytes of an item, header first (Table 11-6), over its words of 60 data bytes. -/
def StrapItem.bytes (i : StrapItem) : Bytes :=
  let head := i.kind * 2 ^ 60 + (if i.poison then 2 ^ 59 else 0) + i.words * 2 ^ 48 + i.seq
  slice (leBytes 8 head ++ i.data) 0 (60 * i.words)

/-- The word count is written: the window's item is pushed; the header is the device's (log 59). What the count reads back as is
0 where the item was refused. -/
def State.portPush (s : State) (q words : Nat) : State :=
  let refused : Bool := words = 0 || decide (16 < words) || s.strapFull q words
  let s := s.strapPush q words (slice (s.portWindow q) 8 (60 * words - 8))
  { s with cores := { s.cores with pushed := KMap.setD s.cores.pushed 0 q (if refused then 0 else words) } }

/-- The pop register is read: the oldest item comes into the window; also its word count, 0 from an empty queue. -/
def State.portPop (s : State) (q : Nat) : State × Nat :=
  let r := s.strapPop q
  match r.2 with
  | some i => (r.1.setPortWindow q i.bytes, i.words)
  | none => (r.1, 0)

/-- A word is written at offset o of the port of queue q. -/
def State.portWrite (s : State) (who q o v : Nat) : State :=
  if o < portBytes then s.setPortWindow q (splice (s.portWindow q) o (leBytes 4 v))
  else if o = 0x3C0 ∧ who ≠ hostWindow then s.portPush q v
  else s

/-- A word is read at offset o of the port of queue q. -/
def State.portRead (s : State) (q o : Nat) : State × Nat :=
  if o < portBytes then (s, leNat (slice (s.portWindow q) o 4))
  else if o = 0x3C0 then (s, KMap.getD s.cores.pushed 0 q)
  else if o = 0x3C4 then s.portPop q
  else (s, 0)

/-- `STRAP_PORT_PUSH` by a core that runs and has the port. -/
def execStrapPortPush (n : Fin 16) (q : Fin 64) (words : BitVec 32) (s : State) : Step :=
  .next (if s.coreRuns n && strapPortOf n q then s.portPush q words.toNat else s)

/-- `STRAP_PORT_POP` by a core that runs, or by the host. -/
def execStrapPortPop (who : Fin 17) (q : Fin 64) (s : State) : Step :=
  .next (if !strapPortOf who q then s
    else if who.val = hostWindow then (if s.host.linkUp then (s.wake.portPop q).1 else s)
    else if s.coreRuns who then (s.portPop q).1
    else s)

/-! ### Dictionary server port (R477, R481) -/

/-- The request of core n: the bytes of its port as a frame, from this device, under the device's next REQ_ID (R79; all cores share
one count, log 113). -/
def State.coreRequest (s : State) (n len : Nat) : Access :=
  { parseAccess (slice (s.core n).dictReq 0 len) with origin := if s.addr = 0xFF then 0 else s.addr, reqId := s.dict.nextReq }

/-- Core n submits a request of len bytes. The port holds one frame without its CRC, so another length is ignored (log 60). -/
def State.dictSubmit (s : State) (n len : Nat) : State :=
  if len < 24 ∨ 1048 < len then s
  else
    let a := s.coreRequest n len
    let c := s.core n
    let s := s.setCore n { c with dictRsp := none }
    let s := { s with dict := { s.dict with nextReq := (s.dict.nextReq + 1) % 2 ^ 16 } }
    if 12 ≤ n ∧ ¬ (a.op = 1 ∨ a.op = 8) then s.answerTo (.core n) (respond a 0x12 [])
    else s.request (.core n) a

/-- `DICT_PORT_SUBMIT` by a core that runs. -/
def execDictPortSubmit (n : Fin 16) (len : BitVec 32) (s : State) : Step :=
  .next (if s.coreRuns n then s.dictSubmit n len.toNat else s)

/-- A word is written at offset o of the dictionary port of core n. -/
def State.dictPortWrite (s : State) (n o v : Nat) : State :=
  if o < 1048 then
    let c := s.core n
    s.setCore n { c with dictReq := splice c.dictReq o (leBytes 4 v) }
  else if o = 0xF00 then s.dictSubmit n v
  else s

/-- The word that offset o of the dictionary port of core n reads. -/
def State.dictPortRead (s : State) (n o : Nat) : Nat :=
  let c := s.core n
  if o < 1048 then leNat (slice c.dictReq o 4)
  else if 0x800 ≤ o ∧ o < 0x800 + 1048 then leNat (slice (c.dictRsp.getD []) (o - 0x800) 4)
  else if o = 0xF04 then (if c.dictRsp.isSome then 1 else 0)
  else 0

/-! ### Core page (Tables 18-10 and 19-2) -/

/-- A ring's size is written: 0 or 3 to 10, else ignored; head and tail begin at 0 (log 61). -/
def CoreRing.setSize (r : CoreRing) (k : Nat) : CoreRing :=
  if k = 0 ∨ (3 ≤ k ∧ k ≤ 10) then { r with size := k, head := 0, tail := 0 } else r

/-- A ring's tail is written: below 2^k, else ignored. -/
def CoreRing.setTail (r : CoreRing) (v : Nat) : CoreRing := if r.size ≠ 0 ∧ v < 2 ^ r.size then { r with tail := v } else r

/-- A ring's base is written: bits [17:5]. -/
def CoreRing.setBase (r : CoreRing) (v : Nat) : CoreRing := { r with base := v % localSize / 32 * 32 }

/-- Entries that a write of tail gives: from the old tail up to the new. -/
def CoreRing.gives (r : CoreRing) (v i : Nat) : Bool :=
  let m := 2 ^ r.size
  decide ((i + m - r.tail) % m < (v + m - r.tail) % m)

/-- A ring register is written: 0 base, 1 size, 3 tail; the head is read only. -/
def CoreRing.write (r : CoreRing) (k v : Nat) : CoreRing :=
  if k = 0 then r.setBase v else if k = 1 then r.setSize (v % 16) else if k = 3 then r.setTail (v % 1024) else r

/-- A ring register is read. -/
def CoreRing.read (r : CoreRing) (k : Nat) : Nat :=
  if k = 0 then r.base else if k = 1 then r.size else if k = 2 then r.head else r.tail

/-- The receive ring of a core is written: buffers given again are no longer filled entries (Table 19-1). -/
def Core.rxWrite (c : Core) (k v : Nat) : Core :=
  let r := c.rxRing
  let r' := r.write k v
  let filled := if k = 1 ∧ r' ≠ r then [] else if k = 3 ∧ r'.tail ≠ r.tail then c.rxFilled.filter (fun i => !r.gives r'.tail i) else c.rxFilled
  { c with rxRing := r', rxFilled := filled }

/-- A word is written at offset o of the core page of core n. Offsets that no table lists are ignored. -/
def State.pageWrite (s : State) (n o v : Nat) : State :=
  let c := s.core n
  if o < 0x10 then s.setCore n (c.rxWrite (o / 4) v)
  else if o < 0x20 then s.setCore n { c with txRing := c.txRing.write (o / 4 - 4) v }
  else if o = 0x20 then s.setCore n { c with accept := if n < 12 then v % 128 else v % 2 }
  else if 0x100 ≤ o ∧ o < 0x120 then s.pendWrite n ((o - 0x100) / 4) v
  else if 0x120 ≤ o ∧ o < 0x140 then s.maskWrite n ((o - 0x120) / 4) v
  else if o = 0x144 then s.awlRaise (v % 256)
  else if o = 0x148 then s.awlHostRaise n (v % 8)
  else s

/-- A word is read at offset o of the core page of core n; `awl.hp9.drops` is cleared by it. -/
def State.pageRead (s : State) (n o : Nat) : State × Nat :=
  let c := s.core n
  if o < 0x10 then (s, c.rxRing.read (o / 4))
  else if o < 0x20 then (s, c.txRing.read (o / 4 - 4))
  else if o = 0x20 then (s, c.accept)
  else if o = 0x24 then (s.setCore n { c with drops := 0 }, c.drops)
  else if 0x100 ≤ o ∧ o < 0x120 then (s, bits (s.pend n) (8 * (o - 0x100)) 32)
  else if 0x120 ≤ o ∧ o < 0x140 then (s, bits (s.mask n) (8 * (o - 0x120)) 32)
  else if o = 0x140 then (s, s.buckleNext n)
  else if 0x400 ≤ o ∧ o < 0x800 then (s, s.rd (Key.srcEvents ((o - 0x400) / 4)))
  else (s, 0)

/-! ### Device space (Table 18-8) -/

/-- Place of a device-space address: unit (0 core page, 1 table port, 2 dictionary port, 3 strap port, 4 time) with its queue
and offset; none where core n may not go. -/
def devicePlace (n a : Nat) : Option (Nat × Nat × Nat) :=
  if a / 0x1000 = 0x40000 then some (0, 0, a % 0x1000)
  else if a / 0x1000 = 0x40010 then some (1, 0, a % 0x1000)
  else if a / 0x1000 = 0x40020 then some (2, 0, a % 0x1000)
  else if a / 0x10000 = 0x4003 then
    let q := a % 0x10000 / 0x400
    if strapPortOf n q then some (3, q, a % 0x400) else none
  else if a / 16 = 0x4004000 then some (4, 0, a % 16)
  else none

/-- A word read of device space. The manual does not lay the time snapshot out in its 16 bytes, so what they read is free
(log 62). -/
def State.deviceRead (s : State) (n : Fin 16) (p : Nat × Nat × Nat) : State × Nat :=
  let o := p.2.2
  if p.1 = 0 then s.pageRead n o
  else if p.1 = 1 then (s, s.tpWord (n.castLE (by decide)) o)
  else if p.1 = 2 then (s, s.dictPortRead n o)
  else if p.1 = 3 then s.portRead p.2.1 o
  else (s.drawn, (s.draw 32).toNat)

/-- A word write of device space; the time snapshot is only read. -/
def State.deviceWrite (s : State) (n : Fin 16) (p : Nat × Nat × Nat) (v : Nat) : State :=
  let o := p.2.2
  if p.1 = 0 then s.pageWrite n o v
  else if p.1 = 1 then s.tpWrite (n.castLE (by decide)) o v
  else if p.1 = 2 then s.dictPortWrite n o v
  else if p.1 = 3 then s.portWrite n p.2.1 o v
  else s

end Sys2Proof.Machine
end

