-- ==== Sys2Proof/Machine/AwlRun.lean ====
section
/-! DEFINITION. How a core executes one instruction: the fetch, the checks before it, exceptions, completion (R456 to R471). The
command names the instruction that the core fetches; where the word at the pc is another, nothing happens (log 64). -/

namespace Sys2Proof.Machine

/-- Core n may execute at an address (Table 18-8). -/
def fetchable (n : Nat) (a : Word) : Bool :=
  decide (a.toNat < localSize) || (decide (n < 12) && decide (0x10000000 ≤ a.toNat) && decide (a.toNat < 0x11000000))

/-- A byte of the running tree image (R417). -/
def State.imageByte (s : State) (a : Nat) : Byte :=
  match (if s.tree.rom then none else (s.bank s.runBank).image[a]?) with
  | some b => b
  | none => Config.beyondImage a

/-- The word that memory holds at an address at which core n may execute, little-endian (R454, R456). -/
def State.fetchWord (s : State) (n : Nat) (a : Word) : Word :=
  BitVec.ofNat 32 (leNat (if a.toNat < localSize then s.localBytes n a.toNat 4
    else (List.range 4).map (fun i => s.imageByte (a.toNat - 0x10000000 + i))))

/-- Core n may fetch word w at an address: it stands there, or the place was stored to since the core's last FENCE.I (R473). -/
def State.fetches (s : State) (n : Nat) (a w : Word) : Bool :=
  s.fetchWord n a == w || (decide (a.toNat < localSize) && s.cores.stale.contains (65536 * n + a.toNat / 4))

/-- A synchronous exception of core n; a double fault of a core 0 to 11 resets the device (R466, R471). -/
def State.trap (s : State) (n cause : Nat) (xpc xaddr xword : Word) : State :=
  let r := s.except n cause xpc xaddr xword
  if r.2 && decide (n < 12) then r.1.ownReset 8 else r.1

/-- A load one instruction earlier stalls an instruction that uses its result (R457). -/
def Core.stalls (c : Core) (uses : List (Fin 32)) : Nat :=
  match c.loadedReg with
  | some d => if d ≠ 0 ∧ uses.any (fun u => u.val == d) then 1 else 0
  | none => 0

/-- One instruction of word w at the pc of core r.n: the registers it uses, whether it transfers control or changes loop state
(R461), and what it does. A core that does not run, or that fetches another word, does not execute it. -/
def State.awl (s : State) (r : CoreRun) (w : Word) (uses : List (Fin 32)) (moves : Bool) (f : State → State) : State :=
  let n : Nat := r.n
  if !s.coreRuns n then s
  else
    let c := s.core n
    if !fetchable n c.pc then s.trap n 5 c.pc c.pc 0#32
    else if !s.fetches n c.pc w then s
    else if moves && c.atLoopEnd c.pc then s.trap n 6 c.pc c.pc w
    else f (s.setCore n { c with cycles := c.cycles + r.stall + c.stalls uses, loadedReg := none })

/-- An instruction that changes only its core completes at the pc. -/
def State.awlDone (s : State) (n cost : Nat) (f : Core → Core) : State :=
  let c := s.core n
  s.setCore n ((f c).complete c.pc cost)

/-- A reserved instruction traps to the emulation vector (R458, R464). -/
def State.awlReservedWord (s : State) (r : CoreRun) (w : Word) : State :=
  s.awl r w [] false (fun s => s.trap r.n 1 (s.core r.n).pc 0#32 w)

end Sys2Proof.Machine
end

