-- ==== Sys2Proof/Machine/AwlAlu.lean ====
section
/-! DEFINITION. The Awl arithmetic and logic instructions (R457, Tables 18-4 and 18-5). -/

namespace Sys2Proof.Machine

/-- An instruction that writes rd from two registers. -/
def State.alu3 (s : State) (r : CoreRun) (rd ra rb : Fin 32) (func cost : Nat) (f : Word → Word → Word) : State :=
  s.awl r (encR 0x01 rd ra rb func) [ra, rb] false (fun s => s.awlDone r.n cost (fun c => c.setG rd (f (c.g ra) (c.g rb))))

/-- An instruction of the ALU group that writes rd from ra alone. -/
def State.alu2 (s : State) (r : CoreRun) (rd ra : Fin 32) (func : Nat) (f : Word → Word) : State :=
  s.awl r (encR 0x01 rd ra 0 func) [ra] false (fun s => s.awlDone r.n 1 (fun c => c.setG rd (f (c.g ra))))

/-- An instruction that writes rd from ra and an immediate. -/
def State.aluI (s : State) (r : CoreRun) (op : Nat) (rd ra : Fin 32) (imm : BitVec 16) (f : Word → Word) : State :=
  s.awl r (encI op rd ra imm.toNat) [ra] false (fun s => s.awlDone r.n 1 (fun c => c.setG rd (f (c.g ra))))

/-- A shift by an immediate: kind in [6:5], amount in [4:0]. -/
def State.aluShift (s : State) (r : CoreRun) (kind : Nat) (rd ra : Fin 32) (k : BitVec 5) (f : Word → Word) : State :=
  s.awl r (encI 0x08 rd ra (kind * 32 + k.toNat)) [ra] false (fun s => s.awlDone r.n 1 (fun c => c.setG rd (f (c.g ra))))

/-- Shift amount rb[4:0]. -/
def amount (b : Word) : Nat := b.toNat % 32

/-- `ADD`. -/
def execAdd (r : CoreRun) (rd ra rb : Fin 32) (s : State) : Step := .next (s.alu3 r rd ra rb 0 1 (fun a b => a + b))

/-- `SUB`. -/
def execSub (r : CoreRun) (rd ra rb : Fin 32) (s : State) : Step := .next (s.alu3 r rd ra rb 1 1 (fun a b => a - b))

/-- `AND`. -/
def execAnd (r : CoreRun) (rd ra rb : Fin 32) (s : State) : Step := .next (s.alu3 r rd ra rb 2 1 (fun a b => a &&& b))

/-- `OR`. -/
def execOr (r : CoreRun) (rd ra rb : Fin 32) (s : State) : Step := .next (s.alu3 r rd ra rb 3 1 (fun a b => a ||| b))

/-- `XOR`. -/
def execXor (r : CoreRun) (rd ra rb : Fin 32) (s : State) : Step := .next (s.alu3 r rd ra rb 4 1 (fun a b => a ^^^ b))

/-- `SLL`. -/
def execSll (r : CoreRun) (rd ra rb : Fin 32) (s : State) : Step := .next (s.alu3 r rd ra rb 5 1 (fun a b => a <<< amount b))

/-- `SRL`. -/
def execSrl (r : CoreRun) (rd ra rb : Fin 32) (s : State) : Step := .next (s.alu3 r rd ra rb 6 1 (fun a b => a >>> amount b))

/-- `SRA`. -/
def execSra (r : CoreRun) (rd ra rb : Fin 32) (s : State) : Step := .next (s.alu3 r rd ra rb 7 1 (fun a b => a.sshiftRight (amount b)))

/-- `CMPLT`. -/
def execCmplt (r : CoreRun) (rd ra rb : Fin 32) (s : State) : Step := .next (s.alu3 r rd ra rb 8 1 (fun a b => ofBool (ltS a b)))

/-- `CMPLTU`. -/
def execCmpltu (r : CoreRun) (rd ra rb : Fin 32) (s : State) : Step := .next (s.alu3 r rd ra rb 9 1 (fun a b => ofBool (ltU a b)))

/-- `MUL`. -/
def execMul (r : CoreRun) (rd ra rb : Fin 32) (s : State) : Step := .next (s.alu3 r rd ra rb 10 3 (fun a b => a * b))

/-- `MULH`. -/
def execMulh (r : CoreRun) (rd ra rb : Fin 32) (s : State) : Step := .next (s.alu3 r rd ra rb 11 3 (fun a b => mulHigh a b))

/-- `MULHU`. -/
def execMulhu (r : CoreRun) (rd ra rb : Fin 32) (s : State) : Step := .next (s.alu3 r rd ra rb 12 3 (fun a b => mulHighU a b))

/-- `DIV`. -/
def execDiv (r : CoreRun) (rd ra rb : Fin 32) (s : State) : Step := .next (s.alu3 r rd ra rb 13 18 (fun a b => divS a b))

/-- `DIVU`. -/
def execDivu (r : CoreRun) (rd ra rb : Fin 32) (s : State) : Step := .next (s.alu3 r rd ra rb 14 18 (fun a b => divU a b))

/-- `REM`. -/
def execRem (r : CoreRun) (rd ra rb : Fin 32) (s : State) : Step := .next (s.alu3 r rd ra rb 15 18 (fun a b => remS a b))

/-- `REMU`. -/
def execRemu (r : CoreRun) (rd ra rb : Fin 32) (s : State) : Step := .next (s.alu3 r rd ra rb 16 18 (fun a b => remU a b))

/-- `MIN`. -/
def execMin (r : CoreRun) (rd ra rb : Fin 32) (s : State) : Step := .next (s.alu3 r rd ra rb 17 1 (fun a b => if ltS b a then b else a))

/-- `MAX`. -/
def execMax (r : CoreRun) (rd ra rb : Fin 32) (s : State) : Step := .next (s.alu3 r rd ra rb 18 1 (fun a b => if ltS a b then b else a))

/-- `MINU`. -/
def execMinu (r : CoreRun) (rd ra rb : Fin 32) (s : State) : Step := .next (s.alu3 r rd ra rb 19 1 (fun a b => if ltU b a then b else a))

/-- `MAXU`. -/
def execMaxu (r : CoreRun) (rd ra rb : Fin 32) (s : State) : Step := .next (s.alu3 r rd ra rb 20 1 (fun a b => if ltU a b then b else a))

/-- `CLZ`. -/
def execClz (r : CoreRun) (rd ra : Fin 32) (s : State) : Step := .next (s.alu2 r rd ra 21 (fun a => BitVec.ofNat 32 (leadingZeros a.toNat 32)))

/-- `POPC`. -/
def execPopc (r : CoreRun) (rd ra : Fin 32) (s : State) : Step := .next (s.alu2 r rd ra 22 (fun a => BitVec.ofNat 32 (popcount 32 a.toNat)))

/-- `BSWAP`. -/
def execBswap (r : CoreRun) (rd ra : Fin 32) (s : State) : Step := .next (s.alu2 r rd ra 23 (fun a => byteSwap a))

/-- `ADDI`. -/
def execAddi (r : CoreRun) (rd ra : Fin 32) (imm : BitVec 16) (s : State) : Step :=
  .next (s.aluI r 0x02 rd ra imm (fun a => a + simm imm))

/-- `ANDI`. -/
def execAndi (r : CoreRun) (rd ra : Fin 32) (imm : BitVec 16) (s : State) : Step :=
  .next (s.aluI r 0x03 rd ra imm (fun a => a &&& zimm imm))

/-- `ORI`. -/
def execOri (r : CoreRun) (rd ra : Fin 32) (imm : BitVec 16) (s : State) : Step :=
  .next (s.aluI r 0x04 rd ra imm (fun a => a ||| zimm imm))

/-- `XORI`. -/
def execXori (r : CoreRun) (rd ra : Fin 32) (imm : BitVec 16) (s : State) : Step :=
  .next (s.aluI r 0x05 rd ra imm (fun a => a ^^^ zimm imm))

/-- `CMPLTI`. -/
def execCmplti (r : CoreRun) (rd ra : Fin 32) (imm : BitVec 16) (s : State) : Step :=
  .next (s.aluI r 0x06 rd ra imm (fun a => ofBool (ltS a (simm imm))))

/-- `CMPLTIU`. -/
def execCmpltiu (r : CoreRun) (rd ra : Fin 32) (imm : BitVec 16) (s : State) : Step :=
  .next (s.aluI r 0x07 rd ra imm (fun a => ofBool (ltU a (simm imm))))

/-- `SHI_SLL`. -/
def execShiSll (r : CoreRun) (rd ra : Fin 32) (k : BitVec 5) (s : State) : Step :=
  .next (s.aluShift r 0 rd ra k (fun a => a <<< k.toNat))

/-- `SHI_SRL`. -/
def execShiSrl (r : CoreRun) (rd ra : Fin 32) (k : BitVec 5) (s : State) : Step :=
  .next (s.aluShift r 1 rd ra k (fun a => a >>> k.toNat))

/-- `SHI_SRA`. -/
def execShiSra (r : CoreRun) (rd ra : Fin 32) (k : BitVec 5) (s : State) : Step :=
  .next (s.aluShift r 2 rd ra k (fun a => a.sshiftRight k.toNat))

/-- `SHI_ROR`. -/
def execShiRor (r : CoreRun) (rd ra : Fin 32) (k : BitVec 5) (s : State) : Step :=
  .next (s.aluShift r 3 rd ra k (fun a => rotR a k.toNat))

/-- `LDHI`. -/
def execLdhi (r : CoreRun) (rd : Fin 32) (imm : BitVec 16) (s : State) : Step :=
  .next (s.awl r (encI 0x09 rd 0 imm.toNat) [] false (fun s => s.awlDone r.n 1 (fun c => c.setG rd (himm imm))))

/-- `ADDPCH`: relative to the address of the instruction itself. -/
def execAddpch (r : CoreRun) (rd : Fin 32) (imm : BitVec 16) (s : State) : Step :=
  .next (s.awl r (encI 0x0A rd 0 imm.toNat) [] false (fun s => s.awlDone r.n 1 (fun c => c.setG rd (c.pc + himm imm))))

end Sys2Proof.Machine
end

