-- ==== Sys2Proof/Machine/AwlFlow.lean ====
section
/-! DEFINITION. The Awl branches, jumps and hardware loops (R457, R459 to R463). -/

namespace Sys2Proof.Machine

/-- A transfer of control: no end test, two cycles (R460). -/
def Core.jumpTo (c : Core) (a : Word) : Core := { c with pc := a, cycles := c.cycles + 2 }

/-- A branch: taken it transfers control, else it completes. -/
def State.awlBranch (s : State) (r : CoreRun) (op : Nat) (ra rb : Fin 32) (off : BitVec 16) (cond : Word → Word → Bool) : State :=
  s.awl r (encI op ra rb off.toNat) [ra, rb] true (fun s =>
    let c := s.core r.n
    if cond (c.g ra) (c.g rb) then s.setCore r.n (c.jumpTo (branchTarget c.pc off)) else s.awlDone r.n 1 (fun c => c))

/-- A jump to a register; a target with [1:0] not zero raises `ALIGN` (Table 18-7). -/
def State.awlJumpReg (s : State) (r : CoreRun) (word a : Word) (link : Bool) : State :=
  let c := s.core r.n
  if a.toNat % 4 ≠ 0 then s.trap r.n 4 c.pc a word
  else s.setCore r.n ({ c with lk := if link then c.pc + 4#32 else c.lk }.jumpTo a)

/-- A loop instruction: n = 3 and end = 0 are reserved (R458); a count of 0 skips the body (R459). -/
def State.awlLoop (s : State) (r : CoreRun) (word : Word) (uses : List (Fin 32)) (n : Fin 4) (stop : BitVec 12) (count : Core → Word) :
    State :=
  if n = 3 ∨ stop = 0#12 then s.awlReservedWord r word
  else s.awl r word uses true (fun s =>
    let c := s.core r.n
    let c' := c.tickLate
    s.setCore r.n { c'.armLoop c.pc n (stop.zeroExtend 32) (count c) with cycles := c.cycles + 1 })

/-- `BEQ`. -/
def execBeq (r : CoreRun) (ra rb : Fin 32) (off : BitVec 16) (s : State) : Step :=
  .next (s.awlBranch r 0x20 ra rb off (fun a b => a == b))

/-- `BNE`. -/
def execBne (r : CoreRun) (ra rb : Fin 32) (off : BitVec 16) (s : State) : Step :=
  .next (s.awlBranch r 0x21 ra rb off (fun a b => a != b))

/-- `BLT`. -/
def execBlt (r : CoreRun) (ra rb : Fin 32) (off : BitVec 16) (s : State) : Step :=
  .next (s.awlBranch r 0x22 ra rb off (fun a b => ltS a b))

/-- `BGE`. -/
def execBge (r : CoreRun) (ra rb : Fin 32) (off : BitVec 16) (s : State) : Step :=
  .next (s.awlBranch r 0x23 ra rb off (fun a b => !ltS a b))

/-- `BLTU`. -/
def execBltu (r : CoreRun) (ra rb : Fin 32) (off : BitVec 16) (s : State) : Step :=
  .next (s.awlBranch r 0x24 ra rb off (fun a b => ltU a b))

/-- `BGEU`. -/
def execBgeu (r : CoreRun) (ra rb : Fin 32) (off : BitVec 16) (s : State) : Step :=
  .next (s.awlBranch r 0x25 ra rb off (fun a b => !ltU a b))

/-- `J`. -/
def execJ (r : CoreRun) (off : BitVec 26) (s : State) : Step :=
  .next (s.awl r (encJ 0x28 off.toNat) [] true (fun s =>
    let c := s.core r.n
    s.setCore r.n (c.jumpTo (jumpTarget c.pc off))))

/-- `CALL`. -/
def execCall (r : CoreRun) (off : BitVec 26) (s : State) : Step :=
  .next (s.awl r (encJ 0x29 off.toNat) [] true (fun s =>
    let c := s.core r.n
    s.setCore r.n ({ c with lk := c.pc + 4#32 }.jumpTo (jumpTarget c.pc off))))

/-- `JR`. -/
def execJr (r : CoreRun) (ra : Fin 32) (s : State) : Step :=
  .next (s.awl r (encR 0x2A 0 ra 0 0) [ra] true (fun s => s.awlJumpReg r (encR 0x2A 0 ra 0 0) ((s.core r.n).g ra) false))

/-- `CALLR`. -/
def execCallr (r : CoreRun) (ra : Fin 32) (s : State) : Step :=
  .next (s.awl r (encR 0x2A 0 ra 0 1) [ra] true (fun s => s.awlJumpReg r (encR 0x2A 0 ra 0 1) ((s.core r.n).g ra) true))

/-- `RET`. -/
def execRet (r : CoreRun) (s : State) : Step :=
  .next (s.awl r (encR 0x2A 0 0 0 2) [] true (fun s => s.awlJumpReg r (encR 0x2A 0 0 0 2) (s.core r.n).lk false))

/-- `LOOP`: the count is register ra. -/
def execLoop (r : CoreRun) (n : Fin 4) (ra : Fin 32) (stop : BitVec 12) (s : State) : Step :=
  .next (s.awlLoop r (encL 0x30 n ra stop.toNat) [ra] n stop (fun c => c.g ra))

/-- `LOOPI`: the count is 12 bits of the instruction. -/
def execLoopi (r : CoreRun) (n : Fin 4) (count stop : BitVec 12) (s : State) : Step :=
  .next (s.awlLoop r (encL 0x31 n count.toNat stop.toNat) [] n stop (fun _ => count.zeroExtend 32))

end Sys2Proof.Machine
end

