-- ==== Sys2Proof/Machine/AwlMem.lean ====
section
/-! DEFINITION. The Awl loads, stores and atomic operations, and the memory map of a core (R457, R465, R470, R472, R473, R477). -/

namespace Sys2Proof.Machine

/-! ### Where an access goes (Table 18-8) -/

/-- Place of a data access. -/
inductive Place where
  /-- own local memory -/
  | own (a : Nat)
  /-- local memory of core m, unbuffered -/
  | other (m a : Nat)
  /-- the running tree image -/
  | image (a : Nat)
  /-- device space: unit, queue, offset -/
  | device (p : Nat × Nat × Nat)
  deriving DecidableEq, Repr

/-- The place of an access of w bytes at a by core n; none where the map does not permit it. -/
def place (n a w : Nat) (write : Bool) : Option Place :=
  if a < localSize then some (.own a)
  else if n < 12 ∧ w = 4 ∧ 0x01000000 ≤ a ∧ a < 0x01000000 + 16 * localSize then
    some (.other ((a - 0x01000000) / localSize) ((a - 0x01000000) % localSize))
  else if n < 12 ∧ !write ∧ 0x10000000 ≤ a ∧ a < 0x11000000 then some (.image (a - 0x10000000))
  else if w = 4 then
    match devicePlace n a with
    | some p => if write && p.1 == 4 then none else some (.device p)
    | none => none
  else none

/-- The place is a memory that SECDED protects: its index in the per-memory counters (Table 1-4, R9). -/
def Place.memory : Place → Option Nat
  | .own _ | .other _ _ => some 2
  | .image _ => some 10
  | .device _ => none

/-- What an access reads; a read of device space may act. Accesses that bypass the store buffer wait until it is empty. -/
def State.placeRead (s : State) (n : Fin 16) (p : Place) (w : Nat) : State × Nat :=
  match p with
  | .own a => (s, s.ownValue n a w)
  | .other m a => (s.drainAll n, leNat ((s.drainAll n).localBytes m a w))
  | .image a => (s, leNat ((List.range w).map (fun i => s.imageByte (a + i))))
  | .device d => (s.drainAll n).deviceRead n d

/-- Write w bytes of a value. -/
def State.placeWrite (s : State) (n : Fin 16) (p : Place) (w v : Nat) : State :=
  match p with
  | .own a => s.bufferStore n a (leBytes w v)
  | .other m a => (s.drainAll n).localStore m a (leBytes w v)
  | .image _ => s
  | .device d => (s.drainAll n).deviceWrite n d v

/-- What the check of a protected word finds (R9). -/
def State.memCount (s : State) (p : Place) (e : MemErr) (addr : Nat) : State :=
  match p.memory with
  | some k => s.memFound k e addr
  | none => s

/-- An access of w bytes at a: alignment, then the map, then the check of the word where it is read (log 65); then f. -/
def State.access (s : State) (n : Fin 16) (word a : Word) (w : Nat) (write reads : Bool) (e : MemErr) (f : State → Place → State) : State :=
  let pc := (s.core n).pc
  if a.toNat % w ≠ 0 then s.trap n 4 pc a word
  else match place n a.toNat w write with
    | none => s.trap n 5 pc a word
    | some p =>
      if !reads then f s p
      else
        let s := s.memCount p e a.toNat
        if e = .uncorrectable ∧ p.memory.isSome then s.trap n 3 pc a word else f s p

/-! ### Loads and stores -/

/-- A load of w bytes. -/
def State.awlLoad (s : State) (r : CoreRun) (op : Nat) (rd ra : Fin 32) (imm : BitVec 16) (w : Nat) (signed : Bool) (e : MemErr) : State :=
  let word := encI op rd ra imm.toNat
  s.awl r word [ra] false (fun s =>
    s.access r.n word ((s.core r.n).g ra + simm imm) w false true e (fun s p =>
      let got := s.placeRead r.n p w
      let v := if signed then signedLoad w got.2 else BitVec.ofNat 32 got.2
      got.1.awlDone r.n 1 (fun c => { c.setG rd v with loadedReg := some rd.val })))

/-- A store of w bytes; byte and halfword stores read the word they merge into (R470). -/
def State.awlStore (s : State) (r : CoreRun) (op : Nat) (rs ra : Fin 32) (imm : BitVec 16) (w : Nat) (e : MemErr) : State :=
  let word := encI op rs ra imm.toNat
  s.awl r word [rs, ra] false (fun s =>
    s.access r.n word ((s.core r.n).g ra + simm imm) w true (w != 4) e (fun s p =>
      let v := ((s.core r.n).g rs).toNat
      (s.awlDone r.n 1 (fun c => c)).placeWrite r.n p w v))

/-- An atomic operation: the buffer drains, and one access reads and writes the word (R473). -/
def State.awlAmo (s : State) (r : CoreRun) (func : Nat) (rd ra rb : Fin 32) (e : MemErr) : State :=
  let word := encR 0x1C rd ra rb func
  s.awl r word [ra, rb] false (fun s =>
    s.access r.n word ((s.core r.n).g ra) 4 true true e (fun s p =>
      let b := (s.core r.n).g rb
      let got := (s.drainAll r.n).placeRead r.n p 4
      let old := BitVec.ofNat 32 got.2
      let s := got.1.awlDone r.n 4 (fun c => c.setG rd old)
      (s.placeWrite r.n p 4 (amoValue func old b).toNat).drainAll r.n))

/-- `LB`; err: what the check of the word finds. -/
def execLb (r : CoreRun) (rd ra : Fin 32) (imm : BitVec 16) (err : MemErr) (s : State) : Step :=
  .next (s.awlLoad r 0x10 rd ra imm 1 true err)

/-- `LBU`; err: what the check of the word finds. -/
def execLbu (r : CoreRun) (rd ra : Fin 32) (imm : BitVec 16) (err : MemErr) (s : State) : Step :=
  .next (s.awlLoad r 0x11 rd ra imm 1 false err)

/-- `LH`; err: what the check of the word finds. -/
def execLh (r : CoreRun) (rd ra : Fin 32) (imm : BitVec 16) (err : MemErr) (s : State) : Step :=
  .next (s.awlLoad r 0x12 rd ra imm 2 true err)

/-- `LHU`; err: what the check of the word finds. -/
def execLhu (r : CoreRun) (rd ra : Fin 32) (imm : BitVec 16) (err : MemErr) (s : State) : Step :=
  .next (s.awlLoad r 0x13 rd ra imm 2 false err)

/-- `LW`; err: what the check of the word finds. -/
def execLw (r : CoreRun) (rd ra : Fin 32) (imm : BitVec 16) (err : MemErr) (s : State) : Step :=
  .next (s.awlLoad r 0x14 rd ra imm 4 false err)

/-- `SB`; err: what the check of the merged word finds. -/
def execSb (r : CoreRun) (rs ra : Fin 32) (imm : BitVec 16) (err : MemErr) (s : State) : Step :=
  .next (s.awlStore r 0x18 rs ra imm 1 err)

/-- `SH`; err: what the check of the merged word finds. -/
def execSh (r : CoreRun) (rs ra : Fin 32) (imm : BitVec 16) (err : MemErr) (s : State) : Step :=
  .next (s.awlStore r 0x19 rs ra imm 2 err)

/-- `SW`. -/
def execSw (r : CoreRun) (rs ra : Fin 32) (imm : BitVec 16) (s : State) : Step := .next (s.awlStore r 0x1A rs ra imm 4 .none)

/-- `AMO_SWAP`. -/
def execAmoSwap (r : CoreRun) (rd ra rb : Fin 32) (err : MemErr) (s : State) : Step := .next (s.awlAmo r 0 rd ra rb err)

/-- `AMO_ADD`. -/
def execAmoAdd (r : CoreRun) (rd ra rb : Fin 32) (err : MemErr) (s : State) : Step := .next (s.awlAmo r 1 rd ra rb err)

/-- `AMO_AND`. -/
def execAmoAnd (r : CoreRun) (rd ra rb : Fin 32) (err : MemErr) (s : State) : Step := .next (s.awlAmo r 2 rd ra rb err)

/-- `AMO_OR`. -/
def execAmoOr (r : CoreRun) (rd ra rb : Fin 32) (err : MemErr) (s : State) : Step := .next (s.awlAmo r 3 rd ra rb err)

/-- `AMO_XOR`. -/
def execAmoXor (r : CoreRun) (rd ra rb : Fin 32) (err : MemErr) (s : State) : Step := .next (s.awlAmo r 4 rd ra rb err)

/-- `AMO_MAXU`. -/
def execAmoMaxu (r : CoreRun) (rd ra rb : Fin 32) (err : MemErr) (s : State) : Step := .next (s.awlAmo r 5 rd ra rb err)

end Sys2Proof.Machine
end

