-- ==== Sys2Proof/Machine/AwlSys.lean ====
section
/-! DEFINITION. The Awl system instructions: control registers, exceptions and returns, fences, WAIT and HALT (R455, R458, R464 to
R469, R473). -/

namespace Sys2Proof.Machine

/-! ### Control registers (R455, Table 18-2) -/

/-- What GETC reads. -/
def Core.ctl (c : Core) (n : Fin 16) (k : Nat) : Word :=
  match k with
  | 0 => c.mode.zeroExtend 32
  | 1 => c.smode.zeroExtend 32
  | 2 => c.xpc
  | 3 => c.xcause.zeroExtend 32
  | 4 => c.xaddr
  | 5 => c.xword
  | 6 => c.vbase
  | 7 => c.hscr0
  | 8 => c.hscr1
  | 0x10 => c.lk
  | 0x20 => BitVec.ofNat 32 n
  | 0x21 => BitVec.ofNat 32 c.cycles
  | 0x22 => BitVec.ofNat 32 (c.cycles / 2 ^ 32)
  | 0x23 => BitVec.ofNat 32 isaLevel
  | _ => c.loopReg (k - 0x11)

/-- What SETC writes; a loop register reaches the end tests later (R463). -/
def Core.setCtl (c : Core) (k : Nat) (v : Word) : Core :=
  match k with
  | 0 => { c with mode := v.truncate 2 }
  | 1 => { c with smode := v.truncate 2 }
  | 2 => { c with xpc := wordAligned v }
  | 3 => { c with xcause := v.truncate 16 }
  | 4 => { c with xaddr := v }
  | 5 => { c with xword := v }
  | 6 => { c with vbase := v &&& 0xFFFFFF00#32 }
  | 7 => { c with hscr0 := v }
  | 8 => { c with hscr1 := v }
  | 0x10 => { c with lk := wordAligned v }
  | _ => c.setcLoop (k - 0x11) (if (k - 0x11) % 3 = 2 then v else wordAligned v)

/-- The register is lb, le or lc of a loop. -/
def ctlLoop (k : Nat) : Bool := decide (0x11 ≤ k) && decide (k ≤ 0x19)

/-- `GETC`. -/
def execGetc (r : CoreRun) (rd : Fin 32) (num : BitVec 16) (s : State) : Step :=
  let w := encI 0x3D rd 0 num.toNat
  .next (if !ctlListed num.toNat then s.awlReservedWord r w
    else s.awl r w [] false (fun s => s.awlDone r.n 1 (fun c => c.setG rd (c.ctl r.n num.toNat))))

/-- `SETC`. -/
def execSetc (r : CoreRun) (ra : Fin 32) (num : BitVec 16) (s : State) : Step :=
  let w := encI 0x3F 0 ra num.toNat
  .next (if !ctlWritable num.toNat then s.awlReservedWord r w
    else s.awl r w [ra] (ctlLoop num.toNat) (fun s => s.awlDone r.n 1 (fun c => c.setCtl num.toNat (c.g ra))))

/-! ### Exceptions and returns (R464 to R468) -/

/-- `TRAP`. -/
def execTrap (r : CoreRun) (imm : BitVec 16) (s : State) : Step :=
  let w := encI 0x3C 0 0 imm.toNat
  .next (s.awl r w [] false (fun s => s.trap r.n 7 (s.core r.n).pc 0#32 w))

/-- `BREAK`. -/
def execBrk (r : CoreRun) (s : State) : Step :=
  let w := encR 0x3E 0 0 0 4
  .next (s.awl r w [] false (fun s => s.trap r.n 8 (s.core r.n).pc 0#32 w))

/-- `RESERVED_INSTRUCTION`: a word that R458 reserves. -/
def execReservedInstruction (r : CoreRun) (word : BitVec 32) (s : State) : Step :=
  .next (if awlReserved word then s.awlReservedWord r word else s)

/-- `FETCH_ERROR`: the word at the pc cannot be corrected, or its address is forbidden. -/
def execFetchError (r : CoreRun) (s : State) : Step :=
  let n : Nat := r.n
  let pc := (s.core n).pc
  .next (if !s.coreRuns n then s
    else if !fetchable n pc then s.trap n 5 pc pc 0#32
    else (s.memFound (if pc.toNat < localSize then 2 else 10) .uncorrectable pc.toNat).trap n 2 pc pc 0#32)

/-- `XRET`. -/
def execXret (r : CoreRun) (s : State) : Step :=
  .next (s.awl r (encR 0x3E 0 0 0 2) [] true (fun s =>
    let c := s.core r.n
    s.setCore r.n { c with mode := c.smode, pc := c.xpc, late := [], cycles := c.cycles + 3 }))

/-- `XRETC`: the instruction at XPC completes under its end test. -/
def execXretc (r : CoreRun) (s : State) : Step :=
  .next (s.awl r (encR 0x3E 0 0 0 6) [] true (fun s =>
    let c := s.core r.n
    s.setCore r.n ({ c with mode := c.smode, late := [] }.complete c.xpc 3)))

/-- `INTERRUPT_TAKE`: between instructions, while IEN is 1 and HND is 0 (R467, R490). -/
def execInterruptTake (n : Fin 16) (s : State) : Step :=
  let k : Nat := n
  let c := s.core k
  .next (if s.coreState k = 1 ∧ s.coreIsland k ∧ c.ien ∧ !c.hnd ∧ s.interrupted k then
      s.setCore k (c.enter 0x100 c.pc 0#32 0#32)
    else s)

/-! ### Ordering, WAIT and HALT (R469, R473) -/

/-- A fence: the buffer is empty, and no loop register write is on its way any more (R463). -/
def State.awlFence (s : State) (n : Nat) : State := (s.drainAll n).awlDone n 1 (fun c => { c with late := [] })

/-- `FENCE`. -/
def execFence (r : CoreRun) (s : State) : Step := .next (s.awl r (encR 0x3E 0 0 0 0) [] false (fun s => s.awlFence r.n))

/-- `FENCE.I`: as FENCE, and later fetches find what memory holds (R473). -/
def execFenceI (r : CoreRun) (s : State) : Step := .next (s.awl r (encR 0x3E 0 0 0 1) [] false (fun s => (s.awlFence r.n).fetchAnew r.n))

/-- `WAIT`: the core fetches nothing until a source is pending, masked or not (R469, R490). -/
def execWait (r : CoreRun) (s : State) : Step :=
  .next (s.awl r (encR 0x3E 0 0 0 3) [] true (fun s =>
    s.awlDone r.n 1 (fun c => { c with waiting := s.pend r.n == 0 })))

/-- `WAIT_WAKE`. -/
def execWaitWake (r : CoreRun) (s : State) : Step :=
  let n : Nat := r.n
  let c := s.core n
  .next (if s.coreState n = 1 ∧ s.coreIsland n ∧ c.waiting ∧ s.pend n ≠ 0 then
      s.setCore n { c with waiting := false, cycles := c.cycles + r.stall }
    else s)

/-- `HALT`: the buffer drains and the core stops; an extension core's island goes off (R469, R539). -/
def execHalt (r : CoreRun) (s : State) : Step :=
  let n : Nat := r.n
  .next (s.awl r (encR 0x3E 0 0 0 5) [] true (fun s =>
    let s := ((s.drainAll n).awlDone n 1 (fun c => c)).wr (Key.coreState n) 2
    if n < 12 then s else s.coreIslAsk n false))

end Sys2Proof.Machine
end

