-- ==== Sys2Proof/Machine/ChainRx.lean ====
section
/-! DEFINITION. Chain frames that arrive, pass through and leave: checks, credits, lanes, routes, link delay, chain time and
remote Saddlebag requests (R29 to R34, R47 to R55, R439 to R441). -/

namespace Sys2Proof.Machine

/-! ### Link delay (R51, R440) -/

/-- Mean of the accepted measurements, rounded down (log 12). -/
def meanDelay (l : List Nat) : Nat := if l.isEmpty then 0 else l.sum / l.length

/-- Link delay of four stamps, in ns (R51). -/
def delayOf (t1 t2 t3 t4 : Nat) : Nat := ((((t4 : Int) - t1) - ((t3 : Int) - t2)) / 2).toNat

/-- A measurement enters the filter of its port, or is discarded (R440). -/
def ChainPort.measure (x : ChainPort) (d : Nat) : ChainPort :=
  let m := meanDelay x.delays
  let near := decide (d ≤ m + 50) && decide (m ≤ d + 50)
  if x.delays.isEmpty || near then { x with delays := (d :: x.delays).take 16, discards := 0, measured := x.measured + 1 }
  else if x.discards < 16 then { x with discards := x.discards + 1, measured := x.measured + 1 }
  else { x with delays := [d], discards := 0, measured := x.measured + 1 }

/-- `DELAY_MEASURE` (R51). -/
def execDelayMeasure (p : Side) (t1 : Nat) (s : State) : Step :=
  .next (if s.linkUp p then (s.setCport p { s.cport p with t1 := some t1 }).sendPort p (.delayReq t1) else s)

/-- A DELAY_REQ is answered with the stamps of its arrival and of the answer's departure (R51). -/
def State.delayReq (s : State) (p : Side) (t1 t2 t3 : Nat) : State :=
  if s.linkUp p then s.sendPort p (.delayRsp t1 t2 t3) else s

/-- `DELAY_REQ_RX`. -/
def execDelayReqRx (p : Side) (t1 t2 t3 : Nat) (s : State) : Step := .next (s.delayReq p t1 t2 t3)

/-- A DELAY_RSP ends the measurement in progress: delay, filter, `LINK_LONG` (R51). `LINK_DELAY_NS` is held at the end of its
range. -/
def State.delayRsp (s : State) (p : Side) (t1 t2 t3 t4 : Nat) : State :=
  let x := s.cport p
  if x.t1 = some t1 ∧ s.linkUp p then
    let d := delayOf t1 t2 t3 t4
    let long : Bool := decide (20000 < d)
    let s := (s.setCport p { x.measure d with t1 := none, long := long }).wr (Key.linkDelayNs (sideNum p)) (min d 20000)
    if long then s.chainPost .linkLong p else s
  else s

/-- `DELAY_RSP_RX`. -/
def execDelayRspRx (p : Side) (t1 t2 t3 t4 : Nat) (s : State) : Step := .next (s.delayRsp p t1 t2 t3 t4)

/-! ### Chain time (R52, R439 to R441) -/

/-- Hops to the active head by a port whose links are up and whose own link serves time (R51, R52). -/
def State.hopsVia (s : State) (p : Side) : Option Nat :=
  let t := s.chain.topo
  let l := topoLive t
  let n := l.length
  match findIdxFrom (fun e => e.eui == s.ident.eui64) 0 l, topoPos t t.head with
  | some i, some j =>
    if i = j ∨ (s.cport p).long then none
    else
      match p with
      | .dn => if pathDown l i ((j + n - i) % n) && (t.ring || decide (i < j)) then some ((j + n - i) % n) else none
      | .up => if pathDown l j ((i + n - j) % n) && (t.ring || decide (j < i)) then some ((i + n - j) % n) else none
  | _, _ => none

/-- The port from which this device takes time: fewer hops, TACK_UP where both have equal hops (R52). -/
def State.timePort (s : State) : Option Side :=
  match s.hopsVia .up, s.hopsVia .dn with
  | some a, some b => if b < a then some .dn else some .up
  | some _, none => some .up
  | none, some _ => some .dn
  | none, none => none

/-- Hops that this device's TIME frame out of a port names; none: it sends none there (R52, R439). -/
def State.timeHops (s : State) (p : Side) : Option Nat :=
  if s.isHead then some 0
  else match s.timePort with
    | some q => if p = q then none else s.hopsVia q
    | none => none

/-- Bytes 0 to 27 of a TIME payload (Table 17-2). -/
def timeBytes (m : TimeMsg) : Bytes :=
  leBytes 10 (timeRaw m.tTx) ++ leBytes 1 m.srcState ++ leBytes 1 m.hops ++ leBytes 2 m.stepGen ++ zeros 14

/-- A TIME payload with its CRC. -/
def timeMsg (t : Time80) (st hops gen : Nat) : TimeMsg :=
  let m : TimeMsg := { tTx := t, srcState := st, hops := hops, stepGen := gen, crc := 0, tRx := 0 }
  { m with crc := Crypto.crc32c (timeBytes m) }

/-- `TIME_FRAME_TX` (R52, R439); the departing port writes T_TX. -/
def execTimeFrameTx (p : Side) (s : State) : Step :=
  .next (match s.timeHops p with
    | some h =>
      if s.linkUp p then
        s.sendPort p (.time (timeMsg s.time80 s.clock.state h s.clock.stepGen))
      else s
    | none => s)

/-- A TIME frame is rejected (R440). -/
def State.timeRejects (s : State) (p : Side) (m : TimeMsg) : Bool :=
  s.isHead || s.timePort != some p || Crypto.crc32c (timeBytes m) != m.crc || m.srcState == 0 || m.srcState == 3 || decide ((s.cport p).measured < 4)

/-- A TIME frame arrives: one sample, and the head's step generation is adopted (R440, R441). -/
def State.timeRx (s : State) (p : Side) (m : TimeMsg) : State :=
  if s.timeRejects p m then s
  else
    let off : Int := (timeNs m.tTx : Int) + meanDelay (s.cport p).delays - m.tRx
    let s := s.sample off (m.stepGen != s.clock.stepGen) false
    ({ s with clock := { s.clock with stepGen := m.stepGen } }).epochCheck

/-- `TIME_FRAME_RX`. -/
def execTimeFrameRx (p : Side) (m : TimeMsg) (dt : Nat) (s : State) : Step := .next ((s.advance dt).timeRx p m)

/-! ### Remote Saddlebag requests of this device (R53 to R55) -/

/-- A request keeps the limits of R54. -/
def sbReqOk (r : SbReq) : Bool :=
  decide (64 ≤ r.len) && decide (r.len ≤ 512) && r.len % 64 == 0 && sbOffset r.addr % 64 == 0
    && (match r.write with
      | some bs => bs.length == r.len
      | none => true)

/-- Bytes of an SB_REQ payload: address and length, and the bytes of a write (log 55). -/
def sbReqLen (r : SbReq) : Nat := 16 + (match r.write with
  | some bs => bs.length
  | none => 0)

/-- Post a status of a remote request: the port towards the device is SOURCE, 0x1100 where there is none (R58, log 53). -/
def State.sbPost (s : State) (c : Err) (device : Nat) : State :=
  match s.routeTo device with
  | some p => s.chainPost c p
  | none => s.post c 0x1100

/-- `SB_REQ_ISSUE`. -/
def execSbReqIssue (r : SbReq) (s : State) : Step :=
  let d := sbDevice r.addr
  .next (if !sbReqOk r then (s.sbPost .sbBadReq d).emit (.saddlebag 0 none [])
    else if d = s.addr then
      (if s.rd Key.sbAttached < sbOffset r.addr + r.len then s.emit (.saddlebag 0 (some .unmapped) []) else s.sbAsk (.own r))
    else if s.addr = 0xFF ∨ (topoPos s.chain.topo d).isNone then (s.sbPost .sbNoDevice d).emit (.saddlebag 0 none [])
    else
      let tag := s.chain.nextTag
      let o : SbOpen := { tag := tag, req := r, sentAt := s.elapsed }
      let s := { s with chain := { s.chain with nextTag := (tag + 1) % 2 ^ 32, opens := s.chain.opens ++ [o] } }
      s.sendChain d 0 0 (sbReqLen r) tag (.sbReq r))

/-- A response arrives: its request ends, or it is discarded and counted (R55). -/
def State.sbResponse (s : State) (tag : Nat) (code : SbCode) (bytes : Bytes) : State :=
  if s.chain.opens.any (fun o => o.tag == tag) then
    ({ s with chain := { s.chain with opens := s.chain.opens.filter (fun o => o.tag != tag) } }).emit (.saddlebag tag (some code) bytes)
  else { s with chain := { s.chain with late := s.chain.late + 1 } }

/-- `SB_RSP_RX`. -/
def execSbRspRx (tag : Nat) (code : SbCode) (bytes : Bytes) (s : State) : Step := .next (s.sbResponse tag code bytes)

/-- `SB_TIMEOUT` of an open request (R55). -/
def execSbTimeout (tag dt : Nat) (s : State) : Step :=
  let s := s.advance dt
  .next (match s.chain.opens.find? (fun o => o.tag == tag) with
    | none => s
    | some o =>
      if s.elapsed < o.sentAt + us (s.rd Key.chainSbTimeoutUs) then s
      else
        let s := { s with chain := { s.chain with opens := s.chain.opens.filter (fun o => o.tag != tag) } }
        (s.sbPost .sbTimeout (sbDevice o.req.addr)).emit (.saddlebag tag none []))

/-! ### Frames that arrive (R29, R31, R34, R35, R48, R49) -/

/-- A frame that passes through waits at the opposite port (R48). -/
def State.transit (s : State) (p : Side) (f : ChainFrame) : State :=
  if f.hops = 0 then (s.bump (Key.hopExpired (sideNum p))).credit p f.lane (unitsOf f.length)
  else if s.linkUp p.other then s.queueAt p.other { f with hops := f.hops - 1 }
  else (s.bump (Key.noRoute (sideNum p.other))).credit p f.lane (unitsOf f.length)

/-- An access frame for this device: a response, a NOTIFY event or a request (R74, R75, R81). -/
def State.dictRx (s : State) (p : Side) (src : Nat) (a : Access) : State :=
  if !a.crcOk then s.bump Key.dictCrcErr
  else if a.resp then s.dictResponse src a true
  else if a.op = 8 ∧ a.target ≠ s.addr then s.notifyHere a
  else s.request (.chain p) a

/-- A frame joins those that wait for the Harness at its chain input (R273, Table 10-2). -/
def State.chainArrival (s : State) (p : Side) (info : InMeta) (bytes : Bytes) : State :=
  { s with har := { s.har with arrivals := s.har.arrivals ++ [{ h := harnessPort p, info := info, bytes := bytes }] } }

/-- A DONE frame: at the device whose pass it ends, a SURVEY goes on with ASSIGN; elsewhere it is passed on (R37). -/
def State.doneRx (s : State) (p : Side) (m : Survey) (offer : Option Nat) : State :=
  match s.chain.enumRun with
  | some r => if p = r.dir ∧ offer = none then s.surveyBack m true else s
  | none => if s.rd Key.chainRole != 1 && s.linkUp p.other then s.sendPort p.other (.done m offer) else s

/-- A SURVEY: this device's own returns, another's passes (R37). One of its own that returns to no run, because a PREPARE deferred
it, ends here (R43). -/
def State.surveyIn (s : State) (p : Side) (m : Survey) : State :=
  match s.chain.enumRun with
  | some r => if m.rank = s.rank then (if p = r.dir then s else s.surveyBack m false) else s.surveyRx p m
  | none => if m.rank.eui = s.ident.eui64 then s else s.surveyRx p m

/-- This device takes the content of a frame. The end of an ASSIGN pass comes with the map of its devices, as `ASSIGN_RETURN`. -/
def State.takeBody (s : State) (p : Side) (f : ChainFrame) : State :=
  match f.body with
  | .link m => s.linkRx p m
  | .survey m => s.surveyIn p m
  | .assign m => if s.chain.enumRun.isSome then s else s.assignRx p m
  | .done m o => s.doneRx p m o
  | .topo m => (s.topoRx m).raise 11
  | .head m => s.headRx m
  | .time m => s.timeRx p m
  | .delayReq t1 => s.delayReq p t1 s.nowNs s.nowNs
  | .delayRsp t1 t2 t3 => s.delayRsp p t1 t2 t3 s.nowNs
  | .dict a => (s.chainArrival p (.chainOther true) (accessBytes a)).dictRx p f.src a
  | .data bs => s.chainArrival p (.chainData f.tenant f.cls f.src f.dst) bs
  | .sbReq r => (s.chainArrival p (.chainOther false) (r.write.getD [])).sbRequest p f.src f.tag r
  | .sbRsp c bs => (s.chainArrival p (.chainOther false) bs).sbResponse f.tag c bs
  | .none => s

/-- Types that a neighbour or an enumeration pass handles hop by hop (Table 2-3, R37). -/
def hopByHop (typ : Nat) : Bool := typ ≤ 3 || (6 ≤ typ && typ ≤ 8)

/-- Credits return for a frame that leaves the receive buffer here; LINK takes none (R31). -/
def State.consumed (s : State) (p : Side) (f : ChainFrame) : State :=
  if f.typ = 0 then s else s.credit p f.lane (unitsOf f.length)

/-- The frame is a request for the dictionary server. -/
def frameRequest (f : ChainFrame) : Bool :=
  match f.body with
  | .dict a => !a.resp && a.crcOk
  | .link _ | .survey _ | .assign _ | .done _ _ | .topo _ | .head _ | .time _ | .delayReq _ | .delayRsp _ _ _ | .data _ | .sbReq _
    | .sbRsp _ _ | .none => false

/-- The frame is a response that finds the mailbox full (R509). -/
def State.frameResponseWaits (s : State) (f : ChainFrame) : Bool :=
  match f.body with
  | .dict a => a.resp && a.crcOk && s.responseWaits f.src a
  | .link _ | .survey _ | .assign _ | .done _ _ | .topo _ | .head _ | .time _ | .delayReq _ | .delayRsp _ _ _ | .data _ | .sbReq _
    | .sbRsp _ _ | .none => false

/-- A frame for this device leaves the receive buffer, but for a request that finds the server full, and a response that finds the mailbox
full: these keep their units until they are taken (R77, R509). -/
def State.taken (s : State) (p : Side) (f : ChainFrame) : State :=
  if s.frameResponseWaits f then { s with host := { s.host with mailboxHeld := s.host.mailboxHeld ++ [(p, unitsOf f.length)] } }
  else if frameRequest f && s.serverFull then { s with dict := { s.dict with held := s.dict.held ++ [(p, unitsOf f.length)] } }
  else s.consumed p f

/-- A broadcast is taken once and passed on; its source removes it, and so does the end of an open chain (R49). -/
def State.castRx (s : State) (p : Side) (f : ChainFrame) : State :=
  if f.src = s.addr ∧ s.addr ≠ 0xFF then s.consumed p f
  else
    let onward : Bool := decide (f.hops ≠ 0) && s.linkUp p.other
    let s := if onward then s.queueAt p.other { f with hops := f.hops - 1 } else s.taken p f
    if s.addr = 0xFF ∧ !unassignedType f.typ then s else s.takeBody p f

/-- The frame is addressed to this device (Table 2-2). -/
def State.forMe (s : State) (f : ChainFrame) : Bool :=
  s.addr != 0xFF && (f.dst == s.addr || (f.dst == dstHead && s.rd Key.chainRole == 1))

/-- A frame that passed its checks goes where it belongs (R35, R48, R49). -/
def State.frameRx (s : State) (p : Side) (f : ChainFrame) : State :=
  if hopByHop f.typ then (s.consumed p f).takeBody p f
  else if f.dst = dstAll then s.castRx p f
  else if s.forMe f then (s.taken p f).takeBody p f
  else s.transit p f

/-- `CHAIN_FRAME_RX`: a frame by its header and content, the payload bytes received and the CRC-32C that came with them (R29). -/
def execChainFrameRx (p : Side) (f : ChainFrame) (payload : Bytes) (crc : BitVec 32) (s : State) : Step :=
  let n := sideNum p
  let rxBytes := payload.length
  let crcOk := frameCrc f payload == crc.toNat
  let drop (s : State) : State := if f.typ = 0 ∨ !s.linkUp p then s else s.credit p f.lane (unitsOf rxBytes)
  .next (if !s.alive || decide (s.link p < 2) || (s.link p == 2 && f.typ != 0) then s
    else
      let s := s.setCport p { s.cport p with ignoring := false }
      if !crcOk then drop (s.bump (Key.rxCrcErr n))
      else if 2048 < f.length ∨ f.length ≠ rxBytes then drop (s.bump (Key.rxLenBad n))
      else if 12 < f.typ then drop (s.bump (Key.typeBad n))
      else s.frameRx p f)

/-- `CHAIN_FRAME_ABORT`: a partial frame of a lane, after a number of blocks without data or a loss of block lock (R34). In HELLO
the frame is a LINK frame, which holds no credits. -/
def execChainFrameAbort (p : Side) (lane : Fin 4) (units blocks : Nat) (lockLost : Bool) (s : State) : Step :=
  .next (if decide (2 ≤ s.link p) && (lockLost || decide (s.rd Key.chainIdleBlocks ≤ blocks)) then
      let s := s.bump (Key.rxAbort (sideNum p))
      let s := if s.linkUp p then s.credit p lane units else s
      s.setCport p { s.cport p with ignoring := true }
    else s)

/-! ### Frames that leave (R31 to R33) -/

/-- A frame may leave with the credits held (R31, R33). -/
def canLeave (x : ChainPort) (f : ChainFrame) : Bool :=
  let lane := laneOf f.typ
  let keep := if frameOwn f ∧ lane ≠ 0 then 33 else 0
  decide (unitsOf f.length + keep ≤ x.credits.getD lane 0)

/-- The oldest frame of a lane, with its place. -/
def laneHead (x : ChainPort) (lane : Nat) : Option (Nat × ChainFrame) :=
  match findIdxFrom (fun f => laneOf f.typ == lane) 0 x.out with
  | some i => (x.out[i]?).map (fun f => (i, f))
  | none => none

/-- The oldest transit frame of a lane, with its place. -/
def laneTransit (x : ChainPort) (lane : Nat) : Option (Nat × ChainFrame) :=
  match findIdxFrom (fun f => laneOf f.typ == lane && !frameOwn f) 0 x.out with
  | some i => (x.out[i]?).map (fun f => (i, f))
  | none => none

/-- The frame of a lane that may leave: its oldest, or behind an own frame that lacks the credits of R33 the oldest in transit, which
needs only its own. -/
def laneReady (x : ChainPort) (lane : Nat) : Option (Nat × ChainFrame) :=
  match laneHead x lane with
  | some q =>
    if canLeave x q.2 then some q
    else match laneTransit x lane with
      | some r => if canLeave x r.2 then some r else none
      | none => none
  | none => none

/-- Bytes that a lane may send per round: weight × 64 (R32; the unit is a DESIGN CHOICE, log 56). -/
def laneQuantum (weights lane : Nat) : Nat := 64 * bits weights (8 * (3 - lane)) 8

/-- Deficit round robin over lanes 1 to 3: the lane at turn sends while its deficit lasts, then the next one's grows. -/
def drrPick (weights : Nat) : Nat → ChainPort → ChainPort × Option (Nat × ChainFrame)
  | 0, x => (x, none)
  | n + 1, x =>
    let lane := x.turn % 3 + 1
    let next := (x.turn + 1) % 3
    let size (f : ChainFrame) : Nat := 20 + f.length
    match laneReady x lane with
    | some (i, f) =>
      if size f ≤ x.deficit.getD lane 0 then ({ x with deficit := vmod (fun d => d - size f) lane x.deficit }, some (i, f))
      else
        let grow := if (laneReady x (next + 1)).isSome then laneQuantum weights (next + 1) else 0
        drrPick weights n { x with turn := next, deficit := vmod (fun d => d + grow) (next + 1) x.deficit }
    | none =>
      let d := if (laneHead x lane).isNone then vmod (fun _ => 0) lane x.deficit else x.deficit
      let grow := if (laneReady x (next + 1)).isSome then laneQuantum weights (next + 1) else 0
      drrPick weights n { x with turn := next, deficit := vmod (fun d => d + grow) (next + 1) d }

/-- The frame that leaves next: lane 0 first (R32). -/
def pickFrame (weights : Nat) (x : ChainPort) : ChainPort × Option (Nat × ChainFrame) :=
  match laneReady x 0 with
  | some q => (x, some q)
  | none =>
    if [1, 2, 3].any (fun l => (laneReady x l).isSome) then drrPick weights 128 x else (x, none)

/-- A departing TIME frame carries the time of its departure (R439). -/
def State.stampOut (s : State) (f : ChainFrame) : ChainFrame :=
  match f.body with
  | .time m => { f with body := .time { m with tTx := s.time80 } }
  | _ => f

/-- `CHAIN_FRAME_TX`: the next frame leaves, and takes its credits; the credits of a frame in transit return to where it came
from. -/
def execChainFrameTx (p : Side) (dt : Nat) (s : State) : Step :=
  let s := s.advance dt
  .next (if !s.linkUp p then s
    else
      let got := pickFrame (s.rd Key.chainLaneWeights) (s.cport p)
      match got.2 with
      | none => s
      | some (i, f) =>
        let lane := laneOf f.typ
        let n := unitsOf f.length
        let x := got.1
        let s := s.setCport p { x with out := removeAt i x.out, credits := vmod (fun c => c - n) lane x.credits }
        let s := if frameOwn f then s else s.credit p.other lane n
        s.emit (.chain p (s.stampOut f)))

end Sys2Proof.Machine
end

