-- ==== Sys2Proof/Machine/Hp9.lean ====
section
/-! DEFINITION. The HP9 rings of the cores: frames that the Harness writes to a core, and frames that it takes from one (R282, R482,
R483, Tables 18-10 and 18-11). -/

namespace Sys2Proof.Machine

/-- Entries that the Harness owns: from head up to tail (log 66). -/
def CoreRing.given (r : CoreRing) : Nat := (r.tail + 2 ^ r.size - r.head) % 2 ^ r.size

/-- Local address of the entry at the head. -/
def CoreRing.headAddr (r : CoreRing) : Nat := (r.base + 32 * r.head) % localSize

/-- The ring after one entry. -/
def CoreRing.next (r : CoreRing) : CoreRing := { r with head := (r.head + 1) % 2 ^ r.size }

/-- Descriptor at local address a of core n, as a number (R577). -/
def State.desc (s : State) (n a : Nat) : Nat := leNat (s.localBytes n a 32)

/-- Write a descriptor back. -/
def State.setDesc (s : State) (n a d : Nat) : State := s.localStore n a (leBytes 32 d)

/-- BUF and BUFLEN of a descriptor hold len bytes. -/
def descHolds (d len : Nat) : Bool := decide (len ≤ bits d 144 16) && decide (bits d 160 32 + len ≤ localSize)

/-! ### To a core -/

/-- The core that a frame for HP9 goes to: the one it names, or the lowest that accepts its reason (R483). -/
def State.hp9Core (s : State) (f : HFrame) : Option Nat :=
  let takes (n : Nat) : Bool := bitOf (s.core n).accept f.reason
  match f.core with
  | some n => if f.reason = 0 then some n else (List.range 16).find? takes
  | none => (List.range 16).find? takes

/-- A receive descriptor with a frame's fields written back. -/
def rxDescBack (d : Nat) (f : HFrame) : Nat :=
  let d := setBits (setBits (setBits d 240 16 f.bytes.length) 236 4 f.input) 229 3 f.cls
  let d := setBits (setBits (setBits d 224 4 f.reason) 216 8 f.tenant) 192 4 0
  setBits d 0 128 (if f.input < 4 then f.rxMeta else 0)

/-- A frame is lost for want of an entry or of buffer room. -/
def State.hp9Lost (s : State) (n : Nat) (f : HFrame) : State :=
  let c := s.core n
  (s.setCore n { c with drops := satAdd u32Max c.drops 1 }).copyLost f

/-- A frame is written to the receive ring of core n, or lost. -/
def State.hp9To (s : State) (n : Nat) (f : HFrame) : State :=
  let c := s.core n
  let r := c.rxRing
  let a := r.headAddr
  let d := s.desc n a
  if r.size = 0 ∨ r.head = r.tail ∨ !descHolds d f.bytes.length then s.hp9Lost n f
  else
    let s := (s.localStore n (bits d 160 32) f.bytes).setDesc n a (rxDescBack d f)
    let s := s.setCore n { c with rxRing := r.next, rxFilled := c.rxFilled ++ [r.head] }
    (s.bump (Key.hpTx 9)).reportFinal (if f.report then f.handle else none) 0 0

/-- `HP9_RX_DELIVER`: the frame that leaves HP9. -/
def execHp9RxDeliver (s : State) : Step :=
  .next (match KMap.find s.har.leaving 9 with
    | none => s
    | some f =>
      let s := { s with har := { s.har with leaving := KMap.drop s.har.leaving 9 } }
      match s.hp9Core f with
      | none => s.qDrop 9 f
      | some n => s.hp9To n f)

/-! ### From a core -/

/-- The fields of a transmit descriptor lie in their ranges, and cores 12 to 15 send for tenant 0 only (R483). -/
def txDescOk (n d : Nat) : Bool :=
  let len := bits d 240 16
  let short := bits d 200 16
  let room := bits d 144 16
  decide (1 ≤ len) && decide (len ≤ 9216) && decide (bits d 232 4 ≤ 11) && (short == 0xFFFE || (decide (0x4000 ≤ short) && decide (short ≤ 0x7FFF)))
    && decide (64 ≤ room) && decide (room ≤ 9216) && descHolds d len && (decide (n < 12) || bits d 216 8 == 0)

/-- What accompanies the frame of a transmit descriptor into the Harness. -/
def txDescMeta (d : Nat) : InMeta :=
  let out := bits d 232 4
  let short := bits d 200 16
  if bitOf d 228 then
    .directed (bits d 216 8) (bits d 229 3) out (if out < 4 ∧ short ≠ 0xFFFE then some short else none)
      (if out = 9 then some (bits d 196 4) else none) none false
  else .routed (bits d 216 8) (bits d 229 3) none false

/-- The Harness takes the frame of descriptor d of core n; tells whether it was sent. -/
def State.hp9Take (s : State) (n d : Nat) : State × Bool :=
  if txDescOk n d then
    s.frameIn 9 (txDescMeta d) (s.localBytes n (bits d 160 32) (bits d 240 16)) { bridle := none, halter := 0 }
  else (s, false)

/-- `HP9_TX_TAKE`: the entry at the head of core n's transmit ring; its STATUS is written back, and the core is told. -/
def execHp9TxTake (n : Fin 16) (dt : Nat) (s : State) : Step :=
  let s := s.advance dt
  let k : Nat := n
  let r := (s.core k).txRing
  .next (if r.size = 0 ∨ r.head = r.tail ∨ s.inputClosed 9 then s
    else
      let a := r.headAddr
      let d := s.desc k a
      let got := s.hp9Take k d
      let s := got.1.setDesc k a (setBits d 192 4 (if got.2 then 0 else 1))
      let c := s.core k
      (s.setCore k { c with txRing := r.next }).raise (48 + k))

end Sys2Proof.Machine
end

