-- ==== Sys2Proof/Machine/Mailbox.lean ====
section
/-! DEFINITION. The host's BARs: the dictionary mailbox, every register of BAR0 and BAR2, and writes of registers (R495 to R497,
R506 to R511, R63). -/

namespace Sys2Proof.Machine

/-! ### Mailbox (R508, R509) -/

/-- The request in `mbx.req`: the device writes its ORIGIN. -/
def State.mailRequest (s : State) (len : Nat) : Access :=
  { parseAccess (slice s.host.mbxReq 0 len) with origin := if s.addr = 0xFF then 0x80 else 0x80 + s.addr }

/-- A request of len bytes is submitted; another length is rejected. -/
def State.mailSubmit (s : State) (len : Nat) : State :=
  if len < 24 ∨ 1048 < len then s else s.request .mailbox (s.mailRequest len)

/-- `MBX_SUBMIT`. -/
def execMbxSubmit (len : BitVec 11) (s : State) : Step := .next (s.hostWrites (fun s => s.mailSubmit len.toNat))

/-- The oldest response that waited in lane-1 credits gives them back. -/
def State.mailboxCredit (s : State) : State :=
  match s.host.mailboxHeld with
  | [] => s
  | (p, n) :: rest => ({ s with host := { s.host with mailboxHeld := rest } }).credit p 1 n

/-- `MBX_RESPONSE_ENQUEUE`: a response that waited enters the queue once it has room. -/
def execMbxResponseEnqueue (s : State) : Step :=
  .next (match s.host.mailboxWait with
    | [] => s
    | (a, chain) :: rest =>
      if 32 ≤ s.host.mailbox.length then s
      else
        let s := ({ s with host := { s.host with mailbox := s.host.mailbox ++ [a], mailboxWait := rest } }).setCause 64
        if chain then s.mailboxCredit else s)

/-- The oldest response leaves the queue. -/
def State.mailPop (s : State) : State := { s with host := { s.host with mailbox := s.host.mailbox.drop 1 } }

/-- `MBX_RSP_POP`. -/
def execMbxRspPop (s : State) : Step := .next (s.hostWrites State.mailPop)

/-! ### BAR0 (Tables 19-3 and 19-4, R506, R507) -/

/-- Ring base [63:32] or [31:12] is written; rejected while the ring is enabled. -/
def Ring.setBase (r : Ring) (high : Bool) (v : Nat) : Ring :=
  if r.size ≠ 0 then r
  else if high then { r with base := v % 2 ^ 32 * 2 ^ 32 + r.base % 2 ^ 32 }
  else { r with base := r.base / 2 ^ 32 * 2 ^ 32 + v % 2 ^ 32 / 4096 * 4096 }

/-- A configuration register of receive or transmit ring n is written: 0 base low, 1 base high, 2 size. -/
def State.ringConfig (s : State) (rx : Bool) (n k v : Nat) : State :=
  let f (r : Ring) : Ring := if k = 0 then r.setBase false v else if k = 1 then r.setBase true v else if k = 2 then r.setSize (v % 16) else r
  if rx then s.setRxRing n { f (s.rxRing n) with state := 0 } else s.setTxRing n (f (s.txRing n))

/-- `hif.cause[c]` is written: a flag is set only while its cause is enabled (R506). -/
def State.causeWrite (s : State) (c v : Nat) : State :=
  let on := bitOf v 31
  let m := KMap.setD s.host.causes (false, c % 64) c (on, v % 64)
  { s with host := { s.host with causes := m, flags := if on then s.host.flags else s.host.flags.filter (fun x => x != c) } }

/-- A word of the MSI-X table is written: address low and high, data, vector control. -/
def State.msixWrite (s : State) (v k x : Nat) : State :=
  let e := s.vector v
  s.setVector v (if k = 0 then { e with addr := e.addr / 2 ^ 32 * 2 ^ 32 + x % 2 ^ 32 / 4 * 4 }
    else if k = 1 then { e with addr := x % 2 ^ 32 * 2 ^ 32 + e.addr % 2 ^ 32 }
    else if k = 2 then { e with data := x % 2 ^ 32 }
    else { e with masked := x % 2 == 1 })

/-- A word is written at offset o of BAR0; an offset that no table lists is ignored (R495). -/
def State.bar0Write (s : State) (o v : Nat) : State :=
  if o = 0x10 then { s with host := { s.host with snap := s.time80, snapSeq := (s.host.snapSeq + 1) % 65536 } }
  else if o = 0x40 then s.hifRaise (v % 256)
  else if o = 0x48 then { s with host := { s.host with eventSel := v % 16 } }
  else if 0x1000 ≤ o ∧ o < 0x1100 ∧ o % 8 = 0 then
    s.setRxRing ((o - 0x1000) / 8) ((s.rxRing ((o - 0x1000) / 8)).setTail (v % 4096))
  else if 0x1100 ≤ o ∧ o < 0x1200 ∧ o % 8 = 0 then
    s.setTxRing ((o - 0x1100) / 8) ((s.txRing ((o - 0x1100) / 8)).setTail (v % 4096))
  else if 0x2000 ≤ o ∧ o < 0x2200 then s.ringConfig true ((o - 0x2000) / 16) (o % 16 / 4) v
  else if 0x2200 ≤ o ∧ o < 0x2400 then s.ringConfig false ((o - 0x2200) / 16) (o % 16 / 4) v
  else if 0x3000 ≤ o ∧ o < 0x3000 + 4 * 80 ∧ o ≠ 0x3000 + 4 * 71 then s.causeWrite ((o - 0x3000) / 4) v
  else if 0x3400 ≤ o ∧ o < 0x3500 then
    s.setVector ((o - 0x3400) / 4) { s.vector ((o - 0x3400) / 4) with holdoff := v % 1024 }
  else if 0xE000 ≤ o ∧ o < 0xE400 then s.msixWrite ((o - 0xE000) / 16) (o % 16 / 4) v
  else s

/-- The word that a ring's register reads: 0 base low, 1 base high, 2 size, 3 the counter or state. -/
def Ring.read (r : Ring) (rx : Bool) (k : Nat) : Nat :=
  if k = 0 then r.base % 2 ^ 32 else if k = 1 then r.base / 2 ^ 32 else if k = 2 then r.size else if rx then r.trunc else r.state

/-- The word that offset o of BAR0 reads; an offset that no table lists, or a write-only one, reads 0 (R495 to R497, R506, R507). -/
def State.bar0Read (s : State) (o : Nat) : Nat :=
  let x := s.vector ((o - 0xE000) / 16)
  if o = 0x14 then s.host.snapSeq
  else if o = 0x18 then s.host.snap.ns
  else if o = 0x1C then s.host.snap.sec % 2 ^ 32
  else if o = 0x20 then s.host.snap.sec / 2 ^ 32
  else if o = 0x44 then s.rd (Key.srcEvents (224 + s.host.eventSel))
  else if o = 0x48 then s.host.eventSel
  else if 0x1000 ≤ o ∧ o < 0x1100 then (if o % 8 = 0 then (s.rxRing ((o - 0x1000) / 8)).tail else (s.rxRing ((o - 0x1000) / 8)).head)
  else if 0x1100 ≤ o ∧ o < 0x1200 then (if o % 8 = 0 then (s.txRing ((o - 0x1100) / 8)).tail else (s.txRing ((o - 0x1100) / 8)).head)
  else if 0x2000 ≤ o ∧ o < 0x2200 then (s.rxRing ((o - 0x2000) / 16)).read true (o % 16 / 4)
  else if 0x2200 ≤ o ∧ o < 0x2400 then (s.txRing ((o - 0x2200) / 16)).read false (o % 16 / 4)
  else if 0x3000 ≤ o ∧ o < 0x3000 + 4 * 80 ∧ o ≠ 0x3000 + 4 * 71 then
    (let c := s.cause ((o - 0x3000) / 4); (if c.1 then 2 ^ 31 else 0) + c.2)
  else if 0x3400 ≤ o ∧ o < 0x3500 then (s.vector ((o - 0x3400) / 4)).holdoff
  else if 0xE000 ≤ o ∧ o < 0xE400 then
    (if o % 16 = 0 then x.addr % 2 ^ 32 else if o % 16 = 4 then x.addr / 2 ^ 32 else if o % 16 = 8 then x.data else if x.masked then 1 else 0)
  else if o = 0xF000 ∨ o = 0xF004 then
    ((List.range 32).filter (fun i => (s.vector (8 * (o - 0xF000) + i)).pending)).foldl (fun a i => a + 2 ^ i) 0
  else 0

/-! ### BAR2 (Table 19-8) -/

/-- A node record operation: 1 reads, 2 writes; another value is rejected. -/
def State.recordOp (s : State) (k : Nat) : State :=
  if k = 1 then outOf s (execNrRead s) else if k = 2 then outOf s (execNrWrite s) else s

/-- A word is written at offset o of BAR2. -/
def State.bar2Write (s : State) (o v : Nat) : State :=
  if o < 1048 then { s with host := { s.host with mbxReq := splice s.host.mbxReq o (leBytes 4 v) } }
  else if o = 0x1000 then s.mailSubmit (v % 2048)
  else if o = 0x1010 then s.mailPop
  else if 0x2000 ≤ o ∧ o < 0x2300 then s.tpWrite 16 (o - 0x2000) v
  else if 0x3000 ≤ o ∧ o < 0x3100 then { s with host := { s.host with nrData := slice (splice s.host.nrData (o - 0x3000) (leBytes 4 v)) 0 256 } }
  else if o = 0x3100 then (if nodeShort (v % 65536) then { s with host := { s.host with nrShort := v % 65536 } } else s)
  else if o = 0x3104 then s.recordOp (v % 4)
  else if 0x4000 ≤ o ∧ o < 0x4C00 then s.portWrite hostWindow ((o - 0x4000) / 0x400 + 1) (o % 0x400) v
  else s

/-- The word that offset o of BAR2 reads, apart from what the read does: the pop register of a strap queue port acts, as
`STRAP_PORT_POP` (R508, R509, R511). -/
def State.bar2Read (s : State) (o : Nat) : Nat :=
  let rsp := match s.host.mailbox with
    | a :: _ => accessBytes a
    | [] => []
  if 0x800 ≤ o ∧ o < 0x800 + 1048 then leNat (slice rsp (o - 0x800) 4)
  else if o = 0x1008 then s.host.mailbox.length
  else if o = 0x100C then rsp.length
  else if 0x2000 ≤ o ∧ o < 0x2300 then s.tpWord 16 (o - 0x2000)
  else if 0x3000 ≤ o ∧ o < 0x3100 then leNat (slice s.host.nrData (o - 0x3000) 4)
  else if o = 0x3100 then s.host.nrShort
  else if o = 0x3108 then s.host.nrCode
  else if 0x4000 ≤ o ∧ o < 0x4C00 then (s.portRead ((o - 0x4000) / 0x400 + 1) (o % 0x400)).2
  else 0

/-! ### Writes of registers (R63) -/

/-- A subentry that has no behaviour of its own takes a value, checked as a WRITE of it is. -/
def State.subWrite (s : State) (idx sub v : Nat) : State :=
  match rowOf idx sub with
  | none => s
  | some r =>
    if classGroup r ≠ 3 ∨ !s.dict.ready then s
    else (s.writeTake { parseAccess [] with index := idx, subindex := sub } 3 (s.checkAll idx sub [] [(r, v % 2 ^ (8 * r.ty.size))])).state

/-- A write that reaches a register. The host's need its link, a core's need the core to run. Registers are written as aligned
words (log 63). -/
def State.regWrite (s : State) (r : Reg) (v : Nat) : State :=
  match r with
  | .bar0 o => s.hostWrites (fun s => s.bar0Write (o.toNat / 4 * 4) (v % 2 ^ 32))
  | .bar2 o => s.hostWrites (fun s => s.bar2Write (o.toNat / 4 * 4) (v % 2 ^ 32))
  | .corePage n o => if s.coreRuns n then s.pageWrite n (o.toNat / 4 * 4) (v % 2 ^ 32) else s
  | .msixControl => s.hostWrites (fun s => { s with host := { s.host with functionMask := v % 2 == 1 } })
  | .subentry i k => s.subWrite i.toNat k.toNat v

/-- `REGISTER_WRITE`. -/
def execRegisterWrite (r : Reg) (v : Nat) (s : State) : Step := .next (s.regWrite r v)

end Sys2Proof.Machine
end

