-- ==== Sys2Proof/Machine/PowerCmd.lean ====
section
/-! DEFINITION. Power transitions, shutdown, loss of power, thermal trip, resets and the watchdog (R533 to R552). -/

namespace Sys2Proof.Machine

/-! ### Shutdown (R538, R541 to R544) -/

/-- A shutdown starts in a device that runs: ports ramp down and sleep, the run of `PWR_STATE_CMD` is overridden (Table 21-3,
R535, R538). A transition in progress counts as at its safe point. -/
def State.shutRun (s : State) (thermal : Bool) : State :=
  let found := s.power.moving.getD s.pwr
  let s := s.each (List.range 4) (fun s p => s.portShut p)
  let s := s.resEndIfBusy Key.pwrStateRes 1
  let s := (match s.power.moving with
    | some hop => s.powerEndWork hop
    | none => s).wr Key.pwrState found
  s.setPower { s.power with moving := none, pending := none, goal := none, held := false,
                            shutdown := some { phase := .running, committedAt := 0, found := found, since := s.elapsed, thermal := thermal,
                                               returned := false, offDone := false, cool := false } }

/-- A shutdown is triggered; before step 4 of a start has ended it is held (R541). -/
def State.shutTrigger (s : State) (thermal : Bool) : State :=
  if s.power.start.isSome then s.setPower { s.power with held := true }
  else if !s.dict.ready then s
  else match s.power.shutdown with
    | none => s.shutRun thermal
    | some d => if thermal then s.setPower { s.power with shutdown := some { d with thermal := true } } else s

/-- `SHUTDOWN_TRIGGER`: SHUTDOWN_N low for 10 µs, or VDD_33 low (R542). -/
def execShutdownTrigger (pin : Bool) (s : State) : Step :=
  let s := if pin then { s with pins := { s.pins with shutdownLow := true } } else s
  .next (s.shutTrigger false)

/-- The retention commit may be made: not before 4.0 ms, and for a thermal trip not before step 3 of Table 21-3 (R542, R546). -/
def State.commitDue (s : State) : Bool :=
  match s.power.shutdown with
  | some d => d.phase == .running && decide (d.since + (if d.thermal then us 100 else ms 4) ≤ s.elapsed)
  | none => false

/-- Steps 3 and 4 end: Saddlebag writes in flight complete, the journal header is rewritten, the cores drain and stop (Table
21-3, R322, R475). -/
def State.shutWork (s : State) : State :=
  let s := if s.sbUp then s.sbDrain else s
  let s := if s.sbUp && s.sb.journal.running then
      (s.each (s.sb.journal.flight.map (·.1)) (fun s k => s.journalCommit k)).journalHeader
    else s
  s.coresStop

/-- `RETENTION_COMMIT`: steps 5 to 7 (Table 21-3, R549). -/
def execRetentionCommit (dt : Nat) (s : State) : Step :=
  let s := s.advance dt
  .next (match s.power.shutdown with
    | none => s
    | some d =>
      if !s.commitDue then s
      else
        let s := s.shutWork
        let v := s.vbat
        let s := { s with vbat := { v with rtc := s.clock.sec, rtcFrac := 0, rtcAtCommit := s.clock.sec, shutSeq := (v.shutSeq + 1) % 2 ^ 32,
                                           clean := true } }
        let s := s.setPower { s.power with shutdown := some { d with phase := .committed, committedAt := s.elapsed } }
        s.mainDown.wr Key.pwrState 1)

/-- `CORE_STOP_REQUEST`: on the way to STANDBY, and in a shutdown from 4.0 ms on (R475, R535, Table 21-3). -/
def execCoreStopRequest (dt : Nat) (s : State) : Step :=
  let s := s.advance dt
  .next (if s.power.moving = some 2 || s.commitDue then s.coresStop else s)

/-- The supply returns before the commit: the device goes back to the state it was found in (R543). -/
def State.shutAbandon (s : State) (d : Shutdown) : State :=
  let s := s.setPower { s.power with shutdown := none, dwellUntil := s.elapsed }
  let s := if 3 ≤ d.found then (s.coreIslandsSet true).watchdogStart else s
  if d.found = 4 then s.raisePorts else s

/-- The conditions of a start after a completed shutdown hold: off time, supply, and temperature (R544, R546). -/
def Shutdown.over (d : Shutdown) (rails : Bool) : Bool := d.offDone && (d.returned || rails) && (!d.thermal || d.cool)

/-- The start after a completed shutdown, once it may begin; bad: words of the battery-backed registers whose parity fails. -/
def State.shutStart (s : State) (d : Shutdown) (bad : List (Fin 2048)) : State :=
  let s := s.setPower { s.power with shutdown := some d }
  if d.over s.power.rails && !s.pins.resetLow then s.coldBegin bad else s

/-- `SUPPLY_RETURN` (R543, R544). -/
def execSupplyReturn (bad : List (Fin 2048)) (s : State) : Step :=
  let s := { s with pins := { s.pins with shutdownLow := false } }
  .next (match s.power.shutdown with
    | none => s.setPower { s.power with held := s.power.held && s.power.cause == some 5 }
    | some d =>
      match d.phase with
      | .running => if d.thermal then s else s.shutAbandon d
      | .committed => s.shutStart { d with returned := true } bad)

/-- `OFF_TIME_END`: 50 ms after the commit (R544). -/
def execOffTimeEnd (bad : List (Fin 2048)) (dt : Nat) (s : State) : Step :=
  let s := s.advance dt
  .next (match s.power.shutdown with
    | none => s
    | some d => if d.phase = .committed ∧ d.committedAt + ms 50 ≤ s.elapsed then s.shutStart { d with offDone := true } bad else s)

/-- `THERMAL_TRIP` (R546). -/
def execThermalTrip (s : State) : Step :=
  .next (if s.alive then (s.setPower { s.power with cause := some 5 }).shutTrigger true else s)

/-- `THERMAL_COOL` (R546). -/
def execThermalCool (bad : List (Fin 2048)) (s : State) : Step :=
  .next (match s.power.shutdown with
    | none => s
    | some d => if d.phase = .committed ∧ d.thermal then s.shutStart { d with cool := true } bad else s)

/-- `LOSS_OF_POWER`: before the commit everything stops at once, and the next cold start posts cause 2; a start that was interrupted
keeps its cause (R540, R545). -/
def execLossOfPower (s : State) : Step :=
  let s := s.setPower { s.power with rails := false }
  .next (match s.power.shutdown with
    | some d =>
      if d.phase = .committed then s
      else (s.setPower { s.power with shutdown := none, held := false, cause := none }).mainDown.wr Key.pwrState 1
    | none =>
      if s.alive then
        let cause := match s.power.start with
          | some st => if s.dict.ready then none else some st.cause
          | none => none
        (s.setPower { s.power with held := false, cause := cause }).mainDown.wr Key.pwrState 1
      else s)

/-! ### Pins (R554, Table 22-2) -/

/-- Status lamps GPIOB0 to GPIOB3: RUN; a ring; an entry of severity 2 or 3 within the last 10 s; keyed. High impedance (none) in OFF and
VBAT-ONLY. -/
def State.lamps (s : State) : Option (List Bool) :=
  if s.pwr < 2 then none
  else
    let alarm : Bool := match s.dict.alarmAt with
      | some t => decide (s.elapsed ≤ t + ms 10000)
      | none => false
    some [s.pwr == 4, s.rd Key.chainRing == 1, alarm, s.rd Key.keeperState == 1]

/-- CXL_RST_N: low in state down until training starts; high impedance in OFF and VBAT-ONLY. -/
def State.cxlResetPin (s : State) : Option Bool := if s.pwr < 2 then none else some (s.rd Key.sbLinkState != 0)

/-! ### Resets (R540, R547) -/

/-- `RESET_N_LOW`: the pin is low for 1 µs; the main domains are held in reset, and the next cold start posts cause 4. -/
def execResetNLow (s : State) : Step :=
  let off : Bool := match s.power.shutdown with
    | some d => d.phase == .committed
    | none => false
  let s := { s with pins := { s.pins with resetLow := true } }
  .next (if off ∨ s.pwr = 0 then s
    else (s.setPower { s.power with shutdown := none, held := false, cause := some 4 }).mainDown.wr Key.pwrState 1)

/-- Contents of the expanders are lost with their power (Table 21-5). -/
def State.expandersLost (s : State) : State :=
  { s with sb := { s.sb with mem := [] }, lacing := { s.lacing with lists := [] } }

/-- The order in which the main rails rise (R557). -/
def railOrder : List Rail := [.vddCore, .vddMem, .vddRf, .vddIo, .vdd33]

/-- `COLD_START`: the main rails have reached their operating ranges, or RESET_N is released; kept: the expanders stayed powered; bad:
words of the battery-backed registers whose parity fails. Rails in another order hold the device at step 1, and so does RESET_N (R540,
R544, R557, R558). -/
def execColdStart (ev : ColdEvent) (kept : Bool) (bad : List (Fin 2048)) (dt : Nat) (s : State) : Step :=
  let s := s.advance dt
  let free : Bool := match s.power.shutdown with
    | some d => ({ d with returned := true }).over true
    | none => true
  .next (if s.alive then s
    else
      let s := match ev with
        | .rails o =>
          if o ≠ railOrder then s
          else
            let s := s.setPower { s.power with rails := true }
            let s := if s.pwr = 0 then ({ s with vbat := Vbat.cleared }).wr Key.pwrState 1 else s
            if kept then s else s.expandersLost
        | .released => { s with pins := { s.pins with resetLow := false } }
      if !s.power.rails || s.pins.resetLow then s
      else if free then s.coldBegin bad
      else match s.power.shutdown with
        | some d => s.setPower { s.power with shutdown := some { d with returned := true } }
        | none => s)

/-- `WARM_RESET` for cause 6 + k of Table 21-6. -/
def execWarmReset (cause : Fin 4) (s : State) : Step := .next (s.ownReset (6 + cause))

/-- `WATCHDOG_REFRESH`. -/
def execWatchdogRefresh (s : State) : Step := .next s.watchdogStart

/-- `WATCHDOG_EXPIRY`: 2 s without a refresh while cores 0 to 11 run (R547). -/
def execWatchdogExpiry (dt : Nat) (s : State) : Step :=
  let s := s.advance dt
  .next (if s.coreIsland 0 && decide (s.power.watchdog + ms 2000 ≤ s.elapsed) then s.ownReset 9 else s)

/-! ### Transitions (R535, R538) -/

/-- The state RUN is reached: a start's posts, and a shutdown that was held (R541). -/
def State.runReached (s : State) : State :=
  let s := s.startPosts
  if s.power.held then s.shutTrigger (s.power.cause == some 5) else s

/-- The transition in progress ends. -/
def State.transitionEnd (s : State) (hop : Nat) : State :=
  let woke := s.pwr == 2 && hop == 3
  let s := (s.powerEndWork hop).powerArrive hop
  if hop = 4 then s.runReached else if woke then s.serveWaiting else s

/-- `PWR_TRANSITION_DONE`: the device reaches the end of its start, or the safe point of its transition. -/
def execPwrTransitionDone (dt : Nat) (s : State) : Step :=
  let s := s.advance dt
  .next (if s.power.start.isSome && !s.dict.ready then (if s.startWaited then s.startDone else s)
    else match s.power.moving with
      | none => s
      | some hop => if s.powerCanEnd then s.transitionEnd hop else s)

/-- `PWR_DWELL_END` (R538). -/
def execPwrDwellEnd (dt : Nat) (s : State) : Step :=
  let s := s.advance dt
  .next (match s.power.pending with
    | none => s
    | some t =>
      if s.power.moving.isSome || s.power.shutdown.isSome || decide (s.elapsed < s.power.dwellUntil) then s
      else if t = s.pwr then s.powerReached
      else s.powerStart t)

/-- `STANDBY_WAKE`: by a card's detection while `CON_READER` is 1, or by a host write or DICT frame (R537). -/
def execStandbyWake (card : Bool) (s : State) : Step :=
  .next (if s.pwr ≠ 2 then s
    else if card then (if s.flag Key.conReader then ({ s with concho := { s.concho with due := true } }).wake else s)
    else s.wake)

/-! ### The battery-backed supply (R551) -/

/-- `VBAT_LOST`: the domain's supply falls below 1.50 V, which VDD_IO prevents while it is up (R534). -/
def execVbatLost (s : State) : Step :=
  .next (if s.power.rails then s else ({ s with vbat := { Vbat.cleared with low := true }, pins := { s.pins with fdLow := false } }).wr Key.pwrState 0)

/-- `VBAT_SUPPLY_RISE`: the domain clears all 8 KiB. -/
def execVbatSupplyRise (s : State) : Step :=
  .next (if s.power.rails ∨ s.vbat.valid then s else ({ s with vbat := Vbat.cleared }).wr Key.pwrState 1)

end Sys2Proof.Machine
end

