-- ==== Sys2Proof/Machine/RxPath.lean ====
section
/-! DEFINITION. Receive tiles, the checks of R12, the duplicate filter and Backstitch (Skiver Channelizer,
Receive Channels and Backstitch; R12 to R14). -/

namespace Sys2Proof.Machine

/-! ### The checks of R12 -/

/-- What a receive tile or Backstitch engine measured of a frame (Table 6-7): RSSI in dBm, LQI, carrier offset in 100 Hz, chip-rate offset
in 0.1 ppm. -/
structure RxMeas where
  rssi : Int
  lqi : Nat
  fofs : Int
  tofs : Int
  deriving DecidableEq, Repr

/-- A frame at its end, before the checks. -/
structure AirFrame where
  tile : Nat
  port : Nat
  mode : Nat
  freq : Nat
  /-- PSDU with FCS -/
  psdu : Bytes
  stamp : Nat
  meas : RxMeas
  gain : Nat
  capt : Bool
  /-- recovered by Backstitch -/
  bs : Bool
  diff : Nat
  haBad : Nat
  deriving DecidableEq, Repr

/-- Receive metadata (Table 6-7). -/
def AirFrame.metadata (f : AirFrame) : Nat :=
  let b (v : Bool) (k : Nat) : Nat := if v then 2 ^ k else 0
  f.stamp % 2 ^ 32 * 2 ^ 96 + toRaw 8 f.meas.rssi * 2 ^ 88 + f.meas.lqi % 256 * 2 ^ 80 + toRaw 16 f.meas.fofs * 2 ^ 64
    + toRaw 16 f.meas.tofs * 2 ^ 48 + f.tile * 2 ^ 42 + f.port * 2 ^ 40 + f.mode * 2 ^ 36 + b f.bs 35 + b f.capt 34
    + min 255 f.diff * 2 ^ 24 + f.gain % 256 * 2 ^ 16

/-- Where a frame ended in R12, for its candidates (R182). -/
structure Verdict where
  fcs : Bool
  secured : Bool
  tag : Bool
  released : Bool
  deriving DecidableEq, Repr

/-- The checks of R12 whose failure a tile counts (Table 4-8). -/
inductive RxCheck where
  | fcs | security | replay | duplicate | foreign
  deriving DecidableEq, Repr

/-- Count a failed check on the tile; a recovered frame counts in `BS_FAILED` alone (R185). -/
def State.rxFail (s : State) (f : AirFrame) (c : RxCheck) : State :=
  if f.bs then s.bump (Key.bsFailed f.tile)
  else match c with
    | .fcs => s.bump (Key.rxFcsErr f.tile)
    | .security => s.bump (Key.rxSecFail f.tile)
    | .replay => s.bump (Key.rxReplay f.tile)
    | .duplicate => s.bump (Key.rxDup f.tile)
    | .foreign => s.bump (Key.rxForeign f.tile)

/-- Count a frame that passed R12. -/
def State.rxPass (s : State) (f : AirFrame) : State :=
  let s := s.bump (Key.rxFrames f.tile)
  if f.bs then s.bump (Key.bsRecovered f.tile) else s

/-- Entries of the filter within 20 ms (R186). -/
def State.dupLive (s : State) : List DupEntry := s.radio.dup.filter (fun d => decide (s.elapsed < d.since + ms 20))

/-- The five values are equal and the stamps differ by at most 2 µs (R186). -/
def DupEntry.copyOf (a b : DupEntry) : Bool :=
  a.pan == b.pan && a.src == b.src && a.dsn == b.dsn && a.counter == b.counter && a.fcs == b.fcs && a.len == b.len
    && decide (a.stamp ≤ b.stamp + 2000 ∧ b.stamp ≤ a.stamp + 2000)

/-- Enter a frame in the filter; a full filter replaces its oldest entry (R188). -/
def State.dupEnter (s : State) (n : Nat) (d : DupEntry) : State :=
  let live := s.dupLive
  if live.length < 4096 then { s with radio := { s.radio with dup := live ++ [d] } }
  else ({ s with radio := { s.radio with dup := live.drop 1 ++ [d] } }).rxPost .dupfOverwrite n d.src

/-- Filter entry of a frame with header m. -/
def State.dupOf (s : State) (f : AirFrame) (m : Mhr) : DupEntry :=
  { pan := (match m.dstPan with | some p => p | none => m.srcPan.getD 0), src := m.src.getD 0, dsn := m.dsn,
    counter := if m.security then m.counter else 0, fcs := leNat (f.psdu.drop (f.psdu.length - 2)), len := f.psdu.length,
    stamp := f.stamp, since := s.elapsed }

/-- The uplink window of R391 over a hardware part: the part with the counter accepted, or none. -/
def winAccept (h : NodeHw) (c : Nat) : Option NodeHw :=
  if !bitOf h.fcFlags 0 ∨ h.ulFc < c then
    let w := if bitOf h.fcFlags 0 && decide (c - h.ulFc < 16) then (h.ulWin * 2 ^ (c - h.ulFc) + 1) % 65536 else 1
    some { h with ulFc := c, ulWin := w, fcFlags := setBit h.fcFlags 0 true }
  else if h.ulFc - c < 16 && !bitOf h.ulWin (h.ulFc - c) then some { h with ulWin := h.ulWin + 2 ^ (h.ulFc - c) }
  else none

/-- Check 3 for record r: accepted, or refused, with the end of the counters (R391). -/
def State.uplinkWindow (s : State) (r : Nat) (tenantKey : Bool) (c : Nat) : State × Bool :=
  let h := (s.nrec r).hw
  if tenantKey then
    if bitOf h.fcFlags 3 && decide (c ≤ h.tkFc) then (s, false)
    else (s.modHw r (fun h => { h with tkFc := c, fcFlags := setBit h.fcFlags 3 true }), true)
  else if bitOf h.fcFlags 0 && h.ulFc == u32Max then
    if bitOf h.fcFlags 2 then (s, false)
    else ((s.modHw r (fun h => { h with fcFlags := setBit h.fcFlags 2 true })).kPost .ulCounterEnd (shortOf r), false)
  else match winAccept h c with
    | some g => (s.modHw r (fun _ => g), true)
    | none => (s, false)

/-- Lowest enabled tenant of a PAN ID (R386). -/
def State.panTenant (s : State) (pan : Nat) : Option Nat :=
  (List.range 256).find? (fun t => s.flag (Key.tenEnable t) && s.rd (Key.tenPanId t) == pan)

/-- A frequency on which frames of a tenant's nodes are taken: its hopping list, and in a grace the list of its old map (R93, R216). -/
def State.heardOn (s : State) (t : Nat) (is : Bool) (freq : Nat) : Bool :=
  (s.hopList t is).any (fun c => c.1 == freq)
    || s.dict.graces.any (fun g => g.tenant == t && (if is then [2, 3] else [0, 1]).any (fun p =>
      (List.range 64).any (fun k => bitOf (g.oldMaps.getD p 0) k && s.raster p k == some freq)))

/-- Record and tenant that a header names; none: the frame has no key (R386). An Enh-Ack names the record
that awaits its DSN. -/
def State.nameOf (s : State) (m : Mhr) (form : Form) (freq : Nat) : Option (Nat × Nat) :=
  let held (r : Nat) : Option (Nat × Nat) :=
    let x := s.nrec r
    if x.isFree || x.quarantined then none else some (r, x.tenant)
  match form with
  | .uplink | .command =>
    let a := m.src.getD 0
    if 0x4000 ≤ a ∧ a < 0x8000 then held (a - 0x4000) else none
  | .assocRequest =>
    match s.panTenant (m.dstPan.getD 0x10000) with
    | some t => (match s.findRec t (m.src.getD 0) with
        | some r => held r
        | none => none)
    | none => none
  | .enhAck | .immAck =>
    (s.heldRecs.find? (fun q => !q.2.quarantined && q.2.compat == (form == .immAck)
      && (match q.2.ack with
        | some w => w.dsn == m.dsn
        | none => false)
      && s.heardOn q.2.tenant q.2.isIs freq)).map (fun q => (q.1, q.2.tenant))

/-- Verify a frame of record r: the clear frame, or none (R385 to R387, R392). -/
def State.verify (s : State) (r t : Nat) (m : Mhr) (form : Form) (bs : Bytes) : State × Option Bytes :=
  let x := s.nrec r
  if !m.secOk form (s.rd (Key.tenSecLevel t)) then (s, none)
  else match form with
    | .assocRequest =>
      let n := s.rd (Key.tenKeySlot t)
      let (s, got) := match s.slotFor n useDec with
        | some k => (s.useSlot n, openFrame k x.eui m bs)
        | none => (s, none)
      match got with
      | some b => (s, some b)
      | none =>
        match s.oldSlot t with
        | none => (s, none)
        | some o => (match s.slotFor o useDec with
            | some k => (s.useSlot o, openFrame k x.eui m bs)
            | none => (s, none))
    | .uplink | .command | .enhAck | .immAck =>
      let (s, key) := s.linkKey r
      match key with
      | some k => (s, openFrame k x.eui m bs)
      | none => (s, none)

/-- The form and version of a frame are accepted (R219). -/
def State.formOf (s : State) (m : Mhr) : Option Form :=
  if m.version = 1 ∧ !s.flag Key.girthCompat then none else m.form

/-- The frame suits the record it names: version, PAN ID. -/
def State.suits (s : State) (x : NodeRec) (t : Nat) (m : Mhr) (form : Form) : Bool :=
  match form with
  | .immAck => true
  | .enhAck => !x.compat
  | .uplink | .command | .assocRequest => (m.version == 1) == x.compat && m.dstPan == some (s.rd (Key.tenPanId t))

/-- A frame of a node in handover to this device (R393): checked under the staged window at or after H, and
forwarded without acknowledgement. -/
def State.stagedFrame (s : State) (f : AirFrame) (r t : Nat) (m : Mhr) (form : Form) : State × Verdict :=
  let x := s.nrec r
  let fail (s : State) (tag : Bool) (c : RxCheck) : State × Verdict :=
    (s.rxFail f c, { fcs := true, secured := true, tag := tag, released := false })
  match x.staged with
  | none => fail s false .foreign
  | some h =>
    let early := h.hoAsn = 0 ∨ s.asn % 2 ^ 32 < h.hoAsn
    if early ∨ form = .assocRequest then fail s false .foreign
    else
      let (s, clear) := s.verify r t m form (f.psdu.take (f.psdu.length - 2))
      match clear with
      | none => fail s false .security
      | some b =>
        let d := s.dupOf f m
        let copy := s.dupLive.any (fun e => e.copyOf d)
        match winAccept h m.counter with
        | none => if copy then fail (s.dupEnter f.tile d) true .duplicate else fail s true .replay
        | some g =>
          let s := s.setRec r { (s.nrec r) with staged := some g }
          let s := s.dupEnter f.tile d
          if copy then fail s true .duplicate
          else
            let s := s.rxPass f
            let a : Arrival := { h := f.port, info := .radio r f.metadata, bytes := b }
            ({ s with har := { s.har with arrivals := s.har.arrivals ++ [a] } }, { fcs := true, secured := true, tag := true, released := true })

/-- First chip of a frame in ns after the last chip of the downlink whose acknowledgement record r awaits
(R224). -/
def State.ackOffset (s : State) (f : AirFrame) (r : Nat) : Int :=
  let first : Int := ((f.stamp - shrUs f.mode * 1000 : Nat) : Int) - (s.nowNs : Nat)
  let wait := match (s.nrec r).ack with
    | some w => w.lastChip
    | none => 0
  first + 4 * ((s.elapsed - wait : Nat) : Int)

/-- A frame that passed the checks, by its form. -/
def State.passed (s : State) (f : AirFrame) (r : Nat) (m : Mhr) (form : Form) (clear : Bytes) : State :=
  match form with
  | .enhAck | .immAck =>
    (s.modHw r (fun h => { h with framesUp := (h.framesUp + 1) % 2 ^ 32 })).ackAccept r m.dsn (s.ackOffset f r)
  | .uplink | .command | .assocRequest =>
    s.heard { record := r, mhr := m, form := form, bytes := clear, octets := f.psdu.length, tile := f.tile, port := f.port,
              mode := f.mode, freq := f.freq, stamp := f.stamp, rxMeta := f.metadata, haBad := f.haBad }

/-- The verdict of a frame that failed its FCS. -/
def Verdict.none : Verdict := { fcs := false, secured := false, tag := false, released := false }

/-- Checks 3 to 5 of a verified frame of record r (R187, R391). -/
def State.checkWindow (s : State) (f : AirFrame) (r : Nat) (m : Mhr) (form : Form) (clear : Bytes) : State × Verdict :=
  let d := s.dupOf f m
  let copy := s.dupLive.any (fun e => e.copyOf d)
  let fresh := s.uplinkWindow r (form == .assocRequest) m.counter
  let s := fresh.1
  let v : Verdict := { fcs := true, secured := true, tag := true, released := false }
  if fresh.2 then
    let s := s.dupEnter f.tile d
    if copy then (s.rxFail f .duplicate, v) else ((s.rxPass f).passed f r m form clear, { v with released := true })
  else if copy then ((s.dupEnter f.tile d).rxFail f .duplicate, v)
  else ((s.modHw r (fun h => { h with replay := (h.replay + 1) % 2 ^ 32 })).rxFail f .replay, v)

/-- Contents after the MHR that a form has: an association request is the command octet 0x01 and a capability octet (R219, R220). -/
def bodyOk (form : Form) (payload : Bytes) : Bool :=
  match form with
  | .assocRequest => payload.length == 2 && payload.take 1 == [1#8]
  | .uplink | .command | .enhAck | .immAck => true

/-- Check 2 of a frame that names record r of tenant t. -/
def State.checkTag (s : State) (f : AirFrame) (r t : Nat) (m : Mhr) (form : Form) : State × Verdict :=
  let x := s.nrec r
  if !s.suits x t m form then (s.rxFail f .security, { Verdict.none with fcs := true, secured := true })
  else if x.hw.macState = macIn then s.stagedFrame f r t m form
  else
    let got := s.verify r t m form (f.psdu.take (f.psdu.length - 2))
    match got.2 with
    | some b =>
      if bodyOk form (b.drop m.iesEnd) then got.1.checkWindow f r m form b
      else (got.1.rxFail f .security, { Verdict.none with fcs := true, secured := true })
    | none =>
      ((got.1.modHw r (fun h => { h with secFail := (h.secFail + 1) % 2 ^ 32 })).rxFail f .security,
        { Verdict.none with fcs := true, secured := true })

/-- A frame that names no record: its ownership check fails (R13, R229, R386). -/
def State.foreign (s : State) (f : AirFrame) (m : Mhr) (form : Form) : State × Verdict :=
  let s := match form with
    | .assocRequest => (match s.panTenant (m.dstPan.getD 0x10000) with
        | some t => s.assocUnknown t (m.src.getD 0)
        | none => s)
    | .uplink | .command | .enhAck | .immAck => s
  (s.rxFail f .foreign, { Verdict.none with fcs := true, secured := true })

/-- An unsecured Imm-Ack: FCS and form, the duplicate filter, then R224; a recovered one fails (R185, R186). -/
def State.immAck (s : State) (f : AirFrame) (m : Mhr) : State × Verdict :=
  let v : Verdict := { Verdict.none with fcs := true }
  if f.bs then (s.rxFail f .security, v)
  else
    let d := s.dupOf f m
    let copy := s.dupLive.any (fun e => e.copyOf d)
    let s := s.dupEnter f.tile d
    if copy then (s.rxFail f .duplicate, v)
    else
      let s := s.rxPass f
      match s.nameOf m .immAck f.freq with
      | some (r, _) => (s.ackAccept r m.dsn (s.ackOffset f r), { v with released := true })
      | none => (s, { v with released := true })

/-- A frame passes the checks of R12 in order, and what follows from it. -/
def State.checks (s : State) (f : AirFrame) : State × Verdict :=
  let n := f.psdu.length
  let body := f.psdu.take (n - 2)
  if n < 5 ∨ Crypto.fcs body ≠ leNat (f.psdu.drop (n - 2)) then (s.rxFail f .fcs, Verdict.none)
  else match parseMhr body with
    | none => (s.rxFail f .security, { Verdict.none with fcs := true })
    | some m =>
      match s.formOf m with
      | none => (s.rxFail f .security, { Verdict.none with fcs := true, secured := m.security })
      | some form =>
        if form = .immAck then s.immAck f m
        else match s.nameOf m form f.freq with
          | some (r, t) => s.checkTag f r t m form
          | none => s.foreign f m form

/-! ### Candidates and Backstitch (R180 to R185) -/

/-- The history of tile n from a start of need to an end is valid: written on this port since then, and no block invalid (R179). -/
def State.historyOk (s : State) (n need stop : Nat) : Bool :=
  let t := s.rx n
  decide (t.histFrom ≤ need)
    && t.bad.all (fun x => decide (x.2 < histBlock need ∨ histBlock stop < x.1))
    && (match t.blankSince with
      | some a => decide (histBlock stop < histBlock a)
      | none => true)

/-- The candidate's verdict procedure (R182, R183). -/
def State.candidate (s : State) (n mode : Nat) (v : Verdict) (g : StrongFrame) (c : Candidate) : State :=
  if !s.flag (Key.rxcBackstitch n) || !v.fcs || !v.secured || !v.tag || decide (c.diff < 12)
      || decide (c.need + us 7000 < s.elapsed) || !s.historyOk n c.need s.elapsed then s.failCands n 1
  else
    let e := (s.bsUj * frameUs mode 127 + 999) / 1000
    let (s, ok) := s.grant (some 3) e
    if !ok then s.failCands n 1
    else if 16 ≤ s.radio.bsQueue.length then (s.release e).failCands n 1
    else { s with radio := { s.radio with bsQueue := s.radio.bsQueue ++ [{ tile := n, cand := c, strong := g, verdict := s.elapsed, grant := e, started := 0 }] } }

/-- `BACKSTITCH_ENGINE_START`: a free engine takes the oldest queued candidate. -/
def execBackstitchEngineStart (dt : Nat) (s : State) : Step :=
  let s := s.advance dt
  .next (match s.radio.bsQueue, s.radio.bsEngines.toList.findIdx? (fun e => e.isNone) with
    | c :: rest, some i =>
      if c.verdict + ms 1 < s.elapsed then s
      else { s with radio := { s.radio with bsQueue := rest, bsEngines := vmod (fun _ => some { c with started := s.elapsed }) i s.radio.bsEngines } }
    | _, _ => s)

/-- `BACKSTITCH_QUEUE_TIMEOUT`: candidates that no engine took within 1.0 ms fail. -/
def execBackstitchQueueTimeout (dt : Nat) (s : State) : Step :=
  let s := s.advance dt
  let late := s.radio.bsQueue.filter (fun c => decide (c.verdict + ms 1 < s.elapsed))
  let s := { s with radio := { s.radio with bsQueue := s.radio.bsQueue.filter (fun c => decide (s.elapsed ≤ c.verdict + ms 1)) } }
  .next (s.each late (fun s c => (s.release c.grant).failCands c.tile 1))

/-- Port gain step that was in force at an elapsed time (R178). -/
def Port.gainAtTime (x : Port) (t : Nat) : Nat :=
  match (x.gains.filter (fun g => decide (t < g.1))).getLast? with
  | some g => g.2
  | none => x.gain

/-- Elapsed time of a chain time in ns, no later than now. -/
def State.elapsedOf (s : State) (t : Nat) : Nat := s.elapsed - (s.nowNs - t) / 4

/-- Soft chips of a candidate less the rebuilt stronger frame: chip i of them lies at chip k + i of that frame (R184 items 1 and 2). -/
def StrongFrame.subtract (g : StrongFrame) (chips : List Bool) (k : Int) (x : List Int) : List Int :=
  x.zipIdx.map (fun p =>
    let at0 := k + (p.2 : Int)
    if at0 < 0 then p.1
    else match chips[at0.toNat]? with
      | some c => p.1 - Config.rebuilt g.level g.fofs g.phase at0.toNat c
      | none => p.1)

/-- The symbol periods of a candidate with the stronger frame subtracted, the first of them at chip k of that frame. -/
def StrongFrame.subtractAll (g : StrongFrame) (k : Int) (xs : List (List Int)) : List (List Int) :=
  let chips := airChips g.mode g.psdu
  (xs.foldl (fun (a : Int × List (List Int)) x => (a.1 + x.length, g.subtract chips a.1 x :: a.2)) (k, [])).2.reverse

/-- Chips from the start of the stronger frame to a chain time in ns. -/
def StrongFrame.chipAt (g : StrongFrame) (t : Int) : Int :=
  (t - ((g.stamp : Int) - shrUs g.mode * 1000)) * chipKhz g.mode / 1000000

/-- What an engine despreads of a candidate: PHR and PSDU octets, and the loop at their end (R184 item 3). A captured frame with saved
state goes on from it; any other starts with its SFD. -/
def Recovery.despread (c : Recovery) (sfd : List (List Int)) (syms : List RxSym) (stamp : Nat) (from0 : Int) : Option (Bytes × RxLoop) :=
  let g := c.strong
  let clear (k : Int) (xs : List RxSym) : List RxSym := ((g.subtractAll k (xs.map (·.chips))).zip xs).map (fun p => { p.2 with chips := p.1 })
  match c.cand.saved with
  | some v =>
    let xs := clear (g.chipAt from0) syms
    some (v.octets ++ Machine.despread g.mode v.loop.ref xs, v.loop.run g.mode xs)
  | none =>
    let k := g.chipAt stamp
    let head := g.subtractAll (k - ((sfd.map (·.length)).sum : Nat)) sfd
    let xs := clear k syms
    if sfdFound g.mode head then
      let l := RxLoop.start (sfdRef g.mode head) 0 0
      some (Machine.despread g.mode l.ref xs, l.run g.mode xs)
    else none

/-- `BACKSTITCH_FRAME_END`: engine e reaches its candidate's last chip, or the candidate has met R174. sfd and syms are the soft chips of
its history, still with the stronger frame in them; stamp is its SFD, fofs and rssi what the engine measured (R184, R185). -/
def execBackstitchFrameEnd (e : Fin 8) (sfd : List (List Int)) (syms : List RxSym) (stamp : Nat) (fofs rssi : Int) (haBad : Nat) (dt : Nat)
    (s : State) : Step :=
  let s := s.advance dt
  .next (match (s.radio.bsEngines.getD e none) with
    | none => s
    | some c =>
      let w := s.rd (Key.rxcPlaced c.tile)
      let s := { s with radio := { s.radio with bsEngines := vmod (fun _ => none) e s.radio.bsEngines } }
      let used := (s.bsUj * ((s.elapsed - c.started) / 250) + 999) / 1000
      let s := s.release (c.grant - min c.grant used)
      let x := s.port (placePort w)
      let needNs : Int := (s.nowNs : Int) - 4 * ((s.elapsed - c.cand.need : Nat) : Int)
      match c.despread sfd syms stamp (needNs + (symbolUs (placeMode w) : Int) * 1000) with
      | none => s.failCands c.tile 1
      | some (octets, l) =>
        let len := match octets with
          | b :: _ => b.toNat % 128
          | [] => 0
        if w = unplaced ∨ !s.historyOk c.tile c.cand.need s.elapsed ∨ l.lost ∨ len ≤ 4 ∨ octets.length < len + 1 then s.failCands c.tile 1
        else
          let own : Nat × Int × Nat := match c.cand.saved with
            | some v => (v.stamp, v.fofs, v.gain)
            | none => (stamp, fofs, x.gainAtTime (s.elapsedOf stamp))
          (s.checks { tile := c.tile, port := placePort w, mode := placeMode w, freq := placeFreq w, psdu := (octets.drop 1).take len,
                      stamp := own.1, meas := { rssi := rssi, lqi := l.lqi, fofs := own.2.1, tofs := l.word }, gain := own.2.2,
                      capt := c.cand.capt, bs := true, diff := c.cand.diff, haBad := haBad }).1)

/-! ### The receive tile (Table 6-6) -/

/-- Change the frame of tile n. -/
def State.modFrame (s : State) (n : Nat) (f : RxFrame → RxFrame) : State :=
  let t := s.rx n
  s.setRx n { t with frame := t.frame.map f }

/-- Digital gain, half dB, that brings a strength to −12 dBFS under a port gain step of 2 dB steps (R167; log 120). -/
def agcFor (level : Int) (gain : Nat) : Int := -24 - (level + 4 * gain - Config.adcFullScale)

/-- `RX_DETECT`: strength in half dB. The tile listens, its port is in RX with no step running, and neither the blind window nor a
measurement of its islands keeps it from hearing; its gain freezes (R129, R143, R166, R167). -/
def execRxDetect (n : Fin 64) (level : Int) (dt : Nat) (s : State) : Step :=
  let s := s.advance dt
  let k : Nat := n
  let p := s.rxPort k
  .next (if s.rd (Key.rxcState k) = 1 ∧ s.pstate p = 3 ∧ (s.port p).step.isNone ∧ !s.blindNow p ∧ (s.rx k).calUntil ≤ s.elapsed
        ∧ 2 * (s.rdI 8 (Key.rxcDetectDbm k) - thrOffset (s.rxMode k)) ≤ level then
      let f : RxFrame :=
        { at0 := s.elapsed, qualified := none, sfd := none, stamp := 0, gain := (s.port p).gain, agc := agcFor level (s.port p).gain, afc := none,
          fofs := 0, level := level, len := none, capt := false, loop := RxLoop.start 0 0 0, cands := [] }
      (s.setRx k { (s.rx k) with frame := some f }).wr (Key.rxcState k) 2
    else s)

/-- Symbol periods in cycles. -/
def State.symbols (s : State) (n k : Nat) : Nat := us (k * symbolUs (s.rxMode n))

/-- AFC range of a mode, units of 100 Hz (Table 6-2). -/
def afcRange (mode : Nat) : Nat := if mode = 1 then 1200 else 500

/-- AFC's shift for an estimate: none beyond the mode's range (R169). -/
def afcFor (mode : Nat) (est : Int) : Option Int := if est.natAbs ≤ afcRange mode then some est else none

/-- `QUALIFIER_CONFIRM`: the soft chips of two consecutive preamble symbols and the carrier offset that AFC estimates from them, in 100 Hz
(R169). -/
def execQualifierConfirm (n : Fin 64) (s1 s2 : List Int) (est : Int) (dt : Nat) (s : State) : Step :=
  let s := s.advance dt
  let k : Nat := n
  let q := s.rd (Key.rxcQualifier k)
  let m := s.rxMode k
  .next (match (s.rx k).frame with
    | none => s
    | some f =>
      if s.rd (Key.rxcState k) = 2 ∧ f.qualified.isNone ∧ qualifies m q 64 s1 ∧ qualifies m q 64 s2 ∧ s.elapsed ≤ f.at0 + s.symbols k 4 then
        (s.modFrame k (fun f => { f with qualified := some s.elapsed, afc := afcFor m est })).bump (Key.rxDetect k)
      else s)

/-- `DETECT_TIMEOUT`: 4 symbol periods without confirmation. -/
def execDetectTimeout (n : Fin 64) (dt : Nat) (s : State) : Step :=
  let s := s.advance dt
  let k : Nat := n
  .next (match (s.rx k).frame with
    | none => s
    | some f => if s.rd (Key.rxcState k) = 2 ∧ f.qualified.isNone ∧ f.at0 + s.symbols k 4 ≤ s.elapsed then s.rxIdle k else s)

/-- `SFD_FOUND`: sfd is the soft chips of the SFD's symbols, in a Deep mode after the last of the preamble; word and phase are where timing
recovery stands. AFC freezes at a carrier offset in 100 Hz, and the stamp is taken (R169, R172, R176, R191). -/
def execSfdFound (n : Fin 64) (sfd : List (List Int)) (word phase fofs : Int) (dt : Nat) (s : State) : Step :=
  let s := s.advance dt
  let k : Nat := n
  let m := s.rxMode k
  .next (match (s.rx k).frame with
    | none => s
    | some f =>
      match f.qualified with
      | none => s
      | some q =>
        if s.rd (Key.rxcState k) = 2 ∧ f.afc.isSome ∧ fofs.natAbs ≤ afcRange m ∧ s.elapsed ≤ q + s.symbols k 40 ∧ sfdFound m sfd then
          (s.modFrame k (fun f =>
            { f with sfd := some s.elapsed, stamp := s.nowNs, gain := (s.port (s.rxPort k)).gain, afc := some fofs, fofs := fofs,
                     loop := RxLoop.start (sfdRef m sfd) (steer word 0) phase })).wr (Key.rxcState k) 3
        else s)

/-- `SFD_TIMEOUT`: 40 symbol periods from qualification without SFD (R174). -/
def execSfdTimeout (n : Fin 64) (dt : Nat) (s : State) : Step :=
  let s := s.advance dt
  let k : Nat := n
  .next (match (s.rx k).frame with
    | none => s
    | some f =>
      match f.qualified with
      | none => s
      | some q =>
        if s.rd (Key.rxcState k) = 2 ∧ q + s.symbols k 40 ≤ s.elapsed then (s.rxIdle k).bump (Key.rxDespreadTimeout k) else s)

/-- The frame of tile k ends for lack of correlation (R174). -/
def State.despreadEnd (s : State) (k : Nat) : State := (s.rxIdle k).bump (Key.rxDespreadTimeout k)

/-- At least 999/1,000 of the air time of k octets has passed since an elapsed time: a transmitter's chip rate is within ±1,000 ppm
(R172). -/
def State.octetsPassed (s : State) (mode t k : Nat) : Bool := decide (us (k * octetUs mode) * 999 ≤ (s.elapsed - t) * 1000)

/-- `PHR_RX`: the symbols of the PHR; its bit [7] is ignored, and a length of 0 to 4 ends the frame (R173, R190). -/
def execPhrRx (n : Fin 64) (syms : List RxSym) (dt : Nat) (s : State) : Step :=
  let s := s.advance dt
  let k : Nat := n
  let m := s.rxMode k
  .next (match (s.rx k).frame with
    | none => s
    | some f =>
      let l := f.loop.run m syms
      let len := leNat (despread m f.loop.ref syms) % 128
      if s.rd (Key.rxcState k) ≠ 3 ∨ f.len.isSome ∨ syms.length ≠ symbolsOf m 1 ∨ !s.octetsPassed m (f.sfd.getD 0) 1 then s
      else if l.lost then s.despreadEnd k
      else if len ≤ 4 then (s.rxIdle k).bump (Key.rxFcsErr k)
      else s.modFrame k (fun f => { f with len := some len, loop := l }))

/-- `DESPREAD_TIMEOUT`: the last 8 symbol periods, each with a best correlation below 12/64 of full (R174). -/
def execDespreadTimeout (n : Fin 64) (syms : List RxSym) (dt : Nat) (s : State) : Step :=
  let s := s.advance dt
  let k : Nat := n
  let m := s.rxMode k
  .next (match (s.rx k).frame with
    | none => s
    | some f =>
      match f.sfd with
      | none => s
      | some t =>
        if s.rd (Key.rxcState k) = 3 ∧ t + s.symbols k 8 ≤ s.elapsed ∧ syms.length = 8 ∧ syms.all (fun x => lowSymbol m x.chips) then
          s.despreadEnd k
        else s)

/-- `RX_FRAME_END`: the last chip of the PSDU, with the symbols since the PHR and the strength measured over PHR and PSDU in dBm. A frame
that lost correlation on the way has ended by R174; any other goes to the checks of R12, and its candidates are decided on its verdict
(R173, R174, R182). -/
def execRxFrameEnd (n : Fin 64) (syms : List RxSym) (rssi : Int) (haBad : Nat) (dt : Nat) (s : State) : Step :=
  let s := s.advance dt
  let k : Nat := n
  let m := s.rxMode k
  .next (match (s.rx k).frame with
    | none => s
    | some f =>
      match f.len with
      | none => s
      | some len =>
        let l := f.loop.run m syms
        if s.rd (Key.rxcState k) ≠ 3 ∨ syms.length ≠ symbolsOf m len ∨ !s.octetsPassed m (f.sfd.getD 0) (len + 1) then s
        else if l.lost then s.despreadEnd k
        else
          let w := s.rd (Key.rxcPlaced k)
          let psdu := despread m f.loop.ref syms
          let cands := f.cands
          let diff := match cands with
            | c :: _ => c.diff
            | [] => 0
          let g : StrongFrame :=
            { mode := m, psdu := psdu.take (len - 2), stamp := f.stamp, level := f.level, fofs := f.fofs, phase := l.phase }
          let s := (s.modFrame k (fun f => { f with cands := [] })).rxIdle k
          let (s, v) := s.checks
            { tile := k, port := placePort w, mode := m, freq := placeFreq w, psdu := psdu, stamp := f.stamp,
              meas := { rssi := rssi, lqi := l.lqi, fofs := f.fofs, tofs := l.word }, gain := f.gain, capt := f.capt, bs := false,
              diff := diff, haBad := haBad }
          s.each cands (fun s c => s.candidate k m v g c))

/-- What a tile saves of a frame past its SFD when another captures it: sofar is the symbols since the SFD, or since the PHR (R180). -/
def RxFrame.save (f : RxFrame) (mode : Nat) (sofar : List RxSym) : Option SavedFrame :=
  match f.sfd with
  | none => none
  | some _ =>
    let octets := (match f.len with
      | some n => leBytes 1 n
      | none => []) ++ despread mode f.loop.ref sofar
    some { octets := octets, loop := f.loop.run mode sofar, fofs := f.fofs, stamp := f.stamp, gain := f.gain }

/-- `CAPTURE`: the soft chips of two preamble symbols that reach the qualifier threshold, at least 6 dB stronger and 2 chips away from the
frame in progress; AGC and AFC start anew on the new frame (R176, R180, R181). -/
def execCapture (n : Fin 64) (s1 s2 : List Int) (level : Int) (chips : Nat) (est : Int) (sofar : List RxSym) (dt : Nat) (s : State) : Step :=
  let s := s.advance dt
  let k : Nat := n
  let q := s.rd (Key.rxcQualifier k)
  let m := s.rxMode k
  .next (match (s.rx k).frame with
    | none => s
    | some f =>
      if s.rxBusy k ∧ qualifies m q 64 s1 ∧ qualifies m q 64 s2 ∧ 2 ≤ chips ∧ f.level + 12 ≤ level then
        let sym := s.symbols k 1
        let need := match f.sfd with
          | some _ => s.elapsed - sym
          | none => f.at0 - 2 * sym
        let c : Candidate := { late := false, need := need, diff := (level - f.level).toNat, capt := f.capt, saved := f.save m sofar }
        let s := s.failCands k f.cands.length
        let gain := (s.port (s.rxPort k)).gain
        let g : RxFrame :=
          { at0 := s.elapsed, qualified := some s.elapsed, sfd := none, stamp := 0, gain := gain, agc := agcFor level gain, afc := afcFor m est,
            fofs := 0, level := level, len := none, capt := true, loop := RxLoop.start 0 0 0, cands := [c] }
        ((s.setRx k { (s.rx k) with frame := some g }).wr (Key.rxcState k) 2).bump (Key.rxDetect k)
      else s)

/-- `LATE_ARRIVAL`: the soft chips of two preamble symbols at `RXC_QUALIFIER`/128 or more, at least 6 dB weaker and 2 chips away, during
reception; at most one per frame (R180, R181). -/
def execLateArrival (n : Fin 64) (s1 s2 : List Int) (level : Int) (chips dt : Nat) (s : State) : Step :=
  let s := s.advance dt
  let k : Nat := n
  let q := s.rd (Key.rxcQualifier k)
  let m := s.rxMode k
  .next (match (s.rx k).frame with
    | none => s
    | some f =>
      if s.rd (Key.rxcState k) = 3 ∧ qualifies m q 128 s1 ∧ qualifies m q 128 s2 ∧ 2 ≤ chips ∧ level + 12 ≤ f.level ∧ !f.cands.any (·.late) then
        let c : Candidate :=
          { late := true, need := s.elapsed - s.symbols k 3, diff := (f.level - level).toNat, capt := false, saved := none }
        (s.modFrame k (fun f => { f with cands := f.cands ++ [c] })).bump (Key.rxDetect k)
      else s)

/-- `SAMPLE_OVERRUN`: a sample queue overflows; its block is invalid, and a frame in progress ends (R21, R176, R179). -/
def execSampleOverrun (n : Fin 64) (s : State) : Step :=
  let k : Nat := n
  let p := s.rxPort k
  let busy := s.rxBusy k
  .next (
    let s := s.setRx k ((s.rx k).spoil s.elapsed s.elapsed)
    if busy then ((s.rxIdle k).bump (Key.sampleOverrun k)).rxPost .sampleOverrun k p else s)

/-- A port's gain step changes. -/
def Port.gainTo (x : Port) (now step : Nat) : Port :=
  { x with gain := step, gainAt := some now, gains := ((now, x.gain) :: x.gains).take 32 }

/-- Calibrated size of the step from gain g down to g − 1, half dB (R168, Table 5-9). -/
def State.stepSize (s : State) (p g : Nat) : Int :=
  let d := s.dom (Key.calCoeff p)
  Config.gainStepSize (slice d (24 + 8 * (g - 1)) 8) (slice d (24 + 8 * g) 8)

/-- `ADC_CLIP_GAIN_STEP`: a gain step down at once, and every frozen digital gain of the port's tiles up by its calibrated size (R168). -/
def execAdcClipGainStep (p : Fin 4) (s : State) : Step :=
  let k : Nat := p
  let x := s.port k
  .next (if x.gain = 0 then s
    else
      let up := s.stepSize k x.gain
      let s := s.setPort k (x.gainTo s.elapsed (x.gain - 1))
      s.each (s.rxOn k) (fun s n => s.modFrame n (fun f => { f with agc := f.agc + up })))

/-- `PORT_GAIN_STEP`: only while no tile of the port holds a frame, at most once per 10 µs (R167). -/
def execPortGainStep (p : Fin 4) (step : Fin 32) (dt : Nat) (s : State) : Step :=
  let s := s.advance dt
  let k : Nat := p
  let x := s.port k
  let late := match x.gainAt with
    | some a => decide (a + us 10 ≤ s.elapsed)
    | none => true
  .next (if late && (s.rxOn k).all (fun n => !s.rxBusy n) then s.setPort k (x.gainTo s.elapsed step) else s)

end Sys2Proof.Machine
end

