-- ==== Sys2Proof/Machine/TimeCmd.lean ====
section
/-! DEFINITION. Commands that step chain time; a step past the epoch of an armed transaction applies it (R437, R446, R451). -/

namespace Sys2Proof.Machine

/-- `TIME_STEP`; nothing while a run is in progress (R85). -/
def execTimeStep (delta : Int) (s : State) : Step :=
  .next (if s.cmdBlocked Key.timeStepRes then s else (s.timeStep delta).epochCheck)

/-- `TIME_SET`, on the active head. -/
def execTimeSet (sec : Fin 281474976710656) (ns : Fin 1000000000) (s : State) : Step :=
  .next (if s.cmdBlocked Key.timeSetRes then s else (s.timeSetTo { sec := sec, ns := ns }).epochCheck)

/-- `PTP_SAMPLE` (R446). -/
def execPtpSample (x : PtpExchange) (dt : Nat) (s : State) : Step := .next ((s.advance dt).ptpSample x).epochCheck

end Sys2Proof.Machine
end

