-- ==== Sys2Proof/Machine/Dispatch.lean ====
section
/-! DEFINITION. Dispatch: one arm per command, one direct call of its meaning. -/

namespace Sys2Proof.Machine

/-- The effect of one command. -/
def exec (i : Instr) (s : State) : Host.Outcome State Fault Refusal :=
  match i with
  | .scrubPass mem addr unit err clash => Sys2Proof.Machine.execScrubPass mem addr unit err clash s
  | .bridgeFlitCrcFail replays => Sys2Proof.Machine.execBridgeFlitCrcFail replays s
  | .sampleOverrun n => Sys2Proof.Machine.execSampleOverrun n s
  | .islandStart t dt => Sys2Proof.Machine.execIslandStart t dt s
  | .islandOn t dt => Sys2Proof.Machine.execIslandOn t dt s
  | .islandStop t dt => Sys2Proof.Machine.execIslandStop t dt s
  | .islandOff t dt => Sys2Proof.Machine.execIslandOff t dt s
  | .islandDwellEnd t dt => Sys2Proof.Machine.execIslandDwellEnd t dt s
  | .linkSignalDetected p => Sys2Proof.Machine.execLinkSignalDetected p s
  | .linkLocked p => Sys2Proof.Machine.execLinkLocked p s
  | .linkFrameRx p m => Sys2Proof.Machine.execLinkFrameRx p m s
  | .linkFrameTx p => Sys2Proof.Machine.execLinkFrameTx p s
  | .linkDown p => Sys2Proof.Machine.execLinkDown p s
  | .chainFrameRx p f payload crc => Sys2Proof.Machine.execChainFrameRx p f payload crc s
  | .chainFrameAbort p lane units blocks lockLost => Sys2Proof.Machine.execChainFrameAbort p lane units blocks lockLost s
  | .chainFrameTx p dt => Sys2Proof.Machine.execChainFrameTx p dt s
  | .surveyRx p m => Sys2Proof.Machine.execSurveyRx p m s
  | .surveyReturn p m byDone => Sys2Proof.Machine.execSurveyReturn p m byDone s
  | .assignRx p m => Sys2Proof.Machine.execAssignRx p m s
  | .assignReturn p m byDone map => Sys2Proof.Machine.execAssignReturn p m byDone map s
  | .topoRx p m => Sys2Proof.Machine.execTopoRx p m s
  | .enumAutoStart => Sys2Proof.Machine.execEnumAutoStart s
  | .chainEnumIncremental => Sys2Proof.Machine.execChainEnumIncremental s
  | .chainEnumFull => Sys2Proof.Machine.execChainEnumFull s
  | .enumPassTimeout map dt => Sys2Proof.Machine.execEnumPassTimeout map dt s
  | .headBroadcast => Sys2Proof.Machine.execHeadBroadcast s
  | .headRx p m => Sys2Proof.Machine.execHeadRx p m s
  | .headMissTakeover dt => Sys2Proof.Machine.execHeadMissTakeover dt s
  | .chainSwitchover => Sys2Proof.Machine.execChainSwitchover s
  | .delayMeasure p t1 => Sys2Proof.Machine.execDelayMeasure p t1 s
  | .delayReqRx p t1 t2 t3 => Sys2Proof.Machine.execDelayReqRx p t1 t2 t3 s
  | .delayRspRx p t1 t2 t3 t4 => Sys2Proof.Machine.execDelayRspRx p t1 t2 t3 t4 s
  | .timeFrameTx p => Sys2Proof.Machine.execTimeFrameTx p s
  | .timeFrameRx p m dt => Sys2Proof.Machine.execTimeFrameRx p m dt s
  | .sbReqIssue r => Sys2Proof.Machine.execSbReqIssue r s
  | .sbReqRx p src tag r => Sys2Proof.Machine.execSbReqRx p src tag r s
  | .sbRspRx tag code bytes => Sys2Proof.Machine.execSbRspRx tag code bytes s
  | .sbTimeout tag dt => Sys2Proof.Machine.execSbTimeout tag dt s
  | .read via a => Sys2Proof.Machine.execRead via a s
  | .write via a => Sys2Proof.Machine.execWrite via a s
  | .readBlock via a => Sys2Proof.Machine.execReadBlock via a s
  | .writeBlock via a => Sys2Proof.Machine.execWriteBlock via a s
  | .prepare via a => Sys2Proof.Machine.execPrepare via a s
  | .commit via a => Sys2Proof.Machine.execCommit via a s
  | .abort via a => Sys2Proof.Machine.execAbort via a s
  | .notify via a => Sys2Proof.Machine.execNotify via a s
  | .notifyEventSend slot dt => Sys2Proof.Machine.execNotifyEventSend slot dt s
  | .dictRetryTimeout slot dt => Sys2Proof.Machine.execDictRetryTimeout slot dt s
  | .dictResponseRx src a => Sys2Proof.Machine.execDictResponseRx src a s
  | .blockIdleExpiry origin key dt => Sys2Proof.Machine.execBlockIdleExpiry origin key dt s
  | .txnIdleExpiry dt => Sys2Proof.Machine.execTxnIdleExpiry dt s
  | .commitGraceExpiry dt => Sys2Proof.Machine.execCommitGraceExpiry dt s
  | .epochApply dt => Sys2Proof.Machine.execEpochApply dt s
  | .graceEnd tenant dt => Sys2Proof.Machine.execGraceEnd tenant dt s
  | .dictStore => Sys2Proof.Machine.execDictStore s
  | .dictErase => Sys2Proof.Machine.execDictErase s
  | .dictStoreDone ok => Sys2Proof.Machine.execDictStoreDone ok s
  | .clampLogClear => Sys2Proof.Machine.execClampLogClear s
  | .errLogClear => Sys2Proof.Machine.execErrLogClear s
  | .registerWrite r v => Sys2Proof.Machine.execRegisterWrite r v s
  | .portStateCmd p t => Sys2Proof.Machine.execPortStateCmd p t s
  | .portTransitionDone p locked out measured dt => Sys2Proof.Machine.execPortTransitionDone p locked out measured dt s
  | .portDwellEnd p dt => Sys2Proof.Machine.execPortDwellEnd p dt s
  | .synthLockLost p => Sys2Proof.Machine.execSynthLockLost p s
  | .synthRelockDone p locked dt => Sys2Proof.Machine.execSynthRelockDone p locked dt s
  | .retuneStart p => Sys2Proof.Machine.execRetuneStart p s
  | .calCmd v => Sys2Proof.Machine.execCalCmd v s
  | .calPeriodic p dt => Sys2Proof.Machine.execCalPeriodic p dt s
  | .oscCalMeasure which measured dt => Sys2Proof.Machine.execOscCalMeasure which measured dt s
  | .calWindowOpen dt => Sys2Proof.Machine.execCalWindowOpen dt s
  | .calWindowEnd out measured dt => Sys2Proof.Machine.execCalWindowEnd out measured dt s
  | .calNoWindow dt => Sys2Proof.Machine.execCalNoWindow dt s
  | .stampLock => Sys2Proof.Machine.execStampLock s
  | .stampLockDone ok => Sys2Proof.Machine.execStampLockDone ok s
  | .pdMeasure p fwd ref dt => Sys2Proof.Machine.execPdMeasure p fwd ref dt s
  | .portStarved p dt => Sys2Proof.Machine.execPortStarved p dt s
  | .rxDetect n level dt => Sys2Proof.Machine.execRxDetect n level dt s
  | .qualifierConfirm n s1 s2 est dt => Sys2Proof.Machine.execQualifierConfirm n s1 s2 est dt s
  | .detectTimeout n dt => Sys2Proof.Machine.execDetectTimeout n dt s
  | .sfdFound n sfd word phase fofs dt => Sys2Proof.Machine.execSfdFound n sfd word phase fofs dt s
  | .sfdTimeout n dt => Sys2Proof.Machine.execSfdTimeout n dt s
  | .phrRx n syms dt => Sys2Proof.Machine.execPhrRx n syms dt s
  | .despreadTimeout n syms dt => Sys2Proof.Machine.execDespreadTimeout n syms dt s
  | .rxFrameEnd n syms rssi haBad dt => Sys2Proof.Machine.execRxFrameEnd n syms rssi haBad dt s
  | .capture n s1 s2 level chips est sofar dt => Sys2Proof.Machine.execCapture n s1 s2 level chips est sofar dt s
  | .lateArrival n s1 s2 level chips dt => Sys2Proof.Machine.execLateArrival n s1 s2 level chips dt s
  | .adcClipGainStep p => Sys2Proof.Machine.execAdcClipGainStep p s
  | .portGainStep p step dt => Sys2Proof.Machine.execPortGainStep p step dt s
  | .placementChange n => Sys2Proof.Machine.execPlacementChange n s
  | .backstitchEngineStart dt => Sys2Proof.Machine.execBackstitchEngineStart dt s
  | .backstitchQueueTimeout dt => Sys2Proof.Machine.execBackstitchQueueTimeout dt s
  | .backstitchFrameEnd e sfd syms stamp fofs rssi haBad dt => Sys2Proof.Machine.execBackstitchFrameEnd e sfd syms stamp fofs rssi haBad dt s
  | .txCommit q dt => Sys2Proof.Machine.execTxCommit q dt s
  | .lbtListenDue n dt => Sys2Proof.Machine.execLbtListenDue n dt s
  | .lbtListenEnd n blocks dt => Sys2Proof.Machine.execLbtListenEnd n blocks dt s
  | .rampDue n dt => Sys2Proof.Machine.execRampDue n dt s
  | .txWindowEnd n dt => Sys2Proof.Machine.execTxWindowEnd n dt s
  | .rampUpEnd n dt => Sys2Proof.Machine.execRampUpEnd n dt s
  | .lastChip n dt => Sys2Proof.Machine.execLastChip n dt s
  | .rampDownEnd n dt => Sys2Proof.Machine.execRampDownEnd n dt s
  | .dutyBucketAdvance dt => Sys2Proof.Machine.execDutyBucketAdvance dt s
  | .beaconSend f dt => Sys2Proof.Machine.execBeaconSend f dt s
  | .assocRequestRx t eui p mode freq dsn dt => Sys2Proof.Machine.execAssocRequestRx t eui p mode freq dsn dt s
  | .dlAckRx r dsn offset dt => Sys2Proof.Machine.execDlAckRx r dsn offset dt s
  | .dlAckTimeout r dt => Sys2Proof.Machine.execDlAckTimeout r dt s
  | .broadcastDownlink t dt => Sys2Proof.Machine.execBroadcastDownlink t dt s
  | .guardLimit r dt => Sys2Proof.Machine.execGuardLimit r dt s
  | .handoverConfirm r ok pan => Sys2Proof.Machine.execHandoverConfirm r ok pan s
  | .handoverStateRx r hw => Sys2Proof.Machine.execHandoverStateRx r hw s
  | .handoverIeSend r dt => Sys2Proof.Machine.execHandoverIeSend r dt s
  | .handoverHReached r dt => Sys2Proof.Machine.execHandoverHReached r dt s
  | .handoverFinalRx r hw dt => Sys2Proof.Machine.execHandoverFinalRx r hw dt s
  | .handoverForwardEnd dt => Sys2Proof.Machine.execHandoverForwardEnd dt s
  | .handoverAbandon r => Sys2Proof.Machine.execHandoverAbandon r s
  | .wheelTick farOk dt => Sys2Proof.Machine.execWheelTick farOk dt s
  | .farListMove ok dt => Sys2Proof.Machine.execFarListMove ok dt s
  | .downlinkCellPlanning r dt => Sys2Proof.Machine.execDownlinkCellPlanning r dt s
  | .uplinkCellPlanning r dt => Sys2Proof.Machine.execUplinkCellPlanning r dt s
  | .cellEndCharge r dt => Sys2Proof.Machine.execCellEndCharge r dt s
  | .schedRebuild => Sys2Proof.Machine.execSchedRebuild s
  | .dayStartChange dt => Sys2Proof.Machine.execDayStartChange dt s
  | .cinchTick pCont tj => Sys2Proof.Machine.execCinchTick pCont tj s
  | .harnessFrameIn h m bytes hit dt => Sys2Proof.Machine.execHarnessFrameIn h m bytes hit dt s
  | .outputDequeue h bad dt => Sys2Proof.Machine.execOutputDequeue h bad dt s
  | .outputLinkDownDiscard h => Sys2Proof.Machine.execOutputLinkDownDiscard h s
  | .spillWriteDone h c ok => Sys2Proof.Machine.execSpillWriteDone h c ok s
  | .spillFetch h c => Sys2Proof.Machine.execSpillFetch h c s
  | .shaperCalendarFire dt => Sys2Proof.Machine.execShaperCalendarFire dt s
  | .curbSample tenant dt => Sys2Proof.Machine.execCurbSample tenant dt s
  | .cxlTrainingStart dt => Sys2Proof.Machine.execCxlTrainingStart dt s
  | .cxlTrained expanders lanes rate dt => Sys2Proof.Machine.execCxlTrained expanders lanes rate dt s
  | .cxlTrainTimeout dt => Sys2Proof.Machine.execCxlTrainTimeout dt s
  | .cxlRetrainStart => Sys2Proof.Machine.execCxlRetrainStart s
  | .cxlRetrainDone dt => Sys2Proof.Machine.execCxlRetrainDone dt s
  | .cxlRetrainFail dt => Sys2Proof.Machine.execCxlRetrainFail dt s
  | .sbAccessDone k mediaErr => Sys2Proof.Machine.execSbAccessDone k mediaErr s
  | .strapPush q words data => Sys2Proof.Machine.execStrapPush q words data s
  | .strapMiddleWrite q dt => Sys2Proof.Machine.execStrapMiddleWrite q dt s
  | .strapMiddleRead q fails => Sys2Proof.Machine.execStrapMiddleRead q fails s
  | .weltClose q r dt => Sys2Proof.Machine.execWeltClose q r dt s
  | .pointerMismatch q r => Sys2Proof.Machine.execPointerMismatch q r s
  | .downlinkEnqueue r f => Sys2Proof.Machine.execDownlinkEnqueue r f s
  | .downlinkHeadRead r fails => Sys2Proof.Machine.execDownlinkHeadRead r fails s
  | .headReadTimeout r dt => Sys2Proof.Machine.execHeadReadTimeout r dt s
  | .holdDrain => Sys2Proof.Machine.execHoldDrain s
  | .journalRecordCommit seq => Sys2Proof.Machine.execJournalRecordCommit seq s
  | .journalHeaderRewrite dt => Sys2Proof.Machine.execJournalHeaderRewrite dt s
  | .brInsert rewritten => Sys2Proof.Machine.execBrInsert rewritten s
  | .brDelete rewritten => Sys2Proof.Machine.execBrDelete rewritten s
  | .brRead bad => Sys2Proof.Machine.execBrRead bad s
  | .brFlush rewritten => Sys2Proof.Machine.execBrFlush rewritten s
  | .nhWrite => Sys2Proof.Machine.execNhWrite s
  | .clWrite => Sys2Proof.Machine.execClWrite s
  | .haInsert bad => Sys2Proof.Machine.execHaInsert bad s
  | .haDelete bad => Sys2Proof.Machine.execHaDelete bad s
  | .haRead bad => Sys2Proof.Machine.execHaRead bad s
  | .haReadBucket bad => Sys2Proof.Machine.execHaReadBucket bad s
  | .halterAgeing dt => Sys2Proof.Machine.execHalterAgeing dt s
  | .kGenerate => Sys2Proof.Machine.execKGenerate s
  | .kDerive => Sys2Proof.Machine.execKDerive s
  | .kImport => Sys2Proof.Machine.execKImport s
  | .kExport => Sys2Proof.Machine.execKExport s
  | .kInvalidate => Sys2Proof.Machine.execKInvalidate s
  | .kReadAttr => Sys2Proof.Machine.execKReadAttr s
  | .kLinkWrap => Sys2Proof.Machine.execKLinkWrap s
  | .orphanSweep => Sys2Proof.Machine.execOrphanSweep s
  | .keeperProvision => Sys2Proof.Machine.execKeeperProvision s
  | .attest => Sys2Proof.Machine.execAttest s
  | .tamperDetect x => Sys2Proof.Machine.execTamperDetect x s
  | .tamperReport => Sys2Proof.Machine.execTamperReport s
  | .vbatLowZero => Sys2Proof.Machine.execVbatLowZero s
  | .campStart k => Sys2Proof.Machine.execCampStart k s
  | .campPause k => Sys2Proof.Machine.execCampPause k s
  | .campResume k => Sys2Proof.Machine.execCampResume k s
  | .campStop k => Sys2Proof.Machine.execCampStop k s
  | .campLoadDone k got bad dt => Sys2Proof.Machine.execCampLoadDone k got bad dt s
  | .announceResend k r dt => Sys2Proof.Machine.execAnnounceResend k r dt s
  | .burstPlanning k got bad dt => Sys2Proof.Machine.execBurstPlanning k got bad dt s
  | .laceReportTake => Sys2Proof.Machine.execLaceReportTake s
  | .campDeadline k dt => Sys2Proof.Machine.execCampDeadline k dt s
  | .laceReadFail k dt => Sys2Proof.Machine.execLaceReadFail k dt s
  | .treeSwitch => Sys2Proof.Machine.execTreeSwitch s
  | .seatOk => Sys2Proof.Machine.execSeatOk s
  | .seatWindowExpiry dt => Sys2Proof.Machine.execSeatWindowExpiry dt s
  | .bankWipe b => Sys2Proof.Machine.execBankWipe b s
  | .bankWipeDone => Sys2Proof.Machine.execBankWipeDone s
  | .timeStep delta => Sys2Proof.Machine.execTimeStep delta s
  | .timeSet sec ns => Sys2Proof.Machine.execTimeSet sec ns s
  | .ptpSample x dt => Sys2Proof.Machine.execPtpSample x dt s
  | .holdoverTimeout dt => Sys2Proof.Machine.execHoldoverTimeout dt s
  | .rtcWrite dt => Sys2Proof.Machine.execRtcWrite dt s
  | .timeSnapshot dt => Sys2Proof.Machine.execTimeSnapshot dt s
  | .tpoArm k mode => Sys2Proof.Machine.execTpoArm k mode s
  | .tpoParamWrite k start periodNs widthNs => Sys2Proof.Machine.execTpoParamWrite k start periodNs widthNs s
  | .tpoRise k dt => Sys2Proof.Machine.execTpoRise k dt s
  | .tpoFall k dt => Sys2Proof.Machine.execTpoFall k dt s
  | .add r rd ra rb => Sys2Proof.Machine.execAdd r rd ra rb s
  | .sub r rd ra rb => Sys2Proof.Machine.execSub r rd ra rb s
  | .and r rd ra rb => Sys2Proof.Machine.execAnd r rd ra rb s
  | .or r rd ra rb => Sys2Proof.Machine.execOr r rd ra rb s
  | .xor r rd ra rb => Sys2Proof.Machine.execXor r rd ra rb s
  | .sll r rd ra rb => Sys2Proof.Machine.execSll r rd ra rb s
  | .srl r rd ra rb => Sys2Proof.Machine.execSrl r rd ra rb s
  | .sra r rd ra rb => Sys2Proof.Machine.execSra r rd ra rb s
  | .cmplt r rd ra rb => Sys2Proof.Machine.execCmplt r rd ra rb s
  | .cmpltu r rd ra rb => Sys2Proof.Machine.execCmpltu r rd ra rb s
  | .mul r rd ra rb => Sys2Proof.Machine.execMul r rd ra rb s
  | .mulh r rd ra rb => Sys2Proof.Machine.execMulh r rd ra rb s
  | .mulhu r rd ra rb => Sys2Proof.Machine.execMulhu r rd ra rb s
  | .div r rd ra rb => Sys2Proof.Machine.execDiv r rd ra rb s
  | .divu r rd ra rb => Sys2Proof.Machine.execDivu r rd ra rb s
  | .rem r rd ra rb => Sys2Proof.Machine.execRem r rd ra rb s
  | .remu r rd ra rb => Sys2Proof.Machine.execRemu r rd ra rb s
  | .min r rd ra rb => Sys2Proof.Machine.execMin r rd ra rb s
  | .max r rd ra rb => Sys2Proof.Machine.execMax r rd ra rb s
  | .minu r rd ra rb => Sys2Proof.Machine.execMinu r rd ra rb s
  | .maxu r rd ra rb => Sys2Proof.Machine.execMaxu r rd ra rb s
  | .clz r rd ra => Sys2Proof.Machine.execClz r rd ra s
  | .popc r rd ra => Sys2Proof.Machine.execPopc r rd ra s
  | .bswap r rd ra => Sys2Proof.Machine.execBswap r rd ra s
  | .addi r rd ra imm => Sys2Proof.Machine.execAddi r rd ra imm s
  | .andi r rd ra imm => Sys2Proof.Machine.execAndi r rd ra imm s
  | .ori r rd ra imm => Sys2Proof.Machine.execOri r rd ra imm s
  | .xori r rd ra imm => Sys2Proof.Machine.execXori r rd ra imm s
  | .cmplti r rd ra imm => Sys2Proof.Machine.execCmplti r rd ra imm s
  | .cmpltiu r rd ra imm => Sys2Proof.Machine.execCmpltiu r rd ra imm s
  | .shiSll r rd ra k => Sys2Proof.Machine.execShiSll r rd ra k s
  | .shiSrl r rd ra k => Sys2Proof.Machine.execShiSrl r rd ra k s
  | .shiSra r rd ra k => Sys2Proof.Machine.execShiSra r rd ra k s
  | .shiRor r rd ra k => Sys2Proof.Machine.execShiRor r rd ra k s
  | .ldhi r rd imm => Sys2Proof.Machine.execLdhi r rd imm s
  | .addpch r rd imm => Sys2Proof.Machine.execAddpch r rd imm s
  | .lb r rd ra imm err => Sys2Proof.Machine.execLb r rd ra imm err s
  | .lbu r rd ra imm err => Sys2Proof.Machine.execLbu r rd ra imm err s
  | .lh r rd ra imm err => Sys2Proof.Machine.execLh r rd ra imm err s
  | .lhu r rd ra imm err => Sys2Proof.Machine.execLhu r rd ra imm err s
  | .lw r rd ra imm err => Sys2Proof.Machine.execLw r rd ra imm err s
  | .sb r rs ra imm err => Sys2Proof.Machine.execSb r rs ra imm err s
  | .sh r rs ra imm err => Sys2Proof.Machine.execSh r rs ra imm err s
  | .sw r rs ra imm => Sys2Proof.Machine.execSw r rs ra imm s
  | .amoSwap r rd ra rb err => Sys2Proof.Machine.execAmoSwap r rd ra rb err s
  | .amoAdd r rd ra rb err => Sys2Proof.Machine.execAmoAdd r rd ra rb err s
  | .amoAnd r rd ra rb err => Sys2Proof.Machine.execAmoAnd r rd ra rb err s
  | .amoOr r rd ra rb err => Sys2Proof.Machine.execAmoOr r rd ra rb err s
  | .amoXor r rd ra rb err => Sys2Proof.Machine.execAmoXor r rd ra rb err s
  | .amoMaxu r rd ra rb err => Sys2Proof.Machine.execAmoMaxu r rd ra rb err s
  | .beq r ra rb off => Sys2Proof.Machine.execBeq r ra rb off s
  | .bne r ra rb off => Sys2Proof.Machine.execBne r ra rb off s
  | .blt r ra rb off => Sys2Proof.Machine.execBlt r ra rb off s
  | .bge r ra rb off => Sys2Proof.Machine.execBge r ra rb off s
  | .bltu r ra rb off => Sys2Proof.Machine.execBltu r ra rb off s
  | .bgeu r ra rb off => Sys2Proof.Machine.execBgeu r ra rb off s
  | .j r off => Sys2Proof.Machine.execJ r off s
  | .call r off => Sys2Proof.Machine.execCall r off s
  | .jr r ra => Sys2Proof.Machine.execJr r ra s
  | .callr r ra => Sys2Proof.Machine.execCallr r ra s
  | .ret r => Sys2Proof.Machine.execRet r s
  | .loop r n ra stop => Sys2Proof.Machine.execLoop r n ra stop s
  | .loopi r n count stop => Sys2Proof.Machine.execLoopi r n count stop s
  | .trap r imm => Sys2Proof.Machine.execTrap r imm s
  | .getc r rd num => Sys2Proof.Machine.execGetc r rd num s
  | .setc r ra num => Sys2Proof.Machine.execSetc r ra num s
  | .fence r => Sys2Proof.Machine.execFence r s
  | .fenceI r => Sys2Proof.Machine.execFenceI r s
  | .xret r => Sys2Proof.Machine.execXret r s
  | .xretc r => Sys2Proof.Machine.execXretc r s
  | .wait r => Sys2Proof.Machine.execWait r s
  | .waitWake r => Sys2Proof.Machine.execWaitWake r s
  | .brk r => Sys2Proof.Machine.execBrk r s
  | .halt r => Sys2Proof.Machine.execHalt r s
  | .reservedInstruction r word => Sys2Proof.Machine.execReservedInstruction r word s
  | .interruptTake n => Sys2Proof.Machine.execInterruptTake n s
  | .storeBufferDrain n => Sys2Proof.Machine.execStoreBufferDrain n s
  | .coreStopRequest dt => Sys2Proof.Machine.execCoreStopRequest dt s
  | .coreStart k => Sys2Proof.Machine.execCoreStart k s
  | .coreStop k => Sys2Proof.Machine.execCoreStop k s
  | .dictPortSubmit n len => Sys2Proof.Machine.execDictPortSubmit n len s
  | .strapPortPush n q words => Sys2Proof.Machine.execStrapPortPush n q words s
  | .strapPortPop who q => Sys2Proof.Machine.execStrapPortPop who q s
  | .hp9RxDeliver => Sys2Proof.Machine.execHp9RxDeliver s
  | .hp9TxTake n dt => Sys2Proof.Machine.execHp9TxTake n dt s
  | .buckleEdge src => Sys2Proof.Machine.execBuckleEdge src s
  | .buckleLevelRise src => Sys2Proof.Machine.execBuckleLevelRise src s
  | .levelReassign src => Sys2Proof.Machine.execLevelReassign src s
  | .pendingWrite n w v => Sys2Proof.Machine.execPendingWrite n w v s
  | .maskWrite n w v => Sys2Proof.Machine.execMaskWrite n w v s
  | .awlBuckleRaise n v => Sys2Proof.Machine.execAwlBuckleRaise n v s
  | .awlHostRaise n v => Sys2Proof.Machine.execAwlHostRaise n v s
  | .hifBuckleRaise v => Sys2Proof.Machine.execHifBuckleRaise v s
  | .pcieLinkDown => Sys2Proof.Machine.execPcieLinkDown s
  | .pcieLinkUp => Sys2Proof.Machine.execPcieLinkUp s
  | .functionLevelReset => Sys2Proof.Machine.execFunctionLevelReset s
  | .rxRingTailWrite n v => Sys2Proof.Machine.execRxRingTailWrite n v s
  | .txRingTailWrite n v => Sys2Proof.Machine.execTxRingTailWrite n v s
  | .rxRingSizeWrite n k => Sys2Proof.Machine.execRxRingSizeWrite n k s
  | .txRingSizeWrite n k => Sys2Proof.Machine.execTxRingSizeWrite n k s
  | .hostRxFrame ds dt => Sys2Proof.Machine.execHostRxFrame ds dt s
  | .txFrameFetch n ds data dt => Sys2Proof.Machine.execTxFrameFetch n ds data dt s
  | .dmaError rx n addr => Sys2Proof.Machine.execDmaError rx n addr s
  | .reportRecordWrite => Sys2Proof.Machine.execReportRecordWrite s
  | .msixSend v dt => Sys2Proof.Machine.execMsixSend v dt s
  | .mbxSubmit len => Sys2Proof.Machine.execMbxSubmit len s
  | .mbxResponseEnqueue => Sys2Proof.Machine.execMbxResponseEnqueue s
  | .mbxRspPop => Sys2Proof.Machine.execMbxRspPop s
  | .tpOpStart who op => Sys2Proof.Machine.execTpOpStart who op s
  | .nrRead => Sys2Proof.Machine.execNrRead s
  | .nrWrite => Sys2Proof.Machine.execNrWrite s
  | .extFieldDetect dt => Sys2Proof.Machine.execExtFieldDetect dt s
  | .lpcdMeasure amp phase dt => Sys2Proof.Machine.execLpcdMeasure amp phase dt s
  | .readerCycleDue dt => Sys2Proof.Machine.execReaderCycleDue dt s
  | .readerListenEnd tags run dt => Sys2Proof.Machine.execReaderListenEnd tags run dt s
  | .fwtTimeout w dt => Sys2Proof.Machine.execFwtTimeout w dt s
  | .wtxRequest w m dt => Sys2Proof.Machine.execWtxRequest w m dt s
  | .readerCycleEnd tags dt => Sys2Proof.Machine.execReaderCycleEnd tags dt s
  | .tagFieldAbsent absent dt => Sys2Proof.Machine.execTagFieldAbsent absent dt s
  | .tagSessionEnd absent dt => Sys2Proof.Machine.execTagSessionEnd absent dt s
  | .tagSelect name file => Sys2Proof.Machine.execTagSelect name file s
  | .tagReadBinary off le => Sys2Proof.Machine.execTagReadBinary off le s
  | .tagUpdateBinary off data written => Sys2Proof.Machine.execTagUpdateBinary off data written s
  | .tagVerify pw => Sys2Proof.Machine.execTagVerify pw s
  | .tagGetChallenge => Sys2Proof.Machine.execTagGetChallenge s
  | .tagExternalAuth data => Sys2Proof.Machine.execTagExternalAuth data s
  | .tagUnknownIns => Sys2Proof.Machine.execTagUnknownIns s
  | .tagDeselect => Sys2Proof.Machine.execTagDeselect s
  | .tagLockoutEnd dt => Sys2Proof.Machine.execTagLockoutEnd dt s
  | .fdNRelease dt => Sys2Proof.Machine.execFdNRelease dt s
  | .pwrStateCmd t => Sys2Proof.Machine.execPwrStateCmd t s
  | .pwrTransitionDone dt => Sys2Proof.Machine.execPwrTransitionDone dt s
  | .pwrDwellEnd dt => Sys2Proof.Machine.execPwrDwellEnd dt s
  | .standbyWake card => Sys2Proof.Machine.execStandbyWake card s
  | .shutdownTrigger pin => Sys2Proof.Machine.execShutdownTrigger pin s
  | .retentionCommit dt => Sys2Proof.Machine.execRetentionCommit dt s
  | .supplyReturn bad => Sys2Proof.Machine.execSupplyReturn bad s
  | .offTimeEnd bad dt => Sys2Proof.Machine.execOffTimeEnd bad dt s
  | .lossOfPower => Sys2Proof.Machine.execLossOfPower s
  | .thermalTrip => Sys2Proof.Machine.execThermalTrip s
  | .thermalCool bad => Sys2Proof.Machine.execThermalCool bad s
  | .coldStart ev kept bad dt => Sys2Proof.Machine.execColdStart ev kept bad dt s
  | .resetNLow => Sys2Proof.Machine.execResetNLow s
  | .warmReset cause => Sys2Proof.Machine.execWarmReset cause s
  | .watchdogRefresh => Sys2Proof.Machine.execWatchdogRefresh s
  | .watchdogExpiry dt => Sys2Proof.Machine.execWatchdogExpiry dt s
  | .vbatLost => Sys2Proof.Machine.execVbatLost s
  | .hostUnreachable dt => Sys2Proof.Machine.execHostUnreachable dt s
  | .headSelChange high => Sys2Proof.Machine.execHeadSelChange high s
  | .ethernetLinkChange p up => Sys2Proof.Machine.execEthernetLinkChange p up s
  | .fetchError r => Sys2Proof.Machine.execFetchError r s
  | .calPartial dt => Sys2Proof.Machine.execCalPartial dt s
  | .vbatSupplyRise => Sys2Proof.Machine.execVbatSupplyRise s

end Sys2Proof.Machine
end

