-- ==== Sys2Proof/Safety.lean ====
section
/-! DEFINITION. What counts as a safe step and as a sound state, in the words of the statements. -/

namespace Sys2Proof.Machine

/-- An outcome is a next state. -/
def Goes (o : Host.Outcome State Fault Refusal) : Prop := ∃ t, o = .next t

/-- An outcome is a next state of which p holds. -/
def Gives (o : Host.Outcome State Fault Refusal) (p : State → Prop) : Prop := ∃ t, o = .next t ∧ p t

/-- The identity of the part: what fuses and production fixed (R102, R366). -/
abbrev SamePart (s : State) : Prop := s.ident = State.reset.ident

/-- From s to t one error is posted: an entry of its code and source joins the journal, and nothing else does. -/
def Posted (s t : State) (c : Err) (source : Nat) : Prop :=
  ∃ e : ErrEntry, e.code = c.code ∧ e.source = source ∧ t.sb.journal = (s.journalAdd (.err e)).sb.journal

/-- The dictionary service of this device takes the request a of operation op that arrives by via: it runs, the header passes its checks,
the request names this device, no seat window has expired, and no answer to it is stored (R68, R74, R78, R428). -/
abbrev State.Takes (s : State) (via : Via) (a : Access) (op : Nat) : Prop :=
  s.dict.ready = true ∧ s.tree.rom = false ∧ s.seatLate = false ∧ s.pwr ≠ 2 ∧ a.crcOk = true ∧ a.op = op ∧ a.resp = false ∧ headerStatus a = none ∧
    s.storedFor a = none ∧ ((∃ p, via = .chain p) ∨ s.ownTarget a.target = true)

/-- From s to t every number of the dictionary stays but those of some keys, and the NO_ROUTE counters of the chain ports. -/
def State.SameNumbers (s t : State) (l : List Nat) : Prop :=
  ∀ k, k ≠ Key.noRoute 0 → k ≠ Key.noRoute 1 → ¬ k ∈ l → t.rd k = s.rd k

/-- A subentry whose write acts on nothing but its value. -/
def plainIndex (idx : Nat) : Bool :=
  !(decide (0x1801 ≤ idx ∧ idx ≤ 0x1805) || decide (0x2000 ≤ idx ∧ idx ≤ 0x2003) || idx == 0x3200 || decide (0x4300 ≤ idx ∧ idx ≤ 0x43FF) ||
    idx == 0x6000 || idx == 0x6001)

/-- The two memories, local and attached, are in canonical form: addresses rise, and no listed byte is what an unlisted one reads as. -/
abbrev Memory.wf (s : State) : Prop := KMap.canon (fun _ => 0#8) s.cores.mem = true ∧ KMap.canon (fun _ => 0#8) s.sb.mem = true

/-! ### Cores -/

/-- Core n runs, and its pc is an address at which it may execute. -/
abbrev State.Fetches (s : State) (n : Nat) : Prop := s.coreRuns n = true ∧ fetchable n (s.core n).pc = true

/-- Where core n may fetch word w at its pc, an outcome is a next state of which p holds. -/
abbrev GivesAt (s : State) (n : Nat) (w : Word) (o : Host.Outcome State Fault Refusal) (p : State → Prop) : Prop :=
  s.fetches n (s.core n).pc w = true → Gives o p

/-- No hardware loop of a core is active, and no write of a loop register is on its way. -/
abbrev Core.Straight (c : Core) : Prop := c.late = [] ∧ ∀ k, k < 3 → (c.loop k).lc = 0#32

/-- Core d is core c but for the pc, the general registers, the loops and their late writes, the cycle count and the note of a load. -/
def Core.SameSystem (c d : Core) : Prop :=
  { d with pc := c.pc, regs := c.regs, loops := c.loops, late := c.late, cycles := c.cycles, loadedReg := c.loadedReg } = c

/-- From s to t nothing changes but core n. -/
def State.OnlyCore (s t : State) (n : Nat) : Prop :=
  (∀ m, m ≠ n → t.core m = s.core m) ∧ { t with cores := { t.cores with core := s.cores.core } } = s

/-- From s to t core n keeps its general registers but rd, which takes v; g0 takes nothing. -/
def State.RegTakes (s t : State) (n rd : Nat) (v : Word) : Prop :=
  ∀ k, (t.core n).g k = if k = rd ∧ rd ≠ 0 then v else (s.core n).g k

/-- From s to t core n wrote v to register rd and went on: the pc follows, where no loop is active; nothing else changes. -/
def State.WroteReg (s t : State) (n rd : Nat) (v : Word) : Prop :=
  s.RegTakes t n rd v ∧ (s.core n).SameSystem (t.core n) ∧ ((s.core n).Straight → (t.core n).pc = (s.core n).pc + 4#32) ∧ s.OnlyCore t n

/-- From s to t core n went to p with its link register at lk, and nothing else of it changes. -/
def State.WentTo (s t : State) (n : Nat) (p lk : Word) : Prop :=
  (t.core n).pc = p ∧ (t.core n).lk = lk ∧ s.RegTakes t n 0 0#32 ∧ (s.core n).SameSystem { t.core n with lk := (s.core n).lk } ∧
    (t.core n).loops = (s.core n).loops ∧ s.OnlyCore t n

/-- From s to t core n took an exception or an interrupt: MODE is saved, the trap frame is written, and the pc is at the vector. -/
def State.Entered (s t : State) (n cause offset : Nat) (xpc xaddr xword : Word) : Prop :=
  (t.core n).smode = (s.core n).mode ∧ (t.core n).mode = 2#2 ∧ (t.core n).xpc = xpc ∧ (t.core n).xcause.toNat = cause ∧ (t.core n).xaddr = xaddr ∧
    (t.core n).xword = xword ∧ (t.core n).pc = (s.core n).vbase + BitVec.ofNat 32 offset ∧ (t.core n).lk = (s.core n).lk ∧
    s.RegTakes t n 0 0#32 ∧ (∀ m, m ≠ n → t.core m = s.core m) ∧ t.cores.mem = s.cores.mem

/-! ### Parts of the state -/

/-! ### Families of numbers -/

/-- The family of a dictionary number: the key of its first element, for one of an array or of a run of subentries; its own
key otherwise. -/
def Key.fam (k : Nat) : Nat :=
  let k := k % 0x1000000
  let idx := k / 256
  let sub := k % 256
  if 0x1101 ≤ idx ∧ idx ≤ 0x1102 then 0x110100 + sub
  else if 0x1802 ≤ idx ∧ idx ≤ 0x1805 then 0x180200 + sub
  else if 0x2000 ≤ idx ∧ idx ≤ 0x2003 then 0x200000 + sub
  else if 0x2100 ≤ idx ∧ idx ≤ 0x213F then 0x210000 + sub
  else if 0x2200 ≤ idx ∧ idx ≤ 0x220F then 0x220000 + sub
  else if 0x2301 ≤ idx ∧ idx ≤ 0x2304 then 0x230100 + sub
  else if 0x2401 ≤ idx ∧ idx ≤ 0x2404 then 0x240100 + sub
  else if 0x3010 ≤ idx ∧ idx ≤ 0x302F then 0x301000 + sub
  else if 0x3100 ≤ idx ∧ idx ≤ 0x31FF then 0x310000 + (if 3 ≤ sub ∧ sub ≤ 6 then 3 else sub)
  else if 0x4001 ≤ idx ∧ idx ≤ 0x400C then 0x400100 + sub
  else if 0x4020 ≤ idx ∧ idx ≤ 0x407F then 0x402000 + sub
  else if 0x4110 ≤ idx ∧ idx ≤ 0x414F then 0x411000 + sub
  else if 0x4300 ≤ idx ∧ idx ≤ 0x43FF then 0x430000 + (if 0x10 ≤ sub ∧ sub < 0x50 then 0x10 + sub % 8 else if 0x50 ≤ sub then 0x50 + sub % 2 else sub)
  else if 0x5110 ≤ idx ∧ idx ≤ 0x511F then 0x511000 + sub
  else if 0x7001 ≤ idx ∧ idx ≤ 0x7010 then 0x700100 + sub
  else if 0x7100 ≤ idx ∧ idx ≤ 0x71FF then 0x710000 + sub
  else if idx = 0x1200 then 0x120000 + (if 0x10 ≤ sub ∧ sub ≤ 0x1C then 0x10 else sub)
  else if idx = 0x1401 then 0x140100 + (if 0x10 ≤ sub ∧ sub ≤ 0x15 then 0x10 else sub)
  else if idx = 0x1402 then 0x140200 + (if 1 ≤ sub ∧ sub ≤ 8 then 1 else sub)
  else k

/-- A choice of parts of the state. A block of which one field or another changes often is named in several parts: nums names families of numbers of the
dictionary and anyNum all its numbers; doms, results and logs are its byte strings, results and logs, and dict is the rest of its service; attached, straps, journal and nodeQueues stand
beside sb; recs, sched and cinch beside girth; windows and halter (with its overflow and its generator) beside tables; queues and arrivals beside
har; chainPorts beside chain; ports, rxTiles and txTiles beside radio; edges beside buckle; flags and reports beside host; locals beside cores. With form a
memory among the chosen parts still shows whether it is in canonical form. -/
structure Touch where
  pending : Bool := false
  draws : Bool := false
  out : Bool := false
  ident : Bool := false
  fuses : Bool := false
  pins : Bool := false
  clock : Bool := false
  pulses : Bool := false
  chain : Bool := false
  chainPorts : Bool := false
  dict : Bool := false
  nums : List Nat := []
  anyNum : Bool := false
  doms : Bool := false
  results : Bool := false
  logs : Bool := false
  power : Bool := false
  vbat : Bool := false
  radio : Bool := false
  ports : Bool := false
  rxTiles : Bool := false
  txTiles : Bool := false
  girth : Bool := false
  recs : Bool := false
  sched : Bool := false
  cinch : Bool := false
  keeper : Bool := false
  sb : Bool := false
  straps : Bool := false
  journal : Bool := false
  attached : Bool := false
  nodeQueues : Bool := false
  tables : Bool := false
  windows : Bool := false
  halter : Bool := false
  har : Bool := false
  queues : Bool := false
  arrivals : Bool := false
  lacing : Bool := false
  tree : Bool := false
  curb : Bool := false
  concho : Bool := false
  cores : Bool := false
  locals : Bool := false
  buckle : Bool := false
  edges : Bool := false
  host : Bool := false
  flags : Bool := false
  reports : Bool := false
  form : Bool := false

/-- What of a memory shows whether it is in canonical form: nothing where it is. -/
def memForm (m : KMap Byte) : KMap Byte := if KMap.canon (fun _ => 0#8) m then [] else m

/-- The state with the chosen parts as they are after reset. -/
def State.outside (M : Touch) (s : State) : State where
  pending := cond M.pending State.reset.pending s.pending
  draws := cond M.draws State.reset.draws s.draws
  out := cond M.out State.reset.out s.out
  ident := cond M.ident State.reset.ident s.ident
  fuses := cond M.fuses State.reset.fuses s.fuses
  pins := cond M.pins State.reset.pins s.pins
  clock := cond M.clock State.reset.clock s.clock
  pulses := cond M.pulses State.reset.pulses s.pulses
  chain := {
    portUp := cond M.chainPorts State.reset.chain.portUp s.chain.portUp
    portDn := cond M.chainPorts State.reset.chain.portDn s.chain.portDn
    topo := cond M.chain State.reset.chain.topo s.chain.topo
    enumRun := cond M.chain State.reset.chain.enumRun s.chain.enumRun
    claim := cond M.chain State.reset.chain.claim s.chain.claim
    headAt := cond M.chain State.reset.chain.headAt s.chain.headAt
    fullOwed := cond M.chain State.reset.chain.fullOwed s.chain.fullOwed
    nextTag := cond M.chain State.reset.chain.nextTag s.chain.nextTag
    opens := cond M.chain State.reset.chain.opens s.chain.opens
    late := cond M.chain State.reset.chain.late s.chain.late }
  dict := {
    nums := cond M.anyNum State.reset.dict.nums (s.dict.nums.filter (fun p => !M.nums.contains (Key.fam p.1)))
    doms := cond M.doms State.reset.dict.doms s.dict.doms
    results := cond M.results State.reset.dict.results s.dict.results
    ready := cond M.dict State.reset.dict.ready s.dict.ready
    clampLog := cond M.logs State.reset.dict.clampLog s.dict.clampLog
    errLog := cond M.logs State.reset.dict.errLog s.dict.errLog
    alarmAt := cond M.dict State.reset.dict.alarmAt s.dict.alarmAt
    stored := cond M.dict State.reset.dict.stored s.dict.stored
    waiting := cond M.dict State.reset.dict.waiting s.dict.waiting
    held := cond M.dict State.reset.dict.held s.dict.held
    subs := cond M.dict State.reset.dict.subs s.dict.subs
    transfers := cond M.dict State.reset.dict.transfers s.dict.transfers
    txn := cond M.dict State.reset.dict.txn s.dict.txn
    outcomes := cond M.dict State.reset.dict.outcomes s.dict.outcomes
    graces := cond M.dict State.reset.dict.graces s.dict.graces
    bankC := cond M.dict State.reset.dict.bankC s.dict.bankC
    storing := cond M.dict State.reset.dict.storing s.dict.storing
    nextReq := cond M.dict State.reset.dict.nextReq s.dict.nextReq
    asked := cond M.dict State.reset.dict.asked s.dict.asked }
  power := cond M.power State.reset.power s.power
  vbat := cond M.vbat State.reset.vbat s.vbat
  radio := {
    ports := cond M.ports State.reset.radio.ports s.radio.ports
    rx := cond M.rxTiles State.reset.radio.rx s.radio.rx
    tx := cond M.txTiles State.reset.radio.tx s.radio.tx
    cal := cond M.radio State.reset.radio.cal s.radio.cal
    locking := cond M.radio State.reset.radio.locking s.radio.locking
    duty := cond M.radio State.reset.radio.duty s.radio.duty
    dutyMin := cond M.radio State.reset.radio.dutyMin s.radio.dutyMin
    dup := cond M.radio State.reset.radio.dup s.radio.dup
    bsQueue := cond M.radio State.reset.radio.bsQueue s.radio.bsQueue
    bsEngines := cond M.radio State.reset.radio.bsEngines s.radio.bsEngines }
  girth := {
    recs := cond M.recs State.reset.girth.recs s.girth.recs
    forwards := cond M.girth State.reset.girth.forwards s.girth.forwards
    casts := cond M.girth State.reset.girth.casts s.girth.casts
    sched := cond M.sched State.reset.girth.sched s.girth.sched
    cinch := cond M.cinch State.reset.girth.cinch s.girth.cinch }
  keeper := cond M.keeper State.reset.keeper s.keeper
  sb := {
    mem := cond M.attached (cond M.form (memForm s.sb.mem) State.reset.sb.mem) s.sb.mem
    outstanding := cond M.sb State.reset.sb.outstanding s.sb.outstanding
    waiting := cond M.sb State.reset.sb.waiting s.sb.waiting
    layout := cond M.sb State.reset.sb.layout s.sb.layout
    since := cond M.sb State.reset.sb.since s.sb.since
    fresh := cond M.sb State.reset.sb.fresh s.sb.fresh
    queues := cond M.straps State.reset.sb.queues s.sb.queues
    nodes := cond M.nodeQueues State.reset.sb.nodes s.sb.nodes
    compare := cond M.sb State.reset.sb.compare s.sb.compare
    flushLeft := cond M.sb State.reset.sb.flushLeft s.sb.flushLeft
    journal := cond M.journal State.reset.sb.journal s.sb.journal }
  tables := {
    prefixes := cond M.tables State.reset.tables.prefixes s.tables.prefixes
    badWords := cond M.tables State.reset.tables.badWords s.tables.badWords
    nextHops := cond M.tables State.reset.tables.nextHops s.tables.nextHops
    copyLists := cond M.tables State.reset.tables.copyLists s.tables.copyLists
    halter := cond M.halter State.reset.tables.halter s.tables.halter
    overflow := cond M.halter State.reset.tables.overflow s.tables.overflow
    badWays := cond M.tables State.reset.tables.badWays s.tables.badWays
    badOverflow := cond M.tables State.reset.tables.badOverflow s.tables.badOverflow
    ageNext := cond M.tables State.reset.tables.ageNext s.tables.ageNext
    lfsr := cond M.halter State.reset.tables.lfsr s.tables.lfsr
    ops := cond M.tables State.reset.tables.ops s.tables.ops
    windows := cond M.windows State.reset.tables.windows s.tables.windows
    filter := cond M.tables State.reset.tables.filter s.tables.filter }
  har := {
    queues := cond M.queues State.reset.har.queues s.har.queues
    eth := cond M.har State.reset.har.eth s.har.eth
    arrivals := cond M.arrivals State.reset.har.arrivals s.har.arrivals
    freed := cond M.har State.reset.har.freed s.har.freed
    freedAt := cond M.har State.reset.har.freedAt s.har.freedAt
    leaving := cond M.har State.reset.har.leaving s.har.leaving }
  lacing := cond M.lacing State.reset.lacing s.lacing
  tree := cond M.tree State.reset.tree s.tree
  curb := cond M.curb State.reset.curb s.curb
  concho := cond M.concho State.reset.concho s.concho
  cores := {
    core := cond M.cores State.reset.cores.core s.cores.core
    mem := cond M.locals (cond M.form (memForm s.cores.mem) State.reset.cores.mem) s.cores.mem
    stale := cond M.cores State.reset.cores.stale s.cores.stale
    windows := cond M.cores State.reset.cores.windows s.cores.windows
    pushed := cond M.cores State.reset.cores.pushed s.cores.pushed }
  buckle := {
    pend := cond M.buckle State.reset.buckle.pend s.buckle.pend
    mask := cond M.buckle State.reset.buckle.mask s.buckle.mask
    last := cond M.buckle State.reset.buckle.last s.buckle.last
    edges := cond M.edges State.reset.buckle.edges s.buckle.edges }
  host := {
    linkUp := cond M.host State.reset.host.linkUp s.host.linkUp
    rx := cond M.host State.reset.host.rx s.host.rx
    tx := cond M.host State.reset.host.tx s.host.tx
    lastTx := cond M.host State.reset.host.lastTx s.host.lastTx
    flags := cond M.flags State.reset.host.flags s.host.flags
    causes := cond M.host State.reset.host.causes s.host.causes
    vectors := cond M.host State.reset.host.vectors s.host.vectors
    functionMask := cond M.host State.reset.host.functionMask s.host.functionMask
    snapSeq := cond M.host State.reset.host.snapSeq s.host.snapSeq
    snap := cond M.host State.reset.host.snap s.host.snap
    eventSel := cond M.host State.reset.host.eventSel s.host.eventSel
    mbxReq := cond M.host State.reset.host.mbxReq s.host.mbxReq
    mailbox := cond M.host State.reset.host.mailbox s.host.mailbox
    mailboxWait := cond M.host State.reset.host.mailboxWait s.host.mailboxWait
    mailboxHeld := cond M.host State.reset.host.mailboxHeld s.host.mailboxHeld
    nrData := cond M.host State.reset.host.nrData s.host.nrData
    nrShort := cond M.host State.reset.host.nrShort s.host.nrShort
    nrCode := cond M.host State.reset.host.nrCode s.host.nrCode
    reports := cond M.reports State.reset.host.reports s.host.reports
    reportsDue := cond M.reports State.reset.host.reportsDue s.host.reportsDue
    nextHandle := cond M.host State.reset.host.nextHandle s.host.nextHandle
    cutSince := cond M.host State.reset.host.cutSince s.host.cutSince
    cutPosted := cond M.host State.reset.host.cutPosted s.host.cutPosted }

/-- Outside the chosen parts the two states agree. -/
def State.SameBut (M : Touch) (s t : State) : Prop := t.outside M = s.outside M

/-- The parts of the state that a command may change; a number by its family. -/
def touches : Instr → Touch
  | .add .. | .sub .. | .and .. | .or .. | .xor .. | .sll .. | .srl .. | .sra .. | .cmplt .. | .cmpltu .. | .mul .. | .mulh .. | .mulhu ..
  | .div .. | .divu .. | .rem .. | .remu .. | .min .. | .max .. | .minu .. | .maxu .. | .clz .. | .popc .. | .bswap .. | .addi .. | .andi ..
  | .ori .. | .xori .. | .cmplti .. | .cmpltiu .. | .shiSll .. | .shiSrl .. | .shiSra .. | .shiRor .. | .ldhi .. | .addpch .. | .beq ..
  | .bne .. | .blt .. | .bge .. | .bltu .. | .bgeu .. | .j .. | .call .. | .jr .. | .callr .. | .ret .. | .loop .. | .loopi .. | .trap ..
  | .getc .. | .setc .. | .fence .. | .fenceI .. | .xret .. | .xretc .. | .wait .. | .brk .. | .halt .. | .reservedInstruction ..
  | .fetchError .. =>
    { out := true, pins := true, pulses := true, chain := true, chainPorts := true, dict := true, anyNum := true, doms := true, results := true,
      logs := true, power := true, vbat := true, radio := true, ports := true, rxTiles := true, txTiles := true, girth := true, recs := true,
      sched := true, cinch := true, keeper := true, sb := true, straps := true, journal := true, nodeQueues := true, tables := true, windows := true,
      halter := true, har := true, queues := true, arrivals := true, lacing := true, tree := true, curb := true, concho := true, cores := true,
      locals := true, buckle := true, edges := true, host := true, flags := true, reports := true }
  | .chainFrameRx .. | .read .. | .write .. | .readBlock .. | .writeBlock .. | .prepare .. | .commit .. | .abort .. | .notify ..
  | .registerWrite .. | .sb .. | .sh .. | .sw .. | .dictPortSubmit .. | .mbxSubmit .. =>
    { out := true, pins := true, clock := true, pulses := true, chain := true, chainPorts := true, dict := true, anyNum := true, doms := true,
      results := true, logs := true, power := true, vbat := true, radio := true, ports := true, rxTiles := true, txTiles := true, girth := true,
      recs := true, sched := true, cinch := true, keeper := true, sb := true, straps := true, journal := true, attached := true, nodeQueues := true,
      tables := true, windows := true, halter := true, har := true, queues := true, arrivals := true, lacing := true, tree := true, curb := true,
      concho := true, cores := true, locals := true, buckle := true, edges := true, host := true, flags := true, reports := true }
  | .amoSwap .. | .amoAdd .. | .amoAnd .. | .amoOr .. | .amoXor .. | .amoMaxu .. | .pwrTransitionDone .. =>
    { draws := true, out := true, pins := true, clock := true, pulses := true, chain := true, chainPorts := true, dict := true, anyNum := true,
      doms := true, results := true, logs := true, power := true, vbat := true, radio := true, ports := true, rxTiles := true, txTiles := true,
      girth := true, recs := true, sched := true, cinch := true, keeper := true, sb := true, straps := true, journal := true, attached := true,
      nodeQueues := true, tables := true, windows := true, halter := true, har := true, queues := true, arrivals := true, lacing := true, tree := true,
      curb := true, concho := true, cores := true, locals := true, buckle := true, edges := true, host := true, flags := true, reports := true }
  | .surveyRx .. | .topoRx .. | .enumAutoStart | .chainEnumIncremental | .chainEnumFull | .pcieLinkUp =>
    { chain := true, chainPorts := true, dict := true,
      nums := [0x110001, 0x110003, 0x110004, 0x110005, 0x110006, 0x110108, 0x120002, 0x120003, 0x120007, 0x411003, 0x411004], results := true,
      logs := true, sb := true, straps := true, journal := true, edges := true, host := true, flags := true }
  | .brInsert .. | .brDelete .. | .brFlush .. | .nhWrite | .clWrite | .kReadAttr => { tables := true, windows := true, edges := true, flags := true }
  | .rxRingTailWrite .. | .txRingTailWrite .. | .rxRingSizeWrite .. | .txRingSizeWrite .. | .mbxRspPop | .nrRead =>
    { pins := true, dict := true, nums := [0x120002, 0x120003, 0x120007, 0x200001, 0x210007, 0x21001A, 0x411003, 0x411004], results := true,
      logs := true, power := true, ports := true, rxTiles := true, straps := true, journal := true, edges := true, host := true, flags := true }
  | .lbtListenDue .. | .lbtListenEnd .. | .rampDue .. | .txWindowEnd .. | .rampDownEnd .. =>
    { out := true, pins := true, clock := true, dict := true,
      nums := [0x120002, 0x120003, 0x120007, 0x140106, 0x200001, 0x210007, 0x21001A, 0x220004, 0x220005, 0x220010, 0x220011, 0x220012, 0x220013,
        0x220014, 0x300008, 0x30000B, 0x320005, 0x411003, 0x411004],
      results := true, logs := true, vbat := true, radio := true, ports := true, rxTiles := true, txTiles := true, recs := true, straps := true,
      journal := true, nodeQueues := true, lacing := true, edges := true, flags := true, reports := true }
  | .lb .. | .lbu .. | .lh .. | .lhu .. | .lw .. =>
    { draws := true, out := true, pins := true, pulses := true, chain := true, chainPorts := true, dict := true, anyNum := true, doms := true,
      results := true, logs := true, power := true, vbat := true, radio := true, ports := true, rxTiles := true, txTiles := true, girth := true,
      recs := true, sched := true, cinch := true, keeper := true, sb := true, straps := true, journal := true, nodeQueues := true, tables := true,
      windows := true, halter := true, har := true, queues := true, arrivals := true, lacing := true, tree := true, curb := true, concho := true,
      cores := true, locals := true, buckle := true, edges := true, host := true, flags := true, reports := true }
  | .headBroadcast | .delayMeasure .. | .delayReqRx .. | .timeFrameTx .. => { chainPorts := true, nums := [0x110108] }
  | .campStart .. | .campPause .. | .campResume .. | .campStop .. =>
    { dict := true, nums := [0x120002, 0x120003, 0x120007, 0x140106, 0x411003, 0x411004, 0x510001, 0x511001, 0x511008, 0x511009], results := true,
      logs := true, straps := true, journal := true, arrivals := true, lacing := true, edges := true, flags := true }
  | .buckleLevelRise .. | .levelReassign .. | .pendingWrite .. | .maskWrite .. => { buckle := true }
  | .bridgeFlitCrcFail .. | .treeSwitch | .warmReset .. =>
    { out := true, pins := true, pulses := true, chain := true, chainPorts := true, dict := true, anyNum := true, doms := true, results := true,
      logs := true, power := true, vbat := true, radio := true, ports := true, rxTiles := true, txTiles := true, girth := true, recs := true,
      sched := true, cinch := true, keeper := true, sb := true, straps := true, journal := true, nodeQueues := true, tables := true, windows := true,
      halter := true, har := true, queues := true, arrivals := true, lacing := true, tree := true, curb := true, concho := true, cores := true,
      buckle := true, edges := true, host := true, flags := true, reports := true }
  | .islandStart .. | .islandStop .. | .islandDwellEnd .. =>
    { clock := true, nums := [0x700101], results := true, power := true, vbat := true, rxTiles := true, txTiles := true, cores := true }
  | .enumPassTimeout .. | .txnIdleExpiry .. | .commitGraceExpiry .. =>
    { clock := true, chain := true, chainPorts := true, dict := true,
      nums := [0x110001, 0x110003, 0x110004, 0x110005, 0x110006, 0x110108, 0x120002, 0x120003, 0x120007, 0x411003, 0x411004], results := true,
      logs := true, vbat := true, sb := true, straps := true, journal := true, edges := true, host := true, flags := true }
  | .dictStore | .dictErase | .dictStoreDone .. => { dict := true, results := true }
  | .wheelTick .. | .uplinkCellPlanning .. | .headReadTimeout .. => { clock := true, nums := [0x320003, 0x320005], vbat := true, recs := true, sched := true }
  | .haDelete .. | .haRead .. | .haReadBucket .. =>
    { dict := true, nums := [0x120002, 0x120003, 0x120007, 0x120010, 0x12001D, 0x411003, 0x411004, 0x420105], logs := true, straps := true,
      journal := true, tables := true, windows := true, halter := true, edges := true, flags := true }
  | .readerListenEnd .. | .fwtTimeout .. | .wtxRequest .. =>
    { out := true, clock := true, dict := true, nums := [0x120002, 0x120003, 0x120007, 0x411003, 0x411004], logs := true, vbat := true, straps := true,
      journal := true, concho := true, edges := true, flags := true }
  | .supplyReturn .. | .offTimeEnd .. | .thermalCool .. =>
    { pins := true, clock := true, pulses := true, chain := true, chainPorts := true, dict := true, anyNum := true, doms := true, results := true,
      logs := true, power := true, vbat := true, radio := true, ports := true, rxTiles := true, txTiles := true, girth := true, recs := true,
      sched := true, cinch := true, keeper := true, sb := true, straps := true, journal := true, nodeQueues := true, tables := true, windows := true,
      halter := true, har := true, queues := true, arrivals := true, lacing := true, tree := true, curb := true, concho := true, cores := true,
      locals := true, buckle := true, edges := true, host := true, flags := true, reports := true }
  | .headRx .. | .chainSwitchover =>
    { chain := true, chainPorts := true, dict := true,
      nums := [0x110003, 0x110004, 0x110005, 0x110006, 0x110108, 0x120002, 0x120003, 0x120007, 0x411003, 0x411004], results := true, logs := true,
      sb := true, straps := true, journal := true, edges := true, host := true, flags := true }
  | .timeFrameRx .. | .ptpSample .. =>
    { pins := true, clock := true, pulses := true, chain := true, chainPorts := true, dict := true, anyNum := true, results := true, logs := true,
      vbat := true, ports := true, rxTiles := true, txTiles := true, recs := true, sched := true, sb := true, straps := true, journal := true,
      nodeQueues := true, lacing := true, edges := true, host := true, flags := true, reports := true }
  | .blockIdleExpiry .. | .holdoverTimeout .. =>
    { clock := true, dict := true, nums := [0x120002, 0x120003, 0x120007, 0x411003, 0x411004], logs := true, vbat := true, straps := true,
      journal := true, edges := true, flags := true }
  | .rxDetect .. | .sfdFound .. => { clock := true, nums := [0x210007], vbat := true, rxTiles := true }
  | .qualifierConfirm .. | .lateArrival .. => { clock := true, nums := [0x210011], vbat := true, rxTiles := true }
  | .sfdTimeout .. | .despreadTimeout .. => { clock := true, nums := [0x210007, 0x210017, 0x21001A], vbat := true, rxTiles := true }
  | .backstitchEngineStart .. | .dutyBucketAdvance .. => { clock := true, vbat := true, radio := true }
  | .handoverIeSend .. | .downlinkCellPlanning .. =>
    { pins := true, clock := true, dict := true,
      nums := [0x120002, 0x120003, 0x120007, 0x140106, 0x140110, 0x200001, 0x210007, 0x21001A, 0x220004, 0x220005, 0x220010, 0x220011, 0x220012,
        0x220013, 0x220014, 0x300008, 0x30000B, 0x320003, 0x320004, 0x320005, 0x411003, 0x411004],
      results := true, logs := true, vbat := true, ports := true, rxTiles := true, txTiles := true, recs := true, sched := true, cinch := true,
      keeper := true, straps := true, journal := true, nodeQueues := true, lacing := true, edges := true, flags := true, reports := true }
  | .outputLinkDownDiscard .. | .spillWriteDone .. => { nums := [0x402003], har := true, queues := true, reports := true }
  | .cxlTrainingStart .. | .cxlTrainTimeout .. => { clock := true, nums := [0x410002], vbat := true, sb := true, edges := true }
  | .kDerive | .kImport =>
    { dict := true, nums := [0x120002, 0x120003, 0x120007, 0x411003, 0x411004, 0x500002], logs := true, keeper := true, straps := true,
      journal := true, tables := true, windows := true, edges := true, flags := true }
  | .kExport | .kLinkWrap =>
    { dict := true, nums := [0x120002, 0x120003, 0x120007, 0x411003, 0x411004], logs := true, keeper := true, straps := true, journal := true,
      tables := true, windows := true, edges := true, flags := true }
  | .campDeadline .. | .laceReadFail .. =>
    { clock := true, dict := true, nums := [0x120002, 0x120003, 0x120007, 0x411003, 0x411004, 0x510001, 0x511001], logs := true, vbat := true,
      straps := true, journal := true, edges := true, flags := true }
  | .seatWindowExpiry .. | .watchdogExpiry .. =>
    { out := true, pins := true, clock := true, pulses := true, chain := true, chainPorts := true, dict := true, anyNum := true, doms := true,
      results := true, logs := true, power := true, vbat := true, radio := true, ports := true, rxTiles := true, txTiles := true, girth := true,
      recs := true, sched := true, cinch := true, keeper := true, sb := true, straps := true, journal := true, nodeQueues := true, tables := true,
      windows := true, halter := true, har := true, queues := true, arrivals := true, lacing := true, tree := true, curb := true, concho := true,
      cores := true, buckle := true, edges := true, host := true, flags := true, reports := true }
  | .bankWipe .. | .bankWipeDone => { results := true, tree := true }
  | .timeStep .. | .timeSet .. =>
    { pins := true, clock := true, pulses := true, chain := true, chainPorts := true, dict := true, anyNum := true, results := true, logs := true,
      ports := true, rxTiles := true, txTiles := true, recs := true, sched := true, sb := true, straps := true, journal := true, nodeQueues := true,
      lacing := true, edges := true, host := true, flags := true, reports := true }
  | .waitWake .. | .interruptTake .. => { cores := true }
  | .hifBuckleRaise .. | .pwrStateCmd .. =>
    { pins := true, dict := true, nums := [0x120002, 0x120003, 0x120007, 0x200001, 0x210007, 0x21001A, 0x411003, 0x411004], results := true,
      logs := true, power := true, ports := true, rxTiles := true, straps := true, journal := true, edges := true, flags := true }
  | .extFieldDetect .. | .tagFieldAbsent .. =>
    { draws := true, out := true, pins := true, clock := true, nums := [0x600102], vbat := true, concho := true, edges := true }
  | .readerCycleDue .. | .tagLockoutEnd .. => { clock := true, vbat := true, concho := true }
  | .shutdownTrigger .. | .thermalTrip =>
    { pins := true, dict := true,
      nums := [0x120002, 0x120003, 0x120007, 0x140001, 0x200001, 0x210007, 0x21001A, 0x220005, 0x402003, 0x411003, 0x411004], results := true,
      logs := true, power := true, ports := true, rxTiles := true, txTiles := true, sched := true, straps := true, journal := true, queues := true,
      cores := true, locals := true, edges := true, flags := true, reports := true }
  | .lossOfPower | .resetNLow =>
    { pins := true, pulses := true, chain := true, chainPorts := true, dict := true, anyNum := true, doms := true, results := true, logs := true,
      power := true, radio := true, ports := true, rxTiles := true, txTiles := true, girth := true, recs := true, sched := true, cinch := true,
      keeper := true, sb := true, straps := true, journal := true, nodeQueues := true, tables := true, windows := true, halter := true, har := true,
      queues := true, arrivals := true, lacing := true, curb := true, concho := true, cores := true, locals := true, buckle := true, edges := true,
      host := true, flags := true, reports := true }
  | .scrubPass .. =>
    { dict := true, anyNum := true, doms := true, logs := true, recs := true, sched := true, keeper := true, straps := true, journal := true,
      tables := true, halter := true, har := true, queues := true, lacing := true, edges := true, flags := true, reports := true }
  | .sampleOverrun .. =>
    { dict := true, nums := [0x120002, 0x120003, 0x120007, 0x210007, 0x210018, 0x21001A, 0x411003, 0x411004], logs := true, rxTiles := true,
      straps := true, journal := true, edges := true, flags := true }
  | .islandOn .. => { clock := true, nums := [0x210007], power := true, vbat := true, rxTiles := true, txTiles := true }
  | .islandOff .. => { clock := true, nums := [0x210007, 0x700101], results := true, power := true, vbat := true, rxTiles := true, txTiles := true, cores := true }
  | .linkSignalDetected .. => { nums := [0x110101], edges := true }
  | .linkLocked .. => { out := true, chainPorts := true, nums := [0x110101], edges := true }
  | .linkFrameRx .. =>
    { chain := true, chainPorts := true, dict := true,
      nums := [0x110004, 0x110005, 0x110101, 0x110108, 0x120002, 0x120003, 0x120007, 0x411003, 0x411004], logs := true, sb := true, straps := true,
      journal := true, edges := true, host := true, flags := true }
  | .linkFrameTx .. => { out := true, chainPorts := true }
  | .linkDown .. =>
    { chain := true, chainPorts := true, dict := true,
      nums := [0x110004, 0x110005, 0x110101, 0x110108, 0x110109, 0x120002, 0x120003, 0x120007, 0x411003, 0x411004], logs := true, sb := true,
      straps := true, journal := true, edges := true, host := true, flags := true }
  | .chainFrameAbort .. => { chainPorts := true, nums := [0x110106] }
  | .chainFrameTx .. => { out := true, clock := true, chainPorts := true, vbat := true }
  | .surveyReturn .. => { chain := true, chainPorts := true, nums := [0x110001, 0x110003, 0x110006, 0x110108] }
  | .assignRx .. =>
    { chain := true, chainPorts := true, dict := true, nums := [0x110001, 0x110108, 0x120002, 0x120003, 0x120007, 0x411003, 0x411004], logs := true,
      straps := true, journal := true, edges := true, flags := true }
  | .assignReturn .. =>
    { chain := true, chainPorts := true, dict := true,
      nums := [0x110004, 0x110005, 0x110006, 0x110108, 0x120002, 0x120003, 0x120007, 0x411003, 0x411004], results := true, logs := true, sb := true,
      straps := true, journal := true, edges := true, host := true, flags := true }
  | .headMissTakeover .. =>
    { clock := true, chain := true, chainPorts := true, dict := true,
      nums := [0x110003, 0x110004, 0x110005, 0x110108, 0x120002, 0x120003, 0x120007, 0x411003, 0x411004], logs := true, vbat := true, sb := true,
      straps := true, journal := true, edges := true, host := true, flags := true }
  | .delayRspRx .. =>
    { chainPorts := true, dict := true, nums := [0x110102, 0x120002, 0x120003, 0x120007, 0x411003, 0x411004], logs := true, straps := true,
      journal := true, edges := true, flags := true }
  | .sbReqIssue .. =>
    { out := true, chain := true, chainPorts := true, dict := true, nums := [0x110108, 0x120002, 0x120003, 0x120007, 0x411003, 0x411004], logs := true,
      sb := true, straps := true, journal := true, edges := true, flags := true }
  | .sbReqRx .. => { chainPorts := true, nums := [0x110108], sb := true }
  | .sbRspRx .. => { out := true, chain := true }
  | .sbTimeout .. =>
    { out := true, clock := true, chain := true, dict := true, nums := [0x120002, 0x120003, 0x120007, 0x411003, 0x411004], logs := true, vbat := true,
      straps := true, journal := true, edges := true, flags := true }
  | .notifyEventSend .. =>
    { out := true, clock := true, chainPorts := true, dict := true, nums := [0x110108, 0x411003, 0x411004], vbat := true, straps := true,
      cores := true, edges := true, flags := true }
  | .dictRetryTimeout .. =>
    { out := true, clock := true, chainPorts := true, dict := true, nums := [0x110108], vbat := true, cores := true, edges := true, host := true,
      flags := true }
  | .dictResponseRx .. => { out := true, chainPorts := true, dict := true, nums := [0x110108, 0x120209], cores := true, edges := true, host := true, flags := true }
  | .epochApply .. =>
    { pins := true, clock := true, chain := true, chainPorts := true, dict := true, anyNum := true, results := true, logs := true, vbat := true,
      ports := true, rxTiles := true, txTiles := true, recs := true, sched := true, sb := true, straps := true, journal := true, nodeQueues := true,
      lacing := true, edges := true, host := true, flags := true, reports := true }
  | .graceEnd .. =>
    { pins := true, clock := true, dict := true,
      nums := [0x120002, 0x120003, 0x120007, 0x12020D, 0x200001, 0x210007, 0x21001A, 0x220004, 0x411003, 0x411004], results := true, logs := true,
      vbat := true, ports := true, rxTiles := true, txTiles := true, straps := true, journal := true, edges := true, flags := true }
  | .clampLogClear => { nums := [0x120102], results := true, logs := true }
  | .errLogClear => { nums := [0x120002], results := true, logs := true }
  | .portStateCmd .. =>
    { pins := true, dict := true, nums := [0x120002, 0x120003, 0x120007, 0x200001, 0x210007, 0x21001A, 0x411003, 0x411004], results := true,
      logs := true, ports := true, rxTiles := true, straps := true, journal := true, edges := true, flags := true }
  | .portTransitionDone .. =>
    { out := true, pins := true, clock := true, dict := true,
      nums := [0x120002, 0x120003, 0x120007, 0x12020D, 0x140106, 0x200001, 0x210006, 0x210007, 0x21001A, 0x220004, 0x220005, 0x220010, 0x220011,
        0x220012, 0x220013, 0x220014, 0x300008, 0x30000B, 0x320005, 0x411003, 0x411004],
      doms := true, results := true, logs := true, vbat := true, radio := true, ports := true, rxTiles := true, txTiles := true, recs := true,
      straps := true, journal := true, nodeQueues := true, lacing := true, edges := true, flags := true, reports := true }
  | .portDwellEnd .. =>
    { pins := true, clock := true, dict := true, nums := [0x120002, 0x120003, 0x120007, 0x200001, 0x210007, 0x21001A, 0x411003, 0x411004],
      results := true, logs := true, vbat := true, ports := true, rxTiles := true, straps := true, journal := true, edges := true, flags := true }
  | .synthLockLost .. =>
    { pins := true, dict := true, nums := [0x120002, 0x120003, 0x120007, 0x200001, 0x210007, 0x21001A, 0x220005, 0x411003, 0x411004], logs := true,
      ports := true, rxTiles := true, txTiles := true, straps := true, journal := true, edges := true, flags := true }
  | .synthRelockDone .. =>
    { out := true, pins := true, clock := true, dict := true,
      nums := [0x120002, 0x120003, 0x120007, 0x140106, 0x200001, 0x210006, 0x210007, 0x21001A, 0x220004, 0x220005, 0x220010, 0x220011, 0x220012,
        0x220013, 0x220014, 0x300008, 0x30000B, 0x320005, 0x411003, 0x411004],
      results := true, logs := true, vbat := true, radio := true, ports := true, rxTiles := true, txTiles := true, recs := true, straps := true,
      journal := true, nodeQueues := true, lacing := true, edges := true, flags := true, reports := true }
  | .retuneStart .. =>
    { pins := true, dict := true, nums := [0x120002, 0x120003, 0x120007, 0x12020D, 0x200001, 0x210007, 0x21001A, 0x220004, 0x411003, 0x411004],
      results := true, logs := true, ports := true, rxTiles := true, txTiles := true, straps := true, journal := true, edges := true, flags := true }
  | .calCmd .. =>
    { dict := true, nums := [0x120002, 0x120003, 0x120007, 0x411003, 0x411004], results := true, logs := true, radio := true, ports := true,
      straps := true, journal := true, edges := true, flags := true }
  | .calPeriodic .. =>
    { clock := true, dict := true, nums := [0x120002, 0x120003, 0x120007, 0x411003, 0x411004], results := true, logs := true, vbat := true,
      radio := true, ports := true, straps := true, journal := true, edges := true, flags := true }
  | .oscCalMeasure .. =>
    { clock := true, dict := true, nums := [0x120002, 0x120003, 0x120007, 0x411003, 0x411004], doms := true, results := true, logs := true,
      vbat := true, radio := true, rxTiles := true, straps := true, journal := true, edges := true, flags := true }
  | .calWindowOpen .. => { pins := true, clock := true, vbat := true, radio := true, rxTiles := true, sched := true }
  | .calWindowEnd .. =>
    { pins := true, clock := true, dict := true, nums := [0x120002, 0x120003, 0x120007, 0x210007, 0x411003, 0x411004], doms := true, results := true,
      logs := true, vbat := true, radio := true, rxTiles := true, straps := true, journal := true, edges := true, flags := true }
  | .calNoWindow .. =>
    { clock := true, dict := true, nums := [0x120002, 0x120003, 0x120007, 0x411003, 0x411004], results := true, logs := true, vbat := true,
      radio := true, straps := true, journal := true, edges := true, flags := true }
  | .stampLock => { results := true, radio := true, ports := true, rxTiles := true, txTiles := true }
  | .stampLockDone .. => { fuses := true, nums := [0x230001], results := true, radio := true }
  | .pdMeasure .. =>
    { clock := true, dict := true, nums := [0x120002, 0x120003, 0x120007, 0x200008, 0x200009, 0x20000A, 0x411003, 0x411004], logs := true,
      vbat := true, ports := true, straps := true, journal := true, edges := true, flags := true }
  | .portStarved .. =>
    { clock := true, dict := true, nums := [0x120002, 0x120003, 0x120007, 0x20000A, 0x200010, 0x411003, 0x411004], logs := true, vbat := true,
      straps := true, journal := true, edges := true, flags := true }
  | .detectTimeout .. => { clock := true, nums := [0x210007, 0x21001A], vbat := true, rxTiles := true }
  | .phrRx .. => { clock := true, nums := [0x210007, 0x210012, 0x210017, 0x21001A], vbat := true, rxTiles := true }
  | .rxFrameEnd .. =>
    { draws := true, pins := true, clock := true, dict := true,
      nums := [0x120002, 0x120003, 0x120007, 0x120010, 0x12001D, 0x140106, 0x140110, 0x200001, 0x210007, 0x210010, 0x210012, 0x210013, 0x210014,
        0x210015, 0x210016, 0x210017, 0x210019, 0x21001A, 0x220004, 0x220005, 0x220010, 0x220011, 0x220012, 0x220013, 0x220014, 0x300008, 0x30000B, 0x320005, 0x411003, 0x411004, 0x420105],
      results := true, logs := true, vbat := true, radio := true, ports := true, rxTiles := true, txTiles := true, recs := true, cinch := true,
      keeper := true, straps := true, journal := true, nodeQueues := true, tables := true, halter := true, arrivals := true, lacing := true,
      edges := true, flags := true, reports := true }
  | .capture .. => { clock := true, nums := [0x210007, 0x210011, 0x21001A], vbat := true, rxTiles := true }
  | .adcClipGainStep .. => { ports := true, rxTiles := true }
  | .portGainStep .. => { clock := true, vbat := true, ports := true }
  | .placementChange .. => { nums := [0x210006, 0x210007], rxTiles := true }
  | .backstitchQueueTimeout .. => { clock := true, nums := [0x140106, 0x21001A], vbat := true, radio := true }
  | .backstitchFrameEnd .. =>
    { draws := true, pins := true, clock := true, dict := true,
      nums := [0x120002, 0x120003, 0x120007, 0x120010, 0x12001D, 0x140106, 0x140110, 0x200001, 0x210007, 0x210010, 0x210012, 0x210013, 0x210014,
        0x210015, 0x210016, 0x210019, 0x21001A, 0x220004, 0x220005, 0x220010, 0x220011, 0x220012, 0x220013, 0x220014, 0x300008, 0x30000B, 0x320005, 0x411003, 0x411004, 0x420105],
      results := true, logs := true, vbat := true, radio := true, ports := true, rxTiles := true, txTiles := true, recs := true, cinch := true,
      keeper := true, straps := true, journal := true, nodeQueues := true, tables := true, halter := true, arrivals := true, lacing := true,
      edges := true, flags := true, reports := true }
  | .txCommit .. =>
    { pins := true, clock := true, dict := true,
      nums := [0x120002, 0x120003, 0x120007, 0x140106, 0x140110, 0x200001, 0x210007, 0x21001A, 0x220004, 0x220005, 0x220010, 0x220011, 0x220012,
        0x220013, 0x220014, 0x300008, 0x30000B, 0x320005, 0x411003, 0x411004],
      results := true, logs := true, vbat := true, ports := true, rxTiles := true, txTiles := true, recs := true, cinch := true, keeper := true,
      straps := true, journal := true, nodeQueues := true, lacing := true, edges := true, flags := true, reports := true }
  | .rampUpEnd .. => { clock := true, nums := [0x220005], vbat := true, ports := true, recs := true }
  | .lastChip .. => { clock := true, nums := [0x220005], vbat := true, ports := true, txTiles := true }
  | .beaconSend .. =>
    { draws := true, pins := true, clock := true, dict := true,
      nums := [0x120002, 0x120003, 0x120007, 0x140106, 0x140110, 0x200001, 0x210007, 0x21001A, 0x220004, 0x220005, 0x220010, 0x220011, 0x220012,
        0x220013, 0x220014, 0x300008, 0x30000B, 0x320005, 0x411003, 0x411004],
      results := true, logs := true, vbat := true, ports := true, rxTiles := true, txTiles := true, recs := true, sched := true, cinch := true,
      keeper := true, straps := true, journal := true, nodeQueues := true, lacing := true, edges := true, flags := true, reports := true }
  | .assocRequestRx .. =>
    { draws := true, pins := true, clock := true, dict := true,
      nums := [0x120002, 0x120003, 0x120007, 0x140106, 0x140110, 0x200001, 0x210007, 0x21001A, 0x220004, 0x220005, 0x220010, 0x220011, 0x220012,
        0x220013, 0x220014, 0x300008, 0x30000B, 0x320005, 0x411003, 0x411004],
      results := true, logs := true, vbat := true, ports := true, rxTiles := true, txTiles := true, recs := true, cinch := true, keeper := true,
      straps := true, journal := true, nodeQueues := true, lacing := true, edges := true, flags := true, reports := true }
  | .dlAckRx .. => { clock := true, vbat := true, recs := true, nodeQueues := true, reports := true }
  | .dlAckTimeout .. =>
    { clock := true, dict := true, nums := [0x120002, 0x120003, 0x120007, 0x300008, 0x30000B, 0x411003, 0x411004], logs := true, vbat := true,
      recs := true, straps := true, journal := true, nodeQueues := true, edges := true, flags := true, reports := true }
  | .broadcastDownlink .. =>
    { draws := true, pins := true, clock := true, dict := true,
      nums := [0x120002, 0x120003, 0x120007, 0x140106, 0x140110, 0x200001, 0x210007, 0x21001A, 0x220004, 0x220005, 0x220010, 0x220011, 0x220012,
        0x220013, 0x220014, 0x300008, 0x30000B, 0x320005, 0x411003, 0x411004],
      results := true, logs := true, vbat := true, ports := true, rxTiles := true, txTiles := true, girth := true, recs := true, sched := true,
      cinch := true, keeper := true, straps := true, journal := true, nodeQueues := true, lacing := true, edges := true, flags := true,
      reports := true }
  | .guardLimit .. =>
    { clock := true, dict := true, nums := [0x120002, 0x120003, 0x120007, 0x300008, 0x411003, 0x411004], logs := true, vbat := true, recs := true,
      straps := true, journal := true, edges := true, flags := true }
  | .handoverConfirm .. =>
    { out := true, dict := true,
      nums := [0x120002, 0x120003, 0x120007, 0x30000B, 0x320003, 0x411003, 0x411004, 0x510001, 0x511001, 0x511008, 0x511009], logs := true,
      recs := true, sched := true, straps := true, journal := true, nodeQueues := true, lacing := true, edges := true, flags := true, reports := true }
  | .handoverStateRx .. => { recs := true }
  | .handoverHReached .. =>
    { out := true, clock := true, dict := true,
      nums := [0x120002, 0x120003, 0x120007, 0x320003, 0x411003, 0x411004, 0x510001, 0x511001, 0x511008, 0x511009], logs := true, vbat := true,
      girth := true, recs := true, sched := true, straps := true, journal := true, nodeQueues := true, arrivals := true, lacing := true, edges := true,
      flags := true }
  | .handoverFinalRx .. =>
    { clock := true, dict := true, nums := [0x120002, 0x120003, 0x120007, 0x320003, 0x411003, 0x411004, 0x510001, 0x511001, 0x511008, 0x511009],
      logs := true, vbat := true, recs := true, sched := true, straps := true, journal := true, arrivals := true, lacing := true, edges := true,
      flags := true }
  | .handoverForwardEnd .. => { clock := true, vbat := true, girth := true }
  | .handoverAbandon .. =>
    { dict := true, nums := [0x120002, 0x120003, 0x120007, 0x30000B, 0x411003, 0x411004, 0x510001, 0x511001, 0x511008, 0x511009], logs := true,
      recs := true, sched := true, straps := true, journal := true, nodeQueues := true, lacing := true, edges := true, flags := true, reports := true }
  | .farListMove .. => { clock := true, nums := [0x320003], vbat := true, sched := true }
  | .cellEndCharge .. =>
    { clock := true, dict := true, nums := [0x120002, 0x120003, 0x120007, 0x411003, 0x411004], logs := true, vbat := true, recs := true,
      straps := true, journal := true, edges := true, flags := true }
  | .schedRebuild =>
    { dict := true, nums := [0x120002, 0x120003, 0x120007, 0x320003, 0x411003, 0x411004], logs := true, recs := true, sched := true, straps := true,
      journal := true, edges := true, flags := true }
  | .dayStartChange .. => { clock := true, vbat := true, sched := true }
  | .cinchTick .. =>
    { dict := true, nums := [0x120002, 0x120003, 0x120007, 0x140105, 0x140106, 0x140107, 0x140110, 0x140201, 0x140209, 0x411003, 0x411004],
      logs := true, cinch := true, straps := true, journal := true, edges := true, flags := true }
  | .harnessFrameIn .. =>
    { draws := true, out := true, clock := true, dict := true,
      nums := [0x110108, 0x120002, 0x120003, 0x120007, 0x120010, 0x12001D, 0x400005, 0x400006, 0x400101, 0x400103, 0x402003, 0x402004, 0x411003,
        0x411004, 0x420002, 0x420105, 0x420107, 0x430015, 0x430016, 0x430017],
      logs := true, vbat := true, straps := true, journal := true, tables := true, halter := true, har := true, queues := true, arrivals := true,
      curb := true, edges := true, flags := true, reports := true }
  | .outputDequeue .. =>
    { draws := true, out := true, clock := true, chainPorts := true, dict := true,
      nums := [0x110108, 0x120002, 0x120003, 0x120007, 0x120010, 0x12001D, 0x30000B, 0x400102, 0x400103, 0x402003, 0x402004, 0x411003, 0x411004,
        0x420107, 0x420202],
      logs := true, vbat := true, girth := true, straps := true, journal := true, nodeQueues := true, har := true, queues := true, curb := true,
      edges := true, flags := true, reports := true }
  | .spillFetch .. => { har := true, queues := true }
  | .shaperCalendarFire .. => { clock := true, vbat := true, curb := true }
  | .curbSample .. => { clock := true, nums := [0x411003, 0x411004], vbat := true, straps := true, curb := true, flags := true }
  | .cxlTrained .. =>
    { clock := true, dict := true, nums := [0x120002, 0x120003, 0x120007, 0x30000B, 0x402003, 0x410001, 0x410002, 0x410004, 0x411003, 0x411004],
      logs := true, vbat := true, sched := true, sb := true, straps := true, journal := true, attached := true, nodeQueues := true, har := true,
      queues := true, edges := true, flags := true, reports := true }
  | .cxlRetrainStart => { nums := [0x410002, 0x410101], sb := true, edges := true }
  | .cxlRetrainDone .. => { clock := true, nums := [0x410002, 0x410102], vbat := true, sb := true, edges := true }
  | .cxlRetrainFail .. =>
    { out := true, clock := true, chainPorts := true, dict := true,
      nums := [0x110108, 0x120002, 0x120003, 0x120007, 0x30000B, 0x402003, 0x410002, 0x410103, 0x411003, 0x411004], logs := true, vbat := true,
      sched := true, sb := true, straps := true, journal := true, nodeQueues := true, har := true, queues := true, edges := true, flags := true,
      reports := true }
  | .sbAccessDone .. => { draws := true, out := true, chainPorts := true, nums := [0x110108, 0x410104], sb := true, attached := true }
  | .strapPush .. => { nums := [0x411003, 0x411004], straps := true, flags := true }
  | .strapMiddleWrite .. => { clock := true, nums := [0x140106, 0x140110, 0x320003], vbat := true, sched := true, cinch := true, sb := true, straps := true }
  | .strapMiddleRead .. =>
    { dict := true, nums := [0x120002, 0x120003, 0x120007, 0x410104, 0x411003, 0x411004, 0x411005, 0x411006], logs := true, straps := true,
      journal := true, edges := true, flags := true }
  | .weltClose .. =>
    { clock := true, dict := true, nums := [0x120002, 0x120003, 0x120007, 0x411003, 0x411004], logs := true, vbat := true, straps := true,
      journal := true, nodeQueues := true, edges := true, flags := true }
  | .pointerMismatch .. =>
    { dict := true, nums := [0x120002, 0x120003, 0x120007, 0x30000B, 0x411003, 0x411004, 0x411006], logs := true, straps := true, journal := true,
      nodeQueues := true, edges := true, flags := true, reports := true }
  | .downlinkEnqueue .. =>
    { dict := true, nums := [0x120002, 0x120003, 0x120007, 0x30000B, 0x411003, 0x411004, 0x420107], logs := true, straps := true, journal := true,
      nodeQueues := true, edges := true, flags := true, reports := true }
  | .downlinkHeadRead .. =>
    { dict := true, nums := [0x120002, 0x120003, 0x120007, 0x30000B, 0x410104, 0x411003, 0x411004, 0x411005, 0x411006], logs := true, straps := true,
      journal := true, nodeQueues := true, edges := true, flags := true, reports := true }
  | .holdDrain => { draws := true, nums := [0x402003, 0x402004, 0x411004], straps := true, har := true, queues := true, reports := true }
  | .journalRecordCommit .. => { nums := [0x410004], journal := true, attached := true }
  | .journalHeaderRewrite .. => { clock := true, vbat := true, journal := true, attached := true }
  | .brRead .. =>
    { dict := true, nums := [0x120002, 0x120003, 0x120007, 0x120010, 0x12001D, 0x411003, 0x411004], logs := true, straps := true, journal := true,
      tables := true, windows := true, edges := true, flags := true }
  | .haInsert .. =>
    { dict := true, nums := [0x120002, 0x120003, 0x120007, 0x120010, 0x12001D, 0x411003, 0x411004, 0x420104, 0x420105], logs := true, straps := true,
      journal := true, tables := true, windows := true, halter := true, edges := true, flags := true }
  | .halterAgeing .. => { clock := true, vbat := true, tables := true, halter := true }
  | .kGenerate => { draws := true, nums := [0x500002], keeper := true, tables := true, windows := true, edges := true, flags := true }
  | .kInvalidate => { keeper := true, tables := true, windows := true, edges := true, flags := true }
  | .orphanSweep => { nums := [0x500002], keeper := true }
  | .keeperProvision => { draws := true, nums := [0x500001, 0x500002], results := true, vbat := true, keeper := true }
  | .attest =>
    { dict := true, nums := [0x120002, 0x120003, 0x120007, 0x411003, 0x411004], results := true, logs := true, keeper := true, straps := true,
      journal := true, edges := true, flags := true }
  | .tamperDetect .. => { nums := [0x500001], vbat := true, keeper := true, tables := true, windows := true, edges := true, flags := true }
  | .tamperReport =>
    { dict := true, nums := [0x120002, 0x120003, 0x120007, 0x411003, 0x411004, 0x500001, 0x500002], results := true, logs := true, keeper := true,
      straps := true, journal := true, edges := true, flags := true }
  | .vbatLowZero => { vbat := true }
  | .campLoadDone .. =>
    { clock := true, dict := true, nums := [0x120002, 0x120003, 0x120007, 0x411003, 0x411004, 0x510001, 0x511001, 0x511008, 0x511009], results := true,
      logs := true, vbat := true, straps := true, journal := true, arrivals := true, lacing := true, edges := true, flags := true }
  | .announceResend .. => { clock := true, vbat := true, arrivals := true, lacing := true }
  | .burstPlanning .. =>
    { draws := true, clock := true, dict := true,
      nums := [0x120002, 0x120003, 0x120007, 0x140106, 0x140110, 0x411003, 0x411004, 0x510001, 0x510002, 0x511001], logs := true, vbat := true,
      sched := true, cinch := true, straps := true, journal := true, lacing := true, edges := true, flags := true }
  | .laceReportTake =>
    { dict := true, nums := [0x120002, 0x120003, 0x120007, 0x411003, 0x411004, 0x510001, 0x511001, 0x511008, 0x511009], logs := true, straps := true,
      journal := true, lacing := true, edges := true, flags := true }
  | .seatOk =>
    { dict := true, nums := [0x120002, 0x120003, 0x120007, 0x411003, 0x411004], results := true, logs := true, straps := true, journal := true,
      tree := true, edges := true, flags := true }
  | .rtcWrite .. => { clock := true, vbat := true }
  | .timeSnapshot .. => { clock := true, vbat := true, host := true }
  | .tpoArm .. =>
    { pins := true, pulses := true, dict := true, nums := [0x120002, 0x120003, 0x120007, 0x180201, 0x411003, 0x411004], logs := true, straps := true,
      journal := true, edges := true, flags := true }
  | .tpoParamWrite .. =>
    { pins := true, pulses := true, dict := true, nums := [0x120002, 0x120003, 0x120007, 0x180201, 0x180202, 0x180203, 0x180204, 0x411003, 0x411004],
      logs := true, straps := true, journal := true, edges := true, flags := true }
  | .tpoRise .. => { pins := true, clock := true, pulses := true, vbat := true, edges := true }
  | .tpoFall .. =>
    { pins := true, clock := true, pulses := true, dict := true, nums := [0x120002, 0x120003, 0x120007, 0x180201, 0x411003, 0x411004], logs := true,
      vbat := true, straps := true, journal := true, edges := true, flags := true }
  | .storeBufferDrain .. => { cores := true, locals := true }
  | .coreStopRequest .. => { clock := true, power := true, vbat := true, cores := true, locals := true }
  | .coreStart .. => { nums := [0x700101], results := true, power := true, cores := true }
  | .coreStop .. => { nums := [0x700101], results := true, power := true, cores := true, locals := true }
  | .strapPortPush .. => { nums := [0x411003, 0x411004], straps := true, cores := true, flags := true }
  | .strapPortPop .. =>
    { pins := true, dict := true, nums := [0x120002, 0x120003, 0x120007, 0x200001, 0x210007, 0x21001A, 0x411003, 0x411004], results := true,
      logs := true, power := true, ports := true, rxTiles := true, straps := true, journal := true, cores := true, edges := true, flags := true }
  | .hp9RxDeliver => { nums := [0x400102, 0x402003], har := true, cores := true, locals := true, reports := true }
  | .hp9TxTake .. =>
    { draws := true, out := true, clock := true, dict := true,
      nums := [0x110108, 0x120002, 0x120003, 0x120007, 0x120010, 0x12001D, 0x400005, 0x400006, 0x400101, 0x400103, 0x402003, 0x402004, 0x411003,
        0x411004, 0x420002, 0x420105, 0x420107, 0x430015, 0x430016, 0x430017],
      logs := true, vbat := true, straps := true, journal := true, tables := true, halter := true, har := true, queues := true, curb := true,
      cores := true, locals := true, edges := true, flags := true, reports := true }
  | .buckleEdge .. => { nums := [0x710003], buckle := true, edges := true }
  | .awlBuckleRaise .. => { edges := true }
  | .awlHostRaise .. => { flags := true }
  | .pcieLinkDown =>
    { chain := true, chainPorts := true, dict := true, nums := [0x110003, 0x110006, 0x110108, 0x120002, 0x120003, 0x120007, 0x411003, 0x411004],
      logs := true, straps := true, journal := true, edges := true, host := true, flags := true }
  | .functionLevelReset =>
    { dict := true, nums := [0x120002, 0x120003, 0x120007, 0x411003, 0x411004], logs := true, straps := true, journal := true, edges := true,
      host := true, flags := true }
  | .hostRxFrame .. => { out := true, clock := true, nums := [0x400102, 0x402003], vbat := true, har := true, host := true, flags := true, reports := true }
  | .txFrameFetch .. =>
    { draws := true, out := true, clock := true, dict := true,
      nums := [0x110108, 0x120002, 0x120003, 0x120007, 0x120010, 0x12001D, 0x400005, 0x400006, 0x400101, 0x400103, 0x402003, 0x402004, 0x411003,
        0x411004, 0x420002, 0x420105, 0x420107, 0x430015, 0x430016, 0x430017],
      logs := true, vbat := true, straps := true, journal := true, tables := true, halter := true, har := true, queues := true, curb := true,
      edges := true, host := true, flags := true, reports := true }
  | .dmaError .. =>
    { dict := true, nums := [0x120002, 0x120003, 0x120007, 0x402003, 0x411003, 0x411004], logs := true, straps := true, journal := true, har := true,
      edges := true, host := true, flags := true, reports := true }
  | .reportRecordWrite => { out := true, flags := true, reports := true }
  | .msixSend .. => { out := true, clock := true, vbat := true, host := true, flags := true }
  | .mbxResponseEnqueue => { chainPorts := true, host := true, flags := true }
  | .tpOpStart .. =>
    { pins := true, dict := true, nums := [0x120002, 0x120003, 0x120007, 0x200001, 0x210007, 0x21001A, 0x411003, 0x411004], results := true,
      logs := true, power := true, ports := true, rxTiles := true, straps := true, journal := true, tables := true, windows := true, edges := true,
      flags := true }
  | .nrWrite =>
    { pins := true, dict := true,
      nums := [0x120002, 0x120003, 0x120007, 0x12020D, 0x200001, 0x210007, 0x21001A, 0x220004, 0x30000B, 0x320003, 0x411003, 0x411004, 0x510001,
        0x511001, 0x511008, 0x511009],
      results := true, logs := true, power := true, ports := true, rxTiles := true, txTiles := true, recs := true, sched := true, keeper := true,
      straps := true, journal := true, nodeQueues := true, lacing := true, edges := true, host := true, flags := true, reports := true }
  | .lpcdMeasure .. =>
    { pins := true, clock := true, dict := true, nums := [0x120002, 0x120003, 0x120007, 0x200001, 0x210007, 0x21001A, 0x411003, 0x411004],
      results := true, logs := true, power := true, vbat := true, ports := true, rxTiles := true, straps := true, journal := true, concho := true,
      edges := true, flags := true }
  | .readerCycleEnd .. =>
    { draws := true, out := true, pins := true, clock := true, dict := true, nums := [0x120002, 0x120003, 0x120007, 0x411003, 0x411004, 0x600102],
      logs := true, vbat := true, straps := true, journal := true, concho := true, edges := true, flags := true }
  | .tagSessionEnd .. => { clock := true, nums := [0x600102], vbat := true, concho := true }
  | .tagSelect .. => { out := true, concho := true }
  | .tagReadBinary .. => { draws := true, out := true }
  | .tagUpdateBinary .. =>
    { draws := true, out := true, dict := true, nums := [0x120002, 0x120003, 0x120007, 0x411003, 0x411004], doms := true, logs := true, straps := true,
      journal := true, concho := true, edges := true, flags := true }
  | .tagVerify .. => { out := true, nums := [0x600102, 0x600108], concho := true }
  | .tagGetChallenge => { draws := true, out := true, concho := true }
  | .tagExternalAuth .. =>
    { out := true, dict := true, nums := [0x120002, 0x120003, 0x120007, 0x411003, 0x411004, 0x600102, 0x600108], logs := true, keeper := true,
      straps := true, journal := true, concho := true, edges := true, flags := true }
  | .tagUnknownIns => { out := true }
  | .tagDeselect => { nums := [0x600102], concho := true }
  | .fdNRelease .. => { pins := true, clock := true, vbat := true }
  | .pwrDwellEnd .. =>
    { pins := true, clock := true, dict := true, nums := [0x120002, 0x120003, 0x120007, 0x200001, 0x210007, 0x21001A, 0x411003, 0x411004],
      results := true, logs := true, power := true, vbat := true, ports := true, rxTiles := true, straps := true, journal := true, edges := true,
      flags := true }
  | .standbyWake .. =>
    { pins := true, dict := true, nums := [0x120002, 0x120003, 0x120007, 0x200001, 0x210007, 0x21001A, 0x411003, 0x411004], results := true,
      logs := true, power := true, ports := true, rxTiles := true, straps := true, journal := true, concho := true, edges := true, flags := true }
  | .retentionCommit .. =>
    { draws := true, out := true, pins := true, clock := true, pulses := true, chain := true, chainPorts := true, dict := true, anyNum := true,
      doms := true, results := true, logs := true, power := true, vbat := true, radio := true, ports := true, rxTiles := true, txTiles := true,
      girth := true, recs := true, sched := true, cinch := true, keeper := true, sb := true, straps := true, journal := true, attached := true,
      nodeQueues := true, tables := true, windows := true, halter := true, har := true, queues := true, arrivals := true, lacing := true, curb := true,
      concho := true, cores := true, locals := true, buckle := true, edges := true, host := true, flags := true, reports := true }
  | .coldStart .. =>
    { pins := true, clock := true, pulses := true, chain := true, chainPorts := true, dict := true, anyNum := true, doms := true, results := true,
      logs := true, power := true, vbat := true, radio := true, ports := true, rxTiles := true, txTiles := true, girth := true, recs := true,
      sched := true, cinch := true, keeper := true, sb := true, straps := true, journal := true, attached := true, nodeQueues := true, tables := true,
      windows := true, halter := true, har := true, queues := true, arrivals := true, lacing := true, tree := true, curb := true, concho := true,
      cores := true, locals := true, buckle := true, edges := true, host := true, flags := true, reports := true }
  | .watchdogRefresh => { power := true }
  | .vbatLost => { pins := true, nums := [0x140001], vbat := true }
  | .hostUnreachable .. =>
    { clock := true, dict := true, nums := [0x120002, 0x120003, 0x120007, 0x411003, 0x411004], logs := true, vbat := true, straps := true,
      journal := true, edges := true, host := true, flags := true }
  | .headSelChange .. =>
    { pins := true, chain := true, chainPorts := true, dict := true,
      nums := [0x110001, 0x110003, 0x110004, 0x110005, 0x110006, 0x110108, 0x120002, 0x120003, 0x120007, 0x411003, 0x411004], results := true,
      logs := true, sb := true, straps := true, journal := true, edges := true, host := true, flags := true }
  | .ethernetLinkChange .. => { har := true }
  | .calPartial .. =>
    { clock := true, dict := true, nums := [0x120002, 0x120003, 0x120007, 0x411003, 0x411004], doms := true, results := true, logs := true,
      vbat := true, radio := true, straps := true, journal := true, edges := true, flags := true }
  | .vbatSupplyRise => { nums := [0x140001], vbat := true }

end Sys2Proof.Machine
end

