-- ==== Sys2Proof/Certificates/Slice0/Obligations.lean ====
section
/-! DEFINITION. The statements for the provers, from the numbered rules of the spec. -/

set_option linter.unusedVariables false

open Sys2Proof Sys2Proof.Machine

/-- From R29 to R31, Table 2-1: signal leads to LOCKING, 64 sync headers to HELLO, a LINK frame of a partner in range to UP with the buffers of R31 as credits;
a partner of the same port name or out of range leaves the link in HELLO; an UP link takes the credits returned; any state but DOWN falls to
DOWN and counts. A LINK frame carries the credits owed.
From R29, R34, R48: a frame whose CRC-32C over header and payload is another than the one that came with it, or of a bad length or type, is dropped and
counted at its port; one for another device leaves by the other port with HOPS one less, or is counted in NO_ROUTE or HOP_EXPIRED; a partial frame
counts in
RX_ABORT in HELLO and UP, and gives its units back in UP; a frame of lane 0 whose credits are held leaves first and takes them, and where it was in transit
its units return to the partner of the port it came in by. The order of the header's bytes under the CRC is the model's choice (log 107).
For each of these commands it concludes that exec answers a next state (`Gives`), on conditions of state and operands alone:
linkSignalDetected, linkLocked, linkFrameTx, linkFrameRx, linkDown, chainFrameRx, chainFrameAbort, chainFrameTx. -/
def Obligations.ChainLinksAndFrames : Prop :=
  (∀ p s, s.alive = true → s.link p = 0 → Gives (exec (.linkSignalDetected p) s) fun t => t.link p = 1) ∧
  (∀ p s, s.link p = 1 → Gives (exec (.linkLocked p) s) fun t =>
    t.link p = 2 ∧ ∃ f m, t.out = .chain p f :: s.out ∧ f.body = .link m ∧ m.eui = s.ident.eui64 ∧ m.port = p) ∧
  (∀ p s, 2 ≤ s.link p → Gives (exec (.linkFrameTx p) s) fun t =>
    (∃ f m, t.out = .chain p f :: s.out ∧ f.body = .link m ∧ m.credits = (s.cport p).owed) ∧ (t.cport p).owed = #v[0, 0, 0, 0] ∧
    (t.cport p).credits = (s.cport p).credits) ∧
  (∀ p m s, s.link p = 2 → m.port ≠ p → (s.partnerRange).1 ≤ m.level → m.level ≤ (s.partnerRange).2 →
    Gives (exec (.linkFrameRx p m) s) fun t => t.link p = 3 ∧ (t.cport p).credits = initialCredits) ∧
  (∀ p m s, s.link p = 2 → (m.port = p ∨ m.level < (s.partnerRange).1 ∨ (s.partnerRange).2 < m.level) →
    Gives (exec (.linkFrameRx p m) s) fun t => t.link p = 2) ∧
  (∀ p m s, s.link p = 3 → Gives (exec (.linkFrameRx p m) s) fun t =>
    t.link p = 3 ∧ (t.cport p).credits = addCredits (s.cport p).credits m.credits) ∧
  (∀ p s, s.link p ≠ 0 → Gives (exec (.linkDown p) s) fun t =>
    t.link p = 0 ∧ t.rd (Key.linkDownEvents (sideNum p)) = satAdd u32Max (s.rd (Key.linkDownEvents (sideNum p))) 1) ∧
  (∀ p s, s.link p = 0 → Gives (exec (.linkDown p) s) fun t => t = s) ∧
  (∀ p f bs crc s, s.alive = true → s.linkUp p = true → frameCrc f bs ≠ crc.toNat → Gives (exec (.chainFrameRx p f bs crc) s) fun t =>
    t.rd (Key.rxCrcErr (sideNum p)) = satAdd u32Max (s.rd (Key.rxCrcErr (sideNum p))) 1 ∧ t.cport p.other = s.cport p.other) ∧
  (∀ p f bs crc s, s.alive = true → s.linkUp p = true → frameCrc f bs = crc.toNat → (2048 < f.length ∨ f.length ≠ bs.length) →
    Gives (exec (.chainFrameRx p f bs crc) s) fun t =>
    t.rd (Key.rxLenBad (sideNum p)) = satAdd u32Max (s.rd (Key.rxLenBad (sideNum p))) 1 ∧ t.cport p.other = s.cport p.other) ∧
  (∀ p f bs crc s, s.alive = true → s.linkUp p = true → frameCrc f bs = crc.toNat → f.length = bs.length → f.length ≤ 2048 → 12 < f.typ →
    Gives (exec (.chainFrameRx p f bs crc) s) fun t =>
    t.rd (Key.typeBad (sideNum p)) = satAdd u32Max (s.rd (Key.typeBad (sideNum p))) 1 ∧ t.cport p.other = s.cport p.other) ∧
  (∀ p f bs crc s, s.alive = true → s.linkUp p = true → frameCrc f bs = crc.toNat → f.length = bs.length → f.length ≤ 2048 → f.typ ≤ 12 →
    hopByHop f.typ = false → f.dst ≠ dstAll → s.forMe f = false →
    Gives (exec (.chainFrameRx p f bs crc) s) fun t =>
      if f.hops = 0 then t.rd (Key.hopExpired (sideNum p)) = satAdd u32Max (s.rd (Key.hopExpired (sideNum p))) 1 ∧ t.cport p.other = s.cport p.other
      else if s.linkUp p.other = true then (t.cport p.other).out = (s.cport p.other).out ++ [{ f with hops := f.hops - 1 }]
      else t.rd (Key.noRoute (sideNum p.other)) = satAdd u32Max (s.rd (Key.noRoute (sideNum p.other))) 1 ∧ t.cport p.other = s.cport p.other) ∧
  (∀ p lane units blocks lockLost s, 2 ≤ s.link p → (lockLost = true ∨ s.rd Key.chainIdleBlocks ≤ blocks) →
    Gives (exec (.chainFrameAbort p lane units blocks lockLost) s) fun t =>
      t.rd (Key.rxAbort (sideNum p)) = satAdd u32Max (s.rd (Key.rxAbort (sideNum p))) 1 ∧
      (t.cport p).ignoring = true ∧
      (t.cport p).owed = if s.linkUp p = true then vmod (fun n => n + units) lane (s.cport p).owed else (s.cport p).owed) ∧
  (∀ p dt i f s, s.linkUp p = true → laneReady (s.cport p) 0 = some (i, f) →
    Gives (exec (.chainFrameTx p dt) s) fun t =>
      (∃ g, t.out = .chain p g :: s.out ∧ g.dst = f.dst ∧ g.typ = f.typ) ∧ (t.cport p).out = removeAt i (s.cport p).out ∧
      (t.cport p).credits = vmod (fun c => c - unitsOf f.length) 0 (s.cport p).credits ∧
      (t.cport p.other).owed = if frameOwn f = true then (s.cport p.other).owed
        else vmod (fun n => n + unitsOf f.length) 0 (s.cport p.other).owed)

/-- From R37, R39, R41 to R43: a SURVEY passes on with one more device and the pin of a pinned device; its return sends ASSIGN; an
ASSIGN gives the claimed or offered number, and an offer above 63 leaves 0xFF; its return ends the enumeration; a link that
reached UP starts one unless a PREPARE is pending; a command starts one; a pass that takes 1 ms is tried again, three times.
For each of these commands it concludes that exec answers a next state (`Gives`), on conditions of state and operands alone:
surveyRx, surveyReturn, assignRx, assignReturn, enumAutoStart, chainEnumIncremental, chainEnumFull, enumPassTimeout. -/
def Obligations.ChainEnumeration : Prop :=
  (∀ p m s, s.linkUp p = true → s.linkUp p.other = true → s.headCandidate = false → s.rd Key.chainRole ≠ 1 → s.addr = 0xFF →
    1 ≤ s.rd Key.chainPin → s.rd Key.chainPin ≤ 63 → bitOf m.mask (s.rd Key.chainPin) = false → Gives (exec (.surveyRx p m) s) fun t =>
      t.chain.claim = some (s.rd Key.chainPin) ∧ ∃ f, (t.cport p.other).out = (s.cport p.other).out ++ [f] ∧
        f.body = .survey { m with mask := m.mask + 2 ^ s.rd Key.chainPin, count := m.count + 1 }) ∧
  (∀ p m s, s.linkUp p = true → s.linkUp p.other = true → s.headCandidate = false → s.rd Key.chainRole ≠ 1 → s.addr = 0xFF →
    s.rd Key.chainPin = 0xFF → Gives (exec (.surveyRx p m) s) fun t =>
      t.addr = 0xFF ∧ t.chain.claim = none ∧ ∃ f, (t.cport p.other).out = (s.cport p.other).out ++ [f] ∧
        f.body = .survey { m with count := m.count + 1 }) ∧
  (∀ m r s, s.chain.enumRun = some r → s.rd Key.chainEnumState = 1 → s.linkUp r.dir = true → Gives (exec (.surveyReturn r.dir m true) s) fun t =>
    t.rd Key.chainRole = 1 ∧ t.rd Key.chainEnumState = 2 ∧ ∃ f a, (t.cport r.dir).out = (s.cport r.dir).out ++ [f] ∧ f.body = .assign a) ∧
  (∀ p m a s, s.linkUp p = true → s.chain.enumRun = none → s.chain.claim = some a → Gives (exec (.assignRx p m) s) fun t => t.addr = a) ∧
  (∀ p m s, s.linkUp p = true → s.chain.enumRun = none → s.chain.claim = none → s.rd Key.chainRole ≠ 1 → s.addr = 0xFF → Gives (exec (.assignRx p m) s) fun t =>
    t.addr = if m.offer ≤ 63 then m.offer else 0xFF) ∧
  (∀ m map r s, s.chain.enumRun = some r → s.rd Key.chainEnumState = 2 → Gives (exec (.assignReturn r.dir.other m false map) s) fun t =>
    t.chain.enumRun = none ∧ t.rd Key.chainEnumState = 0 ∧ t.rd Key.chainRing = 1 ∧ t.chain.topo.head = s.addr) ∧
  (∀ s, s.enumDue = true → s.prepared = true → Gives (exec .enumAutoStart s) fun t => t.rd Key.chainEnumState = 3 ∧ t.chain.enumRun = none) ∧
  (∀ s, s.enumDue = true → s.prepared = false → s.linkUp .dn = true → Gives (exec .enumAutoStart s) fun t =>
    t.rd Key.chainEnumState = 1 ∧ ∃ f m, (t.cport .dn).out = (s.cport .dn).out ++ [f] ∧ f.body = .survey m ∧ m.count = 1) ∧
  (∀ s, s.cmdBlocked Key.chainEnumRes = false → s.rd Key.chainRole = 1 → s.prepared = false → s.linkUp .dn = true →
    Gives (exec .chainEnumIncremental s) fun t => t.rd Key.chainEnumState = 1 ∧ (t.res Key.chainEnumRes).busy = true) ∧
  (∀ s, s.cmdBlocked Key.chainEnumRes = false → s.rd Key.chainRole = 1 → s.prepared = false → s.linkUp .dn = true →
    Gives (exec .chainEnumFull s) fun t => t.rd Key.chainEnumState = 1 ∧ (t.res Key.chainEnumRes).busy = true ∧
      ∃ f m, (t.cport .dn).out = (s.cport .dn).out ++ [f] ∧ f.body = .survey m ∧ m.full = true ∧ m.mask = 1) ∧
  (∀ map dt r s, s.chain.enumRun = some r → r.started + ms 1 ≤ (s.advance dt).elapsed → r.attempts < 3 → s.linkUp .dn = true →
    Gives (exec (.enumPassTimeout map dt) s) fun t => t.rd Key.chainEnumState = 1 ∧ ∃ q, t.chain.enumRun = some q ∧ q.attempts = r.attempts + 1) ∧
  (∀ map dt r s, s.chain.enumRun = some r → r.started + ms 1 ≤ (s.advance dt).elapsed → 3 ≤ r.attempts →
    Gives (exec (.enumPassTimeout map dt) s) fun t => t.rd Key.chainEnumState = 0 ∧ t.chain.enumRun = none ∧ t.rd Key.chainRing = 0)

/-- From R44 to R47: a member takes the map; a head broadcasts HEAD; a standby head that hears HEAD waits anew, and takes over when
it is relinquished, when HEAD frames are missed, or at a switchover, keeping its address; the lower-ranked of two heads yields.
For each of these commands it concludes that exec answers a next state (`Gives`), on conditions of state and operands alone:
topoRx, headBroadcast, headRx, headMissTakeover, chainSwitchover. -/
def Obligations.ChainHeads : Prop :=
  (∀ p m s, s.linkUp p = true → s.rd Key.chainRole ≠ 1 → s.headCandidate = false → Gives (exec (.topoRx p (.map m)) s) fun t => t.chain.topo = m) ∧
  (∀ s, s.rd Key.chainRole = 1 → s.addr ≠ 0xFF → s.ringIntact = true → s.linkUp .dn = true → Gives (exec .headBroadcast s) fun t =>
    ∃ f, (t.cport .dn).out = (s.cport .dn).out ++ [f] ∧ f.dst = dstAll ∧ f.typ = 5) ∧
  (∀ p m s, s.linkUp p = true → s.addr ≠ 0xFF → s.rd Key.chainRole = 2 → m.rank.eui ≠ s.ident.eui64 → m.relinquish = false →
    Gives (exec (.headRx p m) s) fun t => t.chain.headAt = s.elapsed ∧ t.rd Key.chainRole = 2) ∧
  (∀ p m s, s.linkUp p = true → s.addr ≠ 0xFF → s.rd Key.chainRole = 2 → m.rank.eui ≠ s.ident.eui64 → m.relinquish = true → s.host.linkUp = true →
    Gives (exec (.headRx p m) s) fun t => t.rd Key.chainRole = 1 ∧ t.addr = s.addr ∧ t.chain.topo.head = s.addr) ∧
  (∀ p m s, s.linkUp p = true → s.addr ≠ 0xFF → s.rd Key.chainRole = 1 → m.rank.eui ≠ s.ident.eui64 → m.relinquish = false →
    s.host.linkUp = true → rankAbove m.rank s.rank = true → Gives (exec (.headRx p m) s) fun t =>
      t.rd Key.chainRole = 2 ∧ t.addr = s.addr ∧ t.chain.topo.head = m.addr) ∧
  (∀ dt s, s.rd Key.chainRole = 2 → s.host.linkUp = true → s.chain.headAt + ms (s.rd Key.chainHeadMiss) ≤ (s.advance dt).elapsed →
    Gives (exec (.headMissTakeover dt) s) fun t => t.rd Key.chainRole = 1 ∧ t.addr = s.addr ∧ t.chain.topo.head = s.addr) ∧
  (∀ s, s.cmdBlocked Key.chainSwitchoverRes = false → s.rd Key.chainRole = 2 → s.host.linkUp = true → Gives (exec .chainSwitchover s) fun t =>
    t.rd Key.chainRole = 1 ∧ t.addr = s.addr ∧ (t.res Key.chainSwitchoverRes).outcome = 1) ∧
  (∀ s, s.cmdBlocked Key.chainSwitchoverRes = false → s.rd Key.chainRole = 1 → s.headReached false = true → Gives (exec .chainSwitchover s) fun t =>
    t.rd Key.chainRole = 2 ∧ t.addr = s.addr ∧ (t.res Key.chainSwitchoverRes).outcome = 1)

/-- From R51, R440, R54, R55: the four stamps give the link delay; TIME goes out on the port that does not lead to the head; requests that break the limits
or name an absent device end at once, others open a transaction with a TAG never used before; a response or its timeout ends it.
For each of these commands it concludes that exec answers a next state (`Gives`), on conditions of state and operands alone:
delayMeasure, delayReqRx, delayRspRx, timeFrameTx, timeFrameRx, sbReqIssue, sbRspRx, sbTimeout. -/
def Obligations.ChainMeasuresAndMemory : Prop :=
  (∀ p t1 s, s.linkUp p = true → Gives (exec (.delayMeasure p t1) s) fun t =>
    (t.cport p).t1 = some t1 ∧ ∃ f, (t.cport p).out = (s.cport p).out ++ [f] ∧ f.body = .delayReq t1) ∧
  (∀ p t1 t2 t3 s, s.linkUp p = true → Gives (exec (.delayReqRx p t1 t2 t3) s) fun t =>
    ∃ f, (t.cport p).out = (s.cport p).out ++ [f] ∧ f.body = .delayRsp t1 t2 t3) ∧
  (∀ p t1 t2 t3 t4 s, s.linkUp p = true → (s.cport p).t1 = some t1 → t1 ≤ t4 → t2 ≤ t3 → t3 - t2 ≤ t4 - t1 →
    Gives (exec (.delayRspRx p t1 t2 t3 t4) s) fun t =>
      t.rd (Key.linkDelayNs (sideNum p)) = min (((t4 - t1) - (t3 - t2)) / 2) 20000 ∧ (t.cport p).t1 = none ∧
      ((t.cport p).long = true ↔ 20000 < ((t4 - t1) - (t3 - t2)) / 2)) ∧
  (∀ p s, s.isHead = true → s.linkUp p = true → Gives (exec (.timeFrameTx p) s) fun t =>
    ∃ f m, (t.cport p).out = (s.cport p).out ++ [f] ∧ f.body = .time m ∧ m.hops = 0) ∧
  (∀ p m dt s, (s.advance dt).timeRejects p m = false → Gives (exec (.timeFrameRx p m dt) s) fun t => t.clock.stepGen = m.stepGen) ∧
  (∀ p m dt s, (s.advance dt).timeRejects p m = true → Gives (exec (.timeFrameRx p m dt) s) fun t => t = s.advance dt) ∧
  (∀ r s, sbReqOk r = false → Gives (exec (.sbReqIssue r) s) fun t => t.chain = s.chain ∧ t.out = .saddlebag 0 none [] :: s.out) ∧
  (∀ r s, sbReqOk r = true → sbDevice r.addr = s.addr → s.rd Key.sbAttached < sbOffset r.addr + r.len →
    Gives (exec (.sbReqIssue r) s) fun t => t.chain = s.chain ∧ t.out = .saddlebag 0 (some .unmapped) [] :: s.out) ∧
  (∀ r s, sbReqOk r = true → sbDevice r.addr ≠ s.addr → (topoPos s.chain.topo (sbDevice r.addr)).isNone = true →
    Gives (exec (.sbReqIssue r) s) fun t => t.chain = s.chain ∧ t.out = .saddlebag 0 none [] :: s.out) ∧
  (∀ r s, sbReqOk r = true → sbDevice r.addr ≠ s.addr → s.addr ≠ 0xFF → (topoPos s.chain.topo (sbDevice r.addr)).isSome = true →
    Gives (exec (.sbReqIssue r) s) fun t => t.chain.nextTag = (s.chain.nextTag + 1) % 2 ^ 32 ∧
      t.chain.opens = s.chain.opens ++ [{ tag := s.chain.nextTag, req := r, sentAt := s.elapsed }]) ∧
  (∀ tag code bytes s, Gives (exec (.sbRspRx tag code bytes) s) fun t =>
    if s.chain.opens.any (fun o => o.tag == tag) then
      t.chain.opens = s.chain.opens.filter (fun o => o.tag != tag) ∧ t.out = .saddlebag tag (some code) bytes :: s.out
    else t.chain.late = s.chain.late + 1 ∧ t.out = s.out) ∧
  (∀ tag dt o s, s.chain.opens.find? (fun o => o.tag == tag) = some o → o.sentAt + us (s.rd Key.chainSbTimeoutUs) ≤ (s.advance dt).elapsed →
    Gives (exec (.sbTimeout tag dt) s) fun t =>
      t.chain.opens = s.chain.opens.filter (fun o => o.tag != tag) ∧ t.out = .saddlebag tag none [] :: s.out)

/-- From R59, R61, R64, R70, R72: a READ answers with the values, a READ of an absent index with NO_OBJECT; a WRITE of one RW subentry stores the checked
value and answers OK or CLAMPED with its report, or, where a field is rejected, stores nothing and answers REJECTED. The
NO_ROUTE counters are left out of what stays: an answer that finds no route counts there.
From R61, R82: READ_BLOCK answers with the live bytes from OFFSET, END where they run short; a WRITE_BLOCK at OFFSET 0 opens a staging copy and leaves
the live
object; one to the targets of a campaign that is not open gets REJECTED; a block at another OFFSET without a copy gets STAGE_LOST; an idle copy is
abandoned.
For each of these commands it concludes that exec answers a next state (`Gives`), on conditions of state and operands alone:
read, write, readBlock, writeBlock, blockIdleExpiry. -/
def Obligations.DictAccess : Prop :=
  (∀ via a l s, s.Takes via a 1 → a.txn = 0 → namedRows a = .inr l → l.any (fun r => r.ty == .domain) = false →
    Gives (exec (.read via a) s) fun t => t.out = .access via (respond a 0 (s.readBytes a a.subindex l)) :: s.out) ∧
  (∀ via a s, s.Takes via a 1 → a.txn = 0 → Dict.present a.index = false →
    Gives (exec (.read via a) s) fun t => t.out = .access via (respond a 0x10 []) :: s.out ∧ s.SameNumbers t []) ∧
  (∀ via a r s, s.Takes via a 2 → a.txn = 0 → namedRows a = .inr [r] → r.acc = .rw → r.ty ≠ .domain → a.payload.length = r.ty.size →
    plainIndex a.index = true → (s.check (s.stands []) r a.index a.subindex (leNat a.payload)).rejected = 0 →
    (s.check (s.stands []) r a.index a.subindex (leNat a.payload)).log = [] →
    Gives (exec (.write via a) s) fun t =>
      t.rd (keyOf a.index a.subindex) = (s.check (s.stands []) r a.index a.subindex (leNat a.payload)).stored ∧
      s.SameNumbers t [keyOf a.index a.subindex] ∧
      ((s.check (s.stands []) r a.index a.subindex (leNat a.payload)).clamped = 0 → t.out = .access via (respond a 0 []) :: s.out)) ∧
  (∀ via a r s, s.Takes via a 2 → a.txn = 0 → namedRows a = .inr [r] → r.acc = .rw → r.ty ≠ .domain → a.payload.length = r.ty.size →
    (s.check (s.stands []) r a.index a.subindex (leNat a.payload)).rejected ≠ 0 →
    Gives (exec (.write via a) s) fun t => s.SameNumbers t [] ∧
      t.out = .access via (respond a 0x14 (leBytes 4 (s.check (s.stands []) r a.index a.subindex (leNat a.payload)).rejected)) :: s.out) ∧
  (∀ via a r s, s.Takes via a 3 → a.txn = 0 → namedRows a = .inr [r] → r.ty = .domain → r.acc ≠ .wo →
    Gives (exec (.readBlock via a) s) fun t =>
      let d := ((s.domainBytes a.index a.subindex r).drop a.offset).take a.length
      t.out = .access via (respond a (if d.length < a.length then 4 else 0) d) :: s.out) ∧
  (∀ via a r s, s.Takes via a 4 → a.txn = 0 → namedRows a = .inr [r] → s.blockAbsent a.index r = false → s.campClosed a.index = false → a.offset = 0 →
    a.last = false → keyOf a.index a.subindex ≠ Key.treeImage → keyOf a.index a.subindex ≠ Key.nodeWin → s.dict.transfers = [] → a.payload.length ≤ r.maxLen →
    Gives (exec (.writeBlock via a) s) fun t =>
      t.out = .access via (respond a 0 []) :: s.out ∧ t.dict.doms = s.dict.doms ∧
      t.dict.transfers.map (fun x => (x.origin, x.key, x.staged)) = [(a.origin, keyOf a.index a.subindex, a.payload)]) ∧
  (∀ via a r s, s.Takes via a 4 → a.txn = 0 → namedRows a = .inr [r] → s.blockAbsent a.index r = false → s.campClosed a.index = true →
    Gives (exec (.writeBlock via a) s) fun t => t.out = .access via (respond a 0x14 []) :: s.out ∧ t.dict.doms = s.dict.doms ∧ s.SameNumbers t []) ∧
  (∀ via a r s, s.Takes via a 4 → a.txn = 0 → namedRows a = .inr [r] → s.blockAbsent a.index r = false → s.campClosed a.index = false → a.offset ≠ 0 →
    s.transferOf a.origin (keyOf a.index a.subindex) = none →
    Gives (exec (.writeBlock via a) s) fun t => t.out = .access via (respond a 0x22 []) :: s.out ∧ t.dict.doms = s.dict.doms ∧ t.dict.transfers = s.dict.transfers) ∧
  (∀ origin key dt x s, s.transferOf origin key = some x → x.lastBlock + ms (s.rd Key.dictBlockIdleMs) ≤ (s.advance dt).elapsed →
    Gives (exec (.blockIdleExpiry origin key dt) s) fun t => t.dict.transfers = s.dict.transfers.filter (fun y => y.key != key) ∧ t.dict.doms = s.dict.doms)

/-- From Table 3-8, R88, R90: a WRITE of an RWE subentry opens a transaction and leaves the active value; PREPARE of it checks and prepares; COMMIT before the
epoch arms it; at the epoch it applies and is recorded; ABORT discards it; an unknown COMMIT gets NOT_PREPARED; an idle or uncommitted one expires.
For each of these commands it concludes that exec answers a next state (`Gives`), on conditions of state and operands alone:
write, prepare, commit, abort, epochApply, txnIdleExpiry, commitGraceExpiry, graceEnd. -/
def Obligations.DictTransactions : Prop :=
  (∀ via a r s, s.Takes via a 2 → a.txn ≠ 0 → s.dict.txn = none → namedRows a = .inr [r] → r.acc = .rwe → r.ty ≠ .domain → a.payload.length = r.ty.size →
    (s.check (s.stands []) r a.index a.subindex (leNat a.payload)).rejected = 0 →
    (s.check (s.stands []) r a.index a.subindex (leNat a.payload)).log = [] →
    Gives (exec (.write via a) s) fun t => s.SameNumbers t [] ∧ ∃ x, t.dict.txn = some x ∧ x.origin = a.origin ∧ x.txn = a.txn ∧ x.phase = .opened ∧
      x.staged = [(keyOf a.index a.subindex, (s.check (s.stands []) r a.index a.subindex (leNat a.payload)).stored)]) ∧
  (∀ via a x s, s.Takes via a 5 → a.txn ≠ 0 → s.dict.txn = some x → x.origin = a.origin → x.txn = a.txn → x.phase = .opened → a.payload.length = 10 →
    s.nowNs + 1000000 ≤ timeNs (rawToTime (leNat a.payload)) → timeNs (rawToTime (leNat a.payload)) ≤ s.nowNs + 1000000000 * s.rd Key.dictEpochMaxS →
    (∀ p ∈ x.staged, s.stagedMask x.staged p = 0) →
    Gives (exec (.prepare via a) s) fun t => t.out = .access via (respond a 0 []) :: s.out ∧ s.SameNumbers t [] ∧
      ∃ y, t.dict.txn = some y ∧ y.phase = .prepared ∧ y.epoch = rawToTime (leNat a.payload) ∧ y.staged = x.staged) ∧
  (∀ via a x s, s.Takes via a 5 → a.txn ≠ 0 → s.dict.txn = some x → x.origin = a.origin → x.txn = a.txn → x.phase = .opened → a.payload.length = 10 →
    timeNs (rawToTime (leNat a.payload)) < s.nowNs + 1000000 →
    Gives (exec (.prepare via a) s) fun t => t.out = .access via (respond a 0x34 []) :: s.out) ∧
  (∀ via a x s, s.Takes via a 5 → a.txn ≠ 0 → s.dict.txn = some x → x.origin = a.origin → x.txn = a.txn → x.phase = .opened → a.payload.length = 10 →
    s.nowNs + 1000000 ≤ timeNs (rawToTime (leNat a.payload)) → s.nowNs + 1000000000 * s.rd Key.dictEpochMaxS < timeNs (rawToTime (leNat a.payload)) →
    Gives (exec (.prepare via a) s) fun t => t.out = .access via (respond a 0x35 []) :: s.out) ∧
  (∀ via a x s, s.Takes via a 6 → a.txn ≠ 0 → s.dict.txn = some x → x.origin = a.origin → x.txn = a.txn → x.phase = .prepared → s.nowNs < timeNs x.epoch →
    s.rd Key.chainEnumState ≠ 3 →
    Gives (exec (.commit via a) s) fun t => t.out = .access via (respond a 0 []) :: s.out ∧ s.SameNumbers t [] ∧
      ∃ y, t.dict.txn = some y ∧ y.phase = .armed ∧ y.epoch = x.epoch ∧ y.staged = x.staged) ∧
  (∀ via a s, s.Takes via a 6 → s.dict.txn = none → s.txnRecorded a.origin a.txn = none →
    Gives (exec (.commit via a) s) fun t => t.out = .access via (respond a 0x33 []) :: s.out ∧ s.SameNumbers t []) ∧
  (∀ via a x s, s.Takes via a 7 → a.txn ≠ 0 → s.dict.txn = some x → x.origin = a.origin → x.txn = a.txn → s.rd Key.chainEnumState ≠ 3 →
    Gives (exec (.abort via a) s) fun t => t.out = .access via (respond a 0 []) :: s.out ∧ s.SameNumbers t [] ∧ t.dict.txn = none ∧
      t.txnRecorded a.origin a.txn = some .aborted) ∧
  (∀ dt x s, s.dict.txn = some x → x.phase = .armed → timeNs x.epoch ≤ (s.advance dt).nowNs →
    Gives (exec (.epochApply dt) s) fun t => t.dict.txn = none ∧ t.txnRecorded x.origin x.txn = some .applied) ∧
  (∀ dt x s, s.dict.txn = some x → x.phase = .opened → x.lastReq + ms (s.rd Key.dictTxnIdleMs) ≤ (s.advance dt).elapsed →
    Gives (exec (.txnIdleExpiry dt) s) fun t => t.dict.txn = none ∧ t.txnRecorded x.origin x.txn = some .expired) ∧
  (∀ dt x s, s.dict.txn = some x → x.phase = .prepared → timeNs x.epoch + 1000000 * s.rd Key.dictCommitGraceMs ≤ (s.advance dt).nowNs →
    Gives (exec (.commitGraceExpiry dt) s) fun t => t.dict.txn = none ∧ t.txnRecorded x.origin x.txn = some .expired) ∧
  (∀ tenant dt g s, s.dict.graces.find? (fun g => g.tenant == tenant) = some g → g.endsAt ≤ (s.advance dt).nowNs →
    Gives (exec (.graceEnd tenant dt) s) fun t => t.dict.graces = s.dict.graces.filter (fun h => h.tenant != tenant))

/-- From R75, R80, R81: a subscription is held and its event carries the next REQ_ID; a response ends the request it answers; a request without one is sent
again, and in the end answered TIMEOUT.
From R67, R85, R103: a store takes the present values and an erase none, each in effect once the bank C write ends; clearing a log empties it; the
result of each run says done.
For each of these commands it concludes that exec answers a next state (`Gives`), on conditions of state and operands alone:
notify, notifyEventSend, dictResponseRx, dictRetryTimeout, dictStore, dictErase, dictStoreDone, clampLogClear, errLogClear. -/
def Obligations.DictAskingAndStores : Prop :=
  (∀ via a s, s.Takes via a 8 → a.txn = 0 → a.sub = true → a.payload.length = 4 → s.dict.subs = [] → 100 ≤ leNat a.payload → leNat a.payload ≤ 10000000 →
    (∃ r, namedRows a = .inr [r] ∧ r.ty ≠ .domain) →
    Gives (exec (.notify via a) s) fun t => t.out = .access via (respond a 0 []) :: s.out ∧
      t.dict.subs.map (fun x => (x.via, x.origin, x.key, x.intervalUs, x.count)) = [(via, a.origin, keyOf a.index a.subindex, leNat a.payload, 0)]) ∧
  (∀ slot dt x s, s.dict.subs[slot]? = some x → x.lastSent = none → (s.advance dt).watched x.key ≠ x.seen →
    Gives (exec (.notifyEventSend slot dt) s) fun t => (∃ e, t.out = .notify x.via e :: s.out ∧ e.reqId = (x.count + 1) % 65536 ∧ e.index = x.key / 256) ∧
      ∃ y, t.dict.subs[slot]? = some y ∧ y.count = (x.count + 1) % 65536) ∧
  (∀ src a x s, s.alive = true → a.crcOk = true →
    s.dict.asked.find? (fun x => x.dest == src && x.frame.origin == a.origin && x.frame.reqId == a.reqId) = some x →
    Gives (exec (.dictResponseRx src a) s) fun t => t.out = .access x.via { a with resp := true } :: s.out ∧
      t.dict.asked = s.dict.asked.filter (fun y => !(y.dest == src && y.frame.origin == a.origin && y.frame.reqId == a.reqId))) ∧
  (∀ slot dt x s, s.dict.asked[slot]? = some x → x.sentAt + us (s.rd Key.dictTimeoutUs) ≤ (s.advance dt).elapsed → x.resends < s.rd Key.dictRetries →
    Gives (exec (.dictRetryTimeout slot dt) s) fun t => t.out = s.out ∧ ∃ y, t.dict.asked[slot]? = some y ∧ y.resends = x.resends + 1 ∧ y.frame = x.frame) ∧
  (∀ slot dt x s, s.dict.asked[slot]? = some x → x.sentAt + us (s.rd Key.dictTimeoutUs) ≤ (s.advance dt).elapsed → s.rd Key.dictRetries ≤ x.resends →
    Gives (exec (.dictRetryTimeout slot dt) s) fun t => t.out = .access x.via (respond x.frame 0x42 []) :: s.out ∧ t.dict.asked = removeAt slot s.dict.asked) ∧
  (∀ s, s.cmdBlocked Key.dictStoreRes = false → Gives (exec .dictStore s) fun t =>
    t.dict.storing = some (some s.defaultsNow) ∧ t.dict.bankC = s.dict.bankC ∧ (t.res Key.dictStoreRes).busy = true) ∧
  (∀ s, s.cmdBlocked Key.dictStoreRes = false → Gives (exec .dictErase s) fun t =>
    t.dict.storing = some none ∧ t.dict.bankC = s.dict.bankC ∧ (t.res Key.dictStoreRes).busy = true) ∧
  (∀ set s, s.dict.storing = some set → Gives (exec (.dictStoreDone true) s) fun t =>
    t.dict.bankC = set ∧ t.dict.storing = none ∧ (t.res Key.dictStoreRes).outcome = 1 ∧ (t.res Key.dictStoreRes).busy = false) ∧
  (∀ set s, s.dict.storing = some set → Gives (exec (.dictStoreDone false) s) fun t =>
    t.dict.bankC = s.dict.bankC ∧ (t.res Key.dictStoreRes).outcome = 2 ∧ (t.res Key.dictStoreRes).code = 1) ∧
  (∀ s, s.cmdBlocked Key.clampLogClearRes = false → Gives (exec .clampLogClear s) fun t =>
    t.dict.clampLog = [] ∧ t.rd Key.clampLogNext = 0 ∧ t.rd Key.clampTotal = s.rd Key.clampTotal ∧ (t.res Key.clampLogClearRes).outcome = 1) ∧
  (∀ s, s.cmdBlocked Key.errLogClearRes = false → Gives (exec .errLogClear s) fun t =>
    t.dict.errLog = [] ∧ t.rd Key.errLogNext = 0 ∧ t.rd Key.errTotal = s.rd Key.errTotal ∧ (t.res Key.errLogClearRes).outcome = 1)

/-- From R130, R134, R135, R137 to R139: a command starts the path from SLEEP once the dwell has passed, and its run ends when the state is reached; a
step ends in its
state; a lost lock ramps the transmissions on air down, then has the port relock in SYNTH; the third failed attempt leaves it in STANDBY; a retune
takes the new centre.
For each of these commands it concludes that exec answers a next state (`Gives`), on conditions of state and operands alone:
portStateCmd, portTransitionDone, portDwellEnd, synthLockLost, synthRelockDone, retuneStart. -/
def Obligations.PortStates : Prop :=
  (∀ (p : Fin 4) (g : Fin 5) s, s.cmdBlocked (Key.portStateRes p) = false → s.radioHeld = true →
    Gives (exec (.portStateCmd p g) s) fun t => (t.res (Key.portStateRes p)).outcome = 2 ∧ (t.res (Key.portStateRes p)).code = 2 ∧ t.radio = s.radio) ∧
  (∀ (p : Fin 4) (g : Fin 5) s, s.cmdBlocked (Key.portStateRes p) = false → s.radioHeld = false → s.pstate p = 0 → (s.port p).seq = false →
    (s.port p).step = none → (s.port p).resume = none → s.dwellOver p = true → 1 ≤ g.val →
    Gives (exec (.portStateCmd p g) s) fun t => (t.res (Key.portStateRes p)).busy = true ∧ (t.port p).step = some 1 ∧ (t.port p).host = some g.val ∧ t.pstate p = 0) ∧
  (∀ (p : Fin 4) (g : Fin 5) s, s.cmdBlocked (Key.portStateRes p) = true → Gives (exec (.portStateCmd p g) s) fun t => t = s) ∧
  (∀ (p : Fin 4) out m dt s, (s.advance dt).pstate p = 0 → (s.port p).step = some 1 → (s.port p).resume = none → (s.port p).host = some 3 → (s.port p).seq = false →
    (s.advance dt).radioHeld = false →
    Gives (exec (.portTransitionDone p true out m dt) s) fun t => t.pstate p = 1 ∧ (t.port p).since = (s.advance dt).elapsed ∧ (t.port p).step = none) ∧
  (∀ (p : Fin 4) dt s, s.pstate p = 1 → (s.port p).step = none → (s.port p).resume = none → (s.port p).host = some 3 → (s.port p).seq = false → (s.advance dt).radioHeld = false →
    (s.port p).since + us 20 ≤ (s.advance dt).elapsed →
    Gives (exec (.portDwellEnd p dt) s) fun t => (t.port p).step = some 2 ∧ t.pstate p = 1) ∧
  (∀ (p : Fin 4) s, (s.port p).resume = none → 3 ≤ s.pstate p → s.airOn p = [] → Gives (exec (.synthLockLost p) s) fun t =>
    t.pstate p = 2 ∧ (t.port p).resume = some ((s.portTarget p).getD (s.pstate p)) ∧ (t.port p).step = some 2 ∧ (t.port p).tries = 0) ∧
  (∀ (p : Fin 4) n j s, (s.port p).resume = none → 3 ≤ s.pstate p → n ∈ s.airOn p → (s.tx n).job = some j → j.aborted = none →
    Gives (exec (.synthLockLost p) s) fun t => t.pstate p = s.pstate p ∧ (t.port p).resume.isSome = true ∧ t.rd (Key.txcState n) = 3 ∧
      ∃ k, (t.tx n).job = some k ∧ k.aborted = some s.elapsed) ∧
  (∀ (p : Fin 4) dt b s, (s.port p).resume = some b → s.pstate p = 2 → (s.port p).tries < 2 →
    Gives (exec (.synthRelockDone p false dt) s) fun t => (t.port p).tries = (s.port p).tries + 1 ∧ (t.port p).resume = some b) ∧
  (∀ (p : Fin 4) dt b s, (s.port p).resume = some b → s.pstate p = 2 → (s.port p).tries = 2 →
    Gives (exec (.synthRelockDone p false dt) s) fun t => t.pstate p = 1 ∧ (t.port p).resume = none) ∧
  (∀ (p : Fin 4) dt b s, (s.port p).resume = some b → s.pstate p = 2 →
    Gives (exec (.synthRelockDone p true dt) s) fun t => t.pstate p = 2 ∧ (t.port p).resume = none ∧ (t.port p).tries = 0) ∧
  (∀ (p : Fin 4) s, (s.port p).centre ≠ s.rd (Key.portCentreKhz p) → 2 ≤ s.pstate p → (s.port p).step = none → (s.port p).resume = none → s.airOn p = [] →
    Gives (exec (.retuneStart p) s) fun t => (t.port p).centre = s.rd (Key.portCentreKhz p) ∧ t.pstate p = 2 ∧
      (t.port p).resume = some ((s.portTarget p).getD (s.pstate p)))

/-- From R140, R141, R164, R539: island sequences: a pending start is served once the tile has been OFF for 10 µs, and a stop likewise of an idle tile;
the end of a
sequence is ON or OFF; a core's island goes on and off likewise; a tile takes its new placement at its safe point once the port is in RX or TX and has
room for it, and until
then leaves the old one.
For each of these commands it concludes that exec answers a next state (`Gives`), on conditions of state and operands alone:
islandStart, islandStop, islandOn, islandOff, islandDwellEnd, placementChange. -/
def Obligations.TileIslands : Prop :=
  (∀ x dt s, (∀ k, x ≠ .core k) → (s.isl x).phase = .off → (s.isl x).want = some true → (s.isl x).since + us 10 ≤ (s.advance dt).elapsed →
    Gives (exec (.islandStart x dt) s) fun t => (t.isl x).phase = .starting ∧ (t.isl x).want = none) ∧
  (∀ n dt s, (s.isl (.core n)).phase = .off → (s.isl (.core n)).want = some true → (s.isl (.core n)).since + us 10 ≤ (s.advance dt).elapsed →
    Gives (exec (.islandStart (.core n) dt) s) fun t => (t.isl (.core n)).phase = .on ∧ (t.isl (.core n)).want = none) ∧
  (∀ x dt s, (∀ k, x ≠ .core k) → (s.isl x).phase = .on → (s.isl x).want = some false → s.islandIdle x = true → (s.isl x).since + us 10 ≤ (s.advance dt).elapsed →
    Gives (exec (.islandStop x dt) s) fun t => (t.isl x).phase = .stopping ∧ (t.isl x).want = none) ∧
  (∀ x dt s, (s.isl x).phase = .starting → Gives (exec (.islandOn x dt) s) fun t => (t.isl x).phase = .on ∧ (t.isl x).since = (s.advance dt).elapsed) ∧
  (∀ x dt s, (∀ k, x ≠ .core k) → (s.isl x).phase = .stopping → s.islandIdle x = true →
    Gives (exec (.islandOff x dt) s) fun t => (t.isl x).phase = .off ∧ (t.isl x).since = (s.advance dt).elapsed) ∧
  (∀ n dt s, (s.isl (.core n)).phase = .stopping → (s.isl (.core n)).since + us 10 ≤ (s.advance dt).elapsed →
    Gives (exec (.islandOff (.core n) dt) s) fun t => (t.isl (.core n)).phase = .off ∧ (t.isl (.core n)).since = (s.advance dt).elapsed) ∧
  (∀ x dt s, (∀ k, x ≠ .core k) → (s.isl x).phase = .off → (s.isl x).want = some true → (s.isl x).since + us 10 ≤ (s.advance dt).elapsed →
    Gives (exec (.islandDwellEnd x dt) s) fun t => (t.isl x).phase = .starting) ∧
  (∀ x dt s, (s.advance dt).elapsed < (s.isl x).since + us 10 → Gives (exec (.islandDwellEnd x dt) s) fun t => t.isl x = s.isl x) ∧
  (∀ (n : Fin 64) w s, (s.rx n).next = some w → s.rxBusy n = false → (w = unplaced ∨ (3 ≤ s.pstate (placePort w) ∧ s.rxOthers (placePort w) n < 32)) →
    Gives (exec (.placementChange n) s) fun t => t.rd (Key.rxcPlaced n) = w ∧ (t.rx n).next = none) ∧
  (∀ (n : Fin 64) w s, (s.rx n).next = some w → s.rxBusy n = false → w ≠ unplaced → s.pstate (placePort w) < 3 →
    Gives (exec (.placementChange n) s) fun t => t.rd (Key.rxcPlaced n) = unplaced ∧ (t.rx n).next = some w) ∧
  (∀ (n : Fin 64) s, s.rxBusy n = true → Gives (exec (.placementChange n) s) fun t => t = s)

/-- From R143 to R147: a calibration run starts, ends at once with CAL_NO_WINDOW on a port below SYNTH, measures its islands, opens its blind window,
takes the coefficients of the
kinds that pass and ends; each code is held in CAL_RES. That an island table holds 21 entries, none below the one before it, is the model's choice
(log 126).
For each of these commands it concludes that exec answers a next state (`Gives`), on conditions of state and operands alone:
calCmd, calPeriodic, oscCalMeasure, calWindowOpen, calWindowEnd, calNoWindow, calPartial. -/
def Obligations.Calibration : Prop :=
  (∀ (v : BitVec 8) s, bits v.toNat 4 4 = 0 → Gives (exec (.calCmd v) s) fun t => t = s) ∧
  (∀ (v : BitVec 8) s, bits v.toNat 4 4 ≠ 0 → s.cmdBlocked Key.calRes = false → s.radio.cal = none → 2 ≤ s.pstate (bits v.toNat 0 2) →
    Gives (exec (.calCmd v) s) fun t => (t.res Key.calRes).busy = true ∧ ∃ c, t.radio.cal = some c ∧ c.port = bits v.toNat 0 2 ∧ c.kinds = bits v.toNat 4 4 ∧
      c.started = s.elapsed) ∧
  (∀ (p : Fin 4) dt s, s.radio.cal = none → (s.advance dt).calDue p = true → (∀ q, q < p.val → (s.advance dt).calDue q = false) →
    Gives (exec (.calPeriodic p dt) s) fun t => (t.res Key.calRes).busy = true ∧ ∃ c, t.radio.cal = some c ∧ c.port = p.val ∧ c.kinds = 15) ∧
  (∀ (i : Fin 41) m dt c s, s.radio.cal = some c → c.left.contains i.val = true → c.left.filter (· != i.val) ≠ [] → (s.advance dt).measurable c.port i = true →
    Gives (exec (.oscCalMeasure i m dt) s) fun t => ∃ d, t.radio.cal = some d ∧ d.left = c.left.filter (· != i.val) ∧
      (d.bad = true ↔ c.bad = true ∨ (if i.val = 40 then trimOk (slice ((s.advance dt).withTrim m 0) 0 4) else islandOk (slice m 0 42)) = false)) ∧
  (∀ dt c s, s.radio.cal = some c → c.blind = false → c.blindLeft ≠ [] → (s.advance dt).windowOpen c = true →
    Gives (exec (.calWindowOpen dt) s) fun t => t.blindNow c.port = true) ∧
  (∀ out m dt c s, s.radio.cal = some c → c.blind = true → c.kinds = 2 → c.codes = [] → c.openedAt + us 6500 ≤ (s.advance dt).elapsed →
    s.blindCode 1 (out.getD 1 { power := [], figure := [] }) ≠ 0 →
    Gives (exec (.calWindowEnd out m dt) s) fun t => t.radio.cal = none ∧ (t.res Key.calRes).outcome = 2 ∧
      (t.res Key.calRes).code = s.blindCode 1 (out.getD 1 { power := [], figure := [] }) ∧ t.dict.doms = s.dict.doms) ∧
  (∀ out m dt c s, s.radio.cal = some c → c.blind = true → c.kinds = 2 → c.codes = [] → c.openedAt + us 6500 ≤ (s.advance dt).elapsed →
    s.blindCode 1 (out.getD 1 { power := [], figure := [] }) = 0 →
    Gives (exec (.calWindowEnd out m dt) s) fun t => t.radio.cal = none ∧ (t.res Key.calRes).outcome = 1 ∧
      ∀ k, k ≠ Key.calCoeff c.port → t.dom k = s.dom k) ∧
  (∀ dt c s, s.radio.cal = some c → c.blind = false → c.kinds = 1 → c.codes = [] → c.started + ms 60000 ≤ (s.advance dt).elapsed →
    Gives (exec (.calNoWindow dt) s) fun t => t.radio.cal = none ∧ (t.res Key.calRes).code = 3) ∧
  (∀ dt c s, s.radio.cal = some c → c.left ≠ [] → c.kinds = 4 → c.codes = [] → c.started + ms 10000 ≤ (s.advance dt).elapsed →
    Gives (exec (.calPartial dt) s) fun t => t.radio.cal = none ∧ (t.res Key.calRes).code = 4)

/-- From R152: the lock needs four records, programs them once and for all, and a failure is final.
From R155 to R157: a burst of 0 dBm or more at the connector is measured, weaker ones are not; the first burst below 3.0 dB after starvation opens the
antenna state; ten
seconds without a burst starve the diagnosis.
For each of these commands it concludes that exec answers a next state (`Gives`), on conditions of state and operands alone:
stampLock, stampLockDone, pdMeasure, portStarved. -/
def Obligations.AntennaAndStamp : Prop :=
  (∀ s, s.cmdBlocked Key.stampLockRes = false → s.radio.locking = false → s.fuses.locked = none → s.fuses.failed = false → (∀ p, p < 4 → s.dom (Key.stampPort p) ≠ []) →
    Gives (exec .stampLock s) fun t => t.radio.locking = true ∧ (t.res Key.stampLockRes).busy = true ∧ t.fuses = s.fuses) ∧
  (∀ s, s.cmdBlocked Key.stampLockRes = false → s.radio.locking = false → s.fuses.locked = none → s.fuses.failed = false → (∃ p, p < 4 ∧ s.dom (Key.stampPort p) = []) →
    Gives (exec .stampLock s) fun t => t.radio.locking = false ∧ (t.res Key.stampLockRes).code = 1 ∧ t.fuses = s.fuses) ∧
  (∀ s, s.cmdBlocked Key.stampLockRes = false → s.radio.locking = false → s.fuses.locked = none → s.fuses.failed = true →
    Gives (exec .stampLock s) fun t => (t.res Key.stampLockRes).code = 2 ∧ t.fuses = s.fuses) ∧
  (∀ s, s.cmdBlocked Key.stampLockRes = false → s.radio.locking = false → s.fuses.locked ≠ none →
    Gives (exec .stampLock s) fun t => (t.res Key.stampLockRes).code = 3 ∧ t.fuses = s.fuses) ∧
  (∀ s, s.radio.locking = true → Gives (exec (.stampLockDone true) s) fun t =>
    t.fuses.locked = some [s.dom (Key.stampPort 0), s.dom (Key.stampPort 1), s.dom (Key.stampPort 2), s.dom (Key.stampPort 3)] ∧
    t.rd Key.stampLocked = 1 ∧ (t.res Key.stampLockRes).outcome = 1) ∧
  (∀ s, s.radio.locking = true → Gives (exec (.stampLockDone false) s) fun t =>
    t.fuses.locked = none ∧ t.fuses.failed = true ∧ t.rd Key.stampLocked = s.rd Key.stampLocked ∧ (t.res Key.stampLockRes).code = 2) ∧
  (∀ (p : Fin 4) f r dt s, s.pdUsed p = true → (s.advance dt).burstSteady p = true → 0 ≤ f + (bits (s.port p).fem 8 6 : Int) * 65536 →
    s.rd (Key.portAntState p) = 3 →
    Gives (exec (.pdMeasure p f r dt) s) fun t => t.rd (Key.portAntState p) = if f - r < 3 * 65536 then 2 else 1) ∧
  (∀ (p : Fin 4) f r dt s, f + (bits (s.port p).fem 8 6 : Int) * 65536 < 0 → Gives (exec (.pdMeasure p f r dt) s) fun t => t = s.advance dt) ∧
  (∀ (p : Fin 4) dt s, (s.advance dt).pdUsed p = true → 2 ≤ s.pstate p → s.rd (Key.portAntState p) ≠ 3 → (s.port p).diagSince + ms 10000 ≤ (s.advance dt).elapsed →
    Gives (exec (.portStarved p dt) s) fun t => t.rd (Key.portAntState p) = 3 ∧ t.rd (Key.portStarved p) = satAdd u32Max (s.rd (Key.portStarved p)) 1)

/-- From R166, R169 to R174, R176, R190: a signal at the threshold is detected in RX; two correlations qualify it, the SFD starts reception, the symbols
of the PHR give the
length; each timeout returns the tile to listening and counts as Table 6-8 says. Full correlation is the sum of the soft chips' magnitudes, and the
chip tables of M1 to M3 are
those of IEEE 802.15.4: both are the model's reading (logs 116, 117).
For each of these commands it concludes that exec answers a next state (`Gives`), on conditions of state and operands alone:
rxDetect, qualifierConfirm, detectTimeout, sfdFound, sfdTimeout, phrRx, despreadTimeout. -/
def Obligations.TileReceives : Prop :=
  (∀ (n : Fin 64) level dt s, s.rd (Key.rxcState n) = 1 → s.pstate (s.rxPort n) = 3 → (s.port (s.rxPort n)).step = none →
    (s.advance dt).blindNow (s.rxPort n) = false → (s.rx n).calUntil ≤ (s.advance dt).elapsed →
    (2 : Int) * (s.rdI 8 (Key.rxcDetectDbm n) - thrOffset (s.rxMode n)) ≤ level →
    Gives (exec (.rxDetect n level dt) s) fun t => t.rd (Key.rxcState n) = 2 ∧ ∃ f, (t.rx n).frame = some f ∧ f.level = level ∧ f.at0 = (s.advance dt).elapsed) ∧
  (∀ (n : Fin 64) level dt s, level < (2 : Int) * (s.rdI 8 (Key.rxcDetectDbm n) - thrOffset (s.rxMode n)) →
    Gives (exec (.rxDetect n level dt) s) fun t => t = s.advance dt) ∧
  (∀ (n : Fin 64) s1 s2 est dt f s, (s.rx n).frame = some f → s.rd (Key.rxcState n) = 2 → f.qualified = none →
    qualifies (s.rxMode n) (s.rd (Key.rxcQualifier n)) 64 s1 = true → qualifies (s.rxMode n) (s.rd (Key.rxcQualifier n)) 64 s2 = true →
    (s.advance dt).elapsed ≤ f.at0 + s.symbols n 4 →
    Gives (exec (.qualifierConfirm n s1 s2 est dt) s) fun t =>
      (t.rx n).frame = some { f with qualified := some (s.advance dt).elapsed, afc := afcFor (s.rxMode n) est } ∧
      t.rd (Key.rxDetect n) = satAdd u32Max (s.rd (Key.rxDetect n)) 1) ∧
  (∀ (n : Fin 64) dt f s, (s.rx n).frame = some f → s.rd (Key.rxcState n) = 2 → f.qualified = none → f.at0 + s.symbols n 4 ≤ (s.advance dt).elapsed →
    3 ≤ s.pstate (s.rxPort n) → Gives (exec (.detectTimeout n dt) s) fun t => t.rd (Key.rxcState n) = 1 ∧ (t.rx n).frame = none) ∧
  (∀ (n : Fin 64) sfd word phase fofs dt f q s, (s.rx n).frame = some f → s.rd (Key.rxcState n) = 2 → f.qualified = some q → f.afc.isSome = true →
    fofs.natAbs ≤ afcRange (s.rxMode n) → (s.advance dt).elapsed ≤ q + s.symbols n 40 → Machine.sfdFound (s.rxMode n) sfd = true →
    Gives (exec (.sfdFound n sfd word phase fofs dt) s) fun t => t.rd (Key.rxcState n) = 3 ∧
      ∃ g, (t.rx n).frame = some g ∧ g.stamp = (s.advance dt).nowNs ∧ g.fofs = fofs ∧ g.loop.ref = sfdRef (s.rxMode n) sfd) ∧
  (∀ (n : Fin 64) dt f q s, (s.rx n).frame = some f → s.rd (Key.rxcState n) = 2 → f.qualified = some q → q + s.symbols n 40 ≤ (s.advance dt).elapsed →
    3 ≤ s.pstate (s.rxPort n) → Gives (exec (.sfdTimeout n dt) s) fun t => t.rd (Key.rxcState n) = 1 ∧ (t.rx n).frame = none ∧
      t.rd (Key.rxDespreadTimeout n) = satAdd u32Max (s.rd (Key.rxDespreadTimeout n)) 1) ∧
  (∀ (n : Fin 64) syms dt f s, (s.rx n).frame = some f → s.rd (Key.rxcState n) = 3 → f.len = none → syms.length = symbolsOf (s.rxMode n) 1 →
    (s.advance dt).octetsPassed (s.rxMode n) (f.sfd.getD 0) 1 = true → (f.loop.run (s.rxMode n) syms).lost = false →
    5 ≤ leNat (despread (s.rxMode n) f.loop.ref syms) % 128 →
    Gives (exec (.phrRx n syms dt) s) fun t => (t.rx n).frame =
      some { f with len := some (leNat (despread (s.rxMode n) f.loop.ref syms) % 128), loop := f.loop.run (s.rxMode n) syms }) ∧
  (∀ (n : Fin 64) syms dt f s, (s.rx n).frame = some f → s.rd (Key.rxcState n) = 3 → f.len = none → syms.length = symbolsOf (s.rxMode n) 1 →
    (s.advance dt).octetsPassed (s.rxMode n) (f.sfd.getD 0) 1 = true → (f.loop.run (s.rxMode n) syms).lost = false →
    leNat (despread (s.rxMode n) f.loop.ref syms) % 128 ≤ 4 →
    Gives (exec (.phrRx n syms dt) s) fun t => (t.rx n).frame = none ∧ t.rd (Key.rxFcsErr n) = satAdd u32Max (s.rd (Key.rxFcsErr n)) 1) ∧
  (∀ (n : Fin 64) syms dt f q s, (s.rx n).frame = some f → s.rd (Key.rxcState n) = 3 → f.sfd = some q → q + s.symbols n 8 ≤ (s.advance dt).elapsed →
    syms.length = 8 → syms.all (fun x => lowSymbol (s.rxMode n) x.chips) = true → 3 ≤ s.pstate (s.rxPort n) →
    Gives (exec (.despreadTimeout n syms dt) s) fun t => t.rd (Key.rxcState n) = 1 ∧ (t.rx n).frame = none ∧
      t.rd (Key.rxDespreadTimeout n) = satAdd u32Max (s.rd (Key.rxDespreadTimeout n)) 1) ∧
  (∀ (n : Fin 64) syms dt s, syms.any (fun x => !lowSymbol (s.rxMode n) x.chips) = true →
    Gives (exec (.despreadTimeout n syms dt) s) fun t => t = s.advance dt)

/-- From R12, R13, R173, R174, R185, R186: the frame ends with the octets that its symbols despread to; one that lost correlation counts in
RX_DESPREAD_TIMEOUT, a wrong FCS in RX_FCS_ERR, a
node without a record in RX_FOREIGN, an acknowledgement without security that passes in RX_FRAMES; a candidate that an engine cannot recover counts in
BS_FAILED.
From R167, R168, R180 to R184: a stronger preamble captures the tile, a weaker one adds a late candidate; an engine takes the oldest candidate within
1 ms, later ones fail; an overrun ends the frame;
a clipped ADC steps the gain down at once and every frozen tile gain up by the step's calibrated size, and the port gain moves only between frames.
For each of these commands it concludes that exec answers a next state (`Gives`), on conditions of state and operands alone:
rxFrameEnd, backstitchFrameEnd, capture, lateArrival, backstitchEngineStart, backstitchQueueTimeout, sampleOverrun, adcClipGainStep, portGainStep. -/
def Obligations.FramesCheckedAndGain : Prop :=
  (∀ (n : Fin 64) syms rssi hb dt f len s, (s.rx n).frame = some f → s.rd (Key.rxcState n) = 3 → f.len = some len → syms.length = symbolsOf (s.rxMode n) len →
    (s.advance dt).octetsPassed (s.rxMode n) (f.sfd.getD 0) (len + 1) = true → (f.loop.run (s.rxMode n) syms).lost = true →
    Gives (exec (.rxFrameEnd n syms rssi hb dt) s) fun t => (t.rx n).frame = none ∧ t.har = s.har ∧
      t.rd (Key.rxDespreadTimeout n) = satAdd u32Max (s.rd (Key.rxDespreadTimeout n)) 1) ∧
  (∀ (n : Fin 64) syms rssi hb dt f psdu s, (s.rx n).frame = some f → s.rd (Key.rxcState n) = 3 → f.len = some psdu.length → f.cands = [] →
    syms.length = symbolsOf (s.rxMode n) psdu.length → psdu = despread (s.rxMode n) f.loop.ref syms →
    (s.advance dt).octetsPassed (s.rxMode n) (f.sfd.getD 0) (psdu.length + 1) = true → (f.loop.run (s.rxMode n) syms).lost = false →
    (psdu.length < 5 ∨ Crypto.fcs (psdu.take (psdu.length - 2)) ≠ leNat (psdu.drop (psdu.length - 2))) →
    Gives (exec (.rxFrameEnd n syms rssi hb dt) s) fun t => (t.rx n).frame = none ∧ t.har = s.har ∧
      t.rd (Key.rxFcsErr n) = satAdd u32Max (s.rd (Key.rxFcsErr n)) 1) ∧
  (∀ (n : Fin 64) syms rssi hb dt f psdu h form s, (s.rx n).frame = some f → s.rd (Key.rxcState n) = 3 → f.len = some psdu.length → f.cands = [] →
    syms.length = symbolsOf (s.rxMode n) psdu.length → psdu = despread (s.rxMode n) f.loop.ref syms →
    (s.advance dt).octetsPassed (s.rxMode n) (f.sfd.getD 0) (psdu.length + 1) = true → (f.loop.run (s.rxMode n) syms).lost = false →
    5 ≤ psdu.length → Crypto.fcs (psdu.take (psdu.length - 2)) = leNat (psdu.drop (psdu.length - 2)) → parseMhr (psdu.take (psdu.length - 2)) = some h →
    h.form = some form → form = .uplink → h.version = 2 → (h.src.getD 0 < 0x4000 ∨ 0x8000 ≤ h.src.getD 0) →
    Gives (exec (.rxFrameEnd n syms rssi hb dt) s) fun t => (t.rx n).frame = none ∧ t.har = s.har ∧
      t.rd (Key.rxForeign n) = satAdd u32Max (s.rd (Key.rxForeign n)) 1) ∧
  (∀ (n : Fin 64) syms rssi hb dt f psdu h s, (s.rx n).frame = some f → s.rd (Key.rxcState n) = 3 → f.len = some psdu.length → f.cands = [] →
    syms.length = symbolsOf (s.rxMode n) psdu.length → psdu = despread (s.rxMode n) f.loop.ref syms →
    (s.advance dt).octetsPassed (s.rxMode n) (f.sfd.getD 0) (psdu.length + 1) = true → (f.loop.run (s.rxMode n) syms).lost = false →
    5 ≤ psdu.length → Crypto.fcs (psdu.take (psdu.length - 2)) = leNat (psdu.drop (psdu.length - 2)) → parseMhr (psdu.take (psdu.length - 2)) = some h →
    h.form = some .immAck → s.flag Key.girthCompat = true → s.girth.recs = [] → s.radio.dup = [] →
    Gives (exec (.rxFrameEnd n syms rssi hb dt) s) fun t => (t.rx n).frame = none ∧ t.har = s.har ∧
      t.rd (Key.rxFrames n) = satAdd u32Max (s.rd (Key.rxFrames n)) 1) ∧
  (∀ (e : Fin 8) sfd syms stamp fofs rssi hb dt c s, s.radio.bsEngines.getD e none = some c →
    (∀ k o l, c.despread sfd syms stamp k = some (o, l) → l.lost = true) →
    Gives (exec (.backstitchFrameEnd e sfd syms stamp fofs rssi hb dt) s) fun t => t.radio.bsEngines.getD e none = none ∧
      t.rd (Key.bsFailed c.tile) = satAdd u32Max (s.rd (Key.bsFailed c.tile)) 1) ∧
  (∀ (n : Fin 64) s1 s2 level chips est sofar dt f s, (s.rx n).frame = some f → s.rxBusy n = true →
    qualifies (s.rxMode n) (s.rd (Key.rxcQualifier n)) 64 s1 = true → qualifies (s.rxMode n) (s.rd (Key.rxcQualifier n)) 64 s2 = true →
    2 ≤ chips → f.level + 12 ≤ level →
    Gives (exec (.capture n s1 s2 level chips est sofar dt) s) fun t => t.rd (Key.rxcState n) = 2 ∧
      ∃ g c, (t.rx n).frame = some g ∧ g.capt = true ∧ g.level = level ∧ g.cands = [c] ∧ c.late = false ∧ c.saved = f.save (s.rxMode n) sofar) ∧
  (∀ (n : Fin 64) s1 s2 level chips dt f s, (s.rx n).frame = some f → s.rd (Key.rxcState n) = 3 →
    qualifies (s.rxMode n) (s.rd (Key.rxcQualifier n)) 128 s1 = true → qualifies (s.rxMode n) (s.rd (Key.rxcQualifier n)) 128 s2 = true →
    2 ≤ chips → level + 12 ≤ f.level → f.cands = [] →
    Gives (exec (.lateArrival n s1 s2 level chips dt) s) fun t => t.rd (Key.rxcState n) = 3 ∧ ∃ g c, (t.rx n).frame = some g ∧ g.cands = [c] ∧ c.late = true ∧
      c.diff = (f.level - level).toNat) ∧
  (∀ dt c rest i s, s.radio.bsQueue = c :: rest → s.radio.bsEngines.toList.findIdx? (fun e => e.isNone) = some i → (s.advance dt).elapsed ≤ c.verdict + ms 1 →
    Gives (exec (.backstitchEngineStart dt) s) fun t => t.radio.bsQueue = rest ∧ t.radio.bsEngines.getD i none = some { c with started := (s.advance dt).elapsed }) ∧
  (∀ dt s, Gives (exec (.backstitchQueueTimeout dt) s) fun t => t.radio.bsQueue = s.radio.bsQueue.filter (fun c => decide ((s.advance dt).elapsed ≤ c.verdict + ms 1))) ∧
  (∀ (n : Fin 64) f s, (s.rx n).frame = some f → s.rxBusy n = true → Gives (exec (.sampleOverrun n) s) fun t => (t.rx n).frame = none ∧
    t.rd (Key.sampleOverrun n) = satAdd u32Max (s.rd (Key.sampleOverrun n)) 1) ∧
  (∀ (p : Fin 4) s, (s.port p).gain ≠ 0 → Gives (exec (.adcClipGainStep p) s) fun t => (t.port p).gain = (s.port p).gain - 1 ∧ (t.port p).gainAt = some s.elapsed) ∧
  (∀ (p : Fin 4) n f s, (s.port p).gain ≠ 0 → n ∈ s.rxOn p → (s.rx n).frame = some f → Gives (exec (.adcClipGainStep p) s) fun t =>
    (t.rx n).frame = some { f with agc := f.agc + s.stepSize p (s.port p).gain }) ∧
  (∀ (p : Fin 4) (g : Fin 32) dt s, (s.port p).gainAt = none → (∀ n, n ∈ s.rxOn p → s.rxBusy n = false) →
    Gives (exec (.portGainStep p g dt) s) fun t => (t.port p).gain = g.val) ∧
  (∀ (p : Fin 4) (g : Fin 32) dt n s, n ∈ s.rxOn p → s.rxBusy n = true → Gives (exec (.portGainStep p g dt) s) fun t => t = s.advance dt)

/-- From R195 to R197, R206, R207: a commit whose PSDU has fewer than 5 or more than 127 octets is refused with TX_BAD_FRAME, one that finds no tile with
TX_NO_TILE, one
outside the mask with TX_MASK, and none of them holds a tile; one that passes every check puts its tile in idle with the secured PSDU;
one whose lead has gone holds no tile (the model's reading of R196: log 129).
For each of these commands it concludes that exec answers a next state (`Gives`), on conditions of state and operands alone:
txCommit. -/
def Obligations.TransmitCommit : Prop :=
  (∀ q f pad dt s, q.kind = .beacon f pad → q.port ≤ 3 → q.granted = none → q.draft.key = .none → (s.advance dt).reservedFor q = false →
    (s.advance dt).leadGone q.port q.freq q.due = false →
    (q.draft.mhr.length + q.draft.ies.length + q.draft.payload.length < 3 ∨ 125 < q.draft.mhr.length + q.draft.ies.length + q.draft.payload.length) →
    Gives (exec (.txCommit q dt) s) fun t => t.radio = s.radio ∧ Posted (s.advance dt) t .txBadFrame (0x2000 + q.port)) ∧
  (∀ q f pad dt s, q.kind = .beacon f pad → q.port ≤ 3 → q.granted = none → q.draft.key = .none → (s.advance dt).reservedFor q = false →
    (s.advance dt).leadGone q.port q.freq q.due = false →
    3 ≤ q.draft.mhr.length + q.draft.ies.length + q.draft.payload.length → q.draft.mhr.length + q.draft.ies.length + q.draft.payload.length ≤ 125 →
    (s.advance dt).pickTx q = none →
    Gives (exec (.txCommit q dt) s) fun t => t.radio = s.radio ∧ Posted (s.advance dt) t .txNoTile (0x2000 + q.port)) ∧
  (∀ q f pad k dt s, q.kind = .beacon f pad → q.port ≤ 3 → q.granted = none → q.draft.key = .none → (s.advance dt).reservedFor q = false →
    (s.advance dt).leadGone q.port q.freq q.due = false →
    3 ≤ q.draft.mhr.length + q.draft.ies.length + q.draft.payload.length → q.draft.mhr.length + q.draft.ies.length + q.draft.payload.length ≤ 125 →
    (s.advance dt).pickTx q = some k → (s.advance dt).maskOk q = false →
    Gives (exec (.txCommit q dt) s) fun t => t.radio = s.radio ∧ Posted (s.advance dt) t .txMask (0x2200 + k)) ∧
  (∀ q k sub dt s, (∀ c, q.kind ≠ .lacing c) → q.port ≤ 3 → q.granted = none → q.code = none → q.draft.key = .none → (s.advance dt).reservedFor q = false →
    (s.advance dt).leadGone q.port q.freq q.due = false →
    3 ≤ q.draft.mhr.length + q.draft.ies.length + q.draft.payload.length → q.draft.mhr.length + q.draft.ies.length + q.draft.payload.length ≤ 125 →
    (s.advance dt).pickTx q = some k → (s.advance dt).maskOk q = true → (s.advance dt).mapOk q = true → (s.advance dt).subOf q.port q.freq = some sub →
    (s.advance dt).portCheck q sub.2.lbt = none →
    (s.advance dt).dutyOk q.port (some sub) (airUs q.mode (q.draft.mhr.length + q.draft.ies.length + q.draft.payload.length + 2)) = true →
    Gives (exec (.txCommit q dt) s) fun t => t.rd (Key.txcState k) = 1 ∧ t.rd (Key.txcPlaced k) = placeWord q.mode q.port q.freq ∧
      ∃ j, (t.tx k).job = some j ∧ j.psdu = q.draft.mhr ++ q.draft.ies ++ q.draft.payload ∧ j.lbt = sub.2.lbt ∧ j.rampAt = none ∧ j.req.due = q.due) ∧
  (∀ q f pad dt s, q.kind = .beacon f pad → q.port ≤ 3 → q.granted = none → (s.advance dt).reservedFor q = false →
    (s.advance dt).leadGone q.port q.freq q.due = true → Gives (exec (.txCommit q dt) s) fun t => t = s.advance dt)

/-- From R198 to R201, R203, R204, R207, Tables 7-2, 7-6 and 7-7: an idle tile listens when its listen is due, and a channel below the threshold leaves it
idle and clear, a busy one off
with TX_LBT_BUSY counted, as does a port that is not in RX; the ramp starts when due, at the power that the limits leave; after it the tile sends,
ramps down at its last chip, and is off
with its frame counted, or, cut short, once its own ramp-down has ended; a transmission that has not started ends with its window; the duty buckets
advance each minute.
For each of these commands it concludes that exec answers a next state (`Gives`), on conditions of state and operands alone:
lbtListenDue, lbtListenEnd, rampDue, txWindowEnd, rampUpEnd, lastChip, rampDownEnd, dutyBucketAdvance. -/
def Obligations.TransmitTileStates : Prop :=
  (∀ (n : Fin 16) dt j s, (s.tx n).job = some j → s.rd (Key.txcState n) = 1 → j.lbt = true → j.clear = false → s.portHolds j.req.port = false →
    s.pstate j.req.port = 3 → (s.port j.req.port).step = none → j.req.due ≤ (s.advance dt).nowNs + s.listenNs j + 32000 →
    Gives (exec (.lbtListenDue n dt) s) fun t => t.rd (Key.txcState n) = 2 ∧ t.radio = s.radio) ∧
  (∀ (n : Fin 16) dt j s, (s.tx n).job = some j → s.rd (Key.txcState n) = 1 → j.lbt = true → j.clear = false → s.portHolds j.req.port = false →
    s.pstate j.req.port ≠ 3 → j.req.due ≤ (s.advance dt).nowNs + s.listenNs j + 32000 →
    Gives (exec (.lbtListenDue n dt) s) fun t => t.rd (Key.txcState n) = 0 ∧ (t.tx n).job = none ∧
      t.rd (Key.txLbtBusy n) = satAdd u32Max (s.rd (Key.txLbtBusy n)) 1) ∧
  (∀ (n : Fin 16) blocks dt j s, (s.tx n).job = some j → s.rd (Key.txcState n) = 2 → s.pstate j.req.port = 3 → (s.port j.req.port).step = none →
    j.req.due ≤ (s.advance dt).nowNs + 32000 → blocks.any (fun b => decide (2 * (subBand (s.stampBytes j.req.port) j.sub).thr ≤ b)) = false →
    Gives (exec (.lbtListenEnd n blocks dt) s) fun t => t.rd (Key.txcState n) = 1 ∧ (t.tx n).job = some { j with clear := true }) ∧
  (∀ (n : Fin 16) blocks dt j s, (s.tx n).job = some j → s.rd (Key.txcState n) = 2 →
    (s.pstate j.req.port ≠ 3 ∨ (j.req.due ≤ (s.advance dt).nowNs + 32000 ∧ blocks.any (fun b => decide (2 * (subBand (s.stampBytes j.req.port) j.sub).thr ≤ b)) = true)) →
    Gives (exec (.lbtListenEnd n blocks dt) s) fun t => t.rd (Key.txcState n) = 0 ∧ (t.tx n).job = none ∧
      t.rd (Key.txLbtBusy n) = satAdd u32Max (s.rd (Key.txLbtBusy n)) 1) ∧
  (∀ (n : Fin 16) dt j h s, (s.tx n).job = some j → (s.advance dt).rampReady n j = true → (s.advance dt).lowerDue n j = false → s.maskOk j.req = true →
    s.mapOk j.req = true → s.grantPower n j = some h →
    Gives (exec (.rampDue n dt) s) fun t => t.rd (Key.txcState n) = 3 ∧
      (t.tx n).job = some (j.begin (s.advance dt).elapsed (s.advance dt).nowNs h (s.reqPower n j.req))) ∧
  (∀ (n : Fin 16) dt j s, (s.tx n).job = some j → s.rd (Key.txcState n) = 1 → j.lbt = false → j.rampNs ≤ (s.advance dt).nowNs → s.maskOk j.req = true →
    s.mapOk j.req = true → s.portHolds j.req.port = false → (s.advance dt).lowerDue n j = false → s.txCap j.req.code.isSome ≤ s.airCount →
    Gives (exec (.rampDue n dt) s) fun t => t.rd (Key.txcState n) = 1 ∧ (t.tx n).job = some { j with capped := true }) ∧
  (∀ (n : Fin 16) dt j s, (s.tx n).job = some j → s.rd (Key.txcState n) = 1 → j.req.windowEnd ≤ (s.advance dt).nowNs →
    (j.capped = true ∨ s.capReached j = true ∨ s.portReady j.req.port = true) →
    Gives (exec (.txWindowEnd n dt) s) fun t => t.rd (Key.txcState n) = 0 ∧ (t.tx n).job = none ∧
      t.rd (Key.txCinchDefer n) = satAdd u32Max (s.rd (Key.txCinchDefer n)) 1) ∧
  (∀ (n : Fin 16) dt j a s, (s.tx n).job = some j → s.rd (Key.txcState n) = 3 → j.rampAt = some a → j.ended = false →
    a + us (rampUs j.req.mode) ≤ (s.advance dt).elapsed → Gives (exec (.rampUpEnd n dt) s) fun t => t.rd (Key.txcState n) = 4 ∧ (t.tx n).job = some j) ∧
  (∀ (n : Fin 16) dt j a s, (s.tx n).job = some j → s.rd (Key.txcState n) = 4 → j.rampAt = some a →
    a + us (rampUs j.req.mode + frameUs j.req.mode (j.psdu.length + 2)) ≤ (s.advance dt).elapsed →
    Gives (exec (.lastChip n dt) s) fun t => t.rd (Key.txcState n) = 3 ∧ (t.tx n).job = some { j with ended := true }) ∧
  (∀ (n : Fin 16) dt j a s, (s.tx n).job = some j → j.rampAt = some a → j.ended = true → j.aborted = none → a + us j.airtime ≤ (s.advance dt).elapsed →
    Gives (exec (.rampDownEnd n dt) s) fun t => t.rd (Key.txcState n) = 0 ∧ (t.tx n).job = none ∧
      t.rd (Key.txFrames n) = satAdd u32Max (s.rd (Key.txFrames n)) 1) ∧
  (∀ (n : Fin 16) dt j a d s, (s.tx n).job = some j → j.rampAt = some a → j.aborted = some d → d + us (rampUs j.req.mode) ≤ (s.advance dt).elapsed →
    Gives (exec (.rampDownEnd n dt) s) fun t => t.rd (Key.txcState n) = 0 ∧ (t.tx n).job = none ∧ t.rd (Key.txFrames n) = s.rd (Key.txFrames n)) ∧
  (∀ dt s, ms (60000 * (s.radio.dutyMin + 1)) ≤ (s.advance dt).elapsed → Gives (exec (.dutyBucketAdvance dt) s) fun t =>
    t.radio.dutyMin = s.radio.dutyMin + 1 ∧ ∀ p i b, p < 4 → (i, b) ∈ s.subBands p → t.dutyOf p i = 0 :: (s.dutyOf p i).take 59)

/-- From R222, R228 to R230: an association request of no record is posted; one of a compatibility or quarantined record is not answered; one of a native
record answered in time commits a
response that is due 1,000 µs after the request, on its frequency; a fired beacon slot commits a beacon in the tenant's mode; a broadcast that had
arrived when a fired shared slot begins goes out in it, a later one waits.
For each of these commands it concludes that exec answers a next state (`Gives`), on conditions of state and operands alone:
assocRequestRx, beaconSend, broadcastDownlink. -/
def Obligations.AssociationAndBeacons : Prop :=
  (∀ (t : Fin 256) eui (p : Fin 4) mode freq dsn dt s, (s.advance dt).findRec t eui = none →
    Gives (exec (.assocRequestRx t eui p mode freq dsn dt) s) fun u => Posted (s.advance dt) u .assocUnknown (0x3100 + t) ∧ u.girth = s.girth ∧ u.radio = s.radio) ∧
  (∀ (t : Fin 256) eui (p : Fin 4) mode freq dsn dt r s, (s.advance dt).findRec t eui = some r → (s.nrec r).compat = true ∨ (s.nrec r).quarantined = true →
    Gives (exec (.assocRequestRx t eui p mode freq dsn dt) s) fun u => u = s.advance dt) ∧
  (∀ (t : Fin 256) eui (p : Fin 4) mode freq dsn dt r s, (s.advance dt).findRec t eui = some r → (s.nrec r).compat = false → (s.nrec r).tenant = t.val →
    (s.nrec r).quarantined = false → s.recSlots (s.nrec r) ≠ 0 →
    s.flag Key.assocOpen = true → s.rd (Key.tenKeySlot t) ≠ 0xFFFF → (s.nrec r).hw.macState = 1 → (s.advance dt).leadNs p freq ≤ 1000000 →
    (30 + s.secExtra t) * octetUs mode * 1000 ≤ (s.advance dt).nowNs →
    Gives (exec (.assocRequestRx t eui p mode freq dsn dt) s) fun u => ∃ (v : State) (q : TxReq), u = v.commit q ∧ q.kind = .assocRsp r ∧ q.port = p ∧ q.mode = mode ∧ q.freq = freq ∧
      q.due = (s.advance dt).nowNs + 1000000 ∧ v.radio = s.radio ∧ (v.nrec r).hw.lastContact = (s.advance dt).nowMs % 2 ^ 48) ∧
  (∀ (f : Fin 32) dt a d l m freq p s, s.girth.sched.fired = [⟨d, .beacon f a, l⟩] → s.flag Key.girthCompat = false →
    s.served (s.rd (Key.sfTenant f)) = some f.val → s.beaconSlot f a = true → 
    (s.tenantModes (s.rd (Key.sfTenant f))).filter (fun k => (s.hop (s.rd (Key.sfTenant f)) (k == 1) a k).isSome) = [m] →
    s.hop (s.rd (Key.sfTenant f)) (m == 1) a m = some (freq, p) →
    Gives (exec (.beaconSend f dt) s) fun u => ∃ (v : State) (q : TxReq) (pad : _), u = v.commit q ∧ q.kind = .beacon (s.rd (Key.sfTenant f)) pad ∧ q.port = p ∧ q.mode = m ∧ q.freq = freq ∧
      q.due = s.slotStart a + s.slotNs / 2 ∧ v.girth.sched.fired = [] ∧ v.radio = s.radio) ∧
  (∀ (f : Fin 32) dt a d l s, s.girth.sched.fired = [⟨d, .beacon f a, l⟩] →
    (s.served (s.rd (Key.sfTenant f)) ≠ some f.val ∨ s.beaconSlot f a = false) →
    Gives (exec (.beaconSend f dt) s) fun u => u.girth.sched.fired = [] ∧ u.radio = s.radio ∧ u.dict = s.dict) ∧
  (∀ (k : Fin 256) dt a d l f m freq p c s, s.girth.sched.fired = [⟨d, .shared f a, l⟩] → s.sharedAt f a = true → c.arrived ≤ s.slotStart a → s.flag Key.girthCompat = false → s.served k = some f →
    s.girth.casts = [c] → c.tenant = k.val → (s.tenantModes k).filter (fun x => (s.hop k (x == 1) a 0).isSome) = [m] →
    s.hop k (m == 1) a 0 = some (freq, p) →
    Gives (exec (.broadcastDownlink k dt) s) fun u => ∃ (v : State) (q : TxReq), u = v.commit q ∧ q.kind = .broadcast k c.handle c.report ∧ q.port = p ∧ q.mode = m ∧ q.freq = freq ∧
      q.due = s.slotStart a + s.slotNs / 2 ∧ v.girth.sched.fired = [] ∧ v.girth.casts = []) ∧
  (∀ (k : Fin 256) dt a d l f c s, s.girth.sched.fired = [⟨d, .shared f a, l⟩] → s.served k = some f → s.sharedAt f a = true → s.girth.casts = [c] →
    s.slotStart a < c.arrived → Gives (exec (.broadcastDownlink k dt) s) fun u => u.girth.casts = [c] ∧ u.girth.sched.fired = [] ∧ u.radio = s.radio)

/-- From R224, R227, R233, R235: an acknowledgement with the downlink's DSN at 1,000 µs ± 200 µs takes the head frame off the queue, any other changes
nothing; without one the attempt
fails, and after `DL_RETRY_LIMIT` + 1 attempts the frame is reported undelivered; a compatibility node in SYNC at the guard limit enters DESYNC with
cause 1.
For each of these commands it concludes that exec answers a next state (`Gives`), on conditions of state and operands alone:
dlAckRx, dlAckTimeout, guardLimit. -/
def Obligations.NodesAnswer : Prop :=
  (∀ (r : Fin 16384) dsn off dt w f rest s, (s.nrec r).ack = some w → w.dsn = dsn → 800000 ≤ off → off ≤ 1200000 → (s.nodeQ r).frames = f :: rest →
    Gives (exec (.dlAckRx r dsn off dt) s) fun t => (t.nrec r).ack = none ∧ (t.nodeQ r).frames.map (·.bytes) = rest.map (·.bytes) ∧
      (t.nrec r).hw.framesDown = ((s.nrec r).hw.framesDown + 1) % 2 ^ 32 ∧ (t.nrec r).hw.lastContact = (s.advance dt).nowMs % 2 ^ 48) ∧
  (∀ (r : Fin 16384) dsn off dt w s, (s.nrec r).ack = some w → (w.dsn ≠ dsn ∨ off < 800000 ∨ 1200000 < off) →
    Gives (exec (.dlAckRx r dsn off dt) s) fun t => t = s.advance dt) ∧
  (∀ (r : Fin 16384) dt w f rest s, (s.nrec r).ack = some w → w.lastChip + us (1200 + s.dlAckUs (s.nrec r)) ≤ (s.advance dt).elapsed → (s.nodeQ r).frames = f :: rest →
    f.attempts ≤ s.rd Key.dlRetryLimit → Gives (exec (.dlAckTimeout r dt) s) fun t => (t.nrec r).ack = none ∧ t.nodeQ r = s.nodeQ r ∧ t.dict = s.dict) ∧
  (∀ (r : Fin 16384) dt w f rest s, (s.nrec r).ack = some w → w.lastChip + us (1200 + s.dlAckUs (s.nrec r)) ≤ (s.advance dt).elapsed → (s.nodeQ r).frames = f :: rest →
    s.rd Key.dlRetryLimit < f.attempts → Gives (exec (.dlAckTimeout r dt) s) fun t => (t.nrec r).ack = none ∧ (t.nodeQ r).frames.map (·.bytes) = rest.map (·.bytes) ∧
      t.rd Key.dlUndelivered = satAdd u32Max (s.rd Key.dlUndelivered) 1) ∧
  (∀ (r : Fin 16384) dt s, (s.nrec r).compat = true → (s.nrec r).handover = none → (s.nrec r).hw.macState = 3 →
    s.guardLimit ≤ s.guardAt (s.nrec r) (s.advance dt).nowNs →
    Gives (exec (.guardLimit r dt) s) fun t => (t.nrec r).hw.macState = 4 ∧ (t.nrec r).hw.cause = 1 ∧ Posted (s.advance dt) t .nodeDesync 0x3000 ∧
      t.rd Key.desyncEvents = satAdd u32Max (s.rd Key.desyncEvents) 1) ∧
  (∀ (r : Fin 16384) dt s, s.guardAt (s.nrec r) (s.advance dt).nowNs < s.guardLimit → Gives (exec (.guardLimit r dt) s) fun t => t = s.advance dt)

/-- From R239 to R241, R393: a confirmed handover puts the node in HANDOVER_OUT, a refused or abandoned one returns the former state and clears the role;
B stages the state
transfer and from H, once it holds the final state, serves the node with the higher counter; at H the record is free and its frames are forwarded for 60 s.
For each of these commands it concludes that exec answers a next state (`Gives`), on conditions of state and operands alone:
handoverConfirm, handoverAbandon, handoverStateRx, handoverHReached, handoverFinalRx, handoverForwardEnd. -/
def Obligations.Handover : Prop :=
  (∀ (r : Fin 16384) (pan : BitVec 16) s, (s.nrec r).hoRole = 1 → (s.nrec r).isFree = false → (s.nrec r).hw.macState = 3 → (s.nrec r).compat = false →
    Gives (exec (.handoverConfirm r true pan) s) fun t => (t.nrec r).hw.macState = 5 ∧ (∃ h, (t.nrec r).handover = some h ∧ h.former = 3 ∧ h.h = none ∧ h.pan = pan.toNat) ∧
      (t.nrec r).host = (s.nrec r).host ∧ ∃ hw, t.out = .handover (s.nrec r).hoPeer (s.nrec r).eui (s.nrec r).tenant false hw :: s.out) ∧
  (∀ (r : Fin 16384) (pan : BitVec 16) s, (s.nrec r).hoRole = 1 → (s.nrec r).isFree = false → (s.nrec r).hw.macState = 3 →
    Gives (exec (.handoverConfirm r false pan) s) fun t => (t.nrec r).hw.macState = 3 ∧ (t.nrec r).handover = none ∧ Posted s t .hoFail 0x3000 ∧ t.out = s.out) ∧
  (∀ (r : Fin 16384) h s, (s.nrec r).hoRole = 1 → (s.nrec r).isFree = false → (s.nrec r).hw.macState = 5 → (s.nrec r).handover = some h →
    Gives (exec (.handoverAbandon r) s) fun t => (t.nrec r).hw.macState = h.former ∧ (t.nrec r).hw.hoAsn = 0 ∧ (t.nrec r).handover = none ∧ Posted s t .hoFail 0x3000) ∧
  (∀ (r : Fin 16384) s, (s.nrec r).hoRole ≠ 1 → (s.nrec r).hw.macState ≠ 6 → Gives (exec (.handoverAbandon r) s) fun t => t = s) ∧
  (∀ (r : Fin 16384) hw s, (s.nrec r).hw.macState = 6 → Gives (exec (.handoverStateRx r hw) s) fun t => t.nrec r = { s.nrec r with staged := some hw } ∧
    ∀ q, q ≠ r.val → t.nrec q = s.nrec q) ∧
  (∀ (r : Fin 16384) hw s, (s.nrec r).hw.macState ≠ 6 → Gives (exec (.handoverStateRx r hw) s) fun t => t = s) ∧
  (∀ (r : Fin 16384) dt h b s, (s.nrec r).handover = some h → h.h = some b → (s.nrec r).hw.macState = 5 → b ≤ (s.advance dt).asn → (s.nodeQ r).frames = [] →
    Gives (exec (.handoverHReached r dt) s) fun t => t.nrec r = NodeRec.free ∧
      t.out = .handover (s.nrec r).hoPeer (s.nrec r).eui (s.nrec r).tenant true (s.nrec r).hw :: s.out ∧
      t.girth.forwards = s.girth.forwards ++ [⟨(s.nrec r).eui, (s.nrec r).tenant, (s.nrec r).hoPeer, (s.advance dt).elapsed + ms 60000⟩]) ∧
  (∀ (r : Fin 16384) dt h b s, (s.nrec r).handover = some h → h.h = some b → (s.nrec r).hw.macState ≠ 6 → (s.advance dt).asn < b →
    Gives (exec (.handoverHReached r dt) s) fun t => t = s.advance dt) ∧
  (∀ (r : Fin 16384) hw st dt s, (s.nrec r).hw.macState = 6 → (s.nrec r).staged = some st → (s.advance dt).fullH hw.hoAsn ≤ (s.advance dt).asn →
    Gives (exec (.handoverFinalRx r hw dt) s) fun t => (t.nrec r).hw.macState = 3 ∧ (t.nrec r).hw.ulFc = max st.ulFc hw.ulFc ∧ (t.nrec r).hw.dlFc = max st.dlFc hw.dlFc ∧
      (t.nrec r).handover = none ∧ (t.nrec r).staged = none) ∧
  (∀ (r : Fin 16384) hw dt s, (s.nrec r).hw.macState = 6 → (s.advance dt).asn < (s.advance dt).fullH hw.hoAsn →
    Gives (exec (.handoverFinalRx r hw dt) s) fun t => t.nrec r = { s.nrec r with final := some hw }) ∧
  (∀ (r : Fin 16384) hw dt s, (s.nrec r).hw.macState = 6 → (s.nrec r).final = some hw → (s.advance dt).fullH hw.hoAsn ≤ (s.advance dt).asn →
    Gives (exec (.handoverHReached r dt) s) fun t => (t.nrec r).hw.macState = 3 ∧ (t.nrec r).final = none ∧ (t.nrec r).hw.hoAsn = 0) ∧
  (∀ dt s, Gives (exec (.handoverForwardEnd dt) s) fun t => t.girth.forwards = s.girth.forwards.filter (fun f => decide ((s.advance dt).elapsed < f.endsAt)))

/-- From R249 to R253, R257: at a tick of a new millisecond every uplink entry that is due fires and no entry that is not due leaves the wheel, though its
bucket may open; in STANDBY nothing
fires; far entries within the span move into the wheel, and a failed read asks for a rebuild; a rebuild enters the next uplink cell of every record in
service; a new day start takes effect at the
first new day start.
For each of these commands it concludes that exec answers a next state (`Gives`), on conditions of state and operands alone:
wheelTick, farListMove, schedRebuild, dayStartChange. -/
def Obligations.SchedulerWheel : Prop :=
  (∀ ok dt s, (s.advance dt).standby = false → (s.advance dt).nowMs ≠ s.girth.sched.ms → s.girth.sched.wheel.length ≤ 65536 → s.girth.sched.parked = [] →
    Gives (exec (.wheelTick ok dt) s) fun t => t.girth.sched.ms = (s.advance dt).nowMs ∧
      (∀ e ∈ s.girth.sched.wheel, (s.advance dt).nowMs < e.ms → e.settle (s.advance dt).nowMs ∈ t.girth.sched.wheel) ∧
      ((s.advance dt).radioHeld = false → ∀ e ∈ s.girth.sched.wheel, ∀ r a, e.level ≤ 2 → e.due = .uplink r a → e.ms ≤ (s.advance dt).nowMs →
        e.settle (s.advance dt).nowMs ∈ t.girth.sched.fired)) ∧
  (∀ ok dt s, ((s.advance dt).standby = true ∨ (s.advance dt).nowMs = s.girth.sched.ms) → Gives (exec (.wheelTick ok dt) s) fun t => t = s.advance dt) ∧
  (∀ dt s, s.girth.sched.far ≠ [] → s.sbUp = true → (∀ e ∈ s.girth.sched.far, nodeOf e.due ≠ none) → Gives (exec (.farListMove true dt) s) fun t =>
    t.girth.sched.wheel = s.girth.sched.wheel ++ (s.girth.sched.far.filter (fun e => decide (e.ms < (s.advance dt).wheelEnd))).map
      (fun e => { e with level := levelFor (s.advance dt).nowMs e.ms }) ∧
    t.girth.sched.far = s.girth.sched.far.filter (fun e => decide ((s.advance dt).wheelEnd ≤ e.ms)) ∧ t.girth.sched.rebuild = s.girth.sched.rebuild) ∧
  (∀ dt s, s.girth.sched.far ≠ [] → Gives (exec (.farListMove false dt) s) fun t => t.girth.sched.far = [] ∧ t.girth.sched.wheel = s.girth.sched.wheel ∧
    t.girth.sched.rebuild = if s.girth.sched.rebuild.contains 2 then s.girth.sched.rebuild else s.girth.sched.rebuild ++ [2]) ∧
  (∀ more s, s.girth.sched.rebuild = 1 :: more → Gives (exec .schedRebuild s) fun t => t.girth.sched.rebuild = more ∧
    ∀ r n, (s.nrec r).isFree = false → (s.nrec r).quarantined = false → (s.nrec r).hw.macState ≠ 6 → s.nextUl (s.nrec r) s.freshAsn = some n →
      ∃ e : WheelEntry, e.ms = s.planMs n ∧ e.due = .uplink r n ∧
        (e ∈ t.girth.sched.wheel ∨ e ∈ t.girth.sched.writing ∨ ∃ b, (b, e) ∈ t.girth.sched.parked)) ∧
  (∀ s, s.girth.sched.rebuild = [] → Gives (exec .schedRebuild s) fun t => t = s) ∧
  (∀ dt w s, s.girth.sched.dayWritten = some w → w ≤ s.rd Key.schedDayStartS → s.rd Key.schedDayStartS ≤ (s.advance dt).clock.sec →
    Gives (exec (.dayStartChange dt) s) fun t => t.girth.sched.dayStart = s.rd Key.schedDayStartS ∧ t.girth.sched.dayWritten = none) ∧
  (∀ dt s, (s.advance dt).clock.sec < s.rd Key.schedDayStartS → Gives (exec (.dayStartChange dt) s) fun t => t = s.advance dt)

/-- From R256, R259, R262, R239: a cell that has ended is charged once; a downlink cell with nothing to send is noted empty; one whose delivery fits the
ledger, Cinch and the channel commits the head
frame with a new attempt; one that does not fit leaves the frame in its queue; a handover's frame carries the Handover IE; an uplink cell is marked
and the next is entered.
For each of these commands it concludes that exec answers a next state (`Gives`), on conditions of state and operands alone:
cellEndCharge, downlinkCellPlanning, handoverIeSend, uplinkCellPlanning. -/
def Obligations.CellPlanning : Prop :=
  (∀ (r : Fin 16384) dt c s, (s.nrec r).cells = [c] → c.stop ≤ (s.advance dt).nowNs →
    Gives (exec (.cellEndCharge r dt) s) fun t => (t.nrec r).cells = [] ∧ (t.nrec r).hw.life = (s.nrec r).hw.life + s.cellCharge (s.nrec r) c ∧
      (t.nrec r).hw.lastCharge = s.cellCharge (s.nrec r) c) ∧
  (∀ (r : Fin 16384) dt s, (∀ c ∈ (s.nrec r).cells, (s.advance dt).nowNs < c.stop) → Gives (exec (.cellEndCharge r dt) s) fun t => t = s.advance dt) ∧
  (∀ (r : Fin 16384) d a l dt freq p s, s.girth.sched.fired = [⟨d, .moved r a, l⟩] → (s.nrec r).hw.macState = 3 → (s.nrec r).handover = none →
    s.recSlots (s.nrec r) ≠ 0 → s.cellChannel (s.nrec r) a = some (freq, p) → fits p (s.port p).centre freq (s.nrec r).mode = true →
    (s.advance dt).tooLate r a = false → (s.nodeQ r).frames = [] →
    Gives (exec (.downlinkCellPlanning r dt) s) fun t => t.girth.sched.fired = [] ∧ t.radio = s.radio ∧
      (t.nrec r).cells = (s.nrec r).cells ++ [⟨a, s.slotStart a, s.slotStart (a + s.dlCellSlots (s.nrec r)), false, none, none, false⟩]) ∧
  (∀ (r : Fin 16384) d a l dt freq p f rest s, s.girth.sched.fired = [⟨d, .moved r a, l⟩] → s.girth.sched.wheel = [] → s.girth.sched.far = [] →
    s.girth.sched.writing = [] → s.girth.sched.parked = [] →
    (s.nrec r).hw.macState = 3 → (s.nrec r).handover = none → s.recSlots (s.nrec r) ≠ 0 → s.cellChannel (s.nrec r) a = some (freq, p) →
    fits p (s.port p).centre freq (s.nrec r).mode = true → (s.advance dt).tooLate r a = false →
    (s.nodeQ r).frames = f :: rest → f.cached = true → bitOf (s.rd Key.cinchLowClasses) f.cls = false → s.flag Key.girthCompat = false → (∀ n, n < 32 → (s.tx n).job = none) →
    (((s.advance dt).dlPlanned r a).ledgerFits r (dlCharge (s.modeCost (s.nrec r).mode) (frameUs (s.nrec r).mode (s.dlOctets r f)) (s.dlAckUs (s.nrec r)))
      (s.slotStart a / 1000000000)).2 = true →
    Gives (exec (.downlinkCellPlanning r dt) s) fun t => ∃ (v : State) (q : TxReq), t = v.commit q ∧ q.kind = .downlink r ∧ q.port = p ∧ q.freq = freq ∧ q.mode = (s.nrec r).mode ∧
      q.granted ≠ none ∧ v.radio = s.radio ∧ (v.nodeQ r).frames.map (fun g => (g.bytes, g.attempts)) = (f.bytes, f.attempts + 1) :: rest.map (fun g => (g.bytes, g.attempts))) ∧
  (∀ (r : Fin 16384) d a l dt freq p f rest s, s.girth.sched.fired = [⟨d, .moved r a, l⟩] → s.girth.sched.wheel = [] → s.girth.sched.far = [] →
    s.girth.sched.writing = [] → s.girth.sched.parked = [] →
    (s.nrec r).hw.macState = 3 → (s.nrec r).handover = none → s.recSlots (s.nrec r) ≠ 0 → s.cellChannel (s.nrec r) a = some (freq, p) →
    fits p (s.port p).centre freq (s.nrec r).mode = true → (s.advance dt).tooLate r a = false →
    (s.nodeQ r).frames = f :: rest → f.cached = true →
    (((s.advance dt).dlPlanned r a).ledgerFits r (dlCharge (s.modeCost (s.nrec r).mode) (frameUs (s.nrec r).mode (s.dlOctets r f)) (s.dlAckUs (s.nrec r)))
      (s.slotStart a / 1000000000)).2 = false →
    Gives (exec (.downlinkCellPlanning r dt) s) fun t => t.nodeQ r = s.nodeQ r ∧ t.radio = s.radio ∧ t.rd Key.ledgerDeferrals = satAdd u32Max (s.rd Key.ledgerDeferrals) 1 ∧
      (t.nrec r).hw.deferrals = ((s.nrec r).hw.deferrals + 1) % 2 ^ 32) ∧
  (∀ (r : Fin 16384) dt h a s, (s.nrec r).handover = some h → h.acked = false → (s.nrec r).compat = false → s.firedDl r = some a → s.headAwaited r = false →
    Gives (exec (.handoverIeSend r dt) s) fun t => exec (.downlinkCellPlanning r dt) s = .next t) ∧
  (∀ (r : Fin 16384) dt h s, (s.nrec r).handover = some h → h.acked = true → Gives (exec (.handoverIeSend r dt) s) fun t => t = s.advance dt) ∧
  (∀ (r : Fin 16384) d a l dt s, s.girth.sched.fired = [⟨d, .uplink r a, l⟩] → Gives (exec (.uplinkCellPlanning r dt) s) fun t => t.girth.sched.fired = [] ∧
    (t.nrec r).cells = (s.nrec r).cells ++ [⟨a, s.slotStart a, s.slotStart (a + s.ulCellSlots (s.nrec r)), true, none, none, false⟩])

/-- From R265 to R267, R270: the tick adds the effective budget less the continuous power to the balance, held at T_max; a position enters below (8 − k)/8
of T_max, counted from 1, and leaves at
(9 − k)/8; the stage is the number in force; a balance below −T_max is posted once.
From R361, R364: after a calendar slot fires every entry lies in the future and none that was not due has left; a sample of a tenant that is due joins
strap queue 3 with 3 words, one of a tenant that is not sampled leaves no item.
For each of these commands it concludes that exec answers a next state (`Gives`), on conditions of state and operands alone:
cinchTick, shaperCalendarFire, curbSample. -/
def Obligations.CinchAndCurb : Prop :=
  (∀ pc s, Gives (exec (.cinchTick pc []) s) fun t =>
    t.rd Key.cinchTokens = toRaw 32 (max (-2147483648) (min ((20 * s.beffNow : Nat) : Int) (s.tokens + s.beffNow - pc))) ∧
    t.rd Key.cinchPowerMw = min 30000 (pc + s.girth.cinch.granted) ∧ t.girth.cinch.granted = 0 ∧
    t.rd Key.cinchStage = (t.girth.cinch.inForce.toList.filter id).length) ∧
  (∀ pc s k, k < 6 → s.girth.cinch.order = s.rd Key.cinchShedOrder → Gives (exec (.cinchTick pc []) s) fun t =>
    (t.girth.cinch.inForce.getD k false = true ↔
      ¬ (((8 - k : Nat) : Int) * ((20 * s.beffNow : Nat) : Int) ≤ 8 * t.tokens) ∧
      (s.girth.cinch.inForce.getD k false = true ∨ 8 * t.tokens < ((7 - k : Nat) : Int) * ((20 * s.beffNow : Nat) : Int)))) ∧
  (∀ pc tj s i, tj ≠ [] → i < 8 → Gives (exec (.cinchTick pc tj) s) fun t => t.rd (Key.tjSensor i) = toRaw 32 (tj.getD i 0)) ∧
  (∀ pc s, s.girth.cinch.overdraw = false → Gives (exec (.cinchTick pc []) s) fun t =>
    t.tokens < -((20 * s.beffNow : Nat) : Int) → t.girth.cinch.overdraw = true ∧ Posted s t .cinchOverdraw 0x1401) ∧
  (∀ dt s, Gives (exec (.shaperCalendarFire dt) s) fun t => (∀ p ∈ t.curb.calendar, (s.advance dt).us256 / 256 < p.2) ∧
    (∀ p ∈ s.curb.calendar, (s.advance dt).us256 / 256 < p.2 → p ∈ t.curb.calendar) ∧ t.har = s.har ∧ t.dict = s.dict) ∧
  (∀ (n : Fin 256) dt s, s.flag (Key.curbSample n) = false → Gives (exec (.curbSample n dt) s) fun t => t = s.advance dt) ∧
  (∀ (n : Fin 256) dt s, (s.advance dt).sampleDue n = true → (s.curb.sampled = [] ∨ s.curb.sampledAt + us 1 ≤ (s.advance dt).elapsed) →
    (∀ u, u < n.val → (s.advance dt).sampleDue u = false) → (s.advance dt).samplesMissed n = 0 → s.strapFull 3 3 = false → (s.strap 3).welt = none → Gives (exec (.curbSample n dt) s) fun t =>
    (∃ i, (t.strap 3).head ++ (t.strap 3).mid ++ (t.strap 3).tail = (s.strap 3).head ++ (s.strap 3).mid ++ (s.strap 3).tail ++ [i] ∧ i.words = 3 ∧
      i.data.length = 144 ∧ i.data.head? = some (BitVec.ofNat 8 n)) ∧ ∀ x, x < 16 → (t.shaper n x).sojourn = none)

/-- From R273 to R276, R280, R283, R295, R324, R542: a closed input takes nothing, and an input takes its oldest
arrival, or where none waits a frame from outside; a frame of more than 9,216 bytes is dropped; a frame that cannot be read so far goes to HP9 for
reason 1, a control frame for reason 4; a routed packet whose destination
the Bridle sends to an output joins that output's queue of its class, and one without a route is dropped; each frame counts at its input.
For each of these commands it concludes that exec answers a next state (`Gives`), on conditions of state and operands alone:
harnessFrameIn. -/
def Obligations.FramesEnter : Prop :=
  (∀ (h : Fin 12) m bytes hit dt s, (s.advance dt).inputClosed h = true → Gives (exec (.harnessFrameIn h m bytes hit dt) s) fun t => t = s.advance dt) ∧
  (∀ (h : Fin 12) m bytes hit dt s, (s.advance dt).takesNext h ⟨h, m, bytes⟩ = false → Gives (exec (.harnessFrameIn h m bytes hit dt) s) fun t => t = s.advance dt) ∧
  (∀ (h : Fin 12) st bytes hit dt s, (s.advance dt).inputClosed h = false → (s.advance dt).takesNext h ⟨h, .ethernet st, bytes⟩ = true → 9216 < bytes.length → Gives (exec (.harnessFrameIn h (.ethernet st) bytes hit dt) s) fun t =>
    t.rd (Key.hpRx h) = satAdd u32Max (s.rd (Key.hpRx h)) 1 ∧ t.rd (Key.hpDrop h) = satAdd u32Max (s.rd (Key.hpDrop h)) 1 ∧ t.har.queues = s.har.queues) ∧
  (∀ (h : Fin 12) st bytes hit dt limit c s, (s.advance dt).inputClosed h = false → (s.advance dt).takesNext h ⟨h, .ethernet st, bytes⟩ = true → bytes.length ≤ 9216 →
    (parseEthernet bytes).verdict = .deep limit → c = ipClass (parseEthernet bytes).ip →
    (s.outQ 9 c).spilled = false → (s.outQ 9 c).cells + cellsOf bytes.length ≤ (s.advance dt).alphaLimit c → cellsOf bytes.length ≤ (s.advance dt).freeCells →
    Gives (exec (.harnessFrameIn h (.ethernet st) bytes hit dt) s) fun t => ∃ g, (t.outQ 9 c).frames = (s.outQ 9 c).frames ++ [g] ∧ g.reason = 1 ∧ g.bytes = bytes ∧
      g.input = h.val ∧ t.rd (Key.hpDrop h) = s.rd (Key.hpDrop h)) ∧
  (∀ (h : Fin 12) (ten : Fin 256) (c : Fin 8) bytes hit dt s, (s.advance dt).inputClosed h = false → (s.advance dt).takesNext h ⟨h, .routed ten c none false, bytes⟩ = true →
    bytes.length ≤ 9216 → (parsePacket bytes true (linkCtx s.draws)).verdict = .control →
    (s.outQ 9 6).spilled = false → (s.outQ 9 6).cells + cellsOf bytes.length ≤ (s.advance dt).alphaLimit 6 → cellsOf bytes.length ≤ (s.advance dt).freeCells →
    Gives (exec (.harnessFrameIn h (.routed ten c none false) bytes hit dt) s) fun t => ∃ g, (t.outQ 9 6).frames = (s.outQ 9 6).frames ++ [g] ∧ g.reason = 4 ∧ g.bytes = bytes ∧
      g.input = h.val ∧ t.rd (Key.hpDrop h) = s.rd (Key.hpDrop h)) ∧
  (∀ (h : Fin 12) (ten : Fin 256) (c : Fin 8) bytes hit dt ip r p s, (s.advance dt).inputClosed h = false →
    (s.advance dt).takesNext h ⟨h, .routed ten c none false, bytes⟩ = true → bytes.length ≤ 9216 → p = parsePacket bytes true (linkCtx s.draws) → p.verdict = .complete →
    p.ip = some ip → hit.bridle = none → s.bridleFind ten ip.v4 ip.dst = some r → resultKind r = 1 → bits (s.rd (Key.polMode ten c)) 0 2 = 0 →
    copyAllowed h ip.v4 (resultValue r) = true → (s.outQ (resultValue r) c).spilled = false →
    (s.outQ (resultValue r) c).cells + cellsOf p.bytes.length ≤ (s.advance dt).alphaLimit c → cellsOf p.bytes.length ≤ (s.advance dt).freeCells →
    Gives (exec (.harnessFrameIn h (.routed ten c none false) bytes hit dt) s) fun t => ∃ g,
      (t.outQ (resultValue r) c).frames = (s.outQ (resultValue r) c).frames ++ [g] ∧ g.bytes = p.bytes ∧ g.tenant = ten.val ∧ g.cls = c.val ∧ g.input = h.val ∧
      t.rd (Key.hpDrop h) = s.rd (Key.hpDrop h)) ∧
  (∀ (h : Fin 12) (ten : Fin 256) (c : Fin 8) bytes hit dt ip p s, (s.advance dt).inputClosed h = false →
    (s.advance dt).takesNext h ⟨h, .routed ten c none false, bytes⟩ = true → bytes.length ≤ 9216 → p = parsePacket bytes true (linkCtx s.draws) → p.verdict = .complete →
    p.ip = some ip → hit.bridle = none → s.bridleFind ten ip.v4 ip.dst = none →
    Gives (exec (.harnessFrameIn h (.routed ten c none false) bytes hit dt) s) fun t => t.har.queues = s.har.queues ∧
      t.rd (Key.hpDrop h) = satAdd u32Max (s.rd (Key.hpDrop h)) 1)

/-- From R281, R284, R287 to R289, Table 1-4: an output serves the highest class that is eligible and its frame leaves; a broadcast leaves a radio output
for its tenant's next shared slot; a frame with an
uncorrectable word is dropped and posted; an output whose link is down gives up the head of each class; the Ethernet links change.
From Table 10-6, R291: a completed spill write moves its copy to the ring, a failed one drops it; a fetch takes at most 64 cells of the ring to the
die while fewer than 128 cells are held there,
and a queue whose spill is empty returns to ON_DIE.
For each of these commands it concludes that exec answers a next state (`Gives`), on conditions of state and operands alone:
outputDequeue, outputLinkDownDiscard, ethernetLinkChange, spillWriteDone, spillFetch. -/
def Obligations.FramesLeaveAndSpill : Prop :=
  (∀ (c : Fin 8) dt f rest s, s.sbUp = true → (s.outQ 10 c).frames = f :: rest → (∀ d, d < 8 → c.val < d → (s.outQ 10 d).frames = []) →
    s.onCalendar (80 + c) = false → s.rd (Key.shpRateKbps f.tenant (shaperOf 10 c)) = 0 →
    Gives (exec (.outputDequeue 10 none dt) s) fun t => (t.outQ 10 c).frames = rest ∧ t.out = .harness 10 f :: s.out ∧
      t.rd (Key.hpTx 10) = satAdd u32Max (s.rd (Key.hpTx 10)) 1 ∧ ∀ d, d ≠ c.val → d < 8 → t.outQ 10 d = s.outQ 10 d) ∧
  (∀ (h : Fin 4) (c : Fin 8) dt f u rest s, (s.outQ h c).frames = f :: rest → (∀ d, d < 8 → c.val < d → (s.outQ h d).frames = []) → f.target = .tenantCast u →
    (f.lowpan (linkCtx f.ctx)).length ≤ s.dlRoom u →
    Gives (exec (.outputDequeue ⟨h, by omega⟩ none dt) s) fun t => (t.outQ h c).frames = rest ∧
      t.girth.casts = s.girth.casts ++ [⟨u, f.cls, f.lowpan (linkCtx f.ctx), f.handle, f.report, (s.advance dt).nowNs⟩]) ∧
  (∀ (h : Fin 4) (c : Fin 8) a dt f rest s, (s.outQ h c).frames = f :: rest → (∀ d, d < 8 → c.val < d → (s.outQ h d).frames = []) →
    Gives (exec (.outputDequeue ⟨h, by omega⟩ (some a) dt) s) fun t => (t.outQ h c).frames = rest ∧ Posted (s.advance dt) t .memUncorrected 0x1200 ∧
      t.rd Key.memUncorrected = satAdd u32Max (s.rd Key.memUncorrected) 1 ∧ t.girth.casts = s.girth.casts ∧ t.out = s.out) ∧
  (∀ (h : Fin 12) dt s, s.outDown h = true → Gives (exec (.outputDequeue h none dt) s) fun t => t = s.advance dt) ∧
  (∀ (h : Fin 12) s, s.outDown h = true → Gives (exec (.outputLinkDownDiscard h) s) fun t => ∀ c, c < 8 → (t.outQ h c).frames = (s.outQ h c).frames.drop 1) ∧
  (∀ (h : Fin 12) s, s.outDown h = false → Gives (exec (.outputLinkDownDiscard h) s) fun t => t = s) ∧
  (∀ (p : Fin 2) up s, Gives (exec (.ethernetLinkChange p up) s) fun t => t.har.eth.getD p false = up ∧ (∀ q, q ≠ p.val → t.har.eth.getD q false = s.har.eth.getD q false) ∧
    t.har.queues = s.har.queues) ∧
  (∀ (h : Fin 12) (c : Fin 8) f rest s, (s.outQ h c).buffer = f :: rest → s.sbUp = true → Gives (exec (.spillWriteDone h c true) s) fun t =>
    (t.outQ h c).buffer = rest ∧ (t.outQ h c).ring = (s.outQ h c).ring ++ [f] ∧ (t.outQ h c).frames = (s.outQ h c).frames ∧ t.dict = s.dict) ∧
  (∀ (h : Fin 12) (c : Fin 8) f rest s, (s.outQ h c).buffer = f :: rest → Gives (exec (.spillWriteDone h c false) s) fun t =>
    (t.outQ h c).buffer = rest ∧ (t.outQ h c).ring = (s.outQ h c).ring ∧ t.rd (Key.qDrops (8 * h + f.cls)) = satAdd u32Max (s.rd (Key.qDrops (8 * h + f.cls))) 1) ∧
  (∀ (h : Fin 12) (c : Fin 8) ok s, (s.outQ h c).buffer = [] → Gives (exec (.spillWriteDone h c ok) s) fun t => t = s) ∧
  (∀ (h : Fin 12) (c : Fin 8) s, (s.outQ h c).spilled = true → s.sbUp = true → (s.outQ h c).cells < 128 → 4096 ≤ s.freeCells → Gives (exec (.spillFetch h c) s) fun t =>
    (t.outQ h c).frames ++ (t.outQ h c).ring = (s.outQ h c).frames ++ (s.outQ h c).ring ∧ (t.outQ h c).frames = (s.outQ h c).frames ++ takeCells 64 (s.outQ h c).ring ∧
    ((t.outQ h c).spilled = true ↔ (t.outQ h c).ring ≠ [] ∨ (s.outQ h c).buffer ≠ [])) ∧
  (∀ (h : Fin 12) (c : Fin 8) s, ((s.outQ h c).spilled = false ∨ s.sbUp = false ∨ 128 ≤ (s.outQ h c).cells ∨ s.freeCells < 4096) → Gives (exec (.spillFetch h c) s) fun t => t = s)

/-- From Table 11-1, R297, R302, R320: the link trains from down, takes the attached bytes and a layout that passes its check when trained, falls back to
down after 500 ms, retrains from up, and after
50 ms of retraining fails: requests and uncommitted journal records are lost and every middle is empty. What counts as a
request is the model's reading (log 137).
For each of these commands it concludes that exec answers a next state (`Gives`), on conditions of state and operands alone:
cxlTrainingStart, cxlTrained, cxlTrainTimeout, cxlRetrainStart, cxlRetrainDone, cxlRetrainFail. -/
def Obligations.SaddlebagLink : Prop :=
  (∀ dt s, s.sbLink = 0 → ((s.sb.fresh = true ∧ s.cores.core ≠ []) ∨ s.sb.since + ms 1000 ≤ (s.advance dt).elapsed) →
    Gives (exec (.cxlTrainingStart dt) s) fun t => t.sbLink = 1 ∧ t.sb.since = (s.advance dt).elapsed ∧ t.sb.fresh = false) ∧
  (∀ dt s, s.sbLink ≠ 0 → Gives (exec (.cxlTrainingStart dt) s) fun t => t = s.advance dt) ∧
  (∀ ex lanes rate dt s, s.sbLink = 1 → linkFits ex lanes rate = true → s.sb.since + ms 50 ≤ (s.advance dt).elapsed → (s.advance dt).elapsed ≤ s.sb.since + ms 500 →
    Gives (exec (.cxlTrained ex lanes rate dt) s) fun t => t.sbLink = 2 ∧ t.rd Key.sbAttached = min (attachedBytes ex) (2 ^ 46)) ∧
  (∀ ex lanes rate dt s, s.sbLink = 1 → linkFits ex lanes rate = true → s.sb.since + ms 50 ≤ (s.advance dt).elapsed → (s.advance dt).elapsed ≤ s.sb.since + ms 500 →
    s.dom Key.sbLayout ≠ [] → layoutOk (s.dom Key.sbLayout) (min (attachedBytes ex) (2 ^ 46)) = true →
    Gives (exec (.cxlTrained ex lanes rate dt) s) fun t => t.sb.layout = some (layoutRegions (s.dom Key.sbLayout))) ∧
  (∀ ex lanes rate dt s, s.sbLink ≠ 1 → Gives (exec (.cxlTrained ex lanes rate dt) s) fun t => t = s.advance dt) ∧
  (∀ dt s, s.sbLink = 1 → s.sb.since + ms 500 ≤ (s.advance dt).elapsed → Gives (exec (.cxlTrainTimeout dt) s) fun t => t.sbLink = 0) ∧
  (∀ s, s.sbUp = true → Gives (exec .cxlRetrainStart s) fun t => t.sbLink = 3 ∧ t.rd Key.cxlRetrains = satAdd u32Max (s.rd Key.cxlRetrains) 1 ∧
    t.sb.outstanding = s.sb.outstanding) ∧
  (∀ dt s, s.sbLink = 3 → (s.advance dt).elapsed ≤ s.sb.since + ms 50 → Gives (exec (.cxlRetrainDone dt) s) fun t => t.sbLink = 2 ∧
    t.rd Key.cxlReplayed = satAdd u32Max (s.rd Key.cxlReplayed) (min 256 s.sbRequests)) ∧
  (∀ dt s, s.sbLink = 3 → s.sb.since + ms 50 ≤ (s.advance dt).elapsed → Gives (exec (.cxlRetrainFail dt) s) fun t => t.sbLink = 0 ∧ t.sb.outstanding = [] ∧ t.sb.waiting = [] ∧
    t.sb.journal.flight = [] ∧ t.rd Key.cxlFailed = satAdd u32Max (s.rd Key.cxlFailed) (min 512 s.sbRequests) ∧
    ∀ q, 1 ≤ q → q < 64 → (t.strap q).mid = [])

/-- From R35, R300, R306, Table 4-15: a served read gives the bytes of its range outside the regions of kinds 2 to 5, a write stores its bytes there and
nothing else, and a media error of a read is
counted and answered as such; a request from another device is served while the link is up and refused while it is down (log 110) or serving is off; a
device without an address takes none.
For each of these commands it concludes that exec answers a next state (`Gives`), on conditions of state and operands alone:
sbAccessDone, sbReqRx. -/
def Obligations.SaddlebagAccess : Prop :=
  (∀ k r s, s.sb.outstanding[k]? = some (.own r) → s.sbUp = true → r.write = none → sbOffset r.addr + r.len ≤ s.rd Key.sbAttached →
    (∀ j, j < r.len → s.sbOpen (sbOffset r.addr + j) = false) →
    Gives (exec (.sbAccessDone k false) s) fun t => t.out = .saddlebag 0 (some .ok) (s.sbBytes (sbOffset r.addr) r.len) :: s.out ∧ t.sb.mem = s.sb.mem) ∧
  (∀ k r bs s, s.sb.outstanding[k]? = some (.own r) → s.sbUp = true → r.write = some bs → sbOffset r.addr + r.len ≤ s.rd Key.sbAttached →
    s.sbReserved (sbOffset r.addr) r.len = false →
    Gives (exec (.sbAccessDone k false) s) fun t => t.out = .saddlebag 0 (some .ok) [] :: s.out ∧ t.sbBytes (sbOffset r.addr) r.len = slice bs 0 r.len ∧
      ∀ a, (a < sbOffset r.addr ∨ sbOffset r.addr + r.len ≤ a) → t.sbBytes a 1 = s.sbBytes a 1) ∧
  (∀ k r s, s.sb.outstanding[k]? = some (.own r) → s.sbUp = true → r.write = none → Gives (exec (.sbAccessDone k true) s) fun t =>
    t.out = .saddlebag 0 (some .mediaError) [] :: s.out ∧ t.rd Key.sbMediaErr = satAdd u32Max (s.rd Key.sbMediaErr) 1 ∧ t.sb.mem = s.sb.mem) ∧
  (∀ k e s, s.sbUp = false → Gives (exec (.sbAccessDone k e) s) fun t => t = s) ∧
  (∀ p src tag r s, s.addr = 0xFF → Gives (exec (.sbReqRx p src tag r) s) fun t => t = s) ∧
  (∀ p src tag r s, s.addr ≠ 0xFF → s.flag Key.sbRemoteServe = false → Gives (exec (.sbReqRx p src tag r) s) fun t => t = s.sendChain src 0 0 0 tag (.sbRsp .unmapped [])) ∧
  (∀ p src tag r s, s.addr ≠ 0xFF → s.flag Key.sbRemoteServe = true → s.sbUp = true → r.write = none → sbOffset r.addr + r.len ≤ s.rd Key.sbAttached → s.sb.waiting = [] →
    s.sb.outstanding.length < 256 → Gives (exec (.sbReqRx p src tag r) s) fun t => t.sb.outstanding = s.sb.outstanding ++ [.remote p src tag r]) ∧
  (∀ p src tag r s, s.addr ≠ 0xFF → s.flag Key.sbRemoteServe = true → s.sbLink ≤ 1 → Gives (exec (.sbReqRx p src tag r) s) fun t =>
    t.sb.outstanding = s.sb.outstanding ∧ t.sb.mem = s.sb.mem ∧ t = s.sendChain src 0 0 0 tag (.sbRsp .unmapped []))

/-- From R309, R310, R312, R313, R318, R319: a queue that has room takes the item at its end with the next sequence, a full one counts the drop in a welt;
the engine's moves to and from the middle lose no
item; an idle welt closes into an item; a lost header or a pointer mismatch resets the queue into a welt.
For each of these commands it concludes that exec answers a next state (`Gives`), on conditions of state and operands alone:
strapPush, strapMiddleWrite, strapMiddleRead, weltClose, pointerMismatch. -/
def Obligations.StrapQueues : Prop :=
  (∀ (q : Fin 64) words data s, q.val ≠ 0 → 1 ≤ words → words ≤ 16 → s.strapFull q words = false → (s.strap q).welt = none → Gives (exec (.strapPush q words data) s) fun t =>
    (t.strap q).nextSeq = ((s.strap q).nextSeq + 1) % 4294967296 ∧ ∃ i, (t.strap q).head ++ (t.strap q).mid ++ (t.strap q).tail =
      (s.strap q).head ++ (s.strap q).mid ++ (s.strap q).tail ++ [i] ∧ i.words = words ∧ i.data = data ∧ i.seq = (s.strap q).nextSeq ∧ i.kind = 0) ∧
  (∀ (q : Fin 64) words data s, q.val ≠ 0 → 1 ≤ words → words ≤ 16 → s.strapFull q words = true → Gives (exec (.strapPush q words data) s) fun t =>
    (t.strap q).head = (s.strap q).head ∧ (t.strap q).mid = (s.strap q).mid ∧ (t.strap q).tail = (s.strap q).tail ∧ (t.strap q).welt ≠ none ∧
    t.rd (Key.sqLost q) = satAdd u32Max (s.rd (Key.sqLost q)) 1) ∧
  (∀ words data s, Gives (exec (.strapPush 0 words data) s) fun t => t = s) ∧
  (∀ (q : Fin 64) dt s, Gives (exec (.strapMiddleWrite q dt) s) fun t => (t.strap q).head ++ (t.strap q).mid ++ (t.strap q).tail =
    (s.strap q).head ++ (s.strap q).mid ++ (s.strap q).tail ∧ (t.strap q).welt = (s.strap q).welt ∧ ∀ r, r ≠ q.val → t.strap r = s.strap r) ∧
  (∀ (q : Fin 64) s, Gives (exec (.strapMiddleRead q []) s) fun t => (t.strap q).head ++ (t.strap q).mid ++ (t.strap q).tail =
    (s.strap q).head ++ (s.strap q).mid ++ (s.strap q).tail ∧ ∀ r, r ≠ q.val → t.strap r = s.strap r) ∧
  (∀ (q : Fin 64) i rest fails s, 2 ≤ q.val → s.sbUp = true → itemWords (s.strap q).head ≤ 32 → (s.strap q).mid = i :: rest →
    (∃ w, w ∈ fails ∧ w.item = 0 ∧ w.word < i.words ∧ failHead w = true) → itemWords (s.strap q).head + i.words ≤ 64 → Gives (exec (.strapMiddleRead q fails) s) fun t =>
    (t.strap q).head = [] ∧ (t.strap q).mid = [] ∧ (t.strap q).tail = [] ∧ (t.strap q).welt ≠ none ∧ t.rd (Key.sqResets q) = satAdd u32Max (s.rd (Key.sqResets q)) 1) ∧
  (∀ (q : Fin 64) r dt seq w s, q.val ≠ 0 → (s.strap q).welt = some (seq, w) → w.lastAt + ms 1 ≤ (s.advance dt).elapsed → Gives (exec (.weltClose q r dt) s) fun t =>
    (t.strap q).welt = none ∧ (t.strap q).head ++ (t.strap q).mid ++ (t.strap q).tail =
      (s.strap q).head ++ (s.strap q).mid ++ (s.strap q).tail ++ [w.item seq (s.advance dt).elapsed]) ∧
  (∀ q r s, s.sb.compare = false → Gives (exec (.pointerMismatch q r) s) fun t => t = s) ∧
  (∀ (q : Fin 64) r s, s.sb.compare = true → 2 ≤ q.val → Gives (exec (.pointerMismatch q r) s) fun t => (t.strap q).head = [] ∧ (t.strap q).mid = [] ∧ (t.strap q).tail = [] ∧
    t.rd (Key.sqResets q) = satAdd u32Max (s.rd (Key.sqResets q)) 1 ∧ Posted s t .sqReset (0x4110 + q)) ∧
  (∀ r s, s.sb.compare = true → Gives (exec (.pointerMismatch 0 r) s) fun t => (t.nodeQ r).frames = [])

/-- From R8, R16, R315 to R318, R321: a downlink frame for a free record counts in DL_UNKNOWN; a frame for an empty queue is cached as its head; a head is
read into the cache, or reported undelivered
when a data lane fails, or its queue is reset when a header lane does; a head that is not read in time misses its cell; held frames drain to the head;
a journal record in flight commits to its slot, and the
header keeps the oldest (its layout: log 136).
For each of these commands it concludes that exec answers a next state (`Gives`), on conditions of state and operands alone:
downlinkEnqueue, downlinkHeadRead, headReadTimeout, holdDrain, journalRecordCommit, journalHeaderRewrite. -/
def Obligations.NodeQueuesAndJournal : Prop :=
  (∀ (r : Fin 16384) f s, (s.nrec r).isFree = true → Gives (exec (.downlinkEnqueue r f) s) fun t => t.rd Key.dlUnknown = satAdd u32Max (s.rd Key.dlUnknown) 1 ∧ t.sb = s.sb) ∧
  (∀ (r : Fin 16384) f s, (s.nrec r).isFree = false → (s.nrec r).quarantined = false → (s.nodeQ r).frames = [] → (s.nodeQ r).welt = none → s.cacheFree = true →
    0 < s.rd (Key.sqLimit 0) → 0 < s.nodeSlots → Gives (exec (.downlinkEnqueue r f) s) fun t =>
      (t.nodeQ r).frames = [{ freshFrame f (s.nrec r).tenant with cached := true }] ∧ t.dict = s.dict) ∧
  (∀ (r : Fin 16384) f s, (s.nrec r).isFree = false → (s.nrec r).quarantined = false → min (s.rd (Key.sqLimit 0)) s.nodeSlots ≤ (s.nodeQ r).frames.length →
    Gives (exec (.downlinkEnqueue r f) s) fun t => (t.nodeQ r).frames = (s.nodeQ r).frames ∧ t.rd Key.dlUndelivered = satAdd u32Max (s.rd Key.dlUndelivered) 1) ∧
  (∀ (r : Fin 16384) f rest s, s.sbUp = true → (s.nodeQ r).frames = f :: rest → f.cached = false → (if (s.firedDl r).isSome then s.planFree else s.cacheFree) = true →
    Gives (exec (.downlinkHeadRead r []) s) fun t => (t.nodeQ r).frames = { f with cached := true, reserved := (s.firedDl r).isSome } :: rest ∧ s.SameNumbers t [Key.sbMediaErr, Key.sqPoison 0]) ∧
  (∀ (r : Fin 16384) w f rest s, s.sbUp = true → (s.nodeQ r).frames = f :: rest → f.cached = false → (if (s.firedDl r).isSome then s.planFree else s.cacheFree) = true →
    w.item = 0 → w.word < 4 → failHead w = false → failItem w ≠ 0 → Gives (exec (.downlinkHeadRead r [w]) s) fun t =>
      (t.nodeQ r).frames = rest ∧ t.rd (Key.sqPoison 0) = satAdd u32Max (s.rd (Key.sqPoison 0)) (failItem w) ∧ t.rd Key.dlUndelivered = satAdd u32Max (s.rd Key.dlUndelivered) 1) ∧
  (∀ (r : Fin 16384) w f rest s, s.sbUp = true → (s.nodeQ r).frames = f :: rest → f.cached = false → (if (s.firedDl r).isSome then s.planFree else s.cacheFree) = true →
    w.item = 0 → failHead w = true → Gives (exec (.downlinkHeadRead r [w]) s) fun t => (t.nodeQ r).frames = [] ∧ t.rd (Key.sqResets 0) = satAdd u32Max (s.rd (Key.sqResets 0)) 1) ∧
  (∀ (r : Fin 16384) l s, s.sbUp = false → Gives (exec (.downlinkHeadRead r l) s) fun t => t = s) ∧
  (∀ (r : Fin 16384) m lvl a f rest dt s, s.girth.sched.fired = [⟨m, .moved r a, lvl⟩] → (s.nodeQ r).frames = f :: rest → f.cached = false →
    s.planMs a + 1 ≤ (s.advance dt).nowMs → Gives (exec (.headReadTimeout r dt) s) fun t =>
      t.nodeQ r = s.nodeQ r ∧ (t.nrec r).hw.missed = ((s.nrec r).hw.missed + 1) % 2 ^ 32 ∧ t.girth.sched.fired = [] ∧
      ∃ c, (t.nrec r).cells = (s.nrec r).cells ++ [c] ∧ c.asn = a ∧ c.uplink = false) ∧
  (∀ i rest p s, (s.strap 4).head = i :: rest → s.routeTo s.chain.topo.head = some p → i.kind = 0 → i.poison = false →
    (s.outQ (harnessPort p) (fieldLe i.data 1 1 % 8)).spilled = false → (s.outQ (harnessPort p) (fieldLe i.data 1 1 % 8)).cells < 128 →
    (s.outQ (harnessPort p) (fieldLe i.data 1 1 % 8)).cells + cellsOf (fieldLe i.data 6 2) ≤ s.alphaLimit (fieldLe i.data 1 1 % 8) → cellsOf (fieldLe i.data 6 2) ≤ s.freeCells →
    Gives (exec .holdDrain s) fun t => i :: ((t.strap 4).head ++ (t.strap 4).mid ++ (t.strap 4).tail) = (s.strap 4).head ++ (s.strap 4).mid ++ (s.strap 4).tail ∧
      ∃ f, (t.outQ (harnessPort p) (fieldLe i.data 1 1 % 8)).frames = (s.outQ (harnessPort p) (fieldLe i.data 1 1 % 8)).frames ++ [f] ∧
        f.bytes = slice i.data 24 (fieldLe i.data 6 2)) ∧
  (∀ s, (s.strap 4).head = [] → (s.strap 4).mid = [] → (s.strap 4).tail = [] → Gives (exec .holdDrain s) fun t => t = s) ∧
  (∀ seq r s, s.sbUp = true → s.sb.journal.flight.find? (fun p => p.1 == seq) = some (seq, r) → s.journalRoom ≠ 0 →
    Gives (exec (.journalRecordCommit seq) s) fun t => t.sbBytes (s.journalSlot seq) 64 = r.word seq ∧ t.sb.journal.flight = s.sb.journal.flight.filter (fun p => p.1 != seq) ∧
      s.rd Key.sbJournalSeq ≤ t.rd Key.sbJournalSeq ∧ ∀ a, (a < s.journalSlot seq ∨ s.journalSlot seq + 64 ≤ a) → t.sbBytes a 1 = s.sbBytes a 1) ∧
  (∀ dt s, s.sbUp = true → s.sb.journal.running = true → s.sb.journal.headerAt + ms 1000 ≤ (s.advance dt).elapsed → Gives (exec (.journalHeaderRewrite dt) s) fun t =>
    t.sbBytes s.journalBase 64 = journalHeadBytes s.ident.eui64 s.sb.journal.oldest ∧ t.sb.journal.flight = s.sb.journal.flight) ∧
  (∀ dt s, s.sb.journal.running = false → Gives (exec (.journalHeaderRewrite dt) s) fun t => t = s.advance dt)

/-- From R324, R326 to R329: in a table whose results are all usable, a lookup answers the result of the longest prefix that covers the address, and
misses where none covers it: the stages find the longest match. -/
def Obligations.BridleLongestMatch : Prop :=
  ∀ (s : State) (inst : Nat) (v4 : Bool) (addr : Nat), addr < 2 ^ famBits v4 →
    (∀ p ∈ s.tables.prefixes, resultKind p.result ≠ 0 ∧ p.len ≤ famBits p.v4 ∧ p.addr < 2 ^ famBits p.v4) →
    (∀ p ∈ s.tables.prefixes, p.inst = inst → p.v4 = v4 → p.covers addr = true →
      (∀ q ∈ s.tables.prefixes, q.inst = inst → q.v4 = v4 → q.covers addr = true → q ≠ p → q.len < p.len) → s.bridleFind inst v4 addr = some p.result) ∧
    ((∀ p ∈ s.tables.prefixes, p.inst = inst → p.v4 = v4 → p.covers addr = false) → s.bridleFind inst v4 addr = none)

/-- From R325, R330, R331, R337, R339, R340, R481, R510: the operation at the front of the port's queue runs with its packed arguments and leaves the
queue. A legal new prefix that fits is added, one that is held
is replaced with code 0x01, an illegal one gets its code and changes no prefix; a delete, a read, a flush and the writes of next hops (their bytes:
log 45) and copy lists do what they say; cores 12 to 15 get 0x11
for what changes a table; where another operation or none stands at the front, nothing happens.
For each of these commands it concludes that exec answers a next state (`Gives`), on conditions of state and operands alone:
brInsert, brDelete, brRead, brFlush, nhWrite, clWrite. -/
def Obligations.BridlePort : Prop :=
  (∀ o ws s, s.tpFront 0x01 = some o → tpBarred o.who = false → tpFamOk o.arg = true → prefixArg (tpArg o.arg 0 1) (tpV4 o.arg) (tpPrefix o.arg) (tpArg o.arg 18 1) = none → resultOk (tpArg o.arg 19 4) = true →
    s.prefix? (tpArg o.arg 0 1) (tpV4 o.arg) (tpPrefix o.arg) (tpArg o.arg 18 1) = none → s.tables.prefixes.length < 262144 → bridleFits (s.tables.prefixes ++ [⟨tpArg o.arg 0 1, tpV4 o.arg, tpArg o.arg 18 1, tpPrefix o.arg, tpArg o.arg 19 4⟩]) = true →
    Gives (exec (.brInsert ws) s) fun t => t.tables.prefixes = s.tables.prefixes ++ [⟨tpArg o.arg 0 1, tpV4 o.arg, tpArg o.arg 18 1, tpPrefix o.arg, tpArg o.arg 19 4⟩] ∧ (t.window o.who).code = 0 ∧
      t.tables.halter = s.tables.halter ∧ t.tables.ops = s.tables.ops.drop 1) ∧
  (∀ o ws old s, s.tpFront 0x01 = some o → tpBarred o.who = false → tpFamOk o.arg = true → prefixArg (tpArg o.arg 0 1) (tpV4 o.arg) (tpPrefix o.arg) (tpArg o.arg 18 1) = none → resultOk (tpArg o.arg 19 4) = true →
    s.prefix? (tpArg o.arg 0 1) (tpV4 o.arg) (tpPrefix o.arg) (tpArg o.arg 18 1) = some old →
    bridleFits (s.tables.prefixes.map (fun q => if q == old then ⟨tpArg o.arg 0 1, tpV4 o.arg, tpArg o.arg 18 1, tpPrefix o.arg, tpArg o.arg 19 4⟩ else q)) = true →
    Gives (exec (.brInsert ws) s) fun t => (t.window o.who).code = 1 ∧
      t.tables.prefixes = s.tables.prefixes.map (fun q => if q == old then ⟨tpArg o.arg 0 1, tpV4 o.arg, tpArg o.arg 18 1, tpPrefix o.arg, tpArg o.arg 19 4⟩ else q)) ∧
  (∀ o ws c s, s.tpFront 0x01 = some o → tpBarred o.who = false → tpFamOk o.arg = true → prefixArg (tpArg o.arg 0 1) (tpV4 o.arg) (tpPrefix o.arg) (tpArg o.arg 18 1) = some c →
    Gives (exec (.brInsert ws) s) fun t => (t.window o.who).code = c ∧ t.tables.prefixes = s.tables.prefixes ∧ t.tables.ops = s.tables.ops.drop 1) ∧
  (∀ o ws old s, s.tpFront 0x02 = some o → tpBarred o.who = false → tpFamOk o.arg = true → prefixArg (tpArg o.arg 0 1) (tpV4 o.arg) (tpPrefix o.arg) (tpArg o.arg 18 1) = none → s.prefix? (tpArg o.arg 0 1) (tpV4 o.arg) (tpPrefix o.arg) (tpArg o.arg 18 1) = some old →
    Gives (exec (.brDelete ws) s) fun t => (t.window o.who).code = 0 ∧ t.tables.prefixes = s.tables.prefixes.filter (fun q => q != old)) ∧
  (∀ o ws s, s.tpFront 0x02 = some o → tpBarred o.who = false → tpFamOk o.arg = true → prefixArg (tpArg o.arg 0 1) (tpV4 o.arg) (tpPrefix o.arg) (tpArg o.arg 18 1) = none → s.prefix? (tpArg o.arg 0 1) (tpV4 o.arg) (tpPrefix o.arg) (tpArg o.arg 18 1) = none →
    Gives (exec (.brDelete ws) s) fun t => (t.window o.who).code = 0x10 ∧ t.tables.prefixes = s.tables.prefixes) ∧
  (∀ o p s, s.tpFront 0x03 = some o → tpFamOk o.arg = true → prefixArg (tpArg o.arg 0 1) (tpV4 o.arg) (tpPrefix o.arg) (tpArg o.arg 18 1) = none → s.prefix? (tpArg o.arg 0 1) (tpV4 o.arg) (tpPrefix o.arg) (tpArg o.arg 18 1) = some p →
    Gives (exec (.brRead none) s) fun t => (t.window o.who).code = 0 ∧ (t.window o.who).ret.take 4 = leBytes 4 p.result ∧ t.tables.prefixes = s.tables.prefixes) ∧
  (∀ o w s, s.tpFront 0x03 = some o → tpFamOk o.arg = true → prefixArg (tpArg o.arg 0 1) (tpV4 o.arg) (tpPrefix o.arg) (tpArg o.arg 18 1) = none →
    s.bridleReads (tpArg o.arg 0 1) (tpV4 o.arg) (tpPrefix o.arg) w.1 = true → Gives (exec (.brRead (some w)) s) fun t => (t.window o.who).code = 0x16 ∧
      t.tables.prefixes = s.tables.prefixes ∧ t.rd (Key.memErr 5) = satAdd u32Max (s.rd (Key.memErr 5)) 1) ∧
  (∀ o ws s, s.tpFront 0x04 = some o → tpBarred o.who = false → tpFamOk o.arg = true → Gives (exec (.brFlush ws) s) fun t => (t.window o.who).code = 0 ∧
    t.tables.prefixes = s.tables.prefixes.filter (fun p => !(p.inst == tpArg o.arg 0 1 && p.v4 == tpV4 o.arg)) ∧
    (t.window o.who).ret.take 4 = leBytes 4 (s.tables.prefixes.filter (fun p => p.inst == tpArg o.arg 0 1 && p.v4 == tpV4 o.arg)).length) ∧
  (∀ o s, s.tpFront 0x08 = some o → tpBarred o.who = false → tpArg o.arg 0 2 ≤ 4095 → tpArg o.arg 8 2 ≤ 4094 → (tpArg o.arg 10 1 = 4 ∨ tpArg o.arg 10 1 = 5) →
    tpArg o.arg 11 1 % 2 = 1 → Gives (exec .nhWrite s) fun t => (t.window o.who).code = 0 ∧
      KMap.find t.tables.nextHops (tpArg o.arg 0 2) = some ⟨beNat (slice o.arg 2 6), tpArg o.arg 8 2, tpArg o.arg 10 1⟩ ∧
      ∀ m, m ≠ tpArg o.arg 0 2 → KMap.find t.tables.nextHops m = KMap.find s.tables.nextHops m) ∧
  (∀ o s, s.tpFront 0x09 = some o → tpBarred o.who = false → tpArg o.arg 0 2 ≤ 2047 → (∀ e ∈ copyEntries o.arg, e.output ≤ 11) → Gives (exec .clWrite s) fun t =>
    (t.window o.who).code = 0 ∧ KMap.getD t.tables.copyLists [] (tpArg o.arg 0 2) = copyEntries o.arg ∧
      ∀ m, m ≠ tpArg o.arg 0 2 → KMap.getD t.tables.copyLists [] m = KMap.getD s.tables.copyLists [] m) ∧
  (∀ o ws s, tpBarred o.who = true →
    (s.tpFront 0x01 = some o → Gives (exec (.brInsert ws) s) fun t => (t.window o.who).code = 0x11 ∧ t.tables.prefixes = s.tables.prefixes) ∧
    (s.tpFront 0x02 = some o → Gives (exec (.brDelete ws) s) fun t => (t.window o.who).code = 0x11 ∧ t.tables.prefixes = s.tables.prefixes) ∧
    (s.tpFront 0x04 = some o → Gives (exec (.brFlush ws) s) fun t => (t.window o.who).code = 0x11 ∧ t.tables.prefixes = s.tables.prefixes) ∧
    (s.tpFront 0x08 = some o → Gives (exec .nhWrite s) fun t => (t.window o.who).code = 0x11 ∧ t.tables.nextHops = s.tables.nextHops) ∧
    (s.tpFront 0x09 = some o → Gives (exec .clWrite s) fun t => (t.window o.who).code = 0x11 ∧ t.tables.copyLists = s.tables.copyLists)) ∧
  (∀ ws bad s, (s.tpFront 0x01 = none → Gives (exec (.brInsert ws) s) fun t => t = s) ∧ (s.tpFront 0x02 = none → Gives (exec (.brDelete ws) s) fun t => t = s) ∧
    (s.tpFront 0x03 = none → Gives (exec (.brRead bad) s) fun t => t = s) ∧ (s.tpFront 0x04 = none → Gives (exec (.brFlush ws) s) fun t => t = s) ∧
    (s.tpFront 0x08 = none → Gives (exec .nhWrite s) fun t => t = s) ∧ (s.tpFront 0x09 = none → Gives (exec .clWrite s) fun t => t = s))

/-- From R333, R334, R336 to R339, R341, R342, R347, R481: an insert of a legal new key takes a free way of its bucket and is found there, one of a held
key replaces it, one that finds no place and may not evict
gets 0x15, and one that may evict returns the victim; a delete frees the place; reads answer the entry, or 0x16 where it fails its check; ages rise to
15 every 4,096 s.
For each of these commands it concludes that exec answers a next state (`Gives`), on conditions of state and operands alone:
haInsert, haDelete, haRead, haReadBucket, halterAgeing. -/
def Obligations.HalterPort : Prop :=
  (∀ o b w s, s.tpFront 0x10 = some o → tpBarred o.who = false → tpArg o.arg 9 1 ≤ 63 → tpArg o.arg 10 2 ≤ 16383 → (tpArg o.arg 12 2 = 0 ∨ (0x4000 ≤ tpArg o.arg 12 2 ∧ tpArg o.arg 12 2 ≤ 0x7FFF)) →
    s.halterFind (tpArg o.arg 0 1) (tpArg o.arg 1 8) = none → b = halterBucket (tpArg o.arg 0 1) (tpArg o.arg 1 8) → s.freeWay b = some w →
    Gives (exec (.haInsert 0) s) fun t => (t.window o.who).code = 0 ∧
      t.halterFind (tpArg o.arg 0 1) (tpArg o.arg 1 8) = some (⟨0, tpArg o.arg 0 1, tpArg o.arg 1 8 / 2 ^ 18, tpArg o.arg 9 1, tpArg o.arg 10 2, if tpArg o.arg 12 2 = 0 then none else some (tpArg o.arg 12 2 - 0x4000), s.elapsed⟩, .way w) ∧
      t.tables.overflow = s.tables.overflow ∧ t.tables.prefixes = s.tables.prefixes ∧ t.tables.ops = s.tables.ops.drop 1) ∧
  (∀ o old p s, s.tpFront 0x10 = some o → tpBarred o.who = false → tpArg o.arg 9 1 ≤ 63 → tpArg o.arg 10 2 ≤ 16383 → (tpArg o.arg 12 2 = 0 ∨ (0x4000 ≤ tpArg o.arg 12 2 ∧ tpArg o.arg 12 2 ≤ 0x7FFF)) →
    s.halterFind (tpArg o.arg 0 1) (tpArg o.arg 1 8) = some (old, .way p) → Gives (exec (.haInsert 0) s) fun t => (t.window o.who).code = 1 ∧
      t.halterFind (tpArg o.arg 0 1) (tpArg o.arg 1 8) = some (⟨0, tpArg o.arg 0 1, tpArg o.arg 1 8 / 2 ^ 18, tpArg o.arg 9 1, tpArg o.arg 10 2, if tpArg o.arg 12 2 = 0 then none else some (tpArg o.arg 12 2 - 0x4000), s.elapsed⟩, .way p)) ∧
  (∀ o b s, s.tpFront 0x10 = some o → tpBarred o.who = false → tpArg o.arg 9 1 ≤ 63 → tpArg o.arg 10 2 ≤ 16383 → (tpArg o.arg 12 2 = 0 ∨ (0x4000 ≤ tpArg o.arg 12 2 ∧ tpArg o.arg 12 2 ≤ 0x7FFF)) →
    s.halterFind (tpArg o.arg 0 1) (tpArg o.arg 1 8) = none → b = halterBucket (tpArg o.arg 0 1) (tpArg o.arg 1 8) → s.freeWay b = none → s.freeOverflow b = none → tpArg o.arg 14 1 ≠ 0 →
    Gives (exec (.haInsert 0) s) fun t => (t.window o.who).code = 0x15 ∧ t.tables.halter = s.tables.halter ∧ t.tables.overflow = s.tables.overflow) ∧
  (∀ o b old s, s.tpFront 0x10 = some o → tpBarred o.who = false → tpArg o.arg 9 1 ≤ 63 → tpArg o.arg 10 2 ≤ 16383 → (tpArg o.arg 12 2 = 0 ∨ (0x4000 ≤ tpArg o.arg 12 2 ∧ tpArg o.arg 12 2 ≤ 0x7FFF)) →
    s.halterFind (tpArg o.arg 0 1) (tpArg o.arg 1 8) = none → b = halterBucket (tpArg o.arg 0 1) (tpArg o.arg 1 8) → s.freeWay b = none → s.freeOverflow b = none → tpArg o.arg 14 1 = 0 →
    KMap.find s.tables.halter (4 * b + (s.victim b).1) = some old →
    Gives (exec (.haInsert 0) s) fun t => (t.window o.who).code = 2 ∧ (t.window o.who).ret.take 12 = leBytes 12 old.raw ∧
      KMap.find t.tables.halter (4 * b + (s.victim b).1) = some ⟨0, tpArg o.arg 0 1, tpArg o.arg 1 8 / 2 ^ 18, tpArg o.arg 9 1, tpArg o.arg 10 2, if tpArg o.arg 12 2 = 0 then none else some (tpArg o.arg 12 2 - 0x4000), s.elapsed⟩ ∧
      t.rd Key.halterEvictions = satAdd u32Max (s.rd Key.halterEvictions) 1) ∧
  (∀ o b e w s, s.tpFront 0x11 = some o → tpBarred o.who = false → s.halterFind (tpArg o.arg 0 1) (tpArg o.arg 1 8) = some (e, .way w) → b = halterBucket (tpArg o.arg 0 1) (tpArg o.arg 1 8) → s.tables.overflow = [] →
    Gives (exec (.haDelete 0) s) fun t => (t.window o.who).code = 0 ∧ KMap.find t.tables.halter (4 * b + w) = none ∧
      ∀ k, k ≠ 4 * b + w → KMap.find t.tables.halter k = KMap.find s.tables.halter k) ∧
  (∀ o s, s.tpFront 0x11 = some o → tpBarred o.who = false → s.halterFind (tpArg o.arg 0 1) (tpArg o.arg 1 8) = none → Gives (exec (.haDelete 0) s) fun t => (t.window o.who).code = 0x10 ∧
    t.tables.halter = s.tables.halter) ∧
  (∀ o e p s, s.tpFront 0x12 = some o → s.halterFind (tpArg o.arg 0 1) (tpArg o.arg 1 8) = some (e, p) → Gives (exec (.haRead 0) s) fun t => (t.window o.who).code = 0 ∧
    (t.window o.who).ret.take 12 = leBytes 12 e.raw ∧ t.tables.halter = s.tables.halter) ∧
  (∀ o s, s.tpFront 0x12 = some o → s.halterFind (tpArg o.arg 0 1) (tpArg o.arg 1 8) = none → Gives (exec (.haRead 0) s) fun t => (t.window o.who).code = 0x10 ∧ t.tables.halter = s.tables.halter) ∧
  (∀ o e s, s.tpFront 0x13 = some o → KMap.find s.tables.halter (4 * tpArg o.arg 0 2) = some e → Gives (exec (.haReadBucket 0) s) fun t => (t.window o.who).code = 0 ∧
    (t.window o.who).ret.take 12 = leBytes 12 e.raw ∧ t.tables.halter = s.tables.halter) ∧
  (∀ o e s, s.tpFront 0x13 = some o → KMap.find s.tables.halter (4 * tpArg o.arg 0 2) = some e → leBytes 12 e.raw ≠ zeros 12 →
    Gives (exec (.haReadBucket 1) s) fun t => (t.window o.who).code = 0x16 ∧
    KMap.find t.tables.halter (4 * tpArg o.arg 0 2) = none ∧ t.rd Key.halterParityErr = satAdd u32Max (s.rd Key.halterParityErr) 1) ∧
  (∀ o bad s, tpBarred o.who = true →
    (s.tpFront 0x10 = some o → Gives (exec (.haInsert bad) s) fun t => (t.window o.who).code = 0x11 ∧ t.tables.halter = s.tables.halter) ∧
    (s.tpFront 0x11 = some o → Gives (exec (.haDelete bad) s) fun t => (t.window o.who).code = 0x11 ∧ t.tables.halter = s.tables.halter)) ∧
  (∀ bad s, (s.tpFront 0x10 = none → Gives (exec (.haInsert bad) s) fun t => t = s) ∧ (s.tpFront 0x11 = none → Gives (exec (.haDelete bad) s) fun t => t = s) ∧
    (s.tpFront 0x12 = none → Gives (exec (.haRead bad) s) fun t => t = s) ∧ (s.tpFront 0x13 = none → Gives (exec (.haReadBucket bad) s) fun t => t = s)) ∧
  (∀ dt s, s.tables.ageNext ≤ (s.advance dt).elapsed → Gives (exec (.halterAgeing dt) s) fun t => t.tables.ageNext = s.tables.ageNext + ms 4096000 ∧
    t.tables.halter = s.tables.halter.map (fun p => (p.1, if p.2.setAt = (s.advance dt).elapsed ∧ p.2.age = 0 then p.2 else { p.2 with age := min 15 (p.2.age + 1) })) ∧
    t.tables.prefixes = s.tables.prefixes) ∧
  (∀ dt s, (s.advance dt).elapsed < s.tables.ageNext → Gives (exec (.halterAgeing dt) s) fun t => t = s.advance dt)

/-- From R339, R371 to R374, R378 to R383, R510: the key operation at the front of the port's queue runs with its packed arguments. In the keyed state one
with legal arguments writes a valid slot with its next
generation and no use, whose origin, parent and depth are the operation's, and leaves every other slot; an unkeyed Keeper answers 0x27 and an occupied
slot 0x20; where another operation or none stands at the
front, nothing happens. A sweep that is due frees every orphan.
For each of these commands it concludes that exec answers a next state (`Gives`), on conditions of state and operands alone:
kGenerate, kDerive, kImport, kExport, kInvalidate, kReadAttr, kLinkWrap, orphanSweep. -/
def Obligations.KeySlots : Prop :=
  (∀ o n s, s.tpFront 0x20 = some o → tpBarred o.who = false → s.keyed = true → n = tpArg o.arg 0 2 → 2 ≤ n → n ≤ 4095 → attrOk (tpArg o.arg 2 1) (tpArg o.arg 3 1) = true → tpArg o.arg 4 1 ≤ 1 → s.slotUsable n = false →
    Gives (exec .kGenerate s) fun t => (t.window o.who).code = 0 ∧ (t.slot n).valid = true ∧ (t.slot n).gen = nextGen (s.slot n).gen ∧ (t.slot n).uses = 0 ∧
      (t.slot n).origin = 1 ∧ (t.slot n).alg = tpArg o.arg 2 1 ∧ (t.slot n).use = tpArg o.arg 3 1 ∧ (t.slot n).key.length = keyBits (tpArg o.arg 2 1) / 8 ∧
      (∀ m, m ≠ n → t.slot m = s.slot m) ∧ t.tables.ops = s.tables.ops.drop 1) ∧
  (∀ o n s, s.tpFront 0x20 = some o → tpBarred o.who = false → s.keyed = true → n = tpArg o.arg 0 2 → 2 ≤ n → n ≤ 4095 → attrOk (tpArg o.arg 2 1) (tpArg o.arg 3 1) = true → tpArg o.arg 4 1 ≤ 1 → s.slotUsable n = true →
    Gives (exec .kGenerate s) fun t => (t.window o.who).code = 0x20 ∧ t.keeper = s.keeper) ∧
  (∀ o s, s.tpFront 0x20 = some o → tpBarred o.who = false → s.keyed = false → Gives (exec .kGenerate s) fun t =>
    (t.window o.who).code = 0x27 ∧ t.keeper = s.keeper ∧ t.vbat = s.vbat) ∧
  (∀ o p n s, s.tpFront 0x21 = some o → tpBarred o.who = false → s.keyed = true → p = tpArg o.arg 0 2 → n = tpArg o.arg 2 2 → 2 ≤ n → n ≤ 4095 → 2 ≤ p → p ≤ 4095 →
    attrOk (tpArg o.arg 16 1) (tpArg o.arg 17 1) = true → tpArg o.arg 18 1 ≤ 1 → s.slotUsable n = false → s.sourceCheck p useDerive = none → (s.slot p).depth ≤ 7 →
    Gives (exec .kDerive s) fun t => (t.window o.who).code = 0 ∧ (t.slot n).valid = true ∧ (t.slot n).origin = 2 ∧ (t.slot n).parent = p ∧
      (t.slot n).parentGen = (s.slot p).gen ∧ (t.slot n).depth = (s.slot p).depth + 1 ∧ (t.slot p).uses = satAdd u32Max (s.slot p).uses 1 ∧
      (t.slot n).key = Crypto.kdf (Crypto.ofBytes (s.slot p).key) (slice (slice o.arg 4 12) 0 12) (tpArg o.arg 16 1) (tpArg o.arg 17 1) (s.slot p).gen (keyBits (tpArg o.arg 16 1))) ∧
  (∀ o n alg s, s.tpFront 0x22 = some o → tpBarred o.who = false → s.keyed = true → n = tpArg o.arg 0 2 → 2 ≤ n → n ≤ 4095 → tpArg o.arg 2 2 = 0xFFFF → alg = bits (tpArg o.arg 4 32) 236 4 →
    attrOk alg (bits (tpArg o.arg 4 32) 240 5) = true → s.slotUsable n = false →
    Gives (exec .kImport s) fun t => (t.window o.who).code = 0 ∧ (t.slot n).valid = true ∧ (t.slot n).origin = 4 ∧ (t.slot n).key = slice o.arg 36 (keyBits alg / 8) ∧
      (t.slot n).exportable = bitOf (tpArg o.arg 4 32) 252 ∧ ∀ m, m ≠ n → t.slot m = s.slot m) ∧
  (∀ o n w s, s.tpFront 0x23 = some o → tpBarred o.who = false → s.keyed = true → n = tpArg o.arg 0 2 → 2 ≤ n → n ≤ 4095 → w = tpArg o.arg 2 2 → 2 ≤ w → w ≤ 4095 → s.slotUsable n = true →
    s.sourceCheck w useWrap = none → (s.slot n).exportable = true →
    Gives (exec .kExport s) fun t => (t.window o.who).code = 0 ∧ (t.window o.who).ret = slice (Crypto.keyWrap (s.slot w).key (s.slot n).key) 0 128 ∧
      (t.slot w).uses = satAdd u32Max (s.slot w).uses 1) ∧
  (∀ o n w s, s.tpFront 0x23 = some o → tpBarred o.who = false → s.keyed = true → n = tpArg o.arg 0 2 → 2 ≤ n → n ≤ 4095 → w = tpArg o.arg 2 2 → 2 ≤ w → w ≤ 4095 → s.slotUsable n = true →
    s.sourceCheck w useWrap = none → (s.slot n).exportable = false → Gives (exec .kExport s) fun t =>
    (t.window o.who).code = 0x23 ∧ (t.window o.who).ret = zeros 128 ∧ t.keeper = s.keeper) ∧
  (∀ o n s, s.tpFront 0x24 = some o → tpBarred o.who = false → s.keyed = true → n = tpArg o.arg 0 2 → 2 ≤ n → n ≤ 4095 → (s.slot n).valid = true → Gives (exec .kInvalidate s) fun t =>
    (t.window o.who).code = 0 ∧ (t.slot n).valid = false ∧ (t.slot n).gen = nextGen (s.slot n).gen ∧ t.keeper.sweepDue = true ∧ ∀ m, m ≠ n → t.slot m = s.slot m) ∧
  (∀ o n s, s.tpFront 0x25 = some o → n = tpArg o.arg 0 2 → n ≤ 4095 → Gives (exec .kReadAttr s) fun t => (t.window o.who).code = 0 ∧
    (t.window o.who).ret = slice (leBytes 32 (s.attrRaw n)) 0 128 ∧ t.keeper = s.keeper) ∧
  (∀ o s, s.tpFront 0x26 = some o → tpBarred o.who = false → s.keyed = true → tpArg o.arg 0 2 = 0xFFFF → s.slotUsable 1 = true → Gives (exec .kLinkWrap s) fun t =>
    (t.window o.who).code = 0 ∧ (t.slot 1).uses = satAdd u32Max (s.slot 1).uses 1 ∧
      (t.window o.who).ret = slice (Crypto.keyWrap (s.slot 1).key (slice o.arg 2 16) ++ leBytes 2 s.vbat.rootGen ++ leBytes 1 1 ++ zeros 5) 0 128) ∧
  (∀ s, (s.tpFront 0x20 = none → Gives (exec .kGenerate s) fun t => t = s) ∧ (s.tpFront 0x21 = none → Gives (exec .kDerive s) fun t => t = s) ∧
    (s.tpFront 0x22 = none → Gives (exec .kImport s) fun t => t = s) ∧ (s.tpFront 0x23 = none → Gives (exec .kExport s) fun t => t = s) ∧
    (s.tpFront 0x24 = none → Gives (exec .kInvalidate s) fun t => t = s) ∧ (s.tpFront 0x25 = none → Gives (exec .kReadAttr s) fun t => t = s) ∧
    (s.tpFront 0x26 = none → Gives (exec .kLinkWrap s) fun t => t = s)) ∧
  (∀ s, s.keeper.sweepDue = true → Gives (exec .orphanSweep s) fun t => (∀ n, (s.slot n).valid = true → s.slotUsable n = false → (t.slot n).valid = false) ∧
    (∀ n, s.slotUsable n = true → t.slot n = s.slot n) ∧ t.keeper.sweepDue = false) ∧
  (∀ s, s.keeper.sweepDue = false → Gives (exec .orphanSweep s) fun t => t = s)

/-- From R366 to R370, R384: a provisioning run makes a root with the next generation and epoch 1 and frees every slot above 1; its command while keyed
ends with code 1 at once; an enabled tamper source that is
detected zeroes the root, and its report frees every slot but slot 0 and ends the runs in progress; a low battery zeroes the root without the flag; an
attestation of a usable slot ends done.
For each of these commands it concludes that exec answers a next state (`Gives`), on conditions of state and operands alone:
keeperProvision, tamperDetect, tamperReport, vbatLowZero, attest. -/
def Obligations.KeeperStates : Prop :=
  (∀ s, (s.res Key.keeperProvisionRes).busy = true → Gives (exec .keeperProvision s) fun t => t.keyed = true ∧ t.vbat.root ≠ none ∧ t.vbat.rootGen = (s.vbat.rootGen + 1) % 65536 ∧
    t.vbat.epochE = 1 ∧ t.vbat.tamper = false ∧ (t.res Key.keeperProvisionRes).outcome = 1 ∧ ∀ n, 2 ≤ n → (t.slot n).valid = false) ∧
  (∀ s, (s.res Key.keeperProvisionRes).busy = false → Gives (exec .keeperProvision s) fun t => t = s) ∧
  (∀ (s : State), s.keyed = true → s.provisionCmd.vbat = s.vbat ∧ s.provisionCmd.keeper = s.keeper ∧ (s.provisionCmd.res Key.keeperProvisionRes).outcome = 2 ∧
    (s.provisionCmd.res Key.keeperProvisionRes).code = 1 ∧ (s.provisionCmd.res Key.keeperProvisionRes).busy = false) ∧
  (∀ x s, Nat.land (tamperSources x) s.tamperMask = 0 → Gives (exec (.tamperDetect x) s) fun t => t = s) ∧
  (∀ x s, Nat.land (tamperSources x) s.tamperMask ≠ 0 → s.rd Key.pwrState ≠ 0 → Gives (exec (.tamperDetect x) s) fun t => t.vbat.root = none ∧ t.vbat.tamper = true ∧
    t.vbat.tamperLast = Nat.land (tamperSources x) s.tamperMask ∧ t.rd Key.keeperState = 2 ∧ t.keeper.unreported = true ∧ t.keeper.slots = s.keeper.slots) ∧
  (∀ s, s.keeper.unreported = true → Gives (exec .tamperReport s) fun t => (∀ n, 1 ≤ n → (t.slot n).valid = false) ∧ t.slot 0 = s.slot 0 ∧ t.keeper.fc = [] ∧
    t.rd Key.keeperState = 2 ∧ t.keeper.unreported = false ∧ t.keeper.attesting = none ∧ Posted s t .tamperZeroised 0x5000) ∧
  (∀ s, s.keeper.unreported = false → Gives (exec .tamperReport s) fun t => t = s) ∧
  (∀ s, Gives (exec .vbatLowZero s) fun t => t.vbat.root = none ∧ t.vbat.tamper = s.vbat.tamper ∧ t.keeper = s.keeper) ∧
  (∀ n s, s.keeper.attesting = some n → n ≠ 0 → s.keyed = false → Gives (exec .attest s) fun t => (t.res Key.attestRes).outcome = 2 ∧ (t.res Key.attestRes).code = 2 ∧
    t.keeper = { s.keeper with attesting := none }) ∧
  (∀ n s, s.keeper.attesting = some n → s.keyed = true → s.slotUsable n = true → Gives (exec .attest s) fun t => (t.res Key.attestRes).outcome = 1 ∧
    (t.res Key.attestRes).seq = nextResSeq (s.res Key.attestRes).seq ∧
    (t.res Key.attestRes).data = s.statement n ++ Crypto.ecdsaSign s.identityKey (s.statement n) ∧ t.keeper.attesting = none) ∧
  (∀ s, s.keeper.attesting = none → Gives (exec .attest s) fun t => t = s)

/-- From Table 15-2, R398 to R401: commands move a campaign between idle, loading, running and paused, others end with code 6; a load whose checks pass
runs with the owned targets and its deadline, one without a target store fails with code 5;
an announcement that is due goes out again; at its deadline a campaign with pending targets has failed.
For each of these commands it concludes that exec answers a next state (`Gives`), on conditions of state and operands alone:
campStart, campPause, campResume, campStop, campLoadDone, announceResend, campDeadline. -/
def Obligations.CampaignStates : Prop :=
  (∀ (k : Fin 16) s, s.cmdBlocked (Key.campRes k) = false → (s.campSt k = 0 ∨ s.campSt k = 4 ∨ s.campSt k = 5) → Gives (exec (.campStart k) s) fun t =>
    t.campSt k = 1 ∧ (t.res (Key.campRes k)).busy = true ∧ (t.camp k).started = s.elapsed ∧ (t.camp k).targets = []) ∧
  (∀ (k : Fin 16) s, s.cmdBlocked (Key.campRes k) = false → (s.campSt k = 2 ∨ s.campSt k = 3) → Gives (exec (.campStart k) s) fun t =>
    t.campSt k = s.campSt k ∧ (t.res (Key.campRes k)).outcome = 2 ∧ (t.res (Key.campRes k)).code = 6 ∧ t.lacing = s.lacing) ∧
  (∀ (k : Fin 16) s, s.cmdBlocked (Key.campRes k) = false → s.campSt k = 2 → Gives (exec (.campPause k) s) fun t => t.campSt k = 3 ∧ (t.res (Key.campRes k)).outcome = 1 ∧
    t.camp k = { s.camp k with failing := none } ∧ ∀ j, j ≠ k.val → t.camp j = s.camp j) ∧
  (∀ (k : Fin 16) s, s.cmdBlocked (Key.campRes k) = false → s.campSt k = 3 → ((s.camp k).everDone = false ∨ ∃ u ∈ (s.camp k).targets, u.done = false) →
    Gives (exec (.campResume k) s) fun t => t.campSt k = 2 ∧ (t.res (Key.campRes k)).outcome = 1 ∧
    (t.camp k).burst = s.nextBurst k s.freshAsn) ∧
  (∀ (k : Fin 16) s, s.cmdBlocked (Key.campRes k) = false → (s.campSt k = 2 ∨ s.campSt k = 3) → Gives (exec (.campStop k) s) fun t => t.campSt k = 5 ∧
    (t.res (Key.campRes k)).outcome = 1 ∧ t.har.arrivals.length = s.har.arrivals.length + (s.camp k).targets.length ∧ Posted s t .laceFailed (0x5110 + k)) ∧
  (∀ (k : Fin 16) s, s.cmdBlocked (Key.campRes k) = true → Gives (exec (.campStart k) s) (fun t => t = s) ∧ Gives (exec (.campPause k) s) (fun t => t = s) ∧
    Gives (exec (.campResume k) s) (fun t => t = s) ∧ Gives (exec (.campStop k) s) (fun t => t = s)) ∧
  (∀ (k : Fin 16) got bad dt s, s.campSt k ≠ 1 → Gives (exec (.campLoadDone k got bad dt) s) fun t => t = s.advance dt) ∧
  (∀ (k : Fin 16) got bad dt s, s.campSt k = 1 → s.targetStore = none → Gives (exec (.campLoadDone k got bad dt) s) fun t => t.campSt k = 5 ∧
    (t.res (Key.campRes k)).outcome = 2 ∧ (t.res (Key.campRes k)).code = 5 ∧ t.lacing = s.lacing) ∧
  (∀ (k : Fin 16) got bad dt region owned s, s.campSt k = 1 → region = (s.advance dt).imageRegion k got bad →
    owned = ((euiList (s.targetBytes k)).filterMap (fun e => s.ownedRecord (s.rd (Key.campTenant k)) e)).filter (fun r => !(s.nrec r).compat) →
    (s.advance dt).loadCheck k region owned = none → s.targetsBad k = false →
    Gives (exec (.campLoadDone k got bad dt) s) fun t => t.campSt k = 2 ∧ (t.res (Key.campRes k)).outcome = 1 ∧ (t.camp k).crc = Crypto.crc32c (region.drop 64) ∧
      (t.camp k).targets.map (·.record) = owned ∧ (t.camp k).deadline = (s.advance dt).clock.sec + fieldLe (region.take 64) 20 4 ∧
      t.har.arrivals.length = s.har.arrivals.length + owned.length) ∧
  (∀ (k : Fin 16) got bad dt region owned s, s.campSt k = 1 → region = (s.advance dt).imageRegion k got bad →
    owned = ((euiList (s.targetBytes k)).filterMap (fun e => s.ownedRecord (s.rd (Key.campTenant k)) e)).filter (fun r => !(s.nrec r).compat) →
    (s.advance dt).loadCheck k region owned = none → s.targetsBad k = true →
    Gives (exec (.campLoadDone k got bad dt) s) fun t => t.campSt k = 5 ∧ (t.res (Key.campRes k)).code = 2 ∧ Posted (s.advance dt) t .laceFailed (0x5110 + k)) ∧
  (∀ (k : Fin 16) (r : Fin 16384) dt u s, s.campSt k = 2 → (s.camp k).targets.find? (fun x => x.record == r.val) = some u → u.done = false →
    u.heardAt + ms (1000 * (s.camp k).announceS) ≤ (s.advance dt).elapsed → Gives (exec (.announceResend k r dt) s) fun t => ∃ a, t.har.arrivals = s.har.arrivals ++ [a] ∧
      a.h = 11 ∧ a.info = .lacing k (shortOf r)) ∧
  (∀ (k : Fin 16) (r : Fin 16384) dt s, s.campSt k ≠ 2 → Gives (exec (.announceResend k r dt) s) fun t => t = s.advance dt) ∧
  (∀ (k : Fin 16) dt s, (s.campSt k = 2 ∨ s.campSt k = 3) → (s.camp k).running + ms (1000 * (s.camp k).deadlineS) ≤ (s.advance dt).elapsed → s.rd (Key.campPending k) ≠ 0 →
    Gives (exec (.campDeadline k dt) s) fun t => t.campSt k = 5 ∧ Posted (s.advance dt) t .laceFailed (0x5110 + k)) ∧
  (∀ (k : Fin 16) dt s, (s.campSt k = 2 ∨ s.campSt k = 3) → (s.camp k).running + ms (1000 * (s.camp k).deadlineS) ≤ (s.advance dt).elapsed → s.rd (Key.campPending k) = 0 →
    Gives (exec (.campDeadline k dt) s) fun t => t.campSt k = 4 ∧ Posted (s.advance dt) t .laceDone (0x5110 + k))

/-- From R250, R407, R409 to R412: a burst whose entry has not fired changes nothing; one that Cinch grants plans one frame for each symbol of its fill,
and one it refuses holds them for the stream's next burst; a
read that fails is noted, its symbols wait, and after 60 s it fails the campaign, as does a block that differs from its checksum; a report of STATUS 1
marks its target done.
For each of these commands it concludes that exec answers a next state (`Gives`), on conditions of state and operands alone:
burstPlanning, laceReadFail, laceReportTake. -/
def Obligations.CampaignBursts : Prop :=
  (∀ (k : Fin 16) got bad dt s, s.girth.sched.fired.any (fun e => e.due == .burst k.val (s.camp k).burst) = false →
    Gives (exec (.burstPlanning k got bad dt) s) fun t => t = s.advance dt) ∧
  (∀ (k : Fin 16) got bad dt x f freq p fill s, s.campSt k = 2 → s.girth.sched.fired.map (·.due) = [.burst k.val (s.camp k).burst] →
    (s.advance dt).nowNs < s.slotStart (s.camp k).burst → s.served (s.rd (Key.campTenant k)) = some f → (s.camp k).streams = [x] →
    s.hop (s.rd (Key.campTenant k)) (x.mode == 1) (s.camp k).burst (8 + x.mode) = some (freq, p) →
    fill = laceFill (64 + 1000 * (s.camp k).a) (blocksOf (s.rd (Key.campImageBytes k)))
      (s.burstFrames (s.camp k) (frameUs x.mode (s.symbolOctets (s.rd (Key.campTenant k)))) (s.burstGap p freq)) x → fill.symbols ≠ [] →
    s.burstUnread k ((s.advance dt).imageNow k got) bad fill.symbols = false →
    (∀ z ∈ fill.symbols, Crypto.crc32c (blockOf ((s.advance dt).imageNow k got) z.1) = (s.camp k).blockCrc.getD z.1 0) →
    (s.grant (some 1) (fill.symbols.length * (s.laceUj + s.txEnergy (airUs x.mode (s.symbolOctets (s.rd (Key.campTenant k)))) (min s.topPower (2 * (s.camp k).drvDbm))))).2 = true →
    Gives (exec (.burstPlanning k got bad dt) s) fun t => t.campSt k = 2 ∧
      (t.camp k).planned.map (fun g => (g.z, g.x)) = (s.camp k).planned.map (fun g => (g.z, g.x)) ++ fill.symbols ∧ t.girth.sched.fired = []) ∧
  (∀ (k : Fin 16) got bad dt x f freq p fill s, s.campSt k = 2 → s.girth.sched.fired.map (·.due) = [.burst k.val (s.camp k).burst] →
    (s.advance dt).nowNs < s.slotStart (s.camp k).burst → s.served (s.rd (Key.campTenant k)) = some f → (s.camp k).streams = [x] →
    s.hop (s.rd (Key.campTenant k)) (x.mode == 1) (s.camp k).burst (8 + x.mode) = some (freq, p) →
    fill = laceFill (64 + 1000 * (s.camp k).a) (blocksOf (s.rd (Key.campImageBytes k)))
      (s.burstFrames (s.camp k) (frameUs x.mode (s.symbolOctets (s.rd (Key.campTenant k)))) (s.burstGap p freq)) x → fill.symbols ≠ [] →
    s.burstUnread k ((s.advance dt).imageNow k got) bad fill.symbols = false →
    (∀ z ∈ fill.symbols, Crypto.crc32c (blockOf ((s.advance dt).imageNow k got) z.1) = (s.camp k).blockCrc.getD z.1 0) →
    (s.grant (some 1) (fill.symbols.length * (s.laceUj + s.txEnergy (airUs x.mode (s.symbolOctets (s.rd (Key.campTenant k)))) (min s.topPower (2 * (s.camp k).drvDbm))))).2 = false →
    Gives (exec (.burstPlanning k got bad dt) s) fun t => t.campSt k = 2 ∧ (t.camp k).planned = (s.camp k).planned ∧
      ∃ y, (t.camp k).streams = [y] ∧ y.again = fill.symbols ++ fill.stream.again) ∧
  (∀ (k : Fin 16) got bad dt x f freq p fill s, s.campSt k = 2 → s.girth.sched.fired.map (·.due) = [.burst k.val (s.camp k).burst] →
    (s.advance dt).nowNs < s.slotStart (s.camp k).burst → s.served (s.rd (Key.campTenant k)) = some f → (s.camp k).streams = [x] →
    s.hop (s.rd (Key.campTenant k)) (x.mode == 1) (s.camp k).burst (8 + x.mode) = some (freq, p) →
    fill = laceFill (64 + 1000 * (s.camp k).a) (blocksOf (s.rd (Key.campImageBytes k)))
      (s.burstFrames (s.camp k) (frameUs x.mode (s.symbolOctets (s.rd (Key.campTenant k)))) (s.burstGap p freq)) x → fill.symbols ≠ [] →
    s.burstUnread k ((s.advance dt).imageNow k got) bad fill.symbols = true →
    Gives (exec (.burstPlanning k got bad dt) s) fun t => t.campSt k = 2 ∧ (t.camp k).failing = some ((s.camp k).failing.getD (s.advance dt).elapsed) ∧
      (t.camp k).planned = (s.camp k).planned ∧ ∃ y, (t.camp k).streams = [y] ∧ y.again = fill.symbols ++ fill.stream.again) ∧
  (∀ (k : Fin 16) got bad dt x f freq p fill s, s.campSt k = 2 → s.girth.sched.fired.map (·.due) = [.burst k.val (s.camp k).burst] →
    (s.advance dt).nowNs < s.slotStart (s.camp k).burst → s.served (s.rd (Key.campTenant k)) = some f → (s.camp k).streams = [x] →
    s.hop (s.rd (Key.campTenant k)) (x.mode == 1) (s.camp k).burst (8 + x.mode) = some (freq, p) →
    fill = laceFill (64 + 1000 * (s.camp k).a) (blocksOf (s.rd (Key.campImageBytes k)))
      (s.burstFrames (s.camp k) (frameUs x.mode (s.symbolOctets (s.rd (Key.campTenant k)))) (s.burstGap p freq)) x → fill.symbols ≠ [] →
    s.burstUnread k ((s.advance dt).imageNow k got) bad fill.symbols = false →
    (∃ z ∈ fill.symbols, Crypto.crc32c (blockOf ((s.advance dt).imageNow k got) z.1) ≠ (s.camp k).blockCrc.getD z.1 0) →
    Gives (exec (.burstPlanning k got bad dt) s) fun t => t.campSt k = 5 ∧ (t.camp k).planned = (s.camp k).planned) ∧
  (∀ (k : Fin 16) dt a s, (s.camp k).failing = some a → s.campSt k = 2 → a + ms 60000 ≤ (s.advance dt).elapsed → Gives (exec (.laceReadFail k dt) s) fun t =>
    t.campSt k = 5 ∧ Posted (s.advance dt) t .laceFailed (0x5110 + k)) ∧
  (∀ (k : Fin 16) dt s, (s.camp k).failing = none → Gives (exec (.laceReadFail k dt) s) fun t => t = s.advance dt) ∧
  (∀ i rest k u s, (s.strap 5).head = i :: rest → i.kind = 0 → i.poison = false → s.laceRunning (fieldLe i.data 2 1) (i.data.drop 3) = some k →
    (s.camp k).targets.find? (fun x => shortOf x.record == fieldLe i.data 0 2) = some u → fieldLe (i.data.drop 3) 4 1 = 1 →
    Gives (exec .laceReportTake s) fun t => ∃ v ∈ (t.camp k).targets, v.record = u.record ∧ v.done = true ∧ v.heardAt = s.elapsed) ∧
  (∀ s, (s.strap 5).head = [] → (s.strap 5).mid = [] → (s.strap 5).tail = [] → Gives (exec .laceReportTake s) fun t => t.lacing = s.lacing ∧ t.dict = s.dict)

/-- From R419, R425, R427, R428: a seat outside the window ends with code 1, one inside it seats the running bank with the next sequence; a wipe of the
running bank is refused, one of the idle bank leaves it blank from its start (log 143); a switch
whose checks pass starts the idle bank in trial by a reset; an expired window rejects the bank on trial.
For each of these commands it concludes that exec answers a next state (`Gives`), on conditions of state and operands alone:
seatOk, bankWipe, bankWipeDone, treeSwitch, seatWindowExpiry. -/
def Obligations.TreeBanks : Prop :=
  (∀ s, s.cmdBlocked Key.seatOkRes = false → s.tree.window = none → Gives (exec .seatOk s) fun t => t.tree = s.tree ∧ (t.res Key.seatOkRes).outcome = 2 ∧ (t.res Key.seatOkRes).code = 1) ∧
  (∀ s, (s.cmdBlocked Key.seatOkRes = true ∨ s.seatLate = true) → Gives (exec .seatOk s) fun t => t = s) ∧
  (∀ w s, s.cmdBlocked Key.seatOkRes = false → s.tree.window = some w → s.seatLate = false → s.runBank ≤ 1 → Gives (exec .seatOk s) fun t => t.tree.window = none ∧ (t.bank s.runBank).st = .seated ∧
    (t.bank s.runBank).seat = max s.tree.a.seat s.tree.b.seat + 1 ∧ (t.bank s.runBank).image = (s.bank s.runBank).image ∧ t.bank (1 - s.runBank) = s.bank (1 - s.runBank) ∧
    (t.res Key.seatOkRes).outcome = 1 ∧ Posted s t .treeSeated 0x5200) ∧
  (∀ (b : Fin 2) s, s.cmdBlocked Key.bankWipeRes = false → b.val = s.runBank → s.tree.rom = false → Gives (exec (.bankWipe b) s) fun t => t.tree = s.tree ∧
    (t.res Key.bankWipeRes).outcome = 2 ∧ (t.res Key.bankWipeRes).code = 1) ∧
  (∀ (b : Fin 2) s, s.cmdBlocked Key.bankWipeRes = false → b.val ≠ s.runBank → s.tree.window = none → s.treeOpen = false → Gives (exec (.bankWipe b) s) fun t =>
    t.tree.wiping = some b.val ∧ (t.res Key.bankWipeRes).busy = true ∧ (t.bank b).st = .blank ∧ (t.bank b).image = [] ∧ t.bank (1 - b.val) = s.bank (1 - b.val)) ∧
  (∀ b s, s.tree.wiping = some b → Gives (exec .bankWipeDone s) fun t => t.tree = { s.tree with wiping := none } ∧
    (t.res Key.bankWipeRes).outcome = 1) ∧
  (∀ s, s.tree.wiping = none → Gives (exec .bankWipeDone s) fun t => t = s) ∧
  (∀ c s, s.cmdBlocked Key.treeSwitchRes = false → s.switchBad = some c → Gives (exec .treeSwitch s) fun t => t.tree = s.tree ∧ (t.res Key.treeSwitchRes).code = c ∧
    t.dict.ready = s.dict.ready) ∧
  (∀ s, s.cmdBlocked Key.treeSwitchRes = false → s.switchBad = none → s.runBank ≤ 1 → (s.bank s.runBank).st ≠ .armed → Gives (exec .treeSwitch s) fun t =>
    (t.bank s.idleBank).st = .trial ∧ t.tree.rom = false ∧ t.dict.ready = false ∧ t.power.start = some ⟨false, 6, false, s.elapsed⟩) ∧
  (∀ dt b s, (s.advance dt).seatExpired = true → b ≤ 1 → (s.bank b).st = .trial → s.tree.a.st ≠ .armed → s.tree.b.st ≠ .armed → Gives (exec (.seatWindowExpiry dt) s) fun t =>
    (t.bank b).st = .rejected ∧ t.tree.window = none ∧ t.dict.ready = false) ∧
  (∀ dt s, (s.advance dt).seatExpired = false → Gives (exec (.seatWindowExpiry dt) s) fun t => t = s.advance dt)

/-- From R432, R434, R437, R441, R446, Table 17-1: a step within the limit moves a free or held time by its nanoseconds, one above it is refused and
posted, one while locked ends with code 2; only the head takes TIME_SET and IEEE 1588
samples; a lock without a sample for 4 intervals is in holdover; where the seconds of a locked time carry, the RTC takes them; a snapshot holds the
present time.
For each of these commands it concludes that exec answers a next state (`Gives`), on conditions of state and operands alone:
timeStep, timeSet, ptpSample, holdoverTimeout, rtcWrite, timeSnapshot. -/
def Obligations.TimeKeeping : Prop :=
  (∀ delta s, s.cmdBlocked Key.timeStepRes = false → (s.clock.state = 1 ∨ s.clock.state = 2) → s.dict.txn = none → Gives (exec (.timeStep delta) s) fun t =>
    t.clock = s.clock ∧ (t.res Key.timeStepRes).code = 2) ∧
  (∀ delta s, s.cmdBlocked Key.timeStepRes = false → (s.clock.state = 0 ∨ s.clock.state = 3) → s.dict.txn = none → s.rd Key.timeJumpLimitNs < delta.natAbs →
    Gives (exec (.timeStep delta) s) fun t => t.clock = s.clock ∧ (t.res Key.timeStepRes).code = 1 ∧ t.rd Key.jumpRefused = satAdd u32Max (s.rd Key.jumpRefused) 1 ∧
      Posted s t .jumpRefused 0x1800) ∧
  (∀ delta s, s.cmdBlocked Key.timeStepRes = false → (s.clock.state = 0 ∨ s.clock.state = 3) → s.dict.txn = none → delta.natAbs ≤ s.rd Key.timeJumpLimitNs →
    0 ≤ (s.nowNs : Int) + delta → (s.nowNs : Int) + delta < 2 ^ 48 * 1000000000 →
    Gives (exec (.timeStep delta) s) fun t => (t.nowNs : Int) = s.nowNs + delta ∧ t.clock.elapsed = s.clock.elapsed ∧ (t.res Key.timeStepRes).outcome = 1 ∧
      t.clock.stepGen = if s.isHead then (s.clock.stepGen + 1) % 65536 else s.clock.stepGen) ∧
  (∀ (sec : Fin 281474976710656) (ns : Fin 1000000000) s, s.cmdBlocked Key.timeSetRes = false → s.isHead = true → s.dict.txn = none → Gives (exec (.timeSet sec ns) s) fun t =>
    t.clock.sec = sec ∧ t.clock.ns = ns ∧ t.clock.frac = 0 ∧ t.clock.elapsed = s.clock.elapsed ∧ (t.res Key.timeSetRes).outcome = 1) ∧
  (∀ sec ns s, s.isHead = false → s.dict.txn = none → Gives (exec (.timeSet sec ns) s) fun t => t = s) ∧
  (∀ x dt s, (s.isHead = false ∨ s.rd Key.timeSource ≠ 1 ∨ s.ptpPort = none) → s.dict.txn = none → Gives (exec (.ptpSample x dt) s) fun t => t = s.advance dt) ∧
  (∀ x off dt s, s.isHead = true → s.rd Key.timeSource = 1 → s.ptpPort ≠ none → s.dict.txn = none → s.clock.state = 2 → off = ptpOffset x → off.natAbs ≤ s.rd Key.timeJumpLimitNs → off.natAbs ≤ 1000 →
    Gives (exec (.ptpSample x dt) s) fun t => t.clock.state = 2 ∧ t.clock.integ = corrClamp (s.clock.integ + off) ∧ t.clock.corr = corrClamp (corrClamp (s.clock.integ + off) + 8 * off) ∧
      t.nowNs = (s.advance dt).nowNs ∧ t.clock.lastSample = (s.advance dt).elapsed ∧ t.clock.syncUs = x.syncUs) ∧
  (∀ x off dt s, s.isHead = true → s.rd Key.timeSource = 1 → s.ptpPort ≠ none → s.dict.txn = none → s.clock.state = 2 → off = ptpOffset x → s.rd Key.timeJumpLimitNs < off.natAbs →
    Gives (exec (.ptpSample x dt) s) fun t => t.clock.state = 3 ∧ t.rd Key.jumpRefused = satAdd u32Max (s.rd Key.jumpRefused) 1) ∧
  (∀ dt s, s.clock.state = 1 → s.clock.lastSample + us 250000 ≤ (s.advance dt).elapsed → Gives (exec (.holdoverTimeout dt) s) fun t => t.clock.state = 3 ∧
    Posted (s.advance dt) t .timeHoldover 0x1800 ∧ t.nowNs = (s.advance dt).nowNs) ∧
  (∀ dt s, s.clock.state = 2 → s.clock.lastSample + 4 * us s.clock.syncUs ≤ (s.advance dt).elapsed → Gives (exec (.holdoverTimeout dt) s) fun t => t.clock.state = 3 ∧
    Posted (s.advance dt) t .timeHoldover 0x1800 ∧ t.nowNs = (s.advance dt).nowNs) ∧
  (∀ dt s, (s.clock.state = 0 ∨ s.clock.state = 3) → Gives (exec (.holdoverTimeout dt) s) fun t => t = s.advance dt) ∧
  (∀ dt s, (s.clock.state = 1 ∨ s.clock.state = 2) → s.dict.ready = true → carries s.clock s.increment dt = true → Gives (exec (.rtcWrite dt) s) fun t => t = s.advance dt ∧
    t.vbat = rtcWritten (if s.rd Key.pwrState = 0 then s.vbat else rtcAfter s.vbat dt) (s.advance dt).clock s.increment) ∧
  (∀ dt s, carries s.clock s.increment dt = false → Gives (exec (.rtcWrite dt) s) fun t => t = s.advance dt ∧ t.vbat = if s.rd Key.pwrState = 0 then s.vbat else rtcAfter s.vbat dt) ∧
  (∀ dt s, Gives (exec (.timeSnapshot dt) s) fun t => t.host.snap = (s.advance dt).time80 ∧ t.host.snapSeq = (s.host.snapSeq + 1) % 65536 ∧ t.clock = (s.advance dt).clock)

/-- From R448 to R450: arming a once output in time waits for its instant, too late it is posted as missed and the output is off; a pulse starts at its
instant and falls after its width, rounded up to the cycle; a high output takes new values after it falls.
For each of these commands it concludes that exec answers a next state (`Gives`), on conditions of state and operands alone:
tpoArm, tpoParamWrite, tpoRise, tpoFall. -/
def Obligations.PulseOutputs : Prop :=
  (∀ (k : Fin 4) s, (s.pulse k).fallAt = none → s.nowNs + 2000 ≤ timeNs (rawToTime (s.rd (Key.tpoStart k))) → Gives (exec (.tpoArm k 1) s) fun t =>
    t.rd (Key.tpoMode k) = 1 ∧ (t.pulse k).next = some (timeNs (rawToTime (s.rd (Key.tpoStart k)))) ∧ (t.pulse k).fallAt = none ∧ ∀ j, j ≠ k.val → t.pulse j = s.pulse j) ∧
  (∀ (k : Fin 4) s, (s.pulse k).fallAt = none → timeNs (rawToTime (s.rd (Key.tpoStart k))) < s.nowNs + 2000 → Gives (exec (.tpoArm k 1) s) fun t =>
    t.rd (Key.tpoMode k) = 0 ∧ t.pulse k = Pulse.off ∧ Posted s t .tpoMissed (0x1802 + k)) ∧
  (∀ (k : Fin 4) s, Gives (exec (.tpoArm k 0) s) fun t => t.rd (Key.tpoMode k) = 0 ∧ t.pulse k = Pulse.off ∧ t.pins.tpo.getD k true = false) ∧
  (∀ (k : Fin 4) m s, m.val ≠ 0 → (s.pulse k).fallAt ≠ none → Gives (exec (.tpoArm k m) s) fun t => (t.pulse k).arming = true ∧ (t.pulse k).fallAt = (s.pulse k).fallAt ∧
    (t.pulse k).run = (s.pulse k).run) ∧
  (∀ (k : Fin 4) start per wid s, start.ns < 1000000000 → start.sec < 2 ^ 48 → 1000 ≤ per → per ≤ 1000000000 → 8 ≤ wid → wid ≤ per - 8 → s.rd (Key.tpoMode k) = 0 →
    Gives (exec (.tpoParamWrite k start per wid) s) fun t => t.rd (Key.tpoStart k) = timeRaw start ∧ t.rd (Key.tpoPeriodNs k) = per ∧ t.rd (Key.tpoWidthNs k) = wid ∧ t.pulses = s.pulses) ∧
  (∀ (k : Fin 4) dt p at_ s, (s.pulse k).run = some p → (s.pulse k).next = some at_ → (s.pulse k).fallAt = none → at_ ≤ (s.advance dt).nowNs → Gives (exec (.tpoRise k dt) s) fun t =>
    (t.pulse k).fallAt = some ((s.advance dt).elapsed + (p.widthNs + 3) / 4) ∧ t.pins.tpo.getD k false = true ∧ (p.mode ≠ 2 → (t.pulse k).next = none) ∧
    t.buckle.edges = s.buckle.edges ++ [4 + k.val]) ∧
  (∀ (k : Fin 4) dt at_ s, (s.pulse k).next = some at_ → (s.advance dt).nowNs < at_ → Gives (exec (.tpoRise k dt) s) fun t => t = s.advance dt) ∧
  (∀ (k : Fin 4) dt f p s, (s.pulse k).fallAt = some f → f ≤ (s.advance dt).elapsed → (s.pulse k).run = some p → p.mode = 2 → (s.pulse k).arming = false → (s.pulse k).waiting = false →
    Gives (exec (.tpoFall k dt) s) fun t => (t.pulse k).fallAt = none ∧ (t.pulse k).next = (s.pulse k).next ∧ t.pins.tpo.getD k true = false) ∧
  (∀ (k : Fin 4) dt f s, (s.pulse k).fallAt = some f → (s.advance dt).elapsed < f → Gives (exec (.tpoFall k dt) s) fun t => t = s.advance dt)

/-- From R454, R456, R457, Tables 18-4 and 18-5: an instruction of the ALU group writes rd with its result of ra and rb, goes on to the next word, and
changes nothing else.
An instruction runs where the core runs and its word may be fetched at the pc (`GivesAt`: what a fetch may find is log 64).
For each of these commands it concludes that exec answers a next state (`Gives`), on conditions of state and operands alone:
add, sub, and, or, xor, sll, srl, sra, cmplt, cmpltu, mul, mulh, mulhu, div, divu, rem, remu, min, max, minu, maxu, clz, popc, bswap. -/
def Obligations.AluOfRegisters : Prop :=
  ∀ (r : CoreRun) (rd ra rb : Fin 32) (s : State), s.Fetches r.n →
    let a := (s.core r.n).g ra
    let b := (s.core r.n).g rb
    GivesAt s r.n (encR 0x01 rd ra rb 0) (exec (.add r rd ra rb) s) (fun t => s.WroteReg t r.n rd (a + b)) ∧
    GivesAt s r.n (encR 0x01 rd ra rb 1) (exec (.sub r rd ra rb) s) (fun t => s.WroteReg t r.n rd (a - b)) ∧
    GivesAt s r.n (encR 0x01 rd ra rb 2) (exec (.and r rd ra rb) s) (fun t => s.WroteReg t r.n rd (a &&& b)) ∧
    GivesAt s r.n (encR 0x01 rd ra rb 3) (exec (.or r rd ra rb) s) (fun t => s.WroteReg t r.n rd (a ||| b)) ∧
    GivesAt s r.n (encR 0x01 rd ra rb 4) (exec (.xor r rd ra rb) s) (fun t => s.WroteReg t r.n rd (a ^^^ b)) ∧
    GivesAt s r.n (encR 0x01 rd ra rb 5) (exec (.sll r rd ra rb) s) (fun t => s.WroteReg t r.n rd (a <<< (b.toNat % 32))) ∧
    GivesAt s r.n (encR 0x01 rd ra rb 6) (exec (.srl r rd ra rb) s) (fun t => s.WroteReg t r.n rd (a >>> (b.toNat % 32))) ∧
    GivesAt s r.n (encR 0x01 rd ra rb 7) (exec (.sra r rd ra rb) s) (fun t => s.WroteReg t r.n rd (BitVec.ofInt 32 (a.toInt / 2 ^ (b.toNat % 32)))) ∧
    GivesAt s r.n (encR 0x01 rd ra rb 8) (exec (.cmplt r rd ra rb) s) (fun t => s.WroteReg t r.n rd (if a.toInt < b.toInt then 1#32 else 0#32)) ∧
    GivesAt s r.n (encR 0x01 rd ra rb 9) (exec (.cmpltu r rd ra rb) s) (fun t => s.WroteReg t r.n rd (if a.toNat < b.toNat then 1#32 else 0#32)) ∧
    GivesAt s r.n (encR 0x01 rd ra rb 10) (exec (.mul r rd ra rb) s) (fun t => s.WroteReg t r.n rd (BitVec.ofNat 32 (a.toNat * b.toNat))) ∧
    GivesAt s r.n (encR 0x01 rd ra rb 11) (exec (.mulh r rd ra rb) s) (fun t => s.WroteReg t r.n rd (BitVec.ofInt 32 (a.toInt * b.toInt / 2 ^ 32))) ∧
    GivesAt s r.n (encR 0x01 rd ra rb 12) (exec (.mulhu r rd ra rb) s) (fun t => s.WroteReg t r.n rd (BitVec.ofNat 32 (a.toNat * b.toNat / 2 ^ 32))) ∧
    GivesAt s r.n (encR 0x01 rd ra rb 13) (exec (.div r rd ra rb) s) (fun t => s.WroteReg t r.n rd (if b = 0#32 then 0xFFFFFFFF#32 else BitVec.ofInt 32 (a.toInt.tdiv b.toInt))) ∧
    GivesAt s r.n (encR 0x01 rd ra rb 14) (exec (.divu r rd ra rb) s) (fun t => s.WroteReg t r.n rd (if b = 0#32 then 0xFFFFFFFF#32 else a / b)) ∧
    GivesAt s r.n (encR 0x01 rd ra rb 15) (exec (.rem r rd ra rb) s) (fun t => s.WroteReg t r.n rd (if b = 0#32 then a else BitVec.ofInt 32 (a.toInt.tmod b.toInt))) ∧
    GivesAt s r.n (encR 0x01 rd ra rb 16) (exec (.remu r rd ra rb) s) (fun t => s.WroteReg t r.n rd (if b = 0#32 then a else a % b)) ∧
    GivesAt s r.n (encR 0x01 rd ra rb 17) (exec (.min r rd ra rb) s) (fun t => s.WroteReg t r.n rd (if a.toInt ≤ b.toInt then a else b)) ∧
    GivesAt s r.n (encR 0x01 rd ra rb 18) (exec (.max r rd ra rb) s) (fun t => s.WroteReg t r.n rd (if a.toInt ≤ b.toInt then b else a)) ∧
    GivesAt s r.n (encR 0x01 rd ra rb 19) (exec (.minu r rd ra rb) s) (fun t => s.WroteReg t r.n rd (if a.toNat ≤ b.toNat then a else b)) ∧
    GivesAt s r.n (encR 0x01 rd ra rb 20) (exec (.maxu r rd ra rb) s) (fun t => s.WroteReg t r.n rd (if a.toNat ≤ b.toNat then b else a)) ∧
    GivesAt s r.n (encR 0x01 rd ra 0 21) (exec (.clz r rd ra) s) (fun t => s.WroteReg t r.n rd (BitVec.ofNat 32 (if a = 0#32 then 32 else 31 - a.toNat.log2))) ∧
    GivesAt s r.n (encR 0x01 rd ra 0 22) (exec (.popc r rd ra) s) (fun t => s.WroteReg t r.n rd (BitVec.ofNat 32 ((List.range 32).filter (fun i => a.getLsbD i)).length)) ∧
    GivesAt s r.n (encR 0x01 rd ra 0 23) (exec (.bswap r rd ra) s) (fun t => s.WroteReg t r.n rd
      (a.extractLsb' 0 8 ++ a.extractLsb' 8 8 ++ a.extractLsb' 16 8 ++ a.extractLsb' 24 8 : BitVec 32))

/-- From R454, R456, R457, Tables 18-3 to 18-5: an instruction with an immediate sign-extends it for ADDI and the comparisons, zero-extends it for the
logic, and puts it in the high half for LDHI
and ADDPCH, which adds the address of the instruction itself; a shift takes its amount of 5 bits.
An instruction runs where the core runs and its word may be fetched at the pc (`GivesAt`: what a fetch may find is log 64).
For each of these commands it concludes that exec answers a next state (`Gives`), on conditions of state and operands alone:
addi, andi, ori, xori, cmplti, cmpltiu, shiSll, shiSrl, shiSra, shiRor, ldhi, addpch. -/
def Obligations.AluOfImmediates : Prop :=
  ∀ (r : CoreRun) (rd ra : Fin 32) (imm : BitVec 16) (k : BitVec 5) (s : State), s.Fetches r.n →
    let a := (s.core r.n).g ra
    GivesAt s r.n (encI 0x02 rd ra imm.toNat) (exec (.addi r rd ra imm) s) (fun t => s.WroteReg t r.n rd (BitVec.ofInt 32 (a.toInt + imm.toInt))) ∧
    GivesAt s r.n (encI 0x03 rd ra imm.toNat) (exec (.andi r rd ra imm) s) (fun t => s.WroteReg t r.n rd (a &&& BitVec.ofNat 32 imm.toNat)) ∧
    GivesAt s r.n (encI 0x04 rd ra imm.toNat) (exec (.ori r rd ra imm) s) (fun t => s.WroteReg t r.n rd (a ||| BitVec.ofNat 32 imm.toNat)) ∧
    GivesAt s r.n (encI 0x05 rd ra imm.toNat) (exec (.xori r rd ra imm) s) (fun t => s.WroteReg t r.n rd (a ^^^ BitVec.ofNat 32 imm.toNat)) ∧
    GivesAt s r.n (encI 0x06 rd ra imm.toNat) (exec (.cmplti r rd ra imm) s) (fun t => s.WroteReg t r.n rd (if a.toInt < imm.toInt then 1#32 else 0#32)) ∧
    GivesAt s r.n (encI 0x07 rd ra imm.toNat) (exec (.cmpltiu r rd ra imm) s) (fun t => s.WroteReg t r.n rd (if a.toNat < (BitVec.ofInt 32 imm.toInt).toNat then 1#32 else 0#32)) ∧
    GivesAt s r.n (encI 0x08 rd ra (0 + k.toNat)) (exec (.shiSll r rd ra k) s) (fun t => s.WroteReg t r.n rd (BitVec.ofNat 32 (a.toNat * 2 ^ k.toNat))) ∧
    GivesAt s r.n (encI 0x08 rd ra (32 + k.toNat)) (exec (.shiSrl r rd ra k) s) (fun t => s.WroteReg t r.n rd (BitVec.ofNat 32 (a.toNat / 2 ^ k.toNat))) ∧
    GivesAt s r.n (encI 0x08 rd ra (64 + k.toNat)) (exec (.shiSra r rd ra k) s) (fun t => s.WroteReg t r.n rd (BitVec.ofInt 32 (a.toInt / 2 ^ k.toNat))) ∧
    GivesAt s r.n (encI 0x08 rd ra (96 + k.toNat)) (exec (.shiRor r rd ra k) s) (fun t => s.WroteReg t r.n rd (a >>> k.toNat ||| a <<< (32 - k.toNat))) ∧
    GivesAt s r.n (encI 0x09 rd 0 imm.toNat) (exec (.ldhi r rd imm) s) (fun t => s.WroteReg t r.n rd (BitVec.ofNat 32 (imm.toNat * 65536))) ∧
    GivesAt s r.n (encI 0x0A rd 0 imm.toNat) (exec (.addpch r rd imm) s) (fun t => s.WroteReg t r.n rd ((s.core r.n).pc + BitVec.ofNat 32 (imm.toNat * 65536)))

/-- From R454, R457, R470, R472, R473, Table 18-8: an aligned load of the core's own local memory writes rd with the little-endian value the core sees,
extended; a store puts its bytes there, as the core
then sees, and no other; an atomic operation returns the old word, writes the new one and leaves the store buffer empty.
An instruction runs where the core runs and its word may be fetched at the pc (`GivesAt`: what a fetch may find is log 64).
For each of these commands it concludes that exec answers a next state (`Gives`), on conditions of state and operands alone:
lb, lbu, lh, lhu, lw, sb, sh, sw, amoSwap, amoAdd, amoAnd, amoOr, amoXor, amoMaxu, storeBufferDrain. -/
def Obligations.OwnMemory : Prop :=
  (∀ (r : CoreRun) (rd ra : Fin 32) (imm : BitVec 16) (s : State) (a : Nat), s.Fetches r.n → a = ((s.core r.n).g ra + imm.signExtend 32).toNat → a < 262144 →
    GivesAt s r.n (encI 0x10 rd ra imm.toNat) (exec (.lb r rd ra imm .none) s) (fun t => s.WroteReg t r.n rd ((s.ownByte r.n a).signExtend 32)) ∧
    GivesAt s r.n (encI 0x11 rd ra imm.toNat) (exec (.lbu r rd ra imm .none) s) (fun t => s.WroteReg t r.n rd ((s.ownByte r.n a).zeroExtend 32)) ∧
    (a % 2 = 0 → GivesAt s r.n (encI 0x12 rd ra imm.toNat) (exec (.lh r rd ra imm .none) s) fun t =>
      s.WroteReg t r.n rd ((s.ownByte r.n (a + 1) ++ s.ownByte r.n a : BitVec 16).signExtend 32)) ∧
    (a % 2 = 0 → GivesAt s r.n (encI 0x13 rd ra imm.toNat) (exec (.lhu r rd ra imm .none) s) fun t =>
      s.WroteReg t r.n rd ((s.ownByte r.n (a + 1) ++ s.ownByte r.n a : BitVec 16).zeroExtend 32)) ∧
    (a % 4 = 0 → GivesAt s r.n (encI 0x14 rd ra imm.toNat) (exec (.lw r rd ra imm .none) s) fun t =>
      s.WroteReg t r.n rd (s.ownByte r.n (a + 3) ++ s.ownByte r.n (a + 2) ++ s.ownByte r.n (a + 1) ++ s.ownByte r.n a : BitVec 32))) ∧
  (∀ (r : CoreRun) (rs ra : Fin 32) (imm : BitVec 16) (s : State) (a : Nat), s.Fetches r.n → a = ((s.core r.n).g ra + imm.signExtend 32).toNat → a < 262144 →
    let v := (s.core r.n).g rs
    let good (k : Nat) (t : State) : Prop := (∀ x, t.ownByte r.n x = if a ≤ x ∧ x < a + k then v.extractLsb' (8 * (x - a)) 8 else s.ownByte r.n x) ∧
      s.RegTakes t r.n 0 0#32 ∧ (s.core r.n).SameSystem { t.core r.n with stores := (s.core r.n).stores } ∧ ((s.core r.n).stores.length < 4 → s.OnlyCore t r.n) ∧
      ((s.core r.n).Straight → (t.core r.n).pc = (s.core r.n).pc + 4#32)
    GivesAt s r.n (encI 0x18 rs ra imm.toNat) (exec (.sb r rs ra imm .none) s) (good 1) ∧ (a % 2 = 0 → GivesAt s r.n (encI 0x19 rs ra imm.toNat) (exec (.sh r rs ra imm .none) s) (good 2)) ∧
    (a % 4 = 0 → GivesAt s r.n (encI 0x1A rs ra imm.toNat) (exec (.sw r rs ra imm) s) (good 4))) ∧
  (∀ (r : CoreRun) (rd ra rb : Fin 32) (s : State) (a : Nat), s.Fetches r.n → a = ((s.core r.n).g ra).toNat → a < 262144 → a % 4 = 0 →
    let b := (s.core r.n).g rb
    let old : BitVec 32 := s.ownByte r.n (a + 3) ++ s.ownByte r.n (a + 2) ++ s.ownByte r.n (a + 1) ++ s.ownByte r.n a
    let good (v : BitVec 32) (t : State) : Prop := (∀ x, t.ownByte r.n x = if a ≤ x ∧ x < a + 4 then v.extractLsb' (8 * (x - a)) 8 else s.ownByte r.n x) ∧
      (t.core r.n).stores = [] ∧ s.RegTakes t r.n rd old ∧ (s.core r.n).SameSystem { t.core r.n with stores := (s.core r.n).stores } ∧
      ((s.core r.n).Straight → (t.core r.n).pc = (s.core r.n).pc + 4#32)
    GivesAt s r.n (encR 0x1C rd ra rb 0) (exec (.amoSwap r rd ra rb .none) s) (good b) ∧ GivesAt s r.n (encR 0x1C rd ra rb 1) (exec (.amoAdd r rd ra rb .none) s) (good (old + b)) ∧
    GivesAt s r.n (encR 0x1C rd ra rb 2) (exec (.amoAnd r rd ra rb .none) s) (good (old &&& b)) ∧ GivesAt s r.n (encR 0x1C rd ra rb 3) (exec (.amoOr r rd ra rb .none) s) (good (old ||| b)) ∧
    GivesAt s r.n (encR 0x1C rd ra rb 4) (exec (.amoXor r rd ra rb .none) s) (good (old ^^^ b)) ∧
    GivesAt s r.n (encR 0x1C rd ra rb 5) (exec (.amoMaxu r rd ra rb .none) s) (good (if old.toNat ≤ b.toNat then b else old))) ∧
  (∀ (n : Fin 16) s, Gives (exec (.storeBufferDrain n) s) fun t => (t.core n).stores = (s.core n).stores.drop 1 ∧ (∀ a, t.ownByte n a = s.ownByte n a) ∧
    ∀ a bs, (s.core n).stores.head? = some (a, bs) → ∀ i, i < bs.length → t.localByte n (a + i) = bs.getD i 0#8)

/-- From R456, R457, R459: where no loop is active, a branch goes 4 × off on where its condition holds, else on to the next word; a jump goes to its
target, and CALL and CALLR save the return address; a loop
instruction arms its loop, and a count of 0 skips the body.
An instruction runs where the core runs and its word may be fetched at the pc (`GivesAt`: what a fetch may find is log 64).
For each of these commands it concludes that exec answers a next state (`Gives`), on conditions of state and operands alone:
beq, bne, blt, bge, bltu, bgeu, j, call, jr, callr, ret, loop, loopi. -/
def Obligations.BranchesAndJumps : Prop :=
  (∀ (r : CoreRun) (ra rb : Fin 32) (off : BitVec 16) (s : State), s.Fetches r.n → (s.core r.n).Straight →
    let a := (s.core r.n).g ra
    let b := (s.core r.n).g rb
    let go (taken : Prop) (t : State) : Prop :=
      (taken → s.WentTo t r.n ((s.core r.n).pc + BitVec.ofInt 32 (4 * off.toInt)) (s.core r.n).lk) ∧ (¬ taken → s.WentTo t r.n ((s.core r.n).pc + 4#32) (s.core r.n).lk)
    GivesAt s r.n (encI 0x20 ra rb off.toNat) (exec (.beq r ra rb off) s) (go (a = b)) ∧ GivesAt s r.n (encI 0x21 ra rb off.toNat) (exec (.bne r ra rb off) s) (go (a ≠ b)) ∧
    GivesAt s r.n (encI 0x22 ra rb off.toNat) (exec (.blt r ra rb off) s) (go (a.toInt < b.toInt)) ∧ GivesAt s r.n (encI 0x23 ra rb off.toNat) (exec (.bge r ra rb off) s) (go (b.toInt ≤ a.toInt)) ∧
    GivesAt s r.n (encI 0x24 ra rb off.toNat) (exec (.bltu r ra rb off) s) (go (a.toNat < b.toNat)) ∧ GivesAt s r.n (encI 0x25 ra rb off.toNat) (exec (.bgeu r ra rb off) s) (go (b.toNat ≤ a.toNat))) ∧
  (∀ (r : CoreRun) (ra : Fin 32) (off : BitVec 26) (s : State), s.Fetches r.n → (s.core r.n).Straight →
    let pc := (s.core r.n).pc
    GivesAt s r.n (encJ 0x28 off.toNat) (exec (.j r off) s) (fun t => s.WentTo t r.n (pc + BitVec.ofInt 32 (4 * off.toInt)) (s.core r.n).lk) ∧
    GivesAt s r.n (encJ 0x29 off.toNat) (exec (.call r off) s) (fun t => s.WentTo t r.n (pc + BitVec.ofInt 32 (4 * off.toInt)) (pc + 4#32)) ∧
    (((s.core r.n).g ra).toNat % 4 = 0 → GivesAt s r.n (encR 0x2A 0 ra 0 0) (exec (.jr r ra) s) fun t => s.WentTo t r.n ((s.core r.n).g ra) (s.core r.n).lk) ∧
    (((s.core r.n).g ra).toNat % 4 = 0 → GivesAt s r.n (encR 0x2A 0 ra 0 1) (exec (.callr r ra) s) fun t => s.WentTo t r.n ((s.core r.n).g ra) (pc + 4#32)) ∧
    ((s.core r.n).lk.toNat % 4 = 0 → GivesAt s r.n (encR 0x2A 0 0 0 2) (exec (.ret r) s) fun t => s.WentTo t r.n (s.core r.n).lk (s.core r.n).lk)) ∧
  (∀ (r : CoreRun) (n : Fin 4) (ra : Fin 32) (count stop : BitVec 12) (s : State), s.Fetches r.n → (s.core r.n).Straight → n.val < 3 → stop ≠ 0#12 →
    let pc := (s.core r.n).pc
    let armed (c : Word) (t : State) : Prop := (t.core r.n).loop n = ⟨pc + 4#32, pc + 4#32 * BitVec.ofNat 32 stop.toNat, c⟩ ∧
      (∀ k, k < 3 → k ≠ n.val → (t.core r.n).loop k = (s.core r.n).loop k) ∧ s.RegTakes t r.n 0 0#32 ∧ s.OnlyCore t r.n ∧ (s.core r.n).SameSystem (t.core r.n) ∧
      (t.core r.n).pc = if c = 0#32 then pc + 4#32 * BitVec.ofNat 32 stop.toNat + 4#32 else pc + 4#32
    GivesAt s r.n (encL 0x30 n ra stop.toNat) (exec (.loop r n ra stop) s) (armed ((s.core r.n).g ra)) ∧ GivesAt s r.n (encL 0x31 n count.toNat stop.toNat) (exec (.loopi r n count stop) s) (armed (BitVec.ofNat 32 count.toNat)))

/-- From R460, R461: an instruction that completes at the last word of an active loop goes back to the loop's first word while the count is above 1,
taking 1 from it, and leaves the loop at 1; a branch, a jump
or WAIT there raises `LOOP`.
An instruction runs where the core runs and its word may be fetched at the pc (`GivesAt`: what a fetch may find is log 64).
From R455, R463, Table 18-2: GETC reads the control registers and SETC writes those that may be written, with the bits that a register does not hold
left out; a SETC of a loop register reaches the end
tests two instructions later.
An instruction runs where the core runs and its word may be fetched at the pc (`GivesAt`: what a fetch may find is log 64).
For each of these commands it concludes that exec answers a next state (`Gives`), on conditions of state and operands alone:
add, beq, wait, getc, setc. -/
def Obligations.LoopsAndControl : Prop :=
  (∀ (r : CoreRun) (rd ra rb : Fin 32) (k : Nat) (s : State), s.Fetches r.n → (s.core r.n).late = [] → k < 3 → ((s.core r.n).loop k).le = (s.core r.n).pc →
    1 < ((s.core r.n).loop k).lc.toNat → (∀ j, j < 3 → k < j → ((s.core r.n).loop j).lc = 0#32) →
    GivesAt s r.n (encR 0x01 rd ra rb 0) (exec (.add r rd ra rb) s) fun t => (t.core r.n).pc = ((s.core r.n).loop k).lb ∧ (t.core r.n).loop k = { (s.core r.n).loop k with lc := ((s.core r.n).loop k).lc - 1#32 } ∧
      (∀ j, j < 3 → j ≠ k → (t.core r.n).loop j = (s.core r.n).loop j) ∧ s.RegTakes t r.n rd ((s.core r.n).g ra + (s.core r.n).g rb)) ∧
  (∀ (r : CoreRun) (rd ra rb : Fin 32) (k : Nat) (s : State), s.Fetches r.n → (s.core r.n).late = [] → k < 3 → ((s.core r.n).loop k).le = (s.core r.n).pc →
    ((s.core r.n).loop k).lc = 1#32 → (∀ j, j < 3 → j ≠ k → ((s.core r.n).loop j).lc = 0#32) →
    GivesAt s r.n (encR 0x01 rd ra rb 0) (exec (.add r rd ra rb) s) fun t => (t.core r.n).pc = (s.core r.n).pc + 4#32 ∧ (t.core r.n).loop k = { (s.core r.n).loop k with lc := 0#32 }) ∧
  (∀ (r : CoreRun) (ra rb : Fin 32) (off : BitVec 16) (k : Nat) (s : State), s.Fetches r.n → (s.core r.n).late = [] → k < 3 → ((s.core r.n).loop k).le = (s.core r.n).pc →
    ((s.core r.n).loop k).lc ≠ 0#32 → (s.core r.n).mode.getLsbD 1 = false → wordAligned (s.core r.n).pc = (s.core r.n).pc →
    GivesAt s r.n (encI 0x20 ra rb off.toNat) (exec (.beq r ra rb off) s) (fun t => s.Entered t r.n 6 0x40 (s.core r.n).pc (s.core r.n).pc (encI 0x20 ra rb off.toNat)) ∧
    GivesAt s r.n (encR 0x3E 0 0 0 3) (exec (.wait r) s) (fun t => s.Entered t r.n 6 0x40 (s.core r.n).pc (s.core r.n).pc (encR 0x3E 0 0 0 3))) ∧
  (∀ (r : CoreRun) (rd : Fin 32) (s : State), s.Fetches r.n →
    let c := s.core r.n
    let reads (k : BitVec 16) (v : Word) : Prop := GivesAt s r.n (encI 0x3D rd 0 k.toNat) (exec (.getc r rd k) s) fun t => s.WroteReg t r.n rd v
    reads 0 (c.mode.zeroExtend 32) ∧ reads 1 (c.smode.zeroExtend 32) ∧ reads 2 c.xpc ∧ reads 3 (c.xcause.zeroExtend 32) ∧ reads 4 c.xaddr ∧ reads 5 c.xword ∧ reads 6 c.vbase ∧
      reads 7 c.hscr0 ∧ reads 8 c.hscr1 ∧ reads 0x10 c.lk ∧ reads 0x11 (c.loop 0).lb ∧ reads 0x12 (c.loop 0).le ∧ reads 0x13 (c.loop 0).lc ∧ reads 0x14 (c.loop 1).lb ∧
      reads 0x15 (c.loop 1).le ∧ reads 0x16 (c.loop 1).lc ∧ reads 0x17 (c.loop 2).lb ∧ reads 0x18 (c.loop 2).le ∧ reads 0x19 (c.loop 2).lc ∧ reads 0x20 (BitVec.ofNat 32 r.n.val) ∧
      reads 0x23 1#32) ∧
  (∀ (r : CoreRun) (ra : Fin 32) (s : State), s.Fetches r.n → (s.core r.n).Straight →
    let c := s.core r.n
    let v := c.g ra
    let writes (k : BitVec 16) (d : Core) : Prop := GivesAt s r.n (encI 0x3F 0 ra k.toNat) (exec (.setc r ra k) s) fun t => s.OnlyCore t r.n ∧
      t.core r.n = { d with pc := c.pc + 4#32, cycles := (t.core r.n).cycles, loadedReg := none }
    writes 0 { c with mode := v.truncate 2 } ∧ writes 1 { c with smode := v.truncate 2 } ∧ writes 2 { c with xpc := v &&& 0xFFFFFFFC#32 } ∧
      writes 3 { c with xcause := v.truncate 16 } ∧ writes 4 { c with xaddr := v } ∧ writes 5 { c with xword := v } ∧ writes 6 { c with vbase := v &&& 0xFFFFFF00#32 } ∧
      writes 7 { c with hscr0 := v } ∧ writes 8 { c with hscr1 := v } ∧ writes 0x10 { c with lk := v &&& 0xFFFFFFFC#32 }) ∧
  (∀ (r : CoreRun) (ra : Fin 32) (k : Fin 9) (s : State), s.Fetches r.n → (s.core r.n).Straight →
    GivesAt s r.n (encI 0x3F 0 ra (BitVec.ofNat 16 (0x11 + k.val)).toNat) (exec (.setc r ra (BitVec.ofNat 16 (0x11 + k.val))) s) fun t =>
      (t.core r.n).loopReg k = (if k.val % 3 = 2 then (s.core r.n).g ra else (s.core r.n).g ra &&& 0xFFFFFFFC#32) ∧
      (t.core r.n).late = [⟨k, (s.core r.n).loopReg k, 2⟩] ∧ (∀ j, j < 9 → j ≠ k.val → (t.core r.n).loopReg j = (s.core r.n).loopReg j) ∧ s.OnlyCore t r.n) ∧
  (∀ (r : CoreRun) (ra : Fin 32) (k : BitVec 16) (s : State), s.Fetches r.n → 0x19 < k.toNat → (s.core r.n).mode.getLsbD 1 = false → wordAligned (s.core r.n).pc = (s.core r.n).pc →
    GivesAt s r.n (encI 0x3F 0 ra k.toNat) (exec (.setc r ra k) s) fun t => s.Entered t r.n 1 0 (s.core r.n).pc 0#32 (encI 0x3F 0 ra k.toNat))

/-- From R458, R464 to R468, R471, Tables 18-6 and 18-7: a core outside a handler takes an exception: TRAP, BREAK, a reserved word, a misaligned or
forbidden address, an uncorrectable word, a failed fetch; and an
interrupt; each saves MODE and the trap frame and goes to its vector. XRET and XRETC return.
An instruction runs where the core runs and its word may be fetched at the pc (`GivesAt`: what a fetch may find is log 64).
For each of these commands it concludes that exec answers a next state (`Gives`), on conditions of state and operands alone:
trap, brk, fetchError, reservedInstruction, lw, sw, interruptTake, xret, xretc. -/
def Obligations.CoreExceptions : Prop :=
  (∀ (r : CoreRun) (imm : BitVec 16) (s : State), s.Fetches r.n → (s.core r.n).mode.getLsbD 1 = false → wordAligned (s.core r.n).pc = (s.core r.n).pc →
    let pc := (s.core r.n).pc
    GivesAt s r.n (encI 0x3C 0 0 imm.toNat) (exec (.trap r imm) s) (fun t => s.Entered t r.n 7 0x80 pc 0#32 (encI 0x3C 0 0 imm.toNat)) ∧
    GivesAt s r.n (encR 0x3E 0 0 0 4) (exec (.brk r) s) (fun t => s.Entered t r.n 8 0x40 pc 0#32 (encR 0x3E 0 0 0 4)) ∧
    Gives (exec (.fetchError r) s) (fun t => s.Entered t r.n 2 0x40 pc pc 0#32 ∧ t.rd Key.memUncorrected = satAdd u32Max (s.rd Key.memUncorrected) 1)) ∧
  (∀ (r : CoreRun) (word : BitVec 32) (s : State), s.Fetches r.n → (s.core r.n).mode.getLsbD 1 = false → wordAligned (s.core r.n).pc = (s.core r.n).pc → awlReserved word = true →
    GivesAt s r.n (word) (exec (.reservedInstruction r word) s) fun t => s.Entered t r.n 1 0 (s.core r.n).pc 0#32 word) ∧
  (∀ (r : CoreRun) (s : State), s.coreRuns r.n = true → fetchable r.n (s.core r.n).pc = false → (s.core r.n).mode.getLsbD 1 = false → wordAligned (s.core r.n).pc = (s.core r.n).pc →
    Gives (exec (.fetchError r) s) fun t => s.Entered t r.n 5 0x40 (s.core r.n).pc (s.core r.n).pc 0#32) ∧
  (∀ (r : CoreRun) (rd ra : Fin 32) (imm : BitVec 16) (a : Word) (s : State), s.Fetches r.n → (s.core r.n).mode.getLsbD 1 = false → wordAligned (s.core r.n).pc = (s.core r.n).pc →
    a = (s.core r.n).g ra + imm.signExtend 32 →
    (a.toNat % 4 ≠ 0 → GivesAt s r.n (encI 0x14 rd ra imm.toNat) (exec (.lw r rd ra imm .none) s) fun t => s.Entered t r.n 4 0x40 (s.core r.n).pc a (encI 0x14 rd ra imm.toNat)) ∧
    (a.toNat % 4 = 0 → 0x44000000 ≤ a.toNat → GivesAt s r.n (encI 0x1A rd ra imm.toNat) (exec (.sw r rd ra imm) s) fun t => s.Entered t r.n 5 0x40 (s.core r.n).pc a (encI 0x1A rd ra imm.toNat)) ∧
    (a.toNat % 4 = 0 → a.toNat < 262144 → GivesAt s r.n (encI 0x14 rd ra imm.toNat) (exec (.lw r rd ra imm .uncorrectable) s) fun t => s.Entered t r.n 3 0x40 (s.core r.n).pc a (encI 0x14 rd ra imm.toNat))) ∧
  (∀ (n : Fin 16) (s : State), s.coreState n = 1 → s.coreIsland n = true → (s.core n).mode = 1#2 → s.interrupted n = true → wordAligned (s.core n).pc = (s.core n).pc →
    Gives (exec (.interruptTake n) s) fun t => s.Entered t n 0x100 0xC0 (s.core n).pc 0#32 0#32 ∧ (t.core n).waiting = false) ∧
  (∀ (n : Fin 16) (s : State), ((s.core n).mode ≠ 1#2 ∨ s.interrupted n = false) → Gives (exec (.interruptTake n) s) fun t => t = s) ∧
  (∀ (r : CoreRun) (s : State), s.Fetches r.n → (s.core r.n).Straight →
    GivesAt s r.n (encR 0x3E 0 0 0 2) (exec (.xret r) s) (fun t => (t.core r.n).mode = (s.core r.n).smode ∧ (t.core r.n).pc = (s.core r.n).xpc ∧ (t.core r.n).loops = (s.core r.n).loops ∧
      s.RegTakes t r.n 0 0#32 ∧ s.OnlyCore t r.n) ∧
    GivesAt s r.n (encR 0x3E 0 0 0 6) (exec (.xretc r) s) (fun t => (t.core r.n).mode = (s.core r.n).smode ∧ (t.core r.n).pc = (s.core r.n).xpc + 4#32 ∧ (t.core r.n).loops = (s.core r.n).loops ∧
      s.RegTakes t r.n 0 0#32 ∧ s.OnlyCore t r.n)) ∧
  (∀ (r : CoreRun) (imm : BitVec 16) (s : State), s.Fetches r.n → 12 ≤ r.n.val → (s.core r.n).mode.getLsbD 1 = true →
    GivesAt s r.n (encI 0x3C 0 0 imm.toNat) (exec (.trap r imm) s) fun t => t.coreState r.n = 3 ∧ Posted s t .coreDoubleFault (0x7001 + r.n.val) ∧ s.RegTakes t r.n 0 0#32)

/-- From R469, R472, R473, R475, R479, R539: a fence empties the store buffer, and FENCE.I what was fetched ahead; WAIT stops fetching until a source is
pending, and the core then goes on; HALT and a stop drain the buffer and end in state 2 with
the island of an extension core off; a start sets the registers and state 1 once
its island is on.
An instruction runs where the core runs and its word may be fetched at the pc (`GivesAt`: what a fetch may find is log 64).
For each of these commands it concludes that exec answers a next state (`Gives`), on conditions of state and operands alone:
fence, fenceI, wait, halt, waitWake, coreStart, coreStop. -/
def Obligations.CoreRunStates : Prop :=
  (∀ (r : CoreRun) (s : State), s.Fetches r.n → (s.core r.n).Straight →
    let fenced (t : State) : Prop := (t.core r.n).stores = [] ∧ (∀ a, t.ownByte r.n a = s.ownByte r.n a) ∧ (t.core r.n).pc = (s.core r.n).pc + 4#32 ∧ s.RegTakes t r.n 0 0#32 ∧
      (t.core r.n).mode = (s.core r.n).mode
    GivesAt s r.n (encR 0x3E 0 0 0 0) (exec (.fence r) s) fenced ∧
    GivesAt s r.n (encR 0x3E 0 0 0 1) (exec (.fenceI r) s) (fun t => fenced t ∧ ∀ w ∈ t.cores.stale, w / 65536 ≠ r.n.val) ∧
    GivesAt s r.n (encR 0x3E 0 0 0 3) (exec (.wait r) s) (fun t => ((t.core r.n).waiting = true ↔ s.pend r.n = 0) ∧ (t.core r.n).pc = (s.core r.n).pc + 4#32 ∧ s.RegTakes t r.n 0 0#32 ∧ s.OnlyCore t r.n) ∧
    GivesAt s r.n (encR 0x3E 0 0 0 5) (exec (.halt r) s) (fun t => t.coreState r.n = 2 ∧ (t.core r.n).stores = [] ∧ (∀ a, t.ownByte r.n a = s.ownByte r.n a) ∧
      (12 ≤ r.n.val → t.coreIsland r.n = false) ∧ (r.n.val < 12 → t.power = s.power) ∧ s.RegTakes t r.n 0 0#32)) ∧
  (∀ (r : CoreRun) (s : State), s.coreState r.n = 1 → s.coreIsland r.n = true → (s.core r.n).waiting = true → s.pend r.n ≠ 0 → Gives (exec (.waitWake r) s) fun t =>
    (t.core r.n).waiting = false ∧ (t.core r.n).pc = (s.core r.n).pc ∧ s.OnlyCore t r.n) ∧
  (∀ (r : CoreRun) (s : State), ((s.core r.n).waiting = false ∨ s.pend r.n = 0) → Gives (exec (.waitWake r) s) fun t => t = s) ∧
  (∀ (k : Fin 4) i (s : State), s.cmdBlocked (Key.coreRunRes (12 + k)) = false → s.coreState (12 + k) ≠ 1 → (s.core (12 + k)).image = some i →
    ((s.coreIsl (12 + k)).phase = .on ∨ ((s.coreIsl (12 + k)).phase = .off ∧ (s.coreIsl (12 + k)).since + us 10 ≤ s.elapsed)) →
    Gives (exec (.coreStart k) s) fun t => t.coreState (12 + k) = 1 ∧
    (t.core (12 + k)).pc = BitVec.ofNat 32 i.entry ∧ (t.core (12 + k)).g 29 = BitVec.ofNat 32 i.stackTop ∧ (∀ x, x ≠ 29 → (t.core (12 + k)).g x = 0#32) ∧
    (t.core (12 + k)).vbase = BitVec.ofNat 32 i.vbase ∧ (t.core (12 + k)).mode = 0#2 ∧ t.coreIsland (12 + k) = true ∧ (t.res (Key.coreRunRes (12 + k))).outcome = 1 ∧
    ∀ m, m ≠ 12 + k.val → t.core m = s.core m) ∧
  (∀ (k : Fin 4) i (s : State), s.cmdBlocked (Key.coreRunRes (12 + k)) = false → s.coreState (12 + k) ≠ 1 → (s.core (12 + k)).image = some i →
    (s.coreIsl (12 + k)).phase = .off → s.elapsed < (s.coreIsl (12 + k)).since + us 10 → Gives (exec (.coreStart k) s) fun t => t.cores = s.cores ∧
    t.coreState (12 + k) = s.coreState (12 + k) ∧ (t.res (Key.coreRunRes (12 + k))).busy = true ∧ (t.coreIsl (12 + k)).want = some true) ∧
  (∀ (k : Fin 4) (s : State), s.cmdBlocked (Key.coreRunRes (12 + k)) = false → s.coreState (12 + k) ≠ 1 → (s.core (12 + k)).image = none →
    Gives (exec (.coreStart k) s) fun t => t.cores = s.cores ∧ t.coreState (12 + k) = s.coreState (12 + k) ∧ (t.res (Key.coreRunRes (12 + k))).code = 1) ∧
  (∀ (k : Fin 4) (s : State), s.cmdBlocked (Key.coreRunRes (12 + k)) = false → s.coreState (12 + k) = 1 → Gives (exec (.coreStart k) s) fun t => t.cores = s.cores ∧
    (t.res (Key.coreRunRes (12 + k))).code = 2) ∧
  (∀ (k : Fin 4) (s : State), s.cmdBlocked (Key.coreRunRes (12 + k)) = false → (s.coreState (12 + k) = 1 ∨ s.coreState (12 + k) = 3) →
    Gives (exec (.coreStop k) s) fun t => t.coreState (12 + k) = 2 ∧
    (t.core (12 + k)).stores = [] ∧ t.coreIsland (12 + k) = false ∧ (t.res (Key.coreRunRes (12 + k))).outcome = 1) ∧
  (∀ (k : Fin 4) (s : State), s.cmdBlocked (Key.coreRunRes (12 + k)) = true → Gives (exec (.coreStart k) s) (fun t => t = s) ∧ Gives (exec (.coreStop k) s) (fun t => t = s))

/-- From R485 to R492: an edge that reaches the Buckle counts in its source and goes to the next eligible core in turn; a level that holds and is pending
nowhere is assigned; a pending or mask word is replaced by
the core that owns it; 240 to 255 and 224 to 239 may be raised by software.
For each of these commands it concludes that exec answers a next state (`Gives`), on conditions of state and operands alone:
buckleEdge, buckleLevelRise, levelReassign, pendingWrite, maskWrite, awlBuckleRaise, awlHostRaise, hifBuckleRaise. -/
def Obligations.BuckleSources : Prop :=
  (∀ (k : Fin 256) s, s.buckle.edges.contains k.val = true → srcReserved k = false → srcLevel k = false → Gives (exec (.buckleEdge k) s) fun t =>
    t.buckle.edges = s.buckle.edges.erase k ∧ t.rd (Key.srcEvents k) = (s.rd (Key.srcEvents k) + 1) % 2 ^ 32 ∧
    (∀ j, j ≠ Key.srcEvents k → t.rd j = s.rd j) ∧ t.buckle.mask = s.buckle.mask) ∧
  (∀ (k : Fin 256) (n : Nat) s, s.buckle.edges.contains k.val = true → srcReserved k = false → srcLevel k = false → n < 16 → s.takesSource k n = true →
    KMap.find s.buckle.last k = none → (∀ m, m < n → s.takesSource k m = false) → Gives (exec (.buckleEdge k) s) fun t =>
    bitOf (t.pend n) k = true ∧ (∀ m, m ≠ n → t.pend m = s.pend m) ∧ KMap.find t.buckle.last k = some n) ∧
  (∀ (k : Fin 256) (n : Nat) s, s.buckle.edges.contains k.val = true → srcReserved k = false → srcLevel k = false → n < 15 → KMap.find s.buckle.last k = some n →
    s.takesSource k (n + 1) = true → Gives (exec (.buckleEdge k) s) fun t => bitOf (t.pend (n + 1)) k = true ∧ (∀ m, m ≠ n + 1 → t.pend m = s.pend m)) ∧
  (∀ (k : Fin 256) s, s.buckle.edges.contains k.val = false → Gives (exec (.buckleEdge k) s) fun t => t = s) ∧
  (∀ (k : Fin 256) (n : Nat) s, srcLevel k = true → s.levelHolds k = true → s.pendingAnywhere k = false → n < 16 → s.takesSource k n = true → (∀ m, m < 16 → m ≠ n → s.takesSource k m = false) →
    Gives (exec (.buckleLevelRise k) s) (fun t => bitOf (t.pend n) k = true ∧ (∀ m, m ≠ n → t.pend m = s.pend m) ∧ t.dict = s.dict) ∧
    Gives (exec (.levelReassign k) s) (fun t => bitOf (t.pend n) k = true ∧ (∀ m, m ≠ n → t.pend m = s.pend m) ∧ t.dict = s.dict)) ∧
  (∀ (k : Fin 256) s, (s.levelHolds k = false ∨ s.pendingAnywhere k = true) → Gives (exec (.buckleLevelRise k) s) (fun t => t = s) ∧ Gives (exec (.levelReassign k) s) (fun t => t = s)) ∧
  (∀ (n : Fin 16) (w : Fin 8) (v : BitVec 32) s, s.coreRuns n = true →
    Gives (exec (.pendingWrite n w v) s) (fun t => bits (t.pend n) (32 * w) 32 = v.toNat ∧ (∀ u, u < 8 → u ≠ w.val → bits (t.pend n) (32 * u) 32 = bits (s.pend n) (32 * u) 32) ∧
      (∀ m, m ≠ n.val → t.pend m = s.pend m) ∧ t.buckle.mask = s.buckle.mask) ∧
    Gives (exec (.maskWrite n w v) s) (fun t => bits (t.mask n) (32 * w) 32 = v.toNat ∧ (∀ u, u < 8 → u ≠ w.val → bits (t.mask n) (32 * u) 32 = bits (s.mask n) (32 * u) 32) ∧
      (∀ m, m ≠ n.val → t.mask m = s.mask m) ∧ t.buckle.pend = s.buckle.pend)) ∧
  (∀ (n : Fin 16) (v : BitVec 8) s, s.coreRuns n = true → Gives (exec (.awlBuckleRaise n v) s) fun t =>
    t = if 240 ≤ v.toNat then { s with buckle := { s.buckle with edges := s.buckle.edges ++ [v.toNat] } } else s) ∧
  (∀ (n : Fin 16) (v : Fin 8) s, s.coreRuns n = true → n.val < 12 → (s.cause (72 + v)).1 = true → Gives (exec (.awlHostRaise n v) s) fun t =>
    72 + v.val ∈ t.host.flags ∧ (∀ c, c ≠ 72 + v.val → (c ∈ t.host.flags ↔ c ∈ s.host.flags))) ∧
  (∀ (n : Fin 16) (v : Fin 8) s, 12 ≤ n.val → Gives (exec (.awlHostRaise n v) s) fun t => t = s) ∧
  (∀ (v : BitVec 8) s, s.host.linkUp = true → s.pwr ≠ 2 → Gives (exec (.hifBuckleRaise v) s) fun t =>
    t = if 224 ≤ v.toNat ∧ v.toNat ≤ 239 then { s with buckle := { s.buckle with edges := s.buckle.edges ++ [v.toNat] } } else s)

/-- From R496 to R504: a ring takes a tail below its size and a size from 3 to 12 while it is disabled; a frame at HP8 is written to its receive ring, or
waits while the ring is empty; a transmit ring gives its
next frame, and a DMA error stops the ring.
For each of these commands it concludes that exec answers a next state (`Gives`), on conditions of state and operands alone:
rxRingTailWrite, txRingTailWrite, rxRingSizeWrite, txRingSizeWrite, hostRxFrame, txFrameFetch, dmaError. -/
def Obligations.HostRings : Prop :=
  (∀ (n : Fin 32) (v : BitVec 12) s, s.host.linkUp = true → (s.rxRing n).size ≠ 0 →
    Gives (exec (.rxRingTailWrite n v) s) fun t => t.rxRing n = (if v.toNat < 2 ^ (s.rxRing n).size then { s.rxRing n with tail := v.toNat } else s.rxRing n) ∧
      (∀ m, m ≠ n.val → t.rxRing m = s.rxRing m) ∧ t.host.tx = s.host.tx) ∧
  (∀ (n : Fin 32) (v : BitVec 12) s, s.host.linkUp = true → (s.txRing n).size ≠ 0 →
    Gives (exec (.txRingTailWrite n v) s) fun t => t.txRing n = (if v.toNat < 2 ^ (s.txRing n).size then { s.txRing n with tail := v.toNat } else s.txRing n) ∧
      (∀ m, m ≠ n.val → t.txRing m = s.txRing m) ∧ t.host.rx = s.host.rx) ∧
  (∀ (n : Fin 32) (k : BitVec 4) s, s.host.linkUp = true → 3 ≤ k.toNat → k.toNat ≤ 12 → (s.rxRing n).size = 0 →
    Gives (exec (.rxRingSizeWrite n k) s) fun t => (t.rxRing n).size = k.toNat ∧ (t.rxRing n).head = 0 ∧ (t.rxRing n).tail = 0 ∧ (t.rxRing n).base = (s.rxRing n).base ∧
      ∀ m, m ≠ n.val → t.rxRing m = s.rxRing m) ∧
  (∀ (n : Fin 32) (k : BitVec 4) s, s.host.linkUp = true → 3 ≤ k.toNat → k.toNat ≤ 12 → (s.txRing n).size = 0 →
    Gives (exec (.txRingSizeWrite n k) s) fun t => (t.txRing n).size = k.toNat ∧ (t.txRing n).state = 1 ∧ (t.txRing n).head = 0 ∧ (t.txRing n).tail = 0 ∧
      ∀ m, m ≠ n.val → t.txRing m = s.txRing m) ∧
  (∀ (n : Fin 32) s, s.host.linkUp = true → Gives (exec (.rxRingSizeWrite n 0#4) s) (fun t => (t.rxRing n).size = 0) ∧
    Gives (exec (.txRingSizeWrite n 0#4) s) (fun t => (t.txRing n).size = 0 ∧ (t.txRing n).state = 0)) ∧
  (∀ ds dt f s, KMap.find s.har.leaving 8 = some f → (s.rxRing (rxRingOf f)).size ≠ 0 → (s.rxRing (rxRingOf f)).head = (s.rxRing (rxRingOf f)).tail →
    Gives (exec (.hostRxFrame ds dt) s) fun t => t = s.advance dt) ∧
  (∀ (d : RxDesc) ds dt f s, KMap.find s.har.leaving 8 = some f → f.bytes ≠ [] → f.report = false → rxDescOk d = true → f.bytes.length ≤ d.len → f.cls < 8 →
    (s.rxRing (rxRingOf f)).size ≠ 0 → (s.rxRing (rxRingOf f)).head < 2 ^ (s.rxRing (rxRingOf f)).size → (s.rxRing (rxRingOf f)).tail < 2 ^ (s.rxRing (rxRingOf f)).size →
    (s.rxRing (rxRingOf f)).head ≠ (s.rxRing (rxRingOf f)).tail →
    Gives (exec (.hostRxFrame (d :: ds) dt) s) fun t => KMap.find t.har.leaving 8 = none ∧ (∃ b, t.out = .dma ((s.rxRing (rxRingOf f)).base +
        64 * ((s.rxRing (rxRingOf f)).head)) b :: .dma d.buf f.bytes :: s.out) ∧
      (t.rxRing (rxRingOf f)).head = ((s.rxRing (rxRingOf f)).head + 1) % 2 ^ (s.rxRing (rxRingOf f)).size ∧ (t.rxRing (rxRingOf f)).trunc = (s.rxRing (rxRingOf f)).trunc ∧
      t.rd (Key.hpTx 8) = satAdd u32Max (s.rd (Key.hpTx 8)) 1) ∧
  (∀ (n : Fin 32) (d : BitVec 512) ds data dt s, (s.txRing n).state = 1 → (s.txRing n).size ≠ 0 → s.inputClosed 8 = false → s.host.linkUp = true → s.txTurn n = true → (s.txRing n).given = 1 →
    txLast d = true → (txFirst d = false ∨ txRanges d = false ∨ txField d 432 16 ≠ txField d 416 16) →
    Gives (exec (.txFrameFetch n (d :: ds) data dt) s) fun t => t.host.lastTx = n.val ∧ (t.txRing n).head = ((s.txRing n).head + 1) % 2 ^ (s.txRing n).size ∧ t.har = s.har ∧
      t.out = .dma ((s.txRing n).base + 64 * ((s.txRing n).head % 2 ^ (s.txRing n).size) + 46) (leBytes 1 (16 + txField d 368 4)) :: s.out) ∧
  (∀ (n : Fin 32) ds data dt s, (s.txRing n).state = 1 → (s.txRing n).size ≠ 0 → s.inputClosed 8 = false → s.host.linkUp = true → s.txTurn n = true →
    txSpan (s.txRing n).given ds = none → Gives (exec (.txFrameFetch n ds data dt) s) fun t => t.txRing n = { s.txRing n with short := some (s.txRing n).tail } ∧
      t.har = s.har ∧ t.out = s.out ∧ t.host.lastTx = s.host.lastTx) ∧
  (∀ (n : Fin 32) ds data dt s, ((s.txRing n).state ≠ 1 ∨ (s.txRing n).size = 0 ∨ s.txTurn n = false) → Gives (exec (.txFrameFetch n ds data dt) s) fun t => t = s.advance dt) ∧
  (∀ (n : Fin 32) addr s, (s.txRing n).state = 1 → Gives (exec (.dmaError false n addr) s) fun t => (t.txRing n).state = 2 ∧ (∀ m, m ≠ n.val → t.txRing m = s.txRing m) ∧
    t.host.rx = s.host.rx ∧ Posted s t .hifDmaError 0x1000) ∧
  (∀ (n : Fin 32) addr s, (s.rxRing n).size ≠ 0 → KMap.find s.har.leaving 8 = none → Gives (exec (.dmaError true n addr) s) fun t => (t.rxRing n).size = 0 ∧
    (∀ m, m ≠ n.val → t.rxRing m = s.rxRing m) ∧ t.host.tx = s.host.tx ∧ Posted s t .hifDmaError 0x1000)

/-- From R494, R505 to R509: a report is written to its address and its cause raised; a vector sends for its enabled causes unless it is masked, when it
stays pending; a reset of the function disables the rings
and clears the flags; the mailbox queues responses,
oldest first.
For each of these commands it concludes that exec answers a next state (`Gives`), on conditions of state and operands alone:
reportRecordWrite, msixSend, functionLevelReset, mbxResponseEnqueue, mbxRspPop, mbxSubmit. -/
def Obligations.HostInterrupts : Prop :=
  (∀ h rep oc x rest s, s.host.reportsDue = (h, rep, oc) :: rest → s.host.linkUp = true → KMap.find s.host.reports h = some x → Gives (exec .reportRecordWrite s) fun t =>
    t.out = .dma x.addr (leBytes 8 x.cookie ++ leBytes 8 rep ++ leBytes 1 oc ++ zeros 15) :: s.out ∧ t.host.reportsDue = rest ∧ KMap.find t.host.reports h = none ∧
    ((s.cause 70).1 = true → 70 ∈ t.host.flags)) ∧
  (∀ s, s.host.linkUp = false → Gives (exec .reportRecordWrite s) fun t => t = s) ∧
  (∀ (v : Fin 64) (c : Nat) dt s, c ∈ s.host.flags → s.cause c = (true, v.val) → (s.vector v).sentAt = none → s.host.linkUp = true → (s.vector v).masked = false →
    s.host.functionMask = false → Gives (exec (.msixSend v dt) s) fun t => t.out = .msix (s.vector v).addr (s.vector v).data :: s.out ∧ c ∉ t.host.flags ∧
      (∀ d, (s.cause d).2 ≠ v.val → (d ∈ t.host.flags ↔ d ∈ s.host.flags)) ∧ (t.vector v).sentAt = some (s.advance dt).elapsed ∧ (t.vector v).pending = false) ∧
  (∀ (v : Fin 64) (c : Nat) dt s, c ∈ s.host.flags → s.cause c = (true, v.val) → (s.vector v).sentAt = none → s.host.linkUp = true →
    ((s.vector v).masked = true ∨ s.host.functionMask = true) → Gives (exec (.msixSend v dt) s) fun t => t.out = s.out ∧ (t.vector v).pending = true ∧ t.host.flags = s.host.flags) ∧
  (∀ (v : Fin 64) a dt s, (s.vector v).sentAt = some a → (s.advance dt).elapsed < a + us (s.vector v).holdoff → Gives (exec (.msixSend v dt) s) fun t => t = s.advance dt) ∧
  (∀ s, s.host.linkUp = false → Gives (exec .functionLevelReset s) fun t => t = s) ∧
  (∀ s, s.host.linkUp = true → Gives (exec .functionLevelReset s) fun t => t.host.vectors = [] ∧ (∀ n, (t.rxRing n).size = 0 ∧ (t.txRing n).size = 0 ∧ (t.txRing n).state = 0) ∧
    t.host.mailbox = [] ∧ t.host.mailboxWait = s.host.mailboxWait ∧ t.host.functionMask = false ∧ Posted s t .hifFlr 0x1000 ∧ t.har = s.har) ∧
  (∀ a c rest s, s.host.mailboxWait = (a, c) :: rest → s.host.mailbox.length < 32 → Gives (exec .mbxResponseEnqueue s) fun t => t.host.mailbox = s.host.mailbox ++ [a] ∧ t.host.mailboxWait = rest ∧
    ((s.cause 64).1 = true → 64 ∈ t.host.flags)) ∧
  (∀ s, 32 ≤ s.host.mailbox.length → Gives (exec .mbxResponseEnqueue s) fun t => t = s) ∧
  (∀ a rest s, s.host.linkUp = true → s.host.mailbox = a :: rest → Gives (exec .mbxRspPop s) fun t => t.host.mailbox = rest ∧ t.host.mailboxWait = s.host.mailboxWait) ∧
  (∀ len s, s.host.linkUp = true → s.pwr ≠ 2 → (len.toNat < 24 ∨ 1048 < len.toNat) → Gives (exec (.mbxSubmit len) s) fun t => t = s) ∧
  (∀ (len : BitVec 11) l s, s.host.linkUp = true → s.alive = true → 24 ≤ len.toNat → len.toNat ≤ 1048 → s.Takes .mailbox (s.mailRequest len.toNat) 1 →
    (s.mailRequest len.toNat).txn = 0 → namedRows (s.mailRequest len.toNat) = .inr l → l.any (fun r => r.ty == .domain) = false → Gives (exec (.mbxSubmit len) s) fun t =>
      t.out = .access .mailbox (respond (s.mailRequest len.toNat) 0 (s.readBytes (s.mailRequest len.toNat) (s.mailRequest len.toNat).subindex l)) :: s.out)

/-- From R477, R481 to R483, R495, R511: a core or the host reaches tables, queues, records and the dictionary through its ports: a pushed item ends its
queue, a pop takes the oldest; a read returns the record
of the short address; HP9 writes a frame to the core that takes its reason, and takes one from a core that sends.
For each of these commands it concludes that exec answers a next state (`Gives`), on conditions of state and operands alone:
strapPortPush, strapPortPop, nrRead, nrWrite, dictPortSubmit, tpOpStart, hp9RxDeliver, hp9TxTake. -/
def Obligations.PortsOfCoresAndHost : Prop :=
  (∀ (n : Fin 16) (q : Fin 64) (w : BitVec 32) s, s.coreRuns n = true → strapPortOf n q = true → 1 ≤ w.toNat → w.toNat ≤ 16 → s.strapFull q w.toNat = false → (s.strap q).welt = none →
    Gives (exec (.strapPortPush n q w) s) fun t => ∃ i, (t.strap q).head ++ (t.strap q).mid ++ (t.strap q).tail = (s.strap q).head ++ (s.strap q).mid ++ (s.strap q).tail ++ [i] ∧
      i.words = w.toNat ∧ i.data = slice (s.portWindow q) 8 (60 * w.toNat - 8) ∧ KMap.getD t.cores.pushed 0 q = w.toNat) ∧
  (∀ (n : Fin 16) (q : Fin 64) (w : BitVec 32) s, strapPortOf n q = false → Gives (exec (.strapPortPush n q w) s) fun t => t = s) ∧
  (∀ (who : Fin 17) (q : Fin 64) i rest s, strapPortOf who q = true → who.val ≠ 16 → s.coreRuns who = true → (s.strap q).head = i :: rest → q.val ≠ 4 →
    Gives (exec (.strapPortPop who q) s) fun t => t.portWindow q = i.bytes ∧ (t.strap q).head ++ (t.strap q).mid ++ (t.strap q).tail = rest ++ (s.strap q).mid ++ (s.strap q).tail) ∧
  (∀ (who : Fin 17) (q : Fin 64) s, strapPortOf who q = false → Gives (exec (.strapPortPop who q) s) fun t => t = s) ∧
  (∀ s, s.host.linkUp = true → Gives (exec .nrRead s) fun t => t.host.nrCode = 0 ∧ t.host.nrData = (t.nrec (s.host.nrShort - 0x4000)).bytes ∧ t.girth = s.girth) ∧
  (∀ s, s.host.linkUp = false → Gives (exec .nrRead s) fun t => t = s) ∧
  (∀ k s, s.host.linkUp = true → s.pwr ≠ 2 →
    (s.unwraps [(s.host.nrShort - 0x4000, slice s.host.nrData 0 128)]).badRec [(s.host.nrShort - 0x4000, slice s.host.nrData 0 128)] = some k → Gives (exec .nrWrite s) fun t =>
    t.host.nrCode = 0x30 ∧ t.girth = s.girth ∧ Posted (s.unwraps [(s.host.nrShort - 0x4000, slice s.host.nrData 0 128)]) t .nodeRecordBad 0x4210) ∧
  (∀ s, s.host.linkUp = true → s.pwr ≠ 2 →
    (s.unwraps [(s.host.nrShort - 0x4000, slice s.host.nrData 0 128)]).badRec [(s.host.nrShort - 0x4000, slice s.host.nrData 0 128)] = none → (s.nrec (s.host.nrShort - 0x4000)).isFree = true →
    s.girth.recs = [] → (hostRec (slice s.host.nrData 0 128)).isFree = false → (s.nrec (s.host.nrShort - 0x4000)).hw.macState ≠ 6 → (s.nrec (s.host.nrShort - 0x4000)).handover = none →
    Gives (exec .nrWrite s) fun t => t.host.nrCode = 0 ∧ (t.nrec (s.host.nrShort - 0x4000)).host = hostMask (slice s.host.nrData 0 128)) ∧
  (∀ (n : Fin 16) (len : BitVec 32) s, s.coreRuns n = true → (len.toNat < 24 ∨ 1048 < len.toNat) → Gives (exec (.dictPortSubmit n len) s) fun t => t = s) ∧
  (∀ (n : Fin 16) (len : BitVec 32) s, s.coreRuns n = true → 12 ≤ n.val → 24 ≤ len.toNat → len.toNat ≤ 1048 → (s.coreRequest n len.toNat).op ≠ 1 → (s.coreRequest n len.toNat).op ≠ 8 →
    Gives (exec (.dictPortSubmit n len) s) fun t => t.out = .access (.core n) (respond (s.coreRequest n len.toNat) 0x12 []) :: s.out ∧ (t.core n).dictRsp ≠ none ∧ t.dict = { s.dict with nextReq := (s.dict.nextReq + 1) % 65536 }) ∧
  (∀ (who : Fin 17) (op : BitVec 8) s, who.val ≠ 16 → s.coreRuns who = true → (tpCode op.toNat = false ∨ (s.window who).busy = true) →
    Gives (exec (.tpOpStart who op) s) fun t => t = s) ∧
  (∀ (who : Fin 17) (op : BitVec 8) s, ((who.val ≠ 16 ∧ s.coreRuns who = true) ∨ (who.val = 16 ∧ s.host.linkUp = true)) → tpCode op.toNat = true → (s.window who).busy = false →
    Gives (exec (.tpOpStart who op) s) fun t => t.tables.ops = s.tables.ops ++ [⟨who, op.toNat, (s.window who).arg⟩] ∧ t.window who = { s.window who with busy := true } ∧
      t.tables.prefixes = s.tables.prefixes ∧ t.tables.halter = s.tables.halter ∧ t.keeper = s.keeper) ∧
  (∀ f (n : Nat) s, KMap.find s.har.leaving 9 = some f → s.hp9Core f = none → Gives (exec .hp9RxDeliver s) fun t => KMap.find t.har.leaving 9 = none ∧
    t.rd (Key.qDrops (72 + f.cls)) = satAdd u32Max (s.rd (Key.qDrops (72 + f.cls))) 1 ∧ t.cores = s.cores) ∧
  (∀ f n s, KMap.find s.har.leaving 9 = some f → s.hp9Core f = some n → f.report = false → (s.core n).rxRing.size ≠ 0 → (s.core n).rxRing.head ≠ (s.core n).rxRing.tail →
    descHolds (s.desc n (s.core n).rxRing.headAddr) f.bytes.length = true → Gives (exec .hp9RxDeliver s) fun t => KMap.find t.har.leaving 9 = none ∧
      (t.core n).rxRing = (s.core n).rxRing.next ∧ (t.core n).rxFilled = (s.core n).rxFilled ++ [(s.core n).rxRing.head] ∧
      t.desc n (s.core n).rxRing.headAddr = rxDescBack (s.desc n (s.core n).rxRing.headAddr) f ∧ t.rd (Key.hpTx 9) = satAdd u32Max (s.rd (Key.hpTx 9)) 1) ∧
  (∀ (n : Fin 16) dt s, (s.core n).txRing.size ≠ 0 → (s.core n).txRing.head ≠ (s.core n).txRing.tail → s.inputClosed 9 = false →
    txDescOk n (s.desc n (s.core n).txRing.headAddr) = false → Gives (exec (.hp9TxTake n dt) s) fun t => (t.core n).txRing = (s.core n).txRing.next ∧
      t.buckle.edges = s.buckle.edges ++ [48 + n.val] ∧ t.har = s.har) ∧
  (∀ (n : Fin 16) dt s, (s.core n).txRing.head = (s.core n).txRing.tail → Gives (exec (.hp9TxTake n dt) s) fun t => t = s.advance dt)

/-- From R63, R491, R495, Tables 18-10, 19-2 to 19-4 and 19-8: a write reaches the register that the tables place at its word; the host's need its link
and a core's the core, and an offset that no table lists
takes nothing.
For each of these commands it concludes that exec answers a next state (`Gives`), on conditions of state and operands alone:
registerWrite, hifBuckleRaise, rxRingTailWrite, txRingTailWrite, rxRingSizeWrite, txRingSizeWrite, pendingWrite, maskWrite, awlBuckleRaise. -/
def Obligations.RegisterWrites : Prop :=
  (∀ (o : BitVec 16) v s, s.host.linkUp = false → Gives (exec (.registerWrite (.bar0 o) v) s) fun t => t = s) ∧
  (∀ o v s, s.host.linkUp = false → Gives (exec (.registerWrite (.bar2 o) v) s) fun t => t = s) ∧
  (∀ v s, s.host.linkUp = true → s.pwr ≠ 2 →
    Gives (exec (.registerWrite (.bar0 0x40#16) v) s) (fun t => exec (.hifBuckleRaise (BitVec.ofNat 8 v)) s = .next t) ∧
    Gives (exec (.registerWrite (.bar0 0x48#16) v) s) (fun t => t = { s with host := { s.host with eventSel := v % 16 } }) ∧
    Gives (exec (.registerWrite (.bar0 0x10#16) v) s) (fun t => t.host.snap = s.time80 ∧ t.host.snapSeq = (s.host.snapSeq + 1) % 65536) ∧
    Gives (exec (.registerWrite (.bar0 0x3118#16) v) s) (fun t => (bitOf v 31 = true → t.cause 70 = (true, v % 64)) ∧ (bitOf v 31 = false → 70 ∉ t.host.flags)) ∧
    Gives (exec (.registerWrite .msixControl v) s) (fun t => t = { s with host := { s.host with functionMask := v % 2 == 1 } }) ∧
    Gives (exec (.registerWrite (.bar0 0x4000#16) v) s) (fun t => t = s)) ∧
  (∀ (n : Fin 32) v s, s.host.linkUp = true → s.pwr ≠ 2 →
    Gives (exec (.registerWrite (.bar0 (BitVec.ofNat 16 (0x1000 + 8 * n.val))) v) s) (fun t => exec (.rxRingTailWrite n (BitVec.ofNat 12 v)) s = .next t) ∧
    Gives (exec (.registerWrite (.bar0 (BitVec.ofNat 16 (0x1100 + 8 * n.val))) v) s) (fun t => exec (.txRingTailWrite n (BitVec.ofNat 12 v)) s = .next t) ∧
    Gives (exec (.registerWrite (.bar0 (BitVec.ofNat 16 (0x2008 + 16 * n.val))) v) s) (fun t => exec (.rxRingSizeWrite n (BitVec.ofNat 4 v)) s = .next t) ∧
    Gives (exec (.registerWrite (.bar0 (BitVec.ofNat 16 (0x2208 + 16 * n.val))) v) s) (fun t => exec (.txRingSizeWrite n (BitVec.ofNat 4 v)) s = .next t) ∧
    ((s.txRing n).size = 0 → Gives (exec (.registerWrite (.bar0 (BitVec.ofNat 16 (0x2200 + 16 * n.val))) v) s) fun t =>
      (t.txRing n).base = (s.txRing n).base / 2 ^ 32 * 2 ^ 32 + v % 2 ^ 32 / 4096 * 4096)) ∧
  (∀ (n : Fin 16) (w : Fin 8) v s, s.coreRuns n = true →
    Gives (exec (.registerWrite (.corePage n (BitVec.ofNat 12 (0x100 + 4 * w.val))) v) s) (fun t => exec (.pendingWrite n w (BitVec.ofNat 32 v)) s = .next t) ∧
    Gives (exec (.registerWrite (.corePage n (BitVec.ofNat 12 (0x120 + 4 * w.val))) v) s) (fun t => exec (.maskWrite n w (BitVec.ofNat 32 v)) s = .next t) ∧
    Gives (exec (.registerWrite (.corePage n 0x144#12) v) s) (fun t => exec (.awlBuckleRaise n (BitVec.ofNat 8 v)) s = .next t) ∧
    Gives (exec (.registerWrite (.corePage n 0x20#12) v) s) (fun t => (t.core n).accept = (if n.val < 12 then v % 128 else v % 2) ∧ ∀ m, m ≠ n.val → t.core m = s.core m)) ∧
  (∀ i k v r s, rowOf i.toNat k.toNat = some r → s.dict.ready = true → classGroup r = 3 → plainIndex i.toNat = true → r.ty ≠ .domain →
    (s.check (s.stands []) r i.toNat k.toNat (v % 2 ^ (8 * r.ty.size))).rejected ≠ 0 → Gives (exec (.registerWrite (.subentry i k) v) s) fun t => t = s) ∧
  (∀ i k v r s, rowOf i.toNat k.toNat = some r → s.dict.ready = true → classGroup r = 3 → plainIndex i.toNat = true → r.ty ≠ .domain →
    (s.check (s.stands []) r i.toNat k.toNat (v % 2 ^ (8 * r.ty.size))).rejected = 0 → (s.check (s.stands []) r i.toNat k.toNat (v % 2 ^ (8 * r.ty.size))).log = [] →
    Gives (exec (.registerWrite (.subentry i k) v) s) fun t => t.rd (keyOf i.toNat k.toNat) = (s.check (s.stands []) r i.toNat k.toNat (v % 2 ^ (8 * r.ty.size))).stored ∧
      ∀ j, j ≠ keyOf i.toNat k.toNat → t.rd j = s.rd j)

/-- From R512 to R522, R532: a due cycle listens for 1.0 ms and then puts the field on; a tag not yet listed is read, reported and listed; a tag that does
not answer is retried twice and given up; waits are
extended up to the cap; the cycle ends when every enabled protocol was polled; card detection compares with its reference.
For each of these commands it concludes that exec answers a next state (`Gives`), on conditions of state and operands alone:
readerCycleDue, readerListenEnd, fwtTimeout, wtxRequest, readerCycleEnd, lpcdMeasure. -/
def Obligations.ReaderCycles : Prop :=
  (∀ dt s, s.flag Key.conReader = true → 3 ≤ s.pwr → s.concho.antenna = .quiet → (s.concho.due = true ∨ (s.advance dt).cycleTime = true) →
    Gives (exec (.readerCycleDue dt) s) fun t =>
    t.concho = { s.concho with antenna := .listening, due := false, listenAt := (s.advance dt).elapsed }) ∧
  (∀ dt s, s.flag Key.conReader = false → Gives (exec (.readerCycleDue dt) s) fun t => t = s.advance dt) ∧
  (∀ run dt s, s.concho.antenna = .listening → s.concho.listenAt + ms 1 ≤ (s.advance dt).elapsed → Gives (exec (.readerListenEnd [] run dt) s) fun t => t.concho.antenna = .reader ∧
    t.concho.cycleAt = some s.concho.listenAt ∧ t.concho.onAt = (s.advance dt).elapsed ∧ t.concho.seen = [] ∧ t.concho.read = 0 ∧ t.concho.presence = s.concho.presence) ∧
  (∀ (x : TagSeen) run dt s, s.concho.antenna = .listening → s.concho.listenAt + ms 1 ≤ (s.advance dt).elapsed → s.protoOn x.proto = true → uidOk x.proto x.uid = true →
    (s.advance dt).elapsed + guardCycles ≤ ((s.advance dt).advance run).elapsed → s.concho.presence.contains (protoNum x.proto, x.uid) = false → s.concho.presence.length < 256 →
    Gives (exec (.readerListenEnd [x] run dt) s) fun t => t.concho.antenna = .reader ∧ t.concho.presence = s.concho.presence ++ [(protoNum x.proto, x.uid)] ∧ t.concho.read = 1 ∧
      Posted (s.advance dt) t .conTagRead 0x6000 ∧ t.out.head? = some (.reader (if readsIsoDep x then .deselect else .halt))) ∧
  (∀ (x : TagSeen) run dt s, s.concho.antenna = .listening → s.concho.listenAt + ms 1 ≤ (s.advance dt).elapsed → s.protoOn x.proto = true → uidOk x.proto x.uid = true →
    (s.advance dt).elapsed + guardCycles ≤ ((s.advance dt).advance run).elapsed → s.concho.presence.contains (protoNum x.proto, x.uid) = true →
    Gives (exec (.readerListenEnd [x] run dt) s) fun t => t.concho.presence = s.concho.presence ∧ t.concho.seen = [(protoNum x.proto, x.uid)] ∧ t.concho.read = 0 ∧ t.dict = s.dict ∧
      t.out = .reader .halt :: s.out) ∧
  (∀ tags run dt s, s.concho.antenna ≠ .listening → Gives (exec (.readerListenEnd tags run dt) s) fun t => t = s.advance dt) ∧
  (∀ (w : TagWait) dt s, (s.advance dt).waitsFor w = true → (s.exchangeOf w s.elapsed).waitUntil ≤ (s.advance dt).elapsed → (s.exchangeOf w s.elapsed).naks < 2 →
    Gives (exec (.fwtTimeout w dt) s) fun t => t.out = .reader .nak :: s.out ∧ t.concho = { s.concho with exchange := some { s.exchangeOf w s.elapsed with
      naks := (s.exchangeOf w s.elapsed).naks + 1, waitUntil := (s.advance dt).elapsed + linkWait w.link } }) ∧
  (∀ (w : TagWait) dt s, (s.advance dt).waitsFor w = true → (s.exchangeOf w s.elapsed).waitUntil ≤ (s.advance dt).elapsed → 2 ≤ (s.exchangeOf w s.elapsed).naks →
    s.concho.presence.length < 256 → Gives (exec (.fwtTimeout w dt) s) fun t => t.concho.exchange = none ∧ t.concho.presence = s.concho.presence ++ [(protoNum w.proto, w.uid)] ∧
      Posted (s.advance dt) t .conTagRead 0x6000) ∧
  (∀ (w : TagWait) dt s, (s.advance dt).waitsFor w = false → Gives (exec (.fwtTimeout w dt) s) fun t => t = s.advance dt) ∧
  (∀ (w : TagWait) f (m : Fin 59) dt s, w.link = .isoDep f → (s.advance dt).waitsFor w = true → (s.advance dt).elapsed ≤ (s.exchangeOf w s.elapsed).waitUntil →
    (s.exchangeOf w s.elapsed).granted < s.rd Key.conWtxCap → Gives (exec (.wtxRequest w m dt) s) fun t => t.out = .reader (.wtx (m + 1)) :: s.out ∧
      t.concho = { s.concho with exchange := some { s.exchangeOf w s.elapsed with
        granted := (s.exchangeOf w s.elapsed).granted + 1, waitUntil := (s.advance dt).elapsed + min wtxMax (fwtCycles f * (m + 1)) } }) ∧
  (∀ (w : TagWait) f (m : Fin 59) dt s, w.link = .isoDep f → (s.advance dt).waitsFor w = true → (s.advance dt).elapsed ≤ (s.exchangeOf w s.elapsed).waitUntil →
    s.rd Key.conWtxCap ≤ (s.exchangeOf w s.elapsed).granted → Gives (exec (.wtxRequest w m dt) s) fun t => t.concho.exchange = none ∧ Posted (s.advance dt) t .conTagRead 0x6000) ∧
  (∀ (w : TagWait) (m : Fin 59) dt s, (∀ f, w.link ≠ .isoDep f) → Gives (exec (.wtxRequest w m dt) s) fun t => t = s.advance dt) ∧
  (∀ dt s, s.concho.antenna = .reader → s.concho.onAt + guardCycles ≤ (s.advance dt).elapsed → s.concho.field = false → s.concho.read < 64 →
    Gives (exec (.readerCycleEnd [] dt) s) fun t => t.concho.antenna = (if s.concho.due && s.flag Key.conReader && decide (3 ≤ s.pwr) then .listening else .quiet) ∧
      t.concho.read = 0 ∧ t.concho.seen = [] ∧ t.concho.presence = presenceLeft s.polledOut s.concho.seen s.concho.presence ∧ t.buckle.edges = s.buckle.edges ++ [27]) ∧
  (∀ dt s, s.concho.antenna = .reader → s.concho.onAt + guardCycles ≤ (s.advance dt).elapsed → s.concho.field = false → 64 ≤ s.concho.read →
    Gives (exec (.readerCycleEnd [] dt) s) fun t => t.concho.read = 0 ∧ t.concho.presence = presenceLeft s.polledOut s.concho.seen s.concho.presence ∧
      Posted (s.advance dt) t .conTrayFull 0x6000) ∧
  (∀ dt s, s.concho.antenna = .reader → s.concho.onAt + guardCycles ≤ (s.advance dt).elapsed → s.concho.field = true → s.concho.read < 64 →
    Gives (exec (.readerCycleEnd [] dt) s) fun t => t.concho.antenna = .tag ∧ t.rd Key.tagState = 0 ∧ t.buckle.edges = s.buckle.edges ++ [27, 26]) ∧
  (∀ tags dt s, s.concho.antenna ≠ .reader → Gives (exec (.readerCycleEnd tags dt) s) fun t => t = s.advance dt) ∧
  (∀ amp phase dt s, s.flag Key.conLpcd = true → 2 ≤ s.pwr → s.concho.antenna = .quiet → s.concho.measuredAt = none → s.concho.reference = none → Gives (exec (.lpcdMeasure amp phase dt) s) fun t =>
    t.concho.reference = some (amp, phase) ∧ t.concho.measuredAt = some (s.advance dt).elapsed ∧ t.concho.due = s.concho.due) ∧
  (∀ amp phase ref dt s, s.flag Key.conLpcd = true → s.flag Key.conReader = true → s.concho.antenna = .quiet → s.concho.measuredAt = none → s.concho.reference = some ref →
    s.concho.refNext = false → 2 < s.pwr → (103 * ref.1 < 100 * amp ∨ 100 * amp < 97 * ref.1 ∨ 200 < phase - ref.2 ∨ 200 < ref.2 - phase) →
    Gives (exec (.lpcdMeasure amp phase dt) s) fun t => t.concho.due = true ∧ t.concho.reference = some ref ∧ t.buckle.edges = s.buckle.edges ++ [26]) ∧
  (∀ amp phase dt s, s.concho.antenna ≠ .quiet → Gives (exec (.lpcdMeasure amp phase dt) s) fun t => t = s.advance dt)

/-- From R512, R523 to R531: an external field turns the device to a tag with a new UID; its absence ends the session and the tag; FD_N is released 10 ms
after its fall; the tag answers SELECT, READ and
UPDATE with the status words of its tables, and authentication opens it, counts failures and locks for 60 s.
For each of these commands it concludes that exec answers a next state (`Gives`), on conditions of state and operands alone:
extFieldDetect, tagFieldAbsent, tagSessionEnd, fdNRelease, tagSelect, tagReadBinary, tagUpdateBinary, tagVerify, tagGetChallenge, tagExternalAuth,
tagUnknownIns, tagDeselect, tagLockoutEnd. -/
def Obligations.EmulatedTag : Prop :=
  (∀ dt s, s.pwr ≠ 0 → s.concho.antenna = .quiet → Gives (exec (.extFieldDetect dt) s) fun t => t.concho.antenna = .tag ∧ t.concho.field = true ∧ t.rd Key.tagState = 0 ∧
    t.concho.challenge = none ∧ t.concho.file = 0 ∧ t.concho.shadow = none ∧ t.concho.fdAt = (if s.pins.fdLow then s.concho.fdAt else (s.advance dt).elapsed) ∧ t.draws = s.draws + 1 ∧ (s.flag Key.tagFdWake = true → t.pins.fdLow = true) ∧ t.buckle.edges = s.buckle.edges ++ [26]) ∧
  (∀ dt s, s.pwr ≠ 0 → s.concho.antenna = .reader → Gives (exec (.extFieldDetect dt) s) fun t => t = { s.advance dt with concho := { s.concho with field := true } }) ∧
  (∀ dt s, s.pwr = 0 → Gives (exec (.extFieldDetect dt) s) fun t => t = s.advance dt) ∧
  (∀ absent dt s, ms 50 ≤ absent → s.concho.antenna = .tag → Gives (exec (.tagFieldAbsent absent dt) s) fun t => t.concho.field = false ∧
    t.concho.antenna = (if s.concho.due && s.flag Key.conReader && decide (3 ≤ s.pwr) then .listening else .quiet) ∧ t.rd Key.tagState = 0 ∧ t.concho.shadow = none ∧
    t.concho.challenge = none ∧ t.concho.goneAt = (if s.concho.field then (s.advance dt).elapsed - absent else s.concho.goneAt)) ∧
  (∀ absent dt s, absent < ms 50 → Gives (exec (.tagFieldAbsent absent dt) s) fun t => t = s.advance dt) ∧
  (∀ absent dt s, ms 5 ≤ absent → s.concho.antenna = .tag → Gives (exec (.tagSessionEnd absent dt) s) fun t => t.concho.antenna = .tag ∧ t.concho.field = false ∧
    t.rd Key.tagState = 0 ∧ t.concho.shadow = none ∧ t.concho.challenge = none) ∧
  (∀ absent dt s, absent < ms 5 → Gives (exec (.tagSessionEnd absent dt) s) fun t => t = s.advance dt) ∧
  (∀ dt s, s.pins.fdLow = true → s.concho.field = false → s.concho.goneAt + ms 50 ≤ (s.advance dt).elapsed → s.concho.fdAt + ms 10 ≤ (s.advance dt).elapsed →
    Gives (exec (.fdNRelease dt) s) fun t => t.pins = { (s.advance dt).pins with fdLow := false } ∧ t.concho = s.concho) ∧
  (∀ dt s, (s.advance dt).elapsed < s.concho.fdAt + ms 10 → Gives (exec (.fdNRelease dt) s) fun t => t = s.advance dt) ∧
  (∀ file s, s.tagAnswers = true → Gives (exec (.tagSelect (some ndefAid) file) s) fun t => t.out = .tag [] 0x9000 :: s.out ∧ t.concho = { s.concho with file := 0 }) ∧
  (∀ (file : BitVec 16) s, s.tagAnswers = true → Gives (exec (.tagSelect none file) s) fun t =>
    if file = 0xE103#16 ∨ file = 0xE104#16 then t.out = .tag [] 0x9000 :: s.out ∧ t.concho = { s.concho with file := file.toNat }
    else t.out = .tag [] 0x6A82 :: s.out ∧ t.concho = s.concho) ∧
  (∀ (off : BitVec 15) (le : Fin 256) d s, s.tagAnswers = true → le.val < 255 → s.concho.file = 0xE104 → s.concho.shadow = some d → off.toNat < d.length →
    Gives (exec (.tagReadBinary off le) s) fun t => t = { s with out := .tag ((d.drop off.toNat).take (le.val + 1)) 0x9000 :: s.out }) ∧
  (∀ (off : BitVec 15) data written d s, s.tagAnswers = true → 0 < data.length → data.length ≤ 255 → s.rd Key.tagState = 1 → s.concho.file = 0xE104 → s.concho.shadow = some d → off.toNat + data.length ≤ d.length →
    off.toNat ≠ 0 → Gives (exec (.tagUpdateBinary off data written) s) fun t => t.concho = { s.concho with shadow := some (splice d off.toNat data) } ∧ t.out = .tag [] 0x9000 :: s.out ∧
      t.dict = s.dict) ∧
  (∀ (data : Bytes) d s, s.tagAnswers = true → 2 ≤ data.length → data.length ≤ 255 → s.rd Key.tagState = 1 → s.concho.file = 0xE104 → s.concho.shadow = some d → data.length ≤ d.length →
    beNat (slice (splice d 0 data) 0 2) ≠ 0 → beNat (slice (splice d 0 data) 0 2) ≤ 4096 → ndefOk (slice (splice d 0 data) 2 (beNat (slice (splice d 0 data) 0 2))) = true →
    Gives (exec (.tagUpdateBinary 0#15 data 66) s) fun t => t.dom Key.tagNdef = slice (splice d 0 data) 2 (beNat (slice (splice d 0 data) 0 2)) ∧
      t.out.head? = some (.tag [] 0x9000) ∧ 27 ∈ t.buckle.edges ∧ Posted s t .tagWritten 0x6001) ∧
  (∀ (data : Bytes) written d s, s.tagAnswers = true → 2 ≤ data.length → data.length ≤ 255 → s.rd Key.tagState = 1 → s.concho.file = 0xE104 → s.concho.shadow = some d →
    data.length ≤ d.length → 4096 < beNat (slice (splice d 0 data) 0 2) → Gives (exec (.tagUpdateBinary 0#15 data written) s) fun t => t.dom Key.tagNdef = s.dom Key.tagNdef ∧
      t.concho = { s.concho with shadow := none } ∧ t.out.head? = some (.tag [] 0x6A80) ∧ Posted s t .tagWriteBad 0x6001) ∧
  (∀ off data written s, s.tagAnswers = true → 0 < data.length → data.length ≤ 255 → (s.rd Key.tagState ≠ 1 ∨ s.concho.file ≠ 0xE104) →
    Gives (exec (.tagUpdateBinary off data written) s) fun t => t = { s with out := .tag [] 0x6982 :: s.out }) ∧
  (∀ (pw : BitVec 32) s, s.tagAnswers = true → s.concho.lockedUntil = none → s.rd Key.tagAuth = 1 → pw.toNat ≠ 0 → pw.toNat = s.rd Key.tagPassword → Gives (exec (.tagVerify pw) s) fun t =>
    t.rd Key.tagState = 1 ∧ t.concho.fails = 0 ∧ t.out = .tag [] 0x9000 :: s.out) ∧
  (∀ (pw : BitVec 32) s, s.tagAnswers = true → s.concho.lockedUntil = none → s.rd Key.tagAuth = 1 → (pw.toNat = 0 ∨ pw.toNat ≠ s.rd Key.tagPassword) → Gives (exec (.tagVerify pw) s) fun t =>
    t.rd Key.tagState = 0 ∧ t.concho.fails = s.concho.fails + 1 ∧ t.rd Key.tagAuthFails = satAdd u32Max (s.rd Key.tagAuthFails) 1 ∧ t.out = .tag [] 0x6300 :: s.out ∧
    t.concho.lockedUntil = if 4 ≤ s.concho.fails + 1 then some (s.elapsed + ms 60000) else none) ∧
  (∀ s, s.tagAnswers = true → s.rd Key.tagAuth = 2 → Gives (exec .tagGetChallenge s) fun t => ∃ c : BitVec 128, t.concho.challenge = some c ∧ t.out = .tag (beBytes 16 c.toNat) 0x9000 :: s.out) ∧
  (∀ data s, s.tagAnswers = true → s.concho.lockedUntil = none → s.concho.challenge = none → Gives (exec (.tagExternalAuth data) s) fun t => t = { s with out := .tag [] 0x6985 :: s.out }) ∧
  (∀ data c s, s.tagAnswers = true → s.concho.lockedUntil = none → s.rd Key.tagAuth = 2 → s.concho.challenge = some c → s.tagSlotOk = false → Gives (exec (.tagExternalAuth data) s) fun t =>
    t.concho.challenge = none ∧ t.rd Key.tagState = 0 ∧ t.concho.fails = s.concho.fails + 1 ∧ t.out = .tag [] 0x6300 :: s.out) ∧
  (∀ (data : BitVec 128) c s, s.tagAnswers = true → s.concho.lockedUntil = none → s.rd Key.tagAuth = 2 → s.concho.challenge = some c → s.tagSlotOk = true →
    (beBytes 16 data.toNat).map (·.toNat) = Crypto.aesEnc ((s.slot (s.rd Key.tagKeySlot)).key.map (·.toNat)) ((beBytes 16 c.toNat).map (·.toNat)) →
    Gives (exec (.tagExternalAuth data) s) fun t => t.concho = { s.concho with challenge := none, fails := 0 } ∧ t.rd Key.tagState = 1 ∧ t.out.head? = some (.tag [] 0x9000)) ∧
  (∀ (pw : BitVec 32) (data : BitVec 128) s, s.tagAnswers = true → s.concho.lockedUntil ≠ none → Gives (exec (.tagVerify pw) s) (fun t => t = { s with out := .tag [] 0x6983 :: s.out }) ∧
    Gives (exec (.tagExternalAuth data) s) fun t => t = { s with out := .tag [] 0x6983 :: s.out }) ∧
  (∀ s, s.tagAnswers = true → Gives (exec .tagUnknownIns s) fun t => t = { s with out := .tag [] 0x6D00 :: s.out }) ∧
  (∀ s, s.tagAnswers = true → Gives (exec .tagDeselect s) fun t => t.rd Key.tagState = 0 ∧ t.concho = { s.concho with shadow := none }) ∧
  (∀ dt a s, s.concho.lockedUntil = some a → a ≤ (s.advance dt).elapsed → Gives (exec (.tagLockoutEnd dt) s) fun t => t.concho = { s.concho with lockedUntil := none } ∧ t.dict = (s.advance dt).dict) ∧
  (∀ dt a s, s.concho.lockedUntil = some a → (s.advance dt).elapsed < a → Gives (exec (.tagLockoutEnd dt) s) fun t => t = s.advance dt)

/-- From R535, R537, R538: a state command starts the transition towards its state; the end of a transition reaches the state and its dwell begins, and
the next hop follows; a request that waited for the dwell starts when it ends; an event wakes STANDBY.
For each of these commands it concludes that exec answers a next state (`Gives`), on conditions of state and operands alone:
pwrStateCmd, pwrTransitionDone, pwrDwellEnd, standbyWake. -/
def Obligations.PowerStates : Prop :=
  (∀ (x : Fin 3) s, s.cmdBlocked Key.pwrStateRes = false → s.power.shutdown = none → s.power.moving = none → s.pwr ≠ x.val + 2 → s.power.dwellUntil ≤ s.elapsed →
    Gives (exec (.pwrStateCmd x) s) fun t => t.power.moving = some (powerHop s.pwr (x.val + 2)) ∧ t.power.goal = some (x.val + 2) ∧ t.pwr = s.pwr) ∧
  (∀ (x : Fin 3) s, s.cmdBlocked Key.pwrStateRes = false → s.power.shutdown = none → s.power.moving = none → s.pwr = x.val + 2 →
    Gives (exec (.pwrStateCmd x) s) fun t => t.pwr = s.pwr ∧ (t.res Key.pwrStateRes).outcome = 1 ∧ t.power.moving = none) ∧
  (∀ (x : Fin 3) s, s.cmdBlocked Key.pwrStateRes = false → s.power.shutdown ≠ none →
    Gives (exec (.pwrStateCmd x) s) fun t => (t.res Key.pwrStateRes).outcome = 2 ∧ (t.res Key.pwrStateRes).code = 1 ∧ t.power = s.power) ∧
  (∀ (x : Fin 3) s, s.cmdBlocked Key.pwrStateRes = true → Gives (exec (.pwrStateCmd x) s) fun t => t = s) ∧
  (∀ dt s, s.power.start = none → s.pwr = 4 → (∀ p, p < 4 → s.pstate p = 0 ∧ (s.port p).step = none) → s.power.moving = some 3 → s.power.pending = none → s.power.goal = some 3 →
    Gives (exec (.pwrTransitionDone dt) s) fun t => t.pwr = 3 ∧ t.power.moving = none ∧ t.power.goal = none ∧ t.power.dwellUntil = (s.advance dt).elapsed + ms 1) ∧
  (∀ dt s, s.power.start = none → s.pwr = 4 → (∀ p, p < 4 → s.pstate p = 0 ∧ (s.port p).step = none) → s.power.moving = some 3 → s.power.pending = none → s.power.goal = some 2 →
    Gives (exec (.pwrTransitionDone dt) s) fun t => t.pwr = 3 ∧ t.power.moving = some 2 ∧ t.power.goal = some 2) ∧
  (∀ dt s, s.power.start = none → s.pwr = 3 → s.power.moving = some 2 → (s.advance dt).closedDrained = false → (s.advance dt).elapsed < s.power.movedAt + ms 10 →
    Gives (exec (.pwrTransitionDone dt) s) fun t => t = s.advance dt) ∧
  (∀ dt st s, s.power.start = some st → s.dict.ready = false → (s.advance dt).startWaited = false → Gives (exec (.pwrTransitionDone dt) s) fun t => t = s.advance dt) ∧
  (∀ dt st s, s.power.start = some st → s.dict.ready = false → (s.advance dt).startWaited = true → Gives (exec (.pwrTransitionDone dt) s) fun t => t.dict.ready = true ∧ t.power.moving = some 4 ∧ t.vbat.valid = true ∧
    t.vbat.cause = st.cause) ∧
  (∀ dt x s, s.power.pending = some x → s.power.moving = none → s.power.shutdown = none → s.power.dwellUntil ≤ (s.advance dt).elapsed → x ≠ s.pwr →
    Gives (exec (.pwrDwellEnd dt) s) fun t => t.power.moving = some (powerHop s.pwr x) ∧ t.power.pending = none ∧ t.pwr = s.pwr) ∧
  (∀ dt x s, s.power.pending = some x → (s.advance dt).elapsed < s.power.dwellUntil → Gives (exec (.pwrDwellEnd dt) s) fun t => t = s.advance dt) ∧
  (∀ s, s.pwr = 2 → s.power.moving = none → s.power.pending = none → s.power.shutdown = none → s.power.dwellUntil ≤ s.elapsed → Gives (exec (.standbyWake false) s) fun t =>
    t.power.moving = some 3 ∧ t.pwr = 2) ∧
  (∀ s, s.pwr = 2 → s.flag Key.conReader = true → Gives (exec (.standbyWake true) s) fun t => t.concho.due = true ∧ t.pwr = 2) ∧
  (∀ s, s.flag Key.conReader = false → Gives (exec (.standbyWake true) s) fun t => t = s) ∧
  (∀ b s, s.pwr ≠ 2 → Gives (exec (.standbyWake b) s) fun t => t = s)

/-- From R541 to R546, Tables 21-3 and 21-5: a trigger in a device that runs starts a shutdown with every port on its way to SLEEP and the transmissions
on air ramping down, one during a start is held; the commit is not made before 4 ms, marks the record clean and leaves the device down; a supply that
returns before it
abandons the shutdown, and after it starts the device once 50 ms have passed; a loss of power commits nothing.
For each of these commands it concludes that exec answers a next state (`Gives`), on conditions of state and operands alone:
shutdownTrigger, retentionCommit, coreStopRequest, supplyReturn, offTimeEnd, lossOfPower, thermalTrip, thermalCool. -/
def Obligations.Shutdown : Prop :=
  (∀ b s, s.power.start = none → s.dict.ready = true → s.power.shutdown = none → Gives (exec (.shutdownTrigger b) s) fun t => (∃ d, t.power.shutdown = some d ∧ d.phase = .running ∧
    d.thermal = false ∧ d.since = s.elapsed ∧ d.found = s.power.moving.getD s.pwr) ∧ t.power.moving = none ∧ ∀ p, t.portTarget p = some 0) ∧
  (∀ b (p : Nat) n j s, s.power.start = none → s.dict.ready = true → s.power.shutdown = none → s.power.moving = none → p < 4 → n ∈ s.airOn p → (s.tx n).job = some j → j.aborted = none →
    Gives (exec (.shutdownTrigger b) s) fun t => t.rd (Key.txcState n) = 3 ∧ ∃ k, (t.tx n).job = some k ∧ k.aborted = some s.elapsed) ∧
  (∀ b s, s.power.start ≠ none → Gives (exec (.shutdownTrigger b) s) fun t => t.power = { s.power with held := true } ∧ t.radio = s.radio) ∧
  (∀ dt d s, s.power.shutdown = some d → d.phase = .running → d.since + (if d.thermal then us 100 else ms 4) ≤ (s.advance dt).elapsed →
    Gives (exec (.retentionCommit dt) s) fun t => t.vbat.clean = true ∧
    t.vbat.shutSeq = (s.vbat.shutSeq + 1) % 2 ^ 32 ∧ t.vbat.rtc = (s.advance dt).clock.sec ∧ t.dict.ready = false ∧ t.pwr = 1 ∧ (∃ e, t.power.shutdown = some e ∧ e.phase = .committed) ∧ t.tree = s.tree) ∧
  (∀ dt d s, s.power.shutdown = some d → d.phase = .running → (s.advance dt).elapsed < d.since + (if d.thermal then us 100 else ms 4) → Gives (exec (.retentionCommit dt) s) fun t => t = s.advance dt) ∧
  (∀ dt s, s.power.moving = some 2 → Gives (exec (.coreStopRequest dt) s) fun t => ∀ n, n < 16 → (t.coreIsl n).want = none ∧ ((t.coreIsl n).phase = .off ∨ (t.coreIsl n).phase = .stopping) ∧
    ((s.coreIsl n).phase = .on → (s.coreIsl n).since + us 10 ≤ (s.advance dt).elapsed → (t.coreIsl n).phase = .off)) ∧
  (∀ dt s, s.power.moving ≠ some 2 → s.power.shutdown = none → Gives (exec (.coreStopRequest dt) s) fun t => t = s.advance dt) ∧
  (∀ bad d s, s.power.shutdown = some d → d.phase = .running → d.thermal = false → Gives (exec (.supplyReturn bad) s) fun t => t.power.shutdown = none ∧ t.pins.shutdownLow = false ∧
    t.dict.ready = s.dict.ready) ∧
  (∀ bad s, s.power.shutdown = none → Gives (exec (.supplyReturn bad) s) fun t => t.pins = { s.pins with shutdownLow := false } ∧
    t.power = { s.power with held := s.power.held && s.power.cause == some 5 }) ∧
  (∀ bad d s, s.power.shutdown = some d → d.phase = .committed → d.offDone = true → d.thermal = false → s.pins.resetLow = false → Gives (exec (.supplyReturn bad) s) fun t => t.power.shutdown = none ∧
    (∃ st, t.power.start = some st ∧ st.cold = true) ∧ t.pins.shutdownLow = false) ∧
  (∀ bad dt d s, s.power.shutdown = some d → d.phase = .committed → d.committedAt + ms 50 ≤ (s.advance dt).elapsed → d.returned = false → s.power.rails = false →
    Gives (exec (.offTimeEnd bad dt) s) fun t => t.power.shutdown = some { d with offDone := true } ∧ t.power.start = s.power.start) ∧
  (∀ bad dt d s, s.power.shutdown = some d → d.phase = .committed → d.committedAt + ms 50 ≤ (s.advance dt).elapsed → d.returned = true → d.thermal = false → s.pins.resetLow = false →
    Gives (exec (.offTimeEnd bad dt) s) fun t => t.power.shutdown = none ∧ ∃ st, t.power.start = some st ∧ st.cold = true) ∧
  (∀ bad dt d s, s.power.shutdown = some d → (s.advance dt).elapsed < d.committedAt + ms 50 → Gives (exec (.offTimeEnd bad dt) s) fun t => t = s.advance dt) ∧
  (∀ d s, s.power.shutdown = some d → d.phase = .running → Gives (exec .lossOfPower s) fun t => t.dict.ready = false ∧ t.pwr = 1 ∧ t.power.shutdown = none ∧ t.vbat = s.vbat ∧
    t.power.rails = false) ∧
  (∀ s, s.alive = true → s.power.shutdown = none → Gives (exec .lossOfPower s) fun t => t.dict.ready = false ∧ t.pwr = 1 ∧ t.power.rails = false ∧ t.vbat = s.vbat ∧ t.tree = s.tree ∧ t.tables.prefixes = []) ∧
  (∀ s, s.dict.ready = true → s.power.start = none → s.power.shutdown = none → Gives (exec .thermalTrip s) fun t => t.power.cause = some 5 ∧
    ∃ d, t.power.shutdown = some d ∧ d.thermal = true ∧ d.phase = .running) ∧
  (∀ s, s.alive = false → Gives (exec .thermalTrip s) fun t => t = s) ∧
  (∀ bad d s, s.power.shutdown = some d → d.phase = .committed → d.thermal = true → d.offDone = false → Gives (exec (.thermalCool bad) s) fun t =>
    t.power.shutdown = some { d with cool := true } ∧ t.power.start = s.power.start)

/-- From R540, R547, R551, Tables 21-5 and 21-6: a cold start of a device that is down begins the start and leaves fuses and identity; RESET_N takes the
device down for cause 4; a warm reset of a device that runs begins a start for its cause, empties the tables and
keeps the attached memory; at any of the three no source is pending or masked, no pointer is held and every SRC_EVENTS counter is 0 (R492); the
watchdog resets after 2 s without a refresh; a lost battery supply clears its registers.
For each of these commands it concludes that exec answers a next state (`Gives`), on conditions of state and operands alone:
resetNLow, coldStart, warmReset, watchdogRefresh, watchdogExpiry, vbatLost, vbatSupplyRise. -/
def Obligations.Resets : Prop :=
  (∀ s, let quiet (t : State) : Prop := t.buckle.pend = [] ∧ t.buckle.mask = [] ∧ t.buckle.last = [] ∧ ∀ k, k < 256 → t.rd (Key.srcEvents k) = 0
    (s.pwr ≠ 0 → s.power.shutdown = none → Gives (exec .resetNLow s) quiet) ∧
    (∀ kept bad dt, s.alive = false → s.power.shutdown = none → s.pins.resetLow = false → Gives (exec (.coldStart (.rails railOrder) kept bad dt) s) quiet) ∧
    (∀ c, s.dict.ready = true → Gives (exec (.warmReset c) s) quiet)) ∧
  (∀ ev kept bad dt s, s.alive = false → s.power.shutdown = none → (ev = .rails railOrder ∧ s.pins.resetLow = false ∨ ev = .released ∧ s.power.rails = true) →
    Gives (exec (.coldStart ev kept bad dt) s) fun t => t.dict.ready = false ∧ t.fuses = s.fuses ∧ t.ident = s.ident ∧ t.power.rails = true ∧
      ∃ st, t.power.start = some st ∧ st.cold = true ∧ (bad = [] → s.pwr ≠ 0 → st.cause = s.coldCause)) ∧
  (∀ o kept bad dt s, o ≠ railOrder → s.power.rails = false → Gives (exec (.coldStart (.rails o) kept bad dt) s) fun t => t = s.advance dt) ∧
  (∀ ev kept bad dt s, s.alive = true → Gives (exec (.coldStart ev kept bad dt) s) fun t => t = s.advance dt) ∧
  (∀ s, s.pwr ≠ 0 → s.power.shutdown = none → Gives (exec .resetNLow s) fun t => t.dict.ready = false ∧ t.pwr = 1 ∧ t.power.cause = some 4 ∧ t.vbat = s.vbat ∧ t.tree = s.tree ∧ t.fuses = s.fuses ∧
    t.tables.prefixes = [] ∧ t.keeper.slots = []) ∧
  (∀ (c : Fin 4) s, s.dict.ready = true → Gives (exec (.warmReset c) s) fun t => t.dict.ready = false ∧ t.power.start = some ⟨false, 6 + c, false, s.elapsed⟩ ∧ t.tables.prefixes = [] ∧
    t.tables.halter = [] ∧ t.lacing = { s.lacing with camps := [] } ∧ t.sb.nodes = [] ∧ t.sb.mem = s.sb.mem ∧ t.fuses = s.fuses ∧ t.pulses = State.reset.pulses) ∧
  (∀ (c : Fin 4) s, s.alive = false → Gives (exec (.warmReset c) s) fun t => t = s) ∧
  (∀ s, Gives (exec .watchdogRefresh s) fun t => t.power = { s.power with watchdog := s.elapsed } ∧ t.dict = s.dict) ∧
  (∀ dt s, s.dict.ready = true → s.coreIsland 0 = true → s.power.watchdog + ms 2000 ≤ (s.advance dt).elapsed → Gives (exec (.watchdogExpiry dt) s) fun t =>
    t.dict.ready = false ∧ t.power.start = some ⟨false, 9, false, (s.advance dt).elapsed⟩) ∧
  (∀ dt s, (s.advance dt).elapsed < s.power.watchdog + ms 2000 → Gives (exec (.watchdogExpiry dt) s) fun t => t = s.advance dt) ∧
  (∀ s, s.power.rails = false → Gives (exec .vbatLost s) fun t => t.vbat.valid = false ∧ t.vbat.root = none ∧ t.vbat.rwp = [] ∧ t.pwr = 0) ∧
  (∀ s, s.power.rails = true → Gives (exec .vbatLost s) fun t => t = s) ∧
  (∀ s, s.power.rails = false → s.vbat.valid = false → Gives (exec .vbatSupplyRise s) fun t => t.vbat = Vbat.cleared ∧ t.pwr = 1 ∧ t.tree = s.tree) ∧
  (∀ s, s.vbat.valid = true → Gives (exec .vbatSupplyRise s) fun t => t = s)

/-- From R8 to R11, R36, R494, R572 to R574, Table 1-4: a corrected word counts in its memory, an uncorrectable one is posted with it; a flit that fails
after 16 replays resets the device; the PCIe link and
the strap pin change the candidacy, and a cut of 1 s to every head is posted once.
For each of these commands it concludes that exec answers a next state (`Gives`), on conditions of state and operands alone:
scrubPass, bridgeFlitCrcFail, pcieLinkUp, pcieLinkDown, headSelChange, hostUnreachable. -/
def Obligations.MemoriesAndHostPath : Prop :=
  (∀ (m : Mem) k addr unit clash s, scrubbed m = some k → Gives (exec (.scrubPass m addr unit .single clash) s) fun t => t.rd (Key.memErr k) = satAdd u32Max (s.rd (Key.memErr k)) 1 ∧
    (∀ j, j ≠ Key.memErr k → t.rd j = s.rd j) ∧ t.cores = s.cores ∧ t.girth = s.girth ∧ t.sb = s.sb) ∧
  (∀ (m : Mem) addr unit clash s, Gives (exec (.scrubPass m addr unit .none clash) s) fun t => t = s) ∧
  (∀ addr unit clash s, Gives (exec (.scrubPass .coreLocal addr unit .uncorrectable clash) s) fun t => t.rd (Key.memErr 2) = satAdd u32Max (s.rd (Key.memErr 2)) 1 ∧
    t.rd Key.memUncorrected = satAdd u32Max (s.rd Key.memUncorrected) 1 ∧ Posted s t .memUncorrected 0x1200 ∧ t.cores = s.cores) ∧
  (∀ n s, n < 16 → Gives (exec (.bridgeFlitCrcFail n) s) fun t => t = s) ∧
  (∀ n s, 16 ≤ n → s.dict.ready = true → Gives (exec (.bridgeFlitCrcFail n) s) fun t => t.dict.ready = false ∧ t.power.start = some ⟨false, 7, false, s.elapsed⟩ ∧ t.fuses = s.fuses) ∧
  (∀ s, s.alive = true → s.host.linkUp = false → s.pins.headSel = false → Gives (exec .pcieLinkUp s) fun t => t.host.linkUp = true ∧ t.chain = s.chain ∧ 24 ∈ t.buckle.edges) ∧
  (∀ s, s.host.linkUp = true → Gives (exec .pcieLinkUp s) fun t => t = s) ∧
  (∀ s, s.host.linkUp = true → s.rd Key.chainRole = 3 → Gives (exec .pcieLinkDown s) fun t => t.host.linkUp = false ∧ t.rd Key.chainRole = 0 ∧ t.rd Key.chainEnumState = 0 ∧
    t.chain.enumRun = none ∧ t.host.vectors = [] ∧ ∀ n, (t.rxRing n).size = 0) ∧
  (∀ s, s.host.linkUp = false → Gives (exec .pcieLinkDown s) fun t => t = s) ∧
  (∀ s, s.rd Key.chainRole ≠ 3 → Gives (exec (.headSelChange false) s) fun t => t = { s with pins := { s.pins with headSel := false } }) ∧
  (∀ s, s.rd Key.chainRole = 3 → Gives (exec (.headSelChange false) s) fun t => t.pins.headSel = false ∧ t.rd Key.chainRole = 0 ∧ t.chain.enumRun = none) ∧
  (∀ dt a s, (s.advance dt).hostPath = false → s.host.cutSince = some a → s.host.cutPosted = false → a + ms 1000 ≤ (s.advance dt).elapsed → Gives (exec (.hostUnreachable dt) s) fun t =>
    t.host.cutPosted = true ∧ t.host.cutSince = some a ∧ Posted (s.advance dt) t .hostUnreachable 0x1100) ∧
  (∀ dt a s, (s.advance dt).hostPath = false → s.host.cutSince = some a → (s.advance dt).elapsed < a + ms 1000 → Gives (exec (.hostUnreachable dt) s) fun t => t = s.advance dt)

/-- Steps of the block: a step takes the command at the front of the queue and runs it with the queue's rest (DESIGN CHOICE for the empty queue, log 2:
one cycle of the device's clock passes). -/
def Obligations.StepTakesTheFront : Prop :=
  (∀ (c : Instr) (rest : List Instr) (s : State), s.pending = c :: rest → step s = exec c { s with pending := rest }) ∧
  (∀ s : State, s.pending = [] → step s = .next (s.advance 1)) ∧
  (∀ (c : Instr) (s : State), step { s with pending := c :: s.pending } = exec c s)

/-- Every command completes and leaves the queue of commands and every part of the state outside its own as they were. -/
def Obligations.CommandFrames : Prop :=
  ∀ (c : Instr) (s : State), Gives (exec c s) fun t => t.pending = s.pending ∧ s.SameBut (touches c) t

/-- From R102, R366: from every state a step keeps the identity of the part, and only a Stamp lock programs fuses. -/
def Obligations.IdentityKept : Prop :=
  ∀ s : State, SamePart s → Gives (step s) fun t => SamePart t ∧ ((∀ c rest, s.pending = c :: rest → c ≠ .stampLockDone true ∧ c ≠ .stampLockDone false) → t.fuses = s.fuses)

/-- Local memories and the attached memory stay in canonical form in every step. -/
def Obligations.MemoriesStayCanonical : Prop :=
  ∀ s : State, Memory.wf s → Gives (step s) fun t => Memory.wf t

/-- The state after reset (Tables 21-2 and 21-5, R30, R65, R130, R305, R480, R492): the identity is the part's, nothing waits, both memories list nothing,
every link is DOWN with no buffer in use, the device has no
address or role, every port is in SLEEP and every tile off, the Keeper is unkeyed, no campaign runs, and no source is pending. -/
def Obligations.ResetState : Prop :=
  SamePart State.reset ∧ Memory.wf State.reset ∧ State.reset.pending = [] ∧ State.reset.cores.mem = [] ∧ State.reset.sb.mem = [] ∧
  (∀ p, State.reset.link p = 0 ∧ (State.reset.cport p).out = []) ∧ State.reset.addr = 0xFF ∧ State.reset.rd Key.chainRole = 0 ∧
  (∀ p : Fin 4, State.reset.pstate p = 0) ∧ (∀ n : Fin 16, State.reset.rd (Key.txcState n) = 0) ∧ (∀ n : Fin 64, State.reset.rd (Key.rxcState n) = 0) ∧
  State.reset.keyed = false ∧ (∀ k : Fin 16, State.reset.campSt k = 0) ∧ State.reset.host.linkUp = false ∧ State.reset.sbLink = 0 ∧
  (∀ n : Fin 16, State.reset.pend n = 0 ∧ State.reset.mask n = 0 ∧ (State.reset.core n).stores = [])
end

