-- ==== Sys2Proof/Laws/Exec.lean ====
section
/-! SUPPORT. What exec runs, command by command. -/

namespace Sys2Proof.Machine

@[simp] theorem exec_scrubPass (mem : Mem) (addr unit : Nat) (err : MemErr) (clash : Bool) (s : State) : exec (.scrubPass mem addr unit err clash) s = execScrubPass mem addr unit err clash s := rfl
@[simp] theorem exec_bridgeFlitCrcFail (replays : Nat) (s : State) : exec (.bridgeFlitCrcFail replays) s = execBridgeFlitCrcFail replays s := rfl
@[simp] theorem exec_sampleOverrun (n : Fin 64) (s : State) : exec (.sampleOverrun n) s = execSampleOverrun n s := rfl
@[simp] theorem exec_islandStart (t : Tile) (dt : Nat) (s : State) : exec (.islandStart t dt) s = execIslandStart t dt s := rfl
@[simp] theorem exec_islandOn (t : Tile) (dt : Nat) (s : State) : exec (.islandOn t dt) s = execIslandOn t dt s := rfl
@[simp] theorem exec_islandStop (t : Tile) (dt : Nat) (s : State) : exec (.islandStop t dt) s = execIslandStop t dt s := rfl
@[simp] theorem exec_islandOff (t : Tile) (dt : Nat) (s : State) : exec (.islandOff t dt) s = execIslandOff t dt s := rfl
@[simp] theorem exec_islandDwellEnd (t : Tile) (dt : Nat) (s : State) : exec (.islandDwellEnd t dt) s = execIslandDwellEnd t dt s := rfl
@[simp] theorem exec_linkSignalDetected (p : Side) (s : State) : exec (.linkSignalDetected p) s = execLinkSignalDetected p s := rfl
@[simp] theorem exec_linkLocked (p : Side) (s : State) : exec (.linkLocked p) s = execLinkLocked p s := rfl
@[simp] theorem exec_linkFrameRx (p : Side) (m : LinkMsg) (s : State) : exec (.linkFrameRx p m) s = execLinkFrameRx p m s := rfl
@[simp] theorem exec_linkFrameTx (p : Side) (s : State) : exec (.linkFrameTx p) s = execLinkFrameTx p s := rfl
@[simp] theorem exec_linkDown (p : Side) (s : State) : exec (.linkDown p) s = execLinkDown p s := rfl
@[simp] theorem exec_chainFrameRx (p : Side) (f : ChainFrame) (payload : Bytes) (crc : BitVec 32) (s : State) : exec (.chainFrameRx p f payload crc) s = execChainFrameRx p f payload crc s := rfl
@[simp] theorem exec_chainFrameAbort (p : Side) (lane : Fin 4) (units blocks : Nat) (lockLost : Bool) (s : State) : exec (.chainFrameAbort p lane units blocks lockLost) s = execChainFrameAbort p lane units blocks lockLost s := rfl
@[simp] theorem exec_chainFrameTx (p : Side) (dt : Nat) (s : State) : exec (.chainFrameTx p dt) s = execChainFrameTx p dt s := rfl
@[simp] theorem exec_surveyRx (p : Side) (m : Survey) (s : State) : exec (.surveyRx p m) s = execSurveyRx p m s := rfl
@[simp] theorem exec_surveyReturn (p : Side) (m : Survey) (byDone : Bool) (s : State) : exec (.surveyReturn p m byDone) s = execSurveyReturn p m byDone s := rfl
@[simp] theorem exec_assignRx (p : Side) (m : Assign) (s : State) : exec (.assignRx p m) s = execAssignRx p m s := rfl
@[simp] theorem exec_assignReturn (p : Side) (m : Assign) (byDone : Bool) (map : List TopoEntry) (s : State) : exec (.assignReturn p m byDone map) s = execAssignReturn p m byDone map s := rfl
@[simp] theorem exec_topoRx (p : Side) (m : TopoMsg) (s : State) : exec (.topoRx p m) s = execTopoRx p m s := rfl
@[simp] theorem exec_enumAutoStart (s : State) : exec .enumAutoStart s = execEnumAutoStart s := rfl
@[simp] theorem exec_chainEnumIncremental (s : State) : exec .chainEnumIncremental s = execChainEnumIncremental s := rfl
@[simp] theorem exec_chainEnumFull (s : State) : exec .chainEnumFull s = execChainEnumFull s := rfl
@[simp] theorem exec_enumPassTimeout (map : List TopoEntry) (dt : Nat) (s : State) : exec (.enumPassTimeout map dt) s = execEnumPassTimeout map dt s := rfl
@[simp] theorem exec_headBroadcast (s : State) : exec .headBroadcast s = execHeadBroadcast s := rfl
@[simp] theorem exec_headRx (p : Side) (m : HeadMsg) (s : State) : exec (.headRx p m) s = execHeadRx p m s := rfl
@[simp] theorem exec_headMissTakeover (dt : Nat) (s : State) : exec (.headMissTakeover dt) s = execHeadMissTakeover dt s := rfl
@[simp] theorem exec_chainSwitchover (s : State) : exec .chainSwitchover s = execChainSwitchover s := rfl
@[simp] theorem exec_delayMeasure (p : Side) (t1 : Nat) (s : State) : exec (.delayMeasure p t1) s = execDelayMeasure p t1 s := rfl
@[simp] theorem exec_delayReqRx (p : Side) (t1 t2 t3 : Nat) (s : State) : exec (.delayReqRx p t1 t2 t3) s = execDelayReqRx p t1 t2 t3 s := rfl
@[simp] theorem exec_delayRspRx (p : Side) (t1 t2 t3 t4 : Nat) (s : State) : exec (.delayRspRx p t1 t2 t3 t4) s = execDelayRspRx p t1 t2 t3 t4 s := rfl
@[simp] theorem exec_timeFrameTx (p : Side) (s : State) : exec (.timeFrameTx p) s = execTimeFrameTx p s := rfl
@[simp] theorem exec_timeFrameRx (p : Side) (m : TimeMsg) (dt : Nat) (s : State) : exec (.timeFrameRx p m dt) s = execTimeFrameRx p m dt s := rfl
@[simp] theorem exec_sbReqIssue (r : SbReq) (s : State) : exec (.sbReqIssue r) s = execSbReqIssue r s := rfl
@[simp] theorem exec_sbReqRx (p : Side) (src tag : Nat) (r : SbReq) (s : State) : exec (.sbReqRx p src tag r) s = execSbReqRx p src tag r s := rfl
@[simp] theorem exec_sbRspRx (tag : Nat) (code : SbCode) (bytes : Bytes) (s : State) : exec (.sbRspRx tag code bytes) s = execSbRspRx tag code bytes s := rfl
@[simp] theorem exec_sbTimeout (tag dt : Nat) (s : State) : exec (.sbTimeout tag dt) s = execSbTimeout tag dt s := rfl
@[simp] theorem exec_read (via : Via) (a : Access) (s : State) : exec (.read via a) s = execRead via a s := rfl
@[simp] theorem exec_write (via : Via) (a : Access) (s : State) : exec (.write via a) s = execWrite via a s := rfl
@[simp] theorem exec_readBlock (via : Via) (a : Access) (s : State) : exec (.readBlock via a) s = execReadBlock via a s := rfl
@[simp] theorem exec_writeBlock (via : Via) (a : Access) (s : State) : exec (.writeBlock via a) s = execWriteBlock via a s := rfl
@[simp] theorem exec_prepare (via : Via) (a : Access) (s : State) : exec (.prepare via a) s = execPrepare via a s := rfl
@[simp] theorem exec_commit (via : Via) (a : Access) (s : State) : exec (.commit via a) s = execCommit via a s := rfl
@[simp] theorem exec_abort (via : Via) (a : Access) (s : State) : exec (.abort via a) s = execAbort via a s := rfl
@[simp] theorem exec_notify (via : Via) (a : Access) (s : State) : exec (.notify via a) s = execNotify via a s := rfl
@[simp] theorem exec_notifyEventSend (slot dt : Nat) (s : State) : exec (.notifyEventSend slot dt) s = execNotifyEventSend slot dt s := rfl
@[simp] theorem exec_dictRetryTimeout (slot : Nat) (dt : Nat) (s : State) : exec (.dictRetryTimeout slot dt) s = execDictRetryTimeout slot dt s := rfl
@[simp] theorem exec_dictResponseRx (src : Nat) (a : Access) (s : State) : exec (.dictResponseRx src a) s = execDictResponseRx src a s := rfl
@[simp] theorem exec_blockIdleExpiry (origin key dt : Nat) (s : State) : exec (.blockIdleExpiry origin key dt) s = execBlockIdleExpiry origin key dt s := rfl
@[simp] theorem exec_txnIdleExpiry (dt : Nat) (s : State) : exec (.txnIdleExpiry dt) s = execTxnIdleExpiry dt s := rfl
@[simp] theorem exec_commitGraceExpiry (dt : Nat) (s : State) : exec (.commitGraceExpiry dt) s = execCommitGraceExpiry dt s := rfl
@[simp] theorem exec_epochApply (dt : Nat) (s : State) : exec (.epochApply dt) s = execEpochApply dt s := rfl
@[simp] theorem exec_graceEnd (tenant dt : Nat) (s : State) : exec (.graceEnd tenant dt) s = execGraceEnd tenant dt s := rfl
@[simp] theorem exec_dictStore (s : State) : exec .dictStore s = execDictStore s := rfl
@[simp] theorem exec_dictErase (s : State) : exec .dictErase s = execDictErase s := rfl
@[simp] theorem exec_dictStoreDone (ok : Bool) (s : State) : exec (.dictStoreDone ok) s = execDictStoreDone ok s := rfl
@[simp] theorem exec_clampLogClear (s : State) : exec .clampLogClear s = execClampLogClear s := rfl
@[simp] theorem exec_errLogClear (s : State) : exec .errLogClear s = execErrLogClear s := rfl
@[simp] theorem exec_registerWrite (r : Reg) (v : Nat) (s : State) : exec (.registerWrite r v) s = execRegisterWrite r v s := rfl
@[simp] theorem exec_portStateCmd (p : Fin 4) (t : Fin 5) (s : State) : exec (.portStateCmd p t) s = execPortStateCmd p t s := rfl
@[simp] theorem exec_portTransitionDone (p : Fin 4) (locked : Bool) (out : List CalMeas) (measured : Bytes) (dt : Nat) (s : State) : exec (.portTransitionDone p locked out measured dt) s = execPortTransitionDone p locked out measured dt s := rfl
@[simp] theorem exec_portDwellEnd (p : Fin 4) (dt : Nat) (s : State) : exec (.portDwellEnd p dt) s = execPortDwellEnd p dt s := rfl
@[simp] theorem exec_synthLockLost (p : Fin 4) (s : State) : exec (.synthLockLost p) s = execSynthLockLost p s := rfl
@[simp] theorem exec_synthRelockDone (p : Fin 4) (locked : Bool) (dt : Nat) (s : State) : exec (.synthRelockDone p locked dt) s = execSynthRelockDone p locked dt s := rfl
@[simp] theorem exec_retuneStart (p : Fin 4) (s : State) : exec (.retuneStart p) s = execRetuneStart p s := rfl
@[simp] theorem exec_calCmd (v : BitVec 8) (s : State) : exec (.calCmd v) s = execCalCmd v s := rfl
@[simp] theorem exec_calPeriodic (p : Fin 4) (dt : Nat) (s : State) : exec (.calPeriodic p dt) s = execCalPeriodic p dt s := rfl
@[simp] theorem exec_oscCalMeasure (which : Fin 41) (measured : Bytes) (dt : Nat) (s : State) : exec (.oscCalMeasure which measured dt) s = execOscCalMeasure which measured dt s := rfl
@[simp] theorem exec_calWindowOpen (dt : Nat) (s : State) : exec (.calWindowOpen dt) s = execCalWindowOpen dt s := rfl
@[simp] theorem exec_calWindowEnd (out : List CalMeas) (measured : Bytes) (dt : Nat) (s : State) : exec (.calWindowEnd out measured dt) s = execCalWindowEnd out measured dt s := rfl
@[simp] theorem exec_calNoWindow (dt : Nat) (s : State) : exec (.calNoWindow dt) s = execCalNoWindow dt s := rfl
@[simp] theorem exec_stampLock (s : State) : exec .stampLock s = execStampLock s := rfl
@[simp] theorem exec_stampLockDone (ok : Bool) (s : State) : exec (.stampLockDone ok) s = execStampLockDone ok s := rfl
@[simp] theorem exec_pdMeasure (p : Fin 4) (fwd ref : Int) (dt : Nat) (s : State) : exec (.pdMeasure p fwd ref dt) s = execPdMeasure p fwd ref dt s := rfl
@[simp] theorem exec_portStarved (p : Fin 4) (dt : Nat) (s : State) : exec (.portStarved p dt) s = execPortStarved p dt s := rfl
@[simp] theorem exec_rxDetect (n : Fin 64) (level : Int) (dt : Nat) (s : State) : exec (.rxDetect n level dt) s = execRxDetect n level dt s := rfl
@[simp] theorem exec_qualifierConfirm (n : Fin 64) (s1 s2 : List Int) (est : Int) (dt : Nat) (s : State) : exec (.qualifierConfirm n s1 s2 est dt) s = execQualifierConfirm n s1 s2 est dt s := rfl
@[simp] theorem exec_detectTimeout (n : Fin 64) (dt : Nat) (s : State) : exec (.detectTimeout n dt) s = execDetectTimeout n dt s := rfl
@[simp] theorem exec_sfdFound (n : Fin 64) (sfd : List (List Int)) (word phase fofs : Int) (dt : Nat) (s : State) : exec (.sfdFound n sfd word phase fofs dt) s = execSfdFound n sfd word phase fofs dt s := rfl
@[simp] theorem exec_sfdTimeout (n : Fin 64) (dt : Nat) (s : State) : exec (.sfdTimeout n dt) s = execSfdTimeout n dt s := rfl
@[simp] theorem exec_phrRx (n : Fin 64) (syms : List RxSym) (dt : Nat) (s : State) : exec (.phrRx n syms dt) s = execPhrRx n syms dt s := rfl
@[simp] theorem exec_despreadTimeout (n : Fin 64) (syms : List RxSym) (dt : Nat) (s : State) : exec (.despreadTimeout n syms dt) s = execDespreadTimeout n syms dt s := rfl
@[simp] theorem exec_rxFrameEnd (n : Fin 64) (syms : List RxSym) (rssi : Int) (haBad : Nat) (dt : Nat) (s : State) : exec (.rxFrameEnd n syms rssi haBad dt) s = execRxFrameEnd n syms rssi haBad dt s := rfl
@[simp] theorem exec_capture (n : Fin 64) (s1 s2 : List Int) (level : Int) (chips : Nat) (est : Int) (sofar : List RxSym) (dt : Nat) (s : State) : exec (.capture n s1 s2 level chips est sofar dt) s = execCapture n s1 s2 level chips est sofar dt s := rfl
@[simp] theorem exec_lateArrival (n : Fin 64) (s1 s2 : List Int) (level : Int) (chips dt : Nat) (s : State) : exec (.lateArrival n s1 s2 level chips dt) s = execLateArrival n s1 s2 level chips dt s := rfl
@[simp] theorem exec_adcClipGainStep (p : Fin 4) (s : State) : exec (.adcClipGainStep p) s = execAdcClipGainStep p s := rfl
@[simp] theorem exec_portGainStep (p : Fin 4) (step : Fin 32) (dt : Nat) (s : State) : exec (.portGainStep p step dt) s = execPortGainStep p step dt s := rfl
@[simp] theorem exec_placementChange (n : Fin 64) (s : State) : exec (.placementChange n) s = execPlacementChange n s := rfl
@[simp] theorem exec_backstitchEngineStart (dt : Nat) (s : State) : exec (.backstitchEngineStart dt) s = execBackstitchEngineStart dt s := rfl
@[simp] theorem exec_backstitchQueueTimeout (dt : Nat) (s : State) : exec (.backstitchQueueTimeout dt) s = execBackstitchQueueTimeout dt s := rfl
@[simp] theorem exec_backstitchFrameEnd (e : Fin 8) (sfd : List (List Int)) (syms : List RxSym) (stamp : Nat) (fofs rssi : Int) (haBad : Nat) (dt : Nat) (s : State) : exec (.backstitchFrameEnd e sfd syms stamp fofs rssi haBad dt) s = execBackstitchFrameEnd e sfd syms stamp fofs rssi haBad dt s := rfl
@[simp] theorem exec_txCommit (q : TxReq) (dt : Nat) (s : State) : exec (.txCommit q dt) s = execTxCommit q dt s := rfl
@[simp] theorem exec_lbtListenDue (n : Fin 16) (dt : Nat) (s : State) : exec (.lbtListenDue n dt) s = execLbtListenDue n dt s := rfl
@[simp] theorem exec_lbtListenEnd (n : Fin 16) (blocks : List Int) (dt : Nat) (s : State) : exec (.lbtListenEnd n blocks dt) s = execLbtListenEnd n blocks dt s := rfl
@[simp] theorem exec_rampDue (n : Fin 16) (dt : Nat) (s : State) : exec (.rampDue n dt) s = execRampDue n dt s := rfl
@[simp] theorem exec_txWindowEnd (n : Fin 16) (dt : Nat) (s : State) : exec (.txWindowEnd n dt) s = execTxWindowEnd n dt s := rfl
@[simp] theorem exec_rampUpEnd (n : Fin 16) (dt : Nat) (s : State) : exec (.rampUpEnd n dt) s = execRampUpEnd n dt s := rfl
@[simp] theorem exec_lastChip (n : Fin 16) (dt : Nat) (s : State) : exec (.lastChip n dt) s = execLastChip n dt s := rfl
@[simp] theorem exec_rampDownEnd (n : Fin 16) (dt : Nat) (s : State) : exec (.rampDownEnd n dt) s = execRampDownEnd n dt s := rfl
@[simp] theorem exec_dutyBucketAdvance (dt : Nat) (s : State) : exec (.dutyBucketAdvance dt) s = execDutyBucketAdvance dt s := rfl
@[simp] theorem exec_beaconSend (f : Fin 32) (dt : Nat) (s : State) : exec (.beaconSend f dt) s = execBeaconSend f dt s := rfl
@[simp] theorem exec_assocRequestRx (t : Fin 256) (eui : Nat) (p : Fin 4) (mode freq : Nat) (dsn dt : Nat) (s : State) : exec (.assocRequestRx t eui p mode freq dsn dt) s = execAssocRequestRx t eui p mode freq dsn dt s := rfl
@[simp] theorem exec_dlAckRx (r : Fin 16384) (dsn : Nat) (offset : Int) (dt : Nat) (s : State) : exec (.dlAckRx r dsn offset dt) s = execDlAckRx r dsn offset dt s := rfl
@[simp] theorem exec_dlAckTimeout (r : Fin 16384) (dt : Nat) (s : State) : exec (.dlAckTimeout r dt) s = execDlAckTimeout r dt s := rfl
@[simp] theorem exec_broadcastDownlink (t : Fin 256) (dt : Nat) (s : State) : exec (.broadcastDownlink t dt) s = execBroadcastDownlink t dt s := rfl
@[simp] theorem exec_guardLimit (r : Fin 16384) (dt : Nat) (s : State) : exec (.guardLimit r dt) s = execGuardLimit r dt s := rfl
@[simp] theorem exec_handoverConfirm (r : Fin 16384) (ok : Bool) (pan : BitVec 16) (s : State) : exec (.handoverConfirm r ok pan) s = execHandoverConfirm r ok pan s := rfl
@[simp] theorem exec_handoverStateRx (r : Fin 16384) (hw : NodeHw) (s : State) : exec (.handoverStateRx r hw) s = execHandoverStateRx r hw s := rfl
@[simp] theorem exec_handoverIeSend (r : Fin 16384) (dt : Nat) (s : State) : exec (.handoverIeSend r dt) s = execHandoverIeSend r dt s := rfl
@[simp] theorem exec_handoverHReached (r : Fin 16384) (dt : Nat) (s : State) : exec (.handoverHReached r dt) s = execHandoverHReached r dt s := rfl
@[simp] theorem exec_handoverFinalRx (r : Fin 16384) (hw : NodeHw) (dt : Nat) (s : State) : exec (.handoverFinalRx r hw dt) s = execHandoverFinalRx r hw dt s := rfl
@[simp] theorem exec_handoverForwardEnd (dt : Nat) (s : State) : exec (.handoverForwardEnd dt) s = execHandoverForwardEnd dt s := rfl
@[simp] theorem exec_handoverAbandon (r : Fin 16384) (s : State) : exec (.handoverAbandon r) s = execHandoverAbandon r s := rfl
@[simp] theorem exec_wheelTick (farOk : Bool) (dt : Nat) (s : State) : exec (.wheelTick farOk dt) s = execWheelTick farOk dt s := rfl
@[simp] theorem exec_farListMove (ok : Bool) (dt : Nat) (s : State) : exec (.farListMove ok dt) s = execFarListMove ok dt s := rfl
@[simp] theorem exec_downlinkCellPlanning (r : Fin 16384) (dt : Nat) (s : State) : exec (.downlinkCellPlanning r dt) s = execDownlinkCellPlanning r dt s := rfl
@[simp] theorem exec_uplinkCellPlanning (r : Fin 16384) (dt : Nat) (s : State) : exec (.uplinkCellPlanning r dt) s = execUplinkCellPlanning r dt s := rfl
@[simp] theorem exec_cellEndCharge (r : Fin 16384) (dt : Nat) (s : State) : exec (.cellEndCharge r dt) s = execCellEndCharge r dt s := rfl
@[simp] theorem exec_schedRebuild (s : State) : exec .schedRebuild s = execSchedRebuild s := rfl
@[simp] theorem exec_dayStartChange (dt : Nat) (s : State) : exec (.dayStartChange dt) s = execDayStartChange dt s := rfl
@[simp] theorem exec_cinchTick (pCont : Nat) (tj : List Int) (s : State) : exec (.cinchTick pCont tj) s = execCinchTick pCont tj s := rfl
@[simp] theorem exec_harnessFrameIn (h : Fin 12) (m : InMeta) (bytes : Bytes) (hit : TableHit) (dt : Nat) (s : State) : exec (.harnessFrameIn h m bytes hit dt) s = execHarnessFrameIn h m bytes hit dt s := rfl
@[simp] theorem exec_outputDequeue (h : Fin 12) (bad : Option Nat) (dt : Nat) (s : State) : exec (.outputDequeue h bad dt) s = execOutputDequeue h bad dt s := rfl
@[simp] theorem exec_outputLinkDownDiscard (h : Fin 12) (s : State) : exec (.outputLinkDownDiscard h) s = execOutputLinkDownDiscard h s := rfl
@[simp] theorem exec_spillWriteDone (h : Fin 12) (c : Fin 8) (ok : Bool) (s : State) : exec (.spillWriteDone h c ok) s = execSpillWriteDone h c ok s := rfl
@[simp] theorem exec_spillFetch (h : Fin 12) (c : Fin 8) (s : State) : exec (.spillFetch h c) s = execSpillFetch h c s := rfl
@[simp] theorem exec_shaperCalendarFire (dt : Nat) (s : State) : exec (.shaperCalendarFire dt) s = execShaperCalendarFire dt s := rfl
@[simp] theorem exec_curbSample (tenant : Fin 256) (dt : Nat) (s : State) : exec (.curbSample tenant dt) s = execCurbSample tenant dt s := rfl
@[simp] theorem exec_cxlTrainingStart (dt : Nat) (s : State) : exec (.cxlTrainingStart dt) s = execCxlTrainingStart dt s := rfl
@[simp] theorem exec_cxlTrained (expanders : List Nat) (lanes rate : Nat) (dt : Nat) (s : State) : exec (.cxlTrained expanders lanes rate dt) s = execCxlTrained expanders lanes rate dt s := rfl
@[simp] theorem exec_cxlTrainTimeout (dt : Nat) (s : State) : exec (.cxlTrainTimeout dt) s = execCxlTrainTimeout dt s := rfl
@[simp] theorem exec_cxlRetrainStart (s : State) : exec .cxlRetrainStart s = execCxlRetrainStart s := rfl
@[simp] theorem exec_cxlRetrainDone (dt : Nat) (s : State) : exec (.cxlRetrainDone dt) s = execCxlRetrainDone dt s := rfl
@[simp] theorem exec_cxlRetrainFail (dt : Nat) (s : State) : exec (.cxlRetrainFail dt) s = execCxlRetrainFail dt s := rfl
@[simp] theorem exec_sbAccessDone (k : Nat) (mediaErr : Bool) (s : State) : exec (.sbAccessDone k mediaErr) s = execSbAccessDone k mediaErr s := rfl
@[simp] theorem exec_strapPush (q : Fin 64) (words : Nat) (data : Bytes) (s : State) : exec (.strapPush q words data) s = execStrapPush q words data s := rfl
@[simp] theorem exec_strapMiddleWrite (q : Fin 64) (dt : Nat) (s : State) : exec (.strapMiddleWrite q dt) s = execStrapMiddleWrite q dt s := rfl
@[simp] theorem exec_strapMiddleRead (q : Fin 64) (fails : List WordFail) (s : State) : exec (.strapMiddleRead q fails) s = execStrapMiddleRead q fails s := rfl
@[simp] theorem exec_weltClose (q : Fin 64) (r : Nat) (dt : Nat) (s : State) : exec (.weltClose q r dt) s = execWeltClose q r dt s := rfl
@[simp] theorem exec_pointerMismatch (q : Fin 64) (r : Nat) (s : State) : exec (.pointerMismatch q r) s = execPointerMismatch q r s := rfl
@[simp] theorem exec_downlinkEnqueue (r : Fin 16384) (f : NodeFrame) (s : State) : exec (.downlinkEnqueue r f) s = execDownlinkEnqueue r f s := rfl
@[simp] theorem exec_downlinkHeadRead (r : Fin 16384) (fails : List WordFail) (s : State) : exec (.downlinkHeadRead r fails) s = execDownlinkHeadRead r fails s := rfl
@[simp] theorem exec_headReadTimeout (r : Fin 16384) (dt : Nat) (s : State) : exec (.headReadTimeout r dt) s = execHeadReadTimeout r dt s := rfl
@[simp] theorem exec_holdDrain (s : State) : exec .holdDrain s = execHoldDrain s := rfl
@[simp] theorem exec_journalRecordCommit (seq : Nat) (s : State) : exec (.journalRecordCommit seq) s = execJournalRecordCommit seq s := rfl
@[simp] theorem exec_journalHeaderRewrite (dt : Nat) (s : State) : exec (.journalHeaderRewrite dt) s = execJournalHeaderRewrite dt s := rfl
@[simp] theorem exec_brInsert (rewritten : List (Nat × Nat)) (s : State) : exec (.brInsert rewritten) s = execBrInsert rewritten s := rfl
@[simp] theorem exec_brDelete (rewritten : List (Nat × Nat)) (s : State) : exec (.brDelete rewritten) s = execBrDelete rewritten s := rfl
@[simp] theorem exec_brRead (bad : Option (Nat × Nat)) (s : State) : exec (.brRead bad) s = execBrRead bad s := rfl
@[simp] theorem exec_brFlush (rewritten : List (Nat × Nat)) (s : State) : exec (.brFlush rewritten) s = execBrFlush rewritten s := rfl
@[simp] theorem exec_nhWrite (s : State) : exec .nhWrite s = execNhWrite s := rfl
@[simp] theorem exec_clWrite (s : State) : exec .clWrite s = execClWrite s := rfl
@[simp] theorem exec_haInsert (bad : Nat) (s : State) : exec (.haInsert bad) s = execHaInsert bad s := rfl
@[simp] theorem exec_haDelete (bad : Nat) (s : State) : exec (.haDelete bad) s = execHaDelete bad s := rfl
@[simp] theorem exec_haRead (bad : Nat) (s : State) : exec (.haRead bad) s = execHaRead bad s := rfl
@[simp] theorem exec_haReadBucket (bad : Nat) (s : State) : exec (.haReadBucket bad) s = execHaReadBucket bad s := rfl
@[simp] theorem exec_halterAgeing (dt : Nat) (s : State) : exec (.halterAgeing dt) s = execHalterAgeing dt s := rfl
@[simp] theorem exec_kGenerate (s : State) : exec .kGenerate s = execKGenerate s := rfl
@[simp] theorem exec_kDerive (s : State) : exec .kDerive s = execKDerive s := rfl
@[simp] theorem exec_kImport (s : State) : exec .kImport s = execKImport s := rfl
@[simp] theorem exec_kExport (s : State) : exec .kExport s = execKExport s := rfl
@[simp] theorem exec_kInvalidate (s : State) : exec .kInvalidate s = execKInvalidate s := rfl
@[simp] theorem exec_kReadAttr (s : State) : exec .kReadAttr s = execKReadAttr s := rfl
@[simp] theorem exec_kLinkWrap (s : State) : exec .kLinkWrap s = execKLinkWrap s := rfl
@[simp] theorem exec_orphanSweep (s : State) : exec .orphanSweep s = execOrphanSweep s := rfl
@[simp] theorem exec_keeperProvision (s : State) : exec .keeperProvision s = execKeeperProvision s := rfl
@[simp] theorem exec_attest (s : State) : exec .attest s = execAttest s := rfl
@[simp] theorem exec_tamperDetect (x : TamperSense) (s : State) : exec (.tamperDetect x) s = execTamperDetect x s := rfl
@[simp] theorem exec_tamperReport (s : State) : exec .tamperReport s = execTamperReport s := rfl
@[simp] theorem exec_vbatLowZero (s : State) : exec .vbatLowZero s = execVbatLowZero s := rfl
@[simp] theorem exec_campStart (k : Fin 16) (s : State) : exec (.campStart k) s = execCampStart k s := rfl
@[simp] theorem exec_campPause (k : Fin 16) (s : State) : exec (.campPause k) s = execCampPause k s := rfl
@[simp] theorem exec_campResume (k : Fin 16) (s : State) : exec (.campResume k) s = execCampResume k s := rfl
@[simp] theorem exec_campStop (k : Fin 16) (s : State) : exec (.campStop k) s = execCampStop k s := rfl
@[simp] theorem exec_campLoadDone (k : Fin 16) (got : Bytes) (bad : Option Nat) (dt : Nat) (s : State) : exec (.campLoadDone k got bad dt) s = execCampLoadDone k got bad dt s := rfl
@[simp] theorem exec_announceResend (k : Fin 16) (r : Fin 16384) (dt : Nat) (s : State) : exec (.announceResend k r dt) s = execAnnounceResend k r dt s := rfl
@[simp] theorem exec_burstPlanning (k : Fin 16) (got : Bytes) (bad : List Nat) (dt : Nat) (s : State) : exec (.burstPlanning k got bad dt) s = execBurstPlanning k got bad dt s := rfl
@[simp] theorem exec_laceReportTake (s : State) : exec .laceReportTake s = execLaceReportTake s := rfl
@[simp] theorem exec_campDeadline (k : Fin 16) (dt : Nat) (s : State) : exec (.campDeadline k dt) s = execCampDeadline k dt s := rfl
@[simp] theorem exec_laceReadFail (k : Fin 16) (dt : Nat) (s : State) : exec (.laceReadFail k dt) s = execLaceReadFail k dt s := rfl
@[simp] theorem exec_treeSwitch (s : State) : exec .treeSwitch s = execTreeSwitch s := rfl
@[simp] theorem exec_seatOk (s : State) : exec .seatOk s = execSeatOk s := rfl
@[simp] theorem exec_seatWindowExpiry (dt : Nat) (s : State) : exec (.seatWindowExpiry dt) s = execSeatWindowExpiry dt s := rfl
@[simp] theorem exec_bankWipe (b : Fin 2) (s : State) : exec (.bankWipe b) s = execBankWipe b s := rfl
@[simp] theorem exec_bankWipeDone (s : State) : exec .bankWipeDone s = execBankWipeDone s := rfl
@[simp] theorem exec_timeStep (delta : Int) (s : State) : exec (.timeStep delta) s = execTimeStep delta s := rfl
@[simp] theorem exec_timeSet (sec : Fin 281474976710656) (ns : Fin 1000000000) (s : State) : exec (.timeSet sec ns) s = execTimeSet sec ns s := rfl
@[simp] theorem exec_ptpSample (x : PtpExchange) (dt : Nat) (s : State) : exec (.ptpSample x dt) s = execPtpSample x dt s := rfl
@[simp] theorem exec_holdoverTimeout (dt : Nat) (s : State) : exec (.holdoverTimeout dt) s = execHoldoverTimeout dt s := rfl
@[simp] theorem exec_rtcWrite (dt : Nat) (s : State) : exec (.rtcWrite dt) s = execRtcWrite dt s := rfl
@[simp] theorem exec_timeSnapshot (dt : Nat) (s : State) : exec (.timeSnapshot dt) s = execTimeSnapshot dt s := rfl
@[simp] theorem exec_tpoArm (k : Fin 4) (mode : Fin 3) (s : State) : exec (.tpoArm k mode) s = execTpoArm k mode s := rfl
@[simp] theorem exec_tpoParamWrite (k : Fin 4) (start : Time80) (periodNs widthNs : Nat) (s : State) : exec (.tpoParamWrite k start periodNs widthNs) s = execTpoParamWrite k start periodNs widthNs s := rfl
@[simp] theorem exec_tpoRise (k : Fin 4) (dt : Nat) (s : State) : exec (.tpoRise k dt) s = execTpoRise k dt s := rfl
@[simp] theorem exec_tpoFall (k : Fin 4) (dt : Nat) (s : State) : exec (.tpoFall k dt) s = execTpoFall k dt s := rfl
@[simp] theorem exec_add (r : CoreRun) (rd ra rb : Fin 32) (s : State) : exec (.add r rd ra rb) s = execAdd r rd ra rb s := rfl
@[simp] theorem exec_sub (r : CoreRun) (rd ra rb : Fin 32) (s : State) : exec (.sub r rd ra rb) s = execSub r rd ra rb s := rfl
@[simp] theorem exec_and (r : CoreRun) (rd ra rb : Fin 32) (s : State) : exec (.and r rd ra rb) s = execAnd r rd ra rb s := rfl
@[simp] theorem exec_or (r : CoreRun) (rd ra rb : Fin 32) (s : State) : exec (.or r rd ra rb) s = execOr r rd ra rb s := rfl
@[simp] theorem exec_xor (r : CoreRun) (rd ra rb : Fin 32) (s : State) : exec (.xor r rd ra rb) s = execXor r rd ra rb s := rfl
@[simp] theorem exec_sll (r : CoreRun) (rd ra rb : Fin 32) (s : State) : exec (.sll r rd ra rb) s = execSll r rd ra rb s := rfl
@[simp] theorem exec_srl (r : CoreRun) (rd ra rb : Fin 32) (s : State) : exec (.srl r rd ra rb) s = execSrl r rd ra rb s := rfl
@[simp] theorem exec_sra (r : CoreRun) (rd ra rb : Fin 32) (s : State) : exec (.sra r rd ra rb) s = execSra r rd ra rb s := rfl
@[simp] theorem exec_cmplt (r : CoreRun) (rd ra rb : Fin 32) (s : State) : exec (.cmplt r rd ra rb) s = execCmplt r rd ra rb s := rfl
@[simp] theorem exec_cmpltu (r : CoreRun) (rd ra rb : Fin 32) (s : State) : exec (.cmpltu r rd ra rb) s = execCmpltu r rd ra rb s := rfl
@[simp] theorem exec_mul (r : CoreRun) (rd ra rb : Fin 32) (s : State) : exec (.mul r rd ra rb) s = execMul r rd ra rb s := rfl
@[simp] theorem exec_mulh (r : CoreRun) (rd ra rb : Fin 32) (s : State) : exec (.mulh r rd ra rb) s = execMulh r rd ra rb s := rfl
@[simp] theorem exec_mulhu (r : CoreRun) (rd ra rb : Fin 32) (s : State) : exec (.mulhu r rd ra rb) s = execMulhu r rd ra rb s := rfl
@[simp] theorem exec_div (r : CoreRun) (rd ra rb : Fin 32) (s : State) : exec (.div r rd ra rb) s = execDiv r rd ra rb s := rfl
@[simp] theorem exec_divu (r : CoreRun) (rd ra rb : Fin 32) (s : State) : exec (.divu r rd ra rb) s = execDivu r rd ra rb s := rfl
@[simp] theorem exec_rem (r : CoreRun) (rd ra rb : Fin 32) (s : State) : exec (.rem r rd ra rb) s = execRem r rd ra rb s := rfl
@[simp] theorem exec_remu (r : CoreRun) (rd ra rb : Fin 32) (s : State) : exec (.remu r rd ra rb) s = execRemu r rd ra rb s := rfl
@[simp] theorem exec_min (r : CoreRun) (rd ra rb : Fin 32) (s : State) : exec (.min r rd ra rb) s = execMin r rd ra rb s := rfl
@[simp] theorem exec_max (r : CoreRun) (rd ra rb : Fin 32) (s : State) : exec (.max r rd ra rb) s = execMax r rd ra rb s := rfl
@[simp] theorem exec_minu (r : CoreRun) (rd ra rb : Fin 32) (s : State) : exec (.minu r rd ra rb) s = execMinu r rd ra rb s := rfl
@[simp] theorem exec_maxu (r : CoreRun) (rd ra rb : Fin 32) (s : State) : exec (.maxu r rd ra rb) s = execMaxu r rd ra rb s := rfl
@[simp] theorem exec_clz (r : CoreRun) (rd ra : Fin 32) (s : State) : exec (.clz r rd ra) s = execClz r rd ra s := rfl
@[simp] theorem exec_popc (r : CoreRun) (rd ra : Fin 32) (s : State) : exec (.popc r rd ra) s = execPopc r rd ra s := rfl
@[simp] theorem exec_bswap (r : CoreRun) (rd ra : Fin 32) (s : State) : exec (.bswap r rd ra) s = execBswap r rd ra s := rfl
@[simp] theorem exec_addi (r : CoreRun) (rd ra : Fin 32) (imm : BitVec 16) (s : State) : exec (.addi r rd ra imm) s = execAddi r rd ra imm s := rfl
@[simp] theorem exec_andi (r : CoreRun) (rd ra : Fin 32) (imm : BitVec 16) (s : State) : exec (.andi r rd ra imm) s = execAndi r rd ra imm s := rfl
@[simp] theorem exec_ori (r : CoreRun) (rd ra : Fin 32) (imm : BitVec 16) (s : State) : exec (.ori r rd ra imm) s = execOri r rd ra imm s := rfl
@[simp] theorem exec_xori (r : CoreRun) (rd ra : Fin 32) (imm : BitVec 16) (s : State) : exec (.xori r rd ra imm) s = execXori r rd ra imm s := rfl
@[simp] theorem exec_cmplti (r : CoreRun) (rd ra : Fin 32) (imm : BitVec 16) (s : State) : exec (.cmplti r rd ra imm) s = execCmplti r rd ra imm s := rfl
@[simp] theorem exec_cmpltiu (r : CoreRun) (rd ra : Fin 32) (imm : BitVec 16) (s : State) : exec (.cmpltiu r rd ra imm) s = execCmpltiu r rd ra imm s := rfl
@[simp] theorem exec_shiSll (r : CoreRun) (rd ra : Fin 32) (k : BitVec 5) (s : State) : exec (.shiSll r rd ra k) s = execShiSll r rd ra k s := rfl
@[simp] theorem exec_shiSrl (r : CoreRun) (rd ra : Fin 32) (k : BitVec 5) (s : State) : exec (.shiSrl r rd ra k) s = execShiSrl r rd ra k s := rfl
@[simp] theorem exec_shiSra (r : CoreRun) (rd ra : Fin 32) (k : BitVec 5) (s : State) : exec (.shiSra r rd ra k) s = execShiSra r rd ra k s := rfl
@[simp] theorem exec_shiRor (r : CoreRun) (rd ra : Fin 32) (k : BitVec 5) (s : State) : exec (.shiRor r rd ra k) s = execShiRor r rd ra k s := rfl
@[simp] theorem exec_ldhi (r : CoreRun) (rd : Fin 32) (imm : BitVec 16) (s : State) : exec (.ldhi r rd imm) s = execLdhi r rd imm s := rfl
@[simp] theorem exec_addpch (r : CoreRun) (rd : Fin 32) (imm : BitVec 16) (s : State) : exec (.addpch r rd imm) s = execAddpch r rd imm s := rfl
@[simp] theorem exec_lb (r : CoreRun) (rd ra : Fin 32) (imm : BitVec 16) (err : MemErr) (s : State) : exec (.lb r rd ra imm err) s = execLb r rd ra imm err s := rfl
@[simp] theorem exec_lbu (r : CoreRun) (rd ra : Fin 32) (imm : BitVec 16) (err : MemErr) (s : State) : exec (.lbu r rd ra imm err) s = execLbu r rd ra imm err s := rfl
@[simp] theorem exec_lh (r : CoreRun) (rd ra : Fin 32) (imm : BitVec 16) (err : MemErr) (s : State) : exec (.lh r rd ra imm err) s = execLh r rd ra imm err s := rfl
@[simp] theorem exec_lhu (r : CoreRun) (rd ra : Fin 32) (imm : BitVec 16) (err : MemErr) (s : State) : exec (.lhu r rd ra imm err) s = execLhu r rd ra imm err s := rfl
@[simp] theorem exec_lw (r : CoreRun) (rd ra : Fin 32) (imm : BitVec 16) (err : MemErr) (s : State) : exec (.lw r rd ra imm err) s = execLw r rd ra imm err s := rfl
@[simp] theorem exec_sb (r : CoreRun) (rs ra : Fin 32) (imm : BitVec 16) (err : MemErr) (s : State) : exec (.sb r rs ra imm err) s = execSb r rs ra imm err s := rfl
@[simp] theorem exec_sh (r : CoreRun) (rs ra : Fin 32) (imm : BitVec 16) (err : MemErr) (s : State) : exec (.sh r rs ra imm err) s = execSh r rs ra imm err s := rfl
@[simp] theorem exec_sw (r : CoreRun) (rs ra : Fin 32) (imm : BitVec 16) (s : State) : exec (.sw r rs ra imm) s = execSw r rs ra imm s := rfl
@[simp] theorem exec_amoSwap (r : CoreRun) (rd ra rb : Fin 32) (err : MemErr) (s : State) : exec (.amoSwap r rd ra rb err) s = execAmoSwap r rd ra rb err s := rfl
@[simp] theorem exec_amoAdd (r : CoreRun) (rd ra rb : Fin 32) (err : MemErr) (s : State) : exec (.amoAdd r rd ra rb err) s = execAmoAdd r rd ra rb err s := rfl
@[simp] theorem exec_amoAnd (r : CoreRun) (rd ra rb : Fin 32) (err : MemErr) (s : State) : exec (.amoAnd r rd ra rb err) s = execAmoAnd r rd ra rb err s := rfl
@[simp] theorem exec_amoOr (r : CoreRun) (rd ra rb : Fin 32) (err : MemErr) (s : State) : exec (.amoOr r rd ra rb err) s = execAmoOr r rd ra rb err s := rfl
@[simp] theorem exec_amoXor (r : CoreRun) (rd ra rb : Fin 32) (err : MemErr) (s : State) : exec (.amoXor r rd ra rb err) s = execAmoXor r rd ra rb err s := rfl
@[simp] theorem exec_amoMaxu (r : CoreRun) (rd ra rb : Fin 32) (err : MemErr) (s : State) : exec (.amoMaxu r rd ra rb err) s = execAmoMaxu r rd ra rb err s := rfl
@[simp] theorem exec_beq (r : CoreRun) (ra rb : Fin 32) (off : BitVec 16) (s : State) : exec (.beq r ra rb off) s = execBeq r ra rb off s := rfl
@[simp] theorem exec_bne (r : CoreRun) (ra rb : Fin 32) (off : BitVec 16) (s : State) : exec (.bne r ra rb off) s = execBne r ra rb off s := rfl
@[simp] theorem exec_blt (r : CoreRun) (ra rb : Fin 32) (off : BitVec 16) (s : State) : exec (.blt r ra rb off) s = execBlt r ra rb off s := rfl
@[simp] theorem exec_bge (r : CoreRun) (ra rb : Fin 32) (off : BitVec 16) (s : State) : exec (.bge r ra rb off) s = execBge r ra rb off s := rfl
@[simp] theorem exec_bltu (r : CoreRun) (ra rb : Fin 32) (off : BitVec 16) (s : State) : exec (.bltu r ra rb off) s = execBltu r ra rb off s := rfl
@[simp] theorem exec_bgeu (r : CoreRun) (ra rb : Fin 32) (off : BitVec 16) (s : State) : exec (.bgeu r ra rb off) s = execBgeu r ra rb off s := rfl
@[simp] theorem exec_j (r : CoreRun) (off : BitVec 26) (s : State) : exec (.j r off) s = execJ r off s := rfl
@[simp] theorem exec_call (r : CoreRun) (off : BitVec 26) (s : State) : exec (.call r off) s = execCall r off s := rfl
@[simp] theorem exec_jr (r : CoreRun) (ra : Fin 32) (s : State) : exec (.jr r ra) s = execJr r ra s := rfl
@[simp] theorem exec_callr (r : CoreRun) (ra : Fin 32) (s : State) : exec (.callr r ra) s = execCallr r ra s := rfl
@[simp] theorem exec_ret (r : CoreRun) (s : State) : exec (.ret r) s = execRet r s := rfl
@[simp] theorem exec_loop (r : CoreRun) (n : Fin 4) (ra : Fin 32) (stop : BitVec 12) (s : State) : exec (.loop r n ra stop) s = execLoop r n ra stop s := rfl
@[simp] theorem exec_loopi (r : CoreRun) (n : Fin 4) (count stop : BitVec 12) (s : State) : exec (.loopi r n count stop) s = execLoopi r n count stop s := rfl
@[simp] theorem exec_trap (r : CoreRun) (imm : BitVec 16) (s : State) : exec (.trap r imm) s = execTrap r imm s := rfl
@[simp] theorem exec_getc (r : CoreRun) (rd : Fin 32) (num : BitVec 16) (s : State) : exec (.getc r rd num) s = execGetc r rd num s := rfl
@[simp] theorem exec_setc (r : CoreRun) (ra : Fin 32) (num : BitVec 16) (s : State) : exec (.setc r ra num) s = execSetc r ra num s := rfl
@[simp] theorem exec_fence (r : CoreRun) (s : State) : exec (.fence r) s = execFence r s := rfl
@[simp] theorem exec_fenceI (r : CoreRun) (s : State) : exec (.fenceI r) s = execFenceI r s := rfl
@[simp] theorem exec_xret (r : CoreRun) (s : State) : exec (.xret r) s = execXret r s := rfl
@[simp] theorem exec_xretc (r : CoreRun) (s : State) : exec (.xretc r) s = execXretc r s := rfl
@[simp] theorem exec_wait (r : CoreRun) (s : State) : exec (.wait r) s = execWait r s := rfl
@[simp] theorem exec_waitWake (r : CoreRun) (s : State) : exec (.waitWake r) s = execWaitWake r s := rfl
@[simp] theorem exec_brk (r : CoreRun) (s : State) : exec (.brk r) s = execBrk r s := rfl
@[simp] theorem exec_halt (r : CoreRun) (s : State) : exec (.halt r) s = execHalt r s := rfl
@[simp] theorem exec_reservedInstruction (r : CoreRun) (word : BitVec 32) (s : State) : exec (.reservedInstruction r word) s = execReservedInstruction r word s := rfl
@[simp] theorem exec_interruptTake (n : Fin 16) (s : State) : exec (.interruptTake n) s = execInterruptTake n s := rfl
@[simp] theorem exec_storeBufferDrain (n : Fin 16) (s : State) : exec (.storeBufferDrain n) s = execStoreBufferDrain n s := rfl
@[simp] theorem exec_coreStopRequest (dt : Nat) (s : State) : exec (.coreStopRequest dt) s = execCoreStopRequest dt s := rfl
@[simp] theorem exec_coreStart (k : Fin 4) (s : State) : exec (.coreStart k) s = execCoreStart k s := rfl
@[simp] theorem exec_coreStop (k : Fin 4) (s : State) : exec (.coreStop k) s = execCoreStop k s := rfl
@[simp] theorem exec_dictPortSubmit (n : Fin 16) (len : BitVec 32) (s : State) : exec (.dictPortSubmit n len) s = execDictPortSubmit n len s := rfl
@[simp] theorem exec_strapPortPush (n : Fin 16) (q : Fin 64) (words : BitVec 32) (s : State) : exec (.strapPortPush n q words) s = execStrapPortPush n q words s := rfl
@[simp] theorem exec_strapPortPop (who : Fin 17) (q : Fin 64) (s : State) : exec (.strapPortPop who q) s = execStrapPortPop who q s := rfl
@[simp] theorem exec_hp9RxDeliver (s : State) : exec .hp9RxDeliver s = execHp9RxDeliver s := rfl
@[simp] theorem exec_hp9TxTake (n : Fin 16) (dt : Nat) (s : State) : exec (.hp9TxTake n dt) s = execHp9TxTake n dt s := rfl
@[simp] theorem exec_buckleEdge (src : Fin 256) (s : State) : exec (.buckleEdge src) s = execBuckleEdge src s := rfl
@[simp] theorem exec_buckleLevelRise (src : Fin 256) (s : State) : exec (.buckleLevelRise src) s = execBuckleLevelRise src s := rfl
@[simp] theorem exec_levelReassign (src : Fin 256) (s : State) : exec (.levelReassign src) s = execLevelReassign src s := rfl
@[simp] theorem exec_pendingWrite (n : Fin 16) (w : Fin 8) (v : BitVec 32) (s : State) : exec (.pendingWrite n w v) s = execPendingWrite n w v s := rfl
@[simp] theorem exec_maskWrite (n : Fin 16) (w : Fin 8) (v : BitVec 32) (s : State) : exec (.maskWrite n w v) s = execMaskWrite n w v s := rfl
@[simp] theorem exec_awlBuckleRaise (n : Fin 16) (v : BitVec 8) (s : State) : exec (.awlBuckleRaise n v) s = execAwlBuckleRaise n v s := rfl
@[simp] theorem exec_awlHostRaise (n : Fin 16) (v : Fin 8) (s : State) : exec (.awlHostRaise n v) s = execAwlHostRaise n v s := rfl
@[simp] theorem exec_hifBuckleRaise (v : BitVec 8) (s : State) : exec (.hifBuckleRaise v) s = execHifBuckleRaise v s := rfl
@[simp] theorem exec_pcieLinkDown (s : State) : exec .pcieLinkDown s = execPcieLinkDown s := rfl
@[simp] theorem exec_pcieLinkUp (s : State) : exec .pcieLinkUp s = execPcieLinkUp s := rfl
@[simp] theorem exec_functionLevelReset (s : State) : exec .functionLevelReset s = execFunctionLevelReset s := rfl
@[simp] theorem exec_rxRingTailWrite (n : Fin 32) (v : BitVec 12) (s : State) : exec (.rxRingTailWrite n v) s = execRxRingTailWrite n v s := rfl
@[simp] theorem exec_txRingTailWrite (n : Fin 32) (v : BitVec 12) (s : State) : exec (.txRingTailWrite n v) s = execTxRingTailWrite n v s := rfl
@[simp] theorem exec_rxRingSizeWrite (n : Fin 32) (k : BitVec 4) (s : State) : exec (.rxRingSizeWrite n k) s = execRxRingSizeWrite n k s := rfl
@[simp] theorem exec_txRingSizeWrite (n : Fin 32) (k : BitVec 4) (s : State) : exec (.txRingSizeWrite n k) s = execTxRingSizeWrite n k s := rfl
@[simp] theorem exec_hostRxFrame (ds : List RxDesc) (dt : Nat) (s : State) : exec (.hostRxFrame ds dt) s = execHostRxFrame ds dt s := rfl
@[simp] theorem exec_txFrameFetch (n : Fin 32) (ds : List (BitVec 512)) (data : Bytes) (dt : Nat) (s : State) : exec (.txFrameFetch n ds data dt) s = execTxFrameFetch n ds data dt s := rfl
@[simp] theorem exec_dmaError (rx : Bool) (n : Fin 32) (addr : BitVec 64) (s : State) : exec (.dmaError rx n addr) s = execDmaError rx n addr s := rfl
@[simp] theorem exec_reportRecordWrite (s : State) : exec .reportRecordWrite s = execReportRecordWrite s := rfl
@[simp] theorem exec_msixSend (v : Fin 64) (dt : Nat) (s : State) : exec (.msixSend v dt) s = execMsixSend v dt s := rfl
@[simp] theorem exec_mbxSubmit (len : BitVec 11) (s : State) : exec (.mbxSubmit len) s = execMbxSubmit len s := rfl
@[simp] theorem exec_mbxResponseEnqueue (s : State) : exec .mbxResponseEnqueue s = execMbxResponseEnqueue s := rfl
@[simp] theorem exec_mbxRspPop (s : State) : exec .mbxRspPop s = execMbxRspPop s := rfl
@[simp] theorem exec_tpOpStart (who : Fin 17) (op : BitVec 8) (s : State) : exec (.tpOpStart who op) s = execTpOpStart who op s := rfl
@[simp] theorem exec_nrRead (s : State) : exec .nrRead s = execNrRead s := rfl
@[simp] theorem exec_nrWrite (s : State) : exec .nrWrite s = execNrWrite s := rfl
@[simp] theorem exec_extFieldDetect (dt : Nat) (s : State) : exec (.extFieldDetect dt) s = execExtFieldDetect dt s := rfl
@[simp] theorem exec_lpcdMeasure (amp : Nat) (phase : Int) (dt : Nat) (s : State) : exec (.lpcdMeasure amp phase dt) s = execLpcdMeasure amp phase dt s := rfl
@[simp] theorem exec_readerCycleDue (dt : Nat) (s : State) : exec (.readerCycleDue dt) s = execReaderCycleDue dt s := rfl
@[simp] theorem exec_readerListenEnd (tags : List TagSeen) (run dt : Nat) (s : State) : exec (.readerListenEnd tags run dt) s = execReaderListenEnd tags run dt s := rfl
@[simp] theorem exec_fwtTimeout (w : TagWait) (dt : Nat) (s : State) : exec (.fwtTimeout w dt) s = execFwtTimeout w dt s := rfl
@[simp] theorem exec_wtxRequest (w : TagWait) (m : Fin 59) (dt : Nat) (s : State) : exec (.wtxRequest w m dt) s = execWtxRequest w m dt s := rfl
@[simp] theorem exec_readerCycleEnd (tags : List TagSeen) (dt : Nat) (s : State) : exec (.readerCycleEnd tags dt) s = execReaderCycleEnd tags dt s := rfl
@[simp] theorem exec_tagFieldAbsent (absent dt : Nat) (s : State) : exec (.tagFieldAbsent absent dt) s = execTagFieldAbsent absent dt s := rfl
@[simp] theorem exec_tagSessionEnd (absent dt : Nat) (s : State) : exec (.tagSessionEnd absent dt) s = execTagSessionEnd absent dt s := rfl
@[simp] theorem exec_tagSelect (name : Option Bytes) (file : BitVec 16) (s : State) : exec (.tagSelect name file) s = execTagSelect name file s := rfl
@[simp] theorem exec_tagReadBinary (off : BitVec 15) (le : Fin 256) (s : State) : exec (.tagReadBinary off le) s = execTagReadBinary off le s := rfl
@[simp] theorem exec_tagUpdateBinary (off : BitVec 15) (data : Bytes) (written : Fin 67) (s : State) : exec (.tagUpdateBinary off data written) s = execTagUpdateBinary off data written s := rfl
@[simp] theorem exec_tagVerify (pw : BitVec 32) (s : State) : exec (.tagVerify pw) s = execTagVerify pw s := rfl
@[simp] theorem exec_tagGetChallenge (s : State) : exec .tagGetChallenge s = execTagGetChallenge s := rfl
@[simp] theorem exec_tagExternalAuth (data : BitVec 128) (s : State) : exec (.tagExternalAuth data) s = execTagExternalAuth data s := rfl
@[simp] theorem exec_tagUnknownIns (s : State) : exec .tagUnknownIns s = execTagUnknownIns s := rfl
@[simp] theorem exec_tagDeselect (s : State) : exec .tagDeselect s = execTagDeselect s := rfl
@[simp] theorem exec_tagLockoutEnd (dt : Nat) (s : State) : exec (.tagLockoutEnd dt) s = execTagLockoutEnd dt s := rfl
@[simp] theorem exec_fdNRelease (dt : Nat) (s : State) : exec (.fdNRelease dt) s = execFdNRelease dt s := rfl
@[simp] theorem exec_pwrStateCmd (t : Fin 3) (s : State) : exec (.pwrStateCmd t) s = execPwrStateCmd t s := rfl
@[simp] theorem exec_pwrTransitionDone (dt : Nat) (s : State) : exec (.pwrTransitionDone dt) s = execPwrTransitionDone dt s := rfl
@[simp] theorem exec_pwrDwellEnd (dt : Nat) (s : State) : exec (.pwrDwellEnd dt) s = execPwrDwellEnd dt s := rfl
@[simp] theorem exec_standbyWake (card : Bool) (s : State) : exec (.standbyWake card) s = execStandbyWake card s := rfl
@[simp] theorem exec_shutdownTrigger (pin : Bool) (s : State) : exec (.shutdownTrigger pin) s = execShutdownTrigger pin s := rfl
@[simp] theorem exec_retentionCommit (dt : Nat) (s : State) : exec (.retentionCommit dt) s = execRetentionCommit dt s := rfl
@[simp] theorem exec_supplyReturn (bad : List (Fin 2048)) (s : State) : exec (.supplyReturn bad) s = execSupplyReturn bad s := rfl
@[simp] theorem exec_offTimeEnd (bad : List (Fin 2048)) (dt : Nat) (s : State) : exec (.offTimeEnd bad dt) s = execOffTimeEnd bad dt s := rfl
@[simp] theorem exec_lossOfPower (s : State) : exec .lossOfPower s = execLossOfPower s := rfl
@[simp] theorem exec_thermalTrip (s : State) : exec .thermalTrip s = execThermalTrip s := rfl
@[simp] theorem exec_thermalCool (bad : List (Fin 2048)) (s : State) : exec (.thermalCool bad) s = execThermalCool bad s := rfl
@[simp] theorem exec_coldStart (ev : ColdEvent) (kept : Bool) (bad : List (Fin 2048)) (dt : Nat) (s : State) : exec (.coldStart ev kept bad dt) s = execColdStart ev kept bad dt s := rfl
@[simp] theorem exec_resetNLow (s : State) : exec .resetNLow s = execResetNLow s := rfl
@[simp] theorem exec_warmReset (cause : Fin 4) (s : State) : exec (.warmReset cause) s = execWarmReset cause s := rfl
@[simp] theorem exec_watchdogRefresh (s : State) : exec .watchdogRefresh s = execWatchdogRefresh s := rfl
@[simp] theorem exec_watchdogExpiry (dt : Nat) (s : State) : exec (.watchdogExpiry dt) s = execWatchdogExpiry dt s := rfl
@[simp] theorem exec_vbatLost (s : State) : exec .vbatLost s = execVbatLost s := rfl
@[simp] theorem exec_hostUnreachable (dt : Nat) (s : State) : exec (.hostUnreachable dt) s = execHostUnreachable dt s := rfl
@[simp] theorem exec_headSelChange (high : Bool) (s : State) : exec (.headSelChange high) s = execHeadSelChange high s := rfl
@[simp] theorem exec_ethernetLinkChange (p : Fin 2) (up : Bool) (s : State) : exec (.ethernetLinkChange p up) s = execEthernetLinkChange p up s := rfl
@[simp] theorem exec_fetchError (r : CoreRun) (s : State) : exec (.fetchError r) s = execFetchError r s := rfl
@[simp] theorem exec_calPartial (dt : Nat) (s : State) : exec (.calPartial dt) s = execCalPartial dt s := rfl
@[simp] theorem exec_vbatSupplyRise (s : State) : exec .vbatSupplyRise s = execVbatSupplyRise s := rfl

end Sys2Proof.Machine
end

