-- ==== Sys2Proof/Laws/Fam.lean ====
section
/-! SUPPORT. The family of each named number. -/

namespace Sys2Proof.Machine

theorem Key.fam_at_1101 {k n s : Nat} (h : k = 0x110100 + 256 * n + s) (hn : n < 2) (hs : s < 256) : Key.fam k = 0x110100 + s := by
  have e1 : k % 0x1000000 / 256 = 0x1101 + n := by omega
  have e2 : k % 0x1000000 % 256 = s := by omega
  unfold Key.fam
  simp only [e1, e2]
  rw [if_pos (by omega)]

theorem Key.fam_at_1802 {k n s : Nat} (h : k = 0x180200 + 256 * n + s) (hn : n < 4) (hs : s < 256) : Key.fam k = 0x180200 + s := by
  have e1 : k % 0x1000000 / 256 = 0x1802 + n := by omega
  have e2 : k % 0x1000000 % 256 = s := by omega
  unfold Key.fam
  simp only [e1, e2]
  rw [if_neg (by omega)]
  rw [if_pos (by omega)]

theorem Key.fam_at_2000 {k n s : Nat} (h : k = 0x200000 + 256 * n + s) (hn : n < 4) (hs : s < 256) : Key.fam k = 0x200000 + s := by
  have e1 : k % 0x1000000 / 256 = 0x2000 + n := by omega
  have e2 : k % 0x1000000 % 256 = s := by omega
  unfold Key.fam
  simp only [e1, e2]
  rw [if_neg (by omega)]
  rw [if_neg (by omega)]
  rw [if_pos (by omega)]

theorem Key.fam_at_2100 {k n s : Nat} (h : k = 0x210000 + 256 * n + s) (hn : n < 64) (hs : s < 256) : Key.fam k = 0x210000 + s := by
  have e1 : k % 0x1000000 / 256 = 0x2100 + n := by omega
  have e2 : k % 0x1000000 % 256 = s := by omega
  unfold Key.fam
  simp only [e1, e2]
  rw [if_neg (by omega)]
  rw [if_neg (by omega)]
  rw [if_neg (by omega)]
  rw [if_pos (by omega)]

theorem Key.fam_at_2200 {k n s : Nat} (h : k = 0x220000 + 256 * n + s) (hn : n < 16) (hs : s < 256) : Key.fam k = 0x220000 + s := by
  have e1 : k % 0x1000000 / 256 = 0x2200 + n := by omega
  have e2 : k % 0x1000000 % 256 = s := by omega
  unfold Key.fam
  simp only [e1, e2]
  rw [if_neg (by omega)]
  rw [if_neg (by omega)]
  rw [if_neg (by omega)]
  rw [if_neg (by omega)]
  rw [if_pos (by omega)]

theorem Key.fam_at_2301 {k n s : Nat} (h : k = 0x230100 + 256 * n + s) (hn : n < 4) (hs : s < 256) : Key.fam k = 0x230100 + s := by
  have e1 : k % 0x1000000 / 256 = 0x2301 + n := by omega
  have e2 : k % 0x1000000 % 256 = s := by omega
  unfold Key.fam
  simp only [e1, e2]
  rw [if_neg (by omega)]
  rw [if_neg (by omega)]
  rw [if_neg (by omega)]
  rw [if_neg (by omega)]
  rw [if_neg (by omega)]
  rw [if_pos (by omega)]

theorem Key.fam_at_2401 {k n s : Nat} (h : k = 0x240100 + 256 * n + s) (hn : n < 4) (hs : s < 256) : Key.fam k = 0x240100 + s := by
  have e1 : k % 0x1000000 / 256 = 0x2401 + n := by omega
  have e2 : k % 0x1000000 % 256 = s := by omega
  unfold Key.fam
  simp only [e1, e2]
  rw [if_neg (by omega)]
  rw [if_neg (by omega)]
  rw [if_neg (by omega)]
  rw [if_neg (by omega)]
  rw [if_neg (by omega)]
  rw [if_neg (by omega)]
  rw [if_pos (by omega)]

theorem Key.fam_at_3010 {k n s : Nat} (h : k = 0x301000 + 256 * n + s) (hn : n < 32) (hs : s < 256) : Key.fam k = 0x301000 + s := by
  have e1 : k % 0x1000000 / 256 = 0x3010 + n := by omega
  have e2 : k % 0x1000000 % 256 = s := by omega
  unfold Key.fam
  simp only [e1, e2]
  rw [if_neg (by omega)]
  rw [if_neg (by omega)]
  rw [if_neg (by omega)]
  rw [if_neg (by omega)]
  rw [if_neg (by omega)]
  rw [if_neg (by omega)]
  rw [if_neg (by omega)]
  rw [if_pos (by omega)]

theorem Key.fam_at_3100 {k n s : Nat} (h : k = 0x310000 + 256 * n + s) (hn : n < 256) (hs : s < 256) : Key.fam k = 0x310000 + (if 3 ≤ s ∧ s ≤ 6 then 3 else s) := by
  have e1 : k % 0x1000000 / 256 = 0x3100 + n := by omega
  have e2 : k % 0x1000000 % 256 = s := by omega
  unfold Key.fam
  simp only [e1, e2]
  rw [if_neg (by omega)]
  rw [if_neg (by omega)]
  rw [if_neg (by omega)]
  rw [if_neg (by omega)]
  rw [if_neg (by omega)]
  rw [if_neg (by omega)]
  rw [if_neg (by omega)]
  rw [if_neg (by omega)]
  rw [if_pos (by omega)]

theorem Key.fam_at_4001 {k n s : Nat} (h : k = 0x400100 + 256 * n + s) (hn : n < 12) (hs : s < 256) : Key.fam k = 0x400100 + s := by
  have e1 : k % 0x1000000 / 256 = 0x4001 + n := by omega
  have e2 : k % 0x1000000 % 256 = s := by omega
  unfold Key.fam
  simp only [e1, e2]
  rw [if_neg (by omega)]
  rw [if_neg (by omega)]
  rw [if_neg (by omega)]
  rw [if_neg (by omega)]
  rw [if_neg (by omega)]
  rw [if_neg (by omega)]
  rw [if_neg (by omega)]
  rw [if_neg (by omega)]
  rw [if_neg (by omega)]
  rw [if_pos (by omega)]

theorem Key.fam_at_4020 {k n s : Nat} (h : k = 0x402000 + 256 * n + s) (hn : n < 96) (hs : s < 256) : Key.fam k = 0x402000 + s := by
  have e1 : k % 0x1000000 / 256 = 0x4020 + n := by omega
  have e2 : k % 0x1000000 % 256 = s := by omega
  unfold Key.fam
  simp only [e1, e2]
  rw [if_neg (by omega)]
  rw [if_neg (by omega)]
  rw [if_neg (by omega)]
  rw [if_neg (by omega)]
  rw [if_neg (by omega)]
  rw [if_neg (by omega)]
  rw [if_neg (by omega)]
  rw [if_neg (by omega)]
  rw [if_neg (by omega)]
  rw [if_neg (by omega)]
  rw [if_pos (by omega)]

theorem Key.fam_at_4110 {k n s : Nat} (h : k = 0x411000 + 256 * n + s) (hn : n < 64) (hs : s < 256) : Key.fam k = 0x411000 + s := by
  have e1 : k % 0x1000000 / 256 = 0x4110 + n := by omega
  have e2 : k % 0x1000000 % 256 = s := by omega
  unfold Key.fam
  simp only [e1, e2]
  rw [if_neg (by omega)]
  rw [if_neg (by omega)]
  rw [if_neg (by omega)]
  rw [if_neg (by omega)]
  rw [if_neg (by omega)]
  rw [if_neg (by omega)]
  rw [if_neg (by omega)]
  rw [if_neg (by omega)]
  rw [if_neg (by omega)]
  rw [if_neg (by omega)]
  rw [if_neg (by omega)]
  rw [if_pos (by omega)]

theorem Key.fam_at_4300 {k n s : Nat} (h : k = 0x430000 + 256 * n + s) (hn : n < 256) (hs : s < 256) : Key.fam k = 0x430000 + (if 0x10 ≤ s ∧ s < 0x50 then 0x10 + s % 8 else if 0x50 ≤ s then 0x50 + s % 2 else s) := by
  have e1 : k % 0x1000000 / 256 = 0x4300 + n := by omega
  have e2 : k % 0x1000000 % 256 = s := by omega
  unfold Key.fam
  simp only [e1, e2]
  rw [if_neg (by omega)]
  rw [if_neg (by omega)]
  rw [if_neg (by omega)]
  rw [if_neg (by omega)]
  rw [if_neg (by omega)]
  rw [if_neg (by omega)]
  rw [if_neg (by omega)]
  rw [if_neg (by omega)]
  rw [if_neg (by omega)]
  rw [if_neg (by omega)]
  rw [if_neg (by omega)]
  rw [if_neg (by omega)]
  rw [if_pos (by omega)]

theorem Key.fam_at_5110 {k n s : Nat} (h : k = 0x511000 + 256 * n + s) (hn : n < 16) (hs : s < 256) : Key.fam k = 0x511000 + s := by
  have e1 : k % 0x1000000 / 256 = 0x5110 + n := by omega
  have e2 : k % 0x1000000 % 256 = s := by omega
  unfold Key.fam
  simp only [e1, e2]
  rw [if_neg (by omega)]
  rw [if_neg (by omega)]
  rw [if_neg (by omega)]
  rw [if_neg (by omega)]
  rw [if_neg (by omega)]
  rw [if_neg (by omega)]
  rw [if_neg (by omega)]
  rw [if_neg (by omega)]
  rw [if_neg (by omega)]
  rw [if_neg (by omega)]
  rw [if_neg (by omega)]
  rw [if_neg (by omega)]
  rw [if_neg (by omega)]
  rw [if_pos (by omega)]

theorem Key.fam_at_7001 {k n s : Nat} (h : k = 0x700100 + 256 * n + s) (hn : n < 16) (hs : s < 256) : Key.fam k = 0x700100 + s := by
  have e1 : k % 0x1000000 / 256 = 0x7001 + n := by omega
  have e2 : k % 0x1000000 % 256 = s := by omega
  unfold Key.fam
  simp only [e1, e2]
  rw [if_neg (by omega)]
  rw [if_neg (by omega)]
  rw [if_neg (by omega)]
  rw [if_neg (by omega)]
  rw [if_neg (by omega)]
  rw [if_neg (by omega)]
  rw [if_neg (by omega)]
  rw [if_neg (by omega)]
  rw [if_neg (by omega)]
  rw [if_neg (by omega)]
  rw [if_neg (by omega)]
  rw [if_neg (by omega)]
  rw [if_neg (by omega)]
  rw [if_neg (by omega)]
  rw [if_pos (by omega)]

theorem Key.fam_at_7100 {k n s : Nat} (h : k = 0x710000 + 256 * n + s) (hn : n < 256) (hs : s < 256) : Key.fam k = 0x710000 + s := by
  have e1 : k % 0x1000000 / 256 = 0x7100 + n := by omega
  have e2 : k % 0x1000000 % 256 = s := by omega
  unfold Key.fam
  simp only [e1, e2]
  rw [if_neg (by omega)]
  rw [if_neg (by omega)]
  rw [if_neg (by omega)]
  rw [if_neg (by omega)]
  rw [if_neg (by omega)]
  rw [if_neg (by omega)]
  rw [if_neg (by omega)]
  rw [if_neg (by omega)]
  rw [if_neg (by omega)]
  rw [if_neg (by omega)]
  rw [if_neg (by omega)]
  rw [if_neg (by omega)]
  rw [if_neg (by omega)]
  rw [if_neg (by omega)]
  rw [if_neg (by omega)]
  rw [if_pos (by omega)]

@[simp] theorem Key.fam_idVendor : Key.fam (Key.idVendor) = 0x100001 := by
  decide

@[simp] theorem Key.fam_idProduct : Key.fam (Key.idProduct) = 0x100002 := by
  decide

@[simp] theorem Key.fam_idOrderCode : Key.fam (Key.idOrderCode) = 0x100003 := by
  decide

@[simp] theorem Key.fam_idSiliconRev : Key.fam (Key.idSiliconRev) = 0x100004 := by
  decide

@[simp] theorem Key.fam_idEui64 : Key.fam (Key.idEui64) = 0x100005 := by
  decide

@[simp] theorem Key.fam_idSerial : Key.fam (Key.idSerial) = 0x100006 := by
  decide

@[simp] theorem Key.fam_idTreeVersion : Key.fam (Key.idTreeVersion) = 0x100007 := by
  decide

@[simp] theorem Key.fam_idChainLevel : Key.fam (Key.idChainLevel) = 0x100008 := by
  decide

@[simp] theorem Key.fam_idObjects : Key.fam (Key.idObjects) = 0x100009 := by
  decide

@[simp] theorem Key.fam_idSubentries : Key.fam (Key.idSubentries) = 0x10000A := by
  decide

@[simp] theorem Key.fam_idStraps : Key.fam (Key.idStraps) = 0x10000B := by
  decide

@[simp] theorem Key.fam_idUptimeS : Key.fam (Key.idUptimeS) = 0x10000C := by
  decide

@[simp] theorem Key.fam_chainAddr : Key.fam (Key.chainAddr) = 0x110001 := by
  decide

@[simp] theorem Key.fam_chainPin : Key.fam (Key.chainPin) = 0x110002 := by
  decide

@[simp] theorem Key.fam_chainRole : Key.fam (Key.chainRole) = 0x110003 := by
  decide

@[simp] theorem Key.fam_chainCount : Key.fam (Key.chainCount) = 0x110004 := by
  decide

@[simp] theorem Key.fam_chainRing : Key.fam (Key.chainRing) = 0x110005 := by
  decide

@[simp] theorem Key.fam_chainEnumState : Key.fam (Key.chainEnumState) = 0x110006 := by
  decide

@[simp] theorem Key.fam_chainEnumCmd : Key.fam (Key.chainEnumCmd) = 0x110007 := by
  decide

@[simp] theorem Key.fam_chainIdleBlocks : Key.fam (Key.chainIdleBlocks) = 0x110008 := by
  decide

@[simp] theorem Key.fam_chainSbTimeoutUs : Key.fam (Key.chainSbTimeoutUs) = 0x110009 := by
  decide

@[simp] theorem Key.fam_chainHeadMiss : Key.fam (Key.chainHeadMiss) = 0x11000A := by
  decide

@[simp] theorem Key.fam_chainLaneWeights : Key.fam (Key.chainLaneWeights) = 0x11000B := by
  decide

@[simp] theorem Key.fam_chainSwitchover : Key.fam (Key.chainSwitchover) = 0x11000C := by
  decide

@[simp] theorem Key.fam_linkState {i : Nat} : Key.fam (Key.linkState i) = 0x110101 := by
  unfold Key.linkState
  split
  · rw [Key.fam_at_1101 (n := i) (s := 1) (by omega) (by omega) (by omega)]
  · decide

@[simp] theorem Key.fam_linkDelayNs {i : Nat} : Key.fam (Key.linkDelayNs i) = 0x110102 := by
  unfold Key.linkDelayNs
  split
  · rw [Key.fam_at_1101 (n := i) (s := 2) (by omega) (by omega) (by omega)]
  · decide

@[simp] theorem Key.fam_rxCrcErr {i : Nat} : Key.fam (Key.rxCrcErr i) = 0x110103 := by
  unfold Key.rxCrcErr
  split
  · rw [Key.fam_at_1101 (n := i) (s := 3) (by omega) (by omega) (by omega)]
  · decide

@[simp] theorem Key.fam_rxLenBad {i : Nat} : Key.fam (Key.rxLenBad i) = 0x110104 := by
  unfold Key.rxLenBad
  split
  · rw [Key.fam_at_1101 (n := i) (s := 4) (by omega) (by omega) (by omega)]
  · decide

@[simp] theorem Key.fam_typeBad {i : Nat} : Key.fam (Key.typeBad i) = 0x110105 := by
  unfold Key.typeBad
  split
  · rw [Key.fam_at_1101 (n := i) (s := 5) (by omega) (by omega) (by omega)]
  · decide

@[simp] theorem Key.fam_rxAbort {i : Nat} : Key.fam (Key.rxAbort i) = 0x110106 := by
  unfold Key.rxAbort
  split
  · rw [Key.fam_at_1101 (n := i) (s := 6) (by omega) (by omega) (by omega)]
  · decide

@[simp] theorem Key.fam_hopExpired {i : Nat} : Key.fam (Key.hopExpired i) = 0x110107 := by
  unfold Key.hopExpired
  split
  · rw [Key.fam_at_1101 (n := i) (s := 7) (by omega) (by omega) (by omega)]
  · decide

@[simp] theorem Key.fam_noRoute {i : Nat} : Key.fam (Key.noRoute i) = 0x110108 := by
  unfold Key.noRoute
  split
  · rw [Key.fam_at_1101 (n := i) (s := 8) (by omega) (by omega) (by omega)]
  · decide

@[simp] theorem Key.fam_linkDownEvents {i : Nat} : Key.fam (Key.linkDownEvents i) = 0x110109 := by
  unfold Key.linkDownEvents
  split
  · rw [Key.fam_at_1101 (n := i) (s := 9) (by omega) (by omega) (by omega)]
  · decide

@[simp] theorem Key.fam_chainEnumRes : Key.fam (Key.chainEnumRes) = 0x110301 := by
  decide

@[simp] theorem Key.fam_chainSwitchoverRes : Key.fam (Key.chainSwitchoverRes) = 0x110302 := by
  decide

@[simp] theorem Key.fam_errLog : Key.fam (Key.errLog) = 0x120001 := by
  decide

@[simp] theorem Key.fam_errLogNext : Key.fam (Key.errLogNext) = 0x120002 := by
  decide

@[simp] theorem Key.fam_errTotal : Key.fam (Key.errTotal) = 0x120003 := by
  decide

@[simp] theorem Key.fam_errLogClear : Key.fam (Key.errLogClear) = 0x120004 := by
  decide

@[simp] theorem Key.fam_errLogClearRes : Key.fam (Key.errLogClearRes) = 0x120005 := by
  decide

@[simp] theorem Key.fam_errMinSeverity : Key.fam (Key.errMinSeverity) = 0x120006 := by
  decide

@[simp] theorem Key.fam_errSuppressed : Key.fam (Key.errSuppressed) = 0x120007 := by
  decide

@[simp] theorem Key.fam_memErr {k : Nat} : Key.fam (Key.memErr k) = 0x120010 := by
  unfold Key.memErr
  split
  · have e1 : (0x120010 + k) % 0x1000000 / 256 = 0x1200 := by omega
    have e2 : (0x120010 + k) % 0x1000000 % 256 = 16 + k := by omega
    unfold Key.fam
    simp only [e1, e2]
    rw [if_neg (by omega)]
    rw [if_neg (by omega)]
    rw [if_neg (by omega)]
    rw [if_neg (by omega)]
    rw [if_neg (by omega)]
    rw [if_neg (by omega)]
    rw [if_neg (by omega)]
    rw [if_neg (by omega)]
    rw [if_neg (by omega)]
    rw [if_neg (by omega)]
    rw [if_neg (by omega)]
    rw [if_neg (by omega)]
    rw [if_neg (by omega)]
    rw [if_neg (by omega)]
    rw [if_neg (by omega)]
    rw [if_neg (by omega)]
    simp only [if_true]
    rw [if_pos (by omega)]
  · decide

@[simp] theorem Key.fam_memUncorrected : Key.fam (Key.memUncorrected) = 0x12001D := by
  decide

@[simp] theorem Key.fam_clampLog : Key.fam (Key.clampLog) = 0x120101 := by
  decide

@[simp] theorem Key.fam_clampLogNext : Key.fam (Key.clampLogNext) = 0x120102 := by
  decide

@[simp] theorem Key.fam_clampTotal : Key.fam (Key.clampTotal) = 0x120103 := by
  decide

@[simp] theorem Key.fam_clampLogClear : Key.fam (Key.clampLogClear) = 0x120104 := by
  decide

@[simp] theorem Key.fam_clampLogClearRes : Key.fam (Key.clampLogClearRes) = 0x120105 := by
  decide

@[simp] theorem Key.fam_dictTimeoutUs : Key.fam (Key.dictTimeoutUs) = 0x120201 := by
  decide

@[simp] theorem Key.fam_dictRetries : Key.fam (Key.dictRetries) = 0x120202 := by
  decide

@[simp] theorem Key.fam_dictBlockIdleMs : Key.fam (Key.dictBlockIdleMs) = 0x120203 := by
  decide

@[simp] theorem Key.fam_dictCommitGraceMs : Key.fam (Key.dictCommitGraceMs) = 0x120204 := by
  decide

@[simp] theorem Key.fam_dictEpochMaxS : Key.fam (Key.dictEpochMaxS) = 0x120205 := by
  decide

@[simp] theorem Key.fam_dictTxnState : Key.fam (Key.dictTxnState) = 0x120206 := by
  decide

@[simp] theorem Key.fam_dictTxnId : Key.fam (Key.dictTxnId) = 0x120207 := by
  decide

@[simp] theorem Key.fam_dictTxnEpoch : Key.fam (Key.dictTxnEpoch) = 0x120208 := by
  decide

@[simp] theorem Key.fam_dictCrcErr : Key.fam (Key.dictCrcErr) = 0x120209 := by
  decide

@[simp] theorem Key.fam_dictStoreCmd : Key.fam (Key.dictStoreCmd) = 0x12020A := by
  decide

@[simp] theorem Key.fam_dictStoreRes : Key.fam (Key.dictStoreRes) = 0x12020B := by
  decide

@[simp] theorem Key.fam_dictTxnIdleMs : Key.fam (Key.dictTxnIdleMs) = 0x12020C := by
  decide

@[simp] theorem Key.fam_graceUnplaced : Key.fam (Key.graceUnplaced) = 0x12020D := by
  decide

@[simp] theorem Key.fam_pwrState : Key.fam (Key.pwrState) = 0x140001 := by
  decide

@[simp] theorem Key.fam_pwrStateCmd : Key.fam (Key.pwrStateCmd) = 0x140002 := by
  decide

@[simp] theorem Key.fam_pwrStateRes : Key.fam (Key.pwrStateRes) = 0x140003 := by
  decide

@[simp] theorem Key.fam_cinchBudgetMw : Key.fam (Key.cinchBudgetMw) = 0x140101 := by
  decide

@[simp] theorem Key.fam_cinchTjLimitC : Key.fam (Key.cinchTjLimitC) = 0x140102 := by
  decide

@[simp] theorem Key.fam_cinchShedOrder : Key.fam (Key.cinchShedOrder) = 0x140103 := by
  decide

@[simp] theorem Key.fam_cinchLowClasses : Key.fam (Key.cinchLowClasses) = 0x140104 := by
  decide

@[simp] theorem Key.fam_cinchPowerMw : Key.fam (Key.cinchPowerMw) = 0x140105 := by
  decide

@[simp] theorem Key.fam_cinchTokens : Key.fam (Key.cinchTokens) = 0x140106 := by
  decide

@[simp] theorem Key.fam_cinchStage : Key.fam (Key.cinchStage) = 0x140107 := by
  decide

@[simp] theorem Key.fam_shedCount {k : Nat} : Key.fam (Key.shedCount k) = 0x140110 := by
  unfold Key.shedCount
  split
  · have e1 : (0x140110 + k) % 0x1000000 / 256 = 0x1401 := by omega
    have e2 : (0x140110 + k) % 0x1000000 % 256 = 16 + k := by omega
    unfold Key.fam
    simp only [e1, e2]
    rw [if_neg (by omega)]
    rw [if_neg (by omega)]
    rw [if_neg (by omega)]
    rw [if_neg (by omega)]
    rw [if_neg (by omega)]
    rw [if_neg (by omega)]
    rw [if_neg (by omega)]
    rw [if_neg (by omega)]
    rw [if_neg (by omega)]
    rw [if_neg (by omega)]
    rw [if_neg (by omega)]
    rw [if_neg (by omega)]
    rw [if_neg (by omega)]
    rw [if_neg (by omega)]
    rw [if_neg (by omega)]
    rw [if_neg (by omega)]
    rw [if_neg (by omega)]
    simp only [if_true]
    rw [if_pos (by omega)]
  · decide

@[simp] theorem Key.fam_tjSensor {k : Nat} : Key.fam (Key.tjSensor k) = 0x140201 := by
  unfold Key.tjSensor
  split
  · have e1 : (0x140201 + k) % 0x1000000 / 256 = 0x1402 := by omega
    have e2 : (0x140201 + k) % 0x1000000 % 256 = 1 + k := by omega
    unfold Key.fam
    simp only [e1, e2]
    rw [if_neg (by omega)]
    rw [if_neg (by omega)]
    rw [if_neg (by omega)]
    rw [if_neg (by omega)]
    rw [if_neg (by omega)]
    rw [if_neg (by omega)]
    rw [if_neg (by omega)]
    rw [if_neg (by omega)]
    rw [if_neg (by omega)]
    rw [if_neg (by omega)]
    rw [if_neg (by omega)]
    rw [if_neg (by omega)]
    rw [if_neg (by omega)]
    rw [if_neg (by omega)]
    rw [if_neg (by omega)]
    rw [if_neg (by omega)]
    rw [if_neg (by omega)]
    rw [if_neg (by omega)]
    simp only [if_true]
    rw [if_pos (by omega)]
  · decide

@[simp] theorem Key.fam_tjMax : Key.fam (Key.tjMax) = 0x140209 := by
  decide

@[simp] theorem Key.fam_timeNow : Key.fam (Key.timeNow) = 0x180001 := by
  decide

@[simp] theorem Key.fam_timeIncr : Key.fam (Key.timeIncr) = 0x180002 := by
  decide

@[simp] theorem Key.fam_timeJumpLimitNs : Key.fam (Key.timeJumpLimitNs) = 0x180003 := by
  decide

@[simp] theorem Key.fam_timeStepNs : Key.fam (Key.timeStepNs) = 0x180004 := by
  decide

@[simp] theorem Key.fam_timeStepRes : Key.fam (Key.timeStepRes) = 0x180005 := by
  decide

@[simp] theorem Key.fam_timeSet : Key.fam (Key.timeSet) = 0x180006 := by
  decide

@[simp] theorem Key.fam_timeSetRes : Key.fam (Key.timeSetRes) = 0x180007 := by
  decide

@[simp] theorem Key.fam_timeState : Key.fam (Key.timeState) = 0x180008 := by
  decide

@[simp] theorem Key.fam_timeOffsetNs : Key.fam (Key.timeOffsetNs) = 0x180009 := by
  decide

@[simp] theorem Key.fam_jumpRefused : Key.fam (Key.jumpRefused) = 0x18000A := by
  decide

@[simp] theorem Key.fam_ptpPorts : Key.fam (Key.ptpPorts) = 0x180101 := by
  decide

@[simp] theorem Key.fam_ptpStepMode : Key.fam (Key.ptpStepMode) = 0x180102 := by
  decide

@[simp] theorem Key.fam_timeSource : Key.fam (Key.timeSource) = 0x180103 := by
  decide

@[simp] theorem Key.fam_tpoMode {i : Nat} : Key.fam (Key.tpoMode i) = 0x180201 := by
  unfold Key.tpoMode
  split
  · rw [Key.fam_at_1802 (n := i) (s := 1) (by omega) (by omega) (by omega)]
  · decide

@[simp] theorem Key.fam_tpoStart {i : Nat} : Key.fam (Key.tpoStart i) = 0x180202 := by
  unfold Key.tpoStart
  split
  · rw [Key.fam_at_1802 (n := i) (s := 2) (by omega) (by omega) (by omega)]
  · decide

@[simp] theorem Key.fam_tpoPeriodNs {i : Nat} : Key.fam (Key.tpoPeriodNs i) = 0x180203 := by
  unfold Key.tpoPeriodNs
  split
  · rw [Key.fam_at_1802 (n := i) (s := 3) (by omega) (by omega) (by omega)]
  · decide

@[simp] theorem Key.fam_tpoWidthNs {i : Nat} : Key.fam (Key.tpoWidthNs i) = 0x180204 := by
  unfold Key.tpoWidthNs
  split
  · rw [Key.fam_at_1802 (n := i) (s := 4) (by omega) (by omega) (by omega)]
  · decide

@[simp] theorem Key.fam_portState {i : Nat} : Key.fam (Key.portState i) = 0x200001 := by
  unfold Key.portState
  split
  · rw [Key.fam_at_2000 (n := i) (s := 1) (by omega) (by omega) (by omega)]
  · decide

@[simp] theorem Key.fam_portStateCmd {i : Nat} : Key.fam (Key.portStateCmd i) = 0x200002 := by
  unfold Key.portStateCmd
  split
  · rw [Key.fam_at_2000 (n := i) (s := 2) (by omega) (by omega) (by omega)]
  · decide

@[simp] theorem Key.fam_portStateRes {i : Nat} : Key.fam (Key.portStateRes i) = 0x200003 := by
  unfold Key.portStateRes
  split
  · rw [Key.fam_at_2000 (n := i) (s := 3) (by omega) (by omega) (by omega)]
  · decide

@[simp] theorem Key.fam_portAutoReturn {i : Nat} : Key.fam (Key.portAutoReturn i) = 0x200004 := by
  unfold Key.portAutoReturn
  split
  · rw [Key.fam_at_2000 (n := i) (s := 4) (by omega) (by omega) (by omega)]
  · decide

@[simp] theorem Key.fam_portCentreKhz {i : Nat} : Key.fam (Key.portCentreKhz i) = 0x200005 := by
  unfold Key.portCentreKhz
  split
  · rw [Key.fam_at_2000 (n := i) (s := 5) (by omega) (by omega) (by omega)]
  · decide

@[simp] theorem Key.fam_portTxLimitDbm {i : Nat} : Key.fam (Key.portTxLimitDbm i) = 0x200006 := by
  unfold Key.portTxLimitDbm
  split
  · rw [Key.fam_at_2000 (n := i) (s := 6) (by omega) (by omega) (by omega)]
  · decide

@[simp] theorem Key.fam_portFemCfg {i : Nat} : Key.fam (Key.portFemCfg i) = 0x200007 := by
  unfold Key.portFemCfg
  split
  · rw [Key.fam_at_2000 (n := i) (s := 7) (by omega) (by omega) (by omega)]
  · decide

@[simp] theorem Key.fam_portPdFwdDbm {i : Nat} : Key.fam (Key.portPdFwdDbm i) = 0x200008 := by
  unfold Key.portPdFwdDbm
  split
  · rw [Key.fam_at_2000 (n := i) (s := 8) (by omega) (by omega) (by omega)]
  · decide

@[simp] theorem Key.fam_portPdRefDbm {i : Nat} : Key.fam (Key.portPdRefDbm i) = 0x200009 := by
  unfold Key.portPdRefDbm
  split
  · rw [Key.fam_at_2000 (n := i) (s := 9) (by omega) (by omega) (by omega)]
  · decide

@[simp] theorem Key.fam_portAntState {i : Nat} : Key.fam (Key.portAntState i) = 0x20000A := by
  unfold Key.portAntState
  split
  · rw [Key.fam_at_2000 (n := i) (s := 10) (by omega) (by omega) (by omega)]
  · decide

@[simp] theorem Key.fam_portDiagStretch {i : Nat} : Key.fam (Key.portDiagStretch i) = 0x20000B := by
  unfold Key.portDiagStretch
  split
  · rw [Key.fam_at_2000 (n := i) (s := 11) (by omega) (by omega) (by omega)]
  · decide

@[simp] theorem Key.fam_portStarved {i : Nat} : Key.fam (Key.portStarved i) = 0x200010 := by
  unfold Key.portStarved
  split
  · rw [Key.fam_at_2000 (n := i) (s := 16) (by omega) (by omega) (by omega)]
  · decide

@[simp] theorem Key.fam_rxcOwner {i : Nat} : Key.fam (Key.rxcOwner i) = 0x210001 := by
  unfold Key.rxcOwner
  split
  · rw [Key.fam_at_2100 (n := i) (s := 1) (by omega) (by omega) (by omega)]
  · decide

@[simp] theorem Key.fam_rxcPin {i : Nat} : Key.fam (Key.rxcPin i) = 0x210002 := by
  unfold Key.rxcPin
  split
  · rw [Key.fam_at_2100 (n := i) (s := 2) (by omega) (by omega) (by omega)]
  · decide

@[simp] theorem Key.fam_rxcDetectDbm {i : Nat} : Key.fam (Key.rxcDetectDbm i) = 0x210003 := by
  unfold Key.rxcDetectDbm
  split
  · rw [Key.fam_at_2100 (n := i) (s := 3) (by omega) (by omega) (by omega)]
  · decide

@[simp] theorem Key.fam_rxcQualifier {i : Nat} : Key.fam (Key.rxcQualifier i) = 0x210004 := by
  unfold Key.rxcQualifier
  split
  · rw [Key.fam_at_2100 (n := i) (s := 4) (by omega) (by omega) (by omega)]
  · decide

@[simp] theorem Key.fam_rxcBackstitch {i : Nat} : Key.fam (Key.rxcBackstitch i) = 0x210005 := by
  unfold Key.rxcBackstitch
  split
  · rw [Key.fam_at_2100 (n := i) (s := 5) (by omega) (by omega) (by omega)]
  · decide

@[simp] theorem Key.fam_rxcPlaced {i : Nat} : Key.fam (Key.rxcPlaced i) = 0x210006 := by
  unfold Key.rxcPlaced
  split
  · rw [Key.fam_at_2100 (n := i) (s := 6) (by omega) (by omega) (by omega)]
  · decide

@[simp] theorem Key.fam_rxcState {i : Nat} : Key.fam (Key.rxcState i) = 0x210007 := by
  unfold Key.rxcState
  split
  · rw [Key.fam_at_2100 (n := i) (s := 7) (by omega) (by omega) (by omega)]
  · decide

@[simp] theorem Key.fam_rxFrames {i : Nat} : Key.fam (Key.rxFrames i) = 0x210010 := by
  unfold Key.rxFrames
  split
  · rw [Key.fam_at_2100 (n := i) (s := 16) (by omega) (by omega) (by omega)]
  · decide

@[simp] theorem Key.fam_rxDetect {i : Nat} : Key.fam (Key.rxDetect i) = 0x210011 := by
  unfold Key.rxDetect
  split
  · rw [Key.fam_at_2100 (n := i) (s := 17) (by omega) (by omega) (by omega)]
  · decide

@[simp] theorem Key.fam_rxFcsErr {i : Nat} : Key.fam (Key.rxFcsErr i) = 0x210012 := by
  unfold Key.rxFcsErr
  split
  · rw [Key.fam_at_2100 (n := i) (s := 18) (by omega) (by omega) (by omega)]
  · decide

@[simp] theorem Key.fam_rxSecFail {i : Nat} : Key.fam (Key.rxSecFail i) = 0x210013 := by
  unfold Key.rxSecFail
  split
  · rw [Key.fam_at_2100 (n := i) (s := 19) (by omega) (by omega) (by omega)]
  · decide

@[simp] theorem Key.fam_rxReplay {i : Nat} : Key.fam (Key.rxReplay i) = 0x210014 := by
  unfold Key.rxReplay
  split
  · rw [Key.fam_at_2100 (n := i) (s := 20) (by omega) (by omega) (by omega)]
  · decide

@[simp] theorem Key.fam_rxDup {i : Nat} : Key.fam (Key.rxDup i) = 0x210015 := by
  unfold Key.rxDup
  split
  · rw [Key.fam_at_2100 (n := i) (s := 21) (by omega) (by omega) (by omega)]
  · decide

@[simp] theorem Key.fam_rxForeign {i : Nat} : Key.fam (Key.rxForeign i) = 0x210016 := by
  unfold Key.rxForeign
  split
  · rw [Key.fam_at_2100 (n := i) (s := 22) (by omega) (by omega) (by omega)]
  · decide

@[simp] theorem Key.fam_rxDespreadTimeout {i : Nat} : Key.fam (Key.rxDespreadTimeout i) = 0x210017 := by
  unfold Key.rxDespreadTimeout
  split
  · rw [Key.fam_at_2100 (n := i) (s := 23) (by omega) (by omega) (by omega)]
  · decide

@[simp] theorem Key.fam_sampleOverrun {i : Nat} : Key.fam (Key.sampleOverrun i) = 0x210018 := by
  unfold Key.sampleOverrun
  split
  · rw [Key.fam_at_2100 (n := i) (s := 24) (by omega) (by omega) (by omega)]
  · decide

@[simp] theorem Key.fam_bsRecovered {i : Nat} : Key.fam (Key.bsRecovered i) = 0x210019 := by
  unfold Key.bsRecovered
  split
  · rw [Key.fam_at_2100 (n := i) (s := 25) (by omega) (by omega) (by omega)]
  · decide

@[simp] theorem Key.fam_bsFailed {i : Nat} : Key.fam (Key.bsFailed i) = 0x21001A := by
  unfold Key.bsFailed
  split
  · rw [Key.fam_at_2100 (n := i) (s := 26) (by omega) (by omega) (by omega)]
  · decide

@[simp] theorem Key.fam_txcOwner {i : Nat} : Key.fam (Key.txcOwner i) = 0x220001 := by
  unfold Key.txcOwner
  split
  · rw [Key.fam_at_2200 (n := i) (s := 1) (by omega) (by omega) (by omega)]
  · decide

@[simp] theorem Key.fam_txcPin {i : Nat} : Key.fam (Key.txcPin i) = 0x220002 := by
  unfold Key.txcPin
  split
  · rw [Key.fam_at_2200 (n := i) (s := 2) (by omega) (by omega) (by omega)]
  · decide

@[simp] theorem Key.fam_txcPowerDbm {i : Nat} : Key.fam (Key.txcPowerDbm i) = 0x220003 := by
  unfold Key.txcPowerDbm
  split
  · rw [Key.fam_at_2200 (n := i) (s := 3) (by omega) (by omega) (by omega)]
  · decide

@[simp] theorem Key.fam_txcPlaced {i : Nat} : Key.fam (Key.txcPlaced i) = 0x220004 := by
  unfold Key.txcPlaced
  split
  · rw [Key.fam_at_2200 (n := i) (s := 4) (by omega) (by omega) (by omega)]
  · decide

@[simp] theorem Key.fam_txcState {i : Nat} : Key.fam (Key.txcState i) = 0x220005 := by
  unfold Key.txcState
  split
  · rw [Key.fam_at_2200 (n := i) (s := 5) (by omega) (by omega) (by omega)]
  · decide

@[simp] theorem Key.fam_txFrames {i : Nat} : Key.fam (Key.txFrames i) = 0x220010 := by
  unfold Key.txFrames
  split
  · rw [Key.fam_at_2200 (n := i) (s := 16) (by omega) (by omega) (by omega)]
  · decide

@[simp] theorem Key.fam_txLbtBusy {i : Nat} : Key.fam (Key.txLbtBusy i) = 0x220011 := by
  unfold Key.txLbtBusy
  split
  · rw [Key.fam_at_2200 (n := i) (s := 17) (by omega) (by omega) (by omega)]
  · decide

@[simp] theorem Key.fam_txCinchDefer {i : Nat} : Key.fam (Key.txCinchDefer i) = 0x220012 := by
  unfold Key.txCinchDefer
  split
  · rw [Key.fam_at_2200 (n := i) (s := 18) (by omega) (by omega) (by omega)]
  · decide

@[simp] theorem Key.fam_txPowerCut {i : Nat} : Key.fam (Key.txPowerCut i) = 0x220013 := by
  unfold Key.txPowerCut
  split
  · rw [Key.fam_at_2200 (n := i) (s := 19) (by omega) (by omega) (by omega)]
  · decide

@[simp] theorem Key.fam_txDutyBlock {i : Nat} : Key.fam (Key.txDutyBlock i) = 0x220014 := by
  unfold Key.txDutyBlock
  split
  · rw [Key.fam_at_2200 (n := i) (s := 20) (by omega) (by omega) (by omega)]
  · decide

@[simp] theorem Key.fam_stampLocked : Key.fam (Key.stampLocked) = 0x230001 := by
  decide

@[simp] theorem Key.fam_stampLockCmd : Key.fam (Key.stampLockCmd) = 0x230002 := by
  decide

@[simp] theorem Key.fam_stampLockRes : Key.fam (Key.stampLockRes) = 0x230003 := by
  decide

@[simp] theorem Key.fam_stampPort {i : Nat} : Key.fam (Key.stampPort i) = 0x230101 := by
  unfold Key.stampPort
  split
  · rw [Key.fam_at_2301 (n := i) (s := 1) (by omega) (by omega) (by omega)]
  · decide

@[simp] theorem Key.fam_calCmd : Key.fam (Key.calCmd) = 0x240001 := by
  decide

@[simp] theorem Key.fam_calRes : Key.fam (Key.calRes) = 0x240002 := by
  decide

@[simp] theorem Key.fam_calDisturbDbm : Key.fam (Key.calDisturbDbm) = 0x240003 := by
  decide

@[simp] theorem Key.fam_calIntervalS : Key.fam (Key.calIntervalS) = 0x240004 := by
  decide

@[simp] theorem Key.fam_calCoeff {i : Nat} : Key.fam (Key.calCoeff i) = 0x240101 := by
  unfold Key.calCoeff
  split
  · rw [Key.fam_at_2401 (n := i) (s := 1) (by omega) (by omega) (by omega)]
  · decide

@[simp] theorem Key.fam_girthSlotUs : Key.fam (Key.girthSlotUs) = 0x300001 := by
  decide

@[simp] theorem Key.fam_girthAsn : Key.fam (Key.girthAsn) = 0x300002 := by
  decide

@[simp] theorem Key.fam_girthCompat : Key.fam (Key.girthCompat) = 0x300003 := by
  decide

@[simp] theorem Key.fam_guardBaseUs : Key.fam (Key.guardBaseUs) = 0x300004 := by
  decide

@[simp] theorem Key.fam_guardGrowthPpm : Key.fam (Key.guardGrowthPpm) = 0x300005 := by
  decide

@[simp] theorem Key.fam_guardCapUs : Key.fam (Key.guardCapUs) = 0x300006 := by
  decide

@[simp] theorem Key.fam_desyncNodes : Key.fam (Key.desyncNodes) = 0x300007 := by
  decide

@[simp] theorem Key.fam_desyncEvents : Key.fam (Key.desyncEvents) = 0x300008 := by
  decide

@[simp] theorem Key.fam_assocOpen : Key.fam (Key.assocOpen) = 0x300009 := by
  decide

@[simp] theorem Key.fam_dlRetryLimit : Key.fam (Key.dlRetryLimit) = 0x30000A := by
  decide

@[simp] theorem Key.fam_dlUndelivered : Key.fam (Key.dlUndelivered) = 0x30000B := by
  decide

@[simp] theorem Key.fam_sfSlots {i : Nat} : Key.fam (Key.sfSlots i) = 0x301001 := by
  unfold Key.sfSlots
  split
  · rw [Key.fam_at_3010 (n := i) (s := 1) (by omega) (by omega) (by omega)]
  · decide

@[simp] theorem Key.fam_sfTenant {i : Nat} : Key.fam (Key.sfTenant i) = 0x301002 := by
  unfold Key.sfTenant
  split
  · rw [Key.fam_at_3010 (n := i) (s := 2) (by omega) (by omega) (by omega)]
  · decide

@[simp] theorem Key.fam_sfBeaconEvery {i : Nat} : Key.fam (Key.sfBeaconEvery i) = 0x301003 := by
  unfold Key.sfBeaconEvery
  split
  · rw [Key.fam_at_3010 (n := i) (s := 3) (by omega) (by omega) (by omega)]
  · decide

@[simp] theorem Key.fam_sfSharedSlots {i : Nat} : Key.fam (Key.sfSharedSlots i) = 0x301004 := by
  unfold Key.sfSharedSlots
  split
  · rw [Key.fam_at_3010 (n := i) (s := 4) (by omega) (by omega) (by omega)]
  · decide

@[simp] theorem Key.fam_tenEnable {i : Nat} : Key.fam (Key.tenEnable i) = 0x310001 := by
  unfold Key.tenEnable
  split
  · rw [Key.fam_at_3100 (n := i) (s := 1) (by omega) (by omega) (by omega)]
    decide
  · decide

@[simp] theorem Key.fam_tenPanId {i : Nat} : Key.fam (Key.tenPanId i) = 0x310002 := by
  unfold Key.tenPanId
  split
  · rw [Key.fam_at_3100 (n := i) (s := 2) (by omega) (by omega) (by omega)]
    decide
  · decide

@[simp] theorem Key.fam_tenChmap {i k : Nat} : Key.fam (Key.tenChmap i k) = 0x310003 := by
  unfold Key.tenChmap
  split
  · rw [Key.fam_at_3100 (n := i) (s := 3 + k) (by omega) (by omega) (by omega)]
    split <;> omega
  · decide

@[simp] theorem Key.fam_tenSlotframe {i : Nat} : Key.fam (Key.tenSlotframe i) = 0x310007 := by
  unfold Key.tenSlotframe
  split
  · rw [Key.fam_at_3100 (n := i) (s := 7) (by omega) (by omega) (by omega)]
    decide
  · decide

@[simp] theorem Key.fam_tenSecLevel {i : Nat} : Key.fam (Key.tenSecLevel i) = 0x310008 := by
  unfold Key.tenSecLevel
  split
  · rw [Key.fam_at_3100 (n := i) (s := 8) (by omega) (by omega) (by omega)]
    decide
  · decide

@[simp] theorem Key.fam_tenKeySlot {i : Nat} : Key.fam (Key.tenKeySlot i) = 0x310009 := by
  unfold Key.tenKeySlot
  split
  · rw [Key.fam_at_3100 (n := i) (s := 9) (by omega) (by omega) (by omega)]
    decide
  · decide

@[simp] theorem Key.fam_tenNodeMax {i : Nat} : Key.fam (Key.tenNodeMax i) = 0x31000A := by
  unfold Key.tenNodeMax
  split
  · rw [Key.fam_at_3100 (n := i) (s := 10) (by omega) (by omega) (by omega)]
    decide
  · decide

@[simp] theorem Key.fam_tenNodes {i : Nat} : Key.fam (Key.tenNodes i) = 0x31000B := by
  unfold Key.tenNodes
  split
  · rw [Key.fam_at_3100 (n := i) (s := 11) (by omega) (by omega) (by omega)]
    decide
  · decide

@[simp] theorem Key.fam_tenBudgetNah {i : Nat} : Key.fam (Key.tenBudgetNah i) = 0x31000C := by
  unfold Key.tenBudgetNah
  split
  · rw [Key.fam_at_3100 (n := i) (s := 12) (by omega) (by omega) (by omega)]
    decide
  · decide

@[simp] theorem Key.fam_schedDayStartS : Key.fam (Key.schedDayStartS) = 0x320001 := by
  decide

@[simp] theorem Key.fam_schedWheelUsed : Key.fam (Key.schedWheelUsed) = 0x320002 := by
  decide

@[simp] theorem Key.fam_schedWheelSpill : Key.fam (Key.schedWheelSpill) = 0x320003 := by
  decide

@[simp] theorem Key.fam_ledgerDeferrals : Key.fam (Key.ledgerDeferrals) = 0x320004 := by
  decide

@[simp] theorem Key.fam_schedMissed : Key.fam (Key.schedMissed) = 0x320005 := by
  decide

@[simp] theorem Key.fam_costTable : Key.fam (Key.costTable) = 0x320101 := by
  decide

@[simp] theorem Key.fam_harAlphaK : Key.fam (Key.harAlphaK) = 0x400001 := by
  decide

@[simp] theorem Key.fam_harSpillable : Key.fam (Key.harSpillable) = 0x400002 := by
  decide

@[simp] theorem Key.fam_harFreeCells : Key.fam (Key.harFreeCells) = 0x400003 := by
  decide

@[simp] theorem Key.fam_lenConflictCopy : Key.fam (Key.lenConflictCopy) = 0x400004 := by
  decide

@[simp] theorem Key.fam_parseDeep : Key.fam (Key.parseDeep) = 0x400005 := by
  decide

@[simp] theorem Key.fam_lenConflict : Key.fam (Key.lenConflict) = 0x400006 := by
  decide

@[simp] theorem Key.fam_hpRx {i : Nat} : Key.fam (Key.hpRx i) = 0x400101 := by
  unfold Key.hpRx
  split
  · rw [Key.fam_at_4001 (n := i) (s := 1) (by omega) (by omega) (by omega)]
  · decide

@[simp] theorem Key.fam_hpTx {i : Nat} : Key.fam (Key.hpTx i) = 0x400102 := by
  unfold Key.hpTx
  split
  · rw [Key.fam_at_4001 (n := i) (s := 2) (by omega) (by omega) (by omega)]
  · decide

@[simp] theorem Key.fam_hpDrop {i : Nat} : Key.fam (Key.hpDrop i) = 0x400103 := by
  unfold Key.hpDrop
  split
  · rw [Key.fam_at_4001 (n := i) (s := 3) (by omega) (by omega) (by omega)]
  · decide

@[simp] theorem Key.fam_qCells {i : Nat} : Key.fam (Key.qCells i) = 0x402001 := by
  unfold Key.qCells
  split
  · rw [Key.fam_at_4020 (n := i) (s := 1) (by omega) (by omega) (by omega)]
  · decide

@[simp] theorem Key.fam_qSpilled {i : Nat} : Key.fam (Key.qSpilled i) = 0x402002 := by
  unfold Key.qSpilled
  split
  · rw [Key.fam_at_4020 (n := i) (s := 2) (by omega) (by omega) (by omega)]
  · decide

@[simp] theorem Key.fam_qDrops {i : Nat} : Key.fam (Key.qDrops i) = 0x402003 := by
  unfold Key.qDrops
  split
  · rw [Key.fam_at_4020 (n := i) (s := 3) (by omega) (by omega) (by omega)]
  · decide

@[simp] theorem Key.fam_qSpills {i : Nat} : Key.fam (Key.qSpills i) = 0x402004 := by
  unfold Key.qSpills
  split
  · rw [Key.fam_at_4020 (n := i) (s := 4) (by omega) (by omega) (by omega)]
  · decide

@[simp] theorem Key.fam_sbAttached : Key.fam (Key.sbAttached) = 0x410001 := by
  decide

@[simp] theorem Key.fam_sbLinkState : Key.fam (Key.sbLinkState) = 0x410002 := by
  decide

@[simp] theorem Key.fam_sbLayout : Key.fam (Key.sbLayout) = 0x410003 := by
  decide

@[simp] theorem Key.fam_sbJournalSeq : Key.fam (Key.sbJournalSeq) = 0x410004 := by
  decide

@[simp] theorem Key.fam_sbRemoteServe : Key.fam (Key.sbRemoteServe) = 0x410005 := by
  decide

@[simp] theorem Key.fam_cxlRetrains : Key.fam (Key.cxlRetrains) = 0x410101 := by
  decide

@[simp] theorem Key.fam_cxlReplayed : Key.fam (Key.cxlReplayed) = 0x410102 := by
  decide

@[simp] theorem Key.fam_cxlFailed : Key.fam (Key.cxlFailed) = 0x410103 := by
  decide

@[simp] theorem Key.fam_sbMediaErr : Key.fam (Key.sbMediaErr) = 0x410104 := by
  decide

@[simp] theorem Key.fam_sqItems {i : Nat} : Key.fam (Key.sqItems i) = 0x411001 := by
  unfold Key.sqItems
  split
  · rw [Key.fam_at_4110 (n := i) (s := 1) (by omega) (by omega) (by omega)]
  · decide

@[simp] theorem Key.fam_sqLimit {i : Nat} : Key.fam (Key.sqLimit i) = 0x411002 := by
  unfold Key.sqLimit
  split
  · rw [Key.fam_at_4110 (n := i) (s := 2) (by omega) (by omega) (by omega)]
  · decide

@[simp] theorem Key.fam_sqWelts {i : Nat} : Key.fam (Key.sqWelts i) = 0x411003 := by
  unfold Key.sqWelts
  split
  · rw [Key.fam_at_4110 (n := i) (s := 3) (by omega) (by omega) (by omega)]
  · decide

@[simp] theorem Key.fam_sqLost {i : Nat} : Key.fam (Key.sqLost i) = 0x411004 := by
  unfold Key.sqLost
  split
  · rw [Key.fam_at_4110 (n := i) (s := 4) (by omega) (by omega) (by omega)]
  · decide

@[simp] theorem Key.fam_sqPoison {i : Nat} : Key.fam (Key.sqPoison i) = 0x411005 := by
  unfold Key.sqPoison
  split
  · rw [Key.fam_at_4110 (n := i) (s := 5) (by omega) (by omega) (by omega)]
  · decide

@[simp] theorem Key.fam_sqResets {i : Nat} : Key.fam (Key.sqResets i) = 0x411006 := by
  unfold Key.sqResets
  split
  · rw [Key.fam_at_4110 (n := i) (s := 6) (by omega) (by omega) (by omega)]
  · decide

@[simp] theorem Key.fam_bridleUsed : Key.fam (Key.bridleUsed) = 0x420001 := by
  decide

@[simp] theorem Key.fam_bridleParityErr : Key.fam (Key.bridleParityErr) = 0x420002 := by
  decide

@[simp] theorem Key.fam_halterUsed : Key.fam (Key.halterUsed) = 0x420101 := by
  decide

@[simp] theorem Key.fam_halterOvfUsed : Key.fam (Key.halterOvfUsed) = 0x420102 := by
  decide

@[simp] theorem Key.fam_halterEvict : Key.fam (Key.halterEvict) = 0x420103 := by
  decide

@[simp] theorem Key.fam_halterEvictions : Key.fam (Key.halterEvictions) = 0x420104 := by
  decide

@[simp] theorem Key.fam_halterParityErr : Key.fam (Key.halterParityErr) = 0x420105 := by
  decide

@[simp] theorem Key.fam_learnNotify : Key.fam (Key.learnNotify) = 0x420106 := by
  decide

@[simp] theorem Key.fam_dlUnknown : Key.fam (Key.dlUnknown) = 0x420107 := by
  decide

@[simp] theorem Key.fam_stitchMaxHops : Key.fam (Key.stitchMaxHops) = 0x420201 := by
  decide

@[simp] theorem Key.fam_stitchTooDeep : Key.fam (Key.stitchTooDeep) = 0x420202 := by
  decide

@[simp] theorem Key.fam_nodeWinFirst : Key.fam (Key.nodeWinFirst) = 0x421001 := by
  decide

@[simp] theorem Key.fam_nodeWinCount : Key.fam (Key.nodeWinCount) = 0x421002 := by
  decide

@[simp] theorem Key.fam_nodeWin : Key.fam (Key.nodeWin) = 0x421003 := by
  decide

@[simp] theorem Key.fam_nodeWinBad : Key.fam (Key.nodeWinBad) = 0x421004 := by
  decide

@[simp] theorem Key.fam_curbSample {i : Nat} : Key.fam (Key.curbSample i) = 0x430001 := by
  unfold Key.curbSample
  split
  · rw [Key.fam_at_4300 (n := i) (s := 1) (by omega) (by omega) (by omega)]
    decide
  · decide

@[simp] theorem Key.fam_curbSampleExp {i : Nat} : Key.fam (Key.curbSampleExp i) = 0x430002 := by
  unfold Key.curbSampleExp
  split
  · rw [Key.fam_at_4300 (n := i) (s := 2) (by omega) (by omega) (by omega)]
    decide
  · decide

@[simp] theorem Key.fam_polMode {i c : Nat} : Key.fam (Key.polMode i c) = 0x430010 := by
  unfold Key.polMode
  split
  · rw [Key.fam_at_4300 (n := i) (s := 16 + 8 * c) (by omega) (by omega) (by omega)]
    split <;> omega
  · decide

@[simp] theorem Key.fam_polCirKbps {i c : Nat} : Key.fam (Key.polCirKbps i c) = 0x430011 := by
  unfold Key.polCirKbps
  split
  · rw [Key.fam_at_4300 (n := i) (s := 17 + 8 * c) (by omega) (by omega) (by omega)]
    split <;> omega
  · decide

@[simp] theorem Key.fam_polCbs {i c : Nat} : Key.fam (Key.polCbs i c) = 0x430012 := by
  unfold Key.polCbs
  split
  · rw [Key.fam_at_4300 (n := i) (s := 18 + 8 * c) (by omega) (by omega) (by omega)]
    split <;> omega
  · decide

@[simp] theorem Key.fam_polXbs {i c : Nat} : Key.fam (Key.polXbs i c) = 0x430013 := by
  unfold Key.polXbs
  split
  · rw [Key.fam_at_4300 (n := i) (s := 19 + 8 * c) (by omega) (by omega) (by omega)]
    split <;> omega
  · decide

@[simp] theorem Key.fam_polPirKbps {i c : Nat} : Key.fam (Key.polPirKbps i c) = 0x430014 := by
  unfold Key.polPirKbps
  split
  · rw [Key.fam_at_4300 (n := i) (s := 20 + 8 * c) (by omega) (by omega) (by omega)]
    split <;> omega
  · decide

@[simp] theorem Key.fam_polGreen {i c : Nat} : Key.fam (Key.polGreen i c) = 0x430015 := by
  unfold Key.polGreen
  split
  · rw [Key.fam_at_4300 (n := i) (s := 21 + 8 * c) (by omega) (by omega) (by omega)]
    split <;> omega
  · decide

@[simp] theorem Key.fam_polYellow {i c : Nat} : Key.fam (Key.polYellow i c) = 0x430016 := by
  unfold Key.polYellow
  split
  · rw [Key.fam_at_4300 (n := i) (s := 22 + 8 * c) (by omega) (by omega) (by omega)]
    split <;> omega
  · decide

@[simp] theorem Key.fam_polRed {i c : Nat} : Key.fam (Key.polRed i c) = 0x430017 := by
  unfold Key.polRed
  split
  · rw [Key.fam_at_4300 (n := i) (s := 23 + 8 * c) (by omega) (by omega) (by omega)]
    split <;> omega
  · decide

@[simp] theorem Key.fam_shpRateKbps {i c : Nat} : Key.fam (Key.shpRateKbps i c) = 0x430050 := by
  unfold Key.shpRateKbps
  split
  · rw [Key.fam_at_4300 (n := i) (s := 80 + 2 * c) (by omega) (by omega) (by omega)]
    split <;> first | omega | (split <;> omega)
  · decide

@[simp] theorem Key.fam_shpBurst {i c : Nat} : Key.fam (Key.shpBurst i c) = 0x430051 := by
  unfold Key.shpBurst
  split
  · rw [Key.fam_at_4300 (n := i) (s := 81 + 2 * c) (by omega) (by omega) (by omega)]
    split <;> first | omega | (split <;> omega)
  · decide

@[simp] theorem Key.fam_keeperState : Key.fam (Key.keeperState) = 0x500001 := by
  decide

@[simp] theorem Key.fam_keeperSlotsUsed : Key.fam (Key.keeperSlotsUsed) = 0x500002 := by
  decide

@[simp] theorem Key.fam_tamperEnable : Key.fam (Key.tamperEnable) = 0x500003 := by
  decide

@[simp] theorem Key.fam_tamperLast : Key.fam (Key.tamperLast) = 0x500004 := by
  decide

@[simp] theorem Key.fam_tamperEvents : Key.fam (Key.tamperEvents) = 0x500005 := by
  decide

@[simp] theorem Key.fam_keeperProvision : Key.fam (Key.keeperProvision) = 0x500006 := by
  decide

@[simp] theorem Key.fam_keeperProvisionRes : Key.fam (Key.keeperProvisionRes) = 0x500007 := by
  decide

@[simp] theorem Key.fam_attestCmd : Key.fam (Key.attestCmd) = 0x500101 := by
  decide

@[simp] theorem Key.fam_attestRes : Key.fam (Key.attestRes) = 0x500102 := by
  decide

@[simp] theorem Key.fam_laceActive : Key.fam (Key.laceActive) = 0x510001 := by
  decide

@[simp] theorem Key.fam_laceRepairs : Key.fam (Key.laceRepairs) = 0x510002 := by
  decide

@[simp] theorem Key.fam_campState {i : Nat} : Key.fam (Key.campState i) = 0x511001 := by
  unfold Key.campState
  split
  · rw [Key.fam_at_5110 (n := i) (s := 1) (by omega) (by omega) (by omega)]
  · decide

@[simp] theorem Key.fam_campImageAddr {i : Nat} : Key.fam (Key.campImageAddr i) = 0x511002 := by
  unfold Key.campImageAddr
  split
  · rw [Key.fam_at_5110 (n := i) (s := 2) (by omega) (by omega) (by omega)]
  · decide

@[simp] theorem Key.fam_campImageBytes {i : Nat} : Key.fam (Key.campImageBytes i) = 0x511003 := by
  unfold Key.campImageBytes
  split
  · rw [Key.fam_at_5110 (n := i) (s := 3) (by omega) (by omega) (by omega)]
  · decide

@[simp] theorem Key.fam_campTenant {i : Nat} : Key.fam (Key.campTenant i) = 0x511004 := by
  unfold Key.campTenant
  split
  · rw [Key.fam_at_5110 (n := i) (s := 4) (by omega) (by omega) (by omega)]
  · decide

@[simp] theorem Key.fam_campTargets {i : Nat} : Key.fam (Key.campTargets i) = 0x511005 := by
  unfold Key.campTargets
  split
  · rw [Key.fam_at_5110 (n := i) (s := 5) (by omega) (by omega) (by omega)]
  · decide

@[simp] theorem Key.fam_campCmd {i : Nat} : Key.fam (Key.campCmd i) = 0x511006 := by
  unfold Key.campCmd
  split
  · rw [Key.fam_at_5110 (n := i) (s := 6) (by omega) (by omega) (by omega)]
  · decide

@[simp] theorem Key.fam_campRes {i : Nat} : Key.fam (Key.campRes i) = 0x511007 := by
  unfold Key.campRes
  split
  · rw [Key.fam_at_5110 (n := i) (s := 7) (by omega) (by omega) (by omega)]
  · decide

@[simp] theorem Key.fam_campDone {i : Nat} : Key.fam (Key.campDone i) = 0x511008 := by
  unfold Key.campDone
  split
  · rw [Key.fam_at_5110 (n := i) (s := 8) (by omega) (by omega) (by omega)]
  · decide

@[simp] theorem Key.fam_campPending {i : Nat} : Key.fam (Key.campPending i) = 0x511009 := by
  unfold Key.campPending
  split
  · rw [Key.fam_at_5110 (n := i) (s := 9) (by omega) (by omega) (by omega)]
  · decide

@[simp] theorem Key.fam_treeActiveBank : Key.fam (Key.treeActiveBank) = 0x520001 := by
  decide

@[simp] theorem Key.fam_treeImage : Key.fam (Key.treeImage) = 0x520002 := by
  decide

@[simp] theorem Key.fam_treeVersionA : Key.fam (Key.treeVersionA) = 0x520003 := by
  decide

@[simp] theorem Key.fam_treeVersionB : Key.fam (Key.treeVersionB) = 0x520004 := by
  decide

@[simp] theorem Key.fam_treeSwitchCmd : Key.fam (Key.treeSwitchCmd) = 0x520005 := by
  decide

@[simp] theorem Key.fam_treeSwitchRes : Key.fam (Key.treeSwitchRes) = 0x520006 := by
  decide

@[simp] theorem Key.fam_seatOk : Key.fam (Key.seatOk) = 0x520007 := by
  decide

@[simp] theorem Key.fam_seatOkRes : Key.fam (Key.seatOkRes) = 0x520008 := by
  decide

@[simp] theorem Key.fam_seatWindowS : Key.fam (Key.seatWindowS) = 0x520009 := by
  decide

@[simp] theorem Key.fam_treeFallbacks : Key.fam (Key.treeFallbacks) = 0x52000A := by
  decide

@[simp] theorem Key.fam_bankWipeCmd : Key.fam (Key.bankWipeCmd) = 0x52000B := by
  decide

@[simp] theorem Key.fam_bankWipeRes : Key.fam (Key.bankWipeRes) = 0x52000C := by
  decide

@[simp] theorem Key.fam_conReader : Key.fam (Key.conReader) = 0x600001 := by
  decide

@[simp] theorem Key.fam_conProtocols : Key.fam (Key.conProtocols) = 0x600002 := by
  decide

@[simp] theorem Key.fam_conWtxCap : Key.fam (Key.conWtxCap) = 0x600003 := by
  decide

@[simp] theorem Key.fam_conLpcd : Key.fam (Key.conLpcd) = 0x600004 := by
  decide

@[simp] theorem Key.fam_conLpcdMs : Key.fam (Key.conLpcdMs) = 0x600005 := by
  decide

@[simp] theorem Key.fam_tagEnable : Key.fam (Key.tagEnable) = 0x600101 := by
  decide

@[simp] theorem Key.fam_tagState : Key.fam (Key.tagState) = 0x600102 := by
  decide

@[simp] theorem Key.fam_tagAuth : Key.fam (Key.tagAuth) = 0x600103 := by
  decide

@[simp] theorem Key.fam_tagPassword : Key.fam (Key.tagPassword) = 0x600104 := by
  decide

@[simp] theorem Key.fam_tagKeySlot : Key.fam (Key.tagKeySlot) = 0x600105 := by
  decide

@[simp] theorem Key.fam_tagNdef : Key.fam (Key.tagNdef) = 0x600106 := by
  decide

@[simp] theorem Key.fam_tagFdWake : Key.fam (Key.tagFdWake) = 0x600107 := by
  decide

@[simp] theorem Key.fam_tagAuthFails : Key.fam (Key.tagAuthFails) = 0x600108 := by
  decide

@[simp] theorem Key.fam_coreFreqMhz : Key.fam (Key.coreFreqMhz) = 0x700001 := by
  decide

@[simp] theorem Key.fam_coreState {i : Nat} : Key.fam (Key.coreState i) = 0x700101 := by
  unfold Key.coreState
  split
  · rw [Key.fam_at_7001 (n := i) (s := 1) (by omega) (by omega) (by omega)]
  · decide

@[simp] theorem Key.fam_coreImage {i : Nat} : Key.fam (Key.coreImage i) = 0x700102 := by
  unfold Key.coreImage
  split
  · rw [Key.fam_at_7001 (n := i) (s := 2) (by omega) (by omega) (by omega)]
  · decide

@[simp] theorem Key.fam_coreRunCmd {i : Nat} : Key.fam (Key.coreRunCmd i) = 0x700103 := by
  unfold Key.coreRunCmd
  split
  · rw [Key.fam_at_7001 (n := i) (s := 3) (by omega) (by omega) (by omega)]
  · decide

@[simp] theorem Key.fam_coreRunRes {i : Nat} : Key.fam (Key.coreRunRes i) = 0x700104 := by
  unfold Key.coreRunRes
  split
  · rw [Key.fam_at_7001 (n := i) (s := 4) (by omega) (by omega) (by omega)]
  · decide

@[simp] theorem Key.fam_coreLoadPct {i : Nat} : Key.fam (Key.coreLoadPct i) = 0x700105 := by
  unfold Key.coreLoadPct
  split
  · rw [Key.fam_at_7001 (n := i) (s := 5) (by omega) (by omega) (by omega)]
  · decide

@[simp] theorem Key.fam_coreExceptions {i : Nat} : Key.fam (Key.coreExceptions i) = 0x700106 := by
  unfold Key.coreExceptions
  split
  · rw [Key.fam_at_7001 (n := i) (s := 6) (by omega) (by omega) (by omega)]
  · decide

@[simp] theorem Key.fam_coreStoresLost {i : Nat} : Key.fam (Key.coreStoresLost i) = 0x700107 := by
  unfold Key.coreStoresLost
  split
  · rw [Key.fam_at_7001 (n := i) (s := 7) (by omega) (by omega) (by omega)]
  · decide

@[simp] theorem Key.fam_buckleSources : Key.fam (Key.buckleSources) = 0x702001 := by
  decide

@[simp] theorem Key.fam_srcTargets {i : Nat} : Key.fam (Key.srcTargets i) = 0x710001 := by
  unfold Key.srcTargets
  split
  · rw [Key.fam_at_7100 (n := i) (s := 1) (by omega) (by omega) (by omega)]
  · decide

@[simp] theorem Key.fam_srcEdge {i : Nat} : Key.fam (Key.srcEdge i) = 0x710002 := by
  unfold Key.srcEdge
  split
  · rw [Key.fam_at_7100 (n := i) (s := 2) (by omega) (by omega) (by omega)]
  · decide

@[simp] theorem Key.fam_srcEvents {i : Nat} : Key.fam (Key.srcEvents i) = 0x710003 := by
  unfold Key.srcEvents
  split
  · rw [Key.fam_at_7100 (n := i) (s := 3) (by omega) (by omega) (by omega)]
  · decide

end Sys2Proof.Machine
end

