-- ==== Sys2Proof/Laws/KMap.lean ====
section
/-! SUPPORT. Read after write of finite maps, and their canonical form. -/

namespace Sys2Proof

variable {α : Type}

theorem KMap.find_put_self (m : KMap α) (k : Nat) (v : α) : KMap.find (KMap.put m k v) k = some v := by
  induction m with
  | nil => simp [KMap.put, KMap.find]
  | cons p m ih =>
    obtain ⟨j, w⟩ := p
    unfold KMap.put
    split_ifs with h1 h2
    · simp [KMap.find]
    · simp [KMap.find]
    · have : ¬ j = k := fun h => h2 h.symm
      simp [KMap.find, this, ih]

theorem KMap.find_put_ne (m : KMap α) {k k' : Nat} (v : α) (h : k' ≠ k) : KMap.find (KMap.put m k v) k' = KMap.find m k' := by
  induction m with
  | nil => simp [KMap.put, KMap.find, Ne.symm h]
  | cons p m ih =>
    obtain ⟨j, w⟩ := p
    unfold KMap.put
    split_ifs with h1 h2
    · simp [KMap.find, Ne.symm h]
    · subst h2; simp [KMap.find, Ne.symm h]
    · simp [KMap.find, ih]

theorem KMap.find_drop_self (m : KMap α) (k : Nat) : KMap.find (KMap.drop m k) k = none := by
  induction m with
  | nil => simp [KMap.drop, KMap.find]
  | cons p m ih =>
    obtain ⟨j, w⟩ := p
    unfold KMap.drop
    split_ifs with h
    · exact ih
    · simp [KMap.find, h, ih]

theorem KMap.find_drop_ne (m : KMap α) {k k' : Nat} (h : k' ≠ k) : KMap.find (KMap.drop m k) k' = KMap.find m k' := by
  induction m with
  | nil => simp [KMap.drop, KMap.find]
  | cons p m ih =>
    obtain ⟨j, w⟩ := p
    unfold KMap.drop
    split_ifs with hj
    · subst hj; simp [KMap.find, Ne.symm h, ih]
    · simp [KMap.find, ih]

theorem KMap.getD_setD_self [DecidableEq α] (m : KMap α) (d : α) (k : Nat) (v : α) : KMap.getD (KMap.setD m d k v) d k = v := by
  unfold KMap.setD KMap.getD
  split_ifs with h
  · rw [KMap.find_drop_self]; exact h.symm
  · rw [KMap.find_put_self]

theorem KMap.getD_setD_ne [DecidableEq α] (m : KMap α) (d d' : α) {k k' : Nat} (v : α) (h : k' ≠ k) :
    KMap.getD (KMap.setD m d k v) d' k' = KMap.getD m d' k' := by
  unfold KMap.setD KMap.getD
  split_ifs
  · rw [KMap.find_drop_ne m h]
  · rw [KMap.find_put_ne m v h]

/-! ### Canonical form -/

theorem KMap.risesFrom_mono {m : KMap α} {a b : Nat} (h : a ≤ b) (hb : KMap.risesFrom b m = true) : KMap.risesFrom a m = true := by
  cases m with
  | nil => rfl
  | cons p m =>
    obtain ⟨j, w⟩ := p
    simp only [KMap.risesFrom, Bool.and_eq_true, decide_eq_true_eq] at hb ⊢
    exact ⟨le_trans h hb.1, hb.2⟩

theorem KMap.risesFrom_put {m : KMap α} {lo k : Nat} {v : α} (h : KMap.risesFrom lo m = true) (hk : lo ≤ k) :
    KMap.risesFrom lo (KMap.put m k v) = true := by
  induction m generalizing lo with
  | nil => simp [KMap.put, KMap.risesFrom, hk]
  | cons p m ih =>
    obtain ⟨j, w⟩ := p
    simp only [KMap.risesFrom, Bool.and_eq_true, decide_eq_true_eq] at h
    unfold KMap.put
    split_ifs with h1 h2
    · simp only [KMap.risesFrom, Bool.and_eq_true, decide_eq_true_eq]
      exact ⟨hk, h1, h.2⟩
    · subst h2
      simp only [KMap.risesFrom, Bool.and_eq_true, decide_eq_true_eq]
      exact ⟨hk, h.2⟩
    · simp only [KMap.risesFrom, Bool.and_eq_true, decide_eq_true_eq]
      exact ⟨h.1, ih h.2 (by omega)⟩

theorem KMap.risesFrom_drop {m : KMap α} {lo k : Nat} (h : KMap.risesFrom lo m = true) : KMap.risesFrom lo (KMap.drop m k) = true := by
  induction m generalizing lo with
  | nil => simp [KMap.drop, KMap.risesFrom]
  | cons p m ih =>
    obtain ⟨j, w⟩ := p
    simp only [KMap.risesFrom, Bool.and_eq_true, decide_eq_true_eq] at h
    unfold KMap.drop
    split_ifs with hj
    · exact KMap.risesFrom_mono (by omega) (ih h.2)
    · simp only [KMap.risesFrom, Bool.and_eq_true, decide_eq_true_eq]
      exact ⟨h.1, ih h.2⟩

theorem KMap.risesFrom_filter {m : KMap α} {lo : Nat} (p : Nat × α → Bool) (h : KMap.risesFrom lo m = true) :
    KMap.risesFrom lo (m.filter p) = true := by
  induction m generalizing lo with
  | nil => rfl
  | cons q m ih =>
    obtain ⟨j, w⟩ := q
    simp only [KMap.risesFrom, Bool.and_eq_true, decide_eq_true_eq] at h
    simp only [List.filter]
    split
    · simp only [KMap.risesFrom, Bool.and_eq_true, decide_eq_true_eq]
      exact ⟨h.1, ih h.2⟩
    · exact KMap.risesFrom_mono (by omega) (ih h.2)

theorem KMap.mem_put {m : KMap α} {k : Nat} {v : α} {q : Nat × α} (h : q ∈ KMap.put m k v) : q = (k, v) ∨ q ∈ m := by
  induction m with
  | nil => simpa [KMap.put] using h
  | cons p m ih =>
    obtain ⟨j, w⟩ := p
    unfold KMap.put at h
    split_ifs at h
    · simpa using h
    · simp only [List.mem_cons] at h ⊢; tauto
    · simp only [List.mem_cons] at h ⊢
      rcases h with h | h
      · exact .inr (.inl h)
      · rcases ih h with h | h
        · exact .inl h
        · exact .inr (.inr h)

theorem KMap.mem_drop {m : KMap α} {k : Nat} {q : Nat × α} (h : q ∈ KMap.drop m k) : q ∈ m := by
  induction m with
  | nil => simp [KMap.drop] at h
  | cons p m ih =>
    obtain ⟨j, w⟩ := p
    unfold KMap.drop at h
    split_ifs at h
    · exact List.mem_cons_of_mem _ (ih h)
    · simp only [List.mem_cons] at h ⊢
      rcases h with h | h
      · exact .inl h
      · exact .inr (ih h)

/-- Writing a byte keeps the canonical form of a memory. -/
theorem KMap.canon_setD [DecidableEq α] {d : α} {m : KMap α} (k : Nat) (v : α) (h : KMap.canon (fun _ => d) m = true) :
    KMap.canon (fun _ => d) (KMap.setD m d k v) = true := by
  simp only [KMap.canon, KMap.rises, Bool.and_eq_true, List.all_eq_true, decide_eq_true_eq] at h ⊢
  unfold KMap.setD
  split_ifs with hv
  · exact ⟨KMap.risesFrom_drop h.1, fun q hq => h.2 q (KMap.mem_drop hq)⟩
  · refine ⟨KMap.risesFrom_put h.1 (Nat.zero_le _), fun q hq => ?_⟩
    rcases KMap.mem_put hq with rfl | hq
    · exact hv
    · exact h.2 q hq

/-- Taking entries away keeps the canonical form. -/
theorem KMap.canon_filter [DecidableEq α] {d : Nat → α} {m : KMap α} (p : Nat × α → Bool) (h : KMap.canon d m = true) :
    KMap.canon d (m.filter p) = true := by
  simp only [KMap.canon, KMap.rises, Bool.and_eq_true, List.all_eq_true, decide_eq_true_eq] at h ⊢
  exact ⟨KMap.risesFrom_filter p h.1, fun q hq => h.2 q (List.mem_of_mem_filter hq)⟩

end Sys2Proof
end

