-- ==== Sys2Proof/Laws/Frame.lean ====
section
/-! SUPPORT. What an operation leaves alone, said once per operation: `(f s).outside M = r` where `s.outside M = r` says that f changes no
part of the state but those that M names. The parts that an operation may change are the hypotheses of its lemma. This file holds the
steps that every such proof is made of. -/

namespace Sys2Proof.Machine

/-- No number is among the chosen parts. -/
def Touch.quiet (M : Touch) : Bool := !M.anyNum && M.nums.isEmpty

/-- The chosen parts as they are after reset, all of the numbers or none of them among them. -/
def State.rest (M : Touch) (s : State) : State :=
  { s.outside M with dict := { (s.outside M).dict with nums := cond M.anyNum State.reset.dict.nums s.dict.nums } }

/-- A family of numbers is among the chosen parts. -/
def Touch.Num (M : Touch) (f : Nat) : Prop := (M.anyNum || M.nums.contains f) = true

/-- The families of a list are among the chosen parts. -/
def Touch.Nums (M : Touch) (l : List Nat) : Prop := (M.anyNum || l.all M.nums.contains) = true

/-- A rising list holds each number of another. -/
def subNums : List Nat → List Nat → Bool
  | [], _ => true
  | _ :: _, [] => false
  | x :: xs, y :: ys => if x = y then subNums xs ys else subNums (x :: xs) ys

theorem subNums_mem {a b : List Nat} (h : subNums a b = true) : ∀ x ∈ a, x ∈ b := by
  induction b generalizing a with
  | nil =>
    cases a with
    | nil => simp
    | cons x xs => exact absurd h (by simp [subNums])
  | cons y ys ih =>
    cases a with
    | nil => simp
    | cons x xs =>
      unfold subNums at h
      split at h
      · rename_i e
        intro z hz
        rcases List.mem_cons.mp hz with rfl | hz
        · exact e ▸ List.mem_cons_self
        · exact List.mem_cons_of_mem _ (ih h z hz)
      · intro z hz
        exact List.mem_cons_of_mem _ (ih h z hz)

theorem Touch.Num.any {M : Touch} {f : Nat} (h : M.anyNum = true) : M.Num f := by simp [Touch.Num, h]

theorem Touch.Nums.any {M : Touch} {l : List Nat} (h : M.anyNum = true) : M.Nums l := by simp [Touch.Nums, h]

theorem Touch.Nums.at {M : Touch} {l : List Nat} {f c : Nat} (h : M.Nums l) (e : f = c) (m : l.contains c = true) : M.Num f := by
  subst e
  unfold Touch.Nums at h
  unfold Touch.Num
  cases hm : M.anyNum with
  | true => rfl
  | false =>
    rw [hm, Bool.false_or] at h
    exact List.all_eq_true.mp h _ (List.contains_iff_mem.mp m)

theorem Touch.Nums.sub {M : Touch} {l k : List Nat} (h : M.Nums l) (m : subNums k l = true) : M.Nums k := by
  unfold Touch.Nums at h ⊢
  cases hm : M.anyNum with
  | true => rfl
  | false =>
    rw [hm, Bool.false_or] at h
    rw [Bool.false_or]
    exact List.all_eq_true.mpr (fun x hx => List.all_eq_true.mp h x (subNums_mem m x hx))

theorem State.dict_nums_of_outside {M : Touch} {s t : State} (h : t.outside M = s.outside M) (hM : M.quiet = true) : t.dict.nums = s.dict.nums := by
  unfold Touch.quiet at hM
  rw [Bool.and_eq_true, Bool.not_eq_true'] at hM
  have e := congrArg (fun x : State => x.dict.nums) h
  simp only [State.outside, hM.1, cond_false, List.isEmpty_iff.mp hM.2, List.contains_nil, Bool.not_false, List.filter_true] at e
  exact e

theorem find_filter {α : Type} (m : KMap α) (p : Nat → Bool) {k : Nat} (h : p k = true) :
    KMap.find (m.filter (fun q => p q.1)) k = KMap.find m k := by
  induction m with
  | nil => rfl
  | cons q m ih =>
    obtain ⟨j, v⟩ := q
    by_cases hj : p j = true
    · rw [List.filter_cons_of_pos (by exact hj)]
      simp only [KMap.find, ih]
    · rw [List.filter_cons_of_neg (by exact hj), ih]
      have : j ≠ k := fun e => hj (e ▸ h)
      simp only [KMap.find, this, if_false]

theorem filter_put {α : Type} (m : KMap α) (p : Nat → Bool) {k : Nat} {v : α} (h : p k = false) :
    (KMap.put m k v).filter (fun q => p q.1) = m.filter (fun q => p q.1) := by
  induction m with
  | nil => simp [KMap.put, h]
  | cons q m ih =>
    obtain ⟨j, w⟩ := q
    unfold KMap.put
    split
    · rw [List.filter_cons_of_neg (by simp [h])]
    · split
      · rename_i e
        subst e
        rw [List.filter_cons_of_neg (by simp [h]), List.filter_cons_of_neg (by simp [h])]
      · rw [List.filter_cons, List.filter_cons, ih]

theorem filter_drop {α : Type} (m : KMap α) (p : Nat → Bool) {k : Nat} (h : p k = false) :
    (KMap.drop m k).filter (fun q => p q.1) = m.filter (fun q => p q.1) := by
  induction m with
  | nil => rfl
  | cons q m ih =>
    obtain ⟨j, w⟩ := q
    unfold KMap.drop
    split
    · rename_i e
      subst e
      rw [ih, List.filter_cons_of_neg (by simp [h])]
    · rw [List.filter_cons, List.filter_cons, ih]

/-- A number outside the chosen families reads the same. -/
theorem State.rd_of_outside {M : Touch} {s t : State} {k : Nat} (h : t.outside M = s.outside M) (ha : M.anyNum = false)
    (hk : M.nums.contains (Key.fam k) = false) : t.rd k = s.rd k := by
  have e := congrArg (fun x : State => x.dict.nums) h
  simp only [State.outside, ha, cond_false] at e
  have h1 := find_filter t.dict.nums (fun j => !M.nums.contains (Key.fam j)) (k := k) (by simp only [hk, Bool.not_false])
  have h2 := find_filter s.dict.nums (fun j => !M.nums.contains (Key.fam j)) (k := k) (by simp only [hk, Bool.not_false])
  unfold State.rd KMap.getD
  rw [← h1, ← h2]
  simp only [e]

theorem State.wr_outside {M : Touch} {r : State} {s : State} {k : Nat} {v : Nat} (hNums : M.Num (Key.fam k)) (hs : s.outside M = r) :
    (State.wr s k v).outside M = r := by
  subst hs
  unfold Touch.Num at hNums
  simp only [State.wr, State.outside]
  cases hm : M.anyNum with
  | true => simp only [cond_true]
  | false =>
    rw [hm, Bool.false_or] at hNums
    have h : (fun j => !M.nums.contains (Key.fam j)) k = false := by simp only [hNums, Bool.not_true]
    have h' : (KMap.setD s.dict.nums (dflt k) k v).filter (fun p => !M.nums.contains (Key.fam p.1)) = s.dict.nums.filter (fun p => !M.nums.contains (Key.fam p.1)) := by
      unfold KMap.setD
      split
      · exact filter_drop _ (fun j => !M.nums.contains (Key.fam j)) h
      · exact filter_put _ (fun j => !M.nums.contains (Key.fam j)) h
    simp only [cond_false, h']

/-- Every part but the numbers outside a list of families. -/
def Touch.but (l : List Nat) : Touch := { pending := true, draws := true, out := true, ident := true, fuses := true, pins := true, clock := true, pulses := true, chain := true, chainPorts := true, dict := true, doms := true, results := true, logs := true, power := true, vbat := true, radio := true, ports := true, rxTiles := true, txTiles := true, girth := true, recs := true, sched := true, cinch := true, keeper := true, sb := true, straps := true, journal := true, attached := true, nodeQueues := true, tables := true, windows := true, halter := true, har := true, queues := true, arrivals := true, lacing := true, tree := true, curb := true, concho := true, cores := true, locals := true, buckle := true, edges := true, host := true, flags := true, reports := true, nums := l }

theorem Touch.Nums.self {l : List Nat} : (Touch.but l).Nums l := by
  simp [Touch.Nums, Touch.but]

theorem State.pending_of_outside {M : Touch} {s t : State} (h : t.outside M = s.outside M) (hM : M.pending = false) : t.pending = s.pending := by
  have e := congrArg State.pending h
  simp only [State.outside, hM, cond_false] at e
  exact e

theorem State.draws_of_outside {M : Touch} {s t : State} (h : t.outside M = s.outside M) (hM : M.draws = false) : t.draws = s.draws := by
  have e := congrArg State.draws h
  simp only [State.outside, hM, cond_false] at e
  exact e

theorem State.out_of_outside {M : Touch} {s t : State} (h : t.outside M = s.outside M) (hM : M.out = false) : t.out = s.out := by
  have e := congrArg State.out h
  simp only [State.outside, hM, cond_false] at e
  exact e

theorem State.ident_of_outside {M : Touch} {s t : State} (h : t.outside M = s.outside M) (hM : M.ident = false) : t.ident = s.ident := by
  have e := congrArg State.ident h
  simp only [State.outside, hM, cond_false] at e
  exact e

theorem State.fuses_of_outside {M : Touch} {s t : State} (h : t.outside M = s.outside M) (hM : M.fuses = false) : t.fuses = s.fuses := by
  have e := congrArg State.fuses h
  simp only [State.outside, hM, cond_false] at e
  exact e

theorem State.pins_of_outside {M : Touch} {s t : State} (h : t.outside M = s.outside M) (hM : M.pins = false) : t.pins = s.pins := by
  have e := congrArg State.pins h
  simp only [State.outside, hM, cond_false] at e
  exact e

theorem State.clock_of_outside {M : Touch} {s t : State} (h : t.outside M = s.outside M) (hM : M.clock = false) : t.clock = s.clock := by
  have e := congrArg State.clock h
  simp only [State.outside, hM, cond_false] at e
  exact e

theorem State.pulses_of_outside {M : Touch} {s t : State} (h : t.outside M = s.outside M) (hM : M.pulses = false) : t.pulses = s.pulses := by
  have e := congrArg State.pulses h
  simp only [State.outside, hM, cond_false] at e
  exact e

theorem State.chain_portUp_of_outside {M : Touch} {s t : State} (h : t.outside M = s.outside M) (hM : M.chainPorts = false) :
    t.chain.portUp = s.chain.portUp := by
  have e := congrArg (fun x : State => x.chain.portUp) h
  simp only [State.outside, hM, cond_false] at e
  exact e

theorem State.chain_portDn_of_outside {M : Touch} {s t : State} (h : t.outside M = s.outside M) (hM : M.chainPorts = false) :
    t.chain.portDn = s.chain.portDn := by
  have e := congrArg (fun x : State => x.chain.portDn) h
  simp only [State.outside, hM, cond_false] at e
  exact e

theorem State.chain_topo_of_outside {M : Touch} {s t : State} (h : t.outside M = s.outside M) (hM : M.chain = false) :
    t.chain.topo = s.chain.topo := by
  have e := congrArg (fun x : State => x.chain.topo) h
  simp only [State.outside, hM, cond_false] at e
  exact e

theorem State.chain_enumRun_of_outside {M : Touch} {s t : State} (h : t.outside M = s.outside M) (hM : M.chain = false) :
    t.chain.enumRun = s.chain.enumRun := by
  have e := congrArg (fun x : State => x.chain.enumRun) h
  simp only [State.outside, hM, cond_false] at e
  exact e

theorem State.chain_claim_of_outside {M : Touch} {s t : State} (h : t.outside M = s.outside M) (hM : M.chain = false) :
    t.chain.claim = s.chain.claim := by
  have e := congrArg (fun x : State => x.chain.claim) h
  simp only [State.outside, hM, cond_false] at e
  exact e

theorem State.chain_headAt_of_outside {M : Touch} {s t : State} (h : t.outside M = s.outside M) (hM : M.chain = false) :
    t.chain.headAt = s.chain.headAt := by
  have e := congrArg (fun x : State => x.chain.headAt) h
  simp only [State.outside, hM, cond_false] at e
  exact e

theorem State.chain_fullOwed_of_outside {M : Touch} {s t : State} (h : t.outside M = s.outside M) (hM : M.chain = false) :
    t.chain.fullOwed = s.chain.fullOwed := by
  have e := congrArg (fun x : State => x.chain.fullOwed) h
  simp only [State.outside, hM, cond_false] at e
  exact e

theorem State.chain_nextTag_of_outside {M : Touch} {s t : State} (h : t.outside M = s.outside M) (hM : M.chain = false) :
    t.chain.nextTag = s.chain.nextTag := by
  have e := congrArg (fun x : State => x.chain.nextTag) h
  simp only [State.outside, hM, cond_false] at e
  exact e

theorem State.chain_opens_of_outside {M : Touch} {s t : State} (h : t.outside M = s.outside M) (hM : M.chain = false) :
    t.chain.opens = s.chain.opens := by
  have e := congrArg (fun x : State => x.chain.opens) h
  simp only [State.outside, hM, cond_false] at e
  exact e

theorem State.chain_late_of_outside {M : Touch} {s t : State} (h : t.outside M = s.outside M) (hM : M.chain = false) :
    t.chain.late = s.chain.late := by
  have e := congrArg (fun x : State => x.chain.late) h
  simp only [State.outside, hM, cond_false] at e
  exact e

theorem State.chain_of_outside {M : Touch} {s t : State} (h : t.outside M = s.outside M) (h0 : M.chain = false) (h1 : M.chainPorts = false) :
    t.chain = s.chain := by
  have e := congrArg State.chain h
  simp only [State.outside, h0, h1, cond_false] at e
  exact e

theorem State.dict_doms_of_outside {M : Touch} {s t : State} (h : t.outside M = s.outside M) (hM : M.doms = false) :
    t.dict.doms = s.dict.doms := by
  have e := congrArg (fun x : State => x.dict.doms) h
  simp only [State.outside, hM, cond_false] at e
  exact e

theorem State.dict_results_of_outside {M : Touch} {s t : State} (h : t.outside M = s.outside M) (hM : M.results = false) :
    t.dict.results = s.dict.results := by
  have e := congrArg (fun x : State => x.dict.results) h
  simp only [State.outside, hM, cond_false] at e
  exact e

theorem State.dict_ready_of_outside {M : Touch} {s t : State} (h : t.outside M = s.outside M) (hM : M.dict = false) :
    t.dict.ready = s.dict.ready := by
  have e := congrArg (fun x : State => x.dict.ready) h
  simp only [State.outside, hM, cond_false] at e
  exact e

theorem State.dict_clampLog_of_outside {M : Touch} {s t : State} (h : t.outside M = s.outside M) (hM : M.logs = false) :
    t.dict.clampLog = s.dict.clampLog := by
  have e := congrArg (fun x : State => x.dict.clampLog) h
  simp only [State.outside, hM, cond_false] at e
  exact e

theorem State.dict_errLog_of_outside {M : Touch} {s t : State} (h : t.outside M = s.outside M) (hM : M.logs = false) :
    t.dict.errLog = s.dict.errLog := by
  have e := congrArg (fun x : State => x.dict.errLog) h
  simp only [State.outside, hM, cond_false] at e
  exact e

theorem State.dict_alarmAt_of_outside {M : Touch} {s t : State} (h : t.outside M = s.outside M) (hM : M.dict = false) :
    t.dict.alarmAt = s.dict.alarmAt := by
  have e := congrArg (fun x : State => x.dict.alarmAt) h
  simp only [State.outside, hM, cond_false] at e
  exact e

theorem State.dict_stored_of_outside {M : Touch} {s t : State} (h : t.outside M = s.outside M) (hM : M.dict = false) :
    t.dict.stored = s.dict.stored := by
  have e := congrArg (fun x : State => x.dict.stored) h
  simp only [State.outside, hM, cond_false] at e
  exact e

theorem State.dict_waiting_of_outside {M : Touch} {s t : State} (h : t.outside M = s.outside M) (hM : M.dict = false) :
    t.dict.waiting = s.dict.waiting := by
  have e := congrArg (fun x : State => x.dict.waiting) h
  simp only [State.outside, hM, cond_false] at e
  exact e

theorem State.dict_held_of_outside {M : Touch} {s t : State} (h : t.outside M = s.outside M) (hM : M.dict = false) :
    t.dict.held = s.dict.held := by
  have e := congrArg (fun x : State => x.dict.held) h
  simp only [State.outside, hM, cond_false] at e
  exact e

theorem State.dict_subs_of_outside {M : Touch} {s t : State} (h : t.outside M = s.outside M) (hM : M.dict = false) :
    t.dict.subs = s.dict.subs := by
  have e := congrArg (fun x : State => x.dict.subs) h
  simp only [State.outside, hM, cond_false] at e
  exact e

theorem State.dict_transfers_of_outside {M : Touch} {s t : State} (h : t.outside M = s.outside M) (hM : M.dict = false) :
    t.dict.transfers = s.dict.transfers := by
  have e := congrArg (fun x : State => x.dict.transfers) h
  simp only [State.outside, hM, cond_false] at e
  exact e

theorem State.dict_txn_of_outside {M : Touch} {s t : State} (h : t.outside M = s.outside M) (hM : M.dict = false) :
    t.dict.txn = s.dict.txn := by
  have e := congrArg (fun x : State => x.dict.txn) h
  simp only [State.outside, hM, cond_false] at e
  exact e

theorem State.dict_outcomes_of_outside {M : Touch} {s t : State} (h : t.outside M = s.outside M) (hM : M.dict = false) :
    t.dict.outcomes = s.dict.outcomes := by
  have e := congrArg (fun x : State => x.dict.outcomes) h
  simp only [State.outside, hM, cond_false] at e
  exact e

theorem State.dict_graces_of_outside {M : Touch} {s t : State} (h : t.outside M = s.outside M) (hM : M.dict = false) :
    t.dict.graces = s.dict.graces := by
  have e := congrArg (fun x : State => x.dict.graces) h
  simp only [State.outside, hM, cond_false] at e
  exact e

theorem State.dict_bankC_of_outside {M : Touch} {s t : State} (h : t.outside M = s.outside M) (hM : M.dict = false) :
    t.dict.bankC = s.dict.bankC := by
  have e := congrArg (fun x : State => x.dict.bankC) h
  simp only [State.outside, hM, cond_false] at e
  exact e

theorem State.dict_storing_of_outside {M : Touch} {s t : State} (h : t.outside M = s.outside M) (hM : M.dict = false) :
    t.dict.storing = s.dict.storing := by
  have e := congrArg (fun x : State => x.dict.storing) h
  simp only [State.outside, hM, cond_false] at e
  exact e

theorem State.dict_nextReq_of_outside {M : Touch} {s t : State} (h : t.outside M = s.outside M) (hM : M.dict = false) :
    t.dict.nextReq = s.dict.nextReq := by
  have e := congrArg (fun x : State => x.dict.nextReq) h
  simp only [State.outside, hM, cond_false] at e
  exact e

theorem State.dict_asked_of_outside {M : Touch} {s t : State} (h : t.outside M = s.outside M) (hM : M.dict = false) :
    t.dict.asked = s.dict.asked := by
  have e := congrArg (fun x : State => x.dict.asked) h
  simp only [State.outside, hM, cond_false] at e
  exact e

theorem State.dict_of_outside {M : Touch} {s t : State} (h : t.outside M = s.outside M) (h0 : M.dict = false) (h1 : M.quiet = true) (h2 : M.doms = false) (h3 : M.results = false) (h4 : M.logs = false) :
    t.dict = s.dict := by
  have n := State.dict_nums_of_outside h h1
  have e := congrArg State.dict h
  simp only [State.outside, h0, h2, h3, h4, cond_false, Dictionary.mk.injEq] at e
  have a : t.dict = ⟨t.dict.nums, t.dict.doms, t.dict.results, t.dict.ready, t.dict.clampLog, t.dict.errLog, t.dict.alarmAt, t.dict.stored, t.dict.waiting, t.dict.held, t.dict.subs, t.dict.transfers, t.dict.txn, t.dict.outcomes, t.dict.graces, t.dict.bankC, t.dict.storing, t.dict.nextReq, t.dict.asked⟩ := rfl
  have b : s.dict = ⟨s.dict.nums, s.dict.doms, s.dict.results, s.dict.ready, s.dict.clampLog, s.dict.errLog, s.dict.alarmAt, s.dict.stored, s.dict.waiting, s.dict.held, s.dict.subs, s.dict.transfers, s.dict.txn, s.dict.outcomes, s.dict.graces, s.dict.bankC, s.dict.storing, s.dict.nextReq, s.dict.asked⟩ := rfl
  rw [a, b]
  simp only [e, n]

theorem State.power_of_outside {M : Touch} {s t : State} (h : t.outside M = s.outside M) (hM : M.power = false) : t.power = s.power := by
  have e := congrArg State.power h
  simp only [State.outside, hM, cond_false] at e
  exact e

theorem State.vbat_of_outside {M : Touch} {s t : State} (h : t.outside M = s.outside M) (hM : M.vbat = false) : t.vbat = s.vbat := by
  have e := congrArg State.vbat h
  simp only [State.outside, hM, cond_false] at e
  exact e

theorem State.radio_ports_of_outside {M : Touch} {s t : State} (h : t.outside M = s.outside M) (hM : M.ports = false) :
    t.radio.ports = s.radio.ports := by
  have e := congrArg (fun x : State => x.radio.ports) h
  simp only [State.outside, hM, cond_false] at e
  exact e

theorem State.radio_rx_of_outside {M : Touch} {s t : State} (h : t.outside M = s.outside M) (hM : M.rxTiles = false) :
    t.radio.rx = s.radio.rx := by
  have e := congrArg (fun x : State => x.radio.rx) h
  simp only [State.outside, hM, cond_false] at e
  exact e

theorem State.radio_tx_of_outside {M : Touch} {s t : State} (h : t.outside M = s.outside M) (hM : M.txTiles = false) :
    t.radio.tx = s.radio.tx := by
  have e := congrArg (fun x : State => x.radio.tx) h
  simp only [State.outside, hM, cond_false] at e
  exact e

theorem State.radio_cal_of_outside {M : Touch} {s t : State} (h : t.outside M = s.outside M) (hM : M.radio = false) :
    t.radio.cal = s.radio.cal := by
  have e := congrArg (fun x : State => x.radio.cal) h
  simp only [State.outside, hM, cond_false] at e
  exact e

theorem State.radio_locking_of_outside {M : Touch} {s t : State} (h : t.outside M = s.outside M) (hM : M.radio = false) :
    t.radio.locking = s.radio.locking := by
  have e := congrArg (fun x : State => x.radio.locking) h
  simp only [State.outside, hM, cond_false] at e
  exact e

theorem State.radio_duty_of_outside {M : Touch} {s t : State} (h : t.outside M = s.outside M) (hM : M.radio = false) :
    t.radio.duty = s.radio.duty := by
  have e := congrArg (fun x : State => x.radio.duty) h
  simp only [State.outside, hM, cond_false] at e
  exact e

theorem State.radio_dutyMin_of_outside {M : Touch} {s t : State} (h : t.outside M = s.outside M) (hM : M.radio = false) :
    t.radio.dutyMin = s.radio.dutyMin := by
  have e := congrArg (fun x : State => x.radio.dutyMin) h
  simp only [State.outside, hM, cond_false] at e
  exact e

theorem State.radio_dup_of_outside {M : Touch} {s t : State} (h : t.outside M = s.outside M) (hM : M.radio = false) :
    t.radio.dup = s.radio.dup := by
  have e := congrArg (fun x : State => x.radio.dup) h
  simp only [State.outside, hM, cond_false] at e
  exact e

theorem State.radio_bsQueue_of_outside {M : Touch} {s t : State} (h : t.outside M = s.outside M) (hM : M.radio = false) :
    t.radio.bsQueue = s.radio.bsQueue := by
  have e := congrArg (fun x : State => x.radio.bsQueue) h
  simp only [State.outside, hM, cond_false] at e
  exact e

theorem State.radio_bsEngines_of_outside {M : Touch} {s t : State} (h : t.outside M = s.outside M) (hM : M.radio = false) :
    t.radio.bsEngines = s.radio.bsEngines := by
  have e := congrArg (fun x : State => x.radio.bsEngines) h
  simp only [State.outside, hM, cond_false] at e
  exact e

theorem State.radio_of_outside {M : Touch} {s t : State} (h : t.outside M = s.outside M) (h0 : M.radio = false) (h1 : M.ports = false) (h2 : M.rxTiles = false) (h3 : M.txTiles = false) :
    t.radio = s.radio := by
  have e := congrArg State.radio h
  simp only [State.outside, h0, h1, h2, h3, cond_false] at e
  exact e

theorem State.girth_recs_of_outside {M : Touch} {s t : State} (h : t.outside M = s.outside M) (hM : M.recs = false) :
    t.girth.recs = s.girth.recs := by
  have e := congrArg (fun x : State => x.girth.recs) h
  simp only [State.outside, hM, cond_false] at e
  exact e

theorem State.girth_forwards_of_outside {M : Touch} {s t : State} (h : t.outside M = s.outside M) (hM : M.girth = false) :
    t.girth.forwards = s.girth.forwards := by
  have e := congrArg (fun x : State => x.girth.forwards) h
  simp only [State.outside, hM, cond_false] at e
  exact e

theorem State.girth_casts_of_outside {M : Touch} {s t : State} (h : t.outside M = s.outside M) (hM : M.girth = false) :
    t.girth.casts = s.girth.casts := by
  have e := congrArg (fun x : State => x.girth.casts) h
  simp only [State.outside, hM, cond_false] at e
  exact e

theorem State.girth_sched_of_outside {M : Touch} {s t : State} (h : t.outside M = s.outside M) (hM : M.sched = false) :
    t.girth.sched = s.girth.sched := by
  have e := congrArg (fun x : State => x.girth.sched) h
  simp only [State.outside, hM, cond_false] at e
  exact e

theorem State.girth_cinch_of_outside {M : Touch} {s t : State} (h : t.outside M = s.outside M) (hM : M.cinch = false) :
    t.girth.cinch = s.girth.cinch := by
  have e := congrArg (fun x : State => x.girth.cinch) h
  simp only [State.outside, hM, cond_false] at e
  exact e

theorem State.girth_of_outside {M : Touch} {s t : State} (h : t.outside M = s.outside M) (h0 : M.girth = false) (h1 : M.recs = false) (h2 : M.sched = false) (h3 : M.cinch = false) :
    t.girth = s.girth := by
  have e := congrArg State.girth h
  simp only [State.outside, h0, h1, h2, h3, cond_false] at e
  exact e

theorem State.keeper_of_outside {M : Touch} {s t : State} (h : t.outside M = s.outside M) (hM : M.keeper = false) : t.keeper = s.keeper := by
  have e := congrArg State.keeper h
  simp only [State.outside, hM, cond_false] at e
  exact e

theorem State.sb_mem_of_outside {M : Touch} {s t : State} (h : t.outside M = s.outside M) (hM : M.attached = false) :
    t.sb.mem = s.sb.mem := by
  have e := congrArg (fun x : State => x.sb.mem) h
  simp only [State.outside, hM, cond_false] at e
  exact e

theorem State.sb_outstanding_of_outside {M : Touch} {s t : State} (h : t.outside M = s.outside M) (hM : M.sb = false) :
    t.sb.outstanding = s.sb.outstanding := by
  have e := congrArg (fun x : State => x.sb.outstanding) h
  simp only [State.outside, hM, cond_false] at e
  exact e

theorem State.sb_waiting_of_outside {M : Touch} {s t : State} (h : t.outside M = s.outside M) (hM : M.sb = false) :
    t.sb.waiting = s.sb.waiting := by
  have e := congrArg (fun x : State => x.sb.waiting) h
  simp only [State.outside, hM, cond_false] at e
  exact e

theorem State.sb_layout_of_outside {M : Touch} {s t : State} (h : t.outside M = s.outside M) (hM : M.sb = false) :
    t.sb.layout = s.sb.layout := by
  have e := congrArg (fun x : State => x.sb.layout) h
  simp only [State.outside, hM, cond_false] at e
  exact e

theorem State.sb_since_of_outside {M : Touch} {s t : State} (h : t.outside M = s.outside M) (hM : M.sb = false) :
    t.sb.since = s.sb.since := by
  have e := congrArg (fun x : State => x.sb.since) h
  simp only [State.outside, hM, cond_false] at e
  exact e

theorem State.sb_fresh_of_outside {M : Touch} {s t : State} (h : t.outside M = s.outside M) (hM : M.sb = false) :
    t.sb.fresh = s.sb.fresh := by
  have e := congrArg (fun x : State => x.sb.fresh) h
  simp only [State.outside, hM, cond_false] at e
  exact e

theorem State.sb_queues_of_outside {M : Touch} {s t : State} (h : t.outside M = s.outside M) (hM : M.straps = false) :
    t.sb.queues = s.sb.queues := by
  have e := congrArg (fun x : State => x.sb.queues) h
  simp only [State.outside, hM, cond_false] at e
  exact e

theorem State.sb_nodes_of_outside {M : Touch} {s t : State} (h : t.outside M = s.outside M) (hM : M.nodeQueues = false) :
    t.sb.nodes = s.sb.nodes := by
  have e := congrArg (fun x : State => x.sb.nodes) h
  simp only [State.outside, hM, cond_false] at e
  exact e

theorem State.sb_compare_of_outside {M : Touch} {s t : State} (h : t.outside M = s.outside M) (hM : M.sb = false) :
    t.sb.compare = s.sb.compare := by
  have e := congrArg (fun x : State => x.sb.compare) h
  simp only [State.outside, hM, cond_false] at e
  exact e

theorem State.sb_flushLeft_of_outside {M : Touch} {s t : State} (h : t.outside M = s.outside M) (hM : M.sb = false) :
    t.sb.flushLeft = s.sb.flushLeft := by
  have e := congrArg (fun x : State => x.sb.flushLeft) h
  simp only [State.outside, hM, cond_false] at e
  exact e

theorem State.sb_journal_of_outside {M : Touch} {s t : State} (h : t.outside M = s.outside M) (hM : M.journal = false) :
    t.sb.journal = s.sb.journal := by
  have e := congrArg (fun x : State => x.sb.journal) h
  simp only [State.outside, hM, cond_false] at e
  exact e

theorem State.sb_of_outside {M : Touch} {s t : State} (h : t.outside M = s.outside M) (h0 : M.sb = false) (h1 : M.straps = false) (h2 : M.journal = false) (h3 : M.attached = false) (h4 : M.nodeQueues = false) :
    t.sb = s.sb := by
  have e := congrArg State.sb h
  simp only [State.outside, h0, h1, h2, h3, h4, cond_false] at e
  exact e

theorem State.tables_prefixes_of_outside {M : Touch} {s t : State} (h : t.outside M = s.outside M) (hM : M.tables = false) :
    t.tables.prefixes = s.tables.prefixes := by
  have e := congrArg (fun x : State => x.tables.prefixes) h
  simp only [State.outside, hM, cond_false] at e
  exact e

theorem State.tables_badWords_of_outside {M : Touch} {s t : State} (h : t.outside M = s.outside M) (hM : M.tables = false) :
    t.tables.badWords = s.tables.badWords := by
  have e := congrArg (fun x : State => x.tables.badWords) h
  simp only [State.outside, hM, cond_false] at e
  exact e

theorem State.tables_nextHops_of_outside {M : Touch} {s t : State} (h : t.outside M = s.outside M) (hM : M.tables = false) :
    t.tables.nextHops = s.tables.nextHops := by
  have e := congrArg (fun x : State => x.tables.nextHops) h
  simp only [State.outside, hM, cond_false] at e
  exact e

theorem State.tables_copyLists_of_outside {M : Touch} {s t : State} (h : t.outside M = s.outside M) (hM : M.tables = false) :
    t.tables.copyLists = s.tables.copyLists := by
  have e := congrArg (fun x : State => x.tables.copyLists) h
  simp only [State.outside, hM, cond_false] at e
  exact e

theorem State.tables_halter_of_outside {M : Touch} {s t : State} (h : t.outside M = s.outside M) (hM : M.halter = false) :
    t.tables.halter = s.tables.halter := by
  have e := congrArg (fun x : State => x.tables.halter) h
  simp only [State.outside, hM, cond_false] at e
  exact e

theorem State.tables_overflow_of_outside {M : Touch} {s t : State} (h : t.outside M = s.outside M) (hM : M.halter = false) :
    t.tables.overflow = s.tables.overflow := by
  have e := congrArg (fun x : State => x.tables.overflow) h
  simp only [State.outside, hM, cond_false] at e
  exact e

theorem State.tables_badWays_of_outside {M : Touch} {s t : State} (h : t.outside M = s.outside M) (hM : M.tables = false) :
    t.tables.badWays = s.tables.badWays := by
  have e := congrArg (fun x : State => x.tables.badWays) h
  simp only [State.outside, hM, cond_false] at e
  exact e

theorem State.tables_badOverflow_of_outside {M : Touch} {s t : State} (h : t.outside M = s.outside M) (hM : M.tables = false) :
    t.tables.badOverflow = s.tables.badOverflow := by
  have e := congrArg (fun x : State => x.tables.badOverflow) h
  simp only [State.outside, hM, cond_false] at e
  exact e

theorem State.tables_ageNext_of_outside {M : Touch} {s t : State} (h : t.outside M = s.outside M) (hM : M.tables = false) :
    t.tables.ageNext = s.tables.ageNext := by
  have e := congrArg (fun x : State => x.tables.ageNext) h
  simp only [State.outside, hM, cond_false] at e
  exact e

theorem State.tables_lfsr_of_outside {M : Touch} {s t : State} (h : t.outside M = s.outside M) (hM : M.halter = false) :
    t.tables.lfsr = s.tables.lfsr := by
  have e := congrArg (fun x : State => x.tables.lfsr) h
  simp only [State.outside, hM, cond_false] at e
  exact e

theorem State.tables_ops_of_outside {M : Touch} {s t : State} (h : t.outside M = s.outside M) (hM : M.tables = false) :
    t.tables.ops = s.tables.ops := by
  have e := congrArg (fun x : State => x.tables.ops) h
  simp only [State.outside, hM, cond_false] at e
  exact e

theorem State.tables_windows_of_outside {M : Touch} {s t : State} (h : t.outside M = s.outside M) (hM : M.windows = false) :
    t.tables.windows = s.tables.windows := by
  have e := congrArg (fun x : State => x.tables.windows) h
  simp only [State.outside, hM, cond_false] at e
  exact e

theorem State.tables_filter_of_outside {M : Touch} {s t : State} (h : t.outside M = s.outside M) (hM : M.tables = false) :
    t.tables.filter = s.tables.filter := by
  have e := congrArg (fun x : State => x.tables.filter) h
  simp only [State.outside, hM, cond_false] at e
  exact e

theorem State.tables_of_outside {M : Touch} {s t : State} (h : t.outside M = s.outside M) (h0 : M.tables = false) (h1 : M.windows = false) (h2 : M.halter = false) :
    t.tables = s.tables := by
  have e := congrArg State.tables h
  simp only [State.outside, h0, h1, h2, cond_false] at e
  exact e

theorem State.har_queues_of_outside {M : Touch} {s t : State} (h : t.outside M = s.outside M) (hM : M.queues = false) :
    t.har.queues = s.har.queues := by
  have e := congrArg (fun x : State => x.har.queues) h
  simp only [State.outside, hM, cond_false] at e
  exact e

theorem State.har_eth_of_outside {M : Touch} {s t : State} (h : t.outside M = s.outside M) (hM : M.har = false) :
    t.har.eth = s.har.eth := by
  have e := congrArg (fun x : State => x.har.eth) h
  simp only [State.outside, hM, cond_false] at e
  exact e

theorem State.har_arrivals_of_outside {M : Touch} {s t : State} (h : t.outside M = s.outside M) (hM : M.arrivals = false) :
    t.har.arrivals = s.har.arrivals := by
  have e := congrArg (fun x : State => x.har.arrivals) h
  simp only [State.outside, hM, cond_false] at e
  exact e

theorem State.har_freed_of_outside {M : Touch} {s t : State} (h : t.outside M = s.outside M) (hM : M.har = false) :
    t.har.freed = s.har.freed := by
  have e := congrArg (fun x : State => x.har.freed) h
  simp only [State.outside, hM, cond_false] at e
  exact e

theorem State.har_freedAt_of_outside {M : Touch} {s t : State} (h : t.outside M = s.outside M) (hM : M.har = false) :
    t.har.freedAt = s.har.freedAt := by
  have e := congrArg (fun x : State => x.har.freedAt) h
  simp only [State.outside, hM, cond_false] at e
  exact e

theorem State.har_leaving_of_outside {M : Touch} {s t : State} (h : t.outside M = s.outside M) (hM : M.har = false) :
    t.har.leaving = s.har.leaving := by
  have e := congrArg (fun x : State => x.har.leaving) h
  simp only [State.outside, hM, cond_false] at e
  exact e

theorem State.har_of_outside {M : Touch} {s t : State} (h : t.outside M = s.outside M) (h0 : M.har = false) (h1 : M.queues = false) (h2 : M.arrivals = false) :
    t.har = s.har := by
  have e := congrArg State.har h
  simp only [State.outside, h0, h1, h2, cond_false] at e
  exact e

theorem State.lacing_of_outside {M : Touch} {s t : State} (h : t.outside M = s.outside M) (hM : M.lacing = false) : t.lacing = s.lacing := by
  have e := congrArg State.lacing h
  simp only [State.outside, hM, cond_false] at e
  exact e

theorem State.tree_of_outside {M : Touch} {s t : State} (h : t.outside M = s.outside M) (hM : M.tree = false) : t.tree = s.tree := by
  have e := congrArg State.tree h
  simp only [State.outside, hM, cond_false] at e
  exact e

theorem State.curb_of_outside {M : Touch} {s t : State} (h : t.outside M = s.outside M) (hM : M.curb = false) : t.curb = s.curb := by
  have e := congrArg State.curb h
  simp only [State.outside, hM, cond_false] at e
  exact e

theorem State.concho_of_outside {M : Touch} {s t : State} (h : t.outside M = s.outside M) (hM : M.concho = false) : t.concho = s.concho := by
  have e := congrArg State.concho h
  simp only [State.outside, hM, cond_false] at e
  exact e

theorem State.cores_core_of_outside {M : Touch} {s t : State} (h : t.outside M = s.outside M) (hM : M.cores = false) :
    t.cores.core = s.cores.core := by
  have e := congrArg (fun x : State => x.cores.core) h
  simp only [State.outside, hM, cond_false] at e
  exact e

theorem State.cores_mem_of_outside {M : Touch} {s t : State} (h : t.outside M = s.outside M) (hM : M.locals = false) :
    t.cores.mem = s.cores.mem := by
  have e := congrArg (fun x : State => x.cores.mem) h
  simp only [State.outside, hM, cond_false] at e
  exact e

theorem State.cores_stale_of_outside {M : Touch} {s t : State} (h : t.outside M = s.outside M) (hM : M.cores = false) :
    t.cores.stale = s.cores.stale := by
  have e := congrArg (fun x : State => x.cores.stale) h
  simp only [State.outside, hM, cond_false] at e
  exact e

theorem State.cores_windows_of_outside {M : Touch} {s t : State} (h : t.outside M = s.outside M) (hM : M.cores = false) :
    t.cores.windows = s.cores.windows := by
  have e := congrArg (fun x : State => x.cores.windows) h
  simp only [State.outside, hM, cond_false] at e
  exact e

theorem State.cores_pushed_of_outside {M : Touch} {s t : State} (h : t.outside M = s.outside M) (hM : M.cores = false) :
    t.cores.pushed = s.cores.pushed := by
  have e := congrArg (fun x : State => x.cores.pushed) h
  simp only [State.outside, hM, cond_false] at e
  exact e

theorem State.cores_of_outside {M : Touch} {s t : State} (h : t.outside M = s.outside M) (h0 : M.cores = false) (h1 : M.locals = false) :
    t.cores = s.cores := by
  have e := congrArg State.cores h
  simp only [State.outside, h0, h1, cond_false] at e
  exact e

theorem State.buckle_pend_of_outside {M : Touch} {s t : State} (h : t.outside M = s.outside M) (hM : M.buckle = false) :
    t.buckle.pend = s.buckle.pend := by
  have e := congrArg (fun x : State => x.buckle.pend) h
  simp only [State.outside, hM, cond_false] at e
  exact e

theorem State.buckle_mask_of_outside {M : Touch} {s t : State} (h : t.outside M = s.outside M) (hM : M.buckle = false) :
    t.buckle.mask = s.buckle.mask := by
  have e := congrArg (fun x : State => x.buckle.mask) h
  simp only [State.outside, hM, cond_false] at e
  exact e

theorem State.buckle_last_of_outside {M : Touch} {s t : State} (h : t.outside M = s.outside M) (hM : M.buckle = false) :
    t.buckle.last = s.buckle.last := by
  have e := congrArg (fun x : State => x.buckle.last) h
  simp only [State.outside, hM, cond_false] at e
  exact e

theorem State.buckle_edges_of_outside {M : Touch} {s t : State} (h : t.outside M = s.outside M) (hM : M.edges = false) :
    t.buckle.edges = s.buckle.edges := by
  have e := congrArg (fun x : State => x.buckle.edges) h
  simp only [State.outside, hM, cond_false] at e
  exact e

theorem State.buckle_of_outside {M : Touch} {s t : State} (h : t.outside M = s.outside M) (h0 : M.buckle = false) (h1 : M.edges = false) :
    t.buckle = s.buckle := by
  have e := congrArg State.buckle h
  simp only [State.outside, h0, h1, cond_false] at e
  exact e

theorem State.host_linkUp_of_outside {M : Touch} {s t : State} (h : t.outside M = s.outside M) (hM : M.host = false) :
    t.host.linkUp = s.host.linkUp := by
  have e := congrArg (fun x : State => x.host.linkUp) h
  simp only [State.outside, hM, cond_false] at e
  exact e

theorem State.host_rx_of_outside {M : Touch} {s t : State} (h : t.outside M = s.outside M) (hM : M.host = false) :
    t.host.rx = s.host.rx := by
  have e := congrArg (fun x : State => x.host.rx) h
  simp only [State.outside, hM, cond_false] at e
  exact e

theorem State.host_tx_of_outside {M : Touch} {s t : State} (h : t.outside M = s.outside M) (hM : M.host = false) :
    t.host.tx = s.host.tx := by
  have e := congrArg (fun x : State => x.host.tx) h
  simp only [State.outside, hM, cond_false] at e
  exact e

theorem State.host_lastTx_of_outside {M : Touch} {s t : State} (h : t.outside M = s.outside M) (hM : M.host = false) :
    t.host.lastTx = s.host.lastTx := by
  have e := congrArg (fun x : State => x.host.lastTx) h
  simp only [State.outside, hM, cond_false] at e
  exact e

theorem State.host_flags_of_outside {M : Touch} {s t : State} (h : t.outside M = s.outside M) (hM : M.flags = false) :
    t.host.flags = s.host.flags := by
  have e := congrArg (fun x : State => x.host.flags) h
  simp only [State.outside, hM, cond_false] at e
  exact e

theorem State.host_causes_of_outside {M : Touch} {s t : State} (h : t.outside M = s.outside M) (hM : M.host = false) :
    t.host.causes = s.host.causes := by
  have e := congrArg (fun x : State => x.host.causes) h
  simp only [State.outside, hM, cond_false] at e
  exact e

theorem State.host_vectors_of_outside {M : Touch} {s t : State} (h : t.outside M = s.outside M) (hM : M.host = false) :
    t.host.vectors = s.host.vectors := by
  have e := congrArg (fun x : State => x.host.vectors) h
  simp only [State.outside, hM, cond_false] at e
  exact e

theorem State.host_functionMask_of_outside {M : Touch} {s t : State} (h : t.outside M = s.outside M) (hM : M.host = false) :
    t.host.functionMask = s.host.functionMask := by
  have e := congrArg (fun x : State => x.host.functionMask) h
  simp only [State.outside, hM, cond_false] at e
  exact e

theorem State.host_snapSeq_of_outside {M : Touch} {s t : State} (h : t.outside M = s.outside M) (hM : M.host = false) :
    t.host.snapSeq = s.host.snapSeq := by
  have e := congrArg (fun x : State => x.host.snapSeq) h
  simp only [State.outside, hM, cond_false] at e
  exact e

theorem State.host_snap_of_outside {M : Touch} {s t : State} (h : t.outside M = s.outside M) (hM : M.host = false) :
    t.host.snap = s.host.snap := by
  have e := congrArg (fun x : State => x.host.snap) h
  simp only [State.outside, hM, cond_false] at e
  exact e

theorem State.host_eventSel_of_outside {M : Touch} {s t : State} (h : t.outside M = s.outside M) (hM : M.host = false) :
    t.host.eventSel = s.host.eventSel := by
  have e := congrArg (fun x : State => x.host.eventSel) h
  simp only [State.outside, hM, cond_false] at e
  exact e

theorem State.host_mbxReq_of_outside {M : Touch} {s t : State} (h : t.outside M = s.outside M) (hM : M.host = false) :
    t.host.mbxReq = s.host.mbxReq := by
  have e := congrArg (fun x : State => x.host.mbxReq) h
  simp only [State.outside, hM, cond_false] at e
  exact e

theorem State.host_mailbox_of_outside {M : Touch} {s t : State} (h : t.outside M = s.outside M) (hM : M.host = false) :
    t.host.mailbox = s.host.mailbox := by
  have e := congrArg (fun x : State => x.host.mailbox) h
  simp only [State.outside, hM, cond_false] at e
  exact e

theorem State.host_mailboxWait_of_outside {M : Touch} {s t : State} (h : t.outside M = s.outside M) (hM : M.host = false) :
    t.host.mailboxWait = s.host.mailboxWait := by
  have e := congrArg (fun x : State => x.host.mailboxWait) h
  simp only [State.outside, hM, cond_false] at e
  exact e

theorem State.host_mailboxHeld_of_outside {M : Touch} {s t : State} (h : t.outside M = s.outside M) (hM : M.host = false) :
    t.host.mailboxHeld = s.host.mailboxHeld := by
  have e := congrArg (fun x : State => x.host.mailboxHeld) h
  simp only [State.outside, hM, cond_false] at e
  exact e

theorem State.host_nrData_of_outside {M : Touch} {s t : State} (h : t.outside M = s.outside M) (hM : M.host = false) :
    t.host.nrData = s.host.nrData := by
  have e := congrArg (fun x : State => x.host.nrData) h
  simp only [State.outside, hM, cond_false] at e
  exact e

theorem State.host_nrShort_of_outside {M : Touch} {s t : State} (h : t.outside M = s.outside M) (hM : M.host = false) :
    t.host.nrShort = s.host.nrShort := by
  have e := congrArg (fun x : State => x.host.nrShort) h
  simp only [State.outside, hM, cond_false] at e
  exact e

theorem State.host_nrCode_of_outside {M : Touch} {s t : State} (h : t.outside M = s.outside M) (hM : M.host = false) :
    t.host.nrCode = s.host.nrCode := by
  have e := congrArg (fun x : State => x.host.nrCode) h
  simp only [State.outside, hM, cond_false] at e
  exact e

theorem State.host_reports_of_outside {M : Touch} {s t : State} (h : t.outside M = s.outside M) (hM : M.reports = false) :
    t.host.reports = s.host.reports := by
  have e := congrArg (fun x : State => x.host.reports) h
  simp only [State.outside, hM, cond_false] at e
  exact e

theorem State.host_reportsDue_of_outside {M : Touch} {s t : State} (h : t.outside M = s.outside M) (hM : M.reports = false) :
    t.host.reportsDue = s.host.reportsDue := by
  have e := congrArg (fun x : State => x.host.reportsDue) h
  simp only [State.outside, hM, cond_false] at e
  exact e

theorem State.host_nextHandle_of_outside {M : Touch} {s t : State} (h : t.outside M = s.outside M) (hM : M.host = false) :
    t.host.nextHandle = s.host.nextHandle := by
  have e := congrArg (fun x : State => x.host.nextHandle) h
  simp only [State.outside, hM, cond_false] at e
  exact e

theorem State.host_cutSince_of_outside {M : Touch} {s t : State} (h : t.outside M = s.outside M) (hM : M.host = false) :
    t.host.cutSince = s.host.cutSince := by
  have e := congrArg (fun x : State => x.host.cutSince) h
  simp only [State.outside, hM, cond_false] at e
  exact e

theorem State.host_cutPosted_of_outside {M : Touch} {s t : State} (h : t.outside M = s.outside M) (hM : M.host = false) :
    t.host.cutPosted = s.host.cutPosted := by
  have e := congrArg (fun x : State => x.host.cutPosted) h
  simp only [State.outside, hM, cond_false] at e
  exact e

theorem State.host_of_outside {M : Touch} {s t : State} (h : t.outside M = s.outside M) (h0 : M.host = false) (h1 : M.flags = false) (h2 : M.reports = false) :
    t.host = s.host := by
  have e := congrArg State.host h
  simp only [State.outside, h0, h1, h2, cond_false] at e
  exact e

theorem State.outside_pending (M : Touch) (s : State) (v : _) (h0 : M.pending = true) :
    ({ s with pending := v } : State).outside M = s.outside M := by
  simp only [State.outside, h0, cond_true]

theorem State.outside_draws (M : Touch) (s : State) (v : _) (h0 : M.draws = true) :
    ({ s with draws := v } : State).outside M = s.outside M := by
  simp only [State.outside, h0, cond_true]

theorem State.outside_out (M : Touch) (s : State) (v : _) (h0 : M.out = true) :
    ({ s with out := v } : State).outside M = s.outside M := by
  simp only [State.outside, h0, cond_true]

theorem State.outside_ident (M : Touch) (s : State) (v : _) (h0 : M.ident = true) :
    ({ s with ident := v } : State).outside M = s.outside M := by
  simp only [State.outside, h0, cond_true]

theorem State.outside_fuses (M : Touch) (s : State) (v : _) (h0 : M.fuses = true) :
    ({ s with fuses := v } : State).outside M = s.outside M := by
  simp only [State.outside, h0, cond_true]

theorem State.outside_pins (M : Touch) (s : State) (v : _) (h0 : M.pins = true) :
    ({ s with pins := v } : State).outside M = s.outside M := by
  simp only [State.outside, h0, cond_true]

theorem State.outside_clock (M : Touch) (s : State) (v : _) (h0 : M.clock = true) :
    ({ s with clock := v } : State).outside M = s.outside M := by
  simp only [State.outside, h0, cond_true]

theorem State.outside_pulses (M : Touch) (s : State) (v : _) (h0 : M.pulses = true) :
    ({ s with pulses := v } : State).outside M = s.outside M := by
  simp only [State.outside, h0, cond_true]

theorem State.outside_chain_chain (M : Touch) (s : State) (v2 : _) (v3 : _) (v4 : _) (v5 : _) (v6 : _) (v7 : _) (v8 : _) (v9 : _) (h0 : M.chain = true) :
    ({ s with chain := Chain.mk s.chain.portUp s.chain.portDn v2 v3 v4 v5 v6 v7 v8 v9 } : State).outside M = s.outside M := by
  simp only [State.outside, h0, cond_true]

theorem State.outside_chain_chainPorts (M : Touch) (s : State) (v0 : _) (v1 : _) (h0 : M.chainPorts = true) :
    ({ s with chain := Chain.mk v0 v1 s.chain.topo s.chain.enumRun s.chain.claim s.chain.headAt s.chain.fullOwed s.chain.nextTag s.chain.opens s.chain.late } : State).outside M = s.outside M := by
  simp only [State.outside, h0, cond_true]

theorem State.outside_dict_dict (M : Touch) (s : State) (v3 : _) (v6 : _) (v7 : _) (v8 : _) (v9 : _) (v10 : _) (v11 : _) (v12 : _) (v13 : _) (v14 : _) (v15 : _) (v16 : _) (v17 : _) (v18 : _) (h0 : M.dict = true) :
    ({ s with dict := Dictionary.mk s.dict.nums s.dict.doms s.dict.results v3 s.dict.clampLog s.dict.errLog v6 v7 v8 v9 v10 v11 v12 v13 v14 v15 v16 v17 v18 } : State).outside M = s.outside M := by
  simp only [State.outside, h0, cond_true]

theorem State.outside_dict_nums (M : Touch) (s : State) (v0 : _) (h0 : M.anyNum = true) :
    ({ s with dict := Dictionary.mk v0 s.dict.doms s.dict.results s.dict.ready s.dict.clampLog s.dict.errLog s.dict.alarmAt s.dict.stored s.dict.waiting s.dict.held s.dict.subs s.dict.transfers s.dict.txn s.dict.outcomes s.dict.graces s.dict.bankC s.dict.storing s.dict.nextReq s.dict.asked } : State).outside M = s.outside M := by
  simp only [State.outside, h0, cond_true]

theorem State.outside_dict_doms (M : Touch) (s : State) (v1 : _) (h0 : M.doms = true) :
    ({ s with dict := Dictionary.mk s.dict.nums v1 s.dict.results s.dict.ready s.dict.clampLog s.dict.errLog s.dict.alarmAt s.dict.stored s.dict.waiting s.dict.held s.dict.subs s.dict.transfers s.dict.txn s.dict.outcomes s.dict.graces s.dict.bankC s.dict.storing s.dict.nextReq s.dict.asked } : State).outside M = s.outside M := by
  simp only [State.outside, h0, cond_true]

theorem State.outside_dict_results (M : Touch) (s : State) (v2 : _) (h0 : M.results = true) :
    ({ s with dict := Dictionary.mk s.dict.nums s.dict.doms v2 s.dict.ready s.dict.clampLog s.dict.errLog s.dict.alarmAt s.dict.stored s.dict.waiting s.dict.held s.dict.subs s.dict.transfers s.dict.txn s.dict.outcomes s.dict.graces s.dict.bankC s.dict.storing s.dict.nextReq s.dict.asked } : State).outside M = s.outside M := by
  simp only [State.outside, h0, cond_true]

theorem State.outside_dict_logs (M : Touch) (s : State) (v4 : _) (v5 : _) (h0 : M.logs = true) :
    ({ s with dict := Dictionary.mk s.dict.nums s.dict.doms s.dict.results s.dict.ready v4 v5 s.dict.alarmAt s.dict.stored s.dict.waiting s.dict.held s.dict.subs s.dict.transfers s.dict.txn s.dict.outcomes s.dict.graces s.dict.bankC s.dict.storing s.dict.nextReq s.dict.asked } : State).outside M = s.outside M := by
  simp only [State.outside, h0, cond_true]

theorem State.outside_power (M : Touch) (s : State) (v : _) (h0 : M.power = true) :
    ({ s with power := v } : State).outside M = s.outside M := by
  simp only [State.outside, h0, cond_true]

theorem State.outside_vbat (M : Touch) (s : State) (v : _) (h0 : M.vbat = true) :
    ({ s with vbat := v } : State).outside M = s.outside M := by
  simp only [State.outside, h0, cond_true]

theorem State.outside_radio_radio (M : Touch) (s : State) (v3 : _) (v4 : _) (v5 : _) (v6 : _) (v7 : _) (v8 : _) (v9 : _) (h0 : M.radio = true) :
    ({ s with radio := Radio.mk s.radio.ports s.radio.rx s.radio.tx v3 v4 v5 v6 v7 v8 v9 } : State).outside M = s.outside M := by
  simp only [State.outside, h0, cond_true]

theorem State.outside_radio_ports (M : Touch) (s : State) (v0 : _) (h0 : M.ports = true) :
    ({ s with radio := Radio.mk v0 s.radio.rx s.radio.tx s.radio.cal s.radio.locking s.radio.duty s.radio.dutyMin s.radio.dup s.radio.bsQueue s.radio.bsEngines } : State).outside M = s.outside M := by
  simp only [State.outside, h0, cond_true]

theorem State.outside_radio_rxTiles (M : Touch) (s : State) (v1 : _) (h0 : M.rxTiles = true) :
    ({ s with radio := Radio.mk s.radio.ports v1 s.radio.tx s.radio.cal s.radio.locking s.radio.duty s.radio.dutyMin s.radio.dup s.radio.bsQueue s.radio.bsEngines } : State).outside M = s.outside M := by
  simp only [State.outside, h0, cond_true]

theorem State.outside_radio_txTiles (M : Touch) (s : State) (v2 : _) (h0 : M.txTiles = true) :
    ({ s with radio := Radio.mk s.radio.ports s.radio.rx v2 s.radio.cal s.radio.locking s.radio.duty s.radio.dutyMin s.radio.dup s.radio.bsQueue s.radio.bsEngines } : State).outside M = s.outside M := by
  simp only [State.outside, h0, cond_true]

theorem State.outside_girth_girth (M : Touch) (s : State) (v1 : _) (v2 : _) (h0 : M.girth = true) :
    ({ s with girth := Girth.mk s.girth.recs v1 v2 s.girth.sched s.girth.cinch } : State).outside M = s.outside M := by
  simp only [State.outside, h0, cond_true]

theorem State.outside_girth_recs (M : Touch) (s : State) (v0 : _) (h0 : M.recs = true) :
    ({ s with girth := Girth.mk v0 s.girth.forwards s.girth.casts s.girth.sched s.girth.cinch } : State).outside M = s.outside M := by
  simp only [State.outside, h0, cond_true]

theorem State.outside_girth_sched (M : Touch) (s : State) (v3 : _) (h0 : M.sched = true) :
    ({ s with girth := Girth.mk s.girth.recs s.girth.forwards s.girth.casts v3 s.girth.cinch } : State).outside M = s.outside M := by
  simp only [State.outside, h0, cond_true]

theorem State.outside_girth_cinch (M : Touch) (s : State) (v4 : _) (h0 : M.cinch = true) :
    ({ s with girth := Girth.mk s.girth.recs s.girth.forwards s.girth.casts s.girth.sched v4 } : State).outside M = s.outside M := by
  simp only [State.outside, h0, cond_true]

theorem State.outside_keeper (M : Touch) (s : State) (v : _) (h0 : M.keeper = true) :
    ({ s with keeper := v } : State).outside M = s.outside M := by
  simp only [State.outside, h0, cond_true]

theorem State.outside_sb_sb (M : Touch) (s : State) (v1 : _) (v2 : _) (v3 : _) (v4 : _) (v5 : _) (v8 : _) (v9 : _) (h0 : M.sb = true) :
    ({ s with sb := Saddlebag.mk s.sb.mem v1 v2 v3 v4 v5 s.sb.queues s.sb.nodes v8 v9 s.sb.journal } : State).outside M = s.outside M := by
  simp only [State.outside, h0, cond_true]

theorem State.outside_sb_straps (M : Touch) (s : State) (v6 : _) (h0 : M.straps = true) :
    ({ s with sb := Saddlebag.mk s.sb.mem s.sb.outstanding s.sb.waiting s.sb.layout s.sb.since s.sb.fresh v6 s.sb.nodes s.sb.compare s.sb.flushLeft s.sb.journal } : State).outside M = s.outside M := by
  simp only [State.outside, h0, cond_true]

theorem State.outside_sb_journal (M : Touch) (s : State) (v10 : _) (h0 : M.journal = true) :
    ({ s with sb := Saddlebag.mk s.sb.mem s.sb.outstanding s.sb.waiting s.sb.layout s.sb.since s.sb.fresh s.sb.queues s.sb.nodes s.sb.compare s.sb.flushLeft v10 } : State).outside M = s.outside M := by
  simp only [State.outside, h0, cond_true]

theorem State.outside_sb_nodeQueues (M : Touch) (s : State) (v7 : _) (h0 : M.nodeQueues = true) :
    ({ s with sb := Saddlebag.mk s.sb.mem s.sb.outstanding s.sb.waiting s.sb.layout s.sb.since s.sb.fresh s.sb.queues v7 s.sb.compare s.sb.flushLeft s.sb.journal } : State).outside M = s.outside M := by
  simp only [State.outside, h0, cond_true]

theorem State.outside_tables_tables (M : Touch) (s : State) (v0 : _) (v1 : _) (v2 : _) (v3 : _) (v6 : _) (v7 : _) (v8 : _) (v10 : _) (v12 : _) (h0 : M.tables = true) :
    ({ s with tables := Tables.mk v0 v1 v2 v3 s.tables.halter s.tables.overflow v6 v7 v8 s.tables.lfsr v10 s.tables.windows v12 } : State).outside M = s.outside M := by
  simp only [State.outside, h0, cond_true]

theorem State.outside_tables_windows (M : Touch) (s : State) (v11 : _) (h0 : M.windows = true) :
    ({ s with tables := Tables.mk s.tables.prefixes s.tables.badWords s.tables.nextHops s.tables.copyLists s.tables.halter s.tables.overflow s.tables.badWays s.tables.badOverflow s.tables.ageNext s.tables.lfsr s.tables.ops v11 s.tables.filter } : State).outside M = s.outside M := by
  simp only [State.outside, h0, cond_true]

theorem State.outside_tables_halter (M : Touch) (s : State) (v4 : _) (v5 : _) (v9 : _) (h0 : M.halter = true) :
    ({ s with tables := Tables.mk s.tables.prefixes s.tables.badWords s.tables.nextHops s.tables.copyLists v4 v5 s.tables.badWays s.tables.badOverflow s.tables.ageNext v9 s.tables.ops s.tables.windows s.tables.filter } : State).outside M = s.outside M := by
  simp only [State.outside, h0, cond_true]

theorem State.outside_har_har (M : Touch) (s : State) (v1 : _) (v3 : _) (v4 : _) (v5 : _) (h0 : M.har = true) :
    ({ s with har := Harness.mk s.har.queues v1 s.har.arrivals v3 v4 v5 } : State).outside M = s.outside M := by
  simp only [State.outside, h0, cond_true]

theorem State.outside_har_queues (M : Touch) (s : State) (v0 : _) (h0 : M.queues = true) :
    ({ s with har := Harness.mk v0 s.har.eth s.har.arrivals s.har.freed s.har.freedAt s.har.leaving } : State).outside M = s.outside M := by
  simp only [State.outside, h0, cond_true]

theorem State.outside_har_arrivals (M : Touch) (s : State) (v2 : _) (h0 : M.arrivals = true) :
    ({ s with har := Harness.mk s.har.queues s.har.eth v2 s.har.freed s.har.freedAt s.har.leaving } : State).outside M = s.outside M := by
  simp only [State.outside, h0, cond_true]

theorem State.outside_lacing (M : Touch) (s : State) (v : _) (h0 : M.lacing = true) :
    ({ s with lacing := v } : State).outside M = s.outside M := by
  simp only [State.outside, h0, cond_true]

theorem State.outside_tree (M : Touch) (s : State) (v : _) (h0 : M.tree = true) :
    ({ s with tree := v } : State).outside M = s.outside M := by
  simp only [State.outside, h0, cond_true]

theorem State.outside_curb (M : Touch) (s : State) (v : _) (h0 : M.curb = true) :
    ({ s with curb := v } : State).outside M = s.outside M := by
  simp only [State.outside, h0, cond_true]

theorem State.outside_concho (M : Touch) (s : State) (v : _) (h0 : M.concho = true) :
    ({ s with concho := v } : State).outside M = s.outside M := by
  simp only [State.outside, h0, cond_true]

theorem State.outside_cores_cores (M : Touch) (s : State) (v0 : _) (v2 : _) (v3 : _) (v4 : _) (h0 : M.cores = true) :
    ({ s with cores := Cores.mk v0 s.cores.mem v2 v3 v4 } : State).outside M = s.outside M := by
  simp only [State.outside, h0, cond_true]

theorem State.outside_buckle_buckle (M : Touch) (s : State) (v0 : _) (v1 : _) (v2 : _) (h0 : M.buckle = true) :
    ({ s with buckle := Buckle.mk v0 v1 v2 s.buckle.edges } : State).outside M = s.outside M := by
  simp only [State.outside, h0, cond_true]

theorem State.outside_buckle_edges (M : Touch) (s : State) (v3 : _) (h0 : M.edges = true) :
    ({ s with buckle := Buckle.mk s.buckle.pend s.buckle.mask s.buckle.last v3 } : State).outside M = s.outside M := by
  simp only [State.outside, h0, cond_true]

theorem State.outside_host_host (M : Touch) (s : State) (v0 : _) (v1 : _) (v2 : _) (v3 : _) (v5 : _) (v6 : _) (v7 : _) (v8 : _) (v9 : _) (v10 : _) (v11 : _) (v12 : _) (v13 : _) (v14 : _) (v15 : _) (v16 : _) (v17 : _) (v20 : _) (v21 : _) (v22 : _) (h0 : M.host = true) :
    ({ s with host := HostIf.mk v0 v1 v2 v3 s.host.flags v5 v6 v7 v8 v9 v10 v11 v12 v13 v14 v15 v16 v17 s.host.reports s.host.reportsDue v20 v21 v22 } : State).outside M = s.outside M := by
  simp only [State.outside, h0, cond_true]

theorem State.outside_host_flags (M : Touch) (s : State) (v4 : _) (h0 : M.flags = true) :
    ({ s with host := HostIf.mk s.host.linkUp s.host.rx s.host.tx s.host.lastTx v4 s.host.causes s.host.vectors s.host.functionMask s.host.snapSeq s.host.snap s.host.eventSel s.host.mbxReq s.host.mailbox s.host.mailboxWait s.host.mailboxHeld s.host.nrData s.host.nrShort s.host.nrCode s.host.reports s.host.reportsDue s.host.nextHandle s.host.cutSince s.host.cutPosted } : State).outside M = s.outside M := by
  simp only [State.outside, h0, cond_true]

theorem State.outside_host_reports (M : Touch) (s : State) (v18 : _) (v19 : _) (h0 : M.reports = true) :
    ({ s with host := HostIf.mk s.host.linkUp s.host.rx s.host.tx s.host.lastTx s.host.flags s.host.causes s.host.vectors s.host.functionMask s.host.snapSeq s.host.snap s.host.eventSel s.host.mbxReq s.host.mailbox s.host.mailboxWait s.host.mailboxHeld s.host.nrData s.host.nrShort s.host.nrCode v18 v19 s.host.nextHandle s.host.cutSince s.host.cutPosted } : State).outside M = s.outside M := by
  simp only [State.outside, h0, cond_true]

/-- The cores' memories may change; where their form is shown, it is canonical. -/
def Touch.Locals (M : Touch) (r : State) : Prop := M.locals = true ∧ (M.form = true → r.cores.mem = [])

/-- The attached memory may change; where its form is shown, it is canonical. -/
def Touch.Attached (M : Touch) (r : State) : Prop := M.attached = true ∧ (M.form = true → r.sb.mem = [])

theorem Touch.Locals.free {M : Touch} {r : State} (h : M.locals = true) (hf : M.form = false) : M.Locals r :=
  ⟨h, fun e => absurd (hf.symm.trans e) (by decide)⟩

theorem Touch.Attached.free {M : Touch} {r : State} (h : M.attached = true) (hf : M.form = false) : M.Attached r :=
  ⟨h, fun e => absurd (hf.symm.trans e) (by decide)⟩

theorem memForm_nil {m : KMap Byte} : memForm m = [] ↔ KMap.canon (fun _ => 0#8) m = true := by
  unfold memForm
  cases h : KMap.canon (fun _ => 0#8) m with
  | true => simp
  | false =>
    simp only [Bool.false_eq_true, if_false, iff_false]
    intro e
    rw [e] at h
    exact absurd h (by decide)

theorem memForm_step {M : Touch} {a v d : KMap Byte} (h : M.form = true → memForm a = []) (hv : KMap.canon (fun _ => 0#8) a = true → KMap.canon (fun _ => 0#8) v = true) :
    cond M.form (memForm v) d = cond M.form (memForm a) d := by
  cases hf : M.form with
  | false => rfl
  | true =>
    have ha := h hf
    simp only [cond_true]
    rw [ha, memForm_nil.mpr (hv (memForm_nil.mp ha))]

theorem State.outside_cores_locals {M : Touch} {r s : State} {v : KMap Byte} (h : M.Locals r)
    (hv : KMap.canon (fun _ => 0#8) s.cores.mem = true → KMap.canon (fun _ => 0#8) v = true) (hs : s.outside M = r) :
    ({ s with cores := { s.cores with mem := v } } : State).outside M = r := by
  subst hs
  obtain ⟨h1, h2⟩ := h
  simp only [State.outside, h1, cond_true] at h2 ⊢
  rw [memForm_step (fun e => by have := h2 e; rwa [e] at this) hv]

theorem State.outside_sb_attached {M : Touch} {r s : State} {v : KMap Byte} (h : M.Attached r)
    (hv : KMap.canon (fun _ => 0#8) s.sb.mem = true → KMap.canon (fun _ => 0#8) v = true) (hs : s.outside M = r) :
    ({ s with sb := { s.sb with mem := v } } : State).outside M = r := by
  subst hs
  obtain ⟨h1, h2⟩ := h
  simp only [State.outside, h1, cond_true] at h2 ⊢
  rw [memForm_step (fun e => by have := h2 e; rwa [e] at this) hv]

theorem ite_outside {M : Touch} {r a b : State} {c : Prop} [Decidable c] (ha : a.outside M = r) (hb : b.outside M = r) :
    (if c then a else b).outside M = r := by split <;> assumption

theorem ite_fst_outside {M : Touch} {r : State} {α : Type} {a b : State × α} {c : Prop} [Decidable c] (ha : a.1.outside M = r) (hb : b.1.outside M = r) :
    (if c then a else b).1.outside M = r := by split <;> assumption

theorem ite_snd_outside {M : Touch} {r : State} {α : Type} {a b : α × State} {c : Prop} [Decidable c] (ha : a.2.outside M = r) (hb : b.2.outside M = r) :
    (if c then a else b).2.outside M = r := by split <;> assumption

theorem fst_outside {M : Touch} {r a : State} {α : Type} {x : α} (h : a.outside M = r) : (a, x).1.outside M = r := h

theorem snd_outside {M : Touch} {r a : State} {α : Type} {x : α} (h : a.outside M = r) : (x, a).2.outside M = r := h

theorem state_outside {M : Touch} {r a : State} {n : Nat} {p : Bytes} {o : Option (Nat × Nat)} (h : a.outside M = r) : (Reply.mk a n p o).state.outside M = r := h

theorem ite_state_outside {M : Touch} {r : State} {a b : Reply} {c : Prop} [Decidable c] (ha : a.state.outside M = r) (hb : b.state.outside M = r) :
    (if c then a else b).state.outside M = r := by split <;> assumption

/-- The outcome is a next state that agrees with r outside the chosen parts. -/
def NextOutside (M : Touch) (r : State) (o : Step) : Prop := ∃ t, o = .next t ∧ t.outside M = r

theorem ite_next_outside {M : Touch} {r : State} {a b : Step} {c : Prop} [Decidable c] (ha : NextOutside M r a)
    (hb : NextOutside M r b) : NextOutside M r (if c then a else b) := by split <;> assumption

theorem next_outside {M : Touch} {r s : State} (h : s.outside M = r) : NextOutside M r (.next s) := ⟨s, rfl, h⟩

theorem foldl_outside {M : Touch} {r s : State} {α : Type} {f : State → α → State} {l : List α}
    (h : ∀ t, t.outside M = r → ∀ x, (f t x).outside M = r) (hs : s.outside M = r) : (l.foldl f s).outside M = r := by
  induction l generalizing s with
  | nil => exact hs
  | cons a l ih => exact ih (h s hs a)

theorem foldl_fst_outside {M : Touch} {r : State} {α β : Type} {f : State × β → α → State × β} {p : State × β} {l : List α}
    (h : ∀ p, p.1.outside M = r → ∀ x, (f p x).1.outside M = r) (hs : p.1.outside M = r) : (l.foldl f p).1.outside M = r := by
  induction l generalizing p with
  | nil => exact hs
  | cons a l ih => exact ih (h p hs a)

end Sys2Proof.Machine
end

