-- ==== Sys2Proof/Laws/Frame/Nums.lean ====
section
/-! SUPPORT. The lists of families of numbers that operations write. -/

namespace Sys2Proof.Machine

abbrev Nums1 : List Nat := [0x411003, 0x411004]
abbrev Nums2 : List Nat := [0x120002, 0x120003, 0x120007, 0x411003, 0x411004]
abbrev Nums3 : List Nat := [0x511008, 0x511009]
abbrev Nums4 : List Nat := [0x510001]
abbrev Nums5 : List Nat := [0x510001, 0x511001]
abbrev Nums6 : List Nat := [0x120002, 0x120003, 0x120007, 0x411003, 0x411004, 0x510001, 0x511001]
abbrev Nums7 : List Nat := [
  0x120002, 0x120003, 0x120007, 0x411003, 0x411004, 0x510001, 0x511001, 0x511008, 0x511009]
abbrev Nums8 : List Nat := [0x120002, 0x120003, 0x120007, 0x30000B, 0x411003, 0x411004]
abbrev Nums9 : List Nat := [
  0x120002, 0x120003, 0x120007, 0x30000B, 0x411003, 0x411004, 0x510001, 0x511001, 0x511008, 0x511009]
abbrev Nums10 : List Nat := [0x220005]
abbrev Nums11 : List Nat := [0x110108]
abbrev Nums12 : List Nat := [0x110004, 0x110005]
abbrev Nums13 : List Nat := [0x110004, 0x110005, 0x110108, 0x120002, 0x120003, 0x120007, 0x411003, 0x411004]
abbrev Nums14 : List Nat := [
  0x110004, 0x110005, 0x110006, 0x110108, 0x120002, 0x120003, 0x120007, 0x411003, 0x411004]
abbrev Nums15 : List Nat := [0x110001, 0x110003]
abbrev Nums16 : List Nat := [
  0x110001, 0x110003, 0x110004, 0x110005, 0x110006, 0x110108, 0x120002, 0x120003, 0x120007, 0x411003, 0x411004]
abbrev Nums17 : List Nat := [0x120002, 0x120003, 0x120007, 0x120010, 0x12001D, 0x411003, 0x411004]
abbrev Nums18 : List Nat := [0x420002, 0x420104, 0x420105, 0x420107]
abbrev Nums19 : List Nat := [0x21001A]
abbrev Nums20 : List Nat := [0x210007, 0x21001A]
abbrev Nums21 : List Nat := [0x120002, 0x120003, 0x120007, 0x210007, 0x21001A, 0x411003, 0x411004]
abbrev Nums22 : List Nat := [0x120002, 0x120003, 0x120007, 0x220004, 0x411003, 0x411004]
abbrev Nums23 : List Nat := [0x120002, 0x120003, 0x120007, 0x300008, 0x411003, 0x411004]
abbrev Nums24 : List Nat := [0x120002, 0x120003, 0x120007, 0x300008, 0x30000B, 0x411003, 0x411004]
abbrev Nums25 : List Nat := [0x120002, 0x120003, 0x120007, 0x300008, 0x30000B, 0x320005, 0x411003, 0x411004]
abbrev Nums26 : List Nat := [
  0x120002, 0x120003, 0x120007, 0x220010, 0x220011, 0x220012, 0x220013, 0x220014, 0x411003, 0x411004]
abbrev Nums27 : List Nat := [0x140106]
abbrev Nums28 : List Nat := [
  0x120002, 0x120003, 0x120007, 0x140106, 0x220004, 0x220005, 0x220010, 0x220011, 0x220012, 0x220013, 0x220014, 0x300008,
  0x30000B, 0x320005, 0x411003, 0x411004]
abbrev Nums29 : List Nat := [0x210007]
abbrev Nums30 : List Nat := [0x210006, 0x210007]
abbrev Nums31 : List Nat := [0x200001, 0x210006, 0x210007]
abbrev Nums32 : List Nat := [
  0x120002, 0x120003, 0x120007, 0x140106, 0x200001, 0x210006, 0x210007, 0x21001A, 0x220004, 0x220005, 0x220010, 0x220011,
  0x220012, 0x220013, 0x220014, 0x300008, 0x30000B, 0x320005, 0x411003, 0x411004]
abbrev Nums33 : List Nat := [0x140106, 0x140107]
abbrev Nums34 : List Nat := [0x120002, 0x120003, 0x120007, 0x411003, 0x411004, 0x500001]
abbrev Nums35 : List Nat := [0x500002]
abbrev Nums36 : List Nat := [0x120002, 0x120003, 0x120007, 0x411003, 0x411004, 0x500001, 0x500002]
abbrev Nums37 : List Nat := [0x600102]
abbrev Nums38 : List Nat := [0x200006]
abbrev Nums39 : List Nat := [0x700107]
abbrev Nums40 : List Nat := [0x120002, 0x120003, 0x120007, 0x411003, 0x411004, 0x700107]
abbrev Nums41 : List Nat := [0x710003]
abbrev Nums42 : List Nat := [0x700101]
abbrev Nums43 : List Nat := [0x52000A]
abbrev Nums44 : List Nat := [0x520001]
abbrev Nums45 : List Nat := [0x520001, 0x52000A]
abbrev Nums46 : List Nat := [0x120002, 0x120003, 0x120007, 0x411003, 0x411004, 0x700101]
abbrev Nums47 : List Nat := [0x120002, 0x120003, 0x120007, 0x411003, 0x411004, 0x700101, 0x700106]
abbrev Nums48 : List Nat := [0x140110]
abbrev Nums49 : List Nat := [0x140106, 0x140110]
abbrev Nums50 : List Nat := [
  0x120002, 0x120003, 0x120007, 0x140106, 0x220010, 0x220011, 0x220012, 0x220013, 0x220014, 0x300008, 0x30000B, 0x320005,
  0x411003, 0x411004]
abbrev Nums51 : List Nat := [0x200001, 0x210007]
abbrev Nums52 : List Nat := [0x120002, 0x120003, 0x120007, 0x200001, 0x210007, 0x21001A, 0x411003, 0x411004]
abbrev Nums53 : List Nat := [
  0x120002, 0x120003, 0x120007, 0x140106, 0x140110, 0x200001, 0x210007, 0x21001A, 0x220004, 0x220005, 0x220010, 0x220011,
  0x220012, 0x220013, 0x220014, 0x300008, 0x30000B, 0x320005, 0x411003, 0x411004]
abbrev Nums54 : List Nat := [0x320005]
abbrev Nums55 : List Nat := [0x140106, 0x320005]
abbrev Nums56 : List Nat := [0x402003]
abbrev Nums57 : List Nat := [0x402003, 0x402004]
abbrev Nums58 : List Nat := [0x320003]
abbrev Nums59 : List Nat := [
  0x120002, 0x120003, 0x120007, 0x140106, 0x300008, 0x30000B, 0x411003, 0x411004, 0x510001, 0x511001, 0x511008, 0x511009]
abbrev Nums60 : List Nat := [0x120002, 0x120003, 0x120007, 0x12020D, 0x411003, 0x411004]
abbrev Nums61 : List Nat := [
  0x120002, 0x120003, 0x120007, 0x12020D, 0x200001, 0x210007, 0x21001A, 0x220004, 0x411003, 0x411004]
abbrev Nums62 : List Nat := [
  0x120002, 0x120003, 0x120007, 0x12020D, 0x140106, 0x200001, 0x210007, 0x21001A, 0x220004, 0x300008, 0x30000B, 0x320003,
  0x411003, 0x411004, 0x510001, 0x511001, 0x511008, 0x511009]
abbrev Nums63 : List Nat := [0x120002, 0x120003, 0x120007, 0x180201, 0x411003, 0x411004]
abbrev Nums64 : List Nat := [0x120002, 0x120003, 0x120007, 0x180201, 0x320003, 0x411003, 0x411004, 0x600102]
abbrev Nums65 : List Nat := [0x120102, 0x120103]
abbrev Nums66 : List Nat := [0x120002, 0x120003, 0x120007, 0x402003, 0x411003, 0x411004]
abbrev Nums67 : List Nat := [0x120002, 0x120003, 0x120007, 0x30000B, 0x402003, 0x411003, 0x411004]
abbrev Nums68 : List Nat := [0x410004]
abbrev Nums69 : List Nat := [0x120002, 0x120003, 0x120007, 0x410004, 0x411003, 0x411004]
abbrev Nums70 : List Nat := [0x120002, 0x120003, 0x120007, 0x30000B, 0x402003, 0x410004, 0x411003, 0x411004]
abbrev Nums71 : List Nat := [
  0x120002, 0x120003, 0x120007, 0x30000B, 0x320003, 0x411003, 0x411004, 0x510001, 0x511001, 0x511008, 0x511009]
abbrev Nums72 : List Nat := [
  0x120002, 0x120003, 0x120007, 0x12020D, 0x200001, 0x210007, 0x21001A, 0x220004, 0x30000B, 0x320003, 0x411003, 0x411004,
  0x510001, 0x511001, 0x511008, 0x511009]
abbrev Nums73 : List Nat := [
  0x120002, 0x120003, 0x120007, 0x12020D, 0x200001, 0x210007, 0x21001A, 0x220004, 0x30000B, 0x320003, 0x411003, 0x411004,
  0x421004, 0x510001, 0x511001, 0x511008, 0x511009]
abbrev Nums74 : List Nat := [
  0x120002, 0x120003, 0x120007, 0x12020D, 0x200001, 0x210007, 0x21001A, 0x220004, 0x30000B, 0x320003, 0x402003, 0x410004,
  0x411003, 0x411004, 0x421004, 0x510001, 0x511001, 0x511008, 0x511009]
abbrev Nums75 : List Nat := [0x120002, 0x120003, 0x120007, 0x18000A, 0x411003, 0x411004]
abbrev Nums76 : List Nat := [0x120002]
abbrev Nums77 : List Nat := [0x120102]
abbrev Nums78 : List Nat := [
  0x110003, 0x110004, 0x110005, 0x110108, 0x120002, 0x120003, 0x120007, 0x411003, 0x411004]
abbrev Nums79 : List Nat := [0x110003, 0x110006]
abbrev Nums80 : List Nat := [
  0x110003, 0x110004, 0x110005, 0x110006, 0x110108, 0x120002, 0x120003, 0x120007, 0x411003, 0x411004]
abbrev Nums81 : List Nat := [0x140106, 0x510001, 0x511001, 0x511008, 0x511009]
abbrev Nums82 : List Nat := [
  0x120002, 0x120003, 0x120007, 0x140106, 0x411003, 0x411004, 0x510001, 0x511001, 0x511008, 0x511009]
abbrev Nums83 : List Nat := [0x120002, 0x120003, 0x120007, 0x20000A, 0x411003, 0x411004]
abbrev Nums84 : List Nat := [0x110001, 0x110108, 0x120002, 0x120003, 0x120007, 0x411003, 0x411004]
abbrev Nums85 : List Nat := [0x600102, 0x600108]
abbrev Nums86 : List Nat := [0x120002, 0x120003, 0x120007, 0x120010, 0x12001D, 0x411003, 0x411004, 0x420002]
abbrev Nums87 : List Nat := [
  0x120002, 0x120003, 0x120007, 0x140106, 0x140110, 0x411003, 0x411004, 0x510001, 0x510002, 0x511001]
abbrev Nums88 : List Nat := [0x140106, 0x140110, 0x21001A]
abbrev Nums89 : List Nat := [0x110001, 0x110003, 0x110006, 0x110108]
abbrev Nums90 : List Nat := [0x110004, 0x110005, 0x120002, 0x120003, 0x120007, 0x411003, 0x411004]
abbrev Nums91 : List Nat := [0x110001, 0x110004, 0x110005, 0x120002, 0x120003, 0x120007, 0x411003, 0x411004]
abbrev Nums92 : List Nat := [0x110102, 0x120002, 0x120003, 0x120007, 0x411003, 0x411004]
abbrev Nums93 : List Nat := [0x120002, 0x120003, 0x120007, 0x180009, 0x18000A, 0x411003, 0x411004]
abbrev Nums94 : List Nat := [0x110101]
abbrev Nums95 : List Nat := [
  0x110004, 0x110005, 0x110101, 0x110108, 0x120002, 0x120003, 0x120007, 0x411003, 0x411004]
abbrev Nums96 : List Nat := [0x110108, 0x400102, 0x402003]
abbrev Nums97 : List Nat := [0x210012, 0x210013, 0x210014, 0x210015, 0x210016, 0x21001A]
abbrev Nums98 : List Nat := [0x210010, 0x210019]
abbrev Nums99 : List Nat := [
  0x120002, 0x120003, 0x120007, 0x210010, 0x210012, 0x210013, 0x210014, 0x210015, 0x210016, 0x210019, 0x21001A, 0x411003,
  0x411004]
abbrev Nums100 : List Nat := [0x120002, 0x120003, 0x120007, 0x120010, 0x12001D, 0x411003, 0x411004, 0x420105]
abbrev Nums101 : List Nat := [
  0x120002, 0x120003, 0x120007, 0x120010, 0x12001D, 0x140106, 0x140110, 0x200001, 0x210007, 0x21001A, 0x220004, 0x220005,
  0x220010, 0x220011, 0x220012, 0x220013, 0x220014, 0x300008, 0x30000B, 0x320005, 0x411003, 0x411004, 0x420105]
abbrev Nums102 : List Nat := [
  0x120002, 0x120003, 0x120007, 0x120010, 0x12001D, 0x140106, 0x140110, 0x200001, 0x210007, 0x210010, 0x210012, 0x210013,
  0x210014, 0x210015, 0x210016, 0x210019, 0x21001A, 0x220004, 0x220005, 0x220010, 0x220011, 0x220012, 0x220013, 0x220014,
  0x300008, 0x30000B, 0x320005, 0x411003, 0x411004, 0x420105]
abbrev Nums103 : List Nat := [
  0x120002, 0x120003, 0x120007, 0x210012, 0x210013, 0x210014, 0x210015, 0x210016, 0x21001A, 0x411003, 0x411004]
abbrev Nums104 : List Nat := [
  0x120002, 0x120003, 0x120007, 0x140105, 0x140106, 0x140107, 0x140110, 0x411003, 0x411004]
abbrev Nums105 : List Nat := [0x320003, 0x320004]
abbrev Nums106 : List Nat := [0x120002, 0x120003, 0x120007, 0x320003, 0x320004, 0x411003, 0x411004]
abbrev Nums107 : List Nat := [
  0x120002, 0x120003, 0x120007, 0x140106, 0x140110, 0x200001, 0x210007, 0x21001A, 0x220004, 0x220005, 0x220010, 0x220011,
  0x220012, 0x220013, 0x220014, 0x300008, 0x30000B, 0x320003, 0x320004, 0x320005, 0x411003, 0x411004]
abbrev Nums108 : List Nat := [0x210007, 0x210017, 0x21001A]
abbrev Nums109 : List Nat := [0x30000B, 0x411004]
abbrev Nums110 : List Nat := [0x120002, 0x120003, 0x120007, 0x30000B, 0x411003, 0x411004, 0x420107]
abbrev Nums111 : List Nat := [0x400103]
abbrev Nums112 : List Nat := [0x400102, 0x400103]
abbrev Nums113 : List Nat := [0x110108, 0x411003, 0x411004]
abbrev Nums114 : List Nat := [0x320003, 0x320005]
abbrev Nums115 : List Nat := [0x400103, 0x402003, 0x402004]
abbrev Nums116 : List Nat := [0x430015, 0x430016, 0x430017]
abbrev Nums117 : List Nat := [0x110108, 0x400103, 0x402003, 0x411003, 0x411004]
abbrev Nums118 : List Nat := [
  0x110108, 0x400103, 0x402003, 0x402004, 0x411003, 0x411004, 0x430015, 0x430016, 0x430017]
abbrev Nums119 : List Nat := [
  0x120002, 0x120003, 0x120007, 0x120010, 0x12001D, 0x411003, 0x411004, 0x420105, 0x420107]
abbrev Nums120 : List Nat := [
  0x120002, 0x120003, 0x120007, 0x120010, 0x12001D, 0x411003, 0x411004, 0x420002, 0x420105, 0x420107]
abbrev Nums121 : List Nat := [
  0x110108, 0x120002, 0x120003, 0x120007, 0x120010, 0x12001D, 0x400005, 0x400006, 0x400103, 0x402003, 0x402004, 0x411003,
  0x411004, 0x420002, 0x420105, 0x420107, 0x430015, 0x430016, 0x430017]
abbrev Nums122 : List Nat := [
  0x110108, 0x120002, 0x120003, 0x120007, 0x120010, 0x12001D, 0x400005, 0x400006, 0x400101, 0x400103, 0x402003, 0x402004,
  0x411003, 0x411004, 0x420002, 0x420105, 0x420107, 0x430015, 0x430016, 0x430017]
abbrev Nums123 : List Nat := [0x110107, 0x110108]
abbrev Nums124 : List Nat := [0x411003, 0x411004, 0x420104]
abbrev Nums125 : List Nat := [0x120002, 0x120003, 0x120007, 0x30000B, 0x411003, 0x411004, 0x411006]
abbrev Nums126 : List Nat := [0x410104, 0x411005]
abbrev Nums127 : List Nat := [
  0x120002, 0x120003, 0x120007, 0x30000B, 0x410104, 0x411003, 0x411004, 0x411005, 0x411006]
abbrev Nums128 : List Nat := [0x400102]
abbrev Nums129 : List Nat := [0x120002, 0x120003, 0x120007, 0x411003, 0x411004, 0x500002]
abbrev Nums130 : List Nat := [
  0x110004, 0x110005, 0x110101, 0x110108, 0x110109, 0x120002, 0x120003, 0x120007, 0x411003, 0x411004]
abbrev Nums131 : List Nat := [
  0x120002, 0x120003, 0x120007, 0x140106, 0x200001, 0x210006, 0x210007, 0x220004, 0x220005, 0x220010, 0x220011, 0x220012,
  0x220013, 0x220014, 0x300008, 0x30000B, 0x320005, 0x411003, 0x411004]
abbrev Nums132 : List Nat := [
  0x120002, 0x120003, 0x120007, 0x30000B, 0x400102, 0x400103, 0x402003, 0x402004, 0x411003, 0x411004, 0x420107]
abbrev Nums133 : List Nat := [
  0x120002, 0x120003, 0x120007, 0x30000B, 0x400102, 0x400103, 0x402003, 0x402004, 0x411003, 0x411004, 0x420107, 0x420202]
abbrev Nums134 : List Nat := [
  0x110108, 0x120002, 0x120003, 0x120007, 0x30000B, 0x400102, 0x400103, 0x402003, 0x402004, 0x411003, 0x411004, 0x420107,
  0x420202]
abbrev Nums135 : List Nat := [
  0x120002, 0x120003, 0x120007, 0x200001, 0x210007, 0x21001A, 0x220005, 0x411003, 0x411004]
abbrev Nums136 : List Nat := [
  0x120002, 0x120003, 0x120007, 0x140001, 0x200001, 0x210007, 0x21001A, 0x411003, 0x411004]
abbrev Nums137 : List Nat := [0x500001, 0x500002]
abbrev Nums138 : List Nat := [0x120002, 0x120003, 0x120007, 0x140201, 0x140209, 0x411003, 0x411004]
abbrev Nums139 : List Nat := [0x120002, 0x120003, 0x120007, 0x411003, 0x411004, 0x411006]
abbrev Nums140 : List Nat := [
  0x120002, 0x120003, 0x120007, 0x140001, 0x200001, 0x210007, 0x21001A, 0x220005, 0x402003, 0x411003, 0x411004]
abbrev Nums141 : List Nat := [0x400102, 0x402003]
abbrev Nums142 : List Nat := [0x110108, 0x410104]
abbrev Nums143 : List Nat := [0x410002]
abbrev Nums144 : List Nat := [
  0x110108, 0x120002, 0x120003, 0x120007, 0x30000B, 0x402003, 0x410002, 0x410103, 0x411003, 0x411004]
abbrev Nums145 : List Nat := [
  0x120002, 0x120003, 0x120007, 0x30000B, 0x402003, 0x410001, 0x410002, 0x410004, 0x411003, 0x411004]
abbrev Nums146 : List Nat := [
  0x120002, 0x120003, 0x120007, 0x320003, 0x411003, 0x411004, 0x510001, 0x511001, 0x511008, 0x511009]
abbrev Nums147 : List Nat := [0x110108, 0x410004, 0x410104]
abbrev Nums148 : List Nat := [
  0x120002, 0x120003, 0x120007, 0x12020D, 0x200001, 0x210007, 0x21001A, 0x220004, 0x411003, 0x411004, 0x600102]
abbrev Nums149 : List Nat := [
  0x120002, 0x120003, 0x120007, 0x140106, 0x200001, 0x210007, 0x21001A, 0x220004, 0x220005, 0x220010, 0x220011, 0x220012,
  0x220013, 0x220014, 0x300008, 0x30000B, 0x320005, 0x411003, 0x411004]
abbrev Nums150 : List Nat := [
  0x120002, 0x120003, 0x120007, 0x140105, 0x140106, 0x140107, 0x140110, 0x140201, 0x140209, 0x411003, 0x411004]
abbrev Nums151 : List Nat := [0x210007, 0x210012, 0x210017, 0x21001A]
abbrev Nums152 : List Nat := [0x140001]
abbrev Nums153 : List Nat := [0x140106, 0x140110, 0x320003]
abbrev Nums154 : List Nat := [0x110106]
abbrev Nums155 : List Nat := [0x110003, 0x110006, 0x110108, 0x120002, 0x120003, 0x120007, 0x411003, 0x411004]
abbrev Nums156 : List Nat := [0x120002, 0x120003, 0x120007, 0x410104, 0x411003, 0x411004, 0x411005, 0x411006]
abbrev Nums157 : List Nat := [0x120002, 0x120003, 0x120007, 0x20000A, 0x200010, 0x411003, 0x411004]
abbrev Nums158 : List Nat := [
  0x110108, 0x120002, 0x120003, 0x120007, 0x120010, 0x12001D, 0x30000B, 0x400102, 0x400103, 0x402003, 0x402004, 0x411003,
  0x411004, 0x420107, 0x420202]
abbrev Nums159 : List Nat := [0x500001]
abbrev Nums160 : List Nat := [
  0x120002, 0x120003, 0x120007, 0x120010, 0x12001D, 0x411003, 0x411004, 0x420104, 0x420105]
abbrev Nums161 : List Nat := [0x110108, 0x120002, 0x120003, 0x120007, 0x411003, 0x411004]
abbrev Nums162 : List Nat := [
  0x120002, 0x120003, 0x120007, 0x120010, 0x12001D, 0x140106, 0x140110, 0x200001, 0x210007, 0x210010, 0x210012, 0x210013,
  0x210014, 0x210015, 0x210016, 0x210017, 0x210019, 0x21001A, 0x220004, 0x220005, 0x220010, 0x220011, 0x220012, 0x220013,
  0x220014, 0x300008, 0x30000B, 0x320005, 0x411003, 0x411004, 0x420105]
abbrev Nums163 : List Nat := [0x410002, 0x410102]
abbrev Nums164 : List Nat := [0x410002, 0x410101]
abbrev Nums165 : List Nat := [0x120002, 0x120003, 0x120007, 0x210007, 0x411003, 0x411004]
abbrev Nums166 : List Nat := [
  0x120002, 0x120003, 0x120007, 0x12020D, 0x140106, 0x200001, 0x210006, 0x210007, 0x21001A, 0x220004, 0x220005, 0x220010,
  0x220011, 0x220012, 0x220013, 0x220014, 0x300008, 0x30000B, 0x320005, 0x411003, 0x411004]
abbrev Nums167 : List Nat := [0x120002, 0x120003, 0x120007, 0x411003, 0x411004, 0x600102, 0x600108]
abbrev Nums168 : List Nat := [0x402003, 0x402004, 0x411004]
abbrev Nums169 : List Nat := [0x120002, 0x120003, 0x120007, 0x320003, 0x411003, 0x411004]
abbrev Nums170 : List Nat := [0x230001]
abbrev Nums171 : List Nat := [0x120002, 0x120003, 0x120007, 0x210007, 0x210018, 0x21001A, 0x411003, 0x411004]
abbrev Nums172 : List Nat := [0x210011]
abbrev Nums173 : List Nat := [0x110108, 0x120209]
abbrev Nums174 : List Nat := [0x120002, 0x120003, 0x120007, 0x411003, 0x411004, 0x600102]
abbrev Nums175 : List Nat := [0x210007, 0x210011, 0x21001A]
abbrev Nums176 : List Nat := [
  0x120002, 0x120003, 0x120007, 0x180201, 0x180202, 0x180203, 0x180204, 0x411003, 0x411004]
abbrev Nums177 : List Nat := [0x140106, 0x21001A]
abbrev Nums178 : List Nat := [0x120002, 0x120003, 0x120007, 0x200008, 0x200009, 0x20000A, 0x411003, 0x411004]
abbrev Nums179 : List Nat := [0x210007, 0x700101]

end Sys2Proof.Machine
end

