-- ==== Sys2Proof/Laws/Frame/Kept.lean ====
section
/-! SUPPORT. What stays where an operation leaves a choice of parts alone, part by part: one statement for each choice that an operation
makes. -/

namespace Sys2Proof.Machine

/-- What reads pending alone reads the same. -/
abbrev SamePending (s t : State) : Prop :=
  t.pending = s.pending

theorem SamePending.of {M : Touch} {s t : State} (h : t.outside M = s.outside M) (h0 : M.pending = false) : SamePending s t := by
  have e0 := State.pending_of_outside h h0
  exact e0

/-- What reads draws alone reads the same. -/
abbrev SameDraws (s t : State) : Prop :=
  t.draws = s.draws ∧ (∀ a, t.draw a = s.draw a)

theorem SameDraws.of {M : Touch} {s t : State} (h : t.outside M = s.outside M) (h0 : M.draws = false) : SameDraws s t := by
  have e0 := State.draws_of_outside h h0
  have hx : t.rest { pending := true, out := true, ident := true, fuses := true, pins := true, clock := true, pulses := true, chain := true, chainPorts := true, dict := true, anyNum := true, doms := true, results := true, logs := true, power := true, vbat := true, radio := true, ports := true, rxTiles := true, txTiles := true, girth := true, recs := true, sched := true, cinch := true, keeper := true, sb := true, straps := true, journal := true, attached := true, nodeQueues := true, tables := true, windows := true, halter := true, har := true, queues := true, arrivals := true, lacing := true, tree := true, curb := true, concho := true, cores := true, locals := true, buckle := true, edges := true, host := true, flags := true, reports := true } = s.rest { pending := true, out := true, ident := true, fuses := true, pins := true, clock := true, pulses := true, chain := true, chainPorts := true, dict := true, anyNum := true, doms := true, results := true, logs := true, power := true, vbat := true, radio := true, ports := true, rxTiles := true, txTiles := true, girth := true, recs := true, sched := true, cinch := true, keeper := true, sb := true, straps := true, journal := true, attached := true, nodeQueues := true, tables := true, windows := true, halter := true, har := true, queues := true, arrivals := true, lacing := true, tree := true, curb := true, concho := true, cores := true, locals := true, buckle := true, edges := true, host := true, flags := true, reports := true } := by
    simp only [State.rest, State.outside, cond_true, cond_false, e0]
  exact ⟨e0, fun a => (congrArg (fun u : State => u.draw a) hx :)⟩

/-- What reads out alone reads the same. -/
abbrev SameOut (s t : State) : Prop :=
  t.out = s.out

theorem SameOut.of {M : Touch} {s t : State} (h : t.outside M = s.outside M) (h0 : M.out = false) : SameOut s t := by
  have e0 := State.out_of_outside h h0
  exact e0

/-- What reads ident alone reads the same. -/
abbrev SameIdent (s t : State) : Prop :=
  t.ident = s.ident

theorem SameIdent.of {M : Touch} {s t : State} (h : t.outside M = s.outside M) (h0 : M.ident = false) : SameIdent s t := by
  have e0 := State.ident_of_outside h h0
  exact e0

/-- What reads fuses alone reads the same. -/
abbrev SameFuses (s t : State) : Prop :=
  t.fuses = s.fuses

theorem SameFuses.of {M : Touch} {s t : State} (h : t.outside M = s.outside M) (h0 : M.fuses = false) : SameFuses s t := by
  have e0 := State.fuses_of_outside h h0
  exact e0

/-- What reads pins alone reads the same. -/
abbrev SamePins (s t : State) : Prop :=
  t.pins = s.pins

theorem SamePins.of {M : Touch} {s t : State} (h : t.outside M = s.outside M) (h0 : M.pins = false) : SamePins s t := by
  have e0 := State.pins_of_outside h h0
  exact e0

/-- What reads clock alone reads the same. -/
abbrev SameClock (s t : State) : Prop :=
  t.clock = s.clock ∧ t.elapsed = s.elapsed ∧ t.nowNs = s.nowNs ∧ t.nowMs = s.nowMs ∧ t.time80 = s.time80 ∧ t.us256 = s.us256

theorem SameClock.of {M : Touch} {s t : State} (h : t.outside M = s.outside M) (h0 : M.clock = false) : SameClock s t := by
  have e0 := State.clock_of_outside h h0
  have hx : t.rest { pending := true, draws := true, out := true, ident := true, fuses := true, pins := true, pulses := true, chain := true, chainPorts := true, dict := true, anyNum := true, doms := true, results := true, logs := true, power := true, vbat := true, radio := true, ports := true, rxTiles := true, txTiles := true, girth := true, recs := true, sched := true, cinch := true, keeper := true, sb := true, straps := true, journal := true, attached := true, nodeQueues := true, tables := true, windows := true, halter := true, har := true, queues := true, arrivals := true, lacing := true, tree := true, curb := true, concho := true, cores := true, locals := true, buckle := true, edges := true, host := true, flags := true, reports := true } = s.rest { pending := true, draws := true, out := true, ident := true, fuses := true, pins := true, pulses := true, chain := true, chainPorts := true, dict := true, anyNum := true, doms := true, results := true, logs := true, power := true, vbat := true, radio := true, ports := true, rxTiles := true, txTiles := true, girth := true, recs := true, sched := true, cinch := true, keeper := true, sb := true, straps := true, journal := true, attached := true, nodeQueues := true, tables := true, windows := true, halter := true, har := true, queues := true, arrivals := true, lacing := true, tree := true, curb := true, concho := true, cores := true, locals := true, buckle := true, edges := true, host := true, flags := true, reports := true } := by
    simp only [State.rest, State.outside, cond_true, cond_false, e0]
  exact ⟨e0, (congrArg (fun u : State => u.elapsed) hx :), (congrArg (fun u : State => u.nowNs) hx :), (congrArg (fun u : State => u.nowMs) hx :), (congrArg (fun u : State => u.time80) hx :), (congrArg (fun u : State => u.us256) hx :)⟩

/-- What reads pulses alone reads the same. -/
abbrev SamePulses (s t : State) : Prop :=
  t.pulses = s.pulses ∧ (∀ a, t.pulse a = s.pulse a)

theorem SamePulses.of {M : Touch} {s t : State} (h : t.outside M = s.outside M) (h0 : M.pulses = false) : SamePulses s t := by
  have e0 := State.pulses_of_outside h h0
  have hx : t.rest { pending := true, draws := true, out := true, ident := true, fuses := true, pins := true, clock := true, chain := true, chainPorts := true, dict := true, anyNum := true, doms := true, results := true, logs := true, power := true, vbat := true, radio := true, ports := true, rxTiles := true, txTiles := true, girth := true, recs := true, sched := true, cinch := true, keeper := true, sb := true, straps := true, journal := true, attached := true, nodeQueues := true, tables := true, windows := true, halter := true, har := true, queues := true, arrivals := true, lacing := true, tree := true, curb := true, concho := true, cores := true, locals := true, buckle := true, edges := true, host := true, flags := true, reports := true } = s.rest { pending := true, draws := true, out := true, ident := true, fuses := true, pins := true, clock := true, chain := true, chainPorts := true, dict := true, anyNum := true, doms := true, results := true, logs := true, power := true, vbat := true, radio := true, ports := true, rxTiles := true, txTiles := true, girth := true, recs := true, sched := true, cinch := true, keeper := true, sb := true, straps := true, journal := true, attached := true, nodeQueues := true, tables := true, windows := true, halter := true, har := true, queues := true, arrivals := true, lacing := true, tree := true, curb := true, concho := true, cores := true, locals := true, buckle := true, edges := true, host := true, flags := true, reports := true } := by
    simp only [State.rest, State.outside, cond_true, cond_false, e0]
  exact ⟨e0, fun a => (congrArg (fun u : State => u.pulse a) hx :)⟩

/-- What reads chain alone reads the same. -/
abbrev SameChain (s t : State) : Prop :=
  t.chain.topo = s.chain.topo ∧ t.chain.enumRun = s.chain.enumRun ∧ t.chain.claim = s.chain.claim ∧ t.chain.headAt = s.chain.headAt ∧ t.chain.fullOwed = s.chain.fullOwed ∧ t.chain.nextTag = s.chain.nextTag ∧ t.chain.opens = s.chain.opens ∧ t.chain.late = s.chain.late

theorem SameChain.of {M : Touch} {s t : State} (h : t.outside M = s.outside M) (h0 : M.chain = false) : SameChain s t := by
  have e0 := State.chain_topo_of_outside h h0
  have e1 := State.chain_enumRun_of_outside h h0
  have e2 := State.chain_claim_of_outside h h0
  have e3 := State.chain_headAt_of_outside h h0
  have e4 := State.chain_fullOwed_of_outside h h0
  have e5 := State.chain_nextTag_of_outside h h0
  have e6 := State.chain_opens_of_outside h h0
  have e7 := State.chain_late_of_outside h h0
  exact ⟨e0, e1, e2, e3, e4, e5, e6, e7⟩

/-- What reads chainPorts alone reads the same. -/
abbrev SameChainPorts (s t : State) : Prop :=
  t.chain.portUp = s.chain.portUp ∧ t.chain.portDn = s.chain.portDn ∧ (∀ a b, t.chainReady a b = s.chainReady a b) ∧ (∀ a, t.cport a = s.cport a)

theorem SameChainPorts.of {M : Touch} {s t : State} (h : t.outside M = s.outside M) (h0 : M.chainPorts = false) : SameChainPorts s t := by
  have e0 := State.chain_portUp_of_outside h h0
  have e1 := State.chain_portDn_of_outside h h0
  have hx : t.rest { pending := true, draws := true, out := true, ident := true, fuses := true, pins := true, clock := true, pulses := true, chain := true, dict := true, anyNum := true, doms := true, results := true, logs := true, power := true, vbat := true, radio := true, ports := true, rxTiles := true, txTiles := true, girth := true, recs := true, sched := true, cinch := true, keeper := true, sb := true, straps := true, journal := true, attached := true, nodeQueues := true, tables := true, windows := true, halter := true, har := true, queues := true, arrivals := true, lacing := true, tree := true, curb := true, concho := true, cores := true, locals := true, buckle := true, edges := true, host := true, flags := true, reports := true } = s.rest { pending := true, draws := true, out := true, ident := true, fuses := true, pins := true, clock := true, pulses := true, chain := true, dict := true, anyNum := true, doms := true, results := true, logs := true, power := true, vbat := true, radio := true, ports := true, rxTiles := true, txTiles := true, girth := true, recs := true, sched := true, cinch := true, keeper := true, sb := true, straps := true, journal := true, attached := true, nodeQueues := true, tables := true, windows := true, halter := true, har := true, queues := true, arrivals := true, lacing := true, tree := true, curb := true, concho := true, cores := true, locals := true, buckle := true, edges := true, host := true, flags := true, reports := true } := by
    simp only [State.rest, State.outside, cond_true, cond_false, e0, e1]
  exact ⟨e0, e1, fun a b => (congrArg (fun u : State => u.chainReady a b) hx :), fun a => (congrArg (fun u : State => u.cport a) hx :)⟩

/-- What reads dict alone reads the same. -/
abbrev SameDict (s t : State) : Prop :=
  t.dict.ready = s.dict.ready ∧ t.dict.alarmAt = s.dict.alarmAt ∧ t.dict.stored = s.dict.stored ∧ t.dict.waiting = s.dict.waiting ∧ t.dict.held = s.dict.held ∧ t.dict.subs = s.dict.subs ∧ t.dict.transfers = s.dict.transfers ∧ t.dict.txn = s.dict.txn ∧ t.dict.outcomes = s.dict.outcomes ∧ t.dict.graces = s.dict.graces ∧ t.dict.bankC = s.dict.bankC ∧ t.dict.storing = s.dict.storing ∧ t.dict.nextReq = s.dict.nextReq ∧ t.dict.asked = s.dict.asked

theorem SameDict.of {M : Touch} {s t : State} (h : t.outside M = s.outside M) (h0 : M.dict = false) : SameDict s t := by
  have e0 := State.dict_ready_of_outside h h0
  have e1 := State.dict_alarmAt_of_outside h h0
  have e2 := State.dict_stored_of_outside h h0
  have e3 := State.dict_waiting_of_outside h h0
  have e4 := State.dict_held_of_outside h h0
  have e5 := State.dict_subs_of_outside h h0
  have e6 := State.dict_transfers_of_outside h h0
  have e7 := State.dict_txn_of_outside h h0
  have e8 := State.dict_outcomes_of_outside h h0
  have e9 := State.dict_graces_of_outside h h0
  have e10 := State.dict_bankC_of_outside h h0
  have e11 := State.dict_storing_of_outside h h0
  have e12 := State.dict_nextReq_of_outside h h0
  have e13 := State.dict_asked_of_outside h h0
  exact ⟨e0, e1, e2, e3, e4, e5, e6, e7, e8, e9, e10, e11, e12, e13⟩

/-- What reads nums alone reads the same. -/
abbrev SameNums (s t : State) : Prop :=
  t.dict.nums = s.dict.nums ∧ (∀ a, t.rd a = s.rd a) ∧ (∀ a b, t.rdI a b = s.rdI a b) ∧ (∀ a, t.rxBusy a = s.rxBusy a) ∧ (∀ a, t.rxPort a = s.rxPort a) ∧ (∀ a, t.rxMode a = s.rxMode a)

theorem SameNums.of {M : Touch} {s t : State} (h : t.outside M = s.outside M) (h0 : M.quiet = true) : SameNums s t := by
  have e0 := State.dict_nums_of_outside h h0
  have hx : t.rest { pending := true, draws := true, out := true, ident := true, fuses := true, pins := true, clock := true, pulses := true, chain := true, chainPorts := true, dict := true, doms := true, results := true, logs := true, power := true, vbat := true, radio := true, ports := true, rxTiles := true, txTiles := true, girth := true, recs := true, sched := true, cinch := true, keeper := true, sb := true, straps := true, journal := true, attached := true, nodeQueues := true, tables := true, windows := true, halter := true, har := true, queues := true, arrivals := true, lacing := true, tree := true, curb := true, concho := true, cores := true, locals := true, buckle := true, edges := true, host := true, flags := true, reports := true } = s.rest { pending := true, draws := true, out := true, ident := true, fuses := true, pins := true, clock := true, pulses := true, chain := true, chainPorts := true, dict := true, doms := true, results := true, logs := true, power := true, vbat := true, radio := true, ports := true, rxTiles := true, txTiles := true, girth := true, recs := true, sched := true, cinch := true, keeper := true, sb := true, straps := true, journal := true, attached := true, nodeQueues := true, tables := true, windows := true, halter := true, har := true, queues := true, arrivals := true, lacing := true, tree := true, curb := true, concho := true, cores := true, locals := true, buckle := true, edges := true, host := true, flags := true, reports := true } := by
    simp only [State.rest, State.outside, cond_true, cond_false, e0]
  exact ⟨e0, fun a => (congrArg (fun u : State => u.rd a) hx :), fun a b => (congrArg (fun u : State => u.rdI a b) hx :), fun a => (congrArg (fun u : State => u.rxBusy a) hx :), fun a => (congrArg (fun u : State => u.rxPort a) hx :), fun a => (congrArg (fun u : State => u.rxMode a) hx :)⟩

/-- What reads doms alone reads the same. -/
abbrev SameDoms (s t : State) : Prop :=
  t.dict.doms = s.dict.doms ∧ (∀ a, t.dom a = s.dom a)

theorem SameDoms.of {M : Touch} {s t : State} (h : t.outside M = s.outside M) (h0 : M.doms = false) : SameDoms s t := by
  have e0 := State.dict_doms_of_outside h h0
  have hx : t.rest { pending := true, draws := true, out := true, ident := true, fuses := true, pins := true, clock := true, pulses := true, chain := true, chainPorts := true, dict := true, anyNum := true, results := true, logs := true, power := true, vbat := true, radio := true, ports := true, rxTiles := true, txTiles := true, girth := true, recs := true, sched := true, cinch := true, keeper := true, sb := true, straps := true, journal := true, attached := true, nodeQueues := true, tables := true, windows := true, halter := true, har := true, queues := true, arrivals := true, lacing := true, tree := true, curb := true, concho := true, cores := true, locals := true, buckle := true, edges := true, host := true, flags := true, reports := true } = s.rest { pending := true, draws := true, out := true, ident := true, fuses := true, pins := true, clock := true, pulses := true, chain := true, chainPorts := true, dict := true, anyNum := true, results := true, logs := true, power := true, vbat := true, radio := true, ports := true, rxTiles := true, txTiles := true, girth := true, recs := true, sched := true, cinch := true, keeper := true, sb := true, straps := true, journal := true, attached := true, nodeQueues := true, tables := true, windows := true, halter := true, har := true, queues := true, arrivals := true, lacing := true, tree := true, curb := true, concho := true, cores := true, locals := true, buckle := true, edges := true, host := true, flags := true, reports := true } := by
    simp only [State.rest, State.outside, cond_true, cond_false, e0]
  exact ⟨e0, fun a => (congrArg (fun u : State => u.dom a) hx :)⟩

/-- What reads results alone reads the same. -/
abbrev SameResults (s t : State) : Prop :=
  t.dict.results = s.dict.results ∧ (∀ a, t.res a = s.res a)

theorem SameResults.of {M : Touch} {s t : State} (h : t.outside M = s.outside M) (h0 : M.results = false) : SameResults s t := by
  have e0 := State.dict_results_of_outside h h0
  have hx : t.rest { pending := true, draws := true, out := true, ident := true, fuses := true, pins := true, clock := true, pulses := true, chain := true, chainPorts := true, dict := true, anyNum := true, doms := true, logs := true, power := true, vbat := true, radio := true, ports := true, rxTiles := true, txTiles := true, girth := true, recs := true, sched := true, cinch := true, keeper := true, sb := true, straps := true, journal := true, attached := true, nodeQueues := true, tables := true, windows := true, halter := true, har := true, queues := true, arrivals := true, lacing := true, tree := true, curb := true, concho := true, cores := true, locals := true, buckle := true, edges := true, host := true, flags := true, reports := true } = s.rest { pending := true, draws := true, out := true, ident := true, fuses := true, pins := true, clock := true, pulses := true, chain := true, chainPorts := true, dict := true, anyNum := true, doms := true, logs := true, power := true, vbat := true, radio := true, ports := true, rxTiles := true, txTiles := true, girth := true, recs := true, sched := true, cinch := true, keeper := true, sb := true, straps := true, journal := true, attached := true, nodeQueues := true, tables := true, windows := true, halter := true, har := true, queues := true, arrivals := true, lacing := true, tree := true, curb := true, concho := true, cores := true, locals := true, buckle := true, edges := true, host := true, flags := true, reports := true } := by
    simp only [State.rest, State.outside, cond_true, cond_false, e0]
  exact ⟨e0, fun a => (congrArg (fun u : State => u.res a) hx :)⟩

/-- What reads logs alone reads the same. -/
abbrev SameLogs (s t : State) : Prop :=
  t.dict.clampLog = s.dict.clampLog ∧ t.dict.errLog = s.dict.errLog

theorem SameLogs.of {M : Touch} {s t : State} (h : t.outside M = s.outside M) (h0 : M.logs = false) : SameLogs s t := by
  have e0 := State.dict_clampLog_of_outside h h0
  have e1 := State.dict_errLog_of_outside h h0
  exact ⟨e0, e1⟩

/-- What reads power alone reads the same. -/
abbrev SamePower (s t : State) : Prop :=
  t.power = s.power ∧ (∀ a, t.coreIsland a = s.coreIsland a)

theorem SamePower.of {M : Touch} {s t : State} (h : t.outside M = s.outside M) (h0 : M.power = false) : SamePower s t := by
  have e0 := State.power_of_outside h h0
  have hx : t.rest { pending := true, draws := true, out := true, ident := true, fuses := true, pins := true, clock := true, pulses := true, chain := true, chainPorts := true, dict := true, anyNum := true, doms := true, results := true, logs := true, vbat := true, radio := true, ports := true, rxTiles := true, txTiles := true, girth := true, recs := true, sched := true, cinch := true, keeper := true, sb := true, straps := true, journal := true, attached := true, nodeQueues := true, tables := true, windows := true, halter := true, har := true, queues := true, arrivals := true, lacing := true, tree := true, curb := true, concho := true, cores := true, locals := true, buckle := true, edges := true, host := true, flags := true, reports := true } = s.rest { pending := true, draws := true, out := true, ident := true, fuses := true, pins := true, clock := true, pulses := true, chain := true, chainPorts := true, dict := true, anyNum := true, doms := true, results := true, logs := true, vbat := true, radio := true, ports := true, rxTiles := true, txTiles := true, girth := true, recs := true, sched := true, cinch := true, keeper := true, sb := true, straps := true, journal := true, attached := true, nodeQueues := true, tables := true, windows := true, halter := true, har := true, queues := true, arrivals := true, lacing := true, tree := true, curb := true, concho := true, cores := true, locals := true, buckle := true, edges := true, host := true, flags := true, reports := true } := by
    simp only [State.rest, State.outside, cond_true, cond_false, e0]
  exact ⟨e0, fun a => (congrArg (fun u : State => u.coreIsland a) hx :)⟩

/-- What reads vbat alone reads the same. -/
abbrev SameVbat (s t : State) : Prop :=
  t.vbat = s.vbat

theorem SameVbat.of {M : Touch} {s t : State} (h : t.outside M = s.outside M) (h0 : M.vbat = false) : SameVbat s t := by
  have e0 := State.vbat_of_outside h h0
  exact e0

/-- What reads radio alone reads the same. -/
abbrev SameRadio (s t : State) : Prop :=
  t.radio.cal = s.radio.cal ∧ t.radio.locking = s.radio.locking ∧ t.radio.duty = s.radio.duty ∧ t.radio.dutyMin = s.radio.dutyMin ∧ t.radio.dup = s.radio.dup ∧ t.radio.bsQueue = s.radio.bsQueue ∧ t.radio.bsEngines = s.radio.bsEngines ∧ (∀ a, t.blindNow a = s.blindNow a)

theorem SameRadio.of {M : Touch} {s t : State} (h : t.outside M = s.outside M) (h0 : M.radio = false) : SameRadio s t := by
  have e0 := State.radio_cal_of_outside h h0
  have e1 := State.radio_locking_of_outside h h0
  have e2 := State.radio_duty_of_outside h h0
  have e3 := State.radio_dutyMin_of_outside h h0
  have e4 := State.radio_dup_of_outside h h0
  have e5 := State.radio_bsQueue_of_outside h h0
  have e6 := State.radio_bsEngines_of_outside h h0
  have hx : t.rest { pending := true, draws := true, out := true, ident := true, fuses := true, pins := true, clock := true, pulses := true, chain := true, chainPorts := true, dict := true, anyNum := true, doms := true, results := true, logs := true, power := true, vbat := true, ports := true, rxTiles := true, txTiles := true, girth := true, recs := true, sched := true, cinch := true, keeper := true, sb := true, straps := true, journal := true, attached := true, nodeQueues := true, tables := true, windows := true, halter := true, har := true, queues := true, arrivals := true, lacing := true, tree := true, curb := true, concho := true, cores := true, locals := true, buckle := true, edges := true, host := true, flags := true, reports := true } = s.rest { pending := true, draws := true, out := true, ident := true, fuses := true, pins := true, clock := true, pulses := true, chain := true, chainPorts := true, dict := true, anyNum := true, doms := true, results := true, logs := true, power := true, vbat := true, ports := true, rxTiles := true, txTiles := true, girth := true, recs := true, sched := true, cinch := true, keeper := true, sb := true, straps := true, journal := true, attached := true, nodeQueues := true, tables := true, windows := true, halter := true, har := true, queues := true, arrivals := true, lacing := true, tree := true, curb := true, concho := true, cores := true, locals := true, buckle := true, edges := true, host := true, flags := true, reports := true } := by
    simp only [State.rest, State.outside, cond_true, cond_false, e0, e1, e2, e3, e4, e5, e6]
  exact ⟨e0, e1, e2, e3, e4, e5, e6, fun a => (congrArg (fun u : State => u.blindNow a) hx :)⟩

/-- What reads ports alone reads the same. -/
abbrev SamePorts (s t : State) : Prop :=
  t.radio.ports = s.radio.ports ∧ (∀ a, t.port a = s.port a)

theorem SamePorts.of {M : Touch} {s t : State} (h : t.outside M = s.outside M) (h0 : M.ports = false) : SamePorts s t := by
  have e0 := State.radio_ports_of_outside h h0
  have hx : t.rest { pending := true, draws := true, out := true, ident := true, fuses := true, pins := true, clock := true, pulses := true, chain := true, chainPorts := true, dict := true, anyNum := true, doms := true, results := true, logs := true, power := true, vbat := true, radio := true, rxTiles := true, txTiles := true, girth := true, recs := true, sched := true, cinch := true, keeper := true, sb := true, straps := true, journal := true, attached := true, nodeQueues := true, tables := true, windows := true, halter := true, har := true, queues := true, arrivals := true, lacing := true, tree := true, curb := true, concho := true, cores := true, locals := true, buckle := true, edges := true, host := true, flags := true, reports := true } = s.rest { pending := true, draws := true, out := true, ident := true, fuses := true, pins := true, clock := true, pulses := true, chain := true, chainPorts := true, dict := true, anyNum := true, doms := true, results := true, logs := true, power := true, vbat := true, radio := true, rxTiles := true, txTiles := true, girth := true, recs := true, sched := true, cinch := true, keeper := true, sb := true, straps := true, journal := true, attached := true, nodeQueues := true, tables := true, windows := true, halter := true, har := true, queues := true, arrivals := true, lacing := true, tree := true, curb := true, concho := true, cores := true, locals := true, buckle := true, edges := true, host := true, flags := true, reports := true } := by
    simp only [State.rest, State.outside, cond_true, cond_false, e0]
  exact ⟨e0, fun a => (congrArg (fun u : State => u.port a) hx :)⟩

/-- What reads rxTiles alone reads the same. -/
abbrev SameRxTiles (s t : State) : Prop :=
  t.radio.rx = s.radio.rx ∧ (∀ a, t.rx a = s.rx a)

theorem SameRxTiles.of {M : Touch} {s t : State} (h : t.outside M = s.outside M) (h0 : M.rxTiles = false) : SameRxTiles s t := by
  have e0 := State.radio_rx_of_outside h h0
  have hx : t.rest { pending := true, draws := true, out := true, ident := true, fuses := true, pins := true, clock := true, pulses := true, chain := true, chainPorts := true, dict := true, anyNum := true, doms := true, results := true, logs := true, power := true, vbat := true, radio := true, ports := true, txTiles := true, girth := true, recs := true, sched := true, cinch := true, keeper := true, sb := true, straps := true, journal := true, attached := true, nodeQueues := true, tables := true, windows := true, halter := true, har := true, queues := true, arrivals := true, lacing := true, tree := true, curb := true, concho := true, cores := true, locals := true, buckle := true, edges := true, host := true, flags := true, reports := true } = s.rest { pending := true, draws := true, out := true, ident := true, fuses := true, pins := true, clock := true, pulses := true, chain := true, chainPorts := true, dict := true, anyNum := true, doms := true, results := true, logs := true, power := true, vbat := true, radio := true, ports := true, txTiles := true, girth := true, recs := true, sched := true, cinch := true, keeper := true, sb := true, straps := true, journal := true, attached := true, nodeQueues := true, tables := true, windows := true, halter := true, har := true, queues := true, arrivals := true, lacing := true, tree := true, curb := true, concho := true, cores := true, locals := true, buckle := true, edges := true, host := true, flags := true, reports := true } := by
    simp only [State.rest, State.outside, cond_true, cond_false, e0]
  exact ⟨e0, fun a => (congrArg (fun u : State => u.rx a) hx :)⟩

/-- What reads txTiles alone reads the same. -/
abbrev SameTxTiles (s t : State) : Prop :=
  t.radio.tx = s.radio.tx ∧ (∀ a, t.tx a = s.tx a)

theorem SameTxTiles.of {M : Touch} {s t : State} (h : t.outside M = s.outside M) (h0 : M.txTiles = false) : SameTxTiles s t := by
  have e0 := State.radio_tx_of_outside h h0
  have hx : t.rest { pending := true, draws := true, out := true, ident := true, fuses := true, pins := true, clock := true, pulses := true, chain := true, chainPorts := true, dict := true, anyNum := true, doms := true, results := true, logs := true, power := true, vbat := true, radio := true, ports := true, rxTiles := true, girth := true, recs := true, sched := true, cinch := true, keeper := true, sb := true, straps := true, journal := true, attached := true, nodeQueues := true, tables := true, windows := true, halter := true, har := true, queues := true, arrivals := true, lacing := true, tree := true, curb := true, concho := true, cores := true, locals := true, buckle := true, edges := true, host := true, flags := true, reports := true } = s.rest { pending := true, draws := true, out := true, ident := true, fuses := true, pins := true, clock := true, pulses := true, chain := true, chainPorts := true, dict := true, anyNum := true, doms := true, results := true, logs := true, power := true, vbat := true, radio := true, ports := true, rxTiles := true, girth := true, recs := true, sched := true, cinch := true, keeper := true, sb := true, straps := true, journal := true, attached := true, nodeQueues := true, tables := true, windows := true, halter := true, har := true, queues := true, arrivals := true, lacing := true, tree := true, curb := true, concho := true, cores := true, locals := true, buckle := true, edges := true, host := true, flags := true, reports := true } := by
    simp only [State.rest, State.outside, cond_true, cond_false, e0]
  exact ⟨e0, fun a => (congrArg (fun u : State => u.tx a) hx :)⟩

/-- What reads girth alone reads the same. -/
abbrev SameGirth (s t : State) : Prop :=
  t.girth.forwards = s.girth.forwards ∧ t.girth.casts = s.girth.casts

theorem SameGirth.of {M : Touch} {s t : State} (h : t.outside M = s.outside M) (h0 : M.girth = false) : SameGirth s t := by
  have e0 := State.girth_forwards_of_outside h h0
  have e1 := State.girth_casts_of_outside h h0
  exact ⟨e0, e1⟩

/-- What reads recs alone reads the same. -/
abbrev SameRecs (s t : State) : Prop :=
  t.girth.recs = s.girth.recs ∧ (∀ a, t.nrec a = s.nrec a)

theorem SameRecs.of {M : Touch} {s t : State} (h : t.outside M = s.outside M) (h0 : M.recs = false) : SameRecs s t := by
  have e0 := State.girth_recs_of_outside h h0
  have hx : t.rest { pending := true, draws := true, out := true, ident := true, fuses := true, pins := true, clock := true, pulses := true, chain := true, chainPorts := true, dict := true, anyNum := true, doms := true, results := true, logs := true, power := true, vbat := true, radio := true, ports := true, rxTiles := true, txTiles := true, girth := true, sched := true, cinch := true, keeper := true, sb := true, straps := true, journal := true, attached := true, nodeQueues := true, tables := true, windows := true, halter := true, har := true, queues := true, arrivals := true, lacing := true, tree := true, curb := true, concho := true, cores := true, locals := true, buckle := true, edges := true, host := true, flags := true, reports := true } = s.rest { pending := true, draws := true, out := true, ident := true, fuses := true, pins := true, clock := true, pulses := true, chain := true, chainPorts := true, dict := true, anyNum := true, doms := true, results := true, logs := true, power := true, vbat := true, radio := true, ports := true, rxTiles := true, txTiles := true, girth := true, sched := true, cinch := true, keeper := true, sb := true, straps := true, journal := true, attached := true, nodeQueues := true, tables := true, windows := true, halter := true, har := true, queues := true, arrivals := true, lacing := true, tree := true, curb := true, concho := true, cores := true, locals := true, buckle := true, edges := true, host := true, flags := true, reports := true } := by
    simp only [State.rest, State.outside, cond_true, cond_false, e0]
  exact ⟨e0, fun a => (congrArg (fun u : State => u.nrec a) hx :)⟩

/-- What reads sched alone reads the same. -/
abbrev SameSched (s t : State) : Prop :=
  t.girth.sched = s.girth.sched

theorem SameSched.of {M : Touch} {s t : State} (h : t.outside M = s.outside M) (h0 : M.sched = false) : SameSched s t := by
  have e0 := State.girth_sched_of_outside h h0
  exact e0

/-- What reads cinch alone reads the same. -/
abbrev SameCinch (s t : State) : Prop :=
  t.girth.cinch = s.girth.cinch

theorem SameCinch.of {M : Touch} {s t : State} (h : t.outside M = s.outside M) (h0 : M.cinch = false) : SameCinch s t := by
  have e0 := State.girth_cinch_of_outside h h0
  exact e0

/-- What reads keeper alone reads the same. -/
abbrev SameKeeper (s t : State) : Prop :=
  t.keeper = s.keeper ∧ (∀ a, t.slot a = s.slot a)

theorem SameKeeper.of {M : Touch} {s t : State} (h : t.outside M = s.outside M) (h0 : M.keeper = false) : SameKeeper s t := by
  have e0 := State.keeper_of_outside h h0
  have hx : t.rest { pending := true, draws := true, out := true, ident := true, fuses := true, pins := true, clock := true, pulses := true, chain := true, chainPorts := true, dict := true, anyNum := true, doms := true, results := true, logs := true, power := true, vbat := true, radio := true, ports := true, rxTiles := true, txTiles := true, girth := true, recs := true, sched := true, cinch := true, sb := true, straps := true, journal := true, attached := true, nodeQueues := true, tables := true, windows := true, halter := true, har := true, queues := true, arrivals := true, lacing := true, tree := true, curb := true, concho := true, cores := true, locals := true, buckle := true, edges := true, host := true, flags := true, reports := true } = s.rest { pending := true, draws := true, out := true, ident := true, fuses := true, pins := true, clock := true, pulses := true, chain := true, chainPorts := true, dict := true, anyNum := true, doms := true, results := true, logs := true, power := true, vbat := true, radio := true, ports := true, rxTiles := true, txTiles := true, girth := true, recs := true, sched := true, cinch := true, sb := true, straps := true, journal := true, attached := true, nodeQueues := true, tables := true, windows := true, halter := true, har := true, queues := true, arrivals := true, lacing := true, tree := true, curb := true, concho := true, cores := true, locals := true, buckle := true, edges := true, host := true, flags := true, reports := true } := by
    simp only [State.rest, State.outside, cond_true, cond_false, e0]
  exact ⟨e0, fun a => (congrArg (fun u : State => u.slot a) hx :)⟩

/-- What reads sb alone reads the same. -/
abbrev SameSb (s t : State) : Prop :=
  t.sb.outstanding = s.sb.outstanding ∧ t.sb.waiting = s.sb.waiting ∧ t.sb.layout = s.sb.layout ∧ t.sb.since = s.sb.since ∧ t.sb.fresh = s.sb.fresh ∧ t.sb.compare = s.sb.compare ∧ t.sb.flushLeft = s.sb.flushLeft

theorem SameSb.of {M : Touch} {s t : State} (h : t.outside M = s.outside M) (h0 : M.sb = false) : SameSb s t := by
  have e0 := State.sb_outstanding_of_outside h h0
  have e1 := State.sb_waiting_of_outside h h0
  have e2 := State.sb_layout_of_outside h h0
  have e3 := State.sb_since_of_outside h h0
  have e4 := State.sb_fresh_of_outside h h0
  have e5 := State.sb_compare_of_outside h h0
  have e6 := State.sb_flushLeft_of_outside h h0
  exact ⟨e0, e1, e2, e3, e4, e5, e6⟩

/-- What reads straps alone reads the same. -/
abbrev SameStraps (s t : State) : Prop :=
  t.sb.queues = s.sb.queues ∧ (∀ a, t.strap a = s.strap a)

theorem SameStraps.of {M : Touch} {s t : State} (h : t.outside M = s.outside M) (h0 : M.straps = false) : SameStraps s t := by
  have e0 := State.sb_queues_of_outside h h0
  have hx : t.rest { pending := true, draws := true, out := true, ident := true, fuses := true, pins := true, clock := true, pulses := true, chain := true, chainPorts := true, dict := true, anyNum := true, doms := true, results := true, logs := true, power := true, vbat := true, radio := true, ports := true, rxTiles := true, txTiles := true, girth := true, recs := true, sched := true, cinch := true, keeper := true, sb := true, journal := true, attached := true, nodeQueues := true, tables := true, windows := true, halter := true, har := true, queues := true, arrivals := true, lacing := true, tree := true, curb := true, concho := true, cores := true, locals := true, buckle := true, edges := true, host := true, flags := true, reports := true } = s.rest { pending := true, draws := true, out := true, ident := true, fuses := true, pins := true, clock := true, pulses := true, chain := true, chainPorts := true, dict := true, anyNum := true, doms := true, results := true, logs := true, power := true, vbat := true, radio := true, ports := true, rxTiles := true, txTiles := true, girth := true, recs := true, sched := true, cinch := true, keeper := true, sb := true, journal := true, attached := true, nodeQueues := true, tables := true, windows := true, halter := true, har := true, queues := true, arrivals := true, lacing := true, tree := true, curb := true, concho := true, cores := true, locals := true, buckle := true, edges := true, host := true, flags := true, reports := true } := by
    simp only [State.rest, State.outside, cond_true, cond_false, e0]
  exact ⟨e0, fun a => (congrArg (fun u : State => u.strap a) hx :)⟩

/-- What reads journal alone reads the same. -/
abbrev SameJournal (s t : State) : Prop :=
  t.sb.journal = s.sb.journal

theorem SameJournal.of {M : Touch} {s t : State} (h : t.outside M = s.outside M) (h0 : M.journal = false) : SameJournal s t := by
  have e0 := State.sb_journal_of_outside h h0
  exact e0

/-- What reads attached alone reads the same. -/
abbrev SameAttached (s t : State) : Prop :=
  t.sb.mem = s.sb.mem

theorem SameAttached.of {M : Touch} {s t : State} (h : t.outside M = s.outside M) (h0 : M.attached = false) : SameAttached s t := by
  have e0 := State.sb_mem_of_outside h h0
  exact e0

/-- What reads nodeQueues alone reads the same. -/
abbrev SameNodeQueues (s t : State) : Prop :=
  t.sb.nodes = s.sb.nodes ∧ (∀ a, t.nodeQ a = s.nodeQ a)

theorem SameNodeQueues.of {M : Touch} {s t : State} (h : t.outside M = s.outside M) (h0 : M.nodeQueues = false) : SameNodeQueues s t := by
  have e0 := State.sb_nodes_of_outside h h0
  have hx : t.rest { pending := true, draws := true, out := true, ident := true, fuses := true, pins := true, clock := true, pulses := true, chain := true, chainPorts := true, dict := true, anyNum := true, doms := true, results := true, logs := true, power := true, vbat := true, radio := true, ports := true, rxTiles := true, txTiles := true, girth := true, recs := true, sched := true, cinch := true, keeper := true, sb := true, straps := true, journal := true, attached := true, tables := true, windows := true, halter := true, har := true, queues := true, arrivals := true, lacing := true, tree := true, curb := true, concho := true, cores := true, locals := true, buckle := true, edges := true, host := true, flags := true, reports := true } = s.rest { pending := true, draws := true, out := true, ident := true, fuses := true, pins := true, clock := true, pulses := true, chain := true, chainPorts := true, dict := true, anyNum := true, doms := true, results := true, logs := true, power := true, vbat := true, radio := true, ports := true, rxTiles := true, txTiles := true, girth := true, recs := true, sched := true, cinch := true, keeper := true, sb := true, straps := true, journal := true, attached := true, tables := true, windows := true, halter := true, har := true, queues := true, arrivals := true, lacing := true, tree := true, curb := true, concho := true, cores := true, locals := true, buckle := true, edges := true, host := true, flags := true, reports := true } := by
    simp only [State.rest, State.outside, cond_true, cond_false, e0]
  exact ⟨e0, fun a => (congrArg (fun u : State => u.nodeQ a) hx :)⟩

/-- What reads tables alone reads the same. -/
abbrev SameTables (s t : State) : Prop :=
  t.tables.prefixes = s.tables.prefixes ∧ t.tables.badWords = s.tables.badWords ∧ t.tables.nextHops = s.tables.nextHops ∧ t.tables.copyLists = s.tables.copyLists ∧ t.tables.badWays = s.tables.badWays ∧ t.tables.badOverflow = s.tables.badOverflow ∧ t.tables.ageNext = s.tables.ageNext ∧ t.tables.ops = s.tables.ops ∧ t.tables.filter = s.tables.filter ∧ (∀ a b c d, t.prefix? a b c d = s.prefix? a b c d) ∧ (∀ a b c, t.bridleFind a b c = s.bridleFind a b c)

theorem SameTables.of {M : Touch} {s t : State} (h : t.outside M = s.outside M) (h0 : M.tables = false) : SameTables s t := by
  have e0 := State.tables_prefixes_of_outside h h0
  have e1 := State.tables_badWords_of_outside h h0
  have e2 := State.tables_nextHops_of_outside h h0
  have e3 := State.tables_copyLists_of_outside h h0
  have e4 := State.tables_badWays_of_outside h h0
  have e5 := State.tables_badOverflow_of_outside h h0
  have e6 := State.tables_ageNext_of_outside h h0
  have e7 := State.tables_ops_of_outside h h0
  have e8 := State.tables_filter_of_outside h h0
  have hx : t.rest { pending := true, draws := true, out := true, ident := true, fuses := true, pins := true, clock := true, pulses := true, chain := true, chainPorts := true, dict := true, anyNum := true, doms := true, results := true, logs := true, power := true, vbat := true, radio := true, ports := true, rxTiles := true, txTiles := true, girth := true, recs := true, sched := true, cinch := true, keeper := true, sb := true, straps := true, journal := true, attached := true, nodeQueues := true, windows := true, halter := true, har := true, queues := true, arrivals := true, lacing := true, tree := true, curb := true, concho := true, cores := true, locals := true, buckle := true, edges := true, host := true, flags := true, reports := true } = s.rest { pending := true, draws := true, out := true, ident := true, fuses := true, pins := true, clock := true, pulses := true, chain := true, chainPorts := true, dict := true, anyNum := true, doms := true, results := true, logs := true, power := true, vbat := true, radio := true, ports := true, rxTiles := true, txTiles := true, girth := true, recs := true, sched := true, cinch := true, keeper := true, sb := true, straps := true, journal := true, attached := true, nodeQueues := true, windows := true, halter := true, har := true, queues := true, arrivals := true, lacing := true, tree := true, curb := true, concho := true, cores := true, locals := true, buckle := true, edges := true, host := true, flags := true, reports := true } := by
    simp only [State.rest, State.outside, cond_true, cond_false, e0, e1, e2, e3, e4, e5, e6, e7, e8]
  exact ⟨e0, e1, e2, e3, e4, e5, e6, e7, e8, fun a b c d => (congrArg (fun u : State => u.prefix? a b c d) hx :), fun a b c => (congrArg (fun u : State => u.bridleFind a b c) hx :)⟩

/-- What reads windows alone reads the same. -/
abbrev SameWindows (s t : State) : Prop :=
  t.tables.windows = s.tables.windows ∧ (∀ a, t.window a = s.window a)

theorem SameWindows.of {M : Touch} {s t : State} (h : t.outside M = s.outside M) (h0 : M.windows = false) : SameWindows s t := by
  have e0 := State.tables_windows_of_outside h h0
  have hx : t.rest { pending := true, draws := true, out := true, ident := true, fuses := true, pins := true, clock := true, pulses := true, chain := true, chainPorts := true, dict := true, anyNum := true, doms := true, results := true, logs := true, power := true, vbat := true, radio := true, ports := true, rxTiles := true, txTiles := true, girth := true, recs := true, sched := true, cinch := true, keeper := true, sb := true, straps := true, journal := true, attached := true, nodeQueues := true, tables := true, halter := true, har := true, queues := true, arrivals := true, lacing := true, tree := true, curb := true, concho := true, cores := true, locals := true, buckle := true, edges := true, host := true, flags := true, reports := true } = s.rest { pending := true, draws := true, out := true, ident := true, fuses := true, pins := true, clock := true, pulses := true, chain := true, chainPorts := true, dict := true, anyNum := true, doms := true, results := true, logs := true, power := true, vbat := true, radio := true, ports := true, rxTiles := true, txTiles := true, girth := true, recs := true, sched := true, cinch := true, keeper := true, sb := true, straps := true, journal := true, attached := true, nodeQueues := true, tables := true, halter := true, har := true, queues := true, arrivals := true, lacing := true, tree := true, curb := true, concho := true, cores := true, locals := true, buckle := true, edges := true, host := true, flags := true, reports := true } := by
    simp only [State.rest, State.outside, cond_true, cond_false, e0]
  exact ⟨e0, fun a => (congrArg (fun u : State => u.window a) hx :)⟩

/-- What reads halter alone reads the same. -/
abbrev SameHalter (s t : State) : Prop :=
  t.tables.halter = s.tables.halter ∧ t.tables.overflow = s.tables.overflow ∧ t.tables.lfsr = s.tables.lfsr ∧ (∀ a b, t.halterFind a b = s.halterFind a b)

theorem SameHalter.of {M : Touch} {s t : State} (h : t.outside M = s.outside M) (h0 : M.halter = false) : SameHalter s t := by
  have e0 := State.tables_halter_of_outside h h0
  have e1 := State.tables_overflow_of_outside h h0
  have e2 := State.tables_lfsr_of_outside h h0
  have hx : t.rest { pending := true, draws := true, out := true, ident := true, fuses := true, pins := true, clock := true, pulses := true, chain := true, chainPorts := true, dict := true, anyNum := true, doms := true, results := true, logs := true, power := true, vbat := true, radio := true, ports := true, rxTiles := true, txTiles := true, girth := true, recs := true, sched := true, cinch := true, keeper := true, sb := true, straps := true, journal := true, attached := true, nodeQueues := true, tables := true, windows := true, har := true, queues := true, arrivals := true, lacing := true, tree := true, curb := true, concho := true, cores := true, locals := true, buckle := true, edges := true, host := true, flags := true, reports := true } = s.rest { pending := true, draws := true, out := true, ident := true, fuses := true, pins := true, clock := true, pulses := true, chain := true, chainPorts := true, dict := true, anyNum := true, doms := true, results := true, logs := true, power := true, vbat := true, radio := true, ports := true, rxTiles := true, txTiles := true, girth := true, recs := true, sched := true, cinch := true, keeper := true, sb := true, straps := true, journal := true, attached := true, nodeQueues := true, tables := true, windows := true, har := true, queues := true, arrivals := true, lacing := true, tree := true, curb := true, concho := true, cores := true, locals := true, buckle := true, edges := true, host := true, flags := true, reports := true } := by
    simp only [State.rest, State.outside, cond_true, cond_false, e0, e1, e2]
  exact ⟨e0, e1, e2, fun a b => (congrArg (fun u : State => u.halterFind a b) hx :)⟩

/-- What reads har alone reads the same. -/
abbrev SameHar (s t : State) : Prop :=
  t.har.eth = s.har.eth ∧ t.har.freed = s.har.freed ∧ t.har.freedAt = s.har.freedAt ∧ t.har.leaving = s.har.leaving

theorem SameHar.of {M : Touch} {s t : State} (h : t.outside M = s.outside M) (h0 : M.har = false) : SameHar s t := by
  have e0 := State.har_eth_of_outside h h0
  have e1 := State.har_freed_of_outside h h0
  have e2 := State.har_freedAt_of_outside h h0
  have e3 := State.har_leaving_of_outside h h0
  exact ⟨e0, e1, e2, e3⟩

/-- What reads queues alone reads the same. -/
abbrev SameQueues (s t : State) : Prop :=
  t.har.queues = s.har.queues ∧ (∀ a b, t.outQ a b = s.outQ a b)

theorem SameQueues.of {M : Touch} {s t : State} (h : t.outside M = s.outside M) (h0 : M.queues = false) : SameQueues s t := by
  have e0 := State.har_queues_of_outside h h0
  have hx : t.rest { pending := true, draws := true, out := true, ident := true, fuses := true, pins := true, clock := true, pulses := true, chain := true, chainPorts := true, dict := true, anyNum := true, doms := true, results := true, logs := true, power := true, vbat := true, radio := true, ports := true, rxTiles := true, txTiles := true, girth := true, recs := true, sched := true, cinch := true, keeper := true, sb := true, straps := true, journal := true, attached := true, nodeQueues := true, tables := true, windows := true, halter := true, har := true, arrivals := true, lacing := true, tree := true, curb := true, concho := true, cores := true, locals := true, buckle := true, edges := true, host := true, flags := true, reports := true } = s.rest { pending := true, draws := true, out := true, ident := true, fuses := true, pins := true, clock := true, pulses := true, chain := true, chainPorts := true, dict := true, anyNum := true, doms := true, results := true, logs := true, power := true, vbat := true, radio := true, ports := true, rxTiles := true, txTiles := true, girth := true, recs := true, sched := true, cinch := true, keeper := true, sb := true, straps := true, journal := true, attached := true, nodeQueues := true, tables := true, windows := true, halter := true, har := true, arrivals := true, lacing := true, tree := true, curb := true, concho := true, cores := true, locals := true, buckle := true, edges := true, host := true, flags := true, reports := true } := by
    simp only [State.rest, State.outside, cond_true, cond_false, e0]
  exact ⟨e0, fun a b => (congrArg (fun u : State => u.outQ a b) hx :)⟩

/-- What reads arrivals alone reads the same. -/
abbrev SameArrivals (s t : State) : Prop :=
  t.har.arrivals = s.har.arrivals

theorem SameArrivals.of {M : Touch} {s t : State} (h : t.outside M = s.outside M) (h0 : M.arrivals = false) : SameArrivals s t := by
  have e0 := State.har_arrivals_of_outside h h0
  exact e0

/-- What reads lacing alone reads the same. -/
abbrev SameLacing (s t : State) : Prop :=
  t.lacing = s.lacing ∧ (∀ a, t.camp a = s.camp a)

theorem SameLacing.of {M : Touch} {s t : State} (h : t.outside M = s.outside M) (h0 : M.lacing = false) : SameLacing s t := by
  have e0 := State.lacing_of_outside h h0
  have hx : t.rest { pending := true, draws := true, out := true, ident := true, fuses := true, pins := true, clock := true, pulses := true, chain := true, chainPorts := true, dict := true, anyNum := true, doms := true, results := true, logs := true, power := true, vbat := true, radio := true, ports := true, rxTiles := true, txTiles := true, girth := true, recs := true, sched := true, cinch := true, keeper := true, sb := true, straps := true, journal := true, attached := true, nodeQueues := true, tables := true, windows := true, halter := true, har := true, queues := true, arrivals := true, tree := true, curb := true, concho := true, cores := true, locals := true, buckle := true, edges := true, host := true, flags := true, reports := true } = s.rest { pending := true, draws := true, out := true, ident := true, fuses := true, pins := true, clock := true, pulses := true, chain := true, chainPorts := true, dict := true, anyNum := true, doms := true, results := true, logs := true, power := true, vbat := true, radio := true, ports := true, rxTiles := true, txTiles := true, girth := true, recs := true, sched := true, cinch := true, keeper := true, sb := true, straps := true, journal := true, attached := true, nodeQueues := true, tables := true, windows := true, halter := true, har := true, queues := true, arrivals := true, tree := true, curb := true, concho := true, cores := true, locals := true, buckle := true, edges := true, host := true, flags := true, reports := true } := by
    simp only [State.rest, State.outside, cond_true, cond_false, e0]
  exact ⟨e0, fun a => (congrArg (fun u : State => u.camp a) hx :)⟩

/-- What reads tree alone reads the same. -/
abbrev SameTree (s t : State) : Prop :=
  t.tree = s.tree ∧ (∀ a, t.bank a = s.bank a)

theorem SameTree.of {M : Touch} {s t : State} (h : t.outside M = s.outside M) (h0 : M.tree = false) : SameTree s t := by
  have e0 := State.tree_of_outside h h0
  have hx : t.rest { pending := true, draws := true, out := true, ident := true, fuses := true, pins := true, clock := true, pulses := true, chain := true, chainPorts := true, dict := true, anyNum := true, doms := true, results := true, logs := true, power := true, vbat := true, radio := true, ports := true, rxTiles := true, txTiles := true, girth := true, recs := true, sched := true, cinch := true, keeper := true, sb := true, straps := true, journal := true, attached := true, nodeQueues := true, tables := true, windows := true, halter := true, har := true, queues := true, arrivals := true, lacing := true, curb := true, concho := true, cores := true, locals := true, buckle := true, edges := true, host := true, flags := true, reports := true } = s.rest { pending := true, draws := true, out := true, ident := true, fuses := true, pins := true, clock := true, pulses := true, chain := true, chainPorts := true, dict := true, anyNum := true, doms := true, results := true, logs := true, power := true, vbat := true, radio := true, ports := true, rxTiles := true, txTiles := true, girth := true, recs := true, sched := true, cinch := true, keeper := true, sb := true, straps := true, journal := true, attached := true, nodeQueues := true, tables := true, windows := true, halter := true, har := true, queues := true, arrivals := true, lacing := true, curb := true, concho := true, cores := true, locals := true, buckle := true, edges := true, host := true, flags := true, reports := true } := by
    simp only [State.rest, State.outside, cond_true, cond_false, e0]
  exact ⟨e0, fun a => (congrArg (fun u : State => u.bank a) hx :)⟩

/-- What reads curb alone reads the same. -/
abbrev SameCurb (s t : State) : Prop :=
  t.curb = s.curb ∧ (∀ a b, t.shaper a b = s.shaper a b) ∧ (∀ a b, t.policer a b = s.policer a b)

theorem SameCurb.of {M : Touch} {s t : State} (h : t.outside M = s.outside M) (h0 : M.curb = false) : SameCurb s t := by
  have e0 := State.curb_of_outside h h0
  have hx : t.rest { pending := true, draws := true, out := true, ident := true, fuses := true, pins := true, clock := true, pulses := true, chain := true, chainPorts := true, dict := true, anyNum := true, doms := true, results := true, logs := true, power := true, vbat := true, radio := true, ports := true, rxTiles := true, txTiles := true, girth := true, recs := true, sched := true, cinch := true, keeper := true, sb := true, straps := true, journal := true, attached := true, nodeQueues := true, tables := true, windows := true, halter := true, har := true, queues := true, arrivals := true, lacing := true, tree := true, concho := true, cores := true, locals := true, buckle := true, edges := true, host := true, flags := true, reports := true } = s.rest { pending := true, draws := true, out := true, ident := true, fuses := true, pins := true, clock := true, pulses := true, chain := true, chainPorts := true, dict := true, anyNum := true, doms := true, results := true, logs := true, power := true, vbat := true, radio := true, ports := true, rxTiles := true, txTiles := true, girth := true, recs := true, sched := true, cinch := true, keeper := true, sb := true, straps := true, journal := true, attached := true, nodeQueues := true, tables := true, windows := true, halter := true, har := true, queues := true, arrivals := true, lacing := true, tree := true, concho := true, cores := true, locals := true, buckle := true, edges := true, host := true, flags := true, reports := true } := by
    simp only [State.rest, State.outside, cond_true, cond_false, e0]
  exact ⟨e0, fun a b => (congrArg (fun u : State => u.shaper a b) hx :), fun a b => (congrArg (fun u : State => u.policer a b) hx :)⟩

/-- What reads concho alone reads the same. -/
abbrev SameConcho (s t : State) : Prop :=
  t.concho = s.concho

theorem SameConcho.of {M : Touch} {s t : State} (h : t.outside M = s.outside M) (h0 : M.concho = false) : SameConcho s t := by
  have e0 := State.concho_of_outside h h0
  exact e0

/-- What reads cores alone reads the same. -/
abbrev SameCores (s t : State) : Prop :=
  t.cores.core = s.cores.core ∧ t.cores.stale = s.cores.stale ∧ t.cores.windows = s.cores.windows ∧ t.cores.pushed = s.cores.pushed ∧ (∀ a, t.core a = s.core a)

theorem SameCores.of {M : Touch} {s t : State} (h : t.outside M = s.outside M) (h0 : M.cores = false) : SameCores s t := by
  have e0 := State.cores_core_of_outside h h0
  have e1 := State.cores_stale_of_outside h h0
  have e2 := State.cores_windows_of_outside h h0
  have e3 := State.cores_pushed_of_outside h h0
  have hx : t.rest { pending := true, draws := true, out := true, ident := true, fuses := true, pins := true, clock := true, pulses := true, chain := true, chainPorts := true, dict := true, anyNum := true, doms := true, results := true, logs := true, power := true, vbat := true, radio := true, ports := true, rxTiles := true, txTiles := true, girth := true, recs := true, sched := true, cinch := true, keeper := true, sb := true, straps := true, journal := true, attached := true, nodeQueues := true, tables := true, windows := true, halter := true, har := true, queues := true, arrivals := true, lacing := true, tree := true, curb := true, concho := true, locals := true, buckle := true, edges := true, host := true, flags := true, reports := true } = s.rest { pending := true, draws := true, out := true, ident := true, fuses := true, pins := true, clock := true, pulses := true, chain := true, chainPorts := true, dict := true, anyNum := true, doms := true, results := true, logs := true, power := true, vbat := true, radio := true, ports := true, rxTiles := true, txTiles := true, girth := true, recs := true, sched := true, cinch := true, keeper := true, sb := true, straps := true, journal := true, attached := true, nodeQueues := true, tables := true, windows := true, halter := true, har := true, queues := true, arrivals := true, lacing := true, tree := true, curb := true, concho := true, locals := true, buckle := true, edges := true, host := true, flags := true, reports := true } := by
    simp only [State.rest, State.outside, cond_true, cond_false, e0, e1, e2, e3]
  exact ⟨e0, e1, e2, e3, fun a => (congrArg (fun u : State => u.core a) hx :)⟩

/-- What reads locals alone reads the same. -/
abbrev SameLocals (s t : State) : Prop :=
  t.cores.mem = s.cores.mem

theorem SameLocals.of {M : Touch} {s t : State} (h : t.outside M = s.outside M) (h0 : M.locals = false) : SameLocals s t := by
  have e0 := State.cores_mem_of_outside h h0
  exact e0

/-- What reads buckle alone reads the same. -/
abbrev SameBuckle (s t : State) : Prop :=
  t.buckle.pend = s.buckle.pend ∧ t.buckle.mask = s.buckle.mask ∧ t.buckle.last = s.buckle.last

theorem SameBuckle.of {M : Touch} {s t : State} (h : t.outside M = s.outside M) (h0 : M.buckle = false) : SameBuckle s t := by
  have e0 := State.buckle_pend_of_outside h h0
  have e1 := State.buckle_mask_of_outside h h0
  have e2 := State.buckle_last_of_outside h h0
  exact ⟨e0, e1, e2⟩

/-- What reads edges alone reads the same. -/
abbrev SameEdges (s t : State) : Prop :=
  t.buckle.edges = s.buckle.edges

theorem SameEdges.of {M : Touch} {s t : State} (h : t.outside M = s.outside M) (h0 : M.edges = false) : SameEdges s t := by
  have e0 := State.buckle_edges_of_outside h h0
  exact e0

/-- What reads host alone reads the same. -/
abbrev SameHost (s t : State) : Prop :=
  t.host.linkUp = s.host.linkUp ∧ t.host.rx = s.host.rx ∧ t.host.tx = s.host.tx ∧ t.host.lastTx = s.host.lastTx ∧ t.host.causes = s.host.causes ∧ t.host.vectors = s.host.vectors ∧ t.host.functionMask = s.host.functionMask ∧ t.host.snapSeq = s.host.snapSeq ∧ t.host.snap = s.host.snap ∧ t.host.eventSel = s.host.eventSel ∧ t.host.mbxReq = s.host.mbxReq ∧ t.host.mailbox = s.host.mailbox ∧ t.host.mailboxWait = s.host.mailboxWait ∧ t.host.mailboxHeld = s.host.mailboxHeld ∧ t.host.nrData = s.host.nrData ∧ t.host.nrShort = s.host.nrShort ∧ t.host.nrCode = s.host.nrCode ∧ t.host.nextHandle = s.host.nextHandle ∧ t.host.cutSince = s.host.cutSince ∧ t.host.cutPosted = s.host.cutPosted ∧ (∀ a, t.cause a = s.cause a)

theorem SameHost.of {M : Touch} {s t : State} (h : t.outside M = s.outside M) (h0 : M.host = false) : SameHost s t := by
  have e0 := State.host_linkUp_of_outside h h0
  have e1 := State.host_rx_of_outside h h0
  have e2 := State.host_tx_of_outside h h0
  have e3 := State.host_lastTx_of_outside h h0
  have e4 := State.host_causes_of_outside h h0
  have e5 := State.host_vectors_of_outside h h0
  have e6 := State.host_functionMask_of_outside h h0
  have e7 := State.host_snapSeq_of_outside h h0
  have e8 := State.host_snap_of_outside h h0
  have e9 := State.host_eventSel_of_outside h h0
  have e10 := State.host_mbxReq_of_outside h h0
  have e11 := State.host_mailbox_of_outside h h0
  have e12 := State.host_mailboxWait_of_outside h h0
  have e13 := State.host_mailboxHeld_of_outside h h0
  have e14 := State.host_nrData_of_outside h h0
  have e15 := State.host_nrShort_of_outside h h0
  have e16 := State.host_nrCode_of_outside h h0
  have e17 := State.host_nextHandle_of_outside h h0
  have e18 := State.host_cutSince_of_outside h h0
  have e19 := State.host_cutPosted_of_outside h h0
  have hx : t.rest { pending := true, draws := true, out := true, ident := true, fuses := true, pins := true, clock := true, pulses := true, chain := true, chainPorts := true, dict := true, anyNum := true, doms := true, results := true, logs := true, power := true, vbat := true, radio := true, ports := true, rxTiles := true, txTiles := true, girth := true, recs := true, sched := true, cinch := true, keeper := true, sb := true, straps := true, journal := true, attached := true, nodeQueues := true, tables := true, windows := true, halter := true, har := true, queues := true, arrivals := true, lacing := true, tree := true, curb := true, concho := true, cores := true, locals := true, buckle := true, edges := true, flags := true, reports := true } = s.rest { pending := true, draws := true, out := true, ident := true, fuses := true, pins := true, clock := true, pulses := true, chain := true, chainPorts := true, dict := true, anyNum := true, doms := true, results := true, logs := true, power := true, vbat := true, radio := true, ports := true, rxTiles := true, txTiles := true, girth := true, recs := true, sched := true, cinch := true, keeper := true, sb := true, straps := true, journal := true, attached := true, nodeQueues := true, tables := true, windows := true, halter := true, har := true, queues := true, arrivals := true, lacing := true, tree := true, curb := true, concho := true, cores := true, locals := true, buckle := true, edges := true, flags := true, reports := true } := by
    simp only [State.rest, State.outside, cond_true, cond_false, e0, e1, e2, e3, e4, e5, e6, e7, e8, e9, e10, e11, e12, e13, e14, e15, e16, e17, e18, e19]
  exact ⟨e0, e1, e2, e3, e4, e5, e6, e7, e8, e9, e10, e11, e12, e13, e14, e15, e16, e17, e18, e19, fun a => (congrArg (fun u : State => u.cause a) hx :)⟩

/-- What reads flags alone reads the same. -/
abbrev SameFlags (s t : State) : Prop :=
  t.host.flags = s.host.flags

theorem SameFlags.of {M : Touch} {s t : State} (h : t.outside M = s.outside M) (h0 : M.flags = false) : SameFlags s t := by
  have e0 := State.host_flags_of_outside h h0
  exact e0

/-- What reads reports alone reads the same. -/
abbrev SameReports (s t : State) : Prop :=
  t.host.reports = s.host.reports ∧ t.host.reportsDue = s.host.reportsDue

theorem SameReports.of {M : Touch} {s t : State} (h : t.outside M = s.outside M) (h0 : M.reports = false) : SameReports s t := by
  have e0 := State.host_reports_of_outside h h0
  have e1 := State.host_reportsDue_of_outside h h0
  exact ⟨e0, e1⟩

/-- What reads dict and nums and doms and results and logs alone reads the same. -/
abbrev SameDictAll (s t : State) : Prop :=
  t.dict = s.dict

theorem SameDictAll.of {M : Touch} {s t : State} (h : t.outside M = s.outside M) (h0 : M.dict = false) (h1 : M.quiet = true) (h2 : M.doms = false) (h3 : M.results = false) (h4 : M.logs = false) : SameDictAll s t := by
  exact State.dict_of_outside h h0 h1 h2 h3 h4

/-- What reads sb and straps and journal and attached and nodeQueues alone reads the same. -/
abbrev SameSbAll (s t : State) : Prop :=
  t.sb = s.sb

theorem SameSbAll.of {M : Touch} {s t : State} (h : t.outside M = s.outside M) (h0 : M.sb = false) (h1 : M.straps = false) (h2 : M.journal = false) (h3 : M.attached = false) (h4 : M.nodeQueues = false) : SameSbAll s t := by
  exact State.sb_of_outside h h0 h1 h2 h3 h4

/-- What reads buckle and edges alone reads the same. -/
abbrev SameBuckleAll (s t : State) : Prop :=
  t.buckle = s.buckle

theorem SameBuckleAll.of {M : Touch} {s t : State} (h : t.outside M = s.outside M) (h0 : M.buckle = false) (h1 : M.edges = false) : SameBuckleAll s t := by
  exact State.buckle_of_outside h h0 h1

/-- What reads host and flags and reports alone reads the same. -/
abbrev SameHostAll (s t : State) : Prop :=
  t.host = s.host

theorem SameHostAll.of {M : Touch} {s t : State} (h : t.outside M = s.outside M) (h0 : M.host = false) (h1 : M.flags = false) (h2 : M.reports = false) : SameHostAll s t := by
  exact State.host_of_outside h h0 h1 h2

/-- What reads cores and locals alone reads the same. -/
abbrev SameCoresAll (s t : State) : Prop :=
  t.cores = s.cores

theorem SameCoresAll.of {M : Touch} {s t : State} (h : t.outside M = s.outside M) (h0 : M.cores = false) (h1 : M.locals = false) : SameCoresAll s t := by
  exact State.cores_of_outside h h0 h1

/-- What reads girth and recs and sched and cinch alone reads the same. -/
abbrev SameGirthAll (s t : State) : Prop :=
  t.girth = s.girth

theorem SameGirthAll.of {M : Touch} {s t : State} (h : t.outside M = s.outside M) (h0 : M.girth = false) (h1 : M.recs = false) (h2 : M.sched = false) (h3 : M.cinch = false) : SameGirthAll s t := by
  exact State.girth_of_outside h h0 h1 h2 h3

/-- What reads tables and windows and halter alone reads the same. -/
abbrev SameTablesAll (s t : State) : Prop :=
  t.tables = s.tables

theorem SameTablesAll.of {M : Touch} {s t : State} (h : t.outside M = s.outside M) (h0 : M.tables = false) (h1 : M.windows = false) (h2 : M.halter = false) : SameTablesAll s t := by
  exact State.tables_of_outside h h0 h1 h2

/-- What reads har and queues and arrivals alone reads the same. -/
abbrev SameHarAll (s t : State) : Prop :=
  t.har = s.har

theorem SameHarAll.of {M : Touch} {s t : State} (h : t.outside M = s.outside M) (h0 : M.har = false) (h1 : M.queues = false) (h2 : M.arrivals = false) : SameHarAll s t := by
  exact State.har_of_outside h h0 h1 h2

/-- What reads chain and chainPorts alone reads the same. -/
abbrev SameChainAll (s t : State) : Prop :=
  t.chain = s.chain

theorem SameChainAll.of {M : Touch} {s t : State} (h : t.outside M = s.outside M) (h0 : M.chain = false) (h1 : M.chainPorts = false) : SameChainAll s t := by
  exact State.chain_of_outside h h0 h1

/-- What reads radio and ports and rxTiles and txTiles alone reads the same. -/
abbrev SameRadioAll (s t : State) : Prop :=
  t.radio = s.radio

theorem SameRadioAll.of {M : Touch} {s t : State} (h : t.outside M = s.outside M) (h0 : M.radio = false) (h1 : M.ports = false) (h2 : M.rxTiles = false) (h3 : M.txTiles = false) : SameRadioAll s t := by
  exact State.radio_of_outside h h0 h1 h2 h3

/-- What reads power and rxTiles and txTiles alone reads the same. -/
abbrev SamePowerRxTilesTxTiles (s t : State) : Prop :=
  (∀ a, t.isl a = s.isl a)

theorem SamePowerRxTilesTxTiles.of {M : Touch} {s t : State} (h : t.outside M = s.outside M) (h0 : M.power = false) (h1 : M.rxTiles = false) (h2 : M.txTiles = false) : SamePowerRxTilesTxTiles s t := by
  have e0 := State.power_of_outside h h0
  have e1 := State.radio_rx_of_outside h h1
  have e2 := State.radio_tx_of_outside h h2
  have hx : t.rest { pending := true, draws := true, out := true, ident := true, fuses := true, pins := true, clock := true, pulses := true, chain := true, chainPorts := true, dict := true, anyNum := true, doms := true, results := true, logs := true, vbat := true, radio := true, ports := true, girth := true, recs := true, sched := true, cinch := true, keeper := true, sb := true, straps := true, journal := true, attached := true, nodeQueues := true, tables := true, windows := true, halter := true, har := true, queues := true, arrivals := true, lacing := true, tree := true, curb := true, concho := true, cores := true, locals := true, buckle := true, edges := true, host := true, flags := true, reports := true } = s.rest { pending := true, draws := true, out := true, ident := true, fuses := true, pins := true, clock := true, pulses := true, chain := true, chainPorts := true, dict := true, anyNum := true, doms := true, results := true, logs := true, vbat := true, radio := true, ports := true, girth := true, recs := true, sched := true, cinch := true, keeper := true, sb := true, straps := true, journal := true, attached := true, nodeQueues := true, tables := true, windows := true, halter := true, har := true, queues := true, arrivals := true, lacing := true, tree := true, curb := true, concho := true, cores := true, locals := true, buckle := true, edges := true, host := true, flags := true, reports := true } := by
    simp only [State.rest, State.outside, cond_true, cond_false, e0, e1, e2]
  exact fun a => (congrArg (fun u : State => u.isl a) hx :)

/-- What reads dict and power alone reads the same. -/
abbrev SameDictPower (s t : State) : Prop :=
  t.alive = s.alive

theorem SameDictPower.of {M : Touch} {s t : State} (h : t.outside M = s.outside M) (h0 : M.dict = false) (h1 : M.power = false) : SameDictPower s t := by
  have e0 := State.dict_ready_of_outside h h0
  have e1 := State.dict_alarmAt_of_outside h h0
  have e2 := State.dict_stored_of_outside h h0
  have e3 := State.dict_waiting_of_outside h h0
  have e4 := State.dict_held_of_outside h h0
  have e5 := State.dict_subs_of_outside h h0
  have e6 := State.dict_transfers_of_outside h h0
  have e7 := State.dict_txn_of_outside h h0
  have e8 := State.dict_outcomes_of_outside h h0
  have e9 := State.dict_graces_of_outside h h0
  have e10 := State.dict_bankC_of_outside h h0
  have e11 := State.dict_storing_of_outside h h0
  have e12 := State.dict_nextReq_of_outside h h0
  have e13 := State.dict_asked_of_outside h h0
  have e14 := State.power_of_outside h h1
  have hx : t.rest { pending := true, draws := true, out := true, ident := true, fuses := true, pins := true, clock := true, pulses := true, chain := true, chainPorts := true, anyNum := true, doms := true, results := true, logs := true, vbat := true, radio := true, ports := true, rxTiles := true, txTiles := true, girth := true, recs := true, sched := true, cinch := true, keeper := true, sb := true, straps := true, journal := true, attached := true, nodeQueues := true, tables := true, windows := true, halter := true, har := true, queues := true, arrivals := true, lacing := true, tree := true, curb := true, concho := true, cores := true, locals := true, buckle := true, edges := true, host := true, flags := true, reports := true } = s.rest { pending := true, draws := true, out := true, ident := true, fuses := true, pins := true, clock := true, pulses := true, chain := true, chainPorts := true, anyNum := true, doms := true, results := true, logs := true, vbat := true, radio := true, ports := true, rxTiles := true, txTiles := true, girth := true, recs := true, sched := true, cinch := true, keeper := true, sb := true, straps := true, journal := true, attached := true, nodeQueues := true, tables := true, windows := true, halter := true, har := true, queues := true, arrivals := true, lacing := true, tree := true, curb := true, concho := true, cores := true, locals := true, buckle := true, edges := true, host := true, flags := true, reports := true } := by
    simp only [State.rest, State.outside, cond_true, cond_false, e0, e1, e2, e3, e4, e5, e6, e7, e8, e9, e10, e11, e12, e13, e14]
  exact (congrArg (fun u : State => u.alive) hx :)

/-- What reads dict and nums alone reads the same. -/
abbrev SameDictNums (s t : State) : Prop :=
  t.standby = s.standby

theorem SameDictNums.of {M : Touch} {s t : State} (h : t.outside M = s.outside M) (h0 : M.dict = false) (h1 : M.quiet = true) : SameDictNums s t := by
  have e0 := State.dict_ready_of_outside h h0
  have e1 := State.dict_alarmAt_of_outside h h0
  have e2 := State.dict_stored_of_outside h h0
  have e3 := State.dict_waiting_of_outside h h0
  have e4 := State.dict_held_of_outside h h0
  have e5 := State.dict_subs_of_outside h h0
  have e6 := State.dict_transfers_of_outside h h0
  have e7 := State.dict_txn_of_outside h h0
  have e8 := State.dict_outcomes_of_outside h h0
  have e9 := State.dict_graces_of_outside h h0
  have e10 := State.dict_bankC_of_outside h h0
  have e11 := State.dict_storing_of_outside h h0
  have e12 := State.dict_nextReq_of_outside h h0
  have e13 := State.dict_asked_of_outside h h0
  have e14 := State.dict_nums_of_outside h h1
  have hx : t.rest { pending := true, draws := true, out := true, ident := true, fuses := true, pins := true, clock := true, pulses := true, chain := true, chainPorts := true, doms := true, results := true, logs := true, power := true, vbat := true, radio := true, ports := true, rxTiles := true, txTiles := true, girth := true, recs := true, sched := true, cinch := true, keeper := true, sb := true, straps := true, journal := true, attached := true, nodeQueues := true, tables := true, windows := true, halter := true, har := true, queues := true, arrivals := true, lacing := true, tree := true, curb := true, concho := true, cores := true, locals := true, buckle := true, edges := true, host := true, flags := true, reports := true } = s.rest { pending := true, draws := true, out := true, ident := true, fuses := true, pins := true, clock := true, pulses := true, chain := true, chainPorts := true, doms := true, results := true, logs := true, power := true, vbat := true, radio := true, ports := true, rxTiles := true, txTiles := true, girth := true, recs := true, sched := true, cinch := true, keeper := true, sb := true, straps := true, journal := true, attached := true, nodeQueues := true, tables := true, windows := true, halter := true, har := true, queues := true, arrivals := true, lacing := true, tree := true, curb := true, concho := true, cores := true, locals := true, buckle := true, edges := true, host := true, flags := true, reports := true } := by
    simp only [State.rest, State.outside, cond_true, cond_false, e0, e1, e2, e3, e4, e5, e6, e7, e8, e9, e10, e11, e12, e13, e14]
  exact (congrArg (fun u : State => u.standby) hx :)

/-- What reads clock and nums and ports alone reads the same. -/
abbrev SameClockNumsPorts (s t : State) : Prop :=
  (∀ a, t.dwellOver a = s.dwellOver a)

theorem SameClockNumsPorts.of {M : Touch} {s t : State} (h : t.outside M = s.outside M) (h0 : M.clock = false) (h1 : M.quiet = true) (h2 : M.ports = false) : SameClockNumsPorts s t := by
  have e0 := State.clock_of_outside h h0
  have e1 := State.dict_nums_of_outside h h1
  have e2 := State.radio_ports_of_outside h h2
  have hx : t.rest { pending := true, draws := true, out := true, ident := true, fuses := true, pins := true, pulses := true, chain := true, chainPorts := true, dict := true, doms := true, results := true, logs := true, power := true, vbat := true, radio := true, rxTiles := true, txTiles := true, girth := true, recs := true, sched := true, cinch := true, keeper := true, sb := true, straps := true, journal := true, attached := true, nodeQueues := true, tables := true, windows := true, halter := true, har := true, queues := true, arrivals := true, lacing := true, tree := true, curb := true, concho := true, cores := true, locals := true, buckle := true, edges := true, host := true, flags := true, reports := true } = s.rest { pending := true, draws := true, out := true, ident := true, fuses := true, pins := true, pulses := true, chain := true, chainPorts := true, dict := true, doms := true, results := true, logs := true, power := true, vbat := true, radio := true, rxTiles := true, txTiles := true, girth := true, recs := true, sched := true, cinch := true, keeper := true, sb := true, straps := true, journal := true, attached := true, nodeQueues := true, tables := true, windows := true, halter := true, har := true, queues := true, arrivals := true, lacing := true, tree := true, curb := true, concho := true, cores := true, locals := true, buckle := true, edges := true, host := true, flags := true, reports := true } := by
    simp only [State.rest, State.outside, cond_true, cond_false, e0, e1, e2]
  exact fun a => (congrArg (fun u : State => u.dwellOver a) hx :)

/-- Every part but these is kept: nums. -/
abbrev Kept1 (s t : State) : Prop :=
  SamePending s t ∧ SameDraws s t ∧ SameOut s t ∧ SameIdent s t ∧ SameFuses s t ∧ SamePins s t ∧ SameClock s t ∧ SamePulses s t ∧ SameChain s t ∧ SameChainPorts s t ∧ SameDict s t ∧ SameDoms s t ∧ SameResults s t ∧ SameLogs s t ∧ SamePower s t ∧ SameVbat s t ∧ SameRadio s t ∧ SamePorts s t ∧ SameRxTiles s t ∧ SameTxTiles s t ∧ SameGirth s t ∧ SameRecs s t ∧ SameSched s t ∧ SameCinch s t ∧ SameKeeper s t ∧ SameSb s t ∧ SameStraps s t ∧ SameJournal s t ∧ SameAttached s t ∧ SameNodeQueues s t ∧ SameTables s t ∧ SameWindows s t ∧ SameHalter s t ∧ SameHar s t ∧ SameQueues s t ∧ SameArrivals s t ∧ SameLacing s t ∧ SameTree s t ∧ SameCurb s t ∧ SameConcho s t ∧ SameCores s t ∧ SameLocals s t ∧ SameBuckle s t ∧ SameEdges s t ∧ SameHost s t ∧ SameFlags s t ∧ SameReports s t ∧ SameSbAll s t ∧ SameBuckleAll s t ∧ SameHostAll s t ∧ SameCoresAll s t ∧ SameGirthAll s t ∧ SameTablesAll s t ∧ SameHarAll s t ∧ SameChainAll s t ∧ SameRadioAll s t ∧ SamePowerRxTilesTxTiles s t ∧ SameDictPower s t

theorem Kept1.of {s t : State} (h : t.outside { anyNum := true } = s.outside { anyNum := true }) : Kept1 s t :=
  ⟨.of h rfl, .of h rfl, .of h rfl, .of h rfl, .of h rfl, .of h rfl, .of h rfl, .of h rfl, .of h rfl, .of h rfl, .of h rfl, .of h rfl, .of h rfl, .of h rfl, .of h rfl, .of h rfl, .of h rfl, .of h rfl, .of h rfl, .of h rfl, .of h rfl, .of h rfl, .of h rfl, .of h rfl, .of h rfl, .of h rfl, .of h rfl, .of h rfl, .of h rfl, .of h rfl, .of h rfl, .of h rfl, .of h rfl, .of h rfl, .of h rfl, .of h rfl, .of h rfl, .of h rfl, .of h rfl, .of h rfl, .of h rfl, .of h rfl, .of h rfl, .of h rfl, .of h rfl, .of h rfl, .of h rfl, .of h rfl rfl rfl rfl rfl, .of h rfl rfl, .of h rfl rfl rfl, .of h rfl rfl, .of h rfl rfl rfl rfl, .of h rfl rfl rfl, .of h rfl rfl rfl, .of h rfl rfl, .of h rfl rfl rfl rfl, .of h rfl rfl rfl, .of h rfl rfl⟩

/-- Every part but these is kept: journal. -/
abbrev Kept2 (s t : State) : Prop :=
  SamePending s t ∧ SameDraws s t ∧ SameOut s t ∧ SameIdent s t ∧ SameFuses s t ∧ SamePins s t ∧ SameClock s t ∧ SamePulses s t ∧ SameChain s t ∧ SameChainPorts s t ∧ SameDict s t ∧ SameNums s t ∧ SameDoms s t ∧ SameResults s t ∧ SameLogs s t ∧ SamePower s t ∧ SameVbat s t ∧ SameRadio s t ∧ SamePorts s t ∧ SameRxTiles s t ∧ SameTxTiles s t ∧ SameGirth s t ∧ SameRecs s t ∧ SameSched s t ∧ SameCinch s t ∧ SameKeeper s t ∧ SameSb s t ∧ SameStraps s t ∧ SameAttached s t ∧ SameNodeQueues s t ∧ SameTables s t ∧ SameWindows s t ∧ SameHalter s t ∧ SameHar s t ∧ SameQueues s t ∧ SameArrivals s t ∧ SameLacing s t ∧ SameTree s t ∧ SameCurb s t ∧ SameConcho s t ∧ SameCores s t ∧ SameLocals s t ∧ SameBuckle s t ∧ SameEdges s t ∧ SameHost s t ∧ SameFlags s t ∧ SameReports s t ∧ SameDictAll s t ∧ SameBuckleAll s t ∧ SameHostAll s t ∧ SameCoresAll s t ∧ SameGirthAll s t ∧ SameTablesAll s t ∧ SameHarAll s t ∧ SameChainAll s t ∧ SameRadioAll s t ∧ SamePowerRxTilesTxTiles s t ∧ SameDictPower s t ∧ SameDictNums s t ∧ SameClockNumsPorts s t

theorem Kept2.of {s t : State} (h : t.outside { journal := true } = s.outside { journal := true }) : Kept2 s t :=
  ⟨.of h rfl, .of h rfl, .of h rfl, .of h rfl, .of h rfl, .of h rfl, .of h rfl, .of h rfl, .of h rfl, .of h rfl, .of h rfl, .of h rfl, .of h rfl, .of h rfl, .of h rfl, .of h rfl, .of h rfl, .of h rfl, .of h rfl, .of h rfl, .of h rfl, .of h rfl, .of h rfl, .of h rfl, .of h rfl, .of h rfl, .of h rfl, .of h rfl, .of h rfl, .of h rfl, .of h rfl, .of h rfl, .of h rfl, .of h rfl, .of h rfl, .of h rfl, .of h rfl, .of h rfl, .of h rfl, .of h rfl, .of h rfl, .of h rfl, .of h rfl, .of h rfl, .of h rfl, .of h rfl, .of h rfl, .of h rfl rfl rfl rfl rfl, .of h rfl rfl, .of h rfl rfl rfl, .of h rfl rfl, .of h rfl rfl rfl rfl, .of h rfl rfl rfl, .of h rfl rfl rfl, .of h rfl rfl, .of h rfl rfl rfl rfl, .of h rfl rfl rfl, .of h rfl rfl, .of h rfl rfl, .of h rfl rfl rfl⟩

/-- Every part but these is kept: straps. -/
abbrev Kept3 (s t : State) : Prop :=
  SamePending s t ∧ SameDraws s t ∧ SameOut s t ∧ SameIdent s t ∧ SameFuses s t ∧ SamePins s t ∧ SameClock s t ∧ SamePulses s t ∧ SameChain s t ∧ SameChainPorts s t ∧ SameDict s t ∧ SameNums s t ∧ SameDoms s t ∧ SameResults s t ∧ SameLogs s t ∧ SamePower s t ∧ SameVbat s t ∧ SameRadio s t ∧ SamePorts s t ∧ SameRxTiles s t ∧ SameTxTiles s t ∧ SameGirth s t ∧ SameRecs s t ∧ SameSched s t ∧ SameCinch s t ∧ SameKeeper s t ∧ SameSb s t ∧ SameJournal s t ∧ SameAttached s t ∧ SameNodeQueues s t ∧ SameTables s t ∧ SameWindows s t ∧ SameHalter s t ∧ SameHar s t ∧ SameQueues s t ∧ SameArrivals s t ∧ SameLacing s t ∧ SameTree s t ∧ SameCurb s t ∧ SameConcho s t ∧ SameCores s t ∧ SameLocals s t ∧ SameBuckle s t ∧ SameEdges s t ∧ SameHost s t ∧ SameFlags s t ∧ SameReports s t ∧ SameDictAll s t ∧ SameBuckleAll s t ∧ SameHostAll s t ∧ SameCoresAll s t ∧ SameGirthAll s t ∧ SameTablesAll s t ∧ SameHarAll s t ∧ SameChainAll s t ∧ SameRadioAll s t ∧ SamePowerRxTilesTxTiles s t ∧ SameDictPower s t ∧ SameDictNums s t ∧ SameClockNumsPorts s t

theorem Kept3.of {s t : State} (h : t.outside { straps := true } = s.outside { straps := true }) : Kept3 s t :=
  ⟨.of h rfl, .of h rfl, .of h rfl, .of h rfl, .of h rfl, .of h rfl, .of h rfl, .of h rfl, .of h rfl, .of h rfl, .of h rfl, .of h rfl, .of h rfl, .of h rfl, .of h rfl, .of h rfl, .of h rfl, .of h rfl, .of h rfl, .of h rfl, .of h rfl, .of h rfl, .of h rfl, .of h rfl, .of h rfl, .of h rfl, .of h rfl, .of h rfl, .of h rfl, .of h rfl, .of h rfl, .of h rfl, .of h rfl, .of h rfl, .of h rfl, .of h rfl, .of h rfl, .of h rfl, .of h rfl, .of h rfl, .of h rfl, .of h rfl, .of h rfl, .of h rfl, .of h rfl, .of h rfl, .of h rfl, .of h rfl rfl rfl rfl rfl, .of h rfl rfl, .of h rfl rfl rfl, .of h rfl rfl, .of h rfl rfl rfl rfl, .of h rfl rfl rfl, .of h rfl rfl rfl, .of h rfl rfl, .of h rfl rfl rfl rfl, .of h rfl rfl rfl, .of h rfl rfl, .of h rfl rfl, .of h rfl rfl rfl⟩

/-- Every part but these is kept: nums, straps. -/
abbrev Kept4 (s t : State) : Prop :=
  SamePending s t ∧ SameDraws s t ∧ SameOut s t ∧ SameIdent s t ∧ SameFuses s t ∧ SamePins s t ∧ SameClock s t ∧ SamePulses s t ∧ SameChain s t ∧ SameChainPorts s t ∧ SameDict s t ∧ SameDoms s t ∧ SameResults s t ∧ SameLogs s t ∧ SamePower s t ∧ SameVbat s t ∧ SameRadio s t ∧ SamePorts s t ∧ SameRxTiles s t ∧ SameTxTiles s t ∧ SameGirth s t ∧ SameRecs s t ∧ SameSched s t ∧ SameCinch s t ∧ SameKeeper s t ∧ SameSb s t ∧ SameJournal s t ∧ SameAttached s t ∧ SameNodeQueues s t ∧ SameTables s t ∧ SameWindows s t ∧ SameHalter s t ∧ SameHar s t ∧ SameQueues s t ∧ SameArrivals s t ∧ SameLacing s t ∧ SameTree s t ∧ SameCurb s t ∧ SameConcho s t ∧ SameCores s t ∧ SameLocals s t ∧ SameBuckle s t ∧ SameEdges s t ∧ SameHost s t ∧ SameFlags s t ∧ SameReports s t ∧ SameBuckleAll s t ∧ SameHostAll s t ∧ SameCoresAll s t ∧ SameGirthAll s t ∧ SameTablesAll s t ∧ SameHarAll s t ∧ SameChainAll s t ∧ SameRadioAll s t ∧ SamePowerRxTilesTxTiles s t ∧ SameDictPower s t

theorem Kept4.of {s t : State} (h : t.outside { anyNum := true, straps := true } = s.outside { anyNum := true, straps := true }) : Kept4 s t :=
  ⟨.of h rfl, .of h rfl, .of h rfl, .of h rfl, .of h rfl, .of h rfl, .of h rfl, .of h rfl, .of h rfl, .of h rfl, .of h rfl, .of h rfl, .of h rfl, .of h rfl, .of h rfl, .of h rfl, .of h rfl, .of h rfl, .of h rfl, .of h rfl, .of h rfl, .of h rfl, .of h rfl, .of h rfl, .of h rfl, .of h rfl, .of h rfl, .of h rfl, .of h rfl, .of h rfl, .of h rfl, .of h rfl, .of h rfl, .of h rfl, .of h rfl, .of h rfl, .of h rfl, .of h rfl, .of h rfl, .of h rfl, .of h rfl, .of h rfl, .of h rfl, .of h rfl, .of h rfl, .of h rfl, .of h rfl rfl, .of h rfl rfl rfl, .of h rfl rfl, .of h rfl rfl rfl rfl, .of h rfl rfl rfl, .of h rfl rfl rfl, .of h rfl rfl, .of h rfl rfl rfl rfl, .of h rfl rfl rfl, .of h rfl rfl⟩

/-- Every part but these is kept: flags. -/
abbrev Kept5 (s t : State) : Prop :=
  SamePending s t ∧ SameDraws s t ∧ SameOut s t ∧ SameIdent s t ∧ SameFuses s t ∧ SamePins s t ∧ SameClock s t ∧ SamePulses s t ∧ SameChain s t ∧ SameChainPorts s t ∧ SameDict s t ∧ SameNums s t ∧ SameDoms s t ∧ SameResults s t ∧ SameLogs s t ∧ SamePower s t ∧ SameVbat s t ∧ SameRadio s t ∧ SamePorts s t ∧ SameRxTiles s t ∧ SameTxTiles s t ∧ SameGirth s t ∧ SameRecs s t ∧ SameSched s t ∧ SameCinch s t ∧ SameKeeper s t ∧ SameSb s t ∧ SameStraps s t ∧ SameJournal s t ∧ SameAttached s t ∧ SameNodeQueues s t ∧ SameTables s t ∧ SameWindows s t ∧ SameHalter s t ∧ SameHar s t ∧ SameQueues s t ∧ SameArrivals s t ∧ SameLacing s t ∧ SameTree s t ∧ SameCurb s t ∧ SameConcho s t ∧ SameCores s t ∧ SameLocals s t ∧ SameBuckle s t ∧ SameEdges s t ∧ SameHost s t ∧ SameReports s t ∧ SameDictAll s t ∧ SameSbAll s t ∧ SameBuckleAll s t ∧ SameCoresAll s t ∧ SameGirthAll s t ∧ SameTablesAll s t ∧ SameHarAll s t ∧ SameChainAll s t ∧ SameRadioAll s t ∧ SamePowerRxTilesTxTiles s t ∧ SameDictPower s t ∧ SameDictNums s t ∧ SameClockNumsPorts s t

theorem Kept5.of {s t : State} (h : t.outside { flags := true } = s.outside { flags := true }) : Kept5 s t :=
  ⟨.of h rfl, .of h rfl, .of h rfl, .of h rfl, .of h rfl, .of h rfl, .of h rfl, .of h rfl, .of h rfl, .of h rfl, .of h rfl, .of h rfl, .of h rfl, .of h rfl, .of h rfl, .of h rfl, .of h rfl, .of h rfl, .of h rfl, .of h rfl, .of h rfl, .of h rfl, .of h rfl, .of h rfl, .of h rfl, .of h rfl, .of h rfl, .of h rfl, .of h rfl, .of h rfl, .of h rfl, .of h rfl, .of h rfl, .of h rfl, .of h rfl, .of h rfl, .of h rfl, .of h rfl, .of h rfl, .of h rfl, .of h rfl, .of h rfl, .of h rfl, .of h rfl, .of h rfl, .of h rfl, .of h rfl, .of h rfl rfl rfl rfl rfl, .of h rfl rfl rfl rfl rfl, .of h rfl rfl, .of h rfl rfl, .of h rfl rfl rfl rfl, .of h rfl rfl rfl, .of h rfl rfl rfl, .of h rfl rfl, .of h rfl rfl rfl rfl, .of h rfl rfl rfl, .of h rfl rfl, .of h rfl rfl, .of h rfl rfl rfl⟩

/-- Every part but these is kept: nums, straps, flags. -/
abbrev Kept6 (s t : State) : Prop :=
  SamePending s t ∧ SameDraws s t ∧ SameOut s t ∧ SameIdent s t ∧ SameFuses s t ∧ SamePins s t ∧ SameClock s t ∧ SamePulses s t ∧ SameChain s t ∧ SameChainPorts s t ∧ SameDict s t ∧ SameDoms s t ∧ SameResults s t ∧ SameLogs s t ∧ SamePower s t ∧ SameVbat s t ∧ SameRadio s t ∧ SamePorts s t ∧ SameRxTiles s t ∧ SameTxTiles s t ∧ SameGirth s t ∧ SameRecs s t ∧ SameSched s t ∧ SameCinch s t ∧ SameKeeper s t ∧ SameSb s t ∧ SameJournal s t ∧ SameAttached s t ∧ SameNodeQueues s t ∧ SameTables s t ∧ SameWindows s t ∧ SameHalter s t ∧ SameHar s t ∧ SameQueues s t ∧ SameArrivals s t ∧ SameLacing s t ∧ SameTree s t ∧ SameCurb s t ∧ SameConcho s t ∧ SameCores s t ∧ SameLocals s t ∧ SameBuckle s t ∧ SameEdges s t ∧ SameHost s t ∧ SameReports s t ∧ SameBuckleAll s t ∧ SameCoresAll s t ∧ SameGirthAll s t ∧ SameTablesAll s t ∧ SameHarAll s t ∧ SameChainAll s t ∧ SameRadioAll s t ∧ SamePowerRxTilesTxTiles s t ∧ SameDictPower s t

theorem Kept6.of {s t : State} (h : t.outside { anyNum := true, straps := true, flags := true } = s.outside { anyNum := true, straps := true, flags := true }) : Kept6 s t :=
  ⟨.of h rfl, .of h rfl, .of h rfl, .of h rfl, .of h rfl, .of h rfl, .of h rfl, .of h rfl, .of h rfl, .of h rfl, .of h rfl, .of h rfl, .of h rfl, .of h rfl, .of h rfl, .of h rfl, .of h rfl, .of h rfl, .of h rfl, .of h rfl, .of h rfl, .of h rfl, .of h rfl, .of h rfl, .of h rfl, .of h rfl, .of h rfl, .of h rfl, .of h rfl, .of h rfl, .of h rfl, .of h rfl, .of h rfl, .of h rfl, .of h rfl, .of h rfl, .of h rfl, .of h rfl, .of h rfl, .of h rfl, .of h rfl, .of h rfl, .of h rfl, .of h rfl, .of h rfl, .of h rfl rfl, .of h rfl rfl, .of h rfl rfl rfl rfl, .of h rfl rfl rfl, .of h rfl rfl rfl, .of h rfl rfl, .of h rfl rfl rfl rfl, .of h rfl rfl rfl, .of h rfl rfl⟩

/-- Every part but these is kept: edges. -/
abbrev Kept7 (s t : State) : Prop :=
  SamePending s t ∧ SameDraws s t ∧ SameOut s t ∧ SameIdent s t ∧ SameFuses s t ∧ SamePins s t ∧ SameClock s t ∧ SamePulses s t ∧ SameChain s t ∧ SameChainPorts s t ∧ SameDict s t ∧ SameNums s t ∧ SameDoms s t ∧ SameResults s t ∧ SameLogs s t ∧ SamePower s t ∧ SameVbat s t ∧ SameRadio s t ∧ SamePorts s t ∧ SameRxTiles s t ∧ SameTxTiles s t ∧ SameGirth s t ∧ SameRecs s t ∧ SameSched s t ∧ SameCinch s t ∧ SameKeeper s t ∧ SameSb s t ∧ SameStraps s t ∧ SameJournal s t ∧ SameAttached s t ∧ SameNodeQueues s t ∧ SameTables s t ∧ SameWindows s t ∧ SameHalter s t ∧ SameHar s t ∧ SameQueues s t ∧ SameArrivals s t ∧ SameLacing s t ∧ SameTree s t ∧ SameCurb s t ∧ SameConcho s t ∧ SameCores s t ∧ SameLocals s t ∧ SameBuckle s t ∧ SameHost s t ∧ SameFlags s t ∧ SameReports s t ∧ SameDictAll s t ∧ SameSbAll s t ∧ SameHostAll s t ∧ SameCoresAll s t ∧ SameGirthAll s t ∧ SameTablesAll s t ∧ SameHarAll s t ∧ SameChainAll s t ∧ SameRadioAll s t ∧ SamePowerRxTilesTxTiles s t ∧ SameDictPower s t ∧ SameDictNums s t ∧ SameClockNumsPorts s t

theorem Kept7.of {s t : State} (h : t.outside { edges := true } = s.outside { edges := true }) : Kept7 s t :=
  ⟨.of h rfl, .of h rfl, .of h rfl, .of h rfl, .of h rfl, .of h rfl, .of h rfl, .of h rfl, .of h rfl, .of h rfl, .of h rfl, .of h rfl, .of h rfl, .of h rfl, .of h rfl, .of h rfl, .of h rfl, .of h rfl, .of h rfl, .of h rfl, .of h rfl, .of h rfl, .of h rfl, .of h rfl, .of h rfl, .of h rfl, .of h rfl, .of h rfl, .of h rfl, .of h rfl, .of h rfl, .of h rfl, .of h rfl, .of h rfl, .of h rfl, .of h rfl, .of h rfl, .of h rfl, .of h rfl, .of h rfl, .of h rfl, .of h rfl, .of h rfl, .of h rfl, .of h rfl, .of h rfl, .of h rfl, .of h rfl rfl rfl rfl rfl, .of h rfl rfl rfl rfl rfl, .of h rfl rfl rfl, .of h rfl rfl, .of h rfl rfl rfl rfl, .of h rfl rfl rfl, .of h rfl rfl rfl, .of h rfl rfl, .of h rfl rfl rfl rfl, .of h rfl rfl rfl, .of h rfl rfl, .of h rfl rfl, .of h rfl rfl rfl⟩

/-- Every part but these is kept: dict, nums, logs, straps, journal, edges, flags. -/
abbrev Kept8 (s t : State) : Prop :=
  SamePending s t ∧ SameDraws s t ∧ SameOut s t ∧ SameIdent s t ∧ SameFuses s t ∧ SamePins s t ∧ SameClock s t ∧ SamePulses s t ∧ SameChain s t ∧ SameChainPorts s t ∧ SameDoms s t ∧ SameResults s t ∧ SamePower s t ∧ SameVbat s t ∧ SameRadio s t ∧ SamePorts s t ∧ SameRxTiles s t ∧ SameTxTiles s t ∧ SameGirth s t ∧ SameRecs s t ∧ SameSched s t ∧ SameCinch s t ∧ SameKeeper s t ∧ SameSb s t ∧ SameAttached s t ∧ SameNodeQueues s t ∧ SameTables s t ∧ SameWindows s t ∧ SameHalter s t ∧ SameHar s t ∧ SameQueues s t ∧ SameArrivals s t ∧ SameLacing s t ∧ SameTree s t ∧ SameCurb s t ∧ SameConcho s t ∧ SameCores s t ∧ SameLocals s t ∧ SameBuckle s t ∧ SameHost s t ∧ SameReports s t ∧ SameCoresAll s t ∧ SameGirthAll s t ∧ SameTablesAll s t ∧ SameHarAll s t ∧ SameChainAll s t ∧ SameRadioAll s t ∧ SamePowerRxTilesTxTiles s t

theorem Kept8.of {s t : State} (h : t.outside { dict := true, anyNum := true, logs := true, straps := true, journal := true, edges := true, flags := true } = s.outside { dict := true, anyNum := true, logs := true, straps := true, journal := true, edges := true, flags := true }) : Kept8 s t :=
  ⟨.of h rfl, .of h rfl, .of h rfl, .of h rfl, .of h rfl, .of h rfl, .of h rfl, .of h rfl, .of h rfl, .of h rfl, .of h rfl, .of h rfl, .of h rfl, .of h rfl, .of h rfl, .of h rfl, .of h rfl, .of h rfl, .of h rfl, .of h rfl, .of h rfl, .of h rfl, .of h rfl, .of h rfl, .of h rfl, .of h rfl, .of h rfl, .of h rfl, .of h rfl, .of h rfl, .of h rfl, .of h rfl, .of h rfl, .of h rfl, .of h rfl, .of h rfl, .of h rfl, .of h rfl, .of h rfl, .of h rfl, .of h rfl, .of h rfl rfl, .of h rfl rfl rfl rfl, .of h rfl rfl rfl, .of h rfl rfl rfl, .of h rfl rfl, .of h rfl rfl rfl rfl, .of h rfl rfl rfl⟩

/-- Every part but these is kept: nums, edges. -/
abbrev Kept9 (s t : State) : Prop :=
  SamePending s t ∧ SameDraws s t ∧ SameOut s t ∧ SameIdent s t ∧ SameFuses s t ∧ SamePins s t ∧ SameClock s t ∧ SamePulses s t ∧ SameChain s t ∧ SameChainPorts s t ∧ SameDict s t ∧ SameDoms s t ∧ SameResults s t ∧ SameLogs s t ∧ SamePower s t ∧ SameVbat s t ∧ SameRadio s t ∧ SamePorts s t ∧ SameRxTiles s t ∧ SameTxTiles s t ∧ SameGirth s t ∧ SameRecs s t ∧ SameSched s t ∧ SameCinch s t ∧ SameKeeper s t ∧ SameSb s t ∧ SameStraps s t ∧ SameJournal s t ∧ SameAttached s t ∧ SameNodeQueues s t ∧ SameTables s t ∧ SameWindows s t ∧ SameHalter s t ∧ SameHar s t ∧ SameQueues s t ∧ SameArrivals s t ∧ SameLacing s t ∧ SameTree s t ∧ SameCurb s t ∧ SameConcho s t ∧ SameCores s t ∧ SameLocals s t ∧ SameBuckle s t ∧ SameHost s t ∧ SameFlags s t ∧ SameReports s t ∧ SameSbAll s t ∧ SameHostAll s t ∧ SameCoresAll s t ∧ SameGirthAll s t ∧ SameTablesAll s t ∧ SameHarAll s t ∧ SameChainAll s t ∧ SameRadioAll s t ∧ SamePowerRxTilesTxTiles s t ∧ SameDictPower s t

theorem Kept9.of {s t : State} (h : t.outside { anyNum := true, edges := true } = s.outside { anyNum := true, edges := true }) : Kept9 s t :=
  ⟨.of h rfl, .of h rfl, .of h rfl, .of h rfl, .of h rfl, .of h rfl, .of h rfl, .of h rfl, .of h rfl, .of h rfl, .of h rfl, .of h rfl, .of h rfl, .of h rfl, .of h rfl, .of h rfl, .of h rfl, .of h rfl, .of h rfl, .of h rfl, .of h rfl, .of h rfl, .of h rfl, .of h rfl, .of h rfl, .of h rfl, .of h rfl, .of h rfl, .of h rfl, .of h rfl, .of h rfl, .of h rfl, .of h rfl, .of h rfl, .of h rfl, .of h rfl, .of h rfl, .of h rfl, .of h rfl, .of h rfl, .of h rfl, .of h rfl, .of h rfl, .of h rfl, .of h rfl, .of h rfl, .of h rfl rfl rfl rfl rfl, .of h rfl rfl rfl, .of h rfl rfl, .of h rfl rfl rfl rfl, .of h rfl rfl rfl, .of h rfl rfl rfl, .of h rfl rfl, .of h rfl rfl rfl rfl, .of h rfl rfl rfl, .of h rfl rfl⟩

/-- Every part but these is kept: reports. -/
abbrev Kept10 (s t : State) : Prop :=
  SamePending s t ∧ SameDraws s t ∧ SameOut s t ∧ SameIdent s t ∧ SameFuses s t ∧ SamePins s t ∧ SameClock s t ∧ SamePulses s t ∧ SameChain s t ∧ SameChainPorts s t ∧ SameDict s t ∧ SameNums s t ∧ SameDoms s t ∧ SameResults s t ∧ SameLogs s t ∧ SamePower s t ∧ SameVbat s t ∧ SameRadio s t ∧ SamePorts s t ∧ SameRxTiles s t ∧ SameTxTiles s t ∧ SameGirth s t ∧ SameRecs s t ∧ SameSched s t ∧ SameCinch s t ∧ SameKeeper s t ∧ SameSb s t ∧ SameStraps s t ∧ SameJournal s t ∧ SameAttached s t ∧ SameNodeQueues s t ∧ SameTables s t ∧ SameWindows s t ∧ SameHalter s t ∧ SameHar s t ∧ SameQueues s t ∧ SameArrivals s t ∧ SameLacing s t ∧ SameTree s t ∧ SameCurb s t ∧ SameConcho s t ∧ SameCores s t ∧ SameLocals s t ∧ SameBuckle s t ∧ SameEdges s t ∧ SameHost s t ∧ SameFlags s t ∧ SameDictAll s t ∧ SameSbAll s t ∧ SameBuckleAll s t ∧ SameCoresAll s t ∧ SameGirthAll s t ∧ SameTablesAll s t ∧ SameHarAll s t ∧ SameChainAll s t ∧ SameRadioAll s t ∧ SamePowerRxTilesTxTiles s t ∧ SameDictPower s t ∧ SameDictNums s t ∧ SameClockNumsPorts s t

theorem Kept10.of {s t : State} (h : t.outside { reports := true } = s.outside { reports := true }) : Kept10 s t :=
  ⟨.of h rfl, .of h rfl, .of h rfl, .of h rfl, .of h rfl, .of h rfl, .of h rfl, .of h rfl, .of h rfl, .of h rfl, .of h rfl, .of h rfl, .of h rfl, .of h rfl, .of h rfl, .of h rfl, .of h rfl, .of h rfl, .of h rfl, .of h rfl, .of h rfl, .of h rfl, .of h rfl, .of h rfl, .of h rfl, .of h rfl, .of h rfl, .of h rfl, .of h rfl, .of h rfl, .of h rfl, .of h rfl, .of h rfl, .of h rfl, .of h rfl, .of h rfl, .of h rfl, .of h rfl, .of h rfl, .of h rfl, .of h rfl, .of h rfl, .of h rfl, .of h rfl, .of h rfl, .of h rfl, .of h rfl, .of h rfl rfl rfl rfl rfl, .of h rfl rfl rfl rfl rfl, .of h rfl rfl, .of h rfl rfl, .of h rfl rfl rfl rfl, .of h rfl rfl rfl, .of h rfl rfl rfl, .of h rfl rfl, .of h rfl rfl rfl rfl, .of h rfl rfl rfl, .of h rfl rfl, .of h rfl rfl, .of h rfl rfl rfl⟩

/-- Every part but these is kept: results. -/
abbrev Kept11 (s t : State) : Prop :=
  SamePending s t ∧ SameDraws s t ∧ SameOut s t ∧ SameIdent s t ∧ SameFuses s t ∧ SamePins s t ∧ SameClock s t ∧ SamePulses s t ∧ SameChain s t ∧ SameChainPorts s t ∧ SameDict s t ∧ SameNums s t ∧ SameDoms s t ∧ SameLogs s t ∧ SamePower s t ∧ SameVbat s t ∧ SameRadio s t ∧ SamePorts s t ∧ SameRxTiles s t ∧ SameTxTiles s t ∧ SameGirth s t ∧ SameRecs s t ∧ SameSched s t ∧ SameCinch s t ∧ SameKeeper s t ∧ SameSb s t ∧ SameStraps s t ∧ SameJournal s t ∧ SameAttached s t ∧ SameNodeQueues s t ∧ SameTables s t ∧ SameWindows s t ∧ SameHalter s t ∧ SameHar s t ∧ SameQueues s t ∧ SameArrivals s t ∧ SameLacing s t ∧ SameTree s t ∧ SameCurb s t ∧ SameConcho s t ∧ SameCores s t ∧ SameLocals s t ∧ SameBuckle s t ∧ SameEdges s t ∧ SameHost s t ∧ SameFlags s t ∧ SameReports s t ∧ SameSbAll s t ∧ SameBuckleAll s t ∧ SameHostAll s t ∧ SameCoresAll s t ∧ SameGirthAll s t ∧ SameTablesAll s t ∧ SameHarAll s t ∧ SameChainAll s t ∧ SameRadioAll s t ∧ SamePowerRxTilesTxTiles s t ∧ SameDictPower s t ∧ SameDictNums s t ∧ SameClockNumsPorts s t

theorem Kept11.of {s t : State} (h : t.outside { results := true } = s.outside { results := true }) : Kept11 s t :=
  ⟨.of h rfl, .of h rfl, .of h rfl, .of h rfl, .of h rfl, .of h rfl, .of h rfl, .of h rfl, .of h rfl, .of h rfl, .of h rfl, .of h rfl, .of h rfl, .of h rfl, .of h rfl, .of h rfl, .of h rfl, .of h rfl, .of h rfl, .of h rfl, .of h rfl, .of h rfl, .of h rfl, .of h rfl, .of h rfl, .of h rfl, .of h rfl, .of h rfl, .of h rfl, .of h rfl, .of h rfl, .of h rfl, .of h rfl, .of h rfl, .of h rfl, .of h rfl, .of h rfl, .of h rfl, .of h rfl, .of h rfl, .of h rfl, .of h rfl, .of h rfl, .of h rfl, .of h rfl, .of h rfl, .of h rfl, .of h rfl rfl rfl rfl rfl, .of h rfl rfl, .of h rfl rfl rfl, .of h rfl rfl, .of h rfl rfl rfl rfl, .of h rfl rfl rfl, .of h rfl rfl rfl, .of h rfl rfl, .of h rfl rfl rfl rfl, .of h rfl rfl rfl, .of h rfl rfl, .of h rfl rfl, .of h rfl rfl rfl⟩

/-- Every part but these is kept: out. -/
abbrev Kept12 (s t : State) : Prop :=
  SamePending s t ∧ SameDraws s t ∧ SameIdent s t ∧ SameFuses s t ∧ SamePins s t ∧ SameClock s t ∧ SamePulses s t ∧ SameChain s t ∧ SameChainPorts s t ∧ SameDict s t ∧ SameNums s t ∧ SameDoms s t ∧ SameResults s t ∧ SameLogs s t ∧ SamePower s t ∧ SameVbat s t ∧ SameRadio s t ∧ SamePorts s t ∧ SameRxTiles s t ∧ SameTxTiles s t ∧ SameGirth s t ∧ SameRecs s t ∧ SameSched s t ∧ SameCinch s t ∧ SameKeeper s t ∧ SameSb s t ∧ SameStraps s t ∧ SameJournal s t ∧ SameAttached s t ∧ SameNodeQueues s t ∧ SameTables s t ∧ SameWindows s t ∧ SameHalter s t ∧ SameHar s t ∧ SameQueues s t ∧ SameArrivals s t ∧ SameLacing s t ∧ SameTree s t ∧ SameCurb s t ∧ SameConcho s t ∧ SameCores s t ∧ SameLocals s t ∧ SameBuckle s t ∧ SameEdges s t ∧ SameHost s t ∧ SameFlags s t ∧ SameReports s t ∧ SameDictAll s t ∧ SameSbAll s t ∧ SameBuckleAll s t ∧ SameHostAll s t ∧ SameCoresAll s t ∧ SameGirthAll s t ∧ SameTablesAll s t ∧ SameHarAll s t ∧ SameChainAll s t ∧ SameRadioAll s t ∧ SamePowerRxTilesTxTiles s t ∧ SameDictPower s t ∧ SameDictNums s t ∧ SameClockNumsPorts s t

theorem Kept12.of {s t : State} (h : t.outside { out := true } = s.outside { out := true }) : Kept12 s t :=
  ⟨.of h rfl, .of h rfl, .of h rfl, .of h rfl, .of h rfl, .of h rfl, .of h rfl, .of h rfl, .of h rfl, .of h rfl, .of h rfl, .of h rfl, .of h rfl, .of h rfl, .of h rfl, .of h rfl, .of h rfl, .of h rfl, .of h rfl, .of h rfl, .of h rfl, .of h rfl, .of h rfl, .of h rfl, .of h rfl, .of h rfl, .of h rfl, .of h rfl, .of h rfl, .of h rfl, .of h rfl, .of h rfl, .of h rfl, .of h rfl, .of h rfl, .of h rfl, .of h rfl, .of h rfl, .of h rfl, .of h rfl, .of h rfl, .of h rfl, .of h rfl, .of h rfl, .of h rfl, .of h rfl, .of h rfl, .of h rfl rfl rfl rfl rfl, .of h rfl rfl rfl rfl rfl, .of h rfl rfl, .of h rfl rfl rfl, .of h rfl rfl, .of h rfl rfl rfl rfl, .of h rfl rfl rfl, .of h rfl rfl rfl, .of h rfl rfl, .of h rfl rfl rfl rfl, .of h rfl rfl rfl, .of h rfl rfl, .of h rfl rfl, .of h rfl rfl rfl⟩

/-- Every part but these is kept: doms. -/
abbrev Kept13 (s t : State) : Prop :=
  SamePending s t ∧ SameDraws s t ∧ SameOut s t ∧ SameIdent s t ∧ SameFuses s t ∧ SamePins s t ∧ SameClock s t ∧ SamePulses s t ∧ SameChain s t ∧ SameChainPorts s t ∧ SameDict s t ∧ SameNums s t ∧ SameResults s t ∧ SameLogs s t ∧ SamePower s t ∧ SameVbat s t ∧ SameRadio s t ∧ SamePorts s t ∧ SameRxTiles s t ∧ SameTxTiles s t ∧ SameGirth s t ∧ SameRecs s t ∧ SameSched s t ∧ SameCinch s t ∧ SameKeeper s t ∧ SameSb s t ∧ SameStraps s t ∧ SameJournal s t ∧ SameAttached s t ∧ SameNodeQueues s t ∧ SameTables s t ∧ SameWindows s t ∧ SameHalter s t ∧ SameHar s t ∧ SameQueues s t ∧ SameArrivals s t ∧ SameLacing s t ∧ SameTree s t ∧ SameCurb s t ∧ SameConcho s t ∧ SameCores s t ∧ SameLocals s t ∧ SameBuckle s t ∧ SameEdges s t ∧ SameHost s t ∧ SameFlags s t ∧ SameReports s t ∧ SameSbAll s t ∧ SameBuckleAll s t ∧ SameHostAll s t ∧ SameCoresAll s t ∧ SameGirthAll s t ∧ SameTablesAll s t ∧ SameHarAll s t ∧ SameChainAll s t ∧ SameRadioAll s t ∧ SamePowerRxTilesTxTiles s t ∧ SameDictPower s t ∧ SameDictNums s t ∧ SameClockNumsPorts s t

theorem Kept13.of {s t : State} (h : t.outside { doms := true } = s.outside { doms := true }) : Kept13 s t :=
  ⟨.of h rfl, .of h rfl, .of h rfl, .of h rfl, .of h rfl, .of h rfl, .of h rfl, .of h rfl, .of h rfl, .of h rfl, .of h rfl, .of h rfl, .of h rfl, .of h rfl, .of h rfl, .of h rfl, .of h rfl, .of h rfl, .of h rfl, .of h rfl, .of h rfl, .of h rfl, .of h rfl, .of h rfl, .of h rfl, .of h rfl, .of h rfl, .of h rfl, .of h rfl, .of h rfl, .of h rfl, .of h rfl, .of h rfl, .of h rfl, .of h rfl, .of h rfl, .of h rfl, .of h rfl, .of h rfl, .of h rfl, .of h rfl, .of h rfl, .of h rfl, .of h rfl, .of h rfl, .of h rfl, .of h rfl, .of h rfl rfl rfl rfl rfl, .of h rfl rfl, .of h rfl rfl rfl, .of h rfl rfl, .of h rfl rfl rfl rfl, .of h rfl rfl rfl, .of h rfl rfl rfl, .of h rfl rfl, .of h rfl rfl rfl rfl, .of h rfl rfl rfl, .of h rfl rfl, .of h rfl rfl, .of h rfl rfl rfl⟩

/-- Every part but these is kept: nums, logs, journal. -/
abbrev Kept14 (s t : State) : Prop :=
  SamePending s t ∧ SameDraws s t ∧ SameOut s t ∧ SameIdent s t ∧ SameFuses s t ∧ SamePins s t ∧ SameClock s t ∧ SamePulses s t ∧ SameChain s t ∧ SameChainPorts s t ∧ SameDict s t ∧ SameDoms s t ∧ SameResults s t ∧ SamePower s t ∧ SameVbat s t ∧ SameRadio s t ∧ SamePorts s t ∧ SameRxTiles s t ∧ SameTxTiles s t ∧ SameGirth s t ∧ SameRecs s t ∧ SameSched s t ∧ SameCinch s t ∧ SameKeeper s t ∧ SameSb s t ∧ SameStraps s t ∧ SameAttached s t ∧ SameNodeQueues s t ∧ SameTables s t ∧ SameWindows s t ∧ SameHalter s t ∧ SameHar s t ∧ SameQueues s t ∧ SameArrivals s t ∧ SameLacing s t ∧ SameTree s t ∧ SameCurb s t ∧ SameConcho s t ∧ SameCores s t ∧ SameLocals s t ∧ SameBuckle s t ∧ SameEdges s t ∧ SameHost s t ∧ SameFlags s t ∧ SameReports s t ∧ SameBuckleAll s t ∧ SameHostAll s t ∧ SameCoresAll s t ∧ SameGirthAll s t ∧ SameTablesAll s t ∧ SameHarAll s t ∧ SameChainAll s t ∧ SameRadioAll s t ∧ SamePowerRxTilesTxTiles s t ∧ SameDictPower s t

theorem Kept14.of {s t : State} (h : t.outside { anyNum := true, logs := true, journal := true } = s.outside { anyNum := true, logs := true, journal := true }) : Kept14 s t :=
  ⟨.of h rfl, .of h rfl, .of h rfl, .of h rfl, .of h rfl, .of h rfl, .of h rfl, .of h rfl, .of h rfl, .of h rfl, .of h rfl, .of h rfl, .of h rfl, .of h rfl, .of h rfl, .of h rfl, .of h rfl, .of h rfl, .of h rfl, .of h rfl, .of h rfl, .of h rfl, .of h rfl, .of h rfl, .of h rfl, .of h rfl, .of h rfl, .of h rfl, .of h rfl, .of h rfl, .of h rfl, .of h rfl, .of h rfl, .of h rfl, .of h rfl, .of h rfl, .of h rfl, .of h rfl, .of h rfl, .of h rfl, .of h rfl, .of h rfl, .of h rfl, .of h rfl, .of h rfl, .of h rfl rfl, .of h rfl rfl rfl, .of h rfl rfl, .of h rfl rfl rfl rfl, .of h rfl rfl rfl, .of h rfl rfl rfl, .of h rfl rfl, .of h rfl rfl rfl rfl, .of h rfl rfl rfl, .of h rfl rfl⟩

/-- Every part but these is kept: draws. -/
abbrev Kept15 (s t : State) : Prop :=
  SamePending s t ∧ SameOut s t ∧ SameIdent s t ∧ SameFuses s t ∧ SamePins s t ∧ SameClock s t ∧ SamePulses s t ∧ SameChain s t ∧ SameChainPorts s t ∧ SameDict s t ∧ SameNums s t ∧ SameDoms s t ∧ SameResults s t ∧ SameLogs s t ∧ SamePower s t ∧ SameVbat s t ∧ SameRadio s t ∧ SamePorts s t ∧ SameRxTiles s t ∧ SameTxTiles s t ∧ SameGirth s t ∧ SameRecs s t ∧ SameSched s t ∧ SameCinch s t ∧ SameKeeper s t ∧ SameSb s t ∧ SameStraps s t ∧ SameJournal s t ∧ SameAttached s t ∧ SameNodeQueues s t ∧ SameTables s t ∧ SameWindows s t ∧ SameHalter s t ∧ SameHar s t ∧ SameQueues s t ∧ SameArrivals s t ∧ SameLacing s t ∧ SameTree s t ∧ SameCurb s t ∧ SameConcho s t ∧ SameCores s t ∧ SameLocals s t ∧ SameBuckle s t ∧ SameEdges s t ∧ SameHost s t ∧ SameFlags s t ∧ SameReports s t ∧ SameDictAll s t ∧ SameSbAll s t ∧ SameBuckleAll s t ∧ SameHostAll s t ∧ SameCoresAll s t ∧ SameGirthAll s t ∧ SameTablesAll s t ∧ SameHarAll s t ∧ SameChainAll s t ∧ SameRadioAll s t ∧ SamePowerRxTilesTxTiles s t ∧ SameDictPower s t ∧ SameDictNums s t ∧ SameClockNumsPorts s t

theorem Kept15.of {s t : State} (h : t.outside { draws := true } = s.outside { draws := true }) : Kept15 s t :=
  ⟨.of h rfl, .of h rfl, .of h rfl, .of h rfl, .of h rfl, .of h rfl, .of h rfl, .of h rfl, .of h rfl, .of h rfl, .of h rfl, .of h rfl, .of h rfl, .of h rfl, .of h rfl, .of h rfl, .of h rfl, .of h rfl, .of h rfl, .of h rfl, .of h rfl, .of h rfl, .of h rfl, .of h rfl, .of h rfl, .of h rfl, .of h rfl, .of h rfl, .of h rfl, .of h rfl, .of h rfl, .of h rfl, .of h rfl, .of h rfl, .of h rfl, .of h rfl, .of h rfl, .of h rfl, .of h rfl, .of h rfl, .of h rfl, .of h rfl, .of h rfl, .of h rfl, .of h rfl, .of h rfl, .of h rfl, .of h rfl rfl rfl rfl rfl, .of h rfl rfl rfl rfl rfl, .of h rfl rfl, .of h rfl rfl rfl, .of h rfl rfl, .of h rfl rfl rfl rfl, .of h rfl rfl rfl, .of h rfl rfl rfl, .of h rfl rfl, .of h rfl rfl rfl rfl, .of h rfl rfl rfl, .of h rfl rfl, .of h rfl rfl, .of h rfl rfl rfl⟩

/-- Every part but these is kept: clock, vbat. -/
abbrev Kept16 (s t : State) : Prop :=
  SamePending s t ∧ SameDraws s t ∧ SameOut s t ∧ SameIdent s t ∧ SameFuses s t ∧ SamePins s t ∧ SamePulses s t ∧ SameChain s t ∧ SameChainPorts s t ∧ SameDict s t ∧ SameNums s t ∧ SameDoms s t ∧ SameResults s t ∧ SameLogs s t ∧ SamePower s t ∧ SameRadio s t ∧ SamePorts s t ∧ SameRxTiles s t ∧ SameTxTiles s t ∧ SameGirth s t ∧ SameRecs s t ∧ SameSched s t ∧ SameCinch s t ∧ SameKeeper s t ∧ SameSb s t ∧ SameStraps s t ∧ SameJournal s t ∧ SameAttached s t ∧ SameNodeQueues s t ∧ SameTables s t ∧ SameWindows s t ∧ SameHalter s t ∧ SameHar s t ∧ SameQueues s t ∧ SameArrivals s t ∧ SameLacing s t ∧ SameTree s t ∧ SameCurb s t ∧ SameConcho s t ∧ SameCores s t ∧ SameLocals s t ∧ SameBuckle s t ∧ SameEdges s t ∧ SameHost s t ∧ SameFlags s t ∧ SameReports s t ∧ SameDictAll s t ∧ SameSbAll s t ∧ SameBuckleAll s t ∧ SameHostAll s t ∧ SameCoresAll s t ∧ SameGirthAll s t ∧ SameTablesAll s t ∧ SameHarAll s t ∧ SameChainAll s t ∧ SameRadioAll s t ∧ SamePowerRxTilesTxTiles s t ∧ SameDictPower s t ∧ SameDictNums s t

theorem Kept16.of {s t : State} (h : t.outside { clock := true, vbat := true } = s.outside { clock := true, vbat := true }) : Kept16 s t :=
  ⟨.of h rfl, .of h rfl, .of h rfl, .of h rfl, .of h rfl, .of h rfl, .of h rfl, .of h rfl, .of h rfl, .of h rfl, .of h rfl, .of h rfl, .of h rfl, .of h rfl, .of h rfl, .of h rfl, .of h rfl, .of h rfl, .of h rfl, .of h rfl, .of h rfl, .of h rfl, .of h rfl, .of h rfl, .of h rfl, .of h rfl, .of h rfl, .of h rfl, .of h rfl, .of h rfl, .of h rfl, .of h rfl, .of h rfl, .of h rfl, .of h rfl, .of h rfl, .of h rfl, .of h rfl, .of h rfl, .of h rfl, .of h rfl, .of h rfl, .of h rfl, .of h rfl, .of h rfl, .of h rfl, .of h rfl rfl rfl rfl rfl, .of h rfl rfl rfl rfl rfl, .of h rfl rfl, .of h rfl rfl rfl, .of h rfl rfl, .of h rfl rfl rfl rfl, .of h rfl rfl rfl, .of h rfl rfl rfl, .of h rfl rfl, .of h rfl rfl rfl rfl, .of h rfl rfl rfl, .of h rfl rfl, .of h rfl rfl⟩

/-- Every part but these is kept: chainPorts. -/
abbrev Kept17 (s t : State) : Prop :=
  SamePending s t ∧ SameDraws s t ∧ SameOut s t ∧ SameIdent s t ∧ SameFuses s t ∧ SamePins s t ∧ SameClock s t ∧ SamePulses s t ∧ SameChain s t ∧ SameDict s t ∧ SameNums s t ∧ SameDoms s t ∧ SameResults s t ∧ SameLogs s t ∧ SamePower s t ∧ SameVbat s t ∧ SameRadio s t ∧ SamePorts s t ∧ SameRxTiles s t ∧ SameTxTiles s t ∧ SameGirth s t ∧ SameRecs s t ∧ SameSched s t ∧ SameCinch s t ∧ SameKeeper s t ∧ SameSb s t ∧ SameStraps s t ∧ SameJournal s t ∧ SameAttached s t ∧ SameNodeQueues s t ∧ SameTables s t ∧ SameWindows s t ∧ SameHalter s t ∧ SameHar s t ∧ SameQueues s t ∧ SameArrivals s t ∧ SameLacing s t ∧ SameTree s t ∧ SameCurb s t ∧ SameConcho s t ∧ SameCores s t ∧ SameLocals s t ∧ SameBuckle s t ∧ SameEdges s t ∧ SameHost s t ∧ SameFlags s t ∧ SameReports s t ∧ SameDictAll s t ∧ SameSbAll s t ∧ SameBuckleAll s t ∧ SameHostAll s t ∧ SameCoresAll s t ∧ SameGirthAll s t ∧ SameTablesAll s t ∧ SameHarAll s t ∧ SameRadioAll s t ∧ SamePowerRxTilesTxTiles s t ∧ SameDictPower s t ∧ SameDictNums s t ∧ SameClockNumsPorts s t

theorem Kept17.of {s t : State} (h : t.outside { chainPorts := true } = s.outside { chainPorts := true }) : Kept17 s t :=
  ⟨.of h rfl, .of h rfl, .of h rfl, .of h rfl, .of h rfl, .of h rfl, .of h rfl, .of h rfl, .of h rfl, .of h rfl, .of h rfl, .of h rfl, .of h rfl, .of h rfl, .of h rfl, .of h rfl, .of h rfl, .of h rfl, .of h rfl, .of h rfl, .of h rfl, .of h rfl, .of h rfl, .of h rfl, .of h rfl, .of h rfl, .of h rfl, .of h rfl, .of h rfl, .of h rfl, .of h rfl, .of h rfl, .of h rfl, .of h rfl, .of h rfl, .of h rfl, .of h rfl, .of h rfl, .of h rfl, .of h rfl, .of h rfl, .of h rfl, .of h rfl, .of h rfl, .of h rfl, .of h rfl, .of h rfl, .of h rfl rfl rfl rfl rfl, .of h rfl rfl rfl rfl rfl, .of h rfl rfl, .of h rfl rfl rfl, .of h rfl rfl, .of h rfl rfl rfl rfl, .of h rfl rfl rfl, .of h rfl rfl rfl, .of h rfl rfl rfl rfl, .of h rfl rfl rfl, .of h rfl rfl, .of h rfl rfl, .of h rfl rfl rfl⟩

/-- Every part but these is kept: chainPorts, nums. -/
abbrev Kept18 (s t : State) : Prop :=
  SamePending s t ∧ SameDraws s t ∧ SameOut s t ∧ SameIdent s t ∧ SameFuses s t ∧ SamePins s t ∧ SameClock s t ∧ SamePulses s t ∧ SameChain s t ∧ SameDict s t ∧ SameDoms s t ∧ SameResults s t ∧ SameLogs s t ∧ SamePower s t ∧ SameVbat s t ∧ SameRadio s t ∧ SamePorts s t ∧ SameRxTiles s t ∧ SameTxTiles s t ∧ SameGirth s t ∧ SameRecs s t ∧ SameSched s t ∧ SameCinch s t ∧ SameKeeper s t ∧ SameSb s t ∧ SameStraps s t ∧ SameJournal s t ∧ SameAttached s t ∧ SameNodeQueues s t ∧ SameTables s t ∧ SameWindows s t ∧ SameHalter s t ∧ SameHar s t ∧ SameQueues s t ∧ SameArrivals s t ∧ SameLacing s t ∧ SameTree s t ∧ SameCurb s t ∧ SameConcho s t ∧ SameCores s t ∧ SameLocals s t ∧ SameBuckle s t ∧ SameEdges s t ∧ SameHost s t ∧ SameFlags s t ∧ SameReports s t ∧ SameSbAll s t ∧ SameBuckleAll s t ∧ SameHostAll s t ∧ SameCoresAll s t ∧ SameGirthAll s t ∧ SameTablesAll s t ∧ SameHarAll s t ∧ SameRadioAll s t ∧ SamePowerRxTilesTxTiles s t ∧ SameDictPower s t

theorem Kept18.of {s t : State} (h : t.outside { chainPorts := true, anyNum := true } = s.outside { chainPorts := true, anyNum := true }) : Kept18 s t :=
  ⟨.of h rfl, .of h rfl, .of h rfl, .of h rfl, .of h rfl, .of h rfl, .of h rfl, .of h rfl, .of h rfl, .of h rfl, .of h rfl, .of h rfl, .of h rfl, .of h rfl, .of h rfl, .of h rfl, .of h rfl, .of h rfl, .of h rfl, .of h rfl, .of h rfl, .of h rfl, .of h rfl, .of h rfl, .of h rfl, .of h rfl, .of h rfl, .of h rfl, .of h rfl, .of h rfl, .of h rfl, .of h rfl, .of h rfl, .of h rfl, .of h rfl, .of h rfl, .of h rfl, .of h rfl, .of h rfl, .of h rfl, .of h rfl, .of h rfl, .of h rfl, .of h rfl, .of h rfl, .of h rfl, .of h rfl rfl rfl rfl rfl, .of h rfl rfl, .of h rfl rfl rfl, .of h rfl rfl, .of h rfl rfl rfl rfl, .of h rfl rfl rfl, .of h rfl rfl rfl, .of h rfl rfl rfl rfl, .of h rfl rfl rfl, .of h rfl rfl⟩

/-- Every part but these is kept: cinch. -/
abbrev Kept19 (s t : State) : Prop :=
  SamePending s t ∧ SameDraws s t ∧ SameOut s t ∧ SameIdent s t ∧ SameFuses s t ∧ SamePins s t ∧ SameClock s t ∧ SamePulses s t ∧ SameChain s t ∧ SameChainPorts s t ∧ SameDict s t ∧ SameNums s t ∧ SameDoms s t ∧ SameResults s t ∧ SameLogs s t ∧ SamePower s t ∧ SameVbat s t ∧ SameRadio s t ∧ SamePorts s t ∧ SameRxTiles s t ∧ SameTxTiles s t ∧ SameGirth s t ∧ SameRecs s t ∧ SameSched s t ∧ SameKeeper s t ∧ SameSb s t ∧ SameStraps s t ∧ SameJournal s t ∧ SameAttached s t ∧ SameNodeQueues s t ∧ SameTables s t ∧ SameWindows s t ∧ SameHalter s t ∧ SameHar s t ∧ SameQueues s t ∧ SameArrivals s t ∧ SameLacing s t ∧ SameTree s t ∧ SameCurb s t ∧ SameConcho s t ∧ SameCores s t ∧ SameLocals s t ∧ SameBuckle s t ∧ SameEdges s t ∧ SameHost s t ∧ SameFlags s t ∧ SameReports s t ∧ SameDictAll s t ∧ SameSbAll s t ∧ SameBuckleAll s t ∧ SameHostAll s t ∧ SameCoresAll s t ∧ SameTablesAll s t ∧ SameHarAll s t ∧ SameChainAll s t ∧ SameRadioAll s t ∧ SamePowerRxTilesTxTiles s t ∧ SameDictPower s t ∧ SameDictNums s t ∧ SameClockNumsPorts s t

theorem Kept19.of {s t : State} (h : t.outside { cinch := true } = s.outside { cinch := true }) : Kept19 s t :=
  ⟨.of h rfl, .of h rfl, .of h rfl, .of h rfl, .of h rfl, .of h rfl, .of h rfl, .of h rfl, .of h rfl, .of h rfl, .of h rfl, .of h rfl, .of h rfl, .of h rfl, .of h rfl, .of h rfl, .of h rfl, .of h rfl, .of h rfl, .of h rfl, .of h rfl, .of h rfl, .of h rfl, .of h rfl, .of h rfl, .of h rfl, .of h rfl, .of h rfl, .of h rfl, .of h rfl, .of h rfl, .of h rfl, .of h rfl, .of h rfl, .of h rfl, .of h rfl, .of h rfl, .of h rfl, .of h rfl, .of h rfl, .of h rfl, .of h rfl, .of h rfl, .of h rfl, .of h rfl, .of h rfl, .of h rfl, .of h rfl rfl rfl rfl rfl, .of h rfl rfl rfl rfl rfl, .of h rfl rfl, .of h rfl rfl rfl, .of h rfl rfl, .of h rfl rfl rfl, .of h rfl rfl rfl, .of h rfl rfl, .of h rfl rfl rfl rfl, .of h rfl rfl rfl, .of h rfl rfl, .of h rfl rfl, .of h rfl rfl rfl⟩

/-- Every part but these is kept: nums, cinch. -/
abbrev Kept20 (s t : State) : Prop :=
  SamePending s t ∧ SameDraws s t ∧ SameOut s t ∧ SameIdent s t ∧ SameFuses s t ∧ SamePins s t ∧ SameClock s t ∧ SamePulses s t ∧ SameChain s t ∧ SameChainPorts s t ∧ SameDict s t ∧ SameDoms s t ∧ SameResults s t ∧ SameLogs s t ∧ SamePower s t ∧ SameVbat s t ∧ SameRadio s t ∧ SamePorts s t ∧ SameRxTiles s t ∧ SameTxTiles s t ∧ SameGirth s t ∧ SameRecs s t ∧ SameSched s t ∧ SameKeeper s t ∧ SameSb s t ∧ SameStraps s t ∧ SameJournal s t ∧ SameAttached s t ∧ SameNodeQueues s t ∧ SameTables s t ∧ SameWindows s t ∧ SameHalter s t ∧ SameHar s t ∧ SameQueues s t ∧ SameArrivals s t ∧ SameLacing s t ∧ SameTree s t ∧ SameCurb s t ∧ SameConcho s t ∧ SameCores s t ∧ SameLocals s t ∧ SameBuckle s t ∧ SameEdges s t ∧ SameHost s t ∧ SameFlags s t ∧ SameReports s t ∧ SameSbAll s t ∧ SameBuckleAll s t ∧ SameHostAll s t ∧ SameCoresAll s t ∧ SameTablesAll s t ∧ SameHarAll s t ∧ SameChainAll s t ∧ SameRadioAll s t ∧ SamePowerRxTilesTxTiles s t ∧ SameDictPower s t

theorem Kept20.of {s t : State} (h : t.outside { anyNum := true, cinch := true } = s.outside { anyNum := true, cinch := true }) : Kept20 s t :=
  ⟨.of h rfl, .of h rfl, .of h rfl, .of h rfl, .of h rfl, .of h rfl, .of h rfl, .of h rfl, .of h rfl, .of h rfl, .of h rfl, .of h rfl, .of h rfl, .of h rfl, .of h rfl, .of h rfl, .of h rfl, .of h rfl, .of h rfl, .of h rfl, .of h rfl, .of h rfl, .of h rfl, .of h rfl, .of h rfl, .of h rfl, .of h rfl, .of h rfl, .of h rfl, .of h rfl, .of h rfl, .of h rfl, .of h rfl, .of h rfl, .of h rfl, .of h rfl, .of h rfl, .of h rfl, .of h rfl, .of h rfl, .of h rfl, .of h rfl, .of h rfl, .of h rfl, .of h rfl, .of h rfl, .of h rfl rfl rfl rfl rfl, .of h rfl rfl, .of h rfl rfl rfl, .of h rfl rfl, .of h rfl rfl rfl, .of h rfl rfl rfl, .of h rfl rfl, .of h rfl rfl rfl rfl, .of h rfl rfl rfl, .of h rfl rfl⟩

/-- Every part but these is kept: dict, nums, logs, cinch, straps, journal, edges, flags. -/
abbrev Kept21 (s t : State) : Prop :=
  SamePending s t ∧ SameDraws s t ∧ SameOut s t ∧ SameIdent s t ∧ SameFuses s t ∧ SamePins s t ∧ SameClock s t ∧ SamePulses s t ∧ SameChain s t ∧ SameChainPorts s t ∧ SameDoms s t ∧ SameResults s t ∧ SamePower s t ∧ SameVbat s t ∧ SameRadio s t ∧ SamePorts s t ∧ SameRxTiles s t ∧ SameTxTiles s t ∧ SameGirth s t ∧ SameRecs s t ∧ SameSched s t ∧ SameKeeper s t ∧ SameSb s t ∧ SameAttached s t ∧ SameNodeQueues s t ∧ SameTables s t ∧ SameWindows s t ∧ SameHalter s t ∧ SameHar s t ∧ SameQueues s t ∧ SameArrivals s t ∧ SameLacing s t ∧ SameTree s t ∧ SameCurb s t ∧ SameConcho s t ∧ SameCores s t ∧ SameLocals s t ∧ SameBuckle s t ∧ SameHost s t ∧ SameReports s t ∧ SameCoresAll s t ∧ SameTablesAll s t ∧ SameHarAll s t ∧ SameChainAll s t ∧ SameRadioAll s t ∧ SamePowerRxTilesTxTiles s t

theorem Kept21.of {s t : State} (h : t.outside { dict := true, anyNum := true, logs := true, cinch := true, straps := true, journal := true, edges := true, flags := true } = s.outside { dict := true, anyNum := true, logs := true, cinch := true, straps := true, journal := true, edges := true, flags := true }) : Kept21 s t :=
  ⟨.of h rfl, .of h rfl, .of h rfl, .of h rfl, .of h rfl, .of h rfl, .of h rfl, .of h rfl, .of h rfl, .of h rfl, .of h rfl, .of h rfl, .of h rfl, .of h rfl, .of h rfl, .of h rfl, .of h rfl, .of h rfl, .of h rfl, .of h rfl, .of h rfl, .of h rfl, .of h rfl, .of h rfl, .of h rfl, .of h rfl, .of h rfl, .of h rfl, .of h rfl, .of h rfl, .of h rfl, .of h rfl, .of h rfl, .of h rfl, .of h rfl, .of h rfl, .of h rfl, .of h rfl, .of h rfl, .of h rfl, .of h rfl rfl, .of h rfl rfl rfl, .of h rfl rfl rfl, .of h rfl rfl, .of h rfl rfl rfl rfl, .of h rfl rfl rfl⟩

/-- Every part but these is kept: har, queues. -/
abbrev Kept22 (s t : State) : Prop :=
  SamePending s t ∧ SameDraws s t ∧ SameOut s t ∧ SameIdent s t ∧ SameFuses s t ∧ SamePins s t ∧ SameClock s t ∧ SamePulses s t ∧ SameChain s t ∧ SameChainPorts s t ∧ SameDict s t ∧ SameNums s t ∧ SameDoms s t ∧ SameResults s t ∧ SameLogs s t ∧ SamePower s t ∧ SameVbat s t ∧ SameRadio s t ∧ SamePorts s t ∧ SameRxTiles s t ∧ SameTxTiles s t ∧ SameGirth s t ∧ SameRecs s t ∧ SameSched s t ∧ SameCinch s t ∧ SameKeeper s t ∧ SameSb s t ∧ SameStraps s t ∧ SameJournal s t ∧ SameAttached s t ∧ SameNodeQueues s t ∧ SameTables s t ∧ SameWindows s t ∧ SameHalter s t ∧ SameArrivals s t ∧ SameLacing s t ∧ SameTree s t ∧ SameCurb s t ∧ SameConcho s t ∧ SameCores s t ∧ SameLocals s t ∧ SameBuckle s t ∧ SameEdges s t ∧ SameHost s t ∧ SameFlags s t ∧ SameReports s t ∧ SameDictAll s t ∧ SameSbAll s t ∧ SameBuckleAll s t ∧ SameHostAll s t ∧ SameCoresAll s t ∧ SameGirthAll s t ∧ SameTablesAll s t ∧ SameChainAll s t ∧ SameRadioAll s t ∧ SamePowerRxTilesTxTiles s t ∧ SameDictPower s t ∧ SameDictNums s t ∧ SameClockNumsPorts s t

theorem Kept22.of {s t : State} (h : t.outside { har := true, queues := true } = s.outside { har := true, queues := true }) : Kept22 s t :=
  ⟨.of h rfl, .of h rfl, .of h rfl, .of h rfl, .of h rfl, .of h rfl, .of h rfl, .of h rfl, .of h rfl, .of h rfl, .of h rfl, .of h rfl, .of h rfl, .of h rfl, .of h rfl, .of h rfl, .of h rfl, .of h rfl, .of h rfl, .of h rfl, .of h rfl, .of h rfl, .of h rfl, .of h rfl, .of h rfl, .of h rfl, .of h rfl, .of h rfl, .of h rfl, .of h rfl, .of h rfl, .of h rfl, .of h rfl, .of h rfl, .of h rfl, .of h rfl, .of h rfl, .of h rfl, .of h rfl, .of h rfl, .of h rfl, .of h rfl, .of h rfl, .of h rfl, .of h rfl, .of h rfl, .of h rfl rfl rfl rfl rfl, .of h rfl rfl rfl rfl rfl, .of h rfl rfl, .of h rfl rfl rfl, .of h rfl rfl, .of h rfl rfl rfl rfl, .of h rfl rfl rfl, .of h rfl rfl, .of h rfl rfl rfl rfl, .of h rfl rfl rfl, .of h rfl rfl, .of h rfl rfl, .of h rfl rfl rfl⟩

/-- Every part but these is kept: curb. -/
abbrev Kept23 (s t : State) : Prop :=
  SamePending s t ∧ SameDraws s t ∧ SameOut s t ∧ SameIdent s t ∧ SameFuses s t ∧ SamePins s t ∧ SameClock s t ∧ SamePulses s t ∧ SameChain s t ∧ SameChainPorts s t ∧ SameDict s t ∧ SameNums s t ∧ SameDoms s t ∧ SameResults s t ∧ SameLogs s t ∧ SamePower s t ∧ SameVbat s t ∧ SameRadio s t ∧ SamePorts s t ∧ SameRxTiles s t ∧ SameTxTiles s t ∧ SameGirth s t ∧ SameRecs s t ∧ SameSched s t ∧ SameCinch s t ∧ SameKeeper s t ∧ SameSb s t ∧ SameStraps s t ∧ SameJournal s t ∧ SameAttached s t ∧ SameNodeQueues s t ∧ SameTables s t ∧ SameWindows s t ∧ SameHalter s t ∧ SameHar s t ∧ SameQueues s t ∧ SameArrivals s t ∧ SameLacing s t ∧ SameTree s t ∧ SameConcho s t ∧ SameCores s t ∧ SameLocals s t ∧ SameBuckle s t ∧ SameEdges s t ∧ SameHost s t ∧ SameFlags s t ∧ SameReports s t ∧ SameDictAll s t ∧ SameSbAll s t ∧ SameBuckleAll s t ∧ SameHostAll s t ∧ SameCoresAll s t ∧ SameGirthAll s t ∧ SameTablesAll s t ∧ SameHarAll s t ∧ SameChainAll s t ∧ SameRadioAll s t ∧ SamePowerRxTilesTxTiles s t ∧ SameDictPower s t ∧ SameDictNums s t ∧ SameClockNumsPorts s t

theorem Kept23.of {s t : State} (h : t.outside { curb := true } = s.outside { curb := true }) : Kept23 s t :=
  ⟨.of h rfl, .of h rfl, .of h rfl, .of h rfl, .of h rfl, .of h rfl, .of h rfl, .of h rfl, .of h rfl, .of h rfl, .of h rfl, .of h rfl, .of h rfl, .of h rfl, .of h rfl, .of h rfl, .of h rfl, .of h rfl, .of h rfl, .of h rfl, .of h rfl, .of h rfl, .of h rfl, .of h rfl, .of h rfl, .of h rfl, .of h rfl, .of h rfl, .of h rfl, .of h rfl, .of h rfl, .of h rfl, .of h rfl, .of h rfl, .of h rfl, .of h rfl, .of h rfl, .of h rfl, .of h rfl, .of h rfl, .of h rfl, .of h rfl, .of h rfl, .of h rfl, .of h rfl, .of h rfl, .of h rfl, .of h rfl rfl rfl rfl rfl, .of h rfl rfl rfl rfl rfl, .of h rfl rfl, .of h rfl rfl rfl, .of h rfl rfl, .of h rfl rfl rfl rfl, .of h rfl rfl rfl, .of h rfl rfl rfl, .of h rfl rfl, .of h rfl rfl rfl rfl, .of h rfl rfl rfl, .of h rfl rfl, .of h rfl rfl, .of h rfl rfl rfl⟩

/-- Every part but these is kept: nums, curb. -/
abbrev Kept24 (s t : State) : Prop :=
  SamePending s t ∧ SameDraws s t ∧ SameOut s t ∧ SameIdent s t ∧ SameFuses s t ∧ SamePins s t ∧ SameClock s t ∧ SamePulses s t ∧ SameChain s t ∧ SameChainPorts s t ∧ SameDict s t ∧ SameDoms s t ∧ SameResults s t ∧ SameLogs s t ∧ SamePower s t ∧ SameVbat s t ∧ SameRadio s t ∧ SamePorts s t ∧ SameRxTiles s t ∧ SameTxTiles s t ∧ SameGirth s t ∧ SameRecs s t ∧ SameSched s t ∧ SameCinch s t ∧ SameKeeper s t ∧ SameSb s t ∧ SameStraps s t ∧ SameJournal s t ∧ SameAttached s t ∧ SameNodeQueues s t ∧ SameTables s t ∧ SameWindows s t ∧ SameHalter s t ∧ SameHar s t ∧ SameQueues s t ∧ SameArrivals s t ∧ SameLacing s t ∧ SameTree s t ∧ SameConcho s t ∧ SameCores s t ∧ SameLocals s t ∧ SameBuckle s t ∧ SameEdges s t ∧ SameHost s t ∧ SameFlags s t ∧ SameReports s t ∧ SameSbAll s t ∧ SameBuckleAll s t ∧ SameHostAll s t ∧ SameCoresAll s t ∧ SameGirthAll s t ∧ SameTablesAll s t ∧ SameHarAll s t ∧ SameChainAll s t ∧ SameRadioAll s t ∧ SamePowerRxTilesTxTiles s t ∧ SameDictPower s t

theorem Kept24.of {s t : State} (h : t.outside { anyNum := true, curb := true } = s.outside { anyNum := true, curb := true }) : Kept24 s t :=
  ⟨.of h rfl, .of h rfl, .of h rfl, .of h rfl, .of h rfl, .of h rfl, .of h rfl, .of h rfl, .of h rfl, .of h rfl, .of h rfl, .of h rfl, .of h rfl, .of h rfl, .of h rfl, .of h rfl, .of h rfl, .of h rfl, .of h rfl, .of h rfl, .of h rfl, .of h rfl, .of h rfl, .of h rfl, .of h rfl, .of h rfl, .of h rfl, .of h rfl, .of h rfl, .of h rfl, .of h rfl, .of h rfl, .of h rfl, .of h rfl, .of h rfl, .of h rfl, .of h rfl, .of h rfl, .of h rfl, .of h rfl, .of h rfl, .of h rfl, .of h rfl, .of h rfl, .of h rfl, .of h rfl, .of h rfl rfl rfl rfl rfl, .of h rfl rfl, .of h rfl rfl rfl, .of h rfl rfl, .of h rfl rfl rfl rfl, .of h rfl rfl rfl, .of h rfl rfl rfl, .of h rfl rfl, .of h rfl rfl rfl rfl, .of h rfl rfl rfl, .of h rfl rfl⟩

/-- Every part but these is kept: recs. -/
abbrev Kept25 (s t : State) : Prop :=
  SamePending s t ∧ SameDraws s t ∧ SameOut s t ∧ SameIdent s t ∧ SameFuses s t ∧ SamePins s t ∧ SameClock s t ∧ SamePulses s t ∧ SameChain s t ∧ SameChainPorts s t ∧ SameDict s t ∧ SameNums s t ∧ SameDoms s t ∧ SameResults s t ∧ SameLogs s t ∧ SamePower s t ∧ SameVbat s t ∧ SameRadio s t ∧ SamePorts s t ∧ SameRxTiles s t ∧ SameTxTiles s t ∧ SameGirth s t ∧ SameSched s t ∧ SameCinch s t ∧ SameKeeper s t ∧ SameSb s t ∧ SameStraps s t ∧ SameJournal s t ∧ SameAttached s t ∧ SameNodeQueues s t ∧ SameTables s t ∧ SameWindows s t ∧ SameHalter s t ∧ SameHar s t ∧ SameQueues s t ∧ SameArrivals s t ∧ SameLacing s t ∧ SameTree s t ∧ SameCurb s t ∧ SameConcho s t ∧ SameCores s t ∧ SameLocals s t ∧ SameBuckle s t ∧ SameEdges s t ∧ SameHost s t ∧ SameFlags s t ∧ SameReports s t ∧ SameDictAll s t ∧ SameSbAll s t ∧ SameBuckleAll s t ∧ SameHostAll s t ∧ SameCoresAll s t ∧ SameTablesAll s t ∧ SameHarAll s t ∧ SameChainAll s t ∧ SameRadioAll s t ∧ SamePowerRxTilesTxTiles s t ∧ SameDictPower s t ∧ SameDictNums s t ∧ SameClockNumsPorts s t

theorem Kept25.of {s t : State} (h : t.outside { recs := true } = s.outside { recs := true }) : Kept25 s t :=
  ⟨.of h rfl, .of h rfl, .of h rfl, .of h rfl, .of h rfl, .of h rfl, .of h rfl, .of h rfl, .of h rfl, .of h rfl, .of h rfl, .of h rfl, .of h rfl, .of h rfl, .of h rfl, .of h rfl, .of h rfl, .of h rfl, .of h rfl, .of h rfl, .of h rfl, .of h rfl, .of h rfl, .of h rfl, .of h rfl, .of h rfl, .of h rfl, .of h rfl, .of h rfl, .of h rfl, .of h rfl, .of h rfl, .of h rfl, .of h rfl, .of h rfl, .of h rfl, .of h rfl, .of h rfl, .of h rfl, .of h rfl, .of h rfl, .of h rfl, .of h rfl, .of h rfl, .of h rfl, .of h rfl, .of h rfl, .of h rfl rfl rfl rfl rfl, .of h rfl rfl rfl rfl rfl, .of h rfl rfl, .of h rfl rfl rfl, .of h rfl rfl, .of h rfl rfl rfl, .of h rfl rfl rfl, .of h rfl rfl, .of h rfl rfl rfl rfl, .of h rfl rfl rfl, .of h rfl rfl, .of h rfl rfl, .of h rfl rfl rfl⟩

/-- Every part but these is kept: sched. -/
abbrev Kept26 (s t : State) : Prop :=
  SamePending s t ∧ SameDraws s t ∧ SameOut s t ∧ SameIdent s t ∧ SameFuses s t ∧ SamePins s t ∧ SameClock s t ∧ SamePulses s t ∧ SameChain s t ∧ SameChainPorts s t ∧ SameDict s t ∧ SameNums s t ∧ SameDoms s t ∧ SameResults s t ∧ SameLogs s t ∧ SamePower s t ∧ SameVbat s t ∧ SameRadio s t ∧ SamePorts s t ∧ SameRxTiles s t ∧ SameTxTiles s t ∧ SameGirth s t ∧ SameRecs s t ∧ SameCinch s t ∧ SameKeeper s t ∧ SameSb s t ∧ SameStraps s t ∧ SameJournal s t ∧ SameAttached s t ∧ SameNodeQueues s t ∧ SameTables s t ∧ SameWindows s t ∧ SameHalter s t ∧ SameHar s t ∧ SameQueues s t ∧ SameArrivals s t ∧ SameLacing s t ∧ SameTree s t ∧ SameCurb s t ∧ SameConcho s t ∧ SameCores s t ∧ SameLocals s t ∧ SameBuckle s t ∧ SameEdges s t ∧ SameHost s t ∧ SameFlags s t ∧ SameReports s t ∧ SameDictAll s t ∧ SameSbAll s t ∧ SameBuckleAll s t ∧ SameHostAll s t ∧ SameCoresAll s t ∧ SameTablesAll s t ∧ SameHarAll s t ∧ SameChainAll s t ∧ SameRadioAll s t ∧ SamePowerRxTilesTxTiles s t ∧ SameDictPower s t ∧ SameDictNums s t ∧ SameClockNumsPorts s t

theorem Kept26.of {s t : State} (h : t.outside { sched := true } = s.outside { sched := true }) : Kept26 s t :=
  ⟨.of h rfl, .of h rfl, .of h rfl, .of h rfl, .of h rfl, .of h rfl, .of h rfl, .of h rfl, .of h rfl, .of h rfl, .of h rfl, .of h rfl, .of h rfl, .of h rfl, .of h rfl, .of h rfl, .of h rfl, .of h rfl, .of h rfl, .of h rfl, .of h rfl, .of h rfl, .of h rfl, .of h rfl, .of h rfl, .of h rfl, .of h rfl, .of h rfl, .of h rfl, .of h rfl, .of h rfl, .of h rfl, .of h rfl, .of h rfl, .of h rfl, .of h rfl, .of h rfl, .of h rfl, .of h rfl, .of h rfl, .of h rfl, .of h rfl, .of h rfl, .of h rfl, .of h rfl, .of h rfl, .of h rfl, .of h rfl rfl rfl rfl rfl, .of h rfl rfl rfl rfl rfl, .of h rfl rfl, .of h rfl rfl rfl, .of h rfl rfl, .of h rfl rfl rfl, .of h rfl rfl rfl, .of h rfl rfl, .of h rfl rfl rfl rfl, .of h rfl rfl rfl, .of h rfl rfl, .of h rfl rfl, .of h rfl rfl rfl⟩

/-- Every part but these is kept: nums, sched. -/
abbrev Kept27 (s t : State) : Prop :=
  SamePending s t ∧ SameDraws s t ∧ SameOut s t ∧ SameIdent s t ∧ SameFuses s t ∧ SamePins s t ∧ SameClock s t ∧ SamePulses s t ∧ SameChain s t ∧ SameChainPorts s t ∧ SameDict s t ∧ SameDoms s t ∧ SameResults s t ∧ SameLogs s t ∧ SamePower s t ∧ SameVbat s t ∧ SameRadio s t ∧ SamePorts s t ∧ SameRxTiles s t ∧ SameTxTiles s t ∧ SameGirth s t ∧ SameRecs s t ∧ SameCinch s t ∧ SameKeeper s t ∧ SameSb s t ∧ SameStraps s t ∧ SameJournal s t ∧ SameAttached s t ∧ SameNodeQueues s t ∧ SameTables s t ∧ SameWindows s t ∧ SameHalter s t ∧ SameHar s t ∧ SameQueues s t ∧ SameArrivals s t ∧ SameLacing s t ∧ SameTree s t ∧ SameCurb s t ∧ SameConcho s t ∧ SameCores s t ∧ SameLocals s t ∧ SameBuckle s t ∧ SameEdges s t ∧ SameHost s t ∧ SameFlags s t ∧ SameReports s t ∧ SameSbAll s t ∧ SameBuckleAll s t ∧ SameHostAll s t ∧ SameCoresAll s t ∧ SameTablesAll s t ∧ SameHarAll s t ∧ SameChainAll s t ∧ SameRadioAll s t ∧ SamePowerRxTilesTxTiles s t ∧ SameDictPower s t

theorem Kept27.of {s t : State} (h : t.outside { anyNum := true, sched := true } = s.outside { anyNum := true, sched := true }) : Kept27 s t :=
  ⟨.of h rfl, .of h rfl, .of h rfl, .of h rfl, .of h rfl, .of h rfl, .of h rfl, .of h rfl, .of h rfl, .of h rfl, .of h rfl, .of h rfl, .of h rfl, .of h rfl, .of h rfl, .of h rfl, .of h rfl, .of h rfl, .of h rfl, .of h rfl, .of h rfl, .of h rfl, .of h rfl, .of h rfl, .of h rfl, .of h rfl, .of h rfl, .of h rfl, .of h rfl, .of h rfl, .of h rfl, .of h rfl, .of h rfl, .of h rfl, .of h rfl, .of h rfl, .of h rfl, .of h rfl, .of h rfl, .of h rfl, .of h rfl, .of h rfl, .of h rfl, .of h rfl, .of h rfl, .of h rfl, .of h rfl rfl rfl rfl rfl, .of h rfl rfl, .of h rfl rfl rfl, .of h rfl rfl, .of h rfl rfl rfl, .of h rfl rfl rfl, .of h rfl rfl, .of h rfl rfl rfl rfl, .of h rfl rfl rfl, .of h rfl rfl⟩

/-- Every part but these is kept: nodeQueues. -/
abbrev Kept28 (s t : State) : Prop :=
  SamePending s t ∧ SameDraws s t ∧ SameOut s t ∧ SameIdent s t ∧ SameFuses s t ∧ SamePins s t ∧ SameClock s t ∧ SamePulses s t ∧ SameChain s t ∧ SameChainPorts s t ∧ SameDict s t ∧ SameNums s t ∧ SameDoms s t ∧ SameResults s t ∧ SameLogs s t ∧ SamePower s t ∧ SameVbat s t ∧ SameRadio s t ∧ SamePorts s t ∧ SameRxTiles s t ∧ SameTxTiles s t ∧ SameGirth s t ∧ SameRecs s t ∧ SameSched s t ∧ SameCinch s t ∧ SameKeeper s t ∧ SameSb s t ∧ SameStraps s t ∧ SameJournal s t ∧ SameAttached s t ∧ SameTables s t ∧ SameWindows s t ∧ SameHalter s t ∧ SameHar s t ∧ SameQueues s t ∧ SameArrivals s t ∧ SameLacing s t ∧ SameTree s t ∧ SameCurb s t ∧ SameConcho s t ∧ SameCores s t ∧ SameLocals s t ∧ SameBuckle s t ∧ SameEdges s t ∧ SameHost s t ∧ SameFlags s t ∧ SameReports s t ∧ SameDictAll s t ∧ SameBuckleAll s t ∧ SameHostAll s t ∧ SameCoresAll s t ∧ SameGirthAll s t ∧ SameTablesAll s t ∧ SameHarAll s t ∧ SameChainAll s t ∧ SameRadioAll s t ∧ SamePowerRxTilesTxTiles s t ∧ SameDictPower s t ∧ SameDictNums s t ∧ SameClockNumsPorts s t

theorem Kept28.of {s t : State} (h : t.outside { nodeQueues := true } = s.outside { nodeQueues := true }) : Kept28 s t :=
  ⟨.of h rfl, .of h rfl, .of h rfl, .of h rfl, .of h rfl, .of h rfl, .of h rfl, .of h rfl, .of h rfl, .of h rfl, .of h rfl, .of h rfl, .of h rfl, .of h rfl, .of h rfl, .of h rfl, .of h rfl, .of h rfl, .of h rfl, .of h rfl, .of h rfl, .of h rfl, .of h rfl, .of h rfl, .of h rfl, .of h rfl, .of h rfl, .of h rfl, .of h rfl, .of h rfl, .of h rfl, .of h rfl, .of h rfl, .of h rfl, .of h rfl, .of h rfl, .of h rfl, .of h rfl, .of h rfl, .of h rfl, .of h rfl, .of h rfl, .of h rfl, .of h rfl, .of h rfl, .of h rfl, .of h rfl, .of h rfl rfl rfl rfl rfl, .of h rfl rfl, .of h rfl rfl rfl, .of h rfl rfl, .of h rfl rfl rfl rfl, .of h rfl rfl rfl, .of h rfl rfl rfl, .of h rfl rfl, .of h rfl rfl rfl rfl, .of h rfl rfl rfl, .of h rfl rfl, .of h rfl rfl, .of h rfl rfl rfl⟩

/-- Every part but these is kept: sb, straps, nodeQueues, har, queues, arrivals. -/
abbrev Kept29 (s t : State) : Prop :=
  SamePending s t ∧ SameDraws s t ∧ SameOut s t ∧ SameIdent s t ∧ SameFuses s t ∧ SamePins s t ∧ SameClock s t ∧ SamePulses s t ∧ SameChain s t ∧ SameChainPorts s t ∧ SameDict s t ∧ SameNums s t ∧ SameDoms s t ∧ SameResults s t ∧ SameLogs s t ∧ SamePower s t ∧ SameVbat s t ∧ SameRadio s t ∧ SamePorts s t ∧ SameRxTiles s t ∧ SameTxTiles s t ∧ SameGirth s t ∧ SameRecs s t ∧ SameSched s t ∧ SameCinch s t ∧ SameKeeper s t ∧ SameJournal s t ∧ SameAttached s t ∧ SameTables s t ∧ SameWindows s t ∧ SameHalter s t ∧ SameLacing s t ∧ SameTree s t ∧ SameCurb s t ∧ SameConcho s t ∧ SameCores s t ∧ SameLocals s t ∧ SameBuckle s t ∧ SameEdges s t ∧ SameHost s t ∧ SameFlags s t ∧ SameReports s t ∧ SameDictAll s t ∧ SameBuckleAll s t ∧ SameHostAll s t ∧ SameCoresAll s t ∧ SameGirthAll s t ∧ SameTablesAll s t ∧ SameChainAll s t ∧ SameRadioAll s t ∧ SamePowerRxTilesTxTiles s t ∧ SameDictPower s t ∧ SameDictNums s t ∧ SameClockNumsPorts s t

theorem Kept29.of {s t : State} (h : t.outside { sb := true, straps := true, nodeQueues := true, har := true, queues := true, arrivals := true } = s.outside { sb := true, straps := true, nodeQueues := true, har := true, queues := true, arrivals := true }) : Kept29 s t :=
  ⟨.of h rfl, .of h rfl, .of h rfl, .of h rfl, .of h rfl, .of h rfl, .of h rfl, .of h rfl, .of h rfl, .of h rfl, .of h rfl, .of h rfl, .of h rfl, .of h rfl, .of h rfl, .of h rfl, .of h rfl, .of h rfl, .of h rfl, .of h rfl, .of h rfl, .of h rfl, .of h rfl, .of h rfl, .of h rfl, .of h rfl, .of h rfl, .of h rfl, .of h rfl, .of h rfl, .of h rfl, .of h rfl, .of h rfl, .of h rfl, .of h rfl, .of h rfl, .of h rfl, .of h rfl, .of h rfl, .of h rfl, .of h rfl, .of h rfl, .of h rfl rfl rfl rfl rfl, .of h rfl rfl, .of h rfl rfl rfl, .of h rfl rfl, .of h rfl rfl rfl rfl, .of h rfl rfl rfl, .of h rfl rfl, .of h rfl rfl rfl rfl, .of h rfl rfl rfl, .of h rfl rfl, .of h rfl rfl, .of h rfl rfl rfl⟩

/-- Every part but these is kept: dict, nums, logs, straps, journal, har, queues, edges, flags, reports. -/
abbrev Kept30 (s t : State) : Prop :=
  SamePending s t ∧ SameDraws s t ∧ SameOut s t ∧ SameIdent s t ∧ SameFuses s t ∧ SamePins s t ∧ SameClock s t ∧ SamePulses s t ∧ SameChain s t ∧ SameChainPorts s t ∧ SameDoms s t ∧ SameResults s t ∧ SamePower s t ∧ SameVbat s t ∧ SameRadio s t ∧ SamePorts s t ∧ SameRxTiles s t ∧ SameTxTiles s t ∧ SameGirth s t ∧ SameRecs s t ∧ SameSched s t ∧ SameCinch s t ∧ SameKeeper s t ∧ SameSb s t ∧ SameAttached s t ∧ SameNodeQueues s t ∧ SameTables s t ∧ SameWindows s t ∧ SameHalter s t ∧ SameArrivals s t ∧ SameLacing s t ∧ SameTree s t ∧ SameCurb s t ∧ SameConcho s t ∧ SameCores s t ∧ SameLocals s t ∧ SameBuckle s t ∧ SameHost s t ∧ SameCoresAll s t ∧ SameGirthAll s t ∧ SameTablesAll s t ∧ SameChainAll s t ∧ SameRadioAll s t ∧ SamePowerRxTilesTxTiles s t

theorem Kept30.of {s t : State} (h : t.outside { dict := true, anyNum := true, logs := true, straps := true, journal := true, har := true, queues := true, edges := true, flags := true, reports := true } = s.outside { dict := true, anyNum := true, logs := true, straps := true, journal := true, har := true, queues := true, edges := true, flags := true, reports := true }) : Kept30 s t :=
  ⟨.of h rfl, .of h rfl, .of h rfl, .of h rfl, .of h rfl, .of h rfl, .of h rfl, .of h rfl, .of h rfl, .of h rfl, .of h rfl, .of h rfl, .of h rfl, .of h rfl, .of h rfl, .of h rfl, .of h rfl, .of h rfl, .of h rfl, .of h rfl, .of h rfl, .of h rfl, .of h rfl, .of h rfl, .of h rfl, .of h rfl, .of h rfl, .of h rfl, .of h rfl, .of h rfl, .of h rfl, .of h rfl, .of h rfl, .of h rfl, .of h rfl, .of h rfl, .of h rfl, .of h rfl, .of h rfl rfl, .of h rfl rfl rfl rfl, .of h rfl rfl rfl, .of h rfl rfl, .of h rfl rfl rfl rfl, .of h rfl rfl rfl⟩

/-- Every part but these is kept: dict, nums, logs, straps, journal, nodeQueues, edges, flags, reports. -/
abbrev Kept31 (s t : State) : Prop :=
  SamePending s t ∧ SameDraws s t ∧ SameOut s t ∧ SameIdent s t ∧ SameFuses s t ∧ SamePins s t ∧ SameClock s t ∧ SamePulses s t ∧ SameChain s t ∧ SameChainPorts s t ∧ SameDoms s t ∧ SameResults s t ∧ SamePower s t ∧ SameVbat s t ∧ SameRadio s t ∧ SamePorts s t ∧ SameRxTiles s t ∧ SameTxTiles s t ∧ SameGirth s t ∧ SameRecs s t ∧ SameSched s t ∧ SameCinch s t ∧ SameKeeper s t ∧ SameSb s t ∧ SameAttached s t ∧ SameTables s t ∧ SameWindows s t ∧ SameHalter s t ∧ SameHar s t ∧ SameQueues s t ∧ SameArrivals s t ∧ SameLacing s t ∧ SameTree s t ∧ SameCurb s t ∧ SameConcho s t ∧ SameCores s t ∧ SameLocals s t ∧ SameBuckle s t ∧ SameHost s t ∧ SameCoresAll s t ∧ SameGirthAll s t ∧ SameTablesAll s t ∧ SameHarAll s t ∧ SameChainAll s t ∧ SameRadioAll s t ∧ SamePowerRxTilesTxTiles s t

theorem Kept31.of {s t : State} (h : t.outside { dict := true, anyNum := true, logs := true, straps := true, journal := true, nodeQueues := true, edges := true, flags := true, reports := true } = s.outside { dict := true, anyNum := true, logs := true, straps := true, journal := true, nodeQueues := true, edges := true, flags := true, reports := true }) : Kept31 s t :=
  ⟨.of h rfl, .of h rfl, .of h rfl, .of h rfl, .of h rfl, .of h rfl, .of h rfl, .of h rfl, .of h rfl, .of h rfl, .of h rfl, .of h rfl, .of h rfl, .of h rfl, .of h rfl, .of h rfl, .of h rfl, .of h rfl, .of h rfl, .of h rfl, .of h rfl, .of h rfl, .of h rfl, .of h rfl, .of h rfl, .of h rfl, .of h rfl, .of h rfl, .of h rfl, .of h rfl, .of h rfl, .of h rfl, .of h rfl, .of h rfl, .of h rfl, .of h rfl, .of h rfl, .of h rfl, .of h rfl, .of h rfl rfl, .of h rfl rfl rfl rfl, .of h rfl rfl rfl, .of h rfl rfl rfl, .of h rfl rfl, .of h rfl rfl rfl rfl, .of h rfl rfl rfl⟩

/-- Every part but these is kept: dict, nums, logs, sched, sb, straps, journal, nodeQueues, har, queues, edges, flags, reports. -/
abbrev Kept32 (s t : State) : Prop :=
  SamePending s t ∧ SameDraws s t ∧ SameOut s t ∧ SameIdent s t ∧ SameFuses s t ∧ SamePins s t ∧ SameClock s t ∧ SamePulses s t ∧ SameChain s t ∧ SameChainPorts s t ∧ SameDoms s t ∧ SameResults s t ∧ SamePower s t ∧ SameVbat s t ∧ SameRadio s t ∧ SamePorts s t ∧ SameRxTiles s t ∧ SameTxTiles s t ∧ SameGirth s t ∧ SameRecs s t ∧ SameCinch s t ∧ SameKeeper s t ∧ SameAttached s t ∧ SameTables s t ∧ SameWindows s t ∧ SameHalter s t ∧ SameArrivals s t ∧ SameLacing s t ∧ SameTree s t ∧ SameCurb s t ∧ SameConcho s t ∧ SameCores s t ∧ SameLocals s t ∧ SameBuckle s t ∧ SameHost s t ∧ SameCoresAll s t ∧ SameTablesAll s t ∧ SameChainAll s t ∧ SameRadioAll s t ∧ SamePowerRxTilesTxTiles s t

theorem Kept32.of {s t : State} (h : t.outside { dict := true, anyNum := true, logs := true, sched := true, sb := true, straps := true, journal := true, nodeQueues := true, har := true, queues := true, edges := true, flags := true, reports := true } = s.outside { dict := true, anyNum := true, logs := true, sched := true, sb := true, straps := true, journal := true, nodeQueues := true, har := true, queues := true, edges := true, flags := true, reports := true }) : Kept32 s t :=
  ⟨.of h rfl, .of h rfl, .of h rfl, .of h rfl, .of h rfl, .of h rfl, .of h rfl, .of h rfl, .of h rfl, .of h rfl, .of h rfl, .of h rfl, .of h rfl, .of h rfl, .of h rfl, .of h rfl, .of h rfl, .of h rfl, .of h rfl, .of h rfl, .of h rfl, .of h rfl, .of h rfl, .of h rfl, .of h rfl, .of h rfl, .of h rfl, .of h rfl, .of h rfl, .of h rfl, .of h rfl, .of h rfl, .of h rfl, .of h rfl, .of h rfl, .of h rfl rfl, .of h rfl rfl rfl, .of h rfl rfl, .of h rfl rfl rfl rfl, .of h rfl rfl rfl⟩

/-- Every part but these is kept: nums, journal. -/
abbrev Kept33 (s t : State) : Prop :=
  SamePending s t ∧ SameDraws s t ∧ SameOut s t ∧ SameIdent s t ∧ SameFuses s t ∧ SamePins s t ∧ SameClock s t ∧ SamePulses s t ∧ SameChain s t ∧ SameChainPorts s t ∧ SameDict s t ∧ SameDoms s t ∧ SameResults s t ∧ SameLogs s t ∧ SamePower s t ∧ SameVbat s t ∧ SameRadio s t ∧ SamePorts s t ∧ SameRxTiles s t ∧ SameTxTiles s t ∧ SameGirth s t ∧ SameRecs s t ∧ SameSched s t ∧ SameCinch s t ∧ SameKeeper s t ∧ SameSb s t ∧ SameStraps s t ∧ SameAttached s t ∧ SameNodeQueues s t ∧ SameTables s t ∧ SameWindows s t ∧ SameHalter s t ∧ SameHar s t ∧ SameQueues s t ∧ SameArrivals s t ∧ SameLacing s t ∧ SameTree s t ∧ SameCurb s t ∧ SameConcho s t ∧ SameCores s t ∧ SameLocals s t ∧ SameBuckle s t ∧ SameEdges s t ∧ SameHost s t ∧ SameFlags s t ∧ SameReports s t ∧ SameBuckleAll s t ∧ SameHostAll s t ∧ SameCoresAll s t ∧ SameGirthAll s t ∧ SameTablesAll s t ∧ SameHarAll s t ∧ SameChainAll s t ∧ SameRadioAll s t ∧ SamePowerRxTilesTxTiles s t ∧ SameDictPower s t

theorem Kept33.of {s t : State} (h : t.outside { anyNum := true, journal := true } = s.outside { anyNum := true, journal := true }) : Kept33 s t :=
  ⟨.of h rfl, .of h rfl, .of h rfl, .of h rfl, .of h rfl, .of h rfl, .of h rfl, .of h rfl, .of h rfl, .of h rfl, .of h rfl, .of h rfl, .of h rfl, .of h rfl, .of h rfl, .of h rfl, .of h rfl, .of h rfl, .of h rfl, .of h rfl, .of h rfl, .of h rfl, .of h rfl, .of h rfl, .of h rfl, .of h rfl, .of h rfl, .of h rfl, .of h rfl, .of h rfl, .of h rfl, .of h rfl, .of h rfl, .of h rfl, .of h rfl, .of h rfl, .of h rfl, .of h rfl, .of h rfl, .of h rfl, .of h rfl, .of h rfl, .of h rfl, .of h rfl, .of h rfl, .of h rfl, .of h rfl rfl, .of h rfl rfl rfl, .of h rfl rfl, .of h rfl rfl rfl rfl, .of h rfl rfl rfl, .of h rfl rfl rfl, .of h rfl rfl, .of h rfl rfl rfl rfl, .of h rfl rfl rfl, .of h rfl rfl⟩

/-- Every part but these is kept: attached. -/
abbrev Kept34 (s t : State) : Prop :=
  SamePending s t ∧ SameDraws s t ∧ SameOut s t ∧ SameIdent s t ∧ SameFuses s t ∧ SamePins s t ∧ SameClock s t ∧ SamePulses s t ∧ SameChain s t ∧ SameChainPorts s t ∧ SameDict s t ∧ SameNums s t ∧ SameDoms s t ∧ SameResults s t ∧ SameLogs s t ∧ SamePower s t ∧ SameVbat s t ∧ SameRadio s t ∧ SamePorts s t ∧ SameRxTiles s t ∧ SameTxTiles s t ∧ SameGirth s t ∧ SameRecs s t ∧ SameSched s t ∧ SameCinch s t ∧ SameKeeper s t ∧ SameSb s t ∧ SameStraps s t ∧ SameJournal s t ∧ SameNodeQueues s t ∧ SameTables s t ∧ SameWindows s t ∧ SameHalter s t ∧ SameHar s t ∧ SameQueues s t ∧ SameArrivals s t ∧ SameLacing s t ∧ SameTree s t ∧ SameCurb s t ∧ SameConcho s t ∧ SameCores s t ∧ SameLocals s t ∧ SameBuckle s t ∧ SameEdges s t ∧ SameHost s t ∧ SameFlags s t ∧ SameReports s t ∧ SameDictAll s t ∧ SameBuckleAll s t ∧ SameHostAll s t ∧ SameCoresAll s t ∧ SameGirthAll s t ∧ SameTablesAll s t ∧ SameHarAll s t ∧ SameChainAll s t ∧ SameRadioAll s t ∧ SamePowerRxTilesTxTiles s t ∧ SameDictPower s t ∧ SameDictNums s t ∧ SameClockNumsPorts s t

theorem Kept34.of {s t : State} (h : t.outside { attached := true } = s.outside { attached := true }) : Kept34 s t :=
  ⟨.of h rfl, .of h rfl, .of h rfl, .of h rfl, .of h rfl, .of h rfl, .of h rfl, .of h rfl, .of h rfl, .of h rfl, .of h rfl, .of h rfl, .of h rfl, .of h rfl, .of h rfl, .of h rfl, .of h rfl, .of h rfl, .of h rfl, .of h rfl, .of h rfl, .of h rfl, .of h rfl, .of h rfl, .of h rfl, .of h rfl, .of h rfl, .of h rfl, .of h rfl, .of h rfl, .of h rfl, .of h rfl, .of h rfl, .of h rfl, .of h rfl, .of h rfl, .of h rfl, .of h rfl, .of h rfl, .of h rfl, .of h rfl, .of h rfl, .of h rfl, .of h rfl, .of h rfl, .of h rfl, .of h rfl, .of h rfl rfl rfl rfl rfl, .of h rfl rfl, .of h rfl rfl rfl, .of h rfl rfl, .of h rfl rfl rfl rfl, .of h rfl rfl rfl, .of h rfl rfl rfl, .of h rfl rfl, .of h rfl rfl rfl rfl, .of h rfl rfl rfl, .of h rfl rfl, .of h rfl rfl, .of h rfl rfl rfl⟩

/-- Every part but these is kept: journal, attached. -/
abbrev Kept35 (s t : State) : Prop :=
  SamePending s t ∧ SameDraws s t ∧ SameOut s t ∧ SameIdent s t ∧ SameFuses s t ∧ SamePins s t ∧ SameClock s t ∧ SamePulses s t ∧ SameChain s t ∧ SameChainPorts s t ∧ SameDict s t ∧ SameNums s t ∧ SameDoms s t ∧ SameResults s t ∧ SameLogs s t ∧ SamePower s t ∧ SameVbat s t ∧ SameRadio s t ∧ SamePorts s t ∧ SameRxTiles s t ∧ SameTxTiles s t ∧ SameGirth s t ∧ SameRecs s t ∧ SameSched s t ∧ SameCinch s t ∧ SameKeeper s t ∧ SameSb s t ∧ SameStraps s t ∧ SameNodeQueues s t ∧ SameTables s t ∧ SameWindows s t ∧ SameHalter s t ∧ SameHar s t ∧ SameQueues s t ∧ SameArrivals s t ∧ SameLacing s t ∧ SameTree s t ∧ SameCurb s t ∧ SameConcho s t ∧ SameCores s t ∧ SameLocals s t ∧ SameBuckle s t ∧ SameEdges s t ∧ SameHost s t ∧ SameFlags s t ∧ SameReports s t ∧ SameDictAll s t ∧ SameBuckleAll s t ∧ SameHostAll s t ∧ SameCoresAll s t ∧ SameGirthAll s t ∧ SameTablesAll s t ∧ SameHarAll s t ∧ SameChainAll s t ∧ SameRadioAll s t ∧ SamePowerRxTilesTxTiles s t ∧ SameDictPower s t ∧ SameDictNums s t ∧ SameClockNumsPorts s t

theorem Kept35.of {s t : State} (h : t.outside { journal := true, attached := true } = s.outside { journal := true, attached := true }) : Kept35 s t :=
  ⟨.of h rfl, .of h rfl, .of h rfl, .of h rfl, .of h rfl, .of h rfl, .of h rfl, .of h rfl, .of h rfl, .of h rfl, .of h rfl, .of h rfl, .of h rfl, .of h rfl, .of h rfl, .of h rfl, .of h rfl, .of h rfl, .of h rfl, .of h rfl, .of h rfl, .of h rfl, .of h rfl, .of h rfl, .of h rfl, .of h rfl, .of h rfl, .of h rfl, .of h rfl, .of h rfl, .of h rfl, .of h rfl, .of h rfl, .of h rfl, .of h rfl, .of h rfl, .of h rfl, .of h rfl, .of h rfl, .of h rfl, .of h rfl, .of h rfl, .of h rfl, .of h rfl, .of h rfl, .of h rfl, .of h rfl rfl rfl rfl rfl, .of h rfl rfl, .of h rfl rfl rfl, .of h rfl rfl, .of h rfl rfl rfl rfl, .of h rfl rfl rfl, .of h rfl rfl rfl, .of h rfl rfl, .of h rfl rfl rfl rfl, .of h rfl rfl rfl, .of h rfl rfl, .of h rfl rfl, .of h rfl rfl rfl⟩

/-- Every part but these is kept: dict, nums, logs, straps, journal, attached, edges, flags. -/
abbrev Kept36 (s t : State) : Prop :=
  SamePending s t ∧ SameDraws s t ∧ SameOut s t ∧ SameIdent s t ∧ SameFuses s t ∧ SamePins s t ∧ SameClock s t ∧ SamePulses s t ∧ SameChain s t ∧ SameChainPorts s t ∧ SameDoms s t ∧ SameResults s t ∧ SamePower s t ∧ SameVbat s t ∧ SameRadio s t ∧ SamePorts s t ∧ SameRxTiles s t ∧ SameTxTiles s t ∧ SameGirth s t ∧ SameRecs s t ∧ SameSched s t ∧ SameCinch s t ∧ SameKeeper s t ∧ SameSb s t ∧ SameNodeQueues s t ∧ SameTables s t ∧ SameWindows s t ∧ SameHalter s t ∧ SameHar s t ∧ SameQueues s t ∧ SameArrivals s t ∧ SameLacing s t ∧ SameTree s t ∧ SameCurb s t ∧ SameConcho s t ∧ SameCores s t ∧ SameLocals s t ∧ SameBuckle s t ∧ SameHost s t ∧ SameReports s t ∧ SameCoresAll s t ∧ SameGirthAll s t ∧ SameTablesAll s t ∧ SameHarAll s t ∧ SameChainAll s t ∧ SameRadioAll s t ∧ SamePowerRxTilesTxTiles s t

theorem Kept36.of {s t : State} (h : t.outside { dict := true, anyNum := true, logs := true, straps := true, journal := true, attached := true, edges := true, flags := true } = s.outside { dict := true, anyNum := true, logs := true, straps := true, journal := true, attached := true, edges := true, flags := true }) : Kept36 s t :=
  ⟨.of h rfl, .of h rfl, .of h rfl, .of h rfl, .of h rfl, .of h rfl, .of h rfl, .of h rfl, .of h rfl, .of h rfl, .of h rfl, .of h rfl, .of h rfl, .of h rfl, .of h rfl, .of h rfl, .of h rfl, .of h rfl, .of h rfl, .of h rfl, .of h rfl, .of h rfl, .of h rfl, .of h rfl, .of h rfl, .of h rfl, .of h rfl, .of h rfl, .of h rfl, .of h rfl, .of h rfl, .of h rfl, .of h rfl, .of h rfl, .of h rfl, .of h rfl, .of h rfl, .of h rfl, .of h rfl, .of h rfl, .of h rfl rfl, .of h rfl rfl rfl rfl, .of h rfl rfl rfl, .of h rfl rfl rfl, .of h rfl rfl, .of h rfl rfl rfl rfl, .of h rfl rfl rfl⟩

/-- Every part but these is kept: sb. -/
abbrev Kept37 (s t : State) : Prop :=
  SamePending s t ∧ SameDraws s t ∧ SameOut s t ∧ SameIdent s t ∧ SameFuses s t ∧ SamePins s t ∧ SameClock s t ∧ SamePulses s t ∧ SameChain s t ∧ SameChainPorts s t ∧ SameDict s t ∧ SameNums s t ∧ SameDoms s t ∧ SameResults s t ∧ SameLogs s t ∧ SamePower s t ∧ SameVbat s t ∧ SameRadio s t ∧ SamePorts s t ∧ SameRxTiles s t ∧ SameTxTiles s t ∧ SameGirth s t ∧ SameRecs s t ∧ SameSched s t ∧ SameCinch s t ∧ SameKeeper s t ∧ SameStraps s t ∧ SameJournal s t ∧ SameAttached s t ∧ SameNodeQueues s t ∧ SameTables s t ∧ SameWindows s t ∧ SameHalter s t ∧ SameHar s t ∧ SameQueues s t ∧ SameArrivals s t ∧ SameLacing s t ∧ SameTree s t ∧ SameCurb s t ∧ SameConcho s t ∧ SameCores s t ∧ SameLocals s t ∧ SameBuckle s t ∧ SameEdges s t ∧ SameHost s t ∧ SameFlags s t ∧ SameReports s t ∧ SameDictAll s t ∧ SameBuckleAll s t ∧ SameHostAll s t ∧ SameCoresAll s t ∧ SameGirthAll s t ∧ SameTablesAll s t ∧ SameHarAll s t ∧ SameChainAll s t ∧ SameRadioAll s t ∧ SamePowerRxTilesTxTiles s t ∧ SameDictPower s t ∧ SameDictNums s t ∧ SameClockNumsPorts s t

theorem Kept37.of {s t : State} (h : t.outside { sb := true } = s.outside { sb := true }) : Kept37 s t :=
  ⟨.of h rfl, .of h rfl, .of h rfl, .of h rfl, .of h rfl, .of h rfl, .of h rfl, .of h rfl, .of h rfl, .of h rfl, .of h rfl, .of h rfl, .of h rfl, .of h rfl, .of h rfl, .of h rfl, .of h rfl, .of h rfl, .of h rfl, .of h rfl, .of h rfl, .of h rfl, .of h rfl, .of h rfl, .of h rfl, .of h rfl, .of h rfl, .of h rfl, .of h rfl, .of h rfl, .of h rfl, .of h rfl, .of h rfl, .of h rfl, .of h rfl, .of h rfl, .of h rfl, .of h rfl, .of h rfl, .of h rfl, .of h rfl, .of h rfl, .of h rfl, .of h rfl, .of h rfl, .of h rfl, .of h rfl, .of h rfl rfl rfl rfl rfl, .of h rfl rfl, .of h rfl rfl rfl, .of h rfl rfl, .of h rfl rfl rfl rfl, .of h rfl rfl rfl, .of h rfl rfl rfl, .of h rfl rfl, .of h rfl rfl rfl rfl, .of h rfl rfl rfl, .of h rfl rfl, .of h rfl rfl, .of h rfl rfl rfl⟩

/-- Every part but these is kept: chainPorts, nums, sb. -/
abbrev Kept38 (s t : State) : Prop :=
  SamePending s t ∧ SameDraws s t ∧ SameOut s t ∧ SameIdent s t ∧ SameFuses s t ∧ SamePins s t ∧ SameClock s t ∧ SamePulses s t ∧ SameChain s t ∧ SameDict s t ∧ SameDoms s t ∧ SameResults s t ∧ SameLogs s t ∧ SamePower s t ∧ SameVbat s t ∧ SameRadio s t ∧ SamePorts s t ∧ SameRxTiles s t ∧ SameTxTiles s t ∧ SameGirth s t ∧ SameRecs s t ∧ SameSched s t ∧ SameCinch s t ∧ SameKeeper s t ∧ SameStraps s t ∧ SameJournal s t ∧ SameAttached s t ∧ SameNodeQueues s t ∧ SameTables s t ∧ SameWindows s t ∧ SameHalter s t ∧ SameHar s t ∧ SameQueues s t ∧ SameArrivals s t ∧ SameLacing s t ∧ SameTree s t ∧ SameCurb s t ∧ SameConcho s t ∧ SameCores s t ∧ SameLocals s t ∧ SameBuckle s t ∧ SameEdges s t ∧ SameHost s t ∧ SameFlags s t ∧ SameReports s t ∧ SameBuckleAll s t ∧ SameHostAll s t ∧ SameCoresAll s t ∧ SameGirthAll s t ∧ SameTablesAll s t ∧ SameHarAll s t ∧ SameRadioAll s t ∧ SamePowerRxTilesTxTiles s t ∧ SameDictPower s t

theorem Kept38.of {s t : State} (h : t.outside { chainPorts := true, anyNum := true, sb := true } = s.outside { chainPorts := true, anyNum := true, sb := true }) : Kept38 s t :=
  ⟨.of h rfl, .of h rfl, .of h rfl, .of h rfl, .of h rfl, .of h rfl, .of h rfl, .of h rfl, .of h rfl, .of h rfl, .of h rfl, .of h rfl, .of h rfl, .of h rfl, .of h rfl, .of h rfl, .of h rfl, .of h rfl, .of h rfl, .of h rfl, .of h rfl, .of h rfl, .of h rfl, .of h rfl, .of h rfl, .of h rfl, .of h rfl, .of h rfl, .of h rfl, .of h rfl, .of h rfl, .of h rfl, .of h rfl, .of h rfl, .of h rfl, .of h rfl, .of h rfl, .of h rfl, .of h rfl, .of h rfl, .of h rfl, .of h rfl, .of h rfl, .of h rfl, .of h rfl, .of h rfl rfl, .of h rfl rfl rfl, .of h rfl rfl, .of h rfl rfl rfl rfl, .of h rfl rfl rfl, .of h rfl rfl rfl, .of h rfl rfl rfl rfl, .of h rfl rfl rfl, .of h rfl rfl⟩

/-- Every part but these is kept: dict, nums, logs, straps, journal, nodeQueues, edges, flags. -/
abbrev Kept39 (s t : State) : Prop :=
  SamePending s t ∧ SameDraws s t ∧ SameOut s t ∧ SameIdent s t ∧ SameFuses s t ∧ SamePins s t ∧ SameClock s t ∧ SamePulses s t ∧ SameChain s t ∧ SameChainPorts s t ∧ SameDoms s t ∧ SameResults s t ∧ SamePower s t ∧ SameVbat s t ∧ SameRadio s t ∧ SamePorts s t ∧ SameRxTiles s t ∧ SameTxTiles s t ∧ SameGirth s t ∧ SameRecs s t ∧ SameSched s t ∧ SameCinch s t ∧ SameKeeper s t ∧ SameSb s t ∧ SameAttached s t ∧ SameTables s t ∧ SameWindows s t ∧ SameHalter s t ∧ SameHar s t ∧ SameQueues s t ∧ SameArrivals s t ∧ SameLacing s t ∧ SameTree s t ∧ SameCurb s t ∧ SameConcho s t ∧ SameCores s t ∧ SameLocals s t ∧ SameBuckle s t ∧ SameHost s t ∧ SameReports s t ∧ SameCoresAll s t ∧ SameGirthAll s t ∧ SameTablesAll s t ∧ SameHarAll s t ∧ SameChainAll s t ∧ SameRadioAll s t ∧ SamePowerRxTilesTxTiles s t

theorem Kept39.of {s t : State} (h : t.outside { dict := true, anyNum := true, logs := true, straps := true, journal := true, nodeQueues := true, edges := true, flags := true } = s.outside { dict := true, anyNum := true, logs := true, straps := true, journal := true, nodeQueues := true, edges := true, flags := true }) : Kept39 s t :=
  ⟨.of h rfl, .of h rfl, .of h rfl, .of h rfl, .of h rfl, .of h rfl, .of h rfl, .of h rfl, .of h rfl, .of h rfl, .of h rfl, .of h rfl, .of h rfl, .of h rfl, .of h rfl, .of h rfl, .of h rfl, .of h rfl, .of h rfl, .of h rfl, .of h rfl, .of h rfl, .of h rfl, .of h rfl, .of h rfl, .of h rfl, .of h rfl, .of h rfl, .of h rfl, .of h rfl, .of h rfl, .of h rfl, .of h rfl, .of h rfl, .of h rfl, .of h rfl, .of h rfl, .of h rfl, .of h rfl, .of h rfl, .of h rfl rfl, .of h rfl rfl rfl rfl, .of h rfl rfl rfl, .of h rfl rfl rfl, .of h rfl rfl, .of h rfl rfl rfl rfl, .of h rfl rfl rfl⟩

/-- Every part but these is kept: nums, nodeQueues, reports. -/
abbrev Kept40 (s t : State) : Prop :=
  SamePending s t ∧ SameDraws s t ∧ SameOut s t ∧ SameIdent s t ∧ SameFuses s t ∧ SamePins s t ∧ SameClock s t ∧ SamePulses s t ∧ SameChain s t ∧ SameChainPorts s t ∧ SameDict s t ∧ SameDoms s t ∧ SameResults s t ∧ SameLogs s t ∧ SamePower s t ∧ SameVbat s t ∧ SameRadio s t ∧ SamePorts s t ∧ SameRxTiles s t ∧ SameTxTiles s t ∧ SameGirth s t ∧ SameRecs s t ∧ SameSched s t ∧ SameCinch s t ∧ SameKeeper s t ∧ SameSb s t ∧ SameStraps s t ∧ SameJournal s t ∧ SameAttached s t ∧ SameTables s t ∧ SameWindows s t ∧ SameHalter s t ∧ SameHar s t ∧ SameQueues s t ∧ SameArrivals s t ∧ SameLacing s t ∧ SameTree s t ∧ SameCurb s t ∧ SameConcho s t ∧ SameCores s t ∧ SameLocals s t ∧ SameBuckle s t ∧ SameEdges s t ∧ SameHost s t ∧ SameFlags s t ∧ SameBuckleAll s t ∧ SameCoresAll s t ∧ SameGirthAll s t ∧ SameTablesAll s t ∧ SameHarAll s t ∧ SameChainAll s t ∧ SameRadioAll s t ∧ SamePowerRxTilesTxTiles s t ∧ SameDictPower s t

theorem Kept40.of {s t : State} (h : t.outside { anyNum := true, nodeQueues := true, reports := true } = s.outside { anyNum := true, nodeQueues := true, reports := true }) : Kept40 s t :=
  ⟨.of h rfl, .of h rfl, .of h rfl, .of h rfl, .of h rfl, .of h rfl, .of h rfl, .of h rfl, .of h rfl, .of h rfl, .of h rfl, .of h rfl, .of h rfl, .of h rfl, .of h rfl, .of h rfl, .of h rfl, .of h rfl, .of h rfl, .of h rfl, .of h rfl, .of h rfl, .of h rfl, .of h rfl, .of h rfl, .of h rfl, .of h rfl, .of h rfl, .of h rfl, .of h rfl, .of h rfl, .of h rfl, .of h rfl, .of h rfl, .of h rfl, .of h rfl, .of h rfl, .of h rfl, .of h rfl, .of h rfl, .of h rfl, .of h rfl, .of h rfl, .of h rfl, .of h rfl, .of h rfl rfl, .of h rfl rfl, .of h rfl rfl rfl rfl, .of h rfl rfl rfl, .of h rfl rfl rfl, .of h rfl rfl, .of h rfl rfl rfl rfl, .of h rfl rfl rfl, .of h rfl rfl⟩

/-- Every part but these is kept: nums, cinch, sb. -/
abbrev Kept41 (s t : State) : Prop :=
  SamePending s t ∧ SameDraws s t ∧ SameOut s t ∧ SameIdent s t ∧ SameFuses s t ∧ SamePins s t ∧ SameClock s t ∧ SamePulses s t ∧ SameChain s t ∧ SameChainPorts s t ∧ SameDict s t ∧ SameDoms s t ∧ SameResults s t ∧ SameLogs s t ∧ SamePower s t ∧ SameVbat s t ∧ SameRadio s t ∧ SamePorts s t ∧ SameRxTiles s t ∧ SameTxTiles s t ∧ SameGirth s t ∧ SameRecs s t ∧ SameSched s t ∧ SameKeeper s t ∧ SameStraps s t ∧ SameJournal s t ∧ SameAttached s t ∧ SameNodeQueues s t ∧ SameTables s t ∧ SameWindows s t ∧ SameHalter s t ∧ SameHar s t ∧ SameQueues s t ∧ SameArrivals s t ∧ SameLacing s t ∧ SameTree s t ∧ SameCurb s t ∧ SameConcho s t ∧ SameCores s t ∧ SameLocals s t ∧ SameBuckle s t ∧ SameEdges s t ∧ SameHost s t ∧ SameFlags s t ∧ SameReports s t ∧ SameBuckleAll s t ∧ SameHostAll s t ∧ SameCoresAll s t ∧ SameTablesAll s t ∧ SameHarAll s t ∧ SameChainAll s t ∧ SameRadioAll s t ∧ SamePowerRxTilesTxTiles s t ∧ SameDictPower s t

theorem Kept41.of {s t : State} (h : t.outside { anyNum := true, cinch := true, sb := true } = s.outside { anyNum := true, cinch := true, sb := true }) : Kept41 s t :=
  ⟨.of h rfl, .of h rfl, .of h rfl, .of h rfl, .of h rfl, .of h rfl, .of h rfl, .of h rfl, .of h rfl, .of h rfl, .of h rfl, .of h rfl, .of h rfl, .of h rfl, .of h rfl, .of h rfl, .of h rfl, .of h rfl, .of h rfl, .of h rfl, .of h rfl, .of h rfl, .of h rfl, .of h rfl, .of h rfl, .of h rfl, .of h rfl, .of h rfl, .of h rfl, .of h rfl, .of h rfl, .of h rfl, .of h rfl, .of h rfl, .of h rfl, .of h rfl, .of h rfl, .of h rfl, .of h rfl, .of h rfl, .of h rfl, .of h rfl, .of h rfl, .of h rfl, .of h rfl, .of h rfl rfl, .of h rfl rfl rfl, .of h rfl rfl, .of h rfl rfl rfl, .of h rfl rfl rfl, .of h rfl rfl, .of h rfl rfl rfl rfl, .of h rfl rfl rfl, .of h rfl rfl⟩

/-- Every part but these is kept: nums, journal, attached. -/
abbrev Kept42 (s t : State) : Prop :=
  SamePending s t ∧ SameDraws s t ∧ SameOut s t ∧ SameIdent s t ∧ SameFuses s t ∧ SamePins s t ∧ SameClock s t ∧ SamePulses s t ∧ SameChain s t ∧ SameChainPorts s t ∧ SameDict s t ∧ SameDoms s t ∧ SameResults s t ∧ SameLogs s t ∧ SamePower s t ∧ SameVbat s t ∧ SameRadio s t ∧ SamePorts s t ∧ SameRxTiles s t ∧ SameTxTiles s t ∧ SameGirth s t ∧ SameRecs s t ∧ SameSched s t ∧ SameCinch s t ∧ SameKeeper s t ∧ SameSb s t ∧ SameStraps s t ∧ SameNodeQueues s t ∧ SameTables s t ∧ SameWindows s t ∧ SameHalter s t ∧ SameHar s t ∧ SameQueues s t ∧ SameArrivals s t ∧ SameLacing s t ∧ SameTree s t ∧ SameCurb s t ∧ SameConcho s t ∧ SameCores s t ∧ SameLocals s t ∧ SameBuckle s t ∧ SameEdges s t ∧ SameHost s t ∧ SameFlags s t ∧ SameReports s t ∧ SameBuckleAll s t ∧ SameHostAll s t ∧ SameCoresAll s t ∧ SameGirthAll s t ∧ SameTablesAll s t ∧ SameHarAll s t ∧ SameChainAll s t ∧ SameRadioAll s t ∧ SamePowerRxTilesTxTiles s t ∧ SameDictPower s t

theorem Kept42.of {s t : State} (h : t.outside { anyNum := true, journal := true, attached := true } = s.outside { anyNum := true, journal := true, attached := true }) : Kept42 s t :=
  ⟨.of h rfl, .of h rfl, .of h rfl, .of h rfl, .of h rfl, .of h rfl, .of h rfl, .of h rfl, .of h rfl, .of h rfl, .of h rfl, .of h rfl, .of h rfl, .of h rfl, .of h rfl, .of h rfl, .of h rfl, .of h rfl, .of h rfl, .of h rfl, .of h rfl, .of h rfl, .of h rfl, .of h rfl, .of h rfl, .of h rfl, .of h rfl, .of h rfl, .of h rfl, .of h rfl, .of h rfl, .of h rfl, .of h rfl, .of h rfl, .of h rfl, .of h rfl, .of h rfl, .of h rfl, .of h rfl, .of h rfl, .of h rfl, .of h rfl, .of h rfl, .of h rfl, .of h rfl, .of h rfl rfl, .of h rfl rfl rfl, .of h rfl rfl, .of h rfl rfl rfl rfl, .of h rfl rfl rfl, .of h rfl rfl rfl, .of h rfl rfl, .of h rfl rfl rfl rfl, .of h rfl rfl rfl, .of h rfl rfl⟩

/-- Every part but these is kept: draws, attached. -/
abbrev Kept43 (s t : State) : Prop :=
  SamePending s t ∧ SameOut s t ∧ SameIdent s t ∧ SameFuses s t ∧ SamePins s t ∧ SameClock s t ∧ SamePulses s t ∧ SameChain s t ∧ SameChainPorts s t ∧ SameDict s t ∧ SameNums s t ∧ SameDoms s t ∧ SameResults s t ∧ SameLogs s t ∧ SamePower s t ∧ SameVbat s t ∧ SameRadio s t ∧ SamePorts s t ∧ SameRxTiles s t ∧ SameTxTiles s t ∧ SameGirth s t ∧ SameRecs s t ∧ SameSched s t ∧ SameCinch s t ∧ SameKeeper s t ∧ SameSb s t ∧ SameStraps s t ∧ SameJournal s t ∧ SameNodeQueues s t ∧ SameTables s t ∧ SameWindows s t ∧ SameHalter s t ∧ SameHar s t ∧ SameQueues s t ∧ SameArrivals s t ∧ SameLacing s t ∧ SameTree s t ∧ SameCurb s t ∧ SameConcho s t ∧ SameCores s t ∧ SameLocals s t ∧ SameBuckle s t ∧ SameEdges s t ∧ SameHost s t ∧ SameFlags s t ∧ SameReports s t ∧ SameDictAll s t ∧ SameBuckleAll s t ∧ SameHostAll s t ∧ SameCoresAll s t ∧ SameGirthAll s t ∧ SameTablesAll s t ∧ SameHarAll s t ∧ SameChainAll s t ∧ SameRadioAll s t ∧ SamePowerRxTilesTxTiles s t ∧ SameDictPower s t ∧ SameDictNums s t ∧ SameClockNumsPorts s t

theorem Kept43.of {s t : State} (h : t.outside { draws := true, attached := true } = s.outside { draws := true, attached := true }) : Kept43 s t :=
  ⟨.of h rfl, .of h rfl, .of h rfl, .of h rfl, .of h rfl, .of h rfl, .of h rfl, .of h rfl, .of h rfl, .of h rfl, .of h rfl, .of h rfl, .of h rfl, .of h rfl, .of h rfl, .of h rfl, .of h rfl, .of h rfl, .of h rfl, .of h rfl, .of h rfl, .of h rfl, .of h rfl, .of h rfl, .of h rfl, .of h rfl, .of h rfl, .of h rfl, .of h rfl, .of h rfl, .of h rfl, .of h rfl, .of h rfl, .of h rfl, .of h rfl, .of h rfl, .of h rfl, .of h rfl, .of h rfl, .of h rfl, .of h rfl, .of h rfl, .of h rfl, .of h rfl, .of h rfl, .of h rfl, .of h rfl rfl rfl rfl rfl, .of h rfl rfl, .of h rfl rfl rfl, .of h rfl rfl, .of h rfl rfl rfl rfl, .of h rfl rfl rfl, .of h rfl rfl rfl, .of h rfl rfl, .of h rfl rfl rfl rfl, .of h rfl rfl rfl, .of h rfl rfl, .of h rfl rfl, .of h rfl rfl rfl⟩

/-- Every part but these is kept: out, chainPorts, nums. -/
abbrev Kept44 (s t : State) : Prop :=
  SamePending s t ∧ SameDraws s t ∧ SameIdent s t ∧ SameFuses s t ∧ SamePins s t ∧ SameClock s t ∧ SamePulses s t ∧ SameChain s t ∧ SameDict s t ∧ SameDoms s t ∧ SameResults s t ∧ SameLogs s t ∧ SamePower s t ∧ SameVbat s t ∧ SameRadio s t ∧ SamePorts s t ∧ SameRxTiles s t ∧ SameTxTiles s t ∧ SameGirth s t ∧ SameRecs s t ∧ SameSched s t ∧ SameCinch s t ∧ SameKeeper s t ∧ SameSb s t ∧ SameStraps s t ∧ SameJournal s t ∧ SameAttached s t ∧ SameNodeQueues s t ∧ SameTables s t ∧ SameWindows s t ∧ SameHalter s t ∧ SameHar s t ∧ SameQueues s t ∧ SameArrivals s t ∧ SameLacing s t ∧ SameTree s t ∧ SameCurb s t ∧ SameConcho s t ∧ SameCores s t ∧ SameLocals s t ∧ SameBuckle s t ∧ SameEdges s t ∧ SameHost s t ∧ SameFlags s t ∧ SameReports s t ∧ SameSbAll s t ∧ SameBuckleAll s t ∧ SameHostAll s t ∧ SameCoresAll s t ∧ SameGirthAll s t ∧ SameTablesAll s t ∧ SameHarAll s t ∧ SameRadioAll s t ∧ SamePowerRxTilesTxTiles s t ∧ SameDictPower s t

theorem Kept44.of {s t : State} (h : t.outside { out := true, chainPorts := true, anyNum := true } = s.outside { out := true, chainPorts := true, anyNum := true }) : Kept44 s t :=
  ⟨.of h rfl, .of h rfl, .of h rfl, .of h rfl, .of h rfl, .of h rfl, .of h rfl, .of h rfl, .of h rfl, .of h rfl, .of h rfl, .of h rfl, .of h rfl, .of h rfl, .of h rfl, .of h rfl, .of h rfl, .of h rfl, .of h rfl, .of h rfl, .of h rfl, .of h rfl, .of h rfl, .of h rfl, .of h rfl, .of h rfl, .of h rfl, .of h rfl, .of h rfl, .of h rfl, .of h rfl, .of h rfl, .of h rfl, .of h rfl, .of h rfl, .of h rfl, .of h rfl, .of h rfl, .of h rfl, .of h rfl, .of h rfl, .of h rfl, .of h rfl, .of h rfl, .of h rfl, .of h rfl rfl rfl rfl rfl, .of h rfl rfl, .of h rfl rfl rfl, .of h rfl rfl, .of h rfl rfl rfl rfl, .of h rfl rfl rfl, .of h rfl rfl rfl, .of h rfl rfl rfl rfl, .of h rfl rfl rfl, .of h rfl rfl⟩

/-- Every part but these is kept: draws, out, chainPorts, nums, attached. -/
abbrev Kept45 (s t : State) : Prop :=
  SamePending s t ∧ SameIdent s t ∧ SameFuses s t ∧ SamePins s t ∧ SameClock s t ∧ SamePulses s t ∧ SameChain s t ∧ SameDict s t ∧ SameDoms s t ∧ SameResults s t ∧ SameLogs s t ∧ SamePower s t ∧ SameVbat s t ∧ SameRadio s t ∧ SamePorts s t ∧ SameRxTiles s t ∧ SameTxTiles s t ∧ SameGirth s t ∧ SameRecs s t ∧ SameSched s t ∧ SameCinch s t ∧ SameKeeper s t ∧ SameSb s t ∧ SameStraps s t ∧ SameJournal s t ∧ SameNodeQueues s t ∧ SameTables s t ∧ SameWindows s t ∧ SameHalter s t ∧ SameHar s t ∧ SameQueues s t ∧ SameArrivals s t ∧ SameLacing s t ∧ SameTree s t ∧ SameCurb s t ∧ SameConcho s t ∧ SameCores s t ∧ SameLocals s t ∧ SameBuckle s t ∧ SameEdges s t ∧ SameHost s t ∧ SameFlags s t ∧ SameReports s t ∧ SameBuckleAll s t ∧ SameHostAll s t ∧ SameCoresAll s t ∧ SameGirthAll s t ∧ SameTablesAll s t ∧ SameHarAll s t ∧ SameRadioAll s t ∧ SamePowerRxTilesTxTiles s t ∧ SameDictPower s t

theorem Kept45.of {s t : State} (h : t.outside { draws := true, out := true, chainPorts := true, anyNum := true, attached := true } = s.outside { draws := true, out := true, chainPorts := true, anyNum := true, attached := true }) : Kept45 s t :=
  ⟨.of h rfl, .of h rfl, .of h rfl, .of h rfl, .of h rfl, .of h rfl, .of h rfl, .of h rfl, .of h rfl, .of h rfl, .of h rfl, .of h rfl, .of h rfl, .of h rfl, .of h rfl, .of h rfl, .of h rfl, .of h rfl, .of h rfl, .of h rfl, .of h rfl, .of h rfl, .of h rfl, .of h rfl, .of h rfl, .of h rfl, .of h rfl, .of h rfl, .of h rfl, .of h rfl, .of h rfl, .of h rfl, .of h rfl, .of h rfl, .of h rfl, .of h rfl, .of h rfl, .of h rfl, .of h rfl, .of h rfl, .of h rfl, .of h rfl, .of h rfl, .of h rfl rfl, .of h rfl rfl rfl, .of h rfl rfl, .of h rfl rfl rfl rfl, .of h rfl rfl rfl, .of h rfl rfl rfl, .of h rfl rfl rfl rfl, .of h rfl rfl rfl, .of h rfl rfl⟩

/-- Every part but these is kept: draws, out, chainPorts, nums, sb, attached. -/
abbrev Kept46 (s t : State) : Prop :=
  SamePending s t ∧ SameIdent s t ∧ SameFuses s t ∧ SamePins s t ∧ SameClock s t ∧ SamePulses s t ∧ SameChain s t ∧ SameDict s t ∧ SameDoms s t ∧ SameResults s t ∧ SameLogs s t ∧ SamePower s t ∧ SameVbat s t ∧ SameRadio s t ∧ SamePorts s t ∧ SameRxTiles s t ∧ SameTxTiles s t ∧ SameGirth s t ∧ SameRecs s t ∧ SameSched s t ∧ SameCinch s t ∧ SameKeeper s t ∧ SameStraps s t ∧ SameJournal s t ∧ SameNodeQueues s t ∧ SameTables s t ∧ SameWindows s t ∧ SameHalter s t ∧ SameHar s t ∧ SameQueues s t ∧ SameArrivals s t ∧ SameLacing s t ∧ SameTree s t ∧ SameCurb s t ∧ SameConcho s t ∧ SameCores s t ∧ SameLocals s t ∧ SameBuckle s t ∧ SameEdges s t ∧ SameHost s t ∧ SameFlags s t ∧ SameReports s t ∧ SameBuckleAll s t ∧ SameHostAll s t ∧ SameCoresAll s t ∧ SameGirthAll s t ∧ SameTablesAll s t ∧ SameHarAll s t ∧ SameRadioAll s t ∧ SamePowerRxTilesTxTiles s t ∧ SameDictPower s t

theorem Kept46.of {s t : State} (h : t.outside { draws := true, out := true, chainPorts := true, anyNum := true, sb := true, attached := true } = s.outside { draws := true, out := true, chainPorts := true, anyNum := true, sb := true, attached := true }) : Kept46 s t :=
  ⟨.of h rfl, .of h rfl, .of h rfl, .of h rfl, .of h rfl, .of h rfl, .of h rfl, .of h rfl, .of h rfl, .of h rfl, .of h rfl, .of h rfl, .of h rfl, .of h rfl, .of h rfl, .of h rfl, .of h rfl, .of h rfl, .of h rfl, .of h rfl, .of h rfl, .of h rfl, .of h rfl, .of h rfl, .of h rfl, .of h rfl, .of h rfl, .of h rfl, .of h rfl, .of h rfl, .of h rfl, .of h rfl, .of h rfl, .of h rfl, .of h rfl, .of h rfl, .of h rfl, .of h rfl, .of h rfl, .of h rfl, .of h rfl, .of h rfl, .of h rfl rfl, .of h rfl rfl rfl, .of h rfl rfl, .of h rfl rfl rfl rfl, .of h rfl rfl rfl, .of h rfl rfl rfl, .of h rfl rfl rfl rfl, .of h rfl rfl rfl, .of h rfl rfl⟩

/-- Every part but these is kept: nums, sb, edges. -/
abbrev Kept47 (s t : State) : Prop :=
  SamePending s t ∧ SameDraws s t ∧ SameOut s t ∧ SameIdent s t ∧ SameFuses s t ∧ SamePins s t ∧ SameClock s t ∧ SamePulses s t ∧ SameChain s t ∧ SameChainPorts s t ∧ SameDict s t ∧ SameDoms s t ∧ SameResults s t ∧ SameLogs s t ∧ SamePower s t ∧ SameVbat s t ∧ SameRadio s t ∧ SamePorts s t ∧ SameRxTiles s t ∧ SameTxTiles s t ∧ SameGirth s t ∧ SameRecs s t ∧ SameSched s t ∧ SameCinch s t ∧ SameKeeper s t ∧ SameStraps s t ∧ SameJournal s t ∧ SameAttached s t ∧ SameNodeQueues s t ∧ SameTables s t ∧ SameWindows s t ∧ SameHalter s t ∧ SameHar s t ∧ SameQueues s t ∧ SameArrivals s t ∧ SameLacing s t ∧ SameTree s t ∧ SameCurb s t ∧ SameConcho s t ∧ SameCores s t ∧ SameLocals s t ∧ SameBuckle s t ∧ SameHost s t ∧ SameFlags s t ∧ SameReports s t ∧ SameHostAll s t ∧ SameCoresAll s t ∧ SameGirthAll s t ∧ SameTablesAll s t ∧ SameHarAll s t ∧ SameChainAll s t ∧ SameRadioAll s t ∧ SamePowerRxTilesTxTiles s t ∧ SameDictPower s t

theorem Kept47.of {s t : State} (h : t.outside { anyNum := true, sb := true, edges := true } = s.outside { anyNum := true, sb := true, edges := true }) : Kept47 s t :=
  ⟨.of h rfl, .of h rfl, .of h rfl, .of h rfl, .of h rfl, .of h rfl, .of h rfl, .of h rfl, .of h rfl, .of h rfl, .of h rfl, .of h rfl, .of h rfl, .of h rfl, .of h rfl, .of h rfl, .of h rfl, .of h rfl, .of h rfl, .of h rfl, .of h rfl, .of h rfl, .of h rfl, .of h rfl, .of h rfl, .of h rfl, .of h rfl, .of h rfl, .of h rfl, .of h rfl, .of h rfl, .of h rfl, .of h rfl, .of h rfl, .of h rfl, .of h rfl, .of h rfl, .of h rfl, .of h rfl, .of h rfl, .of h rfl, .of h rfl, .of h rfl, .of h rfl, .of h rfl, .of h rfl rfl rfl, .of h rfl rfl, .of h rfl rfl rfl rfl, .of h rfl rfl rfl, .of h rfl rfl rfl, .of h rfl rfl, .of h rfl rfl rfl rfl, .of h rfl rfl rfl, .of h rfl rfl⟩

/-- Every part but these is kept: out, chainPorts, dict, nums, logs, sched, sb, straps, journal, nodeQueues, har, queues, edges, flags, reports. -/
abbrev Kept48 (s t : State) : Prop :=
  SamePending s t ∧ SameDraws s t ∧ SameIdent s t ∧ SameFuses s t ∧ SamePins s t ∧ SameClock s t ∧ SamePulses s t ∧ SameChain s t ∧ SameDoms s t ∧ SameResults s t ∧ SamePower s t ∧ SameVbat s t ∧ SameRadio s t ∧ SamePorts s t ∧ SameRxTiles s t ∧ SameTxTiles s t ∧ SameGirth s t ∧ SameRecs s t ∧ SameCinch s t ∧ SameKeeper s t ∧ SameAttached s t ∧ SameTables s t ∧ SameWindows s t ∧ SameHalter s t ∧ SameArrivals s t ∧ SameLacing s t ∧ SameTree s t ∧ SameCurb s t ∧ SameConcho s t ∧ SameCores s t ∧ SameLocals s t ∧ SameBuckle s t ∧ SameHost s t ∧ SameCoresAll s t ∧ SameTablesAll s t ∧ SameRadioAll s t ∧ SamePowerRxTilesTxTiles s t

theorem Kept48.of {s t : State} (h : t.outside { out := true, chainPorts := true, dict := true, anyNum := true, logs := true, sched := true, sb := true, straps := true, journal := true, nodeQueues := true, har := true, queues := true, edges := true, flags := true, reports := true } = s.outside { out := true, chainPorts := true, dict := true, anyNum := true, logs := true, sched := true, sb := true, straps := true, journal := true, nodeQueues := true, har := true, queues := true, edges := true, flags := true, reports := true }) : Kept48 s t :=
  ⟨.of h rfl, .of h rfl, .of h rfl, .of h rfl, .of h rfl, .of h rfl, .of h rfl, .of h rfl, .of h rfl, .of h rfl, .of h rfl, .of h rfl, .of h rfl, .of h rfl, .of h rfl, .of h rfl, .of h rfl, .of h rfl, .of h rfl, .of h rfl, .of h rfl, .of h rfl, .of h rfl, .of h rfl, .of h rfl, .of h rfl, .of h rfl, .of h rfl, .of h rfl, .of h rfl, .of h rfl, .of h rfl, .of h rfl, .of h rfl rfl, .of h rfl rfl rfl, .of h rfl rfl rfl rfl, .of h rfl rfl rfl⟩

/-- Every part but these is kept: dict, nums, logs, sched, sb, straps, journal, attached, nodeQueues, har, queues, edges, flags, reports. -/
abbrev Kept49 (s t : State) : Prop :=
  SamePending s t ∧ SameDraws s t ∧ SameOut s t ∧ SameIdent s t ∧ SameFuses s t ∧ SamePins s t ∧ SameClock s t ∧ SamePulses s t ∧ SameChain s t ∧ SameChainPorts s t ∧ SameDoms s t ∧ SameResults s t ∧ SamePower s t ∧ SameVbat s t ∧ SameRadio s t ∧ SamePorts s t ∧ SameRxTiles s t ∧ SameTxTiles s t ∧ SameGirth s t ∧ SameRecs s t ∧ SameCinch s t ∧ SameKeeper s t ∧ SameTables s t ∧ SameWindows s t ∧ SameHalter s t ∧ SameArrivals s t ∧ SameLacing s t ∧ SameTree s t ∧ SameCurb s t ∧ SameConcho s t ∧ SameCores s t ∧ SameLocals s t ∧ SameBuckle s t ∧ SameHost s t ∧ SameCoresAll s t ∧ SameTablesAll s t ∧ SameChainAll s t ∧ SameRadioAll s t ∧ SamePowerRxTilesTxTiles s t

theorem Kept49.of {s t : State} (h : t.outside { dict := true, anyNum := true, logs := true, sched := true, sb := true, straps := true, journal := true, attached := true, nodeQueues := true, har := true, queues := true, edges := true, flags := true, reports := true } = s.outside { dict := true, anyNum := true, logs := true, sched := true, sb := true, straps := true, journal := true, attached := true, nodeQueues := true, har := true, queues := true, edges := true, flags := true, reports := true }) : Kept49 s t :=
  ⟨.of h rfl, .of h rfl, .of h rfl, .of h rfl, .of h rfl, .of h rfl, .of h rfl, .of h rfl, .of h rfl, .of h rfl, .of h rfl, .of h rfl, .of h rfl, .of h rfl, .of h rfl, .of h rfl, .of h rfl, .of h rfl, .of h rfl, .of h rfl, .of h rfl, .of h rfl, .of h rfl, .of h rfl, .of h rfl, .of h rfl, .of h rfl, .of h rfl, .of h rfl, .of h rfl, .of h rfl, .of h rfl, .of h rfl, .of h rfl, .of h rfl rfl, .of h rfl rfl rfl, .of h rfl rfl, .of h rfl rfl rfl rfl, .of h rfl rfl rfl⟩

/-- Every part but these is kept: nums, tables, halter. -/
abbrev Kept50 (s t : State) : Prop :=
  SamePending s t ∧ SameDraws s t ∧ SameOut s t ∧ SameIdent s t ∧ SameFuses s t ∧ SamePins s t ∧ SameClock s t ∧ SamePulses s t ∧ SameChain s t ∧ SameChainPorts s t ∧ SameDict s t ∧ SameDoms s t ∧ SameResults s t ∧ SameLogs s t ∧ SamePower s t ∧ SameVbat s t ∧ SameRadio s t ∧ SamePorts s t ∧ SameRxTiles s t ∧ SameTxTiles s t ∧ SameGirth s t ∧ SameRecs s t ∧ SameSched s t ∧ SameCinch s t ∧ SameKeeper s t ∧ SameSb s t ∧ SameStraps s t ∧ SameJournal s t ∧ SameAttached s t ∧ SameNodeQueues s t ∧ SameWindows s t ∧ SameHar s t ∧ SameQueues s t ∧ SameArrivals s t ∧ SameLacing s t ∧ SameTree s t ∧ SameCurb s t ∧ SameConcho s t ∧ SameCores s t ∧ SameLocals s t ∧ SameBuckle s t ∧ SameEdges s t ∧ SameHost s t ∧ SameFlags s t ∧ SameReports s t ∧ SameSbAll s t ∧ SameBuckleAll s t ∧ SameHostAll s t ∧ SameCoresAll s t ∧ SameGirthAll s t ∧ SameHarAll s t ∧ SameChainAll s t ∧ SameRadioAll s t ∧ SamePowerRxTilesTxTiles s t ∧ SameDictPower s t

theorem Kept50.of {s t : State} (h : t.outside { anyNum := true, tables := true, halter := true } = s.outside { anyNum := true, tables := true, halter := true }) : Kept50 s t :=
  ⟨.of h rfl, .of h rfl, .of h rfl, .of h rfl, .of h rfl, .of h rfl, .of h rfl, .of h rfl, .of h rfl, .of h rfl, .of h rfl, .of h rfl, .of h rfl, .of h rfl, .of h rfl, .of h rfl, .of h rfl, .of h rfl, .of h rfl, .of h rfl, .of h rfl, .of h rfl, .of h rfl, .of h rfl, .of h rfl, .of h rfl, .of h rfl, .of h rfl, .of h rfl, .of h rfl, .of h rfl, .of h rfl, .of h rfl, .of h rfl, .of h rfl, .of h rfl, .of h rfl, .of h rfl, .of h rfl, .of h rfl, .of h rfl, .of h rfl, .of h rfl, .of h rfl, .of h rfl, .of h rfl rfl rfl rfl rfl, .of h rfl rfl, .of h rfl rfl rfl, .of h rfl rfl, .of h rfl rfl rfl rfl, .of h rfl rfl rfl, .of h rfl rfl, .of h rfl rfl rfl rfl, .of h rfl rfl rfl, .of h rfl rfl⟩

/-- Every part but these is kept: windows. -/
abbrev Kept51 (s t : State) : Prop :=
  SamePending s t ∧ SameDraws s t ∧ SameOut s t ∧ SameIdent s t ∧ SameFuses s t ∧ SamePins s t ∧ SameClock s t ∧ SamePulses s t ∧ SameChain s t ∧ SameChainPorts s t ∧ SameDict s t ∧ SameNums s t ∧ SameDoms s t ∧ SameResults s t ∧ SameLogs s t ∧ SamePower s t ∧ SameVbat s t ∧ SameRadio s t ∧ SamePorts s t ∧ SameRxTiles s t ∧ SameTxTiles s t ∧ SameGirth s t ∧ SameRecs s t ∧ SameSched s t ∧ SameCinch s t ∧ SameKeeper s t ∧ SameSb s t ∧ SameStraps s t ∧ SameJournal s t ∧ SameAttached s t ∧ SameNodeQueues s t ∧ SameTables s t ∧ SameHalter s t ∧ SameHar s t ∧ SameQueues s t ∧ SameArrivals s t ∧ SameLacing s t ∧ SameTree s t ∧ SameCurb s t ∧ SameConcho s t ∧ SameCores s t ∧ SameLocals s t ∧ SameBuckle s t ∧ SameEdges s t ∧ SameHost s t ∧ SameFlags s t ∧ SameReports s t ∧ SameDictAll s t ∧ SameSbAll s t ∧ SameBuckleAll s t ∧ SameHostAll s t ∧ SameCoresAll s t ∧ SameGirthAll s t ∧ SameHarAll s t ∧ SameChainAll s t ∧ SameRadioAll s t ∧ SamePowerRxTilesTxTiles s t ∧ SameDictPower s t ∧ SameDictNums s t ∧ SameClockNumsPorts s t

theorem Kept51.of {s t : State} (h : t.outside { windows := true } = s.outside { windows := true }) : Kept51 s t :=
  ⟨.of h rfl, .of h rfl, .of h rfl, .of h rfl, .of h rfl, .of h rfl, .of h rfl, .of h rfl, .of h rfl, .of h rfl, .of h rfl, .of h rfl, .of h rfl, .of h rfl, .of h rfl, .of h rfl, .of h rfl, .of h rfl, .of h rfl, .of h rfl, .of h rfl, .of h rfl, .of h rfl, .of h rfl, .of h rfl, .of h rfl, .of h rfl, .of h rfl, .of h rfl, .of h rfl, .of h rfl, .of h rfl, .of h rfl, .of h rfl, .of h rfl, .of h rfl, .of h rfl, .of h rfl, .of h rfl, .of h rfl, .of h rfl, .of h rfl, .of h rfl, .of h rfl, .of h rfl, .of h rfl, .of h rfl, .of h rfl rfl rfl rfl rfl, .of h rfl rfl rfl rfl rfl, .of h rfl rfl, .of h rfl rfl rfl, .of h rfl rfl, .of h rfl rfl rfl rfl, .of h rfl rfl rfl, .of h rfl rfl, .of h rfl rfl rfl rfl, .of h rfl rfl rfl, .of h rfl rfl, .of h rfl rfl, .of h rfl rfl rfl⟩

/-- Every part but these is kept: windows, edges, flags. -/
abbrev Kept52 (s t : State) : Prop :=
  SamePending s t ∧ SameDraws s t ∧ SameOut s t ∧ SameIdent s t ∧ SameFuses s t ∧ SamePins s t ∧ SameClock s t ∧ SamePulses s t ∧ SameChain s t ∧ SameChainPorts s t ∧ SameDict s t ∧ SameNums s t ∧ SameDoms s t ∧ SameResults s t ∧ SameLogs s t ∧ SamePower s t ∧ SameVbat s t ∧ SameRadio s t ∧ SamePorts s t ∧ SameRxTiles s t ∧ SameTxTiles s t ∧ SameGirth s t ∧ SameRecs s t ∧ SameSched s t ∧ SameCinch s t ∧ SameKeeper s t ∧ SameSb s t ∧ SameStraps s t ∧ SameJournal s t ∧ SameAttached s t ∧ SameNodeQueues s t ∧ SameTables s t ∧ SameHalter s t ∧ SameHar s t ∧ SameQueues s t ∧ SameArrivals s t ∧ SameLacing s t ∧ SameTree s t ∧ SameCurb s t ∧ SameConcho s t ∧ SameCores s t ∧ SameLocals s t ∧ SameBuckle s t ∧ SameHost s t ∧ SameReports s t ∧ SameDictAll s t ∧ SameSbAll s t ∧ SameCoresAll s t ∧ SameGirthAll s t ∧ SameHarAll s t ∧ SameChainAll s t ∧ SameRadioAll s t ∧ SamePowerRxTilesTxTiles s t ∧ SameDictPower s t ∧ SameDictNums s t ∧ SameClockNumsPorts s t

theorem Kept52.of {s t : State} (h : t.outside { windows := true, edges := true, flags := true } = s.outside { windows := true, edges := true, flags := true }) : Kept52 s t :=
  ⟨.of h rfl, .of h rfl, .of h rfl, .of h rfl, .of h rfl, .of h rfl, .of h rfl, .of h rfl, .of h rfl, .of h rfl, .of h rfl, .of h rfl, .of h rfl, .of h rfl, .of h rfl, .of h rfl, .of h rfl, .of h rfl, .of h rfl, .of h rfl, .of h rfl, .of h rfl, .of h rfl, .of h rfl, .of h rfl, .of h rfl, .of h rfl, .of h rfl, .of h rfl, .of h rfl, .of h rfl, .of h rfl, .of h rfl, .of h rfl, .of h rfl, .of h rfl, .of h rfl, .of h rfl, .of h rfl, .of h rfl, .of h rfl, .of h rfl, .of h rfl, .of h rfl, .of h rfl, .of h rfl rfl rfl rfl rfl, .of h rfl rfl rfl rfl rfl, .of h rfl rfl, .of h rfl rfl rfl rfl, .of h rfl rfl rfl, .of h rfl rfl, .of h rfl rfl rfl rfl, .of h rfl rfl rfl, .of h rfl rfl, .of h rfl rfl, .of h rfl rfl rfl⟩

/-- Every part but these is kept: tables. -/
abbrev Kept53 (s t : State) : Prop :=
  SamePending s t ∧ SameDraws s t ∧ SameOut s t ∧ SameIdent s t ∧ SameFuses s t ∧ SamePins s t ∧ SameClock s t ∧ SamePulses s t ∧ SameChain s t ∧ SameChainPorts s t ∧ SameDict s t ∧ SameNums s t ∧ SameDoms s t ∧ SameResults s t ∧ SameLogs s t ∧ SamePower s t ∧ SameVbat s t ∧ SameRadio s t ∧ SamePorts s t ∧ SameRxTiles s t ∧ SameTxTiles s t ∧ SameGirth s t ∧ SameRecs s t ∧ SameSched s t ∧ SameCinch s t ∧ SameKeeper s t ∧ SameSb s t ∧ SameStraps s t ∧ SameJournal s t ∧ SameAttached s t ∧ SameNodeQueues s t ∧ SameWindows s t ∧ SameHalter s t ∧ SameHar s t ∧ SameQueues s t ∧ SameArrivals s t ∧ SameLacing s t ∧ SameTree s t ∧ SameCurb s t ∧ SameConcho s t ∧ SameCores s t ∧ SameLocals s t ∧ SameBuckle s t ∧ SameEdges s t ∧ SameHost s t ∧ SameFlags s t ∧ SameReports s t ∧ SameDictAll s t ∧ SameSbAll s t ∧ SameBuckleAll s t ∧ SameHostAll s t ∧ SameCoresAll s t ∧ SameGirthAll s t ∧ SameHarAll s t ∧ SameChainAll s t ∧ SameRadioAll s t ∧ SamePowerRxTilesTxTiles s t ∧ SameDictPower s t ∧ SameDictNums s t ∧ SameClockNumsPorts s t

theorem Kept53.of {s t : State} (h : t.outside { tables := true } = s.outside { tables := true }) : Kept53 s t :=
  ⟨.of h rfl, .of h rfl, .of h rfl, .of h rfl, .of h rfl, .of h rfl, .of h rfl, .of h rfl, .of h rfl, .of h rfl, .of h rfl, .of h rfl, .of h rfl, .of h rfl, .of h rfl, .of h rfl, .of h rfl, .of h rfl, .of h rfl, .of h rfl, .of h rfl, .of h rfl, .of h rfl, .of h rfl, .of h rfl, .of h rfl, .of h rfl, .of h rfl, .of h rfl, .of h rfl, .of h rfl, .of h rfl, .of h rfl, .of h rfl, .of h rfl, .of h rfl, .of h rfl, .of h rfl, .of h rfl, .of h rfl, .of h rfl, .of h rfl, .of h rfl, .of h rfl, .of h rfl, .of h rfl, .of h rfl, .of h rfl rfl rfl rfl rfl, .of h rfl rfl rfl rfl rfl, .of h rfl rfl, .of h rfl rfl rfl, .of h rfl rfl, .of h rfl rfl rfl rfl, .of h rfl rfl rfl, .of h rfl rfl, .of h rfl rfl rfl rfl, .of h rfl rfl rfl, .of h rfl rfl, .of h rfl rfl, .of h rfl rfl rfl⟩

/-- Every part but these is kept: tables, windows, edges, flags. -/
abbrev Kept54 (s t : State) : Prop :=
  SamePending s t ∧ SameDraws s t ∧ SameOut s t ∧ SameIdent s t ∧ SameFuses s t ∧ SamePins s t ∧ SameClock s t ∧ SamePulses s t ∧ SameChain s t ∧ SameChainPorts s t ∧ SameDict s t ∧ SameNums s t ∧ SameDoms s t ∧ SameResults s t ∧ SameLogs s t ∧ SamePower s t ∧ SameVbat s t ∧ SameRadio s t ∧ SamePorts s t ∧ SameRxTiles s t ∧ SameTxTiles s t ∧ SameGirth s t ∧ SameRecs s t ∧ SameSched s t ∧ SameCinch s t ∧ SameKeeper s t ∧ SameSb s t ∧ SameStraps s t ∧ SameJournal s t ∧ SameAttached s t ∧ SameNodeQueues s t ∧ SameHalter s t ∧ SameHar s t ∧ SameQueues s t ∧ SameArrivals s t ∧ SameLacing s t ∧ SameTree s t ∧ SameCurb s t ∧ SameConcho s t ∧ SameCores s t ∧ SameLocals s t ∧ SameBuckle s t ∧ SameHost s t ∧ SameReports s t ∧ SameDictAll s t ∧ SameSbAll s t ∧ SameCoresAll s t ∧ SameGirthAll s t ∧ SameHarAll s t ∧ SameChainAll s t ∧ SameRadioAll s t ∧ SamePowerRxTilesTxTiles s t ∧ SameDictPower s t ∧ SameDictNums s t ∧ SameClockNumsPorts s t

theorem Kept54.of {s t : State} (h : t.outside { tables := true, windows := true, edges := true, flags := true } = s.outside { tables := true, windows := true, edges := true, flags := true }) : Kept54 s t :=
  ⟨.of h rfl, .of h rfl, .of h rfl, .of h rfl, .of h rfl, .of h rfl, .of h rfl, .of h rfl, .of h rfl, .of h rfl, .of h rfl, .of h rfl, .of h rfl, .of h rfl, .of h rfl, .of h rfl, .of h rfl, .of h rfl, .of h rfl, .of h rfl, .of h rfl, .of h rfl, .of h rfl, .of h rfl, .of h rfl, .of h rfl, .of h rfl, .of h rfl, .of h rfl, .of h rfl, .of h rfl, .of h rfl, .of h rfl, .of h rfl, .of h rfl, .of h rfl, .of h rfl, .of h rfl, .of h rfl, .of h rfl, .of h rfl, .of h rfl, .of h rfl, .of h rfl, .of h rfl rfl rfl rfl rfl, .of h rfl rfl rfl rfl rfl, .of h rfl rfl, .of h rfl rfl rfl rfl, .of h rfl rfl rfl, .of h rfl rfl, .of h rfl rfl rfl rfl, .of h rfl rfl rfl, .of h rfl rfl, .of h rfl rfl, .of h rfl rfl rfl⟩

/-- Every part but these is kept: dict, nums, logs, straps, journal, tables, edges, flags. -/
abbrev Kept55 (s t : State) : Prop :=
  SamePending s t ∧ SameDraws s t ∧ SameOut s t ∧ SameIdent s t ∧ SameFuses s t ∧ SamePins s t ∧ SameClock s t ∧ SamePulses s t ∧ SameChain s t ∧ SameChainPorts s t ∧ SameDoms s t ∧ SameResults s t ∧ SamePower s t ∧ SameVbat s t ∧ SameRadio s t ∧ SamePorts s t ∧ SameRxTiles s t ∧ SameTxTiles s t ∧ SameGirth s t ∧ SameRecs s t ∧ SameSched s t ∧ SameCinch s t ∧ SameKeeper s t ∧ SameSb s t ∧ SameAttached s t ∧ SameNodeQueues s t ∧ SameWindows s t ∧ SameHalter s t ∧ SameHar s t ∧ SameQueues s t ∧ SameArrivals s t ∧ SameLacing s t ∧ SameTree s t ∧ SameCurb s t ∧ SameConcho s t ∧ SameCores s t ∧ SameLocals s t ∧ SameBuckle s t ∧ SameHost s t ∧ SameReports s t ∧ SameCoresAll s t ∧ SameGirthAll s t ∧ SameHarAll s t ∧ SameChainAll s t ∧ SameRadioAll s t ∧ SamePowerRxTilesTxTiles s t

theorem Kept55.of {s t : State} (h : t.outside { dict := true, anyNum := true, logs := true, straps := true, journal := true, tables := true, edges := true, flags := true } = s.outside { dict := true, anyNum := true, logs := true, straps := true, journal := true, tables := true, edges := true, flags := true }) : Kept55 s t :=
  ⟨.of h rfl, .of h rfl, .of h rfl, .of h rfl, .of h rfl, .of h rfl, .of h rfl, .of h rfl, .of h rfl, .of h rfl, .of h rfl, .of h rfl, .of h rfl, .of h rfl, .of h rfl, .of h rfl, .of h rfl, .of h rfl, .of h rfl, .of h rfl, .of h rfl, .of h rfl, .of h rfl, .of h rfl, .of h rfl, .of h rfl, .of h rfl, .of h rfl, .of h rfl, .of h rfl, .of h rfl, .of h rfl, .of h rfl, .of h rfl, .of h rfl, .of h rfl, .of h rfl, .of h rfl, .of h rfl, .of h rfl, .of h rfl rfl, .of h rfl rfl rfl rfl, .of h rfl rfl rfl, .of h rfl rfl, .of h rfl rfl rfl rfl, .of h rfl rfl rfl⟩

/-- Every part but these is kept: halter. -/
abbrev Kept56 (s t : State) : Prop :=
  SamePending s t ∧ SameDraws s t ∧ SameOut s t ∧ SameIdent s t ∧ SameFuses s t ∧ SamePins s t ∧ SameClock s t ∧ SamePulses s t ∧ SameChain s t ∧ SameChainPorts s t ∧ SameDict s t ∧ SameNums s t ∧ SameDoms s t ∧ SameResults s t ∧ SameLogs s t ∧ SamePower s t ∧ SameVbat s t ∧ SameRadio s t ∧ SamePorts s t ∧ SameRxTiles s t ∧ SameTxTiles s t ∧ SameGirth s t ∧ SameRecs s t ∧ SameSched s t ∧ SameCinch s t ∧ SameKeeper s t ∧ SameSb s t ∧ SameStraps s t ∧ SameJournal s t ∧ SameAttached s t ∧ SameNodeQueues s t ∧ SameTables s t ∧ SameWindows s t ∧ SameHar s t ∧ SameQueues s t ∧ SameArrivals s t ∧ SameLacing s t ∧ SameTree s t ∧ SameCurb s t ∧ SameConcho s t ∧ SameCores s t ∧ SameLocals s t ∧ SameBuckle s t ∧ SameEdges s t ∧ SameHost s t ∧ SameFlags s t ∧ SameReports s t ∧ SameDictAll s t ∧ SameSbAll s t ∧ SameBuckleAll s t ∧ SameHostAll s t ∧ SameCoresAll s t ∧ SameGirthAll s t ∧ SameHarAll s t ∧ SameChainAll s t ∧ SameRadioAll s t ∧ SamePowerRxTilesTxTiles s t ∧ SameDictPower s t ∧ SameDictNums s t ∧ SameClockNumsPorts s t

theorem Kept56.of {s t : State} (h : t.outside { halter := true } = s.outside { halter := true }) : Kept56 s t :=
  ⟨.of h rfl, .of h rfl, .of h rfl, .of h rfl, .of h rfl, .of h rfl, .of h rfl, .of h rfl, .of h rfl, .of h rfl, .of h rfl, .of h rfl, .of h rfl, .of h rfl, .of h rfl, .of h rfl, .of h rfl, .of h rfl, .of h rfl, .of h rfl, .of h rfl, .of h rfl, .of h rfl, .of h rfl, .of h rfl, .of h rfl, .of h rfl, .of h rfl, .of h rfl, .of h rfl, .of h rfl, .of h rfl, .of h rfl, .of h rfl, .of h rfl, .of h rfl, .of h rfl, .of h rfl, .of h rfl, .of h rfl, .of h rfl, .of h rfl, .of h rfl, .of h rfl, .of h rfl, .of h rfl, .of h rfl, .of h rfl rfl rfl rfl rfl, .of h rfl rfl rfl rfl rfl, .of h rfl rfl, .of h rfl rfl rfl, .of h rfl rfl, .of h rfl rfl rfl rfl, .of h rfl rfl rfl, .of h rfl rfl, .of h rfl rfl rfl rfl, .of h rfl rfl rfl, .of h rfl rfl, .of h rfl rfl, .of h rfl rfl rfl⟩

/-- Every part but these is kept: dict, nums, logs, straps, journal, tables, halter, edges, flags. -/
abbrev Kept57 (s t : State) : Prop :=
  SamePending s t ∧ SameDraws s t ∧ SameOut s t ∧ SameIdent s t ∧ SameFuses s t ∧ SamePins s t ∧ SameClock s t ∧ SamePulses s t ∧ SameChain s t ∧ SameChainPorts s t ∧ SameDoms s t ∧ SameResults s t ∧ SamePower s t ∧ SameVbat s t ∧ SameRadio s t ∧ SamePorts s t ∧ SameRxTiles s t ∧ SameTxTiles s t ∧ SameGirth s t ∧ SameRecs s t ∧ SameSched s t ∧ SameCinch s t ∧ SameKeeper s t ∧ SameSb s t ∧ SameAttached s t ∧ SameNodeQueues s t ∧ SameWindows s t ∧ SameHar s t ∧ SameQueues s t ∧ SameArrivals s t ∧ SameLacing s t ∧ SameTree s t ∧ SameCurb s t ∧ SameConcho s t ∧ SameCores s t ∧ SameLocals s t ∧ SameBuckle s t ∧ SameHost s t ∧ SameReports s t ∧ SameCoresAll s t ∧ SameGirthAll s t ∧ SameHarAll s t ∧ SameChainAll s t ∧ SameRadioAll s t ∧ SamePowerRxTilesTxTiles s t

theorem Kept57.of {s t : State} (h : t.outside { dict := true, anyNum := true, logs := true, straps := true, journal := true, tables := true, halter := true, edges := true, flags := true } = s.outside { dict := true, anyNum := true, logs := true, straps := true, journal := true, tables := true, halter := true, edges := true, flags := true }) : Kept57 s t :=
  ⟨.of h rfl, .of h rfl, .of h rfl, .of h rfl, .of h rfl, .of h rfl, .of h rfl, .of h rfl, .of h rfl, .of h rfl, .of h rfl, .of h rfl, .of h rfl, .of h rfl, .of h rfl, .of h rfl, .of h rfl, .of h rfl, .of h rfl, .of h rfl, .of h rfl, .of h rfl, .of h rfl, .of h rfl, .of h rfl, .of h rfl, .of h rfl, .of h rfl, .of h rfl, .of h rfl, .of h rfl, .of h rfl, .of h rfl, .of h rfl, .of h rfl, .of h rfl, .of h rfl, .of h rfl, .of h rfl, .of h rfl rfl, .of h rfl rfl rfl rfl, .of h rfl rfl rfl, .of h rfl rfl, .of h rfl rfl rfl rfl, .of h rfl rfl rfl⟩

/-- Every part but these is kept: tables, halter. -/
abbrev Kept58 (s t : State) : Prop :=
  SamePending s t ∧ SameDraws s t ∧ SameOut s t ∧ SameIdent s t ∧ SameFuses s t ∧ SamePins s t ∧ SameClock s t ∧ SamePulses s t ∧ SameChain s t ∧ SameChainPorts s t ∧ SameDict s t ∧ SameNums s t ∧ SameDoms s t ∧ SameResults s t ∧ SameLogs s t ∧ SamePower s t ∧ SameVbat s t ∧ SameRadio s t ∧ SamePorts s t ∧ SameRxTiles s t ∧ SameTxTiles s t ∧ SameGirth s t ∧ SameRecs s t ∧ SameSched s t ∧ SameCinch s t ∧ SameKeeper s t ∧ SameSb s t ∧ SameStraps s t ∧ SameJournal s t ∧ SameAttached s t ∧ SameNodeQueues s t ∧ SameWindows s t ∧ SameHar s t ∧ SameQueues s t ∧ SameArrivals s t ∧ SameLacing s t ∧ SameTree s t ∧ SameCurb s t ∧ SameConcho s t ∧ SameCores s t ∧ SameLocals s t ∧ SameBuckle s t ∧ SameEdges s t ∧ SameHost s t ∧ SameFlags s t ∧ SameReports s t ∧ SameDictAll s t ∧ SameSbAll s t ∧ SameBuckleAll s t ∧ SameHostAll s t ∧ SameCoresAll s t ∧ SameGirthAll s t ∧ SameHarAll s t ∧ SameChainAll s t ∧ SameRadioAll s t ∧ SamePowerRxTilesTxTiles s t ∧ SameDictPower s t ∧ SameDictNums s t ∧ SameClockNumsPorts s t

theorem Kept58.of {s t : State} (h : t.outside { tables := true, halter := true } = s.outside { tables := true, halter := true }) : Kept58 s t :=
  ⟨.of h rfl, .of h rfl, .of h rfl, .of h rfl, .of h rfl, .of h rfl, .of h rfl, .of h rfl, .of h rfl, .of h rfl, .of h rfl, .of h rfl, .of h rfl, .of h rfl, .of h rfl, .of h rfl, .of h rfl, .of h rfl, .of h rfl, .of h rfl, .of h rfl, .of h rfl, .of h rfl, .of h rfl, .of h rfl, .of h rfl, .of h rfl, .of h rfl, .of h rfl, .of h rfl, .of h rfl, .of h rfl, .of h rfl, .of h rfl, .of h rfl, .of h rfl, .of h rfl, .of h rfl, .of h rfl, .of h rfl, .of h rfl, .of h rfl, .of h rfl, .of h rfl, .of h rfl, .of h rfl, .of h rfl rfl rfl rfl rfl, .of h rfl rfl rfl rfl rfl, .of h rfl rfl, .of h rfl rfl rfl, .of h rfl rfl, .of h rfl rfl rfl rfl, .of h rfl rfl rfl, .of h rfl rfl, .of h rfl rfl rfl rfl, .of h rfl rfl rfl, .of h rfl rfl, .of h rfl rfl, .of h rfl rfl rfl⟩

/-- Every part but these is kept: nums, straps, tables, flags. -/
abbrev Kept59 (s t : State) : Prop :=
  SamePending s t ∧ SameDraws s t ∧ SameOut s t ∧ SameIdent s t ∧ SameFuses s t ∧ SamePins s t ∧ SameClock s t ∧ SamePulses s t ∧ SameChain s t ∧ SameChainPorts s t ∧ SameDict s t ∧ SameDoms s t ∧ SameResults s t ∧ SameLogs s t ∧ SamePower s t ∧ SameVbat s t ∧ SameRadio s t ∧ SamePorts s t ∧ SameRxTiles s t ∧ SameTxTiles s t ∧ SameGirth s t ∧ SameRecs s t ∧ SameSched s t ∧ SameCinch s t ∧ SameKeeper s t ∧ SameSb s t ∧ SameJournal s t ∧ SameAttached s t ∧ SameNodeQueues s t ∧ SameWindows s t ∧ SameHalter s t ∧ SameHar s t ∧ SameQueues s t ∧ SameArrivals s t ∧ SameLacing s t ∧ SameTree s t ∧ SameCurb s t ∧ SameConcho s t ∧ SameCores s t ∧ SameLocals s t ∧ SameBuckle s t ∧ SameEdges s t ∧ SameHost s t ∧ SameReports s t ∧ SameBuckleAll s t ∧ SameCoresAll s t ∧ SameGirthAll s t ∧ SameHarAll s t ∧ SameChainAll s t ∧ SameRadioAll s t ∧ SamePowerRxTilesTxTiles s t ∧ SameDictPower s t

theorem Kept59.of {s t : State} (h : t.outside { anyNum := true, straps := true, tables := true, flags := true } = s.outside { anyNum := true, straps := true, tables := true, flags := true }) : Kept59 s t :=
  ⟨.of h rfl, .of h rfl, .of h rfl, .of h rfl, .of h rfl, .of h rfl, .of h rfl, .of h rfl, .of h rfl, .of h rfl, .of h rfl, .of h rfl, .of h rfl, .of h rfl, .of h rfl, .of h rfl, .of h rfl, .of h rfl, .of h rfl, .of h rfl, .of h rfl, .of h rfl, .of h rfl, .of h rfl, .of h rfl, .of h rfl, .of h rfl, .of h rfl, .of h rfl, .of h rfl, .of h rfl, .of h rfl, .of h rfl, .of h rfl, .of h rfl, .of h rfl, .of h rfl, .of h rfl, .of h rfl, .of h rfl, .of h rfl, .of h rfl, .of h rfl, .of h rfl, .of h rfl rfl, .of h rfl rfl, .of h rfl rfl rfl rfl, .of h rfl rfl rfl, .of h rfl rfl, .of h rfl rfl rfl rfl, .of h rfl rfl rfl, .of h rfl rfl⟩

/-- Every part but these is kept: nums, straps, tables, windows, halter, edges, flags. -/
abbrev Kept60 (s t : State) : Prop :=
  SamePending s t ∧ SameDraws s t ∧ SameOut s t ∧ SameIdent s t ∧ SameFuses s t ∧ SamePins s t ∧ SameClock s t ∧ SamePulses s t ∧ SameChain s t ∧ SameChainPorts s t ∧ SameDict s t ∧ SameDoms s t ∧ SameResults s t ∧ SameLogs s t ∧ SamePower s t ∧ SameVbat s t ∧ SameRadio s t ∧ SamePorts s t ∧ SameRxTiles s t ∧ SameTxTiles s t ∧ SameGirth s t ∧ SameRecs s t ∧ SameSched s t ∧ SameCinch s t ∧ SameKeeper s t ∧ SameSb s t ∧ SameJournal s t ∧ SameAttached s t ∧ SameNodeQueues s t ∧ SameHar s t ∧ SameQueues s t ∧ SameArrivals s t ∧ SameLacing s t ∧ SameTree s t ∧ SameCurb s t ∧ SameConcho s t ∧ SameCores s t ∧ SameLocals s t ∧ SameBuckle s t ∧ SameHost s t ∧ SameReports s t ∧ SameCoresAll s t ∧ SameGirthAll s t ∧ SameHarAll s t ∧ SameChainAll s t ∧ SameRadioAll s t ∧ SamePowerRxTilesTxTiles s t ∧ SameDictPower s t

theorem Kept60.of {s t : State} (h : t.outside { anyNum := true, straps := true, tables := true, windows := true, halter := true, edges := true, flags := true } = s.outside { anyNum := true, straps := true, tables := true, windows := true, halter := true, edges := true, flags := true }) : Kept60 s t :=
  ⟨.of h rfl, .of h rfl, .of h rfl, .of h rfl, .of h rfl, .of h rfl, .of h rfl, .of h rfl, .of h rfl, .of h rfl, .of h rfl, .of h rfl, .of h rfl, .of h rfl, .of h rfl, .of h rfl, .of h rfl, .of h rfl, .of h rfl, .of h rfl, .of h rfl, .of h rfl, .of h rfl, .of h rfl, .of h rfl, .of h rfl, .of h rfl, .of h rfl, .of h rfl, .of h rfl, .of h rfl, .of h rfl, .of h rfl, .of h rfl, .of h rfl, .of h rfl, .of h rfl, .of h rfl, .of h rfl, .of h rfl, .of h rfl, .of h rfl rfl, .of h rfl rfl rfl rfl, .of h rfl rfl rfl, .of h rfl rfl, .of h rfl rfl rfl rfl, .of h rfl rfl rfl, .of h rfl rfl⟩

/-- Every part but these is kept: keeper. -/
abbrev Kept61 (s t : State) : Prop :=
  SamePending s t ∧ SameDraws s t ∧ SameOut s t ∧ SameIdent s t ∧ SameFuses s t ∧ SamePins s t ∧ SameClock s t ∧ SamePulses s t ∧ SameChain s t ∧ SameChainPorts s t ∧ SameDict s t ∧ SameNums s t ∧ SameDoms s t ∧ SameResults s t ∧ SameLogs s t ∧ SamePower s t ∧ SameVbat s t ∧ SameRadio s t ∧ SamePorts s t ∧ SameRxTiles s t ∧ SameTxTiles s t ∧ SameGirth s t ∧ SameRecs s t ∧ SameSched s t ∧ SameCinch s t ∧ SameSb s t ∧ SameStraps s t ∧ SameJournal s t ∧ SameAttached s t ∧ SameNodeQueues s t ∧ SameTables s t ∧ SameWindows s t ∧ SameHalter s t ∧ SameHar s t ∧ SameQueues s t ∧ SameArrivals s t ∧ SameLacing s t ∧ SameTree s t ∧ SameCurb s t ∧ SameConcho s t ∧ SameCores s t ∧ SameLocals s t ∧ SameBuckle s t ∧ SameEdges s t ∧ SameHost s t ∧ SameFlags s t ∧ SameReports s t ∧ SameDictAll s t ∧ SameSbAll s t ∧ SameBuckleAll s t ∧ SameHostAll s t ∧ SameCoresAll s t ∧ SameGirthAll s t ∧ SameTablesAll s t ∧ SameHarAll s t ∧ SameChainAll s t ∧ SameRadioAll s t ∧ SamePowerRxTilesTxTiles s t ∧ SameDictPower s t ∧ SameDictNums s t ∧ SameClockNumsPorts s t

theorem Kept61.of {s t : State} (h : t.outside { keeper := true } = s.outside { keeper := true }) : Kept61 s t :=
  ⟨.of h rfl, .of h rfl, .of h rfl, .of h rfl, .of h rfl, .of h rfl, .of h rfl, .of h rfl, .of h rfl, .of h rfl, .of h rfl, .of h rfl, .of h rfl, .of h rfl, .of h rfl, .of h rfl, .of h rfl, .of h rfl, .of h rfl, .of h rfl, .of h rfl, .of h rfl, .of h rfl, .of h rfl, .of h rfl, .of h rfl, .of h rfl, .of h rfl, .of h rfl, .of h rfl, .of h rfl, .of h rfl, .of h rfl, .of h rfl, .of h rfl, .of h rfl, .of h rfl, .of h rfl, .of h rfl, .of h rfl, .of h rfl, .of h rfl, .of h rfl, .of h rfl, .of h rfl, .of h rfl, .of h rfl, .of h rfl rfl rfl rfl rfl, .of h rfl rfl rfl rfl rfl, .of h rfl rfl, .of h rfl rfl rfl, .of h rfl rfl, .of h rfl rfl rfl rfl, .of h rfl rfl rfl, .of h rfl rfl rfl, .of h rfl rfl, .of h rfl rfl rfl rfl, .of h rfl rfl rfl, .of h rfl rfl, .of h rfl rfl, .of h rfl rfl rfl⟩

/-- Every part but these is kept: dict, nums, logs, vbat, keeper, straps, journal, edges, flags. -/
abbrev Kept62 (s t : State) : Prop :=
  SamePending s t ∧ SameDraws s t ∧ SameOut s t ∧ SameIdent s t ∧ SameFuses s t ∧ SamePins s t ∧ SameClock s t ∧ SamePulses s t ∧ SameChain s t ∧ SameChainPorts s t ∧ SameDoms s t ∧ SameResults s t ∧ SamePower s t ∧ SameRadio s t ∧ SamePorts s t ∧ SameRxTiles s t ∧ SameTxTiles s t ∧ SameGirth s t ∧ SameRecs s t ∧ SameSched s t ∧ SameCinch s t ∧ SameSb s t ∧ SameAttached s t ∧ SameNodeQueues s t ∧ SameTables s t ∧ SameWindows s t ∧ SameHalter s t ∧ SameHar s t ∧ SameQueues s t ∧ SameArrivals s t ∧ SameLacing s t ∧ SameTree s t ∧ SameCurb s t ∧ SameConcho s t ∧ SameCores s t ∧ SameLocals s t ∧ SameBuckle s t ∧ SameHost s t ∧ SameReports s t ∧ SameCoresAll s t ∧ SameGirthAll s t ∧ SameTablesAll s t ∧ SameHarAll s t ∧ SameChainAll s t ∧ SameRadioAll s t ∧ SamePowerRxTilesTxTiles s t

theorem Kept62.of {s t : State} (h : t.outside { dict := true, anyNum := true, logs := true, vbat := true, keeper := true, straps := true, journal := true, edges := true, flags := true } = s.outside { dict := true, anyNum := true, logs := true, vbat := true, keeper := true, straps := true, journal := true, edges := true, flags := true }) : Kept62 s t :=
  ⟨.of h rfl, .of h rfl, .of h rfl, .of h rfl, .of h rfl, .of h rfl, .of h rfl, .of h rfl, .of h rfl, .of h rfl, .of h rfl, .of h rfl, .of h rfl, .of h rfl, .of h rfl, .of h rfl, .of h rfl, .of h rfl, .of h rfl, .of h rfl, .of h rfl, .of h rfl, .of h rfl, .of h rfl, .of h rfl, .of h rfl, .of h rfl, .of h rfl, .of h rfl, .of h rfl, .of h rfl, .of h rfl, .of h rfl, .of h rfl, .of h rfl, .of h rfl, .of h rfl, .of h rfl, .of h rfl, .of h rfl rfl, .of h rfl rfl rfl rfl, .of h rfl rfl rfl, .of h rfl rfl rfl, .of h rfl rfl, .of h rfl rfl rfl rfl, .of h rfl rfl rfl⟩

/-- Every part but these is kept: vbat. -/
abbrev Kept63 (s t : State) : Prop :=
  SamePending s t ∧ SameDraws s t ∧ SameOut s t ∧ SameIdent s t ∧ SameFuses s t ∧ SamePins s t ∧ SameClock s t ∧ SamePulses s t ∧ SameChain s t ∧ SameChainPorts s t ∧ SameDict s t ∧ SameNums s t ∧ SameDoms s t ∧ SameResults s t ∧ SameLogs s t ∧ SamePower s t ∧ SameRadio s t ∧ SamePorts s t ∧ SameRxTiles s t ∧ SameTxTiles s t ∧ SameGirth s t ∧ SameRecs s t ∧ SameSched s t ∧ SameCinch s t ∧ SameKeeper s t ∧ SameSb s t ∧ SameStraps s t ∧ SameJournal s t ∧ SameAttached s t ∧ SameNodeQueues s t ∧ SameTables s t ∧ SameWindows s t ∧ SameHalter s t ∧ SameHar s t ∧ SameQueues s t ∧ SameArrivals s t ∧ SameLacing s t ∧ SameTree s t ∧ SameCurb s t ∧ SameConcho s t ∧ SameCores s t ∧ SameLocals s t ∧ SameBuckle s t ∧ SameEdges s t ∧ SameHost s t ∧ SameFlags s t ∧ SameReports s t ∧ SameDictAll s t ∧ SameSbAll s t ∧ SameBuckleAll s t ∧ SameHostAll s t ∧ SameCoresAll s t ∧ SameGirthAll s t ∧ SameTablesAll s t ∧ SameHarAll s t ∧ SameChainAll s t ∧ SameRadioAll s t ∧ SamePowerRxTilesTxTiles s t ∧ SameDictPower s t ∧ SameDictNums s t ∧ SameClockNumsPorts s t

theorem Kept63.of {s t : State} (h : t.outside { vbat := true } = s.outside { vbat := true }) : Kept63 s t :=
  ⟨.of h rfl, .of h rfl, .of h rfl, .of h rfl, .of h rfl, .of h rfl, .of h rfl, .of h rfl, .of h rfl, .of h rfl, .of h rfl, .of h rfl, .of h rfl, .of h rfl, .of h rfl, .of h rfl, .of h rfl, .of h rfl, .of h rfl, .of h rfl, .of h rfl, .of h rfl, .of h rfl, .of h rfl, .of h rfl, .of h rfl, .of h rfl, .of h rfl, .of h rfl, .of h rfl, .of h rfl, .of h rfl, .of h rfl, .of h rfl, .of h rfl, .of h rfl, .of h rfl, .of h rfl, .of h rfl, .of h rfl, .of h rfl, .of h rfl, .of h rfl, .of h rfl, .of h rfl, .of h rfl, .of h rfl, .of h rfl rfl rfl rfl rfl, .of h rfl rfl rfl rfl rfl, .of h rfl rfl, .of h rfl rfl rfl, .of h rfl rfl, .of h rfl rfl rfl rfl, .of h rfl rfl rfl, .of h rfl rfl rfl, .of h rfl rfl, .of h rfl rfl rfl rfl, .of h rfl rfl rfl, .of h rfl rfl, .of h rfl rfl, .of h rfl rfl rfl⟩

/-- Every part but these is kept: dict, nums, logs, vbat, recs, straps, journal, edges, flags. -/
abbrev Kept64 (s t : State) : Prop :=
  SamePending s t ∧ SameDraws s t ∧ SameOut s t ∧ SameIdent s t ∧ SameFuses s t ∧ SamePins s t ∧ SameClock s t ∧ SamePulses s t ∧ SameChain s t ∧ SameChainPorts s t ∧ SameDoms s t ∧ SameResults s t ∧ SamePower s t ∧ SameRadio s t ∧ SamePorts s t ∧ SameRxTiles s t ∧ SameTxTiles s t ∧ SameGirth s t ∧ SameSched s t ∧ SameCinch s t ∧ SameKeeper s t ∧ SameSb s t ∧ SameAttached s t ∧ SameNodeQueues s t ∧ SameTables s t ∧ SameWindows s t ∧ SameHalter s t ∧ SameHar s t ∧ SameQueues s t ∧ SameArrivals s t ∧ SameLacing s t ∧ SameTree s t ∧ SameCurb s t ∧ SameConcho s t ∧ SameCores s t ∧ SameLocals s t ∧ SameBuckle s t ∧ SameHost s t ∧ SameReports s t ∧ SameCoresAll s t ∧ SameTablesAll s t ∧ SameHarAll s t ∧ SameChainAll s t ∧ SameRadioAll s t ∧ SamePowerRxTilesTxTiles s t

theorem Kept64.of {s t : State} (h : t.outside { dict := true, anyNum := true, logs := true, vbat := true, recs := true, straps := true, journal := true, edges := true, flags := true } = s.outside { dict := true, anyNum := true, logs := true, vbat := true, recs := true, straps := true, journal := true, edges := true, flags := true }) : Kept64 s t :=
  ⟨.of h rfl, .of h rfl, .of h rfl, .of h rfl, .of h rfl, .of h rfl, .of h rfl, .of h rfl, .of h rfl, .of h rfl, .of h rfl, .of h rfl, .of h rfl, .of h rfl, .of h rfl, .of h rfl, .of h rfl, .of h rfl, .of h rfl, .of h rfl, .of h rfl, .of h rfl, .of h rfl, .of h rfl, .of h rfl, .of h rfl, .of h rfl, .of h rfl, .of h rfl, .of h rfl, .of h rfl, .of h rfl, .of h rfl, .of h rfl, .of h rfl, .of h rfl, .of h rfl, .of h rfl, .of h rfl, .of h rfl rfl, .of h rfl rfl rfl, .of h rfl rfl rfl, .of h rfl rfl, .of h rfl rfl rfl rfl, .of h rfl rfl rfl⟩

/-- Every part but these is kept: dict, nums, logs, keeper, straps, journal, edges, flags. -/
abbrev Kept65 (s t : State) : Prop :=
  SamePending s t ∧ SameDraws s t ∧ SameOut s t ∧ SameIdent s t ∧ SameFuses s t ∧ SamePins s t ∧ SameClock s t ∧ SamePulses s t ∧ SameChain s t ∧ SameChainPorts s t ∧ SameDoms s t ∧ SameResults s t ∧ SamePower s t ∧ SameVbat s t ∧ SameRadio s t ∧ SamePorts s t ∧ SameRxTiles s t ∧ SameTxTiles s t ∧ SameGirth s t ∧ SameRecs s t ∧ SameSched s t ∧ SameCinch s t ∧ SameSb s t ∧ SameAttached s t ∧ SameNodeQueues s t ∧ SameTables s t ∧ SameWindows s t ∧ SameHalter s t ∧ SameHar s t ∧ SameQueues s t ∧ SameArrivals s t ∧ SameLacing s t ∧ SameTree s t ∧ SameCurb s t ∧ SameConcho s t ∧ SameCores s t ∧ SameLocals s t ∧ SameBuckle s t ∧ SameHost s t ∧ SameReports s t ∧ SameCoresAll s t ∧ SameGirthAll s t ∧ SameTablesAll s t ∧ SameHarAll s t ∧ SameChainAll s t ∧ SameRadioAll s t ∧ SamePowerRxTilesTxTiles s t

theorem Kept65.of {s t : State} (h : t.outside { dict := true, anyNum := true, logs := true, keeper := true, straps := true, journal := true, edges := true, flags := true } = s.outside { dict := true, anyNum := true, logs := true, keeper := true, straps := true, journal := true, edges := true, flags := true }) : Kept65 s t :=
  ⟨.of h rfl, .of h rfl, .of h rfl, .of h rfl, .of h rfl, .of h rfl, .of h rfl, .of h rfl, .of h rfl, .of h rfl, .of h rfl, .of h rfl, .of h rfl, .of h rfl, .of h rfl, .of h rfl, .of h rfl, .of h rfl, .of h rfl, .of h rfl, .of h rfl, .of h rfl, .of h rfl, .of h rfl, .of h rfl, .of h rfl, .of h rfl, .of h rfl, .of h rfl, .of h rfl, .of h rfl, .of h rfl, .of h rfl, .of h rfl, .of h rfl, .of h rfl, .of h rfl, .of h rfl, .of h rfl, .of h rfl, .of h rfl rfl, .of h rfl rfl rfl rfl, .of h rfl rfl rfl, .of h rfl rfl rfl, .of h rfl rfl, .of h rfl rfl rfl rfl, .of h rfl rfl rfl⟩

/-- Every part but these is kept: dict, nums, logs, recs, keeper, straps, journal, edges, flags. -/
abbrev Kept66 (s t : State) : Prop :=
  SamePending s t ∧ SameDraws s t ∧ SameOut s t ∧ SameIdent s t ∧ SameFuses s t ∧ SamePins s t ∧ SameClock s t ∧ SamePulses s t ∧ SameChain s t ∧ SameChainPorts s t ∧ SameDoms s t ∧ SameResults s t ∧ SamePower s t ∧ SameVbat s t ∧ SameRadio s t ∧ SamePorts s t ∧ SameRxTiles s t ∧ SameTxTiles s t ∧ SameGirth s t ∧ SameSched s t ∧ SameCinch s t ∧ SameSb s t ∧ SameAttached s t ∧ SameNodeQueues s t ∧ SameTables s t ∧ SameWindows s t ∧ SameHalter s t ∧ SameHar s t ∧ SameQueues s t ∧ SameArrivals s t ∧ SameLacing s t ∧ SameTree s t ∧ SameCurb s t ∧ SameConcho s t ∧ SameCores s t ∧ SameLocals s t ∧ SameBuckle s t ∧ SameHost s t ∧ SameReports s t ∧ SameCoresAll s t ∧ SameTablesAll s t ∧ SameHarAll s t ∧ SameChainAll s t ∧ SameRadioAll s t ∧ SamePowerRxTilesTxTiles s t

theorem Kept66.of {s t : State} (h : t.outside { dict := true, anyNum := true, logs := true, recs := true, keeper := true, straps := true, journal := true, edges := true, flags := true } = s.outside { dict := true, anyNum := true, logs := true, recs := true, keeper := true, straps := true, journal := true, edges := true, flags := true }) : Kept66 s t :=
  ⟨.of h rfl, .of h rfl, .of h rfl, .of h rfl, .of h rfl, .of h rfl, .of h rfl, .of h rfl, .of h rfl, .of h rfl, .of h rfl, .of h rfl, .of h rfl, .of h rfl, .of h rfl, .of h rfl, .of h rfl, .of h rfl, .of h rfl, .of h rfl, .of h rfl, .of h rfl, .of h rfl, .of h rfl, .of h rfl, .of h rfl, .of h rfl, .of h rfl, .of h rfl, .of h rfl, .of h rfl, .of h rfl, .of h rfl, .of h rfl, .of h rfl, .of h rfl, .of h rfl, .of h rfl, .of h rfl, .of h rfl rfl, .of h rfl rfl rfl, .of h rfl rfl rfl, .of h rfl rfl, .of h rfl rfl rfl rfl, .of h rfl rfl rfl⟩

/-- Every part but these is kept: results, keeper. -/
abbrev Kept67 (s t : State) : Prop :=
  SamePending s t ∧ SameDraws s t ∧ SameOut s t ∧ SameIdent s t ∧ SameFuses s t ∧ SamePins s t ∧ SameClock s t ∧ SamePulses s t ∧ SameChain s t ∧ SameChainPorts s t ∧ SameDict s t ∧ SameNums s t ∧ SameDoms s t ∧ SameLogs s t ∧ SamePower s t ∧ SameVbat s t ∧ SameRadio s t ∧ SamePorts s t ∧ SameRxTiles s t ∧ SameTxTiles s t ∧ SameGirth s t ∧ SameRecs s t ∧ SameSched s t ∧ SameCinch s t ∧ SameSb s t ∧ SameStraps s t ∧ SameJournal s t ∧ SameAttached s t ∧ SameNodeQueues s t ∧ SameTables s t ∧ SameWindows s t ∧ SameHalter s t ∧ SameHar s t ∧ SameQueues s t ∧ SameArrivals s t ∧ SameLacing s t ∧ SameTree s t ∧ SameCurb s t ∧ SameConcho s t ∧ SameCores s t ∧ SameLocals s t ∧ SameBuckle s t ∧ SameEdges s t ∧ SameHost s t ∧ SameFlags s t ∧ SameReports s t ∧ SameSbAll s t ∧ SameBuckleAll s t ∧ SameHostAll s t ∧ SameCoresAll s t ∧ SameGirthAll s t ∧ SameTablesAll s t ∧ SameHarAll s t ∧ SameChainAll s t ∧ SameRadioAll s t ∧ SamePowerRxTilesTxTiles s t ∧ SameDictPower s t ∧ SameDictNums s t ∧ SameClockNumsPorts s t

theorem Kept67.of {s t : State} (h : t.outside { results := true, keeper := true } = s.outside { results := true, keeper := true }) : Kept67 s t :=
  ⟨.of h rfl, .of h rfl, .of h rfl, .of h rfl, .of h rfl, .of h rfl, .of h rfl, .of h rfl, .of h rfl, .of h rfl, .of h rfl, .of h rfl, .of h rfl, .of h rfl, .of h rfl, .of h rfl, .of h rfl, .of h rfl, .of h rfl, .of h rfl, .of h rfl, .of h rfl, .of h rfl, .of h rfl, .of h rfl, .of h rfl, .of h rfl, .of h rfl, .of h rfl, .of h rfl, .of h rfl, .of h rfl, .of h rfl, .of h rfl, .of h rfl, .of h rfl, .of h rfl, .of h rfl, .of h rfl, .of h rfl, .of h rfl, .of h rfl, .of h rfl, .of h rfl, .of h rfl, .of h rfl, .of h rfl rfl rfl rfl rfl, .of h rfl rfl, .of h rfl rfl rfl, .of h rfl rfl, .of h rfl rfl rfl rfl, .of h rfl rfl rfl, .of h rfl rfl rfl, .of h rfl rfl, .of h rfl rfl rfl rfl, .of h rfl rfl rfl, .of h rfl rfl, .of h rfl rfl, .of h rfl rfl rfl⟩

/-- Every part but these is kept: dict, nums, results, logs, keeper, straps, journal, edges, flags. -/
abbrev Kept68 (s t : State) : Prop :=
  SamePending s t ∧ SameDraws s t ∧ SameOut s t ∧ SameIdent s t ∧ SameFuses s t ∧ SamePins s t ∧ SameClock s t ∧ SamePulses s t ∧ SameChain s t ∧ SameChainPorts s t ∧ SameDoms s t ∧ SamePower s t ∧ SameVbat s t ∧ SameRadio s t ∧ SamePorts s t ∧ SameRxTiles s t ∧ SameTxTiles s t ∧ SameGirth s t ∧ SameRecs s t ∧ SameSched s t ∧ SameCinch s t ∧ SameSb s t ∧ SameAttached s t ∧ SameNodeQueues s t ∧ SameTables s t ∧ SameWindows s t ∧ SameHalter s t ∧ SameHar s t ∧ SameQueues s t ∧ SameArrivals s t ∧ SameLacing s t ∧ SameTree s t ∧ SameCurb s t ∧ SameConcho s t ∧ SameCores s t ∧ SameLocals s t ∧ SameBuckle s t ∧ SameHost s t ∧ SameReports s t ∧ SameCoresAll s t ∧ SameGirthAll s t ∧ SameTablesAll s t ∧ SameHarAll s t ∧ SameChainAll s t ∧ SameRadioAll s t ∧ SamePowerRxTilesTxTiles s t

theorem Kept68.of {s t : State} (h : t.outside { dict := true, anyNum := true, results := true, logs := true, keeper := true, straps := true, journal := true, edges := true, flags := true } = s.outside { dict := true, anyNum := true, results := true, logs := true, keeper := true, straps := true, journal := true, edges := true, flags := true }) : Kept68 s t :=
  ⟨.of h rfl, .of h rfl, .of h rfl, .of h rfl, .of h rfl, .of h rfl, .of h rfl, .of h rfl, .of h rfl, .of h rfl, .of h rfl, .of h rfl, .of h rfl, .of h rfl, .of h rfl, .of h rfl, .of h rfl, .of h rfl, .of h rfl, .of h rfl, .of h rfl, .of h rfl, .of h rfl, .of h rfl, .of h rfl, .of h rfl, .of h rfl, .of h rfl, .of h rfl, .of h rfl, .of h rfl, .of h rfl, .of h rfl, .of h rfl, .of h rfl, .of h rfl, .of h rfl, .of h rfl, .of h rfl, .of h rfl rfl, .of h rfl rfl rfl rfl, .of h rfl rfl rfl, .of h rfl rfl rfl, .of h rfl rfl, .of h rfl rfl rfl rfl, .of h rfl rfl rfl⟩

/-- Every part but these is kept: dict, nums, logs, keeper, straps, journal, windows, edges, flags. -/
abbrev Kept69 (s t : State) : Prop :=
  SamePending s t ∧ SameDraws s t ∧ SameOut s t ∧ SameIdent s t ∧ SameFuses s t ∧ SamePins s t ∧ SameClock s t ∧ SamePulses s t ∧ SameChain s t ∧ SameChainPorts s t ∧ SameDoms s t ∧ SameResults s t ∧ SamePower s t ∧ SameVbat s t ∧ SameRadio s t ∧ SamePorts s t ∧ SameRxTiles s t ∧ SameTxTiles s t ∧ SameGirth s t ∧ SameRecs s t ∧ SameSched s t ∧ SameCinch s t ∧ SameSb s t ∧ SameAttached s t ∧ SameNodeQueues s t ∧ SameTables s t ∧ SameHalter s t ∧ SameHar s t ∧ SameQueues s t ∧ SameArrivals s t ∧ SameLacing s t ∧ SameTree s t ∧ SameCurb s t ∧ SameConcho s t ∧ SameCores s t ∧ SameLocals s t ∧ SameBuckle s t ∧ SameHost s t ∧ SameReports s t ∧ SameCoresAll s t ∧ SameGirthAll s t ∧ SameHarAll s t ∧ SameChainAll s t ∧ SameRadioAll s t ∧ SamePowerRxTilesTxTiles s t

theorem Kept69.of {s t : State} (h : t.outside { dict := true, anyNum := true, logs := true, keeper := true, straps := true, journal := true, windows := true, edges := true, flags := true } = s.outside { dict := true, anyNum := true, logs := true, keeper := true, straps := true, journal := true, windows := true, edges := true, flags := true }) : Kept69 s t :=
  ⟨.of h rfl, .of h rfl, .of h rfl, .of h rfl, .of h rfl, .of h rfl, .of h rfl, .of h rfl, .of h rfl, .of h rfl, .of h rfl, .of h rfl, .of h rfl, .of h rfl, .of h rfl, .of h rfl, .of h rfl, .of h rfl, .of h rfl, .of h rfl, .of h rfl, .of h rfl, .of h rfl, .of h rfl, .of h rfl, .of h rfl, .of h rfl, .of h rfl, .of h rfl, .of h rfl, .of h rfl, .of h rfl, .of h rfl, .of h rfl, .of h rfl, .of h rfl, .of h rfl, .of h rfl, .of h rfl, .of h rfl rfl, .of h rfl rfl rfl rfl, .of h rfl rfl rfl, .of h rfl rfl, .of h rfl rfl rfl rfl, .of h rfl rfl rfl⟩

/-- Every part but these is kept: draws, nums, keeper, windows, edges, flags. -/
abbrev Kept70 (s t : State) : Prop :=
  SamePending s t ∧ SameOut s t ∧ SameIdent s t ∧ SameFuses s t ∧ SamePins s t ∧ SameClock s t ∧ SamePulses s t ∧ SameChain s t ∧ SameChainPorts s t ∧ SameDict s t ∧ SameDoms s t ∧ SameResults s t ∧ SameLogs s t ∧ SamePower s t ∧ SameVbat s t ∧ SameRadio s t ∧ SamePorts s t ∧ SameRxTiles s t ∧ SameTxTiles s t ∧ SameGirth s t ∧ SameRecs s t ∧ SameSched s t ∧ SameCinch s t ∧ SameSb s t ∧ SameStraps s t ∧ SameJournal s t ∧ SameAttached s t ∧ SameNodeQueues s t ∧ SameTables s t ∧ SameHalter s t ∧ SameHar s t ∧ SameQueues s t ∧ SameArrivals s t ∧ SameLacing s t ∧ SameTree s t ∧ SameCurb s t ∧ SameConcho s t ∧ SameCores s t ∧ SameLocals s t ∧ SameBuckle s t ∧ SameHost s t ∧ SameReports s t ∧ SameSbAll s t ∧ SameCoresAll s t ∧ SameGirthAll s t ∧ SameHarAll s t ∧ SameChainAll s t ∧ SameRadioAll s t ∧ SamePowerRxTilesTxTiles s t ∧ SameDictPower s t

theorem Kept70.of {s t : State} (h : t.outside { draws := true, anyNum := true, keeper := true, windows := true, edges := true, flags := true } = s.outside { draws := true, anyNum := true, keeper := true, windows := true, edges := true, flags := true }) : Kept70 s t :=
  ⟨.of h rfl, .of h rfl, .of h rfl, .of h rfl, .of h rfl, .of h rfl, .of h rfl, .of h rfl, .of h rfl, .of h rfl, .of h rfl, .of h rfl, .of h rfl, .of h rfl, .of h rfl, .of h rfl, .of h rfl, .of h rfl, .of h rfl, .of h rfl, .of h rfl, .of h rfl, .of h rfl, .of h rfl, .of h rfl, .of h rfl, .of h rfl, .of h rfl, .of h rfl, .of h rfl, .of h rfl, .of h rfl, .of h rfl, .of h rfl, .of h rfl, .of h rfl, .of h rfl, .of h rfl, .of h rfl, .of h rfl, .of h rfl, .of h rfl, .of h rfl rfl rfl rfl rfl, .of h rfl rfl, .of h rfl rfl rfl rfl, .of h rfl rfl rfl, .of h rfl rfl, .of h rfl rfl rfl rfl, .of h rfl rfl rfl, .of h rfl rfl⟩

/-- Every part but these is kept: keeper, windows, edges, flags. -/
abbrev Kept71 (s t : State) : Prop :=
  SamePending s t ∧ SameDraws s t ∧ SameOut s t ∧ SameIdent s t ∧ SameFuses s t ∧ SamePins s t ∧ SameClock s t ∧ SamePulses s t ∧ SameChain s t ∧ SameChainPorts s t ∧ SameDict s t ∧ SameNums s t ∧ SameDoms s t ∧ SameResults s t ∧ SameLogs s t ∧ SamePower s t ∧ SameVbat s t ∧ SameRadio s t ∧ SamePorts s t ∧ SameRxTiles s t ∧ SameTxTiles s t ∧ SameGirth s t ∧ SameRecs s t ∧ SameSched s t ∧ SameCinch s t ∧ SameSb s t ∧ SameStraps s t ∧ SameJournal s t ∧ SameAttached s t ∧ SameNodeQueues s t ∧ SameTables s t ∧ SameHalter s t ∧ SameHar s t ∧ SameQueues s t ∧ SameArrivals s t ∧ SameLacing s t ∧ SameTree s t ∧ SameCurb s t ∧ SameConcho s t ∧ SameCores s t ∧ SameLocals s t ∧ SameBuckle s t ∧ SameHost s t ∧ SameReports s t ∧ SameDictAll s t ∧ SameSbAll s t ∧ SameCoresAll s t ∧ SameGirthAll s t ∧ SameHarAll s t ∧ SameChainAll s t ∧ SameRadioAll s t ∧ SamePowerRxTilesTxTiles s t ∧ SameDictPower s t ∧ SameDictNums s t ∧ SameClockNumsPorts s t

theorem Kept71.of {s t : State} (h : t.outside { keeper := true, windows := true, edges := true, flags := true } = s.outside { keeper := true, windows := true, edges := true, flags := true }) : Kept71 s t :=
  ⟨.of h rfl, .of h rfl, .of h rfl, .of h rfl, .of h rfl, .of h rfl, .of h rfl, .of h rfl, .of h rfl, .of h rfl, .of h rfl, .of h rfl, .of h rfl, .of h rfl, .of h rfl, .of h rfl, .of h rfl, .of h rfl, .of h rfl, .of h rfl, .of h rfl, .of h rfl, .of h rfl, .of h rfl, .of h rfl, .of h rfl, .of h rfl, .of h rfl, .of h rfl, .of h rfl, .of h rfl, .of h rfl, .of h rfl, .of h rfl, .of h rfl, .of h rfl, .of h rfl, .of h rfl, .of h rfl, .of h rfl, .of h rfl, .of h rfl, .of h rfl, .of h rfl, .of h rfl rfl rfl rfl rfl, .of h rfl rfl rfl rfl rfl, .of h rfl rfl, .of h rfl rfl rfl rfl, .of h rfl rfl rfl, .of h rfl rfl, .of h rfl rfl rfl rfl, .of h rfl rfl rfl, .of h rfl rfl, .of h rfl rfl, .of h rfl rfl rfl⟩

/-- Every part but these is kept: draws, nums, results, vbat, keeper. -/
abbrev Kept72 (s t : State) : Prop :=
  SamePending s t ∧ SameOut s t ∧ SameIdent s t ∧ SameFuses s t ∧ SamePins s t ∧ SameClock s t ∧ SamePulses s t ∧ SameChain s t ∧ SameChainPorts s t ∧ SameDict s t ∧ SameDoms s t ∧ SameLogs s t ∧ SamePower s t ∧ SameRadio s t ∧ SamePorts s t ∧ SameRxTiles s t ∧ SameTxTiles s t ∧ SameGirth s t ∧ SameRecs s t ∧ SameSched s t ∧ SameCinch s t ∧ SameSb s t ∧ SameStraps s t ∧ SameJournal s t ∧ SameAttached s t ∧ SameNodeQueues s t ∧ SameTables s t ∧ SameWindows s t ∧ SameHalter s t ∧ SameHar s t ∧ SameQueues s t ∧ SameArrivals s t ∧ SameLacing s t ∧ SameTree s t ∧ SameCurb s t ∧ SameConcho s t ∧ SameCores s t ∧ SameLocals s t ∧ SameBuckle s t ∧ SameEdges s t ∧ SameHost s t ∧ SameFlags s t ∧ SameReports s t ∧ SameSbAll s t ∧ SameBuckleAll s t ∧ SameHostAll s t ∧ SameCoresAll s t ∧ SameGirthAll s t ∧ SameTablesAll s t ∧ SameHarAll s t ∧ SameChainAll s t ∧ SameRadioAll s t ∧ SamePowerRxTilesTxTiles s t ∧ SameDictPower s t

theorem Kept72.of {s t : State} (h : t.outside { draws := true, anyNum := true, results := true, vbat := true, keeper := true } = s.outside { draws := true, anyNum := true, results := true, vbat := true, keeper := true }) : Kept72 s t :=
  ⟨.of h rfl, .of h rfl, .of h rfl, .of h rfl, .of h rfl, .of h rfl, .of h rfl, .of h rfl, .of h rfl, .of h rfl, .of h rfl, .of h rfl, .of h rfl, .of h rfl, .of h rfl, .of h rfl, .of h rfl, .of h rfl, .of h rfl, .of h rfl, .of h rfl, .of h rfl, .of h rfl, .of h rfl, .of h rfl, .of h rfl, .of h rfl, .of h rfl, .of h rfl, .of h rfl, .of h rfl, .of h rfl, .of h rfl, .of h rfl, .of h rfl, .of h rfl, .of h rfl, .of h rfl, .of h rfl, .of h rfl, .of h rfl, .of h rfl, .of h rfl, .of h rfl rfl rfl rfl rfl, .of h rfl rfl, .of h rfl rfl rfl, .of h rfl rfl, .of h rfl rfl rfl rfl, .of h rfl rfl rfl, .of h rfl rfl rfl, .of h rfl rfl, .of h rfl rfl rfl rfl, .of h rfl rfl rfl, .of h rfl rfl⟩

/-- Every part but these is kept: nums, keeper. -/
abbrev Kept73 (s t : State) : Prop :=
  SamePending s t ∧ SameDraws s t ∧ SameOut s t ∧ SameIdent s t ∧ SameFuses s t ∧ SamePins s t ∧ SameClock s t ∧ SamePulses s t ∧ SameChain s t ∧ SameChainPorts s t ∧ SameDict s t ∧ SameDoms s t ∧ SameResults s t ∧ SameLogs s t ∧ SamePower s t ∧ SameVbat s t ∧ SameRadio s t ∧ SamePorts s t ∧ SameRxTiles s t ∧ SameTxTiles s t ∧ SameGirth s t ∧ SameRecs s t ∧ SameSched s t ∧ SameCinch s t ∧ SameSb s t ∧ SameStraps s t ∧ SameJournal s t ∧ SameAttached s t ∧ SameNodeQueues s t ∧ SameTables s t ∧ SameWindows s t ∧ SameHalter s t ∧ SameHar s t ∧ SameQueues s t ∧ SameArrivals s t ∧ SameLacing s t ∧ SameTree s t ∧ SameCurb s t ∧ SameConcho s t ∧ SameCores s t ∧ SameLocals s t ∧ SameBuckle s t ∧ SameEdges s t ∧ SameHost s t ∧ SameFlags s t ∧ SameReports s t ∧ SameSbAll s t ∧ SameBuckleAll s t ∧ SameHostAll s t ∧ SameCoresAll s t ∧ SameGirthAll s t ∧ SameTablesAll s t ∧ SameHarAll s t ∧ SameChainAll s t ∧ SameRadioAll s t ∧ SamePowerRxTilesTxTiles s t ∧ SameDictPower s t

theorem Kept73.of {s t : State} (h : t.outside { anyNum := true, keeper := true } = s.outside { anyNum := true, keeper := true }) : Kept73 s t :=
  ⟨.of h rfl, .of h rfl, .of h rfl, .of h rfl, .of h rfl, .of h rfl, .of h rfl, .of h rfl, .of h rfl, .of h rfl, .of h rfl, .of h rfl, .of h rfl, .of h rfl, .of h rfl, .of h rfl, .of h rfl, .of h rfl, .of h rfl, .of h rfl, .of h rfl, .of h rfl, .of h rfl, .of h rfl, .of h rfl, .of h rfl, .of h rfl, .of h rfl, .of h rfl, .of h rfl, .of h rfl, .of h rfl, .of h rfl, .of h rfl, .of h rfl, .of h rfl, .of h rfl, .of h rfl, .of h rfl, .of h rfl, .of h rfl, .of h rfl, .of h rfl, .of h rfl, .of h rfl, .of h rfl, .of h rfl rfl rfl rfl rfl, .of h rfl rfl, .of h rfl rfl rfl, .of h rfl rfl, .of h rfl rfl rfl rfl, .of h rfl rfl rfl, .of h rfl rfl rfl, .of h rfl rfl, .of h rfl rfl rfl rfl, .of h rfl rfl rfl, .of h rfl rfl⟩

/-- Every part but these is kept: dict, nums, logs, vbat, recs, keeper, straps, journal, edges, flags. -/
abbrev Kept74 (s t : State) : Prop :=
  SamePending s t ∧ SameDraws s t ∧ SameOut s t ∧ SameIdent s t ∧ SameFuses s t ∧ SamePins s t ∧ SameClock s t ∧ SamePulses s t ∧ SameChain s t ∧ SameChainPorts s t ∧ SameDoms s t ∧ SameResults s t ∧ SamePower s t ∧ SameRadio s t ∧ SamePorts s t ∧ SameRxTiles s t ∧ SameTxTiles s t ∧ SameGirth s t ∧ SameSched s t ∧ SameCinch s t ∧ SameSb s t ∧ SameAttached s t ∧ SameNodeQueues s t ∧ SameTables s t ∧ SameWindows s t ∧ SameHalter s t ∧ SameHar s t ∧ SameQueues s t ∧ SameArrivals s t ∧ SameLacing s t ∧ SameTree s t ∧ SameCurb s t ∧ SameConcho s t ∧ SameCores s t ∧ SameLocals s t ∧ SameBuckle s t ∧ SameHost s t ∧ SameReports s t ∧ SameCoresAll s t ∧ SameTablesAll s t ∧ SameHarAll s t ∧ SameChainAll s t ∧ SameRadioAll s t ∧ SamePowerRxTilesTxTiles s t

theorem Kept74.of {s t : State} (h : t.outside { dict := true, anyNum := true, logs := true, vbat := true, recs := true, keeper := true, straps := true, journal := true, edges := true, flags := true } = s.outside { dict := true, anyNum := true, logs := true, vbat := true, recs := true, keeper := true, straps := true, journal := true, edges := true, flags := true }) : Kept74 s t :=
  ⟨.of h rfl, .of h rfl, .of h rfl, .of h rfl, .of h rfl, .of h rfl, .of h rfl, .of h rfl, .of h rfl, .of h rfl, .of h rfl, .of h rfl, .of h rfl, .of h rfl, .of h rfl, .of h rfl, .of h rfl, .of h rfl, .of h rfl, .of h rfl, .of h rfl, .of h rfl, .of h rfl, .of h rfl, .of h rfl, .of h rfl, .of h rfl, .of h rfl, .of h rfl, .of h rfl, .of h rfl, .of h rfl, .of h rfl, .of h rfl, .of h rfl, .of h rfl, .of h rfl, .of h rfl, .of h rfl rfl, .of h rfl rfl rfl, .of h rfl rfl rfl, .of h rfl rfl, .of h rfl rfl rfl rfl, .of h rfl rfl rfl⟩

/-- Every part but these is kept: dict, nums, logs, straps, journal, edges, flags, reports. -/
abbrev Kept75 (s t : State) : Prop :=
  SamePending s t ∧ SameDraws s t ∧ SameOut s t ∧ SameIdent s t ∧ SameFuses s t ∧ SamePins s t ∧ SameClock s t ∧ SamePulses s t ∧ SameChain s t ∧ SameChainPorts s t ∧ SameDoms s t ∧ SameResults s t ∧ SamePower s t ∧ SameVbat s t ∧ SameRadio s t ∧ SamePorts s t ∧ SameRxTiles s t ∧ SameTxTiles s t ∧ SameGirth s t ∧ SameRecs s t ∧ SameSched s t ∧ SameCinch s t ∧ SameKeeper s t ∧ SameSb s t ∧ SameAttached s t ∧ SameNodeQueues s t ∧ SameTables s t ∧ SameWindows s t ∧ SameHalter s t ∧ SameHar s t ∧ SameQueues s t ∧ SameArrivals s t ∧ SameLacing s t ∧ SameTree s t ∧ SameCurb s t ∧ SameConcho s t ∧ SameCores s t ∧ SameLocals s t ∧ SameBuckle s t ∧ SameHost s t ∧ SameCoresAll s t ∧ SameGirthAll s t ∧ SameTablesAll s t ∧ SameHarAll s t ∧ SameChainAll s t ∧ SameRadioAll s t ∧ SamePowerRxTilesTxTiles s t

theorem Kept75.of {s t : State} (h : t.outside { dict := true, anyNum := true, logs := true, straps := true, journal := true, edges := true, flags := true, reports := true } = s.outside { dict := true, anyNum := true, logs := true, straps := true, journal := true, edges := true, flags := true, reports := true }) : Kept75 s t :=
  ⟨.of h rfl, .of h rfl, .of h rfl, .of h rfl, .of h rfl, .of h rfl, .of h rfl, .of h rfl, .of h rfl, .of h rfl, .of h rfl, .of h rfl, .of h rfl, .of h rfl, .of h rfl, .of h rfl, .of h rfl, .of h rfl, .of h rfl, .of h rfl, .of h rfl, .of h rfl, .of h rfl, .of h rfl, .of h rfl, .of h rfl, .of h rfl, .of h rfl, .of h rfl, .of h rfl, .of h rfl, .of h rfl, .of h rfl, .of h rfl, .of h rfl, .of h rfl, .of h rfl, .of h rfl, .of h rfl, .of h rfl, .of h rfl rfl, .of h rfl rfl rfl rfl, .of h rfl rfl rfl, .of h rfl rfl rfl, .of h rfl rfl, .of h rfl rfl rfl rfl, .of h rfl rfl rfl⟩

/-- Every part but these is kept: dict, nums, logs, recs, straps, journal, edges, flags. -/
abbrev Kept76 (s t : State) : Prop :=
  SamePending s t ∧ SameDraws s t ∧ SameOut s t ∧ SameIdent s t ∧ SameFuses s t ∧ SamePins s t ∧ SameClock s t ∧ SamePulses s t ∧ SameChain s t ∧ SameChainPorts s t ∧ SameDoms s t ∧ SameResults s t ∧ SamePower s t ∧ SameVbat s t ∧ SameRadio s t ∧ SamePorts s t ∧ SameRxTiles s t ∧ SameTxTiles s t ∧ SameGirth s t ∧ SameSched s t ∧ SameCinch s t ∧ SameKeeper s t ∧ SameSb s t ∧ SameAttached s t ∧ SameNodeQueues s t ∧ SameTables s t ∧ SameWindows s t ∧ SameHalter s t ∧ SameHar s t ∧ SameQueues s t ∧ SameArrivals s t ∧ SameLacing s t ∧ SameTree s t ∧ SameCurb s t ∧ SameConcho s t ∧ SameCores s t ∧ SameLocals s t ∧ SameBuckle s t ∧ SameHost s t ∧ SameReports s t ∧ SameCoresAll s t ∧ SameTablesAll s t ∧ SameHarAll s t ∧ SameChainAll s t ∧ SameRadioAll s t ∧ SamePowerRxTilesTxTiles s t

theorem Kept76.of {s t : State} (h : t.outside { dict := true, anyNum := true, logs := true, recs := true, straps := true, journal := true, edges := true, flags := true } = s.outside { dict := true, anyNum := true, logs := true, recs := true, straps := true, journal := true, edges := true, flags := true }) : Kept76 s t :=
  ⟨.of h rfl, .of h rfl, .of h rfl, .of h rfl, .of h rfl, .of h rfl, .of h rfl, .of h rfl, .of h rfl, .of h rfl, .of h rfl, .of h rfl, .of h rfl, .of h rfl, .of h rfl, .of h rfl, .of h rfl, .of h rfl, .of h rfl, .of h rfl, .of h rfl, .of h rfl, .of h rfl, .of h rfl, .of h rfl, .of h rfl, .of h rfl, .of h rfl, .of h rfl, .of h rfl, .of h rfl, .of h rfl, .of h rfl, .of h rfl, .of h rfl, .of h rfl, .of h rfl, .of h rfl, .of h rfl, .of h rfl, .of h rfl rfl, .of h rfl rfl rfl, .of h rfl rfl rfl, .of h rfl rfl, .of h rfl rfl rfl rfl, .of h rfl rfl rfl⟩

/-- Every part but these is kept: dict, nums, logs, recs, straps, journal, nodeQueues, edges, flags, reports. -/
abbrev Kept77 (s t : State) : Prop :=
  SamePending s t ∧ SameDraws s t ∧ SameOut s t ∧ SameIdent s t ∧ SameFuses s t ∧ SamePins s t ∧ SameClock s t ∧ SamePulses s t ∧ SameChain s t ∧ SameChainPorts s t ∧ SameDoms s t ∧ SameResults s t ∧ SamePower s t ∧ SameVbat s t ∧ SameRadio s t ∧ SamePorts s t ∧ SameRxTiles s t ∧ SameTxTiles s t ∧ SameGirth s t ∧ SameSched s t ∧ SameCinch s t ∧ SameKeeper s t ∧ SameSb s t ∧ SameAttached s t ∧ SameTables s t ∧ SameWindows s t ∧ SameHalter s t ∧ SameHar s t ∧ SameQueues s t ∧ SameArrivals s t ∧ SameLacing s t ∧ SameTree s t ∧ SameCurb s t ∧ SameConcho s t ∧ SameCores s t ∧ SameLocals s t ∧ SameBuckle s t ∧ SameHost s t ∧ SameCoresAll s t ∧ SameTablesAll s t ∧ SameHarAll s t ∧ SameChainAll s t ∧ SameRadioAll s t ∧ SamePowerRxTilesTxTiles s t

theorem Kept77.of {s t : State} (h : t.outside { dict := true, anyNum := true, logs := true, recs := true, straps := true, journal := true, nodeQueues := true, edges := true, flags := true, reports := true } = s.outside { dict := true, anyNum := true, logs := true, recs := true, straps := true, journal := true, nodeQueues := true, edges := true, flags := true, reports := true }) : Kept77 s t :=
  ⟨.of h rfl, .of h rfl, .of h rfl, .of h rfl, .of h rfl, .of h rfl, .of h rfl, .of h rfl, .of h rfl, .of h rfl, .of h rfl, .of h rfl, .of h rfl, .of h rfl, .of h rfl, .of h rfl, .of h rfl, .of h rfl, .of h rfl, .of h rfl, .of h rfl, .of h rfl, .of h rfl, .of h rfl, .of h rfl, .of h rfl, .of h rfl, .of h rfl, .of h rfl, .of h rfl, .of h rfl, .of h rfl, .of h rfl, .of h rfl, .of h rfl, .of h rfl, .of h rfl, .of h rfl, .of h rfl rfl, .of h rfl rfl rfl, .of h rfl rfl rfl, .of h rfl rfl, .of h rfl rfl rfl rfl, .of h rfl rfl rfl⟩

/-- Every part but these is kept: recs, nodeQueues, reports. -/
abbrev Kept78 (s t : State) : Prop :=
  SamePending s t ∧ SameDraws s t ∧ SameOut s t ∧ SameIdent s t ∧ SameFuses s t ∧ SamePins s t ∧ SameClock s t ∧ SamePulses s t ∧ SameChain s t ∧ SameChainPorts s t ∧ SameDict s t ∧ SameNums s t ∧ SameDoms s t ∧ SameResults s t ∧ SameLogs s t ∧ SamePower s t ∧ SameVbat s t ∧ SameRadio s t ∧ SamePorts s t ∧ SameRxTiles s t ∧ SameTxTiles s t ∧ SameGirth s t ∧ SameSched s t ∧ SameCinch s t ∧ SameKeeper s t ∧ SameSb s t ∧ SameStraps s t ∧ SameJournal s t ∧ SameAttached s t ∧ SameTables s t ∧ SameWindows s t ∧ SameHalter s t ∧ SameHar s t ∧ SameQueues s t ∧ SameArrivals s t ∧ SameLacing s t ∧ SameTree s t ∧ SameCurb s t ∧ SameConcho s t ∧ SameCores s t ∧ SameLocals s t ∧ SameBuckle s t ∧ SameEdges s t ∧ SameHost s t ∧ SameFlags s t ∧ SameDictAll s t ∧ SameBuckleAll s t ∧ SameCoresAll s t ∧ SameTablesAll s t ∧ SameHarAll s t ∧ SameChainAll s t ∧ SameRadioAll s t ∧ SamePowerRxTilesTxTiles s t ∧ SameDictPower s t ∧ SameDictNums s t ∧ SameClockNumsPorts s t

theorem Kept78.of {s t : State} (h : t.outside { recs := true, nodeQueues := true, reports := true } = s.outside { recs := true, nodeQueues := true, reports := true }) : Kept78 s t :=
  ⟨.of h rfl, .of h rfl, .of h rfl, .of h rfl, .of h rfl, .of h rfl, .of h rfl, .of h rfl, .of h rfl, .of h rfl, .of h rfl, .of h rfl, .of h rfl, .of h rfl, .of h rfl, .of h rfl, .of h rfl, .of h rfl, .of h rfl, .of h rfl, .of h rfl, .of h rfl, .of h rfl, .of h rfl, .of h rfl, .of h rfl, .of h rfl, .of h rfl, .of h rfl, .of h rfl, .of h rfl, .of h rfl, .of h rfl, .of h rfl, .of h rfl, .of h rfl, .of h rfl, .of h rfl, .of h rfl, .of h rfl, .of h rfl, .of h rfl, .of h rfl, .of h rfl, .of h rfl, .of h rfl rfl rfl rfl rfl, .of h rfl rfl, .of h rfl rfl, .of h rfl rfl rfl, .of h rfl rfl rfl, .of h rfl rfl, .of h rfl rfl rfl rfl, .of h rfl rfl rfl, .of h rfl rfl, .of h rfl rfl, .of h rfl rfl rfl⟩

/-- Every part but these is kept: nums, recs. -/
abbrev Kept79 (s t : State) : Prop :=
  SamePending s t ∧ SameDraws s t ∧ SameOut s t ∧ SameIdent s t ∧ SameFuses s t ∧ SamePins s t ∧ SameClock s t ∧ SamePulses s t ∧ SameChain s t ∧ SameChainPorts s t ∧ SameDict s t ∧ SameDoms s t ∧ SameResults s t ∧ SameLogs s t ∧ SamePower s t ∧ SameVbat s t ∧ SameRadio s t ∧ SamePorts s t ∧ SameRxTiles s t ∧ SameTxTiles s t ∧ SameGirth s t ∧ SameSched s t ∧ SameCinch s t ∧ SameKeeper s t ∧ SameSb s t ∧ SameStraps s t ∧ SameJournal s t ∧ SameAttached s t ∧ SameNodeQueues s t ∧ SameTables s t ∧ SameWindows s t ∧ SameHalter s t ∧ SameHar s t ∧ SameQueues s t ∧ SameArrivals s t ∧ SameLacing s t ∧ SameTree s t ∧ SameCurb s t ∧ SameConcho s t ∧ SameCores s t ∧ SameLocals s t ∧ SameBuckle s t ∧ SameEdges s t ∧ SameHost s t ∧ SameFlags s t ∧ SameReports s t ∧ SameSbAll s t ∧ SameBuckleAll s t ∧ SameHostAll s t ∧ SameCoresAll s t ∧ SameTablesAll s t ∧ SameHarAll s t ∧ SameChainAll s t ∧ SameRadioAll s t ∧ SamePowerRxTilesTxTiles s t ∧ SameDictPower s t

theorem Kept79.of {s t : State} (h : t.outside { anyNum := true, recs := true } = s.outside { anyNum := true, recs := true }) : Kept79 s t :=
  ⟨.of h rfl, .of h rfl, .of h rfl, .of h rfl, .of h rfl, .of h rfl, .of h rfl, .of h rfl, .of h rfl, .of h rfl, .of h rfl, .of h rfl, .of h rfl, .of h rfl, .of h rfl, .of h rfl, .of h rfl, .of h rfl, .of h rfl, .of h rfl, .of h rfl, .of h rfl, .of h rfl, .of h rfl, .of h rfl, .of h rfl, .of h rfl, .of h rfl, .of h rfl, .of h rfl, .of h rfl, .of h rfl, .of h rfl, .of h rfl, .of h rfl, .of h rfl, .of h rfl, .of h rfl, .of h rfl, .of h rfl, .of h rfl, .of h rfl, .of h rfl, .of h rfl, .of h rfl, .of h rfl, .of h rfl rfl rfl rfl rfl, .of h rfl rfl, .of h rfl rfl rfl, .of h rfl rfl, .of h rfl rfl rfl, .of h rfl rfl rfl, .of h rfl rfl, .of h rfl rfl rfl rfl, .of h rfl rfl rfl, .of h rfl rfl⟩

/-- Every part but these is kept: nums, recs, sched. -/
abbrev Kept80 (s t : State) : Prop :=
  SamePending s t ∧ SameDraws s t ∧ SameOut s t ∧ SameIdent s t ∧ SameFuses s t ∧ SamePins s t ∧ SameClock s t ∧ SamePulses s t ∧ SameChain s t ∧ SameChainPorts s t ∧ SameDict s t ∧ SameDoms s t ∧ SameResults s t ∧ SameLogs s t ∧ SamePower s t ∧ SameVbat s t ∧ SameRadio s t ∧ SamePorts s t ∧ SameRxTiles s t ∧ SameTxTiles s t ∧ SameGirth s t ∧ SameCinch s t ∧ SameKeeper s t ∧ SameSb s t ∧ SameStraps s t ∧ SameJournal s t ∧ SameAttached s t ∧ SameNodeQueues s t ∧ SameTables s t ∧ SameWindows s t ∧ SameHalter s t ∧ SameHar s t ∧ SameQueues s t ∧ SameArrivals s t ∧ SameLacing s t ∧ SameTree s t ∧ SameCurb s t ∧ SameConcho s t ∧ SameCores s t ∧ SameLocals s t ∧ SameBuckle s t ∧ SameEdges s t ∧ SameHost s t ∧ SameFlags s t ∧ SameReports s t ∧ SameSbAll s t ∧ SameBuckleAll s t ∧ SameHostAll s t ∧ SameCoresAll s t ∧ SameTablesAll s t ∧ SameHarAll s t ∧ SameChainAll s t ∧ SameRadioAll s t ∧ SamePowerRxTilesTxTiles s t ∧ SameDictPower s t

theorem Kept80.of {s t : State} (h : t.outside { anyNum := true, recs := true, sched := true } = s.outside { anyNum := true, recs := true, sched := true }) : Kept80 s t :=
  ⟨.of h rfl, .of h rfl, .of h rfl, .of h rfl, .of h rfl, .of h rfl, .of h rfl, .of h rfl, .of h rfl, .of h rfl, .of h rfl, .of h rfl, .of h rfl, .of h rfl, .of h rfl, .of h rfl, .of h rfl, .of h rfl, .of h rfl, .of h rfl, .of h rfl, .of h rfl, .of h rfl, .of h rfl, .of h rfl, .of h rfl, .of h rfl, .of h rfl, .of h rfl, .of h rfl, .of h rfl, .of h rfl, .of h rfl, .of h rfl, .of h rfl, .of h rfl, .of h rfl, .of h rfl, .of h rfl, .of h rfl, .of h rfl, .of h rfl, .of h rfl, .of h rfl, .of h rfl, .of h rfl rfl rfl rfl rfl, .of h rfl rfl, .of h rfl rfl rfl, .of h rfl rfl, .of h rfl rfl rfl, .of h rfl rfl rfl, .of h rfl rfl, .of h rfl rfl rfl rfl, .of h rfl rfl rfl, .of h rfl rfl⟩

/-- Every part but these is kept: lacing. -/
abbrev Kept81 (s t : State) : Prop :=
  SamePending s t ∧ SameDraws s t ∧ SameOut s t ∧ SameIdent s t ∧ SameFuses s t ∧ SamePins s t ∧ SameClock s t ∧ SamePulses s t ∧ SameChain s t ∧ SameChainPorts s t ∧ SameDict s t ∧ SameNums s t ∧ SameDoms s t ∧ SameResults s t ∧ SameLogs s t ∧ SamePower s t ∧ SameVbat s t ∧ SameRadio s t ∧ SamePorts s t ∧ SameRxTiles s t ∧ SameTxTiles s t ∧ SameGirth s t ∧ SameRecs s t ∧ SameSched s t ∧ SameCinch s t ∧ SameKeeper s t ∧ SameSb s t ∧ SameStraps s t ∧ SameJournal s t ∧ SameAttached s t ∧ SameNodeQueues s t ∧ SameTables s t ∧ SameWindows s t ∧ SameHalter s t ∧ SameHar s t ∧ SameQueues s t ∧ SameArrivals s t ∧ SameTree s t ∧ SameCurb s t ∧ SameConcho s t ∧ SameCores s t ∧ SameLocals s t ∧ SameBuckle s t ∧ SameEdges s t ∧ SameHost s t ∧ SameFlags s t ∧ SameReports s t ∧ SameDictAll s t ∧ SameSbAll s t ∧ SameBuckleAll s t ∧ SameHostAll s t ∧ SameCoresAll s t ∧ SameGirthAll s t ∧ SameTablesAll s t ∧ SameHarAll s t ∧ SameChainAll s t ∧ SameRadioAll s t ∧ SamePowerRxTilesTxTiles s t ∧ SameDictPower s t ∧ SameDictNums s t ∧ SameClockNumsPorts s t

theorem Kept81.of {s t : State} (h : t.outside { lacing := true } = s.outside { lacing := true }) : Kept81 s t :=
  ⟨.of h rfl, .of h rfl, .of h rfl, .of h rfl, .of h rfl, .of h rfl, .of h rfl, .of h rfl, .of h rfl, .of h rfl, .of h rfl, .of h rfl, .of h rfl, .of h rfl, .of h rfl, .of h rfl, .of h rfl, .of h rfl, .of h rfl, .of h rfl, .of h rfl, .of h rfl, .of h rfl, .of h rfl, .of h rfl, .of h rfl, .of h rfl, .of h rfl, .of h rfl, .of h rfl, .of h rfl, .of h rfl, .of h rfl, .of h rfl, .of h rfl, .of h rfl, .of h rfl, .of h rfl, .of h rfl, .of h rfl, .of h rfl, .of h rfl, .of h rfl, .of h rfl, .of h rfl, .of h rfl, .of h rfl, .of h rfl rfl rfl rfl rfl, .of h rfl rfl rfl rfl rfl, .of h rfl rfl, .of h rfl rfl rfl, .of h rfl rfl, .of h rfl rfl rfl rfl, .of h rfl rfl rfl, .of h rfl rfl rfl, .of h rfl rfl, .of h rfl rfl rfl rfl, .of h rfl rfl rfl, .of h rfl rfl, .of h rfl rfl, .of h rfl rfl rfl⟩

/-- Every part but these is kept: dict, nums, logs, straps, journal, lacing, edges, flags. -/
abbrev Kept82 (s t : State) : Prop :=
  SamePending s t ∧ SameDraws s t ∧ SameOut s t ∧ SameIdent s t ∧ SameFuses s t ∧ SamePins s t ∧ SameClock s t ∧ SamePulses s t ∧ SameChain s t ∧ SameChainPorts s t ∧ SameDoms s t ∧ SameResults s t ∧ SamePower s t ∧ SameVbat s t ∧ SameRadio s t ∧ SamePorts s t ∧ SameRxTiles s t ∧ SameTxTiles s t ∧ SameGirth s t ∧ SameRecs s t ∧ SameSched s t ∧ SameCinch s t ∧ SameKeeper s t ∧ SameSb s t ∧ SameAttached s t ∧ SameNodeQueues s t ∧ SameTables s t ∧ SameWindows s t ∧ SameHalter s t ∧ SameHar s t ∧ SameQueues s t ∧ SameArrivals s t ∧ SameTree s t ∧ SameCurb s t ∧ SameConcho s t ∧ SameCores s t ∧ SameLocals s t ∧ SameBuckle s t ∧ SameHost s t ∧ SameReports s t ∧ SameCoresAll s t ∧ SameGirthAll s t ∧ SameTablesAll s t ∧ SameHarAll s t ∧ SameChainAll s t ∧ SameRadioAll s t ∧ SamePowerRxTilesTxTiles s t

theorem Kept82.of {s t : State} (h : t.outside { dict := true, anyNum := true, logs := true, straps := true, journal := true, lacing := true, edges := true, flags := true } = s.outside { dict := true, anyNum := true, logs := true, straps := true, journal := true, lacing := true, edges := true, flags := true }) : Kept82 s t :=
  ⟨.of h rfl, .of h rfl, .of h rfl, .of h rfl, .of h rfl, .of h rfl, .of h rfl, .of h rfl, .of h rfl, .of h rfl, .of h rfl, .of h rfl, .of h rfl, .of h rfl, .of h rfl, .of h rfl, .of h rfl, .of h rfl, .of h rfl, .of h rfl, .of h rfl, .of h rfl, .of h rfl, .of h rfl, .of h rfl, .of h rfl, .of h rfl, .of h rfl, .of h rfl, .of h rfl, .of h rfl, .of h rfl, .of h rfl, .of h rfl, .of h rfl, .of h rfl, .of h rfl, .of h rfl, .of h rfl, .of h rfl, .of h rfl rfl, .of h rfl rfl rfl rfl, .of h rfl rfl rfl, .of h rfl rfl rfl, .of h rfl rfl, .of h rfl rfl rfl rfl, .of h rfl rfl rfl⟩

/-- Every part but these is kept: attached, lacing. -/
abbrev Kept83 (s t : State) : Prop :=
  SamePending s t ∧ SameDraws s t ∧ SameOut s t ∧ SameIdent s t ∧ SameFuses s t ∧ SamePins s t ∧ SameClock s t ∧ SamePulses s t ∧ SameChain s t ∧ SameChainPorts s t ∧ SameDict s t ∧ SameNums s t ∧ SameDoms s t ∧ SameResults s t ∧ SameLogs s t ∧ SamePower s t ∧ SameVbat s t ∧ SameRadio s t ∧ SamePorts s t ∧ SameRxTiles s t ∧ SameTxTiles s t ∧ SameGirth s t ∧ SameRecs s t ∧ SameSched s t ∧ SameCinch s t ∧ SameKeeper s t ∧ SameSb s t ∧ SameStraps s t ∧ SameJournal s t ∧ SameNodeQueues s t ∧ SameTables s t ∧ SameWindows s t ∧ SameHalter s t ∧ SameHar s t ∧ SameQueues s t ∧ SameArrivals s t ∧ SameTree s t ∧ SameCurb s t ∧ SameConcho s t ∧ SameCores s t ∧ SameLocals s t ∧ SameBuckle s t ∧ SameEdges s t ∧ SameHost s t ∧ SameFlags s t ∧ SameReports s t ∧ SameDictAll s t ∧ SameBuckleAll s t ∧ SameHostAll s t ∧ SameCoresAll s t ∧ SameGirthAll s t ∧ SameTablesAll s t ∧ SameHarAll s t ∧ SameChainAll s t ∧ SameRadioAll s t ∧ SamePowerRxTilesTxTiles s t ∧ SameDictPower s t ∧ SameDictNums s t ∧ SameClockNumsPorts s t

theorem Kept83.of {s t : State} (h : t.outside { attached := true, lacing := true } = s.outside { attached := true, lacing := true }) : Kept83 s t :=
  ⟨.of h rfl, .of h rfl, .of h rfl, .of h rfl, .of h rfl, .of h rfl, .of h rfl, .of h rfl, .of h rfl, .of h rfl, .of h rfl, .of h rfl, .of h rfl, .of h rfl, .of h rfl, .of h rfl, .of h rfl, .of h rfl, .of h rfl, .of h rfl, .of h rfl, .of h rfl, .of h rfl, .of h rfl, .of h rfl, .of h rfl, .of h rfl, .of h rfl, .of h rfl, .of h rfl, .of h rfl, .of h rfl, .of h rfl, .of h rfl, .of h rfl, .of h rfl, .of h rfl, .of h rfl, .of h rfl, .of h rfl, .of h rfl, .of h rfl, .of h rfl, .of h rfl, .of h rfl, .of h rfl, .of h rfl rfl rfl rfl rfl, .of h rfl rfl, .of h rfl rfl rfl, .of h rfl rfl, .of h rfl rfl rfl rfl, .of h rfl rfl rfl, .of h rfl rfl rfl, .of h rfl rfl, .of h rfl rfl rfl rfl, .of h rfl rfl rfl, .of h rfl rfl, .of h rfl rfl, .of h rfl rfl rfl⟩

/-- Every part but these is kept: ports. -/
abbrev Kept84 (s t : State) : Prop :=
  SamePending s t ∧ SameDraws s t ∧ SameOut s t ∧ SameIdent s t ∧ SameFuses s t ∧ SamePins s t ∧ SameClock s t ∧ SamePulses s t ∧ SameChain s t ∧ SameChainPorts s t ∧ SameDict s t ∧ SameNums s t ∧ SameDoms s t ∧ SameResults s t ∧ SameLogs s t ∧ SamePower s t ∧ SameVbat s t ∧ SameRadio s t ∧ SameRxTiles s t ∧ SameTxTiles s t ∧ SameGirth s t ∧ SameRecs s t ∧ SameSched s t ∧ SameCinch s t ∧ SameKeeper s t ∧ SameSb s t ∧ SameStraps s t ∧ SameJournal s t ∧ SameAttached s t ∧ SameNodeQueues s t ∧ SameTables s t ∧ SameWindows s t ∧ SameHalter s t ∧ SameHar s t ∧ SameQueues s t ∧ SameArrivals s t ∧ SameLacing s t ∧ SameTree s t ∧ SameCurb s t ∧ SameConcho s t ∧ SameCores s t ∧ SameLocals s t ∧ SameBuckle s t ∧ SameEdges s t ∧ SameHost s t ∧ SameFlags s t ∧ SameReports s t ∧ SameDictAll s t ∧ SameSbAll s t ∧ SameBuckleAll s t ∧ SameHostAll s t ∧ SameCoresAll s t ∧ SameGirthAll s t ∧ SameTablesAll s t ∧ SameHarAll s t ∧ SameChainAll s t ∧ SamePowerRxTilesTxTiles s t ∧ SameDictPower s t ∧ SameDictNums s t

theorem Kept84.of {s t : State} (h : t.outside { ports := true } = s.outside { ports := true }) : Kept84 s t :=
  ⟨.of h rfl, .of h rfl, .of h rfl, .of h rfl, .of h rfl, .of h rfl, .of h rfl, .of h rfl, .of h rfl, .of h rfl, .of h rfl, .of h rfl, .of h rfl, .of h rfl, .of h rfl, .of h rfl, .of h rfl, .of h rfl, .of h rfl, .of h rfl, .of h rfl, .of h rfl, .of h rfl, .of h rfl, .of h rfl, .of h rfl, .of h rfl, .of h rfl, .of h rfl, .of h rfl, .of h rfl, .of h rfl, .of h rfl, .of h rfl, .of h rfl, .of h rfl, .of h rfl, .of h rfl, .of h rfl, .of h rfl, .of h rfl, .of h rfl, .of h rfl, .of h rfl, .of h rfl, .of h rfl, .of h rfl, .of h rfl rfl rfl rfl rfl, .of h rfl rfl rfl rfl rfl, .of h rfl rfl, .of h rfl rfl rfl, .of h rfl rfl, .of h rfl rfl rfl rfl, .of h rfl rfl rfl, .of h rfl rfl rfl, .of h rfl rfl, .of h rfl rfl rfl, .of h rfl rfl, .of h rfl rfl⟩

/-- Every part but these is kept: txTiles. -/
abbrev Kept85 (s t : State) : Prop :=
  SamePending s t ∧ SameDraws s t ∧ SameOut s t ∧ SameIdent s t ∧ SameFuses s t ∧ SamePins s t ∧ SameClock s t ∧ SamePulses s t ∧ SameChain s t ∧ SameChainPorts s t ∧ SameDict s t ∧ SameNums s t ∧ SameDoms s t ∧ SameResults s t ∧ SameLogs s t ∧ SamePower s t ∧ SameVbat s t ∧ SameRadio s t ∧ SamePorts s t ∧ SameRxTiles s t ∧ SameGirth s t ∧ SameRecs s t ∧ SameSched s t ∧ SameCinch s t ∧ SameKeeper s t ∧ SameSb s t ∧ SameStraps s t ∧ SameJournal s t ∧ SameAttached s t ∧ SameNodeQueues s t ∧ SameTables s t ∧ SameWindows s t ∧ SameHalter s t ∧ SameHar s t ∧ SameQueues s t ∧ SameArrivals s t ∧ SameLacing s t ∧ SameTree s t ∧ SameCurb s t ∧ SameConcho s t ∧ SameCores s t ∧ SameLocals s t ∧ SameBuckle s t ∧ SameEdges s t ∧ SameHost s t ∧ SameFlags s t ∧ SameReports s t ∧ SameDictAll s t ∧ SameSbAll s t ∧ SameBuckleAll s t ∧ SameHostAll s t ∧ SameCoresAll s t ∧ SameGirthAll s t ∧ SameTablesAll s t ∧ SameHarAll s t ∧ SameChainAll s t ∧ SameDictPower s t ∧ SameDictNums s t ∧ SameClockNumsPorts s t

theorem Kept85.of {s t : State} (h : t.outside { txTiles := true } = s.outside { txTiles := true }) : Kept85 s t :=
  ⟨.of h rfl, .of h rfl, .of h rfl, .of h rfl, .of h rfl, .of h rfl, .of h rfl, .of h rfl, .of h rfl, .of h rfl, .of h rfl, .of h rfl, .of h rfl, .of h rfl, .of h rfl, .of h rfl, .of h rfl, .of h rfl, .of h rfl, .of h rfl, .of h rfl, .of h rfl, .of h rfl, .of h rfl, .of h rfl, .of h rfl, .of h rfl, .of h rfl, .of h rfl, .of h rfl, .of h rfl, .of h rfl, .of h rfl, .of h rfl, .of h rfl, .of h rfl, .of h rfl, .of h rfl, .of h rfl, .of h rfl, .of h rfl, .of h rfl, .of h rfl, .of h rfl, .of h rfl, .of h rfl, .of h rfl, .of h rfl rfl rfl rfl rfl, .of h rfl rfl rfl rfl rfl, .of h rfl rfl, .of h rfl rfl rfl, .of h rfl rfl, .of h rfl rfl rfl rfl, .of h rfl rfl rfl, .of h rfl rfl rfl, .of h rfl rfl, .of h rfl rfl, .of h rfl rfl, .of h rfl rfl rfl⟩

/-- Every part but these is kept: nums, ports, txTiles. -/
abbrev Kept86 (s t : State) : Prop :=
  SamePending s t ∧ SameDraws s t ∧ SameOut s t ∧ SameIdent s t ∧ SameFuses s t ∧ SamePins s t ∧ SameClock s t ∧ SamePulses s t ∧ SameChain s t ∧ SameChainPorts s t ∧ SameDict s t ∧ SameDoms s t ∧ SameResults s t ∧ SameLogs s t ∧ SamePower s t ∧ SameVbat s t ∧ SameRadio s t ∧ SameRxTiles s t ∧ SameGirth s t ∧ SameRecs s t ∧ SameSched s t ∧ SameCinch s t ∧ SameKeeper s t ∧ SameSb s t ∧ SameStraps s t ∧ SameJournal s t ∧ SameAttached s t ∧ SameNodeQueues s t ∧ SameTables s t ∧ SameWindows s t ∧ SameHalter s t ∧ SameHar s t ∧ SameQueues s t ∧ SameArrivals s t ∧ SameLacing s t ∧ SameTree s t ∧ SameCurb s t ∧ SameConcho s t ∧ SameCores s t ∧ SameLocals s t ∧ SameBuckle s t ∧ SameEdges s t ∧ SameHost s t ∧ SameFlags s t ∧ SameReports s t ∧ SameSbAll s t ∧ SameBuckleAll s t ∧ SameHostAll s t ∧ SameCoresAll s t ∧ SameGirthAll s t ∧ SameTablesAll s t ∧ SameHarAll s t ∧ SameChainAll s t ∧ SameDictPower s t

theorem Kept86.of {s t : State} (h : t.outside { anyNum := true, ports := true, txTiles := true } = s.outside { anyNum := true, ports := true, txTiles := true }) : Kept86 s t :=
  ⟨.of h rfl, .of h rfl, .of h rfl, .of h rfl, .of h rfl, .of h rfl, .of h rfl, .of h rfl, .of h rfl, .of h rfl, .of h rfl, .of h rfl, .of h rfl, .of h rfl, .of h rfl, .of h rfl, .of h rfl, .of h rfl, .of h rfl, .of h rfl, .of h rfl, .of h rfl, .of h rfl, .of h rfl, .of h rfl, .of h rfl, .of h rfl, .of h rfl, .of h rfl, .of h rfl, .of h rfl, .of h rfl, .of h rfl, .of h rfl, .of h rfl, .of h rfl, .of h rfl, .of h rfl, .of h rfl, .of h rfl, .of h rfl, .of h rfl, .of h rfl, .of h rfl, .of h rfl, .of h rfl rfl rfl rfl rfl, .of h rfl rfl, .of h rfl rfl rfl, .of h rfl rfl, .of h rfl rfl rfl rfl, .of h rfl rfl rfl, .of h rfl rfl rfl, .of h rfl rfl, .of h rfl rfl⟩

/-- Every part but these is kept: rxTiles. -/
abbrev Kept87 (s t : State) : Prop :=
  SamePending s t ∧ SameDraws s t ∧ SameOut s t ∧ SameIdent s t ∧ SameFuses s t ∧ SamePins s t ∧ SameClock s t ∧ SamePulses s t ∧ SameChain s t ∧ SameChainPorts s t ∧ SameDict s t ∧ SameNums s t ∧ SameDoms s t ∧ SameResults s t ∧ SameLogs s t ∧ SamePower s t ∧ SameVbat s t ∧ SameRadio s t ∧ SamePorts s t ∧ SameTxTiles s t ∧ SameGirth s t ∧ SameRecs s t ∧ SameSched s t ∧ SameCinch s t ∧ SameKeeper s t ∧ SameSb s t ∧ SameStraps s t ∧ SameJournal s t ∧ SameAttached s t ∧ SameNodeQueues s t ∧ SameTables s t ∧ SameWindows s t ∧ SameHalter s t ∧ SameHar s t ∧ SameQueues s t ∧ SameArrivals s t ∧ SameLacing s t ∧ SameTree s t ∧ SameCurb s t ∧ SameConcho s t ∧ SameCores s t ∧ SameLocals s t ∧ SameBuckle s t ∧ SameEdges s t ∧ SameHost s t ∧ SameFlags s t ∧ SameReports s t ∧ SameDictAll s t ∧ SameSbAll s t ∧ SameBuckleAll s t ∧ SameHostAll s t ∧ SameCoresAll s t ∧ SameGirthAll s t ∧ SameTablesAll s t ∧ SameHarAll s t ∧ SameChainAll s t ∧ SameDictPower s t ∧ SameDictNums s t ∧ SameClockNumsPorts s t

theorem Kept87.of {s t : State} (h : t.outside { rxTiles := true } = s.outside { rxTiles := true }) : Kept87 s t :=
  ⟨.of h rfl, .of h rfl, .of h rfl, .of h rfl, .of h rfl, .of h rfl, .of h rfl, .of h rfl, .of h rfl, .of h rfl, .of h rfl, .of h rfl, .of h rfl, .of h rfl, .of h rfl, .of h rfl, .of h rfl, .of h rfl, .of h rfl, .of h rfl, .of h rfl, .of h rfl, .of h rfl, .of h rfl, .of h rfl, .of h rfl, .of h rfl, .of h rfl, .of h rfl, .of h rfl, .of h rfl, .of h rfl, .of h rfl, .of h rfl, .of h rfl, .of h rfl, .of h rfl, .of h rfl, .of h rfl, .of h rfl, .of h rfl, .of h rfl, .of h rfl, .of h rfl, .of h rfl, .of h rfl, .of h rfl, .of h rfl rfl rfl rfl rfl, .of h rfl rfl rfl rfl rfl, .of h rfl rfl, .of h rfl rfl rfl, .of h rfl rfl, .of h rfl rfl rfl rfl, .of h rfl rfl rfl, .of h rfl rfl rfl, .of h rfl rfl, .of h rfl rfl, .of h rfl rfl, .of h rfl rfl rfl⟩

/-- Every part but these is kept: nums, rxTiles. -/
abbrev Kept88 (s t : State) : Prop :=
  SamePending s t ∧ SameDraws s t ∧ SameOut s t ∧ SameIdent s t ∧ SameFuses s t ∧ SamePins s t ∧ SameClock s t ∧ SamePulses s t ∧ SameChain s t ∧ SameChainPorts s t ∧ SameDict s t ∧ SameDoms s t ∧ SameResults s t ∧ SameLogs s t ∧ SamePower s t ∧ SameVbat s t ∧ SameRadio s t ∧ SamePorts s t ∧ SameTxTiles s t ∧ SameGirth s t ∧ SameRecs s t ∧ SameSched s t ∧ SameCinch s t ∧ SameKeeper s t ∧ SameSb s t ∧ SameStraps s t ∧ SameJournal s t ∧ SameAttached s t ∧ SameNodeQueues s t ∧ SameTables s t ∧ SameWindows s t ∧ SameHalter s t ∧ SameHar s t ∧ SameQueues s t ∧ SameArrivals s t ∧ SameLacing s t ∧ SameTree s t ∧ SameCurb s t ∧ SameConcho s t ∧ SameCores s t ∧ SameLocals s t ∧ SameBuckle s t ∧ SameEdges s t ∧ SameHost s t ∧ SameFlags s t ∧ SameReports s t ∧ SameSbAll s t ∧ SameBuckleAll s t ∧ SameHostAll s t ∧ SameCoresAll s t ∧ SameGirthAll s t ∧ SameTablesAll s t ∧ SameHarAll s t ∧ SameChainAll s t ∧ SameDictPower s t

theorem Kept88.of {s t : State} (h : t.outside { anyNum := true, rxTiles := true } = s.outside { anyNum := true, rxTiles := true }) : Kept88 s t :=
  ⟨.of h rfl, .of h rfl, .of h rfl, .of h rfl, .of h rfl, .of h rfl, .of h rfl, .of h rfl, .of h rfl, .of h rfl, .of h rfl, .of h rfl, .of h rfl, .of h rfl, .of h rfl, .of h rfl, .of h rfl, .of h rfl, .of h rfl, .of h rfl, .of h rfl, .of h rfl, .of h rfl, .of h rfl, .of h rfl, .of h rfl, .of h rfl, .of h rfl, .of h rfl, .of h rfl, .of h rfl, .of h rfl, .of h rfl, .of h rfl, .of h rfl, .of h rfl, .of h rfl, .of h rfl, .of h rfl, .of h rfl, .of h rfl, .of h rfl, .of h rfl, .of h rfl, .of h rfl, .of h rfl, .of h rfl rfl rfl rfl rfl, .of h rfl rfl, .of h rfl rfl rfl, .of h rfl rfl, .of h rfl rfl rfl rfl, .of h rfl rfl rfl, .of h rfl rfl rfl, .of h rfl rfl, .of h rfl rfl⟩

/-- Every part but these is kept: dict, nums, logs, rxTiles, straps, journal, edges, flags. -/
abbrev Kept89 (s t : State) : Prop :=
  SamePending s t ∧ SameDraws s t ∧ SameOut s t ∧ SameIdent s t ∧ SameFuses s t ∧ SamePins s t ∧ SameClock s t ∧ SamePulses s t ∧ SameChain s t ∧ SameChainPorts s t ∧ SameDoms s t ∧ SameResults s t ∧ SamePower s t ∧ SameVbat s t ∧ SameRadio s t ∧ SamePorts s t ∧ SameTxTiles s t ∧ SameGirth s t ∧ SameRecs s t ∧ SameSched s t ∧ SameCinch s t ∧ SameKeeper s t ∧ SameSb s t ∧ SameAttached s t ∧ SameNodeQueues s t ∧ SameTables s t ∧ SameWindows s t ∧ SameHalter s t ∧ SameHar s t ∧ SameQueues s t ∧ SameArrivals s t ∧ SameLacing s t ∧ SameTree s t ∧ SameCurb s t ∧ SameConcho s t ∧ SameCores s t ∧ SameLocals s t ∧ SameBuckle s t ∧ SameHost s t ∧ SameReports s t ∧ SameCoresAll s t ∧ SameGirthAll s t ∧ SameTablesAll s t ∧ SameHarAll s t ∧ SameChainAll s t

theorem Kept89.of {s t : State} (h : t.outside { dict := true, anyNum := true, logs := true, rxTiles := true, straps := true, journal := true, edges := true, flags := true } = s.outside { dict := true, anyNum := true, logs := true, rxTiles := true, straps := true, journal := true, edges := true, flags := true }) : Kept89 s t :=
  ⟨.of h rfl, .of h rfl, .of h rfl, .of h rfl, .of h rfl, .of h rfl, .of h rfl, .of h rfl, .of h rfl, .of h rfl, .of h rfl, .of h rfl, .of h rfl, .of h rfl, .of h rfl, .of h rfl, .of h rfl, .of h rfl, .of h rfl, .of h rfl, .of h rfl, .of h rfl, .of h rfl, .of h rfl, .of h rfl, .of h rfl, .of h rfl, .of h rfl, .of h rfl, .of h rfl, .of h rfl, .of h rfl, .of h rfl, .of h rfl, .of h rfl, .of h rfl, .of h rfl, .of h rfl, .of h rfl, .of h rfl, .of h rfl rfl, .of h rfl rfl rfl rfl, .of h rfl rfl rfl, .of h rfl rfl rfl, .of h rfl rfl⟩

/-- Every part but these is kept: radio. -/
abbrev Kept90 (s t : State) : Prop :=
  SamePending s t ∧ SameDraws s t ∧ SameOut s t ∧ SameIdent s t ∧ SameFuses s t ∧ SamePins s t ∧ SameClock s t ∧ SamePulses s t ∧ SameChain s t ∧ SameChainPorts s t ∧ SameDict s t ∧ SameNums s t ∧ SameDoms s t ∧ SameResults s t ∧ SameLogs s t ∧ SamePower s t ∧ SameVbat s t ∧ SamePorts s t ∧ SameRxTiles s t ∧ SameTxTiles s t ∧ SameGirth s t ∧ SameRecs s t ∧ SameSched s t ∧ SameCinch s t ∧ SameKeeper s t ∧ SameSb s t ∧ SameStraps s t ∧ SameJournal s t ∧ SameAttached s t ∧ SameNodeQueues s t ∧ SameTables s t ∧ SameWindows s t ∧ SameHalter s t ∧ SameHar s t ∧ SameQueues s t ∧ SameArrivals s t ∧ SameLacing s t ∧ SameTree s t ∧ SameCurb s t ∧ SameConcho s t ∧ SameCores s t ∧ SameLocals s t ∧ SameBuckle s t ∧ SameEdges s t ∧ SameHost s t ∧ SameFlags s t ∧ SameReports s t ∧ SameDictAll s t ∧ SameSbAll s t ∧ SameBuckleAll s t ∧ SameHostAll s t ∧ SameCoresAll s t ∧ SameGirthAll s t ∧ SameTablesAll s t ∧ SameHarAll s t ∧ SameChainAll s t ∧ SamePowerRxTilesTxTiles s t ∧ SameDictPower s t ∧ SameDictNums s t ∧ SameClockNumsPorts s t

theorem Kept90.of {s t : State} (h : t.outside { radio := true } = s.outside { radio := true }) : Kept90 s t :=
  ⟨.of h rfl, .of h rfl, .of h rfl, .of h rfl, .of h rfl, .of h rfl, .of h rfl, .of h rfl, .of h rfl, .of h rfl, .of h rfl, .of h rfl, .of h rfl, .of h rfl, .of h rfl, .of h rfl, .of h rfl, .of h rfl, .of h rfl, .of h rfl, .of h rfl, .of h rfl, .of h rfl, .of h rfl, .of h rfl, .of h rfl, .of h rfl, .of h rfl, .of h rfl, .of h rfl, .of h rfl, .of h rfl, .of h rfl, .of h rfl, .of h rfl, .of h rfl, .of h rfl, .of h rfl, .of h rfl, .of h rfl, .of h rfl, .of h rfl, .of h rfl, .of h rfl, .of h rfl, .of h rfl, .of h rfl, .of h rfl rfl rfl rfl rfl, .of h rfl rfl rfl rfl rfl, .of h rfl rfl, .of h rfl rfl rfl, .of h rfl rfl, .of h rfl rfl rfl rfl, .of h rfl rfl rfl, .of h rfl rfl rfl, .of h rfl rfl, .of h rfl rfl rfl, .of h rfl rfl, .of h rfl rfl, .of h rfl rfl rfl⟩

/-- Every part but these is kept: dict, nums, logs, txTiles, straps, journal, edges, flags. -/
abbrev Kept91 (s t : State) : Prop :=
  SamePending s t ∧ SameDraws s t ∧ SameOut s t ∧ SameIdent s t ∧ SameFuses s t ∧ SamePins s t ∧ SameClock s t ∧ SamePulses s t ∧ SameChain s t ∧ SameChainPorts s t ∧ SameDoms s t ∧ SameResults s t ∧ SamePower s t ∧ SameVbat s t ∧ SameRadio s t ∧ SamePorts s t ∧ SameRxTiles s t ∧ SameGirth s t ∧ SameRecs s t ∧ SameSched s t ∧ SameCinch s t ∧ SameKeeper s t ∧ SameSb s t ∧ SameAttached s t ∧ SameNodeQueues s t ∧ SameTables s t ∧ SameWindows s t ∧ SameHalter s t ∧ SameHar s t ∧ SameQueues s t ∧ SameArrivals s t ∧ SameLacing s t ∧ SameTree s t ∧ SameCurb s t ∧ SameConcho s t ∧ SameCores s t ∧ SameLocals s t ∧ SameBuckle s t ∧ SameHost s t ∧ SameReports s t ∧ SameCoresAll s t ∧ SameGirthAll s t ∧ SameTablesAll s t ∧ SameHarAll s t ∧ SameChainAll s t

theorem Kept91.of {s t : State} (h : t.outside { dict := true, anyNum := true, logs := true, txTiles := true, straps := true, journal := true, edges := true, flags := true } = s.outside { dict := true, anyNum := true, logs := true, txTiles := true, straps := true, journal := true, edges := true, flags := true }) : Kept91 s t :=
  ⟨.of h rfl, .of h rfl, .of h rfl, .of h rfl, .of h rfl, .of h rfl, .of h rfl, .of h rfl, .of h rfl, .of h rfl, .of h rfl, .of h rfl, .of h rfl, .of h rfl, .of h rfl, .of h rfl, .of h rfl, .of h rfl, .of h rfl, .of h rfl, .of h rfl, .of h rfl, .of h rfl, .of h rfl, .of h rfl, .of h rfl, .of h rfl, .of h rfl, .of h rfl, .of h rfl, .of h rfl, .of h rfl, .of h rfl, .of h rfl, .of h rfl, .of h rfl, .of h rfl, .of h rfl, .of h rfl, .of h rfl, .of h rfl rfl, .of h rfl rfl rfl rfl, .of h rfl rfl rfl, .of h rfl rfl rfl, .of h rfl rfl⟩

/-- Every part but these is kept: dict, nums, logs, recs, straps, journal, nodeQueues, lacing, edges, flags, reports. -/
abbrev Kept92 (s t : State) : Prop :=
  SamePending s t ∧ SameDraws s t ∧ SameOut s t ∧ SameIdent s t ∧ SameFuses s t ∧ SamePins s t ∧ SameClock s t ∧ SamePulses s t ∧ SameChain s t ∧ SameChainPorts s t ∧ SameDoms s t ∧ SameResults s t ∧ SamePower s t ∧ SameVbat s t ∧ SameRadio s t ∧ SamePorts s t ∧ SameRxTiles s t ∧ SameTxTiles s t ∧ SameGirth s t ∧ SameSched s t ∧ SameCinch s t ∧ SameKeeper s t ∧ SameSb s t ∧ SameAttached s t ∧ SameTables s t ∧ SameWindows s t ∧ SameHalter s t ∧ SameHar s t ∧ SameQueues s t ∧ SameArrivals s t ∧ SameTree s t ∧ SameCurb s t ∧ SameConcho s t ∧ SameCores s t ∧ SameLocals s t ∧ SameBuckle s t ∧ SameHost s t ∧ SameCoresAll s t ∧ SameTablesAll s t ∧ SameHarAll s t ∧ SameChainAll s t ∧ SameRadioAll s t ∧ SamePowerRxTilesTxTiles s t

theorem Kept92.of {s t : State} (h : t.outside { dict := true, anyNum := true, logs := true, recs := true, straps := true, journal := true, nodeQueues := true, lacing := true, edges := true, flags := true, reports := true } = s.outside { dict := true, anyNum := true, logs := true, recs := true, straps := true, journal := true, nodeQueues := true, lacing := true, edges := true, flags := true, reports := true }) : Kept92 s t :=
  ⟨.of h rfl, .of h rfl, .of h rfl, .of h rfl, .of h rfl, .of h rfl, .of h rfl, .of h rfl, .of h rfl, .of h rfl, .of h rfl, .of h rfl, .of h rfl, .of h rfl, .of h rfl, .of h rfl, .of h rfl, .of h rfl, .of h rfl, .of h rfl, .of h rfl, .of h rfl, .of h rfl, .of h rfl, .of h rfl, .of h rfl, .of h rfl, .of h rfl, .of h rfl, .of h rfl, .of h rfl, .of h rfl, .of h rfl, .of h rfl, .of h rfl, .of h rfl, .of h rfl, .of h rfl rfl, .of h rfl rfl rfl, .of h rfl rfl rfl, .of h rfl rfl, .of h rfl rfl rfl rfl, .of h rfl rfl rfl⟩

/-- Every part but these is kept: out, dict, nums, logs, radio, ports, txTiles, recs, straps, journal, nodeQueues, lacing, edges, flags, reports. -/
abbrev Kept93 (s t : State) : Prop :=
  SamePending s t ∧ SameDraws s t ∧ SameIdent s t ∧ SameFuses s t ∧ SamePins s t ∧ SameClock s t ∧ SamePulses s t ∧ SameChain s t ∧ SameChainPorts s t ∧ SameDoms s t ∧ SameResults s t ∧ SamePower s t ∧ SameVbat s t ∧ SameRxTiles s t ∧ SameGirth s t ∧ SameSched s t ∧ SameCinch s t ∧ SameKeeper s t ∧ SameSb s t ∧ SameAttached s t ∧ SameTables s t ∧ SameWindows s t ∧ SameHalter s t ∧ SameHar s t ∧ SameQueues s t ∧ SameArrivals s t ∧ SameTree s t ∧ SameCurb s t ∧ SameConcho s t ∧ SameCores s t ∧ SameLocals s t ∧ SameBuckle s t ∧ SameHost s t ∧ SameCoresAll s t ∧ SameTablesAll s t ∧ SameHarAll s t ∧ SameChainAll s t

theorem Kept93.of {s t : State} (h : t.outside { out := true, dict := true, anyNum := true, logs := true, radio := true, ports := true, txTiles := true, recs := true, straps := true, journal := true, nodeQueues := true, lacing := true, edges := true, flags := true, reports := true } = s.outside { out := true, dict := true, anyNum := true, logs := true, radio := true, ports := true, txTiles := true, recs := true, straps := true, journal := true, nodeQueues := true, lacing := true, edges := true, flags := true, reports := true }) : Kept93 s t :=
  ⟨.of h rfl, .of h rfl, .of h rfl, .of h rfl, .of h rfl, .of h rfl, .of h rfl, .of h rfl, .of h rfl, .of h rfl, .of h rfl, .of h rfl, .of h rfl, .of h rfl, .of h rfl, .of h rfl, .of h rfl, .of h rfl, .of h rfl, .of h rfl, .of h rfl, .of h rfl, .of h rfl, .of h rfl, .of h rfl, .of h rfl, .of h rfl, .of h rfl, .of h rfl, .of h rfl, .of h rfl, .of h rfl, .of h rfl, .of h rfl rfl, .of h rfl rfl rfl, .of h rfl rfl rfl, .of h rfl rfl⟩

/-- Every part but these is kept: pins. -/
abbrev Kept94 (s t : State) : Prop :=
  SamePending s t ∧ SameDraws s t ∧ SameOut s t ∧ SameIdent s t ∧ SameFuses s t ∧ SameClock s t ∧ SamePulses s t ∧ SameChain s t ∧ SameChainPorts s t ∧ SameDict s t ∧ SameNums s t ∧ SameDoms s t ∧ SameResults s t ∧ SameLogs s t ∧ SamePower s t ∧ SameVbat s t ∧ SameRadio s t ∧ SamePorts s t ∧ SameRxTiles s t ∧ SameTxTiles s t ∧ SameGirth s t ∧ SameRecs s t ∧ SameSched s t ∧ SameCinch s t ∧ SameKeeper s t ∧ SameSb s t ∧ SameStraps s t ∧ SameJournal s t ∧ SameAttached s t ∧ SameNodeQueues s t ∧ SameTables s t ∧ SameWindows s t ∧ SameHalter s t ∧ SameHar s t ∧ SameQueues s t ∧ SameArrivals s t ∧ SameLacing s t ∧ SameTree s t ∧ SameCurb s t ∧ SameConcho s t ∧ SameCores s t ∧ SameLocals s t ∧ SameBuckle s t ∧ SameEdges s t ∧ SameHost s t ∧ SameFlags s t ∧ SameReports s t ∧ SameDictAll s t ∧ SameSbAll s t ∧ SameBuckleAll s t ∧ SameHostAll s t ∧ SameCoresAll s t ∧ SameGirthAll s t ∧ SameTablesAll s t ∧ SameHarAll s t ∧ SameChainAll s t ∧ SameRadioAll s t ∧ SamePowerRxTilesTxTiles s t ∧ SameDictPower s t ∧ SameDictNums s t ∧ SameClockNumsPorts s t

theorem Kept94.of {s t : State} (h : t.outside { pins := true } = s.outside { pins := true }) : Kept94 s t :=
  ⟨.of h rfl, .of h rfl, .of h rfl, .of h rfl, .of h rfl, .of h rfl, .of h rfl, .of h rfl, .of h rfl, .of h rfl, .of h rfl, .of h rfl, .of h rfl, .of h rfl, .of h rfl, .of h rfl, .of h rfl, .of h rfl, .of h rfl, .of h rfl, .of h rfl, .of h rfl, .of h rfl, .of h rfl, .of h rfl, .of h rfl, .of h rfl, .of h rfl, .of h rfl, .of h rfl, .of h rfl, .of h rfl, .of h rfl, .of h rfl, .of h rfl, .of h rfl, .of h rfl, .of h rfl, .of h rfl, .of h rfl, .of h rfl, .of h rfl, .of h rfl, .of h rfl, .of h rfl, .of h rfl, .of h rfl, .of h rfl rfl rfl rfl rfl, .of h rfl rfl rfl rfl rfl, .of h rfl rfl, .of h rfl rfl rfl, .of h rfl rfl, .of h rfl rfl rfl rfl, .of h rfl rfl rfl, .of h rfl rfl rfl, .of h rfl rfl, .of h rfl rfl rfl rfl, .of h rfl rfl rfl, .of h rfl rfl, .of h rfl rfl, .of h rfl rfl rfl⟩

/-- Every part but these is kept: radio, ports, rxTiles, txTiles. -/
abbrev Kept95 (s t : State) : Prop :=
  SamePending s t ∧ SameDraws s t ∧ SameOut s t ∧ SameIdent s t ∧ SameFuses s t ∧ SamePins s t ∧ SameClock s t ∧ SamePulses s t ∧ SameChain s t ∧ SameChainPorts s t ∧ SameDict s t ∧ SameNums s t ∧ SameDoms s t ∧ SameResults s t ∧ SameLogs s t ∧ SamePower s t ∧ SameVbat s t ∧ SameGirth s t ∧ SameRecs s t ∧ SameSched s t ∧ SameCinch s t ∧ SameKeeper s t ∧ SameSb s t ∧ SameStraps s t ∧ SameJournal s t ∧ SameAttached s t ∧ SameNodeQueues s t ∧ SameTables s t ∧ SameWindows s t ∧ SameHalter s t ∧ SameHar s t ∧ SameQueues s t ∧ SameArrivals s t ∧ SameLacing s t ∧ SameTree s t ∧ SameCurb s t ∧ SameConcho s t ∧ SameCores s t ∧ SameLocals s t ∧ SameBuckle s t ∧ SameEdges s t ∧ SameHost s t ∧ SameFlags s t ∧ SameReports s t ∧ SameDictAll s t ∧ SameSbAll s t ∧ SameBuckleAll s t ∧ SameHostAll s t ∧ SameCoresAll s t ∧ SameGirthAll s t ∧ SameTablesAll s t ∧ SameHarAll s t ∧ SameChainAll s t ∧ SameDictPower s t ∧ SameDictNums s t

theorem Kept95.of {s t : State} (h : t.outside { radio := true, ports := true, rxTiles := true, txTiles := true } = s.outside { radio := true, ports := true, rxTiles := true, txTiles := true }) : Kept95 s t :=
  ⟨.of h rfl, .of h rfl, .of h rfl, .of h rfl, .of h rfl, .of h rfl, .of h rfl, .of h rfl, .of h rfl, .of h rfl, .of h rfl, .of h rfl, .of h rfl, .of h rfl, .of h rfl, .of h rfl, .of h rfl, .of h rfl, .of h rfl, .of h rfl, .of h rfl, .of h rfl, .of h rfl, .of h rfl, .of h rfl, .of h rfl, .of h rfl, .of h rfl, .of h rfl, .of h rfl, .of h rfl, .of h rfl, .of h rfl, .of h rfl, .of h rfl, .of h rfl, .of h rfl, .of h rfl, .of h rfl, .of h rfl, .of h rfl, .of h rfl, .of h rfl, .of h rfl, .of h rfl rfl rfl rfl rfl, .of h rfl rfl rfl rfl rfl, .of h rfl rfl, .of h rfl rfl rfl, .of h rfl rfl, .of h rfl rfl rfl rfl, .of h rfl rfl rfl, .of h rfl rfl rfl, .of h rfl rfl, .of h rfl rfl, .of h rfl rfl⟩

/-- Every part but these is kept: power, rxTiles, txTiles. -/
abbrev Kept96 (s t : State) : Prop :=
  SamePending s t ∧ SameDraws s t ∧ SameOut s t ∧ SameIdent s t ∧ SameFuses s t ∧ SamePins s t ∧ SameClock s t ∧ SamePulses s t ∧ SameChain s t ∧ SameChainPorts s t ∧ SameDict s t ∧ SameNums s t ∧ SameDoms s t ∧ SameResults s t ∧ SameLogs s t ∧ SameVbat s t ∧ SameRadio s t ∧ SamePorts s t ∧ SameGirth s t ∧ SameRecs s t ∧ SameSched s t ∧ SameCinch s t ∧ SameKeeper s t ∧ SameSb s t ∧ SameStraps s t ∧ SameJournal s t ∧ SameAttached s t ∧ SameNodeQueues s t ∧ SameTables s t ∧ SameWindows s t ∧ SameHalter s t ∧ SameHar s t ∧ SameQueues s t ∧ SameArrivals s t ∧ SameLacing s t ∧ SameTree s t ∧ SameCurb s t ∧ SameConcho s t ∧ SameCores s t ∧ SameLocals s t ∧ SameBuckle s t ∧ SameEdges s t ∧ SameHost s t ∧ SameFlags s t ∧ SameReports s t ∧ SameDictAll s t ∧ SameSbAll s t ∧ SameBuckleAll s t ∧ SameHostAll s t ∧ SameCoresAll s t ∧ SameGirthAll s t ∧ SameTablesAll s t ∧ SameHarAll s t ∧ SameChainAll s t ∧ SameDictNums s t ∧ SameClockNumsPorts s t

theorem Kept96.of {s t : State} (h : t.outside { power := true, rxTiles := true, txTiles := true } = s.outside { power := true, rxTiles := true, txTiles := true }) : Kept96 s t :=
  ⟨.of h rfl, .of h rfl, .of h rfl, .of h rfl, .of h rfl, .of h rfl, .of h rfl, .of h rfl, .of h rfl, .of h rfl, .of h rfl, .of h rfl, .of h rfl, .of h rfl, .of h rfl, .of h rfl, .of h rfl, .of h rfl, .of h rfl, .of h rfl, .of h rfl, .of h rfl, .of h rfl, .of h rfl, .of h rfl, .of h rfl, .of h rfl, .of h rfl, .of h rfl, .of h rfl, .of h rfl, .of h rfl, .of h rfl, .of h rfl, .of h rfl, .of h rfl, .of h rfl, .of h rfl, .of h rfl, .of h rfl, .of h rfl, .of h rfl, .of h rfl, .of h rfl, .of h rfl, .of h rfl rfl rfl rfl rfl, .of h rfl rfl rfl rfl rfl, .of h rfl rfl, .of h rfl rfl rfl, .of h rfl rfl, .of h rfl rfl rfl rfl, .of h rfl rfl rfl, .of h rfl rfl rfl, .of h rfl rfl, .of h rfl rfl, .of h rfl rfl rfl⟩

/-- Every part but these is kept: cores. -/
abbrev Kept97 (s t : State) : Prop :=
  SamePending s t ∧ SameDraws s t ∧ SameOut s t ∧ SameIdent s t ∧ SameFuses s t ∧ SamePins s t ∧ SameClock s t ∧ SamePulses s t ∧ SameChain s t ∧ SameChainPorts s t ∧ SameDict s t ∧ SameNums s t ∧ SameDoms s t ∧ SameResults s t ∧ SameLogs s t ∧ SamePower s t ∧ SameVbat s t ∧ SameRadio s t ∧ SamePorts s t ∧ SameRxTiles s t ∧ SameTxTiles s t ∧ SameGirth s t ∧ SameRecs s t ∧ SameSched s t ∧ SameCinch s t ∧ SameKeeper s t ∧ SameSb s t ∧ SameStraps s t ∧ SameJournal s t ∧ SameAttached s t ∧ SameNodeQueues s t ∧ SameTables s t ∧ SameWindows s t ∧ SameHalter s t ∧ SameHar s t ∧ SameQueues s t ∧ SameArrivals s t ∧ SameLacing s t ∧ SameTree s t ∧ SameCurb s t ∧ SameConcho s t ∧ SameLocals s t ∧ SameBuckle s t ∧ SameEdges s t ∧ SameHost s t ∧ SameFlags s t ∧ SameReports s t ∧ SameDictAll s t ∧ SameSbAll s t ∧ SameBuckleAll s t ∧ SameHostAll s t ∧ SameGirthAll s t ∧ SameTablesAll s t ∧ SameHarAll s t ∧ SameChainAll s t ∧ SameRadioAll s t ∧ SamePowerRxTilesTxTiles s t ∧ SameDictPower s t ∧ SameDictNums s t ∧ SameClockNumsPorts s t

theorem Kept97.of {s t : State} (h : t.outside { cores := true } = s.outside { cores := true }) : Kept97 s t :=
  ⟨.of h rfl, .of h rfl, .of h rfl, .of h rfl, .of h rfl, .of h rfl, .of h rfl, .of h rfl, .of h rfl, .of h rfl, .of h rfl, .of h rfl, .of h rfl, .of h rfl, .of h rfl, .of h rfl, .of h rfl, .of h rfl, .of h rfl, .of h rfl, .of h rfl, .of h rfl, .of h rfl, .of h rfl, .of h rfl, .of h rfl, .of h rfl, .of h rfl, .of h rfl, .of h rfl, .of h rfl, .of h rfl, .of h rfl, .of h rfl, .of h rfl, .of h rfl, .of h rfl, .of h rfl, .of h rfl, .of h rfl, .of h rfl, .of h rfl, .of h rfl, .of h rfl, .of h rfl, .of h rfl, .of h rfl, .of h rfl rfl rfl rfl rfl, .of h rfl rfl rfl rfl rfl, .of h rfl rfl, .of h rfl rfl rfl, .of h rfl rfl rfl rfl, .of h rfl rfl rfl, .of h rfl rfl rfl, .of h rfl rfl, .of h rfl rfl rfl rfl, .of h rfl rfl rfl, .of h rfl rfl, .of h rfl rfl, .of h rfl rfl rfl⟩

/-- Every part but these is kept: nums, cores. -/
abbrev Kept98 (s t : State) : Prop :=
  SamePending s t ∧ SameDraws s t ∧ SameOut s t ∧ SameIdent s t ∧ SameFuses s t ∧ SamePins s t ∧ SameClock s t ∧ SamePulses s t ∧ SameChain s t ∧ SameChainPorts s t ∧ SameDict s t ∧ SameDoms s t ∧ SameResults s t ∧ SameLogs s t ∧ SamePower s t ∧ SameVbat s t ∧ SameRadio s t ∧ SamePorts s t ∧ SameRxTiles s t ∧ SameTxTiles s t ∧ SameGirth s t ∧ SameRecs s t ∧ SameSched s t ∧ SameCinch s t ∧ SameKeeper s t ∧ SameSb s t ∧ SameStraps s t ∧ SameJournal s t ∧ SameAttached s t ∧ SameNodeQueues s t ∧ SameTables s t ∧ SameWindows s t ∧ SameHalter s t ∧ SameHar s t ∧ SameQueues s t ∧ SameArrivals s t ∧ SameLacing s t ∧ SameTree s t ∧ SameCurb s t ∧ SameConcho s t ∧ SameLocals s t ∧ SameBuckle s t ∧ SameEdges s t ∧ SameHost s t ∧ SameFlags s t ∧ SameReports s t ∧ SameSbAll s t ∧ SameBuckleAll s t ∧ SameHostAll s t ∧ SameGirthAll s t ∧ SameTablesAll s t ∧ SameHarAll s t ∧ SameChainAll s t ∧ SameRadioAll s t ∧ SamePowerRxTilesTxTiles s t ∧ SameDictPower s t

theorem Kept98.of {s t : State} (h : t.outside { anyNum := true, cores := true } = s.outside { anyNum := true, cores := true }) : Kept98 s t :=
  ⟨.of h rfl, .of h rfl, .of h rfl, .of h rfl, .of h rfl, .of h rfl, .of h rfl, .of h rfl, .of h rfl, .of h rfl, .of h rfl, .of h rfl, .of h rfl, .of h rfl, .of h rfl, .of h rfl, .of h rfl, .of h rfl, .of h rfl, .of h rfl, .of h rfl, .of h rfl, .of h rfl, .of h rfl, .of h rfl, .of h rfl, .of h rfl, .of h rfl, .of h rfl, .of h rfl, .of h rfl, .of h rfl, .of h rfl, .of h rfl, .of h rfl, .of h rfl, .of h rfl, .of h rfl, .of h rfl, .of h rfl, .of h rfl, .of h rfl, .of h rfl, .of h rfl, .of h rfl, .of h rfl, .of h rfl rfl rfl rfl rfl, .of h rfl rfl, .of h rfl rfl rfl, .of h rfl rfl rfl rfl, .of h rfl rfl rfl, .of h rfl rfl rfl, .of h rfl rfl, .of h rfl rfl rfl rfl, .of h rfl rfl rfl, .of h rfl rfl⟩

/-- Every part but these is kept: power. -/
abbrev Kept99 (s t : State) : Prop :=
  SamePending s t ∧ SameDraws s t ∧ SameOut s t ∧ SameIdent s t ∧ SameFuses s t ∧ SamePins s t ∧ SameClock s t ∧ SamePulses s t ∧ SameChain s t ∧ SameChainPorts s t ∧ SameDict s t ∧ SameNums s t ∧ SameDoms s t ∧ SameResults s t ∧ SameLogs s t ∧ SameVbat s t ∧ SameRadio s t ∧ SamePorts s t ∧ SameRxTiles s t ∧ SameTxTiles s t ∧ SameGirth s t ∧ SameRecs s t ∧ SameSched s t ∧ SameCinch s t ∧ SameKeeper s t ∧ SameSb s t ∧ SameStraps s t ∧ SameJournal s t ∧ SameAttached s t ∧ SameNodeQueues s t ∧ SameTables s t ∧ SameWindows s t ∧ SameHalter s t ∧ SameHar s t ∧ SameQueues s t ∧ SameArrivals s t ∧ SameLacing s t ∧ SameTree s t ∧ SameCurb s t ∧ SameConcho s t ∧ SameCores s t ∧ SameLocals s t ∧ SameBuckle s t ∧ SameEdges s t ∧ SameHost s t ∧ SameFlags s t ∧ SameReports s t ∧ SameDictAll s t ∧ SameSbAll s t ∧ SameBuckleAll s t ∧ SameHostAll s t ∧ SameCoresAll s t ∧ SameGirthAll s t ∧ SameTablesAll s t ∧ SameHarAll s t ∧ SameChainAll s t ∧ SameRadioAll s t ∧ SameDictNums s t ∧ SameClockNumsPorts s t

theorem Kept99.of {s t : State} (h : t.outside { power := true } = s.outside { power := true }) : Kept99 s t :=
  ⟨.of h rfl, .of h rfl, .of h rfl, .of h rfl, .of h rfl, .of h rfl, .of h rfl, .of h rfl, .of h rfl, .of h rfl, .of h rfl, .of h rfl, .of h rfl, .of h rfl, .of h rfl, .of h rfl, .of h rfl, .of h rfl, .of h rfl, .of h rfl, .of h rfl, .of h rfl, .of h rfl, .of h rfl, .of h rfl, .of h rfl, .of h rfl, .of h rfl, .of h rfl, .of h rfl, .of h rfl, .of h rfl, .of h rfl, .of h rfl, .of h rfl, .of h rfl, .of h rfl, .of h rfl, .of h rfl, .of h rfl, .of h rfl, .of h rfl, .of h rfl, .of h rfl, .of h rfl, .of h rfl, .of h rfl, .of h rfl rfl rfl rfl rfl, .of h rfl rfl rfl rfl rfl, .of h rfl rfl, .of h rfl rfl rfl, .of h rfl rfl, .of h rfl rfl rfl rfl, .of h rfl rfl rfl, .of h rfl rfl rfl, .of h rfl rfl, .of h rfl rfl rfl rfl, .of h rfl rfl, .of h rfl rfl rfl⟩

/-- Every part but these is kept: locals. -/
abbrev Kept100 (s t : State) : Prop :=
  SamePending s t ∧ SameDraws s t ∧ SameOut s t ∧ SameIdent s t ∧ SameFuses s t ∧ SamePins s t ∧ SameClock s t ∧ SamePulses s t ∧ SameChain s t ∧ SameChainPorts s t ∧ SameDict s t ∧ SameNums s t ∧ SameDoms s t ∧ SameResults s t ∧ SameLogs s t ∧ SamePower s t ∧ SameVbat s t ∧ SameRadio s t ∧ SamePorts s t ∧ SameRxTiles s t ∧ SameTxTiles s t ∧ SameGirth s t ∧ SameRecs s t ∧ SameSched s t ∧ SameCinch s t ∧ SameKeeper s t ∧ SameSb s t ∧ SameStraps s t ∧ SameJournal s t ∧ SameAttached s t ∧ SameNodeQueues s t ∧ SameTables s t ∧ SameWindows s t ∧ SameHalter s t ∧ SameHar s t ∧ SameQueues s t ∧ SameArrivals s t ∧ SameLacing s t ∧ SameTree s t ∧ SameCurb s t ∧ SameConcho s t ∧ SameCores s t ∧ SameBuckle s t ∧ SameEdges s t ∧ SameHost s t ∧ SameFlags s t ∧ SameReports s t ∧ SameDictAll s t ∧ SameSbAll s t ∧ SameBuckleAll s t ∧ SameHostAll s t ∧ SameGirthAll s t ∧ SameTablesAll s t ∧ SameHarAll s t ∧ SameChainAll s t ∧ SameRadioAll s t ∧ SamePowerRxTilesTxTiles s t ∧ SameDictPower s t ∧ SameDictNums s t ∧ SameClockNumsPorts s t

theorem Kept100.of {s t : State} (h : t.outside { locals := true } = s.outside { locals := true }) : Kept100 s t :=
  ⟨.of h rfl, .of h rfl, .of h rfl, .of h rfl, .of h rfl, .of h rfl, .of h rfl, .of h rfl, .of h rfl, .of h rfl, .of h rfl, .of h rfl, .of h rfl, .of h rfl, .of h rfl, .of h rfl, .of h rfl, .of h rfl, .of h rfl, .of h rfl, .of h rfl, .of h rfl, .of h rfl, .of h rfl, .of h rfl, .of h rfl, .of h rfl, .of h rfl, .of h rfl, .of h rfl, .of h rfl, .of h rfl, .of h rfl, .of h rfl, .of h rfl, .of h rfl, .of h rfl, .of h rfl, .of h rfl, .of h rfl, .of h rfl, .of h rfl, .of h rfl, .of h rfl, .of h rfl, .of h rfl, .of h rfl, .of h rfl rfl rfl rfl rfl, .of h rfl rfl rfl rfl rfl, .of h rfl rfl, .of h rfl rfl rfl, .of h rfl rfl rfl rfl, .of h rfl rfl rfl, .of h rfl rfl rfl, .of h rfl rfl, .of h rfl rfl rfl rfl, .of h rfl rfl rfl, .of h rfl rfl, .of h rfl rfl, .of h rfl rfl rfl⟩

/-- Every part but these is kept: cores, locals. -/
abbrev Kept101 (s t : State) : Prop :=
  SamePending s t ∧ SameDraws s t ∧ SameOut s t ∧ SameIdent s t ∧ SameFuses s t ∧ SamePins s t ∧ SameClock s t ∧ SamePulses s t ∧ SameChain s t ∧ SameChainPorts s t ∧ SameDict s t ∧ SameNums s t ∧ SameDoms s t ∧ SameResults s t ∧ SameLogs s t ∧ SamePower s t ∧ SameVbat s t ∧ SameRadio s t ∧ SamePorts s t ∧ SameRxTiles s t ∧ SameTxTiles s t ∧ SameGirth s t ∧ SameRecs s t ∧ SameSched s t ∧ SameCinch s t ∧ SameKeeper s t ∧ SameSb s t ∧ SameStraps s t ∧ SameJournal s t ∧ SameAttached s t ∧ SameNodeQueues s t ∧ SameTables s t ∧ SameWindows s t ∧ SameHalter s t ∧ SameHar s t ∧ SameQueues s t ∧ SameArrivals s t ∧ SameLacing s t ∧ SameTree s t ∧ SameCurb s t ∧ SameConcho s t ∧ SameBuckle s t ∧ SameEdges s t ∧ SameHost s t ∧ SameFlags s t ∧ SameReports s t ∧ SameDictAll s t ∧ SameSbAll s t ∧ SameBuckleAll s t ∧ SameHostAll s t ∧ SameGirthAll s t ∧ SameTablesAll s t ∧ SameHarAll s t ∧ SameChainAll s t ∧ SameRadioAll s t ∧ SamePowerRxTilesTxTiles s t ∧ SameDictPower s t ∧ SameDictNums s t ∧ SameClockNumsPorts s t

theorem Kept101.of {s t : State} (h : t.outside { cores := true, locals := true } = s.outside { cores := true, locals := true }) : Kept101 s t :=
  ⟨.of h rfl, .of h rfl, .of h rfl, .of h rfl, .of h rfl, .of h rfl, .of h rfl, .of h rfl, .of h rfl, .of h rfl, .of h rfl, .of h rfl, .of h rfl, .of h rfl, .of h rfl, .of h rfl, .of h rfl, .of h rfl, .of h rfl, .of h rfl, .of h rfl, .of h rfl, .of h rfl, .of h rfl, .of h rfl, .of h rfl, .of h rfl, .of h rfl, .of h rfl, .of h rfl, .of h rfl, .of h rfl, .of h rfl, .of h rfl, .of h rfl, .of h rfl, .of h rfl, .of h rfl, .of h rfl, .of h rfl, .of h rfl, .of h rfl, .of h rfl, .of h rfl, .of h rfl, .of h rfl, .of h rfl rfl rfl rfl rfl, .of h rfl rfl rfl rfl rfl, .of h rfl rfl, .of h rfl rfl rfl, .of h rfl rfl rfl rfl, .of h rfl rfl rfl, .of h rfl rfl rfl, .of h rfl rfl, .of h rfl rfl rfl rfl, .of h rfl rfl rfl, .of h rfl rfl, .of h rfl rfl, .of h rfl rfl rfl⟩

/-- Every part but these is kept: dict, nums, logs, straps, journal, cores, locals, edges, flags. -/
abbrev Kept102 (s t : State) : Prop :=
  SamePending s t ∧ SameDraws s t ∧ SameOut s t ∧ SameIdent s t ∧ SameFuses s t ∧ SamePins s t ∧ SameClock s t ∧ SamePulses s t ∧ SameChain s t ∧ SameChainPorts s t ∧ SameDoms s t ∧ SameResults s t ∧ SamePower s t ∧ SameVbat s t ∧ SameRadio s t ∧ SamePorts s t ∧ SameRxTiles s t ∧ SameTxTiles s t ∧ SameGirth s t ∧ SameRecs s t ∧ SameSched s t ∧ SameCinch s t ∧ SameKeeper s t ∧ SameSb s t ∧ SameAttached s t ∧ SameNodeQueues s t ∧ SameTables s t ∧ SameWindows s t ∧ SameHalter s t ∧ SameHar s t ∧ SameQueues s t ∧ SameArrivals s t ∧ SameLacing s t ∧ SameTree s t ∧ SameCurb s t ∧ SameConcho s t ∧ SameBuckle s t ∧ SameHost s t ∧ SameReports s t ∧ SameGirthAll s t ∧ SameTablesAll s t ∧ SameHarAll s t ∧ SameChainAll s t ∧ SameRadioAll s t ∧ SamePowerRxTilesTxTiles s t

theorem Kept102.of {s t : State} (h : t.outside { dict := true, anyNum := true, logs := true, straps := true, journal := true, cores := true, locals := true, edges := true, flags := true } = s.outside { dict := true, anyNum := true, logs := true, straps := true, journal := true, cores := true, locals := true, edges := true, flags := true }) : Kept102 s t :=
  ⟨.of h rfl, .of h rfl, .of h rfl, .of h rfl, .of h rfl, .of h rfl, .of h rfl, .of h rfl, .of h rfl, .of h rfl, .of h rfl, .of h rfl, .of h rfl, .of h rfl, .of h rfl, .of h rfl, .of h rfl, .of h rfl, .of h rfl, .of h rfl, .of h rfl, .of h rfl, .of h rfl, .of h rfl, .of h rfl, .of h rfl, .of h rfl, .of h rfl, .of h rfl, .of h rfl, .of h rfl, .of h rfl, .of h rfl, .of h rfl, .of h rfl, .of h rfl, .of h rfl, .of h rfl, .of h rfl, .of h rfl rfl rfl rfl, .of h rfl rfl rfl, .of h rfl rfl rfl, .of h rfl rfl, .of h rfl rfl rfl rfl, .of h rfl rfl rfl⟩

/-- Every part but these is kept: nums, results, cores. -/
abbrev Kept103 (s t : State) : Prop :=
  SamePending s t ∧ SameDraws s t ∧ SameOut s t ∧ SameIdent s t ∧ SameFuses s t ∧ SamePins s t ∧ SameClock s t ∧ SamePulses s t ∧ SameChain s t ∧ SameChainPorts s t ∧ SameDict s t ∧ SameDoms s t ∧ SameLogs s t ∧ SamePower s t ∧ SameVbat s t ∧ SameRadio s t ∧ SamePorts s t ∧ SameRxTiles s t ∧ SameTxTiles s t ∧ SameGirth s t ∧ SameRecs s t ∧ SameSched s t ∧ SameCinch s t ∧ SameKeeper s t ∧ SameSb s t ∧ SameStraps s t ∧ SameJournal s t ∧ SameAttached s t ∧ SameNodeQueues s t ∧ SameTables s t ∧ SameWindows s t ∧ SameHalter s t ∧ SameHar s t ∧ SameQueues s t ∧ SameArrivals s t ∧ SameLacing s t ∧ SameTree s t ∧ SameCurb s t ∧ SameConcho s t ∧ SameLocals s t ∧ SameBuckle s t ∧ SameEdges s t ∧ SameHost s t ∧ SameFlags s t ∧ SameReports s t ∧ SameSbAll s t ∧ SameBuckleAll s t ∧ SameHostAll s t ∧ SameGirthAll s t ∧ SameTablesAll s t ∧ SameHarAll s t ∧ SameChainAll s t ∧ SameRadioAll s t ∧ SamePowerRxTilesTxTiles s t ∧ SameDictPower s t

theorem Kept103.of {s t : State} (h : t.outside { anyNum := true, results := true, cores := true } = s.outside { anyNum := true, results := true, cores := true }) : Kept103 s t :=
  ⟨.of h rfl, .of h rfl, .of h rfl, .of h rfl, .of h rfl, .of h rfl, .of h rfl, .of h rfl, .of h rfl, .of h rfl, .of h rfl, .of h rfl, .of h rfl, .of h rfl, .of h rfl, .of h rfl, .of h rfl, .of h rfl, .of h rfl, .of h rfl, .of h rfl, .of h rfl, .of h rfl, .of h rfl, .of h rfl, .of h rfl, .of h rfl, .of h rfl, .of h rfl, .of h rfl, .of h rfl, .of h rfl, .of h rfl, .of h rfl, .of h rfl, .of h rfl, .of h rfl, .of h rfl, .of h rfl, .of h rfl, .of h rfl, .of h rfl, .of h rfl, .of h rfl, .of h rfl, .of h rfl rfl rfl rfl rfl, .of h rfl rfl, .of h rfl rfl rfl, .of h rfl rfl rfl rfl, .of h rfl rfl rfl, .of h rfl rfl rfl, .of h rfl rfl, .of h rfl rfl rfl rfl, .of h rfl rfl rfl, .of h rfl rfl⟩

/-- Every part but these is kept: nums, results, power, cores. -/
abbrev Kept104 (s t : State) : Prop :=
  SamePending s t ∧ SameDraws s t ∧ SameOut s t ∧ SameIdent s t ∧ SameFuses s t ∧ SamePins s t ∧ SameClock s t ∧ SamePulses s t ∧ SameChain s t ∧ SameChainPorts s t ∧ SameDict s t ∧ SameDoms s t ∧ SameLogs s t ∧ SameVbat s t ∧ SameRadio s t ∧ SamePorts s t ∧ SameRxTiles s t ∧ SameTxTiles s t ∧ SameGirth s t ∧ SameRecs s t ∧ SameSched s t ∧ SameCinch s t ∧ SameKeeper s t ∧ SameSb s t ∧ SameStraps s t ∧ SameJournal s t ∧ SameAttached s t ∧ SameNodeQueues s t ∧ SameTables s t ∧ SameWindows s t ∧ SameHalter s t ∧ SameHar s t ∧ SameQueues s t ∧ SameArrivals s t ∧ SameLacing s t ∧ SameTree s t ∧ SameCurb s t ∧ SameConcho s t ∧ SameLocals s t ∧ SameBuckle s t ∧ SameEdges s t ∧ SameHost s t ∧ SameFlags s t ∧ SameReports s t ∧ SameSbAll s t ∧ SameBuckleAll s t ∧ SameHostAll s t ∧ SameGirthAll s t ∧ SameTablesAll s t ∧ SameHarAll s t ∧ SameChainAll s t ∧ SameRadioAll s t

theorem Kept104.of {s t : State} (h : t.outside { anyNum := true, results := true, power := true, cores := true } = s.outside { anyNum := true, results := true, power := true, cores := true }) : Kept104 s t :=
  ⟨.of h rfl, .of h rfl, .of h rfl, .of h rfl, .of h rfl, .of h rfl, .of h rfl, .of h rfl, .of h rfl, .of h rfl, .of h rfl, .of h rfl, .of h rfl, .of h rfl, .of h rfl, .of h rfl, .of h rfl, .of h rfl, .of h rfl, .of h rfl, .of h rfl, .of h rfl, .of h rfl, .of h rfl, .of h rfl, .of h rfl, .of h rfl, .of h rfl, .of h rfl, .of h rfl, .of h rfl, .of h rfl, .of h rfl, .of h rfl, .of h rfl, .of h rfl, .of h rfl, .of h rfl, .of h rfl, .of h rfl, .of h rfl, .of h rfl, .of h rfl, .of h rfl, .of h rfl rfl rfl rfl rfl, .of h rfl rfl, .of h rfl rfl rfl, .of h rfl rfl rfl rfl, .of h rfl rfl rfl, .of h rfl rfl rfl, .of h rfl rfl, .of h rfl rfl rfl rfl⟩

/-- Every part but these is kept: nums, results, power, cores, locals. -/
abbrev Kept105 (s t : State) : Prop :=
  SamePending s t ∧ SameDraws s t ∧ SameOut s t ∧ SameIdent s t ∧ SameFuses s t ∧ SamePins s t ∧ SameClock s t ∧ SamePulses s t ∧ SameChain s t ∧ SameChainPorts s t ∧ SameDict s t ∧ SameDoms s t ∧ SameLogs s t ∧ SameVbat s t ∧ SameRadio s t ∧ SamePorts s t ∧ SameRxTiles s t ∧ SameTxTiles s t ∧ SameGirth s t ∧ SameRecs s t ∧ SameSched s t ∧ SameCinch s t ∧ SameKeeper s t ∧ SameSb s t ∧ SameStraps s t ∧ SameJournal s t ∧ SameAttached s t ∧ SameNodeQueues s t ∧ SameTables s t ∧ SameWindows s t ∧ SameHalter s t ∧ SameHar s t ∧ SameQueues s t ∧ SameArrivals s t ∧ SameLacing s t ∧ SameTree s t ∧ SameCurb s t ∧ SameConcho s t ∧ SameBuckle s t ∧ SameEdges s t ∧ SameHost s t ∧ SameFlags s t ∧ SameReports s t ∧ SameSbAll s t ∧ SameBuckleAll s t ∧ SameHostAll s t ∧ SameGirthAll s t ∧ SameTablesAll s t ∧ SameHarAll s t ∧ SameChainAll s t ∧ SameRadioAll s t

theorem Kept105.of {s t : State} (h : t.outside { anyNum := true, results := true, power := true, cores := true, locals := true } = s.outside { anyNum := true, results := true, power := true, cores := true, locals := true }) : Kept105 s t :=
  ⟨.of h rfl, .of h rfl, .of h rfl, .of h rfl, .of h rfl, .of h rfl, .of h rfl, .of h rfl, .of h rfl, .of h rfl, .of h rfl, .of h rfl, .of h rfl, .of h rfl, .of h rfl, .of h rfl, .of h rfl, .of h rfl, .of h rfl, .of h rfl, .of h rfl, .of h rfl, .of h rfl, .of h rfl, .of h rfl, .of h rfl, .of h rfl, .of h rfl, .of h rfl, .of h rfl, .of h rfl, .of h rfl, .of h rfl, .of h rfl, .of h rfl, .of h rfl, .of h rfl, .of h rfl, .of h rfl, .of h rfl, .of h rfl, .of h rfl, .of h rfl, .of h rfl rfl rfl rfl rfl, .of h rfl rfl, .of h rfl rfl rfl, .of h rfl rfl rfl rfl, .of h rfl rfl rfl, .of h rfl rfl rfl, .of h rfl rfl, .of h rfl rfl rfl rfl⟩

/-- Every part but these is kept: pins, nums, ports, rxTiles, edges. -/
abbrev Kept106 (s t : State) : Prop :=
  SamePending s t ∧ SameDraws s t ∧ SameOut s t ∧ SameIdent s t ∧ SameFuses s t ∧ SameClock s t ∧ SamePulses s t ∧ SameChain s t ∧ SameChainPorts s t ∧ SameDict s t ∧ SameDoms s t ∧ SameResults s t ∧ SameLogs s t ∧ SamePower s t ∧ SameVbat s t ∧ SameRadio s t ∧ SameTxTiles s t ∧ SameGirth s t ∧ SameRecs s t ∧ SameSched s t ∧ SameCinch s t ∧ SameKeeper s t ∧ SameSb s t ∧ SameStraps s t ∧ SameJournal s t ∧ SameAttached s t ∧ SameNodeQueues s t ∧ SameTables s t ∧ SameWindows s t ∧ SameHalter s t ∧ SameHar s t ∧ SameQueues s t ∧ SameArrivals s t ∧ SameLacing s t ∧ SameTree s t ∧ SameCurb s t ∧ SameConcho s t ∧ SameCores s t ∧ SameLocals s t ∧ SameBuckle s t ∧ SameHost s t ∧ SameFlags s t ∧ SameReports s t ∧ SameSbAll s t ∧ SameHostAll s t ∧ SameCoresAll s t ∧ SameGirthAll s t ∧ SameTablesAll s t ∧ SameHarAll s t ∧ SameChainAll s t ∧ SameDictPower s t

theorem Kept106.of {s t : State} (h : t.outside { pins := true, anyNum := true, ports := true, rxTiles := true, edges := true } = s.outside { pins := true, anyNum := true, ports := true, rxTiles := true, edges := true }) : Kept106 s t :=
  ⟨.of h rfl, .of h rfl, .of h rfl, .of h rfl, .of h rfl, .of h rfl, .of h rfl, .of h rfl, .of h rfl, .of h rfl, .of h rfl, .of h rfl, .of h rfl, .of h rfl, .of h rfl, .of h rfl, .of h rfl, .of h rfl, .of h rfl, .of h rfl, .of h rfl, .of h rfl, .of h rfl, .of h rfl, .of h rfl, .of h rfl, .of h rfl, .of h rfl, .of h rfl, .of h rfl, .of h rfl, .of h rfl, .of h rfl, .of h rfl, .of h rfl, .of h rfl, .of h rfl, .of h rfl, .of h rfl, .of h rfl, .of h rfl, .of h rfl, .of h rfl, .of h rfl rfl rfl rfl rfl, .of h rfl rfl rfl, .of h rfl rfl, .of h rfl rfl rfl rfl, .of h rfl rfl rfl, .of h rfl rfl rfl, .of h rfl rfl, .of h rfl rfl⟩

/-- Every part but these is kept: out, pins, dict, nums, results, logs, radio, ports, rxTiles, txTiles, recs, straps, journal, nodeQueues, lacing, edges, flags, reports. -/
abbrev Kept107 (s t : State) : Prop :=
  SamePending s t ∧ SameDraws s t ∧ SameIdent s t ∧ SameFuses s t ∧ SameClock s t ∧ SamePulses s t ∧ SameChain s t ∧ SameChainPorts s t ∧ SameDoms s t ∧ SamePower s t ∧ SameVbat s t ∧ SameGirth s t ∧ SameSched s t ∧ SameCinch s t ∧ SameKeeper s t ∧ SameSb s t ∧ SameAttached s t ∧ SameTables s t ∧ SameWindows s t ∧ SameHalter s t ∧ SameHar s t ∧ SameQueues s t ∧ SameArrivals s t ∧ SameTree s t ∧ SameCurb s t ∧ SameConcho s t ∧ SameCores s t ∧ SameLocals s t ∧ SameBuckle s t ∧ SameHost s t ∧ SameCoresAll s t ∧ SameTablesAll s t ∧ SameHarAll s t ∧ SameChainAll s t

theorem Kept107.of {s t : State} (h : t.outside { out := true, pins := true, dict := true, anyNum := true, results := true, logs := true, radio := true, ports := true, rxTiles := true, txTiles := true, recs := true, straps := true, journal := true, nodeQueues := true, lacing := true, edges := true, flags := true, reports := true } = s.outside { out := true, pins := true, dict := true, anyNum := true, results := true, logs := true, radio := true, ports := true, rxTiles := true, txTiles := true, recs := true, straps := true, journal := true, nodeQueues := true, lacing := true, edges := true, flags := true, reports := true }) : Kept107 s t :=
  ⟨.of h rfl, .of h rfl, .of h rfl, .of h rfl, .of h rfl, .of h rfl, .of h rfl, .of h rfl, .of h rfl, .of h rfl, .of h rfl, .of h rfl, .of h rfl, .of h rfl, .of h rfl, .of h rfl, .of h rfl, .of h rfl, .of h rfl, .of h rfl, .of h rfl, .of h rfl, .of h rfl, .of h rfl, .of h rfl, .of h rfl, .of h rfl, .of h rfl, .of h rfl, .of h rfl, .of h rfl rfl, .of h rfl rfl rfl, .of h rfl rfl rfl, .of h rfl rfl⟩

/-- Every part but these is kept: results, ports. -/
abbrev Kept108 (s t : State) : Prop :=
  SamePending s t ∧ SameDraws s t ∧ SameOut s t ∧ SameIdent s t ∧ SameFuses s t ∧ SamePins s t ∧ SameClock s t ∧ SamePulses s t ∧ SameChain s t ∧ SameChainPorts s t ∧ SameDict s t ∧ SameNums s t ∧ SameDoms s t ∧ SameLogs s t ∧ SamePower s t ∧ SameVbat s t ∧ SameRadio s t ∧ SameRxTiles s t ∧ SameTxTiles s t ∧ SameGirth s t ∧ SameRecs s t ∧ SameSched s t ∧ SameCinch s t ∧ SameKeeper s t ∧ SameSb s t ∧ SameStraps s t ∧ SameJournal s t ∧ SameAttached s t ∧ SameNodeQueues s t ∧ SameTables s t ∧ SameWindows s t ∧ SameHalter s t ∧ SameHar s t ∧ SameQueues s t ∧ SameArrivals s t ∧ SameLacing s t ∧ SameTree s t ∧ SameCurb s t ∧ SameConcho s t ∧ SameCores s t ∧ SameLocals s t ∧ SameBuckle s t ∧ SameEdges s t ∧ SameHost s t ∧ SameFlags s t ∧ SameReports s t ∧ SameSbAll s t ∧ SameBuckleAll s t ∧ SameHostAll s t ∧ SameCoresAll s t ∧ SameGirthAll s t ∧ SameTablesAll s t ∧ SameHarAll s t ∧ SameChainAll s t ∧ SamePowerRxTilesTxTiles s t ∧ SameDictPower s t ∧ SameDictNums s t

theorem Kept108.of {s t : State} (h : t.outside { results := true, ports := true } = s.outside { results := true, ports := true }) : Kept108 s t :=
  ⟨.of h rfl, .of h rfl, .of h rfl, .of h rfl, .of h rfl, .of h rfl, .of h rfl, .of h rfl, .of h rfl, .of h rfl, .of h rfl, .of h rfl, .of h rfl, .of h rfl, .of h rfl, .of h rfl, .of h rfl, .of h rfl, .of h rfl, .of h rfl, .of h rfl, .of h rfl, .of h rfl, .of h rfl, .of h rfl, .of h rfl, .of h rfl, .of h rfl, .of h rfl, .of h rfl, .of h rfl, .of h rfl, .of h rfl, .of h rfl, .of h rfl, .of h rfl, .of h rfl, .of h rfl, .of h rfl, .of h rfl, .of h rfl, .of h rfl, .of h rfl, .of h rfl, .of h rfl, .of h rfl, .of h rfl rfl rfl rfl rfl, .of h rfl rfl, .of h rfl rfl rfl, .of h rfl rfl, .of h rfl rfl rfl rfl, .of h rfl rfl rfl, .of h rfl rfl rfl, .of h rfl rfl, .of h rfl rfl rfl, .of h rfl rfl, .of h rfl rfl⟩

/-- Every part but these is kept: pins, dict, nums, results, logs, ports, rxTiles, straps, journal, edges, flags. -/
abbrev Kept109 (s t : State) : Prop :=
  SamePending s t ∧ SameDraws s t ∧ SameOut s t ∧ SameIdent s t ∧ SameFuses s t ∧ SameClock s t ∧ SamePulses s t ∧ SameChain s t ∧ SameChainPorts s t ∧ SameDoms s t ∧ SamePower s t ∧ SameVbat s t ∧ SameRadio s t ∧ SameTxTiles s t ∧ SameGirth s t ∧ SameRecs s t ∧ SameSched s t ∧ SameCinch s t ∧ SameKeeper s t ∧ SameSb s t ∧ SameAttached s t ∧ SameNodeQueues s t ∧ SameTables s t ∧ SameWindows s t ∧ SameHalter s t ∧ SameHar s t ∧ SameQueues s t ∧ SameArrivals s t ∧ SameLacing s t ∧ SameTree s t ∧ SameCurb s t ∧ SameConcho s t ∧ SameCores s t ∧ SameLocals s t ∧ SameBuckle s t ∧ SameHost s t ∧ SameReports s t ∧ SameCoresAll s t ∧ SameGirthAll s t ∧ SameTablesAll s t ∧ SameHarAll s t ∧ SameChainAll s t

theorem Kept109.of {s t : State} (h : t.outside { pins := true, dict := true, anyNum := true, results := true, logs := true, ports := true, rxTiles := true, straps := true, journal := true, edges := true, flags := true } = s.outside { pins := true, dict := true, anyNum := true, results := true, logs := true, ports := true, rxTiles := true, straps := true, journal := true, edges := true, flags := true }) : Kept109 s t :=
  ⟨.of h rfl, .of h rfl, .of h rfl, .of h rfl, .of h rfl, .of h rfl, .of h rfl, .of h rfl, .of h rfl, .of h rfl, .of h rfl, .of h rfl, .of h rfl, .of h rfl, .of h rfl, .of h rfl, .of h rfl, .of h rfl, .of h rfl, .of h rfl, .of h rfl, .of h rfl, .of h rfl, .of h rfl, .of h rfl, .of h rfl, .of h rfl, .of h rfl, .of h rfl, .of h rfl, .of h rfl, .of h rfl, .of h rfl, .of h rfl, .of h rfl, .of h rfl, .of h rfl, .of h rfl rfl, .of h rfl rfl rfl rfl, .of h rfl rfl rfl, .of h rfl rfl rfl, .of h rfl rfl⟩

/-- Every part but these is kept: pins, dict, nums, results, logs, ports, rxTiles, txTiles, straps, journal, edges, flags. -/
abbrev Kept110 (s t : State) : Prop :=
  SamePending s t ∧ SameDraws s t ∧ SameOut s t ∧ SameIdent s t ∧ SameFuses s t ∧ SameClock s t ∧ SamePulses s t ∧ SameChain s t ∧ SameChainPorts s t ∧ SameDoms s t ∧ SamePower s t ∧ SameVbat s t ∧ SameRadio s t ∧ SameGirth s t ∧ SameRecs s t ∧ SameSched s t ∧ SameCinch s t ∧ SameKeeper s t ∧ SameSb s t ∧ SameAttached s t ∧ SameNodeQueues s t ∧ SameTables s t ∧ SameWindows s t ∧ SameHalter s t ∧ SameHar s t ∧ SameQueues s t ∧ SameArrivals s t ∧ SameLacing s t ∧ SameTree s t ∧ SameCurb s t ∧ SameConcho s t ∧ SameCores s t ∧ SameLocals s t ∧ SameBuckle s t ∧ SameHost s t ∧ SameReports s t ∧ SameCoresAll s t ∧ SameGirthAll s t ∧ SameTablesAll s t ∧ SameHarAll s t ∧ SameChainAll s t

theorem Kept110.of {s t : State} (h : t.outside { pins := true, dict := true, anyNum := true, results := true, logs := true, ports := true, rxTiles := true, txTiles := true, straps := true, journal := true, edges := true, flags := true } = s.outside { pins := true, dict := true, anyNum := true, results := true, logs := true, ports := true, rxTiles := true, txTiles := true, straps := true, journal := true, edges := true, flags := true }) : Kept110 s t :=
  ⟨.of h rfl, .of h rfl, .of h rfl, .of h rfl, .of h rfl, .of h rfl, .of h rfl, .of h rfl, .of h rfl, .of h rfl, .of h rfl, .of h rfl, .of h rfl, .of h rfl, .of h rfl, .of h rfl, .of h rfl, .of h rfl, .of h rfl, .of h rfl, .of h rfl, .of h rfl, .of h rfl, .of h rfl, .of h rfl, .of h rfl, .of h rfl, .of h rfl, .of h rfl, .of h rfl, .of h rfl, .of h rfl, .of h rfl, .of h rfl, .of h rfl, .of h rfl, .of h rfl rfl, .of h rfl rfl rfl rfl, .of h rfl rfl rfl, .of h rfl rfl rfl, .of h rfl rfl⟩

/-- Every part but these is kept: ports, rxTiles. -/
abbrev Kept111 (s t : State) : Prop :=
  SamePending s t ∧ SameDraws s t ∧ SameOut s t ∧ SameIdent s t ∧ SameFuses s t ∧ SamePins s t ∧ SameClock s t ∧ SamePulses s t ∧ SameChain s t ∧ SameChainPorts s t ∧ SameDict s t ∧ SameNums s t ∧ SameDoms s t ∧ SameResults s t ∧ SameLogs s t ∧ SamePower s t ∧ SameVbat s t ∧ SameRadio s t ∧ SameTxTiles s t ∧ SameGirth s t ∧ SameRecs s t ∧ SameSched s t ∧ SameCinch s t ∧ SameKeeper s t ∧ SameSb s t ∧ SameStraps s t ∧ SameJournal s t ∧ SameAttached s t ∧ SameNodeQueues s t ∧ SameTables s t ∧ SameWindows s t ∧ SameHalter s t ∧ SameHar s t ∧ SameQueues s t ∧ SameArrivals s t ∧ SameLacing s t ∧ SameTree s t ∧ SameCurb s t ∧ SameConcho s t ∧ SameCores s t ∧ SameLocals s t ∧ SameBuckle s t ∧ SameEdges s t ∧ SameHost s t ∧ SameFlags s t ∧ SameReports s t ∧ SameDictAll s t ∧ SameSbAll s t ∧ SameBuckleAll s t ∧ SameHostAll s t ∧ SameCoresAll s t ∧ SameGirthAll s t ∧ SameTablesAll s t ∧ SameHarAll s t ∧ SameChainAll s t ∧ SameDictPower s t ∧ SameDictNums s t

theorem Kept111.of {s t : State} (h : t.outside { ports := true, rxTiles := true } = s.outside { ports := true, rxTiles := true }) : Kept111 s t :=
  ⟨.of h rfl, .of h rfl, .of h rfl, .of h rfl, .of h rfl, .of h rfl, .of h rfl, .of h rfl, .of h rfl, .of h rfl, .of h rfl, .of h rfl, .of h rfl, .of h rfl, .of h rfl, .of h rfl, .of h rfl, .of h rfl, .of h rfl, .of h rfl, .of h rfl, .of h rfl, .of h rfl, .of h rfl, .of h rfl, .of h rfl, .of h rfl, .of h rfl, .of h rfl, .of h rfl, .of h rfl, .of h rfl, .of h rfl, .of h rfl, .of h rfl, .of h rfl, .of h rfl, .of h rfl, .of h rfl, .of h rfl, .of h rfl, .of h rfl, .of h rfl, .of h rfl, .of h rfl, .of h rfl, .of h rfl rfl rfl rfl rfl, .of h rfl rfl rfl rfl rfl, .of h rfl rfl, .of h rfl rfl rfl, .of h rfl rfl, .of h rfl rfl rfl rfl, .of h rfl rfl rfl, .of h rfl rfl rfl, .of h rfl rfl, .of h rfl rfl, .of h rfl rfl⟩

/-- Every part but these is kept: dict, nums, doms, logs, ports, straps, journal, edges, flags. -/
abbrev Kept112 (s t : State) : Prop :=
  SamePending s t ∧ SameDraws s t ∧ SameOut s t ∧ SameIdent s t ∧ SameFuses s t ∧ SamePins s t ∧ SameClock s t ∧ SamePulses s t ∧ SameChain s t ∧ SameChainPorts s t ∧ SameResults s t ∧ SamePower s t ∧ SameVbat s t ∧ SameRadio s t ∧ SameRxTiles s t ∧ SameTxTiles s t ∧ SameGirth s t ∧ SameRecs s t ∧ SameSched s t ∧ SameCinch s t ∧ SameKeeper s t ∧ SameSb s t ∧ SameAttached s t ∧ SameNodeQueues s t ∧ SameTables s t ∧ SameWindows s t ∧ SameHalter s t ∧ SameHar s t ∧ SameQueues s t ∧ SameArrivals s t ∧ SameLacing s t ∧ SameTree s t ∧ SameCurb s t ∧ SameConcho s t ∧ SameCores s t ∧ SameLocals s t ∧ SameBuckle s t ∧ SameHost s t ∧ SameReports s t ∧ SameCoresAll s t ∧ SameGirthAll s t ∧ SameTablesAll s t ∧ SameHarAll s t ∧ SameChainAll s t ∧ SamePowerRxTilesTxTiles s t

theorem Kept112.of {s t : State} (h : t.outside { dict := true, anyNum := true, doms := true, logs := true, ports := true, straps := true, journal := true, edges := true, flags := true } = s.outside { dict := true, anyNum := true, doms := true, logs := true, ports := true, straps := true, journal := true, edges := true, flags := true }) : Kept112 s t :=
  ⟨.of h rfl, .of h rfl, .of h rfl, .of h rfl, .of h rfl, .of h rfl, .of h rfl, .of h rfl, .of h rfl, .of h rfl, .of h rfl, .of h rfl, .of h rfl, .of h rfl, .of h rfl, .of h rfl, .of h rfl, .of h rfl, .of h rfl, .of h rfl, .of h rfl, .of h rfl, .of h rfl, .of h rfl, .of h rfl, .of h rfl, .of h rfl, .of h rfl, .of h rfl, .of h rfl, .of h rfl, .of h rfl, .of h rfl, .of h rfl, .of h rfl, .of h rfl, .of h rfl, .of h rfl, .of h rfl, .of h rfl rfl, .of h rfl rfl rfl rfl, .of h rfl rfl rfl, .of h rfl rfl rfl, .of h rfl rfl, .of h rfl rfl rfl⟩

/-- Every part but these is kept: nums, results, power, rxTiles, txTiles, cores. -/
abbrev Kept113 (s t : State) : Prop :=
  SamePending s t ∧ SameDraws s t ∧ SameOut s t ∧ SameIdent s t ∧ SameFuses s t ∧ SamePins s t ∧ SameClock s t ∧ SamePulses s t ∧ SameChain s t ∧ SameChainPorts s t ∧ SameDict s t ∧ SameDoms s t ∧ SameLogs s t ∧ SameVbat s t ∧ SameRadio s t ∧ SamePorts s t ∧ SameGirth s t ∧ SameRecs s t ∧ SameSched s t ∧ SameCinch s t ∧ SameKeeper s t ∧ SameSb s t ∧ SameStraps s t ∧ SameJournal s t ∧ SameAttached s t ∧ SameNodeQueues s t ∧ SameTables s t ∧ SameWindows s t ∧ SameHalter s t ∧ SameHar s t ∧ SameQueues s t ∧ SameArrivals s t ∧ SameLacing s t ∧ SameTree s t ∧ SameCurb s t ∧ SameConcho s t ∧ SameLocals s t ∧ SameBuckle s t ∧ SameEdges s t ∧ SameHost s t ∧ SameFlags s t ∧ SameReports s t ∧ SameSbAll s t ∧ SameBuckleAll s t ∧ SameHostAll s t ∧ SameGirthAll s t ∧ SameTablesAll s t ∧ SameHarAll s t ∧ SameChainAll s t

theorem Kept113.of {s t : State} (h : t.outside { anyNum := true, results := true, power := true, rxTiles := true, txTiles := true, cores := true } = s.outside { anyNum := true, results := true, power := true, rxTiles := true, txTiles := true, cores := true }) : Kept113 s t :=
  ⟨.of h rfl, .of h rfl, .of h rfl, .of h rfl, .of h rfl, .of h rfl, .of h rfl, .of h rfl, .of h rfl, .of h rfl, .of h rfl, .of h rfl, .of h rfl, .of h rfl, .of h rfl, .of h rfl, .of h rfl, .of h rfl, .of h rfl, .of h rfl, .of h rfl, .of h rfl, .of h rfl, .of h rfl, .of h rfl, .of h rfl, .of h rfl, .of h rfl, .of h rfl, .of h rfl, .of h rfl, .of h rfl, .of h rfl, .of h rfl, .of h rfl, .of h rfl, .of h rfl, .of h rfl, .of h rfl, .of h rfl, .of h rfl, .of h rfl, .of h rfl rfl rfl rfl rfl, .of h rfl rfl, .of h rfl rfl rfl, .of h rfl rfl rfl rfl, .of h rfl rfl rfl, .of h rfl rfl rfl, .of h rfl rfl⟩

/-- Every part but these is kept: pins, dict, nums, logs, ports, rxTiles, straps, journal, edges, flags. -/
abbrev Kept114 (s t : State) : Prop :=
  SamePending s t ∧ SameDraws s t ∧ SameOut s t ∧ SameIdent s t ∧ SameFuses s t ∧ SameClock s t ∧ SamePulses s t ∧ SameChain s t ∧ SameChainPorts s t ∧ SameDoms s t ∧ SameResults s t ∧ SamePower s t ∧ SameVbat s t ∧ SameRadio s t ∧ SameTxTiles s t ∧ SameGirth s t ∧ SameRecs s t ∧ SameSched s t ∧ SameCinch s t ∧ SameKeeper s t ∧ SameSb s t ∧ SameAttached s t ∧ SameNodeQueues s t ∧ SameTables s t ∧ SameWindows s t ∧ SameHalter s t ∧ SameHar s t ∧ SameQueues s t ∧ SameArrivals s t ∧ SameLacing s t ∧ SameTree s t ∧ SameCurb s t ∧ SameConcho s t ∧ SameCores s t ∧ SameLocals s t ∧ SameBuckle s t ∧ SameHost s t ∧ SameReports s t ∧ SameCoresAll s t ∧ SameGirthAll s t ∧ SameTablesAll s t ∧ SameHarAll s t ∧ SameChainAll s t

theorem Kept114.of {s t : State} (h : t.outside { pins := true, dict := true, anyNum := true, logs := true, ports := true, rxTiles := true, straps := true, journal := true, edges := true, flags := true } = s.outside { pins := true, dict := true, anyNum := true, logs := true, ports := true, rxTiles := true, straps := true, journal := true, edges := true, flags := true }) : Kept114 s t :=
  ⟨.of h rfl, .of h rfl, .of h rfl, .of h rfl, .of h rfl, .of h rfl, .of h rfl, .of h rfl, .of h rfl, .of h rfl, .of h rfl, .of h rfl, .of h rfl, .of h rfl, .of h rfl, .of h rfl, .of h rfl, .of h rfl, .of h rfl, .of h rfl, .of h rfl, .of h rfl, .of h rfl, .of h rfl, .of h rfl, .of h rfl, .of h rfl, .of h rfl, .of h rfl, .of h rfl, .of h rfl, .of h rfl, .of h rfl, .of h rfl, .of h rfl, .of h rfl, .of h rfl, .of h rfl, .of h rfl rfl, .of h rfl rfl rfl rfl, .of h rfl rfl rfl, .of h rfl rfl rfl, .of h rfl rfl⟩

/-- Every part but these is kept: pins, dict, nums, results, logs, ports, rxTiles, txTiles, recs, cinch, straps, journal, nodeQueues, lacing, edges, flags, reports. -/
abbrev Kept115 (s t : State) : Prop :=
  SamePending s t ∧ SameDraws s t ∧ SameOut s t ∧ SameIdent s t ∧ SameFuses s t ∧ SameClock s t ∧ SamePulses s t ∧ SameChain s t ∧ SameChainPorts s t ∧ SameDoms s t ∧ SamePower s t ∧ SameVbat s t ∧ SameRadio s t ∧ SameGirth s t ∧ SameSched s t ∧ SameKeeper s t ∧ SameSb s t ∧ SameAttached s t ∧ SameTables s t ∧ SameWindows s t ∧ SameHalter s t ∧ SameHar s t ∧ SameQueues s t ∧ SameArrivals s t ∧ SameTree s t ∧ SameCurb s t ∧ SameConcho s t ∧ SameCores s t ∧ SameLocals s t ∧ SameBuckle s t ∧ SameHost s t ∧ SameCoresAll s t ∧ SameTablesAll s t ∧ SameHarAll s t ∧ SameChainAll s t

theorem Kept115.of {s t : State} (h : t.outside { pins := true, dict := true, anyNum := true, results := true, logs := true, ports := true, rxTiles := true, txTiles := true, recs := true, cinch := true, straps := true, journal := true, nodeQueues := true, lacing := true, edges := true, flags := true, reports := true } = s.outside { pins := true, dict := true, anyNum := true, results := true, logs := true, ports := true, rxTiles := true, txTiles := true, recs := true, cinch := true, straps := true, journal := true, nodeQueues := true, lacing := true, edges := true, flags := true, reports := true }) : Kept115 s t :=
  ⟨.of h rfl, .of h rfl, .of h rfl, .of h rfl, .of h rfl, .of h rfl, .of h rfl, .of h rfl, .of h rfl, .of h rfl, .of h rfl, .of h rfl, .of h rfl, .of h rfl, .of h rfl, .of h rfl, .of h rfl, .of h rfl, .of h rfl, .of h rfl, .of h rfl, .of h rfl, .of h rfl, .of h rfl, .of h rfl, .of h rfl, .of h rfl, .of h rfl, .of h rfl, .of h rfl, .of h rfl, .of h rfl rfl, .of h rfl rfl rfl, .of h rfl rfl rfl, .of h rfl rfl⟩

/-- Every part but these is kept: nums, recs, lacing, reports. -/
abbrev Kept116 (s t : State) : Prop :=
  SamePending s t ∧ SameDraws s t ∧ SameOut s t ∧ SameIdent s t ∧ SameFuses s t ∧ SamePins s t ∧ SameClock s t ∧ SamePulses s t ∧ SameChain s t ∧ SameChainPorts s t ∧ SameDict s t ∧ SameDoms s t ∧ SameResults s t ∧ SameLogs s t ∧ SamePower s t ∧ SameVbat s t ∧ SameRadio s t ∧ SamePorts s t ∧ SameRxTiles s t ∧ SameTxTiles s t ∧ SameGirth s t ∧ SameSched s t ∧ SameCinch s t ∧ SameKeeper s t ∧ SameSb s t ∧ SameStraps s t ∧ SameJournal s t ∧ SameAttached s t ∧ SameNodeQueues s t ∧ SameTables s t ∧ SameWindows s t ∧ SameHalter s t ∧ SameHar s t ∧ SameQueues s t ∧ SameArrivals s t ∧ SameTree s t ∧ SameCurb s t ∧ SameConcho s t ∧ SameCores s t ∧ SameLocals s t ∧ SameBuckle s t ∧ SameEdges s t ∧ SameHost s t ∧ SameFlags s t ∧ SameSbAll s t ∧ SameBuckleAll s t ∧ SameCoresAll s t ∧ SameTablesAll s t ∧ SameHarAll s t ∧ SameChainAll s t ∧ SameRadioAll s t ∧ SamePowerRxTilesTxTiles s t ∧ SameDictPower s t

theorem Kept116.of {s t : State} (h : t.outside { anyNum := true, recs := true, lacing := true, reports := true } = s.outside { anyNum := true, recs := true, lacing := true, reports := true }) : Kept116 s t :=
  ⟨.of h rfl, .of h rfl, .of h rfl, .of h rfl, .of h rfl, .of h rfl, .of h rfl, .of h rfl, .of h rfl, .of h rfl, .of h rfl, .of h rfl, .of h rfl, .of h rfl, .of h rfl, .of h rfl, .of h rfl, .of h rfl, .of h rfl, .of h rfl, .of h rfl, .of h rfl, .of h rfl, .of h rfl, .of h rfl, .of h rfl, .of h rfl, .of h rfl, .of h rfl, .of h rfl, .of h rfl, .of h rfl, .of h rfl, .of h rfl, .of h rfl, .of h rfl, .of h rfl, .of h rfl, .of h rfl, .of h rfl, .of h rfl, .of h rfl, .of h rfl, .of h rfl, .of h rfl rfl rfl rfl rfl, .of h rfl rfl, .of h rfl rfl, .of h rfl rfl rfl, .of h rfl rfl rfl, .of h rfl rfl, .of h rfl rfl rfl rfl, .of h rfl rfl rfl, .of h rfl rfl⟩

/-- Every part but these is kept: pins, dict, nums, results, logs, vbat, ports, rxTiles, txTiles, recs, cinch, keeper, straps, journal, nodeQueues, lacing, edges, flags, reports. -/
abbrev Kept117 (s t : State) : Prop :=
  SamePending s t ∧ SameDraws s t ∧ SameOut s t ∧ SameIdent s t ∧ SameFuses s t ∧ SameClock s t ∧ SamePulses s t ∧ SameChain s t ∧ SameChainPorts s t ∧ SameDoms s t ∧ SamePower s t ∧ SameRadio s t ∧ SameGirth s t ∧ SameSched s t ∧ SameSb s t ∧ SameAttached s t ∧ SameTables s t ∧ SameWindows s t ∧ SameHalter s t ∧ SameHar s t ∧ SameQueues s t ∧ SameArrivals s t ∧ SameTree s t ∧ SameCurb s t ∧ SameConcho s t ∧ SameCores s t ∧ SameLocals s t ∧ SameBuckle s t ∧ SameHost s t ∧ SameCoresAll s t ∧ SameTablesAll s t ∧ SameHarAll s t ∧ SameChainAll s t

theorem Kept117.of {s t : State} (h : t.outside { pins := true, dict := true, anyNum := true, results := true, logs := true, vbat := true, ports := true, rxTiles := true, txTiles := true, recs := true, cinch := true, keeper := true, straps := true, journal := true, nodeQueues := true, lacing := true, edges := true, flags := true, reports := true } = s.outside { pins := true, dict := true, anyNum := true, results := true, logs := true, vbat := true, ports := true, rxTiles := true, txTiles := true, recs := true, cinch := true, keeper := true, straps := true, journal := true, nodeQueues := true, lacing := true, edges := true, flags := true, reports := true }) : Kept117 s t :=
  ⟨.of h rfl, .of h rfl, .of h rfl, .of h rfl, .of h rfl, .of h rfl, .of h rfl, .of h rfl, .of h rfl, .of h rfl, .of h rfl, .of h rfl, .of h rfl, .of h rfl, .of h rfl, .of h rfl, .of h rfl, .of h rfl, .of h rfl, .of h rfl, .of h rfl, .of h rfl, .of h rfl, .of h rfl, .of h rfl, .of h rfl, .of h rfl, .of h rfl, .of h rfl, .of h rfl rfl, .of h rfl rfl rfl, .of h rfl rfl rfl, .of h rfl rfl⟩

/-- Every part but these is kept: draws, pins, dict, nums, results, logs, vbat, ports, rxTiles, txTiles, recs, cinch, keeper, straps, journal, nodeQueues, lacing, edges, flags, reports. -/
abbrev Kept118 (s t : State) : Prop :=
  SamePending s t ∧ SameOut s t ∧ SameIdent s t ∧ SameFuses s t ∧ SameClock s t ∧ SamePulses s t ∧ SameChain s t ∧ SameChainPorts s t ∧ SameDoms s t ∧ SamePower s t ∧ SameRadio s t ∧ SameGirth s t ∧ SameSched s t ∧ SameSb s t ∧ SameAttached s t ∧ SameTables s t ∧ SameWindows s t ∧ SameHalter s t ∧ SameHar s t ∧ SameQueues s t ∧ SameArrivals s t ∧ SameTree s t ∧ SameCurb s t ∧ SameConcho s t ∧ SameCores s t ∧ SameLocals s t ∧ SameBuckle s t ∧ SameHost s t ∧ SameCoresAll s t ∧ SameTablesAll s t ∧ SameHarAll s t ∧ SameChainAll s t

theorem Kept118.of {s t : State} (h : t.outside { draws := true, pins := true, dict := true, anyNum := true, results := true, logs := true, vbat := true, ports := true, rxTiles := true, txTiles := true, recs := true, cinch := true, keeper := true, straps := true, journal := true, nodeQueues := true, lacing := true, edges := true, flags := true, reports := true } = s.outside { draws := true, pins := true, dict := true, anyNum := true, results := true, logs := true, vbat := true, ports := true, rxTiles := true, txTiles := true, recs := true, cinch := true, keeper := true, straps := true, journal := true, nodeQueues := true, lacing := true, edges := true, flags := true, reports := true }) : Kept118 s t :=
  ⟨.of h rfl, .of h rfl, .of h rfl, .of h rfl, .of h rfl, .of h rfl, .of h rfl, .of h rfl, .of h rfl, .of h rfl, .of h rfl, .of h rfl, .of h rfl, .of h rfl, .of h rfl, .of h rfl, .of h rfl, .of h rfl, .of h rfl, .of h rfl, .of h rfl, .of h rfl, .of h rfl, .of h rfl, .of h rfl, .of h rfl, .of h rfl, .of h rfl, .of h rfl rfl, .of h rfl rfl rfl, .of h rfl rfl rfl, .of h rfl rfl⟩

/-- Every part but these is kept: arrivals. -/
abbrev Kept119 (s t : State) : Prop :=
  SamePending s t ∧ SameDraws s t ∧ SameOut s t ∧ SameIdent s t ∧ SameFuses s t ∧ SamePins s t ∧ SameClock s t ∧ SamePulses s t ∧ SameChain s t ∧ SameChainPorts s t ∧ SameDict s t ∧ SameNums s t ∧ SameDoms s t ∧ SameResults s t ∧ SameLogs s t ∧ SamePower s t ∧ SameVbat s t ∧ SameRadio s t ∧ SamePorts s t ∧ SameRxTiles s t ∧ SameTxTiles s t ∧ SameGirth s t ∧ SameRecs s t ∧ SameSched s t ∧ SameCinch s t ∧ SameKeeper s t ∧ SameSb s t ∧ SameStraps s t ∧ SameJournal s t ∧ SameAttached s t ∧ SameNodeQueues s t ∧ SameTables s t ∧ SameWindows s t ∧ SameHalter s t ∧ SameHar s t ∧ SameQueues s t ∧ SameLacing s t ∧ SameTree s t ∧ SameCurb s t ∧ SameConcho s t ∧ SameCores s t ∧ SameLocals s t ∧ SameBuckle s t ∧ SameEdges s t ∧ SameHost s t ∧ SameFlags s t ∧ SameReports s t ∧ SameDictAll s t ∧ SameSbAll s t ∧ SameBuckleAll s t ∧ SameHostAll s t ∧ SameCoresAll s t ∧ SameGirthAll s t ∧ SameTablesAll s t ∧ SameChainAll s t ∧ SameRadioAll s t ∧ SamePowerRxTilesTxTiles s t ∧ SameDictPower s t ∧ SameDictNums s t ∧ SameClockNumsPorts s t

theorem Kept119.of {s t : State} (h : t.outside { arrivals := true } = s.outside { arrivals := true }) : Kept119 s t :=
  ⟨.of h rfl, .of h rfl, .of h rfl, .of h rfl, .of h rfl, .of h rfl, .of h rfl, .of h rfl, .of h rfl, .of h rfl, .of h rfl, .of h rfl, .of h rfl, .of h rfl, .of h rfl, .of h rfl, .of h rfl, .of h rfl, .of h rfl, .of h rfl, .of h rfl, .of h rfl, .of h rfl, .of h rfl, .of h rfl, .of h rfl, .of h rfl, .of h rfl, .of h rfl, .of h rfl, .of h rfl, .of h rfl, .of h rfl, .of h rfl, .of h rfl, .of h rfl, .of h rfl, .of h rfl, .of h rfl, .of h rfl, .of h rfl, .of h rfl, .of h rfl, .of h rfl, .of h rfl, .of h rfl, .of h rfl, .of h rfl rfl rfl rfl rfl, .of h rfl rfl rfl rfl rfl, .of h rfl rfl, .of h rfl rfl rfl, .of h rfl rfl, .of h rfl rfl rfl rfl, .of h rfl rfl rfl, .of h rfl rfl, .of h rfl rfl rfl rfl, .of h rfl rfl rfl, .of h rfl rfl, .of h rfl rfl, .of h rfl rfl rfl⟩

/-- Every part but these is kept: draws, pins, dict, nums, results, logs, vbat, ports, rxTiles, txTiles, recs, cinch, keeper, straps, journal, nodeQueues, tables, halter, arrivals, lacing, edges, flags, reports. -/
abbrev Kept120 (s t : State) : Prop :=
  SamePending s t ∧ SameOut s t ∧ SameIdent s t ∧ SameFuses s t ∧ SameClock s t ∧ SamePulses s t ∧ SameChain s t ∧ SameChainPorts s t ∧ SameDoms s t ∧ SamePower s t ∧ SameRadio s t ∧ SameGirth s t ∧ SameSched s t ∧ SameSb s t ∧ SameAttached s t ∧ SameWindows s t ∧ SameHar s t ∧ SameQueues s t ∧ SameTree s t ∧ SameCurb s t ∧ SameConcho s t ∧ SameCores s t ∧ SameLocals s t ∧ SameBuckle s t ∧ SameHost s t ∧ SameCoresAll s t ∧ SameChainAll s t

theorem Kept120.of {s t : State} (h : t.outside { draws := true, pins := true, dict := true, anyNum := true, results := true, logs := true, vbat := true, ports := true, rxTiles := true, txTiles := true, recs := true, cinch := true, keeper := true, straps := true, journal := true, nodeQueues := true, tables := true, halter := true, arrivals := true, lacing := true, edges := true, flags := true, reports := true } = s.outside { draws := true, pins := true, dict := true, anyNum := true, results := true, logs := true, vbat := true, ports := true, rxTiles := true, txTiles := true, recs := true, cinch := true, keeper := true, straps := true, journal := true, nodeQueues := true, tables := true, halter := true, arrivals := true, lacing := true, edges := true, flags := true, reports := true }) : Kept120 s t :=
  ⟨.of h rfl, .of h rfl, .of h rfl, .of h rfl, .of h rfl, .of h rfl, .of h rfl, .of h rfl, .of h rfl, .of h rfl, .of h rfl, .of h rfl, .of h rfl, .of h rfl, .of h rfl, .of h rfl, .of h rfl, .of h rfl, .of h rfl, .of h rfl, .of h rfl, .of h rfl, .of h rfl, .of h rfl, .of h rfl, .of h rfl rfl, .of h rfl rfl⟩

/-- Every part but these is kept: results, radio, ports, rxTiles, txTiles. -/
abbrev Kept121 (s t : State) : Prop :=
  SamePending s t ∧ SameDraws s t ∧ SameOut s t ∧ SameIdent s t ∧ SameFuses s t ∧ SamePins s t ∧ SameClock s t ∧ SamePulses s t ∧ SameChain s t ∧ SameChainPorts s t ∧ SameDict s t ∧ SameNums s t ∧ SameDoms s t ∧ SameLogs s t ∧ SamePower s t ∧ SameVbat s t ∧ SameGirth s t ∧ SameRecs s t ∧ SameSched s t ∧ SameCinch s t ∧ SameKeeper s t ∧ SameSb s t ∧ SameStraps s t ∧ SameJournal s t ∧ SameAttached s t ∧ SameNodeQueues s t ∧ SameTables s t ∧ SameWindows s t ∧ SameHalter s t ∧ SameHar s t ∧ SameQueues s t ∧ SameArrivals s t ∧ SameLacing s t ∧ SameTree s t ∧ SameCurb s t ∧ SameConcho s t ∧ SameCores s t ∧ SameLocals s t ∧ SameBuckle s t ∧ SameEdges s t ∧ SameHost s t ∧ SameFlags s t ∧ SameReports s t ∧ SameSbAll s t ∧ SameBuckleAll s t ∧ SameHostAll s t ∧ SameCoresAll s t ∧ SameGirthAll s t ∧ SameTablesAll s t ∧ SameHarAll s t ∧ SameChainAll s t ∧ SameDictPower s t ∧ SameDictNums s t

theorem Kept121.of {s t : State} (h : t.outside { results := true, radio := true, ports := true, rxTiles := true, txTiles := true } = s.outside { results := true, radio := true, ports := true, rxTiles := true, txTiles := true }) : Kept121 s t :=
  ⟨.of h rfl, .of h rfl, .of h rfl, .of h rfl, .of h rfl, .of h rfl, .of h rfl, .of h rfl, .of h rfl, .of h rfl, .of h rfl, .of h rfl, .of h rfl, .of h rfl, .of h rfl, .of h rfl, .of h rfl, .of h rfl, .of h rfl, .of h rfl, .of h rfl, .of h rfl, .of h rfl, .of h rfl, .of h rfl, .of h rfl, .of h rfl, .of h rfl, .of h rfl, .of h rfl, .of h rfl, .of h rfl, .of h rfl, .of h rfl, .of h rfl, .of h rfl, .of h rfl, .of h rfl, .of h rfl, .of h rfl, .of h rfl, .of h rfl, .of h rfl, .of h rfl rfl rfl rfl rfl, .of h rfl rfl, .of h rfl rfl rfl, .of h rfl rfl, .of h rfl rfl rfl rfl, .of h rfl rfl rfl, .of h rfl rfl rfl, .of h rfl rfl, .of h rfl rfl, .of h rfl rfl⟩

/-- Every part but these is kept: results, radio, edges. -/
abbrev Kept122 (s t : State) : Prop :=
  SamePending s t ∧ SameDraws s t ∧ SameOut s t ∧ SameIdent s t ∧ SameFuses s t ∧ SamePins s t ∧ SameClock s t ∧ SamePulses s t ∧ SameChain s t ∧ SameChainPorts s t ∧ SameDict s t ∧ SameNums s t ∧ SameDoms s t ∧ SameLogs s t ∧ SamePower s t ∧ SameVbat s t ∧ SamePorts s t ∧ SameRxTiles s t ∧ SameTxTiles s t ∧ SameGirth s t ∧ SameRecs s t ∧ SameSched s t ∧ SameCinch s t ∧ SameKeeper s t ∧ SameSb s t ∧ SameStraps s t ∧ SameJournal s t ∧ SameAttached s t ∧ SameNodeQueues s t ∧ SameTables s t ∧ SameWindows s t ∧ SameHalter s t ∧ SameHar s t ∧ SameQueues s t ∧ SameArrivals s t ∧ SameLacing s t ∧ SameTree s t ∧ SameCurb s t ∧ SameConcho s t ∧ SameCores s t ∧ SameLocals s t ∧ SameBuckle s t ∧ SameHost s t ∧ SameFlags s t ∧ SameReports s t ∧ SameSbAll s t ∧ SameHostAll s t ∧ SameCoresAll s t ∧ SameGirthAll s t ∧ SameTablesAll s t ∧ SameHarAll s t ∧ SameChainAll s t ∧ SamePowerRxTilesTxTiles s t ∧ SameDictPower s t ∧ SameDictNums s t ∧ SameClockNumsPorts s t

theorem Kept122.of {s t : State} (h : t.outside { results := true, radio := true, edges := true } = s.outside { results := true, radio := true, edges := true }) : Kept122 s t :=
  ⟨.of h rfl, .of h rfl, .of h rfl, .of h rfl, .of h rfl, .of h rfl, .of h rfl, .of h rfl, .of h rfl, .of h rfl, .of h rfl, .of h rfl, .of h rfl, .of h rfl, .of h rfl, .of h rfl, .of h rfl, .of h rfl, .of h rfl, .of h rfl, .of h rfl, .of h rfl, .of h rfl, .of h rfl, .of h rfl, .of h rfl, .of h rfl, .of h rfl, .of h rfl, .of h rfl, .of h rfl, .of h rfl, .of h rfl, .of h rfl, .of h rfl, .of h rfl, .of h rfl, .of h rfl, .of h rfl, .of h rfl, .of h rfl, .of h rfl, .of h rfl, .of h rfl, .of h rfl, .of h rfl rfl rfl rfl rfl, .of h rfl rfl rfl, .of h rfl rfl, .of h rfl rfl rfl rfl, .of h rfl rfl rfl, .of h rfl rfl rfl, .of h rfl rfl, .of h rfl rfl rfl, .of h rfl rfl, .of h rfl rfl, .of h rfl rfl rfl⟩

/-- Every part but these is kept: dict, nums, results, logs, radio, straps, journal, edges, flags. -/
abbrev Kept123 (s t : State) : Prop :=
  SamePending s t ∧ SameDraws s t ∧ SameOut s t ∧ SameIdent s t ∧ SameFuses s t ∧ SamePins s t ∧ SameClock s t ∧ SamePulses s t ∧ SameChain s t ∧ SameChainPorts s t ∧ SameDoms s t ∧ SamePower s t ∧ SameVbat s t ∧ SamePorts s t ∧ SameRxTiles s t ∧ SameTxTiles s t ∧ SameGirth s t ∧ SameRecs s t ∧ SameSched s t ∧ SameCinch s t ∧ SameKeeper s t ∧ SameSb s t ∧ SameAttached s t ∧ SameNodeQueues s t ∧ SameTables s t ∧ SameWindows s t ∧ SameHalter s t ∧ SameHar s t ∧ SameQueues s t ∧ SameArrivals s t ∧ SameLacing s t ∧ SameTree s t ∧ SameCurb s t ∧ SameConcho s t ∧ SameCores s t ∧ SameLocals s t ∧ SameBuckle s t ∧ SameHost s t ∧ SameReports s t ∧ SameCoresAll s t ∧ SameGirthAll s t ∧ SameTablesAll s t ∧ SameHarAll s t ∧ SameChainAll s t ∧ SamePowerRxTilesTxTiles s t

theorem Kept123.of {s t : State} (h : t.outside { dict := true, anyNum := true, results := true, logs := true, radio := true, straps := true, journal := true, edges := true, flags := true } = s.outside { dict := true, anyNum := true, results := true, logs := true, radio := true, straps := true, journal := true, edges := true, flags := true }) : Kept123 s t :=
  ⟨.of h rfl, .of h rfl, .of h rfl, .of h rfl, .of h rfl, .of h rfl, .of h rfl, .of h rfl, .of h rfl, .of h rfl, .of h rfl, .of h rfl, .of h rfl, .of h rfl, .of h rfl, .of h rfl, .of h rfl, .of h rfl, .of h rfl, .of h rfl, .of h rfl, .of h rfl, .of h rfl, .of h rfl, .of h rfl, .of h rfl, .of h rfl, .of h rfl, .of h rfl, .of h rfl, .of h rfl, .of h rfl, .of h rfl, .of h rfl, .of h rfl, .of h rfl, .of h rfl, .of h rfl, .of h rfl, .of h rfl rfl, .of h rfl rfl rfl rfl, .of h rfl rfl rfl, .of h rfl rfl rfl, .of h rfl rfl, .of h rfl rfl rfl⟩

/-- Every part but these is kept: dict, nums, results, logs, radio, ports, straps, journal, edges, flags. -/
abbrev Kept124 (s t : State) : Prop :=
  SamePending s t ∧ SameDraws s t ∧ SameOut s t ∧ SameIdent s t ∧ SameFuses s t ∧ SamePins s t ∧ SameClock s t ∧ SamePulses s t ∧ SameChain s t ∧ SameChainPorts s t ∧ SameDoms s t ∧ SamePower s t ∧ SameVbat s t ∧ SameRxTiles s t ∧ SameTxTiles s t ∧ SameGirth s t ∧ SameRecs s t ∧ SameSched s t ∧ SameCinch s t ∧ SameKeeper s t ∧ SameSb s t ∧ SameAttached s t ∧ SameNodeQueues s t ∧ SameTables s t ∧ SameWindows s t ∧ SameHalter s t ∧ SameHar s t ∧ SameQueues s t ∧ SameArrivals s t ∧ SameLacing s t ∧ SameTree s t ∧ SameCurb s t ∧ SameConcho s t ∧ SameCores s t ∧ SameLocals s t ∧ SameBuckle s t ∧ SameHost s t ∧ SameReports s t ∧ SameCoresAll s t ∧ SameGirthAll s t ∧ SameTablesAll s t ∧ SameHarAll s t ∧ SameChainAll s t ∧ SamePowerRxTilesTxTiles s t

theorem Kept124.of {s t : State} (h : t.outside { dict := true, anyNum := true, results := true, logs := true, radio := true, ports := true, straps := true, journal := true, edges := true, flags := true } = s.outside { dict := true, anyNum := true, results := true, logs := true, radio := true, ports := true, straps := true, journal := true, edges := true, flags := true }) : Kept124 s t :=
  ⟨.of h rfl, .of h rfl, .of h rfl, .of h rfl, .of h rfl, .of h rfl, .of h rfl, .of h rfl, .of h rfl, .of h rfl, .of h rfl, .of h rfl, .of h rfl, .of h rfl, .of h rfl, .of h rfl, .of h rfl, .of h rfl, .of h rfl, .of h rfl, .of h rfl, .of h rfl, .of h rfl, .of h rfl, .of h rfl, .of h rfl, .of h rfl, .of h rfl, .of h rfl, .of h rfl, .of h rfl, .of h rfl, .of h rfl, .of h rfl, .of h rfl, .of h rfl, .of h rfl, .of h rfl, .of h rfl rfl, .of h rfl rfl rfl rfl, .of h rfl rfl rfl, .of h rfl rfl rfl, .of h rfl rfl, .of h rfl rfl rfl⟩

/-- Every part but these is kept: dict, nums, doms, logs, straps, journal, edges, flags. -/
abbrev Kept125 (s t : State) : Prop :=
  SamePending s t ∧ SameDraws s t ∧ SameOut s t ∧ SameIdent s t ∧ SameFuses s t ∧ SamePins s t ∧ SameClock s t ∧ SamePulses s t ∧ SameChain s t ∧ SameChainPorts s t ∧ SameResults s t ∧ SamePower s t ∧ SameVbat s t ∧ SameRadio s t ∧ SamePorts s t ∧ SameRxTiles s t ∧ SameTxTiles s t ∧ SameGirth s t ∧ SameRecs s t ∧ SameSched s t ∧ SameCinch s t ∧ SameKeeper s t ∧ SameSb s t ∧ SameAttached s t ∧ SameNodeQueues s t ∧ SameTables s t ∧ SameWindows s t ∧ SameHalter s t ∧ SameHar s t ∧ SameQueues s t ∧ SameArrivals s t ∧ SameLacing s t ∧ SameTree s t ∧ SameCurb s t ∧ SameConcho s t ∧ SameCores s t ∧ SameLocals s t ∧ SameBuckle s t ∧ SameHost s t ∧ SameReports s t ∧ SameCoresAll s t ∧ SameGirthAll s t ∧ SameTablesAll s t ∧ SameHarAll s t ∧ SameChainAll s t ∧ SameRadioAll s t ∧ SamePowerRxTilesTxTiles s t

theorem Kept125.of {s t : State} (h : t.outside { dict := true, anyNum := true, doms := true, logs := true, straps := true, journal := true, edges := true, flags := true } = s.outside { dict := true, anyNum := true, doms := true, logs := true, straps := true, journal := true, edges := true, flags := true }) : Kept125 s t :=
  ⟨.of h rfl, .of h rfl, .of h rfl, .of h rfl, .of h rfl, .of h rfl, .of h rfl, .of h rfl, .of h rfl, .of h rfl, .of h rfl, .of h rfl, .of h rfl, .of h rfl, .of h rfl, .of h rfl, .of h rfl, .of h rfl, .of h rfl, .of h rfl, .of h rfl, .of h rfl, .of h rfl, .of h rfl, .of h rfl, .of h rfl, .of h rfl, .of h rfl, .of h rfl, .of h rfl, .of h rfl, .of h rfl, .of h rfl, .of h rfl, .of h rfl, .of h rfl, .of h rfl, .of h rfl, .of h rfl, .of h rfl, .of h rfl rfl, .of h rfl rfl rfl rfl, .of h rfl rfl rfl, .of h rfl rfl rfl, .of h rfl rfl, .of h rfl rfl rfl rfl, .of h rfl rfl rfl⟩

/-- Every part but these is kept: fuses, radio. -/
abbrev Kept126 (s t : State) : Prop :=
  SamePending s t ∧ SameDraws s t ∧ SameOut s t ∧ SameIdent s t ∧ SamePins s t ∧ SameClock s t ∧ SamePulses s t ∧ SameChain s t ∧ SameChainPorts s t ∧ SameDict s t ∧ SameNums s t ∧ SameDoms s t ∧ SameResults s t ∧ SameLogs s t ∧ SamePower s t ∧ SameVbat s t ∧ SamePorts s t ∧ SameRxTiles s t ∧ SameTxTiles s t ∧ SameGirth s t ∧ SameRecs s t ∧ SameSched s t ∧ SameCinch s t ∧ SameKeeper s t ∧ SameSb s t ∧ SameStraps s t ∧ SameJournal s t ∧ SameAttached s t ∧ SameNodeQueues s t ∧ SameTables s t ∧ SameWindows s t ∧ SameHalter s t ∧ SameHar s t ∧ SameQueues s t ∧ SameArrivals s t ∧ SameLacing s t ∧ SameTree s t ∧ SameCurb s t ∧ SameConcho s t ∧ SameCores s t ∧ SameLocals s t ∧ SameBuckle s t ∧ SameEdges s t ∧ SameHost s t ∧ SameFlags s t ∧ SameReports s t ∧ SameDictAll s t ∧ SameSbAll s t ∧ SameBuckleAll s t ∧ SameHostAll s t ∧ SameCoresAll s t ∧ SameGirthAll s t ∧ SameTablesAll s t ∧ SameHarAll s t ∧ SameChainAll s t ∧ SamePowerRxTilesTxTiles s t ∧ SameDictPower s t ∧ SameDictNums s t ∧ SameClockNumsPorts s t

theorem Kept126.of {s t : State} (h : t.outside { fuses := true, radio := true } = s.outside { fuses := true, radio := true }) : Kept126 s t :=
  ⟨.of h rfl, .of h rfl, .of h rfl, .of h rfl, .of h rfl, .of h rfl, .of h rfl, .of h rfl, .of h rfl, .of h rfl, .of h rfl, .of h rfl, .of h rfl, .of h rfl, .of h rfl, .of h rfl, .of h rfl, .of h rfl, .of h rfl, .of h rfl, .of h rfl, .of h rfl, .of h rfl, .of h rfl, .of h rfl, .of h rfl, .of h rfl, .of h rfl, .of h rfl, .of h rfl, .of h rfl, .of h rfl, .of h rfl, .of h rfl, .of h rfl, .of h rfl, .of h rfl, .of h rfl, .of h rfl, .of h rfl, .of h rfl, .of h rfl, .of h rfl, .of h rfl, .of h rfl, .of h rfl, .of h rfl rfl rfl rfl rfl, .of h rfl rfl rfl rfl rfl, .of h rfl rfl, .of h rfl rfl rfl, .of h rfl rfl, .of h rfl rfl rfl rfl, .of h rfl rfl rfl, .of h rfl rfl rfl, .of h rfl rfl, .of h rfl rfl rfl, .of h rfl rfl, .of h rfl rfl, .of h rfl rfl rfl⟩

/-- Every part but these is kept: arrivals, lacing. -/
abbrev Kept127 (s t : State) : Prop :=
  SamePending s t ∧ SameDraws s t ∧ SameOut s t ∧ SameIdent s t ∧ SameFuses s t ∧ SamePins s t ∧ SameClock s t ∧ SamePulses s t ∧ SameChain s t ∧ SameChainPorts s t ∧ SameDict s t ∧ SameNums s t ∧ SameDoms s t ∧ SameResults s t ∧ SameLogs s t ∧ SamePower s t ∧ SameVbat s t ∧ SameRadio s t ∧ SamePorts s t ∧ SameRxTiles s t ∧ SameTxTiles s t ∧ SameGirth s t ∧ SameRecs s t ∧ SameSched s t ∧ SameCinch s t ∧ SameKeeper s t ∧ SameSb s t ∧ SameStraps s t ∧ SameJournal s t ∧ SameAttached s t ∧ SameNodeQueues s t ∧ SameTables s t ∧ SameWindows s t ∧ SameHalter s t ∧ SameHar s t ∧ SameQueues s t ∧ SameTree s t ∧ SameCurb s t ∧ SameConcho s t ∧ SameCores s t ∧ SameLocals s t ∧ SameBuckle s t ∧ SameEdges s t ∧ SameHost s t ∧ SameFlags s t ∧ SameReports s t ∧ SameDictAll s t ∧ SameSbAll s t ∧ SameBuckleAll s t ∧ SameHostAll s t ∧ SameCoresAll s t ∧ SameGirthAll s t ∧ SameTablesAll s t ∧ SameChainAll s t ∧ SameRadioAll s t ∧ SamePowerRxTilesTxTiles s t ∧ SameDictPower s t ∧ SameDictNums s t ∧ SameClockNumsPorts s t

theorem Kept127.of {s t : State} (h : t.outside { arrivals := true, lacing := true } = s.outside { arrivals := true, lacing := true }) : Kept127 s t :=
  ⟨.of h rfl, .of h rfl, .of h rfl, .of h rfl, .of h rfl, .of h rfl, .of h rfl, .of h rfl, .of h rfl, .of h rfl, .of h rfl, .of h rfl, .of h rfl, .of h rfl, .of h rfl, .of h rfl, .of h rfl, .of h rfl, .of h rfl, .of h rfl, .of h rfl, .of h rfl, .of h rfl, .of h rfl, .of h rfl, .of h rfl, .of h rfl, .of h rfl, .of h rfl, .of h rfl, .of h rfl, .of h rfl, .of h rfl, .of h rfl, .of h rfl, .of h rfl, .of h rfl, .of h rfl, .of h rfl, .of h rfl, .of h rfl, .of h rfl, .of h rfl, .of h rfl, .of h rfl, .of h rfl, .of h rfl rfl rfl rfl rfl, .of h rfl rfl rfl rfl rfl, .of h rfl rfl, .of h rfl rfl rfl, .of h rfl rfl, .of h rfl rfl rfl rfl, .of h rfl rfl rfl, .of h rfl rfl, .of h rfl rfl rfl rfl, .of h rfl rfl rfl, .of h rfl rfl, .of h rfl rfl, .of h rfl rfl rfl⟩

/-- Every part but these is kept: dict, nums, results, logs, straps, journal, arrivals, edges, flags. -/
abbrev Kept128 (s t : State) : Prop :=
  SamePending s t ∧ SameDraws s t ∧ SameOut s t ∧ SameIdent s t ∧ SameFuses s t ∧ SamePins s t ∧ SameClock s t ∧ SamePulses s t ∧ SameChain s t ∧ SameChainPorts s t ∧ SameDoms s t ∧ SamePower s t ∧ SameVbat s t ∧ SameRadio s t ∧ SamePorts s t ∧ SameRxTiles s t ∧ SameTxTiles s t ∧ SameGirth s t ∧ SameRecs s t ∧ SameSched s t ∧ SameCinch s t ∧ SameKeeper s t ∧ SameSb s t ∧ SameAttached s t ∧ SameNodeQueues s t ∧ SameTables s t ∧ SameWindows s t ∧ SameHalter s t ∧ SameHar s t ∧ SameQueues s t ∧ SameLacing s t ∧ SameTree s t ∧ SameCurb s t ∧ SameConcho s t ∧ SameCores s t ∧ SameLocals s t ∧ SameBuckle s t ∧ SameHost s t ∧ SameReports s t ∧ SameCoresAll s t ∧ SameGirthAll s t ∧ SameTablesAll s t ∧ SameChainAll s t ∧ SameRadioAll s t ∧ SamePowerRxTilesTxTiles s t

theorem Kept128.of {s t : State} (h : t.outside { dict := true, anyNum := true, results := true, logs := true, straps := true, journal := true, arrivals := true, edges := true, flags := true } = s.outside { dict := true, anyNum := true, results := true, logs := true, straps := true, journal := true, arrivals := true, edges := true, flags := true }) : Kept128 s t :=
  ⟨.of h rfl, .of h rfl, .of h rfl, .of h rfl, .of h rfl, .of h rfl, .of h rfl, .of h rfl, .of h rfl, .of h rfl, .of h rfl, .of h rfl, .of h rfl, .of h rfl, .of h rfl, .of h rfl, .of h rfl, .of h rfl, .of h rfl, .of h rfl, .of h rfl, .of h rfl, .of h rfl, .of h rfl, .of h rfl, .of h rfl, .of h rfl, .of h rfl, .of h rfl, .of h rfl, .of h rfl, .of h rfl, .of h rfl, .of h rfl, .of h rfl, .of h rfl, .of h rfl, .of h rfl, .of h rfl, .of h rfl rfl, .of h rfl rfl rfl rfl, .of h rfl rfl rfl, .of h rfl rfl, .of h rfl rfl rfl rfl, .of h rfl rfl rfl⟩

/-- Every part but these is kept: dict, nums, results, logs, straps, journal, lacing, edges, flags. -/
abbrev Kept129 (s t : State) : Prop :=
  SamePending s t ∧ SameDraws s t ∧ SameOut s t ∧ SameIdent s t ∧ SameFuses s t ∧ SamePins s t ∧ SameClock s t ∧ SamePulses s t ∧ SameChain s t ∧ SameChainPorts s t ∧ SameDoms s t ∧ SamePower s t ∧ SameVbat s t ∧ SameRadio s t ∧ SamePorts s t ∧ SameRxTiles s t ∧ SameTxTiles s t ∧ SameGirth s t ∧ SameRecs s t ∧ SameSched s t ∧ SameCinch s t ∧ SameKeeper s t ∧ SameSb s t ∧ SameAttached s t ∧ SameNodeQueues s t ∧ SameTables s t ∧ SameWindows s t ∧ SameHalter s t ∧ SameHar s t ∧ SameQueues s t ∧ SameArrivals s t ∧ SameTree s t ∧ SameCurb s t ∧ SameConcho s t ∧ SameCores s t ∧ SameLocals s t ∧ SameBuckle s t ∧ SameHost s t ∧ SameReports s t ∧ SameCoresAll s t ∧ SameGirthAll s t ∧ SameTablesAll s t ∧ SameHarAll s t ∧ SameChainAll s t ∧ SameRadioAll s t ∧ SamePowerRxTilesTxTiles s t

theorem Kept129.of {s t : State} (h : t.outside { dict := true, anyNum := true, results := true, logs := true, straps := true, journal := true, lacing := true, edges := true, flags := true } = s.outside { dict := true, anyNum := true, results := true, logs := true, straps := true, journal := true, lacing := true, edges := true, flags := true }) : Kept129 s t :=
  ⟨.of h rfl, .of h rfl, .of h rfl, .of h rfl, .of h rfl, .of h rfl, .of h rfl, .of h rfl, .of h rfl, .of h rfl, .of h rfl, .of h rfl, .of h rfl, .of h rfl, .of h rfl, .of h rfl, .of h rfl, .of h rfl, .of h rfl, .of h rfl, .of h rfl, .of h rfl, .of h rfl, .of h rfl, .of h rfl, .of h rfl, .of h rfl, .of h rfl, .of h rfl, .of h rfl, .of h rfl, .of h rfl, .of h rfl, .of h rfl, .of h rfl, .of h rfl, .of h rfl, .of h rfl, .of h rfl, .of h rfl rfl, .of h rfl rfl rfl rfl, .of h rfl rfl rfl, .of h rfl rfl rfl, .of h rfl rfl, .of h rfl rfl rfl rfl, .of h rfl rfl rfl⟩

/-- Every part but these is kept: nums, results, lacing, edges. -/
abbrev Kept130 (s t : State) : Prop :=
  SamePending s t ∧ SameDraws s t ∧ SameOut s t ∧ SameIdent s t ∧ SameFuses s t ∧ SamePins s t ∧ SameClock s t ∧ SamePulses s t ∧ SameChain s t ∧ SameChainPorts s t ∧ SameDict s t ∧ SameDoms s t ∧ SameLogs s t ∧ SamePower s t ∧ SameVbat s t ∧ SameRadio s t ∧ SamePorts s t ∧ SameRxTiles s t ∧ SameTxTiles s t ∧ SameGirth s t ∧ SameRecs s t ∧ SameSched s t ∧ SameCinch s t ∧ SameKeeper s t ∧ SameSb s t ∧ SameStraps s t ∧ SameJournal s t ∧ SameAttached s t ∧ SameNodeQueues s t ∧ SameTables s t ∧ SameWindows s t ∧ SameHalter s t ∧ SameHar s t ∧ SameQueues s t ∧ SameArrivals s t ∧ SameTree s t ∧ SameCurb s t ∧ SameConcho s t ∧ SameCores s t ∧ SameLocals s t ∧ SameBuckle s t ∧ SameHost s t ∧ SameFlags s t ∧ SameReports s t ∧ SameSbAll s t ∧ SameHostAll s t ∧ SameCoresAll s t ∧ SameGirthAll s t ∧ SameTablesAll s t ∧ SameHarAll s t ∧ SameChainAll s t ∧ SameRadioAll s t ∧ SamePowerRxTilesTxTiles s t ∧ SameDictPower s t

theorem Kept130.of {s t : State} (h : t.outside { anyNum := true, results := true, lacing := true, edges := true } = s.outside { anyNum := true, results := true, lacing := true, edges := true }) : Kept130 s t :=
  ⟨.of h rfl, .of h rfl, .of h rfl, .of h rfl, .of h rfl, .of h rfl, .of h rfl, .of h rfl, .of h rfl, .of h rfl, .of h rfl, .of h rfl, .of h rfl, .of h rfl, .of h rfl, .of h rfl, .of h rfl, .of h rfl, .of h rfl, .of h rfl, .of h rfl, .of h rfl, .of h rfl, .of h rfl, .of h rfl, .of h rfl, .of h rfl, .of h rfl, .of h rfl, .of h rfl, .of h rfl, .of h rfl, .of h rfl, .of h rfl, .of h rfl, .of h rfl, .of h rfl, .of h rfl, .of h rfl, .of h rfl, .of h rfl, .of h rfl, .of h rfl, .of h rfl, .of h rfl rfl rfl rfl rfl, .of h rfl rfl rfl, .of h rfl rfl, .of h rfl rfl rfl rfl, .of h rfl rfl rfl, .of h rfl rfl rfl, .of h rfl rfl, .of h rfl rfl rfl rfl, .of h rfl rfl rfl, .of h rfl rfl⟩

/-- Every part but these is kept: dict, nums, results, logs, straps, journal, arrivals, lacing, edges, flags. -/
abbrev Kept131 (s t : State) : Prop :=
  SamePending s t ∧ SameDraws s t ∧ SameOut s t ∧ SameIdent s t ∧ SameFuses s t ∧ SamePins s t ∧ SameClock s t ∧ SamePulses s t ∧ SameChain s t ∧ SameChainPorts s t ∧ SameDoms s t ∧ SamePower s t ∧ SameVbat s t ∧ SameRadio s t ∧ SamePorts s t ∧ SameRxTiles s t ∧ SameTxTiles s t ∧ SameGirth s t ∧ SameRecs s t ∧ SameSched s t ∧ SameCinch s t ∧ SameKeeper s t ∧ SameSb s t ∧ SameAttached s t ∧ SameNodeQueues s t ∧ SameTables s t ∧ SameWindows s t ∧ SameHalter s t ∧ SameHar s t ∧ SameQueues s t ∧ SameTree s t ∧ SameCurb s t ∧ SameConcho s t ∧ SameCores s t ∧ SameLocals s t ∧ SameBuckle s t ∧ SameHost s t ∧ SameReports s t ∧ SameCoresAll s t ∧ SameGirthAll s t ∧ SameTablesAll s t ∧ SameChainAll s t ∧ SameRadioAll s t ∧ SamePowerRxTilesTxTiles s t

theorem Kept131.of {s t : State} (h : t.outside { dict := true, anyNum := true, results := true, logs := true, straps := true, journal := true, arrivals := true, lacing := true, edges := true, flags := true } = s.outside { dict := true, anyNum := true, results := true, logs := true, straps := true, journal := true, arrivals := true, lacing := true, edges := true, flags := true }) : Kept131 s t :=
  ⟨.of h rfl, .of h rfl, .of h rfl, .of h rfl, .of h rfl, .of h rfl, .of h rfl, .of h rfl, .of h rfl, .of h rfl, .of h rfl, .of h rfl, .of h rfl, .of h rfl, .of h rfl, .of h rfl, .of h rfl, .of h rfl, .of h rfl, .of h rfl, .of h rfl, .of h rfl, .of h rfl, .of h rfl, .of h rfl, .of h rfl, .of h rfl, .of h rfl, .of h rfl, .of h rfl, .of h rfl, .of h rfl, .of h rfl, .of h rfl, .of h rfl, .of h rfl, .of h rfl, .of h rfl, .of h rfl rfl, .of h rfl rfl rfl rfl, .of h rfl rfl rfl, .of h rfl rfl, .of h rfl rfl rfl rfl, .of h rfl rfl rfl⟩

/-- Every part but these is kept: nums, lacing. -/
abbrev Kept132 (s t : State) : Prop :=
  SamePending s t ∧ SameDraws s t ∧ SameOut s t ∧ SameIdent s t ∧ SameFuses s t ∧ SamePins s t ∧ SameClock s t ∧ SamePulses s t ∧ SameChain s t ∧ SameChainPorts s t ∧ SameDict s t ∧ SameDoms s t ∧ SameResults s t ∧ SameLogs s t ∧ SamePower s t ∧ SameVbat s t ∧ SameRadio s t ∧ SamePorts s t ∧ SameRxTiles s t ∧ SameTxTiles s t ∧ SameGirth s t ∧ SameRecs s t ∧ SameSched s t ∧ SameCinch s t ∧ SameKeeper s t ∧ SameSb s t ∧ SameStraps s t ∧ SameJournal s t ∧ SameAttached s t ∧ SameNodeQueues s t ∧ SameTables s t ∧ SameWindows s t ∧ SameHalter s t ∧ SameHar s t ∧ SameQueues s t ∧ SameArrivals s t ∧ SameTree s t ∧ SameCurb s t ∧ SameConcho s t ∧ SameCores s t ∧ SameLocals s t ∧ SameBuckle s t ∧ SameEdges s t ∧ SameHost s t ∧ SameFlags s t ∧ SameReports s t ∧ SameSbAll s t ∧ SameBuckleAll s t ∧ SameHostAll s t ∧ SameCoresAll s t ∧ SameGirthAll s t ∧ SameTablesAll s t ∧ SameHarAll s t ∧ SameChainAll s t ∧ SameRadioAll s t ∧ SamePowerRxTilesTxTiles s t ∧ SameDictPower s t

theorem Kept132.of {s t : State} (h : t.outside { anyNum := true, lacing := true } = s.outside { anyNum := true, lacing := true }) : Kept132 s t :=
  ⟨.of h rfl, .of h rfl, .of h rfl, .of h rfl, .of h rfl, .of h rfl, .of h rfl, .of h rfl, .of h rfl, .of h rfl, .of h rfl, .of h rfl, .of h rfl, .of h rfl, .of h rfl, .of h rfl, .of h rfl, .of h rfl, .of h rfl, .of h rfl, .of h rfl, .of h rfl, .of h rfl, .of h rfl, .of h rfl, .of h rfl, .of h rfl, .of h rfl, .of h rfl, .of h rfl, .of h rfl, .of h rfl, .of h rfl, .of h rfl, .of h rfl, .of h rfl, .of h rfl, .of h rfl, .of h rfl, .of h rfl, .of h rfl, .of h rfl, .of h rfl, .of h rfl, .of h rfl, .of h rfl, .of h rfl rfl rfl rfl rfl, .of h rfl rfl, .of h rfl rfl rfl, .of h rfl rfl, .of h rfl rfl rfl rfl, .of h rfl rfl rfl, .of h rfl rfl rfl, .of h rfl rfl, .of h rfl rfl rfl rfl, .of h rfl rfl rfl, .of h rfl rfl⟩

/-- Every part but these is kept: draws, dict, nums, logs, cinch, straps, journal, lacing, edges, flags. -/
abbrev Kept133 (s t : State) : Prop :=
  SamePending s t ∧ SameOut s t ∧ SameIdent s t ∧ SameFuses s t ∧ SamePins s t ∧ SameClock s t ∧ SamePulses s t ∧ SameChain s t ∧ SameChainPorts s t ∧ SameDoms s t ∧ SameResults s t ∧ SamePower s t ∧ SameVbat s t ∧ SameRadio s t ∧ SamePorts s t ∧ SameRxTiles s t ∧ SameTxTiles s t ∧ SameGirth s t ∧ SameRecs s t ∧ SameSched s t ∧ SameKeeper s t ∧ SameSb s t ∧ SameAttached s t ∧ SameNodeQueues s t ∧ SameTables s t ∧ SameWindows s t ∧ SameHalter s t ∧ SameHar s t ∧ SameQueues s t ∧ SameArrivals s t ∧ SameTree s t ∧ SameCurb s t ∧ SameConcho s t ∧ SameCores s t ∧ SameLocals s t ∧ SameBuckle s t ∧ SameHost s t ∧ SameReports s t ∧ SameCoresAll s t ∧ SameTablesAll s t ∧ SameHarAll s t ∧ SameChainAll s t ∧ SameRadioAll s t ∧ SamePowerRxTilesTxTiles s t

theorem Kept133.of {s t : State} (h : t.outside { draws := true, dict := true, anyNum := true, logs := true, cinch := true, straps := true, journal := true, lacing := true, edges := true, flags := true } = s.outside { draws := true, dict := true, anyNum := true, logs := true, cinch := true, straps := true, journal := true, lacing := true, edges := true, flags := true }) : Kept133 s t :=
  ⟨.of h rfl, .of h rfl, .of h rfl, .of h rfl, .of h rfl, .of h rfl, .of h rfl, .of h rfl, .of h rfl, .of h rfl, .of h rfl, .of h rfl, .of h rfl, .of h rfl, .of h rfl, .of h rfl, .of h rfl, .of h rfl, .of h rfl, .of h rfl, .of h rfl, .of h rfl, .of h rfl, .of h rfl, .of h rfl, .of h rfl, .of h rfl, .of h rfl, .of h rfl, .of h rfl, .of h rfl, .of h rfl, .of h rfl, .of h rfl, .of h rfl, .of h rfl, .of h rfl, .of h rfl, .of h rfl rfl, .of h rfl rfl rfl, .of h rfl rfl rfl, .of h rfl rfl, .of h rfl rfl rfl rfl, .of h rfl rfl rfl⟩

/-- Every part but these is kept: dict, nums, logs, straps, journal, arrivals, lacing, edges, flags. -/
abbrev Kept134 (s t : State) : Prop :=
  SamePending s t ∧ SameDraws s t ∧ SameOut s t ∧ SameIdent s t ∧ SameFuses s t ∧ SamePins s t ∧ SameClock s t ∧ SamePulses s t ∧ SameChain s t ∧ SameChainPorts s t ∧ SameDoms s t ∧ SameResults s t ∧ SamePower s t ∧ SameVbat s t ∧ SameRadio s t ∧ SamePorts s t ∧ SameRxTiles s t ∧ SameTxTiles s t ∧ SameGirth s t ∧ SameRecs s t ∧ SameSched s t ∧ SameCinch s t ∧ SameKeeper s t ∧ SameSb s t ∧ SameAttached s t ∧ SameNodeQueues s t ∧ SameTables s t ∧ SameWindows s t ∧ SameHalter s t ∧ SameHar s t ∧ SameQueues s t ∧ SameTree s t ∧ SameCurb s t ∧ SameConcho s t ∧ SameCores s t ∧ SameLocals s t ∧ SameBuckle s t ∧ SameHost s t ∧ SameReports s t ∧ SameCoresAll s t ∧ SameGirthAll s t ∧ SameTablesAll s t ∧ SameChainAll s t ∧ SameRadioAll s t ∧ SamePowerRxTilesTxTiles s t

theorem Kept134.of {s t : State} (h : t.outside { dict := true, anyNum := true, logs := true, straps := true, journal := true, arrivals := true, lacing := true, edges := true, flags := true } = s.outside { dict := true, anyNum := true, logs := true, straps := true, journal := true, arrivals := true, lacing := true, edges := true, flags := true }) : Kept134 s t :=
  ⟨.of h rfl, .of h rfl, .of h rfl, .of h rfl, .of h rfl, .of h rfl, .of h rfl, .of h rfl, .of h rfl, .of h rfl, .of h rfl, .of h rfl, .of h rfl, .of h rfl, .of h rfl, .of h rfl, .of h rfl, .of h rfl, .of h rfl, .of h rfl, .of h rfl, .of h rfl, .of h rfl, .of h rfl, .of h rfl, .of h rfl, .of h rfl, .of h rfl, .of h rfl, .of h rfl, .of h rfl, .of h rfl, .of h rfl, .of h rfl, .of h rfl, .of h rfl, .of h rfl, .of h rfl, .of h rfl, .of h rfl rfl, .of h rfl rfl rfl rfl, .of h rfl rfl rfl, .of h rfl rfl, .of h rfl rfl rfl rfl, .of h rfl rfl rfl⟩

/-- Every part but these is kept: dict, nums, logs, recs, sched, straps, journal, nodeQueues, lacing, edges, flags, reports. -/
abbrev Kept135 (s t : State) : Prop :=
  SamePending s t ∧ SameDraws s t ∧ SameOut s t ∧ SameIdent s t ∧ SameFuses s t ∧ SamePins s t ∧ SameClock s t ∧ SamePulses s t ∧ SameChain s t ∧ SameChainPorts s t ∧ SameDoms s t ∧ SameResults s t ∧ SamePower s t ∧ SameVbat s t ∧ SameRadio s t ∧ SamePorts s t ∧ SameRxTiles s t ∧ SameTxTiles s t ∧ SameGirth s t ∧ SameCinch s t ∧ SameKeeper s t ∧ SameSb s t ∧ SameAttached s t ∧ SameTables s t ∧ SameWindows s t ∧ SameHalter s t ∧ SameHar s t ∧ SameQueues s t ∧ SameArrivals s t ∧ SameTree s t ∧ SameCurb s t ∧ SameConcho s t ∧ SameCores s t ∧ SameLocals s t ∧ SameBuckle s t ∧ SameHost s t ∧ SameCoresAll s t ∧ SameTablesAll s t ∧ SameHarAll s t ∧ SameChainAll s t ∧ SameRadioAll s t ∧ SamePowerRxTilesTxTiles s t

theorem Kept135.of {s t : State} (h : t.outside { dict := true, anyNum := true, logs := true, recs := true, sched := true, straps := true, journal := true, nodeQueues := true, lacing := true, edges := true, flags := true, reports := true } = s.outside { dict := true, anyNum := true, logs := true, recs := true, sched := true, straps := true, journal := true, nodeQueues := true, lacing := true, edges := true, flags := true, reports := true }) : Kept135 s t :=
  ⟨.of h rfl, .of h rfl, .of h rfl, .of h rfl, .of h rfl, .of h rfl, .of h rfl, .of h rfl, .of h rfl, .of h rfl, .of h rfl, .of h rfl, .of h rfl, .of h rfl, .of h rfl, .of h rfl, .of h rfl, .of h rfl, .of h rfl, .of h rfl, .of h rfl, .of h rfl, .of h rfl, .of h rfl, .of h rfl, .of h rfl, .of h rfl, .of h rfl, .of h rfl, .of h rfl, .of h rfl, .of h rfl, .of h rfl, .of h rfl, .of h rfl, .of h rfl, .of h rfl rfl, .of h rfl rfl rfl, .of h rfl rfl rfl, .of h rfl rfl, .of h rfl rfl rfl rfl, .of h rfl rfl rfl⟩

/-- Every part but these is kept: nums, sched, lacing. -/
abbrev Kept136 (s t : State) : Prop :=
  SamePending s t ∧ SameDraws s t ∧ SameOut s t ∧ SameIdent s t ∧ SameFuses s t ∧ SamePins s t ∧ SameClock s t ∧ SamePulses s t ∧ SameChain s t ∧ SameChainPorts s t ∧ SameDict s t ∧ SameDoms s t ∧ SameResults s t ∧ SameLogs s t ∧ SamePower s t ∧ SameVbat s t ∧ SameRadio s t ∧ SamePorts s t ∧ SameRxTiles s t ∧ SameTxTiles s t ∧ SameGirth s t ∧ SameRecs s t ∧ SameCinch s t ∧ SameKeeper s t ∧ SameSb s t ∧ SameStraps s t ∧ SameJournal s t ∧ SameAttached s t ∧ SameNodeQueues s t ∧ SameTables s t ∧ SameWindows s t ∧ SameHalter s t ∧ SameHar s t ∧ SameQueues s t ∧ SameArrivals s t ∧ SameTree s t ∧ SameCurb s t ∧ SameConcho s t ∧ SameCores s t ∧ SameLocals s t ∧ SameBuckle s t ∧ SameEdges s t ∧ SameHost s t ∧ SameFlags s t ∧ SameReports s t ∧ SameSbAll s t ∧ SameBuckleAll s t ∧ SameHostAll s t ∧ SameCoresAll s t ∧ SameTablesAll s t ∧ SameHarAll s t ∧ SameChainAll s t ∧ SameRadioAll s t ∧ SamePowerRxTilesTxTiles s t ∧ SameDictPower s t

theorem Kept136.of {s t : State} (h : t.outside { anyNum := true, sched := true, lacing := true } = s.outside { anyNum := true, sched := true, lacing := true }) : Kept136 s t :=
  ⟨.of h rfl, .of h rfl, .of h rfl, .of h rfl, .of h rfl, .of h rfl, .of h rfl, .of h rfl, .of h rfl, .of h rfl, .of h rfl, .of h rfl, .of h rfl, .of h rfl, .of h rfl, .of h rfl, .of h rfl, .of h rfl, .of h rfl, .of h rfl, .of h rfl, .of h rfl, .of h rfl, .of h rfl, .of h rfl, .of h rfl, .of h rfl, .of h rfl, .of h rfl, .of h rfl, .of h rfl, .of h rfl, .of h rfl, .of h rfl, .of h rfl, .of h rfl, .of h rfl, .of h rfl, .of h rfl, .of h rfl, .of h rfl, .of h rfl, .of h rfl, .of h rfl, .of h rfl, .of h rfl rfl rfl rfl rfl, .of h rfl rfl, .of h rfl rfl rfl, .of h rfl rfl, .of h rfl rfl rfl, .of h rfl rfl rfl, .of h rfl rfl, .of h rfl rfl rfl rfl, .of h rfl rfl rfl, .of h rfl rfl⟩

/-- Every part but these is kept: dict, nums, logs, recs, sched, straps, journal, arrivals, lacing, edges, flags. -/
abbrev Kept137 (s t : State) : Prop :=
  SamePending s t ∧ SameDraws s t ∧ SameOut s t ∧ SameIdent s t ∧ SameFuses s t ∧ SamePins s t ∧ SameClock s t ∧ SamePulses s t ∧ SameChain s t ∧ SameChainPorts s t ∧ SameDoms s t ∧ SameResults s t ∧ SamePower s t ∧ SameVbat s t ∧ SameRadio s t ∧ SamePorts s t ∧ SameRxTiles s t ∧ SameTxTiles s t ∧ SameGirth s t ∧ SameCinch s t ∧ SameKeeper s t ∧ SameSb s t ∧ SameAttached s t ∧ SameNodeQueues s t ∧ SameTables s t ∧ SameWindows s t ∧ SameHalter s t ∧ SameHar s t ∧ SameQueues s t ∧ SameTree s t ∧ SameCurb s t ∧ SameConcho s t ∧ SameCores s t ∧ SameLocals s t ∧ SameBuckle s t ∧ SameHost s t ∧ SameReports s t ∧ SameCoresAll s t ∧ SameTablesAll s t ∧ SameChainAll s t ∧ SameRadioAll s t ∧ SamePowerRxTilesTxTiles s t

theorem Kept137.of {s t : State} (h : t.outside { dict := true, anyNum := true, logs := true, recs := true, sched := true, straps := true, journal := true, arrivals := true, lacing := true, edges := true, flags := true } = s.outside { dict := true, anyNum := true, logs := true, recs := true, sched := true, straps := true, journal := true, arrivals := true, lacing := true, edges := true, flags := true }) : Kept137 s t :=
  ⟨.of h rfl, .of h rfl, .of h rfl, .of h rfl, .of h rfl, .of h rfl, .of h rfl, .of h rfl, .of h rfl, .of h rfl, .of h rfl, .of h rfl, .of h rfl, .of h rfl, .of h rfl, .of h rfl, .of h rfl, .of h rfl, .of h rfl, .of h rfl, .of h rfl, .of h rfl, .of h rfl, .of h rfl, .of h rfl, .of h rfl, .of h rfl, .of h rfl, .of h rfl, .of h rfl, .of h rfl, .of h rfl, .of h rfl, .of h rfl, .of h rfl, .of h rfl, .of h rfl, .of h rfl rfl, .of h rfl rfl rfl, .of h rfl rfl, .of h rfl rfl rfl rfl, .of h rfl rfl rfl⟩

/-- Every part but these is kept: dict, nums, logs, recs, sched, straps, journal, edges, flags. -/
abbrev Kept138 (s t : State) : Prop :=
  SamePending s t ∧ SameDraws s t ∧ SameOut s t ∧ SameIdent s t ∧ SameFuses s t ∧ SamePins s t ∧ SameClock s t ∧ SamePulses s t ∧ SameChain s t ∧ SameChainPorts s t ∧ SameDoms s t ∧ SameResults s t ∧ SamePower s t ∧ SameVbat s t ∧ SameRadio s t ∧ SamePorts s t ∧ SameRxTiles s t ∧ SameTxTiles s t ∧ SameGirth s t ∧ SameCinch s t ∧ SameKeeper s t ∧ SameSb s t ∧ SameAttached s t ∧ SameNodeQueues s t ∧ SameTables s t ∧ SameWindows s t ∧ SameHalter s t ∧ SameHar s t ∧ SameQueues s t ∧ SameArrivals s t ∧ SameLacing s t ∧ SameTree s t ∧ SameCurb s t ∧ SameConcho s t ∧ SameCores s t ∧ SameLocals s t ∧ SameBuckle s t ∧ SameHost s t ∧ SameReports s t ∧ SameCoresAll s t ∧ SameTablesAll s t ∧ SameHarAll s t ∧ SameChainAll s t ∧ SameRadioAll s t ∧ SamePowerRxTilesTxTiles s t

theorem Kept138.of {s t : State} (h : t.outside { dict := true, anyNum := true, logs := true, recs := true, sched := true, straps := true, journal := true, edges := true, flags := true } = s.outside { dict := true, anyNum := true, logs := true, recs := true, sched := true, straps := true, journal := true, edges := true, flags := true }) : Kept138 s t :=
  ⟨.of h rfl, .of h rfl, .of h rfl, .of h rfl, .of h rfl, .of h rfl, .of h rfl, .of h rfl, .of h rfl, .of h rfl, .of h rfl, .of h rfl, .of h rfl, .of h rfl, .of h rfl, .of h rfl, .of h rfl, .of h rfl, .of h rfl, .of h rfl, .of h rfl, .of h rfl, .of h rfl, .of h rfl, .of h rfl, .of h rfl, .of h rfl, .of h rfl, .of h rfl, .of h rfl, .of h rfl, .of h rfl, .of h rfl, .of h rfl, .of h rfl, .of h rfl, .of h rfl, .of h rfl, .of h rfl, .of h rfl rfl, .of h rfl rfl rfl, .of h rfl rfl rfl, .of h rfl rfl, .of h rfl rfl rfl rfl, .of h rfl rfl rfl⟩

/-- Every part but these is kept: nums, recs, sched, nodeQueues. -/
abbrev Kept139 (s t : State) : Prop :=
  SamePending s t ∧ SameDraws s t ∧ SameOut s t ∧ SameIdent s t ∧ SameFuses s t ∧ SamePins s t ∧ SameClock s t ∧ SamePulses s t ∧ SameChain s t ∧ SameChainPorts s t ∧ SameDict s t ∧ SameDoms s t ∧ SameResults s t ∧ SameLogs s t ∧ SamePower s t ∧ SameVbat s t ∧ SameRadio s t ∧ SamePorts s t ∧ SameRxTiles s t ∧ SameTxTiles s t ∧ SameGirth s t ∧ SameCinch s t ∧ SameKeeper s t ∧ SameSb s t ∧ SameStraps s t ∧ SameJournal s t ∧ SameAttached s t ∧ SameTables s t ∧ SameWindows s t ∧ SameHalter s t ∧ SameHar s t ∧ SameQueues s t ∧ SameArrivals s t ∧ SameLacing s t ∧ SameTree s t ∧ SameCurb s t ∧ SameConcho s t ∧ SameCores s t ∧ SameLocals s t ∧ SameBuckle s t ∧ SameEdges s t ∧ SameHost s t ∧ SameFlags s t ∧ SameReports s t ∧ SameBuckleAll s t ∧ SameHostAll s t ∧ SameCoresAll s t ∧ SameTablesAll s t ∧ SameHarAll s t ∧ SameChainAll s t ∧ SameRadioAll s t ∧ SamePowerRxTilesTxTiles s t ∧ SameDictPower s t

theorem Kept139.of {s t : State} (h : t.outside { anyNum := true, recs := true, sched := true, nodeQueues := true } = s.outside { anyNum := true, recs := true, sched := true, nodeQueues := true }) : Kept139 s t :=
  ⟨.of h rfl, .of h rfl, .of h rfl, .of h rfl, .of h rfl, .of h rfl, .of h rfl, .of h rfl, .of h rfl, .of h rfl, .of h rfl, .of h rfl, .of h rfl, .of h rfl, .of h rfl, .of h rfl, .of h rfl, .of h rfl, .of h rfl, .of h rfl, .of h rfl, .of h rfl, .of h rfl, .of h rfl, .of h rfl, .of h rfl, .of h rfl, .of h rfl, .of h rfl, .of h rfl, .of h rfl, .of h rfl, .of h rfl, .of h rfl, .of h rfl, .of h rfl, .of h rfl, .of h rfl, .of h rfl, .of h rfl, .of h rfl, .of h rfl, .of h rfl, .of h rfl, .of h rfl rfl, .of h rfl rfl rfl, .of h rfl rfl, .of h rfl rfl rfl, .of h rfl rfl rfl, .of h rfl rfl, .of h rfl rfl rfl rfl, .of h rfl rfl rfl, .of h rfl rfl⟩

/-- Every part but these is kept: pins, dict, nums, results, logs, vbat, ports, rxTiles, txTiles, recs, sched, cinch, keeper, straps, journal, nodeQueues, lacing, edges, flags, reports. -/
abbrev Kept140 (s t : State) : Prop :=
  SamePending s t ∧ SameDraws s t ∧ SameOut s t ∧ SameIdent s t ∧ SameFuses s t ∧ SameClock s t ∧ SamePulses s t ∧ SameChain s t ∧ SameChainPorts s t ∧ SameDoms s t ∧ SamePower s t ∧ SameRadio s t ∧ SameGirth s t ∧ SameSb s t ∧ SameAttached s t ∧ SameTables s t ∧ SameWindows s t ∧ SameHalter s t ∧ SameHar s t ∧ SameQueues s t ∧ SameArrivals s t ∧ SameTree s t ∧ SameCurb s t ∧ SameConcho s t ∧ SameCores s t ∧ SameLocals s t ∧ SameBuckle s t ∧ SameHost s t ∧ SameCoresAll s t ∧ SameTablesAll s t ∧ SameHarAll s t ∧ SameChainAll s t

theorem Kept140.of {s t : State} (h : t.outside { pins := true, dict := true, anyNum := true, results := true, logs := true, vbat := true, ports := true, rxTiles := true, txTiles := true, recs := true, sched := true, cinch := true, keeper := true, straps := true, journal := true, nodeQueues := true, lacing := true, edges := true, flags := true, reports := true } = s.outside { pins := true, dict := true, anyNum := true, results := true, logs := true, vbat := true, ports := true, rxTiles := true, txTiles := true, recs := true, sched := true, cinch := true, keeper := true, straps := true, journal := true, nodeQueues := true, lacing := true, edges := true, flags := true, reports := true }) : Kept140 s t :=
  ⟨.of h rfl, .of h rfl, .of h rfl, .of h rfl, .of h rfl, .of h rfl, .of h rfl, .of h rfl, .of h rfl, .of h rfl, .of h rfl, .of h rfl, .of h rfl, .of h rfl, .of h rfl, .of h rfl, .of h rfl, .of h rfl, .of h rfl, .of h rfl, .of h rfl, .of h rfl, .of h rfl, .of h rfl, .of h rfl, .of h rfl, .of h rfl, .of h rfl, .of h rfl rfl, .of h rfl rfl rfl, .of h rfl rfl rfl, .of h rfl rfl⟩

/-- Every part but these is kept: pins, dict, nums, results, logs, power, ports, rxTiles, straps, journal, edges, flags. -/
abbrev Kept141 (s t : State) : Prop :=
  SamePending s t ∧ SameDraws s t ∧ SameOut s t ∧ SameIdent s t ∧ SameFuses s t ∧ SameClock s t ∧ SamePulses s t ∧ SameChain s t ∧ SameChainPorts s t ∧ SameDoms s t ∧ SameVbat s t ∧ SameRadio s t ∧ SameTxTiles s t ∧ SameGirth s t ∧ SameRecs s t ∧ SameSched s t ∧ SameCinch s t ∧ SameKeeper s t ∧ SameSb s t ∧ SameAttached s t ∧ SameNodeQueues s t ∧ SameTables s t ∧ SameWindows s t ∧ SameHalter s t ∧ SameHar s t ∧ SameQueues s t ∧ SameArrivals s t ∧ SameLacing s t ∧ SameTree s t ∧ SameCurb s t ∧ SameConcho s t ∧ SameCores s t ∧ SameLocals s t ∧ SameBuckle s t ∧ SameHost s t ∧ SameReports s t ∧ SameCoresAll s t ∧ SameGirthAll s t ∧ SameTablesAll s t ∧ SameHarAll s t ∧ SameChainAll s t

theorem Kept141.of {s t : State} (h : t.outside { pins := true, dict := true, anyNum := true, results := true, logs := true, power := true, ports := true, rxTiles := true, straps := true, journal := true, edges := true, flags := true } = s.outside { pins := true, dict := true, anyNum := true, results := true, logs := true, power := true, ports := true, rxTiles := true, straps := true, journal := true, edges := true, flags := true }) : Kept141 s t :=
  ⟨.of h rfl, .of h rfl, .of h rfl, .of h rfl, .of h rfl, .of h rfl, .of h rfl, .of h rfl, .of h rfl, .of h rfl, .of h rfl, .of h rfl, .of h rfl, .of h rfl, .of h rfl, .of h rfl, .of h rfl, .of h rfl, .of h rfl, .of h rfl, .of h rfl, .of h rfl, .of h rfl, .of h rfl, .of h rfl, .of h rfl, .of h rfl, .of h rfl, .of h rfl, .of h rfl, .of h rfl, .of h rfl, .of h rfl, .of h rfl, .of h rfl, .of h rfl, .of h rfl rfl, .of h rfl rfl rfl rfl, .of h rfl rfl rfl, .of h rfl rfl rfl, .of h rfl rfl⟩

/-- Every part but these is kept: results, power. -/
abbrev Kept142 (s t : State) : Prop :=
  SamePending s t ∧ SameDraws s t ∧ SameOut s t ∧ SameIdent s t ∧ SameFuses s t ∧ SamePins s t ∧ SameClock s t ∧ SamePulses s t ∧ SameChain s t ∧ SameChainPorts s t ∧ SameDict s t ∧ SameNums s t ∧ SameDoms s t ∧ SameLogs s t ∧ SameVbat s t ∧ SameRadio s t ∧ SamePorts s t ∧ SameRxTiles s t ∧ SameTxTiles s t ∧ SameGirth s t ∧ SameRecs s t ∧ SameSched s t ∧ SameCinch s t ∧ SameKeeper s t ∧ SameSb s t ∧ SameStraps s t ∧ SameJournal s t ∧ SameAttached s t ∧ SameNodeQueues s t ∧ SameTables s t ∧ SameWindows s t ∧ SameHalter s t ∧ SameHar s t ∧ SameQueues s t ∧ SameArrivals s t ∧ SameLacing s t ∧ SameTree s t ∧ SameCurb s t ∧ SameConcho s t ∧ SameCores s t ∧ SameLocals s t ∧ SameBuckle s t ∧ SameEdges s t ∧ SameHost s t ∧ SameFlags s t ∧ SameReports s t ∧ SameSbAll s t ∧ SameBuckleAll s t ∧ SameHostAll s t ∧ SameCoresAll s t ∧ SameGirthAll s t ∧ SameTablesAll s t ∧ SameHarAll s t ∧ SameChainAll s t ∧ SameRadioAll s t ∧ SameDictNums s t ∧ SameClockNumsPorts s t

theorem Kept142.of {s t : State} (h : t.outside { results := true, power := true } = s.outside { results := true, power := true }) : Kept142 s t :=
  ⟨.of h rfl, .of h rfl, .of h rfl, .of h rfl, .of h rfl, .of h rfl, .of h rfl, .of h rfl, .of h rfl, .of h rfl, .of h rfl, .of h rfl, .of h rfl, .of h rfl, .of h rfl, .of h rfl, .of h rfl, .of h rfl, .of h rfl, .of h rfl, .of h rfl, .of h rfl, .of h rfl, .of h rfl, .of h rfl, .of h rfl, .of h rfl, .of h rfl, .of h rfl, .of h rfl, .of h rfl, .of h rfl, .of h rfl, .of h rfl, .of h rfl, .of h rfl, .of h rfl, .of h rfl, .of h rfl, .of h rfl, .of h rfl, .of h rfl, .of h rfl, .of h rfl, .of h rfl, .of h rfl, .of h rfl rfl rfl rfl rfl, .of h rfl rfl, .of h rfl rfl rfl, .of h rfl rfl, .of h rfl rfl rfl rfl, .of h rfl rfl rfl, .of h rfl rfl rfl, .of h rfl rfl, .of h rfl rfl rfl rfl, .of h rfl rfl, .of h rfl rfl rfl⟩

/-- Every part but these is kept: power, cores, locals. -/
abbrev Kept143 (s t : State) : Prop :=
  SamePending s t ∧ SameDraws s t ∧ SameOut s t ∧ SameIdent s t ∧ SameFuses s t ∧ SamePins s t ∧ SameClock s t ∧ SamePulses s t ∧ SameChain s t ∧ SameChainPorts s t ∧ SameDict s t ∧ SameNums s t ∧ SameDoms s t ∧ SameResults s t ∧ SameLogs s t ∧ SameVbat s t ∧ SameRadio s t ∧ SamePorts s t ∧ SameRxTiles s t ∧ SameTxTiles s t ∧ SameGirth s t ∧ SameRecs s t ∧ SameSched s t ∧ SameCinch s t ∧ SameKeeper s t ∧ SameSb s t ∧ SameStraps s t ∧ SameJournal s t ∧ SameAttached s t ∧ SameNodeQueues s t ∧ SameTables s t ∧ SameWindows s t ∧ SameHalter s t ∧ SameHar s t ∧ SameQueues s t ∧ SameArrivals s t ∧ SameLacing s t ∧ SameTree s t ∧ SameCurb s t ∧ SameConcho s t ∧ SameBuckle s t ∧ SameEdges s t ∧ SameHost s t ∧ SameFlags s t ∧ SameReports s t ∧ SameDictAll s t ∧ SameSbAll s t ∧ SameBuckleAll s t ∧ SameHostAll s t ∧ SameGirthAll s t ∧ SameTablesAll s t ∧ SameHarAll s t ∧ SameChainAll s t ∧ SameRadioAll s t ∧ SameDictNums s t ∧ SameClockNumsPorts s t

theorem Kept143.of {s t : State} (h : t.outside { power := true, cores := true, locals := true } = s.outside { power := true, cores := true, locals := true }) : Kept143 s t :=
  ⟨.of h rfl, .of h rfl, .of h rfl, .of h rfl, .of h rfl, .of h rfl, .of h rfl, .of h rfl, .of h rfl, .of h rfl, .of h rfl, .of h rfl, .of h rfl, .of h rfl, .of h rfl, .of h rfl, .of h rfl, .of h rfl, .of h rfl, .of h rfl, .of h rfl, .of h rfl, .of h rfl, .of h rfl, .of h rfl, .of h rfl, .of h rfl, .of h rfl, .of h rfl, .of h rfl, .of h rfl, .of h rfl, .of h rfl, .of h rfl, .of h rfl, .of h rfl, .of h rfl, .of h rfl, .of h rfl, .of h rfl, .of h rfl, .of h rfl, .of h rfl, .of h rfl, .of h rfl, .of h rfl rfl rfl rfl rfl, .of h rfl rfl rfl rfl rfl, .of h rfl rfl, .of h rfl rfl rfl, .of h rfl rfl rfl rfl, .of h rfl rfl rfl, .of h rfl rfl rfl, .of h rfl rfl, .of h rfl rfl rfl rfl, .of h rfl rfl, .of h rfl rfl rfl⟩

/-- Every part but these is kept: nums, queues, reports. -/
abbrev Kept144 (s t : State) : Prop :=
  SamePending s t ∧ SameDraws s t ∧ SameOut s t ∧ SameIdent s t ∧ SameFuses s t ∧ SamePins s t ∧ SameClock s t ∧ SamePulses s t ∧ SameChain s t ∧ SameChainPorts s t ∧ SameDict s t ∧ SameDoms s t ∧ SameResults s t ∧ SameLogs s t ∧ SamePower s t ∧ SameVbat s t ∧ SameRadio s t ∧ SamePorts s t ∧ SameRxTiles s t ∧ SameTxTiles s t ∧ SameGirth s t ∧ SameRecs s t ∧ SameSched s t ∧ SameCinch s t ∧ SameKeeper s t ∧ SameSb s t ∧ SameStraps s t ∧ SameJournal s t ∧ SameAttached s t ∧ SameNodeQueues s t ∧ SameTables s t ∧ SameWindows s t ∧ SameHalter s t ∧ SameHar s t ∧ SameArrivals s t ∧ SameLacing s t ∧ SameTree s t ∧ SameCurb s t ∧ SameConcho s t ∧ SameCores s t ∧ SameLocals s t ∧ SameBuckle s t ∧ SameEdges s t ∧ SameHost s t ∧ SameFlags s t ∧ SameSbAll s t ∧ SameBuckleAll s t ∧ SameCoresAll s t ∧ SameGirthAll s t ∧ SameTablesAll s t ∧ SameChainAll s t ∧ SameRadioAll s t ∧ SamePowerRxTilesTxTiles s t ∧ SameDictPower s t

theorem Kept144.of {s t : State} (h : t.outside { anyNum := true, queues := true, reports := true } = s.outside { anyNum := true, queues := true, reports := true }) : Kept144 s t :=
  ⟨.of h rfl, .of h rfl, .of h rfl, .of h rfl, .of h rfl, .of h rfl, .of h rfl, .of h rfl, .of h rfl, .of h rfl, .of h rfl, .of h rfl, .of h rfl, .of h rfl, .of h rfl, .of h rfl, .of h rfl, .of h rfl, .of h rfl, .of h rfl, .of h rfl, .of h rfl, .of h rfl, .of h rfl, .of h rfl, .of h rfl, .of h rfl, .of h rfl, .of h rfl, .of h rfl, .of h rfl, .of h rfl, .of h rfl, .of h rfl, .of h rfl, .of h rfl, .of h rfl, .of h rfl, .of h rfl, .of h rfl, .of h rfl, .of h rfl, .of h rfl, .of h rfl, .of h rfl, .of h rfl rfl rfl rfl rfl, .of h rfl rfl, .of h rfl rfl, .of h rfl rfl rfl rfl, .of h rfl rfl rfl, .of h rfl rfl, .of h rfl rfl rfl rfl, .of h rfl rfl rfl, .of h rfl rfl⟩

/-- Every part but these is kept: nums, power, sched, queues, cores, locals, reports. -/
abbrev Kept145 (s t : State) : Prop :=
  SamePending s t ∧ SameDraws s t ∧ SameOut s t ∧ SameIdent s t ∧ SameFuses s t ∧ SamePins s t ∧ SameClock s t ∧ SamePulses s t ∧ SameChain s t ∧ SameChainPorts s t ∧ SameDict s t ∧ SameDoms s t ∧ SameResults s t ∧ SameLogs s t ∧ SameVbat s t ∧ SameRadio s t ∧ SamePorts s t ∧ SameRxTiles s t ∧ SameTxTiles s t ∧ SameGirth s t ∧ SameRecs s t ∧ SameCinch s t ∧ SameKeeper s t ∧ SameSb s t ∧ SameStraps s t ∧ SameJournal s t ∧ SameAttached s t ∧ SameNodeQueues s t ∧ SameTables s t ∧ SameWindows s t ∧ SameHalter s t ∧ SameHar s t ∧ SameArrivals s t ∧ SameLacing s t ∧ SameTree s t ∧ SameCurb s t ∧ SameConcho s t ∧ SameBuckle s t ∧ SameEdges s t ∧ SameHost s t ∧ SameFlags s t ∧ SameSbAll s t ∧ SameBuckleAll s t ∧ SameTablesAll s t ∧ SameChainAll s t ∧ SameRadioAll s t

theorem Kept145.of {s t : State} (h : t.outside { anyNum := true, power := true, sched := true, queues := true, cores := true, locals := true, reports := true } = s.outside { anyNum := true, power := true, sched := true, queues := true, cores := true, locals := true, reports := true }) : Kept145 s t :=
  ⟨.of h rfl, .of h rfl, .of h rfl, .of h rfl, .of h rfl, .of h rfl, .of h rfl, .of h rfl, .of h rfl, .of h rfl, .of h rfl, .of h rfl, .of h rfl, .of h rfl, .of h rfl, .of h rfl, .of h rfl, .of h rfl, .of h rfl, .of h rfl, .of h rfl, .of h rfl, .of h rfl, .of h rfl, .of h rfl, .of h rfl, .of h rfl, .of h rfl, .of h rfl, .of h rfl, .of h rfl, .of h rfl, .of h rfl, .of h rfl, .of h rfl, .of h rfl, .of h rfl, .of h rfl, .of h rfl, .of h rfl, .of h rfl, .of h rfl rfl rfl rfl rfl, .of h rfl rfl, .of h rfl rfl rfl, .of h rfl rfl, .of h rfl rfl rfl rfl⟩

/-- Every part but these is kept: pins, dict, nums, results, logs, ports, rxTiles, txTiles, recs, sched, straps, journal, nodeQueues, lacing, edges, flags, reports. -/
abbrev Kept146 (s t : State) : Prop :=
  SamePending s t ∧ SameDraws s t ∧ SameOut s t ∧ SameIdent s t ∧ SameFuses s t ∧ SameClock s t ∧ SamePulses s t ∧ SameChain s t ∧ SameChainPorts s t ∧ SameDoms s t ∧ SamePower s t ∧ SameVbat s t ∧ SameRadio s t ∧ SameGirth s t ∧ SameCinch s t ∧ SameKeeper s t ∧ SameSb s t ∧ SameAttached s t ∧ SameTables s t ∧ SameWindows s t ∧ SameHalter s t ∧ SameHar s t ∧ SameQueues s t ∧ SameArrivals s t ∧ SameTree s t ∧ SameCurb s t ∧ SameConcho s t ∧ SameCores s t ∧ SameLocals s t ∧ SameBuckle s t ∧ SameHost s t ∧ SameCoresAll s t ∧ SameTablesAll s t ∧ SameHarAll s t ∧ SameChainAll s t

theorem Kept146.of {s t : State} (h : t.outside { pins := true, dict := true, anyNum := true, results := true, logs := true, ports := true, rxTiles := true, txTiles := true, recs := true, sched := true, straps := true, journal := true, nodeQueues := true, lacing := true, edges := true, flags := true, reports := true } = s.outside { pins := true, dict := true, anyNum := true, results := true, logs := true, ports := true, rxTiles := true, txTiles := true, recs := true, sched := true, straps := true, journal := true, nodeQueues := true, lacing := true, edges := true, flags := true, reports := true }) : Kept146 s t :=
  ⟨.of h rfl, .of h rfl, .of h rfl, .of h rfl, .of h rfl, .of h rfl, .of h rfl, .of h rfl, .of h rfl, .of h rfl, .of h rfl, .of h rfl, .of h rfl, .of h rfl, .of h rfl, .of h rfl, .of h rfl, .of h rfl, .of h rfl, .of h rfl, .of h rfl, .of h rfl, .of h rfl, .of h rfl, .of h rfl, .of h rfl, .of h rfl, .of h rfl, .of h rfl, .of h rfl, .of h rfl, .of h rfl rfl, .of h rfl rfl rfl, .of h rfl rfl rfl, .of h rfl rfl⟩

/-- Every part but these is kept: pins, dict, nums, results, logs, ports, rxTiles, txTiles, recs, sched, keeper, straps, journal, nodeQueues, lacing, edges, flags, reports. -/
abbrev Kept147 (s t : State) : Prop :=
  SamePending s t ∧ SameDraws s t ∧ SameOut s t ∧ SameIdent s t ∧ SameFuses s t ∧ SameClock s t ∧ SamePulses s t ∧ SameChain s t ∧ SameChainPorts s t ∧ SameDoms s t ∧ SamePower s t ∧ SameVbat s t ∧ SameRadio s t ∧ SameGirth s t ∧ SameCinch s t ∧ SameSb s t ∧ SameAttached s t ∧ SameTables s t ∧ SameWindows s t ∧ SameHalter s t ∧ SameHar s t ∧ SameQueues s t ∧ SameArrivals s t ∧ SameTree s t ∧ SameCurb s t ∧ SameConcho s t ∧ SameCores s t ∧ SameLocals s t ∧ SameBuckle s t ∧ SameHost s t ∧ SameCoresAll s t ∧ SameTablesAll s t ∧ SameHarAll s t ∧ SameChainAll s t

theorem Kept147.of {s t : State} (h : t.outside { pins := true, dict := true, anyNum := true, results := true, logs := true, ports := true, rxTiles := true, txTiles := true, recs := true, sched := true, keeper := true, straps := true, journal := true, nodeQueues := true, lacing := true, edges := true, flags := true, reports := true } = s.outside { pins := true, dict := true, anyNum := true, results := true, logs := true, ports := true, rxTiles := true, txTiles := true, recs := true, sched := true, keeper := true, straps := true, journal := true, nodeQueues := true, lacing := true, edges := true, flags := true, reports := true }) : Kept147 s t :=
  ⟨.of h rfl, .of h rfl, .of h rfl, .of h rfl, .of h rfl, .of h rfl, .of h rfl, .of h rfl, .of h rfl, .of h rfl, .of h rfl, .of h rfl, .of h rfl, .of h rfl, .of h rfl, .of h rfl, .of h rfl, .of h rfl, .of h rfl, .of h rfl, .of h rfl, .of h rfl, .of h rfl, .of h rfl, .of h rfl, .of h rfl, .of h rfl, .of h rfl, .of h rfl, .of h rfl, .of h rfl rfl, .of h rfl rfl rfl, .of h rfl rfl rfl, .of h rfl rfl⟩

/-- Every part but these is kept: concho. -/
abbrev Kept148 (s t : State) : Prop :=
  SamePending s t ∧ SameDraws s t ∧ SameOut s t ∧ SameIdent s t ∧ SameFuses s t ∧ SamePins s t ∧ SameClock s t ∧ SamePulses s t ∧ SameChain s t ∧ SameChainPorts s t ∧ SameDict s t ∧ SameNums s t ∧ SameDoms s t ∧ SameResults s t ∧ SameLogs s t ∧ SamePower s t ∧ SameVbat s t ∧ SameRadio s t ∧ SamePorts s t ∧ SameRxTiles s t ∧ SameTxTiles s t ∧ SameGirth s t ∧ SameRecs s t ∧ SameSched s t ∧ SameCinch s t ∧ SameKeeper s t ∧ SameSb s t ∧ SameStraps s t ∧ SameJournal s t ∧ SameAttached s t ∧ SameNodeQueues s t ∧ SameTables s t ∧ SameWindows s t ∧ SameHalter s t ∧ SameHar s t ∧ SameQueues s t ∧ SameArrivals s t ∧ SameLacing s t ∧ SameTree s t ∧ SameCurb s t ∧ SameCores s t ∧ SameLocals s t ∧ SameBuckle s t ∧ SameEdges s t ∧ SameHost s t ∧ SameFlags s t ∧ SameReports s t ∧ SameDictAll s t ∧ SameSbAll s t ∧ SameBuckleAll s t ∧ SameHostAll s t ∧ SameCoresAll s t ∧ SameGirthAll s t ∧ SameTablesAll s t ∧ SameHarAll s t ∧ SameChainAll s t ∧ SameRadioAll s t ∧ SamePowerRxTilesTxTiles s t ∧ SameDictPower s t ∧ SameDictNums s t ∧ SameClockNumsPorts s t

theorem Kept148.of {s t : State} (h : t.outside { concho := true } = s.outside { concho := true }) : Kept148 s t :=
  ⟨.of h rfl, .of h rfl, .of h rfl, .of h rfl, .of h rfl, .of h rfl, .of h rfl, .of h rfl, .of h rfl, .of h rfl, .of h rfl, .of h rfl, .of h rfl, .of h rfl, .of h rfl, .of h rfl, .of h rfl, .of h rfl, .of h rfl, .of h rfl, .of h rfl, .of h rfl, .of h rfl, .of h rfl, .of h rfl, .of h rfl, .of h rfl, .of h rfl, .of h rfl, .of h rfl, .of h rfl, .of h rfl, .of h rfl, .of h rfl, .of h rfl, .of h rfl, .of h rfl, .of h rfl, .of h rfl, .of h rfl, .of h rfl, .of h rfl, .of h rfl, .of h rfl, .of h rfl, .of h rfl, .of h rfl, .of h rfl rfl rfl rfl rfl, .of h rfl rfl rfl rfl rfl, .of h rfl rfl, .of h rfl rfl rfl, .of h rfl rfl, .of h rfl rfl rfl rfl, .of h rfl rfl rfl, .of h rfl rfl rfl, .of h rfl rfl, .of h rfl rfl rfl rfl, .of h rfl rfl rfl, .of h rfl rfl, .of h rfl rfl, .of h rfl rfl rfl⟩

/-- Every part but these is kept: nums, concho. -/
abbrev Kept149 (s t : State) : Prop :=
  SamePending s t ∧ SameDraws s t ∧ SameOut s t ∧ SameIdent s t ∧ SameFuses s t ∧ SamePins s t ∧ SameClock s t ∧ SamePulses s t ∧ SameChain s t ∧ SameChainPorts s t ∧ SameDict s t ∧ SameDoms s t ∧ SameResults s t ∧ SameLogs s t ∧ SamePower s t ∧ SameVbat s t ∧ SameRadio s t ∧ SamePorts s t ∧ SameRxTiles s t ∧ SameTxTiles s t ∧ SameGirth s t ∧ SameRecs s t ∧ SameSched s t ∧ SameCinch s t ∧ SameKeeper s t ∧ SameSb s t ∧ SameStraps s t ∧ SameJournal s t ∧ SameAttached s t ∧ SameNodeQueues s t ∧ SameTables s t ∧ SameWindows s t ∧ SameHalter s t ∧ SameHar s t ∧ SameQueues s t ∧ SameArrivals s t ∧ SameLacing s t ∧ SameTree s t ∧ SameCurb s t ∧ SameCores s t ∧ SameLocals s t ∧ SameBuckle s t ∧ SameEdges s t ∧ SameHost s t ∧ SameFlags s t ∧ SameReports s t ∧ SameSbAll s t ∧ SameBuckleAll s t ∧ SameHostAll s t ∧ SameCoresAll s t ∧ SameGirthAll s t ∧ SameTablesAll s t ∧ SameHarAll s t ∧ SameChainAll s t ∧ SameRadioAll s t ∧ SamePowerRxTilesTxTiles s t ∧ SameDictPower s t

theorem Kept149.of {s t : State} (h : t.outside { anyNum := true, concho := true } = s.outside { anyNum := true, concho := true }) : Kept149 s t :=
  ⟨.of h rfl, .of h rfl, .of h rfl, .of h rfl, .of h rfl, .of h rfl, .of h rfl, .of h rfl, .of h rfl, .of h rfl, .of h rfl, .of h rfl, .of h rfl, .of h rfl, .of h rfl, .of h rfl, .of h rfl, .of h rfl, .of h rfl, .of h rfl, .of h rfl, .of h rfl, .of h rfl, .of h rfl, .of h rfl, .of h rfl, .of h rfl, .of h rfl, .of h rfl, .of h rfl, .of h rfl, .of h rfl, .of h rfl, .of h rfl, .of h rfl, .of h rfl, .of h rfl, .of h rfl, .of h rfl, .of h rfl, .of h rfl, .of h rfl, .of h rfl, .of h rfl, .of h rfl, .of h rfl, .of h rfl rfl rfl rfl rfl, .of h rfl rfl, .of h rfl rfl rfl, .of h rfl rfl, .of h rfl rfl rfl rfl, .of h rfl rfl rfl, .of h rfl rfl rfl, .of h rfl rfl, .of h rfl rfl rfl rfl, .of h rfl rfl rfl, .of h rfl rfl⟩

/-- Every part but these is kept: dict, nums, doms, logs, straps, journal, concho, edges, flags. -/
abbrev Kept150 (s t : State) : Prop :=
  SamePending s t ∧ SameDraws s t ∧ SameOut s t ∧ SameIdent s t ∧ SameFuses s t ∧ SamePins s t ∧ SameClock s t ∧ SamePulses s t ∧ SameChain s t ∧ SameChainPorts s t ∧ SameResults s t ∧ SamePower s t ∧ SameVbat s t ∧ SameRadio s t ∧ SamePorts s t ∧ SameRxTiles s t ∧ SameTxTiles s t ∧ SameGirth s t ∧ SameRecs s t ∧ SameSched s t ∧ SameCinch s t ∧ SameKeeper s t ∧ SameSb s t ∧ SameAttached s t ∧ SameNodeQueues s t ∧ SameTables s t ∧ SameWindows s t ∧ SameHalter s t ∧ SameHar s t ∧ SameQueues s t ∧ SameArrivals s t ∧ SameLacing s t ∧ SameTree s t ∧ SameCurb s t ∧ SameCores s t ∧ SameLocals s t ∧ SameBuckle s t ∧ SameHost s t ∧ SameReports s t ∧ SameCoresAll s t ∧ SameGirthAll s t ∧ SameTablesAll s t ∧ SameHarAll s t ∧ SameChainAll s t ∧ SameRadioAll s t ∧ SamePowerRxTilesTxTiles s t

theorem Kept150.of {s t : State} (h : t.outside { dict := true, anyNum := true, doms := true, logs := true, straps := true, journal := true, concho := true, edges := true, flags := true } = s.outside { dict := true, anyNum := true, doms := true, logs := true, straps := true, journal := true, concho := true, edges := true, flags := true }) : Kept150 s t :=
  ⟨.of h rfl, .of h rfl, .of h rfl, .of h rfl, .of h rfl, .of h rfl, .of h rfl, .of h rfl, .of h rfl, .of h rfl, .of h rfl, .of h rfl, .of h rfl, .of h rfl, .of h rfl, .of h rfl, .of h rfl, .of h rfl, .of h rfl, .of h rfl, .of h rfl, .of h rfl, .of h rfl, .of h rfl, .of h rfl, .of h rfl, .of h rfl, .of h rfl, .of h rfl, .of h rfl, .of h rfl, .of h rfl, .of h rfl, .of h rfl, .of h rfl, .of h rfl, .of h rfl, .of h rfl, .of h rfl, .of h rfl rfl, .of h rfl rfl rfl rfl, .of h rfl rfl rfl, .of h rfl rfl rfl, .of h rfl rfl, .of h rfl rfl rfl rfl, .of h rfl rfl rfl⟩

/-- Every part but these is kept: draws, out, nums, concho. -/
abbrev Kept151 (s t : State) : Prop :=
  SamePending s t ∧ SameIdent s t ∧ SameFuses s t ∧ SamePins s t ∧ SameClock s t ∧ SamePulses s t ∧ SameChain s t ∧ SameChainPorts s t ∧ SameDict s t ∧ SameDoms s t ∧ SameResults s t ∧ SameLogs s t ∧ SamePower s t ∧ SameVbat s t ∧ SameRadio s t ∧ SamePorts s t ∧ SameRxTiles s t ∧ SameTxTiles s t ∧ SameGirth s t ∧ SameRecs s t ∧ SameSched s t ∧ SameCinch s t ∧ SameKeeper s t ∧ SameSb s t ∧ SameStraps s t ∧ SameJournal s t ∧ SameAttached s t ∧ SameNodeQueues s t ∧ SameTables s t ∧ SameWindows s t ∧ SameHalter s t ∧ SameHar s t ∧ SameQueues s t ∧ SameArrivals s t ∧ SameLacing s t ∧ SameTree s t ∧ SameCurb s t ∧ SameCores s t ∧ SameLocals s t ∧ SameBuckle s t ∧ SameEdges s t ∧ SameHost s t ∧ SameFlags s t ∧ SameReports s t ∧ SameSbAll s t ∧ SameBuckleAll s t ∧ SameHostAll s t ∧ SameCoresAll s t ∧ SameGirthAll s t ∧ SameTablesAll s t ∧ SameHarAll s t ∧ SameChainAll s t ∧ SameRadioAll s t ∧ SamePowerRxTilesTxTiles s t ∧ SameDictPower s t

theorem Kept151.of {s t : State} (h : t.outside { draws := true, out := true, anyNum := true, concho := true } = s.outside { draws := true, out := true, anyNum := true, concho := true }) : Kept151 s t :=
  ⟨.of h rfl, .of h rfl, .of h rfl, .of h rfl, .of h rfl, .of h rfl, .of h rfl, .of h rfl, .of h rfl, .of h rfl, .of h rfl, .of h rfl, .of h rfl, .of h rfl, .of h rfl, .of h rfl, .of h rfl, .of h rfl, .of h rfl, .of h rfl, .of h rfl, .of h rfl, .of h rfl, .of h rfl, .of h rfl, .of h rfl, .of h rfl, .of h rfl, .of h rfl, .of h rfl, .of h rfl, .of h rfl, .of h rfl, .of h rfl, .of h rfl, .of h rfl, .of h rfl, .of h rfl, .of h rfl, .of h rfl, .of h rfl, .of h rfl, .of h rfl, .of h rfl, .of h rfl rfl rfl rfl rfl, .of h rfl rfl, .of h rfl rfl rfl, .of h rfl rfl, .of h rfl rfl rfl rfl, .of h rfl rfl rfl, .of h rfl rfl rfl, .of h rfl rfl, .of h rfl rfl rfl rfl, .of h rfl rfl rfl, .of h rfl rfl⟩

/-- Every part but these is kept: draws, out, pins, nums, concho, edges. -/
abbrev Kept152 (s t : State) : Prop :=
  SamePending s t ∧ SameIdent s t ∧ SameFuses s t ∧ SameClock s t ∧ SamePulses s t ∧ SameChain s t ∧ SameChainPorts s t ∧ SameDict s t ∧ SameDoms s t ∧ SameResults s t ∧ SameLogs s t ∧ SamePower s t ∧ SameVbat s t ∧ SameRadio s t ∧ SamePorts s t ∧ SameRxTiles s t ∧ SameTxTiles s t ∧ SameGirth s t ∧ SameRecs s t ∧ SameSched s t ∧ SameCinch s t ∧ SameKeeper s t ∧ SameSb s t ∧ SameStraps s t ∧ SameJournal s t ∧ SameAttached s t ∧ SameNodeQueues s t ∧ SameTables s t ∧ SameWindows s t ∧ SameHalter s t ∧ SameHar s t ∧ SameQueues s t ∧ SameArrivals s t ∧ SameLacing s t ∧ SameTree s t ∧ SameCurb s t ∧ SameCores s t ∧ SameLocals s t ∧ SameBuckle s t ∧ SameHost s t ∧ SameFlags s t ∧ SameReports s t ∧ SameSbAll s t ∧ SameHostAll s t ∧ SameCoresAll s t ∧ SameGirthAll s t ∧ SameTablesAll s t ∧ SameHarAll s t ∧ SameChainAll s t ∧ SameRadioAll s t ∧ SamePowerRxTilesTxTiles s t ∧ SameDictPower s t

theorem Kept152.of {s t : State} (h : t.outside { draws := true, out := true, pins := true, anyNum := true, concho := true, edges := true } = s.outside { draws := true, out := true, pins := true, anyNum := true, concho := true, edges := true }) : Kept152 s t :=
  ⟨.of h rfl, .of h rfl, .of h rfl, .of h rfl, .of h rfl, .of h rfl, .of h rfl, .of h rfl, .of h rfl, .of h rfl, .of h rfl, .of h rfl, .of h rfl, .of h rfl, .of h rfl, .of h rfl, .of h rfl, .of h rfl, .of h rfl, .of h rfl, .of h rfl, .of h rfl, .of h rfl, .of h rfl, .of h rfl, .of h rfl, .of h rfl, .of h rfl, .of h rfl, .of h rfl, .of h rfl, .of h rfl, .of h rfl, .of h rfl, .of h rfl, .of h rfl, .of h rfl, .of h rfl, .of h rfl, .of h rfl, .of h rfl, .of h rfl, .of h rfl rfl rfl rfl rfl, .of h rfl rfl rfl, .of h rfl rfl, .of h rfl rfl rfl rfl, .of h rfl rfl rfl, .of h rfl rfl rfl, .of h rfl rfl, .of h rfl rfl rfl rfl, .of h rfl rfl rfl, .of h rfl rfl⟩

/-- Every part but these is kept: out, nums, concho. -/
abbrev Kept153 (s t : State) : Prop :=
  SamePending s t ∧ SameDraws s t ∧ SameIdent s t ∧ SameFuses s t ∧ SamePins s t ∧ SameClock s t ∧ SamePulses s t ∧ SameChain s t ∧ SameChainPorts s t ∧ SameDict s t ∧ SameDoms s t ∧ SameResults s t ∧ SameLogs s t ∧ SamePower s t ∧ SameVbat s t ∧ SameRadio s t ∧ SamePorts s t ∧ SameRxTiles s t ∧ SameTxTiles s t ∧ SameGirth s t ∧ SameRecs s t ∧ SameSched s t ∧ SameCinch s t ∧ SameKeeper s t ∧ SameSb s t ∧ SameStraps s t ∧ SameJournal s t ∧ SameAttached s t ∧ SameNodeQueues s t ∧ SameTables s t ∧ SameWindows s t ∧ SameHalter s t ∧ SameHar s t ∧ SameQueues s t ∧ SameArrivals s t ∧ SameLacing s t ∧ SameTree s t ∧ SameCurb s t ∧ SameCores s t ∧ SameLocals s t ∧ SameBuckle s t ∧ SameEdges s t ∧ SameHost s t ∧ SameFlags s t ∧ SameReports s t ∧ SameSbAll s t ∧ SameBuckleAll s t ∧ SameHostAll s t ∧ SameCoresAll s t ∧ SameGirthAll s t ∧ SameTablesAll s t ∧ SameHarAll s t ∧ SameChainAll s t ∧ SameRadioAll s t ∧ SamePowerRxTilesTxTiles s t ∧ SameDictPower s t

theorem Kept153.of {s t : State} (h : t.outside { out := true, anyNum := true, concho := true } = s.outside { out := true, anyNum := true, concho := true }) : Kept153 s t :=
  ⟨.of h rfl, .of h rfl, .of h rfl, .of h rfl, .of h rfl, .of h rfl, .of h rfl, .of h rfl, .of h rfl, .of h rfl, .of h rfl, .of h rfl, .of h rfl, .of h rfl, .of h rfl, .of h rfl, .of h rfl, .of h rfl, .of h rfl, .of h rfl, .of h rfl, .of h rfl, .of h rfl, .of h rfl, .of h rfl, .of h rfl, .of h rfl, .of h rfl, .of h rfl, .of h rfl, .of h rfl, .of h rfl, .of h rfl, .of h rfl, .of h rfl, .of h rfl, .of h rfl, .of h rfl, .of h rfl, .of h rfl, .of h rfl, .of h rfl, .of h rfl, .of h rfl, .of h rfl, .of h rfl rfl rfl rfl rfl, .of h rfl rfl, .of h rfl rfl rfl, .of h rfl rfl, .of h rfl rfl rfl rfl, .of h rfl rfl rfl, .of h rfl rfl rfl, .of h rfl rfl, .of h rfl rfl rfl rfl, .of h rfl rfl rfl, .of h rfl rfl⟩

/-- Every part but these is kept: out, dict, nums, logs, straps, journal, concho, edges, flags. -/
abbrev Kept154 (s t : State) : Prop :=
  SamePending s t ∧ SameDraws s t ∧ SameIdent s t ∧ SameFuses s t ∧ SamePins s t ∧ SameClock s t ∧ SamePulses s t ∧ SameChain s t ∧ SameChainPorts s t ∧ SameDoms s t ∧ SameResults s t ∧ SamePower s t ∧ SameVbat s t ∧ SameRadio s t ∧ SamePorts s t ∧ SameRxTiles s t ∧ SameTxTiles s t ∧ SameGirth s t ∧ SameRecs s t ∧ SameSched s t ∧ SameCinch s t ∧ SameKeeper s t ∧ SameSb s t ∧ SameAttached s t ∧ SameNodeQueues s t ∧ SameTables s t ∧ SameWindows s t ∧ SameHalter s t ∧ SameHar s t ∧ SameQueues s t ∧ SameArrivals s t ∧ SameLacing s t ∧ SameTree s t ∧ SameCurb s t ∧ SameCores s t ∧ SameLocals s t ∧ SameBuckle s t ∧ SameHost s t ∧ SameReports s t ∧ SameCoresAll s t ∧ SameGirthAll s t ∧ SameTablesAll s t ∧ SameHarAll s t ∧ SameChainAll s t ∧ SameRadioAll s t ∧ SamePowerRxTilesTxTiles s t

theorem Kept154.of {s t : State} (h : t.outside { out := true, dict := true, anyNum := true, logs := true, straps := true, journal := true, concho := true, edges := true, flags := true } = s.outside { out := true, dict := true, anyNum := true, logs := true, straps := true, journal := true, concho := true, edges := true, flags := true }) : Kept154 s t :=
  ⟨.of h rfl, .of h rfl, .of h rfl, .of h rfl, .of h rfl, .of h rfl, .of h rfl, .of h rfl, .of h rfl, .of h rfl, .of h rfl, .of h rfl, .of h rfl, .of h rfl, .of h rfl, .of h rfl, .of h rfl, .of h rfl, .of h rfl, .of h rfl, .of h rfl, .of h rfl, .of h rfl, .of h rfl, .of h rfl, .of h rfl, .of h rfl, .of h rfl, .of h rfl, .of h rfl, .of h rfl, .of h rfl, .of h rfl, .of h rfl, .of h rfl, .of h rfl, .of h rfl, .of h rfl, .of h rfl, .of h rfl rfl, .of h rfl rfl rfl rfl, .of h rfl rfl rfl, .of h rfl rfl rfl, .of h rfl rfl, .of h rfl rfl rfl rfl, .of h rfl rfl rfl⟩

/-- Every part but these is kept: out, dict, nums, doms, logs, straps, journal, concho, edges, flags. -/
abbrev Kept155 (s t : State) : Prop :=
  SamePending s t ∧ SameDraws s t ∧ SameIdent s t ∧ SameFuses s t ∧ SamePins s t ∧ SameClock s t ∧ SamePulses s t ∧ SameChain s t ∧ SameChainPorts s t ∧ SameResults s t ∧ SamePower s t ∧ SameVbat s t ∧ SameRadio s t ∧ SamePorts s t ∧ SameRxTiles s t ∧ SameTxTiles s t ∧ SameGirth s t ∧ SameRecs s t ∧ SameSched s t ∧ SameCinch s t ∧ SameKeeper s t ∧ SameSb s t ∧ SameAttached s t ∧ SameNodeQueues s t ∧ SameTables s t ∧ SameWindows s t ∧ SameHalter s t ∧ SameHar s t ∧ SameQueues s t ∧ SameArrivals s t ∧ SameLacing s t ∧ SameTree s t ∧ SameCurb s t ∧ SameCores s t ∧ SameLocals s t ∧ SameBuckle s t ∧ SameHost s t ∧ SameReports s t ∧ SameCoresAll s t ∧ SameGirthAll s t ∧ SameTablesAll s t ∧ SameHarAll s t ∧ SameChainAll s t ∧ SameRadioAll s t ∧ SamePowerRxTilesTxTiles s t

theorem Kept155.of {s t : State} (h : t.outside { out := true, dict := true, anyNum := true, doms := true, logs := true, straps := true, journal := true, concho := true, edges := true, flags := true } = s.outside { out := true, dict := true, anyNum := true, doms := true, logs := true, straps := true, journal := true, concho := true, edges := true, flags := true }) : Kept155 s t :=
  ⟨.of h rfl, .of h rfl, .of h rfl, .of h rfl, .of h rfl, .of h rfl, .of h rfl, .of h rfl, .of h rfl, .of h rfl, .of h rfl, .of h rfl, .of h rfl, .of h rfl, .of h rfl, .of h rfl, .of h rfl, .of h rfl, .of h rfl, .of h rfl, .of h rfl, .of h rfl, .of h rfl, .of h rfl, .of h rfl, .of h rfl, .of h rfl, .of h rfl, .of h rfl, .of h rfl, .of h rfl, .of h rfl, .of h rfl, .of h rfl, .of h rfl, .of h rfl, .of h rfl, .of h rfl, .of h rfl rfl, .of h rfl rfl rfl rfl, .of h rfl rfl rfl, .of h rfl rfl rfl, .of h rfl rfl, .of h rfl rfl rfl rfl, .of h rfl rfl rfl⟩

/-- Every part but these is kept: clock. -/
abbrev Kept156 (s t : State) : Prop :=
  SamePending s t ∧ SameDraws s t ∧ SameOut s t ∧ SameIdent s t ∧ SameFuses s t ∧ SamePins s t ∧ SamePulses s t ∧ SameChain s t ∧ SameChainPorts s t ∧ SameDict s t ∧ SameNums s t ∧ SameDoms s t ∧ SameResults s t ∧ SameLogs s t ∧ SamePower s t ∧ SameVbat s t ∧ SameRadio s t ∧ SamePorts s t ∧ SameRxTiles s t ∧ SameTxTiles s t ∧ SameGirth s t ∧ SameRecs s t ∧ SameSched s t ∧ SameCinch s t ∧ SameKeeper s t ∧ SameSb s t ∧ SameStraps s t ∧ SameJournal s t ∧ SameAttached s t ∧ SameNodeQueues s t ∧ SameTables s t ∧ SameWindows s t ∧ SameHalter s t ∧ SameHar s t ∧ SameQueues s t ∧ SameArrivals s t ∧ SameLacing s t ∧ SameTree s t ∧ SameCurb s t ∧ SameConcho s t ∧ SameCores s t ∧ SameLocals s t ∧ SameBuckle s t ∧ SameEdges s t ∧ SameHost s t ∧ SameFlags s t ∧ SameReports s t ∧ SameDictAll s t ∧ SameSbAll s t ∧ SameBuckleAll s t ∧ SameHostAll s t ∧ SameCoresAll s t ∧ SameGirthAll s t ∧ SameTablesAll s t ∧ SameHarAll s t ∧ SameChainAll s t ∧ SameRadioAll s t ∧ SamePowerRxTilesTxTiles s t ∧ SameDictPower s t ∧ SameDictNums s t

theorem Kept156.of {s t : State} (h : t.outside { clock := true } = s.outside { clock := true }) : Kept156 s t :=
  ⟨.of h rfl, .of h rfl, .of h rfl, .of h rfl, .of h rfl, .of h rfl, .of h rfl, .of h rfl, .of h rfl, .of h rfl, .of h rfl, .of h rfl, .of h rfl, .of h rfl, .of h rfl, .of h rfl, .of h rfl, .of h rfl, .of h rfl, .of h rfl, .of h rfl, .of h rfl, .of h rfl, .of h rfl, .of h rfl, .of h rfl, .of h rfl, .of h rfl, .of h rfl, .of h rfl, .of h rfl, .of h rfl, .of h rfl, .of h rfl, .of h rfl, .of h rfl, .of h rfl, .of h rfl, .of h rfl, .of h rfl, .of h rfl, .of h rfl, .of h rfl, .of h rfl, .of h rfl, .of h rfl, .of h rfl, .of h rfl rfl rfl rfl rfl, .of h rfl rfl rfl rfl rfl, .of h rfl rfl, .of h rfl rfl rfl, .of h rfl rfl, .of h rfl rfl rfl rfl, .of h rfl rfl rfl, .of h rfl rfl rfl, .of h rfl rfl, .of h rfl rfl rfl rfl, .of h rfl rfl rfl, .of h rfl rfl, .of h rfl rfl⟩

/-- Every part but these is kept: clock, edges. -/
abbrev Kept157 (s t : State) : Prop :=
  SamePending s t ∧ SameDraws s t ∧ SameOut s t ∧ SameIdent s t ∧ SameFuses s t ∧ SamePins s t ∧ SamePulses s t ∧ SameChain s t ∧ SameChainPorts s t ∧ SameDict s t ∧ SameNums s t ∧ SameDoms s t ∧ SameResults s t ∧ SameLogs s t ∧ SamePower s t ∧ SameVbat s t ∧ SameRadio s t ∧ SamePorts s t ∧ SameRxTiles s t ∧ SameTxTiles s t ∧ SameGirth s t ∧ SameRecs s t ∧ SameSched s t ∧ SameCinch s t ∧ SameKeeper s t ∧ SameSb s t ∧ SameStraps s t ∧ SameJournal s t ∧ SameAttached s t ∧ SameNodeQueues s t ∧ SameTables s t ∧ SameWindows s t ∧ SameHalter s t ∧ SameHar s t ∧ SameQueues s t ∧ SameArrivals s t ∧ SameLacing s t ∧ SameTree s t ∧ SameCurb s t ∧ SameConcho s t ∧ SameCores s t ∧ SameLocals s t ∧ SameBuckle s t ∧ SameHost s t ∧ SameFlags s t ∧ SameReports s t ∧ SameDictAll s t ∧ SameSbAll s t ∧ SameHostAll s t ∧ SameCoresAll s t ∧ SameGirthAll s t ∧ SameTablesAll s t ∧ SameHarAll s t ∧ SameChainAll s t ∧ SameRadioAll s t ∧ SamePowerRxTilesTxTiles s t ∧ SameDictPower s t ∧ SameDictNums s t

theorem Kept157.of {s t : State} (h : t.outside { clock := true, edges := true } = s.outside { clock := true, edges := true }) : Kept157 s t :=
  ⟨.of h rfl, .of h rfl, .of h rfl, .of h rfl, .of h rfl, .of h rfl, .of h rfl, .of h rfl, .of h rfl, .of h rfl, .of h rfl, .of h rfl, .of h rfl, .of h rfl, .of h rfl, .of h rfl, .of h rfl, .of h rfl, .of h rfl, .of h rfl, .of h rfl, .of h rfl, .of h rfl, .of h rfl, .of h rfl, .of h rfl, .of h rfl, .of h rfl, .of h rfl, .of h rfl, .of h rfl, .of h rfl, .of h rfl, .of h rfl, .of h rfl, .of h rfl, .of h rfl, .of h rfl, .of h rfl, .of h rfl, .of h rfl, .of h rfl, .of h rfl, .of h rfl, .of h rfl, .of h rfl, .of h rfl rfl rfl rfl rfl, .of h rfl rfl rfl rfl rfl, .of h rfl rfl rfl, .of h rfl rfl, .of h rfl rfl rfl rfl, .of h rfl rfl rfl, .of h rfl rfl rfl, .of h rfl rfl, .of h rfl rfl rfl rfl, .of h rfl rfl rfl, .of h rfl rfl, .of h rfl rfl⟩

/-- Every part but these is kept: pins, pulses, edges. -/
abbrev Kept158 (s t : State) : Prop :=
  SamePending s t ∧ SameDraws s t ∧ SameOut s t ∧ SameIdent s t ∧ SameFuses s t ∧ SameClock s t ∧ SameChain s t ∧ SameChainPorts s t ∧ SameDict s t ∧ SameNums s t ∧ SameDoms s t ∧ SameResults s t ∧ SameLogs s t ∧ SamePower s t ∧ SameVbat s t ∧ SameRadio s t ∧ SamePorts s t ∧ SameRxTiles s t ∧ SameTxTiles s t ∧ SameGirth s t ∧ SameRecs s t ∧ SameSched s t ∧ SameCinch s t ∧ SameKeeper s t ∧ SameSb s t ∧ SameStraps s t ∧ SameJournal s t ∧ SameAttached s t ∧ SameNodeQueues s t ∧ SameTables s t ∧ SameWindows s t ∧ SameHalter s t ∧ SameHar s t ∧ SameQueues s t ∧ SameArrivals s t ∧ SameLacing s t ∧ SameTree s t ∧ SameCurb s t ∧ SameConcho s t ∧ SameCores s t ∧ SameLocals s t ∧ SameBuckle s t ∧ SameHost s t ∧ SameFlags s t ∧ SameReports s t ∧ SameDictAll s t ∧ SameSbAll s t ∧ SameHostAll s t ∧ SameCoresAll s t ∧ SameGirthAll s t ∧ SameTablesAll s t ∧ SameHarAll s t ∧ SameChainAll s t ∧ SameRadioAll s t ∧ SamePowerRxTilesTxTiles s t ∧ SameDictPower s t ∧ SameDictNums s t ∧ SameClockNumsPorts s t

theorem Kept158.of {s t : State} (h : t.outside { pins := true, pulses := true, edges := true } = s.outside { pins := true, pulses := true, edges := true }) : Kept158 s t :=
  ⟨.of h rfl, .of h rfl, .of h rfl, .of h rfl, .of h rfl, .of h rfl, .of h rfl, .of h rfl, .of h rfl, .of h rfl, .of h rfl, .of h rfl, .of h rfl, .of h rfl, .of h rfl, .of h rfl, .of h rfl, .of h rfl, .of h rfl, .of h rfl, .of h rfl, .of h rfl, .of h rfl, .of h rfl, .of h rfl, .of h rfl, .of h rfl, .of h rfl, .of h rfl, .of h rfl, .of h rfl, .of h rfl, .of h rfl, .of h rfl, .of h rfl, .of h rfl, .of h rfl, .of h rfl, .of h rfl, .of h rfl, .of h rfl, .of h rfl, .of h rfl, .of h rfl, .of h rfl, .of h rfl rfl rfl rfl rfl, .of h rfl rfl rfl rfl rfl, .of h rfl rfl rfl, .of h rfl rfl, .of h rfl rfl rfl rfl, .of h rfl rfl rfl, .of h rfl rfl rfl, .of h rfl rfl, .of h rfl rfl rfl rfl, .of h rfl rfl rfl, .of h rfl rfl, .of h rfl rfl, .of h rfl rfl rfl⟩

/-- Every part but these is kept: pins, pulses, dict, nums, logs, straps, journal, edges, flags. -/
abbrev Kept159 (s t : State) : Prop :=
  SamePending s t ∧ SameDraws s t ∧ SameOut s t ∧ SameIdent s t ∧ SameFuses s t ∧ SameClock s t ∧ SameChain s t ∧ SameChainPorts s t ∧ SameDoms s t ∧ SameResults s t ∧ SamePower s t ∧ SameVbat s t ∧ SameRadio s t ∧ SamePorts s t ∧ SameRxTiles s t ∧ SameTxTiles s t ∧ SameGirth s t ∧ SameRecs s t ∧ SameSched s t ∧ SameCinch s t ∧ SameKeeper s t ∧ SameSb s t ∧ SameAttached s t ∧ SameNodeQueues s t ∧ SameTables s t ∧ SameWindows s t ∧ SameHalter s t ∧ SameHar s t ∧ SameQueues s t ∧ SameArrivals s t ∧ SameLacing s t ∧ SameTree s t ∧ SameCurb s t ∧ SameConcho s t ∧ SameCores s t ∧ SameLocals s t ∧ SameBuckle s t ∧ SameHost s t ∧ SameReports s t ∧ SameCoresAll s t ∧ SameGirthAll s t ∧ SameTablesAll s t ∧ SameHarAll s t ∧ SameChainAll s t ∧ SameRadioAll s t ∧ SamePowerRxTilesTxTiles s t

theorem Kept159.of {s t : State} (h : t.outside { pins := true, pulses := true, dict := true, anyNum := true, logs := true, straps := true, journal := true, edges := true, flags := true } = s.outside { pins := true, pulses := true, dict := true, anyNum := true, logs := true, straps := true, journal := true, edges := true, flags := true }) : Kept159 s t :=
  ⟨.of h rfl, .of h rfl, .of h rfl, .of h rfl, .of h rfl, .of h rfl, .of h rfl, .of h rfl, .of h rfl, .of h rfl, .of h rfl, .of h rfl, .of h rfl, .of h rfl, .of h rfl, .of h rfl, .of h rfl, .of h rfl, .of h rfl, .of h rfl, .of h rfl, .of h rfl, .of h rfl, .of h rfl, .of h rfl, .of h rfl, .of h rfl, .of h rfl, .of h rfl, .of h rfl, .of h rfl, .of h rfl, .of h rfl, .of h rfl, .of h rfl, .of h rfl, .of h rfl, .of h rfl, .of h rfl, .of h rfl rfl, .of h rfl rfl rfl rfl, .of h rfl rfl rfl, .of h rfl rfl rfl, .of h rfl rfl, .of h rfl rfl rfl rfl, .of h rfl rfl rfl⟩

/-- Every part but these is kept: pins, clock, pulses, edges. -/
abbrev Kept160 (s t : State) : Prop :=
  SamePending s t ∧ SameDraws s t ∧ SameOut s t ∧ SameIdent s t ∧ SameFuses s t ∧ SameChain s t ∧ SameChainPorts s t ∧ SameDict s t ∧ SameNums s t ∧ SameDoms s t ∧ SameResults s t ∧ SameLogs s t ∧ SamePower s t ∧ SameVbat s t ∧ SameRadio s t ∧ SamePorts s t ∧ SameRxTiles s t ∧ SameTxTiles s t ∧ SameGirth s t ∧ SameRecs s t ∧ SameSched s t ∧ SameCinch s t ∧ SameKeeper s t ∧ SameSb s t ∧ SameStraps s t ∧ SameJournal s t ∧ SameAttached s t ∧ SameNodeQueues s t ∧ SameTables s t ∧ SameWindows s t ∧ SameHalter s t ∧ SameHar s t ∧ SameQueues s t ∧ SameArrivals s t ∧ SameLacing s t ∧ SameTree s t ∧ SameCurb s t ∧ SameConcho s t ∧ SameCores s t ∧ SameLocals s t ∧ SameBuckle s t ∧ SameHost s t ∧ SameFlags s t ∧ SameReports s t ∧ SameDictAll s t ∧ SameSbAll s t ∧ SameHostAll s t ∧ SameCoresAll s t ∧ SameGirthAll s t ∧ SameTablesAll s t ∧ SameHarAll s t ∧ SameChainAll s t ∧ SameRadioAll s t ∧ SamePowerRxTilesTxTiles s t ∧ SameDictPower s t ∧ SameDictNums s t

theorem Kept160.of {s t : State} (h : t.outside { pins := true, clock := true, pulses := true, edges := true } = s.outside { pins := true, clock := true, pulses := true, edges := true }) : Kept160 s t :=
  ⟨.of h rfl, .of h rfl, .of h rfl, .of h rfl, .of h rfl, .of h rfl, .of h rfl, .of h rfl, .of h rfl, .of h rfl, .of h rfl, .of h rfl, .of h rfl, .of h rfl, .of h rfl, .of h rfl, .of h rfl, .of h rfl, .of h rfl, .of h rfl, .of h rfl, .of h rfl, .of h rfl, .of h rfl, .of h rfl, .of h rfl, .of h rfl, .of h rfl, .of h rfl, .of h rfl, .of h rfl, .of h rfl, .of h rfl, .of h rfl, .of h rfl, .of h rfl, .of h rfl, .of h rfl, .of h rfl, .of h rfl, .of h rfl, .of h rfl, .of h rfl, .of h rfl, .of h rfl rfl rfl rfl rfl, .of h rfl rfl rfl rfl rfl, .of h rfl rfl rfl, .of h rfl rfl, .of h rfl rfl rfl rfl, .of h rfl rfl rfl, .of h rfl rfl rfl, .of h rfl rfl, .of h rfl rfl rfl rfl, .of h rfl rfl rfl, .of h rfl rfl, .of h rfl rfl⟩

/-- Every part but these is kept: pins, clock, pulses, dict, nums, results, logs, straps, journal, edges, flags. -/
abbrev Kept161 (s t : State) : Prop :=
  SamePending s t ∧ SameDraws s t ∧ SameOut s t ∧ SameIdent s t ∧ SameFuses s t ∧ SameChain s t ∧ SameChainPorts s t ∧ SameDoms s t ∧ SamePower s t ∧ SameVbat s t ∧ SameRadio s t ∧ SamePorts s t ∧ SameRxTiles s t ∧ SameTxTiles s t ∧ SameGirth s t ∧ SameRecs s t ∧ SameSched s t ∧ SameCinch s t ∧ SameKeeper s t ∧ SameSb s t ∧ SameAttached s t ∧ SameNodeQueues s t ∧ SameTables s t ∧ SameWindows s t ∧ SameHalter s t ∧ SameHar s t ∧ SameQueues s t ∧ SameArrivals s t ∧ SameLacing s t ∧ SameTree s t ∧ SameCurb s t ∧ SameConcho s t ∧ SameCores s t ∧ SameLocals s t ∧ SameBuckle s t ∧ SameHost s t ∧ SameReports s t ∧ SameCoresAll s t ∧ SameGirthAll s t ∧ SameTablesAll s t ∧ SameHarAll s t ∧ SameChainAll s t ∧ SameRadioAll s t ∧ SamePowerRxTilesTxTiles s t

theorem Kept161.of {s t : State} (h : t.outside { pins := true, clock := true, pulses := true, dict := true, anyNum := true, results := true, logs := true, straps := true, journal := true, edges := true, flags := true } = s.outside { pins := true, clock := true, pulses := true, dict := true, anyNum := true, results := true, logs := true, straps := true, journal := true, edges := true, flags := true }) : Kept161 s t :=
  ⟨.of h rfl, .of h rfl, .of h rfl, .of h rfl, .of h rfl, .of h rfl, .of h rfl, .of h rfl, .of h rfl, .of h rfl, .of h rfl, .of h rfl, .of h rfl, .of h rfl, .of h rfl, .of h rfl, .of h rfl, .of h rfl, .of h rfl, .of h rfl, .of h rfl, .of h rfl, .of h rfl, .of h rfl, .of h rfl, .of h rfl, .of h rfl, .of h rfl, .of h rfl, .of h rfl, .of h rfl, .of h rfl, .of h rfl, .of h rfl, .of h rfl, .of h rfl, .of h rfl, .of h rfl rfl, .of h rfl rfl rfl rfl, .of h rfl rfl rfl, .of h rfl rfl rfl, .of h rfl rfl, .of h rfl rfl rfl rfl, .of h rfl rfl rfl⟩

/-- Every part but these is kept: pins, clock, pulses, results, edges. -/
abbrev Kept162 (s t : State) : Prop :=
  SamePending s t ∧ SameDraws s t ∧ SameOut s t ∧ SameIdent s t ∧ SameFuses s t ∧ SameChain s t ∧ SameChainPorts s t ∧ SameDict s t ∧ SameNums s t ∧ SameDoms s t ∧ SameLogs s t ∧ SamePower s t ∧ SameVbat s t ∧ SameRadio s t ∧ SamePorts s t ∧ SameRxTiles s t ∧ SameTxTiles s t ∧ SameGirth s t ∧ SameRecs s t ∧ SameSched s t ∧ SameCinch s t ∧ SameKeeper s t ∧ SameSb s t ∧ SameStraps s t ∧ SameJournal s t ∧ SameAttached s t ∧ SameNodeQueues s t ∧ SameTables s t ∧ SameWindows s t ∧ SameHalter s t ∧ SameHar s t ∧ SameQueues s t ∧ SameArrivals s t ∧ SameLacing s t ∧ SameTree s t ∧ SameCurb s t ∧ SameConcho s t ∧ SameCores s t ∧ SameLocals s t ∧ SameBuckle s t ∧ SameHost s t ∧ SameFlags s t ∧ SameReports s t ∧ SameSbAll s t ∧ SameHostAll s t ∧ SameCoresAll s t ∧ SameGirthAll s t ∧ SameTablesAll s t ∧ SameHarAll s t ∧ SameChainAll s t ∧ SameRadioAll s t ∧ SamePowerRxTilesTxTiles s t ∧ SameDictPower s t ∧ SameDictNums s t

theorem Kept162.of {s t : State} (h : t.outside { pins := true, clock := true, pulses := true, results := true, edges := true } = s.outside { pins := true, clock := true, pulses := true, results := true, edges := true }) : Kept162 s t :=
  ⟨.of h rfl, .of h rfl, .of h rfl, .of h rfl, .of h rfl, .of h rfl, .of h rfl, .of h rfl, .of h rfl, .of h rfl, .of h rfl, .of h rfl, .of h rfl, .of h rfl, .of h rfl, .of h rfl, .of h rfl, .of h rfl, .of h rfl, .of h rfl, .of h rfl, .of h rfl, .of h rfl, .of h rfl, .of h rfl, .of h rfl, .of h rfl, .of h rfl, .of h rfl, .of h rfl, .of h rfl, .of h rfl, .of h rfl, .of h rfl, .of h rfl, .of h rfl, .of h rfl, .of h rfl, .of h rfl, .of h rfl, .of h rfl, .of h rfl, .of h rfl, .of h rfl rfl rfl rfl rfl, .of h rfl rfl rfl, .of h rfl rfl, .of h rfl rfl rfl rfl, .of h rfl rfl rfl, .of h rfl rfl rfl, .of h rfl rfl, .of h rfl rfl rfl rfl, .of h rfl rfl rfl, .of h rfl rfl, .of h rfl rfl⟩

/-- Every part but these is kept: clock, dict, nums, logs, straps, journal, edges, flags. -/
abbrev Kept163 (s t : State) : Prop :=
  SamePending s t ∧ SameDraws s t ∧ SameOut s t ∧ SameIdent s t ∧ SameFuses s t ∧ SamePins s t ∧ SamePulses s t ∧ SameChain s t ∧ SameChainPorts s t ∧ SameDoms s t ∧ SameResults s t ∧ SamePower s t ∧ SameVbat s t ∧ SameRadio s t ∧ SamePorts s t ∧ SameRxTiles s t ∧ SameTxTiles s t ∧ SameGirth s t ∧ SameRecs s t ∧ SameSched s t ∧ SameCinch s t ∧ SameKeeper s t ∧ SameSb s t ∧ SameAttached s t ∧ SameNodeQueues s t ∧ SameTables s t ∧ SameWindows s t ∧ SameHalter s t ∧ SameHar s t ∧ SameQueues s t ∧ SameArrivals s t ∧ SameLacing s t ∧ SameTree s t ∧ SameCurb s t ∧ SameConcho s t ∧ SameCores s t ∧ SameLocals s t ∧ SameBuckle s t ∧ SameHost s t ∧ SameReports s t ∧ SameCoresAll s t ∧ SameGirthAll s t ∧ SameTablesAll s t ∧ SameHarAll s t ∧ SameChainAll s t ∧ SameRadioAll s t ∧ SamePowerRxTilesTxTiles s t

theorem Kept163.of {s t : State} (h : t.outside { clock := true, dict := true, anyNum := true, logs := true, straps := true, journal := true, edges := true, flags := true } = s.outside { clock := true, dict := true, anyNum := true, logs := true, straps := true, journal := true, edges := true, flags := true }) : Kept163 s t :=
  ⟨.of h rfl, .of h rfl, .of h rfl, .of h rfl, .of h rfl, .of h rfl, .of h rfl, .of h rfl, .of h rfl, .of h rfl, .of h rfl, .of h rfl, .of h rfl, .of h rfl, .of h rfl, .of h rfl, .of h rfl, .of h rfl, .of h rfl, .of h rfl, .of h rfl, .of h rfl, .of h rfl, .of h rfl, .of h rfl, .of h rfl, .of h rfl, .of h rfl, .of h rfl, .of h rfl, .of h rfl, .of h rfl, .of h rfl, .of h rfl, .of h rfl, .of h rfl, .of h rfl, .of h rfl, .of h rfl, .of h rfl, .of h rfl rfl, .of h rfl rfl rfl rfl, .of h rfl rfl rfl, .of h rfl rfl rfl, .of h rfl rfl, .of h rfl rfl rfl rfl, .of h rfl rfl rfl⟩

/-- Every part but these is kept: pins, clock, pulses, dict, nums, logs, straps, journal, edges, flags. -/
abbrev Kept164 (s t : State) : Prop :=
  SamePending s t ∧ SameDraws s t ∧ SameOut s t ∧ SameIdent s t ∧ SameFuses s t ∧ SameChain s t ∧ SameChainPorts s t ∧ SameDoms s t ∧ SameResults s t ∧ SamePower s t ∧ SameVbat s t ∧ SameRadio s t ∧ SamePorts s t ∧ SameRxTiles s t ∧ SameTxTiles s t ∧ SameGirth s t ∧ SameRecs s t ∧ SameSched s t ∧ SameCinch s t ∧ SameKeeper s t ∧ SameSb s t ∧ SameAttached s t ∧ SameNodeQueues s t ∧ SameTables s t ∧ SameWindows s t ∧ SameHalter s t ∧ SameHar s t ∧ SameQueues s t ∧ SameArrivals s t ∧ SameLacing s t ∧ SameTree s t ∧ SameCurb s t ∧ SameConcho s t ∧ SameCores s t ∧ SameLocals s t ∧ SameBuckle s t ∧ SameHost s t ∧ SameReports s t ∧ SameCoresAll s t ∧ SameGirthAll s t ∧ SameTablesAll s t ∧ SameHarAll s t ∧ SameChainAll s t ∧ SameRadioAll s t ∧ SamePowerRxTilesTxTiles s t

theorem Kept164.of {s t : State} (h : t.outside { pins := true, clock := true, pulses := true, dict := true, anyNum := true, logs := true, straps := true, journal := true, edges := true, flags := true } = s.outside { pins := true, clock := true, pulses := true, dict := true, anyNum := true, logs := true, straps := true, journal := true, edges := true, flags := true }) : Kept164 s t :=
  ⟨.of h rfl, .of h rfl, .of h rfl, .of h rfl, .of h rfl, .of h rfl, .of h rfl, .of h rfl, .of h rfl, .of h rfl, .of h rfl, .of h rfl, .of h rfl, .of h rfl, .of h rfl, .of h rfl, .of h rfl, .of h rfl, .of h rfl, .of h rfl, .of h rfl, .of h rfl, .of h rfl, .of h rfl, .of h rfl, .of h rfl, .of h rfl, .of h rfl, .of h rfl, .of h rfl, .of h rfl, .of h rfl, .of h rfl, .of h rfl, .of h rfl, .of h rfl, .of h rfl, .of h rfl, .of h rfl rfl, .of h rfl rfl rfl rfl, .of h rfl rfl rfl, .of h rfl rfl rfl, .of h rfl rfl, .of h rfl rfl rfl rfl, .of h rfl rfl rfl⟩

/-- Every part but these is kept: tree. -/
abbrev Kept165 (s t : State) : Prop :=
  SamePending s t ∧ SameDraws s t ∧ SameOut s t ∧ SameIdent s t ∧ SameFuses s t ∧ SamePins s t ∧ SameClock s t ∧ SamePulses s t ∧ SameChain s t ∧ SameChainPorts s t ∧ SameDict s t ∧ SameNums s t ∧ SameDoms s t ∧ SameResults s t ∧ SameLogs s t ∧ SamePower s t ∧ SameVbat s t ∧ SameRadio s t ∧ SamePorts s t ∧ SameRxTiles s t ∧ SameTxTiles s t ∧ SameGirth s t ∧ SameRecs s t ∧ SameSched s t ∧ SameCinch s t ∧ SameKeeper s t ∧ SameSb s t ∧ SameStraps s t ∧ SameJournal s t ∧ SameAttached s t ∧ SameNodeQueues s t ∧ SameTables s t ∧ SameWindows s t ∧ SameHalter s t ∧ SameHar s t ∧ SameQueues s t ∧ SameArrivals s t ∧ SameLacing s t ∧ SameCurb s t ∧ SameConcho s t ∧ SameCores s t ∧ SameLocals s t ∧ SameBuckle s t ∧ SameEdges s t ∧ SameHost s t ∧ SameFlags s t ∧ SameReports s t ∧ SameDictAll s t ∧ SameSbAll s t ∧ SameBuckleAll s t ∧ SameHostAll s t ∧ SameCoresAll s t ∧ SameGirthAll s t ∧ SameTablesAll s t ∧ SameHarAll s t ∧ SameChainAll s t ∧ SameRadioAll s t ∧ SamePowerRxTilesTxTiles s t ∧ SameDictPower s t ∧ SameDictNums s t ∧ SameClockNumsPorts s t

theorem Kept165.of {s t : State} (h : t.outside { tree := true } = s.outside { tree := true }) : Kept165 s t :=
  ⟨.of h rfl, .of h rfl, .of h rfl, .of h rfl, .of h rfl, .of h rfl, .of h rfl, .of h rfl, .of h rfl, .of h rfl, .of h rfl, .of h rfl, .of h rfl, .of h rfl, .of h rfl, .of h rfl, .of h rfl, .of h rfl, .of h rfl, .of h rfl, .of h rfl, .of h rfl, .of h rfl, .of h rfl, .of h rfl, .of h rfl, .of h rfl, .of h rfl, .of h rfl, .of h rfl, .of h rfl, .of h rfl, .of h rfl, .of h rfl, .of h rfl, .of h rfl, .of h rfl, .of h rfl, .of h rfl, .of h rfl, .of h rfl, .of h rfl, .of h rfl, .of h rfl, .of h rfl, .of h rfl, .of h rfl, .of h rfl rfl rfl rfl rfl, .of h rfl rfl rfl rfl rfl, .of h rfl rfl, .of h rfl rfl rfl, .of h rfl rfl, .of h rfl rfl rfl rfl, .of h rfl rfl rfl, .of h rfl rfl rfl, .of h rfl rfl, .of h rfl rfl rfl rfl, .of h rfl rfl rfl, .of h rfl rfl, .of h rfl rfl, .of h rfl rfl rfl⟩

/-- Every part but these is kept: nums, tree. -/
abbrev Kept166 (s t : State) : Prop :=
  SamePending s t ∧ SameDraws s t ∧ SameOut s t ∧ SameIdent s t ∧ SameFuses s t ∧ SamePins s t ∧ SameClock s t ∧ SamePulses s t ∧ SameChain s t ∧ SameChainPorts s t ∧ SameDict s t ∧ SameDoms s t ∧ SameResults s t ∧ SameLogs s t ∧ SamePower s t ∧ SameVbat s t ∧ SameRadio s t ∧ SamePorts s t ∧ SameRxTiles s t ∧ SameTxTiles s t ∧ SameGirth s t ∧ SameRecs s t ∧ SameSched s t ∧ SameCinch s t ∧ SameKeeper s t ∧ SameSb s t ∧ SameStraps s t ∧ SameJournal s t ∧ SameAttached s t ∧ SameNodeQueues s t ∧ SameTables s t ∧ SameWindows s t ∧ SameHalter s t ∧ SameHar s t ∧ SameQueues s t ∧ SameArrivals s t ∧ SameLacing s t ∧ SameCurb s t ∧ SameConcho s t ∧ SameCores s t ∧ SameLocals s t ∧ SameBuckle s t ∧ SameEdges s t ∧ SameHost s t ∧ SameFlags s t ∧ SameReports s t ∧ SameSbAll s t ∧ SameBuckleAll s t ∧ SameHostAll s t ∧ SameCoresAll s t ∧ SameGirthAll s t ∧ SameTablesAll s t ∧ SameHarAll s t ∧ SameChainAll s t ∧ SameRadioAll s t ∧ SamePowerRxTilesTxTiles s t ∧ SameDictPower s t

theorem Kept166.of {s t : State} (h : t.outside { anyNum := true, tree := true } = s.outside { anyNum := true, tree := true }) : Kept166 s t :=
  ⟨.of h rfl, .of h rfl, .of h rfl, .of h rfl, .of h rfl, .of h rfl, .of h rfl, .of h rfl, .of h rfl, .of h rfl, .of h rfl, .of h rfl, .of h rfl, .of h rfl, .of h rfl, .of h rfl, .of h rfl, .of h rfl, .of h rfl, .of h rfl, .of h rfl, .of h rfl, .of h rfl, .of h rfl, .of h rfl, .of h rfl, .of h rfl, .of h rfl, .of h rfl, .of h rfl, .of h rfl, .of h rfl, .of h rfl, .of h rfl, .of h rfl, .of h rfl, .of h rfl, .of h rfl, .of h rfl, .of h rfl, .of h rfl, .of h rfl, .of h rfl, .of h rfl, .of h rfl, .of h rfl, .of h rfl rfl rfl rfl rfl, .of h rfl rfl, .of h rfl rfl rfl, .of h rfl rfl, .of h rfl rfl rfl rfl, .of h rfl rfl rfl, .of h rfl rfl rfl, .of h rfl rfl, .of h rfl rfl rfl rfl, .of h rfl rfl rfl, .of h rfl rfl⟩

/-- Every part but these is kept: dict, nums, logs, straps, journal, tree, edges, flags. -/
abbrev Kept167 (s t : State) : Prop :=
  SamePending s t ∧ SameDraws s t ∧ SameOut s t ∧ SameIdent s t ∧ SameFuses s t ∧ SamePins s t ∧ SameClock s t ∧ SamePulses s t ∧ SameChain s t ∧ SameChainPorts s t ∧ SameDoms s t ∧ SameResults s t ∧ SamePower s t ∧ SameVbat s t ∧ SameRadio s t ∧ SamePorts s t ∧ SameRxTiles s t ∧ SameTxTiles s t ∧ SameGirth s t ∧ SameRecs s t ∧ SameSched s t ∧ SameCinch s t ∧ SameKeeper s t ∧ SameSb s t ∧ SameAttached s t ∧ SameNodeQueues s t ∧ SameTables s t ∧ SameWindows s t ∧ SameHalter s t ∧ SameHar s t ∧ SameQueues s t ∧ SameArrivals s t ∧ SameLacing s t ∧ SameCurb s t ∧ SameConcho s t ∧ SameCores s t ∧ SameLocals s t ∧ SameBuckle s t ∧ SameHost s t ∧ SameReports s t ∧ SameCoresAll s t ∧ SameGirthAll s t ∧ SameTablesAll s t ∧ SameHarAll s t ∧ SameChainAll s t ∧ SameRadioAll s t ∧ SamePowerRxTilesTxTiles s t

theorem Kept167.of {s t : State} (h : t.outside { dict := true, anyNum := true, logs := true, straps := true, journal := true, tree := true, edges := true, flags := true } = s.outside { dict := true, anyNum := true, logs := true, straps := true, journal := true, tree := true, edges := true, flags := true }) : Kept167 s t :=
  ⟨.of h rfl, .of h rfl, .of h rfl, .of h rfl, .of h rfl, .of h rfl, .of h rfl, .of h rfl, .of h rfl, .of h rfl, .of h rfl, .of h rfl, .of h rfl, .of h rfl, .of h rfl, .of h rfl, .of h rfl, .of h rfl, .of h rfl, .of h rfl, .of h rfl, .of h rfl, .of h rfl, .of h rfl, .of h rfl, .of h rfl, .of h rfl, .of h rfl, .of h rfl, .of h rfl, .of h rfl, .of h rfl, .of h rfl, .of h rfl, .of h rfl, .of h rfl, .of h rfl, .of h rfl, .of h rfl, .of h rfl, .of h rfl rfl, .of h rfl rfl rfl rfl, .of h rfl rfl rfl, .of h rfl rfl rfl, .of h rfl rfl, .of h rfl rfl rfl rfl, .of h rfl rfl rfl⟩

/-- Every part but these is kept: results, tree. -/
abbrev Kept168 (s t : State) : Prop :=
  SamePending s t ∧ SameDraws s t ∧ SameOut s t ∧ SameIdent s t ∧ SameFuses s t ∧ SamePins s t ∧ SameClock s t ∧ SamePulses s t ∧ SameChain s t ∧ SameChainPorts s t ∧ SameDict s t ∧ SameNums s t ∧ SameDoms s t ∧ SameLogs s t ∧ SamePower s t ∧ SameVbat s t ∧ SameRadio s t ∧ SamePorts s t ∧ SameRxTiles s t ∧ SameTxTiles s t ∧ SameGirth s t ∧ SameRecs s t ∧ SameSched s t ∧ SameCinch s t ∧ SameKeeper s t ∧ SameSb s t ∧ SameStraps s t ∧ SameJournal s t ∧ SameAttached s t ∧ SameNodeQueues s t ∧ SameTables s t ∧ SameWindows s t ∧ SameHalter s t ∧ SameHar s t ∧ SameQueues s t ∧ SameArrivals s t ∧ SameLacing s t ∧ SameCurb s t ∧ SameConcho s t ∧ SameCores s t ∧ SameLocals s t ∧ SameBuckle s t ∧ SameEdges s t ∧ SameHost s t ∧ SameFlags s t ∧ SameReports s t ∧ SameSbAll s t ∧ SameBuckleAll s t ∧ SameHostAll s t ∧ SameCoresAll s t ∧ SameGirthAll s t ∧ SameTablesAll s t ∧ SameHarAll s t ∧ SameChainAll s t ∧ SameRadioAll s t ∧ SamePowerRxTilesTxTiles s t ∧ SameDictPower s t ∧ SameDictNums s t ∧ SameClockNumsPorts s t

theorem Kept168.of {s t : State} (h : t.outside { results := true, tree := true } = s.outside { results := true, tree := true }) : Kept168 s t :=
  ⟨.of h rfl, .of h rfl, .of h rfl, .of h rfl, .of h rfl, .of h rfl, .of h rfl, .of h rfl, .of h rfl, .of h rfl, .of h rfl, .of h rfl, .of h rfl, .of h rfl, .of h rfl, .of h rfl, .of h rfl, .of h rfl, .of h rfl, .of h rfl, .of h rfl, .of h rfl, .of h rfl, .of h rfl, .of h rfl, .of h rfl, .of h rfl, .of h rfl, .of h rfl, .of h rfl, .of h rfl, .of h rfl, .of h rfl, .of h rfl, .of h rfl, .of h rfl, .of h rfl, .of h rfl, .of h rfl, .of h rfl, .of h rfl, .of h rfl, .of h rfl, .of h rfl, .of h rfl, .of h rfl, .of h rfl rfl rfl rfl rfl, .of h rfl rfl, .of h rfl rfl rfl, .of h rfl rfl, .of h rfl rfl rfl rfl, .of h rfl rfl rfl, .of h rfl rfl rfl, .of h rfl rfl, .of h rfl rfl rfl rfl, .of h rfl rfl rfl, .of h rfl rfl, .of h rfl rfl, .of h rfl rfl rfl⟩

/-- Every part but these is kept: dict, nums, results, logs, straps, journal, tree, edges, flags. -/
abbrev Kept169 (s t : State) : Prop :=
  SamePending s t ∧ SameDraws s t ∧ SameOut s t ∧ SameIdent s t ∧ SameFuses s t ∧ SamePins s t ∧ SameClock s t ∧ SamePulses s t ∧ SameChain s t ∧ SameChainPorts s t ∧ SameDoms s t ∧ SamePower s t ∧ SameVbat s t ∧ SameRadio s t ∧ SamePorts s t ∧ SameRxTiles s t ∧ SameTxTiles s t ∧ SameGirth s t ∧ SameRecs s t ∧ SameSched s t ∧ SameCinch s t ∧ SameKeeper s t ∧ SameSb s t ∧ SameAttached s t ∧ SameNodeQueues s t ∧ SameTables s t ∧ SameWindows s t ∧ SameHalter s t ∧ SameHar s t ∧ SameQueues s t ∧ SameArrivals s t ∧ SameLacing s t ∧ SameCurb s t ∧ SameConcho s t ∧ SameCores s t ∧ SameLocals s t ∧ SameBuckle s t ∧ SameHost s t ∧ SameReports s t ∧ SameCoresAll s t ∧ SameGirthAll s t ∧ SameTablesAll s t ∧ SameHarAll s t ∧ SameChainAll s t ∧ SameRadioAll s t ∧ SamePowerRxTilesTxTiles s t

theorem Kept169.of {s t : State} (h : t.outside { dict := true, anyNum := true, results := true, logs := true, straps := true, journal := true, tree := true, edges := true, flags := true } = s.outside { dict := true, anyNum := true, results := true, logs := true, straps := true, journal := true, tree := true, edges := true, flags := true }) : Kept169 s t :=
  ⟨.of h rfl, .of h rfl, .of h rfl, .of h rfl, .of h rfl, .of h rfl, .of h rfl, .of h rfl, .of h rfl, .of h rfl, .of h rfl, .of h rfl, .of h rfl, .of h rfl, .of h rfl, .of h rfl, .of h rfl, .of h rfl, .of h rfl, .of h rfl, .of h rfl, .of h rfl, .of h rfl, .of h rfl, .of h rfl, .of h rfl, .of h rfl, .of h rfl, .of h rfl, .of h rfl, .of h rfl, .of h rfl, .of h rfl, .of h rfl, .of h rfl, .of h rfl, .of h rfl, .of h rfl, .of h rfl, .of h rfl rfl, .of h rfl rfl rfl rfl, .of h rfl rfl rfl, .of h rfl rfl rfl, .of h rfl rfl, .of h rfl rfl rfl rfl, .of h rfl rfl rfl⟩

/-- Every part but these is kept: nums, reports. -/
abbrev Kept170 (s t : State) : Prop :=
  SamePending s t ∧ SameDraws s t ∧ SameOut s t ∧ SameIdent s t ∧ SameFuses s t ∧ SamePins s t ∧ SameClock s t ∧ SamePulses s t ∧ SameChain s t ∧ SameChainPorts s t ∧ SameDict s t ∧ SameDoms s t ∧ SameResults s t ∧ SameLogs s t ∧ SamePower s t ∧ SameVbat s t ∧ SameRadio s t ∧ SamePorts s t ∧ SameRxTiles s t ∧ SameTxTiles s t ∧ SameGirth s t ∧ SameRecs s t ∧ SameSched s t ∧ SameCinch s t ∧ SameKeeper s t ∧ SameSb s t ∧ SameStraps s t ∧ SameJournal s t ∧ SameAttached s t ∧ SameNodeQueues s t ∧ SameTables s t ∧ SameWindows s t ∧ SameHalter s t ∧ SameHar s t ∧ SameQueues s t ∧ SameArrivals s t ∧ SameLacing s t ∧ SameTree s t ∧ SameCurb s t ∧ SameConcho s t ∧ SameCores s t ∧ SameLocals s t ∧ SameBuckle s t ∧ SameEdges s t ∧ SameHost s t ∧ SameFlags s t ∧ SameSbAll s t ∧ SameBuckleAll s t ∧ SameCoresAll s t ∧ SameGirthAll s t ∧ SameTablesAll s t ∧ SameHarAll s t ∧ SameChainAll s t ∧ SameRadioAll s t ∧ SamePowerRxTilesTxTiles s t ∧ SameDictPower s t

theorem Kept170.of {s t : State} (h : t.outside { anyNum := true, reports := true } = s.outside { anyNum := true, reports := true }) : Kept170 s t :=
  ⟨.of h rfl, .of h rfl, .of h rfl, .of h rfl, .of h rfl, .of h rfl, .of h rfl, .of h rfl, .of h rfl, .of h rfl, .of h rfl, .of h rfl, .of h rfl, .of h rfl, .of h rfl, .of h rfl, .of h rfl, .of h rfl, .of h rfl, .of h rfl, .of h rfl, .of h rfl, .of h rfl, .of h rfl, .of h rfl, .of h rfl, .of h rfl, .of h rfl, .of h rfl, .of h rfl, .of h rfl, .of h rfl, .of h rfl, .of h rfl, .of h rfl, .of h rfl, .of h rfl, .of h rfl, .of h rfl, .of h rfl, .of h rfl, .of h rfl, .of h rfl, .of h rfl, .of h rfl, .of h rfl, .of h rfl rfl rfl rfl rfl, .of h rfl rfl, .of h rfl rfl, .of h rfl rfl rfl rfl, .of h rfl rfl rfl, .of h rfl rfl rfl, .of h rfl rfl, .of h rfl rfl rfl rfl, .of h rfl rfl rfl, .of h rfl rfl⟩

/-- Every part but these is kept: nums, har, queues, reports. -/
abbrev Kept171 (s t : State) : Prop :=
  SamePending s t ∧ SameDraws s t ∧ SameOut s t ∧ SameIdent s t ∧ SameFuses s t ∧ SamePins s t ∧ SameClock s t ∧ SamePulses s t ∧ SameChain s t ∧ SameChainPorts s t ∧ SameDict s t ∧ SameDoms s t ∧ SameResults s t ∧ SameLogs s t ∧ SamePower s t ∧ SameVbat s t ∧ SameRadio s t ∧ SamePorts s t ∧ SameRxTiles s t ∧ SameTxTiles s t ∧ SameGirth s t ∧ SameRecs s t ∧ SameSched s t ∧ SameCinch s t ∧ SameKeeper s t ∧ SameSb s t ∧ SameStraps s t ∧ SameJournal s t ∧ SameAttached s t ∧ SameNodeQueues s t ∧ SameTables s t ∧ SameWindows s t ∧ SameHalter s t ∧ SameArrivals s t ∧ SameLacing s t ∧ SameTree s t ∧ SameCurb s t ∧ SameConcho s t ∧ SameCores s t ∧ SameLocals s t ∧ SameBuckle s t ∧ SameEdges s t ∧ SameHost s t ∧ SameFlags s t ∧ SameSbAll s t ∧ SameBuckleAll s t ∧ SameCoresAll s t ∧ SameGirthAll s t ∧ SameTablesAll s t ∧ SameChainAll s t ∧ SameRadioAll s t ∧ SamePowerRxTilesTxTiles s t ∧ SameDictPower s t

theorem Kept171.of {s t : State} (h : t.outside { anyNum := true, har := true, queues := true, reports := true } = s.outside { anyNum := true, har := true, queues := true, reports := true }) : Kept171 s t :=
  ⟨.of h rfl, .of h rfl, .of h rfl, .of h rfl, .of h rfl, .of h rfl, .of h rfl, .of h rfl, .of h rfl, .of h rfl, .of h rfl, .of h rfl, .of h rfl, .of h rfl, .of h rfl, .of h rfl, .of h rfl, .of h rfl, .of h rfl, .of h rfl, .of h rfl, .of h rfl, .of h rfl, .of h rfl, .of h rfl, .of h rfl, .of h rfl, .of h rfl, .of h rfl, .of h rfl, .of h rfl, .of h rfl, .of h rfl, .of h rfl, .of h rfl, .of h rfl, .of h rfl, .of h rfl, .of h rfl, .of h rfl, .of h rfl, .of h rfl, .of h rfl, .of h rfl, .of h rfl rfl rfl rfl rfl, .of h rfl rfl, .of h rfl rfl, .of h rfl rfl rfl rfl, .of h rfl rfl rfl, .of h rfl rfl, .of h rfl rfl rfl rfl, .of h rfl rfl rfl, .of h rfl rfl⟩

/-- Every part but these is kept: chainPorts, nums, reports. -/
abbrev Kept172 (s t : State) : Prop :=
  SamePending s t ∧ SameDraws s t ∧ SameOut s t ∧ SameIdent s t ∧ SameFuses s t ∧ SamePins s t ∧ SameClock s t ∧ SamePulses s t ∧ SameChain s t ∧ SameDict s t ∧ SameDoms s t ∧ SameResults s t ∧ SameLogs s t ∧ SamePower s t ∧ SameVbat s t ∧ SameRadio s t ∧ SamePorts s t ∧ SameRxTiles s t ∧ SameTxTiles s t ∧ SameGirth s t ∧ SameRecs s t ∧ SameSched s t ∧ SameCinch s t ∧ SameKeeper s t ∧ SameSb s t ∧ SameStraps s t ∧ SameJournal s t ∧ SameAttached s t ∧ SameNodeQueues s t ∧ SameTables s t ∧ SameWindows s t ∧ SameHalter s t ∧ SameHar s t ∧ SameQueues s t ∧ SameArrivals s t ∧ SameLacing s t ∧ SameTree s t ∧ SameCurb s t ∧ SameConcho s t ∧ SameCores s t ∧ SameLocals s t ∧ SameBuckle s t ∧ SameEdges s t ∧ SameHost s t ∧ SameFlags s t ∧ SameSbAll s t ∧ SameBuckleAll s t ∧ SameCoresAll s t ∧ SameGirthAll s t ∧ SameTablesAll s t ∧ SameHarAll s t ∧ SameRadioAll s t ∧ SamePowerRxTilesTxTiles s t ∧ SameDictPower s t

theorem Kept172.of {s t : State} (h : t.outside { chainPorts := true, anyNum := true, reports := true } = s.outside { chainPorts := true, anyNum := true, reports := true }) : Kept172 s t :=
  ⟨.of h rfl, .of h rfl, .of h rfl, .of h rfl, .of h rfl, .of h rfl, .of h rfl, .of h rfl, .of h rfl, .of h rfl, .of h rfl, .of h rfl, .of h rfl, .of h rfl, .of h rfl, .of h rfl, .of h rfl, .of h rfl, .of h rfl, .of h rfl, .of h rfl, .of h rfl, .of h rfl, .of h rfl, .of h rfl, .of h rfl, .of h rfl, .of h rfl, .of h rfl, .of h rfl, .of h rfl, .of h rfl, .of h rfl, .of h rfl, .of h rfl, .of h rfl, .of h rfl, .of h rfl, .of h rfl, .of h rfl, .of h rfl, .of h rfl, .of h rfl, .of h rfl, .of h rfl, .of h rfl rfl rfl rfl rfl, .of h rfl rfl, .of h rfl rfl, .of h rfl rfl rfl rfl, .of h rfl rfl rfl, .of h rfl rfl rfl, .of h rfl rfl rfl rfl, .of h rfl rfl rfl, .of h rfl rfl⟩

/-- Every part but these is kept: draws, out, nums, reports. -/
abbrev Kept173 (s t : State) : Prop :=
  SamePending s t ∧ SameIdent s t ∧ SameFuses s t ∧ SamePins s t ∧ SameClock s t ∧ SamePulses s t ∧ SameChain s t ∧ SameChainPorts s t ∧ SameDict s t ∧ SameDoms s t ∧ SameResults s t ∧ SameLogs s t ∧ SamePower s t ∧ SameVbat s t ∧ SameRadio s t ∧ SamePorts s t ∧ SameRxTiles s t ∧ SameTxTiles s t ∧ SameGirth s t ∧ SameRecs s t ∧ SameSched s t ∧ SameCinch s t ∧ SameKeeper s t ∧ SameSb s t ∧ SameStraps s t ∧ SameJournal s t ∧ SameAttached s t ∧ SameNodeQueues s t ∧ SameTables s t ∧ SameWindows s t ∧ SameHalter s t ∧ SameHar s t ∧ SameQueues s t ∧ SameArrivals s t ∧ SameLacing s t ∧ SameTree s t ∧ SameCurb s t ∧ SameConcho s t ∧ SameCores s t ∧ SameLocals s t ∧ SameBuckle s t ∧ SameEdges s t ∧ SameHost s t ∧ SameFlags s t ∧ SameSbAll s t ∧ SameBuckleAll s t ∧ SameCoresAll s t ∧ SameGirthAll s t ∧ SameTablesAll s t ∧ SameHarAll s t ∧ SameChainAll s t ∧ SameRadioAll s t ∧ SamePowerRxTilesTxTiles s t ∧ SameDictPower s t

theorem Kept173.of {s t : State} (h : t.outside { draws := true, out := true, anyNum := true, reports := true } = s.outside { draws := true, out := true, anyNum := true, reports := true }) : Kept173 s t :=
  ⟨.of h rfl, .of h rfl, .of h rfl, .of h rfl, .of h rfl, .of h rfl, .of h rfl, .of h rfl, .of h rfl, .of h rfl, .of h rfl, .of h rfl, .of h rfl, .of h rfl, .of h rfl, .of h rfl, .of h rfl, .of h rfl, .of h rfl, .of h rfl, .of h rfl, .of h rfl, .of h rfl, .of h rfl, .of h rfl, .of h rfl, .of h rfl, .of h rfl, .of h rfl, .of h rfl, .of h rfl, .of h rfl, .of h rfl, .of h rfl, .of h rfl, .of h rfl, .of h rfl, .of h rfl, .of h rfl, .of h rfl, .of h rfl, .of h rfl, .of h rfl, .of h rfl, .of h rfl rfl rfl rfl rfl, .of h rfl rfl, .of h rfl rfl, .of h rfl rfl rfl rfl, .of h rfl rfl rfl, .of h rfl rfl rfl, .of h rfl rfl, .of h rfl rfl rfl rfl, .of h rfl rfl rfl, .of h rfl rfl⟩

/-- Every part but these is kept: out, nums, straps, flags, reports. -/
abbrev Kept174 (s t : State) : Prop :=
  SamePending s t ∧ SameDraws s t ∧ SameIdent s t ∧ SameFuses s t ∧ SamePins s t ∧ SameClock s t ∧ SamePulses s t ∧ SameChain s t ∧ SameChainPorts s t ∧ SameDict s t ∧ SameDoms s t ∧ SameResults s t ∧ SameLogs s t ∧ SamePower s t ∧ SameVbat s t ∧ SameRadio s t ∧ SamePorts s t ∧ SameRxTiles s t ∧ SameTxTiles s t ∧ SameGirth s t ∧ SameRecs s t ∧ SameSched s t ∧ SameCinch s t ∧ SameKeeper s t ∧ SameSb s t ∧ SameJournal s t ∧ SameAttached s t ∧ SameNodeQueues s t ∧ SameTables s t ∧ SameWindows s t ∧ SameHalter s t ∧ SameHar s t ∧ SameQueues s t ∧ SameArrivals s t ∧ SameLacing s t ∧ SameTree s t ∧ SameCurb s t ∧ SameConcho s t ∧ SameCores s t ∧ SameLocals s t ∧ SameBuckle s t ∧ SameEdges s t ∧ SameHost s t ∧ SameBuckleAll s t ∧ SameCoresAll s t ∧ SameGirthAll s t ∧ SameTablesAll s t ∧ SameHarAll s t ∧ SameChainAll s t ∧ SameRadioAll s t ∧ SamePowerRxTilesTxTiles s t ∧ SameDictPower s t

theorem Kept174.of {s t : State} (h : t.outside { out := true, anyNum := true, straps := true, flags := true, reports := true } = s.outside { out := true, anyNum := true, straps := true, flags := true, reports := true }) : Kept174 s t :=
  ⟨.of h rfl, .of h rfl, .of h rfl, .of h rfl, .of h rfl, .of h rfl, .of h rfl, .of h rfl, .of h rfl, .of h rfl, .of h rfl, .of h rfl, .of h rfl, .of h rfl, .of h rfl, .of h rfl, .of h rfl, .of h rfl, .of h rfl, .of h rfl, .of h rfl, .of h rfl, .of h rfl, .of h rfl, .of h rfl, .of h rfl, .of h rfl, .of h rfl, .of h rfl, .of h rfl, .of h rfl, .of h rfl, .of h rfl, .of h rfl, .of h rfl, .of h rfl, .of h rfl, .of h rfl, .of h rfl, .of h rfl, .of h rfl, .of h rfl, .of h rfl, .of h rfl rfl, .of h rfl rfl, .of h rfl rfl rfl rfl, .of h rfl rfl rfl, .of h rfl rfl rfl, .of h rfl rfl, .of h rfl rfl rfl rfl, .of h rfl rfl rfl, .of h rfl rfl⟩

/-- Every part but these is kept: out, nums, straps, har, queues, curb, flags, reports. -/
abbrev Kept175 (s t : State) : Prop :=
  SamePending s t ∧ SameDraws s t ∧ SameIdent s t ∧ SameFuses s t ∧ SamePins s t ∧ SameClock s t ∧ SamePulses s t ∧ SameChain s t ∧ SameChainPorts s t ∧ SameDict s t ∧ SameDoms s t ∧ SameResults s t ∧ SameLogs s t ∧ SamePower s t ∧ SameVbat s t ∧ SameRadio s t ∧ SamePorts s t ∧ SameRxTiles s t ∧ SameTxTiles s t ∧ SameGirth s t ∧ SameRecs s t ∧ SameSched s t ∧ SameCinch s t ∧ SameKeeper s t ∧ SameSb s t ∧ SameJournal s t ∧ SameAttached s t ∧ SameNodeQueues s t ∧ SameTables s t ∧ SameWindows s t ∧ SameHalter s t ∧ SameArrivals s t ∧ SameLacing s t ∧ SameTree s t ∧ SameConcho s t ∧ SameCores s t ∧ SameLocals s t ∧ SameBuckle s t ∧ SameEdges s t ∧ SameHost s t ∧ SameBuckleAll s t ∧ SameCoresAll s t ∧ SameGirthAll s t ∧ SameTablesAll s t ∧ SameChainAll s t ∧ SameRadioAll s t ∧ SamePowerRxTilesTxTiles s t ∧ SameDictPower s t

theorem Kept175.of {s t : State} (h : t.outside { out := true, anyNum := true, straps := true, har := true, queues := true, curb := true, flags := true, reports := true } = s.outside { out := true, anyNum := true, straps := true, har := true, queues := true, curb := true, flags := true, reports := true }) : Kept175 s t :=
  ⟨.of h rfl, .of h rfl, .of h rfl, .of h rfl, .of h rfl, .of h rfl, .of h rfl, .of h rfl, .of h rfl, .of h rfl, .of h rfl, .of h rfl, .of h rfl, .of h rfl, .of h rfl, .of h rfl, .of h rfl, .of h rfl, .of h rfl, .of h rfl, .of h rfl, .of h rfl, .of h rfl, .of h rfl, .of h rfl, .of h rfl, .of h rfl, .of h rfl, .of h rfl, .of h rfl, .of h rfl, .of h rfl, .of h rfl, .of h rfl, .of h rfl, .of h rfl, .of h rfl, .of h rfl, .of h rfl, .of h rfl, .of h rfl rfl, .of h rfl rfl, .of h rfl rfl rfl rfl, .of h rfl rfl rfl, .of h rfl rfl, .of h rfl rfl rfl rfl, .of h rfl rfl rfl, .of h rfl rfl⟩

/-- Every part but these is kept: out, dict, nums, logs, straps, journal, tables, halter, har, queues, curb, edges, flags, reports. -/
abbrev Kept176 (s t : State) : Prop :=
  SamePending s t ∧ SameDraws s t ∧ SameIdent s t ∧ SameFuses s t ∧ SamePins s t ∧ SameClock s t ∧ SamePulses s t ∧ SameChain s t ∧ SameChainPorts s t ∧ SameDoms s t ∧ SameResults s t ∧ SamePower s t ∧ SameVbat s t ∧ SameRadio s t ∧ SamePorts s t ∧ SameRxTiles s t ∧ SameTxTiles s t ∧ SameGirth s t ∧ SameRecs s t ∧ SameSched s t ∧ SameCinch s t ∧ SameKeeper s t ∧ SameSb s t ∧ SameAttached s t ∧ SameNodeQueues s t ∧ SameWindows s t ∧ SameArrivals s t ∧ SameLacing s t ∧ SameTree s t ∧ SameConcho s t ∧ SameCores s t ∧ SameLocals s t ∧ SameBuckle s t ∧ SameHost s t ∧ SameCoresAll s t ∧ SameGirthAll s t ∧ SameChainAll s t ∧ SameRadioAll s t ∧ SamePowerRxTilesTxTiles s t

theorem Kept176.of {s t : State} (h : t.outside { out := true, dict := true, anyNum := true, logs := true, straps := true, journal := true, tables := true, halter := true, har := true, queues := true, curb := true, edges := true, flags := true, reports := true } = s.outside { out := true, dict := true, anyNum := true, logs := true, straps := true, journal := true, tables := true, halter := true, har := true, queues := true, curb := true, edges := true, flags := true, reports := true }) : Kept176 s t :=
  ⟨.of h rfl, .of h rfl, .of h rfl, .of h rfl, .of h rfl, .of h rfl, .of h rfl, .of h rfl, .of h rfl, .of h rfl, .of h rfl, .of h rfl, .of h rfl, .of h rfl, .of h rfl, .of h rfl, .of h rfl, .of h rfl, .of h rfl, .of h rfl, .of h rfl, .of h rfl, .of h rfl, .of h rfl, .of h rfl, .of h rfl, .of h rfl, .of h rfl, .of h rfl, .of h rfl, .of h rfl, .of h rfl, .of h rfl, .of h rfl, .of h rfl rfl, .of h rfl rfl rfl rfl, .of h rfl rfl, .of h rfl rfl rfl rfl, .of h rfl rfl rfl⟩

/-- Every part but these is kept: draws, out, dict, nums, logs, straps, journal, tables, halter, har, queues, curb, edges, flags, reports. -/
abbrev Kept177 (s t : State) : Prop :=
  SamePending s t ∧ SameIdent s t ∧ SameFuses s t ∧ SamePins s t ∧ SameClock s t ∧ SamePulses s t ∧ SameChain s t ∧ SameChainPorts s t ∧ SameDoms s t ∧ SameResults s t ∧ SamePower s t ∧ SameVbat s t ∧ SameRadio s t ∧ SamePorts s t ∧ SameRxTiles s t ∧ SameTxTiles s t ∧ SameGirth s t ∧ SameRecs s t ∧ SameSched s t ∧ SameCinch s t ∧ SameKeeper s t ∧ SameSb s t ∧ SameAttached s t ∧ SameNodeQueues s t ∧ SameWindows s t ∧ SameArrivals s t ∧ SameLacing s t ∧ SameTree s t ∧ SameConcho s t ∧ SameCores s t ∧ SameLocals s t ∧ SameBuckle s t ∧ SameHost s t ∧ SameCoresAll s t ∧ SameGirthAll s t ∧ SameChainAll s t ∧ SameRadioAll s t ∧ SamePowerRxTilesTxTiles s t

theorem Kept177.of {s t : State} (h : t.outside { draws := true, out := true, dict := true, anyNum := true, logs := true, straps := true, journal := true, tables := true, halter := true, har := true, queues := true, curb := true, edges := true, flags := true, reports := true } = s.outside { draws := true, out := true, dict := true, anyNum := true, logs := true, straps := true, journal := true, tables := true, halter := true, har := true, queues := true, curb := true, edges := true, flags := true, reports := true }) : Kept177 s t :=
  ⟨.of h rfl, .of h rfl, .of h rfl, .of h rfl, .of h rfl, .of h rfl, .of h rfl, .of h rfl, .of h rfl, .of h rfl, .of h rfl, .of h rfl, .of h rfl, .of h rfl, .of h rfl, .of h rfl, .of h rfl, .of h rfl, .of h rfl, .of h rfl, .of h rfl, .of h rfl, .of h rfl, .of h rfl, .of h rfl, .of h rfl, .of h rfl, .of h rfl, .of h rfl, .of h rfl, .of h rfl, .of h rfl, .of h rfl, .of h rfl rfl, .of h rfl rfl rfl rfl, .of h rfl rfl, .of h rfl rfl rfl rfl, .of h rfl rfl rfl⟩

/-- Every part but these is kept: out, nums, reports. -/
abbrev Kept178 (s t : State) : Prop :=
  SamePending s t ∧ SameDraws s t ∧ SameIdent s t ∧ SameFuses s t ∧ SamePins s t ∧ SameClock s t ∧ SamePulses s t ∧ SameChain s t ∧ SameChainPorts s t ∧ SameDict s t ∧ SameDoms s t ∧ SameResults s t ∧ SameLogs s t ∧ SamePower s t ∧ SameVbat s t ∧ SameRadio s t ∧ SamePorts s t ∧ SameRxTiles s t ∧ SameTxTiles s t ∧ SameGirth s t ∧ SameRecs s t ∧ SameSched s t ∧ SameCinch s t ∧ SameKeeper s t ∧ SameSb s t ∧ SameStraps s t ∧ SameJournal s t ∧ SameAttached s t ∧ SameNodeQueues s t ∧ SameTables s t ∧ SameWindows s t ∧ SameHalter s t ∧ SameHar s t ∧ SameQueues s t ∧ SameArrivals s t ∧ SameLacing s t ∧ SameTree s t ∧ SameCurb s t ∧ SameConcho s t ∧ SameCores s t ∧ SameLocals s t ∧ SameBuckle s t ∧ SameEdges s t ∧ SameHost s t ∧ SameFlags s t ∧ SameSbAll s t ∧ SameBuckleAll s t ∧ SameCoresAll s t ∧ SameGirthAll s t ∧ SameTablesAll s t ∧ SameHarAll s t ∧ SameChainAll s t ∧ SameRadioAll s t ∧ SamePowerRxTilesTxTiles s t ∧ SameDictPower s t

theorem Kept178.of {s t : State} (h : t.outside { out := true, anyNum := true, reports := true } = s.outside { out := true, anyNum := true, reports := true }) : Kept178 s t :=
  ⟨.of h rfl, .of h rfl, .of h rfl, .of h rfl, .of h rfl, .of h rfl, .of h rfl, .of h rfl, .of h rfl, .of h rfl, .of h rfl, .of h rfl, .of h rfl, .of h rfl, .of h rfl, .of h rfl, .of h rfl, .of h rfl, .of h rfl, .of h rfl, .of h rfl, .of h rfl, .of h rfl, .of h rfl, .of h rfl, .of h rfl, .of h rfl, .of h rfl, .of h rfl, .of h rfl, .of h rfl, .of h rfl, .of h rfl, .of h rfl, .of h rfl, .of h rfl, .of h rfl, .of h rfl, .of h rfl, .of h rfl, .of h rfl, .of h rfl, .of h rfl, .of h rfl, .of h rfl, .of h rfl rfl rfl rfl rfl, .of h rfl rfl, .of h rfl rfl, .of h rfl rfl rfl rfl, .of h rfl rfl rfl, .of h rfl rfl rfl, .of h rfl rfl, .of h rfl rfl rfl rfl, .of h rfl rfl rfl, .of h rfl rfl⟩

/-- Every part but these is kept: dict, nums, logs, straps, journal, nodeQueues, har, queues, edges, flags, reports. -/
abbrev Kept179 (s t : State) : Prop :=
  SamePending s t ∧ SameDraws s t ∧ SameOut s t ∧ SameIdent s t ∧ SameFuses s t ∧ SamePins s t ∧ SameClock s t ∧ SamePulses s t ∧ SameChain s t ∧ SameChainPorts s t ∧ SameDoms s t ∧ SameResults s t ∧ SamePower s t ∧ SameVbat s t ∧ SameRadio s t ∧ SamePorts s t ∧ SameRxTiles s t ∧ SameTxTiles s t ∧ SameGirth s t ∧ SameRecs s t ∧ SameSched s t ∧ SameCinch s t ∧ SameKeeper s t ∧ SameSb s t ∧ SameAttached s t ∧ SameTables s t ∧ SameWindows s t ∧ SameHalter s t ∧ SameArrivals s t ∧ SameLacing s t ∧ SameTree s t ∧ SameCurb s t ∧ SameConcho s t ∧ SameCores s t ∧ SameLocals s t ∧ SameBuckle s t ∧ SameHost s t ∧ SameCoresAll s t ∧ SameGirthAll s t ∧ SameTablesAll s t ∧ SameChainAll s t ∧ SameRadioAll s t ∧ SamePowerRxTilesTxTiles s t

theorem Kept179.of {s t : State} (h : t.outside { dict := true, anyNum := true, logs := true, straps := true, journal := true, nodeQueues := true, har := true, queues := true, edges := true, flags := true, reports := true } = s.outside { dict := true, anyNum := true, logs := true, straps := true, journal := true, nodeQueues := true, har := true, queues := true, edges := true, flags := true, reports := true }) : Kept179 s t :=
  ⟨.of h rfl, .of h rfl, .of h rfl, .of h rfl, .of h rfl, .of h rfl, .of h rfl, .of h rfl, .of h rfl, .of h rfl, .of h rfl, .of h rfl, .of h rfl, .of h rfl, .of h rfl, .of h rfl, .of h rfl, .of h rfl, .of h rfl, .of h rfl, .of h rfl, .of h rfl, .of h rfl, .of h rfl, .of h rfl, .of h rfl, .of h rfl, .of h rfl, .of h rfl, .of h rfl, .of h rfl, .of h rfl, .of h rfl, .of h rfl, .of h rfl, .of h rfl, .of h rfl, .of h rfl rfl, .of h rfl rfl rfl rfl, .of h rfl rfl rfl, .of h rfl rfl, .of h rfl rfl rfl rfl, .of h rfl rfl rfl⟩

/-- Every part but these is kept: dict, nums, logs, girth, straps, journal, nodeQueues, har, queues, edges, flags, reports. -/
abbrev Kept180 (s t : State) : Prop :=
  SamePending s t ∧ SameDraws s t ∧ SameOut s t ∧ SameIdent s t ∧ SameFuses s t ∧ SamePins s t ∧ SameClock s t ∧ SamePulses s t ∧ SameChain s t ∧ SameChainPorts s t ∧ SameDoms s t ∧ SameResults s t ∧ SamePower s t ∧ SameVbat s t ∧ SameRadio s t ∧ SamePorts s t ∧ SameRxTiles s t ∧ SameTxTiles s t ∧ SameRecs s t ∧ SameSched s t ∧ SameCinch s t ∧ SameKeeper s t ∧ SameSb s t ∧ SameAttached s t ∧ SameTables s t ∧ SameWindows s t ∧ SameHalter s t ∧ SameArrivals s t ∧ SameLacing s t ∧ SameTree s t ∧ SameCurb s t ∧ SameConcho s t ∧ SameCores s t ∧ SameLocals s t ∧ SameBuckle s t ∧ SameHost s t ∧ SameCoresAll s t ∧ SameTablesAll s t ∧ SameChainAll s t ∧ SameRadioAll s t ∧ SamePowerRxTilesTxTiles s t

theorem Kept180.of {s t : State} (h : t.outside { dict := true, anyNum := true, logs := true, girth := true, straps := true, journal := true, nodeQueues := true, har := true, queues := true, edges := true, flags := true, reports := true } = s.outside { dict := true, anyNum := true, logs := true, girth := true, straps := true, journal := true, nodeQueues := true, har := true, queues := true, edges := true, flags := true, reports := true }) : Kept180 s t :=
  ⟨.of h rfl, .of h rfl, .of h rfl, .of h rfl, .of h rfl, .of h rfl, .of h rfl, .of h rfl, .of h rfl, .of h rfl, .of h rfl, .of h rfl, .of h rfl, .of h rfl, .of h rfl, .of h rfl, .of h rfl, .of h rfl, .of h rfl, .of h rfl, .of h rfl, .of h rfl, .of h rfl, .of h rfl, .of h rfl, .of h rfl, .of h rfl, .of h rfl, .of h rfl, .of h rfl, .of h rfl, .of h rfl, .of h rfl, .of h rfl, .of h rfl, .of h rfl, .of h rfl rfl, .of h rfl rfl rfl, .of h rfl rfl, .of h rfl rfl rfl rfl, .of h rfl rfl rfl⟩

/-- Every part but these is kept: draws, out, chainPorts, dict, nums, logs, girth, straps, journal, nodeQueues, har, queues, edges, flags, reports. -/
abbrev Kept181 (s t : State) : Prop :=
  SamePending s t ∧ SameIdent s t ∧ SameFuses s t ∧ SamePins s t ∧ SameClock s t ∧ SamePulses s t ∧ SameChain s t ∧ SameDoms s t ∧ SameResults s t ∧ SamePower s t ∧ SameVbat s t ∧ SameRadio s t ∧ SamePorts s t ∧ SameRxTiles s t ∧ SameTxTiles s t ∧ SameRecs s t ∧ SameSched s t ∧ SameCinch s t ∧ SameKeeper s t ∧ SameSb s t ∧ SameAttached s t ∧ SameTables s t ∧ SameWindows s t ∧ SameHalter s t ∧ SameArrivals s t ∧ SameLacing s t ∧ SameTree s t ∧ SameCurb s t ∧ SameConcho s t ∧ SameCores s t ∧ SameLocals s t ∧ SameBuckle s t ∧ SameHost s t ∧ SameCoresAll s t ∧ SameTablesAll s t ∧ SameRadioAll s t ∧ SamePowerRxTilesTxTiles s t

theorem Kept181.of {s t : State} (h : t.outside { draws := true, out := true, chainPorts := true, dict := true, anyNum := true, logs := true, girth := true, straps := true, journal := true, nodeQueues := true, har := true, queues := true, edges := true, flags := true, reports := true } = s.outside { draws := true, out := true, chainPorts := true, dict := true, anyNum := true, logs := true, girth := true, straps := true, journal := true, nodeQueues := true, har := true, queues := true, edges := true, flags := true, reports := true }) : Kept181 s t :=
  ⟨.of h rfl, .of h rfl, .of h rfl, .of h rfl, .of h rfl, .of h rfl, .of h rfl, .of h rfl, .of h rfl, .of h rfl, .of h rfl, .of h rfl, .of h rfl, .of h rfl, .of h rfl, .of h rfl, .of h rfl, .of h rfl, .of h rfl, .of h rfl, .of h rfl, .of h rfl, .of h rfl, .of h rfl, .of h rfl, .of h rfl, .of h rfl, .of h rfl, .of h rfl, .of h rfl, .of h rfl, .of h rfl, .of h rfl, .of h rfl rfl, .of h rfl rfl rfl, .of h rfl rfl rfl rfl, .of h rfl rfl rfl⟩

/-- Every part but these is kept: nums, buckle, edges. -/
abbrev Kept182 (s t : State) : Prop :=
  SamePending s t ∧ SameDraws s t ∧ SameOut s t ∧ SameIdent s t ∧ SameFuses s t ∧ SamePins s t ∧ SameClock s t ∧ SamePulses s t ∧ SameChain s t ∧ SameChainPorts s t ∧ SameDict s t ∧ SameDoms s t ∧ SameResults s t ∧ SameLogs s t ∧ SamePower s t ∧ SameVbat s t ∧ SameRadio s t ∧ SamePorts s t ∧ SameRxTiles s t ∧ SameTxTiles s t ∧ SameGirth s t ∧ SameRecs s t ∧ SameSched s t ∧ SameCinch s t ∧ SameKeeper s t ∧ SameSb s t ∧ SameStraps s t ∧ SameJournal s t ∧ SameAttached s t ∧ SameNodeQueues s t ∧ SameTables s t ∧ SameWindows s t ∧ SameHalter s t ∧ SameHar s t ∧ SameQueues s t ∧ SameArrivals s t ∧ SameLacing s t ∧ SameTree s t ∧ SameCurb s t ∧ SameConcho s t ∧ SameCores s t ∧ SameLocals s t ∧ SameHost s t ∧ SameFlags s t ∧ SameReports s t ∧ SameSbAll s t ∧ SameHostAll s t ∧ SameCoresAll s t ∧ SameGirthAll s t ∧ SameTablesAll s t ∧ SameHarAll s t ∧ SameChainAll s t ∧ SameRadioAll s t ∧ SamePowerRxTilesTxTiles s t ∧ SameDictPower s t

theorem Kept182.of {s t : State} (h : t.outside { anyNum := true, buckle := true, edges := true } = s.outside { anyNum := true, buckle := true, edges := true }) : Kept182 s t :=
  ⟨.of h rfl, .of h rfl, .of h rfl, .of h rfl, .of h rfl, .of h rfl, .of h rfl, .of h rfl, .of h rfl, .of h rfl, .of h rfl, .of h rfl, .of h rfl, .of h rfl, .of h rfl, .of h rfl, .of h rfl, .of h rfl, .of h rfl, .of h rfl, .of h rfl, .of h rfl, .of h rfl, .of h rfl, .of h rfl, .of h rfl, .of h rfl, .of h rfl, .of h rfl, .of h rfl, .of h rfl, .of h rfl, .of h rfl, .of h rfl, .of h rfl, .of h rfl, .of h rfl, .of h rfl, .of h rfl, .of h rfl, .of h rfl, .of h rfl, .of h rfl, .of h rfl, .of h rfl, .of h rfl rfl rfl rfl rfl, .of h rfl rfl rfl, .of h rfl rfl, .of h rfl rfl rfl rfl, .of h rfl rfl rfl, .of h rfl rfl rfl, .of h rfl rfl, .of h rfl rfl rfl rfl, .of h rfl rfl rfl, .of h rfl rfl⟩

/-- Every part but these is kept: buckle. -/
abbrev Kept183 (s t : State) : Prop :=
  SamePending s t ∧ SameDraws s t ∧ SameOut s t ∧ SameIdent s t ∧ SameFuses s t ∧ SamePins s t ∧ SameClock s t ∧ SamePulses s t ∧ SameChain s t ∧ SameChainPorts s t ∧ SameDict s t ∧ SameNums s t ∧ SameDoms s t ∧ SameResults s t ∧ SameLogs s t ∧ SamePower s t ∧ SameVbat s t ∧ SameRadio s t ∧ SamePorts s t ∧ SameRxTiles s t ∧ SameTxTiles s t ∧ SameGirth s t ∧ SameRecs s t ∧ SameSched s t ∧ SameCinch s t ∧ SameKeeper s t ∧ SameSb s t ∧ SameStraps s t ∧ SameJournal s t ∧ SameAttached s t ∧ SameNodeQueues s t ∧ SameTables s t ∧ SameWindows s t ∧ SameHalter s t ∧ SameHar s t ∧ SameQueues s t ∧ SameArrivals s t ∧ SameLacing s t ∧ SameTree s t ∧ SameCurb s t ∧ SameConcho s t ∧ SameCores s t ∧ SameLocals s t ∧ SameEdges s t ∧ SameHost s t ∧ SameFlags s t ∧ SameReports s t ∧ SameDictAll s t ∧ SameSbAll s t ∧ SameHostAll s t ∧ SameCoresAll s t ∧ SameGirthAll s t ∧ SameTablesAll s t ∧ SameHarAll s t ∧ SameChainAll s t ∧ SameRadioAll s t ∧ SamePowerRxTilesTxTiles s t ∧ SameDictPower s t ∧ SameDictNums s t ∧ SameClockNumsPorts s t

theorem Kept183.of {s t : State} (h : t.outside { buckle := true } = s.outside { buckle := true }) : Kept183 s t :=
  ⟨.of h rfl, .of h rfl, .of h rfl, .of h rfl, .of h rfl, .of h rfl, .of h rfl, .of h rfl, .of h rfl, .of h rfl, .of h rfl, .of h rfl, .of h rfl, .of h rfl, .of h rfl, .of h rfl, .of h rfl, .of h rfl, .of h rfl, .of h rfl, .of h rfl, .of h rfl, .of h rfl, .of h rfl, .of h rfl, .of h rfl, .of h rfl, .of h rfl, .of h rfl, .of h rfl, .of h rfl, .of h rfl, .of h rfl, .of h rfl, .of h rfl, .of h rfl, .of h rfl, .of h rfl, .of h rfl, .of h rfl, .of h rfl, .of h rfl, .of h rfl, .of h rfl, .of h rfl, .of h rfl, .of h rfl, .of h rfl rfl rfl rfl rfl, .of h rfl rfl rfl rfl rfl, .of h rfl rfl rfl, .of h rfl rfl, .of h rfl rfl rfl rfl, .of h rfl rfl rfl, .of h rfl rfl rfl, .of h rfl rfl, .of h rfl rfl rfl rfl, .of h rfl rfl rfl, .of h rfl rfl, .of h rfl rfl, .of h rfl rfl rfl⟩

/-- Every part but these is kept: host, flags. -/
abbrev Kept184 (s t : State) : Prop :=
  SamePending s t ∧ SameDraws s t ∧ SameOut s t ∧ SameIdent s t ∧ SameFuses s t ∧ SamePins s t ∧ SameClock s t ∧ SamePulses s t ∧ SameChain s t ∧ SameChainPorts s t ∧ SameDict s t ∧ SameNums s t ∧ SameDoms s t ∧ SameResults s t ∧ SameLogs s t ∧ SamePower s t ∧ SameVbat s t ∧ SameRadio s t ∧ SamePorts s t ∧ SameRxTiles s t ∧ SameTxTiles s t ∧ SameGirth s t ∧ SameRecs s t ∧ SameSched s t ∧ SameCinch s t ∧ SameKeeper s t ∧ SameSb s t ∧ SameStraps s t ∧ SameJournal s t ∧ SameAttached s t ∧ SameNodeQueues s t ∧ SameTables s t ∧ SameWindows s t ∧ SameHalter s t ∧ SameHar s t ∧ SameQueues s t ∧ SameArrivals s t ∧ SameLacing s t ∧ SameTree s t ∧ SameCurb s t ∧ SameConcho s t ∧ SameCores s t ∧ SameLocals s t ∧ SameBuckle s t ∧ SameEdges s t ∧ SameReports s t ∧ SameDictAll s t ∧ SameSbAll s t ∧ SameBuckleAll s t ∧ SameCoresAll s t ∧ SameGirthAll s t ∧ SameTablesAll s t ∧ SameHarAll s t ∧ SameChainAll s t ∧ SameRadioAll s t ∧ SamePowerRxTilesTxTiles s t ∧ SameDictPower s t ∧ SameDictNums s t ∧ SameClockNumsPorts s t

theorem Kept184.of {s t : State} (h : t.outside { host := true, flags := true } = s.outside { host := true, flags := true }) : Kept184 s t :=
  ⟨.of h rfl, .of h rfl, .of h rfl, .of h rfl, .of h rfl, .of h rfl, .of h rfl, .of h rfl, .of h rfl, .of h rfl, .of h rfl, .of h rfl, .of h rfl, .of h rfl, .of h rfl, .of h rfl, .of h rfl, .of h rfl, .of h rfl, .of h rfl, .of h rfl, .of h rfl, .of h rfl, .of h rfl, .of h rfl, .of h rfl, .of h rfl, .of h rfl, .of h rfl, .of h rfl, .of h rfl, .of h rfl, .of h rfl, .of h rfl, .of h rfl, .of h rfl, .of h rfl, .of h rfl, .of h rfl, .of h rfl, .of h rfl, .of h rfl, .of h rfl, .of h rfl, .of h rfl, .of h rfl, .of h rfl rfl rfl rfl rfl, .of h rfl rfl rfl rfl rfl, .of h rfl rfl, .of h rfl rfl, .of h rfl rfl rfl rfl, .of h rfl rfl rfl, .of h rfl rfl rfl, .of h rfl rfl, .of h rfl rfl rfl rfl, .of h rfl rfl rfl, .of h rfl rfl, .of h rfl rfl, .of h rfl rfl rfl⟩

/-- Every part but these is kept: host. -/
abbrev Kept185 (s t : State) : Prop :=
  SamePending s t ∧ SameDraws s t ∧ SameOut s t ∧ SameIdent s t ∧ SameFuses s t ∧ SamePins s t ∧ SameClock s t ∧ SamePulses s t ∧ SameChain s t ∧ SameChainPorts s t ∧ SameDict s t ∧ SameNums s t ∧ SameDoms s t ∧ SameResults s t ∧ SameLogs s t ∧ SamePower s t ∧ SameVbat s t ∧ SameRadio s t ∧ SamePorts s t ∧ SameRxTiles s t ∧ SameTxTiles s t ∧ SameGirth s t ∧ SameRecs s t ∧ SameSched s t ∧ SameCinch s t ∧ SameKeeper s t ∧ SameSb s t ∧ SameStraps s t ∧ SameJournal s t ∧ SameAttached s t ∧ SameNodeQueues s t ∧ SameTables s t ∧ SameWindows s t ∧ SameHalter s t ∧ SameHar s t ∧ SameQueues s t ∧ SameArrivals s t ∧ SameLacing s t ∧ SameTree s t ∧ SameCurb s t ∧ SameConcho s t ∧ SameCores s t ∧ SameLocals s t ∧ SameBuckle s t ∧ SameEdges s t ∧ SameFlags s t ∧ SameReports s t ∧ SameDictAll s t ∧ SameSbAll s t ∧ SameBuckleAll s t ∧ SameCoresAll s t ∧ SameGirthAll s t ∧ SameTablesAll s t ∧ SameHarAll s t ∧ SameChainAll s t ∧ SameRadioAll s t ∧ SamePowerRxTilesTxTiles s t ∧ SameDictPower s t ∧ SameDictNums s t ∧ SameClockNumsPorts s t

theorem Kept185.of {s t : State} (h : t.outside { host := true } = s.outside { host := true }) : Kept185 s t :=
  ⟨.of h rfl, .of h rfl, .of h rfl, .of h rfl, .of h rfl, .of h rfl, .of h rfl, .of h rfl, .of h rfl, .of h rfl, .of h rfl, .of h rfl, .of h rfl, .of h rfl, .of h rfl, .of h rfl, .of h rfl, .of h rfl, .of h rfl, .of h rfl, .of h rfl, .of h rfl, .of h rfl, .of h rfl, .of h rfl, .of h rfl, .of h rfl, .of h rfl, .of h rfl, .of h rfl, .of h rfl, .of h rfl, .of h rfl, .of h rfl, .of h rfl, .of h rfl, .of h rfl, .of h rfl, .of h rfl, .of h rfl, .of h rfl, .of h rfl, .of h rfl, .of h rfl, .of h rfl, .of h rfl, .of h rfl, .of h rfl rfl rfl rfl rfl, .of h rfl rfl rfl rfl rfl, .of h rfl rfl, .of h rfl rfl, .of h rfl rfl rfl rfl, .of h rfl rfl rfl, .of h rfl rfl rfl, .of h rfl rfl, .of h rfl rfl rfl rfl, .of h rfl rfl rfl, .of h rfl rfl, .of h rfl rfl, .of h rfl rfl rfl⟩

/-- Every part but these is kept: out, nums, host, flags, reports. -/
abbrev Kept186 (s t : State) : Prop :=
  SamePending s t ∧ SameDraws s t ∧ SameIdent s t ∧ SameFuses s t ∧ SamePins s t ∧ SameClock s t ∧ SamePulses s t ∧ SameChain s t ∧ SameChainPorts s t ∧ SameDict s t ∧ SameDoms s t ∧ SameResults s t ∧ SameLogs s t ∧ SamePower s t ∧ SameVbat s t ∧ SameRadio s t ∧ SamePorts s t ∧ SameRxTiles s t ∧ SameTxTiles s t ∧ SameGirth s t ∧ SameRecs s t ∧ SameSched s t ∧ SameCinch s t ∧ SameKeeper s t ∧ SameSb s t ∧ SameStraps s t ∧ SameJournal s t ∧ SameAttached s t ∧ SameNodeQueues s t ∧ SameTables s t ∧ SameWindows s t ∧ SameHalter s t ∧ SameHar s t ∧ SameQueues s t ∧ SameArrivals s t ∧ SameLacing s t ∧ SameTree s t ∧ SameCurb s t ∧ SameConcho s t ∧ SameCores s t ∧ SameLocals s t ∧ SameBuckle s t ∧ SameEdges s t ∧ SameSbAll s t ∧ SameBuckleAll s t ∧ SameCoresAll s t ∧ SameGirthAll s t ∧ SameTablesAll s t ∧ SameHarAll s t ∧ SameChainAll s t ∧ SameRadioAll s t ∧ SamePowerRxTilesTxTiles s t ∧ SameDictPower s t

theorem Kept186.of {s t : State} (h : t.outside { out := true, anyNum := true, host := true, flags := true, reports := true } = s.outside { out := true, anyNum := true, host := true, flags := true, reports := true }) : Kept186 s t :=
  ⟨.of h rfl, .of h rfl, .of h rfl, .of h rfl, .of h rfl, .of h rfl, .of h rfl, .of h rfl, .of h rfl, .of h rfl, .of h rfl, .of h rfl, .of h rfl, .of h rfl, .of h rfl, .of h rfl, .of h rfl, .of h rfl, .of h rfl, .of h rfl, .of h rfl, .of h rfl, .of h rfl, .of h rfl, .of h rfl, .of h rfl, .of h rfl, .of h rfl, .of h rfl, .of h rfl, .of h rfl, .of h rfl, .of h rfl, .of h rfl, .of h rfl, .of h rfl, .of h rfl, .of h rfl, .of h rfl, .of h rfl, .of h rfl, .of h rfl, .of h rfl, .of h rfl rfl rfl rfl rfl, .of h rfl rfl, .of h rfl rfl, .of h rfl rfl rfl rfl, .of h rfl rfl rfl, .of h rfl rfl rfl, .of h rfl rfl, .of h rfl rfl rfl rfl, .of h rfl rfl rfl, .of h rfl rfl⟩

/-- Every part but these is kept: draws, out, dict, nums, logs, straps, journal, tables, halter, har, queues, curb, edges, host, flags, reports. -/
abbrev Kept187 (s t : State) : Prop :=
  SamePending s t ∧ SameIdent s t ∧ SameFuses s t ∧ SamePins s t ∧ SameClock s t ∧ SamePulses s t ∧ SameChain s t ∧ SameChainPorts s t ∧ SameDoms s t ∧ SameResults s t ∧ SamePower s t ∧ SameVbat s t ∧ SameRadio s t ∧ SamePorts s t ∧ SameRxTiles s t ∧ SameTxTiles s t ∧ SameGirth s t ∧ SameRecs s t ∧ SameSched s t ∧ SameCinch s t ∧ SameKeeper s t ∧ SameSb s t ∧ SameAttached s t ∧ SameNodeQueues s t ∧ SameWindows s t ∧ SameArrivals s t ∧ SameLacing s t ∧ SameTree s t ∧ SameConcho s t ∧ SameCores s t ∧ SameLocals s t ∧ SameBuckle s t ∧ SameCoresAll s t ∧ SameGirthAll s t ∧ SameChainAll s t ∧ SameRadioAll s t ∧ SamePowerRxTilesTxTiles s t

theorem Kept187.of {s t : State} (h : t.outside { draws := true, out := true, dict := true, anyNum := true, logs := true, straps := true, journal := true, tables := true, halter := true, har := true, queues := true, curb := true, edges := true, host := true, flags := true, reports := true } = s.outside { draws := true, out := true, dict := true, anyNum := true, logs := true, straps := true, journal := true, tables := true, halter := true, har := true, queues := true, curb := true, edges := true, host := true, flags := true, reports := true }) : Kept187 s t :=
  ⟨.of h rfl, .of h rfl, .of h rfl, .of h rfl, .of h rfl, .of h rfl, .of h rfl, .of h rfl, .of h rfl, .of h rfl, .of h rfl, .of h rfl, .of h rfl, .of h rfl, .of h rfl, .of h rfl, .of h rfl, .of h rfl, .of h rfl, .of h rfl, .of h rfl, .of h rfl, .of h rfl, .of h rfl, .of h rfl, .of h rfl, .of h rfl, .of h rfl, .of h rfl, .of h rfl, .of h rfl, .of h rfl, .of h rfl rfl, .of h rfl rfl rfl rfl, .of h rfl rfl, .of h rfl rfl rfl rfl, .of h rfl rfl rfl⟩

/-- Every part but these is kept: dict, nums, logs, straps, journal, edges, host, flags. -/
abbrev Kept188 (s t : State) : Prop :=
  SamePending s t ∧ SameDraws s t ∧ SameOut s t ∧ SameIdent s t ∧ SameFuses s t ∧ SamePins s t ∧ SameClock s t ∧ SamePulses s t ∧ SameChain s t ∧ SameChainPorts s t ∧ SameDoms s t ∧ SameResults s t ∧ SamePower s t ∧ SameVbat s t ∧ SameRadio s t ∧ SamePorts s t ∧ SameRxTiles s t ∧ SameTxTiles s t ∧ SameGirth s t ∧ SameRecs s t ∧ SameSched s t ∧ SameCinch s t ∧ SameKeeper s t ∧ SameSb s t ∧ SameAttached s t ∧ SameNodeQueues s t ∧ SameTables s t ∧ SameWindows s t ∧ SameHalter s t ∧ SameHar s t ∧ SameQueues s t ∧ SameArrivals s t ∧ SameLacing s t ∧ SameTree s t ∧ SameCurb s t ∧ SameConcho s t ∧ SameCores s t ∧ SameLocals s t ∧ SameBuckle s t ∧ SameReports s t ∧ SameCoresAll s t ∧ SameGirthAll s t ∧ SameTablesAll s t ∧ SameHarAll s t ∧ SameChainAll s t ∧ SameRadioAll s t ∧ SamePowerRxTilesTxTiles s t

theorem Kept188.of {s t : State} (h : t.outside { dict := true, anyNum := true, logs := true, straps := true, journal := true, edges := true, host := true, flags := true } = s.outside { dict := true, anyNum := true, logs := true, straps := true, journal := true, edges := true, host := true, flags := true }) : Kept188 s t :=
  ⟨.of h rfl, .of h rfl, .of h rfl, .of h rfl, .of h rfl, .of h rfl, .of h rfl, .of h rfl, .of h rfl, .of h rfl, .of h rfl, .of h rfl, .of h rfl, .of h rfl, .of h rfl, .of h rfl, .of h rfl, .of h rfl, .of h rfl, .of h rfl, .of h rfl, .of h rfl, .of h rfl, .of h rfl, .of h rfl, .of h rfl, .of h rfl, .of h rfl, .of h rfl, .of h rfl, .of h rfl, .of h rfl, .of h rfl, .of h rfl, .of h rfl, .of h rfl, .of h rfl, .of h rfl, .of h rfl, .of h rfl, .of h rfl rfl, .of h rfl rfl rfl rfl, .of h rfl rfl rfl, .of h rfl rfl rfl, .of h rfl rfl, .of h rfl rfl rfl rfl, .of h rfl rfl rfl⟩

/-- Every part but these is kept: chainPorts, dict, nums, doms, results, logs, straps, journal, edges, host, flags. -/
abbrev Kept189 (s t : State) : Prop :=
  SamePending s t ∧ SameDraws s t ∧ SameOut s t ∧ SameIdent s t ∧ SameFuses s t ∧ SamePins s t ∧ SameClock s t ∧ SamePulses s t ∧ SameChain s t ∧ SamePower s t ∧ SameVbat s t ∧ SameRadio s t ∧ SamePorts s t ∧ SameRxTiles s t ∧ SameTxTiles s t ∧ SameGirth s t ∧ SameRecs s t ∧ SameSched s t ∧ SameCinch s t ∧ SameKeeper s t ∧ SameSb s t ∧ SameAttached s t ∧ SameNodeQueues s t ∧ SameTables s t ∧ SameWindows s t ∧ SameHalter s t ∧ SameHar s t ∧ SameQueues s t ∧ SameArrivals s t ∧ SameLacing s t ∧ SameTree s t ∧ SameCurb s t ∧ SameConcho s t ∧ SameCores s t ∧ SameLocals s t ∧ SameBuckle s t ∧ SameReports s t ∧ SameCoresAll s t ∧ SameGirthAll s t ∧ SameTablesAll s t ∧ SameHarAll s t ∧ SameRadioAll s t ∧ SamePowerRxTilesTxTiles s t

theorem Kept189.of {s t : State} (h : t.outside { chainPorts := true, dict := true, anyNum := true, doms := true, results := true, logs := true, straps := true, journal := true, edges := true, host := true, flags := true } = s.outside { chainPorts := true, dict := true, anyNum := true, doms := true, results := true, logs := true, straps := true, journal := true, edges := true, host := true, flags := true }) : Kept189 s t :=
  ⟨.of h rfl, .of h rfl, .of h rfl, .of h rfl, .of h rfl, .of h rfl, .of h rfl, .of h rfl, .of h rfl, .of h rfl, .of h rfl, .of h rfl, .of h rfl, .of h rfl, .of h rfl, .of h rfl, .of h rfl, .of h rfl, .of h rfl, .of h rfl, .of h rfl, .of h rfl, .of h rfl, .of h rfl, .of h rfl, .of h rfl, .of h rfl, .of h rfl, .of h rfl, .of h rfl, .of h rfl, .of h rfl, .of h rfl, .of h rfl, .of h rfl, .of h rfl, .of h rfl, .of h rfl rfl, .of h rfl rfl rfl rfl, .of h rfl rfl rfl, .of h rfl rfl rfl, .of h rfl rfl rfl rfl, .of h rfl rfl rfl⟩

/-- Every part but these is kept: girth, recs, sched. -/
abbrev Kept190 (s t : State) : Prop :=
  SamePending s t ∧ SameDraws s t ∧ SameOut s t ∧ SameIdent s t ∧ SameFuses s t ∧ SamePins s t ∧ SameClock s t ∧ SamePulses s t ∧ SameChain s t ∧ SameChainPorts s t ∧ SameDict s t ∧ SameNums s t ∧ SameDoms s t ∧ SameResults s t ∧ SameLogs s t ∧ SamePower s t ∧ SameVbat s t ∧ SameRadio s t ∧ SamePorts s t ∧ SameRxTiles s t ∧ SameTxTiles s t ∧ SameCinch s t ∧ SameKeeper s t ∧ SameSb s t ∧ SameStraps s t ∧ SameJournal s t ∧ SameAttached s t ∧ SameNodeQueues s t ∧ SameTables s t ∧ SameWindows s t ∧ SameHalter s t ∧ SameHar s t ∧ SameQueues s t ∧ SameArrivals s t ∧ SameLacing s t ∧ SameTree s t ∧ SameCurb s t ∧ SameConcho s t ∧ SameCores s t ∧ SameLocals s t ∧ SameBuckle s t ∧ SameEdges s t ∧ SameHost s t ∧ SameFlags s t ∧ SameReports s t ∧ SameDictAll s t ∧ SameSbAll s t ∧ SameBuckleAll s t ∧ SameHostAll s t ∧ SameCoresAll s t ∧ SameTablesAll s t ∧ SameHarAll s t ∧ SameChainAll s t ∧ SameRadioAll s t ∧ SamePowerRxTilesTxTiles s t ∧ SameDictPower s t ∧ SameDictNums s t ∧ SameClockNumsPorts s t

theorem Kept190.of {s t : State} (h : t.outside { girth := true, recs := true, sched := true } = s.outside { girth := true, recs := true, sched := true }) : Kept190 s t :=
  ⟨.of h rfl, .of h rfl, .of h rfl, .of h rfl, .of h rfl, .of h rfl, .of h rfl, .of h rfl, .of h rfl, .of h rfl, .of h rfl, .of h rfl, .of h rfl, .of h rfl, .of h rfl, .of h rfl, .of h rfl, .of h rfl, .of h rfl, .of h rfl, .of h rfl, .of h rfl, .of h rfl, .of h rfl, .of h rfl, .of h rfl, .of h rfl, .of h rfl, .of h rfl, .of h rfl, .of h rfl, .of h rfl, .of h rfl, .of h rfl, .of h rfl, .of h rfl, .of h rfl, .of h rfl, .of h rfl, .of h rfl, .of h rfl, .of h rfl, .of h rfl, .of h rfl, .of h rfl, .of h rfl rfl rfl rfl rfl, .of h rfl rfl rfl rfl rfl, .of h rfl rfl, .of h rfl rfl rfl, .of h rfl rfl, .of h rfl rfl rfl, .of h rfl rfl rfl, .of h rfl rfl, .of h rfl rfl rfl rfl, .of h rfl rfl rfl, .of h rfl rfl, .of h rfl rfl, .of h rfl rfl rfl⟩

/-- Every part but these is kept: dict, nums, logs, straps, journal, cores, edges, flags. -/
abbrev Kept191 (s t : State) : Prop :=
  SamePending s t ∧ SameDraws s t ∧ SameOut s t ∧ SameIdent s t ∧ SameFuses s t ∧ SamePins s t ∧ SameClock s t ∧ SamePulses s t ∧ SameChain s t ∧ SameChainPorts s t ∧ SameDoms s t ∧ SameResults s t ∧ SamePower s t ∧ SameVbat s t ∧ SameRadio s t ∧ SamePorts s t ∧ SameRxTiles s t ∧ SameTxTiles s t ∧ SameGirth s t ∧ SameRecs s t ∧ SameSched s t ∧ SameCinch s t ∧ SameKeeper s t ∧ SameSb s t ∧ SameAttached s t ∧ SameNodeQueues s t ∧ SameTables s t ∧ SameWindows s t ∧ SameHalter s t ∧ SameHar s t ∧ SameQueues s t ∧ SameArrivals s t ∧ SameLacing s t ∧ SameTree s t ∧ SameCurb s t ∧ SameConcho s t ∧ SameLocals s t ∧ SameBuckle s t ∧ SameHost s t ∧ SameReports s t ∧ SameGirthAll s t ∧ SameTablesAll s t ∧ SameHarAll s t ∧ SameChainAll s t ∧ SameRadioAll s t ∧ SamePowerRxTilesTxTiles s t

theorem Kept191.of {s t : State} (h : t.outside { dict := true, anyNum := true, logs := true, straps := true, journal := true, cores := true, edges := true, flags := true } = s.outside { dict := true, anyNum := true, logs := true, straps := true, journal := true, cores := true, edges := true, flags := true }) : Kept191 s t :=
  ⟨.of h rfl, .of h rfl, .of h rfl, .of h rfl, .of h rfl, .of h rfl, .of h rfl, .of h rfl, .of h rfl, .of h rfl, .of h rfl, .of h rfl, .of h rfl, .of h rfl, .of h rfl, .of h rfl, .of h rfl, .of h rfl, .of h rfl, .of h rfl, .of h rfl, .of h rfl, .of h rfl, .of h rfl, .of h rfl, .of h rfl, .of h rfl, .of h rfl, .of h rfl, .of h rfl, .of h rfl, .of h rfl, .of h rfl, .of h rfl, .of h rfl, .of h rfl, .of h rfl, .of h rfl, .of h rfl, .of h rfl, .of h rfl rfl rfl rfl, .of h rfl rfl rfl, .of h rfl rfl rfl, .of h rfl rfl, .of h rfl rfl rfl rfl, .of h rfl rfl rfl⟩

/-- Every part but these is kept: nums, power, cores. -/
abbrev Kept192 (s t : State) : Prop :=
  SamePending s t ∧ SameDraws s t ∧ SameOut s t ∧ SameIdent s t ∧ SameFuses s t ∧ SamePins s t ∧ SameClock s t ∧ SamePulses s t ∧ SameChain s t ∧ SameChainPorts s t ∧ SameDict s t ∧ SameDoms s t ∧ SameResults s t ∧ SameLogs s t ∧ SameVbat s t ∧ SameRadio s t ∧ SamePorts s t ∧ SameRxTiles s t ∧ SameTxTiles s t ∧ SameGirth s t ∧ SameRecs s t ∧ SameSched s t ∧ SameCinch s t ∧ SameKeeper s t ∧ SameSb s t ∧ SameStraps s t ∧ SameJournal s t ∧ SameAttached s t ∧ SameNodeQueues s t ∧ SameTables s t ∧ SameWindows s t ∧ SameHalter s t ∧ SameHar s t ∧ SameQueues s t ∧ SameArrivals s t ∧ SameLacing s t ∧ SameTree s t ∧ SameCurb s t ∧ SameConcho s t ∧ SameLocals s t ∧ SameBuckle s t ∧ SameEdges s t ∧ SameHost s t ∧ SameFlags s t ∧ SameReports s t ∧ SameSbAll s t ∧ SameBuckleAll s t ∧ SameHostAll s t ∧ SameGirthAll s t ∧ SameTablesAll s t ∧ SameHarAll s t ∧ SameChainAll s t ∧ SameRadioAll s t

theorem Kept192.of {s t : State} (h : t.outside { anyNum := true, power := true, cores := true } = s.outside { anyNum := true, power := true, cores := true }) : Kept192 s t :=
  ⟨.of h rfl, .of h rfl, .of h rfl, .of h rfl, .of h rfl, .of h rfl, .of h rfl, .of h rfl, .of h rfl, .of h rfl, .of h rfl, .of h rfl, .of h rfl, .of h rfl, .of h rfl, .of h rfl, .of h rfl, .of h rfl, .of h rfl, .of h rfl, .of h rfl, .of h rfl, .of h rfl, .of h rfl, .of h rfl, .of h rfl, .of h rfl, .of h rfl, .of h rfl, .of h rfl, .of h rfl, .of h rfl, .of h rfl, .of h rfl, .of h rfl, .of h rfl, .of h rfl, .of h rfl, .of h rfl, .of h rfl, .of h rfl, .of h rfl, .of h rfl, .of h rfl, .of h rfl, .of h rfl rfl rfl rfl rfl, .of h rfl rfl, .of h rfl rfl rfl, .of h rfl rfl rfl rfl, .of h rfl rfl rfl, .of h rfl rfl rfl, .of h rfl rfl, .of h rfl rfl rfl rfl⟩

/-- Every part but these is kept: out, pins, pulses, chain, chainPorts, dict, nums, doms, results, logs, power, vbat, radio, ports, rxTiles, txTiles, girth, recs, sched, cinch, keeper, sb, straps, journal, nodeQueues, tables, windows, halter, har, queues, arrivals, lacing, tree, curb, concho, cores, buckle, edges, host, flags, reports. -/
abbrev Kept193 (s t : State) : Prop :=
  SamePending s t ∧ SameDraws s t ∧ SameIdent s t ∧ SameFuses s t ∧ SameClock s t ∧ SameAttached s t ∧ SameLocals s t

theorem Kept193.of {s t : State} (h : t.outside { out := true, pins := true, pulses := true, chain := true, chainPorts := true, dict := true, anyNum := true, doms := true, results := true, logs := true, power := true, vbat := true, radio := true, ports := true, rxTiles := true, txTiles := true, girth := true, recs := true, sched := true, cinch := true, keeper := true, sb := true, straps := true, journal := true, nodeQueues := true, tables := true, windows := true, halter := true, har := true, queues := true, arrivals := true, lacing := true, tree := true, curb := true, concho := true, cores := true, buckle := true, edges := true, host := true, flags := true, reports := true } = s.outside { out := true, pins := true, pulses := true, chain := true, chainPorts := true, dict := true, anyNum := true, doms := true, results := true, logs := true, power := true, vbat := true, radio := true, ports := true, rxTiles := true, txTiles := true, girth := true, recs := true, sched := true, cinch := true, keeper := true, sb := true, straps := true, journal := true, nodeQueues := true, tables := true, windows := true, halter := true, har := true, queues := true, arrivals := true, lacing := true, tree := true, curb := true, concho := true, cores := true, buckle := true, edges := true, host := true, flags := true, reports := true }) : Kept193 s t :=
  ⟨.of h rfl, .of h rfl, .of h rfl, .of h rfl, .of h rfl, .of h rfl, .of h rfl⟩

/-- Every part but these is kept: pins, pulses, chain, chainPorts, dict, nums, doms, results, logs, power, radio, ports, rxTiles, txTiles, girth, recs, sched, cinch, keeper, sb, straps, journal, nodeQueues, tables, windows, halter, har, queues, arrivals, lacing, curb, concho, cores, locals, buckle, edges, host, flags, reports. -/
abbrev Kept194 (s t : State) : Prop :=
  SamePending s t ∧ SameDraws s t ∧ SameOut s t ∧ SameIdent s t ∧ SameFuses s t ∧ SameClock s t ∧ SameVbat s t ∧ SameAttached s t ∧ SameTree s t

theorem Kept194.of {s t : State} (h : t.outside { pins := true, pulses := true, chain := true, chainPorts := true, dict := true, anyNum := true, doms := true, results := true, logs := true, power := true, radio := true, ports := true, rxTiles := true, txTiles := true, girth := true, recs := true, sched := true, cinch := true, keeper := true, sb := true, straps := true, journal := true, nodeQueues := true, tables := true, windows := true, halter := true, har := true, queues := true, arrivals := true, lacing := true, curb := true, concho := true, cores := true, locals := true, buckle := true, edges := true, host := true, flags := true, reports := true } = s.outside { pins := true, pulses := true, chain := true, chainPorts := true, dict := true, anyNum := true, doms := true, results := true, logs := true, power := true, radio := true, ports := true, rxTiles := true, txTiles := true, girth := true, recs := true, sched := true, cinch := true, keeper := true, sb := true, straps := true, journal := true, nodeQueues := true, tables := true, windows := true, halter := true, har := true, queues := true, arrivals := true, lacing := true, curb := true, concho := true, cores := true, locals := true, buckle := true, edges := true, host := true, flags := true, reports := true }) : Kept194 s t :=
  ⟨.of h rfl, .of h rfl, .of h rfl, .of h rfl, .of h rfl, .of h rfl, .of h rfl, .of h rfl, .of h rfl⟩

/-- Every part but these is kept: pins, clock, pulses, chain, chainPorts, dict, nums, doms, results, logs, power, vbat, radio, ports, rxTiles, txTiles, girth, recs, sched, cinch, keeper, sb, straps, journal, nodeQueues, tables, windows, halter, har, queues, arrivals, lacing, tree, curb, concho, cores, locals, buckle, edges, host, flags, reports. -/
abbrev Kept195 (s t : State) : Prop :=
  SamePending s t ∧ SameDraws s t ∧ SameOut s t ∧ SameIdent s t ∧ SameFuses s t ∧ SameAttached s t

theorem Kept195.of {s t : State} (h : t.outside { pins := true, clock := true, pulses := true, chain := true, chainPorts := true, dict := true, anyNum := true, doms := true, results := true, logs := true, power := true, vbat := true, radio := true, ports := true, rxTiles := true, txTiles := true, girth := true, recs := true, sched := true, cinch := true, keeper := true, sb := true, straps := true, journal := true, nodeQueues := true, tables := true, windows := true, halter := true, har := true, queues := true, arrivals := true, lacing := true, tree := true, curb := true, concho := true, cores := true, locals := true, buckle := true, edges := true, host := true, flags := true, reports := true } = s.outside { pins := true, clock := true, pulses := true, chain := true, chainPorts := true, dict := true, anyNum := true, doms := true, results := true, logs := true, power := true, vbat := true, radio := true, ports := true, rxTiles := true, txTiles := true, girth := true, recs := true, sched := true, cinch := true, keeper := true, sb := true, straps := true, journal := true, nodeQueues := true, tables := true, windows := true, halter := true, har := true, queues := true, arrivals := true, lacing := true, tree := true, curb := true, concho := true, cores := true, locals := true, buckle := true, edges := true, host := true, flags := true, reports := true }) : Kept195 s t :=
  ⟨.of h rfl, .of h rfl, .of h rfl, .of h rfl, .of h rfl, .of h rfl⟩

/-- Every part but these is kept: dict, nums, logs, power, straps, journal, edges, flags. -/
abbrev Kept196 (s t : State) : Prop :=
  SamePending s t ∧ SameDraws s t ∧ SameOut s t ∧ SameIdent s t ∧ SameFuses s t ∧ SamePins s t ∧ SameClock s t ∧ SamePulses s t ∧ SameChain s t ∧ SameChainPorts s t ∧ SameDoms s t ∧ SameResults s t ∧ SameVbat s t ∧ SameRadio s t ∧ SamePorts s t ∧ SameRxTiles s t ∧ SameTxTiles s t ∧ SameGirth s t ∧ SameRecs s t ∧ SameSched s t ∧ SameCinch s t ∧ SameKeeper s t ∧ SameSb s t ∧ SameAttached s t ∧ SameNodeQueues s t ∧ SameTables s t ∧ SameWindows s t ∧ SameHalter s t ∧ SameHar s t ∧ SameQueues s t ∧ SameArrivals s t ∧ SameLacing s t ∧ SameTree s t ∧ SameCurb s t ∧ SameConcho s t ∧ SameCores s t ∧ SameLocals s t ∧ SameBuckle s t ∧ SameHost s t ∧ SameReports s t ∧ SameCoresAll s t ∧ SameGirthAll s t ∧ SameTablesAll s t ∧ SameHarAll s t ∧ SameChainAll s t ∧ SameRadioAll s t

theorem Kept196.of {s t : State} (h : t.outside { dict := true, anyNum := true, logs := true, power := true, straps := true, journal := true, edges := true, flags := true } = s.outside { dict := true, anyNum := true, logs := true, power := true, straps := true, journal := true, edges := true, flags := true }) : Kept196 s t :=
  ⟨.of h rfl, .of h rfl, .of h rfl, .of h rfl, .of h rfl, .of h rfl, .of h rfl, .of h rfl, .of h rfl, .of h rfl, .of h rfl, .of h rfl, .of h rfl, .of h rfl, .of h rfl, .of h rfl, .of h rfl, .of h rfl, .of h rfl, .of h rfl, .of h rfl, .of h rfl, .of h rfl, .of h rfl, .of h rfl, .of h rfl, .of h rfl, .of h rfl, .of h rfl, .of h rfl, .of h rfl, .of h rfl, .of h rfl, .of h rfl, .of h rfl, .of h rfl, .of h rfl, .of h rfl, .of h rfl, .of h rfl, .of h rfl rfl, .of h rfl rfl rfl rfl, .of h rfl rfl rfl, .of h rfl rfl rfl, .of h rfl rfl, .of h rfl rfl rfl rfl⟩

/-- Every part but these is kept: draws, out, pins, dict, nums, results, logs, power, vbat, ports, rxTiles, txTiles, sched, straps, journal, tree, concho, edges, host, flags. -/
abbrev Kept197 (s t : State) : Prop :=
  SamePending s t ∧ SameIdent s t ∧ SameFuses s t ∧ SameClock s t ∧ SamePulses s t ∧ SameChain s t ∧ SameChainPorts s t ∧ SameDoms s t ∧ SameRadio s t ∧ SameGirth s t ∧ SameRecs s t ∧ SameCinch s t ∧ SameKeeper s t ∧ SameSb s t ∧ SameAttached s t ∧ SameNodeQueues s t ∧ SameTables s t ∧ SameWindows s t ∧ SameHalter s t ∧ SameHar s t ∧ SameQueues s t ∧ SameArrivals s t ∧ SameLacing s t ∧ SameCurb s t ∧ SameCores s t ∧ SameLocals s t ∧ SameBuckle s t ∧ SameReports s t ∧ SameCoresAll s t ∧ SameTablesAll s t ∧ SameHarAll s t ∧ SameChainAll s t

theorem Kept197.of {s t : State} (h : t.outside { draws := true, out := true, pins := true, dict := true, anyNum := true, results := true, logs := true, power := true, vbat := true, ports := true, rxTiles := true, txTiles := true, sched := true, straps := true, journal := true, tree := true, concho := true, edges := true, host := true, flags := true } = s.outside { draws := true, out := true, pins := true, dict := true, anyNum := true, results := true, logs := true, power := true, vbat := true, ports := true, rxTiles := true, txTiles := true, sched := true, straps := true, journal := true, tree := true, concho := true, edges := true, host := true, flags := true }) : Kept197 s t :=
  ⟨.of h rfl, .of h rfl, .of h rfl, .of h rfl, .of h rfl, .of h rfl, .of h rfl, .of h rfl, .of h rfl, .of h rfl, .of h rfl, .of h rfl, .of h rfl, .of h rfl, .of h rfl, .of h rfl, .of h rfl, .of h rfl, .of h rfl, .of h rfl, .of h rfl, .of h rfl, .of h rfl, .of h rfl, .of h rfl, .of h rfl, .of h rfl, .of h rfl, .of h rfl rfl, .of h rfl rfl rfl, .of h rfl rfl rfl, .of h rfl rfl⟩

/-- Every part but these is kept: dict, nums, doms. -/
abbrev Kept198 (s t : State) : Prop :=
  SamePending s t ∧ SameDraws s t ∧ SameOut s t ∧ SameIdent s t ∧ SameFuses s t ∧ SamePins s t ∧ SameClock s t ∧ SamePulses s t ∧ SameChain s t ∧ SameChainPorts s t ∧ SameResults s t ∧ SameLogs s t ∧ SamePower s t ∧ SameVbat s t ∧ SameRadio s t ∧ SamePorts s t ∧ SameRxTiles s t ∧ SameTxTiles s t ∧ SameGirth s t ∧ SameRecs s t ∧ SameSched s t ∧ SameCinch s t ∧ SameKeeper s t ∧ SameSb s t ∧ SameStraps s t ∧ SameJournal s t ∧ SameAttached s t ∧ SameNodeQueues s t ∧ SameTables s t ∧ SameWindows s t ∧ SameHalter s t ∧ SameHar s t ∧ SameQueues s t ∧ SameArrivals s t ∧ SameLacing s t ∧ SameTree s t ∧ SameCurb s t ∧ SameConcho s t ∧ SameCores s t ∧ SameLocals s t ∧ SameBuckle s t ∧ SameEdges s t ∧ SameHost s t ∧ SameFlags s t ∧ SameReports s t ∧ SameSbAll s t ∧ SameBuckleAll s t ∧ SameHostAll s t ∧ SameCoresAll s t ∧ SameGirthAll s t ∧ SameTablesAll s t ∧ SameHarAll s t ∧ SameChainAll s t ∧ SameRadioAll s t ∧ SamePowerRxTilesTxTiles s t

theorem Kept198.of {s t : State} (h : t.outside { dict := true, anyNum := true, doms := true } = s.outside { dict := true, anyNum := true, doms := true }) : Kept198 s t :=
  ⟨.of h rfl, .of h rfl, .of h rfl, .of h rfl, .of h rfl, .of h rfl, .of h rfl, .of h rfl, .of h rfl, .of h rfl, .of h rfl, .of h rfl, .of h rfl, .of h rfl, .of h rfl, .of h rfl, .of h rfl, .of h rfl, .of h rfl, .of h rfl, .of h rfl, .of h rfl, .of h rfl, .of h rfl, .of h rfl, .of h rfl, .of h rfl, .of h rfl, .of h rfl, .of h rfl, .of h rfl, .of h rfl, .of h rfl, .of h rfl, .of h rfl, .of h rfl, .of h rfl, .of h rfl, .of h rfl, .of h rfl, .of h rfl, .of h rfl, .of h rfl, .of h rfl, .of h rfl, .of h rfl rfl rfl rfl rfl, .of h rfl rfl, .of h rfl rfl rfl, .of h rfl rfl, .of h rfl rfl rfl rfl, .of h rfl rfl rfl, .of h rfl rfl rfl, .of h rfl rfl, .of h rfl rfl rfl rfl, .of h rfl rfl rfl⟩

/-- Every part but these is kept: dict, nums, doms, logs, recs, sched, keeper, straps, journal, tables, halter, har, queues, lacing, edges, flags, reports. -/
abbrev Kept199 (s t : State) : Prop :=
  SamePending s t ∧ SameDraws s t ∧ SameOut s t ∧ SameIdent s t ∧ SameFuses s t ∧ SamePins s t ∧ SameClock s t ∧ SamePulses s t ∧ SameChain s t ∧ SameChainPorts s t ∧ SameResults s t ∧ SamePower s t ∧ SameVbat s t ∧ SameRadio s t ∧ SamePorts s t ∧ SameRxTiles s t ∧ SameTxTiles s t ∧ SameGirth s t ∧ SameCinch s t ∧ SameSb s t ∧ SameAttached s t ∧ SameNodeQueues s t ∧ SameWindows s t ∧ SameArrivals s t ∧ SameTree s t ∧ SameCurb s t ∧ SameConcho s t ∧ SameCores s t ∧ SameLocals s t ∧ SameBuckle s t ∧ SameHost s t ∧ SameCoresAll s t ∧ SameChainAll s t ∧ SameRadioAll s t ∧ SamePowerRxTilesTxTiles s t

theorem Kept199.of {s t : State} (h : t.outside { dict := true, anyNum := true, doms := true, logs := true, recs := true, sched := true, keeper := true, straps := true, journal := true, tables := true, halter := true, har := true, queues := true, lacing := true, edges := true, flags := true, reports := true } = s.outside { dict := true, anyNum := true, doms := true, logs := true, recs := true, sched := true, keeper := true, straps := true, journal := true, tables := true, halter := true, har := true, queues := true, lacing := true, edges := true, flags := true, reports := true }) : Kept199 s t :=
  ⟨.of h rfl, .of h rfl, .of h rfl, .of h rfl, .of h rfl, .of h rfl, .of h rfl, .of h rfl, .of h rfl, .of h rfl, .of h rfl, .of h rfl, .of h rfl, .of h rfl, .of h rfl, .of h rfl, .of h rfl, .of h rfl, .of h rfl, .of h rfl, .of h rfl, .of h rfl, .of h rfl, .of h rfl, .of h rfl, .of h rfl, .of h rfl, .of h rfl, .of h rfl, .of h rfl, .of h rfl, .of h rfl rfl, .of h rfl rfl, .of h rfl rfl rfl rfl, .of h rfl rfl rfl⟩

/-- Every part but these is kept: tables, windows. -/
abbrev Kept200 (s t : State) : Prop :=
  SamePending s t ∧ SameDraws s t ∧ SameOut s t ∧ SameIdent s t ∧ SameFuses s t ∧ SamePins s t ∧ SameClock s t ∧ SamePulses s t ∧ SameChain s t ∧ SameChainPorts s t ∧ SameDict s t ∧ SameNums s t ∧ SameDoms s t ∧ SameResults s t ∧ SameLogs s t ∧ SamePower s t ∧ SameVbat s t ∧ SameRadio s t ∧ SamePorts s t ∧ SameRxTiles s t ∧ SameTxTiles s t ∧ SameGirth s t ∧ SameRecs s t ∧ SameSched s t ∧ SameCinch s t ∧ SameKeeper s t ∧ SameSb s t ∧ SameStraps s t ∧ SameJournal s t ∧ SameAttached s t ∧ SameNodeQueues s t ∧ SameHalter s t ∧ SameHar s t ∧ SameQueues s t ∧ SameArrivals s t ∧ SameLacing s t ∧ SameTree s t ∧ SameCurb s t ∧ SameConcho s t ∧ SameCores s t ∧ SameLocals s t ∧ SameBuckle s t ∧ SameEdges s t ∧ SameHost s t ∧ SameFlags s t ∧ SameReports s t ∧ SameDictAll s t ∧ SameSbAll s t ∧ SameBuckleAll s t ∧ SameHostAll s t ∧ SameCoresAll s t ∧ SameGirthAll s t ∧ SameHarAll s t ∧ SameChainAll s t ∧ SameRadioAll s t ∧ SamePowerRxTilesTxTiles s t ∧ SameDictPower s t ∧ SameDictNums s t ∧ SameClockNumsPorts s t

theorem Kept200.of {s t : State} (h : t.outside { tables := true, windows := true } = s.outside { tables := true, windows := true }) : Kept200 s t :=
  ⟨.of h rfl, .of h rfl, .of h rfl, .of h rfl, .of h rfl, .of h rfl, .of h rfl, .of h rfl, .of h rfl, .of h rfl, .of h rfl, .of h rfl, .of h rfl, .of h rfl, .of h rfl, .of h rfl, .of h rfl, .of h rfl, .of h rfl, .of h rfl, .of h rfl, .of h rfl, .of h rfl, .of h rfl, .of h rfl, .of h rfl, .of h rfl, .of h rfl, .of h rfl, .of h rfl, .of h rfl, .of h rfl, .of h rfl, .of h rfl, .of h rfl, .of h rfl, .of h rfl, .of h rfl, .of h rfl, .of h rfl, .of h rfl, .of h rfl, .of h rfl, .of h rfl, .of h rfl, .of h rfl, .of h rfl rfl rfl rfl rfl, .of h rfl rfl rfl rfl rfl, .of h rfl rfl, .of h rfl rfl rfl, .of h rfl rfl, .of h rfl rfl rfl rfl, .of h rfl rfl rfl, .of h rfl rfl, .of h rfl rfl rfl rfl, .of h rfl rfl rfl, .of h rfl rfl, .of h rfl rfl, .of h rfl rfl rfl⟩

/-- Every part but these is kept: nums, vbat. -/
abbrev Kept201 (s t : State) : Prop :=
  SamePending s t ∧ SameDraws s t ∧ SameOut s t ∧ SameIdent s t ∧ SameFuses s t ∧ SamePins s t ∧ SameClock s t ∧ SamePulses s t ∧ SameChain s t ∧ SameChainPorts s t ∧ SameDict s t ∧ SameDoms s t ∧ SameResults s t ∧ SameLogs s t ∧ SamePower s t ∧ SameRadio s t ∧ SamePorts s t ∧ SameRxTiles s t ∧ SameTxTiles s t ∧ SameGirth s t ∧ SameRecs s t ∧ SameSched s t ∧ SameCinch s t ∧ SameKeeper s t ∧ SameSb s t ∧ SameStraps s t ∧ SameJournal s t ∧ SameAttached s t ∧ SameNodeQueues s t ∧ SameTables s t ∧ SameWindows s t ∧ SameHalter s t ∧ SameHar s t ∧ SameQueues s t ∧ SameArrivals s t ∧ SameLacing s t ∧ SameTree s t ∧ SameCurb s t ∧ SameConcho s t ∧ SameCores s t ∧ SameLocals s t ∧ SameBuckle s t ∧ SameEdges s t ∧ SameHost s t ∧ SameFlags s t ∧ SameReports s t ∧ SameSbAll s t ∧ SameBuckleAll s t ∧ SameHostAll s t ∧ SameCoresAll s t ∧ SameGirthAll s t ∧ SameTablesAll s t ∧ SameHarAll s t ∧ SameChainAll s t ∧ SameRadioAll s t ∧ SamePowerRxTilesTxTiles s t ∧ SameDictPower s t

theorem Kept201.of {s t : State} (h : t.outside { anyNum := true, vbat := true } = s.outside { anyNum := true, vbat := true }) : Kept201 s t :=
  ⟨.of h rfl, .of h rfl, .of h rfl, .of h rfl, .of h rfl, .of h rfl, .of h rfl, .of h rfl, .of h rfl, .of h rfl, .of h rfl, .of h rfl, .of h rfl, .of h rfl, .of h rfl, .of h rfl, .of h rfl, .of h rfl, .of h rfl, .of h rfl, .of h rfl, .of h rfl, .of h rfl, .of h rfl, .of h rfl, .of h rfl, .of h rfl, .of h rfl, .of h rfl, .of h rfl, .of h rfl, .of h rfl, .of h rfl, .of h rfl, .of h rfl, .of h rfl, .of h rfl, .of h rfl, .of h rfl, .of h rfl, .of h rfl, .of h rfl, .of h rfl, .of h rfl, .of h rfl, .of h rfl, .of h rfl rfl rfl rfl rfl, .of h rfl rfl, .of h rfl rfl rfl, .of h rfl rfl, .of h rfl rfl rfl rfl, .of h rfl rfl rfl, .of h rfl rfl rfl, .of h rfl rfl, .of h rfl rfl rfl rfl, .of h rfl rfl rfl, .of h rfl rfl⟩

/-- Every part but these is kept: chain. -/
abbrev Kept202 (s t : State) : Prop :=
  SamePending s t ∧ SameDraws s t ∧ SameOut s t ∧ SameIdent s t ∧ SameFuses s t ∧ SamePins s t ∧ SameClock s t ∧ SamePulses s t ∧ SameChainPorts s t ∧ SameDict s t ∧ SameNums s t ∧ SameDoms s t ∧ SameResults s t ∧ SameLogs s t ∧ SamePower s t ∧ SameVbat s t ∧ SameRadio s t ∧ SamePorts s t ∧ SameRxTiles s t ∧ SameTxTiles s t ∧ SameGirth s t ∧ SameRecs s t ∧ SameSched s t ∧ SameCinch s t ∧ SameKeeper s t ∧ SameSb s t ∧ SameStraps s t ∧ SameJournal s t ∧ SameAttached s t ∧ SameNodeQueues s t ∧ SameTables s t ∧ SameWindows s t ∧ SameHalter s t ∧ SameHar s t ∧ SameQueues s t ∧ SameArrivals s t ∧ SameLacing s t ∧ SameTree s t ∧ SameCurb s t ∧ SameConcho s t ∧ SameCores s t ∧ SameLocals s t ∧ SameBuckle s t ∧ SameEdges s t ∧ SameHost s t ∧ SameFlags s t ∧ SameReports s t ∧ SameDictAll s t ∧ SameSbAll s t ∧ SameBuckleAll s t ∧ SameHostAll s t ∧ SameCoresAll s t ∧ SameGirthAll s t ∧ SameTablesAll s t ∧ SameHarAll s t ∧ SameRadioAll s t ∧ SamePowerRxTilesTxTiles s t ∧ SameDictPower s t ∧ SameDictNums s t ∧ SameClockNumsPorts s t

theorem Kept202.of {s t : State} (h : t.outside { chain := true } = s.outside { chain := true }) : Kept202 s t :=
  ⟨.of h rfl, .of h rfl, .of h rfl, .of h rfl, .of h rfl, .of h rfl, .of h rfl, .of h rfl, .of h rfl, .of h rfl, .of h rfl, .of h rfl, .of h rfl, .of h rfl, .of h rfl, .of h rfl, .of h rfl, .of h rfl, .of h rfl, .of h rfl, .of h rfl, .of h rfl, .of h rfl, .of h rfl, .of h rfl, .of h rfl, .of h rfl, .of h rfl, .of h rfl, .of h rfl, .of h rfl, .of h rfl, .of h rfl, .of h rfl, .of h rfl, .of h rfl, .of h rfl, .of h rfl, .of h rfl, .of h rfl, .of h rfl, .of h rfl, .of h rfl, .of h rfl, .of h rfl, .of h rfl, .of h rfl, .of h rfl rfl rfl rfl rfl, .of h rfl rfl rfl rfl rfl, .of h rfl rfl, .of h rfl rfl rfl, .of h rfl rfl, .of h rfl rfl rfl rfl, .of h rfl rfl rfl, .of h rfl rfl rfl, .of h rfl rfl rfl rfl, .of h rfl rfl rfl, .of h rfl rfl, .of h rfl rfl, .of h rfl rfl rfl⟩

/-- Every part but these is kept: nums, sb. -/
abbrev Kept203 (s t : State) : Prop :=
  SamePending s t ∧ SameDraws s t ∧ SameOut s t ∧ SameIdent s t ∧ SameFuses s t ∧ SamePins s t ∧ SameClock s t ∧ SamePulses s t ∧ SameChain s t ∧ SameChainPorts s t ∧ SameDict s t ∧ SameDoms s t ∧ SameResults s t ∧ SameLogs s t ∧ SamePower s t ∧ SameVbat s t ∧ SameRadio s t ∧ SamePorts s t ∧ SameRxTiles s t ∧ SameTxTiles s t ∧ SameGirth s t ∧ SameRecs s t ∧ SameSched s t ∧ SameCinch s t ∧ SameKeeper s t ∧ SameStraps s t ∧ SameJournal s t ∧ SameAttached s t ∧ SameNodeQueues s t ∧ SameTables s t ∧ SameWindows s t ∧ SameHalter s t ∧ SameHar s t ∧ SameQueues s t ∧ SameArrivals s t ∧ SameLacing s t ∧ SameTree s t ∧ SameCurb s t ∧ SameConcho s t ∧ SameCores s t ∧ SameLocals s t ∧ SameBuckle s t ∧ SameEdges s t ∧ SameHost s t ∧ SameFlags s t ∧ SameReports s t ∧ SameBuckleAll s t ∧ SameHostAll s t ∧ SameCoresAll s t ∧ SameGirthAll s t ∧ SameTablesAll s t ∧ SameHarAll s t ∧ SameChainAll s t ∧ SameRadioAll s t ∧ SamePowerRxTilesTxTiles s t ∧ SameDictPower s t

theorem Kept203.of {s t : State} (h : t.outside { anyNum := true, sb := true } = s.outside { anyNum := true, sb := true }) : Kept203 s t :=
  ⟨.of h rfl, .of h rfl, .of h rfl, .of h rfl, .of h rfl, .of h rfl, .of h rfl, .of h rfl, .of h rfl, .of h rfl, .of h rfl, .of h rfl, .of h rfl, .of h rfl, .of h rfl, .of h rfl, .of h rfl, .of h rfl, .of h rfl, .of h rfl, .of h rfl, .of h rfl, .of h rfl, .of h rfl, .of h rfl, .of h rfl, .of h rfl, .of h rfl, .of h rfl, .of h rfl, .of h rfl, .of h rfl, .of h rfl, .of h rfl, .of h rfl, .of h rfl, .of h rfl, .of h rfl, .of h rfl, .of h rfl, .of h rfl, .of h rfl, .of h rfl, .of h rfl, .of h rfl, .of h rfl, .of h rfl rfl, .of h rfl rfl rfl, .of h rfl rfl, .of h rfl rfl rfl rfl, .of h rfl rfl rfl, .of h rfl rfl rfl, .of h rfl rfl, .of h rfl rfl rfl rfl, .of h rfl rfl rfl, .of h rfl rfl⟩

/-- Every part but these is kept: chain, chainPorts, dict, nums, logs, sb, straps, journal, edges, host, flags. -/
abbrev Kept204 (s t : State) : Prop :=
  SamePending s t ∧ SameDraws s t ∧ SameOut s t ∧ SameIdent s t ∧ SameFuses s t ∧ SamePins s t ∧ SameClock s t ∧ SamePulses s t ∧ SameDoms s t ∧ SameResults s t ∧ SamePower s t ∧ SameVbat s t ∧ SameRadio s t ∧ SamePorts s t ∧ SameRxTiles s t ∧ SameTxTiles s t ∧ SameGirth s t ∧ SameRecs s t ∧ SameSched s t ∧ SameCinch s t ∧ SameKeeper s t ∧ SameAttached s t ∧ SameNodeQueues s t ∧ SameTables s t ∧ SameWindows s t ∧ SameHalter s t ∧ SameHar s t ∧ SameQueues s t ∧ SameArrivals s t ∧ SameLacing s t ∧ SameTree s t ∧ SameCurb s t ∧ SameConcho s t ∧ SameCores s t ∧ SameLocals s t ∧ SameBuckle s t ∧ SameReports s t ∧ SameCoresAll s t ∧ SameGirthAll s t ∧ SameTablesAll s t ∧ SameHarAll s t ∧ SameRadioAll s t ∧ SamePowerRxTilesTxTiles s t

theorem Kept204.of {s t : State} (h : t.outside { chain := true, chainPorts := true, dict := true, anyNum := true, logs := true, sb := true, straps := true, journal := true, edges := true, host := true, flags := true } = s.outside { chain := true, chainPorts := true, dict := true, anyNum := true, logs := true, sb := true, straps := true, journal := true, edges := true, host := true, flags := true }) : Kept204 s t :=
  ⟨.of h rfl, .of h rfl, .of h rfl, .of h rfl, .of h rfl, .of h rfl, .of h rfl, .of h rfl, .of h rfl, .of h rfl, .of h rfl, .of h rfl, .of h rfl, .of h rfl, .of h rfl, .of h rfl, .of h rfl, .of h rfl, .of h rfl, .of h rfl, .of h rfl, .of h rfl, .of h rfl, .of h rfl, .of h rfl, .of h rfl, .of h rfl, .of h rfl, .of h rfl, .of h rfl, .of h rfl, .of h rfl, .of h rfl, .of h rfl, .of h rfl, .of h rfl, .of h rfl, .of h rfl rfl, .of h rfl rfl rfl rfl, .of h rfl rfl rfl, .of h rfl rfl rfl, .of h rfl rfl rfl rfl, .of h rfl rfl rfl⟩

/-- Every part but these is kept: chain, chainPorts, dict, nums, results, logs, sb, straps, journal, edges, host, flags. -/
abbrev Kept205 (s t : State) : Prop :=
  SamePending s t ∧ SameDraws s t ∧ SameOut s t ∧ SameIdent s t ∧ SameFuses s t ∧ SamePins s t ∧ SameClock s t ∧ SamePulses s t ∧ SameDoms s t ∧ SamePower s t ∧ SameVbat s t ∧ SameRadio s t ∧ SamePorts s t ∧ SameRxTiles s t ∧ SameTxTiles s t ∧ SameGirth s t ∧ SameRecs s t ∧ SameSched s t ∧ SameCinch s t ∧ SameKeeper s t ∧ SameAttached s t ∧ SameNodeQueues s t ∧ SameTables s t ∧ SameWindows s t ∧ SameHalter s t ∧ SameHar s t ∧ SameQueues s t ∧ SameArrivals s t ∧ SameLacing s t ∧ SameTree s t ∧ SameCurb s t ∧ SameConcho s t ∧ SameCores s t ∧ SameLocals s t ∧ SameBuckle s t ∧ SameReports s t ∧ SameCoresAll s t ∧ SameGirthAll s t ∧ SameTablesAll s t ∧ SameHarAll s t ∧ SameRadioAll s t ∧ SamePowerRxTilesTxTiles s t

theorem Kept205.of {s t : State} (h : t.outside { chain := true, chainPorts := true, dict := true, anyNum := true, results := true, logs := true, sb := true, straps := true, journal := true, edges := true, host := true, flags := true } = s.outside { chain := true, chainPorts := true, dict := true, anyNum := true, results := true, logs := true, sb := true, straps := true, journal := true, edges := true, host := true, flags := true }) : Kept205 s t :=
  ⟨.of h rfl, .of h rfl, .of h rfl, .of h rfl, .of h rfl, .of h rfl, .of h rfl, .of h rfl, .of h rfl, .of h rfl, .of h rfl, .of h rfl, .of h rfl, .of h rfl, .of h rfl, .of h rfl, .of h rfl, .of h rfl, .of h rfl, .of h rfl, .of h rfl, .of h rfl, .of h rfl, .of h rfl, .of h rfl, .of h rfl, .of h rfl, .of h rfl, .of h rfl, .of h rfl, .of h rfl, .of h rfl, .of h rfl, .of h rfl, .of h rfl, .of h rfl, .of h rfl rfl, .of h rfl rfl rfl rfl, .of h rfl rfl rfl, .of h rfl rfl rfl, .of h rfl rfl rfl rfl, .of h rfl rfl rfl⟩

/-- Every part but these is kept: chain, nums, results. -/
abbrev Kept206 (s t : State) : Prop :=
  SamePending s t ∧ SameDraws s t ∧ SameOut s t ∧ SameIdent s t ∧ SameFuses s t ∧ SamePins s t ∧ SameClock s t ∧ SamePulses s t ∧ SameChainPorts s t ∧ SameDict s t ∧ SameDoms s t ∧ SameLogs s t ∧ SamePower s t ∧ SameVbat s t ∧ SameRadio s t ∧ SamePorts s t ∧ SameRxTiles s t ∧ SameTxTiles s t ∧ SameGirth s t ∧ SameRecs s t ∧ SameSched s t ∧ SameCinch s t ∧ SameKeeper s t ∧ SameSb s t ∧ SameStraps s t ∧ SameJournal s t ∧ SameAttached s t ∧ SameNodeQueues s t ∧ SameTables s t ∧ SameWindows s t ∧ SameHalter s t ∧ SameHar s t ∧ SameQueues s t ∧ SameArrivals s t ∧ SameLacing s t ∧ SameTree s t ∧ SameCurb s t ∧ SameConcho s t ∧ SameCores s t ∧ SameLocals s t ∧ SameBuckle s t ∧ SameEdges s t ∧ SameHost s t ∧ SameFlags s t ∧ SameReports s t ∧ SameSbAll s t ∧ SameBuckleAll s t ∧ SameHostAll s t ∧ SameCoresAll s t ∧ SameGirthAll s t ∧ SameTablesAll s t ∧ SameHarAll s t ∧ SameRadioAll s t ∧ SamePowerRxTilesTxTiles s t ∧ SameDictPower s t

theorem Kept206.of {s t : State} (h : t.outside { chain := true, anyNum := true, results := true } = s.outside { chain := true, anyNum := true, results := true }) : Kept206 s t :=
  ⟨.of h rfl, .of h rfl, .of h rfl, .of h rfl, .of h rfl, .of h rfl, .of h rfl, .of h rfl, .of h rfl, .of h rfl, .of h rfl, .of h rfl, .of h rfl, .of h rfl, .of h rfl, .of h rfl, .of h rfl, .of h rfl, .of h rfl, .of h rfl, .of h rfl, .of h rfl, .of h rfl, .of h rfl, .of h rfl, .of h rfl, .of h rfl, .of h rfl, .of h rfl, .of h rfl, .of h rfl, .of h rfl, .of h rfl, .of h rfl, .of h rfl, .of h rfl, .of h rfl, .of h rfl, .of h rfl, .of h rfl, .of h rfl, .of h rfl, .of h rfl, .of h rfl, .of h rfl, .of h rfl rfl rfl rfl rfl, .of h rfl rfl, .of h rfl rfl rfl, .of h rfl rfl, .of h rfl rfl rfl rfl, .of h rfl rfl rfl, .of h rfl rfl rfl, .of h rfl rfl rfl rfl, .of h rfl rfl rfl, .of h rfl rfl⟩

/-- Every part but these is kept: chain, chainPorts. -/
abbrev Kept207 (s t : State) : Prop :=
  SamePending s t ∧ SameDraws s t ∧ SameOut s t ∧ SameIdent s t ∧ SameFuses s t ∧ SamePins s t ∧ SameClock s t ∧ SamePulses s t ∧ SameDict s t ∧ SameNums s t ∧ SameDoms s t ∧ SameResults s t ∧ SameLogs s t ∧ SamePower s t ∧ SameVbat s t ∧ SameRadio s t ∧ SamePorts s t ∧ SameRxTiles s t ∧ SameTxTiles s t ∧ SameGirth s t ∧ SameRecs s t ∧ SameSched s t ∧ SameCinch s t ∧ SameKeeper s t ∧ SameSb s t ∧ SameStraps s t ∧ SameJournal s t ∧ SameAttached s t ∧ SameNodeQueues s t ∧ SameTables s t ∧ SameWindows s t ∧ SameHalter s t ∧ SameHar s t ∧ SameQueues s t ∧ SameArrivals s t ∧ SameLacing s t ∧ SameTree s t ∧ SameCurb s t ∧ SameConcho s t ∧ SameCores s t ∧ SameLocals s t ∧ SameBuckle s t ∧ SameEdges s t ∧ SameHost s t ∧ SameFlags s t ∧ SameReports s t ∧ SameDictAll s t ∧ SameSbAll s t ∧ SameBuckleAll s t ∧ SameHostAll s t ∧ SameCoresAll s t ∧ SameGirthAll s t ∧ SameTablesAll s t ∧ SameHarAll s t ∧ SameRadioAll s t ∧ SamePowerRxTilesTxTiles s t ∧ SameDictPower s t ∧ SameDictNums s t ∧ SameClockNumsPorts s t

theorem Kept207.of {s t : State} (h : t.outside { chain := true, chainPorts := true } = s.outside { chain := true, chainPorts := true }) : Kept207 s t :=
  ⟨.of h rfl, .of h rfl, .of h rfl, .of h rfl, .of h rfl, .of h rfl, .of h rfl, .of h rfl, .of h rfl, .of h rfl, .of h rfl, .of h rfl, .of h rfl, .of h rfl, .of h rfl, .of h rfl, .of h rfl, .of h rfl, .of h rfl, .of h rfl, .of h rfl, .of h rfl, .of h rfl, .of h rfl, .of h rfl, .of h rfl, .of h rfl, .of h rfl, .of h rfl, .of h rfl, .of h rfl, .of h rfl, .of h rfl, .of h rfl, .of h rfl, .of h rfl, .of h rfl, .of h rfl, .of h rfl, .of h rfl, .of h rfl, .of h rfl, .of h rfl, .of h rfl, .of h rfl, .of h rfl, .of h rfl rfl rfl rfl rfl, .of h rfl rfl rfl rfl rfl, .of h rfl rfl, .of h rfl rfl rfl, .of h rfl rfl, .of h rfl rfl rfl rfl, .of h rfl rfl rfl, .of h rfl rfl rfl, .of h rfl rfl rfl rfl, .of h rfl rfl rfl, .of h rfl rfl, .of h rfl rfl, .of h rfl rfl rfl⟩

/-- Every part but these is kept: chain, chainPorts, dict, nums, logs, straps, journal, edges, flags. -/
abbrev Kept208 (s t : State) : Prop :=
  SamePending s t ∧ SameDraws s t ∧ SameOut s t ∧ SameIdent s t ∧ SameFuses s t ∧ SamePins s t ∧ SameClock s t ∧ SamePulses s t ∧ SameDoms s t ∧ SameResults s t ∧ SamePower s t ∧ SameVbat s t ∧ SameRadio s t ∧ SamePorts s t ∧ SameRxTiles s t ∧ SameTxTiles s t ∧ SameGirth s t ∧ SameRecs s t ∧ SameSched s t ∧ SameCinch s t ∧ SameKeeper s t ∧ SameSb s t ∧ SameAttached s t ∧ SameNodeQueues s t ∧ SameTables s t ∧ SameWindows s t ∧ SameHalter s t ∧ SameHar s t ∧ SameQueues s t ∧ SameArrivals s t ∧ SameLacing s t ∧ SameTree s t ∧ SameCurb s t ∧ SameConcho s t ∧ SameCores s t ∧ SameLocals s t ∧ SameBuckle s t ∧ SameHost s t ∧ SameReports s t ∧ SameCoresAll s t ∧ SameGirthAll s t ∧ SameTablesAll s t ∧ SameHarAll s t ∧ SameRadioAll s t ∧ SamePowerRxTilesTxTiles s t

theorem Kept208.of {s t : State} (h : t.outside { chain := true, chainPorts := true, dict := true, anyNum := true, logs := true, straps := true, journal := true, edges := true, flags := true } = s.outside { chain := true, chainPorts := true, dict := true, anyNum := true, logs := true, straps := true, journal := true, edges := true, flags := true }) : Kept208 s t :=
  ⟨.of h rfl, .of h rfl, .of h rfl, .of h rfl, .of h rfl, .of h rfl, .of h rfl, .of h rfl, .of h rfl, .of h rfl, .of h rfl, .of h rfl, .of h rfl, .of h rfl, .of h rfl, .of h rfl, .of h rfl, .of h rfl, .of h rfl, .of h rfl, .of h rfl, .of h rfl, .of h rfl, .of h rfl, .of h rfl, .of h rfl, .of h rfl, .of h rfl, .of h rfl, .of h rfl, .of h rfl, .of h rfl, .of h rfl, .of h rfl, .of h rfl, .of h rfl, .of h rfl, .of h rfl, .of h rfl, .of h rfl rfl, .of h rfl rfl rfl rfl, .of h rfl rfl rfl, .of h rfl rfl rfl, .of h rfl rfl rfl rfl, .of h rfl rfl rfl⟩

/-- Every part but these is kept: chain, chainPorts, nums. -/
abbrev Kept209 (s t : State) : Prop :=
  SamePending s t ∧ SameDraws s t ∧ SameOut s t ∧ SameIdent s t ∧ SameFuses s t ∧ SamePins s t ∧ SameClock s t ∧ SamePulses s t ∧ SameDict s t ∧ SameDoms s t ∧ SameResults s t ∧ SameLogs s t ∧ SamePower s t ∧ SameVbat s t ∧ SameRadio s t ∧ SamePorts s t ∧ SameRxTiles s t ∧ SameTxTiles s t ∧ SameGirth s t ∧ SameRecs s t ∧ SameSched s t ∧ SameCinch s t ∧ SameKeeper s t ∧ SameSb s t ∧ SameStraps s t ∧ SameJournal s t ∧ SameAttached s t ∧ SameNodeQueues s t ∧ SameTables s t ∧ SameWindows s t ∧ SameHalter s t ∧ SameHar s t ∧ SameQueues s t ∧ SameArrivals s t ∧ SameLacing s t ∧ SameTree s t ∧ SameCurb s t ∧ SameConcho s t ∧ SameCores s t ∧ SameLocals s t ∧ SameBuckle s t ∧ SameEdges s t ∧ SameHost s t ∧ SameFlags s t ∧ SameReports s t ∧ SameSbAll s t ∧ SameBuckleAll s t ∧ SameHostAll s t ∧ SameCoresAll s t ∧ SameGirthAll s t ∧ SameTablesAll s t ∧ SameHarAll s t ∧ SameRadioAll s t ∧ SamePowerRxTilesTxTiles s t ∧ SameDictPower s t

theorem Kept209.of {s t : State} (h : t.outside { chain := true, chainPorts := true, anyNum := true } = s.outside { chain := true, chainPorts := true, anyNum := true }) : Kept209 s t :=
  ⟨.of h rfl, .of h rfl, .of h rfl, .of h rfl, .of h rfl, .of h rfl, .of h rfl, .of h rfl, .of h rfl, .of h rfl, .of h rfl, .of h rfl, .of h rfl, .of h rfl, .of h rfl, .of h rfl, .of h rfl, .of h rfl, .of h rfl, .of h rfl, .of h rfl, .of h rfl, .of h rfl, .of h rfl, .of h rfl, .of h rfl, .of h rfl, .of h rfl, .of h rfl, .of h rfl, .of h rfl, .of h rfl, .of h rfl, .of h rfl, .of h rfl, .of h rfl, .of h rfl, .of h rfl, .of h rfl, .of h rfl, .of h rfl, .of h rfl, .of h rfl, .of h rfl, .of h rfl, .of h rfl rfl rfl rfl rfl, .of h rfl rfl, .of h rfl rfl rfl, .of h rfl rfl, .of h rfl rfl rfl rfl, .of h rfl rfl rfl, .of h rfl rfl rfl, .of h rfl rfl rfl rfl, .of h rfl rfl rfl, .of h rfl rfl⟩

/-- Every part but these is kept: chain, dict, nums, logs, sb, straps, journal, edges, host, flags. -/
abbrev Kept210 (s t : State) : Prop :=
  SamePending s t ∧ SameDraws s t ∧ SameOut s t ∧ SameIdent s t ∧ SameFuses s t ∧ SamePins s t ∧ SameClock s t ∧ SamePulses s t ∧ SameChainPorts s t ∧ SameDoms s t ∧ SameResults s t ∧ SamePower s t ∧ SameVbat s t ∧ SameRadio s t ∧ SamePorts s t ∧ SameRxTiles s t ∧ SameTxTiles s t ∧ SameGirth s t ∧ SameRecs s t ∧ SameSched s t ∧ SameCinch s t ∧ SameKeeper s t ∧ SameAttached s t ∧ SameNodeQueues s t ∧ SameTables s t ∧ SameWindows s t ∧ SameHalter s t ∧ SameHar s t ∧ SameQueues s t ∧ SameArrivals s t ∧ SameLacing s t ∧ SameTree s t ∧ SameCurb s t ∧ SameConcho s t ∧ SameCores s t ∧ SameLocals s t ∧ SameBuckle s t ∧ SameReports s t ∧ SameCoresAll s t ∧ SameGirthAll s t ∧ SameTablesAll s t ∧ SameHarAll s t ∧ SameRadioAll s t ∧ SamePowerRxTilesTxTiles s t

theorem Kept210.of {s t : State} (h : t.outside { chain := true, dict := true, anyNum := true, logs := true, sb := true, straps := true, journal := true, edges := true, host := true, flags := true } = s.outside { chain := true, dict := true, anyNum := true, logs := true, sb := true, straps := true, journal := true, edges := true, host := true, flags := true }) : Kept210 s t :=
  ⟨.of h rfl, .of h rfl, .of h rfl, .of h rfl, .of h rfl, .of h rfl, .of h rfl, .of h rfl, .of h rfl, .of h rfl, .of h rfl, .of h rfl, .of h rfl, .of h rfl, .of h rfl, .of h rfl, .of h rfl, .of h rfl, .of h rfl, .of h rfl, .of h rfl, .of h rfl, .of h rfl, .of h rfl, .of h rfl, .of h rfl, .of h rfl, .of h rfl, .of h rfl, .of h rfl, .of h rfl, .of h rfl, .of h rfl, .of h rfl, .of h rfl, .of h rfl, .of h rfl, .of h rfl, .of h rfl rfl, .of h rfl rfl rfl rfl, .of h rfl rfl rfl, .of h rfl rfl rfl, .of h rfl rfl rfl rfl, .of h rfl rfl rfl⟩

/-- Every part but these is kept: out, chainPorts. -/
abbrev Kept211 (s t : State) : Prop :=
  SamePending s t ∧ SameDraws s t ∧ SameIdent s t ∧ SameFuses s t ∧ SamePins s t ∧ SameClock s t ∧ SamePulses s t ∧ SameChain s t ∧ SameDict s t ∧ SameNums s t ∧ SameDoms s t ∧ SameResults s t ∧ SameLogs s t ∧ SamePower s t ∧ SameVbat s t ∧ SameRadio s t ∧ SamePorts s t ∧ SameRxTiles s t ∧ SameTxTiles s t ∧ SameGirth s t ∧ SameRecs s t ∧ SameSched s t ∧ SameCinch s t ∧ SameKeeper s t ∧ SameSb s t ∧ SameStraps s t ∧ SameJournal s t ∧ SameAttached s t ∧ SameNodeQueues s t ∧ SameTables s t ∧ SameWindows s t ∧ SameHalter s t ∧ SameHar s t ∧ SameQueues s t ∧ SameArrivals s t ∧ SameLacing s t ∧ SameTree s t ∧ SameCurb s t ∧ SameConcho s t ∧ SameCores s t ∧ SameLocals s t ∧ SameBuckle s t ∧ SameEdges s t ∧ SameHost s t ∧ SameFlags s t ∧ SameReports s t ∧ SameDictAll s t ∧ SameSbAll s t ∧ SameBuckleAll s t ∧ SameHostAll s t ∧ SameCoresAll s t ∧ SameGirthAll s t ∧ SameTablesAll s t ∧ SameHarAll s t ∧ SameRadioAll s t ∧ SamePowerRxTilesTxTiles s t ∧ SameDictPower s t ∧ SameDictNums s t ∧ SameClockNumsPorts s t

theorem Kept211.of {s t : State} (h : t.outside { out := true, chainPorts := true } = s.outside { out := true, chainPorts := true }) : Kept211 s t :=
  ⟨.of h rfl, .of h rfl, .of h rfl, .of h rfl, .of h rfl, .of h rfl, .of h rfl, .of h rfl, .of h rfl, .of h rfl, .of h rfl, .of h rfl, .of h rfl, .of h rfl, .of h rfl, .of h rfl, .of h rfl, .of h rfl, .of h rfl, .of h rfl, .of h rfl, .of h rfl, .of h rfl, .of h rfl, .of h rfl, .of h rfl, .of h rfl, .of h rfl, .of h rfl, .of h rfl, .of h rfl, .of h rfl, .of h rfl, .of h rfl, .of h rfl, .of h rfl, .of h rfl, .of h rfl, .of h rfl, .of h rfl, .of h rfl, .of h rfl, .of h rfl, .of h rfl, .of h rfl, .of h rfl, .of h rfl rfl rfl rfl rfl, .of h rfl rfl rfl rfl rfl, .of h rfl rfl, .of h rfl rfl rfl, .of h rfl rfl, .of h rfl rfl rfl rfl, .of h rfl rfl rfl, .of h rfl rfl rfl, .of h rfl rfl rfl rfl, .of h rfl rfl rfl, .of h rfl rfl, .of h rfl rfl, .of h rfl rfl rfl⟩

/-- Every part but these is kept: chain, nums. -/
abbrev Kept212 (s t : State) : Prop :=
  SamePending s t ∧ SameDraws s t ∧ SameOut s t ∧ SameIdent s t ∧ SameFuses s t ∧ SamePins s t ∧ SameClock s t ∧ SamePulses s t ∧ SameChainPorts s t ∧ SameDict s t ∧ SameDoms s t ∧ SameResults s t ∧ SameLogs s t ∧ SamePower s t ∧ SameVbat s t ∧ SameRadio s t ∧ SamePorts s t ∧ SameRxTiles s t ∧ SameTxTiles s t ∧ SameGirth s t ∧ SameRecs s t ∧ SameSched s t ∧ SameCinch s t ∧ SameKeeper s t ∧ SameSb s t ∧ SameStraps s t ∧ SameJournal s t ∧ SameAttached s t ∧ SameNodeQueues s t ∧ SameTables s t ∧ SameWindows s t ∧ SameHalter s t ∧ SameHar s t ∧ SameQueues s t ∧ SameArrivals s t ∧ SameLacing s t ∧ SameTree s t ∧ SameCurb s t ∧ SameConcho s t ∧ SameCores s t ∧ SameLocals s t ∧ SameBuckle s t ∧ SameEdges s t ∧ SameHost s t ∧ SameFlags s t ∧ SameReports s t ∧ SameSbAll s t ∧ SameBuckleAll s t ∧ SameHostAll s t ∧ SameCoresAll s t ∧ SameGirthAll s t ∧ SameTablesAll s t ∧ SameHarAll s t ∧ SameRadioAll s t ∧ SamePowerRxTilesTxTiles s t ∧ SameDictPower s t

theorem Kept212.of {s t : State} (h : t.outside { chain := true, anyNum := true } = s.outside { chain := true, anyNum := true }) : Kept212 s t :=
  ⟨.of h rfl, .of h rfl, .of h rfl, .of h rfl, .of h rfl, .of h rfl, .of h rfl, .of h rfl, .of h rfl, .of h rfl, .of h rfl, .of h rfl, .of h rfl, .of h rfl, .of h rfl, .of h rfl, .of h rfl, .of h rfl, .of h rfl, .of h rfl, .of h rfl, .of h rfl, .of h rfl, .of h rfl, .of h rfl, .of h rfl, .of h rfl, .of h rfl, .of h rfl, .of h rfl, .of h rfl, .of h rfl, .of h rfl, .of h rfl, .of h rfl, .of h rfl, .of h rfl, .of h rfl, .of h rfl, .of h rfl, .of h rfl, .of h rfl, .of h rfl, .of h rfl, .of h rfl, .of h rfl, .of h rfl rfl rfl rfl rfl, .of h rfl rfl, .of h rfl rfl rfl, .of h rfl rfl, .of h rfl rfl rfl rfl, .of h rfl rfl rfl, .of h rfl rfl rfl, .of h rfl rfl rfl rfl, .of h rfl rfl rfl, .of h rfl rfl⟩

/-- Every part but these is kept: dict. -/
abbrev Kept213 (s t : State) : Prop :=
  SamePending s t ∧ SameDraws s t ∧ SameOut s t ∧ SameIdent s t ∧ SameFuses s t ∧ SamePins s t ∧ SameClock s t ∧ SamePulses s t ∧ SameChain s t ∧ SameChainPorts s t ∧ SameNums s t ∧ SameDoms s t ∧ SameResults s t ∧ SameLogs s t ∧ SamePower s t ∧ SameVbat s t ∧ SameRadio s t ∧ SamePorts s t ∧ SameRxTiles s t ∧ SameTxTiles s t ∧ SameGirth s t ∧ SameRecs s t ∧ SameSched s t ∧ SameCinch s t ∧ SameKeeper s t ∧ SameSb s t ∧ SameStraps s t ∧ SameJournal s t ∧ SameAttached s t ∧ SameNodeQueues s t ∧ SameTables s t ∧ SameWindows s t ∧ SameHalter s t ∧ SameHar s t ∧ SameQueues s t ∧ SameArrivals s t ∧ SameLacing s t ∧ SameTree s t ∧ SameCurb s t ∧ SameConcho s t ∧ SameCores s t ∧ SameLocals s t ∧ SameBuckle s t ∧ SameEdges s t ∧ SameHost s t ∧ SameFlags s t ∧ SameReports s t ∧ SameSbAll s t ∧ SameBuckleAll s t ∧ SameHostAll s t ∧ SameCoresAll s t ∧ SameGirthAll s t ∧ SameTablesAll s t ∧ SameHarAll s t ∧ SameChainAll s t ∧ SameRadioAll s t ∧ SamePowerRxTilesTxTiles s t ∧ SameClockNumsPorts s t

theorem Kept213.of {s t : State} (h : t.outside { dict := true } = s.outside { dict := true }) : Kept213 s t :=
  ⟨.of h rfl, .of h rfl, .of h rfl, .of h rfl, .of h rfl, .of h rfl, .of h rfl, .of h rfl, .of h rfl, .of h rfl, .of h rfl, .of h rfl, .of h rfl, .of h rfl, .of h rfl, .of h rfl, .of h rfl, .of h rfl, .of h rfl, .of h rfl, .of h rfl, .of h rfl, .of h rfl, .of h rfl, .of h rfl, .of h rfl, .of h rfl, .of h rfl, .of h rfl, .of h rfl, .of h rfl, .of h rfl, .of h rfl, .of h rfl, .of h rfl, .of h rfl, .of h rfl, .of h rfl, .of h rfl, .of h rfl, .of h rfl, .of h rfl, .of h rfl, .of h rfl, .of h rfl, .of h rfl, .of h rfl, .of h rfl rfl rfl rfl rfl, .of h rfl rfl, .of h rfl rfl rfl, .of h rfl rfl, .of h rfl rfl rfl rfl, .of h rfl rfl rfl, .of h rfl rfl rfl, .of h rfl rfl, .of h rfl rfl rfl rfl, .of h rfl rfl rfl, .of h rfl rfl rfl⟩

/-- Every part but these is kept: pins, clock, pulses, dict, nums, logs, ports, recs, sched, straps, journal, curb, concho, edges, flags. -/
abbrev Kept214 (s t : State) : Prop :=
  SamePending s t ∧ SameDraws s t ∧ SameOut s t ∧ SameIdent s t ∧ SameFuses s t ∧ SameChain s t ∧ SameChainPorts s t ∧ SameDoms s t ∧ SameResults s t ∧ SamePower s t ∧ SameVbat s t ∧ SameRadio s t ∧ SameRxTiles s t ∧ SameTxTiles s t ∧ SameGirth s t ∧ SameCinch s t ∧ SameKeeper s t ∧ SameSb s t ∧ SameAttached s t ∧ SameNodeQueues s t ∧ SameTables s t ∧ SameWindows s t ∧ SameHalter s t ∧ SameHar s t ∧ SameQueues s t ∧ SameArrivals s t ∧ SameLacing s t ∧ SameTree s t ∧ SameCores s t ∧ SameLocals s t ∧ SameBuckle s t ∧ SameHost s t ∧ SameReports s t ∧ SameCoresAll s t ∧ SameTablesAll s t ∧ SameHarAll s t ∧ SameChainAll s t ∧ SamePowerRxTilesTxTiles s t

theorem Kept214.of {s t : State} (h : t.outside { pins := true, clock := true, pulses := true, dict := true, anyNum := true, logs := true, ports := true, recs := true, sched := true, straps := true, journal := true, curb := true, concho := true, edges := true, flags := true } = s.outside { pins := true, clock := true, pulses := true, dict := true, anyNum := true, logs := true, ports := true, recs := true, sched := true, straps := true, journal := true, curb := true, concho := true, edges := true, flags := true }) : Kept214 s t :=
  ⟨.of h rfl, .of h rfl, .of h rfl, .of h rfl, .of h rfl, .of h rfl, .of h rfl, .of h rfl, .of h rfl, .of h rfl, .of h rfl, .of h rfl, .of h rfl, .of h rfl, .of h rfl, .of h rfl, .of h rfl, .of h rfl, .of h rfl, .of h rfl, .of h rfl, .of h rfl, .of h rfl, .of h rfl, .of h rfl, .of h rfl, .of h rfl, .of h rfl, .of h rfl, .of h rfl, .of h rfl, .of h rfl, .of h rfl, .of h rfl rfl, .of h rfl rfl rfl, .of h rfl rfl rfl, .of h rfl rfl, .of h rfl rfl rfl⟩

/-- Every part but these is kept: pins, clock, pulses, dict, nums, logs, vbat, ports, recs, sched, straps, journal, curb, concho, edges, flags. -/
abbrev Kept215 (s t : State) : Prop :=
  SamePending s t ∧ SameDraws s t ∧ SameOut s t ∧ SameIdent s t ∧ SameFuses s t ∧ SameChain s t ∧ SameChainPorts s t ∧ SameDoms s t ∧ SameResults s t ∧ SamePower s t ∧ SameRadio s t ∧ SameRxTiles s t ∧ SameTxTiles s t ∧ SameGirth s t ∧ SameCinch s t ∧ SameKeeper s t ∧ SameSb s t ∧ SameAttached s t ∧ SameNodeQueues s t ∧ SameTables s t ∧ SameWindows s t ∧ SameHalter s t ∧ SameHar s t ∧ SameQueues s t ∧ SameArrivals s t ∧ SameLacing s t ∧ SameTree s t ∧ SameCores s t ∧ SameLocals s t ∧ SameBuckle s t ∧ SameHost s t ∧ SameReports s t ∧ SameCoresAll s t ∧ SameTablesAll s t ∧ SameHarAll s t ∧ SameChainAll s t ∧ SamePowerRxTilesTxTiles s t

theorem Kept215.of {s t : State} (h : t.outside { pins := true, clock := true, pulses := true, dict := true, anyNum := true, logs := true, vbat := true, ports := true, recs := true, sched := true, straps := true, journal := true, curb := true, concho := true, edges := true, flags := true } = s.outside { pins := true, clock := true, pulses := true, dict := true, anyNum := true, logs := true, vbat := true, ports := true, recs := true, sched := true, straps := true, journal := true, curb := true, concho := true, edges := true, flags := true }) : Kept215 s t :=
  ⟨.of h rfl, .of h rfl, .of h rfl, .of h rfl, .of h rfl, .of h rfl, .of h rfl, .of h rfl, .of h rfl, .of h rfl, .of h rfl, .of h rfl, .of h rfl, .of h rfl, .of h rfl, .of h rfl, .of h rfl, .of h rfl, .of h rfl, .of h rfl, .of h rfl, .of h rfl, .of h rfl, .of h rfl, .of h rfl, .of h rfl, .of h rfl, .of h rfl, .of h rfl, .of h rfl, .of h rfl, .of h rfl, .of h rfl rfl, .of h rfl rfl rfl, .of h rfl rfl rfl, .of h rfl rfl, .of h rfl rfl rfl⟩

/-- Every part but these is kept: dict, nums, doms, logs, sched, sb, straps, journal, attached, nodeQueues, har, queues, edges, flags, reports. -/
abbrev Kept216 (s t : State) : Prop :=
  SamePending s t ∧ SameDraws s t ∧ SameOut s t ∧ SameIdent s t ∧ SameFuses s t ∧ SamePins s t ∧ SameClock s t ∧ SamePulses s t ∧ SameChain s t ∧ SameChainPorts s t ∧ SameResults s t ∧ SamePower s t ∧ SameVbat s t ∧ SameRadio s t ∧ SamePorts s t ∧ SameRxTiles s t ∧ SameTxTiles s t ∧ SameGirth s t ∧ SameRecs s t ∧ SameCinch s t ∧ SameKeeper s t ∧ SameTables s t ∧ SameWindows s t ∧ SameHalter s t ∧ SameArrivals s t ∧ SameLacing s t ∧ SameTree s t ∧ SameCurb s t ∧ SameConcho s t ∧ SameCores s t ∧ SameLocals s t ∧ SameBuckle s t ∧ SameHost s t ∧ SameCoresAll s t ∧ SameTablesAll s t ∧ SameChainAll s t ∧ SameRadioAll s t ∧ SamePowerRxTilesTxTiles s t

theorem Kept216.of {s t : State} (h : t.outside { dict := true, anyNum := true, doms := true, logs := true, sched := true, sb := true, straps := true, journal := true, attached := true, nodeQueues := true, har := true, queues := true, edges := true, flags := true, reports := true } = s.outside { dict := true, anyNum := true, doms := true, logs := true, sched := true, sb := true, straps := true, journal := true, attached := true, nodeQueues := true, har := true, queues := true, edges := true, flags := true, reports := true }) : Kept216 s t :=
  ⟨.of h rfl, .of h rfl, .of h rfl, .of h rfl, .of h rfl, .of h rfl, .of h rfl, .of h rfl, .of h rfl, .of h rfl, .of h rfl, .of h rfl, .of h rfl, .of h rfl, .of h rfl, .of h rfl, .of h rfl, .of h rfl, .of h rfl, .of h rfl, .of h rfl, .of h rfl, .of h rfl, .of h rfl, .of h rfl, .of h rfl, .of h rfl, .of h rfl, .of h rfl, .of h rfl, .of h rfl, .of h rfl, .of h rfl, .of h rfl rfl, .of h rfl rfl rfl, .of h rfl rfl, .of h rfl rfl rfl rfl, .of h rfl rfl rfl⟩

/-- Every part but these is kept: dict, nums, logs, straps, journal, attached, lacing, edges, flags. -/
abbrev Kept217 (s t : State) : Prop :=
  SamePending s t ∧ SameDraws s t ∧ SameOut s t ∧ SameIdent s t ∧ SameFuses s t ∧ SamePins s t ∧ SameClock s t ∧ SamePulses s t ∧ SameChain s t ∧ SameChainPorts s t ∧ SameDoms s t ∧ SameResults s t ∧ SamePower s t ∧ SameVbat s t ∧ SameRadio s t ∧ SamePorts s t ∧ SameRxTiles s t ∧ SameTxTiles s t ∧ SameGirth s t ∧ SameRecs s t ∧ SameSched s t ∧ SameCinch s t ∧ SameKeeper s t ∧ SameSb s t ∧ SameNodeQueues s t ∧ SameTables s t ∧ SameWindows s t ∧ SameHalter s t ∧ SameHar s t ∧ SameQueues s t ∧ SameArrivals s t ∧ SameTree s t ∧ SameCurb s t ∧ SameConcho s t ∧ SameCores s t ∧ SameLocals s t ∧ SameBuckle s t ∧ SameHost s t ∧ SameReports s t ∧ SameCoresAll s t ∧ SameGirthAll s t ∧ SameTablesAll s t ∧ SameHarAll s t ∧ SameChainAll s t ∧ SameRadioAll s t ∧ SamePowerRxTilesTxTiles s t

theorem Kept217.of {s t : State} (h : t.outside { dict := true, anyNum := true, logs := true, straps := true, journal := true, attached := true, lacing := true, edges := true, flags := true } = s.outside { dict := true, anyNum := true, logs := true, straps := true, journal := true, attached := true, lacing := true, edges := true, flags := true }) : Kept217 s t :=
  ⟨.of h rfl, .of h rfl, .of h rfl, .of h rfl, .of h rfl, .of h rfl, .of h rfl, .of h rfl, .of h rfl, .of h rfl, .of h rfl, .of h rfl, .of h rfl, .of h rfl, .of h rfl, .of h rfl, .of h rfl, .of h rfl, .of h rfl, .of h rfl, .of h rfl, .of h rfl, .of h rfl, .of h rfl, .of h rfl, .of h rfl, .of h rfl, .of h rfl, .of h rfl, .of h rfl, .of h rfl, .of h rfl, .of h rfl, .of h rfl, .of h rfl, .of h rfl, .of h rfl, .of h rfl, .of h rfl, .of h rfl rfl, .of h rfl rfl rfl rfl, .of h rfl rfl rfl, .of h rfl rfl rfl, .of h rfl rfl, .of h rfl rfl rfl rfl, .of h rfl rfl rfl⟩

/-- Every part but these is kept: pins, dict, nums, doms, results, logs, ports, rxTiles, txTiles, recs, sched, keeper, sb, straps, journal, attached, nodeQueues, har, queues, lacing, tree, concho, cores, locals, edges, flags, reports. -/
abbrev Kept218 (s t : State) : Prop :=
  SamePending s t ∧ SameDraws s t ∧ SameOut s t ∧ SameIdent s t ∧ SameFuses s t ∧ SameClock s t ∧ SamePulses s t ∧ SameChain s t ∧ SameChainPorts s t ∧ SamePower s t ∧ SameVbat s t ∧ SameRadio s t ∧ SameGirth s t ∧ SameCinch s t ∧ SameTables s t ∧ SameWindows s t ∧ SameHalter s t ∧ SameArrivals s t ∧ SameCurb s t ∧ SameBuckle s t ∧ SameHost s t ∧ SameTablesAll s t ∧ SameChainAll s t

theorem Kept218.of {s t : State} (h : t.outside { pins := true, dict := true, anyNum := true, doms := true, results := true, logs := true, ports := true, rxTiles := true, txTiles := true, recs := true, sched := true, keeper := true, sb := true, straps := true, journal := true, attached := true, nodeQueues := true, har := true, queues := true, lacing := true, tree := true, concho := true, cores := true, locals := true, edges := true, flags := true, reports := true } = s.outside { pins := true, dict := true, anyNum := true, doms := true, results := true, logs := true, ports := true, rxTiles := true, txTiles := true, recs := true, sched := true, keeper := true, sb := true, straps := true, journal := true, attached := true, nodeQueues := true, har := true, queues := true, lacing := true, tree := true, concho := true, cores := true, locals := true, edges := true, flags := true, reports := true }) : Kept218 s t :=
  ⟨.of h rfl, .of h rfl, .of h rfl, .of h rfl, .of h rfl, .of h rfl, .of h rfl, .of h rfl, .of h rfl, .of h rfl, .of h rfl, .of h rfl, .of h rfl, .of h rfl, .of h rfl, .of h rfl, .of h rfl, .of h rfl, .of h rfl, .of h rfl, .of h rfl, .of h rfl rfl rfl, .of h rfl rfl⟩

/-- Every part but these is kept: pins, chain, chainPorts, dict, nums, results, logs, ports, rxTiles, txTiles, recs, sched, sb, straps, journal, nodeQueues, lacing, edges, host, flags, reports. -/
abbrev Kept219 (s t : State) : Prop :=
  SamePending s t ∧ SameDraws s t ∧ SameOut s t ∧ SameIdent s t ∧ SameFuses s t ∧ SameClock s t ∧ SamePulses s t ∧ SameDoms s t ∧ SamePower s t ∧ SameVbat s t ∧ SameRadio s t ∧ SameGirth s t ∧ SameCinch s t ∧ SameKeeper s t ∧ SameAttached s t ∧ SameTables s t ∧ SameWindows s t ∧ SameHalter s t ∧ SameHar s t ∧ SameQueues s t ∧ SameArrivals s t ∧ SameTree s t ∧ SameCurb s t ∧ SameConcho s t ∧ SameCores s t ∧ SameLocals s t ∧ SameBuckle s t ∧ SameCoresAll s t ∧ SameTablesAll s t ∧ SameHarAll s t

theorem Kept219.of {s t : State} (h : t.outside { pins := true, chain := true, chainPorts := true, dict := true, anyNum := true, results := true, logs := true, ports := true, rxTiles := true, txTiles := true, recs := true, sched := true, sb := true, straps := true, journal := true, nodeQueues := true, lacing := true, edges := true, host := true, flags := true, reports := true } = s.outside { pins := true, chain := true, chainPorts := true, dict := true, anyNum := true, results := true, logs := true, ports := true, rxTiles := true, txTiles := true, recs := true, sched := true, sb := true, straps := true, journal := true, nodeQueues := true, lacing := true, edges := true, host := true, flags := true, reports := true }) : Kept219 s t :=
  ⟨.of h rfl, .of h rfl, .of h rfl, .of h rfl, .of h rfl, .of h rfl, .of h rfl, .of h rfl, .of h rfl, .of h rfl, .of h rfl, .of h rfl, .of h rfl, .of h rfl, .of h rfl, .of h rfl, .of h rfl, .of h rfl, .of h rfl, .of h rfl, .of h rfl, .of h rfl, .of h rfl, .of h rfl, .of h rfl, .of h rfl, .of h rfl, .of h rfl rfl, .of h rfl rfl rfl, .of h rfl rfl rfl⟩

/-- Every part but these is kept: nums, results, logs. -/
abbrev Kept220 (s t : State) : Prop :=
  SamePending s t ∧ SameDraws s t ∧ SameOut s t ∧ SameIdent s t ∧ SameFuses s t ∧ SamePins s t ∧ SameClock s t ∧ SamePulses s t ∧ SameChain s t ∧ SameChainPorts s t ∧ SameDict s t ∧ SameDoms s t ∧ SamePower s t ∧ SameVbat s t ∧ SameRadio s t ∧ SamePorts s t ∧ SameRxTiles s t ∧ SameTxTiles s t ∧ SameGirth s t ∧ SameRecs s t ∧ SameSched s t ∧ SameCinch s t ∧ SameKeeper s t ∧ SameSb s t ∧ SameStraps s t ∧ SameJournal s t ∧ SameAttached s t ∧ SameNodeQueues s t ∧ SameTables s t ∧ SameWindows s t ∧ SameHalter s t ∧ SameHar s t ∧ SameQueues s t ∧ SameArrivals s t ∧ SameLacing s t ∧ SameTree s t ∧ SameCurb s t ∧ SameConcho s t ∧ SameCores s t ∧ SameLocals s t ∧ SameBuckle s t ∧ SameEdges s t ∧ SameHost s t ∧ SameFlags s t ∧ SameReports s t ∧ SameSbAll s t ∧ SameBuckleAll s t ∧ SameHostAll s t ∧ SameCoresAll s t ∧ SameGirthAll s t ∧ SameTablesAll s t ∧ SameHarAll s t ∧ SameChainAll s t ∧ SameRadioAll s t ∧ SamePowerRxTilesTxTiles s t ∧ SameDictPower s t

theorem Kept220.of {s t : State} (h : t.outside { anyNum := true, results := true, logs := true } = s.outside { anyNum := true, results := true, logs := true }) : Kept220 s t :=
  ⟨.of h rfl, .of h rfl, .of h rfl, .of h rfl, .of h rfl, .of h rfl, .of h rfl, .of h rfl, .of h rfl, .of h rfl, .of h rfl, .of h rfl, .of h rfl, .of h rfl, .of h rfl, .of h rfl, .of h rfl, .of h rfl, .of h rfl, .of h rfl, .of h rfl, .of h rfl, .of h rfl, .of h rfl, .of h rfl, .of h rfl, .of h rfl, .of h rfl, .of h rfl, .of h rfl, .of h rfl, .of h rfl, .of h rfl, .of h rfl, .of h rfl, .of h rfl, .of h rfl, .of h rfl, .of h rfl, .of h rfl, .of h rfl, .of h rfl, .of h rfl, .of h rfl, .of h rfl, .of h rfl rfl rfl rfl rfl, .of h rfl rfl, .of h rfl rfl rfl, .of h rfl rfl, .of h rfl rfl rfl rfl, .of h rfl rfl rfl, .of h rfl rfl rfl, .of h rfl rfl, .of h rfl rfl rfl rfl, .of h rfl rfl rfl, .of h rfl rfl⟩

/-- Every part but these is kept: dict, results. -/
abbrev Kept221 (s t : State) : Prop :=
  SamePending s t ∧ SameDraws s t ∧ SameOut s t ∧ SameIdent s t ∧ SameFuses s t ∧ SamePins s t ∧ SameClock s t ∧ SamePulses s t ∧ SameChain s t ∧ SameChainPorts s t ∧ SameNums s t ∧ SameDoms s t ∧ SameLogs s t ∧ SamePower s t ∧ SameVbat s t ∧ SameRadio s t ∧ SamePorts s t ∧ SameRxTiles s t ∧ SameTxTiles s t ∧ SameGirth s t ∧ SameRecs s t ∧ SameSched s t ∧ SameCinch s t ∧ SameKeeper s t ∧ SameSb s t ∧ SameStraps s t ∧ SameJournal s t ∧ SameAttached s t ∧ SameNodeQueues s t ∧ SameTables s t ∧ SameWindows s t ∧ SameHalter s t ∧ SameHar s t ∧ SameQueues s t ∧ SameArrivals s t ∧ SameLacing s t ∧ SameTree s t ∧ SameCurb s t ∧ SameConcho s t ∧ SameCores s t ∧ SameLocals s t ∧ SameBuckle s t ∧ SameEdges s t ∧ SameHost s t ∧ SameFlags s t ∧ SameReports s t ∧ SameSbAll s t ∧ SameBuckleAll s t ∧ SameHostAll s t ∧ SameCoresAll s t ∧ SameGirthAll s t ∧ SameTablesAll s t ∧ SameHarAll s t ∧ SameChainAll s t ∧ SameRadioAll s t ∧ SamePowerRxTilesTxTiles s t ∧ SameClockNumsPorts s t

theorem Kept221.of {s t : State} (h : t.outside { dict := true, results := true } = s.outside { dict := true, results := true }) : Kept221 s t :=
  ⟨.of h rfl, .of h rfl, .of h rfl, .of h rfl, .of h rfl, .of h rfl, .of h rfl, .of h rfl, .of h rfl, .of h rfl, .of h rfl, .of h rfl, .of h rfl, .of h rfl, .of h rfl, .of h rfl, .of h rfl, .of h rfl, .of h rfl, .of h rfl, .of h rfl, .of h rfl, .of h rfl, .of h rfl, .of h rfl, .of h rfl, .of h rfl, .of h rfl, .of h rfl, .of h rfl, .of h rfl, .of h rfl, .of h rfl, .of h rfl, .of h rfl, .of h rfl, .of h rfl, .of h rfl, .of h rfl, .of h rfl, .of h rfl, .of h rfl, .of h rfl, .of h rfl, .of h rfl, .of h rfl, .of h rfl rfl rfl rfl rfl, .of h rfl rfl, .of h rfl rfl rfl, .of h rfl rfl, .of h rfl rfl rfl rfl, .of h rfl rfl rfl, .of h rfl rfl rfl, .of h rfl rfl, .of h rfl rfl rfl rfl, .of h rfl rfl rfl, .of h rfl rfl rfl⟩

/-- Every part but these is kept: out, pins, clock, pulses, chain, chainPorts, dict, nums, doms, results, logs, power, vbat, radio, ports, rxTiles, txTiles, girth, recs, sched, cinch, keeper, sb, straps, journal, nodeQueues, tables, windows, halter, har, queues, arrivals, lacing, tree, curb, concho, cores, locals, buckle, edges, host, flags, reports. -/
abbrev Kept222 (s t : State) : Prop :=
  SamePending s t ∧ SameDraws s t ∧ SameIdent s t ∧ SameFuses s t ∧ SameAttached s t

theorem Kept222.of {s t : State} (h : t.outside { out := true, pins := true, clock := true, pulses := true, chain := true, chainPorts := true, dict := true, anyNum := true, doms := true, results := true, logs := true, power := true, vbat := true, radio := true, ports := true, rxTiles := true, txTiles := true, girth := true, recs := true, sched := true, cinch := true, keeper := true, sb := true, straps := true, journal := true, nodeQueues := true, tables := true, windows := true, halter := true, har := true, queues := true, arrivals := true, lacing := true, tree := true, curb := true, concho := true, cores := true, locals := true, buckle := true, edges := true, host := true, flags := true, reports := true } = s.outside { out := true, pins := true, clock := true, pulses := true, chain := true, chainPorts := true, dict := true, anyNum := true, doms := true, results := true, logs := true, power := true, vbat := true, radio := true, ports := true, rxTiles := true, txTiles := true, girth := true, recs := true, sched := true, cinch := true, keeper := true, sb := true, straps := true, journal := true, nodeQueues := true, tables := true, windows := true, halter := true, har := true, queues := true, arrivals := true, lacing := true, tree := true, curb := true, concho := true, cores := true, locals := true, buckle := true, edges := true, host := true, flags := true, reports := true }) : Kept222 s t :=
  ⟨.of h rfl, .of h rfl, .of h rfl, .of h rfl, .of h rfl⟩

/-- Every part but these is kept: dict, nums, logs, journal. -/
abbrev Kept223 (s t : State) : Prop :=
  SamePending s t ∧ SameDraws s t ∧ SameOut s t ∧ SameIdent s t ∧ SameFuses s t ∧ SamePins s t ∧ SameClock s t ∧ SamePulses s t ∧ SameChain s t ∧ SameChainPorts s t ∧ SameDoms s t ∧ SameResults s t ∧ SamePower s t ∧ SameVbat s t ∧ SameRadio s t ∧ SamePorts s t ∧ SameRxTiles s t ∧ SameTxTiles s t ∧ SameGirth s t ∧ SameRecs s t ∧ SameSched s t ∧ SameCinch s t ∧ SameKeeper s t ∧ SameSb s t ∧ SameStraps s t ∧ SameAttached s t ∧ SameNodeQueues s t ∧ SameTables s t ∧ SameWindows s t ∧ SameHalter s t ∧ SameHar s t ∧ SameQueues s t ∧ SameArrivals s t ∧ SameLacing s t ∧ SameTree s t ∧ SameCurb s t ∧ SameConcho s t ∧ SameCores s t ∧ SameLocals s t ∧ SameBuckle s t ∧ SameEdges s t ∧ SameHost s t ∧ SameFlags s t ∧ SameReports s t ∧ SameBuckleAll s t ∧ SameHostAll s t ∧ SameCoresAll s t ∧ SameGirthAll s t ∧ SameTablesAll s t ∧ SameHarAll s t ∧ SameChainAll s t ∧ SameRadioAll s t ∧ SamePowerRxTilesTxTiles s t

theorem Kept223.of {s t : State} (h : t.outside { dict := true, anyNum := true, logs := true, journal := true } = s.outside { dict := true, anyNum := true, logs := true, journal := true }) : Kept223 s t :=
  ⟨.of h rfl, .of h rfl, .of h rfl, .of h rfl, .of h rfl, .of h rfl, .of h rfl, .of h rfl, .of h rfl, .of h rfl, .of h rfl, .of h rfl, .of h rfl, .of h rfl, .of h rfl, .of h rfl, .of h rfl, .of h rfl, .of h rfl, .of h rfl, .of h rfl, .of h rfl, .of h rfl, .of h rfl, .of h rfl, .of h rfl, .of h rfl, .of h rfl, .of h rfl, .of h rfl, .of h rfl, .of h rfl, .of h rfl, .of h rfl, .of h rfl, .of h rfl, .of h rfl, .of h rfl, .of h rfl, .of h rfl, .of h rfl, .of h rfl, .of h rfl, .of h rfl, .of h rfl rfl, .of h rfl rfl rfl, .of h rfl rfl, .of h rfl rfl rfl rfl, .of h rfl rfl rfl, .of h rfl rfl rfl, .of h rfl rfl, .of h rfl rfl rfl rfl, .of h rfl rfl rfl⟩

/-- Every part but these is kept: cores, edges. -/
abbrev Kept224 (s t : State) : Prop :=
  SamePending s t ∧ SameDraws s t ∧ SameOut s t ∧ SameIdent s t ∧ SameFuses s t ∧ SamePins s t ∧ SameClock s t ∧ SamePulses s t ∧ SameChain s t ∧ SameChainPorts s t ∧ SameDict s t ∧ SameNums s t ∧ SameDoms s t ∧ SameResults s t ∧ SameLogs s t ∧ SamePower s t ∧ SameVbat s t ∧ SameRadio s t ∧ SamePorts s t ∧ SameRxTiles s t ∧ SameTxTiles s t ∧ SameGirth s t ∧ SameRecs s t ∧ SameSched s t ∧ SameCinch s t ∧ SameKeeper s t ∧ SameSb s t ∧ SameStraps s t ∧ SameJournal s t ∧ SameAttached s t ∧ SameNodeQueues s t ∧ SameTables s t ∧ SameWindows s t ∧ SameHalter s t ∧ SameHar s t ∧ SameQueues s t ∧ SameArrivals s t ∧ SameLacing s t ∧ SameTree s t ∧ SameCurb s t ∧ SameConcho s t ∧ SameLocals s t ∧ SameBuckle s t ∧ SameHost s t ∧ SameFlags s t ∧ SameReports s t ∧ SameDictAll s t ∧ SameSbAll s t ∧ SameHostAll s t ∧ SameGirthAll s t ∧ SameTablesAll s t ∧ SameHarAll s t ∧ SameChainAll s t ∧ SameRadioAll s t ∧ SamePowerRxTilesTxTiles s t ∧ SameDictPower s t ∧ SameDictNums s t ∧ SameClockNumsPorts s t

theorem Kept224.of {s t : State} (h : t.outside { cores := true, edges := true } = s.outside { cores := true, edges := true }) : Kept224 s t :=
  ⟨.of h rfl, .of h rfl, .of h rfl, .of h rfl, .of h rfl, .of h rfl, .of h rfl, .of h rfl, .of h rfl, .of h rfl, .of h rfl, .of h rfl, .of h rfl, .of h rfl, .of h rfl, .of h rfl, .of h rfl, .of h rfl, .of h rfl, .of h rfl, .of h rfl, .of h rfl, .of h rfl, .of h rfl, .of h rfl, .of h rfl, .of h rfl, .of h rfl, .of h rfl, .of h rfl, .of h rfl, .of h rfl, .of h rfl, .of h rfl, .of h rfl, .of h rfl, .of h rfl, .of h rfl, .of h rfl, .of h rfl, .of h rfl, .of h rfl, .of h rfl, .of h rfl, .of h rfl, .of h rfl, .of h rfl rfl rfl rfl rfl, .of h rfl rfl rfl rfl rfl, .of h rfl rfl rfl, .of h rfl rfl rfl rfl, .of h rfl rfl rfl, .of h rfl rfl rfl, .of h rfl rfl, .of h rfl rfl rfl rfl, .of h rfl rfl rfl, .of h rfl rfl, .of h rfl rfl, .of h rfl rfl rfl⟩

/-- Every part but these is kept: out, chainPorts, nums, cores, edges, host, flags. -/
abbrev Kept225 (s t : State) : Prop :=
  SamePending s t ∧ SameDraws s t ∧ SameIdent s t ∧ SameFuses s t ∧ SamePins s t ∧ SameClock s t ∧ SamePulses s t ∧ SameChain s t ∧ SameDict s t ∧ SameDoms s t ∧ SameResults s t ∧ SameLogs s t ∧ SamePower s t ∧ SameVbat s t ∧ SameRadio s t ∧ SamePorts s t ∧ SameRxTiles s t ∧ SameTxTiles s t ∧ SameGirth s t ∧ SameRecs s t ∧ SameSched s t ∧ SameCinch s t ∧ SameKeeper s t ∧ SameSb s t ∧ SameStraps s t ∧ SameJournal s t ∧ SameAttached s t ∧ SameNodeQueues s t ∧ SameTables s t ∧ SameWindows s t ∧ SameHalter s t ∧ SameHar s t ∧ SameQueues s t ∧ SameArrivals s t ∧ SameLacing s t ∧ SameTree s t ∧ SameCurb s t ∧ SameConcho s t ∧ SameLocals s t ∧ SameBuckle s t ∧ SameReports s t ∧ SameSbAll s t ∧ SameGirthAll s t ∧ SameTablesAll s t ∧ SameHarAll s t ∧ SameRadioAll s t ∧ SamePowerRxTilesTxTiles s t ∧ SameDictPower s t

theorem Kept225.of {s t : State} (h : t.outside { out := true, chainPorts := true, anyNum := true, cores := true, edges := true, host := true, flags := true } = s.outside { out := true, chainPorts := true, anyNum := true, cores := true, edges := true, host := true, flags := true }) : Kept225 s t :=
  ⟨.of h rfl, .of h rfl, .of h rfl, .of h rfl, .of h rfl, .of h rfl, .of h rfl, .of h rfl, .of h rfl, .of h rfl, .of h rfl, .of h rfl, .of h rfl, .of h rfl, .of h rfl, .of h rfl, .of h rfl, .of h rfl, .of h rfl, .of h rfl, .of h rfl, .of h rfl, .of h rfl, .of h rfl, .of h rfl, .of h rfl, .of h rfl, .of h rfl, .of h rfl, .of h rfl, .of h rfl, .of h rfl, .of h rfl, .of h rfl, .of h rfl, .of h rfl, .of h rfl, .of h rfl, .of h rfl, .of h rfl, .of h rfl, .of h rfl rfl rfl rfl rfl, .of h rfl rfl rfl rfl, .of h rfl rfl rfl, .of h rfl rfl rfl, .of h rfl rfl rfl rfl, .of h rfl rfl rfl, .of h rfl rfl⟩

/-- Every part but these is kept: out, pins, clock, pulses, chain, chainPorts, dict, nums, doms, results, logs, power, vbat, radio, ports, rxTiles, txTiles, girth, recs, sched, cinch, keeper, sb, straps, journal, attached, nodeQueues, tables, windows, halter, har, queues, arrivals, lacing, tree, curb, concho, cores, locals, buckle, edges, host, flags, reports. -/
abbrev Kept226 (s t : State) : Prop :=
  SamePending s t ∧ SameDraws s t ∧ SameIdent s t ∧ SameFuses s t

theorem Kept226.of {s t : State} (h : t.outside { out := true, pins := true, clock := true, pulses := true, chain := true, chainPorts := true, dict := true, anyNum := true, doms := true, results := true, logs := true, power := true, vbat := true, radio := true, ports := true, rxTiles := true, txTiles := true, girth := true, recs := true, sched := true, cinch := true, keeper := true, sb := true, straps := true, journal := true, attached := true, nodeQueues := true, tables := true, windows := true, halter := true, har := true, queues := true, arrivals := true, lacing := true, tree := true, curb := true, concho := true, cores := true, locals := true, buckle := true, edges := true, host := true, flags := true, reports := true } = s.outside { out := true, pins := true, clock := true, pulses := true, chain := true, chainPorts := true, dict := true, anyNum := true, doms := true, results := true, logs := true, power := true, vbat := true, radio := true, ports := true, rxTiles := true, txTiles := true, girth := true, recs := true, sched := true, cinch := true, keeper := true, sb := true, straps := true, journal := true, attached := true, nodeQueues := true, tables := true, windows := true, halter := true, har := true, queues := true, arrivals := true, lacing := true, tree := true, curb := true, concho := true, cores := true, locals := true, buckle := true, edges := true, host := true, flags := true, reports := true }) : Kept226 s t :=
  ⟨.of h rfl, .of h rfl, .of h rfl, .of h rfl⟩

/-- Every part but these is kept: nums, straps, cores, edges, flags. -/
abbrev Kept227 (s t : State) : Prop :=
  SamePending s t ∧ SameDraws s t ∧ SameOut s t ∧ SameIdent s t ∧ SameFuses s t ∧ SamePins s t ∧ SameClock s t ∧ SamePulses s t ∧ SameChain s t ∧ SameChainPorts s t ∧ SameDict s t ∧ SameDoms s t ∧ SameResults s t ∧ SameLogs s t ∧ SamePower s t ∧ SameVbat s t ∧ SameRadio s t ∧ SamePorts s t ∧ SameRxTiles s t ∧ SameTxTiles s t ∧ SameGirth s t ∧ SameRecs s t ∧ SameSched s t ∧ SameCinch s t ∧ SameKeeper s t ∧ SameSb s t ∧ SameJournal s t ∧ SameAttached s t ∧ SameNodeQueues s t ∧ SameTables s t ∧ SameWindows s t ∧ SameHalter s t ∧ SameHar s t ∧ SameQueues s t ∧ SameArrivals s t ∧ SameLacing s t ∧ SameTree s t ∧ SameCurb s t ∧ SameConcho s t ∧ SameLocals s t ∧ SameBuckle s t ∧ SameHost s t ∧ SameReports s t ∧ SameGirthAll s t ∧ SameTablesAll s t ∧ SameHarAll s t ∧ SameChainAll s t ∧ SameRadioAll s t ∧ SamePowerRxTilesTxTiles s t ∧ SameDictPower s t

theorem Kept227.of {s t : State} (h : t.outside { anyNum := true, straps := true, cores := true, edges := true, flags := true } = s.outside { anyNum := true, straps := true, cores := true, edges := true, flags := true }) : Kept227 s t :=
  ⟨.of h rfl, .of h rfl, .of h rfl, .of h rfl, .of h rfl, .of h rfl, .of h rfl, .of h rfl, .of h rfl, .of h rfl, .of h rfl, .of h rfl, .of h rfl, .of h rfl, .of h rfl, .of h rfl, .of h rfl, .of h rfl, .of h rfl, .of h rfl, .of h rfl, .of h rfl, .of h rfl, .of h rfl, .of h rfl, .of h rfl, .of h rfl, .of h rfl, .of h rfl, .of h rfl, .of h rfl, .of h rfl, .of h rfl, .of h rfl, .of h rfl, .of h rfl, .of h rfl, .of h rfl, .of h rfl, .of h rfl, .of h rfl, .of h rfl, .of h rfl, .of h rfl rfl rfl rfl, .of h rfl rfl rfl, .of h rfl rfl rfl, .of h rfl rfl, .of h rfl rfl rfl rfl, .of h rfl rfl rfl, .of h rfl rfl⟩

/-- Every part but these is kept: out, chainPorts, dict, nums, cores, edges, host, flags. -/
abbrev Kept228 (s t : State) : Prop :=
  SamePending s t ∧ SameDraws s t ∧ SameIdent s t ∧ SameFuses s t ∧ SamePins s t ∧ SameClock s t ∧ SamePulses s t ∧ SameChain s t ∧ SameDoms s t ∧ SameResults s t ∧ SameLogs s t ∧ SamePower s t ∧ SameVbat s t ∧ SameRadio s t ∧ SamePorts s t ∧ SameRxTiles s t ∧ SameTxTiles s t ∧ SameGirth s t ∧ SameRecs s t ∧ SameSched s t ∧ SameCinch s t ∧ SameKeeper s t ∧ SameSb s t ∧ SameStraps s t ∧ SameJournal s t ∧ SameAttached s t ∧ SameNodeQueues s t ∧ SameTables s t ∧ SameWindows s t ∧ SameHalter s t ∧ SameHar s t ∧ SameQueues s t ∧ SameArrivals s t ∧ SameLacing s t ∧ SameTree s t ∧ SameCurb s t ∧ SameConcho s t ∧ SameLocals s t ∧ SameBuckle s t ∧ SameReports s t ∧ SameSbAll s t ∧ SameGirthAll s t ∧ SameTablesAll s t ∧ SameHarAll s t ∧ SameRadioAll s t ∧ SamePowerRxTilesTxTiles s t

theorem Kept228.of {s t : State} (h : t.outside { out := true, chainPorts := true, dict := true, anyNum := true, cores := true, edges := true, host := true, flags := true } = s.outside { out := true, chainPorts := true, dict := true, anyNum := true, cores := true, edges := true, host := true, flags := true }) : Kept228 s t :=
  ⟨.of h rfl, .of h rfl, .of h rfl, .of h rfl, .of h rfl, .of h rfl, .of h rfl, .of h rfl, .of h rfl, .of h rfl, .of h rfl, .of h rfl, .of h rfl, .of h rfl, .of h rfl, .of h rfl, .of h rfl, .of h rfl, .of h rfl, .of h rfl, .of h rfl, .of h rfl, .of h rfl, .of h rfl, .of h rfl, .of h rfl, .of h rfl, .of h rfl, .of h rfl, .of h rfl, .of h rfl, .of h rfl, .of h rfl, .of h rfl, .of h rfl, .of h rfl, .of h rfl, .of h rfl, .of h rfl, .of h rfl, .of h rfl rfl rfl rfl rfl, .of h rfl rfl rfl rfl, .of h rfl rfl rfl, .of h rfl rfl rfl, .of h rfl rfl rfl rfl, .of h rfl rfl rfl⟩

/-- Every part but these is kept: out, chainPorts, nums, straps, cores, edges, flags. -/
abbrev Kept229 (s t : State) : Prop :=
  SamePending s t ∧ SameDraws s t ∧ SameIdent s t ∧ SameFuses s t ∧ SamePins s t ∧ SameClock s t ∧ SamePulses s t ∧ SameChain s t ∧ SameDict s t ∧ SameDoms s t ∧ SameResults s t ∧ SameLogs s t ∧ SamePower s t ∧ SameVbat s t ∧ SameRadio s t ∧ SamePorts s t ∧ SameRxTiles s t ∧ SameTxTiles s t ∧ SameGirth s t ∧ SameRecs s t ∧ SameSched s t ∧ SameCinch s t ∧ SameKeeper s t ∧ SameSb s t ∧ SameJournal s t ∧ SameAttached s t ∧ SameNodeQueues s t ∧ SameTables s t ∧ SameWindows s t ∧ SameHalter s t ∧ SameHar s t ∧ SameQueues s t ∧ SameArrivals s t ∧ SameLacing s t ∧ SameTree s t ∧ SameCurb s t ∧ SameConcho s t ∧ SameLocals s t ∧ SameBuckle s t ∧ SameHost s t ∧ SameReports s t ∧ SameGirthAll s t ∧ SameTablesAll s t ∧ SameHarAll s t ∧ SameRadioAll s t ∧ SamePowerRxTilesTxTiles s t ∧ SameDictPower s t

theorem Kept229.of {s t : State} (h : t.outside { out := true, chainPorts := true, anyNum := true, straps := true, cores := true, edges := true, flags := true } = s.outside { out := true, chainPorts := true, anyNum := true, straps := true, cores := true, edges := true, flags := true }) : Kept229 s t :=
  ⟨.of h rfl, .of h rfl, .of h rfl, .of h rfl, .of h rfl, .of h rfl, .of h rfl, .of h rfl, .of h rfl, .of h rfl, .of h rfl, .of h rfl, .of h rfl, .of h rfl, .of h rfl, .of h rfl, .of h rfl, .of h rfl, .of h rfl, .of h rfl, .of h rfl, .of h rfl, .of h rfl, .of h rfl, .of h rfl, .of h rfl, .of h rfl, .of h rfl, .of h rfl, .of h rfl, .of h rfl, .of h rfl, .of h rfl, .of h rfl, .of h rfl, .of h rfl, .of h rfl, .of h rfl, .of h rfl, .of h rfl, .of h rfl, .of h rfl rfl rfl rfl, .of h rfl rfl rfl, .of h rfl rfl rfl, .of h rfl rfl rfl rfl, .of h rfl rfl rfl, .of h rfl rfl⟩

/-- Every part but these is kept: chainPorts, dict. -/
abbrev Kept230 (s t : State) : Prop :=
  SamePending s t ∧ SameDraws s t ∧ SameOut s t ∧ SameIdent s t ∧ SameFuses s t ∧ SamePins s t ∧ SameClock s t ∧ SamePulses s t ∧ SameChain s t ∧ SameNums s t ∧ SameDoms s t ∧ SameResults s t ∧ SameLogs s t ∧ SamePower s t ∧ SameVbat s t ∧ SameRadio s t ∧ SamePorts s t ∧ SameRxTiles s t ∧ SameTxTiles s t ∧ SameGirth s t ∧ SameRecs s t ∧ SameSched s t ∧ SameCinch s t ∧ SameKeeper s t ∧ SameSb s t ∧ SameStraps s t ∧ SameJournal s t ∧ SameAttached s t ∧ SameNodeQueues s t ∧ SameTables s t ∧ SameWindows s t ∧ SameHalter s t ∧ SameHar s t ∧ SameQueues s t ∧ SameArrivals s t ∧ SameLacing s t ∧ SameTree s t ∧ SameCurb s t ∧ SameConcho s t ∧ SameCores s t ∧ SameLocals s t ∧ SameBuckle s t ∧ SameEdges s t ∧ SameHost s t ∧ SameFlags s t ∧ SameReports s t ∧ SameSbAll s t ∧ SameBuckleAll s t ∧ SameHostAll s t ∧ SameCoresAll s t ∧ SameGirthAll s t ∧ SameTablesAll s t ∧ SameHarAll s t ∧ SameRadioAll s t ∧ SamePowerRxTilesTxTiles s t ∧ SameClockNumsPorts s t

theorem Kept230.of {s t : State} (h : t.outside { chainPorts := true, dict := true } = s.outside { chainPorts := true, dict := true }) : Kept230 s t :=
  ⟨.of h rfl, .of h rfl, .of h rfl, .of h rfl, .of h rfl, .of h rfl, .of h rfl, .of h rfl, .of h rfl, .of h rfl, .of h rfl, .of h rfl, .of h rfl, .of h rfl, .of h rfl, .of h rfl, .of h rfl, .of h rfl, .of h rfl, .of h rfl, .of h rfl, .of h rfl, .of h rfl, .of h rfl, .of h rfl, .of h rfl, .of h rfl, .of h rfl, .of h rfl, .of h rfl, .of h rfl, .of h rfl, .of h rfl, .of h rfl, .of h rfl, .of h rfl, .of h rfl, .of h rfl, .of h rfl, .of h rfl, .of h rfl, .of h rfl, .of h rfl, .of h rfl, .of h rfl, .of h rfl, .of h rfl rfl rfl rfl rfl, .of h rfl rfl, .of h rfl rfl rfl, .of h rfl rfl, .of h rfl rfl rfl rfl, .of h rfl rfl rfl, .of h rfl rfl rfl, .of h rfl rfl rfl rfl, .of h rfl rfl rfl, .of h rfl rfl rfl⟩

/-- Every part but these is kept: nums, straps, cores, flags. -/
abbrev Kept231 (s t : State) : Prop :=
  SamePending s t ∧ SameDraws s t ∧ SameOut s t ∧ SameIdent s t ∧ SameFuses s t ∧ SamePins s t ∧ SameClock s t ∧ SamePulses s t ∧ SameChain s t ∧ SameChainPorts s t ∧ SameDict s t ∧ SameDoms s t ∧ SameResults s t ∧ SameLogs s t ∧ SamePower s t ∧ SameVbat s t ∧ SameRadio s t ∧ SamePorts s t ∧ SameRxTiles s t ∧ SameTxTiles s t ∧ SameGirth s t ∧ SameRecs s t ∧ SameSched s t ∧ SameCinch s t ∧ SameKeeper s t ∧ SameSb s t ∧ SameJournal s t ∧ SameAttached s t ∧ SameNodeQueues s t ∧ SameTables s t ∧ SameWindows s t ∧ SameHalter s t ∧ SameHar s t ∧ SameQueues s t ∧ SameArrivals s t ∧ SameLacing s t ∧ SameTree s t ∧ SameCurb s t ∧ SameConcho s t ∧ SameLocals s t ∧ SameBuckle s t ∧ SameEdges s t ∧ SameHost s t ∧ SameReports s t ∧ SameBuckleAll s t ∧ SameGirthAll s t ∧ SameTablesAll s t ∧ SameHarAll s t ∧ SameChainAll s t ∧ SameRadioAll s t ∧ SamePowerRxTilesTxTiles s t ∧ SameDictPower s t

theorem Kept231.of {s t : State} (h : t.outside { anyNum := true, straps := true, cores := true, flags := true } = s.outside { anyNum := true, straps := true, cores := true, flags := true }) : Kept231 s t :=
  ⟨.of h rfl, .of h rfl, .of h rfl, .of h rfl, .of h rfl, .of h rfl, .of h rfl, .of h rfl, .of h rfl, .of h rfl, .of h rfl, .of h rfl, .of h rfl, .of h rfl, .of h rfl, .of h rfl, .of h rfl, .of h rfl, .of h rfl, .of h rfl, .of h rfl, .of h rfl, .of h rfl, .of h rfl, .of h rfl, .of h rfl, .of h rfl, .of h rfl, .of h rfl, .of h rfl, .of h rfl, .of h rfl, .of h rfl, .of h rfl, .of h rfl, .of h rfl, .of h rfl, .of h rfl, .of h rfl, .of h rfl, .of h rfl, .of h rfl, .of h rfl, .of h rfl, .of h rfl rfl, .of h rfl rfl rfl rfl, .of h rfl rfl rfl, .of h rfl rfl rfl, .of h rfl rfl, .of h rfl rfl rfl rfl, .of h rfl rfl rfl, .of h rfl rfl⟩

/-- Every part but these is kept: cores, buckle, edges, flags. -/
abbrev Kept232 (s t : State) : Prop :=
  SamePending s t ∧ SameDraws s t ∧ SameOut s t ∧ SameIdent s t ∧ SameFuses s t ∧ SamePins s t ∧ SameClock s t ∧ SamePulses s t ∧ SameChain s t ∧ SameChainPorts s t ∧ SameDict s t ∧ SameNums s t ∧ SameDoms s t ∧ SameResults s t ∧ SameLogs s t ∧ SamePower s t ∧ SameVbat s t ∧ SameRadio s t ∧ SamePorts s t ∧ SameRxTiles s t ∧ SameTxTiles s t ∧ SameGirth s t ∧ SameRecs s t ∧ SameSched s t ∧ SameCinch s t ∧ SameKeeper s t ∧ SameSb s t ∧ SameStraps s t ∧ SameJournal s t ∧ SameAttached s t ∧ SameNodeQueues s t ∧ SameTables s t ∧ SameWindows s t ∧ SameHalter s t ∧ SameHar s t ∧ SameQueues s t ∧ SameArrivals s t ∧ SameLacing s t ∧ SameTree s t ∧ SameCurb s t ∧ SameConcho s t ∧ SameLocals s t ∧ SameHost s t ∧ SameReports s t ∧ SameDictAll s t ∧ SameSbAll s t ∧ SameGirthAll s t ∧ SameTablesAll s t ∧ SameHarAll s t ∧ SameChainAll s t ∧ SameRadioAll s t ∧ SamePowerRxTilesTxTiles s t ∧ SameDictPower s t ∧ SameDictNums s t ∧ SameClockNumsPorts s t

theorem Kept232.of {s t : State} (h : t.outside { cores := true, buckle := true, edges := true, flags := true } = s.outside { cores := true, buckle := true, edges := true, flags := true }) : Kept232 s t :=
  ⟨.of h rfl, .of h rfl, .of h rfl, .of h rfl, .of h rfl, .of h rfl, .of h rfl, .of h rfl, .of h rfl, .of h rfl, .of h rfl, .of h rfl, .of h rfl, .of h rfl, .of h rfl, .of h rfl, .of h rfl, .of h rfl, .of h rfl, .of h rfl, .of h rfl, .of h rfl, .of h rfl, .of h rfl, .of h rfl, .of h rfl, .of h rfl, .of h rfl, .of h rfl, .of h rfl, .of h rfl, .of h rfl, .of h rfl, .of h rfl, .of h rfl, .of h rfl, .of h rfl, .of h rfl, .of h rfl, .of h rfl, .of h rfl, .of h rfl, .of h rfl, .of h rfl, .of h rfl rfl rfl rfl rfl, .of h rfl rfl rfl rfl rfl, .of h rfl rfl rfl rfl, .of h rfl rfl rfl, .of h rfl rfl rfl, .of h rfl rfl, .of h rfl rfl rfl rfl, .of h rfl rfl rfl, .of h rfl rfl, .of h rfl rfl, .of h rfl rfl rfl⟩

/-- Every part but these is kept: straps, cores. -/
abbrev Kept233 (s t : State) : Prop :=
  SamePending s t ∧ SameDraws s t ∧ SameOut s t ∧ SameIdent s t ∧ SameFuses s t ∧ SamePins s t ∧ SameClock s t ∧ SamePulses s t ∧ SameChain s t ∧ SameChainPorts s t ∧ SameDict s t ∧ SameNums s t ∧ SameDoms s t ∧ SameResults s t ∧ SameLogs s t ∧ SamePower s t ∧ SameVbat s t ∧ SameRadio s t ∧ SamePorts s t ∧ SameRxTiles s t ∧ SameTxTiles s t ∧ SameGirth s t ∧ SameRecs s t ∧ SameSched s t ∧ SameCinch s t ∧ SameKeeper s t ∧ SameSb s t ∧ SameJournal s t ∧ SameAttached s t ∧ SameNodeQueues s t ∧ SameTables s t ∧ SameWindows s t ∧ SameHalter s t ∧ SameHar s t ∧ SameQueues s t ∧ SameArrivals s t ∧ SameLacing s t ∧ SameTree s t ∧ SameCurb s t ∧ SameConcho s t ∧ SameLocals s t ∧ SameBuckle s t ∧ SameEdges s t ∧ SameHost s t ∧ SameFlags s t ∧ SameReports s t ∧ SameDictAll s t ∧ SameBuckleAll s t ∧ SameHostAll s t ∧ SameGirthAll s t ∧ SameTablesAll s t ∧ SameHarAll s t ∧ SameChainAll s t ∧ SameRadioAll s t ∧ SamePowerRxTilesTxTiles s t ∧ SameDictPower s t ∧ SameDictNums s t ∧ SameClockNumsPorts s t

theorem Kept233.of {s t : State} (h : t.outside { straps := true, cores := true } = s.outside { straps := true, cores := true }) : Kept233 s t :=
  ⟨.of h rfl, .of h rfl, .of h rfl, .of h rfl, .of h rfl, .of h rfl, .of h rfl, .of h rfl, .of h rfl, .of h rfl, .of h rfl, .of h rfl, .of h rfl, .of h rfl, .of h rfl, .of h rfl, .of h rfl, .of h rfl, .of h rfl, .of h rfl, .of h rfl, .of h rfl, .of h rfl, .of h rfl, .of h rfl, .of h rfl, .of h rfl, .of h rfl, .of h rfl, .of h rfl, .of h rfl, .of h rfl, .of h rfl, .of h rfl, .of h rfl, .of h rfl, .of h rfl, .of h rfl, .of h rfl, .of h rfl, .of h rfl, .of h rfl, .of h rfl, .of h rfl, .of h rfl, .of h rfl, .of h rfl rfl rfl rfl rfl, .of h rfl rfl, .of h rfl rfl rfl, .of h rfl rfl rfl rfl, .of h rfl rfl rfl, .of h rfl rfl rfl, .of h rfl rfl, .of h rfl rfl rfl rfl, .of h rfl rfl rfl, .of h rfl rfl, .of h rfl rfl, .of h rfl rfl rfl⟩

/-- Every part but these is kept: draws, straps, cores. -/
abbrev Kept234 (s t : State) : Prop :=
  SamePending s t ∧ SameOut s t ∧ SameIdent s t ∧ SameFuses s t ∧ SamePins s t ∧ SameClock s t ∧ SamePulses s t ∧ SameChain s t ∧ SameChainPorts s t ∧ SameDict s t ∧ SameNums s t ∧ SameDoms s t ∧ SameResults s t ∧ SameLogs s t ∧ SamePower s t ∧ SameVbat s t ∧ SameRadio s t ∧ SamePorts s t ∧ SameRxTiles s t ∧ SameTxTiles s t ∧ SameGirth s t ∧ SameRecs s t ∧ SameSched s t ∧ SameCinch s t ∧ SameKeeper s t ∧ SameSb s t ∧ SameJournal s t ∧ SameAttached s t ∧ SameNodeQueues s t ∧ SameTables s t ∧ SameWindows s t ∧ SameHalter s t ∧ SameHar s t ∧ SameQueues s t ∧ SameArrivals s t ∧ SameLacing s t ∧ SameTree s t ∧ SameCurb s t ∧ SameConcho s t ∧ SameLocals s t ∧ SameBuckle s t ∧ SameEdges s t ∧ SameHost s t ∧ SameFlags s t ∧ SameReports s t ∧ SameDictAll s t ∧ SameBuckleAll s t ∧ SameHostAll s t ∧ SameGirthAll s t ∧ SameTablesAll s t ∧ SameHarAll s t ∧ SameChainAll s t ∧ SameRadioAll s t ∧ SamePowerRxTilesTxTiles s t ∧ SameDictPower s t ∧ SameDictNums s t ∧ SameClockNumsPorts s t

theorem Kept234.of {s t : State} (h : t.outside { draws := true, straps := true, cores := true } = s.outside { draws := true, straps := true, cores := true }) : Kept234 s t :=
  ⟨.of h rfl, .of h rfl, .of h rfl, .of h rfl, .of h rfl, .of h rfl, .of h rfl, .of h rfl, .of h rfl, .of h rfl, .of h rfl, .of h rfl, .of h rfl, .of h rfl, .of h rfl, .of h rfl, .of h rfl, .of h rfl, .of h rfl, .of h rfl, .of h rfl, .of h rfl, .of h rfl, .of h rfl, .of h rfl, .of h rfl, .of h rfl, .of h rfl, .of h rfl, .of h rfl, .of h rfl, .of h rfl, .of h rfl, .of h rfl, .of h rfl, .of h rfl, .of h rfl, .of h rfl, .of h rfl, .of h rfl, .of h rfl, .of h rfl, .of h rfl, .of h rfl, .of h rfl, .of h rfl rfl rfl rfl rfl, .of h rfl rfl, .of h rfl rfl rfl, .of h rfl rfl rfl rfl, .of h rfl rfl rfl, .of h rfl rfl rfl, .of h rfl rfl, .of h rfl rfl rfl rfl, .of h rfl rfl rfl, .of h rfl rfl, .of h rfl rfl, .of h rfl rfl rfl⟩

/-- Every part but these is kept: out, pins, pulses, chain, chainPorts, dict, nums, doms, results, logs, power, vbat, radio, ports, rxTiles, txTiles, girth, recs, sched, cinch, keeper, sb, straps, journal, nodeQueues, tables, windows, halter, har, queues, arrivals, lacing, tree, curb, concho, cores, locals, buckle, edges, host, flags, reports. -/
abbrev Kept235 (s t : State) : Prop :=
  SamePending s t ∧ SameDraws s t ∧ SameIdent s t ∧ SameFuses s t ∧ SameClock s t ∧ SameAttached s t

theorem Kept235.of {s t : State} (h : t.outside { out := true, pins := true, pulses := true, chain := true, chainPorts := true, dict := true, anyNum := true, doms := true, results := true, logs := true, power := true, vbat := true, radio := true, ports := true, rxTiles := true, txTiles := true, girth := true, recs := true, sched := true, cinch := true, keeper := true, sb := true, straps := true, journal := true, nodeQueues := true, tables := true, windows := true, halter := true, har := true, queues := true, arrivals := true, lacing := true, tree := true, curb := true, concho := true, cores := true, locals := true, buckle := true, edges := true, host := true, flags := true, reports := true } = s.outside { out := true, pins := true, pulses := true, chain := true, chainPorts := true, dict := true, anyNum := true, doms := true, results := true, logs := true, power := true, vbat := true, radio := true, ports := true, rxTiles := true, txTiles := true, girth := true, recs := true, sched := true, cinch := true, keeper := true, sb := true, straps := true, journal := true, nodeQueues := true, tables := true, windows := true, halter := true, har := true, queues := true, arrivals := true, lacing := true, tree := true, curb := true, concho := true, cores := true, locals := true, buckle := true, edges := true, host := true, flags := true, reports := true }) : Kept235 s t :=
  ⟨.of h rfl, .of h rfl, .of h rfl, .of h rfl, .of h rfl, .of h rfl⟩

/-- Every part but these is kept: draws, straps, cores, locals. -/
abbrev Kept236 (s t : State) : Prop :=
  SamePending s t ∧ SameOut s t ∧ SameIdent s t ∧ SameFuses s t ∧ SamePins s t ∧ SameClock s t ∧ SamePulses s t ∧ SameChain s t ∧ SameChainPorts s t ∧ SameDict s t ∧ SameNums s t ∧ SameDoms s t ∧ SameResults s t ∧ SameLogs s t ∧ SamePower s t ∧ SameVbat s t ∧ SameRadio s t ∧ SamePorts s t ∧ SameRxTiles s t ∧ SameTxTiles s t ∧ SameGirth s t ∧ SameRecs s t ∧ SameSched s t ∧ SameCinch s t ∧ SameKeeper s t ∧ SameSb s t ∧ SameJournal s t ∧ SameAttached s t ∧ SameNodeQueues s t ∧ SameTables s t ∧ SameWindows s t ∧ SameHalter s t ∧ SameHar s t ∧ SameQueues s t ∧ SameArrivals s t ∧ SameLacing s t ∧ SameTree s t ∧ SameCurb s t ∧ SameConcho s t ∧ SameBuckle s t ∧ SameEdges s t ∧ SameHost s t ∧ SameFlags s t ∧ SameReports s t ∧ SameDictAll s t ∧ SameBuckleAll s t ∧ SameHostAll s t ∧ SameGirthAll s t ∧ SameTablesAll s t ∧ SameHarAll s t ∧ SameChainAll s t ∧ SameRadioAll s t ∧ SamePowerRxTilesTxTiles s t ∧ SameDictPower s t ∧ SameDictNums s t ∧ SameClockNumsPorts s t

theorem Kept236.of {s t : State} (h : t.outside { draws := true, straps := true, cores := true, locals := true } = s.outside { draws := true, straps := true, cores := true, locals := true }) : Kept236 s t :=
  ⟨.of h rfl, .of h rfl, .of h rfl, .of h rfl, .of h rfl, .of h rfl, .of h rfl, .of h rfl, .of h rfl, .of h rfl, .of h rfl, .of h rfl, .of h rfl, .of h rfl, .of h rfl, .of h rfl, .of h rfl, .of h rfl, .of h rfl, .of h rfl, .of h rfl, .of h rfl, .of h rfl, .of h rfl, .of h rfl, .of h rfl, .of h rfl, .of h rfl, .of h rfl, .of h rfl, .of h rfl, .of h rfl, .of h rfl, .of h rfl, .of h rfl, .of h rfl, .of h rfl, .of h rfl, .of h rfl, .of h rfl, .of h rfl, .of h rfl, .of h rfl, .of h rfl, .of h rfl rfl rfl rfl rfl, .of h rfl rfl, .of h rfl rfl rfl, .of h rfl rfl rfl rfl, .of h rfl rfl rfl, .of h rfl rfl rfl, .of h rfl rfl, .of h rfl rfl rfl rfl, .of h rfl rfl rfl, .of h rfl rfl, .of h rfl rfl, .of h rfl rfl rfl⟩

/-- Every part but these is kept: draws, out, pins, clock, pulses, chain, chainPorts, dict, nums, doms, results, logs, power, vbat, radio, ports, rxTiles, txTiles, girth, recs, sched, cinch, keeper, sb, straps, journal, attached, nodeQueues, tables, windows, halter, har, queues, arrivals, lacing, tree, curb, concho, cores, locals, buckle, edges, host, flags, reports. -/
abbrev Kept237 (s t : State) : Prop :=
  SamePending s t ∧ SameIdent s t ∧ SameFuses s t

theorem Kept237.of {s t : State} (h : t.outside { draws := true, out := true, pins := true, clock := true, pulses := true, chain := true, chainPorts := true, dict := true, anyNum := true, doms := true, results := true, logs := true, power := true, vbat := true, radio := true, ports := true, rxTiles := true, txTiles := true, girth := true, recs := true, sched := true, cinch := true, keeper := true, sb := true, straps := true, journal := true, attached := true, nodeQueues := true, tables := true, windows := true, halter := true, har := true, queues := true, arrivals := true, lacing := true, tree := true, curb := true, concho := true, cores := true, locals := true, buckle := true, edges := true, host := true, flags := true, reports := true } = s.outside { draws := true, out := true, pins := true, clock := true, pulses := true, chain := true, chainPorts := true, dict := true, anyNum := true, doms := true, results := true, logs := true, power := true, vbat := true, radio := true, ports := true, rxTiles := true, txTiles := true, girth := true, recs := true, sched := true, cinch := true, keeper := true, sb := true, straps := true, journal := true, attached := true, nodeQueues := true, tables := true, windows := true, halter := true, har := true, queues := true, arrivals := true, lacing := true, tree := true, curb := true, concho := true, cores := true, locals := true, buckle := true, edges := true, host := true, flags := true, reports := true }) : Kept237 s t :=
  ⟨.of h rfl, .of h rfl, .of h rfl⟩

/-- Every part but these is kept: draws, out, pins, pulses, chain, chainPorts, dict, nums, doms, results, logs, power, vbat, radio, ports, rxTiles, txTiles, girth, recs, sched, cinch, keeper, sb, straps, journal, nodeQueues, tables, windows, halter, har, queues, arrivals, lacing, tree, curb, concho, cores, locals, buckle, edges, host, flags, reports. -/
abbrev Kept238 (s t : State) : Prop :=
  SamePending s t ∧ SameIdent s t ∧ SameFuses s t ∧ SameClock s t ∧ SameAttached s t

theorem Kept238.of {s t : State} (h : t.outside { draws := true, out := true, pins := true, pulses := true, chain := true, chainPorts := true, dict := true, anyNum := true, doms := true, results := true, logs := true, power := true, vbat := true, radio := true, ports := true, rxTiles := true, txTiles := true, girth := true, recs := true, sched := true, cinch := true, keeper := true, sb := true, straps := true, journal := true, nodeQueues := true, tables := true, windows := true, halter := true, har := true, queues := true, arrivals := true, lacing := true, tree := true, curb := true, concho := true, cores := true, locals := true, buckle := true, edges := true, host := true, flags := true, reports := true } = s.outside { draws := true, out := true, pins := true, pulses := true, chain := true, chainPorts := true, dict := true, anyNum := true, doms := true, results := true, logs := true, power := true, vbat := true, radio := true, ports := true, rxTiles := true, txTiles := true, girth := true, recs := true, sched := true, cinch := true, keeper := true, sb := true, straps := true, journal := true, nodeQueues := true, tables := true, windows := true, halter := true, har := true, queues := true, arrivals := true, lacing := true, tree := true, curb := true, concho := true, cores := true, locals := true, buckle := true, edges := true, host := true, flags := true, reports := true }) : Kept238 s t :=
  ⟨.of h rfl, .of h rfl, .of h rfl, .of h rfl, .of h rfl⟩

/-- Every part but these is kept: chainPorts, dict, host. -/
abbrev Kept239 (s t : State) : Prop :=
  SamePending s t ∧ SameDraws s t ∧ SameOut s t ∧ SameIdent s t ∧ SameFuses s t ∧ SamePins s t ∧ SameClock s t ∧ SamePulses s t ∧ SameChain s t ∧ SameNums s t ∧ SameDoms s t ∧ SameResults s t ∧ SameLogs s t ∧ SamePower s t ∧ SameVbat s t ∧ SameRadio s t ∧ SamePorts s t ∧ SameRxTiles s t ∧ SameTxTiles s t ∧ SameGirth s t ∧ SameRecs s t ∧ SameSched s t ∧ SameCinch s t ∧ SameKeeper s t ∧ SameSb s t ∧ SameStraps s t ∧ SameJournal s t ∧ SameAttached s t ∧ SameNodeQueues s t ∧ SameTables s t ∧ SameWindows s t ∧ SameHalter s t ∧ SameHar s t ∧ SameQueues s t ∧ SameArrivals s t ∧ SameLacing s t ∧ SameTree s t ∧ SameCurb s t ∧ SameConcho s t ∧ SameCores s t ∧ SameLocals s t ∧ SameBuckle s t ∧ SameEdges s t ∧ SameFlags s t ∧ SameReports s t ∧ SameSbAll s t ∧ SameBuckleAll s t ∧ SameCoresAll s t ∧ SameGirthAll s t ∧ SameTablesAll s t ∧ SameHarAll s t ∧ SameRadioAll s t ∧ SamePowerRxTilesTxTiles s t ∧ SameClockNumsPorts s t

theorem Kept239.of {s t : State} (h : t.outside { chainPorts := true, dict := true, host := true } = s.outside { chainPorts := true, dict := true, host := true }) : Kept239 s t :=
  ⟨.of h rfl, .of h rfl, .of h rfl, .of h rfl, .of h rfl, .of h rfl, .of h rfl, .of h rfl, .of h rfl, .of h rfl, .of h rfl, .of h rfl, .of h rfl, .of h rfl, .of h rfl, .of h rfl, .of h rfl, .of h rfl, .of h rfl, .of h rfl, .of h rfl, .of h rfl, .of h rfl, .of h rfl, .of h rfl, .of h rfl, .of h rfl, .of h rfl, .of h rfl, .of h rfl, .of h rfl, .of h rfl, .of h rfl, .of h rfl, .of h rfl, .of h rfl, .of h rfl, .of h rfl, .of h rfl, .of h rfl, .of h rfl, .of h rfl, .of h rfl, .of h rfl, .of h rfl, .of h rfl rfl rfl rfl rfl, .of h rfl rfl, .of h rfl rfl, .of h rfl rfl rfl rfl, .of h rfl rfl rfl, .of h rfl rfl rfl, .of h rfl rfl rfl rfl, .of h rfl rfl rfl, .of h rfl rfl rfl⟩

/-- Every part but these is kept: chainPorts, dict, nums, logs, straps, journal, edges, flags. -/
abbrev Kept240 (s t : State) : Prop :=
  SamePending s t ∧ SameDraws s t ∧ SameOut s t ∧ SameIdent s t ∧ SameFuses s t ∧ SamePins s t ∧ SameClock s t ∧ SamePulses s t ∧ SameChain s t ∧ SameDoms s t ∧ SameResults s t ∧ SamePower s t ∧ SameVbat s t ∧ SameRadio s t ∧ SamePorts s t ∧ SameRxTiles s t ∧ SameTxTiles s t ∧ SameGirth s t ∧ SameRecs s t ∧ SameSched s t ∧ SameCinch s t ∧ SameKeeper s t ∧ SameSb s t ∧ SameAttached s t ∧ SameNodeQueues s t ∧ SameTables s t ∧ SameWindows s t ∧ SameHalter s t ∧ SameHar s t ∧ SameQueues s t ∧ SameArrivals s t ∧ SameLacing s t ∧ SameTree s t ∧ SameCurb s t ∧ SameConcho s t ∧ SameCores s t ∧ SameLocals s t ∧ SameBuckle s t ∧ SameHost s t ∧ SameReports s t ∧ SameCoresAll s t ∧ SameGirthAll s t ∧ SameTablesAll s t ∧ SameHarAll s t ∧ SameRadioAll s t ∧ SamePowerRxTilesTxTiles s t

theorem Kept240.of {s t : State} (h : t.outside { chainPorts := true, dict := true, anyNum := true, logs := true, straps := true, journal := true, edges := true, flags := true } = s.outside { chainPorts := true, dict := true, anyNum := true, logs := true, straps := true, journal := true, edges := true, flags := true }) : Kept240 s t :=
  ⟨.of h rfl, .of h rfl, .of h rfl, .of h rfl, .of h rfl, .of h rfl, .of h rfl, .of h rfl, .of h rfl, .of h rfl, .of h rfl, .of h rfl, .of h rfl, .of h rfl, .of h rfl, .of h rfl, .of h rfl, .of h rfl, .of h rfl, .of h rfl, .of h rfl, .of h rfl, .of h rfl, .of h rfl, .of h rfl, .of h rfl, .of h rfl, .of h rfl, .of h rfl, .of h rfl, .of h rfl, .of h rfl, .of h rfl, .of h rfl, .of h rfl, .of h rfl, .of h rfl, .of h rfl, .of h rfl, .of h rfl, .of h rfl rfl, .of h rfl rfl rfl rfl, .of h rfl rfl rfl, .of h rfl rfl rfl, .of h rfl rfl rfl rfl, .of h rfl rfl rfl⟩

/-- Every part but these is kept: out, chain. -/
abbrev Kept241 (s t : State) : Prop :=
  SamePending s t ∧ SameDraws s t ∧ SameIdent s t ∧ SameFuses s t ∧ SamePins s t ∧ SameClock s t ∧ SamePulses s t ∧ SameChainPorts s t ∧ SameDict s t ∧ SameNums s t ∧ SameDoms s t ∧ SameResults s t ∧ SameLogs s t ∧ SamePower s t ∧ SameVbat s t ∧ SameRadio s t ∧ SamePorts s t ∧ SameRxTiles s t ∧ SameTxTiles s t ∧ SameGirth s t ∧ SameRecs s t ∧ SameSched s t ∧ SameCinch s t ∧ SameKeeper s t ∧ SameSb s t ∧ SameStraps s t ∧ SameJournal s t ∧ SameAttached s t ∧ SameNodeQueues s t ∧ SameTables s t ∧ SameWindows s t ∧ SameHalter s t ∧ SameHar s t ∧ SameQueues s t ∧ SameArrivals s t ∧ SameLacing s t ∧ SameTree s t ∧ SameCurb s t ∧ SameConcho s t ∧ SameCores s t ∧ SameLocals s t ∧ SameBuckle s t ∧ SameEdges s t ∧ SameHost s t ∧ SameFlags s t ∧ SameReports s t ∧ SameDictAll s t ∧ SameSbAll s t ∧ SameBuckleAll s t ∧ SameHostAll s t ∧ SameCoresAll s t ∧ SameGirthAll s t ∧ SameTablesAll s t ∧ SameHarAll s t ∧ SameRadioAll s t ∧ SamePowerRxTilesTxTiles s t ∧ SameDictPower s t ∧ SameDictNums s t ∧ SameClockNumsPorts s t

theorem Kept241.of {s t : State} (h : t.outside { out := true, chain := true } = s.outside { out := true, chain := true }) : Kept241 s t :=
  ⟨.of h rfl, .of h rfl, .of h rfl, .of h rfl, .of h rfl, .of h rfl, .of h rfl, .of h rfl, .of h rfl, .of h rfl, .of h rfl, .of h rfl, .of h rfl, .of h rfl, .of h rfl, .of h rfl, .of h rfl, .of h rfl, .of h rfl, .of h rfl, .of h rfl, .of h rfl, .of h rfl, .of h rfl, .of h rfl, .of h rfl, .of h rfl, .of h rfl, .of h rfl, .of h rfl, .of h rfl, .of h rfl, .of h rfl, .of h rfl, .of h rfl, .of h rfl, .of h rfl, .of h rfl, .of h rfl, .of h rfl, .of h rfl, .of h rfl, .of h rfl, .of h rfl, .of h rfl, .of h rfl, .of h rfl rfl rfl rfl rfl, .of h rfl rfl rfl rfl rfl, .of h rfl rfl, .of h rfl rfl rfl, .of h rfl rfl, .of h rfl rfl rfl rfl, .of h rfl rfl rfl, .of h rfl rfl rfl, .of h rfl rfl rfl rfl, .of h rfl rfl rfl, .of h rfl rfl, .of h rfl rfl, .of h rfl rfl rfl⟩

/-- Every part but these is kept: pins, clock, pulses, chain, chainPorts, dict, nums, results, logs, ports, rxTiles, txTiles, recs, sched, sb, straps, journal, nodeQueues, lacing, edges, host, flags, reports. -/
abbrev Kept242 (s t : State) : Prop :=
  SamePending s t ∧ SameDraws s t ∧ SameOut s t ∧ SameIdent s t ∧ SameFuses s t ∧ SameDoms s t ∧ SamePower s t ∧ SameVbat s t ∧ SameRadio s t ∧ SameGirth s t ∧ SameCinch s t ∧ SameKeeper s t ∧ SameAttached s t ∧ SameTables s t ∧ SameWindows s t ∧ SameHalter s t ∧ SameHar s t ∧ SameQueues s t ∧ SameArrivals s t ∧ SameTree s t ∧ SameCurb s t ∧ SameConcho s t ∧ SameCores s t ∧ SameLocals s t ∧ SameBuckle s t ∧ SameCoresAll s t ∧ SameTablesAll s t ∧ SameHarAll s t

theorem Kept242.of {s t : State} (h : t.outside { pins := true, clock := true, pulses := true, chain := true, chainPorts := true, dict := true, anyNum := true, results := true, logs := true, ports := true, rxTiles := true, txTiles := true, recs := true, sched := true, sb := true, straps := true, journal := true, nodeQueues := true, lacing := true, edges := true, host := true, flags := true, reports := true } = s.outside { pins := true, clock := true, pulses := true, chain := true, chainPorts := true, dict := true, anyNum := true, results := true, logs := true, ports := true, rxTiles := true, txTiles := true, recs := true, sched := true, sb := true, straps := true, journal := true, nodeQueues := true, lacing := true, edges := true, host := true, flags := true, reports := true }) : Kept242 s t :=
  ⟨.of h rfl, .of h rfl, .of h rfl, .of h rfl, .of h rfl, .of h rfl, .of h rfl, .of h rfl, .of h rfl, .of h rfl, .of h rfl, .of h rfl, .of h rfl, .of h rfl, .of h rfl, .of h rfl, .of h rfl, .of h rfl, .of h rfl, .of h rfl, .of h rfl, .of h rfl, .of h rfl, .of h rfl, .of h rfl, .of h rfl rfl, .of h rfl rfl rfl, .of h rfl rfl rfl⟩

/-- Every part but these is kept: cores, reports. -/
abbrev Kept243 (s t : State) : Prop :=
  SamePending s t ∧ SameDraws s t ∧ SameOut s t ∧ SameIdent s t ∧ SameFuses s t ∧ SamePins s t ∧ SameClock s t ∧ SamePulses s t ∧ SameChain s t ∧ SameChainPorts s t ∧ SameDict s t ∧ SameNums s t ∧ SameDoms s t ∧ SameResults s t ∧ SameLogs s t ∧ SamePower s t ∧ SameVbat s t ∧ SameRadio s t ∧ SamePorts s t ∧ SameRxTiles s t ∧ SameTxTiles s t ∧ SameGirth s t ∧ SameRecs s t ∧ SameSched s t ∧ SameCinch s t ∧ SameKeeper s t ∧ SameSb s t ∧ SameStraps s t ∧ SameJournal s t ∧ SameAttached s t ∧ SameNodeQueues s t ∧ SameTables s t ∧ SameWindows s t ∧ SameHalter s t ∧ SameHar s t ∧ SameQueues s t ∧ SameArrivals s t ∧ SameLacing s t ∧ SameTree s t ∧ SameCurb s t ∧ SameConcho s t ∧ SameLocals s t ∧ SameBuckle s t ∧ SameEdges s t ∧ SameHost s t ∧ SameFlags s t ∧ SameDictAll s t ∧ SameSbAll s t ∧ SameBuckleAll s t ∧ SameGirthAll s t ∧ SameTablesAll s t ∧ SameHarAll s t ∧ SameChainAll s t ∧ SameRadioAll s t ∧ SamePowerRxTilesTxTiles s t ∧ SameDictPower s t ∧ SameDictNums s t ∧ SameClockNumsPorts s t

theorem Kept243.of {s t : State} (h : t.outside { cores := true, reports := true } = s.outside { cores := true, reports := true }) : Kept243 s t :=
  ⟨.of h rfl, .of h rfl, .of h rfl, .of h rfl, .of h rfl, .of h rfl, .of h rfl, .of h rfl, .of h rfl, .of h rfl, .of h rfl, .of h rfl, .of h rfl, .of h rfl, .of h rfl, .of h rfl, .of h rfl, .of h rfl, .of h rfl, .of h rfl, .of h rfl, .of h rfl, .of h rfl, .of h rfl, .of h rfl, .of h rfl, .of h rfl, .of h rfl, .of h rfl, .of h rfl, .of h rfl, .of h rfl, .of h rfl, .of h rfl, .of h rfl, .of h rfl, .of h rfl, .of h rfl, .of h rfl, .of h rfl, .of h rfl, .of h rfl, .of h rfl, .of h rfl, .of h rfl, .of h rfl, .of h rfl rfl rfl rfl rfl, .of h rfl rfl rfl rfl rfl, .of h rfl rfl, .of h rfl rfl rfl rfl, .of h rfl rfl rfl, .of h rfl rfl rfl, .of h rfl rfl, .of h rfl rfl rfl rfl, .of h rfl rfl rfl, .of h rfl rfl, .of h rfl rfl, .of h rfl rfl rfl⟩

/-- Every part but these is kept: nums, cores, locals, reports. -/
abbrev Kept244 (s t : State) : Prop :=
  SamePending s t ∧ SameDraws s t ∧ SameOut s t ∧ SameIdent s t ∧ SameFuses s t ∧ SamePins s t ∧ SameClock s t ∧ SamePulses s t ∧ SameChain s t ∧ SameChainPorts s t ∧ SameDict s t ∧ SameDoms s t ∧ SameResults s t ∧ SameLogs s t ∧ SamePower s t ∧ SameVbat s t ∧ SameRadio s t ∧ SamePorts s t ∧ SameRxTiles s t ∧ SameTxTiles s t ∧ SameGirth s t ∧ SameRecs s t ∧ SameSched s t ∧ SameCinch s t ∧ SameKeeper s t ∧ SameSb s t ∧ SameStraps s t ∧ SameJournal s t ∧ SameAttached s t ∧ SameNodeQueues s t ∧ SameTables s t ∧ SameWindows s t ∧ SameHalter s t ∧ SameHar s t ∧ SameQueues s t ∧ SameArrivals s t ∧ SameLacing s t ∧ SameTree s t ∧ SameCurb s t ∧ SameConcho s t ∧ SameBuckle s t ∧ SameEdges s t ∧ SameHost s t ∧ SameFlags s t ∧ SameSbAll s t ∧ SameBuckleAll s t ∧ SameGirthAll s t ∧ SameTablesAll s t ∧ SameHarAll s t ∧ SameChainAll s t ∧ SameRadioAll s t ∧ SamePowerRxTilesTxTiles s t ∧ SameDictPower s t

theorem Kept244.of {s t : State} (h : t.outside { anyNum := true, cores := true, locals := true, reports := true } = s.outside { anyNum := true, cores := true, locals := true, reports := true }) : Kept244 s t :=
  ⟨.of h rfl, .of h rfl, .of h rfl, .of h rfl, .of h rfl, .of h rfl, .of h rfl, .of h rfl, .of h rfl, .of h rfl, .of h rfl, .of h rfl, .of h rfl, .of h rfl, .of h rfl, .of h rfl, .of h rfl, .of h rfl, .of h rfl, .of h rfl, .of h rfl, .of h rfl, .of h rfl, .of h rfl, .of h rfl, .of h rfl, .of h rfl, .of h rfl, .of h rfl, .of h rfl, .of h rfl, .of h rfl, .of h rfl, .of h rfl, .of h rfl, .of h rfl, .of h rfl, .of h rfl, .of h rfl, .of h rfl, .of h rfl, .of h rfl, .of h rfl, .of h rfl, .of h rfl rfl rfl rfl rfl, .of h rfl rfl, .of h rfl rfl rfl rfl, .of h rfl rfl rfl, .of h rfl rfl rfl, .of h rfl rfl, .of h rfl rfl rfl rfl, .of h rfl rfl rfl, .of h rfl rfl⟩

/-- Every part but these is kept: edges, host, flags. -/
abbrev Kept245 (s t : State) : Prop :=
  SamePending s t ∧ SameDraws s t ∧ SameOut s t ∧ SameIdent s t ∧ SameFuses s t ∧ SamePins s t ∧ SameClock s t ∧ SamePulses s t ∧ SameChain s t ∧ SameChainPorts s t ∧ SameDict s t ∧ SameNums s t ∧ SameDoms s t ∧ SameResults s t ∧ SameLogs s t ∧ SamePower s t ∧ SameVbat s t ∧ SameRadio s t ∧ SamePorts s t ∧ SameRxTiles s t ∧ SameTxTiles s t ∧ SameGirth s t ∧ SameRecs s t ∧ SameSched s t ∧ SameCinch s t ∧ SameKeeper s t ∧ SameSb s t ∧ SameStraps s t ∧ SameJournal s t ∧ SameAttached s t ∧ SameNodeQueues s t ∧ SameTables s t ∧ SameWindows s t ∧ SameHalter s t ∧ SameHar s t ∧ SameQueues s t ∧ SameArrivals s t ∧ SameLacing s t ∧ SameTree s t ∧ SameCurb s t ∧ SameConcho s t ∧ SameCores s t ∧ SameLocals s t ∧ SameBuckle s t ∧ SameReports s t ∧ SameDictAll s t ∧ SameSbAll s t ∧ SameCoresAll s t ∧ SameGirthAll s t ∧ SameTablesAll s t ∧ SameHarAll s t ∧ SameChainAll s t ∧ SameRadioAll s t ∧ SamePowerRxTilesTxTiles s t ∧ SameDictPower s t ∧ SameDictNums s t ∧ SameClockNumsPorts s t

theorem Kept245.of {s t : State} (h : t.outside { edges := true, host := true, flags := true } = s.outside { edges := true, host := true, flags := true }) : Kept245 s t :=
  ⟨.of h rfl, .of h rfl, .of h rfl, .of h rfl, .of h rfl, .of h rfl, .of h rfl, .of h rfl, .of h rfl, .of h rfl, .of h rfl, .of h rfl, .of h rfl, .of h rfl, .of h rfl, .of h rfl, .of h rfl, .of h rfl, .of h rfl, .of h rfl, .of h rfl, .of h rfl, .of h rfl, .of h rfl, .of h rfl, .of h rfl, .of h rfl, .of h rfl, .of h rfl, .of h rfl, .of h rfl, .of h rfl, .of h rfl, .of h rfl, .of h rfl, .of h rfl, .of h rfl, .of h rfl, .of h rfl, .of h rfl, .of h rfl, .of h rfl, .of h rfl, .of h rfl, .of h rfl, .of h rfl rfl rfl rfl rfl, .of h rfl rfl rfl rfl rfl, .of h rfl rfl, .of h rfl rfl rfl rfl, .of h rfl rfl rfl, .of h rfl rfl rfl, .of h rfl rfl, .of h rfl rfl rfl rfl, .of h rfl rfl rfl, .of h rfl rfl, .of h rfl rfl, .of h rfl rfl rfl⟩

/-- Every part but these is kept: pins, dict, nums, results, logs, power, ports, rxTiles, txTiles, recs, sched, keeper, straps, journal, nodeQueues, lacing, edges, host, flags, reports. -/
abbrev Kept246 (s t : State) : Prop :=
  SamePending s t ∧ SameDraws s t ∧ SameOut s t ∧ SameIdent s t ∧ SameFuses s t ∧ SameClock s t ∧ SamePulses s t ∧ SameChain s t ∧ SameChainPorts s t ∧ SameDoms s t ∧ SameVbat s t ∧ SameRadio s t ∧ SameGirth s t ∧ SameCinch s t ∧ SameSb s t ∧ SameAttached s t ∧ SameTables s t ∧ SameWindows s t ∧ SameHalter s t ∧ SameHar s t ∧ SameQueues s t ∧ SameArrivals s t ∧ SameTree s t ∧ SameCurb s t ∧ SameConcho s t ∧ SameCores s t ∧ SameLocals s t ∧ SameBuckle s t ∧ SameCoresAll s t ∧ SameTablesAll s t ∧ SameHarAll s t ∧ SameChainAll s t

theorem Kept246.of {s t : State} (h : t.outside { pins := true, dict := true, anyNum := true, results := true, logs := true, power := true, ports := true, rxTiles := true, txTiles := true, recs := true, sched := true, keeper := true, straps := true, journal := true, nodeQueues := true, lacing := true, edges := true, host := true, flags := true, reports := true } = s.outside { pins := true, dict := true, anyNum := true, results := true, logs := true, power := true, ports := true, rxTiles := true, txTiles := true, recs := true, sched := true, keeper := true, straps := true, journal := true, nodeQueues := true, lacing := true, edges := true, host := true, flags := true, reports := true }) : Kept246 s t :=
  ⟨.of h rfl, .of h rfl, .of h rfl, .of h rfl, .of h rfl, .of h rfl, .of h rfl, .of h rfl, .of h rfl, .of h rfl, .of h rfl, .of h rfl, .of h rfl, .of h rfl, .of h rfl, .of h rfl, .of h rfl, .of h rfl, .of h rfl, .of h rfl, .of h rfl, .of h rfl, .of h rfl, .of h rfl, .of h rfl, .of h rfl, .of h rfl, .of h rfl, .of h rfl rfl, .of h rfl rfl rfl, .of h rfl rfl rfl, .of h rfl rfl⟩

/-- Every part but these is kept: chainPorts, host. -/
abbrev Kept247 (s t : State) : Prop :=
  SamePending s t ∧ SameDraws s t ∧ SameOut s t ∧ SameIdent s t ∧ SameFuses s t ∧ SamePins s t ∧ SameClock s t ∧ SamePulses s t ∧ SameChain s t ∧ SameDict s t ∧ SameNums s t ∧ SameDoms s t ∧ SameResults s t ∧ SameLogs s t ∧ SamePower s t ∧ SameVbat s t ∧ SameRadio s t ∧ SamePorts s t ∧ SameRxTiles s t ∧ SameTxTiles s t ∧ SameGirth s t ∧ SameRecs s t ∧ SameSched s t ∧ SameCinch s t ∧ SameKeeper s t ∧ SameSb s t ∧ SameStraps s t ∧ SameJournal s t ∧ SameAttached s t ∧ SameNodeQueues s t ∧ SameTables s t ∧ SameWindows s t ∧ SameHalter s t ∧ SameHar s t ∧ SameQueues s t ∧ SameArrivals s t ∧ SameLacing s t ∧ SameTree s t ∧ SameCurb s t ∧ SameConcho s t ∧ SameCores s t ∧ SameLocals s t ∧ SameBuckle s t ∧ SameEdges s t ∧ SameFlags s t ∧ SameReports s t ∧ SameDictAll s t ∧ SameSbAll s t ∧ SameBuckleAll s t ∧ SameCoresAll s t ∧ SameGirthAll s t ∧ SameTablesAll s t ∧ SameHarAll s t ∧ SameRadioAll s t ∧ SamePowerRxTilesTxTiles s t ∧ SameDictPower s t ∧ SameDictNums s t ∧ SameClockNumsPorts s t

theorem Kept247.of {s t : State} (h : t.outside { chainPorts := true, host := true } = s.outside { chainPorts := true, host := true }) : Kept247 s t :=
  ⟨.of h rfl, .of h rfl, .of h rfl, .of h rfl, .of h rfl, .of h rfl, .of h rfl, .of h rfl, .of h rfl, .of h rfl, .of h rfl, .of h rfl, .of h rfl, .of h rfl, .of h rfl, .of h rfl, .of h rfl, .of h rfl, .of h rfl, .of h rfl, .of h rfl, .of h rfl, .of h rfl, .of h rfl, .of h rfl, .of h rfl, .of h rfl, .of h rfl, .of h rfl, .of h rfl, .of h rfl, .of h rfl, .of h rfl, .of h rfl, .of h rfl, .of h rfl, .of h rfl, .of h rfl, .of h rfl, .of h rfl, .of h rfl, .of h rfl, .of h rfl, .of h rfl, .of h rfl, .of h rfl, .of h rfl rfl rfl rfl rfl, .of h rfl rfl rfl rfl rfl, .of h rfl rfl, .of h rfl rfl, .of h rfl rfl rfl rfl, .of h rfl rfl rfl, .of h rfl rfl rfl, .of h rfl rfl rfl rfl, .of h rfl rfl rfl, .of h rfl rfl, .of h rfl rfl, .of h rfl rfl rfl⟩

/-- Every part but these is kept: pins, dict, nums, results, logs, power, ports, rxTiles, txTiles, sched, straps, journal, queues, cores, locals, edges, flags, reports. -/
abbrev Kept248 (s t : State) : Prop :=
  SamePending s t ∧ SameDraws s t ∧ SameOut s t ∧ SameIdent s t ∧ SameFuses s t ∧ SameClock s t ∧ SamePulses s t ∧ SameChain s t ∧ SameChainPorts s t ∧ SameDoms s t ∧ SameVbat s t ∧ SameRadio s t ∧ SameGirth s t ∧ SameRecs s t ∧ SameCinch s t ∧ SameKeeper s t ∧ SameSb s t ∧ SameAttached s t ∧ SameNodeQueues s t ∧ SameTables s t ∧ SameWindows s t ∧ SameHalter s t ∧ SameHar s t ∧ SameArrivals s t ∧ SameLacing s t ∧ SameTree s t ∧ SameCurb s t ∧ SameConcho s t ∧ SameBuckle s t ∧ SameHost s t ∧ SameTablesAll s t ∧ SameChainAll s t

theorem Kept248.of {s t : State} (h : t.outside { pins := true, dict := true, anyNum := true, results := true, logs := true, power := true, ports := true, rxTiles := true, txTiles := true, sched := true, straps := true, journal := true, queues := true, cores := true, locals := true, edges := true, flags := true, reports := true } = s.outside { pins := true, dict := true, anyNum := true, results := true, logs := true, power := true, ports := true, rxTiles := true, txTiles := true, sched := true, straps := true, journal := true, queues := true, cores := true, locals := true, edges := true, flags := true, reports := true }) : Kept248 s t :=
  ⟨.of h rfl, .of h rfl, .of h rfl, .of h rfl, .of h rfl, .of h rfl, .of h rfl, .of h rfl, .of h rfl, .of h rfl, .of h rfl, .of h rfl, .of h rfl, .of h rfl, .of h rfl, .of h rfl, .of h rfl, .of h rfl, .of h rfl, .of h rfl, .of h rfl, .of h rfl, .of h rfl, .of h rfl, .of h rfl, .of h rfl, .of h rfl, .of h rfl, .of h rfl, .of h rfl, .of h rfl rfl rfl, .of h rfl rfl⟩

/-- Every part but these is kept: draws, out, chainPorts, nums, power, sb, journal, attached, cores, locals. -/
abbrev Kept249 (s t : State) : Prop :=
  SamePending s t ∧ SameIdent s t ∧ SameFuses s t ∧ SamePins s t ∧ SameClock s t ∧ SamePulses s t ∧ SameChain s t ∧ SameDict s t ∧ SameDoms s t ∧ SameResults s t ∧ SameLogs s t ∧ SameVbat s t ∧ SameRadio s t ∧ SamePorts s t ∧ SameRxTiles s t ∧ SameTxTiles s t ∧ SameGirth s t ∧ SameRecs s t ∧ SameSched s t ∧ SameCinch s t ∧ SameKeeper s t ∧ SameStraps s t ∧ SameNodeQueues s t ∧ SameTables s t ∧ SameWindows s t ∧ SameHalter s t ∧ SameHar s t ∧ SameQueues s t ∧ SameArrivals s t ∧ SameLacing s t ∧ SameTree s t ∧ SameCurb s t ∧ SameConcho s t ∧ SameBuckle s t ∧ SameEdges s t ∧ SameHost s t ∧ SameFlags s t ∧ SameReports s t ∧ SameBuckleAll s t ∧ SameHostAll s t ∧ SameGirthAll s t ∧ SameTablesAll s t ∧ SameHarAll s t ∧ SameRadioAll s t

theorem Kept249.of {s t : State} (h : t.outside { draws := true, out := true, chainPorts := true, anyNum := true, power := true, sb := true, journal := true, attached := true, cores := true, locals := true } = s.outside { draws := true, out := true, chainPorts := true, anyNum := true, power := true, sb := true, journal := true, attached := true, cores := true, locals := true }) : Kept249 s t :=
  ⟨.of h rfl, .of h rfl, .of h rfl, .of h rfl, .of h rfl, .of h rfl, .of h rfl, .of h rfl, .of h rfl, .of h rfl, .of h rfl, .of h rfl, .of h rfl, .of h rfl, .of h rfl, .of h rfl, .of h rfl, .of h rfl, .of h rfl, .of h rfl, .of h rfl, .of h rfl, .of h rfl, .of h rfl, .of h rfl, .of h rfl, .of h rfl, .of h rfl, .of h rfl, .of h rfl, .of h rfl, .of h rfl, .of h rfl, .of h rfl, .of h rfl, .of h rfl, .of h rfl, .of h rfl, .of h rfl rfl, .of h rfl rfl rfl, .of h rfl rfl rfl rfl, .of h rfl rfl rfl, .of h rfl rfl rfl, .of h rfl rfl rfl rfl⟩

/-- Every part but these is kept: nums, radio, cinch. -/
abbrev Kept250 (s t : State) : Prop :=
  SamePending s t ∧ SameDraws s t ∧ SameOut s t ∧ SameIdent s t ∧ SameFuses s t ∧ SamePins s t ∧ SameClock s t ∧ SamePulses s t ∧ SameChain s t ∧ SameChainPorts s t ∧ SameDict s t ∧ SameDoms s t ∧ SameResults s t ∧ SameLogs s t ∧ SamePower s t ∧ SameVbat s t ∧ SamePorts s t ∧ SameRxTiles s t ∧ SameTxTiles s t ∧ SameGirth s t ∧ SameRecs s t ∧ SameSched s t ∧ SameKeeper s t ∧ SameSb s t ∧ SameStraps s t ∧ SameJournal s t ∧ SameAttached s t ∧ SameNodeQueues s t ∧ SameTables s t ∧ SameWindows s t ∧ SameHalter s t ∧ SameHar s t ∧ SameQueues s t ∧ SameArrivals s t ∧ SameLacing s t ∧ SameTree s t ∧ SameCurb s t ∧ SameConcho s t ∧ SameCores s t ∧ SameLocals s t ∧ SameBuckle s t ∧ SameEdges s t ∧ SameHost s t ∧ SameFlags s t ∧ SameReports s t ∧ SameSbAll s t ∧ SameBuckleAll s t ∧ SameHostAll s t ∧ SameCoresAll s t ∧ SameTablesAll s t ∧ SameHarAll s t ∧ SameChainAll s t ∧ SamePowerRxTilesTxTiles s t ∧ SameDictPower s t

theorem Kept250.of {s t : State} (h : t.outside { anyNum := true, radio := true, cinch := true } = s.outside { anyNum := true, radio := true, cinch := true }) : Kept250 s t :=
  ⟨.of h rfl, .of h rfl, .of h rfl, .of h rfl, .of h rfl, .of h rfl, .of h rfl, .of h rfl, .of h rfl, .of h rfl, .of h rfl, .of h rfl, .of h rfl, .of h rfl, .of h rfl, .of h rfl, .of h rfl, .of h rfl, .of h rfl, .of h rfl, .of h rfl, .of h rfl, .of h rfl, .of h rfl, .of h rfl, .of h rfl, .of h rfl, .of h rfl, .of h rfl, .of h rfl, .of h rfl, .of h rfl, .of h rfl, .of h rfl, .of h rfl, .of h rfl, .of h rfl, .of h rfl, .of h rfl, .of h rfl, .of h rfl, .of h rfl, .of h rfl, .of h rfl, .of h rfl, .of h rfl rfl rfl rfl rfl, .of h rfl rfl, .of h rfl rfl rfl, .of h rfl rfl, .of h rfl rfl rfl, .of h rfl rfl rfl, .of h rfl rfl, .of h rfl rfl rfl, .of h rfl rfl⟩

/-- Every part but these is kept: dict, nums, logs, radio, straps, journal, edges, flags. -/
abbrev Kept251 (s t : State) : Prop :=
  SamePending s t ∧ SameDraws s t ∧ SameOut s t ∧ SameIdent s t ∧ SameFuses s t ∧ SamePins s t ∧ SameClock s t ∧ SamePulses s t ∧ SameChain s t ∧ SameChainPorts s t ∧ SameDoms s t ∧ SameResults s t ∧ SamePower s t ∧ SameVbat s t ∧ SamePorts s t ∧ SameRxTiles s t ∧ SameTxTiles s t ∧ SameGirth s t ∧ SameRecs s t ∧ SameSched s t ∧ SameCinch s t ∧ SameKeeper s t ∧ SameSb s t ∧ SameAttached s t ∧ SameNodeQueues s t ∧ SameTables s t ∧ SameWindows s t ∧ SameHalter s t ∧ SameHar s t ∧ SameQueues s t ∧ SameArrivals s t ∧ SameLacing s t ∧ SameTree s t ∧ SameCurb s t ∧ SameConcho s t ∧ SameCores s t ∧ SameLocals s t ∧ SameBuckle s t ∧ SameHost s t ∧ SameReports s t ∧ SameCoresAll s t ∧ SameGirthAll s t ∧ SameTablesAll s t ∧ SameHarAll s t ∧ SameChainAll s t ∧ SamePowerRxTilesTxTiles s t

theorem Kept251.of {s t : State} (h : t.outside { dict := true, anyNum := true, logs := true, radio := true, straps := true, journal := true, edges := true, flags := true } = s.outside { dict := true, anyNum := true, logs := true, radio := true, straps := true, journal := true, edges := true, flags := true }) : Kept251 s t :=
  ⟨.of h rfl, .of h rfl, .of h rfl, .of h rfl, .of h rfl, .of h rfl, .of h rfl, .of h rfl, .of h rfl, .of h rfl, .of h rfl, .of h rfl, .of h rfl, .of h rfl, .of h rfl, .of h rfl, .of h rfl, .of h rfl, .of h rfl, .of h rfl, .of h rfl, .of h rfl, .of h rfl, .of h rfl, .of h rfl, .of h rfl, .of h rfl, .of h rfl, .of h rfl, .of h rfl, .of h rfl, .of h rfl, .of h rfl, .of h rfl, .of h rfl, .of h rfl, .of h rfl, .of h rfl, .of h rfl, .of h rfl, .of h rfl rfl, .of h rfl rfl rfl rfl, .of h rfl rfl rfl, .of h rfl rfl rfl, .of h rfl rfl, .of h rfl rfl rfl⟩

/-- Every part but these is kept: dict, nums, logs, radio, recs, keeper, straps, journal, arrivals, edges, flags. -/
abbrev Kept252 (s t : State) : Prop :=
  SamePending s t ∧ SameDraws s t ∧ SameOut s t ∧ SameIdent s t ∧ SameFuses s t ∧ SamePins s t ∧ SameClock s t ∧ SamePulses s t ∧ SameChain s t ∧ SameChainPorts s t ∧ SameDoms s t ∧ SameResults s t ∧ SamePower s t ∧ SameVbat s t ∧ SamePorts s t ∧ SameRxTiles s t ∧ SameTxTiles s t ∧ SameGirth s t ∧ SameSched s t ∧ SameCinch s t ∧ SameSb s t ∧ SameAttached s t ∧ SameNodeQueues s t ∧ SameTables s t ∧ SameWindows s t ∧ SameHalter s t ∧ SameHar s t ∧ SameQueues s t ∧ SameLacing s t ∧ SameTree s t ∧ SameCurb s t ∧ SameConcho s t ∧ SameCores s t ∧ SameLocals s t ∧ SameBuckle s t ∧ SameHost s t ∧ SameReports s t ∧ SameCoresAll s t ∧ SameTablesAll s t ∧ SameChainAll s t ∧ SamePowerRxTilesTxTiles s t

theorem Kept252.of {s t : State} (h : t.outside { dict := true, anyNum := true, logs := true, radio := true, recs := true, keeper := true, straps := true, journal := true, arrivals := true, edges := true, flags := true } = s.outside { dict := true, anyNum := true, logs := true, radio := true, recs := true, keeper := true, straps := true, journal := true, arrivals := true, edges := true, flags := true }) : Kept252 s t :=
  ⟨.of h rfl, .of h rfl, .of h rfl, .of h rfl, .of h rfl, .of h rfl, .of h rfl, .of h rfl, .of h rfl, .of h rfl, .of h rfl, .of h rfl, .of h rfl, .of h rfl, .of h rfl, .of h rfl, .of h rfl, .of h rfl, .of h rfl, .of h rfl, .of h rfl, .of h rfl, .of h rfl, .of h rfl, .of h rfl, .of h rfl, .of h rfl, .of h rfl, .of h rfl, .of h rfl, .of h rfl, .of h rfl, .of h rfl, .of h rfl, .of h rfl, .of h rfl, .of h rfl, .of h rfl rfl, .of h rfl rfl rfl, .of h rfl rfl, .of h rfl rfl rfl⟩

/-- Every part but these is kept: draws, pins, dict, nums, results, logs, vbat, radio, ports, rxTiles, txTiles, recs, cinch, keeper, straps, journal, nodeQueues, tables, halter, arrivals, lacing, edges, flags, reports. -/
abbrev Kept253 (s t : State) : Prop :=
  SamePending s t ∧ SameOut s t ∧ SameIdent s t ∧ SameFuses s t ∧ SameClock s t ∧ SamePulses s t ∧ SameChain s t ∧ SameChainPorts s t ∧ SameDoms s t ∧ SamePower s t ∧ SameGirth s t ∧ SameSched s t ∧ SameSb s t ∧ SameAttached s t ∧ SameWindows s t ∧ SameHar s t ∧ SameQueues s t ∧ SameTree s t ∧ SameCurb s t ∧ SameConcho s t ∧ SameCores s t ∧ SameLocals s t ∧ SameBuckle s t ∧ SameHost s t ∧ SameCoresAll s t ∧ SameChainAll s t

theorem Kept253.of {s t : State} (h : t.outside { draws := true, pins := true, dict := true, anyNum := true, results := true, logs := true, vbat := true, radio := true, ports := true, rxTiles := true, txTiles := true, recs := true, cinch := true, keeper := true, straps := true, journal := true, nodeQueues := true, tables := true, halter := true, arrivals := true, lacing := true, edges := true, flags := true, reports := true } = s.outside { draws := true, pins := true, dict := true, anyNum := true, results := true, logs := true, vbat := true, radio := true, ports := true, rxTiles := true, txTiles := true, recs := true, cinch := true, keeper := true, straps := true, journal := true, nodeQueues := true, tables := true, halter := true, arrivals := true, lacing := true, edges := true, flags := true, reports := true }) : Kept253 s t :=
  ⟨.of h rfl, .of h rfl, .of h rfl, .of h rfl, .of h rfl, .of h rfl, .of h rfl, .of h rfl, .of h rfl, .of h rfl, .of h rfl, .of h rfl, .of h rfl, .of h rfl, .of h rfl, .of h rfl, .of h rfl, .of h rfl, .of h rfl, .of h rfl, .of h rfl, .of h rfl, .of h rfl, .of h rfl, .of h rfl rfl, .of h rfl rfl⟩

/-- Every part but these is kept: dict, nums, logs, radio, recs, straps, journal, nodeQueues, edges, flags, reports. -/
abbrev Kept254 (s t : State) : Prop :=
  SamePending s t ∧ SameDraws s t ∧ SameOut s t ∧ SameIdent s t ∧ SameFuses s t ∧ SamePins s t ∧ SameClock s t ∧ SamePulses s t ∧ SameChain s t ∧ SameChainPorts s t ∧ SameDoms s t ∧ SameResults s t ∧ SamePower s t ∧ SameVbat s t ∧ SamePorts s t ∧ SameRxTiles s t ∧ SameTxTiles s t ∧ SameGirth s t ∧ SameSched s t ∧ SameCinch s t ∧ SameKeeper s t ∧ SameSb s t ∧ SameAttached s t ∧ SameTables s t ∧ SameWindows s t ∧ SameHalter s t ∧ SameHar s t ∧ SameQueues s t ∧ SameArrivals s t ∧ SameLacing s t ∧ SameTree s t ∧ SameCurb s t ∧ SameConcho s t ∧ SameCores s t ∧ SameLocals s t ∧ SameBuckle s t ∧ SameHost s t ∧ SameCoresAll s t ∧ SameTablesAll s t ∧ SameHarAll s t ∧ SameChainAll s t ∧ SamePowerRxTilesTxTiles s t

theorem Kept254.of {s t : State} (h : t.outside { dict := true, anyNum := true, logs := true, radio := true, recs := true, straps := true, journal := true, nodeQueues := true, edges := true, flags := true, reports := true } = s.outside { dict := true, anyNum := true, logs := true, radio := true, recs := true, straps := true, journal := true, nodeQueues := true, edges := true, flags := true, reports := true }) : Kept254 s t :=
  ⟨.of h rfl, .of h rfl, .of h rfl, .of h rfl, .of h rfl, .of h rfl, .of h rfl, .of h rfl, .of h rfl, .of h rfl, .of h rfl, .of h rfl, .of h rfl, .of h rfl, .of h rfl, .of h rfl, .of h rfl, .of h rfl, .of h rfl, .of h rfl, .of h rfl, .of h rfl, .of h rfl, .of h rfl, .of h rfl, .of h rfl, .of h rfl, .of h rfl, .of h rfl, .of h rfl, .of h rfl, .of h rfl, .of h rfl, .of h rfl, .of h rfl, .of h rfl, .of h rfl, .of h rfl rfl, .of h rfl rfl rfl, .of h rfl rfl rfl, .of h rfl rfl, .of h rfl rfl rfl⟩

/-- Every part but these is kept: pending. -/
abbrev Kept255 (s t : State) : Prop :=
  SameDraws s t ∧ SameOut s t ∧ SameIdent s t ∧ SameFuses s t ∧ SamePins s t ∧ SameClock s t ∧ SamePulses s t ∧ SameChain s t ∧ SameChainPorts s t ∧ SameDict s t ∧ SameNums s t ∧ SameDoms s t ∧ SameResults s t ∧ SameLogs s t ∧ SamePower s t ∧ SameVbat s t ∧ SameRadio s t ∧ SamePorts s t ∧ SameRxTiles s t ∧ SameTxTiles s t ∧ SameGirth s t ∧ SameRecs s t ∧ SameSched s t ∧ SameCinch s t ∧ SameKeeper s t ∧ SameSb s t ∧ SameStraps s t ∧ SameJournal s t ∧ SameAttached s t ∧ SameNodeQueues s t ∧ SameTables s t ∧ SameWindows s t ∧ SameHalter s t ∧ SameHar s t ∧ SameQueues s t ∧ SameArrivals s t ∧ SameLacing s t ∧ SameTree s t ∧ SameCurb s t ∧ SameConcho s t ∧ SameCores s t ∧ SameLocals s t ∧ SameBuckle s t ∧ SameEdges s t ∧ SameHost s t ∧ SameFlags s t ∧ SameReports s t ∧ SameDictAll s t ∧ SameSbAll s t ∧ SameBuckleAll s t ∧ SameHostAll s t ∧ SameCoresAll s t ∧ SameGirthAll s t ∧ SameTablesAll s t ∧ SameHarAll s t ∧ SameChainAll s t ∧ SameRadioAll s t ∧ SamePowerRxTilesTxTiles s t ∧ SameDictPower s t ∧ SameDictNums s t ∧ SameClockNumsPorts s t

theorem Kept255.of {s t : State} (h : t.outside { pending := true } = s.outside { pending := true }) : Kept255 s t :=
  ⟨.of h rfl, .of h rfl, .of h rfl, .of h rfl, .of h rfl, .of h rfl, .of h rfl, .of h rfl, .of h rfl, .of h rfl, .of h rfl, .of h rfl, .of h rfl, .of h rfl, .of h rfl, .of h rfl, .of h rfl, .of h rfl, .of h rfl, .of h rfl, .of h rfl, .of h rfl, .of h rfl, .of h rfl, .of h rfl, .of h rfl, .of h rfl, .of h rfl, .of h rfl, .of h rfl, .of h rfl, .of h rfl, .of h rfl, .of h rfl, .of h rfl, .of h rfl, .of h rfl, .of h rfl, .of h rfl, .of h rfl, .of h rfl, .of h rfl, .of h rfl, .of h rfl, .of h rfl, .of h rfl, .of h rfl, .of h rfl rfl rfl rfl rfl, .of h rfl rfl rfl rfl rfl, .of h rfl rfl, .of h rfl rfl rfl, .of h rfl rfl, .of h rfl rfl rfl rfl, .of h rfl rfl rfl, .of h rfl rfl rfl, .of h rfl rfl, .of h rfl rfl rfl rfl, .of h rfl rfl rfl, .of h rfl rfl, .of h rfl rfl, .of h rfl rfl rfl⟩

end Sys2Proof.Machine
end

