-- ==== Sys2Proof/Laws/Frame/Ops.lean ====
section
/-! SUPPORT. What the operations of Machine/Ops.lean leave alone. -/

namespace Sys2Proof.Machine

theorem State.wr_keeps {s : State} {k : Nat} {v : Nat} : Kept1 s (State.wr s k v) :=
  .of (State.wr_outside rfl rfl)

theorem State.bump_outside {M : Touch} {r : State} {s : State} {k n : Nat} (hNums : M.Num (Key.fam k)) (hs : s.outside M = r) :
    (State.bump s k n).outside M = r := by
  exact State.wr_outside hNums hs

theorem State.bump_keeps {s : State} {k n : Nat} : Kept1 s (State.bump s k n) :=
  .of (State.bump_outside rfl rfl)

theorem State.journalAdd_outside {M : Touch} {r : State} {s : State} {a0 : JournalRec} (hJournal : M.journal = true) (hs : s.outside M = r) :
    (State.journalAdd s a0).outside M = r := by
  unfold State.journalAdd
  extract_lets +onlyGivenNames -merge -underBinder x1
  try clear_value x1
  extract_lets +onlyGivenNames -merge -underBinder x2
  try clear_value x2
  extract_lets +onlyGivenNames -merge -underBinder x3
  unfold x3
  clear x3
  refine Eq.trans (State.outside_sb_journal (h0 := hJournal) ..) ?_
  exact hs

theorem State.journalAdd_keeps {s : State} {a0 : JournalRec} : Kept2 s (State.journalAdd s a0) :=
  .of (State.journalAdd_outside rfl rfl)

theorem State.setStrap_outside {M : Touch} {r : State} {s : State} {q : Nat} {x : StrapQ} (hStraps : M.straps = true) (hs : s.outside M = r) :
    (State.setStrap s q x).outside M = r := by
  unfold State.setStrap
  extract_lets +onlyGivenNames -merge -underBinder x0
  unfold x0
  clear x0
  refine Eq.trans (State.outside_sb_straps (h0 := hStraps) ..) ?_
  exact hs

theorem State.setStrap_keeps {s : State} {q : Nat} {x : StrapQ} : Kept3 s (State.setStrap s q x) :=
  .of (State.setStrap_outside rfl rfl)

theorem State.strapDrop_outside {M : Touch} {r : State} {s : State} {q : Nat} {w : Nat} (hNums : M.Nums Nums1) (hStraps : M.straps = true) (hs : s.outside M = r) :
    (State.strapDrop s q w).outside M = r := by
  unfold State.strapDrop
  extract_lets +onlyGivenNames -merge -underBinder x0
  try clear_value x0
  extract_lets +onlyGivenNames -merge -underBinder x1
  try clear_value x1
  extract_lets +onlyGivenNames -merge -underBinder x2
  have q3 : State.outside M x2 = r := by
    unfold x2
    refine State.bump_outside (hNums.at Key.fam_sqLost rfl) ?_
    exact hs
  try clear_value x2
  split
  · refine State.setStrap_outside hStraps ?_
    exact q3
  · refine State.setStrap_outside hStraps ?_
    refine State.bump_outside (hNums.at Key.fam_sqWelts rfl) ?_
    exact q3

theorem State.strapDrop_keeps {s : State} {q : Nat} {w : Nat} : Kept4 s (State.strapDrop s q w) :=
  .of (State.strapDrop_outside rfl rfl rfl)

theorem State.strapDrop_rd {s : State} {q : Nat} {w : Nat} {kk : Nat} (hkey : Nums1.contains (Key.fam kk) = false) : (State.strapDrop s q w).rd kk = s.rd kk :=
  State.rd_of_outside (M := .but Nums1) (State.strapDrop_outside .self rfl rfl) rfl hkey

theorem State.setCause_outside {M : Touch} {r : State} {s : State} {c : Nat} (hFlags : M.flags = true) (hs : s.outside M = r) :
    (State.setCause s c).outside M = r := by
  unfold State.setCause
  extract_lets +onlyGivenNames -merge -underBinder x0
  unfold x0
  clear x0
  refine ite_outside ?_ ?_
  · refine Eq.trans (State.outside_host_flags (h0 := hFlags) ..) ?_
    exact hs
  · exact hs

theorem State.setCause_keeps {s : State} {c : Nat} : Kept5 s (State.setCause s c) :=
  .of (State.setCause_outside rfl rfl)

theorem State.strapPush_outside {M : Touch} {r : State} {s : State} {q : Nat} {w : Nat} {data : Bytes} {kind : Nat} (hNums : M.Nums Nums1) (hStraps : M.straps = true) (hFlags : M.flags = true) (hs : s.outside M = r) :
    (State.strapPush s q w data kind).outside M = r := by
  unfold State.strapPush
  extract_lets +onlyGivenNames -merge -underBinder x0
  try clear_value x0
  extract_lets +onlyGivenNames -merge -underBinder x1
  try clear_value x1
  extract_lets +onlyGivenNames -merge -underBinder x2
  try clear_value x2
  extract_lets +onlyGivenNames -merge -underBinder x3
  have q4 : State.outside M x3 = r := by
    unfold x3
    refine State.setStrap_outside hStraps ?_
    exact hs
  try clear_value x3
  refine ite_outside ?_ ?_
  · refine State.bump_outside (hNums.at Key.fam_sqLost rfl) ?_
    exact hs
  · refine ite_outside ?_ ?_
    · refine State.strapDrop_outside hNums hStraps ?_
      exact hs
    · refine ite_outside ?_ ?_
      · refine State.setCause_outside hFlags ?_
        exact q4
      · exact q4

theorem State.strapPush_keeps {s : State} {q : Nat} {w : Nat} {data : Bytes} {kind : Nat} : Kept6 s (State.strapPush s q w data kind) :=
  .of (State.strapPush_outside rfl rfl rfl rfl)

theorem State.strapPush_rd {s : State} {q : Nat} {w : Nat} {data : Bytes} {kind : Nat} {kk : Nat} (hkey : Nums1.contains (Key.fam kk) = false) : (State.strapPush s q w data kind).rd kk = s.rd kk :=
  State.rd_of_outside (M := .but Nums1) (State.strapPush_outside .self rfl rfl rfl) rfl hkey

theorem State.raise_outside {M : Touch} {r : State} {s : State} {src : Nat} (hEdges : M.edges = true) (hs : s.outside M = r) :
    (State.raise s src).outside M = r := by
  unfold State.raise
  extract_lets +onlyGivenNames -merge -underBinder x0
  unfold x0
  clear x0
  refine Eq.trans (State.outside_buckle_edges (h0 := hEdges) ..) ?_
  exact hs

theorem State.raise_keeps {s : State} {src : Nat} : Kept7 s (State.raise s src) :=
  .of (State.raise_outside rfl rfl)

theorem State.run32_outside {M : Touch} {r : State} {s : State} {k n : Nat} (hNums : M.Num (Key.fam k)) (hs : s.outside M = r) :
    (State.run32 s k n).outside M = r := by
  exact State.wr_outside hNums hs

theorem State.run32_keeps {s : State} {k n : Nat} : Kept1 s (State.run32 s k n) :=
  .of (State.run32_outside rfl rfl)

theorem State.logErr_outside {M : Touch} {r : State} {s : State} {e : ErrEntry} {extra : Bytes} (hDict : M.dict = true) (hNums : M.Nums Nums2) (hLogs : M.logs = true) (hStraps : M.straps = true) (hJournal : M.journal = true) (hEdges : M.edges = true) (hFlags : M.flags = true) (hs : s.outside M = r) :
    (State.logErr s e extra).outside M = r := by
  unfold State.logErr
  extract_lets +onlyGivenNames -merge -underBinder x0
  have q1 : State.outside M x0 = r := by
    unfold x0
    refine State.journalAdd_outside hJournal ?_
    refine State.run32_outside (hNums.at Key.fam_errTotal rfl) ?_
    exact hs
  try clear_value x0
  extract_lets +onlyGivenNames -merge -underBinder x2
  try clear_value x2
  extract_lets +onlyGivenNames -merge -underBinder x3
  try clear_value x3
  extract_lets +onlyGivenNames -merge -underBinder x4
  unfold x4
  clear x4
  extract_lets +onlyGivenNames -merge -underBinder x5
  have q6 : State.outside M x5 = r := by
    unfold x5
    rw [← q1]; simp only [State.outside, hLogs, hDict, cond_true]
  try clear_value x5
  extract_lets +onlyGivenNames -merge -underBinder x7
  have q8 : State.outside M x7 = r := by
    unfold x7
    refine State.wr_outside (hNums.at Key.fam_errLogNext rfl) ?_
    exact q6
  try clear_value x7
  extract_lets +onlyGivenNames -merge -underBinder x9
  try clear_value x9
  extract_lets +onlyGivenNames -merge -underBinder x10
  have q11 : State.outside M x10 = r := by
    unfold x10
    refine State.strapPush_outside (hNums.sub rfl) hStraps hFlags ?_
    exact q8
  try clear_value x10
  extract_lets +onlyGivenNames -merge -underBinder x12
  have q13 : State.outside M x12 = r := by
    unfold x12
    refine State.raise_outside hEdges ?_
    exact q11
  try clear_value x12
  refine ite_outside ?_ ?_
  · refine State.bump_outside (hNums.at Key.fam_errSuppressed rfl) ?_
    exact q1
  · refine ite_outside ?_ ?_
    · refine State.raise_outside hEdges ?_
      exact q13
    · exact q13

theorem State.logErr_keeps {s : State} {e : ErrEntry} {extra : Bytes} : Kept8 s (State.logErr s e extra) :=
  .of (State.logErr_outside rfl rfl rfl rfl rfl rfl rfl rfl)

theorem State.logErr_rd {s : State} {e : ErrEntry} {extra : Bytes} {kk : Nat} (hkey : Nums2.contains (Key.fam kk) = false) : (State.logErr s e extra).rd kk = s.rd kk :=
  State.rd_of_outside (M := .but Nums2) (State.logErr_outside rfl .self rfl rfl rfl rfl rfl rfl) rfl hkey

theorem State.postSev_outside {M : Touch} {r : State} {s : State} {c : Err} {sev : Nat} {source : Nat} {arg : Nat} {arg2 : Nat} {dom : Nat} {extra : Bytes} (hDict : M.dict = true) (hNums : M.Nums Nums2) (hLogs : M.logs = true) (hStraps : M.straps = true) (hJournal : M.journal = true) (hEdges : M.edges = true) (hFlags : M.flags = true) (hs : s.outside M = r) :
    (State.postSev s c sev source arg arg2 dom extra).outside M = r := by
  unfold State.postSev
  refine State.logErr_outside hDict hNums hLogs hStraps hJournal hEdges hFlags ?_
  exact hs

theorem State.postSev_keeps {s : State} {c : Err} {sev : Nat} {source : Nat} {arg : Nat} {arg2 : Nat} {dom : Nat} {extra : Bytes} : Kept8 s (State.postSev s c sev source arg arg2 dom extra) :=
  .of (State.postSev_outside rfl rfl rfl rfl rfl rfl rfl rfl)

theorem State.postSev_rd {s : State} {c : Err} {sev : Nat} {source : Nat} {arg : Nat} {arg2 : Nat} {dom : Nat} {extra : Bytes} {kk : Nat} (hkey : Nums2.contains (Key.fam kk) = false) : (State.postSev s c sev source arg arg2 dom extra).rd kk = s.rd kk :=
  State.rd_of_outside (M := .but Nums2) (State.postSev_outside rfl .self rfl rfl rfl rfl rfl rfl) rfl hkey

theorem State.post_outside {M : Touch} {r : State} {s : State} {c : Err} {source : Nat} {arg : Nat} {arg2 : Nat} {dom : Nat} (hDict : M.dict = true) (hNums : M.Nums Nums2) (hLogs : M.logs = true) (hStraps : M.straps = true) (hJournal : M.journal = true) (hEdges : M.edges = true) (hFlags : M.flags = true) (hs : s.outside M = r) :
    (State.post s c source arg arg2 dom).outside M = r := by
  unfold State.post
  refine State.postSev_outside hDict hNums hLogs hStraps hJournal hEdges hFlags ?_
  exact hs

theorem State.post_keeps {s : State} {c : Err} {source : Nat} {arg : Nat} {arg2 : Nat} {dom : Nat} : Kept8 s (State.post s c source arg arg2 dom) :=
  .of (State.post_outside rfl rfl rfl rfl rfl rfl rfl rfl)

theorem State.post_rd {s : State} {c : Err} {source : Nat} {arg : Nat} {arg2 : Nat} {dom : Nat} {kk : Nat} (hkey : Nums2.contains (Key.fam kk) = false) : (State.post s c source arg arg2 dom).rd kk = s.rd kk :=
  State.rd_of_outside (M := .but Nums2) (State.post_outside rfl .self rfl rfl rfl rfl rfl rfl) rfl hkey

theorem State.wrEdge_outside {M : Touch} {r : State} {s : State} {k : Nat} {v : Nat} {src : Nat} (hNums : M.Num (Key.fam k)) (hEdges : M.edges = true) (hs : s.outside M = r) :
    (State.wrEdge s k v src).outside M = r := by
  unfold State.wrEdge
  refine ite_outside ?_ ?_
  · refine State.wr_outside hNums ?_
    exact hs
  · refine State.raise_outside hEdges ?_
    refine State.wr_outside hNums ?_
    exact hs

theorem State.wrEdge_keeps {s : State} {k : Nat} {v : Nat} {src : Nat} : Kept9 s (State.wrEdge s k v src) :=
  .of (State.wrEdge_outside rfl rfl rfl)

theorem State.each_outside {M : Touch} {r : State} {α : Type} {s : State} {l : List α} {f : State → α → State} (hFfun : ∀ u0 : State, State.outside M u0 = r → ∀ u1, State.outside M (f u0 u1) = r) (hs : s.outside M = r) :
    (State.each s l f).outside M = r := by
  unfold State.each
  refine foldl_outside ?_ ?_
  · intro t2 q3 z4
    refine hFfun _ ?_ _
    exact q3
  · exact hs

theorem State.reportFinal_outside {M : Touch} {r : State} {s : State} {handle : Option Nat} {report : Nat} {outcome : Nat} (hReports : M.reports = true) (hs : s.outside M = r) :
    (State.reportFinal s handle report outcome).outside M = r := by
  unfold State.reportFinal
  split
  · exact hs
  · split
    · exact hs
    · extract_lets +onlyGivenNames -merge -underBinder x0
      unfold x0
      clear x0
      refine Eq.trans (State.outside_host_reports (h0 := hReports) ..) ?_
      exact hs

theorem State.reportFinal_keeps {s : State} {handle : Option Nat} {report : Nat} {outcome : Nat} : Kept10 s (State.reportFinal s handle report outcome) :=
  .of (State.reportFinal_outside rfl rfl)

theorem State.setRes_outside {M : Touch} {r : State} {s : State} {k : Nat} {a0 : ResRec} (hResults : M.results = true) (hs : s.outside M = r) :
    (State.setRes s k a0).outside M = r := by
  unfold State.setRes
  extract_lets +onlyGivenNames -merge -underBinder x1
  try clear_value x1
  extract_lets +onlyGivenNames -merge -underBinder x2
  unfold x2
  clear x2
  refine Eq.trans (State.outside_dict_results (h0 := hResults) ..) ?_
  exact hs

theorem State.setRes_keeps {s : State} {k : Nat} {a0 : ResRec} : Kept11 s (State.setRes s k a0) :=
  .of (State.setRes_outside rfl rfl)

theorem State.resEnd_outside {M : Touch} {r : State} {s : State} {k : Nat} {code : Nat} {data : Bytes} (hResults : M.results = true) (hs : s.outside M = r) :
    (State.resEnd s k code data).outside M = r := by
  unfold State.resEnd
  refine State.setRes_outside hResults ?_
  exact hs

theorem State.resEnd_keeps {s : State} {k : Nat} {code : Nat} {data : Bytes} : Kept11 s (State.resEnd s k code data) :=
  .of (State.resEnd_outside rfl rfl)

theorem State.resEndIfBusy_outside {M : Touch} {r : State} {s : State} {k : Nat} {code : Nat} {data : Bytes} (hResults : M.results = true) (hs : s.outside M = r) :
    (State.resEndIfBusy s k code data).outside M = r := by
  unfold State.resEndIfBusy
  refine ite_outside ?_ ?_
  · refine State.resEnd_outside hResults ?_
    exact hs
  · exact hs

theorem State.resEndIfBusy_keeps {s : State} {k : Nat} {code : Nat} {data : Bytes} : Kept11 s (State.resEndIfBusy s k code data) :=
  .of (State.resEndIfBusy_outside rfl rfl)

theorem State.memFound_outside {M : Touch} {r : State} {s : State} {k : Nat} {e : MemErr} {addr : Nat} (hDict : M.dict = true) (hNums : M.Nums Nums17) (hLogs : M.logs = true) (hStraps : M.straps = true) (hJournal : M.journal = true) (hEdges : M.edges = true) (hFlags : M.flags = true) (hs : s.outside M = r) :
    (State.memFound s k e addr).outside M = r := by
  unfold State.memFound
  split
  · exact hs
  · refine State.bump_outside (hNums.at Key.fam_memErr rfl) ?_
    exact hs
  · refine State.post_outside hDict (hNums.sub rfl) hLogs hStraps hJournal hEdges hFlags ?_
    refine State.bump_outside (hNums.at Key.fam_memUncorrected rfl) ?_
    refine State.bump_outside (hNums.at Key.fam_memErr rfl) ?_
    exact hs

theorem State.memFound_keeps {s : State} {k : Nat} {e : MemErr} {addr : Nat} : Kept8 s (State.memFound s k e addr) :=
  .of (State.memFound_outside rfl rfl rfl rfl rfl rfl rfl rfl)

theorem State.memFound_rd {s : State} {k : Nat} {e : MemErr} {addr : Nat} {kk : Nat} (hkey : Nums17.contains (Key.fam kk) = false) : (State.memFound s k e addr).rd kk = s.rd kk :=
  State.rd_of_outside (M := .but Nums17) (State.memFound_outside rfl .self rfl rfl rfl rfl rfl rfl) rfl hkey

theorem State.emit_outside {M : Touch} {r : State} {s : State} {o : Out} (hOut : M.out = true) (hs : s.outside M = r) :
    (State.emit s o).outside M = r := by
  unfold State.emit
  refine Eq.trans (State.outside_out (h0 := hOut) ..) ?_
  exact hs

theorem State.emit_keeps {s : State} {o : Out} : Kept12 s (State.emit s o) :=
  .of (State.emit_outside rfl rfl)

theorem State.setDom_outside {M : Touch} {r : State} {s : State} {k : Nat} {bs : Bytes} (hDoms : M.doms = true) (hs : s.outside M = r) :
    (State.setDom s k bs).outside M = r := by
  unfold State.setDom
  extract_lets +onlyGivenNames -merge -underBinder x0
  unfold x0
  clear x0
  refine Eq.trans (State.outside_dict_doms (h0 := hDoms) ..) ?_
  exact hs

theorem State.setDom_keeps {s : State} {k : Nat} {bs : Bytes} : Kept13 s (State.setDom s k bs) :=
  .of (State.setDom_outside rfl rfl)

theorem State.logClamp_outside {M : Touch} {r : State} {s : State} {e : ClampEntry} (hNums : M.Nums Nums65) (hLogs : M.logs = true) (hJournal : M.journal = true) (hs : s.outside M = r) :
    (State.logClamp s e).outside M = r := by
  unfold State.logClamp
  extract_lets +onlyGivenNames -merge -underBinder x0
  try clear_value x0
  extract_lets +onlyGivenNames -merge -underBinder x1
  unfold x1
  clear x1
  extract_lets +onlyGivenNames -merge -underBinder x2
  have q3 : State.outside M x2 = r := by
    unfold x2
    refine Eq.trans (State.outside_dict_logs (h0 := hLogs) ..) ?_
    exact hs
  try clear_value x2
  refine State.journalAdd_outside hJournal ?_
  refine State.bump_outside (hNums.at Key.fam_clampTotal rfl) ?_
  refine State.wr_outside (hNums.at Key.fam_clampLogNext rfl) ?_
  exact q3

theorem State.logClamp_keeps {s : State} {e : ClampEntry} : Kept14 s (State.logClamp s e) :=
  .of (State.logClamp_outside rfl rfl rfl rfl)

theorem State.logClamp_rd {s : State} {e : ClampEntry} {kk : Nat} (hkey : Nums65.contains (Key.fam kk) = false) : (State.logClamp s e).rd kk = s.rd kk :=
  State.rd_of_outside (M := .but Nums65) (State.logClamp_outside .self rfl rfl rfl) rfl hkey

theorem State.resBegin_outside {M : Touch} {r : State} {s : State} {k : Nat} (hResults : M.results = true) (hs : s.outside M = r) :
    (State.resBegin s k).outside M = r := by
  unfold State.resBegin
  extract_lets +onlyGivenNames -merge -underBinder x0
  try clear_value x0
  refine State.setRes_outside hResults ?_
  exact hs

theorem State.resBegin_keeps {s : State} {k : Nat} : Kept11 s (State.resBegin s k) :=
  .of (State.resBegin_outside rfl rfl)

theorem State.drawn_outside {M : Touch} {r : State} {s : State} (hDraws : M.draws = true) (hs : s.outside M = r) :
    (State.drawn s).outside M = r := by
  unfold State.drawn
  refine Eq.trans (State.outside_draws (h0 := hDraws) ..) ?_
  exact hs

theorem State.drawn_keeps {s : State} : Kept15 s (State.drawn s) :=
  .of (State.drawn_outside rfl rfl)

end Sys2Proof.Machine
end

