-- ==== Sys2Proof/Laws/Frame/Clock.lean ====
section
/-! SUPPORT. What the operations of Machine/Clock.lean leave alone. -/

namespace Sys2Proof.Machine

theorem State.advance_outside {M : Touch} {r : State} {s : State} {n : Nat} (hClock : M.clock = true) (hVbat : M.vbat = true) (hs : s.outside M = r) :
    (State.advance s n).outside M = r := by
  unfold State.advance
  extract_lets +onlyGivenNames -merge -underBinder x0
  try clear_value x0
  extract_lets +onlyGivenNames -merge -underBinder x1
  try clear_value x1
  extract_lets +onlyGivenNames -merge -underBinder x2
  try clear_value x2
  rw [← hs]; simp only [State.outside, hClock, hVbat, cond_true]

theorem State.advance_keeps {s : State} {n : Nat} : Kept16 s (State.advance s n) :=
  .of (State.advance_outside rfl rfl rfl)

end Sys2Proof.Machine
end

