-- ==== Sys2Proof/Laws/Frame/Tables.lean ====
section
/-! SUPPORT. What the operations of Machine/Tables.lean leave alone. -/

namespace Sys2Proof.Machine

theorem State.resetTables_outside {M : Touch} {r : State} {s : State} (hNums : M.Nums Nums18) (hTables : M.tables = true) (hHalter : M.halter = true) (hs : s.outside M = r) :
    (State.resetTables s).outside M = r := by
  unfold State.resetTables
  extract_lets +onlyGivenNames -merge -underBinder x0
  unfold x0
  clear x0
  extract_lets +onlyGivenNames -merge -underBinder x1
  have q2 : State.outside M x1 = r := by
    unfold x1
    rw [← hs]; simp only [State.outside, hTables, hHalter, cond_true]
  try clear_value x1
  refine State.wr_outside (hNums.at Key.fam_dlUnknown rfl) ?_
  refine State.wr_outside (hNums.at Key.fam_halterParityErr rfl) ?_
  refine State.wr_outside (hNums.at Key.fam_halterEvictions rfl) ?_
  refine State.wr_outside (hNums.at Key.fam_bridleParityErr rfl) ?_
  exact q2

theorem State.resetTables_keeps {s : State} : Kept50 s (State.resetTables s) :=
  .of (State.resetTables_outside rfl rfl rfl rfl)

theorem State.resetTables_rd {s : State} {kk : Nat} (hkey : Nums18.contains (Key.fam kk) = false) : (State.resetTables s).rd kk = s.rd kk :=
  State.rd_of_outside (M := .but Nums18) (State.resetTables_outside .self rfl rfl rfl) rfl hkey

theorem State.setWindow_outside {M : Touch} {r : State} {s : State} {who : Nat} {w : TpWindow} (hWindows : M.windows = true) (hs : s.outside M = r) :
    (State.setWindow s who w).outside M = r := by
  unfold State.setWindow
  extract_lets +onlyGivenNames -merge -underBinder x0
  unfold x0
  clear x0
  refine Eq.trans (State.outside_tables_windows (h0 := hWindows) ..) ?_
  exact hs

theorem State.setWindow_keeps {s : State} {who : Nat} {w : TpWindow} : Kept51 s (State.setWindow s who w) :=
  .of (State.setWindow_outside rfl rfl)

theorem State.tpDone_outside {M : Touch} {r : State} {s : State} {who : Nat} {code : Nat} {ret : Bytes} (hWindows : M.windows = true) (hEdges : M.edges = true) (hFlags : M.flags = true) (hs : s.outside M = r) :
    (State.tpDone s who code ret).outside M = r := by
  unfold State.tpDone
  extract_lets +onlyGivenNames -merge -underBinder x0
  try clear_value x0
  extract_lets +onlyGivenNames -merge -underBinder x1
  have q2 : State.outside M x1 = r := by
    unfold x1
    refine State.setWindow_outside hWindows ?_
    exact hs
  try clear_value x1
  refine ite_outside ?_ ?_
  · refine State.setCause_outside hFlags ?_
    exact q2
  · refine State.raise_outside hEdges ?_
    exact q2

theorem State.tpDone_keeps {s : State} {who : Nat} {code : Nat} {ret : Bytes} : Kept52 s (State.tpDone s who code ret) :=
  .of (State.tpDone_outside rfl rfl rfl rfl)

theorem State.setPrefixes_outside {M : Touch} {r : State} {s : State} {l : List Prefix} (hTables : M.tables = true) (hs : s.outside M = r) :
    (State.setPrefixes s l).outside M = r := by
  unfold State.setPrefixes
  extract_lets +onlyGivenNames -merge -underBinder x0
  unfold x0
  clear x0
  refine Eq.trans (State.outside_tables_tables (h0 := hTables) ..) ?_
  exact hs

theorem State.setPrefixes_keeps {s : State} {l : List Prefix} : Kept53 s (State.setPrefixes s l) :=
  .of (State.setPrefixes_outside rfl rfl)

theorem State.rewriteWords_outside {M : Touch} {r : State} {s : State} {ws : List (Nat × Nat)} (hTables : M.tables = true) (hs : s.outside M = r) :
    (State.rewriteWords s ws).outside M = r := by
  unfold State.rewriteWords
  extract_lets +onlyGivenNames -merge -underBinder x0
  unfold x0
  clear x0
  refine Eq.trans (State.outside_tables_tables (h0 := hTables) ..) ?_
  exact hs

theorem State.rewriteWords_keeps {s : State} {ws : List (Nat × Nat)} : Kept53 s (State.rewriteWords s ws) :=
  .of (State.rewriteWords_outside rfl rfl)

theorem State.brInsert_outside {M : Touch} {r : State} {s : State} {who : Nat} {p : Prefix} {rewritten : List (Nat × Nat)} (hTables : M.tables = true) (hWindows : M.windows = true) (hEdges : M.edges = true) (hFlags : M.flags = true) (hs : s.outside M = r) :
    (State.brInsert s who p rewritten).outside M = r := by
  unfold State.brInsert
  split
  · refine State.tpDone_outside hWindows hEdges hFlags ?_
    exact hs
  · refine ite_outside ?_ ?_
    · refine State.tpDone_outside hWindows hEdges hFlags ?_
      exact hs
    · split
      · extract_lets +onlyGivenNames -merge -underBinder x0
        try clear_value x0
        refine ite_outside ?_ ?_
        · refine State.tpDone_outside hWindows hEdges hFlags ?_
          refine State.rewriteWords_outside hTables ?_
          refine State.setPrefixes_outside hTables ?_
          exact hs
        · refine State.tpDone_outside hWindows hEdges hFlags ?_
          exact hs
      · refine ite_outside ?_ ?_
        · refine State.tpDone_outside hWindows hEdges hFlags ?_
          exact hs
        · refine ite_outside ?_ ?_
          · refine State.tpDone_outside hWindows hEdges hFlags ?_
            refine State.rewriteWords_outside hTables ?_
            refine State.setPrefixes_outside hTables ?_
            exact hs
          · refine State.tpDone_outside hWindows hEdges hFlags ?_
            exact hs

theorem State.brInsert_keeps {s : State} {who : Nat} {p : Prefix} {rewritten : List (Nat × Nat)} : Kept54 s (State.brInsert s who p rewritten) :=
  .of (State.brInsert_outside rfl rfl rfl rfl rfl)

theorem State.bridleBad_outside {M : Touch} {r : State} {s : State} {w : Nat × Nat} {inst : Nat} (hDict : M.dict = true) (hNums : M.Nums Nums17) (hLogs : M.logs = true) (hStraps : M.straps = true) (hJournal : M.journal = true) (hTables : M.tables = true) (hEdges : M.edges = true) (hFlags : M.flags = true) (hs : s.outside M = r) :
    (State.bridleBad s w inst).outside M = r := by
  unfold State.bridleBad
  extract_lets +onlyGivenNames -merge -underBinder x0
  have q1 : State.outside M x0 = r := by
    unfold x0
    refine State.memFound_outside hDict hNums hLogs hStraps hJournal hEdges hFlags ?_
    exact hs
  try clear_value x0
  extract_lets +onlyGivenNames -merge -underBinder x2
  try clear_value x2
  extract_lets +onlyGivenNames -merge -underBinder x3
  unfold x3
  clear x3
  refine ite_outside ?_ ?_
  · exact q1
  · refine ite_outside ?_ ?_
    · refine State.post_outside hDict (hNums.sub rfl) hLogs hStraps hJournal hEdges hFlags ?_
      refine Eq.trans (State.outside_tables_tables (h0 := hTables) ..) ?_
      exact q1
    · refine State.post_outside hDict (hNums.sub rfl) hLogs hStraps hJournal hEdges hFlags ?_
      exact q1

theorem State.bridleBad_keeps {s : State} {w : Nat × Nat} {inst : Nat} : Kept55 s (State.bridleBad s w inst) :=
  .of (State.bridleBad_outside rfl rfl rfl rfl rfl rfl rfl rfl rfl)

theorem State.bridleBad_rd {s : State} {w : Nat × Nat} {inst : Nat} {kk : Nat} (hkey : Nums17.contains (Key.fam kk) = false) : (State.bridleBad s w inst).rd kk = s.rd kk :=
  State.rd_of_outside (M := .but Nums17) (State.bridleBad_outside rfl .self rfl rfl rfl rfl rfl rfl rfl) rfl hkey

theorem State.bridleParity_outside {M : Touch} {r : State} {s : State} {w : Nat × Nat} {inst : Nat} (hDict : M.dict = true) (hNums : M.Nums Nums86) (hLogs : M.logs = true) (hStraps : M.straps = true) (hJournal : M.journal = true) (hTables : M.tables = true) (hEdges : M.edges = true) (hFlags : M.flags = true) (hs : s.outside M = r) :
    (State.bridleParity s w inst).outside M = r := by
  unfold State.bridleParity
  refine State.bridleBad_outside hDict (hNums.sub rfl) hLogs hStraps hJournal hTables hEdges hFlags ?_
  refine State.bump_outside (hNums.at Key.fam_bridleParityErr rfl) ?_
  exact hs

theorem State.bridleParity_keeps {s : State} {w : Nat × Nat} {inst : Nat} : Kept55 s (State.bridleParity s w inst) :=
  .of (State.bridleParity_outside rfl rfl rfl rfl rfl rfl rfl rfl rfl)

theorem State.bridleParity_rd {s : State} {w : Nat × Nat} {inst : Nat} {kk : Nat} (hkey : Nums86.contains (Key.fam kk) = false) : (State.bridleParity s w inst).rd kk = s.rd kk :=
  State.rd_of_outside (M := .but Nums86) (State.bridleParity_outside rfl .self rfl rfl rfl rfl rfl rfl rfl) rfl hkey

theorem State.halterFree_outside {M : Touch} {r : State} {s : State} {b : Nat} {p : HalterPlace} (hHalter : M.halter = true) (hs : s.outside M = r) :
    (State.halterFree s b p).outside M = r := by
  unfold State.halterFree
  split
  · extract_lets +onlyGivenNames -merge -underBinder x0
    unfold x0
    clear x0
    refine Eq.trans (State.outside_tables_halter (h0 := hHalter) ..) ?_
    exact hs
  · extract_lets +onlyGivenNames -merge -underBinder x1
    unfold x1
    clear x1
    refine Eq.trans (State.outside_tables_halter (h0 := hHalter) ..) ?_
    exact hs

theorem State.halterFree_keeps {s : State} {b : Nat} {p : HalterPlace} : Kept56 s (State.halterFree s b p) :=
  .of (State.halterFree_outside rfl rfl)

theorem State.halterParity_outside {M : Touch} {r : State} {s : State} {b : Nat} {p : HalterPlace} (hDict : M.dict = true) (hNums : M.Nums Nums100) (hLogs : M.logs = true) (hStraps : M.straps = true) (hJournal : M.journal = true) (hTables : M.tables = true) (hHalter : M.halter = true) (hEdges : M.edges = true) (hFlags : M.flags = true) (hs : s.outside M = r) :
    (State.halterParity s b p).outside M = r := by
  unfold State.halterParity
  split
  · extract_lets +onlyGivenNames -merge -underBinder x0
    try clear_value x0
    extract_lets +onlyGivenNames -merge -underBinder x1
    have q2 : State.outside M x1 = r := by
      unfold x1
      refine State.bump_outside (hNums.at Key.fam_halterParityErr rfl) ?_
      refine State.halterFree_outside hHalter ?_
      exact hs
    try clear_value x1
    extract_lets +onlyGivenNames -merge -underBinder x3
    unfold x3
    clear x3
    extract_lets +onlyGivenNames -merge -underBinder x4
    have q5 : State.outside M x4 = r := by
      unfold x4
      refine Eq.trans (State.outside_tables_tables (h0 := hTables) ..) ?_
      exact q2
    try clear_value x4
    refine ite_outside ?_ ?_
    · exact hs
    · refine State.post_outside hDict (hNums.sub rfl) hLogs hStraps hJournal hEdges hFlags ?_
      refine State.memFound_outside hDict (hNums.sub rfl) hLogs hStraps hJournal hEdges hFlags ?_
      exact q5
  · extract_lets +onlyGivenNames -merge -underBinder x6
    try clear_value x6
    split
    · exact hs
    · extract_lets +onlyGivenNames -merge -underBinder x7
      have q8 : State.outside M x7 = r := by
        unfold x7
        refine State.bump_outside (hNums.at Key.fam_halterParityErr rfl) ?_
        refine State.halterFree_outside hHalter ?_
        exact hs
      try clear_value x7
      extract_lets +onlyGivenNames -merge -underBinder x9
      unfold x9
      clear x9
      extract_lets +onlyGivenNames -merge -underBinder x10
      have q11 : State.outside M x10 = r := by
        unfold x10
        refine Eq.trans (State.outside_tables_tables (h0 := hTables) ..) ?_
        exact q8
      try clear_value x10
      refine State.post_outside hDict (hNums.sub rfl) hLogs hStraps hJournal hEdges hFlags ?_
      refine State.memFound_outside hDict (hNums.sub rfl) hLogs hStraps hJournal hEdges hFlags ?_
      exact q11

theorem State.halterParity_keeps {s : State} {b : Nat} {p : HalterPlace} : Kept57 s (State.halterParity s b p) :=
  .of (State.halterParity_outside rfl rfl rfl rfl rfl rfl rfl rfl rfl rfl)

theorem State.halterParity_rd {s : State} {b : Nat} {p : HalterPlace} {kk : Nat} (hkey : Nums100.contains (Key.fam kk) = false) : (State.halterParity s b p).rd kk = s.rd kk :=
  State.rd_of_outside (M := .but Nums100) (State.halterParity_outside rfl .self rfl rfl rfl rfl rfl rfl rfl rfl) rfl hkey

theorem State.halterCheck_outside {M : Touch} {r : State} {s : State} {b : Nat} {bad : Nat} (hDict : M.dict = true) (hNums : M.Nums Nums100) (hLogs : M.logs = true) (hStraps : M.straps = true) (hJournal : M.journal = true) (hTables : M.tables = true) (hHalter : M.halter = true) (hEdges : M.edges = true) (hFlags : M.flags = true) (hs : s.outside M = r) :
    (State.halterCheck s b bad).outside M = r := by
  unfold State.halterCheck
  extract_lets +onlyGivenNames -merge -underBinder x0
  have q1 : State.outside M x0 = r := by
    unfold x0
    refine State.each_outside ?_ ?_
    · intro t2 q3 z4
      refine State.halterParity_outside hDict hNums hLogs hStraps hJournal hTables hHalter hEdges hFlags ?_
      exact q3
    · exact hs
  try clear_value x0
  refine State.each_outside ?_ ?_
  · intro t5 q6 z7
    refine State.halterParity_outside hDict hNums hLogs hStraps hJournal hTables hHalter hEdges hFlags ?_
    exact q6
  · exact q1

theorem State.halterCheck_keeps {s : State} {b : Nat} {bad : Nat} : Kept57 s (State.halterCheck s b bad) :=
  .of (State.halterCheck_outside rfl rfl rfl rfl rfl rfl rfl rfl rfl rfl)

theorem State.halterCheck_rd {s : State} {b : Nat} {bad : Nat} {kk : Nat} (hkey : Nums100.contains (Key.fam kk) = false) : (State.halterCheck s b bad).rd kk = s.rd kk :=
  State.rd_of_outside (M := .but Nums100) (State.halterCheck_outside rfl .self rfl rfl rfl rfl rfl rfl rfl rfl) rfl hkey

theorem State.halterLook_outside {M : Touch} {r : State} {s : State} {t : Nat} {u : Nat} {bad : Nat} (hDict : M.dict = true) (hNums : M.Nums Nums100) (hLogs : M.logs = true) (hStraps : M.straps = true) (hJournal : M.journal = true) (hTables : M.tables = true) (hHalter : M.halter = true) (hEdges : M.edges = true) (hFlags : M.flags = true) (hs : s.outside M = r) :
    (State.halterLook s t u bad).1.outside M = r := by
  unfold State.halterLook
  extract_lets +onlyGivenNames -merge -underBinder x0
  have q1 : State.outside M x0 = r := by
    unfold x0
    refine State.halterCheck_outside hDict hNums hLogs hStraps hJournal hTables hHalter hEdges hFlags ?_
    exact hs
  try clear_value x0
  refine fst_outside ?_
  exact q1

theorem State.halterLook_keeps {s : State} {t : Nat} {u : Nat} {bad : Nat} : Kept57 s (State.halterLook s t u bad).1 :=
  .of (State.halterLook_outside rfl rfl rfl rfl rfl rfl rfl rfl rfl rfl)

theorem State.halterLook_rd {s : State} {t : Nat} {u : Nat} {bad : Nat} {kk : Nat} (hkey : Nums100.contains (Key.fam kk) = false) : (State.halterLook s t u bad).1.rd kk = s.rd kk :=
  State.rd_of_outside (M := .but Nums100) (State.halterLook_outside rfl .self rfl rfl rfl rfl rfl rfl rfl rfl) rfl hkey

theorem State.halterPut_outside {M : Touch} {r : State} {s : State} {b : Nat} {p : HalterPlace} {e : HalterEntry} (hTables : M.tables = true) (hHalter : M.halter = true) (hs : s.outside M = r) :
    (State.halterPut s b p e).outside M = r := by
  unfold State.halterPut
  split
  · extract_lets +onlyGivenNames -merge -underBinder x0
    unfold x0
    clear x0
    rw [← hs]; simp only [State.outside, hHalter, hTables, cond_true]
  · extract_lets +onlyGivenNames -merge -underBinder x1
    try clear_value x1
    extract_lets +onlyGivenNames -merge -underBinder x2
    unfold x2
    clear x2
    rw [← hs]; simp only [State.outside, hHalter, hTables, cond_true]

theorem State.halterPut_keeps {s : State} {b : Nat} {p : HalterPlace} {e : HalterEntry} : Kept58 s (State.halterPut s b p e) :=
  .of (State.halterPut_outside rfl rfl rfl)

theorem State.notice_outside {M : Touch} {r : State} {s : State} {kind : Nat} {tenant : Nat} {eui : Nat} {short : Nat} {parent : Nat} {old : Option HalterEntry} (hNums : M.Nums Nums1) (hStraps : M.straps = true) (hFlags : M.flags = true) (hs : s.outside M = r) :
    (State.notice s kind tenant eui short parent old).outside M = r := by
  unfold State.notice
  extract_lets +onlyGivenNames -merge -underBinder x0
  try clear_value x0
  split
  · refine State.strapPush_outside hNums hStraps hFlags ?_
    exact hs

theorem State.notice_keeps {s : State} {kind : Nat} {tenant : Nat} {eui : Nat} {short : Nat} {parent : Nat} {old : Option HalterEntry} : Kept6 s (State.notice s kind tenant eui short parent old) :=
  .of (State.notice_outside rfl rfl rfl rfl)

theorem State.notice_rd {s : State} {kind : Nat} {tenant : Nat} {eui : Nat} {short : Nat} {parent : Nat} {old : Option HalterEntry} {kk : Nat} (hkey : Nums1.contains (Key.fam kk) = false) : (State.notice s kind tenant eui short parent old).rd kk = s.rd kk :=
  State.rd_of_outside (M := .but Nums1) (State.notice_outside .self rfl rfl rfl) rfl hkey

theorem State.learnNotice_outside {M : Touch} {r : State} {s : State} {kind : Nat} {tenant : Nat} {eui : Nat} {short : Nat} {parent : Nat} {old : Option HalterEntry} (hNums : M.Nums Nums1) (hStraps : M.straps = true) (hTables : M.tables = true) (hFlags : M.flags = true) (hs : s.outside M = r) :
    (State.learnNotice s kind tenant eui short parent old).outside M = r := by
  unfold State.learnNotice
  extract_lets +onlyGivenNames -merge -underBinder x0
  try clear_value x0
  extract_lets +onlyGivenNames -merge -underBinder x1
  try clear_value x1
  extract_lets +onlyGivenNames -merge -underBinder x2
  try clear_value x2
  extract_lets +onlyGivenNames -merge -underBinder x3
  unfold x3
  clear x3
  refine ite_outside ?_ ?_
  · exact hs
  · refine ite_outside ?_ ?_
    · exact hs
    · refine State.notice_outside hNums hStraps hFlags ?_
      refine Eq.trans (State.outside_tables_tables (h0 := hTables) ..) ?_
      exact hs

theorem State.learnNotice_keeps {s : State} {kind : Nat} {tenant : Nat} {eui : Nat} {short : Nat} {parent : Nat} {old : Option HalterEntry} : Kept59 s (State.learnNotice s kind tenant eui short parent old) :=
  .of (State.learnNotice_outside rfl rfl rfl rfl rfl)

theorem State.learnNotice_rd {s : State} {kind : Nat} {tenant : Nat} {eui : Nat} {short : Nat} {parent : Nat} {old : Option HalterEntry} {kk : Nat} (hkey : Nums1.contains (Key.fam kk) = false) : (State.learnNotice s kind tenant eui short parent old).rd kk = s.rd kk :=
  State.rd_of_outside (M := .but Nums1) (State.learnNotice_outside .self rfl rfl rfl rfl) rfl hkey

theorem State.learn_outside {M : Touch} {r : State} {s : State} {a0 : Nat} {tenant : Nat} {eui : Nat} {parent : Nat} {bad : Nat} (hDict : M.dict = true) (hNums : M.Nums Nums100) (hLogs : M.logs = true) (hStraps : M.straps = true) (hJournal : M.journal = true) (hTables : M.tables = true) (hHalter : M.halter = true) (hEdges : M.edges = true) (hFlags : M.flags = true) (hs : s.outside M = r) :
    (State.learn s a0 tenant eui parent bad).outside M = r := by
  unfold State.learn
  refine ite_outside ?_ ?_
  · exact hs
  · split
    · rename_i t1 t3 e4
      have q2 : State.outside M t1 = r := by
        refine Eq.trans (congrArg (fun p => State.outside M p.1) e4).symm ?_
        refine State.halterLook_outside hDict hNums hLogs hStraps hJournal hTables hHalter hEdges hFlags ?_
        exact hs
      split
      · refine State.learnNotice_outside (hNums.sub rfl) hStraps hTables hFlags ?_
        exact q2
      · refine ite_outside ?_ ?_
        · refine State.learnNotice_outside (hNums.sub rfl) hStraps hTables hFlags ?_
          exact q2
        · refine ite_outside ?_ ?_
          · refine State.learnNotice_outside (hNums.sub rfl) hStraps hTables hFlags ?_
            exact q2
          · split
            · refine ite_outside ?_ ?_
              · exact q2
              · refine State.halterPut_outside hTables hHalter ?_
                exact q2
            · exact q2

theorem State.learn_keeps {s : State} {a0 : Nat} {tenant : Nat} {eui : Nat} {parent : Nat} {bad : Nat} : Kept57 s (State.learn s a0 tenant eui parent bad) :=
  .of (State.learn_outside rfl rfl rfl rfl rfl rfl rfl rfl rfl rfl)

theorem State.learn_rd {s : State} {a0 : Nat} {tenant : Nat} {eui : Nat} {parent : Nat} {bad : Nat} {kk : Nat} (hkey : Nums100.contains (Key.fam kk) = false) : (State.learn s a0 tenant eui parent bad).rd kk = s.rd kk :=
  State.rd_of_outside (M := .but Nums100) (State.learn_outside rfl .self rfl rfl rfl rfl rfl rfl rfl rfl) rfl hkey

theorem State.victim_outside {M : Touch} {r : State} {s : State} {b : Nat} (hHalter : M.halter = true) (hs : s.outside M = r) :
    (State.victim s b).2.outside M = r := by
  unfold State.victim
  extract_lets +onlyGivenNames -merge -underBinder x0
  try clear_value x0
  extract_lets +onlyGivenNames -merge -underBinder x1
  try clear_value x1
  extract_lets +onlyGivenNames -merge -underBinder x2
  try clear_value x2
  extract_lets +onlyGivenNames -merge -underBinder x3
  unfold x3
  clear x3
  refine ite_snd_outside ?_ ?_
  · refine snd_outside ?_
    exact hs
  · refine snd_outside ?_
    refine Eq.trans (State.outside_tables_halter (h0 := hHalter) ..) ?_
    exact hs

theorem State.haInsert_outside {M : Touch} {r : State} {s : State} {who : Nat} {u : Nat} {e : HalterEntry} {noEvict : Bool} (hNums : M.Nums Nums124) (hStraps : M.straps = true) (hTables : M.tables = true) (hWindows : M.windows = true) (hHalter : M.halter = true) (hEdges : M.edges = true) (hFlags : M.flags = true) (hs : s.outside M = r) :
    (State.haInsert s who u e noEvict).outside M = r := by
  unfold State.haInsert
  extract_lets +onlyGivenNames -merge -underBinder x0
  try clear_value x0
  split
  · refine State.tpDone_outside hWindows hEdges hFlags ?_
    refine State.halterPut_outside hTables hHalter ?_
    exact hs
  · split
    · refine State.tpDone_outside hWindows hEdges hFlags ?_
      refine State.halterPut_outside hTables hHalter ?_
      exact hs
    · split
      · refine State.tpDone_outside hWindows hEdges hFlags ?_
        refine State.halterPut_outside hTables hHalter ?_
        exact hs
      · extract_lets +onlyGivenNames -merge -underBinder x1
        have q2 : State.outside M x1.2 = r := by
          unfold x1
          refine State.victim_outside hHalter ?_
          exact hs
        try clear_value x1
        refine ite_outside ?_ ?_
        · refine State.tpDone_outside hWindows hEdges hFlags ?_
          exact hs
        · split
          · extract_lets +onlyGivenNames -merge -underBinder x3
            have q4 : State.outside M x3 = r := by
              unfold x3
              refine State.bump_outside (hNums.at Key.fam_halterEvictions rfl) ?_
              refine State.notice_outside (hNums.sub rfl) hStraps hFlags ?_
              exact q2
            try clear_value x3
            refine State.tpDone_outside hWindows hEdges hFlags ?_
            refine State.halterPut_outside hTables hHalter ?_
            exact q4
          · refine State.tpDone_outside hWindows hEdges hFlags ?_
            refine State.halterPut_outside hTables hHalter ?_
            exact q2

theorem State.haInsert_keeps {s : State} {who : Nat} {u : Nat} {e : HalterEntry} {noEvict : Bool} : Kept60 s (State.haInsert s who u e noEvict) :=
  .of (State.haInsert_outside rfl rfl rfl rfl rfl rfl rfl rfl)

theorem State.haInsert_rd {s : State} {who : Nat} {u : Nat} {e : HalterEntry} {noEvict : Bool} {kk : Nat} (hkey : Nums124.contains (Key.fam kk) = false) : (State.haInsert s who u e noEvict).rd kk = s.rd kk :=
  State.rd_of_outside (M := .but Nums124) (State.haInsert_outside .self rfl rfl rfl rfl rfl rfl rfl) rfl hkey

theorem State.pullOverflow_outside {M : Touch} {r : State} {s : State} {b : Nat} {w : Nat} (hTables : M.tables = true) (hHalter : M.halter = true) (hs : s.outside M = r) :
    (State.pullOverflow s b w).outside M = r := by
  unfold State.pullOverflow
  split
  · split
    · refine State.halterFree_outside hHalter ?_
      refine State.halterPut_outside hTables hHalter ?_
      exact hs
    · exact hs
  · exact hs

theorem State.pullOverflow_keeps {s : State} {b : Nat} {w : Nat} : Kept58 s (State.pullOverflow s b w) :=
  .of (State.pullOverflow_outside rfl rfl rfl)

theorem State.tpTaken_outside {M : Touch} {r : State} {s : State} (hTables : M.tables = true) (hs : s.outside M = r) :
    (State.tpTaken s).outside M = r := by
  unfold State.tpTaken
  extract_lets +onlyGivenNames -merge -underBinder x0
  unfold x0
  clear x0
  refine Eq.trans (State.outside_tables_tables (h0 := hTables) ..) ?_
  exact hs

theorem State.tpTaken_keeps {s : State} : Kept53 s (State.tpTaken s) :=
  .of (State.tpTaken_outside rfl rfl)

theorem State.tpRead_outside {M : Touch} {r : State} {s : State} {op : Nat} {f : State → Nat → Bytes → State} (hTables : M.tables = true) (hFfun : ∀ u0 : State, State.outside M u0 = r → ∀ u1, ∀ u2, State.outside M (f u0 u1 u2) = r) (hs : s.outside M = r) :
    (State.tpRead s op f).outside M = r := by
  unfold State.tpRead
  split
  · refine hFfun _ ?_ _ _
    refine State.tpTaken_outside hTables ?_
    exact hs
  · exact hs

theorem State.tpRun_outside {M : Touch} {r : State} {s : State} {op : Nat} {f : State → Nat → Bytes → State} (hTables : M.tables = true) (hWindows : M.windows = true) (hEdges : M.edges = true) (hFlags : M.flags = true) (hFfun : ∀ u0 : State, State.outside M u0 = r → ∀ u1, ∀ u2, State.outside M (f u0 u1 u2) = r) (hs : s.outside M = r) :
    (State.tpRun s op f).outside M = r := by
  unfold State.tpRun
  split
  · refine ite_outside ?_ ?_
    · refine State.tpDone_outside hWindows hEdges hFlags ?_
      refine State.tpTaken_outside hTables ?_
      exact hs
    · refine hFfun _ ?_ _ _
      refine State.tpTaken_outside hTables ?_
      exact hs
  · exact hs

theorem execBrInsert_outside {M : Touch} {r : State} {rewritten : List (Nat × Nat)} {s : State} (hTables : M.tables = true) (hWindows : M.windows = true) (hEdges : M.edges = true) (hFlags : M.flags = true) (hs : s.outside M = r) :
    NextOutside M r (execBrInsert rewritten s) := by
  unfold execBrInsert
  refine next_outside ?_
  refine State.tpRun_outside hTables hWindows hEdges hFlags ?_ ?_
  · intro t0 q1 z2 z3
    refine ite_outside ?_ ?_
    · refine State.tpDone_outside hWindows hEdges hFlags ?_
      exact q1
    · refine State.brInsert_outside hTables hWindows hEdges hFlags ?_
      exact q1
  · exact hs

theorem execHaDelete_outside {M : Touch} {r : State} {bad : Nat} {s : State} (hDict : M.dict = true) (hNums : M.Nums Nums100) (hLogs : M.logs = true) (hStraps : M.straps = true) (hJournal : M.journal = true) (hTables : M.tables = true) (hWindows : M.windows = true) (hHalter : M.halter = true) (hEdges : M.edges = true) (hFlags : M.flags = true) (hs : s.outside M = r) :
    NextOutside M r (execHaDelete bad s) := by
  unfold execHaDelete
  refine next_outside ?_
  refine State.tpRun_outside hTables hWindows hEdges hFlags ?_ ?_
  · intro t0 q1 z2 z3
    extract_lets +onlyGivenNames -merge -underBinder x4
    try clear_value x4
    extract_lets +onlyGivenNames -merge -underBinder x5
    have q6 : State.outside M x5 = r := by
      unfold x5
      refine State.halterCheck_outside hDict hNums hLogs hStraps hJournal hTables hHalter hEdges hFlags ?_
      exact q1
    try clear_value x5
    split
    · refine State.tpDone_outside hWindows hEdges hFlags ?_
      refine State.pullOverflow_outside hTables hHalter ?_
      refine State.halterFree_outside hHalter ?_
      exact q6
    · refine State.tpDone_outside hWindows hEdges hFlags ?_
      refine State.halterFree_outside hHalter ?_
      exact q6
    · refine State.tpDone_outside hWindows hEdges hFlags ?_
      exact q6
  · exact hs

theorem execBrRead_outside {M : Touch} {r : State} {bad : Option (Nat × Nat)} {s : State} (hDict : M.dict = true) (hNums : M.Nums Nums17) (hLogs : M.logs = true) (hStraps : M.straps = true) (hJournal : M.journal = true) (hTables : M.tables = true) (hWindows : M.windows = true) (hEdges : M.edges = true) (hFlags : M.flags = true) (hs : s.outside M = r) :
    NextOutside M r (execBrRead bad s) := by
  unfold execBrRead
  refine next_outside ?_
  refine State.tpRead_outside hTables ?_ ?_
  · intro t0 q1 z2 z3
    refine ite_outside ?_ ?_
    · refine State.tpDone_outside hWindows hEdges hFlags ?_
      exact q1
    · split
      · refine State.tpDone_outside hWindows hEdges hFlags ?_
        exact q1
      · split
        · refine State.tpDone_outside hWindows hEdges hFlags ?_
          refine State.bridleBad_outside hDict hNums hLogs hStraps hJournal hTables hEdges hFlags ?_
          exact q1
        · split
          · refine State.tpDone_outside hWindows hEdges hFlags ?_
            exact q1
          · refine State.tpDone_outside hWindows hEdges hFlags ?_
            exact q1
  · exact hs

theorem execHaInsert_outside {M : Touch} {r : State} {bad : Nat} {s : State} (hDict : M.dict = true) (hNums : M.Nums Nums160) (hLogs : M.logs = true) (hStraps : M.straps = true) (hJournal : M.journal = true) (hTables : M.tables = true) (hWindows : M.windows = true) (hHalter : M.halter = true) (hEdges : M.edges = true) (hFlags : M.flags = true) (hs : s.outside M = r) :
    NextOutside M r (execHaInsert bad s) := by
  unfold execHaInsert
  refine next_outside ?_
  refine State.tpRun_outside hTables hWindows hEdges hFlags ?_ ?_
  · intro t0 q1 z2 z3
    extract_lets +onlyGivenNames -merge -underBinder x4
    try clear_value x4
    extract_lets +onlyGivenNames -merge -underBinder x5
    try clear_value x5
    extract_lets +onlyGivenNames -merge -underBinder x6
    try clear_value x6
    refine ite_outside ?_ ?_
    · refine State.tpDone_outside hWindows hEdges hFlags ?_
      exact q1
    · refine State.haInsert_outside (hNums.sub rfl) hStraps hTables hWindows hHalter hEdges hFlags ?_
      refine State.halterCheck_outside hDict (hNums.sub rfl) hLogs hStraps hJournal hTables hHalter hEdges hFlags ?_
      exact q1
  · exact hs

theorem execHaRead_outside {M : Touch} {r : State} {bad : Nat} {s : State} (hDict : M.dict = true) (hNums : M.Nums Nums100) (hLogs : M.logs = true) (hStraps : M.straps = true) (hJournal : M.journal = true) (hTables : M.tables = true) (hWindows : M.windows = true) (hHalter : M.halter = true) (hEdges : M.edges = true) (hFlags : M.flags = true) (hs : s.outside M = r) :
    NextOutside M r (execHaRead bad s) := by
  unfold execHaRead
  refine next_outside ?_
  refine State.tpRead_outside hTables ?_ ?_
  · intro t0 q1 z2 z3
    extract_lets +onlyGivenNames -merge -underBinder x4
    try clear_value x4
    extract_lets +onlyGivenNames -merge -underBinder x5
    try clear_value x5
    extract_lets +onlyGivenNames -merge -underBinder x6
    have q7 : State.outside M x6 = r := by
      unfold x6
      refine State.halterCheck_outside hDict hNums hLogs hStraps hJournal hTables hHalter hEdges hFlags ?_
      exact q1
    try clear_value x6
    split
    · extract_lets +onlyGivenNames -merge -underBinder x8
      try clear_value x8
      refine State.tpDone_outside hWindows hEdges hFlags ?_
      exact q7
    · refine State.tpDone_outside hWindows hEdges hFlags ?_
      exact q7
  · exact hs

theorem execBrDelete_outside {M : Touch} {r : State} {rewritten : List (Nat × Nat)} {s : State} (hTables : M.tables = true) (hWindows : M.windows = true) (hEdges : M.edges = true) (hFlags : M.flags = true) (hs : s.outside M = r) :
    NextOutside M r (execBrDelete rewritten s) := by
  unfold execBrDelete
  refine next_outside ?_
  refine State.tpRun_outside hTables hWindows hEdges hFlags ?_ ?_
  · intro t0 q1 z2 z3
    refine ite_outside ?_ ?_
    · refine State.tpDone_outside hWindows hEdges hFlags ?_
      exact q1
    · split
      · refine State.tpDone_outside hWindows hEdges hFlags ?_
        exact q1
      · split
        · refine State.tpDone_outside hWindows hEdges hFlags ?_
          refine State.rewriteWords_outside hTables ?_
          refine State.setPrefixes_outside hTables ?_
          exact q1
        · refine State.tpDone_outside hWindows hEdges hFlags ?_
          exact q1
  · exact hs

theorem execClWrite_outside {M : Touch} {r : State} {s : State} (hTables : M.tables = true) (hWindows : M.windows = true) (hEdges : M.edges = true) (hFlags : M.flags = true) (hs : s.outside M = r) :
    NextOutside M r (execClWrite s) := by
  unfold execClWrite
  refine next_outside ?_
  refine State.tpRun_outside hTables hWindows hEdges hFlags ?_ ?_
  · intro t0 q1 z2 z3
    extract_lets +onlyGivenNames -merge -underBinder x4
    try clear_value x4
    extract_lets +onlyGivenNames -merge -underBinder x5
    try clear_value x5
    extract_lets +onlyGivenNames -merge -underBinder x6
    unfold x6
    clear x6
    refine ite_outside ?_ ?_
    · refine State.tpDone_outside hWindows hEdges hFlags ?_
      exact q1
    · refine State.tpDone_outside hWindows hEdges hFlags ?_
      refine Eq.trans (State.outside_tables_tables (h0 := hTables) ..) ?_
      exact q1
  · exact hs

theorem execHalterAgeing_outside {M : Touch} {r : State} {dt : Nat} {s : State} (hClock : M.clock = true) (hVbat : M.vbat = true) (hTables : M.tables = true) (hHalter : M.halter = true) (hs : s.outside M = r) :
    NextOutside M r (execHalterAgeing dt s) := by
  unfold execHalterAgeing
  extract_lets +onlyGivenNames -merge -underBinder x0
  have q1 : State.outside M x0 = r := by
    unfold x0
    refine State.advance_outside hClock hVbat ?_
    exact hs
  try clear_value x0
  extract_lets +onlyGivenNames -merge -underBinder x2
  try clear_value x2
  extract_lets +onlyGivenNames -merge -underBinder x3
  unfold x3
  clear x3
  refine next_outside ?_
  refine ite_outside ?_ ?_
  · exact q1
  · rw [← q1]; simp only [State.outside, hHalter, hTables, cond_true]

theorem execBrFlush_outside {M : Touch} {r : State} {rewritten : List (Nat × Nat)} {s : State} (hTables : M.tables = true) (hWindows : M.windows = true) (hEdges : M.edges = true) (hFlags : M.flags = true) (hs : s.outside M = r) :
    NextOutside M r (execBrFlush rewritten s) := by
  unfold execBrFlush
  refine next_outside ?_
  refine State.tpRun_outside hTables hWindows hEdges hFlags ?_ ?_
  · intro t0 q1 z2 z3
    extract_lets +onlyGivenNames -merge -underBinder x4
    try clear_value x4
    refine ite_outside ?_ ?_
    · refine State.tpDone_outside hWindows hEdges hFlags ?_
      exact q1
    · refine State.tpDone_outside hWindows hEdges hFlags ?_
      refine State.rewriteWords_outside hTables ?_
      refine State.setPrefixes_outside hTables ?_
      exact q1
  · exact hs

theorem execNhWrite_outside {M : Touch} {r : State} {s : State} (hTables : M.tables = true) (hWindows : M.windows = true) (hEdges : M.edges = true) (hFlags : M.flags = true) (hs : s.outside M = r) :
    NextOutside M r (execNhWrite s) := by
  unfold execNhWrite
  refine next_outside ?_
  refine State.tpRun_outside hTables hWindows hEdges hFlags ?_ ?_
  · intro t0 q1 z2 z3
    extract_lets +onlyGivenNames -merge -underBinder x4
    try clear_value x4
    extract_lets +onlyGivenNames -merge -underBinder x5
    try clear_value x5
    extract_lets +onlyGivenNames -merge -underBinder x6
    try clear_value x6
    extract_lets +onlyGivenNames -merge -underBinder x7
    unfold x7
    clear x7
    refine ite_outside ?_ ?_
    · refine State.tpDone_outside hWindows hEdges hFlags ?_
      exact q1
    · refine State.tpDone_outside hWindows hEdges hFlags ?_
      refine Eq.trans (State.outside_tables_tables (h0 := hTables) ..) ?_
      exact q1
  · exact hs

theorem execHaReadBucket_outside {M : Touch} {r : State} {bad : Nat} {s : State} (hDict : M.dict = true) (hNums : M.Nums Nums100) (hLogs : M.logs = true) (hStraps : M.straps = true) (hJournal : M.journal = true) (hTables : M.tables = true) (hWindows : M.windows = true) (hHalter : M.halter = true) (hEdges : M.edges = true) (hFlags : M.flags = true) (hs : s.outside M = r) :
    NextOutside M r (execHaReadBucket bad s) := by
  unfold execHaReadBucket
  refine next_outside ?_
  refine State.tpRead_outside hTables ?_ ?_
  · intro t0 q1 z2 z3
    extract_lets +onlyGivenNames -merge -underBinder x4
    try clear_value x4
    extract_lets +onlyGivenNames -merge -underBinder x5
    try clear_value x5
    extract_lets +onlyGivenNames -merge -underBinder x6
    try clear_value x6
    extract_lets +onlyGivenNames -merge -underBinder x7
    try clear_value x7
    extract_lets +onlyGivenNames -merge -underBinder x8
    have q9 : State.outside M x8 = r := by
      unfold x8
      refine State.halterCheck_outside hDict hNums hLogs hStraps hJournal hTables hHalter hEdges hFlags ?_
      exact q1
    try clear_value x8
    refine ite_outside ?_ ?_
    · refine State.tpDone_outside hWindows hEdges hFlags ?_
      exact q9
    · refine State.tpDone_outside hWindows hEdges hFlags ?_
      exact q9
  · exact hs

end Sys2Proof.Machine
end

