-- ==== Sys2Proof/Laws/Frame/Awl.lean ====
section
/-! SUPPORT. What the operations of Machine/Awl.lean leave alone. -/

namespace Sys2Proof.Machine

theorem State.setCore_outside {M : Touch} {r : State} {s : State} {n : Nat} {c : Core} (hCores : M.cores = true) (hs : s.outside M = r) :
    (State.setCore s n c).outside M = r := by
  unfold State.setCore
  extract_lets +onlyGivenNames -merge -underBinder x0
  unfold x0
  clear x0
  refine Eq.trans (State.outside_cores_cores (h0 := hCores) ..) ?_
  exact hs

theorem State.setCore_keeps {s : State} {n : Nat} {c : Core} : Kept97 s (State.setCore s n c) :=
  .of (State.setCore_outside rfl rfl)

theorem State.coreWarm_outside {M : Touch} {r : State} {s : State} {n : Nat} (hNums : M.Nums Nums39) (hCores : M.cores = true) (hs : s.outside M = r) :
    (State.coreWarm s n).outside M = r := by
  unfold State.coreWarm
  extract_lets +onlyGivenNames -merge -underBinder x0
  try clear_value x0
  extract_lets +onlyGivenNames -merge -underBinder x1
  have q2 : State.outside M x1 = r := by
    unfold x1
    refine State.wr_outside (hNums.at Key.fam_coreStoresLost rfl) ?_
    exact hs
  try clear_value x1
  extract_lets +onlyGivenNames -merge -underBinder x3
  try clear_value x3
  refine State.setCore_outside hCores ?_
  exact q2

theorem State.coreWarm_keeps {s : State} {n : Nat} : Kept98 s (State.coreWarm s n) :=
  .of (State.coreWarm_outside rfl rfl rfl)

theorem State.coreWarm_rd {s : State} {n : Nat} {kk : Nat} (hkey : Nums39.contains (Key.fam kk) = false) : (State.coreWarm s n).rd kk = s.rd kk :=
  State.rd_of_outside (M := .but Nums39) (State.coreWarm_outside .self rfl rfl) rfl hkey

theorem State.corePost_outside {M : Touch} {r : State} {s : State} {c : Err} {n : Nat} {sev : Nat} {arg : Nat} {arg2 : Nat} (hDict : M.dict = true) (hNums : M.Nums Nums2) (hLogs : M.logs = true) (hStraps : M.straps = true) (hJournal : M.journal = true) (hEdges : M.edges = true) (hFlags : M.flags = true) (hs : s.outside M = r) :
    (State.corePost s c n sev arg arg2).outside M = r := by
  unfold State.corePost
  refine State.postSev_outside hDict hNums hLogs hStraps hJournal hEdges hFlags ?_
  exact hs

theorem State.corePost_keeps {s : State} {c : Err} {n : Nat} {sev : Nat} {arg : Nat} {arg2 : Nat} : Kept8 s (State.corePost s c n sev arg arg2) :=
  .of (State.corePost_outside rfl rfl rfl rfl rfl rfl rfl rfl)

theorem State.corePost_rd {s : State} {c : Err} {n : Nat} {sev : Nat} {arg : Nat} {arg2 : Nat} {kk : Nat} (hkey : Nums2.contains (Key.fam kk) = false) : (State.corePost s c n sev arg arg2).rd kk = s.rd kk :=
  State.rd_of_outside (M := .but Nums2) (State.corePost_outside rfl .self rfl rfl rfl rfl rfl rfl) rfl hkey

theorem State.setCoreIsl_outside {M : Touch} {r : State} {s : State} {n : Nat} {i : Islands} (hPower : M.power = true) (hs : s.outside M = r) :
    (State.setCoreIsl s n i).outside M = r := by
  unfold State.setCoreIsl
  extract_lets +onlyGivenNames -merge -underBinder x0
  try clear_value x0
  refine Eq.trans (State.outside_power (h0 := hPower) ..) ?_
  exact hs

theorem State.setCoreIsl_keeps {s : State} {n : Nat} {i : Islands} : Kept99 s (State.setCoreIsl s n i) :=
  .of (State.setCoreIsl_outside rfl rfl)

theorem State.setIsland_outside {M : Touch} {r : State} {s : State} {n : Nat} {on : Bool} (hPower : M.power = true) (hs : s.outside M = r) :
    (State.setIsland s n on).outside M = r := by
  unfold State.setIsland
  refine State.setCoreIsl_outside hPower ?_
  exact hs

theorem State.setIsland_keeps {s : State} {n : Nat} {on : Bool} : Kept99 s (State.setIsland s n on) :=
  .of (State.setIsland_outside rfl rfl)

theorem State.localPut_outside {M : Touch} {r : State} {s : State} {n : Nat} {a : Nat} {bs : Bytes} (hLocals : M.Locals r) (hs : s.outside M = r) :
    (State.localPut s n a bs).outside M = r := by
  refine State.outside_cores_locals hLocals (fun h => ?_) hs
  generalize List.range bs.length = l
  generalize s.cores.mem = m at h
  induction l generalizing m with
  | nil => exact h
  | cons i l ih => exact ih _ (KMap.canon_setD _ _ h)

theorem State.localPut_keeps {s : State} {n : Nat} {a : Nat} {bs : Bytes} : Kept100 s (State.localPut s n a bs) :=
  .of (State.localPut_outside (.free rfl rfl) rfl)

theorem State.localStore_outside {M : Touch} {r : State} {s : State} {n : Nat} {a : Nat} {bs : Bytes} (hCores : M.cores = true) (hLocals : M.Locals r) (hs : s.outside M = r) :
    (State.localStore s n a bs).outside M = r := by
  unfold State.localStore
  extract_lets +onlyGivenNames -merge -underBinder x0
  have q1 : State.outside M x0 = r := by
    unfold x0
    refine State.localPut_outside hLocals ?_
    exact hs
  try clear_value x0
  extract_lets +onlyGivenNames -merge -underBinder x2
  unfold x2
  clear x2
  refine Eq.trans (State.outside_cores_cores (h0 := hCores) ..) ?_
  exact q1

theorem State.localStore_keeps {s : State} {n : Nat} {a : Nat} {bs : Bytes} : Kept101 s (State.localStore s n a bs) :=
  .of (State.localStore_outside rfl (.free rfl rfl) rfl)

theorem State.drainOne_outside {M : Touch} {r : State} {s : State} {n : Nat} (hCores : M.cores = true) (hLocals : M.Locals r) (hs : s.outside M = r) :
    (State.drainOne s n).outside M = r := by
  unfold State.drainOne
  extract_lets +onlyGivenNames -merge -underBinder x0
  try clear_value x0
  split
  · exact hs
  · refine State.localStore_outside hCores hLocals ?_
    refine State.setCore_outside hCores ?_
    exact hs

theorem State.drainOne_keeps {s : State} {n : Nat} : Kept101 s (State.drainOne s n) :=
  .of (State.drainOne_outside rfl (.free rfl rfl) rfl)

theorem State.drainAll_outside {M : Touch} {r : State} {s : State} {n : Nat} (hCores : M.cores = true) (hLocals : M.Locals r) (hs : s.outside M = r) :
    (State.drainAll s n).outside M = r := by
  unfold State.drainAll
  refine State.each_outside ?_ ?_
  · intro t0 q1 z2
    refine State.drainOne_outside hCores hLocals ?_
    exact q1
  · exact hs

theorem State.drainAll_keeps {s : State} {n : Nat} : Kept101 s (State.drainAll s n) :=
  .of (State.drainAll_outside rfl (.free rfl rfl) rfl)

theorem State.doubleFault_outside {M : Touch} {r : State} {s : State} {n : Nat} (hDict : M.dict = true) (hNums : M.Nums Nums46) (hLogs : M.logs = true) (hStraps : M.straps = true) (hJournal : M.journal = true) (hCores : M.cores = true) (hLocals : M.Locals r) (hEdges : M.edges = true) (hFlags : M.flags = true) (hs : s.outside M = r) :
    (State.doubleFault s n).outside M = r := by
  unfold State.doubleFault
  extract_lets +onlyGivenNames -merge -underBinder x0
  have q1 : State.outside M x0 = r := by
    unfold x0
    refine State.wr_outside (hNums.at Key.fam_coreState rfl) ?_
    refine State.drainAll_outside hCores hLocals ?_
    exact hs
  try clear_value x0
  extract_lets +onlyGivenNames -merge -underBinder x2
  try clear_value x2
  refine State.corePost_outside hDict (hNums.sub rfl) hLogs hStraps hJournal hEdges hFlags ?_
  exact q1

theorem State.doubleFault_keeps {s : State} {n : Nat} : Kept102 s (State.doubleFault s n) :=
  .of (State.doubleFault_outside rfl rfl rfl rfl rfl rfl (.free rfl rfl) rfl rfl rfl)

theorem State.doubleFault_rd {s : State} {n : Nat} {kk : Nat} (hkey : Nums46.contains (Key.fam kk) = false) : (State.doubleFault s n).rd kk = s.rd kk :=
  State.rd_of_outside (M := .but Nums46) (State.doubleFault_outside rfl .self rfl rfl rfl rfl (.free rfl rfl) rfl rfl rfl) rfl hkey

theorem State.except_outside {M : Touch} {r : State} {s : State} {n : Nat} {cause : Nat} {xpc : Word} {xaddr : Word} {xword : Word} (hDict : M.dict = true) (hNums : M.Nums Nums47) (hLogs : M.logs = true) (hStraps : M.straps = true) (hJournal : M.journal = true) (hCores : M.cores = true) (hLocals : M.Locals r) (hEdges : M.edges = true) (hFlags : M.flags = true) (hs : s.outside M = r) :
    (State.except s n cause xpc xaddr xword).1.outside M = r := by
  unfold State.except
  extract_lets +onlyGivenNames -merge -underBinder x0
  try clear_value x0
  refine ite_fst_outside ?_ ?_
  · refine fst_outside ?_
    refine State.doubleFault_outside hDict (hNums.sub rfl) hLogs hStraps hJournal hCores hLocals hEdges hFlags ?_
    exact hs
  · refine fst_outside ?_
    refine State.setCore_outside hCores ?_
    refine State.bump_outside (hNums.at Key.fam_coreExceptions rfl) ?_
    exact hs

theorem State.except_keeps {s : State} {n : Nat} {cause : Nat} {xpc : Word} {xaddr : Word} {xword : Word} : Kept102 s (State.except s n cause xpc xaddr xword).1 :=
  .of (State.except_outside rfl rfl rfl rfl rfl rfl (.free rfl rfl) rfl rfl rfl)

theorem State.except_rd {s : State} {n : Nat} {cause : Nat} {xpc : Word} {xaddr : Word} {xword : Word} {kk : Nat} (hkey : Nums47.contains (Key.fam kk) = false) : (State.except s n cause xpc xaddr xword).1.rd kk = s.rd kk :=
  State.rd_of_outside (M := .but Nums47) (State.except_outside rfl .self rfl rfl rfl rfl (.free rfl rfl) rfl rfl rfl) rfl hkey

theorem State.localLoad_outside {M : Touch} {r : State} {s : State} {n : Nat} {d : Bytes} (hLocals : M.Locals r) (hs : s.outside M = r) :
    (State.localLoad s n d).outside M = r := by
  exact State.localPut_outside hLocals (State.outside_cores_locals hLocals (KMap.canon_filter _) hs)

theorem State.localLoad_keeps {s : State} {n : Nat} {d : Bytes} : Kept100 s (State.localLoad s n d) :=
  .of (State.localLoad_outside (.free rfl rfl) rfl)

theorem State.coreImageTake_outside {M : Touch} {r : State} {s : State} {n : Nat} {d : Bytes} (hCores : M.cores = true) (hLocals : M.Locals r) (hs : s.outside M = r) :
    (State.coreImageTake s n d).outside M = r := by
  unfold State.coreImageTake
  extract_lets +onlyGivenNames -merge -underBinder x0
  have q1 : State.outside M x0 = r := by
    unfold x0
    refine State.localLoad_outside hLocals ?_
    exact hs
  try clear_value x0
  extract_lets +onlyGivenNames -merge -underBinder x2
  try clear_value x2
  refine State.setCore_outside hCores ?_
  exact q1

theorem State.coreImageTake_keeps {s : State} {n : Nat} {d : Bytes} : Kept101 s (State.coreImageTake s n d) :=
  .of (State.coreImageTake_outside rfl (.free rfl rfl) rfl)

theorem State.coreIslAsk_outside {M : Touch} {r : State} {s : State} {n : Nat} {on : Bool} (hPower : M.power = true) (hs : s.outside M = r) :
    (State.coreIslAsk s n on).outside M = r := by
  unfold State.coreIslAsk
  refine State.setCoreIsl_outside hPower ?_
  exact hs

theorem State.coreIslAsk_keeps {s : State} {n : Nat} {on : Bool} : Kept99 s (State.coreIslAsk s n on) :=
  .of (State.coreIslAsk_outside rfl rfl)

theorem State.fetchAnew_outside {M : Touch} {r : State} {s : State} {n : Nat} (hCores : M.cores = true) (hs : s.outside M = r) :
    (State.fetchAnew s n).outside M = r := by
  unfold State.fetchAnew
  extract_lets +onlyGivenNames -merge -underBinder x0
  unfold x0
  clear x0
  refine Eq.trans (State.outside_cores_cores (h0 := hCores) ..) ?_
  exact hs

theorem State.fetchAnew_keeps {s : State} {n : Nat} : Kept97 s (State.fetchAnew s n) :=
  .of (State.fetchAnew_outside rfl rfl)

theorem State.coreGo_outside {M : Touch} {r : State} {s : State} {n : Nat} (hNums : M.Nums Nums42) (hResults : M.results = true) (hCores : M.cores = true) (hs : s.outside M = r) :
    (State.coreGo s n).outside M = r := by
  unfold State.coreGo
  extract_lets +onlyGivenNames -merge -underBinder x0
  try clear_value x0
  split
  · refine State.resEnd_outside hResults ?_
    exact hs
  · refine State.resEnd_outside hResults ?_
    refine State.wr_outside (hNums.at Key.fam_coreState rfl) ?_
    refine State.setCore_outside hCores ?_
    refine State.fetchAnew_outside hCores ?_
    exact hs

theorem State.coreGo_keeps {s : State} {n : Nat} : Kept103 s (State.coreGo s n) :=
  .of (State.coreGo_outside rfl rfl rfl rfl)

theorem State.coreGo_rd {s : State} {n : Nat} {kk : Nat} (hkey : Nums42.contains (Key.fam kk) = false) : (State.coreGo s n).rd kk = s.rd kk :=
  State.rd_of_outside (M := .but Nums42) (State.coreGo_outside .self rfl rfl rfl) rfl hkey

theorem State.coreStart_outside {M : Touch} {r : State} {s : State} {n : Nat} (hNums : M.Nums Nums42) (hResults : M.results = true) (hPower : M.power = true) (hCores : M.cores = true) (hs : s.outside M = r) :
    (State.coreStart s n).outside M = r := by
  unfold State.coreStart
  extract_lets +onlyGivenNames -merge -underBinder x0
  have q1 : State.outside M x0 = r := by
    unfold x0
    refine State.resBegin_outside hResults ?_
    exact hs
  try clear_value x0
  extract_lets +onlyGivenNames -merge -underBinder x2
  have q3 : State.outside M x2 = r := by
    unfold x2
    refine State.coreIslAsk_outside hPower ?_
    exact q1
  try clear_value x2
  refine ite_outside ?_ ?_
  · refine State.resEnd_outside hResults ?_
    exact q1
  · refine ite_outside ?_ ?_
    · refine State.resEnd_outside hResults ?_
      exact q1
    · refine ite_outside ?_ ?_
      · refine State.coreGo_outside hNums hResults hCores ?_
        exact q3
      · exact q3

theorem State.coreStart_keeps {s : State} {n : Nat} : Kept104 s (State.coreStart s n) :=
  .of (State.coreStart_outside rfl rfl rfl rfl rfl)

theorem State.coreStart_rd {s : State} {n : Nat} {kk : Nat} (hkey : Nums42.contains (Key.fam kk) = false) : (State.coreStart s n).rd kk = s.rd kk :=
  State.rd_of_outside (M := .but Nums42) (State.coreStart_outside .self rfl rfl rfl rfl) rfl hkey

theorem State.coreDrain_outside {M : Touch} {r : State} {s : State} {n : Nat} (hCores : M.cores = true) (hLocals : M.Locals r) (hs : s.outside M = r) :
    (State.coreDrain s n).outside M = r := by
  unfold State.coreDrain
  refine State.drainAll_outside hCores hLocals ?_
  exact hs

theorem State.coreDrain_keeps {s : State} {n : Nat} : Kept101 s (State.coreDrain s n) :=
  .of (State.coreDrain_outside rfl (.free rfl rfl) rfl)

theorem State.coreStop_outside {M : Touch} {r : State} {s : State} {n : Nat} (hNums : M.Nums Nums42) (hResults : M.results = true) (hPower : M.power = true) (hCores : M.cores = true) (hLocals : M.Locals r) (hs : s.outside M = r) :
    (State.coreStop s n).outside M = r := by
  unfold State.coreStop
  extract_lets +onlyGivenNames -merge -underBinder x0
  have q1 : State.outside M x0 = r := by
    unfold x0
    refine State.resBegin_outside hResults ?_
    exact hs
  try clear_value x0
  refine ite_outside ?_ ?_
  · refine State.resEnd_outside hResults ?_
    refine State.coreIslAsk_outside hPower ?_
    refine State.wr_outside (hNums.at Key.fam_coreState rfl) ?_
    refine State.coreDrain_outside hCores hLocals ?_
    exact q1
  · refine State.resEnd_outside hResults ?_
    exact q1

theorem State.coreStop_keeps {s : State} {n : Nat} : Kept105 s (State.coreStop s n) :=
  .of (State.coreStop_outside rfl rfl rfl rfl (.free rfl rfl) rfl)

theorem State.coreStop_rd {s : State} {n : Nat} {kk : Nat} (hkey : Nums42.contains (Key.fam kk) = false) : (State.coreStop s n).rd kk = s.rd kk :=
  State.rd_of_outside (M := .but Nums42) (State.coreStop_outside .self rfl rfl rfl (.free rfl rfl) rfl) rfl hkey

theorem State.coreRunCmd_outside {M : Touch} {r : State} {s : State} {n : Nat} {cmd : Nat} (hNums : M.Nums Nums42) (hResults : M.results = true) (hPower : M.power = true) (hCores : M.cores = true) (hLocals : M.Locals r) (hs : s.outside M = r) :
    (State.coreRunCmd s n cmd).outside M = r := by
  unfold State.coreRunCmd
  refine ite_outside ?_ ?_
  · exact hs
  · refine ite_outside ?_ ?_
    · refine State.coreStart_outside hNums hResults hPower hCores ?_
      exact hs
    · refine State.coreStop_outside hNums hResults hPower hCores hLocals ?_
      exact hs

theorem State.coreRunCmd_keeps {s : State} {n : Nat} {cmd : Nat} : Kept105 s (State.coreRunCmd s n cmd) :=
  .of (State.coreRunCmd_outside rfl rfl rfl rfl (.free rfl rfl) rfl)

theorem State.coreRunCmd_rd {s : State} {n : Nat} {cmd : Nat} {kk : Nat} (hkey : Nums42.contains (Key.fam kk) = false) : (State.coreRunCmd s n cmd).rd kk = s.rd kk :=
  State.rd_of_outside (M := .but Nums42) (State.coreRunCmd_outside .self rfl rfl rfl (.free rfl rfl) rfl) rfl hkey

theorem State.bufferStore_outside {M : Touch} {r : State} {s : State} {n : Nat} {a : Nat} {bs : Bytes} (hCores : M.cores = true) (hLocals : M.Locals r) (hs : s.outside M = r) :
    (State.bufferStore s n a bs).outside M = r := by
  unfold State.bufferStore
  extract_lets +onlyGivenNames -merge -underBinder x0
  have q1 : State.outside M x0 = r := by
    unfold x0
    refine ite_outside ?_ ?_
    · refine State.drainOne_outside hCores hLocals ?_
      exact hs
    · exact hs
  try clear_value x0
  extract_lets +onlyGivenNames -merge -underBinder x2
  try clear_value x2
  refine State.setCore_outside hCores ?_
  exact q1

theorem State.bufferStore_keeps {s : State} {n : Nat} {a : Nat} {bs : Bytes} : Kept101 s (State.bufferStore s n a bs) :=
  .of (State.bufferStore_outside rfl (.free rfl rfl) rfl)

theorem State.coreIslServe_outside {M : Touch} {r : State} {s : State} {n : Nat} (hNums : M.Nums Nums42) (hResults : M.results = true) (hPower : M.power = true) (hCores : M.cores = true) (hs : s.outside M = r) :
    (State.coreIslServe s n).outside M = r := by
  unfold State.coreIslServe
  extract_lets +onlyGivenNames -merge -underBinder x0
  try clear_value x0
  extract_lets +onlyGivenNames -merge -underBinder x1
  have q2 : State.outside M x1 = r := by
    unfold x1
    refine State.setCoreIsl_outside hPower ?_
    exact hs
  try clear_value x1
  refine ite_outside ?_ ?_
  · refine State.coreGo_outside hNums hResults hCores ?_
    exact q2
  · exact q2

theorem State.coreIslServe_keeps {s : State} {n : Nat} : Kept104 s (State.coreIslServe s n) :=
  .of (State.coreIslServe_outside rfl rfl rfl rfl rfl)

theorem State.coreIslServe_rd {s : State} {n : Nat} {kk : Nat} (hkey : Nums42.contains (Key.fam kk) = false) : (State.coreIslServe s n).rd kk = s.rd kk :=
  State.rd_of_outside (M := .but Nums42) (State.coreIslServe_outside .self rfl rfl rfl rfl) rfl hkey

theorem execStoreBufferDrain_outside {M : Touch} {r : State} {n : Fin 16} {s : State} (hCores : M.cores = true) (hLocals : M.Locals r) (hs : s.outside M = r) :
    NextOutside M r (execStoreBufferDrain n s) := by
  unfold execStoreBufferDrain
  refine next_outside ?_
  refine State.drainOne_outside hCores hLocals ?_
  exact hs

theorem execCoreStop_outside {M : Touch} {r : State} {k : Fin 4} {s : State} (hNums : M.Nums Nums42) (hResults : M.results = true) (hPower : M.power = true) (hCores : M.cores = true) (hLocals : M.Locals r) (hs : s.outside M = r) :
    NextOutside M r (execCoreStop k s) := by
  unfold execCoreStop
  refine next_outside ?_
  refine ite_outside ?_ ?_
  · exact hs
  · refine State.coreStop_outside hNums hResults hPower hCores hLocals ?_
    exact hs

theorem execCoreStart_outside {M : Touch} {r : State} {k : Fin 4} {s : State} (hNums : M.Nums Nums42) (hResults : M.results = true) (hPower : M.power = true) (hCores : M.cores = true) (hs : s.outside M = r) :
    NextOutside M r (execCoreStart k s) := by
  unfold execCoreStart
  refine next_outside ?_
  refine ite_outside ?_ ?_
  · exact hs
  · refine State.coreStart_outside hNums hResults hPower hCores ?_
    exact hs

end Sys2Proof.Machine
end

