-- ==== Sys2Proof/Laws/Frame/Records.lean ====
section
/-! SUPPORT. What the operations of Machine/Records.lean leave alone. -/

namespace Sys2Proof.Machine

theorem State.setRec_outside {M : Touch} {r : State} {s : State} {a0 : Nat} {x : NodeRec} (hRecs : M.recs = true) (hs : s.outside M = r) :
    (State.setRec s a0 x).outside M = r := by
  unfold State.setRec
  extract_lets +onlyGivenNames -merge -underBinder x1
  unfold x1
  clear x1
  refine Eq.trans (State.outside_girth_recs (h0 := hRecs) ..) ?_
  exact hs

theorem State.setRec_keeps {s : State} {a0 : Nat} {x : NodeRec} : Kept25 s (State.setRec s a0 x) :=
  .of (State.setRec_outside rfl rfl)

theorem State.modHw_outside {M : Touch} {r : State} {s : State} {a0 : Nat} {f : NodeHw → NodeHw} (hRecs : M.recs = true) (hs : s.outside M = r) :
    (State.modHw s a0 f).outside M = r := by
  unfold State.modHw
  extract_lets +onlyGivenNames -merge -underBinder x1
  try clear_value x1
  refine State.setRec_outside hRecs ?_
  exact hs

theorem State.modHw_keeps {s : State} {a0 : Nat} {f : NodeHw → NodeHw} : Kept25 s (State.modHw s a0 f) :=
  .of (State.modHw_outside rfl rfl)

end Sys2Proof.Machine
end

