-- ==== Sys2Proof/Laws/Frame/Keeper.lean ====
section
/-! SUPPORT. What the operations of Machine/Keeper.lean leave alone. -/

namespace Sys2Proof.Machine

theorem State.setSlot_outside {M : Touch} {r : State} {s : State} {n : Nat} {x : Slot} (hKeeper : M.keeper = true) (hs : s.outside M = r) :
    (State.setSlot s n x).outside M = r := by
  unfold State.setSlot
  extract_lets +onlyGivenNames -merge -underBinder x0
  try clear_value x0
  refine Eq.trans (State.outside_keeper (h0 := hKeeper) ..) ?_
  exact hs

theorem State.setSlot_keeps {s : State} {n : Nat} {x : Slot} : Kept61 s (State.setSlot s n x) :=
  .of (State.setSlot_outside rfl rfl)

theorem State.writeSlot_outside {M : Touch} {r : State} {s : State} {n : Nat} {x : Slot} (hKeeper : M.keeper = true) (hs : s.outside M = r) :
    (State.writeSlot s n x).outside M = r := by
  unfold State.writeSlot
  refine State.setSlot_outside hKeeper ?_
  exact hs

theorem State.writeSlot_keeps {s : State} {n : Nat} {x : Slot} : Kept61 s (State.writeSlot s n x) :=
  .of (State.writeSlot_outside rfl rfl)

theorem State.deriveLinkWrap_outside {M : Touch} {r : State} {s : State} (hKeeper : M.keeper = true) (hs : s.outside M = r) :
    (State.deriveLinkWrap s).outside M = r := by
  unfold State.deriveLinkWrap
  split
  · extract_lets +onlyGivenNames -merge -underBinder x0
    try clear_value x0
    extract_lets +onlyGivenNames -merge -underBinder x1
    try clear_value x1
    refine State.writeSlot_outside hKeeper ?_
    exact hs
  · exact hs

theorem State.deriveLinkWrap_keeps {s : State} : Kept61 s (State.deriveLinkWrap s) :=
  .of (State.deriveLinkWrap_outside rfl rfl)

theorem State.kPost_outside {M : Touch} {r : State} {s : State} {c : Err} {arg : Nat} {arg2 : Nat} (hDict : M.dict = true) (hNums : M.Nums Nums2) (hLogs : M.logs = true) (hStraps : M.straps = true) (hJournal : M.journal = true) (hEdges : M.edges = true) (hFlags : M.flags = true) (hs : s.outside M = r) :
    (State.kPost s c arg arg2).outside M = r := by
  unfold State.kPost
  refine State.post_outside hDict hNums hLogs hStraps hJournal hEdges hFlags ?_
  exact hs

theorem State.kPost_keeps {s : State} {c : Err} {arg : Nat} {arg2 : Nat} : Kept8 s (State.kPost s c arg arg2) :=
  .of (State.kPost_outside rfl rfl rfl rfl rfl rfl rfl rfl)

theorem State.kPost_rd {s : State} {c : Err} {arg : Nat} {arg2 : Nat} {kk : Nat} (hkey : Nums2.contains (Key.fam kk) = false) : (State.kPost s c arg arg2).rd kk = s.rd kk :=
  State.rd_of_outside (M := .but Nums2) (State.kPost_outside rfl .self rfl rfl rfl rfl rfl rfl) rfl hkey

theorem State.freeSlot_outside {M : Touch} {r : State} {s : State} {n : Nat} (hKeeper : M.keeper = true) (hs : s.outside M = r) :
    (State.freeSlot s n).outside M = r := by
  unfold State.freeSlot
  extract_lets +onlyGivenNames -merge -underBinder x0
  try clear_value x0
  refine ite_outside ?_ ?_
  · refine State.setSlot_outside hKeeper ?_
    exact hs
  · exact hs

theorem State.freeSlot_keeps {s : State} {n : Nat} : Kept61 s (State.freeSlot s n) :=
  .of (State.freeSlot_outside rfl rfl)

theorem State.freeSlots_outside {M : Touch} {r : State} {s : State} {p : Nat → Slot → Bool} (hKeeper : M.keeper = true) (hs : s.outside M = r) :
    (State.freeSlots s p).outside M = r := by
  unfold State.freeSlots
  refine State.each_outside ?_ ?_
  · intro t0 q1 z2
    refine State.freeSlot_outside hKeeper ?_
    exact q1
  · exact hs

theorem State.freeSlots_keeps {s : State} {p : Nat → Slot → Bool} : Kept61 s (State.freeSlots s p) :=
  .of (State.freeSlots_outside rfl rfl)

theorem State.startEpoch_outside {M : Touch} {r : State} {s : State} (hDict : M.dict = true) (hNums : M.Nums Nums34) (hLogs : M.logs = true) (hVbat : M.vbat = true) (hKeeper : M.keeper = true) (hStraps : M.straps = true) (hJournal : M.journal = true) (hEdges : M.edges = true) (hFlags : M.flags = true) (hs : s.outside M = r) :
    (State.startEpoch s).outside M = r := by
  unfold State.startEpoch
  extract_lets +onlyGivenNames -merge -underBinder x0
  try clear_value x0
  extract_lets +onlyGivenNames -merge -underBinder x1
  have q2 : State.outside M x1 = r := by
    unfold x1
    refine State.freeSlots_outside hKeeper ?_
    exact hs
  try clear_value x1
  extract_lets +onlyGivenNames -merge -underBinder x3
  try clear_value x3
  refine ite_outside ?_ ?_
  · refine State.deriveLinkWrap_outside hKeeper ?_
    refine State.wr_outside (hNums.at Key.fam_keeperState rfl) ?_
    refine Eq.trans (State.outside_vbat (h0 := hVbat) ..) ?_
    exact hs
  · refine State.kPost_outside hDict (hNums.sub rfl) hLogs hStraps hJournal hEdges hFlags ?_
    refine State.wr_outside (hNums.at Key.fam_keeperState rfl) ?_
    refine Eq.trans (State.outside_vbat (h0 := hVbat) ..) ?_
    exact q2

theorem State.startEpoch_keeps {s : State} : Kept62 s (State.startEpoch s) :=
  .of (State.startEpoch_outside rfl rfl rfl rfl rfl rfl rfl rfl rfl rfl)

theorem State.startEpoch_rd {s : State} {kk : Nat} (hkey : Nums34.contains (Key.fam kk) = false) : (State.startEpoch s).rd kk = s.rd kk :=
  State.rd_of_outside (M := .but Nums34) (State.startEpoch_outside rfl .self rfl rfl rfl rfl rfl rfl rfl rfl) rfl hkey

theorem State.countSlots_outside {M : Touch} {r : State} {s : State} (hNums : M.Nums Nums35) (hs : s.outside M = r) :
    (State.countSlots s).outside M = r := by
  unfold State.countSlots
  refine State.wr_outside (hNums.at Key.fam_keeperSlotsUsed rfl) ?_
  exact hs

theorem State.countSlots_keeps {s : State} : Kept1 s (State.countSlots s) :=
  .of (State.countSlots_outside rfl rfl)

theorem State.countSlots_rd {s : State} {kk : Nat} (hkey : Nums35.contains (Key.fam kk) = false) : (State.countSlots s).rd kk = s.rd kk :=
  State.rd_of_outside (M := .but Nums35) (State.countSlots_outside .self rfl) rfl hkey

theorem State.deriveIdentity_outside {M : Touch} {r : State} {s : State} (hKeeper : M.keeper = true) (hs : s.outside M = r) :
    (State.deriveIdentity s).outside M = r := by
  unfold State.deriveIdentity
  extract_lets +onlyGivenNames -merge -underBinder x0
  try clear_value x0
  refine State.writeSlot_outside hKeeper ?_
  exact hs

theorem State.deriveIdentity_keeps {s : State} : Kept61 s (State.deriveIdentity s) :=
  .of (State.deriveIdentity_outside rfl rfl)

theorem State.keeperWarm_outside {M : Touch} {r : State} {s : State} (hDict : M.dict = true) (hNums : M.Nums Nums36) (hLogs : M.logs = true) (hVbat : M.vbat = true) (hKeeper : M.keeper = true) (hStraps : M.straps = true) (hJournal : M.journal = true) (hEdges : M.edges = true) (hFlags : M.flags = true) (hs : s.outside M = r) :
    (State.keeperWarm s).outside M = r := by
  unfold State.keeperWarm
  extract_lets +onlyGivenNames -merge -underBinder x0
  try clear_value x0
  extract_lets +onlyGivenNames -merge -underBinder x1
  have q2 : State.outside M x1 = r := by
    unfold x1
    refine Eq.trans (State.outside_keeper (h0 := hKeeper) ..) ?_
    exact hs
  try clear_value x1
  extract_lets +onlyGivenNames -merge -underBinder x3
  have q4 : State.outside M x3 = r := by
    unfold x3
    refine State.freeSlots_outside hKeeper ?_
    exact q2
  try clear_value x3
  extract_lets +onlyGivenNames -merge -underBinder x5
  have q6 : State.outside M x5 = r := by
    unfold x5
    refine State.deriveIdentity_outside hKeeper ?_
    exact q4
  try clear_value x5
  extract_lets +onlyGivenNames -merge -underBinder x7
  have q8 : State.outside M x7 = r := by
    unfold x7
    refine ite_outside ?_ ?_
    · refine State.startEpoch_outside hDict (hNums.sub rfl) hLogs hVbat hKeeper hStraps hJournal hEdges hFlags ?_
      exact q6
    · exact q6
  try clear_value x7
  refine State.countSlots_outside (hNums.sub rfl) ?_
  exact q8

theorem State.keeperWarm_keeps {s : State} : Kept62 s (State.keeperWarm s) :=
  .of (State.keeperWarm_outside rfl rfl rfl rfl rfl rfl rfl rfl rfl rfl)

theorem State.keeperWarm_rd {s : State} {kk : Nat} (hkey : Nums36.contains (Key.fam kk) = false) : (State.keeperWarm s).rd kk = s.rd kk :=
  State.rd_of_outside (M := .but Nums36) (State.keeperWarm_outside rfl .self rfl rfl rfl rfl rfl rfl rfl rfl) rfl hkey

theorem State.noteEpoch_outside {M : Touch} {r : State} {s : State} {c : Nat} (hVbat : M.vbat = true) (hs : s.outside M = r) :
    (State.noteEpoch s c).outside M = r := by
  unfold State.noteEpoch
  extract_lets +onlyGivenNames -merge -underBinder x0
  try clear_value x0
  refine ite_outside ?_ ?_
  · refine Eq.trans (State.outside_vbat (h0 := hVbat) ..) ?_
    exact hs
  · exact hs

theorem State.noteEpoch_keeps {s : State} {c : Nat} : Kept63 s (State.noteEpoch s c) :=
  .of (State.noteEpoch_outside rfl rfl)

theorem State.takeLinkFc_outside {M : Touch} {r : State} {s : State} {a0 : Nat} (hDict : M.dict = true) (hNums : M.Nums Nums2) (hLogs : M.logs = true) (hVbat : M.vbat = true) (hRecs : M.recs = true) (hStraps : M.straps = true) (hJournal : M.journal = true) (hEdges : M.edges = true) (hFlags : M.flags = true) (hs : s.outside M = r) :
    (State.takeLinkFc s a0).1.outside M = r := by
  unfold State.takeLinkFc
  extract_lets +onlyGivenNames -merge -underBinder x1
  try clear_value x1
  extract_lets +onlyGivenNames -merge -underBinder x2
  try clear_value x2
  extract_lets +onlyGivenNames -merge -underBinder x3
  have q4 : State.outside M x3 = r := by
    unfold x3
    refine State.noteEpoch_outside hVbat ?_
    exact hs
  try clear_value x3
  refine ite_fst_outside ?_ ?_
  · refine ite_fst_outside ?_ ?_
    · refine fst_outside ?_
      exact hs
    · refine fst_outside ?_
      refine State.kPost_outside hDict hNums hLogs hStraps hJournal hEdges hFlags ?_
      refine State.modHw_outside hRecs ?_
      exact hs
  · refine ite_fst_outside ?_ ?_
    · refine fst_outside ?_
      refine State.modHw_outside hRecs ?_
      exact q4
    · refine fst_outside ?_
      refine State.modHw_outside hRecs ?_
      exact q4

theorem State.takeLinkFc_keeps {s : State} {a0 : Nat} : Kept64 s (State.takeLinkFc s a0).1 :=
  .of (State.takeLinkFc_outside rfl rfl rfl rfl rfl rfl rfl rfl rfl rfl)

theorem State.takeLinkFc_rd {s : State} {a0 : Nat} {kk : Nat} (hkey : Nums2.contains (Key.fam kk) = false) : (State.takeLinkFc s a0).1.rd kk = s.rd kk :=
  State.rd_of_outside (M := .but Nums2) (State.takeLinkFc_outside rfl .self rfl rfl rfl rfl rfl rfl rfl rfl) rfl hkey

theorem State.useSlot_outside {M : Touch} {r : State} {s : State} {n : Nat} (hDict : M.dict = true) (hNums : M.Nums Nums2) (hLogs : M.logs = true) (hKeeper : M.keeper = true) (hStraps : M.straps = true) (hJournal : M.journal = true) (hEdges : M.edges = true) (hFlags : M.flags = true) (hs : s.outside M = r) :
    (State.useSlot s n).outside M = r := by
  unfold State.useSlot
  extract_lets +onlyGivenNames -merge -underBinder x0
  try clear_value x0
  extract_lets +onlyGivenNames -merge -underBinder x1
  try clear_value x1
  extract_lets +onlyGivenNames -merge -underBinder x2
  have q3 : State.outside M x2 = r := by
    unfold x2
    refine State.setSlot_outside hKeeper ?_
    exact hs
  try clear_value x2
  refine ite_outside ?_ ?_
  · refine State.kPost_outside hDict hNums hLogs hStraps hJournal hEdges hFlags ?_
    exact q3
  · exact q3

theorem State.useSlot_keeps {s : State} {n : Nat} : Kept65 s (State.useSlot s n) :=
  .of (State.useSlot_outside rfl rfl rfl rfl rfl rfl rfl rfl rfl)

theorem State.useSlot_rd {s : State} {n : Nat} {kk : Nat} (hkey : Nums2.contains (Key.fam kk) = false) : (State.useSlot s n).rd kk = s.rd kk :=
  State.rd_of_outside (M := .but Nums2) (State.useSlot_outside rfl .self rfl rfl rfl rfl rfl rfl rfl) rfl hkey

theorem State.useLinkWrap_outside {M : Touch} {r : State} {s : State} {x : NodeRec} (hDict : M.dict = true) (hNums : M.Nums Nums2) (hLogs : M.logs = true) (hKeeper : M.keeper = true) (hStraps : M.straps = true) (hJournal : M.journal = true) (hEdges : M.edges = true) (hFlags : M.flags = true) (hs : s.outside M = r) :
    (State.useLinkWrap s x).outside M = r := by
  unfold State.useLinkWrap
  refine ite_outside ?_ ?_
  · refine State.useSlot_outside hDict hNums hLogs hKeeper hStraps hJournal hEdges hFlags ?_
    exact hs
  · exact hs

theorem State.useLinkWrap_keeps {s : State} {x : NodeRec} : Kept65 s (State.useLinkWrap s x) :=
  .of (State.useLinkWrap_outside rfl rfl rfl rfl rfl rfl rfl rfl rfl)

theorem State.useLinkWrap_rd {s : State} {x : NodeRec} {kk : Nat} (hkey : Nums2.contains (Key.fam kk) = false) : (State.useLinkWrap s x).rd kk = s.rd kk :=
  State.rd_of_outside (M := .but Nums2) (State.useLinkWrap_outside rfl .self rfl rfl rfl rfl rfl rfl rfl) rfl hkey

theorem State.linkKey_outside {M : Touch} {r : State} {s : State} {a0 : Nat} (hDict : M.dict = true) (hNums : M.Nums Nums2) (hLogs : M.logs = true) (hRecs : M.recs = true) (hKeeper : M.keeper = true) (hStraps : M.straps = true) (hJournal : M.journal = true) (hEdges : M.edges = true) (hFlags : M.flags = true) (hs : s.outside M = r) :
    (State.linkKey s a0).1.outside M = r := by
  unfold State.linkKey
  extract_lets +onlyGivenNames -merge -underBinder x1
  try clear_value x1
  extract_lets +onlyGivenNames -merge -underBinder x2
  have q3 : State.outside M x2 = r := by
    unfold x2
    refine State.useLinkWrap_outside hDict hNums hLogs hKeeper hStraps hJournal hEdges hFlags ?_
    exact hs
  try clear_value x2
  split
  · refine fst_outside ?_
    exact q3
  · refine ite_fst_outside ?_ ?_
    · refine ite_fst_outside ?_ ?_
      · refine fst_outside ?_
        exact q3
      · refine fst_outside ?_
        refine State.kPost_outside hDict hNums hLogs hStraps hJournal hEdges hFlags ?_
        refine State.setRec_outside hRecs ?_
        exact q3
    · refine ite_fst_outside ?_ ?_
      · refine fst_outside ?_
        exact q3
      · refine fst_outside ?_
        refine State.kPost_outside hDict hNums hLogs hStraps hJournal hEdges hFlags ?_
        refine State.setRec_outside hRecs ?_
        exact q3

theorem State.linkKey_keeps {s : State} {a0 : Nat} : Kept66 s (State.linkKey s a0).1 :=
  .of (State.linkKey_outside rfl rfl rfl rfl rfl rfl rfl rfl rfl rfl)

theorem State.linkKey_rd {s : State} {a0 : Nat} {kk : Nat} (hkey : Nums2.contains (Key.fam kk) = false) : (State.linkKey s a0).1.rd kk = s.rd kk :=
  State.rd_of_outside (M := .but Nums2) (State.linkKey_outside rfl .self rfl rfl rfl rfl rfl rfl rfl rfl) rfl hkey

theorem State.takeTenantFc_outside {M : Touch} {r : State} {s : State} {t : Nat} (hDict : M.dict = true) (hNums : M.Nums Nums2) (hLogs : M.logs = true) (hVbat : M.vbat = true) (hKeeper : M.keeper = true) (hStraps : M.straps = true) (hJournal : M.journal = true) (hEdges : M.edges = true) (hFlags : M.flags = true) (hs : s.outside M = r) :
    (State.takeTenantFc s t).1.outside M = r := by
  unfold State.takeTenantFc
  extract_lets +onlyGivenNames -merge -underBinder x0
  try clear_value x0
  extract_lets +onlyGivenNames -merge -underBinder x1
  try clear_value x1
  extract_lets +onlyGivenNames -merge -underBinder x2
  have q3 : ∀ u4 : State, State.outside M u4 = r → ∀ u5, State.outside M (x2 u4 u5) = r := by
    unfold x2
    · intro t6 q7 z8
      extract_lets +onlyGivenNames -merge -underBinder x9
      try clear_value x9
      refine Eq.trans (State.outside_keeper (h0 := hKeeper) ..) ?_
      exact q7
  try clear_value x2
  extract_lets +onlyGivenNames -merge -underBinder x10
  try clear_value x10
  extract_lets +onlyGivenNames -merge -underBinder x11
  have q12 : State.outside M x11 = r := by
    unfold x11
    refine State.noteEpoch_outside hVbat ?_
    exact hs
  try clear_value x11
  refine ite_fst_outside ?_ ?_
  · refine ite_fst_outside ?_ ?_
    · refine fst_outside ?_
      exact hs
    · refine fst_outside ?_
      refine State.kPost_outside hDict hNums hLogs hStraps hJournal hEdges hFlags ?_
      refine q3 _ ?_ _
      exact hs
  · refine ite_fst_outside ?_ ?_
    · refine fst_outside ?_
      refine q3 _ ?_ _
      exact q12
    · refine fst_outside ?_
      refine q3 _ ?_ _
      exact q12

theorem State.takeTenantFc_keeps {s : State} {t : Nat} : Kept62 s (State.takeTenantFc s t).1 :=
  .of (State.takeTenantFc_outside rfl rfl rfl rfl rfl rfl rfl rfl rfl rfl)

theorem State.takeTenantFc_rd {s : State} {t : Nat} {kk : Nat} (hkey : Nums2.contains (Key.fam kk) = false) : (State.takeTenantFc s t).1.rd kk = s.rd kk :=
  State.rd_of_outside (M := .but Nums2) (State.takeTenantFc_outside rfl .self rfl rfl rfl rfl rfl rfl rfl rfl) rfl hkey

theorem State.provisionCmd_outside {M : Touch} {r : State} {s : State} (hResults : M.results = true) (hs : s.outside M = r) :
    (State.provisionCmd s).outside M = r := by
  unfold State.provisionCmd
  extract_lets +onlyGivenNames -merge -underBinder x0
  have q1 : State.outside M x0 = r := by
    unfold x0
    refine State.resBegin_outside hResults ?_
    exact hs
  try clear_value x0
  refine ite_outside ?_ ?_
  · refine State.resEnd_outside hResults ?_
    exact q1
  · exact q1

theorem State.provisionCmd_keeps {s : State} : Kept11 s (State.provisionCmd s) :=
  .of (State.provisionCmd_outside rfl rfl)

theorem State.attestCmd_outside {M : Touch} {r : State} {s : State} {n : Nat} (hResults : M.results = true) (hKeeper : M.keeper = true) (hs : s.outside M = r) :
    (State.attestCmd s n).outside M = r := by
  unfold State.attestCmd
  extract_lets +onlyGivenNames -merge -underBinder x0
  have q1 : State.outside M x0 = r := by
    unfold x0
    refine State.resBegin_outside hResults ?_
    exact hs
  try clear_value x0
  extract_lets +onlyGivenNames -merge -underBinder x2
  try clear_value x2
  refine Eq.trans (State.outside_keeper (h0 := hKeeper) ..) ?_
  exact q1

theorem State.attestCmd_keeps {s : State} {n : Nat} : Kept67 s (State.attestCmd s n) :=
  .of (State.attestCmd_outside rfl rfl rfl)

theorem State.attestEnd_outside {M : Touch} {r : State} {s : State} {code : Nat} {d : Bytes} (hResults : M.results = true) (hKeeper : M.keeper = true) (hs : s.outside M = r) :
    (State.attestEnd s code d).outside M = r := by
  unfold State.attestEnd
  extract_lets +onlyGivenNames -merge -underBinder x0
  try clear_value x0
  refine State.resEnd_outside hResults ?_
  refine Eq.trans (State.outside_keeper (h0 := hKeeper) ..) ?_
  exact hs

theorem State.attestEnd_keeps {s : State} {code : Nat} {d : Bytes} : Kept67 s (State.attestEnd s code d) :=
  .of (State.attestEnd_outside rfl rfl rfl)

theorem State.attest_outside {M : Touch} {r : State} {s : State} {n : Nat} (hDict : M.dict = true) (hNums : M.Nums Nums2) (hResults : M.results = true) (hLogs : M.logs = true) (hKeeper : M.keeper = true) (hStraps : M.straps = true) (hJournal : M.journal = true) (hEdges : M.edges = true) (hFlags : M.flags = true) (hs : s.outside M = r) :
    (State.attest s n).outside M = r := by
  unfold State.attest
  extract_lets +onlyGivenNames -merge -underBinder x0
  try clear_value x0
  extract_lets +onlyGivenNames -merge -underBinder x1
  try clear_value x1
  refine ite_outside ?_ ?_
  · refine State.attestEnd_outside hResults hKeeper ?_
    exact hs
  · refine ite_outside ?_ ?_
    · refine State.attestEnd_outside hResults hKeeper ?_
      exact hs
    · refine State.attestEnd_outside hResults hKeeper ?_
      refine State.useSlot_outside hDict hNums hLogs hKeeper hStraps hJournal hEdges hFlags ?_
      exact hs

theorem State.attest_keeps {s : State} {n : Nat} : Kept68 s (State.attest s n) :=
  .of (State.attest_outside rfl rfl rfl rfl rfl rfl rfl rfl rfl rfl)

theorem State.attest_rd {s : State} {n : Nat} {kk : Nat} (hkey : Nums2.contains (Key.fam kk) = false) : (State.attest s n).rd kk = s.rd kk :=
  State.rd_of_outside (M := .but Nums2) (State.attest_outside rfl .self rfl rfl rfl rfl rfl rfl rfl rfl) rfl hkey

theorem State.postTamper_outside {M : Touch} {r : State} {s : State} (hDict : M.dict = true) (hNums : M.Nums Nums2) (hLogs : M.logs = true) (hKeeper : M.keeper = true) (hStraps : M.straps = true) (hJournal : M.journal = true) (hEdges : M.edges = true) (hFlags : M.flags = true) (hs : s.outside M = r) :
    (State.postTamper s).outside M = r := by
  unfold State.postTamper
  extract_lets +onlyGivenNames -merge -underBinder x0
  try clear_value x0
  refine ite_outside ?_ ?_
  · refine State.kPost_outside hDict hNums hLogs hStraps hJournal hEdges hFlags ?_
    refine State.raise_outside hEdges ?_
    refine Eq.trans (State.outside_keeper (h0 := hKeeper) ..) ?_
    exact hs
  · exact hs

theorem State.postTamper_keeps {s : State} : Kept65 s (State.postTamper s) :=
  .of (State.postTamper_outside rfl rfl rfl rfl rfl rfl rfl rfl rfl)

theorem State.postTamper_rd {s : State} {kk : Nat} (hkey : Nums2.contains (Key.fam kk) = false) : (State.postTamper s).rd kk = s.rd kk :=
  State.rd_of_outside (M := .but Nums2) (State.postTamper_outside rfl .self rfl rfl rfl rfl rfl rfl rfl) rfl hkey

theorem State.keeperCold_outside {M : Touch} {r : State} {s : State} (hDict : M.dict = true) (hNums : M.Nums Nums36) (hLogs : M.logs = true) (hVbat : M.vbat = true) (hKeeper : M.keeper = true) (hStraps : M.straps = true) (hJournal : M.journal = true) (hEdges : M.edges = true) (hFlags : M.flags = true) (hs : s.outside M = r) :
    (State.keeperCold s).outside M = r := by
  unfold State.keeperCold
  extract_lets +onlyGivenNames -merge -underBinder x0
  try clear_value x0
  extract_lets +onlyGivenNames -merge -underBinder x1
  have q2 : State.outside M x1 = r := by
    unfold x1
    refine Eq.trans (State.outside_keeper (h0 := hKeeper) ..) ?_
    exact hs
  try clear_value x1
  extract_lets +onlyGivenNames -merge -underBinder x3
  have q4 : State.outside M x3 = r := by
    unfold x3
    refine State.deriveIdentity_outside hKeeper ?_
    exact q2
  try clear_value x3
  extract_lets +onlyGivenNames -merge -underBinder x5
  have q6 : State.outside M x5 = r := by
    unfold x5
    split
    · refine State.startEpoch_outside hDict (hNums.sub rfl) hLogs hVbat hKeeper hStraps hJournal hEdges hFlags ?_
      exact q4
    · refine State.wr_outside (hNums.at Key.fam_keeperState rfl) ?_
      exact q4
  try clear_value x5
  refine State.countSlots_outside (hNums.sub rfl) ?_
  refine State.postTamper_outside hDict (hNums.sub rfl) hLogs hKeeper hStraps hJournal hEdges hFlags ?_
  exact q6

theorem State.keeperCold_keeps {s : State} : Kept62 s (State.keeperCold s) :=
  .of (State.keeperCold_outside rfl rfl rfl rfl rfl rfl rfl rfl rfl rfl)

theorem State.keeperCold_rd {s : State} {kk : Nat} (hkey : Nums36.contains (Key.fam kk) = false) : (State.keeperCold s).rd kk = s.rd kk :=
  State.rd_of_outside (M := .but Nums36) (State.keeperCold_outside rfl .self rfl rfl rfl rfl rfl rfl rfl rfl) rfl hkey

theorem State.invalidate_outside {M : Touch} {r : State} {s : State} {n : Nat} (hKeeper : M.keeper = true) (hs : s.outside M = r) :
    (State.invalidate s n).outside M = r := by
  unfold State.invalidate
  extract_lets +onlyGivenNames -merge -underBinder x0
  have q1 : State.outside M x0 = r := by
    unfold x0
    refine State.freeSlot_outside hKeeper ?_
    exact hs
  try clear_value x0
  extract_lets +onlyGivenNames -merge -underBinder x2
  try clear_value x2
  refine Eq.trans (State.outside_keeper (h0 := hKeeper) ..) ?_
  exact q1

theorem State.invalidate_keeps {s : State} {n : Nat} : Kept61 s (State.invalidate s n) :=
  .of (State.invalidate_outside rfl rfl)

theorem State.kDerive_outside {M : Touch} {r : State} {s : State} {who : Nat} {parent : Nat} {slot : Nat} {label : Bytes} {alg : Nat} {use : Nat} {expire : Bool} {limit : Nat} (hDict : M.dict = true) (hNums : M.Nums Nums129) (hLogs : M.logs = true) (hKeeper : M.keeper = true) (hStraps : M.straps = true) (hJournal : M.journal = true) (hWindows : M.windows = true) (hEdges : M.edges = true) (hFlags : M.flags = true) (hs : s.outside M = r) :
    (State.kDerive s who parent slot label alg use expire limit).outside M = r := by
  unfold State.kDerive
  refine ite_outside ?_ ?_
  · refine State.tpDone_outside hWindows hEdges hFlags ?_
    exact hs
  · refine ite_outside ?_ ?_
    · refine State.tpDone_outside hWindows hEdges hFlags ?_
      exact hs
    · refine ite_outside ?_ ?_
      · refine State.tpDone_outside hWindows hEdges hFlags ?_
        exact hs
      · refine ite_outside ?_ ?_
        · refine State.tpDone_outside hWindows hEdges hFlags ?_
          exact hs
        · split
          · refine State.tpDone_outside hWindows hEdges hFlags ?_
            exact hs
          · extract_lets +onlyGivenNames -merge -underBinder x0
            try clear_value x0
            extract_lets +onlyGivenNames -merge -underBinder x1
            try clear_value x1
            extract_lets +onlyGivenNames -merge -underBinder x2
            try clear_value x2
            extract_lets +onlyGivenNames -merge -underBinder x3
            try clear_value x3
            extract_lets +onlyGivenNames -merge -underBinder x4
            have q5 : State.outside M x4 = r := by
              unfold x4
              refine State.writeSlot_outside hKeeper ?_
              refine State.useSlot_outside hDict (hNums.sub rfl) hLogs hKeeper hStraps hJournal hEdges hFlags ?_
              exact hs
            try clear_value x4
            refine ite_outside ?_ ?_
            · refine State.tpDone_outside hWindows hEdges hFlags ?_
              exact hs
            · refine State.tpDone_outside hWindows hEdges hFlags ?_
              refine State.countSlots_outside (hNums.sub rfl) ?_
              exact q5

theorem State.kDerive_keeps {s : State} {who : Nat} {parent : Nat} {slot : Nat} {label : Bytes} {alg : Nat} {use : Nat} {expire : Bool} {limit : Nat} : Kept69 s (State.kDerive s who parent slot label alg use expire limit) :=
  .of (State.kDerive_outside rfl rfl rfl rfl rfl rfl rfl rfl rfl rfl)

theorem State.kDerive_rd {s : State} {who : Nat} {parent : Nat} {slot : Nat} {label : Bytes} {alg : Nat} {use : Nat} {expire : Bool} {limit : Nat} {kk : Nat} (hkey : Nums129.contains (Key.fam kk) = false) : (State.kDerive s who parent slot label alg use expire limit).rd kk = s.rd kk :=
  State.rd_of_outside (M := .but Nums129) (State.kDerive_outside rfl .self rfl rfl rfl rfl rfl rfl rfl rfl) rfl hkey

theorem State.kExport_outside {M : Touch} {r : State} {s : State} {who : Nat} {slot : Nat} {wrap : Nat} (hDict : M.dict = true) (hNums : M.Nums Nums2) (hLogs : M.logs = true) (hKeeper : M.keeper = true) (hStraps : M.straps = true) (hJournal : M.journal = true) (hWindows : M.windows = true) (hEdges : M.edges = true) (hFlags : M.flags = true) (hs : s.outside M = r) :
    (State.kExport s who slot wrap).outside M = r := by
  unfold State.kExport
  refine ite_outside ?_ ?_
  · refine State.tpDone_outside hWindows hEdges hFlags ?_
    exact hs
  · refine ite_outside ?_ ?_
    · refine State.tpDone_outside hWindows hEdges hFlags ?_
      exact hs
    · refine ite_outside ?_ ?_
      · refine State.tpDone_outside hWindows hEdges hFlags ?_
        exact hs
      · refine ite_outside ?_ ?_
        · refine State.tpDone_outside hWindows hEdges hFlags ?_
          exact hs
        · split
          · refine State.tpDone_outside hWindows hEdges hFlags ?_
            exact hs
          · refine ite_outside ?_ ?_
            · refine State.tpDone_outside hWindows hEdges hFlags ?_
              exact hs
            · refine State.tpDone_outside hWindows hEdges hFlags ?_
              refine State.useSlot_outside hDict hNums hLogs hKeeper hStraps hJournal hEdges hFlags ?_
              exact hs

theorem State.kExport_keeps {s : State} {who : Nat} {slot : Nat} {wrap : Nat} : Kept69 s (State.kExport s who slot wrap) :=
  .of (State.kExport_outside rfl rfl rfl rfl rfl rfl rfl rfl rfl rfl)

theorem State.kExport_rd {s : State} {who : Nat} {slot : Nat} {wrap : Nat} {kk : Nat} (hkey : Nums2.contains (Key.fam kk) = false) : (State.kExport s who slot wrap).rd kk = s.rd kk :=
  State.rd_of_outside (M := .but Nums2) (State.kExport_outside rfl .self rfl rfl rfl rfl rfl rfl rfl rfl) rfl hkey

theorem State.kGenerate_outside {M : Touch} {r : State} {s : State} {who : Nat} {slot : Nat} {alg : Nat} {use : Nat} {expire : Bool} {limit : Nat} (hDraws : M.draws = true) (hNums : M.Nums Nums35) (hKeeper : M.keeper = true) (hWindows : M.windows = true) (hEdges : M.edges = true) (hFlags : M.flags = true) (hs : s.outside M = r) :
    (State.kGenerate s who slot alg use expire limit).outside M = r := by
  unfold State.kGenerate
  extract_lets +onlyGivenNames -merge -underBinder x0
  try clear_value x0
  extract_lets +onlyGivenNames -merge -underBinder x1
  try clear_value x1
  extract_lets +onlyGivenNames -merge -underBinder x2
  try clear_value x2
  extract_lets +onlyGivenNames -merge -underBinder x3
  have q4 : State.outside M x3 = r := by
    unfold x3
    refine State.writeSlot_outside hKeeper ?_
    refine State.drawn_outside hDraws ?_
    exact hs
  try clear_value x3
  refine ite_outside ?_ ?_
  · refine State.tpDone_outside hWindows hEdges hFlags ?_
    exact hs
  · refine ite_outside ?_ ?_
    · refine State.tpDone_outside hWindows hEdges hFlags ?_
      exact hs
    · refine ite_outside ?_ ?_
      · refine State.tpDone_outside hWindows hEdges hFlags ?_
        exact hs
      · refine ite_outside ?_ ?_
        · refine State.tpDone_outside hWindows hEdges hFlags ?_
          exact hs
        · refine State.tpDone_outside hWindows hEdges hFlags ?_
          refine State.countSlots_outside hNums ?_
          exact q4

theorem State.kGenerate_keeps {s : State} {who : Nat} {slot : Nat} {alg : Nat} {use : Nat} {expire : Bool} {limit : Nat} : Kept70 s (State.kGenerate s who slot alg use expire limit) :=
  .of (State.kGenerate_outside rfl rfl rfl rfl rfl rfl rfl)

theorem State.kGenerate_rd {s : State} {who : Nat} {slot : Nat} {alg : Nat} {use : Nat} {expire : Bool} {limit : Nat} {kk : Nat} (hkey : Nums35.contains (Key.fam kk) = false) : (State.kGenerate s who slot alg use expire limit).rd kk = s.rd kk :=
  State.rd_of_outside (M := .but Nums35) (State.kGenerate_outside rfl .self rfl rfl rfl rfl rfl) rfl hkey

theorem State.kImport_outside {M : Touch} {r : State} {s : State} {who : Nat} {slot : Nat} {unwrap : Nat} {alg : Nat} {use : Nat} {exportable : Bool} {expire : Bool} {limit : Nat} {key : Bytes} (hDict : M.dict = true) (hNums : M.Nums Nums129) (hLogs : M.logs = true) (hKeeper : M.keeper = true) (hStraps : M.straps = true) (hJournal : M.journal = true) (hWindows : M.windows = true) (hEdges : M.edges = true) (hFlags : M.flags = true) (hs : s.outside M = r) :
    (State.kImport s who slot unwrap alg use exportable expire limit key).outside M = r := by
  unfold State.kImport
  extract_lets +onlyGivenNames -merge -underBinder x0
  try clear_value x0
  extract_lets +onlyGivenNames -merge -underBinder x1
  try clear_value x1
  extract_lets +onlyGivenNames -merge -underBinder x2
  try clear_value x2
  refine ite_outside ?_ ?_
  · refine State.tpDone_outside hWindows hEdges hFlags ?_
    exact hs
  · refine ite_outside ?_ ?_
    · refine State.tpDone_outside hWindows hEdges hFlags ?_
      exact hs
    · refine ite_outside ?_ ?_
      · refine State.tpDone_outside hWindows hEdges hFlags ?_
        exact hs
      · refine ite_outside ?_ ?_
        · refine State.tpDone_outside hWindows hEdges hFlags ?_
          exact hs
        · refine ite_outside ?_ ?_
          · refine State.tpDone_outside hWindows hEdges hFlags ?_
            refine State.countSlots_outside (hNums.sub rfl) ?_
            refine State.writeSlot_outside hKeeper ?_
            exact hs
          · split
            · refine State.tpDone_outside hWindows hEdges hFlags ?_
              exact hs
            · extract_lets +onlyGivenNames -merge -underBinder x3
              try clear_value x3
              refine ite_outside ?_ ?_
              · refine State.tpDone_outside hWindows hEdges hFlags ?_
                exact hs
              · split
                · refine State.tpDone_outside hWindows hEdges hFlags ?_
                  exact hs
                · extract_lets +onlyGivenNames -merge -underBinder x4
                  try clear_value x4
                  refine State.tpDone_outside hWindows hEdges hFlags ?_
                  refine State.countSlots_outside (hNums.sub rfl) ?_
                  refine State.writeSlot_outside hKeeper ?_
                  refine State.useSlot_outside hDict (hNums.sub rfl) hLogs hKeeper hStraps hJournal hEdges hFlags ?_
                  exact hs

theorem State.kImport_keeps {s : State} {who : Nat} {slot : Nat} {unwrap : Nat} {alg : Nat} {use : Nat} {exportable : Bool} {expire : Bool} {limit : Nat} {key : Bytes} : Kept69 s (State.kImport s who slot unwrap alg use exportable expire limit key) :=
  .of (State.kImport_outside rfl rfl rfl rfl rfl rfl rfl rfl rfl rfl)

theorem State.kImport_rd {s : State} {who : Nat} {slot : Nat} {unwrap : Nat} {alg : Nat} {use : Nat} {exportable : Bool} {expire : Bool} {limit : Nat} {key : Bytes} {kk : Nat} (hkey : Nums129.contains (Key.fam kk) = false) : (State.kImport s who slot unwrap alg use exportable expire limit key).rd kk = s.rd kk :=
  State.rd_of_outside (M := .but Nums129) (State.kImport_outside rfl .self rfl rfl rfl rfl rfl rfl rfl rfl) rfl hkey

theorem State.kInvalidate_outside {M : Touch} {r : State} {s : State} {who : Nat} {slot : Nat} (hKeeper : M.keeper = true) (hWindows : M.windows = true) (hEdges : M.edges = true) (hFlags : M.flags = true) (hs : s.outside M = r) :
    (State.kInvalidate s who slot).outside M = r := by
  unfold State.kInvalidate
  refine ite_outside ?_ ?_
  · refine State.tpDone_outside hWindows hEdges hFlags ?_
    exact hs
  · refine ite_outside ?_ ?_
    · refine State.tpDone_outside hWindows hEdges hFlags ?_
      exact hs
    · refine ite_outside ?_ ?_
      · refine State.tpDone_outside hWindows hEdges hFlags ?_
        exact hs
      · refine ite_outside ?_ ?_
        · refine State.tpDone_outside hWindows hEdges hFlags ?_
          exact hs
        · refine State.tpDone_outside hWindows hEdges hFlags ?_
          refine State.invalidate_outside hKeeper ?_
          exact hs

theorem State.kInvalidate_keeps {s : State} {who : Nat} {slot : Nat} : Kept71 s (State.kInvalidate s who slot) :=
  .of (State.kInvalidate_outside rfl rfl rfl rfl rfl)

theorem State.kLinkWrap_outside {M : Touch} {r : State} {s : State} {who : Nat} {unwrap : Nat} {key : Bytes} (hDict : M.dict = true) (hNums : M.Nums Nums2) (hLogs : M.logs = true) (hKeeper : M.keeper = true) (hStraps : M.straps = true) (hJournal : M.journal = true) (hWindows : M.windows = true) (hEdges : M.edges = true) (hFlags : M.flags = true) (hs : s.outside M = r) :
    (State.kLinkWrap s who unwrap key).outside M = r := by
  unfold State.kLinkWrap
  extract_lets +onlyGivenNames -merge -underBinder x0
  try clear_value x0
  extract_lets +onlyGivenNames -merge -underBinder x1
  try clear_value x1
  refine ite_outside ?_ ?_
  · refine State.tpDone_outside hWindows hEdges hFlags ?_
    exact hs
  · refine ite_outside ?_ ?_
    · refine State.tpDone_outside hWindows hEdges hFlags ?_
      exact hs
    · refine ite_outside ?_ ?_
      · refine State.tpDone_outside hWindows hEdges hFlags ?_
        exact hs
      · refine ite_outside ?_ ?_
        · refine ite_outside ?_ ?_
          · refine State.tpDone_outside hWindows hEdges hFlags ?_
            exact hs
          · refine State.tpDone_outside hWindows hEdges hFlags ?_
            refine State.useSlot_outside hDict hNums hLogs hKeeper hStraps hJournal hEdges hFlags ?_
            exact hs
        · split
          · refine State.tpDone_outside hWindows hEdges hFlags ?_
            exact hs
          · refine ite_outside ?_ ?_
            · refine State.tpDone_outside hWindows hEdges hFlags ?_
              exact hs
            · split
              · refine State.tpDone_outside hWindows hEdges hFlags ?_
                exact hs
              · refine State.tpDone_outside hWindows hEdges hFlags ?_
                refine State.useSlot_outside hDict hNums hLogs hKeeper hStraps hJournal hEdges hFlags ?_
                refine State.useSlot_outside hDict hNums hLogs hKeeper hStraps hJournal hEdges hFlags ?_
                exact hs

theorem State.kLinkWrap_keeps {s : State} {who : Nat} {unwrap : Nat} {key : Bytes} : Kept69 s (State.kLinkWrap s who unwrap key) :=
  .of (State.kLinkWrap_outside rfl rfl rfl rfl rfl rfl rfl rfl rfl rfl)

theorem State.kLinkWrap_rd {s : State} {who : Nat} {unwrap : Nat} {key : Bytes} {kk : Nat} (hkey : Nums2.contains (Key.fam kk) = false) : (State.kLinkWrap s who unwrap key).rd kk = s.rd kk :=
  State.rd_of_outside (M := .but Nums2) (State.kLinkWrap_outside rfl .self rfl rfl rfl rfl rfl rfl rfl rfl) rfl hkey

theorem State.kReadAttr_outside {M : Touch} {r : State} {s : State} {who : Nat} {slot : Nat} (hWindows : M.windows = true) (hEdges : M.edges = true) (hFlags : M.flags = true) (hs : s.outside M = r) :
    (State.kReadAttr s who slot).outside M = r := by
  unfold State.kReadAttr
  refine ite_outside ?_ ?_
  · refine State.tpDone_outside hWindows hEdges hFlags ?_
    exact hs
  · refine State.tpDone_outside hWindows hEdges hFlags ?_
    exact hs

theorem State.kReadAttr_keeps {s : State} {who : Nat} {slot : Nat} : Kept52 s (State.kReadAttr s who slot) :=
  .of (State.kReadAttr_outside rfl rfl rfl rfl)

theorem State.slotError_outside {M : Touch} {r : State} {s : State} {n : Nat} (hDict : M.dict = true) (hNums : M.Nums Nums2) (hLogs : M.logs = true) (hKeeper : M.keeper = true) (hStraps : M.straps = true) (hJournal : M.journal = true) (hEdges : M.edges = true) (hFlags : M.flags = true) (hs : s.outside M = r) :
    (State.slotError s n).outside M = r := by
  unfold State.slotError
  refine State.kPost_outside hDict hNums hLogs hStraps hJournal hEdges hFlags ?_
  refine State.invalidate_outside hKeeper ?_
  exact hs

theorem State.slotError_keeps {s : State} {n : Nat} : Kept65 s (State.slotError s n) :=
  .of (State.slotError_outside rfl rfl rfl rfl rfl rfl rfl rfl rfl)

theorem State.slotError_rd {s : State} {n : Nat} {kk : Nat} (hkey : Nums2.contains (Key.fam kk) = false) : (State.slotError s n).rd kk = s.rd kk :=
  State.rd_of_outside (M := .but Nums2) (State.slotError_outside rfl .self rfl rfl rfl rfl rfl rfl rfl) rfl hkey

theorem State.provision_outside {M : Touch} {r : State} {s : State} (hDraws : M.draws = true) (hNums : M.Nums Nums137) (hResults : M.results = true) (hVbat : M.vbat = true) (hKeeper : M.keeper = true) (hs : s.outside M = r) :
    (State.provision s).outside M = r := by
  unfold State.provision
  extract_lets +onlyGivenNames -merge -underBinder x0
  try clear_value x0
  extract_lets +onlyGivenNames -merge -underBinder x1
  have q2 : State.outside M x1 = r := by
    unfold x1
    refine State.drawn_outside hDraws ?_
    exact hs
  try clear_value x1
  extract_lets +onlyGivenNames -merge -underBinder x3
  try clear_value x3
  extract_lets +onlyGivenNames -merge -underBinder x4
  have q5 : State.outside M x4 = r := by
    unfold x4
    refine Eq.trans (State.outside_vbat (h0 := hVbat) ..) ?_
    exact q2
  try clear_value x4
  extract_lets +onlyGivenNames -merge -underBinder x6
  have q7 : State.outside M x6 = r := by
    unfold x6
    refine State.freeSlots_outside hKeeper ?_
    exact q5
  try clear_value x6
  extract_lets +onlyGivenNames -merge -underBinder x8
  try clear_value x8
  extract_lets +onlyGivenNames -merge -underBinder x9
  have q10 : State.outside M x9 = r := by
    unfold x9
    refine Eq.trans (State.outside_keeper (h0 := hKeeper) ..) ?_
    exact q7
  try clear_value x9
  refine State.resEnd_outside hResults ?_
  refine State.countSlots_outside (hNums.sub rfl) ?_
  refine State.deriveLinkWrap_outside hKeeper ?_
  refine State.deriveIdentity_outside hKeeper ?_
  refine State.wr_outside (hNums.at Key.fam_keeperState rfl) ?_
  exact q10

theorem State.provision_keeps {s : State} : Kept72 s (State.provision s) :=
  .of (State.provision_outside rfl rfl rfl rfl rfl rfl)

theorem State.provision_rd {s : State} {kk : Nat} (hkey : Nums137.contains (Key.fam kk) = false) : (State.provision s).rd kk = s.rd kk :=
  State.rd_of_outside (M := .but Nums137) (State.provision_outside rfl .self rfl rfl rfl rfl) rfl hkey

theorem State.sweep_outside {M : Touch} {r : State} {s : State} (hNums : M.Nums Nums35) (hKeeper : M.keeper = true) (hs : s.outside M = r) :
    (State.sweep s).outside M = r := by
  unfold State.sweep
  extract_lets +onlyGivenNames -merge -underBinder x0
  try clear_value x0
  refine ite_outside ?_ ?_
  · exact hs
  · refine State.countSlots_outside hNums ?_
    refine State.freeSlots_outside hKeeper ?_
    refine Eq.trans (State.outside_keeper (h0 := hKeeper) ..) ?_
    exact hs

theorem State.sweep_keeps {s : State} : Kept73 s (State.sweep s) :=
  .of (State.sweep_outside rfl rfl rfl)

theorem State.sweep_rd {s : State} {kk : Nat} (hkey : Nums35.contains (Key.fam kk) = false) : (State.sweep s).rd kk = s.rd kk :=
  State.rd_of_outside (M := .but Nums35) (State.sweep_outside .self rfl rfl) rfl hkey

theorem State.tamperOps_outside {M : Touch} {r : State} {s : State} (hTables : M.tables = true) (hWindows : M.windows = true) (hEdges : M.edges = true) (hFlags : M.flags = true) (hs : s.outside M = r) :
    (State.tamperOps s).outside M = r := by
  unfold State.tamperOps
  split
  · extract_lets +onlyGivenNames -merge -underBinder x0
    unfold x0
    clear x0
    refine ite_outside ?_ ?_
    · refine State.tpDone_outside hWindows hEdges hFlags ?_
      refine Eq.trans (State.outside_tables_tables (h0 := hTables) ..) ?_
      exact hs
    · exact hs
  · exact hs

theorem State.tamperOps_keeps {s : State} : Kept54 s (State.tamperOps s) :=
  .of (State.tamperOps_outside rfl rfl rfl rfl rfl)

theorem State.tamperReport_outside {M : Touch} {r : State} {s : State} (hDict : M.dict = true) (hNums : M.Nums Nums36) (hResults : M.results = true) (hLogs : M.logs = true) (hKeeper : M.keeper = true) (hStraps : M.straps = true) (hJournal : M.journal = true) (hEdges : M.edges = true) (hFlags : M.flags = true) (hs : s.outside M = r) :
    (State.tamperReport s).outside M = r := by
  unfold State.tamperReport
  extract_lets +onlyGivenNames -merge -underBinder x0
  have q1 : State.outside M x0 = r := by
    unfold x0
    refine State.freeSlots_outside hKeeper ?_
    exact hs
  try clear_value x0
  extract_lets +onlyGivenNames -merge -underBinder x2
  try clear_value x2
  extract_lets +onlyGivenNames -merge -underBinder x3
  have q4 : State.outside M x3 = r := by
    unfold x3
    refine Eq.trans (State.outside_keeper (h0 := hKeeper) ..) ?_
    exact q1
  try clear_value x3
  extract_lets +onlyGivenNames -merge -underBinder x5
  have q6 : State.outside M x5 = r := by
    unfold x5
    refine ite_outside ?_ ?_
    · refine State.resEnd_outside hResults ?_
      exact q4
    · exact q4
  try clear_value x5
  extract_lets +onlyGivenNames -merge -underBinder x7
  have q8 : State.outside M x7 = r := by
    unfold x7
    refine ite_outside ?_ ?_
    · refine State.attestEnd_outside hResults hKeeper ?_
      exact q6
    · exact q6
  try clear_value x7
  refine ite_outside ?_ ?_
  · exact hs
  · refine State.postTamper_outside hDict (hNums.sub rfl) hLogs hKeeper hStraps hJournal hEdges hFlags ?_
    refine State.countSlots_outside (hNums.sub rfl) ?_
    refine State.wr_outside (hNums.at Key.fam_keeperState rfl) ?_
    exact q8

theorem State.tamperReport_keeps {s : State} : Kept68 s (State.tamperReport s) :=
  .of (State.tamperReport_outside rfl rfl rfl rfl rfl rfl rfl rfl rfl rfl)

theorem State.tamperReport_rd {s : State} {kk : Nat} (hkey : Nums36.contains (Key.fam kk) = false) : (State.tamperReport s).rd kk = s.rd kk :=
  State.rd_of_outside (M := .but Nums36) (State.tamperReport_outside rfl .self rfl rfl rfl rfl rfl rfl rfl rfl) rfl hkey

theorem execKGenerate_outside {M : Touch} {r : State} {s : State} (hDraws : M.draws = true) (hNums : M.Nums Nums35) (hKeeper : M.keeper = true) (hTables : M.tables = true) (hWindows : M.windows = true) (hEdges : M.edges = true) (hFlags : M.flags = true) (hs : s.outside M = r) :
    NextOutside M r (execKGenerate s) := by
  unfold execKGenerate
  refine next_outside ?_
  refine State.tpRun_outside hTables hWindows hEdges hFlags ?_ ?_
  · intro t0 q1 z2 z3
    refine ite_outside ?_ ?_
    · refine State.tpDone_outside hWindows hEdges hFlags ?_
      exact q1
    · refine State.kGenerate_outside hDraws hNums hKeeper hWindows hEdges hFlags ?_
      exact q1
  · exact hs

theorem execKReadAttr_outside {M : Touch} {r : State} {s : State} (hTables : M.tables = true) (hWindows : M.windows = true) (hEdges : M.edges = true) (hFlags : M.flags = true) (hs : s.outside M = r) :
    NextOutside M r (execKReadAttr s) := by
  unfold execKReadAttr
  refine next_outside ?_
  refine State.tpRead_outside hTables ?_ ?_
  · intro t0 q1 z2 z3
    refine State.kReadAttr_outside hWindows hEdges hFlags ?_
    exact q1
  · exact hs

theorem execTamperReport_outside {M : Touch} {r : State} {s : State} (hDict : M.dict = true) (hNums : M.Nums Nums36) (hResults : M.results = true) (hLogs : M.logs = true) (hKeeper : M.keeper = true) (hStraps : M.straps = true) (hJournal : M.journal = true) (hEdges : M.edges = true) (hFlags : M.flags = true) (hs : s.outside M = r) :
    NextOutside M r (execTamperReport s) := by
  unfold execTamperReport
  refine next_outside ?_
  refine State.tamperReport_outside hDict hNums hResults hLogs hKeeper hStraps hJournal hEdges hFlags ?_
  exact hs

theorem execKInvalidate_outside {M : Touch} {r : State} {s : State} (hKeeper : M.keeper = true) (hTables : M.tables = true) (hWindows : M.windows = true) (hEdges : M.edges = true) (hFlags : M.flags = true) (hs : s.outside M = r) :
    NextOutside M r (execKInvalidate s) := by
  unfold execKInvalidate
  refine next_outside ?_
  refine State.tpRun_outside hTables hWindows hEdges hFlags ?_ ?_
  · intro t0 q1 z2 z3
    refine State.kInvalidate_outside hKeeper hWindows hEdges hFlags ?_
    exact q1
  · exact hs

theorem execTamperDetect_outside {M : Touch} {r : State} {x : TamperSense} {s : State} (hNums : M.Nums Nums159) (hVbat : M.vbat = true) (hKeeper : M.keeper = true) (hTables : M.tables = true) (hWindows : M.windows = true) (hEdges : M.edges = true) (hFlags : M.flags = true) (hs : s.outside M = r) :
    NextOutside M r (execTamperDetect x s) := by
  unfold execTamperDetect
  extract_lets +onlyGivenNames -merge -underBinder x0
  try clear_value x0
  extract_lets +onlyGivenNames -merge -underBinder x1
  try clear_value x1
  extract_lets +onlyGivenNames -merge -underBinder x2
  try clear_value x2
  extract_lets +onlyGivenNames -merge -underBinder x3
  have q4 : State.outside M x3 = r := by
    unfold x3
    rw [← hs]; simp only [State.outside, hVbat, hKeeper, cond_true]
  try clear_value x3
  refine next_outside ?_
  refine ite_outside ?_ ?_
  · exact hs
  · refine State.tamperOps_outside hTables hWindows hEdges hFlags ?_
    refine State.wr_outside (hNums.at Key.fam_keeperState rfl) ?_
    exact q4

theorem execKDerive_outside {M : Touch} {r : State} {s : State} (hDict : M.dict = true) (hNums : M.Nums Nums129) (hLogs : M.logs = true) (hKeeper : M.keeper = true) (hStraps : M.straps = true) (hJournal : M.journal = true) (hTables : M.tables = true) (hWindows : M.windows = true) (hEdges : M.edges = true) (hFlags : M.flags = true) (hs : s.outside M = r) :
    NextOutside M r (execKDerive s) := by
  unfold execKDerive
  refine next_outside ?_
  refine State.tpRun_outside hTables hWindows hEdges hFlags ?_ ?_
  · intro t0 q1 z2 z3
    refine ite_outside ?_ ?_
    · refine State.tpDone_outside hWindows hEdges hFlags ?_
      exact q1
    · refine State.kDerive_outside hDict hNums hLogs hKeeper hStraps hJournal hWindows hEdges hFlags ?_
      exact q1
  · exact hs

theorem execOrphanSweep_outside {M : Touch} {r : State} {s : State} (hNums : M.Nums Nums35) (hKeeper : M.keeper = true) (hs : s.outside M = r) :
    NextOutside M r (execOrphanSweep s) := by
  unfold execOrphanSweep
  refine next_outside ?_
  refine State.sweep_outside hNums hKeeper ?_
  exact hs

theorem execVbatLowZero_outside {M : Touch} {r : State} {s : State} (hVbat : M.vbat = true) (hs : s.outside M = r) :
    NextOutside M r (execVbatLowZero s) := by
  unfold execVbatLowZero
  extract_lets +onlyGivenNames -merge -underBinder x0
  try clear_value x0
  refine next_outside ?_
  refine Eq.trans (State.outside_vbat (h0 := hVbat) ..) ?_
  exact hs

theorem execKeeperProvision_outside {M : Touch} {r : State} {s : State} (hDraws : M.draws = true) (hNums : M.Nums Nums137) (hResults : M.results = true) (hVbat : M.vbat = true) (hKeeper : M.keeper = true) (hs : s.outside M = r) :
    NextOutside M r (execKeeperProvision s) := by
  unfold execKeeperProvision
  refine next_outside ?_
  refine ite_outside ?_ ?_
  · refine State.provision_outside hDraws hNums hResults hVbat hKeeper ?_
    exact hs
  · exact hs

theorem execAttest_outside {M : Touch} {r : State} {s : State} (hDict : M.dict = true) (hNums : M.Nums Nums2) (hResults : M.results = true) (hLogs : M.logs = true) (hKeeper : M.keeper = true) (hStraps : M.straps = true) (hJournal : M.journal = true) (hEdges : M.edges = true) (hFlags : M.flags = true) (hs : s.outside M = r) :
    NextOutside M r (execAttest s) := by
  unfold execAttest
  refine next_outside ?_
  split
  · refine State.attest_outside hDict hNums hResults hLogs hKeeper hStraps hJournal hEdges hFlags ?_
    exact hs
  · exact hs

theorem execKExport_outside {M : Touch} {r : State} {s : State} (hDict : M.dict = true) (hNums : M.Nums Nums2) (hLogs : M.logs = true) (hKeeper : M.keeper = true) (hStraps : M.straps = true) (hJournal : M.journal = true) (hTables : M.tables = true) (hWindows : M.windows = true) (hEdges : M.edges = true) (hFlags : M.flags = true) (hs : s.outside M = r) :
    NextOutside M r (execKExport s) := by
  unfold execKExport
  refine next_outside ?_
  refine State.tpRun_outside hTables hWindows hEdges hFlags ?_ ?_
  · intro t0 q1 z2 z3
    refine State.kExport_outside hDict hNums hLogs hKeeper hStraps hJournal hWindows hEdges hFlags ?_
    exact q1
  · exact hs

theorem execKImport_outside {M : Touch} {r : State} {s : State} (hDict : M.dict = true) (hNums : M.Nums Nums129) (hLogs : M.logs = true) (hKeeper : M.keeper = true) (hStraps : M.straps = true) (hJournal : M.journal = true) (hTables : M.tables = true) (hWindows : M.windows = true) (hEdges : M.edges = true) (hFlags : M.flags = true) (hs : s.outside M = r) :
    NextOutside M r (execKImport s) := by
  unfold execKImport
  refine next_outside ?_
  refine State.tpRun_outside hTables hWindows hEdges hFlags ?_ ?_
  · intro t0 q1 z2 z3
    extract_lets +onlyGivenNames -merge -underBinder x4
    try clear_value x4
    extract_lets +onlyGivenNames -merge -underBinder x5
    try clear_value x5
    refine State.kImport_outside hDict hNums hLogs hKeeper hStraps hJournal hWindows hEdges hFlags ?_
    exact q1
  · exact hs

theorem execKLinkWrap_outside {M : Touch} {r : State} {s : State} (hDict : M.dict = true) (hNums : M.Nums Nums2) (hLogs : M.logs = true) (hKeeper : M.keeper = true) (hStraps : M.straps = true) (hJournal : M.journal = true) (hTables : M.tables = true) (hWindows : M.windows = true) (hEdges : M.edges = true) (hFlags : M.flags = true) (hs : s.outside M = r) :
    NextOutside M r (execKLinkWrap s) := by
  unfold execKLinkWrap
  refine next_outside ?_
  refine State.tpRun_outside hTables hWindows hEdges hFlags ?_ ?_
  · intro t0 q1 z2 z3
    refine State.kLinkWrap_outside hDict hNums hLogs hKeeper hStraps hJournal hWindows hEdges hFlags ?_
    exact q1
  · exact hs

end Sys2Proof.Machine
end

