-- ==== Sys2Proof/Laws/Frame/Mac.lean ====
section
/-! SUPPORT. What the operations of Machine/Mac.lean leave alone. -/

namespace Sys2Proof.Machine

theorem State.secure_outside {M : Touch} {r : State} {s : State} {d : Draft} {t : Nat} (hDict : M.dict = true) (hNums : M.Nums Nums2) (hLogs : M.logs = true) (hVbat : M.vbat = true) (hRecs : M.recs = true) (hKeeper : M.keeper = true) (hStraps : M.straps = true) (hJournal : M.journal = true) (hEdges : M.edges = true) (hFlags : M.flags = true) (hs : s.outside M = r) :
    (State.secure s d t).1.outside M = r := by
  unfold State.secure
  extract_lets +onlyGivenNames -merge -underBinder x0
  try clear_value x0
  split
  · refine fst_outside ?_
    exact hs
  · split
    · rename_i t1 t3 e4
      have q2 : State.outside M t1 = r := by
        refine Eq.trans (congrArg (fun p => State.outside M p.1) e4).symm ?_
        refine State.linkKey_outside hDict hNums hLogs hRecs hKeeper hStraps hJournal hEdges hFlags ?_
        exact hs
      split
      · refine fst_outside ?_
        exact q2
      · split
        · rename_i t5 t7 e8
          have q6 : State.outside M t5 = r := by
            refine Eq.trans (congrArg (fun p => State.outside M p.1) e8).symm ?_
            refine State.takeLinkFc_outside hDict hNums hLogs hVbat hRecs hStraps hJournal hEdges hFlags ?_
            exact q2
          split
          · refine fst_outside ?_
            exact q6
          · refine fst_outside ?_
            exact q6
  · extract_lets +onlyGivenNames -merge -underBinder x9
    try clear_value x9
    split
    · refine fst_outside ?_
      exact hs
    · extract_lets +onlyGivenNames -merge -underBinder x10
      have q11 : State.outside M x10 = r := by
        unfold x10
        refine State.useSlot_outside hDict hNums hLogs hKeeper hStraps hJournal hEdges hFlags ?_
        exact hs
      try clear_value x10
      split
      · rename_i t12 t14 e15
        have q13 : State.outside M t12 = r := by
          refine Eq.trans (congrArg (fun p => State.outside M p.1) e15).symm ?_
          refine State.takeTenantFc_outside hDict hNums hLogs hVbat hKeeper hStraps hJournal hEdges hFlags ?_
          exact q11
        split
        · refine fst_outside ?_
          exact q13
        · refine fst_outside ?_
          exact q13

theorem State.secure_keeps {s : State} {d : Draft} {t : Nat} : Kept74 s (State.secure s d t).1 :=
  .of (State.secure_outside rfl rfl rfl rfl rfl rfl rfl rfl rfl rfl rfl)

theorem State.secure_rd {s : State} {d : Draft} {t : Nat} {kk : Nat} (hkey : Nums2.contains (Key.fam kk) = false) : (State.secure s d t).1.rd kk = s.rd kk :=
  State.rd_of_outside (M := .but Nums2) (State.secure_outside rfl .self rfl rfl rfl rfl rfl rfl rfl rfl rfl) rfl hkey

end Sys2Proof.Machine
end

