-- ==== Sys2Proof/Laws/Frame/ChainNet.lean ====
section
/-! SUPPORT. What the operations of Machine/ChainNet.lean leave alone. -/

namespace Sys2Proof.Machine

theorem State.setCport_outside {M : Touch} {r : State} {s : State} {p : Side} {x : ChainPort} (hChainPorts : M.chainPorts = true) (hs : s.outside M = r) :
    (State.setCport s p x).outside M = r := by
  unfold State.setCport
  split
  · extract_lets +onlyGivenNames -merge -underBinder x0
    unfold x0
    clear x0
    refine Eq.trans (State.outside_chain_chainPorts (h0 := hChainPorts) ..) ?_
    exact hs
  · extract_lets +onlyGivenNames -merge -underBinder x1
    unfold x1
    clear x1
    refine Eq.trans (State.outside_chain_chainPorts (h0 := hChainPorts) ..) ?_
    exact hs

theorem State.setCport_keeps {s : State} {p : Side} {x : ChainPort} : Kept17 s (State.setCport s p x) :=
  .of (State.setCport_outside rfl rfl)

theorem State.queueAt_outside {M : Touch} {r : State} {s : State} {p : Side} {f : ChainFrame} (hChainPorts : M.chainPorts = true) (hNums : M.Nums Nums11) (hs : s.outside M = r) :
    (State.queueAt s p f).outside M = r := by
  unfold State.queueAt
  extract_lets +onlyGivenNames -merge -underBinder x0
  try clear_value x0
  refine ite_outside ?_ ?_
  · refine State.setCport_outside hChainPorts ?_
    exact hs
  · refine State.bump_outside (hNums.at Key.fam_noRoute rfl) ?_
    exact hs

theorem State.queueAt_keeps {s : State} {p : Side} {f : ChainFrame} : Kept18 s (State.queueAt s p f) :=
  .of (State.queueAt_outside rfl rfl rfl)

theorem State.queueAt_rd {s : State} {p : Side} {f : ChainFrame} {kk : Nat} (hkey : Nums11.contains (Key.fam kk) = false) : (State.queueAt s p f).rd kk = s.rd kk :=
  State.rd_of_outside (M := .but Nums11) (State.queueAt_outside rfl .self rfl) rfl hkey

theorem State.sendPort_outside {M : Touch} {r : State} {s : State} {p : Side} {body : ChainBody} {len : Nat} (hChainPorts : M.chainPorts = true) (hNums : M.Nums Nums11) (hs : s.outside M = r) :
    (State.sendPort s p body len).outside M = r := by
  unfold State.sendPort
  refine State.queueAt_outside hChainPorts hNums ?_
  exact hs

theorem State.sendPort_keeps {s : State} {p : Side} {body : ChainBody} {len : Nat} : Kept18 s (State.sendPort s p body len) :=
  .of (State.sendPort_outside rfl rfl rfl)

theorem State.sendPort_rd {s : State} {p : Side} {body : ChainBody} {len : Nat} {kk : Nat} (hkey : Nums11.contains (Key.fam kk) = false) : (State.sendPort s p body len).rd kk = s.rd kk :=
  State.rd_of_outside (M := .but Nums11) (State.sendPort_outside rfl .self rfl) rfl hkey

theorem State.broadcast_outside {M : Touch} {r : State} {s : State} {f : ChainFrame} (hChainPorts : M.chainPorts = true) (hNums : M.Nums Nums11) (hs : s.outside M = r) :
    (State.broadcast s f).outside M = r := by
  unfold State.broadcast
  extract_lets +onlyGivenNames -merge -underBinder x0
  have q1 : State.outside M x0 = r := by
    unfold x0
    refine ite_outside ?_ ?_
    · refine State.queueAt_outside hChainPorts hNums ?_
      exact hs
    · exact hs
  try clear_value x0
  refine ite_outside ?_ ?_
  · refine State.queueAt_outside hChainPorts hNums ?_
    exact hs
  · refine ite_outside ?_ ?_
    · refine State.queueAt_outside hChainPorts hNums ?_
      exact q1
    · exact q1

theorem State.broadcast_keeps {s : State} {f : ChainFrame} : Kept18 s (State.broadcast s f) :=
  .of (State.broadcast_outside rfl rfl rfl)

theorem State.broadcast_rd {s : State} {f : ChainFrame} {kk : Nat} (hkey : Nums11.contains (Key.fam kk) = false) : (State.broadcast s f).rd kk = s.rd kk :=
  State.rd_of_outside (M := .but Nums11) (State.broadcast_outside rfl .self rfl) rfl hkey

theorem State.sendChain_outside {M : Touch} {r : State} {s : State} {dst : Nat} {cls : Nat} {tenant : Nat} {len : Nat} {tag : Nat} {body : ChainBody} (hChainPorts : M.chainPorts = true) (hNums : M.Nums Nums11) (hs : s.outside M = r) :
    (State.sendChain s dst cls tenant len tag body).outside M = r := by
  unfold State.sendChain
  extract_lets +onlyGivenNames -merge -underBinder x0
  try clear_value x0
  extract_lets +onlyGivenNames -merge -underBinder x1
  try clear_value x1
  refine ite_outside ?_ ?_
  · exact hs
  · refine ite_outside ?_ ?_
    · refine State.broadcast_outside hChainPorts hNums ?_
      exact hs
    · split
      · refine State.queueAt_outside hChainPorts hNums ?_
        exact hs
      · refine State.bump_outside (hNums.at Key.fam_noRoute rfl) ?_
        exact hs

theorem State.sendChain_keeps {s : State} {dst : Nat} {cls : Nat} {tenant : Nat} {len : Nat} {tag : Nat} {body : ChainBody} : Kept18 s (State.sendChain s dst cls tenant len tag body) :=
  .of (State.sendChain_outside rfl rfl rfl)

theorem State.sendChain_rd {s : State} {dst : Nat} {cls : Nat} {tenant : Nat} {len : Nat} {tag : Nat} {body : ChainBody} {kk : Nat} (hkey : Nums11.contains (Key.fam kk) = false) : (State.sendChain s dst cls tenant len tag body).rd kk = s.rd kk :=
  State.rd_of_outside (M := .but Nums11) (State.sendChain_outside rfl .self rfl) rfl hkey

theorem State.credit_outside {M : Touch} {r : State} {s : State} {p : Side} {lane : Nat} {units : Nat} (hChainPorts : M.chainPorts = true) (hs : s.outside M = r) :
    (State.credit s p lane units).outside M = r := by
  unfold State.credit
  extract_lets +onlyGivenNames -merge -underBinder x0
  try clear_value x0
  refine State.setCport_outside hChainPorts ?_
  exact hs

theorem State.credit_keeps {s : State} {p : Side} {lane : Nat} {units : Nat} : Kept17 s (State.credit s p lane units) :=
  .of (State.credit_outside rfl rfl)

end Sys2Proof.Machine
end

