-- ==== Sys2Proof/Laws/Frame/Cinch.lean ====
section
/-! SUPPORT. What the operations of Machine/Cinch.lean leave alone. -/

namespace Sys2Proof.Machine

theorem State.setTokens_outside {M : Touch} {r : State} {s : State} {x : Int} (hNums : M.Nums Nums27) (hs : s.outside M = r) :
    (State.setTokens s x).outside M = r := by
  unfold State.setTokens
  refine State.wr_outside (hNums.at Key.fam_cinchTokens rfl) ?_
  exact hs

theorem State.setTokens_keeps {s : State} {x : Int} : Kept1 s (State.setTokens s x) :=
  .of (State.setTokens_outside rfl rfl)

theorem State.setTokens_rd {s : State} {x : Int} {kk : Nat} (hkey : Nums27.contains (Key.fam kk) = false) : (State.setTokens s x).rd kk = s.rd kk :=
  State.rd_of_outside (M := .but Nums27) (State.setTokens_outside .self rfl) rfl hkey

theorem State.release_outside {M : Touch} {r : State} {s : State} {e : Nat} (hNums : M.Nums Nums27) (hs : s.outside M = r) :
    (State.release s e).outside M = r := by
  unfold State.release
  refine State.setTokens_outside hNums ?_
  exact hs

theorem State.release_keeps {s : State} {e : Nat} : Kept1 s (State.release s e) :=
  .of (State.release_outside rfl rfl)

theorem State.release_rd {s : State} {e : Nat} {kk : Nat} (hkey : Nums27.contains (Key.fam kk) = false) : (State.release s e).rd kk = s.rd kk :=
  State.rd_of_outside (M := .but Nums27) (State.release_outside .self rfl) rfl hkey

theorem State.setCinch_outside {M : Touch} {r : State} {s : State} {c : Cinch} (hCinch : M.cinch = true) (hs : s.outside M = r) :
    (State.setCinch s c).outside M = r := by
  unfold State.setCinch
  extract_lets +onlyGivenNames -merge -underBinder x0
  unfold x0
  clear x0
  refine Eq.trans (State.outside_girth_cinch (h0 := hCinch) ..) ?_
  exact hs

theorem State.setCinch_keeps {s : State} {c : Cinch} : Kept19 s (State.setCinch s c) :=
  .of (State.setCinch_outside rfl rfl)

theorem State.resetCinch_outside {M : Touch} {r : State} {s : State} (hNums : M.Nums Nums33) (hCinch : M.cinch = true) (hs : s.outside M = r) :
    (State.resetCinch s).outside M = r := by
  unfold State.resetCinch
  extract_lets +onlyGivenNames -merge -underBinder x0
  try clear_value x0
  extract_lets +onlyGivenNames -merge -underBinder x1
  have q2 : State.outside M x1 = r := by
    unfold x1
    refine State.setCinch_outside hCinch ?_
    exact hs
  try clear_value x1
  refine State.wr_outside (hNums.at Key.fam_cinchStage rfl) ?_
  refine State.setTokens_outside (hNums.sub rfl) ?_
  exact q2

theorem State.resetCinch_keeps {s : State} : Kept20 s (State.resetCinch s) :=
  .of (State.resetCinch_outside rfl rfl rfl)

theorem State.resetCinch_rd {s : State} {kk : Nat} (hkey : Nums33.contains (Key.fam kk) = false) : (State.resetCinch s).rd kk = s.rd kk :=
  State.rd_of_outside (M := .but Nums33) (State.resetCinch_outside .self rfl rfl) rfl hkey

theorem State.shed_outside {M : Touch} {r : State} {s : State} {code : Nat} (hNums : M.Nums Nums48) (hs : s.outside M = r) :
    (State.shed s code).outside M = r := by
  unfold State.shed
  refine State.bump_outside (hNums.at Key.fam_shedCount rfl) ?_
  exact hs

theorem State.shed_keeps {s : State} {code : Nat} : Kept1 s (State.shed s code) :=
  .of (State.shed_outside rfl rfl)

theorem State.shed_rd {s : State} {code : Nat} {kk : Nat} (hkey : Nums48.contains (Key.fam kk) = false) : (State.shed s code).rd kk = s.rd kk :=
  State.rd_of_outside (M := .but Nums48) (State.shed_outside .self rfl) rfl hkey

theorem State.grant_outside {M : Touch} {r : State} {s : State} {code : Option Nat} {e : Nat} (hNums : M.Nums Nums49) (hCinch : M.cinch = true) (hs : s.outside M = r) :
    (State.grant s code e).1.outside M = r := by
  unfold State.grant
  extract_lets +onlyGivenNames -merge -underBinder x0
  try clear_value x0
  extract_lets +onlyGivenNames -merge -underBinder x1
  have q2 : ∀ u3 : State, State.outside M u3 = r → State.outside M (x1 u3) = r := by
    unfold x1
    · intro t4 q5
      refine State.setCinch_outside hCinch ?_
      refine State.setTokens_outside (hNums.sub rfl) ?_
      exact q5
  try clear_value x1
  split
  · refine fst_outside ?_
    refine q2 _ ?_
    exact hs
  · refine ite_fst_outside ?_ ?_
    · refine fst_outside ?_
      refine State.shed_outside (hNums.sub rfl) ?_
      exact hs
    · refine fst_outside ?_
      refine q2 _ ?_
      exact hs

theorem State.grant_keeps {s : State} {code : Option Nat} {e : Nat} : Kept20 s (State.grant s code e).1 :=
  .of (State.grant_outside rfl rfl rfl)

theorem State.grant_rd {s : State} {code : Option Nat} {e : Nat} {kk : Nat} (hkey : Nums49.contains (Key.fam kk) = false) : (State.grant s code e).1.rd kk = s.rd kk :=
  State.rd_of_outside (M := .but Nums49) (State.grant_outside .self rfl rfl) rfl hkey

theorem State.applyCeiling_outside {M : Touch} {r : State} {s : State} (hCinch : M.cinch = true) (hs : s.outside M = r) :
    (State.applyCeiling s).outside M = r := by
  unfold State.applyCeiling
  extract_lets +onlyGivenNames -merge -underBinder x0
  try clear_value x0
  refine State.setCinch_outside hCinch ?_
  exact hs

theorem State.applyCeiling_keeps {s : State} : Kept19 s (State.applyCeiling s) :=
  .of (State.applyCeiling_outside rfl rfl)

theorem tickPos_outside {M : Touch} {r : State} {tmax : Nat} {s : State} {k : Nat} (hNums : M.Nums Nums48) (hCinch : M.cinch = true) (hs : s.outside M = r) :
    (tickPos tmax s k).outside M = r := by
  unfold tickPos
  extract_lets +onlyGivenNames -merge -underBinder x0
  try clear_value x0
  extract_lets +onlyGivenNames -merge -underBinder x1
  try clear_value x1
  extract_lets +onlyGivenNames -merge -underBinder x2
  try clear_value x2
  extract_lets +onlyGivenNames -merge -underBinder x3
  try clear_value x3
  extract_lets +onlyGivenNames -merge -underBinder x4
  try clear_value x4
  extract_lets +onlyGivenNames -merge -underBinder x5
  have q6 : State.outside M x5 = r := by
    unfold x5
    refine ite_outside ?_ ?_
    · refine State.shed_outside hNums ?_
      exact hs
    · exact hs
  try clear_value x5
  extract_lets +onlyGivenNames -merge -underBinder x7
  try clear_value x7
  extract_lets +onlyGivenNames -merge -underBinder x8
  try clear_value x8
  refine State.setCinch_outside hCinch ?_
  exact q6

theorem tickPos_keeps {tmax : Nat} {s : State} {k : Nat} : Kept20 s (tickPos tmax s k) :=
  .of (tickPos_outside rfl rfl rfl)

theorem tickPos_rd {tmax : Nat} {s : State} {k : Nat} {kk : Nat} (hkey : Nums48.contains (Key.fam kk) = false) : (tickPos tmax s k).rd kk = s.rd kk :=
  State.rd_of_outside (M := .but Nums48) (tickPos_outside .self rfl rfl) rfl hkey

theorem State.cinchTick_outside {M : Touch} {r : State} {s : State} {pCont : Nat} (hDict : M.dict = true) (hNums : M.Nums Nums104) (hLogs : M.logs = true) (hCinch : M.cinch = true) (hStraps : M.straps = true) (hJournal : M.journal = true) (hEdges : M.edges = true) (hFlags : M.flags = true) (hs : s.outside M = r) :
    (State.cinchTick s pCont).outside M = r := by
  unfold State.cinchTick
  extract_lets +onlyGivenNames -merge -underBinder x0
  try clear_value x0
  extract_lets +onlyGivenNames -merge -underBinder x1
  try clear_value x1
  extract_lets +onlyGivenNames -merge -underBinder x2
  try clear_value x2
  extract_lets +onlyGivenNames -merge -underBinder x3
  try clear_value x3
  extract_lets +onlyGivenNames -merge -underBinder x4
  try clear_value x4
  extract_lets +onlyGivenNames -merge -underBinder x5
  have q6 : State.outside M x5 = r := by
    unfold x5
    refine State.setTokens_outside (hNums.sub rfl) ?_
    refine State.setCinch_outside hCinch ?_
    exact hs
  try clear_value x5
  extract_lets +onlyGivenNames -merge -underBinder x7
  have q8 : State.outside M x7 = r := by
    unfold x7
    refine State.each_outside ?_ ?_
    · intro t9 q10 z11
      refine tickPos_outside (hNums.sub rfl) hCinch ?_
      exact q10
    · exact q6
  try clear_value x7
  extract_lets +onlyGivenNames -merge -underBinder x12
  have q13 : State.outside M x12 = r := by
    unfold x12
    refine State.wr_outside (hNums.at Key.fam_cinchStage rfl) ?_
    exact q8
  try clear_value x12
  extract_lets +onlyGivenNames -merge -underBinder x14
  try clear_value x14
  extract_lets +onlyGivenNames -merge -underBinder x15
  have q16 : State.outside M x15 = r := by
    unfold x15
    refine State.wr_outside (hNums.at Key.fam_cinchPowerMw rfl) ?_
    exact q13
  try clear_value x15
  extract_lets +onlyGivenNames -merge -underBinder x17
  try clear_value x17
  extract_lets +onlyGivenNames -merge -underBinder x18
  try clear_value x18
  extract_lets +onlyGivenNames -merge -underBinder x19
  try clear_value x19
  extract_lets +onlyGivenNames -merge -underBinder x20
  have q21 : State.outside M x20 = r := by
    unfold x20
    refine ite_outside ?_ ?_
    · refine State.setCinch_outside hCinch ?_
      refine State.post_outside hDict (hNums.sub rfl) hLogs hStraps hJournal hEdges hFlags ?_
      exact q16
    · refine ite_outside ?_ ?_
      · refine State.setCinch_outside hCinch ?_
        exact q16
      · exact q16
  try clear_value x20
  extract_lets +onlyGivenNames -merge -underBinder x22
  try clear_value x22
  refine State.applyCeiling_outside hCinch ?_
  refine State.setCinch_outside hCinch ?_
  exact q21

theorem State.cinchTick_keeps {s : State} {pCont : Nat} : Kept21 s (State.cinchTick s pCont) :=
  .of (State.cinchTick_outside rfl rfl rfl rfl rfl rfl rfl rfl rfl)

theorem State.cinchTick_rd {s : State} {pCont : Nat} {kk : Nat} (hkey : Nums104.contains (Key.fam kk) = false) : (State.cinchTick s pCont).rd kk = s.rd kk :=
  State.rd_of_outside (M := .but Nums104) (State.cinchTick_outside rfl .self rfl rfl rfl rfl rfl rfl rfl) rfl hkey

theorem State.readSensors_outside {M : Touch} {r : State} {s : State} {tj : List Int} (hDict : M.dict = true) (hNums : M.Nums Nums138) (hLogs : M.logs = true) (hCinch : M.cinch = true) (hStraps : M.straps = true) (hJournal : M.journal = true) (hEdges : M.edges = true) (hFlags : M.flags = true) (hs : s.outside M = r) :
    (State.readSensors s tj).outside M = r := by
  unfold State.readSensors
  extract_lets +onlyGivenNames -merge -underBinder x0
  have q1 : State.outside M x0 = r := by
    unfold x0
    refine State.each_outside ?_ ?_
    · intro t2 q3 z4
      refine State.wr_outside (hNums.at Key.fam_tjSensor rfl) ?_
      exact q3
    · exact hs
  try clear_value x0
  extract_lets +onlyGivenNames -merge -underBinder x5
  try clear_value x5
  extract_lets +onlyGivenNames -merge -underBinder x6
  have q7 : State.outside M x6 = r := by
    unfold x6
    refine State.wr_outside (hNums.at Key.fam_tjMax rfl) ?_
    exact q1
  try clear_value x6
  extract_lets +onlyGivenNames -merge -underBinder x8
  try clear_value x8
  extract_lets +onlyGivenNames -merge -underBinder x9
  have q10 : State.outside M x9 = r := by
    unfold x9
    refine ite_outside ?_ ?_
    · refine State.post_outside hDict (hNums.sub rfl) hLogs hStraps hJournal hEdges hFlags ?_
      exact q7
    · exact q7
  try clear_value x9
  extract_lets +onlyGivenNames -merge -underBinder x11
  try clear_value x11
  refine State.setCinch_outside hCinch ?_
  exact q10

theorem State.readSensors_keeps {s : State} {tj : List Int} : Kept21 s (State.readSensors s tj) :=
  .of (State.readSensors_outside rfl rfl rfl rfl rfl rfl rfl rfl rfl)

theorem State.readSensors_rd {s : State} {tj : List Int} {kk : Nat} (hkey : Nums138.contains (Key.fam kk) = false) : (State.readSensors s tj).rd kk = s.rd kk :=
  State.rd_of_outside (M := .but Nums138) (State.readSensors_outside rfl .self rfl rfl rfl rfl rfl rfl rfl) rfl hkey

theorem execCinchTick_outside {M : Touch} {r : State} {pCont : Nat} {tj : List Int} {s : State} (hDict : M.dict = true) (hNums : M.Nums Nums150) (hLogs : M.logs = true) (hCinch : M.cinch = true) (hStraps : M.straps = true) (hJournal : M.journal = true) (hEdges : M.edges = true) (hFlags : M.flags = true) (hs : s.outside M = r) :
    NextOutside M r (execCinchTick pCont tj s) := by
  unfold execCinchTick
  refine next_outside ?_
  refine State.cinchTick_outside hDict (hNums.sub rfl) hLogs hCinch hStraps hJournal hEdges hFlags ?_
  refine ite_outside ?_ ?_
  · exact hs
  · refine State.readSensors_outside hDict (hNums.sub rfl) hLogs hCinch hStraps hJournal hEdges hFlags ?_
    exact hs

end Sys2Proof.Machine
end

