-- ==== Sys2Proof/Laws/Frame/Curb.lean ====
section
/-! SUPPORT. What the operations of Machine/Curb.lean leave alone. -/

namespace Sys2Proof.Machine

theorem State.setOutQ_outside {M : Touch} {r : State} {s : State} {h : Nat} {c : Nat} {q : OutQ} (hHar : M.har = true) (hQueues : M.queues = true) (hs : s.outside M = r) :
    (State.setOutQ s h c q).outside M = r := by
  unfold State.setOutQ
  extract_lets +onlyGivenNames -merge -underBinder x0
  unfold x0
  clear x0
  rw [← hs]; simp only [State.outside, hQueues, hHar, cond_true]

theorem State.setOutQ_keeps {s : State} {h : Nat} {c : Nat} {q : OutQ} : Kept22 s (State.setOutQ s h c q) :=
  .of (State.setOutQ_outside rfl rfl rfl)

theorem State.setPolicer_outside {M : Touch} {r : State} {s : State} {t : Nat} {c : Nat} {p : Policer} (hCurb : M.curb = true) (hs : s.outside M = r) :
    (State.setPolicer s t c p).outside M = r := by
  unfold State.setPolicer
  extract_lets +onlyGivenNames -merge -underBinder x0
  try clear_value x0
  extract_lets +onlyGivenNames -merge -underBinder x1
  try clear_value x1
  refine Eq.trans (State.outside_curb (h0 := hCurb) ..) ?_
  exact hs

theorem State.setPolicer_keeps {s : State} {t : Nat} {c : Nat} {p : Policer} : Kept23 s (State.setPolicer s t c p) :=
  .of (State.setPolicer_outside rfl rfl)

theorem State.calendarEnter_outside {M : Touch} {r : State} {s : State} {q : Nat} {at256 : Nat} (hCurb : M.curb = true) (hs : s.outside M = r) :
    (State.calendarEnter s q at256).outside M = r := by
  unfold State.calendarEnter
  extract_lets +onlyGivenNames -merge -underBinder x0
  try clear_value x0
  extract_lets +onlyGivenNames -merge -underBinder x1
  try clear_value x1
  extract_lets +onlyGivenNames -merge -underBinder x2
  try clear_value x2
  refine ite_outside ?_ ?_
  · exact hs
  · refine Eq.trans (State.outside_curb (h0 := hCurb) ..) ?_
    exact hs

theorem State.calendarEnter_keeps {s : State} {q : Nat} {at256 : Nat} : Kept23 s (State.calendarEnter s q at256) :=
  .of (State.calendarEnter_outside rfl rfl)

theorem State.setShaper_outside {M : Touch} {r : State} {s : State} {t : Nat} {x : Nat} {v : Shaper} (hCurb : M.curb = true) (hs : s.outside M = r) :
    (State.setShaper s t x v).outside M = r := by
  unfold State.setShaper
  extract_lets +onlyGivenNames -merge -underBinder x0
  try clear_value x0
  extract_lets +onlyGivenNames -merge -underBinder x1
  try clear_value x1
  refine Eq.trans (State.outside_curb (h0 := hCurb) ..) ?_
  exact hs

theorem State.setShaper_keeps {s : State} {t : Nat} {x : Nat} {v : Shaper} : Kept23 s (State.setShaper s t x v) :=
  .of (State.setShaper_outside rfl rfl)

theorem State.shaperNow_outside {M : Touch} {r : State} {s : State} {t : Nat} {x : Nat} (hCurb : M.curb = true) (hs : s.outside M = r) :
    (State.shaperNow s t x).outside M = r := by
  unfold State.shaperNow
  extract_lets +onlyGivenNames -merge -underBinder x0
  try clear_value x0
  extract_lets +onlyGivenNames -merge -underBinder x1
  try clear_value x1
  refine ite_outside ?_ ?_
  · exact hs
  · refine State.setShaper_outside hCurb ?_
    exact hs

theorem State.shaperNow_keeps {s : State} {t : Nat} {x : Nat} : Kept23 s (State.shaperNow s t x) :=
  .of (State.shaperNow_outside rfl rfl)

theorem State.police_outside {M : Touch} {r : State} {s : State} {t : Nat} {c : Nat} {b : Nat} {tc : Option Nat} (hNums : M.Nums Nums116) (hCurb : M.curb = true) (hs : s.outside M = r) :
    (State.police s t c b tc).1.outside M = r := by
  unfold State.police
  extract_lets +onlyGivenNames -merge -underBinder x0
  try clear_value x0
  extract_lets +onlyGivenNames -merge -underBinder x1
  try clear_value x1
  extract_lets +onlyGivenNames -merge -underBinder x2
  try clear_value x2
  extract_lets +onlyGivenNames -merge -underBinder x3
  try clear_value x3
  extract_lets +onlyGivenNames -merge -underBinder x4
  try clear_value x4
  extract_lets +onlyGivenNames -merge -underBinder x5
  try clear_value x5
  extract_lets +onlyGivenNames -merge -underBinder x6
  try clear_value x6
  extract_lets +onlyGivenNames -merge -underBinder x7
  try clear_value x7
  extract_lets +onlyGivenNames -merge -underBinder x8
  try clear_value x8
  extract_lets +onlyGivenNames -merge -underBinder x9
  try clear_value x9
  extract_lets +onlyGivenNames -merge -underBinder x10
  try clear_value x10
  refine ite_fst_outside ?_ ?_
  · refine fst_outside ?_
    exact hs
  · split
    · extract_lets +onlyGivenNames -merge -underBinder x11
      have q12 : State.outside M x11 = r := by
        unfold x11
        refine State.setPolicer_outside hCurb ?_
        exact hs
      try clear_value x11
      split
      · refine fst_outside ?_
        refine State.bump_outside (hNums.at Key.fam_polGreen rfl) ?_
        exact q12
      · refine fst_outside ?_
        refine State.bump_outside (hNums.at Key.fam_polYellow rfl) ?_
        exact q12
      · refine fst_outside ?_
        refine State.bump_outside (hNums.at Key.fam_polRed rfl) ?_
        exact q12

theorem State.police_keeps {s : State} {t : Nat} {c : Nat} {b : Nat} {tc : Option Nat} : Kept24 s (State.police s t c b tc).1 :=
  .of (State.police_outside rfl rfl rfl)

theorem State.police_rd {s : State} {t : Nat} {c : Nat} {b : Nat} {tc : Option Nat} {kk : Nat} (hkey : Nums116.contains (Key.fam kk) = false) : (State.police s t c b tc).1.rd kk = s.rd kk :=
  State.rd_of_outside (M := .but Nums116) (State.police_outside .self rfl rfl) rfl hkey

theorem State.shaperDepart_outside {M : Touch} {r : State} {s : State} {t : Nat} {x : Nat} {b : Nat} {since : Nat} (hCurb : M.curb = true) (hs : s.outside M = r) :
    (State.shaperDepart s t x b since).outside M = r := by
  unfold State.shaperDepart
  extract_lets +onlyGivenNames -merge -underBinder x0
  try clear_value x0
  extract_lets +onlyGivenNames -merge -underBinder x1
  try clear_value x1
  extract_lets +onlyGivenNames -merge -underBinder x2
  try clear_value x2
  refine State.setShaper_outside hCurb ?_
  exact hs

theorem State.shaperDepart_keeps {s : State} {t : Nat} {x : Nat} {b : Nat} {since : Nat} : Kept23 s (State.shaperDepart s t x b since) :=
  .of (State.shaperDepart_outside rfl rfl)

theorem execShaperCalendarFire_outside {M : Touch} {r : State} {dt : Nat} {s : State} (hClock : M.clock = true) (hVbat : M.vbat = true) (hCurb : M.curb = true) (hs : s.outside M = r) :
    NextOutside M r (execShaperCalendarFire dt s) := by
  unfold execShaperCalendarFire
  extract_lets +onlyGivenNames -merge -underBinder x0
  have q1 : State.outside M x0 = r := by
    unfold x0
    refine State.advance_outside hClock hVbat ?_
    exact hs
  try clear_value x0
  extract_lets +onlyGivenNames -merge -underBinder x2
  try clear_value x2
  extract_lets +onlyGivenNames -merge -underBinder x3
  try clear_value x3
  extract_lets +onlyGivenNames -merge -underBinder x4
  try clear_value x4
  extract_lets +onlyGivenNames -merge -underBinder x5
  have q6 : State.outside M x5 = r := by
    unfold x5
    refine Eq.trans (State.outside_curb (h0 := hCurb) ..) ?_
    exact q1
  try clear_value x5
  refine next_outside ?_
  refine State.each_outside ?_ ?_
  · intro t7 q8 z9
    extract_lets +onlyGivenNames -merge -underBinder x10
    try clear_value x10
    extract_lets +onlyGivenNames -merge -underBinder x11
    try clear_value x11
    split
    · extract_lets +onlyGivenNames -merge -underBinder x12
      try clear_value x12
      refine ite_outside ?_ ?_
      · refine State.calendarEnter_outside hCurb ?_
        exact q8
      · exact q8
    · exact q8
  · exact q6

theorem execCurbSample_outside {M : Touch} {r : State} {tenant : Fin 256} {dt : Nat} {s : State} (hClock : M.clock = true) (hNums : M.Nums Nums1) (hVbat : M.vbat = true) (hStraps : M.straps = true) (hCurb : M.curb = true) (hFlags : M.flags = true) (hs : s.outside M = r) :
    NextOutside M r (execCurbSample tenant dt s) := by
  unfold execCurbSample
  extract_lets +onlyGivenNames -merge -underBinder x0
  have q1 : State.outside M x0 = r := by
    unfold x0
    refine State.advance_outside hClock hVbat ?_
    exact hs
  try clear_value x0
  extract_lets +onlyGivenNames -merge -underBinder x2
  try clear_value x2
  extract_lets +onlyGivenNames -merge -underBinder x3
  have q4 : State.outside M x3 = r := by
    unfold x3
    refine State.each_outside ?_ ?_
    · intro t5 q6 z7
      refine State.strapDrop_outside hNums hStraps ?_
      exact q6
    · exact q1
  try clear_value x3
  extract_lets +onlyGivenNames -merge -underBinder x8
  have q9 : State.outside M x8 = r := by
    unfold x8
    refine State.strapPush_outside hNums hStraps hFlags ?_
    exact q4
  try clear_value x8
  extract_lets +onlyGivenNames -merge -underBinder x10
  try clear_value x10
  extract_lets +onlyGivenNames -merge -underBinder x11
  have q12 : State.outside M x11 = r := by
    unfold x11
    refine Eq.trans (State.outside_curb (h0 := hCurb) ..) ?_
    exact q9
  try clear_value x11
  refine next_outside ?_
  refine ite_outside ?_ ?_
  · exact q1
  · refine State.each_outside ?_ ?_
    · intro t13 q14 z15
      extract_lets +onlyGivenNames -merge -underBinder x16
      try clear_value x16
      refine ite_outside ?_ ?_
      · refine State.setShaper_outside hCurb ?_
        exact q14
      · exact q14
    · exact q12

end Sys2Proof.Machine
end

