-- ==== Sys2Proof/Laws/Frame/Wheel.lean ====
section
/-! SUPPORT. What the operations of Machine/Wheel.lean leave alone. -/

namespace Sys2Proof.Machine

theorem State.setSched_outside {M : Touch} {r : State} {s : State} {c : Sched} (hSched : M.sched = true) (hs : s.outside M = r) :
    (State.setSched s c).outside M = r := by
  unfold State.setSched
  extract_lets +onlyGivenNames -merge -underBinder x0
  unfold x0
  clear x0
  refine Eq.trans (State.outside_girth_sched (h0 := hSched) ..) ?_
  exact hs

theorem State.setSched_keeps {s : State} {c : Sched} : Kept26 s (State.setSched s c) :=
  .of (State.setSched_outside rfl rfl)

theorem State.wheelDrop_outside {M : Touch} {r : State} {s : State} {p : Due → Bool} (hSched : M.sched = true) (hs : s.outside M = r) :
    (State.wheelDrop s p).outside M = r := by
  unfold State.wheelDrop
  extract_lets +onlyGivenNames -merge -underBinder x0
  try clear_value x0
  extract_lets +onlyGivenNames -merge -underBinder x1
  try clear_value x1
  refine State.setSched_outside hSched ?_
  exact hs

theorem State.wheelDrop_keeps {s : State} {p : Due → Bool} : Kept26 s (State.wheelDrop s p) :=
  .of (State.wheelDrop_outside rfl rfl)

theorem State.wheelEnter_outside {M : Touch} {r : State} {s : State} {ms : Nat} {d : Due} (hNums : M.Nums Nums58) (hSched : M.sched = true) (hs : s.outside M = r) :
    (State.wheelEnter s ms d).outside M = r := by
  unfold State.wheelEnter
  extract_lets +onlyGivenNames -merge -underBinder x0
  try clear_value x0
  extract_lets +onlyGivenNames -merge -underBinder x1
  try clear_value x1
  split
  · extract_lets +onlyGivenNames -merge -underBinder x2
    have q3 : State.outside M x2 = r := by
      unfold x2
      refine State.bump_outside (hNums.at Key.fam_schedWheelSpill rfl) ?_
      exact hs
    try clear_value x2
    refine ite_outside ?_ ?_
    · refine State.setSched_outside hSched ?_
      exact hs
    · refine ite_outside ?_ ?_
      · refine State.setSched_outside hSched ?_
        exact q3
      · refine State.setSched_outside hSched ?_
        exact q3
  · refine ite_outside ?_ ?_
    · refine State.setSched_outside hSched ?_
      exact hs
    · exact hs

theorem State.wheelEnter_keeps {s : State} {ms : Nat} {d : Due} : Kept27 s (State.wheelEnter s ms d) :=
  .of (State.wheelEnter_outside rfl rfl rfl)

theorem State.wheelEnter_rd {s : State} {ms : Nat} {d : Due} {kk : Nat} (hkey : Nums58.contains (Key.fam kk) = false) : (State.wheelEnter s ms d).rd kk = s.rd kk :=
  State.rd_of_outside (M := .but Nums58) (State.wheelEnter_outside .self rfl rfl) rfl hkey

theorem State.askRebuild_outside {M : Touch} {r : State} {s : State} {cause : Nat} (hSched : M.sched = true) (hs : s.outside M = r) :
    (State.askRebuild s cause).outside M = r := by
  unfold State.askRebuild
  extract_lets +onlyGivenNames -merge -underBinder x0
  try clear_value x0
  refine ite_outside ?_ ?_
  · exact hs
  · refine State.setSched_outside hSched ?_
    exact hs

theorem State.askRebuild_keeps {s : State} {cause : Nat} : Kept26 s (State.askRebuild s cause) :=
  .of (State.askRebuild_outside rfl rfl)

theorem State.enterOnce_outside {M : Touch} {r : State} {s : State} {ms : Nat} {d : Due} (hNums : M.Nums Nums58) (hSched : M.sched = true) (hs : s.outside M = r) :
    (State.enterOnce s ms d).outside M = r := by
  unfold State.enterOnce
  refine ite_outside ?_ ?_
  · exact hs
  · refine State.wheelEnter_outside hNums hSched ?_
    exact hs

theorem State.enterOnce_keeps {s : State} {ms : Nat} {d : Due} : Kept27 s (State.enterOnce s ms d) :=
  .of (State.enterOnce_outside rfl rfl rfl)

theorem State.enterOnce_rd {s : State} {ms : Nat} {d : Due} {kk : Nat} (hkey : Nums58.contains (Key.fam kk) = false) : (State.enterOnce s ms d).rd kk = s.rd kk :=
  State.rd_of_outside (M := .but Nums58) (State.enterOnce_outside .self rfl rfl) rfl hkey

theorem State.takeFired_outside {M : Touch} {r : State} {s : State} {p : Due → Bool} (hSched : M.sched = true) (hs : s.outside M = r) :
    (State.takeFired s p).1.outside M = r := by
  unfold State.takeFired
  extract_lets +onlyGivenNames -merge -underBinder x0
  try clear_value x0
  split
  · refine fst_outside ?_
    refine State.setSched_outside hSched ?_
    exact hs
  · refine fst_outside ?_
    exact hs

theorem State.takeFired_keeps {s : State} {p : Due → Bool} : Kept26 s (State.takeFired s p).1 :=
  .of (State.takeFired_outside rfl rfl)

end Sys2Proof.Machine
end

