-- ==== Sys2Proof/Laws/Frame/Strap.lean ====
section
/-! SUPPORT. What the operations of Machine/Strap.lean leave alone. -/

namespace Sys2Proof.Machine

theorem State.setNodeQ_outside {M : Touch} {r : State} {s : State} {a0 : Nat} {x : NodeQ} (hNodeQueues : M.nodeQueues = true) (hs : s.outside M = r) :
    (State.setNodeQ s a0 x).outside M = r := by
  unfold State.setNodeQ
  extract_lets +onlyGivenNames -merge -underBinder x1
  unfold x1
  clear x1
  refine Eq.trans (State.outside_sb_nodeQueues (h0 := hNodeQueues) ..) ?_
  exact hs

theorem State.setNodeQ_keeps {s : State} {a0 : Nat} {x : NodeQ} : Kept28 s (State.setNodeQ s a0 x) :=
  .of (State.setNodeQ_outside rfl rfl)

theorem State.nodePop_outside {M : Touch} {r : State} {s : State} {a0 : Nat} (hNodeQueues : M.nodeQueues = true) (hs : s.outside M = r) :
    (State.nodePop s a0).outside M = r := by
  unfold State.nodePop
  extract_lets +onlyGivenNames -merge -underBinder x1
  try clear_value x1
  refine State.setNodeQ_outside hNodeQueues ?_
  exact hs

theorem State.nodePop_keeps {s : State} {a0 : Nat} : Kept28 s (State.nodePop s a0) :=
  .of (State.nodePop_outside rfl rfl)

theorem State.modHead_outside {M : Touch} {r : State} {s : State} {a0 : Nat} {f : NodeFrame → NodeFrame} (hNodeQueues : M.nodeQueues = true) (hs : s.outside M = r) :
    (State.modHead s a0 f).outside M = r := by
  unfold State.modHead
  extract_lets +onlyGivenNames -merge -underBinder x1
  try clear_value x1
  refine State.setNodeQ_outside hNodeQueues ?_
  exact hs

theorem State.modHead_keeps {s : State} {a0 : Nat} {f : NodeFrame → NodeFrame} : Kept28 s (State.modHead s a0 f) :=
  .of (State.modHead_outside rfl rfl)

theorem State.resetStraps_outside {M : Touch} {r : State} {s : State} (hSb : M.sb = true) (hStraps : M.straps = true) (hNodeQueues : M.nodeQueues = true) (hHar : M.har = true) (hQueues : M.queues = true) (hArrivals : M.arrivals = true) (hs : s.outside M = r) :
    (State.resetStraps s).outside M = r := by
  unfold State.resetStraps
  extract_lets +onlyGivenNames -merge -underBinder x0
  unfold x0
  clear x0
  extract_lets +onlyGivenNames -merge -underBinder x1
  unfold x1
  clear x1
  rw [← hs]; simp only [State.outside, hSb, hStraps, hNodeQueues, hQueues, hArrivals, hHar, cond_true]

theorem State.resetStraps_keeps {s : State} : Kept29 s (State.resetStraps s) :=
  .of (State.resetStraps_outside rfl rfl rfl rfl rfl rfl rfl)

theorem State.spillLost_outside {M : Touch} {r : State} {s : State} {h : Nat} {c : Nat} (hDict : M.dict = true) (hNums : M.Nums Nums66) (hLogs : M.logs = true) (hStraps : M.straps = true) (hJournal : M.journal = true) (hHar : M.har = true) (hQueues : M.queues = true) (hEdges : M.edges = true) (hFlags : M.flags = true) (hReports : M.reports = true) (hs : s.outside M = r) :
    (State.spillLost s h c).outside M = r := by
  unfold State.spillLost
  extract_lets +onlyGivenNames -merge -underBinder x0
  try clear_value x0
  extract_lets +onlyGivenNames -merge -underBinder x1
  try clear_value x1
  extract_lets +onlyGivenNames -merge -underBinder x2
  have q3 : State.outside M x2 = r := by
    unfold x2
    refine State.each_outside ?_ ?_
    · intro t4 q5 z6
      refine State.reportFinal_outside hReports ?_
      exact q5
    · exact hs
  try clear_value x2
  extract_lets +onlyGivenNames -merge -underBinder x7
  have q8 : State.outside M x7 = r := by
    unfold x7
    refine State.setOutQ_outside hHar hQueues ?_
    exact q3
  try clear_value x7
  refine ite_outside ?_ ?_
  · exact hs
  · refine State.post_outside hDict (hNums.sub rfl) hLogs hStraps hJournal hEdges hFlags ?_
    refine State.bump_outside (hNums.at Key.fam_qDrops rfl) ?_
    exact q8

theorem State.spillLost_keeps {s : State} {h : Nat} {c : Nat} : Kept30 s (State.spillLost s h c) :=
  .of (State.spillLost_outside rfl rfl rfl rfl rfl rfl rfl rfl rfl rfl rfl)

theorem State.spillLost_rd {s : State} {h : Nat} {c : Nat} {kk : Nat} (hkey : Nums66.contains (Key.fam kk) = false) : (State.spillLost s h c).rd kk = s.rd kk :=
  State.rd_of_outside (M := .but Nums66) (State.spillLost_outside rfl .self rfl rfl rfl rfl rfl rfl rfl rfl rfl) rfl hkey

theorem State.loseSpills_outside {M : Touch} {r : State} {s : State} (hDict : M.dict = true) (hNums : M.Nums Nums66) (hLogs : M.logs = true) (hStraps : M.straps = true) (hJournal : M.journal = true) (hHar : M.har = true) (hQueues : M.queues = true) (hEdges : M.edges = true) (hFlags : M.flags = true) (hReports : M.reports = true) (hs : s.outside M = r) :
    (State.loseSpills s).outside M = r := by
  unfold State.loseSpills
  refine State.each_outside ?_ ?_
  · intro t0 q1 z2
    refine State.spillLost_outside hDict hNums hLogs hStraps hJournal hHar hQueues hEdges hFlags hReports ?_
    exact q1
  · exact hs

theorem State.loseSpills_keeps {s : State} : Kept30 s (State.loseSpills s) :=
  .of (State.loseSpills_outside rfl rfl rfl rfl rfl rfl rfl rfl rfl rfl rfl)

theorem State.loseSpills_rd {s : State} {kk : Nat} (hkey : Nums66.contains (Key.fam kk) = false) : (State.loseSpills s).rd kk = s.rd kk :=
  State.rd_of_outside (M := .but Nums66) (State.loseSpills_outside rfl .self rfl rfl rfl rfl rfl rfl rfl rfl rfl) rfl hkey

theorem State.loseFar_outside {M : Touch} {r : State} {s : State} (hSched : M.sched = true) (hs : s.outside M = r) :
    (State.loseFar s).outside M = r := by
  unfold State.loseFar
  extract_lets +onlyGivenNames -merge -underBinder x0
  unfold x0
  clear x0
  extract_lets +onlyGivenNames -merge -underBinder x1
  try clear_value x1
  refine Eq.trans (State.outside_girth_sched (h0 := hSched) ..) ?_
  exact hs

theorem State.loseFar_keeps {s : State} : Kept26 s (State.loseFar s) :=
  .of (State.loseFar_outside rfl rfl)

theorem State.emptyJournal_outside {M : Touch} {r : State} {s : State} (hJournal : M.journal = true) (hs : s.outside M = r) :
    (State.emptyJournal s).outside M = r := by
  unfold State.emptyJournal
  extract_lets +onlyGivenNames -merge -underBinder x0
  unfold x0
  clear x0
  extract_lets +onlyGivenNames -merge -underBinder x1
  try clear_value x1
  refine Eq.trans (State.outside_sb_journal (h0 := hJournal) ..) ?_
  exact hs

theorem State.emptyJournal_keeps {s : State} : Kept2 s (State.emptyJournal s) :=
  .of (State.emptyJournal_outside rfl rfl)

theorem State.sqPost_outside {M : Touch} {r : State} {s : State} {c : Err} {q : Nat} {arg : Nat} {arg2 : Nat} (hDict : M.dict = true) (hNums : M.Nums Nums2) (hLogs : M.logs = true) (hStraps : M.straps = true) (hJournal : M.journal = true) (hEdges : M.edges = true) (hFlags : M.flags = true) (hs : s.outside M = r) :
    (State.sqPost s c q arg arg2).outside M = r := by
  unfold State.sqPost
  refine State.post_outside hDict hNums hLogs hStraps hJournal hEdges hFlags ?_
  exact hs

theorem State.sqPost_keeps {s : State} {c : Err} {q : Nat} {arg : Nat} {arg2 : Nat} : Kept8 s (State.sqPost s c q arg arg2) :=
  .of (State.sqPost_outside rfl rfl rfl rfl rfl rfl rfl rfl)

theorem State.sqPost_rd {s : State} {c : Err} {q : Nat} {arg : Nat} {arg2 : Nat} {kk : Nat} (hkey : Nums2.contains (Key.fam kk) = false) : (State.sqPost s c q arg arg2).rd kk = s.rd kk :=
  State.rd_of_outside (M := .but Nums2) (State.sqPost_outside rfl .self rfl rfl rfl rfl rfl rfl) rfl hkey

theorem State.loseRings_outside {M : Touch} {r : State} {s : State} {keepHeads : Bool} (hDict : M.dict = true) (hNums : M.Nums Nums8) (hLogs : M.logs = true) (hStraps : M.straps = true) (hJournal : M.journal = true) (hNodeQueues : M.nodeQueues = true) (hEdges : M.edges = true) (hFlags : M.flags = true) (hReports : M.reports = true) (hs : s.outside M = r) :
    (State.loseRings s keepHeads).outside M = r := by
  unfold State.loseRings
  extract_lets +onlyGivenNames -merge -underBinder x0
  try clear_value x0
  extract_lets +onlyGivenNames -merge -underBinder x1
  try clear_value x1
  extract_lets +onlyGivenNames -merge -underBinder x2
  try clear_value x2
  extract_lets +onlyGivenNames -merge -underBinder x3
  have q4 : State.outside M x3 = r := by
    unfold x3
    refine State.each_outside ?_ ?_
    · intro t5 q6 z7
      refine State.reportFinal_outside hReports ?_
      exact q6
    · exact hs
  try clear_value x3
  extract_lets +onlyGivenNames -merge -underBinder x8
  have q9 : State.outside M x8 = r := by
    unfold x8
    refine State.each_outside ?_ ?_
    · intro t10 q11 z12
      extract_lets +onlyGivenNames -merge -underBinder x13
      try clear_value x13
      refine State.setNodeQ_outside hNodeQueues ?_
      exact q11
    · exact q4
  try clear_value x8
  refine ite_outside ?_ ?_
  · exact hs
  · refine State.sqPost_outside hDict (hNums.sub rfl) hLogs hStraps hJournal hEdges hFlags ?_
    refine State.bump_outside (hNums.at Key.fam_dlUndelivered rfl) ?_
    refine State.bump_outside (hNums.at Key.fam_sqLost rfl) ?_
    exact q9

theorem State.loseRings_keeps {s : State} {keepHeads : Bool} : Kept31 s (State.loseRings s keepHeads) :=
  .of (State.loseRings_outside rfl rfl rfl rfl rfl rfl rfl rfl rfl rfl)

theorem State.loseRings_rd {s : State} {keepHeads : Bool} {kk : Nat} (hkey : Nums8.contains (Key.fam kk) = false) : (State.loseRings s keepHeads).rd kk = s.rd kk :=
  State.rd_of_outside (M := .but Nums8) (State.loseRings_outside rfl .self rfl rfl rfl rfl rfl rfl rfl rfl) rfl hkey

theorem State.loseMiddle_outside {M : Touch} {r : State} {s : State} {q : Nat} (hNums : M.Nums Nums1) (hStraps : M.straps = true) (hs : s.outside M = r) :
    (State.loseMiddle s q).outside M = r := by
  unfold State.loseMiddle
  extract_lets +onlyGivenNames -merge -underBinder x0
  try clear_value x0
  extract_lets +onlyGivenNames -merge -underBinder x1
  try clear_value x1
  extract_lets +onlyGivenNames -merge -underBinder x2
  try clear_value x2
  extract_lets +onlyGivenNames -merge -underBinder x3
  try clear_value x3
  extract_lets +onlyGivenNames -merge -underBinder x4
  try clear_value x4
  extract_lets +onlyGivenNames -merge -underBinder x5
  try clear_value x5
  extract_lets +onlyGivenNames -merge -underBinder x6
  try clear_value x6
  refine ite_outside ?_ ?_
  · exact hs
  · refine State.setStrap_outside hStraps ?_
    refine State.bump_outside (hNums.at Key.fam_sqWelts rfl) ?_
    refine State.bump_outside (hNums.at Key.fam_sqLost rfl) ?_
    refine State.setStrap_outside hStraps ?_
    exact hs

theorem State.loseMiddle_keeps {s : State} {q : Nat} : Kept4 s (State.loseMiddle s q) :=
  .of (State.loseMiddle_outside rfl rfl rfl)

theorem State.loseMiddle_rd {s : State} {q : Nat} {kk : Nat} (hkey : Nums1.contains (Key.fam kk) = false) : (State.loseMiddle s q).rd kk = s.rd kk :=
  State.rd_of_outside (M := .but Nums1) (State.loseMiddle_outside .self rfl rfl) rfl hkey

theorem State.takeLayout_outside {M : Touch} {r : State} {s : State} {l : Option (List Region)} (hDict : M.dict = true) (hNums : M.Nums Nums67) (hLogs : M.logs = true) (hSched : M.sched = true) (hSb : M.sb = true) (hStraps : M.straps = true) (hJournal : M.journal = true) (hNodeQueues : M.nodeQueues = true) (hHar : M.har = true) (hQueues : M.queues = true) (hEdges : M.edges = true) (hFlags : M.flags = true) (hReports : M.reports = true) (hs : s.outside M = r) :
    (State.takeLayout s l).1.outside M = r := by
  unfold State.takeLayout
  extract_lets +onlyGivenNames -merge -underBinder x0
  try clear_value x0
  extract_lets +onlyGivenNames -merge -underBinder x1
  try clear_value x1
  extract_lets +onlyGivenNames -merge -underBinder x2
  have q3 : State.outside M x2 = r := by
    unfold x2
    refine State.each_outside ?_ ?_
    · intro t4 q5 z6
      refine State.loseMiddle_outside (hNums.sub rfl) hStraps ?_
      exact q5
    · exact hs
  try clear_value x2
  extract_lets +onlyGivenNames -merge -underBinder x7
  have q8 : State.outside M x7 = r := by
    unfold x7
    refine ite_outside ?_ ?_
    · refine State.loseSpills_outside hDict (hNums.sub rfl) hLogs hStraps hJournal hHar hQueues hEdges hFlags hReports ?_
      exact q3
    · exact q3
  try clear_value x7
  extract_lets +onlyGivenNames -merge -underBinder x9
  have q10 : State.outside M x9 = r := by
    unfold x9
    refine ite_outside ?_ ?_
    · refine State.loseRings_outside hDict (hNums.sub rfl) hLogs hStraps hJournal hNodeQueues hEdges hFlags hReports ?_
      exact q8
    · exact q8
  try clear_value x9
  extract_lets +onlyGivenNames -merge -underBinder x11
  have q12 : State.outside M x11 = r := by
    unfold x11
    refine ite_outside ?_ ?_
    · refine State.loseFar_outside hSched ?_
      exact q10
    · exact q10
  try clear_value x11
  extract_lets +onlyGivenNames -merge -underBinder x13
  have q14 : State.outside M x13 = r := by
    unfold x13
    refine ite_outside ?_ ?_
    · refine State.emptyJournal_outside hJournal ?_
      exact q12
    · exact q12
  try clear_value x13
  extract_lets +onlyGivenNames -merge -underBinder x15
  unfold x15
  clear x15
  refine fst_outside ?_
  refine Eq.trans (State.outside_sb_sb (h0 := hSb) ..) ?_
  exact q14

theorem State.takeLayout_keeps {s : State} {l : Option (List Region)} : Kept32 s (State.takeLayout s l).1 :=
  .of (State.takeLayout_outside rfl rfl rfl rfl rfl rfl rfl rfl rfl rfl rfl rfl rfl rfl)

theorem State.takeLayout_rd {s : State} {l : Option (List Region)} {kk : Nat} (hkey : Nums67.contains (Key.fam kk) = false) : (State.takeLayout s l).1.rd kk = s.rd kk :=
  State.rd_of_outside (M := .but Nums67) (State.takeLayout_outside rfl .self rfl rfl rfl rfl rfl rfl rfl rfl rfl rfl rfl rfl) rfl hkey

theorem State.journalRun_outside {M : Touch} {r : State} {s : State} {oldest : Nat} {last : Nat} (hNums : M.Nums Nums68) (hJournal : M.journal = true) (hs : s.outside M = r) :
    (State.journalRun s oldest last).outside M = r := by
  unfold State.journalRun
  extract_lets +onlyGivenNames -merge -underBinder x0
  try clear_value x0
  extract_lets +onlyGivenNames -merge -underBinder x1
  try clear_value x1
  extract_lets +onlyGivenNames -merge -underBinder x2
  try clear_value x2
  extract_lets +onlyGivenNames -merge -underBinder x3
  unfold x3
  clear x3
  extract_lets +onlyGivenNames -merge -underBinder x4
  have q5 : State.outside M x4 = r := by
    unfold x4
    refine Eq.trans (State.outside_sb_journal (h0 := hJournal) ..) ?_
    exact hs
  try clear_value x4
  refine State.wr_outside (hNums.at Key.fam_sbJournalSeq rfl) ?_
  exact q5

theorem State.journalRun_keeps {s : State} {oldest : Nat} {last : Nat} : Kept33 s (State.journalRun s oldest last) :=
  .of (State.journalRun_outside rfl rfl rfl)

theorem State.journalRun_rd {s : State} {oldest : Nat} {last : Nat} {kk : Nat} (hkey : Nums68.contains (Key.fam kk) = false) : (State.journalRun s oldest last).rd kk = s.rd kk :=
  State.rd_of_outside (M := .but Nums68) (State.journalRun_outside .self rfl rfl) rfl hkey

theorem State.sbStore_outside {M : Touch} {r : State} {s : State} {off : Nat} {bs : Bytes} (hAttached : M.Attached r) (hs : s.outside M = r) :
    (State.sbStore s off bs).outside M = r := by
  refine State.outside_sb_attached hAttached (fun h => ?_) hs
  generalize (List.range bs.length).zip bs = l
  generalize s.sb.mem = m at h
  induction l generalizing m with
  | nil => exact h
  | cons i l ih => exact ih _ (KMap.canon_setD _ _ h)

theorem State.sbStore_keeps {s : State} {off : Nat} {bs : Bytes} : Kept34 s (State.sbStore s off bs) :=
  .of (State.sbStore_outside (.free rfl rfl) rfl)

theorem State.journalHeader_outside {M : Touch} {r : State} {s : State} (hJournal : M.journal = true) (hAttached : M.Attached r) (hs : s.outside M = r) :
    (State.journalHeader s).outside M = r := by
  unfold State.journalHeader
  extract_lets +onlyGivenNames -merge -underBinder x0
  unfold x0
  clear x0
  extract_lets +onlyGivenNames -merge -underBinder x1
  try clear_value x1
  extract_lets +onlyGivenNames -merge -underBinder x2
  have q3 : State.outside M x2 = r := by
    unfold x2
    refine Eq.trans (State.outside_sb_journal (h0 := hJournal) ..) ?_
    exact hs
  try clear_value x2
  refine State.sbStore_outside hAttached ?_
  exact q3

theorem State.journalHeader_keeps {s : State} : Kept35 s (State.journalHeader s) :=
  .of (State.journalHeader_outside rfl (.free rfl rfl) rfl)

theorem State.journalResume_outside {M : Touch} {r : State} {s : State} (hDict : M.dict = true) (hNums : M.Nums Nums69) (hLogs : M.logs = true) (hStraps : M.straps = true) (hJournal : M.journal = true) (hAttached : M.Attached r) (hEdges : M.edges = true) (hFlags : M.flags = true) (hs : s.outside M = r) :
    (State.journalResume s).outside M = r := by
  unfold State.journalResume
  extract_lets +onlyGivenNames -merge -underBinder x0
  try clear_value x0
  extract_lets +onlyGivenNames -merge -underBinder x1
  try clear_value x1
  extract_lets +onlyGivenNames -merge -underBinder x2
  try clear_value x2
  refine ite_outside ?_ ?_
  · exact hs
  · refine ite_outside ?_ ?_
    · refine State.journalRun_outside (hNums.sub rfl) hJournal ?_
      exact hs
    · refine State.post_outside hDict (hNums.sub rfl) hLogs hStraps hJournal hEdges hFlags ?_
      refine State.journalHeader_outside hJournal hAttached ?_
      refine State.journalRun_outside (hNums.sub rfl) hJournal ?_
      exact hs

theorem State.journalResume_keeps {s : State} : Kept36 s (State.journalResume s) :=
  .of (State.journalResume_outside rfl rfl rfl rfl rfl (.free rfl rfl) rfl rfl rfl)

theorem State.journalResume_rd {s : State} {kk : Nat} (hkey : Nums69.contains (Key.fam kk) = false) : (State.journalResume s).rd kk = s.rd kk :=
  State.rd_of_outside (M := .but Nums69) (State.journalResume_outside rfl .self rfl rfl rfl (.free rfl rfl) rfl rfl rfl) rfl hkey

theorem State.strapPop_outside {M : Touch} {r : State} {s : State} {q : Nat} (hStraps : M.straps = true) (hs : s.outside M = r) :
    (State.strapPop s q).1.outside M = r := by
  unfold State.strapPop
  extract_lets +onlyGivenNames -merge -underBinder x0
  try clear_value x0
  split
  · refine fst_outside ?_
    refine State.setStrap_outside hStraps ?_
    exact hs
  · refine fst_outside ?_
    refine State.setStrap_outside hStraps ?_
    exact hs

theorem State.strapPop_keeps {s : State} {q : Nat} : Kept3 s (State.strapPop s q).1 :=
  .of (State.strapPop_outside rfl rfl)

theorem State.sbAnswer_outside {M : Touch} {r : State} {s : State} {dst : Nat} {tag : Nat} {c : SbCode} {bs : Bytes} (hChainPorts : M.chainPorts = true) (hNums : M.Nums Nums11) (hs : s.outside M = r) :
    (State.sbAnswer s dst tag c bs).outside M = r := by
  unfold State.sbAnswer
  refine State.sendChain_outside hChainPorts hNums ?_
  exact hs

theorem State.sbAnswer_keeps {s : State} {dst : Nat} {tag : Nat} {c : SbCode} {bs : Bytes} : Kept18 s (State.sbAnswer s dst tag c bs) :=
  .of (State.sbAnswer_outside rfl rfl rfl)

theorem State.sbAnswer_rd {s : State} {dst : Nat} {tag : Nat} {c : SbCode} {bs : Bytes} {kk : Nat} (hkey : Nums11.contains (Key.fam kk) = false) : (State.sbAnswer s dst tag c bs).rd kk = s.rd kk :=
  State.rd_of_outside (M := .but Nums11) (State.sbAnswer_outside rfl .self rfl) rfl hkey

theorem State.sbAdmit_outside {M : Touch} {r : State} {s : State} (hSb : M.sb = true) (hs : s.outside M = r) :
    (State.sbAdmit s).outside M = r := by
  unfold State.sbAdmit
  extract_lets +onlyGivenNames -merge -underBinder x0
  try clear_value x0
  extract_lets +onlyGivenNames -merge -underBinder x1
  unfold x1
  clear x1
  refine ite_outside ?_ ?_
  · exact hs
  · refine Eq.trans (State.outside_sb_sb (h0 := hSb) ..) ?_
    exact hs

theorem State.sbAdmit_keeps {s : State} : Kept37 s (State.sbAdmit s) :=
  .of (State.sbAdmit_outside rfl rfl)

theorem State.sbAsk_outside {M : Touch} {r : State} {s : State} {u : SbUser} (hSb : M.sb = true) (hs : s.outside M = r) :
    (State.sbAsk s u).outside M = r := by
  unfold State.sbAsk
  extract_lets +onlyGivenNames -merge -underBinder x0
  unfold x0
  clear x0
  refine State.sbAdmit_outside hSb ?_
  refine Eq.trans (State.outside_sb_sb (h0 := hSb) ..) ?_
  exact hs

theorem State.sbAsk_keeps {s : State} {u : SbUser} : Kept37 s (State.sbAsk s u) :=
  .of (State.sbAsk_outside rfl rfl)

theorem State.sbRequest_outside {M : Touch} {r : State} {s : State} {p : Side} {src : Nat} {tag : Nat} {a0 : SbReq} (hChainPorts : M.chainPorts = true) (hNums : M.Nums Nums11) (hSb : M.sb = true) (hs : s.outside M = r) :
    (State.sbRequest s p src tag a0).outside M = r := by
  unfold State.sbRequest
  extract_lets +onlyGivenNames -merge -underBinder x1
  try clear_value x1
  refine ite_outside ?_ ?_
  · exact hs
  · refine ite_outside ?_ ?_
    · refine State.sbAnswer_outside hChainPorts hNums ?_
      exact hs
    · refine ite_outside ?_ ?_
      · refine ite_outside ?_ ?_
        · refine State.sbAnswer_outside hChainPorts hNums ?_
          exact hs
        · refine State.sbAsk_outside hSb ?_
          exact hs
      · refine State.sbAnswer_outside hChainPorts hNums ?_
        exact hs

theorem State.sbRequest_keeps {s : State} {p : Side} {src : Nat} {tag : Nat} {a0 : SbReq} : Kept38 s (State.sbRequest s p src tag a0) :=
  .of (State.sbRequest_outside rfl rfl rfl rfl)

theorem State.sbRequest_rd {s : State} {p : Side} {src : Nat} {tag : Nat} {a0 : SbReq} {kk : Nat} (hkey : Nums11.contains (Key.fam kk) = false) : (State.sbRequest s p src tag a0).rd kk = s.rd kk :=
  State.rd_of_outside (M := .but Nums11) (State.sbRequest_outside rfl .self rfl rfl) rfl hkey

theorem State.closeNodeWelt_outside {M : Touch} {r : State} {s : State} {a0 : Nat} (hDict : M.dict = true) (hNums : M.Nums Nums2) (hLogs : M.logs = true) (hStraps : M.straps = true) (hJournal : M.journal = true) (hNodeQueues : M.nodeQueues = true) (hEdges : M.edges = true) (hFlags : M.flags = true) (hs : s.outside M = r) :
    (State.closeNodeWelt s a0).outside M = r := by
  unfold State.closeNodeWelt
  extract_lets +onlyGivenNames -merge -underBinder x1
  try clear_value x1
  split
  · exact hs
  · refine State.sqPost_outside hDict hNums hLogs hStraps hJournal hEdges hFlags ?_
    refine State.bump_outside (hNums.at Key.fam_sqWelts rfl) ?_
    refine State.setNodeQ_outside hNodeQueues ?_
    exact hs

theorem State.closeNodeWelt_keeps {s : State} {a0 : Nat} : Kept39 s (State.closeNodeWelt s a0) :=
  .of (State.closeNodeWelt_outside rfl rfl rfl rfl rfl rfl rfl rfl rfl)

theorem State.closeNodeWelt_rd {s : State} {a0 : Nat} {kk : Nat} (hkey : Nums2.contains (Key.fam kk) = false) : (State.closeNodeWelt s a0).rd kk = s.rd kk :=
  State.rd_of_outside (M := .but Nums2) (State.closeNodeWelt_outside rfl .self rfl rfl rfl rfl rfl rfl rfl) rfl hkey

theorem State.nodeDrop_outside {M : Touch} {r : State} {s : State} {a0 : Nat} {f : NodeFrame} (hNums : M.Nums Nums109) (hNodeQueues : M.nodeQueues = true) (hReports : M.reports = true) (hs : s.outside M = r) :
    (State.nodeDrop s a0 f).outside M = r := by
  unfold State.nodeDrop
  extract_lets +onlyGivenNames -merge -underBinder x1
  try clear_value x1
  extract_lets +onlyGivenNames -merge -underBinder x2
  have q3 : State.outside M x2 = r := by
    unfold x2
    refine State.bump_outside (hNums.at Key.fam_dlUndelivered rfl) ?_
    refine State.bump_outside (hNums.at Key.fam_sqLost rfl) ?_
    exact hs
  try clear_value x2
  extract_lets +onlyGivenNames -merge -underBinder x4
  try clear_value x4
  refine State.reportFinal_outside hReports ?_
  refine State.setNodeQ_outside hNodeQueues ?_
  exact q3

theorem State.nodeDrop_keeps {s : State} {a0 : Nat} {f : NodeFrame} : Kept40 s (State.nodeDrop s a0 f) :=
  .of (State.nodeDrop_outside rfl rfl rfl rfl)

theorem State.nodeDrop_rd {s : State} {a0 : Nat} {f : NodeFrame} {kk : Nat} (hkey : Nums109.contains (Key.fam kk) = false) : (State.nodeDrop s a0 f).rd kk = s.rd kk :=
  State.rd_of_outside (M := .but Nums109) (State.nodeDrop_outside .self rfl rfl rfl) rfl hkey

theorem State.nodePush_outside {M : Touch} {r : State} {s : State} {a0 : Nat} {f : NodeFrame} (hDict : M.dict = true) (hNums : M.Nums Nums8) (hLogs : M.logs = true) (hStraps : M.straps = true) (hJournal : M.journal = true) (hNodeQueues : M.nodeQueues = true) (hEdges : M.edges = true) (hFlags : M.flags = true) (hReports : M.reports = true) (hs : s.outside M = r) :
    (State.nodePush s a0 f).outside M = r := by
  unfold State.nodePush
  extract_lets +onlyGivenNames -merge -underBinder x1
  try clear_value x1
  extract_lets +onlyGivenNames -merge -underBinder x2
  try clear_value x2
  extract_lets +onlyGivenNames -merge -underBinder x3
  try clear_value x3
  extract_lets +onlyGivenNames -merge -underBinder x4
  try clear_value x4
  extract_lets +onlyGivenNames -merge -underBinder x5
  have q6 : State.outside M x5 = r := by
    unfold x5
    refine State.closeNodeWelt_outside hDict (hNums.sub rfl) hLogs hStraps hJournal hNodeQueues hEdges hFlags ?_
    exact hs
  try clear_value x5
  extract_lets +onlyGivenNames -merge -underBinder x7
  try clear_value x7
  refine ite_outside ?_ ?_
  · refine State.nodeDrop_outside (hNums.sub rfl) hNodeQueues hReports ?_
    exact hs
  · refine State.setNodeQ_outside hNodeQueues ?_
    exact q6

theorem State.nodePush_keeps {s : State} {a0 : Nat} {f : NodeFrame} : Kept31 s (State.nodePush s a0 f) :=
  .of (State.nodePush_outside rfl rfl rfl rfl rfl rfl rfl rfl rfl rfl)

theorem State.nodePush_rd {s : State} {a0 : Nat} {f : NodeFrame} {kk : Nat} (hkey : Nums8.contains (Key.fam kk) = false) : (State.nodePush s a0 f).rd kk = s.rd kk :=
  State.rd_of_outside (M := .but Nums8) (State.nodePush_outside rfl .self rfl rfl rfl rfl rfl rfl rfl rfl) rfl hkey

theorem State.flushGrant_outside {M : Touch} {r : State} {s : State} {bytes : Nat} (hNums : M.Nums Nums49) (hCinch : M.cinch = true) (hSb : M.sb = true) (hs : s.outside M = r) :
    (State.flushGrant s bytes).1.outside M = r := by
  unfold State.flushGrant
  extract_lets +onlyGivenNames -merge -underBinder x0
  unfold x0
  clear x0
  refine ite_fst_outside ?_ ?_
  · refine fst_outside ?_
    exact hs
  · refine ite_fst_outside ?_ ?_
    · refine fst_outside ?_
      refine Eq.trans (State.outside_sb_sb (h0 := hSb) ..) ?_
      exact hs
    · split
      · rename_i t1 t3 e4
        have q2 : State.outside M t1 = r := by
          refine Eq.trans (congrArg (fun p => State.outside M p.1) e4).symm ?_
          refine State.grant_outside hNums hCinch ?_
          exact hs
        extract_lets +onlyGivenNames -merge -underBinder x5
        unfold x5
        clear x5
        refine ite_fst_outside ?_ ?_
        · refine fst_outside ?_
          refine Eq.trans (State.outside_sb_sb (h0 := hSb) ..) ?_
          exact q2
        · refine fst_outside ?_
          exact q2

theorem State.flushGrant_keeps {s : State} {bytes : Nat} : Kept41 s (State.flushGrant s bytes).1 :=
  .of (State.flushGrant_outside rfl rfl rfl rfl)

theorem State.flushGrant_rd {s : State} {bytes : Nat} {kk : Nat} (hkey : Nums49.contains (Key.fam kk) = false) : (State.flushGrant s bytes).1.rd kk = s.rd kk :=
  State.rd_of_outside (M := .but Nums49) (State.flushGrant_outside .self rfl rfl rfl) rfl hkey

theorem State.resetNodeQ_outside {M : Touch} {r : State} {s : State} {a0 : Nat} (hDict : M.dict = true) (hNums : M.Nums Nums125) (hLogs : M.logs = true) (hStraps : M.straps = true) (hJournal : M.journal = true) (hNodeQueues : M.nodeQueues = true) (hEdges : M.edges = true) (hFlags : M.flags = true) (hReports : M.reports = true) (hs : s.outside M = r) :
    (State.resetNodeQ s a0).outside M = r := by
  unfold State.resetNodeQ
  extract_lets +onlyGivenNames -merge -underBinder x1
  try clear_value x1
  extract_lets +onlyGivenNames -merge -underBinder x2
  try clear_value x2
  extract_lets +onlyGivenNames -merge -underBinder x3
  have q4 : State.outside M x3 = r := by
    unfold x3
    refine State.each_outside ?_ ?_
    · intro t5 q6 z7
      refine State.reportFinal_outside hReports ?_
      exact q6
    · exact hs
  try clear_value x3
  extract_lets +onlyGivenNames -merge -underBinder x8
  try clear_value x8
  extract_lets +onlyGivenNames -merge -underBinder x9
  have q10 : State.outside M x9 = r := by
    unfold x9
    refine State.setNodeQ_outside hNodeQueues ?_
    exact q4
  try clear_value x9
  refine State.sqPost_outside hDict (hNums.sub rfl) hLogs hStraps hJournal hEdges hFlags ?_
  refine State.bump_outside (hNums.at Key.fam_sqResets rfl) ?_
  refine State.bump_outside (hNums.at Key.fam_dlUndelivered rfl) ?_
  refine State.bump_outside (hNums.at Key.fam_sqLost rfl) ?_
  exact q10

theorem State.resetNodeQ_keeps {s : State} {a0 : Nat} : Kept31 s (State.resetNodeQ s a0) :=
  .of (State.resetNodeQ_outside rfl rfl rfl rfl rfl rfl rfl rfl rfl rfl)

theorem State.resetNodeQ_rd {s : State} {a0 : Nat} {kk : Nat} (hkey : Nums125.contains (Key.fam kk) = false) : (State.resetNodeQ s a0).rd kk = s.rd kk :=
  State.rd_of_outside (M := .but Nums125) (State.resetNodeQ_outside rfl .self rfl rfl rfl rfl rfl rfl rfl rfl) rfl hkey

theorem State.wordsRead_outside {M : Touch} {r : State} {s : State} {q : Nat} {fails : List WordFail} (hNums : M.Nums Nums126) (hs : s.outside M = r) :
    (State.wordsRead s q fails).outside M = r := by
  unfold State.wordsRead
  refine State.bump_outside (hNums.at Key.fam_sqPoison rfl) ?_
  refine State.bump_outside (hNums.at Key.fam_sbMediaErr rfl) ?_
  exact hs

theorem State.wordsRead_keeps {s : State} {q : Nat} {fails : List WordFail} : Kept1 s (State.wordsRead s q fails) :=
  .of (State.wordsRead_outside rfl rfl)

theorem State.wordsRead_rd {s : State} {q : Nat} {fails : List WordFail} {kk : Nat} (hkey : Nums126.contains (Key.fam kk) = false) : (State.wordsRead s q fails).rd kk = s.rd kk :=
  State.rd_of_outside (M := .but Nums126) (State.wordsRead_outside .self rfl) rfl hkey

theorem State.journalCommit_outside {M : Touch} {r : State} {s : State} {n : Nat} (hNums : M.Nums Nums68) (hJournal : M.journal = true) (hAttached : M.Attached r) (hs : s.outside M = r) :
    (State.journalCommit s n).outside M = r := by
  unfold State.journalCommit
  extract_lets +onlyGivenNames -merge -underBinder x0
  try clear_value x0
  split
  · exact hs
  · extract_lets +onlyGivenNames -merge -underBinder x1
    try clear_value x1
    extract_lets +onlyGivenNames -merge -underBinder x2
    have q3 : State.outside M x2 = r := by
      unfold x2
      refine ite_outside ?_ ?_
      · exact hs
      · refine State.sbStore_outside hAttached ?_
        exact hs
    try clear_value x2
    extract_lets +onlyGivenNames -merge -underBinder x4
    unfold x4
    clear x4
    extract_lets +onlyGivenNames -merge -underBinder x5
    have q6 : State.outside M x5 = r := by
      unfold x5
      refine Eq.trans (State.outside_sb_journal (h0 := hJournal) ..) ?_
      exact q3
    try clear_value x5
    extract_lets +onlyGivenNames -merge -underBinder x7
    try clear_value x7
    refine State.wr_outside (hNums.at Key.fam_sbJournalSeq rfl) ?_
    exact q6

theorem State.journalCommit_keeps {s : State} {n : Nat} : Kept42 s (State.journalCommit s n) :=
  .of (State.journalCommit_outside rfl rfl (.free rfl rfl) rfl)

theorem State.journalCommit_rd {s : State} {n : Nat} {kk : Nat} (hkey : Nums68.contains (Key.fam kk) = false) : (State.journalCommit s n).rd kk = s.rd kk :=
  State.rd_of_outside (M := .but Nums68) (State.journalCommit_outside .self rfl (.free rfl rfl) rfl) rfl hkey

theorem State.journalCut_outside {M : Touch} {r : State} {s : State} (hJournal : M.journal = true) (hs : s.outside M = r) :
    (State.journalCut s).outside M = r := by
  unfold State.journalCut
  extract_lets +onlyGivenNames -merge -underBinder x0
  try clear_value x0
  extract_lets +onlyGivenNames -merge -underBinder x1
  unfold x1
  clear x1
  refine Eq.trans (State.outside_sb_journal (h0 := hJournal) ..) ?_
  exact hs

theorem State.journalCut_keeps {s : State} : Kept2 s (State.journalCut s) :=
  .of (State.journalCut_outside rfl rfl)

theorem State.layoutAtUp_outside {M : Touch} {r : State} {s : State} (hDict : M.dict = true) (hNums : M.Nums Nums67) (hLogs : M.logs = true) (hSched : M.sched = true) (hSb : M.sb = true) (hStraps : M.straps = true) (hJournal : M.journal = true) (hNodeQueues : M.nodeQueues = true) (hHar : M.har = true) (hQueues : M.queues = true) (hEdges : M.edges = true) (hFlags : M.flags = true) (hReports : M.reports = true) (hs : s.outside M = r) :
    (State.layoutAtUp s).1.outside M = r := by
  unfold State.layoutAtUp
  extract_lets +onlyGivenNames -merge -underBinder x0
  try clear_value x0
  extract_lets +onlyGivenNames -merge -underBinder x1
  try clear_value x1
  extract_lets +onlyGivenNames -merge -underBinder x2
  have q3 : ∀ u4 : State, State.outside M u4 = r → State.outside M (x2 u4).1 = r := by
    unfold x2
    · intro t5 q6
      extract_lets +onlyGivenNames -merge -underBinder x7
      have q8 : State.outside M x7.1 = r := by
        unfold x7
        refine State.takeLayout_outside hDict hNums hLogs hSched hSb hStraps hJournal hNodeQueues hHar hQueues hEdges hFlags hReports ?_
        exact q6
      try clear_value x7
      refine ite_fst_outside ?_ ?_
      · refine fst_outside ?_
        refine State.post_outside hDict (hNums.sub rfl) hLogs hStraps hJournal hEdges hFlags ?_
        exact q8
      · refine State.takeLayout_outside hDict hNums hLogs hSched hSb hStraps hJournal hNodeQueues hHar hQueues hEdges hFlags hReports ?_
        exact q6
  try clear_value x2
  refine ite_fst_outside ?_ ?_
  · refine q3 _ ?_
    exact hs
  · refine ite_fst_outside ?_ ?_
    · refine State.takeLayout_outside hDict hNums hLogs hSched hSb hStraps hJournal hNodeQueues hHar hQueues hEdges hFlags hReports ?_
      exact hs
    · refine q3 _ ?_
      refine State.post_outside hDict (hNums.sub rfl) hLogs hStraps hJournal hEdges hFlags ?_
      exact hs

theorem State.layoutAtUp_keeps {s : State} : Kept32 s (State.layoutAtUp s).1 :=
  .of (State.layoutAtUp_outside rfl rfl rfl rfl rfl rfl rfl rfl rfl rfl rfl rfl rfl rfl)

theorem State.layoutAtUp_rd {s : State} {kk : Nat} (hkey : Nums67.contains (Key.fam kk) = false) : (State.layoutAtUp s).1.rd kk = s.rd kk :=
  State.rd_of_outside (M := .but Nums67) (State.layoutAtUp_outside rfl .self rfl rfl rfl rfl rfl rfl rfl rfl rfl rfl rfl rfl) rfl hkey

theorem State.resetStrap_outside {M : Touch} {r : State} {s : State} {q : Nat} (hDict : M.dict = true) (hNums : M.Nums Nums139) (hLogs : M.logs = true) (hStraps : M.straps = true) (hJournal : M.journal = true) (hEdges : M.edges = true) (hFlags : M.flags = true) (hs : s.outside M = r) :
    (State.resetStrap s q).outside M = r := by
  unfold State.resetStrap
  extract_lets +onlyGivenNames -merge -underBinder x0
  try clear_value x0
  extract_lets +onlyGivenNames -merge -underBinder x1
  try clear_value x1
  extract_lets +onlyGivenNames -merge -underBinder x2
  try clear_value x2
  extract_lets +onlyGivenNames -merge -underBinder x3
  try clear_value x3
  extract_lets +onlyGivenNames -merge -underBinder x4
  try clear_value x4
  extract_lets +onlyGivenNames -merge -underBinder x5
  try clear_value x5
  refine State.sqPost_outside hDict (hNums.sub rfl) hLogs hStraps hJournal hEdges hFlags ?_
  refine State.bump_outside (hNums.at Key.fam_sqWelts rfl) ?_
  refine State.bump_outside (hNums.at Key.fam_sqResets rfl) ?_
  refine State.bump_outside (hNums.at Key.fam_sqLost rfl) ?_
  refine State.setStrap_outside hStraps ?_
  exact hs

theorem State.resetStrap_keeps {s : State} {q : Nat} : Kept8 s (State.resetStrap s q) :=
  .of (State.resetStrap_outside rfl rfl rfl rfl rfl rfl rfl rfl)

theorem State.resetStrap_rd {s : State} {q : Nat} {kk : Nat} (hkey : Nums139.contains (Key.fam kk) = false) : (State.resetStrap s q).rd kk = s.rd kk :=
  State.rd_of_outside (M := .but Nums139) (State.resetStrap_outside rfl .self rfl rfl rfl rfl rfl rfl) rfl hkey

theorem State.sbServe_outside {M : Touch} {r : State} {s : State} {a0 : SbReq} (hDraws : M.draws = true) (hAttached : M.Attached r) (hs : s.outside M = r) :
    (State.sbServe s a0).1.outside M = r := by
  unfold State.sbServe
  extract_lets +onlyGivenNames -merge -underBinder x1
  try clear_value x1
  refine ite_fst_outside ?_ ?_
  · refine fst_outside ?_
    exact hs
  · split
    · refine ite_fst_outside ?_ ?_
      · refine fst_outside ?_
        exact hs
      · refine fst_outside ?_
        refine State.sbStore_outside hAttached ?_
        exact hs
    · refine ite_fst_outside ?_ ?_
      · refine fst_outside ?_
        refine State.drawn_outside hDraws ?_
        exact hs
      · refine fst_outside ?_
        exact hs

theorem State.sbServe_keeps {s : State} {a0 : SbReq} : Kept43 s (State.sbServe s a0).1 :=
  .of (State.sbServe_outside rfl (.free rfl rfl) rfl)

theorem State.sbReply_outside {M : Touch} {r : State} {s : State} {u : SbUser} {c : SbCode} {bs : Bytes} (hOut : M.out = true) (hChainPorts : M.chainPorts = true) (hNums : M.Nums Nums11) (hs : s.outside M = r) :
    (State.sbReply s u c bs).outside M = r := by
  unfold State.sbReply
  split
  · refine State.sbAnswer_outside hChainPorts hNums ?_
    exact hs
  · refine State.emit_outside hOut ?_
    exact hs

theorem State.sbReply_keeps {s : State} {u : SbUser} {c : SbCode} {bs : Bytes} : Kept44 s (State.sbReply s u c bs) :=
  .of (State.sbReply_outside rfl rfl rfl rfl)

theorem State.sbReply_rd {s : State} {u : SbUser} {c : SbCode} {bs : Bytes} {kk : Nat} (hkey : Nums11.contains (Key.fam kk) = false) : (State.sbReply s u c bs).rd kk = s.rd kk :=
  State.rd_of_outside (M := .but Nums11) (State.sbReply_outside rfl rfl .self rfl) rfl hkey

theorem State.sbFinish_outside {M : Touch} {r : State} {s : State} {u : SbUser} {bad : Bool} (hDraws : M.draws = true) (hOut : M.out = true) (hChainPorts : M.chainPorts = true) (hNums : M.Nums Nums142) (hAttached : M.Attached r) (hs : s.outside M = r) :
    (State.sbFinish s u bad).outside M = r := by
  unfold State.sbFinish
  extract_lets +onlyGivenNames -merge -underBinder x0
  have q1 : State.outside M x0.1 = r := by
    unfold x0
    refine State.sbServe_outside hDraws hAttached ?_
    exact hs
  try clear_value x0
  refine ite_outside ?_ ?_
  · refine State.sbReply_outside hOut hChainPorts (hNums.sub rfl) ?_
    refine State.bump_outside (hNums.at Key.fam_sbMediaErr rfl) ?_
    exact hs
  · refine State.sbReply_outside hOut hChainPorts (hNums.sub rfl) ?_
    exact q1

theorem State.sbFinish_keeps {s : State} {u : SbUser} {bad : Bool} : Kept45 s (State.sbFinish s u bad) :=
  .of (State.sbFinish_outside rfl rfl rfl rfl (.free rfl rfl) rfl)

theorem State.sbFinish_rd {s : State} {u : SbUser} {bad : Bool} {kk : Nat} (hkey : Nums142.contains (Key.fam kk) = false) : (State.sbFinish s u bad).rd kk = s.rd kk :=
  State.rd_of_outside (M := .but Nums142) (State.sbFinish_outside rfl rfl rfl .self (.free rfl rfl) rfl) rfl hkey

theorem State.sbDrain_outside {M : Touch} {r : State} {s : State} (hDraws : M.draws = true) (hOut : M.out = true) (hChainPorts : M.chainPorts = true) (hNums : M.Nums Nums142) (hSb : M.sb = true) (hAttached : M.Attached r) (hs : s.outside M = r) :
    (State.sbDrain s).outside M = r := by
  unfold State.sbDrain
  extract_lets +onlyGivenNames -merge -underBinder x0
  try clear_value x0
  extract_lets +onlyGivenNames -merge -underBinder x1
  unfold x1
  clear x1
  extract_lets +onlyGivenNames -merge -underBinder x2
  have q3 : State.outside M x2 = r := by
    unfold x2
    refine Eq.trans (State.outside_sb_sb (h0 := hSb) ..) ?_
    exact hs
  try clear_value x2
  refine State.each_outside ?_ ?_
  · intro t4 q5 z6
    refine State.sbFinish_outside hDraws hOut hChainPorts hNums hAttached ?_
    exact q5
  · exact q3

theorem State.sbDrain_keeps {s : State} : Kept46 s (State.sbDrain s) :=
  .of (State.sbDrain_outside rfl rfl rfl rfl rfl (.free rfl rfl) rfl)

theorem State.sbDrain_rd {s : State} {kk : Nat} (hkey : Nums142.contains (Key.fam kk) = false) : (State.sbDrain s).rd kk = s.rd kk :=
  State.rd_of_outside (M := .but Nums142) (State.sbDrain_outside rfl rfl rfl .self rfl (.free rfl rfl) rfl) rfl hkey

theorem State.setSbLink_outside {M : Touch} {r : State} {s : State} {x : Nat} (hNums : M.Nums Nums143) (hSb : M.sb = true) (hEdges : M.edges = true) (hs : s.outside M = r) :
    (State.setSbLink s x).outside M = r := by
  unfold State.setSbLink
  extract_lets +onlyGivenNames -merge -underBinder x0
  have q1 : State.outside M x0 = r := by
    unfold x0
    refine State.wrEdge_outside (hNums.at Key.fam_sbLinkState rfl) hEdges ?_
    exact hs
  try clear_value x0
  extract_lets +onlyGivenNames -merge -underBinder x2
  unfold x2
  clear x2
  refine Eq.trans (State.outside_sb_sb (h0 := hSb) ..) ?_
  exact q1

theorem State.setSbLink_keeps {s : State} {x : Nat} : Kept47 s (State.setSbLink s x) :=
  .of (State.setSbLink_outside rfl rfl rfl rfl)

theorem State.setSbLink_rd {s : State} {x : Nat} {kk : Nat} (hkey : Nums143.contains (Key.fam kk) = false) : (State.setSbLink s x).rd kk = s.rd kk :=
  State.rd_of_outside (M := .but Nums143) (State.setSbLink_outside .self rfl rfl rfl) rfl hkey

theorem State.sbLinkFail_outside {M : Touch} {r : State} {s : State} (hOut : M.out = true) (hChainPorts : M.chainPorts = true) (hDict : M.dict = true) (hNums : M.Nums Nums144) (hLogs : M.logs = true) (hSched : M.sched = true) (hSb : M.sb = true) (hStraps : M.straps = true) (hJournal : M.journal = true) (hNodeQueues : M.nodeQueues = true) (hHar : M.har = true) (hQueues : M.queues = true) (hEdges : M.edges = true) (hFlags : M.flags = true) (hReports : M.reports = true) (hs : s.outside M = r) :
    (State.sbLinkFail s).outside M = r := by
  unfold State.sbLinkFail
  extract_lets +onlyGivenNames -merge -underBinder x0
  try clear_value x0
  extract_lets +onlyGivenNames -merge -underBinder x1
  try clear_value x1
  extract_lets +onlyGivenNames -merge -underBinder x2
  unfold x2
  clear x2
  extract_lets +onlyGivenNames -merge -underBinder x3
  have q4 : State.outside M x3 = r := by
    unfold x3
    refine Eq.trans (State.outside_sb_sb (h0 := hSb) ..) ?_
    exact hs
  try clear_value x3
  extract_lets +onlyGivenNames -merge -underBinder x5
  have q6 : State.outside M x5 = r := by
    unfold x5
    refine State.each_outside ?_ ?_
    · intro t7 q8 z9
      refine State.sbReply_outside hOut hChainPorts (hNums.sub rfl) ?_
      exact q8
    · exact q4
  try clear_value x5
  extract_lets +onlyGivenNames -merge -underBinder x10
  have q11 : State.outside M x10 = r := by
    unfold x10
    refine State.post_outside hDict (hNums.sub rfl) hLogs hStraps hJournal hEdges hFlags ?_
    refine State.bump_outside (hNums.at Key.fam_cxlFailed rfl) ?_
    refine State.setSbLink_outside (hNums.sub rfl) hSb hEdges ?_
    exact q6
  try clear_value x10
  extract_lets +onlyGivenNames -merge -underBinder x12
  have q13 : State.outside M x12 = r := by
    unfold x12
    refine State.each_outside ?_ ?_
    · intro t14 q15 z16
      refine ite_outside ?_ ?_
      · exact q15
      · refine State.loseMiddle_outside (hNums.sub rfl) hStraps ?_
        exact q15
    · exact q11
  try clear_value x12
  extract_lets +onlyGivenNames -merge -underBinder x17
  have q18 : State.outside M x17 = r := by
    unfold x17
    refine State.loseSpills_outside hDict (hNums.sub rfl) hLogs hStraps hJournal hHar hQueues hEdges hFlags hReports ?_
    refine State.loseRings_outside hDict (hNums.sub rfl) hLogs hStraps hJournal hNodeQueues hEdges hFlags hReports ?_
    exact q13
  try clear_value x17
  extract_lets +onlyGivenNames -merge -underBinder x19
  have q20 : State.outside M x19 = r := by
    unfold x19
    refine ite_outside ?_ ?_
    · exact q18
    · refine State.loseFar_outside hSched ?_
      refine State.askRebuild_outside hSched ?_
      exact q18
  try clear_value x19
  refine State.journalCut_outside hJournal ?_
  exact q20

theorem State.sbLinkFail_keeps {s : State} : Kept48 s (State.sbLinkFail s) :=
  .of (State.sbLinkFail_outside rfl rfl rfl rfl rfl rfl rfl rfl rfl rfl rfl rfl rfl rfl rfl rfl)

theorem State.sbLinkFail_rd {s : State} {kk : Nat} (hkey : Nums144.contains (Key.fam kk) = false) : (State.sbLinkFail s).rd kk = s.rd kk :=
  State.rd_of_outside (M := .but Nums144) (State.sbLinkFail_outside rfl rfl rfl .self rfl rfl rfl rfl rfl rfl rfl rfl rfl rfl rfl rfl) rfl hkey

theorem State.sbTrained_outside {M : Touch} {r : State} {s : State} {total : Nat} {lanes : Nat} {rate : Nat} (hDict : M.dict = true) (hNums : M.Nums Nums145) (hLogs : M.logs = true) (hSched : M.sched = true) (hSb : M.sb = true) (hStraps : M.straps = true) (hJournal : M.journal = true) (hAttached : M.Attached r) (hNodeQueues : M.nodeQueues = true) (hHar : M.har = true) (hQueues : M.queues = true) (hEdges : M.edges = true) (hFlags : M.flags = true) (hReports : M.reports = true) (hs : s.outside M = r) :
    (State.sbTrained s total lanes rate).outside M = r := by
  unfold State.sbTrained
  extract_lets +onlyGivenNames -merge -underBinder x0
  try clear_value x0
  extract_lets +onlyGivenNames -merge -underBinder x1
  have q2 : State.outside M x1 = r := by
    unfold x1
    refine State.wr_outside (hNums.at Key.fam_sbAttached rfl) ?_
    refine State.setSbLink_outside (hNums.sub rfl) hSb hEdges ?_
    exact hs
  try clear_value x1
  extract_lets +onlyGivenNames -merge -underBinder x3
  have q4 : State.outside M x3 = r := by
    unfold x3
    refine ite_outside ?_ ?_
    · refine State.post_outside hDict (hNums.sub rfl) hLogs hStraps hJournal hEdges hFlags ?_
      exact q2
    · exact q2
  try clear_value x3
  extract_lets +onlyGivenNames -merge -underBinder x5
  have q6 : State.outside M x5 = r := by
    unfold x5
    refine ite_outside ?_ ?_
    · refine State.post_outside hDict (hNums.sub rfl) hLogs hStraps hJournal hEdges hFlags ?_
      exact q4
    · exact q4
  try clear_value x5
  extract_lets +onlyGivenNames -merge -underBinder x7
  have q8 : State.outside M x7.1 = r := by
    unfold x7
    refine State.layoutAtUp_outside hDict (hNums.sub rfl) hLogs hSched hSb hStraps hJournal hNodeQueues hHar hQueues hEdges hFlags hReports ?_
    exact q6
  try clear_value x7
  extract_lets +onlyGivenNames -merge -underBinder x9
  have q10 : State.outside M x9 = r := by
    unfold x9
    refine ite_outside ?_ ?_
    · refine State.journalResume_outside hDict (hNums.sub rfl) hLogs hStraps hJournal hAttached hEdges hFlags ?_
      exact q8
    · exact q8
  try clear_value x9
  extract_lets +onlyGivenNames -merge -underBinder x11
  have q12 : State.outside M x11 = r := by
    unfold x11
    refine State.sbAdmit_outside hSb ?_
    exact q10
  try clear_value x11
  refine ite_outside ?_ ?_
  · refine State.askRebuild_outside hSched ?_
    exact q12
  · exact q12

theorem State.sbTrained_keeps {s : State} {total : Nat} {lanes : Nat} {rate : Nat} : Kept49 s (State.sbTrained s total lanes rate) :=
  .of (State.sbTrained_outside rfl rfl rfl rfl rfl rfl rfl (.free rfl rfl) rfl rfl rfl rfl rfl rfl rfl)

theorem State.sbTrained_rd {s : State} {total : Nat} {lanes : Nat} {rate : Nat} {kk : Nat} (hkey : Nums145.contains (Key.fam kk) = false) : (State.sbTrained s total lanes rate).rd kk = s.rd kk :=
  State.rd_of_outside (M := .but Nums145) (State.sbTrained_outside rfl .self rfl rfl rfl rfl rfl (.free rfl rfl) rfl rfl rfl rfl rfl rfl rfl) rfl hkey

theorem execSbReqRx_outside {M : Touch} {r : State} {p : Side} {src : Nat} {tag : Nat} {a0 : SbReq} {s : State} (hChainPorts : M.chainPorts = true) (hNums : M.Nums Nums11) (hSb : M.sb = true) (hs : s.outside M = r) :
    NextOutside M r (execSbReqRx p src tag a0 s) := by
  unfold execSbReqRx
  refine next_outside ?_
  refine State.sbRequest_outside hChainPorts hNums hSb ?_
  exact hs

theorem execStrapMiddleWrite_outside {M : Touch} {r : State} {q : Fin 64} {dt : Nat} {s : State} (hClock : M.clock = true) (hNums : M.Nums Nums153) (hVbat : M.vbat = true) (hSched : M.sched = true) (hCinch : M.cinch = true) (hSb : M.sb = true) (hStraps : M.straps = true) (hs : s.outside M = r) :
    NextOutside M r (execStrapMiddleWrite q dt s) := by
  unfold execStrapMiddleWrite
  extract_lets +onlyGivenNames -merge -underBinder x0
  have q1 : State.outside M x0 = r := by
    unfold x0
    refine State.advance_outside hClock hVbat ?_
    exact hs
  try clear_value x0
  extract_lets +onlyGivenNames -merge -underBinder x2
  try clear_value x2
  extract_lets +onlyGivenNames -merge -underBinder x3
  try clear_value x3
  refine next_outside ?_
  refine ite_outside ?_ ?_
  · refine State.setStrap_outside hStraps ?_
    exact q1
  · split
    · rename_i t4 t6 e7
      have q5 : State.outside M t4 = r := by
        refine Eq.trans (congrArg (fun p => State.outside M p.1) e7).symm ?_
        refine State.flushGrant_outside (hNums.sub rfl) hCinch hSb ?_
        exact q1
      refine ite_outside ?_ ?_
      · refine State.setStrap_outside hStraps ?_
        exact q5
      · refine State.wheelEnter_outside (hNums.sub rfl) hSched ?_
        refine State.setStrap_outside hStraps ?_
        exact q5

theorem execStrapMiddleRead_outside {M : Touch} {r : State} {q : Fin 64} {fails : List WordFail} {s : State} (hDict : M.dict = true) (hNums : M.Nums Nums156) (hLogs : M.logs = true) (hStraps : M.straps = true) (hJournal : M.journal = true) (hEdges : M.edges = true) (hFlags : M.flags = true) (hs : s.outside M = r) :
    NextOutside M r (execStrapMiddleRead q fails s) := by
  unfold execStrapMiddleRead
  extract_lets +onlyGivenNames -merge -underBinder x0
  try clear_value x0
  extract_lets +onlyGivenNames -merge -underBinder x1
  try clear_value x1
  extract_lets +onlyGivenNames -merge -underBinder x2
  try clear_value x2
  extract_lets +onlyGivenNames -merge -underBinder x3
  try clear_value x3
  extract_lets +onlyGivenNames -merge -underBinder x4
  have q5 : State.outside M x4 = r := by
    unfold x4
    refine State.wordsRead_outside (hNums.sub rfl) ?_
    exact hs
  try clear_value x4
  refine next_outside ?_
  refine ite_outside ?_ ?_
  · exact hs
  · refine ite_outside ?_ ?_
    · refine State.resetStrap_outside hDict (hNums.sub rfl) hLogs hStraps hJournal hEdges hFlags ?_
      exact q5
    · refine State.setStrap_outside hStraps ?_
      exact q5

theorem execWeltClose_outside {M : Touch} {r : State} {q : Fin 64} {a0 : Nat} {dt : Nat} {s : State} (hClock : M.clock = true) (hDict : M.dict = true) (hNums : M.Nums Nums2) (hLogs : M.logs = true) (hVbat : M.vbat = true) (hStraps : M.straps = true) (hJournal : M.journal = true) (hNodeQueues : M.nodeQueues = true) (hEdges : M.edges = true) (hFlags : M.flags = true) (hs : s.outside M = r) :
    NextOutside M r (execWeltClose q a0 dt s) := by
  unfold execWeltClose
  extract_lets +onlyGivenNames -merge -underBinder x1
  have q2 : State.outside M x1 = r := by
    unfold x1
    refine State.advance_outside hClock hVbat ?_
    exact hs
  try clear_value x1
  refine next_outside ?_
  refine ite_outside ?_ ?_
  · split
    · refine ite_outside ?_ ?_
      · refine State.closeNodeWelt_outside hDict hNums hLogs hStraps hJournal hNodeQueues hEdges hFlags ?_
        exact q2
      · exact q2
    · exact q2
  · split
    · refine ite_outside ?_ ?_
      · refine State.setStrap_outside hStraps ?_
        exact q2
      · exact q2
    · exact q2

theorem execStrapPush_outside {M : Touch} {r : State} {q : Fin 64} {words : Nat} {data : Bytes} {s : State} (hNums : M.Nums Nums1) (hStraps : M.straps = true) (hFlags : M.flags = true) (hs : s.outside M = r) :
    NextOutside M r (execStrapPush q words data s) := by
  unfold execStrapPush
  refine next_outside ?_
  refine ite_outside ?_ ?_
  · exact hs
  · refine State.strapPush_outside hNums hStraps hFlags ?_
    exact hs

theorem execCxlRetrainDone_outside {M : Touch} {r : State} {dt : Nat} {s : State} (hClock : M.clock = true) (hNums : M.Nums Nums163) (hVbat : M.vbat = true) (hSb : M.sb = true) (hEdges : M.edges = true) (hs : s.outside M = r) :
    NextOutside M r (execCxlRetrainDone dt s) := by
  unfold execCxlRetrainDone
  extract_lets +onlyGivenNames -merge -underBinder x0
  have q1 : State.outside M x0 = r := by
    unfold x0
    refine State.advance_outside hClock hVbat ?_
    exact hs
  try clear_value x0
  refine next_outside ?_
  refine ite_outside ?_ ?_
  · refine State.sbAdmit_outside hSb ?_
    refine State.bump_outside (hNums.at Key.fam_cxlReplayed rfl) ?_
    refine State.setSbLink_outside (hNums.sub rfl) hSb hEdges ?_
    exact q1
  · exact q1

theorem execCxlRetrainStart_outside {M : Touch} {r : State} {s : State} (hNums : M.Nums Nums164) (hSb : M.sb = true) (hEdges : M.edges = true) (hs : s.outside M = r) :
    NextOutside M r (execCxlRetrainStart s) := by
  unfold execCxlRetrainStart
  refine next_outside ?_
  refine ite_outside ?_ ?_
  · refine State.bump_outside (hNums.at Key.fam_cxlRetrains rfl) ?_
    refine State.setSbLink_outside (hNums.sub rfl) hSb hEdges ?_
    exact hs
  · exact hs

theorem execJournalRecordCommit_outside {M : Touch} {r : State} {seq : Nat} {s : State} (hNums : M.Nums Nums68) (hJournal : M.journal = true) (hAttached : M.Attached r) (hs : s.outside M = r) :
    NextOutside M r (execJournalRecordCommit seq s) := by
  unfold execJournalRecordCommit
  refine next_outside ?_
  refine ite_outside ?_ ?_
  · refine State.journalCommit_outside hNums hJournal hAttached ?_
    exact hs
  · exact hs

theorem execCxlTrainingStart_outside {M : Touch} {r : State} {dt : Nat} {s : State} (hClock : M.clock = true) (hNums : M.Nums Nums143) (hVbat : M.vbat = true) (hSb : M.sb = true) (hEdges : M.edges = true) (hs : s.outside M = r) :
    NextOutside M r (execCxlTrainingStart dt s) := by
  unfold execCxlTrainingStart
  extract_lets +onlyGivenNames -merge -underBinder x0
  have q1 : State.outside M x0 = r := by
    unfold x0
    refine State.advance_outside hClock hVbat ?_
    exact hs
  try clear_value x0
  extract_lets +onlyGivenNames -merge -underBinder x2
  try clear_value x2
  extract_lets +onlyGivenNames -merge -underBinder x3
  unfold x3
  clear x3
  refine next_outside ?_
  refine ite_outside ?_ ?_
  · refine State.setSbLink_outside hNums hSb hEdges ?_
    refine Eq.trans (State.outside_sb_sb (h0 := hSb) ..) ?_
    exact q1
  · exact q1

theorem execPointerMismatch_outside {M : Touch} {r : State} {q : Fin 64} {a0 : Nat} {s : State} (hDict : M.dict = true) (hNums : M.Nums Nums125) (hLogs : M.logs = true) (hStraps : M.straps = true) (hJournal : M.journal = true) (hNodeQueues : M.nodeQueues = true) (hEdges : M.edges = true) (hFlags : M.flags = true) (hReports : M.reports = true) (hs : s.outside M = r) :
    NextOutside M r (execPointerMismatch q a0 s) := by
  unfold execPointerMismatch
  refine next_outside ?_
  refine ite_outside ?_ ?_
  · exact hs
  · refine ite_outside ?_ ?_
    · refine State.resetNodeQ_outside hDict hNums hLogs hStraps hJournal hNodeQueues hEdges hFlags hReports ?_
      exact hs
    · refine State.resetStrap_outside hDict (hNums.sub rfl) hLogs hStraps hJournal hEdges hFlags ?_
      exact hs

theorem execCxlTrainTimeout_outside {M : Touch} {r : State} {dt : Nat} {s : State} (hClock : M.clock = true) (hNums : M.Nums Nums143) (hVbat : M.vbat = true) (hSb : M.sb = true) (hEdges : M.edges = true) (hs : s.outside M = r) :
    NextOutside M r (execCxlTrainTimeout dt s) := by
  unfold execCxlTrainTimeout
  extract_lets +onlyGivenNames -merge -underBinder x0
  have q1 : State.outside M x0 = r := by
    unfold x0
    refine State.advance_outside hClock hVbat ?_
    exact hs
  try clear_value x0
  refine next_outside ?_
  refine ite_outside ?_ ?_
  · refine State.setSbLink_outside hNums hSb hEdges ?_
    exact q1
  · exact q1

theorem execSbAccessDone_outside {M : Touch} {r : State} {k : Nat} {mediaErr : Bool} {s : State} (hDraws : M.draws = true) (hOut : M.out = true) (hChainPorts : M.chainPorts = true) (hNums : M.Nums Nums142) (hSb : M.sb = true) (hAttached : M.Attached r) (hs : s.outside M = r) :
    NextOutside M r (execSbAccessDone k mediaErr s) := by
  unfold execSbAccessDone
  refine next_outside ?_
  split
  · exact hs
  · extract_lets +onlyGivenNames -merge -underBinder x0
    unfold x0
    clear x0
    refine ite_outside ?_ ?_
    · exact hs
    · refine State.sbAdmit_outside hSb ?_
      refine State.sbFinish_outside hDraws hOut hChainPorts hNums hAttached ?_
      refine Eq.trans (State.outside_sb_sb (h0 := hSb) ..) ?_
      exact hs

theorem execCxlTrained_outside {M : Touch} {r : State} {expanders : List Nat} {lanes : Nat} {rate : Nat} {dt : Nat} {s : State} (hClock : M.clock = true) (hDict : M.dict = true) (hNums : M.Nums Nums145) (hLogs : M.logs = true) (hVbat : M.vbat = true) (hSched : M.sched = true) (hSb : M.sb = true) (hStraps : M.straps = true) (hJournal : M.journal = true) (hAttached : M.Attached r) (hNodeQueues : M.nodeQueues = true) (hHar : M.har = true) (hQueues : M.queues = true) (hEdges : M.edges = true) (hFlags : M.flags = true) (hReports : M.reports = true) (hs : s.outside M = r) :
    NextOutside M r (execCxlTrained expanders lanes rate dt s) := by
  unfold execCxlTrained
  extract_lets +onlyGivenNames -merge -underBinder x0
  have q1 : State.outside M x0 = r := by
    unfold x0
    refine State.advance_outside hClock hVbat ?_
    exact hs
  try clear_value x0
  refine next_outside ?_
  refine ite_outside ?_ ?_
  · refine State.sbTrained_outside hDict hNums hLogs hSched hSb hStraps hJournal hAttached hNodeQueues hHar hQueues hEdges hFlags hReports ?_
    exact q1
  · exact q1

theorem execCxlRetrainFail_outside {M : Touch} {r : State} {dt : Nat} {s : State} (hOut : M.out = true) (hClock : M.clock = true) (hChainPorts : M.chainPorts = true) (hDict : M.dict = true) (hNums : M.Nums Nums144) (hLogs : M.logs = true) (hVbat : M.vbat = true) (hSched : M.sched = true) (hSb : M.sb = true) (hStraps : M.straps = true) (hJournal : M.journal = true) (hNodeQueues : M.nodeQueues = true) (hHar : M.har = true) (hQueues : M.queues = true) (hEdges : M.edges = true) (hFlags : M.flags = true) (hReports : M.reports = true) (hs : s.outside M = r) :
    NextOutside M r (execCxlRetrainFail dt s) := by
  unfold execCxlRetrainFail
  extract_lets +onlyGivenNames -merge -underBinder x0
  have q1 : State.outside M x0 = r := by
    unfold x0
    refine State.advance_outside hClock hVbat ?_
    exact hs
  try clear_value x0
  refine next_outside ?_
  refine ite_outside ?_ ?_
  · refine State.sbLinkFail_outside hOut hChainPorts hDict hNums hLogs hSched hSb hStraps hJournal hNodeQueues hHar hQueues hEdges hFlags hReports ?_
    exact q1
  · exact q1

theorem execJournalHeaderRewrite_outside {M : Touch} {r : State} {dt : Nat} {s : State} (hClock : M.clock = true) (hVbat : M.vbat = true) (hJournal : M.journal = true) (hAttached : M.Attached r) (hs : s.outside M = r) :
    NextOutside M r (execJournalHeaderRewrite dt s) := by
  unfold execJournalHeaderRewrite
  extract_lets +onlyGivenNames -merge -underBinder x0
  have q1 : State.outside M x0 = r := by
    unfold x0
    refine State.advance_outside hClock hVbat ?_
    exact hs
  try clear_value x0
  refine next_outside ?_
  refine ite_outside ?_ ?_
  · refine State.journalHeader_outside hJournal hAttached ?_
    exact q1
  · exact q1

end Sys2Proof.Machine
end

