-- ==== Sys2Proof/Laws/Frame/GirthNode.lean ====
section
/-! SUPPORT. What the operations of Machine/GirthNode.lean leave alone. -/

namespace Sys2Proof.Machine

theorem State.unschedule_outside {M : Touch} {r : State} {s : State} {a0 : Nat} (hSched : M.sched = true) (hs : s.outside M = r) :
    (State.unschedule s a0).outside M = r := by
  unfold State.unschedule
  refine State.wheelDrop_outside hSched ?_
  exact hs

theorem State.unschedule_keeps {s : State} {a0 : Nat} : Kept26 s (State.unschedule s a0) :=
  .of (State.unschedule_outside rfl rfl)

theorem State.girthPost_outside {M : Touch} {r : State} {s : State} {c : Err} {arg : Nat} {arg2 : Nat} (hDict : M.dict = true) (hNums : M.Nums Nums2) (hLogs : M.logs = true) (hStraps : M.straps = true) (hJournal : M.journal = true) (hEdges : M.edges = true) (hFlags : M.flags = true) (hs : s.outside M = r) :
    (State.girthPost s c arg arg2).outside M = r := by
  unfold State.girthPost
  refine State.post_outside hDict hNums hLogs hStraps hJournal hEdges hFlags ?_
  exact hs

theorem State.girthPost_keeps {s : State} {c : Err} {arg : Nat} {arg2 : Nat} : Kept8 s (State.girthPost s c arg arg2) :=
  .of (State.girthPost_outside rfl rfl rfl rfl rfl rfl rfl rfl)

theorem State.girthPost_rd {s : State} {c : Err} {arg : Nat} {arg2 : Nat} {kk : Nat} (hkey : Nums2.contains (Key.fam kk) = false) : (State.girthPost s c arg arg2).rd kk = s.rd kk :=
  State.rd_of_outside (M := .but Nums2) (State.girthPost_outside rfl .self rfl rfl rfl rfl rfl rfl) rfl hkey

theorem State.undelivered_outside {M : Touch} {r : State} {s : State} {a0 : Nat} {f : NodeFrame} (hDict : M.dict = true) (hNums : M.Nums Nums8) (hLogs : M.logs = true) (hStraps : M.straps = true) (hJournal : M.journal = true) (hEdges : M.edges = true) (hFlags : M.flags = true) (hReports : M.reports = true) (hs : s.outside M = r) :
    (State.undelivered s a0 f).outside M = r := by
  unfold State.undelivered
  refine State.reportFinal_outside hReports ?_
  refine State.girthPost_outside hDict (hNums.sub rfl) hLogs hStraps hJournal hEdges hFlags ?_
  refine State.bump_outside (hNums.at Key.fam_dlUndelivered rfl) ?_
  exact hs

theorem State.undelivered_keeps {s : State} {a0 : Nat} {f : NodeFrame} : Kept75 s (State.undelivered s a0 f) :=
  .of (State.undelivered_outside rfl rfl rfl rfl rfl rfl rfl rfl rfl)

theorem State.undelivered_rd {s : State} {a0 : Nat} {f : NodeFrame} {kk : Nat} (hkey : Nums8.contains (Key.fam kk) = false) : (State.undelivered s a0 f).rd kk = s.rd kk :=
  State.rd_of_outside (M := .but Nums8) (State.undelivered_outside rfl .self rfl rfl rfl rfl rfl rfl rfl) rfl hkey

theorem State.undeliverAll_outside {M : Touch} {r : State} {s : State} {a0 : Nat} (hDict : M.dict = true) (hNums : M.Nums Nums8) (hLogs : M.logs = true) (hStraps : M.straps = true) (hJournal : M.journal = true) (hNodeQueues : M.nodeQueues = true) (hEdges : M.edges = true) (hFlags : M.flags = true) (hReports : M.reports = true) (hs : s.outside M = r) :
    (State.undeliverAll s a0).outside M = r := by
  unfold State.undeliverAll
  extract_lets +onlyGivenNames -merge -underBinder x1
  try clear_value x1
  extract_lets +onlyGivenNames -merge -underBinder x2
  have q3 : State.outside M x2 = r := by
    unfold x2
    refine State.each_outside ?_ ?_
    · intro t4 q5 z6
      refine State.undelivered_outside hDict hNums hLogs hStraps hJournal hEdges hFlags hReports ?_
      exact q5
    · exact hs
  try clear_value x2
  extract_lets +onlyGivenNames -merge -underBinder x7
  try clear_value x7
  refine State.setNodeQ_outside hNodeQueues ?_
  exact q3

theorem State.undeliverAll_keeps {s : State} {a0 : Nat} : Kept31 s (State.undeliverAll s a0) :=
  .of (State.undeliverAll_outside rfl rfl rfl rfl rfl rfl rfl rfl rfl rfl)

theorem State.undeliverAll_rd {s : State} {a0 : Nat} {kk : Nat} (hkey : Nums8.contains (Key.fam kk) = false) : (State.undeliverAll s a0).rd kk = s.rd kk :=
  State.rd_of_outside (M := .but Nums8) (State.undeliverAll_outside rfl .self rfl rfl rfl rfl rfl rfl rfl rfl) rfl hkey

theorem State.modCell_outside {M : Touch} {r : State} {s : State} {a0 : Nat} {p : CellUse → Bool} {f : CellUse → CellUse} (hRecs : M.recs = true) (hs : s.outside M = r) :
    (State.modCell s a0 p f).outside M = r := by
  unfold State.modCell
  extract_lets +onlyGivenNames -merge -underBinder x1
  try clear_value x1
  refine State.setRec_outside hRecs ?_
  exact hs

theorem State.modCell_keeps {s : State} {a0 : Nat} {p : CellUse → Bool} {f : CellUse → CellUse} : Kept25 s (State.modCell s a0 p f) :=
  .of (State.modCell_outside rfl rfl)

theorem State.desync_outside {M : Touch} {r : State} {s : State} {a0 : Nat} {cause : Nat} (hDict : M.dict = true) (hNums : M.Nums Nums23) (hLogs : M.logs = true) (hRecs : M.recs = true) (hStraps : M.straps = true) (hJournal : M.journal = true) (hEdges : M.edges = true) (hFlags : M.flags = true) (hs : s.outside M = r) :
    (State.desync s a0 cause).outside M = r := by
  unfold State.desync
  extract_lets +onlyGivenNames -merge -underBinder x1
  try clear_value x1
  extract_lets +onlyGivenNames -merge -underBinder x2
  have q3 : State.outside M x2 = r := by
    unfold x2
    split
    · refine ite_outside ?_ ?_
      · refine State.setRec_outside hRecs ?_
        exact hs
      · refine State.modHw_outside hRecs ?_
        exact hs
    · refine State.modHw_outside hRecs ?_
      exact hs
  try clear_value x2
  extract_lets +onlyGivenNames -merge -underBinder x4
  have q5 : State.outside M x4 = r := by
    unfold x4
    refine State.modHw_outside hRecs ?_
    exact q3
  try clear_value x4
  extract_lets +onlyGivenNames -merge -underBinder x6
  have q7 : State.outside M x6 = r := by
    unfold x6
    refine ite_outside ?_ ?_
    · exact q5
    · refine State.bump_outside (hNums.at Key.fam_desyncEvents rfl) ?_
      exact q5
  try clear_value x6
  refine State.girthPost_outside hDict (hNums.sub rfl) hLogs hStraps hJournal hEdges hFlags ?_
  exact q7

theorem State.desync_keeps {s : State} {a0 : Nat} {cause : Nat} : Kept76 s (State.desync s a0 cause) :=
  .of (State.desync_outside rfl rfl rfl rfl rfl rfl rfl rfl rfl)

theorem State.desync_rd {s : State} {a0 : Nat} {cause : Nat} {kk : Nat} (hkey : Nums23.contains (Key.fam kk) = false) : (State.desync s a0 cause).rd kk = s.rd kk :=
  State.rd_of_outside (M := .but Nums23) (State.desync_outside rfl .self rfl rfl rfl rfl rfl rfl rfl) rfl hkey

theorem State.attemptFailed_outside {M : Touch} {r : State} {s : State} {a0 : Nat} (hDict : M.dict = true) (hNums : M.Nums Nums24) (hLogs : M.logs = true) (hRecs : M.recs = true) (hStraps : M.straps = true) (hJournal : M.journal = true) (hNodeQueues : M.nodeQueues = true) (hEdges : M.edges = true) (hFlags : M.flags = true) (hReports : M.reports = true) (hs : s.outside M = r) :
    (State.attemptFailed s a0).outside M = r := by
  unfold State.attemptFailed
  extract_lets +onlyGivenNames -merge -underBinder x1
  try clear_value x1
  extract_lets +onlyGivenNames -merge -underBinder x2
  have q3 : State.outside M x2 = r := by
    unfold x2
    refine State.setRec_outside hRecs ?_
    exact hs
  try clear_value x2
  split
  · exact q3
  · extract_lets +onlyGivenNames -merge -underBinder x4
    have q5 : State.outside M x4 = r := by
      unfold x4
      refine State.undelivered_outside hDict (hNums.sub rfl) hLogs hStraps hJournal hEdges hFlags hReports ?_
      refine State.nodePop_outside hNodeQueues ?_
      exact q3
    try clear_value x4
    refine ite_outside ?_ ?_
    · refine ite_outside ?_ ?_
      · refine State.desync_outside hDict (hNums.sub rfl) hLogs hRecs hStraps hJournal hEdges hFlags ?_
        exact q5
      · exact q5
    · exact q3

theorem State.attemptFailed_keeps {s : State} {a0 : Nat} : Kept77 s (State.attemptFailed s a0) :=
  .of (State.attemptFailed_outside rfl rfl rfl rfl rfl rfl rfl rfl rfl rfl rfl)

theorem State.attemptFailed_rd {s : State} {a0 : Nat} {kk : Nat} (hkey : Nums24.contains (Key.fam kk) = false) : (State.attemptFailed s a0).rd kk = s.rd kk :=
  State.rd_of_outside (M := .but Nums24) (State.attemptFailed_outside rfl .self rfl rfl rfl rfl rfl rfl rfl rfl rfl) rfl hkey

theorem State.contact_outside {M : Touch} {r : State} {s : State} {a0 : Nat} (hRecs : M.recs = true) (hs : s.outside M = r) :
    (State.contact s a0).outside M = r := by
  unfold State.contact
  refine State.modHw_outside hRecs ?_
  exact hs

theorem State.contact_keeps {s : State} {a0 : Nat} : Kept25 s (State.contact s a0) :=
  .of (State.contact_outside rfl rfl)

theorem State.ackAccept_outside {M : Touch} {r : State} {s : State} {a0 : Nat} {d : Nat} {offset : Int} (hRecs : M.recs = true) (hNodeQueues : M.nodeQueues = true) (hReports : M.reports = true) (hs : s.outside M = r) :
    (State.ackAccept s a0 d offset).outside M = r := by
  unfold State.ackAccept
  extract_lets +onlyGivenNames -merge -underBinder x1
  try clear_value x1
  split
  · exact hs
  · extract_lets +onlyGivenNames -merge -underBinder x2
    have q3 : State.outside M x2 = r := by
      unfold x2
      refine State.setRec_outside hRecs ?_
      exact hs
    try clear_value x2
    extract_lets +onlyGivenNames -merge -underBinder x4
    have q5 : State.outside M x4 = r := by
      unfold x4
      refine State.modHw_outside hRecs ?_
      refine State.contact_outside hRecs ?_
      exact q3
    try clear_value x4
    refine ite_outside ?_ ?_
    · split
      · refine State.reportFinal_outside hReports ?_
        refine State.nodePop_outside hNodeQueues ?_
        exact q5
      · exact q5
    · exact hs

theorem State.ackAccept_keeps {s : State} {a0 : Nat} {d : Nat} {offset : Int} : Kept78 s (State.ackAccept s a0 d offset) :=
  .of (State.ackAccept_outside rfl rfl rfl rfl)

theorem State.cellMissed_outside {M : Touch} {r : State} {s : State} {a0 : Nat} (hNums : M.Nums Nums54) (hRecs : M.recs = true) (hs : s.outside M = r) :
    (State.cellMissed s a0).outside M = r := by
  unfold State.cellMissed
  refine State.modHw_outside hRecs ?_
  refine State.bump_outside (hNums.at Key.fam_schedMissed rfl) ?_
  exact hs

theorem State.cellMissed_keeps {s : State} {a0 : Nat} : Kept79 s (State.cellMissed s a0) :=
  .of (State.cellMissed_outside rfl rfl rfl)

theorem State.cellMissed_rd {s : State} {a0 : Nat} {kk : Nat} (hkey : Nums54.contains (Key.fam kk) = false) : (State.cellMissed s a0).rd kk = s.rd kk :=
  State.rd_of_outside (M := .but Nums54) (State.cellMissed_outside .self rfl rfl) rfl hkey

theorem State.enterDl_outside {M : Touch} {r : State} {s : State} {a0 : Nat} {a : Nat} (hNums : M.Nums Nums58) (hRecs : M.recs = true) (hSched : M.sched = true) (hs : s.outside M = r) :
    (State.enterDl s a0 a).outside M = r := by
  unfold State.enterDl
  split
  · refine State.wheelEnter_outside hNums hSched ?_
    refine State.modHw_outside hRecs ?_
    exact hs
  · exact hs

theorem State.enterDl_keeps {s : State} {a0 : Nat} {a : Nat} : Kept80 s (State.enterDl s a0 a) :=
  .of (State.enterDl_outside rfl rfl rfl rfl)

theorem State.enterDl_rd {s : State} {a0 : Nat} {a : Nat} {kk : Nat} (hkey : Nums58.contains (Key.fam kk) = false) : (State.enterDl s a0 a).rd kk = s.rd kk :=
  State.rd_of_outside (M := .but Nums58) (State.enterDl_outside .self rfl rfl rfl) rfl hkey

theorem State.enterUl_outside {M : Touch} {r : State} {s : State} {a0 : Nat} {a : Nat} (hNums : M.Nums Nums58) (hRecs : M.recs = true) (hSched : M.sched = true) (hs : s.outside M = r) :
    (State.enterUl s a0 a).outside M = r := by
  unfold State.enterUl
  split
  · refine State.wheelEnter_outside hNums hSched ?_
    refine State.modHw_outside hRecs ?_
    exact hs
  · exact hs

theorem State.enterUl_keeps {s : State} {a0 : Nat} {a : Nat} : Kept80 s (State.enterUl s a0 a) :=
  .of (State.enterUl_outside rfl rfl rfl rfl)

theorem State.enterUl_rd {s : State} {a0 : Nat} {a : Nat} {kk : Nat} (hkey : Nums58.contains (Key.fam kk) = false) : (State.enterUl s a0 a).rd kk = s.rd kk :=
  State.rd_of_outside (M := .but Nums58) (State.enterUl_outside .self rfl rfl rfl) rfl hkey

theorem State.reschedule_outside {M : Touch} {r : State} {s : State} {a0 : Nat} (hNums : M.Nums Nums58) (hRecs : M.recs = true) (hSched : M.sched = true) (hs : s.outside M = r) :
    (State.reschedule s a0).outside M = r := by
  unfold State.reschedule
  extract_lets +onlyGivenNames -merge -underBinder x1
  have q2 : State.outside M x1 = r := by
    unfold x1
    refine State.unschedule_outside hSched ?_
    exact hs
  try clear_value x1
  extract_lets +onlyGivenNames -merge -underBinder x3
  try clear_value x3
  extract_lets +onlyGivenNames -merge -underBinder x4
  have q5 : State.outside M x4 = r := by
    unfold x4
    refine State.enterDl_outside hNums hRecs hSched ?_
    refine State.enterUl_outside hNums hRecs hSched ?_
    exact q2
  try clear_value x4
  refine ite_outside ?_ ?_
  · exact q2
  · split
    · split
      · refine State.wheelEnter_outside hNums hSched ?_
        exact q5
      · exact q5
    · exact q5

theorem State.reschedule_keeps {s : State} {a0 : Nat} : Kept80 s (State.reschedule s a0) :=
  .of (State.reschedule_outside rfl rfl rfl rfl)

theorem State.reschedule_rd {s : State} {a0 : Nat} {kk : Nat} (hkey : Nums58.contains (Key.fam kk) = false) : (State.reschedule s a0).rd kk = s.rd kk :=
  State.rd_of_outside (M := .but Nums58) (State.reschedule_outside .self rfl rfl rfl) rfl hkey

theorem State.servedFollow_outside {M : Touch} {r : State} {s : State} {old : State} (hNums : M.Nums Nums58) (hRecs : M.recs = true) (hSched : M.sched = true) (hs : s.outside M = r) :
    (State.servedFollow s old).outside M = r := by
  unfold State.servedFollow
  refine State.each_outside ?_ ?_
  · intro t0 q1 z2
    refine State.reschedule_outside hNums hRecs hSched ?_
    exact q1
  · exact hs

theorem State.servedFollow_keeps {s : State} {old : State} : Kept80 s (State.servedFollow s old) :=
  .of (State.servedFollow_outside rfl rfl rfl rfl)

theorem State.servedFollow_rd {s : State} {old : State} {kk : Nat} (hkey : Nums58.contains (Key.fam kk) = false) : (State.servedFollow s old).rd kk = s.rd kk :=
  State.rd_of_outside (M := .but Nums58) (State.servedFollow_outside .self rfl rfl rfl) rfl hkey

theorem State.schedPost_outside {M : Touch} {r : State} {s : State} {c : Err} {arg : Nat} {arg2 : Nat} (hDict : M.dict = true) (hNums : M.Nums Nums2) (hLogs : M.logs = true) (hStraps : M.straps = true) (hJournal : M.journal = true) (hEdges : M.edges = true) (hFlags : M.flags = true) (hs : s.outside M = r) :
    (State.schedPost s c arg arg2).outside M = r := by
  unfold State.schedPost
  refine State.post_outside hDict hNums hLogs hStraps hJournal hEdges hFlags ?_
  exact hs

theorem State.schedPost_keeps {s : State} {c : Err} {arg : Nat} {arg2 : Nat} : Kept8 s (State.schedPost s c arg arg2) :=
  .of (State.schedPost_outside rfl rfl rfl rfl rfl rfl rfl rfl)

theorem State.schedPost_rd {s : State} {c : Err} {arg : Nat} {arg2 : Nat} {kk : Nat} (hkey : Nums2.contains (Key.fam kk) = false) : (State.schedPost s c arg arg2).rd kk = s.rd kk :=
  State.rd_of_outside (M := .but Nums2) (State.schedPost_outside rfl .self rfl rfl rfl rfl rfl rfl) rfl hkey

theorem State.rollover_outside {M : Touch} {r : State} {s : State} {a0 : Nat} {t : Nat} (hDict : M.dict = true) (hNums : M.Nums Nums2) (hLogs : M.logs = true) (hRecs : M.recs = true) (hStraps : M.straps = true) (hJournal : M.journal = true) (hEdges : M.edges = true) (hFlags : M.flags = true) (hs : s.outside M = r) :
    (State.rollover s a0 t).outside M = r := by
  unfold State.rollover
  extract_lets +onlyGivenNames -merge -underBinder x1
  try clear_value x1
  split
  · exact hs
  · extract_lets +onlyGivenNames -merge -underBinder x2
    try clear_value x2
    extract_lets +onlyGivenNames -merge -underBinder x3
    have q4 : State.outside M x3 = r := by
      unfold x3
      refine ite_outside ?_ ?_
      · refine State.schedPost_outside hDict hNums hLogs hStraps hJournal hEdges hFlags ?_
        exact hs
      · exact hs
    try clear_value x3
    extract_lets +onlyGivenNames -merge -underBinder x5
    try clear_value x5
    refine ite_outside ?_ ?_
    · refine State.modHw_outside hRecs ?_
      exact q4
    · exact hs

theorem State.rollover_keeps {s : State} {a0 : Nat} {t : Nat} : Kept76 s (State.rollover s a0 t) :=
  .of (State.rollover_outside rfl rfl rfl rfl rfl rfl rfl rfl rfl)

theorem State.rollover_rd {s : State} {a0 : Nat} {t : Nat} {kk : Nat} (hkey : Nums2.contains (Key.fam kk) = false) : (State.rollover s a0 t).rd kk = s.rd kk :=
  State.rd_of_outside (M := .but Nums2) (State.rollover_outside rfl .self rfl rfl rfl rfl rfl rfl rfl) rfl hkey

theorem State.charge_outside {M : Touch} {r : State} {s : State} {a0 : Nat} {lu : Nat} {t : Nat} (hDict : M.dict = true) (hNums : M.Nums Nums2) (hLogs : M.logs = true) (hRecs : M.recs = true) (hStraps : M.straps = true) (hJournal : M.journal = true) (hEdges : M.edges = true) (hFlags : M.flags = true) (hs : s.outside M = r) :
    (State.charge s a0 lu t).outside M = r := by
  unfold State.charge
  extract_lets +onlyGivenNames -merge -underBinder x1
  have q2 : State.outside M x1 = r := by
    unfold x1
    refine State.rollover_outside hDict hNums hLogs hRecs hStraps hJournal hEdges hFlags ?_
    exact hs
  try clear_value x1
  extract_lets +onlyGivenNames -merge -underBinder x3
  have q4 : State.outside M x3 = r := by
    unfold x3
    refine State.modHw_outside hRecs ?_
    exact q2
  try clear_value x3
  extract_lets +onlyGivenNames -merge -underBinder x5
  try clear_value x5
  refine ite_outside ?_ ?_
  · refine State.schedPost_outside hDict hNums hLogs hStraps hJournal hEdges hFlags ?_
    refine State.modHw_outside hRecs ?_
    exact q4
  · exact q4

theorem State.charge_keeps {s : State} {a0 : Nat} {lu : Nat} {t : Nat} : Kept76 s (State.charge s a0 lu t) :=
  .of (State.charge_outside rfl rfl rfl rfl rfl rfl rfl rfl rfl)

theorem State.charge_rd {s : State} {a0 : Nat} {lu : Nat} {t : Nat} {kk : Nat} (hkey : Nums2.contains (Key.fam kk) = false) : (State.charge s a0 lu t).rd kk = s.rd kk :=
  State.rd_of_outside (M := .but Nums2) (State.charge_outside rfl .self rfl rfl rfl rfl rfl rfl rfl) rfl hkey

theorem State.resync_outside {M : Touch} {r : State} {s : State} {a0 : Nat} (hRecs : M.recs = true) (hs : s.outside M = r) :
    (State.resync s a0).outside M = r := by
  unfold State.resync
  extract_lets +onlyGivenNames -merge -underBinder x1
  try clear_value x1
  split
  · refine ite_outside ?_ ?_
    · refine State.setRec_outside hRecs ?_
      exact hs
    · refine State.modHw_outside hRecs ?_
      exact hs
  · refine State.modHw_outside hRecs ?_
    exact hs

theorem State.resync_keeps {s : State} {a0 : Nat} : Kept25 s (State.resync s a0) :=
  .of (State.resync_outside rfl rfl)

theorem State.useCell_outside {M : Touch} {r : State} {s : State} {a0 : Nat} {a : Nat} {uplink : Bool} (hRecs : M.recs = true) (hs : s.outside M = r) :
    (State.useCell s a0 a uplink).outside M = r := by
  unfold State.useCell
  extract_lets +onlyGivenNames -merge -underBinder x1
  try clear_value x1
  extract_lets +onlyGivenNames -merge -underBinder x2
  try clear_value x2
  extract_lets +onlyGivenNames -merge -underBinder x3
  try clear_value x3
  refine State.setRec_outside hRecs ?_
  exact hs

theorem State.useCell_keeps {s : State} {a0 : Nat} {a : Nat} {uplink : Bool} : Kept25 s (State.useCell s a0 a uplink) :=
  .of (State.useCell_outside rfl rfl)

theorem State.dlPlanned_outside {M : Touch} {r : State} {s : State} {a0 : Nat} {a : Nat} (hNums : M.Nums Nums58) (hRecs : M.recs = true) (hSched : M.sched = true) (hs : s.outside M = r) :
    (State.dlPlanned s a0 a).outside M = r := by
  unfold State.dlPlanned
  extract_lets +onlyGivenNames -merge -underBinder x1
  try clear_value x1
  extract_lets +onlyGivenNames -merge -underBinder x2
  try clear_value x2
  extract_lets +onlyGivenNames -merge -underBinder x3
  have q4 : State.outside M x3 = r := by
    unfold x3
    refine State.setSched_outside hSched ?_
    exact hs
  try clear_value x3
  refine ite_outside ?_ ?_
  · refine State.enterDl_outside hNums hRecs hSched ?_
    exact q4
  · exact q4

theorem State.dlPlanned_keeps {s : State} {a0 : Nat} {a : Nat} : Kept80 s (State.dlPlanned s a0 a) :=
  .of (State.dlPlanned_outside rfl rfl rfl rfl)

theorem State.dlPlanned_rd {s : State} {a0 : Nat} {a : Nat} {kk : Nat} (hkey : Nums58.contains (Key.fam kk) = false) : (State.dlPlanned s a0 a).rd kk = s.rd kk :=
  State.rd_of_outside (M := .but Nums58) (State.dlPlanned_outside .self rfl rfl rfl) rfl hkey

theorem State.downlink_outside {M : Touch} {r : State} {s : State} {a0 : Nat} {f : NodeFrame} (hDict : M.dict = true) (hNums : M.Nums Nums110) (hLogs : M.logs = true) (hStraps : M.straps = true) (hJournal : M.journal = true) (hNodeQueues : M.nodeQueues = true) (hEdges : M.edges = true) (hFlags : M.flags = true) (hReports : M.reports = true) (hs : s.outside M = r) :
    (State.downlink s a0 f).outside M = r := by
  unfold State.downlink
  extract_lets +onlyGivenNames -merge -underBinder x1
  try clear_value x1
  refine ite_outside ?_ ?_
  · refine State.reportFinal_outside hReports ?_
    refine State.bump_outside (hNums.at Key.fam_dlUnknown rfl) ?_
    exact hs
  · refine State.nodePush_outside hDict (hNums.sub rfl) hLogs hStraps hJournal hNodeQueues hEdges hFlags hReports ?_
    exact hs

theorem State.downlink_keeps {s : State} {a0 : Nat} {f : NodeFrame} : Kept31 s (State.downlink s a0 f) :=
  .of (State.downlink_outside rfl rfl rfl rfl rfl rfl rfl rfl rfl rfl)

theorem State.downlink_rd {s : State} {a0 : Nat} {f : NodeFrame} {kk : Nat} (hkey : Nums110.contains (Key.fam kk) = false) : (State.downlink s a0 f).rd kk = s.rd kk :=
  State.rd_of_outside (M := .but Nums110) (State.downlink_outside rfl .self rfl rfl rfl rfl rfl rfl rfl rfl) rfl hkey

theorem State.headRead_outside {M : Touch} {r : State} {s : State} {a0 : Nat} {fails : List WordFail} (hDict : M.dict = true) (hNums : M.Nums Nums127) (hLogs : M.logs = true) (hStraps : M.straps = true) (hJournal : M.journal = true) (hNodeQueues : M.nodeQueues = true) (hEdges : M.edges = true) (hFlags : M.flags = true) (hReports : M.reports = true) (hs : s.outside M = r) :
    (State.headRead s a0 fails).outside M = r := by
  unfold State.headRead
  split
  · exact hs
  · extract_lets +onlyGivenNames -merge -underBinder x1
    try clear_value x1
    extract_lets +onlyGivenNames -merge -underBinder x2
    try clear_value x2
    extract_lets +onlyGivenNames -merge -underBinder x3
    have q4 : State.outside M x3 = r := by
      unfold x3
      refine State.wordsRead_outside (hNums.sub rfl) ?_
      exact hs
    try clear_value x3
    refine ite_outside ?_ ?_
    · exact hs
    · refine ite_outside ?_ ?_
      · refine State.resetNodeQ_outside hDict (hNums.sub rfl) hLogs hStraps hJournal hNodeQueues hEdges hFlags hReports ?_
        exact q4
      · refine ite_outside ?_ ?_
        · refine State.sqPost_outside hDict (hNums.sub rfl) hLogs hStraps hJournal hEdges hFlags ?_
          refine State.undelivered_outside hDict (hNums.sub rfl) hLogs hStraps hJournal hEdges hFlags hReports ?_
          refine State.nodePop_outside hNodeQueues ?_
          exact q4
        · refine State.modHead_outside hNodeQueues ?_
          exact q4

theorem State.headRead_keeps {s : State} {a0 : Nat} {fails : List WordFail} : Kept31 s (State.headRead s a0 fails) :=
  .of (State.headRead_outside rfl rfl rfl rfl rfl rfl rfl rfl rfl rfl)

theorem State.headRead_rd {s : State} {a0 : Nat} {fails : List WordFail} {kk : Nat} (hkey : Nums127.contains (Key.fam kk) = false) : (State.headRead s a0 fails).rd kk = s.rd kk :=
  State.rd_of_outside (M := .but Nums127) (State.headRead_outside rfl .self rfl rfl rfl rfl rfl rfl rfl rfl) rfl hkey

theorem execDownlinkHeadRead_outside {M : Touch} {r : State} {a0 : Fin 16384} {fails : List WordFail} {s : State} (hDict : M.dict = true) (hNums : M.Nums Nums127) (hLogs : M.logs = true) (hStraps : M.straps = true) (hJournal : M.journal = true) (hNodeQueues : M.nodeQueues = true) (hEdges : M.edges = true) (hFlags : M.flags = true) (hReports : M.reports = true) (hs : s.outside M = r) :
    NextOutside M r (execDownlinkHeadRead a0 fails s) := by
  unfold execDownlinkHeadRead
  refine next_outside ?_
  refine ite_outside ?_ ?_
  · refine State.headRead_outside hDict hNums hLogs hStraps hJournal hNodeQueues hEdges hFlags hReports ?_
    exact hs
  · exact hs

theorem execCellEndCharge_outside {M : Touch} {r : State} {a0 : Fin 16384} {dt : Nat} {s : State} (hClock : M.clock = true) (hDict : M.dict = true) (hNums : M.Nums Nums2) (hLogs : M.logs = true) (hVbat : M.vbat = true) (hRecs : M.recs = true) (hStraps : M.straps = true) (hJournal : M.journal = true) (hEdges : M.edges = true) (hFlags : M.flags = true) (hs : s.outside M = r) :
    NextOutside M r (execCellEndCharge a0 dt s) := by
  unfold execCellEndCharge
  extract_lets +onlyGivenNames -merge -underBinder x1
  have q2 : State.outside M x1 = r := by
    unfold x1
    refine State.advance_outside hClock hVbat ?_
    exact hs
  try clear_value x1
  extract_lets +onlyGivenNames -merge -underBinder x3
  try clear_value x3
  refine next_outside ?_
  split
  · exact q2
  · extract_lets +onlyGivenNames -merge -underBinder x4
    have q5 : State.outside M x4 = r := by
      unfold x4
      refine State.setRec_outside hRecs ?_
      exact q2
    try clear_value x4
    refine State.charge_outside hDict hNums hLogs hRecs hStraps hJournal hEdges hFlags ?_
    exact q5

theorem execDownlinkEnqueue_outside {M : Touch} {r : State} {a0 : Fin 16384} {f : NodeFrame} {s : State} (hDict : M.dict = true) (hNums : M.Nums Nums110) (hLogs : M.logs = true) (hStraps : M.straps = true) (hJournal : M.journal = true) (hNodeQueues : M.nodeQueues = true) (hEdges : M.edges = true) (hFlags : M.flags = true) (hReports : M.reports = true) (hs : s.outside M = r) :
    NextOutside M r (execDownlinkEnqueue a0 f s) := by
  unfold execDownlinkEnqueue
  refine next_outside ?_
  refine State.downlink_outside hDict hNums hLogs hStraps hJournal hNodeQueues hEdges hFlags hReports ?_
  exact hs

theorem execGuardLimit_outside {M : Touch} {r : State} {a0 : Fin 16384} {dt : Nat} {s : State} (hClock : M.clock = true) (hDict : M.dict = true) (hNums : M.Nums Nums23) (hLogs : M.logs = true) (hVbat : M.vbat = true) (hRecs : M.recs = true) (hStraps : M.straps = true) (hJournal : M.journal = true) (hEdges : M.edges = true) (hFlags : M.flags = true) (hs : s.outside M = r) :
    NextOutside M r (execGuardLimit a0 dt s) := by
  unfold execGuardLimit
  extract_lets +onlyGivenNames -merge -underBinder x1
  have q2 : State.outside M x1 = r := by
    unfold x1
    refine State.advance_outside hClock hVbat ?_
    exact hs
  try clear_value x1
  extract_lets +onlyGivenNames -merge -underBinder x3
  try clear_value x3
  refine next_outside ?_
  refine ite_outside ?_ ?_
  · refine State.desync_outside hDict hNums hLogs hRecs hStraps hJournal hEdges hFlags ?_
    exact q2
  · exact q2

theorem execHeadReadTimeout_outside {M : Touch} {r : State} {a0 : Fin 16384} {dt : Nat} {s : State} (hClock : M.clock = true) (hNums : M.Nums Nums114) (hVbat : M.vbat = true) (hRecs : M.recs = true) (hSched : M.sched = true) (hs : s.outside M = r) :
    NextOutside M r (execHeadReadTimeout a0 dt s) := by
  unfold execHeadReadTimeout
  extract_lets +onlyGivenNames -merge -underBinder x1
  have q2 : State.outside M x1 = r := by
    unfold x1
    refine State.advance_outside hClock hVbat ?_
    exact hs
  try clear_value x1
  refine next_outside ?_
  split
  · refine ite_outside ?_ ?_
    · exact q2
    · refine State.dlPlanned_outside (hNums.sub rfl) hRecs hSched ?_
      refine State.cellMissed_outside (hNums.sub rfl) hRecs ?_
      refine State.useCell_outside hRecs ?_
      exact q2
  · exact q2

theorem execDlAckTimeout_outside {M : Touch} {r : State} {a0 : Fin 16384} {dt : Nat} {s : State} (hClock : M.clock = true) (hDict : M.dict = true) (hNums : M.Nums Nums24) (hLogs : M.logs = true) (hVbat : M.vbat = true) (hRecs : M.recs = true) (hStraps : M.straps = true) (hJournal : M.journal = true) (hNodeQueues : M.nodeQueues = true) (hEdges : M.edges = true) (hFlags : M.flags = true) (hReports : M.reports = true) (hs : s.outside M = r) :
    NextOutside M r (execDlAckTimeout a0 dt s) := by
  unfold execDlAckTimeout
  extract_lets +onlyGivenNames -merge -underBinder x1
  have q2 : State.outside M x1 = r := by
    unfold x1
    refine State.advance_outside hClock hVbat ?_
    exact hs
  try clear_value x1
  extract_lets +onlyGivenNames -merge -underBinder x3
  try clear_value x3
  refine next_outside ?_
  split
  · exact q2
  · refine ite_outside ?_ ?_
    · refine State.attemptFailed_outside hDict hNums hLogs hRecs hStraps hJournal hNodeQueues hEdges hFlags hReports ?_
      exact q2
    · exact q2

theorem execDlAckRx_outside {M : Touch} {r : State} {a0 : Fin 16384} {dsn : Nat} {offset : Int} {dt : Nat} {s : State} (hClock : M.clock = true) (hVbat : M.vbat = true) (hRecs : M.recs = true) (hNodeQueues : M.nodeQueues = true) (hReports : M.reports = true) (hs : s.outside M = r) :
    NextOutside M r (execDlAckRx a0 dsn offset dt s) := by
  unfold execDlAckRx
  refine next_outside ?_
  refine State.ackAccept_outside hRecs hNodeQueues hReports ?_
  refine State.advance_outside hClock hVbat ?_
  exact hs

end Sys2Proof.Machine
end

