-- ==== Sys2Proof/Laws/Frame/LaceBase.lean ====
section
/-! SUPPORT. What the operations of Machine/LaceBase.lean leave alone. -/

namespace Sys2Proof.Machine

theorem State.laceCount_outside {M : Touch} {r : State} {s : State} {k : Nat} (hNums : M.Nums Nums3) (hs : s.outside M = r) :
    (State.laceCount s k).outside M = r := by
  unfold State.laceCount
  extract_lets +onlyGivenNames -merge -underBinder x0
  try clear_value x0
  refine State.wr_outside (hNums.at Key.fam_campPending rfl) ?_
  refine State.wr_outside (hNums.at Key.fam_campDone rfl) ?_
  exact hs

theorem State.laceCount_keeps {s : State} {k : Nat} : Kept1 s (State.laceCount s k) :=
  .of (State.laceCount_outside rfl rfl)

theorem State.laceCount_rd {s : State} {k : Nat} {kk : Nat} (hkey : Nums3.contains (Key.fam kk) = false) : (State.laceCount s k).rd kk = s.rd kk :=
  State.rd_of_outside (M := .but Nums3) (State.laceCount_outside .self rfl) rfl hkey

theorem State.lacePost_outside {M : Touch} {r : State} {s : State} {c : Err} {k : Nat} {arg : Nat} {arg2 : Nat} (hDict : M.dict = true) (hNums : M.Nums Nums2) (hLogs : M.logs = true) (hStraps : M.straps = true) (hJournal : M.journal = true) (hEdges : M.edges = true) (hFlags : M.flags = true) (hs : s.outside M = r) :
    (State.lacePost s c k arg arg2).outside M = r := by
  unfold State.lacePost
  refine State.post_outside hDict hNums hLogs hStraps hJournal hEdges hFlags ?_
  exact hs

theorem State.lacePost_keeps {s : State} {c : Err} {k : Nat} {arg : Nat} {arg2 : Nat} : Kept8 s (State.lacePost s c k arg arg2) :=
  .of (State.lacePost_outside rfl rfl rfl rfl rfl rfl rfl rfl)

theorem State.lacePost_rd {s : State} {c : Err} {k : Nat} {arg : Nat} {arg2 : Nat} {kk : Nat} (hkey : Nums2.contains (Key.fam kk) = false) : (State.lacePost s c k arg arg2).rd kk = s.rd kk :=
  State.rd_of_outside (M := .but Nums2) (State.lacePost_outside rfl .self rfl rfl rfl rfl rfl rfl) rfl hkey

theorem State.laceActiveNow_outside {M : Touch} {r : State} {s : State} (hNums : M.Nums Nums4) (hs : s.outside M = r) :
    (State.laceActiveNow s).outside M = r := by
  unfold State.laceActiveNow
  refine State.wr_outside (hNums.at Key.fam_laceActive rfl) ?_
  exact hs

theorem State.laceActiveNow_keeps {s : State} : Kept1 s (State.laceActiveNow s) :=
  .of (State.laceActiveNow_outside rfl rfl)

theorem State.laceActiveNow_rd {s : State} {kk : Nat} (hkey : Nums4.contains (Key.fam kk) = false) : (State.laceActiveNow s).rd kk = s.rd kk :=
  State.rd_of_outside (M := .but Nums4) (State.laceActiveNow_outside .self rfl) rfl hkey

theorem State.setCampSt_outside {M : Touch} {r : State} {s : State} {k : Nat} {x : Nat} (hNums : M.Nums Nums5) (hEdges : M.edges = true) (hs : s.outside M = r) :
    (State.setCampSt s k x).outside M = r := by
  unfold State.setCampSt
  refine State.laceActiveNow_outside (hNums.sub rfl) ?_
  refine State.wrEdge_outside (hNums.at Key.fam_campState rfl) hEdges ?_
  exact hs

theorem State.setCampSt_keeps {s : State} {k : Nat} {x : Nat} : Kept9 s (State.setCampSt s k x) :=
  .of (State.setCampSt_outside rfl rfl rfl)

theorem State.setCampSt_rd {s : State} {k : Nat} {x : Nat} {kk : Nat} (hkey : Nums5.contains (Key.fam kk) = false) : (State.setCampSt s k x).rd kk = s.rd kk :=
  State.rd_of_outside (M := .but Nums5) (State.setCampSt_outside .self rfl rfl) rfl hkey

theorem State.laceDone_outside {M : Touch} {r : State} {s : State} {k : Nat} (hDict : M.dict = true) (hNums : M.Nums Nums6) (hLogs : M.logs = true) (hStraps : M.straps = true) (hJournal : M.journal = true) (hEdges : M.edges = true) (hFlags : M.flags = true) (hs : s.outside M = r) :
    (State.laceDone s k).outside M = r := by
  unfold State.laceDone
  refine State.lacePost_outside hDict (hNums.sub rfl) hLogs hStraps hJournal hEdges hFlags ?_
  refine State.setCampSt_outside (hNums.sub rfl) hEdges ?_
  exact hs

theorem State.laceDone_keeps {s : State} {k : Nat} : Kept8 s (State.laceDone s k) :=
  .of (State.laceDone_outside rfl rfl rfl rfl rfl rfl rfl rfl)

theorem State.laceDone_rd {s : State} {k : Nat} {kk : Nat} (hkey : Nums6.contains (Key.fam kk) = false) : (State.laceDone s k).rd kk = s.rd kk :=
  State.rd_of_outside (M := .but Nums6) (State.laceDone_outside rfl .self rfl rfl rfl rfl rfl rfl) rfl hkey

theorem State.laceCheck_outside {M : Touch} {r : State} {s : State} {k : Nat} (hDict : M.dict = true) (hNums : M.Nums Nums7) (hLogs : M.logs = true) (hStraps : M.straps = true) (hJournal : M.journal = true) (hEdges : M.edges = true) (hFlags : M.flags = true) (hs : s.outside M = r) :
    (State.laceCheck s k).outside M = r := by
  unfold State.laceCheck
  extract_lets +onlyGivenNames -merge -underBinder x0
  have q1 : State.outside M x0 = r := by
    unfold x0
    refine State.laceCount_outside (hNums.sub rfl) ?_
    exact hs
  try clear_value x0
  refine ite_outside ?_ ?_
  · refine State.laceDone_outside hDict (hNums.sub rfl) hLogs hStraps hJournal hEdges hFlags ?_
    exact q1
  · exact q1

theorem State.laceCheck_keeps {s : State} {k : Nat} : Kept8 s (State.laceCheck s k) :=
  .of (State.laceCheck_outside rfl rfl rfl rfl rfl rfl rfl rfl)

theorem State.laceCheck_rd {s : State} {k : Nat} {kk : Nat} (hkey : Nums7.contains (Key.fam kk) = false) : (State.laceCheck s k).rd kk = s.rd kk :=
  State.rd_of_outside (M := .but Nums7) (State.laceCheck_outside rfl .self rfl rfl rfl rfl rfl rfl) rfl hkey

theorem State.setCamp_outside {M : Touch} {r : State} {s : State} {k : Nat} {c : Campaign} (hLacing : M.lacing = true) (hs : s.outside M = r) :
    (State.setCamp s k c).outside M = r := by
  unfold State.setCamp
  extract_lets +onlyGivenNames -merge -underBinder x0
  try clear_value x0
  refine Eq.trans (State.outside_lacing (h0 := hLacing) ..) ?_
  exact hs

theorem State.setCamp_keeps {s : State} {k : Nat} {c : Campaign} : Kept81 s (State.setCamp s k c) :=
  .of (State.setCamp_outside rfl rfl)

theorem State.laceForget_outside {M : Touch} {r : State} {s : State} {a0 : Nat} (hDict : M.dict = true) (hNums : M.Nums Nums7) (hLogs : M.logs = true) (hStraps : M.straps = true) (hJournal : M.journal = true) (hLacing : M.lacing = true) (hEdges : M.edges = true) (hFlags : M.flags = true) (hs : s.outside M = r) :
    (State.laceForget s a0).outside M = r := by
  unfold State.laceForget
  refine State.each_outside ?_ ?_
  · intro t1 q2 z3
    extract_lets +onlyGivenNames -merge -underBinder x4
    try clear_value x4
    refine ite_outside ?_ ?_
    · refine State.laceCheck_outside hDict hNums hLogs hStraps hJournal hEdges hFlags ?_
      refine State.setCamp_outside hLacing ?_
      exact q2
    · exact q2
  · exact hs

theorem State.laceForget_keeps {s : State} {a0 : Nat} : Kept82 s (State.laceForget s a0) :=
  .of (State.laceForget_outside rfl rfl rfl rfl rfl rfl rfl rfl rfl)

theorem State.laceForget_rd {s : State} {a0 : Nat} {kk : Nat} (hkey : Nums7.contains (Key.fam kk) = false) : (State.laceForget s a0).rd kk = s.rd kk :=
  State.rd_of_outside (M := .but Nums7) (State.laceForget_outside rfl .self rfl rfl rfl rfl rfl rfl rfl) rfl hkey

theorem State.modStream_outside {M : Touch} {r : State} {s : State} {k : Nat} {mode : Nat} {f : LaceStream → LaceStream} (hLacing : M.lacing = true) (hs : s.outside M = r) :
    (State.modStream s k mode f).outside M = r := by
  unfold State.modStream
  extract_lets +onlyGivenNames -merge -underBinder x0
  try clear_value x0
  refine State.setCamp_outside hLacing ?_
  exact hs

theorem State.modStream_keeps {s : State} {k : Nat} {mode : Nat} {f : LaceStream → LaceStream} : Kept81 s (State.modStream s k mode f) :=
  .of (State.modStream_outside rfl rfl)

theorem State.laceUnsent_outside {M : Touch} {r : State} {s : State} {k : Nat} {mode : Nat} {z : Nat} {x : Nat} (hLacing : M.lacing = true) (hs : s.outside M = r) :
    (State.laceUnsent s k mode z x).outside M = r := by
  unfold State.laceUnsent
  refine State.modStream_outside hLacing ?_
  exact hs

theorem State.laceUnsent_keeps {s : State} {k : Nat} {mode : Nat} {z : Nat} {x : Nat} : Kept81 s (State.laceUnsent s k mode z x) :=
  .of (State.laceUnsent_outside rfl rfl)

theorem State.laceFailed_outside {M : Touch} {r : State} {s : State} {k : Nat} {q : TxReq} (hLacing : M.lacing = true) (hs : s.outside M = r) :
    (State.laceFailed s k q).outside M = r := by
  unfold State.laceFailed
  refine State.laceUnsent_outside hLacing ?_
  exact hs

theorem State.laceFailed_keeps {s : State} {k : Nat} {q : TxReq} : Kept81 s (State.laceFailed s k q) :=
  .of (State.laceFailed_outside rfl rfl)

theorem State.laceFail_outside {M : Touch} {r : State} {s : State} {k : Nat} {code : Nat} (hDict : M.dict = true) (hNums : M.Nums Nums6) (hLogs : M.logs = true) (hStraps : M.straps = true) (hJournal : M.journal = true) (hEdges : M.edges = true) (hFlags : M.flags = true) (hs : s.outside M = r) :
    (State.laceFail s k code).outside M = r := by
  unfold State.laceFail
  refine State.lacePost_outside hDict (hNums.sub rfl) hLogs hStraps hJournal hEdges hFlags ?_
  refine State.setCampSt_outside (hNums.sub rfl) hEdges ?_
  exact hs

theorem State.laceFail_keeps {s : State} {k : Nat} {code : Nat} : Kept8 s (State.laceFail s k code) :=
  .of (State.laceFail_outside rfl rfl rfl rfl rfl rfl rfl rfl)

theorem State.laceFail_rd {s : State} {k : Nat} {code : Nat} {kk : Nat} (hkey : Nums6.contains (Key.fam kk) = false) : (State.laceFail s k code).rd kk = s.rd kk :=
  State.rd_of_outside (M := .but Nums6) (State.laceFail_outside rfl .self rfl rfl rfl rfl rfl rfl) rfl hkey

theorem State.targetCheck_outside {M : Touch} {r : State} {s : State} {k : Nat} (hDict : M.dict = true) (hNums : M.Nums Nums6) (hLogs : M.logs = true) (hStraps : M.straps = true) (hJournal : M.journal = true) (hEdges : M.edges = true) (hFlags : M.flags = true) (hs : s.outside M = r) :
    (State.targetCheck s k).outside M = r := by
  unfold State.targetCheck
  refine ite_outside ?_ ?_
  · refine State.laceFail_outside hDict hNums hLogs hStraps hJournal hEdges hFlags ?_
    exact hs
  · exact hs

theorem State.targetCheck_keeps {s : State} {k : Nat} : Kept8 s (State.targetCheck s k) :=
  .of (State.targetCheck_outside rfl rfl rfl rfl rfl rfl rfl rfl)

theorem State.targetCheck_rd {s : State} {k : Nat} {kk : Nat} (hkey : Nums6.contains (Key.fam kk) = false) : (State.targetCheck s k).rd kk = s.rd kk :=
  State.rd_of_outside (M := .but Nums6) (State.targetCheck_outside rfl .self rfl rfl rfl rfl rfl rfl) rfl hkey

theorem State.storeTargets_outside {M : Touch} {r : State} {s : State} {k : Nat} {d : Bytes} (hAttached : M.Attached r) (hLacing : M.lacing = true) (hs : s.outside M = r) :
    (State.storeTargets s k d).outside M = r := by
  unfold State.storeTargets
  split
  · exact hs
  · extract_lets +onlyGivenNames -merge -underBinder x0
    have q1 : State.outside M x0 = r := by
      unfold x0
      refine State.sbStore_outside hAttached ?_
      exact hs
    try clear_value x0
    extract_lets +onlyGivenNames -merge -underBinder x2
    try clear_value x2
    refine Eq.trans (State.outside_lacing (h0 := hLacing) ..) ?_
    exact q1

theorem State.storeTargets_keeps {s : State} {k : Nat} {d : Bytes} : Kept83 s (State.storeTargets s k d) :=
  .of (State.storeTargets_outside (.free rfl rfl) rfl rfl)

theorem State.laceReport_outside {M : Touch} {r : State} {s : State} {short : Nat} {t : Nat} {p : Bytes} (hNums : M.Nums Nums1) (hStraps : M.straps = true) (hFlags : M.flags = true) (hs : s.outside M = r) :
    (State.laceReport s short t p).outside M = r := by
  unfold State.laceReport
  extract_lets +onlyGivenNames -merge -underBinder x0
  try clear_value x0
  refine State.strapPush_outside hNums hStraps hFlags ?_
  exact hs

theorem State.laceReport_keeps {s : State} {short : Nat} {t : Nat} {p : Bytes} : Kept6 s (State.laceReport s short t p) :=
  .of (State.laceReport_outside rfl rfl rfl rfl)

theorem State.laceReport_rd {s : State} {short : Nat} {t : Nat} {p : Bytes} {kk : Nat} (hkey : Nums1.contains (Key.fam kk) = false) : (State.laceReport s short t p).rd kk = s.rd kk :=
  State.rd_of_outside (M := .but Nums1) (State.laceReport_outside .self rfl rfl rfl) rfl hkey

theorem State.laceRestart_outside {M : Touch} {r : State} {s : State} {k : Nat} {z : Nat} (hDict : M.dict = true) (hNums : M.Nums Nums2) (hLogs : M.logs = true) (hStraps : M.straps = true) (hJournal : M.journal = true) (hLacing : M.lacing = true) (hEdges : M.edges = true) (hFlags : M.flags = true) (hs : s.outside M = r) :
    (State.laceRestart s k z).outside M = r := by
  unfold State.laceRestart
  extract_lets +onlyGivenNames -merge -underBinder x0
  try clear_value x0
  extract_lets +onlyGivenNames -merge -underBinder x1
  try clear_value x1
  extract_lets +onlyGivenNames -merge -underBinder x2
  try clear_value x2
  refine ite_outside ?_ ?_
  · exact hs
  · refine State.lacePost_outside hDict hNums hLogs hStraps hJournal hEdges hFlags ?_
    refine State.setCamp_outside hLacing ?_
    exact hs

theorem State.laceRestart_keeps {s : State} {k : Nat} {z : Nat} : Kept82 s (State.laceRestart s k z) :=
  .of (State.laceRestart_outside rfl rfl rfl rfl rfl rfl rfl rfl rfl)

theorem State.laceRestart_rd {s : State} {k : Nat} {z : Nat} {kk : Nat} (hkey : Nums2.contains (Key.fam kk) = false) : (State.laceRestart s k z).rd kk = s.rd kk :=
  State.rd_of_outside (M := .but Nums2) (State.laceRestart_outside rfl .self rfl rfl rfl rfl rfl rfl rfl) rfl hkey

end Sys2Proof.Machine
end

