-- ==== Sys2Proof/Laws/Frame/Tiles.lean ====
section
/-! SUPPORT. What the operations of Machine/Tiles.lean leave alone. -/

namespace Sys2Proof.Machine

theorem State.setPort_outside {M : Touch} {r : State} {s : State} {p : Nat} {x : Port} (hPorts : M.ports = true) (hs : s.outside M = r) :
    (State.setPort s p x).outside M = r := by
  unfold State.setPort
  extract_lets +onlyGivenNames -merge -underBinder x0
  unfold x0
  clear x0
  refine Eq.trans (State.outside_radio_ports (h0 := hPorts) ..) ?_
  exact hs

theorem State.setPort_keeps {s : State} {p : Nat} {x : Port} : Kept84 s (State.setPort s p x) :=
  .of (State.setPort_outside rfl rfl)

theorem State.burstMark_outside {M : Touch} {r : State} {s : State} {p : Nat} (hPorts : M.ports = true) (hs : s.outside M = r) :
    (State.burstMark s p).outside M = r := by
  unfold State.burstMark
  extract_lets +onlyGivenNames -merge -underBinder x0
  try clear_value x0
  refine State.setPort_outside hPorts ?_
  exact hs

theorem State.burstMark_keeps {s : State} {p : Nat} : Kept84 s (State.burstMark s p) :=
  .of (State.burstMark_outside rfl rfl)

theorem State.setTx_outside {M : Touch} {r : State} {s : State} {n : Nat} {x : TxTile} (hTxTiles : M.txTiles = true) (hs : s.outside M = r) :
    (State.setTx s n x).outside M = r := by
  unfold State.setTx
  extract_lets +onlyGivenNames -merge -underBinder x0
  unfold x0
  clear x0
  refine Eq.trans (State.outside_radio_txTiles (h0 := hTxTiles) ..) ?_
  exact hs

theorem State.setTx_keeps {s : State} {n : Nat} {x : TxTile} : Kept85 s (State.setTx s n x) :=
  .of (State.setTx_outside rfl rfl)

theorem State.abortAir_outside {M : Touch} {r : State} {s : State} {p : Nat} (hNums : M.Nums Nums10) (hPorts : M.ports = true) (hTxTiles : M.txTiles = true) (hs : s.outside M = r) :
    (State.abortAir s p).outside M = r := by
  unfold State.abortAir
  refine State.each_outside ?_ ?_
  · intro t0 q1 z2
    split
    · extract_lets +onlyGivenNames -merge -underBinder x3
      try clear_value x3
      refine ite_outside ?_ ?_
      · exact q1
      · refine State.burstMark_outside hPorts ?_
        refine State.setTx_outside hTxTiles ?_
        refine State.wr_outside (hNums.at Key.fam_txcState rfl) ?_
        exact q1
    · exact q1
  · exact hs

theorem State.abortAir_keeps {s : State} {p : Nat} : Kept86 s (State.abortAir s p) :=
  .of (State.abortAir_outside rfl rfl rfl rfl)

theorem State.abortAir_rd {s : State} {p : Nat} {kk : Nat} (hkey : Nums10.contains (Key.fam kk) = false) : (State.abortAir s p).rd kk = s.rd kk :=
  State.rd_of_outside (M := .but Nums10) (State.abortAir_outside .self rfl rfl rfl) rfl hkey

theorem State.setRx_outside {M : Touch} {r : State} {s : State} {n : Nat} {x : RxTile} (hRxTiles : M.rxTiles = true) (hs : s.outside M = r) :
    (State.setRx s n x).outside M = r := by
  unfold State.setRx
  extract_lets +onlyGivenNames -merge -underBinder x0
  unfold x0
  clear x0
  refine Eq.trans (State.outside_radio_rxTiles (h0 := hRxTiles) ..) ?_
  exact hs

theorem State.setRx_keeps {s : State} {n : Nat} {x : RxTile} : Kept87 s (State.setRx s n x) :=
  .of (State.setRx_outside rfl rfl)

theorem State.failCands_outside {M : Touch} {r : State} {s : State} {n : Nat} {k : Nat} (hNums : M.Nums Nums19) (hs : s.outside M = r) :
    (State.failCands s n k).outside M = r := by
  unfold State.failCands
  refine State.bump_outside (hNums.at Key.fam_bsFailed rfl) ?_
  exact hs

theorem State.failCands_keeps {s : State} {n : Nat} {k : Nat} : Kept1 s (State.failCands s n k) :=
  .of (State.failCands_outside rfl rfl)

theorem State.failCands_rd {s : State} {n : Nat} {k : Nat} {kk : Nat} (hkey : Nums19.contains (Key.fam kk) = false) : (State.failCands s n k).rd kk = s.rd kk :=
  State.rd_of_outside (M := .but Nums19) (State.failCands_outside .self rfl) rfl hkey

theorem State.rxIdle_outside {M : Touch} {r : State} {s : State} {n : Nat} (hNums : M.Nums Nums20) (hRxTiles : M.rxTiles = true) (hs : s.outside M = r) :
    (State.rxIdle s n).outside M = r := by
  unfold State.rxIdle
  extract_lets +onlyGivenNames -merge -underBinder x0
  try clear_value x0
  extract_lets +onlyGivenNames -merge -underBinder x1
  try clear_value x1
  extract_lets +onlyGivenNames -merge -underBinder x2
  have q3 : State.outside M x2 = r := by
    unfold x2
    split
    · refine State.failCands_outside (hNums.sub rfl) ?_
      exact hs
    · exact hs
  try clear_value x2
  refine State.wr_outside (hNums.at Key.fam_rxcState rfl) ?_
  refine State.setRx_outside hRxTiles ?_
  exact q3

theorem State.rxIdle_keeps {s : State} {n : Nat} : Kept88 s (State.rxIdle s n) :=
  .of (State.rxIdle_outside rfl rfl rfl)

theorem State.rxIdle_rd {s : State} {n : Nat} {kk : Nat} (hkey : Nums20.contains (Key.fam kk) = false) : (State.rxIdle s n).rd kk = s.rd kk :=
  State.rd_of_outside (M := .but Nums20) (State.rxIdle_outside .self rfl rfl) rfl hkey

theorem State.rxPost_outside {M : Touch} {r : State} {s : State} {c : Err} {n : Nat} {arg : Nat} {arg2 : Nat} (hDict : M.dict = true) (hNums : M.Nums Nums2) (hLogs : M.logs = true) (hStraps : M.straps = true) (hJournal : M.journal = true) (hEdges : M.edges = true) (hFlags : M.flags = true) (hs : s.outside M = r) :
    (State.rxPost s c n arg arg2).outside M = r := by
  unfold State.rxPost
  refine State.post_outside hDict hNums hLogs hStraps hJournal hEdges hFlags ?_
  exact hs

theorem State.rxPost_keeps {s : State} {c : Err} {n : Nat} {arg : Nat} {arg2 : Nat} : Kept8 s (State.rxPost s c n arg arg2) :=
  .of (State.rxPost_outside rfl rfl rfl rfl rfl rfl rfl rfl)

theorem State.rxPost_rd {s : State} {c : Err} {n : Nat} {arg : Nat} {arg2 : Nat} {kk : Nat} (hkey : Nums2.contains (Key.fam kk) = false) : (State.rxPost s c n arg arg2).rd kk = s.rd kk :=
  State.rd_of_outside (M := .but Nums2) (State.rxPost_outside rfl .self rfl rfl rfl rfl rfl rfl) rfl hkey

theorem State.preempt_outside {M : Touch} {r : State} {s : State} {p : Nat} (hDict : M.dict = true) (hNums : M.Nums Nums21) (hLogs : M.logs = true) (hRxTiles : M.rxTiles = true) (hStraps : M.straps = true) (hJournal : M.journal = true) (hEdges : M.edges = true) (hFlags : M.flags = true) (hs : s.outside M = r) :
    (State.preempt s p).outside M = r := by
  unfold State.preempt
  refine State.each_outside ?_ ?_
  · intro t0 q1 z2
    extract_lets +onlyGivenNames -merge -underBinder x3
    have q4 : State.outside M x3 = r := by
      unfold x3
      refine ite_outside ?_ ?_
      · refine State.rxIdle_outside (hNums.sub rfl) hRxTiles ?_
        refine State.rxPost_outside hDict (hNums.sub rfl) hLogs hStraps hJournal hEdges hFlags ?_
        exact q1
      · exact q1
    try clear_value x3
    refine State.setRx_outside hRxTiles ?_
    exact q4
  · exact hs

theorem State.preempt_keeps {s : State} {p : Nat} : Kept89 s (State.preempt s p) :=
  .of (State.preempt_outside rfl rfl rfl rfl rfl rfl rfl rfl rfl)

theorem State.preempt_rd {s : State} {p : Nat} {kk : Nat} (hkey : Nums21.contains (Key.fam kk) = false) : (State.preempt s p).rd kk = s.rd kk :=
  State.rd_of_outside (M := .but Nums21) (State.preempt_outside rfl .self rfl rfl rfl rfl rfl rfl rfl) rfl hkey

theorem State.addAir_outside {M : Touch} {r : State} {s : State} {p : Nat} {i : Nat} {t : Nat} (hRadio : M.radio = true) (hs : s.outside M = r) :
    (State.addAir s p i t).outside M = r := by
  unfold State.addAir
  extract_lets +onlyGivenNames -merge -underBinder x0
  unfold x0
  clear x0
  refine Eq.trans (State.outside_radio_radio (h0 := hRadio) ..) ?_
  exact hs

theorem State.addAir_keeps {s : State} {p : Nat} {i : Nat} {t : Nat} : Kept90 s (State.addAir s p i t) :=
  .of (State.addAir_outside rfl rfl)

theorem State.placeTx_outside {M : Touch} {r : State} {s : State} (hDict : M.dict = true) (hNums : M.Nums Nums22) (hLogs : M.logs = true) (hTxTiles : M.txTiles = true) (hStraps : M.straps = true) (hJournal : M.journal = true) (hEdges : M.edges = true) (hFlags : M.flags = true) (hs : s.outside M = r) :
    (State.placeTx s).outside M = r := by
  unfold State.placeTx
  refine State.each_outside ?_ ?_
  · intro t0 q1 z2
    extract_lets +onlyGivenNames -merge -underBinder x3
    try clear_value x3
    extract_lets +onlyGivenNames -merge -underBinder x4
    try clear_value x4
    extract_lets +onlyGivenNames -merge -underBinder x5
    try clear_value x5
    extract_lets +onlyGivenNames -merge -underBinder x6
    try clear_value x6
    extract_lets +onlyGivenNames -merge -underBinder x7
    try clear_value x7
    extract_lets +onlyGivenNames -merge -underBinder x8
    try clear_value x8
    extract_lets +onlyGivenNames -merge -underBinder x9
    try clear_value x9
    extract_lets +onlyGivenNames -merge -underBinder x10
    have q11 : State.outside M x10 = r := by
      unfold x10
      refine State.wr_outside (hNums.at Key.fam_txcPlaced rfl) ?_
      exact q1
    try clear_value x10
    refine ite_outside ?_ ?_
    · exact q1
    · refine ite_outside ?_ ?_
      · refine State.wr_outside (hNums.at Key.fam_txcPlaced rfl) ?_
        exact q1
      · refine ite_outside ?_ ?_
        · refine State.wr_outside (hNums.at Key.fam_txcPlaced rfl) ?_
          exact q1
        · refine ite_outside ?_ ?_
          · exact q11
          · refine State.post_outside hDict (hNums.sub rfl) hLogs hStraps hJournal hEdges hFlags ?_
            refine State.setTx_outside hTxTiles ?_
            exact q11
  · exact hs

theorem State.placeTx_keeps {s : State} : Kept91 s (State.placeTx s) :=
  .of (State.placeTx_outside rfl rfl rfl rfl rfl rfl rfl rfl rfl)

theorem State.placeTx_rd {s : State} {kk : Nat} (hkey : Nums22.contains (Key.fam kk) = false) : (State.placeTx s).rd kk = s.rd kk :=
  State.rd_of_outside (M := .but Nums22) (State.placeTx_outside rfl .self rfl rfl rfl rfl rfl rfl rfl) rfl hkey

theorem State.txReport_outside {M : Touch} {r : State} {s : State} {q : TxReq} {code : Nat} {word : Nat} {octets : Nat} {last : Nat} (hDict : M.dict = true) (hNums : M.Nums Nums25) (hLogs : M.logs = true) (hRecs : M.recs = true) (hStraps : M.straps = true) (hJournal : M.journal = true) (hNodeQueues : M.nodeQueues = true) (hLacing : M.lacing = true) (hEdges : M.edges = true) (hFlags : M.flags = true) (hReports : M.reports = true) (hs : s.outside M = r) :
    (State.txReport s q code word octets last).outside M = r := by
  unfold State.txReport
  extract_lets +onlyGivenNames -merge -underBinder x0
  have q1 : State.outside M x0 = r := by
    unfold x0
    refine ite_outside ?_ ?_
    · refine State.bump_outside (hNums.at Key.fam_schedMissed rfl) ?_
      exact hs
    · exact hs
  try clear_value x0
  split
  · refine ite_outside ?_ ?_
    · refine State.modCell_outside hRecs ?_
      exact q1
    · exact q1
  · exact q1
  · exact q1
  · refine ite_outside ?_ ?_
    · exact q1
    · refine State.laceFailed_outside hLacing ?_
      exact q1
  · extract_lets +onlyGivenNames -merge -underBinder x2
    have q3 : State.outside M x2 = r := by
      unfold x2
      refine State.modHead_outside hNodeQueues ?_
      exact q1
    try clear_value x2
    extract_lets +onlyGivenNames -merge -underBinder x4
    have q5 : State.outside M x4 = r := by
      unfold x4
      refine State.modHead_outside hNodeQueues ?_
      exact q3
    try clear_value x4
    extract_lets +onlyGivenNames -merge -underBinder x6
    have q7 : State.outside M x6 = r := by
      unfold x6
      refine State.modCell_outside hRecs ?_
      exact q5
    try clear_value x6
    extract_lets +onlyGivenNames -merge -underBinder x8
    try clear_value x8
    refine ite_outside ?_ ?_
    · refine State.setRec_outside hRecs ?_
      exact q7
    · refine State.attemptFailed_outside hDict (hNums.sub rfl) hLogs hRecs hStraps hJournal hNodeQueues hEdges hFlags hReports ?_
      exact q3
  · refine State.reportFinal_outside hReports ?_
    exact q1

theorem State.txReport_keeps {s : State} {q : TxReq} {code : Nat} {word : Nat} {octets : Nat} {last : Nat} : Kept92 s (State.txReport s q code word octets last) :=
  .of (State.txReport_outside rfl rfl rfl rfl rfl rfl rfl rfl rfl rfl rfl rfl)

theorem State.txReport_rd {s : State} {q : TxReq} {code : Nat} {word : Nat} {octets : Nat} {last : Nat} {kk : Nat} (hkey : Nums25.contains (Key.fam kk) = false) : (State.txReport s q code word octets last).rd kk = s.rd kk :=
  State.rd_of_outside (M := .but Nums25) (State.txReport_outside rfl .self rfl rfl rfl rfl rfl rfl rfl rfl rfl rfl) rfl hkey

theorem State.airOut_outside {M : Touch} {r : State} {s : State} {p : Nat} (hOut : M.out = true) (hs : s.outside M = r) :
    (State.airOut s p).outside M = r := by
  unfold State.airOut
  refine State.emit_outside hOut ?_
  exact hs

theorem State.airOut_keeps {s : State} {p : Nat} : Kept12 s (State.airOut s p) :=
  .of (State.airOut_outside rfl rfl)

theorem State.txCount_outside {M : Touch} {r : State} {s : State} {tile : Option Nat} {p : Nat} {code : Nat} {cut : Bool} (hDict : M.dict = true) (hNums : M.Nums Nums26) (hLogs : M.logs = true) (hStraps : M.straps = true) (hJournal : M.journal = true) (hEdges : M.edges = true) (hFlags : M.flags = true) (hs : s.outside M = r) :
    (State.txCount s tile p code cut).outside M = r := by
  unfold State.txCount
  extract_lets +onlyGivenNames -merge -underBinder x0
  try clear_value x0
  extract_lets +onlyGivenNames -merge -underBinder x1
  try clear_value x1
  extract_lets +onlyGivenNames -merge -underBinder x2
  have q3 : State.outside M x2 = r := by
    unfold x2
    refine ite_outside ?_ ?_
    · refine State.bump_outside (hNums.at Key.fam_txPowerCut rfl) ?_
      exact hs
    · exact hs
  try clear_value x2
  refine ite_outside ?_ ?_
  · refine State.bump_outside (hNums.at Key.fam_txFrames rfl) ?_
    exact q3
  · refine ite_outside ?_ ?_
    · refine State.bump_outside (hNums.at Key.fam_txLbtBusy rfl) ?_
      exact q3
    · refine ite_outside ?_ ?_
      · refine State.bump_outside (hNums.at Key.fam_txDutyBlock rfl) ?_
        exact q3
      · refine ite_outside ?_ ?_
        · refine State.bump_outside (hNums.at Key.fam_txCinchDefer rfl) ?_
          exact q3
        · refine ite_outside ?_ ?_
          · refine State.post_outside hDict (hNums.sub rfl) hLogs hStraps hJournal hEdges hFlags ?_
            exact q3
          · refine ite_outside ?_ ?_
            · refine State.post_outside hDict (hNums.sub rfl) hLogs hStraps hJournal hEdges hFlags ?_
              exact q3
            · refine ite_outside ?_ ?_
              · refine State.post_outside hDict (hNums.sub rfl) hLogs hStraps hJournal hEdges hFlags ?_
                exact q3
              · refine ite_outside ?_ ?_
                · refine State.post_outside hDict (hNums.sub rfl) hLogs hStraps hJournal hEdges hFlags ?_
                  exact q3
                · refine ite_outside ?_ ?_
                  · refine State.post_outside hDict (hNums.sub rfl) hLogs hStraps hJournal hEdges hFlags ?_
                    exact q3
                  · refine ite_outside ?_ ?_
                    · refine State.post_outside hDict (hNums.sub rfl) hLogs hStraps hJournal hEdges hFlags ?_
                      exact q3
                    · refine State.post_outside hDict (hNums.sub rfl) hLogs hStraps hJournal hEdges hFlags ?_
                      exact q3

theorem State.txCount_keeps {s : State} {tile : Option Nat} {p : Nat} {code : Nat} {cut : Bool} : Kept8 s (State.txCount s tile p code cut) :=
  .of (State.txCount_outside rfl rfl rfl rfl rfl rfl rfl rfl)

theorem State.txCount_rd {s : State} {tile : Option Nat} {p : Nat} {code : Nat} {cut : Bool} {kk : Nat} (hkey : Nums26.contains (Key.fam kk) = false) : (State.txCount s tile p code cut).rd kk = s.rd kk :=
  State.rd_of_outside (M := .but Nums26) (State.txCount_outside rfl .self rfl rfl rfl rfl rfl rfl) rfl hkey

theorem State.txFinish_outside {M : Touch} {r : State} {s : State} {n : Nat} {code : Nat} (hOut : M.out = true) (hDict : M.dict = true) (hNums : M.Nums Nums28) (hLogs : M.logs = true) (hRadio : M.radio = true) (hPorts : M.ports = true) (hTxTiles : M.txTiles = true) (hRecs : M.recs = true) (hStraps : M.straps = true) (hJournal : M.journal = true) (hNodeQueues : M.nodeQueues = true) (hLacing : M.lacing = true) (hEdges : M.edges = true) (hFlags : M.flags = true) (hReports : M.reports = true) (hs : s.outside M = r) :
    (State.txFinish s n code).outside M = r := by
  unfold State.txFinish
  split
  · exact hs
  · extract_lets +onlyGivenNames -merge -underBinder x0
    try clear_value x0
    extract_lets +onlyGivenNames -merge -underBinder x1
    have q2 : State.outside M x1 = r := by
      unfold x1
      refine ite_outside ?_ ?_
      · refine State.release_outside (hNums.sub rfl) ?_
        exact hs
      · refine ite_outside ?_ ?_
        · exact hs
        · refine State.release_outside (hNums.sub rfl) ?_
          exact hs
    try clear_value x1
    extract_lets +onlyGivenNames -merge -underBinder x3
    have q4 : State.outside M x3 = r := by
      unfold x3
      refine ite_outside ?_ ?_
      · refine State.addAir_outside hRadio ?_
        exact q2
      · exact q2
    try clear_value x3
    extract_lets +onlyGivenNames -merge -underBinder x5
    have q6 : State.outside M x5 = r := by
      unfold x5
      refine State.txCount_outside hDict (hNums.sub rfl) hLogs hStraps hJournal hEdges hFlags ?_
      exact q4
    try clear_value x5
    extract_lets +onlyGivenNames -merge -underBinder x7
    try clear_value x7
    extract_lets +onlyGivenNames -merge -underBinder x8
    try clear_value x8
    extract_lets +onlyGivenNames -merge -underBinder x9
    have q10 : State.outside M x9 = r := by
      unfold x9
      refine State.setTx_outside hTxTiles ?_
      exact q6
    try clear_value x9
    extract_lets +onlyGivenNames -merge -underBinder x11
    have q12 : State.outside M x11 = r := by
      unfold x11
      refine State.wr_outside (hNums.at Key.fam_txcState rfl) ?_
      exact q10
    try clear_value x11
    extract_lets +onlyGivenNames -merge -underBinder x13
    have q14 : State.outside M x13 = r := by
      unfold x13
      refine ite_outside ?_ ?_
      · exact q12
      · refine State.wr_outside (hNums.at Key.fam_txcPlaced rfl) ?_
        exact q12
    try clear_value x13
    extract_lets +onlyGivenNames -merge -underBinder x15
    have q16 : State.outside M x15 = r := by
      unfold x15
      refine ite_outside ?_ ?_
      · refine State.burstMark_outside hPorts ?_
        refine State.airOut_outside hOut ?_
        exact q14
      · exact q14
    try clear_value x15
    extract_lets +onlyGivenNames -merge -underBinder x17
    try clear_value x17
    refine State.txReport_outside hDict (hNums.sub rfl) hLogs hRecs hStraps hJournal hNodeQueues hLacing hEdges hFlags hReports ?_
    refine State.placeTx_outside hDict (hNums.sub rfl) hLogs hTxTiles hStraps hJournal hEdges hFlags ?_
    exact q16

theorem State.txFinish_keeps {s : State} {n : Nat} {code : Nat} : Kept93 s (State.txFinish s n code) :=
  .of (State.txFinish_outside rfl rfl rfl rfl rfl rfl rfl rfl rfl rfl rfl rfl rfl rfl rfl rfl)

theorem State.txFinish_rd {s : State} {n : Nat} {code : Nat} {kk : Nat} (hkey : Nums28.contains (Key.fam kk) = false) : (State.txFinish s n code).rd kk = s.rd kk :=
  State.rd_of_outside (M := .but Nums28) (State.txFinish_outside rfl rfl .self rfl rfl rfl rfl rfl rfl rfl rfl rfl rfl rfl rfl rfl) rfl hkey

theorem State.rxAsk_outside {M : Touch} {r : State} {s : State} {n : Nat} (hNums : M.Nums Nums29) (hRxTiles : M.rxTiles = true) (hs : s.outside M = r) :
    (State.rxAsk s n).outside M = r := by
  unfold State.rxAsk
  extract_lets +onlyGivenNames -merge -underBinder x0
  try clear_value x0
  extract_lets +onlyGivenNames -merge -underBinder x1
  try clear_value x1
  extract_lets +onlyGivenNames -merge -underBinder x2
  try clear_value x2
  extract_lets +onlyGivenNames -merge -underBinder x3
  try clear_value x3
  extract_lets +onlyGivenNames -merge -underBinder x4
  try clear_value x4
  extract_lets +onlyGivenNames -merge -underBinder x5
  have q6 : State.outside M x5 = r := by
    unfold x5
    refine State.setRx_outside hRxTiles ?_
    exact hs
  try clear_value x5
  refine ite_outside ?_ ?_
  · exact q6
  · refine State.wr_outside (hNums.at Key.fam_rxcState rfl) ?_
    exact q6

theorem State.rxAsk_keeps {s : State} {n : Nat} : Kept88 s (State.rxAsk s n) :=
  .of (State.rxAsk_outside rfl rfl rfl)

theorem State.rxAsk_rd {s : State} {n : Nat} {kk : Nat} (hkey : Nums29.contains (Key.fam kk) = false) : (State.rxAsk s n).rd kk = s.rd kk :=
  State.rd_of_outside (M := .but Nums29) (State.rxAsk_outside .self rfl rfl) rfl hkey

theorem State.rxLeave_outside {M : Touch} {r : State} {s : State} {n : Nat} {next : Option Nat} (hNums : M.Nums Nums30) (hRxTiles : M.rxTiles = true) (hs : s.outside M = r) :
    (State.rxLeave s n next).outside M = r := by
  unfold State.rxLeave
  extract_lets +onlyGivenNames -merge -underBinder x0
  try clear_value x0
  refine State.rxAsk_outside (hNums.sub rfl) hRxTiles ?_
  refine State.wr_outside (hNums.at Key.fam_rxcPlaced rfl) ?_
  refine State.setRx_outside hRxTiles ?_
  exact hs

theorem State.rxLeave_keeps {s : State} {n : Nat} {next : Option Nat} : Kept88 s (State.rxLeave s n next) :=
  .of (State.rxLeave_outside rfl rfl rfl)

theorem State.rxLeave_rd {s : State} {n : Nat} {next : Option Nat} {kk : Nat} (hkey : Nums30.contains (Key.fam kk) = false) : (State.rxLeave s n next).rd kk = s.rd kk :=
  State.rd_of_outside (M := .but Nums30) (State.rxLeave_outside .self rfl rfl) rfl hkey

theorem State.setRxIsl_outside {M : Touch} {r : State} {s : State} {n : Nat} {i : Islands} (hRxTiles : M.rxTiles = true) (hs : s.outside M = r) :
    (State.setRxIsl s n i).outside M = r := by
  unfold State.setRxIsl
  extract_lets +onlyGivenNames -merge -underBinder x0
  try clear_value x0
  refine State.setRx_outside hRxTiles ?_
  exact hs

theorem State.setRxIsl_keeps {s : State} {n : Nat} {i : Islands} : Kept87 s (State.setRxIsl s n i) :=
  .of (State.setRxIsl_outside rfl rfl)

theorem State.rxTake_outside {M : Touch} {r : State} {s : State} {n : Nat} {w : Nat} (hNums : M.Nums Nums30) (hRxTiles : M.rxTiles = true) (hs : s.outside M = r) :
    (State.rxTake s n w).outside M = r := by
  unfold State.rxTake
  extract_lets +onlyGivenNames -merge -underBinder x0
  try clear_value x0
  extract_lets +onlyGivenNames -merge -underBinder x1
  try clear_value x1
  extract_lets +onlyGivenNames -merge -underBinder x2
  try clear_value x2
  extract_lets +onlyGivenNames -merge -underBinder x3
  try clear_value x3
  extract_lets +onlyGivenNames -merge -underBinder x4
  try clear_value x4
  extract_lets +onlyGivenNames -merge -underBinder x5
  have q6 : State.outside M x5 = r := by
    unfold x5
    refine State.wr_outside (hNums.at Key.fam_rxcPlaced rfl) ?_
    refine State.setRx_outside hRxTiles ?_
    exact hs
  try clear_value x5
  refine ite_outside ?_ ?_
  · refine State.wr_outside (hNums.at Key.fam_rxcState rfl) ?_
    refine State.setRxIsl_outside hRxTiles ?_
    exact q6
  · refine State.rxAsk_outside (hNums.sub rfl) hRxTiles ?_
    exact q6

theorem State.rxTake_keeps {s : State} {n : Nat} {w : Nat} : Kept88 s (State.rxTake s n w) :=
  .of (State.rxTake_outside rfl rfl rfl)

theorem State.rxTake_rd {s : State} {n : Nat} {w : Nat} {kk : Nat} (hkey : Nums30.contains (Key.fam kk) = false) : (State.rxTake s n w).rd kk = s.rd kk :=
  State.rd_of_outside (M := .but Nums30) (State.rxTake_outside .self rfl rfl) rfl hkey

theorem State.rxMove_outside {M : Touch} {r : State} {s : State} {n : Nat} (hNums : M.Nums Nums30) (hRxTiles : M.rxTiles = true) (hs : s.outside M = r) :
    (State.rxMove s n).outside M = r := by
  unfold State.rxMove
  split
  · exact hs
  · extract_lets +onlyGivenNames -merge -underBinder x0
    try clear_value x0
    refine ite_outside ?_ ?_
    · exact hs
    · refine ite_outside ?_ ?_
      · refine State.rxLeave_outside hNums hRxTiles ?_
        exact hs
      · refine ite_outside ?_ ?_
        · refine State.rxTake_outside hNums hRxTiles ?_
          exact hs
        · refine ite_outside ?_ ?_
          · exact hs
          · refine State.rxLeave_outside hNums hRxTiles ?_
            exact hs

theorem State.rxMove_keeps {s : State} {n : Nat} : Kept88 s (State.rxMove s n) :=
  .of (State.rxMove_outside rfl rfl rfl)

theorem State.rxMove_rd {s : State} {n : Nat} {kk : Nat} (hkey : Nums30.contains (Key.fam kk) = false) : (State.rxMove s n).rd kk = s.rd kk :=
  State.rd_of_outside (M := .but Nums30) (State.rxMove_outside .self rfl rfl) rfl hkey

theorem State.femDrive_outside {M : Touch} {r : State} {s : State} {p : Nat} {st : Nat} {hold : Bool} (hPins : M.pins = true) (hs : s.outside M = r) :
    (State.femDrive s p st hold).outside M = r := by
  unfold State.femDrive
  extract_lets +onlyGivenNames -merge -underBinder x0
  try clear_value x0
  extract_lets +onlyGivenNames -merge -underBinder x1
  try clear_value x1
  extract_lets +onlyGivenNames -merge -underBinder x2
  try clear_value x2
  extract_lets +onlyGivenNames -merge -underBinder x3
  try clear_value x3
  extract_lets +onlyGivenNames -merge -underBinder x4
  try clear_value x4
  extract_lets +onlyGivenNames -merge -underBinder x5
  try clear_value x5
  extract_lets +onlyGivenNames -merge -underBinder x6
  try clear_value x6
  extract_lets +onlyGivenNames -merge -underBinder x7
  try clear_value x7
  extract_lets +onlyGivenNames -merge -underBinder x8
  try clear_value x8
  refine Eq.trans (State.outside_pins (h0 := hPins) ..) ?_
  exact hs

theorem State.femDrive_keeps {s : State} {p : Nat} {st : Nat} {hold : Bool} : Kept94 s (State.femDrive s p st hold) :=
  .of (State.femDrive_outside rfl rfl)

theorem State.rxFollow_outside {M : Touch} {r : State} {s : State} {p : Nat} (hNums : M.Nums Nums29) (hRxTiles : M.rxTiles = true) (hs : s.outside M = r) :
    (State.rxFollow s p).outside M = r := by
  unfold State.rxFollow
  refine State.each_outside ?_ ?_
  · intro t0 q1 z2
    refine State.rxAsk_outside hNums hRxTiles ?_
    exact q1
  · exact hs

theorem State.rxFollow_keeps {s : State} {p : Nat} : Kept88 s (State.rxFollow s p) :=
  .of (State.rxFollow_outside rfl rfl rfl)

theorem State.rxFollow_rd {s : State} {p : Nat} {kk : Nat} (hkey : Nums29.contains (Key.fam kk) = false) : (State.rxFollow s p).rd kk = s.rd kk :=
  State.rd_of_outside (M := .but Nums29) (State.rxFollow_outside .self rfl rfl) rfl hkey

theorem State.txRefuse_outside {M : Touch} {r : State} {s : State} {q : TxReq} {tile : Option Nat} {code : Nat} {octets : Nat} (hDict : M.dict = true) (hNums : M.Nums Nums50) (hLogs : M.logs = true) (hRecs : M.recs = true) (hStraps : M.straps = true) (hJournal : M.journal = true) (hNodeQueues : M.nodeQueues = true) (hLacing : M.lacing = true) (hEdges : M.edges = true) (hFlags : M.flags = true) (hReports : M.reports = true) (hs : s.outside M = r) :
    (State.txRefuse s q tile code octets).outside M = r := by
  unfold State.txRefuse
  extract_lets +onlyGivenNames -merge -underBinder x0
  have q1 : State.outside M x0 = r := by
    unfold x0
    split
    · refine State.release_outside (hNums.sub rfl) ?_
      exact hs
    · exact hs
  try clear_value x0
  refine State.txReport_outside hDict (hNums.sub rfl) hLogs hRecs hStraps hJournal hNodeQueues hLacing hEdges hFlags hReports ?_
  refine State.txCount_outside hDict (hNums.sub rfl) hLogs hStraps hJournal hEdges hFlags ?_
  exact q1

theorem State.txRefuse_keeps {s : State} {q : TxReq} {tile : Option Nat} {code : Nat} {octets : Nat} : Kept92 s (State.txRefuse s q tile code octets) :=
  .of (State.txRefuse_outside rfl rfl rfl rfl rfl rfl rfl rfl rfl rfl rfl rfl)

theorem State.txRefuse_rd {s : State} {q : TxReq} {tile : Option Nat} {code : Nat} {octets : Nat} {kk : Nat} (hkey : Nums50.contains (Key.fam kk) = false) : (State.txRefuse s q tile code octets).rd kk = s.rd kk :=
  State.rd_of_outside (M := .but Nums50) (State.txRefuse_outside rfl .self rfl rfl rfl rfl rfl rfl rfl rfl rfl rfl) rfl hkey

theorem State.portPost_outside {M : Touch} {r : State} {s : State} {c : Err} {p : Nat} {arg : Nat} {arg2 : Nat} (hDict : M.dict = true) (hNums : M.Nums Nums2) (hLogs : M.logs = true) (hStraps : M.straps = true) (hJournal : M.journal = true) (hEdges : M.edges = true) (hFlags : M.flags = true) (hs : s.outside M = r) :
    (State.portPost s c p arg arg2).outside M = r := by
  unfold State.portPost
  refine State.post_outside hDict hNums hLogs hStraps hJournal hEdges hFlags ?_
  exact hs

theorem State.portPost_keeps {s : State} {c : Err} {p : Nat} {arg : Nat} {arg2 : Nat} : Kept8 s (State.portPost s c p arg arg2) :=
  .of (State.portPost_outside rfl rfl rfl rfl rfl rfl rfl rfl)

theorem State.portPost_rd {s : State} {c : Err} {p : Nat} {arg : Nat} {arg2 : Nat} {kk : Nat} (hkey : Nums2.contains (Key.fam kk) = false) : (State.portPost s c p arg arg2).rd kk = s.rd kk :=
  State.rd_of_outside (M := .but Nums2) (State.portPost_outside rfl .self rfl rfl rfl rfl rfl rfl) rfl hkey

theorem State.setRadio_outside {M : Touch} {r : State} {s : State} {x : Radio} (hRadio : M.radio = true) (hPorts : M.ports = true) (hRxTiles : M.rxTiles = true) (hTxTiles : M.txTiles = true) (hs : s.outside M = r) :
    (State.setRadio s x).outside M = r := by
  unfold State.setRadio
  rw [← hs]; simp only [State.outside, hRadio, hPorts, hRxTiles, hTxTiles, cond_true]

theorem State.setRadio_keeps {s : State} {x : Radio} : Kept95 s (State.setRadio s x) :=
  .of (State.setRadio_outside rfl rfl rfl rfl rfl)

theorem State.setIsl_outside {M : Touch} {r : State} {s : State} {t : Tile} {i : Islands} (hPower : M.power = true) (hRxTiles : M.rxTiles = true) (hTxTiles : M.txTiles = true) (hs : s.outside M = r) :
    (State.setIsl s t i).outside M = r := by
  unfold State.setIsl
  split
  · extract_lets +onlyGivenNames -merge -underBinder x0
    try clear_value x0
    refine State.setRx_outside hRxTiles ?_
    exact hs
  · extract_lets +onlyGivenNames -merge -underBinder x1
    try clear_value x1
    refine State.setTx_outside hTxTiles ?_
    exact hs
  · extract_lets +onlyGivenNames -merge -underBinder x2
    try clear_value x2
    refine Eq.trans (State.outside_power (h0 := hPower) ..) ?_
    exact hs

theorem State.setIsl_keeps {s : State} {t : Tile} {i : Islands} : Kept96 s (State.setIsl s t i) :=
  .of (State.setIsl_outside rfl rfl rfl rfl)

end Sys2Proof.Machine
end

