-- ==== Sys2Proof/Laws/Frame/Ports.lean ====
section
/-! SUPPORT. What the operations of Machine/Ports.lean leave alone. -/

namespace Sys2Proof.Machine

theorem State.portEnter_outside {M : Touch} {r : State} {s : State} {p : Nat} {st : Nat} (hPins : M.pins = true) (hNums : M.Nums Nums31) (hPorts : M.ports = true) (hRxTiles : M.rxTiles = true) (hEdges : M.edges = true) (hs : s.outside M = r) :
    (State.portEnter s p st).outside M = r := by
  unfold State.portEnter
  extract_lets +onlyGivenNames -merge -underBinder x0
  have q1 : State.outside M x0 = r := by
    unfold x0
    refine State.wrEdge_outside (hNums.at Key.fam_portState rfl) hEdges ?_
    exact hs
  try clear_value x0
  extract_lets +onlyGivenNames -merge -underBinder x2
  try clear_value x2
  extract_lets +onlyGivenNames -merge -underBinder x3
  have q4 : State.outside M x3 = r := by
    unfold x3
    refine State.femDrive_outside hPins ?_
    refine State.setPort_outside hPorts ?_
    exact q1
  try clear_value x3
  extract_lets +onlyGivenNames -merge -underBinder x5
  have q6 : State.outside M x5 = r := by
    unfold x5
    refine ite_outside ?_ ?_
    · refine State.each_outside ?_ ?_
      · intro t7 q8 z9
        refine State.rxMove_outside (hNums.sub rfl) hRxTiles ?_
        exact q8
      · exact q4
    · exact q4
  try clear_value x5
  refine State.rxFollow_outside (hNums.sub rfl) hRxTiles ?_
  exact q6

theorem State.portEnter_keeps {s : State} {p : Nat} {st : Nat} : Kept106 s (State.portEnter s p st) :=
  .of (State.portEnter_outside rfl rfl rfl rfl rfl rfl)

theorem State.portEnter_rd {s : State} {p : Nat} {st : Nat} {kk : Nat} (hkey : Nums31.contains (Key.fam kk) = false) : (State.portEnter s p st).rd kk = s.rd kk :=
  State.rd_of_outside (M := .but Nums31) (State.portEnter_outside rfl .self rfl rfl rfl rfl) rfl hkey

theorem State.portStop_outside {M : Touch} {r : State} {s : State} {p : Nat} (hOut : M.out = true) (hPins : M.pins = true) (hDict : M.dict = true) (hNums : M.Nums Nums32) (hResults : M.results = true) (hLogs : M.logs = true) (hRadio : M.radio = true) (hPorts : M.ports = true) (hRxTiles : M.rxTiles = true) (hTxTiles : M.txTiles = true) (hRecs : M.recs = true) (hStraps : M.straps = true) (hJournal : M.journal = true) (hNodeQueues : M.nodeQueues = true) (hLacing : M.lacing = true) (hEdges : M.edges = true) (hFlags : M.flags = true) (hReports : M.reports = true) (hs : s.outside M = r) :
    (State.portStop s p).outside M = r := by
  unfold State.portStop
  extract_lets +onlyGivenNames -merge -underBinder x0
  have q1 : State.outside M x0 = r := by
    unfold x0
    refine State.each_outside ?_ ?_
    · intro t2 q3 z4
      refine State.txFinish_outside hOut hDict (hNums.sub rfl) hLogs hRadio hPorts hTxTiles hRecs hStraps hJournal hNodeQueues hLacing hEdges hFlags hReports ?_
      exact q3
    · exact hs
  try clear_value x0
  extract_lets +onlyGivenNames -merge -underBinder x5
  have q6 : State.outside M x5 = r := by
    unfold x5
    refine State.each_outside ?_ ?_
    · intro t7 q8 z9
      refine State.txFinish_outside hOut hDict (hNums.sub rfl) hLogs hRadio hPorts hTxTiles hRecs hStraps hJournal hNodeQueues hLacing hEdges hFlags hReports ?_
      exact q8
    · exact q1
  try clear_value x5
  extract_lets +onlyGivenNames -merge -underBinder x10
  have q11 : State.outside M x10 = r := by
    unfold x10
    refine State.resEndIfBusy_outside hResults ?_
    refine State.preempt_outside hDict (hNums.sub rfl) hLogs hRxTiles hStraps hJournal hEdges hFlags ?_
    exact q6
  try clear_value x10
  extract_lets +onlyGivenNames -merge -underBinder x12
  try clear_value x12
  extract_lets +onlyGivenNames -merge -underBinder x13
  have q14 : State.outside M x13 = r := by
    unfold x13
    refine State.setPort_outside hPorts ?_
    exact q11
  try clear_value x13
  refine State.portEnter_outside hPins (hNums.sub rfl) hPorts hRxTiles hEdges ?_
  exact q14

theorem State.portStop_keeps {s : State} {p : Nat} : Kept107 s (State.portStop s p) :=
  .of (State.portStop_outside rfl rfl rfl rfl rfl rfl rfl rfl rfl rfl rfl rfl rfl rfl rfl rfl rfl rfl rfl)

theorem State.portStop_rd {s : State} {p : Nat} {kk : Nat} (hkey : Nums32.contains (Key.fam kk) = false) : (State.portStop s p).rd kk = s.rd kk :=
  State.rd_of_outside (M := .but Nums32) (State.portStop_outside rfl rfl rfl .self rfl rfl rfl rfl rfl rfl rfl rfl rfl rfl rfl rfl rfl rfl rfl) rfl hkey

theorem State.portSettle_outside {M : Touch} {r : State} {s : State} {p : Nat} {t : Nat} (hResults : M.results = true) (hPorts : M.ports = true) (hs : s.outside M = r) :
    (State.portSettle s p t).outside M = r := by
  unfold State.portSettle
  extract_lets +onlyGivenNames -merge -underBinder x0
  try clear_value x0
  extract_lets +onlyGivenNames -merge -underBinder x1
  try clear_value x1
  refine ite_outside ?_ ?_
  · refine State.setPort_outside hPorts ?_
    exact hs
  · split
    · refine State.resEndIfBusy_outside hResults ?_
      refine State.setPort_outside hPorts ?_
      exact hs
    · refine State.setPort_outside hPorts ?_
      exact hs

theorem State.portSettle_keeps {s : State} {p : Nat} {t : Nat} : Kept108 s (State.portSettle s p t) :=
  .of (State.portSettle_outside rfl rfl rfl)

theorem State.relockGo_outside {M : Touch} {r : State} {s : State} {p : Nat} (hPins : M.pins = true) (hNums : M.Nums Nums51) (hPorts : M.ports = true) (hRxTiles : M.rxTiles = true) (hEdges : M.edges = true) (hs : s.outside M = r) :
    (State.relockGo s p).outside M = r := by
  unfold State.relockGo
  extract_lets +onlyGivenNames -merge -underBinder x0
  try clear_value x0
  extract_lets +onlyGivenNames -merge -underBinder x1
  have q2 : State.outside M x1 = r := by
    unfold x1
    refine State.rxFollow_outside (hNums.sub rfl) hRxTiles ?_
    refine State.setPort_outside hPorts ?_
    refine State.wrEdge_outside (hNums.at Key.fam_portState rfl) hEdges ?_
    exact hs
  try clear_value x1
  refine ite_outside ?_ ?_
  · exact hs
  · refine State.femDrive_outside hPins ?_
    exact q2

theorem State.relockGo_keeps {s : State} {p : Nat} : Kept106 s (State.relockGo s p) :=
  .of (State.relockGo_outside rfl rfl rfl rfl rfl rfl)

theorem State.relockGo_rd {s : State} {p : Nat} {kk : Nat} (hkey : Nums51.contains (Key.fam kk) = false) : (State.relockGo s p).rd kk = s.rd kk :=
  State.rd_of_outside (M := .but Nums51) (State.relockGo_outside rfl .self rfl rfl rfl rfl) rfl hkey

theorem State.portGo_outside {M : Touch} {r : State} {n : Nat} {s : State} {p : Nat} (hPins : M.pins = true) (hDict : M.dict = true) (hNums : M.Nums Nums52) (hResults : M.results = true) (hLogs : M.logs = true) (hPorts : M.ports = true) (hRxTiles : M.rxTiles = true) (hStraps : M.straps = true) (hJournal : M.journal = true) (hEdges : M.edges = true) (hFlags : M.flags = true) (hs : s.outside M = r) :
    (State.portGo n s p).outside M = r := by
  induction n generalizing s with
  | zero => exact hs
  | succ n ih =>
    unfold State.portGo
    refine ite_outside hs ?_
    refine ite_outside (State.relockGo_outside hPins (hNums.sub rfl) hPorts hRxTiles hEdges hs) ?_
    split
    · exact hs
    · refine ite_outside ?_ ?_
      · refine ite_outside ?_ hs
        refine ih ?_
        refine State.portSettle_outside hResults hPorts ?_
        exact hs
      · refine ite_outside hs ?_
        refine State.setPort_outside hPorts ?_
        refine ite_outside ?_ hs
        refine State.preempt_outside hDict (hNums.sub rfl) hLogs hRxTiles hStraps hJournal hEdges hFlags ?_
        exact hs

theorem State.portGo_keeps {n : Nat} {s : State} {p : Nat} : Kept109 s (State.portGo n s p) :=
  .of (State.portGo_outside rfl rfl rfl rfl rfl rfl rfl rfl rfl rfl rfl rfl)

theorem State.portGo_rd {n : Nat} {s : State} {p : Nat} {kk : Nat} (hkey : Nums52.contains (Key.fam kk) = false) : (State.portGo n s p).rd kk = s.rd kk :=
  State.rd_of_outside (M := .but Nums52) (State.portGo_outside rfl rfl .self rfl rfl rfl rfl rfl rfl rfl rfl rfl) rfl hkey

theorem State.portRun_outside {M : Touch} {r : State} {s : State} {p : Nat} (hPins : M.pins = true) (hDict : M.dict = true) (hNums : M.Nums Nums52) (hResults : M.results = true) (hLogs : M.logs = true) (hPorts : M.ports = true) (hRxTiles : M.rxTiles = true) (hStraps : M.straps = true) (hJournal : M.journal = true) (hEdges : M.edges = true) (hFlags : M.flags = true) (hs : s.outside M = r) :
    (State.portRun s p).outside M = r := by
  unfold State.portRun
  refine State.portGo_outside hPins hDict hNums hResults hLogs hPorts hRxTiles hStraps hJournal hEdges hFlags ?_
  exact hs

theorem State.portRun_keeps {s : State} {p : Nat} : Kept109 s (State.portRun s p) :=
  .of (State.portRun_outside rfl rfl rfl rfl rfl rfl rfl rfl rfl rfl rfl rfl)

theorem State.portRun_rd {s : State} {p : Nat} {kk : Nat} (hkey : Nums52.contains (Key.fam kk) = false) : (State.portRun s p).rd kk = s.rd kk :=
  State.rd_of_outside (M := .but Nums52) (State.portRun_outside rfl rfl .self rfl rfl rfl rfl rfl rfl rfl rfl rfl) rfl hkey

theorem State.placePins_outside {M : Touch} {r : State} {s : State} (hDict : M.dict = true) (hNums : M.Nums Nums2) (hLogs : M.logs = true) (hRxTiles : M.rxTiles = true) (hStraps : M.straps = true) (hJournal : M.journal = true) (hEdges : M.edges = true) (hFlags : M.flags = true) (hs : s.outside M = r) :
    (State.placePins s).1.outside M = r := by
  unfold State.placePins
  refine foldl_fst_outside ?_ ?_
  · intro t0 q1 z2
    split
    · rename_i t3 t5
      have q4 : State.outside M t3 = r := q1
      extract_lets +onlyGivenNames -merge -underBinder x7
      try clear_value x7
      extract_lets +onlyGivenNames -merge -underBinder x8
      try clear_value x8
      extract_lets +onlyGivenNames -merge -underBinder x9
      try clear_value x9
      extract_lets +onlyGivenNames -merge -underBinder x10
      try clear_value x10
      refine ite_fst_outside ?_ ?_
      · refine fst_outside ?_
        exact q4
      · refine ite_fst_outside ?_ ?_
        · refine ite_fst_outside ?_ ?_
          · refine fst_outside ?_
            exact q4
          · refine fst_outside ?_
            refine State.rxPost_outside hDict hNums hLogs hStraps hJournal hEdges hFlags ?_
            refine State.setRx_outside hRxTiles ?_
            exact q4
        · refine ite_fst_outside ?_ ?_
          · refine ite_fst_outside ?_ ?_
            · refine fst_outside ?_
              exact q4
            · refine fst_outside ?_
              refine State.rxPost_outside hDict hNums hLogs hStraps hJournal hEdges hFlags ?_
              refine State.setRx_outside hRxTiles ?_
              exact q4
          · refine fst_outside ?_
            exact q4
  · refine fst_outside ?_
    exact hs

theorem State.placePins_keeps {s : State} : Kept89 s (State.placePins s).1 :=
  .of (State.placePins_outside rfl rfl rfl rfl rfl rfl rfl rfl rfl)

theorem State.placePins_rd {s : State} {kk : Nat} (hkey : Nums2.contains (Key.fam kk) = false) : (State.placePins s).1.rd kk = s.rd kk :=
  State.rd_of_outside (M := .but Nums2) (State.placePins_outside rfl .self rfl rfl rfl rfl rfl rfl rfl) rfl hkey

theorem State.placeRest_outside {M : Touch} {r : State} {s : State} {ds : List Demand} {l : Plan} (hDict : M.dict = true) (hNums : M.Nums Nums60) (hLogs : M.logs = true) (hStraps : M.straps = true) (hJournal : M.journal = true) (hEdges : M.edges = true) (hFlags : M.flags = true) (hs : s.outside M = r) :
    (State.placeRest s ds l).1.outside M = r := by
  unfold State.placeRest
  refine foldl_fst_outside ?_ ?_
  · intro t0 q1 z2
    split
    · rename_i t3 t5
      have q4 : State.outside M t3 = r := q1
      refine ite_fst_outside ?_ ?_
      · refine fst_outside ?_
        exact q4
      · split
        · refine fst_outside ?_
          exact q4
        · refine ite_fst_outside ?_ ?_
          · split
            · extract_lets +onlyGivenNames -merge -underBinder x7
              try clear_value x7
              extract_lets +onlyGivenNames -merge -underBinder x8
              unfold x8
              clear x8
              refine ite_fst_outside ?_ ?_
              · refine fst_outside ?_
                exact q4
              · refine fst_outside ?_
                refine State.bump_outside (hNums.at Key.fam_graceUnplaced rfl) ?_
                refine Eq.trans (State.outside_dict_dict (h0 := hDict) ..) ?_
                exact q4
            · refine fst_outside ?_
              exact q4
          · split
            · extract_lets +onlyGivenNames -merge -underBinder x9
              try clear_value x9
              split
              · refine fst_outside ?_
                exact q4
              · refine fst_outside ?_
                exact q4
            · refine fst_outside ?_
              refine State.portPost_outside hDict (hNums.sub rfl) hLogs hStraps hJournal hEdges hFlags ?_
              exact q4
  · refine fst_outside ?_
    exact hs

theorem State.placeRest_keeps {s : State} {ds : List Demand} {l : Plan} : Kept8 s (State.placeRest s ds l).1 :=
  .of (State.placeRest_outside rfl rfl rfl rfl rfl rfl rfl rfl)

theorem State.placeRest_rd {s : State} {ds : List Demand} {l : Plan} {kk : Nat} (hkey : Nums60.contains (Key.fam kk) = false) : (State.placeRest s ds l).1.rd kk = s.rd kk :=
  State.rd_of_outside (M := .but Nums60) (State.placeRest_outside rfl .self rfl rfl rfl rfl rfl rfl) rfl hkey

theorem State.placeAll_outside {M : Touch} {r : State} {s : State} (hPins : M.pins = true) (hDict : M.dict = true) (hNums : M.Nums Nums61) (hResults : M.results = true) (hLogs : M.logs = true) (hPorts : M.ports = true) (hRxTiles : M.rxTiles = true) (hTxTiles : M.txTiles = true) (hStraps : M.straps = true) (hJournal : M.journal = true) (hEdges : M.edges = true) (hFlags : M.flags = true) (hs : s.outside M = r) :
    (State.placeAll s).outside M = r := by
  unfold State.placeAll
  extract_lets +onlyGivenNames -merge -underBinder x0
  try clear_value x0
  extract_lets +onlyGivenNames -merge -underBinder x1
  try clear_value x1
  split
  · rename_i t2 t4 e5
    have q3 : State.outside M t2 = r := by
      refine Eq.trans (congrArg (fun p => State.outside M p.1) e5).symm ?_
      refine State.placePins_outside hDict (hNums.sub rfl) hLogs hRxTiles hStraps hJournal hEdges hFlags ?_
      exact hs
    split
    · rename_i t6 t8 e9
      have q7 : State.outside M t6 = r := by
        refine Eq.trans (congrArg (fun p => State.outside M p.1) e9).symm ?_
        refine State.placeRest_outside hDict (hNums.sub rfl) hLogs hStraps hJournal hEdges hFlags ?_
        exact q3
      extract_lets +onlyGivenNames -merge -underBinder x10
      have q11 : State.outside M x10 = r := by
        unfold x10
        refine State.placeTx_outside hDict (hNums.sub rfl) hLogs hTxTiles hStraps hJournal hEdges hFlags ?_
        exact q7
      try clear_value x10
      extract_lets +onlyGivenNames -merge -underBinder x12
      have q13 : State.outside M x12 = r := by
        unfold x12
        refine State.each_outside ?_ ?_
        · intro t14 q15 z16
          extract_lets +onlyGivenNames -merge -underBinder x17
          try clear_value x17
          extract_lets +onlyGivenNames -merge -underBinder x18
          try clear_value x18
          extract_lets +onlyGivenNames -merge -underBinder x19
          try clear_value x19
          refine State.setRx_outside hRxTiles ?_
          exact q15
        · exact q11
      try clear_value x12
      refine State.each_outside ?_ ?_
      · intro t20 q21 z22
        extract_lets +onlyGivenNames -merge -underBinder x23
        try clear_value x23
        extract_lets +onlyGivenNames -merge -underBinder x24
        try clear_value x24
        refine ite_outside ?_ ?_
        · refine State.portRun_outside hPins hDict (hNums.sub rfl) hResults hLogs hPorts hRxTiles hStraps hJournal hEdges hFlags ?_
          refine State.setPort_outside hPorts ?_
          exact q21
        · exact q21
      · exact q13

theorem State.placeAll_keeps {s : State} : Kept110 s (State.placeAll s) :=
  .of (State.placeAll_outside rfl rfl rfl rfl rfl rfl rfl rfl rfl rfl rfl rfl rfl)

theorem State.placeAll_rd {s : State} {kk : Nat} (hkey : Nums61.contains (Key.fam kk) = false) : (State.placeAll s).rd kk = s.rd kk :=
  State.rd_of_outside (M := .but Nums61) (State.placeAll_outside rfl rfl .self rfl rfl rfl rfl rfl rfl rfl rfl rfl rfl) rfl hkey

theorem State.takeCentre_outside {M : Touch} {r : State} {s : State} {p : Nat} (hPorts : M.ports = true) (hRxTiles : M.rxTiles = true) (hs : s.outside M = r) :
    (State.takeCentre s p).outside M = r := by
  unfold State.takeCentre
  extract_lets +onlyGivenNames -merge -underBinder x0
  try clear_value x0
  extract_lets +onlyGivenNames -merge -underBinder x1
  have q2 : State.outside M x1 = r := by
    unfold x1
    refine State.setPort_outside hPorts ?_
    exact hs
  try clear_value x1
  refine State.each_outside ?_ ?_
  · intro t3 q4 z5
    extract_lets +onlyGivenNames -merge -underBinder x6
    try clear_value x6
    refine State.setRx_outside hRxTiles ?_
    exact q4
  · exact q2

theorem State.takeCentre_keeps {s : State} {p : Nat} : Kept111 s (State.takeCentre s p) :=
  .of (State.takeCentre_outside rfl rfl rfl)

theorem State.centreFollow_outside {M : Touch} {r : State} {s : State} {p : Nat} (hPins : M.pins = true) (hDict : M.dict = true) (hNums : M.Nums Nums61) (hResults : M.results = true) (hLogs : M.logs = true) (hPorts : M.ports = true) (hRxTiles : M.rxTiles = true) (hTxTiles : M.txTiles = true) (hStraps : M.straps = true) (hJournal : M.journal = true) (hEdges : M.edges = true) (hFlags : M.flags = true) (hs : s.outside M = r) :
    (State.centreFollow s p).outside M = r := by
  unfold State.centreFollow
  refine ite_outside ?_ ?_
  · refine State.placeAll_outside hPins hDict hNums hResults hLogs hPorts hRxTiles hTxTiles hStraps hJournal hEdges hFlags ?_
    refine State.takeCentre_outside hPorts hRxTiles ?_
    exact hs
  · exact hs

theorem State.centreFollow_keeps {s : State} {p : Nat} : Kept110 s (State.centreFollow s p) :=
  .of (State.centreFollow_outside rfl rfl rfl rfl rfl rfl rfl rfl rfl rfl rfl rfl rfl)

theorem State.centreFollow_rd {s : State} {p : Nat} {kk : Nat} (hkey : Nums61.contains (Key.fam kk) = false) : (State.centreFollow s p).rd kk = s.rd kk :=
  State.rd_of_outside (M := .but Nums61) (State.centreFollow_outside rfl rfl .self rfl rfl rfl rfl rfl rfl rfl rfl rfl rfl) rfl hkey

theorem State.centreApplied_outside {M : Touch} {r : State} {s : State} {p : Nat} (hPins : M.pins = true) (hDict : M.dict = true) (hNums : M.Nums Nums61) (hResults : M.results = true) (hLogs : M.logs = true) (hPorts : M.ports = true) (hRxTiles : M.rxTiles = true) (hTxTiles : M.txTiles = true) (hStraps : M.straps = true) (hJournal : M.journal = true) (hEdges : M.edges = true) (hFlags : M.flags = true) (hs : s.outside M = r) :
    (State.centreApplied s p).outside M = r := by
  unfold State.centreApplied
  refine ite_outside ?_ ?_
  · refine State.centreFollow_outside hPins hDict hNums hResults hLogs hPorts hRxTiles hTxTiles hStraps hJournal hEdges hFlags ?_
    exact hs
  · exact hs

theorem State.centreApplied_keeps {s : State} {p : Nat} : Kept110 s (State.centreApplied s p) :=
  .of (State.centreApplied_outside rfl rfl rfl rfl rfl rfl rfl rfl rfl rfl rfl rfl rfl)

theorem State.centreApplied_rd {s : State} {p : Nat} {kk : Nat} (hkey : Nums61.contains (Key.fam kk) = false) : (State.centreApplied s p).rd kk = s.rd kk :=
  State.rd_of_outside (M := .but Nums61) (State.centreApplied_outside rfl rfl .self rfl rfl rfl rfl rfl rfl rfl rfl rfl rfl) rfl hkey

theorem State.portSleep_outside {M : Touch} {r : State} {s : State} {p : Nat} (hPins : M.pins = true) (hDict : M.dict = true) (hNums : M.Nums Nums52) (hResults : M.results = true) (hLogs : M.logs = true) (hPorts : M.ports = true) (hRxTiles : M.rxTiles = true) (hStraps : M.straps = true) (hJournal : M.journal = true) (hEdges : M.edges = true) (hFlags : M.flags = true) (hs : s.outside M = r) :
    (State.portSleep s p).outside M = r := by
  unfold State.portSleep
  extract_lets +onlyGivenNames -merge -underBinder x0
  try clear_value x0
  extract_lets +onlyGivenNames -merge -underBinder x1
  have q2 : State.outside M x1 = r := by
    unfold x1
    refine State.resEndIfBusy_outside hResults ?_
    exact hs
  try clear_value x1
  refine State.portRun_outside hPins hDict hNums hResults hLogs hPorts hRxTiles hStraps hJournal hEdges hFlags ?_
  refine State.setPort_outside hPorts ?_
  exact q2

theorem State.portSleep_keeps {s : State} {p : Nat} : Kept109 s (State.portSleep s p) :=
  .of (State.portSleep_outside rfl rfl rfl rfl rfl rfl rfl rfl rfl rfl rfl rfl)

theorem State.portSleep_rd {s : State} {p : Nat} {kk : Nat} (hkey : Nums52.contains (Key.fam kk) = false) : (State.portSleep s p).rd kk = s.rd kk :=
  State.rd_of_outside (M := .but Nums52) (State.portSleep_outside rfl rfl .self rfl rfl rfl rfl rfl rfl rfl rfl rfl) rfl hkey

theorem State.portCmd_outside {M : Touch} {r : State} {s : State} {p : Nat} {t : Nat} (hPins : M.pins = true) (hDict : M.dict = true) (hNums : M.Nums Nums52) (hResults : M.results = true) (hLogs : M.logs = true) (hPorts : M.ports = true) (hRxTiles : M.rxTiles = true) (hStraps : M.straps = true) (hJournal : M.journal = true) (hEdges : M.edges = true) (hFlags : M.flags = true) (hs : s.outside M = r) :
    (State.portCmd s p t).outside M = r := by
  unfold State.portCmd
  extract_lets +onlyGivenNames -merge -underBinder x0
  have q1 : State.outside M x0 = r := by
    unfold x0
    refine State.resBegin_outside hResults ?_
    exact hs
  try clear_value x0
  extract_lets +onlyGivenNames -merge -underBinder x2
  try clear_value x2
  refine ite_outside ?_ ?_
  · refine State.resEnd_outside hResults ?_
    exact q1
  · refine State.portRun_outside hPins hDict hNums hResults hLogs hPorts hRxTiles hStraps hJournal hEdges hFlags ?_
    refine State.setPort_outside hPorts ?_
    exact q1

theorem State.portCmd_keeps {s : State} {p : Nat} {t : Nat} : Kept109 s (State.portCmd s p t) :=
  .of (State.portCmd_outside rfl rfl rfl rfl rfl rfl rfl rfl rfl rfl rfl rfl)

theorem State.portCmd_rd {s : State} {p : Nat} {t : Nat} {kk : Nat} (hkey : Nums52.contains (Key.fam kk) = false) : (State.portCmd s p t).rd kk = s.rd kk :=
  State.rd_of_outside (M := .but Nums52) (State.portCmd_outside rfl rfl .self rfl rfl rfl rfl rfl rfl rfl rfl rfl) rfl hkey

theorem State.calPost_outside {M : Touch} {r : State} {s : State} {p : Nat} {code : Nat} (hDict : M.dict = true) (hNums : M.Nums Nums2) (hLogs : M.logs = true) (hStraps : M.straps = true) (hJournal : M.journal = true) (hEdges : M.edges = true) (hFlags : M.flags = true) (hs : s.outside M = r) :
    (State.calPost s p code).outside M = r := by
  unfold State.calPost
  refine ite_outside ?_ ?_
  · exact hs
  · refine State.post_outside hDict hNums hLogs hStraps hJournal hEdges hFlags ?_
    exact hs

theorem State.calPost_keeps {s : State} {p : Nat} {code : Nat} : Kept8 s (State.calPost s p code) :=
  .of (State.calPost_outside rfl rfl rfl rfl rfl rfl rfl rfl)

theorem State.calPost_rd {s : State} {p : Nat} {code : Nat} {kk : Nat} (hkey : Nums2.contains (Key.fam kk) = false) : (State.calPost s p code).rd kk = s.rd kk :=
  State.rd_of_outside (M := .but Nums2) (State.calPost_outside rfl .self rfl rfl rfl rfl rfl rfl) rfl hkey

theorem State.antOpenNow_outside {M : Touch} {r : State} {s : State} {p : Nat} (hDict : M.dict = true) (hNums : M.Nums Nums83) (hLogs : M.logs = true) (hStraps : M.straps = true) (hJournal : M.journal = true) (hEdges : M.edges = true) (hFlags : M.flags = true) (hs : s.outside M = r) :
    (State.antOpenNow s p).outside M = r := by
  unfold State.antOpenNow
  refine State.portPost_outside hDict (hNums.sub rfl) hLogs hStraps hJournal hEdges hFlags ?_
  refine State.wr_outside (hNums.at Key.fam_portAntState rfl) ?_
  exact hs

theorem State.antOpenNow_keeps {s : State} {p : Nat} : Kept8 s (State.antOpenNow s p) :=
  .of (State.antOpenNow_outside rfl rfl rfl rfl rfl rfl rfl rfl)

theorem State.antOpenNow_rd {s : State} {p : Nat} {kk : Nat} (hkey : Nums83.contains (Key.fam kk) = false) : (State.antOpenNow s p).rd kk = s.rd kk :=
  State.rd_of_outside (M := .but Nums83) (State.antOpenNow_outside rfl .self rfl rfl rfl rfl rfl rfl) rfl hkey

theorem State.calTake_outside {M : Touch} {r : State} {s : State} {p : Nat} {kind : Nat} {measured : Bytes} (hDoms : M.doms = true) (hs : s.outside M = r) :
    (State.calTake s p kind measured).outside M = r := by
  unfold State.calTake
  extract_lets +onlyGivenNames -merge -underBinder x0
  try clear_value x0
  extract_lets +onlyGivenNames -merge -underBinder x1
  try clear_value x1
  refine State.setDom_outside hDoms ?_
  exact hs

theorem State.calTake_keeps {s : State} {p : Nat} {kind : Nat} {measured : Bytes} : Kept13 s (State.calTake s p kind measured) :=
  .of (State.calTake_outside rfl rfl)

theorem State.calStartUp_outside {M : Touch} {r : State} {s : State} {p : Nat} {out : List CalMeas} {measured : Bytes} (hDict : M.dict = true) (hNums : M.Nums Nums2) (hDoms : M.doms = true) (hLogs : M.logs = true) (hPorts : M.ports = true) (hStraps : M.straps = true) (hJournal : M.journal = true) (hEdges : M.edges = true) (hFlags : M.flags = true) (hs : s.outside M = r) :
    (State.calStartUp s p out measured).outside M = r := by
  unfold State.calStartUp
  extract_lets +onlyGivenNames -merge -underBinder x0
  try clear_value x0
  extract_lets +onlyGivenNames -merge -underBinder x1
  have q2 : State.outside M x1 = r := by
    unfold x1
    refine State.setPort_outside hPorts ?_
    exact hs
  try clear_value x1
  extract_lets +onlyGivenNames -merge -underBinder x3
  try clear_value x3
  refine ite_outside ?_ ?_
  · exact hs
  · refine State.each_outside ?_ ?_
    · intro t4 q5 z6
      extract_lets +onlyGivenNames -merge -underBinder x7
      try clear_value x7
      refine ite_outside ?_ ?_
      · refine State.calTake_outside hDoms ?_
        exact q5
      · refine State.calPost_outside hDict hNums hLogs hStraps hJournal hEdges hFlags ?_
        refine State.calTake_outside hDoms ?_
        exact q5
    · exact q2

theorem State.calStartUp_keeps {s : State} {p : Nat} {out : List CalMeas} {measured : Bytes} : Kept112 s (State.calStartUp s p out measured) :=
  .of (State.calStartUp_outside rfl rfl rfl rfl rfl rfl rfl rfl rfl rfl)

theorem State.calStartUp_rd {s : State} {p : Nat} {out : List CalMeas} {measured : Bytes} {kk : Nat} (hkey : Nums2.contains (Key.fam kk) = false) : (State.calStartUp s p out measured).rd kk = s.rd kk :=
  State.rd_of_outside (M := .but Nums2) (State.calStartUp_outside rfl .self rfl rfl rfl rfl rfl rfl rfl rfl) rfl hkey

theorem State.islandEnded_outside {M : Touch} {r : State} {s : State} {t : Tile} (hNums : M.Nums Nums29) (hRxTiles : M.rxTiles = true) (hs : s.outside M = r) :
    (State.islandEnded s t).outside M = r := by
  unfold State.islandEnded
  split
  · refine State.rxAsk_outside hNums hRxTiles ?_
    exact hs
  · exact hs
  · exact hs

theorem State.islandEnded_keeps {s : State} {t : Tile} : Kept88 s (State.islandEnded s t) :=
  .of (State.islandEnded_outside rfl rfl rfl)

theorem State.islandEnded_rd {s : State} {t : Tile} {kk : Nat} (hkey : Nums29.contains (Key.fam kk) = false) : (State.islandEnded s t).rd kk = s.rd kk :=
  State.rd_of_outside (M := .but Nums29) (State.islandEnded_outside .self rfl rfl) rfl hkey

theorem State.islandServe_outside {M : Touch} {r : State} {s : State} {t : Tile} {on : Bool} (hNums : M.Nums Nums42) (hResults : M.results = true) (hPower : M.power = true) (hRxTiles : M.rxTiles = true) (hTxTiles : M.txTiles = true) (hCores : M.cores = true) (hs : s.outside M = r) :
    (State.islandServe s t on).outside M = r := by
  unfold State.islandServe
  split
  · refine State.coreIslServe_outside hNums hResults hPower hCores ?_
    exact hs
  · extract_lets +onlyGivenNames -merge -underBinder x0
    try clear_value x0
    refine ite_outside ?_ ?_
    · refine State.setIsl_outside hPower hRxTiles hTxTiles ?_
      exact hs
    · exact hs
  · extract_lets +onlyGivenNames -merge -underBinder x1
    try clear_value x1
    refine ite_outside ?_ ?_
    · refine State.setIsl_outside hPower hRxTiles hTxTiles ?_
      exact hs
    · exact hs

theorem State.islandServe_keeps {s : State} {t : Tile} {on : Bool} : Kept113 s (State.islandServe s t on) :=
  .of (State.islandServe_outside rfl rfl rfl rfl rfl rfl rfl)

theorem State.islandServe_rd {s : State} {t : Tile} {on : Bool} {kk : Nat} (hkey : Nums42.contains (Key.fam kk) = false) : (State.islandServe s t on).rd kk = s.rd kk :=
  State.rd_of_outside (M := .but Nums42) (State.islandServe_outside .self rfl rfl rfl rfl rfl rfl) rfl hkey

theorem State.lockFailed_outside {M : Touch} {r : State} {s : State} {p : Nat} (hOut : M.out = true) (hPins : M.pins = true) (hDict : M.dict = true) (hNums : M.Nums Nums131) (hResults : M.results = true) (hLogs : M.logs = true) (hRadio : M.radio = true) (hPorts : M.ports = true) (hRxTiles : M.rxTiles = true) (hTxTiles : M.txTiles = true) (hRecs : M.recs = true) (hStraps : M.straps = true) (hJournal : M.journal = true) (hNodeQueues : M.nodeQueues = true) (hLacing : M.lacing = true) (hEdges : M.edges = true) (hFlags : M.flags = true) (hReports : M.reports = true) (hs : s.outside M = r) :
    (State.lockFailed s p).outside M = r := by
  unfold State.lockFailed
  extract_lets +onlyGivenNames -merge -underBinder x0
  have q1 : State.outside M x0 = r := by
    unfold x0
    refine State.resEndIfBusy_outside hResults ?_
    exact hs
  try clear_value x0
  extract_lets +onlyGivenNames -merge -underBinder x2
  have q3 : State.outside M x2 = r := by
    unfold x2
    refine State.each_outside ?_ ?_
    · intro t4 q5 z6
      refine State.txFinish_outside hOut hDict (hNums.sub rfl) hLogs hRadio hPorts hTxTiles hRecs hStraps hJournal hNodeQueues hLacing hEdges hFlags hReports ?_
      exact q5
    · exact q1
  try clear_value x2
  extract_lets +onlyGivenNames -merge -underBinder x7
  try clear_value x7
  extract_lets +onlyGivenNames -merge -underBinder x8
  have q9 : State.outside M x8 = r := by
    unfold x8
    refine State.setPort_outside hPorts ?_
    exact q3
  try clear_value x8
  refine State.portPost_outside hDict (hNums.sub rfl) hLogs hStraps hJournal hEdges hFlags ?_
  refine State.portEnter_outside hPins (hNums.sub rfl) hPorts hRxTiles hEdges ?_
  exact q9

theorem State.lockFailed_keeps {s : State} {p : Nat} : Kept107 s (State.lockFailed s p) :=
  .of (State.lockFailed_outside rfl rfl rfl rfl rfl rfl rfl rfl rfl rfl rfl rfl rfl rfl rfl rfl rfl rfl rfl)

theorem State.lockFailed_rd {s : State} {p : Nat} {kk : Nat} (hkey : Nums131.contains (Key.fam kk) = false) : (State.lockFailed s p).rd kk = s.rd kk :=
  State.rd_of_outside (M := .but Nums131) (State.lockFailed_outside rfl rfl rfl .self rfl rfl rfl rfl rfl rfl rfl rfl rfl rfl rfl rfl rfl rfl rfl) rfl hkey

theorem State.portShut_outside {M : Touch} {r : State} {s : State} {p : Nat} (hPins : M.pins = true) (hDict : M.dict = true) (hNums : M.Nums Nums135) (hResults : M.results = true) (hLogs : M.logs = true) (hPorts : M.ports = true) (hRxTiles : M.rxTiles = true) (hTxTiles : M.txTiles = true) (hStraps : M.straps = true) (hJournal : M.journal = true) (hEdges : M.edges = true) (hFlags : M.flags = true) (hs : s.outside M = r) :
    (State.portShut s p).outside M = r := by
  unfold State.portShut
  refine State.portSleep_outside hPins hDict (hNums.sub rfl) hResults hLogs hPorts hRxTiles hStraps hJournal hEdges hFlags ?_
  refine State.abortAir_outside (hNums.sub rfl) hPorts hTxTiles ?_
  exact hs

theorem State.portShut_keeps {s : State} {p : Nat} : Kept110 s (State.portShut s p) :=
  .of (State.portShut_outside rfl rfl rfl rfl rfl rfl rfl rfl rfl rfl rfl rfl rfl)

theorem State.portShut_rd {s : State} {p : Nat} {kk : Nat} (hkey : Nums135.contains (Key.fam kk) = false) : (State.portShut s p).rd kk = s.rd kk :=
  State.rd_of_outside (M := .but Nums135) (State.portShut_outside rfl rfl .self rfl rfl rfl rfl rfl rfl rfl rfl rfl rfl) rfl hkey

theorem State.relock_outside {M : Touch} {r : State} {s : State} {p : Nat} (hPins : M.pins = true) (hDict : M.dict = true) (hNums : M.Nums Nums52) (hLogs : M.logs = true) (hPorts : M.ports = true) (hRxTiles : M.rxTiles = true) (hStraps : M.straps = true) (hJournal : M.journal = true) (hEdges : M.edges = true) (hFlags : M.flags = true) (hs : s.outside M = r) :
    (State.relock s p).outside M = r := by
  unfold State.relock
  extract_lets +onlyGivenNames -merge -underBinder x0
  try clear_value x0
  extract_lets +onlyGivenNames -merge -underBinder x1
  try clear_value x1
  extract_lets +onlyGivenNames -merge -underBinder x2
  have q3 : State.outside M x2 = r := by
    unfold x2
    refine State.preempt_outside hDict (hNums.sub rfl) hLogs hRxTiles hStraps hJournal hEdges hFlags ?_
    exact hs
  try clear_value x2
  extract_lets +onlyGivenNames -merge -underBinder x4
  try clear_value x4
  extract_lets +onlyGivenNames -merge -underBinder x5
  have q6 : State.outside M x5 = r := by
    unfold x5
    refine State.setPort_outside hPorts ?_
    exact q3
  try clear_value x5
  refine State.relockGo_outside hPins (hNums.sub rfl) hPorts hRxTiles hEdges ?_
  exact q6

theorem State.relock_keeps {s : State} {p : Nat} : Kept114 s (State.relock s p) :=
  .of (State.relock_outside rfl rfl rfl rfl rfl rfl rfl rfl rfl rfl rfl)

theorem State.relock_rd {s : State} {p : Nat} {kk : Nat} (hkey : Nums52.contains (Key.fam kk) = false) : (State.relock s p).rd kk = s.rd kk :=
  State.rd_of_outside (M := .but Nums52) (State.relock_outside rfl rfl .self rfl rfl rfl rfl rfl rfl rfl rfl) rfl hkey

theorem execPortStateCmd_outside {M : Touch} {r : State} {p : Fin 4} {t : Fin 5} {s : State} (hPins : M.pins = true) (hDict : M.dict = true) (hNums : M.Nums Nums52) (hResults : M.results = true) (hLogs : M.logs = true) (hPorts : M.ports = true) (hRxTiles : M.rxTiles = true) (hStraps : M.straps = true) (hJournal : M.journal = true) (hEdges : M.edges = true) (hFlags : M.flags = true) (hs : s.outside M = r) :
    NextOutside M r (execPortStateCmd p t s) := by
  unfold execPortStateCmd
  refine next_outside ?_
  refine ite_outside ?_ ?_
  · exact hs
  · refine State.portCmd_outside hPins hDict hNums hResults hLogs hPorts hRxTiles hStraps hJournal hEdges hFlags ?_
    exact hs

theorem execSynthLockLost_outside {M : Touch} {r : State} {p : Fin 4} {s : State} (hPins : M.pins = true) (hDict : M.dict = true) (hNums : M.Nums Nums135) (hLogs : M.logs = true) (hPorts : M.ports = true) (hRxTiles : M.rxTiles = true) (hTxTiles : M.txTiles = true) (hStraps : M.straps = true) (hJournal : M.journal = true) (hEdges : M.edges = true) (hFlags : M.flags = true) (hs : s.outside M = r) :
    NextOutside M r (execSynthLockLost p s) := by
  unfold execSynthLockLost
  extract_lets +onlyGivenNames -merge -underBinder x0
  try clear_value x0
  extract_lets +onlyGivenNames -merge -underBinder x1
  try clear_value x1
  refine next_outside ?_
  refine ite_outside ?_ ?_
  · exact hs
  · refine ite_outside ?_ ?_
    · refine State.relock_outside hPins hDict (hNums.sub rfl) hLogs hPorts hRxTiles hStraps hJournal hEdges hFlags ?_
      refine State.abortAir_outside (hNums.sub rfl) hPorts hTxTiles ?_
      exact hs
    · exact hs

theorem execIslandStart_outside {M : Touch} {r : State} {t : Tile} {dt : Nat} {s : State} (hClock : M.clock = true) (hNums : M.Nums Nums42) (hResults : M.results = true) (hPower : M.power = true) (hVbat : M.vbat = true) (hRxTiles : M.rxTiles = true) (hTxTiles : M.txTiles = true) (hCores : M.cores = true) (hs : s.outside M = r) :
    NextOutside M r (execIslandStart t dt s) := by
  unfold execIslandStart
  refine next_outside ?_
  refine State.islandServe_outside hNums hResults hPower hRxTiles hTxTiles hCores ?_
  refine State.advance_outside hClock hVbat ?_
  exact hs

theorem execIslandDwellEnd_outside {M : Touch} {r : State} {t : Tile} {dt : Nat} {s : State} (hClock : M.clock = true) (hNums : M.Nums Nums42) (hResults : M.results = true) (hPower : M.power = true) (hVbat : M.vbat = true) (hRxTiles : M.rxTiles = true) (hTxTiles : M.txTiles = true) (hCores : M.cores = true) (hs : s.outside M = r) :
    NextOutside M r (execIslandDwellEnd t dt s) := by
  unfold execIslandDwellEnd
  extract_lets +onlyGivenNames -merge -underBinder x0
  have q1 : State.outside M x0 = r := by
    unfold x0
    refine State.advance_outside hClock hVbat ?_
    exact hs
  try clear_value x0
  refine next_outside ?_
  refine State.islandServe_outside hNums hResults hPower hRxTiles hTxTiles hCores ?_
  exact q1

theorem execSynthRelockDone_outside {M : Touch} {r : State} {p : Fin 4} {locked : Bool} {dt : Nat} {s : State} (hOut : M.out = true) (hPins : M.pins = true) (hClock : M.clock = true) (hDict : M.dict = true) (hNums : M.Nums Nums32) (hResults : M.results = true) (hLogs : M.logs = true) (hVbat : M.vbat = true) (hRadio : M.radio = true) (hPorts : M.ports = true) (hRxTiles : M.rxTiles = true) (hTxTiles : M.txTiles = true) (hRecs : M.recs = true) (hStraps : M.straps = true) (hJournal : M.journal = true) (hNodeQueues : M.nodeQueues = true) (hLacing : M.lacing = true) (hEdges : M.edges = true) (hFlags : M.flags = true) (hReports : M.reports = true) (hs : s.outside M = r) :
    NextOutside M r (execSynthRelockDone p locked dt s) := by
  unfold execSynthRelockDone
  extract_lets +onlyGivenNames -merge -underBinder x0
  have q1 : State.outside M x0 = r := by
    unfold x0
    refine State.advance_outside hClock hVbat ?_
    exact hs
  try clear_value x0
  extract_lets +onlyGivenNames -merge -underBinder x2
  try clear_value x2
  extract_lets +onlyGivenNames -merge -underBinder x3
  try clear_value x3
  refine next_outside ?_
  split
  · exact q1
  · refine ite_outside ?_ ?_
    · exact q1
    · refine ite_outside ?_ ?_
      · refine ite_outside ?_ ?_
        · refine State.lockFailed_outside hOut hPins hDict (hNums.sub rfl) hResults hLogs hRadio hPorts hRxTiles hTxTiles hRecs hStraps hJournal hNodeQueues hLacing hEdges hFlags hReports ?_
          exact q1
        · refine State.setPort_outside hPorts ?_
          exact q1
      · refine State.portRun_outside hPins hDict (hNums.sub rfl) hResults hLogs hPorts hRxTiles hStraps hJournal hEdges hFlags ?_
        refine State.setPort_outside hPorts ?_
        exact q1

theorem execPortStarved_outside {M : Touch} {r : State} {p : Fin 4} {dt : Nat} {s : State} (hClock : M.clock = true) (hDict : M.dict = true) (hNums : M.Nums Nums157) (hLogs : M.logs = true) (hVbat : M.vbat = true) (hStraps : M.straps = true) (hJournal : M.journal = true) (hEdges : M.edges = true) (hFlags : M.flags = true) (hs : s.outside M = r) :
    NextOutside M r (execPortStarved p dt s) := by
  unfold execPortStarved
  extract_lets +onlyGivenNames -merge -underBinder x0
  have q1 : State.outside M x0 = r := by
    unfold x0
    refine State.advance_outside hClock hVbat ?_
    exact hs
  try clear_value x0
  extract_lets +onlyGivenNames -merge -underBinder x2
  try clear_value x2
  extract_lets +onlyGivenNames -merge -underBinder x3
  try clear_value x3
  refine next_outside ?_
  refine ite_outside ?_ ?_
  · refine State.portPost_outside hDict (hNums.sub rfl) hLogs hStraps hJournal hEdges hFlags ?_
    refine State.bump_outside (hNums.at Key.fam_portStarved rfl) ?_
    refine State.wr_outside (hNums.at Key.fam_portAntState rfl) ?_
    exact q1
  · exact q1

theorem execPlacementChange_outside {M : Touch} {r : State} {n : Fin 64} {s : State} (hNums : M.Nums Nums30) (hRxTiles : M.rxTiles = true) (hs : s.outside M = r) :
    NextOutside M r (execPlacementChange n s) := by
  unfold execPlacementChange
  refine next_outside ?_
  refine State.rxMove_outside hNums hRxTiles ?_
  exact hs

theorem execPortTransitionDone_outside {M : Touch} {r : State} {p : Fin 4} {locked : Bool} {out : List CalMeas} {measured : Bytes} {dt : Nat} {s : State} (hOut : M.out = true) (hPins : M.pins = true) (hClock : M.clock = true) (hDict : M.dict = true) (hNums : M.Nums Nums166) (hDoms : M.doms = true) (hResults : M.results = true) (hLogs : M.logs = true) (hVbat : M.vbat = true) (hRadio : M.radio = true) (hPorts : M.ports = true) (hRxTiles : M.rxTiles = true) (hTxTiles : M.txTiles = true) (hRecs : M.recs = true) (hStraps : M.straps = true) (hJournal : M.journal = true) (hNodeQueues : M.nodeQueues = true) (hLacing : M.lacing = true) (hEdges : M.edges = true) (hFlags : M.flags = true) (hReports : M.reports = true) (hs : s.outside M = r) :
    NextOutside M r (execPortTransitionDone p locked out measured dt s) := by
  unfold execPortTransitionDone
  extract_lets +onlyGivenNames -merge -underBinder x0
  have q1 : State.outside M x0 = r := by
    unfold x0
    refine State.advance_outside hClock hVbat ?_
    exact hs
  try clear_value x0
  extract_lets +onlyGivenNames -merge -underBinder x2
  try clear_value x2
  extract_lets +onlyGivenNames -merge -underBinder x3
  try clear_value x3
  refine next_outside ?_
  split
  · exact q1
  · extract_lets +onlyGivenNames -merge -underBinder x4
    have q5 : State.outside M x4 = r := by
      unfold x4
      refine State.setPort_outside hPorts ?_
      exact q1
    try clear_value x4
    extract_lets +onlyGivenNames -merge -underBinder x6
    have q7 : State.outside M x6 = r := by
      unfold x6
      refine State.portEnter_outside hPins (hNums.sub rfl) hPorts hRxTiles hEdges ?_
      exact q1
    try clear_value x6
    refine ite_outside ?_ ?_
    · exact q1
    · refine ite_outside ?_ ?_
      · refine ite_outside ?_ ?_
        · refine ite_outside ?_ ?_
          · refine State.lockFailed_outside hOut hPins hDict (hNums.sub rfl) hResults hLogs hRadio hPorts hRxTiles hTxTiles hRecs hStraps hJournal hNodeQueues hLacing hEdges hFlags hReports ?_
            exact q1
          · refine State.setPort_outside hPorts ?_
            exact q1
        · refine State.portRun_outside hPins hDict (hNums.sub rfl) hResults hLogs hPorts hRxTiles hStraps hJournal hEdges hFlags ?_
          refine State.centreFollow_outside hPins hDict (hNums.sub rfl) hResults hLogs hPorts hRxTiles hTxTiles hStraps hJournal hEdges hFlags ?_
          refine State.portEnter_outside hPins (hNums.sub rfl) hPorts hRxTiles hEdges ?_
          refine State.calStartUp_outside hDict (hNums.sub rfl) hDoms hLogs hPorts hStraps hJournal hEdges hFlags ?_
          exact q5
      · refine State.portRun_outside hPins hDict (hNums.sub rfl) hResults hLogs hPorts hRxTiles hStraps hJournal hEdges hFlags ?_
        refine ite_outside ?_ ?_
        · refine State.centreFollow_outside hPins hDict (hNums.sub rfl) hResults hLogs hPorts hRxTiles hTxTiles hStraps hJournal hEdges hFlags ?_
          exact q7
        · exact q7

theorem execPortDwellEnd_outside {M : Touch} {r : State} {p : Fin 4} {dt : Nat} {s : State} (hPins : M.pins = true) (hClock : M.clock = true) (hDict : M.dict = true) (hNums : M.Nums Nums52) (hResults : M.results = true) (hLogs : M.logs = true) (hVbat : M.vbat = true) (hPorts : M.ports = true) (hRxTiles : M.rxTiles = true) (hStraps : M.straps = true) (hJournal : M.journal = true) (hEdges : M.edges = true) (hFlags : M.flags = true) (hs : s.outside M = r) :
    NextOutside M r (execPortDwellEnd p dt s) := by
  unfold execPortDwellEnd
  refine next_outside ?_
  refine State.portRun_outside hPins hDict hNums hResults hLogs hPorts hRxTiles hStraps hJournal hEdges hFlags ?_
  refine State.advance_outside hClock hVbat ?_
  exact hs

theorem execIslandStop_outside {M : Touch} {r : State} {t : Tile} {dt : Nat} {s : State} (hClock : M.clock = true) (hNums : M.Nums Nums42) (hResults : M.results = true) (hPower : M.power = true) (hVbat : M.vbat = true) (hRxTiles : M.rxTiles = true) (hTxTiles : M.txTiles = true) (hCores : M.cores = true) (hs : s.outside M = r) :
    NextOutside M r (execIslandStop t dt s) := by
  unfold execIslandStop
  refine next_outside ?_
  refine State.islandServe_outside hNums hResults hPower hRxTiles hTxTiles hCores ?_
  refine State.advance_outside hClock hVbat ?_
  exact hs

theorem execIslandOn_outside {M : Touch} {r : State} {t : Tile} {dt : Nat} {s : State} (hClock : M.clock = true) (hNums : M.Nums Nums29) (hPower : M.power = true) (hVbat : M.vbat = true) (hRxTiles : M.rxTiles = true) (hTxTiles : M.txTiles = true) (hs : s.outside M = r) :
    NextOutside M r (execIslandOn t dt s) := by
  unfold execIslandOn
  extract_lets +onlyGivenNames -merge -underBinder x0
  have q1 : State.outside M x0 = r := by
    unfold x0
    refine State.advance_outside hClock hVbat ?_
    exact hs
  try clear_value x0
  extract_lets +onlyGivenNames -merge -underBinder x2
  try clear_value x2
  refine next_outside ?_
  refine ite_outside ?_ ?_
  · refine State.islandEnded_outside hNums hRxTiles ?_
    refine State.setIsl_outside hPower hRxTiles hTxTiles ?_
    exact q1
  · exact q1

theorem execPdMeasure_outside {M : Touch} {r : State} {p : Fin 4} {fwd : Int} {ref : Int} {dt : Nat} {s : State} (hClock : M.clock = true) (hDict : M.dict = true) (hNums : M.Nums Nums178) (hLogs : M.logs = true) (hVbat : M.vbat = true) (hPorts : M.ports = true) (hStraps : M.straps = true) (hJournal : M.journal = true) (hEdges : M.edges = true) (hFlags : M.flags = true) (hs : s.outside M = r) :
    NextOutside M r (execPdMeasure p fwd ref dt s) := by
  unfold execPdMeasure
  extract_lets +onlyGivenNames -merge -underBinder x0
  have q1 : State.outside M x0 = r := by
    unfold x0
    refine State.advance_outside hClock hVbat ?_
    exact hs
  try clear_value x0
  extract_lets +onlyGivenNames -merge -underBinder x2
  try clear_value x2
  extract_lets +onlyGivenNames -merge -underBinder x3
  try clear_value x3
  extract_lets +onlyGivenNames -merge -underBinder x4
  try clear_value x4
  extract_lets +onlyGivenNames -merge -underBinder x5
  try clear_value x5
  extract_lets +onlyGivenNames -merge -underBinder x6
  try clear_value x6
  extract_lets +onlyGivenNames -merge -underBinder x7
  have q8 : State.outside M x7 = r := by
    unfold x7
    refine State.setPort_outside hPorts ?_
    exact q1
  try clear_value x7
  extract_lets +onlyGivenNames -merge -underBinder x9
  have q10 : State.outside M x9 = r := by
    unfold x9
    refine State.wr_outside (hNums.at Key.fam_portPdRefDbm rfl) ?_
    refine State.wr_outside (hNums.at Key.fam_portPdFwdDbm rfl) ?_
    exact q8
  try clear_value x9
  extract_lets +onlyGivenNames -merge -underBinder x11
  try clear_value x11
  extract_lets +onlyGivenNames -merge -underBinder x12
  try clear_value x12
  extract_lets +onlyGivenNames -merge -underBinder x13
  have q14 : State.outside M x13 = r := by
    unfold x13
    refine State.setPort_outside hPorts ?_
    exact q10
  try clear_value x13
  extract_lets +onlyGivenNames -merge -underBinder x15
  try clear_value x15
  extract_lets +onlyGivenNames -merge -underBinder x16
  try clear_value x16
  extract_lets +onlyGivenNames -merge -underBinder x17
  have q18 : State.outside M x17 = r := by
    unfold x17
    refine State.setPort_outside hPorts ?_
    exact q10
  try clear_value x17
  refine next_outside ?_
  refine ite_outside ?_ ?_
  · exact q1
  · refine ite_outside ?_ ?_
    · refine ite_outside ?_ ?_
      · refine State.antOpenNow_outside hDict (hNums.sub rfl) hLogs hStraps hJournal hEdges hFlags ?_
        exact q14
      · refine State.wr_outside (hNums.at Key.fam_portAntState rfl) ?_
        exact q14
    · refine ite_outside ?_ ?_
      · refine State.antOpenNow_outside hDict (hNums.sub rfl) hLogs hStraps hJournal hEdges hFlags ?_
        exact q18
      · refine ite_outside ?_ ?_
        · refine State.wr_outside (hNums.at Key.fam_portAntState rfl) ?_
          exact q18
        · exact q18

theorem execIslandOff_outside {M : Touch} {r : State} {t : Tile} {dt : Nat} {s : State} (hClock : M.clock = true) (hNums : M.Nums Nums179) (hResults : M.results = true) (hPower : M.power = true) (hVbat : M.vbat = true) (hRxTiles : M.rxTiles = true) (hTxTiles : M.txTiles = true) (hCores : M.cores = true) (hs : s.outside M = r) :
    NextOutside M r (execIslandOff t dt s) := by
  unfold execIslandOff
  extract_lets +onlyGivenNames -merge -underBinder x0
  have q1 : State.outside M x0 = r := by
    unfold x0
    refine State.advance_outside hClock hVbat ?_
    exact hs
  try clear_value x0
  extract_lets +onlyGivenNames -merge -underBinder x2
  try clear_value x2
  refine next_outside ?_
  split
  · refine State.coreIslServe_outside (hNums.sub rfl) hResults hPower hCores ?_
    exact q1
  · refine ite_outside ?_ ?_
    · refine State.islandEnded_outside (hNums.sub rfl) hRxTiles ?_
      refine State.setIsl_outside hPower hRxTiles hTxTiles ?_
      exact q1
    · exact q1
  · refine ite_outside ?_ ?_
    · refine State.islandEnded_outside (hNums.sub rfl) hRxTiles ?_
      refine State.setIsl_outside hPower hRxTiles hTxTiles ?_
      exact q1
    · exact q1

theorem execRetuneStart_outside {M : Touch} {r : State} {p : Fin 4} {s : State} (hPins : M.pins = true) (hDict : M.dict = true) (hNums : M.Nums Nums61) (hResults : M.results = true) (hLogs : M.logs = true) (hPorts : M.ports = true) (hRxTiles : M.rxTiles = true) (hTxTiles : M.txTiles = true) (hStraps : M.straps = true) (hJournal : M.journal = true) (hEdges : M.edges = true) (hFlags : M.flags = true) (hs : s.outside M = r) :
    NextOutside M r (execRetuneStart p s) := by
  unfold execRetuneStart
  extract_lets +onlyGivenNames -merge -underBinder x0
  try clear_value x0
  extract_lets +onlyGivenNames -merge -underBinder x1
  try clear_value x1
  refine next_outside ?_
  refine ite_outside ?_ ?_
  · exact hs
  · refine State.placeAll_outside hPins hDict hNums hResults hLogs hPorts hRxTiles hTxTiles hStraps hJournal hEdges hFlags ?_
    refine State.relock_outside hPins hDict (hNums.sub rfl) hLogs hPorts hRxTiles hStraps hJournal hEdges hFlags ?_
    refine State.takeCentre_outside hPorts hRxTiles ?_
    exact hs

end Sys2Proof.Machine
end

