-- ==== Sys2Proof/Laws/Frame/TxPath.lean ====
section
/-! SUPPORT. What the operations of Machine/TxPath.lean leave alone. -/

namespace Sys2Proof.Machine

theorem State.commitPsdu_outside {M : Touch} {r : State} {s : State} {q : TxReq} {psdu : Bytes} (hPins : M.pins = true) (hDict : M.dict = true) (hNums : M.Nums Nums53) (hResults : M.results = true) (hLogs : M.logs = true) (hPorts : M.ports = true) (hRxTiles : M.rxTiles = true) (hTxTiles : M.txTiles = true) (hRecs : M.recs = true) (hCinch : M.cinch = true) (hStraps : M.straps = true) (hJournal : M.journal = true) (hNodeQueues : M.nodeQueues = true) (hLacing : M.lacing = true) (hEdges : M.edges = true) (hFlags : M.flags = true) (hReports : M.reports = true) (hs : s.outside M = r) :
    (State.commitPsdu s q psdu).outside M = r := by
  unfold State.commitPsdu
  extract_lets +onlyGivenNames -merge -underBinder x0
  try clear_value x0
  refine ite_outside ?_ ?_
  · refine State.txRefuse_outside hDict (hNums.sub rfl) hLogs hRecs hStraps hJournal hNodeQueues hLacing hEdges hFlags hReports ?_
    exact hs
  · split
    · refine State.txRefuse_outside hDict (hNums.sub rfl) hLogs hRecs hStraps hJournal hNodeQueues hLacing hEdges hFlags hReports ?_
      exact hs
    · extract_lets +onlyGivenNames -merge -underBinder x1
      try clear_value x1
      extract_lets +onlyGivenNames -merge -underBinder x2
      try clear_value x2
      extract_lets +onlyGivenNames -merge -underBinder x3
      try clear_value x3
      refine ite_outside ?_ ?_
      · refine State.txRefuse_outside hDict (hNums.sub rfl) hLogs hRecs hStraps hJournal hNodeQueues hLacing hEdges hFlags hReports ?_
        exact hs
      · refine ite_outside ?_ ?_
        · refine State.txRefuse_outside hDict (hNums.sub rfl) hLogs hRecs hStraps hJournal hNodeQueues hLacing hEdges hFlags hReports ?_
          exact hs
        · split
          · refine State.txRefuse_outside hDict (hNums.sub rfl) hLogs hRecs hStraps hJournal hNodeQueues hLacing hEdges hFlags hReports ?_
            exact hs
          · refine ite_outside ?_ ?_
            · refine State.txRefuse_outside hDict (hNums.sub rfl) hLogs hRecs hStraps hJournal hNodeQueues hLacing hEdges hFlags hReports ?_
              exact hs
            · split
              · rename_i t4 t6 e7
                have q5 : State.outside M t4 = r := by
                  refine Eq.trans (congrArg (fun p => State.outside M p.1) e7).symm ?_
                  split
                  · refine fst_outside ?_
                    exact hs
                  · extract_lets +onlyGivenNames -merge -underBinder x8
                    try clear_value x8
                    split
                    · rename_i t9 t11 e12
                      have q10 : State.outside M t9 = r := by
                        refine Eq.trans (congrArg (fun p => State.outside M p.1) e12).symm ?_
                        refine State.grant_outside (hNums.sub rfl) hCinch ?_
                        exact hs
                      refine fst_outside ?_
                      exact q10
                split
                · refine State.txRefuse_outside hDict (hNums.sub rfl) hLogs hRecs hStraps hJournal hNodeQueues hLacing hEdges hFlags hReports ?_
                  exact q5
                · extract_lets +onlyGivenNames -merge -underBinder x13
                  try clear_value x13
                  extract_lets +onlyGivenNames -merge -underBinder x14
                  try clear_value x14
                  extract_lets +onlyGivenNames -merge -underBinder x15
                  try clear_value x15
                  extract_lets +onlyGivenNames -merge -underBinder x16
                  have q17 : State.outside M x16 = r := by
                    unfold x16
                    refine State.setTx_outside hTxTiles ?_
                    exact q5
                  try clear_value x16
                  extract_lets +onlyGivenNames -merge -underBinder x18
                  have q19 : State.outside M x18 = r := by
                    unfold x18
                    refine State.wr_outside (hNums.at Key.fam_txcPlaced rfl) ?_
                    refine State.wr_outside (hNums.at Key.fam_txcState rfl) ?_
                    exact q17
                  try clear_value x18
                  refine State.portRun_outside hPins hDict (hNums.sub rfl) hResults hLogs hPorts hRxTiles hStraps hJournal hEdges hFlags ?_
                  exact q19

theorem State.commitPsdu_keeps {s : State} {q : TxReq} {psdu : Bytes} : Kept115 s (State.commitPsdu s q psdu) :=
  .of (State.commitPsdu_outside rfl rfl rfl rfl rfl rfl rfl rfl rfl rfl rfl rfl rfl rfl rfl rfl rfl rfl)

theorem State.commitPsdu_rd {s : State} {q : TxReq} {psdu : Bytes} {kk : Nat} (hkey : Nums53.contains (Key.fam kk) = false) : (State.commitPsdu s q psdu).rd kk = s.rd kk :=
  State.rd_of_outside (M := .but Nums53) (State.commitPsdu_outside rfl rfl .self rfl rfl rfl rfl rfl rfl rfl rfl rfl rfl rfl rfl rfl rfl rfl) rfl hkey

theorem State.notCommitted_outside {M : Touch} {r : State} {s : State} {q : TxReq} (hNums : M.Nums Nums55) (hRecs : M.recs = true) (hLacing : M.lacing = true) (hReports : M.reports = true) (hs : s.outside M = r) :
    (State.notCommitted s q).outside M = r := by
  unfold State.notCommitted
  extract_lets +onlyGivenNames -merge -underBinder x0
  have q1 : State.outside M x0 = r := by
    unfold x0
    split
    · refine State.release_outside (hNums.sub rfl) ?_
      exact hs
    · exact hs
  try clear_value x0
  split
  · refine State.cellMissed_outside (hNums.sub rfl) hRecs ?_
    exact q1
  · refine State.reportFinal_outside hReports ?_
    exact q1
  · refine State.laceFailed_outside hLacing ?_
    exact q1
  · exact q1
  · exact q1
  · exact q1

theorem State.notCommitted_keeps {s : State} {q : TxReq} : Kept116 s (State.notCommitted s q) :=
  .of (State.notCommitted_outside rfl rfl rfl rfl rfl)

theorem State.notCommitted_rd {s : State} {q : TxReq} {kk : Nat} (hkey : Nums55.contains (Key.fam kk) = false) : (State.notCommitted s q).rd kk = s.rd kk :=
  State.rd_of_outside (M := .but Nums55) (State.notCommitted_outside .self rfl rfl rfl rfl) rfl hkey

theorem State.commit_outside {M : Touch} {r : State} {s : State} {q : TxReq} (hPins : M.pins = true) (hDict : M.dict = true) (hNums : M.Nums Nums53) (hResults : M.results = true) (hLogs : M.logs = true) (hVbat : M.vbat = true) (hPorts : M.ports = true) (hRxTiles : M.rxTiles = true) (hTxTiles : M.txTiles = true) (hRecs : M.recs = true) (hCinch : M.cinch = true) (hKeeper : M.keeper = true) (hStraps : M.straps = true) (hJournal : M.journal = true) (hNodeQueues : M.nodeQueues = true) (hLacing : M.lacing = true) (hEdges : M.edges = true) (hFlags : M.flags = true) (hReports : M.reports = true) (hs : s.outside M = r) :
    (State.commit s q).outside M = r := by
  unfold State.commit
  refine ite_outside ?_ ?_
  · refine State.notCommitted_outside (hNums.sub rfl) hRecs hLacing hReports ?_
    exact hs
  · split
    · rename_i t0 t2 e3
      have q1 : State.outside M t0 = r := by
        refine Eq.trans (congrArg (fun p => State.outside M p.1) e3).symm ?_
        refine State.secure_outside hDict (hNums.sub rfl) hLogs hVbat hRecs hKeeper hStraps hJournal hEdges hFlags ?_
        exact hs
      split
      · refine State.commitPsdu_outside hPins hDict hNums hResults hLogs hPorts hRxTiles hTxTiles hRecs hCinch hStraps hJournal hNodeQueues hLacing hEdges hFlags hReports ?_
        exact q1
      · extract_lets +onlyGivenNames -merge -underBinder x4
        have q5 : State.outside M x4 = r := by
          unfold x4
          split
          · refine State.release_outside (hNums.sub rfl) ?_
            exact q1
          · exact q1
        try clear_value x4
        split
        · refine ite_outside ?_ ?_
          · split
            · extract_lets +onlyGivenNames -merge -underBinder x6
              have q7 : State.outside M x6 = r := by
                unfold x6
                refine State.undelivered_outside hDict (hNums.sub rfl) hLogs hStraps hJournal hEdges hFlags hReports ?_
                refine State.nodePop_outside hNodeQueues ?_
                exact q5
              try clear_value x6
              refine ite_outside ?_ ?_
              · refine State.desync_outside hDict (hNums.sub rfl) hLogs hRecs hStraps hJournal hEdges hFlags ?_
                exact q7
              · exact q7
            · exact q5
          · refine State.attemptFailed_outside hDict (hNums.sub rfl) hLogs hRecs hStraps hJournal hNodeQueues hEdges hFlags hReports ?_
            exact q5
        · refine State.reportFinal_outside hReports ?_
          exact q5
        · refine State.laceFailed_outside hLacing ?_
          exact q5
        · exact q5
        · exact q5
        · exact q5

theorem State.commit_keeps {s : State} {q : TxReq} : Kept117 s (State.commit s q) :=
  .of (State.commit_outside rfl rfl rfl rfl rfl rfl rfl rfl rfl rfl rfl rfl rfl rfl rfl rfl rfl rfl rfl rfl)

theorem State.commit_rd {s : State} {q : TxReq} {kk : Nat} (hkey : Nums53.contains (Key.fam kk) = false) : (State.commit s q).rd kk = s.rd kk :=
  State.rd_of_outside (M := .but Nums53) (State.commit_outside rfl rfl .self rfl rfl rfl rfl rfl rfl rfl rfl rfl rfl rfl rfl rfl rfl rfl rfl rfl) rfl hkey

theorem State.txEnd_outside {M : Touch} {r : State} {s : State} {n : Nat} {code : Nat} (hOut : M.out = true) (hPins : M.pins = true) (hDict : M.dict = true) (hNums : M.Nums Nums149) (hResults : M.results = true) (hLogs : M.logs = true) (hRadio : M.radio = true) (hPorts : M.ports = true) (hRxTiles : M.rxTiles = true) (hTxTiles : M.txTiles = true) (hRecs : M.recs = true) (hStraps : M.straps = true) (hJournal : M.journal = true) (hNodeQueues : M.nodeQueues = true) (hLacing : M.lacing = true) (hEdges : M.edges = true) (hFlags : M.flags = true) (hReports : M.reports = true) (hs : s.outside M = r) :
    (State.txEnd s n code).outside M = r := by
  unfold State.txEnd
  split
  · exact hs
  · refine State.portRun_outside hPins hDict (hNums.sub rfl) hResults hLogs hPorts hRxTiles hStraps hJournal hEdges hFlags ?_
    refine State.txFinish_outside hOut hDict (hNums.sub rfl) hLogs hRadio hPorts hTxTiles hRecs hStraps hJournal hNodeQueues hLacing hEdges hFlags hReports ?_
    exact hs

theorem State.txEnd_keeps {s : State} {n : Nat} {code : Nat} : Kept107 s (State.txEnd s n code) :=
  .of (State.txEnd_outside rfl rfl rfl rfl rfl rfl rfl rfl rfl rfl rfl rfl rfl rfl rfl rfl rfl rfl rfl)

theorem State.txEnd_rd {s : State} {n : Nat} {code : Nat} {kk : Nat} (hkey : Nums149.contains (Key.fam kk) = false) : (State.txEnd s n code).rd kk = s.rd kk :=
  State.rd_of_outside (M := .but Nums149) (State.txEnd_outside rfl rfl rfl .self rfl rfl rfl rfl rfl rfl rfl rfl rfl rfl rfl rfl rfl rfl rfl) rfl hkey

theorem execTxWindowEnd_outside {M : Touch} {r : State} {n : Fin 16} {dt : Nat} {s : State} (hOut : M.out = true) (hPins : M.pins = true) (hClock : M.clock = true) (hDict : M.dict = true) (hNums : M.Nums Nums149) (hResults : M.results = true) (hLogs : M.logs = true) (hVbat : M.vbat = true) (hRadio : M.radio = true) (hPorts : M.ports = true) (hRxTiles : M.rxTiles = true) (hTxTiles : M.txTiles = true) (hRecs : M.recs = true) (hStraps : M.straps = true) (hJournal : M.journal = true) (hNodeQueues : M.nodeQueues = true) (hLacing : M.lacing = true) (hEdges : M.edges = true) (hFlags : M.flags = true) (hReports : M.reports = true) (hs : s.outside M = r) :
    NextOutside M r (execTxWindowEnd n dt s) := by
  unfold execTxWindowEnd
  extract_lets +onlyGivenNames -merge -underBinder x0
  have q1 : State.outside M x0 = r := by
    unfold x0
    refine State.advance_outside hClock hVbat ?_
    exact hs
  try clear_value x0
  extract_lets +onlyGivenNames -merge -underBinder x2
  try clear_value x2
  refine next_outside ?_
  split
  · exact q1
  · refine ite_outside ?_ ?_
    · exact q1
    · refine ite_outside ?_ ?_
      · refine State.txEnd_outside hOut hPins hDict hNums hResults hLogs hRadio hPorts hRxTiles hTxTiles hRecs hStraps hJournal hNodeQueues hLacing hEdges hFlags hReports ?_
        exact q1
      · refine State.txEnd_outside hOut hPins hDict hNums hResults hLogs hRadio hPorts hRxTiles hTxTiles hRecs hStraps hJournal hNodeQueues hLacing hEdges hFlags hReports ?_
        exact q1

theorem execLbtListenEnd_outside {M : Touch} {r : State} {n : Fin 16} {blocks : List Int} {dt : Nat} {s : State} (hOut : M.out = true) (hPins : M.pins = true) (hClock : M.clock = true) (hDict : M.dict = true) (hNums : M.Nums Nums149) (hResults : M.results = true) (hLogs : M.logs = true) (hVbat : M.vbat = true) (hRadio : M.radio = true) (hPorts : M.ports = true) (hRxTiles : M.rxTiles = true) (hTxTiles : M.txTiles = true) (hRecs : M.recs = true) (hStraps : M.straps = true) (hJournal : M.journal = true) (hNodeQueues : M.nodeQueues = true) (hLacing : M.lacing = true) (hEdges : M.edges = true) (hFlags : M.flags = true) (hReports : M.reports = true) (hs : s.outside M = r) :
    NextOutside M r (execLbtListenEnd n blocks dt s) := by
  unfold execLbtListenEnd
  extract_lets +onlyGivenNames -merge -underBinder x0
  have q1 : State.outside M x0 = r := by
    unfold x0
    refine State.advance_outside hClock hVbat ?_
    exact hs
  try clear_value x0
  extract_lets +onlyGivenNames -merge -underBinder x2
  try clear_value x2
  refine next_outside ?_
  split
  · exact q1
  · extract_lets +onlyGivenNames -merge -underBinder x3
    try clear_value x3
    extract_lets +onlyGivenNames -merge -underBinder x4
    try clear_value x4
    refine ite_outside ?_ ?_
    · exact q1
    · refine ite_outside ?_ ?_
      · refine State.txEnd_outside hOut hPins hDict hNums hResults hLogs hRadio hPorts hRxTiles hTxTiles hRecs hStraps hJournal hNodeQueues hLacing hEdges hFlags hReports ?_
        exact q1
      · refine ite_outside ?_ ?_
        · exact q1
        · refine ite_outside ?_ ?_
          · refine State.txEnd_outside hOut hPins hDict hNums hResults hLogs hRadio hPorts hRxTiles hTxTiles hRecs hStraps hJournal hNodeQueues hLacing hEdges hFlags hReports ?_
            exact q1
          · refine State.portRun_outside hPins hDict (hNums.sub rfl) hResults hLogs hPorts hRxTiles hStraps hJournal hEdges hFlags ?_
            refine State.setTx_outside hTxTiles ?_
            refine State.wr_outside (hNums.at Key.fam_txcState rfl) ?_
            exact q1

theorem execLbtListenDue_outside {M : Touch} {r : State} {n : Fin 16} {dt : Nat} {s : State} (hOut : M.out = true) (hPins : M.pins = true) (hClock : M.clock = true) (hDict : M.dict = true) (hNums : M.Nums Nums149) (hResults : M.results = true) (hLogs : M.logs = true) (hVbat : M.vbat = true) (hRadio : M.radio = true) (hPorts : M.ports = true) (hRxTiles : M.rxTiles = true) (hTxTiles : M.txTiles = true) (hRecs : M.recs = true) (hStraps : M.straps = true) (hJournal : M.journal = true) (hNodeQueues : M.nodeQueues = true) (hLacing : M.lacing = true) (hEdges : M.edges = true) (hFlags : M.flags = true) (hReports : M.reports = true) (hs : s.outside M = r) :
    NextOutside M r (execLbtListenDue n dt s) := by
  unfold execLbtListenDue
  extract_lets +onlyGivenNames -merge -underBinder x0
  have q1 : State.outside M x0 = r := by
    unfold x0
    refine State.advance_outside hClock hVbat ?_
    exact hs
  try clear_value x0
  extract_lets +onlyGivenNames -merge -underBinder x2
  try clear_value x2
  refine next_outside ?_
  split
  · exact q1
  · refine ite_outside ?_ ?_
    · exact q1
    · refine ite_outside ?_ ?_
      · refine State.txEnd_outside hOut hPins hDict hNums hResults hLogs hRadio hPorts hRxTiles hTxTiles hRecs hStraps hJournal hNodeQueues hLacing hEdges hFlags hReports ?_
        exact q1
      · refine ite_outside ?_ ?_
        · refine State.wr_outside (hNums.at Key.fam_txcState rfl) ?_
          exact q1
        · refine State.txEnd_outside hOut hPins hDict hNums hResults hLogs hRadio hPorts hRxTiles hTxTiles hRecs hStraps hJournal hNodeQueues hLacing hEdges hFlags hReports ?_
          exact q1

theorem execRampDue_outside {M : Touch} {r : State} {n : Fin 16} {dt : Nat} {s : State} (hOut : M.out = true) (hPins : M.pins = true) (hClock : M.clock = true) (hDict : M.dict = true) (hNums : M.Nums Nums149) (hResults : M.results = true) (hLogs : M.logs = true) (hVbat : M.vbat = true) (hRadio : M.radio = true) (hPorts : M.ports = true) (hRxTiles : M.rxTiles = true) (hTxTiles : M.txTiles = true) (hRecs : M.recs = true) (hStraps : M.straps = true) (hJournal : M.journal = true) (hNodeQueues : M.nodeQueues = true) (hLacing : M.lacing = true) (hEdges : M.edges = true) (hFlags : M.flags = true) (hReports : M.reports = true) (hs : s.outside M = r) :
    NextOutside M r (execRampDue n dt s) := by
  unfold execRampDue
  extract_lets +onlyGivenNames -merge -underBinder x0
  have q1 : State.outside M x0 = r := by
    unfold x0
    refine State.advance_outside hClock hVbat ?_
    exact hs
  try clear_value x0
  extract_lets +onlyGivenNames -merge -underBinder x2
  try clear_value x2
  refine next_outside ?_
  split
  · exact q1
  · extract_lets +onlyGivenNames -merge -underBinder x3
    try clear_value x3
    refine ite_outside ?_ ?_
    · exact q1
    · refine ite_outside ?_ ?_
      · refine State.txEnd_outside hOut hPins hDict hNums hResults hLogs hRadio hPorts hRxTiles hTxTiles hRecs hStraps hJournal hNodeQueues hLacing hEdges hFlags hReports ?_
        exact q1
      · refine ite_outside ?_ ?_
        · refine State.txEnd_outside hOut hPins hDict hNums hResults hLogs hRadio hPorts hRxTiles hTxTiles hRecs hStraps hJournal hNodeQueues hLacing hEdges hFlags hReports ?_
          exact q1
        · refine ite_outside ?_ ?_
          · refine State.txEnd_outside hOut hPins hDict hNums hResults hLogs hRadio hPorts hRxTiles hTxTiles hRecs hStraps hJournal hNodeQueues hLacing hEdges hFlags hReports ?_
            exact q1
          · refine ite_outside ?_ ?_
            · exact q1
            · refine ite_outside ?_ ?_
              · refine ite_outside ?_ ?_
                · refine State.setTx_outside hTxTiles ?_
                  exact q1
                · exact q1
              · split
                · refine State.txEnd_outside hOut hPins hDict hNums hResults hLogs hRadio hPorts hRxTiles hTxTiles hRecs hStraps hJournal hNodeQueues hLacing hEdges hFlags hReports ?_
                  exact q1
                · extract_lets +onlyGivenNames -merge -underBinder x4
                  try clear_value x4
                  refine State.burstMark_outside hPorts ?_
                  refine State.airOut_outside hOut ?_
                  refine State.setTx_outside hTxTiles ?_
                  refine State.wr_outside (hNums.at Key.fam_txcState rfl) ?_
                  exact q1

theorem execRampUpEnd_outside {M : Touch} {r : State} {n : Fin 16} {dt : Nat} {s : State} (hClock : M.clock = true) (hNums : M.Nums Nums10) (hVbat : M.vbat = true) (hPorts : M.ports = true) (hRecs : M.recs = true) (hs : s.outside M = r) :
    NextOutside M r (execRampUpEnd n dt s) := by
  unfold execRampUpEnd
  extract_lets +onlyGivenNames -merge -underBinder x0
  have q1 : State.outside M x0 = r := by
    unfold x0
    refine State.advance_outside hClock hVbat ?_
    exact hs
  try clear_value x0
  extract_lets +onlyGivenNames -merge -underBinder x2
  try clear_value x2
  refine next_outside ?_
  split
  · exact q1
  · split
    · exact q1
    · extract_lets +onlyGivenNames -merge -underBinder x3
      have q4 : State.outside M x3 = r := by
        unfold x3
        refine State.burstMark_outside hPorts ?_
        refine State.wr_outside (hNums.at Key.fam_txcState rfl) ?_
        exact q1
      try clear_value x3
      refine ite_outside ?_ ?_
      · exact q1
      · split
        · refine ite_outside ?_ ?_
          · refine State.modHw_outside hRecs ?_
            exact q4
          · exact q4
        · exact q4
        · exact q4
        · exact q4
        · exact q4
        · exact q4

theorem execLastChip_outside {M : Touch} {r : State} {n : Fin 16} {dt : Nat} {s : State} (hClock : M.clock = true) (hNums : M.Nums Nums10) (hVbat : M.vbat = true) (hPorts : M.ports = true) (hTxTiles : M.txTiles = true) (hs : s.outside M = r) :
    NextOutside M r (execLastChip n dt s) := by
  unfold execLastChip
  extract_lets +onlyGivenNames -merge -underBinder x0
  have q1 : State.outside M x0 = r := by
    unfold x0
    refine State.advance_outside hClock hVbat ?_
    exact hs
  try clear_value x0
  extract_lets +onlyGivenNames -merge -underBinder x2
  try clear_value x2
  refine next_outside ?_
  split
  · exact q1
  · split
    · exact q1
    · extract_lets +onlyGivenNames -merge -underBinder x3
      try clear_value x3
      refine ite_outside ?_ ?_
      · exact q1
      · refine State.burstMark_outside hPorts ?_
        refine State.setTx_outside hTxTiles ?_
        refine State.wr_outside (hNums.at Key.fam_txcState rfl) ?_
        exact q1

theorem execDutyBucketAdvance_outside {M : Touch} {r : State} {dt : Nat} {s : State} (hClock : M.clock = true) (hVbat : M.vbat = true) (hRadio : M.radio = true) (hs : s.outside M = r) :
    NextOutside M r (execDutyBucketAdvance dt s) := by
  unfold execDutyBucketAdvance
  extract_lets +onlyGivenNames -merge -underBinder x0
  have q1 : State.outside M x0 = r := by
    unfold x0
    refine State.advance_outside hClock hVbat ?_
    exact hs
  try clear_value x0
  extract_lets +onlyGivenNames -merge -underBinder x2
  try clear_value x2
  extract_lets +onlyGivenNames -merge -underBinder x3
  try clear_value x3
  extract_lets +onlyGivenNames -merge -underBinder x4
  unfold x4
  clear x4
  refine next_outside ?_
  refine ite_outside ?_ ?_
  · refine Eq.trans (State.outside_radio_radio (h0 := hRadio) ..) ?_
    exact q1
  · exact q1

theorem execRampDownEnd_outside {M : Touch} {r : State} {n : Fin 16} {dt : Nat} {s : State} (hOut : M.out = true) (hPins : M.pins = true) (hClock : M.clock = true) (hDict : M.dict = true) (hNums : M.Nums Nums149) (hResults : M.results = true) (hLogs : M.logs = true) (hVbat : M.vbat = true) (hRadio : M.radio = true) (hPorts : M.ports = true) (hRxTiles : M.rxTiles = true) (hTxTiles : M.txTiles = true) (hRecs : M.recs = true) (hStraps : M.straps = true) (hJournal : M.journal = true) (hNodeQueues : M.nodeQueues = true) (hLacing : M.lacing = true) (hEdges : M.edges = true) (hFlags : M.flags = true) (hReports : M.reports = true) (hs : s.outside M = r) :
    NextOutside M r (execRampDownEnd n dt s) := by
  unfold execRampDownEnd
  extract_lets +onlyGivenNames -merge -underBinder x0
  have q1 : State.outside M x0 = r := by
    unfold x0
    refine State.advance_outside hClock hVbat ?_
    exact hs
  try clear_value x0
  extract_lets +onlyGivenNames -merge -underBinder x2
  try clear_value x2
  refine next_outside ?_
  split
  · exact q1
  · split
    · exact q1
    · split
      · refine ite_outside ?_ ?_
        · refine State.txEnd_outside hOut hPins hDict hNums hResults hLogs hRadio hPorts hRxTiles hTxTiles hRecs hStraps hJournal hNodeQueues hLacing hEdges hFlags hReports ?_
          exact q1
        · exact q1
      · refine ite_outside ?_ ?_
        · refine State.txEnd_outside hOut hPins hDict hNums hResults hLogs hRadio hPorts hRxTiles hTxTiles hRecs hStraps hJournal hNodeQueues hLacing hEdges hFlags hReports ?_
          exact q1
        · exact q1

end Sys2Proof.Machine
end

