-- ==== Sys2Proof/Laws/Frame/Lacing.lean ====
section
/-! SUPPORT. What the operations of Machine/Lacing.lean leave alone. -/

namespace Sys2Proof.Machine

theorem State.laceSend_outside {M : Touch} {r : State} {s : State} {k : Nat} {a0 : Nat} {payload : Bytes} (hArrivals : M.arrivals = true) (hs : s.outside M = r) :
    (State.laceSend s k a0 payload).outside M = r := by
  unfold State.laceSend
  extract_lets +onlyGivenNames -merge -underBinder x1
  unfold x1
  clear x1
  refine Eq.trans (State.outside_har_arrivals (h0 := hArrivals) ..) ?_
  exact hs

theorem State.laceSend_keeps {s : State} {k : Nat} {a0 : Nat} {payload : Bytes} : Kept119 s (State.laceSend s k a0 payload) :=
  .of (State.laceSend_outside rfl rfl)

theorem State.announce_outside {M : Touch} {r : State} {s : State} {k : Nat} {a0 : Nat} (hArrivals : M.arrivals = true) (hLacing : M.lacing = true) (hs : s.outside M = r) :
    (State.announce s k a0).outside M = r := by
  unfold State.announce
  extract_lets +onlyGivenNames -merge -underBinder x1
  try clear_value x1
  split
  · exact hs
  · extract_lets +onlyGivenNames -merge -underBinder x2
    have q3 : State.outside M x2 = r := by
      unfold x2
      refine State.setCamp_outside hLacing ?_
      exact hs
    try clear_value x2
    refine State.laceSend_outside hArrivals ?_
    exact q3

theorem State.announce_keeps {s : State} {k : Nat} {a0 : Nat} : Kept127 s (State.announce s k a0) :=
  .of (State.announce_outside rfl rfl rfl)

theorem State.campBad_outside {M : Touch} {r : State} {s : State} {k : Nat} (hResults : M.results = true) (hs : s.outside M = r) :
    (State.campBad s k).outside M = r := by
  unfold State.campBad
  refine State.resEnd_outside hResults ?_
  exact hs

theorem State.campBad_keeps {s : State} {k : Nat} : Kept11 s (State.campBad s k) :=
  .of (State.campBad_outside rfl rfl)

theorem State.campStop_outside {M : Touch} {r : State} {s : State} {k : Nat} (hDict : M.dict = true) (hNums : M.Nums Nums6) (hResults : M.results = true) (hLogs : M.logs = true) (hStraps : M.straps = true) (hJournal : M.journal = true) (hArrivals : M.arrivals = true) (hEdges : M.edges = true) (hFlags : M.flags = true) (hs : s.outside M = r) :
    (State.campStop s k).outside M = r := by
  unfold State.campStop
  extract_lets +onlyGivenNames -merge -underBinder x0
  try clear_value x0
  extract_lets +onlyGivenNames -merge -underBinder x1
  have q2 : State.outside M x1 = r := by
    unfold x1
    refine State.each_outside ?_ ?_
    · intro t3 q4 z5
      refine State.laceSend_outside hArrivals ?_
      exact q4
    · exact hs
  try clear_value x1
  refine ite_outside ?_ ?_
  · refine State.resEnd_outside hResults ?_
    refine State.laceFail_outside hDict hNums hLogs hStraps hJournal hEdges hFlags ?_
    exact q2
  · refine State.campBad_outside hResults ?_
    exact hs

theorem State.campStop_keeps {s : State} {k : Nat} : Kept128 s (State.campStop s k) :=
  .of (State.campStop_outside rfl rfl rfl rfl rfl rfl rfl rfl rfl rfl)

theorem State.campStop_rd {s : State} {k : Nat} {kk : Nat} (hkey : Nums6.contains (Key.fam kk) = false) : (State.campStop s k).rd kk = s.rd kk :=
  State.rd_of_outside (M := .but Nums6) (State.campStop_outside rfl .self rfl rfl rfl rfl rfl rfl rfl rfl) rfl hkey

theorem State.campResume_outside {M : Touch} {r : State} {s : State} {k : Nat} (hDict : M.dict = true) (hNums : M.Nums Nums7) (hResults : M.results = true) (hLogs : M.logs = true) (hStraps : M.straps = true) (hJournal : M.journal = true) (hLacing : M.lacing = true) (hEdges : M.edges = true) (hFlags : M.flags = true) (hs : s.outside M = r) :
    (State.campResume s k).outside M = r := by
  unfold State.campResume
  extract_lets +onlyGivenNames -merge -underBinder x0
  try clear_value x0
  extract_lets +onlyGivenNames -merge -underBinder x1
  have q2 : State.outside M x1 = r := by
    unfold x1
    refine State.setCamp_outside hLacing ?_
    exact hs
  try clear_value x1
  refine ite_outside ?_ ?_
  · refine State.laceCheck_outside hDict hNums hLogs hStraps hJournal hEdges hFlags ?_
    refine State.resEnd_outside hResults ?_
    refine State.setCampSt_outside (hNums.sub rfl) hEdges ?_
    exact q2
  · refine State.campBad_outside hResults ?_
    exact hs

theorem State.campResume_keeps {s : State} {k : Nat} : Kept129 s (State.campResume s k) :=
  .of (State.campResume_outside rfl rfl rfl rfl rfl rfl rfl rfl rfl rfl)

theorem State.campResume_rd {s : State} {k : Nat} {kk : Nat} (hkey : Nums7.contains (Key.fam kk) = false) : (State.campResume s k).rd kk = s.rd kk :=
  State.rd_of_outside (M := .but Nums7) (State.campResume_outside rfl .self rfl rfl rfl rfl rfl rfl rfl rfl) rfl hkey

theorem State.campStart_outside {M : Touch} {r : State} {s : State} {k : Nat} (hNums : M.Nums Nums81) (hResults : M.results = true) (hLacing : M.lacing = true) (hEdges : M.edges = true) (hs : s.outside M = r) :
    (State.campStart s k).outside M = r := by
  unfold State.campStart
  extract_lets +onlyGivenNames -merge -underBinder x0
  try clear_value x0
  extract_lets +onlyGivenNames -merge -underBinder x1
  have q2 : State.outside M x1 = r := by
    unfold x1
    refine State.resBegin_outside hResults ?_
    exact hs
  try clear_value x1
  extract_lets +onlyGivenNames -merge -underBinder x3
  have q4 : State.outside M x3 = r := by
    unfold x3
    refine State.each_outside ?_ ?_
    · intro t5 q6 z7
      refine State.release_outside (hNums.sub rfl) ?_
      exact q6
    · exact q2
  try clear_value x3
  extract_lets +onlyGivenNames -merge -underBinder x8
  try clear_value x8
  extract_lets +onlyGivenNames -merge -underBinder x9
  have q10 : State.outside M x9 = r := by
    unfold x9
    refine State.setCamp_outside hLacing ?_
    exact q4
  try clear_value x9
  refine ite_outside ?_ ?_
  · refine State.setCampSt_outside (hNums.sub rfl) hEdges ?_
    refine State.laceCount_outside (hNums.sub rfl) ?_
    exact q10
  · refine State.campBad_outside hResults ?_
    exact hs

theorem State.campStart_keeps {s : State} {k : Nat} : Kept130 s (State.campStart s k) :=
  .of (State.campStart_outside rfl rfl rfl rfl rfl)

theorem State.campStart_rd {s : State} {k : Nat} {kk : Nat} (hkey : Nums81.contains (Key.fam kk) = false) : (State.campStart s k).rd kk = s.rd kk :=
  State.rd_of_outside (M := .but Nums81) (State.campStart_outside .self rfl rfl rfl rfl) rfl hkey

theorem State.campPause_outside {M : Touch} {r : State} {s : State} {k : Nat} (hNums : M.Nums Nums5) (hResults : M.results = true) (hLacing : M.lacing = true) (hEdges : M.edges = true) (hs : s.outside M = r) :
    (State.campPause s k).outside M = r := by
  unfold State.campPause
  extract_lets +onlyGivenNames -merge -underBinder x0
  try clear_value x0
  refine ite_outside ?_ ?_
  · refine State.resEnd_outside hResults ?_
    refine State.setCampSt_outside hNums hEdges ?_
    refine State.setCamp_outside hLacing ?_
    exact hs
  · refine State.campBad_outside hResults ?_
    exact hs

theorem State.campPause_keeps {s : State} {k : Nat} : Kept130 s (State.campPause s k) :=
  .of (State.campPause_outside rfl rfl rfl rfl rfl)

theorem State.campPause_rd {s : State} {k : Nat} {kk : Nat} (hkey : Nums5.contains (Key.fam kk) = false) : (State.campPause s k).rd kk = s.rd kk :=
  State.rd_of_outside (M := .but Nums5) (State.campPause_outside .self rfl rfl rfl rfl) rfl hkey

theorem State.campCmd_outside {M : Touch} {r : State} {s : State} {k : Nat} {v : Nat} (hDict : M.dict = true) (hNums : M.Nums Nums82) (hResults : M.results = true) (hLogs : M.logs = true) (hStraps : M.straps = true) (hJournal : M.journal = true) (hArrivals : M.arrivals = true) (hLacing : M.lacing = true) (hEdges : M.edges = true) (hFlags : M.flags = true) (hs : s.outside M = r) :
    (State.campCmd s k v).outside M = r := by
  unfold State.campCmd
  refine ite_outside ?_ ?_
  · exact hs
  · refine ite_outside ?_ ?_
    · refine State.campStart_outside (hNums.sub rfl) hResults hLacing hEdges ?_
      exact hs
    · refine ite_outside ?_ ?_
      · refine State.campPause_outside (hNums.sub rfl) hResults hLacing hEdges ?_
        exact hs
      · refine ite_outside ?_ ?_
        · refine State.campResume_outside hDict (hNums.sub rfl) hResults hLogs hStraps hJournal hLacing hEdges hFlags ?_
          exact hs
        · refine ite_outside ?_ ?_
          · refine State.campStop_outside hDict (hNums.sub rfl) hResults hLogs hStraps hJournal hArrivals hEdges hFlags ?_
            exact hs
          · exact hs

theorem State.campCmd_keeps {s : State} {k : Nat} {v : Nat} : Kept131 s (State.campCmd s k v) :=
  .of (State.campCmd_outside rfl rfl rfl rfl rfl rfl rfl rfl rfl rfl rfl)

theorem State.campCmd_rd {s : State} {k : Nat} {v : Nat} {kk : Nat} (hkey : Nums82.contains (Key.fam kk) = false) : (State.campCmd s k v).rd kk = s.rd kk :=
  State.rd_of_outside (M := .but Nums82) (State.campCmd_outside rfl .self rfl rfl rfl rfl rfl rfl rfl rfl rfl) rfl hkey

theorem State.burstDrop_outside {M : Touch} {r : State} {s : State} {k : Nat} {f : LaceFrame} (hNums : M.Nums Nums27) (hLacing : M.lacing = true) (hs : s.outside M = r) :
    (State.burstDrop s k f).outside M = r := by
  unfold State.burstDrop
  extract_lets +onlyGivenNames -merge -underBinder x0
  try clear_value x0
  extract_lets +onlyGivenNames -merge -underBinder x1
  have q2 : State.outside M x1 = r := by
    unfold x1
    refine State.setCamp_outside hLacing ?_
    exact hs
  try clear_value x1
  refine State.laceUnsent_outside hLacing ?_
  refine State.release_outside hNums ?_
  exact q2

theorem State.burstDrop_keeps {s : State} {k : Nat} {f : LaceFrame} : Kept132 s (State.burstDrop s k f) :=
  .of (State.burstDrop_outside rfl rfl rfl)

theorem State.burstDrop_rd {s : State} {k : Nat} {f : LaceFrame} {kk : Nat} (hkey : Nums27.contains (Key.fam kk) = false) : (State.burstDrop s k f).rd kk = s.rd kk :=
  State.rd_of_outside (M := .but Nums27) (State.burstDrop_outside .self rfl rfl) rfl hkey

theorem State.burstCommit_outside {M : Touch} {r : State} {s : State} {k : Nat} {f : LaceFrame} (hPins : M.pins = true) (hDict : M.dict = true) (hNums : M.Nums Nums53) (hResults : M.results = true) (hLogs : M.logs = true) (hVbat : M.vbat = true) (hPorts : M.ports = true) (hRxTiles : M.rxTiles = true) (hTxTiles : M.txTiles = true) (hRecs : M.recs = true) (hCinch : M.cinch = true) (hKeeper : M.keeper = true) (hStraps : M.straps = true) (hJournal : M.journal = true) (hNodeQueues : M.nodeQueues = true) (hLacing : M.lacing = true) (hEdges : M.edges = true) (hFlags : M.flags = true) (hReports : M.reports = true) (hs : s.outside M = r) :
    (State.burstCommit s k f).outside M = r := by
  unfold State.burstCommit
  extract_lets +onlyGivenNames -merge -underBinder x0
  try clear_value x0
  extract_lets +onlyGivenNames -merge -underBinder x1
  have q2 : State.outside M x1 = r := by
    unfold x1
    refine State.setCamp_outside hLacing ?_
    exact hs
  try clear_value x1
  refine ite_outside ?_ ?_
  · exact hs
  · refine ite_outside ?_ ?_
    · refine State.burstDrop_outside (hNums.sub rfl) hLacing ?_
      exact q2
    · refine State.commit_outside hPins hDict hNums hResults hLogs hVbat hPorts hRxTiles hTxTiles hRecs hCinch hKeeper hStraps hJournal hNodeQueues hLacing hEdges hFlags hReports ?_
      exact q2

theorem State.burstCommit_keeps {s : State} {k : Nat} {f : LaceFrame} : Kept117 s (State.burstCommit s k f) :=
  .of (State.burstCommit_outside rfl rfl rfl rfl rfl rfl rfl rfl rfl rfl rfl rfl rfl rfl rfl rfl rfl rfl rfl rfl)

theorem State.burstCommit_rd {s : State} {k : Nat} {f : LaceFrame} {kk : Nat} (hkey : Nums53.contains (Key.fam kk) = false) : (State.burstCommit s k f).rd kk = s.rd kk :=
  State.rd_of_outside (M := .but Nums53) (State.burstCommit_outside rfl rfl .self rfl rfl rfl rfl rfl rfl rfl rfl rfl rfl rfl rfl rfl rfl rfl rfl rfl) rfl hkey

theorem State.burstHeld_outside {M : Touch} {r : State} {s : State} {k : Nat} {mode : Nat} {l : List (Nat × Nat)} (hLacing : M.lacing = true) (hs : s.outside M = r) :
    (State.burstHeld s k mode l).outside M = r := by
  unfold State.burstHeld
  refine State.modStream_outside hLacing ?_
  exact hs

theorem State.burstHeld_keeps {s : State} {k : Nat} {mode : Nat} {l : List (Nat × Nat)} : Kept81 s (State.burstHeld s k mode l) :=
  .of (State.burstHeld_outside rfl rfl)

theorem State.burstStream_outside {M : Touch} {r : State} {s : State} {k : Nat} {image : Bytes} {bad : List Nat} {t : LaceStream} (hDraws : M.draws = true) (hDict : M.dict = true) (hNums : M.Nums Nums87) (hLogs : M.logs = true) (hCinch : M.cinch = true) (hStraps : M.straps = true) (hJournal : M.journal = true) (hLacing : M.lacing = true) (hEdges : M.edges = true) (hFlags : M.flags = true) (hs : s.outside M = r) :
    (State.burstStream s k image bad t).outside M = r := by
  unfold State.burstStream
  extract_lets +onlyGivenNames -merge -underBinder x0
  try clear_value x0
  extract_lets +onlyGivenNames -merge -underBinder x1
  try clear_value x1
  split
  · exact hs
  · extract_lets +onlyGivenNames -merge -underBinder x2
    try clear_value x2
    extract_lets +onlyGivenNames -merge -underBinder x3
    try clear_value x3
    extract_lets +onlyGivenNames -merge -underBinder x4
    try clear_value x4
    extract_lets +onlyGivenNames -merge -underBinder x5
    try clear_value x5
    extract_lets +onlyGivenNames -merge -underBinder x6
    try clear_value x6
    extract_lets +onlyGivenNames -merge -underBinder x7
    have q8 : State.outside M x7 = r := by
      unfold x7
      refine State.modStream_outside hLacing ?_
      exact hs
    try clear_value x7
    extract_lets +onlyGivenNames -merge -underBinder x9
    have q10 : State.outside M x9 = r := by
      unfold x9
      refine State.each_outside ?_ ?_
      · intro t11 q12 z13
        refine State.lacePost_outside hDict (hNums.sub rfl) hLogs hStraps hJournal hEdges hFlags ?_
        exact q12
      · exact q8
    try clear_value x9
    extract_lets +onlyGivenNames -merge -underBinder x14
    have q15 : State.outside M x14 = r := by
      unfold x14
      refine State.bump_outside (hNums.at Key.fam_laceRepairs rfl) ?_
      exact q10
    try clear_value x14
    extract_lets +onlyGivenNames -merge -underBinder x16
    try clear_value x16
    extract_lets +onlyGivenNames -merge -underBinder x17
    try clear_value x17
    extract_lets +onlyGivenNames -merge -underBinder x18
    have q19 : State.outside M x18 = r := by
      unfold x18
      refine State.setCamp_outside hLacing ?_
      exact q15
    try clear_value x18
    extract_lets +onlyGivenNames -merge -underBinder x20
    try clear_value x20
    extract_lets +onlyGivenNames -merge -underBinder x21
    have q22 : State.outside M x21.1 = r := by
      unfold x21
      refine State.grant_outside (hNums.sub rfl) hCinch ?_
      exact q19
    try clear_value x21
    extract_lets +onlyGivenNames -merge -underBinder x23
    have q24 : State.outside M x23 = r := by
      unfold x23
      exact q22
    try clear_value x23
    extract_lets +onlyGivenNames -merge -underBinder x25
    try clear_value x25
    extract_lets +onlyGivenNames -merge -underBinder x26
    have q27 : State.outside M x26 = r := by
      unfold x26
      refine Eq.trans (State.outside_draws (h0 := hDraws) ..) ?_
      exact q24
    try clear_value x26
    extract_lets +onlyGivenNames -merge -underBinder x28
    try clear_value x28
    refine ite_outside ?_ ?_
    · exact hs
    · refine ite_outside ?_ ?_
      · exact q15
      · refine ite_outside ?_ ?_
        · refine State.burstHeld_outside hLacing ?_
          refine State.setCamp_outside hLacing ?_
          exact q15
        · refine ite_outside ?_ ?_
          · refine State.laceFail_outside hDict (hNums.sub rfl) hLogs hStraps hJournal hEdges hFlags ?_
            exact q15
          · refine ite_outside ?_ ?_
            · refine State.burstHeld_outside hLacing ?_
              exact q24
            · refine State.setCamp_outside hLacing ?_
              exact q27

theorem State.burstStream_keeps {s : State} {k : Nat} {image : Bytes} {bad : List Nat} {t : LaceStream} : Kept133 s (State.burstStream s k image bad t) :=
  .of (State.burstStream_outside rfl rfl rfl rfl rfl rfl rfl rfl rfl rfl rfl)

theorem State.burstStream_rd {s : State} {k : Nat} {image : Bytes} {bad : List Nat} {t : LaceStream} {kk : Nat} (hkey : Nums87.contains (Key.fam kk) = false) : (State.burstStream s k image bad t).rd kk = s.rd kk :=
  State.rd_of_outside (M := .but Nums87) (State.burstStream_outside rfl rfl .self rfl rfl rfl rfl rfl rfl rfl rfl) rfl hkey

theorem State.laceAdopt_outside {M : Touch} {r : State} {s : State} {a0 : Nat} (hDict : M.dict = true) (hNums : M.Nums Nums7) (hLogs : M.logs = true) (hStraps : M.straps = true) (hJournal : M.journal = true) (hArrivals : M.arrivals = true) (hLacing : M.lacing = true) (hEdges : M.edges = true) (hFlags : M.flags = true) (hs : s.outside M = r) :
    (State.laceAdopt s a0).outside M = r := by
  unfold State.laceAdopt
  extract_lets +onlyGivenNames -merge -underBinder x1
  try clear_value x1
  refine State.each_outside ?_ ?_
  · intro t2 q3 z4
    extract_lets +onlyGivenNames -merge -underBinder x5
    try clear_value x5
    extract_lets +onlyGivenNames -merge -underBinder x6
    try clear_value x6
    extract_lets +onlyGivenNames -merge -underBinder x7
    have q8 : State.outside M x7 = r := by
      unfold x7
      refine State.laceCount_outside (hNums.sub rfl) ?_
      refine State.setCamp_outside hLacing ?_
      exact q3
    try clear_value x7
    refine ite_outside ?_ ?_
    · exact q3
    · refine ite_outside ?_ ?_
      · refine State.laceFail_outside hDict (hNums.sub rfl) hLogs hStraps hJournal hEdges hFlags ?_
        exact q3
      · refine ite_outside ?_ ?_
        · exact q3
        · refine ite_outside ?_ ?_
          · refine State.announce_outside hArrivals hLacing ?_
            exact q8
          · exact q8
  · exact hs

theorem State.laceAdopt_keeps {s : State} {a0 : Nat} : Kept134 s (State.laceAdopt s a0) :=
  .of (State.laceAdopt_outside rfl rfl rfl rfl rfl rfl rfl rfl rfl rfl)

theorem State.laceAdopt_rd {s : State} {a0 : Nat} {kk : Nat} (hkey : Nums7.contains (Key.fam kk) = false) : (State.laceAdopt s a0).rd kk = s.rd kk :=
  State.rd_of_outside (M := .but Nums7) (State.laceAdopt_outside rfl .self rfl rfl rfl rfl rfl rfl rfl rfl) rfl hkey

theorem State.takeReport_outside {M : Touch} {r : State} {s : State} {k : Nat} {t : LaceTarget} {p : Bytes} (hDict : M.dict = true) (hNums : M.Nums Nums7) (hLogs : M.logs = true) (hStraps : M.straps = true) (hJournal : M.journal = true) (hLacing : M.lacing = true) (hEdges : M.edges = true) (hFlags : M.flags = true) (hs : s.outside M = r) :
    (State.takeReport s k t p).outside M = r := by
  unfold State.takeReport
  extract_lets +onlyGivenNames -merge -underBinder x0
  try clear_value x0
  extract_lets +onlyGivenNames -merge -underBinder x1
  try clear_value x1
  extract_lets +onlyGivenNames -merge -underBinder x2
  try clear_value x2
  extract_lets +onlyGivenNames -merge -underBinder x3
  try clear_value x3
  extract_lets +onlyGivenNames -merge -underBinder x4
  try clear_value x4
  extract_lets +onlyGivenNames -merge -underBinder x5
  have q6 : State.outside M x5 = r := by
    unfold x5
    refine State.setCamp_outside hLacing ?_
    exact hs
  try clear_value x5
  extract_lets +onlyGivenNames -merge -underBinder x7
  have q8 : State.outside M x7 = r := by
    unfold x7
    refine State.modStream_outside hLacing ?_
    exact q6
  try clear_value x7
  refine State.laceCheck_outside hDict hNums hLogs hStraps hJournal hEdges hFlags ?_
  exact q8

theorem State.takeReport_keeps {s : State} {k : Nat} {t : LaceTarget} {p : Bytes} : Kept82 s (State.takeReport s k t p) :=
  .of (State.takeReport_outside rfl rfl rfl rfl rfl rfl rfl rfl rfl)

theorem State.takeReport_rd {s : State} {k : Nat} {t : LaceTarget} {p : Bytes} {kk : Nat} (hkey : Nums7.contains (Key.fam kk) = false) : (State.takeReport s k t p).rd kk = s.rd kk :=
  State.rd_of_outside (M := .but Nums7) (State.takeReport_outside rfl .self rfl rfl rfl rfl rfl rfl rfl) rfl hkey

theorem execCampResume_outside {M : Touch} {r : State} {k : Fin 16} {s : State} (hDict : M.dict = true) (hNums : M.Nums Nums82) (hResults : M.results = true) (hLogs : M.logs = true) (hStraps : M.straps = true) (hJournal : M.journal = true) (hArrivals : M.arrivals = true) (hLacing : M.lacing = true) (hEdges : M.edges = true) (hFlags : M.flags = true) (hs : s.outside M = r) :
    NextOutside M r (execCampResume k s) := by
  unfold execCampResume
  refine next_outside ?_
  refine State.campCmd_outside hDict hNums hResults hLogs hStraps hJournal hArrivals hLacing hEdges hFlags ?_
  exact hs

theorem execCampPause_outside {M : Touch} {r : State} {k : Fin 16} {s : State} (hDict : M.dict = true) (hNums : M.Nums Nums82) (hResults : M.results = true) (hLogs : M.logs = true) (hStraps : M.straps = true) (hJournal : M.journal = true) (hArrivals : M.arrivals = true) (hLacing : M.lacing = true) (hEdges : M.edges = true) (hFlags : M.flags = true) (hs : s.outside M = r) :
    NextOutside M r (execCampPause k s) := by
  unfold execCampPause
  refine next_outside ?_
  refine State.campCmd_outside hDict hNums hResults hLogs hStraps hJournal hArrivals hLacing hEdges hFlags ?_
  exact hs

theorem execLaceReadFail_outside {M : Touch} {r : State} {k : Fin 16} {dt : Nat} {s : State} (hClock : M.clock = true) (hDict : M.dict = true) (hNums : M.Nums Nums6) (hLogs : M.logs = true) (hVbat : M.vbat = true) (hStraps : M.straps = true) (hJournal : M.journal = true) (hEdges : M.edges = true) (hFlags : M.flags = true) (hs : s.outside M = r) :
    NextOutside M r (execLaceReadFail k dt s) := by
  unfold execLaceReadFail
  extract_lets +onlyGivenNames -merge -underBinder x0
  have q1 : State.outside M x0 = r := by
    unfold x0
    refine State.advance_outside hClock hVbat ?_
    exact hs
  try clear_value x0
  refine next_outside ?_
  split
  · refine ite_outside ?_ ?_
    · refine State.laceFail_outside hDict hNums hLogs hStraps hJournal hEdges hFlags ?_
      exact q1
    · exact q1
  · exact q1

theorem execTxCommit_outside {M : Touch} {r : State} {q : TxReq} {dt : Nat} {s : State} (hPins : M.pins = true) (hClock : M.clock = true) (hDict : M.dict = true) (hNums : M.Nums Nums53) (hResults : M.results = true) (hLogs : M.logs = true) (hVbat : M.vbat = true) (hPorts : M.ports = true) (hRxTiles : M.rxTiles = true) (hTxTiles : M.txTiles = true) (hRecs : M.recs = true) (hCinch : M.cinch = true) (hKeeper : M.keeper = true) (hStraps : M.straps = true) (hJournal : M.journal = true) (hNodeQueues : M.nodeQueues = true) (hLacing : M.lacing = true) (hEdges : M.edges = true) (hFlags : M.flags = true) (hReports : M.reports = true) (hs : s.outside M = r) :
    NextOutside M r (execTxCommit q dt s) := by
  unfold execTxCommit
  extract_lets +onlyGivenNames -merge -underBinder x0
  have q1 : State.outside M x0 = r := by
    unfold x0
    refine State.advance_outside hClock hVbat ?_
    exact hs
  try clear_value x0
  extract_lets +onlyGivenNames -merge -underBinder x2
  try clear_value x2
  refine next_outside ?_
  split
  · split
    · refine State.burstCommit_outside hPins hDict hNums hResults hLogs hVbat hPorts hRxTiles hTxTiles hRecs hCinch hKeeper hStraps hJournal hNodeQueues hLacing hEdges hFlags hReports ?_
      exact q1
    · exact q1
  · refine ite_outside ?_ ?_
    · exact q1
    · refine State.commit_outside hPins hDict hNums hResults hLogs hVbat hPorts hRxTiles hTxTiles hRecs hCinch hKeeper hStraps hJournal hNodeQueues hLacing hEdges hFlags hReports ?_
      exact q1
  · refine ite_outside ?_ ?_
    · exact q1
    · refine State.commit_outside hPins hDict hNums hResults hLogs hVbat hPorts hRxTiles hTxTiles hRecs hCinch hKeeper hStraps hJournal hNodeQueues hLacing hEdges hFlags hReports ?_
      exact q1
  · refine ite_outside ?_ ?_
    · exact q1
    · refine State.commit_outside hPins hDict hNums hResults hLogs hVbat hPorts hRxTiles hTxTiles hRecs hCinch hKeeper hStraps hJournal hNodeQueues hLacing hEdges hFlags hReports ?_
      exact q1
  · refine ite_outside ?_ ?_
    · exact q1
    · refine State.commit_outside hPins hDict hNums hResults hLogs hVbat hPorts hRxTiles hTxTiles hRecs hCinch hKeeper hStraps hJournal hNodeQueues hLacing hEdges hFlags hReports ?_
      exact q1
  · refine ite_outside ?_ ?_
    · exact q1
    · refine State.commit_outside hPins hDict hNums hResults hLogs hVbat hPorts hRxTiles hTxTiles hRecs hCinch hKeeper hStraps hJournal hNodeQueues hLacing hEdges hFlags hReports ?_
      exact q1

theorem execAnnounceResend_outside {M : Touch} {r : State} {k : Fin 16} {a0 : Fin 16384} {dt : Nat} {s : State} (hClock : M.clock = true) (hVbat : M.vbat = true) (hArrivals : M.arrivals = true) (hLacing : M.lacing = true) (hs : s.outside M = r) :
    NextOutside M r (execAnnounceResend k a0 dt s) := by
  unfold execAnnounceResend
  extract_lets +onlyGivenNames -merge -underBinder x1
  have q2 : State.outside M x1 = r := by
    unfold x1
    refine State.advance_outside hClock hVbat ?_
    exact hs
  try clear_value x1
  extract_lets +onlyGivenNames -merge -underBinder x3
  try clear_value x3
  refine next_outside ?_
  refine ite_outside ?_ ?_
  · exact q2
  · split
    · refine ite_outside ?_ ?_
      · refine State.announce_outside hArrivals hLacing ?_
        exact q2
      · exact q2
    · exact q2

theorem execCampStart_outside {M : Touch} {r : State} {k : Fin 16} {s : State} (hDict : M.dict = true) (hNums : M.Nums Nums82) (hResults : M.results = true) (hLogs : M.logs = true) (hStraps : M.straps = true) (hJournal : M.journal = true) (hArrivals : M.arrivals = true) (hLacing : M.lacing = true) (hEdges : M.edges = true) (hFlags : M.flags = true) (hs : s.outside M = r) :
    NextOutside M r (execCampStart k s) := by
  unfold execCampStart
  refine next_outside ?_
  refine State.campCmd_outside hDict hNums hResults hLogs hStraps hJournal hArrivals hLacing hEdges hFlags ?_
  exact hs

theorem execCampDeadline_outside {M : Touch} {r : State} {k : Fin 16} {dt : Nat} {s : State} (hClock : M.clock = true) (hDict : M.dict = true) (hNums : M.Nums Nums6) (hLogs : M.logs = true) (hVbat : M.vbat = true) (hStraps : M.straps = true) (hJournal : M.journal = true) (hEdges : M.edges = true) (hFlags : M.flags = true) (hs : s.outside M = r) :
    NextOutside M r (execCampDeadline k dt s) := by
  unfold execCampDeadline
  extract_lets +onlyGivenNames -merge -underBinder x0
  have q1 : State.outside M x0 = r := by
    unfold x0
    refine State.advance_outside hClock hVbat ?_
    exact hs
  try clear_value x0
  extract_lets +onlyGivenNames -merge -underBinder x2
  try clear_value x2
  refine next_outside ?_
  refine ite_outside ?_ ?_
  · refine ite_outside ?_ ?_
    · refine State.laceDone_outside hDict hNums hLogs hStraps hJournal hEdges hFlags ?_
      exact q1
    · refine State.laceFail_outside hDict hNums hLogs hStraps hJournal hEdges hFlags ?_
      exact q1
  · exact q1

theorem execCampLoadDone_outside {M : Touch} {r : State} {k : Fin 16} {got : Bytes} {bad : Option Nat} {dt : Nat} {s : State} (hClock : M.clock = true) (hDict : M.dict = true) (hNums : M.Nums Nums7) (hResults : M.results = true) (hLogs : M.logs = true) (hVbat : M.vbat = true) (hStraps : M.straps = true) (hJournal : M.journal = true) (hArrivals : M.arrivals = true) (hLacing : M.lacing = true) (hEdges : M.edges = true) (hFlags : M.flags = true) (hs : s.outside M = r) :
    NextOutside M r (execCampLoadDone k got bad dt s) := by
  unfold execCampLoadDone
  extract_lets +onlyGivenNames -merge -underBinder x0
  have q1 : State.outside M x0 = r := by
    unfold x0
    refine State.advance_outside hClock hVbat ?_
    exact hs
  try clear_value x0
  extract_lets +onlyGivenNames -merge -underBinder x2
  try clear_value x2
  extract_lets +onlyGivenNames -merge -underBinder x3
  try clear_value x3
  extract_lets +onlyGivenNames -merge -underBinder x4
  try clear_value x4
  extract_lets +onlyGivenNames -merge -underBinder x5
  try clear_value x5
  extract_lets +onlyGivenNames -merge -underBinder x6
  try clear_value x6
  refine next_outside ?_
  refine ite_outside ?_ ?_
  · exact q1
  · split
    · refine State.resEnd_outside hResults ?_
      refine State.setCampSt_outside (hNums.sub rfl) hEdges ?_
      exact q1
    · extract_lets +onlyGivenNames -merge -underBinder x7
      try clear_value x7
      extract_lets +onlyGivenNames -merge -underBinder x8
      try clear_value x8
      extract_lets +onlyGivenNames -merge -underBinder x9
      try clear_value x9
      extract_lets +onlyGivenNames -merge -underBinder x10
      try clear_value x10
      extract_lets +onlyGivenNames -merge -underBinder x11
      try clear_value x11
      extract_lets +onlyGivenNames -merge -underBinder x12
      try clear_value x12
      extract_lets +onlyGivenNames -merge -underBinder x13
      try clear_value x13
      extract_lets +onlyGivenNames -merge -underBinder x14
      have q15 : State.outside M x14 = r := by
        unfold x14
        refine State.laceCount_outside (hNums.sub rfl) ?_
        refine State.setCamp_outside hLacing ?_
        exact q1
      try clear_value x14
      extract_lets +onlyGivenNames -merge -underBinder x16
      have q17 : State.outside M x16 = r := by
        unfold x16
        refine State.setCamp_outside hLacing ?_
        exact q15
      try clear_value x16
      extract_lets +onlyGivenNames -merge -underBinder x18
      have q19 : State.outside M x18 = r := by
        unfold x18
        refine State.resEnd_outside hResults ?_
        refine State.setCampSt_outside (hNums.sub rfl) hEdges ?_
        exact q17
      try clear_value x18
      extract_lets +onlyGivenNames -merge -underBinder x20
      try clear_value x20
      extract_lets +onlyGivenNames -merge -underBinder x21
      have q22 : State.outside M x21 = r := by
        unfold x21
        refine ite_outside ?_ ?_
        · exact q19
        · refine State.lacePost_outside hDict (hNums.sub rfl) hLogs hStraps hJournal hEdges hFlags ?_
          exact q19
      try clear_value x21
      refine ite_outside ?_ ?_
      · refine State.resEnd_outside hResults ?_
        refine State.laceFail_outside hDict (hNums.sub rfl) hLogs hStraps hJournal hEdges hFlags ?_
        exact q1
      · refine State.each_outside ?_ ?_
        · intro t23 q24 z25
          refine State.announce_outside hArrivals hLacing ?_
          exact q24
        · exact q22

theorem execLaceReportTake_outside {M : Touch} {r : State} {s : State} (hDict : M.dict = true) (hNums : M.Nums Nums7) (hLogs : M.logs = true) (hStraps : M.straps = true) (hJournal : M.journal = true) (hLacing : M.lacing = true) (hEdges : M.edges = true) (hFlags : M.flags = true) (hs : s.outside M = r) :
    NextOutside M r (execLaceReportTake s) := by
  unfold execLaceReportTake
  extract_lets +onlyGivenNames -merge -underBinder x0
  have q1 : State.outside M x0.1 = r := by
    unfold x0
    refine State.strapPop_outside hStraps ?_
    exact hs
  try clear_value x0
  refine next_outside ?_
  split
  · exact q1
  · extract_lets +onlyGivenNames -merge -underBinder x2
    have q3 : State.outside M x2 = r := by
      unfold x2
      exact q1
    try clear_value x2
    extract_lets +onlyGivenNames -merge -underBinder x4
    try clear_value x4
    extract_lets +onlyGivenNames -merge -underBinder x5
    try clear_value x5
    refine ite_outside ?_ ?_
    · exact q3
    · split
      · exact q3
      · split
        · refine State.takeReport_outside hDict hNums hLogs hStraps hJournal hLacing hEdges hFlags ?_
          exact q3
        · exact q3

theorem execCampStop_outside {M : Touch} {r : State} {k : Fin 16} {s : State} (hDict : M.dict = true) (hNums : M.Nums Nums82) (hResults : M.results = true) (hLogs : M.logs = true) (hStraps : M.straps = true) (hJournal : M.journal = true) (hArrivals : M.arrivals = true) (hLacing : M.lacing = true) (hEdges : M.edges = true) (hFlags : M.flags = true) (hs : s.outside M = r) :
    NextOutside M r (execCampStop k s) := by
  unfold execCampStop
  refine next_outside ?_
  refine State.campCmd_outside hDict hNums hResults hLogs hStraps hJournal hArrivals hLacing hEdges hFlags ?_
  exact hs

theorem execBurstPlanning_outside {M : Touch} {r : State} {k : Fin 16} {got : Bytes} {bad : List Nat} {dt : Nat} {s : State} (hDraws : M.draws = true) (hClock : M.clock = true) (hDict : M.dict = true) (hNums : M.Nums Nums87) (hLogs : M.logs = true) (hVbat : M.vbat = true) (hSched : M.sched = true) (hCinch : M.cinch = true) (hStraps : M.straps = true) (hJournal : M.journal = true) (hLacing : M.lacing = true) (hEdges : M.edges = true) (hFlags : M.flags = true) (hs : s.outside M = r) :
    NextOutside M r (execBurstPlanning k got bad dt s) := by
  unfold execBurstPlanning
  extract_lets +onlyGivenNames -merge -underBinder x0
  have q1 : State.outside M x0 = r := by
    unfold x0
    refine State.advance_outside hClock hVbat ?_
    exact hs
  try clear_value x0
  extract_lets +onlyGivenNames -merge -underBinder x2
  try clear_value x2
  extract_lets +onlyGivenNames -merge -underBinder x3
  try clear_value x3
  extract_lets +onlyGivenNames -merge -underBinder x4
  try clear_value x4
  extract_lets +onlyGivenNames -merge -underBinder x5
  have q6 : State.outside M x5.1 = r := by
    unfold x5
    refine State.takeFired_outside hSched ?_
    exact q1
  try clear_value x5
  extract_lets +onlyGivenNames -merge -underBinder x7
  have q8 : State.outside M x7 = r := by
    unfold x7
    exact q6
  try clear_value x7
  extract_lets +onlyGivenNames -merge -underBinder x9
  have q10 : ∀ u11 : State, State.outside M u11 = r → State.outside M (x9 u11) = r := by
    unfold x9
    · intro t12 q13
      extract_lets +onlyGivenNames -merge -underBinder x14
      try clear_value x14
      refine State.setCamp_outside hLacing ?_
      exact q13
  try clear_value x9
  extract_lets +onlyGivenNames -merge -underBinder x15
  try clear_value x15
  extract_lets +onlyGivenNames -merge -underBinder x16
  try clear_value x16
  extract_lets +onlyGivenNames -merge -underBinder x17
  have q18 : State.outside M x17 = r := by
    unfold x17
    refine State.setCamp_outside hLacing ?_
    exact q8
  try clear_value x17
  refine next_outside ?_
  refine ite_outside ?_ ?_
  · exact q1
  · refine ite_outside ?_ ?_
    · refine q10 _ ?_
      exact q8
    · refine q10 _ ?_
      refine State.each_outside ?_ ?_
      · intro t19 q20 z21
        refine State.burstStream_outside hDraws hDict hNums hLogs hCinch hStraps hJournal hLacing hEdges hFlags ?_
        exact q20
      · exact q18

end Sys2Proof.Machine
end

