-- ==== Sys2Proof/Laws/Frame/PowerBase.lean ====
section
/-! SUPPORT. What the operations of Machine/PowerBase.lean leave alone. -/

namespace Sys2Proof.Machine

theorem State.setPower_outside {M : Touch} {r : State} {s : State} {p : Power} (hPower : M.power = true) (hs : s.outside M = r) :
    (State.setPower s p).outside M = r := by
  unfold State.setPower
  refine Eq.trans (State.outside_power (h0 := hPower) ..) ?_
  exact hs

theorem State.setPower_keeps {s : State} {p : Power} : Kept99 s (State.setPower s p) :=
  .of (State.setPower_outside rfl rfl)

theorem State.raisePorts_outside {M : Touch} {r : State} {s : State} (hPins : M.pins = true) (hDict : M.dict = true) (hNums : M.Nums Nums52) (hResults : M.results = true) (hLogs : M.logs = true) (hPorts : M.ports = true) (hRxTiles : M.rxTiles = true) (hStraps : M.straps = true) (hJournal : M.journal = true) (hEdges : M.edges = true) (hFlags : M.flags = true) (hs : s.outside M = r) :
    (State.raisePorts s).outside M = r := by
  unfold State.raisePorts
  extract_lets +onlyGivenNames -merge -underBinder x0
  try clear_value x0
  refine State.each_outside ?_ ?_
  · intro t1 q2 z3
    extract_lets +onlyGivenNames -merge -underBinder x4
    try clear_value x4
    refine ite_outside ?_ ?_
    · refine State.portRun_outside hPins hDict hNums hResults hLogs hPorts hRxTiles hStraps hJournal hEdges hFlags ?_
      refine State.setPort_outside hPorts ?_
      exact q2
    · exact q2
  · exact hs

theorem State.raisePorts_keeps {s : State} : Kept109 s (State.raisePorts s) :=
  .of (State.raisePorts_outside rfl rfl rfl rfl rfl rfl rfl rfl rfl rfl rfl rfl)

theorem State.raisePorts_rd {s : State} {kk : Nat} (hkey : Nums52.contains (Key.fam kk) = false) : (State.raisePorts s).rd kk = s.rd kk :=
  State.rd_of_outside (M := .but Nums52) (State.raisePorts_outside rfl rfl .self rfl rfl rfl rfl rfl rfl rfl rfl rfl) rfl hkey

theorem State.powerStart_outside {M : Touch} {r : State} {s : State} {t : Nat} (hPins : M.pins = true) (hDict : M.dict = true) (hNums : M.Nums Nums52) (hResults : M.results = true) (hLogs : M.logs = true) (hPower : M.power = true) (hPorts : M.ports = true) (hRxTiles : M.rxTiles = true) (hStraps : M.straps = true) (hJournal : M.journal = true) (hEdges : M.edges = true) (hFlags : M.flags = true) (hs : s.outside M = r) :
    (State.powerStart s t).outside M = r := by
  unfold State.powerStart
  extract_lets +onlyGivenNames -merge -underBinder x0
  try clear_value x0
  extract_lets +onlyGivenNames -merge -underBinder x1
  try clear_value x1
  extract_lets +onlyGivenNames -merge -underBinder x2
  try clear_value x2
  extract_lets +onlyGivenNames -merge -underBinder x3
  have q4 : State.outside M x3 = r := by
    unfold x3
    refine State.setPower_outside hPower ?_
    exact hs
  try clear_value x3
  refine ite_outside ?_ ?_
  · refine State.each_outside ?_ ?_
    · intro t5 q6 z7
      refine State.portSleep_outside hPins hDict hNums hResults hLogs hPorts hRxTiles hStraps hJournal hEdges hFlags ?_
      exact q6
    · exact q4
  · refine ite_outside ?_ ?_
    · refine State.raisePorts_outside hPins hDict hNums hResults hLogs hPorts hRxTiles hStraps hJournal hEdges hFlags ?_
      exact q4
    · exact q4

theorem State.powerStart_keeps {s : State} {t : Nat} : Kept141 s (State.powerStart s t) :=
  .of (State.powerStart_outside rfl rfl rfl rfl rfl rfl rfl rfl rfl rfl rfl rfl rfl)

theorem State.powerStart_rd {s : State} {t : Nat} {kk : Nat} (hkey : Nums52.contains (Key.fam kk) = false) : (State.powerStart s t).rd kk = s.rd kk :=
  State.rd_of_outside (M := .but Nums52) (State.powerStart_outside rfl rfl .self rfl rfl rfl rfl rfl rfl rfl rfl rfl rfl) rfl hkey

theorem State.powerReached_outside {M : Touch} {r : State} {s : State} (hResults : M.results = true) (hPower : M.power = true) (hs : s.outside M = r) :
    (State.powerReached s).outside M = r := by
  unfold State.powerReached
  extract_lets +onlyGivenNames -merge -underBinder x0
  try clear_value x0
  refine State.resEndIfBusy_outside hResults ?_
  refine State.setPower_outside hPower ?_
  exact hs

theorem State.powerReached_keeps {s : State} : Kept142 s (State.powerReached s) :=
  .of (State.powerReached_outside rfl rfl rfl)

theorem State.powerAsk_outside {M : Touch} {r : State} {s : State} {t : Nat} (hPins : M.pins = true) (hDict : M.dict = true) (hNums : M.Nums Nums52) (hResults : M.results = true) (hLogs : M.logs = true) (hPower : M.power = true) (hPorts : M.ports = true) (hRxTiles : M.rxTiles = true) (hStraps : M.straps = true) (hJournal : M.journal = true) (hEdges : M.edges = true) (hFlags : M.flags = true) (hs : s.outside M = r) :
    (State.powerAsk s t).outside M = r := by
  unfold State.powerAsk
  extract_lets +onlyGivenNames -merge -underBinder x0
  try clear_value x0
  refine ite_outside ?_ ?_
  · exact hs
  · refine ite_outside ?_ ?_
    · refine State.setPower_outside hPower ?_
      exact hs
    · refine ite_outside ?_ ?_
      · refine State.powerReached_outside hResults hPower ?_
        exact hs
      · refine ite_outside ?_ ?_
        · refine State.setPower_outside hPower ?_
          exact hs
        · refine State.powerStart_outside hPins hDict hNums hResults hLogs hPower hPorts hRxTiles hStraps hJournal hEdges hFlags ?_
          exact hs

theorem State.powerAsk_keeps {s : State} {t : Nat} : Kept141 s (State.powerAsk s t) :=
  .of (State.powerAsk_outside rfl rfl rfl rfl rfl rfl rfl rfl rfl rfl rfl rfl rfl)

theorem State.powerAsk_rd {s : State} {t : Nat} {kk : Nat} (hkey : Nums52.contains (Key.fam kk) = false) : (State.powerAsk s t).rd kk = s.rd kk :=
  State.rd_of_outside (M := .but Nums52) (State.powerAsk_outside rfl rfl .self rfl rfl rfl rfl rfl rfl rfl rfl rfl rfl) rfl hkey

theorem State.wake_outside {M : Touch} {r : State} {s : State} (hPins : M.pins = true) (hDict : M.dict = true) (hNums : M.Nums Nums52) (hResults : M.results = true) (hLogs : M.logs = true) (hPower : M.power = true) (hPorts : M.ports = true) (hRxTiles : M.rxTiles = true) (hStraps : M.straps = true) (hJournal : M.journal = true) (hEdges : M.edges = true) (hFlags : M.flags = true) (hs : s.outside M = r) :
    (State.wake s).outside M = r := by
  unfold State.wake
  refine ite_outside ?_ ?_
  · refine State.powerAsk_outside hPins hDict hNums hResults hLogs hPower hPorts hRxTiles hStraps hJournal hEdges hFlags ?_
    exact hs
  · exact hs

theorem State.wake_keeps {s : State} : Kept141 s (State.wake s) :=
  .of (State.wake_outside rfl rfl rfl rfl rfl rfl rfl rfl rfl rfl rfl rfl rfl)

theorem State.wake_rd {s : State} {kk : Nat} (hkey : Nums52.contains (Key.fam kk) = false) : (State.wake s).rd kk = s.rd kk :=
  State.rd_of_outside (M := .but Nums52) (State.wake_outside rfl rfl .self rfl rfl rfl rfl rfl rfl rfl rfl rfl rfl) rfl hkey

theorem State.coreIslandsSet_outside {M : Touch} {r : State} {s : State} {on : Bool} (hPower : M.power = true) (hs : s.outside M = r) :
    (State.coreIslandsSet s on).outside M = r := by
  unfold State.coreIslandsSet
  refine State.each_outside ?_ ?_
  · intro t0 q1 z2
    refine State.coreIslAsk_outside hPower ?_
    exact q1
  · exact hs

theorem State.coreIslandsSet_keeps {s : State} {on : Bool} : Kept99 s (State.coreIslandsSet s on) :=
  .of (State.coreIslandsSet_outside rfl rfl)

theorem State.coresStop_outside {M : Touch} {r : State} {s : State} (hPower : M.power = true) (hCores : M.cores = true) (hLocals : M.Locals r) (hs : s.outside M = r) :
    (State.coresStop s).outside M = r := by
  unfold State.coresStop
  refine State.coreIslandsSet_outside hPower ?_
  refine State.each_outside ?_ ?_
  · intro t0 q1 z2
    refine State.coreDrain_outside hCores hLocals ?_
    exact q1
  · exact hs

theorem State.coresStop_keeps {s : State} : Kept143 s (State.coresStop s) :=
  .of (State.coresStop_outside rfl rfl (.free rfl rfl) rfl)

theorem State.dropClosed_outside {M : Touch} {r : State} {s : State} (hNums : M.Nums Nums56) (hQueues : M.queues = true) (hReports : M.reports = true) (hs : s.outside M = r) :
    (State.dropClosed s).outside M = r := by
  unfold State.dropClosed
  refine State.each_outside ?_ ?_
  · intro t0 q1 z2
    refine ite_outside ?_ ?_
    · exact q1
    · refine State.each_outside ?_ ?_
      · intro t3 q4 z5
        extract_lets +onlyGivenNames -merge -underBinder x6
        try clear_value x6
        extract_lets +onlyGivenNames -merge -underBinder x7
        have q8 : State.outside M x7 = r := by
          unfold x7
          refine foldl_outside ?_ ?_
          · intro t9 q10 z11
            refine State.reportFinal_outside hReports ?_
            refine State.bump_outside (hNums.at Key.fam_qDrops rfl) ?_
            exact q10
          · exact q4
        try clear_value x7
        extract_lets +onlyGivenNames -merge -underBinder x12
        try clear_value x12
        extract_lets +onlyGivenNames -merge -underBinder x13
        unfold x13
        clear x13
        refine Eq.trans (State.outside_har_queues (h0 := hQueues) ..) ?_
        exact q8
      · exact q1
  · exact hs

theorem State.dropClosed_keeps {s : State} : Kept144 s (State.dropClosed s) :=
  .of (State.dropClosed_outside rfl rfl rfl rfl)

theorem State.dropClosed_rd {s : State} {kk : Nat} (hkey : Nums56.contains (Key.fam kk) = false) : (State.dropClosed s).rd kk = s.rd kk :=
  State.rd_of_outside (M := .but Nums56) (State.dropClosed_outside .self rfl rfl rfl) rfl hkey

theorem State.powerArrive_outside {M : Touch} {r : State} {s : State} {st : Nat} (hPins : M.pins = true) (hDict : M.dict = true) (hNums : M.Nums Nums136) (hResults : M.results = true) (hLogs : M.logs = true) (hPower : M.power = true) (hPorts : M.ports = true) (hRxTiles : M.rxTiles = true) (hStraps : M.straps = true) (hJournal : M.journal = true) (hEdges : M.edges = true) (hFlags : M.flags = true) (hs : s.outside M = r) :
    (State.powerArrive s st).outside M = r := by
  unfold State.powerArrive
  extract_lets +onlyGivenNames -merge -underBinder x0
  have q1 : State.outside M x0 = r := by
    unfold x0
    refine State.wr_outside (hNums.at Key.fam_pwrState rfl) ?_
    exact hs
  try clear_value x0
  extract_lets +onlyGivenNames -merge -underBinder x2
  try clear_value x2
  extract_lets +onlyGivenNames -merge -underBinder x3
  have q4 : State.outside M x3 = r := by
    unfold x3
    refine State.setPower_outside hPower ?_
    exact q1
  try clear_value x3
  split
  · refine ite_outside ?_ ?_
    · refine State.powerReached_outside hResults hPower ?_
      exact q4
    · refine ite_outside ?_ ?_
      · refine State.powerStart_outside hPins hDict (hNums.sub rfl) hResults hLogs hPower hPorts hRxTiles hStraps hJournal hEdges hFlags ?_
        exact q4
      · exact q4
  · refine ite_outside ?_ ?_
    · refine State.powerReached_outside hResults hPower ?_
      exact q4
    · refine State.powerStart_outside hPins hDict (hNums.sub rfl) hResults hLogs hPower hPorts hRxTiles hStraps hJournal hEdges hFlags ?_
      exact q4
  · exact q4

theorem State.powerArrive_keeps {s : State} {st : Nat} : Kept141 s (State.powerArrive s st) :=
  .of (State.powerArrive_outside rfl rfl rfl rfl rfl rfl rfl rfl rfl rfl rfl rfl rfl)

theorem State.powerArrive_rd {s : State} {st : Nat} {kk : Nat} (hkey : Nums136.contains (Key.fam kk) = false) : (State.powerArrive s st).rd kk = s.rd kk :=
  State.rd_of_outside (M := .but Nums136) (State.powerArrive_outside rfl rfl .self rfl rfl rfl rfl rfl rfl rfl rfl rfl rfl) rfl hkey

theorem State.watchdogStart_outside {M : Touch} {r : State} {s : State} (hPower : M.power = true) (hs : s.outside M = r) :
    (State.watchdogStart s).outside M = r := by
  unfold State.watchdogStart
  extract_lets +onlyGivenNames -merge -underBinder x0
  try clear_value x0
  refine State.setPower_outside hPower ?_
  exact hs

theorem State.watchdogStart_keeps {s : State} : Kept99 s (State.watchdogStart s) :=
  .of (State.watchdogStart_outside rfl rfl)

theorem State.powerEndWork_outside {M : Touch} {r : State} {s : State} {hop : Nat} (hNums : M.Nums Nums56) (hPower : M.power = true) (hSched : M.sched = true) (hQueues : M.queues = true) (hCores : M.cores = true) (hLocals : M.Locals r) (hReports : M.reports = true) (hs : s.outside M = r) :
    (State.powerEndWork s hop).outside M = r := by
  unfold State.powerEndWork
  extract_lets +onlyGivenNames -merge -underBinder x0
  have q1 : State.outside M x0 = r := by
    unfold x0
    refine State.watchdogStart_outside hPower ?_
    refine State.coreIslandsSet_outside hPower ?_
    exact hs
  try clear_value x0
  refine ite_outside ?_ ?_
  · refine State.coresStop_outside hPower hCores hLocals ?_
    refine State.dropClosed_outside hNums hQueues hReports ?_
    exact hs
  · refine ite_outside ?_ ?_
    · refine State.askRebuild_outside hSched ?_
      exact q1
    · exact hs

theorem State.powerEndWork_keeps {s : State} {hop : Nat} : Kept145 s (State.powerEndWork s hop) :=
  .of (State.powerEndWork_outside rfl rfl rfl rfl rfl (.free rfl rfl) rfl rfl)

theorem State.powerEndWork_rd {s : State} {hop : Nat} {kk : Nat} (hkey : Nums56.contains (Key.fam kk) = false) : (State.powerEndWork s hop).rd kk = s.rd kk :=
  State.rd_of_outside (M := .but Nums56) (State.powerEndWork_outside .self rfl rfl rfl rfl (.free rfl rfl) rfl rfl) rfl hkey

end Sys2Proof.Machine
end

