-- ==== Sys2Proof/Laws/Frame/Calibrate.lean ====
section
/-! SUPPORT. What the operations of Machine/Calibrate.lean leave alone. -/

namespace Sys2Proof.Machine

theorem State.stampLock_outside {M : Touch} {r : State} {s : State} (hResults : M.results = true) (hRadio : M.radio = true) (hPorts : M.ports = true) (hRxTiles : M.rxTiles = true) (hTxTiles : M.txTiles = true) (hs : s.outside M = r) :
    (State.stampLock s).outside M = r := by
  unfold State.stampLock
  extract_lets +onlyGivenNames -merge -underBinder x0
  try clear_value x0
  extract_lets +onlyGivenNames -merge -underBinder x1
  unfold x1
  clear x1
  refine ite_outside ?_ ?_
  · refine State.resEnd_outside hResults ?_
    exact hs
  · refine ite_outside ?_ ?_
    · refine State.resEnd_outside hResults ?_
      exact hs
    · refine ite_outside ?_ ?_
      · refine State.resEnd_outside hResults ?_
        exact hs
      · refine State.setRadio_outside hRadio hPorts hRxTiles hTxTiles ?_
        refine State.resBegin_outside hResults ?_
        exact hs

theorem State.stampLock_keeps {s : State} : Kept121 s (State.stampLock s) :=
  .of (State.stampLock_outside rfl rfl rfl rfl rfl rfl)

theorem State.setCal_outside {M : Touch} {r : State} {s : State} {x : Option CalRun} (hRadio : M.radio = true) (hs : s.outside M = r) :
    (State.setCal s x).outside M = r := by
  unfold State.setCal
  extract_lets +onlyGivenNames -merge -underBinder x0
  unfold x0
  clear x0
  refine Eq.trans (State.outside_radio_radio (h0 := hRadio) ..) ?_
  exact hs

theorem State.setCal_keeps {s : State} {x : Option CalRun} : Kept90 s (State.setCal s x) :=
  .of (State.setCal_outside rfl rfl)

theorem State.calSettle_outside {M : Touch} {r : State} {s : State} {c : CalRun} (hResults : M.results = true) (hRadio : M.radio = true) (hEdges : M.edges = true) (hs : s.outside M = r) :
    (State.calSettle s c).outside M = r := by
  unfold State.calSettle
  extract_lets +onlyGivenNames -merge -underBinder x0
  try clear_value x0
  refine ite_outside ?_ ?_
  · refine State.resEnd_outside hResults ?_
    refine State.raise_outside hEdges ?_
    refine State.setCal_outside hRadio ?_
    exact hs
  · refine State.setCal_outside hRadio ?_
    exact hs

theorem State.calSettle_keeps {s : State} {c : CalRun} : Kept122 s (State.calSettle s c) :=
  .of (State.calSettle_outside rfl rfl rfl rfl)

theorem State.calKind_outside {M : Touch} {r : State} {s : State} {c : CalRun} {k : Nat} {code : Nat} (hDict : M.dict = true) (hNums : M.Nums Nums2) (hLogs : M.logs = true) (hStraps : M.straps = true) (hJournal : M.journal = true) (hEdges : M.edges = true) (hFlags : M.flags = true) (hs : s.outside M = r) :
    (State.calKind s c k code).1.outside M = r := by
  unfold State.calKind
  refine fst_outside ?_
  refine State.calPost_outside hDict hNums hLogs hStraps hJournal hEdges hFlags ?_
  exact hs

theorem State.calKind_keeps {s : State} {c : CalRun} {k : Nat} {code : Nat} : Kept8 s (State.calKind s c k code).1 :=
  .of (State.calKind_outside rfl rfl rfl rfl rfl rfl rfl rfl)

theorem State.calKind_rd {s : State} {c : CalRun} {k : Nat} {code : Nat} {kk : Nat} (hkey : Nums2.contains (Key.fam kk) = false) : (State.calKind s c k code).1.rd kk = s.rd kk :=
  State.rd_of_outside (M := .but Nums2) (State.calKind_outside rfl .self rfl rfl rfl rfl rfl rfl) rfl hkey

theorem State.calEnd_outside {M : Touch} {r : State} {s : State} {c : CalRun} {ks : List Nat} {code : Nat} (hDict : M.dict = true) (hNums : M.Nums Nums2) (hResults : M.results = true) (hLogs : M.logs = true) (hRadio : M.radio = true) (hStraps : M.straps = true) (hJournal : M.journal = true) (hEdges : M.edges = true) (hFlags : M.flags = true) (hs : s.outside M = r) :
    (State.calEnd s c ks code).outside M = r := by
  unfold State.calEnd
  split
  · rename_i t0 t2 e3
    have q1 : State.outside M t0 = r := by
      refine Eq.trans (congrArg (fun p => State.outside M p.1) e3).symm ?_
      refine foldl_fst_outside ?_ ?_
      · intro t4 q5 z6
        refine State.calKind_outside hDict hNums hLogs hStraps hJournal hEdges hFlags ?_
        exact q5
      · refine fst_outside ?_
        exact hs
    refine State.calSettle_outside hResults hRadio hEdges ?_
    exact q1

theorem State.calEnd_keeps {s : State} {c : CalRun} {ks : List Nat} {code : Nat} : Kept123 s (State.calEnd s c ks code) :=
  .of (State.calEnd_outside rfl rfl rfl rfl rfl rfl rfl rfl rfl rfl)

theorem State.calEnd_rd {s : State} {c : CalRun} {ks : List Nat} {code : Nat} {kk : Nat} (hkey : Nums2.contains (Key.fam kk) = false) : (State.calEnd s c ks code).rd kk = s.rd kk :=
  State.rd_of_outside (M := .but Nums2) (State.calEnd_outside rfl .self rfl rfl rfl rfl rfl rfl rfl rfl) rfl hkey

theorem State.calStart_outside {M : Touch} {r : State} {s : State} {p : Nat} {kinds : Nat} {periodic : Bool} (hDict : M.dict = true) (hNums : M.Nums Nums2) (hResults : M.results = true) (hLogs : M.logs = true) (hRadio : M.radio = true) (hPorts : M.ports = true) (hStraps : M.straps = true) (hJournal : M.journal = true) (hEdges : M.edges = true) (hFlags : M.flags = true) (hs : s.outside M = r) :
    (State.calStart s p kinds periodic).outside M = r := by
  unfold State.calStart
  extract_lets +onlyGivenNames -merge -underBinder x0
  try clear_value x0
  extract_lets +onlyGivenNames -merge -underBinder x1
  try clear_value x1
  extract_lets +onlyGivenNames -merge -underBinder x2
  have q3 : State.outside M x2 = r := by
    unfold x2
    refine State.setPort_outside hPorts ?_
    refine State.resBegin_outside hResults ?_
    exact hs
  try clear_value x2
  refine ite_outside ?_ ?_
  · refine State.calEnd_outside hDict hNums hResults hLogs hRadio hStraps hJournal hEdges hFlags ?_
    exact q3
  · refine State.setCal_outside hRadio ?_
    exact q3

theorem State.calStart_keeps {s : State} {p : Nat} {kinds : Nat} {periodic : Bool} : Kept124 s (State.calStart s p kinds periodic) :=
  .of (State.calStart_outside rfl rfl rfl rfl rfl rfl rfl rfl rfl rfl rfl)

theorem State.calStart_rd {s : State} {p : Nat} {kinds : Nat} {periodic : Bool} {kk : Nat} (hkey : Nums2.contains (Key.fam kk) = false) : (State.calStart s p kinds periodic).rd kk = s.rd kk :=
  State.rd_of_outside (M := .but Nums2) (State.calStart_outside rfl .self rfl rfl rfl rfl rfl rfl rfl rfl rfl) rfl hkey

theorem State.calWrite_outside {M : Touch} {r : State} {s : State} {v : Nat} (hDict : M.dict = true) (hNums : M.Nums Nums2) (hResults : M.results = true) (hLogs : M.logs = true) (hRadio : M.radio = true) (hPorts : M.ports = true) (hStraps : M.straps = true) (hJournal : M.journal = true) (hEdges : M.edges = true) (hFlags : M.flags = true) (hs : s.outside M = r) :
    (State.calWrite s v).outside M = r := by
  unfold State.calWrite
  refine State.calStart_outside hDict hNums hResults hLogs hRadio hPorts hStraps hJournal hEdges hFlags ?_
  exact hs

theorem State.calWrite_keeps {s : State} {v : Nat} : Kept124 s (State.calWrite s v) :=
  .of (State.calWrite_outside rfl rfl rfl rfl rfl rfl rfl rfl rfl rfl rfl)

theorem State.calWrite_rd {s : State} {v : Nat} {kk : Nat} (hkey : Nums2.contains (Key.fam kk) = false) : (State.calWrite s v).rd kk = s.rd kk :=
  State.rd_of_outside (M := .but Nums2) (State.calWrite_outside rfl .self rfl rfl rfl rfl rfl rfl rfl rfl rfl) rfl hkey

theorem State.blindEnd_outside {M : Touch} {r : State} {s : State} {c : CalRun} {k : Nat} {m : CalMeas} {measured : Bytes} (hDict : M.dict = true) (hNums : M.Nums Nums2) (hDoms : M.doms = true) (hLogs : M.logs = true) (hStraps : M.straps = true) (hJournal : M.journal = true) (hEdges : M.edges = true) (hFlags : M.flags = true) (hs : s.outside M = r) :
    (State.blindEnd s c k m measured).1.outside M = r := by
  unfold State.blindEnd
  extract_lets +onlyGivenNames -merge -underBinder x0
  try clear_value x0
  refine State.calKind_outside hDict hNums hLogs hStraps hJournal hEdges hFlags ?_
  refine ite_outside ?_ ?_
  · refine State.calTake_outside hDoms ?_
    exact hs
  · exact hs

theorem State.blindEnd_keeps {s : State} {c : CalRun} {k : Nat} {m : CalMeas} {measured : Bytes} : Kept125 s (State.blindEnd s c k m measured).1 :=
  .of (State.blindEnd_outside rfl rfl rfl rfl rfl rfl rfl rfl rfl)

theorem State.blindEnd_rd {s : State} {c : CalRun} {k : Nat} {m : CalMeas} {measured : Bytes} {kk : Nat} (hkey : Nums2.contains (Key.fam kk) = false) : (State.blindEnd s c k m measured).1.rd kk = s.rd kk :=
  State.rd_of_outside (M := .but Nums2) (State.blindEnd_outside rfl .self rfl rfl rfl rfl rfl rfl rfl) rfl hkey

theorem State.calTouch_outside {M : Touch} {r : State} {s : State} {p : Nat} {i : Nat} (hRxTiles : M.rxTiles = true) (hs : s.outside M = r) :
    (State.calTouch s p i).outside M = r := by
  unfold State.calTouch
  extract_lets +onlyGivenNames -merge -underBinder x0
  try clear_value x0
  extract_lets +onlyGivenNames -merge -underBinder x1
  try clear_value x1
  refine ite_outside ?_ ?_
  · refine State.setRx_outside hRxTiles ?_
    exact hs
  · exact hs

theorem State.calTouch_keeps {s : State} {p : Nat} {i : Nat} : Kept87 s (State.calTouch s p i) :=
  .of (State.calTouch_outside rfl rfl)

theorem State.setFuses_outside {M : Touch} {r : State} {s : State} {f : Fuses} (hFuses : M.fuses = true) (hRadio : M.radio = true) (hs : s.outside M = r) :
    (State.setFuses s f).outside M = r := by
  unfold State.setFuses
  extract_lets +onlyGivenNames -merge -underBinder x0
  unfold x0
  clear x0
  rw [← hs]; simp only [State.outside, hFuses, hRadio, cond_true]

theorem State.setFuses_keeps {s : State} {f : Fuses} : Kept126 s (State.setFuses s f) :=
  .of (State.setFuses_outside rfl rfl rfl)

theorem execCalCmd_outside {M : Touch} {r : State} {v : BitVec 8} {s : State} (hDict : M.dict = true) (hNums : M.Nums Nums2) (hResults : M.results = true) (hLogs : M.logs = true) (hRadio : M.radio = true) (hPorts : M.ports = true) (hStraps : M.straps = true) (hJournal : M.journal = true) (hEdges : M.edges = true) (hFlags : M.flags = true) (hs : s.outside M = r) :
    NextOutside M r (execCalCmd v s) := by
  unfold execCalCmd
  refine next_outside ?_
  refine ite_outside ?_ ?_
  · exact hs
  · refine State.calWrite_outside hDict hNums hResults hLogs hRadio hPorts hStraps hJournal hEdges hFlags ?_
    exact hs

theorem execCalNoWindow_outside {M : Touch} {r : State} {dt : Nat} {s : State} (hClock : M.clock = true) (hDict : M.dict = true) (hNums : M.Nums Nums2) (hResults : M.results = true) (hLogs : M.logs = true) (hVbat : M.vbat = true) (hRadio : M.radio = true) (hStraps : M.straps = true) (hJournal : M.journal = true) (hEdges : M.edges = true) (hFlags : M.flags = true) (hs : s.outside M = r) :
    NextOutside M r (execCalNoWindow dt s) := by
  unfold execCalNoWindow
  extract_lets +onlyGivenNames -merge -underBinder x0
  have q1 : State.outside M x0 = r := by
    unfold x0
    refine State.advance_outside hClock hVbat ?_
    exact hs
  try clear_value x0
  refine next_outside ?_
  split
  · exact q1
  · refine ite_outside ?_ ?_
    · exact q1
    · refine State.calEnd_outside hDict hNums hResults hLogs hRadio hStraps hJournal hEdges hFlags ?_
      exact q1

theorem execCalWindowEnd_outside {M : Touch} {r : State} {out : List CalMeas} {measured : Bytes} {dt : Nat} {s : State} (hPins : M.pins = true) (hClock : M.clock = true) (hDict : M.dict = true) (hNums : M.Nums Nums165) (hDoms : M.doms = true) (hResults : M.results = true) (hLogs : M.logs = true) (hVbat : M.vbat = true) (hRadio : M.radio = true) (hRxTiles : M.rxTiles = true) (hStraps : M.straps = true) (hJournal : M.journal = true) (hEdges : M.edges = true) (hFlags : M.flags = true) (hs : s.outside M = r) :
    NextOutside M r (execCalWindowEnd out measured dt s) := by
  unfold execCalWindowEnd
  extract_lets +onlyGivenNames -merge -underBinder x0
  have q1 : State.outside M x0 = r := by
    unfold x0
    refine State.advance_outside hClock hVbat ?_
    exact hs
  try clear_value x0
  refine next_outside ?_
  split
  · exact q1
  · refine ite_outside ?_ ?_
    · exact q1
    · split
      · rename_i t2 t4 e5
        have q3 : State.outside M t2 = r := by
          refine Eq.trans (congrArg (fun p => State.outside M p.1) e5).symm ?_
          refine foldl_fst_outside ?_ ?_
          · intro t6 q7 z8
            refine State.blindEnd_outside hDict (hNums.sub rfl) hDoms hLogs hStraps hJournal hEdges hFlags ?_
            exact q7
          · refine fst_outside ?_
            exact q1
        refine State.rxFollow_outside (hNums.sub rfl) hRxTiles ?_
        refine State.femDrive_outside hPins ?_
        refine State.calSettle_outside hResults hRadio hEdges ?_
        exact q3

theorem execStampLockDone_outside {M : Touch} {r : State} {ok : Bool} {s : State} (hFuses : M.fuses = true) (hNums : M.Nums Nums170) (hResults : M.results = true) (hRadio : M.radio = true) (hs : s.outside M = r) :
    NextOutside M r (execStampLockDone ok s) := by
  unfold execStampLockDone
  extract_lets +onlyGivenNames -merge -underBinder x0
  try clear_value x0
  extract_lets +onlyGivenNames -merge -underBinder x1
  try clear_value x1
  refine next_outside ?_
  refine ite_outside ?_ ?_
  · exact hs
  · refine ite_outside ?_ ?_
    · refine State.resEnd_outside hResults ?_
      refine State.wr_outside (hNums.at Key.fam_stampLocked rfl) ?_
      refine State.setFuses_outside hFuses hRadio ?_
      exact hs
    · refine State.resEnd_outside hResults ?_
      refine State.setFuses_outside hFuses hRadio ?_
      exact hs

theorem execCalPeriodic_outside {M : Touch} {r : State} {p : Fin 4} {dt : Nat} {s : State} (hClock : M.clock = true) (hDict : M.dict = true) (hNums : M.Nums Nums2) (hResults : M.results = true) (hLogs : M.logs = true) (hVbat : M.vbat = true) (hRadio : M.radio = true) (hPorts : M.ports = true) (hStraps : M.straps = true) (hJournal : M.journal = true) (hEdges : M.edges = true) (hFlags : M.flags = true) (hs : s.outside M = r) :
    NextOutside M r (execCalPeriodic p dt s) := by
  unfold execCalPeriodic
  extract_lets +onlyGivenNames -merge -underBinder x0
  have q1 : State.outside M x0 = r := by
    unfold x0
    refine State.advance_outside hClock hVbat ?_
    exact hs
  try clear_value x0
  extract_lets +onlyGivenNames -merge -underBinder x2
  try clear_value x2
  refine next_outside ?_
  refine ite_outside ?_ ?_
  · refine State.calStart_outside hDict hNums hResults hLogs hRadio hPorts hStraps hJournal hEdges hFlags ?_
    exact q1
  · exact q1

theorem execOscCalMeasure_outside {M : Touch} {r : State} {i : Fin 41} {measured : Bytes} {dt : Nat} {s : State} (hClock : M.clock = true) (hDict : M.dict = true) (hNums : M.Nums Nums2) (hDoms : M.doms = true) (hResults : M.results = true) (hLogs : M.logs = true) (hVbat : M.vbat = true) (hRadio : M.radio = true) (hRxTiles : M.rxTiles = true) (hStraps : M.straps = true) (hJournal : M.journal = true) (hEdges : M.edges = true) (hFlags : M.flags = true) (hs : s.outside M = r) :
    NextOutside M r (execOscCalMeasure i measured dt s) := by
  unfold execOscCalMeasure
  extract_lets +onlyGivenNames -merge -underBinder x0
  have q1 : State.outside M x0 = r := by
    unfold x0
    refine State.advance_outside hClock hVbat ?_
    exact hs
  try clear_value x0
  refine next_outside ?_
  split
  · exact q1
  · extract_lets +onlyGivenNames -merge -underBinder x2
    try clear_value x2
    refine ite_outside ?_ ?_
    · exact q1
    · split
      · extract_lets +onlyGivenNames -merge -underBinder x3
        try clear_value x3
        extract_lets +onlyGivenNames -merge -underBinder x4
        try clear_value x4
        extract_lets +onlyGivenNames -merge -underBinder x5
        have q6 : State.outside M x5 = r := by
          unfold x5
          refine State.calTouch_outside hRxTiles ?_
          exact q1
        try clear_value x5
        extract_lets +onlyGivenNames -merge -underBinder x7
        try clear_value x7
        refine ite_outside ?_ ?_
        · refine ite_outside ?_ ?_
          · refine State.calEnd_outside hDict hNums hResults hLogs hRadio hStraps hJournal hEdges hFlags ?_
            exact q6
          · refine State.calEnd_outside hDict hNums hResults hLogs hRadio hStraps hJournal hEdges hFlags ?_
            refine State.calTake_outside hDoms ?_
            exact q6
        · refine State.setCal_outside hRadio ?_
          exact q6

theorem execCalPartial_outside {M : Touch} {r : State} {dt : Nat} {s : State} (hClock : M.clock = true) (hDict : M.dict = true) (hNums : M.Nums Nums2) (hDoms : M.doms = true) (hResults : M.results = true) (hLogs : M.logs = true) (hVbat : M.vbat = true) (hRadio : M.radio = true) (hStraps : M.straps = true) (hJournal : M.journal = true) (hEdges : M.edges = true) (hFlags : M.flags = true) (hs : s.outside M = r) :
    NextOutside M r (execCalPartial dt s) := by
  unfold execCalPartial
  extract_lets +onlyGivenNames -merge -underBinder x0
  have q1 : State.outside M x0 = r := by
    unfold x0
    refine State.advance_outside hClock hVbat ?_
    exact hs
  try clear_value x0
  refine next_outside ?_
  split
  · exact q1
  · extract_lets +onlyGivenNames -merge -underBinder x2
    try clear_value x2
    extract_lets +onlyGivenNames -merge -underBinder x3
    try clear_value x3
    extract_lets +onlyGivenNames -merge -underBinder x4
    have q5 : State.outside M x4 = r := by
      unfold x4
      refine ite_outside ?_ ?_
      · exact q1
      · refine State.calTake_outside hDoms ?_
        exact q1
    try clear_value x4
    refine ite_outside ?_ ?_
    · exact q1
    · refine State.calEnd_outside hDict hNums hResults hLogs hRadio hStraps hJournal hEdges hFlags ?_
      exact q5

theorem execCalWindowOpen_outside {M : Touch} {r : State} {dt : Nat} {s : State} (hPins : M.pins = true) (hClock : M.clock = true) (hVbat : M.vbat = true) (hRadio : M.radio = true) (hRxTiles : M.rxTiles = true) (hSched : M.sched = true) (hs : s.outside M = r) :
    NextOutside M r (execCalWindowOpen dt s) := by
  unfold execCalWindowOpen
  extract_lets +onlyGivenNames -merge -underBinder x0
  have q1 : State.outside M x0 = r := by
    unfold x0
    refine State.advance_outside hClock hVbat ?_
    exact hs
  try clear_value x0
  refine next_outside ?_
  split
  · exact q1
  · extract_lets +onlyGivenNames -merge -underBinder x2
    have q3 : State.outside M x2 = r := by
      unfold x2
      refine State.takeFired_outside hSched ?_
      exact q1
    try clear_value x2
    extract_lets +onlyGivenNames -merge -underBinder x4
    have q5 : State.outside M x4 = r := by
      unfold x4
      refine State.setCal_outside hRadio ?_
      exact q3
    try clear_value x4
    refine ite_outside ?_ ?_
    · exact q1
    · refine ite_outside ?_ ?_
      · refine State.femDrive_outside hPins ?_
        refine State.each_outside ?_ ?_
        · intro t6 q7 z8
          refine State.setRx_outside hRxTiles ?_
          exact q7
        · exact q5
      · refine ite_outside ?_ ?_
        · refine State.setCal_outside hRadio ?_
          exact q1
        · exact q1

theorem execStampLock_outside {M : Touch} {r : State} {s : State} (hResults : M.results = true) (hRadio : M.radio = true) (hPorts : M.ports = true) (hRxTiles : M.rxTiles = true) (hTxTiles : M.txTiles = true) (hs : s.outside M = r) :
    NextOutside M r (execStampLock s) := by
  unfold execStampLock
  refine next_outside ?_
  refine ite_outside ?_ ?_
  · exact hs
  · refine State.stampLock_outside hResults hRadio hPorts hRxTiles hTxTiles ?_
    exact hs

end Sys2Proof.Machine
end

