-- ==== Sys2Proof/Laws/Frame/GirthSync.lean ====
section
/-! SUPPORT. What the operations of Machine/GirthSync.lean leave alone. -/

namespace Sys2Proof.Machine

theorem State.acknowledge_outside {M : Touch} {r : State} {s : State} {f : Heard} {y : Sync} (hPins : M.pins = true) (hDict : M.dict = true) (hNums : M.Nums Nums53) (hResults : M.results = true) (hLogs : M.logs = true) (hVbat : M.vbat = true) (hPorts : M.ports = true) (hRxTiles : M.rxTiles = true) (hTxTiles : M.txTiles = true) (hRecs : M.recs = true) (hCinch : M.cinch = true) (hKeeper : M.keeper = true) (hStraps : M.straps = true) (hJournal : M.journal = true) (hNodeQueues : M.nodeQueues = true) (hLacing : M.lacing = true) (hEdges : M.edges = true) (hFlags : M.flags = true) (hReports : M.reports = true) (hs : s.outside M = r) :
    (State.acknowledge s f y).1.outside M = r := by
  unfold State.acknowledge
  extract_lets +onlyGivenNames -merge -underBinder x0
  try clear_value x0
  extract_lets +onlyGivenNames -merge -underBinder x1
  try clear_value x1
  refine ite_fst_outside ?_ ?_
  · refine fst_outside ?_
    exact hs
  · split
    · refine fst_outside ?_
      exact hs
    · extract_lets +onlyGivenNames -merge -underBinder x2
      try clear_value x2
      extract_lets +onlyGivenNames -merge -underBinder x3
      try clear_value x3
      refine fst_outside ?_
      refine State.commit_outside hPins hDict hNums hResults hLogs hVbat hPorts hRxTiles hTxTiles hRecs hCinch hKeeper hStraps hJournal hNodeQueues hLacing hEdges hFlags hReports ?_
      exact hs

theorem State.acknowledge_keeps {s : State} {f : Heard} {y : Sync} : Kept117 s (State.acknowledge s f y).1 :=
  .of (State.acknowledge_outside rfl rfl rfl rfl rfl rfl rfl rfl rfl rfl rfl rfl rfl rfl rfl rfl rfl rfl rfl rfl)

theorem State.acknowledge_rd {s : State} {f : Heard} {y : Sync} {kk : Nat} (hkey : Nums53.contains (Key.fam kk) = false) : (State.acknowledge s f y).1.rd kk = s.rd kk :=
  State.rd_of_outside (M := .but Nums53) (State.acknowledge_outside rfl rfl .self rfl rfl rfl rfl rfl rfl rfl rfl rfl rfl rfl rfl rfl rfl rfl rfl rfl) rfl hkey

theorem State.assocAnswer_outside {M : Touch} {r : State} {s : State} {f : Heard} {y : Sync} (hDraws : M.draws = true) (hPins : M.pins = true) (hDict : M.dict = true) (hNums : M.Nums Nums53) (hResults : M.results = true) (hLogs : M.logs = true) (hVbat : M.vbat = true) (hPorts : M.ports = true) (hRxTiles : M.rxTiles = true) (hTxTiles : M.txTiles = true) (hRecs : M.recs = true) (hCinch : M.cinch = true) (hKeeper : M.keeper = true) (hStraps : M.straps = true) (hJournal : M.journal = true) (hNodeQueues : M.nodeQueues = true) (hLacing : M.lacing = true) (hEdges : M.edges = true) (hFlags : M.flags = true) (hReports : M.reports = true) (hs : s.outside M = r) :
    (State.assocAnswer s f y).1.outside M = r := by
  unfold State.assocAnswer
  extract_lets +onlyGivenNames -merge -underBinder x0
  try clear_value x0
  extract_lets +onlyGivenNames -merge -underBinder x1
  try clear_value x1
  refine ite_fst_outside ?_ ?_
  · refine fst_outside ?_
    exact hs
  · split
    · refine fst_outside ?_
      exact hs
    · extract_lets +onlyGivenNames -merge -underBinder x2
      try clear_value x2
      extract_lets +onlyGivenNames -merge -underBinder x3
      have q4 : State.outside M x3 = r := by
        unfold x3
        refine State.drawn_outside hDraws ?_
        exact hs
      try clear_value x3
      extract_lets +onlyGivenNames -merge -underBinder x5
      try clear_value x5
      refine fst_outside ?_
      refine State.commit_outside hPins hDict hNums hResults hLogs hVbat hPorts hRxTiles hTxTiles hRecs hCinch hKeeper hStraps hJournal hNodeQueues hLacing hEdges hFlags hReports ?_
      exact q4

theorem State.assocAnswer_keeps {s : State} {f : Heard} {y : Sync} : Kept118 s (State.assocAnswer s f y).1 :=
  .of (State.assocAnswer_outside rfl rfl rfl rfl rfl rfl rfl rfl rfl rfl rfl rfl rfl rfl rfl rfl rfl rfl rfl rfl rfl)

theorem State.assocAnswer_rd {s : State} {f : Heard} {y : Sync} {kk : Nat} (hkey : Nums53.contains (Key.fam kk) = false) : (State.assocAnswer s f y).1.rd kk = s.rd kk :=
  State.rd_of_outside (M := .but Nums53) (State.assocAnswer_outside rfl rfl rfl .self rfl rfl rfl rfl rfl rfl rfl rfl rfl rfl rfl rfl rfl rfl rfl rfl rfl) rfl hkey

theorem State.assocUnknown_outside {M : Touch} {r : State} {s : State} {t : Nat} {eui : Nat} (hDict : M.dict = true) (hNums : M.Nums Nums2) (hLogs : M.logs = true) (hStraps : M.straps = true) (hJournal : M.journal = true) (hEdges : M.edges = true) (hFlags : M.flags = true) (hs : s.outside M = r) :
    (State.assocUnknown s t eui).outside M = r := by
  unfold State.assocUnknown
  refine State.post_outside hDict hNums hLogs hStraps hJournal hEdges hFlags ?_
  exact hs

theorem State.assocUnknown_keeps {s : State} {t : Nat} {eui : Nat} : Kept8 s (State.assocUnknown s t eui) :=
  .of (State.assocUnknown_outside rfl rfl rfl rfl rfl rfl rfl rfl)

theorem State.assocUnknown_rd {s : State} {t : Nat} {eui : Nat} {kk : Nat} (hkey : Nums2.contains (Key.fam kk) = false) : (State.assocUnknown s t eui).rd kk = s.rd kk :=
  State.rd_of_outside (M := .but Nums2) (State.assocUnknown_outside rfl .self rfl rfl rfl rfl rfl rfl) rfl hkey

theorem State.chargeHeard_outside {M : Touch} {r : State} {s : State} {f : Heard} {ans : Option Nat} (hDict : M.dict = true) (hNums : M.Nums Nums2) (hLogs : M.logs = true) (hRecs : M.recs = true) (hStraps : M.straps = true) (hJournal : M.journal = true) (hEdges : M.edges = true) (hFlags : M.flags = true) (hs : s.outside M = r) :
    (State.chargeHeard s f ans).outside M = r := by
  unfold State.chargeHeard
  extract_lets +onlyGivenNames -merge -underBinder x0
  try clear_value x0
  extract_lets +onlyGivenNames -merge -underBinder x1
  try clear_value x1
  extract_lets +onlyGivenNames -merge -underBinder x2
  try clear_value x2
  extract_lets +onlyGivenNames -merge -underBinder x3
  try clear_value x3
  extract_lets +onlyGivenNames -merge -underBinder x4
  try clear_value x4
  refine ite_outside ?_ ?_
  · refine State.modCell_outside hRecs ?_
    exact hs
  · refine State.charge_outside hDict hNums hLogs hRecs hStraps hJournal hEdges hFlags ?_
    exact hs

theorem State.chargeHeard_keeps {s : State} {f : Heard} {ans : Option Nat} : Kept76 s (State.chargeHeard s f ans) :=
  .of (State.chargeHeard_outside rfl rfl rfl rfl rfl rfl rfl rfl rfl)

theorem State.chargeHeard_rd {s : State} {f : Heard} {ans : Option Nat} {kk : Nat} (hkey : Nums2.contains (Key.fam kk) = false) : (State.chargeHeard s f ans).rd kk = s.rd kk :=
  State.rd_of_outside (M := .but Nums2) (State.chargeHeard_outside rfl .self rfl rfl rfl rfl rfl rfl rfl) rfl hkey

theorem State.refindCompat_outside {M : Touch} {r : State} {s : State} {n : Nat} {first : Nat} (hDict : M.dict = true) (hNums : M.Nums Nums23) (hLogs : M.logs = true) (hRecs : M.recs = true) (hStraps : M.straps = true) (hJournal : M.journal = true) (hEdges : M.edges = true) (hFlags : M.flags = true) (hs : s.outside M = r) :
    (State.refindCompat s n first).outside M = r := by
  unfold State.refindCompat
  have q (o : Option Int) : State.outside M (match o with | some e => s.modHw n (fun h => { h with offset := roundUs e }) | none => s) = r := by
    cases o
    · exact hs
    · exact State.modHw_outside hRecs hs
  refine ite_outside (State.desync_outside hDict hNums hLogs hRecs hStraps hJournal hEdges hFlags ?_) ?_ <;>
    exact State.resync_outside hRecs (State.contact_outside hRecs (q _))

theorem State.refindCompat_keeps {s : State} {n : Nat} {first : Nat} : Kept76 s (State.refindCompat s n first) :=
  .of (State.refindCompat_outside rfl rfl rfl rfl rfl rfl rfl rfl rfl)

theorem State.refindCompat_rd {s : State} {n : Nat} {first : Nat} {kk : Nat} (hkey : Nums23.contains (Key.fam kk) = false) : (State.refindCompat s n first).rd kk = s.rd kk :=
  State.rd_of_outside (M := .but Nums23) (State.refindCompat_outside rfl .self rfl rfl rfl rfl rfl rfl rfl) rfl hkey

theorem State.syncCompat_outside {M : Touch} {r : State} {s : State} {a0 : Nat} {first : Nat} (hDict : M.dict = true) (hNums : M.Nums Nums23) (hLogs : M.logs = true) (hRecs : M.recs = true) (hStraps : M.straps = true) (hJournal : M.journal = true) (hEdges : M.edges = true) (hFlags : M.flags = true) (hs : s.outside M = r) :
    (State.syncCompat s a0 first).outside M = r := by
  unfold State.syncCompat
  extract_lets +onlyGivenNames -merge -underBinder x1
  try clear_value x1
  refine ite_outside ?_ ?_
  · split
    · refine ite_outside ?_ ?_
      · refine State.contact_outside hRecs ?_
        refine State.modHw_outside hRecs ?_
        exact hs
      · refine State.refindCompat_outside hDict hNums hLogs hRecs hStraps hJournal hEdges hFlags ?_
        refine State.desync_outside hDict hNums hLogs hRecs hStraps hJournal hEdges hFlags ?_
        exact hs
    · refine State.refindCompat_outside hDict hNums hLogs hRecs hStraps hJournal hEdges hFlags ?_
      refine State.desync_outside hDict hNums hLogs hRecs hStraps hJournal hEdges hFlags ?_
      exact hs
  · refine ite_outside ?_ ?_
    · refine State.refindCompat_outside hDict hNums hLogs hRecs hStraps hJournal hEdges hFlags ?_
      exact hs
    · refine State.contact_outside hRecs ?_
      exact hs

theorem State.syncCompat_keeps {s : State} {a0 : Nat} {first : Nat} : Kept76 s (State.syncCompat s a0 first) :=
  .of (State.syncCompat_outside rfl rfl rfl rfl rfl rfl rfl rfl rfl)

theorem State.syncCompat_rd {s : State} {a0 : Nat} {first : Nat} {kk : Nat} (hkey : Nums23.contains (Key.fam kk) = false) : (State.syncCompat s a0 first).rd kk = s.rd kk :=
  State.rd_of_outside (M := .but Nums23) (State.syncCompat_outside rfl .self rfl rfl rfl rfl rfl rfl rfl) rfl hkey

theorem State.syncNative_outside {M : Touch} {r : State} {s : State} {a0 : Nat} {first : Nat} {short : Bool} (hDict : M.dict = true) (hNums : M.Nums Nums23) (hLogs : M.logs = true) (hRecs : M.recs = true) (hStraps : M.straps = true) (hJournal : M.journal = true) (hEdges : M.edges = true) (hFlags : M.flags = true) (hs : s.outside M = r) :
    (State.syncNative s a0 first short).1.outside M = r := by
  unfold State.syncNative
  extract_lets +onlyGivenNames -merge -underBinder x1
  try clear_value x1
  extract_lets +onlyGivenNames -merge -underBinder x2
  have q3 : State.outside M x2 = r := by
    unfold x2
    refine State.contact_outside hRecs ?_
    exact hs
  try clear_value x2
  extract_lets +onlyGivenNames -merge -underBinder x4
  try clear_value x4
  extract_lets +onlyGivenNames -merge -underBinder x5
  try clear_value x5
  extract_lets +onlyGivenNames -merge -underBinder x6
  try clear_value x6
  refine ite_fst_outside ?_ ?_
  · split
    · refine fst_outside ?_
      exact q3
    · refine fst_outside ?_
      refine State.resync_outside hRecs ?_
      refine State.desync_outside hDict hNums hLogs hRecs hStraps hJournal hEdges hFlags ?_
      exact q3
  · refine ite_fst_outside ?_ ?_
    · refine fst_outside ?_
      refine State.resync_outside hRecs ?_
      exact q3
    · refine ite_fst_outside ?_ ?_
      · refine ite_fst_outside ?_ ?_
        · refine fst_outside ?_
          refine State.modHw_outside hRecs ?_
          exact q3
        · refine fst_outside ?_
          exact q3
      · refine fst_outside ?_
        exact q3

theorem State.syncNative_keeps {s : State} {a0 : Nat} {first : Nat} {short : Bool} : Kept76 s (State.syncNative s a0 first short).1 :=
  .of (State.syncNative_outside rfl rfl rfl rfl rfl rfl rfl rfl rfl)

theorem State.syncNative_rd {s : State} {a0 : Nat} {first : Nat} {short : Bool} {kk : Nat} (hkey : Nums23.contains (Key.fam kk) = false) : (State.syncNative s a0 first short).1.rd kk = s.rd kk :=
  State.rd_of_outside (M := .but Nums23) (State.syncNative_outside rfl .self rfl rfl rfl rfl rfl rfl rfl) rfl hkey

theorem State.toHarness_outside {M : Touch} {r : State} {s : State} {f : Heard} (hArrivals : M.arrivals = true) (hs : s.outside M = r) :
    (State.toHarness s f).outside M = r := by
  unfold State.toHarness
  extract_lets +onlyGivenNames -merge -underBinder x0
  unfold x0
  clear x0
  refine Eq.trans (State.outside_har_arrivals (h0 := hArrivals) ..) ?_
  exact hs

theorem State.toHarness_keeps {s : State} {f : Heard} : Kept119 s (State.toHarness s f) :=
  .of (State.toHarness_outside rfl rfl)

theorem State.heard_outside {M : Touch} {r : State} {s : State} {f : Heard} (hDraws : M.draws = true) (hPins : M.pins = true) (hDict : M.dict = true) (hNums : M.Nums Nums101) (hResults : M.results = true) (hLogs : M.logs = true) (hVbat : M.vbat = true) (hPorts : M.ports = true) (hRxTiles : M.rxTiles = true) (hTxTiles : M.txTiles = true) (hRecs : M.recs = true) (hCinch : M.cinch = true) (hKeeper : M.keeper = true) (hStraps : M.straps = true) (hJournal : M.journal = true) (hNodeQueues : M.nodeQueues = true) (hTables : M.tables = true) (hHalter : M.halter = true) (hArrivals : M.arrivals = true) (hLacing : M.lacing = true) (hEdges : M.edges = true) (hFlags : M.flags = true) (hReports : M.reports = true) (hs : s.outside M = r) :
    (State.heard s f).outside M = r := by
  unfold State.heard
  extract_lets +onlyGivenNames -merge -underBinder x0
  try clear_value x0
  extract_lets +onlyGivenNames -merge -underBinder x1
  try clear_value x1
  extract_lets +onlyGivenNames -merge -underBinder x2
  have q3 : State.outside M x2 = r := by
    unfold x2
    refine State.modHw_outside hRecs ?_
    exact hs
  try clear_value x2
  extract_lets +onlyGivenNames -merge -underBinder x4
  have q5 : State.outside M x4 = r := by
    unfold x4
    refine State.learn_outside hDict (hNums.sub rfl) hLogs hStraps hJournal hTables hHalter hEdges hFlags ?_
    exact q3
  try clear_value x4
  extract_lets +onlyGivenNames -merge -underBinder x6
  try clear_value x6
  split
  · rename_i t7 t9 e10
    have q8 : State.outside M t7 = r := by
      refine Eq.trans (congrArg (fun p => State.outside M p.1) e10).symm ?_
      refine ite_fst_outside ?_ ?_
      · refine fst_outside ?_
        refine State.syncCompat_outside hDict (hNums.sub rfl) hLogs hRecs hStraps hJournal hEdges hFlags ?_
        exact q5
      · refine State.syncNative_outside hDict (hNums.sub rfl) hLogs hRecs hStraps hJournal hEdges hFlags ?_
        exact q5
    extract_lets +onlyGivenNames -merge -underBinder x11
    have q12 : State.outside M x11.1 = r := by
      unfold x11
      split
      · refine State.assocAnswer_outside hDraws hPins hDict (hNums.sub rfl) hResults hLogs hVbat hPorts hRxTiles hTxTiles hRecs hCinch hKeeper hStraps hJournal hNodeQueues hLacing hEdges hFlags hReports ?_
        exact q8
      · refine State.acknowledge_outside hPins hDict (hNums.sub rfl) hResults hLogs hVbat hPorts hRxTiles hTxTiles hRecs hCinch hKeeper hStraps hJournal hNodeQueues hLacing hEdges hFlags hReports ?_
        exact q8
      · refine State.acknowledge_outside hPins hDict (hNums.sub rfl) hResults hLogs hVbat hPorts hRxTiles hTxTiles hRecs hCinch hKeeper hStraps hJournal hNodeQueues hLacing hEdges hFlags hReports ?_
        exact q8
      · refine fst_outside ?_
        exact q8
      · refine fst_outside ?_
        exact q8
    try clear_value x11
    extract_lets +onlyGivenNames -merge -underBinder x13
    have q14 : State.outside M x13 = r := by
      unfold x13
      refine State.chargeHeard_outside hDict (hNums.sub rfl) hLogs hRecs hStraps hJournal hEdges hFlags ?_
      exact q12
    try clear_value x13
    extract_lets +onlyGivenNames -merge -underBinder x15
    have q16 : State.outside M x15 = r := by
      unfold x15
      split
      · refine State.modHw_outside hRecs ?_
        exact q14
      · refine State.modHw_outside hRecs ?_
        exact q14
      · exact q14
      · exact q14
      · exact q14
    try clear_value x15
    extract_lets +onlyGivenNames -merge -underBinder x17
    try clear_value x17
    refine ite_outside ?_ ?_
    · exact q14
    · refine ite_outside ?_ ?_
      · refine State.laceReport_outside (hNums.sub rfl) hStraps hFlags ?_
        exact q16
      · refine State.toHarness_outside hArrivals ?_
        exact q16

theorem State.heard_keeps {s : State} {f : Heard} : Kept120 s (State.heard s f) :=
  .of (State.heard_outside rfl rfl rfl rfl rfl rfl rfl rfl rfl rfl rfl rfl rfl rfl rfl rfl rfl rfl rfl rfl rfl rfl rfl rfl)

theorem State.heard_rd {s : State} {f : Heard} {kk : Nat} (hkey : Nums101.contains (Key.fam kk) = false) : (State.heard s f).rd kk = s.rd kk :=
  State.rd_of_outside (M := .but Nums101) (State.heard_outside rfl rfl rfl .self rfl rfl rfl rfl rfl rfl rfl rfl rfl rfl rfl rfl rfl rfl rfl rfl rfl rfl rfl rfl) rfl hkey

theorem execAssocRequestRx_outside {M : Touch} {r : State} {t : Fin 256} {eui : Nat} {p : Fin 4} {mode : Nat} {freq : Nat} {dsn : Nat} {dt : Nat} {s : State} (hDraws : M.draws = true) (hPins : M.pins = true) (hClock : M.clock = true) (hDict : M.dict = true) (hNums : M.Nums Nums53) (hResults : M.results = true) (hLogs : M.logs = true) (hVbat : M.vbat = true) (hPorts : M.ports = true) (hRxTiles : M.rxTiles = true) (hTxTiles : M.txTiles = true) (hRecs : M.recs = true) (hCinch : M.cinch = true) (hKeeper : M.keeper = true) (hStraps : M.straps = true) (hJournal : M.journal = true) (hNodeQueues : M.nodeQueues = true) (hLacing : M.lacing = true) (hEdges : M.edges = true) (hFlags : M.flags = true) (hReports : M.reports = true) (hs : s.outside M = r) :
    NextOutside M r (execAssocRequestRx t eui p mode freq dsn dt s) := by
  unfold execAssocRequestRx
  extract_lets +onlyGivenNames -merge -underBinder x0
  have q1 : State.outside M x0 = r := by
    unfold x0
    refine State.advance_outside hClock hVbat ?_
    exact hs
  try clear_value x0
  refine next_outside ?_
  split
  · refine State.assocUnknown_outside hDict (hNums.sub rfl) hLogs hStraps hJournal hEdges hFlags ?_
    exact q1
  · extract_lets +onlyGivenNames -merge -underBinder x2
    try clear_value x2
    extract_lets +onlyGivenNames -merge -underBinder x3
    try clear_value x3
    extract_lets +onlyGivenNames -merge -underBinder x4
    try clear_value x4
    refine ite_outside ?_ ?_
    · exact q1
    · split
      · rename_i t5 t7 e8
        have q6 : State.outside M t5 = r := by
          refine Eq.trans (congrArg (fun p => State.outside M p.1) e8).symm ?_
          refine ite_fst_outside ?_ ?_
          · refine fst_outside ?_
            exact q1
          · refine State.syncNative_outside hDict (hNums.sub rfl) hLogs hRecs hStraps hJournal hEdges hFlags ?_
            exact q1
        refine State.assocAnswer_outside hDraws hPins hDict hNums hResults hLogs hVbat hPorts hRxTiles hTxTiles hRecs hCinch hKeeper hStraps hJournal hNodeQueues hLacing hEdges hFlags hReports ?_
        exact q6

end Sys2Proof.Machine
end

