-- ==== Sys2Proof/Laws/Frame/GirthMac.lean ====
section
/-! SUPPORT. What the operations of Machine/GirthMac.lean leave alone. -/

namespace Sys2Proof.Machine

theorem State.abandon_outside {M : Touch} {r : State} {s : State} {a0 : Nat} (hDict : M.dict = true) (hNums : M.Nums Nums9) (hLogs : M.logs = true) (hRecs : M.recs = true) (hSched : M.sched = true) (hStraps : M.straps = true) (hJournal : M.journal = true) (hNodeQueues : M.nodeQueues = true) (hLacing : M.lacing = true) (hEdges : M.edges = true) (hFlags : M.flags = true) (hReports : M.reports = true) (hs : s.outside M = r) :
    (State.abandon s a0).outside M = r := by
  unfold State.abandon
  extract_lets +onlyGivenNames -merge -underBinder x1
  try clear_value x1
  extract_lets +onlyGivenNames -merge -underBinder x2
  try clear_value x2
  extract_lets +onlyGivenNames -merge -underBinder x3
  try clear_value x3
  extract_lets +onlyGivenNames -merge -underBinder x4
  have q5 : State.outside M x4 = r := by
    unfold x4
    refine State.wheelDrop_outside hSched ?_
    exact hs
  try clear_value x4
  extract_lets +onlyGivenNames -merge -underBinder x6
  try clear_value x6
  refine ite_outside ?_ ?_
  · refine State.girthPost_outside hDict (hNums.sub rfl) hLogs hStraps hJournal hEdges hFlags ?_
    refine State.laceForget_outside hDict (hNums.sub rfl) hLogs hStraps hJournal hLacing hEdges hFlags ?_
    refine State.setRec_outside hRecs ?_
    refine State.unschedule_outside hSched ?_
    refine State.undeliverAll_outside hDict (hNums.sub rfl) hLogs hStraps hJournal hNodeQueues hEdges hFlags hReports ?_
    exact hs
  · refine ite_outside ?_ ?_
    · refine State.girthPost_outside hDict (hNums.sub rfl) hLogs hStraps hJournal hEdges hFlags ?_
      refine State.setRec_outside hRecs ?_
      exact q5
    · exact hs

theorem State.abandon_keeps {s : State} {a0 : Nat} : Kept135 s (State.abandon s a0) :=
  .of (State.abandon_outside rfl rfl rfl rfl rfl rfl rfl rfl rfl rfl rfl rfl rfl)

theorem State.abandon_rd {s : State} {a0 : Nat} {kk : Nat} (hkey : Nums9.contains (Key.fam kk) = false) : (State.abandon s a0).rd kk = s.rd kk :=
  State.rd_of_outside (M := .but Nums9) (State.abandon_outside rfl .self rfl rfl rfl rfl rfl rfl rfl rfl rfl rfl rfl) rfl hkey

theorem State.burstAnew_outside {M : Touch} {r : State} {s : State} {k : Nat} (hNums : M.Nums Nums27) (hLacing : M.lacing = true) (hs : s.outside M = r) :
    (State.burstAnew s k).outside M = r := by
  unfold State.burstAnew
  extract_lets +onlyGivenNames -merge -underBinder x0
  try clear_value x0
  extract_lets +onlyGivenNames -merge -underBinder x1
  have q2 : State.outside M x1 = r := by
    unfold x1
    refine State.setCamp_outside hLacing ?_
    exact hs
  try clear_value x1
  extract_lets +onlyGivenNames -merge -underBinder x3
  have q4 : State.outside M x3 = r := by
    unfold x3
    refine State.each_outside ?_ ?_
    · intro t5 q6 z7
      refine State.laceUnsent_outside hLacing ?_
      refine State.release_outside hNums ?_
      exact q6
    · exact q2
  try clear_value x3
  extract_lets +onlyGivenNames -merge -underBinder x8
  try clear_value x8
  refine State.setCamp_outside hLacing ?_
  exact q4

theorem State.burstAnew_keeps {s : State} {k : Nat} : Kept132 s (State.burstAnew s k) :=
  .of (State.burstAnew_outside rfl rfl rfl)

theorem State.burstAnew_rd {s : State} {k : Nat} {kk : Nat} (hkey : Nums27.contains (Key.fam kk) = false) : (State.burstAnew s k).rd kk = s.rd kk :=
  State.rd_of_outside (M := .but Nums27) (State.burstAnew_outside .self rfl rfl) rfl hkey

theorem State.framesFollow_outside {M : Touch} {r : State} {s : State} {old : State} (hNums : M.Nums Nums27) (hSched : M.sched = true) (hLacing : M.lacing = true) (hs : s.outside M = r) :
    (State.framesFollow s old).outside M = r := by
  unfold State.framesFollow
  extract_lets +onlyGivenNames -merge -underBinder x0
  try clear_value x0
  extract_lets +onlyGivenNames -merge -underBinder x1
  try clear_value x1
  extract_lets +onlyGivenNames -merge -underBinder x2
  try clear_value x2
  extract_lets +onlyGivenNames -merge -underBinder x3
  have q4 : State.outside M x3 = r := by
    unfold x3
    refine State.wheelDrop_outside hSched ?_
    exact hs
  try clear_value x3
  refine State.each_outside ?_ ?_
  · intro t5 q6 z7
    refine State.burstAnew_outside hNums hLacing ?_
    exact q6
  · exact q4

theorem State.framesFollow_keeps {s : State} {old : State} : Kept136 s (State.framesFollow s old) :=
  .of (State.framesFollow_outside rfl rfl rfl rfl)

theorem State.framesFollow_rd {s : State} {old : State} {kk : Nat} (hkey : Nums27.contains (Key.fam kk) = false) : (State.framesFollow s old).rd kk = s.rd kk :=
  State.rd_of_outside (M := .but Nums27) (State.framesFollow_outside .self rfl rfl rfl) rfl hkey

theorem State.compatLost_outside {M : Touch} {r : State} {s : State} {t : Nat} {old : List Nat} (hDict : M.dict = true) (hNums : M.Nums Nums2) (hLogs : M.logs = true) (hStraps : M.straps = true) (hJournal : M.journal = true) (hEdges : M.edges = true) (hFlags : M.flags = true) (hs : s.outside M = r) :
    (State.compatLost s t old).outside M = r := by
  unfold State.compatLost
  refine State.each_outside ?_ ?_
  · intro t0 q1 z2
    extract_lets +onlyGivenNames -merge -underBinder x3
    try clear_value x3
    extract_lets +onlyGivenNames -merge -underBinder x4
    try clear_value x4
    extract_lets +onlyGivenNames -merge -underBinder x5
    try clear_value x5
    extract_lets +onlyGivenNames -merge -underBinder x6
    try clear_value x6
    refine ite_outside ?_ ?_
    · refine State.post_outside hDict hNums hLogs hStraps hJournal hEdges hFlags ?_
      exact q1
    · exact q1
  · exact hs

theorem State.compatLost_keeps {s : State} {t : Nat} {old : List Nat} : Kept8 s (State.compatLost s t old) :=
  .of (State.compatLost_outside rfl rfl rfl rfl rfl rfl rfl rfl)

theorem State.compatLost_rd {s : State} {t : Nat} {old : List Nat} {kk : Nat} (hkey : Nums2.contains (Key.fam kk) = false) : (State.compatLost s t old).rd kk = s.rd kk :=
  State.rd_of_outside (M := .but Nums2) (State.compatLost_outside rfl .self rfl rfl rfl rfl rfl rfl) rfl hkey

theorem State.slotChange_outside {M : Touch} {r : State} {s : State} (hDict : M.dict = true) (hNums : M.Nums Nums59) (hLogs : M.logs = true) (hRecs : M.recs = true) (hSched : M.sched = true) (hStraps : M.straps = true) (hJournal : M.journal = true) (hNodeQueues : M.nodeQueues = true) (hLacing : M.lacing = true) (hEdges : M.edges = true) (hFlags : M.flags = true) (hReports : M.reports = true) (hs : s.outside M = r) :
    (State.slotChange s).outside M = r := by
  unfold State.slotChange
  extract_lets +onlyGivenNames -merge -underBinder x0
  have q1 : State.outside M x0 = r := by
    unfold x0
    refine State.wheelDrop_outside hSched ?_
    exact hs
  try clear_value x0
  extract_lets +onlyGivenNames -merge -underBinder x2
  try clear_value x2
  extract_lets +onlyGivenNames -merge -underBinder x3
  have q4 : State.outside M x3 = r := by
    unfold x3
    refine State.setSched_outside hSched ?_
    exact q1
  try clear_value x3
  extract_lets +onlyGivenNames -merge -underBinder x5
  have q6 : State.outside M x5 = r := by
    unfold x5
    refine State.each_outside ?_ ?_
    · intro t7 q8 z9
      extract_lets +onlyGivenNames -merge -underBinder x10
      try clear_value x10
      extract_lets +onlyGivenNames -merge -underBinder x11
      have q12 : State.outside M x11 = r := by
        unfold x11
        refine State.setRec_outside hRecs ?_
        exact q8
      try clear_value x11
      extract_lets +onlyGivenNames -merge -underBinder x13
      have q14 : State.outside M x13 = r := by
        unfold x13
        refine ite_outside ?_ ?_
        · refine State.abandon_outside hDict (hNums.sub rfl) hLogs hRecs hSched hStraps hJournal hNodeQueues hLacing hEdges hFlags hReports ?_
          exact q12
        · exact q12
      try clear_value x13
      extract_lets +onlyGivenNames -merge -underBinder x15
      try clear_value x15
      refine ite_outside ?_ ?_
      · refine State.desync_outside hDict (hNums.sub rfl) hLogs hRecs hStraps hJournal hEdges hFlags ?_
        exact q14
      · exact q14
    · exact q4
  try clear_value x5
  extract_lets +onlyGivenNames -merge -underBinder x16
  have q17 : State.outside M x16 = r := by
    unfold x16
    refine State.each_outside ?_ ?_
    · intro t18 q19 z20
      refine State.burstAnew_outside (hNums.sub rfl) hLacing ?_
      exact q19
    · exact q6
  try clear_value x16
  refine State.askRebuild_outside hSched ?_
  exact q17

theorem State.slotChange_keeps {s : State} : Kept135 s (State.slotChange s) :=
  .of (State.slotChange_outside rfl rfl rfl rfl rfl rfl rfl rfl rfl rfl rfl rfl rfl)

theorem State.slotChange_rd {s : State} {kk : Nat} (hkey : Nums59.contains (Key.fam kk) = false) : (State.slotChange s).rd kk = s.rd kk :=
  State.rd_of_outside (M := .but Nums59) (State.slotChange_outside rfl .self rfl rfl rfl rfl rfl rfl rfl rfl rfl rfl rfl) rfl hkey

theorem State.slotframesApplied_outside {M : Touch} {r : State} {s : State} (hDict : M.dict = true) (hNums : M.Nums Nums2) (hLogs : M.logs = true) (hStraps : M.straps = true) (hJournal : M.journal = true) (hEdges : M.edges = true) (hFlags : M.flags = true) (hs : s.outside M = r) :
    (State.slotframesApplied s).outside M = r := by
  unfold State.slotframesApplied
  refine State.each_outside ?_ ?_
  · intro t0 q1 z2
    refine State.post_outside hDict hNums hLogs hStraps hJournal hEdges hFlags ?_
    exact q1
  · exact hs

theorem State.slotframesApplied_keeps {s : State} : Kept8 s (State.slotframesApplied s) :=
  .of (State.slotframesApplied_outside rfl rfl rfl rfl rfl rfl rfl rfl)

theorem State.slotframesApplied_rd {s : State} {kk : Nat} (hkey : Nums2.contains (Key.fam kk) = false) : (State.slotframesApplied s).rd kk = s.rd kk :=
  State.rd_of_outside (M := .but Nums2) (State.slotframesApplied_outside rfl .self rfl rfl rfl rfl rfl rfl) rfl hkey

theorem State.sendIn_outside {M : Touch} {r : State} {s : State} {q : TxReq} (hPins : M.pins = true) (hDict : M.dict = true) (hNums : M.Nums Nums53) (hResults : M.results = true) (hLogs : M.logs = true) (hVbat : M.vbat = true) (hPorts : M.ports = true) (hRxTiles : M.rxTiles = true) (hTxTiles : M.txTiles = true) (hRecs : M.recs = true) (hCinch : M.cinch = true) (hKeeper : M.keeper = true) (hStraps : M.straps = true) (hJournal : M.journal = true) (hNodeQueues : M.nodeQueues = true) (hLacing : M.lacing = true) (hEdges : M.edges = true) (hFlags : M.flags = true) (hReports : M.reports = true) (hs : s.outside M = r) :
    (State.sendIn s q).outside M = r := by
  unfold State.sendIn
  refine ite_outside ?_ ?_
  · exact hs
  · refine State.commit_outside hPins hDict hNums hResults hLogs hVbat hPorts hRxTiles hTxTiles hRecs hCinch hKeeper hStraps hJournal hNodeQueues hLacing hEdges hFlags hReports ?_
    exact hs

theorem State.sendIn_keeps {s : State} {q : TxReq} : Kept117 s (State.sendIn s q) :=
  .of (State.sendIn_outside rfl rfl rfl rfl rfl rfl rfl rfl rfl rfl rfl rfl rfl rfl rfl rfl rfl rfl rfl rfl)

theorem State.sendIn_rd {s : State} {q : TxReq} {kk : Nat} (hkey : Nums53.contains (Key.fam kk) = false) : (State.sendIn s q).rd kk = s.rd kk :=
  State.rd_of_outside (M := .but Nums53) (State.sendIn_outside rfl rfl .self rfl rfl rfl rfl rfl rfl rfl rfl rfl rfl rfl rfl rfl rfl rfl rfl rfl) rfl hkey

theorem State.beacon_outside {M : Touch} {r : State} {s : State} {f : Nat} {t : Nat} {a : Nat} {mode : Nat} (hDraws : M.draws = true) (hPins : M.pins = true) (hDict : M.dict = true) (hNums : M.Nums Nums53) (hResults : M.results = true) (hLogs : M.logs = true) (hVbat : M.vbat = true) (hPorts : M.ports = true) (hRxTiles : M.rxTiles = true) (hTxTiles : M.txTiles = true) (hRecs : M.recs = true) (hCinch : M.cinch = true) (hKeeper : M.keeper = true) (hStraps : M.straps = true) (hJournal : M.journal = true) (hNodeQueues : M.nodeQueues = true) (hLacing : M.lacing = true) (hEdges : M.edges = true) (hFlags : M.flags = true) (hReports : M.reports = true) (hs : s.outside M = r) :
    (State.beacon s f t a mode).outside M = r := by
  unfold State.beacon
  split
  · exact hs
  · extract_lets +onlyGivenNames -merge -underBinder x0
    try clear_value x0
    extract_lets +onlyGivenNames -merge -underBinder x1
    have q2 : State.outside M x1 = r := by
      unfold x1
      refine State.drawn_outside hDraws ?_
      exact hs
    try clear_value x1
    extract_lets +onlyGivenNames -merge -underBinder x3
    try clear_value x3
    extract_lets +onlyGivenNames -merge -underBinder x4
    try clear_value x4
    extract_lets +onlyGivenNames -merge -underBinder x5
    try clear_value x5
    extract_lets +onlyGivenNames -merge -underBinder x6
    try clear_value x6
    refine State.sendIn_outside hPins hDict hNums hResults hLogs hVbat hPorts hRxTiles hTxTiles hRecs hCinch hKeeper hStraps hJournal hNodeQueues hLacing hEdges hFlags hReports ?_
    exact q2

theorem State.beacon_keeps {s : State} {f : Nat} {t : Nat} {a : Nat} {mode : Nat} : Kept118 s (State.beacon s f t a mode) :=
  .of (State.beacon_outside rfl rfl rfl rfl rfl rfl rfl rfl rfl rfl rfl rfl rfl rfl rfl rfl rfl rfl rfl rfl rfl)

theorem State.beacon_rd {s : State} {f : Nat} {t : Nat} {a : Nat} {mode : Nat} {kk : Nat} (hkey : Nums53.contains (Key.fam kk) = false) : (State.beacon s f t a mode).rd kk = s.rd kk :=
  State.rd_of_outside (M := .but Nums53) (State.beacon_outside rfl rfl rfl .self rfl rfl rfl rfl rfl rfl rfl rfl rfl rfl rfl rfl rfl rfl rfl rfl rfl) rfl hkey

theorem State.castIn_outside {M : Touch} {r : State} {s : State} {c : PendingCast} {a : Nat} {mode : Nat} {last : Bool} (hDraws : M.draws = true) (hPins : M.pins = true) (hDict : M.dict = true) (hNums : M.Nums Nums53) (hResults : M.results = true) (hLogs : M.logs = true) (hVbat : M.vbat = true) (hPorts : M.ports = true) (hRxTiles : M.rxTiles = true) (hTxTiles : M.txTiles = true) (hRecs : M.recs = true) (hCinch : M.cinch = true) (hKeeper : M.keeper = true) (hStraps : M.straps = true) (hJournal : M.journal = true) (hNodeQueues : M.nodeQueues = true) (hLacing : M.lacing = true) (hEdges : M.edges = true) (hFlags : M.flags = true) (hReports : M.reports = true) (hs : s.outside M = r) :
    (State.castIn s c a mode last).outside M = r := by
  unfold State.castIn
  split
  · exact hs
  · extract_lets +onlyGivenNames -merge -underBinder x0
    try clear_value x0
    extract_lets +onlyGivenNames -merge -underBinder x1
    have q2 : State.outside M x1 = r := by
      unfold x1
      refine State.drawn_outside hDraws ?_
      exact hs
    try clear_value x1
    refine State.sendIn_outside hPins hDict hNums hResults hLogs hVbat hPorts hRxTiles hTxTiles hRecs hCinch hKeeper hStraps hJournal hNodeQueues hLacing hEdges hFlags hReports ?_
    exact q2

theorem State.castIn_keeps {s : State} {c : PendingCast} {a : Nat} {mode : Nat} {last : Bool} : Kept118 s (State.castIn s c a mode last) :=
  .of (State.castIn_outside rfl rfl rfl rfl rfl rfl rfl rfl rfl rfl rfl rfl rfl rfl rfl rfl rfl rfl rfl rfl rfl)

theorem State.castIn_rd {s : State} {c : PendingCast} {a : Nat} {mode : Nat} {last : Bool} {kk : Nat} (hkey : Nums53.contains (Key.fam kk) = false) : (State.castIn s c a mode last).rd kk = s.rd kk :=
  State.rd_of_outside (M := .but Nums53) (State.castIn_outside rfl rfl rfl .self rfl rfl rfl rfl rfl rfl rfl rfl rfl rfl rfl rfl rfl rfl rfl rfl rfl) rfl hkey

theorem State.castOut_outside {M : Touch} {r : State} {s : State} {c : PendingCast} {a : Nat} (hDraws : M.draws = true) (hPins : M.pins = true) (hDict : M.dict = true) (hNums : M.Nums Nums53) (hResults : M.results = true) (hLogs : M.logs = true) (hVbat : M.vbat = true) (hPorts : M.ports = true) (hRxTiles : M.rxTiles = true) (hTxTiles : M.txTiles = true) (hRecs : M.recs = true) (hCinch : M.cinch = true) (hKeeper : M.keeper = true) (hStraps : M.straps = true) (hJournal : M.journal = true) (hNodeQueues : M.nodeQueues = true) (hLacing : M.lacing = true) (hEdges : M.edges = true) (hFlags : M.flags = true) (hReports : M.reports = true) (hs : s.outside M = r) :
    (State.castOut s c a).outside M = r := by
  unfold State.castOut
  extract_lets +onlyGivenNames -merge -underBinder x0
  try clear_value x0
  refine ite_outside ?_ ?_
  · refine State.reportFinal_outside hReports ?_
    exact hs
  · refine State.each_outside ?_ ?_
    · intro t1 q2 z3
      refine State.castIn_outside hDraws hPins hDict hNums hResults hLogs hVbat hPorts hRxTiles hTxTiles hRecs hCinch hKeeper hStraps hJournal hNodeQueues hLacing hEdges hFlags hReports ?_
      exact q2
    · exact hs

theorem State.castOut_keeps {s : State} {c : PendingCast} {a : Nat} : Kept118 s (State.castOut s c a) :=
  .of (State.castOut_outside rfl rfl rfl rfl rfl rfl rfl rfl rfl rfl rfl rfl rfl rfl rfl rfl rfl rfl rfl rfl rfl)

theorem State.castOut_rd {s : State} {c : PendingCast} {a : Nat} {kk : Nat} (hkey : Nums53.contains (Key.fam kk) = false) : (State.castOut s c a).rd kk = s.rd kk :=
  State.rd_of_outside (M := .but Nums53) (State.castOut_outside rfl rfl rfl .self rfl rfl rfl rfl rfl rfl rfl rfl rfl rfl rfl rfl rfl rfl rfl rfl rfl) rfl hkey

theorem State.fixH_outside {M : Touch} {r : State} {s : State} {a0 : Nat} {a : Nat} {n : Nat} (hNums : M.Nums Nums58) (hRecs : M.recs = true) (hSched : M.sched = true) (hs : s.outside M = r) :
    (State.fixH s a0 a n).outside M = r := by
  unfold State.fixH
  extract_lets +onlyGivenNames -merge -underBinder x1
  try clear_value x1
  split
  · extract_lets +onlyGivenNames -merge -underBinder x2
    try clear_value x2
    extract_lets +onlyGivenNames -merge -underBinder x3
    have q4 : State.outside M x3 = r := by
      unfold x3
      refine State.setRec_outside hRecs ?_
      exact hs
    try clear_value x3
    refine State.wheelEnter_outside hNums hSched ?_
    exact q4
  · exact hs

theorem State.fixH_keeps {s : State} {a0 : Nat} {a : Nat} {n : Nat} : Kept80 s (State.fixH s a0 a n) :=
  .of (State.fixH_outside rfl rfl rfl rfl)

theorem State.fixH_rd {s : State} {a0 : Nat} {a : Nat} {n : Nat} {kk : Nat} (hkey : Nums58.contains (Key.fam kk) = false) : (State.fixH s a0 a n).rd kk = s.rd kk :=
  State.rd_of_outside (M := .but Nums58) (State.fixH_outside .self rfl rfl rfl) rfl hkey

theorem State.serveIn_outside {M : Touch} {r : State} {s : State} {a0 : Nat} {hw : NodeHw} (hDict : M.dict = true) (hNums : M.Nums Nums146) (hLogs : M.logs = true) (hRecs : M.recs = true) (hSched : M.sched = true) (hStraps : M.straps = true) (hJournal : M.journal = true) (hArrivals : M.arrivals = true) (hLacing : M.lacing = true) (hEdges : M.edges = true) (hFlags : M.flags = true) (hs : s.outside M = r) :
    (State.serveIn s a0 hw).outside M = r := by
  unfold State.serveIn
  extract_lets +onlyGivenNames -merge -underBinder x1
  try clear_value x1
  extract_lets +onlyGivenNames -merge -underBinder x2
  try clear_value x2
  split
  · extract_lets +onlyGivenNames -merge -underBinder x3
    try clear_value x3
    extract_lets +onlyGivenNames -merge -underBinder x4
    try clear_value x4
    refine State.laceAdopt_outside hDict (hNums.sub rfl) hLogs hStraps hJournal hArrivals hLacing hEdges hFlags ?_
    refine State.reschedule_outside (hNums.sub rfl) hRecs hSched ?_
    refine State.setRec_outside hRecs ?_
    exact hs

theorem State.serveIn_keeps {s : State} {a0 : Nat} {hw : NodeHw} : Kept137 s (State.serveIn s a0 hw) :=
  .of (State.serveIn_outside rfl rfl rfl rfl rfl rfl rfl rfl rfl rfl rfl rfl)

theorem State.serveIn_rd {s : State} {a0 : Nat} {hw : NodeHw} {kk : Nat} (hkey : Nums146.contains (Key.fam kk) = false) : (State.serveIn s a0 hw).rd kk = s.rd kk :=
  State.rd_of_outside (M := .but Nums146) (State.serveIn_outside rfl .self rfl rfl rfl rfl rfl rfl rfl rfl rfl rfl) rfl hkey

theorem execHandoverConfirm_outside {M : Touch} {r : State} {a0 : Fin 16384} {ok : Bool} {pan : BitVec 16} {s : State} (hOut : M.out = true) (hDict : M.dict = true) (hNums : M.Nums Nums71) (hLogs : M.logs = true) (hRecs : M.recs = true) (hSched : M.sched = true) (hStraps : M.straps = true) (hJournal : M.journal = true) (hNodeQueues : M.nodeQueues = true) (hLacing : M.lacing = true) (hEdges : M.edges = true) (hFlags : M.flags = true) (hReports : M.reports = true) (hs : s.outside M = r) :
    NextOutside M r (execHandoverConfirm a0 ok pan s) := by
  unfold execHandoverConfirm
  extract_lets +onlyGivenNames -merge -underBinder x1
  try clear_value x1
  extract_lets +onlyGivenNames -merge -underBinder x2
  try clear_value x2
  extract_lets +onlyGivenNames -merge -underBinder x3
  try clear_value x3
  extract_lets +onlyGivenNames -merge -underBinder x4
  try clear_value x4
  extract_lets +onlyGivenNames -merge -underBinder x5
  have q6 : State.outside M x5 = r := by
    unfold x5
    refine State.setRec_outside hRecs ?_
    exact hs
  try clear_value x5
  extract_lets +onlyGivenNames -merge -underBinder x7
  try clear_value x7
  extract_lets +onlyGivenNames -merge -underBinder x8
  have q9 : State.outside M x8 = r := by
    unfold x8
    refine State.emit_outside hOut ?_
    exact q6
  try clear_value x8
  refine next_outside ?_
  refine ite_outside ?_ ?_
  · exact hs
  · refine ite_outside ?_ ?_
    · refine State.abandon_outside hDict (hNums.sub rfl) hLogs hRecs hSched hStraps hJournal hNodeQueues hLacing hEdges hFlags hReports ?_
      exact hs
    · refine ite_outside ?_ ?_
      · refine State.fixH_outside (hNums.sub rfl) hRecs hSched ?_
        exact q9
      · exact q9

theorem execHandoverAbandon_outside {M : Touch} {r : State} {a0 : Fin 16384} {s : State} (hDict : M.dict = true) (hNums : M.Nums Nums9) (hLogs : M.logs = true) (hRecs : M.recs = true) (hSched : M.sched = true) (hStraps : M.straps = true) (hJournal : M.journal = true) (hNodeQueues : M.nodeQueues = true) (hLacing : M.lacing = true) (hEdges : M.edges = true) (hFlags : M.flags = true) (hReports : M.reports = true) (hs : s.outside M = r) :
    NextOutside M r (execHandoverAbandon a0 s) := by
  unfold execHandoverAbandon
  refine next_outside ?_
  refine State.abandon_outside hDict hNums hLogs hRecs hSched hStraps hJournal hNodeQueues hLacing hEdges hFlags hReports ?_
  exact hs

theorem execBroadcastDownlink_outside {M : Touch} {r : State} {t : Fin 256} {dt : Nat} {s : State} (hDraws : M.draws = true) (hPins : M.pins = true) (hClock : M.clock = true) (hDict : M.dict = true) (hNums : M.Nums Nums53) (hResults : M.results = true) (hLogs : M.logs = true) (hVbat : M.vbat = true) (hPorts : M.ports = true) (hRxTiles : M.rxTiles = true) (hTxTiles : M.txTiles = true) (hGirth : M.girth = true) (hRecs : M.recs = true) (hSched : M.sched = true) (hCinch : M.cinch = true) (hKeeper : M.keeper = true) (hStraps : M.straps = true) (hJournal : M.journal = true) (hNodeQueues : M.nodeQueues = true) (hLacing : M.lacing = true) (hEdges : M.edges = true) (hFlags : M.flags = true) (hReports : M.reports = true) (hs : s.outside M = r) :
    NextOutside M r (execBroadcastDownlink t dt s) := by
  unfold execBroadcastDownlink
  extract_lets +onlyGivenNames -merge -underBinder x0
  have q1 : State.outside M x0 = r := by
    unfold x0
    refine State.advance_outside hClock hVbat ?_
    exact hs
  try clear_value x0
  extract_lets +onlyGivenNames -merge -underBinder x2
  try clear_value x2
  refine next_outside ?_
  split
  · exact q1
  · extract_lets +onlyGivenNames -merge -underBinder x3
    have q4 : State.outside M x3.1 = r := by
      unfold x3
      refine State.takeFired_outside hSched ?_
      exact q1
    try clear_value x3
    split
    · exact q1
    · extract_lets +onlyGivenNames -merge -underBinder x5
      try clear_value x5
      extract_lets +onlyGivenNames -merge -underBinder x6
      have q7 : State.outside M x6 = r := by
        unfold x6
        exact q4
      try clear_value x6
      extract_lets +onlyGivenNames -merge -underBinder x8
      try clear_value x8
      extract_lets +onlyGivenNames -merge -underBinder x9
      unfold x9
      clear x9
      extract_lets +onlyGivenNames -merge -underBinder x10
      have q11 : State.outside M x10 = r := by
        unfold x10
        refine Eq.trans (State.outside_girth_girth (h0 := hGirth) ..) ?_
        exact q7
      try clear_value x10
      refine ite_outside ?_ ?_
      · exact q4
      · refine State.each_outside ?_ ?_
        · intro t12 q13 z14
          refine State.castOut_outside hDraws hPins hDict hNums hResults hLogs hVbat hPorts hRxTiles hTxTiles hRecs hCinch hKeeper hStraps hJournal hNodeQueues hLacing hEdges hFlags hReports ?_
          exact q13
        · exact q11

theorem execHandoverFinalRx_outside {M : Touch} {r : State} {a0 : Fin 16384} {hw : NodeHw} {dt : Nat} {s : State} (hClock : M.clock = true) (hDict : M.dict = true) (hNums : M.Nums Nums146) (hLogs : M.logs = true) (hVbat : M.vbat = true) (hRecs : M.recs = true) (hSched : M.sched = true) (hStraps : M.straps = true) (hJournal : M.journal = true) (hArrivals : M.arrivals = true) (hLacing : M.lacing = true) (hEdges : M.edges = true) (hFlags : M.flags = true) (hs : s.outside M = r) :
    NextOutside M r (execHandoverFinalRx a0 hw dt s) := by
  unfold execHandoverFinalRx
  extract_lets +onlyGivenNames -merge -underBinder x1
  have q2 : State.outside M x1 = r := by
    unfold x1
    refine State.advance_outside hClock hVbat ?_
    exact hs
  try clear_value x1
  extract_lets +onlyGivenNames -merge -underBinder x3
  try clear_value x3
  extract_lets +onlyGivenNames -merge -underBinder x4
  try clear_value x4
  extract_lets +onlyGivenNames -merge -underBinder x5
  try clear_value x5
  refine next_outside ?_
  refine ite_outside ?_ ?_
  · exact q2
  · refine ite_outside ?_ ?_
    · refine State.serveIn_outside hDict hNums hLogs hRecs hSched hStraps hJournal hArrivals hLacing hEdges hFlags ?_
      exact q2
    · refine State.enterOnce_outside (hNums.sub rfl) hSched ?_
      refine State.setRec_outside hRecs ?_
      exact q2

theorem execHandoverHReached_outside {M : Touch} {r : State} {a0 : Fin 16384} {dt : Nat} {s : State} (hOut : M.out = true) (hClock : M.clock = true) (hDict : M.dict = true) (hNums : M.Nums Nums146) (hLogs : M.logs = true) (hVbat : M.vbat = true) (hGirth : M.girth = true) (hRecs : M.recs = true) (hSched : M.sched = true) (hStraps : M.straps = true) (hJournal : M.journal = true) (hNodeQueues : M.nodeQueues = true) (hArrivals : M.arrivals = true) (hLacing : M.lacing = true) (hEdges : M.edges = true) (hFlags : M.flags = true) (hs : s.outside M = r) :
    NextOutside M r (execHandoverHReached a0 dt s) := by
  unfold execHandoverHReached
  extract_lets +onlyGivenNames -merge -underBinder x1
  have q2 : State.outside M x1 = r := by
    unfold x1
    refine State.advance_outside hClock hVbat ?_
    exact hs
  try clear_value x1
  extract_lets +onlyGivenNames -merge -underBinder x3
  try clear_value x3
  extract_lets +onlyGivenNames -merge -underBinder x4
  try clear_value x4
  refine next_outside ?_
  refine ite_outside ?_ ?_
  · split
    · refine ite_outside ?_ ?_
      · refine State.serveIn_outside hDict hNums hLogs hRecs hSched hStraps hJournal hArrivals hLacing hEdges hFlags ?_
        exact q2
      · exact q2
    · exact q2
  · split
    · exact q2
    · split
      · exact q2
      · extract_lets +onlyGivenNames -merge -underBinder x5
        have q6 : State.outside M x5 = r := by
          unfold x5
          refine State.emit_outside hOut ?_
          exact q2
        try clear_value x5
        extract_lets +onlyGivenNames -merge -underBinder x7
        have q8 : State.outside M x7 = r := by
          unfold x7
          refine State.each_outside ?_ ?_
          · intro t9 q10 z11
            refine State.emit_outside hOut ?_
            exact q10
          · exact q6
        try clear_value x7
        extract_lets +onlyGivenNames -merge -underBinder x12
        have q13 : State.outside M x12 = r := by
          unfold x12
          refine State.unschedule_outside hSched ?_
          refine State.setNodeQ_outside hNodeQueues ?_
          exact q8
        try clear_value x12
        extract_lets +onlyGivenNames -merge -underBinder x14
        have q15 : State.outside M x14 = r := by
          unfold x14
          refine State.laceForget_outside hDict (hNums.sub rfl) hLogs hStraps hJournal hLacing hEdges hFlags ?_
          refine State.setRec_outside hRecs ?_
          exact q13
        try clear_value x14
        extract_lets +onlyGivenNames -merge -underBinder x16
        try clear_value x16
        extract_lets +onlyGivenNames -merge -underBinder x17
        unfold x17
        clear x17
        refine ite_outside ?_ ?_
        · exact q2
        · refine State.girthPost_outside hDict (hNums.sub rfl) hLogs hStraps hJournal hEdges hFlags ?_
          refine Eq.trans (State.outside_girth_girth (h0 := hGirth) ..) ?_
          exact q15

theorem execHandoverStateRx_outside {M : Touch} {r : State} {a0 : Fin 16384} {hw : NodeHw} {s : State} (hRecs : M.recs = true) (hs : s.outside M = r) :
    NextOutside M r (execHandoverStateRx a0 hw s) := by
  unfold execHandoverStateRx
  extract_lets +onlyGivenNames -merge -underBinder x1
  try clear_value x1
  refine next_outside ?_
  refine ite_outside ?_ ?_
  · refine State.setRec_outside hRecs ?_
    exact hs
  · exact hs

theorem execHandoverForwardEnd_outside {M : Touch} {r : State} {dt : Nat} {s : State} (hClock : M.clock = true) (hVbat : M.vbat = true) (hGirth : M.girth = true) (hs : s.outside M = r) :
    NextOutside M r (execHandoverForwardEnd dt s) := by
  unfold execHandoverForwardEnd
  extract_lets +onlyGivenNames -merge -underBinder x0
  have q1 : State.outside M x0 = r := by
    unfold x0
    refine State.advance_outside hClock hVbat ?_
    exact hs
  try clear_value x0
  extract_lets +onlyGivenNames -merge -underBinder x2
  unfold x2
  clear x2
  refine next_outside ?_
  refine Eq.trans (State.outside_girth_girth (h0 := hGirth) ..) ?_
  exact q1

theorem execBeaconSend_outside {M : Touch} {r : State} {f : Fin 32} {dt : Nat} {s : State} (hDraws : M.draws = true) (hPins : M.pins = true) (hClock : M.clock = true) (hDict : M.dict = true) (hNums : M.Nums Nums53) (hResults : M.results = true) (hLogs : M.logs = true) (hVbat : M.vbat = true) (hPorts : M.ports = true) (hRxTiles : M.rxTiles = true) (hTxTiles : M.txTiles = true) (hRecs : M.recs = true) (hSched : M.sched = true) (hCinch : M.cinch = true) (hKeeper : M.keeper = true) (hStraps : M.straps = true) (hJournal : M.journal = true) (hNodeQueues : M.nodeQueues = true) (hLacing : M.lacing = true) (hEdges : M.edges = true) (hFlags : M.flags = true) (hReports : M.reports = true) (hs : s.outside M = r) :
    NextOutside M r (execBeaconSend f dt s) := by
  unfold execBeaconSend
  extract_lets +onlyGivenNames -merge -underBinder x0
  have q1 : State.outside M x0 = r := by
    unfold x0
    refine State.advance_outside hClock hVbat ?_
    exact hs
  try clear_value x0
  extract_lets +onlyGivenNames -merge -underBinder x2
  try clear_value x2
  extract_lets +onlyGivenNames -merge -underBinder x3
  have q4 : State.outside M x3.1 = r := by
    unfold x3
    refine State.takeFired_outside hSched ?_
    exact q1
  try clear_value x3
  extract_lets +onlyGivenNames -merge -underBinder x5
  try clear_value x5
  refine next_outside ?_
  split
  · exact q1
  · refine ite_outside ?_ ?_
    · refine State.each_outside ?_ ?_
      · intro t6 q7 z8
        refine State.beacon_outside hDraws hPins hDict hNums hResults hLogs hVbat hPorts hRxTiles hTxTiles hRecs hCinch hKeeper hStraps hJournal hNodeQueues hLacing hEdges hFlags hReports ?_
        exact q7
      · exact q4
    · exact q4

end Sys2Proof.Machine
end

