-- ==== Sys2Proof/Laws/Frame/Sched.lean ====
section
/-! SUPPORT. What the operations of Machine/Sched.lean leave alone. -/

namespace Sys2Proof.Machine

theorem State.deferDelivery_outside {M : Touch} {r : State} {s : State} {a0 : Nat} {c : Nat} {t : Nat} (hNums : M.Nums Nums105) (hRecs : M.recs = true) (hSched : M.sched = true) (hs : s.outside M = r) :
    (State.deferDelivery s a0 c t).outside M = r := by
  unfold State.deferDelivery
  extract_lets +onlyGivenNames -merge -underBinder x1
  try clear_value x1
  extract_lets +onlyGivenNames -merge -underBinder x2
  try clear_value x2
  extract_lets +onlyGivenNames -merge -underBinder x3
  try clear_value x3
  extract_lets +onlyGivenNames -merge -underBinder x4
  try clear_value x4
  extract_lets +onlyGivenNames -merge -underBinder x5
  try clear_value x5
  extract_lets +onlyGivenNames -merge -underBinder x6
  have q7 : State.outside M x6 = r := by
    unfold x6
    refine State.modHw_outside hRecs ?_
    refine State.bump_outside (hNums.at Key.fam_ledgerDeferrals rfl) ?_
    exact hs
  try clear_value x6
  split
  · refine State.wheelEnter_outside (hNums.sub rfl) hSched ?_
    exact q7
  · exact q7

theorem State.deferDelivery_keeps {s : State} {a0 : Nat} {c : Nat} {t : Nat} : Kept80 s (State.deferDelivery s a0 c t) :=
  .of (State.deferDelivery_outside rfl rfl rfl rfl)

theorem State.deferDelivery_rd {s : State} {a0 : Nat} {c : Nat} {t : Nat} {kk : Nat} (hkey : Nums105.contains (Key.fam kk) = false) : (State.deferDelivery s a0 c t).rd kk = s.rd kk :=
  State.rd_of_outside (M := .but Nums105) (State.deferDelivery_outside .self rfl rfl rfl) rfl hkey

theorem State.ledgerFits_outside {M : Touch} {r : State} {s : State} {a0 : Nat} {c : Nat} {t : Nat} (hDict : M.dict = true) (hNums : M.Nums Nums106) (hLogs : M.logs = true) (hRecs : M.recs = true) (hSched : M.sched = true) (hStraps : M.straps = true) (hJournal : M.journal = true) (hEdges : M.edges = true) (hFlags : M.flags = true) (hs : s.outside M = r) :
    (State.ledgerFits s a0 c t).1.outside M = r := by
  unfold State.ledgerFits
  extract_lets +onlyGivenNames -merge -underBinder x1
  try clear_value x1
  extract_lets +onlyGivenNames -merge -underBinder x2
  have q3 : State.outside M x2 = r := by
    unfold x2
    refine State.rollover_outside hDict (hNums.sub rfl) hLogs hRecs hStraps hJournal hEdges hFlags ?_
    exact hs
  try clear_value x2
  extract_lets +onlyGivenNames -merge -underBinder x4
  try clear_value x4
  extract_lets +onlyGivenNames -merge -underBinder x5
  try clear_value x5
  refine ite_fst_outside ?_ ?_
  · refine fst_outside ?_
    refine State.modHw_outside hRecs ?_
    exact q3
  · refine ite_fst_outside ?_ ?_
    · refine fst_outside ?_
      refine State.schedPost_outside hDict (hNums.sub rfl) hLogs hStraps hJournal hEdges hFlags ?_
      refine State.modHw_outside hRecs ?_
      exact q3
    · refine fst_outside ?_
      refine State.deferDelivery_outside (hNums.sub rfl) hRecs hSched ?_
      exact q3

theorem State.ledgerFits_keeps {s : State} {a0 : Nat} {c : Nat} {t : Nat} : Kept138 s (State.ledgerFits s a0 c t).1 :=
  .of (State.ledgerFits_outside rfl rfl rfl rfl rfl rfl rfl rfl rfl rfl)

theorem State.ledgerFits_rd {s : State} {a0 : Nat} {c : Nat} {t : Nat} {kk : Nat} (hkey : Nums106.contains (Key.fam kk) = false) : (State.ledgerFits s a0 c t).1.rd kk = s.rd kk :=
  State.rd_of_outside (M := .but Nums106) (State.ledgerFits_outside rfl .self rfl rfl rfl rfl rfl rfl rfl rfl) rfl hkey

theorem State.dlRequest_outside {M : Touch} {r : State} {s : State} {a0 : Nat} {a : Nat} {freq : Nat} {p : Nat} {f : NodeFrame} (hNums : M.Nums Nums58) (hRecs : M.recs = true) (hSched : M.sched = true) (hNodeQueues : M.nodeQueues = true) (hs : s.outside M = r) :
    (State.dlRequest s a0 a freq p f).1.outside M = r := by
  unfold State.dlRequest
  extract_lets +onlyGivenNames -merge -underBinder x1
  try clear_value x1
  extract_lets +onlyGivenNames -merge -underBinder x2
  try clear_value x2
  extract_lets +onlyGivenNames -merge -underBinder x3
  have q4 : State.outside M x3 = r := by
    unfold x3
    refine State.modHw_outside hRecs ?_
    exact hs
  try clear_value x3
  extract_lets +onlyGivenNames -merge -underBinder x5
  have q6 : State.outside M x5 = r := by
    unfold x5
    refine State.modHead_outside hNodeQueues ?_
    exact q4
  try clear_value x5
  extract_lets +onlyGivenNames -merge -underBinder x7
  have q8 : State.outside M x7 = r := by
    unfold x7
    split
    · refine ite_outside ?_ ?_
      · refine State.fixH_outside hNums hRecs hSched ?_
        exact q6
      · exact q6
    · exact q6
  try clear_value x7
  extract_lets +onlyGivenNames -merge -underBinder x9
  try clear_value x9
  extract_lets +onlyGivenNames -merge -underBinder x10
  try clear_value x10
  extract_lets +onlyGivenNames -merge -underBinder x11
  try clear_value x11
  extract_lets +onlyGivenNames -merge -underBinder x12
  try clear_value x12
  extract_lets +onlyGivenNames -merge -underBinder x13
  try clear_value x13
  refine fst_outside ?_
  exact q8

theorem State.dlRequest_keeps {s : State} {a0 : Nat} {a : Nat} {freq : Nat} {p : Nat} {f : NodeFrame} : Kept139 s (State.dlRequest s a0 a freq p f).1 :=
  .of (State.dlRequest_outside rfl rfl rfl rfl rfl)

theorem State.dlRequest_rd {s : State} {a0 : Nat} {a : Nat} {freq : Nat} {p : Nat} {f : NodeFrame} {kk : Nat} (hkey : Nums58.contains (Key.fam kk) = false) : (State.dlRequest s a0 a freq p f).1.rd kk = s.rd kk :=
  State.rd_of_outside (M := .but Nums58) (State.dlRequest_outside .self rfl rfl rfl rfl) rfl hkey

theorem State.deliver_outside {M : Touch} {r : State} {s : State} {a0 : Nat} {a : Nat} {freq : Nat} {p : Nat} {f : NodeFrame} (hPins : M.pins = true) (hDict : M.dict = true) (hNums : M.Nums Nums107) (hResults : M.results = true) (hLogs : M.logs = true) (hVbat : M.vbat = true) (hPorts : M.ports = true) (hRxTiles : M.rxTiles = true) (hTxTiles : M.txTiles = true) (hRecs : M.recs = true) (hSched : M.sched = true) (hCinch : M.cinch = true) (hKeeper : M.keeper = true) (hStraps : M.straps = true) (hJournal : M.journal = true) (hNodeQueues : M.nodeQueues = true) (hLacing : M.lacing = true) (hEdges : M.edges = true) (hFlags : M.flags = true) (hReports : M.reports = true) (hs : s.outside M = r) :
    (State.deliver s a0 a freq p f).outside M = r := by
  unfold State.deliver
  extract_lets +onlyGivenNames -merge -underBinder x1
  try clear_value x1
  extract_lets +onlyGivenNames -merge -underBinder x2
  try clear_value x2
  extract_lets +onlyGivenNames -merge -underBinder x3
  try clear_value x3
  extract_lets +onlyGivenNames -merge -underBinder x4
  have q5 : State.outside M x4.1 = r := by
    unfold x4
    refine State.ledgerFits_outside hDict (hNums.sub rfl) hLogs hRecs hSched hStraps hJournal hEdges hFlags ?_
    exact hs
  try clear_value x4
  extract_lets +onlyGivenNames -merge -underBinder x6
  have q7 : State.outside M x6 = r := by
    unfold x6
    exact q5
  try clear_value x6
  extract_lets +onlyGivenNames -merge -underBinder x8
  try clear_value x8
  extract_lets +onlyGivenNames -merge -underBinder x9
  try clear_value x9
  extract_lets +onlyGivenNames -merge -underBinder x10
  have q11 : State.outside M x10.1 = r := by
    unfold x10
    refine State.grant_outside (hNums.sub rfl) hCinch ?_
    exact q7
  try clear_value x10
  extract_lets +onlyGivenNames -merge -underBinder x12
  have q13 : State.outside M x12 = r := by
    unfold x12
    exact q11
  try clear_value x12
  extract_lets +onlyGivenNames -merge -underBinder x14
  try clear_value x14
  extract_lets +onlyGivenNames -merge -underBinder x15
  try clear_value x15
  extract_lets +onlyGivenNames -merge -underBinder x16
  try clear_value x16
  refine ite_outside ?_ ?_
  · refine State.useCell_outside hRecs ?_
    exact q7
  · refine ite_outside ?_ ?_
    · refine State.useCell_outside hRecs ?_
      exact q13
    · refine ite_outside ?_ ?_
      · refine State.cellMissed_outside (hNums.sub rfl) hRecs ?_
        refine State.useCell_outside hRecs ?_
        refine State.release_outside (hNums.sub rfl) ?_
        exact q13
      · split
        · extract_lets +onlyGivenNames -merge -underBinder x17
          have q18 : State.outside M x17 = r := by
            unfold x17
            refine State.cellMissed_outside (hNums.sub rfl) hRecs ?_
            refine State.useCell_outside hRecs ?_
            refine State.release_outside (hNums.sub rfl) ?_
            exact q13
          try clear_value x17
          refine ite_outside ?_ ?_
          · exact q18
          · refine State.schedPost_outside hDict (hNums.sub rfl) hLogs hStraps hJournal hEdges hFlags ?_
            exact q18
        · split
          · rename_i t19 t21 e22
            have q20 : State.outside M t19 = r := by
              refine Eq.trans (congrArg (fun p => State.outside M p.1) e22).symm ?_
              refine State.dlRequest_outside (hNums.sub rfl) hRecs hSched hNodeQueues ?_
              exact q13
            refine State.commit_outside hPins hDict (hNums.sub rfl) hResults hLogs hVbat hPorts hRxTiles hTxTiles hRecs hCinch hKeeper hStraps hJournal hNodeQueues hLacing hEdges hFlags hReports ?_
            refine State.useCell_outside hRecs ?_
            exact q20

theorem State.deliver_keeps {s : State} {a0 : Nat} {a : Nat} {freq : Nat} {p : Nat} {f : NodeFrame} : Kept140 s (State.deliver s a0 a freq p f) :=
  .of (State.deliver_outside rfl rfl rfl rfl rfl rfl rfl rfl rfl rfl rfl rfl rfl rfl rfl rfl rfl rfl rfl rfl rfl)

theorem State.deliver_rd {s : State} {a0 : Nat} {a : Nat} {freq : Nat} {p : Nat} {f : NodeFrame} {kk : Nat} (hkey : Nums107.contains (Key.fam kk) = false) : (State.deliver s a0 a freq p f).rd kk = s.rd kk :=
  State.rd_of_outside (M := .but Nums107) (State.deliver_outside rfl rfl .self rfl rfl rfl rfl rfl rfl rfl rfl rfl rfl rfl rfl rfl rfl rfl rfl rfl rfl) rfl hkey

theorem State.dlMissed_outside {M : Touch} {r : State} {s : State} {a0 : Nat} {a : Nat} (hNums : M.Nums Nums54) (hRecs : M.recs = true) (hs : s.outside M = r) :
    (State.dlMissed s a0 a).outside M = r := by
  unfold State.dlMissed
  refine State.cellMissed_outside hNums hRecs ?_
  refine ite_outside ?_ ?_
  · refine State.useCell_outside hRecs ?_
    exact hs
  · exact hs

theorem State.dlMissed_keeps {s : State} {a0 : Nat} {a : Nat} : Kept79 s (State.dlMissed s a0 a) :=
  .of (State.dlMissed_outside rfl rfl rfl)

theorem State.dlMissed_rd {s : State} {a0 : Nat} {a : Nat} {kk : Nat} (hkey : Nums54.contains (Key.fam kk) = false) : (State.dlMissed s a0 a).rd kk = s.rd kk :=
  State.rd_of_outside (M := .but Nums54) (State.dlMissed_outside .self rfl rfl) rfl hkey

theorem State.dropStale_outside {M : Touch} {r : State} {s : State} (hSched : M.sched = true) (hs : s.outside M = r) :
    (State.dropStale s).outside M = r := by
  unfold State.dropStale
  extract_lets +onlyGivenNames -merge -underBinder x0
  try clear_value x0
  refine State.setSched_outside hSched ?_
  exact hs

theorem State.dropStale_keeps {s : State} : Kept26 s (State.dropStale s) :=
  .of (State.dropStale_outside rfl rfl)

theorem State.enterOthers_outside {M : Touch} {r : State} {s : State} (hNums : M.Nums Nums58) (hSched : M.sched = true) (hs : s.outside M = r) :
    (State.enterOthers s).outside M = r := by
  unfold State.enterOthers
  extract_lets +onlyGivenNames -merge -underBinder x0
  try clear_value x0
  extract_lets +onlyGivenNames -merge -underBinder x1
  have q2 : ∀ u3 : State, State.outside M u3 = r → ∀ u4, ∀ u5, State.outside M (x1 u3 u4 u5) = r := by
    unfold x1
    · intro t6 q7 z8 z9
      split
      · refine State.enterOnce_outside hNums hSched ?_
        exact q7
      · exact q7
  try clear_value x1
  extract_lets +onlyGivenNames -merge -underBinder x10
  have q11 : State.outside M x10 = r := by
    unfold x10
    refine State.each_outside ?_ ?_
    · intro t12 q13 z14
      extract_lets +onlyGivenNames -merge -underBinder x15
      try clear_value x15
      extract_lets +onlyGivenNames -merge -underBinder x16
      try clear_value x16
      extract_lets +onlyGivenNames -merge -underBinder x17
      try clear_value x17
      refine ite_outside ?_ ?_
      · exact q13
      · refine q2 _ ?_ _ _
        refine q2 _ ?_ _ _
        exact q13
    · exact hs
  try clear_value x10
  extract_lets +onlyGivenNames -merge -underBinder x18
  have q19 : State.outside M x18 = r := by
    unfold x18
    refine State.each_outside ?_ ?_
    · intro t20 q21 z22
      refine State.enterOnce_outside hNums hSched ?_
      exact q21
    · exact q11
  try clear_value x18
  split
  · refine ite_outside ?_ ?_
    · exact q19
    · refine State.enterOnce_outside hNums hSched ?_
      exact q19
  · exact q19

theorem State.enterOthers_keeps {s : State} : Kept27 s (State.enterOthers s) :=
  .of (State.enterOthers_outside rfl rfl rfl)

theorem State.enterOthers_rd {s : State} {kk : Nat} (hkey : Nums58.contains (Key.fam kk) = false) : (State.enterOthers s).rd kk = s.rd kk :=
  State.rd_of_outside (M := .but Nums58) (State.enterOthers_outside .self rfl rfl) rfl hkey

theorem State.farWritten_outside {M : Touch} {r : State} {s : State} {ok : Bool} (hSched : M.sched = true) (hs : s.outside M = r) :
    (State.farWritten s ok).outside M = r := by
  unfold State.farWritten
  extract_lets +onlyGivenNames -merge -underBinder x0
  try clear_value x0
  refine ite_outside ?_ ?_
  · refine State.setSched_outside hSched ?_
    exact hs
  · refine State.setSched_outside hSched ?_
    exact hs

theorem State.farWritten_keeps {s : State} {ok : Bool} : Kept26 s (State.farWritten s ok) :=
  .of (State.farWritten_outside rfl rfl)

theorem State.fireHeld_outside {M : Touch} {r : State} {s : State} {e : WheelEntry} (hNums : M.Nums Nums114) (hRecs : M.recs = true) (hSched : M.sched = true) (hs : s.outside M = r) :
    (State.fireHeld s e).outside M = r := by
  unfold State.fireHeld
  split
  · refine State.enterDl_outside (hNums.sub rfl) hRecs hSched ?_
    refine State.cellMissed_outside (hNums.sub rfl) hRecs ?_
    exact hs
  · refine State.enterUl_outside (hNums.sub rfl) hRecs hSched ?_
    refine State.cellMissed_outside (hNums.sub rfl) hRecs ?_
    exact hs
  · exact hs
  · exact hs
  · exact hs
  · exact hs
  · exact hs
  · extract_lets +onlyGivenNames -merge -underBinder x0
    try clear_value x0
    refine State.setSched_outside hSched ?_
    exact hs
  · extract_lets +onlyGivenNames -merge -underBinder x1
    try clear_value x1
    refine State.setSched_outside hSched ?_
    exact hs

theorem State.fireHeld_keeps {s : State} {e : WheelEntry} : Kept80 s (State.fireHeld s e) :=
  .of (State.fireHeld_outside rfl rfl rfl rfl)

theorem State.fireHeld_rd {s : State} {e : WheelEntry} {kk : Nat} (hkey : Nums114.contains (Key.fam kk) = false) : (State.fireHeld s e).rd kk = s.rd kk :=
  State.rd_of_outside (M := .but Nums114) (State.fireHeld_outside .self rfl rfl rfl) rfl hkey

theorem State.fire_outside {M : Touch} {r : State} {s : State} {e : WheelEntry} (hNums : M.Nums Nums114) (hRecs : M.recs = true) (hSched : M.sched = true) (hs : s.outside M = r) :
    (State.fire s e).outside M = r := by
  unfold State.fire
  extract_lets +onlyGivenNames -merge -underBinder x0
  have q1 : ∀ u2 : State, State.outside M u2 = r → State.outside M (x0 u2) = r := by
    unfold x0
    · intro t3 q4
      extract_lets +onlyGivenNames -merge -underBinder x5
      try clear_value x5
      refine State.setSched_outside hSched ?_
      exact q4
  try clear_value x0
  refine ite_outside ?_ ?_
  · refine State.fireHeld_outside hNums hRecs hSched ?_
    exact hs
  · split
    · refine ite_outside ?_ ?_
      · refine State.enterDl_outside (hNums.sub rfl) hRecs hSched ?_
        refine State.dlMissed_outside (hNums.sub rfl) hRecs ?_
        exact hs
      · refine q1 _ ?_
        exact hs
    · refine ite_outside ?_ ?_
      · exact hs
      · refine q1 _ ?_
        exact hs
    · exact hs
    · refine q1 _ ?_
      exact hs
    · refine q1 _ ?_
      exact hs
    · refine q1 _ ?_
      exact hs
    · refine q1 _ ?_
      exact hs
    · refine q1 _ ?_
      exact hs
    · refine q1 _ ?_
      exact hs

theorem State.fire_keeps {s : State} {e : WheelEntry} : Kept80 s (State.fire s e) :=
  .of (State.fire_outside rfl rfl rfl rfl)

theorem State.fire_rd {s : State} {e : WheelEntry} {kk : Nat} (hkey : Nums114.contains (Key.fam kk) = false) : (State.fire s e).rd kk = s.rd kk :=
  State.rd_of_outside (M := .but Nums114) (State.fire_outside .self rfl rfl rfl) rfl hkey

theorem State.fireDue_outside {M : Touch} {r : State} {s : State} (hNums : M.Nums Nums114) (hRecs : M.recs = true) (hSched : M.sched = true) (hs : s.outside M = r) :
    (State.fireDue s).outside M = r := by
  unfold State.fireDue
  extract_lets +onlyGivenNames -merge -underBinder x0
  try clear_value x0
  extract_lets +onlyGivenNames -merge -underBinder x1
  try clear_value x1
  refine State.each_outside ?_ ?_
  · intro t2 q3 z4
    refine State.fire_outside hNums hRecs hSched ?_
    exact q3
  · refine State.setSched_outside hSched ?_
    exact hs

theorem State.fireDue_keeps {s : State} : Kept80 s (State.fireDue s) :=
  .of (State.fireDue_outside rfl rfl rfl rfl)

theorem State.fireDue_rd {s : State} {kk : Nat} (hkey : Nums114.contains (Key.fam kk) = false) : (State.fireDue s).rd kk = s.rd kk :=
  State.rd_of_outside (M := .but Nums114) (State.fireDue_outside .self rfl rfl rfl) rfl hkey

theorem State.ieFrame_outside {M : Touch} {r : State} {s : State} {a0 : Nat} (hNodeQueues : M.nodeQueues = true) (hs : s.outside M = r) :
    (State.ieFrame s a0).outside M = r := by
  unfold State.ieFrame
  extract_lets +onlyGivenNames -merge -underBinder x1
  try clear_value x1
  split
  · extract_lets +onlyGivenNames -merge -underBinder x2
    try clear_value x2
    extract_lets +onlyGivenNames -merge -underBinder x3
    try clear_value x3
    refine ite_outside ?_ ?_
    · refine State.setNodeQ_outside hNodeQueues ?_
      exact hs
    · exact hs
  · exact hs

theorem State.ieFrame_keeps {s : State} {a0 : Nat} : Kept28 s (State.ieFrame s a0) :=
  .of (State.ieFrame_outside rfl rfl)

theorem State.planDl_outside {M : Touch} {r : State} {s : State} {a0 : Nat} {a : Nat} (hPins : M.pins = true) (hDict : M.dict = true) (hNums : M.Nums Nums107) (hResults : M.results = true) (hLogs : M.logs = true) (hVbat : M.vbat = true) (hPorts : M.ports = true) (hRxTiles : M.rxTiles = true) (hTxTiles : M.txTiles = true) (hRecs : M.recs = true) (hSched : M.sched = true) (hCinch : M.cinch = true) (hKeeper : M.keeper = true) (hStraps : M.straps = true) (hJournal : M.journal = true) (hNodeQueues : M.nodeQueues = true) (hLacing : M.lacing = true) (hEdges : M.edges = true) (hFlags : M.flags = true) (hReports : M.reports = true) (hs : s.outside M = r) :
    (State.planDl s a0 a).outside M = r := by
  unfold State.planDl
  extract_lets +onlyGivenNames -merge -underBinder x1
  have q2 : State.outside M x1 = r := by
    unfold x1
    refine State.dlPlanned_outside (hNums.sub rfl) hRecs hSched ?_
    exact hs
  try clear_value x1
  extract_lets +onlyGivenNames -merge -underBinder x3
  try clear_value x3
  refine ite_outside ?_ ?_
  · exact q2
  · split
    · exact q2
    · extract_lets +onlyGivenNames -merge -underBinder x4
      have q5 : State.outside M x4 = r := by
        unfold x4
        refine State.ieFrame_outside hNodeQueues ?_
        exact q2
      try clear_value x4
      refine ite_outside ?_ ?_
      · refine State.cellMissed_outside (hNums.sub rfl) hRecs ?_
        refine State.useCell_outside hRecs ?_
        exact q2
      · split
        · refine State.useCell_outside hRecs ?_
          exact q5
        · refine ite_outside ?_ ?_
          · refine State.useCell_outside hRecs ?_
            exact q5
          · refine State.deliver_outside hPins hDict hNums hResults hLogs hVbat hPorts hRxTiles hTxTiles hRecs hSched hCinch hKeeper hStraps hJournal hNodeQueues hLacing hEdges hFlags hReports ?_
            exact q5

theorem State.planDl_keeps {s : State} {a0 : Nat} {a : Nat} : Kept140 s (State.planDl s a0 a) :=
  .of (State.planDl_outside rfl rfl rfl rfl rfl rfl rfl rfl rfl rfl rfl rfl rfl rfl rfl rfl rfl rfl rfl rfl rfl)

theorem State.planDl_rd {s : State} {a0 : Nat} {a : Nat} {kk : Nat} (hkey : Nums107.contains (Key.fam kk) = false) : (State.planDl s a0 a).rd kk = s.rd kk :=
  State.rd_of_outside (M := .but Nums107) (State.planDl_outside rfl rfl .self rfl rfl rfl rfl rfl rfl rfl rfl rfl rfl rfl rfl rfl rfl rfl rfl rfl rfl) rfl hkey

theorem State.planUl_outside {M : Touch} {r : State} {s : State} {a0 : Nat} {a : Nat} (hNums : M.Nums Nums114) (hRecs : M.recs = true) (hSched : M.sched = true) (hs : s.outside M = r) :
    (State.planUl s a0 a).outside M = r := by
  unfold State.planUl
  extract_lets +onlyGivenNames -merge -underBinder x1
  try clear_value x1
  extract_lets +onlyGivenNames -merge -underBinder x2
  try clear_value x2
  extract_lets +onlyGivenNames -merge -underBinder x3
  have q4 : State.outside M x3 = r := by
    unfold x3
    refine State.useCell_outside hRecs ?_
    exact hs
  try clear_value x3
  refine State.enterUl_outside (hNums.sub rfl) hRecs hSched ?_
  refine ite_outside ?_ ?_
  · exact q4
  · refine State.cellMissed_outside (hNums.sub rfl) hRecs ?_
    exact q4

theorem State.planUl_keeps {s : State} {a0 : Nat} {a : Nat} : Kept80 s (State.planUl s a0 a) :=
  .of (State.planUl_outside rfl rfl rfl rfl)

theorem State.planUl_rd {s : State} {a0 : Nat} {a : Nat} {kk : Nat} (hkey : Nums114.contains (Key.fam kk) = false) : (State.planUl s a0 a).rd kk = s.rd kk :=
  State.rd_of_outside (M := .but Nums114) (State.planUl_outside .self rfl rfl rfl) rfl hkey

theorem State.rebuildFor_outside {M : Touch} {r : State} {s : State} {nodes : List Nat} (hNums : M.Nums Nums58) (hRecs : M.recs = true) (hSched : M.sched = true) (hs : s.outside M = r) :
    (State.rebuildFor s nodes).outside M = r := by
  unfold State.rebuildFor
  refine State.each_outside ?_ ?_
  · intro t0 q1 z2
    refine State.reschedule_outside hNums hRecs hSched ?_
    exact q1
  · exact hs

theorem State.rebuildFor_keeps {s : State} {nodes : List Nat} : Kept80 s (State.rebuildFor s nodes) :=
  .of (State.rebuildFor_outside rfl rfl rfl rfl)

theorem State.rebuildFor_rd {s : State} {nodes : List Nat} {kk : Nat} (hkey : Nums58.contains (Key.fam kk) = false) : (State.rebuildFor s nodes).rd kk = s.rd kk :=
  State.rd_of_outside (M := .but Nums58) (State.rebuildFor_outside .self rfl rfl rfl) rfl hkey

theorem State.redistribute_outside {M : Touch} {r : State} {s : State} (hSched : M.sched = true) (hs : s.outside M = r) :
    (State.redistribute s).outside M = r := by
  unfold State.redistribute
  extract_lets +onlyGivenNames -merge -underBinder x0
  try clear_value x0
  refine State.setSched_outside hSched ?_
  exact hs

theorem State.redistribute_keeps {s : State} : Kept26 s (State.redistribute s) :=
  .of (State.redistribute_outside rfl rfl)

theorem State.unpark_outside {M : Touch} {r : State} {s : State} (hNums : M.Nums Nums58) (hSched : M.sched = true) (hs : s.outside M = r) :
    (State.unpark s).outside M = r := by
  unfold State.unpark
  extract_lets +onlyGivenNames -merge -underBinder x0
  try clear_value x0
  extract_lets +onlyGivenNames -merge -underBinder x1
  try clear_value x1
  extract_lets +onlyGivenNames -merge -underBinder x2
  have q3 : State.outside M x2 = r := by
    unfold x2
    refine State.setSched_outside hSched ?_
    exact hs
  try clear_value x2
  refine State.each_outside ?_ ?_
  · intro t4 q5 z6
    refine State.wheelEnter_outside hNums hSched ?_
    exact q5
  · exact q3

theorem State.unpark_keeps {s : State} : Kept27 s (State.unpark s) :=
  .of (State.unpark_outside rfl rfl rfl)

theorem State.unpark_rd {s : State} {kk : Nat} (hkey : Nums58.contains (Key.fam kk) = false) : (State.unpark s).rd kk = s.rd kk :=
  State.rd_of_outside (M := .but Nums58) (State.unpark_outside .self rfl rfl) rfl hkey

theorem execDayStartChange_outside {M : Touch} {r : State} {dt : Nat} {s : State} (hClock : M.clock = true) (hVbat : M.vbat = true) (hSched : M.sched = true) (hs : s.outside M = r) :
    NextOutside M r (execDayStartChange dt s) := by
  unfold execDayStartChange
  extract_lets +onlyGivenNames -merge -underBinder x0
  have q1 : State.outside M x0 = r := by
    unfold x0
    refine State.advance_outside hClock hVbat ?_
    exact hs
  try clear_value x0
  extract_lets +onlyGivenNames -merge -underBinder x2
  try clear_value x2
  extract_lets +onlyGivenNames -merge -underBinder x3
  try clear_value x3
  refine next_outside ?_
  split
  · exact q1
  · extract_lets +onlyGivenNames -merge -underBinder x4
    try clear_value x4
    refine ite_outside ?_ ?_
    · refine State.setSched_outside hSched ?_
      exact q1
    · exact q1

theorem execWheelTick_outside {M : Touch} {r : State} {farOk : Bool} {dt : Nat} {s : State} (hClock : M.clock = true) (hNums : M.Nums Nums114) (hVbat : M.vbat = true) (hRecs : M.recs = true) (hSched : M.sched = true) (hs : s.outside M = r) :
    NextOutside M r (execWheelTick farOk dt s) := by
  unfold execWheelTick
  extract_lets +onlyGivenNames -merge -underBinder x0
  have q1 : State.outside M x0 = r := by
    unfold x0
    refine State.advance_outside hClock hVbat ?_
    exact hs
  try clear_value x0
  refine next_outside ?_
  refine ite_outside ?_ ?_
  · exact q1
  · refine State.enterOthers_outside (hNums.sub rfl) hSched ?_
    refine State.fireDue_outside hNums hRecs hSched ?_
    refine State.redistribute_outside hSched ?_
    refine State.unpark_outside (hNums.sub rfl) hSched ?_
    refine State.dropStale_outside hSched ?_
    refine State.farWritten_outside hSched ?_
    exact q1

theorem execHandoverIeSend_outside {M : Touch} {r : State} {a0 : Fin 16384} {dt : Nat} {s : State} (hPins : M.pins = true) (hClock : M.clock = true) (hDict : M.dict = true) (hNums : M.Nums Nums107) (hResults : M.results = true) (hLogs : M.logs = true) (hVbat : M.vbat = true) (hPorts : M.ports = true) (hRxTiles : M.rxTiles = true) (hTxTiles : M.txTiles = true) (hRecs : M.recs = true) (hSched : M.sched = true) (hCinch : M.cinch = true) (hKeeper : M.keeper = true) (hStraps : M.straps = true) (hJournal : M.journal = true) (hNodeQueues : M.nodeQueues = true) (hLacing : M.lacing = true) (hEdges : M.edges = true) (hFlags : M.flags = true) (hReports : M.reports = true) (hs : s.outside M = r) :
    NextOutside M r (execHandoverIeSend a0 dt s) := by
  unfold execHandoverIeSend
  extract_lets +onlyGivenNames -merge -underBinder x1
  have q2 : State.outside M x1 = r := by
    unfold x1
    refine State.advance_outside hClock hVbat ?_
    exact hs
  try clear_value x1
  extract_lets +onlyGivenNames -merge -underBinder x3
  try clear_value x3
  refine next_outside ?_
  split
  · refine ite_outside ?_ ?_
    · exact q2
    · refine State.planDl_outside hPins hDict hNums hResults hLogs hVbat hPorts hRxTiles hTxTiles hRecs hSched hCinch hKeeper hStraps hJournal hNodeQueues hLacing hEdges hFlags hReports ?_
      exact q2
  · exact q2

theorem execUplinkCellPlanning_outside {M : Touch} {r : State} {a0 : Fin 16384} {dt : Nat} {s : State} (hClock : M.clock = true) (hNums : M.Nums Nums114) (hVbat : M.vbat = true) (hRecs : M.recs = true) (hSched : M.sched = true) (hs : s.outside M = r) :
    NextOutside M r (execUplinkCellPlanning a0 dt s) := by
  unfold execUplinkCellPlanning
  extract_lets +onlyGivenNames -merge -underBinder x1
  have q2 : State.outside M x1 = r := by
    unfold x1
    refine State.advance_outside hClock hVbat ?_
    exact hs
  try clear_value x1
  extract_lets +onlyGivenNames -merge -underBinder x3
  have q4 : State.outside M x3.1 = r := by
    unfold x3
    refine State.takeFired_outside hSched ?_
    exact q2
  try clear_value x3
  refine next_outside ?_
  split
  · exact q2
  · refine State.planUl_outside hNums hRecs hSched ?_
    exact q4

theorem execSchedRebuild_outside {M : Touch} {r : State} {s : State} (hDict : M.dict = true) (hNums : M.Nums Nums169) (hLogs : M.logs = true) (hRecs : M.recs = true) (hSched : M.sched = true) (hStraps : M.straps = true) (hJournal : M.journal = true) (hEdges : M.edges = true) (hFlags : M.flags = true) (hs : s.outside M = r) :
    NextOutside M r (execSchedRebuild s) := by
  unfold execSchedRebuild
  extract_lets +onlyGivenNames -merge -underBinder x0
  try clear_value x0
  refine next_outside ?_
  split
  · exact hs
  · extract_lets +onlyGivenNames -merge -underBinder x1
    try clear_value x1
    extract_lets +onlyGivenNames -merge -underBinder x2
    try clear_value x2
    extract_lets +onlyGivenNames -merge -underBinder x3
    have q4 : State.outside M x3 = r := by
      unfold x3
      refine State.rebuildFor_outside (hNums.sub rfl) hRecs hSched ?_
      refine State.setSched_outside hSched ?_
      exact hs
    try clear_value x3
    refine ite_outside ?_ ?_
    · exact q4
    · refine State.schedPost_outside hDict (hNums.sub rfl) hLogs hStraps hJournal hEdges hFlags ?_
      exact q4

theorem execDownlinkCellPlanning_outside {M : Touch} {r : State} {a0 : Fin 16384} {dt : Nat} {s : State} (hPins : M.pins = true) (hClock : M.clock = true) (hDict : M.dict = true) (hNums : M.Nums Nums107) (hResults : M.results = true) (hLogs : M.logs = true) (hVbat : M.vbat = true) (hPorts : M.ports = true) (hRxTiles : M.rxTiles = true) (hTxTiles : M.txTiles = true) (hRecs : M.recs = true) (hSched : M.sched = true) (hCinch : M.cinch = true) (hKeeper : M.keeper = true) (hStraps : M.straps = true) (hJournal : M.journal = true) (hNodeQueues : M.nodeQueues = true) (hLacing : M.lacing = true) (hEdges : M.edges = true) (hFlags : M.flags = true) (hReports : M.reports = true) (hs : s.outside M = r) :
    NextOutside M r (execDownlinkCellPlanning a0 dt s) := by
  unfold execDownlinkCellPlanning
  extract_lets +onlyGivenNames -merge -underBinder x1
  have q2 : State.outside M x1 = r := by
    unfold x1
    refine State.advance_outside hClock hVbat ?_
    exact hs
  try clear_value x1
  refine next_outside ?_
  split
  · refine ite_outside ?_ ?_
    · exact q2
    · refine State.planDl_outside hPins hDict hNums hResults hLogs hVbat hPorts hRxTiles hTxTiles hRecs hSched hCinch hKeeper hStraps hJournal hNodeQueues hLacing hEdges hFlags hReports ?_
      exact q2
  · exact q2

theorem execFarListMove_outside {M : Touch} {r : State} {ok : Bool} {dt : Nat} {s : State} (hClock : M.clock = true) (hNums : M.Nums Nums58) (hVbat : M.vbat = true) (hSched : M.sched = true) (hs : s.outside M = r) :
    NextOutside M r (execFarListMove ok dt s) := by
  unfold execFarListMove
  extract_lets +onlyGivenNames -merge -underBinder x0
  have q1 : State.outside M x0 = r := by
    unfold x0
    refine State.advance_outside hClock hVbat ?_
    exact hs
  try clear_value x0
  extract_lets +onlyGivenNames -merge -underBinder x2
  try clear_value x2
  extract_lets +onlyGivenNames -merge -underBinder x3
  try clear_value x3
  extract_lets +onlyGivenNames -merge -underBinder x4
  have q5 : State.outside M x4 = r := by
    unfold x4
    refine State.setSched_outside hSched ?_
    exact q1
  try clear_value x4
  refine next_outside ?_
  refine ite_outside ?_ ?_
  · exact q1
  · refine ite_outside ?_ ?_
    · refine State.askRebuild_outside hSched ?_
      refine State.setSched_outside hSched ?_
      exact q1
    · refine State.each_outside ?_ ?_
      · intro t6 q7 z8
        refine State.wheelEnter_outside hNums hSched ?_
        exact q7
      · exact q5

end Sys2Proof.Machine
end

