-- ==== Sys2Proof/Laws/Frame/NodeWin.lean ====
section
/-! SUPPORT. What the operations of Machine/NodeWin.lean leave alone. -/

namespace Sys2Proof.Machine

theorem State.recNew_outside {M : Touch} {r : State} {s : State} {a0 : Nat} {host : Bytes} (hDict : M.dict = true) (hNums : M.Nums Nums9) (hLogs : M.logs = true) (hRecs : M.recs = true) (hSched : M.sched = true) (hStraps : M.straps = true) (hJournal : M.journal = true) (hNodeQueues : M.nodeQueues = true) (hLacing : M.lacing = true) (hEdges : M.edges = true) (hFlags : M.flags = true) (hReports : M.reports = true) (hs : s.outside M = r) :
    (State.recNew s a0 host).outside M = r := by
  unfold State.recNew
  extract_lets +onlyGivenNames -merge -underBinder x1
  have q2 : State.outside M x1 = r := by
    unfold x1
    refine ite_outside ?_ ?_
    · refine State.abandon_outside hDict hNums hLogs hRecs hSched hStraps hJournal hNodeQueues hLacing hEdges hFlags hReports ?_
      exact hs
    · exact hs
  try clear_value x1
  extract_lets +onlyGivenNames -merge -underBinder x3
  have q4 : State.outside M x3 = r := by
    unfold x3
    refine State.laceForget_outside hDict (hNums.sub rfl) hLogs hStraps hJournal hLacing hEdges hFlags ?_
    refine State.unschedule_outside hSched ?_
    refine State.undeliverAll_outside hDict (hNums.sub rfl) hLogs hStraps hJournal hNodeQueues hEdges hFlags hReports ?_
    exact q2
  try clear_value x3
  extract_lets +onlyGivenNames -merge -underBinder x5
  try clear_value x5
  extract_lets +onlyGivenNames -merge -underBinder x6
  have q7 : State.outside M x6 = r := by
    unfold x6
    refine State.setRec_outside hRecs ?_
    exact q4
  try clear_value x6
  refine ite_outside ?_ ?_
  · exact q7
  · refine State.girthPost_outside hDict (hNums.sub rfl) hLogs hStraps hJournal hEdges hFlags ?_
    exact q7

theorem State.recNew_keeps {s : State} {a0 : Nat} {host : Bytes} : Kept135 s (State.recNew s a0 host) :=
  .of (State.recNew_outside rfl rfl rfl rfl rfl rfl rfl rfl rfl rfl rfl rfl rfl)

theorem State.recNew_rd {s : State} {a0 : Nat} {host : Bytes} {kk : Nat} (hkey : Nums9.contains (Key.fam kk) = false) : (State.recNew s a0 host).rd kk = s.rd kk :=
  State.rd_of_outside (M := .but Nums9) (State.recNew_outside rfl .self rfl rfl rfl rfl rfl rfl rfl rfl rfl rfl rfl) rfl hkey

theorem State.recSame_outside {M : Touch} {r : State} {s : State} {a0 : Nat} {host : Bytes} (hDict : M.dict = true) (hNums : M.Nums Nums9) (hLogs : M.logs = true) (hRecs : M.recs = true) (hSched : M.sched = true) (hStraps : M.straps = true) (hJournal : M.journal = true) (hNodeQueues : M.nodeQueues = true) (hLacing : M.lacing = true) (hEdges : M.edges = true) (hFlags : M.flags = true) (hReports : M.reports = true) (hs : s.outside M = r) :
    (State.recSame s a0 host).outside M = r := by
  unfold State.recSame
  extract_lets +onlyGivenNames -merge -underBinder x1
  try clear_value x1
  extract_lets +onlyGivenNames -merge -underBinder x2
  try clear_value x2
  extract_lets +onlyGivenNames -merge -underBinder x3
  try clear_value x3
  extract_lets +onlyGivenNames -merge -underBinder x4
  try clear_value x4
  extract_lets +onlyGivenNames -merge -underBinder x5
  have q6 : State.outside M x5 = r := by
    unfold x5
    refine ite_outside ?_ ?_
    · refine State.abandon_outside hDict hNums hLogs hRecs hSched hStraps hJournal hNodeQueues hLacing hEdges hFlags hReports ?_
      exact hs
    · exact hs
  try clear_value x5
  extract_lets +onlyGivenNames -merge -underBinder x7
  try clear_value x7
  extract_lets +onlyGivenNames -merge -underBinder x8
  try clear_value x8
  refine ite_outside ?_ ?_
  · refine State.recNew_outside hDict hNums hLogs hRecs hSched hStraps hJournal hNodeQueues hLacing hEdges hFlags hReports ?_
    exact hs
  · refine State.setRec_outside hRecs ?_
    exact q6

theorem State.recSame_keeps {s : State} {a0 : Nat} {host : Bytes} : Kept135 s (State.recSame s a0 host) :=
  .of (State.recSame_outside rfl rfl rfl rfl rfl rfl rfl rfl rfl rfl rfl rfl rfl)

theorem State.recSame_rd {s : State} {a0 : Nat} {host : Bytes} {kk : Nat} (hkey : Nums9.contains (Key.fam kk) = false) : (State.recSame s a0 host).rd kk = s.rd kk :=
  State.rd_of_outside (M := .but Nums9) (State.recSame_outside rfl .self rfl rfl rfl rfl rfl rfl rfl rfl rfl rfl rfl) rfl hkey

theorem State.recWrite_outside {M : Touch} {r : State} {s : State} {a0 : Nat} {host : Bytes} (hDict : M.dict = true) (hNums : M.Nums Nums71) (hLogs : M.logs = true) (hRecs : M.recs = true) (hSched : M.sched = true) (hStraps : M.straps = true) (hJournal : M.journal = true) (hNodeQueues : M.nodeQueues = true) (hLacing : M.lacing = true) (hEdges : M.edges = true) (hFlags : M.flags = true) (hReports : M.reports = true) (hs : s.outside M = r) :
    (State.recWrite s a0 host).outside M = r := by
  unfold State.recWrite
  extract_lets +onlyGivenNames -merge -underBinder x1
  try clear_value x1
  extract_lets +onlyGivenNames -merge -underBinder x2
  try clear_value x2
  extract_lets +onlyGivenNames -merge -underBinder x3
  have q4 : State.outside M x3 = r := by
    unfold x3
    refine ite_outside ?_ ?_
    · refine State.recNew_outside hDict (hNums.sub rfl) hLogs hRecs hSched hStraps hJournal hNodeQueues hLacing hEdges hFlags hReports ?_
      exact hs
    · refine State.recSame_outside hDict (hNums.sub rfl) hLogs hRecs hSched hStraps hJournal hNodeQueues hLacing hEdges hFlags hReports ?_
      exact hs
  try clear_value x3
  refine State.reschedule_outside (hNums.sub rfl) hRecs hSched ?_
  exact q4

theorem State.recWrite_keeps {s : State} {a0 : Nat} {host : Bytes} : Kept135 s (State.recWrite s a0 host) :=
  .of (State.recWrite_outside rfl rfl rfl rfl rfl rfl rfl rfl rfl rfl rfl rfl rfl)

theorem State.recWrite_rd {s : State} {a0 : Nat} {host : Bytes} {kk : Nat} (hkey : Nums71.contains (Key.fam kk) = false) : (State.recWrite s a0 host).rd kk = s.rd kk :=
  State.rd_of_outside (M := .but Nums71) (State.recWrite_outside rfl .self rfl rfl rfl rfl rfl rfl rfl rfl rfl rfl rfl) rfl hkey

theorem State.recsWrite_outside {M : Touch} {r : State} {s : State} {new : List (Nat × Bytes)} (hPins : M.pins = true) (hDict : M.dict = true) (hNums : M.Nums Nums72) (hResults : M.results = true) (hLogs : M.logs = true) (hPorts : M.ports = true) (hRxTiles : M.rxTiles = true) (hTxTiles : M.txTiles = true) (hRecs : M.recs = true) (hSched : M.sched = true) (hStraps : M.straps = true) (hJournal : M.journal = true) (hNodeQueues : M.nodeQueues = true) (hLacing : M.lacing = true) (hEdges : M.edges = true) (hFlags : M.flags = true) (hReports : M.reports = true) (hs : s.outside M = r) :
    (State.recsWrite s new).outside M = r := by
  unfold State.recsWrite
  refine State.placeAll_outside hPins hDict (hNums.sub rfl) hResults hLogs hPorts hRxTiles hTxTiles hStraps hJournal hEdges hFlags ?_
  refine State.each_outside ?_ ?_
  · intro t0 q1 z2
    refine State.recWrite_outside hDict (hNums.sub rfl) hLogs hRecs hSched hStraps hJournal hNodeQueues hLacing hEdges hFlags hReports ?_
    exact q1
  · exact hs

theorem State.recsWrite_keeps {s : State} {new : List (Nat × Bytes)} : Kept146 s (State.recsWrite s new) :=
  .of (State.recsWrite_outside rfl rfl rfl rfl rfl rfl rfl rfl rfl rfl rfl rfl rfl rfl rfl rfl rfl rfl)

theorem State.recsWrite_rd {s : State} {new : List (Nat × Bytes)} {kk : Nat} (hkey : Nums72.contains (Key.fam kk) = false) : (State.recsWrite s new).rd kk = s.rd kk :=
  State.rd_of_outside (M := .but Nums72) (State.recsWrite_outside rfl rfl .self rfl rfl rfl rfl rfl rfl rfl rfl rfl rfl rfl rfl rfl rfl rfl) rfl hkey

theorem State.recBadPost_outside {M : Touch} {r : State} {s : State} {a0 : Nat} (hDict : M.dict = true) (hNums : M.Nums Nums2) (hLogs : M.logs = true) (hStraps : M.straps = true) (hJournal : M.journal = true) (hEdges : M.edges = true) (hFlags : M.flags = true) (hs : s.outside M = r) :
    (State.recBadPost s a0).outside M = r := by
  unfold State.recBadPost
  refine State.post_outside hDict hNums hLogs hStraps hJournal hEdges hFlags ?_
  exact hs

theorem State.recBadPost_keeps {s : State} {a0 : Nat} : Kept8 s (State.recBadPost s a0) :=
  .of (State.recBadPost_outside rfl rfl rfl rfl rfl rfl rfl rfl)

theorem State.recBadPost_rd {s : State} {a0 : Nat} {kk : Nat} (hkey : Nums2.contains (Key.fam kk) = false) : (State.recBadPost s a0).rd kk = s.rd kk :=
  State.rd_of_outside (M := .but Nums2) (State.recBadPost_outside rfl .self rfl rfl rfl rfl rfl rfl) rfl hkey

theorem State.unwraps_outside {M : Touch} {r : State} {s : State} {new : List (Nat × Bytes)} (hDict : M.dict = true) (hNums : M.Nums Nums2) (hLogs : M.logs = true) (hKeeper : M.keeper = true) (hStraps : M.straps = true) (hJournal : M.journal = true) (hEdges : M.edges = true) (hFlags : M.flags = true) (hs : s.outside M = r) :
    (State.unwraps s new).outside M = r := by
  unfold State.unwraps
  refine State.each_outside ?_ ?_
  · intro t0 q1 z2
    refine State.useLinkWrap_outside hDict hNums hLogs hKeeper hStraps hJournal hEdges hFlags ?_
    exact q1
  · exact hs

theorem State.unwraps_keeps {s : State} {new : List (Nat × Bytes)} : Kept65 s (State.unwraps s new) :=
  .of (State.unwraps_outside rfl rfl rfl rfl rfl rfl rfl rfl rfl)

theorem State.unwraps_rd {s : State} {new : List (Nat × Bytes)} {kk : Nat} (hkey : Nums2.contains (Key.fam kk) = false) : (State.unwraps s new).rd kk = s.rd kk :=
  State.rd_of_outside (M := .but Nums2) (State.unwraps_outside rfl .self rfl rfl rfl rfl rfl rfl rfl) rfl hkey

theorem State.winTake_outside {M : Touch} {r : State} {s : State} {first : Nat} {count : Nat} {d : Bytes} (hPins : M.pins = true) (hDict : M.dict = true) (hNums : M.Nums Nums73) (hResults : M.results = true) (hLogs : M.logs = true) (hPorts : M.ports = true) (hRxTiles : M.rxTiles = true) (hTxTiles : M.txTiles = true) (hRecs : M.recs = true) (hSched : M.sched = true) (hKeeper : M.keeper = true) (hStraps : M.straps = true) (hJournal : M.journal = true) (hNodeQueues : M.nodeQueues = true) (hLacing : M.lacing = true) (hEdges : M.edges = true) (hFlags : M.flags = true) (hReports : M.reports = true) (hs : s.outside M = r) :
    (State.winTake s first count d).1.outside M = r := by
  unfold State.winTake
  extract_lets +onlyGivenNames -merge -underBinder x0
  try clear_value x0
  extract_lets +onlyGivenNames -merge -underBinder x1
  have q2 : State.outside M x1 = r := by
    unfold x1
    refine State.unwraps_outside hDict (hNums.sub rfl) hLogs hKeeper hStraps hJournal hEdges hFlags ?_
    exact hs
  try clear_value x1
  refine ite_fst_outside ?_ ?_
  · refine fst_outside ?_
    refine State.bump_outside (hNums.at Key.fam_nodeWinBad rfl) ?_
    exact hs
  · split
    · refine fst_outside ?_
      refine State.recBadPost_outside hDict (hNums.sub rfl) hLogs hStraps hJournal hEdges hFlags ?_
      refine State.bump_outside (hNums.at Key.fam_nodeWinBad rfl) ?_
      exact q2
    · refine fst_outside ?_
      refine State.recsWrite_outside hPins hDict (hNums.sub rfl) hResults hLogs hPorts hRxTiles hTxTiles hRecs hSched hStraps hJournal hNodeQueues hLacing hEdges hFlags hReports ?_
      exact q2

theorem State.winTake_keeps {s : State} {first : Nat} {count : Nat} {d : Bytes} : Kept147 s (State.winTake s first count d).1 :=
  .of (State.winTake_outside rfl rfl rfl rfl rfl rfl rfl rfl rfl rfl rfl rfl rfl rfl rfl rfl rfl rfl rfl)

theorem State.winTake_rd {s : State} {first : Nat} {count : Nat} {d : Bytes} {kk : Nat} (hkey : Nums73.contains (Key.fam kk) = false) : (State.winTake s first count d).1.rd kk = s.rd kk :=
  State.rd_of_outside (M := .but Nums73) (State.winTake_outside rfl rfl .self rfl rfl rfl rfl rfl rfl rfl rfl rfl rfl rfl rfl rfl rfl rfl rfl) rfl hkey

theorem execNrWrite_outside {M : Touch} {r : State} {s : State} (hPins : M.pins = true) (hDict : M.dict = true) (hNums : M.Nums Nums72) (hResults : M.results = true) (hLogs : M.logs = true) (hPower : M.power = true) (hPorts : M.ports = true) (hRxTiles : M.rxTiles = true) (hTxTiles : M.txTiles = true) (hRecs : M.recs = true) (hSched : M.sched = true) (hKeeper : M.keeper = true) (hStraps : M.straps = true) (hJournal : M.journal = true) (hNodeQueues : M.nodeQueues = true) (hLacing : M.lacing = true) (hEdges : M.edges = true) (hHost : M.host = true) (hFlags : M.flags = true) (hReports : M.reports = true) (hs : s.outside M = r) :
    NextOutside M r (execNrWrite s) := by
  unfold execNrWrite
  extract_lets +onlyGivenNames -merge -underBinder x0
  try clear_value x0
  extract_lets +onlyGivenNames -merge -underBinder x1
  try clear_value x1
  extract_lets +onlyGivenNames -merge -underBinder x2
  have q3 : State.outside M x2 = r := by
    unfold x2
    refine ite_outside ?_ ?_
    · refine State.unwraps_outside hDict (hNums.sub rfl) hLogs hKeeper hStraps hJournal hEdges hFlags ?_
      refine State.wake_outside hPins hDict (hNums.sub rfl) hResults hLogs hPower hPorts hRxTiles hStraps hJournal hEdges hFlags ?_
      exact hs
    · exact hs
  try clear_value x2
  refine next_outside ?_
  refine ite_outside ?_ ?_
  · exact q3
  · split
    · extract_lets +onlyGivenNames -merge -underBinder x4
      unfold x4
      clear x4
      refine State.setCause_outside hFlags ?_
      refine State.recBadPost_outside hDict (hNums.sub rfl) hLogs hStraps hJournal hEdges hFlags ?_
      refine Eq.trans (State.outside_host_host (h0 := hHost) ..) ?_
      exact q3
    · extract_lets +onlyGivenNames -merge -underBinder x5
      have q6 : State.outside M x5 = r := by
        unfold x5
        refine State.recsWrite_outside hPins hDict hNums hResults hLogs hPorts hRxTiles hTxTiles hRecs hSched hStraps hJournal hNodeQueues hLacing hEdges hFlags hReports ?_
        exact q3
      try clear_value x5
      extract_lets +onlyGivenNames -merge -underBinder x7
      unfold x7
      clear x7
      refine State.setCause_outside hFlags ?_
      refine Eq.trans (State.outside_host_host (h0 := hHost) ..) ?_
      exact q6

theorem execNrRead_outside {M : Touch} {r : State} {s : State} (hPins : M.pins = true) (hDict : M.dict = true) (hNums : M.Nums Nums52) (hResults : M.results = true) (hLogs : M.logs = true) (hPower : M.power = true) (hPorts : M.ports = true) (hRxTiles : M.rxTiles = true) (hStraps : M.straps = true) (hJournal : M.journal = true) (hEdges : M.edges = true) (hHost : M.host = true) (hFlags : M.flags = true) (hs : s.outside M = r) :
    NextOutside M r (execNrRead s) := by
  unfold execNrRead
  extract_lets +onlyGivenNames -merge -underBinder x0
  have q1 : State.outside M x0 = r := by
    unfold x0
    refine State.setCause_outside hFlags ?_
    refine State.wake_outside hPins hDict hNums hResults hLogs hPower hPorts hRxTiles hStraps hJournal hEdges hFlags ?_
    exact hs
  try clear_value x0
  extract_lets +onlyGivenNames -merge -underBinder x2
  unfold x2
  clear x2
  refine next_outside ?_
  refine ite_outside ?_ ?_
  · exact hs
  · refine Eq.trans (State.outside_host_host (h0 := hHost) ..) ?_
    exact q1

end Sys2Proof.Machine
end

