-- ==== Sys2Proof/Laws/Frame/Concho.lean ====
section
/-! SUPPORT. What the operations of Machine/Concho.lean leave alone. -/

namespace Sys2Proof.Machine

theorem State.tagPost_outside {M : Touch} {r : State} {s : State} {c : Err} {arg : Nat} {arg2 : Nat} (hDict : M.dict = true) (hNums : M.Nums Nums2) (hLogs : M.logs = true) (hStraps : M.straps = true) (hJournal : M.journal = true) (hEdges : M.edges = true) (hFlags : M.flags = true) (hs : s.outside M = r) :
    (State.tagPost s c arg arg2).outside M = r := by
  unfold State.tagPost
  refine State.post_outside hDict hNums hLogs hStraps hJournal hEdges hFlags ?_
  exact hs

theorem State.tagPost_keeps {s : State} {c : Err} {arg : Nat} {arg2 : Nat} : Kept8 s (State.tagPost s c arg arg2) :=
  .of (State.tagPost_outside rfl rfl rfl rfl rfl rfl rfl rfl)

theorem State.tagPost_rd {s : State} {c : Err} {arg : Nat} {arg2 : Nat} {kk : Nat} (hkey : Nums2.contains (Key.fam kk) = false) : (State.tagPost s c arg arg2).rd kk = s.rd kk :=
  State.rd_of_outside (M := .but Nums2) (State.tagPost_outside rfl .self rfl rfl rfl rfl rfl rfl) rfl hkey

theorem State.conStart_outside {M : Touch} {r : State} {s : State} {cold : Bool} (hDict : M.dict = true) (hNums : M.Nums Nums2) (hDoms : M.doms = true) (hLogs : M.logs = true) (hStraps : M.straps = true) (hJournal : M.journal = true) (hEdges : M.edges = true) (hFlags : M.flags = true) (hs : s.outside M = r) :
    (State.conStart s cold).outside M = r := by
  unfold State.conStart
  split
  · refine State.setDom_outside hDoms ?_
    exact hs
  · refine ite_outside ?_ ?_
    · refine State.tagPost_outside hDict hNums hLogs hStraps hJournal hEdges hFlags ?_
      refine State.setDom_outside hDoms ?_
      exact hs
    · refine State.setDom_outside hDoms ?_
      exact hs

theorem State.conStart_keeps {s : State} {cold : Bool} : Kept125 s (State.conStart s cold) :=
  .of (State.conStart_outside rfl rfl rfl rfl rfl rfl rfl rfl rfl)

theorem State.conStart_rd {s : State} {cold : Bool} {kk : Nat} (hkey : Nums2.contains (Key.fam kk) = false) : (State.conStart s cold).rd kk = s.rd kk :=
  State.rd_of_outside (M := .but Nums2) (State.conStart_outside rfl .self rfl rfl rfl rfl rfl rfl rfl) rfl hkey

theorem State.setCon_outside {M : Touch} {r : State} {s : State} {c : Concho} (hConcho : M.concho = true) (hs : s.outside M = r) :
    (State.setCon s c).outside M = r := by
  unfold State.setCon
  refine Eq.trans (State.outside_concho (h0 := hConcho) ..) ?_
  exact hs

theorem State.setCon_keeps {s : State} {c : Concho} : Kept148 s (State.setCon s c) :=
  .of (State.setCon_outside rfl rfl)

theorem State.tagOpen_outside {M : Touch} {r : State} {s : State} (hNums : M.Nums Nums37) (hConcho : M.concho = true) (hs : s.outside M = r) :
    (State.tagOpen s).outside M = r := by
  unfold State.tagOpen
  extract_lets +onlyGivenNames -merge -underBinder x0
  try clear_value x0
  refine State.setCon_outside hConcho ?_
  refine State.wr_outside (hNums.at Key.fam_tagState rfl) ?_
  exact hs

theorem State.tagOpen_keeps {s : State} : Kept149 s (State.tagOpen s) :=
  .of (State.tagOpen_outside rfl rfl rfl)

theorem State.tagOpen_rd {s : State} {kk : Nat} (hkey : Nums37.contains (Key.fam kk) = false) : (State.tagOpen s).rd kk = s.rd kk :=
  State.rd_of_outside (M := .but Nums37) (State.tagOpen_outside .self rfl rfl) rfl hkey

theorem State.conQuiet_outside {M : Touch} {r : State} {s : State} (hNums : M.Nums Nums37) (hConcho : M.concho = true) (hs : s.outside M = r) :
    (State.conQuiet s).outside M = r := by
  unfold State.conQuiet
  extract_lets +onlyGivenNames -merge -underBinder x0
  have q1 : State.outside M x0 = r := by
    unfold x0
    refine State.tagOpen_outside hNums hConcho ?_
    exact hs
  try clear_value x0
  extract_lets +onlyGivenNames -merge -underBinder x2
  try clear_value x2
  refine State.setCon_outside hConcho ?_
  exact q1

theorem State.conQuiet_keeps {s : State} : Kept149 s (State.conQuiet s) :=
  .of (State.conQuiet_outside rfl rfl rfl)

theorem State.conQuiet_rd {s : State} {kk : Nat} (hkey : Nums37.contains (Key.fam kk) = false) : (State.conQuiet s).rd kk = s.rd kk :=
  State.rd_of_outside (M := .but Nums37) (State.conQuiet_outside .self rfl rfl) rfl hkey

theorem State.resetCon_outside {M : Touch} {r : State} {s : State} (hNums : M.Nums Nums37) (hConcho : M.concho = true) (hs : s.outside M = r) :
    (State.resetCon s).outside M = r := by
  unfold State.resetCon
  extract_lets +onlyGivenNames -merge -underBinder x0
  have q1 : State.outside M x0 = r := by
    unfold x0
    refine State.conQuiet_outside hNums hConcho ?_
    exact hs
  try clear_value x0
  extract_lets +onlyGivenNames -merge -underBinder x2
  try clear_value x2
  refine State.setCon_outside hConcho ?_
  exact q1

theorem State.resetCon_keeps {s : State} : Kept149 s (State.resetCon s) :=
  .of (State.resetCon_outside rfl rfl rfl)

theorem State.resetCon_rd {s : State} {kk : Nat} (hkey : Nums37.contains (Key.fam kk) = false) : (State.resetCon s).rd kk = s.rd kk :=
  State.rd_of_outside (M := .but Nums37) (State.resetCon_outside .self rfl rfl) rfl hkey

theorem State.tagCommit_outside {M : Touch} {r : State} {s : State} {d : Bytes} (hDict : M.dict = true) (hNums : M.Nums Nums2) (hDoms : M.doms = true) (hLogs : M.logs = true) (hStraps : M.straps = true) (hJournal : M.journal = true) (hConcho : M.concho = true) (hEdges : M.edges = true) (hFlags : M.flags = true) (hs : s.outside M = r) :
    (State.tagCommit s d).outside M = r := by
  unfold State.tagCommit
  extract_lets +onlyGivenNames -merge -underBinder x0
  try clear_value x0
  refine State.tagPost_outside hDict hNums hLogs hStraps hJournal hEdges hFlags ?_
  refine State.raise_outside hEdges ?_
  refine State.setDom_outside hDoms ?_
  refine State.setCon_outside hConcho ?_
  exact hs

theorem State.tagCommit_keeps {s : State} {d : Bytes} : Kept150 s (State.tagCommit s d) :=
  .of (State.tagCommit_outside rfl rfl rfl rfl rfl rfl rfl rfl rfl rfl)

theorem State.tagCommit_rd {s : State} {d : Bytes} {kk : Nat} (hkey : Nums2.contains (Key.fam kk) = false) : (State.tagCommit s d).rd kk = s.rd kk :=
  State.rd_of_outside (M := .but Nums2) (State.tagCommit_outside rfl .self rfl rfl rfl rfl rfl rfl rfl rfl) rfl hkey

theorem State.fieldEntry_outside {M : Touch} {r : State} {s : State} (hDraws : M.draws = true) (hOut : M.out = true) (hNums : M.Nums Nums37) (hConcho : M.concho = true) (hs : s.outside M = r) :
    (State.fieldEntry s).outside M = r := by
  unfold State.fieldEntry
  extract_lets +onlyGivenNames -merge -underBinder x0
  try clear_value x0
  extract_lets +onlyGivenNames -merge -underBinder x1
  have q2 : State.outside M x1 = r := by
    unfold x1
    refine State.tagOpen_outside hNums hConcho ?_
    refine State.drawn_outside hDraws ?_
    exact hs
  try clear_value x1
  extract_lets +onlyGivenNames -merge -underBinder x3
  try clear_value x3
  extract_lets +onlyGivenNames -merge -underBinder x4
  have q5 : State.outside M x4 = r := by
    unfold x4
    refine State.setCon_outside hConcho ?_
    exact q2
  try clear_value x4
  refine ite_outside ?_ ?_
  · refine State.emit_outside hOut ?_
    exact q5
  · exact q5

theorem State.fieldEntry_keeps {s : State} : Kept151 s (State.fieldEntry s) :=
  .of (State.fieldEntry_outside rfl rfl rfl rfl rfl)

theorem State.fieldEntry_rd {s : State} {kk : Nat} (hkey : Nums37.contains (Key.fam kk) = false) : (State.fieldEntry s).rd kk = s.rd kk :=
  State.rd_of_outside (M := .but Nums37) (State.fieldEntry_outside rfl rfl .self rfl rfl) rfl hkey

theorem State.fieldSensed_outside {M : Touch} {r : State} {s : State} (hDraws : M.draws = true) (hOut : M.out = true) (hPins : M.pins = true) (hNums : M.Nums Nums37) (hConcho : M.concho = true) (hEdges : M.edges = true) (hs : s.outside M = r) :
    (State.fieldSensed s).outside M = r := by
  unfold State.fieldSensed
  extract_lets +onlyGivenNames -merge -underBinder x0
  try clear_value x0
  extract_lets +onlyGivenNames -merge -underBinder x1
  have q2 : State.outside M x1 = r := by
    unfold x1
    refine State.setCon_outside hConcho ?_
    exact hs
  try clear_value x1
  extract_lets +onlyGivenNames -merge -underBinder x3
  try clear_value x3
  extract_lets +onlyGivenNames -merge -underBinder x4
  have q5 : State.outside M x4 = r := by
    unfold x4
    refine ite_outside ?_ ?_
    · refine Eq.trans (State.outside_pins (h0 := hPins) ..) ?_
      exact q2
    · exact q2
  try clear_value x4
  refine State.raise_outside hEdges ?_
  refine State.fieldEntry_outside hDraws hOut hNums hConcho ?_
  exact q5

theorem State.fieldSensed_keeps {s : State} : Kept152 s (State.fieldSensed s) :=
  .of (State.fieldSensed_outside rfl rfl rfl rfl rfl rfl rfl)

theorem State.fieldSensed_rd {s : State} {kk : Nat} (hkey : Nums37.contains (Key.fam kk) = false) : (State.fieldSensed s).rd kk = s.rd kk :=
  State.rd_of_outside (M := .but Nums37) (State.fieldSensed_outside rfl rfl rfl .self rfl rfl rfl) rfl hkey

theorem State.cycleListen_outside {M : Touch} {r : State} {s : State} (hConcho : M.concho = true) (hs : s.outside M = r) :
    (State.cycleListen s).outside M = r := by
  unfold State.cycleListen
  extract_lets +onlyGivenNames -merge -underBinder x0
  try clear_value x0
  refine State.setCon_outside hConcho ?_
  exact hs

theorem State.cycleListen_keeps {s : State} : Kept148 s (State.cycleListen s) :=
  .of (State.cycleListen_outside rfl rfl)

theorem State.antennaFree_outside {M : Touch} {r : State} {s : State} (hDraws : M.draws = true) (hOut : M.out = true) (hPins : M.pins = true) (hNums : M.Nums Nums37) (hConcho : M.concho = true) (hEdges : M.edges = true) (hs : s.outside M = r) :
    (State.antennaFree s).outside M = r := by
  unfold State.antennaFree
  extract_lets +onlyGivenNames -merge -underBinder x0
  try clear_value x0
  extract_lets +onlyGivenNames -merge -underBinder x1
  have q2 : State.outside M x1 = r := by
    unfold x1
    refine State.setCon_outside hConcho ?_
    exact hs
  try clear_value x1
  refine ite_outside ?_ ?_
  · refine State.fieldSensed_outside hDraws hOut hPins hNums hConcho hEdges ?_
    exact q2
  · refine ite_outside ?_ ?_
    · refine State.cycleListen_outside hConcho ?_
      exact q2
    · exact q2

theorem State.antennaFree_keeps {s : State} : Kept152 s (State.antennaFree s) :=
  .of (State.antennaFree_outside rfl rfl rfl rfl rfl rfl rfl)

theorem State.antennaFree_rd {s : State} {kk : Nat} (hkey : Nums37.contains (Key.fam kk) = false) : (State.antennaFree s).rd kk = s.rd kk :=
  State.rd_of_outside (M := .but Nums37) (State.antennaFree_outside rfl rfl rfl .self rfl rfl rfl) rfl hkey

theorem State.reply_outside {M : Touch} {r : State} {s : State} {sw : Nat} {data : Bytes} (hOut : M.out = true) (hs : s.outside M = r) :
    (State.reply s sw data).outside M = r := by
  unfold State.reply
  refine State.emit_outside hOut ?_
  exact hs

theorem State.reply_keeps {s : State} {sw : Nat} {data : Bytes} : Kept12 s (State.reply s sw data) :=
  .of (State.reply_outside rfl rfl)

theorem State.authDone_outside {M : Touch} {r : State} {s : State} {ok : Bool} (hOut : M.out = true) (hNums : M.Nums Nums85) (hConcho : M.concho = true) (hs : s.outside M = r) :
    (State.authDone s ok).outside M = r := by
  unfold State.authDone
  extract_lets +onlyGivenNames -merge -underBinder x0
  try clear_value x0
  extract_lets +onlyGivenNames -merge -underBinder x1
  try clear_value x1
  extract_lets +onlyGivenNames -merge -underBinder x2
  have q3 : State.outside M x2 = r := by
    unfold x2
    refine State.tagOpen_outside (hNums.sub rfl) hConcho ?_
    refine State.bump_outside (hNums.at Key.fam_tagAuthFails rfl) ?_
    exact hs
  try clear_value x2
  extract_lets +onlyGivenNames -merge -underBinder x4
  try clear_value x4
  refine ite_outside ?_ ?_
  · refine State.reply_outside hOut ?_
    refine State.wr_outside (hNums.at Key.fam_tagState rfl) ?_
    refine State.setCon_outside hConcho ?_
    exact hs
  · refine State.reply_outside hOut ?_
    refine State.setCon_outside hConcho ?_
    exact q3

theorem State.authDone_keeps {s : State} {ok : Bool} : Kept153 s (State.authDone s ok) :=
  .of (State.authDone_outside rfl rfl rfl rfl)

theorem State.authDone_rd {s : State} {ok : Bool} {kk : Nat} (hkey : Nums85.contains (Key.fam kk) = false) : (State.authDone s ok).rd kk = s.rd kk :=
  State.rd_of_outside (M := .but Nums85) (State.authDone_outside rfl .self rfl rfl) rfl hkey

theorem State.conPost_outside {M : Touch} {r : State} {s : State} {c : Err} {arg : Nat} {arg2 : Nat} (hDict : M.dict = true) (hNums : M.Nums Nums2) (hLogs : M.logs = true) (hStraps : M.straps = true) (hJournal : M.journal = true) (hEdges : M.edges = true) (hFlags : M.flags = true) (hs : s.outside M = r) :
    (State.conPost s c arg arg2).outside M = r := by
  unfold State.conPost
  refine State.post_outside hDict hNums hLogs hStraps hJournal hEdges hFlags ?_
  exact hs

theorem State.conPost_keeps {s : State} {c : Err} {arg : Nat} {arg2 : Nat} : Kept8 s (State.conPost s c arg arg2) :=
  .of (State.conPost_outside rfl rfl rfl rfl rfl rfl rfl rfl)

theorem State.conPost_rd {s : State} {c : Err} {arg : Nat} {arg2 : Nat} {kk : Nat} (hkey : Nums2.contains (Key.fam kk) = false) : (State.conPost s c arg arg2).rd kk = s.rd kk :=
  State.rd_of_outside (M := .but Nums2) (State.conPost_outside rfl .self rfl rfl rfl rfl rfl rfl) rfl hkey

theorem State.conSense_outside {M : Touch} {r : State} {s : State} (hDraws : M.draws = true) (hOut : M.out = true) (hPins : M.pins = true) (hNums : M.Nums Nums37) (hConcho : M.concho = true) (hEdges : M.edges = true) (hs : s.outside M = r) :
    (State.conSense s).outside M = r := by
  unfold State.conSense
  refine ite_outside ?_ ?_
  · refine State.fieldSensed_outside hDraws hOut hPins hNums hConcho hEdges ?_
    exact hs
  · exact hs

theorem State.conSense_keeps {s : State} : Kept152 s (State.conSense s) :=
  .of (State.conSense_outside rfl rfl rfl rfl rfl rfl rfl)

theorem State.conSense_rd {s : State} {kk : Nat} (hkey : Nums37.contains (Key.fam kk) = false) : (State.conSense s).rd kk = s.rd kk :=
  State.rd_of_outside (M := .but Nums37) (State.conSense_outside rfl rfl rfl .self rfl rfl rfl) rfl hkey

theorem State.fieldGone_outside {M : Touch} {r : State} {s : State} {absent : Nat} (hConcho : M.concho = true) (hs : s.outside M = r) :
    (State.fieldGone s absent).outside M = r := by
  unfold State.fieldGone
  extract_lets +onlyGivenNames -merge -underBinder x0
  try clear_value x0
  refine ite_outside ?_ ?_
  · refine State.setCon_outside hConcho ?_
    exact hs
  · exact hs

theorem State.fieldGone_keeps {s : State} {absent : Nat} : Kept148 s (State.fieldGone s absent) :=
  .of (State.fieldGone_outside rfl rfl)

theorem State.fileNow_outside {M : Touch} {r : State} {s : State} (hDraws : M.draws = true) (hs : s.outside M = r) :
    (State.fileNow s).2.outside M = r := by
  unfold State.fileNow
  extract_lets +onlyGivenNames -merge -underBinder x0
  try clear_value x0
  refine ite_snd_outside ?_ ?_
  · refine snd_outside ?_
    refine State.drawn_outside hDraws ?_
    exact hs
  · refine ite_snd_outside ?_ ?_
    · split
      · refine snd_outside ?_
        exact hs
      · refine snd_outside ?_
        refine State.drawn_outside hDraws ?_
        exact hs
    · refine snd_outside ?_
      exact hs

theorem State.tagRecord_outside {M : Touch} {r : State} {s : State} {p : TagProto} {uid : Bytes} {kind : Nat} {status : Nat} {data : Bytes} (hDict : M.dict = true) (hNums : M.Nums Nums2) (hLogs : M.logs = true) (hStraps : M.straps = true) (hJournal : M.journal = true) (hEdges : M.edges = true) (hFlags : M.flags = true) (hs : s.outside M = r) :
    (State.tagRecord s p uid kind status data).outside M = r := by
  unfold State.tagRecord
  extract_lets +onlyGivenNames -merge -underBinder x0
  try clear_value x0
  extract_lets +onlyGivenNames -merge -underBinder x1
  try clear_value x1
  extract_lets +onlyGivenNames -merge -underBinder x2
  try clear_value x2
  extract_lets +onlyGivenNames -merge -underBinder x3
  try clear_value x3
  refine State.postSev_outside hDict hNums hLogs hStraps hJournal hEdges hFlags ?_
  exact hs

theorem State.tagRecord_keeps {s : State} {p : TagProto} {uid : Bytes} {kind : Nat} {status : Nat} {data : Bytes} : Kept8 s (State.tagRecord s p uid kind status data) :=
  .of (State.tagRecord_outside rfl rfl rfl rfl rfl rfl rfl rfl)

theorem State.tagRecord_rd {s : State} {p : TagProto} {uid : Bytes} {kind : Nat} {status : Nat} {data : Bytes} {kk : Nat} (hkey : Nums2.contains (Key.fam kk) = false) : (State.tagRecord s p uid kind status data).rd kk = s.rd kk :=
  State.rd_of_outside (M := .but Nums2) (State.tagRecord_outside rfl .self rfl rfl rfl rfl rfl rfl) rfl hkey

theorem State.readerSend_outside {M : Touch} {r : State} {s : State} {x : ReaderSent} (hOut : M.out = true) (hs : s.outside M = r) :
    (State.readerSend s x).outside M = r := by
  unfold State.readerSend
  refine State.emit_outside hOut ?_
  exact hs

theorem State.readerSend_keeps {s : State} {x : ReaderSent} : Kept12 s (State.readerSend s x) :=
  .of (State.readerSend_outside rfl rfl)

theorem State.giveUp_outside {M : Touch} {r : State} {s : State} {w : TagWait} {status : Nat} (hOut : M.out = true) (hDict : M.dict = true) (hNums : M.Nums Nums2) (hLogs : M.logs = true) (hStraps : M.straps = true) (hJournal : M.journal = true) (hConcho : M.concho = true) (hEdges : M.edges = true) (hFlags : M.flags = true) (hs : s.outside M = r) :
    (State.giveUp s w status).outside M = r := by
  unfold State.giveUp
  extract_lets +onlyGivenNames -merge -underBinder x0
  try clear_value x0
  extract_lets +onlyGivenNames -merge -underBinder x1
  have q2 : State.outside M x1 = r := by
    unfold x1
    refine State.readerSend_outside hOut ?_
    exact hs
  try clear_value x1
  extract_lets +onlyGivenNames -merge -underBinder x3
  have q4 : State.outside M x3 = r := by
    unfold x3
    refine State.tagRecord_outside hDict hNums hLogs hStraps hJournal hEdges hFlags ?_
    exact q2
  try clear_value x3
  extract_lets +onlyGivenNames -merge -underBinder x5
  try clear_value x5
  refine State.setCon_outside hConcho ?_
  exact q4

theorem State.giveUp_keeps {s : State} {w : TagWait} {status : Nat} : Kept154 s (State.giveUp s w status) :=
  .of (State.giveUp_outside rfl rfl rfl rfl rfl rfl rfl rfl rfl rfl)

theorem State.giveUp_rd {s : State} {w : TagWait} {status : Nat} {kk : Nat} (hkey : Nums2.contains (Key.fam kk) = false) : (State.giveUp s w status).rd kk = s.rd kk :=
  State.rd_of_outside (M := .but Nums2) (State.giveUp_outside rfl rfl .self rfl rfl rfl rfl rfl rfl rfl) rfl hkey

theorem State.shadowCommit_outside {M : Touch} {r : State} {s : State} {d : Bytes} {n : Nat} (hOut : M.out = true) (hDict : M.dict = true) (hNums : M.Nums Nums2) (hDoms : M.doms = true) (hLogs : M.logs = true) (hStraps : M.straps = true) (hJournal : M.journal = true) (hConcho : M.concho = true) (hEdges : M.edges = true) (hFlags : M.flags = true) (hs : s.outside M = r) :
    (State.shadowCommit s d n).outside M = r := by
  unfold State.shadowCommit
  extract_lets +onlyGivenNames -merge -underBinder x0
  try clear_value x0
  extract_lets +onlyGivenNames -merge -underBinder x1
  try clear_value x1
  extract_lets +onlyGivenNames -merge -underBinder x2
  try clear_value x2
  refine ite_outside ?_ ?_
  · refine State.reply_outside hOut ?_
    refine State.tagPost_outside hDict hNums hLogs hStraps hJournal hEdges hFlags ?_
    refine State.setCon_outside hConcho ?_
    exact hs
  · refine ite_outside ?_ ?_
    · refine State.setCon_outside hConcho ?_
      exact hs
    · refine State.reply_outside hOut ?_
      refine State.tagCommit_outside hDict hNums hDoms hLogs hStraps hJournal hConcho hEdges hFlags ?_
      exact hs

theorem State.shadowCommit_keeps {s : State} {d : Bytes} {n : Nat} : Kept155 s (State.shadowCommit s d n) :=
  .of (State.shadowCommit_outside rfl rfl rfl rfl rfl rfl rfl rfl rfl rfl rfl)

theorem State.shadowCommit_rd {s : State} {d : Bytes} {n : Nat} {kk : Nat} (hkey : Nums2.contains (Key.fam kk) = false) : (State.shadowCommit s d n).rd kk = s.rd kk :=
  State.rd_of_outside (M := .but Nums2) (State.shadowCommit_outside rfl rfl .self rfl rfl rfl rfl rfl rfl rfl rfl) rfl hkey

theorem State.tagFound_outside {M : Touch} {r : State} {s : State} {t : TagSeen} (hOut : M.out = true) (hDict : M.dict = true) (hNums : M.Nums Nums2) (hLogs : M.logs = true) (hStraps : M.straps = true) (hJournal : M.journal = true) (hConcho : M.concho = true) (hEdges : M.edges = true) (hFlags : M.flags = true) (hs : s.outside M = r) :
    (State.tagFound s t).outside M = r := by
  unfold State.tagFound
  extract_lets +onlyGivenNames -merge -underBinder x0
  try clear_value x0
  extract_lets +onlyGivenNames -merge -underBinder x1
  try clear_value x1
  extract_lets +onlyGivenNames -merge -underBinder x2
  have q3 : State.outside M x2 = r := by
    unfold x2
    refine State.setCon_outside hConcho ?_
    exact hs
  try clear_value x2
  extract_lets +onlyGivenNames -merge -underBinder x4
  try clear_value x4
  extract_lets +onlyGivenNames -merge -underBinder x5
  try clear_value x5
  refine ite_outside ?_ ?_
  · exact hs
  · refine ite_outside ?_ ?_
    · refine State.readerSend_outside hOut ?_
      refine State.setCon_outside hConcho ?_
      exact q3
    · refine State.readerSend_outside hOut ?_
      refine State.setCon_outside hConcho ?_
      refine State.tagRecord_outside hDict hNums hLogs hStraps hJournal hEdges hFlags ?_
      exact q3

theorem State.tagFound_keeps {s : State} {t : TagSeen} : Kept154 s (State.tagFound s t) :=
  .of (State.tagFound_outside rfl rfl rfl rfl rfl rfl rfl rfl rfl rfl)

theorem State.tagFound_rd {s : State} {t : TagSeen} {kk : Nat} (hkey : Nums2.contains (Key.fam kk) = false) : (State.tagFound s t).rd kk = s.rd kk :=
  State.rd_of_outside (M := .but Nums2) (State.tagFound_outside rfl rfl .self rfl rfl rfl rfl rfl rfl rfl) rfl hkey

theorem execTagSessionEnd_outside {M : Touch} {r : State} {absent : Nat} {dt : Nat} {s : State} (hClock : M.clock = true) (hNums : M.Nums Nums37) (hVbat : M.vbat = true) (hConcho : M.concho = true) (hs : s.outside M = r) :
    NextOutside M r (execTagSessionEnd absent dt s) := by
  unfold execTagSessionEnd
  extract_lets +onlyGivenNames -merge -underBinder x0
  have q1 : State.outside M x0 = r := by
    unfold x0
    refine State.advance_outside hClock hVbat ?_
    exact hs
  try clear_value x0
  extract_lets +onlyGivenNames -merge -underBinder x2
  have q3 : State.outside M x2 = r := by
    unfold x2
    refine State.fieldGone_outside hConcho ?_
    exact q1
  try clear_value x2
  extract_lets +onlyGivenNames -merge -underBinder x4
  have q5 : State.outside M x4 = r := by
    unfold x4
    refine State.tagOpen_outside hNums hConcho ?_
    exact q3
  try clear_value x4
  extract_lets +onlyGivenNames -merge -underBinder x6
  try clear_value x6
  refine next_outside ?_
  refine ite_outside ?_ ?_
  · exact q1
  · refine ite_outside ?_ ?_
    · refine State.setCon_outside hConcho ?_
      exact q5
    · exact q3

theorem execTagSelect_outside {M : Touch} {r : State} {name : Option Bytes} {file : BitVec 16} {s : State} (hOut : M.out = true) (hConcho : M.concho = true) (hs : s.outside M = r) :
    NextOutside M r (execTagSelect name file s) := by
  unfold execTagSelect
  refine next_outside ?_
  refine ite_outside ?_ ?_
  · exact hs
  · split
    · extract_lets +onlyGivenNames -merge -underBinder x0
      try clear_value x0
      refine ite_outside ?_ ?_
      · refine State.reply_outside hOut ?_
        refine State.setCon_outside hConcho ?_
        exact hs
      · refine State.reply_outside hOut ?_
        exact hs
    · extract_lets +onlyGivenNames -merge -underBinder x1
      try clear_value x1
      refine ite_outside ?_ ?_
      · refine State.reply_outside hOut ?_
        refine State.setCon_outside hConcho ?_
        exact hs
      · refine State.reply_outside hOut ?_
        exact hs

theorem execFwtTimeout_outside {M : Touch} {r : State} {w : TagWait} {dt : Nat} {s : State} (hOut : M.out = true) (hClock : M.clock = true) (hDict : M.dict = true) (hNums : M.Nums Nums2) (hLogs : M.logs = true) (hVbat : M.vbat = true) (hStraps : M.straps = true) (hJournal : M.journal = true) (hConcho : M.concho = true) (hEdges : M.edges = true) (hFlags : M.flags = true) (hs : s.outside M = r) :
    NextOutside M r (execFwtTimeout w dt s) := by
  unfold execFwtTimeout
  extract_lets +onlyGivenNames -merge -underBinder x0
  try clear_value x0
  extract_lets +onlyGivenNames -merge -underBinder x1
  have q2 : State.outside M x1 = r := by
    unfold x1
    refine State.advance_outside hClock hVbat ?_
    exact hs
  try clear_value x1
  extract_lets +onlyGivenNames -merge -underBinder x3
  try clear_value x3
  extract_lets +onlyGivenNames -merge -underBinder x4
  try clear_value x4
  refine next_outside ?_
  refine ite_outside ?_ ?_
  · exact q2
  · refine ite_outside ?_ ?_
    · refine State.readerSend_outside hOut ?_
      refine State.setCon_outside hConcho ?_
      exact q2
    · refine State.giveUp_outside hOut hDict hNums hLogs hStraps hJournal hConcho hEdges hFlags ?_
      exact q2

theorem execTagGetChallenge_outside {M : Touch} {r : State} {s : State} (hDraws : M.draws = true) (hOut : M.out = true) (hConcho : M.concho = true) (hs : s.outside M = r) :
    NextOutside M r (execTagGetChallenge s) := by
  unfold execTagGetChallenge
  extract_lets +onlyGivenNames -merge -underBinder x0
  try clear_value x0
  extract_lets +onlyGivenNames -merge -underBinder x1
  try clear_value x1
  refine next_outside ?_
  refine ite_outside ?_ ?_
  · exact hs
  · refine ite_outside ?_ ?_
    · refine State.reply_outside hOut ?_
      exact hs
    · refine State.reply_outside hOut ?_
      refine State.setCon_outside hConcho ?_
      refine State.drawn_outside hDraws ?_
      exact hs

theorem execReaderListenEnd_outside {M : Touch} {r : State} {tags : List TagSeen} {run : Nat} {dt : Nat} {s : State} (hOut : M.out = true) (hClock : M.clock = true) (hDict : M.dict = true) (hNums : M.Nums Nums2) (hLogs : M.logs = true) (hVbat : M.vbat = true) (hStraps : M.straps = true) (hJournal : M.journal = true) (hConcho : M.concho = true) (hEdges : M.edges = true) (hFlags : M.flags = true) (hs : s.outside M = r) :
    NextOutside M r (execReaderListenEnd tags run dt s) := by
  unfold execReaderListenEnd
  extract_lets +onlyGivenNames -merge -underBinder x0
  have q1 : State.outside M x0 = r := by
    unfold x0
    refine State.advance_outside hClock hVbat ?_
    exact hs
  try clear_value x0
  extract_lets +onlyGivenNames -merge -underBinder x2
  try clear_value x2
  extract_lets +onlyGivenNames -merge -underBinder x3
  have q4 : State.outside M x3 = r := by
    unfold x3
    refine State.setCon_outside hConcho ?_
    exact q1
  try clear_value x3
  refine next_outside ?_
  refine ite_outside ?_ ?_
  · refine State.each_outside ?_ ?_
    · intro t5 q6 z7
      refine State.tagFound_outside hOut hDict hNums hLogs hStraps hJournal hConcho hEdges hFlags ?_
      exact q6
    · refine State.advance_outside hClock hVbat ?_
      exact q4
  · exact q1

theorem execTagUnknownIns_outside {M : Touch} {r : State} {s : State} (hOut : M.out = true) (hs : s.outside M = r) :
    NextOutside M r (execTagUnknownIns s) := by
  unfold execTagUnknownIns
  refine next_outside ?_
  refine ite_outside ?_ ?_
  · refine State.reply_outside hOut ?_
    exact hs
  · exact hs

theorem execTagLockoutEnd_outside {M : Touch} {r : State} {dt : Nat} {s : State} (hClock : M.clock = true) (hVbat : M.vbat = true) (hConcho : M.concho = true) (hs : s.outside M = r) :
    NextOutside M r (execTagLockoutEnd dt s) := by
  unfold execTagLockoutEnd
  extract_lets +onlyGivenNames -merge -underBinder x0
  have q1 : State.outside M x0 = r := by
    unfold x0
    refine State.advance_outside hClock hVbat ?_
    exact hs
  try clear_value x0
  refine next_outside ?_
  split
  · extract_lets +onlyGivenNames -merge -underBinder x2
    try clear_value x2
    refine ite_outside ?_ ?_
    · refine State.setCon_outside hConcho ?_
      exact q1
    · exact q1
  · exact q1

theorem execReaderCycleDue_outside {M : Touch} {r : State} {dt : Nat} {s : State} (hClock : M.clock = true) (hVbat : M.vbat = true) (hConcho : M.concho = true) (hs : s.outside M = r) :
    NextOutside M r (execReaderCycleDue dt s) := by
  unfold execReaderCycleDue
  extract_lets +onlyGivenNames -merge -underBinder x0
  have q1 : State.outside M x0 = r := by
    unfold x0
    refine State.advance_outside hClock hVbat ?_
    exact hs
  try clear_value x0
  refine next_outside ?_
  refine ite_outside ?_ ?_
  · exact q1
  · split
    · exact q1
    · refine ite_outside ?_ ?_
      · refine State.cycleListen_outside hConcho ?_
        exact q1
      · exact q1
    · extract_lets +onlyGivenNames -merge -underBinder x2
      try clear_value x2
      refine ite_outside ?_ ?_
      · refine State.setCon_outside hConcho ?_
        exact q1
      · exact q1
    · extract_lets +onlyGivenNames -merge -underBinder x3
      try clear_value x3
      refine ite_outside ?_ ?_
      · refine State.setCon_outside hConcho ?_
        exact q1
      · exact q1

theorem execExtFieldDetect_outside {M : Touch} {r : State} {dt : Nat} {s : State} (hDraws : M.draws = true) (hOut : M.out = true) (hPins : M.pins = true) (hClock : M.clock = true) (hNums : M.Nums Nums37) (hVbat : M.vbat = true) (hConcho : M.concho = true) (hEdges : M.edges = true) (hs : s.outside M = r) :
    NextOutside M r (execExtFieldDetect dt s) := by
  unfold execExtFieldDetect
  extract_lets +onlyGivenNames -merge -underBinder x0
  have q1 : State.outside M x0 = r := by
    unfold x0
    refine State.advance_outside hClock hVbat ?_
    exact hs
  try clear_value x0
  extract_lets +onlyGivenNames -merge -underBinder x2
  try clear_value x2
  extract_lets +onlyGivenNames -merge -underBinder x3
  have q4 : State.outside M x3 = r := by
    unfold x3
    refine State.setCon_outside hConcho ?_
    exact q1
  try clear_value x3
  refine next_outside ?_
  refine ite_outside ?_ ?_
  · exact q1
  · split
    · exact q4
    · refine State.fieldEntry_outside hDraws hOut hNums hConcho ?_
      exact q4
    · refine State.fieldSensed_outside hDraws hOut hPins hNums hConcho hEdges ?_
      exact q4
    · refine State.fieldSensed_outside hDraws hOut hPins hNums hConcho hEdges ?_
      exact q4

theorem execFdNRelease_outside {M : Touch} {r : State} {dt : Nat} {s : State} (hPins : M.pins = true) (hClock : M.clock = true) (hVbat : M.vbat = true) (hs : s.outside M = r) :
    NextOutside M r (execFdNRelease dt s) := by
  unfold execFdNRelease
  extract_lets +onlyGivenNames -merge -underBinder x0
  have q1 : State.outside M x0 = r := by
    unfold x0
    refine State.advance_outside hClock hVbat ?_
    exact hs
  try clear_value x0
  extract_lets +onlyGivenNames -merge -underBinder x2
  try clear_value x2
  refine next_outside ?_
  refine ite_outside ?_ ?_
  · refine Eq.trans (State.outside_pins (h0 := hPins) ..) ?_
    exact q1
  · exact q1

theorem execTagReadBinary_outside {M : Touch} {r : State} {off : BitVec 15} {le : Fin 256} {s : State} (hDraws : M.draws = true) (hOut : M.out = true) (hs : s.outside M = r) :
    NextOutside M r (execTagReadBinary off le s) := by
  unfold execTagReadBinary
  extract_lets +onlyGivenNames -merge -underBinder x0
  try clear_value x0
  extract_lets +onlyGivenNames -merge -underBinder x1
  have q2 : State.outside M x1.2 = r := by
    unfold x1
    refine State.fileNow_outside hDraws ?_
    exact hs
  try clear_value x1
  refine next_outside ?_
  refine ite_outside ?_ ?_
  · exact hs
  · refine ite_outside ?_ ?_
    · refine State.reply_outside hOut ?_
      exact hs
    · split
      · refine State.reply_outside hOut ?_
        exact hs
      · refine ite_outside ?_ ?_
        · refine State.reply_outside hOut ?_
          exact q2
        · refine State.reply_outside hOut ?_
          exact q2

theorem execTagVerify_outside {M : Touch} {r : State} {pw : BitVec 32} {s : State} (hOut : M.out = true) (hNums : M.Nums Nums85) (hConcho : M.concho = true) (hs : s.outside M = r) :
    NextOutside M r (execTagVerify pw s) := by
  unfold execTagVerify
  refine next_outside ?_
  refine ite_outside ?_ ?_
  · exact hs
  · refine ite_outside ?_ ?_
    · refine State.reply_outside hOut ?_
      exact hs
    · refine ite_outside ?_ ?_
      · refine State.reply_outside hOut ?_
        exact hs
      · refine State.authDone_outside hOut hNums hConcho ?_
        exact hs

theorem execTagExternalAuth_outside {M : Touch} {r : State} {data : BitVec 128} {s : State} (hOut : M.out = true) (hDict : M.dict = true) (hNums : M.Nums Nums167) (hLogs : M.logs = true) (hKeeper : M.keeper = true) (hStraps : M.straps = true) (hJournal : M.journal = true) (hConcho : M.concho = true) (hEdges : M.edges = true) (hFlags : M.flags = true) (hs : s.outside M = r) :
    NextOutside M r (execTagExternalAuth data s) := by
  unfold execTagExternalAuth
  refine next_outside ?_
  refine ite_outside ?_ ?_
  · exact hs
  · refine ite_outside ?_ ?_
    · refine State.reply_outside hOut ?_
      exact hs
    · refine ite_outside ?_ ?_
      · refine State.reply_outside hOut ?_
        exact hs
      · split
        · refine State.reply_outside hOut ?_
          exact hs
        · extract_lets +onlyGivenNames -merge -underBinder x0
          try clear_value x0
          extract_lets +onlyGivenNames -merge -underBinder x1
          have q2 : State.outside M x1 = r := by
            unfold x1
            refine State.setCon_outside hConcho ?_
            exact hs
          try clear_value x1
          extract_lets +onlyGivenNames -merge -underBinder x3
          try clear_value x3
          extract_lets +onlyGivenNames -merge -underBinder x4
          try clear_value x4
          refine ite_outside ?_ ?_
          · refine State.authDone_outside hOut (hNums.sub rfl) hConcho ?_
            refine State.useSlot_outside hDict (hNums.sub rfl) hLogs hKeeper hStraps hJournal hEdges hFlags ?_
            exact q2
          · refine State.authDone_outside hOut (hNums.sub rfl) hConcho ?_
            exact q2

theorem execTagFieldAbsent_outside {M : Touch} {r : State} {absent : Nat} {dt : Nat} {s : State} (hDraws : M.draws = true) (hOut : M.out = true) (hPins : M.pins = true) (hClock : M.clock = true) (hNums : M.Nums Nums37) (hVbat : M.vbat = true) (hConcho : M.concho = true) (hEdges : M.edges = true) (hs : s.outside M = r) :
    NextOutside M r (execTagFieldAbsent absent dt s) := by
  unfold execTagFieldAbsent
  extract_lets +onlyGivenNames -merge -underBinder x0
  have q1 : State.outside M x0 = r := by
    unfold x0
    refine State.advance_outside hClock hVbat ?_
    exact hs
  try clear_value x0
  extract_lets +onlyGivenNames -merge -underBinder x2
  have q3 : State.outside M x2 = r := by
    unfold x2
    refine State.fieldGone_outside hConcho ?_
    exact q1
  try clear_value x2
  extract_lets +onlyGivenNames -merge -underBinder x4
  have q5 : State.outside M x4 = r := by
    unfold x4
    refine State.tagOpen_outside hNums hConcho ?_
    exact q3
  try clear_value x4
  extract_lets +onlyGivenNames -merge -underBinder x6
  try clear_value x6
  refine next_outside ?_
  refine ite_outside ?_ ?_
  · exact q1
  · refine ite_outside ?_ ?_
    · refine State.antennaFree_outside hDraws hOut hPins hNums hConcho hEdges ?_
      refine State.setCon_outside hConcho ?_
      exact q5
    · exact q3

theorem execReaderCycleEnd_outside {M : Touch} {r : State} {tags : List TagSeen} {dt : Nat} {s : State} (hDraws : M.draws = true) (hOut : M.out = true) (hPins : M.pins = true) (hClock : M.clock = true) (hDict : M.dict = true) (hNums : M.Nums Nums174) (hLogs : M.logs = true) (hVbat : M.vbat = true) (hStraps : M.straps = true) (hJournal : M.journal = true) (hConcho : M.concho = true) (hEdges : M.edges = true) (hFlags : M.flags = true) (hs : s.outside M = r) :
    NextOutside M r (execReaderCycleEnd tags dt s) := by
  unfold execReaderCycleEnd
  extract_lets +onlyGivenNames -merge -underBinder x0
  have q1 : State.outside M x0 = r := by
    unfold x0
    refine State.advance_outside hClock hVbat ?_
    exact hs
  try clear_value x0
  extract_lets +onlyGivenNames -merge -underBinder x2
  have q3 : State.outside M x2 = r := by
    unfold x2
    refine State.each_outside ?_ ?_
    · intro t4 q5 z6
      refine State.tagFound_outside hOut hDict (hNums.sub rfl) hLogs hStraps hJournal hConcho hEdges hFlags ?_
      exact q5
    · exact q1
  try clear_value x2
  extract_lets +onlyGivenNames -merge -underBinder x7
  try clear_value x7
  extract_lets +onlyGivenNames -merge -underBinder x8
  try clear_value x8
  extract_lets +onlyGivenNames -merge -underBinder x9
  try clear_value x9
  extract_lets +onlyGivenNames -merge -underBinder x10
  have q11 : State.outside M x10 = r := by
    unfold x10
    refine ite_outside ?_ ?_
    · refine State.conPost_outside hDict (hNums.sub rfl) hLogs hStraps hJournal hEdges hFlags ?_
      exact q3
    · exact q3
  try clear_value x10
  extract_lets +onlyGivenNames -merge -underBinder x12
  have q13 : State.outside M x12 = r := by
    unfold x12
    refine State.setCon_outside hConcho ?_
    exact q11
  try clear_value x12
  refine next_outside ?_
  refine ite_outside ?_ ?_
  · exact q1
  · refine State.antennaFree_outside hDraws hOut hPins (hNums.sub rfl) hConcho hEdges ?_
    refine State.raise_outside hEdges ?_
    exact q13

theorem execTagDeselect_outside {M : Touch} {r : State} {s : State} (hNums : M.Nums Nums37) (hConcho : M.concho = true) (hs : s.outside M = r) :
    NextOutside M r (execTagDeselect s) := by
  unfold execTagDeselect
  refine next_outside ?_
  refine ite_outside ?_ ?_
  · refine State.tagOpen_outside hNums hConcho ?_
    exact hs
  · exact hs

theorem execWtxRequest_outside {M : Touch} {r : State} {w : TagWait} {m : Fin 59} {dt : Nat} {s : State} (hOut : M.out = true) (hClock : M.clock = true) (hDict : M.dict = true) (hNums : M.Nums Nums2) (hLogs : M.logs = true) (hVbat : M.vbat = true) (hStraps : M.straps = true) (hJournal : M.journal = true) (hConcho : M.concho = true) (hEdges : M.edges = true) (hFlags : M.flags = true) (hs : s.outside M = r) :
    NextOutside M r (execWtxRequest w m dt s) := by
  unfold execWtxRequest
  extract_lets +onlyGivenNames -merge -underBinder x0
  try clear_value x0
  extract_lets +onlyGivenNames -merge -underBinder x1
  have q2 : State.outside M x1 = r := by
    unfold x1
    refine State.advance_outside hClock hVbat ?_
    exact hs
  try clear_value x1
  extract_lets +onlyGivenNames -merge -underBinder x3
  try clear_value x3
  refine next_outside ?_
  split
  · extract_lets +onlyGivenNames -merge -underBinder x4
    try clear_value x4
    extract_lets +onlyGivenNames -merge -underBinder x5
    try clear_value x5
    refine ite_outside ?_ ?_
    · exact q2
    · refine ite_outside ?_ ?_
      · refine State.readerSend_outside hOut ?_
        refine State.setCon_outside hConcho ?_
        exact q2
      · refine State.giveUp_outside hOut hDict hNums hLogs hStraps hJournal hConcho hEdges hFlags ?_
        exact q2
  · exact q2
  · exact q2

theorem execLpcdMeasure_outside {M : Touch} {r : State} {amp : Nat} {phase : Int} {dt : Nat} {s : State} (hPins : M.pins = true) (hClock : M.clock = true) (hDict : M.dict = true) (hNums : M.Nums Nums52) (hResults : M.results = true) (hLogs : M.logs = true) (hPower : M.power = true) (hVbat : M.vbat = true) (hPorts : M.ports = true) (hRxTiles : M.rxTiles = true) (hStraps : M.straps = true) (hJournal : M.journal = true) (hConcho : M.concho = true) (hEdges : M.edges = true) (hFlags : M.flags = true) (hs : s.outside M = r) :
    NextOutside M r (execLpcdMeasure amp phase dt s) := by
  unfold execLpcdMeasure
  extract_lets +onlyGivenNames -merge -underBinder x0
  have q1 : State.outside M x0 = r := by
    unfold x0
    refine State.advance_outside hClock hVbat ?_
    exact hs
  try clear_value x0
  extract_lets +onlyGivenNames -merge -underBinder x2
  try clear_value x2
  extract_lets +onlyGivenNames -merge -underBinder x3
  try clear_value x3
  extract_lets +onlyGivenNames -merge -underBinder x4
  try clear_value x4
  refine next_outside ?_
  refine ite_outside ?_ ?_
  · exact q1
  · split
    · extract_lets +onlyGivenNames -merge -underBinder x5
      have q6 : State.outside M x5 = r := by
        unfold x5
        refine State.raise_outside hEdges ?_
        refine State.setCon_outside hConcho ?_
        exact q1
      try clear_value x5
      refine ite_outside ?_ ?_
      · refine ite_outside ?_ ?_
        · refine State.wake_outside hPins hDict hNums hResults hLogs hPower hPorts hRxTiles hStraps hJournal hEdges hFlags ?_
          exact q6
        · exact q6
      · refine State.setCon_outside hConcho ?_
        exact q1
    · refine State.setCon_outside hConcho ?_
      exact q1

theorem execTagUpdateBinary_outside {M : Touch} {r : State} {off : BitVec 15} {data : Bytes} {written : Fin 67} {s : State} (hDraws : M.draws = true) (hOut : M.out = true) (hDict : M.dict = true) (hNums : M.Nums Nums2) (hDoms : M.doms = true) (hLogs : M.logs = true) (hStraps : M.straps = true) (hJournal : M.journal = true) (hConcho : M.concho = true) (hEdges : M.edges = true) (hFlags : M.flags = true) (hs : s.outside M = r) :
    NextOutside M r (execTagUpdateBinary off data written s) := by
  unfold execTagUpdateBinary
  extract_lets +onlyGivenNames -merge -underBinder x0
  have q1 : State.outside M x0.2 = r := by
    unfold x0
    refine State.fileNow_outside hDraws ?_
    exact hs
  try clear_value x0
  extract_lets +onlyGivenNames -merge -underBinder x2
  have q3 : State.outside M x2 = r := by
    unfold x2
    exact q1
  try clear_value x2
  extract_lets +onlyGivenNames -merge -underBinder x4
  try clear_value x4
  extract_lets +onlyGivenNames -merge -underBinder x5
  try clear_value x5
  extract_lets +onlyGivenNames -merge -underBinder x6
  try clear_value x6
  extract_lets +onlyGivenNames -merge -underBinder x7
  have q8 : State.outside M x7 = r := by
    unfold x7
    refine State.setCon_outside hConcho ?_
    exact q3
  try clear_value x7
  refine next_outside ?_
  refine ite_outside ?_ ?_
  · exact hs
  · refine ite_outside ?_ ?_
    · refine State.reply_outside hOut ?_
      exact hs
    · refine ite_outside ?_ ?_
      · refine State.reply_outside hOut ?_
        exact hs
      · refine ite_outside ?_ ?_
        · refine State.reply_outside hOut ?_
          exact q3
        · refine ite_outside ?_ ?_
          · refine State.shadowCommit_outside hOut hDict hNums hDoms hLogs hStraps hJournal hConcho hEdges hFlags ?_
            exact q8
          · refine State.reply_outside hOut ?_
            exact q8

end Sys2Proof.Machine
end

