-- ==== Sys2Proof/Laws/Frame/Buckle.lean ====
section
/-! SUPPORT. What the operations of Machine/Buckle.lean leave alone. -/

namespace Sys2Proof.Machine

theorem State.resetBuckle_outside {M : Touch} {r : State} {s : State} (hNums : M.Nums Nums41) (hBuckle : M.buckle = true) (hEdges : M.edges = true) (hs : s.outside M = r) :
    (State.resetBuckle s).outside M = r := by
  unfold State.resetBuckle
  extract_lets +onlyGivenNames -merge -underBinder x0
  have q1 : State.outside M x0 = r := by
    unfold x0
    refine State.each_outside ?_ ?_
    · intro t2 q3 z4
      refine State.wr_outside (hNums.at Key.fam_srcEvents rfl) ?_
      exact q3
    · exact hs
  try clear_value x0
  rw [← q1]; simp only [State.outside, hBuckle, hEdges, cond_true]

theorem State.resetBuckle_keeps {s : State} : Kept182 s (State.resetBuckle s) :=
  .of (State.resetBuckle_outside rfl rfl rfl rfl)

theorem State.resetBuckle_rd {s : State} {kk : Nat} (hkey : Nums41.contains (Key.fam kk) = false) : (State.resetBuckle s).rd kk = s.rd kk :=
  State.rd_of_outside (M := .but Nums41) (State.resetBuckle_outside .self rfl rfl rfl) rfl hkey

theorem State.setPend_outside {M : Touch} {r : State} {s : State} {n : Nat} {v : Nat} (hBuckle : M.buckle = true) (hs : s.outside M = r) :
    (State.setPend s n v).outside M = r := by
  unfold State.setPend
  extract_lets +onlyGivenNames -merge -underBinder x0
  unfold x0
  clear x0
  refine Eq.trans (State.outside_buckle_buckle (h0 := hBuckle) ..) ?_
  exact hs

theorem State.setPend_keeps {s : State} {n : Nat} {v : Nat} : Kept183 s (State.setPend s n v) :=
  .of (State.setPend_outside rfl rfl)

theorem State.assign_outside {M : Touch} {r : State} {s : State} {src : Nat} (hBuckle : M.buckle = true) (hs : s.outside M = r) :
    (State.assign s src).outside M = r := by
  unfold State.assign
  split
  · exact hs
  · extract_lets +onlyGivenNames -merge -underBinder x0
    have q1 : State.outside M x0 = r := by
      unfold x0
      refine State.setPend_outside hBuckle ?_
      exact hs
    try clear_value x0
    extract_lets +onlyGivenNames -merge -underBinder x2
    unfold x2
    clear x2
    refine Eq.trans (State.outside_buckle_buckle (h0 := hBuckle) ..) ?_
    exact q1

theorem State.assign_keeps {s : State} {src : Nat} : Kept183 s (State.assign s src) :=
  .of (State.assign_outside rfl rfl)

theorem State.awlHostRaise_outside {M : Touch} {r : State} {s : State} {n : Nat} {v : Nat} (hFlags : M.flags = true) (hs : s.outside M = r) :
    (State.awlHostRaise s n v).outside M = r := by
  unfold State.awlHostRaise
  refine ite_outside ?_ ?_
  · refine State.setCause_outside hFlags ?_
    exact hs
  · exact hs

theorem State.awlHostRaise_keeps {s : State} {n : Nat} {v : Nat} : Kept5 s (State.awlHostRaise s n v) :=
  .of (State.awlHostRaise_outside rfl rfl)

theorem State.awlRaise_outside {M : Touch} {r : State} {s : State} {v : Nat} (hEdges : M.edges = true) (hs : s.outside M = r) :
    (State.awlRaise s v).outside M = r := by
  unfold State.awlRaise
  refine ite_outside ?_ ?_
  · refine State.raise_outside hEdges ?_
    exact hs
  · exact hs

theorem State.awlRaise_keeps {s : State} {v : Nat} : Kept7 s (State.awlRaise s v) :=
  .of (State.awlRaise_outside rfl rfl)

theorem State.setMask_outside {M : Touch} {r : State} {s : State} {n : Nat} {v : Nat} (hBuckle : M.buckle = true) (hs : s.outside M = r) :
    (State.setMask s n v).outside M = r := by
  unfold State.setMask
  extract_lets +onlyGivenNames -merge -underBinder x0
  unfold x0
  clear x0
  refine Eq.trans (State.outside_buckle_buckle (h0 := hBuckle) ..) ?_
  exact hs

theorem State.setMask_keeps {s : State} {n : Nat} {v : Nat} : Kept183 s (State.setMask s n v) :=
  .of (State.setMask_outside rfl rfl)

theorem State.maskWrite_outside {M : Touch} {r : State} {s : State} {n : Nat} {w : Nat} {v : Nat} (hBuckle : M.buckle = true) (hs : s.outside M = r) :
    (State.maskWrite s n w v).outside M = r := by
  unfold State.maskWrite
  refine State.setMask_outside hBuckle ?_
  exact hs

theorem State.maskWrite_keeps {s : State} {n : Nat} {w : Nat} {v : Nat} : Kept183 s (State.maskWrite s n w v) :=
  .of (State.maskWrite_outside rfl rfl)

theorem State.pendWrite_outside {M : Touch} {r : State} {s : State} {n : Nat} {w : Nat} {v : Nat} (hBuckle : M.buckle = true) (hs : s.outside M = r) :
    (State.pendWrite s n w v).outside M = r := by
  unfold State.pendWrite
  refine State.setPend_outside hBuckle ?_
  exact hs

theorem State.pendWrite_keeps {s : State} {n : Nat} {w : Nat} {v : Nat} : Kept183 s (State.pendWrite s n w v) :=
  .of (State.pendWrite_outside rfl rfl)

theorem State.hifRaise_outside {M : Touch} {r : State} {s : State} {v : Nat} (hEdges : M.edges = true) (hs : s.outside M = r) :
    (State.hifRaise s v).outside M = r := by
  unfold State.hifRaise
  refine ite_outside ?_ ?_
  · refine State.raise_outside hEdges ?_
    exact hs
  · exact hs

theorem State.hifRaise_keeps {s : State} {v : Nat} : Kept7 s (State.hifRaise s v) :=
  .of (State.hifRaise_outside rfl rfl)

theorem State.levelAssign_outside {M : Touch} {r : State} {s : State} {src : Nat} (hBuckle : M.buckle = true) (hs : s.outside M = r) :
    (State.levelAssign s src).outside M = r := by
  unfold State.levelAssign
  refine ite_outside ?_ ?_
  · refine State.assign_outside hBuckle ?_
    exact hs
  · exact hs

theorem State.levelAssign_keeps {s : State} {src : Nat} : Kept183 s (State.levelAssign s src) :=
  .of (State.levelAssign_outside rfl rfl)

theorem execAwlBuckleRaise_outside {M : Touch} {r : State} {n : Fin 16} {v : BitVec 8} {s : State} (hEdges : M.edges = true) (hs : s.outside M = r) :
    NextOutside M r (execAwlBuckleRaise n v s) := by
  unfold execAwlBuckleRaise
  refine next_outside ?_
  refine ite_outside ?_ ?_
  · refine State.awlRaise_outside hEdges ?_
    exact hs
  · exact hs

theorem execMaskWrite_outside {M : Touch} {r : State} {n : Fin 16} {w : Fin 8} {v : BitVec 32} {s : State} (hBuckle : M.buckle = true) (hs : s.outside M = r) :
    NextOutside M r (execMaskWrite n w v s) := by
  unfold execMaskWrite
  refine next_outside ?_
  refine ite_outside ?_ ?_
  · refine State.maskWrite_outside hBuckle ?_
    exact hs
  · exact hs

theorem execHifBuckleRaise_outside {M : Touch} {r : State} {v : BitVec 8} {s : State} (hPins : M.pins = true) (hDict : M.dict = true) (hNums : M.Nums Nums52) (hResults : M.results = true) (hLogs : M.logs = true) (hPower : M.power = true) (hPorts : M.ports = true) (hRxTiles : M.rxTiles = true) (hStraps : M.straps = true) (hJournal : M.journal = true) (hEdges : M.edges = true) (hFlags : M.flags = true) (hs : s.outside M = r) :
    NextOutside M r (execHifBuckleRaise v s) := by
  unfold execHifBuckleRaise
  refine next_outside ?_
  refine ite_outside ?_ ?_
  · refine State.hifRaise_outside hEdges ?_
    refine State.wake_outside hPins hDict hNums hResults hLogs hPower hPorts hRxTiles hStraps hJournal hEdges hFlags ?_
    exact hs
  · exact hs

theorem execLevelReassign_outside {M : Touch} {r : State} {src : Fin 256} {s : State} (hBuckle : M.buckle = true) (hs : s.outside M = r) :
    NextOutside M r (execLevelReassign src s) := by
  unfold execLevelReassign
  refine next_outside ?_
  refine State.levelAssign_outside hBuckle ?_
  exact hs

theorem execPendingWrite_outside {M : Touch} {r : State} {n : Fin 16} {w : Fin 8} {v : BitVec 32} {s : State} (hBuckle : M.buckle = true) (hs : s.outside M = r) :
    NextOutside M r (execPendingWrite n w v s) := by
  unfold execPendingWrite
  refine next_outside ?_
  refine ite_outside ?_ ?_
  · refine State.pendWrite_outside hBuckle ?_
    exact hs
  · exact hs

theorem execAwlHostRaise_outside {M : Touch} {r : State} {n : Fin 16} {v : Fin 8} {s : State} (hFlags : M.flags = true) (hs : s.outside M = r) :
    NextOutside M r (execAwlHostRaise n v s) := by
  unfold execAwlHostRaise
  refine next_outside ?_
  refine ite_outside ?_ ?_
  · refine State.awlHostRaise_outside hFlags ?_
    exact hs
  · exact hs

theorem execBuckleEdge_outside {M : Touch} {r : State} {src : Fin 256} {s : State} (hNums : M.Nums Nums41) (hBuckle : M.buckle = true) (hEdges : M.edges = true) (hs : s.outside M = r) :
    NextOutside M r (execBuckleEdge src s) := by
  unfold execBuckleEdge
  extract_lets +onlyGivenNames -merge -underBinder x0
  try clear_value x0
  extract_lets +onlyGivenNames -merge -underBinder x1
  unfold x1
  clear x1
  extract_lets +onlyGivenNames -merge -underBinder x2
  have q3 : State.outside M x2 = r := by
    unfold x2
    refine Eq.trans (State.outside_buckle_edges (h0 := hEdges) ..) ?_
    exact hs
  try clear_value x2
  refine next_outside ?_
  refine ite_outside ?_ ?_
  · refine State.assign_outside hBuckle ?_
    refine State.run32_outside (hNums.at Key.fam_srcEvents rfl) ?_
    exact q3
  · exact hs

theorem execBuckleLevelRise_outside {M : Touch} {r : State} {src : Fin 256} {s : State} (hBuckle : M.buckle = true) (hs : s.outside M = r) :
    NextOutside M r (execBuckleLevelRise src s) := by
  unfold execBuckleLevelRise
  refine next_outside ?_
  refine State.levelAssign_outside hBuckle ?_
  exact hs

end Sys2Proof.Machine
end

