-- ==== Sys2Proof/Laws/Frame/Harness.lean ====
section
/-! SUPPORT. What the operations of Machine/Harness.lean leave alone. -/

namespace Sys2Proof.Machine

theorem State.copyLost_outside {M : Touch} {r : State} {s : State} {f : HFrame} (hReports : M.reports = true) (hs : s.outside M = r) :
    (State.copyLost s f).outside M = r := by
  unfold State.copyLost
  refine State.reportFinal_outside hReports ?_
  exact hs

theorem State.copyLost_keeps {s : State} {f : HFrame} : Kept10 s (State.copyLost s f) :=
  .of (State.copyLost_outside rfl rfl)

theorem State.qDrop_outside {M : Touch} {r : State} {s : State} {h : Nat} {f : HFrame} (hNums : M.Nums Nums56) (hReports : M.reports = true) (hs : s.outside M = r) :
    (State.qDrop s h f).outside M = r := by
  unfold State.qDrop
  refine State.copyLost_outside hReports ?_
  refine State.bump_outside (hNums.at Key.fam_qDrops rfl) ?_
  exact hs

theorem State.qDrop_keeps {s : State} {h : Nat} {f : HFrame} : Kept170 s (State.qDrop s h f) :=
  .of (State.qDrop_outside rfl rfl rfl)

theorem State.qDrop_rd {s : State} {h : Nat} {f : HFrame} {kk : Nat} (hkey : Nums56.contains (Key.fam kk) = false) : (State.qDrop s h f).rd kk = s.rd kk :=
  State.rd_of_outside (M := .but Nums56) (State.qDrop_outside .self rfl rfl) rfl hkey

theorem State.admitOne_outside {M : Touch} {r : State} {s : State} {h : Nat} {f : HFrame} (hNums : M.Nums Nums57) (hHar : M.har = true) (hQueues : M.queues = true) (hReports : M.reports = true) (hs : s.outside M = r) :
    (State.admitOne s h f).1.outside M = r := by
  unfold State.admitOne
  extract_lets +onlyGivenNames -merge -underBinder x0
  try clear_value x0
  refine ite_fst_outside ?_ ?_
  · refine ite_fst_outside ?_ ?_
    · refine fst_outside ?_
      refine State.setOutQ_outside hHar hQueues ?_
      exact hs
    · refine fst_outside ?_
      refine State.qDrop_outside (hNums.sub rfl) hReports ?_
      exact hs
  · refine ite_fst_outside ?_ ?_
    · refine fst_outside ?_
      refine State.setOutQ_outside hHar hQueues ?_
      exact hs
    · refine ite_fst_outside ?_ ?_
      · refine fst_outside ?_
        refine State.setOutQ_outside hHar hQueues ?_
        refine State.bump_outside (hNums.at Key.fam_qSpills rfl) ?_
        exact hs
      · refine fst_outside ?_
        refine State.qDrop_outside (hNums.sub rfl) hReports ?_
        exact hs

theorem State.admitOne_keeps {s : State} {h : Nat} {f : HFrame} : Kept171 s (State.admitOne s h f).1 :=
  .of (State.admitOne_outside rfl rfl rfl rfl rfl)

theorem State.admitOne_rd {s : State} {h : Nat} {f : HFrame} {kk : Nat} (hkey : Nums57.contains (Key.fam kk) = false) : (State.admitOne s h f).1.rd kk = s.rd kk :=
  State.rd_of_outside (M := .but Nums57) (State.admitOne_outside .self rfl rfl rfl rfl) rfl hkey

theorem State.admitAll_outside {M : Touch} {r : State} {s : State} {l : List (Nat × HFrame)} (hNums : M.Nums Nums57) (hHar : M.har = true) (hQueues : M.queues = true) (hReports : M.reports = true) (hs : s.outside M = r) :
    (State.admitAll s l).1.outside M = r := by
  unfold State.admitAll
  refine foldl_fst_outside ?_ ?_
  · intro t0 q1 z2
    extract_lets +onlyGivenNames -merge -underBinder x3
    have q4 : State.outside M x3.1 = r := by
      unfold x3
      refine State.admitOne_outside hNums hHar hQueues hReports ?_
      exact q1
    try clear_value x3
    refine fst_outside ?_
    exact q4
  · refine fst_outside ?_
    exact hs

theorem State.admitAll_keeps {s : State} {l : List (Nat × HFrame)} : Kept171 s (State.admitAll s l).1 :=
  .of (State.admitAll_outside rfl rfl rfl rfl rfl)

theorem State.admitAll_rd {s : State} {l : List (Nat × HFrame)} {kk : Nat} (hkey : Nums57.contains (Key.fam kk) = false) : (State.admitAll s l).1.rd kk = s.rd kk :=
  State.rd_of_outside (M := .but Nums57) (State.admitAll_outside .self rfl rfl rfl rfl) rfl hkey

theorem State.chainOut_outside {M : Touch} {r : State} {s : State} {p : Side} {f : HFrame} (hChainPorts : M.chainPorts = true) (hNums : M.Nums Nums96) (hReports : M.reports = true) (hs : s.outside M = r) :
    (State.chainOut s p f).outside M = r := by
  unfold State.chainOut
  extract_lets +onlyGivenNames -merge -underBinder x0
  try clear_value x0
  extract_lets +onlyGivenNames -merge -underBinder x1
  have q2 : State.outside M x1 = r := by
    unfold x1
    refine State.bump_outside (hNums.at Key.fam_hpTx rfl) ?_
    exact hs
  try clear_value x1
  extract_lets +onlyGivenNames -merge -underBinder x3
  try clear_value x3
  extract_lets +onlyGivenNames -merge -underBinder x4
  have q5 : State.outside M x4 = r := by
    unfold x4
    refine ite_outside ?_ ?_
    · refine State.broadcast_outside hChainPorts (hNums.sub rfl) ?_
      exact q2
    · refine State.queueAt_outside hChainPorts (hNums.sub rfl) ?_
      exact q2
  try clear_value x4
  refine ite_outside ?_ ?_
  · refine State.qDrop_outside (hNums.sub rfl) hReports ?_
    exact hs
  · refine State.reportFinal_outside hReports ?_
    exact q5

theorem State.chainOut_keeps {s : State} {p : Side} {f : HFrame} : Kept172 s (State.chainOut s p f) :=
  .of (State.chainOut_outside rfl rfl rfl rfl)

theorem State.chainOut_rd {s : State} {p : Side} {f : HFrame} {kk : Nat} (hkey : Nums96.contains (Key.fam kk) = false) : (State.chainOut s p f).rd kk = s.rd kk :=
  State.rd_of_outside (M := .but Nums96) (State.chainOut_outside rfl .self rfl rfl) rfl hkey

theorem State.eligible_outside {M : Touch} {r : State} {s : State} {h : Nat} {c : Nat} (hCurb : M.curb = true) (hs : s.outside M = r) :
    (State.eligible s h c).1.outside M = r := by
  unfold State.eligible
  split
  · refine fst_outside ?_
    exact hs
  · extract_lets +onlyGivenNames -merge -underBinder x0
    try clear_value x0
    extract_lets +onlyGivenNames -merge -underBinder x1
    have q2 : State.outside M x1 = r := by
      unfold x1
      refine State.shaperNow_outside hCurb ?_
      exact hs
    try clear_value x1
    extract_lets +onlyGivenNames -merge -underBinder x3
    try clear_value x3
    refine ite_fst_outside ?_ ?_
    · refine fst_outside ?_
      exact hs
    · refine ite_fst_outside ?_ ?_
      · refine fst_outside ?_
        exact hs
      · refine ite_fst_outside ?_ ?_
        · refine fst_outside ?_
          refine State.calendarEnter_outside hCurb ?_
          exact q2
        · refine fst_outside ?_
          exact q2

theorem State.eligible_keeps {s : State} {h : Nat} {c : Nat} : Kept23 s (State.eligible s h c).1 :=
  .of (State.eligible_outside rfl rfl)

theorem State.frameLost_outside {M : Touch} {r : State} {s : State} {h : Nat} {f : HFrame} (hNums : M.Nums Nums111) (hReports : M.reports = true) (hs : s.outside M = r) :
    (State.frameLost s h f).outside M = r := by
  unfold State.frameLost
  refine State.copyLost_outside hReports ?_
  refine State.bump_outside (hNums.at Key.fam_hpDrop rfl) ?_
  exact hs

theorem State.frameLost_keeps {s : State} {h : Nat} {f : HFrame} : Kept170 s (State.frameLost s h f) :=
  .of (State.frameLost_outside rfl rfl rfl)

theorem State.frameLost_rd {s : State} {h : Nat} {f : HFrame} {kk : Nat} (hkey : Nums111.contains (Key.fam kk) = false) : (State.frameLost s h f).rd kk = s.rd kk :=
  State.rd_of_outside (M := .but Nums111) (State.frameLost_outside .self rfl rfl) rfl hkey

theorem State.etherOut_outside {M : Touch} {r : State} {s : State} {h : Nat} {f : HFrame} (hDraws : M.draws = true) (hOut : M.out = true) (hNums : M.Nums Nums112) (hReports : M.reports = true) (hs : s.outside M = r) :
    (State.etherOut s h f).outside M = r := by
  unfold State.etherOut
  split
  · refine State.frameLost_outside (hNums.sub rfl) hReports ?_
    exact hs
  · extract_lets +onlyGivenNames -merge -underBinder x0
    have q1 : State.outside M x0 = r := by
      unfold x0
      refine State.drawn_outside hDraws ?_
      exact hs
    try clear_value x0
    extract_lets +onlyGivenNames -merge -underBinder x2
    try clear_value x2
    extract_lets +onlyGivenNames -merge -underBinder x3
    try clear_value x3
    extract_lets +onlyGivenNames -merge -underBinder x4
    try clear_value x4
    refine State.reportFinal_outside hReports ?_
    refine State.emit_outside hOut ?_
    refine State.bump_outside (hNums.at Key.fam_hpTx rfl) ?_
    exact q1

theorem State.etherOut_keeps {s : State} {h : Nat} {f : HFrame} : Kept173 s (State.etherOut s h f) :=
  .of (State.etherOut_outside rfl rfl rfl rfl rfl)

theorem State.etherOut_rd {s : State} {h : Nat} {f : HFrame} {kk : Nat} (hkey : Nums112.contains (Key.fam kk) = false) : (State.etherOut s h f).rd kk = s.rd kk :=
  State.rd_of_outside (M := .but Nums112) (State.etherOut_outside rfl rfl .self rfl rfl) rfl hkey

theorem State.toCores_outside {M : Touch} {r : State} {s : State} {f : HFrame} {reason : Nat} {cls : Nat} (hNums : M.Nums Nums115) (hHar : M.har = true) (hQueues : M.queues = true) (hReports : M.reports = true) (hs : s.outside M = r) :
    (State.toCores s f reason cls).1.outside M = r := by
  unfold State.toCores
  extract_lets +onlyGivenNames -merge -underBinder x0
  have q1 : State.outside M x0.1 = r := by
    unfold x0
    refine State.admitOne_outside (hNums.sub rfl) hHar hQueues hReports ?_
    exact hs
  try clear_value x0
  refine ite_fst_outside ?_ ?_
  · exact q1
  · refine fst_outside ?_
    refine State.bump_outside (hNums.at Key.fam_hpDrop rfl) ?_
    exact q1

theorem State.toCores_keeps {s : State} {f : HFrame} {reason : Nat} {cls : Nat} : Kept171 s (State.toCores s f reason cls).1 :=
  .of (State.toCores_outside rfl rfl rfl rfl rfl)

theorem State.toCores_rd {s : State} {f : HFrame} {reason : Nat} {cls : Nat} {kk : Nat} (hkey : Nums115.contains (Key.fam kk) = false) : (State.toCores s f reason cls).1.rd kk = s.rd kk :=
  State.rd_of_outside (M := .but Nums115) (State.toCores_outside .self rfl rfl rfl rfl) rfl hkey

theorem State.hold_outside {M : Touch} {r : State} {s : State} {f : HFrame} (hNums : M.Nums Nums1) (hStraps : M.straps = true) (hFlags : M.flags = true) (hs : s.outside M = r) :
    (State.hold s f).outside M = r := by
  unfold State.hold
  extract_lets +onlyGivenNames -merge -underBinder x0
  try clear_value x0
  refine State.strapPush_outside hNums hStraps hFlags ?_
  exact hs

theorem State.hold_keeps {s : State} {f : HFrame} : Kept6 s (State.hold s f) :=
  .of (State.hold_outside rfl rfl rfl rfl)

theorem State.hold_rd {s : State} {f : HFrame} {kk : Nat} (hkey : Nums1.contains (Key.fam kk) = false) : (State.hold s f).rd kk = s.rd kk :=
  State.rd_of_outside (M := .but Nums1) (State.hold_outside .self rfl rfl rfl) rfl hkey

theorem State.setAside_outside {M : Touch} {r : State} {s : State} {f : HFrame} {a : Aside} (hOut : M.out = true) (hNums : M.Nums Nums117) (hStraps : M.straps = true) (hFlags : M.flags = true) (hReports : M.reports = true) (hs : s.outside M = r) :
    (State.setAside s f a).1.outside M = r := by
  unfold State.setAside
  split
  · refine fst_outside ?_
    refine State.frameLost_outside (hNums.sub rfl) hReports ?_
    exact hs
  · refine fst_outside ?_
    refine State.hold_outside (hNums.sub rfl) hStraps hFlags ?_
    exact hs
  · refine fst_outside ?_
    refine State.emit_outside hOut ?_
    exact hs
  · refine fst_outside ?_
    refine State.frameLost_outside (hNums.sub rfl) hReports ?_
    refine State.bump_outside (hNums.at Key.fam_noRoute rfl) ?_
    exact hs
  · refine fst_outside ?_
    refine State.frameLost_outside (hNums.sub rfl) hReports ?_
    refine State.bump_outside (hNums.at Key.fam_qDrops rfl) ?_
    exact hs

theorem State.setAside_keeps {s : State} {f : HFrame} {a : Aside} : Kept174 s (State.setAside s f a).1 :=
  .of (State.setAside_outside rfl rfl rfl rfl rfl rfl)

theorem State.setAside_rd {s : State} {f : HFrame} {a : Aside} {kk : Nat} (hkey : Nums117.contains (Key.fam kk) = false) : (State.setAside s f a).1.rd kk = s.rd kk :=
  State.rd_of_outside (M := .but Nums117) (State.setAside_outside rfl .self rfl rfl rfl rfl) rfl hkey

theorem State.policeAdmit_outside {M : Touch} {r : State} {s : State} {f : HFrame} {ip : IpHead} {a0 : Routed} (hOut : M.out = true) (hNums : M.Nums Nums118) (hStraps : M.straps = true) (hHar : M.har = true) (hQueues : M.queues = true) (hCurb : M.curb = true) (hFlags : M.flags = true) (hReports : M.reports = true) (hs : s.outside M = r) :
    (State.policeAdmit s f ip a0).1.outside M = r := by
  unfold State.policeAdmit
  extract_lets +onlyGivenNames -merge -underBinder x1
  have q2 : State.outside M x1.1 = r := by
    unfold x1
    refine State.police_outside (hNums.sub rfl) hCurb ?_
    exact hs
  try clear_value x1
  extract_lets +onlyGivenNames -merge -underBinder x3
  try clear_value x3
  extract_lets +onlyGivenNames -merge -underBinder x4
  have q5 : State.outside M x4.1 = r := by
    unfold x4
    refine State.admitAll_outside (hNums.sub rfl) hHar hQueues hReports ?_
    exact q2
  try clear_value x4
  refine ite_fst_outside ?_ ?_
  · refine fst_outside ?_
    refine State.frameLost_outside (hNums.sub rfl) hReports ?_
    exact hs
  · refine ite_fst_outside ?_ ?_
    · refine fst_outside ?_
      refine State.frameLost_outside (hNums.sub rfl) hReports ?_
      exact q2
    · refine ite_fst_outside ?_ ?_
      · refine State.setAside_outside hOut (hNums.sub rfl) hStraps hFlags hReports ?_
        exact q2
      · refine ite_fst_outside ?_ ?_
        · exact q5
        · refine fst_outside ?_
          refine ite_outside ?_ ?_
          · refine State.frameLost_outside (hNums.sub rfl) hReports ?_
            exact q5
          · refine State.bump_outside (hNums.at Key.fam_hpDrop rfl) ?_
            exact q5

theorem State.policeAdmit_keeps {s : State} {f : HFrame} {ip : IpHead} {a0 : Routed} : Kept175 s (State.policeAdmit s f ip a0).1 :=
  .of (State.policeAdmit_outside rfl rfl rfl rfl rfl rfl rfl rfl rfl)

theorem State.policeAdmit_rd {s : State} {f : HFrame} {ip : IpHead} {a0 : Routed} {kk : Nat} (hkey : Nums118.contains (Key.fam kk) = false) : (State.policeAdmit s f ip a0).1.rd kk = s.rd kk :=
  State.rd_of_outside (M := .but Nums118) (State.policeAdmit_outside rfl .self rfl rfl rfl rfl rfl rfl rfl) rfl hkey

theorem State.meshRoute_outside {M : Touch} {r : State} {s : State} {f : HFrame} {u : Nat} {bad : Nat} (hDict : M.dict = true) (hNums : M.Nums Nums119) (hLogs : M.logs = true) (hStraps : M.straps = true) (hJournal : M.journal = true) (hTables : M.tables = true) (hHalter : M.halter = true) (hEdges : M.edges = true) (hFlags : M.flags = true) (hs : s.outside M = r) :
    (State.meshRoute s f u bad).1.outside M = r := by
  unfold State.meshRoute
  split
  · refine fst_outside ?_
    exact hs
  · extract_lets +onlyGivenNames -merge -underBinder x0
    have q1 : State.outside M x0.1 = r := by
      unfold x0
      refine State.halterLook_outside hDict (hNums.sub rfl) hLogs hStraps hJournal hTables hHalter hEdges hFlags ?_
      exact hs
    try clear_value x0
    extract_lets +onlyGivenNames -merge -underBinder x2
    have q3 : State.outside M x2 = r := by
      unfold x2
      exact q1
    try clear_value x2
    split
    · refine fst_outside ?_
      refine State.bump_outside (hNums.at Key.fam_dlUnknown rfl) ?_
      exact q3
    · extract_lets +onlyGivenNames -merge -underBinder x4
      try clear_value x4
      refine ite_fst_outside ?_ ?_
      · refine fst_outside ?_
        exact q3
      · refine ite_fst_outside ?_ ?_
        · refine fst_outside ?_
          refine State.learnNotice_outside (hNums.sub rfl) hStraps hTables hFlags ?_
          refine State.bump_outside (hNums.at Key.fam_dlUnknown rfl) ?_
          exact q3
        · refine fst_outside ?_
          exact q3

theorem State.meshRoute_keeps {s : State} {f : HFrame} {u : Nat} {bad : Nat} : Kept57 s (State.meshRoute s f u bad).1 :=
  .of (State.meshRoute_outside rfl rfl rfl rfl rfl rfl rfl rfl rfl rfl)

theorem State.meshRoute_rd {s : State} {f : HFrame} {u : Nat} {bad : Nat} {kk : Nat} (hkey : Nums119.contains (Key.fam kk) = false) : (State.meshRoute s f u bad).1.rd kk = s.rd kk :=
  State.rd_of_outside (M := .but Nums119) (State.meshRoute_outside rfl .self rfl rfl rfl rfl rfl rfl rfl rfl) rfl hkey

theorem State.routeFrame_outside {M : Touch} {r : State} {s : State} {f : HFrame} {ip : IpHead} {hit : TableHit} (hDict : M.dict = true) (hNums : M.Nums Nums120) (hLogs : M.logs = true) (hStraps : M.straps = true) (hJournal : M.journal = true) (hTables : M.tables = true) (hHalter : M.halter = true) (hEdges : M.edges = true) (hFlags : M.flags = true) (hs : s.outside M = r) :
    (State.routeFrame s f ip hit).1.outside M = r := by
  unfold State.routeFrame
  split
  · refine fst_outside ?_
    refine State.bridleParity_outside hDict (hNums.sub rfl) hLogs hStraps hJournal hTables hEdges hFlags ?_
    exact hs
  · split
    · refine fst_outside ?_
      exact hs
    · extract_lets +onlyGivenNames -merge -underBinder x0
      try clear_value x0
      split
      · refine fst_outside ?_
        exact hs
      · split
        · refine fst_outside ?_
          exact hs
        · refine fst_outside ?_
          exact hs
      · extract_lets +onlyGivenNames -merge -underBinder x1
        try clear_value x1
        extract_lets +onlyGivenNames -merge -underBinder x2
        have q3 : State.outside M x2 = r := by
          unfold x2
          refine ite_outside ?_ ?_
          · refine State.post_outside hDict (hNums.sub rfl) hLogs hStraps hJournal hEdges hFlags ?_
            exact hs
          · exact hs
        try clear_value x2
        refine fst_outside ?_
        exact q3
      · refine ite_fst_outside ?_ ?_
        · refine fst_outside ?_
          exact hs
        · refine State.meshRoute_outside hDict (hNums.sub rfl) hLogs hStraps hJournal hTables hHalter hEdges hFlags ?_
          exact hs
      · refine fst_outside ?_
        exact hs
      · refine fst_outside ?_
        exact hs

theorem State.routeFrame_keeps {s : State} {f : HFrame} {ip : IpHead} {hit : TableHit} : Kept57 s (State.routeFrame s f ip hit).1 :=
  .of (State.routeFrame_outside rfl rfl rfl rfl rfl rfl rfl rfl rfl rfl)

theorem State.routeFrame_rd {s : State} {f : HFrame} {ip : IpHead} {hit : TableHit} {kk : Nat} (hkey : Nums120.contains (Key.fam kk) = false) : (State.routeFrame s f ip hit).1.rd kk = s.rd kk :=
  State.rd_of_outside (M := .but Nums120) (State.routeFrame_outside rfl .self rfl rfl rfl rfl rfl rfl rfl rfl) rfl hkey

theorem State.parsed_outside {M : Touch} {r : State} {s : State} {f : HFrame} {p : Parsed} {byDscp : Bool} {hit : TableHit} (hOut : M.out = true) (hDict : M.dict = true) (hNums : M.Nums Nums121) (hLogs : M.logs = true) (hStraps : M.straps = true) (hJournal : M.journal = true) (hTables : M.tables = true) (hHalter : M.halter = true) (hHar : M.har = true) (hQueues : M.queues = true) (hCurb : M.curb = true) (hEdges : M.edges = true) (hFlags : M.flags = true) (hReports : M.reports = true) (hs : s.outside M = r) :
    (State.parsed s f p byDscp hit).1.outside M = r := by
  unfold State.parsed
  extract_lets +onlyGivenNames -merge -underBinder x0
  try clear_value x0
  split
  · extract_lets +onlyGivenNames -merge -underBinder x1
    have q2 : State.outside M x1 = r := by
      unfold x1
      refine State.bump_outside (hNums.at Key.fam_lenConflict rfl) ?_
      exact hs
    try clear_value x1
    refine ite_fst_outside ?_ ?_
    · refine fst_outside ?_
      refine State.frameLost_outside (hNums.sub rfl) hReports ?_
      refine State.admitOne_outside (hNums.sub rfl) hHar hQueues hReports ?_
      exact q2
    · refine fst_outside ?_
      refine State.frameLost_outside (hNums.sub rfl) hReports ?_
      exact q2
  · refine State.toCores_outside (hNums.sub rfl) hHar hQueues hReports ?_
    refine ite_outside ?_ ?_
    · refine State.bump_outside (hNums.at Key.fam_parseDeep rfl) ?_
      exact hs
    · exact hs
  · refine State.toCores_outside (hNums.sub rfl) hHar hQueues hReports ?_
    exact hs
  · refine State.toCores_outside (hNums.sub rfl) hHar hQueues hReports ?_
    exact hs
  · split
    · refine fst_outside ?_
      refine State.frameLost_outside (hNums.sub rfl) hReports ?_
      exact hs
    · extract_lets +onlyGivenNames -merge -underBinder x3
      try clear_value x3
      extract_lets +onlyGivenNames -merge -underBinder x4
      have q5 : State.outside M x4.1 = r := by
        unfold x4
        refine State.routeFrame_outside hDict (hNums.sub rfl) hLogs hStraps hJournal hTables hHalter hEdges hFlags ?_
        exact hs
      try clear_value x4
      refine State.policeAdmit_outside hOut (hNums.sub rfl) hStraps hHar hQueues hCurb hFlags hReports ?_
      exact q5

theorem State.parsed_keeps {s : State} {f : HFrame} {p : Parsed} {byDscp : Bool} {hit : TableHit} : Kept176 s (State.parsed s f p byDscp hit).1 :=
  .of (State.parsed_outside rfl rfl rfl rfl rfl rfl rfl rfl rfl rfl rfl rfl rfl rfl rfl)

theorem State.parsed_rd {s : State} {f : HFrame} {p : Parsed} {byDscp : Bool} {hit : TableHit} {kk : Nat} (hkey : Nums121.contains (Key.fam kk) = false) : (State.parsed s f p byDscp hit).1.rd kk = s.rd kk :=
  State.rd_of_outside (M := .but Nums121) (State.parsed_outside rfl rfl .self rfl rfl rfl rfl rfl rfl rfl rfl rfl rfl rfl rfl) rfl hkey

theorem State.frameIn_outside {M : Touch} {r : State} {s : State} {h : Nat} {m : InMeta} {bytes : Bytes} {hit : TableHit} (hDraws : M.draws = true) (hOut : M.out = true) (hDict : M.dict = true) (hNums : M.Nums Nums122) (hLogs : M.logs = true) (hStraps : M.straps = true) (hJournal : M.journal = true) (hTables : M.tables = true) (hHalter : M.halter = true) (hHar : M.har = true) (hQueues : M.queues = true) (hCurb : M.curb = true) (hEdges : M.edges = true) (hFlags : M.flags = true) (hReports : M.reports = true) (hs : s.outside M = r) :
    (State.frameIn s h m bytes hit).1.outside M = r := by
  unfold State.frameIn
  extract_lets +onlyGivenNames -merge -underBinder x0
  try clear_value x0
  extract_lets +onlyGivenNames -merge -underBinder x1
  try clear_value x1
  extract_lets +onlyGivenNames -merge -underBinder x2
  have q3 : State.outside M x2 = r := by
    unfold x2
    refine State.bump_outside (hNums.at Key.fam_hpRx rfl) ?_
    refine State.drawn_outside hDraws ?_
    exact hs
  try clear_value x2
  extract_lets +onlyGivenNames -merge -underBinder x4
  try clear_value x4
  split
  · refine ite_fst_outside ?_ ?_
    · refine fst_outside ?_
      refine State.frameLost_outside (hNums.sub rfl) hReports ?_
      exact q3
    · refine State.parsed_outside hOut hDict (hNums.sub rfl) hLogs hStraps hJournal hTables hHalter hHar hQueues hCurb hEdges hFlags hReports ?_
      exact q3
  · extract_lets +onlyGivenNames -merge -underBinder x5
    try clear_value x5
    refine ite_fst_outside ?_ ?_
    · refine fst_outside ?_
      refine State.frameLost_outside (hNums.sub rfl) hReports ?_
      exact q3
    · refine State.parsed_outside hOut hDict (hNums.sub rfl) hLogs hStraps hJournal hTables hHalter hHar hQueues hCurb hEdges hFlags hReports ?_
      exact q3
  · refine ite_fst_outside ?_ ?_
    · refine fst_outside ?_
      refine State.frameLost_outside (hNums.sub rfl) hReports ?_
      exact q3
    · refine State.parsed_outside hOut hDict (hNums.sub rfl) hLogs hStraps hJournal hTables hHalter hHar hQueues hCurb hEdges hFlags hReports ?_
      exact q3
  · extract_lets +onlyGivenNames -merge -underBinder x6
    have q7 : State.outside M x6.1 = r := by
      unfold x6
      refine State.admitOne_outside (hNums.sub rfl) hHar hQueues hReports ?_
      exact q3
    try clear_value x6
    refine ite_fst_outside ?_ ?_
    · refine fst_outside ?_
      refine State.frameLost_outside (hNums.sub rfl) hReports ?_
      exact q3
    · refine ite_fst_outside ?_ ?_
      · refine State.toCores_outside (hNums.sub rfl) hHar hQueues hReports ?_
        exact q3
      · refine ite_fst_outside ?_ ?_
        · exact q7
        · refine fst_outside ?_
          refine State.bump_outside (hNums.at Key.fam_hpDrop rfl) ?_
          exact q7
  · extract_lets +onlyGivenNames -merge -underBinder x8
    try clear_value x8
    refine ite_fst_outside ?_ ?_
    · refine fst_outside ?_
      refine State.frameLost_outside (hNums.sub rfl) hReports ?_
      exact q3
    · refine State.parsed_outside hOut hDict (hNums.sub rfl) hLogs hStraps hJournal hTables hHalter hHar hQueues hCurb hEdges hFlags hReports ?_
      exact q3
  · extract_lets +onlyGivenNames -merge -underBinder x9
    try clear_value x9
    extract_lets +onlyGivenNames -merge -underBinder x10
    try clear_value x10
    extract_lets +onlyGivenNames -merge -underBinder x11
    have q12 : State.outside M x11.1 = r := by
      unfold x11
      refine State.admitOne_outside (hNums.sub rfl) hHar hQueues hReports ?_
      exact q3
    try clear_value x11
    refine ite_fst_outside ?_ ?_
    · refine fst_outside ?_
      refine State.frameLost_outside (hNums.sub rfl) hReports ?_
      exact q3
    · refine ite_fst_outside ?_ ?_
      · exact q12
      · refine fst_outside ?_
        refine State.bump_outside (hNums.at Key.fam_hpDrop rfl) ?_
        exact q12
  · extract_lets +onlyGivenNames -merge -underBinder x13
    have q14 : State.outside M x13.1 = r := by
      unfold x13
      refine State.admitOne_outside (hNums.sub rfl) hHar hQueues hReports ?_
      exact q3
    try clear_value x13
    refine ite_fst_outside ?_ ?_
    · exact q14
    · refine fst_outside ?_
      refine State.bump_outside (hNums.at Key.fam_hpDrop rfl) ?_
      exact q14
  · extract_lets +onlyGivenNames -merge -underBinder x15
    try clear_value x15
    extract_lets +onlyGivenNames -merge -underBinder x16
    have q17 : State.outside M x16.1 = r := by
      unfold x16
      refine State.admitOne_outside (hNums.sub rfl) hHar hQueues hReports ?_
      exact q3
    try clear_value x16
    refine ite_fst_outside ?_ ?_
    · exact q17
    · refine fst_outside ?_
      refine State.bump_outside (hNums.at Key.fam_hpDrop rfl) ?_
      exact q17

theorem State.frameIn_keeps {s : State} {h : Nat} {m : InMeta} {bytes : Bytes} {hit : TableHit} : Kept177 s (State.frameIn s h m bytes hit).1 :=
  .of (State.frameIn_outside rfl rfl rfl rfl rfl rfl rfl rfl rfl rfl rfl rfl rfl rfl rfl rfl)

theorem State.frameIn_rd {s : State} {h : Nat} {m : InMeta} {bytes : Bytes} {hit : TableHit} {kk : Nat} (hkey : Nums122.contains (Key.fam kk) = false) : (State.frameIn s h m bytes hit).1.rd kk = s.rd kk :=
  State.rd_of_outside (M := .but Nums122) (State.frameIn_outside rfl rfl rfl .self rfl rfl rfl rfl rfl rfl rfl rfl rfl rfl rfl rfl) rfl hkey

theorem State.plainOut_outside {M : Touch} {r : State} {s : State} {h : Nat} {f : HFrame} (hOut : M.out = true) (hNums : M.Nums Nums128) (hReports : M.reports = true) (hs : s.outside M = r) :
    (State.plainOut s h f).outside M = r := by
  unfold State.plainOut
  refine State.reportFinal_outside hReports ?_
  refine State.emit_outside hOut ?_
  refine State.bump_outside (hNums.at Key.fam_hpTx rfl) ?_
  exact hs

theorem State.plainOut_keeps {s : State} {h : Nat} {f : HFrame} : Kept178 s (State.plainOut s h f) :=
  .of (State.plainOut_outside rfl rfl rfl rfl)

theorem State.plainOut_rd {s : State} {h : Nat} {f : HFrame} {kk : Nat} (hkey : Nums128.contains (Key.fam kk) = false) : (State.plainOut s h f).rd kk = s.rd kk :=
  State.rd_of_outside (M := .but Nums128) (State.plainOut_outside rfl .self rfl rfl) rfl hkey

theorem State.stitchDrop_outside {M : Touch} {r : State} {s : State} {f : HFrame} (hNums : M.Nums Nums111) (hReports : M.reports = true) (hs : s.outside M = r) :
    (State.stitchDrop s f).outside M = r := by
  unfold State.stitchDrop
  refine State.frameLost_outside hNums hReports ?_
  exact hs

theorem State.stitchDrop_keeps {s : State} {f : HFrame} : Kept170 s (State.stitchDrop s f) :=
  .of (State.stitchDrop_outside rfl rfl rfl)

theorem State.stitchDrop_rd {s : State} {f : HFrame} {kk : Nat} (hkey : Nums111.contains (Key.fam kk) = false) : (State.stitchDrop s f).rd kk = s.rd kk :=
  State.rd_of_outside (M := .but Nums111) (State.stitchDrop_outside .self rfl rfl) rfl hkey

theorem State.toNode_outside {M : Touch} {r : State} {s : State} {h : Nat} {a0 : Nat} {f : HFrame} {bytes : Bytes} (hDict : M.dict = true) (hNums : M.Nums Nums132) (hLogs : M.logs = true) (hStraps : M.straps = true) (hJournal : M.journal = true) (hNodeQueues : M.nodeQueues = true) (hHar : M.har = true) (hQueues : M.queues = true) (hEdges : M.edges = true) (hFlags : M.flags = true) (hReports : M.reports = true) (hs : s.outside M = r) :
    (State.toNode s h a0 f bytes).outside M = r := by
  unfold State.toNode
  extract_lets +onlyGivenNames -merge -underBinder x1
  have q2 : State.outside M x1 = r := by
    unfold x1
    refine State.copyLost_outside hReports ?_
    exact hs
  try clear_value x1
  refine ite_outside ?_ ?_
  · refine State.toCores_outside (hNums.sub rfl) hHar hQueues hReports ?_
    exact q2
  · refine State.downlink_outside hDict (hNums.sub rfl) hLogs hStraps hJournal hNodeQueues hEdges hFlags hReports ?_
    refine State.bump_outside (hNums.at Key.fam_hpTx rfl) ?_
    exact hs

theorem State.toNode_keeps {s : State} {h : Nat} {a0 : Nat} {f : HFrame} {bytes : Bytes} : Kept179 s (State.toNode s h a0 f bytes) :=
  .of (State.toNode_outside rfl rfl rfl rfl rfl rfl rfl rfl rfl rfl rfl rfl)

theorem State.toNode_rd {s : State} {h : Nat} {a0 : Nat} {f : HFrame} {bytes : Bytes} {kk : Nat} (hkey : Nums132.contains (Key.fam kk) = false) : (State.toNode s h a0 f bytes).rd kk = s.rd kk :=
  State.rd_of_outside (M := .but Nums132) (State.toNode_outside rfl .self rfl rfl rfl rfl rfl rfl rfl rfl rfl rfl) rfl hkey

theorem State.stitch_outside {M : Touch} {r : State} {s : State} {h : Nat} {a0 : Nat} {f : HFrame} {pkt : Bytes} (hDict : M.dict = true) (hNums : M.Nums Nums133) (hLogs : M.logs = true) (hStraps : M.straps = true) (hJournal : M.journal = true) (hNodeQueues : M.nodeQueues = true) (hHar : M.har = true) (hQueues : M.queues = true) (hEdges : M.edges = true) (hFlags : M.flags = true) (hReports : M.reports = true) (hs : s.outside M = r) :
    (State.stitch s h a0 f pkt).outside M = r := by
  unfold State.stitch
  split
  · refine State.stitchDrop_outside (hNums.sub rfl) hReports ?_
    refine State.bump_outside (hNums.at Key.fam_stitchTooDeep rfl) ?_
    exact hs
  · refine State.stitchDrop_outside (hNums.sub rfl) hReports ?_
    refine State.post_outside hDict (hNums.sub rfl) hLogs hStraps hJournal hEdges hFlags ?_
    exact hs
  · extract_lets +onlyGivenNames -merge -underBinder x1
    try clear_value x1
    extract_lets +onlyGivenNames -merge -underBinder x2
    try clear_value x2
    refine ite_outside ?_ ?_
    · refine State.stitchDrop_outside (hNums.sub rfl) hReports ?_
      refine State.post_outside hDict (hNums.sub rfl) hLogs hStraps hJournal hEdges hFlags ?_
      exact hs
    · refine State.toNode_outside hDict (hNums.sub rfl) hLogs hStraps hJournal hNodeQueues hHar hQueues hEdges hFlags hReports ?_
      exact hs

theorem State.stitch_keeps {s : State} {h : Nat} {a0 : Nat} {f : HFrame} {pkt : Bytes} : Kept179 s (State.stitch s h a0 f pkt) :=
  .of (State.stitch_outside rfl rfl rfl rfl rfl rfl rfl rfl rfl rfl rfl rfl)

theorem State.stitch_rd {s : State} {h : Nat} {a0 : Nat} {f : HFrame} {pkt : Bytes} {kk : Nat} (hkey : Nums133.contains (Key.fam kk) = false) : (State.stitch s h a0 f pkt).rd kk = s.rd kk :=
  State.rd_of_outside (M := .but Nums133) (State.stitch_outside rfl .self rfl rfl rfl rfl rfl rfl rfl rfl rfl rfl) rfl hkey

theorem State.radioOut_outside {M : Touch} {r : State} {s : State} {h : Nat} {f : HFrame} (hDict : M.dict = true) (hNums : M.Nums Nums133) (hLogs : M.logs = true) (hGirth : M.girth = true) (hStraps : M.straps = true) (hJournal : M.journal = true) (hNodeQueues : M.nodeQueues = true) (hHar : M.har = true) (hQueues : M.queues = true) (hEdges : M.edges = true) (hFlags : M.flags = true) (hReports : M.reports = true) (hs : s.outside M = r) :
    (State.radioOut s h f).outside M = r := by
  unfold State.radioOut
  split
  · refine State.frameLost_outside (hNums.sub rfl) hReports ?_
    exact hs
  · extract_lets +onlyGivenNames -merge -underBinder x0
    try clear_value x0
    extract_lets +onlyGivenNames -merge -underBinder x1
    have q2 : State.outside M x1 = r := by
      unfold x1
      refine State.copyLost_outside hReports ?_
      exact hs
    try clear_value x1
    extract_lets +onlyGivenNames -merge -underBinder x3
    try clear_value x3
    extract_lets +onlyGivenNames -merge -underBinder x4
    have q5 : State.outside M x4 = r := by
      unfold x4
      refine State.bump_outside (hNums.at Key.fam_hpTx rfl) ?_
      exact hs
    try clear_value x4
    extract_lets +onlyGivenNames -merge -underBinder x6
    unfold x6
    clear x6
    refine ite_outside ?_ ?_
    · refine State.toCores_outside (hNums.sub rfl) hHar hQueues hReports ?_
      exact q2
    · refine Eq.trans (State.outside_girth_girth (h0 := hGirth) ..) ?_
      exact q5
  · extract_lets +onlyGivenNames -merge -underBinder x7
    try clear_value x7
    split
    · refine ite_outside ?_ ?_
      · refine State.stitch_outside hDict hNums hLogs hStraps hJournal hNodeQueues hHar hQueues hEdges hFlags hReports ?_
        exact hs
      · refine State.toNode_outside hDict (hNums.sub rfl) hLogs hStraps hJournal hNodeQueues hHar hQueues hEdges hFlags hReports ?_
        exact hs
    · refine State.toNode_outside hDict (hNums.sub rfl) hLogs hStraps hJournal hNodeQueues hHar hQueues hEdges hFlags hReports ?_
      exact hs

theorem State.radioOut_keeps {s : State} {h : Nat} {f : HFrame} : Kept180 s (State.radioOut s h f) :=
  .of (State.radioOut_outside rfl rfl rfl rfl rfl rfl rfl rfl rfl rfl rfl rfl rfl)

theorem State.radioOut_rd {s : State} {h : Nat} {f : HFrame} {kk : Nat} (hkey : Nums133.contains (Key.fam kk) = false) : (State.radioOut s h f).rd kk = s.rd kk :=
  State.rd_of_outside (M := .but Nums133) (State.radioOut_outside rfl .self rfl rfl rfl rfl rfl rfl rfl rfl rfl rfl rfl) rfl hkey

theorem State.outStage_outside {M : Touch} {r : State} {s : State} {h : Nat} {f : HFrame} (hDraws : M.draws = true) (hOut : M.out = true) (hChainPorts : M.chainPorts = true) (hDict : M.dict = true) (hNums : M.Nums Nums134) (hLogs : M.logs = true) (hGirth : M.girth = true) (hStraps : M.straps = true) (hJournal : M.journal = true) (hNodeQueues : M.nodeQueues = true) (hHar : M.har = true) (hQueues : M.queues = true) (hEdges : M.edges = true) (hFlags : M.flags = true) (hReports : M.reports = true) (hs : s.outside M = r) :
    (State.outStage s h f).outside M = r := by
  unfold State.outStage
  extract_lets +onlyGivenNames -merge -underBinder x0
  unfold x0
  clear x0
  extract_lets +onlyGivenNames -merge -underBinder x1
  unfold x1
  clear x1
  refine ite_outside ?_ ?_
  · refine State.radioOut_outside hDict (hNums.sub rfl) hLogs hGirth hStraps hJournal hNodeQueues hHar hQueues hEdges hFlags hReports ?_
    exact hs
  · refine ite_outside ?_ ?_
    · refine State.etherOut_outside hDraws hOut (hNums.sub rfl) hReports ?_
      exact hs
    · refine ite_outside ?_ ?_
      · refine State.chainOut_outside hChainPorts (hNums.sub rfl) hReports ?_
        exact hs
      · refine ite_outside ?_ ?_
        · refine State.chainOut_outside hChainPorts (hNums.sub rfl) hReports ?_
          exact hs
        · refine ite_outside ?_ ?_
          · refine ite_outside ?_ ?_
            · refine State.qDrop_outside (hNums.sub rfl) hReports ?_
              exact hs
            · refine Eq.trans (State.outside_har_har (h0 := hHar) ..) ?_
              exact hs
          · refine ite_outside ?_ ?_
            · refine Eq.trans (State.outside_har_har (h0 := hHar) ..) ?_
              exact hs
            · refine State.plainOut_outside hOut (hNums.sub rfl) hReports ?_
              exact hs

theorem State.outStage_keeps {s : State} {h : Nat} {f : HFrame} : Kept181 s (State.outStage s h f) :=
  .of (State.outStage_outside rfl rfl rfl rfl rfl rfl rfl rfl rfl rfl rfl rfl rfl rfl rfl rfl)

theorem State.outStage_rd {s : State} {h : Nat} {f : HFrame} {kk : Nat} (hkey : Nums134.contains (Key.fam kk) = false) : (State.outStage s h f).rd kk = s.rd kk :=
  State.rd_of_outside (M := .but Nums134) (State.outStage_outside rfl rfl rfl rfl .self rfl rfl rfl rfl rfl rfl rfl rfl rfl rfl rfl) rfl hkey

theorem State.pickClass_outside {M : Touch} {r : State} {s : State} {h n : Nat} (hCurb : M.curb = true) (hs : s.outside M = r) :
    (State.pickClass s h n).1.outside M = r := by
  induction n generalizing s with
  | zero => exact hs
  | succ n ih =>
    unfold State.pickClass
    have q : (s.eligible h n).1.outside M = r := State.eligible_outside hCurb hs
    exact ite_fst_outside q (ih q)

theorem State.pickClass_keeps {s : State} {h n : Nat} : Kept23 s (State.pickClass s h n).1 :=
  .of (State.pickClass_outside rfl rfl)

theorem State.takeArrival_outside {M : Touch} {r : State} {s : State} {a : Arrival} (hArrivals : M.arrivals = true) (hs : s.outside M = r) :
    (State.takeArrival s a).outside M = r := by
  unfold State.takeArrival
  extract_lets +onlyGivenNames -merge -underBinder x0
  unfold x0
  clear x0
  refine Eq.trans (State.outside_har_arrivals (h0 := hArrivals) ..) ?_
  exact hs

theorem State.takeArrival_keeps {s : State} {a : Arrival} : Kept119 s (State.takeArrival s a) :=
  .of (State.takeArrival_outside rfl rfl)

theorem execHarnessFrameIn_outside {M : Touch} {r : State} {h : Fin 12} {m : InMeta} {bytes : Bytes} {hit : TableHit} {dt : Nat} {s : State} (hDraws : M.draws = true) (hOut : M.out = true) (hClock : M.clock = true) (hDict : M.dict = true) (hNums : M.Nums Nums122) (hLogs : M.logs = true) (hVbat : M.vbat = true) (hStraps : M.straps = true) (hJournal : M.journal = true) (hTables : M.tables = true) (hHalter : M.halter = true) (hHar : M.har = true) (hQueues : M.queues = true) (hArrivals : M.arrivals = true) (hCurb : M.curb = true) (hEdges : M.edges = true) (hFlags : M.flags = true) (hReports : M.reports = true) (hs : s.outside M = r) :
    NextOutside M r (execHarnessFrameIn h m bytes hit dt s) := by
  unfold execHarnessFrameIn
  extract_lets +onlyGivenNames -merge -underBinder x0
  have q1 : State.outside M x0 = r := by
    unfold x0
    refine State.advance_outside hClock hVbat ?_
    exact hs
  try clear_value x0
  refine next_outside ?_
  refine ite_outside ?_ ?_
  · exact q1
  · refine ite_outside ?_ ?_
    · refine State.frameIn_outside hDraws hOut hDict hNums hLogs hStraps hJournal hTables hHalter hHar hQueues hCurb hEdges hFlags hReports ?_
      refine State.takeArrival_outside hArrivals ?_
      exact q1
    · exact q1

theorem execSpillFetch_outside {M : Touch} {r : State} {h : Fin 12} {c : Fin 8} {s : State} (hHar : M.har = true) (hQueues : M.queues = true) (hs : s.outside M = r) :
    NextOutside M r (execSpillFetch h c s) := by
  unfold execSpillFetch
  extract_lets +onlyGivenNames -merge -underBinder x0
  try clear_value x0
  extract_lets +onlyGivenNames -merge -underBinder x1
  try clear_value x1
  extract_lets +onlyGivenNames -merge -underBinder x2
  try clear_value x2
  extract_lets +onlyGivenNames -merge -underBinder x3
  try clear_value x3
  extract_lets +onlyGivenNames -merge -underBinder x4
  try clear_value x4
  refine next_outside ?_
  refine ite_outside ?_ ?_
  · exact hs
  · refine State.setOutQ_outside hHar hQueues ?_
    exact hs

theorem execOutputDequeue_outside {M : Touch} {r : State} {h : Fin 12} {bad : Option Nat} {dt : Nat} {s : State} (hDraws : M.draws = true) (hOut : M.out = true) (hClock : M.clock = true) (hChainPorts : M.chainPorts = true) (hDict : M.dict = true) (hNums : M.Nums Nums158) (hLogs : M.logs = true) (hVbat : M.vbat = true) (hGirth : M.girth = true) (hStraps : M.straps = true) (hJournal : M.journal = true) (hNodeQueues : M.nodeQueues = true) (hHar : M.har = true) (hQueues : M.queues = true) (hCurb : M.curb = true) (hEdges : M.edges = true) (hFlags : M.flags = true) (hReports : M.reports = true) (hs : s.outside M = r) :
    NextOutside M r (execOutputDequeue h bad dt s) := by
  unfold execOutputDequeue
  extract_lets +onlyGivenNames -merge -underBinder x0
  have q1 : State.outside M x0 = r := by
    unfold x0
    refine State.advance_outside hClock hVbat ?_
    exact hs
  try clear_value x0
  extract_lets +onlyGivenNames -merge -underBinder x2
  try clear_value x2
  extract_lets +onlyGivenNames -merge -underBinder x3
  have q4 : State.outside M x3.1 = r := by
    unfold x3
    refine State.pickClass_outside hCurb ?_
    exact q1
  try clear_value x3
  extract_lets +onlyGivenNames -merge -underBinder x5
  have q6 : State.outside M x5 = r := by
    unfold x5
    exact q4
  try clear_value x5
  refine next_outside ?_
  refine ite_outside ?_ ?_
  · exact q1
  · split
    · exact q6
    · extract_lets +onlyGivenNames -merge -underBinder x7
      try clear_value x7
      split
      · exact q6
      · extract_lets +onlyGivenNames -merge -underBinder x8
        have q9 : State.outside M x8 = r := by
          unfold x8
          refine State.setOutQ_outside hHar hQueues ?_
          exact q6
        try clear_value x8
        split
        · refine State.memFound_outside hDict (hNums.sub rfl) hLogs hStraps hJournal hEdges hFlags ?_
          refine State.qDrop_outside (hNums.sub rfl) hReports ?_
          exact q9
        · extract_lets +onlyGivenNames -merge -underBinder x10
          have q11 : State.outside M x10 = r := by
            unfold x10
            refine ite_outside ?_ ?_
            · exact q9
            · refine State.shaperDepart_outside hCurb ?_
              exact q9
          try clear_value x10
          refine State.outStage_outside hDraws hOut hChainPorts hDict (hNums.sub rfl) hLogs hGirth hStraps hJournal hNodeQueues hHar hQueues hEdges hFlags hReports ?_
          exact q11

theorem execOutputLinkDownDiscard_outside {M : Touch} {r : State} {h : Fin 12} {s : State} (hNums : M.Nums Nums56) (hHar : M.har = true) (hQueues : M.queues = true) (hReports : M.reports = true) (hs : s.outside M = r) :
    NextOutside M r (execOutputLinkDownDiscard h s) := by
  unfold execOutputLinkDownDiscard
  extract_lets +onlyGivenNames -merge -underBinder x0
  try clear_value x0
  refine next_outside ?_
  refine ite_outside ?_ ?_
  · exact hs
  · refine State.each_outside ?_ ?_
    · intro t1 q2 z3
      extract_lets +onlyGivenNames -merge -underBinder x4
      try clear_value x4
      split
      · exact q2
      · refine State.qDrop_outside hNums hReports ?_
        refine State.setOutQ_outside hHar hQueues ?_
        exact q2
    · exact hs

theorem execEthernetLinkChange_outside {M : Touch} {r : State} {p : Fin 2} {up : Bool} {s : State} (hHar : M.har = true) (hs : s.outside M = r) :
    NextOutside M r (execEthernetLinkChange p up s) := by
  unfold execEthernetLinkChange
  extract_lets +onlyGivenNames -merge -underBinder x0
  unfold x0
  clear x0
  refine next_outside ?_
  refine Eq.trans (State.outside_har_har (h0 := hHar) ..) ?_
  exact hs

theorem execHoldDrain_outside {M : Touch} {r : State} {s : State} (hDraws : M.draws = true) (hNums : M.Nums Nums168) (hStraps : M.straps = true) (hHar : M.har = true) (hQueues : M.queues = true) (hReports : M.reports = true) (hs : s.outside M = r) :
    NextOutside M r (execHoldDrain s) := by
  unfold execHoldDrain
  extract_lets +onlyGivenNames -merge -underBinder x0
  have q1 : State.outside M x0.1 = r := by
    unfold x0
    refine State.strapPop_outside hStraps ?_
    exact hs
  try clear_value x0
  refine next_outside ?_
  split
  · exact hs
  · extract_lets +onlyGivenNames -merge -underBinder x2
    try clear_value x2
    split
    · exact hs
    · extract_lets +onlyGivenNames -merge -underBinder x3
      try clear_value x3
      extract_lets +onlyGivenNames -merge -underBinder x4
      have q5 : State.outside M x4.1 = r := by
        unfold x4
        refine State.admitOne_outside (hNums.sub rfl) hHar hQueues hReports ?_
        refine State.drawn_outside hDraws ?_
        exact q1
      try clear_value x4
      refine ite_outside ?_ ?_
      · exact hs
      · refine ite_outside ?_ ?_
        · exact q1
        · refine ite_outside ?_ ?_
          · refine State.bump_outside (hNums.at Key.fam_sqLost rfl) ?_
            exact q1
          · refine ite_outside ?_ ?_
            · exact q5
            · refine State.bump_outside (hNums.at Key.fam_sqLost rfl) ?_
              exact q5

theorem execSpillWriteDone_outside {M : Touch} {r : State} {h : Fin 12} {c : Fin 8} {ok : Bool} {s : State} (hNums : M.Nums Nums56) (hHar : M.har = true) (hQueues : M.queues = true) (hReports : M.reports = true) (hs : s.outside M = r) :
    NextOutside M r (execSpillWriteDone h c ok s) := by
  unfold execSpillWriteDone
  extract_lets +onlyGivenNames -merge -underBinder x0
  try clear_value x0
  extract_lets +onlyGivenNames -merge -underBinder x1
  try clear_value x1
  extract_lets +onlyGivenNames -merge -underBinder x2
  try clear_value x2
  refine next_outside ?_
  split
  · exact hs
  · refine ite_outside ?_ ?_
    · refine ite_outside ?_ ?_
      · refine State.setOutQ_outside hHar hQueues ?_
        exact hs
      · exact hs
    · refine State.qDrop_outside hNums hReports ?_
      refine State.setOutQ_outside hHar hQueues ?_
      exact hs

end Sys2Proof.Machine
end

