-- ==== Sys2Proof/Laws/Frame/HostIf.lean ====
section
/-! SUPPORT. What the operations of Machine/HostIf.lean leave alone. -/

namespace Sys2Proof.Machine

theorem State.hifReset_outside {M : Touch} {r : State} {s : State} (hHost : M.host = true) (hFlags : M.flags = true) (hs : s.outside M = r) :
    (State.hifReset s).outside M = r := by
  unfold State.hifReset
  extract_lets +onlyGivenNames -merge -underBinder x0
  try clear_value x0
  extract_lets +onlyGivenNames -merge -underBinder x1
  try clear_value x1
  extract_lets +onlyGivenNames -merge -underBinder x2
  unfold x2
  clear x2
  rw [← hs]; simp only [State.outside, hHost, hFlags, cond_true]

theorem State.hifReset_keeps {s : State} : Kept184 s (State.hifReset s) :=
  .of (State.hifReset_outside rfl rfl rfl)

theorem State.setTxRing_outside {M : Touch} {r : State} {s : State} {n : Nat} {a0 : Ring} (hHost : M.host = true) (hs : s.outside M = r) :
    (State.setTxRing s n a0).outside M = r := by
  unfold State.setTxRing
  extract_lets +onlyGivenNames -merge -underBinder x1
  unfold x1
  clear x1
  refine Eq.trans (State.outside_host_host (h0 := hHost) ..) ?_
  exact hs

theorem State.setTxRing_keeps {s : State} {n : Nat} {a0 : Ring} : Kept185 s (State.setTxRing s n a0) :=
  .of (State.setTxRing_outside rfl rfl)

theorem State.setRxRing_outside {M : Touch} {r : State} {s : State} {n : Nat} {a0 : Ring} (hHost : M.host = true) (hs : s.outside M = r) :
    (State.setRxRing s n a0).outside M = r := by
  unfold State.setRxRing
  extract_lets +onlyGivenNames -merge -underBinder x1
  unfold x1
  clear x1
  refine Eq.trans (State.outside_host_host (h0 := hHost) ..) ?_
  exact hs

theorem State.setRxRing_keeps {s : State} {n : Nat} {a0 : Ring} : Kept185 s (State.setRxRing s n a0) :=
  .of (State.setRxRing_outside rfl rfl)

theorem State.setVector_outside {M : Touch} {r : State} {s : State} {v : Nat} {x : MsixVector} (hHost : M.host = true) (hs : s.outside M = r) :
    (State.setVector s v x).outside M = r := by
  unfold State.setVector
  extract_lets +onlyGivenNames -merge -underBinder x0
  unfold x0
  clear x0
  refine Eq.trans (State.outside_host_host (h0 := hHost) ..) ?_
  exact hs

theorem State.setVector_keeps {s : State} {v : Nat} {x : MsixVector} : Kept185 s (State.setVector s v x) :=
  .of (State.setVector_outside rfl rfl)

theorem State.hostWrites_outside {M : Touch} {r : State} {s : State} {f : State → State} (hPins : M.pins = true) (hDict : M.dict = true) (hNums : M.Nums Nums52) (hResults : M.results = true) (hLogs : M.logs = true) (hPower : M.power = true) (hPorts : M.ports = true) (hRxTiles : M.rxTiles = true) (hStraps : M.straps = true) (hJournal : M.journal = true) (hEdges : M.edges = true) (hFlags : M.flags = true) (hFfun : ∀ u0 : State, State.outside M u0 = r → State.outside M (f u0) = r) (hs : s.outside M = r) :
    (State.hostWrites s f).outside M = r := by
  unfold State.hostWrites
  refine ite_outside ?_ ?_
  · refine hFfun _ ?_
    refine State.wake_outside hPins hDict hNums hResults hLogs hPower hPorts hRxTiles hStraps hJournal hEdges hFlags ?_
    exact hs
  · exact hs

theorem State.writePiece_outside {M : Touch} {r : State} {s : State} {a0 : Ring} {f : HFrame} {p : RxPiece} {trunc : Bool} {first : Bool} {last : Bool} (hOut : M.out = true) (hs : s.outside M = r) :
    (State.writePiece s a0 f p trunc first last).outside M = r := by
  unfold State.writePiece
  extract_lets +onlyGivenNames -merge -underBinder x1
  try clear_value x1
  extract_lets +onlyGivenNames -merge -underBinder x2
  have q3 : State.outside M x2 = r := by
    unfold x2
    refine ite_outside ?_ ?_
    · exact hs
    · refine State.emit_outside hOut ?_
      exact hs
  try clear_value x2
  refine State.emit_outside hOut ?_
  exact q3

theorem State.writePiece_keeps {s : State} {a0 : Ring} {f : HFrame} {p : RxPiece} {trunc : Bool} {first : Bool} {last : Bool} : Kept12 s (State.writePiece s a0 f p trunc first last) :=
  .of (State.writePiece_outside rfl rfl)

theorem State.rxFrame_outside {M : Touch} {r : State} {s : State} {f : HFrame} {ds : List RxDesc} (hOut : M.out = true) (hNums : M.Nums Nums141) (hHost : M.host = true) (hFlags : M.flags = true) (hReports : M.reports = true) (hs : s.outside M = r) :
    (State.rxFrame s f ds).outside M = r := by
  unfold State.rxFrame
  extract_lets +onlyGivenNames -merge -underBinder x0
  try clear_value x0
  extract_lets +onlyGivenNames -merge -underBinder x1
  try clear_value x1
  extract_lets +onlyGivenNames -merge -underBinder x2
  try clear_value x2
  extract_lets +onlyGivenNames -merge -underBinder x3
  try clear_value x3
  extract_lets +onlyGivenNames -merge -underBinder x4
  try clear_value x4
  extract_lets +onlyGivenNames -merge -underBinder x5
  have q6 : State.outside M x5 = r := by
    unfold x5
    refine State.each_outside ?_ ?_
    · intro t7 q8 z9
      refine State.writePiece_outside hOut ?_
      exact q8
    · exact hs
  try clear_value x5
  extract_lets +onlyGivenNames -merge -underBinder x10
  try clear_value x10
  refine ite_outside ?_ ?_
  · refine State.qDrop_outside (hNums.sub rfl) hReports ?_
    exact hs
  · refine State.reportFinal_outside hReports ?_
    refine State.setCause_outside hFlags ?_
    refine State.bump_outside (hNums.at Key.fam_hpTx rfl) ?_
    refine State.setRxRing_outside hHost ?_
    exact q6

theorem State.rxFrame_keeps {s : State} {f : HFrame} {ds : List RxDesc} : Kept186 s (State.rxFrame s f ds) :=
  .of (State.rxFrame_outside rfl rfl rfl rfl rfl rfl)

theorem State.rxFrame_rd {s : State} {f : HFrame} {ds : List RxDesc} {kk : Nat} (hkey : Nums141.contains (Key.fam kk) = false) : (State.rxFrame s f ds).rd kk = s.rd kk :=
  State.rd_of_outside (M := .but Nums141) (State.rxFrame_outside rfl .self rfl rfl rfl rfl) rfl hkey

theorem State.txBack_outside {M : Touch} {r : State} {s : State} {a0 : Ring} {i : Nat} {d : BitVec 512} {status : Nat} (hOut : M.out = true) (hs : s.outside M = r) :
    (State.txBack s a0 i d status).outside M = r := by
  unfold State.txBack
  refine State.emit_outside hOut ?_
  exact hs

theorem State.txBack_keeps {s : State} {a0 : Ring} {i : Nat} {d : BitVec 512} {status : Nat} : Kept12 s (State.txBack s a0 i d status) :=
  .of (State.txBack_outside rfl rfl)

theorem State.txBackAll_outside {M : Touch} {r : State} {s : State} {a0 : Ring} {l : List (BitVec 512)} {status : Nat} (hOut : M.out = true) (hs : s.outside M = r) :
    (State.txBackAll s a0 l status).outside M = r := by
  unfold State.txBackAll
  refine foldl_fst_outside ?_ ?_
  · intro t1 q2 z3
    refine fst_outside ?_
    refine State.txBack_outside hOut ?_
    exact q2
  · refine fst_outside ?_
    exact hs

theorem State.txBackAll_keeps {s : State} {a0 : Ring} {l : List (BitVec 512)} {status : Nat} : Kept12 s (State.txBackAll s a0 l status) :=
  .of (State.txBackAll_outside rfl rfl)

theorem State.txTake_outside {M : Touch} {r : State} {s : State} {d : BitVec 512} {bytes : Bytes} (hDraws : M.draws = true) (hOut : M.out = true) (hDict : M.dict = true) (hNums : M.Nums Nums122) (hLogs : M.logs = true) (hStraps : M.straps = true) (hJournal : M.journal = true) (hTables : M.tables = true) (hHalter : M.halter = true) (hHar : M.har = true) (hQueues : M.queues = true) (hCurb : M.curb = true) (hEdges : M.edges = true) (hHost : M.host = true) (hFlags : M.flags = true) (hReports : M.reports = true) (hs : s.outside M = r) :
    (State.txTake s d bytes).1.outside M = r := by
  unfold State.txTake
  extract_lets +onlyGivenNames -merge -underBinder x0
  try clear_value x0
  extract_lets +onlyGivenNames -merge -underBinder x1
  try clear_value x1
  extract_lets +onlyGivenNames -merge -underBinder x2
  try clear_value x2
  extract_lets +onlyGivenNames -merge -underBinder x3
  unfold x3
  clear x3
  extract_lets +onlyGivenNames -merge -underBinder x4
  have q5 : State.outside M x4 = r := by
    unfold x4
    refine ite_outside ?_ ?_
    · rw [← hs]; simp only [State.outside, hReports, hHost, cond_true]
    · exact hs
  try clear_value x4
  extract_lets +onlyGivenNames -merge -underBinder x6
  try clear_value x6
  extract_lets +onlyGivenNames -merge -underBinder x7
  try clear_value x7
  extract_lets +onlyGivenNames -merge -underBinder x8
  try clear_value x8
  extract_lets +onlyGivenNames -merge -underBinder x9
  try clear_value x9
  extract_lets +onlyGivenNames -merge -underBinder x10
  try clear_value x10
  refine State.frameIn_outside hDraws hOut hDict hNums hLogs hStraps hJournal hTables hHalter hHar hQueues hCurb hEdges hFlags hReports ?_
  exact q5

theorem State.txTake_keeps {s : State} {d : BitVec 512} {bytes : Bytes} : Kept187 s (State.txTake s d bytes).1 :=
  .of (State.txTake_outside rfl rfl rfl rfl rfl rfl rfl rfl rfl rfl rfl rfl rfl rfl rfl rfl rfl)

theorem State.txTake_rd {s : State} {d : BitVec 512} {bytes : Bytes} {kk : Nat} (hkey : Nums122.contains (Key.fam kk) = false) : (State.txTake s d bytes).1.rd kk = s.rd kk :=
  State.rd_of_outside (M := .but Nums122) (State.txTake_outside rfl rfl rfl .self rfl rfl rfl rfl rfl rfl rfl rfl rfl rfl rfl rfl rfl) rfl hkey

theorem execTxFrameFetch_outside {M : Touch} {r : State} {n : Fin 32} {ds : List (BitVec 512)} {data : Bytes} {dt : Nat} {s : State} (hDraws : M.draws = true) (hOut : M.out = true) (hClock : M.clock = true) (hDict : M.dict = true) (hNums : M.Nums Nums122) (hLogs : M.logs = true) (hVbat : M.vbat = true) (hStraps : M.straps = true) (hJournal : M.journal = true) (hTables : M.tables = true) (hHalter : M.halter = true) (hHar : M.har = true) (hQueues : M.queues = true) (hCurb : M.curb = true) (hEdges : M.edges = true) (hHost : M.host = true) (hFlags : M.flags = true) (hReports : M.reports = true) (hs : s.outside M = r) :
    NextOutside M r (execTxFrameFetch n ds data dt s) := by
  unfold execTxFrameFetch
  extract_lets +onlyGivenNames -merge -underBinder x0
  have q1 : State.outside M x0 = r := by
    unfold x0
    refine State.advance_outside hClock hVbat ?_
    exact hs
  try clear_value x0
  extract_lets +onlyGivenNames -merge -underBinder x2
  try clear_value x2
  extract_lets +onlyGivenNames -merge -underBinder x3
  try clear_value x3
  refine next_outside ?_
  refine ite_outside ?_ ?_
  · exact q1
  · split
    · refine State.setTxRing_outside hHost ?_
      exact q1
    · extract_lets +onlyGivenNames -merge -underBinder x4
      try clear_value x4
      extract_lets +onlyGivenNames -merge -underBinder x5
      try clear_value x5
      extract_lets +onlyGivenNames -merge -underBinder x6
      unfold x6
      clear x6
      extract_lets +onlyGivenNames -merge -underBinder x7
      have q8 : State.outside M x7 = r := by
        unfold x7
        refine Eq.trans (State.outside_host_host (h0 := hHost) ..) ?_
        exact q1
      try clear_value x7
      extract_lets +onlyGivenNames -merge -underBinder x9
      have q10 : State.outside M x9.1 = r := by
        unfold x9
        refine ite_fst_outside ?_ ?_
        · refine State.txTake_outside hDraws hOut hDict hNums hLogs hStraps hJournal hTables hHalter hHar hQueues hCurb hEdges hHost hFlags hReports ?_
          exact q8
        · refine fst_outside ?_
          exact q8
      try clear_value x9
      extract_lets +onlyGivenNames -merge -underBinder x11
      try clear_value x11
      extract_lets +onlyGivenNames -merge -underBinder x12
      have q13 : State.outside M x12 = r := by
        unfold x12
        refine State.txBackAll_outside hOut ?_
        exact q10
      try clear_value x12
      refine State.setCause_outside hFlags ?_
      refine State.setTxRing_outside hHost ?_
      exact q13

theorem execTxRingSizeWrite_outside {M : Touch} {r : State} {n : Fin 32} {k : BitVec 4} {s : State} (hPins : M.pins = true) (hDict : M.dict = true) (hNums : M.Nums Nums52) (hResults : M.results = true) (hLogs : M.logs = true) (hPower : M.power = true) (hPorts : M.ports = true) (hRxTiles : M.rxTiles = true) (hStraps : M.straps = true) (hJournal : M.journal = true) (hEdges : M.edges = true) (hHost : M.host = true) (hFlags : M.flags = true) (hs : s.outside M = r) :
    NextOutside M r (execTxRingSizeWrite n k s) := by
  unfold execTxRingSizeWrite
  refine next_outside ?_
  refine State.hostWrites_outside hPins hDict hNums hResults hLogs hPower hPorts hRxTiles hStraps hJournal hEdges hFlags ?_ ?_
  · intro t0 q1
    refine State.setTxRing_outside hHost ?_
    exact q1
  · exact hs

theorem execDmaError_outside {M : Touch} {r : State} {rx : Bool} {n : Fin 32} {addr : BitVec 64} {s : State} (hDict : M.dict = true) (hNums : M.Nums Nums66) (hLogs : M.logs = true) (hStraps : M.straps = true) (hJournal : M.journal = true) (hHar : M.har = true) (hEdges : M.edges = true) (hHost : M.host = true) (hFlags : M.flags = true) (hReports : M.reports = true) (hs : s.outside M = r) :
    NextOutside M r (execDmaError rx n addr s) := by
  unfold execDmaError
  extract_lets +onlyGivenNames -merge -underBinder x0
  try clear_value x0
  extract_lets +onlyGivenNames -merge -underBinder x1
  have q2 : State.outside M x1 = r := by
    unfold x1
    split
    · extract_lets +onlyGivenNames -merge -underBinder x3
      unfold x3
      clear x3
      refine ite_outside ?_ ?_
      · refine State.qDrop_outside (hNums.sub rfl) hReports ?_
        refine Eq.trans (State.outside_har_har (h0 := hHar) ..) ?_
        exact hs
      · exact hs
    · exact hs
  try clear_value x1
  extract_lets +onlyGivenNames -merge -underBinder x4
  try clear_value x4
  extract_lets +onlyGivenNames -merge -underBinder x5
  try clear_value x5
  extract_lets +onlyGivenNames -merge -underBinder x6
  have q7 : State.outside M x6 = r := by
    unfold x6
    refine ite_outside ?_ ?_
    · refine State.setRxRing_outside hHost ?_
      exact q2
    · refine State.setTxRing_outside hHost ?_
      exact hs
  try clear_value x6
  extract_lets +onlyGivenNames -merge -underBinder x8
  try clear_value x8
  refine next_outside ?_
  refine ite_outside ?_ ?_
  · refine State.post_outside hDict (hNums.sub rfl) hLogs hStraps hJournal hEdges hFlags ?_
    exact q7
  · exact hs

theorem execMsixSend_outside {M : Touch} {r : State} {v : Fin 64} {dt : Nat} {s : State} (hOut : M.out = true) (hClock : M.clock = true) (hVbat : M.vbat = true) (hHost : M.host = true) (hFlags : M.flags = true) (hs : s.outside M = r) :
    NextOutside M r (execMsixSend v dt s) := by
  unfold execMsixSend
  extract_lets +onlyGivenNames -merge -underBinder x0
  have q1 : State.outside M x0 = r := by
    unfold x0
    refine State.advance_outside hClock hVbat ?_
    exact hs
  try clear_value x0
  extract_lets +onlyGivenNames -merge -underBinder x2
  try clear_value x2
  extract_lets +onlyGivenNames -merge -underBinder x3
  try clear_value x3
  extract_lets +onlyGivenNames -merge -underBinder x4
  try clear_value x4
  extract_lets +onlyGivenNames -merge -underBinder x5
  unfold x5
  clear x5
  extract_lets +onlyGivenNames -merge -underBinder x6
  have q7 : State.outside M x6 = r := by
    unfold x6
    refine Eq.trans (State.outside_host_flags (h0 := hFlags) ..) ?_
    exact q1
  try clear_value x6
  refine next_outside ?_
  refine ite_outside ?_ ?_
  · exact q1
  · refine ite_outside ?_ ?_
    · refine State.setVector_outside hHost ?_
      exact q1
    · refine State.setVector_outside hHost ?_
      refine State.emit_outside hOut ?_
      exact q7

theorem execRxRingTailWrite_outside {M : Touch} {r : State} {n : Fin 32} {v : BitVec 12} {s : State} (hPins : M.pins = true) (hDict : M.dict = true) (hNums : M.Nums Nums52) (hResults : M.results = true) (hLogs : M.logs = true) (hPower : M.power = true) (hPorts : M.ports = true) (hRxTiles : M.rxTiles = true) (hStraps : M.straps = true) (hJournal : M.journal = true) (hEdges : M.edges = true) (hHost : M.host = true) (hFlags : M.flags = true) (hs : s.outside M = r) :
    NextOutside M r (execRxRingTailWrite n v s) := by
  unfold execRxRingTailWrite
  refine next_outside ?_
  refine State.hostWrites_outside hPins hDict hNums hResults hLogs hPower hPorts hRxTiles hStraps hJournal hEdges hFlags ?_ ?_
  · intro t0 q1
    refine State.setRxRing_outside hHost ?_
    exact q1
  · exact hs

theorem execReportRecordWrite_outside {M : Touch} {r : State} {s : State} (hOut : M.out = true) (hFlags : M.flags = true) (hReports : M.reports = true) (hs : s.outside M = r) :
    NextOutside M r (execReportRecordWrite s) := by
  unfold execReportRecordWrite
  refine next_outside ?_
  split
  · exact hs
  · refine ite_outside ?_ ?_
    · exact hs
    · split
      · extract_lets +onlyGivenNames -merge -underBinder x0
        unfold x0
        clear x0
        refine Eq.trans (State.outside_host_reports (h0 := hReports) ..) ?_
        exact hs
      · extract_lets +onlyGivenNames -merge -underBinder x1
        unfold x1
        clear x1
        extract_lets +onlyGivenNames -merge -underBinder x2
        have q3 : State.outside M x2 = r := by
          unfold x2
          refine Eq.trans (State.outside_host_reports (h0 := hReports) ..) ?_
          exact hs
        try clear_value x2
        refine State.setCause_outside hFlags ?_
        refine State.emit_outside hOut ?_
        exact q3

theorem execTxRingTailWrite_outside {M : Touch} {r : State} {n : Fin 32} {v : BitVec 12} {s : State} (hPins : M.pins = true) (hDict : M.dict = true) (hNums : M.Nums Nums52) (hResults : M.results = true) (hLogs : M.logs = true) (hPower : M.power = true) (hPorts : M.ports = true) (hRxTiles : M.rxTiles = true) (hStraps : M.straps = true) (hJournal : M.journal = true) (hEdges : M.edges = true) (hHost : M.host = true) (hFlags : M.flags = true) (hs : s.outside M = r) :
    NextOutside M r (execTxRingTailWrite n v s) := by
  unfold execTxRingTailWrite
  refine next_outside ?_
  refine State.hostWrites_outside hPins hDict hNums hResults hLogs hPower hPorts hRxTiles hStraps hJournal hEdges hFlags ?_ ?_
  · intro t0 q1
    refine State.setTxRing_outside hHost ?_
    exact q1
  · exact hs

theorem execHostRxFrame_outside {M : Touch} {r : State} {ds : List RxDesc} {dt : Nat} {s : State} (hOut : M.out = true) (hClock : M.clock = true) (hNums : M.Nums Nums141) (hVbat : M.vbat = true) (hHar : M.har = true) (hHost : M.host = true) (hFlags : M.flags = true) (hReports : M.reports = true) (hs : s.outside M = r) :
    NextOutside M r (execHostRxFrame ds dt s) := by
  unfold execHostRxFrame
  extract_lets +onlyGivenNames -merge -underBinder x0
  have q1 : State.outside M x0 = r := by
    unfold x0
    refine State.advance_outside hClock hVbat ?_
    exact hs
  try clear_value x0
  refine next_outside ?_
  split
  · exact q1
  · extract_lets +onlyGivenNames -merge -underBinder x2
    try clear_value x2
    extract_lets +onlyGivenNames -merge -underBinder x3
    unfold x3
    clear x3
    refine ite_outside ?_ ?_
    · exact q1
    · refine State.rxFrame_outside hOut hNums hHost hFlags hReports ?_
      refine Eq.trans (State.outside_har_har (h0 := hHar) ..) ?_
      exact q1

theorem execRxRingSizeWrite_outside {M : Touch} {r : State} {n : Fin 32} {k : BitVec 4} {s : State} (hPins : M.pins = true) (hDict : M.dict = true) (hNums : M.Nums Nums52) (hResults : M.results = true) (hLogs : M.logs = true) (hPower : M.power = true) (hPorts : M.ports = true) (hRxTiles : M.rxTiles = true) (hStraps : M.straps = true) (hJournal : M.journal = true) (hEdges : M.edges = true) (hHost : M.host = true) (hFlags : M.flags = true) (hs : s.outside M = r) :
    NextOutside M r (execRxRingSizeWrite n k s) := by
  unfold execRxRingSizeWrite
  refine next_outside ?_
  refine State.hostWrites_outside hPins hDict hNums hResults hLogs hPower hPorts hRxTiles hStraps hJournal hEdges hFlags ?_ ?_
  · intro t0 q1
    extract_lets +onlyGivenNames -merge -underBinder x2
    try clear_value x2
    refine State.setRxRing_outside hHost ?_
    exact q1
  · exact hs

theorem execFunctionLevelReset_outside {M : Touch} {r : State} {s : State} (hDict : M.dict = true) (hNums : M.Nums Nums2) (hLogs : M.logs = true) (hStraps : M.straps = true) (hJournal : M.journal = true) (hEdges : M.edges = true) (hHost : M.host = true) (hFlags : M.flags = true) (hs : s.outside M = r) :
    NextOutside M r (execFunctionLevelReset s) := by
  unfold execFunctionLevelReset
  refine next_outside ?_
  refine ite_outside ?_ ?_
  · refine State.post_outside hDict hNums hLogs hStraps hJournal hEdges hFlags ?_
    refine State.hifReset_outside hHost hFlags ?_
    exact hs
  · exact hs

end Sys2Proof.Machine
end

