-- ==== Sys2Proof/Laws/Frame/HostPath.lean ====
section
/-! SUPPORT. What the operations of Machine/HostPath.lean leave alone. -/

namespace Sys2Proof.Machine

theorem State.pathCheck_outside {M : Touch} {r : State} {s : State} (hDict : M.dict = true) (hNums : M.Nums Nums2) (hLogs : M.logs = true) (hStraps : M.straps = true) (hJournal : M.journal = true) (hEdges : M.edges = true) (hHost : M.host = true) (hFlags : M.flags = true) (hs : s.outside M = r) :
    (State.pathCheck s).outside M = r := by
  unfold State.pathCheck
  split
  · extract_lets +onlyGivenNames -merge -underBinder x0
    unfold x0
    clear x0
    extract_lets +onlyGivenNames -merge -underBinder x1
    have q2 : State.outside M x1 = r := by
      unfold x1
      refine Eq.trans (State.outside_host_host (h0 := hHost) ..) ?_
      exact hs
    try clear_value x1
    refine ite_outside ?_ ?_
    · refine State.post_outside hDict hNums hLogs hStraps hJournal hEdges hFlags ?_
      exact q2
    · exact q2
  · extract_lets +onlyGivenNames -merge -underBinder x3
    unfold x3
    clear x3
    refine Eq.trans (State.outside_host_host (h0 := hHost) ..) ?_
    exact hs
  · exact hs
  · exact hs

theorem State.pathCheck_keeps {s : State} : Kept188 s (State.pathCheck s) :=
  .of (State.pathCheck_outside rfl rfl rfl rfl rfl rfl rfl rfl rfl)

theorem State.pathCheck_rd {s : State} {kk : Nat} (hkey : Nums2.contains (Key.fam kk) = false) : (State.pathCheck s).rd kk = s.rd kk :=
  State.rd_of_outside (M := .but Nums2) (State.pathCheck_outside rfl .self rfl rfl rfl rfl rfl rfl rfl) rfl hkey

theorem execHostUnreachable_outside {M : Touch} {r : State} {dt : Nat} {s : State} (hClock : M.clock = true) (hDict : M.dict = true) (hNums : M.Nums Nums2) (hLogs : M.logs = true) (hVbat : M.vbat = true) (hStraps : M.straps = true) (hJournal : M.journal = true) (hEdges : M.edges = true) (hHost : M.host = true) (hFlags : M.flags = true) (hs : s.outside M = r) :
    NextOutside M r (execHostUnreachable dt s) := by
  unfold execHostUnreachable
  extract_lets +onlyGivenNames -merge -underBinder x0
  have q1 : State.outside M x0 = r := by
    unfold x0
    refine State.pathCheck_outside hDict hNums hLogs hStraps hJournal hEdges hHost hFlags ?_
    refine State.advance_outside hClock hVbat ?_
    exact hs
  try clear_value x0
  refine next_outside ?_
  split
  · extract_lets +onlyGivenNames -merge -underBinder x2
    unfold x2
    clear x2
    refine ite_outside ?_ ?_
    · refine State.post_outside hDict hNums hLogs hStraps hJournal hEdges hFlags ?_
      refine Eq.trans (State.outside_host_host (h0 := hHost) ..) ?_
      exact q1
    · exact q1
  · exact q1

end Sys2Proof.Machine
end

