-- ==== Sys2Proof/Laws/Frame/Time.lean ====
section
/-! SUPPORT. What the operations of Machine/Time.lean leave alone. -/

namespace Sys2Proof.Machine

theorem State.accepted_outside {M : Touch} {r : State} {s : State} {st : Nat} (hClock : M.clock = true) (hs : s.outside M = r) :
    (State.accepted s st).outside M = r := by
  unfold State.accepted
  extract_lets +onlyGivenNames -merge -underBinder x0
  try clear_value x0
  refine Eq.trans (State.outside_clock (h0 := hClock) ..) ?_
  exact hs

theorem State.accepted_keeps {s : State} {st : Nat} : Kept156 s (State.accepted s st) :=
  .of (State.accepted_outside rfl rfl)

theorem State.timeEdge_outside {M : Touch} {r : State} {s : State} {was : Nat} (hEdges : M.edges = true) (hs : s.outside M = r) :
    (State.timeEdge s was).outside M = r := by
  unfold State.timeEdge
  refine ite_outside ?_ ?_
  · exact hs
  · refine State.raise_outside hEdges ?_
    exact hs

theorem State.timeEdge_keeps {s : State} {was : Nat} : Kept7 s (State.timeEdge s was) :=
  .of (State.timeEdge_outside rfl rfl)

theorem State.timeFree_outside {M : Touch} {r : State} {s : State} (hClock : M.clock = true) (hEdges : M.edges = true) (hs : s.outside M = r) :
    (State.timeFree s).outside M = r := by
  unfold State.timeFree
  extract_lets +onlyGivenNames -merge -underBinder x0
  try clear_value x0
  refine State.timeEdge_outside hEdges ?_
  refine Eq.trans (State.outside_clock (h0 := hClock) ..) ?_
  exact hs

theorem State.timeFree_keeps {s : State} : Kept157 s (State.timeFree s) :=
  .of (State.timeFree_outside rfl rfl rfl)

theorem State.setPulse_outside {M : Touch} {r : State} {s : State} {k : Nat} {x : Pulse} (hPins : M.pins = true) (hPulses : M.pulses = true) (hEdges : M.edges = true) (hs : s.outside M = r) :
    (State.setPulse s k x).outside M = r := by
  unfold State.setPulse
  extract_lets +onlyGivenNames -merge -underBinder x0
  have q1 : State.outside M x0 = r := by
    unfold x0
    refine ite_outside ?_ ?_
    · refine State.raise_outside hEdges ?_
      exact hs
    · exact hs
  try clear_value x0
  extract_lets +onlyGivenNames -merge -underBinder x2
  try clear_value x2
  rw [← q1]; simp only [State.outside, hPins, hPulses, cond_true]

theorem State.setPulse_keeps {s : State} {k : Nat} {x : Pulse} : Kept158 s (State.setPulse s k x) :=
  .of (State.setPulse_outside rfl rfl rfl rfl)

theorem State.pulseArm_outside {M : Touch} {r : State} {s : State} {k : Nat} (hPins : M.pins = true) (hPulses : M.pulses = true) (hDict : M.dict = true) (hNums : M.Nums Nums63) (hLogs : M.logs = true) (hStraps : M.straps = true) (hJournal : M.journal = true) (hEdges : M.edges = true) (hFlags : M.flags = true) (hs : s.outside M = r) :
    (State.pulseArm s k).outside M = r := by
  unfold State.pulseArm
  extract_lets +onlyGivenNames -merge -underBinder x0
  try clear_value x0
  extract_lets +onlyGivenNames -merge -underBinder x1
  try clear_value x1
  extract_lets +onlyGivenNames -merge -underBinder x2
  try clear_value x2
  extract_lets +onlyGivenNames -merge -underBinder x3
  try clear_value x3
  refine ite_outside ?_ ?_
  · refine State.setPulse_outside hPins hPulses hEdges ?_
    exact hs
  · refine ite_outside ?_ ?_
    · refine ite_outside ?_ ?_
      · refine State.setPulse_outside hPins hPulses hEdges ?_
        exact hs
      · refine State.post_outside hDict (hNums.sub rfl) hLogs hStraps hJournal hEdges hFlags ?_
        refine State.setPulse_outside hPins hPulses hEdges ?_
        refine State.wr_outside (hNums.at Key.fam_tpoMode rfl) ?_
        exact hs
    · refine State.setPulse_outside hPins hPulses hEdges ?_
      exact hs

theorem State.pulseArm_keeps {s : State} {k : Nat} : Kept159 s (State.pulseArm s k) :=
  .of (State.pulseArm_outside rfl rfl rfl rfl rfl rfl rfl rfl rfl rfl)

theorem State.pulseArm_rd {s : State} {k : Nat} {kk : Nat} (hkey : Nums63.contains (Key.fam kk) = false) : (State.pulseArm s k).rd kk = s.rd kk :=
  State.rd_of_outside (M := .but Nums63) (State.pulseArm_outside rfl rfl rfl .self rfl rfl rfl rfl rfl rfl) rfl hkey

theorem State.pulseWritten_outside {M : Touch} {r : State} {s : State} {k : Nat} {modeWritten : Bool} (hPins : M.pins = true) (hPulses : M.pulses = true) (hDict : M.dict = true) (hNums : M.Nums Nums63) (hLogs : M.logs = true) (hStraps : M.straps = true) (hJournal : M.journal = true) (hEdges : M.edges = true) (hFlags : M.flags = true) (hs : s.outside M = r) :
    (State.pulseWritten s k modeWritten).outside M = r := by
  unfold State.pulseWritten
  extract_lets +onlyGivenNames -merge -underBinder x0
  try clear_value x0
  refine ite_outside ?_ ?_
  · refine ite_outside ?_ ?_
    · refine State.setPulse_outside hPins hPulses hEdges ?_
      exact hs
    · refine ite_outside ?_ ?_
      · refine State.setPulse_outside hPins hPulses hEdges ?_
        exact hs
      · refine State.pulseArm_outside hPins hPulses hDict hNums hLogs hStraps hJournal hEdges hFlags ?_
        exact hs
  · refine ite_outside ?_ ?_
    · exact hs
    · refine ite_outside ?_ ?_
      · refine State.setPulse_outside hPins hPulses hEdges ?_
        exact hs
      · refine State.pulseArm_outside hPins hPulses hDict hNums hLogs hStraps hJournal hEdges hFlags ?_
        exact hs

theorem State.pulseWritten_keeps {s : State} {k : Nat} {modeWritten : Bool} : Kept159 s (State.pulseWritten s k modeWritten) :=
  .of (State.pulseWritten_outside rfl rfl rfl rfl rfl rfl rfl rfl rfl rfl)

theorem State.pulseWritten_rd {s : State} {k : Nat} {modeWritten : Bool} {kk : Nat} (hkey : Nums63.contains (Key.fam kk) = false) : (State.pulseWritten s k modeWritten).rd kk = s.rd kk :=
  State.rd_of_outside (M := .but Nums63) (State.pulseWritten_outside rfl rfl rfl .self rfl rfl rfl rfl rfl rfl) rfl hkey

theorem State.pulseBack_outside {M : Touch} {r : State} {s : State} {k : Nat} (hPins : M.pins = true) (hPulses : M.pulses = true) (hEdges : M.edges = true) (hs : s.outside M = r) :
    (State.pulseBack s k).outside M = r := by
  unfold State.pulseBack
  extract_lets +onlyGivenNames -merge -underBinder x0
  try clear_value x0
  split
  · refine ite_outside ?_ ?_
    · refine State.setPulse_outside hPins hPulses hEdges ?_
      exact hs
    · exact hs
  · exact hs

theorem State.pulseBack_keeps {s : State} {k : Nat} : Kept158 s (State.pulseBack s k) :=
  .of (State.pulseBack_outside rfl rfl rfl rfl)

theorem State.pulseFire_outside {M : Touch} {r : State} {s : State} {k : Nat} (hPins : M.pins = true) (hPulses : M.pulses = true) (hEdges : M.edges = true) (hs : s.outside M = r) :
    (State.pulseFire s k).outside M = r := by
  unfold State.pulseFire
  extract_lets +onlyGivenNames -merge -underBinder x0
  try clear_value x0
  split
  · extract_lets +onlyGivenNames -merge -underBinder x1
    try clear_value x1
    extract_lets +onlyGivenNames -merge -underBinder x2
    try clear_value x2
    refine ite_outside ?_ ?_
    · exact hs
    · refine State.setPulse_outside hPins hPulses hEdges ?_
      exact hs
  · exact hs

theorem State.pulseFire_keeps {s : State} {k : Nat} : Kept158 s (State.pulseFire s k) :=
  .of (State.pulseFire_outside rfl rfl rfl rfl)

theorem State.stepTo_outside {M : Touch} {r : State} {s : State} {ns : Nat} {frac : Nat} (hPins : M.pins = true) (hClock : M.clock = true) (hPulses : M.pulses = true) (hEdges : M.edges = true) (hs : s.outside M = r) :
    (State.stepTo s ns frac).outside M = r := by
  unfold State.stepTo
  extract_lets +onlyGivenNames -merge -underBinder x0
  try clear_value x0
  extract_lets +onlyGivenNames -merge -underBinder x1
  try clear_value x1
  extract_lets +onlyGivenNames -merge -underBinder x2
  try clear_value x2
  extract_lets +onlyGivenNames -merge -underBinder x3
  try clear_value x3
  extract_lets +onlyGivenNames -merge -underBinder x4
  have q5 : State.outside M x4 = r := by
    unfold x4
    refine Eq.trans (State.outside_clock (h0 := hClock) ..) ?_
    exact hs
  try clear_value x4
  refine State.each_outside ?_ ?_
  · intro t6 q7 z8
    refine ite_outside ?_ ?_
    · refine State.pulseBack_outside hPins hPulses hEdges ?_
      exact q7
    · refine State.pulseFire_outside hPins hPulses hEdges ?_
      exact q7
  · exact q5

theorem State.stepTo_keeps {s : State} {ns : Nat} {frac : Nat} : Kept160 s (State.stepTo s ns frac) :=
  .of (State.stepTo_outside rfl rfl rfl rfl rfl)

theorem State.stepBy_outside {M : Touch} {r : State} {s : State} {delta : Int} (hPins : M.pins = true) (hClock : M.clock = true) (hPulses : M.pulses = true) (hEdges : M.edges = true) (hs : s.outside M = r) :
    (State.stepBy s delta).outside M = r := by
  unfold State.stepBy
  refine State.stepTo_outside hPins hClock hPulses hEdges ?_
  exact hs

theorem State.stepBy_keeps {s : State} {delta : Int} : Kept160 s (State.stepBy s delta) :=
  .of (State.stepBy_outside rfl rfl rfl rfl rfl)

theorem State.timeStep_outside {M : Touch} {r : State} {s : State} {delta : Int} (hPins : M.pins = true) (hClock : M.clock = true) (hPulses : M.pulses = true) (hDict : M.dict = true) (hNums : M.Nums Nums75) (hResults : M.results = true) (hLogs : M.logs = true) (hStraps : M.straps = true) (hJournal : M.journal = true) (hEdges : M.edges = true) (hFlags : M.flags = true) (hs : s.outside M = r) :
    (State.timeStep s delta).outside M = r := by
  unfold State.timeStep
  extract_lets +onlyGivenNames -merge -underBinder x0
  have q1 : State.outside M x0 = r := by
    unfold x0
    refine State.resBegin_outside hResults ?_
    exact hs
  try clear_value x0
  refine ite_outside ?_ ?_
  · refine State.resEnd_outside hResults ?_
    exact q1
  · refine ite_outside ?_ ?_
    · refine State.resEnd_outside hResults ?_
      refine State.post_outside hDict (hNums.sub rfl) hLogs hStraps hJournal hEdges hFlags ?_
      refine State.bump_outside (hNums.at Key.fam_jumpRefused rfl) ?_
      exact q1
    · refine State.resEnd_outside hResults ?_
      refine State.stepBy_outside hPins hClock hPulses hEdges ?_
      exact q1

theorem State.timeStep_keeps {s : State} {delta : Int} : Kept161 s (State.timeStep s delta) :=
  .of (State.timeStep_outside rfl rfl rfl rfl rfl rfl rfl rfl rfl rfl rfl rfl)

theorem State.timeStep_rd {s : State} {delta : Int} {kk : Nat} (hkey : Nums75.contains (Key.fam kk) = false) : (State.timeStep s delta).rd kk = s.rd kk :=
  State.rd_of_outside (M := .but Nums75) (State.timeStep_outside rfl rfl rfl rfl .self rfl rfl rfl rfl rfl rfl rfl) rfl hkey

theorem State.timeSetTo_outside {M : Touch} {r : State} {s : State} {t : Time80} (hPins : M.pins = true) (hClock : M.clock = true) (hPulses : M.pulses = true) (hResults : M.results = true) (hEdges : M.edges = true) (hs : s.outside M = r) :
    (State.timeSetTo s t).outside M = r := by
  unfold State.timeSetTo
  refine ite_outside ?_ ?_
  · refine State.resEnd_outside hResults ?_
    refine State.stepTo_outside hPins hClock hPulses hEdges ?_
    refine State.resBegin_outside hResults ?_
    exact hs
  · exact hs

theorem State.timeSetTo_keeps {s : State} {t : Time80} : Kept162 s (State.timeSetTo s t) :=
  .of (State.timeSetTo_outside rfl rfl rfl rfl rfl rfl)

theorem State.lockFrom_outside {M : Touch} {r : State} {s : State} {st : Nat} (hClock : M.clock = true) (hs : s.outside M = r) :
    (State.lockFrom s st).outside M = r := by
  unfold State.lockFrom
  extract_lets +onlyGivenNames -merge -underBinder x0
  try clear_value x0
  refine Eq.trans (State.outside_clock (h0 := hClock) ..) ?_
  exact hs

theorem State.lockFrom_keeps {s : State} {st : Nat} : Kept156 s (State.lockFrom s st) :=
  .of (State.lockFrom_outside rfl rfl)

theorem State.sampleFree_outside {M : Touch} {r : State} {s : State} {off : Int} {newGen : Bool} {ptp : Bool} (hPins : M.pins = true) (hClock : M.clock = true) (hPulses : M.pulses = true) (hEdges : M.edges = true) (hs : s.outside M = r) :
    (State.sampleFree s off newGen ptp).outside M = r := by
  unfold State.sampleFree
  extract_lets +onlyGivenNames -merge -underBinder x0
  try clear_value x0
  extract_lets +onlyGivenNames -merge -underBinder x1
  try clear_value x1
  extract_lets +onlyGivenNames -merge -underBinder x2
  try clear_value x2
  extract_lets +onlyGivenNames -merge -underBinder x3
  have q4 : State.outside M x3 = r := by
    unfold x3
    refine State.accepted_outside hClock ?_
    refine Eq.trans (State.outside_clock (h0 := hClock) ..) ?_
    exact hs
  try clear_value x3
  extract_lets +onlyGivenNames -merge -underBinder x5
  have q6 : State.outside M x5 = r := by
    unfold x5
    refine ite_outside ?_ ?_
    · refine State.stepBy_outside hPins hClock hPulses hEdges ?_
      exact q4
    · exact q4
  try clear_value x5
  refine ite_outside ?_ ?_
  · refine State.lockFrom_outside hClock ?_
    exact q6
  · exact q6

theorem State.sampleFree_keeps {s : State} {off : Int} {newGen : Bool} {ptp : Bool} : Kept160 s (State.sampleFree s off newGen ptp) :=
  .of (State.sampleFree_outside rfl rfl rfl rfl rfl)

theorem State.sampleRefused_outside {M : Touch} {r : State} {s : State} {off : Int} {ptp : Bool} (hClock : M.clock = true) (hDict : M.dict = true) (hNums : M.Nums Nums75) (hLogs : M.logs = true) (hStraps : M.straps = true) (hJournal : M.journal = true) (hEdges : M.edges = true) (hFlags : M.flags = true) (hs : s.outside M = r) :
    (State.sampleRefused s off ptp).outside M = r := by
  unfold State.sampleRefused
  extract_lets +onlyGivenNames -merge -underBinder x0
  have q1 : State.outside M x0 = r := by
    unfold x0
    refine State.bump_outside (hNums.at Key.fam_jumpRefused rfl) ?_
    exact hs
  try clear_value x0
  extract_lets +onlyGivenNames -merge -underBinder x2
  try clear_value x2
  extract_lets +onlyGivenNames -merge -underBinder x3
  have q4 : State.outside M x3 = r := by
    unfold x3
    refine ite_outside ?_ ?_
    · exact q1
    · refine Eq.trans (State.outside_clock (h0 := hClock) ..) ?_
      exact q1
  try clear_value x3
  extract_lets +onlyGivenNames -merge -underBinder x5
  try clear_value x5
  refine ite_outside ?_ ?_
  · exact q4
  · refine State.post_outside hDict (hNums.sub rfl) hLogs hStraps hJournal hEdges hFlags ?_
    refine Eq.trans (State.outside_clock (h0 := hClock) ..) ?_
    exact q4

theorem State.sampleRefused_keeps {s : State} {off : Int} {ptp : Bool} : Kept163 s (State.sampleRefused s off ptp) :=
  .of (State.sampleRefused_outside rfl rfl rfl rfl rfl rfl rfl rfl rfl)

theorem State.sampleRefused_rd {s : State} {off : Int} {ptp : Bool} {kk : Nat} (hkey : Nums75.contains (Key.fam kk) = false) : (State.sampleRefused s off ptp).rd kk = s.rd kk :=
  State.rd_of_outside (M := .but Nums75) (State.sampleRefused_outside rfl rfl .self rfl rfl rfl rfl rfl rfl) rfl hkey

theorem State.servo_outside {M : Touch} {r : State} {s : State} {off : Int} (hClock : M.clock = true) (hs : s.outside M = r) :
    (State.servo s off).outside M = r := by
  unfold State.servo
  extract_lets +onlyGivenNames -merge -underBinder x0
  try clear_value x0
  extract_lets +onlyGivenNames -merge -underBinder x1
  try clear_value x1
  extract_lets +onlyGivenNames -merge -underBinder x2
  try clear_value x2
  refine Eq.trans (State.outside_clock (h0 := hClock) ..) ?_
  exact hs

theorem State.servo_keeps {s : State} {off : Int} : Kept156 s (State.servo s off) :=
  .of (State.servo_outside rfl rfl)

theorem State.sampleRow_outside {M : Touch} {r : State} {s : State} {off : Int} {newGen : Bool} {ptp : Bool} (hPins : M.pins = true) (hClock : M.clock = true) (hPulses : M.pulses = true) (hDict : M.dict = true) (hNums : M.Nums Nums75) (hLogs : M.logs = true) (hStraps : M.straps = true) (hJournal : M.journal = true) (hEdges : M.edges = true) (hFlags : M.flags = true) (hs : s.outside M = r) :
    (State.sampleRow s off newGen ptp).outside M = r := by
  unfold State.sampleRow
  extract_lets +onlyGivenNames -merge -underBinder x0
  have q1 : State.outside M x0 = r := by
    unfold x0
    refine State.accepted_outside hClock ?_
    exact hs
  try clear_value x0
  refine ite_outside ?_ ?_
  · refine State.sampleFree_outside hPins hClock hPulses hEdges ?_
    exact hs
  · refine ite_outside ?_ ?_
    · refine State.accepted_outside hClock ?_
      refine State.stepBy_outside hPins hClock hPulses hEdges ?_
      exact hs
    · refine ite_outside ?_ ?_
      · refine State.sampleRefused_outside hClock hDict hNums hLogs hStraps hJournal hEdges hFlags ?_
        exact hs
      · refine ite_outside ?_ ?_
        · refine State.stepBy_outside hPins hClock hPulses hEdges ?_
          exact q1
        · refine State.servo_outside hClock ?_
          exact q1

theorem State.sampleRow_keeps {s : State} {off : Int} {newGen : Bool} {ptp : Bool} : Kept164 s (State.sampleRow s off newGen ptp) :=
  .of (State.sampleRow_outside rfl rfl rfl rfl rfl rfl rfl rfl rfl rfl rfl)

theorem State.sampleRow_rd {s : State} {off : Int} {newGen : Bool} {ptp : Bool} {kk : Nat} (hkey : Nums75.contains (Key.fam kk) = false) : (State.sampleRow s off newGen ptp).rd kk = s.rd kk :=
  State.rd_of_outside (M := .but Nums75) (State.sampleRow_outside rfl rfl rfl rfl .self rfl rfl rfl rfl rfl rfl) rfl hkey

theorem State.sample_outside {M : Touch} {r : State} {s : State} {off : Int} {newGen : Bool} {ptp : Bool} (hPins : M.pins = true) (hClock : M.clock = true) (hPulses : M.pulses = true) (hDict : M.dict = true) (hNums : M.Nums Nums93) (hLogs : M.logs = true) (hStraps : M.straps = true) (hJournal : M.journal = true) (hEdges : M.edges = true) (hFlags : M.flags = true) (hs : s.outside M = r) :
    (State.sample s off newGen ptp).outside M = r := by
  unfold State.sample
  extract_lets +onlyGivenNames -merge -underBinder x0
  try clear_value x0
  extract_lets +onlyGivenNames -merge -underBinder x1
  try clear_value x1
  refine State.timeEdge_outside hEdges ?_
  refine State.sampleRow_outside hPins hClock hPulses hDict (hNums.sub rfl) hLogs hStraps hJournal hEdges hFlags ?_
  refine State.wr_outside (hNums.at Key.fam_timeOffsetNs rfl) ?_
  exact hs

theorem State.sample_keeps {s : State} {off : Int} {newGen : Bool} {ptp : Bool} : Kept164 s (State.sample s off newGen ptp) :=
  .of (State.sample_outside rfl rfl rfl rfl rfl rfl rfl rfl rfl rfl rfl)

theorem State.sample_rd {s : State} {off : Int} {newGen : Bool} {ptp : Bool} {kk : Nat} (hkey : Nums93.contains (Key.fam kk) = false) : (State.sample s off newGen ptp).rd kk = s.rd kk :=
  State.rd_of_outside (M := .but Nums93) (State.sample_outside rfl rfl rfl rfl .self rfl rfl rfl rfl rfl rfl) rfl hkey

theorem State.holdover_outside {M : Touch} {r : State} {s : State} (hClock : M.clock = true) (hDict : M.dict = true) (hNums : M.Nums Nums2) (hLogs : M.logs = true) (hStraps : M.straps = true) (hJournal : M.journal = true) (hEdges : M.edges = true) (hFlags : M.flags = true) (hs : s.outside M = r) :
    (State.holdover s).outside M = r := by
  unfold State.holdover
  extract_lets +onlyGivenNames -merge -underBinder x0
  try clear_value x0
  extract_lets +onlyGivenNames -merge -underBinder x1
  try clear_value x1
  extract_lets +onlyGivenNames -merge -underBinder x2
  have q3 : State.outside M x2 = r := by
    unfold x2
    refine State.timeEdge_outside hEdges ?_
    refine Eq.trans (State.outside_clock (h0 := hClock) ..) ?_
    exact hs
  try clear_value x2
  refine State.post_outside hDict hNums hLogs hStraps hJournal hEdges hFlags ?_
  exact q3

theorem State.holdover_keeps {s : State} : Kept163 s (State.holdover s) :=
  .of (State.holdover_outside rfl rfl rfl rfl rfl rfl rfl rfl rfl)

theorem State.holdover_rd {s : State} {kk : Nat} (hkey : Nums2.contains (Key.fam kk) = false) : (State.holdover s).rd kk = s.rd kk :=
  State.rd_of_outside (M := .but Nums2) (State.holdover_outside rfl rfl .self rfl rfl rfl rfl rfl rfl) rfl hkey

theorem State.ptpSample_outside {M : Touch} {r : State} {s : State} {x : PtpExchange} (hPins : M.pins = true) (hClock : M.clock = true) (hPulses : M.pulses = true) (hDict : M.dict = true) (hNums : M.Nums Nums93) (hLogs : M.logs = true) (hStraps : M.straps = true) (hJournal : M.journal = true) (hEdges : M.edges = true) (hFlags : M.flags = true) (hs : s.outside M = r) :
    (State.ptpSample s x).outside M = r := by
  unfold State.ptpSample
  extract_lets +onlyGivenNames -merge -underBinder x0
  try clear_value x0
  refine ite_outside ?_ ?_
  · refine State.sample_outside hPins hClock hPulses hDict hNums hLogs hStraps hJournal hEdges hFlags ?_
    refine Eq.trans (State.outside_clock (h0 := hClock) ..) ?_
    exact hs
  · exact hs

theorem State.ptpSample_keeps {s : State} {x : PtpExchange} : Kept164 s (State.ptpSample s x) :=
  .of (State.ptpSample_outside rfl rfl rfl rfl rfl rfl rfl rfl rfl rfl rfl)

theorem State.ptpSample_rd {s : State} {x : PtpExchange} {kk : Nat} (hkey : Nums93.contains (Key.fam kk) = false) : (State.ptpSample s x).rd kk = s.rd kk :=
  State.rd_of_outside (M := .but Nums93) (State.ptpSample_outside rfl rfl rfl rfl .self rfl rfl rfl rfl rfl rfl) rfl hkey

theorem State.pulseFall_outside {M : Touch} {r : State} {s : State} {k : Nat} (hPins : M.pins = true) (hPulses : M.pulses = true) (hDict : M.dict = true) (hNums : M.Nums Nums63) (hLogs : M.logs = true) (hStraps : M.straps = true) (hJournal : M.journal = true) (hEdges : M.edges = true) (hFlags : M.flags = true) (hs : s.outside M = r) :
    (State.pulseFall s k).outside M = r := by
  unfold State.pulseFall
  extract_lets +onlyGivenNames -merge -underBinder x0
  try clear_value x0
  extract_lets +onlyGivenNames -merge -underBinder x1
  try clear_value x1
  extract_lets +onlyGivenNames -merge -underBinder x2
  try clear_value x2
  refine ite_outside ?_ ?_
  · refine State.pulseArm_outside hPins hPulses hDict hNums hLogs hStraps hJournal hEdges hFlags ?_
    refine State.setPulse_outside hPins hPulses hEdges ?_
    exact hs
  · refine ite_outside ?_ ?_
    · refine State.setPulse_outside hPins hPulses hEdges ?_
      refine State.wr_outside (hNums.at Key.fam_tpoMode rfl) ?_
      exact hs
    · refine ite_outside ?_ ?_
      · refine State.pulseArm_outside hPins hPulses hDict hNums hLogs hStraps hJournal hEdges hFlags ?_
        refine State.setPulse_outside hPins hPulses hEdges ?_
        exact hs
      · refine State.setPulse_outside hPins hPulses hEdges ?_
        exact hs

theorem State.pulseFall_keeps {s : State} {k : Nat} : Kept159 s (State.pulseFall s k) :=
  .of (State.pulseFall_outside rfl rfl rfl rfl rfl rfl rfl rfl rfl rfl)

theorem State.pulseFall_rd {s : State} {k : Nat} {kk : Nat} (hkey : Nums63.contains (Key.fam kk) = false) : (State.pulseFall s k).rd kk = s.rd kk :=
  State.rd_of_outside (M := .but Nums63) (State.pulseFall_outside rfl rfl rfl .self rfl rfl rfl rfl rfl rfl) rfl hkey

theorem execTpoFall_outside {M : Touch} {r : State} {k : Fin 4} {dt : Nat} {s : State} (hPins : M.pins = true) (hClock : M.clock = true) (hPulses : M.pulses = true) (hDict : M.dict = true) (hNums : M.Nums Nums63) (hLogs : M.logs = true) (hVbat : M.vbat = true) (hStraps : M.straps = true) (hJournal : M.journal = true) (hEdges : M.edges = true) (hFlags : M.flags = true) (hs : s.outside M = r) :
    NextOutside M r (execTpoFall k dt s) := by
  unfold execTpoFall
  extract_lets +onlyGivenNames -merge -underBinder x0
  have q1 : State.outside M x0 = r := by
    unfold x0
    refine State.advance_outside hClock hVbat ?_
    exact hs
  try clear_value x0
  refine next_outside ?_
  split
  · refine ite_outside ?_ ?_
    · refine State.pulseFall_outside hPins hPulses hDict hNums hLogs hStraps hJournal hEdges hFlags ?_
      exact q1
    · exact q1
  · exact q1

theorem execTpoRise_outside {M : Touch} {r : State} {k : Fin 4} {dt : Nat} {s : State} (hPins : M.pins = true) (hClock : M.clock = true) (hPulses : M.pulses = true) (hVbat : M.vbat = true) (hEdges : M.edges = true) (hs : s.outside M = r) :
    NextOutside M r (execTpoRise k dt s) := by
  unfold execTpoRise
  refine next_outside ?_
  refine State.pulseFire_outside hPins hPulses hEdges ?_
  refine State.advance_outside hClock hVbat ?_
  exact hs

theorem execTimeSnapshot_outside {M : Touch} {r : State} {dt : Nat} {s : State} (hClock : M.clock = true) (hVbat : M.vbat = true) (hHost : M.host = true) (hs : s.outside M = r) :
    NextOutside M r (execTimeSnapshot dt s) := by
  unfold execTimeSnapshot
  extract_lets +onlyGivenNames -merge -underBinder x0
  have q1 : State.outside M x0 = r := by
    unfold x0
    refine State.advance_outside hClock hVbat ?_
    exact hs
  try clear_value x0
  extract_lets +onlyGivenNames -merge -underBinder x2
  unfold x2
  clear x2
  refine next_outside ?_
  refine Eq.trans (State.outside_host_host (h0 := hHost) ..) ?_
  exact q1

theorem execTpoArm_outside {M : Touch} {r : State} {k : Fin 4} {mode : Fin 3} {s : State} (hPins : M.pins = true) (hPulses : M.pulses = true) (hDict : M.dict = true) (hNums : M.Nums Nums63) (hLogs : M.logs = true) (hStraps : M.straps = true) (hJournal : M.journal = true) (hEdges : M.edges = true) (hFlags : M.flags = true) (hs : s.outside M = r) :
    NextOutside M r (execTpoArm k mode s) := by
  unfold execTpoArm
  refine next_outside ?_
  refine State.pulseWritten_outside hPins hPulses hDict hNums hLogs hStraps hJournal hEdges hFlags ?_
  refine State.wr_outside (hNums.at Key.fam_tpoMode rfl) ?_
  exact hs

theorem execRtcWrite_outside {M : Touch} {r : State} {dt : Nat} {s : State} (hClock : M.clock = true) (hVbat : M.vbat = true) (hs : s.outside M = r) :
    NextOutside M r (execRtcWrite dt s) := by
  unfold execRtcWrite
  refine next_outside ?_
  refine State.advance_outside hClock hVbat ?_
  exact hs

theorem execHoldoverTimeout_outside {M : Touch} {r : State} {dt : Nat} {s : State} (hClock : M.clock = true) (hDict : M.dict = true) (hNums : M.Nums Nums2) (hLogs : M.logs = true) (hVbat : M.vbat = true) (hStraps : M.straps = true) (hJournal : M.journal = true) (hEdges : M.edges = true) (hFlags : M.flags = true) (hs : s.outside M = r) :
    NextOutside M r (execHoldoverTimeout dt s) := by
  unfold execHoldoverTimeout
  extract_lets +onlyGivenNames -merge -underBinder x0
  have q1 : State.outside M x0 = r := by
    unfold x0
    refine State.advance_outside hClock hVbat ?_
    exact hs
  try clear_value x0
  extract_lets +onlyGivenNames -merge -underBinder x2
  try clear_value x2
  extract_lets +onlyGivenNames -merge -underBinder x3
  try clear_value x3
  refine next_outside ?_
  refine ite_outside ?_ ?_
  · refine State.holdover_outside hClock hDict hNums hLogs hStraps hJournal hEdges hFlags ?_
    exact q1
  · exact q1

theorem execTpoParamWrite_outside {M : Touch} {r : State} {k : Fin 4} {start : Time80} {periodNs : Nat} {widthNs : Nat} {s : State} (hPins : M.pins = true) (hPulses : M.pulses = true) (hDict : M.dict = true) (hNums : M.Nums Nums176) (hLogs : M.logs = true) (hStraps : M.straps = true) (hJournal : M.journal = true) (hEdges : M.edges = true) (hFlags : M.flags = true) (hs : s.outside M = r) :
    NextOutside M r (execTpoParamWrite k start periodNs widthNs s) := by
  unfold execTpoParamWrite
  extract_lets +onlyGivenNames -merge -underBinder x0
  try clear_value x0
  extract_lets +onlyGivenNames -merge -underBinder x1
  try clear_value x1
  extract_lets +onlyGivenNames -merge -underBinder x2
  have q3 : State.outside M x2 = r := by
    unfold x2
    refine State.wr_outside (hNums.at Key.fam_tpoWidthNs rfl) ?_
    refine State.wr_outside (hNums.at Key.fam_tpoPeriodNs rfl) ?_
    refine State.wr_outside (hNums.at Key.fam_tpoStart rfl) ?_
    exact hs
  try clear_value x2
  refine ite_next_outside ?_ ?_
  · refine next_outside ?_
    exact hs
  · refine next_outside ?_
    refine State.pulseWritten_outside hPins hPulses hDict (hNums.sub rfl) hLogs hStraps hJournal hEdges hFlags ?_
    exact q3

end Sys2Proof.Machine
end

