-- ==== Sys2Proof/Laws/Frame/Tree.lean ====
section
/-! SUPPORT. What the operations of Machine/Tree.lean leave alone. -/

namespace Sys2Proof.Machine

theorem State.treeNote_outside {M : Touch} {r : State} {s : State} {n : TreeNote} (hTree : M.tree = true) (hs : s.outside M = r) :
    (State.treeNote s n).outside M = r := by
  unfold State.treeNote
  extract_lets +onlyGivenNames -merge -underBinder x0
  try clear_value x0
  refine Eq.trans (State.outside_tree (h0 := hTree) ..) ?_
  exact hs

theorem State.treeNote_keeps {s : State} {n : TreeNote} : Kept165 s (State.treeNote s n) :=
  .of (State.treeNote_outside rfl rfl)

theorem State.setBank_outside {M : Touch} {r : State} {s : State} {b : Nat} {x : Bank} (hTree : M.tree = true) (hs : s.outside M = r) :
    (State.setBank s b x).outside M = r := by
  unfold State.setBank
  extract_lets +onlyGivenNames -merge -underBinder x0
  try clear_value x0
  extract_lets +onlyGivenNames -merge -underBinder x1
  try clear_value x1
  refine ite_outside ?_ ?_
  · refine Eq.trans (State.outside_tree (h0 := hTree) ..) ?_
    exact hs
  · refine Eq.trans (State.outside_tree (h0 := hTree) ..) ?_
    exact hs

theorem State.setBank_keeps {s : State} {b : Nat} {x : Bank} : Kept165 s (State.setBank s b x) :=
  .of (State.setBank_outside rfl rfl)

theorem State.endTrial_outside {M : Touch} {r : State} {s : State} {b : Nat} (hNums : M.Nums Nums43) (hTree : M.tree = true) (hs : s.outside M = r) :
    (State.endTrial s b).outside M = r := by
  unfold State.endTrial
  extract_lets +onlyGivenNames -merge -underBinder x0
  try clear_value x0
  refine ite_outside ?_ ?_
  · refine State.treeNote_outside hTree ?_
    refine State.bump_outside (hNums.at Key.fam_treeFallbacks rfl) ?_
    refine State.setBank_outside hTree ?_
    exact hs
  · exact hs

theorem State.endTrial_keeps {s : State} {b : Nat} : Kept166 s (State.endTrial s b) :=
  .of (State.endTrial_outside rfl rfl rfl)

theorem State.endTrial_rd {s : State} {b : Nat} {kk : Nat} (hkey : Nums43.contains (Key.fam kk) = false) : (State.endTrial s b).rd kk = s.rd kk :=
  State.rd_of_outside (M := .but Nums43) (State.endTrial_outside .self rfl rfl) rfl hkey

theorem State.runNow_outside {M : Touch} {r : State} {s : State} {b : Nat} (hNums : M.Nums Nums44) (hTree : M.tree = true) (hs : s.outside M = r) :
    (State.runNow s b).outside M = r := by
  unfold State.runNow
  extract_lets +onlyGivenNames -merge -underBinder x0
  have q1 : State.outside M x0 = r := by
    unfold x0
    refine State.wr_outside (hNums.at Key.fam_treeActiveBank rfl) ?_
    exact hs
  try clear_value x0
  extract_lets +onlyGivenNames -merge -underBinder x2
  try clear_value x2
  refine Eq.trans (State.outside_tree (h0 := hTree) ..) ?_
  exact q1

theorem State.runNow_keeps {s : State} {b : Nat} : Kept166 s (State.runNow s b) :=
  .of (State.runNow_outside rfl rfl rfl)

theorem State.runNow_rd {s : State} {b : Nat} {kk : Nat} (hkey : Nums44.contains (Key.fam kk) = false) : (State.runNow s b).rd kk = s.rd kk :=
  State.rd_of_outside (M := .but Nums44) (State.runNow_outside .self rfl rfl) rfl hkey

theorem State.rejectBank_outside {M : Touch} {r : State} {s : State} {b : Nat} (hTree : M.tree = true) (hs : s.outside M = r) :
    (State.rejectBank s b).outside M = r := by
  unfold State.rejectBank
  extract_lets +onlyGivenNames -merge -underBinder x0
  try clear_value x0
  refine State.treeNote_outside hTree ?_
  refine State.setBank_outside hTree ?_
  exact hs

theorem State.rejectBank_keeps {s : State} {b : Nat} : Kept165 s (State.rejectBank s b) :=
  .of (State.rejectBank_outside rfl rfl)

theorem State.trySeated_outside {M : Touch} {r : State} {s : State} {l : List Nat} (hNums : M.Nums Nums44) (hTree : M.tree = true) (hs : s.outside M = r) :
    (State.trySeated s l).outside M = r := by
  induction l generalizing s with
  | nil => exact Eq.trans (State.outside_tree (h0 := hTree) ..) hs
  | cons b l ih =>
    unfold State.trySeated
    refine ite_outside ?_ ?_
    · refine State.runNow_outside hNums hTree ?_
      exact hs
    · refine ih ?_
      refine State.rejectBank_outside hTree ?_
      exact hs

theorem State.trySeated_keeps {s : State} {l : List Nat} : Kept166 s (State.trySeated s l) :=
  .of (State.trySeated_outside rfl rfl rfl)

theorem State.trySeated_rd {s : State} {l : List Nat} {kk : Nat} (hkey : Nums44.contains (Key.fam kk) = false) : (State.trySeated s l).rd kk = s.rd kk :=
  State.rd_of_outside (M := .but Nums44) (State.trySeated_outside .self rfl rfl) rfl hkey

theorem State.treeSelect_outside {M : Touch} {r : State} {s : State} (hNums : M.Nums Nums45) (hTree : M.tree = true) (hs : s.outside M = r) :
    (State.treeSelect s).outside M = r := by
  unfold State.treeSelect
  extract_lets +onlyGivenNames -merge -underBinder x0
  try clear_value x0
  extract_lets +onlyGivenNames -merge -underBinder x1
  have q2 : State.outside M x1 = r := by
    unfold x1
    refine Eq.trans (State.outside_tree (h0 := hTree) ..) ?_
    exact hs
  try clear_value x1
  extract_lets +onlyGivenNames -merge -underBinder x3
  have q4 : State.outside M x3 = r := by
    unfold x3
    refine State.endTrial_outside (hNums.sub rfl) hTree ?_
    refine State.endTrial_outside (hNums.sub rfl) hTree ?_
    exact q2
  try clear_value x3
  split
  · extract_lets +onlyGivenNames -merge -underBinder x5
    try clear_value x5
    extract_lets +onlyGivenNames -merge -underBinder x6
    have q7 : State.outside M x6 = r := by
      unfold x6
      refine State.rejectBank_outside hTree ?_
      exact q4
    try clear_value x6
    refine ite_outside ?_ ?_
    · refine State.runNow_outside (hNums.sub rfl) hTree ?_
      refine State.setBank_outside hTree ?_
      exact q4
    · refine State.trySeated_outside (hNums.sub rfl) hTree ?_
      exact q7
  · refine State.trySeated_outside (hNums.sub rfl) hTree ?_
    exact q4

theorem State.treeSelect_keeps {s : State} : Kept166 s (State.treeSelect s) :=
  .of (State.treeSelect_outside rfl rfl rfl)

theorem State.treeSelect_rd {s : State} {kk : Nat} (hkey : Nums45.contains (Key.fam kk) = false) : (State.treeSelect s).rd kk = s.rd kk :=
  State.rd_of_outside (M := .but Nums45) (State.treeSelect_outside .self rfl rfl) rfl hkey

theorem State.treeBlock_outside {M : Touch} {r : State} {s : State} {off : Nat} {bs : Bytes} (hTree : M.tree = true) (hs : s.outside M = r) :
    (State.treeBlock s off bs).outside M = r := by
  unfold State.treeBlock
  extract_lets +onlyGivenNames -merge -underBinder x0
  try clear_value x0
  extract_lets +onlyGivenNames -merge -underBinder x1
  try clear_value x1
  refine State.setBank_outside hTree ?_
  exact hs

theorem State.treeBlock_keeps {s : State} {off : Nat} {bs : Bytes} : Kept165 s (State.treeBlock s off bs) :=
  .of (State.treeBlock_outside rfl rfl)

theorem State.treePost_outside {M : Touch} {r : State} {s : State} {c : Err} {arg : Nat} {arg2 : Nat} (hDict : M.dict = true) (hNums : M.Nums Nums2) (hLogs : M.logs = true) (hStraps : M.straps = true) (hJournal : M.journal = true) (hEdges : M.edges = true) (hFlags : M.flags = true) (hs : s.outside M = r) :
    (State.treePost s c arg arg2).outside M = r := by
  unfold State.treePost
  refine State.post_outside hDict hNums hLogs hStraps hJournal hEdges hFlags ?_
  exact hs

theorem State.treePost_keeps {s : State} {c : Err} {arg : Nat} {arg2 : Nat} : Kept8 s (State.treePost s c arg arg2) :=
  .of (State.treePost_outside rfl rfl rfl rfl rfl rfl rfl rfl)

theorem State.treePost_rd {s : State} {c : Err} {arg : Nat} {arg2 : Nat} {kk : Nat} (hkey : Nums2.contains (Key.fam kk) = false) : (State.treePost s c arg arg2).rd kk = s.rd kk :=
  State.rd_of_outside (M := .but Nums2) (State.treePost_outside rfl .self rfl rfl rfl rfl rfl rfl) rfl hkey

theorem State.treeLast_outside {M : Touch} {r : State} {s : State} {stop : Nat} (hDict : M.dict = true) (hNums : M.Nums Nums2) (hLogs : M.logs = true) (hStraps : M.straps = true) (hJournal : M.journal = true) (hTree : M.tree = true) (hEdges : M.edges = true) (hFlags : M.flags = true) (hs : s.outside M = r) :
    (State.treeLast s stop).1.outside M = r := by
  unfold State.treeLast
  extract_lets +onlyGivenNames -merge -underBinder x0
  try clear_value x0
  extract_lets +onlyGivenNames -merge -underBinder x1
  try clear_value x1
  refine ite_fst_outside ?_ ?_
  · refine fst_outside ?_
    refine State.treePost_outside hDict hNums hLogs hStraps hJournal hEdges hFlags ?_
    exact hs
  · refine ite_fst_outside ?_ ?_
    · refine fst_outside ?_
      refine State.treePost_outside hDict hNums hLogs hStraps hJournal hEdges hFlags ?_
      exact hs
    · refine fst_outside ?_
      refine State.setBank_outside hTree ?_
      exact hs

theorem State.treeLast_keeps {s : State} {stop : Nat} : Kept167 s (State.treeLast s stop).1 :=
  .of (State.treeLast_outside rfl rfl rfl rfl rfl rfl rfl rfl rfl)

theorem State.treeLast_rd {s : State} {stop : Nat} {kk : Nat} (hkey : Nums2.contains (Key.fam kk) = false) : (State.treeLast s stop).1.rd kk = s.rd kk :=
  State.rd_of_outside (M := .but Nums2) (State.treeLast_outside rfl .self rfl rfl rfl rfl rfl rfl rfl) rfl hkey

theorem State.treeFirst_outside {M : Touch} {r : State} {s : State} {h : Bytes} (hDict : M.dict = true) (hNums : M.Nums Nums2) (hLogs : M.logs = true) (hStraps : M.straps = true) (hJournal : M.journal = true) (hTree : M.tree = true) (hEdges : M.edges = true) (hFlags : M.flags = true) (hs : s.outside M = r) :
    (State.treeFirst s h).1.outside M = r := by
  unfold State.treeFirst
  split
  · refine fst_outside ?_
    refine State.treePost_outside hDict hNums hLogs hStraps hJournal hEdges hFlags ?_
    exact hs
  · extract_lets +onlyGivenNames -merge -underBinder x0
    try clear_value x0
    refine fst_outside ?_
    refine State.setBank_outside hTree ?_
    exact hs

theorem State.treeFirst_keeps {s : State} {h : Bytes} : Kept167 s (State.treeFirst s h).1 :=
  .of (State.treeFirst_outside rfl rfl rfl rfl rfl rfl rfl rfl rfl)

theorem State.treeFirst_rd {s : State} {h : Bytes} {kk : Nat} (hkey : Nums2.contains (Key.fam kk) = false) : (State.treeFirst s h).1.rd kk = s.rd kk :=
  State.rd_of_outside (M := .but Nums2) (State.treeFirst_outside rfl .self rfl rfl rfl rfl rfl rfl rfl) rfl hkey

theorem State.armSwitch_outside {M : Touch} {r : State} {s : State} (hResults : M.results = true) (hTree : M.tree = true) (hs : s.outside M = r) :
    (State.armSwitch s).outside M = r := by
  unfold State.armSwitch
  extract_lets +onlyGivenNames -merge -underBinder x0
  try clear_value x0
  extract_lets +onlyGivenNames -merge -underBinder x1
  try clear_value x1
  extract_lets +onlyGivenNames -merge -underBinder x2
  have q3 : State.outside M x2 = r := by
    unfold x2
    refine State.setBank_outside hTree ?_
    refine State.resBegin_outside hResults ?_
    exact hs
  try clear_value x2
  extract_lets +onlyGivenNames -merge -underBinder x4
  try clear_value x4
  refine Eq.trans (State.outside_tree (h0 := hTree) ..) ?_
  exact q3

theorem State.armSwitch_keeps {s : State} : Kept168 s (State.armSwitch s) :=
  .of (State.armSwitch_outside rfl rfl rfl)

theorem State.wipe_outside {M : Touch} {r : State} {s : State} {b : Nat} (hResults : M.results = true) (hTree : M.tree = true) (hs : s.outside M = r) :
    (State.wipe s b).outside M = r := by
  unfold State.wipe
  extract_lets +onlyGivenNames -merge -underBinder x0
  try clear_value x0
  extract_lets +onlyGivenNames -merge -underBinder x1
  try clear_value x1
  extract_lets +onlyGivenNames -merge -underBinder x2
  have q3 : State.outside M x2 = r := by
    unfold x2
    refine State.setBank_outside hTree ?_
    refine State.resBegin_outside hResults ?_
    exact hs
  try clear_value x2
  extract_lets +onlyGivenNames -merge -underBinder x4
  try clear_value x4
  refine ite_outside ?_ ?_
  · refine State.resEnd_outside hResults ?_
    exact hs
  · refine Eq.trans (State.outside_tree (h0 := hTree) ..) ?_
    exact q3

theorem State.wipe_keeps {s : State} {b : Nat} : Kept168 s (State.wipe s b) :=
  .of (State.wipe_outside rfl rfl rfl)

theorem State.seat_outside {M : Touch} {r : State} {s : State} (hDict : M.dict = true) (hNums : M.Nums Nums2) (hResults : M.results = true) (hLogs : M.logs = true) (hStraps : M.straps = true) (hJournal : M.journal = true) (hTree : M.tree = true) (hEdges : M.edges = true) (hFlags : M.flags = true) (hs : s.outside M = r) :
    (State.seat s).outside M = r := by
  unfold State.seat
  refine ite_outside ?_ ?_
  · exact hs
  · split
    · refine State.resEnd_outside hResults ?_
      exact hs
    · extract_lets +onlyGivenNames -merge -underBinder x0
      try clear_value x0
      extract_lets +onlyGivenNames -merge -underBinder x1
      try clear_value x1
      extract_lets +onlyGivenNames -merge -underBinder x2
      try clear_value x2
      extract_lets +onlyGivenNames -merge -underBinder x3
      have q4 : State.outside M x3 = r := by
        unfold x3
        refine State.setBank_outside hTree ?_
        exact hs
      try clear_value x3
      extract_lets +onlyGivenNames -merge -underBinder x5
      try clear_value x5
      extract_lets +onlyGivenNames -merge -underBinder x6
      have q7 : State.outside M x6 = r := by
        unfold x6
        refine Eq.trans (State.outside_tree (h0 := hTree) ..) ?_
        exact q4
      try clear_value x6
      refine State.resEnd_outside hResults ?_
      refine State.treePost_outside hDict hNums hLogs hStraps hJournal hEdges hFlags ?_
      exact q7

theorem State.seat_keeps {s : State} : Kept169 s (State.seat s) :=
  .of (State.seat_outside rfl rfl rfl rfl rfl rfl rfl rfl rfl rfl)

theorem State.seat_rd {s : State} {kk : Nat} (hkey : Nums2.contains (Key.fam kk) = false) : (State.seat s).rd kk = s.rd kk :=
  State.rd_of_outside (M := .but Nums2) (State.seat_outside rfl .self rfl rfl rfl rfl rfl rfl rfl rfl) rfl hkey

theorem State.treeUp_outside {M : Touch} {r : State} {s : State} (hDict : M.dict = true) (hNums : M.Nums Nums2) (hResults : M.results = true) (hLogs : M.logs = true) (hStraps : M.straps = true) (hJournal : M.journal = true) (hTree : M.tree = true) (hEdges : M.edges = true) (hFlags : M.flags = true) (hs : s.outside M = r) :
    (State.treeUp s).outside M = r := by
  unfold State.treeUp
  extract_lets +onlyGivenNames -merge -underBinder x0
  try clear_value x0
  extract_lets +onlyGivenNames -merge -underBinder x1
  try clear_value x1
  extract_lets +onlyGivenNames -merge -underBinder x2
  have q3 : State.outside M x2 = r := by
    unfold x2
    refine ite_outside ?_ ?_
    · refine Eq.trans (State.outside_tree (h0 := hTree) ..) ?_
      exact hs
    · exact hs
  try clear_value x2
  extract_lets +onlyGivenNames -merge -underBinder x4
  have q5 : State.outside M x4 = r := by
    unfold x4
    split
    · extract_lets +onlyGivenNames -merge -underBinder x6
      have q7 : State.outside M x6 = r := by
        unfold x6
        refine State.setRes_outside hResults ?_
        exact q3
      try clear_value x6
      extract_lets +onlyGivenNames -merge -underBinder x8
      have q9 : State.outside M x8 = r := by
        unfold x8
        refine State.resEnd_outside hResults ?_
        exact q7
      try clear_value x8
      extract_lets +onlyGivenNames -merge -underBinder x10
      try clear_value x10
      refine Eq.trans (State.outside_tree (h0 := hTree) ..) ?_
      exact q9
    · exact q3
  try clear_value x4
  extract_lets +onlyGivenNames -merge -underBinder x11
  try clear_value x11
  extract_lets +onlyGivenNames -merge -underBinder x12
  try clear_value x12
  extract_lets +onlyGivenNames -merge -underBinder x13
  have q14 : State.outside M x13 = r := by
    unfold x13
    refine ite_outside ?_ ?_
    · exact q5
    · refine Eq.trans (State.outside_tree (h0 := hTree) ..) ?_
      exact q5
  try clear_value x13
  refine State.each_outside ?_ ?_
  · intro t15 q16 z17
    split
    · refine State.treePost_outside hDict hNums hLogs hStraps hJournal hEdges hFlags ?_
      exact q16
    · refine State.treePost_outside hDict hNums hLogs hStraps hJournal hEdges hFlags ?_
      exact q16
  · exact q14

theorem State.treeUp_keeps {s : State} : Kept169 s (State.treeUp s) :=
  .of (State.treeUp_outside rfl rfl rfl rfl rfl rfl rfl rfl rfl rfl)

theorem State.treeUp_rd {s : State} {kk : Nat} (hkey : Nums2.contains (Key.fam kk) = false) : (State.treeUp s).rd kk = s.rd kk :=
  State.rd_of_outside (M := .but Nums2) (State.treeUp_outside rfl .self rfl rfl rfl rfl rfl rfl rfl rfl) rfl hkey

theorem execBankWipeDone_outside {M : Touch} {r : State} {s : State} (hResults : M.results = true) (hTree : M.tree = true) (hs : s.outside M = r) :
    NextOutside M r (execBankWipeDone s) := by
  unfold execBankWipeDone
  refine next_outside ?_
  split
  · exact hs
  · extract_lets +onlyGivenNames -merge -underBinder x0
    have q1 : State.outside M x0 = r := by
      unfold x0
      refine State.resEnd_outside hResults ?_
      exact hs
    try clear_value x0
    extract_lets +onlyGivenNames -merge -underBinder x2
    try clear_value x2
    refine Eq.trans (State.outside_tree (h0 := hTree) ..) ?_
    exact q1

theorem execBankWipe_outside {M : Touch} {r : State} {b : Fin 2} {s : State} (hResults : M.results = true) (hTree : M.tree = true) (hs : s.outside M = r) :
    NextOutside M r (execBankWipe b s) := by
  unfold execBankWipe
  refine next_outside ?_
  refine ite_outside ?_ ?_
  · exact hs
  · refine State.wipe_outside hResults hTree ?_
    exact hs

theorem execSeatOk_outside {M : Touch} {r : State} {s : State} (hDict : M.dict = true) (hNums : M.Nums Nums2) (hResults : M.results = true) (hLogs : M.logs = true) (hStraps : M.straps = true) (hJournal : M.journal = true) (hTree : M.tree = true) (hEdges : M.edges = true) (hFlags : M.flags = true) (hs : s.outside M = r) :
    NextOutside M r (execSeatOk s) := by
  unfold execSeatOk
  refine next_outside ?_
  refine ite_outside ?_ ?_
  · exact hs
  · refine State.seat_outside hDict hNums hResults hLogs hStraps hJournal hTree hEdges hFlags ?_
    exact hs

end Sys2Proof.Machine
end

