-- ==== Sys2Proof/Laws/Frame/Startup.lean ====
section
/-! SUPPORT. What the operations of Machine/Startup.lean leave alone. -/

namespace Sys2Proof.Machine

theorem State.radioWarm_outside {M : Touch} {r : State} {s : State} (hOut : M.out = true) (hPins : M.pins = true) (hDict : M.dict = true) (hNums : M.Nums Nums32) (hResults : M.results = true) (hLogs : M.logs = true) (hRadio : M.radio = true) (hPorts : M.ports = true) (hRxTiles : M.rxTiles = true) (hTxTiles : M.txTiles = true) (hRecs : M.recs = true) (hStraps : M.straps = true) (hJournal : M.journal = true) (hNodeQueues : M.nodeQueues = true) (hLacing : M.lacing = true) (hEdges : M.edges = true) (hFlags : M.flags = true) (hReports : M.reports = true) (hs : s.outside M = r) :
    (State.radioWarm s).outside M = r := by
  unfold State.radioWarm
  extract_lets +onlyGivenNames -merge -underBinder x0
  have q1 : State.outside M x0 = r := by
    unfold x0
    refine State.each_outside ?_ ?_
    · intro t2 q3 z4
      refine State.portStop_outside hOut hPins hDict hNums hResults hLogs hRadio hPorts hRxTiles hTxTiles hRecs hStraps hJournal hNodeQueues hLacing hEdges hFlags hReports ?_
      exact q3
    · exact hs
  try clear_value x0
  extract_lets +onlyGivenNames -merge -underBinder x5
  try clear_value x5
  extract_lets +onlyGivenNames -merge -underBinder x6
  unfold x6
  clear x6
  rw [← q1]; simp only [State.outside, hPins, hPorts, hRxTiles, hTxTiles, hRadio, cond_true]

theorem State.radioWarm_keeps {s : State} : Kept107 s (State.radioWarm s) :=
  .of (State.radioWarm_outside rfl rfl rfl rfl rfl rfl rfl rfl rfl rfl rfl rfl rfl rfl rfl rfl rfl rfl rfl)

theorem State.radioWarm_rd {s : State} {kk : Nat} (hkey : Nums32.contains (Key.fam kk) = false) : (State.radioWarm s).rd kk = s.rd kk :=
  State.rd_of_outside (M := .but Nums32) (State.radioWarm_outside rfl rfl rfl .self rfl rfl rfl rfl rfl rfl rfl rfl rfl rfl rfl rfl rfl rfl rfl) rfl hkey

theorem State.portsStart_outside {M : Touch} {r : State} {s : State} (hPorts : M.ports = true) (hs : s.outside M = r) :
    (State.portsStart s).outside M = r := by
  unfold State.portsStart
  refine State.each_outside ?_ ?_
  · intro t0 q1 z2
    extract_lets +onlyGivenNames -merge -underBinder x3
    try clear_value x3
    extract_lets +onlyGivenNames -merge -underBinder x4
    try clear_value x4
    refine State.setPort_outside hPorts ?_
    exact q1
  · exact hs

theorem State.portsStart_keeps {s : State} : Kept84 s (State.portsStart s) :=
  .of (State.portsStart_outside rfl rfl)

theorem State.txLimits_outside {M : Touch} {r : State} {s : State} (hNums : M.Nums Nums38) (hs : s.outside M = r) :
    (State.txLimits s).outside M = r := by
  unfold State.txLimits
  refine ite_outside ?_ ?_
  · exact hs
  · refine State.each_outside ?_ ?_
    · intro t0 q1 z2
      refine State.wr_outside (hNums.at Key.fam_portTxLimitDbm rfl) ?_
      exact q1
    · exact hs

theorem State.txLimits_keeps {s : State} : Kept1 s (State.txLimits s) :=
  .of (State.txLimits_outside rfl rfl)

theorem State.txLimits_rd {s : State} {kk : Nat} (hkey : Nums38.contains (Key.fam kk) = false) : (State.txLimits s).rd kk = s.rd kk :=
  State.rd_of_outside (M := .but Nums38) (State.txLimits_outside .self rfl) rfl hkey

theorem State.dictWarm_outside {M : Touch} {r : State} {s : State} (hChainPorts : M.chainPorts = true) (hDict : M.dict = true) (hAny : M.anyNum = true) (hDoms : M.doms = true) (hResults : M.results = true) (hLogs : M.logs = true) (hStraps : M.straps = true) (hJournal : M.journal = true) (hEdges : M.edges = true) (hHost : M.host = true) (hFlags : M.flags = true) (hs : s.outside M = r) :
    (State.dictWarm s).outside M = r := by
  unfold State.dictWarm
  extract_lets +onlyGivenNames -merge -underBinder x0
  have q1 : State.outside M x0 = r := by
    unfold x0
    refine State.each_outside ?_ ?_
    · intro t2 q3 z4
      refine State.post_outside hDict (.any hAny) hLogs hStraps hJournal hEdges hFlags ?_
      exact q3
    · exact hs
  try clear_value x0
  extract_lets +onlyGivenNames -merge -underBinder x5
  have q6 : State.outside M x5 = r := by
    unfold x5
    refine State.each_outside ?_ ?_
    · intro t7 q8 z9
      refine State.credit_outside hChainPorts ?_
      exact q8
    · exact q1
  try clear_value x5
  extract_lets +onlyGivenNames -merge -underBinder x10
  unfold x10
  clear x10
  extract_lets +onlyGivenNames -merge -underBinder x11
  have q12 : State.outside M x11 = r := by
    unfold x11
    refine Eq.trans (State.outside_host_host (h0 := hHost) ..) ?_
    exact q6
  try clear_value x11
  extract_lets +onlyGivenNames -merge -underBinder x13
  unfold x13
  clear x13
  rw [← q12]; simp only [State.outside, hAny, hDoms, hResults, hDict, cond_true]

theorem State.dictWarm_keeps {s : State} : Kept189 s (State.dictWarm s) :=
  .of (State.dictWarm_outside rfl rfl rfl rfl rfl rfl rfl rfl rfl rfl rfl rfl)

theorem State.stampCheck_outside {M : Touch} {r : State} {s : State} (hDict : M.dict = true) (hNums : M.Nums Nums2) (hLogs : M.logs = true) (hStraps : M.straps = true) (hJournal : M.journal = true) (hEdges : M.edges = true) (hFlags : M.flags = true) (hs : s.outside M = r) :
    (State.stampCheck s).outside M = r := by
  unfold State.stampCheck
  refine State.each_outside ?_ ?_
  · intro t0 q1 z2
    refine ite_outside ?_ ?_
    · refine State.post_outside hDict hNums hLogs hStraps hJournal hEdges hFlags ?_
      exact q1
    · exact q1
  · exact hs

theorem State.stampCheck_keeps {s : State} : Kept8 s (State.stampCheck s) :=
  .of (State.stampCheck_outside rfl rfl rfl rfl rfl rfl rfl rfl)

theorem State.stampCheck_rd {s : State} {kk : Nat} (hkey : Nums2.contains (Key.fam kk) = false) : (State.stampCheck s).rd kk = s.rd kk :=
  State.rd_of_outside (M := .but Nums2) (State.stampCheck_outside rfl .self rfl rfl rfl rfl rfl rfl) rfl hkey

theorem State.girthWarm_outside {M : Touch} {r : State} {s : State} (hGirth : M.girth = true) (hRecs : M.recs = true) (hSched : M.sched = true) (hs : s.outside M = r) :
    (State.girthWarm s).outside M = r := by
  unfold State.girthWarm
  extract_lets +onlyGivenNames -merge -underBinder x0
  try clear_value x0
  extract_lets +onlyGivenNames -merge -underBinder x1
  unfold x1
  clear x1
  rw [← hs]; simp only [State.outside, hRecs, hGirth, hSched, cond_true]

theorem State.girthWarm_keeps {s : State} : Kept190 s (State.girthWarm s) :=
  .of (State.girthWarm_outside rfl rfl rfl rfl)

theorem State.coresWarm_outside {M : Touch} {r : State} {s : State} (hDict : M.dict = true) (hNums : M.Nums Nums40) (hLogs : M.logs = true) (hStraps : M.straps = true) (hJournal : M.journal = true) (hCores : M.cores = true) (hEdges : M.edges = true) (hFlags : M.flags = true) (hs : s.outside M = r) :
    (State.coresWarm s).outside M = r := by
  unfold State.coresWarm
  refine State.each_outside ?_ ?_
  · intro t0 q1 z2
    extract_lets +onlyGivenNames -merge -underBinder x3
    try clear_value x3
    extract_lets +onlyGivenNames -merge -underBinder x4
    have q5 : State.outside M x4 = r := by
      unfold x4
      refine State.coreWarm_outside (hNums.sub rfl) hCores ?_
      exact q1
    try clear_value x4
    refine ite_outside ?_ ?_
    · exact q5
    · refine State.corePost_outside hDict (hNums.sub rfl) hLogs hStraps hJournal hEdges hFlags ?_
      exact q5
  · exact hs

theorem State.coresWarm_keeps {s : State} : Kept191 s (State.coresWarm s) :=
  .of (State.coresWarm_outside rfl rfl rfl rfl rfl rfl rfl rfl rfl)

theorem State.coresWarm_rd {s : State} {kk : Nat} (hkey : Nums40.contains (Key.fam kk) = false) : (State.coresWarm s).rd kk = s.rd kk :=
  State.rd_of_outside (M := .but Nums40) (State.coresWarm_outside rfl .self rfl rfl rfl rfl rfl rfl rfl) rfl hkey

theorem State.coresStart_outside {M : Touch} {r : State} {s : State} (hNums : M.Nums Nums42) (hPower : M.power = true) (hCores : M.cores = true) (hs : s.outside M = r) :
    (State.coresStart s).outside M = r := by
  unfold State.coresStart
  extract_lets +onlyGivenNames -merge -underBinder x0
  try clear_value x0
  extract_lets +onlyGivenNames -merge -underBinder x1
  have q2 : State.outside M x1 = r := by
    unfold x1
    refine State.each_outside ?_ ?_
    · intro t3 q4 z5
      refine State.wr_outside (hNums.at Key.fam_coreState rfl) ?_
      refine State.setCore_outside hCores ?_
      exact q4
    · exact hs
  try clear_value x1
  extract_lets +onlyGivenNames -merge -underBinder x6
  have q7 : State.outside M x6 = r := by
    unfold x6
    refine State.each_outside ?_ ?_
    · intro t8 q9 z10
      refine State.wr_outside (hNums.at Key.fam_coreState rfl) ?_
      exact q9
    · exact q2
  try clear_value x6
  extract_lets +onlyGivenNames -merge -underBinder x11
  have q12 : State.outside M x11 = r := by
    unfold x11
    refine State.each_outside ?_ ?_
    · intro t13 q14 z15
      refine State.setIsland_outside hPower ?_
      exact q14
    · exact q7
  try clear_value x11
  extract_lets +onlyGivenNames -merge -underBinder x16
  try clear_value x16
  refine State.setPower_outside hPower ?_
  exact q12

theorem State.coresStart_keeps {s : State} : Kept192 s (State.coresStart s) :=
  .of (State.coresStart_outside rfl rfl rfl rfl)

theorem State.coresStart_rd {s : State} {kk : Nat} (hkey : Nums42.contains (Key.fam kk) = false) : (State.coresStart s).rd kk = s.rd kk :=
  State.rd_of_outside (M := .but Nums42) (State.coresStart_outside .self rfl rfl rfl) rfl hkey

theorem State.warmReset_outside {M : Touch} {r : State} {s : State} {cause : Nat} (hOut : M.out = true) (hPins : M.pins = true) (hPulses : M.pulses = true) (hChain : M.chain = true) (hChainPorts : M.chainPorts = true) (hDict : M.dict = true) (hAny : M.anyNum = true) (hDoms : M.doms = true) (hResults : M.results = true) (hLogs : M.logs = true) (hPower : M.power = true) (hVbat : M.vbat = true) (hRadio : M.radio = true) (hPorts : M.ports = true) (hRxTiles : M.rxTiles = true) (hTxTiles : M.txTiles = true) (hGirth : M.girth = true) (hRecs : M.recs = true) (hSched : M.sched = true) (hCinch : M.cinch = true) (hKeeper : M.keeper = true) (hSb : M.sb = true) (hStraps : M.straps = true) (hJournal : M.journal = true) (hNodeQueues : M.nodeQueues = true) (hTables : M.tables = true) (hWindows : M.windows = true) (hHalter : M.halter = true) (hHar : M.har = true) (hQueues : M.queues = true) (hArrivals : M.arrivals = true) (hLacing : M.lacing = true) (hTree : M.tree = true) (hCurb : M.curb = true) (hConcho : M.concho = true) (hCores : M.cores = true) (hBuckle : M.buckle = true) (hEdges : M.edges = true) (hHost : M.host = true) (hFlags : M.flags = true) (hReports : M.reports = true) (hs : s.outside M = r) :
    (State.warmReset s cause).outside M = r := by
  unfold State.warmReset
  extract_lets +onlyGivenNames -merge -underBinder x0
  try clear_value x0
  extract_lets +onlyGivenNames -merge -underBinder x1
  try clear_value x1
  extract_lets +onlyGivenNames -merge -underBinder x2
  have q3 : State.outside M x2 = r := by
    unfold x2
    refine State.coresWarm_outside hDict (.any hAny) hLogs hStraps hJournal hCores hEdges hFlags ?_
    refine State.radioWarm_outside hOut hPins hDict (.any hAny) hResults hLogs hRadio hPorts hRxTiles hTxTiles hRecs hStraps hJournal hNodeQueues hLacing hEdges hFlags hReports ?_
    exact hs
  try clear_value x2
  extract_lets +onlyGivenNames -merge -underBinder x4
  have q5 : State.outside M x4 = r := by
    unfold x4
    refine State.dictWarm_outside hChainPorts hDict hAny hDoms hResults hLogs hStraps hJournal hEdges hHost hFlags ?_
    refine State.girthWarm_outside hGirth hRecs hSched ?_
    exact q3
  try clear_value x4
  extract_lets +onlyGivenNames -merge -underBinder x6
  have q7 : State.outside M x6 = r := by
    unfold x6
    refine State.each_outside ?_ ?_
    · intro t8 q9 z10
      refine State.setRes_outside hResults ?_
      exact q9
    · exact q5
  try clear_value x6
  extract_lets +onlyGivenNames -merge -underBinder x11
  have q12 : State.outside M x11 = r := by
    unfold x11
    refine ite_outside ?_ ?_
    · refine State.setRes_outside hResults ?_
      exact q7
    · exact q7
  try clear_value x11
  extract_lets +onlyGivenNames -merge -underBinder x13
  try clear_value x13
  extract_lets +onlyGivenNames -merge -underBinder x14
  try clear_value x14
  extract_lets +onlyGivenNames -merge -underBinder x15
  have q16 : State.outside M x15 = r := by
    unfold x15
    refine State.setPower_outside hPower ?_
    exact q12
  try clear_value x15
  extract_lets +onlyGivenNames -merge -underBinder x17
  try clear_value x17
  extract_lets +onlyGivenNames -merge -underBinder x18
  unfold x18
  clear x18
  extract_lets +onlyGivenNames -merge -underBinder x19
  unfold x19
  clear x19
  extract_lets +onlyGivenNames -merge -underBinder x20
  try clear_value x20
  extract_lets +onlyGivenNames -merge -underBinder x21
  unfold x21
  clear x21
  extract_lets +onlyGivenNames -merge -underBinder x22
  have q23 : State.outside M x22 = r := by
    unfold x22
    rw [← q16]; simp only [State.outside, hPins, hPulses, hChain, hWindows, hLacing, hCurb, hCores, cond_true]
  try clear_value x22
  extract_lets +onlyGivenNames -merge -underBinder x24
  have q25 : State.outside M x24 = r := by
    unfold x24
    refine State.resetStraps_outside hSb hStraps hNodeQueues hHar hQueues hArrivals ?_
    refine State.resetTables_outside (.any hAny) hTables hHalter ?_
    exact q23
  try clear_value x24
  extract_lets +onlyGivenNames -merge -underBinder x26
  unfold x26
  clear x26
  extract_lets +onlyGivenNames -merge -underBinder x27
  have q28 : State.outside M x27 = r := by
    unfold x27
    refine Eq.trans (State.outside_har_har (h0 := hHar) ..) ?_
    exact q25
  try clear_value x27
  extract_lets +onlyGivenNames -merge -underBinder x29
  have q30 : State.outside M x29 = r := by
    unfold x29
    refine State.wr_outside (.any hAny) ?_
    refine State.conStart_outside hDict (.any hAny) hDoms hLogs hStraps hJournal hEdges hFlags ?_
    refine State.resetCon_outside (.any hAny) hConcho ?_
    refine State.hifReset_outside hHost hFlags ?_
    refine State.resetBuckle_outside (.any hAny) hBuckle hEdges ?_
    exact q28
  try clear_value x29
  refine State.coresStart_outside (.any hAny) hPower hCores ?_
  refine State.resetCinch_outside (.any hAny) hCinch ?_
  refine State.keeperWarm_outside hDict (.any hAny) hLogs hVbat hKeeper hStraps hJournal hEdges hFlags ?_
  refine State.portsStart_outside hPorts ?_
  refine State.txLimits_outside (.any hAny) ?_
  refine State.stampCheck_outside hDict (.any hAny) hLogs hStraps hJournal hEdges hFlags ?_
  refine State.treeSelect_outside (.any hAny) hTree ?_
  exact q30

theorem State.warmReset_keeps {s : State} {cause : Nat} : Kept193 s (State.warmReset s cause) :=
  .of (State.warmReset_outside rfl rfl rfl rfl rfl rfl rfl rfl rfl rfl rfl rfl rfl rfl rfl rfl rfl rfl rfl rfl rfl rfl rfl rfl rfl rfl rfl rfl rfl rfl rfl rfl rfl rfl rfl rfl rfl rfl rfl rfl rfl rfl)

theorem State.ownReset_outside {M : Touch} {r : State} {s : State} {cause : Nat} (hOut : M.out = true) (hPins : M.pins = true) (hPulses : M.pulses = true) (hChain : M.chain = true) (hChainPorts : M.chainPorts = true) (hDict : M.dict = true) (hAny : M.anyNum = true) (hDoms : M.doms = true) (hResults : M.results = true) (hLogs : M.logs = true) (hPower : M.power = true) (hVbat : M.vbat = true) (hRadio : M.radio = true) (hPorts : M.ports = true) (hRxTiles : M.rxTiles = true) (hTxTiles : M.txTiles = true) (hGirth : M.girth = true) (hRecs : M.recs = true) (hSched : M.sched = true) (hCinch : M.cinch = true) (hKeeper : M.keeper = true) (hSb : M.sb = true) (hStraps : M.straps = true) (hJournal : M.journal = true) (hNodeQueues : M.nodeQueues = true) (hTables : M.tables = true) (hWindows : M.windows = true) (hHalter : M.halter = true) (hHar : M.har = true) (hQueues : M.queues = true) (hArrivals : M.arrivals = true) (hLacing : M.lacing = true) (hTree : M.tree = true) (hCurb : M.curb = true) (hConcho : M.concho = true) (hCores : M.cores = true) (hBuckle : M.buckle = true) (hEdges : M.edges = true) (hHost : M.host = true) (hFlags : M.flags = true) (hReports : M.reports = true) (hs : s.outside M = r) :
    (State.ownReset s cause).outside M = r := by
  unfold State.ownReset
  refine ite_outside ?_ ?_
  · refine State.warmReset_outside hOut hPins hPulses hChain hChainPorts hDict hAny hDoms hResults hLogs hPower hVbat hRadio hPorts hRxTiles hTxTiles hGirth hRecs hSched hCinch hKeeper hSb hStraps hJournal hNodeQueues hTables hWindows hHalter hHar hQueues hArrivals hLacing hTree hCurb hConcho hCores hBuckle hEdges hHost hFlags hReports ?_
    exact hs
  · exact hs

theorem State.ownReset_keeps {s : State} {cause : Nat} : Kept193 s (State.ownReset s cause) :=
  .of (State.ownReset_outside rfl rfl rfl rfl rfl rfl rfl rfl rfl rfl rfl rfl rfl rfl rfl rfl rfl rfl rfl rfl rfl rfl rfl rfl rfl rfl rfl rfl rfl rfl rfl rfl rfl rfl rfl rfl rfl rfl rfl rfl rfl rfl)

theorem State.vbatPosts_outside {M : Touch} {r : State} {s : State} {bad : List (Fin 2048)} (hDict : M.dict = true) (hNums : M.Nums Nums17) (hLogs : M.logs = true) (hStraps : M.straps = true) (hJournal : M.journal = true) (hEdges : M.edges = true) (hFlags : M.flags = true) (hs : s.outside M = r) :
    (State.vbatPosts s bad).outside M = r := by
  unfold State.vbatPosts
  refine State.each_outside ?_ ?_
  · intro t0 q1 z2
    refine State.memFound_outside hDict hNums hLogs hStraps hJournal hEdges hFlags ?_
    exact q1
  · exact hs

theorem State.vbatPosts_keeps {s : State} {bad : List (Fin 2048)} : Kept8 s (State.vbatPosts s bad) :=
  .of (State.vbatPosts_outside rfl rfl rfl rfl rfl rfl rfl rfl)

theorem State.vbatPosts_rd {s : State} {bad : List (Fin 2048)} {kk : Nat} (hkey : Nums17.contains (Key.fam kk) = false) : (State.vbatPosts s bad).rd kk = s.rd kk :=
  State.rd_of_outside (M := .but Nums17) (State.vbatPosts_outside rfl .self rfl rfl rfl rfl rfl rfl) rfl hkey

theorem State.mainDown_outside {M : Touch} {r : State} {s : State} (hPins : M.pins = true) (hPulses : M.pulses = true) (hChain : M.chain = true) (hChainPorts : M.chainPorts = true) (hDict : M.dict = true) (hAny : M.anyNum = true) (hDoms : M.doms = true) (hResults : M.results = true) (hLogs : M.logs = true) (hPower : M.power = true) (hRadio : M.radio = true) (hPorts : M.ports = true) (hRxTiles : M.rxTiles = true) (hTxTiles : M.txTiles = true) (hGirth : M.girth = true) (hRecs : M.recs = true) (hSched : M.sched = true) (hCinch : M.cinch = true) (hKeeper : M.keeper = true) (hSb : M.sb = true) (hStraps : M.straps = true) (hJournal : M.journal = true) (hNodeQueues : M.nodeQueues = true) (hTables : M.tables = true) (hWindows : M.windows = true) (hHalter : M.halter = true) (hHar : M.har = true) (hQueues : M.queues = true) (hArrivals : M.arrivals = true) (hLacing : M.lacing = true) (hCurb : M.curb = true) (hConcho : M.concho = true) (hCores : M.cores = true) (hLocals : M.Locals r) (hBuckle : M.buckle = true) (hEdges : M.edges = true) (hHost : M.host = true) (hFlags : M.flags = true) (hReports : M.reports = true) (hs : s.outside M = r) :
    (State.mainDown s).outside M = r := by
  subst hs
  obtain ⟨l1, l2⟩ := hLocals
  simp only [State.mainDown, State.outside, hPins, hPulses, hChain, hChainPorts, hDict, hAny, hDoms, hResults, hLogs, hPower, hRadio, hPorts, hRxTiles, hTxTiles, hGirth, hRecs, hSched, hCinch, hKeeper, hSb, hStraps, hJournal, hNodeQueues, hTables, hWindows, hHalter, hHar, hQueues, hArrivals, hLacing, hCurb, hConcho, hCores, l1, hBuckle, hEdges, hHost, hFlags, hReports, cond_true] at l2 ⊢
  rw [memForm_step (v := State.reset.cores.mem) (fun e => by have := l2 e; rwa [e] at this) (fun _ => rfl)]

theorem State.mainDown_keeps {s : State} : Kept194 s (State.mainDown s) :=
  .of (State.mainDown_outside rfl rfl rfl rfl rfl rfl rfl rfl rfl rfl rfl rfl rfl rfl rfl rfl rfl rfl rfl rfl rfl rfl rfl rfl rfl rfl rfl rfl rfl rfl rfl rfl rfl (.free rfl rfl) rfl rfl rfl rfl rfl rfl)

theorem State.coldBegin_outside {M : Touch} {r : State} {s : State} {bad : List (Fin 2048)} (hPins : M.pins = true) (hClock : M.clock = true) (hPulses : M.pulses = true) (hChain : M.chain = true) (hChainPorts : M.chainPorts = true) (hDict : M.dict = true) (hAny : M.anyNum = true) (hDoms : M.doms = true) (hResults : M.results = true) (hLogs : M.logs = true) (hPower : M.power = true) (hVbat : M.vbat = true) (hRadio : M.radio = true) (hPorts : M.ports = true) (hRxTiles : M.rxTiles = true) (hTxTiles : M.txTiles = true) (hGirth : M.girth = true) (hRecs : M.recs = true) (hSched : M.sched = true) (hCinch : M.cinch = true) (hKeeper : M.keeper = true) (hSb : M.sb = true) (hStraps : M.straps = true) (hJournal : M.journal = true) (hNodeQueues : M.nodeQueues = true) (hTables : M.tables = true) (hWindows : M.windows = true) (hHalter : M.halter = true) (hHar : M.har = true) (hQueues : M.queues = true) (hArrivals : M.arrivals = true) (hLacing : M.lacing = true) (hTree : M.tree = true) (hCurb : M.curb = true) (hConcho : M.concho = true) (hCores : M.cores = true) (hLocals : M.Locals r) (hBuckle : M.buckle = true) (hEdges : M.edges = true) (hHost : M.host = true) (hFlags : M.flags = true) (hReports : M.reports = true) (hs : s.outside M = r) :
    (State.coldBegin s bad).outside M = r := by
  unfold State.coldBegin
  extract_lets +onlyGivenNames -merge -underBinder x0
  have q1 : State.outside M x0 = r := by
    unfold x0
    refine Eq.trans (State.outside_vbat (h0 := hVbat) ..) ?_
    exact hs
  try clear_value x0
  extract_lets +onlyGivenNames -merge -underBinder x2
  try clear_value x2
  extract_lets +onlyGivenNames -merge -underBinder x3
  try clear_value x3
  extract_lets +onlyGivenNames -merge -underBinder x4
  have q5 : State.outside M x4 = r := by
    unfold x4
    refine State.mainDown_outside hPins hPulses hChain hChainPorts hDict hAny hDoms hResults hLogs hPower hRadio hPorts hRxTiles hTxTiles hGirth hRecs hSched hCinch hKeeper hSb hStraps hJournal hNodeQueues hTables hWindows hHalter hHar hQueues hArrivals hLacing hCurb hConcho hCores hLocals hBuckle hEdges hHost hFlags hReports ?_
    exact q1
  try clear_value x4
  extract_lets +onlyGivenNames -merge -underBinder x6
  have q7 : State.outside M x6 = r := by
    unfold x6
    refine Eq.trans (State.outside_clock (h0 := hClock) ..) ?_
    exact q5
  try clear_value x6
  extract_lets +onlyGivenNames -merge -underBinder x8
  try clear_value x8
  extract_lets +onlyGivenNames -merge -underBinder x9
  have q10 : State.outside M x9 = r := by
    unfold x9
    refine State.setPower_outside hPower ?_
    exact q7
  try clear_value x9
  extract_lets +onlyGivenNames -merge -underBinder x11
  unfold x11
  clear x11
  extract_lets +onlyGivenNames -merge -underBinder x12
  have q13 : State.outside M x12 = r := by
    unfold x12
    rw [← q10]; simp only [State.outside, hAny, hDoms, cond_true]
  try clear_value x12
  extract_lets +onlyGivenNames -merge -underBinder x14
  have q15 : State.outside M x14 = r := by
    unfold x14
    refine State.wr_outside (.any hAny) ?_
    refine State.wr_outside (.any hAny) ?_
    exact q13
  try clear_value x14
  extract_lets +onlyGivenNames -merge -underBinder x16
  have q17 : State.outside M x16 = r := by
    unfold x16
    refine State.treeSelect_outside (.any hAny) hTree ?_
    exact q15
  try clear_value x16
  refine State.coresStart_outside (.any hAny) hPower hCores ?_
  refine State.resetCinch_outside (.any hAny) hCinch ?_
  refine State.conStart_outside hDict (.any hAny) hDoms hLogs hStraps hJournal hEdges hFlags ?_
  refine State.keeperCold_outside hDict (.any hAny) hLogs hVbat hKeeper hStraps hJournal hEdges hFlags ?_
  refine State.portsStart_outside hPorts ?_
  refine State.txLimits_outside (.any hAny) ?_
  refine State.stampCheck_outside hDict (.any hAny) hLogs hStraps hJournal hEdges hFlags ?_
  refine State.vbatPosts_outside hDict (.any hAny) hLogs hStraps hJournal hEdges hFlags ?_
  exact q17

theorem State.coldBegin_keeps {s : State} {bad : List (Fin 2048)} : Kept195 s (State.coldBegin s bad) :=
  .of (State.coldBegin_outside rfl rfl rfl rfl rfl rfl rfl rfl rfl rfl rfl rfl rfl rfl rfl rfl rfl rfl rfl rfl rfl rfl rfl rfl rfl rfl rfl rfl rfl rfl rfl rfl rfl rfl rfl rfl (.free rfl rfl) rfl rfl rfl rfl rfl rfl)

theorem State.startPosts_outside {M : Touch} {r : State} {s : State} (hDict : M.dict = true) (hNums : M.Nums Nums2) (hLogs : M.logs = true) (hPower : M.power = true) (hStraps : M.straps = true) (hJournal : M.journal = true) (hEdges : M.edges = true) (hFlags : M.flags = true) (hs : s.outside M = r) :
    (State.startPosts s).outside M = r := by
  unfold State.startPosts
  split
  · exact hs
  · extract_lets +onlyGivenNames -merge -underBinder x0
    try clear_value x0
    extract_lets +onlyGivenNames -merge -underBinder x1
    have q2 : State.outside M x1 = r := by
      unfold x1
      refine State.setPower_outside hPower ?_
      exact hs
    try clear_value x1
    extract_lets +onlyGivenNames -merge -underBinder x3
    have q4 : State.outside M x3 = r := by
      unfold x3
      refine State.post_outside hDict hNums hLogs hStraps hJournal hEdges hFlags ?_
      exact q2
    try clear_value x3
    refine ite_outside ?_ ?_
    · refine State.post_outside hDict hNums hLogs hStraps hJournal hEdges hFlags ?_
      exact q4
    · exact q4

theorem State.startPosts_keeps {s : State} : Kept196 s (State.startPosts s) :=
  .of (State.startPosts_outside rfl rfl rfl rfl rfl rfl rfl rfl rfl)

theorem State.startPosts_rd {s : State} {kk : Nat} (hkey : Nums2.contains (Key.fam kk) = false) : (State.startPosts s).rd kk = s.rd kk :=
  State.rd_of_outside (M := .but Nums2) (State.startPosts_outside rfl .self rfl rfl rfl rfl rfl rfl rfl) rfl hkey

theorem State.startDone_outside {M : Touch} {r : State} {s : State} (hDraws : M.draws = true) (hOut : M.out = true) (hPins : M.pins = true) (hDict : M.dict = true) (hNums : M.Nums Nums148) (hResults : M.results = true) (hLogs : M.logs = true) (hPower : M.power = true) (hVbat : M.vbat = true) (hPorts : M.ports = true) (hRxTiles : M.rxTiles = true) (hTxTiles : M.txTiles = true) (hSched : M.sched = true) (hStraps : M.straps = true) (hJournal : M.journal = true) (hTree : M.tree = true) (hConcho : M.concho = true) (hEdges : M.edges = true) (hHost : M.host = true) (hFlags : M.flags = true) (hs : s.outside M = r) :
    (State.startDone s).outside M = r := by
  unfold State.startDone
  split
  · exact hs
  · extract_lets +onlyGivenNames -merge -underBinder x0
    unfold x0
    clear x0
    extract_lets +onlyGivenNames -merge -underBinder x1
    try clear_value x1
    extract_lets +onlyGivenNames -merge -underBinder x2
    have q3 : State.outside M x2 = r := by
      unfold x2
      rw [← hs]; simp only [State.outside, hDict, hVbat, cond_true]
    try clear_value x2
    extract_lets +onlyGivenNames -merge -underBinder x4
    try clear_value x4
    extract_lets +onlyGivenNames -merge -underBinder x5
    have q6 : State.outside M x5 = r := by
      unfold x5
      refine State.setPower_outside hPower ?_
      exact q3
    try clear_value x5
    extract_lets +onlyGivenNames -merge -underBinder x7
    try clear_value x7
    extract_lets +onlyGivenNames -merge -underBinder x8
    have q9 : State.outside M x8 = r := by
      unfold x8
      refine State.setSched_outside hSched ?_
      refine State.askRebuild_outside hSched ?_
      exact q6
    try clear_value x8
    refine State.conSense_outside hDraws hOut hPins (hNums.sub rfl) hConcho hEdges ?_
    refine State.pathCheck_outside hDict (hNums.sub rfl) hLogs hStraps hJournal hEdges hHost hFlags ?_
    refine State.placeAll_outside hPins hDict (hNums.sub rfl) hResults hLogs hPorts hRxTiles hTxTiles hStraps hJournal hEdges hFlags ?_
    refine State.treeUp_outside hDict (hNums.sub rfl) hResults hLogs hStraps hJournal hTree hEdges hFlags ?_
    exact q9

theorem State.startDone_keeps {s : State} : Kept197 s (State.startDone s) :=
  .of (State.startDone_outside rfl rfl rfl rfl rfl rfl rfl rfl rfl rfl rfl rfl rfl rfl rfl rfl rfl rfl rfl rfl rfl)

theorem State.startDone_rd {s : State} {kk : Nat} (hkey : Nums148.contains (Key.fam kk) = false) : (State.startDone s).rd kk = s.rd kk :=
  State.rd_of_outside (M := .but Nums148) (State.startDone_outside rfl rfl rfl rfl .self rfl rfl rfl rfl rfl rfl rfl rfl rfl rfl rfl rfl rfl rfl rfl rfl) rfl hkey

end Sys2Proof.Machine
end

