-- ==== Sys2Proof/Laws/Frame/Arch.lean ====
section
/-! SUPPORT. What the operations of Machine/Arch.lean leave alone. -/

namespace Sys2Proof.Machine

theorem State.bankLost_outside {M : Touch} {r : State} {s : State} {k : Nat} (hDict : M.dict = true) (hAny : M.anyNum = true) (hDoms : M.doms = true) (hs : s.outside M = r) :
    (State.bankLost s k).outside M = r := by
  unfold State.bankLost
  extract_lets +onlyGivenNames -merge -underBinder x0
  try clear_value x0
  extract_lets +onlyGivenNames -merge -underBinder x1
  have q2 : State.outside M x1 = r := by
    unfold x1
    refine ite_outside ?_ ?_
    · refine State.wr_outside (.any hAny) ?_
      exact hs
    · refine ite_outside ?_ ?_
      · refine State.setDom_outside hDoms ?_
        exact hs
      · exact hs
  try clear_value x1
  split
  · extract_lets +onlyGivenNames -merge -underBinder x3
    unfold x3
    clear x3
    refine Eq.trans (State.outside_dict_dict (h0 := hDict) ..) ?_
    exact q2
  · exact q2

theorem State.bankLost_keeps {s : State} {k : Nat} : Kept198 s (State.bankLost s k) :=
  .of (State.bankLost_outside rfl rfl rfl rfl)

theorem State.entryLost_outside {M : Touch} {r : State} {s : State} {i : Nat} (hSched : M.sched = true) (hs : s.outside M = r) :
    (State.entryLost s i).outside M = r := by
  unfold State.entryLost
  extract_lets +onlyGivenNames -merge -underBinder x0
  try clear_value x0
  split
  · exact hs
  · extract_lets +onlyGivenNames -merge -underBinder x1
    have q2 : State.outside M x1 = r := by
      unfold x1
      refine State.setSched_outside hSched ?_
      exact hs
    try clear_value x1
    split
    · extract_lets +onlyGivenNames -merge -underBinder x3
      try clear_value x3
      refine State.askRebuild_outside hSched ?_
      refine State.setSched_outside hSched ?_
      exact q2
    · exact q2

theorem State.entryLost_keeps {s : State} {i : Nat} : Kept26 s (State.entryLost s i) :=
  .of (State.entryLost_outside rfl rfl)

theorem State.loseFrame_outside {M : Touch} {r : State} {s : State} {q : Nat} {i : Nat} (hNums : M.Nums Nums56) (hHar : M.har = true) (hQueues : M.queues = true) (hReports : M.reports = true) (hs : s.outside M = r) :
    (State.loseFrame s q i).outside M = r := by
  unfold State.loseFrame
  extract_lets +onlyGivenNames -merge -underBinder x0
  try clear_value x0
  split
  · refine State.qDrop_outside hNums hReports ?_
    refine State.setOutQ_outside hHar hQueues ?_
    exact hs
  · exact hs

theorem State.loseFrame_keeps {s : State} {q : Nat} {i : Nat} : Kept171 s (State.loseFrame s q i) :=
  .of (State.loseFrame_outside rfl rfl rfl rfl rfl)

theorem State.loseFrame_rd {s : State} {q : Nat} {i : Nat} {kk : Nat} (hkey : Nums56.contains (Key.fam kk) = false) : (State.loseFrame s q i).rd kk = s.rd kk :=
  State.rd_of_outside (M := .but Nums56) (State.loseFrame_outside .self rfl rfl rfl rfl) rfl hkey

theorem State.quarantine_outside {M : Touch} {r : State} {s : State} {a0 : Nat} (hNums : M.Nums Nums58) (hRecs : M.recs = true) (hSched : M.sched = true) (hs : s.outside M = r) :
    (State.quarantine s a0).outside M = r := by
  unfold State.quarantine
  extract_lets +onlyGivenNames -merge -underBinder x1
  try clear_value x1
  refine ite_outside ?_ ?_
  · exact hs
  · refine State.reschedule_outside hNums hRecs hSched ?_
    refine State.setRec_outside hRecs ?_
    exact hs

theorem State.quarantine_keeps {s : State} {a0 : Nat} : Kept80 s (State.quarantine s a0) :=
  .of (State.quarantine_outside rfl rfl rfl rfl)

theorem State.quarantine_rd {s : State} {a0 : Nat} {kk : Nat} (hkey : Nums58.contains (Key.fam kk) = false) : (State.quarantine s a0).rd kk = s.rd kk :=
  State.rd_of_outside (M := .but Nums58) (State.quarantine_outside .self rfl rfl rfl) rfl hkey

theorem State.overflowLost_outside {M : Touch} {r : State} {s : State} {p : Nat} (hDict : M.dict = true) (hNums : M.Nums Nums100) (hLogs : M.logs = true) (hStraps : M.straps = true) (hJournal : M.journal = true) (hTables : M.tables = true) (hHalter : M.halter = true) (hEdges : M.edges = true) (hFlags : M.flags = true) (hs : s.outside M = r) :
    (State.overflowLost s p).outside M = r := by
  unfold State.overflowLost
  split
  · refine State.halterParity_outside hDict hNums hLogs hStraps hJournal hTables hHalter hEdges hFlags ?_
    exact hs
  · refine State.memFound_outside hDict (hNums.sub rfl) hLogs hStraps hJournal hEdges hFlags ?_
    exact hs

theorem State.overflowLost_keeps {s : State} {p : Nat} : Kept57 s (State.overflowLost s p) :=
  .of (State.overflowLost_outside rfl rfl rfl rfl rfl rfl rfl rfl rfl rfl)

theorem State.overflowLost_rd {s : State} {p : Nat} {kk : Nat} (hkey : Nums100.contains (Key.fam kk) = false) : (State.overflowLost s p).rd kk = s.rd kk :=
  State.rd_of_outside (M := .but Nums100) (State.overflowLost_outside rfl .self rfl rfl rfl rfl rfl rfl rfl rfl) rfl hkey

theorem State.memLost_outside {M : Touch} {r : State} {s : State} {m : Mem} {unit : Nat} {addr : Nat} (hDict : M.dict = true) (hAny : M.anyNum = true) (hDoms : M.doms = true) (hLogs : M.logs = true) (hRecs : M.recs = true) (hSched : M.sched = true) (hKeeper : M.keeper = true) (hStraps : M.straps = true) (hJournal : M.journal = true) (hTables : M.tables = true) (hHalter : M.halter = true) (hHar : M.har = true) (hQueues : M.queues = true) (hLacing : M.lacing = true) (hEdges : M.edges = true) (hFlags : M.flags = true) (hReports : M.reports = true) (hs : s.outside M = r) :
    (State.memLost s m unit addr).outside M = r := by
  unfold State.memLost
  split
  · refine State.quarantine_outside (.any hAny) hRecs hSched ?_
    refine State.memFound_outside hDict (.any hAny) hLogs hStraps hJournal hEdges hFlags ?_
    exact hs
  · refine State.memFound_outside hDict (.any hAny) hLogs hStraps hJournal hEdges hFlags ?_
    exact hs
  · refine State.loseFrame_outside (.any hAny) hHar hQueues hReports ?_
    refine State.memFound_outside hDict (.any hAny) hLogs hStraps hJournal hEdges hFlags ?_
    exact hs
  · refine State.entryLost_outside hSched ?_
    refine State.memFound_outside hDict (.any hAny) hLogs hStraps hJournal hEdges hFlags ?_
    exact hs
  · refine State.slotError_outside hDict (.any hAny) hLogs hKeeper hStraps hJournal hEdges hFlags ?_
    refine State.memFound_outside hDict (.any hAny) hLogs hStraps hJournal hEdges hFlags ?_
    exact hs
  · refine State.laceRestart_outside hDict (.any hAny) hLogs hStraps hJournal hLacing hEdges hFlags ?_
    refine State.memFound_outside hDict (.any hAny) hLogs hStraps hJournal hEdges hFlags ?_
    exact hs
  · refine State.overflowLost_outside hDict (.any hAny) hLogs hStraps hJournal hTables hHalter hEdges hFlags ?_
    exact hs
  · refine State.memFound_outside hDict (.any hAny) hLogs hStraps hJournal hEdges hFlags ?_
    exact hs
  · refine State.bankLost_outside hDict hAny hDoms ?_
    refine State.memFound_outside hDict (.any hAny) hLogs hStraps hJournal hEdges hFlags ?_
    exact hs
  · exact hs
  · exact hs
  · exact hs
  · exact hs

theorem State.memLost_keeps {s : State} {m : Mem} {unit : Nat} {addr : Nat} : Kept199 s (State.memLost s m unit addr) :=
  .of (State.memLost_outside rfl rfl rfl rfl rfl rfl rfl rfl rfl rfl rfl rfl rfl rfl rfl rfl rfl rfl)

theorem execBridgeFlitCrcFail_outside {M : Touch} {r : State} {replays : Nat} {s : State} (hOut : M.out = true) (hPins : M.pins = true) (hPulses : M.pulses = true) (hChain : M.chain = true) (hChainPorts : M.chainPorts = true) (hDict : M.dict = true) (hAny : M.anyNum = true) (hDoms : M.doms = true) (hResults : M.results = true) (hLogs : M.logs = true) (hPower : M.power = true) (hVbat : M.vbat = true) (hRadio : M.radio = true) (hPorts : M.ports = true) (hRxTiles : M.rxTiles = true) (hTxTiles : M.txTiles = true) (hGirth : M.girth = true) (hRecs : M.recs = true) (hSched : M.sched = true) (hCinch : M.cinch = true) (hKeeper : M.keeper = true) (hSb : M.sb = true) (hStraps : M.straps = true) (hJournal : M.journal = true) (hNodeQueues : M.nodeQueues = true) (hTables : M.tables = true) (hWindows : M.windows = true) (hHalter : M.halter = true) (hHar : M.har = true) (hQueues : M.queues = true) (hArrivals : M.arrivals = true) (hLacing : M.lacing = true) (hTree : M.tree = true) (hCurb : M.curb = true) (hConcho : M.concho = true) (hCores : M.cores = true) (hBuckle : M.buckle = true) (hEdges : M.edges = true) (hHost : M.host = true) (hFlags : M.flags = true) (hReports : M.reports = true) (hs : s.outside M = r) :
    NextOutside M r (execBridgeFlitCrcFail replays s) := by
  unfold execBridgeFlitCrcFail
  refine next_outside ?_
  refine ite_outside ?_ ?_
  · refine State.ownReset_outside hOut hPins hPulses hChain hChainPorts hDict hAny hDoms hResults hLogs hPower hVbat hRadio hPorts hRxTiles hTxTiles hGirth hRecs hSched hCinch hKeeper hSb hStraps hJournal hNodeQueues hTables hWindows hHalter hHar hQueues hArrivals hLacing hTree hCurb hConcho hCores hBuckle hEdges hHost hFlags hReports ?_
    exact hs
  · exact hs

theorem execScrubPass_outside {M : Touch} {r : State} {mem : Mem} {addr : Nat} {unit : Nat} {err : MemErr} {_clash : Bool} {s : State} (hDict : M.dict = true) (hAny : M.anyNum = true) (hDoms : M.doms = true) (hLogs : M.logs = true) (hRecs : M.recs = true) (hSched : M.sched = true) (hKeeper : M.keeper = true) (hStraps : M.straps = true) (hJournal : M.journal = true) (hTables : M.tables = true) (hHalter : M.halter = true) (hHar : M.har = true) (hQueues : M.queues = true) (hLacing : M.lacing = true) (hEdges : M.edges = true) (hFlags : M.flags = true) (hReports : M.reports = true) (hs : s.outside M = r) :
    NextOutside M r (execScrubPass mem addr unit err _clash s) := by
  unfold execScrubPass
  refine next_outside ?_
  split
  · exact hs
  · split
    · exact hs
    · refine State.memFound_outside hDict (.any hAny) hLogs hStraps hJournal hEdges hFlags ?_
      exact hs
    · refine State.memLost_outside hDict hAny hDoms hLogs hRecs hSched hKeeper hStraps hJournal hTables hHalter hHar hQueues hLacing hEdges hFlags hReports ?_
      exact hs

end Sys2Proof.Machine
end

