-- ==== Sys2Proof/Laws/Frame/ChainEnum.lean ====
section
/-! SUPPORT. What the operations of Machine/ChainEnum.lean leave alone. -/

namespace Sys2Proof.Machine

theorem State.markAbsent_outside {M : Touch} {r : State} {s : State} (hChain : M.chain = true) (hs : s.outside M = r) :
    (State.markAbsent s).outside M = r := by
  unfold State.markAbsent
  extract_lets +onlyGivenNames -merge -underBinder x0
  try clear_value x0
  extract_lets +onlyGivenNames -merge -underBinder x1
  try clear_value x1
  extract_lets +onlyGivenNames -merge -underBinder x2
  unfold x2
  clear x2
  refine Eq.trans (State.outside_chain_chain (h0 := hChain) ..) ?_
  exact hs

theorem State.markAbsent_keeps {s : State} : Kept202 s (State.markAbsent s) :=
  .of (State.markAbsent_outside rfl rfl)

theorem State.topoValues_outside {M : Touch} {r : State} {s : State} (hNums : M.Nums Nums12) (hSb : M.sb = true) (hs : s.outside M = r) :
    (State.topoValues s).outside M = r := by
  unfold State.topoValues
  extract_lets +onlyGivenNames -merge -underBinder x0
  try clear_value x0
  extract_lets +onlyGivenNames -merge -underBinder x1
  try clear_value x1
  extract_lets +onlyGivenNames -merge -underBinder x2
  have q3 : State.outside M x2 = r := by
    unfold x2
    refine State.wr_outside (hNums.at Key.fam_chainRing rfl) ?_
    refine State.wr_outside (hNums.at Key.fam_chainCount rfl) ?_
    exact hs
  try clear_value x2
  extract_lets +onlyGivenNames -merge -underBinder x4
  unfold x4
  clear x4
  refine ite_outside ?_ ?_
  · refine Eq.trans (State.outside_sb_sb (h0 := hSb) ..) ?_
    exact q3
  · exact q3

theorem State.topoValues_keeps {s : State} : Kept203 s (State.topoValues s) :=
  .of (State.topoValues_outside rfl rfl rfl)

theorem State.topoValues_rd {s : State} {kk : Nat} (hkey : Nums12.contains (Key.fam kk) = false) : (State.topoValues s).rd kk = s.rd kk :=
  State.rd_of_outside (M := .but Nums12) (State.topoValues_outside .self rfl rfl) rfl hkey

theorem State.giveMap_outside {M : Touch} {r : State} {s : State} {t : Topo} (hChain : M.chain = true) (hChainPorts : M.chainPorts = true) (hDict : M.dict = true) (hNums : M.Nums Nums13) (hLogs : M.logs = true) (hSb : M.sb = true) (hStraps : M.straps = true) (hJournal : M.journal = true) (hEdges : M.edges = true) (hHost : M.host = true) (hFlags : M.flags = true) (hs : s.outside M = r) :
    (State.giveMap s t).outside M = r := by
  unfold State.giveMap
  extract_lets +onlyGivenNames -merge -underBinder x0
  unfold x0
  clear x0
  extract_lets +onlyGivenNames -merge -underBinder x1
  have q2 : State.outside M x1 = r := by
    unfold x1
    refine State.markAbsent_outside hChain ?_
    refine Eq.trans (State.outside_chain_chain (h0 := hChain) ..) ?_
    exact hs
  try clear_value x1
  extract_lets +onlyGivenNames -merge -underBinder x3
  have q4 : State.outside M x3 = r := by
    unfold x3
    refine State.pathCheck_outside hDict (hNums.sub rfl) hLogs hStraps hJournal hEdges hHost hFlags ?_
    refine State.topoValues_outside (hNums.sub rfl) hSb ?_
    exact q2
  try clear_value x3
  refine State.sendChain_outside hChainPorts (hNums.sub rfl) ?_
  exact q4

theorem State.giveMap_keeps {s : State} {t : Topo} : Kept204 s (State.giveMap s t) :=
  .of (State.giveMap_outside rfl rfl rfl rfl rfl rfl rfl rfl rfl rfl rfl rfl)

theorem State.giveMap_rd {s : State} {t : Topo} {kk : Nat} (hkey : Nums13.contains (Key.fam kk) = false) : (State.giveMap s t).rd kk = s.rd kk :=
  State.rd_of_outside (M := .but Nums13) (State.giveMap_outside rfl rfl rfl .self rfl rfl rfl rfl rfl rfl rfl rfl) rfl hkey

theorem State.enumEnd_outside {M : Touch} {r : State} {s : State} {full : Bool} {ring : Bool} {count : Nat} {attempts : Nat} {code : Nat} {l : List TopoEntry} (hChain : M.chain = true) (hChainPorts : M.chainPorts = true) (hDict : M.dict = true) (hNums : M.Nums Nums14) (hResults : M.results = true) (hLogs : M.logs = true) (hSb : M.sb = true) (hStraps : M.straps = true) (hJournal : M.journal = true) (hEdges : M.edges = true) (hHost : M.host = true) (hFlags : M.flags = true) (hs : s.outside M = r) :
    (State.enumEnd s full ring count attempts code l).outside M = r := by
  unfold State.enumEnd
  extract_lets +onlyGivenNames -merge -underBinder x0
  try clear_value x0
  extract_lets +onlyGivenNames -merge -underBinder x1
  try clear_value x1
  extract_lets +onlyGivenNames -merge -underBinder x2
  try clear_value x2
  extract_lets +onlyGivenNames -merge -underBinder x3
  try clear_value x3
  extract_lets +onlyGivenNames -merge -underBinder x4
  try clear_value x4
  extract_lets +onlyGivenNames -merge -underBinder x5
  try clear_value x5
  extract_lets +onlyGivenNames -merge -underBinder x6
  try clear_value x6
  extract_lets +onlyGivenNames -merge -underBinder x7
  unfold x7
  clear x7
  extract_lets +onlyGivenNames -merge -underBinder x8
  have q9 : State.outside M x8 = r := by
    unfold x8
    refine Eq.trans (State.outside_chain_chain (h0 := hChain) ..) ?_
    exact hs
  try clear_value x8
  extract_lets +onlyGivenNames -merge -underBinder x10
  have q11 : State.outside M x10 = r := by
    unfold x10
    refine State.wr_outside (hNums.at Key.fam_chainEnumState rfl) ?_
    exact q9
  try clear_value x10
  extract_lets +onlyGivenNames -merge -underBinder x12
  have q13 : State.outside M x12 = r := by
    unfold x12
    refine State.giveMap_outside hChain hChainPorts hDict (hNums.sub rfl) hLogs hSb hStraps hJournal hEdges hHost hFlags ?_
    exact q11
  try clear_value x12
  refine State.resEndIfBusy_outside hResults ?_
  exact q13

theorem State.enumEnd_keeps {s : State} {full : Bool} {ring : Bool} {count : Nat} {attempts : Nat} {code : Nat} {l : List TopoEntry} : Kept205 s (State.enumEnd s full ring count attempts code l) :=
  .of (State.enumEnd_outside rfl rfl rfl rfl rfl rfl rfl rfl rfl rfl rfl rfl rfl)

theorem State.enumEnd_rd {s : State} {full : Bool} {ring : Bool} {count : Nat} {attempts : Nat} {code : Nat} {l : List TopoEntry} {kk : Nat} (hkey : Nums14.contains (Key.fam kk) = false) : (State.enumEnd s full ring count attempts code l).rd kk = s.rd kk :=
  State.rd_of_outside (M := .but Nums14) (State.enumEnd_outside rfl rfl rfl .self rfl rfl rfl rfl rfl rfl rfl rfl rfl) rfl hkey

theorem State.takeHead_outside {M : Touch} {r : State} {s : State} {full : Bool} (hNums : M.Nums Nums15) (hs : s.outside M = r) :
    (State.takeHead s full).outside M = r := by
  unfold State.takeHead
  extract_lets +onlyGivenNames -merge -underBinder x0
  have q1 : State.outside M x0 = r := by
    unfold x0
    refine State.wr_outside (hNums.at Key.fam_chainRole rfl) ?_
    exact hs
  try clear_value x0
  refine ite_outside ?_ ?_
  · refine State.wr_outside (hNums.at Key.fam_chainAddr rfl) ?_
    exact q1
  · exact q1

theorem State.takeHead_keeps {s : State} {full : Bool} : Kept1 s (State.takeHead s full) :=
  .of (State.takeHead_outside rfl rfl)

theorem State.takeHead_rd {s : State} {full : Bool} {kk : Nat} (hkey : Nums15.contains (Key.fam kk) = false) : (State.takeHead s full).rd kk = s.rd kk :=
  State.rd_of_outside (M := .but Nums15) (State.takeHead_outside .self rfl) rfl hkey

theorem State.startEnum_outside {M : Touch} {r : State} {s : State} {full : Bool} {attempts : Nat} (hChain : M.chain = true) (hChainPorts : M.chainPorts = true) (hDict : M.dict = true) (hNums : M.Nums Nums16) (hResults : M.results = true) (hLogs : M.logs = true) (hSb : M.sb = true) (hStraps : M.straps = true) (hJournal : M.journal = true) (hEdges : M.edges = true) (hHost : M.host = true) (hFlags : M.flags = true) (hs : s.outside M = r) :
    (State.startEnum s full attempts).outside M = r := by
  unfold State.startEnum
  extract_lets +onlyGivenNames -merge -underBinder x0
  unfold x0
  clear x0
  extract_lets +onlyGivenNames -merge -underBinder x1
  have q2 : State.outside M x1 = r := by
    unfold x1
    refine Eq.trans (State.outside_chain_chain (h0 := hChain) ..) ?_
    exact hs
  try clear_value x1
  split
  · refine State.enumEnd_outside hChain hChainPorts hDict (hNums.sub rfl) hResults hLogs hSb hStraps hJournal hEdges hHost hFlags ?_
    refine State.takeHead_outside (hNums.sub rfl) ?_
    exact q2
  · extract_lets +onlyGivenNames -merge -underBinder x3
    try clear_value x3
    extract_lets +onlyGivenNames -merge -underBinder x4
    have q5 : State.outside M x4 = r := by
      unfold x4
      refine ite_outside ?_ ?_
      · exact q2
      · refine State.wr_outside (hNums.at Key.fam_chainRole rfl) ?_
        exact q2
    try clear_value x4
    extract_lets +onlyGivenNames -merge -underBinder x6
    have q7 : State.outside M x6 = r := by
      unfold x6
      refine State.wr_outside (hNums.at Key.fam_chainEnumState rfl) ?_
      exact q5
    try clear_value x6
    extract_lets +onlyGivenNames -merge -underBinder x8
    unfold x8
    clear x8
    extract_lets +onlyGivenNames -merge -underBinder x9
    have q10 : State.outside M x9 = r := by
      unfold x9
      refine Eq.trans (State.outside_chain_chain (h0 := hChain) ..) ?_
      exact q7
    try clear_value x9
    refine State.sendPort_outside hChainPorts (hNums.sub rfl) ?_
    exact q10

theorem State.startEnum_keeps {s : State} {full : Bool} {attempts : Nat} : Kept205 s (State.startEnum s full attempts) :=
  .of (State.startEnum_outside rfl rfl rfl rfl rfl rfl rfl rfl rfl rfl rfl rfl rfl)

theorem State.startEnum_rd {s : State} {full : Bool} {attempts : Nat} {kk : Nat} (hkey : Nums16.contains (Key.fam kk) = false) : (State.startEnum s full attempts).rd kk = s.rd kk :=
  State.rd_of_outside (M := .but Nums16) (State.startEnum_outside rfl rfl rfl .self rfl rfl rfl rfl rfl rfl rfl rfl rfl) rfl hkey

theorem State.enumResume_outside {M : Touch} {r : State} {s : State} (hChain : M.chain = true) (hChainPorts : M.chainPorts = true) (hDict : M.dict = true) (hNums : M.Nums Nums16) (hResults : M.results = true) (hLogs : M.logs = true) (hSb : M.sb = true) (hStraps : M.straps = true) (hJournal : M.journal = true) (hEdges : M.edges = true) (hHost : M.host = true) (hFlags : M.flags = true) (hs : s.outside M = r) :
    (State.enumResume s).outside M = r := by
  unfold State.enumResume
  refine ite_outside ?_ ?_
  · refine State.startEnum_outside hChain hChainPorts hDict hNums hResults hLogs hSb hStraps hJournal hEdges hHost hFlags ?_
    exact hs
  · exact hs

theorem State.enumResume_keeps {s : State} : Kept205 s (State.enumResume s) :=
  .of (State.enumResume_outside rfl rfl rfl rfl rfl rfl rfl rfl rfl rfl rfl rfl rfl)

theorem State.enumResume_rd {s : State} {kk : Nat} (hkey : Nums16.contains (Key.fam kk) = false) : (State.enumResume s).rd kk = s.rd kk :=
  State.rd_of_outside (M := .but Nums16) (State.enumResume_outside rfl rfl rfl .self rfl rfl rfl rfl rfl rfl rfl rfl rfl) rfl hkey

theorem State.enumAsk_outside {M : Touch} {r : State} {s : State} {full : Bool} (hChain : M.chain = true) (hChainPorts : M.chainPorts = true) (hDict : M.dict = true) (hNums : M.Nums Nums16) (hResults : M.results = true) (hLogs : M.logs = true) (hSb : M.sb = true) (hStraps : M.straps = true) (hJournal : M.journal = true) (hEdges : M.edges = true) (hHost : M.host = true) (hFlags : M.flags = true) (hs : s.outside M = r) :
    (State.enumAsk s full).outside M = r := by
  unfold State.enumAsk
  extract_lets +onlyGivenNames -merge -underBinder x0
  have q1 : State.outside M x0 = r := by
    unfold x0
    refine State.wr_outside (hNums.at Key.fam_chainEnumState rfl) ?_
    exact hs
  try clear_value x0
  extract_lets +onlyGivenNames -merge -underBinder x2
  unfold x2
  clear x2
  refine ite_outside ?_ ?_
  · refine Eq.trans (State.outside_chain_chain (h0 := hChain) ..) ?_
    exact q1
  · refine State.startEnum_outside hChain hChainPorts hDict hNums hResults hLogs hSb hStraps hJournal hEdges hHost hFlags ?_
    exact hs

theorem State.enumAsk_keeps {s : State} {full : Bool} : Kept205 s (State.enumAsk s full) :=
  .of (State.enumAsk_outside rfl rfl rfl rfl rfl rfl rfl rfl rfl rfl rfl rfl rfl)

theorem State.enumAsk_rd {s : State} {full : Bool} {kk : Nat} (hkey : Nums16.contains (Key.fam kk) = false) : (State.enumAsk s full).rd kk = s.rd kk :=
  State.rd_of_outside (M := .but Nums16) (State.enumAsk_outside rfl rfl rfl .self rfl rfl rfl rfl rfl rfl rfl rfl rfl) rfl hkey

theorem State.enumCmd_outside {M : Touch} {r : State} {s : State} {full : Bool} (hChain : M.chain = true) (hChainPorts : M.chainPorts = true) (hDict : M.dict = true) (hNums : M.Nums Nums16) (hResults : M.results = true) (hLogs : M.logs = true) (hSb : M.sb = true) (hStraps : M.straps = true) (hJournal : M.journal = true) (hEdges : M.edges = true) (hHost : M.host = true) (hFlags : M.flags = true) (hs : s.outside M = r) :
    (State.enumCmd s full).outside M = r := by
  unfold State.enumCmd
  refine ite_outside ?_ ?_
  · refine State.enumAsk_outside hChain hChainPorts hDict hNums hResults hLogs hSb hStraps hJournal hEdges hHost hFlags ?_
    refine State.resBegin_outside hResults ?_
    exact hs
  · exact hs

theorem State.enumCmd_keeps {s : State} {full : Bool} : Kept205 s (State.enumCmd s full) :=
  .of (State.enumCmd_outside rfl rfl rfl rfl rfl rfl rfl rfl rfl rfl rfl rfl rfl)

theorem State.enumCmd_rd {s : State} {full : Bool} {kk : Nat} (hkey : Nums16.contains (Key.fam kk) = false) : (State.enumCmd s full).rd kk = s.rd kk :=
  State.rd_of_outside (M := .but Nums16) (State.enumCmd_outside rfl rfl rfl .self rfl rfl rfl rfl rfl rfl rfl rfl rfl) rfl hkey

theorem State.headSend_outside {M : Touch} {r : State} {s : State} (hChainPorts : M.chainPorts = true) (hNums : M.Nums Nums11) (hs : s.outside M = r) :
    (State.headSend s).outside M = r := by
  unfold State.headSend
  refine State.sendChain_outside hChainPorts hNums ?_
  exact hs

theorem State.headSend_keeps {s : State} : Kept18 s (State.headSend s) :=
  .of (State.headSend_outside rfl rfl rfl)

theorem State.headSend_rd {s : State} {kk : Nat} (hkey : Nums11.contains (Key.fam kk) = false) : (State.headSend s).rd kk = s.rd kk :=
  State.rd_of_outside (M := .but Nums11) (State.headSend_outside rfl .self rfl) rfl hkey

theorem State.takeover_outside {M : Touch} {r : State} {s : State} (hChain : M.chain = true) (hChainPorts : M.chainPorts = true) (hDict : M.dict = true) (hNums : M.Nums Nums78) (hLogs : M.logs = true) (hSb : M.sb = true) (hStraps : M.straps = true) (hJournal : M.journal = true) (hEdges : M.edges = true) (hHost : M.host = true) (hFlags : M.flags = true) (hs : s.outside M = r) :
    (State.takeover s).outside M = r := by
  unfold State.takeover
  extract_lets +onlyGivenNames -merge -underBinder x0
  have q1 : State.outside M x0 = r := by
    unfold x0
    refine State.wr_outside (hNums.at Key.fam_chainRole rfl) ?_
    exact hs
  try clear_value x0
  extract_lets +onlyGivenNames -merge -underBinder x2
  try clear_value x2
  refine State.headSend_outside hChainPorts (hNums.sub rfl) ?_
  refine State.giveMap_outside hChain hChainPorts hDict (hNums.sub rfl) hLogs hSb hStraps hJournal hEdges hHost hFlags ?_
  exact q1

theorem State.takeover_keeps {s : State} : Kept204 s (State.takeover s) :=
  .of (State.takeover_outside rfl rfl rfl rfl rfl rfl rfl rfl rfl rfl rfl rfl)

theorem State.takeover_rd {s : State} {kk : Nat} (hkey : Nums78.contains (Key.fam kk) = false) : (State.takeover s).rd kk = s.rd kk :=
  State.rd_of_outside (M := .but Nums78) (State.takeover_outside rfl rfl rfl .self rfl rfl rfl rfl rfl rfl rfl rfl) rfl hkey

theorem State.toStandby_outside {M : Touch} {r : State} {s : State} (hChain : M.chain = true) (hNums : M.Nums Nums79) (hResults : M.results = true) (hs : s.outside M = r) :
    (State.toStandby s).outside M = r := by
  unfold State.toStandby
  extract_lets +onlyGivenNames -merge -underBinder x0
  unfold x0
  clear x0
  extract_lets +onlyGivenNames -merge -underBinder x1
  have q2 : State.outside M x1 = r := by
    unfold x1
    refine Eq.trans (State.outside_chain_chain (h0 := hChain) ..) ?_
    exact hs
  try clear_value x1
  refine State.resEndIfBusy_outside hResults ?_
  refine State.wr_outside (hNums.at Key.fam_chainEnumState rfl) ?_
  refine State.wr_outside (hNums.at Key.fam_chainRole rfl) ?_
  exact q2

theorem State.toStandby_keeps {s : State} : Kept206 s (State.toStandby s) :=
  .of (State.toStandby_outside rfl rfl rfl rfl)

theorem State.toStandby_rd {s : State} {kk : Nat} (hkey : Nums79.contains (Key.fam kk) = false) : (State.toStandby s).rd kk = s.rd kk :=
  State.rd_of_outside (M := .but Nums79) (State.toStandby_outside rfl .self rfl rfl) rfl hkey

theorem State.switchover_outside {M : Touch} {r : State} {s : State} (hChain : M.chain = true) (hChainPorts : M.chainPorts = true) (hDict : M.dict = true) (hNums : M.Nums Nums80) (hResults : M.results = true) (hLogs : M.logs = true) (hSb : M.sb = true) (hStraps : M.straps = true) (hJournal : M.journal = true) (hEdges : M.edges = true) (hHost : M.host = true) (hFlags : M.flags = true) (hs : s.outside M = r) :
    (State.switchover s).outside M = r := by
  unfold State.switchover
  extract_lets +onlyGivenNames -merge -underBinder x0
  have q1 : State.outside M x0 = r := by
    unfold x0
    refine State.resBegin_outside hResults ?_
    exact hs
  try clear_value x0
  extract_lets +onlyGivenNames -merge -underBinder x2
  have q3 : State.outside M x2 = r := by
    unfold x2
    refine State.sendChain_outside hChainPorts (hNums.sub rfl) ?_
    exact q1
  try clear_value x2
  refine ite_outside ?_ ?_
  · refine ite_outside ?_ ?_
    · refine State.resEnd_outside hResults ?_
      refine State.toStandby_outside hChain (hNums.sub rfl) hResults ?_
      exact q3
    · refine State.resEnd_outside hResults ?_
      exact q1
  · refine ite_outside ?_ ?_
    · refine State.resEnd_outside hResults ?_
      refine State.takeover_outside hChain hChainPorts hDict (hNums.sub rfl) hLogs hSb hStraps hJournal hEdges hHost hFlags ?_
      exact q1
    · refine State.resEnd_outside hResults ?_
      exact q1

theorem State.switchover_keeps {s : State} : Kept205 s (State.switchover s) :=
  .of (State.switchover_outside rfl rfl rfl rfl rfl rfl rfl rfl rfl rfl rfl rfl rfl)

theorem State.switchover_rd {s : State} {kk : Nat} (hkey : Nums80.contains (Key.fam kk) = false) : (State.switchover s).rd kk = s.rd kk :=
  State.rd_of_outside (M := .but Nums80) (State.switchover_outside rfl rfl rfl .self rfl rfl rfl rfl rfl rfl rfl rfl rfl) rfl hkey

theorem State.chainPost_outside {M : Touch} {r : State} {s : State} {c : Err} {p : Side} (hDict : M.dict = true) (hNums : M.Nums Nums2) (hLogs : M.logs = true) (hStraps : M.straps = true) (hJournal : M.journal = true) (hEdges : M.edges = true) (hFlags : M.flags = true) (hs : s.outside M = r) :
    (State.chainPost s c p).outside M = r := by
  unfold State.chainPost
  refine State.post_outside hDict hNums hLogs hStraps hJournal hEdges hFlags ?_
  exact hs

theorem State.chainPost_keeps {s : State} {c : Err} {p : Side} : Kept8 s (State.chainPost s c p) :=
  .of (State.chainPost_outside rfl rfl rfl rfl rfl rfl rfl rfl)

theorem State.chainPost_rd {s : State} {c : Err} {p : Side} {kk : Nat} (hkey : Nums2.contains (Key.fam kk) = false) : (State.chainPost s c p).rd kk = s.rd kk :=
  State.rd_of_outside (M := .but Nums2) (State.chainPost_outside rfl .self rfl rfl rfl rfl rfl rfl) rfl hkey

theorem State.enumForward_outside {M : Touch} {r : State} {s : State} {p : Side} {onward : ChainBody} {back : ChainBody} (hChainPorts : M.chainPorts = true) (hNums : M.Nums Nums11) (hs : s.outside M = r) :
    (State.enumForward s p onward back).outside M = r := by
  unfold State.enumForward
  refine ite_outside ?_ ?_
  · refine State.sendPort_outside hChainPorts hNums ?_
    exact hs
  · refine State.sendPort_outside hChainPorts hNums ?_
    exact hs

theorem State.enumForward_keeps {s : State} {p : Side} {onward : ChainBody} {back : ChainBody} : Kept18 s (State.enumForward s p onward back) :=
  .of (State.enumForward_outside rfl rfl rfl)

theorem State.enumForward_rd {s : State} {p : Side} {onward : ChainBody} {back : ChainBody} {kk : Nat} (hkey : Nums11.contains (Key.fam kk) = false) : (State.enumForward s p onward back).rd kk = s.rd kk :=
  State.rd_of_outside (M := .but Nums11) (State.enumForward_outside rfl .self rfl) rfl hkey

theorem State.setChain_outside {M : Touch} {r : State} {s : State} {c : Chain} (hChain : M.chain = true) (hChainPorts : M.chainPorts = true) (hs : s.outside M = r) :
    (State.setChain s c).outside M = r := by
  unfold State.setChain
  rw [← hs]; simp only [State.outside, hChain, hChainPorts, cond_true]

theorem State.setChain_keeps {s : State} {c : Chain} : Kept207 s (State.setChain s c) :=
  .of (State.setChain_outside rfl rfl rfl)

theorem State.assignRx_outside {M : Touch} {r : State} {s : State} {p : Side} {m : Assign} (hChain : M.chain = true) (hChainPorts : M.chainPorts = true) (hDict : M.dict = true) (hNums : M.Nums Nums84) (hLogs : M.logs = true) (hStraps : M.straps = true) (hJournal : M.journal = true) (hEdges : M.edges = true) (hFlags : M.flags = true) (hs : s.outside M = r) :
    (State.assignRx s p m).outside M = r := by
  unfold State.assignRx
  extract_lets +onlyGivenNames -merge -underBinder x0
  try clear_value x0
  split
  · extract_lets +onlyGivenNames -merge -underBinder x1
    unfold x1
    clear x1
    extract_lets +onlyGivenNames -merge -underBinder x2
    have q3 : State.outside M x2 = r := by
      unfold x2
      refine State.setChain_outside hChain hChainPorts ?_
      refine State.wr_outside (hNums.at Key.fam_chainAddr rfl) ?_
      exact hs
    try clear_value x2
    refine State.enumForward_outside hChainPorts (hNums.sub rfl) ?_
    exact q3
  · extract_lets +onlyGivenNames -merge -underBinder x4
    try clear_value x4
    refine ite_outside ?_ ?_
    · exact hs
    · refine ite_outside ?_ ?_
      · refine State.enumForward_outside hChainPorts (hNums.sub rfl) ?_
        exact hs
      · refine ite_outside ?_ ?_
        · refine State.enumForward_outside hChainPorts (hNums.sub rfl) ?_
          refine State.chainPost_outside hDict (hNums.sub rfl) hLogs hStraps hJournal hEdges hFlags ?_
          exact hs
        · refine State.enumForward_outside hChainPorts (hNums.sub rfl) ?_
          refine State.wr_outside (hNums.at Key.fam_chainAddr rfl) ?_
          exact hs

theorem State.assignRx_keeps {s : State} {p : Side} {m : Assign} : Kept208 s (State.assignRx s p m) :=
  .of (State.assignRx_outside rfl rfl rfl rfl rfl rfl rfl rfl rfl rfl)

theorem State.assignRx_rd {s : State} {p : Side} {m : Assign} {kk : Nat} (hkey : Nums84.contains (Key.fam kk) = false) : (State.assignRx s p m).rd kk = s.rd kk :=
  State.rd_of_outside (M := .but Nums84) (State.assignRx_outside rfl rfl rfl .self rfl rfl rfl rfl rfl rfl) rfl hkey

theorem State.surveyBack_outside {M : Touch} {r : State} {s : State} {m : Survey} {byDone : Bool} (hChain : M.chain = true) (hChainPorts : M.chainPorts = true) (hNums : M.Nums Nums89) (hs : s.outside M = r) :
    (State.surveyBack s m byDone).outside M = r := by
  unfold State.surveyBack
  split
  · exact hs
  · extract_lets +onlyGivenNames -merge -underBinder x0
    have q1 : State.outside M x0 = r := by
      unfold x0
      refine State.takeHead_outside (hNums.sub rfl) ?_
      exact hs
    try clear_value x0
    extract_lets +onlyGivenNames -merge -underBinder x2
    try clear_value x2
    extract_lets +onlyGivenNames -merge -underBinder x3
    try clear_value x3
    extract_lets +onlyGivenNames -merge -underBinder x4
    have q5 : State.outside M x4 = r := by
      unfold x4
      refine State.wr_outside (hNums.at Key.fam_chainEnumState rfl) ?_
      exact q1
    try clear_value x4
    extract_lets +onlyGivenNames -merge -underBinder x6
    unfold x6
    clear x6
    extract_lets +onlyGivenNames -merge -underBinder x7
    have q8 : State.outside M x7 = r := by
      unfold x7
      refine Eq.trans (State.outside_chain_chain (h0 := hChain) ..) ?_
      exact q5
    try clear_value x7
    refine ite_outside ?_ ?_
    · exact hs
    · refine State.sendPort_outside hChainPorts (hNums.sub rfl) ?_
      exact q8

theorem State.surveyBack_keeps {s : State} {m : Survey} {byDone : Bool} : Kept209 s (State.surveyBack s m byDone) :=
  .of (State.surveyBack_outside rfl rfl rfl rfl)

theorem State.surveyBack_rd {s : State} {m : Survey} {byDone : Bool} {kk : Nat} (hkey : Nums89.contains (Key.fam kk) = false) : (State.surveyBack s m byDone).rd kk = s.rd kk :=
  State.rd_of_outside (M := .but Nums89) (State.surveyBack_outside rfl rfl .self rfl) rfl hkey

theorem State.mergeMap_outside {M : Touch} {r : State} {s : State} {t : Topo} (hChain : M.chain = true) (hChainPorts : M.chainPorts = true) (hDict : M.dict = true) (hNums : M.Nums Nums16) (hResults : M.results = true) (hLogs : M.logs = true) (hSb : M.sb = true) (hStraps : M.straps = true) (hJournal : M.journal = true) (hEdges : M.edges = true) (hHost : M.host = true) (hFlags : M.flags = true) (hs : s.outside M = r) :
    (State.mergeMap s t).outside M = r := by
  unfold State.mergeMap
  extract_lets +onlyGivenNames -merge -underBinder x0
  try clear_value x0
  extract_lets +onlyGivenNames -merge -underBinder x1
  try clear_value x1
  extract_lets +onlyGivenNames -merge -underBinder x2
  try clear_value x2
  extract_lets +onlyGivenNames -merge -underBinder x3
  try clear_value x3
  extract_lets +onlyGivenNames -merge -underBinder x4
  have q5 : State.outside M x4 = r := by
    unfold x4
    refine State.giveMap_outside hChain hChainPorts hDict (hNums.sub rfl) hLogs hSb hStraps hJournal hEdges hHost hFlags ?_
    exact hs
  try clear_value x4
  refine ite_outside ?_ ?_
  · refine State.enumAsk_outside hChain hChainPorts hDict hNums hResults hLogs hSb hStraps hJournal hEdges hHost hFlags ?_
    exact q5
  · exact q5

theorem State.mergeMap_keeps {s : State} {t : Topo} : Kept205 s (State.mergeMap s t) :=
  .of (State.mergeMap_outside rfl rfl rfl rfl rfl rfl rfl rfl rfl rfl rfl rfl rfl)

theorem State.mergeMap_rd {s : State} {t : Topo} {kk : Nat} (hkey : Nums16.contains (Key.fam kk) = false) : (State.mergeMap s t).rd kk = s.rd kk :=
  State.rd_of_outside (M := .but Nums16) (State.mergeMap_outside rfl rfl rfl .self rfl rfl rfl rfl rfl rfl rfl rfl rfl) rfl hkey

theorem State.takeMap_outside {M : Touch} {r : State} {s : State} {t : Topo} (hChain : M.chain = true) (hDict : M.dict = true) (hNums : M.Nums Nums90) (hLogs : M.logs = true) (hSb : M.sb = true) (hStraps : M.straps = true) (hJournal : M.journal = true) (hEdges : M.edges = true) (hHost : M.host = true) (hFlags : M.flags = true) (hs : s.outside M = r) :
    (State.takeMap s t).outside M = r := by
  unfold State.takeMap
  extract_lets +onlyGivenNames -merge -underBinder x0
  unfold x0
  clear x0
  refine State.pathCheck_outside hDict (hNums.sub rfl) hLogs hStraps hJournal hEdges hHost hFlags ?_
  refine State.topoValues_outside (hNums.sub rfl) hSb ?_
  refine Eq.trans (State.outside_chain_chain (h0 := hChain) ..) ?_
  exact hs

theorem State.takeMap_keeps {s : State} {t : Topo} : Kept210 s (State.takeMap s t) :=
  .of (State.takeMap_outside rfl rfl rfl rfl rfl rfl rfl rfl rfl rfl rfl)

theorem State.takeMap_rd {s : State} {t : Topo} {kk : Nat} (hkey : Nums90.contains (Key.fam kk) = false) : (State.takeMap s t).rd kk = s.rd kk :=
  State.rd_of_outside (M := .but Nums90) (State.takeMap_outside rfl rfl .self rfl rfl rfl rfl rfl rfl rfl rfl) rfl hkey

theorem State.memberMap_outside {M : Touch} {r : State} {s : State} {t : Topo} (hChain : M.chain = true) (hDict : M.dict = true) (hNums : M.Nums Nums91) (hLogs : M.logs = true) (hSb : M.sb = true) (hStraps : M.straps = true) (hJournal : M.journal = true) (hEdges : M.edges = true) (hHost : M.host = true) (hFlags : M.flags = true) (hs : s.outside M = r) :
    (State.memberMap s t).outside M = r := by
  unfold State.memberMap
  extract_lets +onlyGivenNames -merge -underBinder x0
  unfold x0
  clear x0
  extract_lets +onlyGivenNames -merge -underBinder x1
  have q2 : State.outside M x1 = r := by
    unfold x1
    refine Eq.trans (State.outside_chain_chain (h0 := hChain) ..) ?_
    exact hs
  try clear_value x1
  extract_lets +onlyGivenNames -merge -underBinder x3
  have q4 : State.outside M x3 = r := by
    unfold x3
    refine ite_outside ?_ ?_
    · refine State.wr_outside (hNums.at Key.fam_chainAddr rfl) ?_
      exact q2
    · exact q2
  try clear_value x3
  refine State.takeMap_outside hChain hDict (hNums.sub rfl) hLogs hSb hStraps hJournal hEdges hHost hFlags ?_
  exact q4

theorem State.memberMap_keeps {s : State} {t : Topo} : Kept210 s (State.memberMap s t) :=
  .of (State.memberMap_outside rfl rfl rfl rfl rfl rfl rfl rfl rfl rfl rfl)

theorem State.memberMap_rd {s : State} {t : Topo} {kk : Nat} (hkey : Nums91.contains (Key.fam kk) = false) : (State.memberMap s t).rd kk = s.rd kk :=
  State.rd_of_outside (M := .but Nums91) (State.memberMap_outside rfl rfl .self rfl rfl rfl rfl rfl rfl rfl rfl) rfl hkey

theorem State.topoRx_outside {M : Touch} {r : State} {s : State} {m : TopoMsg} (hChain : M.chain = true) (hChainPorts : M.chainPorts = true) (hDict : M.dict = true) (hNums : M.Nums Nums16) (hResults : M.results = true) (hLogs : M.logs = true) (hSb : M.sb = true) (hStraps : M.straps = true) (hJournal : M.journal = true) (hEdges : M.edges = true) (hHost : M.host = true) (hFlags : M.flags = true) (hs : s.outside M = r) :
    (State.topoRx s m).outside M = r := by
  unfold State.topoRx
  split
  · extract_lets +onlyGivenNames -merge -underBinder x0
    try clear_value x0
    refine ite_outside ?_ ?_
    · refine State.giveMap_outside hChain hChainPorts hDict (hNums.sub rfl) hLogs hSb hStraps hJournal hEdges hHost hFlags ?_
      exact hs
    · exact hs
  · extract_lets +onlyGivenNames -merge -underBinder x1
    have q2 : State.outside M x1 = r := by
      unfold x1
      refine ite_outside ?_ ?_
      · refine State.toStandby_outside hChain (hNums.sub rfl) hResults ?_
        exact hs
      · exact hs
    try clear_value x1
    refine ite_outside ?_ ?_
    · refine ite_outside ?_ ?_
      · refine State.mergeMap_outside hChain hChainPorts hDict hNums hResults hLogs hSb hStraps hJournal hEdges hHost hFlags ?_
        exact hs
      · refine ite_outside ?_ ?_
        · refine State.memberMap_outside hChain hDict (hNums.sub rfl) hLogs hSb hStraps hJournal hEdges hHost hFlags ?_
          refine State.toStandby_outside hChain (hNums.sub rfl) hResults ?_
          exact hs
        · exact hs
    · refine State.memberMap_outside hChain hDict (hNums.sub rfl) hLogs hSb hStraps hJournal hEdges hHost hFlags ?_
      exact q2

theorem State.topoRx_keeps {s : State} {m : TopoMsg} : Kept205 s (State.topoRx s m) :=
  .of (State.topoRx_outside rfl rfl rfl rfl rfl rfl rfl rfl rfl rfl rfl rfl rfl)

theorem State.topoRx_rd {s : State} {m : TopoMsg} {kk : Nat} (hkey : Nums16.contains (Key.fam kk) = false) : (State.topoRx s m).rd kk = s.rd kk :=
  State.rd_of_outside (M := .but Nums16) (State.topoRx_outside rfl rfl rfl .self rfl rfl rfl rfl rfl rfl rfl rfl rfl) rfl hkey

theorem State.surveyPass_outside {M : Touch} {r : State} {s : State} {p : Side} {m : Survey} (hChain : M.chain = true) (hChainPorts : M.chainPorts = true) (hDict : M.dict = true) (hNums : M.Nums Nums84) (hLogs : M.logs = true) (hStraps : M.straps = true) (hJournal : M.journal = true) (hEdges : M.edges = true) (hFlags : M.flags = true) (hs : s.outside M = r) :
    (State.surveyPass s p m).outside M = r := by
  unfold State.surveyPass
  extract_lets +onlyGivenNames -merge -underBinder x0
  try clear_value x0
  extract_lets +onlyGivenNames -merge -underBinder x1
  have q2 : State.outside M x1 = r := by
    unfold x1
    refine ite_outside ?_ ?_
    · refine State.chainPost_outside hDict (hNums.sub rfl) hLogs hStraps hJournal hEdges hFlags ?_
      exact hs
    · exact hs
  try clear_value x1
  extract_lets +onlyGivenNames -merge -underBinder x3
  have q4 : State.outside M x3 = r := by
    unfold x3
    refine ite_outside ?_ ?_
    · refine State.wr_outside (hNums.at Key.fam_chainAddr rfl) ?_
      exact q2
    · exact q2
  try clear_value x3
  extract_lets +onlyGivenNames -merge -underBinder x5
  unfold x5
  clear x5
  extract_lets +onlyGivenNames -merge -underBinder x6
  have q7 : State.outside M x6 = r := by
    unfold x6
    refine Eq.trans (State.outside_chain_chain (h0 := hChain) ..) ?_
    exact q4
  try clear_value x6
  extract_lets +onlyGivenNames -merge -underBinder x8
  try clear_value x8
  extract_lets +onlyGivenNames -merge -underBinder x9
  try clear_value x9
  refine State.enumForward_outside hChainPorts (hNums.sub rfl) ?_
  exact q7

theorem State.surveyPass_keeps {s : State} {p : Side} {m : Survey} : Kept208 s (State.surveyPass s p m) :=
  .of (State.surveyPass_outside rfl rfl rfl rfl rfl rfl rfl rfl rfl rfl)

theorem State.surveyPass_rd {s : State} {p : Side} {m : Survey} {kk : Nat} (hkey : Nums84.contains (Key.fam kk) = false) : (State.surveyPass s p m).rd kk = s.rd kk :=
  State.rd_of_outside (M := .but Nums84) (State.surveyPass_outside rfl rfl rfl .self rfl rfl rfl rfl rfl rfl) rfl hkey

theorem State.surveyRx_outside {M : Touch} {r : State} {s : State} {p : Side} {m : Survey} (hChain : M.chain = true) (hChainPorts : M.chainPorts = true) (hDict : M.dict = true) (hNums : M.Nums Nums16) (hResults : M.results = true) (hLogs : M.logs = true) (hSb : M.sb = true) (hStraps : M.straps = true) (hJournal : M.journal = true) (hEdges : M.edges = true) (hHost : M.host = true) (hFlags : M.flags = true) (hs : s.outside M = r) :
    (State.surveyRx s p m).outside M = r := by
  unfold State.surveyRx
  extract_lets +onlyGivenNames -merge -underBinder x0
  have q1 : State.outside M x0 = r := by
    unfold x0
    refine ite_outside ?_ ?_
    · refine State.toStandby_outside hChain (hNums.sub rfl) hResults ?_
      exact hs
    · exact hs
  try clear_value x0
  refine ite_outside ?_ ?_
  · refine ite_outside ?_ ?_
    · exact hs
    · refine State.enumAsk_outside hChain hChainPorts hDict hNums hResults hLogs hSb hStraps hJournal hEdges hHost hFlags ?_
      exact hs
  · refine State.surveyPass_outside hChain hChainPorts hDict (hNums.sub rfl) hLogs hStraps hJournal hEdges hFlags ?_
    exact q1

theorem State.surveyRx_keeps {s : State} {p : Side} {m : Survey} : Kept205 s (State.surveyRx s p m) :=
  .of (State.surveyRx_outside rfl rfl rfl rfl rfl rfl rfl rfl rfl rfl rfl rfl rfl)

theorem State.surveyRx_rd {s : State} {p : Side} {m : Survey} {kk : Nat} (hkey : Nums16.contains (Key.fam kk) = false) : (State.surveyRx s p m).rd kk = s.rd kk :=
  State.rd_of_outside (M := .but Nums16) (State.surveyRx_outside rfl rfl rfl .self rfl rfl rfl rfl rfl rfl rfl rfl rfl) rfl hkey

theorem State.linkReport_outside {M : Touch} {r : State} {s : State} (hChain : M.chain = true) (hChainPorts : M.chainPorts = true) (hDict : M.dict = true) (hNums : M.Nums Nums13) (hLogs : M.logs = true) (hSb : M.sb = true) (hStraps : M.straps = true) (hJournal : M.journal = true) (hEdges : M.edges = true) (hHost : M.host = true) (hFlags : M.flags = true) (hs : s.outside M = r) :
    (State.linkReport s).outside M = r := by
  unfold State.linkReport
  extract_lets +onlyGivenNames -merge -underBinder x0
  try clear_value x0
  extract_lets +onlyGivenNames -merge -underBinder x1
  try clear_value x1
  extract_lets +onlyGivenNames -merge -underBinder x2
  unfold x2
  clear x2
  extract_lets +onlyGivenNames -merge -underBinder x3
  have q4 : State.outside M x3 = r := by
    unfold x3
    refine State.pathCheck_outside hDict (hNums.sub rfl) hLogs hStraps hJournal hEdges hHost hFlags ?_
    refine Eq.trans (State.outside_chain_chain (h0 := hChain) ..) ?_
    exact hs
  try clear_value x3
  extract_lets +onlyGivenNames -merge -underBinder x5
  try clear_value x5
  refine ite_outside ?_ ?_
  · refine State.giveMap_outside hChain hChainPorts hDict hNums hLogs hSb hStraps hJournal hEdges hHost hFlags ?_
    exact hs
  · refine ite_outside ?_ ?_
    · refine State.each_outside ?_ ?_
      · intro t6 q7 z8
        refine ite_outside ?_ ?_
        · refine State.queueAt_outside hChainPorts (hNums.sub rfl) ?_
          exact q7
        · exact q7
      · exact q4
    · refine State.sendChain_outside hChainPorts (hNums.sub rfl) ?_
      exact q4

theorem State.linkReport_keeps {s : State} : Kept204 s (State.linkReport s) :=
  .of (State.linkReport_outside rfl rfl rfl rfl rfl rfl rfl rfl rfl rfl rfl rfl)

theorem State.linkReport_rd {s : State} {kk : Nat} (hkey : Nums13.contains (Key.fam kk) = false) : (State.linkReport s).rd kk = s.rd kk :=
  State.rd_of_outside (M := .but Nums13) (State.linkReport_outside rfl rfl rfl .self rfl rfl rfl rfl rfl rfl rfl rfl) rfl hkey

theorem State.setLink_outside {M : Touch} {r : State} {s : State} {p : Side} {x : Nat} (hNums : M.Nums Nums94) (hEdges : M.edges = true) (hs : s.outside M = r) :
    (State.setLink s p x).outside M = r := by
  unfold State.setLink
  refine State.wrEdge_outside (hNums.at Key.fam_linkState rfl) hEdges ?_
  exact hs

theorem State.setLink_keeps {s : State} {p : Side} {x : Nat} : Kept9 s (State.setLink s p x) :=
  .of (State.setLink_outside rfl rfl rfl)

theorem State.setLink_rd {s : State} {p : Side} {x : Nat} {kk : Nat} (hkey : Nums94.contains (Key.fam kk) = false) : (State.setLink s p x).rd kk = s.rd kk :=
  State.rd_of_outside (M := .but Nums94) (State.setLink_outside .self rfl rfl) rfl hkey

theorem State.linkHello_outside {M : Touch} {r : State} {s : State} {p : Side} {m : LinkMsg} (hChain : M.chain = true) (hChainPorts : M.chainPorts = true) (hDict : M.dict = true) (hNums : M.Nums Nums95) (hLogs : M.logs = true) (hSb : M.sb = true) (hStraps : M.straps = true) (hJournal : M.journal = true) (hEdges : M.edges = true) (hHost : M.host = true) (hFlags : M.flags = true) (hs : s.outside M = r) :
    (State.linkHello s p m).outside M = r := by
  unfold State.linkHello
  extract_lets +onlyGivenNames -merge -underBinder x0
  try clear_value x0
  extract_lets +onlyGivenNames -merge -underBinder x1
  try clear_value x1
  extract_lets +onlyGivenNames -merge -underBinder x2
  try clear_value x2
  extract_lets +onlyGivenNames -merge -underBinder x3
  have q4 : State.outside M x3 = r := by
    unfold x3
    refine State.setCport_outside hChainPorts ?_
    exact hs
  try clear_value x3
  extract_lets +onlyGivenNames -merge -underBinder x5
  try clear_value x5
  extract_lets +onlyGivenNames -merge -underBinder x6
  have q7 : State.outside M x6 = r := by
    unfold x6
    refine State.setCport_outside hChainPorts ?_
    exact hs
  try clear_value x6
  refine ite_outside ?_ ?_
  · refine ite_outside ?_ ?_
    · exact q4
    · refine State.chainPost_outside hDict (hNums.sub rfl) hLogs hStraps hJournal hEdges hFlags ?_
      exact q4
  · refine ite_outside ?_ ?_
    · refine ite_outside ?_ ?_
      · exact q4
      · refine State.chainPost_outside hDict (hNums.sub rfl) hLogs hStraps hJournal hEdges hFlags ?_
        exact q4
    · refine State.linkReport_outside hChain hChainPorts hDict (hNums.sub rfl) hLogs hSb hStraps hJournal hEdges hHost hFlags ?_
      refine State.setLink_outside (hNums.sub rfl) hEdges ?_
      exact q7

theorem State.linkHello_keeps {s : State} {p : Side} {m : LinkMsg} : Kept204 s (State.linkHello s p m) :=
  .of (State.linkHello_outside rfl rfl rfl rfl rfl rfl rfl rfl rfl rfl rfl rfl)

theorem State.linkHello_rd {s : State} {p : Side} {m : LinkMsg} {kk : Nat} (hkey : Nums95.contains (Key.fam kk) = false) : (State.linkHello s p m).rd kk = s.rd kk :=
  State.rd_of_outside (M := .but Nums95) (State.linkHello_outside rfl rfl rfl .self rfl rfl rfl rfl rfl rfl rfl rfl) rfl hkey

theorem State.linkRx_outside {M : Touch} {r : State} {s : State} {p : Side} {m : LinkMsg} (hChain : M.chain = true) (hChainPorts : M.chainPorts = true) (hDict : M.dict = true) (hNums : M.Nums Nums95) (hLogs : M.logs = true) (hSb : M.sb = true) (hStraps : M.straps = true) (hJournal : M.journal = true) (hEdges : M.edges = true) (hHost : M.host = true) (hFlags : M.flags = true) (hs : s.outside M = r) :
    (State.linkRx s p m).outside M = r := by
  unfold State.linkRx
  extract_lets +onlyGivenNames -merge -underBinder x0
  try clear_value x0
  refine ite_outside ?_ ?_
  · refine State.linkHello_outside hChain hChainPorts hDict hNums hLogs hSb hStraps hJournal hEdges hHost hFlags ?_
    exact hs
  · refine ite_outside ?_ ?_
    · refine State.setCport_outside hChainPorts ?_
      exact hs
    · exact hs

theorem State.linkRx_keeps {s : State} {p : Side} {m : LinkMsg} : Kept204 s (State.linkRx s p m) :=
  .of (State.linkRx_outside rfl rfl rfl rfl rfl rfl rfl rfl rfl rfl rfl rfl)

theorem State.linkRx_rd {s : State} {p : Side} {m : LinkMsg} {kk : Nat} (hkey : Nums95.contains (Key.fam kk) = false) : (State.linkRx s p m).rd kk = s.rd kk :=
  State.rd_of_outside (M := .but Nums95) (State.linkRx_outside rfl rfl rfl .self rfl rfl rfl rfl rfl rfl rfl rfl) rfl hkey

theorem State.yieldHead_outside {M : Touch} {r : State} {s : State} {dest : Nat} (hChain : M.chain = true) (hChainPorts : M.chainPorts = true) (hDict : M.dict = true) (hNums : M.Nums Nums80) (hResults : M.results = true) (hLogs : M.logs = true) (hSb : M.sb = true) (hStraps : M.straps = true) (hJournal : M.journal = true) (hEdges : M.edges = true) (hHost : M.host = true) (hFlags : M.flags = true) (hs : s.outside M = r) :
    (State.yieldHead s dest).outside M = r := by
  unfold State.yieldHead
  extract_lets +onlyGivenNames -merge -underBinder x0
  have q1 : State.outside M x0 = r := by
    unfold x0
    refine State.toStandby_outside hChain (hNums.sub rfl) hResults ?_
    exact hs
  try clear_value x0
  extract_lets +onlyGivenNames -merge -underBinder x2
  try clear_value x2
  extract_lets +onlyGivenNames -merge -underBinder x3
  try clear_value x3
  refine State.sendChain_outside hChainPorts (hNums.sub rfl) ?_
  refine State.takeMap_outside hChain hDict (hNums.sub rfl) hLogs hSb hStraps hJournal hEdges hHost hFlags ?_
  exact q1

theorem State.yieldHead_keeps {s : State} {dest : Nat} : Kept205 s (State.yieldHead s dest) :=
  .of (State.yieldHead_outside rfl rfl rfl rfl rfl rfl rfl rfl rfl rfl rfl rfl rfl)

theorem State.yieldHead_rd {s : State} {dest : Nat} {kk : Nat} (hkey : Nums80.contains (Key.fam kk) = false) : (State.yieldHead s dest).rd kk = s.rd kk :=
  State.rd_of_outside (M := .but Nums80) (State.yieldHead_outside rfl rfl rfl .self rfl rfl rfl rfl rfl rfl rfl rfl rfl) rfl hkey

theorem State.headRx_outside {M : Touch} {r : State} {s : State} {m : HeadMsg} (hChain : M.chain = true) (hChainPorts : M.chainPorts = true) (hDict : M.dict = true) (hNums : M.Nums Nums80) (hResults : M.results = true) (hLogs : M.logs = true) (hSb : M.sb = true) (hStraps : M.straps = true) (hJournal : M.journal = true) (hEdges : M.edges = true) (hHost : M.host = true) (hFlags : M.flags = true) (hs : s.outside M = r) :
    (State.headRx s m).outside M = r := by
  unfold State.headRx
  extract_lets +onlyGivenNames -merge -underBinder x0
  try clear_value x0
  extract_lets +onlyGivenNames -merge -underBinder x1
  unfold x1
  clear x1
  extract_lets +onlyGivenNames -merge -underBinder x2
  have q3 : State.outside M x2 = r := by
    unfold x2
    refine Eq.trans (State.outside_chain_chain (h0 := hChain) ..) ?_
    exact hs
  try clear_value x2
  refine ite_outside ?_ ?_
  · exact hs
  · refine ite_outside ?_ ?_
    · refine ite_outside ?_ ?_
      · exact hs
      · refine ite_outside ?_ ?_
        · refine State.toStandby_outside hChain (hNums.sub rfl) hResults ?_
          exact hs
        · refine ite_outside ?_ ?_
          · refine State.yieldHead_outside hChain hChainPorts hDict hNums hResults hLogs hSb hStraps hJournal hEdges hHost hFlags ?_
            exact hs
          · exact hs
    · refine ite_outside ?_ ?_
      · refine ite_outside ?_ ?_
        · refine State.takeover_outside hChain hChainPorts hDict (hNums.sub rfl) hLogs hSb hStraps hJournal hEdges hHost hFlags ?_
          exact q3
        · exact q3
      · refine ite_outside ?_ ?_
        · exact q3
        · refine ite_outside ?_ ?_
          · refine State.toStandby_outside hChain (hNums.sub rfl) hResults ?_
            exact q3
          · exact q3

theorem State.headRx_keeps {s : State} {m : HeadMsg} : Kept205 s (State.headRx s m) :=
  .of (State.headRx_outside rfl rfl rfl rfl rfl rfl rfl rfl rfl rfl rfl rfl rfl)

theorem State.headRx_rd {s : State} {m : HeadMsg} {kk : Nat} (hkey : Nums80.contains (Key.fam kk) = false) : (State.headRx s m).rd kk = s.rd kk :=
  State.rd_of_outside (M := .but Nums80) (State.headRx_outside rfl rfl rfl .self rfl rfl rfl rfl rfl rfl rfl rfl rfl) rfl hkey

theorem State.linkFall_outside {M : Touch} {r : State} {s : State} {p : Side} (hChain : M.chain = true) (hChainPorts : M.chainPorts = true) (hDict : M.dict = true) (hNums : M.Nums Nums130) (hLogs : M.logs = true) (hSb : M.sb = true) (hStraps : M.straps = true) (hJournal : M.journal = true) (hEdges : M.edges = true) (hHost : M.host = true) (hFlags : M.flags = true) (hs : s.outside M = r) :
    (State.linkFall s p).outside M = r := by
  unfold State.linkFall
  extract_lets +onlyGivenNames -merge -underBinder x0
  try clear_value x0
  extract_lets +onlyGivenNames -merge -underBinder x1
  have q2 : State.outside M x1 = r := by
    unfold x1
    refine State.each_outside ?_ ?_
    · intro t3 q4 z5
      refine State.credit_outside hChainPorts ?_
      exact q4
    · exact hs
  try clear_value x1
  extract_lets +onlyGivenNames -merge -underBinder x6
  have q7 : State.outside M x6 = r := by
    unfold x6
    refine State.setLink_outside (hNums.sub rfl) hEdges ?_
    refine State.setCport_outside hChainPorts ?_
    exact q2
  try clear_value x6
  extract_lets +onlyGivenNames -merge -underBinder x8
  unfold x8
  clear x8
  extract_lets +onlyGivenNames -merge -underBinder x9
  have q10 : State.outside M x9 = r := by
    unfold x9
    refine Eq.trans (State.outside_dict_dict (h0 := hDict) ..) ?_
    exact q7
  try clear_value x9
  extract_lets +onlyGivenNames -merge -underBinder x11
  have q12 : State.outside M x11 = r := by
    unfold x11
    refine State.bump_outside (hNums.at Key.fam_noRoute rfl) ?_
    refine State.bump_outside (hNums.at Key.fam_linkDownEvents rfl) ?_
    exact q10
  try clear_value x11
  refine ite_outside ?_ ?_
  · exact hs
  · refine State.linkReport_outside hChain hChainPorts hDict (hNums.sub rfl) hLogs hSb hStraps hJournal hEdges hHost hFlags ?_
    exact q12

theorem State.linkFall_keeps {s : State} {p : Side} : Kept204 s (State.linkFall s p) :=
  .of (State.linkFall_outside rfl rfl rfl rfl rfl rfl rfl rfl rfl rfl rfl rfl)

theorem State.linkFall_rd {s : State} {p : Side} {kk : Nat} (hkey : Nums130.contains (Key.fam kk) = false) : (State.linkFall s p).rd kk = s.rd kk :=
  State.rd_of_outside (M := .but Nums130) (State.linkFall_outside rfl rfl rfl .self rfl rfl rfl rfl rfl rfl rfl rfl) rfl hkey

theorem State.linkTx_outside {M : Touch} {r : State} {s : State} {p : Side} (hOut : M.out = true) (hChainPorts : M.chainPorts = true) (hs : s.outside M = r) :
    (State.linkTx s p).outside M = r := by
  unfold State.linkTx
  extract_lets +onlyGivenNames -merge -underBinder x0
  try clear_value x0
  extract_lets +onlyGivenNames -merge -underBinder x1
  try clear_value x1
  extract_lets +onlyGivenNames -merge -underBinder x2
  try clear_value x2
  refine ite_outside ?_ ?_
  · refine State.emit_outside hOut ?_
    refine State.setCport_outside hChainPorts ?_
    exact hs
  · exact hs

theorem State.linkTx_keeps {s : State} {p : Side} : Kept211 s (State.linkTx s p) :=
  .of (State.linkTx_outside rfl rfl rfl)

theorem State.newCandidate_outside {M : Touch} {r : State} {s : State} (hChain : M.chain = true) (hChainPorts : M.chainPorts = true) (hDict : M.dict = true) (hNums : M.Nums Nums16) (hResults : M.results = true) (hLogs : M.logs = true) (hSb : M.sb = true) (hStraps : M.straps = true) (hJournal : M.journal = true) (hEdges : M.edges = true) (hHost : M.host = true) (hFlags : M.flags = true) (hs : s.outside M = r) :
    (State.newCandidate s).outside M = r := by
  unfold State.newCandidate
  refine ite_outside ?_ ?_
  · exact hs
  · refine ite_outside ?_ ?_
    · refine ite_outside ?_ ?_
      · refine State.toStandby_outside hChain (hNums.sub rfl) hResults ?_
        exact hs
      · exact hs
    · refine State.enumAsk_outside hChain hChainPorts hDict hNums hResults hLogs hSb hStraps hJournal hEdges hHost hFlags ?_
      exact hs

theorem State.newCandidate_keeps {s : State} : Kept205 s (State.newCandidate s) :=
  .of (State.newCandidate_outside rfl rfl rfl rfl rfl rfl rfl rfl rfl rfl rfl rfl rfl)

theorem State.newCandidate_rd {s : State} {kk : Nat} (hkey : Nums16.contains (Key.fam kk) = false) : (State.newCandidate s).rd kk = s.rd kk :=
  State.rd_of_outside (M := .but Nums16) (State.newCandidate_outside rfl rfl rfl .self rfl rfl rfl rfl rfl rfl rfl rfl rfl) rfl hkey

theorem State.noCandidate_outside {M : Touch} {r : State} {s : State} (hChain : M.chain = true) (hNums : M.Nums Nums79) (hs : s.outside M = r) :
    (State.noCandidate s).outside M = r := by
  unfold State.noCandidate
  extract_lets +onlyGivenNames -merge -underBinder x0
  unfold x0
  clear x0
  refine ite_outside ?_ ?_
  · refine State.wr_outside (hNums.at Key.fam_chainEnumState rfl) ?_
    refine State.wr_outside (hNums.at Key.fam_chainRole rfl) ?_
    refine Eq.trans (State.outside_chain_chain (h0 := hChain) ..) ?_
    exact hs
  · exact hs

theorem State.noCandidate_keeps {s : State} : Kept212 s (State.noCandidate s) :=
  .of (State.noCandidate_outside rfl rfl rfl)

theorem State.noCandidate_rd {s : State} {kk : Nat} (hkey : Nums79.contains (Key.fam kk) = false) : (State.noCandidate s).rd kk = s.rd kk :=
  State.rd_of_outside (M := .but Nums79) (State.noCandidate_outside rfl .self rfl) rfl hkey

theorem execLinkLocked_outside {M : Touch} {r : State} {p : Side} {s : State} (hOut : M.out = true) (hChainPorts : M.chainPorts = true) (hNums : M.Nums Nums94) (hEdges : M.edges = true) (hs : s.outside M = r) :
    NextOutside M r (execLinkLocked p s) := by
  unfold execLinkLocked
  refine next_outside ?_
  refine ite_outside ?_ ?_
  · refine State.linkTx_outside hOut hChainPorts ?_
    refine State.setLink_outside hNums hEdges ?_
    exact hs
  · exact hs

theorem execLinkDown_outside {M : Touch} {r : State} {p : Side} {s : State} (hChain : M.chain = true) (hChainPorts : M.chainPorts = true) (hDict : M.dict = true) (hNums : M.Nums Nums130) (hLogs : M.logs = true) (hSb : M.sb = true) (hStraps : M.straps = true) (hJournal : M.journal = true) (hEdges : M.edges = true) (hHost : M.host = true) (hFlags : M.flags = true) (hs : s.outside M = r) :
    NextOutside M r (execLinkDown p s) := by
  unfold execLinkDown
  refine next_outside ?_
  refine State.linkFall_outside hChain hChainPorts hDict hNums hLogs hSb hStraps hJournal hEdges hHost hFlags ?_
  exact hs

theorem execHeadMissTakeover_outside {M : Touch} {r : State} {dt : Nat} {s : State} (hClock : M.clock = true) (hChain : M.chain = true) (hChainPorts : M.chainPorts = true) (hDict : M.dict = true) (hNums : M.Nums Nums78) (hLogs : M.logs = true) (hVbat : M.vbat = true) (hSb : M.sb = true) (hStraps : M.straps = true) (hJournal : M.journal = true) (hEdges : M.edges = true) (hHost : M.host = true) (hFlags : M.flags = true) (hs : s.outside M = r) :
    NextOutside M r (execHeadMissTakeover dt s) := by
  unfold execHeadMissTakeover
  extract_lets +onlyGivenNames -merge -underBinder x0
  have q1 : State.outside M x0 = r := by
    unfold x0
    refine State.advance_outside hClock hVbat ?_
    exact hs
  try clear_value x0
  refine next_outside ?_
  refine ite_outside ?_ ?_
  · refine State.takeover_outside hChain hChainPorts hDict hNums hLogs hSb hStraps hJournal hEdges hHost hFlags ?_
    exact q1
  · exact q1

theorem execChainEnumIncremental_outside {M : Touch} {r : State} {s : State} (hChain : M.chain = true) (hChainPorts : M.chainPorts = true) (hDict : M.dict = true) (hNums : M.Nums Nums16) (hResults : M.results = true) (hLogs : M.logs = true) (hSb : M.sb = true) (hStraps : M.straps = true) (hJournal : M.journal = true) (hEdges : M.edges = true) (hHost : M.host = true) (hFlags : M.flags = true) (hs : s.outside M = r) :
    NextOutside M r (execChainEnumIncremental s) := by
  unfold execChainEnumIncremental
  refine next_outside ?_
  refine ite_outside ?_ ?_
  · exact hs
  · refine State.enumCmd_outside hChain hChainPorts hDict hNums hResults hLogs hSb hStraps hJournal hEdges hHost hFlags ?_
    exact hs

theorem execPcieLinkDown_outside {M : Touch} {r : State} {s : State} (hChain : M.chain = true) (hChainPorts : M.chainPorts = true) (hDict : M.dict = true) (hNums : M.Nums Nums155) (hLogs : M.logs = true) (hStraps : M.straps = true) (hJournal : M.journal = true) (hEdges : M.edges = true) (hHost : M.host = true) (hFlags : M.flags = true) (hs : s.outside M = r) :
    NextOutside M r (execPcieLinkDown s) := by
  unfold execPcieLinkDown
  extract_lets +onlyGivenNames -merge -underBinder x0
  unfold x0
  clear x0
  extract_lets +onlyGivenNames -merge -underBinder x1
  have q2 : State.outside M x1 = r := by
    unfold x1
    refine State.post_outside hDict (hNums.sub rfl) hLogs hStraps hJournal hEdges hFlags ?_
    refine State.hifReset_outside hHost hFlags ?_
    refine State.raise_outside hEdges ?_
    refine Eq.trans (State.outside_host_host (h0 := hHost) ..) ?_
    exact hs
  try clear_value x1
  extract_lets +onlyGivenNames -merge -underBinder x3
  have q4 : State.outside M x3 = r := by
    unfold x3
    refine ite_outside ?_ ?_
    · refine State.headSend_outside hChainPorts (hNums.sub rfl) ?_
      exact q2
    · exact q2
  try clear_value x3
  refine next_outside ?_
  refine ite_outside ?_ ?_
  · exact hs
  · refine State.pathCheck_outside hDict (hNums.sub rfl) hLogs hStraps hJournal hEdges hHost hFlags ?_
    refine State.noCandidate_outside hChain (hNums.sub rfl) ?_
    exact q4

theorem execChainSwitchover_outside {M : Touch} {r : State} {s : State} (hChain : M.chain = true) (hChainPorts : M.chainPorts = true) (hDict : M.dict = true) (hNums : M.Nums Nums80) (hResults : M.results = true) (hLogs : M.logs = true) (hSb : M.sb = true) (hStraps : M.straps = true) (hJournal : M.journal = true) (hEdges : M.edges = true) (hHost : M.host = true) (hFlags : M.flags = true) (hs : s.outside M = r) :
    NextOutside M r (execChainSwitchover s) := by
  unfold execChainSwitchover
  refine next_outside ?_
  refine ite_outside ?_ ?_
  · exact hs
  · refine State.switchover_outside hChain hChainPorts hDict hNums hResults hLogs hSb hStraps hJournal hEdges hHost hFlags ?_
    exact hs

theorem execHeadSelChange_outside {M : Touch} {r : State} {high : Bool} {s : State} (hPins : M.pins = true) (hChain : M.chain = true) (hChainPorts : M.chainPorts = true) (hDict : M.dict = true) (hNums : M.Nums Nums16) (hResults : M.results = true) (hLogs : M.logs = true) (hSb : M.sb = true) (hStraps : M.straps = true) (hJournal : M.journal = true) (hEdges : M.edges = true) (hHost : M.host = true) (hFlags : M.flags = true) (hs : s.outside M = r) :
    NextOutside M r (execHeadSelChange high s) := by
  unfold execHeadSelChange
  extract_lets +onlyGivenNames -merge -underBinder x0
  try clear_value x0
  extract_lets +onlyGivenNames -merge -underBinder x1
  have q2 : State.outside M x1 = r := by
    unfold x1
    refine Eq.trans (State.outside_pins (h0 := hPins) ..) ?_
    exact hs
  try clear_value x1
  refine next_outside ?_
  refine ite_outside ?_ ?_
  · refine State.pathCheck_outside hDict (hNums.sub rfl) hLogs hStraps hJournal hEdges hHost hFlags ?_
    refine State.newCandidate_outside hChain hChainPorts hDict hNums hResults hLogs hSb hStraps hJournal hEdges hHost hFlags ?_
    exact q2
  · refine State.noCandidate_outside hChain (hNums.sub rfl) ?_
    exact q2

theorem execEnumPassTimeout_outside {M : Touch} {r : State} {map : List TopoEntry} {dt : Nat} {s : State} (hClock : M.clock = true) (hChain : M.chain = true) (hChainPorts : M.chainPorts = true) (hDict : M.dict = true) (hNums : M.Nums Nums16) (hResults : M.results = true) (hLogs : M.logs = true) (hVbat : M.vbat = true) (hSb : M.sb = true) (hStraps : M.straps = true) (hJournal : M.journal = true) (hEdges : M.edges = true) (hHost : M.host = true) (hFlags : M.flags = true) (hs : s.outside M = r) :
    NextOutside M r (execEnumPassTimeout map dt s) := by
  unfold execEnumPassTimeout
  extract_lets +onlyGivenNames -merge -underBinder x0
  have q1 : State.outside M x0 = r := by
    unfold x0
    refine State.advance_outside hClock hVbat ?_
    exact hs
  try clear_value x0
  refine next_outside ?_
  split
  · exact q1
  · extract_lets +onlyGivenNames -merge -underBinder x2
    have q3 : State.outside M x2 = r := by
      unfold x2
      refine ite_outside ?_ ?_
      · refine State.wr_outside (hNums.at Key.fam_chainRing rfl) ?_
        exact q1
      · exact q1
    try clear_value x2
    refine ite_outside ?_ ?_
    · exact q1
    · refine ite_outside ?_ ?_
      · refine State.startEnum_outside hChain hChainPorts hDict hNums hResults hLogs hSb hStraps hJournal hEdges hHost hFlags ?_
        exact q3
      · refine State.enumEnd_outside hChain hChainPorts hDict (hNums.sub rfl) hResults hLogs hSb hStraps hJournal hEdges hHost hFlags ?_
        refine State.chainPost_outside hDict (hNums.sub rfl) hLogs hStraps hJournal hEdges hFlags ?_
        refine State.takeHead_outside (hNums.sub rfl) ?_
        exact q3

theorem execLinkFrameTx_outside {M : Touch} {r : State} {p : Side} {s : State} (hOut : M.out = true) (hChainPorts : M.chainPorts = true) (hs : s.outside M = r) :
    NextOutside M r (execLinkFrameTx p s) := by
  unfold execLinkFrameTx
  refine next_outside ?_
  refine State.linkTx_outside hOut hChainPorts ?_
  exact hs

theorem execLinkSignalDetected_outside {M : Touch} {r : State} {p : Side} {s : State} (hNums : M.Nums Nums94) (hEdges : M.edges = true) (hs : s.outside M = r) :
    NextOutside M r (execLinkSignalDetected p s) := by
  unfold execLinkSignalDetected
  refine next_outside ?_
  refine ite_outside ?_ ?_
  · refine State.setLink_outside hNums hEdges ?_
    exact hs
  · exact hs

theorem execChainEnumFull_outside {M : Touch} {r : State} {s : State} (hChain : M.chain = true) (hChainPorts : M.chainPorts = true) (hDict : M.dict = true) (hNums : M.Nums Nums16) (hResults : M.results = true) (hLogs : M.logs = true) (hSb : M.sb = true) (hStraps : M.straps = true) (hJournal : M.journal = true) (hEdges : M.edges = true) (hHost : M.host = true) (hFlags : M.flags = true) (hs : s.outside M = r) :
    NextOutside M r (execChainEnumFull s) := by
  unfold execChainEnumFull
  refine next_outside ?_
  refine ite_outside ?_ ?_
  · exact hs
  · refine State.enumCmd_outside hChain hChainPorts hDict hNums hResults hLogs hSb hStraps hJournal hEdges hHost hFlags ?_
    exact hs

theorem execAssignReturn_outside {M : Touch} {r : State} {p : Side} {_m : Assign} {byDone : Bool} {map : List TopoEntry} {s : State} (hChain : M.chain = true) (hChainPorts : M.chainPorts = true) (hDict : M.dict = true) (hNums : M.Nums Nums14) (hResults : M.results = true) (hLogs : M.logs = true) (hSb : M.sb = true) (hStraps : M.straps = true) (hJournal : M.journal = true) (hEdges : M.edges = true) (hHost : M.host = true) (hFlags : M.flags = true) (hs : s.outside M = r) :
    NextOutside M r (execAssignReturn p _m byDone map s) := by
  unfold execAssignReturn
  refine next_outside ?_
  split
  · refine ite_outside ?_ ?_
    · refine State.enumEnd_outside hChain hChainPorts hDict hNums hResults hLogs hSb hStraps hJournal hEdges hHost hFlags ?_
      exact hs
    · exact hs
  · exact hs

theorem execEnumAutoStart_outside {M : Touch} {r : State} {s : State} (hChain : M.chain = true) (hChainPorts : M.chainPorts = true) (hDict : M.dict = true) (hNums : M.Nums Nums16) (hResults : M.results = true) (hLogs : M.logs = true) (hSb : M.sb = true) (hStraps : M.straps = true) (hJournal : M.journal = true) (hEdges : M.edges = true) (hHost : M.host = true) (hFlags : M.flags = true) (hs : s.outside M = r) :
    NextOutside M r (execEnumAutoStart s) := by
  unfold execEnumAutoStart
  refine next_outside ?_
  refine ite_outside ?_ ?_
  · refine State.enumAsk_outside hChain hChainPorts hDict hNums hResults hLogs hSb hStraps hJournal hEdges hHost hFlags ?_
    exact hs
  · exact hs

theorem execSurveyReturn_outside {M : Touch} {r : State} {p : Side} {m : Survey} {byDone : Bool} {s : State} (hChain : M.chain = true) (hChainPorts : M.chainPorts = true) (hNums : M.Nums Nums89) (hs : s.outside M = r) :
    NextOutside M r (execSurveyReturn p m byDone s) := by
  unfold execSurveyReturn
  refine next_outside ?_
  split
  · refine ite_outside ?_ ?_
    · refine State.surveyBack_outside hChain hChainPorts hNums ?_
      exact hs
    · exact hs
  · exact hs

theorem execAssignRx_outside {M : Touch} {r : State} {p : Side} {m : Assign} {s : State} (hChain : M.chain = true) (hChainPorts : M.chainPorts = true) (hDict : M.dict = true) (hNums : M.Nums Nums84) (hLogs : M.logs = true) (hStraps : M.straps = true) (hJournal : M.journal = true) (hEdges : M.edges = true) (hFlags : M.flags = true) (hs : s.outside M = r) :
    NextOutside M r (execAssignRx p m s) := by
  unfold execAssignRx
  refine next_outside ?_
  refine ite_outside ?_ ?_
  · refine State.assignRx_outside hChain hChainPorts hDict hNums hLogs hStraps hJournal hEdges hFlags ?_
    exact hs
  · exact hs

theorem execSurveyRx_outside {M : Touch} {r : State} {p : Side} {m : Survey} {s : State} (hChain : M.chain = true) (hChainPorts : M.chainPorts = true) (hDict : M.dict = true) (hNums : M.Nums Nums16) (hResults : M.results = true) (hLogs : M.logs = true) (hSb : M.sb = true) (hStraps : M.straps = true) (hJournal : M.journal = true) (hEdges : M.edges = true) (hHost : M.host = true) (hFlags : M.flags = true) (hs : s.outside M = r) :
    NextOutside M r (execSurveyRx p m s) := by
  unfold execSurveyRx
  refine next_outside ?_
  refine ite_outside ?_ ?_
  · refine State.surveyRx_outside hChain hChainPorts hDict hNums hResults hLogs hSb hStraps hJournal hEdges hHost hFlags ?_
    exact hs
  · exact hs

theorem execHeadRx_outside {M : Touch} {r : State} {p : Side} {m : HeadMsg} {s : State} (hChain : M.chain = true) (hChainPorts : M.chainPorts = true) (hDict : M.dict = true) (hNums : M.Nums Nums80) (hResults : M.results = true) (hLogs : M.logs = true) (hSb : M.sb = true) (hStraps : M.straps = true) (hJournal : M.journal = true) (hEdges : M.edges = true) (hHost : M.host = true) (hFlags : M.flags = true) (hs : s.outside M = r) :
    NextOutside M r (execHeadRx p m s) := by
  unfold execHeadRx
  refine next_outside ?_
  refine ite_outside ?_ ?_
  · refine State.headRx_outside hChain hChainPorts hDict hNums hResults hLogs hSb hStraps hJournal hEdges hHost hFlags ?_
    exact hs
  · exact hs

theorem execLinkFrameRx_outside {M : Touch} {r : State} {p : Side} {m : LinkMsg} {s : State} (hChain : M.chain = true) (hChainPorts : M.chainPorts = true) (hDict : M.dict = true) (hNums : M.Nums Nums95) (hLogs : M.logs = true) (hSb : M.sb = true) (hStraps : M.straps = true) (hJournal : M.journal = true) (hEdges : M.edges = true) (hHost : M.host = true) (hFlags : M.flags = true) (hs : s.outside M = r) :
    NextOutside M r (execLinkFrameRx p m s) := by
  unfold execLinkFrameRx
  refine next_outside ?_
  refine State.linkRx_outside hChain hChainPorts hDict hNums hLogs hSb hStraps hJournal hEdges hHost hFlags ?_
  exact hs

theorem execTopoRx_outside {M : Touch} {r : State} {p : Side} {m : TopoMsg} {s : State} (hChain : M.chain = true) (hChainPorts : M.chainPorts = true) (hDict : M.dict = true) (hNums : M.Nums Nums16) (hResults : M.results = true) (hLogs : M.logs = true) (hSb : M.sb = true) (hStraps : M.straps = true) (hJournal : M.journal = true) (hEdges : M.edges = true) (hHost : M.host = true) (hFlags : M.flags = true) (hs : s.outside M = r) :
    NextOutside M r (execTopoRx p m s) := by
  unfold execTopoRx
  refine next_outside ?_
  refine ite_outside ?_ ?_
  · refine State.raise_outside hEdges ?_
    refine State.topoRx_outside hChain hChainPorts hDict hNums hResults hLogs hSb hStraps hJournal hEdges hHost hFlags ?_
    exact hs
  · exact hs

theorem execHeadBroadcast_outside {M : Touch} {r : State} {s : State} (hChainPorts : M.chainPorts = true) (hNums : M.Nums Nums11) (hs : s.outside M = r) :
    NextOutside M r (execHeadBroadcast s) := by
  unfold execHeadBroadcast
  refine next_outside ?_
  refine ite_outside ?_ ?_
  · refine State.headSend_outside hChainPorts hNums ?_
    exact hs
  · exact hs

theorem execPcieLinkUp_outside {M : Touch} {r : State} {s : State} (hChain : M.chain = true) (hChainPorts : M.chainPorts = true) (hDict : M.dict = true) (hNums : M.Nums Nums16) (hResults : M.results = true) (hLogs : M.logs = true) (hSb : M.sb = true) (hStraps : M.straps = true) (hJournal : M.journal = true) (hEdges : M.edges = true) (hHost : M.host = true) (hFlags : M.flags = true) (hs : s.outside M = r) :
    NextOutside M r (execPcieLinkUp s) := by
  unfold execPcieLinkUp
  extract_lets +onlyGivenNames -merge -underBinder x0
  unfold x0
  clear x0
  refine next_outside ?_
  refine ite_outside ?_ ?_
  · exact hs
  · refine State.pathCheck_outside hDict (hNums.sub rfl) hLogs hStraps hJournal hEdges hHost hFlags ?_
    refine State.newCandidate_outside hChain hChainPorts hDict hNums hResults hLogs hSb hStraps hJournal hEdges hHost hFlags ?_
    refine State.raise_outside hEdges ?_
    refine Eq.trans (State.outside_host_host (h0 := hHost) ..) ?_
    exact hs

end Sys2Proof.Machine
end

