-- ==== Sys2Proof/Laws/Frame/DictVals.lean ====
section
/-! SUPPORT. What the operations of Machine/DictVals.lean leave alone. -/

namespace Sys2Proof.Machine

theorem State.clearRead_outside {M : Touch} {r : State} {s : State} {idx : Nat} {sub : Nat} (hAny : M.anyNum = true) (hVbat : M.vbat = true) (hs : s.outside M = r) :
    (State.clearRead s idx sub).outside M = r := by
  unfold State.clearRead
  extract_lets +onlyGivenNames -merge -underBinder x0
  try clear_value x0
  refine ite_outside ?_ ?_
  · refine Eq.trans (State.outside_vbat (h0 := hVbat) ..) ?_
    exact hs
  · refine State.wr_outside (.any hAny) ?_
    exact hs

theorem State.clearRead_keeps {s : State} {idx : Nat} {sub : Nat} : Kept201 s (State.clearRead s idx sub) :=
  .of (State.clearRead_outside rfl rfl rfl)

end Sys2Proof.Machine
end

