-- ==== Sys2Proof/Laws/Frame/DictApply.lean ====
section
/-! SUPPORT. What the operations of Machine/DictApply.lean leave alone. -/

namespace Sys2Proof.Machine

theorem State.txnEnd_outside {M : Touch} {r : State} {s : State} {t : Txn} {o : TxnOutcome} (hDict : M.dict = true) (hs : s.outside M = r) :
    (State.txnEnd s t o).outside M = r := by
  unfold State.txnEnd
  extract_lets +onlyGivenNames -merge -underBinder x0
  unfold x0
  clear x0
  refine Eq.trans (State.outside_dict_dict (h0 := hDict) ..) ?_
  exact hs

theorem State.txnEnd_keeps {s : State} {t : Txn} {o : TxnOutcome} : Kept213 s (State.txnEnd s t o) :=
  .of (State.txnEnd_outside rfl rfl)

theorem State.graceStart_outside {M : Touch} {r : State} {s : State} {t : Nat} {old : List Nat} (hDict : M.dict = true) (hNums : M.Nums Nums2) (hLogs : M.logs = true) (hStraps : M.straps = true) (hJournal : M.journal = true) (hEdges : M.edges = true) (hFlags : M.flags = true) (hs : s.outside M = r) :
    (State.graceStart s t old).outside M = r := by
  unfold State.graceStart
  extract_lets +onlyGivenNames -merge -underBinder x0
  try clear_value x0
  extract_lets +onlyGivenNames -merge -underBinder x1
  try clear_value x1
  extract_lets +onlyGivenNames -merge -underBinder x2
  unfold x2
  clear x2
  refine State.compatLost_outside hDict hNums hLogs hStraps hJournal hEdges hFlags ?_
  refine Eq.trans (State.outside_dict_dict (h0 := hDict) ..) ?_
  exact hs

theorem State.graceStart_keeps {s : State} {t : Nat} {old : List Nat} : Kept8 s (State.graceStart s t old) :=
  .of (State.graceStart_outside rfl rfl rfl rfl rfl rfl rfl rfl)

theorem State.graceStart_rd {s : State} {t : Nat} {old : List Nat} {kk : Nat} (hkey : Nums2.contains (Key.fam kk) = false) : (State.graceStart s t old).rd kk = s.rd kk :=
  State.rd_of_outside (M := .but Nums2) (State.graceStart_outside rfl .self rfl rfl rfl rfl rfl rfl) rfl hkey

theorem State.afterApply_outside {M : Touch} {r : State} {s : State} {old : State} {keys : List Nat} (hPins : M.pins = true) (hDict : M.dict = true) (hNums : M.Nums Nums62) (hResults : M.results = true) (hLogs : M.logs = true) (hPorts : M.ports = true) (hRxTiles : M.rxTiles = true) (hTxTiles : M.txTiles = true) (hRecs : M.recs = true) (hSched : M.sched = true) (hStraps : M.straps = true) (hJournal : M.journal = true) (hNodeQueues : M.nodeQueues = true) (hLacing : M.lacing = true) (hEdges : M.edges = true) (hFlags : M.flags = true) (hReports : M.reports = true) (hs : s.outside M = r) :
    (State.afterApply s old keys).outside M = r := by
  unfold State.afterApply
  extract_lets +onlyGivenNames -merge -underBinder x0
  try clear_value x0
  extract_lets +onlyGivenNames -merge -underBinder x1
  try clear_value x1
  extract_lets +onlyGivenNames -merge -underBinder x2
  have q3 : State.outside M x2 = r := by
    unfold x2
    refine ite_outside ?_ ?_
    · refine State.slotChange_outside hDict (hNums.sub rfl) hLogs hRecs hSched hStraps hJournal hNodeQueues hLacing hEdges hFlags hReports ?_
      exact hs
    · exact hs
  try clear_value x2
  extract_lets +onlyGivenNames -merge -underBinder x4
  have q5 : State.outside M x4 = r := by
    unfold x4
    refine ite_outside ?_ ?_
    · refine State.slotframesApplied_outside hDict (hNums.sub rfl) hLogs hStraps hJournal hEdges hFlags ?_
      refine State.framesFollow_outside (hNums.sub rfl) hSched hLacing ?_
      exact q3
    · exact q3
  try clear_value x4
  extract_lets +onlyGivenNames -merge -underBinder x6
  try clear_value x6
  extract_lets +onlyGivenNames -merge -underBinder x7
  have q8 : State.outside M x7 = r := by
    unfold x7
    refine State.each_outside ?_ ?_
    · intro t9 q10 z11
      refine State.graceStart_outside hDict (hNums.sub rfl) hLogs hStraps hJournal hEdges hFlags ?_
      exact q10
    · exact q5
  try clear_value x7
  extract_lets +onlyGivenNames -merge -underBinder x12
  have q13 : State.outside M x12 = r := by
    unfold x12
    refine State.servedFollow_outside (hNums.sub rfl) hRecs hSched ?_
    exact q8
  try clear_value x12
  extract_lets +onlyGivenNames -merge -underBinder x14
  have q15 : State.outside M x14 = r := by
    unfold x14
    refine ite_outside ?_ ?_
    · refine State.placeAll_outside hPins hDict (hNums.sub rfl) hResults hLogs hPorts hRxTiles hTxTiles hStraps hJournal hEdges hFlags ?_
      exact q13
    · exact q13
  try clear_value x14
  refine State.each_outside ?_ ?_
  · intro t16 q17 z18
    refine ite_outside ?_ ?_
    · refine State.centreApplied_outside hPins hDict (hNums.sub rfl) hResults hLogs hPorts hRxTiles hTxTiles hStraps hJournal hEdges hFlags ?_
      exact q17
    · exact q17
  · exact q15

theorem State.afterApply_keeps {s : State} {old : State} {keys : List Nat} : Kept146 s (State.afterApply s old keys) :=
  .of (State.afterApply_outside rfl rfl rfl rfl rfl rfl rfl rfl rfl rfl rfl rfl rfl rfl rfl rfl rfl rfl)

theorem State.afterApply_rd {s : State} {old : State} {keys : List Nat} {kk : Nat} (hkey : Nums62.contains (Key.fam kk) = false) : (State.afterApply s old keys).rd kk = s.rd kk :=
  State.rd_of_outside (M := .but Nums62) (State.afterApply_outside rfl rfl .self rfl rfl rfl rfl rfl rfl rfl rfl rfl rfl rfl rfl rfl rfl rfl) rfl hkey

theorem State.polWritten_outside {M : Touch} {r : State} {s : State} {t : Nat} {c : Nat} (hCurb : M.curb = true) (hs : s.outside M = r) :
    (State.polWritten s t c).outside M = r := by
  unfold State.polWritten
  extract_lets +onlyGivenNames -merge -underBinder x0
  try clear_value x0
  refine ite_outside ?_ ?_
  · exact hs
  · refine State.setPolicer_outside hCurb ?_
    exact hs

theorem State.polWritten_keeps {s : State} {t : Nat} {c : Nat} : Kept23 s (State.polWritten s t c) :=
  .of (State.polWritten_outside rfl rfl)

theorem State.sampleWritten_outside {M : Touch} {r : State} {s : State} {t : Nat} (hCurb : M.curb = true) (hs : s.outside M = r) :
    (State.sampleWritten s t).outside M = r := by
  unfold State.sampleWritten
  extract_lets +onlyGivenNames -merge -underBinder x0
  try clear_value x0
  refine Eq.trans (State.outside_curb (h0 := hCurb) ..) ?_
  exact hs

theorem State.sampleWritten_keeps {s : State} {t : Nat} : Kept23 s (State.sampleWritten s t) :=
  .of (State.sampleWritten_outside rfl rfl)

theorem State.afterWrite_outside {M : Touch} {r : State} {s : State} {old : State} {idx : Nat} {keys : List Nat} (hPins : M.pins = true) (hClock : M.clock = true) (hPulses : M.pulses = true) (hDict : M.dict = true) (hNums : M.Nums Nums64) (hLogs : M.logs = true) (hPorts : M.ports = true) (hRecs : M.recs = true) (hSched : M.sched = true) (hStraps : M.straps = true) (hJournal : M.journal = true) (hCurb : M.curb = true) (hConcho : M.concho = true) (hEdges : M.edges = true) (hFlags : M.flags = true) (hs : s.outside M = r) :
    (State.afterWrite s old idx keys).outside M = r := by
  unfold State.afterWrite
  extract_lets +onlyGivenNames -merge -underBinder x0
  try clear_value x0
  extract_lets +onlyGivenNames -merge -underBinder x1
  try clear_value x1
  extract_lets +onlyGivenNames -merge -underBinder x2
  try clear_value x2
  extract_lets +onlyGivenNames -merge -underBinder x3
  try clear_value x3
  extract_lets +onlyGivenNames -merge -underBinder x4
  try clear_value x4
  extract_lets +onlyGivenNames -merge -underBinder x5
  try clear_value x5
  extract_lets +onlyGivenNames -merge -underBinder x6
  have q7 : State.outside M x6 = r := by
    unfold x6
    refine State.each_outside ?_ ?_
    · intro t8 q9 z10
      refine State.polWritten_outside hCurb ?_
      exact q9
    · exact hs
  try clear_value x6
  extract_lets +onlyGivenNames -merge -underBinder x11
  try clear_value x11
  extract_lets +onlyGivenNames -merge -underBinder x12
  have q13 : State.outside M x12 = r := by
    unfold x12
    refine ite_outside ?_ ?_
    · refine State.tagOpen_outside (hNums.sub rfl) hConcho ?_
      exact hs
    · exact hs
  try clear_value x12
  refine ite_outside ?_ ?_
  · refine ite_outside ?_ ?_
    · refine State.timeFree_outside hClock hEdges ?_
      exact hs
    · exact hs
  · refine ite_outside ?_ ?_
    · refine State.pulseWritten_outside hPins hPulses hDict (hNums.sub rfl) hLogs hStraps hJournal hEdges hFlags ?_
      exact hs
    · refine ite_outside ?_ ?_
      · refine ite_outside ?_ ?_
        · refine State.setPort_outside hPorts ?_
          exact hs
        · exact hs
      · refine ite_outside ?_ ?_
        · refine ite_outside ?_ ?_
          · refine State.setSched_outside hSched ?_
            exact hs
          · exact hs
        · refine ite_outside ?_ ?_
          · refine State.servedFollow_outside (hNums.sub rfl) hRecs hSched ?_
            exact hs
          · refine ite_outside ?_ ?_
            · refine ite_outside ?_ ?_
              · refine State.sampleWritten_outside hCurb ?_
                exact q7
              · exact q7
            · refine ite_outside ?_ ?_
              · refine ite_outside ?_ ?_
                · refine State.conQuiet_outside (hNums.sub rfl) hConcho ?_
                  exact q13
                · exact q13
              · exact hs

theorem State.afterWrite_keeps {s : State} {old : State} {idx : Nat} {keys : List Nat} : Kept214 s (State.afterWrite s old idx keys) :=
  .of (State.afterWrite_outside rfl rfl rfl rfl rfl rfl rfl rfl rfl rfl rfl rfl rfl rfl rfl rfl)

theorem State.afterWrite_rd {s : State} {old : State} {idx : Nat} {keys : List Nat} {kk : Nat} (hkey : Nums64.contains (Key.fam kk) = false) : (State.afterWrite s old idx keys).rd kk = s.rd kk :=
  State.rd_of_outside (M := .but Nums64) (State.afterWrite_outside rfl rfl rfl rfl .self rfl rfl rfl rfl rfl rfl rfl rfl rfl rfl rfl) rfl hkey

theorem State.clampEntries_outside {M : Touch} {r : State} {s : State} {origin : Nat} {w : Written} (hNums : M.Nums Nums65) (hLogs : M.logs = true) (hJournal : M.journal = true) (hs : s.outside M = r) :
    (State.clampEntries s origin w).outside M = r := by
  unfold State.clampEntries
  refine State.each_outside ?_ ?_
  · intro t0 q1 z2
    refine State.logClamp_outside hNums hLogs hJournal ?_
    exact q1
  · exact hs

theorem State.clampEntries_keeps {s : State} {origin : Nat} {w : Written} : Kept14 s (State.clampEntries s origin w) :=
  .of (State.clampEntries_outside rfl rfl rfl rfl)

theorem State.clampEntries_rd {s : State} {origin : Nat} {w : Written} {kk : Nat} (hkey : Nums65.contains (Key.fam kk) = false) : (State.clampEntries s origin w).rd kk = s.rd kk :=
  State.rd_of_outside (M := .but Nums65) (State.clampEntries_outside .self rfl rfl rfl) rfl hkey

theorem State.setTxn_outside {M : Touch} {r : State} {s : State} {t : Option Txn} (hDict : M.dict = true) (hs : s.outside M = r) :
    (State.setTxn s t).outside M = r := by
  unfold State.setTxn
  extract_lets +onlyGivenNames -merge -underBinder x0
  unfold x0
  clear x0
  refine Eq.trans (State.outside_dict_dict (h0 := hDict) ..) ?_
  exact hs

theorem State.setTxn_keeps {s : State} {t : Option Txn} : Kept213 s (State.setTxn s t) :=
  .of (State.setTxn_outside rfl rfl)

theorem State.put1_outside {M : Touch} {r : State} {s : State} {k : Nat} {v : Nat} (hAny : M.anyNum = true) (hVbat : M.vbat = true) (hs : s.outside M = r) :
    (State.put1 s k v).outside M = r := by
  unfold State.put1
  extract_lets +onlyGivenNames -merge -underBinder x0
  have q1 : State.outside M x0 = r := by
    unfold x0
    refine State.wr_outside (.any hAny) ?_
    exact hs
  try clear_value x0
  extract_lets +onlyGivenNames -merge -underBinder x2
  try clear_value x2
  refine ite_outside ?_ ?_
  · refine Eq.trans (State.outside_vbat (h0 := hVbat) ..) ?_
    exact q1
  · exact q1

theorem State.put1_keeps {s : State} {k : Nat} {v : Nat} : Kept201 s (State.put1 s k v) :=
  .of (State.put1_outside rfl rfl rfl)

theorem State.applyWrite_outside {M : Touch} {r : State} {s : State} {origin : Nat} {idx : Nat} {l : List Written} (hPins : M.pins = true) (hClock : M.clock = true) (hPulses : M.pulses = true) (hDict : M.dict = true) (hAny : M.anyNum = true) (hLogs : M.logs = true) (hVbat : M.vbat = true) (hPorts : M.ports = true) (hRecs : M.recs = true) (hSched : M.sched = true) (hStraps : M.straps = true) (hJournal : M.journal = true) (hCurb : M.curb = true) (hConcho : M.concho = true) (hEdges : M.edges = true) (hFlags : M.flags = true) (hs : s.outside M = r) :
    (State.applyWrite s origin idx l).outside M = r := by
  unfold State.applyWrite
  extract_lets +onlyGivenNames -merge -underBinder x0
  have q1 : State.outside M x0 = r := by
    unfold x0
    exact hs
  try clear_value x0
  extract_lets +onlyGivenNames -merge -underBinder x2
  have q3 : State.outside M x2 = r := by
    unfold x2
    refine State.each_outside ?_ ?_
    · intro t4 q5 z6
      refine State.put1_outside hAny hVbat ?_
      exact q5
    · exact hs
  try clear_value x2
  extract_lets +onlyGivenNames -merge -underBinder x7
  have q8 : State.outside M x7 = r := by
    unfold x7
    refine State.each_outside ?_ ?_
    · intro t9 q10 z11
      refine State.clampEntries_outside (.any hAny) hLogs hJournal ?_
      exact q10
    · exact q3
  try clear_value x7
  refine State.afterWrite_outside hPins hClock hPulses hDict (.any hAny) hLogs hPorts hRecs hSched hStraps hJournal hCurb hConcho hEdges hFlags ?_
  exact q8

theorem State.applyWrite_keeps {s : State} {origin : Nat} {idx : Nat} {l : List Written} : Kept215 s (State.applyWrite s origin idx l) :=
  .of (State.applyWrite_outside rfl rfl rfl rfl rfl rfl rfl rfl rfl rfl rfl rfl rfl rfl rfl rfl rfl)

theorem State.layoutTake_outside {M : Touch} {r : State} {s : State} {d : Bytes} (hDict : M.dict = true) (hNums : M.Nums Nums70) (hDoms : M.doms = true) (hLogs : M.logs = true) (hSched : M.sched = true) (hSb : M.sb = true) (hStraps : M.straps = true) (hJournal : M.journal = true) (hAttached : M.Attached r) (hNodeQueues : M.nodeQueues = true) (hHar : M.har = true) (hQueues : M.queues = true) (hEdges : M.edges = true) (hFlags : M.flags = true) (hReports : M.reports = true) (hs : s.outside M = r) :
    (State.layoutTake s d).1.outside M = r := by
  unfold State.layoutTake
  extract_lets +onlyGivenNames -merge -underBinder x0
  have q1 : State.outside M x0 = r := by
    unfold x0
    refine State.setDom_outside hDoms ?_
    exact hs
  try clear_value x0
  extract_lets +onlyGivenNames -merge -underBinder x2
  have q3 : State.outside M x2.1 = r := by
    unfold x2
    refine State.takeLayout_outside hDict (hNums.sub rfl) hLogs hSched hSb hStraps hJournal hNodeQueues hHar hQueues hEdges hFlags hReports ?_
    exact q1
  try clear_value x2
  extract_lets +onlyGivenNames -merge -underBinder x4
  have q5 : State.outside M x4 = r := by
    unfold x4
    refine State.journalResume_outside hDict (hNums.sub rfl) hLogs hStraps hJournal hAttached hEdges hFlags ?_
    exact q3
  try clear_value x4
  refine ite_fst_outside ?_ ?_
  · refine fst_outside ?_
    exact hs
  · refine ite_fst_outside ?_ ?_
    · refine fst_outside ?_
      exact q1
    · refine fst_outside ?_
      refine ite_outside ?_ ?_
      · refine State.askRebuild_outside hSched ?_
        exact q5
      · exact q5

theorem State.layoutTake_keeps {s : State} {d : Bytes} : Kept216 s (State.layoutTake s d).1 :=
  .of (State.layoutTake_outside rfl rfl rfl rfl rfl rfl rfl rfl (.free rfl rfl) rfl rfl rfl rfl rfl rfl rfl)

theorem State.layoutTake_rd {s : State} {d : Bytes} {kk : Nat} (hkey : Nums70.contains (Key.fam kk) = false) : (State.layoutTake s d).1.rd kk = s.rd kk :=
  State.rd_of_outside (M := .but Nums70) (State.layoutTake_outside rfl .self rfl rfl rfl rfl rfl rfl (.free rfl rfl) rfl rfl rfl rfl rfl rfl rfl) rfl hkey

theorem State.targetsTake_outside {M : Touch} {r : State} {s : State} {k : Nat} {d : Bytes} (hDict : M.dict = true) (hNums : M.Nums Nums2) (hLogs : M.logs = true) (hStraps : M.straps = true) (hJournal : M.journal = true) (hAttached : M.Attached r) (hLacing : M.lacing = true) (hEdges : M.edges = true) (hFlags : M.flags = true) (hs : s.outside M = r) :
    (State.targetsTake s k d).1.outside M = r := by
  unfold State.targetsTake
  extract_lets +onlyGivenNames -merge -underBinder x0
  try clear_value x0
  extract_lets +onlyGivenNames -merge -underBinder x1
  try clear_value x1
  extract_lets +onlyGivenNames -merge -underBinder x2
  try clear_value x2
  refine ite_fst_outside ?_ ?_
  · refine fst_outside ?_
    exact hs
  · refine ite_fst_outside ?_ ?_
    · refine fst_outside ?_
      refine State.lacePost_outside hDict hNums hLogs hStraps hJournal hEdges hFlags ?_
      exact hs
    · refine fst_outside ?_
      refine State.storeTargets_outside hAttached hLacing ?_
      exact hs

theorem State.targetsTake_keeps {s : State} {k : Nat} {d : Bytes} : Kept217 s (State.targetsTake s k d).1 :=
  .of (State.targetsTake_outside rfl rfl rfl rfl rfl (.free rfl rfl) rfl rfl rfl rfl)

theorem State.targetsTake_rd {s : State} {k : Nat} {d : Bytes} {kk : Nat} (hkey : Nums2.contains (Key.fam kk) = false) : (State.targetsTake s k d).1.rd kk = s.rd kk :=
  State.rd_of_outside (M := .but Nums2) (State.targetsTake_outside rfl .self rfl rfl rfl (.free rfl rfl) rfl rfl rfl rfl) rfl hkey

theorem State.domainTake_outside {M : Touch} {r : State} {s : State} {t : Transfer} (hPins : M.pins = true) (hDict : M.dict = true) (hNums : M.Nums Nums74) (hDoms : M.doms = true) (hResults : M.results = true) (hLogs : M.logs = true) (hPorts : M.ports = true) (hRxTiles : M.rxTiles = true) (hTxTiles : M.txTiles = true) (hRecs : M.recs = true) (hSched : M.sched = true) (hKeeper : M.keeper = true) (hSb : M.sb = true) (hStraps : M.straps = true) (hJournal : M.journal = true) (hAttached : M.Attached r) (hNodeQueues : M.nodeQueues = true) (hHar : M.har = true) (hQueues : M.queues = true) (hLacing : M.lacing = true) (hTree : M.tree = true) (hConcho : M.concho = true) (hCores : M.cores = true) (hLocals : M.Locals r) (hEdges : M.edges = true) (hFlags : M.flags = true) (hReports : M.reports = true) (hs : s.outside M = r) :
    (State.domainTake s t).1.outside M = r := by
  unfold State.domainTake
  extract_lets +onlyGivenNames -merge -underBinder x0
  try clear_value x0
  extract_lets +onlyGivenNames -merge -underBinder x1
  try clear_value x1
  extract_lets +onlyGivenNames -merge -underBinder x2
  try clear_value x2
  extract_lets +onlyGivenNames -merge -underBinder x3
  try clear_value x3
  extract_lets +onlyGivenNames -merge -underBinder x4
  try clear_value x4
  extract_lets +onlyGivenNames -merge -underBinder x5
  try clear_value x5
  refine ite_fst_outside ?_ ?_
  · refine ite_fst_outside ?_ ?_
    · refine fst_outside ?_
      refine State.placeAll_outside hPins hDict (hNums.sub rfl) hResults hLogs hPorts hRxTiles hTxTiles hStraps hJournal hEdges hFlags ?_
      refine State.servedFollow_outside (hNums.sub rfl) hRecs hSched ?_
      refine State.setDom_outside hDoms ?_
      exact hs
    · refine fst_outside ?_
      exact hs
  · refine ite_fst_outside ?_ ?_
    · refine ite_fst_outside ?_ ?_
      · refine fst_outside ?_
        refine State.setPort_outside hPorts ?_
        refine State.setDom_outside hDoms ?_
        exact hs
      · refine fst_outside ?_
        exact hs
    · refine ite_fst_outside ?_ ?_
      · refine ite_fst_outside ?_ ?_
        · refine fst_outside ?_
          refine State.setDom_outside hDoms ?_
          exact hs
        · refine fst_outside ?_
          exact hs
      · refine ite_fst_outside ?_ ?_
        · refine State.layoutTake_outside hDict (hNums.sub rfl) hDoms hLogs hSched hSb hStraps hJournal hAttached hNodeQueues hHar hQueues hEdges hFlags hReports ?_
          exact hs
        · refine ite_fst_outside ?_ ?_
          · refine State.winTake_outside hPins hDict (hNums.sub rfl) hResults hLogs hPorts hRxTiles hTxTiles hRecs hSched hKeeper hStraps hJournal hNodeQueues hLacing hEdges hFlags hReports ?_
            exact hs
          · refine ite_fst_outside ?_ ?_
            · refine State.targetsTake_outside hDict (hNums.sub rfl) hLogs hStraps hJournal hAttached hLacing hEdges hFlags ?_
              exact hs
            · refine ite_fst_outside ?_ ?_
              · refine State.treeLast_outside hDict (hNums.sub rfl) hLogs hStraps hJournal hTree hEdges hFlags ?_
                exact hs
              · refine ite_fst_outside ?_ ?_
                · refine ite_fst_outside ?_ ?_
                  · refine fst_outside ?_
                    refine State.tagCommit_outside hDict (hNums.sub rfl) hDoms hLogs hStraps hJournal hConcho hEdges hFlags ?_
                    exact hs
                  · refine fst_outside ?_
                    exact hs
                · refine ite_fst_outside ?_ ?_
                  · refine ite_fst_outside ?_ ?_
                    · refine fst_outside ?_
                      refine State.setDom_outside hDoms ?_
                      refine State.coreImageTake_outside hCores hLocals ?_
                      exact hs
                    · refine fst_outside ?_
                      exact hs
                  · refine fst_outside ?_
                    exact hs

theorem State.domainTake_keeps {s : State} {t : Transfer} : Kept218 s (State.domainTake s t).1 :=
  .of (State.domainTake_outside rfl rfl rfl rfl rfl rfl rfl rfl rfl rfl rfl rfl rfl rfl rfl (.free rfl rfl) rfl rfl rfl rfl rfl rfl rfl (.free rfl rfl) rfl rfl rfl rfl)

theorem State.domainTake_rd {s : State} {t : Transfer} {kk : Nat} (hkey : Nums74.contains (Key.fam kk) = false) : (State.domainTake s t).1.rd kk = s.rd kk :=
  State.rd_of_outside (M := .but Nums74) (State.domainTake_outside rfl rfl .self rfl rfl rfl rfl rfl rfl rfl rfl rfl rfl rfl rfl (.free rfl rfl) rfl rfl rfl rfl rfl rfl rfl (.free rfl rfl) rfl rfl rfl rfl) rfl hkey

theorem State.txnApply_outside {M : Touch} {r : State} {s : State} {t : Txn} (hPins : M.pins = true) (hChain : M.chain = true) (hChainPorts : M.chainPorts = true) (hDict : M.dict = true) (hAny : M.anyNum = true) (hResults : M.results = true) (hLogs : M.logs = true) (hPorts : M.ports = true) (hRxTiles : M.rxTiles = true) (hTxTiles : M.txTiles = true) (hRecs : M.recs = true) (hSched : M.sched = true) (hSb : M.sb = true) (hStraps : M.straps = true) (hJournal : M.journal = true) (hNodeQueues : M.nodeQueues = true) (hLacing : M.lacing = true) (hEdges : M.edges = true) (hHost : M.host = true) (hFlags : M.flags = true) (hReports : M.reports = true) (hs : s.outside M = r) :
    (State.txnApply s t).outside M = r := by
  unfold State.txnApply
  extract_lets +onlyGivenNames -merge -underBinder x0
  have q1 : State.outside M x0 = r := by
    unfold x0
    exact hs
  try clear_value x0
  extract_lets +onlyGivenNames -merge -underBinder x2
  have q3 : State.outside M x2 = r := by
    unfold x2
    refine State.txnEnd_outside hDict ?_
    refine State.each_outside ?_ ?_
    · intro t4 q5 z6
      refine State.wr_outside (.any hAny) ?_
      exact q5
    · exact hs
  try clear_value x2
  extract_lets +onlyGivenNames -merge -underBinder x7
  have q8 : State.outside M x7 = r := by
    unfold x7
    refine ite_outside ?_ ?_
    · refine State.post_outside hDict (.any hAny) hLogs hStraps hJournal hEdges hFlags ?_
      exact q3
    · exact q3
  try clear_value x7
  refine State.enumResume_outside hChain hChainPorts hDict (.any hAny) hResults hLogs hSb hStraps hJournal hEdges hHost hFlags ?_
  refine State.afterApply_outside hPins hDict (.any hAny) hResults hLogs hPorts hRxTiles hTxTiles hRecs hSched hStraps hJournal hNodeQueues hLacing hEdges hFlags hReports ?_
  exact q8

theorem State.txnApply_keeps {s : State} {t : Txn} : Kept219 s (State.txnApply s t) :=
  .of (State.txnApply_outside rfl rfl rfl rfl rfl rfl rfl rfl rfl rfl rfl rfl rfl rfl rfl rfl rfl rfl rfl rfl rfl rfl)

theorem State.epochCheck_outside {M : Touch} {r : State} {s : State} (hPins : M.pins = true) (hChain : M.chain = true) (hChainPorts : M.chainPorts = true) (hDict : M.dict = true) (hAny : M.anyNum = true) (hResults : M.results = true) (hLogs : M.logs = true) (hPorts : M.ports = true) (hRxTiles : M.rxTiles = true) (hTxTiles : M.txTiles = true) (hRecs : M.recs = true) (hSched : M.sched = true) (hSb : M.sb = true) (hStraps : M.straps = true) (hJournal : M.journal = true) (hNodeQueues : M.nodeQueues = true) (hLacing : M.lacing = true) (hEdges : M.edges = true) (hHost : M.host = true) (hFlags : M.flags = true) (hReports : M.reports = true) (hs : s.outside M = r) :
    (State.epochCheck s).outside M = r := by
  unfold State.epochCheck
  split
  · refine ite_outside ?_ ?_
    · refine State.txnApply_outside hPins hChain hChainPorts hDict hAny hResults hLogs hPorts hRxTiles hTxTiles hRecs hSched hSb hStraps hJournal hNodeQueues hLacing hEdges hHost hFlags hReports ?_
      exact hs
    · exact hs
  · exact hs

theorem State.epochCheck_keeps {s : State} : Kept219 s (State.epochCheck s) :=
  .of (State.epochCheck_outside rfl rfl rfl rfl rfl rfl rfl rfl rfl rfl rfl rfl rfl rfl rfl rfl rfl rfl rfl rfl rfl rfl)

theorem State.pwrCmd_outside {M : Touch} {r : State} {s : State} {t : Nat} (hPins : M.pins = true) (hDict : M.dict = true) (hNums : M.Nums Nums52) (hResults : M.results = true) (hLogs : M.logs = true) (hPower : M.power = true) (hPorts : M.ports = true) (hRxTiles : M.rxTiles = true) (hStraps : M.straps = true) (hJournal : M.journal = true) (hEdges : M.edges = true) (hFlags : M.flags = true) (hs : s.outside M = r) :
    (State.pwrCmd s t).outside M = r := by
  unfold State.pwrCmd
  extract_lets +onlyGivenNames -merge -underBinder x0
  have q1 : State.outside M x0 = r := by
    unfold x0
    refine State.resBegin_outside hResults ?_
    exact hs
  try clear_value x0
  refine ite_outside ?_ ?_
  · refine State.resEnd_outside hResults ?_
    exact q1
  · refine State.powerAsk_outside hPins hDict hNums hResults hLogs hPower hPorts hRxTiles hStraps hJournal hEdges hFlags ?_
    exact q1

theorem State.pwrCmd_keeps {s : State} {t : Nat} : Kept141 s (State.pwrCmd s t) :=
  .of (State.pwrCmd_outside rfl rfl rfl rfl rfl rfl rfl rfl rfl rfl rfl rfl rfl)

theorem State.pwrCmd_rd {s : State} {t : Nat} {kk : Nat} (hkey : Nums52.contains (Key.fam kk) = false) : (State.pwrCmd s t).rd kk = s.rd kk :=
  State.rd_of_outside (M := .but Nums52) (State.pwrCmd_outside rfl rfl .self rfl rfl rfl rfl rfl rfl rfl rfl rfl rfl) rfl hkey

theorem State.errLogClear_outside {M : Touch} {r : State} {s : State} (hNums : M.Nums Nums76) (hResults : M.results = true) (hLogs : M.logs = true) (hs : s.outside M = r) :
    (State.errLogClear s).outside M = r := by
  unfold State.errLogClear
  extract_lets +onlyGivenNames -merge -underBinder x0
  have q1 : State.outside M x0 = r := by
    unfold x0
    refine State.resBegin_outside hResults ?_
    exact hs
  try clear_value x0
  extract_lets +onlyGivenNames -merge -underBinder x2
  unfold x2
  clear x2
  extract_lets +onlyGivenNames -merge -underBinder x3
  have q4 : State.outside M x3 = r := by
    unfold x3
    refine Eq.trans (State.outside_dict_logs (h0 := hLogs) ..) ?_
    exact q1
  try clear_value x3
  refine State.resEnd_outside hResults ?_
  refine State.wr_outside (hNums.at Key.fam_errLogNext rfl) ?_
  exact q4

theorem State.errLogClear_keeps {s : State} : Kept220 s (State.errLogClear s) :=
  .of (State.errLogClear_outside rfl rfl rfl rfl)

theorem State.errLogClear_rd {s : State} {kk : Nat} (hkey : Nums76.contains (Key.fam kk) = false) : (State.errLogClear s).rd kk = s.rd kk :=
  State.rd_of_outside (M := .but Nums76) (State.errLogClear_outside .self rfl rfl rfl) rfl hkey

theorem State.clampLogClear_outside {M : Touch} {r : State} {s : State} (hNums : M.Nums Nums77) (hResults : M.results = true) (hLogs : M.logs = true) (hs : s.outside M = r) :
    (State.clampLogClear s).outside M = r := by
  unfold State.clampLogClear
  extract_lets +onlyGivenNames -merge -underBinder x0
  have q1 : State.outside M x0 = r := by
    unfold x0
    refine State.resBegin_outside hResults ?_
    exact hs
  try clear_value x0
  extract_lets +onlyGivenNames -merge -underBinder x2
  unfold x2
  clear x2
  extract_lets +onlyGivenNames -merge -underBinder x3
  have q4 : State.outside M x3 = r := by
    unfold x3
    refine Eq.trans (State.outside_dict_logs (h0 := hLogs) ..) ?_
    exact q1
  try clear_value x3
  refine State.resEnd_outside hResults ?_
  refine State.wr_outside (hNums.at Key.fam_clampLogNext rfl) ?_
  exact q4

theorem State.clampLogClear_keeps {s : State} : Kept220 s (State.clampLogClear s) :=
  .of (State.clampLogClear_outside rfl rfl rfl rfl)

theorem State.clampLogClear_rd {s : State} {kk : Nat} (hkey : Nums77.contains (Key.fam kk) = false) : (State.clampLogClear s).rd kk = s.rd kk :=
  State.rd_of_outside (M := .but Nums77) (State.clampLogClear_outside .self rfl rfl rfl) rfl hkey

theorem State.treeSwitch_outside {M : Touch} {r : State} {s : State} (hOut : M.out = true) (hPins : M.pins = true) (hPulses : M.pulses = true) (hChain : M.chain = true) (hChainPorts : M.chainPorts = true) (hDict : M.dict = true) (hAny : M.anyNum = true) (hDoms : M.doms = true) (hResults : M.results = true) (hLogs : M.logs = true) (hPower : M.power = true) (hVbat : M.vbat = true) (hRadio : M.radio = true) (hPorts : M.ports = true) (hRxTiles : M.rxTiles = true) (hTxTiles : M.txTiles = true) (hGirth : M.girth = true) (hRecs : M.recs = true) (hSched : M.sched = true) (hCinch : M.cinch = true) (hKeeper : M.keeper = true) (hSb : M.sb = true) (hStraps : M.straps = true) (hJournal : M.journal = true) (hNodeQueues : M.nodeQueues = true) (hTables : M.tables = true) (hWindows : M.windows = true) (hHalter : M.halter = true) (hHar : M.har = true) (hQueues : M.queues = true) (hArrivals : M.arrivals = true) (hLacing : M.lacing = true) (hTree : M.tree = true) (hCurb : M.curb = true) (hConcho : M.concho = true) (hCores : M.cores = true) (hBuckle : M.buckle = true) (hEdges : M.edges = true) (hHost : M.host = true) (hFlags : M.flags = true) (hReports : M.reports = true) (hs : s.outside M = r) :
    (State.treeSwitch s).outside M = r := by
  unfold State.treeSwitch
  split
  · refine State.resEnd_outside hResults ?_
    refine State.resBegin_outside hResults ?_
    exact hs
  · refine State.warmReset_outside hOut hPins hPulses hChain hChainPorts hDict hAny hDoms hResults hLogs hPower hVbat hRadio hPorts hRxTiles hTxTiles hGirth hRecs hSched hCinch hKeeper hSb hStraps hJournal hNodeQueues hTables hWindows hHalter hHar hQueues hArrivals hLacing hTree hCurb hConcho hCores hBuckle hEdges hHost hFlags hReports ?_
    refine State.armSwitch_outside hResults hTree ?_
    exact hs

theorem State.treeSwitch_keeps {s : State} : Kept193 s (State.treeSwitch s) :=
  .of (State.treeSwitch_outside rfl rfl rfl rfl rfl rfl rfl rfl rfl rfl rfl rfl rfl rfl rfl rfl rfl rfl rfl rfl rfl rfl rfl rfl rfl rfl rfl rfl rfl rfl rfl rfl rfl rfl rfl rfl rfl rfl rfl rfl rfl rfl)

theorem State.storeCmd_outside {M : Touch} {r : State} {s : State} {v : Nat} (hDict : M.dict = true) (hResults : M.results = true) (hs : s.outside M = r) :
    (State.storeCmd s v).outside M = r := by
  unfold State.storeCmd
  extract_lets +onlyGivenNames -merge -underBinder x0
  try clear_value x0
  extract_lets +onlyGivenNames -merge -underBinder x1
  have q2 : State.outside M x1 = r := by
    unfold x1
    refine State.resBegin_outside hResults ?_
    exact hs
  try clear_value x1
  extract_lets +onlyGivenNames -merge -underBinder x3
  unfold x3
  clear x3
  refine Eq.trans (State.outside_dict_dict (h0 := hDict) ..) ?_
  exact q2

theorem State.storeCmd_keeps {s : State} {v : Nat} : Kept221 s (State.storeCmd s v) :=
  .of (State.storeCmd_outside rfl rfl rfl)

theorem State.runCmd_outside {M : Touch} {r : State} {s : State} {k : Nat} {v : Nat} (hOut : M.out = true) (hPins : M.pins = true) (hClock : M.clock = true) (hPulses : M.pulses = true) (hChain : M.chain = true) (hChainPorts : M.chainPorts = true) (hDict : M.dict = true) (hAny : M.anyNum = true) (hDoms : M.doms = true) (hResults : M.results = true) (hLogs : M.logs = true) (hPower : M.power = true) (hVbat : M.vbat = true) (hRadio : M.radio = true) (hPorts : M.ports = true) (hRxTiles : M.rxTiles = true) (hTxTiles : M.txTiles = true) (hGirth : M.girth = true) (hRecs : M.recs = true) (hSched : M.sched = true) (hCinch : M.cinch = true) (hKeeper : M.keeper = true) (hSb : M.sb = true) (hStraps : M.straps = true) (hJournal : M.journal = true) (hNodeQueues : M.nodeQueues = true) (hTables : M.tables = true) (hWindows : M.windows = true) (hHalter : M.halter = true) (hHar : M.har = true) (hQueues : M.queues = true) (hArrivals : M.arrivals = true) (hLacing : M.lacing = true) (hTree : M.tree = true) (hCurb : M.curb = true) (hConcho : M.concho = true) (hCores : M.cores = true) (hLocals : M.Locals r) (hBuckle : M.buckle = true) (hEdges : M.edges = true) (hHost : M.host = true) (hFlags : M.flags = true) (hReports : M.reports = true) (hs : s.outside M = r) :
    (State.runCmd s k v).outside M = r := by
  unfold State.runCmd
  extract_lets +onlyGivenNames -merge -underBinder x0
  try clear_value x0
  refine ite_outside ?_ ?_
  · refine State.enumCmd_outside hChain hChainPorts hDict (.any hAny) hResults hLogs hSb hStraps hJournal hEdges hHost hFlags ?_
    exact hs
  · refine ite_outside ?_ ?_
    · refine State.switchover_outside hChain hChainPorts hDict (.any hAny) hResults hLogs hSb hStraps hJournal hEdges hHost hFlags ?_
      exact hs
    · refine ite_outside ?_ ?_
      · refine State.errLogClear_outside (.any hAny) hResults hLogs ?_
        exact hs
      · refine ite_outside ?_ ?_
        · refine State.clampLogClear_outside (.any hAny) hResults hLogs ?_
          exact hs
        · refine ite_outside ?_ ?_
          · refine State.storeCmd_outside hDict hResults ?_
            exact hs
          · refine ite_outside ?_ ?_
            · refine State.pwrCmd_outside hPins hDict (.any hAny) hResults hLogs hPower hPorts hRxTiles hStraps hJournal hEdges hFlags ?_
              exact hs
            · refine ite_outside ?_ ?_
              · refine State.timeStep_outside hPins hClock hPulses hDict (.any hAny) hResults hLogs hStraps hJournal hEdges hFlags ?_
                exact hs
              · refine ite_outside ?_ ?_
                · refine State.timeSetTo_outside hPins hClock hPulses hResults hEdges ?_
                  exact hs
                · refine ite_outside ?_ ?_
                  · refine State.portCmd_outside hPins hDict (.any hAny) hResults hLogs hPorts hRxTiles hStraps hJournal hEdges hFlags ?_
                    exact hs
                  · refine ite_outside ?_ ?_
                    · refine State.stampLock_outside hResults hRadio hPorts hRxTiles hTxTiles ?_
                      exact hs
                    · refine ite_outside ?_ ?_
                      · refine State.calWrite_outside hDict (.any hAny) hResults hLogs hRadio hPorts hStraps hJournal hEdges hFlags ?_
                        exact hs
                      · refine ite_outside ?_ ?_
                        · refine State.provisionCmd_outside hResults ?_
                          exact hs
                        · refine ite_outside ?_ ?_
                          · refine State.attestCmd_outside hResults hKeeper ?_
                            exact hs
                          · refine ite_outside ?_ ?_
                            · refine State.campCmd_outside hDict (.any hAny) hResults hLogs hStraps hJournal hArrivals hLacing hEdges hFlags ?_
                              exact hs
                            · refine ite_outside ?_ ?_
                              · refine State.treeSwitch_outside hOut hPins hPulses hChain hChainPorts hDict hAny hDoms hResults hLogs hPower hVbat hRadio hPorts hRxTiles hTxTiles hGirth hRecs hSched hCinch hKeeper hSb hStraps hJournal hNodeQueues hTables hWindows hHalter hHar hQueues hArrivals hLacing hTree hCurb hConcho hCores hBuckle hEdges hHost hFlags hReports ?_
                                exact hs
                              · refine ite_outside ?_ ?_
                                · refine State.seat_outside hDict (.any hAny) hResults hLogs hStraps hJournal hTree hEdges hFlags ?_
                                  exact hs
                                · refine ite_outside ?_ ?_
                                  · refine State.wipe_outside hResults hTree ?_
                                    exact hs
                                  · refine ite_outside ?_ ?_
                                    · refine State.coreRunCmd_outside (.any hAny) hResults hPower hCores hLocals ?_
                                      exact hs
                                    · exact hs

theorem State.runCmd_keeps {s : State} {k : Nat} {v : Nat} : Kept222 s (State.runCmd s k v) :=
  .of (State.runCmd_outside rfl rfl rfl rfl rfl rfl rfl rfl rfl rfl rfl rfl rfl rfl rfl rfl rfl rfl rfl rfl rfl rfl rfl rfl rfl rfl rfl rfl rfl rfl rfl rfl rfl rfl rfl rfl rfl (.free rfl rfl) rfl rfl rfl rfl rfl rfl)

theorem State.txnExpire_outside {M : Touch} {r : State} {s : State} {t : Txn} (hChain : M.chain = true) (hChainPorts : M.chainPorts = true) (hDict : M.dict = true) (hNums : M.Nums Nums16) (hResults : M.results = true) (hLogs : M.logs = true) (hSb : M.sb = true) (hStraps : M.straps = true) (hJournal : M.journal = true) (hEdges : M.edges = true) (hHost : M.host = true) (hFlags : M.flags = true) (hs : s.outside M = r) :
    (State.txnExpire s t).outside M = r := by
  unfold State.txnExpire
  refine State.enumResume_outside hChain hChainPorts hDict hNums hResults hLogs hSb hStraps hJournal hEdges hHost hFlags ?_
  refine State.post_outside hDict (hNums.sub rfl) hLogs hStraps hJournal hEdges hFlags ?_
  refine State.txnEnd_outside hDict ?_
  exact hs

theorem State.txnExpire_keeps {s : State} {t : Txn} : Kept205 s (State.txnExpire s t) :=
  .of (State.txnExpire_outside rfl rfl rfl rfl rfl rfl rfl rfl rfl rfl rfl rfl rfl)

theorem State.txnExpire_rd {s : State} {t : Txn} {kk : Nat} (hkey : Nums16.contains (Key.fam kk) = false) : (State.txnExpire s t).rd kk = s.rd kk :=
  State.rd_of_outside (M := .but Nums16) (State.txnExpire_outside rfl rfl rfl .self rfl rfl rfl rfl rfl rfl rfl rfl rfl) rfl hkey

theorem execDictErase_outside {M : Touch} {r : State} {s : State} (hDict : M.dict = true) (hResults : M.results = true) (hs : s.outside M = r) :
    NextOutside M r (execDictErase s) := by
  unfold execDictErase
  refine next_outside ?_
  refine ite_outside ?_ ?_
  · exact hs
  · refine State.storeCmd_outside hDict hResults ?_
    exact hs

theorem execErrLogClear_outside {M : Touch} {r : State} {s : State} (hNums : M.Nums Nums76) (hResults : M.results = true) (hLogs : M.logs = true) (hs : s.outside M = r) :
    NextOutside M r (execErrLogClear s) := by
  unfold execErrLogClear
  refine next_outside ?_
  refine ite_outside ?_ ?_
  · exact hs
  · refine State.errLogClear_outside hNums hResults hLogs ?_
    exact hs

theorem execSeatWindowExpiry_outside {M : Touch} {r : State} {dt : Nat} {s : State} (hOut : M.out = true) (hPins : M.pins = true) (hClock : M.clock = true) (hPulses : M.pulses = true) (hChain : M.chain = true) (hChainPorts : M.chainPorts = true) (hDict : M.dict = true) (hAny : M.anyNum = true) (hDoms : M.doms = true) (hResults : M.results = true) (hLogs : M.logs = true) (hPower : M.power = true) (hVbat : M.vbat = true) (hRadio : M.radio = true) (hPorts : M.ports = true) (hRxTiles : M.rxTiles = true) (hTxTiles : M.txTiles = true) (hGirth : M.girth = true) (hRecs : M.recs = true) (hSched : M.sched = true) (hCinch : M.cinch = true) (hKeeper : M.keeper = true) (hSb : M.sb = true) (hStraps : M.straps = true) (hJournal : M.journal = true) (hNodeQueues : M.nodeQueues = true) (hTables : M.tables = true) (hWindows : M.windows = true) (hHalter : M.halter = true) (hHar : M.har = true) (hQueues : M.queues = true) (hArrivals : M.arrivals = true) (hLacing : M.lacing = true) (hTree : M.tree = true) (hCurb : M.curb = true) (hConcho : M.concho = true) (hCores : M.cores = true) (hBuckle : M.buckle = true) (hEdges : M.edges = true) (hHost : M.host = true) (hFlags : M.flags = true) (hReports : M.reports = true) (hs : s.outside M = r) :
    NextOutside M r (execSeatWindowExpiry dt s) := by
  unfold execSeatWindowExpiry
  extract_lets +onlyGivenNames -merge -underBinder x0
  have q1 : State.outside M x0 = r := by
    unfold x0
    refine State.advance_outside hClock hVbat ?_
    exact hs
  try clear_value x0
  refine next_outside ?_
  refine ite_outside ?_ ?_
  · refine State.warmReset_outside hOut hPins hPulses hChain hChainPorts hDict hAny hDoms hResults hLogs hPower hVbat hRadio hPorts hRxTiles hTxTiles hGirth hRecs hSched hCinch hKeeper hSb hStraps hJournal hNodeQueues hTables hWindows hHalter hHar hQueues hArrivals hLacing hTree hCurb hConcho hCores hBuckle hEdges hHost hFlags hReports ?_
    exact q1
  · exact q1

theorem execCommitGraceExpiry_outside {M : Touch} {r : State} {dt : Nat} {s : State} (hClock : M.clock = true) (hChain : M.chain = true) (hChainPorts : M.chainPorts = true) (hDict : M.dict = true) (hNums : M.Nums Nums16) (hResults : M.results = true) (hLogs : M.logs = true) (hVbat : M.vbat = true) (hSb : M.sb = true) (hStraps : M.straps = true) (hJournal : M.journal = true) (hEdges : M.edges = true) (hHost : M.host = true) (hFlags : M.flags = true) (hs : s.outside M = r) :
    NextOutside M r (execCommitGraceExpiry dt s) := by
  unfold execCommitGraceExpiry
  extract_lets +onlyGivenNames -merge -underBinder x0
  have q1 : State.outside M x0 = r := by
    unfold x0
    refine State.advance_outside hClock hVbat ?_
    exact hs
  try clear_value x0
  refine next_outside ?_
  split
  · refine ite_outside ?_ ?_
    · refine State.txnExpire_outside hChain hChainPorts hDict hNums hResults hLogs hSb hStraps hJournal hEdges hHost hFlags ?_
      exact q1
    · exact q1
  · exact q1

theorem execClampLogClear_outside {M : Touch} {r : State} {s : State} (hNums : M.Nums Nums77) (hResults : M.results = true) (hLogs : M.logs = true) (hs : s.outside M = r) :
    NextOutside M r (execClampLogClear s) := by
  unfold execClampLogClear
  refine next_outside ?_
  refine ite_outside ?_ ?_
  · exact hs
  · refine State.clampLogClear_outside hNums hResults hLogs ?_
    exact hs

theorem execEpochApply_outside {M : Touch} {r : State} {dt : Nat} {s : State} (hPins : M.pins = true) (hClock : M.clock = true) (hChain : M.chain = true) (hChainPorts : M.chainPorts = true) (hDict : M.dict = true) (hAny : M.anyNum = true) (hResults : M.results = true) (hLogs : M.logs = true) (hVbat : M.vbat = true) (hPorts : M.ports = true) (hRxTiles : M.rxTiles = true) (hTxTiles : M.txTiles = true) (hRecs : M.recs = true) (hSched : M.sched = true) (hSb : M.sb = true) (hStraps : M.straps = true) (hJournal : M.journal = true) (hNodeQueues : M.nodeQueues = true) (hLacing : M.lacing = true) (hEdges : M.edges = true) (hHost : M.host = true) (hFlags : M.flags = true) (hReports : M.reports = true) (hs : s.outside M = r) :
    NextOutside M r (execEpochApply dt s) := by
  unfold execEpochApply
  refine next_outside ?_
  refine State.epochCheck_outside hPins hChain hChainPorts hDict hAny hResults hLogs hPorts hRxTiles hTxTiles hRecs hSched hSb hStraps hJournal hNodeQueues hLacing hEdges hHost hFlags hReports ?_
  refine State.advance_outside hClock hVbat ?_
  exact hs

theorem execTreeSwitch_outside {M : Touch} {r : State} {s : State} (hOut : M.out = true) (hPins : M.pins = true) (hPulses : M.pulses = true) (hChain : M.chain = true) (hChainPorts : M.chainPorts = true) (hDict : M.dict = true) (hAny : M.anyNum = true) (hDoms : M.doms = true) (hResults : M.results = true) (hLogs : M.logs = true) (hPower : M.power = true) (hVbat : M.vbat = true) (hRadio : M.radio = true) (hPorts : M.ports = true) (hRxTiles : M.rxTiles = true) (hTxTiles : M.txTiles = true) (hGirth : M.girth = true) (hRecs : M.recs = true) (hSched : M.sched = true) (hCinch : M.cinch = true) (hKeeper : M.keeper = true) (hSb : M.sb = true) (hStraps : M.straps = true) (hJournal : M.journal = true) (hNodeQueues : M.nodeQueues = true) (hTables : M.tables = true) (hWindows : M.windows = true) (hHalter : M.halter = true) (hHar : M.har = true) (hQueues : M.queues = true) (hArrivals : M.arrivals = true) (hLacing : M.lacing = true) (hTree : M.tree = true) (hCurb : M.curb = true) (hConcho : M.concho = true) (hCores : M.cores = true) (hBuckle : M.buckle = true) (hEdges : M.edges = true) (hHost : M.host = true) (hFlags : M.flags = true) (hReports : M.reports = true) (hs : s.outside M = r) :
    NextOutside M r (execTreeSwitch s) := by
  unfold execTreeSwitch
  refine next_outside ?_
  refine ite_outside ?_ ?_
  · exact hs
  · refine State.treeSwitch_outside hOut hPins hPulses hChain hChainPorts hDict hAny hDoms hResults hLogs hPower hVbat hRadio hPorts hRxTiles hTxTiles hGirth hRecs hSched hCinch hKeeper hSb hStraps hJournal hNodeQueues hTables hWindows hHalter hHar hQueues hArrivals hLacing hTree hCurb hConcho hCores hBuckle hEdges hHost hFlags hReports ?_
    exact hs

theorem execDictStoreDone_outside {M : Touch} {r : State} {ok : Bool} {s : State} (hDict : M.dict = true) (hResults : M.results = true) (hs : s.outside M = r) :
    NextOutside M r (execDictStoreDone ok s) := by
  unfold execDictStoreDone
  refine next_outside ?_
  split
  · exact hs
  · extract_lets +onlyGivenNames -merge -underBinder x0
    unfold x0
    clear x0
    extract_lets +onlyGivenNames -merge -underBinder x1
    have q2 : State.outside M x1 = r := by
      unfold x1
      refine Eq.trans (State.outside_dict_dict (h0 := hDict) ..) ?_
      exact hs
    try clear_value x1
    extract_lets +onlyGivenNames -merge -underBinder x3
    unfold x3
    clear x3
    refine ite_outside ?_ ?_
    · refine State.resEnd_outside hResults ?_
      refine Eq.trans (State.outside_dict_dict (h0 := hDict) ..) ?_
      exact q2
    · refine State.resEnd_outside hResults ?_
      exact q2

theorem execDictStore_outside {M : Touch} {r : State} {s : State} (hDict : M.dict = true) (hResults : M.results = true) (hs : s.outside M = r) :
    NextOutside M r (execDictStore s) := by
  unfold execDictStore
  refine next_outside ?_
  refine ite_outside ?_ ?_
  · exact hs
  · refine State.storeCmd_outside hDict hResults ?_
    exact hs

theorem execTxnIdleExpiry_outside {M : Touch} {r : State} {dt : Nat} {s : State} (hClock : M.clock = true) (hChain : M.chain = true) (hChainPorts : M.chainPorts = true) (hDict : M.dict = true) (hNums : M.Nums Nums16) (hResults : M.results = true) (hLogs : M.logs = true) (hVbat : M.vbat = true) (hSb : M.sb = true) (hStraps : M.straps = true) (hJournal : M.journal = true) (hEdges : M.edges = true) (hHost : M.host = true) (hFlags : M.flags = true) (hs : s.outside M = r) :
    NextOutside M r (execTxnIdleExpiry dt s) := by
  unfold execTxnIdleExpiry
  extract_lets +onlyGivenNames -merge -underBinder x0
  have q1 : State.outside M x0 = r := by
    unfold x0
    refine State.advance_outside hClock hVbat ?_
    exact hs
  try clear_value x0
  refine next_outside ?_
  split
  · refine ite_outside ?_ ?_
    · refine State.txnExpire_outside hChain hChainPorts hDict hNums hResults hLogs hSb hStraps hJournal hEdges hHost hFlags ?_
      exact q1
    · exact q1
  · exact q1

theorem execGraceEnd_outside {M : Touch} {r : State} {tenant : Nat} {dt : Nat} {s : State} (hPins : M.pins = true) (hClock : M.clock = true) (hDict : M.dict = true) (hNums : M.Nums Nums61) (hResults : M.results = true) (hLogs : M.logs = true) (hVbat : M.vbat = true) (hPorts : M.ports = true) (hRxTiles : M.rxTiles = true) (hTxTiles : M.txTiles = true) (hStraps : M.straps = true) (hJournal : M.journal = true) (hEdges : M.edges = true) (hFlags : M.flags = true) (hs : s.outside M = r) :
    NextOutside M r (execGraceEnd tenant dt s) := by
  unfold execGraceEnd
  extract_lets +onlyGivenNames -merge -underBinder x0
  have q1 : State.outside M x0 = r := by
    unfold x0
    refine State.advance_outside hClock hVbat ?_
    exact hs
  try clear_value x0
  refine next_outside ?_
  split
  · extract_lets +onlyGivenNames -merge -underBinder x2
    unfold x2
    clear x2
    refine ite_outside ?_ ?_
    · refine State.placeAll_outside hPins hDict hNums hResults hLogs hPorts hRxTiles hTxTiles hStraps hJournal hEdges hFlags ?_
      refine Eq.trans (State.outside_dict_dict (h0 := hDict) ..) ?_
      exact q1
    · exact q1
  · exact q1

theorem execPwrStateCmd_outside {M : Touch} {r : State} {t : Fin 3} {s : State} (hPins : M.pins = true) (hDict : M.dict = true) (hNums : M.Nums Nums52) (hResults : M.results = true) (hLogs : M.logs = true) (hPower : M.power = true) (hPorts : M.ports = true) (hRxTiles : M.rxTiles = true) (hStraps : M.straps = true) (hJournal : M.journal = true) (hEdges : M.edges = true) (hFlags : M.flags = true) (hs : s.outside M = r) :
    NextOutside M r (execPwrStateCmd t s) := by
  unfold execPwrStateCmd
  refine next_outside ?_
  refine ite_outside ?_ ?_
  · exact hs
  · refine State.pwrCmd_outside hPins hDict hNums hResults hLogs hPower hPorts hRxTiles hStraps hJournal hEdges hFlags ?_
    exact hs

end Sys2Proof.Machine
end

