-- ==== Sys2Proof/Laws/Frame/DictServer.lean ====
section
/-! SUPPORT. What the operations of Machine/DictServer.lean leave alone. -/

namespace Sys2Proof.Machine

theorem State.say_outside {M : Touch} {r : State} {s : State} {status : Nat} (hs : s.outside M = r) :
    (State.say s status).state.outside M = r := by
  unfold State.say
  refine state_outside ?_
  exact hs

theorem State.transferDrop_outside {M : Touch} {r : State} {s : State} {k : Nat} (hDict : M.dict = true) (hs : s.outside M = r) :
    (State.transferDrop s k).outside M = r := by
  unfold State.transferDrop
  extract_lets +onlyGivenNames -merge -underBinder x0
  unfold x0
  clear x0
  refine Eq.trans (State.outside_dict_dict (h0 := hDict) ..) ?_
  exact hs

theorem State.transferDrop_keeps {s : State} {k : Nat} : Kept213 s (State.transferDrop s k) :=
  .of (State.transferDrop_outside rfl rfl)

theorem State.stageLost_outside {M : Touch} {r : State} {s : State} {idx : Nat} (hDict : M.dict = true) (hNums : M.Nums Nums2) (hLogs : M.logs = true) (hStraps : M.straps = true) (hJournal : M.journal = true) (hEdges : M.edges = true) (hFlags : M.flags = true) (hs : s.outside M = r) :
    (State.stageLost s idx).outside M = r := by
  unfold State.stageLost
  refine State.post_outside hDict hNums hLogs hStraps hJournal hEdges hFlags ?_
  exact hs

theorem State.stageLost_keeps {s : State} {idx : Nat} : Kept8 s (State.stageLost s idx) :=
  .of (State.stageLost_outside rfl rfl rfl rfl rfl rfl rfl rfl)

theorem State.stageLost_rd {s : State} {idx : Nat} {kk : Nat} (hkey : Nums2.contains (Key.fam kk) = false) : (State.stageLost s idx).rd kk = s.rd kk :=
  State.rd_of_outside (M := .but Nums2) (State.stageLost_outside rfl .self rfl rfl rfl rfl rfl rfl) rfl hkey

theorem State.transferLost_outside {M : Touch} {r : State} {s : State} {k : Nat} (hDict : M.dict = true) (hNums : M.Nums Nums2) (hLogs : M.logs = true) (hStraps : M.straps = true) (hJournal : M.journal = true) (hEdges : M.edges = true) (hFlags : M.flags = true) (hs : s.outside M = r) :
    (State.transferLost s k).outside M = r := by
  unfold State.transferLost
  refine State.stageLost_outside hDict hNums hLogs hStraps hJournal hEdges hFlags ?_
  refine State.transferDrop_outside hDict ?_
  exact hs

theorem State.transferLost_keeps {s : State} {k : Nat} : Kept8 s (State.transferLost s k) :=
  .of (State.transferLost_outside rfl rfl rfl rfl rfl rfl rfl rfl)

theorem State.transferLost_rd {s : State} {k : Nat} {kk : Nat} (hkey : Nums2.contains (Key.fam kk) = false) : (State.transferLost s k).rd kk = s.rd kk :=
  State.rd_of_outside (M := .but Nums2) (State.transferLost_outside rfl .self rfl rfl rfl rfl rfl rfl) rfl hkey

theorem State.abortOp_outside {M : Touch} {r : State} {s : State} {a : Access} (hChain : M.chain = true) (hChainPorts : M.chainPorts = true) (hDict : M.dict = true) (hNums : M.Nums Nums16) (hResults : M.results = true) (hLogs : M.logs = true) (hSb : M.sb = true) (hStraps : M.straps = true) (hJournal : M.journal = true) (hEdges : M.edges = true) (hHost : M.host = true) (hFlags : M.flags = true) (hs : s.outside M = r) :
    (State.abortOp s a).state.outside M = r := by
  unfold State.abortOp
  extract_lets +onlyGivenNames -merge -underBinder x0
  try clear_value x0
  refine ite_state_outside ?_ ?_
  · refine State.say_outside  ?_
    refine State.each_outside ?_ ?_
    · intro t1 q2 z3
      refine State.transferLost_outside hDict (hNums.sub rfl) hLogs hStraps hJournal hEdges hFlags ?_
      exact q2
    · exact hs
  · split
    · refine State.say_outside  ?_
      exact hs
    · refine ite_state_outside ?_ ?_
      · refine State.say_outside  ?_
        refine State.enumResume_outside hChain hChainPorts hDict hNums hResults hLogs hSb hStraps hJournal hEdges hHost hFlags ?_
        refine State.txnEnd_outside hDict ?_
        exact hs
      · refine State.say_outside  ?_
        exact hs

theorem State.report_outside {M : Touch} {r : State} {s : State} {status : Nat} {masks : List Nat} (hs : s.outside M = r) :
    (State.report s status masks).state.outside M = r := by
  unfold State.report
  refine state_outside ?_
  exact hs

theorem State.writeCmd_outside {M : Touch} {r : State} {s : State} {k : Nat} {w : Written} (hs : s.outside M = r) :
    (State.writeCmd s k w).state.outside M = r := by
  unfold State.writeCmd
  extract_lets +onlyGivenNames -merge -underBinder x0
  try clear_value x0
  extract_lets +onlyGivenNames -merge -underBinder x1
  try clear_value x1
  refine ite_state_outside ?_ ?_
  · refine State.report_outside  ?_
    exact hs
  · refine ite_state_outside ?_ ?_
    · refine State.say_outside  ?_
      exact hs
    · refine state_outside ?_
      exact hs

theorem State.stage_outside {M : Touch} {r : State} {s : State} {a : Access} {l : List Written} (hDict : M.dict = true) (hNums : M.Nums Nums65) (hLogs : M.logs = true) (hJournal : M.journal = true) (hs : s.outside M = r) :
    (State.stage s a l).outside M = r := by
  unfold State.stage
  extract_lets +onlyGivenNames -merge -underBinder x0
  try clear_value x0
  extract_lets +onlyGivenNames -merge -underBinder x1
  try clear_value x1
  refine State.each_outside ?_ ?_
  · intro t2 q3 z4
    refine State.clampEntries_outside hNums hLogs hJournal ?_
    exact q3
  · refine State.setTxn_outside hDict ?_
    exact hs

theorem State.stage_keeps {s : State} {a : Access} {l : List Written} : Kept223 s (State.stage s a l) :=
  .of (State.stage_outside rfl rfl rfl rfl rfl)

theorem State.stage_rd {s : State} {a : Access} {l : List Written} {kk : Nat} (hkey : Nums65.contains (Key.fam kk) = false) : (State.stage s a l).rd kk = s.rd kk :=
  State.rd_of_outside (M := .but Nums65) (State.stage_outside rfl .self rfl rfl rfl) rfl hkey

theorem State.written_outside {M : Touch} {r : State} {s : State} {l : List Written} (hs : s.outside M = r) :
    (State.written s l).state.outside M = r := by
  unfold State.written
  refine ite_state_outside ?_ ?_
  · refine State.say_outside  ?_
    exact hs
  · refine State.report_outside  ?_
    exact hs

theorem State.writeTake_outside {M : Touch} {r : State} {s : State} {a : Access} {g : Nat} {l : List Written} (hPins : M.pins = true) (hClock : M.clock = true) (hPulses : M.pulses = true) (hDict : M.dict = true) (hAny : M.anyNum = true) (hLogs : M.logs = true) (hVbat : M.vbat = true) (hPorts : M.ports = true) (hRecs : M.recs = true) (hSched : M.sched = true) (hStraps : M.straps = true) (hJournal : M.journal = true) (hCurb : M.curb = true) (hConcho : M.concho = true) (hEdges : M.edges = true) (hFlags : M.flags = true) (hs : s.outside M = r) :
    (State.writeTake s a g l).state.outside M = r := by
  unfold State.writeTake
  refine ite_state_outside ?_ ?_
  · refine State.report_outside  ?_
    exact hs
  · refine ite_state_outside ?_ ?_
    · refine State.written_outside  ?_
      refine State.stage_outside hDict (.any hAny) hLogs hJournal ?_
      exact hs
    · refine ite_state_outside ?_ ?_
      · split
        · refine State.writeCmd_outside  ?_
          exact hs
        · refine State.say_outside  ?_
          exact hs
      · refine State.written_outside  ?_
        refine State.applyWrite_outside hPins hClock hPulses hDict hAny hLogs hVbat hPorts hRecs hSched hStraps hJournal hCurb hConcho hEdges hFlags ?_
        exact hs

theorem State.writeOp_outside {M : Touch} {r : State} {s : State} {a : Access} (hPins : M.pins = true) (hClock : M.clock = true) (hPulses : M.pulses = true) (hDict : M.dict = true) (hAny : M.anyNum = true) (hLogs : M.logs = true) (hVbat : M.vbat = true) (hPorts : M.ports = true) (hRecs : M.recs = true) (hSched : M.sched = true) (hStraps : M.straps = true) (hJournal : M.journal = true) (hCurb : M.curb = true) (hConcho : M.concho = true) (hEdges : M.edges = true) (hFlags : M.flags = true) (hs : s.outside M = r) :
    (State.writeOp s a).state.outside M = r := by
  unfold State.writeOp
  split
  · refine State.say_outside  ?_
    exact hs
  · extract_lets +onlyGivenNames -merge -underBinder x0
    try clear_value x0
    refine ite_state_outside ?_ ?_
    · refine State.say_outside  ?_
      exact hs
    · refine ite_state_outside ?_ ?_
      · refine State.say_outside  ?_
        exact hs
      · split
        · refine State.say_outside  ?_
          exact hs
        · extract_lets +onlyGivenNames -merge -underBinder x1
          try clear_value x1
          refine State.writeTake_outside hPins hClock hPulses hDict hAny hLogs hVbat hPorts hRecs hSched hStraps hJournal hCurb hConcho hEdges hFlags ?_
          exact hs

theorem State.notifyOp_outside {M : Touch} {r : State} {s : State} {via : Via} {a : Access} (hDict : M.dict = true) (hs : s.outside M = r) :
    (State.notifyOp s via a).state.outside M = r := by
  unfold State.notifyOp
  extract_lets +onlyGivenNames -merge -underBinder x0
  try clear_value x0
  split
  · refine State.say_outside  ?_
    exact hs
  · extract_lets +onlyGivenNames -merge -underBinder x1
    try clear_value x1
    extract_lets +onlyGivenNames -merge -underBinder x2
    unfold x2
    clear x2
    extract_lets +onlyGivenNames -merge -underBinder x3
    try clear_value x3
    extract_lets +onlyGivenNames -merge -underBinder x4
    try clear_value x4
    extract_lets +onlyGivenNames -merge -underBinder x5
    try clear_value x5
    extract_lets +onlyGivenNames -merge -underBinder x6
    unfold x6
    clear x6
    extract_lets +onlyGivenNames -merge -underBinder x7
    have q8 : State.outside M x7 = r := by
      unfold x7
      refine Eq.trans (State.outside_dict_dict (h0 := hDict) ..) ?_
      exact hs
    try clear_value x7
    refine ite_state_outside ?_ ?_
    · refine State.say_outside  ?_
      exact hs
    · refine ite_state_outside ?_ ?_
      · refine State.say_outside  ?_
        refine Eq.trans (State.outside_dict_dict (h0 := hDict) ..) ?_
        exact hs
      · refine ite_state_outside ?_ ?_
        · refine State.say_outside  ?_
          exact hs
        · refine ite_state_outside ?_ ?_
          · refine State.say_outside  ?_
            exact hs
          · refine ite_state_outside ?_ ?_
            · refine State.say_outside  ?_
              exact q8
            · refine State.report_outside  ?_
              exact q8

theorem State.prepareOpen_outside {M : Touch} {r : State} {s : State} {t : Txn} {e : Time80} (hDict : M.dict = true) (hs : s.outside M = r) :
    (State.prepareOpen s t e).state.outside M = r := by
  unfold State.prepareOpen
  extract_lets +onlyGivenNames -merge -underBinder x0
  try clear_value x0
  refine ite_state_outside ?_ ?_
  · refine State.say_outside  ?_
    exact hs
  · refine ite_state_outside ?_ ?_
    · refine State.say_outside  ?_
      exact hs
    · refine ite_state_outside ?_ ?_
      · refine State.report_outside  ?_
        exact hs
      · refine State.say_outside  ?_
        refine State.setTxn_outside hDict ?_
        exact hs

theorem State.prepareOp_outside {M : Touch} {r : State} {s : State} {a : Access} (hDict : M.dict = true) (hs : s.outside M = r) :
    (State.prepareOp s a).state.outside M = r := by
  unfold State.prepareOp
  extract_lets +onlyGivenNames -merge -underBinder x0
  try clear_value x0
  refine ite_state_outside ?_ ?_
  · refine State.say_outside  ?_
    exact hs
  · split
    · refine State.say_outside  ?_
      exact hs
    · refine ite_state_outside ?_ ?_
      · refine State.say_outside  ?_
        exact hs
      · refine ite_state_outside ?_ ?_
        · refine State.prepareOpen_outside hDict ?_
          exact hs
        · refine ite_state_outside ?_ ?_
          · refine State.say_outside  ?_
            exact hs
          · refine State.say_outside  ?_
            exact hs

theorem State.readClears_outside {M : Touch} {r : State} {s : State} {idx n : Nat} {l : List Dict.Entry} (hAny : M.anyNum = true) (hVbat : M.vbat = true) (hs : s.outside M = r) :
    (State.readClears s idx n l).outside M = r := by
  induction l generalizing s n with
  | nil => exact hs
  | cons e l ih =>
    refine ih ?_
    refine ite_outside ?_ hs
    refine State.clearRead_outside hAny hVbat ?_
    exact hs

theorem State.readClears_keeps {s : State} {idx n : Nat} {l : List Dict.Entry} : Kept201 s (State.readClears s idx n l) :=
  .of (State.readClears_outside rfl rfl rfl)

theorem State.readOp_outside {M : Touch} {r : State} {s : State} {a : Access} (hAny : M.anyNum = true) (hVbat : M.vbat = true) (hs : s.outside M = r) :
    (State.readOp s a).state.outside M = r := by
  unfold State.readOp
  split
  · refine State.say_outside  ?_
    exact hs
  · refine ite_state_outside ?_ ?_
    · refine State.say_outside  ?_
      exact hs
    · refine state_outside ?_
      refine State.readClears_outside hAny hVbat ?_
      exact hs

theorem State.readBlockOp_outside {M : Touch} {r : State} {s : State} {a : Access} (hDict : M.dict = true) (hNums : M.Nums Nums6) (hLogs : M.logs = true) (hStraps : M.straps = true) (hJournal : M.journal = true) (hEdges : M.edges = true) (hFlags : M.flags = true) (hs : s.outside M = r) :
    (State.readBlockOp s a).state.outside M = r := by
  unfold State.readBlockOp
  split
  · refine State.say_outside  ?_
    exact hs
  · split
    · extract_lets +onlyGivenNames -merge -underBinder x0
      try clear_value x0
      extract_lets +onlyGivenNames -merge -underBinder x1
      have q2 : State.outside M x1 = r := by
        unfold x1
        refine ite_outside ?_ ?_
        · refine State.targetCheck_outside hDict hNums hLogs hStraps hJournal hEdges hFlags ?_
          exact hs
        · exact hs
      try clear_value x1
      refine ite_state_outside ?_ ?_
      · refine State.say_outside  ?_
        exact hs
      · refine state_outside ?_
        exact q2
    · refine State.say_outside  ?_
      exact hs

theorem State.blockLast_outside {M : Touch} {r : State} {s : State} {t : Transfer} (hPins : M.pins = true) (hDict : M.dict = true) (hNums : M.Nums Nums74) (hDoms : M.doms = true) (hResults : M.results = true) (hLogs : M.logs = true) (hPorts : M.ports = true) (hRxTiles : M.rxTiles = true) (hTxTiles : M.txTiles = true) (hRecs : M.recs = true) (hSched : M.sched = true) (hKeeper : M.keeper = true) (hSb : M.sb = true) (hStraps : M.straps = true) (hJournal : M.journal = true) (hAttached : M.Attached r) (hNodeQueues : M.nodeQueues = true) (hHar : M.har = true) (hQueues : M.queues = true) (hLacing : M.lacing = true) (hTree : M.tree = true) (hConcho : M.concho = true) (hCores : M.cores = true) (hLocals : M.Locals r) (hEdges : M.edges = true) (hFlags : M.flags = true) (hReports : M.reports = true) (hs : s.outside M = r) :
    (State.blockLast s t).state.outside M = r := by
  unfold State.blockLast
  extract_lets +onlyGivenNames -merge -underBinder x0
  have q1 : State.outside M x0.1 = r := by
    unfold x0
    refine State.domainTake_outside hPins hDict hNums hDoms hResults hLogs hPorts hRxTiles hTxTiles hRecs hSched hKeeper hSb hStraps hJournal hAttached hNodeQueues hHar hQueues hLacing hTree hConcho hCores hLocals hEdges hFlags hReports ?_
    refine State.transferDrop_outside hDict ?_
    exact hs
  try clear_value x0
  refine ite_state_outside ?_ ?_
  · refine State.say_outside  ?_
    exact q1
  · refine State.say_outside  ?_
    refine State.stageLost_outside hDict (hNums.sub rfl) hLogs hStraps hJournal hEdges hFlags ?_
    exact q1

theorem State.transferPut_outside {M : Touch} {r : State} {s : State} {t : Transfer} (hDict : M.dict = true) (hs : s.outside M = r) :
    (State.transferPut s t).outside M = r := by
  unfold State.transferPut
  extract_lets +onlyGivenNames -merge -underBinder x0
  have q1 : State.outside M x0 = r := by
    unfold x0
    refine State.transferDrop_outside hDict ?_
    exact hs
  try clear_value x0
  extract_lets +onlyGivenNames -merge -underBinder x2
  unfold x2
  clear x2
  refine Eq.trans (State.outside_dict_dict (h0 := hDict) ..) ?_
  exact q1

theorem State.transferPut_keeps {s : State} {t : Transfer} : Kept213 s (State.transferPut s t) :=
  .of (State.transferPut_outside rfl rfl)

theorem State.blockJoin_outside {M : Touch} {r : State} {s : State} {a0 : Dict.Entry} {t : Transfer} {a : Access} (hPins : M.pins = true) (hDict : M.dict = true) (hNums : M.Nums Nums74) (hDoms : M.doms = true) (hResults : M.results = true) (hLogs : M.logs = true) (hPorts : M.ports = true) (hRxTiles : M.rxTiles = true) (hTxTiles : M.txTiles = true) (hRecs : M.recs = true) (hSched : M.sched = true) (hKeeper : M.keeper = true) (hSb : M.sb = true) (hStraps : M.straps = true) (hJournal : M.journal = true) (hAttached : M.Attached r) (hNodeQueues : M.nodeQueues = true) (hHar : M.har = true) (hQueues : M.queues = true) (hLacing : M.lacing = true) (hTree : M.tree = true) (hConcho : M.concho = true) (hCores : M.cores = true) (hLocals : M.Locals r) (hEdges : M.edges = true) (hFlags : M.flags = true) (hReports : M.reports = true) (hs : s.outside M = r) :
    (State.blockJoin s a0 t a).state.outside M = r := by
  unfold State.blockJoin
  extract_lets +onlyGivenNames -merge -underBinder x1
  have q2 : State.outside M x1 = r := by
    unfold x1
    refine ite_outside ?_ ?_
    · refine State.treeBlock_outside hTree ?_
      exact hs
    · exact hs
  try clear_value x1
  extract_lets +onlyGivenNames -merge -underBinder x3
  try clear_value x3
  refine ite_state_outside ?_ ?_
  · refine State.say_outside  ?_
    refine State.transferLost_outside hDict (hNums.sub rfl) hLogs hStraps hJournal hEdges hFlags ?_
    exact hs
  · refine ite_state_outside ?_ ?_
    · refine State.blockLast_outside hPins hDict hNums hDoms hResults hLogs hPorts hRxTiles hTxTiles hRecs hSched hKeeper hSb hStraps hJournal hAttached hNodeQueues hHar hQueues hLacing hTree hConcho hCores hLocals hEdges hFlags hReports ?_
      exact q2
    · refine State.say_outside  ?_
      refine State.transferPut_outside hDict ?_
      exact q2

theorem State.blockNext_outside {M : Touch} {r : State} {s : State} {k : Nat} {a0 : Dict.Entry} {a : Access} (hPins : M.pins = true) (hDict : M.dict = true) (hNums : M.Nums Nums74) (hDoms : M.doms = true) (hResults : M.results = true) (hLogs : M.logs = true) (hPorts : M.ports = true) (hRxTiles : M.rxTiles = true) (hTxTiles : M.txTiles = true) (hRecs : M.recs = true) (hSched : M.sched = true) (hKeeper : M.keeper = true) (hSb : M.sb = true) (hStraps : M.straps = true) (hJournal : M.journal = true) (hAttached : M.Attached r) (hNodeQueues : M.nodeQueues = true) (hHar : M.har = true) (hQueues : M.queues = true) (hLacing : M.lacing = true) (hTree : M.tree = true) (hConcho : M.concho = true) (hCores : M.cores = true) (hLocals : M.Locals r) (hEdges : M.edges = true) (hFlags : M.flags = true) (hReports : M.reports = true) (hs : s.outside M = r) :
    (State.blockNext s k a0 a).state.outside M = r := by
  unfold State.blockNext
  split
  · refine State.say_outside  ?_
    refine State.stageLost_outside hDict (hNums.sub rfl) hLogs hStraps hJournal hEdges hFlags ?_
    exact hs
  · refine ite_state_outside ?_ ?_
    · refine State.say_outside  ?_
      exact hs
    · refine State.blockJoin_outside hPins hDict hNums hDoms hResults hLogs hPorts hRxTiles hTxTiles hRecs hSched hKeeper hSb hStraps hJournal hAttached hNodeQueues hHar hQueues hLacing hTree hConcho hCores hLocals hEdges hFlags hReports ?_
      exact hs

theorem State.blockOpen_outside {M : Touch} {r : State} {s : State} {k : Nat} {a0 : Dict.Entry} {a : Access} (hPins : M.pins = true) (hDict : M.dict = true) (hNums : M.Nums Nums74) (hDoms : M.doms = true) (hResults : M.results = true) (hLogs : M.logs = true) (hPorts : M.ports = true) (hRxTiles : M.rxTiles = true) (hTxTiles : M.txTiles = true) (hRecs : M.recs = true) (hSched : M.sched = true) (hKeeper : M.keeper = true) (hSb : M.sb = true) (hStraps : M.straps = true) (hJournal : M.journal = true) (hAttached : M.Attached r) (hNodeQueues : M.nodeQueues = true) (hHar : M.har = true) (hQueues : M.queues = true) (hLacing : M.lacing = true) (hTree : M.tree = true) (hConcho : M.concho = true) (hCores : M.cores = true) (hLocals : M.Locals r) (hEdges : M.edges = true) (hFlags : M.flags = true) (hReports : M.reports = true) (hs : s.outside M = r) :
    (State.blockOpen s k a0 a).state.outside M = r := by
  unfold State.blockOpen
  extract_lets +onlyGivenNames -merge -underBinder x1
  have q2 : State.outside M x1 = r := by
    unfold x1
    refine ite_outside ?_ ?_
    · refine State.transferLost_outside hDict (hNums.sub rfl) hLogs hStraps hJournal hEdges hFlags ?_
      exact hs
    · exact hs
  try clear_value x1
  extract_lets +onlyGivenNames -merge -underBinder x3
  try clear_value x3
  extract_lets +onlyGivenNames -merge -underBinder x4
  have q5 : State.outside M x4.1 = r := by
    unfold x4
    refine State.treeFirst_outside hDict (hNums.sub rfl) hLogs hStraps hJournal hTree hEdges hFlags ?_
    exact q2
  try clear_value x4
  refine ite_state_outside ?_ ?_
  · refine State.say_outside  ?_
    exact hs
  · refine ite_state_outside ?_ ?_
    · refine State.say_outside  ?_
      exact hs
    · refine ite_state_outside ?_ ?_
      · refine State.say_outside  ?_
        exact q2
      · refine ite_state_outside ?_ ?_
        · refine ite_state_outside ?_ ?_
          · refine State.blockJoin_outside hPins hDict hNums hDoms hResults hLogs hPorts hRxTiles hTxTiles hRecs hSched hKeeper hSb hStraps hJournal hAttached hNodeQueues hHar hQueues hLacing hTree hConcho hCores hLocals hEdges hFlags hReports ?_
            exact q5
          · refine State.say_outside  ?_
            refine State.stageLost_outside hDict (hNums.sub rfl) hLogs hStraps hJournal hEdges hFlags ?_
            exact q5
        · refine State.blockJoin_outside hPins hDict hNums hDoms hResults hLogs hPorts hRxTiles hTxTiles hRecs hSched hKeeper hSb hStraps hJournal hAttached hNodeQueues hHar hQueues hLacing hTree hConcho hCores hLocals hEdges hFlags hReports ?_
          exact q2

theorem State.writeBlockOp_outside {M : Touch} {r : State} {s : State} {a : Access} (hPins : M.pins = true) (hDict : M.dict = true) (hNums : M.Nums Nums74) (hDoms : M.doms = true) (hResults : M.results = true) (hLogs : M.logs = true) (hPorts : M.ports = true) (hRxTiles : M.rxTiles = true) (hTxTiles : M.txTiles = true) (hRecs : M.recs = true) (hSched : M.sched = true) (hKeeper : M.keeper = true) (hSb : M.sb = true) (hStraps : M.straps = true) (hJournal : M.journal = true) (hAttached : M.Attached r) (hNodeQueues : M.nodeQueues = true) (hHar : M.har = true) (hQueues : M.queues = true) (hLacing : M.lacing = true) (hTree : M.tree = true) (hConcho : M.concho = true) (hCores : M.cores = true) (hLocals : M.Locals r) (hEdges : M.edges = true) (hFlags : M.flags = true) (hReports : M.reports = true) (hs : s.outside M = r) :
    (State.writeBlockOp s a).state.outside M = r := by
  unfold State.writeBlockOp
  split
  · refine State.say_outside  ?_
    exact hs
  · split
    · extract_lets +onlyGivenNames -merge -underBinder x0
      try clear_value x0
      refine ite_state_outside ?_ ?_
      · refine State.say_outside  ?_
        exact hs
      · refine ite_state_outside ?_ ?_
        · refine State.say_outside  ?_
          exact hs
        · refine ite_state_outside ?_ ?_
          · refine State.blockOpen_outside hPins hDict hNums hDoms hResults hLogs hPorts hRxTiles hTxTiles hRecs hSched hKeeper hSb hStraps hJournal hAttached hNodeQueues hHar hQueues hLacing hTree hConcho hCores hLocals hEdges hFlags hReports ?_
            exact hs
          · refine State.blockNext_outside hPins hDict hNums hDoms hResults hLogs hPorts hRxTiles hTxTiles hRecs hSched hKeeper hSb hStraps hJournal hAttached hNodeQueues hHar hQueues hLacing hTree hConcho hCores hLocals hEdges hFlags hReports ?_
            exact hs
    · refine State.say_outside  ?_
      exact hs

theorem State.commitPrepared_outside {M : Touch} {r : State} {s : State} {t : Txn} (hPins : M.pins = true) (hChain : M.chain = true) (hChainPorts : M.chainPorts = true) (hDict : M.dict = true) (hAny : M.anyNum = true) (hResults : M.results = true) (hLogs : M.logs = true) (hPorts : M.ports = true) (hRxTiles : M.rxTiles = true) (hTxTiles : M.txTiles = true) (hRecs : M.recs = true) (hSched : M.sched = true) (hSb : M.sb = true) (hStraps : M.straps = true) (hJournal : M.journal = true) (hNodeQueues : M.nodeQueues = true) (hLacing : M.lacing = true) (hEdges : M.edges = true) (hHost : M.host = true) (hFlags : M.flags = true) (hReports : M.reports = true) (hs : s.outside M = r) :
    (State.commitPrepared s t).state.outside M = r := by
  unfold State.commitPrepared
  refine ite_state_outside ?_ ?_
  · refine State.say_outside  ?_
    refine State.enumResume_outside hChain hChainPorts hDict (.any hAny) hResults hLogs hSb hStraps hJournal hEdges hHost hFlags ?_
    refine State.setTxn_outside hDict ?_
    exact hs
  · refine State.say_outside  ?_
    refine State.post_outside hDict (.any hAny) hLogs hStraps hJournal hEdges hFlags ?_
    refine State.txnApply_outside hPins hChain hChainPorts hDict hAny hResults hLogs hPorts hRxTiles hTxTiles hRecs hSched hSb hStraps hJournal hNodeQueues hLacing hEdges hHost hFlags hReports ?_
    exact hs

theorem State.commitOp_outside {M : Touch} {r : State} {s : State} {a : Access} (hPins : M.pins = true) (hChain : M.chain = true) (hChainPorts : M.chainPorts = true) (hDict : M.dict = true) (hAny : M.anyNum = true) (hResults : M.results = true) (hLogs : M.logs = true) (hPorts : M.ports = true) (hRxTiles : M.rxTiles = true) (hTxTiles : M.txTiles = true) (hRecs : M.recs = true) (hSched : M.sched = true) (hSb : M.sb = true) (hStraps : M.straps = true) (hJournal : M.journal = true) (hNodeQueues : M.nodeQueues = true) (hLacing : M.lacing = true) (hEdges : M.edges = true) (hHost : M.host = true) (hFlags : M.flags = true) (hReports : M.reports = true) (hs : s.outside M = r) :
    (State.commitOp s a).state.outside M = r := by
  unfold State.commitOp
  split
  · refine State.say_outside  ?_
    exact hs
  · refine ite_state_outside ?_ ?_
    · refine State.say_outside  ?_
      exact hs
    · split
      · refine State.say_outside  ?_
        exact hs
      · refine State.commitPrepared_outside hPins hChain hChainPorts hDict hAny hResults hLogs hPorts hRxTiles hTxTiles hRecs hSched hSb hStraps hJournal hNodeQueues hLacing hEdges hHost hFlags hReports ?_
        exact hs
      · refine State.say_outside  ?_
        exact hs

theorem State.runOp_outside {M : Touch} {r : State} {s : State} {via : Via} {a : Access} (hPins : M.pins = true) (hClock : M.clock = true) (hPulses : M.pulses = true) (hChain : M.chain = true) (hChainPorts : M.chainPorts = true) (hDict : M.dict = true) (hAny : M.anyNum = true) (hDoms : M.doms = true) (hResults : M.results = true) (hLogs : M.logs = true) (hVbat : M.vbat = true) (hPorts : M.ports = true) (hRxTiles : M.rxTiles = true) (hTxTiles : M.txTiles = true) (hRecs : M.recs = true) (hSched : M.sched = true) (hKeeper : M.keeper = true) (hSb : M.sb = true) (hStraps : M.straps = true) (hJournal : M.journal = true) (hAttached : M.Attached r) (hNodeQueues : M.nodeQueues = true) (hHar : M.har = true) (hQueues : M.queues = true) (hLacing : M.lacing = true) (hTree : M.tree = true) (hCurb : M.curb = true) (hConcho : M.concho = true) (hCores : M.cores = true) (hLocals : M.Locals r) (hEdges : M.edges = true) (hHost : M.host = true) (hFlags : M.flags = true) (hReports : M.reports = true) (hs : s.outside M = r) :
    (State.runOp s via a).state.outside M = r := by
  unfold State.runOp
  split
  · refine State.readOp_outside hAny hVbat ?_
    exact hs
  · refine State.writeOp_outside hPins hClock hPulses hDict hAny hLogs hVbat hPorts hRecs hSched hStraps hJournal hCurb hConcho hEdges hFlags ?_
    exact hs
  · refine State.readBlockOp_outside hDict (.any hAny) hLogs hStraps hJournal hEdges hFlags ?_
    exact hs
  · refine State.writeBlockOp_outside hPins hDict (.any hAny) hDoms hResults hLogs hPorts hRxTiles hTxTiles hRecs hSched hKeeper hSb hStraps hJournal hAttached hNodeQueues hHar hQueues hLacing hTree hConcho hCores hLocals hEdges hFlags hReports ?_
    exact hs
  · refine State.prepareOp_outside hDict ?_
    exact hs
  · refine State.commitOp_outside hPins hChain hChainPorts hDict hAny hResults hLogs hPorts hRxTiles hTxTiles hRecs hSched hSb hStraps hJournal hNodeQueues hLacing hEdges hHost hFlags hReports ?_
    exact hs
  · refine State.abortOp_outside hChain hChainPorts hDict (.any hAny) hResults hLogs hSb hStraps hJournal hEdges hHost hFlags ?_
    exact hs
  · refine State.notifyOp_outside hDict ?_
    exact hs
  · refine State.say_outside  ?_
    exact hs

theorem State.dictSend_outside {M : Touch} {r : State} {s : State} {dst : Nat} {a : Access} (hChainPorts : M.chainPorts = true) (hNums : M.Nums Nums11) (hs : s.outside M = r) :
    (State.dictSend s dst a).outside M = r := by
  unfold State.dictSend
  refine State.sendChain_outside hChainPorts hNums ?_
  exact hs

theorem State.dictSend_keeps {s : State} {dst : Nat} {a : Access} : Kept18 s (State.dictSend s dst a) :=
  .of (State.dictSend_outside rfl rfl rfl)

theorem State.dictSend_rd {s : State} {dst : Nat} {a : Access} {kk : Nat} (hkey : Nums11.contains (Key.fam kk) = false) : (State.dictSend s dst a).rd kk = s.rd kk :=
  State.rd_of_outside (M := .but Nums11) (State.dictSend_outside rfl .self rfl) rfl hkey

theorem State.corePut_outside {M : Touch} {r : State} {s : State} {n : Nat} {a : Access} (hCores : M.cores = true) (hEdges : M.edges = true) (hs : s.outside M = r) :
    (State.corePut s n a).outside M = r := by
  unfold State.corePut
  extract_lets +onlyGivenNames -merge -underBinder x0
  try clear_value x0
  extract_lets +onlyGivenNames -merge -underBinder x1
  try clear_value x1
  extract_lets +onlyGivenNames -merge -underBinder x2
  unfold x2
  clear x2
  refine State.raise_outside hEdges ?_
  refine Eq.trans (State.outside_cores_cores (h0 := hCores) ..) ?_
  exact hs

theorem State.corePut_keeps {s : State} {n : Nat} {a : Access} : Kept224 s (State.corePut s n a) :=
  .of (State.corePut_outside rfl rfl rfl)

theorem State.mailboxIn_outside {M : Touch} {r : State} {s : State} {a : Access} {chain : Bool} (hHost : M.host = true) (hFlags : M.flags = true) (hs : s.outside M = r) :
    (State.mailboxIn s a chain).outside M = r := by
  unfold State.mailboxIn
  extract_lets +onlyGivenNames -merge -underBinder x0
  unfold x0
  clear x0
  extract_lets +onlyGivenNames -merge -underBinder x1
  unfold x1
  clear x1
  refine ite_outside ?_ ?_
  · refine State.setCause_outside hFlags ?_
    refine Eq.trans (State.outside_host_host (h0 := hHost) ..) ?_
    exact hs
  · refine Eq.trans (State.outside_host_host (h0 := hHost) ..) ?_
    exact hs

theorem State.mailboxIn_keeps {s : State} {a : Access} {chain : Bool} : Kept184 s (State.mailboxIn s a chain) :=
  .of (State.mailboxIn_outside rfl rfl rfl)

theorem State.answerTo_outside {M : Touch} {r : State} {s : State} {via : Via} {a : Access} (hOut : M.out = true) (hChainPorts : M.chainPorts = true) (hNums : M.Nums Nums11) (hCores : M.cores = true) (hEdges : M.edges = true) (hHost : M.host = true) (hFlags : M.flags = true) (hs : s.outside M = r) :
    (State.answerTo s via a).outside M = r := by
  unfold State.answerTo
  extract_lets +onlyGivenNames -merge -underBinder x0
  have q1 : State.outside M x0 = r := by
    unfold x0
    refine State.emit_outside hOut ?_
    exact hs
  try clear_value x0
  split
  · refine State.mailboxIn_outside hHost hFlags ?_
    exact q1
  · refine State.dictSend_outside hChainPorts hNums ?_
    exact q1
  · refine State.corePut_outside hCores hEdges ?_
    exact q1

theorem State.answerTo_keeps {s : State} {via : Via} {a : Access} : Kept225 s (State.answerTo s via a) :=
  .of (State.answerTo_outside rfl rfl rfl rfl rfl rfl rfl rfl)

theorem State.answerTo_rd {s : State} {via : Via} {a : Access} {kk : Nat} (hkey : Nums11.contains (Key.fam kk) = false) : (State.answerTo s via a).rd kk = s.rd kk :=
  State.rd_of_outside (M := .but Nums11) (State.answerTo_outside rfl rfl .self rfl rfl rfl rfl rfl) rfl hkey

theorem State.execute_outside {M : Touch} {r : State} {s : State} {via : Via} {a : Access} (hOut : M.out = true) (hPins : M.pins = true) (hClock : M.clock = true) (hPulses : M.pulses = true) (hChain : M.chain = true) (hChainPorts : M.chainPorts = true) (hDict : M.dict = true) (hAny : M.anyNum = true) (hDoms : M.doms = true) (hResults : M.results = true) (hLogs : M.logs = true) (hPower : M.power = true) (hVbat : M.vbat = true) (hRadio : M.radio = true) (hPorts : M.ports = true) (hRxTiles : M.rxTiles = true) (hTxTiles : M.txTiles = true) (hGirth : M.girth = true) (hRecs : M.recs = true) (hSched : M.sched = true) (hCinch : M.cinch = true) (hKeeper : M.keeper = true) (hSb : M.sb = true) (hStraps : M.straps = true) (hJournal : M.journal = true) (hAttached : M.Attached r) (hNodeQueues : M.nodeQueues = true) (hTables : M.tables = true) (hWindows : M.windows = true) (hHalter : M.halter = true) (hHar : M.har = true) (hQueues : M.queues = true) (hArrivals : M.arrivals = true) (hLacing : M.lacing = true) (hTree : M.tree = true) (hCurb : M.curb = true) (hConcho : M.concho = true) (hCores : M.cores = true) (hLocals : M.Locals r) (hBuckle : M.buckle = true) (hEdges : M.edges = true) (hHost : M.host = true) (hFlags : M.flags = true) (hReports : M.reports = true) (hs : s.outside M = r) :
    (State.execute s via a).outside M = r := by
  unfold State.execute
  extract_lets +onlyGivenNames -merge -underBinder x0
  have q1 : State.outside M x0.state = r := by
    unfold x0
    refine State.runOp_outside hPins hClock hPulses hChain hChainPorts hDict hAny hDoms hResults hLogs hVbat hPorts hRxTiles hTxTiles hRecs hSched hKeeper hSb hStraps hJournal hAttached hNodeQueues hHar hQueues hLacing hTree hCurb hConcho hCores hLocals hEdges hHost hFlags hReports ?_
    exact hs
  try clear_value x0
  extract_lets +onlyGivenNames -merge -underBinder x2
  try clear_value x2
  extract_lets +onlyGivenNames -merge -underBinder x3
  have q4 : State.outside M x3 = r := by
    unfold x3
    exact q1
  try clear_value x3
  extract_lets +onlyGivenNames -merge -underBinder x5
  unfold x5
  clear x5
  extract_lets +onlyGivenNames -merge -underBinder x6
  have q7 : State.outside M x6 = r := by
    unfold x6
    refine ite_outside ?_ ?_
    · refine Eq.trans (State.outside_dict_dict (h0 := hDict) ..) ?_
      exact q4
    · exact q4
  try clear_value x6
  extract_lets +onlyGivenNames -merge -underBinder x8
  have q9 : State.outside M x8 = r := by
    unfold x8
    refine State.answerTo_outside hOut hChainPorts (.any hAny) hCores hEdges hHost hFlags ?_
    exact q7
  try clear_value x8
  split
  · refine State.epochCheck_outside hPins hChain hChainPorts hDict hAny hResults hLogs hPorts hRxTiles hTxTiles hRecs hSched hSb hStraps hJournal hNodeQueues hLacing hEdges hHost hFlags hReports ?_
    refine State.runCmd_outside hOut hPins hClock hPulses hChain hChainPorts hDict hAny hDoms hResults hLogs hPower hVbat hRadio hPorts hRxTiles hTxTiles hGirth hRecs hSched hCinch hKeeper hSb hStraps hJournal hNodeQueues hTables hWindows hHalter hHar hQueues hArrivals hLacing hTree hCurb hConcho hCores hLocals hBuckle hEdges hHost hFlags hReports ?_
    exact q9
  · exact q9

theorem State.execute_keeps {s : State} {via : Via} {a : Access} : Kept226 s (State.execute s via a) :=
  .of (State.execute_outside rfl rfl rfl rfl rfl rfl rfl rfl rfl rfl rfl rfl rfl rfl rfl rfl rfl rfl rfl rfl rfl rfl rfl rfl rfl (.free rfl rfl) rfl rfl rfl rfl rfl rfl rfl rfl rfl rfl rfl rfl (.free rfl rfl) rfl rfl rfl rfl rfl rfl)

theorem State.txnTouch_outside {M : Touch} {r : State} {s : State} {a : Access} (hDict : M.dict = true) (hs : s.outside M = r) :
    (State.txnTouch s a).outside M = r := by
  unfold State.txnTouch
  split
  · refine ite_outside ?_ ?_
    · refine State.setTxn_outside hDict ?_
      exact hs
    · exact hs
  · exact hs

theorem State.txnTouch_keeps {s : State} {a : Access} : Kept213 s (State.txnTouch s a) :=
  .of (State.txnTouch_outside rfl rfl)

theorem State.blockTouch_outside {M : Touch} {r : State} {s : State} {a : Access} (hDict : M.dict = true) (hs : s.outside M = r) :
    (State.blockTouch s a).outside M = r := by
  unfold State.blockTouch
  refine ite_outside ?_ ?_
  · exact hs
  · split
    · refine State.transferPut_outside hDict ?_
      exact hs
    · exact hs

theorem State.blockTouch_keeps {s : State} {a : Access} : Kept213 s (State.blockTouch s a) :=
  .of (State.blockTouch_outside rfl rfl)

theorem State.answer_outside {M : Touch} {r : State} {s : State} {via : Via} {a : Access} (hOut : M.out = true) (hPins : M.pins = true) (hClock : M.clock = true) (hPulses : M.pulses = true) (hChain : M.chain = true) (hChainPorts : M.chainPorts = true) (hDict : M.dict = true) (hAny : M.anyNum = true) (hDoms : M.doms = true) (hResults : M.results = true) (hLogs : M.logs = true) (hPower : M.power = true) (hVbat : M.vbat = true) (hRadio : M.radio = true) (hPorts : M.ports = true) (hRxTiles : M.rxTiles = true) (hTxTiles : M.txTiles = true) (hGirth : M.girth = true) (hRecs : M.recs = true) (hSched : M.sched = true) (hCinch : M.cinch = true) (hKeeper : M.keeper = true) (hSb : M.sb = true) (hStraps : M.straps = true) (hJournal : M.journal = true) (hAttached : M.Attached r) (hNodeQueues : M.nodeQueues = true) (hTables : M.tables = true) (hWindows : M.windows = true) (hHalter : M.halter = true) (hHar : M.har = true) (hQueues : M.queues = true) (hArrivals : M.arrivals = true) (hLacing : M.lacing = true) (hTree : M.tree = true) (hCurb : M.curb = true) (hConcho : M.concho = true) (hCores : M.cores = true) (hLocals : M.Locals r) (hBuckle : M.buckle = true) (hEdges : M.edges = true) (hHost : M.host = true) (hFlags : M.flags = true) (hReports : M.reports = true) (hs : s.outside M = r) :
    (State.answer s via a).outside M = r := by
  unfold State.answer
  refine ite_outside ?_ ?_
  · refine State.answerTo_outside hOut hChainPorts (.any hAny) hCores hEdges hHost hFlags ?_
    exact hs
  · split
    · refine State.answerTo_outside hOut hChainPorts (.any hAny) hCores hEdges hHost hFlags ?_
      exact hs
    · extract_lets +onlyGivenNames -merge -underBinder x0
      have q1 : State.outside M x0 = r := by
        unfold x0
        refine State.blockTouch_outside hDict ?_
        refine State.txnTouch_outside hDict ?_
        exact hs
      try clear_value x0
      split
      · refine State.answerTo_outside hOut hChainPorts (.any hAny) hCores hEdges hHost hFlags ?_
        exact q1
      · refine State.execute_outside hOut hPins hClock hPulses hChain hChainPorts hDict hAny hDoms hResults hLogs hPower hVbat hRadio hPorts hRxTiles hTxTiles hGirth hRecs hSched hCinch hKeeper hSb hStraps hJournal hAttached hNodeQueues hTables hWindows hHalter hHar hQueues hArrivals hLacing hTree hCurb hConcho hCores hLocals hBuckle hEdges hHost hFlags hReports ?_
        exact q1

theorem State.answer_keeps {s : State} {via : Via} {a : Access} : Kept226 s (State.answer s via a) :=
  .of (State.answer_outside rfl rfl rfl rfl rfl rfl rfl rfl rfl rfl rfl rfl rfl rfl rfl rfl rfl rfl rfl rfl rfl rfl rfl rfl rfl (.free rfl rfl) rfl rfl rfl rfl rfl rfl rfl rfl rfl rfl rfl rfl (.free rfl rfl) rfl rfl rfl rfl rfl rfl)

theorem State.askedAdd_outside {M : Touch} {r : State} {s : State} {via : Via} {a : Access} {dest : Nat} (hDict : M.dict = true) (hs : s.outside M = r) :
    (State.askedAdd s via a dest).outside M = r := by
  unfold State.askedAdd
  extract_lets +onlyGivenNames -merge -underBinder x0
  unfold x0
  clear x0
  refine Eq.trans (State.outside_dict_dict (h0 := hDict) ..) ?_
  exact hs

theorem State.askedAdd_keeps {s : State} {via : Via} {a : Access} {dest : Nat} : Kept213 s (State.askedAdd s via a dest) :=
  .of (State.askedAdd_outside rfl rfl)

theorem State.serve_outside {M : Touch} {r : State} {s : State} {via : Via} {a : Access} (hOut : M.out = true) (hPins : M.pins = true) (hClock : M.clock = true) (hPulses : M.pulses = true) (hChain : M.chain = true) (hChainPorts : M.chainPorts = true) (hDict : M.dict = true) (hAny : M.anyNum = true) (hDoms : M.doms = true) (hResults : M.results = true) (hLogs : M.logs = true) (hPower : M.power = true) (hVbat : M.vbat = true) (hRadio : M.radio = true) (hPorts : M.ports = true) (hRxTiles : M.rxTiles = true) (hTxTiles : M.txTiles = true) (hGirth : M.girth = true) (hRecs : M.recs = true) (hSched : M.sched = true) (hCinch : M.cinch = true) (hKeeper : M.keeper = true) (hSb : M.sb = true) (hStraps : M.straps = true) (hJournal : M.journal = true) (hAttached : M.Attached r) (hNodeQueues : M.nodeQueues = true) (hTables : M.tables = true) (hWindows : M.windows = true) (hHalter : M.halter = true) (hHar : M.har = true) (hQueues : M.queues = true) (hArrivals : M.arrivals = true) (hLacing : M.lacing = true) (hTree : M.tree = true) (hCurb : M.curb = true) (hConcho : M.concho = true) (hCores : M.cores = true) (hLocals : M.Locals r) (hBuckle : M.buckle = true) (hEdges : M.edges = true) (hHost : M.host = true) (hFlags : M.flags = true) (hReports : M.reports = true) (hs : s.outside M = r) :
    (State.serve s via a).outside M = r := by
  unfold State.serve
  extract_lets +onlyGivenNames -merge -underBinder x0
  unfold x0
  clear x0
  refine ite_outside ?_ ?_
  · exact hs
  · refine ite_outside ?_ ?_
    · refine State.bump_outside (.any hAny) ?_
      exact hs
    · refine ite_outside ?_ ?_
      · refine State.wake_outside hPins hDict (.any hAny) hResults hLogs hPower hPorts hRxTiles hStraps hJournal hEdges hFlags ?_
        refine Eq.trans (State.outside_dict_dict (h0 := hDict) ..) ?_
        exact hs
      · refine State.answer_outside hOut hPins hClock hPulses hChain hChainPorts hDict hAny hDoms hResults hLogs hPower hVbat hRadio hPorts hRxTiles hTxTiles hGirth hRecs hSched hCinch hKeeper hSb hStraps hJournal hAttached hNodeQueues hTables hWindows hHalter hHar hQueues hArrivals hLacing hTree hCurb hConcho hCores hLocals hBuckle hEdges hHost hFlags hReports ?_
        exact hs

theorem State.serve_keeps {s : State} {via : Via} {a : Access} : Kept226 s (State.serve s via a) :=
  .of (State.serve_outside rfl rfl rfl rfl rfl rfl rfl rfl rfl rfl rfl rfl rfl rfl rfl rfl rfl rfl rfl rfl rfl rfl rfl rfl rfl (.free rfl rfl) rfl rfl rfl rfl rfl rfl rfl rfl rfl rfl rfl rfl (.free rfl rfl) rfl rfl rfl rfl rfl rfl)

theorem State.ask_outside {M : Touch} {r : State} {s : State} {via : Via} {a : Access} (hOut : M.out = true) (hPins : M.pins = true) (hClock : M.clock = true) (hPulses : M.pulses = true) (hChain : M.chain = true) (hChainPorts : M.chainPorts = true) (hDict : M.dict = true) (hAny : M.anyNum = true) (hDoms : M.doms = true) (hResults : M.results = true) (hLogs : M.logs = true) (hPower : M.power = true) (hVbat : M.vbat = true) (hRadio : M.radio = true) (hPorts : M.ports = true) (hRxTiles : M.rxTiles = true) (hTxTiles : M.txTiles = true) (hGirth : M.girth = true) (hRecs : M.recs = true) (hSched : M.sched = true) (hCinch : M.cinch = true) (hKeeper : M.keeper = true) (hSb : M.sb = true) (hStraps : M.straps = true) (hJournal : M.journal = true) (hAttached : M.Attached r) (hNodeQueues : M.nodeQueues = true) (hTables : M.tables = true) (hWindows : M.windows = true) (hHalter : M.halter = true) (hHar : M.har = true) (hQueues : M.queues = true) (hArrivals : M.arrivals = true) (hLacing : M.lacing = true) (hTree : M.tree = true) (hCurb : M.curb = true) (hConcho : M.concho = true) (hCores : M.cores = true) (hLocals : M.Locals r) (hBuckle : M.buckle = true) (hEdges : M.edges = true) (hHost : M.host = true) (hFlags : M.flags = true) (hReports : M.reports = true) (hs : s.outside M = r) :
    (State.ask s via a).outside M = r := by
  unfold State.ask
  extract_lets +onlyGivenNames -merge -underBinder x0
  have q1 : State.outside M x0 = r := by
    unfold x0
    refine State.each_outside ?_ ?_
    · intro t2 q3 z4
      refine State.askedAdd_outside hDict ?_
      exact q3
    · exact hs
  try clear_value x0
  refine ite_outside ?_ ?_
  · refine State.serve_outside hOut hPins hClock hPulses hChain hChainPorts hDict hAny hDoms hResults hLogs hPower hVbat hRadio hPorts hRxTiles hTxTiles hGirth hRecs hSched hCinch hKeeper hSb hStraps hJournal hAttached hNodeQueues hTables hWindows hHalter hHar hQueues hArrivals hLacing hTree hCurb hConcho hCores hLocals hBuckle hEdges hHost hFlags hReports ?_
    refine State.dictSend_outside hChainPorts (.any hAny) ?_
    exact q1
  · refine ite_outside ?_ ?_
    · refine State.dictSend_outside hChainPorts (.any hAny) ?_
      refine State.askedAdd_outside hDict ?_
      exact hs
    · refine State.answerTo_outside hOut hChainPorts (.any hAny) hCores hEdges hHost hFlags ?_
      exact hs

theorem State.ask_keeps {s : State} {via : Via} {a : Access} : Kept226 s (State.ask s via a) :=
  .of (State.ask_outside rfl rfl rfl rfl rfl rfl rfl rfl rfl rfl rfl rfl rfl rfl rfl rfl rfl rfl rfl rfl rfl rfl rfl rfl rfl (.free rfl rfl) rfl rfl rfl rfl rfl rfl rfl rfl rfl rfl rfl rfl (.free rfl rfl) rfl rfl rfl rfl rfl rfl)

theorem State.request_outside {M : Touch} {r : State} {s : State} {via : Via} {a : Access} (hOut : M.out = true) (hPins : M.pins = true) (hClock : M.clock = true) (hPulses : M.pulses = true) (hChain : M.chain = true) (hChainPorts : M.chainPorts = true) (hDict : M.dict = true) (hAny : M.anyNum = true) (hDoms : M.doms = true) (hResults : M.results = true) (hLogs : M.logs = true) (hPower : M.power = true) (hVbat : M.vbat = true) (hRadio : M.radio = true) (hPorts : M.ports = true) (hRxTiles : M.rxTiles = true) (hTxTiles : M.txTiles = true) (hGirth : M.girth = true) (hRecs : M.recs = true) (hSched : M.sched = true) (hCinch : M.cinch = true) (hKeeper : M.keeper = true) (hSb : M.sb = true) (hStraps : M.straps = true) (hJournal : M.journal = true) (hAttached : M.Attached r) (hNodeQueues : M.nodeQueues = true) (hTables : M.tables = true) (hWindows : M.windows = true) (hHalter : M.halter = true) (hHar : M.har = true) (hQueues : M.queues = true) (hArrivals : M.arrivals = true) (hLacing : M.lacing = true) (hTree : M.tree = true) (hCurb : M.curb = true) (hConcho : M.concho = true) (hCores : M.cores = true) (hLocals : M.Locals r) (hBuckle : M.buckle = true) (hEdges : M.edges = true) (hHost : M.host = true) (hFlags : M.flags = true) (hReports : M.reports = true) (hs : s.outside M = r) :
    (State.request s via a).outside M = r := by
  unfold State.request
  split
  · refine State.serve_outside hOut hPins hClock hPulses hChain hChainPorts hDict hAny hDoms hResults hLogs hPower hVbat hRadio hPorts hRxTiles hTxTiles hGirth hRecs hSched hCinch hKeeper hSb hStraps hJournal hAttached hNodeQueues hTables hWindows hHalter hHar hQueues hArrivals hLacing hTree hCurb hConcho hCores hLocals hBuckle hEdges hHost hFlags hReports ?_
    exact hs
  · refine ite_outside ?_ ?_
    · refine State.serve_outside hOut hPins hClock hPulses hChain hChainPorts hDict hAny hDoms hResults hLogs hPower hVbat hRadio hPorts hRxTiles hTxTiles hGirth hRecs hSched hCinch hKeeper hSb hStraps hJournal hAttached hNodeQueues hTables hWindows hHalter hHar hQueues hArrivals hLacing hTree hCurb hConcho hCores hLocals hBuckle hEdges hHost hFlags hReports ?_
      exact hs
    · refine State.ask_outside hOut hPins hClock hPulses hChain hChainPorts hDict hAny hDoms hResults hLogs hPower hVbat hRadio hPorts hRxTiles hTxTiles hGirth hRecs hSched hCinch hKeeper hSb hStraps hJournal hAttached hNodeQueues hTables hWindows hHalter hHar hQueues hArrivals hLacing hTree hCurb hConcho hCores hLocals hBuckle hEdges hHost hFlags hReports ?_
      exact hs
  · refine ite_outside ?_ ?_
    · refine State.serve_outside hOut hPins hClock hPulses hChain hChainPorts hDict hAny hDoms hResults hLogs hPower hVbat hRadio hPorts hRxTiles hTxTiles hGirth hRecs hSched hCinch hKeeper hSb hStraps hJournal hAttached hNodeQueues hTables hWindows hHalter hHar hQueues hArrivals hLacing hTree hCurb hConcho hCores hLocals hBuckle hEdges hHost hFlags hReports ?_
      exact hs
    · refine State.ask_outside hOut hPins hClock hPulses hChain hChainPorts hDict hAny hDoms hResults hLogs hPower hVbat hRadio hPorts hRxTiles hTxTiles hGirth hRecs hSched hCinch hKeeper hSb hStraps hJournal hAttached hNodeQueues hTables hWindows hHalter hHar hQueues hArrivals hLacing hTree hCurb hConcho hCores hLocals hBuckle hEdges hHost hFlags hReports ?_
      exact hs

theorem State.request_keeps {s : State} {via : Via} {a : Access} : Kept226 s (State.request s via a) :=
  .of (State.request_outside rfl rfl rfl rfl rfl rfl rfl rfl rfl rfl rfl rfl rfl rfl rfl rfl rfl rfl rfl rfl rfl rfl rfl rfl rfl (.free rfl rfl) rfl rfl rfl rfl rfl rfl rfl rfl rfl rfl rfl rfl (.free rfl rfl) rfl rfl rfl rfl rfl rfl)

theorem State.notifyHost_outside {M : Touch} {r : State} {s : State} {a : Access} (hNums : M.Nums Nums1) (hStraps : M.straps = true) (hFlags : M.flags = true) (hs : s.outside M = r) :
    (State.notifyHost s a).outside M = r := by
  unfold State.notifyHost
  extract_lets +onlyGivenNames -merge -underBinder x0
  try clear_value x0
  refine State.strapPush_outside hNums hStraps hFlags ?_
  exact hs

theorem State.notifyHost_keeps {s : State} {a : Access} : Kept6 s (State.notifyHost s a) :=
  .of (State.notifyHost_outside rfl rfl rfl rfl)

theorem State.notifyHost_rd {s : State} {a : Access} {kk : Nat} (hkey : Nums1.contains (Key.fam kk) = false) : (State.notifyHost s a).rd kk = s.rd kk :=
  State.rd_of_outside (M := .but Nums1) (State.notifyHost_outside .self rfl rfl rfl) rfl hkey

theorem State.notifyHere_outside {M : Touch} {r : State} {s : State} {a : Access} (hNums : M.Nums Nums1) (hStraps : M.straps = true) (hCores : M.cores = true) (hEdges : M.edges = true) (hFlags : M.flags = true) (hs : s.outside M = r) :
    (State.notifyHere s a).outside M = r := by
  unfold State.notifyHere
  refine ite_outside ?_ ?_
  · refine State.notifyHost_outside hNums hStraps hFlags ?_
    exact hs
  · refine State.corePut_outside hCores hEdges ?_
    exact hs

theorem State.notifyHere_keeps {s : State} {a : Access} : Kept227 s (State.notifyHere s a) :=
  .of (State.notifyHere_outside rfl rfl rfl rfl rfl rfl)

theorem State.notifyHere_rd {s : State} {a : Access} {kk : Nat} (hkey : Nums1.contains (Key.fam kk) = false) : (State.notifyHere s a).rd kk = s.rd kk :=
  State.rd_of_outside (M := .but Nums1) (State.notifyHere_outside .self rfl rfl rfl rfl rfl) rfl hkey

theorem State.dictResponse_outside {M : Touch} {r : State} {s : State} {src : Nat} {a : Access} {chain : Bool} (hOut : M.out = true) (hChainPorts : M.chainPorts = true) (hDict : M.dict = true) (hNums : M.Nums Nums11) (hCores : M.cores = true) (hEdges : M.edges = true) (hHost : M.host = true) (hFlags : M.flags = true) (hs : s.outside M = r) :
    (State.dictResponse s src a chain).outside M = r := by
  unfold State.dictResponse
  split
  · exact hs
  · extract_lets +onlyGivenNames -merge -underBinder x0
    unfold x0
    clear x0
    extract_lets +onlyGivenNames -merge -underBinder x1
    have q2 : State.outside M x1 = r := by
      unfold x1
      refine Eq.trans (State.outside_dict_dict (h0 := hDict) ..) ?_
      exact hs
    try clear_value x1
    split
    · refine State.mailboxIn_outside hHost hFlags ?_
      refine State.emit_outside hOut ?_
      exact q2
    · refine State.answerTo_outside hOut hChainPorts hNums hCores hEdges hHost hFlags ?_
      exact q2
    · refine State.answerTo_outside hOut hChainPorts hNums hCores hEdges hHost hFlags ?_
      exact q2

theorem State.dictResponse_keeps {s : State} {src : Nat} {a : Access} {chain : Bool} : Kept228 s (State.dictResponse s src a chain) :=
  .of (State.dictResponse_outside rfl rfl rfl rfl rfl rfl rfl rfl rfl)

theorem State.dictResponse_rd {s : State} {src : Nat} {a : Access} {chain : Bool} {kk : Nat} (hkey : Nums11.contains (Key.fam kk) = false) : (State.dictResponse s src a chain).rd kk = s.rd kk :=
  State.rd_of_outside (M := .but Nums11) (State.dictResponse_outside rfl rfl rfl .self rfl rfl rfl rfl rfl) rfl hkey

theorem State.eventSend_outside {M : Touch} {r : State} {s : State} {x : Subscription} {a : Access} (hOut : M.out = true) (hChainPorts : M.chainPorts = true) (hNums : M.Nums Nums113) (hStraps : M.straps = true) (hCores : M.cores = true) (hEdges : M.edges = true) (hFlags : M.flags = true) (hs : s.outside M = r) :
    (State.eventSend s x a).outside M = r := by
  unfold State.eventSend
  extract_lets +onlyGivenNames -merge -underBinder x0
  have q1 : State.outside M x0 = r := by
    unfold x0
    refine State.emit_outside hOut ?_
    exact hs
  try clear_value x0
  split
  · refine State.notifyHost_outside (hNums.sub rfl) hStraps hFlags ?_
    exact q1
  · refine State.corePut_outside hCores hEdges ?_
    exact q1
  · refine State.dictSend_outside hChainPorts (hNums.sub rfl) ?_
    exact q1

theorem State.eventSend_keeps {s : State} {x : Subscription} {a : Access} : Kept229 s (State.eventSend s x a) :=
  .of (State.eventSend_outside rfl rfl rfl rfl rfl rfl rfl rfl)

theorem State.eventSend_rd {s : State} {x : Subscription} {a : Access} {kk : Nat} (hkey : Nums113.contains (Key.fam kk) = false) : (State.eventSend s x a).rd kk = s.rd kk :=
  State.rd_of_outside (M := .but Nums113) (State.eventSend_outside rfl rfl .self rfl rfl rfl rfl rfl) rfl hkey

theorem State.heldReturn_outside {M : Touch} {r : State} {s : State} (hChainPorts : M.chainPorts = true) (hDict : M.dict = true) (hs : s.outside M = r) :
    (State.heldReturn s).outside M = r := by
  unfold State.heldReturn
  extract_lets +onlyGivenNames -merge -underBinder x0
  try clear_value x0
  extract_lets +onlyGivenNames -merge -underBinder x1
  unfold x1
  clear x1
  refine State.each_outside ?_ ?_
  · intro t2 q3 z4
    refine State.credit_outside hChainPorts ?_
    exact q3
  · refine Eq.trans (State.outside_dict_dict (h0 := hDict) ..) ?_
    exact hs

theorem State.heldReturn_keeps {s : State} : Kept230 s (State.heldReturn s) :=
  .of (State.heldReturn_outside rfl rfl rfl)

theorem State.opRow_outside {M : Touch} {r : State} {s : State} {op : Nat} {via : Via} {a : Access} (hOut : M.out = true) (hPins : M.pins = true) (hClock : M.clock = true) (hPulses : M.pulses = true) (hChain : M.chain = true) (hChainPorts : M.chainPorts = true) (hDict : M.dict = true) (hAny : M.anyNum = true) (hDoms : M.doms = true) (hResults : M.results = true) (hLogs : M.logs = true) (hPower : M.power = true) (hVbat : M.vbat = true) (hRadio : M.radio = true) (hPorts : M.ports = true) (hRxTiles : M.rxTiles = true) (hTxTiles : M.txTiles = true) (hGirth : M.girth = true) (hRecs : M.recs = true) (hSched : M.sched = true) (hCinch : M.cinch = true) (hKeeper : M.keeper = true) (hSb : M.sb = true) (hStraps : M.straps = true) (hJournal : M.journal = true) (hAttached : M.Attached r) (hNodeQueues : M.nodeQueues = true) (hTables : M.tables = true) (hWindows : M.windows = true) (hHalter : M.halter = true) (hHar : M.har = true) (hQueues : M.queues = true) (hArrivals : M.arrivals = true) (hLacing : M.lacing = true) (hTree : M.tree = true) (hCurb : M.curb = true) (hConcho : M.concho = true) (hCores : M.cores = true) (hLocals : M.Locals r) (hBuckle : M.buckle = true) (hEdges : M.edges = true) (hHost : M.host = true) (hFlags : M.flags = true) (hReports : M.reports = true) (hs : s.outside M = r) :
    (State.opRow s op via a).outside M = r := by
  unfold State.opRow
  refine State.request_outside hOut hPins hClock hPulses hChain hChainPorts hDict hAny hDoms hResults hLogs hPower hVbat hRadio hPorts hRxTiles hTxTiles hGirth hRecs hSched hCinch hKeeper hSb hStraps hJournal hAttached hNodeQueues hTables hWindows hHalter hHar hQueues hArrivals hLacing hTree hCurb hConcho hCores hLocals hBuckle hEdges hHost hFlags hReports ?_
  exact hs

theorem State.opRow_keeps {s : State} {op : Nat} {via : Via} {a : Access} : Kept226 s (State.opRow s op via a) :=
  .of (State.opRow_outside rfl rfl rfl rfl rfl rfl rfl rfl rfl rfl rfl rfl rfl rfl rfl rfl rfl rfl rfl rfl rfl rfl rfl rfl rfl (.free rfl rfl) rfl rfl rfl rfl rfl rfl rfl rfl rfl rfl rfl rfl (.free rfl rfl) rfl rfl rfl rfl rfl rfl)

theorem State.serveWaiting_outside {M : Touch} {r : State} {s : State} (hOut : M.out = true) (hPins : M.pins = true) (hClock : M.clock = true) (hPulses : M.pulses = true) (hChain : M.chain = true) (hChainPorts : M.chainPorts = true) (hDict : M.dict = true) (hAny : M.anyNum = true) (hDoms : M.doms = true) (hResults : M.results = true) (hLogs : M.logs = true) (hPower : M.power = true) (hVbat : M.vbat = true) (hRadio : M.radio = true) (hPorts : M.ports = true) (hRxTiles : M.rxTiles = true) (hTxTiles : M.txTiles = true) (hGirth : M.girth = true) (hRecs : M.recs = true) (hSched : M.sched = true) (hCinch : M.cinch = true) (hKeeper : M.keeper = true) (hSb : M.sb = true) (hStraps : M.straps = true) (hJournal : M.journal = true) (hAttached : M.Attached r) (hNodeQueues : M.nodeQueues = true) (hTables : M.tables = true) (hWindows : M.windows = true) (hHalter : M.halter = true) (hHar : M.har = true) (hQueues : M.queues = true) (hArrivals : M.arrivals = true) (hLacing : M.lacing = true) (hTree : M.tree = true) (hCurb : M.curb = true) (hConcho : M.concho = true) (hCores : M.cores = true) (hLocals : M.Locals r) (hBuckle : M.buckle = true) (hEdges : M.edges = true) (hHost : M.host = true) (hFlags : M.flags = true) (hReports : M.reports = true) (hs : s.outside M = r) :
    (State.serveWaiting s).outside M = r := by
  unfold State.serveWaiting
  extract_lets +onlyGivenNames -merge -underBinder x0
  try clear_value x0
  extract_lets +onlyGivenNames -merge -underBinder x1
  unfold x1
  clear x1
  refine State.heldReturn_outside hChainPorts hDict ?_
  refine State.each_outside ?_ ?_
  · intro t2 q3 z4
    refine State.answer_outside hOut hPins hClock hPulses hChain hChainPorts hDict hAny hDoms hResults hLogs hPower hVbat hRadio hPorts hRxTiles hTxTiles hGirth hRecs hSched hCinch hKeeper hSb hStraps hJournal hAttached hNodeQueues hTables hWindows hHalter hHar hQueues hArrivals hLacing hTree hCurb hConcho hCores hLocals hBuckle hEdges hHost hFlags hReports ?_
    exact q3
  · refine Eq.trans (State.outside_dict_dict (h0 := hDict) ..) ?_
    exact hs

theorem State.serveWaiting_keeps {s : State} : Kept226 s (State.serveWaiting s) :=
  .of (State.serveWaiting_outside rfl rfl rfl rfl rfl rfl rfl rfl rfl rfl rfl rfl rfl rfl rfl rfl rfl rfl rfl rfl rfl rfl rfl rfl rfl (.free rfl rfl) rfl rfl rfl rfl rfl rfl rfl rfl rfl rfl rfl rfl (.free rfl rfl) rfl rfl rfl rfl rfl rfl)

theorem execBlockIdleExpiry_outside {M : Touch} {r : State} {origin : Nat} {key : Nat} {dt : Nat} {s : State} (hClock : M.clock = true) (hDict : M.dict = true) (hNums : M.Nums Nums2) (hLogs : M.logs = true) (hVbat : M.vbat = true) (hStraps : M.straps = true) (hJournal : M.journal = true) (hEdges : M.edges = true) (hFlags : M.flags = true) (hs : s.outside M = r) :
    NextOutside M r (execBlockIdleExpiry origin key dt s) := by
  unfold execBlockIdleExpiry
  extract_lets +onlyGivenNames -merge -underBinder x0
  have q1 : State.outside M x0 = r := by
    unfold x0
    refine State.advance_outside hClock hVbat ?_
    exact hs
  try clear_value x0
  refine next_outside ?_
  split
  · refine ite_outside ?_ ?_
    · refine State.transferLost_outside hDict hNums hLogs hStraps hJournal hEdges hFlags ?_
      exact q1
    · exact q1
  · exact q1

theorem execRead_outside {M : Touch} {r : State} {via : Via} {a : Access} {s : State} (hOut : M.out = true) (hPins : M.pins = true) (hClock : M.clock = true) (hPulses : M.pulses = true) (hChain : M.chain = true) (hChainPorts : M.chainPorts = true) (hDict : M.dict = true) (hAny : M.anyNum = true) (hDoms : M.doms = true) (hResults : M.results = true) (hLogs : M.logs = true) (hPower : M.power = true) (hVbat : M.vbat = true) (hRadio : M.radio = true) (hPorts : M.ports = true) (hRxTiles : M.rxTiles = true) (hTxTiles : M.txTiles = true) (hGirth : M.girth = true) (hRecs : M.recs = true) (hSched : M.sched = true) (hCinch : M.cinch = true) (hKeeper : M.keeper = true) (hSb : M.sb = true) (hStraps : M.straps = true) (hJournal : M.journal = true) (hAttached : M.Attached r) (hNodeQueues : M.nodeQueues = true) (hTables : M.tables = true) (hWindows : M.windows = true) (hHalter : M.halter = true) (hHar : M.har = true) (hQueues : M.queues = true) (hArrivals : M.arrivals = true) (hLacing : M.lacing = true) (hTree : M.tree = true) (hCurb : M.curb = true) (hConcho : M.concho = true) (hCores : M.cores = true) (hLocals : M.Locals r) (hBuckle : M.buckle = true) (hEdges : M.edges = true) (hHost : M.host = true) (hFlags : M.flags = true) (hReports : M.reports = true) (hs : s.outside M = r) :
    NextOutside M r (execRead via a s) := by
  unfold execRead
  refine next_outside ?_
  refine State.opRow_outside hOut hPins hClock hPulses hChain hChainPorts hDict hAny hDoms hResults hLogs hPower hVbat hRadio hPorts hRxTiles hTxTiles hGirth hRecs hSched hCinch hKeeper hSb hStraps hJournal hAttached hNodeQueues hTables hWindows hHalter hHar hQueues hArrivals hLacing hTree hCurb hConcho hCores hLocals hBuckle hEdges hHost hFlags hReports ?_
  exact hs

theorem execWriteBlock_outside {M : Touch} {r : State} {via : Via} {a : Access} {s : State} (hOut : M.out = true) (hPins : M.pins = true) (hClock : M.clock = true) (hPulses : M.pulses = true) (hChain : M.chain = true) (hChainPorts : M.chainPorts = true) (hDict : M.dict = true) (hAny : M.anyNum = true) (hDoms : M.doms = true) (hResults : M.results = true) (hLogs : M.logs = true) (hPower : M.power = true) (hVbat : M.vbat = true) (hRadio : M.radio = true) (hPorts : M.ports = true) (hRxTiles : M.rxTiles = true) (hTxTiles : M.txTiles = true) (hGirth : M.girth = true) (hRecs : M.recs = true) (hSched : M.sched = true) (hCinch : M.cinch = true) (hKeeper : M.keeper = true) (hSb : M.sb = true) (hStraps : M.straps = true) (hJournal : M.journal = true) (hAttached : M.Attached r) (hNodeQueues : M.nodeQueues = true) (hTables : M.tables = true) (hWindows : M.windows = true) (hHalter : M.halter = true) (hHar : M.har = true) (hQueues : M.queues = true) (hArrivals : M.arrivals = true) (hLacing : M.lacing = true) (hTree : M.tree = true) (hCurb : M.curb = true) (hConcho : M.concho = true) (hCores : M.cores = true) (hLocals : M.Locals r) (hBuckle : M.buckle = true) (hEdges : M.edges = true) (hHost : M.host = true) (hFlags : M.flags = true) (hReports : M.reports = true) (hs : s.outside M = r) :
    NextOutside M r (execWriteBlock via a s) := by
  unfold execWriteBlock
  refine next_outside ?_
  refine State.opRow_outside hOut hPins hClock hPulses hChain hChainPorts hDict hAny hDoms hResults hLogs hPower hVbat hRadio hPorts hRxTiles hTxTiles hGirth hRecs hSched hCinch hKeeper hSb hStraps hJournal hAttached hNodeQueues hTables hWindows hHalter hHar hQueues hArrivals hLacing hTree hCurb hConcho hCores hLocals hBuckle hEdges hHost hFlags hReports ?_
  exact hs

theorem execNotify_outside {M : Touch} {r : State} {via : Via} {a : Access} {s : State} (hOut : M.out = true) (hPins : M.pins = true) (hClock : M.clock = true) (hPulses : M.pulses = true) (hChain : M.chain = true) (hChainPorts : M.chainPorts = true) (hDict : M.dict = true) (hAny : M.anyNum = true) (hDoms : M.doms = true) (hResults : M.results = true) (hLogs : M.logs = true) (hPower : M.power = true) (hVbat : M.vbat = true) (hRadio : M.radio = true) (hPorts : M.ports = true) (hRxTiles : M.rxTiles = true) (hTxTiles : M.txTiles = true) (hGirth : M.girth = true) (hRecs : M.recs = true) (hSched : M.sched = true) (hCinch : M.cinch = true) (hKeeper : M.keeper = true) (hSb : M.sb = true) (hStraps : M.straps = true) (hJournal : M.journal = true) (hAttached : M.Attached r) (hNodeQueues : M.nodeQueues = true) (hTables : M.tables = true) (hWindows : M.windows = true) (hHalter : M.halter = true) (hHar : M.har = true) (hQueues : M.queues = true) (hArrivals : M.arrivals = true) (hLacing : M.lacing = true) (hTree : M.tree = true) (hCurb : M.curb = true) (hConcho : M.concho = true) (hCores : M.cores = true) (hLocals : M.Locals r) (hBuckle : M.buckle = true) (hEdges : M.edges = true) (hHost : M.host = true) (hFlags : M.flags = true) (hReports : M.reports = true) (hs : s.outside M = r) :
    NextOutside M r (execNotify via a s) := by
  unfold execNotify
  refine next_outside ?_
  refine State.opRow_outside hOut hPins hClock hPulses hChain hChainPorts hDict hAny hDoms hResults hLogs hPower hVbat hRadio hPorts hRxTiles hTxTiles hGirth hRecs hSched hCinch hKeeper hSb hStraps hJournal hAttached hNodeQueues hTables hWindows hHalter hHar hQueues hArrivals hLacing hTree hCurb hConcho hCores hLocals hBuckle hEdges hHost hFlags hReports ?_
  exact hs

theorem execDictRetryTimeout_outside {M : Touch} {r : State} {slot : Nat} {dt : Nat} {s : State} (hOut : M.out = true) (hClock : M.clock = true) (hChainPorts : M.chainPorts = true) (hDict : M.dict = true) (hNums : M.Nums Nums11) (hVbat : M.vbat = true) (hCores : M.cores = true) (hEdges : M.edges = true) (hHost : M.host = true) (hFlags : M.flags = true) (hs : s.outside M = r) :
    NextOutside M r (execDictRetryTimeout slot dt s) := by
  unfold execDictRetryTimeout
  extract_lets +onlyGivenNames -merge -underBinder x0
  have q1 : State.outside M x0 = r := by
    unfold x0
    refine State.advance_outside hClock hVbat ?_
    exact hs
  try clear_value x0
  refine next_outside ?_
  split
  · exact q1
  · extract_lets +onlyGivenNames -merge -underBinder x2
    try clear_value x2
    extract_lets +onlyGivenNames -merge -underBinder x3
    unfold x3
    clear x3
    extract_lets +onlyGivenNames -merge -underBinder x4
    try clear_value x4
    extract_lets +onlyGivenNames -merge -underBinder x5
    unfold x5
    clear x5
    refine ite_outside ?_ ?_
    · exact q1
    · refine ite_outside ?_ ?_
      · refine State.dictSend_outside hChainPorts hNums ?_
        refine Eq.trans (State.outside_dict_dict (h0 := hDict) ..) ?_
        exact q1
      · refine State.answerTo_outside hOut hChainPorts hNums hCores hEdges hHost hFlags ?_
        refine Eq.trans (State.outside_dict_dict (h0 := hDict) ..) ?_
        exact q1

theorem execWrite_outside {M : Touch} {r : State} {via : Via} {a : Access} {s : State} (hOut : M.out = true) (hPins : M.pins = true) (hClock : M.clock = true) (hPulses : M.pulses = true) (hChain : M.chain = true) (hChainPorts : M.chainPorts = true) (hDict : M.dict = true) (hAny : M.anyNum = true) (hDoms : M.doms = true) (hResults : M.results = true) (hLogs : M.logs = true) (hPower : M.power = true) (hVbat : M.vbat = true) (hRadio : M.radio = true) (hPorts : M.ports = true) (hRxTiles : M.rxTiles = true) (hTxTiles : M.txTiles = true) (hGirth : M.girth = true) (hRecs : M.recs = true) (hSched : M.sched = true) (hCinch : M.cinch = true) (hKeeper : M.keeper = true) (hSb : M.sb = true) (hStraps : M.straps = true) (hJournal : M.journal = true) (hAttached : M.Attached r) (hNodeQueues : M.nodeQueues = true) (hTables : M.tables = true) (hWindows : M.windows = true) (hHalter : M.halter = true) (hHar : M.har = true) (hQueues : M.queues = true) (hArrivals : M.arrivals = true) (hLacing : M.lacing = true) (hTree : M.tree = true) (hCurb : M.curb = true) (hConcho : M.concho = true) (hCores : M.cores = true) (hLocals : M.Locals r) (hBuckle : M.buckle = true) (hEdges : M.edges = true) (hHost : M.host = true) (hFlags : M.flags = true) (hReports : M.reports = true) (hs : s.outside M = r) :
    NextOutside M r (execWrite via a s) := by
  unfold execWrite
  refine next_outside ?_
  refine State.opRow_outside hOut hPins hClock hPulses hChain hChainPorts hDict hAny hDoms hResults hLogs hPower hVbat hRadio hPorts hRxTiles hTxTiles hGirth hRecs hSched hCinch hKeeper hSb hStraps hJournal hAttached hNodeQueues hTables hWindows hHalter hHar hQueues hArrivals hLacing hTree hCurb hConcho hCores hLocals hBuckle hEdges hHost hFlags hReports ?_
  exact hs

theorem execAbort_outside {M : Touch} {r : State} {via : Via} {a : Access} {s : State} (hOut : M.out = true) (hPins : M.pins = true) (hClock : M.clock = true) (hPulses : M.pulses = true) (hChain : M.chain = true) (hChainPorts : M.chainPorts = true) (hDict : M.dict = true) (hAny : M.anyNum = true) (hDoms : M.doms = true) (hResults : M.results = true) (hLogs : M.logs = true) (hPower : M.power = true) (hVbat : M.vbat = true) (hRadio : M.radio = true) (hPorts : M.ports = true) (hRxTiles : M.rxTiles = true) (hTxTiles : M.txTiles = true) (hGirth : M.girth = true) (hRecs : M.recs = true) (hSched : M.sched = true) (hCinch : M.cinch = true) (hKeeper : M.keeper = true) (hSb : M.sb = true) (hStraps : M.straps = true) (hJournal : M.journal = true) (hAttached : M.Attached r) (hNodeQueues : M.nodeQueues = true) (hTables : M.tables = true) (hWindows : M.windows = true) (hHalter : M.halter = true) (hHar : M.har = true) (hQueues : M.queues = true) (hArrivals : M.arrivals = true) (hLacing : M.lacing = true) (hTree : M.tree = true) (hCurb : M.curb = true) (hConcho : M.concho = true) (hCores : M.cores = true) (hLocals : M.Locals r) (hBuckle : M.buckle = true) (hEdges : M.edges = true) (hHost : M.host = true) (hFlags : M.flags = true) (hReports : M.reports = true) (hs : s.outside M = r) :
    NextOutside M r (execAbort via a s) := by
  unfold execAbort
  refine next_outside ?_
  refine State.opRow_outside hOut hPins hClock hPulses hChain hChainPorts hDict hAny hDoms hResults hLogs hPower hVbat hRadio hPorts hRxTiles hTxTiles hGirth hRecs hSched hCinch hKeeper hSb hStraps hJournal hAttached hNodeQueues hTables hWindows hHalter hHar hQueues hArrivals hLacing hTree hCurb hConcho hCores hLocals hBuckle hEdges hHost hFlags hReports ?_
  exact hs

theorem execDictResponseRx_outside {M : Touch} {r : State} {src : Nat} {a : Access} {s : State} (hOut : M.out = true) (hChainPorts : M.chainPorts = true) (hDict : M.dict = true) (hNums : M.Nums Nums173) (hCores : M.cores = true) (hEdges : M.edges = true) (hHost : M.host = true) (hFlags : M.flags = true) (hs : s.outside M = r) :
    NextOutside M r (execDictResponseRx src a s) := by
  unfold execDictResponseRx
  refine next_outside ?_
  refine ite_outside ?_ ?_
  · exact hs
  · refine ite_outside ?_ ?_
    · refine State.bump_outside (hNums.at Key.fam_dictCrcErr rfl) ?_
      exact hs
    · refine State.dictResponse_outside hOut hChainPorts hDict (hNums.sub rfl) hCores hEdges hHost hFlags ?_
      exact hs

theorem execReadBlock_outside {M : Touch} {r : State} {via : Via} {a : Access} {s : State} (hOut : M.out = true) (hPins : M.pins = true) (hClock : M.clock = true) (hPulses : M.pulses = true) (hChain : M.chain = true) (hChainPorts : M.chainPorts = true) (hDict : M.dict = true) (hAny : M.anyNum = true) (hDoms : M.doms = true) (hResults : M.results = true) (hLogs : M.logs = true) (hPower : M.power = true) (hVbat : M.vbat = true) (hRadio : M.radio = true) (hPorts : M.ports = true) (hRxTiles : M.rxTiles = true) (hTxTiles : M.txTiles = true) (hGirth : M.girth = true) (hRecs : M.recs = true) (hSched : M.sched = true) (hCinch : M.cinch = true) (hKeeper : M.keeper = true) (hSb : M.sb = true) (hStraps : M.straps = true) (hJournal : M.journal = true) (hAttached : M.Attached r) (hNodeQueues : M.nodeQueues = true) (hTables : M.tables = true) (hWindows : M.windows = true) (hHalter : M.halter = true) (hHar : M.har = true) (hQueues : M.queues = true) (hArrivals : M.arrivals = true) (hLacing : M.lacing = true) (hTree : M.tree = true) (hCurb : M.curb = true) (hConcho : M.concho = true) (hCores : M.cores = true) (hLocals : M.Locals r) (hBuckle : M.buckle = true) (hEdges : M.edges = true) (hHost : M.host = true) (hFlags : M.flags = true) (hReports : M.reports = true) (hs : s.outside M = r) :
    NextOutside M r (execReadBlock via a s) := by
  unfold execReadBlock
  refine next_outside ?_
  refine State.opRow_outside hOut hPins hClock hPulses hChain hChainPorts hDict hAny hDoms hResults hLogs hPower hVbat hRadio hPorts hRxTiles hTxTiles hGirth hRecs hSched hCinch hKeeper hSb hStraps hJournal hAttached hNodeQueues hTables hWindows hHalter hHar hQueues hArrivals hLacing hTree hCurb hConcho hCores hLocals hBuckle hEdges hHost hFlags hReports ?_
  exact hs

theorem execPrepare_outside {M : Touch} {r : State} {via : Via} {a : Access} {s : State} (hOut : M.out = true) (hPins : M.pins = true) (hClock : M.clock = true) (hPulses : M.pulses = true) (hChain : M.chain = true) (hChainPorts : M.chainPorts = true) (hDict : M.dict = true) (hAny : M.anyNum = true) (hDoms : M.doms = true) (hResults : M.results = true) (hLogs : M.logs = true) (hPower : M.power = true) (hVbat : M.vbat = true) (hRadio : M.radio = true) (hPorts : M.ports = true) (hRxTiles : M.rxTiles = true) (hTxTiles : M.txTiles = true) (hGirth : M.girth = true) (hRecs : M.recs = true) (hSched : M.sched = true) (hCinch : M.cinch = true) (hKeeper : M.keeper = true) (hSb : M.sb = true) (hStraps : M.straps = true) (hJournal : M.journal = true) (hAttached : M.Attached r) (hNodeQueues : M.nodeQueues = true) (hTables : M.tables = true) (hWindows : M.windows = true) (hHalter : M.halter = true) (hHar : M.har = true) (hQueues : M.queues = true) (hArrivals : M.arrivals = true) (hLacing : M.lacing = true) (hTree : M.tree = true) (hCurb : M.curb = true) (hConcho : M.concho = true) (hCores : M.cores = true) (hLocals : M.Locals r) (hBuckle : M.buckle = true) (hEdges : M.edges = true) (hHost : M.host = true) (hFlags : M.flags = true) (hReports : M.reports = true) (hs : s.outside M = r) :
    NextOutside M r (execPrepare via a s) := by
  unfold execPrepare
  refine next_outside ?_
  refine State.opRow_outside hOut hPins hClock hPulses hChain hChainPorts hDict hAny hDoms hResults hLogs hPower hVbat hRadio hPorts hRxTiles hTxTiles hGirth hRecs hSched hCinch hKeeper hSb hStraps hJournal hAttached hNodeQueues hTables hWindows hHalter hHar hQueues hArrivals hLacing hTree hCurb hConcho hCores hLocals hBuckle hEdges hHost hFlags hReports ?_
  exact hs

theorem execCommit_outside {M : Touch} {r : State} {via : Via} {a : Access} {s : State} (hOut : M.out = true) (hPins : M.pins = true) (hClock : M.clock = true) (hPulses : M.pulses = true) (hChain : M.chain = true) (hChainPorts : M.chainPorts = true) (hDict : M.dict = true) (hAny : M.anyNum = true) (hDoms : M.doms = true) (hResults : M.results = true) (hLogs : M.logs = true) (hPower : M.power = true) (hVbat : M.vbat = true) (hRadio : M.radio = true) (hPorts : M.ports = true) (hRxTiles : M.rxTiles = true) (hTxTiles : M.txTiles = true) (hGirth : M.girth = true) (hRecs : M.recs = true) (hSched : M.sched = true) (hCinch : M.cinch = true) (hKeeper : M.keeper = true) (hSb : M.sb = true) (hStraps : M.straps = true) (hJournal : M.journal = true) (hAttached : M.Attached r) (hNodeQueues : M.nodeQueues = true) (hTables : M.tables = true) (hWindows : M.windows = true) (hHalter : M.halter = true) (hHar : M.har = true) (hQueues : M.queues = true) (hArrivals : M.arrivals = true) (hLacing : M.lacing = true) (hTree : M.tree = true) (hCurb : M.curb = true) (hConcho : M.concho = true) (hCores : M.cores = true) (hLocals : M.Locals r) (hBuckle : M.buckle = true) (hEdges : M.edges = true) (hHost : M.host = true) (hFlags : M.flags = true) (hReports : M.reports = true) (hs : s.outside M = r) :
    NextOutside M r (execCommit via a s) := by
  unfold execCommit
  refine next_outside ?_
  refine State.opRow_outside hOut hPins hClock hPulses hChain hChainPorts hDict hAny hDoms hResults hLogs hPower hVbat hRadio hPorts hRxTiles hTxTiles hGirth hRecs hSched hCinch hKeeper hSb hStraps hJournal hAttached hNodeQueues hTables hWindows hHalter hHar hQueues hArrivals hLacing hTree hCurb hConcho hCores hLocals hBuckle hEdges hHost hFlags hReports ?_
  exact hs

theorem execNotifyEventSend_outside {M : Touch} {r : State} {slot : Nat} {dt : Nat} {s : State} (hOut : M.out = true) (hClock : M.clock = true) (hChainPorts : M.chainPorts = true) (hDict : M.dict = true) (hNums : M.Nums Nums113) (hVbat : M.vbat = true) (hStraps : M.straps = true) (hCores : M.cores = true) (hEdges : M.edges = true) (hFlags : M.flags = true) (hs : s.outside M = r) :
    NextOutside M r (execNotifyEventSend slot dt s) := by
  unfold execNotifyEventSend
  extract_lets +onlyGivenNames -merge -underBinder x0
  have q1 : State.outside M x0 = r := by
    unfold x0
    refine State.advance_outside hClock hVbat ?_
    exact hs
  try clear_value x0
  refine next_outside ?_
  split
  · exact q1
  · extract_lets +onlyGivenNames -merge -underBinder x2
    try clear_value x2
    extract_lets +onlyGivenNames -merge -underBinder x3
    try clear_value x3
    extract_lets +onlyGivenNames -merge -underBinder x4
    try clear_value x4
    extract_lets +onlyGivenNames -merge -underBinder x5
    try clear_value x5
    extract_lets +onlyGivenNames -merge -underBinder x6
    unfold x6
    clear x6
    refine ite_outside ?_ ?_
    · exact q1
    · refine State.eventSend_outside hOut hChainPorts hNums hStraps hCores hEdges hFlags ?_
      refine Eq.trans (State.outside_dict_dict (h0 := hDict) ..) ?_
      exact q1

end Sys2Proof.Machine
end

