-- ==== Sys2Proof/Laws/Frame/TablePort.lean ====
section
/-! SUPPORT. What the operations of Machine/TablePort.lean leave alone. -/

namespace Sys2Proof.Machine

theorem State.tpStart_outside {M : Touch} {r : State} {s : State} {who : Nat} {op : Nat} (hTables : M.tables = true) (hWindows : M.windows = true) (hs : s.outside M = r) :
    (State.tpStart s who op).outside M = r := by
  unfold State.tpStart
  extract_lets +onlyGivenNames -merge -underBinder x0
  try clear_value x0
  extract_lets +onlyGivenNames -merge -underBinder x1
  have q2 : State.outside M x1 = r := by
    unfold x1
    refine State.setWindow_outside hWindows ?_
    exact hs
  try clear_value x1
  extract_lets +onlyGivenNames -merge -underBinder x3
  unfold x3
  clear x3
  refine ite_outside ?_ ?_
  · exact hs
  · refine Eq.trans (State.outside_tables_tables (h0 := hTables) ..) ?_
    exact q2

theorem State.tpStart_keeps {s : State} {who : Nat} {op : Nat} : Kept200 s (State.tpStart s who op) :=
  .of (State.tpStart_outside rfl rfl rfl)

theorem State.tpWrite_outside {M : Touch} {r : State} {s : State} {who : Fin 17} {o : Nat} {v : Nat} (hTables : M.tables = true) (hWindows : M.windows = true) (hs : s.outside M = r) :
    (State.tpWrite s who o v).outside M = r := by
  unfold State.tpWrite
  extract_lets +onlyGivenNames -merge -underBinder x0
  try clear_value x0
  refine ite_outside ?_ ?_
  · refine State.setWindow_outside hWindows ?_
    exact hs
  · refine ite_outside ?_ ?_
    · refine State.tpStart_outside hTables hWindows ?_
      exact hs
    · exact hs

theorem State.tpWrite_keeps {s : State} {who : Fin 17} {o : Nat} {v : Nat} : Kept200 s (State.tpWrite s who o v) :=
  .of (State.tpWrite_outside rfl rfl rfl)

theorem outOf_outside {M : Touch} {r : State} {s : State} {o : Step} (_hs : s.outside M = r) (h : NextOutside M r o) :
    (outOf s o).outside M = r := by
  obtain ⟨t, rfl, ht⟩ := h
  exact ht

theorem execTpOpStart_outside {M : Touch} {r : State} {who : Fin 17} {op : BitVec 8} {s : State} (hPins : M.pins = true) (hDict : M.dict = true) (hNums : M.Nums Nums52) (hResults : M.results = true) (hLogs : M.logs = true) (hPower : M.power = true) (hPorts : M.ports = true) (hRxTiles : M.rxTiles = true) (hStraps : M.straps = true) (hJournal : M.journal = true) (hTables : M.tables = true) (hWindows : M.windows = true) (hEdges : M.edges = true) (hFlags : M.flags = true) (hs : s.outside M = r) :
    NextOutside M r (execTpOpStart who op s) := by
  unfold execTpOpStart
  refine next_outside ?_
  refine ite_outside ?_ ?_
  · refine ite_outside ?_ ?_
    · refine State.tpStart_outside hTables hWindows ?_
      refine State.wake_outside hPins hDict hNums hResults hLogs hPower hPorts hRxTiles hStraps hJournal hEdges hFlags ?_
      exact hs
    · exact hs
  · refine ite_outside ?_ ?_
    · refine State.tpStart_outside hTables hWindows ?_
      exact hs
    · exact hs

end Sys2Proof.Machine
end

