-- ==== Sys2Proof/Laws/Frame/CorePorts.lean ====
section
/-! SUPPORT. What the operations of Machine/CorePorts.lean leave alone. -/

namespace Sys2Proof.Machine

theorem State.setPortWindow_outside {M : Touch} {r : State} {s : State} {q : Nat} {d : Bytes} (hCores : M.cores = true) (hs : s.outside M = r) :
    (State.setPortWindow s q d).outside M = r := by
  unfold State.setPortWindow
  extract_lets +onlyGivenNames -merge -underBinder x0
  unfold x0
  clear x0
  refine Eq.trans (State.outside_cores_cores (h0 := hCores) ..) ?_
  exact hs

theorem State.setPortWindow_keeps {s : State} {q : Nat} {d : Bytes} : Kept97 s (State.setPortWindow s q d) :=
  .of (State.setPortWindow_outside rfl rfl)

theorem State.portPush_outside {M : Touch} {r : State} {s : State} {q : Nat} {words : Nat} (hNums : M.Nums Nums1) (hStraps : M.straps = true) (hCores : M.cores = true) (hFlags : M.flags = true) (hs : s.outside M = r) :
    (State.portPush s q words).outside M = r := by
  unfold State.portPush
  extract_lets +onlyGivenNames -merge -underBinder x0
  try clear_value x0
  extract_lets +onlyGivenNames -merge -underBinder x1
  have q2 : State.outside M x1 = r := by
    unfold x1
    refine State.strapPush_outside hNums hStraps hFlags ?_
    exact hs
  try clear_value x1
  extract_lets +onlyGivenNames -merge -underBinder x3
  unfold x3
  clear x3
  refine Eq.trans (State.outside_cores_cores (h0 := hCores) ..) ?_
  exact q2

theorem State.portPush_keeps {s : State} {q : Nat} {words : Nat} : Kept231 s (State.portPush s q words) :=
  .of (State.portPush_outside rfl rfl rfl rfl rfl)

theorem State.portPush_rd {s : State} {q : Nat} {words : Nat} {kk : Nat} (hkey : Nums1.contains (Key.fam kk) = false) : (State.portPush s q words).rd kk = s.rd kk :=
  State.rd_of_outside (M := .but Nums1) (State.portPush_outside .self rfl rfl rfl rfl) rfl hkey

theorem State.portWrite_outside {M : Touch} {r : State} {s : State} {who : Nat} {q : Nat} {o : Nat} {v : Nat} (hNums : M.Nums Nums1) (hStraps : M.straps = true) (hCores : M.cores = true) (hFlags : M.flags = true) (hs : s.outside M = r) :
    (State.portWrite s who q o v).outside M = r := by
  unfold State.portWrite
  refine ite_outside ?_ ?_
  · refine State.setPortWindow_outside hCores ?_
    exact hs
  · refine ite_outside ?_ ?_
    · refine State.portPush_outside hNums hStraps hCores hFlags ?_
      exact hs
    · exact hs

theorem State.portWrite_keeps {s : State} {who : Nat} {q : Nat} {o : Nat} {v : Nat} : Kept231 s (State.portWrite s who q o v) :=
  .of (State.portWrite_outside rfl rfl rfl rfl rfl)

theorem State.portWrite_rd {s : State} {who : Nat} {q : Nat} {o : Nat} {v : Nat} {kk : Nat} (hkey : Nums1.contains (Key.fam kk) = false) : (State.portWrite s who q o v).rd kk = s.rd kk :=
  State.rd_of_outside (M := .but Nums1) (State.portWrite_outside .self rfl rfl rfl rfl) rfl hkey

theorem State.dictSubmit_outside {M : Touch} {r : State} {s : State} {n : Nat} {len : Nat} (hOut : M.out = true) (hPins : M.pins = true) (hClock : M.clock = true) (hPulses : M.pulses = true) (hChain : M.chain = true) (hChainPorts : M.chainPorts = true) (hDict : M.dict = true) (hAny : M.anyNum = true) (hDoms : M.doms = true) (hResults : M.results = true) (hLogs : M.logs = true) (hPower : M.power = true) (hVbat : M.vbat = true) (hRadio : M.radio = true) (hPorts : M.ports = true) (hRxTiles : M.rxTiles = true) (hTxTiles : M.txTiles = true) (hGirth : M.girth = true) (hRecs : M.recs = true) (hSched : M.sched = true) (hCinch : M.cinch = true) (hKeeper : M.keeper = true) (hSb : M.sb = true) (hStraps : M.straps = true) (hJournal : M.journal = true) (hAttached : M.Attached r) (hNodeQueues : M.nodeQueues = true) (hTables : M.tables = true) (hWindows : M.windows = true) (hHalter : M.halter = true) (hHar : M.har = true) (hQueues : M.queues = true) (hArrivals : M.arrivals = true) (hLacing : M.lacing = true) (hTree : M.tree = true) (hCurb : M.curb = true) (hConcho : M.concho = true) (hCores : M.cores = true) (hLocals : M.Locals r) (hBuckle : M.buckle = true) (hEdges : M.edges = true) (hHost : M.host = true) (hFlags : M.flags = true) (hReports : M.reports = true) (hs : s.outside M = r) :
    (State.dictSubmit s n len).outside M = r := by
  unfold State.dictSubmit
  extract_lets +onlyGivenNames -merge -underBinder x0
  try clear_value x0
  extract_lets +onlyGivenNames -merge -underBinder x1
  try clear_value x1
  extract_lets +onlyGivenNames -merge -underBinder x2
  have q3 : State.outside M x2 = r := by
    unfold x2
    refine State.setCore_outside hCores ?_
    exact hs
  try clear_value x2
  extract_lets +onlyGivenNames -merge -underBinder x4
  unfold x4
  clear x4
  extract_lets +onlyGivenNames -merge -underBinder x5
  have q6 : State.outside M x5 = r := by
    unfold x5
    refine Eq.trans (State.outside_dict_dict (h0 := hDict) ..) ?_
    exact q3
  try clear_value x5
  refine ite_outside ?_ ?_
  · exact hs
  · refine ite_outside ?_ ?_
    · refine State.answerTo_outside hOut hChainPorts (.any hAny) hCores hEdges hHost hFlags ?_
      exact q6
    · refine State.request_outside hOut hPins hClock hPulses hChain hChainPorts hDict hAny hDoms hResults hLogs hPower hVbat hRadio hPorts hRxTiles hTxTiles hGirth hRecs hSched hCinch hKeeper hSb hStraps hJournal hAttached hNodeQueues hTables hWindows hHalter hHar hQueues hArrivals hLacing hTree hCurb hConcho hCores hLocals hBuckle hEdges hHost hFlags hReports ?_
      exact q6

theorem State.dictSubmit_keeps {s : State} {n : Nat} {len : Nat} : Kept226 s (State.dictSubmit s n len) :=
  .of (State.dictSubmit_outside rfl rfl rfl rfl rfl rfl rfl rfl rfl rfl rfl rfl rfl rfl rfl rfl rfl rfl rfl rfl rfl rfl rfl rfl rfl (.free rfl rfl) rfl rfl rfl rfl rfl rfl rfl rfl rfl rfl rfl rfl (.free rfl rfl) rfl rfl rfl rfl rfl rfl)

theorem State.dictPortWrite_outside {M : Touch} {r : State} {s : State} {n : Nat} {o : Nat} {v : Nat} (hOut : M.out = true) (hPins : M.pins = true) (hClock : M.clock = true) (hPulses : M.pulses = true) (hChain : M.chain = true) (hChainPorts : M.chainPorts = true) (hDict : M.dict = true) (hAny : M.anyNum = true) (hDoms : M.doms = true) (hResults : M.results = true) (hLogs : M.logs = true) (hPower : M.power = true) (hVbat : M.vbat = true) (hRadio : M.radio = true) (hPorts : M.ports = true) (hRxTiles : M.rxTiles = true) (hTxTiles : M.txTiles = true) (hGirth : M.girth = true) (hRecs : M.recs = true) (hSched : M.sched = true) (hCinch : M.cinch = true) (hKeeper : M.keeper = true) (hSb : M.sb = true) (hStraps : M.straps = true) (hJournal : M.journal = true) (hAttached : M.Attached r) (hNodeQueues : M.nodeQueues = true) (hTables : M.tables = true) (hWindows : M.windows = true) (hHalter : M.halter = true) (hHar : M.har = true) (hQueues : M.queues = true) (hArrivals : M.arrivals = true) (hLacing : M.lacing = true) (hTree : M.tree = true) (hCurb : M.curb = true) (hConcho : M.concho = true) (hCores : M.cores = true) (hLocals : M.Locals r) (hBuckle : M.buckle = true) (hEdges : M.edges = true) (hHost : M.host = true) (hFlags : M.flags = true) (hReports : M.reports = true) (hs : s.outside M = r) :
    (State.dictPortWrite s n o v).outside M = r := by
  unfold State.dictPortWrite
  extract_lets +onlyGivenNames -merge -underBinder x0
  try clear_value x0
  refine ite_outside ?_ ?_
  · refine State.setCore_outside hCores ?_
    exact hs
  · refine ite_outside ?_ ?_
    · refine State.dictSubmit_outside hOut hPins hClock hPulses hChain hChainPorts hDict hAny hDoms hResults hLogs hPower hVbat hRadio hPorts hRxTiles hTxTiles hGirth hRecs hSched hCinch hKeeper hSb hStraps hJournal hAttached hNodeQueues hTables hWindows hHalter hHar hQueues hArrivals hLacing hTree hCurb hConcho hCores hLocals hBuckle hEdges hHost hFlags hReports ?_
      exact hs
    · exact hs

theorem State.dictPortWrite_keeps {s : State} {n : Nat} {o : Nat} {v : Nat} : Kept226 s (State.dictPortWrite s n o v) :=
  .of (State.dictPortWrite_outside rfl rfl rfl rfl rfl rfl rfl rfl rfl rfl rfl rfl rfl rfl rfl rfl rfl rfl rfl rfl rfl rfl rfl rfl rfl (.free rfl rfl) rfl rfl rfl rfl rfl rfl rfl rfl rfl rfl rfl rfl (.free rfl rfl) rfl rfl rfl rfl rfl rfl)

theorem State.pageWrite_outside {M : Touch} {r : State} {s : State} {n : Nat} {o : Nat} {v : Nat} (hCores : M.cores = true) (hBuckle : M.buckle = true) (hEdges : M.edges = true) (hFlags : M.flags = true) (hs : s.outside M = r) :
    (State.pageWrite s n o v).outside M = r := by
  unfold State.pageWrite
  extract_lets +onlyGivenNames -merge -underBinder x0
  try clear_value x0
  refine ite_outside ?_ ?_
  · refine State.setCore_outside hCores ?_
    exact hs
  · refine ite_outside ?_ ?_
    · refine State.setCore_outside hCores ?_
      exact hs
    · refine ite_outside ?_ ?_
      · refine State.setCore_outside hCores ?_
        exact hs
      · refine ite_outside ?_ ?_
        · refine State.pendWrite_outside hBuckle ?_
          exact hs
        · refine ite_outside ?_ ?_
          · refine State.maskWrite_outside hBuckle ?_
            exact hs
          · refine ite_outside ?_ ?_
            · refine State.awlRaise_outside hEdges ?_
              exact hs
            · refine ite_outside ?_ ?_
              · refine State.awlHostRaise_outside hFlags ?_
                exact hs
              · exact hs

theorem State.pageWrite_keeps {s : State} {n : Nat} {o : Nat} {v : Nat} : Kept232 s (State.pageWrite s n o v) :=
  .of (State.pageWrite_outside rfl rfl rfl rfl rfl)

theorem State.deviceWrite_outside {M : Touch} {r : State} {s : State} {n : Fin 16} {p : Nat × Nat × Nat} {v : Nat} (hOut : M.out = true) (hPins : M.pins = true) (hClock : M.clock = true) (hPulses : M.pulses = true) (hChain : M.chain = true) (hChainPorts : M.chainPorts = true) (hDict : M.dict = true) (hAny : M.anyNum = true) (hDoms : M.doms = true) (hResults : M.results = true) (hLogs : M.logs = true) (hPower : M.power = true) (hVbat : M.vbat = true) (hRadio : M.radio = true) (hPorts : M.ports = true) (hRxTiles : M.rxTiles = true) (hTxTiles : M.txTiles = true) (hGirth : M.girth = true) (hRecs : M.recs = true) (hSched : M.sched = true) (hCinch : M.cinch = true) (hKeeper : M.keeper = true) (hSb : M.sb = true) (hStraps : M.straps = true) (hJournal : M.journal = true) (hAttached : M.Attached r) (hNodeQueues : M.nodeQueues = true) (hTables : M.tables = true) (hWindows : M.windows = true) (hHalter : M.halter = true) (hHar : M.har = true) (hQueues : M.queues = true) (hArrivals : M.arrivals = true) (hLacing : M.lacing = true) (hTree : M.tree = true) (hCurb : M.curb = true) (hConcho : M.concho = true) (hCores : M.cores = true) (hLocals : M.Locals r) (hBuckle : M.buckle = true) (hEdges : M.edges = true) (hHost : M.host = true) (hFlags : M.flags = true) (hReports : M.reports = true) (hs : s.outside M = r) :
    (State.deviceWrite s n p v).outside M = r := by
  unfold State.deviceWrite
  extract_lets +onlyGivenNames -merge -underBinder x0
  try clear_value x0
  refine ite_outside ?_ ?_
  · refine State.pageWrite_outside hCores hBuckle hEdges hFlags ?_
    exact hs
  · refine ite_outside ?_ ?_
    · refine State.tpWrite_outside hTables hWindows ?_
      exact hs
    · refine ite_outside ?_ ?_
      · refine State.dictPortWrite_outside hOut hPins hClock hPulses hChain hChainPorts hDict hAny hDoms hResults hLogs hPower hVbat hRadio hPorts hRxTiles hTxTiles hGirth hRecs hSched hCinch hKeeper hSb hStraps hJournal hAttached hNodeQueues hTables hWindows hHalter hHar hQueues hArrivals hLacing hTree hCurb hConcho hCores hLocals hBuckle hEdges hHost hFlags hReports ?_
        exact hs
      · refine ite_outside ?_ ?_
        · refine State.portWrite_outside (.any hAny) hStraps hCores hFlags ?_
          exact hs
        · exact hs

theorem State.deviceWrite_keeps {s : State} {n : Fin 16} {p : Nat × Nat × Nat} {v : Nat} : Kept226 s (State.deviceWrite s n p v) :=
  .of (State.deviceWrite_outside rfl rfl rfl rfl rfl rfl rfl rfl rfl rfl rfl rfl rfl rfl rfl rfl rfl rfl rfl rfl rfl rfl rfl rfl rfl (.free rfl rfl) rfl rfl rfl rfl rfl rfl rfl rfl rfl rfl rfl rfl (.free rfl rfl) rfl rfl rfl rfl rfl rfl)

theorem State.portPop_outside {M : Touch} {r : State} {s : State} {q : Nat} (hStraps : M.straps = true) (hCores : M.cores = true) (hs : s.outside M = r) :
    (State.portPop s q).1.outside M = r := by
  unfold State.portPop
  extract_lets +onlyGivenNames -merge -underBinder x0
  have q1 : State.outside M x0.1 = r := by
    unfold x0
    refine State.strapPop_outside hStraps ?_
    exact hs
  try clear_value x0
  split
  · refine fst_outside ?_
    refine State.setPortWindow_outside hCores ?_
    exact q1
  · refine fst_outside ?_
    exact q1

theorem State.portPop_keeps {s : State} {q : Nat} : Kept233 s (State.portPop s q).1 :=
  .of (State.portPop_outside rfl rfl rfl)

theorem State.portRead_outside {M : Touch} {r : State} {s : State} {q : Nat} {o : Nat} (hStraps : M.straps = true) (hCores : M.cores = true) (hs : s.outside M = r) :
    (State.portRead s q o).1.outside M = r := by
  unfold State.portRead
  refine ite_fst_outside ?_ ?_
  · refine fst_outside ?_
    exact hs
  · refine ite_fst_outside ?_ ?_
    · refine fst_outside ?_
      exact hs
    · refine ite_fst_outside ?_ ?_
      · refine State.portPop_outside hStraps hCores ?_
        exact hs
      · refine fst_outside ?_
        exact hs

theorem State.portRead_keeps {s : State} {q : Nat} {o : Nat} : Kept233 s (State.portRead s q o).1 :=
  .of (State.portRead_outside rfl rfl rfl)

theorem State.pageRead_outside {M : Touch} {r : State} {s : State} {n : Nat} {o : Nat} (hCores : M.cores = true) (hs : s.outside M = r) :
    (State.pageRead s n o).1.outside M = r := by
  unfold State.pageRead
  extract_lets +onlyGivenNames -merge -underBinder x0
  try clear_value x0
  refine ite_fst_outside ?_ ?_
  · refine fst_outside ?_
    exact hs
  · refine ite_fst_outside ?_ ?_
    · refine fst_outside ?_
      exact hs
    · refine ite_fst_outside ?_ ?_
      · refine fst_outside ?_
        exact hs
      · refine ite_fst_outside ?_ ?_
        · refine fst_outside ?_
          refine State.setCore_outside hCores ?_
          exact hs
        · refine ite_fst_outside ?_ ?_
          · refine fst_outside ?_
            exact hs
          · refine ite_fst_outside ?_ ?_
            · refine fst_outside ?_
              exact hs
            · refine ite_fst_outside ?_ ?_
              · refine fst_outside ?_
                exact hs
              · refine ite_fst_outside ?_ ?_
                · refine fst_outside ?_
                  exact hs
                · refine fst_outside ?_
                  exact hs

theorem State.pageRead_keeps {s : State} {n : Nat} {o : Nat} : Kept97 s (State.pageRead s n o).1 :=
  .of (State.pageRead_outside rfl rfl)

theorem State.deviceRead_outside {M : Touch} {r : State} {s : State} {n : Fin 16} {p : Nat × Nat × Nat} (hDraws : M.draws = true) (hStraps : M.straps = true) (hCores : M.cores = true) (hs : s.outside M = r) :
    (State.deviceRead s n p).1.outside M = r := by
  unfold State.deviceRead
  extract_lets +onlyGivenNames -merge -underBinder x0
  try clear_value x0
  refine ite_fst_outside ?_ ?_
  · refine State.pageRead_outside hCores ?_
    exact hs
  · refine ite_fst_outside ?_ ?_
    · refine fst_outside ?_
      exact hs
    · refine ite_fst_outside ?_ ?_
      · refine fst_outside ?_
        exact hs
      · refine ite_fst_outside ?_ ?_
        · refine State.portRead_outside hStraps hCores ?_
          exact hs
        · refine fst_outside ?_
          refine State.drawn_outside hDraws ?_
          exact hs

theorem State.deviceRead_keeps {s : State} {n : Fin 16} {p : Nat × Nat × Nat} : Kept234 s (State.deviceRead s n p).1 :=
  .of (State.deviceRead_outside rfl rfl rfl rfl)

theorem execDictPortSubmit_outside {M : Touch} {r : State} {n : Fin 16} {len : BitVec 32} {s : State} (hOut : M.out = true) (hPins : M.pins = true) (hClock : M.clock = true) (hPulses : M.pulses = true) (hChain : M.chain = true) (hChainPorts : M.chainPorts = true) (hDict : M.dict = true) (hAny : M.anyNum = true) (hDoms : M.doms = true) (hResults : M.results = true) (hLogs : M.logs = true) (hPower : M.power = true) (hVbat : M.vbat = true) (hRadio : M.radio = true) (hPorts : M.ports = true) (hRxTiles : M.rxTiles = true) (hTxTiles : M.txTiles = true) (hGirth : M.girth = true) (hRecs : M.recs = true) (hSched : M.sched = true) (hCinch : M.cinch = true) (hKeeper : M.keeper = true) (hSb : M.sb = true) (hStraps : M.straps = true) (hJournal : M.journal = true) (hAttached : M.Attached r) (hNodeQueues : M.nodeQueues = true) (hTables : M.tables = true) (hWindows : M.windows = true) (hHalter : M.halter = true) (hHar : M.har = true) (hQueues : M.queues = true) (hArrivals : M.arrivals = true) (hLacing : M.lacing = true) (hTree : M.tree = true) (hCurb : M.curb = true) (hConcho : M.concho = true) (hCores : M.cores = true) (hLocals : M.Locals r) (hBuckle : M.buckle = true) (hEdges : M.edges = true) (hHost : M.host = true) (hFlags : M.flags = true) (hReports : M.reports = true) (hs : s.outside M = r) :
    NextOutside M r (execDictPortSubmit n len s) := by
  unfold execDictPortSubmit
  refine next_outside ?_
  refine ite_outside ?_ ?_
  · refine State.dictSubmit_outside hOut hPins hClock hPulses hChain hChainPorts hDict hAny hDoms hResults hLogs hPower hVbat hRadio hPorts hRxTiles hTxTiles hGirth hRecs hSched hCinch hKeeper hSb hStraps hJournal hAttached hNodeQueues hTables hWindows hHalter hHar hQueues hArrivals hLacing hTree hCurb hConcho hCores hLocals hBuckle hEdges hHost hFlags hReports ?_
    exact hs
  · exact hs

theorem execStrapPortPush_outside {M : Touch} {r : State} {n : Fin 16} {q : Fin 64} {words : BitVec 32} {s : State} (hNums : M.Nums Nums1) (hStraps : M.straps = true) (hCores : M.cores = true) (hFlags : M.flags = true) (hs : s.outside M = r) :
    NextOutside M r (execStrapPortPush n q words s) := by
  unfold execStrapPortPush
  refine next_outside ?_
  refine ite_outside ?_ ?_
  · refine State.portPush_outside hNums hStraps hCores hFlags ?_
    exact hs
  · exact hs

theorem execStrapPortPop_outside {M : Touch} {r : State} {who : Fin 17} {q : Fin 64} {s : State} (hPins : M.pins = true) (hDict : M.dict = true) (hNums : M.Nums Nums52) (hResults : M.results = true) (hLogs : M.logs = true) (hPower : M.power = true) (hPorts : M.ports = true) (hRxTiles : M.rxTiles = true) (hStraps : M.straps = true) (hJournal : M.journal = true) (hCores : M.cores = true) (hEdges : M.edges = true) (hFlags : M.flags = true) (hs : s.outside M = r) :
    NextOutside M r (execStrapPortPop who q s) := by
  unfold execStrapPortPop
  refine next_outside ?_
  refine ite_outside ?_ ?_
  · exact hs
  · refine ite_outside ?_ ?_
    · refine ite_outside ?_ ?_
      · refine State.portPop_outside hStraps hCores ?_
        refine State.wake_outside hPins hDict hNums hResults hLogs hPower hPorts hRxTiles hStraps hJournal hEdges hFlags ?_
        exact hs
      · exact hs
    · refine ite_outside ?_ ?_
      · refine State.portPop_outside hStraps hCores ?_
        exact hs
      · exact hs

end Sys2Proof.Machine
end

