-- ==== Sys2Proof/Laws/Frame/AwlRun.lean ====
section
/-! SUPPORT. What the operations of Machine/AwlRun.lean leave alone. -/

namespace Sys2Proof.Machine

theorem State.trap_outside {M : Touch} {r : State} {s : State} {n : Nat} {cause : Nat} {xpc : Word} {xaddr : Word} {xword : Word} (hOut : M.out = true) (hPins : M.pins = true) (hPulses : M.pulses = true) (hChain : M.chain = true) (hChainPorts : M.chainPorts = true) (hDict : M.dict = true) (hAny : M.anyNum = true) (hDoms : M.doms = true) (hResults : M.results = true) (hLogs : M.logs = true) (hPower : M.power = true) (hVbat : M.vbat = true) (hRadio : M.radio = true) (hPorts : M.ports = true) (hRxTiles : M.rxTiles = true) (hTxTiles : M.txTiles = true) (hGirth : M.girth = true) (hRecs : M.recs = true) (hSched : M.sched = true) (hCinch : M.cinch = true) (hKeeper : M.keeper = true) (hSb : M.sb = true) (hStraps : M.straps = true) (hJournal : M.journal = true) (hNodeQueues : M.nodeQueues = true) (hTables : M.tables = true) (hWindows : M.windows = true) (hHalter : M.halter = true) (hHar : M.har = true) (hQueues : M.queues = true) (hArrivals : M.arrivals = true) (hLacing : M.lacing = true) (hTree : M.tree = true) (hCurb : M.curb = true) (hConcho : M.concho = true) (hCores : M.cores = true) (hLocals : M.Locals r) (hBuckle : M.buckle = true) (hEdges : M.edges = true) (hHost : M.host = true) (hFlags : M.flags = true) (hReports : M.reports = true) (hs : s.outside M = r) :
    (State.trap s n cause xpc xaddr xword).outside M = r := by
  unfold State.trap
  extract_lets +onlyGivenNames -merge -underBinder x0
  have q1 : State.outside M x0.1 = r := by
    unfold x0
    refine State.except_outside hDict (.any hAny) hLogs hStraps hJournal hCores hLocals hEdges hFlags ?_
    exact hs
  try clear_value x0
  refine ite_outside ?_ ?_
  · refine State.ownReset_outside hOut hPins hPulses hChain hChainPorts hDict hAny hDoms hResults hLogs hPower hVbat hRadio hPorts hRxTiles hTxTiles hGirth hRecs hSched hCinch hKeeper hSb hStraps hJournal hNodeQueues hTables hWindows hHalter hHar hQueues hArrivals hLacing hTree hCurb hConcho hCores hBuckle hEdges hHost hFlags hReports ?_
    exact q1
  · exact q1

theorem State.trap_keeps {s : State} {n : Nat} {cause : Nat} {xpc : Word} {xaddr : Word} {xword : Word} : Kept235 s (State.trap s n cause xpc xaddr xword) :=
  .of (State.trap_outside rfl rfl rfl rfl rfl rfl rfl rfl rfl rfl rfl rfl rfl rfl rfl rfl rfl rfl rfl rfl rfl rfl rfl rfl rfl rfl rfl rfl rfl rfl rfl rfl rfl rfl rfl rfl (.free rfl rfl) rfl rfl rfl rfl rfl rfl)

theorem State.awlDone_outside {M : Touch} {r : State} {s : State} {n : Nat} {cost : Nat} {f : Core → Core} (hCores : M.cores = true) (hs : s.outside M = r) :
    (State.awlDone s n cost f).outside M = r := by
  unfold State.awlDone
  extract_lets +onlyGivenNames -merge -underBinder x0
  try clear_value x0
  refine State.setCore_outside hCores ?_
  exact hs

theorem State.awlDone_keeps {s : State} {n : Nat} {cost : Nat} {f : Core → Core} : Kept97 s (State.awlDone s n cost f) :=
  .of (State.awlDone_outside rfl rfl)

theorem State.awl_outside {M : Touch} {r : State} {s : State} {a0 : CoreRun} {w : Word} {uses : List (Fin 32)} {moves : Bool} {f : State → State} (hOut : M.out = true) (hPins : M.pins = true) (hPulses : M.pulses = true) (hChain : M.chain = true) (hChainPorts : M.chainPorts = true) (hDict : M.dict = true) (hAny : M.anyNum = true) (hDoms : M.doms = true) (hResults : M.results = true) (hLogs : M.logs = true) (hPower : M.power = true) (hVbat : M.vbat = true) (hRadio : M.radio = true) (hPorts : M.ports = true) (hRxTiles : M.rxTiles = true) (hTxTiles : M.txTiles = true) (hGirth : M.girth = true) (hRecs : M.recs = true) (hSched : M.sched = true) (hCinch : M.cinch = true) (hKeeper : M.keeper = true) (hSb : M.sb = true) (hStraps : M.straps = true) (hJournal : M.journal = true) (hNodeQueues : M.nodeQueues = true) (hTables : M.tables = true) (hWindows : M.windows = true) (hHalter : M.halter = true) (hHar : M.har = true) (hQueues : M.queues = true) (hArrivals : M.arrivals = true) (hLacing : M.lacing = true) (hTree : M.tree = true) (hCurb : M.curb = true) (hConcho : M.concho = true) (hCores : M.cores = true) (hLocals : M.Locals r) (hBuckle : M.buckle = true) (hEdges : M.edges = true) (hHost : M.host = true) (hFlags : M.flags = true) (hReports : M.reports = true) (hFfun : ∀ u1 : State, State.outside M u1 = r → State.outside M (f u1) = r) (hs : s.outside M = r) :
    (State.awl s a0 w uses moves f).outside M = r := by
  unfold State.awl
  extract_lets +onlyGivenNames -merge -underBinder x2
  try clear_value x2
  extract_lets +onlyGivenNames -merge -underBinder x3
  try clear_value x3
  refine ite_outside ?_ ?_
  · exact hs
  · refine ite_outside ?_ ?_
    · refine State.trap_outside hOut hPins hPulses hChain hChainPorts hDict hAny hDoms hResults hLogs hPower hVbat hRadio hPorts hRxTiles hTxTiles hGirth hRecs hSched hCinch hKeeper hSb hStraps hJournal hNodeQueues hTables hWindows hHalter hHar hQueues hArrivals hLacing hTree hCurb hConcho hCores hLocals hBuckle hEdges hHost hFlags hReports ?_
      exact hs
    · refine ite_outside ?_ ?_
      · exact hs
      · refine ite_outside ?_ ?_
        · refine State.trap_outside hOut hPins hPulses hChain hChainPorts hDict hAny hDoms hResults hLogs hPower hVbat hRadio hPorts hRxTiles hTxTiles hGirth hRecs hSched hCinch hKeeper hSb hStraps hJournal hNodeQueues hTables hWindows hHalter hHar hQueues hArrivals hLacing hTree hCurb hConcho hCores hLocals hBuckle hEdges hHost hFlags hReports ?_
          exact hs
        · refine hFfun _ ?_
          refine State.setCore_outside hCores ?_
          exact hs

theorem State.awlReservedWord_outside {M : Touch} {r : State} {s : State} {a0 : CoreRun} {w : Word} (hOut : M.out = true) (hPins : M.pins = true) (hPulses : M.pulses = true) (hChain : M.chain = true) (hChainPorts : M.chainPorts = true) (hDict : M.dict = true) (hAny : M.anyNum = true) (hDoms : M.doms = true) (hResults : M.results = true) (hLogs : M.logs = true) (hPower : M.power = true) (hVbat : M.vbat = true) (hRadio : M.radio = true) (hPorts : M.ports = true) (hRxTiles : M.rxTiles = true) (hTxTiles : M.txTiles = true) (hGirth : M.girth = true) (hRecs : M.recs = true) (hSched : M.sched = true) (hCinch : M.cinch = true) (hKeeper : M.keeper = true) (hSb : M.sb = true) (hStraps : M.straps = true) (hJournal : M.journal = true) (hNodeQueues : M.nodeQueues = true) (hTables : M.tables = true) (hWindows : M.windows = true) (hHalter : M.halter = true) (hHar : M.har = true) (hQueues : M.queues = true) (hArrivals : M.arrivals = true) (hLacing : M.lacing = true) (hTree : M.tree = true) (hCurb : M.curb = true) (hConcho : M.concho = true) (hCores : M.cores = true) (hLocals : M.Locals r) (hBuckle : M.buckle = true) (hEdges : M.edges = true) (hHost : M.host = true) (hFlags : M.flags = true) (hReports : M.reports = true) (hs : s.outside M = r) :
    (State.awlReservedWord s a0 w).outside M = r := by
  unfold State.awlReservedWord
  refine State.awl_outside hOut hPins hPulses hChain hChainPorts hDict hAny hDoms hResults hLogs hPower hVbat hRadio hPorts hRxTiles hTxTiles hGirth hRecs hSched hCinch hKeeper hSb hStraps hJournal hNodeQueues hTables hWindows hHalter hHar hQueues hArrivals hLacing hTree hCurb hConcho hCores hLocals hBuckle hEdges hHost hFlags hReports ?_ ?_
  · intro t1 q2
    refine State.trap_outside hOut hPins hPulses hChain hChainPorts hDict hAny hDoms hResults hLogs hPower hVbat hRadio hPorts hRxTiles hTxTiles hGirth hRecs hSched hCinch hKeeper hSb hStraps hJournal hNodeQueues hTables hWindows hHalter hHar hQueues hArrivals hLacing hTree hCurb hConcho hCores hLocals hBuckle hEdges hHost hFlags hReports ?_
    exact q2
  · exact hs

theorem State.awlReservedWord_keeps {s : State} {a0 : CoreRun} {w : Word} : Kept235 s (State.awlReservedWord s a0 w) :=
  .of (State.awlReservedWord_outside rfl rfl rfl rfl rfl rfl rfl rfl rfl rfl rfl rfl rfl rfl rfl rfl rfl rfl rfl rfl rfl rfl rfl rfl rfl rfl rfl rfl rfl rfl rfl rfl rfl rfl rfl rfl (.free rfl rfl) rfl rfl rfl rfl rfl rfl)

end Sys2Proof.Machine
end

