-- ==== Sys2Proof/Laws/Frame/ChainRx.lean ====
section
/-! SUPPORT. What the operations of Machine/ChainRx.lean leave alone. -/

namespace Sys2Proof.Machine

theorem State.consumed_outside {M : Touch} {r : State} {s : State} {p : Side} {f : ChainFrame} (hChainPorts : M.chainPorts = true) (hs : s.outside M = r) :
    (State.consumed s p f).outside M = r := by
  unfold State.consumed
  refine ite_outside ?_ ?_
  · exact hs
  · refine State.credit_outside hChainPorts ?_
    exact hs

theorem State.consumed_keeps {s : State} {p : Side} {f : ChainFrame} : Kept17 s (State.consumed s p f) :=
  .of (State.consumed_outside rfl rfl)

theorem State.taken_outside {M : Touch} {r : State} {s : State} {p : Side} {f : ChainFrame} (hChainPorts : M.chainPorts = true) (hDict : M.dict = true) (hHost : M.host = true) (hs : s.outside M = r) :
    (State.taken s p f).outside M = r := by
  unfold State.taken
  extract_lets +onlyGivenNames -merge -underBinder x0
  unfold x0
  clear x0
  extract_lets +onlyGivenNames -merge -underBinder x1
  unfold x1
  clear x1
  refine ite_outside ?_ ?_
  · refine Eq.trans (State.outside_host_host (h0 := hHost) ..) ?_
    exact hs
  · refine ite_outside ?_ ?_
    · refine Eq.trans (State.outside_dict_dict (h0 := hDict) ..) ?_
      exact hs
    · refine State.consumed_outside hChainPorts ?_
      exact hs

theorem State.taken_keeps {s : State} {p : Side} {f : ChainFrame} : Kept239 s (State.taken s p f) :=
  .of (State.taken_outside rfl rfl rfl rfl)

theorem State.delayReq_outside {M : Touch} {r : State} {s : State} {p : Side} {t1 : Nat} {t2 : Nat} {t3 : Nat} (hChainPorts : M.chainPorts = true) (hNums : M.Nums Nums11) (hs : s.outside M = r) :
    (State.delayReq s p t1 t2 t3).outside M = r := by
  unfold State.delayReq
  refine ite_outside ?_ ?_
  · refine State.sendPort_outside hChainPorts hNums ?_
    exact hs
  · exact hs

theorem State.delayReq_keeps {s : State} {p : Side} {t1 : Nat} {t2 : Nat} {t3 : Nat} : Kept18 s (State.delayReq s p t1 t2 t3) :=
  .of (State.delayReq_outside rfl rfl rfl)

theorem State.delayReq_rd {s : State} {p : Side} {t1 : Nat} {t2 : Nat} {t3 : Nat} {kk : Nat} (hkey : Nums11.contains (Key.fam kk) = false) : (State.delayReq s p t1 t2 t3).rd kk = s.rd kk :=
  State.rd_of_outside (M := .but Nums11) (State.delayReq_outside rfl .self rfl) rfl hkey

theorem State.chainArrival_outside {M : Touch} {r : State} {s : State} {p : Side} {info : InMeta} {bytes : Bytes} (hArrivals : M.arrivals = true) (hs : s.outside M = r) :
    (State.chainArrival s p info bytes).outside M = r := by
  unfold State.chainArrival
  extract_lets +onlyGivenNames -merge -underBinder x0
  unfold x0
  clear x0
  refine Eq.trans (State.outside_har_arrivals (h0 := hArrivals) ..) ?_
  exact hs

theorem State.chainArrival_keeps {s : State} {p : Side} {info : InMeta} {bytes : Bytes} : Kept119 s (State.chainArrival s p info bytes) :=
  .of (State.chainArrival_outside rfl rfl)

theorem State.doneRx_outside {M : Touch} {r : State} {s : State} {p : Side} {m : Survey} {offer : Option Nat} (hChain : M.chain = true) (hChainPorts : M.chainPorts = true) (hNums : M.Nums Nums89) (hs : s.outside M = r) :
    (State.doneRx s p m offer).outside M = r := by
  unfold State.doneRx
  split
  · refine ite_outside ?_ ?_
    · refine State.surveyBack_outside hChain hChainPorts hNums ?_
      exact hs
    · exact hs
  · refine ite_outside ?_ ?_
    · refine State.sendPort_outside hChainPorts (hNums.sub rfl) ?_
      exact hs
    · exact hs

theorem State.doneRx_keeps {s : State} {p : Side} {m : Survey} {offer : Option Nat} : Kept209 s (State.doneRx s p m offer) :=
  .of (State.doneRx_outside rfl rfl rfl rfl)

theorem State.doneRx_rd {s : State} {p : Side} {m : Survey} {offer : Option Nat} {kk : Nat} (hkey : Nums89.contains (Key.fam kk) = false) : (State.doneRx s p m offer).rd kk = s.rd kk :=
  State.rd_of_outside (M := .but Nums89) (State.doneRx_outside rfl rfl .self rfl) rfl hkey

theorem State.delayRsp_outside {M : Touch} {r : State} {s : State} {p : Side} {t1 : Nat} {t2 : Nat} {t3 : Nat} {t4 : Nat} (hChainPorts : M.chainPorts = true) (hDict : M.dict = true) (hNums : M.Nums Nums92) (hLogs : M.logs = true) (hStraps : M.straps = true) (hJournal : M.journal = true) (hEdges : M.edges = true) (hFlags : M.flags = true) (hs : s.outside M = r) :
    (State.delayRsp s p t1 t2 t3 t4).outside M = r := by
  unfold State.delayRsp
  extract_lets +onlyGivenNames -merge -underBinder x0
  try clear_value x0
  extract_lets +onlyGivenNames -merge -underBinder x1
  try clear_value x1
  extract_lets +onlyGivenNames -merge -underBinder x2
  try clear_value x2
  extract_lets +onlyGivenNames -merge -underBinder x3
  try clear_value x3
  extract_lets +onlyGivenNames -merge -underBinder x4
  have q5 : State.outside M x4 = r := by
    unfold x4
    refine State.wr_outside (hNums.at Key.fam_linkDelayNs rfl) ?_
    refine State.setCport_outside hChainPorts ?_
    exact hs
  try clear_value x4
  refine ite_outside ?_ ?_
  · refine ite_outside ?_ ?_
    · refine State.chainPost_outside hDict (hNums.sub rfl) hLogs hStraps hJournal hEdges hFlags ?_
      exact q5
    · exact q5
  · exact hs

theorem State.delayRsp_keeps {s : State} {p : Side} {t1 : Nat} {t2 : Nat} {t3 : Nat} {t4 : Nat} : Kept240 s (State.delayRsp s p t1 t2 t3 t4) :=
  .of (State.delayRsp_outside rfl rfl rfl rfl rfl rfl rfl rfl rfl)

theorem State.delayRsp_rd {s : State} {p : Side} {t1 : Nat} {t2 : Nat} {t3 : Nat} {t4 : Nat} {kk : Nat} (hkey : Nums92.contains (Key.fam kk) = false) : (State.delayRsp s p t1 t2 t3 t4).rd kk = s.rd kk :=
  State.rd_of_outside (M := .but Nums92) (State.delayRsp_outside rfl rfl .self rfl rfl rfl rfl rfl rfl) rfl hkey

theorem State.sbResponse_outside {M : Touch} {r : State} {s : State} {tag : Nat} {code : SbCode} {bytes : Bytes} (hOut : M.out = true) (hChain : M.chain = true) (hs : s.outside M = r) :
    (State.sbResponse s tag code bytes).outside M = r := by
  unfold State.sbResponse
  extract_lets +onlyGivenNames -merge -underBinder x0
  unfold x0
  clear x0
  extract_lets +onlyGivenNames -merge -underBinder x1
  unfold x1
  clear x1
  refine ite_outside ?_ ?_
  · refine State.emit_outside hOut ?_
    refine Eq.trans (State.outside_chain_chain (h0 := hChain) ..) ?_
    exact hs
  · refine Eq.trans (State.outside_chain_chain (h0 := hChain) ..) ?_
    exact hs

theorem State.sbResponse_keeps {s : State} {tag : Nat} {code : SbCode} {bytes : Bytes} : Kept241 s (State.sbResponse s tag code bytes) :=
  .of (State.sbResponse_outside rfl rfl rfl)

theorem State.timeRx_outside {M : Touch} {r : State} {s : State} {p : Side} {m : TimeMsg} (hPins : M.pins = true) (hClock : M.clock = true) (hPulses : M.pulses = true) (hChain : M.chain = true) (hChainPorts : M.chainPorts = true) (hDict : M.dict = true) (hAny : M.anyNum = true) (hResults : M.results = true) (hLogs : M.logs = true) (hPorts : M.ports = true) (hRxTiles : M.rxTiles = true) (hTxTiles : M.txTiles = true) (hRecs : M.recs = true) (hSched : M.sched = true) (hSb : M.sb = true) (hStraps : M.straps = true) (hJournal : M.journal = true) (hNodeQueues : M.nodeQueues = true) (hLacing : M.lacing = true) (hEdges : M.edges = true) (hHost : M.host = true) (hFlags : M.flags = true) (hReports : M.reports = true) (hs : s.outside M = r) :
    (State.timeRx s p m).outside M = r := by
  unfold State.timeRx
  extract_lets +onlyGivenNames -merge -underBinder x0
  try clear_value x0
  extract_lets +onlyGivenNames -merge -underBinder x1
  have q2 : State.outside M x1 = r := by
    unfold x1
    refine State.sample_outside hPins hClock hPulses hDict (.any hAny) hLogs hStraps hJournal hEdges hFlags ?_
    exact hs
  try clear_value x1
  extract_lets +onlyGivenNames -merge -underBinder x3
  try clear_value x3
  refine ite_outside ?_ ?_
  · exact hs
  · refine State.epochCheck_outside hPins hChain hChainPorts hDict hAny hResults hLogs hPorts hRxTiles hTxTiles hRecs hSched hSb hStraps hJournal hNodeQueues hLacing hEdges hHost hFlags hReports ?_
    refine Eq.trans (State.outside_clock (h0 := hClock) ..) ?_
    exact q2

theorem State.timeRx_keeps {s : State} {p : Side} {m : TimeMsg} : Kept242 s (State.timeRx s p m) :=
  .of (State.timeRx_outside rfl rfl rfl rfl rfl rfl rfl rfl rfl rfl rfl rfl rfl rfl rfl rfl rfl rfl rfl rfl rfl rfl rfl rfl)

theorem State.surveyIn_outside {M : Touch} {r : State} {s : State} {p : Side} {m : Survey} (hChain : M.chain = true) (hChainPorts : M.chainPorts = true) (hDict : M.dict = true) (hNums : M.Nums Nums16) (hResults : M.results = true) (hLogs : M.logs = true) (hSb : M.sb = true) (hStraps : M.straps = true) (hJournal : M.journal = true) (hEdges : M.edges = true) (hHost : M.host = true) (hFlags : M.flags = true) (hs : s.outside M = r) :
    (State.surveyIn s p m).outside M = r := by
  unfold State.surveyIn
  split
  · refine ite_outside ?_ ?_
    · refine ite_outside ?_ ?_
      · exact hs
      · refine State.surveyBack_outside hChain hChainPorts (hNums.sub rfl) ?_
        exact hs
    · refine State.surveyRx_outside hChain hChainPorts hDict hNums hResults hLogs hSb hStraps hJournal hEdges hHost hFlags ?_
      exact hs
  · refine ite_outside ?_ ?_
    · exact hs
    · refine State.surveyRx_outside hChain hChainPorts hDict hNums hResults hLogs hSb hStraps hJournal hEdges hHost hFlags ?_
      exact hs

theorem State.surveyIn_keeps {s : State} {p : Side} {m : Survey} : Kept205 s (State.surveyIn s p m) :=
  .of (State.surveyIn_outside rfl rfl rfl rfl rfl rfl rfl rfl rfl rfl rfl rfl rfl)

theorem State.surveyIn_rd {s : State} {p : Side} {m : Survey} {kk : Nat} (hkey : Nums16.contains (Key.fam kk) = false) : (State.surveyIn s p m).rd kk = s.rd kk :=
  State.rd_of_outside (M := .but Nums16) (State.surveyIn_outside rfl rfl rfl .self rfl rfl rfl rfl rfl rfl rfl rfl rfl) rfl hkey

theorem State.dictRx_outside {M : Touch} {r : State} {s : State} {p : Side} {src : Nat} {a : Access} (hOut : M.out = true) (hPins : M.pins = true) (hClock : M.clock = true) (hPulses : M.pulses = true) (hChain : M.chain = true) (hChainPorts : M.chainPorts = true) (hDict : M.dict = true) (hAny : M.anyNum = true) (hDoms : M.doms = true) (hResults : M.results = true) (hLogs : M.logs = true) (hPower : M.power = true) (hVbat : M.vbat = true) (hRadio : M.radio = true) (hPorts : M.ports = true) (hRxTiles : M.rxTiles = true) (hTxTiles : M.txTiles = true) (hGirth : M.girth = true) (hRecs : M.recs = true) (hSched : M.sched = true) (hCinch : M.cinch = true) (hKeeper : M.keeper = true) (hSb : M.sb = true) (hStraps : M.straps = true) (hJournal : M.journal = true) (hAttached : M.Attached r) (hNodeQueues : M.nodeQueues = true) (hTables : M.tables = true) (hWindows : M.windows = true) (hHalter : M.halter = true) (hHar : M.har = true) (hQueues : M.queues = true) (hArrivals : M.arrivals = true) (hLacing : M.lacing = true) (hTree : M.tree = true) (hCurb : M.curb = true) (hConcho : M.concho = true) (hCores : M.cores = true) (hLocals : M.Locals r) (hBuckle : M.buckle = true) (hEdges : M.edges = true) (hHost : M.host = true) (hFlags : M.flags = true) (hReports : M.reports = true) (hs : s.outside M = r) :
    (State.dictRx s p src a).outside M = r := by
  unfold State.dictRx
  refine ite_outside ?_ ?_
  · refine State.bump_outside (.any hAny) ?_
    exact hs
  · refine ite_outside ?_ ?_
    · refine State.dictResponse_outside hOut hChainPorts hDict (.any hAny) hCores hEdges hHost hFlags ?_
      exact hs
    · refine ite_outside ?_ ?_
      · refine State.notifyHere_outside (.any hAny) hStraps hCores hEdges hFlags ?_
        exact hs
      · refine State.request_outside hOut hPins hClock hPulses hChain hChainPorts hDict hAny hDoms hResults hLogs hPower hVbat hRadio hPorts hRxTiles hTxTiles hGirth hRecs hSched hCinch hKeeper hSb hStraps hJournal hAttached hNodeQueues hTables hWindows hHalter hHar hQueues hArrivals hLacing hTree hCurb hConcho hCores hLocals hBuckle hEdges hHost hFlags hReports ?_
        exact hs

theorem State.dictRx_keeps {s : State} {p : Side} {src : Nat} {a : Access} : Kept226 s (State.dictRx s p src a) :=
  .of (State.dictRx_outside rfl rfl rfl rfl rfl rfl rfl rfl rfl rfl rfl rfl rfl rfl rfl rfl rfl rfl rfl rfl rfl rfl rfl rfl rfl (.free rfl rfl) rfl rfl rfl rfl rfl rfl rfl rfl rfl rfl rfl rfl (.free rfl rfl) rfl rfl rfl rfl rfl rfl)

theorem State.takeBody_outside {M : Touch} {r : State} {s : State} {p : Side} {f : ChainFrame} (hOut : M.out = true) (hPins : M.pins = true) (hClock : M.clock = true) (hPulses : M.pulses = true) (hChain : M.chain = true) (hChainPorts : M.chainPorts = true) (hDict : M.dict = true) (hAny : M.anyNum = true) (hDoms : M.doms = true) (hResults : M.results = true) (hLogs : M.logs = true) (hPower : M.power = true) (hVbat : M.vbat = true) (hRadio : M.radio = true) (hPorts : M.ports = true) (hRxTiles : M.rxTiles = true) (hTxTiles : M.txTiles = true) (hGirth : M.girth = true) (hRecs : M.recs = true) (hSched : M.sched = true) (hCinch : M.cinch = true) (hKeeper : M.keeper = true) (hSb : M.sb = true) (hStraps : M.straps = true) (hJournal : M.journal = true) (hAttached : M.Attached r) (hNodeQueues : M.nodeQueues = true) (hTables : M.tables = true) (hWindows : M.windows = true) (hHalter : M.halter = true) (hHar : M.har = true) (hQueues : M.queues = true) (hArrivals : M.arrivals = true) (hLacing : M.lacing = true) (hTree : M.tree = true) (hCurb : M.curb = true) (hConcho : M.concho = true) (hCores : M.cores = true) (hLocals : M.Locals r) (hBuckle : M.buckle = true) (hEdges : M.edges = true) (hHost : M.host = true) (hFlags : M.flags = true) (hReports : M.reports = true) (hs : s.outside M = r) :
    (State.takeBody s p f).outside M = r := by
  unfold State.takeBody
  split
  · refine State.linkRx_outside hChain hChainPorts hDict (.any hAny) hLogs hSb hStraps hJournal hEdges hHost hFlags ?_
    exact hs
  · refine State.surveyIn_outside hChain hChainPorts hDict (.any hAny) hResults hLogs hSb hStraps hJournal hEdges hHost hFlags ?_
    exact hs
  · refine ite_outside ?_ ?_
    · exact hs
    · refine State.assignRx_outside hChain hChainPorts hDict (.any hAny) hLogs hStraps hJournal hEdges hFlags ?_
      exact hs
  · refine State.doneRx_outside hChain hChainPorts (.any hAny) ?_
    exact hs
  · refine State.raise_outside hEdges ?_
    refine State.topoRx_outside hChain hChainPorts hDict (.any hAny) hResults hLogs hSb hStraps hJournal hEdges hHost hFlags ?_
    exact hs
  · refine State.headRx_outside hChain hChainPorts hDict (.any hAny) hResults hLogs hSb hStraps hJournal hEdges hHost hFlags ?_
    exact hs
  · refine State.timeRx_outside hPins hClock hPulses hChain hChainPorts hDict hAny hResults hLogs hPorts hRxTiles hTxTiles hRecs hSched hSb hStraps hJournal hNodeQueues hLacing hEdges hHost hFlags hReports ?_
    exact hs
  · refine State.delayReq_outside hChainPorts (.any hAny) ?_
    exact hs
  · refine State.delayRsp_outside hChainPorts hDict (.any hAny) hLogs hStraps hJournal hEdges hFlags ?_
    exact hs
  · refine State.dictRx_outside hOut hPins hClock hPulses hChain hChainPorts hDict hAny hDoms hResults hLogs hPower hVbat hRadio hPorts hRxTiles hTxTiles hGirth hRecs hSched hCinch hKeeper hSb hStraps hJournal hAttached hNodeQueues hTables hWindows hHalter hHar hQueues hArrivals hLacing hTree hCurb hConcho hCores hLocals hBuckle hEdges hHost hFlags hReports ?_
    refine State.chainArrival_outside hArrivals ?_
    exact hs
  · refine State.chainArrival_outside hArrivals ?_
    exact hs
  · refine State.sbRequest_outside hChainPorts (.any hAny) hSb ?_
    refine State.chainArrival_outside hArrivals ?_
    exact hs
  · refine State.sbResponse_outside hOut hChain ?_
    refine State.chainArrival_outside hArrivals ?_
    exact hs
  · exact hs

theorem State.takeBody_keeps {s : State} {p : Side} {f : ChainFrame} : Kept226 s (State.takeBody s p f) :=
  .of (State.takeBody_outside rfl rfl rfl rfl rfl rfl rfl rfl rfl rfl rfl rfl rfl rfl rfl rfl rfl rfl rfl rfl rfl rfl rfl rfl rfl (.free rfl rfl) rfl rfl rfl rfl rfl rfl rfl rfl rfl rfl rfl rfl (.free rfl rfl) rfl rfl rfl rfl rfl rfl)

theorem State.castRx_outside {M : Touch} {r : State} {s : State} {p : Side} {f : ChainFrame} (hOut : M.out = true) (hPins : M.pins = true) (hClock : M.clock = true) (hPulses : M.pulses = true) (hChain : M.chain = true) (hChainPorts : M.chainPorts = true) (hDict : M.dict = true) (hAny : M.anyNum = true) (hDoms : M.doms = true) (hResults : M.results = true) (hLogs : M.logs = true) (hPower : M.power = true) (hVbat : M.vbat = true) (hRadio : M.radio = true) (hPorts : M.ports = true) (hRxTiles : M.rxTiles = true) (hTxTiles : M.txTiles = true) (hGirth : M.girth = true) (hRecs : M.recs = true) (hSched : M.sched = true) (hCinch : M.cinch = true) (hKeeper : M.keeper = true) (hSb : M.sb = true) (hStraps : M.straps = true) (hJournal : M.journal = true) (hAttached : M.Attached r) (hNodeQueues : M.nodeQueues = true) (hTables : M.tables = true) (hWindows : M.windows = true) (hHalter : M.halter = true) (hHar : M.har = true) (hQueues : M.queues = true) (hArrivals : M.arrivals = true) (hLacing : M.lacing = true) (hTree : M.tree = true) (hCurb : M.curb = true) (hConcho : M.concho = true) (hCores : M.cores = true) (hLocals : M.Locals r) (hBuckle : M.buckle = true) (hEdges : M.edges = true) (hHost : M.host = true) (hFlags : M.flags = true) (hReports : M.reports = true) (hs : s.outside M = r) :
    (State.castRx s p f).outside M = r := by
  unfold State.castRx
  extract_lets +onlyGivenNames -merge -underBinder x0
  try clear_value x0
  extract_lets +onlyGivenNames -merge -underBinder x1
  have q2 : State.outside M x1 = r := by
    unfold x1
    refine ite_outside ?_ ?_
    · refine State.queueAt_outside hChainPorts (.any hAny) ?_
      exact hs
    · refine State.taken_outside hChainPorts hDict hHost ?_
      exact hs
  try clear_value x1
  refine ite_outside ?_ ?_
  · refine State.consumed_outside hChainPorts ?_
    exact hs
  · refine ite_outside ?_ ?_
    · exact q2
    · refine State.takeBody_outside hOut hPins hClock hPulses hChain hChainPorts hDict hAny hDoms hResults hLogs hPower hVbat hRadio hPorts hRxTiles hTxTiles hGirth hRecs hSched hCinch hKeeper hSb hStraps hJournal hAttached hNodeQueues hTables hWindows hHalter hHar hQueues hArrivals hLacing hTree hCurb hConcho hCores hLocals hBuckle hEdges hHost hFlags hReports ?_
      exact q2

theorem State.castRx_keeps {s : State} {p : Side} {f : ChainFrame} : Kept226 s (State.castRx s p f) :=
  .of (State.castRx_outside rfl rfl rfl rfl rfl rfl rfl rfl rfl rfl rfl rfl rfl rfl rfl rfl rfl rfl rfl rfl rfl rfl rfl rfl rfl (.free rfl rfl) rfl rfl rfl rfl rfl rfl rfl rfl rfl rfl rfl rfl (.free rfl rfl) rfl rfl rfl rfl rfl rfl)

theorem State.transit_outside {M : Touch} {r : State} {s : State} {p : Side} {f : ChainFrame} (hChainPorts : M.chainPorts = true) (hNums : M.Nums Nums123) (hs : s.outside M = r) :
    (State.transit s p f).outside M = r := by
  unfold State.transit
  refine ite_outside ?_ ?_
  · refine State.credit_outside hChainPorts ?_
    refine State.bump_outside (hNums.at Key.fam_hopExpired rfl) ?_
    exact hs
  · refine ite_outside ?_ ?_
    · refine State.queueAt_outside hChainPorts (hNums.sub rfl) ?_
      exact hs
    · refine State.credit_outside hChainPorts ?_
      refine State.bump_outside (hNums.at Key.fam_noRoute rfl) ?_
      exact hs

theorem State.transit_keeps {s : State} {p : Side} {f : ChainFrame} : Kept18 s (State.transit s p f) :=
  .of (State.transit_outside rfl rfl rfl)

theorem State.transit_rd {s : State} {p : Side} {f : ChainFrame} {kk : Nat} (hkey : Nums123.contains (Key.fam kk) = false) : (State.transit s p f).rd kk = s.rd kk :=
  State.rd_of_outside (M := .but Nums123) (State.transit_outside rfl .self rfl) rfl hkey

theorem State.frameRx_outside {M : Touch} {r : State} {s : State} {p : Side} {f : ChainFrame} (hOut : M.out = true) (hPins : M.pins = true) (hClock : M.clock = true) (hPulses : M.pulses = true) (hChain : M.chain = true) (hChainPorts : M.chainPorts = true) (hDict : M.dict = true) (hAny : M.anyNum = true) (hDoms : M.doms = true) (hResults : M.results = true) (hLogs : M.logs = true) (hPower : M.power = true) (hVbat : M.vbat = true) (hRadio : M.radio = true) (hPorts : M.ports = true) (hRxTiles : M.rxTiles = true) (hTxTiles : M.txTiles = true) (hGirth : M.girth = true) (hRecs : M.recs = true) (hSched : M.sched = true) (hCinch : M.cinch = true) (hKeeper : M.keeper = true) (hSb : M.sb = true) (hStraps : M.straps = true) (hJournal : M.journal = true) (hAttached : M.Attached r) (hNodeQueues : M.nodeQueues = true) (hTables : M.tables = true) (hWindows : M.windows = true) (hHalter : M.halter = true) (hHar : M.har = true) (hQueues : M.queues = true) (hArrivals : M.arrivals = true) (hLacing : M.lacing = true) (hTree : M.tree = true) (hCurb : M.curb = true) (hConcho : M.concho = true) (hCores : M.cores = true) (hLocals : M.Locals r) (hBuckle : M.buckle = true) (hEdges : M.edges = true) (hHost : M.host = true) (hFlags : M.flags = true) (hReports : M.reports = true) (hs : s.outside M = r) :
    (State.frameRx s p f).outside M = r := by
  unfold State.frameRx
  refine ite_outside ?_ ?_
  · refine State.takeBody_outside hOut hPins hClock hPulses hChain hChainPorts hDict hAny hDoms hResults hLogs hPower hVbat hRadio hPorts hRxTiles hTxTiles hGirth hRecs hSched hCinch hKeeper hSb hStraps hJournal hAttached hNodeQueues hTables hWindows hHalter hHar hQueues hArrivals hLacing hTree hCurb hConcho hCores hLocals hBuckle hEdges hHost hFlags hReports ?_
    refine State.consumed_outside hChainPorts ?_
    exact hs
  · refine ite_outside ?_ ?_
    · refine State.castRx_outside hOut hPins hClock hPulses hChain hChainPorts hDict hAny hDoms hResults hLogs hPower hVbat hRadio hPorts hRxTiles hTxTiles hGirth hRecs hSched hCinch hKeeper hSb hStraps hJournal hAttached hNodeQueues hTables hWindows hHalter hHar hQueues hArrivals hLacing hTree hCurb hConcho hCores hLocals hBuckle hEdges hHost hFlags hReports ?_
      exact hs
    · refine ite_outside ?_ ?_
      · refine State.takeBody_outside hOut hPins hClock hPulses hChain hChainPorts hDict hAny hDoms hResults hLogs hPower hVbat hRadio hPorts hRxTiles hTxTiles hGirth hRecs hSched hCinch hKeeper hSb hStraps hJournal hAttached hNodeQueues hTables hWindows hHalter hHar hQueues hArrivals hLacing hTree hCurb hConcho hCores hLocals hBuckle hEdges hHost hFlags hReports ?_
        refine State.taken_outside hChainPorts hDict hHost ?_
        exact hs
      · refine State.transit_outside hChainPorts (.any hAny) ?_
        exact hs

theorem State.frameRx_keeps {s : State} {p : Side} {f : ChainFrame} : Kept226 s (State.frameRx s p f) :=
  .of (State.frameRx_outside rfl rfl rfl rfl rfl rfl rfl rfl rfl rfl rfl rfl rfl rfl rfl rfl rfl rfl rfl rfl rfl rfl rfl rfl rfl (.free rfl rfl) rfl rfl rfl rfl rfl rfl rfl rfl rfl rfl rfl rfl (.free rfl rfl) rfl rfl rfl rfl rfl rfl)

theorem State.sbPost_outside {M : Touch} {r : State} {s : State} {c : Err} {device : Nat} (hDict : M.dict = true) (hNums : M.Nums Nums2) (hLogs : M.logs = true) (hStraps : M.straps = true) (hJournal : M.journal = true) (hEdges : M.edges = true) (hFlags : M.flags = true) (hs : s.outside M = r) :
    (State.sbPost s c device).outside M = r := by
  unfold State.sbPost
  split
  · refine State.chainPost_outside hDict hNums hLogs hStraps hJournal hEdges hFlags ?_
    exact hs
  · refine State.post_outside hDict hNums hLogs hStraps hJournal hEdges hFlags ?_
    exact hs

theorem State.sbPost_keeps {s : State} {c : Err} {device : Nat} : Kept8 s (State.sbPost s c device) :=
  .of (State.sbPost_outside rfl rfl rfl rfl rfl rfl rfl rfl)

theorem State.sbPost_rd {s : State} {c : Err} {device : Nat} {kk : Nat} (hkey : Nums2.contains (Key.fam kk) = false) : (State.sbPost s c device).rd kk = s.rd kk :=
  State.rd_of_outside (M := .but Nums2) (State.sbPost_outside rfl .self rfl rfl rfl rfl rfl rfl) rfl hkey

theorem execChainFrameTx_outside {M : Touch} {r : State} {p : Side} {dt : Nat} {s : State} (hOut : M.out = true) (hClock : M.clock = true) (hChainPorts : M.chainPorts = true) (hVbat : M.vbat = true) (hs : s.outside M = r) :
    NextOutside M r (execChainFrameTx p dt s) := by
  unfold execChainFrameTx
  extract_lets +onlyGivenNames -merge -underBinder x0
  have q1 : State.outside M x0 = r := by
    unfold x0
    refine State.advance_outside hClock hVbat ?_
    exact hs
  try clear_value x0
  extract_lets +onlyGivenNames -merge -underBinder x2
  try clear_value x2
  refine next_outside ?_
  refine ite_outside ?_ ?_
  · exact q1
  · split
    · exact q1
    · extract_lets +onlyGivenNames -merge -underBinder x3
      try clear_value x3
      extract_lets +onlyGivenNames -merge -underBinder x4
      try clear_value x4
      extract_lets +onlyGivenNames -merge -underBinder x5
      try clear_value x5
      extract_lets +onlyGivenNames -merge -underBinder x6
      have q7 : State.outside M x6 = r := by
        unfold x6
        refine State.setCport_outside hChainPorts ?_
        exact q1
      try clear_value x6
      extract_lets +onlyGivenNames -merge -underBinder x8
      have q9 : State.outside M x8 = r := by
        unfold x8
        refine ite_outside ?_ ?_
        · exact q7
        · refine State.credit_outside hChainPorts ?_
          exact q7
      try clear_value x8
      refine State.emit_outside hOut ?_
      exact q9

theorem execDelayReqRx_outside {M : Touch} {r : State} {p : Side} {t1 : Nat} {t2 : Nat} {t3 : Nat} {s : State} (hChainPorts : M.chainPorts = true) (hNums : M.Nums Nums11) (hs : s.outside M = r) :
    NextOutside M r (execDelayReqRx p t1 t2 t3 s) := by
  unfold execDelayReqRx
  refine next_outside ?_
  refine State.delayReq_outside hChainPorts hNums ?_
  exact hs

theorem execChainFrameAbort_outside {M : Touch} {r : State} {p : Side} {lane : Fin 4} {units : Nat} {blocks : Nat} {lockLost : Bool} {s : State} (hChainPorts : M.chainPorts = true) (hNums : M.Nums Nums154) (hs : s.outside M = r) :
    NextOutside M r (execChainFrameAbort p lane units blocks lockLost s) := by
  unfold execChainFrameAbort
  extract_lets +onlyGivenNames -merge -underBinder x0
  have q1 : State.outside M x0 = r := by
    unfold x0
    refine State.bump_outside (hNums.at Key.fam_rxAbort rfl) ?_
    exact hs
  try clear_value x0
  extract_lets +onlyGivenNames -merge -underBinder x2
  have q3 : State.outside M x2 = r := by
    unfold x2
    refine ite_outside ?_ ?_
    · refine State.credit_outside hChainPorts ?_
      exact q1
    · exact q1
  try clear_value x2
  extract_lets +onlyGivenNames -merge -underBinder x4
  try clear_value x4
  refine next_outside ?_
  refine ite_outside ?_ ?_
  · refine State.setCport_outside hChainPorts ?_
    exact q3
  · exact hs

theorem execSbTimeout_outside {M : Touch} {r : State} {tag : Nat} {dt : Nat} {s : State} (hOut : M.out = true) (hClock : M.clock = true) (hChain : M.chain = true) (hDict : M.dict = true) (hNums : M.Nums Nums2) (hLogs : M.logs = true) (hVbat : M.vbat = true) (hStraps : M.straps = true) (hJournal : M.journal = true) (hEdges : M.edges = true) (hFlags : M.flags = true) (hs : s.outside M = r) :
    NextOutside M r (execSbTimeout tag dt s) := by
  unfold execSbTimeout
  extract_lets +onlyGivenNames -merge -underBinder x0
  have q1 : State.outside M x0 = r := by
    unfold x0
    refine State.advance_outside hClock hVbat ?_
    exact hs
  try clear_value x0
  refine next_outside ?_
  split
  · exact q1
  · extract_lets +onlyGivenNames -merge -underBinder x2
    unfold x2
    clear x2
    extract_lets +onlyGivenNames -merge -underBinder x3
    have q4 : State.outside M x3 = r := by
      unfold x3
      refine Eq.trans (State.outside_chain_chain (h0 := hChain) ..) ?_
      exact q1
    try clear_value x3
    refine ite_outside ?_ ?_
    · exact q1
    · refine State.emit_outside hOut ?_
      refine State.sbPost_outside hDict hNums hLogs hStraps hJournal hEdges hFlags ?_
      exact q4

theorem execDelayRspRx_outside {M : Touch} {r : State} {p : Side} {t1 : Nat} {t2 : Nat} {t3 : Nat} {t4 : Nat} {s : State} (hChainPorts : M.chainPorts = true) (hDict : M.dict = true) (hNums : M.Nums Nums92) (hLogs : M.logs = true) (hStraps : M.straps = true) (hJournal : M.journal = true) (hEdges : M.edges = true) (hFlags : M.flags = true) (hs : s.outside M = r) :
    NextOutside M r (execDelayRspRx p t1 t2 t3 t4 s) := by
  unfold execDelayRspRx
  refine next_outside ?_
  refine State.delayRsp_outside hChainPorts hDict hNums hLogs hStraps hJournal hEdges hFlags ?_
  exact hs

theorem execTimeFrameTx_outside {M : Touch} {r : State} {p : Side} {s : State} (hChainPorts : M.chainPorts = true) (hNums : M.Nums Nums11) (hs : s.outside M = r) :
    NextOutside M r (execTimeFrameTx p s) := by
  unfold execTimeFrameTx
  refine next_outside ?_
  split
  · refine ite_outside ?_ ?_
    · refine State.sendPort_outside hChainPorts hNums ?_
      exact hs
    · exact hs
  · exact hs

theorem execSbRspRx_outside {M : Touch} {r : State} {tag : Nat} {code : SbCode} {bytes : Bytes} {s : State} (hOut : M.out = true) (hChain : M.chain = true) (hs : s.outside M = r) :
    NextOutside M r (execSbRspRx tag code bytes s) := by
  unfold execSbRspRx
  refine next_outside ?_
  refine State.sbResponse_outside hOut hChain ?_
  exact hs

theorem execSbReqIssue_outside {M : Touch} {r : State} {a0 : SbReq} {s : State} (hOut : M.out = true) (hChain : M.chain = true) (hChainPorts : M.chainPorts = true) (hDict : M.dict = true) (hNums : M.Nums Nums161) (hLogs : M.logs = true) (hSb : M.sb = true) (hStraps : M.straps = true) (hJournal : M.journal = true) (hEdges : M.edges = true) (hFlags : M.flags = true) (hs : s.outside M = r) :
    NextOutside M r (execSbReqIssue a0 s) := by
  unfold execSbReqIssue
  extract_lets +onlyGivenNames -merge -underBinder x1
  try clear_value x1
  extract_lets +onlyGivenNames -merge -underBinder x2
  try clear_value x2
  extract_lets +onlyGivenNames -merge -underBinder x3
  try clear_value x3
  extract_lets +onlyGivenNames -merge -underBinder x4
  unfold x4
  clear x4
  extract_lets +onlyGivenNames -merge -underBinder x5
  have q6 : State.outside M x5 = r := by
    unfold x5
    refine Eq.trans (State.outside_chain_chain (h0 := hChain) ..) ?_
    exact hs
  try clear_value x5
  refine next_outside ?_
  refine ite_outside ?_ ?_
  · refine State.emit_outside hOut ?_
    refine State.sbPost_outside hDict (hNums.sub rfl) hLogs hStraps hJournal hEdges hFlags ?_
    exact hs
  · refine ite_outside ?_ ?_
    · refine ite_outside ?_ ?_
      · refine State.emit_outside hOut ?_
        exact hs
      · refine State.sbAsk_outside hSb ?_
        exact hs
    · refine ite_outside ?_ ?_
      · refine State.emit_outside hOut ?_
        refine State.sbPost_outside hDict (hNums.sub rfl) hLogs hStraps hJournal hEdges hFlags ?_
        exact hs
      · refine State.sendChain_outside hChainPorts (hNums.sub rfl) ?_
        exact q6

theorem execDelayMeasure_outside {M : Touch} {r : State} {p : Side} {t1 : Nat} {s : State} (hChainPorts : M.chainPorts = true) (hNums : M.Nums Nums11) (hs : s.outside M = r) :
    NextOutside M r (execDelayMeasure p t1 s) := by
  unfold execDelayMeasure
  extract_lets +onlyGivenNames -merge -underBinder x0
  try clear_value x0
  refine next_outside ?_
  refine ite_outside ?_ ?_
  · refine State.sendPort_outside hChainPorts hNums ?_
    refine State.setCport_outside hChainPorts ?_
    exact hs
  · exact hs

theorem execChainFrameRx_outside {M : Touch} {r : State} {p : Side} {f : ChainFrame} {payload : Bytes} {crc : BitVec 32} {s : State} (hOut : M.out = true) (hPins : M.pins = true) (hClock : M.clock = true) (hPulses : M.pulses = true) (hChain : M.chain = true) (hChainPorts : M.chainPorts = true) (hDict : M.dict = true) (hAny : M.anyNum = true) (hDoms : M.doms = true) (hResults : M.results = true) (hLogs : M.logs = true) (hPower : M.power = true) (hVbat : M.vbat = true) (hRadio : M.radio = true) (hPorts : M.ports = true) (hRxTiles : M.rxTiles = true) (hTxTiles : M.txTiles = true) (hGirth : M.girth = true) (hRecs : M.recs = true) (hSched : M.sched = true) (hCinch : M.cinch = true) (hKeeper : M.keeper = true) (hSb : M.sb = true) (hStraps : M.straps = true) (hJournal : M.journal = true) (hAttached : M.Attached r) (hNodeQueues : M.nodeQueues = true) (hTables : M.tables = true) (hWindows : M.windows = true) (hHalter : M.halter = true) (hHar : M.har = true) (hQueues : M.queues = true) (hArrivals : M.arrivals = true) (hLacing : M.lacing = true) (hTree : M.tree = true) (hCurb : M.curb = true) (hConcho : M.concho = true) (hCores : M.cores = true) (hLocals : M.Locals r) (hBuckle : M.buckle = true) (hEdges : M.edges = true) (hHost : M.host = true) (hFlags : M.flags = true) (hReports : M.reports = true) (hs : s.outside M = r) :
    NextOutside M r (execChainFrameRx p f payload crc s) := by
  unfold execChainFrameRx
  extract_lets +onlyGivenNames -merge -underBinder x0
  try clear_value x0
  extract_lets +onlyGivenNames -merge -underBinder x1
  try clear_value x1
  extract_lets +onlyGivenNames -merge -underBinder x2
  try clear_value x2
  extract_lets +onlyGivenNames -merge -underBinder x3
  have q4 : ∀ u5 : State, State.outside M u5 = r → State.outside M (x3 u5) = r := by
    unfold x3
    · intro t6 q7
      refine ite_outside ?_ ?_
      · exact q7
      · refine State.credit_outside hChainPorts ?_
        exact q7
  try clear_value x3
  extract_lets +onlyGivenNames -merge -underBinder x8
  try clear_value x8
  extract_lets +onlyGivenNames -merge -underBinder x9
  have q10 : State.outside M x9 = r := by
    unfold x9
    refine State.setCport_outside hChainPorts ?_
    exact hs
  try clear_value x9
  refine next_outside ?_
  refine ite_outside ?_ ?_
  · exact hs
  · refine ite_outside ?_ ?_
    · refine q4 _ ?_
      refine State.bump_outside (.any hAny) ?_
      exact q10
    · refine ite_outside ?_ ?_
      · refine q4 _ ?_
        refine State.bump_outside (.any hAny) ?_
        exact q10
      · refine ite_outside ?_ ?_
        · refine q4 _ ?_
          refine State.bump_outside (.any hAny) ?_
          exact q10
        · refine State.frameRx_outside hOut hPins hClock hPulses hChain hChainPorts hDict hAny hDoms hResults hLogs hPower hVbat hRadio hPorts hRxTiles hTxTiles hGirth hRecs hSched hCinch hKeeper hSb hStraps hJournal hAttached hNodeQueues hTables hWindows hHalter hHar hQueues hArrivals hLacing hTree hCurb hConcho hCores hLocals hBuckle hEdges hHost hFlags hReports ?_
          exact q10

theorem execTimeFrameRx_outside {M : Touch} {r : State} {p : Side} {m : TimeMsg} {dt : Nat} {s : State} (hPins : M.pins = true) (hClock : M.clock = true) (hPulses : M.pulses = true) (hChain : M.chain = true) (hChainPorts : M.chainPorts = true) (hDict : M.dict = true) (hAny : M.anyNum = true) (hResults : M.results = true) (hLogs : M.logs = true) (hVbat : M.vbat = true) (hPorts : M.ports = true) (hRxTiles : M.rxTiles = true) (hTxTiles : M.txTiles = true) (hRecs : M.recs = true) (hSched : M.sched = true) (hSb : M.sb = true) (hStraps : M.straps = true) (hJournal : M.journal = true) (hNodeQueues : M.nodeQueues = true) (hLacing : M.lacing = true) (hEdges : M.edges = true) (hHost : M.host = true) (hFlags : M.flags = true) (hReports : M.reports = true) (hs : s.outside M = r) :
    NextOutside M r (execTimeFrameRx p m dt s) := by
  unfold execTimeFrameRx
  refine next_outside ?_
  refine State.timeRx_outside hPins hClock hPulses hChain hChainPorts hDict hAny hResults hLogs hPorts hRxTiles hTxTiles hRecs hSched hSb hStraps hJournal hNodeQueues hLacing hEdges hHost hFlags hReports ?_
  refine State.advance_outside hClock hVbat ?_
  exact hs

end Sys2Proof.Machine
end

