-- ==== Sys2Proof/Laws/Frame/Hp9.lean ====
section
/-! SUPPORT. What the operations of Machine/Hp9.lean leave alone. -/

namespace Sys2Proof.Machine

theorem State.hp9Lost_outside {M : Touch} {r : State} {s : State} {n : Nat} {f : HFrame} (hCores : M.cores = true) (hReports : M.reports = true) (hs : s.outside M = r) :
    (State.hp9Lost s n f).outside M = r := by
  unfold State.hp9Lost
  extract_lets +onlyGivenNames -merge -underBinder x0
  try clear_value x0
  refine State.copyLost_outside hReports ?_
  refine State.setCore_outside hCores ?_
  exact hs

theorem State.hp9Lost_keeps {s : State} {n : Nat} {f : HFrame} : Kept243 s (State.hp9Lost s n f) :=
  .of (State.hp9Lost_outside rfl rfl rfl)

theorem State.hp9Take_outside {M : Touch} {r : State} {s : State} {n : Nat} {d : Nat} (hDraws : M.draws = true) (hOut : M.out = true) (hDict : M.dict = true) (hNums : M.Nums Nums122) (hLogs : M.logs = true) (hStraps : M.straps = true) (hJournal : M.journal = true) (hTables : M.tables = true) (hHalter : M.halter = true) (hHar : M.har = true) (hQueues : M.queues = true) (hCurb : M.curb = true) (hEdges : M.edges = true) (hFlags : M.flags = true) (hReports : M.reports = true) (hs : s.outside M = r) :
    (State.hp9Take s n d).1.outside M = r := by
  unfold State.hp9Take
  refine ite_fst_outside ?_ ?_
  · refine State.frameIn_outside hDraws hOut hDict hNums hLogs hStraps hJournal hTables hHalter hHar hQueues hCurb hEdges hFlags hReports ?_
    exact hs
  · refine fst_outside ?_
    exact hs

theorem State.hp9Take_keeps {s : State} {n : Nat} {d : Nat} : Kept177 s (State.hp9Take s n d).1 :=
  .of (State.hp9Take_outside rfl rfl rfl rfl rfl rfl rfl rfl rfl rfl rfl rfl rfl rfl rfl rfl)

theorem State.hp9Take_rd {s : State} {n : Nat} {d : Nat} {kk : Nat} (hkey : Nums122.contains (Key.fam kk) = false) : (State.hp9Take s n d).1.rd kk = s.rd kk :=
  State.rd_of_outside (M := .but Nums122) (State.hp9Take_outside rfl rfl rfl .self rfl rfl rfl rfl rfl rfl rfl rfl rfl rfl rfl rfl) rfl hkey

theorem State.setDesc_outside {M : Touch} {r : State} {s : State} {n : Nat} {a : Nat} {d : Nat} (hCores : M.cores = true) (hLocals : M.Locals r) (hs : s.outside M = r) :
    (State.setDesc s n a d).outside M = r := by
  unfold State.setDesc
  refine State.localStore_outside hCores hLocals ?_
  exact hs

theorem State.setDesc_keeps {s : State} {n : Nat} {a : Nat} {d : Nat} : Kept101 s (State.setDesc s n a d) :=
  .of (State.setDesc_outside rfl (.free rfl rfl) rfl)

theorem State.hp9To_outside {M : Touch} {r : State} {s : State} {n : Nat} {f : HFrame} (hNums : M.Nums Nums128) (hCores : M.cores = true) (hLocals : M.Locals r) (hReports : M.reports = true) (hs : s.outside M = r) :
    (State.hp9To s n f).outside M = r := by
  unfold State.hp9To
  extract_lets +onlyGivenNames -merge -underBinder x0
  try clear_value x0
  extract_lets +onlyGivenNames -merge -underBinder x1
  try clear_value x1
  extract_lets +onlyGivenNames -merge -underBinder x2
  try clear_value x2
  extract_lets +onlyGivenNames -merge -underBinder x3
  try clear_value x3
  extract_lets +onlyGivenNames -merge -underBinder x4
  have q5 : State.outside M x4 = r := by
    unfold x4
    refine State.setDesc_outside hCores hLocals ?_
    refine State.localStore_outside hCores hLocals ?_
    exact hs
  try clear_value x4
  extract_lets +onlyGivenNames -merge -underBinder x6
  have q7 : State.outside M x6 = r := by
    unfold x6
    refine State.setCore_outside hCores ?_
    exact q5
  try clear_value x6
  refine ite_outside ?_ ?_
  · refine State.hp9Lost_outside hCores hReports ?_
    exact hs
  · refine State.reportFinal_outside hReports ?_
    refine State.bump_outside (hNums.at Key.fam_hpTx rfl) ?_
    exact q7

theorem State.hp9To_keeps {s : State} {n : Nat} {f : HFrame} : Kept244 s (State.hp9To s n f) :=
  .of (State.hp9To_outside rfl rfl (.free rfl rfl) rfl rfl)

theorem State.hp9To_rd {s : State} {n : Nat} {f : HFrame} {kk : Nat} (hkey : Nums128.contains (Key.fam kk) = false) : (State.hp9To s n f).rd kk = s.rd kk :=
  State.rd_of_outside (M := .but Nums128) (State.hp9To_outside .self rfl (.free rfl rfl) rfl rfl) rfl hkey

theorem execHp9TxTake_outside {M : Touch} {r : State} {n : Fin 16} {dt : Nat} {s : State} (hDraws : M.draws = true) (hOut : M.out = true) (hClock : M.clock = true) (hDict : M.dict = true) (hNums : M.Nums Nums122) (hLogs : M.logs = true) (hVbat : M.vbat = true) (hStraps : M.straps = true) (hJournal : M.journal = true) (hTables : M.tables = true) (hHalter : M.halter = true) (hHar : M.har = true) (hQueues : M.queues = true) (hCurb : M.curb = true) (hCores : M.cores = true) (hLocals : M.Locals r) (hEdges : M.edges = true) (hFlags : M.flags = true) (hReports : M.reports = true) (hs : s.outside M = r) :
    NextOutside M r (execHp9TxTake n dt s) := by
  unfold execHp9TxTake
  extract_lets +onlyGivenNames -merge -underBinder x0
  have q1 : State.outside M x0 = r := by
    unfold x0
    refine State.advance_outside hClock hVbat ?_
    exact hs
  try clear_value x0
  extract_lets +onlyGivenNames -merge -underBinder x2
  try clear_value x2
  extract_lets +onlyGivenNames -merge -underBinder x3
  try clear_value x3
  extract_lets +onlyGivenNames -merge -underBinder x4
  try clear_value x4
  extract_lets +onlyGivenNames -merge -underBinder x5
  try clear_value x5
  extract_lets +onlyGivenNames -merge -underBinder x6
  have q7 : State.outside M x6.1 = r := by
    unfold x6
    refine State.hp9Take_outside hDraws hOut hDict hNums hLogs hStraps hJournal hTables hHalter hHar hQueues hCurb hEdges hFlags hReports ?_
    exact q1
  try clear_value x6
  extract_lets +onlyGivenNames -merge -underBinder x8
  have q9 : State.outside M x8 = r := by
    unfold x8
    refine State.setDesc_outside hCores hLocals ?_
    exact q7
  try clear_value x8
  extract_lets +onlyGivenNames -merge -underBinder x10
  try clear_value x10
  refine next_outside ?_
  refine ite_outside ?_ ?_
  · exact q1
  · refine State.raise_outside hEdges ?_
    refine State.setCore_outside hCores ?_
    exact q9

theorem execHp9RxDeliver_outside {M : Touch} {r : State} {s : State} (hNums : M.Nums Nums141) (hHar : M.har = true) (hCores : M.cores = true) (hLocals : M.Locals r) (hReports : M.reports = true) (hs : s.outside M = r) :
    NextOutside M r (execHp9RxDeliver s) := by
  unfold execHp9RxDeliver
  refine next_outside ?_
  split
  · exact hs
  · extract_lets +onlyGivenNames -merge -underBinder x0
    unfold x0
    clear x0
    extract_lets +onlyGivenNames -merge -underBinder x1
    have q2 : State.outside M x1 = r := by
      unfold x1
      refine Eq.trans (State.outside_har_har (h0 := hHar) ..) ?_
      exact hs
    try clear_value x1
    split
    · refine State.qDrop_outside (hNums.sub rfl) hReports ?_
      exact q2
    · refine State.hp9To_outside (hNums.sub rfl) hCores hLocals hReports ?_
      exact q2

end Sys2Proof.Machine
end

