-- ==== Sys2Proof/Laws/Frame/Mailbox.lean ====
section
/-! SUPPORT. What the operations of Machine/Mailbox.lean leave alone. -/

namespace Sys2Proof.Machine

theorem State.causeWrite_outside {M : Touch} {r : State} {s : State} {c : Nat} {v : Nat} (hHost : M.host = true) (hFlags : M.flags = true) (hs : s.outside M = r) :
    (State.causeWrite s c v).outside M = r := by
  unfold State.causeWrite
  extract_lets +onlyGivenNames -merge -underBinder x0
  try clear_value x0
  extract_lets +onlyGivenNames -merge -underBinder x1
  try clear_value x1
  extract_lets +onlyGivenNames -merge -underBinder x2
  unfold x2
  clear x2
  rw [← hs]; simp only [State.outside, hFlags, hHost, cond_true]

theorem State.causeWrite_keeps {s : State} {c : Nat} {v : Nat} : Kept184 s (State.causeWrite s c v) :=
  .of (State.causeWrite_outside rfl rfl rfl)

theorem State.ringConfig_outside {M : Touch} {r : State} {s : State} {rx : Bool} {n : Nat} {k : Nat} {v : Nat} (hHost : M.host = true) (hs : s.outside M = r) :
    (State.ringConfig s rx n k v).outside M = r := by
  unfold State.ringConfig
  extract_lets +onlyGivenNames -merge -underBinder x0
  try clear_value x0
  extract_lets +onlyGivenNames -merge -underBinder x1
  try clear_value x1
  refine ite_outside ?_ ?_
  · refine State.setRxRing_outside hHost ?_
    exact hs
  · refine State.setTxRing_outside hHost ?_
    exact hs

theorem State.ringConfig_keeps {s : State} {rx : Bool} {n : Nat} {k : Nat} {v : Nat} : Kept185 s (State.ringConfig s rx n k v) :=
  .of (State.ringConfig_outside rfl rfl)

theorem State.msixWrite_outside {M : Touch} {r : State} {s : State} {v : Nat} {k : Nat} {x : Nat} (hHost : M.host = true) (hs : s.outside M = r) :
    (State.msixWrite s v k x).outside M = r := by
  unfold State.msixWrite
  extract_lets +onlyGivenNames -merge -underBinder x0
  try clear_value x0
  refine State.setVector_outside hHost ?_
  exact hs

theorem State.msixWrite_keeps {s : State} {v : Nat} {k : Nat} {x : Nat} : Kept185 s (State.msixWrite s v k x) :=
  .of (State.msixWrite_outside rfl rfl)

theorem State.bar0Write_outside {M : Touch} {r : State} {s : State} {o : Nat} {v : Nat} (hEdges : M.edges = true) (hHost : M.host = true) (hFlags : M.flags = true) (hs : s.outside M = r) :
    (State.bar0Write s o v).outside M = r := by
  unfold State.bar0Write
  extract_lets +onlyGivenNames -merge -underBinder x0
  unfold x0
  clear x0
  extract_lets +onlyGivenNames -merge -underBinder x1
  unfold x1
  clear x1
  extract_lets +onlyGivenNames -merge -underBinder x2
  try clear_value x2
  refine ite_outside ?_ ?_
  · refine Eq.trans (State.outside_host_host (h0 := hHost) ..) ?_
    exact hs
  · refine ite_outside ?_ ?_
    · refine State.hifRaise_outside hEdges ?_
      exact hs
    · refine ite_outside ?_ ?_
      · refine Eq.trans (State.outside_host_host (h0 := hHost) ..) ?_
        exact hs
      · refine ite_outside ?_ ?_
        · refine State.setRxRing_outside hHost ?_
          exact hs
        · refine ite_outside ?_ ?_
          · refine State.setTxRing_outside hHost ?_
            exact hs
          · refine ite_outside ?_ ?_
            · refine State.ringConfig_outside hHost ?_
              exact hs
            · refine ite_outside ?_ ?_
              · refine State.ringConfig_outside hHost ?_
                exact hs
              · refine ite_outside ?_ ?_
                · refine State.causeWrite_outside hHost hFlags ?_
                  exact hs
                · refine ite_outside ?_ ?_
                  · refine State.setVector_outside hHost ?_
                    exact hs
                  · refine ite_outside ?_ ?_
                    · refine State.msixWrite_outside hHost ?_
                      exact hs
                    · exact hs

theorem State.bar0Write_keeps {s : State} {o : Nat} {v : Nat} : Kept245 s (State.bar0Write s o v) :=
  .of (State.bar0Write_outside rfl rfl rfl rfl)

theorem State.mailSubmit_outside {M : Touch} {r : State} {s : State} {len : Nat} (hOut : M.out = true) (hPins : M.pins = true) (hClock : M.clock = true) (hPulses : M.pulses = true) (hChain : M.chain = true) (hChainPorts : M.chainPorts = true) (hDict : M.dict = true) (hAny : M.anyNum = true) (hDoms : M.doms = true) (hResults : M.results = true) (hLogs : M.logs = true) (hPower : M.power = true) (hVbat : M.vbat = true) (hRadio : M.radio = true) (hPorts : M.ports = true) (hRxTiles : M.rxTiles = true) (hTxTiles : M.txTiles = true) (hGirth : M.girth = true) (hRecs : M.recs = true) (hSched : M.sched = true) (hCinch : M.cinch = true) (hKeeper : M.keeper = true) (hSb : M.sb = true) (hStraps : M.straps = true) (hJournal : M.journal = true) (hAttached : M.Attached r) (hNodeQueues : M.nodeQueues = true) (hTables : M.tables = true) (hWindows : M.windows = true) (hHalter : M.halter = true) (hHar : M.har = true) (hQueues : M.queues = true) (hArrivals : M.arrivals = true) (hLacing : M.lacing = true) (hTree : M.tree = true) (hCurb : M.curb = true) (hConcho : M.concho = true) (hCores : M.cores = true) (hLocals : M.Locals r) (hBuckle : M.buckle = true) (hEdges : M.edges = true) (hHost : M.host = true) (hFlags : M.flags = true) (hReports : M.reports = true) (hs : s.outside M = r) :
    (State.mailSubmit s len).outside M = r := by
  unfold State.mailSubmit
  refine ite_outside ?_ ?_
  · exact hs
  · refine State.request_outside hOut hPins hClock hPulses hChain hChainPorts hDict hAny hDoms hResults hLogs hPower hVbat hRadio hPorts hRxTiles hTxTiles hGirth hRecs hSched hCinch hKeeper hSb hStraps hJournal hAttached hNodeQueues hTables hWindows hHalter hHar hQueues hArrivals hLacing hTree hCurb hConcho hCores hLocals hBuckle hEdges hHost hFlags hReports ?_
    exact hs

theorem State.mailSubmit_keeps {s : State} {len : Nat} : Kept226 s (State.mailSubmit s len) :=
  .of (State.mailSubmit_outside rfl rfl rfl rfl rfl rfl rfl rfl rfl rfl rfl rfl rfl rfl rfl rfl rfl rfl rfl rfl rfl rfl rfl rfl rfl (.free rfl rfl) rfl rfl rfl rfl rfl rfl rfl rfl rfl rfl rfl rfl (.free rfl rfl) rfl rfl rfl rfl rfl rfl)

theorem State.mailPop_outside {M : Touch} {r : State} {s : State} (hHost : M.host = true) (hs : s.outside M = r) :
    (State.mailPop s).outside M = r := by
  unfold State.mailPop
  extract_lets +onlyGivenNames -merge -underBinder x0
  unfold x0
  clear x0
  refine Eq.trans (State.outside_host_host (h0 := hHost) ..) ?_
  exact hs

theorem State.mailPop_keeps {s : State} : Kept185 s (State.mailPop s) :=
  .of (State.mailPop_outside rfl rfl)

theorem State.recordOp_outside {M : Touch} {r : State} {s : State} {k : Nat} (hPins : M.pins = true) (hDict : M.dict = true) (hNums : M.Nums Nums72) (hResults : M.results = true) (hLogs : M.logs = true) (hPower : M.power = true) (hPorts : M.ports = true) (hRxTiles : M.rxTiles = true) (hTxTiles : M.txTiles = true) (hRecs : M.recs = true) (hSched : M.sched = true) (hKeeper : M.keeper = true) (hStraps : M.straps = true) (hJournal : M.journal = true) (hNodeQueues : M.nodeQueues = true) (hLacing : M.lacing = true) (hEdges : M.edges = true) (hHost : M.host = true) (hFlags : M.flags = true) (hReports : M.reports = true) (hs : s.outside M = r) :
    (State.recordOp s k).outside M = r := by
  unfold State.recordOp
  refine ite_outside ?_ ?_
  · refine outOf_outside ?_ ?_
    · exact hs
    · refine execNrRead_outside hPins hDict (hNums.sub rfl) hResults hLogs hPower hPorts hRxTiles hStraps hJournal hEdges hHost hFlags ?_
      exact hs
  · refine ite_outside ?_ ?_
    · refine outOf_outside ?_ ?_
      · exact hs
      · refine execNrWrite_outside hPins hDict hNums hResults hLogs hPower hPorts hRxTiles hTxTiles hRecs hSched hKeeper hStraps hJournal hNodeQueues hLacing hEdges hHost hFlags hReports ?_
        exact hs
    · exact hs

theorem State.recordOp_keeps {s : State} {k : Nat} : Kept246 s (State.recordOp s k) :=
  .of (State.recordOp_outside rfl rfl rfl rfl rfl rfl rfl rfl rfl rfl rfl rfl rfl rfl rfl rfl rfl rfl rfl rfl rfl)

theorem State.recordOp_rd {s : State} {k : Nat} {kk : Nat} (hkey : Nums72.contains (Key.fam kk) = false) : (State.recordOp s k).rd kk = s.rd kk :=
  State.rd_of_outside (M := .but Nums72) (State.recordOp_outside rfl rfl .self rfl rfl rfl rfl rfl rfl rfl rfl rfl rfl rfl rfl rfl rfl rfl rfl rfl rfl) rfl hkey

theorem State.bar2Write_outside {M : Touch} {r : State} {s : State} {o : Nat} {v : Nat} (hOut : M.out = true) (hPins : M.pins = true) (hClock : M.clock = true) (hPulses : M.pulses = true) (hChain : M.chain = true) (hChainPorts : M.chainPorts = true) (hDict : M.dict = true) (hAny : M.anyNum = true) (hDoms : M.doms = true) (hResults : M.results = true) (hLogs : M.logs = true) (hPower : M.power = true) (hVbat : M.vbat = true) (hRadio : M.radio = true) (hPorts : M.ports = true) (hRxTiles : M.rxTiles = true) (hTxTiles : M.txTiles = true) (hGirth : M.girth = true) (hRecs : M.recs = true) (hSched : M.sched = true) (hCinch : M.cinch = true) (hKeeper : M.keeper = true) (hSb : M.sb = true) (hStraps : M.straps = true) (hJournal : M.journal = true) (hAttached : M.Attached r) (hNodeQueues : M.nodeQueues = true) (hTables : M.tables = true) (hWindows : M.windows = true) (hHalter : M.halter = true) (hHar : M.har = true) (hQueues : M.queues = true) (hArrivals : M.arrivals = true) (hLacing : M.lacing = true) (hTree : M.tree = true) (hCurb : M.curb = true) (hConcho : M.concho = true) (hCores : M.cores = true) (hLocals : M.Locals r) (hBuckle : M.buckle = true) (hEdges : M.edges = true) (hHost : M.host = true) (hFlags : M.flags = true) (hReports : M.reports = true) (hs : s.outside M = r) :
    (State.bar2Write s o v).outside M = r := by
  unfold State.bar2Write
  extract_lets +onlyGivenNames -merge -underBinder x0
  unfold x0
  clear x0
  extract_lets +onlyGivenNames -merge -underBinder x1
  unfold x1
  clear x1
  extract_lets +onlyGivenNames -merge -underBinder x2
  unfold x2
  clear x2
  refine ite_outside ?_ ?_
  · refine Eq.trans (State.outside_host_host (h0 := hHost) ..) ?_
    exact hs
  · refine ite_outside ?_ ?_
    · refine State.mailSubmit_outside hOut hPins hClock hPulses hChain hChainPorts hDict hAny hDoms hResults hLogs hPower hVbat hRadio hPorts hRxTiles hTxTiles hGirth hRecs hSched hCinch hKeeper hSb hStraps hJournal hAttached hNodeQueues hTables hWindows hHalter hHar hQueues hArrivals hLacing hTree hCurb hConcho hCores hLocals hBuckle hEdges hHost hFlags hReports ?_
      exact hs
    · refine ite_outside ?_ ?_
      · refine State.mailPop_outside hHost ?_
        exact hs
      · refine ite_outside ?_ ?_
        · refine State.tpWrite_outside hTables hWindows ?_
          exact hs
        · refine ite_outside ?_ ?_
          · refine Eq.trans (State.outside_host_host (h0 := hHost) ..) ?_
            exact hs
          · refine ite_outside ?_ ?_
            · refine ite_outside ?_ ?_
              · refine Eq.trans (State.outside_host_host (h0 := hHost) ..) ?_
                exact hs
              · exact hs
            · refine ite_outside ?_ ?_
              · refine State.recordOp_outside hPins hDict (.any hAny) hResults hLogs hPower hPorts hRxTiles hTxTiles hRecs hSched hKeeper hStraps hJournal hNodeQueues hLacing hEdges hHost hFlags hReports ?_
                exact hs
              · refine ite_outside ?_ ?_
                · refine State.portWrite_outside (.any hAny) hStraps hCores hFlags ?_
                  exact hs
                · exact hs

theorem State.bar2Write_keeps {s : State} {o : Nat} {v : Nat} : Kept226 s (State.bar2Write s o v) :=
  .of (State.bar2Write_outside rfl rfl rfl rfl rfl rfl rfl rfl rfl rfl rfl rfl rfl rfl rfl rfl rfl rfl rfl rfl rfl rfl rfl rfl rfl (.free rfl rfl) rfl rfl rfl rfl rfl rfl rfl rfl rfl rfl rfl rfl (.free rfl rfl) rfl rfl rfl rfl rfl rfl)

theorem State.mailboxCredit_outside {M : Touch} {r : State} {s : State} (hChainPorts : M.chainPorts = true) (hHost : M.host = true) (hs : s.outside M = r) :
    (State.mailboxCredit s).outside M = r := by
  unfold State.mailboxCredit
  split
  · exact hs
  · extract_lets +onlyGivenNames -merge -underBinder x0
    unfold x0
    clear x0
    refine State.credit_outside hChainPorts ?_
    refine Eq.trans (State.outside_host_host (h0 := hHost) ..) ?_
    exact hs

theorem State.mailboxCredit_keeps {s : State} : Kept247 s (State.mailboxCredit s) :=
  .of (State.mailboxCredit_outside rfl rfl rfl)

theorem State.subWrite_outside {M : Touch} {r : State} {s : State} {idx : Nat} {sub : Nat} {v : Nat} (hPins : M.pins = true) (hClock : M.clock = true) (hPulses : M.pulses = true) (hDict : M.dict = true) (hAny : M.anyNum = true) (hLogs : M.logs = true) (hVbat : M.vbat = true) (hPorts : M.ports = true) (hRecs : M.recs = true) (hSched : M.sched = true) (hStraps : M.straps = true) (hJournal : M.journal = true) (hCurb : M.curb = true) (hConcho : M.concho = true) (hEdges : M.edges = true) (hFlags : M.flags = true) (hs : s.outside M = r) :
    (State.subWrite s idx sub v).outside M = r := by
  unfold State.subWrite
  split
  · exact hs
  · extract_lets +onlyGivenNames -merge -underBinder x0
    try clear_value x0
    refine ite_outside ?_ ?_
    · exact hs
    · refine State.writeTake_outside hPins hClock hPulses hDict hAny hLogs hVbat hPorts hRecs hSched hStraps hJournal hCurb hConcho hEdges hFlags ?_
      exact hs

theorem State.subWrite_keeps {s : State} {idx : Nat} {sub : Nat} {v : Nat} : Kept215 s (State.subWrite s idx sub v) :=
  .of (State.subWrite_outside rfl rfl rfl rfl rfl rfl rfl rfl rfl rfl rfl rfl rfl rfl rfl rfl rfl)

theorem State.regWrite_outside {M : Touch} {r : State} {s : State} {a0 : Reg} {v : Nat} (hOut : M.out = true) (hPins : M.pins = true) (hClock : M.clock = true) (hPulses : M.pulses = true) (hChain : M.chain = true) (hChainPorts : M.chainPorts = true) (hDict : M.dict = true) (hAny : M.anyNum = true) (hDoms : M.doms = true) (hResults : M.results = true) (hLogs : M.logs = true) (hPower : M.power = true) (hVbat : M.vbat = true) (hRadio : M.radio = true) (hPorts : M.ports = true) (hRxTiles : M.rxTiles = true) (hTxTiles : M.txTiles = true) (hGirth : M.girth = true) (hRecs : M.recs = true) (hSched : M.sched = true) (hCinch : M.cinch = true) (hKeeper : M.keeper = true) (hSb : M.sb = true) (hStraps : M.straps = true) (hJournal : M.journal = true) (hAttached : M.Attached r) (hNodeQueues : M.nodeQueues = true) (hTables : M.tables = true) (hWindows : M.windows = true) (hHalter : M.halter = true) (hHar : M.har = true) (hQueues : M.queues = true) (hArrivals : M.arrivals = true) (hLacing : M.lacing = true) (hTree : M.tree = true) (hCurb : M.curb = true) (hConcho : M.concho = true) (hCores : M.cores = true) (hLocals : M.Locals r) (hBuckle : M.buckle = true) (hEdges : M.edges = true) (hHost : M.host = true) (hFlags : M.flags = true) (hReports : M.reports = true) (hs : s.outside M = r) :
    (State.regWrite s a0 v).outside M = r := by
  unfold State.regWrite
  split
  · refine State.hostWrites_outside hPins hDict (.any hAny) hResults hLogs hPower hPorts hRxTiles hStraps hJournal hEdges hFlags ?_ ?_
    · intro t1 q2
      refine State.bar0Write_outside hEdges hHost hFlags ?_
      exact q2
    · exact hs
  · refine State.hostWrites_outside hPins hDict (.any hAny) hResults hLogs hPower hPorts hRxTiles hStraps hJournal hEdges hFlags ?_ ?_
    · intro t3 q4
      refine State.bar2Write_outside hOut hPins hClock hPulses hChain hChainPorts hDict hAny hDoms hResults hLogs hPower hVbat hRadio hPorts hRxTiles hTxTiles hGirth hRecs hSched hCinch hKeeper hSb hStraps hJournal hAttached hNodeQueues hTables hWindows hHalter hHar hQueues hArrivals hLacing hTree hCurb hConcho hCores hLocals hBuckle hEdges hHost hFlags hReports ?_
      exact q4
    · exact hs
  · refine ite_outside ?_ ?_
    · refine State.pageWrite_outside hCores hBuckle hEdges hFlags ?_
      exact hs
    · exact hs
  · refine State.hostWrites_outside hPins hDict (.any hAny) hResults hLogs hPower hPorts hRxTiles hStraps hJournal hEdges hFlags ?_ ?_
    · intro t5 q6
      extract_lets +onlyGivenNames -merge -underBinder x7
      unfold x7
      clear x7
      refine Eq.trans (State.outside_host_host (h0 := hHost) ..) ?_
      exact q6
    · exact hs
  · refine State.subWrite_outside hPins hClock hPulses hDict hAny hLogs hVbat hPorts hRecs hSched hStraps hJournal hCurb hConcho hEdges hFlags ?_
    exact hs

theorem State.regWrite_keeps {s : State} {a0 : Reg} {v : Nat} : Kept226 s (State.regWrite s a0 v) :=
  .of (State.regWrite_outside rfl rfl rfl rfl rfl rfl rfl rfl rfl rfl rfl rfl rfl rfl rfl rfl rfl rfl rfl rfl rfl rfl rfl rfl rfl (.free rfl rfl) rfl rfl rfl rfl rfl rfl rfl rfl rfl rfl rfl rfl (.free rfl rfl) rfl rfl rfl rfl rfl rfl)

theorem execMbxRspPop_outside {M : Touch} {r : State} {s : State} (hPins : M.pins = true) (hDict : M.dict = true) (hNums : M.Nums Nums52) (hResults : M.results = true) (hLogs : M.logs = true) (hPower : M.power = true) (hPorts : M.ports = true) (hRxTiles : M.rxTiles = true) (hStraps : M.straps = true) (hJournal : M.journal = true) (hEdges : M.edges = true) (hHost : M.host = true) (hFlags : M.flags = true) (hs : s.outside M = r) :
    NextOutside M r (execMbxRspPop s) := by
  unfold execMbxRspPop
  refine next_outside ?_
  refine State.hostWrites_outside hPins hDict hNums hResults hLogs hPower hPorts hRxTiles hStraps hJournal hEdges hFlags ?_ ?_
  · intro t0 q1
    refine State.mailPop_outside hHost ?_
    exact q1
  · exact hs

theorem execMbxResponseEnqueue_outside {M : Touch} {r : State} {s : State} (hChainPorts : M.chainPorts = true) (hHost : M.host = true) (hFlags : M.flags = true) (hs : s.outside M = r) :
    NextOutside M r (execMbxResponseEnqueue s) := by
  unfold execMbxResponseEnqueue
  refine next_outside ?_
  split
  · exact hs
  · extract_lets +onlyGivenNames -merge -underBinder x0
    unfold x0
    clear x0
    extract_lets +onlyGivenNames -merge -underBinder x1
    have q2 : State.outside M x1 = r := by
      unfold x1
      refine State.setCause_outside hFlags ?_
      refine Eq.trans (State.outside_host_host (h0 := hHost) ..) ?_
      exact hs
    try clear_value x1
    refine ite_outside ?_ ?_
    · exact hs
    · refine ite_outside ?_ ?_
      · refine State.mailboxCredit_outside hChainPorts hHost ?_
        exact q2
      · exact q2

theorem execMbxSubmit_outside {M : Touch} {r : State} {len : BitVec 11} {s : State} (hOut : M.out = true) (hPins : M.pins = true) (hClock : M.clock = true) (hPulses : M.pulses = true) (hChain : M.chain = true) (hChainPorts : M.chainPorts = true) (hDict : M.dict = true) (hAny : M.anyNum = true) (hDoms : M.doms = true) (hResults : M.results = true) (hLogs : M.logs = true) (hPower : M.power = true) (hVbat : M.vbat = true) (hRadio : M.radio = true) (hPorts : M.ports = true) (hRxTiles : M.rxTiles = true) (hTxTiles : M.txTiles = true) (hGirth : M.girth = true) (hRecs : M.recs = true) (hSched : M.sched = true) (hCinch : M.cinch = true) (hKeeper : M.keeper = true) (hSb : M.sb = true) (hStraps : M.straps = true) (hJournal : M.journal = true) (hAttached : M.Attached r) (hNodeQueues : M.nodeQueues = true) (hTables : M.tables = true) (hWindows : M.windows = true) (hHalter : M.halter = true) (hHar : M.har = true) (hQueues : M.queues = true) (hArrivals : M.arrivals = true) (hLacing : M.lacing = true) (hTree : M.tree = true) (hCurb : M.curb = true) (hConcho : M.concho = true) (hCores : M.cores = true) (hLocals : M.Locals r) (hBuckle : M.buckle = true) (hEdges : M.edges = true) (hHost : M.host = true) (hFlags : M.flags = true) (hReports : M.reports = true) (hs : s.outside M = r) :
    NextOutside M r (execMbxSubmit len s) := by
  unfold execMbxSubmit
  refine next_outside ?_
  refine State.hostWrites_outside hPins hDict (.any hAny) hResults hLogs hPower hPorts hRxTiles hStraps hJournal hEdges hFlags ?_ ?_
  · intro t0 q1
    refine State.mailSubmit_outside hOut hPins hClock hPulses hChain hChainPorts hDict hAny hDoms hResults hLogs hPower hVbat hRadio hPorts hRxTiles hTxTiles hGirth hRecs hSched hCinch hKeeper hSb hStraps hJournal hAttached hNodeQueues hTables hWindows hHalter hHar hQueues hArrivals hLacing hTree hCurb hConcho hCores hLocals hBuckle hEdges hHost hFlags hReports ?_
    exact q1
  · exact hs

theorem execRegisterWrite_outside {M : Touch} {r : State} {a0 : Reg} {v : Nat} {s : State} (hOut : M.out = true) (hPins : M.pins = true) (hClock : M.clock = true) (hPulses : M.pulses = true) (hChain : M.chain = true) (hChainPorts : M.chainPorts = true) (hDict : M.dict = true) (hAny : M.anyNum = true) (hDoms : M.doms = true) (hResults : M.results = true) (hLogs : M.logs = true) (hPower : M.power = true) (hVbat : M.vbat = true) (hRadio : M.radio = true) (hPorts : M.ports = true) (hRxTiles : M.rxTiles = true) (hTxTiles : M.txTiles = true) (hGirth : M.girth = true) (hRecs : M.recs = true) (hSched : M.sched = true) (hCinch : M.cinch = true) (hKeeper : M.keeper = true) (hSb : M.sb = true) (hStraps : M.straps = true) (hJournal : M.journal = true) (hAttached : M.Attached r) (hNodeQueues : M.nodeQueues = true) (hTables : M.tables = true) (hWindows : M.windows = true) (hHalter : M.halter = true) (hHar : M.har = true) (hQueues : M.queues = true) (hArrivals : M.arrivals = true) (hLacing : M.lacing = true) (hTree : M.tree = true) (hCurb : M.curb = true) (hConcho : M.concho = true) (hCores : M.cores = true) (hLocals : M.Locals r) (hBuckle : M.buckle = true) (hEdges : M.edges = true) (hHost : M.host = true) (hFlags : M.flags = true) (hReports : M.reports = true) (hs : s.outside M = r) :
    NextOutside M r (execRegisterWrite a0 v s) := by
  unfold execRegisterWrite
  refine next_outside ?_
  refine State.regWrite_outside hOut hPins hClock hPulses hChain hChainPorts hDict hAny hDoms hResults hLogs hPower hVbat hRadio hPorts hRxTiles hTxTiles hGirth hRecs hSched hCinch hKeeper hSb hStraps hJournal hAttached hNodeQueues hTables hWindows hHalter hHar hQueues hArrivals hLacing hTree hCurb hConcho hCores hLocals hBuckle hEdges hHost hFlags hReports ?_
  exact hs

end Sys2Proof.Machine
end

