-- ==== Sys2Proof/Laws/Frame/PowerCmd.lean ====
section
/-! SUPPORT. What the operations of Machine/PowerCmd.lean leave alone. -/

namespace Sys2Proof.Machine

theorem State.expandersLost_outside {M : Touch} {r : State} {s : State} (hAttached : M.Attached r) (hLacing : M.lacing = true) (hs : s.outside M = r) :
    (State.expandersLost s).outside M = r := by
  subst hs
  obtain ⟨l1, l2⟩ := hAttached
  simp only [State.expandersLost, State.outside, l1, hLacing, cond_true] at l2 ⊢
  rw [memForm_step (v := ([] : KMap Byte)) (fun e => by have := l2 e; rwa [e] at this) (fun _ => rfl)]

theorem State.expandersLost_keeps {s : State} : Kept83 s (State.expandersLost s) :=
  .of (State.expandersLost_outside (.free rfl rfl) rfl rfl)

theorem State.shutRun_outside {M : Touch} {r : State} {s : State} {thermal : Bool} (hPins : M.pins = true) (hDict : M.dict = true) (hNums : M.Nums Nums140) (hResults : M.results = true) (hLogs : M.logs = true) (hPower : M.power = true) (hPorts : M.ports = true) (hRxTiles : M.rxTiles = true) (hTxTiles : M.txTiles = true) (hSched : M.sched = true) (hStraps : M.straps = true) (hJournal : M.journal = true) (hQueues : M.queues = true) (hCores : M.cores = true) (hLocals : M.Locals r) (hEdges : M.edges = true) (hFlags : M.flags = true) (hReports : M.reports = true) (hs : s.outside M = r) :
    (State.shutRun s thermal).outside M = r := by
  unfold State.shutRun
  extract_lets +onlyGivenNames -merge -underBinder x0
  try clear_value x0
  extract_lets +onlyGivenNames -merge -underBinder x1
  have q2 : State.outside M x1 = r := by
    unfold x1
    refine State.each_outside ?_ ?_
    · intro t3 q4 z5
      refine State.portShut_outside hPins hDict (hNums.sub rfl) hResults hLogs hPorts hRxTiles hTxTiles hStraps hJournal hEdges hFlags ?_
      exact q4
    · exact hs
  try clear_value x1
  extract_lets +onlyGivenNames -merge -underBinder x6
  have q7 : State.outside M x6 = r := by
    unfold x6
    refine State.resEndIfBusy_outside hResults ?_
    exact q2
  try clear_value x6
  extract_lets +onlyGivenNames -merge -underBinder x8
  have q9 : State.outside M x8 = r := by
    unfold x8
    refine State.wr_outside (hNums.at Key.fam_pwrState rfl) ?_
    split
    · refine State.powerEndWork_outside (hNums.sub rfl) hPower hSched hQueues hCores hLocals hReports ?_
      exact q7
    · exact q7
  try clear_value x8
  extract_lets +onlyGivenNames -merge -underBinder x10
  try clear_value x10
  refine State.setPower_outside hPower ?_
  exact q9

theorem State.shutRun_keeps {s : State} {thermal : Bool} : Kept248 s (State.shutRun s thermal) :=
  .of (State.shutRun_outside rfl rfl rfl rfl rfl rfl rfl rfl rfl rfl rfl rfl rfl rfl (.free rfl rfl) rfl rfl rfl rfl)

theorem State.shutRun_rd {s : State} {thermal : Bool} {kk : Nat} (hkey : Nums140.contains (Key.fam kk) = false) : (State.shutRun s thermal).rd kk = s.rd kk :=
  State.rd_of_outside (M := .but Nums140) (State.shutRun_outside rfl rfl .self rfl rfl rfl rfl rfl rfl rfl rfl rfl rfl rfl (.free rfl rfl) rfl rfl rfl rfl) rfl hkey

theorem State.shutTrigger_outside {M : Touch} {r : State} {s : State} {thermal : Bool} (hPins : M.pins = true) (hDict : M.dict = true) (hNums : M.Nums Nums140) (hResults : M.results = true) (hLogs : M.logs = true) (hPower : M.power = true) (hPorts : M.ports = true) (hRxTiles : M.rxTiles = true) (hTxTiles : M.txTiles = true) (hSched : M.sched = true) (hStraps : M.straps = true) (hJournal : M.journal = true) (hQueues : M.queues = true) (hCores : M.cores = true) (hLocals : M.Locals r) (hEdges : M.edges = true) (hFlags : M.flags = true) (hReports : M.reports = true) (hs : s.outside M = r) :
    (State.shutTrigger s thermal).outside M = r := by
  unfold State.shutTrigger
  extract_lets +onlyGivenNames -merge -underBinder x0
  try clear_value x0
  refine ite_outside ?_ ?_
  · refine State.setPower_outside hPower ?_
    exact hs
  · refine ite_outside ?_ ?_
    · exact hs
    · split
      · refine State.shutRun_outside hPins hDict hNums hResults hLogs hPower hPorts hRxTiles hTxTiles hSched hStraps hJournal hQueues hCores hLocals hEdges hFlags hReports ?_
        exact hs
      · extract_lets +onlyGivenNames -merge -underBinder x1
        try clear_value x1
        refine ite_outside ?_ ?_
        · refine State.setPower_outside hPower ?_
          exact hs
        · exact hs

theorem State.shutTrigger_keeps {s : State} {thermal : Bool} : Kept248 s (State.shutTrigger s thermal) :=
  .of (State.shutTrigger_outside rfl rfl rfl rfl rfl rfl rfl rfl rfl rfl rfl rfl rfl rfl (.free rfl rfl) rfl rfl rfl rfl)

theorem State.shutTrigger_rd {s : State} {thermal : Bool} {kk : Nat} (hkey : Nums140.contains (Key.fam kk) = false) : (State.shutTrigger s thermal).rd kk = s.rd kk :=
  State.rd_of_outside (M := .but Nums140) (State.shutTrigger_outside rfl rfl .self rfl rfl rfl rfl rfl rfl rfl rfl rfl rfl rfl (.free rfl rfl) rfl rfl rfl rfl) rfl hkey

theorem State.runReached_outside {M : Touch} {r : State} {s : State} (hPins : M.pins = true) (hDict : M.dict = true) (hNums : M.Nums Nums140) (hResults : M.results = true) (hLogs : M.logs = true) (hPower : M.power = true) (hPorts : M.ports = true) (hRxTiles : M.rxTiles = true) (hTxTiles : M.txTiles = true) (hSched : M.sched = true) (hStraps : M.straps = true) (hJournal : M.journal = true) (hQueues : M.queues = true) (hCores : M.cores = true) (hLocals : M.Locals r) (hEdges : M.edges = true) (hFlags : M.flags = true) (hReports : M.reports = true) (hs : s.outside M = r) :
    (State.runReached s).outside M = r := by
  unfold State.runReached
  extract_lets +onlyGivenNames -merge -underBinder x0
  have q1 : State.outside M x0 = r := by
    unfold x0
    refine State.startPosts_outside hDict (hNums.sub rfl) hLogs hPower hStraps hJournal hEdges hFlags ?_
    exact hs
  try clear_value x0
  refine ite_outside ?_ ?_
  · refine State.shutTrigger_outside hPins hDict hNums hResults hLogs hPower hPorts hRxTiles hTxTiles hSched hStraps hJournal hQueues hCores hLocals hEdges hFlags hReports ?_
    exact q1
  · exact q1

theorem State.runReached_keeps {s : State} : Kept248 s (State.runReached s) :=
  .of (State.runReached_outside rfl rfl rfl rfl rfl rfl rfl rfl rfl rfl rfl rfl rfl rfl (.free rfl rfl) rfl rfl rfl rfl)

theorem State.runReached_rd {s : State} {kk : Nat} (hkey : Nums140.contains (Key.fam kk) = false) : (State.runReached s).rd kk = s.rd kk :=
  State.rd_of_outside (M := .but Nums140) (State.runReached_outside rfl rfl .self rfl rfl rfl rfl rfl rfl rfl rfl rfl rfl rfl (.free rfl rfl) rfl rfl rfl rfl) rfl hkey

theorem State.shutAbandon_outside {M : Touch} {r : State} {s : State} {d : Shutdown} (hPins : M.pins = true) (hDict : M.dict = true) (hNums : M.Nums Nums52) (hResults : M.results = true) (hLogs : M.logs = true) (hPower : M.power = true) (hPorts : M.ports = true) (hRxTiles : M.rxTiles = true) (hStraps : M.straps = true) (hJournal : M.journal = true) (hEdges : M.edges = true) (hFlags : M.flags = true) (hs : s.outside M = r) :
    (State.shutAbandon s d).outside M = r := by
  unfold State.shutAbandon
  extract_lets +onlyGivenNames -merge -underBinder x0
  try clear_value x0
  extract_lets +onlyGivenNames -merge -underBinder x1
  have q2 : State.outside M x1 = r := by
    unfold x1
    refine State.setPower_outside hPower ?_
    exact hs
  try clear_value x1
  extract_lets +onlyGivenNames -merge -underBinder x3
  have q4 : State.outside M x3 = r := by
    unfold x3
    refine ite_outside ?_ ?_
    · refine State.watchdogStart_outside hPower ?_
      refine State.coreIslandsSet_outside hPower ?_
      exact q2
    · exact q2
  try clear_value x3
  refine ite_outside ?_ ?_
  · refine State.raisePorts_outside hPins hDict hNums hResults hLogs hPorts hRxTiles hStraps hJournal hEdges hFlags ?_
    exact q4
  · exact q4

theorem State.shutAbandon_keeps {s : State} {d : Shutdown} : Kept141 s (State.shutAbandon s d) :=
  .of (State.shutAbandon_outside rfl rfl rfl rfl rfl rfl rfl rfl rfl rfl rfl rfl rfl)

theorem State.shutAbandon_rd {s : State} {d : Shutdown} {kk : Nat} (hkey : Nums52.contains (Key.fam kk) = false) : (State.shutAbandon s d).rd kk = s.rd kk :=
  State.rd_of_outside (M := .but Nums52) (State.shutAbandon_outside rfl rfl .self rfl rfl rfl rfl rfl rfl rfl rfl rfl rfl) rfl hkey

theorem State.shutStart_outside {M : Touch} {r : State} {s : State} {d : Shutdown} {bad : List (Fin 2048)} (hPins : M.pins = true) (hClock : M.clock = true) (hPulses : M.pulses = true) (hChain : M.chain = true) (hChainPorts : M.chainPorts = true) (hDict : M.dict = true) (hAny : M.anyNum = true) (hDoms : M.doms = true) (hResults : M.results = true) (hLogs : M.logs = true) (hPower : M.power = true) (hVbat : M.vbat = true) (hRadio : M.radio = true) (hPorts : M.ports = true) (hRxTiles : M.rxTiles = true) (hTxTiles : M.txTiles = true) (hGirth : M.girth = true) (hRecs : M.recs = true) (hSched : M.sched = true) (hCinch : M.cinch = true) (hKeeper : M.keeper = true) (hSb : M.sb = true) (hStraps : M.straps = true) (hJournal : M.journal = true) (hNodeQueues : M.nodeQueues = true) (hTables : M.tables = true) (hWindows : M.windows = true) (hHalter : M.halter = true) (hHar : M.har = true) (hQueues : M.queues = true) (hArrivals : M.arrivals = true) (hLacing : M.lacing = true) (hTree : M.tree = true) (hCurb : M.curb = true) (hConcho : M.concho = true) (hCores : M.cores = true) (hLocals : M.Locals r) (hBuckle : M.buckle = true) (hEdges : M.edges = true) (hHost : M.host = true) (hFlags : M.flags = true) (hReports : M.reports = true) (hs : s.outside M = r) :
    (State.shutStart s d bad).outside M = r := by
  unfold State.shutStart
  extract_lets +onlyGivenNames -merge -underBinder x0
  try clear_value x0
  extract_lets +onlyGivenNames -merge -underBinder x1
  have q2 : State.outside M x1 = r := by
    unfold x1
    refine State.setPower_outside hPower ?_
    exact hs
  try clear_value x1
  refine ite_outside ?_ ?_
  · refine State.coldBegin_outside hPins hClock hPulses hChain hChainPorts hDict hAny hDoms hResults hLogs hPower hVbat hRadio hPorts hRxTiles hTxTiles hGirth hRecs hSched hCinch hKeeper hSb hStraps hJournal hNodeQueues hTables hWindows hHalter hHar hQueues hArrivals hLacing hTree hCurb hConcho hCores hLocals hBuckle hEdges hHost hFlags hReports ?_
    exact q2
  · exact q2

theorem State.shutStart_keeps {s : State} {d : Shutdown} {bad : List (Fin 2048)} : Kept195 s (State.shutStart s d bad) :=
  .of (State.shutStart_outside rfl rfl rfl rfl rfl rfl rfl rfl rfl rfl rfl rfl rfl rfl rfl rfl rfl rfl rfl rfl rfl rfl rfl rfl rfl rfl rfl rfl rfl rfl rfl rfl rfl rfl rfl rfl (.free rfl rfl) rfl rfl rfl rfl rfl rfl)

theorem State.shutWork_outside {M : Touch} {r : State} {s : State} (hDraws : M.draws = true) (hOut : M.out = true) (hChainPorts : M.chainPorts = true) (hNums : M.Nums Nums147) (hPower : M.power = true) (hSb : M.sb = true) (hJournal : M.journal = true) (hAttached : M.Attached r) (hCores : M.cores = true) (hLocals : M.Locals r) (hs : s.outside M = r) :
    (State.shutWork s).outside M = r := by
  unfold State.shutWork
  extract_lets +onlyGivenNames -merge -underBinder x0
  have q1 : State.outside M x0 = r := by
    unfold x0
    refine ite_outside ?_ ?_
    · refine State.sbDrain_outside hDraws hOut hChainPorts (hNums.sub rfl) hSb hAttached ?_
      exact hs
    · exact hs
  try clear_value x0
  extract_lets +onlyGivenNames -merge -underBinder x2
  have q3 : State.outside M x2 = r := by
    unfold x2
    refine ite_outside ?_ ?_
    · refine State.journalHeader_outside hJournal hAttached ?_
      refine State.each_outside ?_ ?_
      · intro t4 q5 z6
        refine State.journalCommit_outside (hNums.sub rfl) hJournal hAttached ?_
        exact q5
      · exact q1
    · exact q1
  try clear_value x2
  refine State.coresStop_outside hPower hCores hLocals ?_
  exact q3

theorem State.shutWork_keeps {s : State} : Kept249 s (State.shutWork s) :=
  .of (State.shutWork_outside rfl rfl rfl rfl rfl rfl rfl (.free rfl rfl) rfl (.free rfl rfl) rfl)

theorem State.shutWork_rd {s : State} {kk : Nat} (hkey : Nums147.contains (Key.fam kk) = false) : (State.shutWork s).rd kk = s.rd kk :=
  State.rd_of_outside (M := .but Nums147) (State.shutWork_outside rfl rfl rfl .self rfl rfl rfl (.free rfl rfl) rfl (.free rfl rfl) rfl) rfl hkey

theorem State.transitionEnd_outside {M : Touch} {r : State} {s : State} {hop : Nat} (hOut : M.out = true) (hPins : M.pins = true) (hClock : M.clock = true) (hPulses : M.pulses = true) (hChain : M.chain = true) (hChainPorts : M.chainPorts = true) (hDict : M.dict = true) (hAny : M.anyNum = true) (hDoms : M.doms = true) (hResults : M.results = true) (hLogs : M.logs = true) (hPower : M.power = true) (hVbat : M.vbat = true) (hRadio : M.radio = true) (hPorts : M.ports = true) (hRxTiles : M.rxTiles = true) (hTxTiles : M.txTiles = true) (hGirth : M.girth = true) (hRecs : M.recs = true) (hSched : M.sched = true) (hCinch : M.cinch = true) (hKeeper : M.keeper = true) (hSb : M.sb = true) (hStraps : M.straps = true) (hJournal : M.journal = true) (hAttached : M.Attached r) (hNodeQueues : M.nodeQueues = true) (hTables : M.tables = true) (hWindows : M.windows = true) (hHalter : M.halter = true) (hHar : M.har = true) (hQueues : M.queues = true) (hArrivals : M.arrivals = true) (hLacing : M.lacing = true) (hTree : M.tree = true) (hCurb : M.curb = true) (hConcho : M.concho = true) (hCores : M.cores = true) (hLocals : M.Locals r) (hBuckle : M.buckle = true) (hEdges : M.edges = true) (hHost : M.host = true) (hFlags : M.flags = true) (hReports : M.reports = true) (hs : s.outside M = r) :
    (State.transitionEnd s hop).outside M = r := by
  unfold State.transitionEnd
  extract_lets +onlyGivenNames -merge -underBinder x0
  try clear_value x0
  extract_lets +onlyGivenNames -merge -underBinder x1
  have q2 : State.outside M x1 = r := by
    unfold x1
    refine State.powerArrive_outside hPins hDict (.any hAny) hResults hLogs hPower hPorts hRxTiles hStraps hJournal hEdges hFlags ?_
    refine State.powerEndWork_outside (.any hAny) hPower hSched hQueues hCores hLocals hReports ?_
    exact hs
  try clear_value x1
  refine ite_outside ?_ ?_
  · refine State.runReached_outside hPins hDict (.any hAny) hResults hLogs hPower hPorts hRxTiles hTxTiles hSched hStraps hJournal hQueues hCores hLocals hEdges hFlags hReports ?_
    exact q2
  · refine ite_outside ?_ ?_
    · refine State.serveWaiting_outside hOut hPins hClock hPulses hChain hChainPorts hDict hAny hDoms hResults hLogs hPower hVbat hRadio hPorts hRxTiles hTxTiles hGirth hRecs hSched hCinch hKeeper hSb hStraps hJournal hAttached hNodeQueues hTables hWindows hHalter hHar hQueues hArrivals hLacing hTree hCurb hConcho hCores hLocals hBuckle hEdges hHost hFlags hReports ?_
      exact q2
    · exact q2

theorem State.transitionEnd_keeps {s : State} {hop : Nat} : Kept226 s (State.transitionEnd s hop) :=
  .of (State.transitionEnd_outside rfl rfl rfl rfl rfl rfl rfl rfl rfl rfl rfl rfl rfl rfl rfl rfl rfl rfl rfl rfl rfl rfl rfl rfl rfl (.free rfl rfl) rfl rfl rfl rfl rfl rfl rfl rfl rfl rfl rfl rfl (.free rfl rfl) rfl rfl rfl rfl rfl rfl)

theorem execVbatSupplyRise_outside {M : Touch} {r : State} {s : State} (hNums : M.Nums Nums152) (hVbat : M.vbat = true) (hs : s.outside M = r) :
    NextOutside M r (execVbatSupplyRise s) := by
  unfold execVbatSupplyRise
  refine next_outside ?_
  refine ite_outside ?_ ?_
  · exact hs
  · refine State.wr_outside (hNums.at Key.fam_pwrState rfl) ?_
    refine Eq.trans (State.outside_vbat (h0 := hVbat) ..) ?_
    exact hs

theorem execPwrDwellEnd_outside {M : Touch} {r : State} {dt : Nat} {s : State} (hPins : M.pins = true) (hClock : M.clock = true) (hDict : M.dict = true) (hNums : M.Nums Nums52) (hResults : M.results = true) (hLogs : M.logs = true) (hPower : M.power = true) (hVbat : M.vbat = true) (hPorts : M.ports = true) (hRxTiles : M.rxTiles = true) (hStraps : M.straps = true) (hJournal : M.journal = true) (hEdges : M.edges = true) (hFlags : M.flags = true) (hs : s.outside M = r) :
    NextOutside M r (execPwrDwellEnd dt s) := by
  unfold execPwrDwellEnd
  extract_lets +onlyGivenNames -merge -underBinder x0
  have q1 : State.outside M x0 = r := by
    unfold x0
    refine State.advance_outside hClock hVbat ?_
    exact hs
  try clear_value x0
  refine next_outside ?_
  split
  · exact q1
  · refine ite_outside ?_ ?_
    · exact q1
    · refine ite_outside ?_ ?_
      · refine State.powerReached_outside hResults hPower ?_
        exact q1
      · refine State.powerStart_outside hPins hDict hNums hResults hLogs hPower hPorts hRxTiles hStraps hJournal hEdges hFlags ?_
        exact q1

theorem execOffTimeEnd_outside {M : Touch} {r : State} {bad : List (Fin 2048)} {dt : Nat} {s : State} (hPins : M.pins = true) (hClock : M.clock = true) (hPulses : M.pulses = true) (hChain : M.chain = true) (hChainPorts : M.chainPorts = true) (hDict : M.dict = true) (hAny : M.anyNum = true) (hDoms : M.doms = true) (hResults : M.results = true) (hLogs : M.logs = true) (hPower : M.power = true) (hVbat : M.vbat = true) (hRadio : M.radio = true) (hPorts : M.ports = true) (hRxTiles : M.rxTiles = true) (hTxTiles : M.txTiles = true) (hGirth : M.girth = true) (hRecs : M.recs = true) (hSched : M.sched = true) (hCinch : M.cinch = true) (hKeeper : M.keeper = true) (hSb : M.sb = true) (hStraps : M.straps = true) (hJournal : M.journal = true) (hNodeQueues : M.nodeQueues = true) (hTables : M.tables = true) (hWindows : M.windows = true) (hHalter : M.halter = true) (hHar : M.har = true) (hQueues : M.queues = true) (hArrivals : M.arrivals = true) (hLacing : M.lacing = true) (hTree : M.tree = true) (hCurb : M.curb = true) (hConcho : M.concho = true) (hCores : M.cores = true) (hLocals : M.Locals r) (hBuckle : M.buckle = true) (hEdges : M.edges = true) (hHost : M.host = true) (hFlags : M.flags = true) (hReports : M.reports = true) (hs : s.outside M = r) :
    NextOutside M r (execOffTimeEnd bad dt s) := by
  unfold execOffTimeEnd
  extract_lets +onlyGivenNames -merge -underBinder x0
  have q1 : State.outside M x0 = r := by
    unfold x0
    refine State.advance_outside hClock hVbat ?_
    exact hs
  try clear_value x0
  refine next_outside ?_
  split
  · exact q1
  · refine ite_outside ?_ ?_
    · refine State.shutStart_outside hPins hClock hPulses hChain hChainPorts hDict hAny hDoms hResults hLogs hPower hVbat hRadio hPorts hRxTiles hTxTiles hGirth hRecs hSched hCinch hKeeper hSb hStraps hJournal hNodeQueues hTables hWindows hHalter hHar hQueues hArrivals hLacing hTree hCurb hConcho hCores hLocals hBuckle hEdges hHost hFlags hReports ?_
      exact q1
    · exact q1

theorem execPwrTransitionDone_outside {M : Touch} {r : State} {dt : Nat} {s : State} (hDraws : M.draws = true) (hOut : M.out = true) (hPins : M.pins = true) (hClock : M.clock = true) (hPulses : M.pulses = true) (hChain : M.chain = true) (hChainPorts : M.chainPorts = true) (hDict : M.dict = true) (hAny : M.anyNum = true) (hDoms : M.doms = true) (hResults : M.results = true) (hLogs : M.logs = true) (hPower : M.power = true) (hVbat : M.vbat = true) (hRadio : M.radio = true) (hPorts : M.ports = true) (hRxTiles : M.rxTiles = true) (hTxTiles : M.txTiles = true) (hGirth : M.girth = true) (hRecs : M.recs = true) (hSched : M.sched = true) (hCinch : M.cinch = true) (hKeeper : M.keeper = true) (hSb : M.sb = true) (hStraps : M.straps = true) (hJournal : M.journal = true) (hAttached : M.Attached r) (hNodeQueues : M.nodeQueues = true) (hTables : M.tables = true) (hWindows : M.windows = true) (hHalter : M.halter = true) (hHar : M.har = true) (hQueues : M.queues = true) (hArrivals : M.arrivals = true) (hLacing : M.lacing = true) (hTree : M.tree = true) (hCurb : M.curb = true) (hConcho : M.concho = true) (hCores : M.cores = true) (hLocals : M.Locals r) (hBuckle : M.buckle = true) (hEdges : M.edges = true) (hHost : M.host = true) (hFlags : M.flags = true) (hReports : M.reports = true) (hs : s.outside M = r) :
    NextOutside M r (execPwrTransitionDone dt s) := by
  unfold execPwrTransitionDone
  extract_lets +onlyGivenNames -merge -underBinder x0
  have q1 : State.outside M x0 = r := by
    unfold x0
    refine State.advance_outside hClock hVbat ?_
    exact hs
  try clear_value x0
  refine next_outside ?_
  refine ite_outside ?_ ?_
  · refine ite_outside ?_ ?_
    · refine State.startDone_outside hDraws hOut hPins hDict (.any hAny) hResults hLogs hPower hVbat hPorts hRxTiles hTxTiles hSched hStraps hJournal hTree hConcho hEdges hHost hFlags ?_
      exact q1
    · exact q1
  · split
    · exact q1
    · refine ite_outside ?_ ?_
      · refine State.transitionEnd_outside hOut hPins hClock hPulses hChain hChainPorts hDict hAny hDoms hResults hLogs hPower hVbat hRadio hPorts hRxTiles hTxTiles hGirth hRecs hSched hCinch hKeeper hSb hStraps hJournal hAttached hNodeQueues hTables hWindows hHalter hHar hQueues hArrivals hLacing hTree hCurb hConcho hCores hLocals hBuckle hEdges hHost hFlags hReports ?_
        exact q1
      · exact q1

theorem execWatchdogRefresh_outside {M : Touch} {r : State} {s : State} (hPower : M.power = true) (hs : s.outside M = r) :
    NextOutside M r (execWatchdogRefresh s) := by
  unfold execWatchdogRefresh
  refine next_outside ?_
  refine State.watchdogStart_outside hPower ?_
  exact hs

theorem execColdStart_outside {M : Touch} {r : State} {ev : ColdEvent} {kept : Bool} {bad : List (Fin 2048)} {dt : Nat} {s : State} (hPins : M.pins = true) (hClock : M.clock = true) (hPulses : M.pulses = true) (hChain : M.chain = true) (hChainPorts : M.chainPorts = true) (hDict : M.dict = true) (hAny : M.anyNum = true) (hDoms : M.doms = true) (hResults : M.results = true) (hLogs : M.logs = true) (hPower : M.power = true) (hVbat : M.vbat = true) (hRadio : M.radio = true) (hPorts : M.ports = true) (hRxTiles : M.rxTiles = true) (hTxTiles : M.txTiles = true) (hGirth : M.girth = true) (hRecs : M.recs = true) (hSched : M.sched = true) (hCinch : M.cinch = true) (hKeeper : M.keeper = true) (hSb : M.sb = true) (hStraps : M.straps = true) (hJournal : M.journal = true) (hAttached : M.Attached r) (hNodeQueues : M.nodeQueues = true) (hTables : M.tables = true) (hWindows : M.windows = true) (hHalter : M.halter = true) (hHar : M.har = true) (hQueues : M.queues = true) (hArrivals : M.arrivals = true) (hLacing : M.lacing = true) (hTree : M.tree = true) (hCurb : M.curb = true) (hConcho : M.concho = true) (hCores : M.cores = true) (hLocals : M.Locals r) (hBuckle : M.buckle = true) (hEdges : M.edges = true) (hHost : M.host = true) (hFlags : M.flags = true) (hReports : M.reports = true) (hs : s.outside M = r) :
    NextOutside M r (execColdStart ev kept bad dt s) := by
  unfold execColdStart
  extract_lets +onlyGivenNames -merge -underBinder x0
  have q1 : State.outside M x0 = r := by
    unfold x0
    refine State.advance_outside hClock hVbat ?_
    exact hs
  try clear_value x0
  extract_lets +onlyGivenNames -merge -underBinder x2
  try clear_value x2
  extract_lets +onlyGivenNames -merge -underBinder x3
  have q4 : State.outside M x3 = r := by
    unfold x3
    split
    · extract_lets +onlyGivenNames -merge -underBinder x5
      try clear_value x5
      extract_lets +onlyGivenNames -merge -underBinder x6
      have q7 : State.outside M x6 = r := by
        unfold x6
        refine State.setPower_outside hPower ?_
        exact q1
      try clear_value x6
      extract_lets +onlyGivenNames -merge -underBinder x8
      have q9 : State.outside M x8 = r := by
        unfold x8
        refine ite_outside ?_ ?_
        · refine State.wr_outside (.any hAny) ?_
          refine Eq.trans (State.outside_vbat (h0 := hVbat) ..) ?_
          exact q7
        · exact q7
      try clear_value x8
      refine ite_outside ?_ ?_
      · exact q1
      · refine ite_outside ?_ ?_
        · exact q9
        · refine State.expandersLost_outside hAttached hLacing ?_
          exact q9
    · extract_lets +onlyGivenNames -merge -underBinder x10
      try clear_value x10
      refine Eq.trans (State.outside_pins (h0 := hPins) ..) ?_
      exact q1
  try clear_value x3
  refine next_outside ?_
  refine ite_outside ?_ ?_
  · exact q1
  · refine ite_outside ?_ ?_
    · exact q4
    · refine ite_outside ?_ ?_
      · refine State.coldBegin_outside hPins hClock hPulses hChain hChainPorts hDict hAny hDoms hResults hLogs hPower hVbat hRadio hPorts hRxTiles hTxTiles hGirth hRecs hSched hCinch hKeeper hSb hStraps hJournal hNodeQueues hTables hWindows hHalter hHar hQueues hArrivals hLacing hTree hCurb hConcho hCores hLocals hBuckle hEdges hHost hFlags hReports ?_
        exact q4
      · split
        · extract_lets +onlyGivenNames -merge -underBinder x11
          try clear_value x11
          refine State.setPower_outside hPower ?_
          exact q4
        · exact q4

theorem execThermalCool_outside {M : Touch} {r : State} {bad : List (Fin 2048)} {s : State} (hPins : M.pins = true) (hClock : M.clock = true) (hPulses : M.pulses = true) (hChain : M.chain = true) (hChainPorts : M.chainPorts = true) (hDict : M.dict = true) (hAny : M.anyNum = true) (hDoms : M.doms = true) (hResults : M.results = true) (hLogs : M.logs = true) (hPower : M.power = true) (hVbat : M.vbat = true) (hRadio : M.radio = true) (hPorts : M.ports = true) (hRxTiles : M.rxTiles = true) (hTxTiles : M.txTiles = true) (hGirth : M.girth = true) (hRecs : M.recs = true) (hSched : M.sched = true) (hCinch : M.cinch = true) (hKeeper : M.keeper = true) (hSb : M.sb = true) (hStraps : M.straps = true) (hJournal : M.journal = true) (hNodeQueues : M.nodeQueues = true) (hTables : M.tables = true) (hWindows : M.windows = true) (hHalter : M.halter = true) (hHar : M.har = true) (hQueues : M.queues = true) (hArrivals : M.arrivals = true) (hLacing : M.lacing = true) (hTree : M.tree = true) (hCurb : M.curb = true) (hConcho : M.concho = true) (hCores : M.cores = true) (hLocals : M.Locals r) (hBuckle : M.buckle = true) (hEdges : M.edges = true) (hHost : M.host = true) (hFlags : M.flags = true) (hReports : M.reports = true) (hs : s.outside M = r) :
    NextOutside M r (execThermalCool bad s) := by
  unfold execThermalCool
  refine next_outside ?_
  split
  · exact hs
  · refine ite_outside ?_ ?_
    · refine State.shutStart_outside hPins hClock hPulses hChain hChainPorts hDict hAny hDoms hResults hLogs hPower hVbat hRadio hPorts hRxTiles hTxTiles hGirth hRecs hSched hCinch hKeeper hSb hStraps hJournal hNodeQueues hTables hWindows hHalter hHar hQueues hArrivals hLacing hTree hCurb hConcho hCores hLocals hBuckle hEdges hHost hFlags hReports ?_
      exact hs
    · exact hs

theorem execStandbyWake_outside {M : Touch} {r : State} {card : Bool} {s : State} (hPins : M.pins = true) (hDict : M.dict = true) (hNums : M.Nums Nums52) (hResults : M.results = true) (hLogs : M.logs = true) (hPower : M.power = true) (hPorts : M.ports = true) (hRxTiles : M.rxTiles = true) (hStraps : M.straps = true) (hJournal : M.journal = true) (hConcho : M.concho = true) (hEdges : M.edges = true) (hFlags : M.flags = true) (hs : s.outside M = r) :
    NextOutside M r (execStandbyWake card s) := by
  unfold execStandbyWake
  extract_lets +onlyGivenNames -merge -underBinder x0
  try clear_value x0
  refine next_outside ?_
  refine ite_outside ?_ ?_
  · exact hs
  · refine ite_outside ?_ ?_
    · refine ite_outside ?_ ?_
      · refine State.wake_outside hPins hDict hNums hResults hLogs hPower hPorts hRxTiles hStraps hJournal hEdges hFlags ?_
        refine Eq.trans (State.outside_concho (h0 := hConcho) ..) ?_
        exact hs
      · exact hs
    · refine State.wake_outside hPins hDict hNums hResults hLogs hPower hPorts hRxTiles hStraps hJournal hEdges hFlags ?_
      exact hs

theorem execResetNLow_outside {M : Touch} {r : State} {s : State} (hPins : M.pins = true) (hPulses : M.pulses = true) (hChain : M.chain = true) (hChainPorts : M.chainPorts = true) (hDict : M.dict = true) (hAny : M.anyNum = true) (hDoms : M.doms = true) (hResults : M.results = true) (hLogs : M.logs = true) (hPower : M.power = true) (hRadio : M.radio = true) (hPorts : M.ports = true) (hRxTiles : M.rxTiles = true) (hTxTiles : M.txTiles = true) (hGirth : M.girth = true) (hRecs : M.recs = true) (hSched : M.sched = true) (hCinch : M.cinch = true) (hKeeper : M.keeper = true) (hSb : M.sb = true) (hStraps : M.straps = true) (hJournal : M.journal = true) (hNodeQueues : M.nodeQueues = true) (hTables : M.tables = true) (hWindows : M.windows = true) (hHalter : M.halter = true) (hHar : M.har = true) (hQueues : M.queues = true) (hArrivals : M.arrivals = true) (hLacing : M.lacing = true) (hCurb : M.curb = true) (hConcho : M.concho = true) (hCores : M.cores = true) (hLocals : M.Locals r) (hBuckle : M.buckle = true) (hEdges : M.edges = true) (hHost : M.host = true) (hFlags : M.flags = true) (hReports : M.reports = true) (hs : s.outside M = r) :
    NextOutside M r (execResetNLow s) := by
  unfold execResetNLow
  extract_lets +onlyGivenNames -merge -underBinder x0
  try clear_value x0
  extract_lets +onlyGivenNames -merge -underBinder x1
  try clear_value x1
  extract_lets +onlyGivenNames -merge -underBinder x2
  have q3 : State.outside M x2 = r := by
    unfold x2
    refine Eq.trans (State.outside_pins (h0 := hPins) ..) ?_
    exact hs
  try clear_value x2
  extract_lets +onlyGivenNames -merge -underBinder x4
  try clear_value x4
  refine next_outside ?_
  refine ite_outside ?_ ?_
  · exact q3
  · refine State.wr_outside (.any hAny) ?_
    refine State.mainDown_outside hPins hPulses hChain hChainPorts hDict hAny hDoms hResults hLogs hPower hRadio hPorts hRxTiles hTxTiles hGirth hRecs hSched hCinch hKeeper hSb hStraps hJournal hNodeQueues hTables hWindows hHalter hHar hQueues hArrivals hLacing hCurb hConcho hCores hLocals hBuckle hEdges hHost hFlags hReports ?_
    refine State.setPower_outside hPower ?_
    exact q3

theorem execVbatLost_outside {M : Touch} {r : State} {s : State} (hPins : M.pins = true) (hNums : M.Nums Nums152) (hVbat : M.vbat = true) (hs : s.outside M = r) :
    NextOutside M r (execVbatLost s) := by
  unfold execVbatLost
  extract_lets +onlyGivenNames -merge -underBinder x0
  try clear_value x0
  extract_lets +onlyGivenNames -merge -underBinder x1
  try clear_value x1
  refine next_outside ?_
  refine ite_outside ?_ ?_
  · exact hs
  · refine State.wr_outside (hNums.at Key.fam_pwrState rfl) ?_
    rw [← hs]; simp only [State.outside, hPins, hVbat, cond_true]

theorem execSupplyReturn_outside {M : Touch} {r : State} {bad : List (Fin 2048)} {s : State} (hPins : M.pins = true) (hClock : M.clock = true) (hPulses : M.pulses = true) (hChain : M.chain = true) (hChainPorts : M.chainPorts = true) (hDict : M.dict = true) (hAny : M.anyNum = true) (hDoms : M.doms = true) (hResults : M.results = true) (hLogs : M.logs = true) (hPower : M.power = true) (hVbat : M.vbat = true) (hRadio : M.radio = true) (hPorts : M.ports = true) (hRxTiles : M.rxTiles = true) (hTxTiles : M.txTiles = true) (hGirth : M.girth = true) (hRecs : M.recs = true) (hSched : M.sched = true) (hCinch : M.cinch = true) (hKeeper : M.keeper = true) (hSb : M.sb = true) (hStraps : M.straps = true) (hJournal : M.journal = true) (hNodeQueues : M.nodeQueues = true) (hTables : M.tables = true) (hWindows : M.windows = true) (hHalter : M.halter = true) (hHar : M.har = true) (hQueues : M.queues = true) (hArrivals : M.arrivals = true) (hLacing : M.lacing = true) (hTree : M.tree = true) (hCurb : M.curb = true) (hConcho : M.concho = true) (hCores : M.cores = true) (hLocals : M.Locals r) (hBuckle : M.buckle = true) (hEdges : M.edges = true) (hHost : M.host = true) (hFlags : M.flags = true) (hReports : M.reports = true) (hs : s.outside M = r) :
    NextOutside M r (execSupplyReturn bad s) := by
  unfold execSupplyReturn
  extract_lets +onlyGivenNames -merge -underBinder x0
  try clear_value x0
  extract_lets +onlyGivenNames -merge -underBinder x1
  have q2 : State.outside M x1 = r := by
    unfold x1
    refine Eq.trans (State.outside_pins (h0 := hPins) ..) ?_
    exact hs
  try clear_value x1
  refine next_outside ?_
  split
  · extract_lets +onlyGivenNames -merge -underBinder x3
    try clear_value x3
    refine State.setPower_outside hPower ?_
    exact q2
  · split
    · refine ite_outside ?_ ?_
      · exact q2
      · refine State.shutAbandon_outside hPins hDict (.any hAny) hResults hLogs hPower hPorts hRxTiles hStraps hJournal hEdges hFlags ?_
        exact q2
    · refine State.shutStart_outside hPins hClock hPulses hChain hChainPorts hDict hAny hDoms hResults hLogs hPower hVbat hRadio hPorts hRxTiles hTxTiles hGirth hRecs hSched hCinch hKeeper hSb hStraps hJournal hNodeQueues hTables hWindows hHalter hHar hQueues hArrivals hLacing hTree hCurb hConcho hCores hLocals hBuckle hEdges hHost hFlags hReports ?_
      exact q2

theorem execShutdownTrigger_outside {M : Touch} {r : State} {pin : Bool} {s : State} (hPins : M.pins = true) (hDict : M.dict = true) (hNums : M.Nums Nums140) (hResults : M.results = true) (hLogs : M.logs = true) (hPower : M.power = true) (hPorts : M.ports = true) (hRxTiles : M.rxTiles = true) (hTxTiles : M.txTiles = true) (hSched : M.sched = true) (hStraps : M.straps = true) (hJournal : M.journal = true) (hQueues : M.queues = true) (hCores : M.cores = true) (hLocals : M.Locals r) (hEdges : M.edges = true) (hFlags : M.flags = true) (hReports : M.reports = true) (hs : s.outside M = r) :
    NextOutside M r (execShutdownTrigger pin s) := by
  unfold execShutdownTrigger
  extract_lets +onlyGivenNames -merge -underBinder x0
  try clear_value x0
  extract_lets +onlyGivenNames -merge -underBinder x1
  have q2 : State.outside M x1 = r := by
    unfold x1
    refine ite_outside ?_ ?_
    · refine Eq.trans (State.outside_pins (h0 := hPins) ..) ?_
      exact hs
    · exact hs
  try clear_value x1
  refine next_outside ?_
  refine State.shutTrigger_outside hPins hDict hNums hResults hLogs hPower hPorts hRxTiles hTxTiles hSched hStraps hJournal hQueues hCores hLocals hEdges hFlags hReports ?_
  exact q2

theorem execLossOfPower_outside {M : Touch} {r : State} {s : State} (hPins : M.pins = true) (hPulses : M.pulses = true) (hChain : M.chain = true) (hChainPorts : M.chainPorts = true) (hDict : M.dict = true) (hAny : M.anyNum = true) (hDoms : M.doms = true) (hResults : M.results = true) (hLogs : M.logs = true) (hPower : M.power = true) (hRadio : M.radio = true) (hPorts : M.ports = true) (hRxTiles : M.rxTiles = true) (hTxTiles : M.txTiles = true) (hGirth : M.girth = true) (hRecs : M.recs = true) (hSched : M.sched = true) (hCinch : M.cinch = true) (hKeeper : M.keeper = true) (hSb : M.sb = true) (hStraps : M.straps = true) (hJournal : M.journal = true) (hNodeQueues : M.nodeQueues = true) (hTables : M.tables = true) (hWindows : M.windows = true) (hHalter : M.halter = true) (hHar : M.har = true) (hQueues : M.queues = true) (hArrivals : M.arrivals = true) (hLacing : M.lacing = true) (hCurb : M.curb = true) (hConcho : M.concho = true) (hCores : M.cores = true) (hLocals : M.Locals r) (hBuckle : M.buckle = true) (hEdges : M.edges = true) (hHost : M.host = true) (hFlags : M.flags = true) (hReports : M.reports = true) (hs : s.outside M = r) :
    NextOutside M r (execLossOfPower s) := by
  unfold execLossOfPower
  extract_lets +onlyGivenNames -merge -underBinder x0
  try clear_value x0
  extract_lets +onlyGivenNames -merge -underBinder x1
  have q2 : State.outside M x1 = r := by
    unfold x1
    refine State.setPower_outside hPower ?_
    exact hs
  try clear_value x1
  refine next_outside ?_
  split
  · extract_lets +onlyGivenNames -merge -underBinder x3
    try clear_value x3
    refine ite_outside ?_ ?_
    · exact q2
    · refine State.wr_outside (.any hAny) ?_
      refine State.mainDown_outside hPins hPulses hChain hChainPorts hDict hAny hDoms hResults hLogs hPower hRadio hPorts hRxTiles hTxTiles hGirth hRecs hSched hCinch hKeeper hSb hStraps hJournal hNodeQueues hTables hWindows hHalter hHar hQueues hArrivals hLacing hCurb hConcho hCores hLocals hBuckle hEdges hHost hFlags hReports ?_
      refine State.setPower_outside hPower ?_
      exact q2
  · extract_lets +onlyGivenNames -merge -underBinder x4
    try clear_value x4
    extract_lets +onlyGivenNames -merge -underBinder x5
    try clear_value x5
    refine ite_outside ?_ ?_
    · refine State.wr_outside (.any hAny) ?_
      refine State.mainDown_outside hPins hPulses hChain hChainPorts hDict hAny hDoms hResults hLogs hPower hRadio hPorts hRxTiles hTxTiles hGirth hRecs hSched hCinch hKeeper hSb hStraps hJournal hNodeQueues hTables hWindows hHalter hHar hQueues hArrivals hLacing hCurb hConcho hCores hLocals hBuckle hEdges hHost hFlags hReports ?_
      refine State.setPower_outside hPower ?_
      exact q2
    · exact q2

theorem execThermalTrip_outside {M : Touch} {r : State} {s : State} (hPins : M.pins = true) (hDict : M.dict = true) (hNums : M.Nums Nums140) (hResults : M.results = true) (hLogs : M.logs = true) (hPower : M.power = true) (hPorts : M.ports = true) (hRxTiles : M.rxTiles = true) (hTxTiles : M.txTiles = true) (hSched : M.sched = true) (hStraps : M.straps = true) (hJournal : M.journal = true) (hQueues : M.queues = true) (hCores : M.cores = true) (hLocals : M.Locals r) (hEdges : M.edges = true) (hFlags : M.flags = true) (hReports : M.reports = true) (hs : s.outside M = r) :
    NextOutside M r (execThermalTrip s) := by
  unfold execThermalTrip
  extract_lets +onlyGivenNames -merge -underBinder x0
  try clear_value x0
  refine next_outside ?_
  refine ite_outside ?_ ?_
  · refine State.shutTrigger_outside hPins hDict hNums hResults hLogs hPower hPorts hRxTiles hTxTiles hSched hStraps hJournal hQueues hCores hLocals hEdges hFlags hReports ?_
    refine State.setPower_outside hPower ?_
    exact hs
  · exact hs

theorem execRetentionCommit_outside {M : Touch} {r : State} {dt : Nat} {s : State} (hDraws : M.draws = true) (hOut : M.out = true) (hPins : M.pins = true) (hClock : M.clock = true) (hPulses : M.pulses = true) (hChain : M.chain = true) (hChainPorts : M.chainPorts = true) (hDict : M.dict = true) (hAny : M.anyNum = true) (hDoms : M.doms = true) (hResults : M.results = true) (hLogs : M.logs = true) (hPower : M.power = true) (hVbat : M.vbat = true) (hRadio : M.radio = true) (hPorts : M.ports = true) (hRxTiles : M.rxTiles = true) (hTxTiles : M.txTiles = true) (hGirth : M.girth = true) (hRecs : M.recs = true) (hSched : M.sched = true) (hCinch : M.cinch = true) (hKeeper : M.keeper = true) (hSb : M.sb = true) (hStraps : M.straps = true) (hJournal : M.journal = true) (hAttached : M.Attached r) (hNodeQueues : M.nodeQueues = true) (hTables : M.tables = true) (hWindows : M.windows = true) (hHalter : M.halter = true) (hHar : M.har = true) (hQueues : M.queues = true) (hArrivals : M.arrivals = true) (hLacing : M.lacing = true) (hCurb : M.curb = true) (hConcho : M.concho = true) (hCores : M.cores = true) (hLocals : M.Locals r) (hBuckle : M.buckle = true) (hEdges : M.edges = true) (hHost : M.host = true) (hFlags : M.flags = true) (hReports : M.reports = true) (hs : s.outside M = r) :
    NextOutside M r (execRetentionCommit dt s) := by
  unfold execRetentionCommit
  extract_lets +onlyGivenNames -merge -underBinder x0
  have q1 : State.outside M x0 = r := by
    unfold x0
    refine State.advance_outside hClock hVbat ?_
    exact hs
  try clear_value x0
  refine next_outside ?_
  split
  · exact q1
  · extract_lets +onlyGivenNames -merge -underBinder x2
    have q3 : State.outside M x2 = r := by
      unfold x2
      refine State.shutWork_outside hDraws hOut hChainPorts (.any hAny) hPower hSb hJournal hAttached hCores hLocals ?_
      exact q1
    try clear_value x2
    extract_lets +onlyGivenNames -merge -underBinder x4
    try clear_value x4
    extract_lets +onlyGivenNames -merge -underBinder x5
    have q6 : State.outside M x5 = r := by
      unfold x5
      refine Eq.trans (State.outside_vbat (h0 := hVbat) ..) ?_
      exact q3
    try clear_value x5
    extract_lets +onlyGivenNames -merge -underBinder x7
    try clear_value x7
    extract_lets +onlyGivenNames -merge -underBinder x8
    have q9 : State.outside M x8 = r := by
      unfold x8
      refine State.setPower_outside hPower ?_
      exact q6
    try clear_value x8
    refine ite_outside ?_ ?_
    · exact q1
    · refine State.wr_outside (.any hAny) ?_
      refine State.mainDown_outside hPins hPulses hChain hChainPorts hDict hAny hDoms hResults hLogs hPower hRadio hPorts hRxTiles hTxTiles hGirth hRecs hSched hCinch hKeeper hSb hStraps hJournal hNodeQueues hTables hWindows hHalter hHar hQueues hArrivals hLacing hCurb hConcho hCores hLocals hBuckle hEdges hHost hFlags hReports ?_
      exact q9

theorem execWatchdogExpiry_outside {M : Touch} {r : State} {dt : Nat} {s : State} (hOut : M.out = true) (hPins : M.pins = true) (hClock : M.clock = true) (hPulses : M.pulses = true) (hChain : M.chain = true) (hChainPorts : M.chainPorts = true) (hDict : M.dict = true) (hAny : M.anyNum = true) (hDoms : M.doms = true) (hResults : M.results = true) (hLogs : M.logs = true) (hPower : M.power = true) (hVbat : M.vbat = true) (hRadio : M.radio = true) (hPorts : M.ports = true) (hRxTiles : M.rxTiles = true) (hTxTiles : M.txTiles = true) (hGirth : M.girth = true) (hRecs : M.recs = true) (hSched : M.sched = true) (hCinch : M.cinch = true) (hKeeper : M.keeper = true) (hSb : M.sb = true) (hStraps : M.straps = true) (hJournal : M.journal = true) (hNodeQueues : M.nodeQueues = true) (hTables : M.tables = true) (hWindows : M.windows = true) (hHalter : M.halter = true) (hHar : M.har = true) (hQueues : M.queues = true) (hArrivals : M.arrivals = true) (hLacing : M.lacing = true) (hTree : M.tree = true) (hCurb : M.curb = true) (hConcho : M.concho = true) (hCores : M.cores = true) (hBuckle : M.buckle = true) (hEdges : M.edges = true) (hHost : M.host = true) (hFlags : M.flags = true) (hReports : M.reports = true) (hs : s.outside M = r) :
    NextOutside M r (execWatchdogExpiry dt s) := by
  unfold execWatchdogExpiry
  extract_lets +onlyGivenNames -merge -underBinder x0
  have q1 : State.outside M x0 = r := by
    unfold x0
    refine State.advance_outside hClock hVbat ?_
    exact hs
  try clear_value x0
  refine next_outside ?_
  refine ite_outside ?_ ?_
  · refine State.ownReset_outside hOut hPins hPulses hChain hChainPorts hDict hAny hDoms hResults hLogs hPower hVbat hRadio hPorts hRxTiles hTxTiles hGirth hRecs hSched hCinch hKeeper hSb hStraps hJournal hNodeQueues hTables hWindows hHalter hHar hQueues hArrivals hLacing hTree hCurb hConcho hCores hBuckle hEdges hHost hFlags hReports ?_
    exact q1
  · exact q1

theorem execWarmReset_outside {M : Touch} {r : State} {cause : Fin 4} {s : State} (hOut : M.out = true) (hPins : M.pins = true) (hPulses : M.pulses = true) (hChain : M.chain = true) (hChainPorts : M.chainPorts = true) (hDict : M.dict = true) (hAny : M.anyNum = true) (hDoms : M.doms = true) (hResults : M.results = true) (hLogs : M.logs = true) (hPower : M.power = true) (hVbat : M.vbat = true) (hRadio : M.radio = true) (hPorts : M.ports = true) (hRxTiles : M.rxTiles = true) (hTxTiles : M.txTiles = true) (hGirth : M.girth = true) (hRecs : M.recs = true) (hSched : M.sched = true) (hCinch : M.cinch = true) (hKeeper : M.keeper = true) (hSb : M.sb = true) (hStraps : M.straps = true) (hJournal : M.journal = true) (hNodeQueues : M.nodeQueues = true) (hTables : M.tables = true) (hWindows : M.windows = true) (hHalter : M.halter = true) (hHar : M.har = true) (hQueues : M.queues = true) (hArrivals : M.arrivals = true) (hLacing : M.lacing = true) (hTree : M.tree = true) (hCurb : M.curb = true) (hConcho : M.concho = true) (hCores : M.cores = true) (hBuckle : M.buckle = true) (hEdges : M.edges = true) (hHost : M.host = true) (hFlags : M.flags = true) (hReports : M.reports = true) (hs : s.outside M = r) :
    NextOutside M r (execWarmReset cause s) := by
  unfold execWarmReset
  refine next_outside ?_
  refine State.ownReset_outside hOut hPins hPulses hChain hChainPorts hDict hAny hDoms hResults hLogs hPower hVbat hRadio hPorts hRxTiles hTxTiles hGirth hRecs hSched hCinch hKeeper hSb hStraps hJournal hNodeQueues hTables hWindows hHalter hHar hQueues hArrivals hLacing hTree hCurb hConcho hCores hBuckle hEdges hHost hFlags hReports ?_
  exact hs

theorem execCoreStopRequest_outside {M : Touch} {r : State} {dt : Nat} {s : State} (hClock : M.clock = true) (hPower : M.power = true) (hVbat : M.vbat = true) (hCores : M.cores = true) (hLocals : M.Locals r) (hs : s.outside M = r) :
    NextOutside M r (execCoreStopRequest dt s) := by
  unfold execCoreStopRequest
  extract_lets +onlyGivenNames -merge -underBinder x0
  have q1 : State.outside M x0 = r := by
    unfold x0
    refine State.advance_outside hClock hVbat ?_
    exact hs
  try clear_value x0
  refine next_outside ?_
  refine ite_outside ?_ ?_
  · refine State.coresStop_outside hPower hCores hLocals ?_
    exact q1
  · exact q1

end Sys2Proof.Machine
end

