-- ==== Sys2Proof/Laws/Frame/RxPath.lean ====
section
/-! SUPPORT. What the operations of Machine/RxPath.lean leave alone. -/

namespace Sys2Proof.Machine

theorem State.candidate_outside {M : Touch} {r : State} {s : State} {n : Nat} {mode : Nat} {v : Verdict} {g : StrongFrame} {c : Candidate} (hNums : M.Nums Nums88) (hRadio : M.radio = true) (hCinch : M.cinch = true) (hs : s.outside M = r) :
    (State.candidate s n mode v g c).outside M = r := by
  unfold State.candidate
  extract_lets +onlyGivenNames -merge -underBinder x0
  try clear_value x0
  refine ite_outside ?_ ?_
  · refine State.failCands_outside (hNums.sub rfl) ?_
    exact hs
  · split
    · rename_i t1 t3 e4
      have q2 : State.outside M t1 = r := by
        refine Eq.trans (congrArg (fun p => State.outside M p.1) e4).symm ?_
        refine State.grant_outside (hNums.sub rfl) hCinch ?_
        exact hs
      extract_lets +onlyGivenNames -merge -underBinder x5
      unfold x5
      clear x5
      refine ite_outside ?_ ?_
      · refine State.failCands_outside (hNums.sub rfl) ?_
        exact q2
      · refine ite_outside ?_ ?_
        · refine State.failCands_outside (hNums.sub rfl) ?_
          refine State.release_outside (hNums.sub rfl) ?_
          exact q2
        · refine Eq.trans (State.outside_radio_radio (h0 := hRadio) ..) ?_
          exact q2

theorem State.candidate_keeps {s : State} {n : Nat} {mode : Nat} {v : Verdict} {g : StrongFrame} {c : Candidate} : Kept250 s (State.candidate s n mode v g c) :=
  .of (State.candidate_outside rfl rfl rfl rfl)

theorem State.candidate_rd {s : State} {n : Nat} {mode : Nat} {v : Verdict} {g : StrongFrame} {c : Candidate} {kk : Nat} (hkey : Nums88.contains (Key.fam kk) = false) : (State.candidate s n mode v g c).rd kk = s.rd kk :=
  State.rd_of_outside (M := .but Nums88) (State.candidate_outside .self rfl rfl rfl) rfl hkey

theorem State.verify_outside {M : Touch} {r : State} {s : State} {a0 : Nat} {t : Nat} {m : Mhr} {form : Form} {bs : Bytes} (hDict : M.dict = true) (hNums : M.Nums Nums2) (hLogs : M.logs = true) (hRecs : M.recs = true) (hKeeper : M.keeper = true) (hStraps : M.straps = true) (hJournal : M.journal = true) (hEdges : M.edges = true) (hFlags : M.flags = true) (hs : s.outside M = r) :
    (State.verify s a0 t m form bs).1.outside M = r := by
  unfold State.verify
  extract_lets +onlyGivenNames -merge -underBinder x1
  try clear_value x1
  refine ite_fst_outside ?_ ?_
  · refine fst_outside ?_
    exact hs
  · split
    · extract_lets +onlyGivenNames -merge -underBinder x2
      try clear_value x2
      split
      · rename_i t3 t5 e6
        have q4 : State.outside M t3 = r := by
          refine Eq.trans (congrArg (fun p => State.outside M p.1) e6).symm ?_
          split
          · refine fst_outside ?_
            refine State.useSlot_outside hDict hNums hLogs hKeeper hStraps hJournal hEdges hFlags ?_
            exact hs
          · refine fst_outside ?_
            exact hs
        split
        · refine fst_outside ?_
          exact q4
        · split
          · refine fst_outside ?_
            exact q4
          · split
            · refine fst_outside ?_
              refine State.useSlot_outside hDict hNums hLogs hKeeper hStraps hJournal hEdges hFlags ?_
              exact q4
            · refine fst_outside ?_
              exact q4
    · split
      · rename_i t7 t9 e10
        have q8 : State.outside M t7 = r := by
          refine Eq.trans (congrArg (fun p => State.outside M p.1) e10).symm ?_
          refine State.linkKey_outside hDict hNums hLogs hRecs hKeeper hStraps hJournal hEdges hFlags ?_
          exact hs
        split
        · refine fst_outside ?_
          exact q8
        · refine fst_outside ?_
          exact q8
    · split
      · rename_i t11 t13 e14
        have q12 : State.outside M t11 = r := by
          refine Eq.trans (congrArg (fun p => State.outside M p.1) e14).symm ?_
          refine State.linkKey_outside hDict hNums hLogs hRecs hKeeper hStraps hJournal hEdges hFlags ?_
          exact hs
        split
        · refine fst_outside ?_
          exact q12
        · refine fst_outside ?_
          exact q12
    · split
      · rename_i t15 t17 e18
        have q16 : State.outside M t15 = r := by
          refine Eq.trans (congrArg (fun p => State.outside M p.1) e18).symm ?_
          refine State.linkKey_outside hDict hNums hLogs hRecs hKeeper hStraps hJournal hEdges hFlags ?_
          exact hs
        split
        · refine fst_outside ?_
          exact q16
        · refine fst_outside ?_
          exact q16
    · split
      · rename_i t19 t21 e22
        have q20 : State.outside M t19 = r := by
          refine Eq.trans (congrArg (fun p => State.outside M p.1) e22).symm ?_
          refine State.linkKey_outside hDict hNums hLogs hRecs hKeeper hStraps hJournal hEdges hFlags ?_
          exact hs
        split
        · refine fst_outside ?_
          exact q20
        · refine fst_outside ?_
          exact q20

theorem State.verify_keeps {s : State} {a0 : Nat} {t : Nat} {m : Mhr} {form : Form} {bs : Bytes} : Kept66 s (State.verify s a0 t m form bs).1 :=
  .of (State.verify_outside rfl rfl rfl rfl rfl rfl rfl rfl rfl rfl)

theorem State.verify_rd {s : State} {a0 : Nat} {t : Nat} {m : Mhr} {form : Form} {bs : Bytes} {kk : Nat} (hkey : Nums2.contains (Key.fam kk) = false) : (State.verify s a0 t m form bs).1.rd kk = s.rd kk :=
  State.rd_of_outside (M := .but Nums2) (State.verify_outside rfl .self rfl rfl rfl rfl rfl rfl rfl rfl) rfl hkey

theorem State.rxFail_outside {M : Touch} {r : State} {s : State} {f : AirFrame} {c : RxCheck} (hNums : M.Nums Nums97) (hs : s.outside M = r) :
    (State.rxFail s f c).outside M = r := by
  unfold State.rxFail
  refine ite_outside ?_ ?_
  · refine State.bump_outside (hNums.at Key.fam_bsFailed rfl) ?_
    exact hs
  · split
    · refine State.bump_outside (hNums.at Key.fam_rxFcsErr rfl) ?_
      exact hs
    · refine State.bump_outside (hNums.at Key.fam_rxSecFail rfl) ?_
      exact hs
    · refine State.bump_outside (hNums.at Key.fam_rxReplay rfl) ?_
      exact hs
    · refine State.bump_outside (hNums.at Key.fam_rxDup rfl) ?_
      exact hs
    · refine State.bump_outside (hNums.at Key.fam_rxForeign rfl) ?_
      exact hs

theorem State.rxFail_keeps {s : State} {f : AirFrame} {c : RxCheck} : Kept1 s (State.rxFail s f c) :=
  .of (State.rxFail_outside rfl rfl)

theorem State.rxFail_rd {s : State} {f : AirFrame} {c : RxCheck} {kk : Nat} (hkey : Nums97.contains (Key.fam kk) = false) : (State.rxFail s f c).rd kk = s.rd kk :=
  State.rd_of_outside (M := .but Nums97) (State.rxFail_outside .self rfl) rfl hkey

theorem State.rxPass_outside {M : Touch} {r : State} {s : State} {f : AirFrame} (hNums : M.Nums Nums98) (hs : s.outside M = r) :
    (State.rxPass s f).outside M = r := by
  unfold State.rxPass
  extract_lets +onlyGivenNames -merge -underBinder x0
  have q1 : State.outside M x0 = r := by
    unfold x0
    refine State.bump_outside (hNums.at Key.fam_rxFrames rfl) ?_
    exact hs
  try clear_value x0
  refine ite_outside ?_ ?_
  · refine State.bump_outside (hNums.at Key.fam_bsRecovered rfl) ?_
    exact q1
  · exact q1

theorem State.rxPass_keeps {s : State} {f : AirFrame} : Kept1 s (State.rxPass s f) :=
  .of (State.rxPass_outside rfl rfl)

theorem State.rxPass_rd {s : State} {f : AirFrame} {kk : Nat} (hkey : Nums98.contains (Key.fam kk) = false) : (State.rxPass s f).rd kk = s.rd kk :=
  State.rd_of_outside (M := .but Nums98) (State.rxPass_outside .self rfl) rfl hkey

theorem State.dupEnter_outside {M : Touch} {r : State} {s : State} {n : Nat} {d : DupEntry} (hDict : M.dict = true) (hNums : M.Nums Nums2) (hLogs : M.logs = true) (hRadio : M.radio = true) (hStraps : M.straps = true) (hJournal : M.journal = true) (hEdges : M.edges = true) (hFlags : M.flags = true) (hs : s.outside M = r) :
    (State.dupEnter s n d).outside M = r := by
  unfold State.dupEnter
  extract_lets +onlyGivenNames -merge -underBinder x0
  try clear_value x0
  extract_lets +onlyGivenNames -merge -underBinder x1
  unfold x1
  clear x1
  extract_lets +onlyGivenNames -merge -underBinder x2
  unfold x2
  clear x2
  refine ite_outside ?_ ?_
  · refine Eq.trans (State.outside_radio_radio (h0 := hRadio) ..) ?_
    exact hs
  · refine State.rxPost_outside hDict hNums hLogs hStraps hJournal hEdges hFlags ?_
    refine Eq.trans (State.outside_radio_radio (h0 := hRadio) ..) ?_
    exact hs

theorem State.dupEnter_keeps {s : State} {n : Nat} {d : DupEntry} : Kept251 s (State.dupEnter s n d) :=
  .of (State.dupEnter_outside rfl rfl rfl rfl rfl rfl rfl rfl rfl)

theorem State.dupEnter_rd {s : State} {n : Nat} {d : DupEntry} {kk : Nat} (hkey : Nums2.contains (Key.fam kk) = false) : (State.dupEnter s n d).rd kk = s.rd kk :=
  State.rd_of_outside (M := .but Nums2) (State.dupEnter_outside rfl .self rfl rfl rfl rfl rfl rfl rfl) rfl hkey

theorem State.stagedFrame_outside {M : Touch} {r : State} {s : State} {f : AirFrame} {a0 : Nat} {t : Nat} {m : Mhr} {form : Form} (hDict : M.dict = true) (hNums : M.Nums Nums99) (hLogs : M.logs = true) (hRadio : M.radio = true) (hRecs : M.recs = true) (hKeeper : M.keeper = true) (hStraps : M.straps = true) (hJournal : M.journal = true) (hArrivals : M.arrivals = true) (hEdges : M.edges = true) (hFlags : M.flags = true) (hs : s.outside M = r) :
    (State.stagedFrame s f a0 t m form).1.outside M = r := by
  unfold State.stagedFrame
  extract_lets +onlyGivenNames -merge -underBinder x1
  try clear_value x1
  extract_lets +onlyGivenNames -merge -underBinder x2
  have q3 : ∀ u4 : State, State.outside M u4 = r → ∀ u5, ∀ u6, State.outside M (x2 u4 u5 u6).1 = r := by
    unfold x2
    · intro t7 q8 z9 z10
      refine fst_outside ?_
      refine State.rxFail_outside (hNums.sub rfl) ?_
      exact q8
  try clear_value x2
  split
  · refine q3 _ ?_ _ _
    exact hs
  · extract_lets +onlyGivenNames -merge -underBinder x11
    try clear_value x11
    refine ite_fst_outside ?_ ?_
    · refine q3 _ ?_ _ _
      exact hs
    · split
      · rename_i t12 t14 e15
        have q13 : State.outside M t12 = r := by
          refine Eq.trans (congrArg (fun p => State.outside M p.1) e15).symm ?_
          refine State.verify_outside hDict (hNums.sub rfl) hLogs hRecs hKeeper hStraps hJournal hEdges hFlags ?_
          exact hs
        split
        · refine q3 _ ?_ _ _
          exact q13
        · extract_lets +onlyGivenNames -merge -underBinder x16
          try clear_value x16
          extract_lets +onlyGivenNames -merge -underBinder x17
          try clear_value x17
          split
          · refine ite_fst_outside ?_ ?_
            · refine q3 _ ?_ _ _
              refine State.dupEnter_outside hDict (hNums.sub rfl) hLogs hRadio hStraps hJournal hEdges hFlags ?_
              exact q13
            · refine q3 _ ?_ _ _
              exact q13
          · extract_lets +onlyGivenNames -merge -underBinder x18
            try clear_value x18
            extract_lets +onlyGivenNames -merge -underBinder x19
            have q20 : State.outside M x19 = r := by
              unfold x19
              refine State.setRec_outside hRecs ?_
              exact q13
            try clear_value x19
            extract_lets +onlyGivenNames -merge -underBinder x21
            have q22 : State.outside M x21 = r := by
              unfold x21
              refine State.dupEnter_outside hDict (hNums.sub rfl) hLogs hRadio hStraps hJournal hEdges hFlags ?_
              exact q20
            try clear_value x21
            extract_lets +onlyGivenNames -merge -underBinder x23
            have q24 : State.outside M x23 = r := by
              unfold x23
              refine State.rxPass_outside (hNums.sub rfl) ?_
              exact q22
            try clear_value x23
            extract_lets +onlyGivenNames -merge -underBinder x25
            try clear_value x25
            extract_lets +onlyGivenNames -merge -underBinder x26
            unfold x26
            clear x26
            refine ite_fst_outside ?_ ?_
            · refine q3 _ ?_ _ _
              exact q22
            · refine fst_outside ?_
              refine Eq.trans (State.outside_har_arrivals (h0 := hArrivals) ..) ?_
              exact q24

theorem State.stagedFrame_keeps {s : State} {f : AirFrame} {a0 : Nat} {t : Nat} {m : Mhr} {form : Form} : Kept252 s (State.stagedFrame s f a0 t m form).1 :=
  .of (State.stagedFrame_outside rfl rfl rfl rfl rfl rfl rfl rfl rfl rfl rfl rfl)

theorem State.stagedFrame_rd {s : State} {f : AirFrame} {a0 : Nat} {t : Nat} {m : Mhr} {form : Form} {kk : Nat} (hkey : Nums99.contains (Key.fam kk) = false) : (State.stagedFrame s f a0 t m form).1.rd kk = s.rd kk :=
  State.rd_of_outside (M := .but Nums99) (State.stagedFrame_outside rfl .self rfl rfl rfl rfl rfl rfl rfl rfl rfl rfl) rfl hkey

theorem State.uplinkWindow_outside {M : Touch} {r : State} {s : State} {a0 : Nat} {tenantKey : Bool} {c : Nat} (hDict : M.dict = true) (hNums : M.Nums Nums2) (hLogs : M.logs = true) (hRecs : M.recs = true) (hStraps : M.straps = true) (hJournal : M.journal = true) (hEdges : M.edges = true) (hFlags : M.flags = true) (hs : s.outside M = r) :
    (State.uplinkWindow s a0 tenantKey c).1.outside M = r := by
  unfold State.uplinkWindow
  extract_lets +onlyGivenNames -merge -underBinder x1
  try clear_value x1
  refine ite_fst_outside ?_ ?_
  · refine ite_fst_outside ?_ ?_
    · refine fst_outside ?_
      exact hs
    · refine fst_outside ?_
      refine State.modHw_outside hRecs ?_
      exact hs
  · refine ite_fst_outside ?_ ?_
    · refine ite_fst_outside ?_ ?_
      · refine fst_outside ?_
        exact hs
      · refine fst_outside ?_
        refine State.kPost_outside hDict hNums hLogs hStraps hJournal hEdges hFlags ?_
        refine State.modHw_outside hRecs ?_
        exact hs
    · split
      · refine fst_outside ?_
        refine State.modHw_outside hRecs ?_
        exact hs
      · refine fst_outside ?_
        exact hs

theorem State.uplinkWindow_keeps {s : State} {a0 : Nat} {tenantKey : Bool} {c : Nat} : Kept76 s (State.uplinkWindow s a0 tenantKey c).1 :=
  .of (State.uplinkWindow_outside rfl rfl rfl rfl rfl rfl rfl rfl rfl)

theorem State.uplinkWindow_rd {s : State} {a0 : Nat} {tenantKey : Bool} {c : Nat} {kk : Nat} (hkey : Nums2.contains (Key.fam kk) = false) : (State.uplinkWindow s a0 tenantKey c).1.rd kk = s.rd kk :=
  State.rd_of_outside (M := .but Nums2) (State.uplinkWindow_outside rfl .self rfl rfl rfl rfl rfl rfl rfl) rfl hkey

theorem State.passed_outside {M : Touch} {r : State} {s : State} {f : AirFrame} {a0 : Nat} {m : Mhr} {form : Form} {clear : Bytes} (hDraws : M.draws = true) (hPins : M.pins = true) (hDict : M.dict = true) (hNums : M.Nums Nums101) (hResults : M.results = true) (hLogs : M.logs = true) (hVbat : M.vbat = true) (hPorts : M.ports = true) (hRxTiles : M.rxTiles = true) (hTxTiles : M.txTiles = true) (hRecs : M.recs = true) (hCinch : M.cinch = true) (hKeeper : M.keeper = true) (hStraps : M.straps = true) (hJournal : M.journal = true) (hNodeQueues : M.nodeQueues = true) (hTables : M.tables = true) (hHalter : M.halter = true) (hArrivals : M.arrivals = true) (hLacing : M.lacing = true) (hEdges : M.edges = true) (hFlags : M.flags = true) (hReports : M.reports = true) (hs : s.outside M = r) :
    (State.passed s f a0 m form clear).outside M = r := by
  unfold State.passed
  split
  · refine State.ackAccept_outside hRecs hNodeQueues hReports ?_
    refine State.modHw_outside hRecs ?_
    exact hs
  · refine State.ackAccept_outside hRecs hNodeQueues hReports ?_
    refine State.modHw_outside hRecs ?_
    exact hs
  · refine State.heard_outside hDraws hPins hDict hNums hResults hLogs hVbat hPorts hRxTiles hTxTiles hRecs hCinch hKeeper hStraps hJournal hNodeQueues hTables hHalter hArrivals hLacing hEdges hFlags hReports ?_
    exact hs
  · refine State.heard_outside hDraws hPins hDict hNums hResults hLogs hVbat hPorts hRxTiles hTxTiles hRecs hCinch hKeeper hStraps hJournal hNodeQueues hTables hHalter hArrivals hLacing hEdges hFlags hReports ?_
    exact hs
  · refine State.heard_outside hDraws hPins hDict hNums hResults hLogs hVbat hPorts hRxTiles hTxTiles hRecs hCinch hKeeper hStraps hJournal hNodeQueues hTables hHalter hArrivals hLacing hEdges hFlags hReports ?_
    exact hs

theorem State.passed_keeps {s : State} {f : AirFrame} {a0 : Nat} {m : Mhr} {form : Form} {clear : Bytes} : Kept120 s (State.passed s f a0 m form clear) :=
  .of (State.passed_outside rfl rfl rfl rfl rfl rfl rfl rfl rfl rfl rfl rfl rfl rfl rfl rfl rfl rfl rfl rfl rfl rfl rfl rfl)

theorem State.passed_rd {s : State} {f : AirFrame} {a0 : Nat} {m : Mhr} {form : Form} {clear : Bytes} {kk : Nat} (hkey : Nums101.contains (Key.fam kk) = false) : (State.passed s f a0 m form clear).rd kk = s.rd kk :=
  State.rd_of_outside (M := .but Nums101) (State.passed_outside rfl rfl rfl .self rfl rfl rfl rfl rfl rfl rfl rfl rfl rfl rfl rfl rfl rfl rfl rfl rfl rfl rfl rfl) rfl hkey

theorem State.checkWindow_outside {M : Touch} {r : State} {s : State} {f : AirFrame} {a0 : Nat} {m : Mhr} {form : Form} {clear : Bytes} (hDraws : M.draws = true) (hPins : M.pins = true) (hDict : M.dict = true) (hNums : M.Nums Nums102) (hResults : M.results = true) (hLogs : M.logs = true) (hVbat : M.vbat = true) (hRadio : M.radio = true) (hPorts : M.ports = true) (hRxTiles : M.rxTiles = true) (hTxTiles : M.txTiles = true) (hRecs : M.recs = true) (hCinch : M.cinch = true) (hKeeper : M.keeper = true) (hStraps : M.straps = true) (hJournal : M.journal = true) (hNodeQueues : M.nodeQueues = true) (hTables : M.tables = true) (hHalter : M.halter = true) (hArrivals : M.arrivals = true) (hLacing : M.lacing = true) (hEdges : M.edges = true) (hFlags : M.flags = true) (hReports : M.reports = true) (hs : s.outside M = r) :
    (State.checkWindow s f a0 m form clear).1.outside M = r := by
  unfold State.checkWindow
  extract_lets +onlyGivenNames -merge -underBinder x1
  try clear_value x1
  extract_lets +onlyGivenNames -merge -underBinder x2
  try clear_value x2
  extract_lets +onlyGivenNames -merge -underBinder x3
  have q4 : State.outside M x3.1 = r := by
    unfold x3
    refine State.uplinkWindow_outside hDict (hNums.sub rfl) hLogs hRecs hStraps hJournal hEdges hFlags ?_
    exact hs
  try clear_value x3
  extract_lets +onlyGivenNames -merge -underBinder x5
  have q6 : State.outside M x5 = r := by
    unfold x5
    exact q4
  try clear_value x5
  extract_lets +onlyGivenNames -merge -underBinder x7
  try clear_value x7
  extract_lets +onlyGivenNames -merge -underBinder x8
  have q9 : State.outside M x8 = r := by
    unfold x8
    refine State.dupEnter_outside hDict (hNums.sub rfl) hLogs hRadio hStraps hJournal hEdges hFlags ?_
    exact q6
  try clear_value x8
  refine ite_fst_outside ?_ ?_
  · refine ite_fst_outside ?_ ?_
    · refine fst_outside ?_
      refine State.rxFail_outside (hNums.sub rfl) ?_
      exact q9
    · refine fst_outside ?_
      refine State.passed_outside hDraws hPins hDict (hNums.sub rfl) hResults hLogs hVbat hPorts hRxTiles hTxTiles hRecs hCinch hKeeper hStraps hJournal hNodeQueues hTables hHalter hArrivals hLacing hEdges hFlags hReports ?_
      refine State.rxPass_outside (hNums.sub rfl) ?_
      exact q9
  · refine ite_fst_outside ?_ ?_
    · refine fst_outside ?_
      refine State.rxFail_outside (hNums.sub rfl) ?_
      refine State.dupEnter_outside hDict (hNums.sub rfl) hLogs hRadio hStraps hJournal hEdges hFlags ?_
      exact q6
    · refine fst_outside ?_
      refine State.rxFail_outside (hNums.sub rfl) ?_
      refine State.modHw_outside hRecs ?_
      exact q6

theorem State.checkWindow_keeps {s : State} {f : AirFrame} {a0 : Nat} {m : Mhr} {form : Form} {clear : Bytes} : Kept253 s (State.checkWindow s f a0 m form clear).1 :=
  .of (State.checkWindow_outside rfl rfl rfl rfl rfl rfl rfl rfl rfl rfl rfl rfl rfl rfl rfl rfl rfl rfl rfl rfl rfl rfl rfl rfl rfl)

theorem State.checkWindow_rd {s : State} {f : AirFrame} {a0 : Nat} {m : Mhr} {form : Form} {clear : Bytes} {kk : Nat} (hkey : Nums102.contains (Key.fam kk) = false) : (State.checkWindow s f a0 m form clear).1.rd kk = s.rd kk :=
  State.rd_of_outside (M := .but Nums102) (State.checkWindow_outside rfl rfl rfl .self rfl rfl rfl rfl rfl rfl rfl rfl rfl rfl rfl rfl rfl rfl rfl rfl rfl rfl rfl rfl rfl) rfl hkey

theorem State.checkTag_outside {M : Touch} {r : State} {s : State} {f : AirFrame} {a0 : Nat} {t : Nat} {m : Mhr} {form : Form} (hDraws : M.draws = true) (hPins : M.pins = true) (hDict : M.dict = true) (hNums : M.Nums Nums102) (hResults : M.results = true) (hLogs : M.logs = true) (hVbat : M.vbat = true) (hRadio : M.radio = true) (hPorts : M.ports = true) (hRxTiles : M.rxTiles = true) (hTxTiles : M.txTiles = true) (hRecs : M.recs = true) (hCinch : M.cinch = true) (hKeeper : M.keeper = true) (hStraps : M.straps = true) (hJournal : M.journal = true) (hNodeQueues : M.nodeQueues = true) (hTables : M.tables = true) (hHalter : M.halter = true) (hArrivals : M.arrivals = true) (hLacing : M.lacing = true) (hEdges : M.edges = true) (hFlags : M.flags = true) (hReports : M.reports = true) (hs : s.outside M = r) :
    (State.checkTag s f a0 t m form).1.outside M = r := by
  unfold State.checkTag
  extract_lets +onlyGivenNames -merge -underBinder x1
  try clear_value x1
  extract_lets +onlyGivenNames -merge -underBinder x2
  try clear_value x2
  extract_lets +onlyGivenNames -merge -underBinder x3
  have q4 : State.outside M x3.1 = r := by
    unfold x3
    refine State.verify_outside hDict (hNums.sub rfl) hLogs hRecs hKeeper hStraps hJournal hEdges hFlags ?_
    exact hs
  try clear_value x3
  refine ite_fst_outside ?_ ?_
  · refine fst_outside ?_
    refine State.rxFail_outside (hNums.sub rfl) ?_
    exact hs
  · refine ite_fst_outside ?_ ?_
    · refine State.stagedFrame_outside hDict (hNums.sub rfl) hLogs hRadio hRecs hKeeper hStraps hJournal hArrivals hEdges hFlags ?_
      exact hs
    · split
      · extract_lets +onlyGivenNames -merge -underBinder x5
        try clear_value x5
        refine ite_fst_outside ?_ ?_
        · refine State.checkWindow_outside hDraws hPins hDict hNums hResults hLogs hVbat hRadio hPorts hRxTiles hTxTiles hRecs hCinch hKeeper hStraps hJournal hNodeQueues hTables hHalter hArrivals hLacing hEdges hFlags hReports ?_
          exact q4
        · refine fst_outside ?_
          refine State.rxFail_outside (hNums.sub rfl) ?_
          exact q4
      · extract_lets +onlyGivenNames -merge -underBinder x6
        try clear_value x6
        refine fst_outside ?_
        refine State.rxFail_outside (hNums.sub rfl) ?_
        refine State.modHw_outside hRecs ?_
        exact q4

theorem State.checkTag_keeps {s : State} {f : AirFrame} {a0 : Nat} {t : Nat} {m : Mhr} {form : Form} : Kept253 s (State.checkTag s f a0 t m form).1 :=
  .of (State.checkTag_outside rfl rfl rfl rfl rfl rfl rfl rfl rfl rfl rfl rfl rfl rfl rfl rfl rfl rfl rfl rfl rfl rfl rfl rfl rfl)

theorem State.checkTag_rd {s : State} {f : AirFrame} {a0 : Nat} {t : Nat} {m : Mhr} {form : Form} {kk : Nat} (hkey : Nums102.contains (Key.fam kk) = false) : (State.checkTag s f a0 t m form).1.rd kk = s.rd kk :=
  State.rd_of_outside (M := .but Nums102) (State.checkTag_outside rfl rfl rfl .self rfl rfl rfl rfl rfl rfl rfl rfl rfl rfl rfl rfl rfl rfl rfl rfl rfl rfl rfl rfl rfl) rfl hkey

theorem State.foreign_outside {M : Touch} {r : State} {s : State} {f : AirFrame} {m : Mhr} {form : Form} (hDict : M.dict = true) (hNums : M.Nums Nums103) (hLogs : M.logs = true) (hStraps : M.straps = true) (hJournal : M.journal = true) (hEdges : M.edges = true) (hFlags : M.flags = true) (hs : s.outside M = r) :
    (State.foreign s f m form).1.outside M = r := by
  unfold State.foreign
  extract_lets +onlyGivenNames -merge -underBinder x0
  have q1 : State.outside M x0 = r := by
    unfold x0
    split
    · split
      · refine State.assocUnknown_outside hDict (hNums.sub rfl) hLogs hStraps hJournal hEdges hFlags ?_
        exact hs
      · exact hs
    · exact hs
    · exact hs
    · exact hs
    · exact hs
  try clear_value x0
  extract_lets +onlyGivenNames -merge -underBinder x2
  try clear_value x2
  refine fst_outside ?_
  refine State.rxFail_outside (hNums.sub rfl) ?_
  exact q1

theorem State.foreign_keeps {s : State} {f : AirFrame} {m : Mhr} {form : Form} : Kept8 s (State.foreign s f m form).1 :=
  .of (State.foreign_outside rfl rfl rfl rfl rfl rfl rfl rfl)

theorem State.foreign_rd {s : State} {f : AirFrame} {m : Mhr} {form : Form} {kk : Nat} (hkey : Nums103.contains (Key.fam kk) = false) : (State.foreign s f m form).1.rd kk = s.rd kk :=
  State.rd_of_outside (M := .but Nums103) (State.foreign_outside rfl .self rfl rfl rfl rfl rfl rfl) rfl hkey

theorem State.immAck_outside {M : Touch} {r : State} {s : State} {f : AirFrame} {m : Mhr} (hDict : M.dict = true) (hNums : M.Nums Nums99) (hLogs : M.logs = true) (hRadio : M.radio = true) (hRecs : M.recs = true) (hStraps : M.straps = true) (hJournal : M.journal = true) (hNodeQueues : M.nodeQueues = true) (hEdges : M.edges = true) (hFlags : M.flags = true) (hReports : M.reports = true) (hs : s.outside M = r) :
    (State.immAck s f m).1.outside M = r := by
  unfold State.immAck
  extract_lets +onlyGivenNames -merge -underBinder x0
  try clear_value x0
  extract_lets +onlyGivenNames -merge -underBinder x1
  try clear_value x1
  extract_lets +onlyGivenNames -merge -underBinder x2
  try clear_value x2
  extract_lets +onlyGivenNames -merge -underBinder x3
  try clear_value x3
  extract_lets +onlyGivenNames -merge -underBinder x4
  have q5 : State.outside M x4 = r := by
    unfold x4
    refine State.dupEnter_outside hDict (hNums.sub rfl) hLogs hRadio hStraps hJournal hEdges hFlags ?_
    exact hs
  try clear_value x4
  extract_lets +onlyGivenNames -merge -underBinder x6
  have q7 : State.outside M x6 = r := by
    unfold x6
    refine State.rxPass_outside (hNums.sub rfl) ?_
    exact q5
  try clear_value x6
  refine ite_fst_outside ?_ ?_
  · refine fst_outside ?_
    refine State.rxFail_outside (hNums.sub rfl) ?_
    exact hs
  · refine ite_fst_outside ?_ ?_
    · refine fst_outside ?_
      refine State.rxFail_outside (hNums.sub rfl) ?_
      exact q5
    · split
      · refine fst_outside ?_
        refine State.ackAccept_outside hRecs hNodeQueues hReports ?_
        exact q7
      · refine fst_outside ?_
        exact q7

theorem State.immAck_keeps {s : State} {f : AirFrame} {m : Mhr} : Kept254 s (State.immAck s f m).1 :=
  .of (State.immAck_outside rfl rfl rfl rfl rfl rfl rfl rfl rfl rfl rfl rfl)

theorem State.immAck_rd {s : State} {f : AirFrame} {m : Mhr} {kk : Nat} (hkey : Nums99.contains (Key.fam kk) = false) : (State.immAck s f m).1.rd kk = s.rd kk :=
  State.rd_of_outside (M := .but Nums99) (State.immAck_outside rfl .self rfl rfl rfl rfl rfl rfl rfl rfl rfl rfl) rfl hkey

theorem State.checks_outside {M : Touch} {r : State} {s : State} {f : AirFrame} (hDraws : M.draws = true) (hPins : M.pins = true) (hDict : M.dict = true) (hNums : M.Nums Nums102) (hResults : M.results = true) (hLogs : M.logs = true) (hVbat : M.vbat = true) (hRadio : M.radio = true) (hPorts : M.ports = true) (hRxTiles : M.rxTiles = true) (hTxTiles : M.txTiles = true) (hRecs : M.recs = true) (hCinch : M.cinch = true) (hKeeper : M.keeper = true) (hStraps : M.straps = true) (hJournal : M.journal = true) (hNodeQueues : M.nodeQueues = true) (hTables : M.tables = true) (hHalter : M.halter = true) (hArrivals : M.arrivals = true) (hLacing : M.lacing = true) (hEdges : M.edges = true) (hFlags : M.flags = true) (hReports : M.reports = true) (hs : s.outside M = r) :
    (State.checks s f).1.outside M = r := by
  unfold State.checks
  extract_lets +onlyGivenNames -merge -underBinder x0
  try clear_value x0
  extract_lets +onlyGivenNames -merge -underBinder x1
  try clear_value x1
  refine ite_fst_outside ?_ ?_
  · refine fst_outside ?_
    refine State.rxFail_outside (hNums.sub rfl) ?_
    exact hs
  · split
    · extract_lets +onlyGivenNames -merge -underBinder x2
      try clear_value x2
      refine fst_outside ?_
      refine State.rxFail_outside (hNums.sub rfl) ?_
      exact hs
    · split
      · extract_lets +onlyGivenNames -merge -underBinder x3
        try clear_value x3
        refine fst_outside ?_
        refine State.rxFail_outside (hNums.sub rfl) ?_
        exact hs
      · refine ite_fst_outside ?_ ?_
        · refine State.immAck_outside hDict (hNums.sub rfl) hLogs hRadio hRecs hStraps hJournal hNodeQueues hEdges hFlags hReports ?_
          exact hs
        · split
          · refine State.checkTag_outside hDraws hPins hDict hNums hResults hLogs hVbat hRadio hPorts hRxTiles hTxTiles hRecs hCinch hKeeper hStraps hJournal hNodeQueues hTables hHalter hArrivals hLacing hEdges hFlags hReports ?_
            exact hs
          · refine State.foreign_outside hDict (hNums.sub rfl) hLogs hStraps hJournal hEdges hFlags ?_
            exact hs

theorem State.checks_keeps {s : State} {f : AirFrame} : Kept253 s (State.checks s f).1 :=
  .of (State.checks_outside rfl rfl rfl rfl rfl rfl rfl rfl rfl rfl rfl rfl rfl rfl rfl rfl rfl rfl rfl rfl rfl rfl rfl rfl rfl)

theorem State.checks_rd {s : State} {f : AirFrame} {kk : Nat} (hkey : Nums102.contains (Key.fam kk) = false) : (State.checks s f).1.rd kk = s.rd kk :=
  State.rd_of_outside (M := .but Nums102) (State.checks_outside rfl rfl rfl .self rfl rfl rfl rfl rfl rfl rfl rfl rfl rfl rfl rfl rfl rfl rfl rfl rfl rfl rfl rfl rfl) rfl hkey

theorem State.despreadEnd_outside {M : Touch} {r : State} {s : State} {k : Nat} (hNums : M.Nums Nums108) (hRxTiles : M.rxTiles = true) (hs : s.outside M = r) :
    (State.despreadEnd s k).outside M = r := by
  unfold State.despreadEnd
  refine State.bump_outside (hNums.at Key.fam_rxDespreadTimeout rfl) ?_
  refine State.rxIdle_outside (hNums.sub rfl) hRxTiles ?_
  exact hs

theorem State.despreadEnd_keeps {s : State} {k : Nat} : Kept88 s (State.despreadEnd s k) :=
  .of (State.despreadEnd_outside rfl rfl rfl)

theorem State.despreadEnd_rd {s : State} {k : Nat} {kk : Nat} (hkey : Nums108.contains (Key.fam kk) = false) : (State.despreadEnd s k).rd kk = s.rd kk :=
  State.rd_of_outside (M := .but Nums108) (State.despreadEnd_outside .self rfl rfl) rfl hkey

theorem State.modFrame_outside {M : Touch} {r : State} {s : State} {n : Nat} {f : RxFrame → RxFrame} (hRxTiles : M.rxTiles = true) (hs : s.outside M = r) :
    (State.modFrame s n f).outside M = r := by
  unfold State.modFrame
  extract_lets +onlyGivenNames -merge -underBinder x0
  try clear_value x0
  refine State.setRx_outside hRxTiles ?_
  exact hs

theorem State.modFrame_keeps {s : State} {n : Nat} {f : RxFrame → RxFrame} : Kept87 s (State.modFrame s n f) :=
  .of (State.modFrame_outside rfl rfl)

theorem execPhrRx_outside {M : Touch} {r : State} {n : Fin 64} {syms : List RxSym} {dt : Nat} {s : State} (hClock : M.clock = true) (hNums : M.Nums Nums151) (hVbat : M.vbat = true) (hRxTiles : M.rxTiles = true) (hs : s.outside M = r) :
    NextOutside M r (execPhrRx n syms dt s) := by
  unfold execPhrRx
  extract_lets +onlyGivenNames -merge -underBinder x0
  have q1 : State.outside M x0 = r := by
    unfold x0
    refine State.advance_outside hClock hVbat ?_
    exact hs
  try clear_value x0
  extract_lets +onlyGivenNames -merge -underBinder x2
  try clear_value x2
  extract_lets +onlyGivenNames -merge -underBinder x3
  try clear_value x3
  refine next_outside ?_
  split
  · exact q1
  · extract_lets +onlyGivenNames -merge -underBinder x4
    try clear_value x4
    extract_lets +onlyGivenNames -merge -underBinder x5
    try clear_value x5
    refine ite_outside ?_ ?_
    · exact q1
    · refine ite_outside ?_ ?_
      · refine State.despreadEnd_outside (hNums.sub rfl) hRxTiles ?_
        exact q1
      · refine ite_outside ?_ ?_
        · refine State.bump_outside (hNums.at Key.fam_rxFcsErr rfl) ?_
          refine State.rxIdle_outside (hNums.sub rfl) hRxTiles ?_
          exact q1
        · refine State.modFrame_outside hRxTiles ?_
          exact q1

theorem execPortGainStep_outside {M : Touch} {r : State} {p : Fin 4} {step : Fin 32} {dt : Nat} {s : State} (hClock : M.clock = true) (hVbat : M.vbat = true) (hPorts : M.ports = true) (hs : s.outside M = r) :
    NextOutside M r (execPortGainStep p step dt s) := by
  unfold execPortGainStep
  extract_lets +onlyGivenNames -merge -underBinder x0
  have q1 : State.outside M x0 = r := by
    unfold x0
    refine State.advance_outside hClock hVbat ?_
    exact hs
  try clear_value x0
  extract_lets +onlyGivenNames -merge -underBinder x2
  try clear_value x2
  extract_lets +onlyGivenNames -merge -underBinder x3
  try clear_value x3
  extract_lets +onlyGivenNames -merge -underBinder x4
  try clear_value x4
  refine next_outside ?_
  refine ite_outside ?_ ?_
  · refine State.setPort_outside hPorts ?_
    exact q1
  · exact q1

theorem execSfdTimeout_outside {M : Touch} {r : State} {n : Fin 64} {dt : Nat} {s : State} (hClock : M.clock = true) (hNums : M.Nums Nums108) (hVbat : M.vbat = true) (hRxTiles : M.rxTiles = true) (hs : s.outside M = r) :
    NextOutside M r (execSfdTimeout n dt s) := by
  unfold execSfdTimeout
  extract_lets +onlyGivenNames -merge -underBinder x0
  have q1 : State.outside M x0 = r := by
    unfold x0
    refine State.advance_outside hClock hVbat ?_
    exact hs
  try clear_value x0
  extract_lets +onlyGivenNames -merge -underBinder x2
  try clear_value x2
  refine next_outside ?_
  split
  · exact q1
  · split
    · exact q1
    · refine ite_outside ?_ ?_
      · refine State.bump_outside (hNums.at Key.fam_rxDespreadTimeout rfl) ?_
        refine State.rxIdle_outside (hNums.sub rfl) hRxTiles ?_
        exact q1
      · exact q1

theorem execBackstitchFrameEnd_outside {M : Touch} {r : State} {e : Fin 8} {sfd : List (List Int)} {syms : List RxSym} {stamp : Nat} {fofs : Int} {rssi : Int} {haBad : Nat} {dt : Nat} {s : State} (hDraws : M.draws = true) (hPins : M.pins = true) (hClock : M.clock = true) (hDict : M.dict = true) (hNums : M.Nums Nums102) (hResults : M.results = true) (hLogs : M.logs = true) (hVbat : M.vbat = true) (hRadio : M.radio = true) (hPorts : M.ports = true) (hRxTiles : M.rxTiles = true) (hTxTiles : M.txTiles = true) (hRecs : M.recs = true) (hCinch : M.cinch = true) (hKeeper : M.keeper = true) (hStraps : M.straps = true) (hJournal : M.journal = true) (hNodeQueues : M.nodeQueues = true) (hTables : M.tables = true) (hHalter : M.halter = true) (hArrivals : M.arrivals = true) (hLacing : M.lacing = true) (hEdges : M.edges = true) (hFlags : M.flags = true) (hReports : M.reports = true) (hs : s.outside M = r) :
    NextOutside M r (execBackstitchFrameEnd e sfd syms stamp fofs rssi haBad dt s) := by
  unfold execBackstitchFrameEnd
  extract_lets +onlyGivenNames -merge -underBinder x0
  have q1 : State.outside M x0 = r := by
    unfold x0
    refine State.advance_outside hClock hVbat ?_
    exact hs
  try clear_value x0
  refine next_outside ?_
  split
  · exact q1
  · extract_lets +onlyGivenNames -merge -underBinder x2
    try clear_value x2
    extract_lets +onlyGivenNames -merge -underBinder x3
    unfold x3
    clear x3
    extract_lets +onlyGivenNames -merge -underBinder x4
    have q5 : State.outside M x4 = r := by
      unfold x4
      refine Eq.trans (State.outside_radio_radio (h0 := hRadio) ..) ?_
      exact q1
    try clear_value x4
    extract_lets +onlyGivenNames -merge -underBinder x6
    try clear_value x6
    extract_lets +onlyGivenNames -merge -underBinder x7
    have q8 : State.outside M x7 = r := by
      unfold x7
      refine State.release_outside (hNums.sub rfl) ?_
      exact q5
    try clear_value x7
    extract_lets +onlyGivenNames -merge -underBinder x9
    try clear_value x9
    extract_lets +onlyGivenNames -merge -underBinder x10
    try clear_value x10
    split
    · refine State.failCands_outside (hNums.sub rfl) ?_
      exact q8
    · extract_lets +onlyGivenNames -merge -underBinder x11
      try clear_value x11
      extract_lets +onlyGivenNames -merge -underBinder x12
      try clear_value x12
      refine ite_outside ?_ ?_
      · refine State.failCands_outside (hNums.sub rfl) ?_
        exact q8
      · refine State.checks_outside hDraws hPins hDict hNums hResults hLogs hVbat hRadio hPorts hRxTiles hTxTiles hRecs hCinch hKeeper hStraps hJournal hNodeQueues hTables hHalter hArrivals hLacing hEdges hFlags hReports ?_
        exact q8

theorem execBackstitchEngineStart_outside {M : Touch} {r : State} {dt : Nat} {s : State} (hClock : M.clock = true) (hVbat : M.vbat = true) (hRadio : M.radio = true) (hs : s.outside M = r) :
    NextOutside M r (execBackstitchEngineStart dt s) := by
  unfold execBackstitchEngineStart
  extract_lets +onlyGivenNames -merge -underBinder x0
  have q1 : State.outside M x0 = r := by
    unfold x0
    refine State.advance_outside hClock hVbat ?_
    exact hs
  try clear_value x0
  refine next_outside ?_
  split
  · extract_lets +onlyGivenNames -merge -underBinder x2
    unfold x2
    clear x2
    refine ite_outside ?_ ?_
    · exact q1
    · refine Eq.trans (State.outside_radio_radio (h0 := hRadio) ..) ?_
      exact q1
  · exact q1

theorem execRxDetect_outside {M : Touch} {r : State} {n : Fin 64} {level : Int} {dt : Nat} {s : State} (hClock : M.clock = true) (hNums : M.Nums Nums29) (hVbat : M.vbat = true) (hRxTiles : M.rxTiles = true) (hs : s.outside M = r) :
    NextOutside M r (execRxDetect n level dt s) := by
  unfold execRxDetect
  extract_lets +onlyGivenNames -merge -underBinder x0
  have q1 : State.outside M x0 = r := by
    unfold x0
    refine State.advance_outside hClock hVbat ?_
    exact hs
  try clear_value x0
  extract_lets +onlyGivenNames -merge -underBinder x2
  try clear_value x2
  extract_lets +onlyGivenNames -merge -underBinder x3
  try clear_value x3
  extract_lets +onlyGivenNames -merge -underBinder x4
  try clear_value x4
  extract_lets +onlyGivenNames -merge -underBinder x5
  try clear_value x5
  refine next_outside ?_
  refine ite_outside ?_ ?_
  · refine State.wr_outside (hNums.at Key.fam_rxcState rfl) ?_
    refine State.setRx_outside hRxTiles ?_
    exact q1
  · exact q1

theorem execAdcClipGainStep_outside {M : Touch} {r : State} {p : Fin 4} {s : State} (hPorts : M.ports = true) (hRxTiles : M.rxTiles = true) (hs : s.outside M = r) :
    NextOutside M r (execAdcClipGainStep p s) := by
  unfold execAdcClipGainStep
  extract_lets +onlyGivenNames -merge -underBinder x0
  try clear_value x0
  extract_lets +onlyGivenNames -merge -underBinder x1
  try clear_value x1
  extract_lets +onlyGivenNames -merge -underBinder x2
  try clear_value x2
  extract_lets +onlyGivenNames -merge -underBinder x3
  have q4 : State.outside M x3 = r := by
    unfold x3
    refine State.setPort_outside hPorts ?_
    exact hs
  try clear_value x3
  refine next_outside ?_
  refine ite_outside ?_ ?_
  · exact hs
  · refine State.each_outside ?_ ?_
    · intro t5 q6 z7
      refine State.modFrame_outside hRxTiles ?_
      exact q6
    · exact q4

theorem execRxFrameEnd_outside {M : Touch} {r : State} {n : Fin 64} {syms : List RxSym} {rssi : Int} {haBad : Nat} {dt : Nat} {s : State} (hDraws : M.draws = true) (hPins : M.pins = true) (hClock : M.clock = true) (hDict : M.dict = true) (hNums : M.Nums Nums162) (hResults : M.results = true) (hLogs : M.logs = true) (hVbat : M.vbat = true) (hRadio : M.radio = true) (hPorts : M.ports = true) (hRxTiles : M.rxTiles = true) (hTxTiles : M.txTiles = true) (hRecs : M.recs = true) (hCinch : M.cinch = true) (hKeeper : M.keeper = true) (hStraps : M.straps = true) (hJournal : M.journal = true) (hNodeQueues : M.nodeQueues = true) (hTables : M.tables = true) (hHalter : M.halter = true) (hArrivals : M.arrivals = true) (hLacing : M.lacing = true) (hEdges : M.edges = true) (hFlags : M.flags = true) (hReports : M.reports = true) (hs : s.outside M = r) :
    NextOutside M r (execRxFrameEnd n syms rssi haBad dt s) := by
  unfold execRxFrameEnd
  extract_lets +onlyGivenNames -merge -underBinder x0
  have q1 : State.outside M x0 = r := by
    unfold x0
    refine State.advance_outside hClock hVbat ?_
    exact hs
  try clear_value x0
  extract_lets +onlyGivenNames -merge -underBinder x2
  try clear_value x2
  extract_lets +onlyGivenNames -merge -underBinder x3
  try clear_value x3
  refine next_outside ?_
  split
  · exact q1
  · split
    · exact q1
    · extract_lets +onlyGivenNames -merge -underBinder x4
      try clear_value x4
      extract_lets +onlyGivenNames -merge -underBinder x5
      try clear_value x5
      extract_lets +onlyGivenNames -merge -underBinder x6
      try clear_value x6
      extract_lets +onlyGivenNames -merge -underBinder x7
      try clear_value x7
      extract_lets +onlyGivenNames -merge -underBinder x8
      try clear_value x8
      extract_lets +onlyGivenNames -merge -underBinder x9
      try clear_value x9
      extract_lets +onlyGivenNames -merge -underBinder x10
      have q11 : State.outside M x10 = r := by
        unfold x10
        refine State.rxIdle_outside (hNums.sub rfl) hRxTiles ?_
        refine State.modFrame_outside hRxTiles ?_
        exact q1
      try clear_value x10
      refine ite_outside ?_ ?_
      · exact q1
      · refine ite_outside ?_ ?_
        · refine State.despreadEnd_outside (hNums.sub rfl) hRxTiles ?_
          exact q1
        · split
          · rename_i t12 t14 e15
            have q13 : State.outside M t12 = r := by
              refine Eq.trans (congrArg (fun p => State.outside M p.1) e15).symm ?_
              refine State.checks_outside hDraws hPins hDict (hNums.sub rfl) hResults hLogs hVbat hRadio hPorts hRxTiles hTxTiles hRecs hCinch hKeeper hStraps hJournal hNodeQueues hTables hHalter hArrivals hLacing hEdges hFlags hReports ?_
              exact q11
            refine State.each_outside ?_ ?_
            · intro t16 q17 z18
              refine State.candidate_outside (hNums.sub rfl) hRadio hCinch ?_
              exact q17
            · exact q13

theorem execSfdFound_outside {M : Touch} {r : State} {n : Fin 64} {sfd : List (List Int)} {word : Int} {phase : Int} {fofs : Int} {dt : Nat} {s : State} (hClock : M.clock = true) (hNums : M.Nums Nums29) (hVbat : M.vbat = true) (hRxTiles : M.rxTiles = true) (hs : s.outside M = r) :
    NextOutside M r (execSfdFound n sfd word phase fofs dt s) := by
  unfold execSfdFound
  extract_lets +onlyGivenNames -merge -underBinder x0
  have q1 : State.outside M x0 = r := by
    unfold x0
    refine State.advance_outside hClock hVbat ?_
    exact hs
  try clear_value x0
  extract_lets +onlyGivenNames -merge -underBinder x2
  try clear_value x2
  extract_lets +onlyGivenNames -merge -underBinder x3
  try clear_value x3
  refine next_outside ?_
  split
  · exact q1
  · split
    · exact q1
    · refine ite_outside ?_ ?_
      · refine State.wr_outside (hNums.at Key.fam_rxcState rfl) ?_
        refine State.modFrame_outside hRxTiles ?_
        exact q1
      · exact q1

theorem execDespreadTimeout_outside {M : Touch} {r : State} {n : Fin 64} {syms : List RxSym} {dt : Nat} {s : State} (hClock : M.clock = true) (hNums : M.Nums Nums108) (hVbat : M.vbat = true) (hRxTiles : M.rxTiles = true) (hs : s.outside M = r) :
    NextOutside M r (execDespreadTimeout n syms dt s) := by
  unfold execDespreadTimeout
  extract_lets +onlyGivenNames -merge -underBinder x0
  have q1 : State.outside M x0 = r := by
    unfold x0
    refine State.advance_outside hClock hVbat ?_
    exact hs
  try clear_value x0
  extract_lets +onlyGivenNames -merge -underBinder x2
  try clear_value x2
  extract_lets +onlyGivenNames -merge -underBinder x3
  try clear_value x3
  refine next_outside ?_
  split
  · exact q1
  · split
    · exact q1
    · refine ite_outside ?_ ?_
      · refine State.despreadEnd_outside hNums hRxTiles ?_
        exact q1
      · exact q1

theorem execSampleOverrun_outside {M : Touch} {r : State} {n : Fin 64} {s : State} (hDict : M.dict = true) (hNums : M.Nums Nums171) (hLogs : M.logs = true) (hRxTiles : M.rxTiles = true) (hStraps : M.straps = true) (hJournal : M.journal = true) (hEdges : M.edges = true) (hFlags : M.flags = true) (hs : s.outside M = r) :
    NextOutside M r (execSampleOverrun n s) := by
  unfold execSampleOverrun
  extract_lets +onlyGivenNames -merge -underBinder x0
  try clear_value x0
  extract_lets +onlyGivenNames -merge -underBinder x1
  try clear_value x1
  extract_lets +onlyGivenNames -merge -underBinder x2
  try clear_value x2
  extract_lets +onlyGivenNames -merge -underBinder x3
  have q4 : State.outside M x3 = r := by
    unfold x3
    refine State.setRx_outside hRxTiles ?_
    exact hs
  try clear_value x3
  refine next_outside ?_
  refine ite_outside ?_ ?_
  · refine State.rxPost_outside hDict (hNums.sub rfl) hLogs hStraps hJournal hEdges hFlags ?_
    refine State.bump_outside (hNums.at Key.fam_sampleOverrun rfl) ?_
    refine State.rxIdle_outside (hNums.sub rfl) hRxTiles ?_
    exact q4
  · exact q4

theorem execQualifierConfirm_outside {M : Touch} {r : State} {n : Fin 64} {s1 : List Int} {s2 : List Int} {est : Int} {dt : Nat} {s : State} (hClock : M.clock = true) (hNums : M.Nums Nums172) (hVbat : M.vbat = true) (hRxTiles : M.rxTiles = true) (hs : s.outside M = r) :
    NextOutside M r (execQualifierConfirm n s1 s2 est dt s) := by
  unfold execQualifierConfirm
  extract_lets +onlyGivenNames -merge -underBinder x0
  have q1 : State.outside M x0 = r := by
    unfold x0
    refine State.advance_outside hClock hVbat ?_
    exact hs
  try clear_value x0
  extract_lets +onlyGivenNames -merge -underBinder x2
  try clear_value x2
  extract_lets +onlyGivenNames -merge -underBinder x3
  try clear_value x3
  extract_lets +onlyGivenNames -merge -underBinder x4
  try clear_value x4
  refine next_outside ?_
  split
  · exact q1
  · refine ite_outside ?_ ?_
    · refine State.bump_outside (hNums.at Key.fam_rxDetect rfl) ?_
      refine State.modFrame_outside hRxTiles ?_
      exact q1
    · exact q1

theorem execCapture_outside {M : Touch} {r : State} {n : Fin 64} {s1 : List Int} {s2 : List Int} {level : Int} {chips : Nat} {est : Int} {sofar : List RxSym} {dt : Nat} {s : State} (hClock : M.clock = true) (hNums : M.Nums Nums175) (hVbat : M.vbat = true) (hRxTiles : M.rxTiles = true) (hs : s.outside M = r) :
    NextOutside M r (execCapture n s1 s2 level chips est sofar dt s) := by
  unfold execCapture
  extract_lets +onlyGivenNames -merge -underBinder x0
  have q1 : State.outside M x0 = r := by
    unfold x0
    refine State.advance_outside hClock hVbat ?_
    exact hs
  try clear_value x0
  extract_lets +onlyGivenNames -merge -underBinder x2
  try clear_value x2
  extract_lets +onlyGivenNames -merge -underBinder x3
  try clear_value x3
  extract_lets +onlyGivenNames -merge -underBinder x4
  try clear_value x4
  refine next_outside ?_
  split
  · exact q1
  · extract_lets +onlyGivenNames -merge -underBinder x5
    try clear_value x5
    extract_lets +onlyGivenNames -merge -underBinder x6
    try clear_value x6
    extract_lets +onlyGivenNames -merge -underBinder x7
    try clear_value x7
    extract_lets +onlyGivenNames -merge -underBinder x8
    have q9 : State.outside M x8 = r := by
      unfold x8
      refine State.failCands_outside (hNums.sub rfl) ?_
      exact q1
    try clear_value x8
    extract_lets +onlyGivenNames -merge -underBinder x10
    try clear_value x10
    extract_lets +onlyGivenNames -merge -underBinder x11
    try clear_value x11
    extract_lets +onlyGivenNames -merge -underBinder x12
    try clear_value x12
    refine ite_outside ?_ ?_
    · refine State.bump_outside (hNums.at Key.fam_rxDetect rfl) ?_
      refine State.wr_outside (hNums.at Key.fam_rxcState rfl) ?_
      refine State.setRx_outside hRxTiles ?_
      exact q9
    · exact q1

theorem execLateArrival_outside {M : Touch} {r : State} {n : Fin 64} {s1 : List Int} {s2 : List Int} {level : Int} {chips : Nat} {dt : Nat} {s : State} (hClock : M.clock = true) (hNums : M.Nums Nums172) (hVbat : M.vbat = true) (hRxTiles : M.rxTiles = true) (hs : s.outside M = r) :
    NextOutside M r (execLateArrival n s1 s2 level chips dt s) := by
  unfold execLateArrival
  extract_lets +onlyGivenNames -merge -underBinder x0
  have q1 : State.outside M x0 = r := by
    unfold x0
    refine State.advance_outside hClock hVbat ?_
    exact hs
  try clear_value x0
  extract_lets +onlyGivenNames -merge -underBinder x2
  try clear_value x2
  extract_lets +onlyGivenNames -merge -underBinder x3
  try clear_value x3
  extract_lets +onlyGivenNames -merge -underBinder x4
  try clear_value x4
  refine next_outside ?_
  split
  · exact q1
  · extract_lets +onlyGivenNames -merge -underBinder x5
    try clear_value x5
    refine ite_outside ?_ ?_
    · refine State.bump_outside (hNums.at Key.fam_rxDetect rfl) ?_
      refine State.modFrame_outside hRxTiles ?_
      exact q1
    · exact q1

theorem execBackstitchQueueTimeout_outside {M : Touch} {r : State} {dt : Nat} {s : State} (hClock : M.clock = true) (hNums : M.Nums Nums177) (hVbat : M.vbat = true) (hRadio : M.radio = true) (hs : s.outside M = r) :
    NextOutside M r (execBackstitchQueueTimeout dt s) := by
  unfold execBackstitchQueueTimeout
  extract_lets +onlyGivenNames -merge -underBinder x0
  have q1 : State.outside M x0 = r := by
    unfold x0
    refine State.advance_outside hClock hVbat ?_
    exact hs
  try clear_value x0
  extract_lets +onlyGivenNames -merge -underBinder x2
  try clear_value x2
  extract_lets +onlyGivenNames -merge -underBinder x3
  unfold x3
  clear x3
  extract_lets +onlyGivenNames -merge -underBinder x4
  have q5 : State.outside M x4 = r := by
    unfold x4
    refine Eq.trans (State.outside_radio_radio (h0 := hRadio) ..) ?_
    exact q1
  try clear_value x4
  refine next_outside ?_
  refine State.each_outside ?_ ?_
  · intro t6 q7 z8
    refine State.failCands_outside (hNums.sub rfl) ?_
    refine State.release_outside (hNums.sub rfl) ?_
    exact q7
  · exact q5

theorem execDetectTimeout_outside {M : Touch} {r : State} {n : Fin 64} {dt : Nat} {s : State} (hClock : M.clock = true) (hNums : M.Nums Nums20) (hVbat : M.vbat = true) (hRxTiles : M.rxTiles = true) (hs : s.outside M = r) :
    NextOutside M r (execDetectTimeout n dt s) := by
  unfold execDetectTimeout
  extract_lets +onlyGivenNames -merge -underBinder x0
  have q1 : State.outside M x0 = r := by
    unfold x0
    refine State.advance_outside hClock hVbat ?_
    exact hs
  try clear_value x0
  extract_lets +onlyGivenNames -merge -underBinder x2
  try clear_value x2
  refine next_outside ?_
  split
  · exact q1
  · refine ite_outside ?_ ?_
    · refine State.rxIdle_outside hNums hRxTiles ?_
      exact q1
    · exact q1

end Sys2Proof.Machine
end

