-- ==== Sys2Proof/Laws/Frame/TimeCmd.lean ====
section
/-! SUPPORT. What the operations of Machine/TimeCmd.lean leave alone. -/

namespace Sys2Proof.Machine

theorem execTimeStep_outside {M : Touch} {r : State} {delta : Int} {s : State} (hPins : M.pins = true) (hClock : M.clock = true) (hPulses : M.pulses = true) (hChain : M.chain = true) (hChainPorts : M.chainPorts = true) (hDict : M.dict = true) (hAny : M.anyNum = true) (hResults : M.results = true) (hLogs : M.logs = true) (hPorts : M.ports = true) (hRxTiles : M.rxTiles = true) (hTxTiles : M.txTiles = true) (hRecs : M.recs = true) (hSched : M.sched = true) (hSb : M.sb = true) (hStraps : M.straps = true) (hJournal : M.journal = true) (hNodeQueues : M.nodeQueues = true) (hLacing : M.lacing = true) (hEdges : M.edges = true) (hHost : M.host = true) (hFlags : M.flags = true) (hReports : M.reports = true) (hs : s.outside M = r) :
    NextOutside M r (execTimeStep delta s) := by
  unfold execTimeStep
  refine next_outside ?_
  refine ite_outside ?_ ?_
  · exact hs
  · refine State.epochCheck_outside hPins hChain hChainPorts hDict hAny hResults hLogs hPorts hRxTiles hTxTiles hRecs hSched hSb hStraps hJournal hNodeQueues hLacing hEdges hHost hFlags hReports ?_
    refine State.timeStep_outside hPins hClock hPulses hDict (.any hAny) hResults hLogs hStraps hJournal hEdges hFlags ?_
    exact hs

theorem execTimeSet_outside {M : Touch} {r : State} {sec : Fin 281474976710656} {ns : Fin 1000000000} {s : State} (hPins : M.pins = true) (hClock : M.clock = true) (hPulses : M.pulses = true) (hChain : M.chain = true) (hChainPorts : M.chainPorts = true) (hDict : M.dict = true) (hAny : M.anyNum = true) (hResults : M.results = true) (hLogs : M.logs = true) (hPorts : M.ports = true) (hRxTiles : M.rxTiles = true) (hTxTiles : M.txTiles = true) (hRecs : M.recs = true) (hSched : M.sched = true) (hSb : M.sb = true) (hStraps : M.straps = true) (hJournal : M.journal = true) (hNodeQueues : M.nodeQueues = true) (hLacing : M.lacing = true) (hEdges : M.edges = true) (hHost : M.host = true) (hFlags : M.flags = true) (hReports : M.reports = true) (hs : s.outside M = r) :
    NextOutside M r (execTimeSet sec ns s) := by
  unfold execTimeSet
  refine next_outside ?_
  refine ite_outside ?_ ?_
  · exact hs
  · refine State.epochCheck_outside hPins hChain hChainPorts hDict hAny hResults hLogs hPorts hRxTiles hTxTiles hRecs hSched hSb hStraps hJournal hNodeQueues hLacing hEdges hHost hFlags hReports ?_
    refine State.timeSetTo_outside hPins hClock hPulses hResults hEdges ?_
    exact hs

theorem execPtpSample_outside {M : Touch} {r : State} {x : PtpExchange} {dt : Nat} {s : State} (hPins : M.pins = true) (hClock : M.clock = true) (hPulses : M.pulses = true) (hChain : M.chain = true) (hChainPorts : M.chainPorts = true) (hDict : M.dict = true) (hAny : M.anyNum = true) (hResults : M.results = true) (hLogs : M.logs = true) (hVbat : M.vbat = true) (hPorts : M.ports = true) (hRxTiles : M.rxTiles = true) (hTxTiles : M.txTiles = true) (hRecs : M.recs = true) (hSched : M.sched = true) (hSb : M.sb = true) (hStraps : M.straps = true) (hJournal : M.journal = true) (hNodeQueues : M.nodeQueues = true) (hLacing : M.lacing = true) (hEdges : M.edges = true) (hHost : M.host = true) (hFlags : M.flags = true) (hReports : M.reports = true) (hs : s.outside M = r) :
    NextOutside M r (execPtpSample x dt s) := by
  unfold execPtpSample
  refine next_outside ?_
  refine State.epochCheck_outside hPins hChain hChainPorts hDict hAny hResults hLogs hPorts hRxTiles hTxTiles hRecs hSched hSb hStraps hJournal hNodeQueues hLacing hEdges hHost hFlags hReports ?_
  refine State.ptpSample_outside hPins hClock hPulses hDict (.any hAny) hLogs hStraps hJournal hEdges hFlags ?_
  refine State.advance_outside hClock hVbat ?_
  exact hs

end Sys2Proof.Machine
end

