-- ==== Sys2Proof/Laws/Frame/Step.lean ====
section
/-! SUPPORT. What the operations of Machine/Step.lean leave alone. -/

namespace Sys2Proof.Machine

theorem State.withFetchWord_outside {M : Touch} {r : State} {s : State} {nbits : Nat} {w : Nat} (hPending : M.pending = true) (hs : s.outside M = r) :
    (State.withFetchWord s nbits w).outside M = r := by
  unfold State.withFetchWord
  split
  · refine Eq.trans (State.outside_pending (h0 := hPending) ..) ?_
    exact hs
  · exact hs

theorem State.withFetchWord_keeps {s : State} {nbits : Nat} {w : Nat} : Kept255 s (State.withFetchWord s nbits w) :=
  .of (State.withFetchWord_outside rfl rfl)

end Sys2Proof.Machine
end

