-- ==== Sys2Proof/Laws/Memory.lean ====
section
/-! SUPPORT. The local memories and the attached memory: every operation keeps their canonical form, and a byte reads what was stored there last. -/

namespace Sys2Proof

/-- A fold of byte writes keeps the canonical form. -/
theorem KMap.canon_foldl {α β : Type} [DecidableEq α] {d : α} (key : β → Nat) (val : β → α) (l : List β) {m : KMap α}
    (h : KMap.canon (fun _ => d) m = true) : KMap.canon (fun _ => d) (l.foldl (fun m x => KMap.setD m d (key x) (val x)) m) = true := by
  induction l generalizing m with
  | nil => exact h
  | cons x l ih => exact ih (KMap.canon_setD _ _ h)

/-- After a fold of writes at different keys, a key reads what was written there, or else what it read before. -/
theorem KMap.getD_foldl {α : Type} [DecidableEq α] {d : α} (base : Nat) (f : Nat → α) (n : Nat) (m : KMap α) (k : Nat) :
    KMap.getD ((List.range n).foldl (fun m i => KMap.setD m d (base + i) (f i)) m) d k =
      if base ≤ k ∧ k < base + n then f (k - base) else KMap.getD m d k := by
  induction n with
  | zero => rw [if_neg (by omega)]; rfl
  | succ n ih =>
    rw [List.range_succ, List.foldl_append, List.foldl_cons, List.foldl_nil]
    by_cases hk : k = base + n
    · subst hk
      rw [KMap.getD_setD_self, if_pos ⟨by omega, by omega⟩, Nat.add_sub_cancel_left]
    · rw [KMap.getD_setD_ne _ _ _ _ hk, ih]
      exact if_congr (by omega) rfl rfl

namespace Machine

/-- Storing to a local memory keeps both memories in canonical form. -/
theorem State.wf_localStore {s : State} (n a : Nat) (bs : Bytes) (h : Memory.wf s) : Memory.wf (s.localStore n a bs) :=
  ⟨KMap.canon_foldl _ _ _ h.1, h.2⟩

/-- Loading an image keeps both memories in canonical form. -/
theorem State.wf_localLoad {s : State} (n : Nat) (d : Bytes) (h : Memory.wf s) : Memory.wf (s.localLoad n d) :=
  State.wf_localStore n 0 d ⟨KMap.canon_filter _ h.1, h.2⟩

/-- Storing to the attached memory keeps both memories in canonical form. -/
theorem State.wf_sbStore {s : State} (off : Nat) (bs : Bytes) (h : Memory.wf s) : Memory.wf (s.sbStore off bs) :=
  ⟨h.1, KMap.canon_foldl (fun p : Nat × Byte => off + p.1) (fun p => p.2) ((List.range bs.length).zip bs) h.2⟩

/-- The memories of the state after reset list nothing. -/
theorem State.wf_reset : Memory.wf State.reset := ⟨rfl, rfl⟩

/-- A byte of a local memory reads what was stored there last. -/
theorem State.localByte_localStore (s : State) (n a k : Nat) (bs : Bytes) : (s.localStore n a bs).localByte n k =
    if a ≤ k ∧ k < a + bs.length then bs.getD (k - a) 0#8 else s.localByte n k := by
  unfold State.localStore State.localByte State.localPut
  simp only [KMap.getD_foldl]
  by_cases h : a ≤ k ∧ k < a + bs.length
  · rw [if_pos ⟨by omega, by omega⟩, if_pos h]
    congr 1
    omega
  · rw [if_neg (by omega), if_neg h]

/-- A store to one core's memory leaves another's alone. -/
theorem State.localByte_localStore_ne (s : State) {n m : Nat} (a k : Nat) (bs : Bytes) (hm : m ≠ n) (ha : a + bs.length ≤ localSize)
    (hk : k < localSize) : (s.localStore n a bs).localByte m k = s.localByte m k := by
  unfold State.localStore State.localByte State.localPut
  simp only [KMap.getD_foldl]
  refine if_neg fun h => ?_
  unfold localSize at *
  omega

end Machine

end Sys2Proof
end

