-- ==== Sys2Proof/Laws/Readers.lean ====
section
/-! SUPPORT. Reading a state that is written out as an update of its fields, and the readers by their short names. -/

namespace Sys2Proof.Machine

@[simp] theorem State.rd_mk (x0 : List Instr) (x1 : Nat) (x2 : List Out) (x3 : Ident) (x4 : Fuses) (x5 : Pins) (x6 : Clock) (x7 : Vector Pulse 4) (x8 : Chain) (x9 : Dictionary) (x10 : Power) (x11 : Vbat) (x12 : Radio) (x13 : Girth) (x14 : Keeper) (x15 : Saddlebag) (x16 : Tables) (x17 : Harness) (x18 : Lacing) (x19 : Tree) (x20 : Curb) (x21 : Concho) (x22 : Cores) (x23 : Buckle) (x24 : HostIf) (k : Nat) :
    (State.mk x0 x1 x2 x3 x4 x5 x6 x7 x8 x9 x10 x11 x12 x13 x14 x15 x16 x17 x18 x19 x20 x21 x22 x23 x24).rd k = KMap.getD x9.nums (dflt k) k := rfl

@[simp] theorem State.fold_rd (s : State) (k : Nat) : KMap.getD s.dict.nums (dflt k) k = s.rd k := rfl

@[simp] theorem State.dom_mk (x0 : List Instr) (x1 : Nat) (x2 : List Out) (x3 : Ident) (x4 : Fuses) (x5 : Pins) (x6 : Clock) (x7 : Vector Pulse 4) (x8 : Chain) (x9 : Dictionary) (x10 : Power) (x11 : Vbat) (x12 : Radio) (x13 : Girth) (x14 : Keeper) (x15 : Saddlebag) (x16 : Tables) (x17 : Harness) (x18 : Lacing) (x19 : Tree) (x20 : Curb) (x21 : Concho) (x22 : Cores) (x23 : Buckle) (x24 : HostIf) (k : Nat) :
    (State.mk x0 x1 x2 x3 x4 x5 x6 x7 x8 x9 x10 x11 x12 x13 x14 x15 x16 x17 x18 x19 x20 x21 x22 x23 x24).dom k = KMap.getD x9.doms [] k := rfl

@[simp] theorem State.fold_dom (s : State) (k : Nat) : KMap.getD s.dict.doms [] k = s.dom k := rfl

@[simp] theorem State.res_mk (x0 : List Instr) (x1 : Nat) (x2 : List Out) (x3 : Ident) (x4 : Fuses) (x5 : Pins) (x6 : Clock) (x7 : Vector Pulse 4) (x8 : Chain) (x9 : Dictionary) (x10 : Power) (x11 : Vbat) (x12 : Radio) (x13 : Girth) (x14 : Keeper) (x15 : Saddlebag) (x16 : Tables) (x17 : Harness) (x18 : Lacing) (x19 : Tree) (x20 : Curb) (x21 : Concho) (x22 : Cores) (x23 : Buckle) (x24 : HostIf) (k : Nat) :
    (State.mk x0 x1 x2 x3 x4 x5 x6 x7 x8 x9 x10 x11 x12 x13 x14 x15 x16 x17 x18 x19 x20 x21 x22 x23 x24).res k = KMap.getD x9.results { seq := 0, outcome := 0, busy := false, code := 0, data := [] } k := rfl

@[simp] theorem State.fold_res (s : State) (k : Nat) : KMap.getD s.dict.results { seq := 0, outcome := 0, busy := false, code := 0, data := [] } k = s.res k := rfl

@[simp] theorem State.strap_mk (x0 : List Instr) (x1 : Nat) (x2 : List Out) (x3 : Ident) (x4 : Fuses) (x5 : Pins) (x6 : Clock) (x7 : Vector Pulse 4) (x8 : Chain) (x9 : Dictionary) (x10 : Power) (x11 : Vbat) (x12 : Radio) (x13 : Girth) (x14 : Keeper) (x15 : Saddlebag) (x16 : Tables) (x17 : Harness) (x18 : Lacing) (x19 : Tree) (x20 : Curb) (x21 : Concho) (x22 : Cores) (x23 : Buckle) (x24 : HostIf) (q : Nat) :
    (State.mk x0 x1 x2 x3 x4 x5 x6 x7 x8 x9 x10 x11 x12 x13 x14 x15 x16 x17 x18 x19 x20 x21 x22 x23 x24).strap q = KMap.getD x15.queues StrapQ.empty q := rfl

@[simp] theorem State.fold_strap (s : State) (q : Nat) : KMap.getD s.sb.queues StrapQ.empty q = s.strap q := rfl

@[simp] theorem State.nodeQ_mk (x0 : List Instr) (x1 : Nat) (x2 : List Out) (x3 : Ident) (x4 : Fuses) (x5 : Pins) (x6 : Clock) (x7 : Vector Pulse 4) (x8 : Chain) (x9 : Dictionary) (x10 : Power) (x11 : Vbat) (x12 : Radio) (x13 : Girth) (x14 : Keeper) (x15 : Saddlebag) (x16 : Tables) (x17 : Harness) (x18 : Lacing) (x19 : Tree) (x20 : Curb) (x21 : Concho) (x22 : Cores) (x23 : Buckle) (x24 : HostIf) (r : Nat) :
    (State.mk x0 x1 x2 x3 x4 x5 x6 x7 x8 x9 x10 x11 x12 x13 x14 x15 x16 x17 x18 x19 x20 x21 x22 x23 x24).nodeQ r = KMap.getD x15.nodes { frames := [], welt := none } r := rfl

@[simp] theorem State.fold_nodeQ (s : State) (r : Nat) : KMap.getD s.sb.nodes { frames := [], welt := none } r = s.nodeQ r := rfl

@[simp] theorem State.nrec_mk (x0 : List Instr) (x1 : Nat) (x2 : List Out) (x3 : Ident) (x4 : Fuses) (x5 : Pins) (x6 : Clock) (x7 : Vector Pulse 4) (x8 : Chain) (x9 : Dictionary) (x10 : Power) (x11 : Vbat) (x12 : Radio) (x13 : Girth) (x14 : Keeper) (x15 : Saddlebag) (x16 : Tables) (x17 : Harness) (x18 : Lacing) (x19 : Tree) (x20 : Curb) (x21 : Concho) (x22 : Cores) (x23 : Buckle) (x24 : HostIf) (r : Nat) :
    (State.mk x0 x1 x2 x3 x4 x5 x6 x7 x8 x9 x10 x11 x12 x13 x14 x15 x16 x17 x18 x19 x20 x21 x22 x23 x24).nrec r = KMap.getD x13.recs NodeRec.free r := rfl

@[simp] theorem State.fold_nrec (s : State) (r : Nat) : KMap.getD s.girth.recs NodeRec.free r = s.nrec r := rfl

@[simp] theorem State.slot_mk (x0 : List Instr) (x1 : Nat) (x2 : List Out) (x3 : Ident) (x4 : Fuses) (x5 : Pins) (x6 : Clock) (x7 : Vector Pulse 4) (x8 : Chain) (x9 : Dictionary) (x10 : Power) (x11 : Vbat) (x12 : Radio) (x13 : Girth) (x14 : Keeper) (x15 : Saddlebag) (x16 : Tables) (x17 : Harness) (x18 : Lacing) (x19 : Tree) (x20 : Curb) (x21 : Concho) (x22 : Cores) (x23 : Buckle) (x24 : HostIf) (n : Nat) :
    (State.mk x0 x1 x2 x3 x4 x5 x6 x7 x8 x9 x10 x11 x12 x13 x14 x15 x16 x17 x18 x19 x20 x21 x22 x23 x24).slot n = KMap.getD x14.slots (Slot.empty 0) n := rfl

@[simp] theorem State.fold_slot (s : State) (n : Nat) : KMap.getD s.keeper.slots (Slot.empty 0) n = s.slot n := rfl

@[simp] theorem State.camp_mk (x0 : List Instr) (x1 : Nat) (x2 : List Out) (x3 : Ident) (x4 : Fuses) (x5 : Pins) (x6 : Clock) (x7 : Vector Pulse 4) (x8 : Chain) (x9 : Dictionary) (x10 : Power) (x11 : Vbat) (x12 : Radio) (x13 : Girth) (x14 : Keeper) (x15 : Saddlebag) (x16 : Tables) (x17 : Harness) (x18 : Lacing) (x19 : Tree) (x20 : Curb) (x21 : Concho) (x22 : Cores) (x23 : Buckle) (x24 : HostIf) (k : Nat) :
    (State.mk x0 x1 x2 x3 x4 x5 x6 x7 x8 x9 x10 x11 x12 x13 x14 x15 x16 x17 x18 x19 x20 x21 x22 x23 x24).camp k = KMap.getD x18.camps Campaign.empty k := rfl

@[simp] theorem State.fold_camp (s : State) (k : Nat) : KMap.getD s.lacing.camps Campaign.empty k = s.camp k := rfl

@[simp] theorem State.core_mk (x0 : List Instr) (x1 : Nat) (x2 : List Out) (x3 : Ident) (x4 : Fuses) (x5 : Pins) (x6 : Clock) (x7 : Vector Pulse 4) (x8 : Chain) (x9 : Dictionary) (x10 : Power) (x11 : Vbat) (x12 : Radio) (x13 : Girth) (x14 : Keeper) (x15 : Saddlebag) (x16 : Tables) (x17 : Harness) (x18 : Lacing) (x19 : Tree) (x20 : Curb) (x21 : Concho) (x22 : Cores) (x23 : Buckle) (x24 : HostIf) (n : Nat) :
    (State.mk x0 x1 x2 x3 x4 x5 x6 x7 x8 x9 x10 x11 x12 x13 x14 x15 x16 x17 x18 x19 x20 x21 x22 x23 x24).core n = KMap.getD x22.core (Core.atReset n) n := rfl

@[simp] theorem State.fold_core (s : State) (n : Nat) : KMap.getD s.cores.core (Core.atReset n) n = s.core n := rfl

@[simp] theorem State.outQ_mk (x0 : List Instr) (x1 : Nat) (x2 : List Out) (x3 : Ident) (x4 : Fuses) (x5 : Pins) (x6 : Clock) (x7 : Vector Pulse 4) (x8 : Chain) (x9 : Dictionary) (x10 : Power) (x11 : Vbat) (x12 : Radio) (x13 : Girth) (x14 : Keeper) (x15 : Saddlebag) (x16 : Tables) (x17 : Harness) (x18 : Lacing) (x19 : Tree) (x20 : Curb) (x21 : Concho) (x22 : Cores) (x23 : Buckle) (x24 : HostIf) (h c : Nat) :
    (State.mk x0 x1 x2 x3 x4 x5 x6 x7 x8 x9 x10 x11 x12 x13 x14 x15 x16 x17 x18 x19 x20 x21 x22 x23 x24).outQ h c = KMap.getD x17.queues OutQ.empty (8 * h + c) := rfl

@[simp] theorem State.fold_outQ (s : State) (h c : Nat) : KMap.getD s.har.queues OutQ.empty (8 * h + c) = s.outQ h c := rfl

@[simp] theorem State.shaper_mk (x0 : List Instr) (x1 : Nat) (x2 : List Out) (x3 : Ident) (x4 : Fuses) (x5 : Pins) (x6 : Clock) (x7 : Vector Pulse 4) (x8 : Chain) (x9 : Dictionary) (x10 : Power) (x11 : Vbat) (x12 : Radio) (x13 : Girth) (x14 : Keeper) (x15 : Saddlebag) (x16 : Tables) (x17 : Harness) (x18 : Lacing) (x19 : Tree) (x20 : Curb) (x21 : Concho) (x22 : Cores) (x23 : Buckle) (x24 : HostIf) (t x : Nat) :
    (State.mk x0 x1 x2 x3 x4 x5 x6 x7 x8 x9 x10 x11 x12 x13 x14 x15 x16 x17 x18 x19 x20 x21 x22 x23 x24).shaper t x = KMap.getD x20.shapers { next := 0, rate := 0, sojourn := none } (16 * t + x) := rfl

@[simp] theorem State.fold_shaper (s : State) (t x : Nat) : KMap.getD s.curb.shapers { next := 0, rate := 0, sojourn := none } (16 * t + x) = s.shaper t x := rfl

@[simp] theorem State.policer_mk (x0 : List Instr) (x1 : Nat) (x2 : List Out) (x3 : Ident) (x4 : Fuses) (x5 : Pins) (x6 : Clock) (x7 : Vector Pulse 4) (x8 : Chain) (x9 : Dictionary) (x10 : Power) (x11 : Vbat) (x12 : Radio) (x13 : Girth) (x14 : Keeper) (x15 : Saddlebag) (x16 : Tables) (x17 : Harness) (x18 : Lacing) (x19 : Tree) (x20 : Curb) (x21 : Concho) (x22 : Cores) (x23 : Buckle) (x24 : HostIf) (t c : Nat) :
    (State.mk x0 x1 x2 x3 x4 x5 x6 x7 x8 x9 x10 x11 x12 x13 x14 x15 x16 x17 x18 x19 x20 x21 x22 x23 x24).policer t c = KMap.getD x20.policers { tc := 0, te := 0, remC := 0, remE := 0, last := 0, mode := 0 } (8 * t + c) := rfl

@[simp] theorem State.fold_policer (s : State) (t c : Nat) : KMap.getD s.curb.policers { tc := 0, te := 0, remC := 0, remE := 0, last := 0, mode := 0 } (8 * t + c) = s.policer t c := rfl

@[simp] theorem State.port_mk (x0 : List Instr) (x1 : Nat) (x2 : List Out) (x3 : Ident) (x4 : Fuses) (x5 : Pins) (x6 : Clock) (x7 : Vector Pulse 4) (x8 : Chain) (x9 : Dictionary) (x10 : Power) (x11 : Vbat) (x12 : Radio) (x13 : Girth) (x14 : Keeper) (x15 : Saddlebag) (x16 : Tables) (x17 : Harness) (x18 : Lacing) (x19 : Tree) (x20 : Curb) (x21 : Concho) (x22 : Cores) (x23 : Buckle) (x24 : HostIf) (p : Nat) :
    (State.mk x0 x1 x2 x3 x4 x5 x6 x7 x8 x9 x10 x11 x12 x13 x14 x15 x16 x17 x18 x19 x20 x21 x22 x23 x24).port p = x12.ports.getD p Port.initial := rfl

@[simp] theorem State.fold_port (s : State) (p : Nat) : s.radio.ports.getD p Port.initial = s.port p := rfl

@[simp] theorem State.rx_mk (x0 : List Instr) (x1 : Nat) (x2 : List Out) (x3 : Ident) (x4 : Fuses) (x5 : Pins) (x6 : Clock) (x7 : Vector Pulse 4) (x8 : Chain) (x9 : Dictionary) (x10 : Power) (x11 : Vbat) (x12 : Radio) (x13 : Girth) (x14 : Keeper) (x15 : Saddlebag) (x16 : Tables) (x17 : Harness) (x18 : Lacing) (x19 : Tree) (x20 : Curb) (x21 : Concho) (x22 : Cores) (x23 : Buckle) (x24 : HostIf) (n : Nat) :
    (State.mk x0 x1 x2 x3 x4 x5 x6 x7 x8 x9 x10 x11 x12 x13 x14 x15 x16 x17 x18 x19 x20 x21 x22 x23 x24).rx n = x12.rx.getD n RxTile.initial := rfl

@[simp] theorem State.fold_rx (s : State) (n : Nat) : s.radio.rx.getD n RxTile.initial = s.rx n := rfl

@[simp] theorem State.tx_mk (x0 : List Instr) (x1 : Nat) (x2 : List Out) (x3 : Ident) (x4 : Fuses) (x5 : Pins) (x6 : Clock) (x7 : Vector Pulse 4) (x8 : Chain) (x9 : Dictionary) (x10 : Power) (x11 : Vbat) (x12 : Radio) (x13 : Girth) (x14 : Keeper) (x15 : Saddlebag) (x16 : Tables) (x17 : Harness) (x18 : Lacing) (x19 : Tree) (x20 : Curb) (x21 : Concho) (x22 : Cores) (x23 : Buckle) (x24 : HostIf) (n : Nat) :
    (State.mk x0 x1 x2 x3 x4 x5 x6 x7 x8 x9 x10 x11 x12 x13 x14 x15 x16 x17 x18 x19 x20 x21 x22 x23 x24).tx n = x12.tx.getD n TxTile.initial := rfl

@[simp] theorem State.fold_tx (s : State) (n : Nat) : s.radio.tx.getD n TxTile.initial = s.tx n := rfl

@[simp] theorem State.pulse_mk (x0 : List Instr) (x1 : Nat) (x2 : List Out) (x3 : Ident) (x4 : Fuses) (x5 : Pins) (x6 : Clock) (x7 : Vector Pulse 4) (x8 : Chain) (x9 : Dictionary) (x10 : Power) (x11 : Vbat) (x12 : Radio) (x13 : Girth) (x14 : Keeper) (x15 : Saddlebag) (x16 : Tables) (x17 : Harness) (x18 : Lacing) (x19 : Tree) (x20 : Curb) (x21 : Concho) (x22 : Cores) (x23 : Buckle) (x24 : HostIf) (k : Nat) :
    (State.mk x0 x1 x2 x3 x4 x5 x6 x7 x8 x9 x10 x11 x12 x13 x14 x15 x16 x17 x18 x19 x20 x21 x22 x23 x24).pulse k = x7.getD k Pulse.off := rfl

@[simp] theorem State.fold_pulse (s : State) (k : Nat) : s.pulses.getD k Pulse.off = s.pulse k := rfl

@[simp] theorem State.window_mk (x0 : List Instr) (x1 : Nat) (x2 : List Out) (x3 : Ident) (x4 : Fuses) (x5 : Pins) (x6 : Clock) (x7 : Vector Pulse 4) (x8 : Chain) (x9 : Dictionary) (x10 : Power) (x11 : Vbat) (x12 : Radio) (x13 : Girth) (x14 : Keeper) (x15 : Saddlebag) (x16 : Tables) (x17 : Harness) (x18 : Lacing) (x19 : Tree) (x20 : Curb) (x21 : Concho) (x22 : Cores) (x23 : Buckle) (x24 : HostIf) (who : Nat) :
    (State.mk x0 x1 x2 x3 x4 x5 x6 x7 x8 x9 x10 x11 x12 x13 x14 x15 x16 x17 x18 x19 x20 x21 x22 x23 x24).window who = KMap.getD x16.windows { arg := [], code := 0, busy := false, ret := [] } who := rfl

@[simp] theorem State.fold_window (s : State) (who : Nat) : KMap.getD s.tables.windows { arg := [], code := 0, busy := false, ret := [] } who = s.window who := rfl

@[simp] theorem State.pend_mk (x0 : List Instr) (x1 : Nat) (x2 : List Out) (x3 : Ident) (x4 : Fuses) (x5 : Pins) (x6 : Clock) (x7 : Vector Pulse 4) (x8 : Chain) (x9 : Dictionary) (x10 : Power) (x11 : Vbat) (x12 : Radio) (x13 : Girth) (x14 : Keeper) (x15 : Saddlebag) (x16 : Tables) (x17 : Harness) (x18 : Lacing) (x19 : Tree) (x20 : Curb) (x21 : Concho) (x22 : Cores) (x23 : Buckle) (x24 : HostIf) (n : Nat) :
    (State.mk x0 x1 x2 x3 x4 x5 x6 x7 x8 x9 x10 x11 x12 x13 x14 x15 x16 x17 x18 x19 x20 x21 x22 x23 x24).pend n = KMap.getD x23.pend 0 n := rfl

@[simp] theorem State.fold_pend (s : State) (n : Nat) : KMap.getD s.buckle.pend 0 n = s.pend n := rfl

@[simp] theorem State.mask_mk (x0 : List Instr) (x1 : Nat) (x2 : List Out) (x3 : Ident) (x4 : Fuses) (x5 : Pins) (x6 : Clock) (x7 : Vector Pulse 4) (x8 : Chain) (x9 : Dictionary) (x10 : Power) (x11 : Vbat) (x12 : Radio) (x13 : Girth) (x14 : Keeper) (x15 : Saddlebag) (x16 : Tables) (x17 : Harness) (x18 : Lacing) (x19 : Tree) (x20 : Curb) (x21 : Concho) (x22 : Cores) (x23 : Buckle) (x24 : HostIf) (n : Nat) :
    (State.mk x0 x1 x2 x3 x4 x5 x6 x7 x8 x9 x10 x11 x12 x13 x14 x15 x16 x17 x18 x19 x20 x21 x22 x23 x24).mask n = KMap.getD x23.mask 0 n := rfl

@[simp] theorem State.fold_mask (s : State) (n : Nat) : KMap.getD s.buckle.mask 0 n = s.mask n := rfl

@[simp] theorem State.rxRing_mk (x0 : List Instr) (x1 : Nat) (x2 : List Out) (x3 : Ident) (x4 : Fuses) (x5 : Pins) (x6 : Clock) (x7 : Vector Pulse 4) (x8 : Chain) (x9 : Dictionary) (x10 : Power) (x11 : Vbat) (x12 : Radio) (x13 : Girth) (x14 : Keeper) (x15 : Saddlebag) (x16 : Tables) (x17 : Harness) (x18 : Lacing) (x19 : Tree) (x20 : Curb) (x21 : Concho) (x22 : Cores) (x23 : Buckle) (x24 : HostIf) (n : Nat) :
    (State.mk x0 x1 x2 x3 x4 x5 x6 x7 x8 x9 x10 x11 x12 x13 x14 x15 x16 x17 x18 x19 x20 x21 x22 x23 x24).rxRing n = KMap.getD x24.rx Ring.off n := rfl

@[simp] theorem State.fold_rxRing (s : State) (n : Nat) : KMap.getD s.host.rx Ring.off n = s.rxRing n := rfl

@[simp] theorem State.txRing_mk (x0 : List Instr) (x1 : Nat) (x2 : List Out) (x3 : Ident) (x4 : Fuses) (x5 : Pins) (x6 : Clock) (x7 : Vector Pulse 4) (x8 : Chain) (x9 : Dictionary) (x10 : Power) (x11 : Vbat) (x12 : Radio) (x13 : Girth) (x14 : Keeper) (x15 : Saddlebag) (x16 : Tables) (x17 : Harness) (x18 : Lacing) (x19 : Tree) (x20 : Curb) (x21 : Concho) (x22 : Cores) (x23 : Buckle) (x24 : HostIf) (n : Nat) :
    (State.mk x0 x1 x2 x3 x4 x5 x6 x7 x8 x9 x10 x11 x12 x13 x14 x15 x16 x17 x18 x19 x20 x21 x22 x23 x24).txRing n = KMap.getD x24.tx Ring.off n := rfl

@[simp] theorem State.fold_txRing (s : State) (n : Nat) : KMap.getD s.host.tx Ring.off n = s.txRing n := rfl

@[simp] theorem State.cause_mk (x0 : List Instr) (x1 : Nat) (x2 : List Out) (x3 : Ident) (x4 : Fuses) (x5 : Pins) (x6 : Clock) (x7 : Vector Pulse 4) (x8 : Chain) (x9 : Dictionary) (x10 : Power) (x11 : Vbat) (x12 : Radio) (x13 : Girth) (x14 : Keeper) (x15 : Saddlebag) (x16 : Tables) (x17 : Harness) (x18 : Lacing) (x19 : Tree) (x20 : Curb) (x21 : Concho) (x22 : Cores) (x23 : Buckle) (x24 : HostIf) (c : Nat) :
    (State.mk x0 x1 x2 x3 x4 x5 x6 x7 x8 x9 x10 x11 x12 x13 x14 x15 x16 x17 x18 x19 x20 x21 x22 x23 x24).cause c = KMap.getD x24.causes (false, c % 64) c := rfl

@[simp] theorem State.fold_cause (s : State) (c : Nat) : KMap.getD s.host.causes (false, c % 64) c = s.cause c := rfl

@[simp] theorem State.vector_mk (x0 : List Instr) (x1 : Nat) (x2 : List Out) (x3 : Ident) (x4 : Fuses) (x5 : Pins) (x6 : Clock) (x7 : Vector Pulse 4) (x8 : Chain) (x9 : Dictionary) (x10 : Power) (x11 : Vbat) (x12 : Radio) (x13 : Girth) (x14 : Keeper) (x15 : Saddlebag) (x16 : Tables) (x17 : Harness) (x18 : Lacing) (x19 : Tree) (x20 : Curb) (x21 : Concho) (x22 : Cores) (x23 : Buckle) (x24 : HostIf) (v : Nat) :
    (State.mk x0 x1 x2 x3 x4 x5 x6 x7 x8 x9 x10 x11 x12 x13 x14 x15 x16 x17 x18 x19 x20 x21 x22 x23 x24).vector v = KMap.getD x24.vectors MsixVector.off v := rfl

@[simp] theorem State.fold_vector (s : State) (v : Nat) : KMap.getD s.host.vectors MsixVector.off v = s.vector v := rfl

@[simp] theorem State.elapsed_mk (x0 : List Instr) (x1 : Nat) (x2 : List Out) (x3 : Ident) (x4 : Fuses) (x5 : Pins) (x6 : Clock) (x7 : Vector Pulse 4) (x8 : Chain) (x9 : Dictionary) (x10 : Power) (x11 : Vbat) (x12 : Radio) (x13 : Girth) (x14 : Keeper) (x15 : Saddlebag) (x16 : Tables) (x17 : Harness) (x18 : Lacing) (x19 : Tree) (x20 : Curb) (x21 : Concho) (x22 : Cores) (x23 : Buckle) (x24 : HostIf)  :
    (State.mk x0 x1 x2 x3 x4 x5 x6 x7 x8 x9 x10 x11 x12 x13 x14 x15 x16 x17 x18 x19 x20 x21 x22 x23 x24).elapsed = x6.elapsed := rfl

@[simp] theorem State.fold_elapsed (s : State) : s.clock.elapsed = s.elapsed := rfl

@[simp] theorem State.coreIsl_mk (x0 : List Instr) (x1 : Nat) (x2 : List Out) (x3 : Ident) (x4 : Fuses) (x5 : Pins) (x6 : Clock) (x7 : Vector Pulse 4) (x8 : Chain) (x9 : Dictionary) (x10 : Power) (x11 : Vbat) (x12 : Radio) (x13 : Girth) (x14 : Keeper) (x15 : Saddlebag) (x16 : Tables) (x17 : Harness) (x18 : Lacing) (x19 : Tree) (x20 : Curb) (x21 : Concho) (x22 : Cores) (x23 : Buckle) (x24 : HostIf) (n : Nat) :
    (State.mk x0 x1 x2 x3 x4 x5 x6 x7 x8 x9 x10 x11 x12 x13 x14 x15 x16 x17 x18 x19 x20 x21 x22 x23 x24).coreIsl n = x10.coreIslands.getD n Islands.atReset := rfl

@[simp] theorem State.fold_coreIsl (s : State) (n : Nat) : s.power.coreIslands.getD n Islands.atReset = s.coreIsl n := rfl

end Sys2Proof.Machine
end

