-- ==== Sys2Proof/Laws/State.lean ====
section
/-! SUPPORT. Read after write: what each update of the state does to the one thing it writes. That it leaves the rest alone is in
Laws/Frame. -/

namespace Sys2Proof

theorem vmod_getD_self {α : Type} {n : Nat} (f : α → α) (v : Vector α n) (d : α) {i : Nat} (h : i < n) :
    (vmod f i v).getD i d = f (v.getD i d) := by
  simp [vmod, h, Vector.getD]

theorem vmod_getD_ne {α : Type} {n : Nat} (f : α → α) (v : Vector α n) (d : α) {i j : Nat} (h : j ≠ i) :
    (vmod f i v).getD j d = v.getD j d := by
  unfold vmod
  split_ifs with hi
  · by_cases hj : j < n
    · simp [Vector.getD, hj, Ne.symm h]
    · simp [Vector.getD, hj]
  · rfl

namespace Machine

@[simp] theorem gives_next {s : State} {p : State → Prop} : Gives (.next s) p ↔ p s :=
  ⟨fun ⟨_, h, hp⟩ => by cases h; exact hp, fun h => ⟨s, rfl, h⟩⟩

@[simp] theorem goes_next {s : State} : Goes (.next s) := ⟨s, rfl⟩

/-- A command that answers a next state with a property answers a next state. -/
theorem Gives.goes {o : Step} {p : State → Prop} (h : Gives o p) : Goes o := let ⟨t, e, _⟩ := h; ⟨t, e⟩

theorem NextOutside.goes {M : Touch} {r : State} {o : Step} (h : NextOutside M r o) : Goes o := let ⟨t, e, _⟩ := h; ⟨t, e⟩

/-! ### Numbers of the dictionary -/

theorem State.rd_wr (s : State) (k j v : Nat) : (s.wr k v).rd j = if j = k then v else s.rd j := by
  split_ifs with h
  · subst h; exact KMap.getD_setD_self _ _ _ _
  · exact KMap.getD_setD_ne _ _ _ _ h

@[simp] theorem State.rd_wr_self (s : State) (k v : Nat) : (s.wr k v).rd k = v := by simp [State.rd_wr]

theorem State.rd_wr_ne (s : State) {k j : Nat} (v : Nat) (h : j ≠ k) : (s.wr k v).rd j = s.rd j := by simp [State.rd_wr, h]

@[simp] theorem State.rd_bump_self (s : State) (k n : Nat) : (s.bump k n).rd k = satAdd u32Max (s.rd k) n := State.rd_wr_self ..

theorem State.rd_bump_ne (s : State) {k j : Nat} (n : Nat) (h : j ≠ k) : (s.bump k n).rd j = s.rd j := State.rd_wr_ne _ _ h

@[simp] theorem State.rd_run32_self (s : State) (k n : Nat) : (s.run32 k n).rd k = (s.rd k + n) % 4294967296 := State.rd_wr_self ..

theorem State.rd_run32_ne (s : State) {k j : Nat} (n : Nat) (h : j ≠ k) : (s.run32 k n).rd j = s.rd j := State.rd_wr_ne _ _ h

theorem State.rd_wrEdge (s : State) (k j v src : Nat) : (s.wrEdge k v src).rd j = if j = k then v else s.rd j := by
  unfold State.wrEdge
  split_ifs <;> simp_all [State.rd_wr, State.raise_keeps]

@[simp] theorem State.rd_wrEdge_self (s : State) (k v src : Nat) : (s.wrEdge k v src).rd k = v := by simp [State.rd_wrEdge]

theorem State.rd_wrEdge_ne (s : State) {k j : Nat} (v src : Nat) (h : j ≠ k) : (s.wrEdge k v src).rd j = s.rd j := by
  simp [State.rd_wrEdge, h]

/-- What wrEdge does to the edges: one sets out where the number changes. -/
@[simp] theorem State.edges_wrEdge (s : State) (k v src : Nat) :
    (s.wrEdge k v src).buckle.edges = if s.rd k = v then s.buckle.edges else s.buckle.edges ++ [src] := by
  unfold State.wrEdge
  split_ifs <;> simp [State.raise, State.wr_keeps]

@[simp] theorem State.edges_raise (s : State) (n : Nat) : (s.raise n).buckle.edges = s.buckle.edges ++ [n] := rfl

@[simp] theorem State.out_emit (s : State) (o : Out) : (s.emit o).out = o :: s.out := rfl

@[simp] theorem State.draws_drawn (s : State) : s.drawn.draws = s.draws + 1 := rfl

/-! ### Byte strings and results -/

theorem State.dom_setDom (s : State) (k j : Nat) (b : Bytes) : (s.setDom k b).dom j = if j = k then b else s.dom j := by
  split_ifs with h
  · subst h; exact KMap.getD_setD_self _ _ _ _
  · exact KMap.getD_setD_ne _ _ _ _ h

@[simp] theorem State.dom_setDom_self (s : State) (k : Nat) (b : Bytes) : (s.setDom k b).dom k = b := by simp [State.dom_setDom]

theorem State.res_setRes (s : State) (k j : Nat) (r : ResRec) : (s.setRes k r).res j = if j = k then r else s.res j := by
  split_ifs with h
  · subst h; exact KMap.getD_setD_self _ _ _ _
  · exact KMap.getD_setD_ne _ _ _ _ h

@[simp] theorem State.res_setRes_self (s : State) (k : Nat) (r : ResRec) : (s.setRes k r).res k = r := by simp [State.res_setRes]

@[simp] theorem State.res_resBegin_self (s : State) (k : Nat) : (s.resBegin k).res k = { s.res k with busy := true } := State.res_setRes_self ..

theorem State.res_resBegin_ne (s : State) {k j : Nat} (h : j ≠ k) : (s.resBegin k).res j = s.res j := by
  simp [State.resBegin, State.res_setRes, h]

@[simp] theorem State.res_resEnd_self (s : State) (k c : Nat) (d : Bytes) : (s.resEnd k c d).res k =
    { seq := nextResSeq (s.res k).seq, outcome := if c = 0 then 1 else 2, busy := false, code := c, data := d } := State.res_setRes_self ..

theorem State.res_resEnd_ne (s : State) {k j : Nat} (c : Nat) (d : Bytes) (h : j ≠ k) : (s.resEnd k c d).res j = s.res j := by
  simp [State.resEnd, State.res_setRes, h]

/-! ### Registers, records and queues by number -/

theorem State.strap_setStrap (s : State) (q r : Nat) (x : StrapQ) : (s.setStrap q x).strap r = if r = q then x else s.strap r := by
  split_ifs with h
  · subst h; exact KMap.getD_setD_self _ _ _ _
  · exact KMap.getD_setD_ne _ _ _ _ h

@[simp] theorem State.strap_setStrap_self (s : State) (q : Nat) (x : StrapQ) : (s.setStrap q x).strap q = x := by simp [State.strap_setStrap]

theorem State.nodeQ_setNodeQ (s : State) (q r : Nat) (x : NodeQ) : (s.setNodeQ q x).nodeQ r = if r = q then x else s.nodeQ r := by
  split_ifs with h
  · subst h; exact KMap.getD_setD_self _ _ _ _
  · exact KMap.getD_setD_ne _ _ _ _ h

@[simp] theorem State.nodeQ_setNodeQ_self (s : State) (q : Nat) (x : NodeQ) : (s.setNodeQ q x).nodeQ q = x := by simp [State.nodeQ_setNodeQ]

theorem State.nrec_setRec (s : State) (q r : Nat) (x : NodeRec) : (s.setRec q x).nrec r = if r = q then x else s.nrec r := by
  split_ifs with h
  · subst h; exact KMap.getD_setD_self _ _ _ _
  · exact KMap.getD_setD_ne _ _ _ _ h

@[simp] theorem State.nrec_setRec_self (s : State) (q : Nat) (x : NodeRec) : (s.setRec q x).nrec q = x := by simp [State.nrec_setRec]

theorem State.nrec_modHw (s : State) (q r : Nat) (f : NodeHw → NodeHw) :
    (s.modHw q f).nrec r = if r = q then { s.nrec q with hw := f (s.nrec q).hw } else s.nrec r := State.nrec_setRec ..

@[simp] theorem State.nrec_modHw_self (s : State) (q : Nat) (f : NodeHw → NodeHw) :
    (s.modHw q f).nrec q = { s.nrec q with hw := f (s.nrec q).hw } := by simp [State.nrec_modHw]

theorem State.slot_setSlot (s : State) (q r : Nat) (x : Slot) : (s.setSlot q x).slot r = if r = q then x else s.slot r := by
  unfold State.slot State.setSlot
  split_ifs with h
  · subst h; exact KMap.getD_setD_self _ _ _ _
  · exact KMap.getD_setD_ne _ _ _ _ h

@[simp] theorem State.slot_setSlot_self (s : State) (q : Nat) (x : Slot) : (s.setSlot q x).slot q = x := by simp [State.slot_setSlot]

theorem State.camp_setCamp (s : State) (q r : Nat) (x : Campaign) : (s.setCamp q x).camp r = if r = q then x else s.camp r := by
  split_ifs with h
  · subst h; exact KMap.getD_setD_self _ _ _ _
  · exact KMap.getD_setD_ne _ _ _ _ h

@[simp] theorem State.camp_setCamp_self (s : State) (q : Nat) (x : Campaign) : (s.setCamp q x).camp q = x := by simp [State.camp_setCamp]

theorem State.core_setCore (s : State) (q r : Nat) (x : Core) : (s.setCore q x).core r = if r = q then x else s.core r := by
  unfold State.core State.setCore
  split_ifs with h
  · subst h; exact KMap.getD_setD_self _ _ _ _
  · exact KMap.getD_setD_ne _ _ _ _ h

@[simp] theorem State.core_setCore_self (s : State) (q : Nat) (x : Core) : (s.setCore q x).core q = x := by simp [State.core_setCore]

theorem State.outQ_setOutQ (s : State) (h c : Nat) (x : OutQ) (h' c' : Nat) :
    (s.setOutQ h c x).outQ h' c' = if 8 * h' + c' = 8 * h + c then x else s.outQ h' c' := by
  unfold State.outQ State.setOutQ
  split_ifs with e
  · rw [e]; exact KMap.getD_setD_self _ _ _ _
  · exact KMap.getD_setD_ne _ _ _ _ e

@[simp] theorem State.outQ_setOutQ_self (s : State) (h c : Nat) (x : OutQ) : (s.setOutQ h c x).outQ h c = x := by simp [State.outQ_setOutQ]

theorem State.shaper_setShaper (s : State) (t k : Nat) (x : Shaper) (t' k' : Nat) :
    (s.setShaper t k x).shaper t' k' = if 16 * t' + k' = 16 * t + k then x else s.shaper t' k' := by
  unfold State.shaper State.setShaper
  split_ifs with e
  · rw [e]; exact KMap.getD_setD_self _ _ _ _
  · exact KMap.getD_setD_ne _ _ _ _ e

theorem State.pend_setPend (s : State) (n m v : Nat) : (s.setPend n v).pend m = if m = n then v else s.pend m := by
  split_ifs with h
  · subst h; exact KMap.getD_setD_self _ _ _ _
  · exact KMap.getD_setD_ne _ _ _ _ h

theorem State.mask_setMask (s : State) (n m v : Nat) : (s.setMask n v).mask m = if m = n then v else s.mask m := by
  split_ifs with h
  · subst h; exact KMap.getD_setD_self _ _ _ _
  · exact KMap.getD_setD_ne _ _ _ _ h

@[simp] theorem State.pend_setMask (s : State) (n m v : Nat) : (s.setMask n v).pend m = s.pend m := rfl
@[simp] theorem State.mask_setPend (s : State) (n m v : Nat) : (s.setPend n v).mask m = s.mask m := rfl

theorem State.rxRing_setRxRing (s : State) (n m : Nat) (r : Ring) : (s.setRxRing n r).rxRing m = if m = n then r else s.rxRing m := by
  split_ifs with h
  · subst h; exact KMap.getD_setD_self _ _ _ _
  · exact KMap.getD_setD_ne _ _ _ _ h

theorem State.txRing_setTxRing (s : State) (n m : Nat) (r : Ring) : (s.setTxRing n r).txRing m = if m = n then r else s.txRing m := by
  split_ifs with h
  · subst h; exact KMap.getD_setD_self _ _ _ _
  · exact KMap.getD_setD_ne _ _ _ _ h

theorem State.vector_setVector (s : State) (n m : Nat) (r : MsixVector) : (s.setVector n r).vector m = if m = n then r else s.vector m := by
  split_ifs with h
  · subst h; exact KMap.getD_setD_self _ _ _ _
  · exact KMap.getD_setD_ne _ _ _ _ h

/-! ### Ports, tiles, chain ports, banks and pulses -/

@[simp] theorem State.port_setPort_self (s : State) {p : Nat} (x : Port) (h : p < 4) : (s.setPort p x).port p = x :=
  vmod_getD_self _ _ _ h

theorem State.port_setPort_ne (s : State) {p q : Nat} (x : Port) (h : q ≠ p) : (s.setPort p x).port q = s.port q := vmod_getD_ne _ _ _ h

@[simp] theorem State.rx_setRx_self (s : State) {n : Nat} (x : RxTile) (h : n < 64) : (s.setRx n x).rx n = x := vmod_getD_self _ _ _ h

theorem State.rx_setRx_ne (s : State) {n m : Nat} (x : RxTile) (h : m ≠ n) : (s.setRx n x).rx m = s.rx m := vmod_getD_ne _ _ _ h

@[simp] theorem State.tx_setTx_self (s : State) {n : Nat} (x : TxTile) (h : n < 16) : (s.setTx n x).tx n = x := vmod_getD_self _ _ _ h

theorem State.tx_setTx_ne (s : State) {n m : Nat} (x : TxTile) (h : m ≠ n) : (s.setTx n x).tx m = s.tx m := vmod_getD_ne _ _ _ h

@[simp] theorem State.isl_setIsl_self (s : State) (t : Tile) (x : Islands) : (s.setIsl t x).isl t = x := by
  cases t with
  | rx n => simp [State.setIsl, State.isl, n.isLt]
  | tx n => simp [State.setIsl, State.isl, n.isLt]
  | core n => exact vmod_getD_self _ _ _ n.isLt

@[simp] theorem State.coreIsl_setCoreIsl_self (s : State) {n : Nat} (x : Islands) (h : n < 16) : (s.setCoreIsl n x).coreIsl n = x :=
  vmod_getD_self _ _ _ h

theorem State.coreIsl_setCoreIsl_ne (s : State) {n m : Nat} (x : Islands) (h : m ≠ n) : (s.setCoreIsl n x).coreIsl m = s.coreIsl m :=
  vmod_getD_ne _ _ _ h

@[simp] theorem State.concho_setCon (s : State) (x : Concho) : (s.setCon x).concho = x := rfl

@[simp] theorem State.power_setPower (s : State) (x : Power) : (s.setPower x).power = x := rfl

@[simp] theorem State.cport_setCport_self (s : State) (p : Side) (x : ChainPort) : (s.setCport p x).cport p = x := by cases p <;> rfl

@[simp] theorem State.cport_setCport_other (s : State) (p : Side) (x : ChainPort) : (s.setCport p x).cport p.other = s.cport p.other := by
  cases p <;> rfl

@[simp] theorem State.cport_setCport_of_other (s : State) (p : Side) (x : ChainPort) : (s.setCport p.other x).cport p = s.cport p := by
  cases p <;> rfl

theorem State.pulse_setPulse_ne (s : State) {k j : Nat} (x : Pulse) (h : j ≠ k) : (s.setPulse k x).pulse j = s.pulse j := by
  unfold State.setPulse State.pulse
  split_ifs <;> simp [vmod_getD_ne _ _ _ h, State.raise]

@[simp] theorem State.pulse_setPulse_self (s : State) {k : Nat} (x : Pulse) (h : k < 4) : (s.setPulse k x).pulse k = x := by
  unfold State.setPulse State.pulse
  exact vmod_getD_self _ _ _ h

@[simp] theorem State.bank_setBank_self (s : State) (b : Nat) (x : Bank) : (s.setBank b x).bank b = x := by
  unfold State.setBank State.bank
  split_ifs <;> rfl

theorem State.bank_setBank_ne (s : State) {b c : Nat} (x : Bank) (h : (c = 1) ≠ (b = 1)) : (s.setBank b x).bank c = s.bank c := by
  unfold State.setBank State.bank
  split_ifs <;> simp_all

@[simp] theorem State.window_setWindow_self (s : State) (who : Nat) (w : TpWindow) : (s.setWindow who w).window who = w :=
  KMap.getD_setD_self _ _ _ _

@[simp] theorem State.window_tpDone_self (s : State) (who c : Nat) (r : Bytes) :
    (s.tpDone who c r).window who = { s.window who with code := c, ret := slice r 0 128, busy := false } := by
  unfold State.tpDone
  simp only
  split_ifs <;> simp only [State.window, State.raise_keeps, State.setCause_keeps] <;> exact State.window_setWindow_self _ _ _

/-! ### What posting an error writes -/

/-- Posting adds one record to the journal. -/
@[simp] theorem State.journal_post (s : State) (c : Err) (src a a2 d : Nat) : (s.post c src a a2 d).sb.journal =
    (s.journalAdd (.err { time := s.time80, code := c.code, source := src, clkdom := d, severity := c.severity,
                          arg := a % 2 ^ 64, arg2 := a2 % 2 ^ 64 })).sb.journal := by
  have e (t : State) (h : t.sb.journal = s.sb.journal) (r : JournalRec) : (t.journalAdd r).sb.journal = (s.journalAdd r).sb.journal := by
    unfold State.journalAdd
    rw [h]
  unfold State.post State.postSev State.logErr
  simp only
  have w (t : State) (k v : Nat) : (t.wr k v).sb.journal = t.sb.journal := rfl
  split_ifs <;> simp only [State.strapPush_keeps, State.raise_keeps, State.bump_keeps] <;> exact e _ (by rfl) _

end Machine

end Sys2Proof
end

