-- ==== Sys2Proof/Tests/Slice0.lean ====
section
/-! SUPPORT. Tests of the model: ill-formed commands that WellFormed refuses, small computations against the manual's own numbers, and
for each clause of a statement a state and operands that meet its hypotheses (meets_<statement>_<clause>). -/

namespace Sys2Proof.Tests

open Sys2Proof Sys2Proof.Machine

set_option linter.unusedVariables false
set_option Elab.async false

/-! ### States and operands -/

/-- Every field at its first value. -/
def zAccess : Access := ⟨0, 0, false, false, false, false, false, 0, 0, 0, 0, 0, 0, 0, 0, 0, 0, [], false⟩
/-- Every field at its first value. -/
def zAsked : Asked := ⟨⟨0, 0, false, false, false, false, false, 0, 0, 0, 0, 0, 0, 0, 0, 0, 0, [], false⟩, .mailbox, 0, 0, 0⟩
/-- Every field at its first value. -/
def zAssign : Assign := ⟨0, 0⟩
/-- Every field at its first value. -/
def zChainFrame : ChainFrame := ⟨0, 0, 0, 0, 0, 0, 0, 0, 0, (.link ⟨0, .up, 0, 0, 0, Vector.replicate _ (0)⟩)⟩
/-- Every field at its first value. -/
def zGrace : Grace := ⟨0, [], 0, []⟩
/-- Every field at its first value. -/
def zHeadMsg : HeadMsg := ⟨0, ⟨false, 0⟩, false⟩
/-- Every field at its first value. -/
def zLinkMsg : LinkMsg := ⟨0, .up, 0, 0, 0, Vector.replicate _ (0)⟩
/-- Every field at its first value. -/
def zAckWait : AckWait := ⟨0, 0⟩
/-- Every field at its first value. -/
def zCalRun : CalRun := ⟨0, 0, [], 0, false, 0, none, [], false, [], false⟩
/-- Every field at its first value. -/
def zCellUse : CellUse := ⟨0, 0, 0, false, none, none, false⟩
/-- Every field at its first value. -/
def zEnumRun : EnumRun := ⟨.up, false, 0, false, 0, 0, 0⟩
/-- Every field at its first value. -/
def zExtImage : ExtImage := ⟨0, 0, 0⟩
/-- Every field at its first value. -/
def zHFrame : HFrame := ⟨0, 0, 0, .radio, [], .port, none, 0, 0, none, none, false, none, 0, 0, none, 0, 0⟩
/-- Every field at its first value. -/
def zHalterEntry : HalterEntry := ⟨0, 0, 0, 0, 0, none, 0⟩
/-- Every field at its first value. -/
def zHandoverOut : HandoverOut := ⟨0, none, false, false, 0⟩
/-- Every field at its first value. -/
def zIpHead : IpHead := ⟨false, 0, 0, 0, 0, 0, none, 0⟩
/-- Every field at its first value. -/
def zMhr : Mhr := ⟨0, false, false, false, false, false, 0, 0, 0, false, 0, none, none, none, none, 0, 0, none, 0, 0, 0⟩
/-- Every field at its first value. -/
def zPulseSet : PulseSet := ⟨0, ⟨0, 0⟩, 0, 0⟩
/-- Every field at its first value. -/
def zRecovery : Recovery := ⟨0, ⟨false, 0, 0, false, none⟩, ⟨0, [], 0, 0, 0, 0⟩, 0, 0, 0⟩
/-- Every field at its first value. -/
def zReportTo : ReportTo := ⟨0, 0⟩
/-- Every field at its first value. -/
def zRxFrame : RxFrame := ⟨0, none, none, 0, 0, 0, none, 0, 0, none, false, ⟨0, 0, 0, 0, false, 0, 0⟩, []⟩
/-- Every field at its first value. -/
def zSbOpen : SbOpen := ⟨0, ⟨0, 0, none⟩, 0⟩
/-- Every field at its first value. -/
def zShutdown : Shutdown := ⟨.running, 0, 0, 0, false, false, false, false⟩
/-- Every field at its first value. -/
def zStartUp : StartUp := ⟨false, 0, false, 0⟩
/-- Every field at its first value. -/
def zStrapItem : StrapItem := ⟨0, false, 0, 0, [], 0⟩
/-- Every field at its first value. -/
def zTxJob : TxJob := ⟨⟨(.answer 0), 0, 0, 0, 0, ⟨[], [], [], .none⟩, 0, 0, none, none, none⟩, [], 0, 0, 0, false, false, none, 0, false, none, false, 0, false⟩
/-- Every field at its first value. -/
def zWelt : Welt := ⟨0, 0, ⟨0, 0⟩, ⟨0, 0⟩, 0⟩
/-- Every field at its first value. -/
def zNodeFrame : NodeFrame := ⟨0, 0, [], none, false, none, 0, false, false, false, false, 0⟩
/-- Every field at its first value. -/
def zNodeHw : NodeHw := ⟨0, 0, 0, 0, 0, 0, 0, 0, 0, 0, 0, 0, 0, 0, 0, 0, 0, 0, 0, 0, 0, 0, 0, 0, 0, 0, 0⟩
/-- Every field at its first value. -/
def zPtpExchange : PtpExchange := ⟨0, 0, 0, 0, 0, 0, 0⟩
/-- Every field at its first value. -/
def zSbReq : SbReq := ⟨0, 0, none⟩
/-- Every field at its first value. -/
def zSubscription : Subscription := ⟨.mailbox, 0, 0, 0, none, 0, 0⟩
/-- Every field at its first value. -/
def zSurvey : Survey := ⟨⟨false, 0⟩, 0, 0, false⟩
/-- Every field at its first value. -/
def zTableHit : TableHit := ⟨none, 0⟩
/-- Every field at its first value. -/
def zTagSeen : TagSeen := ⟨.typeA, [], 0, none, none, [], 0⟩
/-- Every field at its first value. -/
def zTagWait : TagWait := ⟨.typeA, [], (.isoDep 0), 0, 0⟩
/-- Every field at its first value. -/
def zTamperSense : TamperSense := ⟨[], false, [], 0, 0⟩
/-- Every field at its first value. -/
def zTime80 : Time80 := ⟨0, 0⟩
/-- Every field at its first value. -/
def zTimeMsg : TimeMsg := ⟨⟨0, 0⟩, 0, 0, 0, 0, 0⟩
/-- Every field at its first value. -/
def zTopo : Topo := ⟨0, 0, false, []⟩
/-- Every field at its first value. -/
def zTransfer : Transfer := ⟨0, 0, [], 0, 0, 0⟩
/-- Every field at its first value. -/
def zTxReq : TxReq := ⟨(.answer 0), 0, 0, 0, 0, ⟨[], [], [], .none⟩, 0, 0, none, none, none⟩
/-- Every field at its first value. -/
def zTxn : Txn := ⟨0, 0, .opened, ⟨0, 0⟩, [], 0⟩
/-- A device in RUN whose start has ended, with no image bytes. -/
def calm : State :=
  { State.reset with
    ident := { State.reset.ident with eui64 := 7 }
    tree := { State.reset.tree with a := { State.reset.tree.a with st := .seated, seat := 1, image := [] } }
    cores := { State.reset.cores with core := [] }
    power := { State.reset.power with moving := none, start := none }
    dict := { State.reset.dict with nums := KMap.put State.reset.dict.nums Key.pwrState 4 } }
/-- A READ of one subentry by the host. -/
def ask : Access :=
  { ver := 1, op := 1, resp := false, last := false, pending := false, sub := false, retry := false, status := 0, target := 0, origin := 0x80,
    reqId := 1, index := 0x1100, subindex := 8, subcount := 1, offset := 0, length := 0, txn := 0, payload := [], crcOk := true }
/-- The row of a subentry. -/
def rowAt (idx sub : Nat) : Dict.Entry :=
  (rowOf idx sub).getD ⟨"", 0, 0, 0, 0, 0, 0, .bool, .const, 0, false, .none, 0⟩
/-- A ring of two devices, 0 the head and 5 a standby. -/
def topo2 : Topo := { gen := 1, head := 0, ring := true, map := [⟨0, 7, 1, true, true, true, 1⟩, ⟨5, 9, 2, true, true, true, 1⟩] }
/-- A Stamp record for port 2: one sub-band over the whole band, raster channel 0 alone. -/
def stamp2 : Bytes :=
  leBytes 2 1 ++ leBytes 1 2 ++ zeros 1 ++ leBytes 1 20 ++ zeros 3 ++ leBytes 8 1 ++
    (leBytes 4 2400000 ++ leBytes 4 2483500 ++ leBytes 2 10000 ++ leBytes 1 20 ++ zeros 13) ++ zeros 216
/-- A node's record: its EUI-64, the word of bytes 8 to 15, and its MAC state. -/
def node (eui word mac : Nat) : NodeRec :=
  { NodeRec.free with
    host := leBytes 8 eui ++ leBytes 8 word ++ zeros 32 ++ leBytes 4 10000000 ++ leBytes 4 10000000 ++ zeros 72
    hw := { hwZero with macState := mac } }
/-- Port 2 in RX with tenant 0 on one channel, and its slotframe 0 of 101 slots. -/
def air : State :=
  let s := calm.setDom (Key.stampPort 2) stamp2
  let s := s.each [(Key.portState 2, 3), (Key.portCentreKhz 2, 2441750), (Key.tenEnable 0, 1), (Key.sfSlots 0, 101), (Key.sfTenant 0, 0), (Key.tenSlotframe 0, 0),
    (Key.tenChmap 0 2, 1), (Key.rxcPlaced 0, placeWord 1 2 2401250), (Key.rxcState 0, 1)] (fun s p => s.wr p.1 p.2)
  (s.setPort 2 { s.port 2 with centre := 2441750 }).setRec 0 (node 9 0x1000 3)
/-- Soft chips of a sequence. -/
def soft (l : List Bool) : List Int := l.map (fun b => if b then 1 else -1)
/-- Symbol periods of mode M1 that carry octets. -/
def symsOf (bs : Bytes) : List RxSym := (nibblesOf bs).map (fun k => ⟨soft (symbolChips 1 k), 0, 0⟩)
/-- A secured uplink frame of a short address without a record. -/
def uplink : Bytes := beBytes 9 0x49A801000000003412 ++ beBytes 6 0x0D0100000001 ++ zeros 4
/-- Arguments of a table-port operation: offset, length and value of each. -/
def argOf (l : List (Nat × Nat × Nat)) : Bytes := l.foldl (fun b x => splice b x.1 (leBytes x.2.1 x.2.2)) (zeros 64)
/-- An output queue takes a value. -/
def withQ (s : State) (h c : Nat) (q : OutQ) : State :=
  { s with har := { s.har with queues := KMap.setD s.har.queues OutQ.empty (8 * h + c) q } }
/-- A usable key slot. -/
def usable : Slot := { (calm.slot 9) with valid := true, parent := parentNone, alg := 1, use := 31, origin := 1 }
/-- Entries that fill bucket b of the Halter and its overflow. -/
def fullBucket (s : State) (b : Nat) (e : HalterEntry) : State :=
  { s with tables := { s.tables with
    halter := (List.range 4).foldl (fun m w => KMap.put m (4 * b + w) e) s.tables.halter
    overflow := (List.range 8).foldl (fun m w => KMap.put m (8 * (b % 1024) + w) ⟨e, b / 1024⟩) s.tables.overflow } }
/-- An IPv4 packet to 10.0.0.1. -/
def packet4 : Bytes := beBytes 20 0x450000140000000040000000010000010A000001
/-- The prefix 10.0.0.0/24 of instance 0. -/
def prefix24 : Prefix := ⟨0, true, 24, 0x0A000000, 0x10000009⟩
/-- A Saddlebag layout of the four regions that every one has. -/
def layoutDoc : Bytes :=
  let row (k base mb : Nat) : Bytes := leBytes 1 k ++ zeros 7 ++ leBytes 8 (base * 1048576) ++ leBytes 8 (mb * 1048576) ++ zeros 8
  let body := leBytes 2 1 ++ leBytes 2 4 ++ zeros 60 ++ row 1 0 64 ++ row 2 64 16 ++ row 3 80 64 ++ row 4 144 64 ++ zeros (4092 - 192)
  body ++ leBytes 4 (Crypto.crc32c body)
/-- A campaign descriptor: a burst of 4 slots at offset 2 of every slotframe. -/
def descDoc : Bytes :=
  let b := beBytes 4 0x4C414344 ++ leBytes 2 1 ++ zeros 2 ++ leBytes 2 1 ++ zeros 2 ++ leBytes 2 2 ++ leBytes 2 4 ++ leBytes 1 1 ++ zeros 3 ++ leBytes 4 60 ++
    leBytes 4 600 ++ zeros 32
  b ++ leBytes 4 (Crypto.crc32c b)
/-- Campaign 0 of tenant 0, with an image of one byte at device 0's Saddlebag and a target store. -/
def campaign : State :=
  let s := air.each [(Key.chainAddr, 5), (Key.sbLinkState, 2), (Key.tenKeySlot 0, 1), (Key.tenSecLevel 0, 5), (Key.campTenant 0, 0), (Key.campImageAddr 0, 64),
    (Key.campImageBytes 0, 1)] (fun s p => s.wr p.1 p.2)
  { s with sb := { s.sb with layout := some [⟨6, 0, 0, 8388608⟩] } }
/-- Campaign 0 running, with a burst due at slot 1000 and one stream. -/
def burst (x : LaceStream) : State :=
  let s := campaign.wr (Key.campState 0) 2
  let s := s.setCamp 0 { s.camp 0 with desc := descDoc, burst := 1000, streams := [x], blockCrc := [Crypto.crc32c (blockOf [0#8] 0)] }
  { s with girth := { s.girth with sched := { s.girth.sched with fired := [⟨0, .burst 0 1000, 0⟩] } } }
/-- An image key, and a tree image of version 1 and 512 bytes signed under it. -/
def imageKey1 : BitVec 512 := 0x88e4e55f6c64c31d5457d185a8e4098ce4ce90d800be03985470811d00f155302ee726fca65d0361a1c95fa80e116f16805386affcf1a0da9d6e47d604f696b6
def image1 : Bytes :=
  beBytes 128 0x545245450100000001000000010101000000ffff0000000000020000000100005341e6b2646979a70e57653007a1f310169421ec9bdd9f1a5648f75ade005af1192690bef82748e1f44fdbfcbac80212439ad7ad5f8f902bc905fbbf165f6f65192690bef82748e1f44fdbfcbac80212439ad7ad5f8f902bc905fbbf165f6f65 ++
    zeros 124 ++ beBytes 4 0x38aebe7f ++ zeros 256
/-- Core n runs at address 0, whose word is stored and not yet fenced, so that any word may be fetched. -/
def coreOn (n : Nat) : State :=
  let s := calm.wr (Key.coreState n) 1
  { s with
    cores := { s.cores with stale := [65536 * n] }
    power := { s.power with coreIslands := Vector.ofFn (fun _ => ⟨.on, 0, none⟩) } }

/-- A LINK frame's content from a partner of level 1. -/
def link : LinkMsg := { eui := 7, port := .dn, level := 1, minPartner := 1, maxPartner := 1, credits := #v[0, 0, 0, 0] }

/-- A chain frame of 64 bytes for device 3. -/
def chainFrame : ChainFrame :=
  { dst := 3, src := 1, typ := 10, lane := 3, cls := 0, hops := 5, tenant := 0, length := 64, tag := 0, body := .data [] }

/-! ### WellFormed refuses what does not fit -/

theorem test_wf_accepts_read : Instr.wf (.read .mailbox ask) = true := by decide
theorem test_wf_refuses_index_of_17_bits : Instr.wf (.read .mailbox { ask with index := 0x10000 }) = false := by decide
theorem test_wf_refuses_payload_of_1025 : Instr.wf (.write .mailbox { ask with length := 1025 }) = false := by decide
theorem test_wf_refuses_level_of_9_bits : Instr.wf (.linkFrameRx .up { link with level := 256 }) = false := by decide
theorem test_wf_accepts_chain_frame : Instr.wf (.chainFrameRx .up chainFrame [] 0) = true := by decide
theorem test_wf_refuses_frame_of_other_type : Instr.wf (.chainFrameRx .up { chainFrame with typ := 9 } [] 0) = false := by decide
theorem test_wf_refuses_hops_of_9_bits : Instr.wf (.chainFrameRx .up { chainFrame with hops := 256 } [] 0) = false := by decide
theorem test_wf_refuses_lane_4 : Instr.wf (.chainFrameRx .up { chainFrame with lane := 4 } [] 0) = false := by decide
theorem test_wf_refuses_survey_mask : Instr.wf (.surveyRx .up ⟨⟨false, 1⟩, 2 ^ 64, 1, false⟩) = false := by decide
theorem test_wf_refuses_assign_mask : Instr.wf (.assignRx .up ⟨2 ^ 64, 1⟩) = false := by decide
theorem test_wf_refuses_role_3 : Instr.wf (.topoRx .up (.map ⟨1, 0, false, [⟨1, 7, 3, true, true, true, 0⟩]⟩)) = false := by decide
theorem test_wf_refuses_head_at_64 : Instr.wf (.headRx .up ⟨64, ⟨false, 7⟩, false⟩) = false := by decide
theorem test_wf_refuses_time_of_a_whole_second : Instr.wf (.timeFrameRx .up { zTimeMsg with tTx := ⟨0, 1000000000⟩ } 0) = false := by decide
theorem test_wf_refuses_saddlebag_address : Instr.wf (.sbReqIssue ⟨2 ^ 52, 64, none⟩) = false := by decide
theorem test_wf_refuses_tag_of_33_bits : Instr.wf (.sbTimeout (2 ^ 32) 0) = false := by decide
theorem test_wf_refuses_response_from_64 : Instr.wf (.dictResponseRx 64 ask) = false := by decide
theorem test_wf_refuses_record_16384 : InMeta.wf (.radio 16384 0) = false := by decide
theorem test_wf_refuses_pulse_start : Instr.wf (.tpoParamWrite 0 ⟨0, 1000000000⟩ 0 0) = false := by decide
theorem test_wf_refuses_uid_of_11_bytes : Instr.wf (.readerListenEnd [{ zTagSeen with uid := zeros 11 }] 0 0) = false := by decide

/-! ### The manual's own numbers -/

/-- Frame times of Table 7-7: 48 and 20 octets in D64; a D64 beacon of 75 octets (R222). -/
theorem test_frame_times : frameUs 5 48 = 27648 ∧ frameUs 5 20 = 13312 ∧ frameUs 5 75 = 41472 := by decide
/-- The shortest M1 frame (R188). -/
theorem test_shortest_frame : frameUs 1 5 = 352 := by decide
/-- Cells of the water meter (chapter 9, example): a downlink of 32 octets and an empty one. -/
theorem test_downlink_charges : dlCharge (builtInCost 5) 19456 11264 = 14447 ∧ emptyCharge (builtInCost 5) 5 = 1757 := by decide
/-- Table 12-7, step 1. -/
theorem test_bridle_root_set : rootSet 1 false 0xFD48 = 0x2ED := by decide
/-- Table 12-7, step 5. -/
theorem test_halter_bucket : halterBucket 1 0x02C47A100003B26D = 0x1276F := by decide
/-- Words of the checksum loop (chapter 18, example). -/
theorem test_awl_words : encL 0x31 0 12 3 = 0xC400C003#32 ∧ encR 1 2 2 9 0 = 0x04424800#32 ∧ encI 2 1 1 4 = 0x08210004#32 := by decide
/-- Units of a frame of 2,048 bytes (R31). -/
theorem test_units : unitsOf 2048 = 33 ∧ unitsOf 0 = 1 := by decide
/-- Codes of chapter 23: DIAG_STARVED and SB_QUEUES_LOST. -/
theorem test_codes : Err.code .diagStarved = 0x050A ∧ Err.code .sbQueuesLost = 0x0B09 := by decide
/-- Chain address of an offset on device 5 (chapter 2, example). -/
theorem test_saddlebag_address : sbDevice 0x141F000000000 = 5 ∧ sbOffset 0x141F000000000 = 0x01F000000000 := by decide
/-- The built-in layout for 2 TiB (Table 11-3). -/
theorem test_built_in_layout : ((builtInLayout (2 ^ 41)).map (·.base)).drop 66 = [0x1640000000, 0x10A40000000] ∧ (builtInLayout (2 ^ 41)).length = 68 := by
  decide
/-- Symbols 0, 1 and 8 of the 32-chip table and symbol 1 of the 16-chip table of IEEE 802.15.4 (log 116). -/
theorem test_chips : symbolChips 1 1 = msbBits 32 0xED9C3522 ∧ symbolChips 1 8 = msbBits 32 0x8C96077B ∧ symbolChips 2 1 = msbBits 16 0x4F89 := by decide
/-- Sent chips of an octet are read back. -/
theorem test_despread : despread 1 0 (symsOf [0xA7#8]) = [0xA7#8] := by decide +kernel
/-- Ones in the Deep sequences (Table 6-4). -/
theorem test_deep_ones : (deepChips 4).count true = 16 ∧ (deepChips 5).count true = 32 ∧ (deepChips 6).count true = 64 := by decide
/-- The check value of CRC-32C over the digits 1 to 9 (RFC 3720's polynomial). -/
theorem test_crc32c : Crypto.crc32c [0x31, 0x32, 0x33, 0x34, 0x35, 0x36, 0x37, 0x38, 0x39] = 0xE3069283 := by decide +kernel
/-- Cells of one level of the wheel and of the next (R249). -/
theorem test_wheel_levels : levelFor 0 255 = 0 ∧ levelFor 0 256 = 1 ∧ levelFor 0 65536 = 2 := by decide

/-! ### One step -/

/-- LOOPI of the checksum loop arms loop 0 (R459). -/
theorem test_loopi : ∃ t, exec (.loopi ⟨12, 0⟩ 0 12 3) (coreOn 12) = .next t ∧ (t.core 12).loop 0 = ⟨4#32, 12#32, 12#32⟩ := ⟨_, rfl, by decide +kernel⟩
/-- ADD discards a result for g0 (R454). -/
theorem test_add_g0 : ∃ t, exec (.add ⟨12, 0⟩ 0 1 1) (coreOn 12) = .next t ∧ (t.core 12).g 0 = 0#32 ∧ (t.core 12).pc = 4#32 := ⟨_, rfl, by decide +kernel⟩
/-- A core that may fetch any word at its pc, which the statements of the core's commands ask for. -/
theorem meets_fetches (w : Word) : (coreOn 12).Fetches 12 ∧ (coreOn 12).fetches 12 ((coreOn 12).core 12).pc w = true := by
  refine ⟨by decide +kernel, ?_⟩
  have h : (coreOn 12).cores.stale.contains (65536 * 12 + (((coreOn 12).core 12).pc).toNat / 4) = true := by decide +kernel
  have p : (((coreOn 12).core 12).pc).toNat < localSize := by decide +kernel
  simp only [State.fetches, h, p, decide_true, Bool.and_self, Bool.or_true]
/-- A signed tree image passes the check of R424. -/
theorem test_image_signed : headerSigned imageKey1 image1 = true := by decide +kernel
/-- An empty queue idles for one cycle; a command in front is taken (log 3). -/
theorem test_step_takes_front : ∃ t, step { calm with pending := [.chainEnumFull] } = .next t ∧ t.pending = [] := ⟨_, rfl, by decide +kernel⟩

/-! ### Hypotheses that are met -/

theorem meets_ChainLinksAndFrames_1 : ∃ (p : Side) (s : State), s.alive = true ∧ s.link p = 0 :=
  ⟨.dn, (let p : Sys2Proof.Side := .dn; (let s : State := calm; let s : State := s.wr (Key.linkState (sideNum p)) 0; s)), by decide +kernel⟩

theorem meets_ChainLinksAndFrames_2 : ∃ (p : Side) (s : State), s.link p = 1 :=
  ⟨.dn, (let p : Sys2Proof.Side := .dn; (let s : State := calm; let s : State := s.wr (Key.linkState (sideNum p)) 1; s)), by decide +kernel⟩

theorem meets_ChainLinksAndFrames_3 : ∃ (p : Side) (s : State), 2 ≤ s.link p :=
  ⟨.dn, (let p : Sys2Proof.Side := .dn; (let s : State := calm; let s : State := s.wr (Key.linkState (sideNum p)) 2; s)), by decide +kernel⟩

theorem meets_ChainLinksAndFrames_4 : ∃ (p : Side) (m : LinkMsg) (s : State), s.link p = 2 ∧ m.port ≠ p ∧ (s.partnerRange).1 ≤ m.level ∧ m.level ≤ (s.partnerRange).2 :=
  ⟨.dn, (let p : Sys2Proof.Side := .dn; let s : State := (let s : State := calm; let s : State := s.wr (Key.linkState (sideNum p)) 2; s); { zLinkMsg with level := (s.partnerRange).1 }), (let p : Sys2Proof.Side := .dn; (let s : State := calm; let s : State := s.wr (Key.linkState (sideNum p)) 2; s)), by decide +kernel⟩

theorem meets_ChainLinksAndFrames_5 : ∃ (p : Side) (m : LinkMsg) (s : State), s.link p = 2 ∧ (m.port = p ∨ m.level < (s.partnerRange).1 ∨ (s.partnerRange).2 < m.level) :=
  ⟨.dn, (let p : Sys2Proof.Side := .dn; { zLinkMsg with port := p }), (let p : Sys2Proof.Side := .dn; (let s : State := calm; let s : State := s.wr (Key.linkState (sideNum p)) 2; s)), by decide +kernel⟩

theorem meets_ChainLinksAndFrames_6 : ∃ (p : Side) (m : LinkMsg) (s : State), s.link p = 3 :=
  ⟨.dn, zLinkMsg, (let p : Sys2Proof.Side := .dn; (let s : State := calm; let s : State := s.wr (Key.linkState (sideNum p)) 3; s)), by decide +kernel⟩

theorem meets_ChainLinksAndFrames_7 : ∃ (p : Side) (s : State), s.link p ≠ 0 :=
  ⟨.dn, (let p : Sys2Proof.Side := .dn; (let s : State := calm; let s : State := s.wr (Key.linkState (sideNum p)) 1; s)), by decide +kernel⟩

theorem meets_ChainLinksAndFrames_8 : ∃ (p : Side) (s : State), s.link p = 0 :=
  ⟨.dn, (let p : Sys2Proof.Side := .dn; (let s : State := calm; let s : State := s.wr (Key.linkState (sideNum p)) 0; s)), by decide +kernel⟩

theorem meets_ChainLinksAndFrames_9 : ∃ (p : Side) (f : ChainFrame) (bs : Bytes) (crc : BitVec 32) (s : State), s.alive = true ∧ s.linkUp p = true ∧ frameCrc f bs ≠ crc.toNat :=
  ⟨.dn, zChainFrame, [], 0, (let p : Sys2Proof.Side := .dn; (let s : State := calm; let s : State := s.wr (Key.linkState (sideNum p)) 3; s)), by decide +kernel⟩

theorem meets_ChainLinksAndFrames_10 : ∃ (p : Side) (f : ChainFrame) (bs : Bytes) (crc : BitVec 32) (s : State), s.alive = true ∧ s.linkUp p = true ∧ frameCrc f bs = crc.toNat ∧ (2048 < f.length ∨ f.length ≠ bs.length) :=
  ⟨.dn, { zChainFrame with dst := 3 }, [1], (let f : Sys2Proof.ChainFrame := { zChainFrame with dst := 3 }; let bs : Sys2Proof.Bytes := [1]; BitVec.ofNat 32 (frameCrc f bs)), (let p : Sys2Proof.Side := .dn; (let s : State := calm; let s : State := s.wr (Key.linkState (sideNum p)) 3; s)), by decide +kernel⟩

theorem meets_ChainLinksAndFrames_11 : ∃ (p : Side) (f : ChainFrame) (bs : Bytes) (crc : BitVec 32) (s : State), s.alive = true ∧ s.linkUp p = true ∧ frameCrc f bs = crc.toNat ∧ f.length = bs.length ∧ f.length ≤ 2048 ∧ 12 < f.typ :=
  ⟨.dn, { zChainFrame with typ := 13, length := 64 }, zeros 64, (let f : Sys2Proof.ChainFrame := { zChainFrame with typ := 13, length := 64 }; let bs : Sys2Proof.Bytes := zeros 64; BitVec.ofNat 32 (frameCrc f bs)), (let p : Sys2Proof.Side := .dn; (let s : State := calm; let s : State := s.wr (Key.linkState (sideNum p)) 3; s)), by decide +kernel⟩

theorem meets_ChainLinksAndFrames_12 : ∃ (p : Side) (f : ChainFrame) (bs : Bytes) (crc : BitVec 32) (s : State), s.alive = true ∧ s.linkUp p = true ∧ frameCrc f bs = crc.toNat ∧ f.length = bs.length ∧ f.length ≤ 2048 ∧ f.typ ≤ 12 ∧ hopByHop f.typ = false ∧ f.dst ≠ dstAll ∧ s.forMe f = false :=
  ⟨.dn, { zChainFrame with dst := 3, typ := 9, length := 64, hops := 4 }, zeros 64, (let f : Sys2Proof.ChainFrame := { zChainFrame with dst := 3, typ := 9, length := 64, hops := 4 }; let bs : Sys2Proof.Bytes := zeros 64; BitVec.ofNat 32 (frameCrc f bs)), (let p : Sys2Proof.Side := .dn; (let s : State := calm; let s : State := s.wr (Key.linkState (sideNum p)) 3; s)), by decide +kernel⟩

theorem meets_ChainLinksAndFrames_13 : ∃ (p : Side) (lane : Fin 4) (units : Nat) (blocks : Nat) (lockLost : Bool) (s : State), 2 ≤ s.link p ∧ (lockLost = true ∨ s.rd Key.chainIdleBlocks ≤ blocks) :=
  ⟨.dn, 0, 0, 0, true, (let p : Sys2Proof.Side := .dn; (let s : State := calm; let s : State := s.wr (Key.linkState (sideNum p)) 2; s)), by decide +kernel⟩

theorem meets_ChainLinksAndFrames_14 : ∃ (p : Side) (dt : Nat) (i : Nat) (f : ChainFrame) (s : State), s.linkUp p = true ∧ laneReady (s.cport p) 0 = some (i, f) :=
  ⟨.dn, 0, 0, { zChainFrame with dst := 3, typ := 8, length := 64, hops := 4 }, (let p : Sys2Proof.Side := .dn; let f : Sys2Proof.ChainFrame := { zChainFrame with dst := 3, typ := 8, length := 64, hops := 4 }; (let s : State := calm; let s : State := s.wr (Key.linkState (sideNum p)) 3; let s : State := s.setCport p { s.cport p with out := [f], credits := #v[40, 40, 40, 40] }; s)), by decide +kernel⟩

theorem meets_ChainEnumeration_1 : ∃ (p : Side) (m : Survey) (s : State), s.linkUp p = true ∧ s.linkUp p.other = true ∧ s.headCandidate = false ∧ s.rd Key.chainRole ≠ 1 ∧ s.addr = 0xFF ∧ 1 ≤ s.rd Key.chainPin ∧ s.rd Key.chainPin ≤ 63 ∧ bitOf m.mask (s.rd Key.chainPin) = false :=
  ⟨.dn, zSurvey, (let p : Sys2Proof.Side := .dn; (let s : State := calm; let s : State := s.wr (Key.linkState (sideNum p)) 3; let s : State := s.wr (Key.linkState (sideNum p.other)) 3; let s : State := s.wr Key.chainAddr (0xFF); let s : State := s.wr (Key.chainPin) 1; s)), by decide +kernel⟩

theorem meets_ChainEnumeration_2 : ∃ (p : Side) (m : Survey) (s : State), s.linkUp p = true ∧ s.linkUp p.other = true ∧ s.headCandidate = false ∧ s.rd Key.chainRole ≠ 1 ∧ s.addr = 0xFF ∧ s.rd Key.chainPin = 0xFF :=
  ⟨.dn, zSurvey, (let p : Sys2Proof.Side := .dn; (let s : State := calm; let s : State := s.wr (Key.linkState (sideNum p)) 3; let s : State := s.wr (Key.linkState (sideNum p.other)) 3; let s : State := s.wr Key.chainAddr (0xFF); let s : State := s.wr Key.chainPin (0xFF); s)), by decide +kernel⟩

theorem meets_ChainEnumeration_3 : ∃ (m : Survey) (r : EnumRun) (s : State), s.chain.enumRun = some r ∧ s.rd Key.chainEnumState = 1 ∧ s.linkUp r.dir = true :=
  ⟨zSurvey, zEnumRun, (let r : Sys2Proof.Machine.EnumRun := zEnumRun; (let s : State := calm; let s : State := { s with chain := { s.chain with enumRun := some r } }; let s : State := s.wr Key.chainEnumState (1); let s : State := s.wr (Key.linkState (sideNum r.dir)) 3; s)), by decide +kernel⟩

theorem meets_ChainEnumeration_4 : ∃ (p : Side) (m : Assign) (a : Nat) (s : State), s.linkUp p = true ∧ s.chain.enumRun = none ∧ s.chain.claim = some a :=
  ⟨.dn, zAssign, 0, (let p : Sys2Proof.Side := .dn; let a : Nat := 0; (let s : State := calm; let s : State := s.wr (Key.linkState (sideNum p)) 3; let s : State := { s with chain := { s.chain with enumRun := none } }; let s : State := { s with chain := { s.chain with claim := some a } }; s)), by decide +kernel⟩

theorem meets_ChainEnumeration_5 : ∃ (p : Side) (m : Assign) (s : State), s.linkUp p = true ∧ s.chain.enumRun = none ∧ s.chain.claim = none ∧ s.rd Key.chainRole ≠ 1 ∧ s.addr = 0xFF :=
  ⟨.dn, zAssign, (let p : Sys2Proof.Side := .dn; (let s : State := calm; let s : State := s.wr (Key.linkState (sideNum p)) 3; let s : State := { s with chain := { s.chain with enumRun := none } }; let s : State := { s with chain := { s.chain with claim := none } }; let s : State := s.wr Key.chainAddr (0xFF); s)), by decide +kernel⟩

theorem meets_ChainEnumeration_6 : ∃ (m : Assign) (map : List TopoEntry) (r : EnumRun) (s : State), s.chain.enumRun = some r ∧ s.rd Key.chainEnumState = 2 :=
  ⟨zAssign, [], zEnumRun, (let r : Sys2Proof.Machine.EnumRun := zEnumRun; (let s : State := calm; let s : State := { s with chain := { s.chain with enumRun := some r } }; let s : State := s.wr Key.chainEnumState (2); s)), by decide +kernel⟩

theorem meets_ChainEnumeration_7 : ∃ (s : State), s.enumDue = true ∧ s.prepared = true :=
  ⟨((let s : State := calm; let s : State := s.wr (Key.chainRole) (1); let s : State := { s with dict := { s.dict with txn := some { zTxn with phase := .prepared } } }; s)), by decide +kernel⟩

theorem meets_ChainEnumeration_8 : ∃ (s : State), s.enumDue = true ∧ s.prepared = false ∧ s.linkUp .dn = true :=
  ⟨((let s : State := calm; let s : State := s.wr (Key.linkState (sideNum .dn)) 3; let s : State := s.wr (Key.chainRole) (1); s)), by decide +kernel⟩

theorem meets_ChainEnumeration_9 : ∃ (s : State), s.cmdBlocked Key.chainEnumRes = false ∧ s.rd Key.chainRole = 1 ∧ s.prepared = false ∧ s.linkUp .dn = true :=
  ⟨((let s : State := calm; let s : State := s.wr Key.chainRole (1); let s : State := s.wr (Key.linkState (sideNum .dn)) 3; s)), by decide +kernel⟩

theorem meets_ChainEnumeration_10 : ∃ (s : State), s.cmdBlocked Key.chainEnumRes = false ∧ s.rd Key.chainRole = 1 ∧ s.prepared = false ∧ s.linkUp .dn = true :=
  ⟨((let s : State := calm; let s : State := s.wr Key.chainRole (1); let s : State := s.wr (Key.linkState (sideNum .dn)) 3; s)), by decide +kernel⟩

theorem meets_ChainEnumeration_11 : ∃ (map : List TopoEntry) (dt : Nat) (r : EnumRun) (s : State), s.chain.enumRun = some r ∧ r.started + ms 1 ≤ (s.advance dt).elapsed ∧ r.attempts < 3 ∧ s.linkUp .dn = true :=
  ⟨[], 250000000000, zEnumRun, (let r : Sys2Proof.Machine.EnumRun := zEnumRun; (let s : State := calm; let s : State := { s with chain := { s.chain with enumRun := some r } }; let s : State := s.wr (Key.linkState (sideNum .dn)) 3; s)), by decide +kernel⟩

theorem meets_ChainEnumeration_12 : ∃ (map : List TopoEntry) (dt : Nat) (r : EnumRun) (s : State), s.chain.enumRun = some r ∧ r.started + ms 1 ≤ (s.advance dt).elapsed ∧ 3 ≤ r.attempts :=
  ⟨[], 250000000000, { zEnumRun with attempts := 3 }, (let r : Sys2Proof.Machine.EnumRun := { zEnumRun with attempts := 3 }; (let s : State := calm; let s : State := { s with chain := { s.chain with enumRun := some r } }; s)), by decide +kernel⟩

theorem meets_ChainHeads_1 : ∃ (p : Side) (m : Topo) (s : State), s.linkUp p = true ∧ s.rd Key.chainRole ≠ 1 ∧ s.headCandidate = false :=
  ⟨.dn, zTopo, (let p : Sys2Proof.Side := .dn; (let s : State := calm; let s : State := s.wr (Key.linkState (sideNum p)) 3; s)), by decide +kernel⟩

theorem meets_ChainHeads_2 : ∃ (s : State), s.rd Key.chainRole = 1 ∧ s.addr ≠ 0xFF ∧ s.ringIntact = true ∧ s.linkUp .dn = true :=
  ⟨((let s : State := calm; let s : State := s.wr Key.chainRole (1); let s : State := s.wr Key.chainAddr 5; let s : State := s.wr (Key.linkState (sideNum .dn)) 3; let s : State := { s with chain := { s.chain with topo := topo2 } }; s)), by decide +kernel⟩

theorem meets_ChainHeads_3 : ∃ (p : Side) (m : HeadMsg) (s : State), s.linkUp p = true ∧ s.addr ≠ 0xFF ∧ s.rd Key.chainRole = 2 ∧ m.rank.eui ≠ s.ident.eui64 ∧ m.relinquish = false :=
  ⟨.dn, { zHeadMsg with relinquish := false }, (let p : Sys2Proof.Side := .dn; (let s : State := calm; let s : State := s.wr (Key.linkState (sideNum p)) 3; let s : State := s.wr Key.chainAddr 5; let s : State := s.wr Key.chainRole (2); s)), by decide +kernel⟩

theorem meets_ChainHeads_4 : ∃ (p : Side) (m : HeadMsg) (s : State), s.linkUp p = true ∧ s.addr ≠ 0xFF ∧ s.rd Key.chainRole = 2 ∧ m.rank.eui ≠ s.ident.eui64 ∧ m.relinquish = true ∧ s.host.linkUp = true :=
  ⟨.dn, { zHeadMsg with relinquish := true }, (let p : Sys2Proof.Side := .dn; (let s : State := calm; let s : State := s.wr (Key.linkState (sideNum p)) 3; let s : State := s.wr Key.chainAddr 5; let s : State := s.wr Key.chainRole (2); let s : State := { s with host := { s.host with linkUp := true } }; s)), by decide +kernel⟩

theorem meets_ChainHeads_5 : ∃ (p : Side) (m : HeadMsg) (s : State), s.linkUp p = true ∧ s.addr ≠ 0xFF ∧ s.rd Key.chainRole = 1 ∧ m.rank.eui ≠ s.ident.eui64 ∧ m.relinquish = false ∧ s.host.linkUp = true ∧ rankAbove m.rank s.rank = true :=
  ⟨.dn, { zHeadMsg with relinquish := false }, (let p : Sys2Proof.Side := .dn; (let s : State := calm; let s : State := s.wr (Key.linkState (sideNum p)) 3; let s : State := s.wr Key.chainAddr 5; let s : State := s.wr Key.chainRole (1); let s : State := { s with host := { s.host with linkUp := true } }; s)), by decide +kernel⟩

theorem meets_ChainHeads_6 : ∃ (dt : Nat) (s : State), s.rd Key.chainRole = 2 ∧ s.host.linkUp = true ∧ s.chain.headAt + ms (s.rd Key.chainHeadMiss) ≤ (s.advance dt).elapsed :=
  ⟨250000000000, ((let s : State := calm; let s : State := s.wr Key.chainRole (2); let s : State := { s with host := { s.host with linkUp := true } }; s)), by decide +kernel⟩

theorem meets_ChainHeads_7 : ∃ (s : State), s.cmdBlocked Key.chainSwitchoverRes = false ∧ s.rd Key.chainRole = 2 ∧ s.host.linkUp = true :=
  ⟨((let s : State := calm; let s : State := s.wr Key.chainRole (2); let s : State := { s with host := { s.host with linkUp := true } }; s)), by decide +kernel⟩

theorem meets_ChainHeads_8 : ∃ (s : State), s.cmdBlocked Key.chainSwitchoverRes = false ∧ s.rd Key.chainRole = 1 ∧ s.headReached false = true :=
  ⟨((let s : State := calm; let s : State := s.wr Key.chainRole (1); let s : State := s.wr (Key.chainAddr) (0); let s : State := { s with chain := { s.chain with topo := topo2 } }; s)), by decide +kernel⟩

theorem meets_ChainMeasuresAndMemory_1 : ∃ (p : Side) (t1 : Nat) (s : State), s.linkUp p = true :=
  ⟨.dn, 0, (let p : Sys2Proof.Side := .dn; (let s : State := calm; let s : State := s.wr (Key.linkState (sideNum p)) 3; s)), by decide +kernel⟩

theorem meets_ChainMeasuresAndMemory_2 : ∃ (p : Side) (t1 : Nat) (t2 : Nat) (t3 : Nat) (s : State), s.linkUp p = true :=
  ⟨.dn, 0, 0, 0, (let p : Sys2Proof.Side := .dn; (let s : State := calm; let s : State := s.wr (Key.linkState (sideNum p)) 3; s)), by decide +kernel⟩

theorem meets_ChainMeasuresAndMemory_3 : ∃ (p : Side) (t1 : Nat) (t2 : Nat) (t3 : Nat) (t4 : Nat) (s : State), s.linkUp p = true ∧ (s.cport p).t1 = some t1 ∧ t1 ≤ t4 ∧ t2 ≤ t3 ∧ t3 - t2 ≤ t4 - t1 :=
  ⟨.dn, 0, 0, 0, 0, (let p : Sys2Proof.Side := .dn; let t1 : Nat := 0; (let s : State := calm; let s : State := s.wr (Key.linkState (sideNum p)) 3; let s : State := (let x_ := s.cport p; s.setCport p ({ x_ with t1 := some t1 })); s)), by decide +kernel⟩

theorem meets_ChainMeasuresAndMemory_4 : ∃ (p : Side) (s : State), s.isHead = true ∧ s.linkUp p = true :=
  ⟨.dn, (let p : Sys2Proof.Side := .dn; (let s : State := calm; let s : State := s.wr Key.chainRole 1; let s : State := s.wr (Key.linkState (sideNum p)) 3; s)), by decide +kernel⟩

theorem meets_ChainMeasuresAndMemory_5 : ∃ (p : Side) (m : TimeMsg) (dt : Nat) (s : State), (s.advance dt).timeRejects p m = false :=
  ⟨.up, (let z := { zTimeMsg with srcState := 1 }; { z with crc := Crypto.crc32c (timeBytes z) }), 0, ((let s : State := calm; let s : State := s.wr (Key.chainAddr) (5); let s : State := { s with chain := { s.chain with topo := topo2 }, ident := { s.ident with eui64 := 9 } }; let s : State := s.setCport .up { s.cport .up with measured := 4 }; let s : State := s.setCport .dn { s.cport .dn with measured := 4 }; let s : State := s.wr (Key.linkState 0) (3); let s : State := s.wr (Key.linkState 1) (3); s)), by decide +kernel⟩

theorem meets_ChainMeasuresAndMemory_6 : ∃ (p : Side) (m : TimeMsg) (dt : Nat) (s : State), (s.advance dt).timeRejects p m = true :=
  ⟨.dn, zTimeMsg, 0, ((let s : State := calm; s)), by decide +kernel⟩

theorem meets_ChainMeasuresAndMemory_7 : ∃ (r : SbReq) (s : State), sbReqOk r = false :=
  ⟨zSbReq, ((let s : State := calm; s)), by decide +kernel⟩

theorem meets_ChainMeasuresAndMemory_8 : ∃ (r : SbReq) (s : State), sbReqOk r = true ∧ sbDevice r.addr = s.addr ∧ s.rd Key.sbAttached < sbOffset r.addr + r.len :=
  ⟨{ zSbReq with addr := 0x1000 * 64, len := 64 }, ((let s : State := calm; let s : State := s.wr (Key.chainAddr) (0); s)), by decide +kernel⟩

theorem meets_ChainMeasuresAndMemory_9 : ∃ (r : SbReq) (s : State), sbReqOk r = true ∧ sbDevice r.addr ≠ s.addr ∧ (topoPos s.chain.topo (sbDevice r.addr)).isNone = true :=
  ⟨{ zSbReq with addr := 3 * 2 ^ 46, len := 64 }, ((let s : State := calm; s)), by decide +kernel⟩

theorem meets_ChainMeasuresAndMemory_10 : ∃ (r : SbReq) (s : State), sbReqOk r = true ∧ sbDevice r.addr ≠ s.addr ∧ s.addr ≠ 0xFF ∧ (topoPos s.chain.topo (sbDevice r.addr)).isSome = true :=
  ⟨{ zSbReq with addr := 5 * 2 ^ 46, len := 64 }, ((let s : State := calm; let s : State := s.wr Key.chainAddr 5; let s : State := s.wr (Key.chainAddr) (0); let s : State := { s with chain := { s.chain with topo := topo2 } }; s)), by decide +kernel⟩

theorem meets_ChainMeasuresAndMemory_12 : ∃ (tag : Nat) (dt : Nat) (o : SbOpen) (s : State), s.chain.opens.find? (fun o => o.tag == tag) = some o ∧ o.sentAt + us (s.rd Key.chainSbTimeoutUs) ≤ (s.advance dt).elapsed :=
  ⟨0, 250000000000, zSbOpen, (let o : Sys2Proof.Machine.SbOpen := zSbOpen; (let s : State := calm; let s : State := { s with chain := { s.chain with opens := [o] } }; s)), by decide +kernel⟩

theorem meets_DictAccess_1 : ∃ (via : Via) (a : Access) (l : List Dict.Entry) (s : State), s.Takes via a 1 ∧ a.txn = 0 ∧ namedRows a = .inr l ∧ l.any (fun r => r.ty == .domain) = false :=
  ⟨.mailbox, { ask with subcount := 2 }, [rowAt 0x1100 8, rowAt 0x1100 9], ((let s : State := calm; s)), by refine ⟨⟨?_, ?_, ?_, ?_, ?_, ?_, ?_, ?_, ?_, .inr ?_⟩, ?_, ?_, ?_⟩ <;> decide +kernel⟩

theorem meets_DictAccess_2 : ∃ (via : Via) (a : Access) (s : State), s.Takes via a 1 ∧ a.txn = 0 ∧ Dict.present a.index = false :=
  ⟨.mailbox, { ask with index := 0x0FFF }, ((let s : State := calm; s)), by refine ⟨⟨?_, ?_, ?_, ?_, ?_, ?_, ?_, ?_, ?_, .inr ?_⟩, ?_, ?_⟩ <;> decide +kernel⟩

theorem meets_DictAccess_3 : ∃ (via : Via) (a : Access) (r : Dict.Entry) (s : State), s.Takes via a 2 ∧ a.txn = 0 ∧ namedRows a = .inr [r] ∧ r.acc = .rw ∧ r.ty ≠ .domain ∧ a.payload.length = r.ty.size ∧ plainIndex a.index = true ∧ (s.check (s.stands []) r a.index a.subindex (leNat a.payload)).rejected = 0 ∧ (s.check (s.stands []) r a.index a.subindex (leNat a.payload)).log = [] :=
  ⟨.mailbox, { ask with op := 2, length := 2, payload := leBytes 2 70 }, rowAt 0x1100 8, ((let s : State := calm; s)), by refine ⟨⟨?_, ?_, ?_, ?_, ?_, ?_, ?_, ?_, ?_, .inr ?_⟩, ?_, ?_, ?_, ?_, ?_, ?_, ?_, ?_⟩ <;> decide +kernel⟩

theorem meets_DictAccess_4 : ∃ (via : Via) (a : Access) (r : Dict.Entry) (s : State), s.Takes via a 2 ∧ a.txn = 0 ∧ namedRows a = .inr [r] ∧ r.acc = .rw ∧ r.ty ≠ .domain ∧ a.payload.length = r.ty.size ∧ (s.check (s.stands []) r a.index a.subindex (leNat a.payload)).rejected ≠ 0 :=
  ⟨.mailbox, { ask with op := 2, index := 0x1801, subindex := 3, length := 1, payload := leBytes 1 7 }, rowAt 0x1801 3, ((let s : State := calm; s)), by refine ⟨⟨?_, ?_, ?_, ?_, ?_, ?_, ?_, ?_, ?_, .inr ?_⟩, ?_, ?_, ?_, ?_, ?_, ?_⟩ <;> decide +kernel⟩

theorem meets_DictAccess_5 : ∃ (via : Via) (a : Access) (r : Dict.Entry) (s : State), s.Takes via a 3 ∧ a.txn = 0 ∧ namedRows a = .inr [r] ∧ r.ty = .domain ∧ r.acc ≠ .wo :=
  ⟨.mailbox, { ask with op := 3, index := 0x6001, subindex := 6, length := 8 }, rowAt 0x6001 6, ((let s : State := calm; s)), by refine ⟨⟨?_, ?_, ?_, ?_, ?_, ?_, ?_, ?_, ?_, .inr ?_⟩, ?_, ?_, ?_, ?_⟩ <;> decide +kernel⟩

theorem meets_DictAccess_6 : ∃ (via : Via) (a : Access) (r : Dict.Entry) (s : State), s.Takes via a 4 ∧ a.txn = 0 ∧ namedRows a = .inr [r] ∧ s.blockAbsent a.index r = false ∧ s.campClosed a.index = false ∧ a.offset = 0 ∧ a.last = false ∧ keyOf a.index a.subindex ≠ Key.treeImage ∧ keyOf a.index a.subindex ≠ Key.nodeWin ∧ s.dict.transfers = [] ∧ a.payload.length ≤ r.maxLen :=
  ⟨.mailbox, { ask with op := 4, index := 0x6001, subindex := 6, length := 8, payload := zeros 8 }, rowAt 0x6001 6, ((let s : State := calm; let s : State := { s with dict := { s.dict with transfers := [] } }; s)), by refine ⟨⟨?_, ?_, ?_, ?_, ?_, ?_, ?_, ?_, ?_, .inr ?_⟩, ?_, ?_, ?_, ?_, ?_, ?_, ?_, ?_, ?_, ?_⟩ <;> decide +kernel⟩

theorem meets_DictAccess_7 : ∃ (via : Via) (a : Access) (r : Dict.Entry) (s : State), s.Takes via a 4 ∧ a.txn = 0 ∧ namedRows a = .inr [r] ∧ s.blockAbsent a.index r = false ∧ s.campClosed a.index = true :=
  ⟨.mailbox, { ask with op := 4, index := 0x5110, subindex := 5, length := 8, payload := zeros 8 }, rowAt 0x5110 5, ((let s : State := calm; let s : State := s.wr (Key.campState 0) (2); s)), by refine ⟨⟨?_, ?_, ?_, ?_, ?_, ?_, ?_, ?_, ?_, .inr ?_⟩, ?_, ?_, ?_, ?_⟩ <;> decide +kernel⟩

theorem meets_DictAccess_8 : ∃ (via : Via) (a : Access) (r : Dict.Entry) (s : State), s.Takes via a 4 ∧ a.txn = 0 ∧ namedRows a = .inr [r] ∧ s.blockAbsent a.index r = false ∧ s.campClosed a.index = false ∧ a.offset ≠ 0 ∧ s.transferOf a.origin (keyOf a.index a.subindex) = none :=
  ⟨.mailbox, { ask with op := 4, index := 0x6001, subindex := 6, offset := 64, length := 8, payload := zeros 8 }, rowAt 0x6001 6, ((let s : State := calm; s)), by refine ⟨⟨?_, ?_, ?_, ?_, ?_, ?_, ?_, ?_, ?_, .inr ?_⟩, ?_, ?_, ?_, ?_, ?_, ?_⟩ <;> decide +kernel⟩

theorem meets_DictAccess_9 : ∃ (origin : Nat) (key : Nat) (dt : Nat) (x : Transfer) (s : State), s.transferOf origin key = some x ∧ x.lastBlock + ms (s.rd Key.dictBlockIdleMs) ≤ (s.advance dt).elapsed :=
  ⟨0x80, Key.tagNdef, 250000000000, (let origin : Nat := 0x80; let key : Nat := Key.tagNdef; { zTransfer with origin := origin, key := key }), (let origin : Nat := 0x80; let key : Nat := Key.tagNdef; let x : Sys2Proof.Transfer := { zTransfer with origin := origin, key := key }; (let s : State := calm; let s : State := { s with dict := { s.dict with transfers := [x] } }; s)), by decide +kernel⟩

theorem meets_DictTransactions_1 : ∃ (via : Via) (a : Access) (r : Dict.Entry) (s : State), s.Takes via a 2 ∧ a.txn ≠ 0 ∧ s.dict.txn = none ∧ namedRows a = .inr [r] ∧ r.acc = .rwe ∧ r.ty ≠ .domain ∧ a.payload.length = r.ty.size ∧ (s.check (s.stands []) r a.index a.subindex (leNat a.payload)).rejected = 0 ∧ (s.check (s.stands []) r a.index a.subindex (leNat a.payload)).log = [] :=
  ⟨.mailbox, { ask with op := 2, txn := 9, index := 0x2100, subindex := 1, length := 1, payload := leBytes 1 1 }, rowAt 0x2100 1, ((let s : State := calm; let s : State := { s with dict := { s.dict with txn := none } }; s)), by refine ⟨⟨?_, ?_, ?_, ?_, ?_, ?_, ?_, ?_, ?_, .inr ?_⟩, ?_, ?_, ?_, ?_, ?_, ?_, ?_, ?_⟩ <;> decide +kernel⟩

theorem meets_DictTransactions_2 : ∃ (via : Via) (a : Access) (x : Txn) (s : State), s.Takes via a 5 ∧ a.txn ≠ 0 ∧ s.dict.txn = some x ∧ x.origin = a.origin ∧ x.txn = a.txn ∧ x.phase = .opened ∧ a.payload.length = 10 ∧ s.nowNs + 1000000 ≤ timeNs (rawToTime (leNat a.payload)) ∧ timeNs (rawToTime (leNat a.payload)) ≤ s.nowNs + 1000000000 * s.rd Key.dictEpochMaxS ∧ (∀ p ∈ x.staged, s.stagedMask x.staged p = 0) :=
  ⟨.mailbox, { ask with op := 5, txn := 9, length := 10, payload := beBytes 6 10 ++ beBytes 4 0 }, { zTxn with origin := 0x80, txn := 9, staged := [(Key.rxcOwner 0, 1)] }, (let x : Sys2Proof.Txn := { zTxn with origin := 0x80, txn := 9, staged := [(Key.rxcOwner 0, 1)] }; (let s : State := calm; let s : State := { s with dict := { s.dict with txn := some x } }; s)), by refine ⟨⟨?_, ?_, ?_, ?_, ?_, ?_, ?_, ?_, ?_, .inr ?_⟩, ?_, ?_, ?_, ?_, ?_, ?_, ?_, ?_, ?_⟩ <;> decide +kernel⟩

theorem meets_DictTransactions_3 : ∃ (via : Via) (a : Access) (x : Txn) (s : State), s.Takes via a 5 ∧ a.txn ≠ 0 ∧ s.dict.txn = some x ∧ x.origin = a.origin ∧ x.txn = a.txn ∧ x.phase = .opened ∧ a.payload.length = 10 ∧ timeNs (rawToTime (leNat a.payload)) < s.nowNs + 1000000 :=
  ⟨.mailbox, { ask with op := 5, txn := 9, length := 10, payload := zeros 10 }, { zTxn with origin := 0x80, txn := 9, staged := [(Key.rxcOwner 0, 1)] }, (let x : Sys2Proof.Txn := { zTxn with origin := 0x80, txn := 9, staged := [(Key.rxcOwner 0, 1)] }; (let s : State := calm; let s : State := { s with dict := { s.dict with txn := some x } }; s)), by refine ⟨⟨?_, ?_, ?_, ?_, ?_, ?_, ?_, ?_, ?_, .inr ?_⟩, ?_, ?_, ?_, ?_, ?_, ?_, ?_⟩ <;> decide +kernel⟩

theorem meets_DictTransactions_4 : ∃ (via : Via) (a : Access) (x : Txn) (s : State), s.Takes via a 5 ∧ a.txn ≠ 0 ∧ s.dict.txn = some x ∧ x.origin = a.origin ∧ x.txn = a.txn ∧ x.phase = .opened ∧ a.payload.length = 10 ∧ s.nowNs + 1000000 ≤ timeNs (rawToTime (leNat a.payload)) ∧ s.nowNs + 1000000000 * s.rd Key.dictEpochMaxS < timeNs (rawToTime (leNat a.payload)) :=
  ⟨.mailbox, { ask with op := 5, txn := 9, length := 10, payload := leBytes 10 (90000 * 2 ^ 32) }, { zTxn with origin := 0x80, txn := 9, staged := [(Key.rxcOwner 0, 1)] }, (let x : Sys2Proof.Txn := { zTxn with origin := 0x80, txn := 9, staged := [(Key.rxcOwner 0, 1)] }; (let s : State := calm; let s : State := { s with dict := { s.dict with txn := some x } }; s)), by refine ⟨⟨?_, ?_, ?_, ?_, ?_, ?_, ?_, ?_, ?_, .inr ?_⟩, ?_, ?_, ?_, ?_, ?_, ?_, ?_, ?_⟩ <;> decide +kernel⟩

theorem meets_DictTransactions_5 : ∃ (via : Via) (a : Access) (x : Txn) (s : State), s.Takes via a 6 ∧ a.txn ≠ 0 ∧ s.dict.txn = some x ∧ x.origin = a.origin ∧ x.txn = a.txn ∧ x.phase = .prepared ∧ s.nowNs < timeNs x.epoch ∧ s.rd Key.chainEnumState ≠ 3 :=
  ⟨.mailbox, { ask with op := 6, txn := 9 }, { zTxn with origin := 0x80, txn := 9, phase := .prepared, epoch := ⟨90, 0⟩, staged := [(Key.rxcOwner 0, 1)] }, (let x : Sys2Proof.Txn := { zTxn with origin := 0x80, txn := 9, phase := .prepared, epoch := ⟨90, 0⟩, staged := [(Key.rxcOwner 0, 1)] }; (let s : State := calm; let s : State := { s with dict := { s.dict with txn := some x } }; s)), by refine ⟨⟨?_, ?_, ?_, ?_, ?_, ?_, ?_, ?_, ?_, .inr ?_⟩, ?_, ?_, ?_, ?_, ?_, ?_, ?_⟩ <;> decide +kernel⟩

theorem meets_DictTransactions_6 : ∃ (via : Via) (a : Access) (s : State), s.Takes via a 6 ∧ s.dict.txn = none ∧ s.txnRecorded a.origin a.txn = none :=
  ⟨.mailbox, { ask with op := 6 }, ((let s : State := calm; let s : State := { s with dict := { s.dict with txn := none } }; s)), by refine ⟨⟨?_, ?_, ?_, ?_, ?_, ?_, ?_, ?_, ?_, .inr ?_⟩, ?_, ?_⟩ <;> decide +kernel⟩

theorem meets_DictTransactions_7 : ∃ (via : Via) (a : Access) (x : Txn) (s : State), s.Takes via a 7 ∧ a.txn ≠ 0 ∧ s.dict.txn = some x ∧ x.origin = a.origin ∧ x.txn = a.txn ∧ s.rd Key.chainEnumState ≠ 3 :=
  ⟨.mailbox, { ask with op := 7, txn := 5 }, (let a : Sys2Proof.Access := { ask with op := 7, txn := 5 }; { zTxn with origin := a.origin, txn := a.txn }), (let a : Sys2Proof.Access := { ask with op := 7, txn := 5 }; let x : Sys2Proof.Txn := { zTxn with origin := a.origin, txn := a.txn }; (let s : State := calm; let s : State := { s with dict := { s.dict with txn := some x } }; s)), by refine ⟨⟨?_, ?_, ?_, ?_, ?_, ?_, ?_, ?_, ?_, .inr ?_⟩, ?_, ?_, ?_, ?_, ?_⟩ <;> decide +kernel⟩

theorem meets_DictTransactions_8 : ∃ (dt : Nat) (x : Txn) (s : State), s.dict.txn = some x ∧ x.phase = .armed ∧ timeNs x.epoch ≤ (s.advance dt).nowNs :=
  ⟨250000000000, { zTxn with phase := .armed }, (let x : Sys2Proof.Txn := { zTxn with phase := .armed }; (let s : State := calm; let s : State := { s with dict := { s.dict with txn := some x } }; s)), by decide +kernel⟩

theorem meets_DictTransactions_9 : ∃ (dt : Nat) (x : Txn) (s : State), s.dict.txn = some x ∧ x.phase = .opened ∧ x.lastReq + ms (s.rd Key.dictTxnIdleMs) ≤ (s.advance dt).elapsed :=
  ⟨250000000000, { zTxn with phase := .opened }, (let x : Sys2Proof.Txn := { zTxn with phase := .opened }; (let s : State := calm; let s : State := { s with dict := { s.dict with txn := some x } }; s)), by decide +kernel⟩

theorem meets_DictTransactions_10 : ∃ (dt : Nat) (x : Txn) (s : State), s.dict.txn = some x ∧ x.phase = .prepared ∧ timeNs x.epoch + 1000000 * s.rd Key.dictCommitGraceMs ≤ (s.advance dt).nowNs :=
  ⟨250000000000, { zTxn with phase := .prepared }, (let x : Sys2Proof.Txn := { zTxn with phase := .prepared }; (let s : State := calm; let s : State := { s with dict := { s.dict with txn := some x } }; s)), by decide +kernel⟩

theorem meets_DictTransactions_11 : ∃ (tenant : Nat) (dt : Nat) (g : Grace) (s : State), s.dict.graces.find? (fun g => g.tenant == tenant) = some g ∧ g.endsAt ≤ (s.advance dt).nowNs :=
  ⟨0, 250000000000, zGrace, (let g : Sys2Proof.Grace := zGrace; (let s : State := calm; let s : State := { s with dict := { s.dict with graces := [g] } }; s)), by decide +kernel⟩

theorem meets_DictAskingAndStores_1 : ∃ (via : Via) (a : Access) (s : State), s.Takes via a 8 ∧ a.txn = 0 ∧ a.sub = true ∧ a.payload.length = 4 ∧ s.dict.subs = [] ∧ 100 ≤ leNat a.payload ∧ leNat a.payload ≤ 10000000 ∧ (∃ r, namedRows a = .inr [r] ∧ r.ty ≠ .domain) :=
  ⟨.mailbox, { ask with op := 8, sub := true, length := 4, payload := leBytes 4 1000 }, ((let s : State := calm; let s : State := { s with dict := { s.dict with subs := [] } }; s)), by refine ⟨⟨?_, ?_, ?_, ?_, ?_, ?_, ?_, ?_, ?_, .inr ?_⟩, ?_, ?_, ?_, ?_, ?_, ?_, rowAt 0x1100 8, ?_, ?_⟩ <;> decide +kernel⟩

theorem meets_DictAskingAndStores_2 : ∃ (slot : Nat) (dt : Nat) (x : Subscription) (s : State), s.dict.subs[slot]? = some x ∧ x.lastSent = none ∧ (s.advance dt).watched x.key ≠ x.seen :=
  ⟨0, 0, { zSubscription with key := Key.errMinSeverity }, (let x : Sys2Proof.Subscription := { zSubscription with key := Key.errMinSeverity }; (let s : State := calm; let s : State := { s with dict := { s.dict with subs := [x] } }; let s : State := s.wr (Key.errMinSeverity) (2); s)), by decide +kernel⟩

theorem meets_DictAskingAndStores_3 : ∃ (src : Nat) (a : Access) (x : Asked) (s : State), s.alive = true ∧ a.crcOk = true ∧ s.dict.asked.find? (fun x => x.dest == src && x.frame.origin == a.origin && x.frame.reqId == a.reqId) = some x :=
  ⟨3, { ask with resp := true }, { zAsked with dest := 3, frame := ask }, (let x : Sys2Proof.Asked := { zAsked with dest := 3, frame := ask }; (let s : State := calm; let s : State := { s with dict := { s.dict with asked := [x] } }; let s : State := { s with dict := { s.dict with asked := [x] } }; s)), by decide +kernel⟩

theorem meets_DictAskingAndStores_4 : ∃ (slot : Nat) (dt : Nat) (x : Asked) (s : State), s.dict.asked[slot]? = some x ∧ x.sentAt + us (s.rd Key.dictTimeoutUs) ≤ (s.advance dt).elapsed ∧ x.resends < s.rd Key.dictRetries :=
  ⟨0, 250000000000, zAsked, (let x : Sys2Proof.Asked := zAsked; (let s : State := calm; let s : State := { s with dict := { s.dict with asked := [x] } }; s)), by decide +kernel⟩

theorem meets_DictAskingAndStores_5 : ∃ (slot : Nat) (dt : Nat) (x : Asked) (s : State), s.dict.asked[slot]? = some x ∧ x.sentAt + us (s.rd Key.dictTimeoutUs) ≤ (s.advance dt).elapsed ∧ s.rd Key.dictRetries ≤ x.resends :=
  ⟨0, 250000000000, { zAsked with dest := 3, frame := ask, resends := 3 }, (let x : Sys2Proof.Asked := { zAsked with dest := 3, frame := ask, resends := 3 }; (let s : State := calm; let s : State := { s with dict := { s.dict with asked := [x] } }; let s : State := { s with dict := { s.dict with asked := [x] } }; s)), by decide +kernel⟩

theorem meets_DictAskingAndStores_6 : ∃ (s : State), s.cmdBlocked Key.dictStoreRes = false :=
  ⟨((let s : State := calm; s)), by decide +kernel⟩

theorem meets_DictAskingAndStores_7 : ∃ (s : State), s.cmdBlocked Key.dictStoreRes = false :=
  ⟨((let s : State := calm; s)), by decide +kernel⟩

theorem meets_DictAskingAndStores_8 : ∃ (set : Option BankC) (s : State), s.dict.storing = some set :=
  ⟨none, (let set : Option Sys2Proof.Machine.BankC := none; (let s : State := calm; let s : State := { s with dict := { s.dict with storing := some set } }; s)), by decide +kernel⟩

theorem meets_DictAskingAndStores_9 : ∃ (set : Option BankC) (s : State), s.dict.storing = some set :=
  ⟨none, (let set : Option Sys2Proof.Machine.BankC := none; (let s : State := calm; let s : State := { s with dict := { s.dict with storing := some set } }; s)), by decide +kernel⟩

theorem meets_DictAskingAndStores_10 : ∃ (s : State), s.cmdBlocked Key.clampLogClearRes = false :=
  ⟨((let s : State := calm; s)), by decide +kernel⟩

theorem meets_DictAskingAndStores_11 : ∃ (s : State), s.cmdBlocked Key.errLogClearRes = false :=
  ⟨((let s : State := calm; s)), by decide +kernel⟩

theorem meets_PortStates_1 : ∃ (p : Fin 4) (g : Fin 5) (s : State), s.cmdBlocked (Key.portStateRes p) = false ∧ s.radioHeld = true :=
  ⟨0, 0, ((let s : State := calm; let s : State := s.wr (Key.pwrState) (3); s)), by decide +kernel⟩

theorem meets_PortStates_2 : ∃ (p : Fin 4) (g : Fin 5) (s : State), s.cmdBlocked (Key.portStateRes p) = false ∧ s.radioHeld = false ∧ s.pstate p = 0 ∧ (s.port p).seq = false ∧ (s.port p).step = none ∧ (s.port p).resume = none ∧ s.dwellOver p = true ∧ 1 ≤ g.val :=
  ⟨0, 1, (let p : Fin 4 := 0; (let s : State := calm; let s : State := s.wr (Key.portState p) 0; let s : State := (let x_ := s.port p; s.setPort p ({ x_ with seq := false })); let s : State := (let x_ := s.port p; s.setPort p ({ x_ with step := none })); let s : State := (let x_ := s.port p; s.setPort p ({ x_ with resume := none })); let s : State := { s with clock := { s.clock with elapsed := 1000000 } }; s)), by decide +kernel⟩

theorem meets_PortStates_3 : ∃ (p : Fin 4) (g : Fin 5) (s : State), s.cmdBlocked (Key.portStateRes p) = true :=
  ⟨0, 0, (let p : Fin 4 := 0; (let s : State := calm; let s : State := s.setRes (Key.portStateRes p) { s.res (Key.portStateRes p) with busy := true }; s)), by decide +kernel⟩

theorem meets_PortStates_4 : ∃ (p : Fin 4) (out : List CalMeas) (m : Bytes) (dt : Nat) (s : State), (s.advance dt).pstate p = 0 ∧ (s.port p).step = some 1 ∧ (s.port p).resume = none ∧ (s.port p).host = some 3 ∧ (s.port p).seq = false ∧ (s.advance dt).radioHeld = false :=
  ⟨0, [], [], 0, (let p : Fin 4 := 0; (let s : State := calm; let s : State := s.wr (Key.portState p) 0; let s : State := (let x_ := s.port p; s.setPort p ({ x_ with step := some 1 })); let s : State := (let x_ := s.port p; s.setPort p ({ x_ with resume := none })); let s : State := (let x_ := s.port p; s.setPort p ({ x_ with host := some 3 })); let s : State := (let x_ := s.port p; s.setPort p ({ x_ with seq := false })); s)), by decide +kernel⟩

theorem meets_PortStates_5 : ∃ (p : Fin 4) (dt : Nat) (s : State), s.pstate p = 1 ∧ (s.port p).step = none ∧ (s.port p).resume = none ∧ (s.port p).host = some 3 ∧ (s.port p).seq = false ∧ (s.advance dt).radioHeld = false ∧ (s.port p).since + us 20 ≤ (s.advance dt).elapsed :=
  ⟨0, 250000000000, (let p : Fin 4 := 0; (let s : State := calm; let s : State := s.wr (Key.portState p) 1; let s : State := (let x_ := s.port p; s.setPort p ({ x_ with step := none })); let s : State := (let x_ := s.port p; s.setPort p ({ x_ with resume := none })); let s : State := (let x_ := s.port p; s.setPort p ({ x_ with host := some 3 })); let s : State := (let x_ := s.port p; s.setPort p ({ x_ with seq := false })); s)), by decide +kernel⟩

theorem meets_PortStates_6 : ∃ (p : Fin 4) (s : State), (s.port p).resume = none ∧ 3 ≤ s.pstate p ∧ s.airOn p = [] :=
  ⟨0, (let p : Fin 4 := 0; (let s : State := calm; let s : State := (let x_ := s.port p; s.setPort p ({ x_ with resume := none })); let s : State := s.wr (Key.portState p) 3; s)), by decide +kernel⟩

theorem meets_PortStates_7 : ∃ (p : Fin 4) (n : Nat) (j : TxJob) (s : State), (s.port p).resume = none ∧ 3 ≤ s.pstate p ∧ n ∈ s.airOn p ∧ (s.tx n).job = some j ∧ j.aborted = none :=
  ⟨0, 0, { zTxJob with aborted := none }, (let p : Fin 4 := 0; let n : Nat := 0; let j : Sys2Proof.Machine.TxJob := { zTxJob with aborted := none }; (let s : State := calm; let s : State := (let x_ := s.port p; s.setPort p ({ x_ with resume := none })); let s : State := s.wr (Key.portState p) 3; let s : State := (let x_ := s.tx n; s.setTx n ({ x_ with job := some j })); let s : State := s.wr (Key.txcState n) (4); s)), by decide +kernel⟩

theorem meets_PortStates_8 : ∃ (p : Fin 4) (dt : Nat) (b : Nat) (s : State), (s.port p).resume = some b ∧ s.pstate p = 2 ∧ (s.port p).tries < 2 :=
  ⟨0, 0, 0, (let p : Fin 4 := 0; let b : Nat := 0; (let s : State := calm; let s : State := (let x_ := s.port p; s.setPort p ({ x_ with resume := some b })); let s : State := s.wr (Key.portState p) 2; s)), by decide +kernel⟩

theorem meets_PortStates_9 : ∃ (p : Fin 4) (dt : Nat) (b : Nat) (s : State), (s.port p).resume = some b ∧ s.pstate p = 2 ∧ (s.port p).tries = 2 :=
  ⟨0, 0, 0, (let p : Fin 4 := 0; let b : Nat := 0; (let s : State := calm; let s : State := (let x_ := s.port p; s.setPort p ({ x_ with resume := some b })); let s : State := s.wr (Key.portState p) 2; let s : State := (let x_ := s.port p; s.setPort p ({ x_ with tries := 2 })); s)), by decide +kernel⟩

theorem meets_PortStates_10 : ∃ (p : Fin 4) (dt : Nat) (b : Nat) (s : State), (s.port p).resume = some b ∧ s.pstate p = 2 :=
  ⟨0, 0, 0, (let p : Fin 4 := 0; let b : Nat := 0; (let s : State := calm; let s : State := (let x_ := s.port p; s.setPort p ({ x_ with resume := some b })); let s : State := s.wr (Key.portState p) 2; s)), by decide +kernel⟩

theorem meets_PortStates_11 : ∃ (p : Fin 4) (s : State), (s.port p).centre ≠ s.rd (Key.portCentreKhz p) ∧ 2 ≤ s.pstate p ∧ (s.port p).step = none ∧ (s.port p).resume = none ∧ s.airOn p = [] :=
  ⟨0, (let p : Fin 4 := 0; (let s : State := calm; let s : State := s.wr (Key.portState p) 2; let s : State := (let x_ := s.port p; s.setPort p ({ x_ with step := none })); let s : State := (let x_ := s.port p; s.setPort p ({ x_ with resume := none })); let s : State := s.setPort p { s.port p with centre := 867000 }; s)), by decide +kernel⟩

theorem meets_TileIslands_1 : ∃ (x : Tile) (dt : Nat) (s : State), (∀ k, x ≠ .core k) ∧ (s.isl x).phase = .off ∧ (s.isl x).want = some true ∧ (s.isl x).since + us 10 ≤ (s.advance dt).elapsed :=
  ⟨(.rx 0), 250000000000, (let x : Sys2Proof.Tile := (.rx 0); (let s : State := calm; let s : State := (let x_ := s.isl x; s.setIsl x ({ x_ with phase := .off })); let s : State := (let x_ := s.isl x; s.setIsl x ({ x_ with want := some true })); s)), by decide +kernel⟩

theorem meets_TileIslands_2 : ∃ (n : Fin 16) (dt : Nat) (s : State), (s.isl (.core n)).phase = .off ∧ (s.isl (.core n)).want = some true ∧ (s.isl (.core n)).since + us 10 ≤ (s.advance dt).elapsed :=
  ⟨0, 250000000000, (let n : Fin 16 := 0; (let s : State := calm; let s : State := (let x_ := s.isl (.core n); s.setIsl (.core n) ({ x_ with phase := .off })); let s : State := (let x_ := s.isl (.core n); s.setIsl (.core n) ({ x_ with want := some true })); s)), by decide +kernel⟩

theorem meets_TileIslands_3 : ∃ (x : Tile) (dt : Nat) (s : State), (∀ k, x ≠ .core k) ∧ (s.isl x).phase = .on ∧ (s.isl x).want = some false ∧ s.islandIdle x = true ∧ (s.isl x).since + us 10 ≤ (s.advance dt).elapsed :=
  ⟨(.rx 0), 250000000000, (let x : Sys2Proof.Tile := (.rx 0); (let s : State := calm; let s : State := (let x_ := s.isl x; s.setIsl x ({ x_ with phase := .on })); let s : State := (let x_ := s.isl x; s.setIsl x ({ x_ with want := some false })); s)), by decide +kernel⟩

theorem meets_TileIslands_4 : ∃ (x : Tile) (dt : Nat) (s : State), (s.isl x).phase = .starting :=
  ⟨(.rx 0), 0, (let x : Sys2Proof.Tile := (.rx 0); (let s : State := calm; let s : State := (let x_ := s.isl x; s.setIsl x ({ x_ with phase := .starting })); s)), by decide +kernel⟩

theorem meets_TileIslands_5 : ∃ (x : Tile) (dt : Nat) (s : State), (∀ k, x ≠ .core k) ∧ (s.isl x).phase = .stopping ∧ s.islandIdle x = true :=
  ⟨(.rx 0), 0, (let x : Sys2Proof.Tile := (.rx 0); (let s : State := calm; let s : State := (let x_ := s.isl x; s.setIsl x ({ x_ with phase := .stopping })); s)), by decide +kernel⟩

theorem meets_TileIslands_6 : ∃ (n : Fin 16) (dt : Nat) (s : State), (s.isl (.core n)).phase = .stopping ∧ (s.isl (.core n)).since + us 10 ≤ (s.advance dt).elapsed :=
  ⟨0, 250000000000, (let n : Fin 16 := 0; (let s : State := calm; let s : State := (let x_ := s.isl (.core n); s.setIsl (.core n) ({ x_ with phase := .stopping })); s)), by decide +kernel⟩

theorem meets_TileIslands_7 : ∃ (x : Tile) (dt : Nat) (s : State), (∀ k, x ≠ .core k) ∧ (s.isl x).phase = .off ∧ (s.isl x).want = some true ∧ (s.isl x).since + us 10 ≤ (s.advance dt).elapsed :=
  ⟨(.rx 0), 250000000000, (let x : Sys2Proof.Tile := (.rx 0); (let s : State := calm; let s : State := (let x_ := s.isl x; s.setIsl x ({ x_ with phase := .off })); let s : State := (let x_ := s.isl x; s.setIsl x ({ x_ with want := some true })); s)), by decide +kernel⟩

theorem meets_TileIslands_8 : ∃ (x : Tile) (dt : Nat) (s : State), (s.advance dt).elapsed < (s.isl x).since + us 10 :=
  ⟨(.rx 0), 0, ((let s : State := calm; s)), by decide +kernel⟩

theorem meets_TileIslands_9 : ∃ (n : Fin 64) (w : Nat) (s : State), (s.rx n).next = some w ∧ s.rxBusy n = false ∧ (w = unplaced ∨ (3 ≤ s.pstate (placePort w) ∧ s.rxOthers (placePort w) n < 32)) :=
  ⟨0, unplaced, (let n : Fin 64 := 0; let w : Nat := unplaced; (let s : State := calm; let s : State := (let x_ := s.rx n; s.setRx n ({ x_ with next := some w })); s)), by decide +kernel⟩

theorem meets_TileIslands_10 : ∃ (n : Fin 64) (w : Nat) (s : State), (s.rx n).next = some w ∧ s.rxBusy n = false ∧ w ≠ unplaced ∧ s.pstate (placePort w) < 3 :=
  ⟨0, 0, (let n : Fin 64 := 0; let w : Nat := 0; (let s : State := calm; let s : State := (let x_ := s.rx n; s.setRx n ({ x_ with next := some w })); s)), by decide +kernel⟩

theorem meets_TileIslands_11 : ∃ (n : Fin 64) (s : State), s.rxBusy n = true :=
  ⟨0, (let n : Fin 64 := 0; (let s : State := calm; let s : State := s.wr (Key.rxcState n) 2; s)), by decide +kernel⟩

theorem meets_Calibration_1 : ∃ (v : BitVec 8) (s : State), bits v.toNat 4 4 = 0 :=
  ⟨0, ((let s : State := calm; s)), by decide +kernel⟩

theorem meets_Calibration_2 : ∃ (v : BitVec 8) (s : State), bits v.toNat 4 4 ≠ 0 ∧ s.cmdBlocked Key.calRes = false ∧ s.radio.cal = none ∧ 2 ≤ s.pstate (bits v.toNat 0 2) :=
  ⟨0x12, ((let s : State := calm; let s : State := { s with radio := { s.radio with cal := none } }; let s : State := s.wr (Key.portState 2) (2); s)), by decide +kernel⟩

theorem meets_Calibration_3 : ∃ (p : Fin 4) (dt : Nat) (s : State), s.radio.cal = none ∧ (s.advance dt).calDue p = true ∧ (∀ q, q < p.val → (s.advance dt).calDue q = false) :=
  ⟨0, 2500000000000000, ((let s : State := calm; let s : State := { s with radio := { s.radio with cal := none } }; let s : State := s.wr (Key.portState 0) (3); s)), by decide +kernel⟩

theorem meets_Calibration_4 : ∃ (i : Fin 41) (m : Bytes) (dt : Nat) (c : CalRun) (s : State), s.radio.cal = some c ∧ c.left.contains i.val = true ∧ c.left.filter (· != i.val) ≠ [] ∧ (s.advance dt).measurable c.port i = true :=
  ⟨0, [], 0, { zCalRun with left := [0, 1] }, (let c : Sys2Proof.Machine.CalRun := { zCalRun with left := [0, 1] }; (let s : State := calm; let s : State := { s with radio := { s.radio with cal := some c } }; let s : State := s.wr (Key.rxcState 0) (0); s)), by decide +kernel⟩

theorem meets_Calibration_5 : ∃ (dt : Nat) (c : CalRun) (s : State), s.radio.cal = some c ∧ c.blind = false ∧ c.blindLeft ≠ [] ∧ (s.advance dt).windowOpen c = true :=
  ⟨0, { zCalRun with port := 2, kinds := 2, left := [] }, (let c : Sys2Proof.Machine.CalRun := { zCalRun with port := 2, kinds := 2, left := [] }; (let s : State := air; let s : State := { s with radio := { s.radio with cal := some c } }; let s : State := s.setSched { s.girth.sched with fired := [⟨0, .window 2 0, 0⟩] }; let s : State := s.wr (Key.sfSharedSlots 0) (0); s)), by decide +kernel⟩

theorem meets_Calibration_6 : ∃ (out : List CalMeas) (m : Bytes) (dt : Nat) (c : CalRun) (s : State), s.radio.cal = some c ∧ c.blind = true ∧ c.kinds = 2 ∧ c.codes = [] ∧ c.openedAt + us 6500 ≤ (s.advance dt).elapsed ∧ s.blindCode 1 (out.getD 1 { power := [], figure := [] }) ≠ 0 :=
  ⟨[], [], 250000000000, { zCalRun with blind := true, kinds := 2, codes := [] }, (let c : Sys2Proof.Machine.CalRun := { zCalRun with blind := true, kinds := 2, codes := [] }; (let s : State := calm; let s : State := { s with radio := { s.radio with cal := some c } }; s)), by decide +kernel⟩

theorem meets_Calibration_7 : ∃ (out : List CalMeas) (m : Bytes) (dt : Nat) (c : CalRun) (s : State), s.radio.cal = some c ∧ c.blind = true ∧ c.kinds = 2 ∧ c.codes = [] ∧ c.openedAt + us 6500 ≤ (s.advance dt).elapsed ∧ s.blindCode 1 (out.getD 1 { power := [], figure := [] }) = 0 :=
  ⟨[⟨[], []⟩, ⟨[], [0]⟩], [], 250000000000, { zCalRun with blind := true, kinds := 2, codes := [] }, (let c : Sys2Proof.Machine.CalRun := { zCalRun with blind := true, kinds := 2, codes := [] }; (let s : State := calm; let s : State := { s with radio := { s.radio with cal := some c } }; s)), by decide +kernel⟩

theorem meets_Calibration_8 : ∃ (dt : Nat) (c : CalRun) (s : State), s.radio.cal = some c ∧ c.blind = false ∧ c.kinds = 1 ∧ c.codes = [] ∧ c.started + ms 60000 ≤ (s.advance dt).elapsed :=
  ⟨250000000000, { zCalRun with blind := false, kinds := 1, codes := [] }, (let c : Sys2Proof.Machine.CalRun := { zCalRun with blind := false, kinds := 1, codes := [] }; (let s : State := calm; let s : State := { s with radio := { s.radio with cal := some c } }; s)), by decide +kernel⟩

theorem meets_Calibration_9 : ∃ (dt : Nat) (c : CalRun) (s : State), s.radio.cal = some c ∧ c.left ≠ [] ∧ c.kinds = 4 ∧ c.codes = [] ∧ c.started + ms 10000 ≤ (s.advance dt).elapsed :=
  ⟨250000000000, { zCalRun with kinds := 4, left := [3] }, (let c : Sys2Proof.Machine.CalRun := { zCalRun with kinds := 4, left := [3] }; (let s : State := calm; let s : State := { s with radio := { s.radio with cal := some c } }; s)), by decide +kernel⟩

theorem meets_AntennaAndStamp_1 : ∃ (s : State), s.cmdBlocked Key.stampLockRes = false ∧ s.radio.locking = false ∧ s.fuses.locked = none ∧ s.fuses.failed = false ∧ (∀ p, p < 4 → s.dom (Key.stampPort p) ≠ []) :=
  ⟨((let s : State := calm; let s : State := { s with radio := { s.radio with locking := false } }; let s : State := { s with fuses := { s.fuses with locked := none } }; let s : State := { s with fuses := { s.fuses with failed := false } }; let s : State := { s with dict := { s.dict with doms := [(Key.stampPort 0, [1]), (Key.stampPort 1, [1]), (Key.stampPort 2, [1]), (Key.stampPort 3, [1])] } }; s)), by decide +kernel⟩

theorem meets_AntennaAndStamp_2 : ∃ (s : State), s.cmdBlocked Key.stampLockRes = false ∧ s.radio.locking = false ∧ s.fuses.locked = none ∧ s.fuses.failed = false ∧ (∃ p, p < 4 ∧ s.dom (Key.stampPort p) = []) :=
  ⟨((let s : State := calm; let s : State := { s with radio := { s.radio with locking := false } }; let s : State := { s with fuses := { s.fuses with locked := none } }; let s : State := { s with fuses := { s.fuses with failed := false } }; s)), ⟨by decide +kernel, by decide +kernel, by decide +kernel, by decide +kernel, 0, by decide +kernel⟩⟩

theorem meets_AntennaAndStamp_3 : ∃ (s : State), s.cmdBlocked Key.stampLockRes = false ∧ s.radio.locking = false ∧ s.fuses.locked = none ∧ s.fuses.failed = true :=
  ⟨((let s : State := calm; let s : State := { s with radio := { s.radio with locking := false } }; let s : State := { s with fuses := { s.fuses with locked := none } }; let s : State := { s with fuses := { s.fuses with failed := true } }; s)), by decide +kernel⟩

theorem meets_AntennaAndStamp_4 : ∃ (s : State), s.cmdBlocked Key.stampLockRes = false ∧ s.radio.locking = false ∧ s.fuses.locked ≠ none :=
  ⟨((let s : State := calm; let s : State := { s with radio := { s.radio with locking := false } }; let s : State := { s with fuses := { s.fuses with locked := some [] } }; s)), by decide +kernel⟩

theorem meets_AntennaAndStamp_5 : ∃ (s : State), s.radio.locking = true :=
  ⟨((let s : State := calm; let s : State := { s with radio := { s.radio with locking := true } }; s)), by decide +kernel⟩

theorem meets_AntennaAndStamp_6 : ∃ (s : State), s.radio.locking = true :=
  ⟨((let s : State := calm; let s : State := { s with radio := { s.radio with locking := true } }; s)), by decide +kernel⟩

theorem meets_AntennaAndStamp_7 : ∃ (p : Fin 4) (f : Int) (r : Int) (dt : Nat) (s : State), s.pdUsed p = true ∧ (s.advance dt).burstSteady p = true ∧ 0 ≤ f + (bits (s.port p).fem 8 6 : Int) * 65536 ∧ s.rd (Key.portAntState p) = 3 :=
  ⟨0, 0, 0, 1000000, (let p : Fin 4 := 0; (let s : State := calm; let s : State := s.wr (Key.portAntState p) (3); let s : State := s.wr (Key.portState p) (4); let s : State := s.wr (Key.txcState 0) (4); let s : State := s.setPort p { s.port p with fem := 16, burst := some 0 }; let s : State := s.setTx 0 { s.tx 0 with job := some zTxJob }; s)), by decide +kernel⟩

theorem meets_AntennaAndStamp_8 : ∃ (p : Fin 4) (f : Int) (r : Int) (dt : Nat) (s : State), f + (bits (s.port p).fem 8 6 : Int) * 65536 < 0 :=
  ⟨0, -1, 0, 0, ((let s : State := calm; s)), by decide +kernel⟩

theorem meets_AntennaAndStamp_9 : ∃ (p : Fin 4) (dt : Nat) (s : State), (s.advance dt).pdUsed p = true ∧ 2 ≤ s.pstate p ∧ s.rd (Key.portAntState p) ≠ 3 ∧ (s.port p).diagSince + ms 10000 ≤ (s.advance dt).elapsed :=
  ⟨0, 250000000000, (let p : Fin 4 := 0; (let s : State := calm; let s : State := s.wr (Key.portState p) 2; let s : State := s.setPort p { s.port p with fem := 16 }; let s : State := s.wr (Key.portState p) (2); s)), by decide +kernel⟩

theorem meets_TileReceives_1 : ∃ (n : Fin 64) (level : Int) (dt : Nat) (s : State), s.rd (Key.rxcState n) = 1 ∧ s.pstate (s.rxPort n) = 3 ∧ (s.port (s.rxPort n)).step = none ∧ (s.advance dt).blindNow (s.rxPort n) = false ∧ (s.rx n).calUntil ≤ (s.advance dt).elapsed ∧ (2 : Int) * (s.rdI 8 (Key.rxcDetectDbm n) - thrOffset (s.rxMode n)) ≤ level :=
  ⟨0, 0, 250000000000, (let n : Fin 64 := 0; (let s : State := calm; let s : State := s.wr (Key.rxcState n) (1); let s : State := s.wr (Key.portState (s.rxPort n)) 3; let s : State := (let x_ := s.port (s.rxPort n); s.setPort (s.rxPort n) ({ x_ with step := none })); s)), by decide +kernel⟩

theorem meets_TileReceives_2 : ∃ (n : Fin 64) (level : Int) (dt : Nat) (s : State), level < (2 : Int) * (s.rdI 8 (Key.rxcDetectDbm n) - thrOffset (s.rxMode n)) :=
  ⟨0, -1000, 0, ((let s : State := calm; s)), by decide +kernel⟩

theorem meets_TileReceives_3 : ∃ (n : Fin 64) (s1 : List Int) (s2 : List Int) (est : Int) (dt : Nat) (f : RxFrame) (s : State), (s.rx n).frame = some f ∧ s.rd (Key.rxcState n) = 2 ∧ f.qualified = none ∧ qualifies (s.rxMode n) (s.rd (Key.rxcQualifier n)) 64 s1 = true ∧ qualifies (s.rxMode n) (s.rd (Key.rxcQualifier n)) 64 s2 = true ∧ (s.advance dt).elapsed ≤ f.at0 + s.symbols n 4 :=
  ⟨0, soft (symbolChips 1 0), soft (symbolChips 1 0), 0, 0, { zRxFrame with qualified := none }, (let n : Fin 64 := 0; let f : Sys2Proof.Machine.RxFrame := { zRxFrame with qualified := none }; (let s : State := air; let s : State := (let x_ := s.rx n; s.setRx n ({ x_ with frame := some f })); let s : State := s.wr (Key.rxcState n) (2); s)), by decide +kernel⟩

theorem meets_TileReceives_4 : ∃ (n : Fin 64) (dt : Nat) (f : RxFrame) (s : State), (s.rx n).frame = some f ∧ s.rd (Key.rxcState n) = 2 ∧ f.qualified = none ∧ f.at0 + s.symbols n 4 ≤ (s.advance dt).elapsed ∧ 3 ≤ s.pstate (s.rxPort n) :=
  ⟨0, 250000000000, zRxFrame, (let n : Fin 64 := 0; let f : Sys2Proof.Machine.RxFrame := zRxFrame; (let s : State := air; let s : State := (let x_ := s.rx n; s.setRx n ({ x_ with frame := some f })); let s : State := s.wr (Key.rxcState n) (2); s)), by decide +kernel⟩

theorem meets_TileReceives_5 : ∃ (n : Fin 64) (sfd : List (List Int)) (word : Int) (phase : Int) (fofs : Int) (dt : Nat) (f : RxFrame) (q : Nat) (s : State), (s.rx n).frame = some f ∧ s.rd (Key.rxcState n) = 2 ∧ f.qualified = some q ∧ f.afc.isSome = true ∧ fofs.natAbs ≤ afcRange (s.rxMode n) ∧ (s.advance dt).elapsed ≤ q + s.symbols n 40 ∧ Machine.sfdFound (s.rxMode n) sfd = true :=
  ⟨0, [soft (symbolChips 1 7), soft (symbolChips 1 10)], 0, 0, 0, 0, { zRxFrame with qualified := some 0, afc := some 0 }, 0, (let n : Fin 64 := 0; let f : Sys2Proof.Machine.RxFrame := { zRxFrame with qualified := some 0, afc := some 0 }; (let s : State := air; let s : State := (let x_ := s.rx n; s.setRx n ({ x_ with frame := some f })); let s : State := s.wr (Key.rxcState n) (2); s)), by decide +kernel⟩

theorem meets_TileReceives_6 : ∃ (n : Fin 64) (dt : Nat) (f : RxFrame) (q : Nat) (s : State), (s.rx n).frame = some f ∧ s.rd (Key.rxcState n) = 2 ∧ f.qualified = some q ∧ q + s.symbols n 40 ≤ (s.advance dt).elapsed ∧ 3 ≤ s.pstate (s.rxPort n) :=
  ⟨0, 250000000000, (let q : Nat := 0; { zRxFrame with qualified := some q }), 0, (let n : Fin 64 := 0; let q : Nat := 0; let f : Sys2Proof.Machine.RxFrame := { zRxFrame with qualified := some q }; (let s : State := air; let s : State := (let x_ := s.rx n; s.setRx n ({ x_ with frame := some f })); let s : State := s.wr (Key.rxcState n) (2); s)), by decide +kernel⟩

theorem meets_TileReceives_7 : ∃ (n : Fin 64) (syms : List RxSym) (dt : Nat) (f : RxFrame) (s : State), (s.rx n).frame = some f ∧ s.rd (Key.rxcState n) = 3 ∧ f.len = none ∧ syms.length = symbolsOf (s.rxMode n) 1 ∧ (s.advance dt).octetsPassed (s.rxMode n) (f.sfd.getD 0) 1 = true ∧ (f.loop.run (s.rxMode n) syms).lost = false ∧ 5 ≤ leNat (despread (s.rxMode n) f.loop.ref syms) % 128 :=
  ⟨0, symsOf [20], 250000000, { zRxFrame with sfd := some 0 }, (let n : Fin 64 := 0; let f : Sys2Proof.Machine.RxFrame := { zRxFrame with sfd := some 0 }; (let s : State := air; let s : State := (let x_ := s.rx n; s.setRx n ({ x_ with frame := some f })); let s : State := s.wr (Key.rxcState n) (3); s)), by decide +kernel⟩

theorem meets_TileReceives_8 : ∃ (n : Fin 64) (syms : List RxSym) (dt : Nat) (f : RxFrame) (s : State), (s.rx n).frame = some f ∧ s.rd (Key.rxcState n) = 3 ∧ f.len = none ∧ syms.length = symbolsOf (s.rxMode n) 1 ∧ (s.advance dt).octetsPassed (s.rxMode n) (f.sfd.getD 0) 1 = true ∧ (f.loop.run (s.rxMode n) syms).lost = false ∧ leNat (despread (s.rxMode n) f.loop.ref syms) % 128 ≤ 4 :=
  ⟨0, symsOf [3], 250000000, { zRxFrame with sfd := some 0 }, (let n : Fin 64 := 0; let f : Sys2Proof.Machine.RxFrame := { zRxFrame with sfd := some 0 }; (let s : State := air; let s : State := (let x_ := s.rx n; s.setRx n ({ x_ with frame := some f })); let s : State := s.wr (Key.rxcState n) (3); s)), by decide +kernel⟩

theorem meets_TileReceives_9 : ∃ (n : Fin 64) (syms : List RxSym) (dt : Nat) (f : RxFrame) (q : Nat) (s : State), (s.rx n).frame = some f ∧ s.rd (Key.rxcState n) = 3 ∧ f.sfd = some q ∧ q + s.symbols n 8 ≤ (s.advance dt).elapsed ∧ syms.length = 8 ∧ syms.all (fun x => lowSymbol (s.rxMode n) x.chips) = true ∧ 3 ≤ s.pstate (s.rxPort n) :=
  ⟨0, List.replicate 8 ⟨[], 0, 0⟩, 250000000000, (let q : Nat := 0; { zRxFrame with sfd := some q }), 0, (let n : Fin 64 := 0; let q : Nat := 0; let f : Sys2Proof.Machine.RxFrame := { zRxFrame with sfd := some q }; (let s : State := air; let s : State := (let x_ := s.rx n; s.setRx n ({ x_ with frame := some f })); let s : State := s.wr (Key.rxcState n) (3); s)), by decide +kernel⟩

theorem meets_TileReceives_10 : ∃ (n : Fin 64) (syms : List RxSym) (dt : Nat) (s : State), syms.any (fun x => !lowSymbol (s.rxMode n) x.chips) = true :=
  ⟨0, symsOf [3], 0, ((let s : State := air; s)), by decide +kernel⟩

theorem meets_FramesCheckedAndGain_1 : ∃ (n : Fin 64) (syms : List RxSym) (rssi : Int) (hb : Nat) (dt : Nat) (f : RxFrame) (len : Nat) (s : State), (s.rx n).frame = some f ∧ s.rd (Key.rxcState n) = 3 ∧ f.len = some len ∧ syms.length = symbolsOf (s.rxMode n) len ∧ (s.advance dt).octetsPassed (s.rxMode n) (f.sfd.getD 0) (len + 1) = true ∧ (f.loop.run (s.rxMode n) syms).lost = true :=
  ⟨0, List.replicate 10 ⟨[], 0, 0⟩, 0, 0, 250000000, (let len : Nat := 5; { zRxFrame with sfd := some 0, len := some len }), 5, (let n : Fin 64 := 0; let len : Nat := 5; let f : Sys2Proof.Machine.RxFrame := { zRxFrame with sfd := some 0, len := some len }; (let s : State := air; let s : State := (let x_ := s.rx n; s.setRx n ({ x_ with frame := some f })); let s : State := s.wr (Key.rxcState n) (3); s)), by decide +kernel⟩

theorem meets_FramesCheckedAndGain_2 : ∃ (n : Fin 64) (syms : List RxSym) (rssi : Int) (hb : Nat) (dt : Nat) (f : RxFrame) (psdu : Bytes) (s : State), (s.rx n).frame = some f ∧ s.rd (Key.rxcState n) = 3 ∧ f.len = some psdu.length ∧ f.cands = [] ∧ syms.length = symbolsOf (s.rxMode n) psdu.length ∧ psdu = despread (s.rxMode n) f.loop.ref syms ∧ (s.advance dt).octetsPassed (s.rxMode n) (f.sfd.getD 0) (psdu.length + 1) = true ∧ (f.loop.run (s.rxMode n) syms).lost = false ∧ (psdu.length < 5 ∨ Crypto.fcs (psdu.take (psdu.length - 2)) ≠ leNat (psdu.drop (psdu.length - 2))) :=
  ⟨0, (let psdu : Sys2Proof.Bytes := [1, 2, 3, 4, 5, 6]; symsOf psdu), 0, 0, 250000000, { zRxFrame with sfd := some 0, len := some 6 }, [1, 2, 3, 4, 5, 6], (let n : Fin 64 := 0; let f : Sys2Proof.Machine.RxFrame := { zRxFrame with sfd := some 0, len := some 6 }; (let s : State := air; let s : State := (let x_ := s.rx n; s.setRx n ({ x_ with frame := some f })); let s : State := s.wr (Key.rxcState n) (3); s)), by decide +kernel⟩

theorem meets_FramesCheckedAndGain_3 : ∃ (n : Fin 64) (syms : List RxSym) (rssi : Int) (hb : Nat) (dt : Nat) (f : RxFrame) (psdu : Bytes) (h : Mhr) (form : Form) (s : State), (s.rx n).frame = some f ∧ s.rd (Key.rxcState n) = 3 ∧ f.len = some psdu.length ∧ f.cands = [] ∧ syms.length = symbolsOf (s.rxMode n) psdu.length ∧ psdu = despread (s.rxMode n) f.loop.ref syms ∧ (s.advance dt).octetsPassed (s.rxMode n) (f.sfd.getD 0) (psdu.length + 1) = true ∧ (f.loop.run (s.rxMode n) syms).lost = false ∧ 5 ≤ psdu.length ∧ Crypto.fcs (psdu.take (psdu.length - 2)) = leNat (psdu.drop (psdu.length - 2)) ∧ parseMhr (psdu.take (psdu.length - 2)) = some h ∧ h.form = some form ∧ form = .uplink ∧ h.version = 2 ∧ (h.src.getD 0 < 0x4000 ∨ 0x8000 ≤ h.src.getD 0) :=
  ⟨0, (let psdu : Sys2Proof.Bytes := withFcs uplink; symsOf psdu), 0, 0, 250000000, (let psdu : Sys2Proof.Bytes := withFcs uplink; { zRxFrame with sfd := some 0, len := some psdu.length }), withFcs uplink, (parseMhr uplink).getD zMhr, .uplink, (let n : Fin 64 := 0; let psdu : Sys2Proof.Bytes := withFcs uplink; let f : Sys2Proof.Machine.RxFrame := { zRxFrame with sfd := some 0, len := some psdu.length }; (let s : State := air; let s : State := (let x_ := s.rx n; s.setRx n ({ x_ with frame := some f })); let s : State := s.wr (Key.rxcState n) (3); s)), by decide +kernel⟩

theorem meets_FramesCheckedAndGain_4 : ∃ (n : Fin 64) (syms : List RxSym) (rssi : Int) (hb : Nat) (dt : Nat) (f : RxFrame) (psdu : Bytes) (h : Mhr) (s : State), (s.rx n).frame = some f ∧ s.rd (Key.rxcState n) = 3 ∧ f.len = some psdu.length ∧ f.cands = [] ∧ syms.length = symbolsOf (s.rxMode n) psdu.length ∧ psdu = despread (s.rxMode n) f.loop.ref syms ∧ (s.advance dt).octetsPassed (s.rxMode n) (f.sfd.getD 0) (psdu.length + 1) = true ∧ (f.loop.run (s.rxMode n) syms).lost = false ∧ 5 ≤ psdu.length ∧ Crypto.fcs (psdu.take (psdu.length - 2)) = leNat (psdu.drop (psdu.length - 2)) ∧ parseMhr (psdu.take (psdu.length - 2)) = some h ∧ h.form = some .immAck ∧ s.flag Key.girthCompat = true ∧ s.girth.recs = [] ∧ s.radio.dup = [] :=
  ⟨0, (let psdu : Sys2Proof.Bytes := withFcs [0x02, 0x10, 5]; symsOf psdu), 0, 0, 250000000, { zRxFrame with sfd := some 0, len := some 5 }, withFcs [0x02, 0x10, 5], (parseMhr [0x02, 0x10, 5]).getD zMhr, (let n : Fin 64 := 0; let f : Sys2Proof.Machine.RxFrame := { zRxFrame with sfd := some 0, len := some 5 }; (let s : State := air; let s : State := (let x_ := s.rx n; s.setRx n ({ x_ with frame := some f })); let s : State := s.wr (Key.rxcState n) (3); let s : State := s.wr Key.girthCompat 1; let s : State := { s with girth := { s.girth with recs := [] } }; let s : State := { s with radio := { s.radio with dup := [] } }; let s : State := { s with girth := { s.girth with recs := [] } }; s)), by decide +kernel⟩

theorem meets_FramesCheckedAndGain_5 : ∃ (e : Fin 8) (sfd : List (List Int)) (syms : List RxSym) (stamp : Nat) (fofs : Int) (rssi : Int) (hb : Nat) (dt : Nat) (c : Recovery) (s : State), s.radio.bsEngines.getD e none = some c ∧ (∀ k o l, c.despread sfd syms stamp k = some (o, l) → l.lost = true) :=
  ⟨0, [], [], 0, 0, 0, 0, 0, zRecovery, (let e : Fin 8 := 0; (let s : State := calm; let s : State := { s with radio := { s.radio with bsEngines := vmod (fun _ => some zRecovery) e.val s.radio.bsEngines } }; s)), ⟨by decide +kernel, (by intro k o l h; cases (show (none : Option (Bytes × RxLoop)) = some (o, l) from h))⟩⟩

theorem meets_FramesCheckedAndGain_6 : ∃ (n : Fin 64) (s1 : List Int) (s2 : List Int) (level : Int) (chips : Nat) (est : Int) (sofar : List RxSym) (dt : Nat) (f : RxFrame) (s : State), (s.rx n).frame = some f ∧ s.rxBusy n = true ∧ qualifies (s.rxMode n) (s.rd (Key.rxcQualifier n)) 64 s1 = true ∧ qualifies (s.rxMode n) (s.rd (Key.rxcQualifier n)) 64 s2 = true ∧ 2 ≤ chips ∧ f.level + 12 ≤ level :=
  ⟨0, soft (symbolChips 1 0), soft (symbolChips 1 0), 20, 2, 0, [], 0, zRxFrame, (let n : Fin 64 := 0; let f : Sys2Proof.Machine.RxFrame := zRxFrame; (let s : State := air; let s : State := (let x_ := s.rx n; s.setRx n ({ x_ with frame := some f })); let s : State := s.wr (Key.rxcState n) 2; s)), by decide +kernel⟩

theorem meets_FramesCheckedAndGain_7 : ∃ (n : Fin 64) (s1 : List Int) (s2 : List Int) (level : Int) (chips : Nat) (dt : Nat) (f : RxFrame) (s : State), (s.rx n).frame = some f ∧ s.rd (Key.rxcState n) = 3 ∧ qualifies (s.rxMode n) (s.rd (Key.rxcQualifier n)) 128 s1 = true ∧ qualifies (s.rxMode n) (s.rd (Key.rxcQualifier n)) 128 s2 = true ∧ 2 ≤ chips ∧ level + 12 ≤ f.level ∧ f.cands = [] :=
  ⟨0, soft (symbolChips 1 0), soft (symbolChips 1 0), 20, 2, 0, (let level : Int := 20; { zRxFrame with level := 40 }), (let n : Fin 64 := 0; let level : Int := 20; let f : Sys2Proof.Machine.RxFrame := { zRxFrame with level := 40 }; (let s : State := air; let s : State := (let x_ := s.rx n; s.setRx n ({ x_ with frame := some f })); let s : State := s.wr (Key.rxcState n) (3); s)), by decide +kernel⟩

theorem meets_FramesCheckedAndGain_8 : ∃ (dt : Nat) (c : Recovery) (rest : List Recovery) (i : Nat) (s : State), s.radio.bsQueue = c :: rest ∧ s.radio.bsEngines.toList.findIdx? (fun e => e.isNone) = some i ∧ (s.advance dt).elapsed ≤ c.verdict + ms 1 :=
  ⟨0, zRecovery, [], 0, (let c : Sys2Proof.Machine.Recovery := zRecovery; let rest : List Sys2Proof.Machine.Recovery := []; (let s : State := calm; let s : State := { s with radio := { s.radio with bsQueue := c :: rest } }; s)), by decide +kernel⟩

theorem meets_FramesCheckedAndGain_10 : ∃ (n : Fin 64) (f : RxFrame) (s : State), (s.rx n).frame = some f ∧ s.rxBusy n = true :=
  ⟨0, zRxFrame, (let n : Fin 64 := 0; let f : Sys2Proof.Machine.RxFrame := zRxFrame; (let s : State := calm; let s : State := (let x_ := s.rx n; s.setRx n ({ x_ with frame := some f })); let s : State := s.wr (Key.rxcState n) 2; s)), by decide +kernel⟩

theorem meets_FramesCheckedAndGain_11 : ∃ (p : Fin 4) (s : State), (s.port p).gain ≠ 0 :=
  ⟨0, (let p : Fin 4 := 0; (let s : State := calm; let s : State := (let x_ := s.port p; s.setPort p ({ x_ with gain := 1 })); s)), by decide +kernel⟩

theorem meets_FramesCheckedAndGain_12 : ∃ (p : Fin 4) (n : Nat) (f : RxFrame) (s : State), (s.port p).gain ≠ 0 ∧ n ∈ s.rxOn p ∧ (s.rx n).frame = some f :=
  ⟨2, 0, zRxFrame, (let p : Fin 4 := 2; let n : Nat := 0; let f : Sys2Proof.Machine.RxFrame := zRxFrame; (let s : State := air; let s : State := (let x_ := s.port p; s.setPort p ({ x_ with gain := 1 })); let s : State := (let x_ := s.rx n; s.setRx n ({ x_ with frame := some f })); s)), by decide +kernel⟩

theorem meets_FramesCheckedAndGain_13 : ∃ (p : Fin 4) (g : Fin 32) (dt : Nat) (s : State), (s.port p).gainAt = none ∧ (∀ n, n ∈ s.rxOn p → s.rxBusy n = false) :=
  ⟨0, 0, 0, (let p : Fin 4 := 0; (let s : State := calm; let s : State := (let x_ := s.port p; s.setPort p ({ x_ with gainAt := none })); s)), by decide +kernel⟩

theorem meets_FramesCheckedAndGain_14 : ∃ (p : Fin 4) (g : Fin 32) (dt : Nat) (n : Nat) (s : State), n ∈ s.rxOn p ∧ s.rxBusy n = true :=
  ⟨2, 0, 0, 0, (let n : Nat := 0; (let s : State := air; let s : State := s.wr (Key.rxcState n) 2; s)), by decide +kernel⟩

theorem meets_TransmitCommit_1 : ∃ (q : TxReq) (f : Nat) (pad : Bool) (dt : Nat) (s : State), q.kind = .beacon f pad ∧ q.port ≤ 3 ∧ q.granted = none ∧ q.draft.key = .none ∧ (s.advance dt).reservedFor q = false ∧ (s.advance dt).leadGone q.port q.freq q.due = false ∧ (q.draft.mhr.length + q.draft.ies.length + q.draft.payload.length < 3 ∨ 125 < q.draft.mhr.length + q.draft.ies.length + q.draft.payload.length) :=
  ⟨(let f : Nat := 0; let pad : Bool := true; { zTxReq with kind := .beacon f pad, granted := none, draft.key := .none }), 0, true, 0, ((let s : State := calm; s)), by decide +kernel⟩

theorem meets_TransmitCommit_2 : ∃ (q : TxReq) (f : Nat) (pad : Bool) (dt : Nat) (s : State), q.kind = .beacon f pad ∧ q.port ≤ 3 ∧ q.granted = none ∧ q.draft.key = .none ∧ (s.advance dt).reservedFor q = false ∧ (s.advance dt).leadGone q.port q.freq q.due = false ∧ 3 ≤ q.draft.mhr.length + q.draft.ies.length + q.draft.payload.length ∧ q.draft.mhr.length + q.draft.ies.length + q.draft.payload.length ≤ 125 ∧ (s.advance dt).pickTx q = none :=
  ⟨(let f : Nat := 0; let pad : Bool := true; { zTxReq with kind := .beacon f pad, port := 2, mode := 1, freq := 2401250, due := 1000000000000, draft := ⟨[1, 2, 3], [], [], .none⟩ }), 0, true, 0, ((let s : State := air; let s : State := s.each (List.range 8) (fun s n => s.wr (Key.txcPlaced n) (placeWord 1 2 2402500)); s)), by decide +kernel⟩

theorem meets_TransmitCommit_3 : ∃ (q : TxReq) (f : Nat) (pad : Bool) (k : Nat) (dt : Nat) (s : State), q.kind = .beacon f pad ∧ q.port ≤ 3 ∧ q.granted = none ∧ q.draft.key = .none ∧ (s.advance dt).reservedFor q = false ∧ (s.advance dt).leadGone q.port q.freq q.due = false ∧ 3 ≤ q.draft.mhr.length + q.draft.ies.length + q.draft.payload.length ∧ q.draft.mhr.length + q.draft.ies.length + q.draft.payload.length ≤ 125 ∧ (s.advance dt).pickTx q = some k ∧ (s.advance dt).maskOk q = false :=
  ⟨(let f : Nat := 0; let pad : Bool := true; { zTxReq with kind := .beacon f pad, port := 2, mode := 1, freq := 2402500, due := 1000000000000, draft := ⟨[1, 2, 3], [], [], .none⟩ }), 0, true, (let f : Nat := 0; let pad : Bool := true; let q : Sys2Proof.TxReq := { zTxReq with kind := .beacon f pad, port := 2, mode := 1, freq := 2402500, due := 1000000000000, draft := ⟨[1, 2, 3], [], [], .none⟩ }; let s : State := (let s : State := air; s); (s.pickTx q).getD 99), 0, ((let s : State := air; s)), by decide +kernel⟩

theorem meets_TransmitCommit_4 : ∃ (q : TxReq) (k : Nat) (sub : Nat × SubBand) (dt : Nat) (s : State), (∀ c, q.kind ≠ .lacing c) ∧ q.port ≤ 3 ∧ q.granted = none ∧ q.code = none ∧ q.draft.key = .none ∧ (s.advance dt).reservedFor q = false ∧ (s.advance dt).leadGone q.port q.freq q.due = false ∧ 3 ≤ q.draft.mhr.length + q.draft.ies.length + q.draft.payload.length ∧ q.draft.mhr.length + q.draft.ies.length + q.draft.payload.length ≤ 125 ∧ (s.advance dt).pickTx q = some k ∧ (s.advance dt).maskOk q = true ∧ (s.advance dt).mapOk q = true ∧ (s.advance dt).subOf q.port q.freq = some sub ∧ (s.advance dt).portCheck q sub.2.lbt = none ∧ (s.advance dt).dutyOk q.port (some sub) (airUs q.mode (q.draft.mhr.length + q.draft.ies.length + q.draft.payload.length + 2)) = true :=
  ⟨{ zTxReq with kind := .beacon 0 false, port := 2, mode := 1, freq := 2401250, due := 1000000000000, draft := ⟨[1, 2, 3], [], [], .none⟩ }, (let q : Sys2Proof.TxReq := { zTxReq with kind := .beacon 0 false, port := 2, mode := 1, freq := 2401250, due := 1000000000000, draft := ⟨[1, 2, 3], [], [], .none⟩ }; let s : State := (let s : State := air; s); (s.pickTx q).getD 99), (let s : State := (let s : State := air; s); (s.subOf 2 2401250).getD (0, subBand [] 0)), 0, ((let s : State := air; s)), ⟨(by intro c h; cases h), by decide +kernel⟩⟩

theorem meets_TransmitCommit_5 : ∃ (q : TxReq) (f : Nat) (pad : Bool) (dt : Nat) (s : State), q.kind = .beacon f pad ∧ q.port ≤ 3 ∧ q.granted = none ∧ (s.advance dt).reservedFor q = false ∧ (s.advance dt).leadGone q.port q.freq q.due = true :=
  ⟨(let f : Nat := 0; let pad : Bool := true; { zTxReq with kind := .beacon f pad, port := 2, mode := 1, freq := 2401250, due := 0, draft := ⟨[1, 2, 3], [], [], .none⟩ }), 0, true, 0, ((let s : State := air; let s : State := { s with clock := { s.clock with sec := 100 } }; s)), by decide +kernel⟩

theorem meets_TransmitTileStates_1 : ∃ (n : Fin 16) (dt : Nat) (j : TxJob) (s : State), (s.tx n).job = some j ∧ s.rd (Key.txcState n) = 1 ∧ j.lbt = true ∧ j.clear = false ∧ s.portHolds j.req.port = false ∧ s.pstate j.req.port = 3 ∧ (s.port j.req.port).step = none ∧ j.req.due ≤ (s.advance dt).nowNs + s.listenNs j + 32000 :=
  ⟨0, 250000000000, { zTxJob with lbt := true, clear := false }, (let n : Fin 16 := 0; let j : Sys2Proof.Machine.TxJob := { zTxJob with lbt := true, clear := false }; (let s : State := calm; let s : State := (let x_ := s.tx n; s.setTx n ({ x_ with job := some j })); let s : State := s.wr (Key.txcState n) (1); let s : State := s.wr (Key.portState j.req.port) 3; let s : State := (let x_ := s.port j.req.port; s.setPort j.req.port ({ x_ with step := none })); s)), by decide +kernel⟩

theorem meets_TransmitTileStates_2 : ∃ (n : Fin 16) (dt : Nat) (j : TxJob) (s : State), (s.tx n).job = some j ∧ s.rd (Key.txcState n) = 1 ∧ j.lbt = true ∧ j.clear = false ∧ s.portHolds j.req.port = false ∧ s.pstate j.req.port ≠ 3 ∧ j.req.due ≤ (s.advance dt).nowNs + s.listenNs j + 32000 :=
  ⟨0, 250000000000, { zTxJob with lbt := true, req := { zTxReq with due := 0 } }, (let n : Fin 16 := 0; let j : Sys2Proof.Machine.TxJob := { zTxJob with lbt := true, req := { zTxReq with due := 0 } }; (let s : State := calm; let s : State := (let x_ := s.tx n; s.setTx n ({ x_ with job := some j })); let s : State := s.wr (Key.txcState n) (1); let s : State := s.wr (Key.portState 0) (2); s)), by decide +kernel⟩

theorem meets_TransmitTileStates_3 : ∃ (n : Fin 16) (blocks : List Int) (dt : Nat) (j : TxJob) (s : State), (s.tx n).job = some j ∧ s.rd (Key.txcState n) = 2 ∧ s.pstate j.req.port = 3 ∧ (s.port j.req.port).step = none ∧ j.req.due ≤ (s.advance dt).nowNs + 32000 ∧ blocks.any (fun b => decide (2 * (subBand (s.stampBytes j.req.port) j.sub).thr ≤ b)) = false :=
  ⟨0, [], 250000000000, zTxJob, (let n : Fin 16 := 0; let j : Sys2Proof.Machine.TxJob := zTxJob; (let s : State := calm; let s : State := (let x_ := s.tx n; s.setTx n ({ x_ with job := some j })); let s : State := s.wr (Key.txcState n) (2); let s : State := s.wr (Key.portState j.req.port) 3; let s : State := (let x_ := s.port j.req.port; s.setPort j.req.port ({ x_ with step := none })); s)), by decide +kernel⟩

theorem meets_TransmitTileStates_4 : ∃ (n : Fin 16) (blocks : List Int) (dt : Nat) (j : TxJob) (s : State), (s.tx n).job = some j ∧ s.rd (Key.txcState n) = 2 ∧ (s.pstate j.req.port ≠ 3 ∨ (j.req.due ≤ (s.advance dt).nowNs + 32000 ∧ blocks.any (fun b => decide (2 * (subBand (s.stampBytes j.req.port) j.sub).thr ≤ b)) = true)) :=
  ⟨0, [], 250000000000, zTxJob, (let n : Fin 16 := 0; let j : Sys2Proof.Machine.TxJob := zTxJob; (let s : State := calm; let s : State := (let x_ := s.tx n; s.setTx n ({ x_ with job := some j })); let s : State := s.wr (Key.txcState n) (2); s)), by decide +kernel⟩

theorem meets_TransmitTileStates_5 : ∃ (n : Fin 16) (dt : Nat) (j : TxJob) (h : Int) (s : State), (s.tx n).job = some j ∧ (s.advance dt).rampReady n j = true ∧ (s.advance dt).lowerDue n j = false ∧ s.maskOk j.req = true ∧ s.mapOk j.req = true ∧ s.grantPower n j = some h :=
  ⟨0, 0, { zTxJob with req := { zTxReq with port := 2, mode := 1, freq := 2401250, due := 0, windowEnd := 10000000 } }, (let n : Fin 16 := 0; let j : Sys2Proof.Machine.TxJob := { zTxJob with req := { zTxReq with port := 2, mode := 1, freq := 2401250, due := 0, windowEnd := 10000000 } }; let s : State := (let s : State := air; let s : State := (let x_ := s.tx n; s.setTx n ({ x_ with job := some j })); let s : State := s.wr (Key.portState 2) (4); let s : State := s.wr (Key.txcState 0) (1); let s : State := s.setTx 0 { s.tx 0 with isl := { (s.tx 0).isl with phase := .on } }; s); (s.grantPower n j).getD 0), (let n : Fin 16 := 0; let j : Sys2Proof.Machine.TxJob := { zTxJob with req := { zTxReq with port := 2, mode := 1, freq := 2401250, due := 0, windowEnd := 10000000 } }; (let s : State := air; let s : State := (let x_ := s.tx n; s.setTx n ({ x_ with job := some j })); let s : State := s.wr (Key.portState 2) (4); let s : State := s.wr (Key.txcState 0) (1); let s : State := s.setTx 0 { s.tx 0 with isl := { (s.tx 0).isl with phase := .on } }; s)), by decide +kernel⟩

theorem meets_TransmitTileStates_6 : ∃ (n : Fin 16) (dt : Nat) (j : TxJob) (s : State), (s.tx n).job = some j ∧ s.rd (Key.txcState n) = 1 ∧ j.lbt = false ∧ j.rampNs ≤ (s.advance dt).nowNs ∧ s.maskOk j.req = true ∧ s.mapOk j.req = true ∧ s.portHolds j.req.port = false ∧ (s.advance dt).lowerDue n j = false ∧ s.txCap j.req.code.isSome ≤ s.airCount :=
  ⟨0, 250000000000, { zTxJob with req := { zTxReq with port := 2, mode := 1, freq := 2401250, due := 0, code := some 6, windowEnd := 10000000 } }, (let n : Fin 16 := 0; let j : Sys2Proof.Machine.TxJob := { zTxJob with req := { zTxReq with port := 2, mode := 1, freq := 2401250, due := 0, code := some 6, windowEnd := 10000000 } }; (let s : State := air; let s : State := (let x_ := s.tx n; s.setTx n ({ x_ with job := some j })); let s : State := s.wr (Key.txcState n) (1); let s : State := s.wr (Key.portState 2) (4); let s : State := { s with girth := { s.girth with cinch := { s.girth.cinch with inForce := Vector.replicate 6 true, granted := 1000000000 } } }; let s : State := s.wr (Key.txcState 4) (4); let s : State := s.wr (Key.txcState 5) (4); let s : State := s.wr (Key.txcState 6) (4); let s : State := s.wr (Key.txcState 7) (4); s)), by decide +kernel⟩

theorem meets_TransmitTileStates_7 : ∃ (n : Fin 16) (dt : Nat) (j : TxJob) (s : State), (s.tx n).job = some j ∧ s.rd (Key.txcState n) = 1 ∧ j.req.windowEnd ≤ (s.advance dt).nowNs ∧ (j.capped = true ∨ s.capReached j = true ∨ s.portReady j.req.port = true) :=
  ⟨0, 250000000000, { zTxJob with capped := true }, (let n : Fin 16 := 0; let j : Sys2Proof.Machine.TxJob := { zTxJob with capped := true }; (let s : State := calm; let s : State := (let x_ := s.tx n; s.setTx n ({ x_ with job := some j })); let s : State := s.wr (Key.txcState n) (1); s)), by decide +kernel⟩

theorem meets_TransmitTileStates_8 : ∃ (n : Fin 16) (dt : Nat) (j : TxJob) (a : Nat) (s : State), (s.tx n).job = some j ∧ s.rd (Key.txcState n) = 3 ∧ j.rampAt = some a ∧ j.ended = false ∧ a + us (rampUs j.req.mode) ≤ (s.advance dt).elapsed :=
  ⟨0, 250000000000, (let a : Nat := 0; { zTxJob with rampAt := some a, ended := false }), 0, (let n : Fin 16 := 0; let a : Nat := 0; let j : Sys2Proof.Machine.TxJob := { zTxJob with rampAt := some a, ended := false }; (let s : State := calm; let s : State := (let x_ := s.tx n; s.setTx n ({ x_ with job := some j })); let s : State := s.wr (Key.txcState n) (3); s)), by decide +kernel⟩

theorem meets_TransmitTileStates_9 : ∃ (n : Fin 16) (dt : Nat) (j : TxJob) (a : Nat) (s : State), (s.tx n).job = some j ∧ s.rd (Key.txcState n) = 4 ∧ j.rampAt = some a ∧ a + us (rampUs j.req.mode + frameUs j.req.mode (j.psdu.length + 2)) ≤ (s.advance dt).elapsed :=
  ⟨0, 250000000000, (let a : Nat := 0; { zTxJob with rampAt := some a }), 0, (let n : Fin 16 := 0; let a : Nat := 0; let j : Sys2Proof.Machine.TxJob := { zTxJob with rampAt := some a }; (let s : State := calm; let s : State := (let x_ := s.tx n; s.setTx n ({ x_ with job := some j })); let s : State := s.wr (Key.txcState n) (4); s)), by decide +kernel⟩

theorem meets_TransmitTileStates_10 : ∃ (n : Fin 16) (dt : Nat) (j : TxJob) (a : Nat) (s : State), (s.tx n).job = some j ∧ j.rampAt = some a ∧ j.ended = true ∧ j.aborted = none ∧ a + us j.airtime ≤ (s.advance dt).elapsed :=
  ⟨0, 250000000000, (let a : Nat := 0; { zTxJob with rampAt := some a, ended := true, aborted := none }), 0, (let n : Fin 16 := 0; let a : Nat := 0; let j : Sys2Proof.Machine.TxJob := { zTxJob with rampAt := some a, ended := true, aborted := none }; (let s : State := calm; let s : State := (let x_ := s.tx n; s.setTx n ({ x_ with job := some j })); s)), by decide +kernel⟩

theorem meets_TransmitTileStates_11 : ∃ (n : Fin 16) (dt : Nat) (j : TxJob) (a : Nat) (d : Nat) (s : State), (s.tx n).job = some j ∧ j.rampAt = some a ∧ j.aborted = some d ∧ d + us (rampUs j.req.mode) ≤ (s.advance dt).elapsed :=
  ⟨0, 250000000000, (let a : Nat := 0; let d : Nat := 0; { zTxJob with rampAt := some a, aborted := some d }), 0, 0, (let n : Fin 16 := 0; let a : Nat := 0; let d : Nat := 0; let j : Sys2Proof.Machine.TxJob := { zTxJob with rampAt := some a, aborted := some d }; (let s : State := calm; let s : State := (let x_ := s.tx n; s.setTx n ({ x_ with job := some j })); s)), by decide +kernel⟩

theorem meets_TransmitTileStates_12 : ∃ (dt : Nat) (s : State), ms (60000 * (s.radio.dutyMin + 1)) ≤ (s.advance dt).elapsed :=
  ⟨250000000000, ((let s : State := calm; s)), by decide +kernel⟩

theorem meets_AssociationAndBeacons_1 : ∃ (t : Fin 256) (eui : Nat) (p : Fin 4) (mode : Nat) (freq : Nat) (dsn : Nat) (dt : Nat) (s : State), (s.advance dt).findRec t eui = none :=
  ⟨0, 0, 0, 0, 0, 0, 0, ((let s : State := calm; s)), by decide +kernel⟩

theorem meets_AssociationAndBeacons_2 : ∃ (t : Fin 256) (eui : Nat) (p : Fin 4) (mode : Nat) (freq : Nat) (dsn : Nat) (dt : Nat) (r : Nat) (s : State), (s.advance dt).findRec t eui = some r ∧ (s.nrec r).compat = true ∨ (s.nrec r).quarantined = true :=
  ⟨0, 9, 0, 0, 0, 0, 0, 0, ((let s : State := air; let s : State := s.setRec 0 { node 9 0x1000 3 with quarantined := true }; s)), by decide +kernel⟩

theorem meets_AssociationAndBeacons_3 : ∃ (t : Fin 256) (eui : Nat) (p : Fin 4) (mode : Nat) (freq : Nat) (dsn : Nat) (dt : Nat) (r : Nat) (s : State), (s.advance dt).findRec t eui = some r ∧ (s.nrec r).compat = false ∧ (s.nrec r).tenant = t.val ∧ (s.nrec r).quarantined = false ∧ s.recSlots (s.nrec r) ≠ 0 ∧ s.flag Key.assocOpen = true ∧ s.rd (Key.tenKeySlot t) ≠ 0xFFFF ∧ (s.nrec r).hw.macState = 1 ∧ (s.advance dt).leadNs p freq ≤ 1000000 ∧ (30 + s.secExtra t) * octetUs mode * 1000 ≤ (s.advance dt).nowNs :=
  ⟨0, 9, 2, 1, 2401250, 0, 250000000000, 0, (let r : Nat := 0; (let s : State := air; let s : State := (let x_ := s.nrec r; s.setRec r ({ x_ with quarantined := false })); let s : State := s.wr Key.assocOpen 1; let s : State := (let x_ := s.nrec r; s.setRec r ({ x_ with hw := { x_.hw with macState := 1 } })); let s : State := s.setRec 0 (node 9 0x1000 1); let s : State := s.wr (Key.assocOpen) (1); let s : State := s.wr (Key.tenKeySlot 0) (5); s)), by decide +kernel⟩

theorem meets_AssociationAndBeacons_4 : ∃ (f : Fin 32) (dt : Nat) (a : Nat) (d : Nat) (l : Nat) (m : Nat) (freq : Nat) (p : Nat) (s : State), s.girth.sched.fired = [⟨d, .beacon f a, l⟩] ∧ s.flag Key.girthCompat = false ∧ s.served (s.rd (Key.sfTenant f)) = some f.val ∧ s.beaconSlot f a = true ∧ (s.tenantModes (s.rd (Key.sfTenant f))).filter (fun k => (s.hop (s.rd (Key.sfTenant f)) (k == 1) a k).isSome) = [m] ∧ s.hop (s.rd (Key.sfTenant f)) (m == 1) a m = some (freq, p) :=
  ⟨0, 0, 0, 0, 0, 1, 2401250, 2, (let f : Fin 32 := 0; let a : Nat := 0; let d : Nat := 0; let l : Nat := 0; (let s : State := air; let s : State := { s with girth := { s.girth with sched := { s.girth.sched with fired := [⟨d, .beacon f a, l⟩] } } }; let s : State := s.wr Key.girthCompat 0; let s : State := s.wr (Key.sfBeaconEvery 0) (10); let s : State := s.wr (Key.portState 2) (3); s)), by decide +kernel⟩

theorem meets_AssociationAndBeacons_5 : ∃ (f : Fin 32) (dt : Nat) (a : Nat) (d : Nat) (l : Nat) (s : State), s.girth.sched.fired = [⟨d, .beacon f a, l⟩] ∧ (s.served (s.rd (Key.sfTenant f)) ≠ some f.val ∨ s.beaconSlot f a = false) :=
  ⟨0, 0, 0, 0, 0, (let f : Fin 32 := 0; let a : Nat := 0; let d : Nat := 0; let l : Nat := 0; (let s : State := calm; let s : State := { s with girth := { s.girth with sched := { s.girth.sched with fired := [⟨d, .beacon f a, l⟩] } } }; s)), by decide +kernel⟩

theorem meets_AssociationAndBeacons_6 : ∃ (k : Fin 256) (dt : Nat) (a : Nat) (d : Nat) (l : Nat) (f : Nat) (m : Nat) (freq : Nat) (p : Nat) (c : PendingCast) (s : State), s.girth.sched.fired = [⟨d, .shared f a, l⟩] ∧ s.sharedAt f a = true ∧ c.arrived ≤ s.slotStart a ∧ s.flag Key.girthCompat = false ∧ s.served k = some f ∧ s.girth.casts = [c] ∧ c.tenant = k.val ∧ (s.tenantModes k).filter (fun x => (s.hop k (x == 1) a 0).isSome) = [m] ∧ s.hop k (m == 1) a 0 = some (freq, p) :=
  ⟨0, 0, 0, 0, 0, 0, 1, 2401250, 2, ⟨0, 0, [1], none, false, 0⟩, (let a : Nat := 0; let d : Nat := 0; let l : Nat := 0; let f : Nat := 0; let c : Sys2Proof.Machine.PendingCast := ⟨0, 0, [1], none, false, 0⟩; (let s : State := air; let s : State := { s with girth := { s.girth with sched := { s.girth.sched with fired := [⟨d, .shared f a, l⟩] } } }; let s : State := s.wr Key.girthCompat 0; let s : State := { s with girth := { s.girth with casts := [c] } }; let s : State := s.wr (Key.sfSharedSlots 0) (2); s)), by decide +kernel⟩

theorem meets_AssociationAndBeacons_7 : ∃ (k : Fin 256) (dt : Nat) (a : Nat) (d : Nat) (l : Nat) (f : Nat) (c : PendingCast) (s : State), s.girth.sched.fired = [⟨d, .shared f a, l⟩] ∧ s.served k = some f ∧ s.sharedAt f a = true ∧ s.girth.casts = [c] ∧ s.slotStart a < c.arrived :=
  ⟨0, 0, 0, 0, 0, 0, ⟨0, 0, [1], none, false, 900000000000⟩, (let a : Nat := 0; let d : Nat := 0; let l : Nat := 0; let f : Nat := 0; let c : Sys2Proof.Machine.PendingCast := ⟨0, 0, [1], none, false, 900000000000⟩; (let s : State := air; let s : State := { s with girth := { s.girth with sched := { s.girth.sched with fired := [⟨d, .shared f a, l⟩] } } }; let s : State := { s with girth := { s.girth with casts := [c] } }; let s : State := s.wr (Key.sfSharedSlots 0) (2); let s : State := { s with girth := { s.girth with casts := [c] } }; s)), by decide +kernel⟩

theorem meets_NodesAnswer_1 : ∃ (r : Fin 16384) (dsn : Nat) (off : Int) (dt : Nat) (w : AckWait) (f : NodeFrame) (rest : List NodeFrame) (s : State), (s.nrec r).ack = some w ∧ w.dsn = dsn ∧ 800000 ≤ off ∧ off ≤ 1200000 ∧ (s.nodeQ r).frames = f :: rest :=
  ⟨0, 0, 800000, 0, (let dsn : Nat := 0; { zAckWait with dsn := dsn }), zNodeFrame, [], (let r : Fin 16384 := 0; let dsn : Nat := 0; let w : Sys2Proof.Machine.AckWait := { zAckWait with dsn := dsn }; let f : Sys2Proof.NodeFrame := zNodeFrame; let rest : List Sys2Proof.NodeFrame := []; (let s : State := calm; let s : State := (let x_ := s.nrec r; s.setRec r ({ x_ with ack := some w })); let s : State := (let x_ := s.nodeQ r; s.setNodeQ r ({ x_ with frames := f :: rest })); s)), by decide +kernel⟩

theorem meets_NodesAnswer_2 : ∃ (r : Fin 16384) (dsn : Nat) (off : Int) (dt : Nat) (w : AckWait) (s : State), (s.nrec r).ack = some w ∧ (w.dsn ≠ dsn ∨ off < 800000 ∨ 1200000 < off) :=
  ⟨0, 0, 0, 0, zAckWait, (let r : Fin 16384 := 0; let w : Sys2Proof.Machine.AckWait := zAckWait; (let s : State := calm; let s : State := (let x_ := s.nrec r; s.setRec r ({ x_ with ack := some w })); s)), by decide +kernel⟩

theorem meets_NodesAnswer_3 : ∃ (r : Fin 16384) (dt : Nat) (w : AckWait) (f : NodeFrame) (rest : List NodeFrame) (s : State), (s.nrec r).ack = some w ∧ w.lastChip + us (1200 + s.dlAckUs (s.nrec r)) ≤ (s.advance dt).elapsed ∧ (s.nodeQ r).frames = f :: rest ∧ f.attempts ≤ s.rd Key.dlRetryLimit :=
  ⟨0, 250000000000, zAckWait, zNodeFrame, [], (let r : Fin 16384 := 0; let w : Sys2Proof.Machine.AckWait := zAckWait; let f : Sys2Proof.NodeFrame := zNodeFrame; let rest : List Sys2Proof.NodeFrame := []; (let s : State := calm; let s : State := (let x_ := s.nrec r; s.setRec r ({ x_ with ack := some w })); let s : State := (let x_ := s.nodeQ r; s.setNodeQ r ({ x_ with frames := f :: rest })); s)), by decide +kernel⟩

theorem meets_NodesAnswer_4 : ∃ (r : Fin 16384) (dt : Nat) (w : AckWait) (f : NodeFrame) (rest : List NodeFrame) (s : State), (s.nrec r).ack = some w ∧ w.lastChip + us (1200 + s.dlAckUs (s.nrec r)) ≤ (s.advance dt).elapsed ∧ (s.nodeQ r).frames = f :: rest ∧ s.rd Key.dlRetryLimit < f.attempts :=
  ⟨0, 250000000000, zAckWait, { zNodeFrame with attempts := 9 }, [], (let r : Fin 16384 := 0; let w : Sys2Proof.Machine.AckWait := zAckWait; let f : Sys2Proof.NodeFrame := { zNodeFrame with attempts := 9 }; let rest : List Sys2Proof.NodeFrame := []; (let s : State := calm; let s : State := (let x_ := s.nrec r; s.setRec r ({ x_ with ack := some w })); let s : State := (let x_ := s.nodeQ r; s.setNodeQ r ({ x_ with frames := f :: rest })); s)), by decide +kernel⟩

theorem meets_NodesAnswer_5 : ∃ (r : Fin 16384) (dt : Nat) (s : State), (s.nrec r).compat = true ∧ (s.nrec r).handover = none ∧ (s.nrec r).hw.macState = 3 ∧ s.guardLimit ≤ s.guardAt (s.nrec r) (s.advance dt).nowNs :=
  ⟨0, 250000000000000, (let r : Fin 16384 := 0; (let s : State := air; let s : State := (let x_ := s.nrec r; s.setRec r { x_ with host := splice x_.host 8 (leBytes 8 (x_.word + 2 ^ 11)) }); let s : State := (let x_ := s.nrec r; s.setRec r ({ x_ with handover := none })); let s : State := (let x_ := s.nrec r; s.setRec r ({ x_ with hw := { x_.hw with macState := 3 } })); let s : State := s.setRec 0 (node 9 (0x1000 + 2 ^ 11) 3); s)), by decide +kernel⟩

theorem meets_NodesAnswer_6 : ∃ (r : Fin 16384) (dt : Nat) (s : State), s.guardAt (s.nrec r) (s.advance dt).nowNs < s.guardLimit :=
  ⟨0, 0, ((let s : State := calm; s)), by decide +kernel⟩

theorem meets_Handover_1 : ∃ (r : Fin 16384) (pan : BitVec 16) (s : State), (s.nrec r).hoRole = 1 ∧ (s.nrec r).isFree = false ∧ (s.nrec r).hw.macState = 3 ∧ (s.nrec r).compat = false :=
  ⟨0, 0, (let r : Fin 16384 := 0; (let s : State := calm; let s : State := (let x_ := s.nrec r; s.setRec r { x_ with host := splice x_.host 8 (leBytes 8 (x_.word + 1 * 2 ^ 46)) }); let s : State := (let x_ := s.nrec r; s.setRec r { x_ with host := splice x_.host 0 (leBytes 8 9) }); let s : State := (let x_ := s.nrec r; s.setRec r ({ x_ with hw := { x_.hw with macState := 3 } })); s)), by decide +kernel⟩

theorem meets_Handover_2 : ∃ (r : Fin 16384) (pan : BitVec 16) (s : State), (s.nrec r).hoRole = 1 ∧ (s.nrec r).isFree = false ∧ (s.nrec r).hw.macState = 3 :=
  ⟨0, 0, (let r : Fin 16384 := 0; (let s : State := calm; let s : State := (let x_ := s.nrec r; s.setRec r { x_ with host := splice x_.host 8 (leBytes 8 (x_.word + 1 * 2 ^ 46)) }); let s : State := (let x_ := s.nrec r; s.setRec r { x_ with host := splice x_.host 0 (leBytes 8 9) }); let s : State := (let x_ := s.nrec r; s.setRec r ({ x_ with hw := { x_.hw with macState := 3 } })); s)), by decide +kernel⟩

theorem meets_Handover_3 : ∃ (r : Fin 16384) (h : HandoverOut) (s : State), (s.nrec r).hoRole = 1 ∧ (s.nrec r).isFree = false ∧ (s.nrec r).hw.macState = 5 ∧ (s.nrec r).handover = some h :=
  ⟨0, zHandoverOut, (let r : Fin 16384 := 0; let h : Sys2Proof.Machine.HandoverOut := zHandoverOut; (let s : State := calm; let s : State := (let x_ := s.nrec r; s.setRec r { x_ with host := splice x_.host 8 (leBytes 8 (x_.word + 1 * 2 ^ 46)) }); let s : State := (let x_ := s.nrec r; s.setRec r { x_ with host := splice x_.host 0 (leBytes 8 9) }); let s : State := (let x_ := s.nrec r; s.setRec r ({ x_ with hw := { x_.hw with macState := 5 } })); let s : State := (let x_ := s.nrec r; s.setRec r ({ x_ with handover := some h })); s)), by decide +kernel⟩

theorem meets_Handover_4 : ∃ (r : Fin 16384) (s : State), (s.nrec r).hoRole ≠ 1 ∧ (s.nrec r).hw.macState ≠ 6 :=
  ⟨0, ((let s : State := calm; s)), by decide +kernel⟩

theorem meets_Handover_5 : ∃ (r : Fin 16384) (hw : NodeHw) (s : State), (s.nrec r).hw.macState = 6 :=
  ⟨0, zNodeHw, (let r : Fin 16384 := 0; let hw : Sys2Proof.NodeHw := zNodeHw; (let s : State := calm; let s : State := (let x_ := s.nrec r; s.setRec r ({ x_ with hw := { x_.hw with macState := 6 } })); s)), by decide +kernel⟩

theorem meets_Handover_6 : ∃ (r : Fin 16384) (hw : NodeHw) (s : State), (s.nrec r).hw.macState ≠ 6 :=
  ⟨0, zNodeHw, ((let s : State := calm; s)), by decide +kernel⟩

theorem meets_Handover_7 : ∃ (r : Fin 16384) (dt : Nat) (h : HandoverOut) (b : Nat) (s : State), (s.nrec r).handover = some h ∧ h.h = some b ∧ (s.nrec r).hw.macState = 5 ∧ b ≤ (s.advance dt).asn ∧ (s.nodeQ r).frames = [] :=
  ⟨0, 250000000000, (let b : Nat := 0; { zHandoverOut with h := some b }), 0, (let r : Fin 16384 := 0; let b : Nat := 0; let h : Sys2Proof.Machine.HandoverOut := { zHandoverOut with h := some b }; (let s : State := calm; let s : State := (let x_ := s.nrec r; s.setRec r ({ x_ with handover := some h })); let s : State := (let x_ := s.nrec r; s.setRec r ({ x_ with hw := { x_.hw with macState := 5 } })); let s : State := (let x_ := s.nodeQ r; s.setNodeQ r ({ x_ with frames := [] })); s)), by decide +kernel⟩

theorem meets_Handover_8 : ∃ (r : Fin 16384) (dt : Nat) (h : HandoverOut) (b : Nat) (s : State), (s.nrec r).handover = some h ∧ h.h = some b ∧ (s.nrec r).hw.macState ≠ 6 ∧ (s.advance dt).asn < b :=
  ⟨0, 0, (let b : Nat := 1000000000; { zHandoverOut with h := some b }), 1000000000, (let r : Fin 16384 := 0; let b : Nat := 1000000000; let h : Sys2Proof.Machine.HandoverOut := { zHandoverOut with h := some b }; (let s : State := calm; let s : State := (let x_ := s.nrec r; s.setRec r ({ x_ with handover := some h })); s)), by decide +kernel⟩

theorem meets_Handover_9 : ∃ (r : Fin 16384) (hw : NodeHw) (st : NodeHw) (dt : Nat) (s : State), (s.nrec r).hw.macState = 6 ∧ (s.nrec r).staged = some st ∧ (s.advance dt).fullH hw.hoAsn ≤ (s.advance dt).asn :=
  ⟨0, zNodeHw, zNodeHw, 250000000000, (let r : Fin 16384 := 0; let hw : Sys2Proof.NodeHw := zNodeHw; let st : Sys2Proof.NodeHw := zNodeHw; (let s : State := calm; let s : State := (let x_ := s.nrec r; s.setRec r ({ x_ with hw := { x_.hw with macState := 6 } })); let s : State := (let x_ := s.nrec r; s.setRec r ({ x_ with staged := some st })); s)), by decide +kernel⟩

theorem meets_Handover_10 : ∃ (r : Fin 16384) (hw : NodeHw) (dt : Nat) (s : State), (s.nrec r).hw.macState = 6 ∧ (s.advance dt).asn < (s.advance dt).fullH hw.hoAsn :=
  ⟨0, { hwZero with hoAsn := 1000000 }, 0, (let r : Fin 16384 := 0; let hw : Sys2Proof.NodeHw := { hwZero with hoAsn := 1000000 }; (let s : State := calm; let s : State := (let x_ := s.nrec r; s.setRec r ({ x_ with hw := { x_.hw with macState := 6 } })); let s : State := s.wr (Key.girthSlotUs) (10000); let s : State := s.setRec r { s.nrec r with hw := { (s.nrec r).hw with macState := 6 } }; s)), by decide +kernel⟩

theorem meets_Handover_11 : ∃ (r : Fin 16384) (hw : NodeHw) (dt : Nat) (s : State), (s.nrec r).hw.macState = 6 ∧ (s.nrec r).final = some hw ∧ (s.advance dt).fullH hw.hoAsn ≤ (s.advance dt).asn :=
  ⟨0, zNodeHw, 250000000000, (let r : Fin 16384 := 0; let hw : Sys2Proof.NodeHw := zNodeHw; (let s : State := calm; let s : State := (let x_ := s.nrec r; s.setRec r ({ x_ with hw := { x_.hw with macState := 6 } })); let s : State := (let x_ := s.nrec r; s.setRec r ({ x_ with final := some hw })); s)), by decide +kernel⟩

theorem meets_SchedulerWheel_1 : ∃ (ok : Bool) (dt : Nat) (s : State), (s.advance dt).standby = false ∧ (s.advance dt).nowMs ≠ s.girth.sched.ms ∧ s.girth.sched.wheel.length ≤ 65536 ∧ s.girth.sched.parked = [] :=
  ⟨true, 250000000, ((let s : State := calm; let s : State := { s with girth := { s.girth with sched := { s.girth.sched with parked := [] } } }; s)), by decide +kernel⟩

theorem meets_SchedulerWheel_2 : ∃ (ok : Bool) (dt : Nat) (s : State), ((s.advance dt).standby = true ∨ (s.advance dt).nowMs = s.girth.sched.ms) :=
  ⟨true, 0, ((let s : State := calm; s)), by decide +kernel⟩

theorem meets_SchedulerWheel_3 : ∃ (dt : Nat) (s : State), s.girth.sched.far ≠ [] ∧ s.sbUp = true ∧ (∀ e ∈ s.girth.sched.far, nodeOf e.due ≠ none) :=
  ⟨0, ((let s : State := calm; let s : State := s.wr Key.sbLinkState 2; let s : State := { s with girth := { s.girth with sched := { s.girth.sched with far := [⟨900000, .uplink 3 7, 0⟩] } } }; s)), by decide +kernel⟩

theorem meets_SchedulerWheel_4 : ∃ (dt : Nat) (s : State), s.girth.sched.far ≠ [] :=
  ⟨0, ((let s : State := calm; let s : State := { s with girth := { s.girth with sched := { s.girth.sched with far := [⟨900000, .uplink 3 7, 0⟩] } } }; s)), by decide +kernel⟩

theorem meets_SchedulerWheel_5 : ∃ (more : List Nat) (s : State), s.girth.sched.rebuild = 1 :: more :=
  ⟨[], (let more : List Nat := []; (let s : State := calm; let s : State := { s with girth := { s.girth with sched := { s.girth.sched with rebuild := 1 :: more } } }; s)), by decide +kernel⟩

theorem meets_SchedulerWheel_6 : ∃ (s : State), s.girth.sched.rebuild = [] :=
  ⟨((let s : State := calm; let s : State := { s with girth := { s.girth with sched := { s.girth.sched with rebuild := [] } } }; s)), by decide +kernel⟩

theorem meets_SchedulerWheel_7 : ∃ (dt : Nat) (w : Nat) (s : State), s.girth.sched.dayWritten = some w ∧ w ≤ s.rd Key.schedDayStartS ∧ s.rd Key.schedDayStartS ≤ (s.advance dt).clock.sec :=
  ⟨250000000000, 0, (let w : Nat := 0; (let s : State := calm; let s : State := { s with girth := { s.girth with sched := { s.girth.sched with dayWritten := some w } } }; s)), by decide +kernel⟩

theorem meets_SchedulerWheel_8 : ∃ (dt : Nat) (s : State), (s.advance dt).clock.sec < s.rd Key.schedDayStartS :=
  ⟨0, ((let s : State := calm; let s : State := s.wr (Key.schedDayStartS) (1000000000); s)), by decide +kernel⟩

theorem meets_CellPlanning_1 : ∃ (r : Fin 16384) (dt : Nat) (c : CellUse) (s : State), (s.nrec r).cells = [c] ∧ c.stop ≤ (s.advance dt).nowNs :=
  ⟨0, 250000000000, zCellUse, (let r : Fin 16384 := 0; let c : Sys2Proof.Machine.CellUse := zCellUse; (let s : State := calm; let s : State := (let x_ := s.nrec r; s.setRec r ({ x_ with cells := [c] })); s)), by decide +kernel⟩

theorem meets_CellPlanning_2 : ∃ (r : Fin 16384) (dt : Nat) (s : State), (∀ c ∈ (s.nrec r).cells, (s.advance dt).nowNs < c.stop) :=
  ⟨0, 0, ((let s : State := calm; s)), by decide +kernel⟩

theorem meets_CellPlanning_3 : ∃ (r : Fin 16384) (d : Nat) (a : Nat) (l : Nat) (dt : Nat) (freq : Nat) (p : Nat) (s : State), s.girth.sched.fired = [⟨d, .moved r a, l⟩] ∧ (s.nrec r).hw.macState = 3 ∧ (s.nrec r).handover = none ∧ s.recSlots (s.nrec r) ≠ 0 ∧ s.cellChannel (s.nrec r) a = some (freq, p) ∧ Machine.fits p (s.port p).centre freq (s.nrec r).mode = true ∧ (s.advance dt).tooLate r a = false ∧ (s.nodeQ r).frames = [] :=
  ⟨0, 0, 1000, 0, 0, 2401250, 2, (let r : Fin 16384 := 0; let d : Nat := 0; let a : Nat := 1000; let l : Nat := 0; (let s : State := air; let s : State := { s with girth := { s.girth with sched := { s.girth.sched with fired := [⟨d, .moved r a, l⟩] } } }; let s : State := (let x_ := s.nrec r; s.setRec r ({ x_ with hw := { x_.hw with macState := 3 } })); let s : State := (let x_ := s.nrec r; s.setRec r ({ x_ with handover := none })); let s : State := (let x_ := s.nodeQ r; s.setNodeQ r ({ x_ with frames := [] })); s)), by decide +kernel⟩

theorem meets_CellPlanning_4 : ∃ (r : Fin 16384) (d : Nat) (a : Nat) (l : Nat) (dt : Nat) (freq : Nat) (p : Nat) (f : NodeFrame) (rest : List NodeFrame) (s : State), s.girth.sched.fired = [⟨d, .moved r a, l⟩] ∧ s.girth.sched.wheel = [] ∧ s.girth.sched.far = [] ∧ s.girth.sched.writing = [] ∧ s.girth.sched.parked = [] ∧ (s.nrec r).hw.macState = 3 ∧ (s.nrec r).handover = none ∧ s.recSlots (s.nrec r) ≠ 0 ∧ s.cellChannel (s.nrec r) a = some (freq, p) ∧ Machine.fits p (s.port p).centre freq (s.nrec r).mode = true ∧ (s.advance dt).tooLate r a = false ∧ (s.nodeQ r).frames = f :: rest ∧ f.cached = true ∧ bitOf (s.rd Key.cinchLowClasses) f.cls = false ∧ s.flag Key.girthCompat = false ∧ (∀ n, n < 32 → (s.tx n).job = none) ∧ (((s.advance dt).dlPlanned r a).ledgerFits r (dlCharge (s.modeCost (s.nrec r).mode) (frameUs (s.nrec r).mode (s.dlOctets r f)) (s.dlAckUs (s.nrec r))) (s.slotStart a / 1000000000)).2 = true :=
  ⟨0, 0, 1000, 0, 0, 2401250, 2, { zNodeFrame with cls := 3, cached := true, bytes := [1, 2] }, [], (let r : Fin 16384 := 0; let d : Nat := 0; let a : Nat := 1000; let l : Nat := 0; let f : Sys2Proof.NodeFrame := { zNodeFrame with cls := 3, cached := true, bytes := [1, 2] }; let rest : List Sys2Proof.NodeFrame := []; (let s : State := air; let s : State := { s with girth := { s.girth with sched := { s.girth.sched with fired := [⟨d, .moved r a, l⟩] } } }; let s : State := { s with girth := { s.girth with sched := { s.girth.sched with wheel := [] } } }; let s : State := { s with girth := { s.girth with sched := { s.girth.sched with far := [] } } }; let s : State := { s with girth := { s.girth with sched := { s.girth.sched with writing := [] } } }; let s : State := { s with girth := { s.girth with sched := { s.girth.sched with parked := [] } } }; let s : State := (let x_ := s.nrec r; s.setRec r ({ x_ with hw := { x_.hw with macState := 3 } })); let s : State := (let x_ := s.nrec r; s.setRec r ({ x_ with handover := none })); let s : State := (let x_ := s.nodeQ r; s.setNodeQ r ({ x_ with frames := f :: rest })); let s : State := s.wr Key.girthCompat 0; s)), by decide +kernel⟩

theorem meets_CellPlanning_5 : ∃ (r : Fin 16384) (d : Nat) (a : Nat) (l : Nat) (dt : Nat) (freq : Nat) (p : Nat) (f : NodeFrame) (rest : List NodeFrame) (s : State), s.girth.sched.fired = [⟨d, .moved r a, l⟩] ∧ s.girth.sched.wheel = [] ∧ s.girth.sched.far = [] ∧ s.girth.sched.writing = [] ∧ s.girth.sched.parked = [] ∧ (s.nrec r).hw.macState = 3 ∧ (s.nrec r).handover = none ∧ s.recSlots (s.nrec r) ≠ 0 ∧ s.cellChannel (s.nrec r) a = some (freq, p) ∧ Machine.fits p (s.port p).centre freq (s.nrec r).mode = true ∧ (s.advance dt).tooLate r a = false ∧ (s.nodeQ r).frames = f :: rest ∧ f.cached = true ∧ (((s.advance dt).dlPlanned r a).ledgerFits r (dlCharge (s.modeCost (s.nrec r).mode) (frameUs (s.nrec r).mode (s.dlOctets r f)) (s.dlAckUs (s.nrec r))) (s.slotStart a / 1000000000)).2 = false :=
  ⟨0, 0, 1000, 0, 0, 2401250, 2, { zNodeFrame with cached := true, bytes := [1, 2] }, [], (let r : Fin 16384 := 0; let d : Nat := 0; let a : Nat := 1000; let l : Nat := 0; let f : Sys2Proof.NodeFrame := { zNodeFrame with cached := true, bytes := [1, 2] }; let rest : List Sys2Proof.NodeFrame := []; (let s : State := air; let s : State := { s with girth := { s.girth with sched := { s.girth.sched with fired := [⟨d, .moved r a, l⟩] } } }; let s : State := { s with girth := { s.girth with sched := { s.girth.sched with wheel := [] } } }; let s : State := { s with girth := { s.girth with sched := { s.girth.sched with far := [] } } }; let s : State := { s with girth := { s.girth with sched := { s.girth.sched with writing := [] } } }; let s : State := { s with girth := { s.girth with sched := { s.girth.sched with parked := [] } } }; let s : State := (let x_ := s.nrec r; s.setRec r ({ x_ with hw := { x_.hw with macState := 3 } })); let s : State := (let x_ := s.nrec r; s.setRec r ({ x_ with handover := none })); let s : State := (let x_ := s.nodeQ r; s.setNodeQ r ({ x_ with frames := f :: rest })); let s : State := s.setRec 0 { node 9 0x1000 3 with hw := { hwZero with macState := 3, ledger := 400000000000 } }; s)), by decide +kernel⟩

theorem meets_CellPlanning_6 : ∃ (r : Fin 16384) (dt : Nat) (h : HandoverOut) (a : Nat) (s : State), (s.nrec r).handover = some h ∧ h.acked = false ∧ (s.nrec r).compat = false ∧ s.firedDl r = some a ∧ s.headAwaited r = false :=
  ⟨0, 0, zHandoverOut, 1000, (let r : Fin 16384 := 0; let h : Sys2Proof.Machine.HandoverOut := zHandoverOut; (let s : State := air; let s : State := (let x_ := s.nrec r; s.setRec r ({ x_ with handover := some h })); let s : State := s.setSched { s.girth.sched with fired := [⟨0, .moved 0 1000, 0⟩] }; s)), by decide +kernel⟩

theorem meets_CellPlanning_7 : ∃ (r : Fin 16384) (dt : Nat) (h : HandoverOut) (s : State), (s.nrec r).handover = some h ∧ h.acked = true :=
  ⟨0, 0, { zHandoverOut with acked := true }, (let r : Fin 16384 := 0; let h : Sys2Proof.Machine.HandoverOut := { zHandoverOut with acked := true }; (let s : State := calm; let s : State := (let x_ := s.nrec r; s.setRec r ({ x_ with handover := some h })); s)), by decide +kernel⟩

theorem meets_CellPlanning_8 : ∃ (r : Fin 16384) (d : Nat) (a : Nat) (l : Nat) (dt : Nat) (s : State), s.girth.sched.fired = [⟨d, .uplink r a, l⟩] :=
  ⟨0, 0, 0, 0, 0, (let r : Fin 16384 := 0; let d : Nat := 0; let a : Nat := 0; let l : Nat := 0; (let s : State := calm; let s : State := { s with girth := { s.girth with sched := { s.girth.sched with fired := [⟨d, .uplink r a, l⟩] } } }; s)), by decide +kernel⟩

theorem meets_CinchAndCurb_2 : ∃ (pc : Nat) (s : State) (k : Nat), k < 6 ∧ s.girth.cinch.order = s.rd Key.cinchShedOrder :=
  ⟨0, ((let s : State := calm; let s : State := { s with girth := { s.girth with cinch := { s.girth.cinch with order := s.rd Key.cinchShedOrder } } }; s)), 0, by decide +kernel⟩

theorem meets_CinchAndCurb_3 : ∃ (pc : Nat) (tj : List Int) (s : State) (i : Nat), tj ≠ [] ∧ i < 8 :=
  ⟨0, [90], ((let s : State := calm; s)), 0, by decide +kernel⟩

theorem meets_CinchAndCurb_4 : ∃ (pc : Nat) (s : State), s.girth.cinch.overdraw = false :=
  ⟨0, ((let s : State := calm; let s : State := { s with girth := { s.girth with cinch := { s.girth.cinch with overdraw := false } } }; s)), by decide +kernel⟩

theorem meets_CinchAndCurb_6 : ∃ (n : Fin 256) (dt : Nat) (s : State), s.flag (Key.curbSample n) = false :=
  ⟨0, 0, (let n : Fin 256 := 0; (let s : State := calm; let s : State := s.wr (Key.curbSample n) 0; s)), by decide +kernel⟩

theorem meets_CinchAndCurb_7 : ∃ (n : Fin 256) (dt : Nat) (s : State), (s.advance dt).sampleDue n = true ∧ (s.curb.sampled = [] ∨ s.curb.sampledAt + us 1 ≤ (s.advance dt).elapsed) ∧ (∀ u, u < n.val → (s.advance dt).sampleDue u = false) ∧ (s.advance dt).samplesMissed n = 0 ∧ s.strapFull 3 3 = false ∧ (s.strap 3).welt = none :=
  ⟨0, 250000000000, ((let s : State := calm; let s : State := { s with curb := { s.curb with sampled := [] } }; let s : State := (let x_ := s.strap 3; s.setStrap 3 ({ x_ with welt := none })); let s : State := s.wr (Key.curbSample 0) (1); s)), by decide +kernel⟩

theorem meets_FramesEnter_1 : ∃ (h : Fin 12) (m : InMeta) (bytes : Bytes) (hit : TableHit) (dt : Nat) (s : State), (s.advance dt).inputClosed h = true :=
  ⟨0, (.radio 0 0), [], zTableHit, 0, ((let s : State := calm; let s : State := { s with dict := { s.dict with ready := false } }; s)), by decide +kernel⟩

theorem meets_FramesEnter_2 : ∃ (h : Fin 12) (m : InMeta) (bytes : Bytes) (hit : TableHit) (dt : Nat) (s : State), (s.advance dt).takesNext h ⟨h, m, bytes⟩ = false :=
  ⟨0, (.radio 0 0), [], zTableHit, 0, ((let s : State := calm; s)), by decide +kernel⟩

theorem meets_FramesEnter_3 : ∃ (h : Fin 12) (st : Nat) (bytes : Bytes) (hit : TableHit) (dt : Nat) (s : State), (s.advance dt).inputClosed h = false ∧ (s.advance dt).takesNext h ⟨h, .ethernet st, bytes⟩ = true ∧ 9216 < bytes.length :=
  ⟨4, 0, zeros 9217, zTableHit, 0, ((let s : State := calm; s)), by decide +kernel⟩

theorem meets_FramesEnter_4 : ∃ (h : Fin 12) (st : Nat) (bytes : Bytes) (hit : TableHit) (dt : Nat) (limit : Bool) (c : Nat) (s : State), (s.advance dt).inputClosed h = false ∧ (s.advance dt).takesNext h ⟨h, .ethernet st, bytes⟩ = true ∧ bytes.length ≤ 9216 ∧ (parseEthernet bytes).verdict = .deep limit ∧ c = ipClass (parseEthernet bytes).ip ∧ (s.outQ 9 c).spilled = false ∧ (s.outQ 9 c).cells + cellsOf bytes.length ≤ (s.advance dt).alphaLimit c ∧ cellsOf bytes.length ≤ (s.advance dt).freeCells :=
  ⟨4, 0, beBytes 14 0x88F7, zTableHit, 250000000000, false, 0, ((let s : State := calm; s)), by decide +kernel⟩

theorem meets_FramesEnter_5 : ∃ (h : Fin 12) (ten : Fin 256) (c : Fin 8) (bytes : Bytes) (hit : TableHit) (dt : Nat) (s : State), (s.advance dt).inputClosed h = false ∧ (s.advance dt).takesNext h ⟨h, .routed ten c none false, bytes⟩ = true ∧ bytes.length ≤ 9216 ∧ (parsePacket bytes true (linkCtx s.draws)).verdict = .control ∧ (s.outQ 9 6).spilled = false ∧ (s.outQ 9 6).cells + cellsOf bytes.length ≤ (s.advance dt).alphaLimit 6 ∧ cellsOf bytes.length ≤ (s.advance dt).freeCells :=
  ⟨8, 0, 0, [], zTableHit, 250000000000, ((let s : State := calm; s)), by decide +kernel⟩

theorem meets_FramesEnter_6 : ∃ (h : Fin 12) (ten : Fin 256) (c : Fin 8) (bytes : Bytes) (hit : TableHit) (dt : Nat) (ip : IpHead) (r : Nat) (p : Parsed) (s : State), (s.advance dt).inputClosed h = false ∧ (s.advance dt).takesNext h ⟨h, .routed ten c none false, bytes⟩ = true ∧ bytes.length ≤ 9216 ∧ p = parsePacket bytes true (linkCtx s.draws) ∧ p.verdict = .complete ∧ p.ip = some ip ∧ hit.bridle = none ∧ s.bridleFind ten ip.v4 ip.dst = some r ∧ resultKind r = 1 ∧ bits (s.rd (Key.polMode ten c)) 0 2 = 0 ∧ copyAllowed h ip.v4 (resultValue r) = true ∧ (s.outQ (resultValue r) c).spilled = false ∧ (s.outQ (resultValue r) c).cells + cellsOf p.bytes.length ≤ (s.advance dt).alphaLimit c ∧ cellsOf p.bytes.length ≤ (s.advance dt).freeCells :=
  ⟨8, 0, 0, packet4, { zTableHit with bridle := none }, 250000000000, (let bytes : Sys2Proof.Bytes := packet4; let p : Sys2Proof.Machine.Parsed := parsePacket bytes true (linkCtx 0); (p.ip).getD zIpHead), 0x10000009, (let bytes : Sys2Proof.Bytes := packet4; parsePacket bytes true (linkCtx 0)), ((let s : State := calm; let s : State := { s with tables := { s.tables with prefixes := [prefix24] } }; s)), by decide +kernel⟩

theorem meets_FramesEnter_7 : ∃ (h : Fin 12) (ten : Fin 256) (c : Fin 8) (bytes : Bytes) (hit : TableHit) (dt : Nat) (ip : IpHead) (p : Parsed) (s : State), (s.advance dt).inputClosed h = false ∧ (s.advance dt).takesNext h ⟨h, .routed ten c none false, bytes⟩ = true ∧ bytes.length ≤ 9216 ∧ p = parsePacket bytes true (linkCtx s.draws) ∧ p.verdict = .complete ∧ p.ip = some ip ∧ hit.bridle = none ∧ s.bridleFind ten ip.v4 ip.dst = none :=
  ⟨8, 0, 0, packet4, { zTableHit with bridle := none }, 0, (let bytes : Sys2Proof.Bytes := packet4; let p : Sys2Proof.Machine.Parsed := parsePacket bytes true (linkCtx 0); (p.ip).getD zIpHead), (let bytes : Sys2Proof.Bytes := packet4; parsePacket bytes true (linkCtx 0)), ((let s : State := calm; s)), by decide +kernel⟩

theorem meets_FramesLeaveAndSpill_1 : ∃ (c : Fin 8) (dt : Nat) (f : HFrame) (rest : List HFrame) (s : State), s.sbUp = true ∧ (s.outQ 10 c).frames = f :: rest ∧ (∀ d, d < 8 → c.val < d → (s.outQ 10 d).frames = []) ∧ s.onCalendar (80 + c) = false ∧ s.rd (Key.shpRateKbps f.tenant (shaperOf 10 c)) = 0 :=
  ⟨0, 0, zHFrame, [], (let c : Fin 8 := 0; let f : Sys2Proof.Machine.HFrame := zHFrame; (let s : State := calm; let s : State := s.wr Key.sbLinkState 2; let s : State := s.wr (Key.shpRateKbps f.tenant (shaperOf 10 c)) (0); let s : State := withQ s 10 c { OutQ.empty with frames := [f] }; s)), by decide +kernel⟩

theorem meets_FramesLeaveAndSpill_2 : ∃ (h : Fin 4) (c : Fin 8) (dt : Nat) (f : HFrame) (u : Nat) (rest : List HFrame) (s : State), (s.outQ h c).frames = f :: rest ∧ (∀ d, d < 8 → c.val < d → (s.outQ h d).frames = []) ∧ f.target = .tenantCast u ∧ (f.lowpan (linkCtx f.ctx)).length ≤ s.dlRoom u :=
  ⟨0, 0, 0, { zHFrame with target := .tenantCast 0, bytes := [0x41, 1] }, 0, [], (let h : Fin 4 := 0; let c : Fin 8 := 0; let f : Sys2Proof.Machine.HFrame := { zHFrame with target := .tenantCast 0, bytes := [0x41, 1] }; (let s : State := calm; let s : State := withQ s h c { OutQ.empty with frames := [f] }; s)), by decide +kernel⟩

theorem meets_FramesLeaveAndSpill_3 : ∃ (h : Fin 4) (c : Fin 8) (a : Nat) (dt : Nat) (f : HFrame) (rest : List HFrame) (s : State), (s.outQ h c).frames = f :: rest ∧ (∀ d, d < 8 → c.val < d → (s.outQ h d).frames = []) :=
  ⟨0, 0, 0, 0, zHFrame, [], (let h : Fin 4 := 0; let c : Fin 8 := 0; let f : Sys2Proof.Machine.HFrame := zHFrame; (let s : State := calm; let s : State := withQ s h c { OutQ.empty with frames := [f] }; s)), by decide +kernel⟩

theorem meets_FramesLeaveAndSpill_4 : ∃ (h : Fin 12) (dt : Nat) (s : State), s.outDown h = true :=
  ⟨4, 0, ((let s : State := calm; s)), by decide +kernel⟩

theorem meets_FramesLeaveAndSpill_5 : ∃ (h : Fin 12) (s : State), s.outDown h = true :=
  ⟨4, ((let s : State := calm; let s : State := { s with har := { s.har with eth := Vector.replicate 2 false } }; s)), by decide +kernel⟩

theorem meets_FramesLeaveAndSpill_6 : ∃ (h : Fin 12) (s : State), s.outDown h = false :=
  ⟨0, ((let s : State := calm; s)), by decide +kernel⟩

theorem meets_FramesLeaveAndSpill_8 : ∃ (h : Fin 12) (c : Fin 8) (f : HFrame) (rest : List HFrame) (s : State), (s.outQ h c).buffer = f :: rest ∧ s.sbUp = true :=
  ⟨0, 0, zHFrame, [], (let h : Fin 12 := 0; let c : Fin 8 := 0; let f : Sys2Proof.Machine.HFrame := zHFrame; (let s : State := calm; let s : State := s.wr Key.sbLinkState 2; let s : State := withQ s h c { OutQ.empty with spilled := true, buffer := [f] }; s)), by decide +kernel⟩

theorem meets_FramesLeaveAndSpill_9 : ∃ (h : Fin 12) (c : Fin 8) (f : HFrame) (rest : List HFrame) (s : State), (s.outQ h c).buffer = f :: rest :=
  ⟨0, 0, zHFrame, [], (let h : Fin 12 := 0; let c : Fin 8 := 0; let f : Sys2Proof.Machine.HFrame := zHFrame; (let s : State := calm; let s : State := withQ s h c { OutQ.empty with spilled := true, buffer := [f] }; s)), by decide +kernel⟩

theorem meets_FramesLeaveAndSpill_10 : ∃ (h : Fin 12) (c : Fin 8) (ok : Bool) (s : State), (s.outQ h c).buffer = [] :=
  ⟨0, 0, true, ((let s : State := calm; s)), by decide +kernel⟩

theorem meets_FramesLeaveAndSpill_11 : ∃ (h : Fin 12) (c : Fin 8) (s : State), (s.outQ h c).spilled = true ∧ s.sbUp = true ∧ (s.outQ h c).cells < 128 ∧ 4096 ≤ s.freeCells :=
  ⟨0, 0, (let h : Fin 12 := 0; let c : Fin 8 := 0; (let s : State := calm; let s : State := s.wr Key.sbLinkState 2; let s : State := withQ s h c { OutQ.empty with spilled := true }; s)), by decide +kernel⟩

theorem meets_FramesLeaveAndSpill_12 : ∃ (h : Fin 12) (c : Fin 8) (s : State), ((s.outQ h c).spilled = false ∨ s.sbUp = false ∨ 128 ≤ (s.outQ h c).cells ∨ s.freeCells < 4096) :=
  ⟨0, 0, ((let s : State := calm; s)), by decide +kernel⟩

theorem meets_SaddlebagLink_1 : ∃ (dt : Nat) (s : State), s.sbLink = 0 ∧ ((s.sb.fresh = true ∧ s.cores.core ≠ []) ∨ s.sb.since + ms 1000 ≤ (s.advance dt).elapsed) :=
  ⟨250000000000, ((let s : State := calm; let s : State := s.wr Key.sbLinkState (0); s)), by decide +kernel⟩

theorem meets_SaddlebagLink_2 : ∃ (dt : Nat) (s : State), s.sbLink ≠ 0 :=
  ⟨0, ((let s : State := calm; let s : State := s.wr Key.sbLinkState (1); s)), by decide +kernel⟩

theorem meets_SaddlebagLink_3 : ∃ (ex : List Nat) (lanes : Nat) (rate : Nat) (dt : Nat) (s : State), s.sbLink = 1 ∧ linkFits ex lanes rate = true ∧ s.sb.since + ms 50 ≤ (s.advance dt).elapsed ∧ (s.advance dt).elapsed ≤ s.sb.since + ms 500 :=
  ⟨[4096], 1, 8, 25000000, ((let s : State := calm; let s : State := s.wr Key.sbLinkState (1); s)), by decide +kernel⟩

theorem meets_SaddlebagLink_4 : ∃ (ex : List Nat) (lanes : Nat) (rate : Nat) (dt : Nat) (s : State), s.sbLink = 1 ∧ linkFits ex lanes rate = true ∧ s.sb.since + ms 50 ≤ (s.advance dt).elapsed ∧ (s.advance dt).elapsed ≤ s.sb.since + ms 500 ∧ s.dom Key.sbLayout ≠ [] ∧ layoutOk (s.dom Key.sbLayout) (min (attachedBytes ex) (2 ^ 46)) = true :=
  ⟨[4294967296], 1, 8, 25000000, ((let s : State := calm; let s : State := s.wr Key.sbLinkState (1); let s : State := s.setDom Key.sbLayout layoutDoc; s)), by decide +kernel⟩

theorem meets_SaddlebagLink_5 : ∃ (ex : List Nat) (lanes : Nat) (rate : Nat) (dt : Nat) (s : State), s.sbLink ≠ 1 :=
  ⟨[], 0, 0, 0, ((let s : State := calm; s)), by decide +kernel⟩

theorem meets_SaddlebagLink_6 : ∃ (dt : Nat) (s : State), s.sbLink = 1 ∧ s.sb.since + ms 500 ≤ (s.advance dt).elapsed :=
  ⟨250000000000, ((let s : State := calm; let s : State := s.wr Key.sbLinkState (1); s)), by decide +kernel⟩

theorem meets_SaddlebagLink_7 : ∃ (s : State), s.sbUp = true :=
  ⟨((let s : State := calm; let s : State := s.wr Key.sbLinkState 2; s)), by decide +kernel⟩

theorem meets_SaddlebagLink_8 : ∃ (dt : Nat) (s : State), s.sbLink = 3 ∧ (s.advance dt).elapsed ≤ s.sb.since + ms 50 :=
  ⟨0, ((let s : State := calm; let s : State := s.wr Key.sbLinkState (3); s)), by decide +kernel⟩

theorem meets_SaddlebagLink_9 : ∃ (dt : Nat) (s : State), s.sbLink = 3 ∧ s.sb.since + ms 50 ≤ (s.advance dt).elapsed :=
  ⟨250000000000, ((let s : State := calm; let s : State := s.wr Key.sbLinkState (3); s)), by decide +kernel⟩

theorem meets_SaddlebagAccess_1 : ∃ (k : Nat) (r : SbReq) (s : State), s.sb.outstanding[k]? = some (.own r) ∧ s.sbUp = true ∧ r.write = none ∧ sbOffset r.addr + r.len ≤ s.rd Key.sbAttached ∧ (∀ j, j < r.len → s.sbOpen (sbOffset r.addr + j) = false) :=
  ⟨0, { zSbReq with write := none }, (let r : Sys2Proof.SbReq := { zSbReq with write := none }; (let s : State := calm; let s : State := { s with sb := { s.sb with outstanding := [(.own r)] } }; let s : State := s.wr Key.sbLinkState 2; s)), by decide +kernel⟩

theorem meets_SaddlebagAccess_2 : ∃ (k : Nat) (r : SbReq) (bs : Bytes) (s : State), s.sb.outstanding[k]? = some (.own r) ∧ s.sbUp = true ∧ r.write = some bs ∧ sbOffset r.addr + r.len ≤ s.rd Key.sbAttached ∧ s.sbReserved (sbOffset r.addr) r.len = false :=
  ⟨0, (let bs : Sys2Proof.Bytes := []; { zSbReq with write := some bs }), [], (let bs : Sys2Proof.Bytes := []; let r : Sys2Proof.SbReq := { zSbReq with write := some bs }; (let s : State := calm; let s : State := { s with sb := { s.sb with outstanding := [(.own r)] } }; let s : State := s.wr Key.sbLinkState 2; s)), by decide +kernel⟩

theorem meets_SaddlebagAccess_3 : ∃ (k : Nat) (r : SbReq) (s : State), s.sb.outstanding[k]? = some (.own r) ∧ s.sbUp = true ∧ r.write = none :=
  ⟨0, { zSbReq with write := none }, (let r : Sys2Proof.SbReq := { zSbReq with write := none }; (let s : State := calm; let s : State := { s with sb := { s.sb with outstanding := [(.own r)] } }; let s : State := s.wr Key.sbLinkState 2; s)), by decide +kernel⟩

theorem meets_SaddlebagAccess_4 : ∃ (k : Nat) (e : Bool) (s : State), s.sbUp = false :=
  ⟨0, true, ((let s : State := calm; let s : State := s.wr Key.sbLinkState 0; s)), by decide +kernel⟩

theorem meets_SaddlebagAccess_5 : ∃ (p : Side) (src : Nat) (tag : Nat) (r : SbReq) (s : State), s.addr = 0xFF :=
  ⟨.dn, 0, 0, zSbReq, ((let s : State := calm; let s : State := s.wr Key.chainAddr (0xFF); s)), by decide +kernel⟩

theorem meets_SaddlebagAccess_6 : ∃ (p : Side) (src : Nat) (tag : Nat) (r : SbReq) (s : State), s.addr ≠ 0xFF ∧ s.flag Key.sbRemoteServe = false :=
  ⟨.dn, 0, 0, zSbReq, ((let s : State := calm; let s : State := s.wr Key.chainAddr 5; let s : State := s.wr Key.sbRemoteServe 0; s)), by decide +kernel⟩

theorem meets_SaddlebagAccess_7 : ∃ (p : Side) (src : Nat) (tag : Nat) (r : SbReq) (s : State), s.addr ≠ 0xFF ∧ s.flag Key.sbRemoteServe = true ∧ s.sbUp = true ∧ r.write = none ∧ sbOffset r.addr + r.len ≤ s.rd Key.sbAttached ∧ s.sb.waiting = [] ∧ s.sb.outstanding.length < 256 :=
  ⟨.dn, 0, 0, { zSbReq with write := none }, ((let s : State := calm; let s : State := s.wr Key.chainAddr 5; let s : State := s.wr Key.sbRemoteServe 1; let s : State := s.wr Key.sbLinkState 2; let s : State := { s with sb := { s.sb with waiting := [] } }; s)), by decide +kernel⟩

theorem meets_SaddlebagAccess_8 : ∃ (p : Side) (src : Nat) (tag : Nat) (r : SbReq) (s : State), s.addr ≠ 0xFF ∧ s.flag Key.sbRemoteServe = true ∧ s.sbLink ≤ 1 :=
  ⟨.dn, 0, 0, zSbReq, ((let s : State := calm; let s : State := s.wr Key.chainAddr 5; let s : State := s.wr Key.sbRemoteServe 1; s)), by decide +kernel⟩

theorem meets_StrapQueues_1 : ∃ (q : Fin 64) (words : Nat) (data : Bytes) (s : State), q.val ≠ 0 ∧ 1 ≤ words ∧ words ≤ 16 ∧ s.strapFull q words = false ∧ (s.strap q).welt = none :=
  ⟨1, 1, [], (let q : Fin 64 := 1; (let s : State := calm; let s : State := (let x_ := s.strap q; s.setStrap q ({ x_ with welt := none })); s)), by decide +kernel⟩

theorem meets_StrapQueues_2 : ∃ (q : Fin 64) (words : Nat) (data : Bytes) (s : State), q.val ≠ 0 ∧ 1 ≤ words ∧ words ≤ 16 ∧ s.strapFull q words = true :=
  ⟨1, 1, [], (let q : Fin 64 := 1; (let s : State := calm; let s : State := s.wr (Key.sqLimit q) (0); s)), by decide +kernel⟩

theorem meets_StrapQueues_6 : ∃ (q : Fin 64) (i : StrapItem) (rest : List StrapItem) (fails : List WordFail) (s : State), 2 ≤ q.val ∧ s.sbUp = true ∧ itemWords (s.strap q).head ≤ 32 ∧ (s.strap q).mid = i :: rest ∧ (∃ w, w ∈ fails ∧ w.item = 0 ∧ w.word < i.words ∧ failHead w = true) ∧ itemWords (s.strap q).head + i.words ≤ 64 :=
  ⟨2, { zStrapItem with words := 1 }, [], [⟨0, 0, 1, false⟩], (let q : Fin 64 := 2; let i : Sys2Proof.Machine.StrapItem := { zStrapItem with words := 1 }; let rest : List Sys2Proof.Machine.StrapItem := []; (let s : State := calm; let s : State := s.wr Key.sbLinkState 2; let s : State := (let x_ := s.strap q; s.setStrap q ({ x_ with mid := i :: rest })); s)), ⟨by decide +kernel, by decide +kernel, by decide +kernel, by decide +kernel, ⟨⟨0, 0, 1, false⟩, by decide +kernel, by decide +kernel, by decide +kernel, by decide +kernel⟩, by decide +kernel⟩⟩

theorem meets_StrapQueues_7 : ∃ (q : Fin 64) (r : Nat) (dt : Nat) (seq : Nat) (w : Welt) (s : State), q.val ≠ 0 ∧ (s.strap q).welt = some (seq, w) ∧ w.lastAt + ms 1 ≤ (s.advance dt).elapsed :=
  ⟨1, 0, 250000000000, 0, zWelt, (let q : Fin 64 := 1; let seq : Nat := 0; let w : Sys2Proof.Machine.Welt := zWelt; (let s : State := calm; let s : State := (let x_ := s.strap q; s.setStrap q ({ x_ with welt := some (seq, w) })); s)), by decide +kernel⟩

theorem meets_StrapQueues_8 : ∃ (q : Fin 64) (r : Nat) (s : State), s.sb.compare = false :=
  ⟨0, 0, ((let s : State := calm; let s : State := { s with sb := { s.sb with compare := false } }; s)), by decide +kernel⟩

theorem meets_StrapQueues_9 : ∃ (q : Fin 64) (r : Nat) (s : State), s.sb.compare = true ∧ 2 ≤ q.val :=
  ⟨2, 0, ((let s : State := calm; let s : State := { s with sb := { s.sb with compare := true } }; s)), by decide +kernel⟩

theorem meets_StrapQueues_10 : ∃ (r : Nat) (s : State), s.sb.compare = true :=
  ⟨0, ((let s : State := calm; let s : State := { s with sb := { s.sb with compare := true } }; s)), by decide +kernel⟩

theorem meets_NodeQueuesAndJournal_1 : ∃ (r : Fin 16384) (f : NodeFrame) (s : State), (s.nrec r).isFree = true :=
  ⟨0, zNodeFrame, ((let s : State := calm; s)), by decide +kernel⟩

theorem meets_NodeQueuesAndJournal_2 : ∃ (r : Fin 16384) (f : NodeFrame) (s : State), (s.nrec r).isFree = false ∧ (s.nrec r).quarantined = false ∧ (s.nodeQ r).frames = [] ∧ (s.nodeQ r).welt = none ∧ s.cacheFree = true ∧ 0 < s.rd (Key.sqLimit 0) ∧ 0 < s.nodeSlots :=
  ⟨0, zNodeFrame, (let r : Fin 16384 := 0; (let s : State := calm; let s : State := (let x_ := s.nrec r; s.setRec r { x_ with host := splice x_.host 0 (leBytes 8 9) }); let s : State := (let x_ := s.nrec r; s.setRec r ({ x_ with quarantined := false })); let s : State := (let x_ := s.nodeQ r; s.setNodeQ r ({ x_ with frames := [] })); let s : State := (let x_ := s.nodeQ r; s.setNodeQ r ({ x_ with welt := none })); let s : State := s.wr ((Key.sqLimit 0)) (0 + 1); s)), by decide +kernel⟩

theorem meets_NodeQueuesAndJournal_3 : ∃ (r : Fin 16384) (f : NodeFrame) (s : State), (s.nrec r).isFree = false ∧ (s.nrec r).quarantined = false ∧ min (s.rd (Key.sqLimit 0)) s.nodeSlots ≤ (s.nodeQ r).frames.length :=
  ⟨0, zNodeFrame, (let r : Fin 16384 := 0; (let s : State := calm; let s : State := (let x_ := s.nrec r; s.setRec r { x_ with host := splice x_.host 0 (leBytes 8 9) }); let s : State := (let x_ := s.nrec r; s.setRec r ({ x_ with quarantined := false })); let s : State := s.wr (Key.sqLimit 0) (0); s)), by decide +kernel⟩

theorem meets_NodeQueuesAndJournal_4 : ∃ (r : Fin 16384) (f : NodeFrame) (rest : List NodeFrame) (s : State), s.sbUp = true ∧ (s.nodeQ r).frames = f :: rest ∧ f.cached = false ∧ (if (s.firedDl r).isSome then s.planFree else s.cacheFree) = true :=
  ⟨0, { zNodeFrame with cached := false }, [], (let r : Fin 16384 := 0; let f : Sys2Proof.NodeFrame := { zNodeFrame with cached := false }; let rest : List Sys2Proof.NodeFrame := []; (let s : State := calm; let s : State := s.wr Key.sbLinkState 2; let s : State := (let x_ := s.nodeQ r; s.setNodeQ r ({ x_ with frames := f :: rest })); s)), by decide +kernel⟩

theorem meets_NodeQueuesAndJournal_5 : ∃ (r : Fin 16384) (w : WordFail) (f : NodeFrame) (rest : List NodeFrame) (s : State), s.sbUp = true ∧ (s.nodeQ r).frames = f :: rest ∧ f.cached = false ∧ (if (s.firedDl r).isSome then s.planFree else s.cacheFree) = true ∧ w.item = 0 ∧ w.word < 4 ∧ failHead w = false ∧ failItem w ≠ 0 :=
  ⟨0, ⟨0, 1, 1, false⟩, { zNodeFrame with bytes := zeros 20 }, [], (let r : Fin 16384 := 0; let f : Sys2Proof.NodeFrame := { zNodeFrame with bytes := zeros 20 }; let rest : List Sys2Proof.NodeFrame := []; (let s : State := calm; let s : State := s.wr Key.sbLinkState 2; let s : State := (let x_ := s.nodeQ r; s.setNodeQ r ({ x_ with frames := f :: rest })); s)), by decide +kernel⟩

theorem meets_NodeQueuesAndJournal_6 : ∃ (r : Fin 16384) (w : WordFail) (f : NodeFrame) (rest : List NodeFrame) (s : State), s.sbUp = true ∧ (s.nodeQ r).frames = f :: rest ∧ f.cached = false ∧ (if (s.firedDl r).isSome then s.planFree else s.cacheFree) = true ∧ w.item = 0 ∧ failHead w = true :=
  ⟨0, ⟨0, 0, 1, false⟩, zNodeFrame, [], (let r : Fin 16384 := 0; let f : Sys2Proof.NodeFrame := zNodeFrame; let rest : List Sys2Proof.NodeFrame := []; (let s : State := calm; let s : State := s.wr Key.sbLinkState 2; let s : State := (let x_ := s.nodeQ r; s.setNodeQ r ({ x_ with frames := f :: rest })); s)), by decide +kernel⟩

theorem meets_NodeQueuesAndJournal_7 : ∃ (r : Fin 16384) (l : List WordFail) (s : State), s.sbUp = false :=
  ⟨0, [], ((let s : State := calm; let s : State := s.wr Key.sbLinkState 0; s)), by decide +kernel⟩

theorem meets_NodeQueuesAndJournal_8 : ∃ (r : Fin 16384) (m : Nat) (lvl : Nat) (a : Nat) (f : NodeFrame) (rest : List NodeFrame) (dt : Nat) (s : State), s.girth.sched.fired = [⟨m, .moved r a, lvl⟩] ∧ (s.nodeQ r).frames = f :: rest ∧ f.cached = false ∧ s.planMs a + 1 ≤ (s.advance dt).nowMs :=
  ⟨0, 0, 0, 0, { zNodeFrame with cached := false }, [], 250000000000, (let r : Fin 16384 := 0; let m : Nat := 0; let lvl : Nat := 0; let a : Nat := 0; let f : Sys2Proof.NodeFrame := { zNodeFrame with cached := false }; let rest : List Sys2Proof.NodeFrame := []; (let s : State := calm; let s : State := { s with girth := { s.girth with sched := { s.girth.sched with fired := [⟨m, .moved r a, lvl⟩] } } }; let s : State := (let x_ := s.nodeQ r; s.setNodeQ r ({ x_ with frames := f :: rest })); s)), by decide +kernel⟩

theorem meets_NodeQueuesAndJournal_9 : ∃ (i : StrapItem) (rest : List StrapItem) (p : Side) (s : State), (s.strap 4).head = i :: rest ∧ s.routeTo s.chain.topo.head = some p ∧ i.kind = 0 ∧ i.poison = false ∧ (s.outQ (harnessPort p) (fieldLe i.data 1 1 % 8)).spilled = false ∧ (s.outQ (harnessPort p) (fieldLe i.data 1 1 % 8)).cells < 128 ∧ (s.outQ (harnessPort p) (fieldLe i.data 1 1 % 8)).cells + cellsOf (fieldLe i.data 6 2) ≤ s.alphaLimit (fieldLe i.data 1 1 % 8) ∧ cellsOf (fieldLe i.data 6 2) ≤ s.freeCells :=
  ⟨{ zStrapItem with words := 1 }, [], .dn, (let i : Sys2Proof.Machine.StrapItem := { zStrapItem with words := 1 }; let rest : List Sys2Proof.Machine.StrapItem := []; (let s : State := calm; let s : State := (let x_ := s.strap 4; s.setStrap 4 ({ x_ with head := i :: rest })); let s : State := s.wr (Key.chainAddr) (5); let s : State := s.wr (Key.linkState 0) (3); let s : State := s.wr (Key.linkState 1) (3); let s : State := { s with chain := { s.chain with topo := topo2 } }; s)), by decide +kernel⟩

theorem meets_NodeQueuesAndJournal_10 : ∃ (s : State), (s.strap 4).head = [] ∧ (s.strap 4).mid = [] ∧ (s.strap 4).tail = [] :=
  ⟨((let s : State := calm; let s : State := (let x_ := s.strap 4; s.setStrap 4 ({ x_ with head := [] })); let s : State := (let x_ := s.strap 4; s.setStrap 4 ({ x_ with mid := [] })); let s : State := (let x_ := s.strap 4; s.setStrap 4 ({ x_ with tail := [] })); s)), by decide +kernel⟩

theorem meets_NodeQueuesAndJournal_11 : ∃ (seq : Nat) (r : JournalRec) (s : State), s.sbUp = true ∧ s.sb.journal.flight.find? (fun p => p.1 == seq) = some (seq, r) ∧ s.journalRoom ≠ 0 :=
  ⟨0, .err { time := ⟨0, 0⟩, code := 0, source := 0, clkdom := 0, severity := 0, arg := 0, arg2 := 0 }, (let seq : Nat := 0; let r : Sys2Proof.Machine.JournalRec := .err { time := ⟨0, 0⟩, code := 0, source := 0, clkdom := 0, severity := 0, arg := 0, arg2 := 0 }; (let s : State := calm; let s : State := s.wr Key.sbLinkState 2; let s : State := { s with sb := { s.sb with journal := { s.sb.journal with flight := [(seq, r)] } } }; let s : State := { s with sb := { s.sb with layout := some [⟨1, 0, 0, 67108864⟩] } }; s)), by decide +kernel⟩

theorem meets_NodeQueuesAndJournal_12 : ∃ (dt : Nat) (s : State), s.sbUp = true ∧ s.sb.journal.running = true ∧ s.sb.journal.headerAt + ms 1000 ≤ (s.advance dt).elapsed :=
  ⟨250000000000, ((let s : State := calm; let s : State := s.wr Key.sbLinkState 2; let s : State := { s with sb := { s.sb with journal := { s.sb.journal with running := true } } }; s)), by decide +kernel⟩

theorem meets_NodeQueuesAndJournal_13 : ∃ (dt : Nat) (s : State), s.sb.journal.running = false :=
  ⟨0, ((let s : State := calm; let s : State := { s with sb := { s.sb with journal := { s.sb.journal with running := false } } }; s)), by decide +kernel⟩

theorem meets_BridleLongestMatch_1 : ∃ (s : State) (inst : Nat) (v4 : Bool) (addr : Nat), addr < 2 ^ famBits v4 ∧ (∀ p ∈ s.tables.prefixes, resultKind p.result ≠ 0 ∧ p.len ≤ famBits p.v4 ∧ p.addr < 2 ^ famBits p.v4) :=
  ⟨((let s : State := calm; s)), 0, true, 0, by decide +kernel⟩

theorem meets_BridlePort_1 : ∃ (o : TpOp) (ws : List (Nat × Nat)) (s : State), s.tpFront 0x01 = some o ∧ tpBarred o.who = false ∧ tpFamOk o.arg = true ∧ prefixArg (tpArg o.arg 0 1) (tpV4 o.arg) (tpPrefix o.arg) (tpArg o.arg 18 1) = none ∧ resultOk (tpArg o.arg 19 4) = true ∧ s.prefix? (tpArg o.arg 0 1) (tpV4 o.arg) (tpPrefix o.arg) (tpArg o.arg 18 1) = none ∧ s.tables.prefixes.length < 262144 ∧ bridleFits (s.tables.prefixes ++ [⟨tpArg o.arg 0 1, tpV4 o.arg, tpArg o.arg 18 1, tpPrefix o.arg, tpArg o.arg 19 4⟩]) = true :=
  ⟨⟨16, 0x01, argOf [(1, 1, 1), (2, 1, 10), (18, 1, 24), (19, 4, 0x10000008)]⟩, [], (let o : Sys2Proof.Machine.TpOp := ⟨16, 0x01, argOf [(1, 1, 1), (2, 1, 10), (18, 1, 24), (19, 4, 0x10000008)]⟩; (let s : State := calm; let s : State := { s with tables := { s.tables with ops := [o] } }; s)), by decide +kernel⟩

theorem meets_BridlePort_2 : ∃ (o : TpOp) (ws : List (Nat × Nat)) (old : Prefix) (s : State), s.tpFront 0x01 = some o ∧ tpBarred o.who = false ∧ tpFamOk o.arg = true ∧ prefixArg (tpArg o.arg 0 1) (tpV4 o.arg) (tpPrefix o.arg) (tpArg o.arg 18 1) = none ∧ resultOk (tpArg o.arg 19 4) = true ∧ s.prefix? (tpArg o.arg 0 1) (tpV4 o.arg) (tpPrefix o.arg) (tpArg o.arg 18 1) = some old ∧ bridleFits (s.tables.prefixes.map (fun q => if q == old then ⟨tpArg o.arg 0 1, tpV4 o.arg, tpArg o.arg 18 1, tpPrefix o.arg, tpArg o.arg 19 4⟩ else q)) = true :=
  ⟨⟨16, 0x01, argOf [(1, 1, 1), (2, 1, 10), (18, 1, 24), (19, 4, 0x10000008)]⟩, [], prefix24, (let o : Sys2Proof.Machine.TpOp := ⟨16, 0x01, argOf [(1, 1, 1), (2, 1, 10), (18, 1, 24), (19, 4, 0x10000008)]⟩; (let s : State := calm; let s : State := { s with tables := { s.tables with ops := [o] } }; let s : State := { s with tables := { s.tables with prefixes := [prefix24] } }; s)), by decide +kernel⟩

theorem meets_BridlePort_3 : ∃ (o : TpOp) (ws : List (Nat × Nat)) (c : Nat) (s : State), s.tpFront 0x01 = some o ∧ tpBarred o.who = false ∧ tpFamOk o.arg = true ∧ prefixArg (tpArg o.arg 0 1) (tpV4 o.arg) (tpPrefix o.arg) (tpArg o.arg 18 1) = some c :=
  ⟨⟨16, 0x01, argOf [(1, 1, 1), (18, 1, 3)]⟩, [], 0x12, (let o : Sys2Proof.Machine.TpOp := ⟨16, 0x01, argOf [(1, 1, 1), (18, 1, 3)]⟩; (let s : State := calm; let s : State := { s with tables := { s.tables with ops := [o] } }; s)), by decide +kernel⟩

theorem meets_BridlePort_4 : ∃ (o : TpOp) (ws : List (Nat × Nat)) (old : Prefix) (s : State), s.tpFront 0x02 = some o ∧ tpBarred o.who = false ∧ tpFamOk o.arg = true ∧ prefixArg (tpArg o.arg 0 1) (tpV4 o.arg) (tpPrefix o.arg) (tpArg o.arg 18 1) = none ∧ s.prefix? (tpArg o.arg 0 1) (tpV4 o.arg) (tpPrefix o.arg) (tpArg o.arg 18 1) = some old :=
  ⟨⟨16, 0x02, argOf [(1, 1, 1), (2, 1, 10), (18, 1, 24)]⟩, [], prefix24, (let o : Sys2Proof.Machine.TpOp := ⟨16, 0x02, argOf [(1, 1, 1), (2, 1, 10), (18, 1, 24)]⟩; (let s : State := calm; let s : State := { s with tables := { s.tables with ops := [o] } }; let s : State := { s with tables := { s.tables with prefixes := [prefix24] } }; s)), by decide +kernel⟩

theorem meets_BridlePort_5 : ∃ (o : TpOp) (ws : List (Nat × Nat)) (s : State), s.tpFront 0x02 = some o ∧ tpBarred o.who = false ∧ tpFamOk o.arg = true ∧ prefixArg (tpArg o.arg 0 1) (tpV4 o.arg) (tpPrefix o.arg) (tpArg o.arg 18 1) = none ∧ s.prefix? (tpArg o.arg 0 1) (tpV4 o.arg) (tpPrefix o.arg) (tpArg o.arg 18 1) = none :=
  ⟨⟨16, 0x02, argOf [(1, 1, 1), (2, 1, 10), (18, 1, 24)]⟩, [], (let o : Sys2Proof.Machine.TpOp := ⟨16, 0x02, argOf [(1, 1, 1), (2, 1, 10), (18, 1, 24)]⟩; (let s : State := calm; let s : State := { s with tables := { s.tables with ops := [o] } }; s)), by decide +kernel⟩

theorem meets_BridlePort_6 : ∃ (o : TpOp) (p : Prefix) (s : State), s.tpFront 0x03 = some o ∧ tpFamOk o.arg = true ∧ prefixArg (tpArg o.arg 0 1) (tpV4 o.arg) (tpPrefix o.arg) (tpArg o.arg 18 1) = none ∧ s.prefix? (tpArg o.arg 0 1) (tpV4 o.arg) (tpPrefix o.arg) (tpArg o.arg 18 1) = some p :=
  ⟨⟨16, 0x03, argOf [(1, 1, 1), (2, 1, 10), (18, 1, 24)]⟩, prefix24, (let o : Sys2Proof.Machine.TpOp := ⟨16, 0x03, argOf [(1, 1, 1), (2, 1, 10), (18, 1, 24)]⟩; (let s : State := calm; let s : State := { s with tables := { s.tables with ops := [o] } }; let s : State := { s with tables := { s.tables with prefixes := [prefix24] } }; s)), by decide +kernel⟩

theorem meets_BridlePort_7 : ∃ (o : TpOp) (w : Nat × Nat) (s : State), s.tpFront 0x03 = some o ∧ tpFamOk o.arg = true ∧ prefixArg (tpArg o.arg 0 1) (tpV4 o.arg) (tpPrefix o.arg) (tpArg o.arg 18 1) = none ∧ s.bridleReads (tpArg o.arg 0 1) (tpV4 o.arg) (tpPrefix o.arg) w.1 = true :=
  ⟨⟨16, 0x03, argOf [(1, 1, 1), (2, 1, 10), (18, 1, 24)]⟩, (0, 0), (let o : Sys2Proof.Machine.TpOp := ⟨16, 0x03, argOf [(1, 1, 1), (2, 1, 10), (18, 1, 24)]⟩; (let s : State := calm; let s : State := { s with tables := { s.tables with ops := [o] } }; s)), by decide +kernel⟩

theorem meets_BridlePort_8 : ∃ (o : TpOp) (ws : List (Nat × Nat)) (s : State), s.tpFront 0x04 = some o ∧ tpBarred o.who = false ∧ tpFamOk o.arg = true :=
  ⟨⟨16, 0x04, argOf [(1, 1, 1), (2, 1, 10), (18, 1, 24)]⟩, [], (let o : Sys2Proof.Machine.TpOp := ⟨16, 0x04, argOf [(1, 1, 1), (2, 1, 10), (18, 1, 24)]⟩; (let s : State := calm; let s : State := { s with tables := { s.tables with ops := [o] } }; s)), by decide +kernel⟩

theorem meets_BridlePort_9 : ∃ (o : TpOp) (s : State), s.tpFront 0x08 = some o ∧ tpBarred o.who = false ∧ tpArg o.arg 0 2 ≤ 4095 ∧ tpArg o.arg 8 2 ≤ 4094 ∧ (tpArg o.arg 10 1 = 4 ∨ tpArg o.arg 10 1 = 5) ∧ tpArg o.arg 11 1 % 2 = 1 :=
  ⟨⟨16, 0x08, argOf [(10, 1, 4), (11, 1, 1)]⟩, (let o : Sys2Proof.Machine.TpOp := ⟨16, 0x08, argOf [(10, 1, 4), (11, 1, 1)]⟩; (let s : State := calm; let s : State := { s with tables := { s.tables with ops := [o] } }; s)), by decide +kernel⟩

theorem meets_BridlePort_10 : ∃ (o : TpOp) (s : State), s.tpFront 0x09 = some o ∧ tpBarred o.who = false ∧ tpArg o.arg 0 2 ≤ 2047 ∧ (∀ e ∈ copyEntries o.arg, e.output ≤ 11) :=
  ⟨⟨16, 0x09, argOf [(2, 4, 0xF0000000)]⟩, (let o : Sys2Proof.Machine.TpOp := ⟨16, 0x09, argOf [(2, 4, 0xF0000000)]⟩; (let s : State := calm; let s : State := { s with tables := { s.tables with ops := [o] } }; s)), by decide +kernel⟩

theorem meets_BridlePort_11 : ∃ (o : TpOp) (ws : List (Nat × Nat)) (s : State), tpBarred o.who = true :=
  ⟨⟨12, 1, zeros 64⟩, [], (let o : Sys2Proof.Machine.TpOp := ⟨12, 1, zeros 64⟩; (let s : State := calm; let s : State := { s with tables := { s.tables with ops := [o] } }; s)), by decide +kernel⟩

theorem meets_HalterPort_1 : ∃ (o : TpOp) (b : Nat) (w : Nat) (s : State), s.tpFront 0x10 = some o ∧ tpBarred o.who = false ∧ tpArg o.arg 9 1 ≤ 63 ∧ tpArg o.arg 10 2 ≤ 16383 ∧ (tpArg o.arg 12 2 = 0 ∨ (0x4000 ≤ tpArg o.arg 12 2 ∧ tpArg o.arg 12 2 ≤ 0x7FFF)) ∧ s.halterFind (tpArg o.arg 0 1) (tpArg o.arg 1 8) = none ∧ b = halterBucket (tpArg o.arg 0 1) (tpArg o.arg 1 8) ∧ s.freeWay b = some w :=
  ⟨⟨16, 0x10, argOf [(1, 8, 9)]⟩, halterBucket 0 9, 0, (let o : Sys2Proof.Machine.TpOp := ⟨16, 0x10, argOf [(1, 8, 9)]⟩; (let s : State := calm; let s : State := { s with tables := { s.tables with ops := [o] } }; s)), by decide +kernel⟩

theorem meets_HalterPort_2 : ∃ (o : TpOp) (old : HalterEntry) (p : Nat) (s : State), s.tpFront 0x10 = some o ∧ tpBarred o.who = false ∧ tpArg o.arg 9 1 ≤ 63 ∧ tpArg o.arg 10 2 ≤ 16383 ∧ (tpArg o.arg 12 2 = 0 ∨ (0x4000 ≤ tpArg o.arg 12 2 ∧ tpArg o.arg 12 2 ≤ 0x7FFF)) ∧ s.halterFind (tpArg o.arg 0 1) (tpArg o.arg 1 8) = some (old, .way p) :=
  ⟨⟨16, 0x10, argOf [(1, 8, 9)]⟩, zHalterEntry, 0, (let o : Sys2Proof.Machine.TpOp := ⟨16, 0x10, argOf [(1, 8, 9)]⟩; let old : Sys2Proof.Machine.HalterEntry := zHalterEntry; (let s : State := calm; let s : State := { s with tables := { s.tables with ops := [o] } }; let s : State := { s with tables := { s.tables with halter := [(4 * halterBucket 0 9, old)] } }; s)), by decide +kernel⟩

theorem meets_HalterPort_3 : ∃ (o : TpOp) (b : Nat) (s : State), s.tpFront 0x10 = some o ∧ tpBarred o.who = false ∧ tpArg o.arg 9 1 ≤ 63 ∧ tpArg o.arg 10 2 ≤ 16383 ∧ (tpArg o.arg 12 2 = 0 ∨ (0x4000 ≤ tpArg o.arg 12 2 ∧ tpArg o.arg 12 2 ≤ 0x7FFF)) ∧ s.halterFind (tpArg o.arg 0 1) (tpArg o.arg 1 8) = none ∧ b = halterBucket (tpArg o.arg 0 1) (tpArg o.arg 1 8) ∧ s.freeWay b = none ∧ s.freeOverflow b = none ∧ tpArg o.arg 14 1 ≠ 0 :=
  ⟨⟨16, 0x10, argOf [(1, 8, 9), (14, 1, 1)]⟩, halterBucket 0 9, (let o : Sys2Proof.Machine.TpOp := ⟨16, 0x10, argOf [(1, 8, 9), (14, 1, 1)]⟩; let b : Nat := halterBucket 0 9; (let s : State := calm; let s : State := { s with tables := { s.tables with ops := [o] } }; let s : State := fullBucket s b { zHalterEntry with tenant := 7 }; s)), by decide +kernel⟩

theorem meets_HalterPort_4 : ∃ (o : TpOp) (b : Nat) (old : HalterEntry) (s : State), s.tpFront 0x10 = some o ∧ tpBarred o.who = false ∧ tpArg o.arg 9 1 ≤ 63 ∧ tpArg o.arg 10 2 ≤ 16383 ∧ (tpArg o.arg 12 2 = 0 ∨ (0x4000 ≤ tpArg o.arg 12 2 ∧ tpArg o.arg 12 2 ≤ 0x7FFF)) ∧ s.halterFind (tpArg o.arg 0 1) (tpArg o.arg 1 8) = none ∧ b = halterBucket (tpArg o.arg 0 1) (tpArg o.arg 1 8) ∧ s.freeWay b = none ∧ s.freeOverflow b = none ∧ tpArg o.arg 14 1 = 0 ∧ KMap.find s.tables.halter (4 * b + (s.victim b).1) = some old :=
  ⟨⟨16, 0x10, argOf [(1, 8, 9)]⟩, halterBucket 0 9, { zHalterEntry with tenant := 7 }, (let o : Sys2Proof.Machine.TpOp := ⟨16, 0x10, argOf [(1, 8, 9)]⟩; let b : Nat := halterBucket 0 9; let old : Sys2Proof.Machine.HalterEntry := { zHalterEntry with tenant := 7 }; (let s : State := calm; let s : State := { s with tables := { s.tables with ops := [o] } }; let s : State := { s with tables := { s.tables with halter := KMap.put s.tables.halter (4 * b + (s.victim b).1) old } }; let s : State := fullBucket s b old; s)), by decide +kernel⟩

theorem meets_HalterPort_5 : ∃ (o : TpOp) (b : Nat) (e : HalterEntry) (w : Nat) (s : State), s.tpFront 0x11 = some o ∧ tpBarred o.who = false ∧ s.halterFind (tpArg o.arg 0 1) (tpArg o.arg 1 8) = some (e, .way w) ∧ b = halterBucket (tpArg o.arg 0 1) (tpArg o.arg 1 8) ∧ s.tables.overflow = [] :=
  ⟨⟨16, 0x11, argOf [(1, 8, 9)]⟩, halterBucket 0 9, zHalterEntry, 0, (let o : Sys2Proof.Machine.TpOp := ⟨16, 0x11, argOf [(1, 8, 9)]⟩; let b : Nat := halterBucket 0 9; let e : Sys2Proof.Machine.HalterEntry := zHalterEntry; (let s : State := calm; let s : State := { s with tables := { s.tables with ops := [o] } }; let s : State := { s with tables := { s.tables with overflow := [] } }; let s : State := { s with tables := { s.tables with halter := [(4 * b, e)] } }; s)), by decide +kernel⟩

theorem meets_HalterPort_6 : ∃ (o : TpOp) (s : State), s.tpFront 0x11 = some o ∧ tpBarred o.who = false ∧ s.halterFind (tpArg o.arg 0 1) (tpArg o.arg 1 8) = none :=
  ⟨⟨16, 0x11, argOf [(1, 8, 9)]⟩, (let o : Sys2Proof.Machine.TpOp := ⟨16, 0x11, argOf [(1, 8, 9)]⟩; (let s : State := calm; let s : State := { s with tables := { s.tables with ops := [o] } }; s)), by decide +kernel⟩

theorem meets_HalterPort_7 : ∃ (o : TpOp) (e : HalterEntry) (p : HalterPlace) (s : State), s.tpFront 0x12 = some o ∧ s.halterFind (tpArg o.arg 0 1) (tpArg o.arg 1 8) = some (e, p) :=
  ⟨⟨16, 0x12, argOf [(1, 8, 9)]⟩, zHalterEntry, .way 0, (let o : Sys2Proof.Machine.TpOp := ⟨16, 0x12, argOf [(1, 8, 9)]⟩; let e : Sys2Proof.Machine.HalterEntry := zHalterEntry; (let s : State := calm; let s : State := { s with tables := { s.tables with ops := [o] } }; let s : State := { s with tables := { s.tables with halter := [(4 * halterBucket 0 9, e)] } }; s)), by decide +kernel⟩

theorem meets_HalterPort_8 : ∃ (o : TpOp) (s : State), s.tpFront 0x12 = some o ∧ s.halterFind (tpArg o.arg 0 1) (tpArg o.arg 1 8) = none :=
  ⟨⟨16, 0x12, argOf [(1, 8, 9)]⟩, (let o : Sys2Proof.Machine.TpOp := ⟨16, 0x12, argOf [(1, 8, 9)]⟩; (let s : State := calm; let s : State := { s with tables := { s.tables with ops := [o] } }; s)), by decide +kernel⟩

theorem meets_HalterPort_9 : ∃ (o : TpOp) (e : HalterEntry) (s : State), s.tpFront 0x13 = some o ∧ KMap.find s.tables.halter (4 * tpArg o.arg 0 2) = some e :=
  ⟨⟨16, 0x13, zeros 64⟩, zHalterEntry, (let o : Sys2Proof.Machine.TpOp := ⟨16, 0x13, zeros 64⟩; let e : Sys2Proof.Machine.HalterEntry := zHalterEntry; (let s : State := calm; let s : State := { s with tables := { s.tables with ops := [o] } }; let s : State := { s with tables := { s.tables with halter := KMap.put s.tables.halter (4 * tpArg o.arg 0 2) e } }; let s : State := { s with tables := { s.tables with halter := [(0, e)] } }; s)), by decide +kernel⟩

theorem meets_HalterPort_10 : ∃ (o : TpOp) (e : HalterEntry) (s : State), s.tpFront 0x13 = some o ∧ KMap.find s.tables.halter (4 * tpArg o.arg 0 2) = some e ∧ leBytes 12 e.raw ≠ zeros 12 :=
  ⟨⟨16, 0x13, zeros 64⟩, { zHalterEntry with age := 3 }, (let o : Sys2Proof.Machine.TpOp := ⟨16, 0x13, zeros 64⟩; let e : Sys2Proof.Machine.HalterEntry := { zHalterEntry with age := 3 }; (let s : State := calm; let s : State := { s with tables := { s.tables with ops := [o] } }; let s : State := { s with tables := { s.tables with halter := KMap.put s.tables.halter (4 * tpArg o.arg 0 2) e } }; let s : State := { s with tables := { s.tables with halter := [(0, e)] } }; s)), by decide +kernel⟩

theorem meets_HalterPort_11 : ∃ (o : TpOp) (bad : Nat) (s : State), tpBarred o.who = true :=
  ⟨⟨12, 0x10, zeros 64⟩, 0, (let o : Sys2Proof.Machine.TpOp := ⟨12, 0x10, zeros 64⟩; (let s : State := calm; let s : State := { s with tables := { s.tables with ops := [o] } }; s)), by decide +kernel⟩

theorem meets_HalterPort_13 : ∃ (dt : Nat) (s : State), s.tables.ageNext ≤ (s.advance dt).elapsed :=
  ⟨2000000000000, ((let s : State := calm; s)), by decide +kernel⟩

theorem meets_HalterPort_14 : ∃ (dt : Nat) (s : State), (s.advance dt).elapsed < s.tables.ageNext :=
  ⟨0, ((let s : State := calm; s)), by decide +kernel⟩

theorem meets_KeySlots_1 : ∃ (o : TpOp) (n : Nat) (s : State), s.tpFront 0x20 = some o ∧ tpBarred o.who = false ∧ s.keyed = true ∧ n = tpArg o.arg 0 2 ∧ 2 ≤ n ∧ n ≤ 4095 ∧ attrOk (tpArg o.arg 2 1) (tpArg o.arg 3 1) = true ∧ tpArg o.arg 4 1 ≤ 1 ∧ s.slotUsable n = false :=
  ⟨⟨16, 0x20, argOf [(0, 2, 5), (2, 1, 1), (3, 1, 1)]⟩, 5, (let o : Sys2Proof.Machine.TpOp := ⟨16, 0x20, argOf [(0, 2, 5), (2, 1, 1), (3, 1, 1)]⟩; (let s : State := calm; let s : State := { s with tables := { s.tables with ops := [o] } }; let s : State := s.wr Key.keeperState 1; s)), by decide +kernel⟩

theorem meets_KeySlots_2 : ∃ (o : TpOp) (n : Nat) (s : State), s.tpFront 0x20 = some o ∧ tpBarred o.who = false ∧ s.keyed = true ∧ n = tpArg o.arg 0 2 ∧ 2 ≤ n ∧ n ≤ 4095 ∧ attrOk (tpArg o.arg 2 1) (tpArg o.arg 3 1) = true ∧ tpArg o.arg 4 1 ≤ 1 ∧ s.slotUsable n = true :=
  ⟨⟨16, 0x20, argOf [(0, 2, 5), (2, 1, 1), (3, 1, 1)]⟩, 5, (let o : Sys2Proof.Machine.TpOp := ⟨16, 0x20, argOf [(0, 2, 5), (2, 1, 1), (3, 1, 1)]⟩; (let s : State := calm; let s : State := { s with tables := { s.tables with ops := [o] } }; let s : State := s.wr Key.keeperState 1; let s : State := s.setSlot 5 usable; s)), by decide +kernel⟩

theorem meets_KeySlots_3 : ∃ (o : TpOp) (s : State), s.tpFront 0x20 = some o ∧ tpBarred o.who = false ∧ s.keyed = false :=
  ⟨⟨16, 0x20, argOf [(0, 2, 5), (2, 1, 1), (3, 1, 1)]⟩, (let o : Sys2Proof.Machine.TpOp := ⟨16, 0x20, argOf [(0, 2, 5), (2, 1, 1), (3, 1, 1)]⟩; (let s : State := calm; let s : State := { s with tables := { s.tables with ops := [o] } }; s)), by decide +kernel⟩

theorem meets_KeySlots_4 : ∃ (o : TpOp) (p : Nat) (n : Nat) (s : State), s.tpFront 0x21 = some o ∧ tpBarred o.who = false ∧ s.keyed = true ∧ p = tpArg o.arg 0 2 ∧ n = tpArg o.arg 2 2 ∧ 2 ≤ n ∧ n ≤ 4095 ∧ 2 ≤ p ∧ p ≤ 4095 ∧ attrOk (tpArg o.arg 16 1) (tpArg o.arg 17 1) = true ∧ tpArg o.arg 18 1 ≤ 1 ∧ s.slotUsable n = false ∧ s.sourceCheck p useDerive = none ∧ (s.slot p).depth ≤ 7 :=
  ⟨⟨16, 0x21, argOf [(0, 2, 6), (2, 2, 5), (16, 1, 1), (17, 1, 1)]⟩, 6, 5, (let o : Sys2Proof.Machine.TpOp := ⟨16, 0x21, argOf [(0, 2, 6), (2, 2, 5), (16, 1, 1), (17, 1, 1)]⟩; (let s : State := calm; let s : State := { s with tables := { s.tables with ops := [o] } }; let s : State := s.wr Key.keeperState 1; let s : State := s.setSlot 6 usable; s)), by decide +kernel⟩

theorem meets_KeySlots_5 : ∃ (o : TpOp) (n : Nat) (alg : Nat) (s : State), s.tpFront 0x22 = some o ∧ tpBarred o.who = false ∧ s.keyed = true ∧ n = tpArg o.arg 0 2 ∧ 2 ≤ n ∧ n ≤ 4095 ∧ tpArg o.arg 2 2 = 0xFFFF ∧ alg = bits (tpArg o.arg 4 32) 236 4 ∧ attrOk alg (bits (tpArg o.arg 4 32) 240 5) = true ∧ s.slotUsable n = false :=
  ⟨⟨16, 0x22, argOf [(0, 2, 5), (2, 2, 0xFFFF), (4, 32, 2 ^ 236 + 2 ^ 240)]⟩, 5, 1, (let o : Sys2Proof.Machine.TpOp := ⟨16, 0x22, argOf [(0, 2, 5), (2, 2, 0xFFFF), (4, 32, 2 ^ 236 + 2 ^ 240)]⟩; (let s : State := calm; let s : State := { s with tables := { s.tables with ops := [o] } }; let s : State := s.wr Key.keeperState 1; s)), by decide +kernel⟩

theorem meets_KeySlots_6 : ∃ (o : TpOp) (n : Nat) (w : Nat) (s : State), s.tpFront 0x23 = some o ∧ tpBarred o.who = false ∧ s.keyed = true ∧ n = tpArg o.arg 0 2 ∧ 2 ≤ n ∧ n ≤ 4095 ∧ w = tpArg o.arg 2 2 ∧ 2 ≤ w ∧ w ≤ 4095 ∧ s.slotUsable n = true ∧ s.sourceCheck w useWrap = none ∧ (s.slot n).exportable = true :=
  ⟨⟨16, 0x23, argOf [(0, 2, 5), (2, 2, 6)]⟩, 5, 6, (let o : Sys2Proof.Machine.TpOp := ⟨16, 0x23, argOf [(0, 2, 5), (2, 2, 6)]⟩; let n : Nat := 5; (let s : State := calm; let s : State := { s with tables := { s.tables with ops := [o] } }; let s : State := s.wr Key.keeperState 1; let s : State := (let x_ := s.slot n; s.setSlot n ({ x_ with exportable := true })); let s : State := s.setSlot 6 usable; let s : State := s.setSlot 5 { usable with exportable := true }; s)), by decide +kernel⟩

theorem meets_KeySlots_7 : ∃ (o : TpOp) (n : Nat) (w : Nat) (s : State), s.tpFront 0x23 = some o ∧ tpBarred o.who = false ∧ s.keyed = true ∧ n = tpArg o.arg 0 2 ∧ 2 ≤ n ∧ n ≤ 4095 ∧ w = tpArg o.arg 2 2 ∧ 2 ≤ w ∧ w ≤ 4095 ∧ s.slotUsable n = true ∧ s.sourceCheck w useWrap = none ∧ (s.slot n).exportable = false :=
  ⟨⟨16, 0x23, argOf [(0, 2, 5), (2, 2, 6)]⟩, 5, 6, (let o : Sys2Proof.Machine.TpOp := ⟨16, 0x23, argOf [(0, 2, 5), (2, 2, 6)]⟩; let n : Nat := 5; (let s : State := calm; let s : State := { s with tables := { s.tables with ops := [o] } }; let s : State := s.wr Key.keeperState 1; let s : State := (let x_ := s.slot n; s.setSlot n ({ x_ with exportable := false })); let s : State := s.setSlot 6 usable; let s : State := s.setSlot 5 { usable with exportable := false }; s)), by decide +kernel⟩

theorem meets_KeySlots_8 : ∃ (o : TpOp) (n : Nat) (s : State), s.tpFront 0x24 = some o ∧ tpBarred o.who = false ∧ s.keyed = true ∧ n = tpArg o.arg 0 2 ∧ 2 ≤ n ∧ n ≤ 4095 ∧ (s.slot n).valid = true :=
  ⟨⟨16, 0x24, argOf [(0, 2, 5)]⟩, 5, (let o : Sys2Proof.Machine.TpOp := ⟨16, 0x24, argOf [(0, 2, 5)]⟩; let n : Nat := 5; (let s : State := calm; let s : State := { s with tables := { s.tables with ops := [o] } }; let s : State := s.wr Key.keeperState 1; let s : State := (let x_ := s.slot n; s.setSlot n ({ x_ with valid := true })); let s : State := s.setSlot 5 usable; s)), by decide +kernel⟩

theorem meets_KeySlots_9 : ∃ (o : TpOp) (n : Nat) (s : State), s.tpFront 0x25 = some o ∧ n = tpArg o.arg 0 2 ∧ n ≤ 4095 :=
  ⟨⟨16, 0x25, argOf [(0, 2, 5)]⟩, 5, (let o : Sys2Proof.Machine.TpOp := ⟨16, 0x25, argOf [(0, 2, 5)]⟩; (let s : State := calm; let s : State := { s with tables := { s.tables with ops := [o] } }; s)), by decide +kernel⟩

theorem meets_KeySlots_10 : ∃ (o : TpOp) (s : State), s.tpFront 0x26 = some o ∧ tpBarred o.who = false ∧ s.keyed = true ∧ tpArg o.arg 0 2 = 0xFFFF ∧ s.slotUsable 1 = true :=
  ⟨⟨16, 0x26, argOf [(0, 2, 0xFFFF)]⟩, (let o : Sys2Proof.Machine.TpOp := ⟨16, 0x26, argOf [(0, 2, 0xFFFF)]⟩; (let s : State := calm; let s : State := { s with tables := { s.tables with ops := [o] } }; let s : State := s.wr Key.keeperState 1; let s : State := s.setSlot 1 usable; s)), by decide +kernel⟩

theorem meets_KeySlots_12 : ∃ (s : State), s.keeper.sweepDue = true :=
  ⟨((let s : State := calm; let s : State := { s with keeper := { s.keeper with sweepDue := true } }; s)), by decide +kernel⟩

theorem meets_KeySlots_13 : ∃ (s : State), s.keeper.sweepDue = false :=
  ⟨((let s : State := calm; let s : State := { s with keeper := { s.keeper with sweepDue := false } }; s)), by decide +kernel⟩

theorem meets_KeeperStates_1 : ∃ (s : State), (s.res Key.keeperProvisionRes).busy = true :=
  ⟨((let s : State := calm; let s : State := (let x_ := s.res Key.keeperProvisionRes; s.setRes Key.keeperProvisionRes ({ x_ with busy := true })); s)), by decide +kernel⟩

theorem meets_KeeperStates_2 : ∃ (s : State), (s.res Key.keeperProvisionRes).busy = false :=
  ⟨((let s : State := calm; let s : State := (let x_ := s.res Key.keeperProvisionRes; s.setRes Key.keeperProvisionRes ({ x_ with busy := false })); s)), by decide +kernel⟩

theorem meets_KeeperStates_3 : ∃ (s : State), s.keyed = true :=
  ⟨((let s : State := calm; let s : State := s.wr Key.keeperState 1; s)), by decide +kernel⟩

theorem meets_KeeperStates_4 : ∃ (x : TamperSense) (s : State), Nat.land (tamperSources x) s.tamperMask = 0 :=
  ⟨zTamperSense, ((let s : State := calm; s)), by decide +kernel⟩

theorem meets_KeeperStates_5 : ∃ (x : TamperSense) (s : State), Nat.land (tamperSources x) s.tamperMask ≠ 0 ∧ s.rd Key.pwrState ≠ 0 :=
  ⟨{ zTamperSense with mesh := true }, ((let s : State := calm; let s : State := s.wr Key.pwrState (1); let s : State := s.wr (Key.tamperEnable) (63); s)), by decide +kernel⟩

theorem meets_KeeperStates_6 : ∃ (s : State), s.keeper.unreported = true :=
  ⟨((let s : State := calm; let s : State := { s with keeper := { s.keeper with unreported := true } }; s)), by decide +kernel⟩

theorem meets_KeeperStates_7 : ∃ (s : State), s.keeper.unreported = false :=
  ⟨((let s : State := calm; let s : State := { s with keeper := { s.keeper with unreported := false } }; s)), by decide +kernel⟩

theorem meets_KeeperStates_9 : ∃ (n : Nat) (s : State), s.keeper.attesting = some n ∧ n ≠ 0 ∧ s.keyed = false :=
  ⟨5, (let n : Nat := 5; (let s : State := calm; let s : State := { s with keeper := { s.keeper with attesting := some n } }; s)), by decide +kernel⟩

theorem meets_KeeperStates_10 : ∃ (n : Nat) (s : State), s.keeper.attesting = some n ∧ s.keyed = true ∧ s.slotUsable n = true :=
  ⟨0, (let n : Nat := 0; (let s : State := calm; let s : State := { s with keeper := { s.keeper with attesting := some n } }; let s : State := s.wr Key.keeperState 1; s)), by decide +kernel⟩

theorem meets_KeeperStates_11 : ∃ (s : State), s.keeper.attesting = none :=
  ⟨((let s : State := calm; let s : State := { s with keeper := { s.keeper with attesting := none } }; s)), by decide +kernel⟩

theorem meets_CampaignStates_1 : ∃ (k : Fin 16) (s : State), s.cmdBlocked (Key.campRes k) = false ∧ (s.campSt k = 0 ∨ s.campSt k = 4 ∨ s.campSt k = 5) :=
  ⟨0, (let k : Fin 16 := 0; (let s : State := calm; let s : State := s.wr (Key.campState k) 0; s)), by decide +kernel⟩

theorem meets_CampaignStates_2 : ∃ (k : Fin 16) (s : State), s.cmdBlocked (Key.campRes k) = false ∧ (s.campSt k = 2 ∨ s.campSt k = 3) :=
  ⟨0, (let k : Fin 16 := 0; (let s : State := calm; let s : State := s.wr (Key.campState k) 2; s)), by decide +kernel⟩

theorem meets_CampaignStates_3 : ∃ (k : Fin 16) (s : State), s.cmdBlocked (Key.campRes k) = false ∧ s.campSt k = 2 :=
  ⟨0, (let k : Fin 16 := 0; (let s : State := calm; let s : State := s.wr (Key.campState k) 2; s)), by decide +kernel⟩

theorem meets_CampaignStates_4 : ∃ (k : Fin 16) (s : State), s.cmdBlocked (Key.campRes k) = false ∧ s.campSt k = 3 ∧ ((s.camp k).everDone = false ∨ ∃ u ∈ (s.camp k).targets, u.done = false) :=
  ⟨0, (let k : Fin 16 := 0; (let s : State := calm; let s : State := s.wr (Key.campState k) 3; let s : State := (let x_ := s.camp k; s.setCamp k ({ x_ with everDone := false })); s)), by decide +kernel⟩

theorem meets_CampaignStates_5 : ∃ (k : Fin 16) (s : State), s.cmdBlocked (Key.campRes k) = false ∧ (s.campSt k = 2 ∨ s.campSt k = 3) :=
  ⟨0, (let k : Fin 16 := 0; (let s : State := calm; let s : State := s.wr (Key.campState k) 2; s)), by decide +kernel⟩

theorem meets_CampaignStates_6 : ∃ (k : Fin 16) (s : State), s.cmdBlocked (Key.campRes k) = true :=
  ⟨0, ((let s : State := calm; let s : State := { s with dict := { s.dict with ready := false } }; s)), by decide +kernel⟩

theorem meets_CampaignStates_7 : ∃ (k : Fin 16) (got : Bytes) (bad : Option Nat) (dt : Nat) (s : State), s.campSt k ≠ 1 :=
  ⟨0, [], none, 0, ((let s : State := calm; s)), by decide +kernel⟩

theorem meets_CampaignStates_8 : ∃ (k : Fin 16) (got : Bytes) (bad : Option Nat) (dt : Nat) (s : State), s.campSt k = 1 ∧ s.targetStore = none :=
  ⟨0, [], none, 0, (let k : Fin 16 := 0; (let s : State := calm; let s : State := s.wr (Key.campState k) 1; s)), by decide +kernel⟩

theorem meets_CampaignStates_9 : ∃ (k : Fin 16) (got : Bytes) (bad : Option Nat) (dt : Nat) (region : Bytes) (owned : List Nat) (s : State), s.campSt k = 1 ∧ region = (s.advance dt).imageRegion k got bad ∧ owned = ((euiList (s.targetBytes k)).filterMap (fun e => s.ownedRecord (s.rd (Key.campTenant k)) e)).filter (fun r => !(s.nrec r).compat) ∧ (s.advance dt).loadCheck k region owned = none ∧ s.targetsBad k = false :=
  ⟨0, descDoc ++ [0#8], none, 0, (let k : Fin 16 := 0; let got : Sys2Proof.Bytes := descDoc ++ [0#8]; let bad : Option Nat := none; let dt : Nat := 0; let s : State := (let s : State := campaign; let s : State := s.wr (Key.campState k) 1; s); (s.advance dt).imageRegion k got bad), [], (let k : Fin 16 := 0; (let s : State := campaign; let s : State := s.wr (Key.campState k) 1; s)), by decide +kernel⟩

theorem meets_CampaignStates_10 : ∃ (k : Fin 16) (got : Bytes) (bad : Option Nat) (dt : Nat) (region : Bytes) (owned : List Nat) (s : State), s.campSt k = 1 ∧ region = (s.advance dt).imageRegion k got bad ∧ owned = ((euiList (s.targetBytes k)).filterMap (fun e => s.ownedRecord (s.rd (Key.campTenant k)) e)).filter (fun r => !(s.nrec r).compat) ∧ (s.advance dt).loadCheck k region owned = none ∧ s.targetsBad k = true :=
  ⟨0, descDoc ++ [0#8], none, 0, (let k : Fin 16 := 0; let got : Sys2Proof.Bytes := descDoc ++ [0#8]; let bad : Option Nat := none; let dt : Nat := 0; let s : State := (let s : State := campaign; let s : State := s.wr (Key.campState k) 1; let s : State := { s with lacing := { s.lacing with lists := [(0, ⟨8, 0⟩)] } }; s); (s.advance dt).imageRegion k got bad), (let k : Fin 16 := 0; let s : State := (let s : State := campaign; let s : State := s.wr (Key.campState k) 1; let s : State := { s with lacing := { s.lacing with lists := [(0, ⟨8, 0⟩)] } }; s); ((euiList (s.targetBytes k)).filterMap (fun e => s.ownedRecord (s.rd (Key.campTenant k)) e)).filter (fun r => !(s.nrec r).compat)), (let k : Fin 16 := 0; (let s : State := campaign; let s : State := s.wr (Key.campState k) 1; let s : State := { s with lacing := { s.lacing with lists := [(0, ⟨8, 0⟩)] } }; s)), by decide +kernel⟩

theorem meets_CampaignStates_11 : ∃ (k : Fin 16) (r : Fin 16384) (dt : Nat) (u : LaceTarget) (s : State), s.campSt k = 2 ∧ (s.camp k).targets.find? (fun x => x.record == r.val) = some u ∧ u.done = false ∧ u.heardAt + ms (1000 * (s.camp k).announceS) ≤ (s.advance dt).elapsed :=
  ⟨0, 0, 250000000000, ⟨0, 9, false, false, 0⟩, (let k : Fin 16 := 0; let u : Sys2Proof.Machine.LaceTarget := ⟨0, 9, false, false, 0⟩; (let s : State := calm; let s : State := s.wr (Key.campState k) 2; let s : State := s.setCamp k { s.camp k with targets := [u] }; s)), by decide +kernel⟩

theorem meets_CampaignStates_12 : ∃ (k : Fin 16) (r : Fin 16384) (dt : Nat) (s : State), s.campSt k ≠ 2 :=
  ⟨0, 0, 0, ((let s : State := calm; s)), by decide +kernel⟩

theorem meets_CampaignStates_13 : ∃ (k : Fin 16) (dt : Nat) (s : State), (s.campSt k = 2 ∨ s.campSt k = 3) ∧ (s.camp k).running + ms (1000 * (s.camp k).deadlineS) ≤ (s.advance dt).elapsed ∧ s.rd (Key.campPending k) ≠ 0 :=
  ⟨0, 250000000000, (let k : Fin 16 := 0; (let s : State := calm; let s : State := s.wr (Key.campState k) 2; let s : State := s.wr (Key.campPending k) (1); s)), by decide +kernel⟩

theorem meets_CampaignStates_14 : ∃ (k : Fin 16) (dt : Nat) (s : State), (s.campSt k = 2 ∨ s.campSt k = 3) ∧ (s.camp k).running + ms (1000 * (s.camp k).deadlineS) ≤ (s.advance dt).elapsed ∧ s.rd (Key.campPending k) = 0 :=
  ⟨0, 250000000000, (let k : Fin 16 := 0; (let s : State := calm; let s : State := s.wr (Key.campState k) 2; let s : State := s.wr (Key.campPending k) (0); s)), by decide +kernel⟩

theorem meets_CampaignBursts_1 : ∃ (k : Fin 16) (got : Bytes) (bad : List Nat) (dt : Nat) (s : State), s.girth.sched.fired.any (fun e => e.due == .burst k.val (s.camp k).burst) = false :=
  ⟨0, [], [], 0, ((let s : State := calm; s)), by decide +kernel⟩

theorem meets_CampaignBursts_2 : ∃ (k : Fin 16) (got : Bytes) (bad : List Nat) (dt : Nat) (x : LaceStream) (f : Nat) (freq : Nat) (p : Nat) (fill : LaceFill) (s : State), s.campSt k = 2 ∧ s.girth.sched.fired.map (·.due) = [.burst k.val (s.camp k).burst] ∧ (s.advance dt).nowNs < s.slotStart (s.camp k).burst ∧ s.served (s.rd (Key.campTenant k)) = some f ∧ (s.camp k).streams = [x] ∧ s.hop (s.rd (Key.campTenant k)) (x.mode == 1) (s.camp k).burst (8 + x.mode) = some (freq, p) ∧ fill = laceFill (64 + 1000 * (s.camp k).a) (blocksOf (s.rd (Key.campImageBytes k))) (s.burstFrames (s.camp k) (frameUs x.mode (s.symbolOctets (s.rd (Key.campTenant k)))) (s.burstGap p freq)) x ∧ fill.symbols ≠ [] ∧ s.burstUnread k ((s.advance dt).imageNow k got) bad fill.symbols = false ∧ (∀ z ∈ fill.symbols, Crypto.crc32c (blockOf ((s.advance dt).imageNow k got) z.1) = (s.camp k).blockCrc.getD z.1 0) ∧ (s.grant (some 1) (fill.symbols.length * (s.laceUj + s.txEnergy (airUs x.mode (s.symbolOctets (s.rd (Key.campTenant k)))) (min s.topPower (2 * (s.camp k).drvDbm))))).2 = true :=
  ⟨0, [0#8], [], 0, ⟨1, 0, [], []⟩, 0, 2401250, 2, (let k : Fin 16 := 0; let x : Sys2Proof.Machine.LaceStream := ⟨1, 0, [], []⟩; let freq : Nat := 2401250; let p : Nat := 2; let s : State := (let s : State := burst x; let s : State := s.wr (Key.campState k) 2; let s : State := (let x_ := s.camp k; s.setCamp k ({ x_ with streams := [x] })); s); laceFill (64 + 1000 * (s.camp k).a) (blocksOf (s.rd (Key.campImageBytes k))) (s.burstFrames (s.camp k) (frameUs x.mode (s.symbolOctets (s.rd (Key.campTenant k)))) (s.burstGap p freq)) x), (let k : Fin 16 := 0; let x : Sys2Proof.Machine.LaceStream := ⟨1, 0, [], []⟩; (let s : State := burst x; let s : State := s.wr (Key.campState k) 2; let s : State := (let x_ := s.camp k; s.setCamp k ({ x_ with streams := [x] })); s)), by decide +kernel⟩

theorem meets_CampaignBursts_3 : ∃ (k : Fin 16) (got : Bytes) (bad : List Nat) (dt : Nat) (x : LaceStream) (f : Nat) (freq : Nat) (p : Nat) (fill : LaceFill) (s : State), s.campSt k = 2 ∧ s.girth.sched.fired.map (·.due) = [.burst k.val (s.camp k).burst] ∧ (s.advance dt).nowNs < s.slotStart (s.camp k).burst ∧ s.served (s.rd (Key.campTenant k)) = some f ∧ (s.camp k).streams = [x] ∧ s.hop (s.rd (Key.campTenant k)) (x.mode == 1) (s.camp k).burst (8 + x.mode) = some (freq, p) ∧ fill = laceFill (64 + 1000 * (s.camp k).a) (blocksOf (s.rd (Key.campImageBytes k))) (s.burstFrames (s.camp k) (frameUs x.mode (s.symbolOctets (s.rd (Key.campTenant k)))) (s.burstGap p freq)) x ∧ fill.symbols ≠ [] ∧ s.burstUnread k ((s.advance dt).imageNow k got) bad fill.symbols = false ∧ (∀ z ∈ fill.symbols, Crypto.crc32c (blockOf ((s.advance dt).imageNow k got) z.1) = (s.camp k).blockCrc.getD z.1 0) ∧ (s.grant (some 1) (fill.symbols.length * (s.laceUj + s.txEnergy (airUs x.mode (s.symbolOctets (s.rd (Key.campTenant k)))) (min s.topPower (2 * (s.camp k).drvDbm))))).2 = false :=
  ⟨0, [0#8], [], 0, ⟨1, 0, [], []⟩, 0, 2401250, 2, (let k : Fin 16 := 0; let x : Sys2Proof.Machine.LaceStream := ⟨1, 0, [], []⟩; let freq : Nat := 2401250; let p : Nat := 2; let s : State := (let s : State := burst x; let s : State := s.wr (Key.campState k) 2; let s : State := (let x_ := s.camp k; s.setCamp k ({ x_ with streams := [x] })); let s : State := s.setTokens 0; s); laceFill (64 + 1000 * (s.camp k).a) (blocksOf (s.rd (Key.campImageBytes k))) (s.burstFrames (s.camp k) (frameUs x.mode (s.symbolOctets (s.rd (Key.campTenant k)))) (s.burstGap p freq)) x), (let k : Fin 16 := 0; let x : Sys2Proof.Machine.LaceStream := ⟨1, 0, [], []⟩; (let s : State := burst x; let s : State := s.wr (Key.campState k) 2; let s : State := (let x_ := s.camp k; s.setCamp k ({ x_ with streams := [x] })); let s : State := s.setTokens 0; s)), by decide +kernel⟩

theorem meets_CampaignBursts_4 : ∃ (k : Fin 16) (got : Bytes) (bad : List Nat) (dt : Nat) (x : LaceStream) (f : Nat) (freq : Nat) (p : Nat) (fill : LaceFill) (s : State), s.campSt k = 2 ∧ s.girth.sched.fired.map (·.due) = [.burst k.val (s.camp k).burst] ∧ (s.advance dt).nowNs < s.slotStart (s.camp k).burst ∧ s.served (s.rd (Key.campTenant k)) = some f ∧ (s.camp k).streams = [x] ∧ s.hop (s.rd (Key.campTenant k)) (x.mode == 1) (s.camp k).burst (8 + x.mode) = some (freq, p) ∧ fill = laceFill (64 + 1000 * (s.camp k).a) (blocksOf (s.rd (Key.campImageBytes k))) (s.burstFrames (s.camp k) (frameUs x.mode (s.symbolOctets (s.rd (Key.campTenant k)))) (s.burstGap p freq)) x ∧ fill.symbols ≠ [] ∧ s.burstUnread k ((s.advance dt).imageNow k got) bad fill.symbols = true :=
  ⟨0, [], [], 0, ⟨1, 0, [], []⟩, 0, 2401250, 2, (let k : Fin 16 := 0; let x : Sys2Proof.Machine.LaceStream := ⟨1, 0, [], []⟩; let freq : Nat := 2401250; let p : Nat := 2; let s : State := (let s : State := burst x; let s : State := s.wr (Key.campState k) 2; let s : State := (let x_ := s.camp k; s.setCamp k ({ x_ with streams := [x] })); s); laceFill (64 + 1000 * (s.camp k).a) (blocksOf (s.rd (Key.campImageBytes k))) (s.burstFrames (s.camp k) (frameUs x.mode (s.symbolOctets (s.rd (Key.campTenant k)))) (s.burstGap p freq)) x), (let k : Fin 16 := 0; let x : Sys2Proof.Machine.LaceStream := ⟨1, 0, [], []⟩; (let s : State := burst x; let s : State := s.wr (Key.campState k) 2; let s : State := (let x_ := s.camp k; s.setCamp k ({ x_ with streams := [x] })); s)), by decide +kernel⟩

theorem meets_CampaignBursts_5 : ∃ (k : Fin 16) (got : Bytes) (bad : List Nat) (dt : Nat) (x : LaceStream) (f : Nat) (freq : Nat) (p : Nat) (fill : LaceFill) (s : State), s.campSt k = 2 ∧ s.girth.sched.fired.map (·.due) = [.burst k.val (s.camp k).burst] ∧ (s.advance dt).nowNs < s.slotStart (s.camp k).burst ∧ s.served (s.rd (Key.campTenant k)) = some f ∧ (s.camp k).streams = [x] ∧ s.hop (s.rd (Key.campTenant k)) (x.mode == 1) (s.camp k).burst (8 + x.mode) = some (freq, p) ∧ fill = laceFill (64 + 1000 * (s.camp k).a) (blocksOf (s.rd (Key.campImageBytes k))) (s.burstFrames (s.camp k) (frameUs x.mode (s.symbolOctets (s.rd (Key.campTenant k)))) (s.burstGap p freq)) x ∧ fill.symbols ≠ [] ∧ s.burstUnread k ((s.advance dt).imageNow k got) bad fill.symbols = false ∧ (∃ z ∈ fill.symbols, Crypto.crc32c (blockOf ((s.advance dt).imageNow k got) z.1) ≠ (s.camp k).blockCrc.getD z.1 0) :=
  ⟨0, [1#8], [], 0, ⟨1, 0, [], []⟩, 0, 2401250, 2, (let k : Fin 16 := 0; let x : Sys2Proof.Machine.LaceStream := ⟨1, 0, [], []⟩; let freq : Nat := 2401250; let p : Nat := 2; let s : State := (let s : State := burst x; let s : State := s.wr (Key.campState k) 2; let s : State := (let x_ := s.camp k; s.setCamp k ({ x_ with streams := [x] })); s); laceFill (64 + 1000 * (s.camp k).a) (blocksOf (s.rd (Key.campImageBytes k))) (s.burstFrames (s.camp k) (frameUs x.mode (s.symbolOctets (s.rd (Key.campTenant k)))) (s.burstGap p freq)) x), (let k : Fin 16 := 0; let x : Sys2Proof.Machine.LaceStream := ⟨1, 0, [], []⟩; (let s : State := burst x; let s : State := s.wr (Key.campState k) 2; let s : State := (let x_ := s.camp k; s.setCamp k ({ x_ with streams := [x] })); s)), by decide +kernel⟩

theorem meets_CampaignBursts_6 : ∃ (k : Fin 16) (dt : Nat) (a : Nat) (s : State), (s.camp k).failing = some a ∧ s.campSt k = 2 ∧ a + ms 60000 ≤ (s.advance dt).elapsed :=
  ⟨0, 250000000000, 0, (let k : Fin 16 := 0; let a : Nat := 0; (let s : State := calm; let s : State := (let x_ := s.camp k; s.setCamp k ({ x_ with failing := some a })); let s : State := s.wr (Key.campState k) 2; s)), by decide +kernel⟩

theorem meets_CampaignBursts_7 : ∃ (k : Fin 16) (dt : Nat) (s : State), (s.camp k).failing = none :=
  ⟨0, 0, (let k : Fin 16 := 0; (let s : State := calm; let s : State := (let x_ := s.camp k; s.setCamp k ({ x_ with failing := none })); s)), by decide +kernel⟩

theorem meets_CampaignBursts_8 : ∃ (i : StrapItem) (rest : List StrapItem) (k : Nat) (u : LaceTarget) (s : State), (s.strap 5).head = i :: rest ∧ i.kind = 0 ∧ i.poison = false ∧ s.laceRunning (fieldLe i.data 2 1) (i.data.drop 3) = some k ∧ (s.camp k).targets.find? (fun x => shortOf x.record == fieldLe i.data 0 2) = some u ∧ fieldLe (i.data.drop 3) 4 1 = 1 :=
  ⟨{ zStrapItem with data := leBytes 2 (shortOf 0) ++ [0#8, 0x2C#8, 3#8, 0x34#8, 0x12#8, 1#8] }, [], 0, ⟨0, 9, false, false, 0⟩, (let i : Sys2Proof.Machine.StrapItem := { zStrapItem with data := leBytes 2 (shortOf 0) ++ [0#8, 0x2C#8, 3#8, 0x34#8, 0x12#8, 1#8] }; let rest : List Sys2Proof.Machine.StrapItem := []; let u : Sys2Proof.Machine.LaceTarget := ⟨0, 9, false, false, 0⟩; (let s : State := burst ⟨1, 0, [], []⟩; let s : State := (let x_ := s.strap 5; s.setStrap 5 ({ x_ with head := i :: rest })); let s : State := s.setCamp 0 { s.camp 0 with targets := [u], crc := 0x1234 }; s)), by decide +kernel⟩

theorem meets_CampaignBursts_9 : ∃ (s : State), (s.strap 5).head = [] ∧ (s.strap 5).mid = [] ∧ (s.strap 5).tail = [] :=
  ⟨((let s : State := calm; let s : State := (let x_ := s.strap 5; s.setStrap 5 ({ x_ with head := [] })); let s : State := (let x_ := s.strap 5; s.setStrap 5 ({ x_ with mid := [] })); let s : State := (let x_ := s.strap 5; s.setStrap 5 ({ x_ with tail := [] })); s)), by decide +kernel⟩

theorem meets_TreeBanks_1 : ∃ (s : State), s.cmdBlocked Key.seatOkRes = false ∧ s.tree.window = none :=
  ⟨((let s : State := calm; let s : State := { s with tree := { s.tree with window := none } }; s)), by decide +kernel⟩

theorem meets_TreeBanks_2 : ∃ (s : State), (s.cmdBlocked Key.seatOkRes = true ∨ s.seatLate = true) :=
  ⟨((let s : State := calm; let s : State := { s with dict := { s.dict with ready := false } }; s)), by decide +kernel⟩

theorem meets_TreeBanks_3 : ∃ (w : Nat × Nat) (s : State), s.cmdBlocked Key.seatOkRes = false ∧ s.tree.window = some w ∧ s.seatLate = false ∧ s.runBank ≤ 1 :=
  ⟨(0, 0), (let w : Nat × Nat := (0, 0); (let s : State := calm; let s : State := { s with tree := { s.tree with window := some w } }; s)), by decide +kernel⟩

theorem meets_TreeBanks_4 : ∃ (b : Fin 2) (s : State), s.cmdBlocked Key.bankWipeRes = false ∧ b.val = s.runBank ∧ s.tree.rom = false :=
  ⟨0, ((let s : State := calm; let s : State := { s with tree := { s.tree with rom := false } }; s)), by decide +kernel⟩

theorem meets_TreeBanks_5 : ∃ (b : Fin 2) (s : State), s.cmdBlocked Key.bankWipeRes = false ∧ b.val ≠ s.runBank ∧ s.tree.window = none ∧ s.treeOpen = false :=
  ⟨1, ((let s : State := calm; let s : State := { s with tree := { s.tree with window := none } }; s)), by decide +kernel⟩

theorem meets_TreeBanks_6 : ∃ (b : Nat) (s : State), s.tree.wiping = some b :=
  ⟨0, (let b : Nat := 0; (let s : State := calm; let s : State := { s with tree := { s.tree with wiping := some b } }; s)), by decide +kernel⟩

theorem meets_TreeBanks_7 : ∃ (s : State), s.tree.wiping = none :=
  ⟨((let s : State := calm; let s : State := { s with tree := { s.tree with wiping := none } }; s)), by decide +kernel⟩

theorem meets_TreeBanks_8 : ∃ (c : Nat) (s : State), s.cmdBlocked Key.treeSwitchRes = false ∧ s.switchBad = some c :=
  ⟨3, ((let s : State := calm; let s : State := { s with tree := { s.tree with window := some (0, 60) } }; s)), by decide +kernel⟩

theorem meets_TreeBanks_9 : ∃ (s : State), s.cmdBlocked Key.treeSwitchRes = false ∧ s.switchBad = none ∧ s.runBank ≤ 1 ∧ (s.bank s.runBank).st ≠ .armed :=
  ⟨((let s : State := calm; let s : State := { s with tree := { s.tree with imageKey := imageKey1, b := ⟨.staged, 0, image1⟩ } }; s)), by decide +kernel⟩

theorem meets_TreeBanks_10 : ∃ (dt : Nat) (b : Nat) (s : State), (s.advance dt).seatExpired = true ∧ b ≤ 1 ∧ (s.bank b).st = .trial ∧ s.tree.a.st ≠ .armed ∧ s.tree.b.st ≠ .armed :=
  ⟨0, 0, (let b : Nat := 0; (let s : State := calm; let s : State := (let x_ := s.bank b; s.setBank b ({ x_ with st := .trial })); let s : State := { s with tree := { s.tree with window := some (0, 0) } }; s)), by decide +kernel⟩

theorem meets_TreeBanks_11 : ∃ (dt : Nat) (s : State), (s.advance dt).seatExpired = false :=
  ⟨0, ((let s : State := calm; s)), by decide +kernel⟩

theorem meets_TimeKeeping_1 : ∃ (delta : Int) (s : State), s.cmdBlocked Key.timeStepRes = false ∧ (s.clock.state = 1 ∨ s.clock.state = 2) ∧ s.dict.txn = none :=
  ⟨0, ((let s : State := calm; let s : State := { s with clock := { s.clock with state := 1 } }; let s : State := { s with dict := { s.dict with txn := none } }; s)), by decide +kernel⟩

theorem meets_TimeKeeping_2 : ∃ (delta : Int) (s : State), s.cmdBlocked Key.timeStepRes = false ∧ (s.clock.state = 0 ∨ s.clock.state = 3) ∧ s.dict.txn = none ∧ s.rd Key.timeJumpLimitNs < delta.natAbs :=
  ⟨2 ^ 60, ((let s : State := calm; let s : State := { s with clock := { s.clock with state := 0 } }; let s : State := { s with dict := { s.dict with txn := none } }; s)), by decide +kernel⟩

theorem meets_TimeKeeping_3 : ∃ (delta : Int) (s : State), s.cmdBlocked Key.timeStepRes = false ∧ (s.clock.state = 0 ∨ s.clock.state = 3) ∧ s.dict.txn = none ∧ delta.natAbs ≤ s.rd Key.timeJumpLimitNs ∧ 0 ≤ (s.nowNs : Int) + delta ∧ (s.nowNs : Int) + delta < 2 ^ 48 * 1000000000 :=
  ⟨0, ((let s : State := calm; let s : State := { s with clock := { s.clock with state := 0 } }; let s : State := { s with dict := { s.dict with txn := none } }; s)), by decide +kernel⟩

theorem meets_TimeKeeping_4 : ∃ (sec : Fin 281474976710656) (ns : Fin 1000000000) (s : State), s.cmdBlocked Key.timeSetRes = false ∧ s.isHead = true ∧ s.dict.txn = none :=
  ⟨0, 0, ((let s : State := calm; let s : State := s.wr Key.chainRole 1; let s : State := { s with dict := { s.dict with txn := none } }; s)), by decide +kernel⟩

theorem meets_TimeKeeping_5 : ∃ (sec : Fin 281474976710656) (ns : Fin 1000000000) (s : State), s.isHead = false ∧ s.dict.txn = none :=
  ⟨0, 0, ((let s : State := calm; let s : State := s.wr Key.chainRole 0; let s : State := { s with dict := { s.dict with txn := none } }; s)), by decide +kernel⟩

theorem meets_TimeKeeping_6 : ∃ (x : PtpExchange) (dt : Nat) (s : State), (s.isHead = false ∨ s.rd Key.timeSource ≠ 1 ∨ s.ptpPort = none) ∧ s.dict.txn = none :=
  ⟨zPtpExchange, 0, ((let s : State := calm; let s : State := s.wr Key.chainRole 0; let s : State := { s with dict := { s.dict with txn := none } }; s)), by decide +kernel⟩

theorem meets_TimeKeeping_7 : ∃ (x : PtpExchange) (off : Int) (dt : Nat) (s : State), s.isHead = true ∧ s.rd Key.timeSource = 1 ∧ s.ptpPort ≠ none ∧ s.dict.txn = none ∧ s.clock.state = 2 ∧ off = ptpOffset x ∧ off.natAbs ≤ s.rd Key.timeJumpLimitNs ∧ off.natAbs ≤ 1000 :=
  ⟨zPtpExchange, 0, 0, ((let s : State := calm; let s : State := s.wr Key.chainRole 1; let s : State := s.wr Key.timeSource (1); let s : State := { s with dict := { s.dict with txn := none } }; let s : State := { s with clock := { s.clock with state := 2 } }; let s : State := { s with har := { s.har with eth := #v[true, true] } }; let s : State := s.wr (Key.ptpPorts) (1); s)), by decide +kernel⟩

theorem meets_TimeKeeping_8 : ∃ (x : PtpExchange) (off : Int) (dt : Nat) (s : State), s.isHead = true ∧ s.rd Key.timeSource = 1 ∧ s.ptpPort ≠ none ∧ s.dict.txn = none ∧ s.clock.state = 2 ∧ off = ptpOffset x ∧ s.rd Key.timeJumpLimitNs < off.natAbs :=
  ⟨{ zPtpExchange with t1 := 2 ^ 60 }, (let x : Sys2Proof.PtpExchange := { zPtpExchange with t1 := 2 ^ 60 }; ptpOffset x), 0, ((let s : State := calm; let s : State := s.wr Key.chainRole 1; let s : State := s.wr Key.timeSource (1); let s : State := { s with dict := { s.dict with txn := none } }; let s : State := { s with clock := { s.clock with state := 2 } }; let s : State := { s with har := { s.har with eth := #v[true, true] } }; let s : State := s.wr (Key.ptpPorts) (1); s)), by decide +kernel⟩

theorem meets_TimeKeeping_9 : ∃ (dt : Nat) (s : State), s.clock.state = 1 ∧ s.clock.lastSample + us 250000 ≤ (s.advance dt).elapsed :=
  ⟨250000000000, ((let s : State := calm; let s : State := { s with clock := { s.clock with state := 1 } }; s)), by decide +kernel⟩

theorem meets_TimeKeeping_10 : ∃ (dt : Nat) (s : State), s.clock.state = 2 ∧ s.clock.lastSample + 4 * us s.clock.syncUs ≤ (s.advance dt).elapsed :=
  ⟨250000000000, ((let s : State := calm; let s : State := { s with clock := { s.clock with state := 2 } }; s)), by decide +kernel⟩

theorem meets_TimeKeeping_11 : ∃ (dt : Nat) (s : State), (s.clock.state = 0 ∨ s.clock.state = 3) :=
  ⟨0, ((let s : State := calm; let s : State := { s with clock := { s.clock with state := 0 } }; s)), by decide +kernel⟩

theorem meets_TimeKeeping_12 : ∃ (dt : Nat) (s : State), (s.clock.state = 1 ∨ s.clock.state = 2) ∧ s.dict.ready = true ∧ carries s.clock s.increment dt = true :=
  ⟨10, ((let s : State := calm; let s : State := { s with clock := { s.clock with state := 1 } }; let s : State := { s with dict := { s.dict with ready := true } }; let s : State := { s with clock := { s.clock with ns := 999999999, frac := 2 ^ 28 - 1 } }; s)), by decide +kernel⟩

theorem meets_TimeKeeping_13 : ∃ (dt : Nat) (s : State), carries s.clock s.increment dt = false :=
  ⟨0, ((let s : State := calm; s)), by decide +kernel⟩

theorem meets_PulseOutputs_1 : ∃ (k : Fin 4) (s : State), (s.pulse k).fallAt = none ∧ s.nowNs + 2000 ≤ timeNs (rawToTime (s.rd (Key.tpoStart k))) :=
  ⟨0, (let k : Fin 4 := 0; (let s : State := calm; let s : State := (let x_ := s.pulse k; s.setPulse k ({ x_ with fallAt := none })); let s : State := s.wr (Key.tpoStart k) (2 ^ 60); s)), by decide +kernel⟩

theorem meets_PulseOutputs_2 : ∃ (k : Fin 4) (s : State), (s.pulse k).fallAt = none ∧ timeNs (rawToTime (s.rd (Key.tpoStart k))) < s.nowNs + 2000 :=
  ⟨0, (let k : Fin 4 := 0; (let s : State := calm; let s : State := (let x_ := s.pulse k; s.setPulse k ({ x_ with fallAt := none })); s)), by decide +kernel⟩

theorem meets_PulseOutputs_4 : ∃ (k : Fin 4) (m : Fin 3) (s : State), m.val ≠ 0 ∧ (s.pulse k).fallAt ≠ none :=
  ⟨0, 1, (let k : Fin 4 := 0; (let s : State := calm; let s : State := s.setPulse k { s.pulse k with fallAt := some 5 }; s)), by decide +kernel⟩

theorem meets_PulseOutputs_5 : ∃ (k : Fin 4) (start : Time80) (per : Nat) (wid : Nat) (s : State), start.ns < 1000000000 ∧ start.sec < 2 ^ 48 ∧ 1000 ≤ per ∧ per ≤ 1000000000 ∧ 8 ≤ wid ∧ wid ≤ per - 8 ∧ s.rd (Key.tpoMode k) = 0 :=
  ⟨0, zTime80, 1000, 8, (let k : Fin 4 := 0; (let s : State := calm; let s : State := s.wr (Key.tpoMode k) (0); s)), by decide +kernel⟩

theorem meets_PulseOutputs_6 : ∃ (k : Fin 4) (dt : Nat) (p : PulseSet) (at_ : Nat) (s : State), (s.pulse k).run = some p ∧ (s.pulse k).next = some at_ ∧ (s.pulse k).fallAt = none ∧ at_ ≤ (s.advance dt).nowNs :=
  ⟨0, 250000000000, zPulseSet, 0, (let k : Fin 4 := 0; let p : Sys2Proof.Machine.PulseSet := zPulseSet; let at_ : Nat := 0; (let s : State := calm; let s : State := (let x_ := s.pulse k; s.setPulse k ({ x_ with run := some p })); let s : State := (let x_ := s.pulse k; s.setPulse k ({ x_ with next := some at_ })); let s : State := (let x_ := s.pulse k; s.setPulse k ({ x_ with fallAt := none })); s)), by decide +kernel⟩

theorem meets_PulseOutputs_7 : ∃ (k : Fin 4) (dt : Nat) (at_ : Nat) (s : State), (s.pulse k).next = some at_ ∧ (s.advance dt).nowNs < at_ :=
  ⟨0, 0, 2 ^ 60, (let k : Fin 4 := 0; let at_ : Nat := 2 ^ 60; (let s : State := calm; let s : State := (let x_ := s.pulse k; s.setPulse k ({ x_ with next := some at_ })); s)), by decide +kernel⟩

theorem meets_PulseOutputs_8 : ∃ (k : Fin 4) (dt : Nat) (f : Nat) (p : PulseSet) (s : State), (s.pulse k).fallAt = some f ∧ f ≤ (s.advance dt).elapsed ∧ (s.pulse k).run = some p ∧ p.mode = 2 ∧ (s.pulse k).arming = false ∧ (s.pulse k).waiting = false :=
  ⟨0, 250000000000, 0, { zPulseSet with mode := 2 }, (let k : Fin 4 := 0; let f : Nat := 0; let p : Sys2Proof.Machine.PulseSet := { zPulseSet with mode := 2 }; (let s : State := calm; let s : State := (let x_ := s.pulse k; s.setPulse k ({ x_ with fallAt := some f })); let s : State := (let x_ := s.pulse k; s.setPulse k ({ x_ with run := some p })); let s : State := (let x_ := s.pulse k; s.setPulse k ({ x_ with arming := false })); let s : State := (let x_ := s.pulse k; s.setPulse k ({ x_ with waiting := false })); s)), by decide +kernel⟩

theorem meets_PulseOutputs_9 : ∃ (k : Fin 4) (dt : Nat) (f : Nat) (s : State), (s.pulse k).fallAt = some f ∧ (s.advance dt).elapsed < f :=
  ⟨0, 0, 2 ^ 60, (let k : Fin 4 := 0; let f : Nat := 2 ^ 60; (let s : State := calm; let s : State := (let x_ := s.pulse k; s.setPulse k ({ x_ with fallAt := some f })); s)), by decide +kernel⟩

theorem meets_AluOfRegisters_1 : ∃ (r : CoreRun) (rd : Fin 32) (ra : Fin 32) (rb : Fin 32) (s : State), s.Fetches r.n :=
  ⟨⟨12, 0⟩, 0, 0, 0, ((let s : State := coreOn 12; s)), by decide +kernel⟩

theorem meets_AluOfImmediates_1 : ∃ (r : CoreRun) (rd : Fin 32) (ra : Fin 32) (imm : BitVec 16) (k : BitVec 5) (s : State), s.Fetches r.n :=
  ⟨⟨12, 0⟩, 0, 0, 0, 0, ((let s : State := coreOn 12; s)), by decide +kernel⟩

theorem meets_OwnMemory_1 : ∃ (r : CoreRun) (rd : Fin 32) (ra : Fin 32) (imm : BitVec 16) (s : State) (a : Nat), s.Fetches r.n ∧ a = ((s.core r.n).g ra + imm.signExtend 32).toNat ∧ a < 262144 :=
  ⟨⟨12, 0⟩, 0, 0, 0, ((let s : State := coreOn 12; s)), 0, by decide +kernel⟩

theorem meets_OwnMemory_2 : ∃ (r : CoreRun) (rs : Fin 32) (ra : Fin 32) (imm : BitVec 16) (s : State) (a : Nat), s.Fetches r.n ∧ a = ((s.core r.n).g ra + imm.signExtend 32).toNat ∧ a < 262144 :=
  ⟨⟨12, 0⟩, 0, 0, 0, ((let s : State := coreOn 12; s)), 0, by decide +kernel⟩

theorem meets_OwnMemory_3 : ∃ (r : CoreRun) (rd : Fin 32) (ra : Fin 32) (rb : Fin 32) (s : State) (a : Nat), s.Fetches r.n ∧ a = ((s.core r.n).g ra).toNat ∧ a < 262144 ∧ a % 4 = 0 :=
  ⟨⟨12, 0⟩, 0, 0, 0, ((let s : State := coreOn 12; s)), 0, by decide +kernel⟩

theorem meets_BranchesAndJumps_1 : ∃ (r : CoreRun) (ra : Fin 32) (rb : Fin 32) (off : BitVec 16) (s : State), s.Fetches r.n ∧ (s.core r.n).Straight :=
  ⟨⟨12, 0⟩, 0, 0, 0, ((let s : State := coreOn 12; s)), by decide +kernel⟩

theorem meets_BranchesAndJumps_2 : ∃ (r : CoreRun) (ra : Fin 32) (off : BitVec 26) (s : State), s.Fetches r.n ∧ (s.core r.n).Straight :=
  ⟨⟨12, 0⟩, 0, 0, ((let s : State := coreOn 12; s)), by decide +kernel⟩

theorem meets_BranchesAndJumps_3 : ∃ (r : CoreRun) (n : Fin 4) (ra : Fin 32) (count : BitVec 12) (stop : BitVec 12) (s : State), s.Fetches r.n ∧ (s.core r.n).Straight ∧ n.val < 3 ∧ stop ≠ 0#12 :=
  ⟨⟨12, 0⟩, 0, 0, 0, 1, ((let s : State := coreOn 12; s)), by decide +kernel⟩

theorem meets_LoopsAndControl_1 : ∃ (r : CoreRun) (rd : Fin 32) (ra : Fin 32) (rb : Fin 32) (k : Nat) (s : State), s.Fetches r.n ∧ (s.core r.n).late = [] ∧ k < 3 ∧ ((s.core r.n).loop k).le = (s.core r.n).pc ∧ 1 < ((s.core r.n).loop k).lc.toNat ∧ (∀ j, j < 3 → k < j → ((s.core r.n).loop j).lc = 0#32) :=
  ⟨⟨12, 0⟩, 0, 0, 0, 0, (let r : Sys2Proof.CoreRun := ⟨12, 0⟩; (let s : State := coreOn 12; let s : State := (let x_ := s.core r.n; s.setCore r.n ({ x_ with late := [] })); let s : State := s.setCore 12 { s.core 12 with loops := #v[⟨4#32, 0#32, 5#32⟩, HwLoop.off, HwLoop.off] }; s)), by decide +kernel⟩

theorem meets_LoopsAndControl_2 : ∃ (r : CoreRun) (rd : Fin 32) (ra : Fin 32) (rb : Fin 32) (k : Nat) (s : State), s.Fetches r.n ∧ (s.core r.n).late = [] ∧ k < 3 ∧ ((s.core r.n).loop k).le = (s.core r.n).pc ∧ ((s.core r.n).loop k).lc = 1#32 ∧ (∀ j, j < 3 → j ≠ k → ((s.core r.n).loop j).lc = 0#32) :=
  ⟨⟨12, 0⟩, 0, 0, 0, 0, (let r : Sys2Proof.CoreRun := ⟨12, 0⟩; (let s : State := coreOn 12; let s : State := (let x_ := s.core r.n; s.setCore r.n ({ x_ with late := [] })); let s : State := s.setCore 12 { s.core 12 with loops := #v[⟨4#32, 0#32, 1#32⟩, HwLoop.off, HwLoop.off] }; s)), by decide +kernel⟩

theorem meets_LoopsAndControl_3 : ∃ (r : CoreRun) (ra : Fin 32) (rb : Fin 32) (off : BitVec 16) (k : Nat) (s : State), s.Fetches r.n ∧ (s.core r.n).late = [] ∧ k < 3 ∧ ((s.core r.n).loop k).le = (s.core r.n).pc ∧ ((s.core r.n).loop k).lc ≠ 0#32 ∧ (s.core r.n).mode.getLsbD 1 = false ∧ wordAligned (s.core r.n).pc = (s.core r.n).pc :=
  ⟨⟨12, 0⟩, 0, 0, 0, 0, (let r : Sys2Proof.CoreRun := ⟨12, 0⟩; (let s : State := coreOn 12; let s : State := (let x_ := s.core r.n; s.setCore r.n ({ x_ with late := [] })); let s : State := s.setCore 12 { s.core 12 with loops := #v[⟨4#32, 0#32, 1#32⟩, HwLoop.off, HwLoop.off] }; s)), by decide +kernel⟩

theorem meets_LoopsAndControl_4 : ∃ (r : CoreRun) (rd : Fin 32) (s : State), s.Fetches r.n :=
  ⟨⟨12, 0⟩, 0, ((let s : State := coreOn 12; s)), by decide +kernel⟩

theorem meets_LoopsAndControl_5 : ∃ (r : CoreRun) (ra : Fin 32) (s : State), s.Fetches r.n ∧ (s.core r.n).Straight :=
  ⟨⟨12, 0⟩, 0, ((let s : State := coreOn 12; s)), by decide +kernel⟩

theorem meets_LoopsAndControl_6 : ∃ (r : CoreRun) (ra : Fin 32) (k : Fin 9) (s : State), s.Fetches r.n ∧ (s.core r.n).Straight :=
  ⟨⟨12, 0⟩, 0, 0, ((let s : State := coreOn 12; s)), by decide +kernel⟩

theorem meets_LoopsAndControl_7 : ∃ (r : CoreRun) (ra : Fin 32) (k : BitVec 16) (s : State), s.Fetches r.n ∧ 0x19 < k.toNat ∧ (s.core r.n).mode.getLsbD 1 = false ∧ wordAligned (s.core r.n).pc = (s.core r.n).pc :=
  ⟨⟨12, 0⟩, 0, 26, ((let s : State := coreOn 12; s)), by decide +kernel⟩

theorem meets_CoreExceptions_1 : ∃ (r : CoreRun) (imm : BitVec 16) (s : State), s.Fetches r.n ∧ (s.core r.n).mode.getLsbD 1 = false ∧ wordAligned (s.core r.n).pc = (s.core r.n).pc :=
  ⟨⟨12, 0⟩, 0, ((let s : State := coreOn 12; s)), by decide +kernel⟩

theorem meets_CoreExceptions_2 : ∃ (r : CoreRun) (word : BitVec 32) (s : State), s.Fetches r.n ∧ (s.core r.n).mode.getLsbD 1 = false ∧ wordAligned (s.core r.n).pc = (s.core r.n).pc ∧ awlReserved word = true :=
  ⟨⟨12, 0⟩, 0, ((let s : State := coreOn 12; s)), by decide +kernel⟩

theorem meets_CoreExceptions_3 : ∃ (r : CoreRun) (s : State), s.coreRuns r.n = true ∧ fetchable r.n (s.core r.n).pc = false ∧ (s.core r.n).mode.getLsbD 1 = false ∧ wordAligned (s.core r.n).pc = (s.core r.n).pc :=
  ⟨⟨12, 0⟩, ((let s : State := coreOn 12; let s : State := s.setCore 12 { s.core 12 with pc := 0x20000000#32 }; s)), by decide +kernel⟩

theorem meets_CoreExceptions_4 : ∃ (r : CoreRun) (rd : Fin 32) (ra : Fin 32) (imm : BitVec 16) (a : Word) (s : State), s.Fetches r.n ∧ (s.core r.n).mode.getLsbD 1 = false ∧ wordAligned (s.core r.n).pc = (s.core r.n).pc ∧ a = (s.core r.n).g ra + imm.signExtend 32 :=
  ⟨⟨12, 0⟩, 0, 0, 0, 0, ((let s : State := coreOn 12; s)), by decide +kernel⟩

theorem meets_CoreExceptions_5 : ∃ (n : Fin 16) (s : State), s.coreState n = 1 ∧ s.coreIsland n = true ∧ (s.core n).mode = 1#2 ∧ s.interrupted n = true ∧ wordAligned (s.core n).pc = (s.core n).pc :=
  ⟨0, (let n : Fin 16 := 0; (let s : State := calm; let s : State := s.wr (Key.coreState n) 1; let s : State := (let x_ := s.core n; s.setCore n ({ x_ with mode := 1#2 })); let s : State := { s with buckle := { s.buckle with pend := [(0, 1)], mask := [(0, 1)] } }; s)), by decide +kernel⟩

theorem meets_CoreExceptions_6 : ∃ (n : Fin 16) (s : State), ((s.core n).mode ≠ 1#2 ∨ s.interrupted n = false) :=
  ⟨0, ((let s : State := calm; s)), by decide +kernel⟩

theorem meets_CoreExceptions_7 : ∃ (r : CoreRun) (s : State), s.Fetches r.n ∧ (s.core r.n).Straight :=
  ⟨⟨12, 0⟩, ((let s : State := coreOn 12; s)), by decide +kernel⟩

theorem meets_CoreExceptions_8 : ∃ (r : CoreRun) (imm : BitVec 16) (s : State), s.Fetches r.n ∧ 12 ≤ r.n.val ∧ (s.core r.n).mode.getLsbD 1 = true :=
  ⟨⟨12, 0⟩, 0, ((let s : State := coreOn 12; let s : State := s.setCore 12 { s.core 12 with mode := 2#2 }; s)), by decide +kernel⟩

theorem meets_CoreRunStates_1 : ∃ (r : CoreRun) (s : State), s.Fetches r.n ∧ (s.core r.n).Straight :=
  ⟨⟨12, 0⟩, ((let s : State := coreOn 12; s)), by decide +kernel⟩

theorem meets_CoreRunStates_2 : ∃ (r : CoreRun) (s : State), s.coreState r.n = 1 ∧ s.coreIsland r.n = true ∧ (s.core r.n).waiting = true ∧ s.pend r.n ≠ 0 :=
  ⟨⟨12, 0⟩, (let r : Sys2Proof.CoreRun := ⟨12, 0⟩; (let s : State := calm; let s : State := s.wr (Key.coreState r.n) 1; let s : State := (let x_ := s.core r.n; s.setCore r.n ({ x_ with waiting := true })); let s : State := { s with power := { s.power with coreIslands := Vector.ofFn (fun _ => ⟨.on, 0, none⟩) }, buckle := { s.buckle with pend := [(12, 1)] } }; s)), by decide +kernel⟩

theorem meets_CoreRunStates_3 : ∃ (r : CoreRun) (s : State), ((s.core r.n).waiting = false ∨ s.pend r.n = 0) :=
  ⟨⟨12, 0⟩, (let r : Sys2Proof.CoreRun := ⟨12, 0⟩; (let s : State := calm; let s : State := (let x_ := s.core r.n; s.setCore r.n ({ x_ with waiting := false })); s)), by decide +kernel⟩

theorem meets_CoreRunStates_4 : ∃ (k : Fin 4) (i : ExtImage) (s : State), s.cmdBlocked (Key.coreRunRes (12 + k)) = false ∧ s.coreState (12 + k) ≠ 1 ∧ (s.core (12 + k)).image = some i ∧ ((s.coreIsl (12 + k)).phase = .on ∨ ((s.coreIsl (12 + k)).phase = .off ∧ (s.coreIsl (12 + k)).since + us 10 ≤ s.elapsed)) :=
  ⟨0, zExtImage, (let k : Fin 4 := 0; let i : Sys2Proof.Machine.ExtImage := zExtImage; (let s : State := calm; let s : State := (let x_ := s.core (12 + k); s.setCore (12 + k) ({ x_ with image := some i })); let s : State := { s with power := { s.power with coreIslands := Vector.ofFn (fun _ => ⟨.on, 0, none⟩) } }; s)), by decide +kernel⟩

theorem meets_CoreRunStates_5 : ∃ (k : Fin 4) (i : ExtImage) (s : State), s.cmdBlocked (Key.coreRunRes (12 + k)) = false ∧ s.coreState (12 + k) ≠ 1 ∧ (s.core (12 + k)).image = some i ∧ (s.coreIsl (12 + k)).phase = .off ∧ s.elapsed < (s.coreIsl (12 + k)).since + us 10 :=
  ⟨0, zExtImage, (let k : Fin 4 := 0; let i : Sys2Proof.Machine.ExtImage := zExtImage; (let s : State := calm; let s : State := (let x_ := s.core (12 + k); s.setCore (12 + k) ({ x_ with image := some i })); s)), by decide +kernel⟩

theorem meets_CoreRunStates_6 : ∃ (k : Fin 4) (s : State), s.cmdBlocked (Key.coreRunRes (12 + k)) = false ∧ s.coreState (12 + k) ≠ 1 ∧ (s.core (12 + k)).image = none :=
  ⟨0, (let k : Fin 4 := 0; (let s : State := calm; let s : State := (let x_ := s.core (12 + k); s.setCore (12 + k) ({ x_ with image := none })); s)), by decide +kernel⟩

theorem meets_CoreRunStates_7 : ∃ (k : Fin 4) (s : State), s.cmdBlocked (Key.coreRunRes (12 + k)) = false ∧ s.coreState (12 + k) = 1 :=
  ⟨0, (let k : Fin 4 := 0; (let s : State := calm; let s : State := s.wr (Key.coreState (12 + k)) 1; s)), by decide +kernel⟩

theorem meets_CoreRunStates_8 : ∃ (k : Fin 4) (s : State), s.cmdBlocked (Key.coreRunRes (12 + k)) = false ∧ (s.coreState (12 + k) = 1 ∨ s.coreState (12 + k) = 3) :=
  ⟨0, (let k : Fin 4 := 0; (let s : State := calm; let s : State := s.wr (Key.coreState (12 + k)) 1; s)), by decide +kernel⟩

theorem meets_CoreRunStates_9 : ∃ (k : Fin 4) (s : State), s.cmdBlocked (Key.coreRunRes (12 + k)) = true :=
  ⟨0, ((let s : State := calm; let s : State := { s with dict := { s.dict with ready := false } }; s)), by decide +kernel⟩

theorem meets_BuckleSources_1 : ∃ (k : Fin 256) (s : State), s.buckle.edges.contains k.val = true ∧ srcReserved k = false ∧ srcLevel k = false :=
  ⟨0, ((let s : State := calm; let s : State := { s with buckle := { s.buckle with edges := [0] } }; s)), by decide +kernel⟩

theorem meets_BuckleSources_2 : ∃ (k : Fin 256) (n : Nat) (s : State), s.buckle.edges.contains k.val = true ∧ srcReserved k = false ∧ srcLevel k = false ∧ n < 16 ∧ s.takesSource k n = true ∧ KMap.find s.buckle.last k = none ∧ (∀ m, m < n → s.takesSource k m = false) :=
  ⟨0, 0, ((let s : State := calm; let s : State := { s with buckle := { s.buckle with edges := [0] } }; let s : State := s.wr (Key.srcTargets 0) (1); let s : State := s.wr (Key.coreState 0) (1); s)), by decide +kernel⟩

theorem meets_BuckleSources_3 : ∃ (k : Fin 256) (n : Nat) (s : State), s.buckle.edges.contains k.val = true ∧ srcReserved k = false ∧ srcLevel k = false ∧ n < 15 ∧ KMap.find s.buckle.last k = some n ∧ s.takesSource k (n + 1) = true :=
  ⟨0, 0, (let k : Fin 256 := 0; let n : Nat := 0; (let s : State := calm; let s : State := { s with buckle := { s.buckle with last := KMap.put s.buckle.last k n } }; let s : State := { s with buckle := { s.buckle with edges := [0], last := [(0, 0)] } }; let s : State := s.wr (Key.srcTargets 0) (2); let s : State := s.wr (Key.coreState 1) (1); s)), by decide +kernel⟩

theorem meets_BuckleSources_4 : ∃ (k : Fin 256) (s : State), s.buckle.edges.contains k.val = false :=
  ⟨0, ((let s : State := calm; s)), by decide +kernel⟩

theorem meets_BuckleSources_5 : ∃ (k : Fin 256) (n : Nat) (s : State), srcLevel k = true ∧ s.levelHolds k = true ∧ s.pendingAnywhere k = false ∧ n < 16 ∧ s.takesSource k n = true ∧ (∀ m, m < 16 → m ≠ n → s.takesSource k m = false) :=
  ⟨3, 0, ((let s : State := calm; let s : State := s.wr (Key.cinchStage) (1); let s : State := s.wr (Key.srcTargets 3) (1); let s : State := s.wr (Key.coreState 0) (1); s)), by decide +kernel⟩

theorem meets_BuckleSources_6 : ∃ (k : Fin 256) (s : State), (s.levelHolds k = false ∨ s.pendingAnywhere k = true) :=
  ⟨0, ((let s : State := calm; s)), by decide +kernel⟩

theorem meets_BuckleSources_7 : ∃ (n : Fin 16) (w : Fin 8) (v : BitVec 32) (s : State), s.coreRuns n = true :=
  ⟨0, 0, 0, ((let s : State := calm; s)), by decide +kernel⟩

theorem meets_BuckleSources_8 : ∃ (n : Fin 16) (v : BitVec 8) (s : State), s.coreRuns n = true :=
  ⟨0, 0, ((let s : State := calm; s)), by decide +kernel⟩

theorem meets_BuckleSources_9 : ∃ (n : Fin 16) (v : Fin 8) (s : State), s.coreRuns n = true ∧ n.val < 12 ∧ (s.cause (72 + v)).1 = true :=
  ⟨0, 0, ((let s : State := coreOn 0; let s : State := { s with host := { s.host with causes := [(72, (true, 0))] } }; s)), by decide +kernel⟩

theorem meets_BuckleSources_10 : ∃ (n : Fin 16) (v : Fin 8) (s : State), 12 ≤ n.val :=
  ⟨12, 0, ((let s : State := calm; s)), by decide +kernel⟩

theorem meets_BuckleSources_11 : ∃ (v : BitVec 8) (s : State), s.host.linkUp = true ∧ s.pwr ≠ 2 :=
  ⟨0, ((let s : State := calm; let s : State := { s with host := { s.host with linkUp := true } }; s)), by decide +kernel⟩

theorem meets_HostRings_1 : ∃ (n : Fin 32) (v : BitVec 12) (s : State), s.host.linkUp = true ∧ (s.rxRing n).size ≠ 0 :=
  ⟨0, 0, (let n : Fin 32 := 0; (let s : State := calm; let s : State := { s with host := { s.host with linkUp := true } }; let s : State := (let x_ := s.rxRing n; s.setRxRing n ({ x_ with size := 1 })); s)), by decide +kernel⟩

theorem meets_HostRings_2 : ∃ (n : Fin 32) (v : BitVec 12) (s : State), s.host.linkUp = true ∧ (s.txRing n).size ≠ 0 :=
  ⟨0, 0, (let n : Fin 32 := 0; (let s : State := calm; let s : State := { s with host := { s.host with linkUp := true } }; let s : State := (let x_ := s.txRing n; s.setTxRing n ({ x_ with size := 1 })); s)), by decide +kernel⟩

theorem meets_HostRings_3 : ∃ (n : Fin 32) (k : BitVec 4) (s : State), s.host.linkUp = true ∧ 3 ≤ k.toNat ∧ k.toNat ≤ 12 ∧ (s.rxRing n).size = 0 :=
  ⟨0, 3, (let n : Fin 32 := 0; (let s : State := calm; let s : State := { s with host := { s.host with linkUp := true } }; let s : State := (let x_ := s.rxRing n; s.setRxRing n ({ x_ with size := 0 })); s)), by decide +kernel⟩

theorem meets_HostRings_4 : ∃ (n : Fin 32) (k : BitVec 4) (s : State), s.host.linkUp = true ∧ 3 ≤ k.toNat ∧ k.toNat ≤ 12 ∧ (s.txRing n).size = 0 :=
  ⟨0, 3, (let n : Fin 32 := 0; (let s : State := calm; let s : State := { s with host := { s.host with linkUp := true } }; let s : State := (let x_ := s.txRing n; s.setTxRing n ({ x_ with size := 0 })); s)), by decide +kernel⟩

theorem meets_HostRings_5 : ∃ (n : Fin 32) (s : State), s.host.linkUp = true :=
  ⟨0, ((let s : State := calm; let s : State := { s with host := { s.host with linkUp := true } }; s)), by decide +kernel⟩

theorem meets_HostRings_6 : ∃ (ds : List RxDesc) (dt : Nat) (f : HFrame) (s : State), KMap.find s.har.leaving 8 = some f ∧ (s.rxRing (rxRingOf f)).size ≠ 0 ∧ (s.rxRing (rxRingOf f)).head = (s.rxRing (rxRingOf f)).tail :=
  ⟨[], 0, zHFrame, (let f : Sys2Proof.Machine.HFrame := zHFrame; (let s : State := calm; let s : State := { s with har := { s.har with leaving := KMap.put s.har.leaving 8 f } }; let s : State := (let x_ := s.rxRing (rxRingOf f); s.setRxRing (rxRingOf f) ({ x_ with size := 1 })); let s : State := (let x_ := s.rxRing (rxRingOf f); s.setRxRing (rxRingOf f) ({ x_ with head := (s.rxRing (rxRingOf f)).tail })); s)), by decide +kernel⟩

theorem meets_HostRings_7 : ∃ (d : RxDesc) (ds : List RxDesc) (dt : Nat) (f : HFrame) (s : State), KMap.find s.har.leaving 8 = some f ∧ f.bytes ≠ [] ∧ f.report = false ∧ rxDescOk d = true ∧ f.bytes.length ≤ d.len ∧ f.cls < 8 ∧ (s.rxRing (rxRingOf f)).size ≠ 0 ∧ (s.rxRing (rxRingOf f)).head < 2 ^ (s.rxRing (rxRingOf f)).size ∧ (s.rxRing (rxRingOf f)).tail < 2 ^ (s.rxRing (rxRingOf f)).size ∧ (s.rxRing (rxRingOf f)).head ≠ (s.rxRing (rxRingOf f)).tail :=
  ⟨⟨0, 256⟩, [], 0, { zHFrame with bytes := [1#8], cls := 0, report := false, input := 4 }, (let f : Sys2Proof.Machine.HFrame := { zHFrame with bytes := [1#8], cls := 0, report := false, input := 4 }; (let s : State := calm; let s : State := { s with har := { s.har with leaving := KMap.put s.har.leaving 8 f } }; let s : State := (let x_ := s.rxRing (rxRingOf f); s.setRxRing (rxRingOf f) ({ x_ with size := 1 })); let s : State := s.setRxRing (rxRingOf f) { s.rxRing (rxRingOf f) with size := 5, head := 0, tail := 1 }; s)), by decide +kernel⟩

theorem meets_HostRings_8 : ∃ (n : Fin 32) (d : BitVec 512) (ds : List (BitVec 512)) (data : Bytes) (dt : Nat) (s : State), (s.txRing n).state = 1 ∧ (s.txRing n).size ≠ 0 ∧ s.inputClosed 8 = false ∧ s.host.linkUp = true ∧ s.txTurn n = true ∧ (s.txRing n).given = 1 ∧ txLast d = true ∧ (txFirst d = false ∨ txRanges d = false ∨ txField d 432 16 ≠ txField d 416 16) :=
  ⟨0, BitVec.ofNat 512 (2 ^ 414), [], [], 0, (let n : Fin 32 := 0; (let s : State := calm; let s : State := (let x_ := s.txRing n; s.setTxRing n ({ x_ with state := 1 })); let s : State := (let x_ := s.txRing n; s.setTxRing n ({ x_ with size := 1 })); let s : State := { s with host := { s.host with linkUp := true } }; let s : State := s.setTxRing 0 { s.txRing 0 with state := 1, size := 5, head := 0, tail := 1 }; s)), by decide +kernel⟩

theorem meets_HostRings_9 : ∃ (n : Fin 32) (ds : List (BitVec 512)) (data : Bytes) (dt : Nat) (s : State), (s.txRing n).state = 1 ∧ (s.txRing n).size ≠ 0 ∧ s.inputClosed 8 = false ∧ s.host.linkUp = true ∧ s.txTurn n = true ∧ txSpan (s.txRing n).given ds = none :=
  ⟨0, [], [], 0, (let n : Fin 32 := 0; (let s : State := calm; let s : State := (let x_ := s.txRing n; s.setTxRing n ({ x_ with state := 1 })); let s : State := (let x_ := s.txRing n; s.setTxRing n ({ x_ with size := 1 })); let s : State := { s with host := { s.host with linkUp := true } }; s)), by decide +kernel⟩

theorem meets_HostRings_10 : ∃ (n : Fin 32) (ds : List (BitVec 512)) (data : Bytes) (dt : Nat) (s : State), ((s.txRing n).state ≠ 1 ∨ (s.txRing n).size = 0 ∨ s.txTurn n = false) :=
  ⟨0, [], [], 0, ((let s : State := calm; s)), by decide +kernel⟩

theorem meets_HostRings_11 : ∃ (n : Fin 32) (addr : BitVec 64) (s : State), (s.txRing n).state = 1 :=
  ⟨0, 0, (let n : Fin 32 := 0; (let s : State := calm; let s : State := (let x_ := s.txRing n; s.setTxRing n ({ x_ with state := 1 })); s)), by decide +kernel⟩

theorem meets_HostRings_12 : ∃ (n : Fin 32) (addr : BitVec 64) (s : State), (s.rxRing n).size ≠ 0 ∧ KMap.find s.har.leaving 8 = none :=
  ⟨0, 0, (let n : Fin 32 := 0; (let s : State := calm; let s : State := (let x_ := s.rxRing n; s.setRxRing n ({ x_ with size := 1 })); s)), by decide +kernel⟩

theorem meets_HostInterrupts_1 : ∃ (h : Nat) (rep : Nat) (oc : Nat) (x : ReportTo) (rest : List (Nat × Nat × Nat)) (s : State), s.host.reportsDue = (h, rep, oc) :: rest ∧ s.host.linkUp = true ∧ KMap.find s.host.reports h = some x :=
  ⟨0, 0, 0, zReportTo, [], (let h : Nat := 0; let rep : Nat := 0; let oc : Nat := 0; let x : Sys2Proof.Machine.ReportTo := zReportTo; let rest : List (Nat × Nat × Nat) := []; (let s : State := calm; let s : State := { s with host := { s.host with reportsDue := (h, rep, oc) :: rest } }; let s : State := { s with host := { s.host with linkUp := true } }; let s : State := { s with host := { s.host with reports := KMap.put s.host.reports h x } }; s)), by decide +kernel⟩

theorem meets_HostInterrupts_2 : ∃ (s : State), s.host.linkUp = false :=
  ⟨((let s : State := calm; let s : State := { s with host := { s.host with linkUp := false } }; s)), by decide +kernel⟩

theorem meets_HostInterrupts_3 : ∃ (v : Fin 64) (c : Nat) (dt : Nat) (s : State), c ∈ s.host.flags ∧ s.cause c = (true, v.val) ∧ (s.vector v).sentAt = none ∧ s.host.linkUp = true ∧ (s.vector v).masked = false ∧ s.host.functionMask = false :=
  ⟨0, 72, 0, (let v : Fin 64 := 0; (let s : State := calm; let s : State := (let x_ := s.vector v; s.setVector v ({ x_ with sentAt := none })); let s : State := { s with host := { s.host with linkUp := true } }; let s : State := (let x_ := s.vector v; s.setVector v ({ x_ with masked := false })); let s : State := { s with host := { s.host with functionMask := false } }; let s : State := { s with host := { s.host with causes := [(72, (true, 0))], flags := [72] } }; s)), by decide +kernel⟩

theorem meets_HostInterrupts_4 : ∃ (v : Fin 64) (c : Nat) (dt : Nat) (s : State), c ∈ s.host.flags ∧ s.cause c = (true, v.val) ∧ (s.vector v).sentAt = none ∧ s.host.linkUp = true ∧ ((s.vector v).masked = true ∨ s.host.functionMask = true) :=
  ⟨0, 72, 0, (let v : Fin 64 := 0; (let s : State := calm; let s : State := (let x_ := s.vector v; s.setVector v ({ x_ with sentAt := none })); let s : State := { s with host := { s.host with linkUp := true } }; let s : State := (let x_ := s.vector v; s.setVector v ({ x_ with masked := true })); let s : State := { s with host := { s.host with causes := [(72, (true, 0))], flags := [72] } }; s)), by decide +kernel⟩

theorem meets_HostInterrupts_5 : ∃ (v : Fin 64) (a : Nat) (dt : Nat) (s : State), (s.vector v).sentAt = some a ∧ (s.advance dt).elapsed < a + us (s.vector v).holdoff :=
  ⟨0, 2 ^ 60, 0, (let v : Fin 64 := 0; let a : Nat := 2 ^ 60; (let s : State := calm; let s : State := (let x_ := s.vector v; s.setVector v ({ x_ with sentAt := some a })); s)), by decide +kernel⟩

theorem meets_HostInterrupts_6 : ∃ (s : State), s.host.linkUp = false :=
  ⟨((let s : State := calm; let s : State := { s with host := { s.host with linkUp := false } }; s)), by decide +kernel⟩

theorem meets_HostInterrupts_7 : ∃ (s : State), s.host.linkUp = true :=
  ⟨((let s : State := calm; let s : State := { s with host := { s.host with linkUp := true } }; s)), by decide +kernel⟩

theorem meets_HostInterrupts_8 : ∃ (a : Access) (c : Bool) (rest : List (Access × Bool)) (s : State), s.host.mailboxWait = (a, c) :: rest ∧ s.host.mailbox.length < 32 :=
  ⟨zAccess, true, [], (let a : Sys2Proof.Access := zAccess; let c : Bool := true; let rest : List (Sys2Proof.Access × Bool) := []; (let s : State := calm; let s : State := { s with host := { s.host with mailboxWait := (a, c) :: rest } }; s)), by decide +kernel⟩

theorem meets_HostInterrupts_9 : ∃ (s : State), 32 ≤ s.host.mailbox.length :=
  ⟨((let s : State := calm; let s : State := { s with host := { s.host with mailbox := List.replicate 32 ask } }; s)), by decide +kernel⟩

theorem meets_HostInterrupts_10 : ∃ (a : Access) (rest : List Access) (s : State), s.host.linkUp = true ∧ s.host.mailbox = a :: rest :=
  ⟨zAccess, [], (let a : Sys2Proof.Access := zAccess; let rest : List Sys2Proof.Access := []; (let s : State := calm; let s : State := { s with host := { s.host with linkUp := true } }; let s : State := { s with host := { s.host with mailbox := a :: rest } }; s)), by decide +kernel⟩

theorem meets_HostInterrupts_11 : ∃ (len : BitVec 11) (s : State), s.host.linkUp = true ∧ s.pwr ≠ 2 ∧ (len.toNat < 24 ∨ 1048 < len.toNat) :=
  ⟨0, ((let s : State := calm; let s : State := { s with host := { s.host with linkUp := true } }; s)), by decide +kernel⟩

theorem meets_HostInterrupts_12 : ∃ (len : BitVec 11) (l : List Dict.Entry) (s : State), s.host.linkUp = true ∧ s.alive = true ∧ 24 ≤ len.toNat ∧ len.toNat ≤ 1048 ∧ s.Takes .mailbox (s.mailRequest len.toNat) 1 ∧ (s.mailRequest len.toNat).txn = 0 ∧ namedRows (s.mailRequest len.toNat) = .inr l ∧ l.any (fun r => r.ty == .domain) = false :=
  ⟨24, [rowAt 0x1100 8], ((let s : State := calm; let s : State := { s with host := { s.host with linkUp := true } }; let s : State := { s with host := { s.host with mbxReq := accessBytes ask } }; s)), ⟨by decide +kernel, by decide +kernel, by decide +kernel, by decide +kernel, ⟨by decide +kernel, by decide +kernel, by decide +kernel, by decide +kernel, by decide +kernel, by decide +kernel, by decide +kernel, by decide +kernel, by decide +kernel, .inr (by decide +kernel)⟩, by decide +kernel⟩⟩

theorem meets_PortsOfCoresAndHost_1 : ∃ (n : Fin 16) (q : Fin 64) (w : BitVec 32) (s : State), s.coreRuns n = true ∧ strapPortOf n q = true ∧ 1 ≤ w.toNat ∧ w.toNat ≤ 16 ∧ s.strapFull q w.toNat = false ∧ (s.strap q).welt = none :=
  ⟨0, 8, 1, (let q : Fin 64 := 8; (let s : State := coreOn 0; let s : State := (let x_ := s.strap q; s.setStrap q ({ x_ with welt := none })); s)), by decide +kernel⟩

theorem meets_PortsOfCoresAndHost_2 : ∃ (n : Fin 16) (q : Fin 64) (w : BitVec 32) (s : State), strapPortOf n q = false :=
  ⟨0, 0, 0, ((let s : State := calm; s)), by decide +kernel⟩

theorem meets_PortsOfCoresAndHost_3 : ∃ (who : Fin 17) (q : Fin 64) (i : StrapItem) (rest : List StrapItem) (s : State), strapPortOf who q = true ∧ who.val ≠ 16 ∧ s.coreRuns who = true ∧ (s.strap q).head = i :: rest ∧ q.val ≠ 4 :=
  ⟨0, 8, zStrapItem, [], (let q : Fin 64 := 8; let i : Sys2Proof.Machine.StrapItem := zStrapItem; let rest : List Sys2Proof.Machine.StrapItem := []; (let s : State := coreOn 0; let s : State := (let x_ := s.strap q; s.setStrap q ({ x_ with head := i :: rest })); s)), by decide +kernel⟩

theorem meets_PortsOfCoresAndHost_4 : ∃ (who : Fin 17) (q : Fin 64) (s : State), strapPortOf who q = false :=
  ⟨0, 0, ((let s : State := calm; s)), by decide +kernel⟩

theorem meets_PortsOfCoresAndHost_5 : ∃ (s : State), s.host.linkUp = true :=
  ⟨((let s : State := calm; let s : State := { s with host := { s.host with linkUp := true } }; s)), by decide +kernel⟩

theorem meets_PortsOfCoresAndHost_6 : ∃ (s : State), s.host.linkUp = false :=
  ⟨((let s : State := calm; let s : State := { s with host := { s.host with linkUp := false } }; s)), by decide +kernel⟩

theorem meets_PortsOfCoresAndHost_7 : ∃ (k : Nat) (s : State), s.host.linkUp = true ∧ s.pwr ≠ 2 ∧ (s.unwraps [(s.host.nrShort - 0x4000, slice s.host.nrData 0 128)]).badRec [(s.host.nrShort - 0x4000, slice s.host.nrData 0 128)] = some k :=
  ⟨0, ((let s : State := calm; let s : State := { s with host := { s.host with linkUp := true } }; let s : State := { s with host := { s.host with nrData := leBytes 8 9 ++ zeros 120 } }; s)), by decide +kernel⟩

theorem meets_PortsOfCoresAndHost_8 : ∃ (s : State), s.host.linkUp = true ∧ s.pwr ≠ 2 ∧ (s.unwraps [(s.host.nrShort - 0x4000, slice s.host.nrData 0 128)]).badRec [(s.host.nrShort - 0x4000, slice s.host.nrData 0 128)] = none ∧ (s.nrec (s.host.nrShort - 0x4000)).isFree = true ∧ s.girth.recs = [] ∧ (hostRec (slice s.host.nrData 0 128)).isFree = false ∧ (s.nrec (s.host.nrShort - 0x4000)).hw.macState ≠ 6 ∧ (s.nrec (s.host.nrShort - 0x4000)).handover = none :=
  ⟨((let s : State := air; let s : State := { s with host := { s.host with linkUp := true } }; let s : State := { s with girth := { s.girth with recs := [] } }; let s : State := (let x_ := s.nrec (s.host.nrShort - 0x4000); s.setRec (s.host.nrShort - 0x4000) ({ x_ with handover := none })); let s : State := { s with host := { s.host with nrData := (node 9 0x1000 3).host } }; s)), by decide +kernel⟩

theorem meets_PortsOfCoresAndHost_9 : ∃ (n : Fin 16) (len : BitVec 32) (s : State), s.coreRuns n = true ∧ (len.toNat < 24 ∨ 1048 < len.toNat) :=
  ⟨0, 0, ((let s : State := calm; s)), by decide +kernel⟩

theorem meets_PortsOfCoresAndHost_10 : ∃ (n : Fin 16) (len : BitVec 32) (s : State), s.coreRuns n = true ∧ 12 ≤ n.val ∧ 24 ≤ len.toNat ∧ len.toNat ≤ 1048 ∧ (s.coreRequest n len.toNat).op ≠ 1 ∧ (s.coreRequest n len.toNat).op ≠ 8 :=
  ⟨12, 24, ((let s : State := coreOn 12; s)), by decide +kernel⟩

theorem meets_PortsOfCoresAndHost_11 : ∃ (who : Fin 17) (op : BitVec 8) (s : State), who.val ≠ 16 ∧ s.coreRuns who = true ∧ (tpCode op.toNat = false ∨ (s.window who).busy = true) :=
  ⟨0, 0, ((let s : State := calm; s)), by decide +kernel⟩

theorem meets_PortsOfCoresAndHost_12 : ∃ (who : Fin 17) (op : BitVec 8) (s : State), ((who.val ≠ 16 ∧ s.coreRuns who = true) ∨ (who.val = 16 ∧ s.host.linkUp = true)) ∧ tpCode op.toNat = true ∧ (s.window who).busy = false :=
  ⟨16, 1, ((let s : State := calm; let s : State := s.wr (Key.pwrState) (4); let s : State := { s with host := { s.host with linkUp := true } }; s)), by decide +kernel⟩

theorem meets_PortsOfCoresAndHost_13 : ∃ (f : HFrame) (n : Nat) (s : State), KMap.find s.har.leaving 9 = some f ∧ s.hp9Core f = none :=
  ⟨zHFrame, 0, (let f : Sys2Proof.Machine.HFrame := zHFrame; (let s : State := calm; let s : State := { s with har := { s.har with leaving := KMap.put s.har.leaving 9 f } }; s)), by decide +kernel⟩

theorem meets_PortsOfCoresAndHost_14 : ∃ (f : HFrame) (n : Nat) (s : State), KMap.find s.har.leaving 9 = some f ∧ s.hp9Core f = some n ∧ f.report = false ∧ (s.core n).rxRing.size ≠ 0 ∧ (s.core n).rxRing.head ≠ (s.core n).rxRing.tail ∧ descHolds (s.desc n (s.core n).rxRing.headAddr) f.bytes.length = true :=
  ⟨zHFrame, 0, (let f : Sys2Proof.Machine.HFrame := zHFrame; let n : Nat := 0; (let s : State := calm; let s : State := { s with har := { s.har with leaving := KMap.put s.har.leaving 9 f } }; let s : State := (let x_ := s.core n; s.setCore n ({ x_ with rxRing := { x_.rxRing with size := 1 } })); let s : State := s.setCore 0 { s.core 0 with accept := 2 ^ 16 - 1, rxRing := { (s.core 0).rxRing with size := 5, head := 0, tail := 1 } }; s)), by decide +kernel⟩

theorem meets_PortsOfCoresAndHost_15 : ∃ (n : Fin 16) (dt : Nat) (s : State), (s.core n).txRing.size ≠ 0 ∧ (s.core n).txRing.head ≠ (s.core n).txRing.tail ∧ s.inputClosed 9 = false ∧ txDescOk n (s.desc n (s.core n).txRing.headAddr) = false :=
  ⟨0, 0, (let n : Fin 16 := 0; (let s : State := calm; let s : State := (let x_ := s.core n; s.setCore n ({ x_ with txRing := { x_.txRing with size := 1 } })); let s : State := s.setCore 0 { s.core 0 with txRing := { (s.core 0).txRing with size := 5, head := 0, tail := 1 } }; s)), by decide +kernel⟩

theorem meets_PortsOfCoresAndHost_16 : ∃ (n : Fin 16) (dt : Nat) (s : State), (s.core n).txRing.head = (s.core n).txRing.tail :=
  ⟨0, 0, (let n : Fin 16 := 0; (let s : State := calm; let s : State := (let x_ := s.core n; s.setCore n ({ x_ with txRing := { x_.txRing with head := (s.core n).txRing.tail } })); s)), by decide +kernel⟩

theorem meets_RegisterWrites_1 : ∃ (o : BitVec 16) (v : Nat) (s : State), s.host.linkUp = false :=
  ⟨0, 0, ((let s : State := calm; let s : State := { s with host := { s.host with linkUp := false } }; s)), by decide +kernel⟩

theorem meets_RegisterWrites_2 : ∃ (o : BitVec 15) (v : Nat) (s : State), s.host.linkUp = false :=
  ⟨0, 0, ((let s : State := calm; let s : State := { s with host := { s.host with linkUp := false } }; s)), by decide +kernel⟩

theorem meets_RegisterWrites_3 : ∃ (v : Nat) (s : State), s.host.linkUp = true ∧ s.pwr ≠ 2 :=
  ⟨0, ((let s : State := calm; let s : State := { s with host := { s.host with linkUp := true } }; s)), by decide +kernel⟩

theorem meets_RegisterWrites_4 : ∃ (n : Fin 32) (v : Nat) (s : State), s.host.linkUp = true ∧ s.pwr ≠ 2 :=
  ⟨0, 0, ((let s : State := calm; let s : State := { s with host := { s.host with linkUp := true } }; s)), by decide +kernel⟩

theorem meets_RegisterWrites_5 : ∃ (n : Fin 16) (w : Fin 8) (v : Nat) (s : State), s.coreRuns n = true :=
  ⟨0, 0, 0, ((let s : State := calm; s)), by decide +kernel⟩

theorem meets_RegisterWrites_6 : ∃ (i : BitVec 16) (k : BitVec 8) (v : Nat) (r : Dict.Entry) (s : State), rowOf i.toNat k.toNat = some r ∧ s.dict.ready = true ∧ classGroup r = 3 ∧ plainIndex i.toNat = true ∧ r.ty ≠ .domain ∧ (s.check (s.stands []) r i.toNat k.toNat (v % 2 ^ (8 * r.ty.size))).rejected ≠ 0 :=
  ⟨4352, 2, 100, rowAt 4352 2, ((let s : State := calm; let s : State := { s with dict := { s.dict with ready := true } }; s)), by decide +kernel⟩

theorem meets_RegisterWrites_7 : ∃ (i : BitVec 16) (k : BitVec 8) (v : Nat) (r : Dict.Entry) (s : State), rowOf i.toNat k.toNat = some r ∧ s.dict.ready = true ∧ classGroup r = 3 ∧ plainIndex i.toNat = true ∧ r.ty ≠ .domain ∧ (s.check (s.stands []) r i.toNat k.toNat (v % 2 ^ (8 * r.ty.size))).rejected = 0 ∧ (s.check (s.stands []) r i.toNat k.toNat (v % 2 ^ (8 * r.ty.size))).log = [] :=
  ⟨4352, 2, 5, rowAt 4352 2, ((let s : State := calm; let s : State := { s with dict := { s.dict with ready := true } }; s)), by decide +kernel⟩

theorem meets_ReaderCycles_1 : ∃ (dt : Nat) (s : State), s.flag Key.conReader = true ∧ 3 ≤ s.pwr ∧ s.concho.antenna = .quiet ∧ (s.concho.due = true ∨ (s.advance dt).cycleTime = true) :=
  ⟨0, ((let s : State := calm; let s : State := s.wr Key.conReader 1; let s : State := s.wr (Key.pwrState) 3; let s : State := { s with concho := { s.concho with antenna := .quiet } }; let s : State := { s with concho := { s.concho with due := true } }; s)), by decide +kernel⟩

theorem meets_ReaderCycles_2 : ∃ (dt : Nat) (s : State), s.flag Key.conReader = false :=
  ⟨0, ((let s : State := calm; let s : State := s.wr Key.conReader 0; s)), by decide +kernel⟩

theorem meets_ReaderCycles_3 : ∃ (run : Nat) (dt : Nat) (s : State), s.concho.antenna = .listening ∧ s.concho.listenAt + ms 1 ≤ (s.advance dt).elapsed :=
  ⟨0, 250000000000, ((let s : State := calm; let s : State := { s with concho := { s.concho with antenna := .listening } }; s)), by decide +kernel⟩

theorem meets_ReaderCycles_4 : ∃ (x : TagSeen) (run : Nat) (dt : Nat) (s : State), s.concho.antenna = .listening ∧ s.concho.listenAt + ms 1 ≤ (s.advance dt).elapsed ∧ s.protoOn x.proto = true ∧ uidOk x.proto x.uid = true ∧ (s.advance dt).elapsed + guardCycles ≤ ((s.advance dt).advance run).elapsed ∧ s.concho.presence.contains (protoNum x.proto, x.uid) = false ∧ s.concho.presence.length < 256 :=
  ⟨{ zTagSeen with uid := zeros 4 }, us 5100, 250000000000, ((let s : State := calm; let s : State := { s with concho := { s.concho with antenna := .listening } }; s)), by decide +kernel⟩

theorem meets_ReaderCycles_5 : ∃ (x : TagSeen) (run : Nat) (dt : Nat) (s : State), s.concho.antenna = .listening ∧ s.concho.listenAt + ms 1 ≤ (s.advance dt).elapsed ∧ s.protoOn x.proto = true ∧ uidOk x.proto x.uid = true ∧ (s.advance dt).elapsed + guardCycles ≤ ((s.advance dt).advance run).elapsed ∧ s.concho.presence.contains (protoNum x.proto, x.uid) = true :=
  ⟨{ zTagSeen with uid := zeros 4 }, us 5100, 250000000000, ((let s : State := calm; let s : State := { s with concho := { s.concho with antenna := .listening } }; let s : State := { s with concho := { s.concho with presence := [(1, zeros 4)] } }; s)), by decide +kernel⟩

theorem meets_ReaderCycles_6 : ∃ (tags : List TagSeen) (run : Nat) (dt : Nat) (s : State), s.concho.antenna ≠ .listening :=
  ⟨[], 0, 0, ((let s : State := calm; s)), by decide +kernel⟩

theorem meets_ReaderCycles_7 : ∃ (w : TagWait) (dt : Nat) (s : State), (s.advance dt).waitsFor w = true ∧ (s.exchangeOf w s.elapsed).waitUntil ≤ (s.advance dt).elapsed ∧ (s.exchangeOf w s.elapsed).naks < 2 :=
  ⟨⟨.typeA, zeros 4, .type2, 0, 0⟩, us 5100, ((let s : State := calm; let s : State := { s with concho := { s.concho with antenna := .reader } }; s)), by decide +kernel⟩

theorem meets_ReaderCycles_8 : ∃ (w : TagWait) (dt : Nat) (s : State), (s.advance dt).waitsFor w = true ∧ (s.exchangeOf w s.elapsed).waitUntil ≤ (s.advance dt).elapsed ∧ 2 ≤ (s.exchangeOf w s.elapsed).naks ∧ s.concho.presence.length < 256 :=
  ⟨⟨.typeA, zeros 4, .type2, 0, 0⟩, us 5100, (let w : Sys2Proof.TagWait := ⟨.typeA, zeros 4, .type2, 0, 0⟩; (let s : State := calm; let s : State := { s with concho := { s.concho with antenna := .reader, exchange := some ⟨w, 2, 0, 0⟩ } }; s)), by decide +kernel⟩

theorem meets_ReaderCycles_9 : ∃ (w : TagWait) (dt : Nat) (s : State), (s.advance dt).waitsFor w = false :=
  ⟨zTagWait, 0, ((let s : State := calm; s)), by decide +kernel⟩

theorem meets_ReaderCycles_10 : ∃ (w : TagWait) (f : Fin 16) (m : Fin 59) (dt : Nat) (s : State), w.link = .isoDep f ∧ (s.advance dt).waitsFor w = true ∧ (s.advance dt).elapsed ≤ (s.exchangeOf w s.elapsed).waitUntil ∧ (s.exchangeOf w s.elapsed).granted < s.rd Key.conWtxCap :=
  ⟨⟨.typeA, zeros 4, .isoDep 0, 0, 0⟩, 0, 0, us 5100, (let w : Sys2Proof.TagWait := ⟨.typeA, zeros 4, .isoDep 0, 0, 0⟩; (let s : State := calm; let s : State := { s with concho := { s.concho with antenna := .reader, exchange := some ⟨w, 0, 0, 2 ^ 60⟩ } }; s)), by decide +kernel⟩

theorem meets_ReaderCycles_11 : ∃ (w : TagWait) (f : Fin 16) (m : Fin 59) (dt : Nat) (s : State), w.link = .isoDep f ∧ (s.advance dt).waitsFor w = true ∧ (s.advance dt).elapsed ≤ (s.exchangeOf w s.elapsed).waitUntil ∧ s.rd Key.conWtxCap ≤ (s.exchangeOf w s.elapsed).granted :=
  ⟨⟨.typeA, zeros 4, .isoDep 0, 0, 0⟩, 0, 0, us 5100, (let w : Sys2Proof.TagWait := ⟨.typeA, zeros 4, .isoDep 0, 0, 0⟩; (let s : State := calm; let s : State := { s with concho := { s.concho with antenna := .reader, exchange := some ⟨w, 0, 2 ^ 60, 2 ^ 60⟩ } }; s)), by decide +kernel⟩

theorem meets_ReaderCycles_12 : ∃ (w : TagWait) (m : Fin 59) (dt : Nat) (s : State), (∀ f, w.link ≠ .isoDep f) :=
  ⟨⟨.typeA, zeros 4, .type2, 0, 0⟩, 0, 0, ((let s : State := calm; s)), (by intro f h; cases h)⟩

theorem meets_ReaderCycles_13 : ∃ (dt : Nat) (s : State), s.concho.antenna = .reader ∧ s.concho.onAt + guardCycles ≤ (s.advance dt).elapsed ∧ s.concho.field = false ∧ s.concho.read < 64 :=
  ⟨250000000000, ((let s : State := calm; let s : State := { s with concho := { s.concho with antenna := .reader } }; let s : State := { s with concho := { s.concho with field := false } }; s)), by decide +kernel⟩

theorem meets_ReaderCycles_14 : ∃ (dt : Nat) (s : State), s.concho.antenna = .reader ∧ s.concho.onAt + guardCycles ≤ (s.advance dt).elapsed ∧ s.concho.field = false ∧ 64 ≤ s.concho.read :=
  ⟨250000000000, ((let s : State := calm; let s : State := { s with concho := { s.concho with antenna := .reader } }; let s : State := { s with concho := { s.concho with field := false } }; let s : State := { s with concho := { s.concho with read := 64 } }; s)), by decide +kernel⟩

theorem meets_ReaderCycles_15 : ∃ (dt : Nat) (s : State), s.concho.antenna = .reader ∧ s.concho.onAt + guardCycles ≤ (s.advance dt).elapsed ∧ s.concho.field = true ∧ s.concho.read < 64 :=
  ⟨250000000000, ((let s : State := calm; let s : State := { s with concho := { s.concho with antenna := .reader } }; let s : State := { s with concho := { s.concho with field := true } }; s)), by decide +kernel⟩

theorem meets_ReaderCycles_16 : ∃ (tags : List TagSeen) (dt : Nat) (s : State), s.concho.antenna ≠ .reader :=
  ⟨[], 0, ((let s : State := calm; s)), by decide +kernel⟩

theorem meets_ReaderCycles_17 : ∃ (amp : Nat) (phase : Int) (dt : Nat) (s : State), s.flag Key.conLpcd = true ∧ 2 ≤ s.pwr ∧ s.concho.antenna = .quiet ∧ s.concho.measuredAt = none ∧ s.concho.reference = none :=
  ⟨0, 0, 0, ((let s : State := calm; let s : State := s.wr Key.conLpcd 1; let s : State := s.wr (Key.pwrState) 2; let s : State := { s with concho := { s.concho with antenna := .quiet } }; let s : State := { s with concho := { s.concho with measuredAt := none } }; let s : State := { s with concho := { s.concho with reference := none } }; s)), by decide +kernel⟩

theorem meets_ReaderCycles_18 : ∃ (amp : Nat) (phase : Int) (ref : Nat × Int) (dt : Nat) (s : State), s.flag Key.conLpcd = true ∧ s.flag Key.conReader = true ∧ s.concho.antenna = .quiet ∧ s.concho.measuredAt = none ∧ s.concho.reference = some ref ∧ s.concho.refNext = false ∧ 2 < s.pwr ∧ (103 * ref.1 < 100 * amp ∨ 100 * amp < 97 * ref.1 ∨ 200 < phase - ref.2 ∨ 200 < ref.2 - phase) :=
  ⟨2000, 0, (0, 0), 0, (let ref : Nat × Int := (0, 0); (let s : State := calm; let s : State := s.wr Key.conLpcd 1; let s : State := s.wr Key.conReader 1; let s : State := { s with concho := { s.concho with antenna := .quiet } }; let s : State := { s with concho := { s.concho with measuredAt := none } }; let s : State := { s with concho := { s.concho with reference := some ref } }; let s : State := { s with concho := { s.concho with refNext := false } }; s)), by decide +kernel⟩

theorem meets_ReaderCycles_19 : ∃ (amp : Nat) (phase : Int) (dt : Nat) (s : State), s.concho.antenna ≠ .quiet :=
  ⟨0, 0, 0, ((let s : State := calm; let s : State := { s with concho := { s.concho with antenna := .reader } }; s)), by decide +kernel⟩

theorem meets_EmulatedTag_1 : ∃ (dt : Nat) (s : State), s.pwr ≠ 0 ∧ s.concho.antenna = .quiet :=
  ⟨0, ((let s : State := calm; let s : State := s.wr Key.pwrState (1); let s : State := { s with concho := { s.concho with antenna := .quiet } }; s)), by decide +kernel⟩

theorem meets_EmulatedTag_2 : ∃ (dt : Nat) (s : State), s.pwr ≠ 0 ∧ s.concho.antenna = .reader :=
  ⟨0, ((let s : State := calm; let s : State := s.wr Key.pwrState (1); let s : State := { s with concho := { s.concho with antenna := .reader } }; s)), by decide +kernel⟩

theorem meets_EmulatedTag_3 : ∃ (dt : Nat) (s : State), s.pwr = 0 :=
  ⟨0, ((let s : State := calm; let s : State := s.wr Key.pwrState (0); s)), by decide +kernel⟩

theorem meets_EmulatedTag_4 : ∃ (absent : Nat) (dt : Nat) (s : State), ms 50 ≤ absent ∧ s.concho.antenna = .tag :=
  ⟨ms 50, 0, ((let s : State := calm; let s : State := { s with concho := { s.concho with antenna := .tag } }; let s : State := { s with concho := { s.concho with antenna := .tag } }; s)), by decide +kernel⟩

theorem meets_EmulatedTag_5 : ∃ (absent : Nat) (dt : Nat) (s : State), absent < ms 50 :=
  ⟨0, 0, ((let s : State := calm; s)), by decide +kernel⟩

theorem meets_EmulatedTag_6 : ∃ (absent : Nat) (dt : Nat) (s : State), ms 5 ≤ absent ∧ s.concho.antenna = .tag :=
  ⟨ms 5, 0, ((let s : State := calm; let s : State := { s with concho := { s.concho with antenna := .tag } }; s)), by decide +kernel⟩

theorem meets_EmulatedTag_7 : ∃ (absent : Nat) (dt : Nat) (s : State), absent < ms 5 :=
  ⟨0, 0, ((let s : State := calm; s)), by decide +kernel⟩

theorem meets_EmulatedTag_8 : ∃ (dt : Nat) (s : State), s.pins.fdLow = true ∧ s.concho.field = false ∧ s.concho.goneAt + ms 50 ≤ (s.advance dt).elapsed ∧ s.concho.fdAt + ms 10 ≤ (s.advance dt).elapsed :=
  ⟨250000000000, ((let s : State := calm; let s : State := { s with pins := { s.pins with fdLow := true } }; let s : State := { s with concho := { s.concho with field := false } }; s)), by decide +kernel⟩

theorem meets_EmulatedTag_9 : ∃ (dt : Nat) (s : State), (s.advance dt).elapsed < s.concho.fdAt + ms 10 :=
  ⟨0, ((let s : State := calm; s)), by decide +kernel⟩

theorem meets_EmulatedTag_10 : ∃ (file : BitVec 16) (s : State), s.tagAnswers = true :=
  ⟨0, ((let s : State := calm; let s : State := (let s : State := { s with concho := { s.concho with antenna := .tag, field := true } }; s.wr Key.tagEnable 1); s)), by decide +kernel⟩

theorem meets_EmulatedTag_11 : ∃ (file : BitVec 16) (s : State), s.tagAnswers = true :=
  ⟨0, ((let s : State := calm; let s : State := (let s : State := { s with concho := { s.concho with antenna := .tag, field := true } }; s.wr Key.tagEnable 1); s)), by decide +kernel⟩

theorem meets_EmulatedTag_12 : ∃ (off : BitVec 15) (le : Fin 256) (d : Bytes) (s : State), s.tagAnswers = true ∧ le.val < 255 ∧ s.concho.file = 0xE104 ∧ s.concho.shadow = some d ∧ off.toNat < d.length :=
  ⟨0, 0, zeros 8, (let d : Sys2Proof.Bytes := zeros 8; (let s : State := calm; let s : State := (let s : State := { s with concho := { s.concho with antenna := .tag, field := true } }; s.wr Key.tagEnable 1); let s : State := { s with concho := { s.concho with file := 0xE104 } }; let s : State := { s with concho := { s.concho with shadow := some d } }; s)), by decide +kernel⟩

theorem meets_EmulatedTag_13 : ∃ (off : BitVec 15) (data : Bytes) (written : Fin 67) (d : Bytes) (s : State), s.tagAnswers = true ∧ 0 < data.length ∧ data.length ≤ 255 ∧ s.rd Key.tagState = 1 ∧ s.concho.file = 0xE104 ∧ s.concho.shadow = some d ∧ off.toNat + data.length ≤ d.length ∧ off.toNat ≠ 0 :=
  ⟨2, [1#8], 0, zeros 8, (let d : Sys2Proof.Bytes := zeros 8; (let s : State := calm; let s : State := (let s : State := { s with concho := { s.concho with antenna := .tag, field := true } }; s.wr Key.tagEnable 1); let s : State := s.wr Key.tagState (1); let s : State := { s with concho := { s.concho with file := 0xE104 } }; let s : State := { s with concho := { s.concho with shadow := some d } }; s)), by decide +kernel⟩

theorem meets_EmulatedTag_14 : ∃ (data : Bytes) (d : Bytes) (s : State), s.tagAnswers = true ∧ 2 ≤ data.length ∧ data.length ≤ 255 ∧ s.rd Key.tagState = 1 ∧ s.concho.file = 0xE104 ∧ s.concho.shadow = some d ∧ data.length ≤ d.length ∧ beNat (slice (splice d 0 data) 0 2) ≠ 0 ∧ beNat (slice (splice d 0 data) 0 2) ≤ 4096 ∧ ndefOk (slice (splice d 0 data) 2 (beNat (slice (splice d 0 data) 0 2))) = true :=
  ⟨[0#8, 3#8, 0xD0#8, 0#8, 0#8], zeros 8, (let d : Sys2Proof.Bytes := zeros 8; (let s : State := calm; let s : State := (let s : State := { s with concho := { s.concho with antenna := .tag, field := true } }; s.wr Key.tagEnable 1); let s : State := s.wr Key.tagState (1); let s : State := { s with concho := { s.concho with file := 0xE104 } }; let s : State := { s with concho := { s.concho with shadow := some d } }; s)), by decide +kernel⟩

theorem meets_EmulatedTag_15 : ∃ (data : Bytes) (written : Fin 67) (d : Bytes) (s : State), s.tagAnswers = true ∧ 2 ≤ data.length ∧ data.length ≤ 255 ∧ s.rd Key.tagState = 1 ∧ s.concho.file = 0xE104 ∧ s.concho.shadow = some d ∧ data.length ≤ d.length ∧ 4096 < beNat (slice (splice d 0 data) 0 2) :=
  ⟨[0xFF#8, 0xFF#8], 0, zeros 8, (let d : Sys2Proof.Bytes := zeros 8; (let s : State := calm; let s : State := (let s : State := { s with concho := { s.concho with antenna := .tag, field := true } }; s.wr Key.tagEnable 1); let s : State := s.wr Key.tagState (1); let s : State := { s with concho := { s.concho with file := 0xE104 } }; let s : State := { s with concho := { s.concho with shadow := some d } }; s)), by decide +kernel⟩

theorem meets_EmulatedTag_16 : ∃ (off : BitVec 15) (data : Bytes) (written : Fin 67) (s : State), s.tagAnswers = true ∧ 0 < data.length ∧ data.length ≤ 255 ∧ (s.rd Key.tagState ≠ 1 ∨ s.concho.file ≠ 0xE104) :=
  ⟨0, [1#8], 0, ((let s : State := calm; let s : State := (let s : State := { s with concho := { s.concho with antenna := .tag, field := true } }; s.wr Key.tagEnable 1); let s : State := s.wr (Key.tagState) (0); s)), by decide +kernel⟩

theorem meets_EmulatedTag_17 : ∃ (pw : BitVec 32) (s : State), s.tagAnswers = true ∧ s.concho.lockedUntil = none ∧ s.rd Key.tagAuth = 1 ∧ pw.toNat ≠ 0 ∧ pw.toNat = s.rd Key.tagPassword :=
  ⟨5, ((let s : State := calm; let s : State := (let s : State := { s with concho := { s.concho with antenna := .tag, field := true } }; s.wr Key.tagEnable 1); let s : State := { s with concho := { s.concho with lockedUntil := none } }; let s : State := s.wr Key.tagAuth (1); let s : State := s.wr (Key.tagPassword) (5); s)), by decide +kernel⟩

theorem meets_EmulatedTag_18 : ∃ (pw : BitVec 32) (s : State), s.tagAnswers = true ∧ s.concho.lockedUntil = none ∧ s.rd Key.tagAuth = 1 ∧ (pw.toNat = 0 ∨ pw.toNat ≠ s.rd Key.tagPassword) :=
  ⟨0, ((let s : State := calm; let s : State := (let s : State := { s with concho := { s.concho with antenna := .tag, field := true } }; s.wr Key.tagEnable 1); let s : State := { s with concho := { s.concho with lockedUntil := none } }; let s : State := s.wr Key.tagAuth (1); s)), by decide +kernel⟩

theorem meets_EmulatedTag_19 : ∃ (s : State), s.tagAnswers = true ∧ s.rd Key.tagAuth = 2 :=
  ⟨((let s : State := calm; let s : State := (let s : State := { s with concho := { s.concho with antenna := .tag, field := true } }; s.wr Key.tagEnable 1); let s : State := s.wr Key.tagAuth (2); s)), by decide +kernel⟩

theorem meets_EmulatedTag_20 : ∃ (data : BitVec 128) (s : State), s.tagAnswers = true ∧ s.concho.lockedUntil = none ∧ s.concho.challenge = none :=
  ⟨0, ((let s : State := calm; let s : State := (let s : State := { s with concho := { s.concho with antenna := .tag, field := true } }; s.wr Key.tagEnable 1); let s : State := { s with concho := { s.concho with lockedUntil := none } }; let s : State := { s with concho := { s.concho with challenge := none } }; s)), by decide +kernel⟩

theorem meets_EmulatedTag_21 : ∃ (data : BitVec 128) (c : BitVec 128) (s : State), s.tagAnswers = true ∧ s.concho.lockedUntil = none ∧ s.rd Key.tagAuth = 2 ∧ s.concho.challenge = some c ∧ s.tagSlotOk = false :=
  ⟨0, 0, (let c : BitVec 128 := 0; (let s : State := calm; let s : State := (let s : State := { s with concho := { s.concho with antenna := .tag, field := true } }; s.wr Key.tagEnable 1); let s : State := { s with concho := { s.concho with lockedUntil := none } }; let s : State := s.wr Key.tagAuth (2); let s : State := { s with concho := { s.concho with challenge := some c } }; s)), by decide +kernel⟩

theorem meets_EmulatedTag_22 : ∃ (data : BitVec 128) (c : BitVec 128) (s : State), s.tagAnswers = true ∧ s.concho.lockedUntil = none ∧ s.rd Key.tagAuth = 2 ∧ s.concho.challenge = some c ∧ s.tagSlotOk = true ∧ (beBytes 16 data.toNat).map (·.toNat) = Crypto.aesEnc ((s.slot (s.rd Key.tagKeySlot)).key.map (·.toNat)) ((beBytes 16 c.toNat).map (·.toNat)) :=
  ⟨(let c : BitVec 128 := 0; let s : State := (let s : State := calm; let s : State := (let s : State := { s with concho := { s.concho with antenna := .tag, field := true } }; s.wr Key.tagEnable 1); let s : State := { s with concho := { s.concho with lockedUntil := none } }; let s : State := s.wr Key.tagAuth (2); let s : State := { s with concho := { s.concho with challenge := some c } }; let s : State := s.setSlot 5 { usable with key := zeros 16 }; let s : State := s.wr (Key.tagKeySlot) (5); s); BitVec.ofNat 128 (beNat ((Crypto.aesEnc ((s.slot (s.rd Key.tagKeySlot)).key.map (·.toNat)) ((beBytes 16 c.toNat).map (·.toNat))).map (BitVec.ofNat 8)))), 0, (let c : BitVec 128 := 0; (let s : State := calm; let s : State := (let s : State := { s with concho := { s.concho with antenna := .tag, field := true } }; s.wr Key.tagEnable 1); let s : State := { s with concho := { s.concho with lockedUntil := none } }; let s : State := s.wr Key.tagAuth (2); let s : State := { s with concho := { s.concho with challenge := some c } }; let s : State := s.setSlot 5 { usable with key := zeros 16 }; let s : State := s.wr (Key.tagKeySlot) (5); s)), by decide +kernel⟩

theorem meets_EmulatedTag_23 : ∃ (pw : BitVec 32) (data : BitVec 128) (s : State), s.tagAnswers = true ∧ s.concho.lockedUntil ≠ none :=
  ⟨0, 0, ((let s : State := calm; let s : State := (let s : State := { s with concho := { s.concho with antenna := .tag, field := true } }; s.wr Key.tagEnable 1); let s : State := { s with concho := { s.concho with lockedUntil := some 5 } }; s)), by decide +kernel⟩

theorem meets_EmulatedTag_24 : ∃ (s : State), s.tagAnswers = true :=
  ⟨((let s : State := calm; let s : State := (let s : State := { s with concho := { s.concho with antenna := .tag, field := true } }; s.wr Key.tagEnable 1); s)), by decide +kernel⟩

theorem meets_EmulatedTag_25 : ∃ (s : State), s.tagAnswers = true :=
  ⟨((let s : State := calm; let s : State := (let s : State := { s with concho := { s.concho with antenna := .tag, field := true } }; s.wr Key.tagEnable 1); s)), by decide +kernel⟩

theorem meets_EmulatedTag_26 : ∃ (dt : Nat) (a : Nat) (s : State), s.concho.lockedUntil = some a ∧ a ≤ (s.advance dt).elapsed :=
  ⟨250000000000, 0, (let a : Nat := 0; (let s : State := calm; let s : State := { s with concho := { s.concho with lockedUntil := some a } }; s)), by decide +kernel⟩

theorem meets_EmulatedTag_27 : ∃ (dt : Nat) (a : Nat) (s : State), s.concho.lockedUntil = some a ∧ (s.advance dt).elapsed < a :=
  ⟨0, 2 ^ 60, (let a : Nat := 2 ^ 60; (let s : State := calm; let s : State := { s with concho := { s.concho with lockedUntil := some a } }; s)), by decide +kernel⟩

theorem meets_PowerStates_1 : ∃ (x : Fin 3) (s : State), s.cmdBlocked Key.pwrStateRes = false ∧ s.power.shutdown = none ∧ s.power.moving = none ∧ s.pwr ≠ x.val + 2 ∧ s.power.dwellUntil ≤ s.elapsed :=
  ⟨0, ((let s : State := calm; let s : State := { s with power := { s.power with shutdown := none } }; let s : State := { s with power := { s.power with moving := none } }; s)), by decide +kernel⟩

theorem meets_PowerStates_2 : ∃ (x : Fin 3) (s : State), s.cmdBlocked Key.pwrStateRes = false ∧ s.power.shutdown = none ∧ s.power.moving = none ∧ s.pwr = x.val + 2 :=
  ⟨0, (let x : Fin 3 := 0; (let s : State := calm; let s : State := { s with power := { s.power with shutdown := none } }; let s : State := { s with power := { s.power with moving := none } }; let s : State := s.wr Key.pwrState (x.val + 2); s)), by decide +kernel⟩

theorem meets_PowerStates_3 : ∃ (x : Fin 3) (s : State), s.cmdBlocked Key.pwrStateRes = false ∧ s.power.shutdown ≠ none :=
  ⟨0, ((let s : State := calm; let s : State := { s with power := { s.power with shutdown := some ⟨.running, 0, 4, 0, false, false, false, false⟩ } }; s)), by decide +kernel⟩

theorem meets_PowerStates_4 : ∃ (x : Fin 3) (s : State), s.cmdBlocked Key.pwrStateRes = true :=
  ⟨0, ((let s : State := calm; let s : State := { s with dict := { s.dict with ready := false } }; s)), by decide +kernel⟩

theorem meets_PowerStates_5 : ∃ (dt : Nat) (s : State), s.power.start = none ∧ s.pwr = 4 ∧ (∀ p, p < 4 → s.pstate p = 0 ∧ (s.port p).step = none) ∧ s.power.moving = some 3 ∧ s.power.pending = none ∧ s.power.goal = some 3 :=
  ⟨0, ((let s : State := calm; let s : State := { s with power := { s.power with start := none } }; let s : State := s.wr Key.pwrState (4); let s : State := { s with power := { s.power with moving := some 3 } }; let s : State := { s with power := { s.power with pending := none } }; let s : State := { s with power := { s.power with goal := some 3 } }; s)), by decide +kernel⟩

theorem meets_PowerStates_6 : ∃ (dt : Nat) (s : State), s.power.start = none ∧ s.pwr = 4 ∧ (∀ p, p < 4 → s.pstate p = 0 ∧ (s.port p).step = none) ∧ s.power.moving = some 3 ∧ s.power.pending = none ∧ s.power.goal = some 2 :=
  ⟨0, ((let s : State := calm; let s : State := { s with power := { s.power with start := none } }; let s : State := s.wr Key.pwrState (4); let s : State := { s with power := { s.power with moving := some 3 } }; let s : State := { s with power := { s.power with pending := none } }; let s : State := { s with power := { s.power with goal := some 2 } }; s)), by decide +kernel⟩

theorem meets_PowerStates_7 : ∃ (dt : Nat) (s : State), s.power.start = none ∧ s.pwr = 3 ∧ s.power.moving = some 2 ∧ (s.advance dt).closedDrained = false ∧ (s.advance dt).elapsed < s.power.movedAt + ms 10 :=
  ⟨0, ((let s : State := calm; let s : State := { s with power := { s.power with start := none } }; let s : State := s.wr Key.pwrState (3); let s : State := { s with power := { s.power with moving := some 2 } }; let s : State := withQ s 0 0 { OutQ.empty with frames := [zHFrame] }; let s : State := { s with power := { s.power with movedAt := 2 ^ 60 } }; s)), by decide +kernel⟩

theorem meets_PowerStates_8 : ∃ (dt : Nat) (st : StartUp) (s : State), s.power.start = some st ∧ s.dict.ready = false ∧ (s.advance dt).startWaited = false :=
  ⟨0, zStartUp, (let st : Sys2Proof.Machine.StartUp := zStartUp; (let s : State := calm; let s : State := { s with power := { s.power with start := some st } }; let s : State := { s with dict := { s.dict with ready := false } }; s)), by decide +kernel⟩

theorem meets_PowerStates_9 : ∃ (dt : Nat) (st : StartUp) (s : State), s.power.start = some st ∧ s.dict.ready = false ∧ (s.advance dt).startWaited = true :=
  ⟨1000000000000, ⟨false, 6, false, 0⟩, (let st : Sys2Proof.Machine.StartUp := ⟨false, 6, false, 0⟩; (let s : State := calm; let s : State := { s with power := { s.power with start := some st } }; let s : State := { s with dict := { s.dict with ready := false } }; s)), by decide +kernel⟩

theorem meets_PowerStates_10 : ∃ (dt : Nat) (x : Nat) (s : State), s.power.pending = some x ∧ s.power.moving = none ∧ s.power.shutdown = none ∧ s.power.dwellUntil ≤ (s.advance dt).elapsed ∧ x ≠ s.pwr :=
  ⟨250000000000, 0, (let x : Nat := 0; (let s : State := calm; let s : State := { s with power := { s.power with pending := some x } }; let s : State := { s with power := { s.power with moving := none } }; let s : State := { s with power := { s.power with shutdown := none } }; s)), by decide +kernel⟩

theorem meets_PowerStates_11 : ∃ (dt : Nat) (x : Nat) (s : State), s.power.pending = some x ∧ (s.advance dt).elapsed < s.power.dwellUntil :=
  ⟨0, 2, (let x : Nat := 2; (let s : State := calm; let s : State := { s with power := { s.power with pending := some x } }; let s : State := { s with power := { s.power with dwellUntil := 2 ^ 60 } }; s)), by decide +kernel⟩

theorem meets_PowerStates_12 : ∃ (s : State), s.pwr = 2 ∧ s.power.moving = none ∧ s.power.pending = none ∧ s.power.shutdown = none ∧ s.power.dwellUntil ≤ s.elapsed :=
  ⟨((let s : State := calm; let s : State := s.wr Key.pwrState (2); let s : State := { s with power := { s.power with moving := none } }; let s : State := { s with power := { s.power with pending := none } }; let s : State := { s with power := { s.power with shutdown := none } }; s)), by decide +kernel⟩

theorem meets_PowerStates_13 : ∃ (s : State), s.pwr = 2 ∧ s.flag Key.conReader = true :=
  ⟨((let s : State := calm; let s : State := s.wr Key.pwrState (2); let s : State := s.wr Key.conReader 1; s)), by decide +kernel⟩

theorem meets_PowerStates_14 : ∃ (s : State), s.flag Key.conReader = false :=
  ⟨((let s : State := calm; let s : State := s.wr Key.conReader 0; s)), by decide +kernel⟩

theorem meets_PowerStates_15 : ∃ (b : Bool) (s : State), s.pwr ≠ 2 :=
  ⟨true, ((let s : State := calm; s)), by decide +kernel⟩

theorem meets_Shutdown_1 : ∃ (b : Bool) (s : State), s.power.start = none ∧ s.dict.ready = true ∧ s.power.shutdown = none :=
  ⟨true, ((let s : State := calm; let s : State := { s with power := { s.power with start := none } }; let s : State := { s with dict := { s.dict with ready := true } }; let s : State := { s with power := { s.power with shutdown := none } }; s)), by decide +kernel⟩

theorem meets_Shutdown_2 : ∃ (b : Bool) (p : Nat) (n : Nat) (j : TxJob) (s : State), s.power.start = none ∧ s.dict.ready = true ∧ s.power.shutdown = none ∧ s.power.moving = none ∧ p < 4 ∧ n ∈ s.airOn p ∧ (s.tx n).job = some j ∧ j.aborted = none :=
  ⟨true, 2, 0, { zTxJob with req := { zTxReq with port := 2 } }, (let n : Nat := 0; let j : Sys2Proof.Machine.TxJob := { zTxJob with req := { zTxReq with port := 2 } }; (let s : State := calm; let s : State := { s with power := { s.power with start := none } }; let s : State := { s with dict := { s.dict with ready := true } }; let s : State := { s with power := { s.power with shutdown := none } }; let s : State := { s with power := { s.power with moving := none } }; let s : State := (let x_ := s.tx n; s.setTx n ({ x_ with job := some j })); let s : State := s.wr (Key.txcState 0) (4); s)), by decide +kernel⟩

theorem meets_Shutdown_3 : ∃ (b : Bool) (s : State), s.power.start ≠ none :=
  ⟨true, ((let s : State := calm; let s : State := { s with power := { s.power with start := some ⟨false, 6, false, 0⟩ } }; s)), by decide +kernel⟩

theorem meets_Shutdown_4 : ∃ (dt : Nat) (d : Shutdown) (s : State), s.power.shutdown = some d ∧ d.phase = .running ∧ d.since + (if d.thermal then us 100 else ms 4) ≤ (s.advance dt).elapsed :=
  ⟨250000000000, { zShutdown with phase := .running }, (let d : Sys2Proof.Machine.Shutdown := { zShutdown with phase := .running }; (let s : State := calm; let s : State := { s with power := { s.power with shutdown := some d } }; s)), by decide +kernel⟩

theorem meets_Shutdown_5 : ∃ (dt : Nat) (d : Shutdown) (s : State), s.power.shutdown = some d ∧ d.phase = .running ∧ (s.advance dt).elapsed < d.since + (if d.thermal then us 100 else ms 4) :=
  ⟨0, { zShutdown with phase := .running }, (let d : Sys2Proof.Machine.Shutdown := { zShutdown with phase := .running }; (let s : State := calm; let s : State := { s with power := { s.power with shutdown := some d } }; s)), by decide +kernel⟩

theorem meets_Shutdown_6 : ∃ (dt : Nat) (s : State), s.power.moving = some 2 :=
  ⟨0, ((let s : State := calm; let s : State := { s with power := { s.power with moving := some 2 } }; s)), by decide +kernel⟩

theorem meets_Shutdown_7 : ∃ (dt : Nat) (s : State), s.power.moving ≠ some 2 ∧ s.power.shutdown = none :=
  ⟨0, ((let s : State := calm; let s : State := { s with power := { s.power with shutdown := none } }; s)), by decide +kernel⟩

theorem meets_Shutdown_8 : ∃ (bad : List (Fin 2048)) (d : Shutdown) (s : State), s.power.shutdown = some d ∧ d.phase = .running ∧ d.thermal = false :=
  ⟨[], { zShutdown with phase := .running, thermal := false }, (let d : Sys2Proof.Machine.Shutdown := { zShutdown with phase := .running, thermal := false }; (let s : State := calm; let s : State := { s with power := { s.power with shutdown := some d } }; s)), by decide +kernel⟩

theorem meets_Shutdown_9 : ∃ (bad : List (Fin 2048)) (s : State), s.power.shutdown = none :=
  ⟨[], ((let s : State := calm; let s : State := { s with power := { s.power with shutdown := none } }; s)), by decide +kernel⟩

theorem meets_Shutdown_10 : ∃ (bad : List (Fin 2048)) (d : Shutdown) (s : State), s.power.shutdown = some d ∧ d.phase = .committed ∧ d.offDone = true ∧ d.thermal = false ∧ s.pins.resetLow = false :=
  ⟨[], { zShutdown with phase := .committed, offDone := true, thermal := false }, (let d : Sys2Proof.Machine.Shutdown := { zShutdown with phase := .committed, offDone := true, thermal := false }; (let s : State := calm; let s : State := { s with power := { s.power with shutdown := some d } }; let s : State := { s with pins := { s.pins with resetLow := false } }; s)), by decide +kernel⟩

theorem meets_Shutdown_11 : ∃ (bad : List (Fin 2048)) (dt : Nat) (d : Shutdown) (s : State), s.power.shutdown = some d ∧ d.phase = .committed ∧ d.committedAt + ms 50 ≤ (s.advance dt).elapsed ∧ d.returned = false ∧ s.power.rails = false :=
  ⟨[], 250000000000, { zShutdown with phase := .committed, returned := false }, (let d : Sys2Proof.Machine.Shutdown := { zShutdown with phase := .committed, returned := false }; (let s : State := calm; let s : State := { s with power := { s.power with shutdown := some d } }; let s : State := { s with power := { s.power with rails := false } }; s)), by decide +kernel⟩

theorem meets_Shutdown_12 : ∃ (bad : List (Fin 2048)) (dt : Nat) (d : Shutdown) (s : State), s.power.shutdown = some d ∧ d.phase = .committed ∧ d.committedAt + ms 50 ≤ (s.advance dt).elapsed ∧ d.returned = true ∧ d.thermal = false ∧ s.pins.resetLow = false :=
  ⟨[], 250000000000, { zShutdown with phase := .committed, returned := true, thermal := false }, (let d : Sys2Proof.Machine.Shutdown := { zShutdown with phase := .committed, returned := true, thermal := false }; (let s : State := calm; let s : State := { s with power := { s.power with shutdown := some d } }; let s : State := { s with pins := { s.pins with resetLow := false } }; s)), by decide +kernel⟩

theorem meets_Shutdown_13 : ∃ (bad : List (Fin 2048)) (dt : Nat) (d : Shutdown) (s : State), s.power.shutdown = some d ∧ (s.advance dt).elapsed < d.committedAt + ms 50 :=
  ⟨[], 0, zShutdown, (let d : Sys2Proof.Machine.Shutdown := zShutdown; (let s : State := calm; let s : State := { s with power := { s.power with shutdown := some d } }; s)), by decide +kernel⟩

theorem meets_Shutdown_14 : ∃ (d : Shutdown) (s : State), s.power.shutdown = some d ∧ d.phase = .running :=
  ⟨{ zShutdown with phase := .running }, (let d : Sys2Proof.Machine.Shutdown := { zShutdown with phase := .running }; (let s : State := calm; let s : State := { s with power := { s.power with shutdown := some d } }; s)), by decide +kernel⟩

theorem meets_Shutdown_15 : ∃ (s : State), s.alive = true ∧ s.power.shutdown = none :=
  ⟨((let s : State := calm; let s : State := { s with power := { s.power with shutdown := none } }; s)), by decide +kernel⟩

theorem meets_Shutdown_16 : ∃ (s : State), s.dict.ready = true ∧ s.power.start = none ∧ s.power.shutdown = none :=
  ⟨((let s : State := calm; let s : State := { s with dict := { s.dict with ready := true } }; let s : State := { s with power := { s.power with start := none } }; let s : State := { s with power := { s.power with shutdown := none } }; s)), by decide +kernel⟩

theorem meets_Shutdown_17 : ∃ (s : State), s.alive = false :=
  ⟨((let s : State := calm; let s : State := { s with dict := { s.dict with ready := false }, power := { s.power with start := none } }; s)), by decide +kernel⟩

theorem meets_Shutdown_18 : ∃ (bad : List (Fin 2048)) (d : Shutdown) (s : State), s.power.shutdown = some d ∧ d.phase = .committed ∧ d.thermal = true ∧ d.offDone = false :=
  ⟨[], { zShutdown with phase := .committed, thermal := true, offDone := false }, (let d : Sys2Proof.Machine.Shutdown := { zShutdown with phase := .committed, thermal := true, offDone := false }; (let s : State := calm; let s : State := { s with power := { s.power with shutdown := some d } }; s)), by decide +kernel⟩

theorem meets_Resets_2 : ∃ (ev : ColdEvent) (kept : Bool) (bad : List (Fin 2048)) (dt : Nat) (s : State), s.alive = false ∧ s.power.shutdown = none ∧ (ev = .rails railOrder ∧ s.pins.resetLow = false ∨ ev = .released ∧ s.power.rails = true) :=
  ⟨.rails railOrder, true, [], 0, ((let s : State := calm; let s : State := { s with dict := { s.dict with ready := false }, power := { s.power with start := none } }; let s : State := { s with power := { s.power with shutdown := none } }; s)), by decide +kernel⟩

theorem meets_Resets_3 : ∃ (o : List Rail) (kept : Bool) (bad : List (Fin 2048)) (dt : Nat) (s : State), o ≠ railOrder ∧ s.power.rails = false :=
  ⟨[], true, [], 0, ((let s : State := calm; let s : State := { s with power := { s.power with rails := false } }; s)), by decide +kernel⟩

theorem meets_Resets_4 : ∃ (ev : ColdEvent) (kept : Bool) (bad : List (Fin 2048)) (dt : Nat) (s : State), s.alive = true :=
  ⟨(.rails []), true, [], 0, ((let s : State := calm; s)), by decide +kernel⟩

theorem meets_Resets_5 : ∃ (s : State), s.pwr ≠ 0 ∧ s.power.shutdown = none :=
  ⟨((let s : State := calm; let s : State := s.wr Key.pwrState (1); let s : State := { s with power := { s.power with shutdown := none } }; s)), by decide +kernel⟩

theorem meets_Resets_6 : ∃ (c : Fin 4) (s : State), s.dict.ready = true :=
  ⟨0, ((let s : State := calm; let s : State := { s with dict := { s.dict with ready := true } }; s)), by decide +kernel⟩

theorem meets_Resets_7 : ∃ (c : Fin 4) (s : State), s.alive = false :=
  ⟨0, ((let s : State := calm; let s : State := { s with dict := { s.dict with ready := false }, power := { s.power with start := none } }; s)), by decide +kernel⟩

theorem meets_Resets_9 : ∃ (dt : Nat) (s : State), s.dict.ready = true ∧ s.coreIsland 0 = true ∧ s.power.watchdog + ms 2000 ≤ (s.advance dt).elapsed :=
  ⟨250000000000, ((let s : State := calm; let s : State := { s with dict := { s.dict with ready := true } }; s)), by decide +kernel⟩

theorem meets_Resets_10 : ∃ (dt : Nat) (s : State), (s.advance dt).elapsed < s.power.watchdog + ms 2000 :=
  ⟨0, ((let s : State := calm; s)), by decide +kernel⟩

theorem meets_Resets_11 : ∃ (s : State), s.power.rails = false :=
  ⟨((let s : State := calm; let s : State := { s with power := { s.power with rails := false } }; s)), by decide +kernel⟩

theorem meets_Resets_12 : ∃ (s : State), s.power.rails = true :=
  ⟨((let s : State := calm; let s : State := { s with power := { s.power with rails := true } }; s)), by decide +kernel⟩

theorem meets_Resets_13 : ∃ (s : State), s.power.rails = false ∧ s.vbat.valid = false :=
  ⟨((let s : State := calm; let s : State := { s with power := { s.power with rails := false } }; let s : State := { s with vbat := { s.vbat with valid := false } }; s)), by decide +kernel⟩

theorem meets_Resets_14 : ∃ (s : State), s.vbat.valid = true :=
  ⟨((let s : State := calm; let s : State := { s with vbat := { s.vbat with valid := true } }; s)), by decide +kernel⟩

theorem meets_MemoriesAndHostPath_1 : ∃ (m : Mem) (k : Nat) (addr : Nat) (unit : Nat) (clash : Bool) (s : State), scrubbed m = some k :=
  ⟨.nodeRecords, 0, 0, 0, true, ((let s : State := calm; s)), by decide +kernel⟩

theorem meets_MemoriesAndHostPath_4 : ∃ (n : Nat) (s : State), n < 16 :=
  ⟨0, ((let s : State := calm; s)), by decide +kernel⟩

theorem meets_MemoriesAndHostPath_5 : ∃ (n : Nat) (s : State), 16 ≤ n ∧ s.dict.ready = true :=
  ⟨16, ((let s : State := calm; let s : State := { s with dict := { s.dict with ready := true } }; s)), by decide +kernel⟩

theorem meets_MemoriesAndHostPath_6 : ∃ (s : State), s.alive = true ∧ s.host.linkUp = false ∧ s.pins.headSel = false :=
  ⟨((let s : State := calm; let s : State := { s with host := { s.host with linkUp := false } }; let s : State := { s with pins := { s.pins with headSel := false } }; s)), by decide +kernel⟩

theorem meets_MemoriesAndHostPath_7 : ∃ (s : State), s.host.linkUp = true :=
  ⟨((let s : State := calm; let s : State := { s with host := { s.host with linkUp := true } }; s)), by decide +kernel⟩

theorem meets_MemoriesAndHostPath_8 : ∃ (s : State), s.host.linkUp = true ∧ s.rd Key.chainRole = 3 :=
  ⟨((let s : State := calm; let s : State := { s with host := { s.host with linkUp := true } }; let s : State := s.wr Key.chainRole (3); s)), by decide +kernel⟩

theorem meets_MemoriesAndHostPath_9 : ∃ (s : State), s.host.linkUp = false :=
  ⟨((let s : State := calm; let s : State := { s with host := { s.host with linkUp := false } }; s)), by decide +kernel⟩

theorem meets_MemoriesAndHostPath_10 : ∃ (s : State), s.rd Key.chainRole ≠ 3 :=
  ⟨((let s : State := calm; s)), by decide +kernel⟩

theorem meets_MemoriesAndHostPath_11 : ∃ (s : State), s.rd Key.chainRole = 3 :=
  ⟨((let s : State := calm; let s : State := s.wr Key.chainRole (3); s)), by decide +kernel⟩

theorem meets_MemoriesAndHostPath_12 : ∃ (dt : Nat) (a : Nat) (s : State), (s.advance dt).hostPath = false ∧ s.host.cutSince = some a ∧ s.host.cutPosted = false ∧ a + ms 1000 ≤ (s.advance dt).elapsed :=
  ⟨250000000000, 0, (let a : Nat := 0; (let s : State := calm; let s : State := { s with host := { s.host with cutSince := some a } }; let s : State := { s with host := { s.host with cutPosted := false } }; s)), by decide +kernel⟩

theorem meets_MemoriesAndHostPath_13 : ∃ (dt : Nat) (a : Nat) (s : State), (s.advance dt).hostPath = false ∧ s.host.cutSince = some a ∧ (s.advance dt).elapsed < a + ms 1000 :=
  ⟨0, 0, (let a : Nat := 0; (let s : State := calm; let s : State := { s with host := { s.host with cutSince := some a } }; s)), by decide +kernel⟩

theorem meets_StepTakesTheFront_1 : ∃ (c : Instr) (rest : List Instr) (s : State), s.pending = c :: rest :=
  ⟨.timeSnapshot 0, [], (let c : Sys2Proof.Instr := .timeSnapshot 0; (let s : State := calm; let s : State := { s with pending := [c] }; s)), by decide +kernel⟩

theorem meets_StepTakesTheFront_2 : ∃ (s : State), s.pending = [] :=
  ⟨((let s : State := calm; let s : State := { s with pending := [] }; s)), by decide +kernel⟩

theorem meets_IdentityKept_1 : ∃ (s : State), SamePart s :=
  ⟨((let s : State := State.reset; s)), rfl⟩

theorem meets_MemoriesStayCanonical_1 : ∃ (s : State), Memory.wf s :=
  ⟨((let s : State := calm; s)), by decide +kernel⟩


end Sys2Proof.Tests
end

section
/-! Proofs of the family of chapter 1 (architecture): memory errors, the bridge, and the host path. -/

namespace Sys2Proof

/-- A value that a map lists stands in it. -/
theorem KMap.mem_of_find {α : Type} {m : KMap α} {k : Nat} {v : α} (h : KMap.find m k = some v) : (k, v) ∈ m := by
  induction m with
  | nil => simp [KMap.find] at h
  | cons q m ih =>
    obtain ⟨j, w⟩ := q
    unfold KMap.find at h
    split_ifs at h with hj
    · cases h; subst hj; exact List.mem_cons_self
    · exact List.mem_cons_of_mem _ (ih h)

namespace Machine

/-! ### A reader that a pass over a list leaves alone -/

/-- What every step of a pass over a list leaves alone, the pass leaves alone. -/
theorem State.each_same {α β : Type} (g : State → β) {f : State → α → State} (h : ∀ t x, g (f t x) = g t) (s : State) (l : List α) :
    g (s.each l f) = g s :=
  List.foldlRecOn (motive := fun t => g t = g s) l f rfl fun t ht x _ => (h t x).trans ht

/-! ### Posting: the edges and the readiness of the dictionary service -/

/-- Posting a status loses no edge that has set out. -/
theorem State.edges_logErr_prefix (s : State) (e : ErrEntry) (x : Bytes) : s.buckle.edges <+: (s.logErr e x).buckle.edges := by
  unfold State.logErr
  simp only
  split_ifs <;> simp only [State.edges_raise, State.strapPush_keeps, State.wr_keeps, State.bump_keeps, State.journalAdd_keeps,
    State.run32_keeps, List.append_assoc, List.prefix_append, List.prefix_rfl]

theorem State.mem_edges_post {s : State} {n : Nat} (h : n ∈ s.buckle.edges) (c : Err) (src a a2 d : Nat) :
    n ∈ (s.post c src a a2 d).buckle.edges :=
  (State.edges_logErr_prefix s _ _).subset h

/-- Posting a status does not stop or start the dictionary service. -/
@[simp] theorem State.ready_logErr (s : State) (e : ErrEntry) (x : Bytes) : (s.logErr e x).dict.ready = s.dict.ready := by
  unfold State.logErr
  simp only
  split_ifs <;> simp only [State.raise_keeps, State.strapPush_keeps, State.wr_keeps, State.bump_keeps, State.journalAdd_keeps,
    State.run32_keeps]

@[simp] theorem State.ready_post (s : State) (c : Err) (src a a2 d : Nat) : (s.post c src a a2 d).dict.ready = s.dict.ready :=
  State.ready_logErr ..

/-- What a record adds to the journal is a matter of the journal alone. -/
theorem State.journal_journalAdd_congr {s u : State} (h : u.sb.journal = s.sb.journal) (r : JournalRec) :
    (u.journalAdd r).sb.journal = (s.journalAdd r).sb.journal := by
  unfold State.journalAdd
  rw [h]

/-- A status posted where the journal is as it was in s is posted from s on. -/
theorem Posted.of_post {s u : State} (h : u.sb.journal = s.sb.journal) (c : Err) (src a a2 d : Nat) :
    Posted s (u.post c src a a2 d) c src := by
  have hj := (State.journal_post u c src a a2 d).trans (State.journal_journalAdd_congr h _)
  refine ⟨_, ?_, ?_, hj⟩ <;> rfl

/-! ### Memory errors (R8 to R10) -/

theorem scrubPass_single {m : Mem} {k : Nat} (hk : scrubbed m = some k) (addr unit : Nat) (clash : Bool) (s : State) :
    exec (.scrubPass m addr unit .single clash) s = .next (s.bump (Key.memErr k)) := by
  simp only [exec_scrubPass, execScrubPass, hk, State.memFound]

theorem scrubPass_none (m : Mem) (addr unit : Nat) (clash : Bool) (s : State) :
    exec (.scrubPass m addr unit .none clash) s = .next s := by
  simp only [exec_scrubPass, execScrubPass]
  split <;> rfl

theorem scrubPass_coreLocal_uncorrectable (addr unit : Nat) (clash : Bool) (s : State) :
    exec (.scrubPass .coreLocal addr unit .uncorrectable clash) s = .next (s.memFound 2 .uncorrectable addr) := rfl

theorem State.memFound_uncorrectable (s : State) (k addr : Nat) : s.memFound k .uncorrectable addr =
    ((s.bump (Key.memErr k)).bump Key.memUncorrected).post .memUncorrected 0x1200 (0x10 + k) addr := rfl

theorem Key.memErr_ne_memUncorrected (k : Nat) : Key.memErr k ≠ Key.memUncorrected := fun e =>
  absurd (congrArg Key.fam e) (by simp)

/-- An uncorrectable word counts in its memory. -/
theorem State.rd_memErr_memFound (s : State) (k addr : Nat) :
    (s.memFound k .uncorrectable addr).rd (Key.memErr k) = satAdd u32Max (s.rd (Key.memErr k)) 1 := by
  rw [State.memFound_uncorrectable, State.post_rd (by simp), State.rd_bump_ne _ _ (Key.memErr_ne_memUncorrected k), State.rd_bump_self]

/-- An uncorrectable word counts in `MEM_UNCORRECTED`. -/
theorem State.rd_memUncorrected_memFound (s : State) (k addr : Nat) :
    (s.memFound k .uncorrectable addr).rd Key.memUncorrected = satAdd u32Max (s.rd Key.memUncorrected) 1 := by
  rw [State.memFound_uncorrectable, State.post_rd (by simp), State.rd_bump_self, State.rd_bump_ne _ _ (Key.memErr_ne_memUncorrected k).symm]

theorem State.posted_memFound (s : State) (k addr : Nat) : Posted s (s.memFound k .uncorrectable addr) .memUncorrected 0x1200 := by
  rw [State.memFound_uncorrectable]
  exact Posted.of_post (by simp only [State.bump_keeps]) ..

/-! ### The reset of the bridge (R11) -/

/-- A warm reset leaves the dictionary service stopped until R65 completes. -/
@[simp] theorem State.ready_dictWarm (s : State) : s.dictWarm.dict.ready = false := rfl

@[simp] theorem State.ready_conStart_false (s : State) : (s.conStart false).dict.ready = s.dict.ready := by
  unfold State.conStart
  split <;> rfl

@[simp] theorem State.ready_stampCheck (s : State) : s.stampCheck.dict.ready = s.dict.ready :=
  State.each_same (fun t => t.dict.ready) (fun t p => by split_ifs <;> simp only [State.ready_post]) ..

@[simp] theorem State.ready_startEpoch (s : State) : s.startEpoch.dict.ready = s.dict.ready := by
  unfold State.startEpoch
  simp only
  split_ifs
  · simp only [State.deriveLinkWrap_keeps, State.wr_keeps]
  · simp only [State.kPost, State.ready_post, State.wr_keeps, State.freeSlots_keeps]

@[simp] theorem State.ready_keeperWarm (s : State) : s.keeperWarm.dict.ready = s.dict.ready := by
  unfold State.keeperWarm
  simp only
  split_ifs <;> simp only [State.countSlots_keeps, State.ready_startEpoch, State.deriveIdentity_keeps, State.freeSlots_keeps]

/-- The cores start without touching the start-up in progress. -/
@[simp] theorem State.start_coresStart (s : State) : s.coresStart.power.start = s.power.start := by
  unfold State.coresStart
  simp only [State.power_setPower]
  rw [State.each_same (fun t => t.power.start), State.each_same (fun t => t.power.start), State.each_same (fun t => t.power.start)]
  · intro t n
    simp only [State.wr_keeps, State.setCore_keeps]
  · intro t n
    simp only [State.wr_keeps]
  · intro t n
    rfl

/-- After a warm reset the dictionary service is stopped and the start-up that R65 ends bears the reset's cause. -/
theorem State.warmReset_start (s : State) (cause : Nat) :
    (s.warmReset cause).dict.ready = false ∧ (s.warmReset cause).power.start = some ⟨false, cause, false, s.elapsed⟩ := by
  unfold State.warmReset
  extract_lets +onlyGivenNames cut moved quiet cleared portsEnded runsEnded
  have hports : portsEnded.dict.ready = false ∧ portsEnded.elapsed = s.elapsed := by
    constructor
    · refine (State.each_same (fun t => t.dict.ready) ?_ _ _).trans (State.ready_dictWarm _)
      intro t p
      simp only [State.setRes_keeps]
    · refine (State.each_same (fun t => t.elapsed) ?_ _ _).trans ?_
      · intro t p
        simp only [State.setRes_keeps]
      · simp only [cleared, quiet, State.dictWarm_keeps, State.girthWarm_keeps, State.coresWarm_keeps, State.radioWarm_keeps]
  have hruns : runsEnded.dict.ready = false ∧ runsEnded.elapsed = s.elapsed := by
    unfold runsEnded
    split_ifs
    · simpa only [State.setRes_keeps] using hports
    · exact hports
  clear_value runsEnded
  obtain ⟨hr, he⟩ := hruns
  constructor
  · simp only [State.coresStart_keeps, State.resetCinch_keeps, State.ready_keeperWarm, State.portsStart_keeps, State.txLimits_keeps,
      State.ready_stampCheck, State.treeSelect_keeps, State.wr_keeps, State.ready_conStart_false, State.resetCon_keeps,
      State.hifReset_keeps, State.resetBuckle_keeps, State.resetStraps_keeps, State.resetTables_keeps, State.setPower_keeps, hr]
  · simp only [State.start_coresStart, State.resetCinch_keeps, State.keeperWarm_keeps, State.portsStart_keeps, State.txLimits_keeps,
      State.stampCheck_keeps, State.treeSelect_keeps, State.wr_keeps, State.conStart_keeps, State.resetCon_keeps,
      State.hifReset_keeps, State.resetBuckle_keeps, State.resetStraps_keeps, State.resetTables_keeps, State.power_setPower, he]

theorem bridgeFlitCrcFail_replayed {n : Nat} (h : n < 16) (s : State) : exec (.bridgeFlitCrcFail n) s = .next s := by
  rw [exec_bridgeFlitCrcFail, execBridgeFlitCrcFail, if_neg (by omega)]

theorem bridgeFlitCrcFail_reset {n : Nat} (h : 16 ≤ n) {s : State} (hr : s.dict.ready = true) :
    exec (.bridgeFlitCrcFail n) s = .next (s.warmReset 7) := by
  rw [exec_bridgeFlitCrcFail, execBridgeFlitCrcFail, if_pos h, State.ownReset, if_pos (by rw [hr, Bool.true_or])]

/-! ### The path to a host (R572 to R574) -/

/-- The cut of the path as it is kept in the state. -/
def State.withCut (s : State) (since : Option Nat) (posted : Bool) : State :=
  { s with host := { s.host with cutSince := since, cutPosted := posted } }

@[simp] theorem State.journal_withCut (s : State) (since : Option Nat) (posted : Bool) :
    (s.withCut since posted).sb.journal = s.sb.journal := rfl

/-- Following the path changes the record of the cut, and may post that the host was reached. -/
theorem State.pathCheck_cases (s : State) : ∃ c b, s.pathCheck = s.withCut c b ∨
    ∃ arg arg2, s.pathCheck = (s.withCut c b).post .hostReached 0x1100 arg arg2 := by
  unfold State.pathCheck
  split
  · simp only
    split_ifs
    · exact ⟨none, false, .inr ⟨_, _, rfl⟩⟩
    · exact ⟨none, false, .inl rfl⟩
  · exact ⟨some s.elapsed, false, .inl rfl⟩
  · exact ⟨s.host.cutSince, s.host.cutPosted, .inl rfl⟩
  · exact ⟨s.host.cutSince, s.host.cutPosted, .inl rfl⟩

/-- Following the path leaves the link, the receive rings and the vectors of the host interface alone. -/
theorem State.host_pathCheck (s : State) : s.pathCheck.host.linkUp = s.host.linkUp ∧ s.pathCheck.host.rx = s.host.rx ∧
    s.pathCheck.host.vectors = s.host.vectors := by
  obtain ⟨c, b, h | ⟨arg, arg2, h⟩⟩ := s.pathCheck_cases
  · rw [h]; exact ⟨rfl, rfl, rfl⟩
  · rw [h]
    simp only [State.post_keeps]
    exact ⟨rfl, rfl, rfl⟩

theorem State.mem_edges_pathCheck {s : State} {n : Nat} (hn : n ∈ s.buckle.edges) : n ∈ s.pathCheck.buckle.edges := by
  obtain ⟨c, b, h | ⟨arg, arg2, h⟩⟩ := s.pathCheck_cases
  · rw [h]; exact hn
  · rw [h]; exact State.mem_edges_post (s := s.withCut c b) hn ..

/-- A cut that is known goes on while no head can be reached. -/
theorem State.pathCheck_of_cut {s : State} {a : Nat} (hp : s.hostPath = false) (hc : s.host.cutSince = some a) : s.pathCheck = s := by
  unfold State.pathCheck
  rw [hp, hc]

theorem State.host_advance (s : State) (dt : Nat) : (s.advance dt).host = s.host := by simp only [State.advance_keeps]

/-- In a cut of 1 s that is not posted yet, `HOST_UNREACHABLE` is posted and the cut goes on. -/
theorem hostUnreachable_posts {dt a : Nat} {s : State} (hp : (s.advance dt).hostPath = false) (hc : s.host.cutSince = some a)
    (hn : s.host.cutPosted = false) (hd : a + ms 1000 ≤ (s.advance dt).elapsed) : exec (.hostUnreachable dt) s =
      .next (((s.advance dt).withCut (s.advance dt).host.cutSince true).post .hostUnreachable 0x1100) := by
  rw [← State.host_advance s dt] at hc hn
  rw [exec_hostUnreachable, execHostUnreachable]
  simp only [State.pathCheck_of_cut hp hc, hc, hn]
  rw [if_pos ⟨rfl, hd⟩, State.withCut]

theorem hostUnreachable_early {dt a : Nat} {s : State} (hp : (s.advance dt).hostPath = false) (hc : s.host.cutSince = some a)
    (hd : (s.advance dt).elapsed < a + ms 1000) : exec (.hostUnreachable dt) s = .next (s.advance dt) := by
  rw [← State.host_advance s dt] at hc
  rw [exec_hostUnreachable, execHostUnreachable]
  simp only [State.pathCheck_of_cut hp hc, hc]
  rw [if_neg (fun h => absurd h.2 (Nat.not_le.mpr hd))]

/-! ### The host's link and the strap pin (R36, R44, R494) -/

/-- A device that is no candidate starts nothing. -/
theorem State.newCandidate_of_headSel_low {s : State} (h : s.pins.headSel = false) : s.newCandidate = s := by
  unfold State.newCandidate
  rw [if_pos (by simp [State.headCandidate, h])]

theorem State.noCandidate_of_role_ne {s : State} (h : s.rd Key.chainRole ≠ 3) : s.noCandidate = s := if_neg h

/-- A candidate in enumeration loses its role, and its enumeration ends. -/
theorem State.noCandidate_of_enumerating {s : State} (h : s.rd Key.chainRole = 3) : s.noCandidate.rd Key.chainRole = 0 ∧
    s.noCandidate.rd Key.chainEnumState = 0 ∧ s.noCandidate.chain.enumRun = none := by
  rw [State.noCandidate, if_pos h]
  refine ⟨?_, State.rd_wr_self .., ?_⟩
  · rw [State.rd_wr_ne _ _ (by decide), State.rd_wr_self]
  · simp only [State.wr_keeps]

/-- A reset of the host interface disables every receive ring. -/
theorem State.size_rxRing_hifReset (s : State) (n : Nat) : (s.hifReset.rxRing n).size = 0 := by
  unfold State.rxRing KMap.getD
  split
  case h_1 r hf =>
    obtain ⟨q, -, hq⟩ := List.mem_map.mp (List.mem_of_mem_filter (KMap.mem_of_find hf))
    cases hq
    rfl
  case h_2 => rfl

/-- The link to the host comes up or is lost, an edge of the Buckle. -/
def State.linkEdge (s : State) (up : Bool) : State := ({ s with host := { s.host with linkUp := up } }).raise 24

theorem pcieLinkUp_of_headSel_low {s : State} (ha : s.alive = true) (hl : s.host.linkUp = false) (hs : s.pins.headSel = false) :
    exec .pcieLinkUp s = .next (s.linkEdge true).pathCheck := by
  rw [exec_pcieLinkUp, execPcieLinkUp, if_neg (by simp [ha, hl])]
  exact congrArg (fun t : State => (.next t.pathCheck : Step)) (State.newCandidate_of_headSel_low (s := s.linkEdge true) hs)

/-- A link that is up already does not come up. -/
theorem pcieLinkUp_of_linkUp {s : State} (h : s.host.linkUp = true) : exec .pcieLinkUp s = .next s := by
  rw [exec_pcieLinkUp, execPcieLinkUp, if_pos (by rw [h, Bool.or_true])]

/-- What a loss of the link does before the device's role follows it (R494). -/
def State.linkLost (s : State) : State := (s.linkEdge false).hifReset.post .hifLinkDown 0x1000

theorem State.rd_chainRole_linkLost (s : State) : s.linkLost.rd Key.chainRole = s.rd Key.chainRole :=
  State.post_rd (by simp)

theorem State.host_linkLost (s : State) : s.linkLost.host.linkUp = false ∧ s.linkLost.host.vectors = [] ∧
    s.linkLost.host.rx = (s.linkEdge false).hifReset.host.rx := by
  simp only [State.linkLost, State.post_keeps]
  exact ⟨rfl, rfl, trivial⟩

/-- The role and the path that follow a loss of the link leave the host interface as the loss left it. -/
theorem State.host_linkLost_follow (s : State) : s.linkLost.noCandidate.pathCheck.host.linkUp = false ∧
    s.linkLost.noCandidate.pathCheck.host.vectors = [] ∧
    s.linkLost.noCandidate.pathCheck.host.rx = (s.linkEdge false).hifReset.host.rx := by
  obtain ⟨hlink, hrx, hvec⟩ := s.linkLost.noCandidate.host_pathCheck
  simp only [hlink, hrx, hvec, State.noCandidate_keeps]
  exact s.host_linkLost

theorem pcieLinkDown_of_linkDown {s : State} (h : s.host.linkUp = false) : exec .pcieLinkDown s = .next s := by
  rw [exec_pcieLinkDown, execPcieLinkDown, if_pos (by rw [h]; rfl)]

theorem pcieLinkDown_of_enumerating {s : State} (hl : s.host.linkUp = true) (hr : s.rd Key.chainRole = 3) :
    exec .pcieLinkDown s = .next s.linkLost.noCandidate.pathCheck := by
  have h : s.linkLost.rd Key.chainRole ≠ 1 := by rw [State.rd_chainRole_linkLost, hr]; decide
  rw [exec_pcieLinkDown, execPcieLinkDown, if_neg (by rw [hl]; decide)]
  exact congrArg (fun t : State => (.next t.noCandidate.pathCheck : Step)) (if_neg h)

/-- The strap pin goes low: a candidate in enumeration stops being one, a head keeps its role (R36). -/
theorem headSelChange_low (s : State) :
    exec (.headSelChange false) s = .next ({ s with pins := { s.pins with headSel := false } }).noCandidate := rfl

/-! ### The statement -/

/-- Settles O55: each command by its equation above; the reset of the bridge turns on `State.warmReset_start`. -/
theorem memoriesAndHostPath : Obligations.MemoriesAndHostPath := by
  unfold Obligations.MemoriesAndHostPath
  refine ⟨?single, ?clean, ?uncorrectable, ?replay, ?reset, ?up, ?upAgain, ?down, ?downAgain, ?lowOther, ?lowEnum, ?cut, ?early⟩
  case single =>
    intro m k addr unit clash s hk
    rw [scrubPass_single hk, gives_next]
    refine ⟨State.rd_bump_self .., fun j hj => State.rd_bump_ne _ _ hj, ?_⟩
    simp only [State.bump_keeps, and_self]
  case clean =>
    intro m addr unit clash s
    rw [scrubPass_none, gives_next]
  case uncorrectable =>
    intro addr unit clash s
    rw [scrubPass_coreLocal_uncorrectable, gives_next]
    refine ⟨State.rd_memErr_memFound .., State.rd_memUncorrected_memFound .., State.posted_memFound .., ?_⟩
    simp only [State.memFound_keeps]
  case replay =>
    intro n s hn
    rw [bridgeFlitCrcFail_replayed hn, gives_next]
  case reset =>
    intro n s hn hr
    rw [bridgeFlitCrcFail_reset hn hr, gives_next]
    obtain ⟨hready, hstart⟩ := s.warmReset_start 7
    exact ⟨hready, hstart, by simp only [State.warmReset_keeps]⟩
  case up =>
    intro s ha hl hs
    rw [pcieLinkUp_of_headSel_low ha hl hs, gives_next]
    obtain ⟨hlink, -, -⟩ := (s.linkEdge true).host_pathCheck
    exact ⟨hlink, by simp only [State.pathCheck_keeps]; rfl, State.mem_edges_pathCheck (by simp [State.linkEdge])⟩
  case upAgain =>
    intro s hl
    rw [pcieLinkUp_of_linkUp hl, gives_next]
  case down =>
    intro s hl hr
    rw [pcieLinkDown_of_enumerating hl hr, gives_next]
    obtain ⟨hrole, hstate, hrun⟩ := State.noCandidate_of_enumerating (s.rd_chainRole_linkLost.trans hr)
    obtain ⟨hlink, hvec, hrx⟩ := s.host_linkLost_follow
    refine ⟨hlink, ?_, ?_, ?_, hvec, fun n => ?_⟩
    · rw [State.pathCheck_rd (by simp), hrole]
    · rw [State.pathCheck_rd (by simp), hstate]
    · simp only [State.pathCheck_keeps, hrun]
    · rw [State.rxRing, hrx]
      exact State.size_rxRing_hifReset ..
  case downAgain =>
    intro s hl
    rw [pcieLinkDown_of_linkDown hl, gives_next]
  case lowOther =>
    intro s hr
    rw [headSelChange_low, gives_next]
    exact State.noCandidate_of_role_ne hr
  case lowEnum =>
    intro s hr
    rw [headSelChange_low, gives_next]
    obtain ⟨hrole, -, hrun⟩ := State.noCandidate_of_enumerating (s := { s with pins := { s.pins with headSel := false } }) hr
    exact ⟨by simp only [State.noCandidate_keeps], hrole, hrun⟩
  case cut =>
    intro dt a s hp hc hn hd
    rw [hostUnreachable_posts hp hc hn hd, gives_next, State.host_advance, hc]
    refine ⟨?_, ?_, Posted.of_post (State.journal_withCut ..) ..⟩
    · simp only [State.post_keeps, State.withCut]
    · simp only [State.post_keeps, State.withCut]
  case early =>
    intro dt a s hp hc hd
    rw [hostUnreachable_early hp hc hd, gives_next]

end Machine

end Sys2Proof
end

section
/-! Proofs of the family of chapter 8 (Girth MAC): acknowledgements of downlinks, attempts that fail, and the guard limit. -/

namespace Sys2Proof.Machine

/-! ### What Girth works out of the dictionary does not change with time -/

@[simp] theorem State.dlAckUs_advance (s : State) (dt : Nat) (x : NodeRec) : (s.advance dt).dlAckUs x = s.dlAckUs x := by
  simp only [State.dlAckUs, State.ackOctets, State.secExtra, State.advance_keeps]

@[simp] theorem State.guardLimit_advance (s : State) (dt : Nat) : (s.advance dt).guardLimit = s.guardLimit := by
  simp only [State.guardLimit, State.slotNs, State.advance_keeps]

@[simp] theorem State.guardAt_advance (s : State) (dt : Nat) (x : NodeRec) (t : Nat) :
    (s.advance dt).guardAt x t = s.guardAt x t := by
  simp only [State.guardAt, State.advance_keeps]

/-! ### The head of a node's queue -/

/-- The head leaves the queue, the frames behind it stay in order. -/
@[simp] theorem State.frames_nodePop (s : State) (r : Nat) : ((s.nodePop r).nodeQ r).frames = (s.nodeQ r).frames.tail := by
  rw [State.nodePop, State.nodeQ_setNodeQ_self, List.drop_one]

/-! ### Acknowledgements that are accepted (R224) -/

/-- Outside its window, or with another DSN, an acknowledgement is no acknowledgement. -/
theorem State.ackAccept_ignored {s : State} {r d : Nat} {offset : Int} {w : AckWait} (hw : (s.nrec r).ack = some w)
    (h : w.dsn ≠ d ∨ offset < 800000 ∨ 1200000 < offset) : s.ackAccept r d offset = s := by
  simp only [State.ackAccept, hw]
  exact if_neg (by omega)

/-- The node is heard, and one more of its frames has come down. -/
theorem State.ackAccept_nrec {s : State} {r d : Nat} {offset : Int} {w : AckWait} (hw : (s.nrec r).ack = some w) (hd : w.dsn = d)
    (hlo : 800000 ≤ offset) (hhi : offset ≤ 1200000) :
    ((s.ackAccept r d offset).nrec r).ack = none ∧
      ((s.ackAccept r d offset).nrec r).hw.framesDown = ((s.nrec r).hw.framesDown + 1) % 2 ^ 32 ∧
      ((s.ackAccept r d offset).nrec r).hw.lastContact = s.nowMs % 2 ^ 48 := by
  simp only [State.ackAccept, hw]
  rw [if_pos ⟨hd, hlo, hhi⟩]
  split <;> simp only [State.reportFinal_keeps, State.nodePop_keeps, State.contact, State.nrec_modHw_self, State.nrec_setRec_self,
    State.setRec_keeps, and_self]

/-- The head, which was acknowledged, leaves the queue. -/
theorem State.ackAccept_frames {s : State} {r d : Nat} {offset : Int} {w : AckWait} (hw : (s.nrec r).ack = some w) (hd : w.dsn = d)
    (hlo : 800000 ≤ offset) (hhi : offset ≤ 1200000) : ((s.ackAccept r d offset).nodeQ r).frames = (s.nodeQ r).frames.tail := by
  simp only [State.ackAccept, hw]
  rw [if_pos ⟨hd, hlo, hhi⟩]
  split
  case h_1 => simp only [State.reportFinal_keeps, State.frames_nodePop, State.modHw_keeps, State.contact_keeps, State.setRec_keeps]
  case h_2 hq =>
    simp only [State.modHw_keeps, State.contact_keeps, State.setRec_keeps] at hq ⊢
    rw [hq, List.tail_nil]

/-! ### DESYNC (R235) -/

/-- A node that is not being handed over enters DESYNC itself; every cause but 5 counts. -/
theorem State.desync_of_no_handover {s : State} {r cause : Nat} (hh : (s.nrec r).handover = none) (hc : cause ≠ 5) :
    s.desync r cause = (((s.modHw r (fun h => { h with macState := macDesync })).modHw r (fun h => { h with cause := cause })).bump
      Key.desyncEvents).girthPost .nodeDesync (shortOf r) cause := by
  simp only [State.desync, hh]
  rw [if_neg hc]

/-- DESYNC leaves the acknowledgement that is awaited as it is. -/
theorem State.ack_desync (s : State) (r cause : Nat) : ((s.desync r cause).nrec r).ack = (s.nrec r).ack := by
  unfold State.desync
  extract_lets +onlyGivenNames x entered caused counted
  have hentered : (entered.nrec r).ack = (s.nrec r).ack := by
    unfold entered
    split
    · split_ifs
      · rw [State.nrec_setRec_self]
      · rw [State.nrec_modHw_self]
    · rw [State.nrec_modHw_self]
  have hcounted : counted.nrec r = caused.nrec r := by
    unfold counted
    split_ifs
    · rfl
    · simp only [State.bump_keeps]
  simp only [State.girthPost_keeps]
  rw [hcounted, State.nrec_modHw_self, hentered]

/-! ### Attempts that fail (R227) -/

/-- No acknowledgement of record r is awaited. -/
def State.unawaited (s : State) (r : Nat) : State := s.setRec r { s.nrec r with ack := none }

@[simp] theorem State.ack_unawaited (s : State) (r : Nat) : ((s.unawaited r).nrec r).ack = none := by
  rw [State.unawaited, State.nrec_setRec_self]

/-- The head f of node r's queue is given up after its last attempt. -/
def State.givenUp (s : State) (r : Nat) (f : NodeFrame) : State := ((s.unawaited r).nodePop r).undelivered r f

@[simp] theorem State.ack_givenUp (s : State) (r : Nat) (f : NodeFrame) : ((s.givenUp r f).nrec r).ack = none := by
  simp only [State.givenUp, State.undelivered_keeps, State.nodePop_keeps, State.ack_unawaited]

@[simp] theorem State.frames_givenUp (s : State) (r : Nat) (f : NodeFrame) :
    ((s.givenUp r f).nodeQ r).frames = (s.nodeQ r).frames.tail := by
  simp only [State.givenUp, State.undelivered_keeps, State.frames_nodePop, State.unawaited, State.setRec_keeps]

/-- A frame that is undelivered counts. -/
theorem State.rd_dlUndelivered_undelivered (s : State) (r : Nat) (f : NodeFrame) :
    (s.undelivered r f).rd Key.dlUndelivered = satAdd u32Max (s.rd Key.dlUndelivered) 1 := by
  rw [State.undelivered]
  simp only [State.reportFinal_keeps]
  rw [State.girthPost_rd (by simp), State.rd_bump_self]

theorem State.rd_dlUndelivered_givenUp (s : State) (r : Nat) (f : NodeFrame) :
    (s.givenUp r f).rd Key.dlUndelivered = satAdd u32Max (s.rd Key.dlUndelivered) 1 := by
  rw [State.givenUp, State.rd_dlUndelivered_undelivered]
  simp only [State.nodePop_keeps, State.unawaited, State.setRec_keeps]

/-- While attempts are left, the frame stays at the head. -/
theorem State.attemptFailed_of_left {s : State} {r : Nat} {f : NodeFrame} {rest : List NodeFrame}
    (hq : (s.nodeQ r).frames = f :: rest) (hl : f.attempts ≤ s.rd Key.dlRetryLimit) : s.attemptFailed r = s.unawaited r := by
  simp only [State.attemptFailed, State.setRec_keeps, hq]
  exact if_neg (Nat.not_lt.mpr hl)

/-- After the last attempt the frame is given up, and the node may enter DESYNC. -/
theorem State.attemptFailed_of_last {s : State} {r : Nat} {f : NodeFrame} {rest : List NodeFrame}
    (hq : (s.nodeQ r).frames = f :: rest) (hl : s.rd Key.dlRetryLimit < f.attempts) :
    s.attemptFailed r = s.givenUp r f ∨ s.attemptFailed r = (s.givenUp r f).desync r 3 := by
  simp only [State.attemptFailed, State.setRec_keeps, hq]
  rw [if_pos hl]
  split_ifs
  · exact .inr rfl
  · exact .inl rfl

/-- When the acknowledgement's window and frame time have passed, the attempt has failed. -/
theorem dlAckTimeout_late {r : Fin 16384} {dt : Nat} {w : AckWait} {s : State} (hw : (s.nrec r).ack = some w)
    (ht : w.lastChip + us (1200 + s.dlAckUs (s.nrec r)) ≤ (s.advance dt).elapsed) :
    exec (.dlAckTimeout r dt) s = .next ((s.advance dt).attemptFailed r) := by
  rw [exec_dlAckTimeout, execDlAckTimeout]
  simp only [State.advance_keeps, State.dlAckUs_advance, hw]
  rw [if_pos ht]

/-! ### The guard limit (R233) -/

theorem NodeRec.syncState_of_sync {x : NodeRec} (h : x.hw.macState = macSync) : x.syncState = macSync := by
  rw [NodeRec.syncState, if_neg (by rw [h]; decide), h]

theorem guardLimit_reached {r : Fin 16384} {dt : Nat} {s : State} (hc : (s.nrec r).compat = true)
    (hm : (s.nrec r).hw.macState = macSync) (hg : s.guardLimit ≤ s.guardAt (s.nrec r) (s.advance dt).nowNs) :
    exec (.guardLimit r dt) s = .next ((s.advance dt).desync r 1) := by
  rw [exec_guardLimit, execGuardLimit]
  simp only [State.guardLimit_advance, State.guardAt_advance, State.advance_keeps]
  rw [if_pos (by simp [hc, NodeRec.syncState_of_sync hm, hg])]

theorem guardLimit_early {r : Fin 16384} {dt : Nat} {s : State} (hg : s.guardAt (s.nrec r) (s.advance dt).nowNs < s.guardLimit) :
    exec (.guardLimit r dt) s = .next (s.advance dt) := by
  rw [exec_guardLimit, execGuardLimit]
  simp only [State.guardLimit_advance, State.guardAt_advance, State.advance_keeps]
  rw [if_neg (by simp [hg])]

/-! ### The statement -/

/-- Settles O17: each command by its equation above; a frame that is given up stays so where the node also enters DESYNC. -/
theorem nodesAnswer : Obligations.NodesAnswer := by
  unfold Obligations.NodesAnswer
  refine ⟨?accepted, ?ignored, ?left, ?last, ?reached, ?early⟩
  case accepted =>
    intro r dsn off dt w f rest s hw hd hlo hhi hq
    have hw' : ((s.advance dt).nrec r).ack = some w := by simpa only [State.advance_keeps] using hw
    obtain ⟨hack, hdown, hlast⟩ := State.ackAccept_nrec hw' hd hlo hhi
    have hframes := State.ackAccept_frames hw' hd hlo hhi
    simp only [State.advance_keeps, hq, List.tail_cons] at hdown hframes
    rw [exec_dlAckRx, execDlAckRx, gives_next]
    exact ⟨hack, by rw [hframes], hdown, hlast⟩
  case ignored =>
    intro r dsn off dt w s hw h
    rw [exec_dlAckRx, execDlAckRx, gives_next]
    exact State.ackAccept_ignored (by simpa only [State.advance_keeps] using hw) h
  case left =>
    intro r dt w f rest s hw ht hq hl
    rw [dlAckTimeout_late hw ht, State.attemptFailed_of_left (f := f) (rest := rest) (by simpa only [State.advance_keeps] using hq)
      (by simpa only [State.advance_keeps] using hl), gives_next]
    refine ⟨State.ack_unawaited .., ?_, ?_⟩ <;> simp only [State.unawaited, State.setRec_keeps, State.advance_keeps]
  case last =>
    intro r dt w f rest s hw ht hq hl
    have hframes : ((s.advance dt).nodeQ r).frames.tail = rest := by simp only [State.advance_keeps, hq, List.tail_cons]
    have hcount := State.rd_dlUndelivered_givenUp (s.advance dt) r f
    simp only [State.advance_keeps] at hcount
    rw [dlAckTimeout_late hw ht, gives_next]
    rcases State.attemptFailed_of_last (s := s.advance dt) (f := f) (rest := rest) (by simpa only [State.advance_keeps] using hq)
      (by simpa only [State.advance_keeps] using hl) with h | h
    · rw [h, State.frames_givenUp, hframes]
      exact ⟨State.ack_givenUp .., rfl, hcount⟩
    · rw [h, State.ack_desync, State.desync_rd (by simp)]
      simp only [State.desync_keeps]
      rw [State.frames_givenUp, hframes]
      exact ⟨State.ack_givenUp .., rfl, hcount⟩
  case reached =>
    intro r dt s hc hh hm hg
    rw [guardLimit_reached hc hm hg, State.desync_of_no_handover (by simpa only [State.advance_keeps] using hh) (by decide), gives_next]
    refine ⟨?_, ?_, Posted.of_post (by simp only [State.bump_keeps, State.modHw_keeps]) .., ?_⟩
    · simp only [State.girthPost_keeps, State.bump_keeps, State.nrec_modHw_self, macDesync]
    · simp only [State.girthPost_keeps, State.bump_keeps, State.nrec_modHw_self]
    · rw [State.girthPost_rd (by simp), State.rd_bump_self]
      simp only [State.modHw_keeps, State.advance_keeps]
  case early =>
    intro r dt s hg
    rw [guardLimit_early hg, gives_next]

end Sys2Proof.Machine
end

section
/-! Proofs of the family of chapter 18 (Awl instruction set): branches, jumps, calls and the arming of hardware loops. -/

namespace Sys2Proof.Machine

/-! ### Targets and conditions (Tables 18-3 and 18-4) -/

/-- A word offset of any width, shifted into place, is four times its signed value. -/
theorem signExtend_shiftLeft_two {w : Nat} (off : BitVec w) : off.signExtend 32 <<< 2 = BitVec.ofInt 32 (4 * off.toInt) := by
  rw [BitVec.ofInt_mul, BitVec.shiftLeft_eq_mul_twoPow, BitVec.mul_comm, BitVec.signExtend]
  rfl

theorem branchTarget_eq (pc : Word) (off : BitVec 16) : branchTarget pc off = pc + BitVec.ofInt 32 (4 * off.toInt) := by
  rw [branchTarget, signExtend_shiftLeft_two]

theorem jumpTarget_eq (pc : Word) (off : BitVec 26) : jumpTarget pc off = pc + BitVec.ofInt 32 (4 * off.toInt) := by
  rw [jumpTarget, signExtend_shiftLeft_two]

theorem ltS_iff {a b : Word} : ltS a b = true ↔ a.toInt < b.toInt := BitVec.slt_iff_toInt_lt

theorem ltU_iff {a b : Word} : ltU a b = true ↔ a.toNat < b.toNat := BitVec.ult_iff_toNat_lt

/-! ### A core with no active loop (R460, R461) -/

/-- Where no SETC is on its way, an end test uses the latest value. -/
theorem Core.seenReg_of_late_nil {c : Core} (h : c.late = []) (r : Nat) : c.seenReg r = c.loopReg r := by
  rw [Core.seenReg, h]
  rfl

theorem Core.loopReg_count (c : Core) (k : Nat) : c.loopReg (3 * k + 2) = (c.loop k).lc := by
  have hk : (3 * k + 2) / 3 = k := by omega
  have hm : (3 * k + 2) % 3 = 2 := by omega
  simp [Core.loopReg, hk, hm]

/-- An end test sees every loop at a count of 0. -/
theorem Core.Straight.seenReg_count {c : Core} (h : c.Straight) {k : Nat} (hk : k < 3) : c.seenReg (3 * k + 2) = 0#32 := by
  rw [Core.seenReg_of_late_nil h.1, Core.loopReg_count, h.2 k hk]

/-- No address is the last of an active loop. -/
theorem Core.Straight.atLoopEnd {c : Core} (h : c.Straight) (x : Word) : c.atLoopEnd x = false := by
  have h0 := h.seenReg_count (k := 0) (by decide)
  have h1 := h.seenReg_count (k := 1) (by decide)
  have h2 := h.seenReg_count (k := 2) (by decide)
  simp [Core.atLoopEnd, h0, h1, h2]

theorem Core.Straight.endStep {c : Core} (h : c.Straight) (x : Word) {k : Nat} (hk : k < 3) : c.endStep x k = (c, none) := by
  rw [Core.endStep, h.seenReg_count hk]
  rfl

/-- The end test does nothing. -/
theorem Core.Straight.endTest {c : Core} (h : c.Straight) (x : Word) : c.endTest x = (c, none) := by
  simp only [Core.endTest, h.endStep x (show 2 < 3 by decide), h.endStep x (show 1 < 3 by decide), h.endStep x (show 0 < 3 by decide)]

theorem Core.tickLate_of_late_nil {c : Core} (h : c.late = []) : c.tickLate = c := by
  obtain ⟨⟩ := c
  cases h
  rfl

/-- An instruction that completes goes on to the next word. -/
theorem Core.Straight.complete {c : Core} (h : c.Straight) (x : Word) (cost : Nat) :
    c.complete x cost = { c with pc := x + 4#32, cycles := c.cycles + cost } := by
  simp only [Core.complete, h.endTest x, Core.tickLate_of_late_nil h.1]

/-! ### An instruction that executes -/

/-- A core that begins an instruction: the cycles it waits count, and the note of a load is gone (R457). -/
def Core.issue (c : Core) (r : CoreRun) (uses : List (Fin 32)) : Core :=
  { c with cycles := c.cycles + r.stall + c.stalls uses, loadedReg := none }

theorem Core.Straight.issue {c : Core} (h : c.Straight) (r : CoreRun) (uses : List (Fin 32)) : (c.issue r uses).Straight := h

/-- Where a core runs and fetches the word, and no active loop ends, the instruction does what it does. -/
theorem State.awl_executes {s : State} {r : CoreRun} {w : Word} (hf : s.Fetches r.n) (hs : (s.core r.n).Straight)
    (hw : s.fetches r.n (s.core r.n).pc w = true) (uses : List (Fin 32)) (moves : Bool) (f : State → State) :
    s.awl r w uses moves f = f (s.setCore r.n ((s.core r.n).issue r uses)) := by
  simp [State.awl, hf.1, hf.2, hw, hs.atLoopEnd, Core.issue]

/-- What holds after the instruction's own work holds of the command's answer. -/
theorem State.awl_gives {s : State} {r : CoreRun} {w : Word} {uses : List (Fin 32)} {moves : Bool} {f : State → State}
    {p : State → Prop} (hf : s.Fetches r.n) (hs : (s.core r.n).Straight) (h : p (f (s.setCore r.n ((s.core r.n).issue r uses)))) :
    GivesAt s r.n w (.next (s.awl r w uses moves f)) p := fun hw => by
  rw [gives_next, State.awl_executes hf hs hw]
  exact h

/-! ### What a step of one core leaves alone -/

theorem State.OnlyCore.refl (s : State) (n : Nat) : s.OnlyCore s n := ⟨fun _ _ => rfl, rfl⟩

/-- Replacing the core once more changes nothing but that core. -/
theorem State.OnlyCore.setCore {s t : State} {n : Nat} (h : s.OnlyCore t n) (c : Core) : s.OnlyCore (t.setCore n c) n :=
  ⟨fun m hm => by rw [State.core_setCore, if_neg hm, h.1 m hm], h.2⟩

theorem Core.g_congr {c d : Core} (h : d.regs = c.regs) (k : Nat) : d.g k = c.g k := by
  rw [Core.g, Core.g, h]

/-- A core whose list of registers stays takes nothing. -/
theorem State.regTakes_zero {s t : State} {n : Nat} (h : (t.core n).regs = (s.core n).regs) : s.RegTakes t n 0 0#32 := fun k => by
  rw [if_neg (by simp), Core.g_congr h]

/-- A core that changes in its pc, its link register and its cycles alone went to the pc. -/
theorem State.WentTo.of_core {s t : State} {n k : Nat} {p lk : Word} (ho : s.OnlyCore t n)
    (hc : t.core n = { s.core n with pc := p, lk := lk, cycles := k, loadedReg := none }) : s.WentTo t n p lk :=
  ⟨by rw [hc], by rw [hc], State.regTakes_zero (by rw [hc]), by rw [hc]; rfl, by rw [hc], ho⟩

/-! ### Branches and jumps (R456, R457) -/

/-- A branch of core n goes 4 × off on where it is taken, else on to the next word. -/
def State.Branched (s t : State) (n : Nat) (off : BitVec 16) (taken : Prop) : Prop :=
  (taken → s.WentTo t n ((s.core n).pc + BitVec.ofInt 32 (4 * off.toInt)) (s.core n).lk) ∧
    (¬ taken → s.WentTo t n ((s.core n).pc + 4#32) (s.core n).lk)

/-- A core that begins an instruction and then jumps went to the target. -/
theorem State.wentTo_jumpTo (s : State) (r : CoreRun) (uses : List (Fin 32)) (lk p : Word) :
    s.WentTo ((s.setCore r.n ((s.core r.n).issue r uses)).setCore r.n ({ (s.core r.n).issue r uses with lk := lk }.jumpTo p)) r.n p lk :=
  .of_core ((State.OnlyCore.refl s r.n).setCore _ |>.setCore _) (State.core_setCore_self ..)

/-- A core that begins an instruction and completes it went on to the next word. -/
theorem State.wentTo_awlDone {s : State} {r : CoreRun} (hs : (s.core r.n).Straight) (uses : List (Fin 32)) (cost : Nat) :
    s.WentTo ((s.setCore r.n ((s.core r.n).issue r uses)).awlDone r.n cost fun c => c) r.n ((s.core r.n).pc + 4#32) (s.core r.n).lk := by
  rw [State.awlDone, State.core_setCore_self, (hs.issue r uses).complete]
  exact .of_core ((State.OnlyCore.refl s r.n).setCore _ |>.setCore _) (State.core_setCore_self ..)

section
variable {s : State} {r : CoreRun} (hf : s.Fetches r.n) (hs : (s.core r.n).Straight)
include hf hs

/-- Every branch goes by its condition. -/
theorem State.awlBranch_gives {op : Nat} {ra rb : Fin 32} {off : BitVec 16} {cond : Word → Word → Bool} {taken : Prop}
    (hc : cond ((s.core r.n).g ra) ((s.core r.n).g rb) = true ↔ taken) :
    GivesAt s r.n (encI op ra rb off.toNat) (.next (s.awlBranch r op ra rb off cond)) fun t => s.Branched t r.n off taken := by
  refine State.awl_gives hf hs ?_
  rw [State.core_setCore_self]
  have hg (k : Nat) : ((s.core r.n).issue r [ra, rb]).g k = (s.core r.n).g k := Core.g_congr rfl k
  simp only [hg]
  by_cases ht : taken
  · rw [if_pos (hc.mpr ht)]
    refine ⟨fun _ => ?_, absurd ht⟩
    rw [← branchTarget_eq]
    exact State.wentTo_jumpTo ..
  · rw [if_neg (mt hc.mp ht)]
    exact ⟨fun h => absurd h ht, fun _ => State.wentTo_awlDone hs _ 1⟩

/-- A jump to a register goes there where the target is the address of a word. -/
theorem State.awlJumpReg_gives {w a : Word} {uses : List (Fin 32)} {link : Bool} {target : Core → Word}
    (ht : target ((s.core r.n).issue r uses) = a) (ha : a.toNat % 4 = 0) :
    GivesAt s r.n w (.next (s.awl r w uses true fun s => s.awlJumpReg r w (target (s.core r.n)) link)) fun t =>
      s.WentTo t r.n a (if link = true then (s.core r.n).pc + 4#32 else (s.core r.n).lk) := by
  refine State.awl_gives hf hs ?_
  rw [State.core_setCore_self, ht, State.awlJumpReg, if_neg (by simp [ha]), State.core_setCore_self]
  exact State.wentTo_jumpTo ..

theorem j_gives (off : BitVec 26) : GivesAt s r.n (encJ 0x28 off.toNat) (exec (.j r off) s) fun t =>
    s.WentTo t r.n ((s.core r.n).pc + BitVec.ofInt 32 (4 * off.toInt)) (s.core r.n).lk := by
  refine State.awl_gives hf hs ?_
  rw [State.core_setCore_self, ← jumpTarget_eq]
  exact State.wentTo_jumpTo ..

theorem call_gives (off : BitVec 26) : GivesAt s r.n (encJ 0x29 off.toNat) (exec (.call r off) s) fun t =>
    s.WentTo t r.n ((s.core r.n).pc + BitVec.ofInt 32 (4 * off.toInt)) ((s.core r.n).pc + 4#32) := by
  refine State.awl_gives hf hs ?_
  rw [State.core_setCore_self, ← jumpTarget_eq]
  exact State.wentTo_jumpTo ..

end

/-! ### Loops (R459) -/

theorem Core.loop_setLoopReg_ne (c : Core) {r k : Nat} (v : Word) (h : k ≠ r / 3) : (c.setLoopReg r v).loop k = c.loop k :=
  vmod_getD_ne _ _ _ h

theorem Core.loop_setLoopReg_first (c : Core) {n : Nat} (hn : n < 3) (v : Word) :
    (c.setLoopReg (3 * n) v).loop n = { c.loop n with lb := v } := by
  rw [Core.loop, Core.setLoopReg, show 3 * n / 3 = n by omega, vmod_getD_self _ _ _ hn, if_pos (by omega)]
  rfl

theorem Core.loop_setLoopReg_last (c : Core) {n : Nat} (hn : n < 3) (v : Word) :
    (c.setLoopReg (3 * n + 1) v).loop n = { c.loop n with le := v } := by
  rw [Core.loop, Core.setLoopReg, show (3 * n + 1) / 3 = n by omega, vmod_getD_self _ _ _ hn, if_neg (by omega), if_pos (by omega)]
  rfl

theorem Core.loop_setLoopReg_count (c : Core) {n : Nat} (hn : n < 3) (v : Word) :
    (c.setLoopReg (3 * n + 2) v).loop n = { c.loop n with lc := v } := by
  rw [Core.loop, Core.setLoopReg, show (3 * n + 2) / 3 = n by omega, vmod_getD_self _ _ _ hn, if_neg (by omega), if_neg (by omega)]
  rfl

/-- Arming a loop writes its three registers. -/
theorem Core.loop_armLoop (c : Core) (a : Word) (n k : Nat) (last count : Word) : (c.armLoop a n last count).loop k =
    (((c.setLoopReg (3 * n) (a + 4#32)).setLoopReg (3 * n + 1) (a + 4#32 * last)).setLoopReg (3 * n + 2) count).loop k := rfl

/-- The registers of a loop that is armed at address a. -/
theorem Core.loop_armLoop_self (c : Core) (a : Word) {n : Nat} (hn : n < 3) (last count : Word) :
    (c.armLoop a n last count).loop n = ⟨a + 4#32, a + 4#32 * last, count⟩ := by
  rw [Core.loop_armLoop, Core.loop_setLoopReg_count _ hn, Core.loop_setLoopReg_last _ hn, Core.loop_setLoopReg_first _ hn]

theorem Core.loop_armLoop_ne (c : Core) (a : Word) {n k : Nat} (hk : k ≠ n) (last count : Word) :
    (c.armLoop a n last count).loop k = c.loop k := by
  rw [Core.loop_armLoop, Core.loop_setLoopReg_ne _ _ (by omega), Core.loop_setLoopReg_ne _ _ (by omega),
    Core.loop_setLoopReg_ne _ _ (by omega)]

/-- From s to t core m armed loop n with a count; a count of 0 skips the body. -/
def State.Armed (s t : State) (m n : Nat) (last count : Word) : Prop :=
  (t.core m).loop n = ⟨(s.core m).pc + 4#32, (s.core m).pc + 4#32 * last, count⟩ ∧
    (∀ k, k < 3 → k ≠ n → (t.core m).loop k = (s.core m).loop k) ∧ s.RegTakes t m 0 0#32 ∧ s.OnlyCore t m ∧
    (s.core m).SameSystem (t.core m) ∧
    (t.core m).pc = if count = 0#32 then (s.core m).pc + 4#32 * last + 4#32 else (s.core m).pc + 4#32

/-- A core that changes only by an armed loop, its cycles and the note of a load armed the loop. -/
theorem State.Armed.of_core {s t : State} {m n k : Nat} {last count : Word} (hn : n < 3) (ho : s.OnlyCore t m)
    (hc : t.core m = { (s.core m).armLoop (s.core m).pc n last count with cycles := k, loadedReg := none }) :
    s.Armed t m n last count :=
  ⟨by rw [hc]; exact Core.loop_armLoop_self _ _ hn _ _, fun k _ hk => by rw [hc]; exact Core.loop_armLoop_ne _ _ hk _ _,
    State.regTakes_zero (by rw [hc]; rfl), ho, by rw [hc]; rfl, by rw [hc]; rfl⟩

/-- Every loop instruction arms its loop with its count. -/
theorem State.awlLoop_gives {s : State} {r : CoreRun} {w v : Word} {uses : List (Fin 32)} {n : Fin 4} {stop : BitVec 12}
    {count : Core → Word} (hf : s.Fetches r.n) (hs : (s.core r.n).Straight) (hn : n.val < 3) (hstop : stop ≠ 0#12)
    (hv : count ((s.core r.n).issue r uses) = v) :
    GivesAt s r.n w (.next (s.awlLoop r w uses n stop count)) fun t => s.Armed t r.n n (BitVec.ofNat 32 stop.toNat) v := by
  have hn3 : n ≠ 3 := fun e => absurd hn (by simp [e])
  rw [State.awlLoop, if_neg (by simp [hn3, hstop])]
  refine State.awl_gives hf hs ?_
  rw [State.core_setCore_self, BitVec.ofNat_toNat]
  simp only [hv, Core.tickLate_of_late_nil (hs.issue r uses).1]
  exact .of_core hn ((State.OnlyCore.refl s r.n).setCore _ |>.setCore _) (State.core_setCore_self ..)

/-! ### The statement -/

/-- Settles O41: each branch by its condition, each jump by its target, each loop instruction by its count. -/
theorem branchesAndJumps : Obligations.BranchesAndJumps := by
  unfold Obligations.BranchesAndJumps
  refine ⟨?branches, ?jumps, ?loops⟩
  case branches =>
    intro r ra rb off s hf hs
    refine ⟨?beq, ?bne, ?blt, ?bge, ?bltu, ?bgeu⟩
    case beq => exact State.awlBranch_gives hf hs beq_iff_eq
    case bne => exact State.awlBranch_gives hf hs bne_iff_ne
    case blt => exact State.awlBranch_gives hf hs ltS_iff
    case bge => exact State.awlBranch_gives hf hs (by rw [Bool.not_eq_true', ← Bool.not_eq_true, ltS_iff, Int.not_lt])
    case bltu => exact State.awlBranch_gives hf hs ltU_iff
    case bgeu => exact State.awlBranch_gives hf hs (by rw [Bool.not_eq_true', ← Bool.not_eq_true, ltU_iff, Nat.not_lt])
  case jumps =>
    intro r ra off s hf hs
    exact ⟨j_gives hf hs off, call_gives hf hs off, State.awlJumpReg_gives (target := fun c => c.g ra) (link := false) hf hs rfl,
      State.awlJumpReg_gives (target := fun c => c.g ra) (link := true) hf hs rfl,
      State.awlJumpReg_gives (target := Core.lk) (link := false) hf hs rfl⟩
  case loops =>
    intro r n ra count stop s hf hs hn hstop
    exact ⟨State.awlLoop_gives hf hs hn hstop rfl,
      State.awlLoop_gives hf hs hn hstop (BitVec.ofNat_toNat ..).symm⟩

end Sys2Proof.Machine
end

section
/-! Proofs of the family of chapters 19 to 21 (Buckle, power and reset): resets, the watchdog, and the battery supply. -/

namespace Sys2Proof

/-! ### Maps laid over one another -/

/-- A filter that lets no entry of a key pass leaves nothing listed for it. -/
theorem KMap.find_filter_none {α : Type} (m : KMap α) (p : Nat × α → Bool) {k : Nat} (h : ∀ v, p (k, v) = false) :
    KMap.find (m.filter p) k = none := by
  cases hf : KMap.find (m.filter p) k with
  | none => rfl
  | some v => exact absurd (List.mem_filter.mp (KMap.mem_of_find hf)).2 (by simp [h v])

namespace Machine

/-- Numbers laid over others leave a key alone that none of them is for. -/
theorem getD_overlay_of_ne {base stored : KMap Nat} {k : Nat} (h : ∀ q ∈ stored, q.1 ≠ k) (d : Nat) :
    KMap.getD (overlay base stored) d k = KMap.getD base d k := by
  unfold overlay
  induction stored generalizing base with
  | nil => rfl
  | cons q stored ih =>
    rw [List.foldl_cons, ih fun r hr => h r (List.mem_cons_of_mem _ hr)]
    exact KMap.getD_setD_ne _ _ _ _ (h q List.mem_cons_self).symm

/-- A read-only number that is not kept in a memory of its own reads its built-in default after a cold start (R65). -/
theorem State.getD_coldNums_of_ro (s : State) {k : Nat} (hl : lastingNum k = false) (ha : accessOf k = .ro) (d : Nat) :
    KMap.getD s.coldNums d k = d := by
  have hbase : KMap.getD (s.dict.nums.filter fun q => lastingNum q.1) d k = d := by
    rw [KMap.getD, KMap.find_filter_none _ _ fun _ => hl]
  unfold State.coldNums
  rw [getD_overlay_of_ne, getD_overlay_of_ne, hbase]
  · intro q hq e
    have hacc := (List.mem_filter.mp hq).2
    rw [e, ha] at hacc
    exact absurd hacc (by decide)
  · intro q hq e
    split_ifs at hq
    · have hacc := (List.mem_filter.mp hq).2
      rw [e, ha] at hacc
      exact absurd hacc (by decide)
    · exact absurd hq List.not_mem_nil

/-! ### The counters `SRC_EVENTS` (Table 4-22) -/

/-- Index and subindex of a counter of `SRC_EVENTS`. -/
theorem Key.srcEvents_split {k : Nat} (h : k < 256) : Key.srcEvents k / 256 = 0x7100 + k ∧ Key.srcEvents k % 256 = 3 := by
  rw [Key.srcEvents, if_pos h]
  omega

theorem Key.srcEvents_ne {j : Nat} (h : Key.fam j ≠ 0x710003) (k : Nat) : Key.srcEvents k ≠ j := fun e =>
  h (e ▸ Key.fam_srcEvents)

/-- The row of `SRC_EVENTS` in the object table. -/
theorem find_srcEvents {k : Nat} (h : k < 256) : Dict.find (Key.srcEvents k / 256) (Key.srcEvents k % 256) =
    some (Dict.e "SRC_EVENTS" 0x7100 256 0x03 1 1 0 (.u 4) .ro 0 false (.none) 0) := by
  obtain ⟨hi, hs⟩ := Key.srcEvents_split h
  have hg : (0x7100 + k) / 256 = 0x71 := by omega
  rw [hi, hs]
  unfold Dict.find
  rw [hg]
  have hk : 0x7100 + k < 0x7200 := by omega
  simp [Dict.group, Dict.rows71, Dict.e, Dict.Entry.hasSub, hk]

theorem accessOf_srcEvents {k : Nat} (h : k < 256) : accessOf (Key.srcEvents k) = .ro := by
  rw [accessOf, find_srcEvents h]
  rfl

theorem lastingNum_srcEvents (k : Nat) : lastingNum (Key.srcEvents k) = false := by
  rw [lastingNum, Bool.or_eq_false_iff, beq_eq_false_iff_ne, beq_eq_false_iff_ne]
  exact ⟨Key.srcEvents_ne (by simp) k, Key.srcEvents_ne (by simp) k⟩

theorem dflt_srcEvents {k : Nat} (h : k < 256) : dflt (Key.srcEvents k) = 0 := by
  obtain ⟨hi, hs⟩ := Key.srcEvents_split h
  have hc : Key.srcEvents k ≠ Key.cinchTokens := Key.srcEvents_ne (by simp) k
  have hf := find_srcEvents h
  unfold dflt
  simp only
  rw [hf, if_neg (by omega), if_neg (by omega), if_neg (by omega), if_neg hc]
  rfl

/-! ### The Buckle at any reset (R492) -/

/-- No source is pending or masked, no round-robin pointer is held, and every `SRC_EVENTS` counter is 0. -/
def State.BuckleQuiet (t : State) : Prop :=
  t.buckle.pend = [] ∧ t.buckle.mask = [] ∧ t.buckle.last = [] ∧ ∀ k, k < 256 → t.rd (Key.srcEvents k) = 0

/-- After a pass that writes 0 to the numbers of a list, each of them reads 0. -/
theorem State.rd_each_wr_zero (key : Nat → Nat) (l : List Nat) (s : State) {j : Nat} (h : s.rd j = 0 ∨ j ∈ l.map key) :
    (s.each l fun t i => t.wr (key i) 0).rd j = 0 := by
  induction l generalizing s with
  | nil => exact h.resolve_right List.not_mem_nil
  | cons i l ih =>
    refine ih (s.wr (key i) 0) ?_
    by_cases hj : j = key i
    · exact .inl (by rw [hj, State.rd_wr_self])
    · rw [State.rd_wr_ne _ _ hj]
      exact h.imp_right fun hm => (List.mem_cons.mp hm).resolve_left hj

/-- What a number reads is a matter of the stored numbers alone. -/
theorem State.rd_of_nums {s t : State} (h : t.dict.nums = s.dict.nums) (k : Nat) : t.rd k = s.rd k := by
  rw [State.rd, State.rd, h]

/-- What `resetBuckle` is for. -/
theorem State.buckleQuiet_resetBuckle (s : State) : s.resetBuckle.BuckleQuiet := by
  unfold State.resetBuckle
  extract_lets +onlyGivenNames zeroed
  have hz (k : Nat) (hk : k < 256) : zeroed.rd (Key.srcEvents k) = 0 := by
    have hm : Key.srcEvents k ∈ (List.range 256).map Key.srcEvents := List.mem_map.mpr ⟨k, List.mem_range.mpr hk, rfl⟩
    exact State.rd_each_wr_zero Key.srcEvents _ s (.inr hm)
  clear_value zeroed
  exact ⟨rfl, rfl, rfl, fun k hk => (State.rd_of_nums (by rfl) _).trans (hz k hk)⟩

/-- What leaves the Buckle's registers and the numbers of `SRC_EVENTS` alone leaves it quiet. -/
theorem State.BuckleQuiet.of_same {s t : State} (h : s.BuckleQuiet) (hb : SameBuckle s t)
    (hr : ∀ k, t.rd (Key.srcEvents k) = s.rd (Key.srcEvents k)) : t.BuckleQuiet := by
  obtain ⟨hp, hm, hl, hc⟩ := h
  obtain ⟨ep, em, el⟩ := hb
  exact ⟨ep.trans hp, em.trans hm, el.trans hl, fun k hk => (hr k).trans (hc k hk)⟩

/-! ### Posting and the readiness of the dictionary service at a cold start -/

@[simp] theorem State.ready_memFound (s : State) (k : Nat) (e : MemErr) (addr : Nat) :
    (s.memFound k e addr).dict.ready = s.dict.ready := by
  cases e <;> simp only [State.memFound, State.ready_post, State.bump_keeps]

@[simp] theorem State.ready_vbatPosts (s : State) (bad : List (Fin 2048)) : (s.vbatPosts bad).dict.ready = s.dict.ready :=
  State.each_same (fun t => t.dict.ready) (fun t _ => State.ready_memFound t ..) ..

@[simp] theorem State.ready_conStart (s : State) (cold : Bool) : (s.conStart cold).dict.ready = s.dict.ready := by
  unfold State.conStart
  split
  · rfl
  · split_ifs
    · simp only [State.tagPost, State.ready_post, State.setDom_keeps]
    · rfl

@[simp] theorem State.ready_postTamper (s : State) : s.postTamper.dict.ready = s.dict.ready := by
  unfold State.postTamper
  split_ifs
  · simp only [State.kPost, State.ready_post, State.raise_keeps]
  · rfl

@[simp] theorem State.ready_keeperCold (s : State) : s.keeperCold.dict.ready = s.dict.ready := by
  unfold State.keeperCold
  simp only [State.countSlots_keeps, State.ready_postTamper]
  split <;> simp only [State.ready_startEpoch, State.wr_keeps, State.deriveIdentity_keeps]

/-- The cores start without touching the main rails. -/
@[simp] theorem State.rails_coresStart (s : State) : s.coresStart.power.rails = s.power.rails := by
  unfold State.coresStart
  simp only [State.power_setPower]
  rw [State.each_same (fun t => t.power.rails), State.each_same (fun t => t.power.rails), State.each_same (fun t => t.power.rails)]
  · intro t n
    simp only [State.wr_keeps, State.setCore_keeps]
  · intro t n
    simp only [State.wr_keeps]
  · intro t n
    rfl

/-! ### The main domains go down (R542, R547) -/

theorem State.rd_srcEvents_mainDown (s : State) {k : Nat} (h : k < 256) : s.mainDown.rd (Key.srcEvents k) = 0 := by
  have hp : (lastingNum (Key.srcEvents k) || Key.srcEvents k == Key.tagFdWake) = false := by
    rw [lastingNum_srcEvents, Bool.false_or, beq_eq_false_iff_ne]
    exact Key.srcEvents_ne (by simp) k
  rw [State.rd, KMap.getD]
  have hf : KMap.find s.mainDown.dict.nums (Key.srcEvents k) = none := KMap.find_filter_none _ _ fun _ => hp
  rw [hf]
  exact dflt_srcEvents h

theorem State.buckleQuiet_mainDown (s : State) : s.mainDown.BuckleQuiet := ⟨rfl, rfl, rfl, fun _ h => s.rd_srcEvents_mainDown h⟩

/-- The device is held in reset for a cause: the main domains are down, and only VBAT is up. -/
def State.heldDown (s : State) (cause : Nat) : State :=
  (({ s with pins := { s.pins with resetLow := true } }).setPower
    { s.power with shutdown := none, held := false, cause := some cause }).mainDown.wr Key.pwrState 1

theorem resetNLow_of_no_shutdown {s : State} (hp : s.pwr ≠ 0) (hs : s.power.shutdown = none) :
    exec .resetNLow s = .next (s.heldDown 4) := by
  rw [exec_resetNLow, execResetNLow]
  simp only [hs]
  rw [if_neg (by rintro (h | h); exacts [absurd h Bool.false_ne_true, hp h])]
  rfl

theorem State.buckleQuiet_heldDown (s : State) (cause : Nat) : (s.heldDown cause).BuckleQuiet :=
  (State.buckleQuiet_mainDown _).of_same ⟨rfl, rfl, rfl⟩ fun k => State.rd_wr_ne _ _ (Key.srcEvents_ne (by simp) k)

/-! ### The cold start (R540, R549) -/

/-- What a cold start that finds the device down begins with: its cause is that of the state before. -/
theorem State.coldBegin_start (s : State) (bad : List (Fin 2048)) : (s.coldBegin bad).dict.ready = false ∧
    (s.coldBegin bad).power.rails = true ∧
    ∃ st, (s.coldBegin bad).power.start = some st ∧ st.cold = true ∧ (bad = [] → st.cause = s.coldCause) := by
  unfold State.coldBegin
  extract_lets +onlyGivenNames checked cause lost down clocked power begun dict loaded strapped selected
  have hcause : bad = [] → cause = s.coldCause := by rintro rfl; rfl
  refine ⟨?_, ?_, { cold := true, cause := cause, vbatLost := lost, since := clocked.elapsed }, ?_, rfl, hcause⟩
  · simp only [State.coresStart_keeps, State.resetCinch_keeps, State.ready_conStart, State.ready_keeperCold, State.portsStart_keeps,
      State.txLimits_keeps, State.ready_stampCheck, State.ready_vbatPosts]
    simp only [selected, State.treeSelect_keeps, strapped, State.wr_keeps]
    rfl
  · simp only [State.rails_coresStart, State.resetCinch_keeps, State.conStart_keeps, State.keeperCold_keeps, State.portsStart_keeps,
      State.txLimits_keeps, State.stampCheck_keeps, State.vbatPosts_keeps]
    simp only [selected, State.treeSelect_keeps, strapped, State.wr_keeps]
    rfl
  · simp only [State.start_coresStart, State.resetCinch_keeps, State.conStart_keeps, State.keeperCold_keeps, State.portsStart_keeps,
      State.txLimits_keeps, State.stampCheck_keeps, State.vbatPosts_keeps]
    simp only [selected, State.treeSelect_keeps, strapped, State.wr_keeps]
    rfl

/-- A cold start leaves the Buckle as R492 has it. -/
theorem State.buckleQuiet_coldBegin (s : State) (bad : List (Fin 2048)) : (s.coldBegin bad).BuckleQuiet := by
  unfold State.coldBegin
  extract_lets +onlyGivenNames checked cause lost down clocked power begun dict loaded strapped selected
  have hloaded : loaded.BuckleQuiet := ⟨rfl, rfl, rfl, fun k hk =>
    (State.getD_coldNums_of_ro _ (lastingNum_srcEvents k) (accessOf_srcEvents hk) _).trans (dflt_srcEvents hk)⟩
  refine hloaded.of_same ?_ fun k => ?_
  · simp only [SameBuckle, State.coresStart_keeps, State.resetCinch_keeps, State.conStart_keeps, State.keeperCold_keeps,
      State.portsStart_keeps, State.txLimits_keeps, State.stampCheck_keeps, State.vbatPosts_keeps]
    simp only [selected, State.treeSelect_keeps, strapped, State.wr_keeps, and_self]
  · rw [State.coresStart_rd (by simp), State.resetCinch_rd (by simp), State.conStart_rd (by simp), State.keeperCold_rd (by simp)]
    simp only [State.portsStart_keeps]
    rw [State.txLimits_rd (by simp), State.stampCheck_rd (by simp), State.vbatPosts_rd (by simp)]
    unfold selected strapped
    rw [State.treeSelect_rd (by simp), State.rd_wr_ne _ _ (Key.srcEvents_ne (by simp) k),
      State.rd_wr_ne _ _ (Key.srcEvents_ne (by simp) k)]

/-- The battery-backed registers of a device in OFF are cleared when it has power again. -/
def State.vbatPowered (s : State) : State :=
  if s.pwr = 0 then ({ s with vbat := Vbat.cleared }).wr Key.pwrState 1 else s

/-- The main rails have reached their operating ranges; the expanders lose their contents unless they stayed powered. -/
def State.railsUp (s : State) (kept : Bool) : State :=
  if kept then (s.setPower { s.power with rails := true }).vbatPowered
  else (s.setPower { s.power with rails := true }).vbatPowered.expandersLost

/-- `RESET_N` is released. -/
def State.resetReleased (s : State) : State := { s with pins := { s.pins with resetLow := false } }

/-- What a cold start's event does before the start begins. -/
def State.coldEnter (s : State) (ev : ColdEvent) (kept : Bool) : State :=
  match ev with
  | .rails o => if o ≠ railOrder then s else s.railsUp kept
  | .released => s.resetReleased

theorem State.coldEnter_railOrder (s : State) (kept : Bool) : s.coldEnter (.rails railOrder) kept = s.railsUp kept := by
  simp only [State.coldEnter, ne_eq, not_true_eq_false, if_false]

theorem State.coldEnter_released (s : State) (kept : Bool) : s.coldEnter .released kept = s.resetReleased := rfl

theorem State.vbatPowered_leaves (s : State) : s.vbatPowered.pins = s.pins ∧ s.vbatPowered.fuses = s.fuses ∧
    s.vbatPowered.ident = s.ident ∧ s.vbatPowered.power = s.power := by
  unfold State.vbatPowered
  split_ifs <;> simp only [State.wr_keeps, and_self]

theorem State.vbatPowered_of_pwr {s : State} (h : s.pwr ≠ 0) : s.vbatPowered = s := if_neg h

/-- The rails come up without touching the pins, the fuses or the identity, and of the power sequencing their own mark only. -/
theorem State.railsUp_leaves (s : State) (kept : Bool) : (s.railsUp kept).pins = s.pins ∧ (s.railsUp kept).fuses = s.fuses ∧
    (s.railsUp kept).ident = s.ident ∧ (s.railsUp kept).power = { s.power with rails := true } := by
  have h := (s.setPower { s.power with rails := true }).vbatPowered_leaves
  unfold State.railsUp
  cases kept
  · exact h
  · exact h

/-- While the device is not in OFF the rails come up without touching the battery-backed registers. -/
theorem State.vbat_railsUp {s : State} (h : s.pwr ≠ 0) (kept : Bool) : (s.railsUp kept).vbat = s.vbat := by
  unfold State.railsUp
  rw [State.vbatPowered_of_pwr (by simpa only [State.pwr, State.setPower_keeps] using h)]
  cases kept <;> rfl

/-- What a cold start's cause is taken from. -/
theorem State.coldCause_congr {s t : State} (hc : t.power.cause = s.power.cause) (hv : t.vbat.valid = s.vbat.valid)
    (hl : t.vbat.clean = s.vbat.clean) : t.coldCause = s.coldCause := by
  unfold State.coldCause
  rw [hc, hv, hl]

/-- Time that passes counts in the real-time clock, or sets it from the chain time (R434, R551). -/
theorem State.vbat_advance_cases (s : State) (dt : Nat) : ∃ v, (v = s.vbat ∨ v = rtcAfter s.vbat dt) ∧ ((s.advance dt).vbat = v ∨
    (s.advance dt).vbat = rtcWritten v (counterAfter s.clock s.increment dt) s.increment) := by
  unfold State.advance
  extract_lets +onlyGivenNames counted ticked locked
  exact ⟨ticked, ite_eq_or_eq .., (ite_eq_or_eq ..).symm⟩

/-- Setting the real-time clock leaves the marks of the battery-backed registers alone. -/
theorem rtcWritten_marks (v : Vbat) (c : Clock) (incr : Nat) :
    (rtcWritten v c incr).valid = v.valid ∧ (rtcWritten v c incr).clean = v.clean := ⟨rfl, rfl⟩

/-- Time that passes leaves the marks of the battery-backed registers alone. -/
theorem State.vbat_advance (s : State) (dt : Nat) : (s.advance dt).vbat.valid = s.vbat.valid ∧ (s.advance dt).vbat.clean = s.vbat.clean := by
  obtain ⟨v, hv, ha⟩ := s.vbat_advance_cases dt
  have hmarks : v.valid = s.vbat.valid ∧ v.clean = s.vbat.clean := by
    obtain rfl | rfl := hv <;> exact ⟨rfl, rfl⟩
  obtain ha | ha := ha
  · rw [ha]
    exact hmarks
  · obtain ⟨hvalid, hclean⟩ := rtcWritten_marks v (counterAfter s.clock s.increment dt) s.increment
    rw [ha, hvalid, hclean]
    exact hmarks

theorem State.alive_advance (s : State) (dt : Nat) : (s.advance dt).alive = s.alive := by
  simp only [State.alive, State.advance_keeps]

theorem coldStart_of_alive {s : State} (h : s.alive = true) (ev : ColdEvent) (kept : Bool) (bad : List (Fin 2048)) (dt : Nat) :
    exec (.coldStart ev kept bad dt) s = .next (s.advance dt) := by
  rw [exec_coldStart]
  unfold execColdStart
  simp only [State.alive_advance, h, if_true]

/-- Rails in another order hold the device (R557). -/
theorem coldStart_of_disorder {s : State} {o : List Rail} (ho : o ≠ railOrder) (hr : s.power.rails = false) (kept : Bool)
    (bad : List (Fin 2048)) (dt : Nat) : exec (.coldStart (.rails o) kept bad dt) s = .next (s.advance dt) := by
  have hr' : (s.advance dt).power.rails = false := by simp only [State.advance_keeps, hr]
  rw [exec_coldStart]
  unfold execColdStart
  simp only [if_pos ho, hr', Bool.not_false, Bool.true_or, if_true, ite_self]

/-- A device that is down and in no shutdown starts unless its rails are down or `RESET_N` is low. -/
theorem coldStart_of_down {s : State} (ha : s.alive = false) (hs : s.power.shutdown = none) (ev : ColdEvent) (kept : Bool)
    (bad : List (Fin 2048)) (dt : Nat) : exec (.coldStart ev kept bad dt) s =
      .next (if !((s.advance dt).coldEnter ev kept).power.rails || ((s.advance dt).coldEnter ev kept).pins.resetLow
        then (s.advance dt).coldEnter ev kept else ((s.advance dt).coldEnter ev kept).coldBegin bad) := by
  have ha' : (s.advance dt).alive = false := (s.alive_advance dt).trans ha
  have hs' : (s.advance dt).power.shutdown = none := by simp only [State.advance_keeps, hs]
  rw [exec_coldStart]
  unfold execColdStart
  extract_lets +onlyGivenNames passed free power railed powered pins entered
  have hfree : free = true := by simp only [free, passed, hs']
  rw [if_neg (by rw [ha']; decide)]
  have he : entered = passed.coldEnter ev kept := by
    cases ev with
    | rails o => rfl
    | released => rfl
  rw [he, hfree, if_pos rfl]

/-- A device that is down and in no shutdown starts when its rails come up in order while `RESET_N` is high. -/
theorem coldStart_of_rails {s : State} (ha : s.alive = false) (hs : s.power.shutdown = none) (hr : s.pins.resetLow = false) (kept : Bool)
    (bad : List (Fin 2048)) (dt : Nat) :
    exec (.coldStart (.rails railOrder) kept bad dt) s = .next (((s.advance dt).railsUp kept).coldBegin bad) := by
  obtain ⟨hpins, -, -, hpower⟩ := (s.advance dt).railsUp_leaves kept
  have hlow : ((s.advance dt).railsUp kept).pins.resetLow = false := by rw [hpins]; simp only [State.advance_keeps, hr]
  have hup : ((s.advance dt).railsUp kept).power.rails = true := by rw [hpower]
  rw [coldStart_of_down ha hs, State.coldEnter_railOrder, if_neg (by rw [hlow, hup]; decide)]

/-- A device that is down and in no shutdown, its rails up, starts when `RESET_N` is released. -/
theorem coldStart_of_released {s : State} (ha : s.alive = false) (hs : s.power.shutdown = none) (hr : s.power.rails = true) (kept : Bool)
    (bad : List (Fin 2048)) (dt : Nat) :
    exec (.coldStart .released kept bad dt) s = .next ((s.advance dt).resetReleased.coldBegin bad) := by
  have hlow : (s.advance dt).resetReleased.pins.resetLow = false := rfl
  have hup : (s.advance dt).resetReleased.power.rails = true := by simp only [State.resetReleased, State.advance_keeps, hr]
  rw [coldStart_of_down ha hs, State.coldEnter_released, if_neg (by rw [hlow, hup]; decide)]

/-- A cold start of a device that is down, by its rails or by the release of `RESET_N`, begins a start from a state that keeps the fuses and the
identity, and the cause unless the device was in OFF. -/
theorem coldStart_begins {ev : ColdEvent} {s : State} (ha : s.alive = false) (hs : s.power.shutdown = none)
    (hev : ev = .rails railOrder ∧ s.pins.resetLow = false ∨ ev = .released ∧ s.power.rails = true) (kept : Bool)
    (bad : List (Fin 2048)) (dt : Nat) : ∃ u : State, exec (.coldStart ev kept bad dt) s = .next (u.coldBegin bad) ∧ u.fuses = s.fuses ∧
      u.ident = s.ident ∧ (s.pwr ≠ 0 → u.coldCause = s.coldCause) := by
  obtain ⟨hvalid, hclean⟩ := s.vbat_advance dt
  obtain ⟨rfl, hr⟩ | ⟨rfl, hr⟩ := hev
  · obtain ⟨-, hfuses, hident, hpower⟩ := (s.advance dt).railsUp_leaves kept
    refine ⟨_, coldStart_of_rails ha hs hr kept bad dt, ?_, ?_, fun hp => ?_⟩
    · rw [hfuses]; simp only [State.advance_keeps]
    · rw [hident]; simp only [State.advance_keeps]
    · have hv : ((s.advance dt).railsUp kept).vbat = (s.advance dt).vbat :=
        State.vbat_railsUp (by simpa only [State.pwr, State.advance_keeps] using hp) kept
      exact State.coldCause_congr (by rw [hpower]; simp only [State.advance_keeps]) (by rw [hv, hvalid]) (by rw [hv, hclean])
  · refine ⟨_, coldStart_of_released ha hs hr kept bad dt, ?_, ?_, fun _ => ?_⟩
    · simp only [State.resetReleased, State.advance_keeps]
    · simp only [State.resetReleased, State.advance_keeps]
    · exact State.coldCause_congr (by simp only [State.resetReleased, State.advance_keeps]) hvalid hclean

/-! ### What a stop of the radio leaves of Lacing -/

/-- The outcome of a transmission changes campaigns, not the marks of their stored target lists. -/
@[simp] theorem State.lists_txReport (s : State) (q : TxReq) (code word octets last : Nat) :
    (s.txReport q code word octets last).lacing.lists = s.lacing.lists := by
  unfold State.txReport
  extract_lets +onlyGivenNames counted
  have hc : counted.lacing.lists = s.lacing.lists := by
    unfold counted
    split_ifs <;> simp only [State.bump_keeps]
  clear_value counted
  rw [← hc]
  split
  case h_1 => split_ifs <;> simp only [State.modCell_keeps]
  case h_2 => rfl
  case h_3 => rfl
  case h_4 => split_ifs <;> rfl
  case h_5 => simp only; split_ifs <;> simp only [State.setRec_keeps, State.modCell_keeps, State.modHead_keeps, State.attemptFailed_keeps]
  case h_6 => simp only [State.reportFinal_keeps]

@[simp] theorem State.lists_txFinish (s : State) (n code : Nat) : (s.txFinish n code).lacing.lists = s.lacing.lists := by
  unfold State.txFinish
  split
  case h_1 => rfl
  case h_2 j _ =>
    extract_lets +onlyGivenNames used released aired counted word tile freed idle unplacedTile burst octets
    have hreleased : released.lacing = s.lacing := by
      unfold released
      split_ifs <;> simp only [State.release_keeps]
    have haired : aired.lacing = s.lacing := by
      unfold aired
      split_ifs <;> simp only [State.addAir_keeps, hreleased]
    have hidle : idle.lacing = s.lacing := by
      simp only [idle, freed, counted, State.wr_keeps, State.setTx_keeps, State.txCount_keeps, haired]
    have hunplaced : unplacedTile.lacing = s.lacing := by
      unfold unplacedTile
      split_ifs <;> simp only [State.wr_keeps, hidle]
    have hburst : burst.lacing = s.lacing := by
      unfold burst
      split_ifs <;> simp only [State.burstMark_keeps, State.airOut_keeps, hunplaced]
    simp only [State.lists_txReport, State.placeTx_keeps, hburst]

@[simp] theorem State.lists_portStop (s : State) (p : Nat) : (s.portStop p).lacing.lists = s.lacing.lists := by
  unfold State.portStop
  simp only [State.portEnter_keeps, State.setPort_keeps, State.resEndIfBusy_keeps, State.preempt_keeps]
  rw [State.each_same (fun t => t.lacing.lists), State.each_same (fun t => t.lacing.lists)]
  · exact fun t n => State.lists_txFinish ..
  · exact fun t n => State.lists_txFinish ..

@[simp] theorem State.lists_radioWarm (s : State) : s.radioWarm.lacing.lists = s.lacing.lists := by
  unfold State.radioWarm
  extract_lets +onlyGivenNames stopped
  have h : stopped.lacing.lists = s.lacing.lists := by
    unfold stopped
    rw [State.each_same (fun t => t.lacing.lists)]
    exact fun t p => State.lists_portStop t p
  clear_value stopped
  exact h

/-! ### The warm reset (R547) -/

/-- A warm reset leaves the Buckle as R492 has it. -/
theorem State.buckleQuiet_warmReset (s : State) (cause : Nat) : (s.warmReset cause).BuckleQuiet := by
  unfold State.warmReset
  extract_lets +onlyGivenNames cut moved quiet cleared portsEnded runsEnded held power begun pins chain tables lacing
    cores emptied tabled har unleft hosted
  refine (State.buckleQuiet_resetBuckle unleft).of_same ?_ fun k => ?_
  · simp only [SameBuckle, State.coresStart_keeps, State.resetCinch_keeps, State.keeperWarm_keeps, State.portsStart_keeps,
      State.txLimits_keeps, State.stampCheck_keeps, State.treeSelect_keeps]
    simp only [hosted, State.wr_keeps, State.conStart_keeps, State.resetCon_keeps, State.hifReset_keeps, and_self]
  · rw [State.coresStart_rd (by simp), State.resetCinch_rd (by simp), State.keeperWarm_rd (by simp)]
    simp only [State.portsStart_keeps]
    rw [State.txLimits_rd (by simp), State.stampCheck_rd (by simp), State.treeSelect_rd (by simp)]
    unfold hosted
    rw [State.rd_wr_ne _ _ (Key.srcEvents_ne (by simp) k), State.conStart_rd (by simp), State.resetCon_rd (by simp)]
    simp only [State.hifReset_keeps]

/-- What a warm reset empties, and what it starts anew: the tables, the node queues, the pulse outputs, and the campaigns but not the marks of
their stored target lists. -/
theorem State.warmReset_empties (s : State) (cause : Nat) : (s.warmReset cause).tables.prefixes = [] ∧
    (s.warmReset cause).tables.halter = [] ∧ (s.warmReset cause).lacing = { s.lacing with camps := [] } ∧
    (s.warmReset cause).sb.nodes = [] ∧ (s.warmReset cause).pulses = State.reset.pulses := by
  unfold State.warmReset
  extract_lets +onlyGivenNames cut moved quiet cleared portsEnded runsEnded held power begun pins chain tables lacing
    cores emptied tabled har unleft hosted
  have hports : portsEnded.lacing.lists = s.lacing.lists := by
    refine (State.each_same (fun t => t.lacing.lists) ?_ _ _).trans ?_
    · intro t p
      simp only [State.setRes_keeps]
    · simp only [cleared, quiet, State.dictWarm_keeps, State.girthWarm_keeps, State.coresWarm_keeps, State.lists_radioWarm]
  have hruns : runsEnded.lacing.lists = s.lacing.lists := by
    unfold runsEnded
    split_ifs
    · simpa only [State.setRes_keeps] using hports
    · exact hports
  have hemptied : emptied.lacing = { s.lacing with camps := [] } := congrArg (fun l => ({ camps := [], lists := l } : Lacing)) hruns
  have hpulses : emptied.pulses = State.reset.pulses := rfl
  clear_value emptied
  simp only [State.coresStart_keeps, State.resetCinch_keeps, State.keeperWarm_keeps, State.portsStart_keeps, State.txLimits_keeps,
    State.stampCheck_keeps, State.treeSelect_keeps]
  simp only [hosted, State.wr_keeps, State.conStart_keeps, State.resetCon_keeps, State.hifReset_keeps, State.resetBuckle_keeps]
  simp only [unleft, tabled, State.resetStraps_keeps, State.resetTables_keeps, hemptied, hpulses]
  exact ⟨rfl, rfl, trivial, rfl, trivial⟩

theorem warmReset_of_ready {s : State} (h : s.dict.ready = true) (c : Fin 4) :
    exec (.warmReset c) s = .next (s.warmReset (6 + c)) := by
  rw [exec_warmReset, execWarmReset, State.ownReset, if_pos (by rw [h, Bool.true_or])]

/-- A device that is down has nothing to reset. -/
theorem warmReset_of_down {s : State} (h : s.alive = false) (c : Fin 4) : exec (.warmReset c) s = .next s := by
  rw [exec_warmReset, execWarmReset, State.ownReset, if_neg (by rw [State.alive] at h; rw [h]; decide)]

/-! ### The watchdog (R547) and the battery supply (R551) -/

theorem watchdogExpiry_expired {dt : Nat} {s : State} (hr : s.dict.ready = true) (hi : s.coreIsland 0 = true)
    (hd : s.power.watchdog + ms 2000 ≤ (s.advance dt).elapsed) :
    exec (.watchdogExpiry dt) s = .next ((s.advance dt).warmReset 9) := by
  have hi' : (s.advance dt).coreIsland 0 = true := by simp only [State.advance_keeps, hi]
  have hd' : (s.advance dt).power.watchdog + ms 2000 ≤ (s.advance dt).elapsed := by simpa only [State.advance_keeps] using hd
  have hr' : (s.advance dt).dict.ready = true := by simp only [State.advance_keeps, hr]
  rw [exec_watchdogExpiry, execWatchdogExpiry]
  simp only [hi', hd', decide_true, Bool.and_self, if_true]
  rw [State.ownReset, if_pos (by rw [hr', Bool.true_or])]

theorem watchdogExpiry_early {dt : Nat} {s : State} (hd : (s.advance dt).elapsed < s.power.watchdog + ms 2000) :
    exec (.watchdogExpiry dt) s = .next (s.advance dt) := by
  have hd' : ¬ (s.advance dt).power.watchdog + ms 2000 ≤ (s.advance dt).elapsed := by
    simpa only [State.advance_keeps, not_le] using hd
  rw [exec_watchdogExpiry, execWatchdogExpiry]
  simp only [hd', decide_false, Bool.and_false, Bool.false_eq_true, if_false]

theorem vbatLost_of_rails_down {s : State} (h : s.power.rails = false) : exec .vbatLost s =
    .next (({ s with vbat := { Vbat.cleared with low := true }, pins := { s.pins with fdLow := false } }).wr Key.pwrState 0) := by
  rw [exec_vbatLost, execVbatLost, if_neg (by rw [h]; decide)]

theorem vbatLost_of_rails_up {s : State} (h : s.power.rails = true) : exec .vbatLost s = .next s := by
  rw [exec_vbatLost, execVbatLost, if_pos h]

theorem vbatSupplyRise_of_lost {s : State} (hr : s.power.rails = false) (hv : s.vbat.valid = false) : exec .vbatSupplyRise s =
    .next (({ s with vbat := Vbat.cleared }).wr Key.pwrState 1) := by
  rw [exec_vbatSupplyRise, execVbatSupplyRise, if_neg (by rw [hr, hv]; decide)]

theorem vbatSupplyRise_of_valid {s : State} (h : s.vbat.valid = true) : exec .vbatSupplyRise s = .next s := by
  rw [exec_vbatSupplyRise, execVbatSupplyRise, if_pos (.inr h)]

/-! ### The statement -/

/-- Settles O54: each command by its equation above. At each of the three resets R492 is one lemma (`State.buckleQuiet_heldDown`,
`State.buckleQuiet_coldBegin`, `State.buckleQuiet_warmReset`). -/
theorem resets : Obligations.Resets := by
  unfold Obligations.Resets
  refine ⟨?quiet, ?cold, ?disorder, ?coldAlive, ?low, ?warm, ?warmDown, ?refresh, ?expiry, ?early, ?lost, ?lostUp, ?rise, ?riseValid⟩
  case quiet =>
    intro s quiet
    refine ⟨fun hp hs => ?_, fun kept bad dt ha hs hr => ?_, fun c hr => ?_⟩
    · rw [resetNLow_of_no_shutdown hp hs, gives_next]
      exact State.buckleQuiet_heldDown s 4
    · rw [coldStart_of_rails ha hs hr, gives_next]
      exact State.buckleQuiet_coldBegin ..
    · rw [warmReset_of_ready hr, gives_next]
      exact State.buckleQuiet_warmReset ..
  case cold =>
    intro ev kept bad dt s ha hs hev
    obtain ⟨u, hu, hfuses, hident, hcause⟩ := coldStart_begins ha hs hev kept bad dt
    rw [hu, gives_next]
    obtain ⟨hready, hrails, st, hst, hcold, hc⟩ := u.coldBegin_start bad
    refine ⟨hready, ?_, ?_, hrails, st, hst, hcold, fun hb hp => (hc hb).trans (hcause hp)⟩
    · simp only [State.coldBegin_keeps, hfuses]
    · simp only [State.coldBegin_keeps, hident]
  case disorder =>
    intro o kept bad dt s ho hr
    rw [coldStart_of_disorder ho hr, gives_next]
  case coldAlive =>
    intro ev kept bad dt s ha
    rw [coldStart_of_alive ha, gives_next]
  case low =>
    intro s hp hs
    rw [resetNLow_of_no_shutdown hp hs, gives_next]
    exact ⟨rfl, State.rd_wr_self .., rfl, rfl, rfl, rfl, rfl, rfl⟩
  case warm =>
    intro c s hr
    rw [warmReset_of_ready hr, gives_next]
    obtain ⟨hready, hstart⟩ := s.warmReset_start (6 + c)
    obtain ⟨hprefixes, hhalter, hlacing, hnodes, hpulses⟩ := s.warmReset_empties (6 + c)
    exact ⟨hready, hstart, hprefixes, hhalter, hlacing, hnodes, by simp only [State.warmReset_keeps], by simp only [State.warmReset_keeps],
      hpulses⟩
  case warmDown =>
    intro c s ha
    rw [warmReset_of_down ha, gives_next]
  case refresh =>
    intro s
    rw [exec_watchdogRefresh, execWatchdogRefresh, gives_next]
    exact ⟨rfl, rfl⟩
  case expiry =>
    intro dt s hr hi hd
    rw [watchdogExpiry_expired hr hi hd, gives_next]
    exact (s.advance dt).warmReset_start 9
  case early =>
    intro dt s hd
    rw [watchdogExpiry_early hd, gives_next]
  case lost =>
    intro s hr
    rw [vbatLost_of_rails_down hr, gives_next]
    exact ⟨rfl, rfl, rfl, State.rd_wr_self ..⟩
  case lostUp =>
    intro s hr
    rw [vbatLost_of_rails_up hr, gives_next]
  case rise =>
    intro s hr hv
    rw [vbatSupplyRise_of_lost hr hv, gives_next]
    exact ⟨rfl, State.rd_wr_self .., rfl⟩
  case riseValid =>
    intro s hv
    rw [vbatSupplyRise_of_valid hv, gives_next]

end Machine

end Sys2Proof
end

section
/-! Proofs of the statements about every step: the parts that a command touches, the identity of the part, and the form of the memories. -/

namespace Sys2Proof.Machine

/-- A choice of parts that also shows the form of its memories, or does not. -/
def Touch.showing (M : Touch) (b : Bool) : Touch := { M with form := b }

/-- A choice of parts with the local memories may change them where it does not show their form, or where it is canonical. -/
theorem Touch.Locals.shown {M : Touch} {s : State} (h : M.locals = true)
    (hf : M.form = true → KMap.canon (fun _ => 0#8) s.cores.mem = true) : M.Locals (s.outside M) :=
  ⟨h, fun e => by simp only [State.outside, h, e, cond_true, memForm_nil.mpr (hf e)]⟩

/-- The same of the attached memory. -/
theorem Touch.Attached.shown {M : Touch} {s : State} (h : M.attached = true)
    (hf : M.form = true → KMap.canon (fun _ => 0#8) s.sb.mem = true) : M.Attached (s.outside M) :=
  ⟨h, fun e => by simp only [State.outside, h, e, cond_true, memForm_nil.mpr (hf e)]⟩

/-- Every command completes and leaves what is outside its own parts; with them it leaves the form of canonical memories. -/
theorem exec_outside (c : Instr) (s : State) (b : Bool) {T : Touch} (hT : touches c = T)
    (hl : b = true → KMap.canon (fun _ => 0#8) s.cores.mem = true) (ha : b = true → KMap.canon (fun _ => 0#8) s.sb.mem = true) :
    NextOutside (T.showing b) (s.outside (T.showing b)) (exec c s) := by
  cases c with ((conv_lhs at hT => whnf); subst hT)
  | scrubPass => apply execScrubPass_outside (_clash := false) (hs := rfl) <;> rfl
  | bridgeFlitCrcFail => apply execBridgeFlitCrcFail_outside (hs := rfl) <;> rfl
  | sampleOverrun => apply execSampleOverrun_outside (hs := rfl) <;> rfl
  | islandStart => apply execIslandStart_outside (hs := rfl) <;> rfl
  | islandOn => apply execIslandOn_outside (hs := rfl) <;> rfl
  | islandStop => apply execIslandStop_outside (hs := rfl) <;> rfl
  | islandOff => apply execIslandOff_outside (hs := rfl) <;> rfl
  | islandDwellEnd => apply execIslandDwellEnd_outside (hs := rfl) <;> rfl
  | linkSignalDetected => apply execLinkSignalDetected_outside (hs := rfl) <;> rfl
  | linkLocked => apply execLinkLocked_outside (hs := rfl) <;> rfl
  | linkFrameRx => apply execLinkFrameRx_outside (hs := rfl) <;> rfl
  | linkFrameTx => apply execLinkFrameTx_outside (hs := rfl) <;> rfl
  | linkDown => apply execLinkDown_outside (hs := rfl) <;> rfl
  | chainFrameRx => apply execChainFrameRx_outside (hLocals := .shown rfl hl) (hAttached := .shown rfl ha) (hs := rfl) <;> rfl
  | chainFrameAbort => apply execChainFrameAbort_outside (hs := rfl) <;> rfl
  | chainFrameTx => apply execChainFrameTx_outside (hs := rfl) <;> rfl
  | surveyRx => apply execSurveyRx_outside (hs := rfl) <;> rfl
  | surveyReturn => apply execSurveyReturn_outside (hs := rfl) <;> rfl
  | assignRx => apply execAssignRx_outside (hs := rfl) <;> rfl
  | assignReturn p m => apply execAssignReturn_outside (_m := m) (hs := rfl) <;> rfl
  | topoRx => apply execTopoRx_outside (hs := rfl) <;> rfl
  | enumAutoStart => apply execEnumAutoStart_outside (hs := rfl) <;> rfl
  | chainEnumIncremental => apply execChainEnumIncremental_outside (hs := rfl) <;> rfl
  | chainEnumFull => apply execChainEnumFull_outside (hs := rfl) <;> rfl
  | enumPassTimeout => apply execEnumPassTimeout_outside (hs := rfl) <;> rfl
  | headBroadcast => apply execHeadBroadcast_outside (hs := rfl) <;> rfl
  | headRx => apply execHeadRx_outside (hs := rfl) <;> rfl
  | headMissTakeover => apply execHeadMissTakeover_outside (hs := rfl) <;> rfl
  | chainSwitchover => apply execChainSwitchover_outside (hs := rfl) <;> rfl
  | delayMeasure => apply execDelayMeasure_outside (hs := rfl) <;> rfl
  | delayReqRx => apply execDelayReqRx_outside (hs := rfl) <;> rfl
  | delayRspRx => apply execDelayRspRx_outside (hs := rfl) <;> rfl
  | timeFrameTx => apply execTimeFrameTx_outside (hs := rfl) <;> rfl
  | timeFrameRx => apply execTimeFrameRx_outside (hs := rfl) <;> rfl
  | sbReqIssue => apply execSbReqIssue_outside (hs := rfl) <;> rfl
  | sbReqRx => apply execSbReqRx_outside (hs := rfl) <;> rfl
  | sbRspRx => apply execSbRspRx_outside (hs := rfl) <;> rfl
  | sbTimeout => apply execSbTimeout_outside (hs := rfl) <;> rfl
  | read => apply execRead_outside (hLocals := .shown rfl hl) (hAttached := .shown rfl ha) (hs := rfl) <;> rfl
  | write => apply execWrite_outside (hLocals := .shown rfl hl) (hAttached := .shown rfl ha) (hs := rfl) <;> rfl
  | readBlock => apply execReadBlock_outside (hLocals := .shown rfl hl) (hAttached := .shown rfl ha) (hs := rfl) <;> rfl
  | writeBlock => apply execWriteBlock_outside (hLocals := .shown rfl hl) (hAttached := .shown rfl ha) (hs := rfl) <;> rfl
  | prepare => apply execPrepare_outside (hLocals := .shown rfl hl) (hAttached := .shown rfl ha) (hs := rfl) <;> rfl
  | commit => apply execCommit_outside (hLocals := .shown rfl hl) (hAttached := .shown rfl ha) (hs := rfl) <;> rfl
  | abort => apply execAbort_outside (hLocals := .shown rfl hl) (hAttached := .shown rfl ha) (hs := rfl) <;> rfl
  | notify => apply execNotify_outside (hLocals := .shown rfl hl) (hAttached := .shown rfl ha) (hs := rfl) <;> rfl
  | notifyEventSend => apply execNotifyEventSend_outside (hs := rfl) <;> rfl
  | dictRetryTimeout => apply execDictRetryTimeout_outside (hs := rfl) <;> rfl
  | dictResponseRx => apply execDictResponseRx_outside (hs := rfl) <;> rfl
  | blockIdleExpiry => apply execBlockIdleExpiry_outside (hs := rfl) <;> rfl
  | txnIdleExpiry => apply execTxnIdleExpiry_outside (hs := rfl) <;> rfl
  | commitGraceExpiry => apply execCommitGraceExpiry_outside (hs := rfl) <;> rfl
  | epochApply => apply execEpochApply_outside (hs := rfl) <;> rfl
  | graceEnd => apply execGraceEnd_outside (hs := rfl) <;> rfl
  | dictStore => apply execDictStore_outside (hs := rfl) <;> rfl
  | dictErase => apply execDictErase_outside (hs := rfl) <;> rfl
  | dictStoreDone => apply execDictStoreDone_outside (hs := rfl) <;> rfl
  | clampLogClear => apply execClampLogClear_outside (hs := rfl) <;> rfl
  | errLogClear => apply execErrLogClear_outside (hs := rfl) <;> rfl
  | registerWrite => apply execRegisterWrite_outside (hLocals := .shown rfl hl) (hAttached := .shown rfl ha) (hs := rfl) <;> rfl
  | portStateCmd => apply execPortStateCmd_outside (hs := rfl) <;> rfl
  | portTransitionDone => apply execPortTransitionDone_outside (hs := rfl) <;> rfl
  | portDwellEnd => apply execPortDwellEnd_outside (hs := rfl) <;> rfl
  | synthLockLost => apply execSynthLockLost_outside (hs := rfl) <;> rfl
  | synthRelockDone => apply execSynthRelockDone_outside (hs := rfl) <;> rfl
  | retuneStart => apply execRetuneStart_outside (hs := rfl) <;> rfl
  | calCmd => apply execCalCmd_outside (hs := rfl) <;> rfl
  | calPeriodic => apply execCalPeriodic_outside (hs := rfl) <;> rfl
  | oscCalMeasure => apply execOscCalMeasure_outside (hs := rfl) <;> rfl
  | calWindowOpen => apply execCalWindowOpen_outside (hs := rfl) <;> rfl
  | calWindowEnd => apply execCalWindowEnd_outside (hs := rfl) <;> rfl
  | calNoWindow => apply execCalNoWindow_outside (hs := rfl) <;> rfl
  | stampLock => apply execStampLock_outside (hs := rfl) <;> rfl
  | stampLockDone => apply execStampLockDone_outside (hs := rfl) <;> rfl
  | pdMeasure => apply execPdMeasure_outside (hs := rfl) <;> rfl
  | portStarved => apply execPortStarved_outside (hs := rfl) <;> rfl
  | rxDetect => apply execRxDetect_outside (hs := rfl) <;> rfl
  | qualifierConfirm => apply execQualifierConfirm_outside (hs := rfl) <;> rfl
  | detectTimeout => apply execDetectTimeout_outside (hs := rfl) <;> rfl
  | sfdFound => apply execSfdFound_outside (hs := rfl) <;> rfl
  | sfdTimeout => apply execSfdTimeout_outside (hs := rfl) <;> rfl
  | phrRx => apply execPhrRx_outside (hs := rfl) <;> rfl
  | despreadTimeout => apply execDespreadTimeout_outside (hs := rfl) <;> rfl
  | rxFrameEnd => apply execRxFrameEnd_outside (hs := rfl) <;> rfl
  | capture => apply execCapture_outside (hs := rfl) <;> rfl
  | lateArrival => apply execLateArrival_outside (hs := rfl) <;> rfl
  | adcClipGainStep => apply execAdcClipGainStep_outside (hs := rfl) <;> rfl
  | portGainStep => apply execPortGainStep_outside (hs := rfl) <;> rfl
  | placementChange => apply execPlacementChange_outside (hs := rfl) <;> rfl
  | backstitchEngineStart => apply execBackstitchEngineStart_outside (hs := rfl) <;> rfl
  | backstitchQueueTimeout => apply execBackstitchQueueTimeout_outside (hs := rfl) <;> rfl
  | backstitchFrameEnd => apply execBackstitchFrameEnd_outside (hs := rfl) <;> rfl
  | txCommit => apply execTxCommit_outside (hs := rfl) <;> rfl
  | lbtListenDue => apply execLbtListenDue_outside (hs := rfl) <;> rfl
  | lbtListenEnd => apply execLbtListenEnd_outside (hs := rfl) <;> rfl
  | rampDue => apply execRampDue_outside (hs := rfl) <;> rfl
  | txWindowEnd => apply execTxWindowEnd_outside (hs := rfl) <;> rfl
  | rampUpEnd => apply execRampUpEnd_outside (hs := rfl) <;> rfl
  | lastChip => apply execLastChip_outside (hs := rfl) <;> rfl
  | rampDownEnd => apply execRampDownEnd_outside (hs := rfl) <;> rfl
  | dutyBucketAdvance => apply execDutyBucketAdvance_outside (hs := rfl) <;> rfl
  | beaconSend => apply execBeaconSend_outside (hs := rfl) <;> rfl
  | assocRequestRx => apply execAssocRequestRx_outside (hs := rfl) <;> rfl
  | dlAckRx => apply execDlAckRx_outside (hs := rfl) <;> rfl
  | dlAckTimeout => apply execDlAckTimeout_outside (hs := rfl) <;> rfl
  | broadcastDownlink => apply execBroadcastDownlink_outside (hs := rfl) <;> rfl
  | guardLimit => apply execGuardLimit_outside (hs := rfl) <;> rfl
  | handoverConfirm => apply execHandoverConfirm_outside (hs := rfl) <;> rfl
  | handoverStateRx => apply execHandoverStateRx_outside (hs := rfl); rfl
  | handoverIeSend => apply execHandoverIeSend_outside (hs := rfl) <;> rfl
  | handoverHReached => apply execHandoverHReached_outside (hs := rfl) <;> rfl
  | handoverFinalRx => apply execHandoverFinalRx_outside (hs := rfl) <;> rfl
  | handoverForwardEnd => apply execHandoverForwardEnd_outside (hs := rfl) <;> rfl
  | handoverAbandon => apply execHandoverAbandon_outside (hs := rfl) <;> rfl
  | wheelTick => apply execWheelTick_outside (hs := rfl) <;> rfl
  | farListMove => apply execFarListMove_outside (hs := rfl) <;> rfl
  | downlinkCellPlanning => apply execDownlinkCellPlanning_outside (hs := rfl) <;> rfl
  | uplinkCellPlanning => apply execUplinkCellPlanning_outside (hs := rfl) <;> rfl
  | cellEndCharge => apply execCellEndCharge_outside (hs := rfl) <;> rfl
  | schedRebuild => apply execSchedRebuild_outside (hs := rfl) <;> rfl
  | dayStartChange => apply execDayStartChange_outside (hs := rfl) <;> rfl
  | cinchTick => apply execCinchTick_outside (hs := rfl) <;> rfl
  | harnessFrameIn => apply execHarnessFrameIn_outside (hs := rfl) <;> rfl
  | outputDequeue => apply execOutputDequeue_outside (hs := rfl) <;> rfl
  | outputLinkDownDiscard => apply execOutputLinkDownDiscard_outside (hs := rfl) <;> rfl
  | spillWriteDone => apply execSpillWriteDone_outside (hs := rfl) <;> rfl
  | spillFetch => apply execSpillFetch_outside (hs := rfl) <;> rfl
  | shaperCalendarFire => apply execShaperCalendarFire_outside (hs := rfl) <;> rfl
  | curbSample => apply execCurbSample_outside (hs := rfl) <;> rfl
  | cxlTrainingStart => apply execCxlTrainingStart_outside (hs := rfl) <;> rfl
  | cxlTrained => apply execCxlTrained_outside (hAttached := .shown rfl ha) (hs := rfl) <;> rfl
  | cxlTrainTimeout => apply execCxlTrainTimeout_outside (hs := rfl) <;> rfl
  | cxlRetrainStart => apply execCxlRetrainStart_outside (hs := rfl) <;> rfl
  | cxlRetrainDone => apply execCxlRetrainDone_outside (hs := rfl) <;> rfl
  | cxlRetrainFail => apply execCxlRetrainFail_outside (hs := rfl) <;> rfl
  | sbAccessDone => apply execSbAccessDone_outside (hAttached := .shown rfl ha) (hs := rfl) <;> rfl
  | strapPush => apply execStrapPush_outside (hs := rfl) <;> rfl
  | strapMiddleWrite => apply execStrapMiddleWrite_outside (hs := rfl) <;> rfl
  | strapMiddleRead => apply execStrapMiddleRead_outside (hs := rfl) <;> rfl
  | weltClose => apply execWeltClose_outside (hs := rfl) <;> rfl
  | pointerMismatch => apply execPointerMismatch_outside (hs := rfl) <;> rfl
  | downlinkEnqueue => apply execDownlinkEnqueue_outside (hs := rfl) <;> rfl
  | downlinkHeadRead => apply execDownlinkHeadRead_outside (hs := rfl) <;> rfl
  | headReadTimeout => apply execHeadReadTimeout_outside (hs := rfl) <;> rfl
  | holdDrain => apply execHoldDrain_outside (hs := rfl) <;> rfl
  | journalRecordCommit => apply execJournalRecordCommit_outside (hAttached := .shown rfl ha) (hs := rfl) <;> rfl
  | journalHeaderRewrite => apply execJournalHeaderRewrite_outside (hAttached := .shown rfl ha) (hs := rfl) <;> rfl
  | brInsert => apply execBrInsert_outside (hs := rfl) <;> rfl
  | brDelete => apply execBrDelete_outside (hs := rfl) <;> rfl
  | brRead => apply execBrRead_outside (hs := rfl) <;> rfl
  | brFlush => apply execBrFlush_outside (hs := rfl) <;> rfl
  | nhWrite => apply execNhWrite_outside (hs := rfl) <;> rfl
  | clWrite => apply execClWrite_outside (hs := rfl) <;> rfl
  | haInsert => apply execHaInsert_outside (hs := rfl) <;> rfl
  | haDelete => apply execHaDelete_outside (hs := rfl) <;> rfl
  | haRead => apply execHaRead_outside (hs := rfl) <;> rfl
  | haReadBucket => apply execHaReadBucket_outside (hs := rfl) <;> rfl
  | halterAgeing => apply execHalterAgeing_outside (hs := rfl) <;> rfl
  | kGenerate => apply execKGenerate_outside (hs := rfl) <;> rfl
  | kDerive => apply execKDerive_outside (hs := rfl) <;> rfl
  | kImport => apply execKImport_outside (hs := rfl) <;> rfl
  | kExport => apply execKExport_outside (hs := rfl) <;> rfl
  | kInvalidate => apply execKInvalidate_outside (hs := rfl) <;> rfl
  | kReadAttr => apply execKReadAttr_outside (hs := rfl) <;> rfl
  | kLinkWrap => apply execKLinkWrap_outside (hs := rfl) <;> rfl
  | orphanSweep => apply execOrphanSweep_outside (hs := rfl) <;> rfl
  | keeperProvision => apply execKeeperProvision_outside (hs := rfl) <;> rfl
  | attest => apply execAttest_outside (hs := rfl) <;> rfl
  | tamperDetect => apply execTamperDetect_outside (hs := rfl) <;> rfl
  | tamperReport => apply execTamperReport_outside (hs := rfl) <;> rfl
  | vbatLowZero => apply execVbatLowZero_outside (hs := rfl); rfl
  | campStart => apply execCampStart_outside (hs := rfl) <;> rfl
  | campPause => apply execCampPause_outside (hs := rfl) <;> rfl
  | campResume => apply execCampResume_outside (hs := rfl) <;> rfl
  | campStop => apply execCampStop_outside (hs := rfl) <;> rfl
  | campLoadDone => apply execCampLoadDone_outside (hs := rfl) <;> rfl
  | announceResend => apply execAnnounceResend_outside (hs := rfl) <;> rfl
  | burstPlanning => apply execBurstPlanning_outside (hs := rfl) <;> rfl
  | laceReportTake => apply execLaceReportTake_outside (hs := rfl) <;> rfl
  | campDeadline => apply execCampDeadline_outside (hs := rfl) <;> rfl
  | laceReadFail => apply execLaceReadFail_outside (hs := rfl) <;> rfl
  | treeSwitch => apply execTreeSwitch_outside (hs := rfl) <;> rfl
  | seatOk => apply execSeatOk_outside (hs := rfl) <;> rfl
  | seatWindowExpiry => apply execSeatWindowExpiry_outside (hs := rfl) <;> rfl
  | bankWipe => apply execBankWipe_outside (hs := rfl) <;> rfl
  | bankWipeDone => apply execBankWipeDone_outside (hs := rfl) <;> rfl
  | timeStep => apply execTimeStep_outside (hs := rfl) <;> rfl
  | timeSet => apply execTimeSet_outside (hs := rfl) <;> rfl
  | ptpSample => apply execPtpSample_outside (hs := rfl) <;> rfl
  | holdoverTimeout => apply execHoldoverTimeout_outside (hs := rfl) <;> rfl
  | rtcWrite => apply execRtcWrite_outside (hs := rfl) <;> rfl
  | timeSnapshot => apply execTimeSnapshot_outside (hs := rfl) <;> rfl
  | tpoArm => apply execTpoArm_outside (hs := rfl) <;> rfl
  | tpoParamWrite => apply execTpoParamWrite_outside (hs := rfl) <;> rfl
  | tpoRise => apply execTpoRise_outside (hs := rfl) <;> rfl
  | tpoFall => apply execTpoFall_outside (hs := rfl) <;> rfl
  | add => apply execAdd_outside (hLocals := .shown rfl hl) (hs := rfl) <;> rfl
  | sub => apply execSub_outside (hLocals := .shown rfl hl) (hs := rfl) <;> rfl
  | and => apply execAnd_outside (hLocals := .shown rfl hl) (hs := rfl) <;> rfl
  | or => apply execOr_outside (hLocals := .shown rfl hl) (hs := rfl) <;> rfl
  | xor => apply execXor_outside (hLocals := .shown rfl hl) (hs := rfl) <;> rfl
  | sll => apply execSll_outside (hLocals := .shown rfl hl) (hs := rfl) <;> rfl
  | srl => apply execSrl_outside (hLocals := .shown rfl hl) (hs := rfl) <;> rfl
  | sra => apply execSra_outside (hLocals := .shown rfl hl) (hs := rfl) <;> rfl
  | cmplt => apply execCmplt_outside (hLocals := .shown rfl hl) (hs := rfl) <;> rfl
  | cmpltu => apply execCmpltu_outside (hLocals := .shown rfl hl) (hs := rfl) <;> rfl
  | mul => apply execMul_outside (hLocals := .shown rfl hl) (hs := rfl) <;> rfl
  | mulh => apply execMulh_outside (hLocals := .shown rfl hl) (hs := rfl) <;> rfl
  | mulhu => apply execMulhu_outside (hLocals := .shown rfl hl) (hs := rfl) <;> rfl
  | div => apply execDiv_outside (hLocals := .shown rfl hl) (hs := rfl) <;> rfl
  | divu => apply execDivu_outside (hLocals := .shown rfl hl) (hs := rfl) <;> rfl
  | rem => apply execRem_outside (hLocals := .shown rfl hl) (hs := rfl) <;> rfl
  | remu => apply execRemu_outside (hLocals := .shown rfl hl) (hs := rfl) <;> rfl
  | min => apply execMin_outside (hLocals := .shown rfl hl) (hs := rfl) <;> rfl
  | max => apply execMax_outside (hLocals := .shown rfl hl) (hs := rfl) <;> rfl
  | minu => apply execMinu_outside (hLocals := .shown rfl hl) (hs := rfl) <;> rfl
  | maxu => apply execMaxu_outside (hLocals := .shown rfl hl) (hs := rfl) <;> rfl
  | clz => apply execClz_outside (hLocals := .shown rfl hl) (hs := rfl) <;> rfl
  | popc => apply execPopc_outside (hLocals := .shown rfl hl) (hs := rfl) <;> rfl
  | bswap => apply execBswap_outside (hLocals := .shown rfl hl) (hs := rfl) <;> rfl
  | addi => apply execAddi_outside (hLocals := .shown rfl hl) (hs := rfl) <;> rfl
  | andi => apply execAndi_outside (hLocals := .shown rfl hl) (hs := rfl) <;> rfl
  | ori => apply execOri_outside (hLocals := .shown rfl hl) (hs := rfl) <;> rfl
  | xori => apply execXori_outside (hLocals := .shown rfl hl) (hs := rfl) <;> rfl
  | cmplti => apply execCmplti_outside (hLocals := .shown rfl hl) (hs := rfl) <;> rfl
  | cmpltiu => apply execCmpltiu_outside (hLocals := .shown rfl hl) (hs := rfl) <;> rfl
  | shiSll => apply execShiSll_outside (hLocals := .shown rfl hl) (hs := rfl) <;> rfl
  | shiSrl => apply execShiSrl_outside (hLocals := .shown rfl hl) (hs := rfl) <;> rfl
  | shiSra => apply execShiSra_outside (hLocals := .shown rfl hl) (hs := rfl) <;> rfl
  | shiRor => apply execShiRor_outside (hLocals := .shown rfl hl) (hs := rfl) <;> rfl
  | ldhi => apply execLdhi_outside (hLocals := .shown rfl hl) (hs := rfl) <;> rfl
  | addpch => apply execAddpch_outside (hLocals := .shown rfl hl) (hs := rfl) <;> rfl
  | lb => apply execLb_outside (hLocals := .shown rfl hl) (hs := rfl) <;> rfl
  | lbu => apply execLbu_outside (hLocals := .shown rfl hl) (hs := rfl) <;> rfl
  | lh => apply execLh_outside (hLocals := .shown rfl hl) (hs := rfl) <;> rfl
  | lhu => apply execLhu_outside (hLocals := .shown rfl hl) (hs := rfl) <;> rfl
  | lw => apply execLw_outside (hLocals := .shown rfl hl) (hs := rfl) <;> rfl
  | sb => apply execSb_outside (hLocals := .shown rfl hl) (hAttached := .shown rfl ha) (hs := rfl) <;> rfl
  | sh => apply execSh_outside (hLocals := .shown rfl hl) (hAttached := .shown rfl ha) (hs := rfl) <;> rfl
  | sw => apply execSw_outside (hLocals := .shown rfl hl) (hAttached := .shown rfl ha) (hs := rfl) <;> rfl
  | amoSwap => apply execAmoSwap_outside (hLocals := .shown rfl hl) (hAttached := .shown rfl ha) (hs := rfl) <;> rfl
  | amoAdd => apply execAmoAdd_outside (hLocals := .shown rfl hl) (hAttached := .shown rfl ha) (hs := rfl) <;> rfl
  | amoAnd => apply execAmoAnd_outside (hLocals := .shown rfl hl) (hAttached := .shown rfl ha) (hs := rfl) <;> rfl
  | amoOr => apply execAmoOr_outside (hLocals := .shown rfl hl) (hAttached := .shown rfl ha) (hs := rfl) <;> rfl
  | amoXor => apply execAmoXor_outside (hLocals := .shown rfl hl) (hAttached := .shown rfl ha) (hs := rfl) <;> rfl
  | amoMaxu => apply execAmoMaxu_outside (hLocals := .shown rfl hl) (hAttached := .shown rfl ha) (hs := rfl) <;> rfl
  | beq => apply execBeq_outside (hLocals := .shown rfl hl) (hs := rfl) <;> rfl
  | bne => apply execBne_outside (hLocals := .shown rfl hl) (hs := rfl) <;> rfl
  | blt => apply execBlt_outside (hLocals := .shown rfl hl) (hs := rfl) <;> rfl
  | bge => apply execBge_outside (hLocals := .shown rfl hl) (hs := rfl) <;> rfl
  | bltu => apply execBltu_outside (hLocals := .shown rfl hl) (hs := rfl) <;> rfl
  | bgeu => apply execBgeu_outside (hLocals := .shown rfl hl) (hs := rfl) <;> rfl
  | j => apply execJ_outside (hLocals := .shown rfl hl) (hs := rfl) <;> rfl
  | call => apply execCall_outside (hLocals := .shown rfl hl) (hs := rfl) <;> rfl
  | jr => apply execJr_outside (hLocals := .shown rfl hl) (hs := rfl) <;> rfl
  | callr => apply execCallr_outside (hLocals := .shown rfl hl) (hs := rfl) <;> rfl
  | ret => apply execRet_outside (hLocals := .shown rfl hl) (hs := rfl) <;> rfl
  | loop => apply execLoop_outside (hLocals := .shown rfl hl) (hs := rfl) <;> rfl
  | loopi => apply execLoopi_outside (hLocals := .shown rfl hl) (hs := rfl) <;> rfl
  | trap => apply execTrap_outside (hLocals := .shown rfl hl) (hs := rfl) <;> rfl
  | getc => apply execGetc_outside (hLocals := .shown rfl hl) (hs := rfl) <;> rfl
  | setc => apply execSetc_outside (hLocals := .shown rfl hl) (hs := rfl) <;> rfl
  | fence => apply execFence_outside (hLocals := .shown rfl hl) (hs := rfl) <;> rfl
  | fenceI => apply execFenceI_outside (hLocals := .shown rfl hl) (hs := rfl) <;> rfl
  | xret => apply execXret_outside (hLocals := .shown rfl hl) (hs := rfl) <;> rfl
  | xretc => apply execXretc_outside (hLocals := .shown rfl hl) (hs := rfl) <;> rfl
  | wait => apply execWait_outside (hLocals := .shown rfl hl) (hs := rfl) <;> rfl
  | waitWake => apply execWaitWake_outside (hs := rfl); rfl
  | brk => apply execBrk_outside (hLocals := .shown rfl hl) (hs := rfl) <;> rfl
  | halt => apply execHalt_outside (hLocals := .shown rfl hl) (hs := rfl) <;> rfl
  | reservedInstruction => apply execReservedInstruction_outside (hLocals := .shown rfl hl) (hs := rfl) <;> rfl
  | interruptTake => apply execInterruptTake_outside (hs := rfl); rfl
  | storeBufferDrain => apply execStoreBufferDrain_outside (hLocals := .shown rfl hl) (hs := rfl); rfl
  | coreStopRequest => apply execCoreStopRequest_outside (hLocals := .shown rfl hl) (hs := rfl) <;> rfl
  | coreStart => apply execCoreStart_outside (hs := rfl) <;> rfl
  | coreStop => apply execCoreStop_outside (hLocals := .shown rfl hl) (hs := rfl) <;> rfl
  | dictPortSubmit => apply execDictPortSubmit_outside (hLocals := .shown rfl hl) (hAttached := .shown rfl ha) (hs := rfl) <;> rfl
  | strapPortPush => apply execStrapPortPush_outside (hs := rfl) <;> rfl
  | strapPortPop => apply execStrapPortPop_outside (hs := rfl) <;> rfl
  | hp9RxDeliver => apply execHp9RxDeliver_outside (hLocals := .shown rfl hl) (hs := rfl) <;> rfl
  | hp9TxTake => apply execHp9TxTake_outside (hLocals := .shown rfl hl) (hs := rfl) <;> rfl
  | buckleEdge => apply execBuckleEdge_outside (hs := rfl) <;> rfl
  | buckleLevelRise => apply execBuckleLevelRise_outside (hs := rfl); rfl
  | levelReassign => apply execLevelReassign_outside (hs := rfl); rfl
  | pendingWrite => apply execPendingWrite_outside (hs := rfl); rfl
  | maskWrite => apply execMaskWrite_outside (hs := rfl); rfl
  | awlBuckleRaise => apply execAwlBuckleRaise_outside (hs := rfl); rfl
  | awlHostRaise => apply execAwlHostRaise_outside (hs := rfl); rfl
  | hifBuckleRaise => apply execHifBuckleRaise_outside (hs := rfl) <;> rfl
  | pcieLinkDown => apply execPcieLinkDown_outside (hs := rfl) <;> rfl
  | pcieLinkUp => apply execPcieLinkUp_outside (hs := rfl) <;> rfl
  | functionLevelReset => apply execFunctionLevelReset_outside (hs := rfl) <;> rfl
  | rxRingTailWrite => apply execRxRingTailWrite_outside (hs := rfl) <;> rfl
  | txRingTailWrite => apply execTxRingTailWrite_outside (hs := rfl) <;> rfl
  | rxRingSizeWrite => apply execRxRingSizeWrite_outside (hs := rfl) <;> rfl
  | txRingSizeWrite => apply execTxRingSizeWrite_outside (hs := rfl) <;> rfl
  | hostRxFrame => apply execHostRxFrame_outside (hs := rfl) <;> rfl
  | txFrameFetch => apply execTxFrameFetch_outside (hs := rfl) <;> rfl
  | dmaError => apply execDmaError_outside (hs := rfl) <;> rfl
  | reportRecordWrite => apply execReportRecordWrite_outside (hs := rfl) <;> rfl
  | msixSend => apply execMsixSend_outside (hs := rfl) <;> rfl
  | mbxSubmit => apply execMbxSubmit_outside (hLocals := .shown rfl hl) (hAttached := .shown rfl ha) (hs := rfl) <;> rfl
  | mbxResponseEnqueue => apply execMbxResponseEnqueue_outside (hs := rfl) <;> rfl
  | mbxRspPop => apply execMbxRspPop_outside (hs := rfl) <;> rfl
  | tpOpStart => apply execTpOpStart_outside (hs := rfl) <;> rfl
  | nrRead => apply execNrRead_outside (hs := rfl) <;> rfl
  | nrWrite => apply execNrWrite_outside (hs := rfl) <;> rfl
  | extFieldDetect => apply execExtFieldDetect_outside (hs := rfl) <;> rfl
  | lpcdMeasure => apply execLpcdMeasure_outside (hs := rfl) <;> rfl
  | readerCycleDue => apply execReaderCycleDue_outside (hs := rfl) <;> rfl
  | readerListenEnd => apply execReaderListenEnd_outside (hs := rfl) <;> rfl
  | fwtTimeout => apply execFwtTimeout_outside (hs := rfl) <;> rfl
  | wtxRequest => apply execWtxRequest_outside (hs := rfl) <;> rfl
  | readerCycleEnd => apply execReaderCycleEnd_outside (hs := rfl) <;> rfl
  | tagFieldAbsent => apply execTagFieldAbsent_outside (hs := rfl) <;> rfl
  | tagSessionEnd => apply execTagSessionEnd_outside (hs := rfl) <;> rfl
  | tagSelect => apply execTagSelect_outside (hs := rfl) <;> rfl
  | tagReadBinary => apply execTagReadBinary_outside (hs := rfl) <;> rfl
  | tagUpdateBinary => apply execTagUpdateBinary_outside (hs := rfl) <;> rfl
  | tagVerify => apply execTagVerify_outside (hs := rfl) <;> rfl
  | tagGetChallenge => apply execTagGetChallenge_outside (hs := rfl) <;> rfl
  | tagExternalAuth => apply execTagExternalAuth_outside (hs := rfl) <;> rfl
  | tagUnknownIns => apply execTagUnknownIns_outside (hs := rfl); rfl
  | tagDeselect => apply execTagDeselect_outside (hs := rfl) <;> rfl
  | tagLockoutEnd => apply execTagLockoutEnd_outside (hs := rfl) <;> rfl
  | fdNRelease => apply execFdNRelease_outside (hs := rfl) <;> rfl
  | pwrStateCmd => apply execPwrStateCmd_outside (hs := rfl) <;> rfl
  | pwrTransitionDone => apply execPwrTransitionDone_outside (hLocals := .shown rfl hl) (hAttached := .shown rfl ha) (hs := rfl) <;> rfl
  | pwrDwellEnd => apply execPwrDwellEnd_outside (hs := rfl) <;> rfl
  | standbyWake => apply execStandbyWake_outside (hs := rfl) <;> rfl
  | shutdownTrigger => apply execShutdownTrigger_outside (hLocals := .shown rfl hl) (hs := rfl) <;> rfl
  | retentionCommit => apply execRetentionCommit_outside (hLocals := .shown rfl hl) (hAttached := .shown rfl ha) (hs := rfl) <;> rfl
  | supplyReturn => apply execSupplyReturn_outside (hLocals := .shown rfl hl) (hs := rfl) <;> rfl
  | offTimeEnd => apply execOffTimeEnd_outside (hLocals := .shown rfl hl) (hs := rfl) <;> rfl
  | lossOfPower => apply execLossOfPower_outside (hLocals := .shown rfl hl) (hs := rfl) <;> rfl
  | thermalTrip => apply execThermalTrip_outside (hLocals := .shown rfl hl) (hs := rfl) <;> rfl
  | thermalCool => apply execThermalCool_outside (hLocals := .shown rfl hl) (hs := rfl) <;> rfl
  | coldStart => apply execColdStart_outside (hLocals := .shown rfl hl) (hAttached := .shown rfl ha) (hs := rfl) <;> rfl
  | resetNLow => apply execResetNLow_outside (hLocals := .shown rfl hl) (hs := rfl) <;> rfl
  | warmReset => apply execWarmReset_outside (hs := rfl) <;> rfl
  | watchdogRefresh => apply execWatchdogRefresh_outside (hs := rfl); rfl
  | watchdogExpiry => apply execWatchdogExpiry_outside (hs := rfl) <;> rfl
  | vbatLost => apply execVbatLost_outside (hs := rfl) <;> rfl
  | hostUnreachable => apply execHostUnreachable_outside (hs := rfl) <;> rfl
  | headSelChange => apply execHeadSelChange_outside (hs := rfl) <;> rfl
  | ethernetLinkChange => apply execEthernetLinkChange_outside (hs := rfl); rfl
  | fetchError => apply execFetchError_outside (hLocals := .shown rfl hl) (hs := rfl) <;> rfl
  | calPartial => apply execCalPartial_outside (hs := rfl) <;> rfl
  | vbatSupplyRise => apply execVbatSupplyRise_outside (hs := rfl) <;> rfl
/-- No command touches the queue of commands. -/
theorem touches_pending (c : Instr) : (touches c).pending = false := by cases c <;> rfl

/-- No command touches the identity of the part (R102). -/
theorem touches_ident (c : Instr) : (touches c).ident = false := by cases c <;> rfl

/-- Only a Stamp lock touches the fuses (R152). -/
theorem touches_fuses (c : Instr) (h : c ≠ .stampLockDone true ∧ c ≠ .stampLockDone false) : (touches c).fuses = false := by
  cases c with
  | stampLockDone done =>
    cases done with
    | true => exact absurd rfl h.1
    | false => exact absurd rfl h.2
  | _ => rfl

/-- Where a command does not touch the form of the memories, canonical memories stay so. -/
theorem Memory.wf_of_outside {M : Touch} {s t : State} (h : t.outside (M.showing true) = s.outside (M.showing true)) (hs : Memory.wf s) :
    Memory.wf t := by
  have hl := congrArg (fun x : State => x.cores.mem) h
  have ha := congrArg (fun x : State => x.sb.mem) h
  obtain ⟨hsl, hsa⟩ := hs
  simp only [State.outside, Touch.showing, cond_true, memForm_nil.mpr hsl, memForm_nil.mpr hsa] at hl ha
  constructor
  · cases hm : M.locals with
    | true => rw [hm, cond_true, cond_true] at hl; exact memForm_nil.mp hl
    | false => rw [hm, cond_false, cond_false] at hl; rw [hl]; exact hsl
  · cases hm : M.attached with
    | true => rw [hm, cond_true, cond_true] at ha; exact memForm_nil.mp ha
    | false => rw [hm, cond_false, cond_false] at ha; rw [ha]; exact hsa

theorem Touch.showing_self {M : Touch} {b : Bool} (h : M.form = b) : M.showing b = M := by
  subst h
  rfl

theorem touches_form (c : Instr) : (touches c).form = false := by cases c <;> rfl

theorem exec_sameBut (c : Instr) (s : State) : ∃ t, exec c s = .next t ∧ t.outside (touches c) = s.outside (touches c) := by
  have h := exec_outside c s false rfl (fun e => absurd e (by decide)) (fun e => absurd e (by decide))
  rwa [Touch.showing_self (touches_form c)] at h

/-- Every command keeps the memories canonical. -/
theorem exec_keeps_wf (c : Instr) {s : State} (h : Memory.wf s) : Gives (exec c s) Memory.wf := by
  obtain ⟨t, ht, ho⟩ := exec_outside c s true rfl (fun _ => h.1) (fun _ => h.2)
  exact ⟨t, ht, Memory.wf_of_outside ho h⟩

theorem step_of_idle {s : State} (h : s.pending = []) : step s = .next (s.advance 1) := by
  rw [step, h]

theorem step_of_command {s : State} {c : Instr} {rest : List Instr} (h : s.pending = c :: rest) :
    step s = exec c { s with pending := rest } := by
  rw [step, h]

/-! ### The statements -/

/-- Settles O57: what a command leaves alone is said of every command at once (`exec_outside`), and none has the queue among its parts. -/
theorem commandFrames : Obligations.CommandFrames := by
  unfold Obligations.CommandFrames
  intro c s
  obtain ⟨t, ht, ho⟩ := exec_sameBut c s
  exact ⟨t, ht, State.pending_of_outside ho (touches_pending c), ho⟩

/-- Settles O58: a step is a command, whose parts hold no identity and, but for a Stamp lock, no fuses; or a cycle, which holds neither. -/
theorem identityKept : Obligations.IdentityKept := by
  unfold Obligations.IdentityKept
  intro s hs
  cases hp : s.pending with
  | nil =>
    rw [step_of_idle hp, gives_next]
    simp only [SamePart, State.advance_keeps ..]
    exact ⟨hs, fun _ => trivial⟩
  | cons c rest =>
    rw [step_of_command hp]
    obtain ⟨t, ht, ho⟩ := exec_sameBut c { s with pending := rest }
    refine ⟨t, ht, (State.ident_of_outside ho (touches_ident c)).trans hs, fun hc => ?_⟩
    exact (State.fuses_of_outside ho (touches_fuses c (hc c rest rfl))).trans rfl

/-- Settles O59: every command keeps the form of canonical memories (`exec_keeps_wf`), and a cycle leaves the memories alone. -/
theorem memoriesStayCanonical : Obligations.MemoriesStayCanonical := by
  unfold Obligations.MemoriesStayCanonical
  intro s hs
  cases hp : s.pending with
  | nil =>
    rw [step_of_idle hp, gives_next]
    simpa only [Memory.wf, State.advance_keeps ..] using hs
  | cons c rest =>
    rw [step_of_command hp]
    exact exec_keeps_wf c (s := { s with pending := rest }) hs

/-- Settles O56: by the two equations of a step. -/
theorem stepTakesTheFront : Obligations.StepTakesTheFront := by
  unfold Obligations.StepTakesTheFront
  exact ⟨fun c rest s h => step_of_command h, fun s h => step_of_idle h, fun c s => step_of_command rfl⟩

/-- Settles O60: each part of the state after reset as it is written there. -/
theorem resetState : Obligations.ResetState := by
  unfold Obligations.ResetState
  refine ⟨rfl, State.wf_reset, rfl, rfl, rfl, ?links, rfl, rfl, ?ports, ?txTiles, ?rxTiles, rfl, ?campaigns, rfl, rfl, ?cores⟩
  case links =>
    intro p
    cases p <;> exact ⟨rfl, rfl⟩
  case ports => decide
  case txTiles => decide
  case rxTiles => decide
  case campaigns => decide
  case cores => decide

end Sys2Proof.Machine
end

section
/-! Proofs of the Bridle's lookup: the walk through the stages finds the longest route that covers an address. -/

namespace Sys2Proof.Machine

/-! ### The longest of some prefixes -/

/-- What the search among some prefixes finds is one of them, and covers the address. -/
theorem longest_mem {addr : Nat} {l : List Prefix} {r : Prefix} (h : longest addr l = some r) : r ∈ l ∧ r.covers addr = true := by
  induction l with
  | nil => cases h
  | cons p l ih =>
    rw [longest] at h
    split at h
    case h_1 q hq =>
      split_ifs at h with hp
      · cases h
        rw [Bool.and_eq_true] at hp
        exact ⟨List.mem_cons_self, hp.1⟩
      · cases h
        obtain ⟨hm, hc⟩ := ih hq
        exact ⟨List.mem_cons_of_mem _ hm, hc⟩
    case h_2 =>
      split_ifs at h with hp
      cases h
      exact ⟨List.mem_cons_self, hp⟩

theorem longest_eq_none {addr : Nat} {l : List Prefix} (h : ∀ p ∈ l, p.covers addr = false) : longest addr l = none := by
  cases hl : longest addr l with
  | none => rfl
  | some r =>
    obtain ⟨hm, hc⟩ := longest_mem hl
    exact absurd hc (by rw [h r hm]; decide)

/-- A covering route that is longer than every other covering one of a list is the longest of it. -/
theorem longest_eq_some {addr : Nat} {l : List Prefix} {p : Prefix} (hp : p ∈ l) (hc : p.covers addr = true)
    (hlong : ∀ q ∈ l, q.covers addr = true → q ≠ p → q.len < p.len) : longest addr l = some p := by
  induction l with
  | nil => exact absurd hp List.not_mem_nil
  | cons q l ih =>
    have hrest : ∀ r ∈ l, r.covers addr = true → r ≠ p → r.len < p.len := fun r hr => hlong r (List.mem_cons_of_mem _ hr)
    by_cases hmem : p ∈ l
    · rw [longest, ih hmem hrest]
      by_cases hq : q = p
      · rw [hq]
        exact ite_self _
      · refine if_neg fun h => ?_
        rw [Bool.and_eq_true, decide_eq_true_eq] at h
        exact absurd h.2 (Nat.lt_asymm (hlong q List.mem_cons_self h.1 hq))
    · obtain rfl : p = q := (List.mem_cons.mp hp).resolve_right hmem
      rw [longest]
      split
      case h_1 r hr =>
        obtain ⟨hm, hcr⟩ := longest_mem hr
        have hlt : r.len < p.len := hrest r hm hcr fun e => hmem (e ▸ hm)
        rw [if_pos (by rw [hc, decide_eq_true hlt]; rfl)]
      case h_2 => rw [if_pos hc]

/-! ### The walk through the stages (R326 to R329) -/

/-- The prefixes of the own-list entries of stage k. -/
def ofStage (ps : List Prefix) (k : Nat) : List Prefix := ps.filter (fun p => p.len ≠ 0 && stageOf p.len == k)

theorem mem_ofStage {ps : List Prefix} {k : Nat} {p : Prefix} : p ∈ ofStage ps k ↔ p ∈ ps ∧ p.len ≠ 0 ∧ stageOf p.len = k := by
  simp [ofStage]

/-- The best result after a stage. -/
def stageBest (ps : List Prefix) (addr k : Nat) (best : Option Nat) : Option Nat :=
  match longest addr (ofStage ps k) with
  | some p => if resultKind p.result = 0 then best else some p.result
  | none => best

theorem walkStages_succ (ps : List Prefix) (addr n k : Nat) (best : Option Nat) :
    walkStages ps addr (n + 1) k best = walkStages ps addr n (k + 1) (stageBest ps addr k best) := rfl

/-- A stage without a covering route keeps the best result. -/
theorem stageBest_of_none {ps : List Prefix} {addr k : Nat} (h : ∀ p ∈ ps, p.len ≠ 0 → stageOf p.len = k → p.covers addr = false)
    (best : Option Nat) : stageBest ps addr k best = best := by
  have hl : longest addr (ofStage ps k) = none := longest_eq_none fun p hp => by
    obtain ⟨hm, h0, hk⟩ := mem_ofStage.mp hp
    exact h p hm h0 hk
  rw [stageBest, hl]

/-- Stages without a covering route keep the best result. -/
theorem walkStages_of_none {ps : List Prefix} {addr : Nat} (n : Nat) {k : Nat}
    (h : ∀ p ∈ ps, p.len ≠ 0 → k ≤ stageOf p.len → p.covers addr = false) (best : Option Nat) : walkStages ps addr n k best = best := by
  induction n generalizing k with
  | zero => rfl
  | succ n ih =>
    rw [walkStages_succ, stageBest_of_none (fun p hp h0 hk => h p hp h0 hk.ge), ih fun p hp h0 hk => h p hp h0 (by omega)]

/-- A longer route has no earlier stage. -/
theorem stageOf_mono {a b : Nat} (h : a ≤ b) : stageOf a ≤ stageOf b := by
  unfold stageOf
  split_ifs <;> omega

/-- The stages reach every route of an address of 128 bits. -/
theorem stageOf_lt {n : Nat} (h : n ≤ 128) : stageOf n < 15 := by
  unfold stageOf
  split_ifs <;> omega

/-- Where a usable covering route is longer than every other covering one, the walk through its stage answers its result. -/
theorem walkStages_longest {ps : List Prefix} {addr : Nat} {p : Prefix} (hp : p ∈ ps) (h0 : p.len ≠ 0) (hc : p.covers addr = true)
    (hkind : resultKind p.result ≠ 0) (hlong : ∀ q ∈ ps, q.covers addr = true → q ≠ p → q.len < p.len) (n : Nat) {k : Nat}
    (hk : k ≤ stageOf p.len) (hn : stageOf p.len < k + n) (best : Option Nat) : walkStages ps addr n k best = some p.result := by
  induction n generalizing k best with
  | zero => omega
  | succ n ih =>
    rw [walkStages_succ]
    by_cases hs : stageOf p.len = k
    · have hl : longest addr (ofStage ps k) = some p :=
        longest_eq_some (mem_ofStage.mpr ⟨hp, h0, hs⟩) hc fun q hq => hlong q (mem_ofStage.mp hq).1
      have later : ∀ q ∈ ps, q.len ≠ 0 → k + 1 ≤ stageOf q.len → q.covers addr = false := fun q hq _ hkq => by
        by_contra hcq
        have hne : q ≠ p := fun e => by subst e; omega
        have := stageOf_mono (hlong q hq (by simpa using hcq) hne).le
        omega
      rw [walkStages_of_none n later, stageBest, hl]
      exact if_neg hkind
    · exact ih (by omega) (by omega) _

/-! ### The lookup (R324) -/

/-- The prefixes of an table and a family. -/
def State.prefixesOf (s : State) (inst : Nat) (v4 : Bool) : List Prefix :=
  s.tables.prefixes.filter (fun p => p.inst == inst && p.v4 == v4)

theorem State.mem_prefixesOf {s : State} {inst : Nat} {v4 : Bool} {p : Prefix} :
    p ∈ s.prefixesOf inst v4 ↔ p ∈ s.tables.prefixes ∧ p.inst = inst ∧ p.v4 = v4 := by
  simp [State.prefixesOf]

/-- The result of the default route, where it is usable. -/
def defaultRoute (ps : List Prefix) : Option Nat :=
  match ps.find? (fun p => p.len == 0) with
  | some p => if resultKind p.result = 0 then none else some p.result
  | none => none

theorem State.bridleFind_eq (s : State) (inst : Nat) (v4 : Bool) (addr : Nat) : s.bridleFind inst v4 addr =
    walkStages (s.prefixesOf inst v4) addr 15 0 (defaultRoute (s.prefixesOf inst v4)) := rfl

/-- The route of no bits covers every address. -/
theorem Prefix.covers_of_len_zero {p : Prefix} {addr : Nat} (h : p.len = 0) (hp : p.addr < 2 ^ famBits p.v4) (ha : addr < 2 ^ famBits p.v4) :
    p.covers addr = true := by
  simp only [Prefix.covers, topBits, h, Nat.sub_zero, Nat.div_eq_of_lt hp, Nat.div_eq_of_lt ha, beq_self_eq_true]

/-- Settles O28: a default route is met before the stages (`defaultRoute`), a longer route in its own (`walkStages_longest`), and stages that hold
no covering route keep the best result (`walkStages_of_none`). -/
theorem bridleLongestMatch : Obligations.BridleLongestMatch := by
  unfold Obligations.BridleLongestMatch
  intro s inst v4 addr ha hall
  have hzero : ∀ p ∈ s.prefixesOf inst v4, p.len = 0 → p.covers addr = true := fun p hp h0 => by
    obtain ⟨hm, -, hv⟩ := State.mem_prefixesOf.mp hp
    exact Prefix.covers_of_len_zero h0 (hall p hm).2.2 (hv ▸ ha)
  constructor
  · intro p hm hi hv hc hlong
    obtain ⟨hkind, hlen, -⟩ := hall p hm
    have hp : p ∈ s.prefixesOf inst v4 := State.mem_prefixesOf.mpr ⟨hm, hi, hv⟩
    have hlong' : ∀ q ∈ s.prefixesOf inst v4, q.covers addr = true → q ≠ p → q.len < p.len := fun q hq => by
      obtain ⟨hmq, hiq, hvq⟩ := State.mem_prefixesOf.mp hq
      exact hlong q hmq hiq hvq
    rw [State.bridleFind_eq]
    by_cases h0 : p.len = 0
    · have hnone : ∀ q ∈ s.prefixesOf inst v4, q.len ≠ 0 → 0 ≤ stageOf q.len → q.covers addr = false := fun q hq hq0 _ => by
        by_contra hcq
        have := hlong' q hq (by simpa using hcq) fun e => hq0 (e ▸ h0)
        omega
      rw [walkStages_of_none 15 hnone, defaultRoute]
      cases hf : (s.prefixesOf inst v4).find? (fun p => p.len == 0) with
      | none => exact absurd (beq_iff_eq.mpr h0) (List.find?_eq_none.mp hf p hp)
      | some q =>
        have hq0 : q.len = 0 := beq_iff_eq.mp (List.find?_some hf :)
        have hqp : q = p := by
          by_contra hne
          have := hlong' q (List.mem_of_find?_eq_some hf) (hzero q (List.mem_of_find?_eq_some hf) hq0) hne
          omega
        rw [hqp]
        exact if_neg hkind
    · have h128 : p.len ≤ 128 := hlen.trans (by unfold famBits; split_ifs <;> omega)
      exact walkStages_longest hp h0 hc hkind hlong' 15 (Nat.zero_le _) (by have := stageOf_lt h128; omega) _
  · intro hnone
    have hnone' : ∀ p ∈ s.prefixesOf inst v4, p.covers addr = false := fun p hp => by
      obtain ⟨hm, hi, hv⟩ := State.mem_prefixesOf.mp hp
      exact hnone p hm hi hv
    have hf : (s.prefixesOf inst v4).find? (fun p => p.len == 0) = none := List.find?_eq_none.mpr fun p hp h0 => by
      exact absurd (hzero p hp (beq_iff_eq.mp h0)) (by rw [hnone' p hp]; decide)
    rw [State.bridleFind_eq, walkStages_of_none 15 fun p hp _ _ => hnone' p hp, defaultRoute, hf]

end Sys2Proof.Machine
end

section
/-! Proofs of the Tack links and their frames: Table 2-1, credits, and the frames that arrive and leave. -/

namespace Sys2Proof.Machine

/-! ### Chain ports -/

theorem Side.other_other (p : Side) : p.other.other = p := by cases p <;> rfl

/-- A frame that waits at a port changes the frames that wait there. -/
theorem State.queueAt_of_up {s : State} {p : Side} (h : s.linkUp p = true) (f : ChainFrame) :
    s.queueAt p f = s.setCport p { s.cport p with out := (s.cport p).out ++ [f] } := by
  rw [State.queueAt, if_pos h]

theorem State.queueAt_of_not_up {s : State} {p : Side} (h : s.linkUp p = false) (f : ChainFrame) :
    s.queueAt p f = s.bump (Key.noRoute (sideNum p)) := by
  rw [State.queueAt, if_neg (by rw [h]; decide)]

@[simp] theorem State.cport_credit_self (s : State) (p : Side) (lane units : Nat) :
    (s.credit p lane units).cport p = { s.cport p with owed := vmod (fun n => n + units) lane (s.cport p).owed } :=
  State.cport_setCport_self ..

@[simp] theorem State.cport_credit_other (s : State) (p : Side) (lane units : Nat) :
    (s.credit p lane units).cport p.other = s.cport p.other := State.cport_setCport_other ..

@[simp] theorem State.cport_credit_of_other (s : State) (p : Side) (lane units : Nat) :
    (s.credit p.other lane units).cport p = s.cport p := State.cport_setCport_of_other ..

/-! ### What a link report leaves of the credits -/

/-- A port keeps its credits when another state of a port with the same credits is put in. -/
theorem State.credits_setCport {s : State} {p : Side} {x : ChainPort} (h : x.credits = (s.cport p).credits) (q : Side) :
    ((s.setCport p x).cport q).credits = (s.cport q).credits := by
  by_cases hq : q = p
  · rw [hq, State.cport_setCport_self, h]
  · obtain rfl : q = p.other := by cases p <;> cases q <;> first | rfl | exact absurd rfl hq
    rw [State.cport_setCport_other]

@[simp] theorem State.credits_queueAt (s : State) (p : Side) (f : ChainFrame) (q : Side) :
    ((s.queueAt p f).cport q).credits = (s.cport q).credits := by
  unfold State.queueAt
  simp only
  split_ifs
  · exact State.credits_setCport (by rfl) q
  · simp only [State.bump_keeps ..]

@[simp] theorem State.credits_broadcast (s : State) (f : ChainFrame) (q : Side) :
    ((s.broadcast f).cport q).credits = (s.cport q).credits := by
  unfold State.broadcast
  simp only
  split_ifs <;> simp only [State.credits_queueAt]

@[simp] theorem State.credits_sendChain (s : State) (dst cls tenant len tag : Nat) (body : ChainBody) (q : Side) :
    ((s.sendChain dst cls tenant len tag body).cport q).credits = (s.cport q).credits := by
  have routed (f : ChainFrame) (o : Option Side) :
      ((match o with | some p => s.queueAt p f | none => s.bump (Key.noRoute 1)).cport q).credits = (s.cport q).credits := by
    cases o with
    | some p => exact State.credits_queueAt ..
    | none => simp only [State.bump_keeps ..]
  unfold State.sendChain
  simp only
  split_ifs
  · rfl
  · exact State.credits_broadcast ..
  all_goals exact routed ..

@[simp] theorem State.credits_giveMap (s : State) (t : Topo) (q : Side) :
    ((s.giveMap t).cport q).credits = (s.cport q).credits := by
  simp only [State.giveMap, State.credits_sendChain, State.pathCheck_keeps .., State.topoValues_keeps .., State.markAbsent_keeps ..]
  rfl

@[simp] theorem State.credits_linkReport (s : State) (q : Side) : (s.linkReport.cport q).credits = (s.cport q).credits := by
  have told (u : State) (b : ChainBody) : ((if u.addr = 0xFF then
      u.each [Side.dn, Side.up] (fun v p => if v.linkUp p then v.queueAt p (v.mkFrame dstHead 0 0 16 0 b) else v)
      else u.sendChain dstHead 0 0 16 0 b).cport q).credits = (u.cport q).credits := by
    split_ifs
    · refine State.each_same (fun v => (v.cport q).credits) (fun v p => ?_) _ _
      split_ifs
      · exact State.credits_queueAt ..
      · rfl
    · exact State.credits_sendChain ..
  unfold State.linkReport
  by_cases hr : s.rd Key.chainRole = 1
  · simp only [if_pos hr, State.credits_giveMap]
  · simp only [if_neg hr]
    rw [told]
    simp only [State.pathCheck_keeps ..]
    rfl

/-! ### The links (R29 to R31, Table 2-1) -/

@[simp] theorem State.link_setLink (s : State) (p : Side) (x : Nat) : (s.setLink p x).link p = x := State.rd_wrEdge_self ..

theorem linkSignalDetected_of_down {s : State} {p : Side} (ha : s.alive = true) (h : s.link p = 0) :
    exec (.linkSignalDetected p) s = .next (s.setLink p 1) := by
  rw [exec_linkSignalDetected, execLinkSignalDetected, if_pos (by rw [ha, h]; rfl)]

/-- The LINK frame that a port sends: it carries the credits owed (R31). -/
def State.linkFrame (s : State) (p : Side) : LinkMsg :=
  { eui := s.ident.eui64, port := p, level := s.chainLevel, minPartner := s.partnerRange.1, maxPartner := s.partnerRange.2,
    credits := (s.cport p).owed }

theorem State.linkTx_of_hello {s : State} {p : Side} (h : 2 ≤ s.link p) : s.linkTx p =
    (s.setCport p { s.cport p with owed := #v[0, 0, 0, 0] }).emit (.chain p (s.mkFrame dstAll 0 0 32 0 (.link (s.linkFrame p)))) := by
  rw [State.linkTx, if_pos h]
  rfl

theorem linkLocked_of_locking {s : State} {p : Side} (h : s.link p = 1) :
    exec (.linkLocked p) s = .next ((s.setLink p 2).linkTx p) := by
  rw [exec_linkLocked, execLinkLocked, if_pos h]

/-- In HELLO a partner in range brings the link up, with the buffers of R31 as credits. -/
theorem State.linkHello_of_partner {s : State} {p : Side} {m : LinkMsg} (hp : m.port ≠ p) (hlo : s.partnerRange.1 ≤ m.level)
    (hhi : m.level ≤ s.partnerRange.2) : s.linkHello p m =
      ((s.setCport p { ChainPort.down with partner := some m, credits := initialCredits }).setLink p 3).linkReport := by
  rw [State.linkHello, if_neg hp, if_neg (by omega)]

/-- In HELLO a partner of the same name or out of range leaves the link there. -/
theorem State.link_linkHello_of_misfit {s : State} {p : Side} {m : LinkMsg}
    (h : m.port = p ∨ m.level < s.partnerRange.1 ∨ s.partnerRange.2 < m.level) : (s.linkHello p m).link p = s.link p := by
  have posted (c : Err) (x : ChainPort) : ((s.setCport p x).chainPost c p).link p = s.link p := by
    rw [State.link, State.chainPost_rd (by simp)]
    simp only [State.setCport_keeps ..]
  unfold State.linkHello
  extract_lets x same r noted
  have hnoted : noted.link p = s.link p := by simp only [noted, State.setCport_keeps ..]
  by_cases hp : m.port = p
  · rw [if_pos hp]
    split_ifs
    · exact hnoted
    · exact posted ..
  · rw [if_neg hp, if_pos (h.resolve_left hp)]
    split_ifs
    · exact hnoted
    · exact posted ..

theorem linkFrameRx_of_hello {s : State} {p : Side} (h : s.link p = 2) (m : LinkMsg) :
    exec (.linkFrameRx p m) s = .next (s.linkHello p m) := by
  rw [exec_linkFrameRx, execLinkFrameRx, State.linkRx, if_pos h]

theorem linkFrameRx_of_up {s : State} {p : Side} (h : s.link p = 3) (m : LinkMsg) : exec (.linkFrameRx p m) s =
    .next (s.setCport p { s.cport p with partner := some m, credits := addCredits (s.cport p).credits m.credits }) := by
  rw [exec_linkFrameRx, execLinkFrameRx, State.linkRx, if_neg (by omega), if_pos h]

theorem linkDown_of_down {s : State} {p : Side} (h : s.link p = 0) : exec (.linkDown p) s = .next s := by
  rw [exec_linkDown, execLinkDown, State.linkFall, if_pos h]

theorem Key.linkDownEvents_ne_noRoute (i j : Nat) : Key.linkDownEvents i ≠ Key.noRoute j := fun e =>
  absurd (congrArg Key.fam e) (by simp)

/-- A link that falls is DOWN, and the fall counts. -/
theorem State.linkFall_of_not_down {s : State} {p : Side} (h : s.link p ≠ 0) : (s.linkFall p).link p = 0 ∧
    (s.linkFall p).rd (Key.linkDownEvents (sideNum p)) = satAdd u32Max (s.rd (Key.linkDownEvents (sideNum p))) 1 := by
  have hreturned (l : List ChainFrame) (k : Nat) :
      (s.each l (fun u f => u.credit p.other f.lane (unitsOf f.length))).rd k = s.rd k :=
    State.each_same (fun u => u.rd k) (fun u f => by simp only [State.credit_keeps ..]) ..
  rw [State.linkFall, if_neg h]
  constructor
  · refine (State.linkReport_rd (by simp)).trans ((State.rd_wr_ne _ _ ?_).trans ((State.rd_wr_ne _ _ ?_).trans (State.link_setLink ..)))
    · exact fun e => absurd (congrArg Key.fam e) (by simp)
    · exact fun e => absurd (congrArg Key.fam e) (by simp)
  · refine (State.linkReport_rd (by simp)).trans ((State.rd_wr_ne _ _ (Key.linkDownEvents_ne_noRoute _ _)).trans
      ((State.rd_bump_self ..).trans (congrArg (satAdd u32Max · 1) ?_)))
    refine (State.setLink_rd (by simp)).trans ?_
    simp only [State.setCport_keeps .., hreturned]

/-! ### Frames that arrive (R29, R34, R48) -/

/-- A port that takes a frame ignores no more blocks. -/
def State.listening (s : State) (p : Side) : State := s.setCport p { s.cport p with ignoring := false }

/-- The units of a frame that is dropped are owed back, but for a LINK frame. -/
def State.dropped (s : State) (p : Side) (f : ChainFrame) (n : Nat) : State :=
  if f.typ = 0 ∨ !s.linkUp p then s else s.credit p f.lane (unitsOf n)

theorem chainFrameRx_of_up {s : State} {p : Side} (ha : s.alive = true) (hu : s.linkUp p = true) (f : ChainFrame) (bs : Bytes) (crc : BitVec 32) :
    exec (.chainFrameRx p f bs crc) s = .next (
      if frameCrc f bs ≠ crc.toNat then ((s.listening p).bump (Key.rxCrcErr (sideNum p))).dropped p f bs.length
      else if 2048 < f.length ∨ f.length ≠ bs.length then ((s.listening p).bump (Key.rxLenBad (sideNum p))).dropped p f bs.length
      else if 12 < f.typ then ((s.listening p).bump (Key.typeBad (sideNum p))).dropped p f bs.length
      else (s.listening p).frameRx p f) := by
  have h3 : s.link p = 3 := beq_iff_eq.mp hu
  have hcrc : (!frameCrc f bs == crc.toNat) = true ↔ frameCrc f bs ≠ crc.toNat := by simp
  rw [exec_chainFrameRx, execChainFrameRx]
  extract_lets +onlyGivenNames n
  rw [if_neg (by simp [ha, h3])]
  exact congrArg _ (if_congr hcrc rfl rfl)

@[simp] theorem State.rd_listening (s : State) (p : Side) (k : Nat) : (s.listening p).rd k = s.rd k := by
  simp only [State.listening, State.setCport_keeps ..]

@[simp] theorem State.cport_listening_other (s : State) (p : Side) : (s.listening p).cport p.other = s.cport p.other :=
  State.cport_setCport_other ..

@[simp] theorem State.rd_dropped (s : State) (p : Side) (f : ChainFrame) (n k : Nat) : (s.dropped p f n).rd k = s.rd k := by
  unfold State.dropped
  split_ifs
  · rfl
  · simp only [State.credit_keeps ..]

@[simp] theorem State.cport_dropped_other (s : State) (p : Side) (f : ChainFrame) (n : Nat) :
    (s.dropped p f n).cport p.other = s.cport p.other := by
  unfold State.dropped
  split_ifs
  · rfl
  · exact State.cport_credit_other ..

/-- A frame that is dropped counts once, and the other port is as it was. -/
theorem State.counts_dropped (s : State) (p : Side) (k : Nat) (f : ChainFrame) (n : Nat) :
    (((s.listening p).bump k).dropped p f n).rd k = satAdd u32Max (s.rd k) 1 ∧
    (((s.listening p).bump k).dropped p f n).cport p.other = s.cport p.other := by
  constructor
  · rw [State.rd_dropped, State.rd_bump_self, State.rd_listening]
  · rw [State.cport_dropped_other]
    simp only [State.bump_keeps .., State.cport_listening_other]

/-- A frame for another device passes with one hop less, or is counted (R48). -/
theorem State.transit_cases (s : State) (p : Side) (f : ChainFrame) :
    if f.hops = 0 then (s.transit p f).rd (Key.hopExpired (sideNum p)) = satAdd u32Max (s.rd (Key.hopExpired (sideNum p))) 1 ∧
        (s.transit p f).cport p.other = s.cport p.other
    else if s.linkUp p.other = true then ((s.transit p f).cport p.other).out = (s.cport p.other).out ++ [{ f with hops := f.hops - 1 }]
    else (s.transit p f).rd (Key.noRoute (sideNum p.other)) = satAdd u32Max (s.rd (Key.noRoute (sideNum p.other))) 1 ∧
        (s.transit p f).cport p.other = s.cport p.other := by
  have counted (k : Nat) : ((s.bump k).credit p f.lane (unitsOf f.length)).rd k = satAdd u32Max (s.rd k) 1 ∧
      ((s.bump k).credit p f.lane (unitsOf f.length)).cport p.other = s.cport p.other := by
    constructor
    · simp only [State.credit_keeps .., State.rd_bump_self]
    · rw [State.cport_credit_other]
      simp only [State.bump_keeps ..]
  unfold State.transit
  split_ifs with h0 hu
  · exact counted _
  · rw [State.queueAt_of_up hu, State.cport_setCport_self]
  · exact counted _

/-- A frame for another device is in transit. -/
theorem State.frameRx_of_other {s : State} {p : Side} {f : ChainFrame} (hh : hopByHop f.typ = false) (hd : f.dst ≠ dstAll)
    (hm : s.forMe f = false) : s.frameRx p f = s.transit p f := by
  rw [State.frameRx, if_neg (by rw [hh]; decide), if_neg hd, if_neg (by rw [hm]; decide)]

/-- A frame that is cut short counts, and is ignored; its units are owed back where the link is up. -/
theorem chainFrameAbort_of_hello {s : State} {p : Side} {blocks : Nat} {lockLost : Bool} (h : 2 ≤ s.link p)
    (hl : lockLost = true ∨ s.rd Key.chainIdleBlocks ≤ blocks) (lane : Fin 4) (units : Nat) :
    Gives (exec (.chainFrameAbort p lane units blocks lockLost) s) fun t =>
      t.rd (Key.rxAbort (sideNum p)) = satAdd u32Max (s.rd (Key.rxAbort (sideNum p))) 1 ∧ (t.cport p).ignoring = true ∧
      (t.cport p).owed = if s.linkUp p = true then vmod (fun n => n + units) lane (s.cport p).owed else (s.cport p).owed := by
  have hup : (s.bump (Key.rxAbort (sideNum p))).linkUp p = s.linkUp p := by
    rw [State.linkUp, State.link, State.rd_bump_ne _ _ fun e => absurd (congrArg Key.fam e) (by simp)]
  rw [exec_chainFrameAbort, execChainFrameAbort, if_pos (by simpa [h] using hl), gives_next]
  simp only [State.setCport_keeps .., State.cport_setCport_self, hup]
  split_ifs <;> simp only [State.credit_keeps .., State.rd_bump_self, State.cport_credit_self, State.bump_keeps .., and_self]

/-! ### Frames that leave (R31, R32) -/

theorem findIdxFrom_holds {α : Type} (p : α → Bool) {l : List α} {i k : Nat} (h : findIdxFrom p k l = some i) :
    ∃ x, l[i - k]? = some x ∧ p x = true ∧ k ≤ i := by
  induction l generalizing k with
  | nil => cases h
  | cons x l ih =>
    rw [findIdxFrom] at h
    split_ifs at h with hx
    · cases h
      exact ⟨x, by simp, hx, Nat.le_refl _⟩
    · obtain ⟨y, hy, hp, hk⟩ := ih h
      refine ⟨y, ?_, hp, by omega⟩
      rw [show i - k = (i - (k + 1)) + 1 by omega, List.getElem?_cons_succ, hy]

/-- The frame found at the first place that fits is one that fits. -/
theorem at_findIdx {α : Type} (p : α → Bool) {l : List α} {i : Nat} {x : α}
    (h : (match findIdxFrom p 0 l with | some i => (l[i]?).map (fun f => (i, f)) | none => none) = some (i, x)) : p x = true := by
  split at h
  case h_1 j hj =>
    obtain ⟨y, hy, hp, -⟩ := findIdxFrom_holds p hj
    rw [Nat.sub_zero] at hy
    rw [hy] at h
    cases h
    exact hp
  case h_2 => cases h

/-- The frame of a lane that may leave is of that lane. -/
theorem laneOf_of_laneReady {x : ChainPort} {lane i : Nat} {f : ChainFrame} (h : laneReady x lane = some (i, f)) : laneOf f.typ = lane := by
  unfold laneReady at h
  split at h
  case h_1 q hq =>
    split at h
    · cases h
      exact beq_iff_eq.mp (at_findIdx (fun g : ChainFrame => laneOf g.typ == lane) (l := x.out) (i := i) (x := f) hq)
    · split at h
      · rename_i r hr
        split at h
        · cases h
          exact beq_iff_eq.mp (Bool.and_elim_left (at_findIdx (fun g : ChainFrame => laneOf g.typ == lane && !frameOwn g) (l := x.out) (i := i) (x := f) hr))
        · cases h
      · cases h
  case h_2 => cases h

/-- Lane 0 goes first (R32). -/
theorem pickFrame_of_laneZero {x : ChainPort} {q : Nat × ChainFrame} (h : laneReady x 0 = some q) (w : Nat) : pickFrame w x = (x, some q) := by
  rw [pickFrame, h]

/-- A frame leaves a port and takes its credits; the units of a frame in transit go back to the other port's partner (R31). -/
def State.frameLeaves (s : State) (p : Side) (i : Nat) (f : ChainFrame) : State :=
  let t := s.setCport p { s.cport p with
    out := removeAt i (s.cport p).out, credits := vmod (fun c => c - unitsOf f.length) (laneOf f.typ) (s.cport p).credits }
  if frameOwn f then t else t.credit p.other (laneOf f.typ) (unitsOf f.length)

theorem chainFrameTx_of_laneZero {s : State} {p : Side} {i : Nat} {f : ChainFrame} (hu : s.linkUp p = true)
    (hl : laneReady (s.cport p) 0 = some (i, f)) (dt : Nat) : exec (.chainFrameTx p dt) s =
      .next (((s.advance dt).frameLeaves p i f).emit (.chain p (((s.advance dt).frameLeaves p i f).stampOut f))) := by
  have hu' : (s.advance dt).linkUp p = true := by simpa only [State.linkUp, State.link, State.advance_keeps ..] using hu
  have hl' : laneReady ((s.advance dt).cport p) 0 = some (i, f) := by simpa only [State.advance_keeps ..] using hl
  rw [exec_chainFrameTx, execChainFrameTx]
  simp only [hu', pickFrame_of_laneZero hl']
  rfl

/-- The stamp of a TIME frame leaves its header alone. -/
theorem State.stampOut_header (s : State) (f : ChainFrame) : (s.stampOut f).dst = f.dst ∧ (s.stampOut f).typ = f.typ := by
  unfold State.stampOut
  split <;> exact ⟨rfl, rfl⟩

@[simp] theorem State.out_frameLeaves (s : State) (p : Side) (i : Nat) (f : ChainFrame) : (s.frameLeaves p i f).out = s.out := by
  unfold State.frameLeaves
  simp only
  split_ifs <;> simp only [State.credit_keeps .., State.setCport_keeps ..]

/-- What a frame that leaves does to the two ports. -/
theorem State.cport_frameLeaves (s : State) (p : Side) (i : Nat) (f : ChainFrame) :
    ((s.frameLeaves p i f).cport p).out = removeAt i (s.cport p).out ∧
    ((s.frameLeaves p i f).cport p).credits = vmod (fun c => c - unitsOf f.length) (laneOf f.typ) (s.cport p).credits ∧
    ((s.frameLeaves p i f).cport p.other).owed = if frameOwn f = true then (s.cport p.other).owed
      else vmod (fun n => n + unitsOf f.length) (laneOf f.typ) (s.cport p.other).owed := by
  unfold State.frameLeaves
  simp only
  split_ifs <;> simp only [State.cport_credit_of_other, State.cport_credit_self, State.cport_setCport_self, State.cport_setCport_other, and_self]

/-! ### The statement -/

/-- Settles O1: each command by its equation above; what a link report sends leaves the credits alone (`State.credits_linkReport`). -/
theorem chainLinksAndFrames : Obligations.ChainLinksAndFrames := by
  unfold Obligations.ChainLinksAndFrames
  refine ⟨?signal, ?locked, ?linkTx, ?partner, ?misfit, ?credits, ?down, ?downDown, ?crc, ?length, ?type, ?transit, ?abort, ?tx⟩
  case signal =>
    intro p s ha h
    rw [linkSignalDetected_of_down ha h, gives_next]
    exact State.link_setLink ..
  case locked =>
    intro p s h
    have h2 : (s.setLink p 2).link p = 2 := State.link_setLink ..
    rw [linkLocked_of_locking h, State.linkTx_of_hello h2.ge, gives_next]
    refine ⟨?_, (s.setLink p 2).mkFrame dstAll 0 0 32 0 (.link ((s.setLink p 2).linkFrame p)), (s.setLink p 2).linkFrame p, ?_, rfl, ?_, rfl⟩
    · simp only [State.emit_keeps .., State.setCport_keeps .., h2]
    · simp only [State.out_emit, State.setCport_keeps .., State.setLink_keeps ..]
    · simp only [State.linkFrame, State.setLink_keeps ..]
  case linkTx =>
    intro p s h
    rw [exec_linkFrameTx, execLinkFrameTx, State.linkTx_of_hello h, gives_next]
    refine ⟨⟨s.mkFrame dstAll 0 0 32 0 (.link (s.linkFrame p)), s.linkFrame p, ?_, rfl, rfl⟩, ?_, ?_⟩
    · simp only [State.out_emit, State.setCport_keeps ..]
    · simp only [State.emit_keeps .., State.cport_setCport_self]
    · simp only [State.emit_keeps .., State.cport_setCport_self]
  case partner =>
    intro p m s h hp hlo hhi
    rw [linkFrameRx_of_hello h, State.linkHello_of_partner hp hlo hhi, gives_next]
    constructor
    · rw [State.link, State.linkReport_rd (by simp)]
      exact State.link_setLink ..
    · rw [State.credits_linkReport]
      simp only [State.setLink_keeps .., State.cport_setCport_self]
  case misfit =>
    intro p m s h hm
    rw [linkFrameRx_of_hello h, gives_next, State.link_linkHello_of_misfit hm, h]
  case credits =>
    intro p m s h
    rw [linkFrameRx_of_up h, gives_next]
    simp only [State.setCport_keeps .., State.cport_setCport_self, h, and_self]
  case down =>
    intro p s h
    rw [exec_linkDown, execLinkDown, gives_next]
    exact State.linkFall_of_not_down h
  case downDown =>
    intro p s h
    rw [linkDown_of_down h, gives_next]
  case crc =>
    intro p f bs crc s ha hu hcrc
    rw [chainFrameRx_of_up ha hu, if_pos hcrc, gives_next]
    exact State.counts_dropped ..
  case length =>
    intro p f bs crc s ha hu hcrc hlen
    rw [chainFrameRx_of_up ha hu, if_neg (not_not.mpr hcrc), if_pos hlen, gives_next]
    exact State.counts_dropped ..
  case type =>
    intro p f bs crc s ha hu hcrc heq hle htyp
    rw [chainFrameRx_of_up ha hu, if_neg (not_not.mpr hcrc), if_neg (by omega), if_pos htyp, gives_next]
    exact State.counts_dropped ..
  case transit =>
    intro p f bs crc s ha hu hcrc heq hle htyp hh hd hm
    have hm' : (s.listening p).forMe f = false := by simpa only [State.forMe, State.addr, State.rd_listening] using hm
    rw [chainFrameRx_of_up ha hu, if_neg (not_not.mpr hcrc), if_neg (by omega), if_neg (by omega), State.frameRx_of_other hh hd hm', gives_next]
    simpa only [State.linkUp, State.link, State.rd_listening, State.cport_listening_other] using State.transit_cases (s.listening p) p f
  case abort =>
    intro p lane units blocks lockLost s h hl
    exact chainFrameAbort_of_hello h hl lane units
  case tx =>
    intro p dt i f s hu hl
    obtain ⟨hdst, htyp⟩ := ((s.advance dt).frameLeaves p i f).stampOut_header f
    obtain ⟨hout, hcredits, howed⟩ := (s.advance dt).cport_frameLeaves p i f
    rw [laneOf_of_laneReady hl] at hcredits howed
    rw [chainFrameTx_of_laneZero hu hl, gives_next]
    simp only [State.emit_keeps .., hout, hcredits, howed, State.advance_keeps .., and_self, and_true]
    exact ⟨_, by simp only [State.out_emit, State.out_frameLeaves, State.advance_keeps ..], hdst, htyp⟩

end Sys2Proof.Machine
end

section
/-! Proofs of the enumeration of a chain: SURVEY and ASSIGN pass, return, start and are tried again. -/

namespace Sys2Proof.Machine

/-! ### Numbers of different families -/

/-- A number of another family reads as before a write. -/
theorem State.rd_wr_of_fam (s : State) {k j : Nat} (v : Nat) (h : Key.fam j ≠ Key.fam k) : (s.wr k v).rd j = s.rd j :=
  State.rd_wr_ne s v fun e => h (congrArg Key.fam e)

theorem State.rd_bump_of_fam (s : State) {k j : Nat} (n : Nat) (h : Key.fam j ≠ Key.fam k) : (s.bump k n).rd j = s.rd j :=
  State.rd_wr_of_fam s _ h

/-! ### A message out of a port -/

/-- At a port that is up, a frame that is sent out of it waits there last. -/
theorem State.cport_sendPort_of_up {s : State} {p : Side} (h : s.linkUp p = true) (b : ChainBody) (len : Nat) :
    (s.sendPort p b len).cport p = { s.cport p with out := (s.cport p).out ++ [s.mkFrame dstAll 0 0 len 0 b] } := by
  rw [State.sendPort, State.queueAt_of_up h, State.cport_setCport_self]

theorem State.sendPort_sends {s : State} {p : Side} (h : s.linkUp p = true) (b : ChainBody) (len : Nat) :
    ∃ f, ((s.sendPort p b len).cport p).out = (s.cport p).out ++ [f] ∧ f.body = b :=
  ⟨_, congrArg ChainPort.out (State.cport_sendPort_of_up h b len), rfl⟩

theorem State.sendPort_sends_from {s u : State} {p : Side} (h : u.linkUp p = true) (ho : (u.cport p).out = (s.cport p).out) (b : ChainBody)
    (len : Nat) : ∃ f, ((u.sendPort p b len).cport p).out = (s.cport p).out ++ [f] ∧ f.body = b :=
  ho ▸ State.sendPort_sends h b len

theorem State.enumForward_of_up {s : State} {p : Side} (h : s.linkUp p.other = true) (onward back : ChainBody) :
    s.enumForward p onward back = s.sendPort p.other onward := by
  rw [State.enumForward, if_pos h]

/-! ### The map that a head gives -/

theorem State.rd_chainRing_topoValues (s : State) : s.topoValues.rd Key.chainRing = if s.chain.topo.ring then 1 else 0 := by
  unfold State.topoValues
  simp only
  split_ifs <;> simp only [State.rd_mk, State.fold_rd, State.rd_wr_self]

/-- A head that gives a map stands at its head; the ring is as the map has it, and the enumeration is as it was. -/
theorem State.giveMap_gives (s : State) (t : Topo) : (s.giveMap t).chain.topo.head = s.addr ∧
    (s.giveMap t).rd Key.chainRing = (if t.ring then 1 else 0) ∧ (s.giveMap t).chain.enumRun = s.chain.enumRun := by
  unfold State.giveMap
  refine ⟨?_, ?_, ?_⟩
  · simp only [State.sendChain_keeps .., State.pathCheck_keeps .., State.topoValues_keeps ..]
    rfl
  · refine (State.sendChain_rd (by simp)).trans ((State.pathCheck_rd (by simp)).trans ?_)
    exact State.rd_chainRing_topoValues _
  · simp only [State.sendChain_keeps .., State.pathCheck_keeps .., State.topoValues_keeps ..]
    rfl

/-- An enumeration that ends leaves none in progress, and its device at the head of the map. -/
theorem State.enumEnd_ends (s : State) (full ring : Bool) (count attempts code : Nat) (l : List TopoEntry) :
    (s.enumEnd full ring count attempts code l).chain.enumRun = none ∧ (s.enumEnd full ring count attempts code l).rd Key.chainEnumState = 0 ∧
    (s.enumEnd full ring count attempts code l).rd Key.chainRing = (if ring then 1 else 0) ∧
    (s.enumEnd full ring count attempts code l).chain.topo.head = s.addr := by
  unfold State.enumEnd
  extract_lets +onlyGivenNames old gen others after self found reserved
  simp only [State.resEndIfBusy_keeps ..]
  refine ⟨?_, ?_, ?_, ?_⟩
  · exact (State.giveMap_gives ..).2.2
  · refine (State.giveMap_rd (by simp)).trans (State.rd_wr_self ..)
  · exact (State.giveMap_gives ..).2.1
  · exact (State.giveMap_gives ..).1.trans (State.rd_wr_ne _ _ (by decide))

/-! ### SURVEY (R37, R41) -/

theorem State.surveyClaim_of_pin {s : State} {m : Survey} (ha : s.addr = 0xFF) (h1 : 1 ≤ s.rd Key.chainPin) (h63 : s.rd Key.chainPin ≤ 63)
    (hm : bitOf m.mask (s.rd Key.chainPin) = false) : s.surveyClaim m = (some (s.rd Key.chainPin), false) := by
  have h0 : (s.rd Key.chainPin == 0) = false := by rw [beq_eq_false_iff_ne]; omega
  have hheld : (!m.full && s.addr != 0xFF) = false := by simp [ha]
  unfold State.surveyClaim
  simp only [hheld, Bool.false_eq_true, if_false]
  rw [if_neg (by omega), hm, h0]
  simp

theorem State.surveyClaim_of_no_pin {s : State} {m : Survey} (ha : s.addr = 0xFF) (h : s.rd Key.chainPin = 0xFF) :
    s.surveyClaim m = (none, false) := by
  have hheld : (!m.full && s.addr != 0xFF) = false := by simp [ha]
  unfold State.surveyClaim
  simp only [hheld, Bool.false_eq_true, if_false]
  rw [if_pos h]

/-- A device that may not head a chain and is no head passes a SURVEY on. -/
theorem surveyRx_of_member {s : State} {p : Side} (hu : s.linkUp p = true) (hc : s.headCandidate = false) (hr : s.rd Key.chainRole ≠ 1) (m : Survey) :
    exec (.surveyRx p m) s = .next (s.surveyPass p m) := by
  rw [exec_surveyRx, execSurveyRx, if_pos hu, State.surveyRx, if_neg (by simp [hc])]
  simp only [hc, Bool.false_or, beq_eq_false_iff_ne.mpr hr, Bool.false_eq_true, if_false]

/-- A pinned device claims its pin in the SURVEY that it passes on. -/
theorem State.surveyPass_of_pin {s : State} {p : Side} {m : Survey} {a : Nat} (hu : s.linkUp p.other = true) (hc : s.surveyClaim m = (some a, false))
    (hm : bitOf m.mask a = false) : (s.surveyPass p m).chain.claim = some a ∧ ∃ f, ((s.surveyPass p m).cport p.other).out = (s.cport p.other).out ++ [f] ∧
      f.body = .survey { m with mask := m.mask + 2 ^ a, count := m.count + 1 } := by
  have hmark : markBit m.mask a = m.mask + 2 ^ a := by rw [markBit, if_neg (by rw [hm]; decide)]
  unfold State.surveyPass
  simp only [hc, hmark, Option.isNone_some, Bool.false_eq_true, if_false]
  rw [State.enumForward_of_up (by exact hu)]
  refine ⟨?_, State.sendPort_sends (by exact hu) _ _⟩
  simp only [State.sendPort_keeps ..]

/-- A device without a pin or an address claims nothing in the SURVEY that it passes on. -/
theorem State.surveyPass_of_no_pin {s : State} {p : Side} {m : Survey} (hu : s.linkUp p.other = true) (hc : s.surveyClaim m = (none, false)) :
    (s.surveyPass p m).addr = 0xFF ∧ (s.surveyPass p m).chain.claim = none ∧
      ∃ f, ((s.surveyPass p m).cport p.other).out = (s.cport p.other).out ++ [f] ∧ f.body = .survey { m with count := m.count + 1 } := by
  have hu' : (s.wr Key.chainAddr 0xFF).linkUp p.other = true := by
    rwa [State.linkUp, State.link, State.rd_wr_of_fam _ _ (by simp)]
  unfold State.surveyPass
  simp only [hc, Option.isNone_none, Bool.false_eq_true, if_false, if_true]
  rw [State.enumForward_of_up (by exact hu')]
  refine ⟨?_, ?_, State.sendPort_sends (by exact hu') _ _⟩
  · rw [State.addr, State.sendPort_rd (by simp)]
    exact State.rd_wr_self ..
  · simp only [State.sendPort_keeps ..]

theorem State.rd_takeHead_role (s : State) (full : Bool) : (s.takeHead full).rd Key.chainRole = 1 := by
  unfold State.takeHead
  simp only
  split_ifs
  · rw [State.rd_wr_ne _ _ (by decide), State.rd_wr_self]
  · exact State.rd_wr_self ..

/-- A SURVEY that came back gives the head its role and sends ASSIGN (R37). -/
theorem State.surveyBack_of_run {s : State} {r : EnumRun} (h : s.chain.enumRun = some r) (he : s.rd Key.chainEnumState = 1)
    (hu : s.linkUp r.dir = true) (m : Survey) (byDone : Bool) : (s.surveyBack m byDone).rd Key.chainRole = 1 ∧
      (s.surveyBack m byDone).rd Key.chainEnumState = 2 ∧
      ∃ f a, ((s.surveyBack m byDone).cport r.dir).out = (s.cport r.dir).out ++ [f] ∧ f.body = .assign a := by
  unfold State.surveyBack
  split
  case h_1 hn => cases hn.symm.trans h
  case h_2 r' hr =>
    cases hr.symm.trans h
    rw [if_neg (not_not.mpr he)]
    extract_lets +onlyGivenNames headed reserved mask entered chain running
    have hrole : entered.rd Key.chainRole = 1 := (State.rd_wr_ne _ _ (by decide)).trans (State.rd_takeHead_role ..)
    have hstate : entered.rd Key.chainEnumState = 2 := State.rd_wr_self ..
    have hup : entered.linkUp r.dir = true := by
      rwa [State.linkUp, State.link, State.rd_wr_of_fam _ _ (by simp), State.takeHead_rd (by simp)]
    have hout : (entered.cport r.dir).out = (s.cport r.dir).out := by
      simp only [entered, headed, State.wr_keeps .., State.takeHead_keeps ..]
    obtain ⟨f, hf, hb⟩ := State.sendPort_sends_from (u := running) (by exact hup) (by exact hout) (.assign { mask := mask, offer := freeFrom mask 1 }) 32
    exact ⟨(State.sendPort_rd (by simp)).trans hrole, (State.sendPort_rd (by simp)).trans hstate, f, _, hf, hb⟩

theorem surveyReturn_of_run {s : State} {r : EnumRun} (h : s.chain.enumRun = some r) (m : Survey) :
    exec (.surveyReturn r.dir m true) s = .next (s.surveyBack m true) := by
  rw [exec_surveyReturn, execSurveyReturn, h]
  simp only [if_true]

/-! ### ASSIGN (R39) -/

theorem assignRx_of_idle {s : State} {p : Side} (hu : s.linkUp p = true) (hr : s.chain.enumRun = none) (m : Assign) :
    exec (.assignRx p m) s = .next (s.assignRx p m) := by
  rw [exec_assignRx, execAssignRx, if_pos (by rw [hu, hr]; rfl)]

theorem State.addr_enumForward (s : State) (p : Side) (onward back : ChainBody) : (s.enumForward p onward back).addr = s.addr :=
  State.enumForward_rd (by simp)

theorem State.addr_chainPost (s : State) (c : Err) (p : Side) : (s.chainPost c p).addr = s.addr :=
  State.chainPost_rd (by simp)

/-- A device that claimed a number takes it. -/
theorem State.addr_assignRx_of_claim {s : State} {a : Nat} (h : s.chain.claim = some a) (p : Side) (m : Assign) :
    (s.assignRx p m).addr = a := by
  unfold State.assignRx
  simp only [h]
  exact (State.addr_enumForward ..).trans (State.rd_wr_self ..)

/-- A device that claimed none takes the number offered, if there is one. -/
theorem State.addr_assignRx_of_no_claim {s : State} (h : s.chain.claim = none) (hr : s.rd Key.chainRole ≠ 1) (ha : s.addr = 0xFF) (p : Side)
    (m : Assign) : (s.assignRx p m).addr = if m.offer ≤ 63 then m.offer else 0xFF := by
  unfold State.assignRx
  simp only [h]
  rw [if_neg hr, if_neg (not_not.mpr ha)]
  by_cases hm : m.offer ≤ 63
  · rw [if_neg (by omega), if_pos hm]
    exact (State.addr_enumForward ..).trans (State.rd_wr_self ..)
  · rw [if_pos (by omega), if_neg hm]
    exact (State.addr_enumForward ..).trans ((State.addr_chainPost ..).trans ha)

theorem assignReturn_of_run {s : State} {r : EnumRun} (h : s.chain.enumRun = some r) (he : s.rd Key.chainEnumState = 2) (m : Assign)
    (map : List TopoEntry) : exec (.assignReturn r.dir.other m false map) s = .next (s.enumEnd r.full true r.count r.attempts 0 map) := by
  have hd : r.dir.other ≠ r.dir := by cases r.dir <;> decide
  rw [exec_assignReturn, execAssignReturn, h]
  simp only [he, hd, Bool.false_eq_true, and_self, if_true, Bool.not_false]

/-! ### Starts and retries (R42, R43) -/

/-- With its TACK_DN link up, a device that starts an enumeration sends SURVEY there, and the enumeration runs. -/
theorem State.startEnum_of_dn {s : State} (hu : s.linkUp .dn = true) (full : Bool) (attempts : Nat) :
    (s.startEnum full attempts).rd Key.chainEnumState = 1 ∧ (s.startEnum full attempts).dict.results = s.dict.results ∧
    (∃ q, (s.startEnum full attempts).chain.enumRun = some q ∧ q.attempts = attempts) ∧
    ∃ f m, ((s.startEnum full attempts).cport .dn).out = (s.cport .dn).out ++ [f] ∧ f.body = .survey m ∧ m.count = 1 ∧ m.full = full ∧
      (full = true → m.mask = 1) := by
  have hdir {o : Option Side} (h : (if ({ s with chain := { s.chain with claim := none } } : State).linkUp .dn then some Side.dn else
      if ({ s with chain := { s.chain with claim := none } } : State).linkUp .up then some Side.up else none) = o) : o = some .dn :=
    h.symm.trans (if_pos hu)
  unfold State.startEnum
  extract_lets +onlyGivenNames chain unclaimed
  split
  case h_1 h => cases hdir h
  case h_2 d h =>
    cases hdir h
    extract_lets +onlyGivenNames mask roled entered chain' running
    have hroled : roled.linkUp .dn = true ∧ roled.dict.results = s.dict.results ∧ roled.cport .dn = s.cport .dn := by
      unfold roled
      split_ifs
      · exact ⟨hu, rfl, rfl⟩
      · refine ⟨?_, rfl, rfl⟩
        rw [State.linkUp, State.link, State.rd_wr_of_fam _ _ (by simp)]
        exact hu
    obtain ⟨hup, hres, hport⟩ := hroled
    have hup' : entered.linkUp .dn = true := by rwa [State.linkUp, State.link, State.rd_wr_of_fam _ _ (by simp)]
    have hstate : entered.rd Key.chainEnumState = 1 := State.rd_wr_self ..
    have hport' : entered.cport .dn = s.cport .dn := by simp only [entered, State.wr_keeps .., hport]
    have hmask : full = true → mask = 1 := fun hf => if_pos (.inl hf)
    clear_value mask roled
    refine ⟨(State.sendPort_rd (by simp)).trans hstate, ?_, ?_, ?_⟩
    · simp only [State.sendPort_keeps ..]
      exact hres
    · simp only [State.sendPort_keeps ..]
      exact ⟨_, rfl, rfl⟩
    · obtain ⟨f, hf, hb⟩ := State.sendPort_sends_from (u := running) (s := s) (p := .dn) (by exact hup') (congrArg ChainPort.out hport')
        (.survey { rank := running.rank, mask := mask, count := 1, full := full }) 32
      exact ⟨f, _, hf, hb, rfl, rfl, hmask⟩

/-- Without a PREPARE pending, an enumeration that is asked for starts (R42). -/
theorem State.enumAsk_of_free {s : State} (h : s.prepared = false) (full : Bool) :
    s.enumAsk full = s.startEnum (full || s.chain.fullOwed) := by
  rw [State.enumAsk, if_neg (by rw [h]; decide)]

/-- While a PREPARE is pending an enumeration waits. -/
theorem State.enumAsk_of_prepared {s : State} (h : s.prepared = true) (full : Bool) :
    (s.enumAsk full).rd Key.chainEnumState = 3 ∧ (s.enumAsk full).chain.enumRun = none := by
  rw [State.enumAsk, if_pos h]
  exact ⟨State.rd_wr_self .., rfl⟩

theorem enumAutoStart_of_due {s : State} (h : s.enumDue = true) : exec .enumAutoStart s = .next (s.enumAsk false) := by
  rw [exec_enumAutoStart, execEnumAutoStart, if_pos h]

/-- A head takes the command to enumerate, and the run begins. -/
theorem State.enumCmd_of_head {s : State} (hr : s.rd Key.chainRole = 1) (hp : s.prepared = false) (full : Bool) :
    s.enumCmd full = (s.resBegin Key.chainEnumRes).startEnum (full || s.chain.fullOwed) := by
  have hp' : (s.resBegin Key.chainEnumRes).prepared = false := by simpa only [State.prepared, State.resBegin_keeps ..] using hp
  rw [State.enumCmd, if_pos hr, State.enumAsk_of_free hp']
  simp only [State.resBegin_keeps ..]

/-- The run that a head's command begins is in progress while the enumeration runs. -/
theorem State.busy_enumCmd {s : State} (hu : s.linkUp .dn = true) (full : Bool) :
    (((s.resBegin Key.chainEnumRes).startEnum full).res Key.chainEnumRes).busy = true := by
  have hu' : (s.resBegin Key.chainEnumRes).linkUp .dn = true := by simpa only [State.linkUp, State.link, State.resBegin_keeps ..] using hu
  obtain ⟨-, hres, -, -⟩ := State.startEnum_of_dn hu' full 1
  rw [State.res, hres]
  exact congrArg ResRec.busy (State.res_resBegin_self s Key.chainEnumRes)

theorem chainEnumIncremental_free {s : State} (h : s.cmdBlocked Key.chainEnumRes = false) :
    exec .chainEnumIncremental s = .next (s.enumCmd false) := by
  rw [exec_chainEnumIncremental, execChainEnumIncremental, if_neg (by rw [h]; decide)]

theorem chainEnumFull_free {s : State} (h : s.cmdBlocked Key.chainEnumRes = false) : exec .chainEnumFull s = .next (s.enumCmd true) := by
  rw [exec_chainEnumFull, execChainEnumFull, if_neg (by rw [h]; decide)]

/-- A pass of 1 ms is tried again, and the third ends the enumeration (R43). -/
theorem enumPassTimeout_late {s : State} {dt : Nat} {r : EnumRun} (h : s.chain.enumRun = some r)
    (hl : r.started + ms 1 ≤ (s.advance dt).elapsed) (map : List TopoEntry) :
    ∃ u : State, (u.linkUp .dn = s.linkUp .dn) ∧ exec (.enumPassTimeout map dt) s = .next (
      if r.attempts < 3 then u.startEnum r.full (r.attempts + 1)
      else ((u.takeHead r.full).chainPost .enumFail r.dir).enumEnd r.full false r.count 3 1 map) := by
  have h' : (s.advance dt).chain.enumRun = some r := by simpa only [State.advance_keeps ..] using h
  refine ⟨if r.ring then (s.advance dt).wr Key.chainRing 0 else s.advance dt, ?_, ?_⟩
  · split_ifs
    · rw [State.linkUp, State.link, State.rd_wr_of_fam _ _ (by simp)]
      simp only [State.linkUp, State.link, State.advance_keeps ..]
    · simp only [State.linkUp, State.link, State.advance_keeps ..]
  · rw [exec_enumPassTimeout, execEnumPassTimeout]
    simp only [h', Nat.not_lt.mpr hl, if_false]

/-! ### The statement -/

/-- Settles O2: each command by its equation above; an enumeration's start is `State.startEnum_of_dn`, its end `State.enumEnd_ends`. -/
theorem chainEnumeration : Obligations.ChainEnumeration := by
  unfold Obligations.ChainEnumeration
  refine ⟨?pinned, ?unpinned, ?surveyBack, ?claimed, ?offered, ?assignBack, ?waits, ?starts, ?incremental, ?full, ?retry, ?fails⟩
  case pinned =>
    intro p m s hu ho hc hr ha h1 h63 hm
    rw [surveyRx_of_member hu hc hr, gives_next]
    exact State.surveyPass_of_pin ho (State.surveyClaim_of_pin ha h1 h63 hm) hm
  case unpinned =>
    intro p m s hu ho hc hr ha hp
    rw [surveyRx_of_member hu hc hr, gives_next]
    exact State.surveyPass_of_no_pin ho (State.surveyClaim_of_no_pin ha hp)
  case surveyBack =>
    intro m r s h he hu
    rw [surveyReturn_of_run h, gives_next]
    exact State.surveyBack_of_run h he hu m true
  case claimed =>
    intro p m a s hu hr h
    rw [assignRx_of_idle hu hr, gives_next]
    exact State.addr_assignRx_of_claim h p m
  case offered =>
    intro p m s hu hr h hrole ha
    rw [assignRx_of_idle hu hr, gives_next]
    exact State.addr_assignRx_of_no_claim h hrole ha p m
  case assignBack =>
    intro m map r s h he
    rw [assignReturn_of_run h he, gives_next]
    exact State.enumEnd_ends s r.full true r.count r.attempts 0 map
  case waits =>
    intro s hd hp
    rw [enumAutoStart_of_due hd, gives_next]
    exact State.enumAsk_of_prepared hp false
  case starts =>
    intro s hd hp hu
    rw [enumAutoStart_of_due hd, State.enumAsk_of_free hp, gives_next]
    obtain ⟨he, -, -, f, m, hf, hb, hcount, -⟩ := State.startEnum_of_dn hu (false || s.chain.fullOwed) 1
    exact ⟨he, f, m, hf, hb, hcount⟩
  case incremental =>
    intro s hb hr hp hu
    have hu' : (s.resBegin Key.chainEnumRes).linkUp .dn = true := by simpa only [State.linkUp, State.link, State.resBegin_keeps ..] using hu
    rw [chainEnumIncremental_free hb, State.enumCmd_of_head hr hp, gives_next]
    exact ⟨(State.startEnum_of_dn hu' _ 1).1, State.busy_enumCmd hu _⟩
  case full =>
    intro s hb hr hp hu
    have hu' : (s.resBegin Key.chainEnumRes).linkUp .dn = true := by simpa only [State.linkUp, State.link, State.resBegin_keeps ..] using hu
    rw [chainEnumFull_free hb, State.enumCmd_of_head hr hp, gives_next]
    obtain ⟨he, -, -, f, m, hf, hb, -, hfull, hmask⟩ := State.startEnum_of_dn hu' (true || s.chain.fullOwed) 1
    simp only [State.resBegin_keeps ..] at hf
    exact ⟨he, State.busy_enumCmd hu _, f, m, hf, hb, hfull, hmask rfl⟩
  case retry =>
    intro map dt r s h hl ha hu
    obtain ⟨u, huu, heq⟩ := enumPassTimeout_late h hl map
    rw [heq, if_pos ha, gives_next]
    obtain ⟨he, -, hq, -⟩ := State.startEnum_of_dn (huu.trans hu) r.full (r.attempts + 1)
    exact ⟨he, hq⟩
  case fails =>
    intro map dt r s h hl ha
    obtain ⟨u, -, heq⟩ := enumPassTimeout_late h hl map
    rw [heq, if_neg (Nat.not_lt.mpr ha), gives_next]
    obtain ⟨hrun, hstate, hring, -⟩ := State.enumEnd_ends ((u.takeHead r.full).chainPost .enumFail r.dir) r.full false r.count 3 1 map
    exact ⟨hstate, hrun, hring⟩

end Sys2Proof.Machine
end

section
/-! Proofs of the heads of a chain: the map, HEAD, and how a head yields and is taken over (R44 to R47). -/

namespace Sys2Proof.Machine

/-! ### The map of a member -/

/-- A device that takes a map holds it. -/
theorem State.topo_takeMap (s : State) (t : Topo) : (s.takeMap t).chain.topo = t := by
  simp only [State.takeMap, State.pathCheck_keeps .., State.topoValues_keeps ..]

theorem topoRx_of_member {s : State} {p : Side} (hu : s.linkUp p = true) (hr : s.rd Key.chainRole ≠ 1) (hc : s.headCandidate = false) (m : Topo) :
    exec (.topoRx p (.map m)) s = .next ((s.memberMap m).raise 11) := by
  rw [exec_topoRx, execTopoRx, if_pos hu, State.topoRx]
  simp only [if_neg hr, hc, Bool.false_and, Bool.false_eq_true, if_false]

theorem State.topo_memberMap (s : State) (t : Topo) : (s.memberMap t).chain.topo = t := State.topo_takeMap ..

/-! ### HEAD (R44) -/

/-- A broadcast of an addressed device in a ring that is whole goes out by TACK_DN. -/
theorem State.sendChain_all_of_ring {s : State} (ha : s.addr ≠ 0xFF) (hr : s.ringIntact = true) (hu : s.linkUp .dn = true)
    (cls tenant len tag : Nat) (b : ChainBody) : ((s.sendChain dstAll cls tenant len tag b).cport .dn).out =
      (s.cport .dn).out ++ [s.mkFrame dstAll cls tenant len tag b] := by
  rw [State.sendChain, if_neg (fun h => ha h.1)]
  simp only [if_true]
  rw [State.broadcast, if_pos hr, State.queueAt_of_up hu, State.cport_setCport_self]

theorem headBroadcast_of_head {s : State} (h : s.rd Key.chainRole = 1) : exec .headBroadcast s = .next s.headSend := by
  rw [exec_headBroadcast, execHeadBroadcast, if_pos h]

/-- HEAD reaches an addressed device at a port that is up. -/
theorem headRx_of_addressed {s : State} {p : Side} (hu : s.linkUp p = true) (ha : s.addr ≠ 0xFF) (m : HeadMsg) :
    exec (.headRx p m) s = .next (s.headRx m) := by
  rw [exec_headRx, execHeadRx, if_pos (by simp [hu, ha])]

/-- A standby head heard HEAD. -/
def State.heardHead (s : State) : State := { s with chain := { s.chain with headAt := s.elapsed } }

theorem State.headRx_of_standby {s : State} {m : HeadMsg} (hr : s.rd Key.chainRole = 2) (he : m.rank.eui ≠ s.ident.eui64) :
    s.headRx m = if m.relinquish && s.host.linkUp then s.heardHead.takeover else s.heardHead := by
  rw [State.headRx]
  simp only [if_neg he, hr, if_neg (show ¬ (2 = 1) by decide), if_true]
  rfl

theorem State.headRx_of_head {s : State} {m : HeadMsg} (hr : s.rd Key.chainRole = 1) (he : m.rank.eui ≠ s.ident.eui64)
    (hm : m.relinquish = false) (hl : s.host.linkUp = true) (hk : rankAbove m.rank s.rank = true) : s.headRx m = s.yieldHead m.addr := by
  rw [State.headRx]
  simp only [if_neg he, hr, if_true, hm, Bool.false_eq_true, if_false, hl, Bool.not_true, hk]

/-! ### A standby head takes over, and a head becomes one -/

/-- A takeover gives the device its role and the map its head, and keeps the address (R46). -/
theorem State.takeover_takes (s : State) : s.takeover.rd Key.chainRole = 1 ∧ s.takeover.addr = s.addr ∧ s.takeover.chain.topo.head = s.addr := by
  have haddr : (s.wr Key.chainRole 1).addr = s.addr := State.rd_wr_ne _ _ (by decide)
  refine ⟨?_, State.takeover_rd (by simp), ?_⟩
  · unfold State.takeover State.headSend
    rw [State.sendChain_rd (by simp), State.giveMap_rd (by simp), State.rd_wr_self]
  · unfold State.takeover State.headSend
    simp only [State.sendChain_keeps ..]
    exact (State.giveMap_gives ..).1.trans haddr

/-- A standby head keeps its address. -/
theorem State.toStandby_stands (s : State) : s.toStandby.rd Key.chainRole = 2 ∧ s.toStandby.addr = s.addr := by
  refine ⟨?_, State.toStandby_rd (by simp)⟩
  unfold State.toStandby
  simp only [State.resEndIfBusy_keeps ..]
  exact (State.rd_wr_ne _ _ (by decide)).trans (State.rd_wr_self ..)

/-- A head that yields stands by, with the other head in its map. -/
theorem State.yieldHead_yields (s : State) (dest : Nat) : (s.yieldHead dest).rd Key.chainRole = 2 ∧ (s.yieldHead dest).addr = s.addr ∧
    (s.yieldHead dest).chain.topo.head = dest := by
  refine ⟨?_, State.yieldHead_rd (by simp), ?_⟩
  · unfold State.yieldHead
    rw [State.sendChain_rd (by simp), State.takeMap_rd (by simp), s.toStandby_stands.1]
  · unfold State.yieldHead
    simp only [State.sendChain_keeps .., State.topo_takeMap]

theorem headMissTakeover_late {s : State} {dt : Nat} (hr : s.rd Key.chainRole = 2) (hl : s.host.linkUp = true)
    (hm : s.chain.headAt + ms (s.rd Key.chainHeadMiss) ≤ (s.advance dt).elapsed) :
    exec (.headMissTakeover dt) s = .next (s.advance dt).takeover := by
  rw [exec_headMissTakeover, execHeadMissTakeover]
  exact congrArg _ (if_pos (by simpa only [State.advance_keeps ..] using ⟨hr, hl, hm⟩))

theorem chainSwitchover_free {s : State} (h : s.cmdBlocked Key.chainSwitchoverRes = false) : exec .chainSwitchover s = .next s.switchover := by
  rw [exec_chainSwitchover, execChainSwitchover, if_neg (by rw [h]; decide)]

/-- A switchover of a standby head is a takeover (R47). -/
theorem State.switchover_of_standby {s : State} (hr : s.rd Key.chainRole = 2) (hl : s.host.linkUp = true) :
    s.switchover = (s.resBegin Key.chainSwitchoverRes).takeover.resEnd Key.chainSwitchoverRes 0 := by
  have hr' : (s.resBegin Key.chainSwitchoverRes).rd Key.chainRole = 2 := by simpa only [State.resBegin_keeps ..] using hr
  have hl' : (s.resBegin Key.chainSwitchoverRes).host.linkUp = true := by simpa only [State.resBegin_keeps ..] using hl
  rw [State.switchover]
  simp only [hr', hl', if_neg (show ¬ (2 = 1) by decide), and_self, if_true]

/-- A switchover of a head that reaches another gives up the role. -/
theorem State.switchover_of_head {s : State} (hr : s.rd Key.chainRole = 1) (hh : s.headReached false = true) :
    ∃ u : State, u.addr = s.addr ∧ s.switchover = u.toStandby.resEnd Key.chainSwitchoverRes 0 := by
  have hr' : (s.resBegin Key.chainSwitchoverRes).rd Key.chainRole = 1 := by simpa only [State.resBegin_keeps ..] using hr
  have hh' : (s.resBegin Key.chainSwitchoverRes).headReached false = true := by simpa only [State.headReached, State.routeTo, State.addr, State.resBegin_keeps ..] using hh
  rw [State.switchover]
  simp only [hr', hh', if_true]
  refine ⟨_, ?_, rfl⟩
  refine (State.sendChain_rd (by simp)).trans ?_
  simp only [State.resBegin_keeps ..]

/-! ### The statement -/

/-- Settles O3: each command by its equation above; the role, the address and the head of the map are those of the takeover
(`State.takeover_takes`), of the standby head (`State.toStandby_stands`) and of the head that yields (`State.yieldHead_yields`). -/
theorem chainHeads : Obligations.ChainHeads := by
  unfold Obligations.ChainHeads
  refine ⟨?map, ?broadcast, ?heard, ?relinquished, ?yields, ?missed, ?switchStandby, ?switchHead⟩
  case map =>
    intro p m s hu hr hc
    rw [topoRx_of_member hu hr hc, gives_next]
    simp only [State.raise_keeps .., State.topo_memberMap]
  case broadcast =>
    intro s hr ha hring hu
    rw [headBroadcast_of_head hr, gives_next]
    exact ⟨_, State.sendChain_all_of_ring ha hring hu .., rfl, rfl⟩
  case heard =>
    intro p m s hu ha hr he hm
    rw [headRx_of_addressed hu ha, State.headRx_of_standby hr he, if_neg (by simp [hm]), gives_next]
    exact ⟨rfl, hr⟩
  case relinquished =>
    intro p m s hu ha hr he hm hl
    rw [headRx_of_addressed hu ha, State.headRx_of_standby hr he, if_pos (by rw [hm, hl]; rfl), gives_next]
    exact State.takeover_takes s.heardHead
  case yields =>
    intro p m s hu ha hr he hm hl hk
    rw [headRx_of_addressed hu ha, State.headRx_of_head hr he hm hl hk, gives_next]
    exact State.yieldHead_yields ..
  case missed =>
    intro dt s hr hl hm
    rw [headMissTakeover_late hr hl hm, gives_next]
    obtain ⟨hrole, haddr, hhead⟩ := (s.advance dt).takeover_takes
    simp only [State.addr, State.advance_keeps ..] at haddr hhead
    exact ⟨hrole, haddr, hhead⟩
  case switchStandby =>
    intro s hb hr hl
    rw [chainSwitchover_free hb, State.switchover_of_standby hr hl, gives_next]
    obtain ⟨hrole, haddr, -⟩ := (s.resBegin Key.chainSwitchoverRes).takeover_takes
    simp only [State.addr, State.resBegin_keeps ..] at haddr
    simp only [State.addr, State.resEnd_keeps .., State.res_resEnd_self, hrole, haddr, if_true, and_self]
  case switchHead =>
    intro s hb hr hh
    obtain ⟨u, hu, heq⟩ := State.switchover_of_head hr hh
    rw [chainSwitchover_free hb, heq, gives_next]
    obtain ⟨hrole, haddr⟩ := u.toStandby_stands
    have haddr' := haddr.trans hu
    simp only [State.addr] at haddr'
    simp only [State.addr, State.resEnd_keeps .., State.res_resEnd_self, hrole, haddr', if_true, and_self]

end Sys2Proof.Machine
end

section
/-! Proofs of what neighbours on a chain measure and share: the link delay, chain time, and remote transactions of the Saddlebag. -/

namespace Sys2Proof.Machine

/-! ### Link delay and chain time (R51, R440) -/

theorem delayMeasure_of_up {s : State} {p : Side} (h : s.linkUp p = true) (t1 : Nat) : exec (.delayMeasure p t1) s =
    .next ((s.setCport p { s.cport p with t1 := some t1 }).sendPort p (.delayReq t1)) := by
  rw [exec_delayMeasure, execDelayMeasure, if_pos h]

theorem delayReqRx_of_up {s : State} {p : Side} (h : s.linkUp p = true) (t1 t2 t3 : Nat) :
    exec (.delayReqRx p t1 t2 t3) s = .next (s.sendPort p (.delayRsp t1 t2 t3)) := by
  rw [exec_delayReqRx, execDelayReqRx, State.delayReq, if_pos h]

/-- The delay of the four stamps, where the partner's come in order (R51). -/
theorem delayOf_of_ordered (t1 t4 : Nat) {t2 t3 : Nat} (h : t2 ≤ t3) :
    delayOf t1 t2 t3 t4 = ((t4 - t1) - (t3 - t2)) / 2 := by
  unfold delayOf
  omega

/-- A response to the measurement in progress gives the delay of the link (R51). -/
theorem State.delayRsp_of_asked {s : State} {p : Side} {t1 : Nat} (hu : s.linkUp p = true) (h : (s.cport p).t1 = some t1) (t2 t3 t4 : Nat) :
    (s.delayRsp p t1 t2 t3 t4).rd (Key.linkDelayNs (sideNum p)) = min (delayOf t1 t2 t3 t4) 20000 ∧
    ((s.delayRsp p t1 t2 t3 t4).cport p).t1 = none ∧
    (((s.delayRsp p t1 t2 t3 t4).cport p).long = true ↔ 20000 < delayOf t1 t2 t3 t4) := by
  unfold State.delayRsp
  simp only
  rw [if_pos ⟨h, hu⟩]
  split_ifs
  · rw [State.chainPost_rd (by simp), State.rd_wr_self]
    simp only [State.chainPost_keeps .., State.wr_keeps .., State.cport_setCport_self, decide_eq_true_eq, and_self]
  · rw [State.rd_wr_self]
    simp only [State.wr_keeps .., State.cport_setCport_self, decide_eq_true_eq, and_self]

/-- The head sends its time with no hop behind it. -/
theorem timeFrameTx_of_head {s : State} {p : Side} (hh : s.isHead = true) (hu : s.linkUp p = true) :
    exec (.timeFrameTx p) s = .next (s.sendPort p (.time (timeMsg s.time80 s.clock.state 0 s.clock.stepGen))) := by
  have hops : s.timeHops p = some 0 := by rw [State.timeHops, if_pos hh]
  rw [exec_timeFrameTx, execTimeFrameTx, hops]
  exact congrArg _ (if_pos hu)

theorem timeFrameRx_accepted {s : State} {p : Side} {m : TimeMsg} {dt : Nat} (h : (s.advance dt).timeRejects p m = false) :
    Gives (exec (.timeFrameRx p m dt) s) fun t => t.clock.stepGen = m.stepGen := by
  rw [exec_timeFrameRx, execTimeFrameRx, State.timeRx, if_neg (by rw [h]; decide), gives_next]
  simp only [State.epochCheck_keeps ..]

theorem timeFrameRx_rejected {s : State} {p : Side} {m : TimeMsg} {dt : Nat} (h : (s.advance dt).timeRejects p m = true) :
    exec (.timeFrameRx p m dt) s = .next (s.advance dt) := by
  rw [exec_timeFrameRx, execTimeFrameRx, State.timeRx, if_pos h]

/-! ### Remote transactions of the Saddlebag (R54, R55) -/

/-- The chain is as it was where its parts and its ports are. -/
theorem State.chain_eq_of_same {s t : State} (h : SameChain s t) (hp : SameChainPorts s t) : t.chain = s.chain := by
  obtain ⟨htopo, hrun, hclaim, hat, howed, htag, hopens, hlate⟩ := h
  obtain ⟨hup, hdn, -, -⟩ := hp
  cases hs : s.chain
  cases ht : t.chain
  simp only [hs, ht] at htopo hrun hclaim hat howed htag hopens hlate hup hdn
  subst htopo hrun hclaim hat howed htag hopens hlate hup hdn
  rfl

theorem State.chain_sbPost (s : State) (c : Err) (d : Nat) : (s.sbPost c d).chain = s.chain :=
  State.chain_eq_of_same (by simp only [SameChain, State.sbPost_keeps .., and_self])
    (by simp only [SameChainPorts, State.sbPost_keeps .., implies_true, and_self])

/-- A request that breaks the limits ends at once. -/
theorem sbReqIssue_of_bad {r : SbReq} (h : sbReqOk r = false) (s : State) : exec (.sbReqIssue r) s =
    .next ((s.sbPost .sbBadReq (sbDevice r.addr)).emit (.saddlebag 0 none [])) := by
  rw [exec_sbReqIssue, execSbReqIssue]
  exact congrArg _ (if_pos (by rw [h]; rfl))

/-- A request for this device beyond its bytes ends at once. -/
theorem sbReqIssue_of_own_unmapped {r : SbReq} {s : State} (h : sbReqOk r = true) (hd : sbDevice r.addr = s.addr)
    (hm : s.rd Key.sbAttached < sbOffset r.addr + r.len) : exec (.sbReqIssue r) s = .next (s.emit (.saddlebag 0 (some .unmapped) [])) := by
  rw [exec_sbReqIssue, execSbReqIssue]
  simp only [h, Bool.not_true, Bool.false_eq_true, if_false, if_pos hd, if_pos hm]

/-- A request for a device that the map does not list ends at once. -/
theorem sbReqIssue_of_absent {r : SbReq} {s : State} (h : sbReqOk r = true) (hd : sbDevice r.addr ≠ s.addr)
    (hn : (topoPos s.chain.topo (sbDevice r.addr)).isNone = true) : exec (.sbReqIssue r) s =
      .next ((s.sbPost .sbNoDevice (sbDevice r.addr)).emit (.saddlebag 0 none [])) := by
  rw [exec_sbReqIssue, execSbReqIssue]
  simp only [h, Bool.not_true, Bool.false_eq_true, if_false, if_neg hd, if_pos (show s.addr = 0xFF ∨ _ from .inr hn)]

/-- A request that is sent is an open transaction under the next TAG. -/
def State.sbOpened (s : State) (r : SbReq) : State :=
  { s with chain := { s.chain with nextTag := (s.chain.nextTag + 1) % 2 ^ 32
                                   opens := s.chain.opens ++ [{ tag := s.chain.nextTag, req := r, sentAt := s.elapsed }] } }

theorem sbReqIssue_of_present {r : SbReq} {s : State} (h : sbReqOk r = true) (hd : sbDevice r.addr ≠ s.addr) (ha : s.addr ≠ 0xFF)
    (hn : (topoPos s.chain.topo (sbDevice r.addr)).isSome = true) : exec (.sbReqIssue r) s =
      .next ((s.sbOpened r).sendChain (sbDevice r.addr) 0 0 (sbReqLen r) s.chain.nextTag (.sbReq r)) := by
  have hn' : ¬ (s.addr = 0xFF ∨ (topoPos s.chain.topo (sbDevice r.addr)).isNone = true) := by
    rintro (e | e)
    · exact ha e
    · rw [Option.isNone_iff_eq_none.mp e] at hn
      exact absurd hn (by decide)
  rw [exec_sbReqIssue, execSbReqIssue]
  simp only [h, Bool.not_true, Bool.false_eq_true, if_false, if_neg hd, if_neg hn']
  rfl

/-- A transaction without an answer in time ends. -/
theorem sbTimeout_late {s : State} {tag dt : Nat} {o : SbOpen} (h : s.chain.opens.find? (fun o => o.tag == tag) = some o)
    (hl : o.sentAt + us (s.rd Key.chainSbTimeoutUs) ≤ (s.advance dt).elapsed) : Gives (exec (.sbTimeout tag dt) s) fun t =>
      t.chain.opens = s.chain.opens.filter (fun o => o.tag != tag) ∧ t.out = .saddlebag tag none [] :: s.out := by
  have h' : (s.advance dt).chain.opens.find? (fun o => o.tag == tag) = some o := by simpa only [State.advance_keeps ..] using h
  have hl' : ¬ (s.advance dt).elapsed < o.sentAt + us ((s.advance dt).rd Key.chainSbTimeoutUs) := by
    simpa only [State.advance_keeps .., not_lt] using hl
  rw [exec_sbTimeout, execSbTimeout]
  simp only [h', if_neg hl', gives_next]
  simp only [State.emit_keeps .., State.out_emit, State.chain_sbPost, State.sbPost_keeps .., State.advance_keeps .., and_self]

/-! ### The statement -/

/-- Settles O4: each command by its equation above. -/
theorem chainMeasuresAndMemory : Obligations.ChainMeasuresAndMemory := by
  unfold Obligations.ChainMeasuresAndMemory
  refine ⟨?measure, ?asked, ?answered, ?timeTx, ?timeRx, ?timeKept, ?bad, ?unmapped, ?absent, ?opened, ?response, ?timeout⟩
  case measure =>
    intro p t1 s hu
    have hu' : (s.setCport p { s.cport p with t1 := some t1 }).linkUp p = true := by
      simpa only [State.linkUp, State.link, State.setCport_keeps ..] using hu
    rw [delayMeasure_of_up hu, gives_next, State.cport_sendPort_of_up hu', State.cport_setCport_self]
    exact ⟨rfl, _, rfl, rfl⟩
  case asked =>
    intro p t1 t2 t3 s hu
    rw [delayReqRx_of_up hu, gives_next]
    exact State.sendPort_sends hu ..
  case answered =>
    intro p t1 t2 t3 t4 s hu h _ h23 _
    rw [exec_delayRspRx, execDelayRspRx, gives_next, ← delayOf_of_ordered t1 t4 h23]
    exact State.delayRsp_of_asked hu h t2 t3 t4
  case timeTx =>
    intro p s hh hu
    rw [timeFrameTx_of_head hh hu, gives_next]
    obtain ⟨f, hf, hb⟩ := State.sendPort_sends hu (.time (timeMsg s.time80 s.clock.state 0 s.clock.stepGen)) 32
    exact ⟨f, _, hf, hb, rfl⟩
  case timeRx =>
    intro p m dt s h
    exact timeFrameRx_accepted h
  case timeKept =>
    intro p m dt s h
    rw [timeFrameRx_rejected h, gives_next]
  case bad =>
    intro r s h
    rw [sbReqIssue_of_bad h, gives_next]
    exact ⟨State.chain_sbPost .., by simp only [State.out_emit, State.sbPost_keeps ..]⟩
  case unmapped =>
    intro r s h hd hm
    rw [sbReqIssue_of_own_unmapped h hd hm, gives_next]
    exact ⟨rfl, rfl⟩
  case absent =>
    intro r s h hd hn
    rw [sbReqIssue_of_absent h hd hn, gives_next]
    exact ⟨State.chain_sbPost .., by simp only [State.out_emit, State.sbPost_keeps ..]⟩
  case opened =>
    intro r s h hd ha hn
    rw [sbReqIssue_of_present h hd ha hn, gives_next]
    simp only [State.sendChain_keeps ..]
    exact ⟨rfl, rfl⟩
  case response =>
    intro tag code bytes s
    rw [exec_sbRspRx, execSbRspRx, gives_next, State.sbResponse]
    by_cases h : s.chain.opens.any (fun o => o.tag == tag) = true
    · rw [if_pos h, if_pos h]
      exact ⟨rfl, rfl⟩
    · rw [if_neg h, if_neg h]
      exact ⟨rfl, rfl⟩
  case timeout =>
    intro tag dt o s h hl
    exact sbTimeout_late h hl

end Sys2Proof.Machine
end

section
/-! The statement about accesses of the dictionary: a WRITE of `GIRTH_COMPAT` puts nodes into the wheel, and the wheel counts. -/

namespace Sys2Proof.Machine

/-! ### A device whose one node is a compatibility node of tenant 0 -/

/-- A compatibility node of tenant 0 in mode 1 whose uplink cell comes every 40,000 slotframes, in the last of them. -/
def rareCompatNode : NodeRec :=
  { NodeRec.free with host := splice (splice (splice (zeros 128) 0 [1#8]) 9 [0x18#8]) 58 (leBytes 2 40000 ++ leBytes 2 39999) }

/-- A device in RUN that serves tenant 0 by slotframe 0 of 100 slots on channel 0 of port 2, with that node in record 0 and `GIRTH_COMPAT` 0. -/
def rareCompatDevice : State :=
  (((((State.reset.wr Key.pwrState 4).wr (Key.tenEnable 0) 1).wr (Key.sfSlots 0) 100).wr (Key.tenChmap 0 2) 1)).setRec 0 rareCompatNode

/-- The host writes 1 to `GIRTH_COMPAT`. -/
def compatOn : Access :=
  { ver := 1, op := 2, resp := false, last := false, pending := false, sub := false, retry := false, status := 0, target := 0, origin := 0x80,
    reqId := 1, index := 0x3000, subindex := 3, subcount := 1, offset := 0, length := 1, txn := 0, payload := [1#8], crcOk := true }

/-- The row of `GIRTH_COMPAT`. -/
def compatRow : Dict.Entry := (rowOf 0x3000 3).getD ⟨"", 0, 0, 0, 0, 0, 0, .bool, .const, 0, false, .none, 0⟩

theorem rareCompatDevice_takes : rareCompatDevice.Takes .mailbox compatOn 2 :=
  ⟨by decide +kernel, by decide +kernel, by decide +kernel, by decide +kernel, by decide +kernel, by decide +kernel, by decide +kernel,
    by decide +kernel, by decide +kernel, .inr (by decide +kernel)⟩

/-- The node's next cell lies beyond the wheel, and its entry counts in `SCHED_WHEEL_SPILL` (R252). -/
theorem compatOn_spills : (match exec (.write .mailbox compatOn) rareCompatDevice with
    | .next t => t.rd Key.schedWheelSpill
    | _ => 0) = 1 ∧ rareCompatDevice.rd Key.schedWheelSpill = 0 := by
  constructor <;> decide +kernel

/-- Refutes O5: the clause on WRITE has every number but the written one stay. `GIRTH_COMPAT` at 1 has the entries of compatibility nodes made,
and one that lies beyond the wheel counts in `SCHED_WHEEL_SPILL`. -/
theorem not_dictAccess : ¬ Obligations.DictAccess := by
  unfold Obligations.DictAccess
  rintro ⟨-, -, hwrite, -⟩
  have hcheck : rareCompatDevice.check (rareCompatDevice.stands []) compatRow compatOn.index compatOn.subindex (leNat compatOn.payload) =
      Checked.pass 1 := by decide +kernel
  obtain ⟨t, ht, -, hsame, -⟩ := hwrite .mailbox compatOn compatRow rareCompatDevice rareCompatDevice_takes rfl (by decide +kernel)
    (by decide +kernel) (by decide +kernel) (by decide +kernel) (by decide +kernel) (by rw [hcheck]; rfl) (by rw [hcheck]; rfl)
  obtain ⟨hspill, hzero⟩ := compatOn_spills
  have hkept := hsame Key.schedWheelSpill (by decide) (by decide) (by decide)
  rw [ht] at hspill
  have hone : t.rd Key.schedWheelSpill = 1 := hspill
  omega

end Sys2Proof.Machine
end

section
/-! Proofs of what a device asks and keeps by its dictionary: subscriptions, requests and their responses, stored defaults and the logs. -/

namespace Sys2Proof.Machine

/-! ### The way of a request to its operation (R68, R74, R78) -/

/-- An answer leaves the device. -/
@[simp] theorem State.out_answerTo (s : State) (via : Via) (a : Access) : (s.answerTo via a).out = .access via a :: s.out := by
  unfold State.answerTo
  cases via <;> simp only [State.mailboxIn_keeps .., State.dictSend_keeps .., State.corePut_keeps .., State.out_emit]

theorem State.txnTouch_of_no_txn (s : State) {a : Access} (h : a.txn = 0) : s.txnTouch a = s := by
  unfold State.txnTouch
  split
  · exact if_neg fun e => e.1 h
  · rfl

theorem State.blockTouch_of_no_block (s : State) {a : Access} (h : a.op ≠ 4) : s.blockTouch a = s := by
  rw [State.blockTouch, if_pos h]

/-- A request of no transaction and no block that the service takes runs. -/
theorem State.opRow_of_takes {s : State} {via : Via} {a : Access} {op : Nat} (h : s.Takes via a op) (ht : a.txn = 0) (h4 : op ≠ 4) :
    s.opRow op via a = s.execute via a := by
  obtain ⟨hready, hrom, hseat, hpwr, hcrc, hop, hresp, hhead, hstored, hto⟩ := h
  have ha : { a with op := op, resp := false } = a := by rw [← hop, ← hresp]
  have halive : s.alive = true := by rw [State.alive, hready, Bool.true_or]
  have hpwr' : (s.pwr == 2) = false := beq_eq_false_iff_ne.mpr hpwr
  have hserve : s.serve via a = s.execute via a := by
    unfold State.serve State.answer
    simp only [halive, hseat, hcrc, hready, hpwr', hrom, hhead, State.txnTouch_of_no_txn s ht, State.blockTouch_of_no_block s (hop ▸ h4), hstored,
      Bool.not_true, Bool.or_self, Bool.false_eq_true, if_false, Bool.and_false, false_and, or_self]
  rw [State.opRow, ha]
  unfold State.request
  cases via with
  | chain p => exact hserve
  | mailbox =>
    have hown : s.ownTarget a.target = true := hto.resolve_left fun ⟨_, e⟩ => by cases e
    exact (if_pos (by rw [hown, Bool.or_true])).trans hserve
  | core n =>
    have hown : s.ownTarget a.target = true := hto.resolve_left fun ⟨_, e⟩ => by cases e
    exact (if_pos (by rw [hown, Bool.or_true])).trans hserve

/-- A request that starts no command answers, and keeps its operation's subscriptions. -/
theorem State.execute_of_no_run {s : State} {via : Via} {a : Access} (h : (s.runOp via a).run = none) :
    (s.execute via a).out = .access via (respond a (s.runOp via a).status (s.runOp via a).payload) :: (s.runOp via a).state.out ∧
    (s.execute via a).dict.subs = (s.runOp via a).state.dict.subs := by
  unfold State.execute
  simp only [h]
  split_ifs <;> simp only [State.out_answerTo, State.answerTo_keeps .., and_self]

/-! ### Subscriptions (R75) -/

/-- A subscription that is asked for where none is held, of an interval that may be had. -/
theorem State.notifyOp_of_free {s : State} {via : Via} {a : Access} {r : Dict.Entry} (hsub : a.sub = true) (hlen : a.payload.length = 4)
    (hsubs : s.dict.subs = []) (hlo : 100 ≤ leNat a.payload) (hhi : leNat a.payload ≤ 10000000) (hrow : namedRows a = .inr [r])
    (hty : r.ty ≠ .domain) : s.notifyOp via a = ({ s with dict := { s.dict with subs :=
      [{ via := via, origin := a.origin, key := keyOf a.index a.subindex, intervalUs := leNat a.payload, lastSent := none, count := 0,
         seen := s.watched (keyOf a.index a.subindex) }] } } : State).say 0 := by
  have hiv : max 100 (min 10000000 (leNat a.payload)) = leNat a.payload := by omega
  have hdom : [r].any (fun r => r.ty == .domain && r.acc != .res) = false := by simp [hty]
  unfold State.notifyOp
  simp only [hrow, hdom, hsub, hlen, hsubs, hiv, List.filter_nil, List.length_nil, List.nil_append, Bool.false_eq_true, Bool.not_true, if_false,
    ne_eq, not_true_eq_false, if_true]
  rw [if_neg (by omega)]

theorem modifyAt_getElem {α : Type} (f : α → α) {l : List α} {i : Nat} {x : α} (h : l[i]? = some x) : (modifyAt f i l)[i]? = some (f x) := by
  induction l generalizing i with
  | nil => simp at h
  | cons y l ih =>
    cases i with
    | zero => simp only [List.getElem?_cons_zero, Option.some.injEq] at h; rw [modifyAt, List.getElem?_cons_zero, h]
    | succ i => rw [modifyAt, List.getElem?_cons_succ]; exact ih (by simpa using h)

/-- An event leaves the device and the subscriptions stay. -/
theorem State.eventSend_sends (s : State) (x : Subscription) (a : Access) :
    (s.eventSend x a).out = .notify x.via a :: s.out ∧ (s.eventSend x a).dict.subs = s.dict.subs := by
  refine ⟨?_, by simp only [State.eventSend_keeps ..]⟩
  unfold State.eventSend
  split <;> simp only [State.notifyHost_keeps .., State.corePut_keeps .., State.dictSend_keeps .., State.out_emit]

theorem notifyEventSend_changed {s : State} {slot dt : Nat} {x : Subscription} (h : s.dict.subs[slot]? = some x) (hl : x.lastSent = none)
    (hv : (s.advance dt).watched x.key ≠ x.seen) : Gives (exec (.notifyEventSend slot dt) s) fun t =>
      (∃ e, t.out = .notify x.via e :: s.out ∧ e.reqId = (x.count + 1) % 65536 ∧ e.index = x.key / 256) ∧
      ∃ y, t.dict.subs[slot]? = some y ∧ y.count = (x.count + 1) % 65536 := by
  have h' : (s.advance dt).dict.subs[slot]? = some x := by simpa only [State.advance_keeps ..] using h
  rw [exec_notifyEventSend, execNotifyEventSend]
  simp only [h', hl, hv, Bool.false_eq_true, or_self, if_false, gives_next]
  simp only [State.eventSend_sends, State.advance_keeps ..]
  exact ⟨⟨_, rfl, rfl, rfl⟩, _, modifyAt_getElem _ h, rfl⟩

/-! ### Requests of this device (R80, R81) -/

theorem dictResponseRx_of_asked {s : State} {src : Nat} {a : Access} {x : Asked} (hal : s.alive = true) (hcrc : a.crcOk = true)
    (h : s.dict.asked.find? (fun x => x.dest == src && x.frame.origin == a.origin && x.frame.reqId == a.reqId) = some x) :
    Gives (exec (.dictResponseRx src a) s) fun t => t.out = .access x.via { a with resp := true } :: s.out ∧
      t.dict.asked = s.dict.asked.filter (fun y => !(y.dest == src && y.frame.origin == a.origin && y.frame.reqId == a.reqId)) := by
  rw [exec_dictResponseRx, execDictResponseRx]
  simp only [hal, hcrc, Bool.not_true, Bool.false_eq_true, if_false, gives_next]
  unfold State.dictResponse
  simp only [askedBy, h]
  split
  · simp only [State.mailboxIn_keeps .., State.out_emit, State.emit_keeps .., *, and_self]
  all_goals simp only [State.out_answerTo, State.answerTo_keeps .., and_self]

/-- A request without a response in time is sent again (R80). -/
theorem dictRetryTimeout_again {s : State} {slot dt : Nat} {x : Asked} (h : s.dict.asked[slot]? = some x)
    (hl : x.sentAt + us (s.rd Key.dictTimeoutUs) ≤ (s.advance dt).elapsed) (hr : x.resends < s.rd Key.dictRetries) :
    Gives (exec (.dictRetryTimeout slot dt) s) fun t => t.out = s.out ∧
      ∃ y, t.dict.asked[slot]? = some y ∧ y.resends = x.resends + 1 ∧ y.frame = x.frame := by
  have h' : (s.advance dt).dict.asked[slot]? = some x := by simpa only [State.advance_keeps ..] using h
  have hl' : ¬ (s.advance dt).elapsed < x.sentAt + us ((s.advance dt).rd Key.dictTimeoutUs) := by simpa only [State.advance_keeps .., not_lt] using hl
  have hr' : x.resends < (s.advance dt).rd Key.dictRetries := by simpa only [State.advance_keeps ..] using hr
  rw [exec_dictRetryTimeout, execDictRetryTimeout]
  simp only [h', if_neg hl', if_pos hr', gives_next]
  simp only [State.dictSend_keeps .., State.advance_keeps .., true_and]
  exact ⟨_, modifyAt_getElem _ h, rfl, rfl⟩

/-- A request that was sent often enough is answered TIMEOUT (R80). -/
theorem dictRetryTimeout_ends {s : State} {slot dt : Nat} {x : Asked} (h : s.dict.asked[slot]? = some x)
    (hl : x.sentAt + us (s.rd Key.dictTimeoutUs) ≤ (s.advance dt).elapsed) (hr : s.rd Key.dictRetries ≤ x.resends) :
    Gives (exec (.dictRetryTimeout slot dt) s) fun t => t.out = .access x.via (respond x.frame 0x42 []) :: s.out ∧
      t.dict.asked = removeAt slot s.dict.asked := by
  have h' : (s.advance dt).dict.asked[slot]? = some x := by simpa only [State.advance_keeps ..] using h
  have hl' : ¬ (s.advance dt).elapsed < x.sentAt + us ((s.advance dt).rd Key.dictTimeoutUs) := by simpa only [State.advance_keeps .., not_lt] using hl
  have hr' : ¬ x.resends < (s.advance dt).rd Key.dictRetries := by simpa only [State.advance_keeps .., not_lt] using hr
  rw [exec_dictRetryTimeout, execDictRetryTimeout]
  simp only [h', if_neg hl', if_neg hr', gives_next]
  simp only [State.out_answerTo, State.answerTo_keeps .., State.advance_keeps .., and_self]

/-! ### Stored defaults and the logs (R67, R103) -/

theorem dictStore_free {s : State} (h : s.cmdBlocked Key.dictStoreRes = false) : exec .dictStore s = .next (s.storeCmd 1) := by
  rw [exec_dictStore, execDictStore, if_neg (by rw [h]; decide)]

theorem dictErase_free {s : State} (h : s.cmdBlocked Key.dictStoreRes = false) : exec .dictErase s = .next (s.storeCmd 2) := by
  rw [exec_dictErase, execDictErase, if_neg (by rw [h]; decide)]

/-- A run that stores or erases is in progress until its write ends. -/
theorem State.storeCmd_begins (s : State) (v : Nat) : (s.storeCmd v).dict.storing = some (if v = 1 then some s.defaultsNow else none) ∧
    (s.storeCmd v).dict.bankC = s.dict.bankC ∧ ((s.storeCmd v).res Key.dictStoreRes).busy = true :=
  ⟨rfl, rfl, congrArg ResRec.busy (State.res_resBegin_self s Key.dictStoreRes)⟩

/-- A write of bank C is at its end, and its run still busy. -/
def State.storeOver (s : State) (set : Option BankC) : State := { s with dict := { s.dict with storing := none, bankC := set } }

theorem dictStoreDone_of_storing {s : State} {set : Option BankC} (h : s.dict.storing = some set) (ok : Bool) : exec (.dictStoreDone ok) s =
    .next (if ok then (s.storeOver set).resEnd Key.dictStoreRes 0 else (s.storeOver s.dict.bankC).resEnd Key.dictStoreRes 1) := by
  rw [exec_dictStoreDone, execDictStoreDone, h]
  rfl

theorem clampLogClear_free {s : State} (h : s.cmdBlocked Key.clampLogClearRes = false) : exec .clampLogClear s = .next s.clampLogClear := by
  rw [exec_clampLogClear, execClampLogClear, if_neg (by rw [h]; decide)]

theorem errLogClear_free {s : State} (h : s.cmdBlocked Key.errLogClearRes = false) : exec .errLogClear s = .next s.errLogClear := by
  rw [exec_errLogClear, execErrLogClear, if_neg (by rw [h]; decide)]

/-- A log that is cleared is empty, and its total stays. -/
theorem State.clampLogClear_clears (s : State) : s.clampLogClear.dict.clampLog = [] ∧ s.clampLogClear.rd Key.clampLogNext = 0 ∧
    s.clampLogClear.rd Key.clampTotal = s.rd Key.clampTotal ∧ (s.clampLogClear.res Key.clampLogClearRes).outcome = 1 := by
  unfold State.clampLogClear
  simp only [State.resEnd_keeps .., State.res_resEnd_self, State.rd_wr_self]
  exact ⟨rfl, trivial, State.rd_wr_ne _ _ (by decide), rfl⟩

/-- The same of the error log. -/
theorem State.errLogClear_clears (s : State) : s.errLogClear.dict.errLog = [] ∧ s.errLogClear.rd Key.errLogNext = 0 ∧
    s.errLogClear.rd Key.errTotal = s.rd Key.errTotal ∧ (s.errLogClear.res Key.errLogClearRes).outcome = 1 := by
  unfold State.errLogClear
  simp only [State.resEnd_keeps .., State.res_resEnd_self, State.rd_wr_self]
  exact ⟨rfl, trivial, State.rd_wr_ne _ _ (by decide), rfl⟩

/-! ### The statement -/

/-- Settles O7: each command by its equation above. -/
theorem dictAskingAndStores : Obligations.DictAskingAndStores := by
  unfold Obligations.DictAskingAndStores
  refine ⟨?notify, ?event, ?response, ?again, ?timeout, ?store, ?erase, ?stored, ?failed, ?clampLog, ?errLog⟩
  case notify =>
    rintro via a s h ht hsub hlen hsubs hlo hhi ⟨r, hrow, hty⟩
    have hop : a.op = 8 := h.2.2.2.2.2.1
    have hrun : s.runOp via a = s.notifyOp via a := by
      unfold State.runOp
      simp only [hop]
    rw [State.notifyOp_of_free hsub hlen hsubs hlo hhi hrow hty] at hrun
    obtain ⟨hout, hkept⟩ := State.execute_of_no_run (s := s) (via := via) (a := a) (by rw [hrun]; rfl)
    rw [exec_notify, execNotify, State.opRow_of_takes h ht (by decide), gives_next, hout, hkept, hrun]
    exact ⟨rfl, rfl⟩
  case event =>
    intro slot dt x s h hl hv
    exact notifyEventSend_changed h hl hv
  case response =>
    intro src a x s hal hcrc h
    exact dictResponseRx_of_asked hal hcrc h
  case again =>
    intro slot dt x s h hl hr
    exact dictRetryTimeout_again h hl hr
  case timeout =>
    intro slot dt x s h hl hr
    exact dictRetryTimeout_ends h hl hr
  case store =>
    intro s h
    rw [dictStore_free h, gives_next]
    exact s.storeCmd_begins 1
  case erase =>
    intro s h
    rw [dictErase_free h, gives_next]
    exact s.storeCmd_begins 2
  case stored =>
    intro set s h
    rw [dictStoreDone_of_storing h, if_pos rfl, gives_next, State.res_resEnd_self]
    exact ⟨rfl, rfl, rfl, rfl⟩
  case failed =>
    intro set s h
    rw [dictStoreDone_of_storing h, if_neg (by decide), gives_next, State.res_resEnd_self]
    exact ⟨rfl, rfl, rfl⟩
  case clampLog =>
    intro s h
    rw [clampLogClear_free h, gives_next]
    exact s.clampLogClear_clears
  case errLog =>
    intro s h
    rw [errLogClear_free h, gives_next]
    exact s.errLogClear_clears

end Sys2Proof.Machine
end

section
/-! Proofs of the family 'other', chapter 18: the instructions of the ALU group. -/

namespace Sys2Proof.Machine

/-! ### What completes an instruction leaves of a core (R457, R460) -/

/-- Two cores that differ in what completing an instruction moves alone: the pc, the loops, the cycles and the note of a load. -/
def Core.Moved (c d : Core) : Prop := d.regs = c.regs ∧ c.SameSystem d

theorem Core.Moved.refl (c : Core) : c.Moved c := ⟨rfl, rfl⟩

theorem Core.SameSystem.trans {c d e : Core} (h : c.SameSystem d) (h' : d.SameSystem e) : c.SameSystem e := by
  unfold Core.SameSystem at *
  rw [← h, ← h']

theorem Core.Moved.trans {c d e : Core} (h : c.Moved d) (h' : d.Moved e) : c.Moved e := ⟨h'.1.trans h.1, h.2.trans h'.2⟩

theorem Core.moved_testWrite (c : Core) (r : Nat) (v : Word) : c.Moved (c.testWrite r v) := by
  rw [Core.testWrite]
  split
  · exact .refl c
  · exact ⟨rfl, rfl⟩

theorem Core.moved_endStep (c : Core) (x : Word) (n : Nat) : c.Moved (c.endStep x n).1 := by
  simp only [Core.endStep]
  split
  · split
    · exact c.moved_testWrite ..
    · exact c.moved_testWrite ..
  · exact .refl c

theorem Core.moved_endTest (c : Core) (x : Word) : c.Moved (c.endTest x).1 := by
  have h2 := c.moved_endStep x 2
  have h1 := h2.trans ((c.endStep x 2).1.moved_endStep x 1)
  simp only [Core.endTest]
  split
  · exact h2
  · split
    · exact h1
    · exact h1.trans (Core.moved_endStep ..)

theorem Core.moved_complete (c : Core) (x : Word) (cost : Nat) : c.Moved (c.complete x cost) := by
  have h := c.moved_endTest x
  simp only [Core.complete]
  split
  · exact h.trans ⟨rfl, rfl⟩
  · exact h.trans ⟨rfl, rfl⟩

theorem Core.moved_issue (c : Core) (r : CoreRun) (uses : List (Fin 32)) : c.Moved (c.issue r uses) := ⟨rfl, rfl⟩

/-! ### A write of a general register (R454) -/

theorem Core.g_setG (c : Core) (r k : Nat) (v : Word) : (c.setG r v).g k = if k = r ∧ r ≠ 0 then v else c.g k := by
  by_cases hr : r = 0
  · simp [Core.setG, hr]
  · by_cases hk : k = r
    · simp [Core.setG, Core.g, hr, hk, KMap.getD_setD_self]
    · simp [Core.setG, Core.g, hr, hk, KMap.getD_setD_ne _ _ _ _ hk]

theorem Core.sameSystem_setG (c : Core) (r : Nat) (v : Word) : c.SameSystem (c.setG r v) := by
  rw [Core.setG]
  split <;> rfl

theorem Core.pc_setG (c : Core) (r : Nat) (v : Word) : (c.setG r v).pc = c.pc := by
  rw [Core.setG]
  split <;> rfl

theorem Core.Straight.setG {c : Core} (h : c.Straight) (r : Nat) (v : Word) : (c.setG r v).Straight := by
  rw [Core.setG]
  split <;> exact h

/-! ### An instruction that writes a register and completes -/

/-- Where a core runs and fetches the word, an instruction that is no branch does what it does, at a loop's end too. -/
theorem State.awl_runs {s : State} {r : CoreRun} {w : Word} (hf : s.Fetches r.n) (hw : s.fetches r.n (s.core r.n).pc w = true)
    (uses : List (Fin 32)) (f : State → State) :
    s.awl r w uses false f = f (s.setCore r.n ((s.core r.n).issue r uses)) := by
  simp [State.awl, hf.1, hf.2, hw, Core.issue]

/-- A core that takes a register and whatever completing an instruction moves wrote that register. -/
theorem State.wroteReg_of_core {s t : State} {n rd cost : Nat} {c : Core} {v : Word} (ho : s.OnlyCore t n) (hc : (s.core n).Moved c)
    (hs : (s.core n).Straight → c.Straight)
    (ht : t.core n = (c.setG rd v).complete (s.core n).pc cost) : s.WroteReg t n rd v := by
  have hm := (c.setG rd v).moved_complete (s.core n).pc cost
  refine ⟨fun k => ?_, ?_, fun hst => ?_, ho⟩
  · rw [ht, Core.g_congr hm.1, Core.g_setG, Core.g_congr hc.1]
  · rw [ht]
    exact hc.2.trans ((c.sameSystem_setG rd v).trans hm.2)
  · rw [ht, ((hs hst).setG rd v).complete]

/-- An instruction that writes rd with a value of the core and completes wrote rd with it. -/
theorem State.awlDone_gives {s : State} {r : CoreRun} {rd : Fin 32} {w x : Word} {cost : Nat} {uses : List (Fin 32)} {v : Core → Word}
    (hf : s.Fetches r.n) (hx : v ((s.core r.n).issue r uses) = x) :
    GivesAt s r.n w (.next (s.awl r w uses false fun s => s.awlDone r.n cost fun c => c.setG rd (v c))) fun t =>
      s.WroteReg t r.n rd x := fun hw => by
  rw [gives_next, State.awl_runs hf hw, State.awlDone, State.core_setCore_self, hx]
  exact State.wroteReg_of_core ((State.OnlyCore.refl s r.n).setCore _ |>.setCore _) (Core.moved_issue ..) (fun h => h)
    (State.core_setCore_self ..)

section
variable {s : State} {r : CoreRun} (hf : s.Fetches r.n)
include hf

theorem State.alu3_gives {rd ra rb : Fin 32} {func cost : Nat} {f : Word → Word → Word} {x : Word}
    (hx : f ((s.core r.n).g ra) ((s.core r.n).g rb) = x) :
    GivesAt s r.n (encR 0x01 rd ra rb func) (.next (s.alu3 r rd ra rb func cost f)) fun t => s.WroteReg t r.n rd x :=
  State.awlDone_gives hf hx

theorem State.alu2_gives {rd ra : Fin 32} {func : Nat} {f : Word → Word} {x : Word} (hx : f ((s.core r.n).g ra) = x) :
    GivesAt s r.n (encR 0x01 rd ra 0 func) (.next (s.alu2 r rd ra func f)) fun t => s.WroteReg t r.n rd x :=
  State.awlDone_gives hf hx

theorem State.aluI_gives {op : Nat} {rd ra : Fin 32} {imm : BitVec 16} {f : Word → Word} {x : Word} (hx : f ((s.core r.n).g ra) = x) :
    GivesAt s r.n (encI op rd ra imm.toNat) (.next (s.aluI r op rd ra imm f)) fun t => s.WroteReg t r.n rd x :=
  State.awlDone_gives hf hx

theorem State.aluShift_gives {kind : Nat} {rd ra : Fin 32} {k : BitVec 5} {f : Word → Word} {x : Word} (hx : f ((s.core r.n).g ra) = x) :
    GivesAt s r.n (encI 0x08 rd ra (kind * 32 + k.toNat)) (.next (s.aluShift r kind rd ra k f)) fun t => s.WroteReg t r.n rd x :=
  State.awlDone_gives hf hx

end

/-! ### The values of Tables 18-4 and 18-5 -/

theorem sshiftRight_eq_ofInt (a : Word) (k : Nat) : a.sshiftRight k = BitVec.ofInt 32 (a.toInt / 2 ^ k) := by
  rw [BitVec.sshiftRight, Int.shiftRight_eq_div_pow]
  rfl

theorem ofBool_ltS (a b : Word) : ofBool (ltS a b) = if a.toInt < b.toInt then 1#32 else 0#32 := by
  simp only [ofBool, ltS_iff]

theorem ofBool_ltU (a b : Word) : ofBool (ltU a b) = if a.toNat < b.toNat then 1#32 else 0#32 := by
  simp only [ofBool, ltU_iff]

theorem mul_eq_ofNat (a b : Word) : a * b = BitVec.ofNat 32 (a.toNat * b.toNat) := by
  simp [BitVec.ofNat_mul]

theorem divU_eq (a b : Word) : divU a b = if b = 0#32 then 0xFFFFFFFF#32 else a / b := by
  rw [divU, BitVec.udiv_def]

theorem remU_eq (a b : Word) : remU a b = if b = 0#32 then a else a % b := by
  rw [remU, BitVec.umod_def]

theorem minS_eq (a b : Word) : (if ltS b a = true then b else a) = if a.toInt ≤ b.toInt then a else b := by
  simp only [ltS_iff, ← Int.not_le, ite_not]

theorem maxS_eq (a b : Word) : (if ltS a b = true then b else a) = if a.toInt ≤ b.toInt then b else a := by
  simp only [ltS_iff]
  by_cases h : a.toInt < b.toInt
  · rw [if_pos h, if_pos (Int.le_of_lt h)]
  · by_cases h' : a.toInt ≤ b.toInt
    · rw [if_neg h, if_pos h', BitVec.eq_of_toInt_eq (by omega : a.toInt = b.toInt)]
    · rw [if_neg h, if_neg h']

theorem minU_eq (a b : Word) : (if ltU b a = true then b else a) = if a.toNat ≤ b.toNat then a else b := by
  simp only [ltU_iff, ← Nat.not_le, ite_not]

theorem maxU_eq (a b : Word) : (if ltU a b = true then b else a) = if a.toNat ≤ b.toNat then b else a := by
  simp only [ltU_iff]
  by_cases h : a.toNat < b.toNat
  · rw [if_pos h, if_pos (Nat.le_of_lt h)]
  · by_cases h' : a.toNat ≤ b.toNat
    · rw [if_neg h, if_pos h', BitVec.eq_of_toNat_eq (by omega : a.toNat = b.toNat)]
    · rw [if_neg h, if_neg h']

/-- Below 2^n, counting from bit n − 1 down finds the logarithm. -/
theorem leadingZeros_eq (x : Nat) : ∀ n, x < 2 ^ n → leadingZeros x n = if x = 0 then n else n - 1 - x.log2
  | 0, h => by simp [leadingZeros]
  | n + 1, h => by
    by_cases hx : 2 ^ n ≤ x
    · have h0 : x ≠ 0 := by have := Nat.two_pow_pos n; omega
      have hb : bitOf x n = true := by
        have hd : x / 2 ^ n = 1 := Nat.div_eq_of_lt_le (by omega) (by rw [Nat.pow_succ] at h; omega)
        simp [bitOf, hd]
      have hl : x.log2 = n := (Nat.log2_eq_iff h0).mpr ⟨hx, h⟩
      simp [leadingZeros, hb, h0, hl]
    · have hlt : x < 2 ^ n := Nat.lt_of_not_le hx
      have hb : bitOf x n = false := by simp [bitOf, Nat.div_eq_of_lt hlt]
      rw [leadingZeros, hb, leadingZeros_eq x n hlt]
      by_cases h0 : x = 0
      · simp [h0, Nat.add_comm]
      · have := (Nat.log2_lt h0).mpr hlt
        simp only [h0, if_false, Bool.false_eq_true]
        omega

theorem leadingZeros_word (a : Word) : leadingZeros a.toNat 32 = if a = 0#32 then 32 else 31 - a.toNat.log2 := by
  rw [leadingZeros_eq _ _ a.isLt]
  simp [← BitVec.toNat_inj]

theorem popcount_eq (n : Nat) : ∀ x, popcount n x = ((List.range n).filter x.testBit).length := by
  induction n with
  | zero => exact fun _ => rfl
  | succ n ih =>
    intro x
    have hc : (fun i => x.testBit (Nat.succ i)) = (x / 2).testBit := funext fun i => Nat.testBit_succ x i
    rw [popcount, ih, List.range_succ_eq_map, List.filter_cons, List.filter_map, Function.comp_def, hc, Nat.testBit_zero]
    rcases Nat.mod_two_eq_zero_or_one x with h | h <;> simp [h, Nat.add_comm]

theorem byteSwap_eq (a : Word) :
    byteSwap a = (a.extractLsb' 0 8 ++ a.extractLsb' 8 8 ++ a.extractLsb' 16 8 ++ a.extractLsb' 24 8 : BitVec 32) := by
  apply BitVec.eq_of_toNat_eq
  have := a.isLt
  simp only [byteSwap, leBytes, beNat, List.foldl, BitVec.toNat_append, BitVec.extractLsb'_toNat, BitVec.toNat_ofNat,
    Nat.shiftRight_eq_div_pow, Nat.div_div_eq_div_mul, Nat.reducePow, Nat.reduceMul, Nat.div_one]
  rw [← Nat.shiftLeft_add_eq_or_of_lt (by omega), ← Nat.shiftLeft_add_eq_or_of_lt (by omega),
    ← Nat.shiftLeft_add_eq_or_of_lt (by omega)]
  simp only [Nat.shiftLeft_eq]
  omega

/-- Settles O38: each instruction writes its value of Tables 18-4 and 18-5 to rd. -/
theorem aluOfRegisters : Obligations.AluOfRegisters := by
  unfold Obligations.AluOfRegisters
  intro r rd ra rb s hf a b
  exact ⟨State.alu3_gives hf rfl, State.alu3_gives hf rfl, State.alu3_gives hf rfl, State.alu3_gives hf rfl,
    State.alu3_gives hf rfl, State.alu3_gives hf rfl, State.alu3_gives hf rfl, State.alu3_gives hf (sshiftRight_eq_ofInt ..),
    State.alu3_gives hf (ofBool_ltS ..), State.alu3_gives hf (ofBool_ltU ..), State.alu3_gives hf (mul_eq_ofNat ..),
    State.alu3_gives hf rfl, State.alu3_gives hf rfl, State.alu3_gives hf rfl, State.alu3_gives hf (divU_eq ..),
    State.alu3_gives hf rfl, State.alu3_gives hf (remU_eq ..), State.alu3_gives hf (minS_eq ..), State.alu3_gives hf (maxS_eq ..),
    State.alu3_gives hf (minU_eq ..), State.alu3_gives hf (maxU_eq ..),
    State.alu2_gives hf (congrArg (BitVec.ofNat 32) (leadingZeros_word _)),
    State.alu2_gives hf (congrArg (BitVec.ofNat 32) (popcount_eq 32 _)), State.alu2_gives hf (byteSwap_eq _)⟩

/-! ### Immediates (Tables 18-3 and 18-4) -/

theorem himm_eq (i : BitVec 16) : himm i = BitVec.ofNat 32 (i.toNat * 65536) := by
  apply BitVec.eq_of_toNat_eq
  have := i.isLt
  simp only [himm, BitVec.toNat_shiftLeft, BitVec.truncate_eq_setWidth, BitVec.toNat_setWidth, BitVec.toNat_ofNat, Nat.shiftLeft_eq]
  omega

theorem toInt_simm (i : BitVec 16) : (simm i).toInt = i.toInt := BitVec.toInt_signExtend_of_le (by decide)

theorem simm_eq (i : BitVec 16) : simm i = BitVec.ofInt 32 i.toInt := rfl

theorem add_simm (a : Word) (i : BitVec 16) : a + simm i = BitVec.ofInt 32 (a.toInt + i.toInt) := by
  rw [BitVec.ofInt_add, simm_eq, BitVec.ofInt_toInt]

theorem zimm_eq (i : BitVec 16) : zimm i = BitVec.ofNat 32 i.toNat := (BitVec.ofNat_toNat 32 i).symm

theorem shiftLeft_eq_ofNat (a : Word) (k : Nat) : a <<< k = BitVec.ofNat 32 (a.toNat * 2 ^ k) := by
  apply BitVec.eq_of_toNat_eq
  rw [BitVec.toNat_shiftLeft, BitVec.toNat_ofNat, Nat.shiftLeft_eq]

theorem ushiftRight_eq_ofNat (a : Word) (k : Nat) : a >>> k = BitVec.ofNat 32 (a.toNat / 2 ^ k) := by
  apply BitVec.eq_of_toNat_eq
  rw [BitVec.toNat_ushiftRight, BitVec.toNat_ofNat, Nat.shiftRight_eq_div_pow,
    Nat.mod_eq_of_lt (Nat.lt_of_le_of_lt (Nat.div_le_self ..) a.isLt)]

theorem rotR_eq (a : Word) (k : BitVec 5) : rotR a k.toNat = a >>> k.toNat ||| a <<< (32 - k.toNat) := by
  rw [rotR, BitVec.rotateRight_def, Nat.mod_eq_of_lt k.isLt]

/-- Settles O39: each instruction with an immediate writes its value of Tables 18-4 and 18-5 to rd. -/
theorem aluOfImmediates : Obligations.AluOfImmediates := by
  unfold Obligations.AluOfImmediates
  intro r rd ra imm k s hf a
  refine ⟨State.aluI_gives hf (add_simm ..), State.aluI_gives hf (congrArg (_ &&& ·) (zimm_eq _)),
    State.aluI_gives hf (congrArg (_ ||| ·) (zimm_eq _)), State.aluI_gives hf (congrArg (_ ^^^ ·) (zimm_eq _)),
    State.aluI_gives hf ?_, State.aluI_gives hf (ofBool_ltU ..), State.aluShift_gives (kind := 0) hf (shiftLeft_eq_ofNat ..),
    State.aluShift_gives (kind := 1) hf (ushiftRight_eq_ofNat ..), State.aluShift_gives (kind := 2) hf (sshiftRight_eq_ofInt ..),
    State.aluShift_gives (kind := 3) hf (rotR_eq ..), State.awlDone_gives hf (himm_eq imm),
    State.awlDone_gives hf (congrArg (_ + ·) (himm_eq imm))⟩
  rw [ofBool_ltS, toInt_simm]

end Sys2Proof.Machine
end

section
/-! Proofs of the family 'other', chapter 18: loads, stores and atomic operations of a core's own local memory. -/

namespace Sys2Proof.Machine

/-! ### Little-endian values (R454) -/

theorem leNat_cons_eq {w : Nat} {bs : Bytes} {x : BitVec w} (h : leNat bs = x.toNat) (b : Byte) : leNat (b :: bs) = (x ++ b).toNat := by
  rw [leNat, h, BitVec.toNat_append, ← Nat.shiftLeft_add_eq_or_of_lt b.isLt, Nat.shiftLeft_eq]
  omega

theorem leNat_single (b : Byte) : leNat [b] = b.toNat := by simp [leNat]

theorem ofRaw_toNat {w : Nat} (x : BitVec w) (hw : 0 < w) : ofRaw w x.toNat = x.toInt := by
  obtain ⟨w, rfl⟩ : ∃ v, w = v + 1 := ⟨w - 1, by omega⟩
  rw [ofRaw, BitVec.toInt_eq_toNat_cond, Nat.mod_eq_of_lt x.isLt]
  have h : (x.toNat < 2 ^ (w + 1 - 1)) ↔ 2 * x.toNat < 2 ^ (w + 1) := by
    rw [Nat.add_sub_cancel, Nat.pow_succ]
    omega
  simp only [h]
  have hm : ((x.toNat : Int) % (2 : Int) ^ (w + 1)) = (x.toNat : Int) :=
    Int.emod_eq_of_lt (Int.natCast_nonneg _) (by exact_mod_cast x.isLt)
  rw [hm]
  push_cast
  rfl

theorem signedLoad_byte (x : BitVec 8) : signedLoad 1 x.toNat = x.signExtend 32 :=
  congrArg (BitVec.ofInt 32) (ofRaw_toNat x (by decide))

theorem signedLoad_half (x : BitVec 16) : signedLoad 2 x.toNat = x.signExtend 32 :=
  congrArg (BitVec.ofInt 32) (ofRaw_toNat x (by decide))

theorem length_leBytes (x : Nat) : ∀ w, (leBytes w x).length = w := fun w => by
  induction w generalizing x with
  | zero => rfl
  | succ w ih => rw [leBytes, List.length_cons, ih]

theorem getD_leBytes {w i : Nat} (hi : i < w) (x : Nat) : (leBytes w x).getD i 0#8 = BitVec.ofNat 8 (x / 256 ^ i) := by
  induction w generalizing x i with
  | zero => exact absurd hi (Nat.not_lt_zero i)
  | succ w ih =>
    cases i with
    | zero => simp [leBytes]
    | succ i =>
      rw [leBytes, List.getD_cons_succ, ih (Nat.lt_of_succ_lt_succ hi), Nat.div_div_eq_div_mul, Nat.pow_succ, Nat.mul_comm 256]

theorem getD_leBytes_word {w i : Nat} (hi : i < w) (v : Word) : (leBytes w v.toNat).getD i 0#8 = v.extractLsb' (8 * i) 8 := by
  rw [getD_leBytes hi, BitVec.extractLsb', Nat.shiftRight_eq_div_pow, Nat.pow_mul]

/-! ### What a core sees of its own memory (R470, R472) -/

/-- The value at a that a core's word instructions see. -/
def State.ownWord (s : State) (n a : Nat) : BitVec 32 :=
  s.ownByte n (a + 3) ++ s.ownByte n (a + 2) ++ s.ownByte n (a + 1) ++ s.ownByte n a

theorem State.ownValue_one (s : State) (n a : Nat) : s.ownValue n a 1 = (s.ownByte n a).toNat := leNat_single _

theorem State.ownValue_two (s : State) (n a : Nat) :
    s.ownValue n a 2 = (s.ownByte n (a + 1) ++ s.ownByte n a : BitVec 16).toNat := leNat_cons_eq (leNat_single _) _

theorem State.ownValue_four (s : State) (n a : Nat) : s.ownValue n a 4 = (s.ownWord n a).toNat :=
  leNat_cons_eq (leNat_cons_eq (leNat_cons_eq (leNat_single _) _) _) _

/-- What a core sees depends on its store buffer and on its local memory alone. -/
theorem State.ownByte_congr {s t : State} {n : Nat} (hs : (t.core n).stores = (s.core n).stores)
    (hm : t.cores.mem = s.cores.mem) (x : Nat) : t.ownByte n x = s.ownByte n x := by
  rw [State.ownByte, State.ownByte, State.localByte, State.localByte, hs, hm]

theorem State.ownByte_setCore {s : State} {n : Nat} {c : Core} (h : c.stores = (s.core n).stores) (x : Nat) :
    (s.setCore n c).ownByte n x = s.ownByte n x := 
  State.ownByte_congr (s := s) (t := s.setCore n c) (n := n) (by rw [s.core_setCore_self n c, h]) rfl x

theorem State.ownWord_congr {s t : State} {n : Nat} (h : ∀ x, t.ownByte n x = s.ownByte n x) (a : Nat) :
    t.ownWord n a = s.ownWord n a := by
  simp only [State.ownWord, h]

theorem bufferByte_append (x a : Nat) (bs : Bytes) (l : List (Nat × Bytes)) : bufferByte x (l ++ [(a, bs)]) =
    if a ≤ x ∧ x < a + bs.length then some (bs.getD (x - a) 0#8) else bufferByte x l := by
  induction l with
  | nil => simp [bufferByte]
  | cons e l ih =>
    obtain ⟨b, cs⟩ := e
    rw [List.cons_append, bufferByte, ih]
    by_cases h : a ≤ x ∧ x < a + bs.length
    · simp only [if_pos h]
    · simp only [if_neg h, bufferByte]

/-- The core after its oldest store left the buffer. -/
theorem State.core_drainOne (s : State) (n : Nat) :
    (s.drainOne n).core n = { s.core n with stores := (s.core n).stores.drop 1 } := by
  have hc (t : State) (a : Nat) (bs : Bytes) : (t.localStore n a bs).core n = t.core n := rfl
  rw [State.drainOne]
  rcases h : (s.core n).stores with _ | ⟨⟨a, bs⟩, l⟩
  · exact congrArg (fun l => { s.core n with stores := l }) h
  · simp only [hc, State.core_setCore_self, List.drop_one, List.tail_cons]

/-- A store that leaves the buffer is seen as before: no younger one hides behind it. -/
theorem State.ownByte_drainOne (s : State) (n x : Nat) : (s.drainOne n).ownByte n x = s.ownByte n x := by
  have hc (t : State) (a : Nat) (bs : Bytes) : (t.localStore n a bs).core n = t.core n := rfl
  have hm (c : Core) : (s.setCore n c).localByte n x = s.localByte n x := rfl
  rw [State.drainOne]
  rcases h : (s.core n).stores with _ | ⟨⟨a, bs⟩, l⟩
  · rfl
  · simp only [State.ownByte, hc, State.core_setCore_self, State.localByte_localStore, hm, h]
    cases hb : bufferByte x l with
    | some v => simp [bufferByte, hb]
    | none =>
      by_cases hx : a ≤ x ∧ x < a + bs.length
      · simp [bufferByte, hb, hx]
      · simp only [bufferByte, hb, if_neg hx]

theorem State.core_each_drainOne (n : Nat) (l : List (Nat × Bytes)) (s : State) :
    (s.each l fun s _ => s.drainOne n).core n = { s.core n with stores := (s.core n).stores.drop l.length } := by
  induction l generalizing s with
  | nil => rfl
  | cons e l ih =>
    refine (ih _).trans ?_
    rw [State.core_drainOne, List.drop_drop, List.length_cons, Nat.add_comm]

theorem State.core_drainAll (s : State) (n : Nat) : (s.drainAll n).core n = { s.core n with stores := [] } := by
  rw [State.drainAll, State.core_each_drainOne, List.drop_length]

theorem State.ownByte_drainAll (s : State) (n x : Nat) : (s.drainAll n).ownByte n x = s.ownByte n x :=
  State.each_same (fun t => t.ownByte n x) (fun t _ => t.ownByte_drainOne n x) s _

/-- A buffered store changes its own core's buffer alone. -/
theorem State.core_bufferStore (s : State) (n a : Nat) (bs : Bytes) :
    ∃ l, (s.bufferStore n a bs).core n = { s.core n with stores := l } := by
  rw [State.bufferStore]
  simp only [State.core_setCore_self]
  split
  · exact ⟨_, by rw [State.core_drainOne]⟩
  · exact ⟨_, rfl⟩

/-- A core sees the bytes of a store at once, and no other byte changes for it. -/
theorem State.ownByte_bufferStore (s : State) (n a x : Nat) (bs : Bytes) : (s.bufferStore n a bs).ownByte n x =
    if a ≤ x ∧ x < a + bs.length then bs.getD (x - a) 0#8 else s.ownByte n x := by
  have hpush (t : State) : (t.setCore n { t.core n with stores := (t.core n).stores ++ [(a, bs)] }).ownByte n x =
      if a ≤ x ∧ x < a + bs.length then bs.getD (x - a) 0#8 else t.ownByte n x := by
    have hm (c : Core) : (t.setCore n c).localByte n x = t.localByte n x := rfl
    simp only [State.ownByte, State.core_setCore_self, bufferByte_append, hm]
    by_cases h : a ≤ x ∧ x < a + bs.length
    · simp only [if_pos h]
    · simp only [if_neg h]
  rw [State.bufferStore]
  refine (hpush _).trans ?_
  split
  · rfl
  · split
    · exact s.ownByte_drainOne n x
    · rfl

theorem State.ownByte_bufferStore_word (s : State) (n a x w : Nat) (v : Word) : (s.bufferStore n a (leBytes w v.toNat)).ownByte n x =
    if a ≤ x ∧ x < a + w then v.extractLsb' (8 * (x - a)) 8 else s.ownByte n x := by
  rw [State.ownByte_bufferStore, length_leBytes]
  split
  · rw [getD_leBytes_word (by omega)]
  · rfl

theorem State.onlyCore_bufferStore {s t : State} {n a : Nat} {bs : Bytes} (h : s.OnlyCore t n) (hl : (t.core n).stores.length < 4) :
    s.OnlyCore (t.bufferStore n a bs) n := by
  rw [State.bufferStore, if_neg (by omega)]
  exact h.setCore _

/-! ### Accesses -/

/-- An aligned access of the own local memory whose word checks is done. -/
theorem State.access_own {s : State} {n : Fin 16} {word a : Word} {w : Nat} {write reads : Bool} {f : State → Place → State}
    (ha : a.toNat < 262144) (hw : a.toNat % w = 0) : s.access n word a w write reads .none f = f s (.own a.toNat) := by
  have hp : place n a.toNat w write = some (.own a.toNat) := if_pos ha
  rw [State.access]
  simp only [hw, hp, ne_eq, not_true, if_false]
  cases reads <;> rfl

/-- A core that loads notes the register. -/
theorem Core.setG_loaded (c : Core) (rd : Fin 32) (v : Word) :
    ({ c.setG rd v with loadedReg := some rd.val } : Core) = Core.setG { c with loadedReg := some rd.val } rd v := by
  rw [Core.setG, Core.setG]
  split <;> rfl

/-- A core that takes what it loads notes the register too. -/
theorem State.wroteReg_load (s : State) (r : CoreRun) (rd ra : Fin 32) (x : Word) :
    s.WroteReg ((s.setCore r.n ((s.core r.n).issue r [ra])).setCore r.n
      ((Core.setG { (s.core r.n).issue r [ra] with loadedReg := some rd.val } rd x).complete (s.core r.n).pc 1)) r.n rd x :=
  State.wroteReg_of_core (c := { (s.core r.n).issue r [ra] with loadedReg := some rd.val })
    ((State.OnlyCore.refl s r.n).setCore _ |>.setCore _) ⟨rfl, rfl⟩ (fun h => h) (State.core_setCore_self ..)

/-- An aligned load of the own local memory wrote rd with the value the core sees. -/
theorem State.awlLoad_gives {s : State} {r : CoreRun} {op a w : Nat} {rd ra : Fin 32} {imm : BitVec 16} {signed : Bool} {x : Word}
    (hf : s.Fetches r.n) (hx : a = ((s.core r.n).g ra + imm.signExtend 32).toNat) (ha : a < 262144) (hw : a % w = 0)
    (hv : (if signed = true then signedLoad w (s.ownValue r.n a w) else BitVec.ofNat 32 (s.ownValue r.n a w)) = x) :
    GivesAt s r.n (encI op rd ra imm.toNat) (.next (s.awlLoad r op rd ra imm w signed .none)) fun t => s.WroteReg t r.n rd x := fun hfw => by
  subst hx
  have hown (y : Nat) : (s.setCore r.n ((s.core r.n).issue r [ra])).ownByte r.n y = s.ownByte r.n y :=
    State.ownByte_setCore (c := (s.core r.n).issue r [ra]) rfl y
  have hval (a : Nat) : (s.setCore r.n ((s.core r.n).issue r [ra])).ownValue r.n a w = s.ownValue r.n a w := by
    simp only [State.ownValue, hown]
  have hg : ((s.core r.n).issue r [ra]).g ra = (s.core r.n).g ra := Core.g_congr rfl ra
  rw [gives_next, State.awlLoad, State.awl_runs hf hfw, State.core_setCore_self, hg, simm, State.access_own ha hw]
  simp only [State.placeRead, hval, hv, State.awlDone, State.core_setCore_self]
  rw [Core.setG_loaded]
  exact s.wroteReg_load r rd ra x

/-- Core n stored k bytes of v at a, and nothing else of what it sees of memory changed. -/
def State.Stored (s t : State) (n a k : Nat) (v : Word) : Prop :=
  (∀ x, t.ownByte n x = if a ≤ x ∧ x < a + k then v.extractLsb' (8 * (x - a)) 8 else s.ownByte n x) ∧
    s.RegTakes t n 0 0#32 ∧ (s.core n).SameSystem { t.core n with stores := (s.core n).stores } ∧
    ((s.core n).stores.length < 4 → s.OnlyCore t n) ∧ ((s.core n).Straight → (t.core n).pc = (s.core n).pc + 4#32)

theorem Core.SameSystem.with_stores {c d : Core} (h : c.SameSystem d) (l : List (Nat × Bytes)) :
    ({ c with stores := l } : Core).SameSystem { d with stores := l } := by
  unfold Core.SameSystem at *
  have he := congrArg (fun e : Core => { e with stores := l }) h
  exact he

theorem Core.SameSystem.stores {c d : Core} (h : c.SameSystem d) : d.stores = c.stores := by
  unfold Core.SameSystem at h
  have he := congrArg Core.stores h
  exact he

theorem Core.Moved.stores {c d : Core} (h : c.Moved d) : d.stores = c.stores := h.2.stores

/-- An aligned store to the own local memory. -/
theorem State.awlStore_gives {s : State} {r : CoreRun} {op a w : Nat} {rs ra : Fin 32} {imm : BitVec 16} (hf : s.Fetches r.n)
    (hx : a = ((s.core r.n).g ra + imm.signExtend 32).toNat) (ha : a < 262144) (hw : a % w = 0) :
    GivesAt s r.n (encI op rs ra imm.toNat) (.next (s.awlStore r op rs ra imm w .none)) fun t => s.Stored t r.n a w ((s.core r.n).g rs) :=
  fun hfw => by
  subst hx
  have hg (k : Nat) : ((s.core r.n).issue r [rs, ra]).g k = (s.core r.n).g k := Core.g_congr rfl k
  rw [gives_next, State.awlStore, State.awl_runs hf hfw, State.core_setCore_self, hg, simm, State.access_own ha hw]
  simp only [State.placeWrite, State.awlDone, State.core_setCore_self, hg]
  have hm := (Core.moved_issue (s.core r.n) r [rs, ra]).trans (Core.moved_complete _ ((s.core r.n).issue r [rs, ra]).pc 1)
  have ho : s.OnlyCore ((s.setCore r.n ((s.core r.n).issue r [rs, ra])).setCore r.n
      (((s.core r.n).issue r [rs, ra]).complete ((s.core r.n).issue r [rs, ra]).pc 1)) r.n :=
    (State.OnlyCore.refl s r.n).setCore _ |>.setCore _
  generalize hd : ((s.core r.n).issue r [rs, ra]).complete ((s.core r.n).issue r [rs, ra]).pc 1 = d at hm ho ⊢
  generalize hu : (s.setCore r.n ((s.core r.n).issue r [rs, ra])).setCore r.n d = u at ho ⊢
  have hc : u.core r.n = d := by rw [← hu, State.core_setCore_self]
  obtain ⟨l, hl⟩ := u.core_bufferStore r.n ((s.core r.n).g ra + imm.signExtend 32).toNat (leBytes w ((s.core r.n).g rs).toNat)
  rw [hc] at hl
  refine ⟨fun x => ?_, State.regTakes_zero (by rw [hl]; exact hm.1), ?_, fun h => ?_, fun h => ?_⟩
  · rw [State.ownByte_bufferStore_word, State.ownByte_congr (s := s) (by rw [hc, hm.stores]) (by rw [← hu]; rfl)]
  · rw [hl]
    exact hm.2.with_stores (s.core r.n).stores
  · exact State.onlyCore_bufferStore ho (by rw [hc, hm.stores]; exact h)
  · rw [hl, ← hd, (h.issue r _).complete]
    rfl

/-- Core n read the old word at a, wrote v there and left its store buffer empty. -/
def State.Swapped (s t : State) (n rd a : Nat) (v : Word) : Prop :=
  (∀ x, t.ownByte n x = if a ≤ x ∧ x < a + 4 then v.extractLsb' (8 * (x - a)) 8 else s.ownByte n x) ∧
    (t.core n).stores = [] ∧ s.RegTakes t n rd (s.ownWord n a) ∧ (s.core n).SameSystem { t.core n with stores := (s.core n).stores } ∧
    ((s.core n).Straight → (t.core n).pc = (s.core n).pc + 4#32)

/-- An atomic operation on a word of the own local memory. -/
theorem State.awlAmo_gives {s : State} {r : CoreRun} {func a : Nat} {rd ra rb : Fin 32} {v : Word} (hf : s.Fetches r.n)
    (hx : a = ((s.core r.n).g ra).toNat) (ha : a < 262144) (hw : a % 4 = 0)
    (hv : amoValue func (s.ownWord r.n a) ((s.core r.n).g rb) = v) :
    GivesAt s r.n (encR 0x1C rd ra rb func) (.next (s.awlAmo r func rd ra rb .none)) fun t => s.Swapped t r.n rd a v := fun hfw => by
  subst hx
  have hg (k : Nat) : ((s.core r.n).issue r [ra, rb]).g k = (s.core r.n).g k := Core.g_congr rfl k
  rw [gives_next, State.awlAmo, State.awl_runs hf hfw, State.core_setCore_self, hg, State.access_own ha hw]
  generalize hi : s.setCore r.n ((s.core r.n).issue r [ra, rb]) = i
  have hic : i.core r.n = (s.core r.n).issue r [ra, rb] := by rw [← hi, State.core_setCore_self]
  have hid : (i.drainAll r.n).core r.n = { (s.core r.n).issue r [ra, rb] with stores := [] } := by rw [State.core_drainAll, hic]
  have hown (y : Nat) : (i.drainAll r.n).ownByte r.n y = s.ownByte r.n y := by
    rw [State.ownByte_drainAll]
    exact State.ownByte_congr (by rw [hic]; rfl) (by rw [← hi]; rfl) y
  simp only [State.placeRead, State.placeWrite, State.awlDone, hid, hic, hg, State.ownValue_four, State.ownWord_congr hown,
    BitVec.ofNat_toNat, BitVec.setWidth_eq, hv]
  generalize hold : s.ownWord r.n ((s.core r.n).g ra).toNat = old
  have hm := Core.moved_complete (Core.setG { (s.core r.n).issue r [ra, rb] with stores := [] } rd old) (s.core r.n).pc 4
  change Core.Moved _ (Core.complete _ ((s.core r.n).issue r [ra, rb]).pc 4) at hm
  generalize hd : Core.complete (Core.setG { (s.core r.n).issue r [ra, rb] with stores := [] } rd old)
    ((s.core r.n).issue r [ra, rb]).pc 4 = d at hm ⊢
  generalize hu : (i.drainAll r.n).setCore r.n d = u
  have hs := (Core.sameSystem_setG { (s.core r.n).issue r [ra, rb] with stores := [] } rd old).trans hm.2
  have hc : u.core r.n = d := by rw [← hu, State.core_setCore_self]
  obtain ⟨l, hl⟩ := u.core_bufferStore r.n ((s.core r.n).g ra).toNat (leBytes 4 v.toNat)
  have ht := (u.bufferStore r.n ((s.core r.n).g ra).toNat (leBytes 4 v.toNat)).core_drainAll r.n
  rw [hl, hc] at ht
  refine ⟨fun x => ?_, congrArg Core.stores ht, fun k => ?_, ?_, fun h => ?_⟩
  · have hst : d.stores = [] := hs.stores
    rw [State.ownByte_drainAll, State.ownByte_bufferStore_word, ← hown,
      State.ownByte_congr (s := i.drainAll r.n) (by rw [hc, hid, hst]) (by rw [← hu]; rfl)]
  · rw [ht, Core.g_congr (d := { d with stores := [] }) (c := d) rfl, Core.g_congr hm.1, Core.g_setG, hold]
    rfl
  · rw [ht]
    exact (Core.moved_issue (s.core r.n) r [ra, rb]).2.trans (hs.with_stores (s.core r.n).stores)
  · rw [ht, ← hd, (Core.Straight.setG (c := { (s.core r.n).issue r [ra, rb] with stores := [] }) h rd old).complete]
    rfl

/-- The oldest store leaves the buffer for the local memory, and the core sees the same. -/
theorem State.drainOne_writes (s : State) (n : Nat) : ((s.drainOne n).core n).stores = (s.core n).stores.drop 1 ∧
    (∀ a, (s.drainOne n).ownByte n a = s.ownByte n a) ∧
    ∀ a bs, (s.core n).stores.head? = some (a, bs) → ∀ i, i < bs.length → (s.drainOne n).localByte n (a + i) = bs.getD i 0#8 := by
  refine ⟨by rw [State.core_drainOne], s.ownByte_drainOne n, fun a bs h i hi => ?_⟩
  obtain ⟨l, hl⟩ := List.head?_eq_some_iff.mp h
  rw [State.drainOne]
  simp only [hl, State.localByte_localStore]
  rw [if_pos (by omega), Nat.add_sub_cancel_left]

/-- Settles O40: each access of the own local memory takes the address the registers give, and the core sees what it stores. -/
theorem ownMemory : Obligations.OwnMemory := by
  unfold Obligations.OwnMemory
  refine ⟨fun r rd ra imm s a hf hx ha => ?_, fun r rs ra imm s a hf hx ha => ?_, fun r rd ra rb s a hf hx ha hw => ?_, fun n s => ?_⟩
  · refine ⟨State.awlLoad_gives hf hx ha (Nat.mod_one a) ?_, State.awlLoad_gives hf hx ha (Nat.mod_one a) ?_,
      fun hw => State.awlLoad_gives hf hx ha hw ?_, fun hw => State.awlLoad_gives hf hx ha hw ?_, fun hw => State.awlLoad_gives hf hx ha hw ?_⟩
    · rw [State.ownValue_one]
      exact signedLoad_byte _
    · rw [State.ownValue_one]
      exact BitVec.ofNat_toNat ..
    · rw [State.ownValue_two]
      exact signedLoad_half _
    · rw [State.ownValue_two]
      exact BitVec.ofNat_toNat ..
    · rw [State.ownValue_four]
      exact (BitVec.ofNat_toNat ..).trans (BitVec.setWidth_eq _)
  · exact ⟨State.awlStore_gives hf hx ha (Nat.mod_one a), State.awlStore_gives hf hx ha, State.awlStore_gives hf hx ha⟩
  · exact ⟨State.awlAmo_gives hf hx ha hw rfl, State.awlAmo_gives hf hx ha hw rfl, State.awlAmo_gives hf hx ha hw rfl,
      State.awlAmo_gives hf hx ha hw rfl, State.awlAmo_gives hf hx ha hw rfl, State.awlAmo_gives hf hx ha hw (maxU_eq ..)⟩
  · rw [exec_storeBufferDrain, execStoreBufferDrain, gives_next]
    exact s.drainOne_writes n

end Sys2Proof.Machine
end

section
/-! Proofs of the family 'other', chapter 18: the ends of hardware loops and the control registers. -/

namespace Sys2Proof.Machine

/-! ### Entering an exception (R464, R465) -/

/-- A state in which core n began an instruction and nothing else of the cores moved. -/
def State.Began (s u : State) (n : Nat) : Prop :=
  (s.core n).Moved (u.core n) ∧ (∀ m, m ≠ n → u.core m = s.core m) ∧ u.cores.mem = s.cores.mem

theorem State.Began.refl (s : State) (n : Nat) : s.Began s n := ⟨.refl _, fun _ _ => rfl, rfl⟩

theorem State.began_issue (s : State) (r : CoreRun) (uses : List (Fin 32)) :
    s.Began (s.setCore r.n ((s.core r.n).issue r uses)) r.n :=
  ⟨by rw [State.core_setCore_self]; exact Core.moved_issue .., fun m hm => by rw [State.core_setCore, if_neg hm], rfl⟩

theorem State.Began.of_cores {s u v : State} {n : Nat} (h : s.Began u n) (hc : v.cores = u.cores) : s.Began v n := by
  have he (m : Nat) : v.core m = u.core m := by rw [State.core, State.core, hc]
  exact ⟨by rw [he]; exact h.1, fun m hm => (he m).trans (h.2.1 m hm), by rw [hc]; exact h.2.2⟩

theorem Core.SameSystem.fields {c d : Core} (h : c.SameSystem d) : d.mode = c.mode ∧ d.lk = c.lk ∧ d.vbase = c.vbase := by
  unfold Core.SameSystem at h
  rw [← h]
  exact ⟨rfl, rfl, rfl⟩

/-- A core outside a handler takes an exception: it saves its mode and the trap frame and goes to the vector. -/
theorem State.entered_trap {s u : State} {n cause offset : Nat} {xpc xaddr xword : Word} (hb : s.Began u n)
    (hm : (s.core n).mode.getLsbD 1 = false) (hx : wordAligned xpc = xpc) (hk : cause < 65536)
    (hv : vectorOf cause = BitVec.ofNat 32 offset) :
    s.Entered (u.trap n cause xpc xaddr xword) n cause offset xpc xaddr xword := by
  obtain ⟨⟨hregs, hsys⟩, hother, hmem⟩ := hb
  obtain ⟨hmode, hlk, hvb⟩ := hsys.fields
  have hh : (u.core n).hnd = false := by rw [Core.hnd, hmode, hm]
  have ht : u.trap n cause xpc xaddr xword = (u.bump (Key.coreExceptions n)).setCore n ((u.core n).enter cause xpc xaddr xword) := by
    simp [State.trap, State.except, hh]
  have hc : (u.trap n cause xpc xaddr xword).core n = (u.core n).enter cause xpc xaddr xword := by rw [ht, State.core_setCore_self]
  have ho (m : Nat) (h : m ≠ n) : (u.trap n cause xpc xaddr xword).core m = s.core m := by
    rw [ht, State.core_setCore, if_neg h, ← hother m h]
    simp only [State.bump_keeps ..]
  refine ⟨?_, ?_, ?_, ?_, ?_, ?_, ?_, ?_, State.regTakes_zero ?_, ho, ?_⟩
  · rw [hc]; exact hmode
  · rw [hc]; rfl
  · rw [hc]; exact hx
  · rw [hc]; exact (BitVec.toNat_ofNat ..).trans (Nat.mod_eq_of_lt hk)
  · rw [hc]; rfl
  · rw [hc]; rfl
  · rw [hc, ← hv, ← hvb]; rfl
  · rw [hc]; exact hlk
  · rw [hc]; exact hregs
  · rw [ht]; exact hmem

/-- A reserved word enters at the first vector. -/
theorem State.awlReservedWord_gives {s : State} {r : CoreRun} {w : Word} (hf : s.Fetches r.n)
    (hm : (s.core r.n).mode.getLsbD 1 = false) (hx : wordAligned (s.core r.n).pc = (s.core r.n).pc) :
    GivesAt s r.n w (.next (s.awlReservedWord r w)) fun t => s.Entered t r.n 1 0 (s.core r.n).pc 0#32 w := fun hw => by
  rw [gives_next, State.awlReservedWord, State.awl_runs hf hw, State.core_setCore_self]
  exact State.entered_trap (s.began_issue r []) hm hx (by decide) rfl

/-! ### End tests (R460, R461) -/

theorem Core.seenReg_last_of_late_nil {c : Core} (h : c.late = []) (k : Nat) : c.seenReg (3 * k + 1) = (c.loop k).le := by
  rw [Core.seenReg_of_late_nil h, Core.loopReg, show (3 * k + 1) / 3 = k by omega, if_neg (by omega), if_pos (by omega)]

theorem Core.seenReg_first_of_late_nil {c : Core} (h : c.late = []) (k : Nat) : c.seenReg (3 * k) = (c.loop k).lb := by
  rw [Core.seenReg_of_late_nil h, Core.loopReg, show 3 * k / 3 = k by omega, if_pos (by omega)]

theorem Core.seenReg_count_of_late_nil {c : Core} (h : c.late = []) (k : Nat) : c.seenReg (3 * k + 2) = (c.loop k).lc := by
  rw [Core.seenReg_of_late_nil h, Core.loopReg_count]

theorem Core.testWrite_of_late_nil {c : Core} (h : c.late = []) (r : Nat) (v : Word) : c.testWrite r v = c.setLoopReg r v := by
  rw [Core.testWrite, h]
  rfl

/-- A loop whose count is seen at 0 has no end. -/
theorem Core.endStep_idle {c : Core} {k : Nat} (h : c.seenReg (3 * k + 2) = 0#32) (x : Word) : c.endStep x k = (c, none) := by
  rw [Core.endStep, h]
  rfl

section
variable {c : Core} (h : c.late = []) {x : Word} {k : Nat}
include h

/-- The end test of a loop that goes round once more. -/
theorem Core.endStep_back (hx : (c.loop k).le = x) (hc : 1 < (c.loop k).lc.toNat) :
    c.endStep x k = (c.setLoopReg (3 * k + 2) ((c.loop k).lc - 1#32), some (c.loop k).lb) := by
  have h0 : (c.loop k).lc ≠ 0#32 := fun e => by rw [e] at hc; exact absurd hc (by decide)
  simp [Core.endStep, Core.seenReg_count_of_late_nil h, Core.seenReg_last_of_late_nil h, Core.seenReg_first_of_late_nil h,
    Core.testWrite_of_late_nil h, hx, hc, h0]

/-- The end test of a loop at its last round. -/
theorem Core.endStep_leave (hx : (c.loop k).le = x) (hc : (c.loop k).lc = 1#32) :
    c.endStep x k = (c.setLoopReg (3 * k + 2) 0#32, none) := by
  simp [Core.endStep, Core.seenReg_count_of_late_nil h, Core.seenReg_last_of_late_nil h, Core.testWrite_of_late_nil h, hx, hc]

/-- Where the inner loops are at 0, the instruction at the loop's last word goes back. -/
theorem Core.endTest_back (hk : k < 3) (hx : (c.loop k).le = x) (hc : 1 < (c.loop k).lc.toNat)
    (hi : ∀ j, j < 3 → k < j → (c.loop j).lc = 0#32) :
    c.endTest x = (c.setLoopReg (3 * k + 2) ((c.loop k).lc - 1#32), some (c.loop k).lb) := by
  have hidle (j : Nat) (hj : j < 3) (hkj : k < j) : c.endStep x j = (c, none) :=
    Core.endStep_idle ((Core.seenReg_count_of_late_nil h j).trans (hi j hj hkj)) x
  have hb := Core.endStep_back h hx hc
  obtain rfl | rfl | rfl : k = 0 ∨ k = 1 ∨ k = 2 := by omega
  · simp only [Core.endTest, hidle 2 (by decide) (by decide), hidle 1 (by decide) (by decide), hb]
  · simp only [Core.endTest, hidle 2 (by decide) (by decide), hb]
  · simp only [Core.endTest, hb]

/-- Where every other loop is at 0, the instruction at the loop's last word leaves it. -/
theorem Core.endTest_leave (hk : k < 3) (hx : (c.loop k).le = x) (hc : (c.loop k).lc = 1#32)
    (hi : ∀ j, j < 3 → j ≠ k → (c.loop j).lc = 0#32) : c.endTest x = (c.setLoopReg (3 * k + 2) 0#32, none) := by
  have hidle (j : Nat) (hj : j < 3) (hkj : j ≠ k) : c.endStep x j = (c, none) :=
    Core.endStep_idle ((Core.seenReg_count_of_late_nil h j).trans (hi j hj hkj)) x
  have hafter (j : Nat) (hj : j < 3) (hkj : j ≠ k) :
      (c.setLoopReg (3 * k + 2) 0#32).endStep x j = (c.setLoopReg (3 * k + 2) 0#32, none) :=
    Core.endStep_idle ((Core.seenReg_count_of_late_nil (c := c.setLoopReg (3 * k + 2) 0#32) h j).trans
      (by rw [Core.loop_setLoopReg_ne _ _ (by omega), hi j hj hkj])) x
  have hl := Core.endStep_leave h hx hc
  obtain rfl | rfl | rfl : k = 0 ∨ k = 1 ∨ k = 2 := by omega
  · simp only [Core.endTest, hidle 2 (by decide) (by decide), hidle 1 (by decide) (by decide), hl]
  · simp only [Core.endTest, hidle 2 (by decide) (by decide), hl]
    exact hafter 0 (by decide) (by decide)
  · simp only [Core.endTest, hl, hafter 1 (by decide) (by decide)]
    exact hafter 0 (by decide) (by decide)

/-- The core that goes back. -/
theorem Core.complete_back (hk : k < 3) (hx : (c.loop k).le = x) (hc : 1 < (c.loop k).lc.toNat)
    (hi : ∀ j, j < 3 → k < j → (c.loop j).lc = 0#32) (cost : Nat) : (c.complete x cost).pc = (c.loop k).lb ∧
    (c.complete x cost).loops = (c.setLoopReg (3 * k + 2) ((c.loop k).lc - 1#32)).loops := by
  have ht : (c.setLoopReg (3 * k + 2) ((c.loop k).lc - 1#32)).tickLate = c.setLoopReg (3 * k + 2) ((c.loop k).lc - 1#32) :=
    Core.tickLate_of_late_nil h
  rw [Core.complete, Core.endTest_back h hk hx hc hi]
  simp only [ht, and_self]

/-- The core that leaves the loop. -/
theorem Core.complete_leave (hk : k < 3) (hx : (c.loop k).le = x) (hc : (c.loop k).lc = 1#32)
    (hi : ∀ j, j < 3 → j ≠ k → (c.loop j).lc = 0#32) (cost : Nat) : (c.complete x cost).pc = x + 4#32 ∧
    (c.complete x cost).loops = (c.setLoopReg (3 * k + 2) 0#32).loops := by
  have ht : (c.setLoopReg (3 * k + 2) 0#32).tickLate = c.setLoopReg (3 * k + 2) 0#32 := Core.tickLate_of_late_nil h
  rw [Core.complete, Core.endTest_leave h hk hx hc hi]
  simp only [ht, and_self]

/-- The loop's last word is the end of an active loop. -/
theorem Core.atLoopEnd_of_loop (hk : k < 3) (hx : (c.loop k).le = x) (hc : (c.loop k).lc ≠ 0#32) : c.atLoopEnd x = true := by
  rw [Core.atLoopEnd, List.any_eq_true]
  refine ⟨k, by simp; omega, ?_⟩
  simp [Core.seenReg_count_of_late_nil h, Core.seenReg_last_of_late_nil h, hx, hc]

end

/-- The loops and their late writes do not depend on the registers. -/
theorem Core.loops_setG (c : Core) (r : Nat) (v : Word) : (c.setG r v).loops = c.loops ∧ (c.setG r v).late = c.late := by
  rw [Core.setG]
  split <;> exact ⟨rfl, rfl⟩

theorem Core.loop_congr {c d : Core} (h : d.loops = c.loops) (k : Nat) : d.loop k = c.loop k := by
  rw [Core.loop, Core.loop, h]

/-- What ADD leaves of its core. -/
theorem State.core_add {s : State} {r : CoreRun} {rd ra rb : Fin 32} (hf : s.Fetches r.n)
    (hw : s.fetches r.n (s.core r.n).pc (encR 0x01 rd ra rb 0) = true) :
    (s.alu3 r rd ra rb 0 1 fun a b => a + b).core r.n =
      (((s.core r.n).issue r [ra, rb]).setG rd ((s.core r.n).g ra + (s.core r.n).g rb)).complete (s.core r.n).pc 1 := by
  rw [State.alu3, State.awl_runs hf hw, State.awlDone, State.core_setCore_self, State.core_setCore_self]
  rfl

/-- A branch, a jump or WAIT at the end of an active loop enters with cause 6. -/
theorem State.awl_loopEnd_gives {s : State} {r : CoreRun} {w : Word} {uses : List (Fin 32)} {f : State → State} {k : Nat}
    (hf : s.Fetches r.n) (hl : (s.core r.n).late = []) (hk : k < 3) (hx : ((s.core r.n).loop k).le = (s.core r.n).pc)
    (hc : ((s.core r.n).loop k).lc ≠ 0#32) (hm : (s.core r.n).mode.getLsbD 1 = false)
    (ha : wordAligned (s.core r.n).pc = (s.core r.n).pc) :
    GivesAt s r.n w (.next (s.awl r w uses true f)) fun t => s.Entered t r.n 6 0x40 (s.core r.n).pc (s.core r.n).pc w := fun hw => by
  have ht : s.awl r w uses true f = s.trap r.n 6 (s.core r.n).pc (s.core r.n).pc w := by
    simp [State.awl, hf.1, hf.2, hw, Core.atLoopEnd_of_loop hl hk hx hc]
  rw [gives_next, ht]
  exact State.entered_trap (State.Began.refl s r.n) hm ha (by decide) rfl

/-! ### Control registers (R455, R463) -/

theorem getc_gives {s : State} {r : CoreRun} {rd : Fin 32} {num : BitVec 16} {v : Word} (hf : s.Fetches r.n)
    (hl : ctlListed num.toNat = true) (hv : ((s.core r.n).issue r []).ctl r.n num.toNat = v) :
    GivesAt s r.n (encI 0x3D rd 0 num.toNat) (exec (.getc r rd num) s) fun t => s.WroteReg t r.n rd v := by
  rw [exec_getc, execGetc, hl]
  exact State.awlDone_gives hf hv

/-- A SETC of a register that is not of a loop writes it and goes on. -/
theorem setc_gives {s : State} {r : CoreRun} {ra : Fin 32} {num : BitVec 16} {d : Core} (hf : s.Fetches r.n)
    (hl : ctlWritable num.toNat = true) (hn : ctlLoop num.toNat = false) (hd : d.Straight)
    (hv : ((s.core r.n).issue r [ra]).setCtl num.toNat ((s.core r.n).g ra) =
      { d with cycles := ((s.core r.n).issue r [ra]).cycles, loadedReg := none }) :
    GivesAt s r.n (encI 0x3F 0 ra num.toNat) (exec (.setc r ra num) s) fun t => s.OnlyCore t r.n ∧
      t.core r.n = { d with pc := (s.core r.n).pc + 4#32, cycles := (t.core r.n).cycles, loadedReg := none } := fun hw => by
  have hst : (((s.core r.n).issue r [ra]).setCtl num.toNat ((s.core r.n).g ra)).Straight := by
    rw [hv]
    exact hd
  rw [exec_setc, execSetc, hl, hn]
  simp only [Bool.not_true, Bool.false_eq_true, if_false]
  rw [gives_next, State.awl_runs hf hw, State.awlDone, State.core_setCore_self, State.core_setCore_self]
  rw [show ((s.core r.n).issue r [ra]).g ra = (s.core r.n).g ra from Core.g_congr rfl ra, hst.complete]
  refine ⟨(State.OnlyCore.refl s r.n).setCore _ |>.setCore _, ?_⟩
  rw [hv]
  rfl

theorem Core.loopReg_setLoopReg {r : Nat} (hr : r < 9) (j : Nat) (c : Core) (v : Word) :
    (c.setLoopReg r v).loopReg j = if j = r then v else c.loopReg j := by
  by_cases hk : j / 3 = r / 3
  · have hl : (c.setLoopReg r v).loop (r / 3) = if r % 3 = 0 then { c.loop (r / 3) with lb := v }
        else if r % 3 = 1 then { c.loop (r / 3) with le := v } else { c.loop (r / 3) with lc := v } :=
      vmod_getD_self _ _ _ (by omega)
    rw [Core.loopReg, Core.loopReg, hk, hl]
    by_cases he : j = r
    · subst he
      rw [if_pos rfl]
      split
      · rfl
      · split <;> rfl
    · rw [if_neg he]
      have hm : j % 3 ≠ r % 3 := by omega
      by_cases h0 : r % 3 = 0
      · simp only [h0] at hm
        simp [h0, hm]
      · by_cases h1 : r % 3 = 1
        · simp only [h1] at hm
          simp [h1, hm]
        · have h2 : ¬ (j % 3 ≠ 0 ∧ j % 3 ≠ 1) := by omega
          by_cases hj0 : j % 3 = 0
          · simp [h0, h1, hj0]
          · have hj1 : j % 3 = 1 := by omega
            simp [h0, h1, hj1]
  · rw [if_neg (by rintro rfl; exact hk rfl), Core.loopReg, Core.loopReg, Core.loop_setLoopReg_ne _ _ hk]

/-- The end tests see the old value of a loop register that a SETC has just written. -/
theorem Core.Straight.seenReg_setcLoop {c : Core} (h : c.Straight) {r k : Nat} (hr : r < 9) (hk : k < 3) (v : Word) :
    (c.setcLoop r v).seenReg (3 * k + 2) = 0#32 := by
  have h0 : c.loopReg (3 * k + 2) = 0#32 := (Core.loopReg_count c k).trans (h.2 k hk)
  have hlate : (c.setcLoop r v).late = [⟨r, c.loopReg r, 3⟩] := by
    rw [Core.setcLoop, Core.setLoopReg]
    simp only [h.1, List.nil_append]
  rw [Core.seenReg, hlate]
  by_cases he : r = 3 * k + 2
  · simp [he, h0]
  · have hne : ¬ 3 * k + 2 = r := fun e => he e.symm
    have hb : (r == 3 * k + 2) = false := by simp [he]
    simp only [List.find?, hb]
    rw [Core.setcLoop]
    refine (Core.loopReg_setLoopReg hr _ _ v).trans ?_
    rw [if_neg hne]
    exact h0

/-- A core that completes a SETC of a loop register: the write reaches the end tests two instructions later. -/
theorem Core.Straight.complete_setcLoop {c : Core} (h : c.Straight) {r : Nat} (hr : r < 9) (v x : Word) (cost : Nat) :
    ((c.setcLoop r v).complete x cost).loops = (c.setLoopReg r v).loops ∧
      ((c.setcLoop r v).complete x cost).late = [⟨r, c.loopReg r, 2⟩] := by
  have hidle (k : Nat) (hk : k < 3) : (c.setcLoop r v).endStep x k = (c.setcLoop r v, none) :=
    Core.endStep_idle (h.seenReg_setcLoop hr hk v) x
  have ht : (c.setcLoop r v).endTest x = (c.setcLoop r v, none) := by
    simp only [Core.endTest, hidle 2 (by decide), hidle 1 (by decide), hidle 0 (by decide)]
  have hlate : (c.setcLoop r v).late = [⟨r, c.loopReg r, 3⟩] := by
    rw [Core.setcLoop, Core.setLoopReg]
    simp only [h.1, List.nil_append]
  rw [Core.complete, ht]
  simp only [Core.tickLate, hlate]
  exact ⟨rfl, rfl⟩

/-- A SETC of a loop register. -/
theorem setc_loop_gives {s : State} {r : CoreRun} {ra : Fin 32} {num : BitVec 16} {k : Nat} {v : Word} (hf : s.Fetches r.n)
    (hs : (s.core r.n).Straight) (hk : k < 9) (hl : ctlWritable num.toNat = true) (hn : ctlLoop num.toNat = true)
    (hv : ∀ c : Core, c.setCtl num.toNat ((s.core r.n).g ra) = c.setcLoop k v) :
    GivesAt s r.n (encI 0x3F 0 ra num.toNat) (exec (.setc r ra num) s) fun t => (t.core r.n).loopReg k = v ∧
      (t.core r.n).late = [⟨k, (s.core r.n).loopReg k, 2⟩] ∧
      (∀ j, j < 9 → j ≠ k → (t.core r.n).loopReg j = (s.core r.n).loopReg j) ∧ s.OnlyCore t r.n := fun hw => by
  rw [exec_setc, execSetc, hl, hn]
  simp only [Bool.not_true, Bool.false_eq_true, if_false]
  rw [gives_next, State.awl_executes hf hs hw, State.awlDone, State.core_setCore_self,
    State.core_setCore_self, show ((s.core r.n).issue r [ra]).g ra = (s.core r.n).g ra from Core.g_congr rfl ra, hv]
  have hreg {c d : Core} (h : d.loops = c.loops) (j : Nat) : d.loopReg j = c.loopReg j := by
    rw [Core.loopReg, Core.loopReg, Core.loop_congr h]
  obtain ⟨hloops, hlate⟩ := (hs.issue r [ra]).complete_setcLoop hk v ((s.core r.n).issue r [ra]).pc 1
  refine ⟨?_, hlate, fun j _ hjk => ?_, (State.OnlyCore.refl s r.n).setCore _ |>.setCore _⟩
  · rw [hreg hloops, Core.loopReg_setLoopReg hk, if_pos rfl]
  · rw [hreg hloops, Core.loopReg_setLoopReg hk, if_neg hjk]
    exact hreg rfl j

/-- Settles O42: the end test decides where the instruction at a loop's last word goes, and SETC delays what it sees. -/
theorem loopsAndControl : Obligations.LoopsAndControl := by
  unfold Obligations.LoopsAndControl
  refine ⟨fun r rd ra rb k s hf hl hk hx hc hi hw => ?_, fun r rd ra rb k s hf hl hk hx hc hi hw => ?_,
    fun r ra rb off k s hf hl hk hx hc hm ha => ⟨State.awl_loopEnd_gives hf hl hk hx hc hm ha, State.awl_loopEnd_gives hf hl hk hx hc hm ha⟩,
    fun r rd s hf => ?_, fun r ra s hf hs => ?_, fun r ra k s hf hs => ?_, fun r ra k s hf hk hm ha => ?_⟩
  · have hg := Core.loops_setG ((s.core r.n).issue r [ra, rb]) rd ((s.core r.n).g ra + (s.core r.n).g rb)
    have hloop (j : Nat) := Core.loop_congr (c := s.core r.n) hg.1 j
    have hb := Core.complete_back (hg.2.trans hl) hk ((congrArg HwLoop.le (hloop k)).trans hx) (by rw [hloop]; exact hc)
      (fun j hj hkj => by rw [hloop, hi j hj hkj]) 1
    rw [hloop] at hb
    have hw' := State.alu3_gives (rd := rd) (ra := ra) (rb := rb) (func := 0) (cost := 1) (f := fun a b => a + b) hf rfl hw
    rw [exec_add, execAdd, gives_next]
    rw [gives_next] at hw'
    refine ⟨?_, ?_, fun j hj hjk => ?_, hw'.1⟩
    · rw [State.core_add hf hw]
      exact hb.1
    · rw [State.core_add hf hw, Core.loop_congr hb.2, Core.loop_setLoopReg_count _ hk, hloop]
    · rw [State.core_add hf hw, Core.loop_congr hb.2, Core.loop_setLoopReg_ne _ _ (by omega), hloop]
  · have hg := Core.loops_setG ((s.core r.n).issue r [ra, rb]) rd ((s.core r.n).g ra + (s.core r.n).g rb)
    have hloop (j : Nat) := Core.loop_congr (c := s.core r.n) hg.1 j
    have hb := Core.complete_leave (hg.2.trans hl) hk ((congrArg HwLoop.le (hloop k)).trans hx) (by rw [hloop]; exact hc)
      (fun j hj hkj => by rw [hloop, hi j hj hkj]) 1
    rw [exec_add, execAdd, gives_next, State.core_add hf hw]
    exact ⟨hb.1, by rw [Core.loop_congr hb.2, Core.loop_setLoopReg_count _ hk, hloop]⟩
  · exact ⟨getc_gives hf rfl rfl, getc_gives hf rfl rfl, getc_gives hf rfl rfl, getc_gives hf rfl rfl, getc_gives hf rfl rfl,
      getc_gives hf rfl rfl, getc_gives hf rfl rfl, getc_gives hf rfl rfl, getc_gives hf rfl rfl, getc_gives hf rfl rfl,
      getc_gives hf rfl rfl, getc_gives hf rfl rfl, getc_gives hf rfl rfl, getc_gives hf rfl rfl, getc_gives hf rfl rfl,
      getc_gives hf rfl rfl, getc_gives hf rfl rfl, getc_gives hf rfl rfl, getc_gives hf rfl rfl, getc_gives hf rfl rfl,
      getc_gives hf rfl rfl⟩
  · exact ⟨setc_gives hf rfl rfl hs rfl, setc_gives hf rfl rfl hs rfl, setc_gives hf rfl rfl hs rfl,
      setc_gives hf rfl rfl hs rfl, setc_gives hf rfl rfl hs rfl, setc_gives hf rfl rfl hs rfl,
      setc_gives hf rfl rfl hs rfl, setc_gives hf rfl rfl hs rfl, setc_gives hf rfl rfl hs rfl,
      setc_gives hf rfl rfl hs rfl⟩
  · refine setc_loop_gives hf hs k.isLt ?_ ?_ fun c => ?_
    · fin_cases k <;> rfl
    · fin_cases k <;> rfl
    · fin_cases k <;> rfl
  · have hn : ctlWritable k.toNat = false := by
      simp [ctlWritable, ctlListed]
      omega
    rw [exec_setc, execSetc, hn]
    exact State.awlReservedWord_gives hf hm ha

end Sys2Proof.Machine
end

section
/-! Proofs of the family 'other', chapter 18: exceptions, interrupts and their returns. -/

namespace Sys2Proof.Machine

/-! ### Exceptions of an access (R464, R471) -/

theorem State.Began.memFound {s u : State} {n : Nat} (h : s.Began u n) (k : Nat) (e : MemErr) (addr : Nat) :
    s.Began (u.memFound k e addr) n := h.of_cores (by simp only [State.memFound_keeps ..])

/-- Nothing answers above device space. -/
theorem place_none {n a : Nat} (write : Bool) (h : 0x44000000 ≤ a) : place n a 4 write = none := by
  have hd : devicePlace n a = none := by
    simp only [devicePlace]
    rw [if_neg (by omega), if_neg (by omega), if_neg (by omega), if_neg (by omega), if_neg (by omega)]
  simp only [place, hd, localSize]
  rw [if_neg (by omega), if_neg (by omega), if_neg (by omega), if_pos trivial]

/-- Outside a handler a trap counts and enters. -/
theorem State.trap_outside_handler {u : State} {n cause : Nat} {xpc xaddr xword : Word} (h : (u.core n).hnd = false) :
    u.trap n cause xpc xaddr xword = (u.bump (Key.coreExceptions n)).setCore n ((u.core n).enter cause xpc xaddr xword) := by
  simp [State.trap, State.except, h]

section
variable {s : State} {r : CoreRun} {word a : Word} {write reads : Bool} {e : MemErr} {f : State → Place → State}

theorem State.access_misaligned (h : a.toNat % 4 ≠ 0) :
    s.access r.n word a 4 write reads e f = s.trap r.n 4 (s.core r.n).pc a word := if_pos h

theorem State.access_unmapped (h : a.toNat % 4 = 0) (ha : 0x44000000 ≤ a.toNat) :
    s.access r.n word a 4 write reads e f = s.trap r.n 5 (s.core r.n).pc a word := by
  rw [State.access]
  simp only [h, place_none write ha, ne_eq, not_true, if_false]

theorem State.access_uncorrectable (h : a.toNat % 4 = 0) (ha : a.toNat < 262144) :
    s.access r.n word a 4 write true .uncorrectable f = (s.memFound 2 .uncorrectable a.toNat).trap r.n 3 (s.core r.n).pc a word := by
  have hp : place r.n a.toNat 4 write = some (.own a.toNat) := if_pos ha
  rw [State.access]
  simp only [h, hp, State.memCount, Place.memory]
  rfl

end

/-- A core that runs outside a handler, at an aligned pc. -/
structure State.Excepts (s : State) (n : Nat) : Prop where
  hnd : (s.core n).mode.getLsbD 1 = false
  aligned : wordAligned (s.core n).pc = (s.core n).pc

section
variable {s : State} {r : CoreRun} (hf : s.Fetches r.n) (he : s.Excepts r.n)
include hf he

/-- An instruction whose work ends in an exception enters it. -/
theorem State.awl_trap_gives {w xaddr xword : Word} {uses : List (Fin 32)} {f : State → State} {cause offset : Nat} {u : State}
    (hu : f (s.setCore r.n ((s.core r.n).issue r uses)) = u.trap r.n cause (s.core r.n).pc xaddr xword) (hb : s.Began u r.n)
    (hk : cause < 65536) (hv : vectorOf cause = BitVec.ofNat 32 offset) :
    GivesAt s r.n w (.next (s.awl r w uses false f)) fun t => s.Entered t r.n cause offset (s.core r.n).pc xaddr xword := fun hw => by
  rw [gives_next, State.awl_runs hf hw, hu]
  exact State.entered_trap hb he.hnd he.aligned hk hv

theorem trap_gives (imm : BitVec 16) : GivesAt s r.n (encI 0x3C 0 0 imm.toNat) (exec (.trap r imm) s) fun t =>
    s.Entered t r.n 7 0x80 (s.core r.n).pc 0#32 (encI 0x3C 0 0 imm.toNat) :=
  State.awl_trap_gives hf he (by rw [State.core_setCore_self]; rfl) (s.began_issue r []) (by decide) rfl

theorem brk_gives : GivesAt s r.n (encR 0x3E 0 0 0 4) (exec (.brk r) s) fun t =>
    s.Entered t r.n 8 0x40 (s.core r.n).pc 0#32 (encR 0x3E 0 0 0 4) :=
  State.awl_trap_gives hf he (by rw [State.core_setCore_self]; rfl) (s.began_issue r []) (by decide) rfl

theorem lw_misaligned_gives {rd ra : Fin 32} {imm : BitVec 16} {a : Word} (hx : a = (s.core r.n).g ra + imm.signExtend 32)
    (ha : a.toNat % 4 ≠ 0) : GivesAt s r.n (encI 0x14 rd ra imm.toNat) (exec (.lw r rd ra imm .none) s) fun t =>
      s.Entered t r.n 4 0x40 (s.core r.n).pc a (encI 0x14 rd ra imm.toNat) := by
  subst hx
  rw [exec_lw, execLw, State.awlLoad]
  refine State.awl_trap_gives (cause := 4) hf he ?_ (s.began_issue r [ra]) (by decide) rfl
  have hg : ((s.core r.n).issue r [ra]).g ra = (s.core r.n).g ra := Core.g_congr rfl ra
  rw [State.core_setCore_self, hg]
  exact (State.access_misaligned ha).trans (by rw [State.core_setCore_self]; rfl)

theorem sw_unmapped_gives {rd ra : Fin 32} {imm : BitVec 16} {a : Word} (hx : a = (s.core r.n).g ra + imm.signExtend 32)
    (h4 : a.toNat % 4 = 0) (ha : 0x44000000 ≤ a.toNat) : GivesAt s r.n (encI 0x1A rd ra imm.toNat) (exec (.sw r rd ra imm) s) fun t =>
      s.Entered t r.n 5 0x40 (s.core r.n).pc a (encI 0x1A rd ra imm.toNat) := by
  subst hx
  rw [exec_sw, execSw, State.awlStore]
  refine State.awl_trap_gives (cause := 5) hf he ?_ (s.began_issue r [rd, ra]) (by decide) rfl
  have hg : ((s.core r.n).issue r [rd, ra]).g ra = (s.core r.n).g ra := Core.g_congr rfl ra
  rw [State.core_setCore_self, hg]
  exact (State.access_unmapped h4 ha).trans (by rw [State.core_setCore_self]; rfl)

theorem lw_uncorrectable_gives {rd ra : Fin 32} {imm : BitVec 16} {a : Word} (hx : a = (s.core r.n).g ra + imm.signExtend 32)
    (h4 : a.toNat % 4 = 0) (ha : a.toNat < 262144) :
    GivesAt s r.n (encI 0x14 rd ra imm.toNat) (exec (.lw r rd ra imm .uncorrectable) s) fun t =>
      s.Entered t r.n 3 0x40 (s.core r.n).pc a (encI 0x14 rd ra imm.toNat) := by
  subst hx
  rw [exec_lw, execLw, State.awlLoad]
  refine State.awl_trap_gives (cause := 3) hf he ?_ ((s.began_issue r [ra]).memFound 2 .uncorrectable
    ((s.core r.n).g ra + imm.signExtend 32).toNat) (by decide) rfl
  have hg : ((s.core r.n).issue r [ra]).g ra = (s.core r.n).g ra := Core.g_congr rfl ra
  rw [State.core_setCore_self, hg]
  exact (State.access_uncorrectable h4 ha).trans (by rw [State.core_setCore_self]; rfl)

/-- A fetch that cannot be corrected counts in its memory. -/
theorem fetchError_gives : Gives (exec (.fetchError r) s) fun t => s.Entered t r.n 2 0x40 (s.core r.n).pc (s.core r.n).pc 0#32 ∧
    t.rd Key.memUncorrected = satAdd u32Max (s.rd Key.memUncorrected) 1 := by
  rw [exec_fetchError, execFetchError]
  simp only [hf.1, hf.2, Bool.not_true, Bool.false_eq_true, if_false]
  rw [gives_next]
  generalize hk : (if (s.core r.n).pc.toNat < localSize then 2 else 10) = k
  have hb := (State.Began.refl s r.n).memFound k .uncorrectable (s.core r.n).pc.toNat
  refine ⟨State.entered_trap hb he.hnd he.aligned (by decide) rfl, ?_⟩
  obtain ⟨hmode, -, -⟩ := hb.1.2.fields
  have hh : ((s.memFound k .uncorrectable (s.core r.n).pc.toNat).core r.n).hnd = false := by rw [Core.hnd, hmode, he.hnd]
  rw [← State.rd_memUncorrected_memFound s k (s.core r.n).pc.toNat]
  generalize s.memFound k .uncorrectable (s.core r.n).pc.toNat = u at hh ⊢
  rw [State.trap_outside_handler hh]
  exact u.rd_bump_of_fam _ (by simp)

end

/-- A fetch at a forbidden address. -/
theorem fetchError_forbidden_gives {s : State} {r : CoreRun} (hr : s.coreRuns r.n = true) (hf : fetchable r.n (s.core r.n).pc = false)
    (he : s.Excepts r.n) : Gives (exec (.fetchError r) s) fun t =>
      s.Entered t r.n 5 0x40 (s.core r.n).pc (s.core r.n).pc 0#32 := by
  rw [exec_fetchError, execFetchError]
  simp only [hr, hf, Bool.not_true, Bool.not_false, Bool.false_eq_true, if_false, if_true]
  rw [gives_next]
  exact State.entered_trap (State.Began.refl s r.n) he.hnd he.aligned (by decide) rfl

/-! ### Interrupts and returns (R465 to R467, R490) -/

theorem Core.mode_enabled {c : Core} : c.mode = 1#2 ↔ c.ien = true ∧ (!c.hnd) = true := by
  rw [Core.ien, Core.hnd]
  generalize c.mode = m
  revert m
  decide

theorem interruptTake_gives {n : Fin 16} {s : State} (h1 : s.coreState n = 1) (hi : s.coreIsland n = true) (hm : (s.core n).mode = 1#2)
    (hp : s.interrupted n = true) (ha : wordAligned (s.core n).pc = (s.core n).pc) :
    Gives (exec (.interruptTake n) s) fun t => s.Entered t n 0x100 0xC0 (s.core n).pc 0#32 0#32 ∧ (t.core n).waiting = false := by
  obtain ⟨hen, hnd⟩ := Core.mode_enabled.mp hm
  rw [exec_interruptTake, execInterruptTake]
  rw [if_pos ⟨h1, hi, hen, hnd, hp⟩, gives_next]
  have hc := s.core_setCore_self n ((s.core n).enter 0x100 (s.core n).pc 0#32 0#32)
  refine ⟨⟨?_, ?_, ?_, ?_, ?_, ?_, ?_, ?_, State.regTakes_zero ?_, fun m h => by rw [State.core_setCore, if_neg h], rfl⟩, ?_⟩
  case refine_3 => rw [hc]; exact ha
  all_goals rw [hc]; rfl

theorem interruptTake_ignored {n : Fin 16} {s : State} (h : (s.core n).mode ≠ 1#2 ∨ s.interrupted n = false) :
    Gives (exec (.interruptTake n) s) fun t => t = s := by
  rw [exec_interruptTake, execInterruptTake]
  rw [if_neg, gives_next]
  rintro ⟨-, -, hen, hnd, hp⟩
  rcases h with h | h
  · exact h (Core.mode_enabled.mpr ⟨hen, hnd⟩)
  · rw [h] at hp
    exact Bool.false_ne_true hp

section
variable {s : State} {r : CoreRun} (hf : s.Fetches r.n) (hs : (s.core r.n).Straight)
include hf hs

theorem xret_gives : GivesAt s r.n (encR 0x3E 0 0 0 2) (exec (.xret r) s) fun t => (t.core r.n).mode = (s.core r.n).smode ∧
    (t.core r.n).pc = (s.core r.n).xpc ∧ (t.core r.n).loops = (s.core r.n).loops ∧ s.RegTakes t r.n 0 0#32 ∧ s.OnlyCore t r.n := by
  refine State.awl_gives hf hs ?_
  rw [State.core_setCore_self, State.core_setCore_self]
  exact ⟨rfl, rfl, rfl, State.regTakes_zero (by rw [State.core_setCore_self]; rfl), (State.OnlyCore.refl s r.n).setCore _ |>.setCore _⟩

theorem xretc_gives : GivesAt s r.n (encR 0x3E 0 0 0 6) (exec (.xretc r) s) fun t => (t.core r.n).mode = (s.core r.n).smode ∧
    (t.core r.n).pc = (s.core r.n).xpc + 4#32 ∧ (t.core r.n).loops = (s.core r.n).loops ∧ s.RegTakes t r.n 0 0#32 ∧
    s.OnlyCore t r.n := by
  refine State.awl_gives hf hs ?_
  have hst : Core.Straight { (s.core r.n).issue r [] with mode := (s.core r.n).smode, late := [] } := ⟨rfl, hs.2⟩
  rw [State.core_setCore_self]
  have hc := hst.complete (s.core r.n).xpc 3
  simp only [State.core_setCore_self]
  exact ⟨(congrArg Core.mode hc :), (congrArg Core.pc hc :), (congrArg Core.loops hc :),
    State.regTakes_zero (by rw [State.core_setCore_self]; exact (congrArg Core.regs hc :)),
    (State.OnlyCore.refl s r.n).setCore _ |>.setCore _⟩

end

/-! ### Double faults (R468) -/

/-- Posting at any severity adds one record to the journal. -/
theorem State.journal_postSev (s : State) (c : Err) (sev src a a2 d : Nat) : (s.postSev c sev src a a2 d).sb.journal =
    (s.journalAdd (.err { time := s.time80, code := c.code, source := src, clkdom := d, severity := sev,
                          arg := a % 2 ^ 64, arg2 := a2 % 2 ^ 64 })).sb.journal := by
  unfold State.postSev State.logErr
  simp only
  split_ifs <;> simp only [State.strapPush_keeps .., State.raise_keeps .., State.bump_keeps ..] <;>
    exact State.journal_journalAdd_congr (by rfl) _

theorem Posted.of_postSev {s u : State} (h : u.sb.journal = s.sb.journal) (c : Err) (sev src a a2 d : Nat) :
    Posted s (u.postSev c sev src a a2 d) c src := by
  have hj := (State.journal_postSev u c sev src a a2 d).trans (State.journal_journalAdd_congr h _)
  refine ⟨_, ?_, ?_, hj⟩ <;> rfl

/-- An extension core that takes an exception in a handler stops in state 3, and the fault is posted. -/
theorem trap_double_gives {s : State} {r : CoreRun} (imm : BitVec 16) (hf : s.Fetches r.n) (hn : 12 ≤ r.n.val)
    (hm : (s.core r.n).mode.getLsbD 1 = true) : GivesAt s r.n (encI 0x3C 0 0 imm.toNat) (exec (.trap r imm) s) fun t =>
      t.coreState r.n = 3 ∧ Posted s t .coreDoubleFault (0x7001 + r.n.val) ∧ s.RegTakes t r.n 0 0#32 := fun hw => by
  rw [exec_trap, execTrap]
  rw [gives_next, State.awl_runs hf hw, State.core_setCore_self]
  generalize hi : s.setCore r.n ((s.core r.n).issue r []) = i
  have hc : i.core r.n = (s.core r.n).issue r [] := by rw [← hi, State.core_setCore_self]
  have hj : i.sb.journal = s.sb.journal := by rw [← hi]; rfl
  have hh : (i.core r.n).hnd = true := by rw [hc]; exact hm
  have ht (pc w : Word) : i.trap r.n 7 pc 0#32 w = i.doubleFault r.n := by
    simp [State.trap, State.except, hh, Nat.not_lt.mpr hn]
  rw [ht]
  have hd : i.doubleFault r.n = ((i.drainAll r.n).wr (Key.coreState r.n) 3).postSev .coreDoubleFault 2 (0x7001 + r.n)
      (((i.drainAll r.n).wr (Key.coreState r.n) 3).core r.n).xpc.toNat
      (((i.drainAll r.n).wr (Key.coreState r.n) 3).core r.n).xcause.toNat (176 + r.n) := by
    simp only [State.doubleFault, State.corePost, if_neg (Nat.not_lt.mpr hn)]
  rw [hd]
  refine ⟨?_, .of_postSev ?_ .., State.regTakes_zero ?_⟩
  · rw [State.coreState, State.postSev_rd (by simp), State.rd_wr_self]
  · rw [← hj]
    simp only [State.wr_keeps .., State.drainAll_keeps ..]
  · simp only [State.postSev_keeps .., State.wr_keeps ..]
    rw [State.core_drainAll, hc]
    rfl

/-- Settles O43: each exception enters at its vector with its frame, and the returns leave as they came. -/
theorem coreExceptions : Obligations.CoreExceptions := by
  unfold Obligations.CoreExceptions
  refine ⟨fun r imm s hf hm ha => ⟨trap_gives hf ⟨hm, ha⟩ imm, brk_gives hf ⟨hm, ha⟩, fetchError_gives hf ⟨hm, ha⟩⟩,
    fun r word s hf hm ha hw => ?_, fun r s hr hf hm ha => fetchError_forbidden_gives hr hf ⟨hm, ha⟩,
    fun r rd ra imm a s hf hm ha hx => ⟨lw_misaligned_gives hf ⟨hm, ha⟩ hx, sw_unmapped_gives hf ⟨hm, ha⟩ hx,
      lw_uncorrectable_gives hf ⟨hm, ha⟩ hx⟩, fun n s h1 hi hm hp ha => interruptTake_gives h1 hi hm hp ha,
    fun n s h => interruptTake_ignored h, fun r s hf hs => ⟨xret_gives hf hs, xretc_gives hf hs⟩,
    fun r imm s hf hn hm => trap_double_gives imm hf hn hm⟩
  rw [exec_reservedInstruction, execReservedInstruction, if_pos hw]
  exact State.awlReservedWord_gives hf hm ha

end Sys2Proof.Machine
end

section
/-! Proofs of the family 'other', chapter 18: fences, WAIT, HALT, and the start and stop of the extension cores. -/

namespace Sys2Proof.Machine

/-! ### Fences and WAIT (R469, R473) -/

/-- A core whose buffer drained and which then completed an instruction that names no register. -/
structure State.Drained (s t : State) (n : Nat) : Prop where
  stores : (t.core n).stores = []
  sees : ∀ a, t.ownByte n a = s.ownByte n a
  pc : (t.core n).pc = (s.core n).pc + 4#32
  regs : s.RegTakes t n 0 0#32
  mode : (t.core n).mode = (s.core n).mode

theorem State.Drained.fetchAnew {s u : State} {n : Nat} (h : s.Drained u n) (m : Nat) : s.Drained (u.fetchAnew m) n :=
  ⟨h.stores, h.sees, h.pc, h.regs, h.mode⟩

/-- Completing an instruction after the buffer drained; it may forget the loop writes that are on their way. -/
theorem State.drained_awlDone {s : State} {r : CoreRun} (hs : (s.core r.n).Straight) {f : Core → Core}
    (hf : ∀ c : Core, f c = c ∨ f c = { c with late := [] }) :
    s.Drained (((s.setCore r.n ((s.core r.n).issue r [])).drainAll r.n).awlDone r.n 1 f) r.n := by
  have hown (x : Nat) : ((s.setCore r.n ((s.core r.n).issue r [])).drainAll r.n).ownByte r.n x = s.ownByte r.n x := by
    rw [State.ownByte_drainAll]
    exact State.ownByte_setCore (c := (s.core r.n).issue r []) rfl x
  have hdc := (s.setCore r.n ((s.core r.n).issue r [])).core_drainAll r.n
  rw [State.core_setCore_self] at hdc
  generalize (s.setCore r.n ((s.core r.n).issue r [])).drainAll r.n = u at hown hdc ⊢
  have hc : (u.awlDone r.n 1 f).core r.n = { (s.core r.n).issue r [] with
      stores := [], pc := (s.core r.n).pc + 4#32, cycles := ((s.core r.n).issue r []).cycles + 1 } := by
    have hst : (f (u.core r.n)).Straight := by
      rw [hdc]
      rcases hf { (s.core r.n).issue r [] with stores := [] } with h | h <;> rw [h]
      · exact hs
      · exact ⟨rfl, hs.2⟩
    rw [State.awlDone, State.core_setCore_self, hst.complete, hdc]
    rcases hf { (s.core r.n).issue r [] with stores := [] } with h | h <;> rw [h]
    · rfl
    · have hl : ((s.core r.n).issue r []).late = [] := hs.1
      rw [← hl]
      rfl
  refine ⟨by rw [hc], fun x => ?_, by rw [hc], State.regTakes_zero (by rw [hc]; rfl), by rw [hc]; rfl⟩
  rw [← hown, State.ownByte_congr (s := u) (t := u.awlDone r.n 1 f) (n := r.n) (by rw [hc, hdc]) rfl]

section
variable {s : State} {r : CoreRun} (hf : s.Fetches r.n) (hs : (s.core r.n).Straight)
include hf hs

theorem fence_gives : GivesAt s r.n (encR 0x3E 0 0 0 0) (exec (.fence r) s) fun t => s.Drained t r.n := by
  rw [exec_fence, execFence]
  refine State.awl_gives hf hs ?_
  rw [State.awlFence]
  exact State.drained_awlDone hs fun _ => .inr rfl

theorem fenceI_gives : GivesAt s r.n (encR 0x3E 0 0 0 1) (exec (.fenceI r) s) fun t =>
    s.Drained t r.n ∧ ∀ w ∈ t.cores.stale, w / 65536 ≠ r.n.val := by
  rw [exec_fenceI, execFenceI]
  refine State.awl_gives hf hs ?_
  rw [State.awlFence]
  exact ⟨(State.drained_awlDone hs fun _ => .inr rfl).fetchAnew r.n, fun w hw => by simpa using (List.mem_filter.mp hw).2⟩

theorem wait_gives : GivesAt s r.n (encR 0x3E 0 0 0 3) (exec (.wait r) s) fun t =>
    ((t.core r.n).waiting = true ↔ s.pend r.n = 0) ∧ (t.core r.n).pc = (s.core r.n).pc + 4#32 ∧ s.RegTakes t r.n 0 0#32 ∧
      s.OnlyCore t r.n := by
  have hst : Core.Straight { (s.core r.n).issue r [] with waiting := s.pend r.n == 0 } := hs
  have hc := hst.complete (s.core r.n).pc 1
  refine State.awl_gives hf hs ?_
  rw [State.awlDone, State.core_setCore_self, State.core_setCore_self]
  have hp : (s.setCore r.n ((s.core r.n).issue r [])).pend r.n = s.pend r.n := rfl
  rw [hp]
  refine ⟨?_, (congrArg Core.pc hc :), State.regTakes_zero ?_, (State.OnlyCore.refl s r.n).setCore _ |>.setCore _⟩
  · have hw := congrArg Core.waiting hc
    refine (iff_of_eq (congrArg (· = true) hw)).trans ?_
    simp
  · rw [State.core_setCore_self]
    exact (congrArg Core.regs hc :)

end

/-! ### Islands of the extension cores (R539) -/

/-- An island that is asked to go off is on no longer. -/
theorem Islands.phase_coreAsk_off (i : Islands) (now : Nat) : (i.coreAsk false now).phase ≠ .on := by
  cases h : i.phase <;> simp only [Islands.coreAsk, h]
  case starting => split <;> exact nofun
  case on => split <;> exact nofun
  case off => exact nofun
  case stopping => exact nofun

theorem State.coreIsland_setCoreIsl {n : Nat} (hn : n < 16) (s : State) (i : Islands) :
    (s.setCoreIsl n i).coreIsland n = (i.phase == .on) :=
  congrArg (fun i : Islands => i.phase == .on) (State.coreIsl_setCoreIsl_self s i hn)

theorem State.coreIsland_coreIslAsk_off {n : Nat} (hn : n < 16) (s : State) : (s.coreIslAsk n false).coreIsland n = false := by
  rw [State.coreIslAsk, State.coreIsland_setCoreIsl hn]
  exact beq_eq_false_iff_ne.mpr (Islands.phase_coreAsk_off _ _)

/-! ### HALT (R469) -/

/-- Core n halted: state 2, an empty buffer, and the island of an extension core off. -/
def State.Halted (s t : State) (n : Nat) : Prop := t.coreState n = 2 ∧ (t.core n).stores = [] ∧
  (∀ a, t.ownByte n a = s.ownByte n a) ∧ (12 ≤ n → t.coreIsland n = false) ∧ (n < 12 → t.power = s.power) ∧ s.RegTakes t n 0 0#32

theorem State.Drained.halt {s u : State} {n : Nat} (h : s.Drained u n) (hp : u.power = s.power) (hn : n < 16) :
    s.Halted (if n < 12 then u.wr (Key.coreState n) 2 else (u.wr (Key.coreState n) 2).coreIslAsk n false) n := by
  split
  case isTrue hlt => exact ⟨State.rd_wr_self .., h.stores, h.sees, fun hge => absurd hlt (Nat.not_lt.mpr hge), fun _ => hp, h.regs⟩
  case isFalse hge =>
    exact ⟨(State.rd_of_nums rfl _).trans (State.rd_wr_self ..), h.stores, h.sees, fun _ => State.coreIsland_coreIslAsk_off hn _,
      fun hlt => absurd hlt hge, h.regs⟩

theorem halt_gives {s : State} {r : CoreRun} (hf : s.Fetches r.n) (hs : (s.core r.n).Straight) :
    GivesAt s r.n (encR 0x3E 0 0 0 5) (exec (.halt r) s) fun t => s.Halted t r.n := by
  have hp : (((s.setCore r.n ((s.core r.n).issue r [])).drainAll r.n).awlDone r.n 1 fun c => c).power = s.power := by
    have hd : ((s.setCore r.n ((s.core r.n).issue r [])).drainAll r.n).power = s.power := by
      simp only [State.drainAll_keeps .., State.setCore_keeps ..]
    rw [← hd, State.awlDone]
    simp only [State.setCore_keeps ..]
  rw [exec_halt, execHalt]
  exact State.awl_gives hf hs ((State.drained_awlDone (f := fun c => c) hs fun _ => .inl rfl).halt hp r.n.isLt)

/-! ### WAIT_WAKE (R490) -/

theorem waitWake_gives {s : State} {r : CoreRun} (h1 : s.coreState r.n = 1) (hi : s.coreIsland r.n = true)
    (hw : (s.core r.n).waiting = true) (hp : s.pend r.n ≠ 0) : Gives (exec (.waitWake r) s) fun t =>
      (t.core r.n).waiting = false ∧ (t.core r.n).pc = (s.core r.n).pc ∧ s.OnlyCore t r.n := by
  rw [exec_waitWake, execWaitWake]
  rw [if_pos ⟨h1, hi, hw, hp⟩, gives_next, State.core_setCore_self]
  exact ⟨rfl, rfl, (State.OnlyCore.refl s r.n).setCore _⟩

theorem waitWake_ignored {s : State} {r : CoreRun} (h : (s.core r.n).waiting = false ∨ s.pend r.n = 0) :
    Gives (exec (.waitWake r) s) fun t => t = s := by
  rw [exec_waitWake, execWaitWake]
  rw [if_neg, gives_next]
  rintro ⟨-, -, hw, hp⟩
  rcases h with h | h
  · rw [h] at hw
    exact Bool.false_ne_true hw
  · exact hp h

/-! ### Start and stop of an extension core (R475, R479, R539) -/

/-- What a core that started holds. -/
structure Core.Started (c : Core) (i : ExtImage) : Prop where
  pc : c.pc = BitVec.ofNat 32 i.entry
  stack : c.g 29 = BitVec.ofNat 32 i.stackTop
  zero : ∀ x, x ≠ 29 → c.g x = 0#32
  vbase : c.vbase = BitVec.ofNat 32 i.vbase
  mode : c.mode = 0#2

theorem Core.started_start (c : Core) (n : Nat) (i : ExtImage) :
    (c.start n i.entry i.stackTop (BitVec.ofNat 32 i.vbase)).Started i := by
  have hg (x : Nat) : (c.start n i.entry i.stackTop (BitVec.ofNat 32 i.vbase)).g x =
      ((Core.atReset n).setG 29 (BitVec.ofNat 32 i.stackTop)).g x := Core.g_congr rfl x
  refine ⟨rfl, ?_, fun x hx => ?_, rfl, rfl⟩
  · rw [hg, Core.g_setG, if_pos ⟨rfl, by decide⟩]
  · rw [hg, Core.g_setG, if_neg (fun h => hx h.1)]
    simp [Core.g, Core.atReset, KMap.getD, KMap.find]

/-- A core whose image stands goes: state 1, its registers set, its run ended. -/
theorem State.coreGo_goes {s : State} {n : Nat} {i : ExtImage} (h : (s.core n).image = some i) :
    (s.coreGo n).coreState n = 1 ∧ ((s.coreGo n).core n).Started i ∧ (s.coreGo n).power = s.power ∧
      ((s.coreGo n).res (Key.coreRunRes n)).outcome = 1 ∧ ∀ m, m ≠ n → (s.coreGo n).core m = s.core m := by
  have hgo : s.coreGo n = (((s.fetchAnew n).setCore n ((s.core n).start n i.entry i.stackTop (BitVec.ofNat 32 i.vbase))).wr
      (Key.coreState n) 1).resEnd (Key.coreRunRes n) 0 := by
    rw [State.coreGo]
    simp only [h]
  have hcore (t : State) (k m : Nat) : ((t.wr (Key.coreState n) 1).resEnd k 0).core m = t.core m := rfl
  rw [hgo]
  refine ⟨(State.rd_of_nums rfl _).trans (State.rd_wr_self ..), ?_, ?_, ?_, fun m hm => ?_⟩
  · rw [hcore, State.core_setCore_self]
    exact Core.started_start ..
  · simp only [State.resEnd_keeps .., State.wr_keeps .., State.setCore_keeps .., State.fetchAnew_keeps ..]
  · rw [State.res_resEnd_self]
    rfl
  · rw [hcore, State.core_setCore, if_neg hm]
    rfl

/-- The state in which a start asks for its island. -/
theorem State.coreStart_of_image {s : State} {n : Nat} {i : ExtImage} (h1 : s.coreState n ≠ 1) (hi : (s.core n).image = some i) :
    s.coreStart n = if ((s.resBegin (Key.coreRunRes n)).coreIslAsk n true).coreIsland n = true then
      ((s.resBegin (Key.coreRunRes n)).coreIslAsk n true).coreGo n else (s.resBegin (Key.coreRunRes n)).coreIslAsk n true := by
  have h1' : ¬ (s.resBegin (Key.coreRunRes n)).coreState n = 1 := h1
  have hi' : ¬ ((s.resBegin (Key.coreRunRes n)).core n).image.isNone = true := by
    rw [show (s.resBegin (Key.coreRunRes n)).core n = s.core n from rfl, hi]
    exact nofun
  rw [State.coreStart]
  simp only
  rw [if_neg h1', if_neg hi']

theorem Islands.phase_coreAsk_on {i : Islands} {now : Nat} (h : i.phase = .on ∨ (i.phase = .off ∧ i.since + us 10 ≤ now)) :
    (i.coreAsk true now).phase = .on := by
  rcases h with h | ⟨h, hd⟩
  · simp only [Islands.coreAsk, h]
  · simp only [Islands.coreAsk, h, hd, decide_true, if_true]

theorem Islands.coreAsk_on_early {i : Islands} {now : Nat} (h : i.phase = .off) (hd : now < i.since + us 10) :
    i.coreAsk true now = { i with want := some true } := by
  simp only [Islands.coreAsk, h, decide_eq_false (Nat.not_le.mpr hd), Bool.false_eq_true, if_false]

section
variable {k : Fin 4} {s : State}

theorem coreStart_blocked (h : s.cmdBlocked (Key.coreRunRes (12 + k)) = true) : exec (.coreStart k) s = .next s := by
  rw [exec_coreStart, execCoreStart, if_pos h]

theorem coreStop_blocked (h : s.cmdBlocked (Key.coreRunRes (12 + k)) = true) : exec (.coreStop k) s = .next s := by
  rw [exec_coreStop, execCoreStop, if_pos h]

theorem coreStart_free (h : s.cmdBlocked (Key.coreRunRes (12 + k)) = false) :
    exec (.coreStart k) s = .next (s.coreStart (12 + k)) := by
  rw [exec_coreStart, execCoreStart, if_neg (by rw [h]; exact Bool.false_ne_true)]

theorem coreStop_free (h : s.cmdBlocked (Key.coreRunRes (12 + k)) = false) :
    exec (.coreStop k) s = .next (s.coreStop (12 + k)) := by
  rw [exec_coreStop, execCoreStop, if_neg (by rw [h]; exact Bool.false_ne_true)]

end

/-- A start whose island is on at once. -/
theorem State.coreStart_goes {s : State} {n : Nat} {i : ExtImage} (hn : n < 16) (h1 : s.coreState n ≠ 1)
    (hi : (s.core n).image = some i)
    (hp : (s.coreIsl n).phase = .on ∨ ((s.coreIsl n).phase = .off ∧ (s.coreIsl n).since + us 10 ≤ s.elapsed)) :
    (s.coreStart n).coreState n = 1 ∧ ((s.coreStart n).core n).Started i ∧ (s.coreStart n).coreIsland n = true ∧
      ((s.coreStart n).res (Key.coreRunRes n)).outcome = 1 ∧ ∀ m, m ≠ n → (s.coreStart n).core m = s.core m := by
  have hon : ((s.resBegin (Key.coreRunRes n)).coreIslAsk n true).coreIsland n = true := by
    rw [State.coreIslAsk, State.coreIsland_setCoreIsl hn]
    exact beq_iff_eq.mpr (Islands.phase_coreAsk_on hp)
  rw [State.coreStart_of_image h1 hi, if_pos hon]
  have hi' : (((s.resBegin (Key.coreRunRes n)).coreIslAsk n true).core n).image = some i := hi
  obtain ⟨hst, hcore, hpow, hres, hother⟩ := State.coreGo_goes hi'
  refine ⟨hst, hcore, ?_, hres, hother⟩
  rw [State.coreIsland, hpow]
  exact hon

/-- A start before the dwell of its island has passed waits. -/
theorem State.coreStart_waits {s : State} {n : Nat} {i : ExtImage} (hn : n < 16) (h1 : s.coreState n ≠ 1)
    (hi : (s.core n).image = some i) (hp : (s.coreIsl n).phase = .off) (hd : s.elapsed < (s.coreIsl n).since + us 10) :
    (s.coreStart n).cores = s.cores ∧ (s.coreStart n).coreState n = s.coreState n ∧
      ((s.coreStart n).res (Key.coreRunRes n)).busy = true ∧ ((s.coreStart n).coreIsl n).want = some true := by
  have he : ((s.resBegin (Key.coreRunRes n)).coreIsl n).coreAsk true (s.resBegin (Key.coreRunRes n)).elapsed =
      { s.coreIsl n with want := some true } := Islands.coreAsk_on_early hp hd
  have hoff : ¬ ((s.resBegin (Key.coreRunRes n)).coreIslAsk n true).coreIsland n = true := by
    rw [State.coreIslAsk, State.coreIsland_setCoreIsl hn, he]
    exact fun h => by simp [hp] at h
  rw [State.coreStart_of_image h1 hi, if_neg hoff]
  refine ⟨rfl, rfl, ?_, ?_⟩
  · simp only [State.coreIslAsk_keeps .., State.res_resBegin_self]
  · rw [State.coreIslAsk, State.coreIsl_setCoreIsl_self _ _ hn, he]

/-- A start of a core without an image ends with code 1. -/
theorem State.coreStart_without_image {s : State} {n : Nat} (h1 : s.coreState n ≠ 1) (hi : (s.core n).image = none) :
    s.coreStart n = (s.resBegin (Key.coreRunRes n)).resEnd (Key.coreRunRes n) 1 := by
  have h1' : ¬ (s.resBegin (Key.coreRunRes n)).coreState n = 1 := h1
  have hi' : ((s.resBegin (Key.coreRunRes n)).core n).image.isNone = true := by
    rw [show (s.resBegin (Key.coreRunRes n)).core n = s.core n from rfl, hi]
    rfl
  rw [State.coreStart]
  simp only
  rw [if_neg h1', if_pos hi']

/-- A start of a core that runs ends with code 2. -/
theorem State.coreStart_of_running {s : State} {n : Nat} (h1 : s.coreState n = 1) :
    s.coreStart n = (s.resBegin (Key.coreRunRes n)).resEnd (Key.coreRunRes n) 2 := by
  have h1' : (s.resBegin (Key.coreRunRes n)).coreState n = 1 := h1
  rw [State.coreStart]
  simp only
  rw [if_pos h1']

/-- A stop of a core in state 1 or 3. -/
theorem State.coreStop_stops {s : State} {n : Nat} (hn : n < 16) (h : s.coreState n = 1 ∨ s.coreState n = 3) :
    (s.coreStop n).coreState n = 2 ∧ ((s.coreStop n).core n).stores = [] ∧ (s.coreStop n).coreIsland n = false ∧
      ((s.coreStop n).res (Key.coreRunRes n)).outcome = 1 := by
  have h' : (s.resBegin (Key.coreRunRes n)).coreState n = 1 ∨ (s.resBegin (Key.coreRunRes n)).coreState n = 3 := h
  rw [State.coreStop, if_pos h', State.coreDrain]
  have hc := (s.resBegin (Key.coreRunRes n)).core_drainAll n
  generalize (s.resBegin (Key.coreRunRes n)).drainAll n = u at hc ⊢
  refine ⟨(State.rd_of_nums rfl _).trans (State.rd_wr_self ..), congrArg Core.stores hc, ?_, ?_⟩
  · exact State.coreIsland_coreIslAsk_off hn (u.wr (Key.coreState n) 2)
  · rw [State.res_resEnd_self]
    rfl

/-- Settles O44: fences and HALT drain the buffer, and a start waits for its island. -/
theorem coreRunStates : Obligations.CoreRunStates := by
  unfold Obligations.CoreRunStates
  refine ⟨fun r s hf hs => ⟨fun hw => ?_, fun hw => ?_, wait_gives hf hs, halt_gives hf hs⟩,
    fun r s h1 hi hw hp => waitWake_gives h1 hi hw hp, fun r s h => waitWake_ignored h, fun k i s hb h1 hi hp => ?_,
    fun k i s hb h1 hi hp hd => ?_, fun k s hb h1 hi => ?_, fun k s hb h1 => ?_, fun k s hb h => ?_,
    fun k s hb => ⟨?_, ?_⟩⟩
  · obtain ⟨t, ht, h⟩ := fence_gives hf hs hw
    exact ⟨t, ht, h.stores, h.sees, h.pc, h.regs, h.mode⟩
  · obtain ⟨t, ht, h, hstale⟩ := fenceI_gives hf hs hw
    exact ⟨t, ht, ⟨h.stores, h.sees, h.pc, h.regs, h.mode⟩, hstale⟩
  · rw [coreStart_free hb, gives_next]
    obtain ⟨hst, hcore, hisl, hres, hother⟩ := State.coreStart_goes (n := 12 + k) (by omega) h1 hi hp
    exact ⟨hst, hcore.pc, hcore.stack, hcore.zero, hcore.vbase, hcore.mode, hisl, hres, hother⟩
  · rw [coreStart_free hb, gives_next]
    exact State.coreStart_waits (by omega) h1 hi hp hd
  · rw [coreStart_free hb, gives_next, State.coreStart_without_image h1 hi]
    exact ⟨rfl, rfl, by rw [State.res_resEnd_self]⟩
  · rw [coreStart_free hb, gives_next, State.coreStart_of_running h1]
    exact ⟨rfl, by rw [State.res_resEnd_self]⟩
  · rw [coreStop_free hb, gives_next]
    exact State.coreStop_stops (by omega) h
  · rw [coreStart_blocked hb, gives_next]
  · rw [coreStop_blocked hb, gives_next]

end Sys2Proof.Machine
end

section
/-! Proofs of the family 'other', chapter 19: the sources of the Buckle and its words. -/

namespace Sys2Proof.Machine

/-! ### Bits and fields of a number -/

theorem bitOf_setBit_true (x k : Nat) : bitOf (setBit x k true) k = true := by
  by_cases h : bitOf x k = true
  · simp [setBit, h]
  · have hx : x / 2 ^ k % 2 = 0 := by
      have := Nat.mod_two_eq_zero_or_one (x / 2 ^ k)
      simp [bitOf] at h
      omega
    have hd : (x + 2 ^ k) / 2 ^ k = x / 2 ^ k + 1 := Nat.add_div_right x (Nat.two_pow_pos k)
    have hs : setBit x k true = x + 2 ^ k := by simp [setBit, h]
    rw [hs, bitOf, hd, beq_iff_eq]
    omega

/-- A number whose field is set: what stands below it, the field and what stands above it. -/
theorem setBits_eq (x lo w v : Nat) : setBits x lo w v = x % 2 ^ lo + 2 ^ lo * (v % 2 ^ w + 2 ^ w * (x / 2 ^ (lo + w))) := by
  have h1 := Nat.mod_add_div x (2 ^ lo)
  have h2 := Nat.mod_add_div (x / 2 ^ lo) (2 ^ w)
  rw [Nat.div_div_eq_div_mul, ← Nat.pow_add] at h2
  have hx : x = bits x lo w * 2 ^ lo + (x % 2 ^ lo + 2 ^ lo * (2 ^ w * (x / 2 ^ (lo + w)))) := by
    rw [bits]
    calc x = x % 2 ^ lo + 2 ^ lo * (x / 2 ^ lo) := h1.symm
      _ = x % 2 ^ lo + 2 ^ lo * (x / 2 ^ lo % 2 ^ w + 2 ^ w * (x / 2 ^ (lo + w))) := by rw [h2]
      _ = _ := by ring
  have hs : x - bits x lo w * 2 ^ lo = x % 2 ^ lo + 2 ^ lo * (2 ^ w * (x / 2 ^ (lo + w))) := by omega
  rw [setBits, hs]
  ring

/-- What stands below the field stays. -/
theorem setBits_mod (x lo w v : Nat) : setBits x lo w v % 2 ^ lo = x % 2 ^ lo := by
  rw [setBits_eq, Nat.add_mul_mod_self_left, Nat.mod_mod]

/-- What stands above the field stays. -/
theorem setBits_div (x lo w v : Nat) : setBits x lo w v / 2 ^ (lo + w) = x / 2 ^ (lo + w) := by
  have hl := Nat.mod_lt x (Nat.two_pow_pos lo)
  have hv := Nat.mod_lt v (Nat.two_pow_pos w)
  have hb : x % 2 ^ lo + 2 ^ lo * (v % 2 ^ w) < 2 ^ (lo + w) := by
    calc x % 2 ^ lo + 2 ^ lo * (v % 2 ^ w) < 2 ^ lo * (v % 2 ^ w + 1) := by rw [Nat.mul_add]; omega
      _ ≤ 2 ^ lo * 2 ^ w := Nat.mul_le_mul_left _ hv
      _ = _ := (Nat.pow_add ..).symm
  have he : setBits x lo w v = x % 2 ^ lo + 2 ^ lo * (v % 2 ^ w) + 2 ^ (lo + w) * (x / 2 ^ (lo + w)) := by
    rw [setBits_eq, Nat.pow_add 2 lo w]
    ring
  rw [he, Nat.add_mul_div_left _ _ (Nat.two_pow_pos _), Nat.div_eq_of_lt hb, Nat.zero_add]

theorem bits_setBits_self (x lo w v : Nat) : bits (setBits x lo w v) lo w = v % 2 ^ w := by
  rw [bits, setBits_eq, Nat.add_mul_div_left _ _ (Nat.two_pow_pos lo), Nat.div_eq_of_lt (Nat.mod_lt _ (Nat.two_pow_pos lo)),
    Nat.zero_add, Nat.add_mul_mod_self_left, Nat.mod_mod]

theorem bits_eq_mod_div (x lo w : Nat) : bits x lo w = x % 2 ^ (lo + w) / 2 ^ lo := by
  rw [bits, Nat.pow_add, Nat.mod_mul_right_div_self]

theorem bits_setBits_below (x v : Nat) {lo w lo' w' : Nat} (h : lo' + w' ≤ lo) : bits (setBits x lo w v) lo' w' = bits x lo' w' := by
  have hd : 2 ^ (lo' + w') ∣ 2 ^ lo := Nat.pow_dvd_pow 2 h
  rw [bits_eq_mod_div, bits_eq_mod_div, ← Nat.mod_mod_of_dvd _ hd, setBits_mod, Nat.mod_mod_of_dvd _ hd]

theorem bits_setBits_above (x v : Nat) {lo w lo' : Nat} (w' : Nat) (h : lo + w ≤ lo') :
    bits (setBits x lo w v) lo' w' = bits x lo' w' := by
  obtain ⟨d, rfl⟩ := Nat.exists_eq_add_of_le h
  rw [bits, bits, Nat.pow_add 2 (lo + w) d, ← Nat.div_div_eq_div_mul, ← Nat.div_div_eq_div_mul, setBits_div]

/-- Word w of a row of words takes the value, and every other word stays. -/
theorem bits_setBits_word (x v w u : Nat) :
    bits (setBits x (32 * w) 32 v) (32 * u) 32 = if u = w then v % 2 ^ 32 else bits x (32 * u) 32 := by
  split
  case isTrue h => rw [h, bits_setBits_self]
  case isFalse h =>
    obtain h | h : u < w ∨ w < u := by omega
    · exact bits_setBits_below x v (by omega)
    · exact bits_setBits_above x v 32 (by omega)

/-! ### Assignment (R485 to R487) -/

theorem State.assign_of_next {s : State} {k n : Nat} (h : s.nextCore k = some n) : bitOf ((s.assign k).pend n) k = true ∧
    (∀ m, m ≠ n → (s.assign k).pend m = s.pend m) ∧ KMap.find (s.assign k).buckle.last k = some n := by
  have hp (m : Nat) : (s.assign k).pend m = if m = n then setBit (s.pend n) k true else s.pend m := by
    rw [← State.pend_setPend, State.assign, h]
    rfl
  refine ⟨?_, fun m hm => ?_, ?_⟩
  · rw [hp, if_pos rfl]
    exact bitOf_setBit_true ..
  · rw [hp, if_neg hm]
  · rw [State.assign, h]
    exact KMap.find_put_self ..

/-- An assignment changes the pending words and the turns alone. -/
theorem State.assign_leaves (s : State) (k : Nat) : (s.assign k).buckle.edges = s.buckle.edges ∧
    (s.assign k).buckle.mask = s.buckle.mask ∧ (s.assign k).dict = s.dict := by
  rw [State.assign]
  split <;> exact ⟨rfl, rfl, rfl⟩

/-- The first core in turn that takes the source. -/
theorem find_first {p : Nat → Bool} {n : Nat} (hn : n < 16) (h : p n = true) (hl : ∀ m, m < n → p m = false) :
    ((List.range 16).map fun i => (0 + i) % 16).find? p = some n := by
  rw [List.find?_eq_some_iff_append]
  refine ⟨h, (List.range n), (List.range (15 - n)).map fun i => n + 1 + i, ?_, fun m hm => ?_⟩
  · revert hn
    clear h hl
    revert n
    decide
  · simp [hl m (List.mem_range.mp hm)]

theorem State.nextCore_of_fresh {s : State} {k n : Nat} (hl : KMap.find s.buckle.last k = none) (hn : n < 16)
    (h : s.takesSource k n = true) (hb : ∀ m, m < n → s.takesSource k m = false) : s.nextCore k = some n := by
  rw [State.nextCore, hl]
  exact find_first hn h hb

theorem State.nextCore_of_turn {s : State} {k n : Nat} (hl : KMap.find s.buckle.last k = some n) (hn : n < 15)
    (h : s.takesSource k (n + 1) = true) : s.nextCore k = some (n + 1) := by
  rw [State.nextCore, hl]
  have hm : (n + 1) % 16 = n + 1 := Nat.mod_eq_of_lt (by omega)
  simp [List.range_succ_eq_map, hm, h]

/-- The only core that takes the source is found in any turn. -/
theorem find_only {p : Nat → Bool} {n : Nat} (hn : n < 16) (h : p n = true) (ho : ∀ m, m < 16 → m ≠ n → p m = false) (first : Nat) :
    ((List.range 16).map fun i => (first + i) % 16).find? p = some n := by
  cases hf : ((List.range 16).map fun i => (first + i) % 16).find? p with
  | none =>
    have hall := List.find?_eq_none.mp hf n (List.mem_map.mpr ⟨(n + 16 - first % 16) % 16, List.mem_range.mpr (by omega), by omega⟩)
    exact absurd h hall
  | some m =>
    obtain ⟨i, -, hi⟩ := List.mem_map.mp (List.mem_of_find?_eq_some hf)
    by_contra hne
    have hm := ho m (by omega) fun e => hne (congrArg some e)
    rw [List.find?_some hf] at hm
    exact Bool.false_ne_true hm.symm

theorem State.nextCore_of_only {s : State} {k n : Nat} (hn : n < 16) (h : s.takesSource k n = true)
    (ho : ∀ m, m < 16 → m ≠ n → s.takesSource k m = false) : s.nextCore k = some n := find_only hn h ho _

/-- The state in which an edge is assigned: it has left its row and counts in its source. -/
def State.edgeTaken (s : State) (k : Nat) : State :=
  State.run32 { s with buckle := { s.buckle with edges := s.buckle.edges.erase k } } (Key.srcEvents k)

theorem State.edgeTaken_leaves (s : State) (k : Nat) : (s.edgeTaken k).buckle.edges = s.buckle.edges.erase k ∧
    (s.edgeTaken k).buckle.mask = s.buckle.mask ∧ (s.edgeTaken k).buckle.last = s.buckle.last ∧
    (∀ m, (s.edgeTaken k).pend m = s.pend m) := ⟨rfl, rfl, rfl, fun _ => rfl⟩

theorem State.rd_edgeTaken (s : State) (k j : Nat) :
    (s.edgeTaken k).rd j = if j = Key.srcEvents k then (s.rd (Key.srcEvents k) + 1) % 2 ^ 32 else s.rd j := State.rd_wr ..

theorem State.takesSource_edgeTaken (s : State) (k n : Nat) : (s.edgeTaken k).takesSource k n = s.takesSource k n := by
  have hne {j : Nat} (h : Key.fam j ≠ Key.fam (Key.srcEvents k)) : (s.edgeTaken k).rd j = s.rd j := by
    rw [State.rd_edgeTaken, if_neg (fun e => h (congrArg Key.fam e))]
  rw [State.takesSource, State.takesSource, State.coreState, State.coreState, hne (by simp), hne (by simp)]

section
variable {k : Fin 256} {s : State}

theorem buckleEdge_waiting (he : s.buckle.edges.contains k.val = true) (hr : srcReserved k = false) (hl : srcLevel k = false) :
    exec (.buckleEdge k) s = .next ((s.edgeTaken k).assign k) := by
  rw [exec_buckleEdge, execBuckleEdge]
  simp only [he, hr, hl, Bool.not_false, Bool.and_self, if_true]
  rfl

theorem buckleEdge_none (he : s.buckle.edges.contains k.val = false) : exec (.buckleEdge k) s = .next s := by
  rw [exec_buckleEdge, execBuckleEdge]
  simp only [he, Bool.false_and, Bool.false_eq_true, if_false]

/-- An edge that is assigned to core n. -/
theorem buckleEdge_assigned {n : Nat} (he : s.buckle.edges.contains k.val = true) (hr : srcReserved k = false)
    (hl : srcLevel k = false) (hn : (s.edgeTaken k).nextCore k = some n) : Gives (exec (.buckleEdge k) s) fun t =>
      bitOf (t.pend n) k = true ∧ (∀ m, m ≠ n → t.pend m = s.pend m) ∧ KMap.find t.buckle.last k = some n := by
  rw [buckleEdge_waiting he hr hl, gives_next]
  exact State.assign_of_next hn

/-- A level that holds and is pending nowhere goes to the one core that takes it. -/
theorem State.levelAssign_assigned {n : Nat} (hl : srcLevel k = true) (hh : s.levelHolds k = true) (hp : s.pendingAnywhere k = false)
    (hn : s.nextCore k = some n) : bitOf ((s.levelAssign k).pend n) k = true ∧ (∀ m, m ≠ n → (s.levelAssign k).pend m = s.pend m) ∧
      (s.levelAssign k).dict = s.dict := by
  obtain ⟨hset, hother, -⟩ := State.assign_of_next hn
  rw [State.levelAssign, if_pos (by simp [hl, hh, hp])]
  exact ⟨hset, hother, (s.assign_leaves k).2.2⟩

theorem State.levelAssign_idle (h : s.levelHolds k = false ∨ s.pendingAnywhere k = true) : s.levelAssign k = s := by
  rw [State.levelAssign, if_neg (by rcases h with h | h <;> simp [h])]

end

/-! ### Words and causes (R489, R491) -/

theorem State.flags_setCause {s : State} {c : Nat} (h : (s.cause c).1 = true) (d : Nat) :
    d ∈ (s.setCause c).host.flags ↔ d ∈ s.host.flags ∨ d = c := by
  rw [State.setCause, h, Bool.true_and]
  split
  · simp [or_comm]
  · next hc =>
    have hm : c ∈ s.host.flags := by simpa using hc
    exact ⟨.inl, fun hd => hd.elim id fun e => e ▸ hm⟩

/-- Settles O45: a source goes to the next core in turn that takes it, and a write replaces its own word alone. -/
theorem buckleSources : Obligations.BuckleSources := by
  unfold Obligations.BuckleSources
  refine ⟨fun k s he hr hl => ?_, fun k n s he hr hl hn ht hlast hb => ?_, fun k n s he hr hl hn hlast ht => ?_,
    fun k s he => ?_, fun k n s hl hh hp hn ht ho => ?_, fun k s h => ?_, fun n w v s hc => ⟨?_, ?_⟩, fun n v s hc => ?_,
    fun n v s hc hn hcause => ?_, fun n v s hn => ?_, fun v s hl hp => ?_⟩
  · obtain ⟨hedges, hmask, hdict⟩ := (s.edgeTaken k).assign_leaves k
    rw [buckleEdge_waiting he hr hl, gives_next]
    refine ⟨hedges, ?_, fun j hj => ?_, hmask⟩
    · rw [State.rd_of_nums (congrArg Dictionary.nums hdict), State.rd_edgeTaken, if_pos rfl]
    · rw [State.rd_of_nums (congrArg Dictionary.nums hdict), State.rd_edgeTaken, if_neg hj]
  · refine buckleEdge_assigned he hr hl (State.nextCore_of_fresh hlast hn ?_ fun m hm => ?_)
    · rw [State.takesSource_edgeTaken, ht]
    · rw [State.takesSource_edgeTaken, hb m hm]
  · have hnext : (s.edgeTaken k).nextCore k = some (n + 1) :=
      State.nextCore_of_turn hlast hn (by rw [State.takesSource_edgeTaken, ht])
    obtain ⟨t, ht, hset, hother, -⟩ := buckleEdge_assigned he hr hl hnext
    exact ⟨t, ht, hset, hother⟩
  · rw [buckleEdge_none he, gives_next]
  · have h := State.levelAssign_assigned hl hh hp (State.nextCore_of_only hn ht ho)
    rw [exec_buckleLevelRise, exec_levelReassign, execBuckleLevelRise, execLevelReassign, gives_next]
    exact ⟨h, h⟩
  · rw [exec_buckleLevelRise, exec_levelReassign, execBuckleLevelRise, execLevelReassign, gives_next, State.levelAssign_idle h]
    exact ⟨rfl, rfl⟩
  · rw [exec_pendingWrite, execPendingWrite, if_pos hc, gives_next, State.pendWrite]
    simp only [State.pend_setPend, if_true, bits_setBits_word]
    exact ⟨Nat.mod_eq_of_lt v.isLt, fun u _ hu => if_neg hu, fun m hm => if_neg hm, rfl⟩
  · rw [exec_maskWrite, execMaskWrite, if_pos hc, gives_next, State.maskWrite]
    simp only [State.mask_setMask, if_true, bits_setBits_word]
    exact ⟨Nat.mod_eq_of_lt v.isLt, fun u _ hu => if_neg hu, fun m hm => if_neg hm, rfl⟩
  · have hv := v.isLt
    rw [exec_awlBuckleRaise, execAwlBuckleRaise, if_pos hc, gives_next, State.awlRaise]
    exact if_congr ⟨fun h => h.1, fun h => ⟨h, by omega⟩⟩ rfl rfl
  · have hv : (72 + v.val % 8) = 72 + v.val := by omega
    rw [exec_awlHostRaise, execAwlHostRaise, if_pos hc, gives_next, State.awlHostRaise, if_pos hn, hv]
    exact ⟨(State.flags_setCause hcause _).mpr (.inr rfl), fun c hne => by simp [State.flags_setCause hcause, hne]⟩
  · rw [exec_awlHostRaise, execAwlHostRaise, State.awlHostRaise, if_neg (Nat.not_lt.mpr hn), ite_self, gives_next]
  · rw [exec_hifBuckleRaise, execHifBuckleRaise, if_pos hl, gives_next, State.wake, if_neg (fun h => hp h.1)]
    rfl

end Sys2Proof.Machine
end

section
/-! Proofs of the family 'other', chapter 17: the pulse outputs. -/

namespace Sys2Proof.Machine

/-! ### A pulse and its pin (R448, R449) -/

theorem State.tpo_setPulse (s : State) (k : Fin 4) (x : Pulse) (d : Bool) :
    (s.setPulse k x).pins.tpo.getD k d = x.fallAt.isSome := by
  rw [State.setPulse]
  exact vmod_getD_self _ _ _ k.isLt

/-- A pulse that rises raises its source. -/
theorem State.edges_setPulse_rise {s : State} {k : Nat} {x : Pulse} (h : (s.pulse k).fallAt = none) (hx : x.fallAt.isSome = true) :
    (s.setPulse k x).buckle.edges = s.buckle.edges ++ [4 + k] := by
  rw [State.setPulse, if_pos (by simp [h, hx])]
  rfl

theorem State.rd_setPulse (s : State) (k : Nat) (x : Pulse) (j : Nat) : (s.setPulse k x).rd j = s.rd j := by
  simp only [State.setPulse_keeps ..]

/-! ### Arming (R448, R450) -/

theorem State.pulseArm_once {s : State} {k : Nat} (hm : s.rd (Key.tpoMode k) = 1)
    (ht : s.nowNs + 2000 ≤ timeNs (rawToTime (s.rd (Key.tpoStart k)))) :
    s.pulseArm k = s.setPulse k { ({ Pulse.off with run := some (s.pulseObjects k), armedAt := s.nowNs } : Pulse) with
      next := some (timeNs (rawToTime (s.rd (Key.tpoStart k)))) } := by
  have h0 : ¬ (s.pulseObjects k).mode = 0 := fun h => Nat.one_ne_zero (hm.symm.trans h)
  rw [State.pulseArm]
  simp only
  rw [if_neg h0, if_pos (show (s.pulseObjects k).mode = 1 from hm), if_pos (show _ ≤ timeNs (s.pulseObjects k).start from ht)]
  rfl

theorem State.pulseArm_late {s : State} {k : Nat} (hm : s.rd (Key.tpoMode k) = 1)
    (ht : timeNs (rawToTime (s.rd (Key.tpoStart k))) < s.nowNs + 2000) :
    s.pulseArm k = ((s.wr (Key.tpoMode k) 0).setPulse k Pulse.off).post .tpoMissed (0x1802 + k) (s.pulseObjects k).start.sec 0 timeDom := by
  have h0 : ¬ (s.pulseObjects k).mode = 0 := fun h => Nat.one_ne_zero (hm.symm.trans h)
  rw [State.pulseArm]
  simp only
  rw [if_neg h0, if_pos (show (s.pulseObjects k).mode = 1 from hm), if_neg (show ¬ _ ≤ timeNs (s.pulseObjects k).start from Nat.not_le.mpr ht)]

/-- A write of the mode where the output is low arms it. -/
theorem tpoArm_low {k : Fin 4} {m : Fin 3} {s : State} (hm : m.val ≠ 0) (hf : (s.pulse k).fallAt = none) :
    exec (.tpoArm k m) s = .next ((s.wr (Key.tpoMode k) m).pulseArm k) := by
  have hf' : ((s.wr (Key.tpoMode k) m).pulse k).fallAt = none := hf
  rw [exec_tpoArm, execTpoArm, State.pulseWritten]
  simp only [if_true, State.rd_wr_self, hm, hf', Option.isSome_none, Bool.false_eq_true, if_false]

theorem tpoArm_once {k : Fin 4} {s : State} (hf : (s.pulse k).fallAt = none)
    (ht : s.nowNs + 2000 ≤ timeNs (rawToTime (s.rd (Key.tpoStart k)))) : Gives (exec (.tpoArm k 1) s) fun t =>
      t.rd (Key.tpoMode k) = 1 ∧ (t.pulse k).next = some (timeNs (rawToTime (s.rd (Key.tpoStart k)))) ∧ (t.pulse k).fallAt = none ∧
        ∀ j, j ≠ k.val → t.pulse j = s.pulse j := by
  have hs : (s.wr (Key.tpoMode k) 1).rd (Key.tpoStart k) = s.rd (Key.tpoStart k) := s.rd_wr_of_fam 1 (by simp)
  rw [tpoArm_low (by decide) hf, gives_next]
  rw [show ((1 : Fin 3) : Nat) = 1 from rfl]
  rw [State.pulseArm_once (State.rd_wr_self ..) (by rw [hs]; exact ht), hs]
  refine ⟨?_, ?_, ?_, fun j hj => ?_⟩
  · rw [State.rd_setPulse, State.rd_wr_self]
  · rw [State.pulse_setPulse_self _ _ k.isLt]
  · rw [State.pulse_setPulse_self _ _ k.isLt]
    rfl
  · rw [State.pulse_setPulse_ne _ _ hj]
    rfl

theorem tpoArm_late {k : Fin 4} {s : State} (hf : (s.pulse k).fallAt = none)
    (ht : timeNs (rawToTime (s.rd (Key.tpoStart k))) < s.nowNs + 2000) : Gives (exec (.tpoArm k 1) s) fun t =>
      t.rd (Key.tpoMode k) = 0 ∧ t.pulse k = Pulse.off ∧ Posted s t .tpoMissed (0x1802 + k) := by
  have hs : (s.wr (Key.tpoMode k) 1).rd (Key.tpoStart k) = s.rd (Key.tpoStart k) := s.rd_wr_of_fam 1 (by simp)
  rw [tpoArm_low (by decide) hf, gives_next]
  rw [show ((1 : Fin 3) : Nat) = 1 from rfl]
  rw [State.pulseArm_late (State.rd_wr_self ..) (by rw [hs]; exact ht)]
  refine ⟨?_, ?_, .of_post ?_ ..⟩
  · rw [State.post_rd (by simp), State.rd_setPulse, State.rd_wr_self]
  · simp only [State.post_keeps ..]
    exact State.pulse_setPulse_self _ _ k.isLt
  · simp only [State.setPulse_keeps .., State.wr_keeps ..]

theorem tpoArm_off (k : Fin 4) (s : State) : Gives (exec (.tpoArm k 0) s) fun t =>
    t.rd (Key.tpoMode k) = 0 ∧ t.pulse k = Pulse.off ∧ t.pins.tpo.getD k true = false := by
  have h0 : (s.wr (Key.tpoMode k) (0 : Fin 3)).pulseWritten k true = (s.wr (Key.tpoMode k) 0).setPulse k Pulse.off := by
    rw [State.pulseWritten]
    simp only [if_true]
    rw [show ((0 : Fin 3) : Nat) = 0 from rfl, if_pos (State.rd_wr_self ..)]
  rw [exec_tpoArm, execTpoArm, gives_next, h0]
  exact ⟨by rw [State.rd_setPulse, State.rd_wr_self], State.pulse_setPulse_self _ _ k.isLt, State.tpo_setPulse ..⟩

/-- A write of the mode while the output is high takes effect after it falls. -/
theorem tpoArm_high {k : Fin 4} {m : Fin 3} {s : State} (hm : m.val ≠ 0) (hf : (s.pulse k).fallAt ≠ none) :
    Gives (exec (.tpoArm k m) s) fun t => (t.pulse k).arming = true ∧ (t.pulse k).fallAt = (s.pulse k).fallAt ∧
      (t.pulse k).run = (s.pulse k).run := by
  have hf' : ((s.wr (Key.tpoMode k) m).pulse k).fallAt.isSome = true := Option.isSome_iff_ne_none.mpr hf
  rw [exec_tpoArm, execTpoArm, State.pulseWritten]
  simp only [if_true, State.rd_wr_self, hm, hf', if_false]
  rw [gives_next, State.pulse_setPulse_self _ _ k.isLt]
  exact ⟨rfl, rfl, rfl⟩

/-- The parameters of an output as a write that no limit changes stores them. -/
def State.pulseSet (s : State) (k : Nat) (start : Time80) (per wid : Nat) : State :=
  ((s.wr (Key.tpoStart k) (timeRaw start)).wr (Key.tpoPeriodNs k) per).wr (Key.tpoWidthNs k) wid

theorem State.pulseWritten_low_off {s : State} {k : Nat} (h : s.rd (Key.tpoMode k) = 0) : s.pulseWritten k false = s := by
  rw [State.pulseWritten]
  simp only [Bool.false_eq_true, if_false]
  rw [if_pos h]

theorem tpoParamWrite_stores {k : Fin 4} {start : Time80} {per wid : Nat} {s : State} (hn : start.ns < 1000000000)
    (hsec : start.sec < 2 ^ 48) (hp : 1000 ≤ per) (hp' : per ≤ 1000000000) (hw : 8 ≤ wid) (hw' : wid ≤ per - 8)
    (hm : s.rd (Key.tpoMode k) = 0) : Gives (exec (.tpoParamWrite k start per wid) s) fun t =>
      t.rd (Key.tpoStart k) = timeRaw start ∧ t.rd (Key.tpoPeriodNs k) = per ∧ t.rd (Key.tpoWidthNs k) = wid ∧ t.pulses = s.pulses := by
  have hper : max 1000 (min 1000000000 per) = per := by omega
  have hwid : max 8 (min (per - 8) wid) = wid := by omega
  have hmode : (s.pulseSet k start per wid).rd (Key.tpoMode k) = 0 := by
    rw [State.pulseSet, State.rd_wr_of_fam _ _ (by simp), State.rd_wr_of_fam _ _ (by simp), State.rd_wr_of_fam _ _ (by simp), hm]
  have he : exec (.tpoParamWrite k start per wid) s = .next ((s.pulseSet k start per wid).pulseWritten k false) := by
    rw [exec_tpoParamWrite, execTpoParamWrite]
    simp only [hper, hwid, Nat.mod_eq_of_lt hsec, if_neg (Nat.not_le.mpr hn), State.pulseSet]
  rw [he, State.pulseWritten_low_off hmode, gives_next, State.pulseSet]
  refine ⟨?_, ?_, State.rd_wr_self .., by simp only [State.wr_keeps ..]⟩
  · rw [State.rd_wr_of_fam _ _ (by simp), State.rd_wr_of_fam _ _ (by simp), State.rd_wr_self]
  · rw [State.rd_wr_of_fam _ _ (by simp), State.rd_wr_self]

/-! ### Rise and fall (R449) -/

theorem State.pulse_advance (s : State) (dt k : Nat) : (s.advance dt).pulse k = s.pulse k := by simp only [State.advance_keeps ..]

theorem tpoRise_rises {k : Fin 4} {dt at_ : Nat} {p : PulseSet} {s : State} (hr : (s.pulse k).run = some p)
    (hn : (s.pulse k).next = some at_) (hf : (s.pulse k).fallAt = none) (ht : at_ ≤ (s.advance dt).nowNs) :
    Gives (exec (.tpoRise k dt) s) fun t => (t.pulse k).fallAt = some ((s.advance dt).elapsed + (p.widthNs + 3) / 4) ∧
      t.pins.tpo.getD k false = true ∧ (p.mode ≠ 2 → (t.pulse k).next = none) ∧ t.buckle.edges = s.buckle.edges ++ [4 + k.val] := by
  have hp := s.pulse_advance dt k
  have he : (s.advance dt).buckle.edges = s.buckle.edges := by simp only [State.advance_keeps ..]
  rw [exec_tpoRise, execTpoRise, gives_next, ← he]
  rw [← hp] at hr hn hf
  generalize s.advance dt = u at hr hn hf ht ⊢
  rw [State.pulseFire]
  simp only [hr, hn, hf, if_neg (Nat.not_lt.mpr ht)]
  rw [State.pulse_setPulse_self _ _ k.isLt, State.tpo_setPulse, State.edges_setPulse_rise hf rfl]
  exact ⟨rfl, rfl, fun h => if_neg h, rfl⟩

theorem tpoRise_early {k : Fin 4} {dt at_ : Nat} {s : State} (hn : (s.pulse k).next = some at_) (ht : (s.advance dt).nowNs < at_) :
    Gives (exec (.tpoRise k dt) s) fun t => t = s.advance dt := by
  rw [← s.pulse_advance dt k] at hn
  rw [exec_tpoRise, execTpoRise, gives_next]
  generalize s.advance dt = u at hn ht ⊢
  rw [State.pulseFire]
  cases (u.pulse k).run with
  | none => rfl
  | some p => simp only [hn, if_pos ht]

theorem tpoFall_falls {k : Fin 4} {dt f : Nat} {p : PulseSet} {s : State} (hf : (s.pulse k).fallAt = some f)
    (ht : f ≤ (s.advance dt).elapsed) (hr : (s.pulse k).run = some p) (hm : p.mode = 2) (ha : (s.pulse k).arming = false)
    (hw : (s.pulse k).waiting = false) : Gives (exec (.tpoFall k dt) s) fun t =>
      (t.pulse k).fallAt = none ∧ (t.pulse k).next = (s.pulse k).next ∧ t.pins.tpo.getD k true = false := by
  rw [exec_tpoFall, execTpoFall]
  rw [← s.pulse_advance dt k] at hf hr ha hw ⊢
  generalize s.advance dt = u at hf hr ha hw ht ⊢
  have hfall : u.pulseFall k = u.setPulse k { u.pulse k with fallAt := none } := by
    rw [State.pulseFall]
    simp only [hr, ha, hw, hm]
    rfl
  simp only [hf, if_pos ht]
  rw [gives_next, hfall, State.pulse_setPulse_self _ _ k.isLt, State.tpo_setPulse]
  exact ⟨rfl, rfl, rfl⟩

theorem tpoFall_early {k : Fin 4} {dt f : Nat} {s : State} (hf : (s.pulse k).fallAt = some f) (ht : (s.advance dt).elapsed < f) :
    Gives (exec (.tpoFall k dt) s) fun t => t = s.advance dt := by
  rw [exec_tpoFall, execTpoFall]
  rw [← s.pulse_advance dt k] at hf
  simp only [hf, if_neg (Nat.not_le.mpr ht)]
  rw [gives_next]

/-- Settles O37: an output is armed where its instant can still be met, rises there and falls after its width. -/
theorem pulseOutputs : Obligations.PulseOutputs := by
  unfold Obligations.PulseOutputs
  exact ⟨fun _ _ => tpoArm_once, fun _ _ => tpoArm_late, tpoArm_off, fun _ _ _ => tpoArm_high, fun _ _ _ _ _ => tpoParamWrite_stores,
    fun _ _ _ _ _ => tpoRise_rises, fun _ _ _ _ => tpoRise_early, fun _ _ _ _ _ => tpoFall_falls, fun _ _ _ _ => tpoFall_early⟩

end Sys2Proof.Machine
end

section
/-! Proofs of the family 'other', chapter 11: the strap queues. -/

namespace Sys2Proof.Machine

/-! ### The items of a queue and their order (R309, R310) -/

/-- The items of a strap queue, oldest first. -/
def StrapQ.all (x : StrapQ) : List StrapItem := x.head ++ x.mid ++ x.tail

/-- Passing items of the tail to the head keeps the order, the middle, the welt and the numbering. -/
theorem passToHead_keeps (n : Nat) (x : StrapQ) : (passToHead n x).all = x.all ∧ (passToHead n x).mid = x.mid ∧
    (passToHead n x).welt = x.welt ∧ (passToHead n x).nextSeq = x.nextSeq := by
  induction n generalizing x with
  | zero => exact ⟨rfl, rfl, rfl, rfl⟩
  | succ n ih =>
    rw [passToHead]
    split
    case isFalse => exact ⟨rfl, rfl, rfl, rfl⟩
    case isTrue h =>
      have hm : x.mid = [] := by simpa using (Bool.and_eq_true_iff.mp h).1
      split
      case h_2 => exact ⟨rfl, rfl, rfl, rfl⟩
      case h_1 i rest ht =>
        split
        case isFalse => exact ⟨rfl, rfl, rfl, rfl⟩
        case isTrue =>
          obtain ⟨hall, hmid, hwelt, hseq⟩ := ih { x with head := x.head ++ [i], tail := rest }
          refine ⟨hall.trans ?_, hmid, hwelt, hseq⟩
          simp [StrapQ.all, hm, ht]

/-- Words that go to the middle keep the order and the welt. -/
theorem wordsToMiddle_keeps (fuel n : Nat) (x : StrapQ) : (wordsToMiddle fuel n x).all = x.all ∧
    (wordsToMiddle fuel n x).welt = x.welt := by
  induction fuel generalizing n x with
  | zero => exact ⟨rfl, rfl⟩
  | succ fuel ih =>
    rw [wordsToMiddle]
    split
    case h_2 => exact ⟨rfl, rfl⟩
    case h_1 i rest ht =>
      split
      case isFalse => exact ⟨rfl, rfl⟩
      case isTrue =>
        obtain ⟨hall, hwelt⟩ := ih (x.part + n - i.words) { x with mid := x.mid ++ [i], part := 0, tail := rest }
        refine ⟨hall.trans ?_, hwelt⟩
        simp [StrapQ.all, ht]

/-- Items that come back from the middle are its first ones. -/
theorem middleToHead_takes (fuel got : Nat) (x : StrapQ) : ∃ l, x.mid = l ++ (middleToHead fuel got x).mid ∧
    (middleToHead fuel got x).tail = x.tail := by
  induction fuel generalizing got x with
  | zero => exact ⟨[], rfl, rfl⟩
  | succ fuel ih =>
    rw [middleToHead]
    split
    case h_2 => exact ⟨[], rfl, rfl⟩
    case h_1 i rest hm =>
      split
      case isFalse => exact ⟨[], rfl, rfl⟩
      case isTrue =>
        obtain ⟨l, hl, ht⟩ := ih (got + i.words) { x with head := x.head ++ [i], mid := rest }
        refine ⟨i :: l, ?_, ht⟩
        rw [hm, List.cons_append, ← hl]

/-- An item that fits the head comes back from the middle. -/
theorem middleToHead_first {fuel : Nat} {x : StrapQ} {i : StrapItem} {rest : List StrapItem} (hm : x.mid = i :: rest)
    (hw : itemWords x.head + i.words ≤ 64) : ∃ l, x.mid = i :: l ++ (middleToHead (fuel + 1) 0 x).mid := by
  rw [middleToHead, hm]
  simp only [true_or, hw, and_self, if_true]
  obtain ⟨l, hl, -⟩ := middleToHead_takes fuel (0 + i.words) { x with head := x.head ++ [i], mid := rest }
  exact ⟨l, by rw [List.cons_append, ← hl]⟩

theorem StrapQ.closeWelt_of_none {x : StrapQ} (h : x.welt = none) (now : Nat) : x.closeWelt now = x := by
  rw [StrapQ.closeWelt, h]

theorem StrapQ.closeWelt_of_some {x : StrapQ} {seq : Nat} {w : Welt} (h : x.welt = some (seq, w)) (now : Nat) :
    x.closeWelt now = { x with tail := x.tail ++ [w.item seq now], welt := none } := by
  rw [StrapQ.closeWelt, h]

/-- A read of the middle without a failure poisons nothing. -/
theorem poisonItems_nil (l : List StrapItem) : poisonItems [] l = l := by
  simp only [poisonItems, List.any_nil, Bool.false_eq_true, if_false]
  exact List.map_snd_zip (by simp)

/-! ### Pushes (R309, R312, R313) -/

theorem State.strap_setCause (s : State) (c r : Nat) : (s.setCause c).strap r = s.strap r := by
  rw [State.setCause]
  split <;> rfl

theorem State.strap_strapPush_ne {s : State} {q r : Nat} (h : r ≠ q) (w : Nat) (data : Bytes) (kind : Nat) :
    (s.strapPush q w data kind).strap r = s.strap r := by
  rw [State.strapPush]
  split
  · simp only [State.bump_keeps ..]
  · split
    · simp only [State.strapDrop]
      split
      · rw [State.strap_setStrap, if_neg h]
        simp only [State.bump_keeps ..]
      · rw [State.strap_setStrap, if_neg h]
        simp only [State.bump_keeps ..]
    · simp only
      split
      · rw [State.strap_setCause, State.strap_setStrap, if_neg h]
      · rw [State.strap_setStrap, if_neg h]

/-- A push leaves the middle of every queue. -/
theorem State.mid_strapPush (s : State) (q r w : Nat) (data : Bytes) (kind : Nat) :
    ((s.strapPush q w data kind).strap r).mid = (s.strap r).mid := by
  by_cases h : r = q
  case neg => rw [State.strap_strapPush_ne h]
  case pos =>
    subst h
    rw [State.strapPush]
    split
    · simp only [State.bump_keeps ..]
    · split
      · simp only [State.strapDrop]
        split <;> rw [State.strap_setStrap_self]
      · have hc : ((s.strap r).closeWelt s.elapsed).mid = (s.strap r).mid := by
          rw [StrapQ.closeWelt]
          split <;> rfl
        simp only
        split
        · rw [State.strap_setCause, State.strap_setStrap_self, (passToHead_keeps ..).2.1, hc]
        · rw [State.strap_setStrap_self, (passToHead_keeps ..).2.1, hc]

theorem State.strap_logErr_ne {r : Nat} (h : r ≠ 1) (s : State) (e : ErrEntry) (x : Bytes) : (s.logErr e x).strap r = s.strap r := by
  have hj : ((s.run32 Key.errTotal).journalAdd (.err e)).strap r = s.strap r := rfl
  rw [State.logErr]
  simp only
  split
  · simp only [State.bump_keeps ..]
    exact hj
  · split <;> simp only [State.raise_keeps ..] <;> rw [State.strap_strapPush_ne h] <;> exact hj

theorem State.mid_logErr (s : State) (e : ErrEntry) (x : Bytes) (r : Nat) : ((s.logErr e x).strap r).mid = (s.strap r).mid := by
  have hj : ((s.run32 Key.errTotal).journalAdd (.err e)).strap r = s.strap r := rfl
  rw [State.logErr]
  simp only
  split
  · simp only [State.bump_keeps ..]
    exact congrArg StrapQ.mid hj
  · split <;> simp only [State.raise_keeps ..] <;> rw [State.mid_strapPush] <;> exact congrArg StrapQ.mid hj

theorem State.strap_post_ne {r : Nat} (h : r ≠ 1) (s : State) (c : Err) (src a a2 d : Nat) : (s.post c src a a2 d).strap r = s.strap r :=
  State.strap_logErr_ne h ..

theorem State.mid_post (s : State) (c : Err) (src a a2 d r : Nat) : ((s.post c src a a2 d).strap r).mid = (s.strap r).mid :=
  State.mid_logErr ..

theorem strapPush_taken {q : Fin 64} {words : Nat} {data : Bytes} {s : State} (hq : q.val ≠ 0) (h1 : 1 ≤ words) (h2 : words ≤ 16)
    (hf : s.strapFull q words = false) (hw : (s.strap q).welt = none) : Gives (exec (.strapPush q words data) s) fun t =>
      (t.strap q).nextSeq = ((s.strap q).nextSeq + 1) % 4294967296 ∧ ∃ i, (t.strap q).all = (s.strap q).all ++ [i] ∧
        i.words = words ∧ i.data = data ∧ i.seq = (s.strap q).nextSeq ∧ i.kind = 0 := by
  rw [exec_strapPush, execStrapPush, if_neg hq, gives_next, State.strapPush, if_neg (by omega), if_neg (by rw [hf]; exact nofun),
    StrapQ.closeWelt_of_none hw]
  have hset (x : StrapQ) : ((if 1 ≤ q.val ∧ q.val ≤ 3 then (s.setStrap q x).setCause (64 + q) else s.setStrap q x).strap q) = x := by
    split
    · rw [State.strap_setCause, State.strap_setStrap_self]
    · rw [State.strap_setStrap_self]
  simp only [hset]
  obtain ⟨hall, -, -, hseq⟩ := passToHead_keeps 65 { s.strap q with
    tail := (s.strap q).tail ++ [⟨0, false, words, (s.strap q).nextSeq, data, s.elapsed⟩],
    nextSeq := ((s.strap q).nextSeq + 1) % 4294967296 }
  refine ⟨hseq, ⟨0, false, words, (s.strap q).nextSeq, data, s.elapsed⟩, hall.trans ?_, rfl, rfl, rfl, rfl⟩
  simp [StrapQ.all]

theorem strapPush_full {q : Fin 64} {words : Nat} {data : Bytes} {s : State} (hq : q.val ≠ 0) (h1 : 1 ≤ words) (h2 : words ≤ 16)
    (hf : s.strapFull q words = true) : Gives (exec (.strapPush q words data) s) fun t =>
      (t.strap q).head = (s.strap q).head ∧ (t.strap q).mid = (s.strap q).mid ∧ (t.strap q).tail = (s.strap q).tail ∧
        (t.strap q).welt ≠ none ∧ t.rd (Key.sqLost q) = satAdd u32Max (s.rd (Key.sqLost q)) 1 := by
  rw [exec_strapPush, execStrapPush, if_neg hq, gives_next, State.strapPush, if_neg (by omega), if_pos hf, State.strapDrop]
  split
  · rw [State.strap_setStrap_self]
    refine ⟨rfl, rfl, rfl, nofun, ?_⟩
    simp only [State.setStrap_keeps ..]
    exact State.rd_bump_self ..
  · rw [State.strap_setStrap_self]
    refine ⟨rfl, rfl, rfl, nofun, ?_⟩
    simp only [State.setStrap_keeps ..]
    rw [State.rd_bump_of_fam _ _ (by simp)]
    exact State.rd_bump_self ..

/-! ### The engine of the middle (R310, R312) -/

/-- A queue that was replaced by one of the same items and the same welt; every other queue is as it was. -/
def State.SameItems (s t : State) (q : Nat) : Prop := (t.strap q).all = (s.strap q).all ∧
  (t.strap q).welt = (s.strap q).welt ∧ ∀ r, r ≠ q → t.strap r = s.strap r

theorem State.sameItems_setStrap {s u : State} {q : Nat} {x : StrapQ} (hu : ∀ r, u.strap r = s.strap r)
    (hx : x.all = (s.strap q).all ∧ x.welt = (s.strap q).welt) : s.SameItems (u.setStrap q x) q :=
  ⟨by rw [State.strap_setStrap_self]; exact hx.1, by rw [State.strap_setStrap_self]; exact hx.2,
    fun r hr => by rw [State.strap_setStrap, if_neg hr, hu]⟩

theorem State.SameItems.of_straps {s t u : State} {q : Nat} (h : s.SameItems t q) (hu : ∀ r, u.strap r = t.strap r) : s.SameItems u q := by
  simp only [State.SameItems, hu]
  exact h

theorem strapMiddleWrite_moves (q : Fin 64) (dt : Nat) (s : State) :
    Gives (exec (.strapMiddleWrite q dt) s) fun t => s.SameItems t q := by
  rw [exec_strapMiddleWrite, execStrapMiddleWrite, gives_next]
  have ha (r : Nat) : (s.advance dt).strap r = s.strap r := by simp only [State.advance_keeps ..]
  generalize s.advance dt = u at ha ⊢
  obtain ⟨hall, -, hwelt, -⟩ := passToHead_keeps 65 (u.strap q)
  rw [ha] at hall hwelt
  have hpass : (passToHead 65 (u.strap q)).all = (s.strap q).all ∧ (passToHead 65 (u.strap q)).welt = (s.strap q).welt := by
    rw [ha]
    exact ⟨hall, hwelt⟩
  simp only
  split
  · exact State.sameItems_setStrap ha hpass
  · have hg (r : Nat) : (u.flushGrant (64 * u.middleWords (passToHead 65 (u.strap q)))).1.strap r = s.strap r := by
      rw [← ha]
      simp only [State.flushGrant_keeps ..]
    split
    · obtain ⟨hall', hwelt'⟩ := wordsToMiddle_keeps 65 (u.middleWords (passToHead 65 (u.strap q))) (passToHead 65 (u.strap q))
      exact State.sameItems_setStrap hg ⟨hall'.trans hpass.1, hwelt'.trans hpass.2⟩
    · refine (State.sameItems_setStrap hg hpass).of_straps fun r => ?_
      simp only [State.wheelEnter_keeps ..]

/-- A read of the middle without a failure brings its first items to the head. -/
theorem strapMiddleRead_moves (q : Fin 64) (s : State) : Gives (exec (.strapMiddleRead q []) s) fun t =>
    (t.strap q).all = (s.strap q).all ∧ ∀ r, r ≠ q.val → t.strap r = s.strap r := by
  rw [exec_strapMiddleRead, execStrapMiddleRead, gives_next]
  simp only [meetItems, List.filter_nil, List.any_nil, Bool.false_eq_true, if_false, poisonItems_nil]
  split
  · exact ⟨rfl, fun _ _ => rfl⟩
  · have hw (r : Nat) : (s.wordsRead q []).strap r = s.strap r := by simp only [State.wordsRead_keeps ..]
    obtain ⟨l, hl, ht⟩ := middleToHead_takes 65 0 (s.strap q)
    refine ⟨?_, fun r hr => ?_⟩
    · rw [State.strap_setStrap_self, (passToHead_keeps ..).1, StrapQ.all, StrapQ.all]
      simp only [ht]
      have hlen : (s.strap q).mid.length - (middleToHead 65 0 (s.strap q)).mid.length = l.length := by
        rw [hl, List.length_append, Nat.add_sub_cancel]
      rw [hlen]
      conv => rhs; rw [hl]
      conv => lhs; rw [hl]
      simp
    · rw [State.strap_setStrap, if_neg hr, hw]

/-! ### Resets and welts (R313, R318, R319) -/

/-- A reset puts all that the queue held into a welt. -/
theorem State.resetStrap_resets {q : Nat} (hq : 2 ≤ q) (s : State) : ((s.resetStrap q).strap q).head = [] ∧
    ((s.resetStrap q).strap q).mid = [] ∧ ((s.resetStrap q).strap q).tail = [] ∧ ((s.resetStrap q).strap q).welt ≠ none ∧
    (s.resetStrap q).rd (Key.sqResets q) = satAdd u32Max (s.rd (Key.sqResets q)) 1 ∧
    Posted s (s.resetStrap q) .sqReset (0x4110 + q) := by
  have hs : ∃ w, (s.resetStrap q).strap q = { StrapQ.empty with
      welt := some ((s.strap q).nextSeq, w), nextSeq := ((s.strap q).nextSeq + 1) % 4294967296 } := by
    simp only [State.resetStrap, State.sqPost]
    rw [State.strap_post_ne (by omega)]
    simp only [State.bump_keeps .., State.strap_setStrap_self]
    exact ⟨_, rfl⟩
  obtain ⟨w, hs⟩ := hs
  rw [hs]
  refine ⟨rfl, rfl, rfl, nofun, ?_, ?_⟩
  · simp only [State.resetStrap, State.sqPost]
    rw [State.post_rd (by simp), State.rd_bump_of_fam _ _ (by simp), State.rd_bump_self, State.rd_bump_of_fam _ _ (by simp)]
    simp only [State.setStrap_keeps ..]
  · simp only [State.resetStrap, State.sqPost]
    refine .of_post ?_ ..
    simp only [State.bump_keeps .., State.setStrap_keeps ..]

/-- A read that loses the header of an item resets the queue. -/
theorem strapMiddleRead_header {q : Fin 64} {i : StrapItem} {rest : List StrapItem} {fails : List WordFail} {s : State}
    (hq : 2 ≤ q.val) (hup : s.sbUp = true) (hh : itemWords (s.strap q).head ≤ 32) (hm : (s.strap q).mid = i :: rest)
    (hf : ∃ w, w ∈ fails ∧ w.item = 0 ∧ w.word < i.words ∧ failHead w = true) (hw : itemWords (s.strap q).head + i.words ≤ 64) :
    Gives (exec (.strapMiddleRead q fails) s) fun t => (t.strap q).head = [] ∧ (t.strap q).mid = [] ∧ (t.strap q).tail = [] ∧
      (t.strap q).welt ≠ none ∧ t.rd (Key.sqResets q) = satAdd u32Max (s.rd (Key.sqResets q)) 1 := by
  rw [exec_strapMiddleRead, execStrapMiddleRead, gives_next]
  have hgo : ¬ (q.val = 0 ∨ (!s.sbUp) = true ∨ 32 < itemWords (s.strap q).head ∨ (s.strap q).mid.isEmpty = true) := by
    rw [hup, hm]
    simp
    omega
  obtain ⟨l, hl⟩ := middleToHead_first (fuel := 64) hm hw
  have hgot : (s.strap q).mid.take ((s.strap q).mid.length - (middleToHead 65 0 (s.strap q)).mid.length) = i :: l := by
    have hlen : (s.strap q).mid.length - (middleToHead 65 0 (s.strap q)).mid.length = (i :: l).length := by
      rw [hl, List.length_append, Nat.add_sub_cancel]
    rw [hlen, hl, List.take_left]
  obtain ⟨w, hmem, hitem, hword, hfail⟩ := hf
  have hany : (meetItems ((i :: l).map (·.words)) fails).any failHead = true := by
    refine List.any_eq_true.mpr ⟨w, List.mem_filter.mpr ⟨hmem, ?_⟩, hfail⟩
    simp [hitem, hword]
  simp only [if_neg hgo, hgot, hany, if_true]
  obtain ⟨hhead, hmid, htail, hwelt, hres, -⟩ :=
    (s.wordsRead q (meetItems ((i :: l).map (·.words)) fails)).resetStrap_resets hq
  refine ⟨hhead, hmid, htail, hwelt, hres.trans ?_⟩
  rw [State.wordsRead, State.rd_bump_of_fam _ _ (by simp), State.rd_bump_of_fam _ _ (by simp)]

theorem weltClose_closes {q : Fin 64} {r dt seq : Nat} {w : Welt} {s : State} (hq : q.val ≠ 0) (hw : (s.strap q).welt = some (seq, w))
    (hd : w.lastAt + ms 1 ≤ (s.advance dt).elapsed) : Gives (exec (.weltClose q r dt) s) fun t =>
      (t.strap q).welt = none ∧ (t.strap q).all = (s.strap q).all ++ [w.item seq (s.advance dt).elapsed] := by
  have ha : (s.advance dt).strap q = s.strap q := by simp only [State.advance_keeps ..]
  rw [exec_weltClose, execWeltClose, gives_next]
  simp only [if_neg hq, ha, hw, if_pos hd, StrapQ.closeWelt_of_some hw, State.strap_setStrap_self]
  obtain ⟨hall, -, hwelt, -⟩ := passToHead_keeps 65 { s.strap q with
    tail := (s.strap q).tail ++ [w.item seq (s.advance dt).elapsed], welt := none }
  refine ⟨hwelt, hall.trans ?_⟩
  simp [StrapQ.all]

theorem pointerMismatch_node {r : Nat} {s : State} (hc : s.sb.compare = true) :
    Gives (exec (.pointerMismatch 0 r) s) fun t => (t.nodeQ r).frames = [] := by
  rw [exec_pointerMismatch, execPointerMismatch, gives_next, hc]
  simp only [Bool.not_true, Bool.false_eq_true, if_false, Fin.val_zero, if_true, State.resetNodeQ, State.sqPost]
  simp only [State.post_keeps .., State.bump_keeps .., State.nodeQ_setNodeQ_self]

/-- Settles O26: what moves between the parts of a queue keeps its order, and what is lost stands in a welt. -/
theorem strapQueues : Obligations.StrapQueues := by
  unfold Obligations.StrapQueues
  refine ⟨fun q words data s hq h1 h2 hf hw => strapPush_taken hq h1 h2 hf hw, fun q words data s hq h1 h2 hf => strapPush_full hq h1 h2 hf,
    fun words data s => ?_, strapMiddleWrite_moves, strapMiddleRead_moves,
    fun q i rest fails s hq hup hh hm hf hw => strapMiddleRead_header hq hup hh hm hf hw,
    fun q r dt seq w s hq hw hd => weltClose_closes hq hw hd, fun q r s hc => ?_, fun q r s hc hq => ?_,
    fun r s hc => pointerMismatch_node hc⟩
  · rw [exec_strapPush, execStrapPush, if_pos (show ((0 : Fin 64) : Nat) = 0 from rfl), gives_next]
  · rw [exec_pointerMismatch, execPointerMismatch, hc, gives_next]
    rfl
  · obtain ⟨hhead, hmid, htail, -, hres, hpost⟩ := s.resetStrap_resets hq
    have hq0 : ¬ q.val = 0 := by omega
    rw [exec_pointerMismatch, execPointerMismatch, hc, gives_next]
    simp only [Bool.not_true, Bool.false_eq_true, if_false, if_neg hq0]
    exact ⟨hhead, hmid, htail, hres, hpost⟩

end Sys2Proof.Machine
end

section
/-! Proofs of the family 'other', chapter 11: the Saddlebag link and the accesses it serves. -/

namespace Sys2Proof.Machine

/-! ### The link's state (Table 11-1) -/

theorem State.rd_setSbLink (s : State) (x j : Nat) : (s.setSbLink x).rd j = if j = Key.sbLinkState then x else s.rd j :=
  State.rd_wrEdge ..

theorem State.sbLink_setSbLink (s : State) (x : Nat) : (s.setSbLink x).sbLink = x := by
  rw [State.sbLink, State.rd_setSbLink, if_pos rfl]

theorem State.rd_setSbLink_of_fam {s : State} {x j : Nat} (h : Key.fam j ≠ Key.fam Key.sbLinkState) :
    (s.setSbLink x).rd j = s.rd j := by
  rw [State.rd_setSbLink, if_neg fun e => h (congrArg Key.fam e)]

theorem State.setSbLink_leaves (s : State) (x : Nat) : (s.setSbLink x).sb = { s.sb with since := s.elapsed } := by
  rw [State.setSbLink, State.wrEdge]
  simp only
  split <;> rfl

/-- Time that passes leaves the link. -/
theorem State.link_advance (s : State) (dt : Nat) : (s.advance dt).sb = s.sb ∧ (s.advance dt).sbLink = s.sbLink ∧
    (s.advance dt).cores = s.cores := by simp only [State.sbLink, State.advance_keeps .., and_self]

theorem cxlTrainingStart_starts {dt : Nat} {s : State} (h0 : s.sbLink = 0)
    (hd : (s.sb.fresh = true ∧ s.cores.core ≠ []) ∨ s.sb.since + ms 1000 ≤ (s.advance dt).elapsed) :
    Gives (exec (.cxlTrainingStart dt) s) fun t => t.sbLink = 1 ∧ t.sb.since = (s.advance dt).elapsed ∧ t.sb.fresh = false := by
  obtain ⟨hsb, hlink, hcores⟩ := s.link_advance dt
  rw [exec_cxlTrainingStart, execCxlTrainingStart, gives_next]
  rw [← hsb, ← hcores] at hd
  rw [← hlink] at h0
  generalize s.advance dt = u at h0 hd ⊢
  have hdue : ((u.sb.fresh && !u.cores.core.isEmpty) || decide (u.sb.since + ms 1000 ≤ u.elapsed)) = true := by
    refine (Bool.or_eq_true _ _).mpr (hd.imp (fun h => ?_) decide_eq_true)
    simp [h.1, h.2]
  simp only [h0, hdue, and_self, if_true, State.sbLink_setSbLink, State.setSbLink_leaves]
  exact ⟨trivial, by simp only [State.elapsed], trivial⟩

/-- What training leaves of anything that posts, the layout, the journal, waiting accesses and the wheel do not change. -/
theorem State.sbTrained_follows {α : Type} (g : State → α) (s : State) (total lanes rate : Nat)
    (hp : ∀ (t : State) (c : Err) (src a a2 : Nat), g (t.post c src a a2) = g t) (hj : ∀ t : State, g t.journalResume = g t)
    (ha : ∀ t : State, g t.sbAdmit = g t) (hr : ∀ (t : State) (c : Nat), g (t.askRebuild c) = g t) :
    ∃ u : State, g (s.sbTrained total lanes rate) = g u.layoutAtUp.1 ∧ g u = g ((s.setSbLink 2).wr Key.sbAttached (min total (2 ^ 46))) ∧
      u.rd Key.sbAttached = min total (2 ^ 46) ∧ u.dom Key.sbLayout = s.dom Key.sbLayout := by
  have hite {p : Prop} [Decidable p] {a b : State} (h : g a = g b) : g (if p then a else b) = g b := by
    split
    · exact h
    · rfl
  have hite' {p : Prop} [Decidable p] {a b : State} (k : Nat) (h : a.rd k = b.rd k) : (if p then a else b).rd k = b.rd k := by
    split
    · exact h
    · rfl
  have hdom {p : Prop} [Decidable p] {a b : State} (k : Nat) (h : a.dom k = b.dom k) : (if p then a else b).dom k = b.dom k := by
    split
    · exact h
    · rfl
  rw [State.sbTrained]
  refine ⟨_, (hite (hr ..)).trans ((ha _).trans (hite (hj _))), (hite (hp ..)).trans (hite (hp ..)), ?_, ?_⟩
  · exact (hite' _ (State.post_rd (by simp))).trans ((hite' _ (State.post_rd (by simp))).trans (State.rd_wr_self ..))
  · refine (hdom _ (by simp only [State.post_keeps ..])).trans ((hdom _ (by simp only [State.post_keeps ..])).trans ?_)
    simp only [State.wr_keeps .., State.setSbLink_keeps ..]

theorem State.rd_sbTrained (s : State) (total lanes rate : Nat) : (s.sbTrained total lanes rate).sbLink = 2 ∧
    (s.sbTrained total lanes rate).rd Key.sbAttached = min total (2 ^ 46) := by
  have hrd (k : Nat) (h2 : Nums2.contains (Key.fam k) = false) (h69 : Nums69.contains (Key.fam k) = false)
      (h67 : Nums67.contains (Key.fam k) = false) : (s.sbTrained total lanes rate).rd k =
      ((s.setSbLink 2).wr Key.sbAttached (min total (2 ^ 46))).rd k := by
    obtain ⟨u, hu, hg, -, -⟩ := s.sbTrained_follows (fun t => t.rd k) total lanes rate (fun t c src a a2 => State.post_rd h2)
      (fun t => State.journalResume_rd h69) (fun t => by simp only [State.sbAdmit_keeps ..]) (fun t c => by simp only [State.askRebuild_keeps ..])
    exact hu.trans ((State.layoutAtUp_rd h67).trans hg)
  constructor
  · rw [State.sbLink, hrd _ (by simp) (by simp) (by simp), State.rd_wr_of_fam _ _ (by simp)]
    exact s.sbLink_setSbLink 2
  · rw [hrd _ (by simp) (by simp) (by simp), State.rd_wr_self]

/-- A layout that passes its check is taken. -/
theorem State.layout_sbTrained {s : State} {total : Nat} (lanes rate : Nat) (hd : s.dom Key.sbLayout ≠ [])
    (hok : layoutOk (s.dom Key.sbLayout) (min total (2 ^ 46)) = true) :
    (s.sbTrained total lanes rate).sb.layout = some (layoutRegions (s.dom Key.sbLayout)) := by
  obtain ⟨u, hu, -, hatt, hdom⟩ := s.sbTrained_follows (fun t => t.sb.layout) total lanes rate
    (fun t c src a a2 => by simp only [State.post_keeps ..]) (fun t => by simp only [State.journalResume_keeps ..])
    (fun t => by rw [State.sbAdmit]; split <;> rfl) (fun t c => by simp only [State.askRebuild_keeps ..])
  have hne : ¬ (s.dom Key.sbLayout).isEmpty = true := by simpa using hd
  refine hu.trans ?_
  rw [State.layoutAtUp]
  simp only [hatt, hdom, if_neg hne, if_pos hok]
  rfl

section
variable {ex : List Nat} {lanes rate dt : Nat} {s : State}

theorem cxlTrained_trains (h1 : s.sbLink = 1) (hf : linkFits ex lanes rate = true) (h50 : s.sb.since + ms 50 ≤ (s.advance dt).elapsed)
    (h500 : (s.advance dt).elapsed ≤ s.sb.since + ms 500) :
    exec (.cxlTrained ex lanes rate dt) s = .next ((s.advance dt).sbTrained (attachedBytes ex) lanes rate) := by
  obtain ⟨hsb, hlink, -⟩ := s.link_advance dt
  rw [exec_cxlTrained, execCxlTrained]
  simp only [hsb, hlink]
  rw [if_pos ⟨h1, h50, h500, hf⟩]

theorem cxlTrained_ignored (h1 : s.sbLink ≠ 1) : exec (.cxlTrained ex lanes rate dt) s = .next (s.advance dt) := by
  rw [exec_cxlTrained, execCxlTrained]
  simp only [(s.link_advance dt).2.1]
  rw [if_neg fun h => h1 h.1]

end

/-! ### Retraining (R302) -/

/-- The accesses that wait are admitted; nothing else moves. -/
theorem State.rd_sbAdmit (s : State) (k : Nat) : s.sbAdmit.rd k = s.rd k := by simp only [State.sbAdmit_keeps ..]

theorem cxlRetrainStart_starts {s : State} (h : s.sbUp = true) : Gives (exec .cxlRetrainStart s) fun t => t.sbLink = 3 ∧
    t.rd Key.cxlRetrains = satAdd u32Max (s.rd Key.cxlRetrains) 1 ∧ t.sb.outstanding = s.sb.outstanding := by
  rw [exec_cxlRetrainStart, execCxlRetrainStart, if_pos h, gives_next]
  refine ⟨?_, ?_, ?_⟩
  · rw [State.sbLink, State.rd_bump_of_fam _ _ (by simp)]
    exact s.sbLink_setSbLink 3
  · rw [State.rd_bump_self, State.rd_setSbLink_of_fam (by simp)]
  · simp only [State.bump_keeps ..]
    rw [s.setSbLink_leaves 3]

theorem cxlRetrainDone_ends {dt : Nat} {s : State} (h3 : s.sbLink = 3) (hd : (s.advance dt).elapsed ≤ s.sb.since + ms 50) :
    Gives (exec (.cxlRetrainDone dt) s) fun t => t.sbLink = 2 ∧
      t.rd Key.cxlReplayed = satAdd u32Max (s.rd Key.cxlReplayed) (min 256 s.sbRequests) := by
  obtain ⟨hsb, hlink, -⟩ := s.link_advance dt
  have hreq : (s.advance dt).sbRequests = s.sbRequests := by
    rw [State.sbRequests, State.sbRequests]
    simp only [State.advance_keeps ..]
  have hrd : (s.advance dt).rd Key.cxlReplayed = s.rd Key.cxlReplayed := by simp only [State.advance_keeps ..]
  rw [exec_cxlRetrainDone, execCxlRetrainDone, gives_next, hlink, hsb, if_pos ⟨h3, hd⟩]
  refine ⟨?_, ?_⟩
  · rw [State.sbLink, State.rd_sbAdmit, State.rd_bump_of_fam _ _ (by simp)]
    exact State.sbLink_setSbLink ..
  · rw [State.rd_sbAdmit, State.rd_bump_self, State.rd_setSbLink_of_fam (by simp), hrd, hreq]

/-! ### A failed retraining (R302, R320) -/

/-- A queue whose middle goes leaves the middle of every other queue. -/
theorem State.mid_loseMiddle (s : State) (q r : Nat) : ((s.loseMiddle q).strap r).mid = if r = q then [] else (s.strap r).mid := by
  simp only [State.loseMiddle]
  by_cases he : ((s.strap q).mid ++ if (s.strap q).part = 0 then [] else (s.strap q).tail.take 1).isEmpty = true
  · rw [if_pos he]
    split
    · next h =>
      rw [h]
      exact (List.append_eq_nil_iff.mp (List.isEmpty_iff.mp he)).1
    · rfl
  · rw [if_neg he, State.strap_setStrap]
    split
    · exact (passToHead_keeps ..).2.1
    · next h =>
      simp only [State.bump_keeps ..]
      rw [State.strap_setStrap, if_neg h]

/-- Once every queue of a list lost its middle, all their middles are empty. -/
theorem State.mid_each_loseMiddle {q : Nat} (h0 : q ≠ 0) (l : List Nat) (s : State) (h : (s.strap q).mid = [] ∨ q ∈ l) :
    ((s.each l fun s q => if q = 0 then s else s.loseMiddle q).strap q).mid = [] := by
  induction l generalizing s with
  | nil => exact h.resolve_right (List.not_mem_nil)
  | cons r l ih =>
    refine ih _ ?_
    by_cases hr : r = 0
    · subst hr
      exact h.imp_right fun hm => (List.mem_cons.mp hm).resolve_left h0
    · simp only [if_neg hr, State.mid_loseMiddle]
      by_cases hq : q = r
      · exact .inl (if_pos hq)
      · exact h.imp (fun hm => by rw [if_neg hq, hm]) fun hm => (List.mem_cons.mp hm).resolve_left hq

theorem State.mid_loseRings (s : State) (keep : Bool) (r : Nat) : ((s.loseRings keep).strap r).mid = (s.strap r).mid := by
  simp only [State.loseRings, State.sqPost]
  split
  · rfl
  · rw [State.mid_post]
    simp only [State.bump_keeps ..]
    refine (State.each_same (fun t => (t.strap r).mid) (fun t _ => by simp only [State.setNodeQ_keeps ..]) _ _).trans ?_
    exact State.each_same (fun t => (t.strap r).mid) (fun t _ => by simp only [State.reportFinal_keeps ..]) _ _

theorem State.mid_spillLost (s : State) (h c r : Nat) : ((s.spillLost h c).strap r).mid = (s.strap r).mid := by
  rw [State.spillLost]
  simp only
  split
  · rfl
  · rw [State.mid_post]
    simp only [State.bump_keeps .., State.setOutQ_keeps ..]
    exact State.each_same (fun t => (t.strap r).mid) (fun t _ => by simp only [State.reportFinal_keeps ..]) _ _

theorem State.mid_loseSpills (s : State) (r : Nat) : (s.loseSpills.strap r).mid = (s.strap r).mid :=
  State.each_same (fun t => (t.strap r).mid) (fun t _ => t.mid_spillLost ..) _ _

/-- The state in which the accesses were answered and the link is down. -/
def State.sbFailing (s : State) : State :=
  let gone : State := { s with sb := { s.sb with outstanding := [], waiting := [] } }
  let told := gone.each (s.sb.outstanding ++ s.sb.waiting) fun t u => t.sbReply u .retrainFail []
  ((told.setSbLink 0).bump Key.cxlFailed (min 512 s.sbRequests)).post .sbLinkDown 0x4101 (min 512 s.sbRequests)

/-- The state in which what the attached memory held is lost. -/
def State.sbLost (s : State) : State :=
  let cut := s.each (List.range 64) fun t q => if q = 0 then t else t.loseMiddle q
  let lost := (cut.loseRings (keepHeads := true)).loseSpills
  if lost.girth.sched.far.isEmpty then lost else (lost.askRebuild 2).loseFar

theorem State.sbLinkFail_eq (s : State) : s.sbLinkFail = s.sbFailing.sbLost.journalCut := by
  rw [State.sbLinkFail, State.sbFailing, State.sbLost]

theorem State.sbFailing_fails (s : State) : s.sbFailing.sbLink = 0 ∧ s.sbFailing.sb.outstanding = [] ∧ s.sbFailing.sb.waiting = [] ∧
    s.sbFailing.rd Key.cxlFailed = satAdd u32Max (s.rd Key.cxlFailed) (min 512 s.sbRequests) := by
  rw [State.sbFailing]
  generalize hg : ({ s with sb := { s.sb with outstanding := [], waiting := [] } } : State) = gone
  have hrd : (gone.each (s.sb.outstanding ++ s.sb.waiting) fun t u => t.sbReply u .retrainFail []).rd Key.cxlFailed = s.rd Key.cxlFailed := by
    refine (State.each_same (fun t => t.rd Key.cxlFailed) (fun t u => State.sbReply_rd (by simp)) _ _).trans ?_
    rw [← hg]
    rfl
  have hout : (gone.each (s.sb.outstanding ++ s.sb.waiting) fun t u => t.sbReply u .retrainFail []).sb.outstanding = [] := by
    refine (State.each_same (fun t => t.sb.outstanding) (fun t u => by simp only [State.sbReply_keeps ..]) _ _).trans ?_
    rw [← hg]
  have hwait : (gone.each (s.sb.outstanding ++ s.sb.waiting) fun t u => t.sbReply u .retrainFail []).sb.waiting = [] := by
    refine (State.each_same (fun t => t.sb.waiting) (fun t u => by simp only [State.sbReply_keeps ..]) _ _).trans ?_
    rw [← hg]
  generalize gone.each (s.sb.outstanding ++ s.sb.waiting) (fun t u => t.sbReply u .retrainFail []) = told at hrd hout hwait ⊢
  refine ⟨?_, ?_, ?_, ?_⟩
  · rw [State.sbLink, State.post_rd (by simp), State.rd_bump_of_fam _ _ (by simp)]
    exact told.sbLink_setSbLink 0
  · simp only [State.post_keeps .., State.bump_keeps ..]
    rw [told.setSbLink_leaves 0]
    exact hout
  · simp only [State.post_keeps .., State.bump_keeps ..]
    rw [told.setSbLink_leaves 0]
    exact hwait
  · rw [State.post_rd (by simp), State.rd_bump_self, State.rd_setSbLink_of_fam (by simp), hrd]

/-- What the loss of the attached memory leaves. -/
theorem State.sbLost_leaves {α : Type} (g : State → α) (hm : ∀ (t : State) (q : Nat), g (t.loseMiddle q) = g t)
    (hr : ∀ t : State, g (t.loseRings true) = g t) (hs : ∀ t : State, g t.loseSpills = g t)
    (hf : ∀ t : State, g (t.askRebuild 2).loseFar = g t) (s : State) : g s.sbLost = g s := by
  have he : g (s.each (List.range 64) fun t q => if q = 0 then t else t.loseMiddle q) = g s :=
    State.each_same g (fun t q => by split; exacts [rfl, hm t q]) s _
  rw [State.sbLost]
  split
  · rw [hs, hr, he]
  · rw [hf, hs, hr, he]

theorem State.mid_sbLost {q : Nat} (h0 : q ≠ 0) (h64 : q < 64) (s : State) : (s.sbLost.strap q).mid = [] := by
  have he := State.mid_each_loseMiddle h0 (List.range 64) s (.inr (List.mem_range.mpr h64))
  have hf (t : State) : ((t.askRebuild 2).loseFar.strap q).mid = (t.strap q).mid := by
    simp only [State.loseFar_keeps .., State.askRebuild_keeps ..]
  rw [State.sbLost]
  split
  · rw [State.mid_loseSpills, State.mid_loseRings, he]
  · rw [hf, State.mid_loseSpills, State.mid_loseRings, he]

theorem State.rd_sbLost {k : Nat} (h1 : Nums1.contains (Key.fam k) = false) (h8 : Nums8.contains (Key.fam k) = false)
    (h66 : Nums66.contains (Key.fam k) = false) (s : State) : s.sbLost.rd k = s.rd k :=
  State.sbLost_leaves (fun t => t.rd k) (fun _ _ => State.loseMiddle_rd h1) (fun _ => State.loseRings_rd h8)
    (fun _ => State.loseSpills_rd h66) (fun t => by simp only [State.loseFar_keeps .., State.askRebuild_keeps ..]) s

theorem State.sb_sbLost (s : State) : s.sbLost.sb.outstanding = s.sb.outstanding ∧ s.sbLost.sb.waiting = s.sb.waiting :=
  ⟨State.sbLost_leaves (fun t => t.sb.outstanding) (fun t q => by simp only [State.loseMiddle_keeps ..])
    (fun t => by simp only [State.loseRings_keeps ..]) (fun t => by simp only [State.loseSpills_keeps ..])
    (fun t => by simp only [State.loseFar_keeps .., State.askRebuild_keeps ..]) s,
   State.sbLost_leaves (fun t => t.sb.waiting) (fun t q => by simp only [State.loseMiddle_keeps ..])
    (fun t => by simp only [State.loseRings_keeps ..]) (fun t => by simp only [State.loseSpills_keeps ..])
    (fun t => by simp only [State.loseFar_keeps .., State.askRebuild_keeps ..]) s⟩

theorem State.sbLinkFail_loses (s : State) : s.sbLinkFail.sbLink = 0 ∧ s.sbLinkFail.sb.outstanding = [] ∧ s.sbLinkFail.sb.waiting = [] ∧
    s.sbLinkFail.sb.journal.flight = [] ∧ s.sbLinkFail.rd Key.cxlFailed = satAdd u32Max (s.rd Key.cxlFailed) (min 512 s.sbRequests) ∧
    ∀ q, 1 ≤ q → q < 64 → (s.sbLinkFail.strap q).mid = [] := by
  obtain ⟨hlink, hout, hwait, hfail⟩ := s.sbFailing_fails
  obtain ⟨ho, hw⟩ := s.sbFailing.sb_sbLost
  rw [State.sbLinkFail_eq]
  have hrd (t : State) (k : Nat) : t.journalCut.rd k = t.rd k := by simp only [State.journalCut_keeps ..]
  have hstrap (t : State) (q : Nat) : t.journalCut.strap q = t.strap q := by simp only [State.journalCut_keeps ..]
  have hsb (t : State) : t.journalCut.sb.outstanding = t.sb.outstanding ∧ t.journalCut.sb.waiting = t.sb.waiting ∧
      t.journalCut.sb.journal.flight = [] := ⟨rfl, rfl, rfl⟩
  obtain ⟨hco, hcw, hcf⟩ := hsb s.sbFailing.sbLost
  refine ⟨?_, hco.trans (ho.trans hout), hcw.trans (hw.trans hwait), hcf, ?_, fun q h1 h64 => ?_⟩
  · rw [State.sbLink, hrd, State.rd_sbLost (by simp) (by simp) (by simp)]
    exact hlink
  · rw [hrd, State.rd_sbLost (by simp) (by simp) (by simp), hfail]
  · rw [hstrap]
    exact State.mid_sbLost (by omega) h64 _

/-- Settles O24: the link moves by Table 11-1, and a retraining that fails loses what the attached memory held. -/
theorem saddlebagLink : Obligations.SaddlebagLink := by
  unfold Obligations.SaddlebagLink
  refine ⟨fun dt s h0 hd => cxlTrainingStart_starts h0 hd, fun dt s h0 => ?_, fun ex lanes rate dt s h1 hf h50 h500 => ?_,
    fun ex lanes rate dt s h1 hf h50 h500 hd hok => ?_, fun ex lanes rate dt s h1 => ?_, fun dt s h1 hd => ?_,
    fun s h => cxlRetrainStart_starts h, fun dt s h3 hd => cxlRetrainDone_ends h3 hd, fun dt s h3 hd => ?_⟩
  · rw [exec_cxlTrainingStart, execCxlTrainingStart, gives_next, (s.link_advance dt).2.1]
    exact if_neg fun h => h0 h.1
  · rw [cxlTrained_trains h1 hf h50 h500, gives_next]
    exact State.rd_sbTrained ..
  · have hdom : (s.advance dt).dom Key.sbLayout = s.dom Key.sbLayout := by simp only [State.advance_keeps ..]
    rw [cxlTrained_trains h1 hf h50 h500, gives_next, ← hdom]
    rw [← hdom] at hd hok
    exact State.layout_sbTrained lanes rate hd hok
  · rw [cxlTrained_ignored h1, gives_next]
  · obtain ⟨hsb, hlink, -⟩ := s.link_advance dt
    rw [exec_cxlTrainTimeout, execCxlTrainTimeout, gives_next, hlink, hsb, if_pos ⟨h1, hd⟩, State.sbLink_setSbLink]
  · obtain ⟨hsb, hlink, -⟩ := s.link_advance dt
    have hrd : (s.advance dt).rd Key.cxlFailed = s.rd Key.cxlFailed := by simp only [State.advance_keeps ..]
    have hreq : (s.advance dt).sbRequests = s.sbRequests := by
      rw [State.sbRequests, State.sbRequests]
      simp only [State.advance_keeps ..]
    have h := (s.advance dt).sbLinkFail_loses
    rw [hrd, hreq] at h
    rw [exec_cxlRetrainFail, execCxlRetrainFail, gives_next, hlink, hsb, if_pos ⟨h3, hd⟩]
    exact h

end Sys2Proof.Machine
end

section
/-! Proofs of the family 'other', chapter 11: the accesses that the Saddlebag serves. -/

namespace Sys2Proof.Machine

/-! ### What memory holds (R300) -/

theorem length_slice (bs : Bytes) (off n : Nat) : (slice bs off n).length = n := by
  simp only [slice, zeros, List.length_append, List.length_take, List.length_drop, List.length_replicate]
  omega

/-- A byte after a store: the store's where it reaches, else the old one. -/
theorem State.getD_sbStore (s : State) (off a : Nat) (bs : Bytes) : KMap.getD (s.sbStore off bs).sb.mem 0#8 a =
    if off ≤ a ∧ a < off + bs.length then bs.getD (a - off) 0#8 else KMap.getD s.sb.mem 0#8 a := by
  have hz : (List.range bs.length).zip bs = (List.range bs.length).map fun i => (i, bs.getD i 0#8) := by
    refine List.ext_getElem (by simp) fun i h1 h2 => ?_
    simp only [List.length_zip, List.length_range, Nat.min_self] at h1
    simp [h1]
  rw [State.sbStore, hz, List.foldl_map]
  refine (KMap.getD_foldl off (fun i => bs.getD i 0#8) bs.length s.sb.mem a).trans ?_
  rfl

theorem State.sbBytes_sbStore_self (s : State) (off : Nat) (bs : Bytes) : (s.sbStore off bs).sbBytes off bs.length = bs := by
  rw [State.sbBytes]
  refine List.ext_getElem (by simp) fun i h1 h2 => ?_
  simp only [List.length_map, List.length_range] at h1
  rw [List.getElem_map, List.getElem_range, State.getD_sbStore, if_pos (by omega), Nat.add_sub_cancel_left]
  exact (List.getElem_eq_getD _).symm

theorem State.sbBytes_sbStore_outside {off a : Nat} {bs : Bytes} (h : a < off ∨ off + bs.length ≤ a) (s : State) :
    (s.sbStore off bs).sbBytes a 1 = s.sbBytes a 1 := by
  simp only [State.sbBytes, List.range_one, List.map_cons, List.map_nil, Nat.add_zero, State.getD_sbStore]
  rw [if_neg (by omega)]

theorem State.sbBytes_congr {s t : State} (h : t.sb.mem = s.sb.mem) (off n : Nat) : t.sbBytes off n = s.sbBytes off n := by
  rw [State.sbBytes, State.sbBytes, h]

theorem State.sbAdmit_leaves (s : State) : s.sbAdmit.out = s.out ∧ s.sbAdmit.sb.mem = s.sb.mem ∧ ∀ k, s.sbAdmit.rd k = s.rd k := by
  simp only [State.sbAdmit_keeps .., and_self, implies_true]

/-! ### Accesses of the device's own (R300, R306) -/

/-- The state without the access of number k. -/
def State.sbTake (s : State) (k : Nat) : State := { s with sb := { s.sb with outstanding := removeAt k s.sb.outstanding } }

/-- An access that completes while the link is up. -/
theorem sbAccessDone_up {k : Nat} {e : Bool} {u : SbUser} {s : State} (ho : s.sb.outstanding[k]? = some u) (hup : s.sbUp = true) :
    exec (.sbAccessDone k e) s = .next (((s.sbTake k).sbFinish u (e && u.req.write.isNone)).sbAdmit) := by
  rw [exec_sbAccessDone, execSbAccessDone]
  simp only [ho, hup, Bool.not_true, Bool.false_eq_true, if_false]
  rfl

theorem State.rd_sbTake (s : State) (k j : Nat) : (s.sbTake k).rd j = s.rd j := State.rd_of_nums (by rfl) j

section
variable {k : Nat} {r : SbReq} {s : State} (ho : s.sb.outstanding[k]? = some (.own r)) (hup : s.sbUp = true)
include ho hup

theorem sbAccessDone_read (hw : r.write = none) (ha : sbOffset r.addr + r.len ≤ s.rd Key.sbAttached)
    (hopen : ∀ j, j < r.len → s.sbOpen (sbOffset r.addr + j) = false) : Gives (exec (.sbAccessDone k false) s) fun t =>
      t.out = .saddlebag 0 (some .ok) (s.sbBytes (sbOffset r.addr) r.len) :: s.out ∧ t.sb.mem = s.sb.mem := by
  have hany : (List.range r.len).any (fun i => (s.sbTake k).sbOpen (sbOffset r.addr + i)) = false :=
    List.any_eq_false.mpr fun i hi => by
      rw [show (s.sbTake k).sbOpen (sbOffset r.addr + i) = false from hopen i (List.mem_range.mp hi)]
      exact Bool.false_ne_true
  have hserve : (s.sbTake k).sbServe r = (s.sbTake k, .ok, s.sbBytes (sbOffset r.addr) r.len) := by
    rw [State.sbServe]
    simp only [State.rd_sbTake, if_neg (Nat.not_lt.mpr ha), hw, hany, Bool.false_eq_true, if_false]
    rfl
  rw [sbAccessDone_up ho hup, gives_next, State.sbFinish]
  simp only [Bool.false_and, Bool.false_eq_true, if_false, SbUser.req, hserve, State.sbReply]
  obtain ⟨hout, hmem, -⟩ := ((s.sbTake k).emit (.saddlebag 0 (some .ok) (s.sbBytes (sbOffset r.addr) r.len))).sbAdmit_leaves
  exact ⟨hout, hmem⟩

theorem sbAccessDone_write {bs : Bytes} (hw : r.write = some bs) (ha : sbOffset r.addr + r.len ≤ s.rd Key.sbAttached)
    (hres : s.sbReserved (sbOffset r.addr) r.len = false) : Gives (exec (.sbAccessDone k false) s) fun t =>
      t.out = .saddlebag 0 (some .ok) [] :: s.out ∧ t.sbBytes (sbOffset r.addr) r.len = slice bs 0 r.len ∧
        ∀ a, (a < sbOffset r.addr ∨ sbOffset r.addr + r.len ≤ a) → t.sbBytes a 1 = s.sbBytes a 1 := by
  have hserve : (s.sbTake k).sbServe r = ((s.sbTake k).sbStore (sbOffset r.addr) (slice bs 0 r.len), .ok, []) := by
    have hr : (s.sbTake k).sbReserved (sbOffset r.addr) r.len = false := hres
    rw [State.sbServe]
    simp only [State.rd_sbTake, if_neg (Nat.not_lt.mpr ha), hw, hr, Bool.false_eq_true, if_false]
  rw [sbAccessDone_up ho hup, gives_next, State.sbFinish]
  simp only [Bool.false_and, Bool.false_eq_true, if_false, SbUser.req, hserve, State.sbReply]
  have hlen := length_slice bs 0 r.len
  generalize slice bs 0 r.len = x at hlen ⊢
  obtain ⟨hout, hmem, -⟩ := (((s.sbTake k).sbStore (sbOffset r.addr) x).emit (.saddlebag 0 (some .ok) [])).sbAdmit_leaves
  refine ⟨hout, ?_, fun a h => ?_⟩
  · rw [State.sbBytes_congr hmem, ← hlen]
    exact State.sbBytes_sbStore_self ..
  · rw [State.sbBytes_congr hmem]
    exact State.sbBytes_sbStore_outside (by omega) (s.sbTake k)

theorem sbAccessDone_mediaError (hw : r.write = none) : Gives (exec (.sbAccessDone k true) s) fun t =>
    t.out = .saddlebag 0 (some .mediaError) [] :: s.out ∧ t.rd Key.sbMediaErr = satAdd u32Max (s.rd Key.sbMediaErr) 1 ∧
      t.sb.mem = s.sb.mem := by
  rw [sbAccessDone_up ho hup, gives_next, State.sbFinish]
  simp only [SbUser.req, hw, Option.isNone_none, Bool.and_self, if_true, State.sbReply]
  obtain ⟨hout, hmem, hrd⟩ := (((s.sbTake k).bump Key.sbMediaErr).emit (.saddlebag 0 (some .mediaError) [])).sbAdmit_leaves
  refine ⟨hout, (hrd _).trans ?_, hmem⟩
  refine (State.rd_of_nums (by rfl) _).trans ((State.rd_bump_self ..).trans ?_)
  rw [State.rd_sbTake]

end

theorem sbAccessDone_down {k : Nat} {e : Bool} {s : State} (hup : s.sbUp = false) : exec (.sbAccessDone k e) s = .next s := by
  rw [exec_sbAccessDone, execSbAccessDone, hup]
  split <;> rfl

/-! ### Requests of other devices (R35, R306) -/

section
variable {p : Side} {src tag : Nat} {r : SbReq} {s : State}

theorem sbReqRx_without_address (h : s.addr = 0xFF) : exec (.sbReqRx p src tag r) s = .next s := by
  rw [exec_sbReqRx, execSbReqRx, State.sbRequest, if_pos h]

theorem sbReqRx_refused (h : s.addr ≠ 0xFF) (hf : s.flag Key.sbRemoteServe = false ∨ s.sbLink ≤ 1) :
    exec (.sbReqRx p src tag r) s = .next (s.sendChain src 0 0 0 tag (.sbRsp .unmapped [])) := by
  rw [exec_sbReqRx, execSbReqRx, State.sbRequest, if_neg h]
  by_cases hs : s.flag Key.sbRemoteServe = true
  · rw [hs, if_neg (by decide), if_neg (by have := hf.resolve_left (by rw [hs]; decide); omega)]
    rfl
  · rw [if_pos (by simpa using hs)]
    rfl

theorem sbReqRx_served (h : s.addr ≠ 0xFF) (hf : s.flag Key.sbRemoteServe = true) (hup : s.sbUp = true) (hw : r.write = none)
    (ha : sbOffset r.addr + r.len ≤ s.rd Key.sbAttached) (hq : s.sb.waiting = []) (hl : s.sb.outstanding.length < 256) :
    Gives (exec (.sbReqRx p src tag r) s) fun t => t.sb.outstanding = s.sb.outstanding ++ [.remote p src tag r] := by
  have h2 : s.sbLink = 2 := beq_iff_eq.mp hup
  rw [exec_sbReqRx, execSbReqRx, State.sbRequest, if_neg h, hf, if_neg (by decide), if_pos (.inl h2)]
  simp only [hw, Option.isSome_none, Bool.false_and, Bool.or_false, decide_eq_false (Nat.not_lt.mpr ha), Bool.false_eq_true, if_false]
  rw [gives_next, State.sbAsk]
  have hup' : ({ s with sb := { s.sb with waiting := s.sb.waiting ++ [.remote p src tag r] } } : State).sbUp = true := hup
  rw [State.sbAdmit, hup']
  simp only [Bool.not_true, Bool.false_eq_true, if_false, hq, List.nil_append]
  rw [List.take_of_length_le (by simp; omega)]

end

/-- Settles O25: an access reads and writes exactly the bytes of its range, and one that may not be served is answered so. -/
theorem saddlebagAccess : Obligations.SaddlebagAccess := by
  unfold Obligations.SaddlebagAccess
  refine ⟨fun k r s ho hup hw ha hopen => sbAccessDone_read ho hup hw ha hopen,
    fun k r bs s ho hup hw ha hres => sbAccessDone_write ho hup hw ha hres, fun k r s ho hup hw => sbAccessDone_mediaError ho hup hw,
    fun k e s hup => ?_, fun p src tag r s h => ?_, fun p src tag r s h hf => ?_,
    fun p src tag r s h hf hup hw ha hq hl => sbReqRx_served h hf hup hw ha hq hl, fun p src tag r s h _ hl => ?_⟩
  · rw [sbAccessDone_down hup, gives_next]
  · rw [sbReqRx_without_address h, gives_next]
  · rw [sbReqRx_refused h (.inl hf), gives_next]
  · rw [sbReqRx_refused h (.inr hl), gives_next]
    exact ⟨by simp only [State.sendChain_keeps ..], by simp only [State.sendChain_keeps ..], rfl⟩

end Sys2Proof.Machine
end

section
/-! Proofs of the family 'other', chapter 16: the banks of the tree image. -/

namespace Sys2Proof.Machine

/-! ### Selection at a start (R421, R426) -/

/-- Every write of a bank that is of a trial, a rejection or a selection leaves the open windows, and a rejected bank stays rejected. -/
theorem State.trySeated_leaves (b : Nat) (l : List Nat) (s : State) (h : (s.bank b).st = .rejected) :
    ((s.trySeated l).bank b).st = .rejected ∧ (s.trySeated l).tree.window = s.tree.window := by
  induction l generalizing s with
  | nil => exact ⟨h, rfl⟩
  | cons c l ih =>
    rw [State.trySeated]
    split
    · exact ⟨h, rfl⟩
    · have hr : ((s.rejectBank c).bank b).st = .rejected := by
        have hn (t : State) (n : TreeNote) : (t.treeNote n).bank b = t.bank b := rfl
        rw [State.rejectBank, hn]
        by_cases hbc : (b = 1) = (c = 1)
        · have he : (s.setBank c { s.bank c with st := .rejected }).bank b = { s.bank c with st := .rejected } := by
            refine Eq.trans ?_ (s.bank_setBank_self c _)
            simp only [State.bank, hbc]
          rw [he]
        · rw [State.bank_setBank_ne _ _ hbc, h]
      have hw : (s.rejectBank c).tree.window = s.tree.window := by
        rw [State.rejectBank, State.treeNote, State.setBank]
        split <;> rfl
      obtain ⟨hst, hwin⟩ := ih _ hr
      exact ⟨hst, hwin.trans hw⟩

/-- The state in which a start has ended every trial. -/
def State.trialsEnded (s : State) : State :=
  (State.endTrial { s with tree := { s.tree with window := none, wiping := none } } 0).endTrial 1

/-- A bank as a start finds it: one on trial is rejected. -/
def Bank.ended (x : Bank) : Bank := if x.st = .trial then { x with st := .rejected } else x

theorem State.bank_endTrial (s : State) (b c : Nat) :
    (s.endTrial b).bank c = if (c = 1) = (b = 1) then (s.bank c).ended else s.bank c := by
  have hn (t : State) (n : TreeNote) : (t.treeNote n).bank c = t.bank c := rfl
  have hu (t : State) (k : Nat) : (t.bump k).bank c = t.bank c := rfl
  have hb (h : (c = 1) = (b = 1)) : s.bank c = s.bank b := by simp only [State.bank, h]
  rw [State.endTrial]
  by_cases ht : (s.bank b).st = .trial
  · simp only [if_pos ht]
    rw [hn, hu]
    by_cases h : (c = 1) = (b = 1)
    · rw [if_pos h, hb h, Bank.ended, if_pos ht]
      refine Eq.trans ?_ (s.bank_setBank_self b _)
      simp only [State.bank, h]
    · rw [if_neg h, State.bank_setBank_ne _ _ h]
  · simp only [if_neg ht]
    split
    · next h => rw [hb h, Bank.ended, if_neg ht]
    · rfl

theorem State.endTrial_leaves (s : State) (b : Nat) : (s.endTrial b).tree.window = s.tree.window ∧
    (s.endTrial b).tree.imageKey = s.tree.imageKey := by
  simp only [State.endTrial]
  split
  · rw [State.treeNote, State.bump, State.wr, State.setBank]
    split <;> exact ⟨rfl, rfl⟩
  · exact ⟨rfl, rfl⟩

theorem State.bank_trialsEnded (s : State) {b : Nat} (hb : b ≤ 1) : s.trialsEnded.bank b = (s.bank b).ended := by
  rw [State.trialsEnded, State.bank_endTrial, State.bank_endTrial]
  have hs : State.bank { s with tree := { s.tree with window := none, wiping := none } } b = s.bank b := rfl
  obtain rfl | rfl : b = 0 ∨ b = 1 := by omega
  · simp [hs]
  · simp [hs]

theorem State.trialsEnded_leaves (s : State) : s.trialsEnded.tree.window = none ∧ s.trialsEnded.tree.imageKey = s.tree.imageKey := by
  obtain ⟨hw1, hk1⟩ := State.endTrial_leaves (State.endTrial { s with tree := { s.tree with window := none, wiping := none } } 0) 1
  obtain ⟨hw0, hk0⟩ := State.endTrial_leaves { s with tree := { s.tree with window := none, wiping := none } } 0
  exact ⟨hw1.trans hw0, hk1.trans hk0⟩

theorem Bank.ended_armed {x : Bank} : x.ended.st = .armed ↔ x.st = .armed := by
  rw [Bank.ended]
  split
  · next h => simp [h]
  · exact Iff.rfl

/-- A start with an armed bank whose image passes runs it on trial. -/
theorem State.treeSelect_armed {s : State} {b : Nat} (hb : b ≤ 1) (ha : (s.bank b).st = .armed) (ho : (s.bank (1 - b)).st ≠ .armed)
    (hi : s.imageOk (s.bank b).image = true) : (s.treeSelect.bank b).st = .trial ∧ s.treeSelect.tree.rom = false := by
  have hend := s.bank_trialsEnded hb
  have hsame : (s.bank b).ended = s.bank b := if_neg (by rw [ha]; decide)
  have hfind : [0, 1].find? (fun c => (s.trialsEnded.bank c).st == .armed) = some b := by
    have hthis : ((s.trialsEnded.bank b).st == .armed) = true := by rw [hend, hsame, ha]; rfl
    have hother : ((s.trialsEnded.bank (1 - b)).st == .armed) = false := by
      rw [s.bank_trialsEnded (Nat.sub_le ..), beq_eq_false_iff_ne]
      exact fun h => ho (Bank.ended_armed.mp h)
    obtain rfl | rfl : b = 0 ∨ b = 1 := by omega
    · simp only [List.find?, hthis]
    · simp only [List.find?, hthis, hother]
  have hok : s.trialsEnded.imageOk (s.trialsEnded.bank b).image = true := by
    rw [hend, hsame, State.imageOk, s.trialsEnded_leaves.2]
    exact hi
  have hsel : s.treeSelect = (s.trialsEnded.setBank b { s.trialsEnded.bank b with st := .trial }).runNow b := by
    unfold State.trialsEnded at hfind hok ⊢
    rw [State.treeSelect]
    simp only [hfind, hok, if_true]
  rw [hsel]
  refine ⟨?_, rfl⟩
  have hr (t : State) : (t.runNow b).bank b = t.bank b := rfl
  rw [hr, State.bank_setBank_self]

/-- A start without an armed bank rejects the bank on trial. -/
theorem State.treeSelect_rejects {s : State} {b : Nat} (hb : b ≤ 1) (ht : (s.bank b).st = .trial) (h0 : s.tree.a.st ≠ .armed)
    (h1 : s.tree.b.st ≠ .armed) : (s.treeSelect.bank b).st = .rejected ∧ s.treeSelect.tree.window = none := by
  have hend : (s.trialsEnded.bank b).st = .rejected := by rw [s.bank_trialsEnded hb, Bank.ended, if_pos ht]
  have hfind : [0, 1].find? (fun c => (s.trialsEnded.bank c).st == .armed) = none := by
    have hn {c : Nat} (hc : c ≤ 1) (h : (s.bank c).st ≠ .armed) : ((s.trialsEnded.bank c).st == .armed) = false := by
      rw [s.bank_trialsEnded hc, beq_eq_false_iff_ne]
      exact fun e => h (Bank.ended_armed.mp e)
    simp only [List.find?, hn (c := 0) (by decide) h0, hn (c := 1) (by decide) h1]
  have hsel : s.treeSelect = s.trialsEnded.trySeated s.trialsEnded.seatedBanks := by
    unfold State.trialsEnded at hfind ⊢
    rw [State.treeSelect]
    simp only [hfind]
  obtain ⟨hst, hw⟩ := State.trySeated_leaves b s.trialsEnded.seatedBanks s.trialsEnded hend
  rw [hsel]
  exact ⟨hst, hw.trans s.trialsEnded_leaves.1⟩

/-- The tree after a warm reset is what a start selects from the banks as they were. -/
theorem State.tree_warmReset (s : State) (cause : Nat) : ∃ u : State, u.tree = s.tree ∧ (s.warmReset cause).tree = u.treeSelect.tree := by
  unfold State.warmReset
  extract_lets +onlyGivenNames cut moved quiet cleared portsEnded runsEnded held power begun pins chain tables lacing
    cores emptied tabled har unleft hosted
  have hports : portsEnded.tree = s.tree := by
    refine (State.each_same (fun t => t.tree) ?_ _ _).trans ?_
    · intro t p
      simp only [State.setRes_keeps ..]
    · simp only [cleared, quiet, State.dictWarm_keeps .., State.girthWarm_keeps .., State.coresWarm_keeps .., State.radioWarm_keeps ..]
  have hruns : runsEnded.tree = s.tree := by
    unfold runsEnded
    split_ifs
    · simpa only [State.setRes_keeps ..] using hports
    · exact hports
  have hemptied : emptied.tree = s.tree := hruns
  clear_value emptied
  refine ⟨hosted, ?_, ?_⟩
  · simp only [hosted, State.wr_keeps .., State.conStart_keeps .., State.resetCon_keeps .., State.hifReset_keeps .., State.resetBuckle_keeps ..]
    simp only [unleft, tabled, State.resetStraps_keeps .., State.resetTables_keeps .., hemptied]
  · simp only [State.coresStart_keeps .., State.resetCinch_keeps .., State.keeperWarm_keeps .., State.portsStart_keeps .., State.txLimits_keeps ..,
      State.stampCheck_keeps ..]

theorem State.bank_of_tree {s t : State} (h : t.tree = s.tree) (b : Nat) : t.bank b = s.bank b := by rw [State.bank, State.bank, h]

/-! ### Seating and wiping (R425, R427) -/

theorem seatOk_free {s : State} (h : s.cmdBlocked Key.seatOkRes = false) : exec .seatOk s = .next s.seat := by
  rw [exec_seatOk, execSeatOk, if_neg (by rw [h]; decide)]

theorem seatOk_ignored {s : State} (h : s.cmdBlocked Key.seatOkRes = true ∨ s.seatLate = true) : exec .seatOk s = .next s := by
  rw [exec_seatOk, execSeatOk]
  split
  · rfl
  · next hb => rw [State.seat, if_pos (h.resolve_left hb)]

theorem State.seat_without_window {s : State} (h : s.tree.window = none) : s.seat = s.resEnd Key.seatOkRes 1 := by
  rw [State.seat, State.seatLate]
  simp only [h]
  rfl

/-- Inside the window the running bank is seated, above every seat given before. -/
theorem State.seat_seats {s : State} {w : Nat × Nat} (h : s.tree.window = some w) (hl : s.seatLate = false) (hr : s.runBank ≤ 1) :
    s.seat.tree.window = none ∧ (s.seat.bank s.runBank).st = .seated ∧
      (s.seat.bank s.runBank).seat = max s.tree.a.seat s.tree.b.seat + 1 ∧
      (s.seat.bank s.runBank).image = (s.bank s.runBank).image ∧ s.seat.bank (1 - s.runBank) = s.bank (1 - s.runBank) ∧
      (s.seat.res Key.seatOkRes).outcome = 1 ∧ Posted s s.seat .treeSeated 0x5200 := by
  have hseat : ∃ v, s.seat = (({ s.setBank s.runBank { s.bank s.runBank with st := .seated, seat := max s.tree.a.seat s.tree.b.seat + 1 } with
      tree := { (s.setBank s.runBank { s.bank s.runBank with st := .seated, seat := max s.tree.a.seat s.tree.b.seat + 1 }).tree with
        window := none } } : State).treePost .treeSeated v (max s.tree.a.seat s.tree.b.seat + 1)).resEnd Key.seatOkRes 0 := by
    rw [State.seat, hl]
    simp only [h]
    exact ⟨_, rfl⟩
  obtain ⟨v, hseat⟩ := hseat
  have hj : (s.setBank s.runBank { s.bank s.runBank with st := .seated, seat := max s.tree.a.seat s.tree.b.seat + 1 }).sb.journal =
      s.sb.journal := by simp only [State.setBank_keeps ..]
  have hself := s.bank_setBank_self s.runBank { s.bank s.runBank with st := .seated, seat := max s.tree.a.seat s.tree.b.seat + 1 }
  have hother := s.bank_setBank_ne (b := s.runBank) (c := 1 - s.runBank)
    { s.bank s.runBank with st := .seated, seat := max s.tree.a.seat s.tree.b.seat + 1 } (by simp; omega)
  rw [hseat]
  generalize s.setBank s.runBank { s.bank s.runBank with st := .seated, seat := max s.tree.a.seat s.tree.b.seat + 1 } = u at hself hother hj ⊢
  have htree (b : Nat) : ((State.treePost { u with tree := { u.tree with window := none } } .treeSeated v
      (max s.tree.a.seat s.tree.b.seat + 1)).resEnd Key.seatOkRes 0).bank b = u.bank b := by
    refine (State.bank_of_tree (s := { u with tree := { u.tree with window := none } }) ?_ b).trans rfl
    simp only [State.resEnd_keeps .., State.treePost_keeps ..]
  refine ⟨?_, ?_, ?_, ?_, ?_, ?_, ?_⟩
  · simp only [State.resEnd_keeps .., State.treePost_keeps ..]
  · rw [htree, hself]
  · rw [htree, hself]
  · rw [htree, hself]
  · rw [htree, hother]
  · rw [State.res_resEnd_self]
    rfl
  · obtain ⟨e, hc, hsrc, he⟩ := Posted.of_post (s := s) (u := { u with tree := { u.tree with window := none } }) hj .treeSeated 0x5200 v
      (max s.tree.a.seat s.tree.b.seat + 1) 0xFF
    exact ⟨e, hc, hsrc, he⟩

theorem bankWipe_free {b : Fin 2} {s : State} (h : s.cmdBlocked Key.bankWipeRes = false) : exec (.bankWipe b) s = .next (s.wipe b) := by
  rw [exec_bankWipe, execBankWipe, if_neg (by rw [h]; decide)]

theorem State.wipe_running {s : State} {b : Nat} (hb : b = s.runBank) (hr : s.tree.rom = false) :
    s.wipe b = s.resEnd Key.bankWipeRes 1 := by
  rw [State.wipe]
  simp [← hb, hr]

/-- A wipe of the idle bank leaves it blank from its start. -/
theorem State.wipe_idle {s : State} {b : Nat} (hb : b ≤ 1) (hne : b ≠ s.runBank) (hw : s.tree.window = none) (ho : s.treeOpen = false) :
    (s.wipe b).tree.wiping = some b ∧ ((s.wipe b).res Key.bankWipeRes).busy = true ∧ ((s.wipe b).bank b).st = .blank ∧
      ((s.wipe b).bank b).image = [] ∧ (s.wipe b).bank (1 - b) = s.bank (1 - b) := by
  have hwipe : s.wipe b = { (s.resBegin Key.bankWipeRes).setBank b { s.bank b with st := .blank, image := [] } with
      tree := { ((s.resBegin Key.bankWipeRes).setBank b { s.bank b with st := .blank, image := [] }).tree with wiping := some b } } := by
    rw [State.wipe]
    simp only [beq_eq_false_iff_ne.mpr hne, hw, ho, Bool.false_and, Option.isSome_none, Bool.or_self, Bool.and_false,
      Bool.false_eq_true, if_false]
  have hself := (s.resBegin Key.bankWipeRes).bank_setBank_self b { s.bank b with st := .blank, image := [] }
  have hother := (s.resBegin Key.bankWipeRes).bank_setBank_ne (b := b) (c := 1 - b) { s.bank b with st := .blank, image := [] }
    (by simp; omega)
  have hres : (((s.resBegin Key.bankWipeRes).setBank b { s.bank b with st := .blank, image := [] }).res Key.bankWipeRes).busy = true := by
    simp only [State.setBank_keeps .., State.res_resBegin_self]
  rw [hwipe]
  generalize (s.resBegin Key.bankWipeRes).setBank b { s.bank b with st := .blank, image := [] } = u at hself hother hres ⊢
  have hbank (c : Nat) : State.bank { u with tree := { u.tree with wiping := some b } } c = u.bank c := rfl
  exact ⟨rfl, hres, by rw [hbank, hself], by rw [hbank, hself], by rw [hbank, hother]; rfl⟩

/-! ### Switching (R419, R428) -/

theorem treeSwitch_free {s : State} (h : s.cmdBlocked Key.treeSwitchRes = false) : exec .treeSwitch s = .next s.treeSwitch := by
  rw [exec_treeSwitch, execTreeSwitch, if_neg (by rw [h]; decide)]

theorem State.treeSwitch_bad {s : State} {c : Nat} (h : s.switchBad = some c) :
    s.treeSwitch = (s.resBegin Key.treeSwitchRes).resEnd Key.treeSwitchRes c := by
  rw [State.treeSwitch, h]

/-- A switch that may go has an image that passes in the idle bank. -/
theorem State.imageOk_of_switch {s : State} (h : s.switchBad = none) : s.imageOk (s.bank s.idleBank).image = true := by
  unfold State.switchBad at h
  simp only at h
  split_ifs at h
  rename_i hi _
  rw [Bool.or_eq_true, not_or] at hi
  simpa using hi.2

/-- An armed switch changes the idle bank's state and notes the run. -/
theorem State.armSwitch_arms {s : State} (hr : s.runBank ≤ 1) : (s.armSwitch.bank s.idleBank).st = .armed ∧
    (s.armSwitch.bank s.idleBank).image = (s.bank s.idleBank).image ∧ s.armSwitch.bank (1 - s.idleBank) = s.bank s.runBank ∧
    s.armSwitch.tree.imageKey = s.tree.imageKey := by
  have hi : 1 - s.idleBank = s.runBank := by rw [State.idleBank]; omega
  have hself := (s.resBegin Key.treeSwitchRes).bank_setBank_self s.idleBank { s.bank s.idleBank with st := .armed }
  have hother := (s.resBegin Key.treeSwitchRes).bank_setBank_ne (b := s.idleBank) (c := 1 - s.idleBank)
    { s.bank s.idleBank with st := .armed } (by rw [hi]; simp [State.idleBank]; omega)
  have hkey : ((s.resBegin Key.treeSwitchRes).setBank s.idleBank { s.bank s.idleBank with st := .armed }).tree.imageKey = s.tree.imageKey := by
    rw [State.setBank]
    split <;> rfl
  have harm : s.armSwitch = (let u := (s.resBegin Key.treeSwitchRes).setBank s.idleBank { s.bank s.idleBank with st := .armed }
    { u with tree := { u.tree with switching := some ((u.res Key.treeSwitchRes).seq, s.idleBank) } }) := rfl
  rw [harm]
  simp only
  generalize (s.resBegin Key.treeSwitchRes).setBank s.idleBank { s.bank s.idleBank with st := .armed } = u at hself hother hkey ⊢
  have hbank (c : Nat) : State.bank { u with tree := { u.tree with
      switching := some ((u.res Key.treeSwitchRes).seq, s.idleBank) } } c = u.bank c := rfl
  refine ⟨by rw [hbank, hself], by rw [hbank, hself], ?_, hkey⟩
  rw [hbank, hother, hi]
  rfl

theorem State.treeSwitch_switches {s : State} (h : s.switchBad = none) (hr : s.runBank ≤ 1) (ha : (s.bank s.runBank).st ≠ .armed) :
    (s.treeSwitch.bank s.idleBank).st = .trial ∧ s.treeSwitch.tree.rom = false ∧ s.treeSwitch.dict.ready = false ∧
      s.treeSwitch.power.start = some ⟨false, 6, false, s.elapsed⟩ := by
  obtain ⟨hst, himg, hother, hkey⟩ := s.armSwitch_arms hr
  have hel : s.armSwitch.elapsed = s.elapsed := by simp only [State.armSwitch_keeps ..]
  have hsw : s.treeSwitch = s.armSwitch.warmReset 6 := by rw [State.treeSwitch, h]
  have hok : s.armSwitch.imageOk (s.armSwitch.bank s.idleBank).image = true := by
    rw [himg, State.imageOk, hkey]
    exact State.imageOk_of_switch h
  rw [hsw, ← hel]
  generalize s.armSwitch = v at hst hother hok ⊢
  obtain ⟨u, hu, ht⟩ := v.tree_warmReset 6
  obtain ⟨hready, hstart⟩ := v.warmReset_start 6
  have hsel := State.treeSelect_armed (s := u) (b := s.idleBank) (Nat.sub_le ..) (by rw [State.bank_of_tree hu, hst])
    (by rw [State.bank_of_tree hu, hother]; exact ha) (by
      rw [State.bank_of_tree hu]
      have hi : u.imageOk (v.bank s.idleBank).image = v.imageOk (v.bank s.idleBank).image := by rw [State.imageOk, State.imageOk, hu]
      rw [hi, hok])
  exact ⟨by rw [State.bank_of_tree ht, hsel.1], by rw [ht, hsel.2], hready, hstart⟩

theorem State.warmReset_rejects {s : State} {b : Nat} (hb : b ≤ 1) (ht : (s.bank b).st = .trial) (h0 : s.tree.a.st ≠ .armed)
    (h1 : s.tree.b.st ≠ .armed) : ((s.warmReset 6).bank b).st = .rejected ∧ (s.warmReset 6).tree.window = none ∧
      (s.warmReset 6).dict.ready = false := by
  obtain ⟨u, hu, he⟩ := s.tree_warmReset 6
  obtain ⟨hst, hw⟩ := State.treeSelect_rejects (s := u) hb (by rw [State.bank_of_tree hu, ht]) (by rw [hu]; exact h0) (by rw [hu]; exact h1)
  exact ⟨by rw [State.bank_of_tree he, hst], by rw [he, hw], (s.warmReset_start 6).1⟩

/-- Settles O35: the banks move by the window, the wipe and the switch; a start rejects a bank that is still on trial. -/
theorem treeBanks : Obligations.TreeBanks := by
  unfold Obligations.TreeBanks
  refine ⟨fun s hb hw => ?_, fun s h => ?_, fun w s hb hw hl hr => ?_, fun b s hb he hr => ?_, fun b s hb hne hw ho => ?_,
    fun b s hw => ?_, fun s hw => ?_, fun c s hb hc => ?_, fun s hb hc hr ha => ?_, fun dt b s hx hb ht h0 h1 => ?_, fun dt s hx => ?_⟩
  · rw [seatOk_free hb, gives_next, State.seat_without_window hw, State.res_resEnd_self]
    exact ⟨rfl, rfl, rfl⟩
  · rw [seatOk_ignored h, gives_next]
  · rw [seatOk_free hb, gives_next]
    exact State.seat_seats hw hl hr
  · rw [bankWipe_free hb, gives_next, State.wipe_running he hr, State.res_resEnd_self]
    exact ⟨rfl, rfl, rfl⟩
  · rw [bankWipe_free hb, gives_next]
    exact State.wipe_idle (by omega) hne hw ho
  · rw [exec_bankWipeDone, execBankWipeDone]
    simp only [hw]
    rw [gives_next]
    exact ⟨rfl, congrArg ResRec.outcome (s.res_resEnd_self Key.bankWipeRes 0 [])⟩
  · rw [exec_bankWipeDone, execBankWipeDone]
    simp only [hw]
    rw [gives_next]
  · rw [treeSwitch_free hb, gives_next, State.treeSwitch_bad hc, State.res_resEnd_self]
    exact ⟨rfl, rfl, rfl⟩
  · rw [treeSwitch_free hb, gives_next]
    exact State.treeSwitch_switches hc hr ha
  · have htree : (s.advance dt).tree = s.tree := by simp only [State.advance_keeps ..]
    rw [exec_seatWindowExpiry, execSeatWindowExpiry, gives_next, if_pos hx]
    exact State.warmReset_rejects hb (by rw [State.bank_of_tree htree, ht]) (by rw [htree]; exact h0) (by rw [htree]; exact h1)
  · rw [exec_seatWindowExpiry, execSeatWindowExpiry, gives_next, if_neg (by rw [hx]; decide)]

end Sys2Proof.Machine
end

section
/-! Proofs of the family 'other', chapter 21: the power states. -/

namespace Sys2Proof.Machine

/-! ### The dictionary service stays up through placement and posts -/

theorem State.ready_preempt (s : State) (p : Nat) : (s.preempt p).dict.ready = s.dict.ready := by
  refine State.each_same (fun t => t.dict.ready) (fun t n => ?_) s _
  simp only [State.setRx_keeps ..]
  split
  · simp only [State.rxIdle_keeps ..]
    exact State.ready_post ..
  · rfl

theorem State.ready_portGo (n : Nat) (s : State) (p : Nat) : (State.portGo n s p).dict.ready = s.dict.ready := by
  induction n generalizing s with
  | zero => rfl
  | succ n ih =>
    simp only [State.portGo]
    split
    · rfl
    · split
      · simp only [State.relockGo_keeps ..]
      · split
        · rfl
        · split
          · split
            · rw [ih]
              simp only [State.portSettle_keeps ..]
            · rfl
          · split
            · rfl
            · simp only [State.setPort_keeps ..]
              split
              · exact State.ready_preempt ..
              · rfl

theorem State.ready_portRun (s : State) (p : Nat) : (s.portRun p).dict.ready = s.dict.ready := State.ready_portGo ..

/-- What every step of a walk over a state and a value leaves of the state, the walk leaves. -/
theorem foldl_fst_same {α β γ : Type} (g : State → γ) {f : State × β → α → State × β} (h : ∀ x a, g (f x a).1 = g x.1)
    (l : List α) (x : State × β) : g (l.foldl f x).1 = g x.1 := by
  induction l generalizing x with
  | nil => rfl
  | cons a l ih => rw [List.foldl_cons, ih, h]

theorem State.ready_placePins (s : State) : s.placePins.1.dict.ready = s.dict.ready := by
  unfold State.placePins
  generalize List.range 64 = tiles
  refine (foldl_fst_same (fun t => t.dict.ready) (fun x n => ?_) tiles (s, [])).trans rfl
  simp only
  split
  · rfl
  · split
    · split
      · rfl
      · exact (State.ready_post ..).trans (by simp only [State.setRx_keeps ..])
    · split
      · split
        · rfl
        · exact (State.ready_post ..).trans (by simp only [State.setRx_keeps ..])
      · rfl

theorem State.ready_placeRest (s : State) (ds : List Demand) (l : Plan) : (s.placeRest ds l).1.dict.ready = s.dict.ready := by
  refine foldl_fst_same (fun t => t.dict.ready) (fun x d => ?_) ds (s, l)
  simp only
  split
  · rfl
  · split
    · rfl
    · split
      · split
        · split
          · rfl
          · simp only [State.bump_keeps ..]
        · rfl
      · split
        · split <;> rfl
        · exact State.ready_post ..

theorem State.ready_placeTx (s : State) : s.placeTx.dict.ready = s.dict.ready := by
  unfold State.placeTx
  generalize List.range 16 = tiles
  refine State.each_same (fun t => t.dict.ready) (fun t n => ?_) s tiles
  simp only
  split
  · rfl
  · split
    · simp only [State.wr_keeps ..]
    · split
      · simp only [State.wr_keeps ..]
      · split
        · simp only [State.wr_keeps ..]
        · refine (State.ready_post ..).trans ?_
          simp only [State.setTx_keeps .., State.wr_keeps ..]

theorem State.ready_placeAll (s : State) : s.placeAll.dict.ready = s.dict.ready := by
  unfold State.placeAll
  generalize List.range 4 = ports, List.range 64 = tiles
  extract_lets before ds
  split
  next u pins hu =>
  have hpins : u.dict.ready = s.dict.ready := by
    rw [show u = s.placePins.1 by rw [hu]]
    exact s.ready_placePins
  split
  next v plan hv =>
  have hrest : v.dict.ready = s.dict.ready := by
    rw [show v = (u.placeRest ds (u.keepTriples ds pins)).1 by rw [hv], State.ready_placeRest, hpins]
  rw [State.each_same (fun t => t.dict.ready), State.each_same (fun t => t.dict.ready), State.ready_placeTx, hrest]
  · exact fun t n => by simp only [State.setRx_keeps ..]
  · intro t p
    simp only
    split
    · rw [State.ready_portRun]
      simp only [State.setPort_keeps ..]
    · rfl

theorem State.ready_treeUp (s : State) : s.treeUp.dict.ready = s.dict.ready := by
  unfold State.treeUp
  extract_lets +onlyGivenNames bank window opened ended notes kept cleared
  have hopened : opened.dict.ready = s.dict.ready := by
    unfold opened
    split <;> rfl
  have hended : ended.dict.ready = s.dict.ready := by
    unfold ended
    split <;> exact hopened
  have hcleared : cleared.dict.ready = s.dict.ready := by
    unfold cleared
    split <;> exact hended
  rw [State.each_same (fun t => t.dict.ready), hcleared]
  intro t n
  split <;> exact State.ready_post ..

theorem State.ready_pathCheck (s : State) : s.pathCheck.dict.ready = s.dict.ready := by
  rw [State.pathCheck]
  split
  · simp only
    split
    · exact State.ready_post ..
    · rfl
  · rfl
  · rfl
  · rfl

/-! ### Transitions (R535, R537) -/

/-- What starting a transition changes of the power domain. -/
theorem State.power_powerStart (s : State) (t : Nat) : (s.powerStart t).power =
    { s.power with moving := some (powerHop s.pwr t), goal := some t, pending := none, movedAt := s.elapsed } := by
  rw [State.powerStart]
  simp only
  split
  · refine (State.each_same (fun u => u.power) (fun u p => by simp only [State.portSleep_keeps ..]) _ _).trans rfl
  · split
    · simp only [State.raisePorts_keeps ..]
      rfl
    · rfl

theorem State.pwr_powerStart (s : State) (t : Nat) : (s.powerStart t).pwr = s.pwr := State.powerStart_rd (by simp)

theorem State.pwr_powerAsk (s : State) (t : Nat) : (s.powerAsk t).pwr = s.pwr := State.powerAsk_rd (by simp)

section
variable {s : State} {t : Nat} (hd : s.power.shutdown = none) (hm : s.power.moving = none)
include hd hm

theorem State.powerAsk_starts (hp : s.pwr ≠ t) (hw : s.power.dwellUntil ≤ s.elapsed) : s.powerAsk t = s.powerStart t := by
  rw [State.powerAsk, hd, hm, if_neg (by decide), if_neg (by decide), if_neg hp, if_neg (Nat.not_lt.mpr hw)]

theorem State.powerAsk_there (hp : s.pwr = t) : s.powerAsk t = s.powerReached := by
  rw [State.powerAsk, hd, hm, if_neg (by decide), if_neg (by decide), if_pos hp]

end

theorem pwrStateCmd_free {x : Fin 3} {s : State} (h : s.cmdBlocked Key.pwrStateRes = false) :
    exec (.pwrStateCmd x) s = .next (s.pwrCmd (x + 2)) := by
  rw [exec_pwrStateCmd, execPwrStateCmd, if_neg (by rw [h]; decide)]

theorem State.pwrCmd_of_running {s : State} {t : Nat} (hd : s.power.shutdown = none) :
    s.pwrCmd t = (s.resBegin Key.pwrStateRes).powerAsk t := by
  rw [State.pwrCmd, if_neg]
  rw [show (s.resBegin Key.pwrStateRes).power = s.power from rfl, hd]
  decide

/-- A state that is reached ends the run that asked for it. -/
theorem State.powerReached_ends (s : State) : s.powerReached.power = { s.power with goal := none, pending := none } ∧
    s.powerReached.pwr = s.pwr ∧ ((s.res Key.pwrStateRes).busy = true → (s.powerReached.res Key.pwrStateRes).outcome = 1) := by
  rw [State.powerReached]
  refine ⟨?_, ?_, fun h => ?_⟩
  · simp only [State.resEndIfBusy_keeps ..]
    rfl
  · simp only [State.pwr, State.resEndIfBusy_keeps .., State.setPower_keeps ..]
  · rw [State.resEndIfBusy, if_pos (by simpa only [State.setPower_keeps ..] using h), State.res_resEnd_self]
    rfl

/-- The state in which a transition has reached st, before what follows. -/
def State.powerAt (s : State) (st : Nat) : State :=
  (s.wr Key.pwrState st).setPower { s.power with moving := none, dwellUntil := s.elapsed + powerDwell st }

theorem State.powerArrive_goal {s : State} {st g : Nat} (hp : s.power.pending = none) (hg : s.power.goal = some g) :
    s.powerArrive st = if g = st then (s.powerAt st).powerReached else (s.powerAt st).powerStart g := by
  have hp' : ((s.wr Key.pwrState st).setPower { (s.wr Key.pwrState st).power with
      moving := none, dwellUntil := (s.wr Key.pwrState st).elapsed + powerDwell st }).power.pending = none := hp
  have hg' : ((s.wr Key.pwrState st).setPower { (s.wr Key.pwrState st).power with
      moving := none, dwellUntil := (s.wr Key.pwrState st).elapsed + powerDwell st }).power.goal = some g := hg
  rw [State.powerArrive]
  simp only [hp', hg']
  rfl

theorem State.pwr_powerAt (s : State) (st : Nat) : (s.powerAt st).pwr = st :=
  (State.rd_of_nums rfl _).trans (State.rd_wr_self ..)

section
variable {dt : Nat} {s : State} (hs : s.power.start = none)
include hs

theorem pwrTransitionDone_ends {hop : Nat} (hm : s.power.moving = some hop) (he : (s.advance dt).powerCanEnd = true) :
    exec (.pwrTransitionDone dt) s = .next ((s.advance dt).transitionEnd hop) := by
  have hpow : (s.advance dt).power = s.power := by simp only [State.advance_keeps ..]
  rw [exec_pwrTransitionDone, execPwrTransitionDone]
  simp only [hpow, hs, hm, he, Option.isSome_none, Bool.false_and, Bool.false_eq_true, if_false, if_true]

theorem pwrTransitionDone_early {hop : Nat} (hm : s.power.moving = some hop) (he : (s.advance dt).powerCanEnd = false) :
    exec (.pwrTransitionDone dt) s = .next (s.advance dt) := by
  have hpow : (s.advance dt).power = s.power := by simp only [State.advance_keeps ..]
  rw [exec_pwrTransitionDone, execPwrTransitionDone]
  simp only [hpow, hs, hm, he, Option.isSome_none, Bool.false_and, Bool.false_eq_true, if_false]

end

/-- A hop from state 4 to 3 reaches state 3. -/
theorem State.transitionEnd_to_three {s : State} (h4 : s.pwr = 4) : s.transitionEnd 3 = s.powerArrive 3 := by
  have hw : s.powerEndWork 3 = s := by
    rw [State.powerEndWork, if_neg (by rw [h4]; decide), if_neg (by rw [h4]; decide)]
  rw [State.transitionEnd, hw, h4]
  rfl

/-- Where every port sleeps, a transition down from state 4 may end. -/
theorem State.powerCanEnd_of_asleep {s : State} (h4 : s.pwr = 4) (hp : ∀ p, p < 4 → s.pstate p = 0 ∧ (s.port p).step = none) :
    s.powerCanEnd = true := by
  rw [State.powerCanEnd, if_pos h4, List.all_eq_true]
  intro p hm
  obtain ⟨hz, hn⟩ := hp p (List.mem_range.mp hm)
  simp [hz, hn]

section
variable {dt : Nat} {s : State} (hs : s.power.start = none) (h4 : s.pwr = 4)
  (hp : ∀ p, p < 4 → s.pstate p = 0 ∧ (s.port p).step = none) (hm : s.power.moving = some 3) (hpend : s.power.pending = none)
include hs h4 hp hm hpend

/-- The hop from state 4 to 3, in the state it ends in. -/
theorem pwrTransitionDone_to_three {g : Nat} (hg : s.power.goal = some g) : exec (.pwrTransitionDone dt) s =
    .next (if g = 3 then ((s.advance dt).powerAt 3).powerReached else ((s.advance dt).powerAt 3).powerStart g) := by
  have hpow : (s.advance dt).power = s.power := by simp only [State.advance_keeps ..]
  have hpwr : (s.advance dt).pwr = 4 := by simpa only [State.pwr, State.advance_keeps ..] using h4
  have hsleep : ∀ p, p < 4 → (s.advance dt).pstate p = 0 ∧ ((s.advance dt).port p).step = none := by
    simpa only [State.pstate, State.advance_keeps ..] using hp
  rw [pwrTransitionDone_ends hs hm (State.powerCanEnd_of_asleep hpwr hsleep), State.transitionEnd_to_three hpwr,
    State.powerArrive_goal (by rw [hpow, hpend]) (by rw [hpow, hg])]

theorem pwrTransitionDone_reached (hg : s.power.goal = some 3) : Gives (exec (.pwrTransitionDone dt) s) fun t =>
    t.pwr = 3 ∧ t.power.moving = none ∧ t.power.goal = none ∧ t.power.dwellUntil = (s.advance dt).elapsed + ms 1 := by
  rw [pwrTransitionDone_to_three hs h4 hp hm hpend hg, if_pos rfl, gives_next]
  obtain ⟨hpower, hpwr, -⟩ := ((s.advance dt).powerAt 3).powerReached_ends
  rw [hpwr, hpower, State.pwr_powerAt]
  exact ⟨rfl, rfl, rfl, rfl⟩

theorem pwrTransitionDone_onward (hg : s.power.goal = some 2) : Gives (exec (.pwrTransitionDone dt) s) fun t =>
    t.pwr = 3 ∧ t.power.moving = some 2 ∧ t.power.goal = some 2 := by
  rw [pwrTransitionDone_to_three hs h4 hp hm hpend hg, if_neg (by decide), gives_next, State.pwr_powerStart, State.power_powerStart,
    State.pwr_powerAt]
  exact ⟨rfl, rfl, rfl⟩

end

/-! ### The end of a start (R65) -/

section
variable {dt : Nat} {st : StartUp} {s : State} (hs : s.power.start = some st) (hr : s.dict.ready = false)
include hs hr

theorem pwrTransitionDone_waits (hw : (s.advance dt).startWaited = false) : exec (.pwrTransitionDone dt) s = .next (s.advance dt) := by
  have hpow : (s.advance dt).power = s.power := by simp only [State.advance_keeps ..]
  have hready : (s.advance dt).dict.ready = s.dict.ready := by simp only [State.advance_keeps ..]
  rw [exec_pwrTransitionDone, execPwrTransitionDone]
  simp only [hpow, hready, hs, hr, hw, Option.isSome_some, Bool.not_false, Bool.and_self, if_true, Bool.false_eq_true, if_false]

theorem pwrTransitionDone_started (hw : (s.advance dt).startWaited = true) : Gives (exec (.pwrTransitionDone dt) s) fun t =>
    t.dict.ready = true ∧ t.power.moving = some 4 ∧ t.vbat.valid = true ∧ t.vbat.cause = st.cause := by
  have hpow : (s.advance dt).power = s.power := by simp only [State.advance_keeps ..]
  have hready : (s.advance dt).dict.ready = s.dict.ready := by simp only [State.advance_keeps ..]
  rw [exec_pwrTransitionDone, execPwrTransitionDone]
  simp only [hpow, hready, hs, hr, hw, Option.isSome_some, Bool.not_false, Bool.and_self, if_true]
  rw [gives_next, State.startDone]
  simp only [hpow, hs, State.conSense_keeps .., State.pathCheck_keeps .., State.placeAll_keeps .., State.treeUp_keeps ..]
  refine ⟨?_, ?_, ?_, ?_⟩
  · rw [State.ready_pathCheck, State.ready_placeAll, State.ready_treeUp]
    simp only [State.setSched_keeps .., State.askRebuild_keeps .., State.setPower_keeps ..]
  · simp only [State.setSched_keeps .., State.askRebuild_keeps ..]
    rfl
  · simp only [State.setSched_keeps .., State.askRebuild_keeps .., State.setPower_keeps ..]
  · simp only [State.setSched_keeps .., State.askRebuild_keeps .., State.setPower_keeps ..]

end

/-! ### Dwells and wake (R537, R538) -/

theorem pwrDwellEnd_starts {dt x : Nat} {s : State} (hp : s.power.pending = some x) (hm : s.power.moving = none)
    (hd : s.power.shutdown = none) (hw : s.power.dwellUntil ≤ (s.advance dt).elapsed) (hx : x ≠ s.pwr) :
    Gives (exec (.pwrDwellEnd dt) s) fun t => t.power.moving = some (powerHop s.pwr x) ∧ t.power.pending = none ∧ t.pwr = s.pwr := by
  have hpow : (s.advance dt).power = s.power := by simp only [State.advance_keeps ..]
  have hpwr : (s.advance dt).pwr = s.pwr := by simp only [State.pwr, State.advance_keeps ..]
  rw [exec_pwrDwellEnd, execPwrDwellEnd]
  simp only [hpow, hp, hm, hd, hpwr, hx, decide_eq_false (Nat.not_lt.mpr hw), Option.isSome_none, Bool.or_self, Bool.false_eq_true, if_false]
  rw [gives_next, State.pwr_powerStart, State.power_powerStart, hpwr]
  exact ⟨rfl, rfl, rfl⟩

theorem pwrDwellEnd_early {dt x : Nat} {s : State} (hp : s.power.pending = some x) (hw : (s.advance dt).elapsed < s.power.dwellUntil) :
    exec (.pwrDwellEnd dt) s = .next (s.advance dt) := by
  have hpow : (s.advance dt).power = s.power := by simp only [State.advance_keeps ..]
  rw [exec_pwrDwellEnd, execPwrDwellEnd]
  simp only [hpow, hp, decide_eq_true hw, Bool.or_true, if_true]

theorem State.pwr_wake (s : State) : s.wake.pwr = s.pwr := by
  rw [State.wake]
  split
  · exact s.pwr_powerAsk 3
  · rfl

theorem standbyWake_wakes {s : State} (h2 : s.pwr = 2) (hm : s.power.moving = none) (hp : s.power.pending = none)
    (hd : s.power.shutdown = none) (hw : s.power.dwellUntil ≤ s.elapsed) :
    Gives (exec (.standbyWake false) s) fun t => t.power.moving = some 3 ∧ t.pwr = 2 := by
  rw [exec_standbyWake, execStandbyWake, if_neg (not_not.mpr h2), if_neg (by decide), gives_next, State.pwr_wake, State.wake,
    if_pos ⟨h2, hm, hp⟩, State.powerAsk_starts hd hm (by omega) hw, State.power_powerStart, h2]
  exact ⟨rfl, rfl⟩

theorem standbyWake_card {s : State} (h2 : s.pwr = 2) (hf : s.flag Key.conReader = true) :
    Gives (exec (.standbyWake true) s) fun t => t.concho.due = true ∧ t.pwr = 2 := by
  rw [exec_standbyWake, execStandbyWake, if_neg (not_not.mpr h2), if_pos rfl, if_pos hf, gives_next, State.pwr_wake]
  exact ⟨by simp only [State.wake_keeps ..], h2⟩

/-- Settles O52: a command, an end and a dwell each start the next hop towards the state that was asked for. -/
theorem powerStates : Obligations.PowerStates := by
  unfold Obligations.PowerStates
  refine ⟨fun x s hb hd hm hp hw => ?_, fun x s hb hd hm hp => ?_, fun x s hb hd => ?_, fun x s hb => ?_,
    fun dt s hs h4 hp hm hpend hg => pwrTransitionDone_reached hs h4 hp hm hpend hg,
    fun dt s hs h4 hp hm hpend hg => pwrTransitionDone_onward hs h4 hp hm hpend hg, fun dt s hs h3 hm hc hw => ?_,
    fun dt st s hs hr hw => ?_, fun dt st s hs hr hw => pwrTransitionDone_started hs hr hw,
    fun dt x s hp hm hd hw hx => pwrDwellEnd_starts hp hm hd hw hx, fun dt x s hp hw => ?_,
    fun s h2 hm hp hd hw => standbyWake_wakes h2 hm hp hd hw, fun s h2 hf => standbyWake_card h2 hf, fun s hf => ?_, fun b s h2 => ?_⟩
  · rw [pwrStateCmd_free hb, gives_next, State.pwrCmd_of_running hd,
      State.powerAsk_starts (s := s.resBegin Key.pwrStateRes) hd hm hp hw, State.power_powerStart, State.pwr_powerStart]
    exact ⟨rfl, rfl, rfl⟩
  · obtain ⟨hpower, hpwr, hres⟩ := (s.resBegin Key.pwrStateRes).powerReached_ends
    rw [pwrStateCmd_free hb, gives_next, State.pwrCmd_of_running hd,
      State.powerAsk_there (s := s.resBegin Key.pwrStateRes) hd hm hp, hpower, hpwr]
    exact ⟨rfl, hres (by rw [State.res_resBegin_self]), hm⟩
  · have hd' : (s.resBegin Key.pwrStateRes).power.shutdown.isSome = true := Option.isSome_iff_ne_none.mpr hd
    rw [pwrStateCmd_free hb, gives_next, State.pwrCmd, if_pos hd', State.res_resEnd_self]
    exact ⟨rfl, rfl, rfl⟩
  · rw [exec_pwrStateCmd, execPwrStateCmd, if_pos hb, gives_next]
  · have hend : (s.advance dt).powerCanEnd = false := by
      have hpow : (s.advance dt).power = s.power := by simp only [State.advance_keeps ..]
      have hpwr : (s.advance dt).pwr = 3 := by simpa only [State.pwr, State.advance_keeps ..] using h3
      rw [State.powerCanEnd, if_neg (by omega), hpow, hm, if_neg (by decide), if_pos rfl, hc, Bool.false_or]
      exact decide_eq_false (Nat.not_le.mpr hw)
    rw [pwrTransitionDone_early hs hm hend, gives_next]
  · rw [pwrTransitionDone_waits hs hr hw, gives_next]
  · rw [pwrDwellEnd_early hp hw, gives_next]
  · rw [exec_standbyWake, execStandbyWake, if_pos (show true = true from rfl), if_neg (show ¬ s.flag Key.conReader = true by rw [hf]; decide),
      ite_self, gives_next]
  · rw [exec_standbyWake, execStandbyWake, if_pos h2, gives_next]

end Sys2Proof.Machine
end

section
/-! ## O53: shutdown, its commit, and how it is abandoned or followed by a start (Tables 21-3 and 21-5) -/

namespace Sys2Proof.Machine

variable {s : State} {b : Bool} {dt : Nat} {bad : List (Fin 2048)} {d : Shutdown}

/-! ### Transmissions on air ramp down -/

/-- Tile `n` ramps down since `now` (R139). -/
def State.RampsSince (s : State) (n now : Nat) : Prop := s.rd (Key.txcState n) = 3 ∧ ∃ k, (s.tx n).job = some k ∧ k.aborted = some now

/-- What `State.abortAir` does with each tile on air. -/
def State.abortOne (p : Nat) (s : State) (n : Nat) : State :=
  match (s.tx n).job with
  | some j =>
    if j.aborted.isSome then s
    else ((s.wr (Key.txcState n) 3).setTx n { (s.tx n) with job := some { j with ended := true, aborted := some s.elapsed } }).burstMark p
  | none => s

theorem State.abortAir_eq (s : State) (p : Nat) : s.abortAir p = s.each (s.airOn p) (State.abortOne p) := rfl

theorem State.elapsed_abortOne (p : Nat) (s : State) (n : Nat) : (s.abortOne p n).elapsed = s.elapsed := by
  unfold State.abortOne State.elapsed
  split
  · split_ifs
    · rfl
    · simp only [State.burstMark_keeps .., State.setTx_keeps .., State.wr_keeps ..]
  · rfl

/-- A tile with the job `j` not yet cut short. -/
def State.Sends (s : State) (n : Nat) (j : TxJob) : Prop := 3 ≤ s.rd (Key.txcState n) ∧ (s.tx n).job = some j ∧ j.aborted = none

theorem State.abortOne_other {p n m : Nat} (hn : n < 16) (h : m ≠ n) (s : State) :
    (s.abortOne p m).rd (Key.txcState n) = s.rd (Key.txcState n) ∧ (s.abortOne p m).tx n = s.tx n := by
  unfold State.abortOne
  split
  · split_ifs
    · exact ⟨rfl, rfl⟩
    · constructor
      · rw [State.rd_of_nums rfl]
        exact State.rd_wr_ne _ _ (by simp only [Key.txcState]; split_ifs <;> omega)
      · exact vmod_getD_ne _ _ _ h.symm
  · exact ⟨rfl, rfl⟩

theorem State.abortOne_ramps {p n : Nat} {j : TxJob} (hn : n < 16) (h : s.Sends n j) : (s.abortOne p n).RampsSince n s.elapsed := by
  obtain ⟨_, hj, ha⟩ := h
  unfold State.abortOne
  rw [hj]
  simp only [ha, Option.isSome_none, Bool.false_eq_true, if_false]
  exact ⟨(State.rd_of_nums rfl _).trans (State.rd_wr_self ..), { j with ended := true, aborted := some s.elapsed },
    congrArg TxTile.job (State.tx_setTx_self _ _ hn), rfl⟩

theorem State.abortOne_keeps_ramps {p n m now : Nat} (hn : n < 16) (h : s.RampsSince n now) : (s.abortOne p m).RampsSince n now := by
  by_cases hm : m = n
  · obtain ⟨_, k, hk, ha⟩ := h
    subst hm
    unfold State.abortOne
    rw [hk]
    simp only [ha, Option.isSome_some, if_true]
    exact ⟨‹_›, k, hk, ha⟩
  · obtain ⟨hr, ht⟩ := State.abortOne_other (p := p) hn hm s
    rwa [State.RampsSince, hr, ht]

/-- Cutting the tiles of `l` short makes the one that sends ramp down, and none that is not among them. -/
theorem State.each_abortOne_ramps {p n now : Nat} (hn : n < 16) (l : List Nat) (s : State) (h : s.RampsSince n now) :
    (s.each l (State.abortOne p)).RampsSince n now := by
  induction l generalizing s with
  | nil => exact h
  | cons m l ih => exact ih _ (State.abortOne_keeps_ramps hn h)

theorem State.each_abortOne_hit {p n : Nat} {j : TxJob} (hn : n < 16) (l : List Nat) (s : State) (h : s.Sends n j) (hl : n ∈ l) :
    (s.each l (State.abortOne p)).RampsSince n s.elapsed := by
  induction l generalizing s with
  | nil => cases hl
  | cons m l ih =>
    by_cases hm : m = n
    · subst hm
      exact State.each_abortOne_ramps hn l _ (State.abortOne_ramps hn h)
    · obtain ⟨hr, ht⟩ := State.abortOne_other (p := p) hn hm s
      have := ih (s.abortOne p m) (by rwa [State.Sends, hr, ht]) (List.mem_of_ne_of_mem (Ne.symm hm) hl)
      rwa [State.elapsed_abortOne] at this

theorem State.each_abortOne_miss {p n : Nat} (hn : n < 16) (l : List Nat) (s : State) (hl : n ∉ l) :
    (s.each l (State.abortOne p)).rd (Key.txcState n) = s.rd (Key.txcState n) ∧ (s.each l (State.abortOne p)).tx n = s.tx n := by
  induction l generalizing s with
  | nil => exact ⟨rfl, rfl⟩
  | cons m l ih =>
    obtain ⟨hm, hl⟩ := not_or.mp (mt List.mem_cons.mpr hl)
    obtain ⟨hr, ht⟩ := State.abortOne_other (p := p) hn (Ne.symm hm) s
    obtain ⟨hr', ht'⟩ := ih (s.abortOne p m) hl
    exact ⟨hr'.trans hr, ht'.trans ht⟩

theorem State.mem_airOn {p n : Nat} : n ∈ s.airOn p ↔ n < 16 ∧ (∃ j, (s.tx n).job = some j ∧ j.req.port = p) ∧ 3 ≤ s.rd (Key.txcState n) := by
  simp only [State.airOn, State.jobsOn, List.mem_filter, List.mem_range, State.onAir, decide_eq_true_eq, and_assoc]
  refine and_congr_right fun _ => and_congr_left fun _ => ?_
  cases (s.tx n).job with
  | none => simp
  | some j => simp

theorem State.portSleep_tile (s : State) (q n : Nat) :
    (s.portSleep q).rd (Key.txcState n) = s.rd (Key.txcState n) ∧ (s.portSleep q).tx n = s.tx n :=
  ⟨State.portSleep_rd (by simp), by simp only [State.tx, State.portSleep_keeps ..]⟩

theorem State.elapsed_portShut (s : State) (q : Nat) : (s.portShut q).elapsed = s.elapsed := by
  simp only [State.elapsed, State.portShut_keeps ..]

theorem State.portShut_ramps {q n now : Nat} (hn : n < 16) (h : s.RampsSince n now) : (s.portShut q).RampsSince n now := by
  obtain ⟨hr, ht⟩ := State.portSleep_tile (s.abortAir q) q n
  have := State.each_abortOne_ramps (p := q) hn (s.airOn q) s h
  rw [← State.abortAir_eq] at this
  rwa [State.portShut, State.RampsSince, hr, ht]

theorem State.portShut_hit {p n : Nat} {j : TxJob} (hn : n ∈ s.airOn p) (h : s.Sends n j) : (s.portShut p).RampsSince n s.elapsed := by
  obtain ⟨hr, ht⟩ := State.portSleep_tile (s.abortAir p) p n
  have := State.each_abortOne_hit (p := p) (State.mem_airOn.mp hn).1 (s.airOn p) s h hn
  rw [← State.abortAir_eq] at this
  rwa [State.portShut, State.RampsSince, hr, ht]

theorem State.portShut_miss {q n : Nat} (hn : n < 16) (h : n ∉ s.airOn q) :
    (s.portShut q).rd (Key.txcState n) = s.rd (Key.txcState n) ∧ (s.portShut q).tx n = s.tx n := by
  obtain ⟨hr, ht⟩ := State.portSleep_tile (s.abortAir q) q n
  obtain ⟨hr', ht'⟩ := State.each_abortOne_miss (p := q) hn (s.airOn q) s h
  exact ⟨hr.trans hr', ht.trans ht'⟩

/-- Shutting ports makes what sends on one of them ramp down: another port's shutdown leaves its tile. -/
theorem State.each_portShut_hit {p n : Nat} {j : TxJob} (l : List Nat) (s : State) (hn : n ∈ s.airOn p) (h : s.Sends n j) (hl : p ∈ l) :
    (s.each l (fun s p => s.portShut p)).RampsSince n s.elapsed := by
  have hn16 := (State.mem_airOn.mp hn).1
  have hkeep : ∀ (l : List Nat) (u : State), u.RampsSince n s.elapsed → (u.each l (fun s p => s.portShut p)).RampsSince n s.elapsed := by
    intro l
    induction l with
    | nil => exact fun _ h => h
    | cons q l ih => exact fun u h => ih _ (State.portShut_ramps hn16 h)
  induction l generalizing s with
  | nil => cases hl
  | cons q l ih =>
    by_cases hq : q = p
    · subst hq
      exact hkeep l _ (State.portShut_hit hn h)
    · obtain ⟨hlt, ⟨i, hi, hp⟩, hair⟩ := State.mem_airOn.mp hn
      have hmiss : n ∉ s.airOn q := fun hc => by
        obtain ⟨_, ⟨i', hi', hp'⟩, _⟩ := State.mem_airOn.mp hc
        rw [hi] at hi'
        exact hq (hp'.symm.trans ((Option.some.inj hi') ▸ hp))
      obtain ⟨hr, ht⟩ := State.portShut_miss hn16 hmiss
      have := ih (s.portShut q) (State.mem_airOn.mpr ⟨hlt, ⟨i, ht ▸ hi, hp⟩, hr ▸ hair⟩) (by rwa [State.Sends, hr, ht])
        (List.mem_of_ne_of_mem (Ne.symm hq) hl) (State.elapsed_portShut s q ▸ hkeep)
      rwa [State.elapsed_portShut] at this

/-! ### Triggers -/

theorem State.cause_coreIslAsk (s : State) (n : Nat) (on : Bool) : (s.coreIslAsk n on).power.cause = s.power.cause := rfl

theorem State.cause_coreIslandsSet (s : State) (on : Bool) : (s.coreIslandsSet on).power.cause = s.power.cause := by
  unfold State.coreIslandsSet
  rw [State.each_same (fun t => t.power.cause)]
  exact fun t n => State.cause_coreIslAsk ..

theorem State.cause_coresStop (s : State) : s.coresStop.power.cause = s.power.cause := by
  rw [State.coresStop, State.cause_coreIslandsSet]
  exact State.each_same (fun t => t.power.cause) (fun t n => by simp only [State.coreDrain, State.drainAll_keeps ..]) s _

theorem State.cause_powerEndWork (s : State) (hop : Nat) : (s.powerEndWork hop).power.cause = s.power.cause := by
  unfold State.powerEndWork
  split_ifs
  · rw [State.cause_coresStop]
    simp only [State.dropClosed_keeps ..]
  · simp only [State.askRebuild_keeps .., State.watchdogStart, State.power_setPower, State.cause_coreIslandsSet]
  · rfl

/-- The state of a shutdown that just began. -/
def State.shutFresh (s : State) (thermal : Bool) : Shutdown :=
  { phase := .running, committedAt := 0, found := s.power.moving.getD s.pwr, since := s.elapsed, thermal := thermal, returned := false,
    offDone := false, cool := false }

theorem State.each_portShut_keeps (l : List Nat) (s : State) : (s.each l (fun s p => s.portShut p)).power = s.power ∧
    (s.each l (fun s p => s.portShut p)).elapsed = s.elapsed :=
  ⟨State.each_same (fun t => t.power) (fun t p => by simp only [State.portShut_keeps ..]) s l,
    State.each_same (fun t => t.elapsed) (fun t p => State.elapsed_portShut t p) s l⟩

theorem State.shutRun_begins (s : State) (thermal : Bool) : (s.shutRun thermal).power.shutdown = some (s.shutFresh thermal) ∧
    (s.shutRun thermal).power.moving = none ∧ (s.shutRun thermal).power.cause = s.power.cause := by
  unfold State.shutRun
  extract_lets found shut ended begun
  obtain ⟨hp, he⟩ : shut.power = s.power ∧ shut.elapsed = s.elapsed := State.each_portShut_keeps (List.range 4) s
  clear_value shut
  have hended : ended.power = s.power ∧ ended.elapsed = s.elapsed :=
    ⟨(by simpa only [ended, State.resEndIfBusy_keeps ..] using hp), (by simpa only [ended, State.elapsed, State.resEndIfBusy_keeps ..] using he)⟩
  clear_value ended
  have hbegun : begun.elapsed = s.elapsed ∧ begun.power.cause = s.power.cause := by
    unfold begun
    split
    · exact ⟨(by simpa only [State.elapsed, State.wr_keeps .., State.powerEndWork_keeps ..] using hended.2),
        (by simp only [State.wr_keeps ..]; exact (State.cause_powerEndWork ..).trans (congrArg _ hended.1))⟩
    · exact ⟨(by simpa only [State.elapsed, State.wr_keeps ..] using hended.2), (by simp only [State.wr_keeps ..]; exact congrArg _ hended.1)⟩
  clear_value begun
  exact ⟨congrArg some (by simp only [State.shutFresh, hbegun.1, found]), rfl, hbegun.2⟩

/-- Beginning a shutdown with no transition under way cuts short what sends on a port. -/
theorem State.shutRun_ramps {p n : Nat} {j : TxJob} (hm : s.power.moving = none) (hp : p < 4) (hn : n ∈ s.airOn p)
    (hj : (s.tx n).job = some j) (ha : j.aborted = none) (thermal : Bool) : (s.shutRun thermal).RampsSince n s.elapsed := by
  have hs : s.Sends n j := ⟨(State.mem_airOn.mp hn).2.2, hj, ha⟩
  have hl : p ∈ List.range 4 := List.mem_range.mpr hp
  unfold State.shutRun
  generalize List.range 4 = ports at hl
  extract_lets found shut ended begun
  have hshut' : shut.RampsSince n s.elapsed := State.each_portShut_hit ports s hn hs hl
  have hm' : shut.power.moving = none := by rw [(State.each_portShut_keeps ports s).1, hm]
  clear_value shut
  have hr : ended.RampsSince n s.elapsed := ⟨(State.rd_of_nums (by simp only [ended, State.resEndIfBusy_keeps ..]) _).trans hshut'.1,
    by simpa only [ended, State.tx, State.resEndIfBusy_keeps ..] using hshut'.2⟩
  have ht : ended.power.moving = none := by simpa only [ended, State.resEndIfBusy_keeps ..] using hm'
  clear_value ended
  have hb : begun = ended.wr Key.pwrState found := by
    unfold begun
    rw [ht]
  rw [hb]
  exact ⟨(State.rd_of_nums rfl _).trans ((State.rd_wr_of_fam _ _ (by simp)).trans hr.1), hr.2⟩

section

variable (h0 : s.power.start = none) (h1 : s.dict.ready = true) (h2 : s.power.shutdown = none)
include h0 h1 h2

theorem State.shutTrigger_runs (thermal : Bool) : s.shutTrigger thermal = s.shutRun thermal := by
  rw [State.shutTrigger, h0, Option.isSome_none, if_neg Bool.false_ne_true, h1, Bool.not_true, if_neg Bool.false_ne_true, h2]

end

/-- The device once its supply trigger is noted. -/
def State.triggered (s : State) (b : Bool) : State := if b then { s with pins := { s.pins with shutdownLow := true } } else s

theorem exec_shutdownTrigger_eq : exec (.shutdownTrigger b) s = .next ((s.triggered b).shutTrigger false) := rfl

theorem State.triggered_same : (s.triggered b).power = s.power ∧ (s.triggered b).dict = s.dict ∧ (s.triggered b).clock = s.clock ∧
    (s.triggered b).radio = s.radio := by
  cases b <;> exact ⟨rfl, rfl, rfl, rfl⟩

theorem State.portTarget_of_shutdown (h : s.power.shutdown = some d) (p : Nat) : s.portTarget p = some 0 := by
  have hheld : s.radioHeld = true := by simp [State.radioHeld, h]
  rw [State.portTarget, hheld, Bool.or_true, if_pos rfl]

/-! ### The commit (R541, R546) -/

theorem State.shutSeq_advance (s : State) (dt : Nat) : (s.advance dt).vbat.shutSeq = s.vbat.shutSeq := by
  simp only [State.advance, apply_ite Vbat.shutSeq, rtcWritten, rtcAfter, ite_self]

theorem State.commitDue_of_time (hd : s.power.shutdown = some d) (hr : d.phase = .running) :
    s.commitDue = decide (d.since + (if d.thermal then us 100 else ms 4) ≤ s.elapsed) := by
  rw [State.commitDue, hd]
  simp [hr]

theorem retentionCommit_early (hd : s.power.shutdown = some d) (hr : d.phase = .running)
    (hw : (s.advance dt).elapsed < d.since + (if d.thermal then us 100 else ms 4)) :
    exec (.retentionCommit dt) s = .next (s.advance dt) := by
  have hd' : (s.advance dt).power.shutdown = some d := by simpa only [State.advance_keeps ..] using hd
  rw [exec_retentionCommit, execRetentionCommit]
  simp only [hd', State.commitDue_of_time hd' hr, decide_eq_false (Nat.not_le.mpr hw), Bool.not_false, if_true]

/-- The device after the commit of `d`, which `u` is ready for. -/
def State.committedFrom (u : State) (d : Shutdown) : State :=
  let s := u.shutWork
  let v := s.vbat
  let s := { s with vbat := { v with rtc := s.clock.sec, rtcFrac := 0, rtcAtCommit := s.clock.sec, shutSeq := (v.shutSeq + 1) % 2 ^ 32,
                                     clean := true } }
  let s := s.setPower { s.power with shutdown := some { d with phase := .committed, committedAt := s.elapsed } }
  s.mainDown.wr Key.pwrState 1

theorem retentionCommit_due (hd : s.power.shutdown = some d) (hr : d.phase = .running)
    (hw : d.since + (if d.thermal then us 100 else ms 4) ≤ (s.advance dt).elapsed) :
    exec (.retentionCommit dt) s = .next ((s.advance dt).committedFrom d) := by
  have hd' : (s.advance dt).power.shutdown = some d := by simpa only [State.advance_keeps ..] using hd
  rw [exec_retentionCommit, execRetentionCommit]
  simp only [hd', State.commitDue_of_time hd' hr, decide_eq_true hw, Bool.not_true, Bool.false_eq_true, if_false]
  rfl

theorem State.committedFrom_holds (u : State) (d : Shutdown) : (u.committedFrom d).vbat.clean = true ∧
    (u.committedFrom d).vbat.shutSeq = (u.vbat.shutSeq + 1) % 2 ^ 32 ∧ (u.committedFrom d).vbat.rtc = u.clock.sec ∧
    (u.committedFrom d).dict.ready = false ∧ (u.committedFrom d).pwr = 1 ∧
    (∃ e, (u.committedFrom d).power.shutdown = some e ∧ e.phase = .committed) ∧ (u.committedFrom d).tree = u.tree := by
  have hv : u.shutWork.vbat = u.vbat := by simp only [State.shutWork_keeps ..]
  have hc : u.shutWork.clock = u.clock := by simp only [State.shutWork_keeps ..]
  have ht : u.shutWork.tree = u.tree := by simp only [State.shutWork_keeps ..]
  unfold State.committedFrom
  generalize u.shutWork = w at *
  exact ⟨rfl, congrArg (fun v : Vbat => (v.shutSeq + 1) % 2 ^ 32) hv, congrArg Clock.sec hc, rfl, State.rd_wr_self .., ⟨_, rfl, rfl⟩, ht⟩

/-! ### Stopped cores (R539, R541) -/

/-- The island `i` goes off, or is off, at `now`, where it was `before`. -/
structure Islands.GoesOff (before i : Islands) (now : Nat) : Prop where
  want : i.want = none
  phase : i.phase = .off ∨ i.phase = .stopping
  dwelt : before.phase = .on → before.since + us 10 ≤ now → i.phase = .off

theorem Islands.goesOff_coreAsk (i : Islands) (now : Nat) : i.GoesOff (i.coreAsk false now) now := by
  cases h : i.phase <;> simp only [Islands.coreAsk, h]
  case off => exact ⟨rfl, .inl rfl, fun hc => by simp [h] at hc⟩
  case stopping => exact ⟨rfl, .inr rfl, fun hc => by simp [h] at hc⟩
  case starting =>
    split
    · exact ⟨rfl, .inl rfl, fun _ _ => rfl⟩
    · exact ⟨rfl, .inr rfl, fun hc => by simp [h] at hc⟩
  case on =>
    split
    · exact ⟨rfl, .inl rfl, fun _ _ => rfl⟩
    next hw => exact ⟨rfl, .inr rfl, fun _ hd => absurd (decide_eq_true hd) hw⟩

theorem Islands.GoesOff.coreAsk {before i : Islands} {now : Nat} (h : before.GoesOff i now) : before.GoesOff (i.coreAsk false now) now := by
  have hsame : i.coreAsk false now = i := by
    obtain ⟨hw, hp | hp, _⟩ := h
    all_goals
      simp only [Islands.coreAsk, hp]
      rw [← hw, ← hp]
  rwa [hsame]

theorem State.each_coreIslAsk_keeps {n : Nat} {before : Islands} (hn : n < 16) (l : List Nat) (s : State)
    (h : before.GoesOff (s.coreIsl n) s.elapsed) : before.GoesOff ((s.each l (fun s n => s.coreIslAsk n false)).coreIsl n) s.elapsed := by
  induction l generalizing s with
  | nil => exact h
  | cons m l ih =>
    refine ih (s.coreIslAsk m false) ?_
    by_cases hm : n = m
    · subst hm
      rw [State.coreIslAsk, State.coreIsl_setCoreIsl_self _ _ hn]
      exact h.coreAsk
    · rw [State.coreIslAsk, State.coreIsl_setCoreIsl_ne _ _ hm]
      exact h

theorem State.each_coreIslAsk_off {n : Nat} (hn : n < 16) (l : List Nat) (s : State) (hl : n ∈ l) :
    (s.coreIsl n).GoesOff ((s.each l (fun s n => s.coreIslAsk n false)).coreIsl n) s.elapsed := by
  induction l generalizing s with
  | nil => cases hl
  | cons m l ih =>
    by_cases hm : n = m
    · subst hm
      refine State.each_coreIslAsk_keeps hn l (s.coreIslAsk n false) ?_
      rw [State.coreIslAsk, State.coreIsl_setCoreIsl_self _ _ hn]
      exact Islands.goesOff_coreAsk ..
    · have := ih (s.coreIslAsk m false) (List.mem_of_ne_of_mem hm hl)
      rwa [State.coreIslAsk, State.coreIsl_setCoreIsl_ne _ _ hm] at this

theorem State.coresStop_off {n : Nat} (hn : n < 16) (s : State) : (s.coreIsl n).GoesOff (s.coresStop.coreIsl n) s.elapsed := by
  have hi : (s.each (List.range 16) (fun s n => s.coreDrain n)).coreIsl n = s.coreIsl n :=
    State.each_same (fun t => t.coreIsl n) (fun t m => by simp only [State.coreIsl, State.coreDrain, State.drainAll_keeps ..]) s _
  have he : (s.each (List.range 16) (fun s n => s.coreDrain n)).elapsed = s.elapsed :=
    State.each_same (fun t => t.elapsed) (fun t m => by simp only [State.elapsed, State.coreDrain, State.drainAll_keeps ..]) s _
  have hl : n ∈ List.range 16 := List.mem_range.mpr hn
  unfold State.coresStop State.coreIslandsSet
  simp only [Bool.false_and]
  generalize List.range 16 = cores at *
  have := State.each_coreIslAsk_off hn cores (s.each cores (fun s n => s.coreDrain n)) hl
  rwa [hi, he] at this

theorem coreStopRequest_asked (hm : s.power.moving = some 2) : exec (.coreStopRequest dt) s = .next (s.advance dt).coresStop := by
  have hm' : (s.advance dt).power.moving = some 2 := by simpa only [State.advance_keeps ..] using hm
  rw [exec_coreStopRequest, execCoreStopRequest]
  simp [hm']

theorem coreStopRequest_idle (hm : s.power.moving ≠ some 2) (hd : s.power.shutdown = none) :
    exec (.coreStopRequest dt) s = .next (s.advance dt) := by
  have hm' : (s.advance dt).power.moving ≠ some 2 := by simpa only [State.advance_keeps ..] using hm
  have hc : (s.advance dt).commitDue = false := by
    have : (s.advance dt).power.shutdown = none := by simpa only [State.advance_keeps ..] using hd
    rw [State.commitDue, this]
  rw [exec_coreStopRequest, execCoreStopRequest]
  simp [hm', hc]

/-! ### The supply returns, and the start that follows (R543, R544) -/

theorem State.shutdownLow_relockGo (s : State) (p : Nat) : (s.relockGo p).pins.shutdownLow = s.pins.shutdownLow := by
  rw [State.relockGo]
  dsimp only
  split
  · rfl
  · simp only [State.femDrive, State.rxFollow_keeps .., State.setPort_keeps .., State.wrEdge_keeps ..]

theorem State.shutdownLow_portGo (n : Nat) (s : State) (p : Nat) : (State.portGo n s p).pins.shutdownLow = s.pins.shutdownLow := by
  induction n generalizing s with
  | zero => rfl
  | succ n ih =>
    simp only [State.portGo]
    split
    · rfl
    · split
      · exact State.shutdownLow_relockGo ..
      · split
        · rfl
        · split
          · split
            · rw [ih]
              simp only [State.portSettle_keeps ..]
            · rfl
          · split
            · rfl
            · simp only [State.setPort_keeps ..]
              split
              · simp only [State.preempt_keeps ..]
              · rfl

/-- What raising the ports leaves: nothing of a port's run changes it. -/
theorem State.raisePorts_same {α : Type} (g : State → α) (hset : ∀ (t : State) p x, g (t.setPort p x) = g t)
    (hrun : ∀ (t : State) p, g (t.portRun p) = g t) (s : State) : g s.raisePorts = g s := by
  unfold State.raisePorts
  extract_lets plan
  refine State.each_same g (fun t p => ?_) s _
  split
  · rw [hrun, hset]
  · rfl

theorem State.coreIslandsSet_same {α : Type} (g : State → α) (h : ∀ (t : State) n i, g (t.setCoreIsl n i) = g t) (s : State) (on : Bool) :
    g (s.coreIslandsSet on) = g s := by
  unfold State.coreIslandsSet
  exact State.each_same g (fun t n => h ..) s _

theorem State.shutAbandon_same {α : Type} (g : State → α) (hpow : ∀ (t : State) (x : Power), g (t.setPower x) = g t)
    (hisl : ∀ (t : State) n i, g (t.setCoreIsl n i) = g t) (hset : ∀ (t : State) p x, g (t.setPort p x) = g t)
    (hrun : ∀ (t : State) p, g (t.portRun p) = g t) (s : State) (d : Shutdown) : g (s.shutAbandon d) = g s := by
  unfold State.shutAbandon
  extract_lets +onlyGivenNames power ended going
  have hgoing : g going = g s := by
    unfold going
    split
    · rw [State.watchdogStart, hpow, State.coreIslandsSet_same g hisl, hpow]
    · exact hpow ..
  split
  · rw [State.raisePorts_same g hset hrun, hgoing]
  · exact hgoing

theorem State.shutdown_shutAbandon (s : State) (d : Shutdown) : (s.shutAbandon d).power.shutdown = none := by
  unfold State.shutAbandon
  extract_lets +onlyGivenNames power ended going
  have hgoing : going.power.shutdown = none := by
    unfold going
    split
    · exact State.coreIslandsSet_same (fun t => t.power.shutdown) (fun _ _ _ => rfl) ended true
    · rfl
  split
  · rw [State.raisePorts_same (fun t => t.power.shutdown) (fun _ _ _ => rfl) (fun t p => by simp only [State.portRun_keeps ..]), hgoing]
  · exact hgoing

theorem State.shutdown_coresStart (s : State) : s.coresStart.power.shutdown = s.power.shutdown := by
  unfold State.coresStart
  simp only [State.power_setPower]
  rw [State.each_same (fun t => t.power.shutdown), State.each_same (fun t => t.power.shutdown), State.each_same (fun t => t.power.shutdown)]
  · intro t n
    simp only [State.wr_keeps .., State.setCore_keeps ..]
  · intro t n
    simp only [State.wr_keeps ..]
  · intro t n
    rfl

theorem State.coldBegin_leaves (s : State) : (s.coldBegin bad).power.shutdown = none ∧
    (s.coldBegin bad).pins.shutdownLow = s.pins.shutdownLow := by
  unfold State.coldBegin
  extract_lets +onlyGivenNames checked cause lost down clocked power begun dict loaded strapped selected
  constructor
  · simp only [State.shutdown_coresStart, State.resetCinch_keeps .., State.conStart_keeps .., State.keeperCold_keeps .., State.portsStart_keeps ..,
      State.txLimits_keeps .., State.stampCheck_keeps .., State.vbatPosts_keeps ..]
    simp only [selected, State.treeSelect_keeps .., strapped, State.wr_keeps ..]
    rfl
  · simp only [State.coresStart_keeps .., State.resetCinch_keeps .., State.conStart_keeps .., State.keeperCold_keeps .., State.portsStart_keeps ..,
      State.txLimits_keeps .., State.stampCheck_keeps .., State.vbatPosts_keeps ..]
    simp only [selected, State.treeSelect_keeps .., strapped, State.wr_keeps ..]
    rfl

theorem State.shutStart_waits (ho : d.over s.power.rails = false) : s.shutStart d bad = s.setPower { s.power with shutdown := some d } := by
  rw [State.shutStart]
  simp only [State.power_setPower, ho, Bool.false_and, Bool.false_eq_true, if_false]

theorem State.shutStart_starts (ho : d.over s.power.rails = true) (hr : s.pins.resetLow = false) :
    (s.shutStart d bad).power.shutdown = none ∧ (∃ st, (s.shutStart d bad).power.start = some st ∧ st.cold = true) ∧
    (s.shutStart d bad).pins.shutdownLow = s.pins.shutdownLow := by
  have he : s.shutStart d bad = (s.setPower { s.power with shutdown := some d }).coldBegin bad := by
    rw [State.shutStart]
    have hr' : (s.setPower { s.power with shutdown := some d }).pins.resetLow = false := hr
    simp only [State.power_setPower, ho, hr', Bool.not_false, Bool.and_self, if_true]
  rw [he]
  obtain ⟨hd, hp⟩ := (s.setPower { s.power with shutdown := some d }).coldBegin_leaves (bad := bad)
  obtain ⟨_, _, st, hs, hc, _⟩ := (s.setPower { s.power with shutdown := some d }).coldBegin_start bad
  exact ⟨hd, ⟨st, hs, hc⟩, hp⟩

theorem exec_supplyReturn_none (h : s.power.shutdown = none) : exec (.supplyReturn bad) s =
    .next ({ s with pins := { s.pins with shutdownLow := false } }.setPower { s.power with held := s.power.held && s.power.cause == some 5 }) := by
  rw [exec_supplyReturn, execSupplyReturn]
  simp only [h]

theorem exec_supplyReturn_running (h : s.power.shutdown = some d) (hr : d.phase = .running) (ht : d.thermal = false) :
    exec (.supplyReturn bad) s = .next ({ s with pins := { s.pins with shutdownLow := false } }.shutAbandon d) := by
  rw [exec_supplyReturn, execSupplyReturn]
  simp only [h, hr, ht, Bool.false_eq_true, if_false]

theorem exec_supplyReturn_committed (h : s.power.shutdown = some d) (hr : d.phase = .committed) :
    exec (.supplyReturn bad) s = .next ({ s with pins := { s.pins with shutdownLow := false } }.shutStart { d with returned := true } bad) := by
  rw [exec_supplyReturn, execSupplyReturn]
  simp only [h, hr]

theorem exec_offTimeEnd_over (h : s.power.shutdown = some d) (hr : d.phase = .committed) (hw : d.committedAt + ms 50 ≤ (s.advance dt).elapsed) :
    exec (.offTimeEnd bad dt) s = .next ((s.advance dt).shutStart { d with offDone := true } bad) := by
  have h' : (s.advance dt).power.shutdown = some d := by simpa only [State.advance_keeps ..] using h
  rw [exec_offTimeEnd, execOffTimeEnd]
  simp only [h', if_pos (And.intro hr hw)]

theorem exec_offTimeEnd_early (h : s.power.shutdown = some d) (hw : (s.advance dt).elapsed < d.committedAt + ms 50) :
    exec (.offTimeEnd bad dt) s = .next (s.advance dt) := by
  have h' : (s.advance dt).power.shutdown = some d := by simpa only [State.advance_keeps ..] using h
  rw [exec_offTimeEnd, execOffTimeEnd]
  simp only [h', if_neg (fun hc : d.phase = .committed ∧ d.committedAt + ms 50 ≤ (s.advance dt).elapsed => absurd hc.2 (Nat.not_le.mpr hw))]

/-! ### The settled statement -/

/-- Settles O53: a trigger shuts every port, the commit follows its time, and a supply that returns abandons it or starts the device. -/
theorem shutdown : Obligations.Shutdown := by
  refine ⟨?trigger, ?ramps, ?held, ?commit, ?early, ?stop, ?idle, ?abandon, ?back, ?start, ?offWaits, ?offStarts, ?offEarly, ?lossRunning,
    ?loss, ?trip, ?tripDown, ?cool⟩
  case trigger =>
    intro b s h0 h1 h2
    obtain ⟨hp, hd, hc, _⟩ := s.triggered_same (b := b)
    rw [exec_shutdownTrigger_eq, State.shutTrigger_runs (by rw [hp, h0]) (by rw [hd, h1]) (by rw [hp, h2]), gives_next]
    obtain ⟨hs, hm, _⟩ := (s.triggered b).shutRun_begins false
    refine ⟨⟨_, hs, rfl, rfl, ?_, ?_⟩, hm, fun p => State.portTarget_of_shutdown hs p⟩
    · exact congrArg Clock.elapsed hc
    · simp only [State.shutFresh, State.pwr, hp, State.rd_of_nums (congrArg Dictionary.nums hd)]
  case ramps =>
    intro b p n j s h0 h1 h2 hm hp hn hj ha
    obtain ⟨hpow, hd, hc, hr⟩ := s.triggered_same (b := b)
    have htx : (s.triggered b).tx n = s.tx n := by rw [State.tx, hr]; rfl
    have hair : n ∈ (s.triggered b).airOn p := by
      rw [State.mem_airOn, htx, State.rd_of_nums (congrArg Dictionary.nums hd)]
      exact State.mem_airOn.mp hn
    rw [exec_shutdownTrigger_eq, State.shutTrigger_runs (by rw [hpow, h0]) (by rw [hd, h1]) (by rw [hpow, h2]), gives_next]
    have := State.shutRun_ramps (s := s.triggered b) (by rw [hpow, hm]) hp hair (htx ▸ hj) ha false
    rwa [State.elapsed, hc] at this
  case held =>
    intro b s h
    obtain ⟨hp, _, _, hr⟩ := s.triggered_same (b := b)
    rw [exec_shutdownTrigger_eq, State.shutTrigger, hp, if_pos (Option.isSome_iff_ne_none.mpr h), gives_next]
    exact ⟨rfl, hr⟩
  case commit =>
    intro dt d s hd hr hw
    rw [retentionCommit_due hd hr hw, gives_next]
    have := (s.advance dt).committedFrom_holds d
    rwa [State.shutSeq_advance, show (s.advance dt).tree = s.tree by simp only [State.advance_keeps ..]] at this
  case early =>
    intro dt d s hd hr hw
    rw [retentionCommit_early hd hr hw, gives_next]
  case stop =>
    intro dt s hm
    rw [coreStopRequest_asked hm, gives_next]
    intro n hn
    have hg := State.coresStop_off hn (s.advance dt)
    rw [show (s.advance dt).coreIsl n = s.coreIsl n by simp only [State.coreIsl, State.advance_keeps ..]] at hg
    exact ⟨hg.want, hg.phase, hg.dwelt⟩
  case idle =>
    intro dt s hm hd
    rw [coreStopRequest_idle hm hd, gives_next]
  case abandon =>
    intro bad d s h hr ht
    rw [exec_supplyReturn_running h hr ht, gives_next]
    generalize hu : { s with pins := { s.pins with shutdownLow := false } } = u
    have hlow : u.pins.shutdownLow = false := by rw [← hu]
    have hready : u.dict.ready = s.dict.ready := by rw [← hu]
    refine ⟨u.shutdown_shutAbandon d, ?_, ?_⟩
    · exact (State.shutAbandon_same (fun t => t.pins.shutdownLow) (fun _ _ => rfl) (fun _ _ _ => rfl) (fun _ _ _ => rfl)
        (fun t p => State.shutdownLow_portGo 8 t p) u d).trans hlow
    · exact (State.shutAbandon_same (fun t => t.dict.ready) (fun _ _ => rfl) (fun _ _ _ => rfl) (fun _ _ _ => rfl)
        State.ready_portRun u d).trans hready
  case back =>
    intro bad s h
    rw [exec_supplyReturn_none h, gives_next]
    exact ⟨rfl, rfl⟩
  case start =>
    intro bad d s h hr ho ht hl
    rw [exec_supplyReturn_committed h hr, gives_next]
    exact State.shutStart_starts (by simp [Shutdown.over, ho, ht]) hl
  case offWaits =>
    intro bad dt d s h hr hw hret hrails
    rw [exec_offTimeEnd_over h hr hw, State.shutStart_waits, gives_next]
    · exact ⟨rfl, by simp only [State.power_setPower, State.advance_keeps ..]⟩
    · rw [show (s.advance dt).power = s.power by simp only [State.advance_keeps ..]]
      simp [Shutdown.over, hret, hrails]
  case offStarts =>
    intro bad dt d s h hr hw hret ht hl
    rw [exec_offTimeEnd_over h hr hw, gives_next]
    obtain ⟨hn, hs, _⟩ := State.shutStart_starts (bad := bad) (s := s.advance dt) (d := { d with offDone := true })
      (by simp [Shutdown.over, hret, ht]) (by simpa only [State.advance_keeps ..] using hl)
    exact ⟨hn, hs⟩
  case offEarly =>
    intro bad dt d s h hw
    rw [exec_offTimeEnd_early h hw, gives_next]
  case lossRunning =>
    intro d s h hr
    rw [exec_lossOfPower, execLossOfPower]
    simp only [State.power_setPower, h, hr, reduceCtorEq, if_false]
    rw [gives_next]
    exact ⟨rfl, State.rd_wr_self .., rfl, rfl, rfl⟩
  case loss =>
    intro s ha h
    rw [exec_lossOfPower, execLossOfPower]
    simp only [State.power_setPower, h]
    rw [if_pos ?alive, gives_next]
    case alive => exact ha
    exact ⟨rfl, State.rd_wr_self .., rfl, rfl, rfl, rfl⟩
  case trip =>
    intro s h1 h0 h2
    have ha : s.alive = true := by rw [State.alive, h1, Bool.true_or]
    have he : exec .thermalTrip s = .next ((s.setPower { s.power with cause := some 5 }).shutRun true) := by
      rw [exec_thermalTrip, execThermalTrip, if_pos ha]
      exact congrArg Host.Outcome.next (State.shutTrigger_runs (s := s.setPower { s.power with cause := some 5 }) h0 h1 h2 true)
    rw [he, gives_next]
    obtain ⟨hs, _, hc⟩ := (s.setPower { s.power with cause := some 5 }).shutRun_begins true
    exact ⟨hc, _, hs, rfl, rfl⟩
  case tripDown =>
    intro s h
    rw [exec_thermalTrip, execThermalTrip, h, if_neg Bool.false_ne_true, gives_next]
  case cool =>
    intro bad d s h hr ht ho
    rw [exec_thermalCool, execThermalCool]
    simp only [h, if_pos (And.intro hr ht)]
    rw [State.shutStart_waits (by simp [Shutdown.over, ho]), gives_next]
    exact ⟨rfl, rfl⟩

end Sys2Proof.Machine
end

section
/-! ## O11: the Stamp lock and the antenna diagnosis -/

namespace Sys2Proof.Machine

variable {s : State} {dt : Nat}

/-! ### The Stamp lock (R152) -/

theorem stampLock_runs (hb : s.cmdBlocked Key.stampLockRes = false) (hl : s.radio.locking = false) :
    exec .stampLock s = .next s.stampLock := by
  rw [exec_stampLock, execStampLock, hb, hl, Bool.or_self, if_neg Bool.false_ne_true]

theorem any_ports_iff {f : Nat → Bool} : (List.range 4).any f = true ↔ ∃ p, p < 4 ∧ f p = true := by
  simp only [List.any_eq_true, List.mem_range]

theorem State.stampLock_locked (h : s.fuses.locked ≠ none) : s.stampLock = s.resEnd Key.stampLockRes 3 := by
  rw [State.stampLock, if_pos (Option.isSome_iff_ne_none.mpr h)]

section

variable (h : s.fuses.locked = none)
include h

theorem State.stampLock_failed (hf : s.fuses.failed = true) : s.stampLock = s.resEnd Key.stampLockRes 2 := by
  rw [State.stampLock, h, Option.isSome_none, if_neg Bool.false_ne_true, if_pos hf]

theorem State.stampLock_empty (hf : s.fuses.failed = false) (he : ∃ p, p < 4 ∧ s.dom (Key.stampPort p) = []) :
    s.stampLock = s.resEnd Key.stampLockRes 1 := by
  have ha : (List.range 4).any (fun p => (s.dom (Key.stampPort p)).isEmpty) = true :=
    any_ports_iff.mpr (by simpa only [List.isEmpty_iff] using he)
  rw [State.stampLock, h, hf, Option.isSome_none, if_neg Bool.false_ne_true, if_neg Bool.false_ne_true, if_pos ha]

theorem State.stampLock_begins (hf : s.fuses.failed = false) (he : ∀ p, p < 4 → s.dom (Key.stampPort p) ≠ []) :
    s.stampLock = (s.resBegin Key.stampLockRes).setRadio { s.radio with locking := true } := by
  have ha : ¬ (List.range 4).any (fun p => (s.dom (Key.stampPort p)).isEmpty) = true := fun hc => by
    obtain ⟨p, hp, hd⟩ := any_ports_iff.mp hc
    exact he p hp (List.isEmpty_iff.mp hd)
  rw [State.stampLock, h, hf, Option.isSome_none, if_neg Bool.false_ne_true, if_neg Bool.false_ne_true, if_neg ha]

end

/-! ### The antenna diagnosis (R155 to R157) -/

theorem State.rd_setPort (s : State) (p k : Nat) (x : Port) : (s.setPort p x).rd k = s.rd k := State.rd_of_nums rfl _

theorem State.rd_antOpenNow (s : State) (p : Nat) : (s.antOpenNow p).rd (Key.portAntState p) = antOpen := by
  rw [State.antOpenNow, State.portPost, State.post_rd (by simp), State.rd_wr_self]

theorem pdMeasure_unused {p : Fin 4} {f r : Int} (h : f + (bits (s.port p).fem 8 6 : Int) * 65536 < 0) :
    exec (.pdMeasure p f r dt) s = .next (s.advance dt) := by
  rw [exec_pdMeasure, execPdMeasure]
  have hp : (s.advance dt).port p = s.port p := by simp only [State.port, State.advance_keeps ..]
  simp only [hp, h, or_true, if_true]

theorem pdMeasure_starved {p : Fin 4} {f r : Int} (hu : s.pdUsed p = true) (hb : (s.advance dt).burstSteady p = true)
    (hf : 0 ≤ f + (bits (s.port p).fem 8 6 : Int) * 65536) (ha : s.rd (Key.portAntState p) = 3) :
    Gives (exec (.pdMeasure p f r dt) s) fun t => t.rd (Key.portAntState p) = if f - r < 3 * 65536 then 2 else 1 := by
  have hp : (s.advance dt).port p = s.port p := by simp only [State.port, State.advance_keeps ..]
  have hu' : (s.advance dt).pdUsed p = true := by rw [State.pdUsed, hp]; exact hu
  have ha' : (s.advance dt).rd (Key.portAntState p) = 3 :=
    (State.rd_of_nums (by simp only [State.advance_keeps ..]) _).trans ha
  rw [exec_pdMeasure, execPdMeasure]
  generalize s.advance dt = u at *
  simp only [hp, hu', hb, Bool.not_true, Bool.false_eq_true, false_or, if_neg (not_lt.mpr hf), add_sub_add_right_eq_sub]
  rw [if_pos ?starved, gives_next]
  case starved =>
    rw [State.rd_wr_of_fam _ _ (by simp), State.rd_wr_of_fam _ _ (by simp), State.rd_setPort]
    exact ha'
  split
  · exact State.rd_antOpenNow ..
  · exact State.rd_wr_self ..

theorem portStarved_starves {p : Fin 4} (hu : (s.advance dt).pdUsed p = true) (hp : 2 ≤ s.pstate p) (ha : s.rd (Key.portAntState p) ≠ 3)
    (hd : (s.port p).diagSince + ms 10000 ≤ (s.advance dt).elapsed) : Gives (exec (.portStarved p dt) s) fun t =>
    t.rd (Key.portAntState p) = 3 ∧ t.rd (Key.portStarved p) = satAdd u32Max (s.rd (Key.portStarved p)) 1 := by
  have hrd (k : Nat) : (s.advance dt).rd k = s.rd k := State.rd_of_nums (by simp only [State.advance_keeps ..]) k
  have hport : (s.advance dt).port p = s.port p := by simp only [State.port, State.advance_keeps ..]
  have hcond : (s.advance dt).pdUsed p = true ∧ 2 ≤ (s.advance dt).pstate p ∧ (s.advance dt).rd (Key.portAntState p) ≠ antStarved ∧
      ((s.advance dt).port p).diagSince + ms 10000 ≤ (s.advance dt).elapsed :=
    ⟨hu, by rwa [State.pstate, hrd], by rwa [hrd], by rwa [hport]⟩
  rw [exec_portStarved, execPortStarved]
  generalize s.advance dt = u at *
  rw [if_pos hcond, gives_next, State.portPost, State.post_rd (by simp), State.post_rd (by simp), State.rd_bump_of_fam _ _ (by simp),
    State.rd_wr_self, State.rd_bump_self, State.rd_wr_of_fam _ _ (by simp), hrd]
  exact ⟨rfl, rfl⟩

/-! ### The settled statement -/

/-- Settles O11: the cases of the Stamp lock and its end, and of one measured or starved antenna. -/
theorem antennaAndStamp : Obligations.AntennaAndStamp := by
  refine ⟨?begins, ?empty, ?failed, ?locked, ?done, ?notDone, ?measured, ?weak, ?starved⟩
  case begins =>
    intro s hb hl h hf he
    rw [stampLock_runs hb hl, State.stampLock_begins h hf he, gives_next]
    exact ⟨rfl, (congrArg (·.busy) (State.res_resBegin_self s Key.stampLockRes) :), rfl⟩
  case empty =>
    intro s hb hl h hf he
    rw [stampLock_runs hb hl, State.stampLock_empty h hf he, gives_next, State.res_resEnd_self]
    exact ⟨hl, rfl, rfl⟩
  case failed =>
    intro s hb hl h hf
    rw [stampLock_runs hb hl, State.stampLock_failed h hf, gives_next, State.res_resEnd_self]
    exact ⟨rfl, rfl⟩
  case locked =>
    intro s hb hl h
    rw [stampLock_runs hb hl, State.stampLock_locked h, gives_next, State.res_resEnd_self]
    exact ⟨rfl, rfl⟩
  case done =>
    intro s hl
    rw [exec_stampLockDone, execStampLockDone, hl, Bool.not_true, if_neg Bool.false_ne_true, if_pos rfl, gives_next, State.res_resEnd_self]
    exact ⟨rfl, (State.rd_of_nums (s := s.setFuses _ |>.wr Key.stampLocked 1) rfl _).trans (State.rd_wr_self ..), rfl⟩
  case notDone =>
    intro s hl
    rw [exec_stampLockDone, execStampLockDone, hl, Bool.not_true, if_neg Bool.false_ne_true, if_neg Bool.false_ne_true, gives_next,
      State.res_resEnd_self]
    exact ⟨rfl, rfl, State.rd_of_nums rfl _, rfl⟩
  case measured =>
    intro p f r dt s hu hb hf ha
    exact pdMeasure_starved hu hb hf ha
  case weak =>
    intro p f r dt s h
    rw [pdMeasure_unused h, gives_next]
  case starved =>
    intro p dt s hu hp ha hd
    exact portStarved_starves hu hp ha hd

end Sys2Proof.Machine
end

section
/-! ## O36: chain time is stepped, set, disciplined, held over and saved (R432 to R446) -/

namespace Sys2Proof.Machine

variable {s : State} {dt : Nat} {delta off : Int}

/-! ### What leaves no dictionary transaction leaves the epoch check nothing to do -/

theorem State.epochCheck_of_no_txn (h : s.dict.txn = none) : s.epochCheck = s := by
  rw [State.epochCheck, h]

theorem State.rd_resEnd (s : State) (k c : Nat) (d : Bytes) (j : Nat) : (s.resEnd k c d).rd j = s.rd j := State.rd_of_nums rfl _

theorem State.txn_post (s : State) (c : Err) (src a a2 d : Nat) : (s.post c src a a2 d).dict.txn = s.dict.txn := by
  unfold State.post State.postSev State.logErr
  simp only
  split_ifs <;> simp only [State.raise_keeps .., State.strapPush_keeps .., State.wr_keeps .., State.bump_keeps .., State.journalAdd_keeps ..,
    State.run32_keeps ..]

theorem txn_advance (h : s.dict.txn = none) (dt : Nat) : (s.advance dt).dict.txn = none := by
  simpa only [State.advance_keeps ..] using h

theorem State.clock_advance (s : State) (dt : Nat) : (s.advance dt).clock = counterAfter s.clock s.increment dt := by
  simp only [State.advance]

/-- Time that passes leaves the clock's mode. -/
theorem State.mode_advance (s : State) (dt : Nat) : (s.advance dt).clock.state = s.clock.state ∧
    (s.advance dt).clock.lastSample = s.clock.lastSample ∧ (s.advance dt).clock.syncUs = s.clock.syncUs ∧
    (s.advance dt).clock.integ = s.clock.integ := by
  simp only [State.clock_advance, counterAfter, and_self]

/-! ### A step of chain time (R437) -/

/-- The clock as `State.stepTo` sets it. -/
def State.steppedClock (s : State) (ns frac : Nat) : Clock :=
  { s.clock with sec := (nsToTime ns).sec, ns := (nsToTime ns).ns, frac := frac,
                 stepGen := if s.isHead then (s.clock.stepGen + 1) % 65536 else s.clock.stepGen }

/-- What a step from the time `was` does with one pulse output. -/
def State.pulseFollow (was : Nat) : State → Nat → State := fun s k => if s.nowNs < was then s.pulseBack k else s.pulseFire k

theorem State.clock_pulseFollow (was : Nat) (s : State) (k : Nat) : (State.pulseFollow was s k).clock = s.clock := by
  unfold State.pulseFollow
  split
  · simp only [State.pulseBack_keeps ..]
  · simp only [State.pulseFire_keeps ..]

theorem State.clock_each_pulseFollow (s : State) (was : Nat) (l : List Nat) : (s.each l (State.pulseFollow was)).clock = s.clock :=
  State.each_same (fun t => t.clock) (State.clock_pulseFollow was) s l

theorem State.stepTo_eq (s : State) (ns frac : Nat) :
    s.stepTo ns frac = { s with clock := s.steppedClock ns frac }.each [0, 1, 2, 3] (State.pulseFollow s.nowNs) := rfl

theorem State.clock_stepTo (s : State) (ns frac : Nat) : (s.stepTo ns frac).clock = s.steppedClock ns frac := by
  rw [State.stepTo_eq, State.clock_each_pulseFollow]

theorem nsToTime_of_parts {sec ns : Nat} (hs : sec < 281474976710656) (hn : ns < 1000000000) :
    nsToTime (sec * 1000000000 + ns) = { sec := sec, ns := ns } := by
  have h1 : (sec * 1000000000 + ns) / 1000000000 % 2 ^ 48 = sec := by omega
  have h2 : (sec * 1000000000 + ns) % 1000000000 = ns := by omega
  rw [nsToTime, h1, h2]

theorem nowNs_nsToTime {n : Nat} (h : n < 2 ^ 48 * 1000000000) :
    (nsToTime n).sec * 1000000000 + (nsToTime n).ns = n := by
  have hs : n / 1000000000 < 2 ^ 48 := Nat.div_lt_of_lt_mul (by omega)
  simp only [nsToTime]
  omega

theorem State.nowNs_stepTo (s : State) {ns : Nat} (h : ns < 2 ^ 48 * 1000000000) (frac : Nat) : (s.stepTo ns frac).nowNs = ns := by
  rw [State.nowNs, State.clock_stepTo]
  exact nowNs_nsToTime h

section

variable (hb : s.cmdBlocked Key.timeStepRes = false)
include hb

theorem timeStep_runs (ht : (s.timeStep delta).dict.txn = none) : exec (.timeStep delta) s = .next (s.timeStep delta) := by
  rw [exec_timeStep, execTimeStep, hb, if_neg Bool.false_ne_true, State.epochCheck_of_no_txn ht]

end

theorem State.timeStep_locked (h : s.clock.state = 1 ∨ s.clock.state = 2) :
    s.timeStep delta = (s.resBegin Key.timeStepRes).resEnd Key.timeStepRes 2 := by
  have h' : (s.resBegin Key.timeStepRes).clock.state = 1 ∨ (s.resBegin Key.timeStepRes).clock.state = 2 := h
  rw [State.timeStep]
  rw [if_pos h']

section

variable (h : s.clock.state = 0 ∨ s.clock.state = 3)
include h

theorem State.timeStep_refused (hl : s.rd Key.timeJumpLimitNs < delta.natAbs) : s.timeStep delta =
    (((s.resBegin Key.timeStepRes).bump Key.jumpRefused).post .jumpRefused 0x1800 (toRaw 64 delta) 2 timeDom).resEnd Key.timeStepRes 1 := by
  have h' : ¬ ((s.resBegin Key.timeStepRes).clock.state = 1 ∨ (s.resBegin Key.timeStepRes).clock.state = 2) := by
    simp only [State.resBegin_keeps ..]
    omega
  have hl' : (s.resBegin Key.timeStepRes).rd Key.timeJumpLimitNs < delta.natAbs := hl
  rw [State.timeStep]
  rw [if_neg h', if_pos hl']

theorem State.timeStep_steps (hl : delta.natAbs ≤ s.rd Key.timeJumpLimitNs) : s.timeStep delta =
    ((s.resBegin Key.timeStepRes).stepBy delta).resEnd Key.timeStepRes 0 := by
  have h' : ¬ ((s.resBegin Key.timeStepRes).clock.state = 1 ∨ (s.resBegin Key.timeStepRes).clock.state = 2) := by
    simp only [State.resBegin_keeps ..]
    omega
  have hl' : ¬ (s.resBegin Key.timeStepRes).rd Key.timeJumpLimitNs < delta.natAbs := Nat.not_lt.mpr hl
  rw [State.timeStep]
  rw [if_neg h', if_neg hl']

end

theorem State.stepBy_eq (h0 : 0 ≤ (s.nowNs : Int) + delta) (h1 : (s.nowNs : Int) + delta < 2 ^ 48 * 1000000000) :
    ∃ n : Nat, (n : Int) = s.nowNs + delta ∧ n < 2 ^ 48 * 1000000000 ∧ s.stepBy delta = s.stepTo n s.clock.frac := by
  refine ⟨((s.nowNs : Int) + delta).toNat, Int.toNat_of_nonneg h0, by omega, ?_⟩
  rw [State.stepBy, Int.emod_eq_of_lt h0 (by simpa only [chainWrap, Nat.cast_mul, Nat.cast_pow, Nat.cast_ofNat] using h1)]

/-! ### The time is set (R434) -/

section

variable {sec : Fin 281474976710656} {ns : Fin 1000000000} (ht : s.dict.txn = none)
include ht

theorem timeSet_idle (hh : s.isHead = false) : exec (.timeSet sec ns) s = .next s := by
  rw [exec_timeSet, execTimeSet, State.timeSetTo, hh, if_neg Bool.false_ne_true, State.epochCheck_of_no_txn ht, ite_self]

theorem timeSet_sets (hb : s.cmdBlocked Key.timeSetRes = false) (hh : s.isHead = true) : exec (.timeSet sec ns) s =
    .next (((s.resBegin Key.timeSetRes).stepTo (sec * 1000000000 + ns) 0).resEnd Key.timeSetRes 0) := by
  have hn : (((s.resBegin Key.timeSetRes).stepTo (sec * 1000000000 + ns) 0).resEnd Key.timeSetRes 0).dict.txn = none := by
    simpa only [State.resEnd_keeps .., State.stepTo_keeps .., State.resBegin_keeps ..] using ht
  rw [exec_timeSet, execTimeSet, hb, if_neg Bool.false_ne_true, State.timeSetTo, if_pos hh]
  exact congrArg _ (State.epochCheck_of_no_txn hn)

end

/-! ### IEEE 1588 samples (R441, R446) -/

theorem State.ptpSample_ignored {x : PtpExchange} (h : s.isHead = false ∨ s.rd Key.timeSource ≠ 1 ∨ s.ptpPort = none) :
    s.ptpSample x = s := by
  rw [State.ptpSample, if_neg]
  rintro hc
  simp only [Bool.and_eq_true, beq_iff_eq] at hc
  obtain ⟨⟨hh, hs⟩, hp⟩ := hc
  obtain h | h | h := h
  · simp only [State.isHead, beq_eq_false_iff_ne] at h
    exact h hh
  · exact h hs
  · simp [h] at hp

/-- The state of a sample that a head of IEEE 1588 takes in state 2. -/
structure State.PtpReady (s : State) : Prop where
  head : s.isHead = true
  source : s.rd Key.timeSource = 1
  port : s.ptpPort ≠ none
  txn : s.dict.txn = none
  locked : s.clock.state = 2

theorem State.PtpReady.advance (h : s.PtpReady) (dt : Nat) : (s.advance dt).PtpReady where
  head := by simpa only [State.isHead, State.advance_keeps ..] using h.head
  source := by simpa only [State.advance_keeps ..] using h.source
  port := by simpa only [State.ptpPort, State.advance_keeps ..] using h.port
  txn := txn_advance h.txn dt
  locked := (s.mode_advance dt).1.trans h.locked

/-- The offset as the clock shows it, and the synchronisation interval of the exchange. -/
def State.ptpShown (s : State) (x : PtpExchange) : State :=
  { s with clock := { s.clock with syncUs := x.syncUs } }.wr Key.timeOffsetNs
    (toRaw 32 (max (-2147483648) (min 2147483647 (ptpOffset x))))

theorem State.PtpReady.sampled {x : PtpExchange} (h : s.PtpReady) :
    s.ptpSample x = ((s.ptpShown x).sampleRow (ptpOffset x) false true).timeEdge 2 := by
  have hc : (s.isHead && s.rd Key.timeSource == 1 && s.ptpPort.isSome) = true := by
    rw [h.head, h.source, Option.isSome_iff_ne_none.mpr h.port]
    rfl
  rw [State.ptpSample, if_pos hc, State.sample]
  exact congrArg _ h.locked

theorem State.PtpReady.limit {x : PtpExchange} (h : s.PtpReady) : (s.ptpShown x).jumpAllowed = s.rd Key.timeJumpLimitNs := by
  have hs : (s.ptpShown x).clock.state = 2 := h.locked
  rw [State.jumpAllowed, hs, if_neg (by decide)]
  exact State.rd_wr_of_fam _ _ (by simp)

theorem State.PtpReady.row_servo {x : PtpExchange} (h : s.PtpReady) (hl : (ptpOffset x).natAbs ≤ s.rd Key.timeJumpLimitNs)
    (hk : (ptpOffset x).natAbs ≤ 1000) : (s.ptpShown x).sampleRow (ptpOffset x) false true = ((s.ptpShown x).accepted 2).servo (ptpOffset x) := by
  have hs : (s.ptpShown x).clock.state = 2 := h.locked
  rw [State.sampleRow, hs, if_neg (by decide), if_neg Bool.false_ne_true, h.limit, if_neg (Nat.not_lt.mpr hl)]
  exact if_neg (Nat.not_lt.mpr hk)

theorem State.PtpReady.row_refused {x : PtpExchange} (h : s.PtpReady) (hl : s.rd Key.timeJumpLimitNs < (ptpOffset x).natAbs) :
    (s.ptpShown x).sampleRow (ptpOffset x) false true = (s.ptpShown x).sampleRefused (ptpOffset x) true := by
  have hs : (s.ptpShown x).clock.state = 2 := h.locked
  rw [State.sampleRow, hs, if_neg (by decide), if_neg Bool.false_ne_true, h.limit, if_pos hl]

/-- The post that says a sample was refused. -/
def State.jumpPosted (s : State) (off : Int) : State :=
  ({ s with clock := { s.clock with state := 3, heldSince := s.clock.elapsed, posted := true } }).post .jumpRefused 0x1800 (toRaw 64 off) 1 timeDom

theorem State.sampleRefused_locked (h : s.clock.state = 2) : s.sampleRefused off true = (s.bump Key.jumpRefused).jumpPosted off := by
  have hs : (s.bump Key.jumpRefused).clock.state = 2 := h
  have hn : ¬ (s.bump Key.jumpRefused).clock.state = 3 := by
    rw [hs]
    decide
  rw [State.sampleRefused, if_neg hn]
  rfl

theorem State.sampleRefused_holds (h : s.clock.state = 2) : (s.sampleRefused off true).clock.state = 3 ∧
    (s.sampleRefused off true).rd Key.jumpRefused = satAdd u32Max (s.rd Key.jumpRefused) 1 ∧
    (s.sampleRefused off true).dict.txn = s.dict.txn := by
  rw [State.sampleRefused_locked h, State.jumpPosted]
  refine ⟨by simp only [State.post_keeps ..], ?_, ?_⟩
  · rw [State.post_rd (by simp)]
    exact State.rd_bump_self ..
  · rw [State.txn_post]
    rfl

theorem State.PtpReady.servo_holds {x : PtpExchange} (h : s.PtpReady) (hl : (ptpOffset x).natAbs ≤ s.rd Key.timeJumpLimitNs)
    (hk : (ptpOffset x).natAbs ≤ 1000) : (s.ptpSample x).clock.state = 2 ∧
      (s.ptpSample x).clock.integ = corrClamp (s.clock.integ + ptpOffset x) ∧
      (s.ptpSample x).clock.corr = corrClamp (corrClamp (s.clock.integ + ptpOffset x) + 8 * ptpOffset x) ∧
      (s.ptpSample x).nowNs = s.nowNs ∧ (s.ptpSample x).clock.lastSample = s.elapsed ∧ (s.ptpSample x).clock.syncUs = x.syncUs ∧
      (s.ptpSample x).dict.txn = none := by
  rw [h.sampled, h.row_servo hl hk]
  simp only [State.timeEdge_keeps .., State.servo, State.accepted, State.ptpShown, State.wr_keeps .., State.nowNs, State.elapsed, h.txn, and_self]

theorem State.PtpReady.refused_holds {x : PtpExchange} (h : s.PtpReady) (hl : s.rd Key.timeJumpLimitNs < (ptpOffset x).natAbs) :
    (s.ptpSample x).clock.state = 3 ∧ (s.ptpSample x).rd Key.jumpRefused = satAdd u32Max (s.rd Key.jumpRefused) 1 ∧
      (s.ptpSample x).dict.txn = none := by
  have hs : (s.ptpShown x).clock.state = 2 := h.locked
  obtain ⟨h3, hj, ht⟩ := State.sampleRefused_holds (off := ptpOffset x) hs
  rw [h.sampled, h.row_refused hl]
  simp only [State.timeEdge_keeps .., h3, hj, ht]
  simp only [State.ptpShown, State.wr_keeps .., h.txn, and_true, true_and]
  rw [State.rd_wr_of_fam _ _ (by simp)]
  exact congrArg (satAdd u32Max · 1) (State.rd_of_nums rfl _)

/-- Only the journal says what was posted. -/
theorem Posted.journal_eq {u t : State} {c : Err} {src : Nat} (h : Posted s u c src) (hj : t.sb.journal = u.sb.journal) :
    Posted s t c src := by
  obtain ⟨e, hc, hs, he⟩ := h
  exact ⟨e, hc, hs, hj.trans he⟩

theorem ptpSample_taken {x : PtpExchange} {u : State} (h : (s.advance dt).ptpSample x = u) (ht : u.dict.txn = none) :
    exec (.ptpSample x dt) s = .next u := by
  rw [exec_ptpSample, execPtpSample, h, State.epochCheck_of_no_txn ht]

/-! ### Holdover (R441) -/

/-- The clock that holds its last correction over. -/
def Clock.held (c : Clock) : Clock :=
  { c with state := 3, corr := meanCorr c.elapsed c.history c.corr, heldSince := c.elapsed, posted := false }

theorem State.holdover_holds (s : State) : s.holdover.clock = s.clock.held ∧ Posted s s.holdover .timeHoldover 0x1800 := by
  rw [State.holdover]
  constructor
  · simp only [State.post_keeps .., State.timeEdge_keeps ..]
    rfl
  · refine Posted.of_post ?_ ..
    simp only [State.timeEdge_keeps ..]

theorem State.nowNs_holdover (s : State) : s.holdover.nowNs = s.nowNs := by
  rw [State.nowNs, s.holdover_holds.1]
  simp only [Clock.held, State.nowNs]

theorem holdoverTimeout_due {w : Nat} (h : s.clock.state = 1 ∧ w = us 250000 ∨ s.clock.state = 2 ∧ w = 4 * us s.clock.syncUs)
    (hw : s.clock.lastSample + w ≤ (s.advance dt).elapsed) : Gives (exec (.holdoverTimeout dt) s) fun t => t.clock.state = 3 ∧
      Posted (s.advance dt) t .timeHoldover 0x1800 ∧ t.nowNs = (s.advance dt).nowNs := by
  have hx : exec (.holdoverTimeout dt) s = .next (s.advance dt).holdover := by
    rw [exec_holdoverTimeout, execHoldoverTimeout]
    obtain ⟨hs, hl, hy, _⟩ := s.mode_advance dt
    generalize s.advance dt = u at *
    obtain ⟨h, rfl⟩ | ⟨h, rfl⟩ := h
    · simp only [hs, hl, h, hw, decide_true, Bool.true_or, Bool.and_self, if_true]
    · simp only [hs, hl, hy, h, if_neg (show ¬ (2 : Nat) = 1 by decide), hw, decide_true, Bool.or_true, Bool.and_self, if_true]
  rw [hx, gives_next]
  obtain ⟨hc, hp⟩ := (s.advance dt).holdover_holds
  exact ⟨congrArg Clock.state hc, hp, State.nowNs_holdover _⟩

theorem holdoverTimeout_unlocked (h : s.clock.state = 0 ∨ s.clock.state = 3) : exec (.holdoverTimeout dt) s = .next (s.advance dt) := by
  rw [exec_holdoverTimeout, execHoldoverTimeout]
  obtain ⟨hs, _⟩ := s.mode_advance dt
  generalize s.advance dt = u at *
  obtain h | h := h <;> simp [hs, h]

/-! ### The RTC (R432) -/

theorem State.vbat_advance_plain (hc : carries s.clock s.increment dt = false) :
    (s.advance dt).vbat = if s.rd Key.pwrState = 0 then s.vbat else rtcAfter s.vbat dt := by
  simp only [State.advance, hc, Bool.and_false, Bool.false_eq_true, if_false]

theorem State.vbat_advance_carries (h : s.clock.state = 1 ∨ s.clock.state = 2) (hr : s.dict.ready = true)
    (hc : carries s.clock s.increment dt = true) : (s.advance dt).vbat =
      rtcWritten (if s.rd Key.pwrState = 0 then s.vbat else rtcAfter s.vbat dt) (s.advance dt).clock s.increment := by
  have hl : (s.clock.state == 1 || s.clock.state == 2) = true := by simpa using h
  simp only [State.advance, hc, hl, hr, Bool.true_or, Bool.and_self, if_true]

/-! ### The settled statement -/

/-- Settles O36: the steps, sets, samples and holdovers of the clock, and what the RTC and a snapshot take. -/
theorem timeKeeping : Obligations.TimeKeeping := by
  refine ⟨?locked, ?refused, ?stepped, ?set, ?notHead, ?ignored, ?servo, ?far, ?oneHz, ?ptp, ?unlocked, ?carry, ?noCarry, ?snapshot⟩
  case locked =>
    intro delta s hb h ht
    have he := State.timeStep_locked (delta := delta) h
    rw [timeStep_runs hb (he ▸ ht), he, gives_next, State.res_resEnd_self]
    exact ⟨rfl, rfl⟩
  case refused =>
    intro delta s hb h ht hl
    have he := State.timeStep_refused h hl
    have htxn : (s.timeStep delta).dict.txn = none := by
      rw [he]
      simp only [State.resEnd_keeps .., State.txn_post, State.bump_keeps .., State.resBegin_keeps .., ht]
    rw [timeStep_runs hb htxn, he, gives_next, State.res_resEnd_self]
    refine ⟨?_, rfl, ?_, ?_⟩
    · simp only [State.resEnd_keeps ..]
      simp only [State.post_keeps ..]
      rfl
    · rw [State.rd_resEnd, State.post_rd (by simp)]
      exact State.rd_bump_self ..
    · have hj : ((s.resBegin Key.timeStepRes).bump Key.jumpRefused).sb.journal = s.sb.journal := by
        simp only [State.bump_keeps .., State.resBegin_keeps ..]
      exact (Posted.of_post hj .jumpRefused 0x1800 (toRaw 64 delta) 2 timeDom).journal_eq (by simp only [State.resEnd_keeps ..])
  case stepped =>
    intro delta s hb h ht hl h0 h1
    have he := State.timeStep_steps h hl
    have hnow : (s.resBegin Key.timeStepRes).nowNs = s.nowNs := by simp only [State.resBegin_keeps ..]
    obtain ⟨n, hn, hlt, hst⟩ := State.stepBy_eq (s := s.resBegin Key.timeStepRes) (hnow ▸ h0) (hnow ▸ h1)
    rw [hnow] at hn
    rw [hst] at he
    have htxn : (s.timeStep delta).dict.txn = none := by
      rw [he]
      simp only [State.resEnd_keeps .., State.stepTo_keeps .., State.resBegin_keeps .., ht]
    rw [timeStep_runs hb htxn, he, gives_next, State.res_resEnd_self]
    simp only [State.resEnd_keeps ..]
    refine ⟨?_, ?_, rfl, ?_⟩
    · rw [State.nowNs_stepTo _ hlt, hn]
    · rw [State.clock_stepTo]
      rfl
    · rw [State.clock_stepTo]
      rfl
  case set =>
    intro sec ns s hb hh ht
    rw [timeSet_sets ht hb hh, gives_next, State.res_resEnd_self]
    simp only [State.resEnd_keeps .., State.clock_stepTo, State.steppedClock, nsToTime_of_parts sec.isLt ns.isLt]
    exact ⟨trivial, trivial, trivial, rfl, rfl⟩
  case notHead =>
    intro sec ns s hh ht
    rw [timeSet_idle ht hh, gives_next]
  case ignored =>
    intro x dt s h ht
    have h' : (s.advance dt).isHead = false ∨ (s.advance dt).rd Key.timeSource ≠ 1 ∨ (s.advance dt).ptpPort = none := by
      simpa only [State.isHead, State.ptpPort, State.advance_keeps ..] using h
    rw [ptpSample_taken (State.ptpSample_ignored h') (txn_advance ht dt), gives_next]
  case servo =>
    rintro x off dt s hh hsrc hp ht hst rfl hl hk
    have hr := (State.PtpReady.mk hh hsrc hp ht hst).advance dt
    have hl' : (ptpOffset x).natAbs ≤ (s.advance dt).rd Key.timeJumpLimitNs := by simpa only [State.advance_keeps ..] using hl
    obtain ⟨hst, hin, hco, hnow, hls, hsy, htx⟩ := hr.servo_holds hl' hk
    rw [ptpSample_taken rfl htx, gives_next, hin, hco, (s.mode_advance dt).2.2.2]
    exact ⟨hst, rfl, rfl, hnow, hls, hsy⟩
  case far =>
    rintro x off dt s hh hsrc hp ht hst rfl hl
    have hr := (State.PtpReady.mk hh hsrc hp ht hst).advance dt
    have hl' : (s.advance dt).rd Key.timeJumpLimitNs < (ptpOffset x).natAbs := by simpa only [State.advance_keeps ..] using hl
    obtain ⟨hs3, hj, htx⟩ := hr.refused_holds hl'
    rw [ptpSample_taken rfl htx, gives_next, hj]
    exact ⟨hs3, by simp only [State.advance_keeps ..]⟩
  case oneHz =>
    intro dt s h hw
    exact holdoverTimeout_due (.inl ⟨h, rfl⟩) hw
  case ptp =>
    intro dt s h hw
    exact holdoverTimeout_due (.inr ⟨h, rfl⟩) hw
  case unlocked =>
    intro dt s h
    rw [holdoverTimeout_unlocked h, gives_next]
  case carry =>
    intro dt s h hr hc
    rw [exec_rtcWrite, execRtcWrite, gives_next]
    exact ⟨rfl, State.vbat_advance_carries h hr hc⟩
  case noCarry =>
    intro dt s hc
    rw [exec_rtcWrite, execRtcWrite, gives_next]
    exact ⟨rfl, State.vbat_advance_plain hc⟩
  case snapshot =>
    intro dt s
    rw [exec_timeSnapshot, execTimeSnapshot, gives_next]
    exact ⟨rfl, by simp only [State.advance_keeps ..], rfl⟩

end Sys2Proof.Machine
end

section
/-! ## O32: provisioning, tamper and attestation of the Keeper (R366 to R370, R384) -/

namespace Sys2Proof.Machine

variable {s : State} {p : Nat → Slot → Bool} {n : Nat}

/-! ### Freeing slots -/

theorem State.slot_freeSlot (s : State) (m n : Nat) : (s.freeSlot m).slot n =
    if n = m ∧ (s.slot m).valid = true then Slot.empty (nextGen (s.slot m).gen) else s.slot n := by
  rw [State.freeSlot]
  split
  next h => simp only [State.slot_setSlot, h, and_true]
  next h => rw [if_neg (fun hc => h hc.2)]

theorem State.slot_freeSlot_ne {m : Nat} (h : n ≠ m) (s : State) : (s.freeSlot m).slot n = s.slot n := by
  rw [State.slot_freeSlot, if_neg (fun hc => h hc.1)]

theorem State.freed_freeSlot (s : State) (n : Nat) : ((s.freeSlot n).slot n).valid = false := by
  rw [State.slot_freeSlot]
  split
  · rfl
  next h => exact Bool.eq_false_of_not_eq_true fun hc => h ⟨rfl, hc⟩

theorem State.invalid_freeSlot (h : (s.slot n).valid = false) (m : Nat) : ((s.freeSlot m).slot n).valid = false := by
  by_cases hm : n = m
  · exact hm ▸ State.freed_freeSlot ..
  · rwa [State.slot_freeSlot_ne hm]

/-- The slots of a list are freed, and a slot that was not in use stays so. -/
theorem State.freed_each_freeSlot (l : List Nat) (s : State) (h : n ∈ l ∨ (s.slot n).valid = false) :
    ((s.each l (fun s n => s.freeSlot n)).slot n).valid = false := by
  induction l generalizing s with
  | nil => exact h.resolve_left (by simp)
  | cons m l ih =>
    refine ih (s.freeSlot m) ?_
    by_cases hm : n = m
    · exact .inr (hm ▸ State.freed_freeSlot ..)
    · exact h.imp (List.mem_of_ne_of_mem hm) (State.invalid_freeSlot · m)

theorem State.kept_each_freeSlot (l : List Nat) (s : State) (h : n ∉ l) : (s.each l (fun s n => s.freeSlot n)).slot n = s.slot n := by
  induction l generalizing s with
  | nil => rfl
  | cons m l ih =>
    obtain ⟨hm, hl⟩ := not_or.mp (mt List.mem_cons.mpr h)
    exact (ih (s.freeSlot m) hl).trans (State.slot_freeSlot_ne hm s)

/-- A slot in use stands in the map of slots. -/
theorem State.mem_slots_of_valid (h : (s.slot n).valid = true) : (n, s.slot n) ∈ s.keeper.slots := by
  have hs : s.slot n = (KMap.find s.keeper.slots n).getD (Slot.empty 0) := by
    rw [State.slot, KMap.getD]
    cases KMap.find s.keeper.slots n <;> rfl
  cases hf : KMap.find s.keeper.slots n with
  | none => rw [hs, hf] at h; cases h
  | some x => rw [hs, hf]; exact KMap.mem_of_find hf

theorem State.freed_freeSlots (h : ∀ x, p n x = true) : ((s.freeSlots p).slot n).valid = false := by
  refine State.freed_each_freeSlot _ s ?_
  cases hv : (s.slot n).valid with
  | false => exact .inr rfl
  | true => exact .inl (List.mem_map.mpr ⟨_, List.mem_filter.mpr ⟨State.mem_slots_of_valid hv, h _⟩, rfl⟩)

theorem State.kept_freeSlots (h : ∀ x, p n x = false) : (s.freeSlots p).slot n = s.slot n := by
  refine State.kept_each_freeSlot _ s fun hc => ?_
  obtain ⟨⟨m, x⟩, hm, rfl⟩ := List.mem_map.mp hc
  exact absurd ((List.mem_filter.mp hm).2.symm.trans (h x)) (by simp)

theorem State.slot_writeSlot_ne {m : Nat} (h : n ≠ m) (s : State) (x : Slot) : (s.writeSlot m x).slot n = s.slot n := by
  rw [State.writeSlot, State.slot_setSlot, if_neg h]

theorem State.slot_deriveIdentity (h : n ≠ 0) (s : State) : s.deriveIdentity.slot n = s.slot n := State.slot_writeSlot_ne h ..

theorem State.slot_deriveLinkWrap (h : n ≠ 1) (s : State) : s.deriveLinkWrap.slot n = s.slot n := by
  unfold State.deriveLinkWrap
  split
  · exact State.slot_writeSlot_ne h ..
  · rfl

/-! ### Provisioning (R366, R367) -/

/-- The state of a provisioning run whose slots are freed. -/
def State.provisioning (s : State) : State :=
  let root := s.draw 256
  let s := s.drawn
  let s := { s with vbat := { s.vbat with root := some root, rootGen := (s.vbat.rootGen + 1) % 65536, epochE := 1, tamper := false } }
  let s := s.freeSlots (fun n _ => decide (2 ≤ n))
  { s with keeper := { s.keeper with fc := [] } }

theorem State.provision_eq (s : State) : s.provision =
    ((s.provisioning.wr Key.keeperState 1).deriveIdentity.deriveLinkWrap).countSlots.resEnd Key.keeperProvisionRes 0 := rfl

theorem State.provisioning_holds (s : State) : s.provisioning.vbat =
    { s.vbat with root := some (s.draw 256), rootGen := (s.vbat.rootGen + 1) % 65536, epochE := 1, tamper := false } ∧
    ∀ n, 2 ≤ n → (s.provisioning.slot n).valid = false := by
  refine ⟨by simp only [State.provisioning, State.freeSlots_keeps .., State.drawn], fun n hn => ?_⟩
  exact State.freed_freeSlots (p := fun n _ => decide (2 ≤ n)) fun _ => decide_eq_true hn

theorem State.provision_holds (s : State) : s.provision.keyed = true ∧ s.provision.vbat = s.provisioning.vbat ∧
    (s.provision.res Key.keeperProvisionRes).outcome = 1 ∧ ∀ n, 2 ≤ n → (s.provision.slot n).valid = false := by
  have hfree := s.provisioning_holds.2
  rw [State.provision_eq]
  generalize s.provisioning = u at *
  refine ⟨?_, ?_, by rw [State.res_resEnd_self]; rfl, fun n hn => ?_⟩
  · rw [State.keyed, State.rd_resEnd, State.countSlots_rd (by simp)]
    simp only [State.deriveLinkWrap_keeps .., State.deriveIdentity_keeps .., State.rd_wr_self, beq_self_eq_true]
  · simp only [State.resEnd_keeps .., State.countSlots_keeps .., State.deriveLinkWrap_keeps .., State.deriveIdentity_keeps .., State.wr_keeps ..]
  · simp only [State.slot, State.resEnd_keeps .., State.countSlots_keeps ..]
    exact (congrArg Slot.valid ((State.slot_deriveLinkWrap (by omega) _).trans (State.slot_deriveIdentity (by omega) _))).trans (hfree n hn)

/-! ### Tamper (R368, R369) -/

/-- The Keeper zeroed for the sources of `active`. -/
def State.zeroed (s : State) (active : Nat) : State :=
  { s with vbat := { s.vbat with root := none, tamper := true, tamperLast := active, tamperEvents := satAdd u32Max s.vbat.tamperEvents 1 }
           keeper := { s.keeper with unreported := true } }.wr Key.keeperState 2

theorem tamperDetect_zeroes {x : TamperSense} (h : Nat.land (tamperSources x) s.tamperMask ≠ 0) (hp : s.rd Key.pwrState ≠ 0) :
    exec (.tamperDetect x) s = .next (s.zeroed (Nat.land (tamperSources x) s.tamperMask)).tamperOps := by
  rw [exec_tamperDetect, execTamperDetect]
  dsimp only
  rw [if_neg (not_or.mpr ⟨h, hp⟩)]
  rfl

/-- A report with the slots freed and the Keeper's runs ended. -/
def State.reporting (s : State) : State :=
  let s := s.freeSlots (fun n _ => decide (1 ≤ n))
  let s := { s with keeper := { s.keeper with fc := [], oldSlots := [] } }
  let s := if (s.res Key.keeperProvisionRes).busy then s.resEnd Key.keeperProvisionRes 2 else s
  if s.keeper.attesting.isSome then s.attestEnd 2 (zeros 288) else s

theorem State.reporting_holds (s : State) : s.reporting.keeper.slots = (s.freeSlots (fun n _ => decide (1 ≤ n))).keeper.slots ∧
    s.reporting.keeper.fc = [] ∧ s.reporting.keeper.attesting = none ∧
    s.reporting.keeper.unreported = (s.freeSlots (fun n _ => decide (1 ≤ n))).keeper.unreported ∧ s.reporting.sb.journal = s.sb.journal := by
  have hj : (s.freeSlots (fun n _ => decide (1 ≤ n))).sb.journal = s.sb.journal := by simp only [State.freeSlots_keeps ..]
  unfold State.reporting
  generalize s.freeSlots (fun n _ => decide (1 ≤ n)) = u at *
  extract_lets +onlyGivenNames v k cleared ended
  obtain ⟨hk, hs⟩ : ended.keeper = cleared.keeper ∧ ended.sb = u.sb := by
    unfold ended
    split <;> exact ⟨rfl, rfl⟩
  clear_value ended
  split
  · exact ⟨(congrArg Keeper.slots hk :), (congrArg Keeper.fc hk :), rfl, (congrArg Keeper.unreported hk :), (congrArg Saddlebag.journal hs).trans hj⟩
  next ha =>
    exact ⟨(congrArg Keeper.slots hk :), (congrArg Keeper.fc hk :), Option.not_isSome_iff_eq_none.mp ha, (congrArg Keeper.unreported hk :),
      (congrArg Saddlebag.journal hs).trans hj⟩

theorem State.unreported_freeSlots (s : State) (p : Nat → Slot → Bool) : (s.freeSlots p).keeper.unreported = s.keeper.unreported := by
  refine State.each_same (fun t => t.keeper.unreported) (fun t n => ?_) s _
  rw [State.freeSlot]
  split <;> rfl

/-- The report's post. -/
def State.tamperPosted (s : State) : State :=
  (({ s with keeper := { s.keeper with unreported := false } }).raise 0).kPost .tamperZeroised s.vbat.tamperLast s.vbat.rootGen

theorem State.tamperPosted_holds (u : State) : u.tamperPosted.keeper = { u.keeper with unreported := false } ∧
    u.tamperPosted.rd Key.keeperState = u.rd Key.keeperState ∧
    ∀ s : State, u.sb.journal = s.sb.journal → Posted s u.tamperPosted .tamperZeroised 0x5000 := by
  unfold State.tamperPosted
  refine ⟨by simp only [State.kPost_keeps .., State.raise_keeps ..], ?_, fun s h => ?_⟩
  · rw [State.kPost_rd (by simp)]
    simp only [State.raise_keeps ..]
    exact State.rd_of_nums rfl _
  · exact Posted.of_post (by simpa only [State.raise_keeps ..] using h) ..

theorem State.tamperReport_due (h : s.keeper.unreported = true) :
    s.tamperReport = (s.reporting.wr Key.keeperState 2).countSlots.tamperPosted := by
  have hu : (s.reporting.wr Key.keeperState 2).countSlots.keeper.unreported = true := by
    simp only [State.countSlots_keeps .., State.wr_keeps .., s.reporting_holds.2.2.2.1, State.unreported_freeSlots, h]
  rw [State.tamperReport, h, Bool.not_true, if_neg Bool.false_ne_true]
  exact if_pos hu

/-! ### Attestation (R384) -/

theorem State.attest_unkeyed (h0 : n ≠ 0) (hk : s.keyed = false) : s.attest n = s.attestEnd 2 (zeros 288) := by
  rw [State.attest, hk, if_pos ⟨h0, rfl⟩]

theorem State.attest_done (hk : s.keyed = true) (hu : s.slotUsable n = true) :
    s.attest n = (s.useSlot 0).attestEnd 0 (s.statement n ++ Crypto.ecdsaSign s.identityKey (s.statement n)) := by
  rw [State.attest, hk, hu, if_neg (by simp), if_neg (by simp)]

/-! ### The settled statement -/

/-- Settles O32: the runs of provisioning, tamper and attestation, case by case. -/
theorem keeperStates : Obligations.KeeperStates := by
  refine ⟨?provision, ?notBusy, ?again, ?masked, ?zeroes, ?report, ?noReport, ?vbat, ?unkeyed, ?attest, ?noAttest⟩
  case provision =>
    intro s h
    rw [exec_keeperProvision, execKeeperProvision, if_pos h, gives_next]
    obtain ⟨hk, hv, ho, hs⟩ := s.provision_holds
    rw [hv, s.provisioning_holds.1]
    exact ⟨hk, Option.some_ne_none _, rfl, rfl, rfl, ho, hs⟩
  case notBusy =>
    intro s h
    rw [exec_keeperProvision, execKeeperProvision, h, if_neg Bool.false_ne_true, gives_next]
  case again =>
    intro s h
    have h' : (s.resBegin Key.keeperProvisionRes).keyed = true := h
    rw [State.provisionCmd]
    rw [if_pos h', State.res_resEnd_self]
    exact ⟨rfl, rfl, rfl, rfl, rfl⟩
  case masked =>
    intro x s h
    rw [exec_tamperDetect, execTamperDetect]
    dsimp only
    rw [if_pos (.inl h), gives_next]
  case zeroes =>
    intro x s h hp
    rw [tamperDetect_zeroes h hp, gives_next]
    simp only [State.tamperOps_keeps ..]
    exact ⟨rfl, rfl, rfl, State.rd_wr_self .., rfl, rfl⟩
  case report =>
    intro s h
    obtain ⟨hsl, hfc, hatt, _, hj⟩ := s.reporting_holds
    have hslot (n : Nat) : s.tamperReport.slot n = (s.freeSlots (fun n _ => decide (1 ≤ n))).slot n := by
      rw [State.tamperReport_due h, State.slot, State.slot, ← hsl]
      simp only [State.tamperPosted, State.kPost_keeps .., State.raise_keeps .., State.countSlots_keeps .., State.wr_keeps ..]
    rw [exec_tamperReport, execTamperReport, gives_next]
    refine ⟨fun n hn => ?_, ?_, ?_⟩
    · rw [hslot]
      exact State.freed_freeSlots fun _ => decide_eq_true hn
    · rw [hslot]
      exact State.kept_freeSlots fun _ => rfl
    obtain ⟨hk, hr, hp⟩ := (s.reporting.wr Key.keeperState 2).countSlots.tamperPosted_holds
    have hu : (s.reporting.wr Key.keeperState 2).countSlots.keeper = s.reporting.keeper := by simp only [State.countSlots_keeps .., State.wr_keeps ..]
    have hs : (s.reporting.wr Key.keeperState 2).countSlots.sb.journal = s.sb.journal := by
      simp only [State.countSlots_keeps .., State.wr_keeps .., hj]
    rw [State.tamperReport_due h, hk, hr, hu, State.countSlots_rd (by simp), State.rd_wr_self]
    exact ⟨hfc, rfl, rfl, hatt, hp s hs⟩
  case noReport =>
    intro s h
    rw [exec_tamperReport, execTamperReport, State.tamperReport, h, Bool.not_false, if_pos rfl, gives_next]
  case vbat =>
    intro s
    rw [exec_vbatLowZero, execVbatLowZero, gives_next]
    exact ⟨rfl, rfl, rfl⟩
  case unkeyed =>
    intro n s ha h0 hk
    rw [exec_attest, execAttest, ha]
    dsimp only
    rw [State.attest_unkeyed h0 hk, gives_next, State.attestEnd, State.res_resEnd_self]
    exact ⟨rfl, rfl, rfl⟩
  case attest =>
    intro n s ha hk hu
    rw [exec_attest, execAttest, ha]
    dsimp only
    rw [State.attest_done hk hu, gives_next, State.attestEnd, State.res_resEnd_self]
    refine ⟨rfl, ?_, rfl, rfl⟩
    exact congrArg (fun r => nextResSeq r.seq) (show (s.useSlot 0).res Key.attestRes = s.res Key.attestRes by
      simp only [State.res, State.useSlot_keeps ..])
  case noAttest =>
    intro s h
    rw [exec_attest, execAttest, h, gives_next]

end Sys2Proof.Machine
end

section
/-! ## O47: reports, MSI-X vectors, the function reset and the mailbox (R494, R505 to R509) -/

namespace Sys2Proof.Machine

variable {s : State} {dt : Nat} {v : Fin 64}

/-! ### Reports (R505) -/

theorem State.keeps_setCause (s : State) (c : Nat) : (s.setCause c).out = s.out ∧ (s.setCause c).host.reportsDue = s.host.reportsDue ∧
    (s.setCause c).host.reports = s.host.reports ∧ (s.setCause c).host.mailbox = s.host.mailbox ∧
    (s.setCause c).host.mailboxWait = s.host.mailboxWait := by
  rw [State.setCause]
  split <;> exact ⟨rfl, rfl, rfl, rfl, rfl⟩

theorem State.mem_flags_setCause {c : Nat} (h : (s.cause c).1 = true) : c ∈ (s.setCause c).host.flags :=
  (State.flags_setCause h c).mpr (.inr rfl)

/-! ### MSI-X vectors (R506) -/

/-- What the vector `k` does in the state as it stands. -/
def State.msixGo (s : State) (k : Nat) : State :=
  let x := s.vector k
  let due := s.flagsOf k
  if (due.isEmpty && !x.pending) || !s.holdoffOver x || !s.host.linkUp then s
    else if x.masked || s.host.functionMask then s.setVector k { x with pending := true }
    else
      let s := { s with host := { s.host with flags := s.host.flags.filter (fun c => !due.contains c) } }
      (s.emit (.msix x.addr x.data)).setVector k { x with pending := false, sentAt := some s.elapsed }

theorem msixSend_eq (s : State) : exec (.msixSend v dt) s = .next ((s.advance dt).msixGo v) := rfl

theorem State.out_setVector (s : State) (k : Nat) (x : MsixVector) : (s.setVector k x).out = s.out := rfl

theorem State.flags_setVector (s : State) (k : Nat) (x : MsixVector) : (s.setVector k x).host.flags = s.host.flags := rfl

theorem State.mem_flagsOf {c n : Nat} : c ∈ s.flagsOf n ↔ c ∈ s.host.flags ∧ (s.cause c).1 = true ∧ (s.cause c).2 = n := by
  simp [State.flagsOf]

/-- A vector with an enabled cause raised, outside its hold-off, over a link that is up. -/
structure State.MsixDue (s : State) (n c : Nat) : Prop where
  flag : c ∈ s.host.flags
  cause : s.cause c = (true, n)
  free : (s.vector n).sentAt = none
  link : s.host.linkUp = true

theorem State.MsixDue.advance {n c : Nat} (h : s.MsixDue n c) (dt : Nat) : (s.advance dt).MsixDue n c where
  flag := by simpa only [State.advance_keeps ..] using h.flag
  cause := by simpa only [State.cause, State.advance_keeps ..] using h.cause
  free := by simpa only [State.vector, State.advance_keeps ..] using h.free
  link := by simpa only [State.advance_keeps ..] using h.link

theorem State.MsixDue.mem {n c : Nat} (h : s.MsixDue n c) : c ∈ s.flagsOf n := by
  rw [State.mem_flagsOf, h.cause]
  exact ⟨h.flag, rfl, rfl⟩

theorem State.MsixDue.sends {n c : Nat} (h : s.MsixDue n c) :
    ¬ (((s.flagsOf n).isEmpty && !(s.vector n).pending) || !s.holdoffOver (s.vector n) || !s.host.linkUp) = true := by
  have he : (s.flagsOf n).isEmpty = false := List.isEmpty_eq_false_iff.mpr (List.ne_nil_of_mem h.mem)
  simp [he, State.holdoffOver, h.free, h.link]

theorem State.msixGo_held {k a : Nat} (h : (s.vector k).sentAt = some a) (hw : s.elapsed < a + us (s.vector k).holdoff) : s.msixGo k = s := by
  have ho : s.holdoffOver (s.vector k) = false := by
    rw [State.holdoffOver, h]
    exact decide_eq_false (Nat.not_le.mpr hw)
  rw [State.msixGo]
  simp only [ho, Bool.not_false, Bool.or_true, Bool.true_or, if_true]

theorem State.MsixDue.masked {n c : Nat} (h : s.MsixDue n c) (hm : ((s.vector n).masked || s.host.functionMask) = true) :
    s.msixGo n = s.setVector n { (s.vector n) with pending := true } := by
  rw [State.msixGo]
  dsimp only
  rw [if_neg h.sends, if_pos hm]

theorem State.MsixDue.sent {n c : Nat} (h : s.MsixDue n c) (hm : ((s.vector n).masked || s.host.functionMask) = false) :
    (s.msixGo n).out = .msix (s.vector n).addr (s.vector n).data :: s.out ∧
    (∀ d, d ∈ (s.msixGo n).host.flags ↔ d ∈ s.host.flags ∧ d ∉ s.flagsOf n) ∧
    ((s.msixGo n).vector n).sentAt = some s.elapsed ∧ ((s.msixGo n).vector n).pending = false := by
  rw [State.msixGo]
  dsimp only
  rw [if_neg h.sends, hm, if_neg Bool.false_ne_true, State.vector_setVector, if_pos rfl, State.out_setVector, State.flags_setVector]
  refine ⟨rfl, fun d => ?_, by simp only [State.elapsed], rfl⟩
  refine (List.mem_filter (p := fun c => !(s.flagsOf n).contains c)).trans ?_
  simp

/-! ### The function reset (R494) -/

/-- Where every value of a map and the default have a property, so has what a key reads. -/
theorem KMap.getD_of_forall {α : Type} {m : KMap α} {d : α} {P : α → Prop} (hm : ∀ q ∈ m, P q.2) (hd : P d) (k : Nat) : P (KMap.getD m d k) := by
  rw [KMap.getD]
  cases hf : KMap.find m k with
  | none => exact hd
  | some x => exact hm _ (KMap.mem_of_find hf)

/-- A map of rings with every ring disabled. -/
def ringsOff (m : KMap Ring) : KMap Ring := m.map (fun p => (p.1, { p.2 with size := 0, state := 0, short := none }))

theorem ringsOff_reads (m : KMap Ring) (n : Nat) : (KMap.getD ((ringsOff m).filter (fun p => p.2 != Ring.off)) Ring.off n).size = 0 ∧
    (KMap.getD ((ringsOff m).filter (fun p => p.2 != Ring.off)) Ring.off n).state = 0 := by
  refine KMap.getD_of_forall (P := fun r : Ring => r.size = 0 ∧ r.state = 0) (fun q hq => ?_) ⟨rfl, rfl⟩ n
  obtain ⟨p, _, rfl⟩ := List.mem_map.mp (List.mem_of_mem_filter hq)
  exact ⟨rfl, rfl⟩

theorem functionLevelReset_runs (h : s.host.linkUp = true) : exec .functionLevelReset s = .next (s.hifReset.post .hifFlr 0x1000) := by
  rw [exec_functionLevelReset, execFunctionLevelReset, if_pos h]

/-! ### The mailbox (R507 to R509) -/

theorem State.hostWrites_awake (hl : s.host.linkUp = true) (hp : s.pwr ≠ 2) (f : State → State) : s.hostWrites f = f s := by
  rw [State.hostWrites, if_pos hl, State.wake, if_neg (fun h => hp h.1)]

theorem State.request_of_read {via : Via} {a : Access} {l : List Dict.Entry} (h : s.Takes via a 1) (ht : a.txn = 0)
    (hl : namedRows a = .inr l) (hd : l.any (fun r => r.ty == .domain) = false) :
    (s.request via a).out = .access via (respond a 0 (s.readBytes a a.subindex l)) :: s.out := by
  have hop : a.op = 1 := h.2.2.2.2.2.1
  have hresp : a.resp = false := h.2.2.2.2.2.2.1
  have hrow := State.opRow_of_takes h ht (by decide)
  have ha : ({ a with op := 1, resp := false } : Access) = a := by rw [← hop, ← hresp]
  rw [State.opRow, ha] at hrow
  have hrun : s.runOp via a = { state := s.readClears a.index a.subindex l, status := 0, payload := s.readBytes a a.subindex l, run := none } := by
    unfold State.runOp
    simp only [hop, State.readOp, hl, hd, Bool.false_eq_true, if_false]
  have := (State.execute_of_no_run (s := s) (via := via) (a := a) (by rw [hrun])).1
  rw [hrow, this, hrun]
  simp only [State.readClears_keeps ..]

theorem State.host_mailboxCredit (s : State) : s.mailboxCredit.host.mailbox = s.host.mailbox ∧
    s.mailboxCredit.host.mailboxWait = s.host.mailboxWait ∧ s.mailboxCredit.host.flags = s.host.flags := by
  unfold State.mailboxCredit
  split
  · exact ⟨rfl, rfl, rfl⟩
  · simp only [State.credit_keeps .., and_self]

/-! ### The settled statement -/

/-- Settles O47: a report, a vector, the reset and each use of the mailbox by its conditions. -/
theorem hostInterrupts : Obligations.HostInterrupts := by
  refine ⟨?report, ?reportDown, ?sends, ?masked, ?held, ?resetDown, ?reset, ?enqueue, ?full, ?pop, ?badLength, ?read⟩
  case report =>
    intro h rep oc x rest s hd hl hf
    rw [exec_reportRecordWrite, execReportRecordWrite]
    simp only [hd, hl, hf, Bool.not_true, Bool.false_eq_true, if_false]
    rw [gives_next]
    refine ⟨by rw [(State.keeps_setCause ..).1]; rfl, by rw [(State.keeps_setCause ..).2.1]; rfl, ?_, fun hc => State.mem_flags_setCause hc⟩
    rw [(State.keeps_setCause ..).2.2.1]
    exact KMap.find_drop_self ..
  case reportDown =>
    intro s hl
    rw [exec_reportRecordWrite, execReportRecordWrite, gives_next]
    split
    · rfl
    · rw [hl, Bool.not_false, if_pos rfl]
  case sends =>
    intro v c dt s hc hk hs hl hm hf
    have h := (State.MsixDue.mk hc hk hs hl).advance dt
    have hv : (s.advance dt).vector v = s.vector v := by simp only [State.vector, State.advance_keeps ..]
    have hmask : (((s.advance dt).vector v).masked || (s.advance dt).host.functionMask) = false := by
      rw [hv, hm, Bool.false_or]
      simpa only [State.advance_keeps ..] using hf
    obtain ⟨ho, hfl, hat, hpend⟩ := h.sent hmask
    rw [msixSend_eq, gives_next, ho, hat, hpend, hv]
    simp only [hfl, State.advance_keeps ..]
    refine ⟨trivial, fun hx => hx.2 h.mem, fun d hd => and_iff_left fun hx => hd ?_, trivial, trivial⟩
    have := (State.mem_flagsOf.mp hx).2.2
    simpa only [State.cause, State.advance_keeps ..] using this
  case masked =>
    intro v c dt s hc hk hs hl hm
    have h := (State.MsixDue.mk hc hk hs hl).advance dt
    have hmask : (((s.advance dt).vector v).masked || (s.advance dt).host.functionMask) = true := by
      simpa only [State.vector, State.advance_keeps .., Bool.or_eq_true] using hm
    rw [msixSend_eq, h.masked hmask, gives_next, State.vector_setVector, if_pos rfl, State.out_setVector, State.flags_setVector]
    simp only [State.advance_keeps .., and_self]
  case held =>
    intro v a dt s h hw
    have hv : (s.advance dt).vector v = s.vector v := by simp only [State.vector, State.advance_keeps ..]
    rw [msixSend_eq, State.msixGo_held (a := a) (by rw [hv, h]) (by rwa [hv]), gives_next]
  case resetDown =>
    intro s hl
    rw [exec_functionLevelReset, execFunctionLevelReset, hl, if_neg Bool.false_ne_true, gives_next]
  case reset =>
    intro s hl
    rw [functionLevelReset_runs hl, gives_next]
    simp only [State.rxRing, State.txRing, State.post_keeps ..]
    exact ⟨rfl, fun n => ⟨(ringsOff_reads ..).1, (ringsOff_reads ..).1, (ringsOff_reads ..).2⟩, rfl, rfl, rfl,
      Posted.of_post (s := s) (u := s.hifReset) rfl .hifFlr 0x1000 0 0 0xFF, rfl⟩
  case enqueue =>
    intro a c rest s hw hlen
    rw [exec_mbxResponseEnqueue, execMbxResponseEnqueue]
    simp only [hw, if_neg (Nat.not_le.mpr hlen)]
    rw [gives_next]
    generalize hu : ({ s with host := { s.host with mailbox := s.host.mailbox ++ [a], mailboxWait := rest } } : State) = u
    have hmail : u.host.mailbox = s.host.mailbox ++ [a] ∧ u.host.mailboxWait = rest ∧ u.cause 64 = s.cause 64 := by
      rw [← hu]
      exact ⟨rfl, rfl, rfl⟩
    obtain ⟨_, _, _, hm, hr⟩ := u.keeps_setCause 64
    obtain ⟨h1, h2, h3⟩ : (if c = true then (u.setCause 64).mailboxCredit else u.setCause 64).host.mailbox = u.host.mailbox ∧
        (if c = true then (u.setCause 64).mailboxCredit else u.setCause 64).host.mailboxWait = u.host.mailboxWait ∧
        (if c = true then (u.setCause 64).mailboxCredit else u.setCause 64).host.flags = (u.setCause 64).host.flags := by
      obtain ⟨c1, c2, c3⟩ := (u.setCause 64).host_mailboxCredit
      split
      · exact ⟨c1.trans hm, c2.trans hr, c3⟩
      · exact ⟨hm, hr, rfl⟩
    rw [h1, h2, h3, hmail.1, hmail.2.1, ← hmail.2.2]
    exact ⟨rfl, rfl, State.mem_flags_setCause⟩
  case full =>
    intro s h
    rw [exec_mbxResponseEnqueue, execMbxResponseEnqueue, gives_next]
    split
    · rfl
    · rw [if_pos h]
  case pop =>
    intro a rest s hl hm
    have hw : s.wake.host.mailbox = s.host.mailbox ∧ s.wake.host.mailboxWait = s.host.mailboxWait := by simp only [State.wake_keeps .., and_self]
    rw [exec_mbxRspPop, execMbxRspPop, State.hostWrites, if_pos hl, gives_next]
    exact ⟨(congrArg (List.drop 1) hw.1).trans (by rw [hm]; rfl), hw.2⟩
  case badLength =>
    intro len s hl hp hb
    rw [exec_mbxSubmit, execMbxSubmit, State.hostWrites_awake hl hp, State.mailSubmit, if_pos hb, gives_next]
  case read =>
    intro len l s hl ha h1 h2 ht h0 hn hd
    rw [exec_mbxSubmit, execMbxSubmit, State.hostWrites_awake hl ht.2.2.2.1, State.mailSubmit, if_neg (by omega), gives_next]
    exact State.request_of_read ht h0 hn hd

end Sys2Proof.Machine
end

section
/-! ## O49: a host's write of a subentry has the effects of the write beside the number it stores -/

namespace Sys2Proof.Machine

/-- A register write of 1 to `GIRTH_COMPAT` counts the entry that lies beyond the wheel in `SCHED_WHEEL_SPILL` (R252). -/
theorem compatWrite_spills : (match exec (.registerWrite (.subentry 0x3000#16 3#8) 1) rareCompatDevice with
    | .next t => t.rd Key.schedWheelSpill
    | _ => 0) = 1 := by
  decide +kernel

/-- Refutes O49: the clause on the write of a subentry has every number but the written one stay, and the write of `GIRTH_COMPAT` that refutes
O5 is one a register write may make. -/
theorem not_registerWrites : ¬ Obligations.RegisterWrites := by
  unfold Obligations.RegisterWrites
  rintro ⟨-, -, -, -, -, -, hwrite⟩
  have hcheck : rareCompatDevice.check (rareCompatDevice.stands []) compatRow 0x3000 3 (1 % 2 ^ (8 * compatRow.ty.size)) = Checked.pass 1 := by
    decide +kernel
  obtain ⟨t, ht, -, hsame⟩ := hwrite 0x3000#16 3#8 1 compatRow rareCompatDevice (by decide +kernel) (by decide +kernel) (by decide +kernel)
    (by decide +kernel) (by decide +kernel) (by rw [show (0x3000#16).toNat = 0x3000 from rfl, show (3#8).toNat = 3 from rfl, hcheck]; rfl)
    (by rw [show (0x3000#16).toNat = 0x3000 from rfl, show (3#8).toNat = 3 from rfl, hcheck]; rfl)
  have hkept := hsame Key.schedWheelSpill (by decide)
  have hspill := compatWrite_spills
  rw [ht] at hspill
  have hone : t.rd Key.schedWheelSpill = 1 := hspill
  have hzero := compatOn_spills.2
  omega

end Sys2Proof.Machine
end

section
/-! ## O46: host rings take tails and sizes, carry frames, and stop on errors (R496 to R504) -/

namespace Sys2Proof.Machine

variable {s : State} {n : Fin 32}

/-! ### A write of the host reaches the rings as they stand -/

/-- A write over a link that is up leaves the rings and what it does to them is done after the wake. -/
theorem State.hostWrites_up (h : s.host.linkUp = true) (f : State → State) : ∃ u, s.hostWrites f = f u ∧ u.host.rx = s.host.rx ∧ u.host.tx = s.host.tx := by
  refine ⟨s.wake, if_pos h, ?_, ?_⟩ <;> simp only [State.wake_keeps ..]

theorem State.rxRing_congr {s u : State} (h : u.host.rx = s.host.rx) (m : Nat) : u.rxRing m = s.rxRing m := by
  rw [State.rxRing, State.rxRing, h]

theorem State.txRing_congr {s u : State} (h : u.host.tx = s.host.tx) (m : Nat) : u.txRing m = s.txRing m := by
  rw [State.txRing, State.txRing, h]

/-- A write of the host that sets one receive ring. -/
theorem State.hostWrites_rx (h : s.host.linkUp = true) (n : Nat) (f : Ring → Ring) {p : State → Prop}
    (hp : ∀ t : State, t.rxRing n = f (s.rxRing n) → (∀ m, m ≠ n → t.rxRing m = s.rxRing m) → t.host.tx = s.host.tx → p t) :
    Gives (.next (s.hostWrites (fun s => s.setRxRing n (f (s.rxRing n))))) p := by
  obtain ⟨u, hu, hrx, htx⟩ := State.hostWrites_up h (fun s => s.setRxRing n (f (s.rxRing n)))
  rw [hu, gives_next]
  refine hp _ ?_ (fun m hm => ?_) htx
  · rw [State.rxRing_setRxRing, if_pos rfl, State.rxRing_congr hrx]
  · rw [State.rxRing_setRxRing, if_neg hm, State.rxRing_congr hrx]

/-- A write of the host that sets one transmit ring. -/
theorem State.hostWrites_tx (h : s.host.linkUp = true) (n : Nat) (f : Ring → Ring) {p : State → Prop}
    (hp : ∀ t : State, t.txRing n = f (s.txRing n) → (∀ m, m ≠ n → t.txRing m = s.txRing m) → t.host.rx = s.host.rx → p t) :
    Gives (.next (s.hostWrites (fun s => s.setTxRing n (f (s.txRing n))))) p := by
  obtain ⟨u, hu, hrx, htx⟩ := State.hostWrites_up h (fun s => s.setTxRing n (f (s.txRing n)))
  rw [hu, gives_next]
  refine hp _ ?_ (fun m hm => ?_) hrx
  · rw [State.txRing_setTxRing, if_pos rfl, State.txRing_congr htx]
  · rw [State.txRing_setTxRing, if_neg hm, State.txRing_congr htx]

theorem State.lastTx_setTxRing (s : State) (n : Nat) (r : Ring) : (s.setTxRing n r).host.lastTx = s.host.lastTx := rfl

theorem Ring.setTail_of_on {r : Ring} (h : r.size ≠ 0) (v : Nat) : r.setTail v = if v < 2 ^ r.size then { r with tail := v } else r := by
  rw [Ring.setTail]
  simp only [h, ne_eq, not_false_eq_true, true_and]

theorem Ring.setSize_of_off {r : Ring} {k : Nat} (h3 : 3 ≤ k) (h12 : k ≤ 12) (h : r.size = 0) :
    r.setSize k = { r with size := k, head := 0, tail := 0, state := 1, short := none } := by
  rw [Ring.setSize, if_neg (by omega), if_pos ⟨h3, h12, h⟩]

/-! ### A frame for the host (R499, R500) -/

/-- The piece of a frame that fits its first descriptor whole. -/
def wholePiece (i : Nat) (d : RxDesc) (bytes : Bytes) : RxPiece := { index := i, buf := d.buf, bytes := bytes, bad := false }

theorem fillEntries_whole {given i : Nat} {d : RxDesc} {ds : List RxDesc} {bytes : Bytes} (hg : given ≠ 0) (hb : bytes ≠ [])
    (hok : rxDescOk d = true) (hl : bytes.length ≤ d.len) : fillEntries given i (d :: ds) bytes = ([wholePiece i d bytes], []) := by
  obtain ⟨g, rfl⟩ := Nat.exists_eq_succ_of_ne_zero hg
  have hempty : bytes.isEmpty = false := List.isEmpty_eq_false_iff.mpr hb
  have hrest : ∀ g i ds, fillEntries g i ds ([] : Bytes) = ([], []) := by
    intro g i ds
    cases g <;> rfl
  rw [fillEntries, hempty, if_neg Bool.false_ne_true]
  simp only [List.headD_cons, hok, if_true, List.take_of_length_le hl, List.drop_length, hrest, Bool.not_true]
  rfl

theorem Ring.given_ne_zero {r : Ring} (hh : r.head < 2 ^ r.size) (ht : r.tail < 2 ^ r.size) (h : r.head ≠ r.tail) : r.given ≠ 0 := by
  rw [Ring.given]
  generalize 2 ^ r.size = z at *
  intro hc
  obtain hlt | hlt := Nat.lt_or_gt_of_ne h
  · have : (r.tail + z - r.head) % z = r.tail - r.head := by
      rw [show r.tail + z - r.head = (r.tail - r.head) + z by omega, Nat.add_mod_right, Nat.mod_eq_of_lt (by omega)]
    omega
  · have : (r.tail + z - r.head) % z = r.tail + z - r.head := Nat.mod_eq_of_lt (by omega)
    omega

/-- A whole frame to one descriptor: two writes over the link, and the ring's head and count move on by one. -/
theorem State.rxFrame_whole {f : HFrame} {d : RxDesc} {ds : List RxDesc} {r : Ring} (hr : s.rxRing (rxRingOf f) = r) (hs : r.size ≠ 0)
    (hh : r.head < 2 ^ r.size) (ht : r.tail < 2 ^ r.size) (hne : r.head ≠ r.tail) (hb : f.bytes ≠ []) (hrep : f.report = false)
    (hok : rxDescOk d = true) (hl : f.bytes.length ≤ d.len) :
    (∃ b, (s.rxFrame f (d :: ds)).out = .dma (r.base + 64 * r.head) b :: .dma d.buf f.bytes :: s.out) ∧
    ((s.rxFrame f (d :: ds)).rxRing (rxRingOf f)).head = (r.head + 1) % 2 ^ r.size ∧
    ((s.rxFrame f (d :: ds)).rxRing (rxRingOf f)).trunc = r.trunc ∧
    (s.rxFrame f (d :: ds)).rd (Key.hpTx 8) = satAdd u32Max (s.rd (Key.hpTx 8)) 1 ∧
    (s.rxFrame f (d :: ds)).har.leaving = s.har.leaving := by
  have hfill := fillEntries_whole (i := r.head) (ds := ds) (Ring.given_ne_zero hh ht hne) hb hok hl
  have hentry : r.entry r.head = r.base + 64 * r.head := by rw [Ring.entry, Nat.mod_eq_of_lt hh]
  unfold State.rxFrame
  simp only [hr, hfill, hrep, if_neg hs, State.reportFinal, Bool.false_eq_true, if_false, List.isEmpty_nil, Bool.not_true, List.length_singleton]
  have hpiece (first last : Bool) : s.writePiece r f (wholePiece r.head d f.bytes) false first last =
      (s.emit (.dma d.buf f.bytes)).emit (.dma (r.base + 64 * r.head)
        (rxBack f r.seq f.bytes.length 0 (first && true) (last && true))) := by
    rw [← hentry]
    rfl
  have heach (g : State → RxPiece → State) : s.each [wholePiece r.head d f.bytes] g = g s (wholePiece r.head d f.bytes) := rfl
  rw [heach, hpiece]
  generalize rxBack f _ _ _ _ _ = b
  generalize hw : (s.emit (.dma d.buf f.bytes)).emit (.dma (r.base + 64 * r.head) b) = w
  obtain ⟨hout, hnums, hleav⟩ : w.out = .dma (r.base + 64 * r.head) b :: .dma d.buf f.bytes :: s.out ∧ w.dict.nums = s.dict.nums ∧
      w.har.leaving = s.har.leaving := by
    rw [← hw]
    exact ⟨rfl, rfl, rfl⟩
  have hring (x : Ring) (c : Nat) : (((w.setRxRing (rxRingOf f) x).bump (Key.hpTx 8)).setCause c).rxRing (rxRingOf f) = x := by
    simp only [State.rxRing, State.setCause_keeps .., State.bump_keeps ..]
    exact (w.rxRing_setRxRing (rxRingOf f) (rxRingOf f) x).trans (if_pos rfl)
  rw [hring]
  simp only [State.setCause_keeps .., State.bump_keeps .., State.setRxRing_keeps .., State.rd_bump_self, hout, hleav]
  exact ⟨⟨b, rfl⟩, trivial, trivial, congrArg (satAdd u32Max · 1) (State.rd_of_nums hnums _), trivial⟩

/-- What the host's port does with its frame in the state as it stands. -/
def State.hostTake (s : State) (ds : List RxDesc) : State :=
  match KMap.find s.har.leaving 8 with
    | none => s
    | some f =>
      let r := s.rxRing (rxRingOf f)
      if r.size ≠ 0 ∧ r.head = r.tail then s
      else ({ s with har := { s.har with leaving := KMap.drop s.har.leaving 8 } }).rxFrame f ds

theorem hostRxFrame_eq (ds : List RxDesc) (dt : Nat) : exec (.hostRxFrame ds dt) s = .next ((s.advance dt).hostTake ds) := rfl

/-- The state without its frame for the host. -/
def State.hostLess (s : State) : State := { s with har := { s.har with leaving := KMap.drop s.har.leaving 8 } }

theorem State.hostLess_same (s : State) : s.hostLess.host = s.host ∧ s.hostLess.out = s.out ∧ s.hostLess.dict = s.dict ∧
    s.hostLess.har.leaving = KMap.drop s.har.leaving 8 := ⟨rfl, rfl, rfl, rfl⟩

theorem State.hostTake_takes {f : HFrame} {ds : List RxDesc} (hf : KMap.find s.har.leaving 8 = some f)
    (hne : (s.rxRing (rxRingOf f)).head ≠ (s.rxRing (rxRingOf f)).tail) : s.hostTake ds = s.hostLess.rxFrame f ds := by
  rw [State.hostTake, hf]
  exact if_neg fun hc => hne hc.2

theorem State.hostTake_waits {f : HFrame} {ds : List RxDesc} (hf : KMap.find s.har.leaving 8 = some f)
    (hs : (s.rxRing (rxRingOf f)).size ≠ 0) (he : (s.rxRing (rxRingOf f)).head = (s.rxRing (rxRingOf f)).tail) : s.hostTake ds = s := by
  rw [State.hostTake, hf]
  exact if_pos ⟨hs, he⟩

/-! ### Frames from the host (R501, R502) -/

theorem txSpan_single {d : BitVec 512} {ds : List (BitVec 512)} (h : txLast d = true) : txSpan 1 (d :: ds) = some (1, txFirst d) := by
  have hl : (d :: ds).take (min 1 16) = [d] := rfl
  have hf : findIdxFrom txLast 0 [d] = some 0 := if_pos h
  rw [txSpan, hl]
  simp only [hf]
  simp

/-- One descriptor that is no frame's is written back with status 1. -/
theorem txDescsOk_single {d : BitVec 512} (h : txFirst d = false ∨ txRanges d = false ∨ txField d 432 16 ≠ txField d 416 16) :
    (txFirst d && txDescsOk [d]) = false := by
  obtain h | h | h := h
  · rw [h, Bool.false_and]
  · simp [txDescsOk, h]
  · simp [txDescsOk, h]

/-- What a transmit ring needs for its next frame to be fetched. -/
structure State.TxTurn (s : State) (n : Nat) : Prop where
  on : (s.txRing n).state = 1
  size : (s.txRing n).size ≠ 0
  open' : s.inputClosed 8 = false
  link : s.host.linkUp = true
  turn : s.txTurn n = true

theorem State.TxTurn.advance {n : Nat} (h : s.TxTurn n) (dt : Nat) : (s.advance dt).TxTurn n where
  on := by simpa only [State.txRing, State.advance_keeps ..] using h.on
  size := by simpa only [State.txRing, State.advance_keeps ..] using h.size
  open' := by simpa only [State.inputClosed, State.advance_keeps ..] using h.open'
  link := by simpa only [State.advance_keeps ..] using h.link
  turn := by simpa only [State.txTurn, State.txReady, State.txRing, State.advance_keeps ..] using h.turn

/-- What a fetch does in the state as it stands. -/
def State.txFetch (s : State) (k : Nat) (ds : List (BitVec 512)) (data : Bytes) : State :=
  let r := s.txRing k
  if r.state ≠ 1 ∨ r.size = 0 ∨ s.inputClosed 8 ∨ !s.host.linkUp ∨ !s.txTurn k then s
    else match txSpan r.given ds with
      | none => s.setTxRing k { r with short := some r.tail }
      | some (count, whole) =>
        let l := ds.take count
        let d := l.headD 0
        let s := { s with host := { s.host with lastTx := k } }
        let got := if whole && txDescsOk l then s.txTake d (slice data 0 (txField d 416 16)) else (s, false)
        let status := if whole && txDescsOk l then (if got.2 then 0 else 2) else 1
        let s := got.1.txBackAll r l status
        (s.setTxRing k { r with head := (r.head + count) % 2 ^ r.size, short := none }).setCause (32 + k)

theorem txFrameFetch_eq {ds : List (BitVec 512)} {data : Bytes} {dt : Nat} :
    exec (.txFrameFetch n ds data dt) s = .next ((s.advance dt).txFetch n ds data) := rfl

theorem State.TxTurn.may {n : Nat} (h : s.TxTurn n) : ¬ ((s.txRing n).state ≠ 1 ∨ (s.txRing n).size = 0 ∨ s.inputClosed 8 = true ∨
    (!s.host.linkUp) = true ∨ (!s.txTurn n) = true) := by
  simp [h.on, h.size, h.open', h.link, h.turn]

theorem State.TxTurn.short {k : Nat} {ds : List (BitVec 512)} (h : s.TxTurn k) (hs : txSpan (s.txRing k).given ds = none) (data : Bytes) :
    s.txFetch k ds data = s.setTxRing k { s.txRing k with short := some (s.txRing k).tail } := by
  rw [State.txFetch]
  dsimp only
  rw [if_neg h.may, hs]

theorem State.TxTurn.short_holds {k : Nat} {ds : List (BitVec 512)} (h : s.TxTurn k) (hs : txSpan (s.txRing k).given ds = none) (data : Bytes) :
    (s.txFetch k ds data).txRing k = { s.txRing k with short := some (s.txRing k).tail } ∧ (s.txFetch k ds data).har = s.har ∧
    (s.txFetch k ds data).out = s.out ∧ (s.txFetch k ds data).host.lastTx = s.host.lastTx := by
  rw [h.short hs data, State.txRing_setTxRing, if_pos rfl]
  exact ⟨rfl, rfl, rfl, rfl⟩

theorem State.txFetch_idle {k : Nat} {ds : List (BitVec 512)} (h : (s.txRing k).state ≠ 1 ∨ (s.txRing k).size = 0 ∨ s.txTurn k = false)
    (data : Bytes) : s.txFetch k ds data = s := by
  rw [State.txFetch]
  refine if_pos ?_
  obtain h | h | h := h
  · exact .inl h
  · exact .inr (.inl h)
  · exact .inr (.inr (.inr (.inr (by rw [h]; rfl))))

theorem State.TxTurn.badDesc {k : Nat} {d : BitVec 512} {ds : List (BitVec 512)} (h : s.TxTurn k) (hg : (s.txRing k).given = 1)
    (hl : txLast d = true) (hb : txFirst d = false ∨ txRanges d = false ∨ txField d 432 16 ≠ txField d 416 16) (data : Bytes) :
    s.txFetch k (d :: ds) data = (({ s with host := { s.host with lastTx := k } }.emit
      (.dma ((s.txRing k).entry (s.txRing k).head + 46) (leBytes 1 (1 * 16 + txField d 368 4)))).setTxRing k
        { s.txRing k with head := ((s.txRing k).head + 1) % 2 ^ (s.txRing k).size, short := none }).setCause (32 + k) := by
  rw [State.txFetch]
  dsimp only
  rw [if_neg h.may, hg, txSpan_single hl]
  simp only [List.take_succ_cons, List.take_zero, txDescsOk_single hb, Bool.false_eq_true, if_false]
  rfl

/-! ### Errors of the DMA (R504) -/

theorem dmaError_tx {addr : BitVec 64} (h : (s.txRing n).state = 1) : exec (.dmaError false n addr) s =
    .next ((s.setTxRing n { s.txRing n with state := 2 }).post .hifDmaError 0x1000 (32 + n) addr.toNat) := by
  rw [exec_dmaError, execDmaError]
  simp [h]

theorem dmaError_rx {addr : BitVec 64} (h : (s.rxRing n).size ≠ 0) (hf : KMap.find s.har.leaving 8 = none) : exec (.dmaError true n addr) s =
    .next ((s.setRxRing n { s.rxRing n with size := 0 }).post .hifDmaError 0x1000 n addr.toNat) := by
  rw [exec_dmaError, execDmaError]
  simp [h, hf]

/-! ### The settled statement -/

/-- Settles O46: a write of the host sets its one ring, and a ring carries, waits or stops by its state. -/
theorem hostRings : Obligations.HostRings := by
  refine ⟨?rxTail, ?txTail, ?rxSize, ?txSize, ?off, ?rxWaits, ?rxFrame, ?badDesc, ?short, ?idle, ?txError, ?rxError⟩
  case rxTail =>
    intro n v s hl hs
    rw [exec_rxRingTailWrite, execRxRingTailWrite]
    refine State.hostWrites_rx hl n (fun r => r.setTail v.toNat) fun t ht hm hx => ?_
    rw [ht, Ring.setTail_of_on hs]
    exact ⟨rfl, hm, hx⟩
  case txTail =>
    intro n v s hl hs
    rw [exec_txRingTailWrite, execTxRingTailWrite]
    refine State.hostWrites_tx hl n (fun r => r.setTail v.toNat) fun t ht hm hx => ?_
    rw [ht, Ring.setTail_of_on hs]
    exact ⟨rfl, hm, hx⟩
  case rxSize =>
    intro n k s hl h3 h12 hs
    rw [exec_rxRingSizeWrite, execRxRingSizeWrite]
    refine State.hostWrites_rx hl n (fun r => { r.setSize k.toNat with state := 0 }) fun t ht hm _ => ?_
    rw [ht, Ring.setSize_of_off h3 h12 hs]
    exact ⟨rfl, rfl, rfl, rfl, hm⟩
  case txSize =>
    intro n k s hl h3 h12 hs
    rw [exec_txRingSizeWrite, execTxRingSizeWrite]
    refine State.hostWrites_tx hl n (fun r => r.setSize k.toNat) fun t ht hm _ => ?_
    rw [ht, Ring.setSize_of_off h3 h12 hs]
    exact ⟨rfl, rfl, rfl, rfl, hm⟩
  case off =>
    intro n s hl
    rw [exec_rxRingSizeWrite, execRxRingSizeWrite, exec_txRingSizeWrite, execTxRingSizeWrite]
    constructor
    · refine State.hostWrites_rx hl n (fun r => { r.setSize (0#4).toNat with state := 0 }) fun t ht _ _ => ?_
      rw [ht]
      rfl
    · refine State.hostWrites_tx hl n (fun r => r.setSize (0#4).toNat) fun t ht _ _ => ?_
      rw [ht]
      exact ⟨rfl, rfl⟩
  case rxWaits =>
    intro ds dt f s hf hs he
    have hf' : KMap.find (s.advance dt).har.leaving 8 = some f := by simpa only [State.advance_keeps ..] using hf
    have hr : (s.advance dt).rxRing (rxRingOf f) = s.rxRing (rxRingOf f) := by simp only [State.rxRing, State.advance_keeps ..]
    rw [hostRxFrame_eq, State.hostTake_waits hf' (by rwa [hr]) (by rwa [hr]), gives_next]
  case rxFrame =>
    intro d ds dt f s hf hb hrep hok hl _ hs hh ht hne
    have hf' : KMap.find (s.advance dt).har.leaving 8 = some f := by simpa only [State.advance_keeps ..] using hf
    obtain ⟨hhost, hout, hdict, hleav⟩ := (s.advance dt).hostLess_same
    have hr : (s.advance dt).rxRing (rxRingOf f) = s.rxRing (rxRingOf f) := by simp only [State.rxRing, State.advance_keeps ..]
    have hr' : (s.advance dt).hostLess.rxRing (rxRingOf f) = s.rxRing (rxRingOf f) := by rw [State.rxRing, hhost, ← State.rxRing, hr]
    obtain ⟨⟨b, ho⟩, hhead, htrunc, hcnt, hlv⟩ := State.rxFrame_whole (ds := ds) hr' hs hh ht hne hb hrep hok hl
    have hfind : KMap.find (KMap.drop (s.advance dt).har.leaving 8) 8 = none := KMap.find_drop_self ..
    rw [hostRxFrame_eq, State.hostTake_takes hf' (by rwa [hr]), gives_next, hlv, hleav, ho, hout, hhead, htrunc, hcnt,
      State.rd_of_nums (congrArg Dictionary.nums hdict), hfind]
    simp only [State.advance_keeps .., and_true, true_and]
    exact ⟨b, rfl⟩
  case badDesc =>
    intro n d ds data dt s hon hs ho hl ht hg hlast hb
    have h := (State.TxTurn.mk hon hs ho hl ht).advance dt
    have hr : (s.advance dt).txRing n = s.txRing n := by simp only [State.txRing, State.advance_keeps ..]
    rw [txFrameFetch_eq, h.badDesc (by rw [hr, hg]) hlast hb, gives_next, hr]
    simp only [State.txRing, State.setCause_keeps ..]
    refine ⟨rfl, ?_, ?_, ?_⟩
    · exact congrArg Ring.head ((State.txRing_setTxRing ..).trans (if_pos rfl))
    · simp only [State.setTxRing_keeps .., State.emit_keeps .., State.advance_keeps ..]
    · simp only [State.setTxRing_keeps .., State.out_emit, State.advance_keeps ..]
      rfl
  case short =>
    intro n ds data dt s hon hs ho hl ht hspan
    have h := (State.TxTurn.mk hon hs ho hl ht).advance dt
    have hr : (s.advance dt).txRing n = s.txRing n := by simp only [State.txRing, State.advance_keeps ..]
    obtain ⟨hring, hhar, hout, hlast⟩ := h.short_holds (ds := ds) (by rw [hr, hspan]) data
    rw [txFrameFetch_eq, gives_next, hring, hhar, hout, hlast, hr]
    simp only [State.advance_keeps .., and_self]
  case idle =>
    intro n ds data dt s h
    have hr : (s.advance dt).txRing n = s.txRing n := by simp only [State.txRing, State.advance_keeps ..]
    have ht : (s.advance dt).txTurn n = s.txTurn n := by simp only [State.txTurn, State.txReady, State.txRing, State.advance_keeps ..]
    rw [txFrameFetch_eq, State.txFetch_idle (by rwa [hr, ht]), gives_next]
  case txError =>
    intro n addr s h
    rw [dmaError_tx h, gives_next]
    simp only [State.txRing, State.post_keeps ..]
    refine ⟨congrArg Ring.state ((State.txRing_setTxRing s n n _).trans (if_pos rfl)),
      fun m hm => (State.txRing_setTxRing s n m _).trans (if_neg hm), rfl,
      Posted.of_post (s := s) (u := s.setTxRing n { s.txRing n with state := 2 }) rfl .hifDmaError 0x1000 (32 + n) addr.toNat 0xFF⟩
  case rxError =>
    intro n addr s h hf
    rw [dmaError_rx h hf, gives_next]
    simp only [State.rxRing, State.post_keeps ..]
    refine ⟨congrArg Ring.size ((State.rxRing_setRxRing s n n _).trans (if_pos rfl)),
      fun m hm => (State.rxRing_setRxRing s n m _).trans (if_neg hm), rfl,
      Posted.of_post (s := s) (u := s.setRxRing n { s.rxRing n with size := 0 }) rfl .hifDmaError 0x1000 n addr.toNat 0xFF⟩

end Sys2Proof.Machine
end

section
/-! ## O9: tile islands keep their dwell, and placements change at the safe point (R140, R141, R164, R539) -/

namespace Sys2Proof.Machine

variable {s : State} {x : Tile} {dt : Nat}

/-! ### Islands -/

theorem State.isl_advance (s : State) (x : Tile) (dt : Nat) : (s.advance dt).isl x = s.isl x := by
  cases x <;> simp only [State.isl, State.rx, State.tx, State.advance_keeps ..]

theorem State.islandIdle_advance (s : State) (x : Tile) (dt : Nat) : (s.advance dt).islandIdle x = s.islandIdle x := by
  cases x <;> simp only [State.islandIdle, State.rxBusy, State.tx, State.advance_keeps ..]

/-- A core's island is the tile's. -/
theorem State.isl_core (s : State) (n : Fin 16) : s.isl (.core n) = s.coreIsl n := rfl

theorem State.islandServe_tile (hx : ∀ k, x ≠ .core k) (s : State) (on : Bool) : s.islandServe x on =
    if (s.isl x).want = some on ∧ (on ∨ s.islandIdle x) then s.setIsl x ((s.isl x).serve s.elapsed) else s := by
  cases x with
  | rx n => rfl
  | tx n => rfl
  | core n => exact absurd rfl (hx n)

theorem State.isl_islandServe_early (hx : ∀ k, x ≠ .core k) (hd : s.elapsed < (s.isl x).since + us 10) (on : Bool) :
    (s.islandServe x on).isl x = s.isl x := by
  have hsame : (s.isl x).serve s.elapsed = s.isl x := if_pos hd
  rw [State.islandServe_tile hx, hsame]
  split
  · rw [State.isl_setIsl_self]
  · rfl

theorem Islands.serve_start {i : Islands} {now : Nat} (hp : i.phase = .off) (hw : i.want = some true) (hd : i.since + us 10 ≤ now) :
    i.serve now = { i with phase := .starting, want := none } := by
  rw [Islands.serve, if_neg (Nat.not_lt.mpr hd), hp, hw]

theorem Islands.serve_stop {i : Islands} {now : Nat} (hp : i.phase = .on) (hw : i.want = some false) (hd : i.since + us 10 ≤ now) :
    i.serve now = { i with phase := .stopping, want := none } := by
  rw [Islands.serve, if_neg (Nat.not_lt.mpr hd), hp, hw]

theorem Islands.coreServe_start {i : Islands} {now : Nat} (hp : i.phase = .off) (hw : i.want = some true) (hd : i.since + us 10 ≤ now) :
    i.coreServe now = { phase := .on, since := now, want := none } := by
  rw [Islands.coreServe, if_neg (Nat.not_lt.mpr hd), hp]
  exact if_pos hw

theorem Islands.coreServe_stop {i : Islands} {now : Nat} (hp : i.phase = .stopping) (hd : i.since + us 10 ≤ now) :
    i.coreServe now = { i with phase := .off, since := now } := by
  rw [Islands.coreServe, if_neg (Nat.not_lt.mpr hd), hp]

/-- A start that follows the island leaves the island as it is served. -/
theorem State.coreIsl_coreIslServe (s : State) (n : Fin 16) : (s.coreIslServe n).coreIsl n = (s.coreIsl n).coreServe s.elapsed := by
  have hset : (s.setCoreIsl n ((s.coreIsl n).coreServe s.elapsed)).coreIsl n = (s.coreIsl n).coreServe s.elapsed :=
    State.coreIsl_setCoreIsl_self _ _ n.isLt
  rw [State.coreIslServe]
  split
  · rw [State.coreIsl]
    simp only [State.coreGo_keeps ..]
    exact hset
  · exact hset

theorem State.isl_rxAsk (s : State) (n : Fin 64) : ((s.rxAsk n).rx n).isl.phase = (s.rx n).isl.phase ∧
    ((s.rxAsk n).rx n).isl.since = (s.rx n).isl.since ∧ ((s.rxAsk n).rx n).next = (s.rx n).next := by
  unfold State.rxAsk
  extract_lets +onlyGivenNames on t up hears u set
  have hset : set.rx n = { u with isl := u.isl.ask on } := State.rx_setRx_self _ _ n.isLt
  have hu : u.isl = t.isl ∧ u.next = t.next := by
    unfold u
    split
    · rw [RxTile.blankOff]
      split <;> exact ⟨rfl, rfl⟩
    · exact ⟨rfl, rfl⟩
  have hwr (k v : Nat) : (set.wr k v).rx n = set.rx n := by simp only [State.rx, State.wr_keeps ..]
  split
  · rw [hset]
    exact ⟨(congrArg Islands.phase hu.1 :), (congrArg Islands.since hu.1 :), hu.2⟩
  · rw [hwr, hset]
    exact ⟨(congrArg Islands.phase hu.1 :), (congrArg Islands.since hu.1 :), hu.2⟩

theorem State.isl_islandEnded (s : State) (x : Tile) : ((s.islandEnded x).isl x).phase = (s.isl x).phase ∧
    ((s.islandEnded x).isl x).since = (s.isl x).since := by
  cases x with
  | rx n => exact ⟨(s.isl_rxAsk n).1, (s.isl_rxAsk n).2.1⟩
  | tx n => exact ⟨rfl, rfl⟩
  | core n => exact ⟨rfl, rfl⟩

/-! ### Placements (R164) -/

theorem State.rd_rxAsk_placed (s : State) (n m : Nat) : (s.rxAsk n).rd (Key.rxcPlaced m) = s.rd (Key.rxcPlaced m) :=
  State.rxAsk_rd (by simp)

theorem State.rxLeave_holds (s : State) (n : Fin 64) (next : Option Nat) : (s.rxLeave n next).rd (Key.rxcPlaced n) = unplaced ∧
    ((s.rxLeave n next).rx n).next = next := by
  rw [State.rxLeave, State.rd_rxAsk_placed, State.rd_wr_self, (State.isl_rxAsk _ n).2.2]
  refine ⟨rfl, ?_⟩
  simp only [State.rx, State.wr_keeps ..]
  exact congrArg RxTile.next (State.rx_setRx_self s _ n.isLt)

theorem State.rxTake_holds (s : State) (n : Fin 64) (w : Nat) : (s.rxTake n w).rd (Key.rxcPlaced n) = w ∧ ((s.rxTake n w).rx n).next = none := by
  unfold State.rxTake
  extract_lets +onlyGivenNames old moved t t' src placed
  have hn : (placed.rx n).next = none := by
    simp only [placed, State.rx, State.wr_keeps ..]
    exact congrArg RxTile.next (State.rx_setRx_self s _ n.isLt)
  have hw : placed.rd (Key.rxcPlaced n) = w := State.rd_wr_self ..
  clear_value placed
  split
  · constructor
    · rw [State.rd_wr_of_fam _ _ (by simp)]
      exact (State.rd_of_nums rfl _).trans hw
    · simp only [State.rx, State.wr_keeps ..]
      exact (congrArg RxTile.next (State.rx_setRx_self placed _ n.isLt)).trans hn
  · rw [State.rd_rxAsk_placed, (State.isl_rxAsk _ n).2.2]
    exact ⟨hw, hn⟩

section

variable {n : Fin 64} {w : Nat} (hw : (s.rx n).next = some w) (hb : s.rxBusy n = false)
include hw hb

theorem State.rxMove_moves (hp : w = unplaced ∨ (3 ≤ s.pstate (placePort w) ∧ s.rxOthers (placePort w) n < 32)) :
    (s.rxMove n).rd (Key.rxcPlaced n) = w ∧ ((s.rxMove n).rx n).next = none := by
  rw [State.rxMove, hw]
  dsimp only
  rw [hb, if_neg Bool.false_ne_true]
  by_cases hu : w = unplaced
  · rw [if_pos hu, hu]
    exact s.rxLeave_holds n none
  · rw [if_neg hu, if_pos (hp.resolve_left hu)]
    exact s.rxTake_holds n w

theorem State.rxMove_leaves (hu : w ≠ unplaced) (hp : s.pstate (placePort w) < 3) :
    (s.rxMove n).rd (Key.rxcPlaced n) = unplaced ∧ ((s.rxMove n).rx n).next = some w := by
  rw [State.rxMove, hw]
  dsimp only
  rw [hb, if_neg Bool.false_ne_true, if_neg hu, if_neg (fun hc => absurd hc.1 (Nat.not_le.mpr hp))]
  split
  next hold => exact ⟨hold, hw⟩
  next => exact s.rxLeave_holds n (some w)

end

theorem State.rxMove_busy {n : Fin 64} (hb : s.rxBusy n = true) : s.rxMove n = s := by
  rw [State.rxMove]
  split
  · rfl
  · exact if_pos hb

/-! ### The settled statement -/

/-- Settles O9: each island sequence by its phase and its dwell, and each placement by the state of its port. -/
theorem tileIslands : Obligations.TileIslands := by
  refine ⟨?start, ?startCore, ?stop, ?on, ?off, ?offCore, ?dwell, ?early, ?moves, ?leaves, ?busy⟩
  case start =>
    intro x dt s hx hp hw hd
    rw [← s.isl_advance x dt] at hp hw hd
    rw [exec_islandStart, execIslandStart, State.islandServe_tile hx, if_pos ⟨hw, .inl rfl⟩, gives_next, State.isl_setIsl_self,
      Islands.serve_start hp hw hd]
    exact ⟨rfl, rfl⟩
  case startCore =>
    intro n dt s hp hw hd
    rw [← s.isl_advance _ dt, State.isl_core] at hp hw hd
    rw [exec_islandStart, execIslandStart, State.islandServe, gives_next, State.isl_core, State.coreIsl_coreIslServe,
      Islands.coreServe_start hp hw hd]
    exact ⟨rfl, rfl⟩
  case stop =>
    intro x dt s hx hp hw hi hd
    rw [← s.isl_advance x dt] at hp hw hd
    rw [← s.islandIdle_advance x dt] at hi
    rw [exec_islandStop, execIslandStop, State.islandServe_tile hx, if_pos ⟨hw, .inr hi⟩, gives_next, State.isl_setIsl_self,
      Islands.serve_stop hp hw hd]
    exact ⟨rfl, rfl⟩
  case on =>
    intro x dt s hp
    rw [← s.isl_advance x dt] at hp
    rw [exec_islandOn, execIslandOn]
    generalize s.advance dt = u at *
    rw [if_pos hp, gives_next, (State.isl_islandEnded ..).1, (State.isl_islandEnded ..).2, State.isl_setIsl_self]
    exact ⟨rfl, rfl⟩
  case off =>
    intro x dt s hx hp hi
    rw [← s.isl_advance x dt] at hp
    rw [← s.islandIdle_advance x dt] at hi
    have hoff (u : State) (hp : (u.isl x).phase = .stopping) (hi : u.islandIdle x = true) :
        (((if (u.isl x).phase = .stopping ∧ u.islandIdle x = true then
          (u.setIsl x { u.isl x with phase := .off, since := u.elapsed }).islandEnded x else u)).isl x).phase = .off ∧
        (((if (u.isl x).phase = .stopping ∧ u.islandIdle x = true then
          (u.setIsl x { u.isl x with phase := .off, since := u.elapsed }).islandEnded x else u)).isl x).since = u.elapsed := by
      rw [if_pos ⟨hp, hi⟩, (State.isl_islandEnded ..).1, (State.isl_islandEnded ..).2, State.isl_setIsl_self]
      exact ⟨rfl, rfl⟩
    rw [exec_islandOff]
    cases x with
    | rx n => exact gives_next.mpr (hoff _ hp hi)
    | tx n => exact gives_next.mpr (hoff _ hp hi)
    | core n => exact absurd rfl (hx n)
  case offCore =>
    intro n dt s hp hd
    rw [← s.isl_advance _ dt, State.isl_core] at hp hd
    rw [exec_islandOff]
    refine gives_next.mpr ?_
    rw [State.isl_core, State.coreIsl_coreIslServe, Islands.coreServe_stop hp hd]
    exact ⟨rfl, rfl⟩
  case dwell =>
    intro x dt s hx hp hw hd
    rw [← s.isl_advance x dt] at hp hw hd
    rw [exec_islandDwellEnd, execIslandDwellEnd]
    rw [hw, Option.getD_some, State.islandServe_tile hx, if_pos ⟨hw, .inl rfl⟩, gives_next, State.isl_setIsl_self, Islands.serve_start hp hw hd]
  case early =>
    intro x dt s hd
    have hkeep := s.isl_advance x dt
    rw [← hkeep] at hd
    rw [exec_islandDwellEnd, execIslandDwellEnd, gives_next, ← hkeep]
    generalize s.advance dt = u at *
    cases x with
    | core n =>
      have hsame : (u.coreIsl n).coreServe u.elapsed = u.coreIsl n := if_pos hd
      exact (u.coreIsl_coreIslServe n).trans hsame
    | rx n => exact State.isl_islandServe_early (by intro k h; cases h) hd _
    | tx n => exact State.isl_islandServe_early (by intro k h; cases h) hd _
  case moves =>
    intro n w s hw hb hp
    rw [exec_placementChange, execPlacementChange, gives_next]
    exact State.rxMove_moves hw hb hp
  case leaves =>
    intro n w s hw hb hu hp
    rw [exec_placementChange, execPlacementChange, gives_next]
    exact State.rxMove_leaves hw hb hu hp
  case busy =>
    intro n s hb
    rw [exec_placementChange, execPlacementChange, State.rxMove_busy hb, gives_next]

end Sys2Proof.Machine
end

section
/-! ## O8: ports move through their states and relock (R130, R134 to R139) -/

namespace Sys2Proof.Machine

variable {s : State} {p : Nat}

/-! ### One round of `State.portGo` -/

theorem State.pstate_setPort (s : State) (p q : Nat) (x : Port) : (s.setPort q x).pstate p = s.pstate p := State.rd_setPort ..

theorem State.portTarget_host {t : Nat} (hseq : (s.port p).seq = false) (hheld : s.radioHeld = false) (hh : (s.port p).host = some t) :
    s.portTarget p = some t := by
  rw [State.portTarget, hseq, hheld, hh]
  rfl

section

variable (hs : (s.port p).step = none) (hr : (s.port p).resume = none)
include hs hr

/-- A port away from its target whose dwell has passed begins the step towards it. -/
theorem State.portGo_steps {t n : Nat} (ht : s.portTarget p = some t) (hne : s.pstate p ≠ t) (hd : s.dwellOver p = true) (h2 : s.pstate p < 3) :
    ∃ x, State.portGo (n + 1) s p = s.setPort p x ∧ x.step = some (nextState (s.pstate p) t) ∧ x.host = (s.port p).host := by
  have hair : ¬ (!s.dwellOver p || (s.pstate p == 4 && !(s.airOn p).isEmpty)) = true := by
    have : (s.pstate p == 4) = false := beq_eq_false_iff_ne.mpr (by omega)
    simp [hd, this]
  rw [State.portGo]
  simp only [hs, hr, ht, Option.isSome_none, Bool.false_eq_true, if_false, if_neg hne, if_neg hair]
  rw [if_neg (show ¬ (s.pstate p = 3 ∧ _) from fun hc => by omega)]
  exact ⟨_, rfl, rfl, rfl⟩

/-- A port whose dwell has not passed stays, unless its target is the state it is in. -/
theorem State.portGo_dwells {n : Nat} (ht : s.portTarget p ≠ some (s.pstate p)) (hd : s.dwellOver p = false) : State.portGo n s p = s := by
  cases n with
  | zero => rfl
  | succ n =>
    rw [State.portGo]
    simp only [hs, hr, Option.isSome_none, Bool.false_eq_true, if_false]
    split
    · rfl
    next t h => simp only [if_neg (fun e : s.pstate p = t => ht (by rw [h, e])), hd, Bool.not_false, Bool.true_or, if_true]

end

theorem State.port_wrEdge (s : State) (p k v src : Nat) : (s.wrEdge k v src).port p = s.port p := by
  simp only [State.port, State.wrEdge_keeps ..]

theorem State.pstate_wrEdge_ne {q : Nat} (hp : p < 4) (h : p ≠ q) (s : State) (v src : Nat) :
    (s.wrEdge (Key.portState q) v src).pstate p = s.pstate p :=
  State.rd_wrEdge_ne _ _ _ (by simp only [Key.portState]; split_ifs <;> omega)

theorem State.follow_same (s : State) (p q st : Nat) (hold : Bool) : ((s.rxFollow q).femDrive q st hold).port p = s.port p ∧
    ((s.rxFollow q).femDrive q st hold).pstate p = s.pstate p := by
  constructor
  · simp only [State.port, State.femDrive_keeps .., State.rxFollow_keeps ..]
  · exact (State.rd_of_nums (s := s.rxFollow q) (by simp only [State.femDrive_keeps ..]) _).trans (State.rxFollow_rd (by simp))

theorem State.relockGo_other {q : Nat} (hp : p < 4) (h : p ≠ q) (s : State) : (s.relockGo q).port p = s.port p ∧ (s.relockGo q).pstate p = s.pstate p := by
  rw [State.relockGo]
  split
  · exact ⟨rfl, rfl⟩
  · rw [(State.follow_same ..).1, (State.follow_same ..).2, State.port_setPort_ne _ _ h, State.pstate_setPort, State.port_wrEdge,
      State.pstate_wrEdge_ne hp h]
    exact ⟨rfl, rfl⟩

theorem State.preempt_same (s : State) (p q : Nat) : (s.preempt q).port p = s.port p ∧ (s.preempt q).pstate p = s.pstate p :=
  ⟨by simp only [State.port, State.preempt_keeps ..], State.preempt_rd (by simp)⟩

theorem State.portSettle_other {q : Nat} (h : p ≠ q) (s : State) (t : Nat) : (s.portSettle q t).port p = s.port p ∧
    (s.portSettle q t).pstate p = s.pstate p := by
  refine ⟨?_, by simp only [State.pstate, State.portSettle_keeps ..]⟩
  unfold State.portSettle
  extract_lets x y
  split
  · exact State.port_setPort_ne _ _ h
  · split
    · simp only [State.port, State.resEndIfBusy_keeps ..]
      exact State.port_setPort_ne _ _ h
    · exact State.port_setPort_ne _ _ h

/-- A port's run leaves the other ports. -/
theorem State.portGo_other {q : Nat} (hp : p < 4) (h : p ≠ q) (n : Nat) (s : State) : (State.portGo n s q).port p = s.port p ∧
    (State.portGo n s q).pstate p = s.pstate p := by
  induction n generalizing s with
  | zero => exact ⟨rfl, rfl⟩
  | succ n ih =>
    simp only [State.portGo]
    split
    · exact ⟨rfl, rfl⟩
    · split
      · exact State.relockGo_other hp h s
      · split
        · exact ⟨rfl, rfl⟩
        next t _ =>
        split
        · split
          · obtain ⟨h1, h2⟩ := State.portSettle_other h s t
            obtain ⟨h3, h4⟩ := ih (s.portSettle q t)
            exact ⟨h3.trans h1, h4.trans h2⟩
          · exact ⟨rfl, rfl⟩
        · split
          · exact ⟨rfl, rfl⟩
          · rw [State.port_setPort_ne _ _ h, State.pstate_setPort]
            split
            · exact State.preempt_same ..
            · exact ⟨rfl, rfl⟩

/-- A port that has its lock anew keeps it through its run. -/
theorem State.portGo_locked (n : Nat) (s : State) (hp : p < 4) (h2 : s.pstate p = 2) (hr : (s.port p).resume = none) (ht : (s.port p).tries = 0) :
    (State.portGo n s p).pstate p = 2 ∧ ((State.portGo n s p).port p).resume = none ∧ ((State.portGo n s p).port p).tries = 0 := by
  induction n generalizing s with
  | zero => exact ⟨h2, hr, ht⟩
  | succ n ih =>
    simp only [State.portGo, hr, Option.isSome_none, Bool.false_eq_true, if_false]
    split
    · exact ⟨h2, hr, ht⟩
    · split
      · exact ⟨h2, hr, ht⟩
      next t _ =>
      split
      · split
        · have hsettled : ((s.portSettle p t).port p).resume = none ∧ ((s.portSettle p t).port p).tries = 0 := by
            unfold State.portSettle
            extract_lets x y
            split
            · rw [State.port_setPort_self _ _ hp]
              exact ⟨hr, ht⟩
            · split
              · simp only [State.port, State.resEndIfBusy_keeps ..]
                have := State.port_setPort_self s { y with host := none } hp
                exact ⟨(congrArg Port.resume this).trans hr, (congrArg Port.tries this).trans ht⟩
              · rw [State.port_setPort_self _ _ hp]
                exact ⟨hr, ht⟩
          exact ih _ (by simpa only [State.pstate, State.portSettle_keeps ..] using h2) hsettled.1 hsettled.2
        · exact ⟨h2, hr, ht⟩
      · split
        · exact ⟨h2, hr, ht⟩
        · rw [State.port_setPort_self _ _ hp, State.pstate_setPort, h2, if_neg (show ¬ ((2 : Nat) = 3 ∧ _) from fun hc => by omega)]
          exact ⟨h2, hr, by rw [if_neg (by omega)]; exact ht⟩

/-! ### Relocking (R134, R137) -/

theorem State.airOn_congr {u : State} (ht : u.radio.tx = s.radio.tx) (hr : ∀ n, u.rd (Key.txcState n) = s.rd (Key.txcState n)) (p : Nat) :
    u.airOn p = s.airOn p := by
  simp only [State.airOn, State.jobsOn, State.onAir, State.tx, ht, hr]

/-- The port `p` as it enters a relock. -/
def State.relocking (s : State) (p : Nat) : State :=
  let x := s.port p
  let goal := (s.portTarget p).getD (s.pstate p)
  let s := s.preempt p
  s.setPort p { (s.port p) with step := none, resume := some goal, tries := 0, back := if x.seq || x.host.isSome then none else some goal }

theorem State.relock_eq (s : State) (p : Nat) : s.relock p = (s.relocking p).relockGo p := rfl

theorem State.relocking_holds (hp : p < 4) (s : State) : ((s.relocking p).port p).resume = some ((s.portTarget p).getD (s.pstate p)) ∧
    ((s.relocking p).port p).step = none ∧ ((s.relocking p).port p).tries = 0 ∧ (s.relocking p).pstate p = s.pstate p ∧
    (s.relocking p).airOn p = s.airOn p ∧ ((s.relocking p).port p).centre = (s.port p).centre := by
  unfold State.relocking
  rw [State.port_setPort_self _ _ hp, State.pstate_setPort, (s.preempt_same p p).2, (s.preempt_same p p).1]
  refine ⟨rfl, rfl, rfl, rfl, ?_, rfl⟩
  refine State.airOn_congr ?_ (fun n => ?_) p
  · simp only [State.setPort_keeps .., State.preempt_keeps ..]
  · rw [State.rd_setPort]
    exact State.preempt_rd (by simp)

/-- A relock with nothing on air begins at once. -/
theorem State.relock_begins (hp : p < 4) (ha : s.airOn p = []) : (s.relock p).pstate p = 2 ∧
    ((s.relock p).port p).resume = some ((s.portTarget p).getD (s.pstate p)) ∧ ((s.relock p).port p).step = some 2 ∧
    ((s.relock p).port p).tries = 0 ∧ ((s.relock p).port p).centre = (s.port p).centre := by
  obtain ⟨hres, hstep, htries, _, hair, hcen⟩ := s.relocking_holds hp
  have hgo : ¬ (((s.relocking p).port p).resume.isNone || ((s.relocking p).port p).step.isSome || !((s.relocking p).airOn p).isEmpty) = true := by
    simp [hres, hstep, hair, ha]
  rw [State.relock_eq, State.relockGo]
  dsimp only
  rw [if_neg hgo, (State.follow_same ..).1, (State.follow_same ..).2, State.port_setPort_self _ _ hp, State.pstate_setPort]
  exact ⟨State.rd_wrEdge_self .., hres, rfl, htries, hcen⟩

/-- A relock waits for what ramps down. -/
theorem State.relock_waits (hp : p < 4) (ha : s.airOn p ≠ []) : s.relock p = s.relocking p := by
  rw [State.relock_eq, State.relockGo]
  refine if_pos ?_
  rw [(s.relocking_holds hp).2.2.2.2.1]
  simp [ha]

theorem State.abortAir_none (ha : s.airOn p = []) : s.abortAir p = s := by
  rw [State.abortAir_eq, ha]
  rfl

theorem State.jobPort_abortOne {n : Nat} (h16 : n < 16) (s : State) (q m : Nat) :
    ((s.abortOne q m).tx n).job.map (·.req.port) = (s.tx n).job.map (·.req.port) := by
  by_cases hm : m = n
  · subst hm
    unfold State.abortOne
    split
    next j hj =>
      split
      · rfl
      · rw [hj]
        exact congrArg (fun x : TxTile => x.job.map (·.req.port)) (State.tx_setTx_self _ _ h16)
    · rfl
  · rw [(State.abortOne_other h16 hm s).2]

theorem State.jobPort_abortAir {n : Nat} (h16 : n < 16) (s : State) (q : Nat) :
    ((s.abortAir q).tx n).job.map (·.req.port) = (s.tx n).job.map (·.req.port) := by
  rw [State.abortAir_eq]
  exact State.each_same (fun t : State => (t.tx n).job.map (·.req.port)) (fun t m => State.jobPort_abortOne h16 t q m) s _

/-- What ramps down is on air still. -/
theorem State.mem_airOn_abortAir {n : Nat} {j : TxJob} (hn : n ∈ s.airOn p) (hj : (s.tx n).job = some j) (ha : j.aborted = none) :
    n ∈ (s.abortAir p).airOn p ∧ (s.abortAir p).RampsSince n s.elapsed := by
  obtain ⟨h16, ⟨i, hi, hport⟩, hair⟩ := State.mem_airOn.mp hn
  have hr := State.each_abortOne_hit (p := p) h16 (s.airOn p) s ⟨hair, hj, ha⟩ hn
  rw [← State.abortAir_eq] at hr
  refine ⟨State.mem_airOn.mpr ⟨h16, ?_, by rw [hr.1]⟩, hr⟩
  have := State.jobPort_abortAir h16 s p
  rw [hi, Option.map_some, hport] at this
  simpa [Option.map_eq_some_iff] using this

theorem State.port_abortAir (hp : p < 4) (s : State) (q : Nat) : ((s.abortAir q).port p).resume = (s.port p).resume ∧ (s.abortAir q).pstate p = s.pstate p := by
  refine ⟨?_, State.abortAir_rd (by simp)⟩
  rw [State.abortAir_eq]
  refine State.each_same (fun t : State => (t.port p).resume) (fun t m => ?_) s _
  unfold State.abortOne
  split
  · split
    · rfl
    · have hport : ∀ u : State, ((u.burstMark q).port p).resume = (u.port p).resume := fun u => by
        by_cases h : p = q
        · subst h
          exact (congrArg Port.resume (State.port_setPort_self u { (u.port p) with burst := some u.elapsed } hp) :)
        · exact congrArg Port.resume (State.port_setPort_ne _ _ h)
      exact (hport _).trans (congrArg Port.resume (by simp only [State.port, State.setTx_keeps .., State.wr_keeps ..]))
  · rfl

theorem synthLockLost_runs {p : Fin 4} (hr : (s.port p).resume = none) (h3 : 3 ≤ s.pstate p) :
    exec (.synthLockLost p) s = .next ((s.abortAir p).relock p) := by
  rw [exec_synthLockLost, execSynthLockLost]
  simp only [hr, Option.isSome_none, Bool.false_eq_true, if_false]
  rw [if_pos (Or.inl h3)]

/-- A port that enters a state below RX. -/
theorem State.portEnter_low {st : Nat} (hp : p < 4) (s : State) (h : st < 3) : (s.portEnter p st).pstate p = st ∧
    (s.portEnter p st).port p = { s.port p with step := none, since := s.elapsed } := by
  have hport (u : State) (x : Port) : ((u.setPort p x).femDrive p st false).port p = x ∧
      ((u.setPort p x).femDrive p st false).pstate p = u.pstate p := by
    constructor
    · simp only [State.port, State.femDrive_keeps ..]
      exact State.port_setPort_self u x hp
    · exact (State.rd_of_nums (s := u) (by simp only [State.femDrive_keeps .., State.setPort_keeps ..]) _)
  unfold State.portEnter
  extract_lets +onlyGivenNames entered src driven moved
  have hm : moved = driven := if_neg (Nat.not_le.mpr h)
  obtain ⟨h1, h2⟩ := hport entered { (entered.port p) with step := none, since := entered.elapsed }
  constructor
  · rw [hm]
    exact (State.rxFollow_rd (by simp)).trans (h2.trans (State.rd_wrEdge_self ..))
  · rw [hm]
    have hkeep : (driven.rxFollow p).port p = driven.port p := by simp only [State.port, State.rxFollow_keeps ..]
    refine hkeep.trans (h1.trans ?_)
    simp only [entered, State.elapsed, State.wrEdge_keeps ..]

/-- The third failed attempt leaves the port in STANDBY. -/
theorem State.lockFailed_holds (hp : p < 4) (s : State) : (s.lockFailed p).pstate p = 1 ∧ ((s.lockFailed p).port p).resume = none := by
  unfold State.lockFailed
  extract_lets +onlyGivenNames ended finished src cleared
  have hc : (cleared.port p).resume = none := congrArg Port.resume (State.port_setPort_self finished _ hp)
  clear_value cleared
  obtain ⟨h1, h2⟩ := cleared.portEnter_low hp (st := 1) (by decide)
  constructor
  · rw [State.portPost, State.pstate, State.post_rd (by simp)]
    exact h1
  · simp only [State.portPost, State.port, State.post_keeps ..]
    exact (congrArg Port.resume h2).trans hc

/-! ### Placing anew leaves a port that it does not raise (R164) -/

theorem State.takeCentre_holds (hp : p < 4) (s : State) : (s.takeCentre p).port p = { s.port p with centre := s.rd (Key.portCentreKhz p) } ∧
    (s.takeCentre p).pstate p = s.pstate p := by
  constructor
  · unfold State.takeCentre
    extract_lets set
    rw [State.each_same (fun t => t.port p)]
    · exact State.port_setPort_self _ _ hp
    · exact fun t n => by simp only [State.port, State.setRx_keeps ..]
  · simp only [State.pstate, State.takeCentre_keeps ..]

/-- What the placement of tiles leaves: the ports' states and the ports. -/
theorem State.placed_same (s : State) (ds : List Demand) (l : Plan) :
    (s.placePins.1.port p = s.port p ∧ s.placePins.1.pstate p = s.pstate p ∧ s.placePins.1.elapsed = s.elapsed) ∧
    ((s.placeRest ds l).1.port p = s.port p ∧ (s.placeRest ds l).1.pstate p = s.pstate p ∧ (s.placeRest ds l).1.elapsed = s.elapsed) ∧
    (s.placeTx.port p = s.port p ∧ s.placeTx.pstate p = s.pstate p ∧ s.placeTx.elapsed = s.elapsed) := by
  refine ⟨⟨?_, State.placePins_rd (by simp), ?_⟩, ⟨?_, State.placeRest_rd (by simp), ?_⟩, ⟨?_, State.placeTx_rd (by simp), ?_⟩⟩
  all_goals simp only [State.port, State.elapsed, State.placePins_keeps .., State.placeRest_keeps .., State.placeTx_keeps ..]

/-- What holds of a port, its state and the time holds after every tile is placed anew, where it holds of a port that is raised. -/
theorem State.placeAll_holds (hp : p < 4) (R : Port → Nat → Nat → Prop)
    (hraise : ∀ (u : State) t, R (u.port p) (u.pstate p) u.elapsed → (u.pstate p = 0 ∨ u.pstate p = 1) →
      R (((u.setPort p { (u.port p) with own := some t }).portRun p).port p) (((u.setPort p { (u.port p) with own := some t }).portRun p).pstate p)
        ((u.setPort p { (u.port p) with own := some t }).portRun p).elapsed)
    (s : State) (h : R (s.port p) (s.pstate p) s.elapsed) : R (s.placeAll.port p) (s.placeAll.pstate p) s.placeAll.elapsed := by
  have heach (f : State → Nat → State) (hf : ∀ u q, R (u.port p) (u.pstate p) u.elapsed → R ((f u q).port p) ((f u q).pstate p) (f u q).elapsed)
      (l : List Nat) (u : State) (hu : R (u.port p) (u.pstate p) u.elapsed) :
      R ((u.each l f).port p) ((u.each l f).pstate p) (u.each l f).elapsed :=
    List.foldlRecOn (motive := fun v : State => R (v.port p) (v.pstate p) v.elapsed) l f hu fun v hv q _ => hf v q hv
  have hsame {u v : State} (e : v.port p = u.port p ∧ v.pstate p = u.pstate p ∧ v.elapsed = u.elapsed)
      (hu : R (u.port p) (u.pstate p) u.elapsed) : R (v.port p) (v.pstate p) v.elapsed := by
    obtain ⟨e1, e2, e3⟩ := e
    rwa [e1, e2, e3]
  unfold State.placeAll
  extract_lets before ds
  split
  next u pins hu =>
  split
  next v plan hv =>
  extract_lets placed
  have hplaced : R (placed.port p) (placed.pstate p) placed.elapsed := by
    refine hsame (v.placed_same ds plan).2.2 ?_
    have h1 : R (u.port p) (u.pstate p) u.elapsed := by
      have := hsame (s.placed_same ds []).1 h
      rwa [hu] at this
    have := hsame (u.placed_same ds (u.keepTriples ds pins)).2.1 h1
    rwa [hv] at this
  clear_value placed
  refine heach _ (fun u q hu => ?_) _ _ (heach _ (fun u n hu => ?_) _ _ hplaced)
  · extract_lets +onlyGivenNames x raise
    split
    next hc =>
      by_cases hq : p = q
      · subst hq
        refine hraise u _ hu ?_
        simp only [raise, Bool.and_eq_true, Bool.or_eq_true, beq_iff_eq] at hc
        obtain ⟨⟨⟨_, hst⟩, _⟩, _⟩ := hc
        exact hst.imp And.left And.left
      · obtain ⟨e1, e2⟩ := State.portGo_other hp hq 8 (u.setPort q { x with own := some (u.autoReturn q) })
        refine hsame ⟨e1.trans (State.port_setPort_ne _ _ hq), e2.trans (State.pstate_setPort ..), ?_⟩ hu
        simp only [State.elapsed, State.portRun_keeps .., State.setPort_keeps ..]
    · exact hu
  · refine hsame ⟨?_, ?_, ?_⟩ hu <;> simp only [State.port, State.pstate, State.elapsed, State.setRx_keeps ..]

theorem State.placeAll_away (hp : p < 4) (s : State) (h : 2 ≤ s.pstate p) : s.placeAll.port p = s.port p ∧ s.placeAll.pstate p = s.pstate p :=
  State.placeAll_holds hp (fun x st _ => x = s.port p ∧ st = s.pstate p) (fun _ _ h' hc => by omega) s ⟨rfl, rfl⟩

/-! ### The step from SLEEP (R130, R135) -/

/-- A port that entered STANDBY now, on its way to `g`. -/
def PortStands (g : Nat) (x : Port) (st now : Nat) : Prop :=
  st = 1 ∧ x.step = none ∧ x.resume = none ∧ x.host = some g ∧ x.seq = false ∧ x.since = now

theorem State.portGo_stands {g n : Nat} (hg : 2 ≤ g) (h : PortStands g (s.port p) (s.pstate p) s.elapsed) : State.portGo n s p = s := by
  obtain ⟨hst, hstep, hres, hhost, hseq, hsince⟩ := h
  refine State.portGo_dwells hstep hres ?_ ?_
  · rw [State.portTarget, hhost, hst, hseq]
    simp only [Bool.false_or]
    split
    · simp
    · simp; omega
  · rw [State.dwellOver, hst, hsince]
    simp [us]

theorem State.placeAll_stands {g : Nat} (hg : 2 ≤ g) (hp : p < 4) (s : State) (h : PortStands g (s.port p) (s.pstate p) s.elapsed) :
    PortStands g (s.placeAll.port p) (s.placeAll.pstate p) s.placeAll.elapsed := by
  refine State.placeAll_holds hp (PortStands g) (fun u t hu _ => ?_) s h
  have hset : PortStands g ((u.setPort p { (u.port p) with own := some t }).port p) ((u.setPort p { (u.port p) with own := some t }).pstate p)
      (u.setPort p { (u.port p) with own := some t }).elapsed := by
    rw [State.port_setPort_self _ _ hp, State.pstate_setPort]
    exact hu
  rw [State.portRun, State.portGo_stands hg hset]
  exact hset

theorem State.centreFollow_stands {g : Nat} (hg : 2 ≤ g) (hp : p < 4) (s : State) (h : PortStands g (s.port p) (s.pstate p) s.elapsed) :
    PortStands g ((s.centreFollow p).port p) ((s.centreFollow p).pstate p) (s.centreFollow p).elapsed := by
  rw [State.centreFollow]
  split
  · refine State.placeAll_stands hg hp _ ?_
    obtain ⟨h1, h2⟩ := State.takeCentre_holds hp s
    have h3 : (s.takeCentre p).elapsed = s.elapsed := by simp only [State.elapsed, State.takeCentre_keeps ..]
    rw [h1, h2, h3]
    exact h
  · exact h

theorem portTransitionDone_stands {p : Fin 4} {out : List CalMeas} {m : Bytes} {dt : Nat} (hst : (s.advance dt).pstate p = 0)
    (hstep : (s.port p).step = some 1) (hres : (s.port p).resume = none) (hh : (s.port p).host = some 3) (hseq : (s.port p).seq = false) :
    Gives (exec (.portTransitionDone p true out m dt) s) fun t =>
      t.pstate p = 1 ∧ (t.port p).since = (s.advance dt).elapsed ∧ (t.port p).step = none := by
  have hport : (s.advance dt).port p = s.port p := by simp only [State.port, State.advance_keeps ..]
  rw [← hport] at hstep hres hh hseq
  rw [exec_portTransitionDone, execPortTransitionDone]
  generalize s.advance dt = u at *
  obtain ⟨h1, h2⟩ := u.portEnter_low p.isLt (st := 1) (by decide)
  have he : (u.portEnter p 1).elapsed = u.elapsed := by simp only [State.elapsed, State.portEnter_keeps ..]
  have hstands : PortStands 3 ((u.portEnter p 1).port p) ((u.portEnter p 1).pstate p) (u.portEnter p 1).elapsed := by
    rw [h1, h2, he]
    exact ⟨rfl, rfl, hres, hh, hseq, rfl⟩
  have hfollow := State.centreFollow_stands (by decide) p.isLt _ hstands
  have hf : ((u.portEnter p 1).centreFollow p).elapsed = u.elapsed := by simp only [State.elapsed, State.centreFollow_keeps .., State.portEnter_keeps ..]
  simp only [hstep, hres, hst, Option.isSome_none, Bool.false_eq_true, if_false]
  rw [if_neg (by omega), if_pos (by omega), gives_next, State.portRun, State.portGo_stands (by decide) hfollow]
  obtain ⟨g1, g2, _, _, _, g3⟩ := hfollow
  exact ⟨g1, g3.trans hf, g2⟩

/-- The port `p` asked for the state `g`. -/
def State.portAsked (s : State) (p g : Nat) : State :=
  (s.resBegin (Key.portStateRes p)).setPort p { (s.port p) with host := some g, back := none }

theorem State.busy_portAsked (s : State) (p g : Nat) (x : Port) :
    (((s.portAsked p g).setPort p x).res (Key.portStateRes p)).busy = true := by
  have : ((s.portAsked p g).setPort p x).res (Key.portStateRes p) = (s.resBegin (Key.portStateRes p)).res (Key.portStateRes p) := by
    simp only [State.portAsked, State.res, State.setPort_keeps ..]
  rw [this, State.res_resBegin_self]

theorem State.portAsked_steps {g : Nat} (hp : p < 4) (hheld : s.radioHeld = false) (hst : s.pstate p = 0) (hseq : (s.port p).seq = false)
    (hstep : (s.port p).step = none) (hres : (s.port p).resume = none) (hd : s.dwellOver p = true) (hg : 1 ≤ g) :
    ∃ x, (s.portAsked p g).portRun p = (s.portAsked p g).setPort p x ∧ x.step = some 1 ∧ x.host = some g := by
  have hport : (s.portAsked p g).port p = { s.port p with host := some g, back := none } := State.port_setPort_self _ _ hp
  have hst' : (s.portAsked p g).pstate p = 0 := (State.pstate_setPort ..).trans hst
  have hheld' : (s.portAsked p g).radioHeld = false := hheld
  have hover : (s.portAsked p g).dwellOver p = true := by
    have he : (s.portAsked p g).elapsed = s.elapsed := by simp only [State.portAsked, State.elapsed, State.setPort_keeps .., State.resBegin_keeps ..]
    rw [State.dwellOver, hst] at hd
    rw [State.dwellOver, hst', hport, he]
    exact hd
  obtain ⟨x, hx, h1, h2⟩ := State.portGo_steps (n := 7) (by rw [hport]; exact hstep) (by rw [hport]; exact hres)
    (State.portTarget_host (by rw [hport]; exact hseq) hheld' (by rw [hport])) (by omega) hover (by omega)
  refine ⟨x, hx, ?_, by rw [h2, hport]⟩
  rw [h1, hst', nextState, if_pos (show 0 < g from hg), if_neg (by decide)]

theorem State.relocking_tile (s : State) (p n : Nat) : (s.relocking p).rd (Key.txcState n) = s.rd (Key.txcState n) ∧ (s.relocking p).tx n = s.tx n := by
  unfold State.relocking
  constructor
  · rw [State.rd_setPort]
    exact State.preempt_rd (by simp)
  · simp only [State.tx, State.setPort_keeps .., State.preempt_keeps ..]

theorem State.portTarget_takeCentre (hp : p < 4) (s : State) : (s.takeCentre p).portTarget p = s.portTarget p ∧
    (s.takeCentre p).airOn p = s.airOn p := by
  constructor
  · simp only [State.portTarget, (State.takeCentre_holds hp s).1, State.radioHeld, State.girthTarget, State.autoReturn, State.jobsOn, State.jobsClear,
      State.pstate, State.tx, State.takeCentre_keeps ..]
    rfl
  · exact State.airOn_congr (by simp only [State.takeCentre_keeps ..]) (fun n => by simp only [State.takeCentre_keeps ..]) p

/-- What an attempt to relock does in the state as it stands. -/
def State.relockTry (s : State) (k : Nat) (locked : Bool) : State :=
  match (s.port k).resume with
    | none => s
    | some _ =>
      if s.pstate k ≠ 2 then s
      else if !locked then
        if 3 ≤ (s.port k).tries + 1 then s.lockFailed k else s.setPort k { (s.port k) with tries := (s.port k).tries + 1 }
      else (s.setPort k { (s.port k) with resume := none, step := none, tries := 0 }).portRun k

theorem synthRelockDone_eq (p : Fin 4) (locked : Bool) (dt : Nat) (s : State) :
    exec (.synthRelockDone p locked dt) s = .next ((s.advance dt).relockTry p locked) := rfl

section

variable {p : Fin 4} {b : Nat} (hr : (s.port p).resume = some b) (hst : s.pstate p = 2)
include hr hst

theorem State.relockTry_failed (ht : (s.port p).tries < 2) :
    s.relockTry p false = s.setPort p { (s.port p) with tries := (s.port p).tries + 1 } := by
  rw [State.relockTry, hr]
  simp only [hst, ne_eq, not_true_eq_false, if_false, Bool.not_false, if_true]
  rw [if_neg (by omega)]

theorem State.relockTry_last (ht : (s.port p).tries = 2) : s.relockTry p false = s.lockFailed p := by
  rw [State.relockTry, hr]
  simp only [hst, ne_eq, not_true_eq_false, if_false, Bool.not_false, if_true]
  rw [if_pos (by omega)]

theorem State.relockTry_locked : (s.relockTry p true).pstate p = 2 ∧ ((s.relockTry p true).port p).resume = none ∧
    ((s.relockTry p true).port p).tries = 0 := by
  rw [State.relockTry, hr]
  simp only [hst, ne_eq, not_true_eq_false, if_false, Bool.not_true, Bool.false_eq_true]
  have hset := State.port_setPort_self s { (s.port p) with resume := none, step := none, tries := 0 } p.isLt
  exact State.portGo_locked 8 _ p.isLt ((State.pstate_setPort ..).trans hst) (congrArg Port.resume hset) (congrArg Port.tries hset)

end

theorem retuneStart_holds {p : Fin 4} (hc : (s.port p).centre ≠ s.rd (Key.portCentreKhz p)) (hst : 2 ≤ s.pstate p)
    (hstep : (s.port p).step = none) (hres : (s.port p).resume = none) (ha : s.airOn p = []) : Gives (exec (.retuneStart p) s) fun t =>
    (t.port p).centre = s.rd (Key.portCentreKhz p) ∧ t.pstate p = 2 ∧ (t.port p).resume = some ((s.portTarget p).getD (s.pstate p)) := by
  have hgo : ¬ ((s.port p).centre = s.rd (Key.portCentreKhz p) ∨ s.pstate p ≤ 1 ∨ (s.port p).step.isSome = true ∨
      (s.port p).resume.isSome = true ∨ (!(s.airOn p).isEmpty) = true) := by
    simp only [hstep, hres, ha, hc, Option.isSome_none, Bool.false_eq_true, List.isEmpty_nil, Bool.not_true, or_false, false_or]
    omega
  obtain ⟨hport, hst'⟩ := State.takeCentre_holds p.isLt s
  obtain ⟨htarget, hair⟩ := State.portTarget_takeCentre p.isLt s
  obtain ⟨h2, hresume, _, _, hcentre⟩ := State.relock_begins p.isLt (s := s.takeCentre p) (hair.trans ha)
  obtain ⟨ha1, ha2⟩ := State.placeAll_away p.isLt ((s.takeCentre p).relock p) (Nat.le_of_eq h2.symm)
  rw [exec_retuneStart, execRetuneStart]
  simp only [if_neg hgo]
  rw [gives_next, ha1, ha2, h2, hresume, hcentre, htarget, hst', hport]
  exact ⟨rfl, rfl, rfl⟩

/-! ### The settled statement -/

/-- Settles O8: the commands, steps, relocks and the retune of a port, each by its state. -/
theorem portStates : Obligations.PortStates := by
  refine ⟨?held, ?begins, ?blocked, ?standby, ?dwell, ?lost, ?lostOnAir, ?failed, ?lastFailed, ?relocked, ?retune⟩
  case held =>
    intro p g s hb hh
    have hh' : (s.resBegin (Key.portStateRes p)).radioHeld = true := hh
    rw [exec_portStateCmd, execPortStateCmd, hb, if_neg Bool.false_ne_true, State.portCmd, gives_next]
    rw [if_pos hh', State.res_resEnd_self]
    exact ⟨rfl, rfl, rfl⟩
  case begins =>
    intro p g s hb hh hst hseq hstep hres hd hg
    have hh' : ¬ (s.resBegin (Key.portStateRes p)).radioHeld = true := by
      rw [show (s.resBegin (Key.portStateRes p)).radioHeld = s.radioHeld from rfl, hh]
      decide
    obtain ⟨x, hx, h1, h2⟩ := State.portAsked_steps p.isLt hh hst hseq hstep hres hd hg
    rw [exec_portStateCmd, execPortStateCmd, hb, if_neg Bool.false_ne_true, State.portCmd, gives_next, if_neg hh']
    have hrun : ((s.resBegin (Key.portStateRes p)).setPort p { ((s.resBegin (Key.portStateRes p)).port p) with host := some g.val, back := none }).portRun p =
        (s.portAsked p g).setPort p x := hx
    rw [hrun, State.port_setPort_self _ _ p.isLt, State.pstate_setPort]
    exact ⟨s.busy_portAsked p g x, h1, h2, (State.pstate_setPort ..).trans hst⟩
  case blocked =>
    intro p g s hb
    rw [exec_portStateCmd, execPortStateCmd, hb, if_pos rfl, gives_next]
  case standby =>
    intro p out m dt s hst hstep hres hh hseq _
    exact portTransitionDone_stands hst hstep hres hh hseq
  case dwell =>
    intro p dt s hst hstep hres hh hseq hheld hd
    have hport : (s.advance dt).port p = s.port p := by simp only [State.port, State.advance_keeps ..]
    have hst' : (s.advance dt).pstate p = 1 := by simpa only [State.pstate, State.advance_keeps ..] using hst
    rw [exec_portDwellEnd, execPortDwellEnd, gives_next]
    have hover : (s.advance dt).dwellOver p = true := by
      rw [State.dwellOver, hst', hport]
      simpa using hd
    obtain ⟨x, hx, h2, _⟩ := State.portGo_steps (n := 7) (by rw [hport, hstep]) (by rw [hport, hres])
      (State.portTarget_host (by rw [hport, hseq]) hheld (by rw [hport, hh])) (by omega) hover (by omega)
    rw [State.portRun, hx, State.port_setPort_self _ _ p.isLt, State.pstate_setPort, h2, hst']
    exact ⟨rfl, rfl⟩
  case lost =>
    intro p s hr h3 ha
    rw [synthLockLost_runs hr h3, State.abortAir_none ha, gives_next]
    obtain ⟨h1, h2, h4, h5, _⟩ := State.relock_begins p.isLt ha
    exact ⟨h1, h2, h4, h5⟩
  case lostOnAir =>
    intro p n j s hr h3 hn hj ha
    obtain ⟨hmem, hramp⟩ := State.mem_airOn_abortAir hn hj ha
    obtain ⟨h1, _, _, h4, _, _⟩ := State.relocking_holds p.isLt (s.abortAir p)
    rw [synthLockLost_runs hr h3, State.relock_waits p.isLt (List.ne_nil_of_mem hmem), gives_next, h1, h4, (s.port_abortAir p.isLt p).2]
    obtain ⟨htile, htx⟩ := (s.abortAir p).relocking_tile p n
    rw [htile, htx]
    exact ⟨rfl, rfl, hramp.1, hramp.2⟩
  case failed =>
    intro p dt b s hr hst ht
    have hport : (s.advance dt).port p = s.port p := by simp only [State.port, State.advance_keeps ..]
    have hst' : (s.advance dt).pstate p = 2 := by simpa only [State.pstate, State.advance_keeps ..] using hst
    rw [synthRelockDone_eq, State.relockTry_failed (by rw [hport, hr]) hst' (by rwa [hport]), gives_next, State.port_setPort_self _ _ p.isLt, hport]
    exact ⟨rfl, hr⟩
  case lastFailed =>
    intro p dt b s hr hst ht
    have hport : (s.advance dt).port p = s.port p := by simp only [State.port, State.advance_keeps ..]
    have hst' : (s.advance dt).pstate p = 2 := by simpa only [State.pstate, State.advance_keeps ..] using hst
    rw [synthRelockDone_eq, State.relockTry_last (by rw [hport, hr]) hst' (by rw [hport, ht]), gives_next]
    exact State.lockFailed_holds p.isLt _
  case relocked =>
    intro p dt b s hr hst
    have hport : (s.advance dt).port p = s.port p := by simp only [State.port, State.advance_keeps ..]
    have hst' : (s.advance dt).pstate p = 2 := by simpa only [State.pstate, State.advance_keeps ..] using hst
    rw [synthRelockDone_eq, gives_next]
    exact State.relockTry_locked (by rw [hport, hr]) hst'
  case retune =>
    intro p s hc hst hstep hres ha
    exact retuneStart_holds hc hst hstep hres ha

end Sys2Proof.Machine
end

section
/-! ## O10: calibration runs start, measure, find their window and end with their codes (R143 to R147) -/

namespace Sys2Proof.Machine

variable {s : State} {c : CalRun} {dt k code : Nat}

/-! ### A run begins (R143) -/

/-- The run that `State.calStart` begins. -/
def State.calRun (s : State) (p kinds : Nat) (periodic : Bool) : CalRun :=
  { port := p, kinds := kinds, codes := [], started := s.elapsed, blind := false, openedAt := 0, heldSlot := none,
    left := if bitOf kinds 2 then List.range 41 else [], bad := false, coeff := zeros 2048, periodic := periodic }

/-- The result of a run asked for at the port `p`. -/
def State.calAsked (s : State) (p : Nat) : State :=
  let s := s.resBegin Key.calRes
  s.setPort p { (s.port p) with lastCal := s.elapsed }

theorem State.calStart_eq (s : State) (p kinds : Nat) (periodic : Bool) : s.calStart p kinds periodic =
    if (s.calAsked p).pstate p ≤ 1 then (s.calAsked p).calEnd (s.calRun p kinds periodic) (s.calRun p kinds periodic).blindLeft 3
    else (s.calAsked p).setCal (some (s.calRun p kinds periodic)) := rfl

theorem State.calStart_runs {p kinds : Nat} {periodic : Bool} (h : 2 ≤ s.pstate p) :
    ((s.calStart p kinds periodic).res Key.calRes).busy = true ∧ (s.calStart p kinds periodic).radio.cal = some (s.calRun p kinds periodic) := by
  have hst : (s.calAsked p).pstate p = s.pstate p := State.pstate_setPort ..
  have hres : (s.calAsked p).res Key.calRes = (s.resBegin Key.calRes).res Key.calRes := by simp only [State.calAsked, State.res, State.setPort_keeps ..]
  rw [State.calStart_eq, if_neg (by rw [hst]; omega)]
  refine ⟨?_, rfl⟩
  exact (congrArg (·.busy) hres).trans (by rw [State.res_resBegin_self])

/-! ### A run of one kind ends (R147) -/

/-- What the end of a run of one kind leaves. -/
structure State.CalEnded (s t : State) (code : Nat) : Prop where
  idle : t.radio.cal = none
  res : t.res Key.calRes = { seq := nextResSeq (s.res Key.calRes).seq, outcome := if code = 0 then 1 else 2, busy := false, code := code,
                             data := (t.res Key.calRes).data }

theorem State.calSettle_ends (ha : c.asked = [k]) (hc : c.codes = [(k, code)]) : s.CalEnded (s.calSettle c) code ∧
    (s.calSettle c).dict.doms = s.dict.doms := by
  have hfind : KMap.find c.codes k = some code := by rw [hc, KMap.find, if_pos rfl]
  have hall : c.asked.all (fun k => (KMap.find c.codes k).isSome) = true := by rw [ha]; simp [hfind]
  have hcode : (minNat? ((c.asked.map (fun k => KMap.getD c.codes 0 k)).filter (· != 0))).getD 0 = code := by
    rw [ha]
    simp only [List.map_cons, List.map_nil, KMap.getD, hfind]
    by_cases h0 : code = 0
    · simp [h0, minNat?]
    · simp [h0, minNat?]
  rw [State.calSettle, if_pos hall]
  dsimp only
  rw [hcode]
  refine ⟨⟨?_, ?_⟩, ?_⟩
  · simp only [State.resEnd_keeps .., State.raise_keeps ..]
    rfl
  · rw [State.res_resEnd_self]
    simp only [State.raise_keeps ..]
    rfl
  · simp only [State.resEnd_keeps .., State.raise_keeps ..]
    rfl

theorem State.calEnd_ends (ha : c.asked = [k]) (hc : c.codes = []) : s.CalEnded (s.calEnd c [k] code) code := by
  have h := State.calSettle_ends (s := s.calPost c.port code) (c := { c with codes := KMap.put c.codes k code }) (k := k) (code := code)
    ha (by rw [hc]; rfl)
  exact ⟨h.1.idle, h.1.res.trans (by simp only [State.calPost_keeps ..]; rfl)⟩

/-! ### The end of a window (R145) -/

theorem State.blindCode_advance (s : State) (dt k : Nat) (m : CalMeas) : (s.advance dt).blindCode k m = s.blindCode k m := by
  have h : (s.advance dt).rd Key.calDisturbDbm = s.rd Key.calDisturbDbm := by simp only [State.advance_keeps ..]
  rw [State.blindCode, State.blindCode, State.rdI, State.rdI, h]

/-- The end of the window of the run `c` in the state as it stands. -/
def State.windowEnd (s : State) (c : CalRun) (out : List CalMeas) (measured : Bytes) : State :=
  let (s, c) := ([3, 0, 1].filter (fun k => c.blindLeft.contains k)).foldl
    (fun (x : State × CalRun) k => x.1.blindEnd x.2 k (out.getD k { power := [], figure := [] }) measured) (s, { c with blind := false })
  ((s.calSettle c).femDrive c.port (s.pstate c.port) false).rxFollow c.port

theorem calWindowEnd_due {out : List CalMeas} {m : Bytes} (hc : s.radio.cal = some c) (hb : c.blind = true)
    (hw : c.openedAt + us 6500 ≤ (s.advance dt).elapsed) : exec (.calWindowEnd out m dt) s = .next ((s.advance dt).windowEnd c out m) := by
  have hcal : (s.advance dt).radio.cal = some c := by simpa only [State.advance_keeps ..] using hc
  rw [exec_calWindowEnd, execCalWindowEnd]
  generalize s.advance dt = u at *
  simp only [hcal, hb, Bool.not_true, Bool.false_eq_true, Nat.not_lt.mpr hw, or_self, if_false]
  rfl

/-- The window of a run of the filter alone ends the run with the filter's code, and a code of 0 takes its coefficients. -/
theorem State.windowEnd_filter {out : List CalMeas} {m : Bytes} (hk : c.kinds = 2) (hcs : c.codes = []) :
    s.CalEnded (s.windowEnd c out m) (s.blindCode 1 (out.getD 1 { power := [], figure := [] })) ∧
    (s.windowEnd c out m).dict.doms =
      (if s.blindCode 1 (out.getD 1 { power := [], figure := [] }) = 0 then s.calTake c.port 1 m else s).dict.doms := by
  have hleft : [3, 0, 1].filter (fun k => c.blindLeft.contains k) = [1] := by simp only [CalRun.blindLeft, hk, hcs]; decide
  have hasked : c.asked = [1] := by simp only [CalRun.asked, hk]; decide
  unfold State.windowEnd
  rw [hleft, List.foldl_cons, List.foldl_nil, State.blindEnd]
  generalize s.blindCode 1 (out.getD 1 { power := [], figure := [] }) = code
  have hres : (if code = 0 then s.calTake c.port 1 m else s).res Key.calRes = s.res Key.calRes := by
    split
    · simp only [State.calTake_keeps ..]
    · rfl
  generalize (if code = 0 then s.calTake c.port 1 m else s) = u at *
  obtain ⟨h, hd⟩ := State.calSettle_ends (s := u.calPost c.port code) (c := { c with blind := false, codes := KMap.put c.codes 1 code })
    (k := 1) (code := code) hasked (by rw [hcs]; rfl)
  have hs : (u.calPost c.port code).res Key.calRes = u.res Key.calRes := by simp only [State.calPost_keeps ..]
  have hdd : (u.calPost c.port code).dict.doms = u.dict.doms := by simp only [State.calPost_keeps ..]
  simp only [State.calKind]
  refine ⟨⟨?_, ?_⟩, ?_⟩
  · simp only [State.rxFollow_keeps .., State.femDrive_keeps .., h.idle]
  · simp only [State.rxFollow_keeps .., State.femDrive_keeps ..]
    rw [← hres, ← hs]
    exact h.res
  · simp only [State.rxFollow_keeps .., State.femDrive_keeps ..]
    exact hd.trans hdd

/-! ### The settled statement -/

/-- Settles O10: what begins, measures, opens and ends a run, each by its conditions. -/
theorem calibration : Obligations.Calibration := by
  refine ⟨?noKind, ?command, ?periodic, ?measure, ?opens, ?failed, ?passed, ?noWindow, ?partly⟩
  case noKind =>
    intro v s h
    rw [exec_calCmd, execCalCmd, if_pos (.inl h), gives_next]
  case command =>
    intro v s h hb hc hst
    rw [exec_calCmd, execCalCmd, if_neg (by simp [h, hb, hc]), gives_next, State.calWrite]
    obtain ⟨h1, h2⟩ := State.calStart_runs (kinds := bits v.toNat 4 4) (periodic := false) hst
    exact ⟨h1, _, h2, rfl, rfl, rfl⟩
  case periodic =>
    intro p dt s hc hd hq
    have hst : 2 ≤ (s.advance dt).pstate p := by
      simp only [State.calDue, Bool.and_eq_true, beq_iff_eq] at hd
      omega
    have hcal : (s.advance dt).radio.cal = none := by simpa only [State.advance_keeps ..] using hc
    have hnone : (List.range p).any (fun q => (s.advance dt).calDue q) = false := by
      simp only [List.any_eq_false, List.mem_range]
      intro q hlt
      rw [hq q hlt]
      decide
    rw [exec_calPeriodic, execCalPeriodic]
    generalize s.advance dt = u at *
    simp only [hcal, hd, hnone, Option.isNone_none, Bool.not_false, Bool.and_self, if_true]
    obtain ⟨h1, h2⟩ := State.calStart_runs (kinds := 15) (periodic := true) hst
    exact gives_next.mpr ⟨h1, _, h2, rfl, rfl⟩
  case measure =>
    intro i m dt c s hc hl hne hm
    have hcal : (s.advance dt).radio.cal = some c := by simpa only [State.advance_keeps ..] using hc
    have hempty : (c.left.filter (· != i.val)).isEmpty = false := List.isEmpty_eq_false_iff.mpr hne
    rw [exec_oscCalMeasure, execOscCalMeasure]
    generalize s.advance dt = u at *
    simp only [hcal, hl, hm, hempty, Bool.not_true, Bool.false_eq_true, or_self, if_false]
    refine gives_next.mpr ⟨_, rfl, rfl, ?_⟩
    simp only [Bool.or_eq_true, Bool.not_eq_true', islandSpan]
    by_cases h40 : i.val = 40
    · simp [h40]
    · simp only [h40, if_false, if_neg (show ¬ 40 ≤ i.val by omega)]
  case opens =>
    intro dt c s hc hb hl ho
    have hcal : (s.advance dt).radio.cal = some c := by simpa only [State.advance_keeps ..] using hc
    have hempty : c.blindLeft.isEmpty = false := List.isEmpty_eq_false_iff.mpr hl
    rw [exec_calWindowOpen, execCalWindowOpen]
    generalize s.advance dt = u at *
    simp only [hcal, hb, hempty, ho, Bool.false_eq_true, or_self, if_false, if_true]
    rw [gives_next, State.blindNow]
    simp only [State.femDrive_keeps ..]
    rw [State.each_same (fun t : State => t.radio.cal) (fun t n => by simp only [State.setRx_keeps ..])]
    simp [State.setCal]
  case failed =>
    intro out m dt c s hc hb hk hcs hw hcode
    obtain ⟨hend, hdoms⟩ := State.windowEnd_filter (s := s.advance dt) (out := out) (m := m) hk hcs
    have hcode' : (s.advance dt).blindCode 1 (out.getD 1 { power := [], figure := [] }) = s.blindCode 1 (out.getD 1 { power := [], figure := [] }) :=
      s.blindCode_advance dt _ _
    rw [calWindowEnd_due hc hb hw, gives_next]
    rw [hcode'] at hend hdoms
    refine ⟨hend.idle, ?_, ?_, ?_⟩
    · rw [hend.res]
      exact if_neg hcode
    · rw [hend.res]
    · rw [hdoms, if_neg hcode]
      simp only [State.advance_keeps ..]
  case passed =>
    intro out m dt c s hc hb hk hcs hw hcode
    obtain ⟨hend, hdoms⟩ := State.windowEnd_filter (s := s.advance dt) (out := out) (m := m) hk hcs
    have hcode' : (s.advance dt).blindCode 1 (out.getD 1 { power := [], figure := [] }) = 0 := by
      rw [s.blindCode_advance dt, hcode]
    rw [calWindowEnd_due hc hb hw, gives_next]
    rw [hcode'] at hend hdoms
    refine ⟨hend.idle, ?_, fun k hne => ?_⟩
    · rw [hend.res]
      rfl
    · have hdom : ((s.advance dt).calTake c.port 1 m).dom k = (s.advance dt).dom k := by
        rw [State.calTake]
        exact (State.dom_setDom ..).trans (if_neg hne)
      rw [if_pos rfl] at hdoms
      refine (congrArg (fun x => KMap.getD x [] k) hdoms).trans (hdom.trans ?_)
      simp only [State.advance_keeps ..]
  case noWindow =>
    intro dt c s hc hb hk hcs hw
    have hcal : (s.advance dt).radio.cal = some c := by simpa only [State.advance_keeps ..] using hc
    have hleft : c.blindLeft = [0] := by simp only [CalRun.blindLeft, hk, hcs]; decide
    have hasked : c.asked = [0] := by simp only [CalRun.asked, hk]; decide
    rw [exec_calNoWindow, execCalNoWindow]
    generalize s.advance dt = u at *
    simp only [hcal, hb, hleft, List.isEmpty_cons, Nat.not_lt.mpr hw, Bool.false_eq_true, or_self, if_false]
    have h := State.calEnd_ends (s := u) (code := 3) hasked hcs
    exact gives_next.mpr ⟨h.idle, by rw [h.res]⟩
  case partly =>
    intro dt c s hc hl hk hcs hw
    have hcal : (s.advance dt).radio.cal = some c := by simpa only [State.advance_keeps ..] using hc
    have hasked : c.asked = [2] := by simp only [CalRun.asked, hk]; decide
    have hempty : c.left.isEmpty = false := List.isEmpty_eq_false_iff.mpr hl
    rw [exec_calPartial, execCalPartial]
    generalize s.advance dt = u at *
    simp only [hcal, hempty, Nat.not_lt.mpr hw, Bool.false_eq_true, or_self, if_false]
    refine gives_next.mpr ?_
    generalize (if c.bad = true then u else u.calTake c.port 2 _) = v
    have h := State.calEnd_ends (s := v) (c := { c with left := [] }) (code := 4) hasked hcs
    exact ⟨h.idle, by rw [h.res]⟩

end Sys2Proof.Machine
end

section
/-! ## O21: the Cinch tick and its shedding, and the Curb calendar and samples (R265 to R270, R361, R364) -/

namespace Sys2Proof.Machine

variable {s : State} {k : Nat}

/-! ### One position of the tick (R265, R266) -/

theorem State.rd_setCinch (s : State) (c : Cinch) (k : Nat) : (s.setCinch c).rd k = s.rd k := State.rd_of_nums rfl _

/-- Whether the position `k` is in force after a tick that left `x` tokens. -/
def posStays (tmax : Nat) (x : Int) (k : Nat) (on : Bool) : Bool :=
  (on || (!on && decide (8 * x < ((7 - k : Nat) : Int) * tmax))) && !decide (((8 - k : Nat) : Int) * tmax ≤ 8 * x)

/-- The Cinch after the tick of its position `k`. -/
def Cinch.posTicked (c : Cinch) (tmax : Nat) (x : Int) (k : Nat) : Cinch :=
  { c with inForce := vmod (fun _ => posStays tmax x k (c.inForce.getD k false)) k c.inForce }

theorem posStays_iff {tmax : Nat} {x : Int} {on : Bool} : posStays tmax x k on = true ↔
    ¬ (((8 - k : Nat) : Int) * tmax ≤ 8 * x) ∧ (on = true ∨ 8 * x < ((7 - k : Nat) : Int) * tmax) := by
  cases on <;> simp [posStays, and_comm]

/-- What a position's tick leaves: it counts what it sheds, and sets whether it is in force. -/
theorem tickPos_holds (tmax : Nat) (s : State) (k : Nat) :
    (tickPos tmax s k).girth.cinch = s.girth.cinch.posTicked tmax s.tokens k ∧
    (tickPos tmax s k).sb.journal = s.sb.journal ∧ (tickPos tmax s k).rd Key.cinchTokens = s.rd Key.cinchTokens ∧
    ∀ i, (tickPos tmax s k).rd (Key.tjSensor i) = s.rd (Key.tjSensor i) := by
  unfold tickPos
  extract_lets c x code on enters shed on' stays
  have hshed (j : Nat) (hj : Key.fam j ≠ Key.fam (Key.shedCount 0)) : shed.rd j = s.rd j := by
    unfold shed
    split
    · exact State.shed_rd (by simpa using hj)
    · rfl
  refine ⟨rfl, ?_, ?_, fun i => ?_⟩
  · change shed.sb.journal = s.sb.journal
    unfold shed
    split
    · simp only [State.shed_keeps ..]
    · rfl
  · exact (State.rd_setCinch ..).trans (hshed _ (by simp))
  · exact (State.rd_setCinch ..).trans (hshed _ (by simp))

/-- The Cinch after the ticks of the positions of `l`. -/
def Cinch.ticked (c : Cinch) (tmax : Nat) (x : Int) (l : List Nat) : Cinch := l.foldl (fun c k => c.posTicked tmax x k) c

theorem Cinch.ticked_same (c : Cinch) (tmax : Nat) (x : Int) (l : List Nat) : (c.ticked tmax x l).granted = c.granted ∧
    (c.ticked tmax x l).overdraw = c.overdraw :=
  List.foldlRecOn (motive := fun d : Cinch => d.granted = c.granted ∧ d.overdraw = c.overdraw) l _ ⟨rfl, rfl⟩ fun _ h _ _ => h

theorem Cinch.ticked_miss {l : List Nat} (h : k ∉ l) (c : Cinch) (tmax : Nat) (x : Int) :
    (c.ticked tmax x l).inForce.getD k false = c.inForce.getD k false := by
  induction l generalizing c with
  | nil => rfl
  | cons m l ih =>
    obtain ⟨hm, hl⟩ := not_or.mp (mt List.mem_cons.mpr h)
    exact (ih hl (c.posTicked tmax x m)).trans (vmod_getD_ne _ _ _ hm)

theorem Cinch.ticked_hit {l : List Nat} (hk : k < 6) (hl : k ∈ l) (hn : l.Nodup) (c : Cinch) (tmax : Nat) (x : Int) :
    (c.ticked tmax x l).inForce.getD k false = posStays tmax x k (c.inForce.getD k false) := by
  induction l generalizing c with
  | nil => cases hl
  | cons m l ih =>
    obtain ⟨hm, hn⟩ := List.nodup_cons.mp hn
    by_cases h : k = m
    · subst h
      exact (Cinch.ticked_miss hm (c.posTicked tmax x k) tmax x).trans (vmod_getD_self _ _ _ hk)
    · exact (ih (List.mem_of_ne_of_mem h hl) hn (c.posTicked tmax x m)).trans
        (congrArg (posStays tmax x k) (vmod_getD_ne _ _ _ h))

theorem State.each_tickPos (tmax : Nat) (l : List Nat) (s : State) : (s.each l (tickPos tmax)).girth.cinch = s.girth.cinch.ticked tmax s.tokens l ∧
    (s.each l (tickPos tmax)).sb.journal = s.sb.journal ∧ (s.each l (tickPos tmax)).rd Key.cinchTokens = s.rd Key.cinchTokens ∧
    ∀ i, (s.each l (tickPos tmax)).rd (Key.tjSensor i) = s.rd (Key.tjSensor i) := by
  induction l generalizing s with
  | nil => exact ⟨rfl, rfl, rfl, fun _ => rfl⟩
  | cons k l ih =>
    obtain ⟨hc, hj, ht, hi⟩ := tickPos_holds tmax s k
    obtain ⟨hc', hj', ht', hi'⟩ := ih (tickPos tmax s k)
    refine ⟨hc'.trans ?_, hj'.trans hj, ht'.trans ht, fun i => (hi' i).trans (hi i)⟩
    have htok : (tickPos tmax s k).tokens = s.tokens := congrArg (ofRaw 32) ht
    rw [hc, htok]
    rfl

/-! ### The tick (R267, R270) -/

/-- The Cinch with the budget and the order of the tick. -/
def State.tickCinch (s : State) : Cinch :=
  { s.girth.cinch with beff := s.beffNow, order := s.rd Key.cinchShedOrder,
                       inForce := if s.rd Key.cinchShedOrder = s.girth.cinch.order then s.girth.cinch.inForce else Vector.replicate 6 false }

/-- The balance of a tick and its positions. -/
def State.ticking (s : State) (pCont : Nat) : State :=
  ((s.setCinch s.tickCinch).setTokens (min (20 * s.beffNow : Nat) (s.tokens + s.beffNow - pCont))).each (List.range 6) (tickPos (20 * s.beffNow))

/-- The tick's numbers as they are shown. -/
def State.tickShown (s : State) (u : State) (pCont : Nat) : State :=
  (u.wr Key.cinchStage ((u.girth.cinch.inForce.toList.filter id).length)).wr Key.cinchPowerMw (min 30000 (pCont + s.girth.cinch.granted))

/-- The tick's judgement on the balance. -/
def State.tickJudged (u : State) (tmax power : Nat) : State :=
  if u.tokens < -(tmax : Int) && !u.girth.cinch.overdraw then
      (u.post .cinchOverdraw 0x1401 (toRaw 64 u.tokens) power).setCinch { u.girth.cinch with overdraw := true }
  else if 0 ≤ u.tokens then u.setCinch { u.girth.cinch with overdraw := false } else u

theorem State.cinchTick_eq (s : State) (pCont : Nat) : s.cinchTick pCont =
    let v := (s.tickShown (s.ticking pCont) pCont).tickJudged (20 * s.beffNow) (min 30000 (pCont + s.girth.cinch.granted))
    (v.setCinch { v.girth.cinch with granted := 0 }).applyCeiling := by
  unfold State.cinchTick State.ticking State.tickShown State.tickJudged State.tickCinch
  generalize List.range 6 = l
  generalize s.beffNow = b
  rfl

theorem State.ticking_holds (s : State) (pCont : Nat) :
    (s.ticking pCont).girth.cinch = s.tickCinch.ticked (20 * s.beffNow) (s.ticking pCont).tokens (List.range 6) ∧
    (s.ticking pCont).sb.journal = s.sb.journal ∧
    (s.ticking pCont).rd Key.cinchTokens =
      toRaw 32 (max (-2147483648) (min ((20 * s.beffNow : Nat) : Int) (s.tokens + s.beffNow - pCont))) ∧
    ∀ i, (s.ticking pCont).rd (Key.tjSensor i) = s.rd (Key.tjSensor i) := by
  unfold State.ticking
  generalize List.range 6 = l
  obtain ⟨hc, hj, ht, hi⟩ := State.each_tickPos (20 * s.beffNow) l
    ((s.setCinch s.tickCinch).setTokens (min (20 * s.beffNow : Nat) (s.tokens + s.beffNow - pCont)))
  refine ⟨?_, hj, ht.trans (State.rd_wr_self ..), fun i => (hi i).trans ((State.rd_wr_of_fam _ _ (by simp)).trans (State.rd_setCinch ..))⟩
  exact hc.trans (congrArg (fun x : Int => s.tickCinch.ticked (20 * s.beffNow) x l) (congrArg (ofRaw 32) ht.symm))

/-- What the judgement leaves of what is shown, and when it posts. -/
theorem State.tickJudged_holds (u : State) (tmax power : Nat) :
    (u.tickJudged tmax power).girth.cinch.inForce = u.girth.cinch.inForce ∧
    (∀ j, Nums2.contains (Key.fam j) = false → (u.tickJudged tmax power).rd j = u.rd j) ∧
    (u.girth.cinch.overdraw = false → u.tokens < -(tmax : Int) → (u.tickJudged tmax power).girth.cinch.overdraw = true ∧
      ∀ s : State, u.sb.journal = s.sb.journal → Posted s (u.tickJudged tmax power) .cinchOverdraw 0x1401) := by
  unfold State.tickJudged
  split
  next h =>
    refine ⟨rfl, fun j hj => (State.rd_setCinch ..).trans (State.post_rd hj), fun _ _ => ⟨rfl, fun s hs => ?_⟩⟩
    exact (Posted.of_post hs .cinchOverdraw 0x1401 (toRaw 64 u.tokens) power 0xFF).journal_eq rfl
  next h =>
    have hno : u.girth.cinch.overdraw = false → ¬ u.tokens < -(tmax : Int) := fun ho ht => h (by simp [ho, ht])
    split
    · exact ⟨rfl, fun j _ => State.rd_setCinch .., fun ho ht => absurd ht (hno ho)⟩
    · exact ⟨rfl, fun j _ => rfl, fun ho ht => absurd ht (hno ho)⟩

/-- What a tick leaves. -/
theorem State.cinchTick_holds (s : State) (pCont : Nat) :
    (s.cinchTick pCont).rd Key.cinchTokens = (s.ticking pCont).rd Key.cinchTokens ∧
    (s.cinchTick pCont).rd Key.cinchPowerMw = min 30000 (pCont + s.girth.cinch.granted) ∧
    (s.cinchTick pCont).girth.cinch.granted = 0 ∧
    (s.cinchTick pCont).girth.cinch.inForce = (s.ticking pCont).girth.cinch.inForce ∧
    (s.cinchTick pCont).rd Key.cinchStage = ((s.cinchTick pCont).girth.cinch.inForce.toList.filter id).length ∧
    (∀ i, (s.cinchTick pCont).rd (Key.tjSensor i) = s.rd (Key.tjSensor i)) ∧
    (s.girth.cinch.overdraw = false → (s.cinchTick pCont).tokens < -((20 * s.beffNow : Nat) : Int) →
      (s.cinchTick pCont).girth.cinch.overdraw = true ∧ Posted s (s.cinchTick pCont) .cinchOverdraw 0x1401) := by
  obtain ⟨hc, hj, ht, hi⟩ := s.ticking_holds pCont
  have hover : (s.ticking pCont).girth.cinch.overdraw = s.girth.cinch.overdraw := by
    rw [hc, (Cinch.ticked_same ..).2]
    rfl
  rw [State.cinchTick_eq]
  generalize s.ticking pCont = u at *
  obtain ⟨hforce, hrd, hpost⟩ := (s.tickShown u pCont).tickJudged_holds (20 * s.beffNow) (min 30000 (pCont + s.girth.cinch.granted))
  generalize hv : (s.tickShown u pCont).tickJudged (20 * s.beffNow) (min 30000 (pCont + s.girth.cinch.granted)) = v at *
  have hend (j : Nat) : (v.setCinch { v.girth.cinch with granted := 0 }).applyCeiling.rd j = v.rd j :=
    (State.rd_setCinch ..).trans (State.rd_setCinch ..)
  have htok : (s.tickShown u pCont).rd Key.cinchTokens = u.rd Key.cinchTokens := by
    rw [State.tickShown, State.rd_wr_of_fam _ _ (by simp), State.rd_wr_of_fam _ _ (by simp)]
  refine ⟨?_, ?_, rfl, hforce, ?_, fun i => ?_, fun ho hlt => ?_⟩
  · rw [hend, hrd _ (by simp), htok]
  · rw [hend, hrd _ (by simp)]
    exact State.rd_wr_self ..
  · rw [hend, hrd _ (by simp), State.tickShown, State.rd_wr_of_fam _ _ (by simp), State.rd_wr_self]
    exact congrArg (fun x : Vector Bool 6 => (x.toList.filter id).length) hforce.symm
  · rw [hend, hrd _ (by simp), State.tickShown, State.rd_wr_of_fam _ _ (by simp), State.rd_wr_of_fam _ _ (by simp), hi]
  · rw [State.tokens, State.rdI, hend, hrd _ (by simp)] at hlt
    obtain ⟨h1, h2⟩ := hpost (hover.trans ho) hlt
    exact ⟨h1, (h2 s hj).journal_eq rfl⟩

theorem State.each_wr_tjSensor (f : Nat → Nat) {l : List Nat} (hl : ∀ j ∈ l, j < 8) {i : Nat} (hi8 : i < 8) (s : State) :
    (s.each l fun s i => s.wr (Key.tjSensor i) (f i)).rd (Key.tjSensor i) = if i ∈ l then f i else s.rd (Key.tjSensor i) := by
  induction l generalizing s with
  | nil => rfl
  | cons j l ih =>
    obtain ⟨hj8, hl⟩ := List.forall_mem_cons.mp hl
    refine (ih hl (s.wr (Key.tjSensor j) (f j))).trans ?_
    by_cases hi : i ∈ l
    · simp [hi]
    · by_cases hj : i = j
      · subst hj
        simp [hi, State.rd_wr_self]
      · have hne : Key.tjSensor i ≠ Key.tjSensor j := fun h => hj (by simpa [Key.tjSensor, hi8, hj8] using h)
        simp [hi, hj, State.rd_wr_ne _ _ hne]

theorem State.rd_readSensors (s : State) (tj : List Int) {i : Nat} (hi : i < 8) :
    (s.readSensors tj).rd (Key.tjSensor i) = toRaw 32 (tj.getD i 0) := by
  have h := State.each_wr_tjSensor (fun i => toRaw 32 (tj.getD i 0)) (fun _ => List.mem_range.mp) hi s
  rw [if_pos (List.mem_range.mpr hi)] at h
  rw [← h]
  unfold State.readSensors
  extract_lets u top v hot w
  refine (State.rd_setCinch ..).trans ((show w.rd (Key.tjSensor i) = v.rd (Key.tjSensor i) from ?_).trans (State.rd_wr_of_fam _ _ (by simp)))
  unfold w
  split
  · exact State.post_rd (by simp)
  · rfl

theorem exec_cinchTick_still (pc : Nat) (s : State) : exec (.cinchTick pc []) s = .next (s.cinchTick pc) := rfl

/-- A position that is ordered as before stays or enters as the balance after the tick says. -/
theorem cinchTick_inForce {pc k : Nat} (hk : k < 6) (ho : s.girth.cinch.order = s.rd Key.cinchShedOrder) :
    (s.cinchTick pc).girth.cinch.inForce.getD k false =
      posStays (20 * s.beffNow) (s.cinchTick pc).tokens k (s.girth.cinch.inForce.getD k false) := by
  obtain ⟨htok, -, -, hforce, -⟩ := s.cinchTick_holds pc
  have ht : (s.cinchTick pc).tokens = (s.ticking pc).tokens := congrArg (ofRaw 32) htok
  have horder : s.tickCinch.inForce = s.girth.cinch.inForce := if_pos ho.symm
  rw [hforce, (s.ticking_holds pc).1, ht, ← horder]
  exact Cinch.ticked_hit hk (List.mem_range.mpr hk) List.nodup_range ..

/-! ### The shaper's calendar (R361) -/

/-- The slots of the entries of `t` lie in the future, the entries of `s` that lie there are kept, and Harness and the
dictionary are as they were. -/
def State.Calendared (s : State) (cal : List (Nat × Nat)) (t : State) : Prop :=
  (∀ p ∈ t.curb.calendar, s.us256 / 256 < p.2) ∧ (∀ p ∈ cal, p ∈ t.curb.calendar) ∧ t.har = s.har ∧ t.dict = s.dict ∧ t.us256 = s.us256

theorem State.Calendared.enter {t : State} {cal : List (Nat × Nat)} (h : s.Calendared cal t) (q : Nat) {at256 : Nat} (hat : t.us256 < at256) :
    s.Calendared cal (t.calendarEnter q at256) := by
  obtain ⟨hfut, hkept, hhar, hdict, hus⟩ := h
  unfold State.calendarEnter
  extract_lets now slot
  split
  · exact ⟨hfut, hkept, hhar, hdict, hus⟩
  · refine ⟨fun p hp => ?_, fun p hp => List.mem_append_left _ (hkept p hp), hhar, hdict, hus⟩
    rcases List.mem_append.mp hp with hp | hp
    · exact hfut p hp
    · rw [List.mem_singleton.mp hp]
      change s.us256 / 256 < min ((at256 + 255) / 256) (t.us256 / 256 + 16383)
      omega

/-- The entries of a calendar that are not due at `now`. -/
def calendarAhead (now : Nat) (cal : List (Nat × Nat)) : List (Nat × Nat) := cal.filter fun p => decide (now < p.2)

/-- A due entry comes back while its queue's oldest frame is not eligible. -/
def State.calendarFire (s : State) (p : Nat × Nat) : State :=
  match (s.outQ (p.1 / 8) (p.1 % 8)).frames with
  | f :: _ =>
    let at256 := s.eligibleAt f.tenant (shaperOf (p.1 / 8) (p.1 % 8))
    if s.us256 < at256 then s.calendarEnter p.1 at256 else s
  | [] => s

theorem State.Calendared.fire {t : State} {cal : List (Nat × Nat)} (h : s.Calendared cal t) (p : Nat × Nat) : s.Calendared cal (t.calendarFire p) := by
  unfold State.calendarFire
  split
  · extract_lets at256
    split
    next hat => exact h.enter p.1 hat
    next => exact h
  · exact h

/-- The state after the calendar's slot at the present instant. -/
def State.calendarFired (s : State) : State :=
  ({ s with curb := { s.curb with calendar := calendarAhead (s.us256 / 256) s.curb.calendar } } : State).each
    (s.curb.calendar.filter fun p => decide (p.2 ≤ s.us256 / 256)) State.calendarFire

theorem exec_shaperCalendarFire_eq (dt : Nat) (s : State) : exec (.shaperCalendarFire dt) s = .next (s.advance dt).calendarFired := rfl

theorem State.calendarFired_holds (s : State) : s.Calendared (calendarAhead (s.us256 / 256) s.curb.calendar) s.calendarFired :=
  List.foldlRecOn (motive := s.Calendared (calendarAhead (s.us256 / 256) s.curb.calendar)) _ _
    ⟨fun _ hp => of_decide_eq_true (List.mem_filter.mp hp).2, fun _ hp => hp, rfl, rfl, rfl⟩ fun _ h p _ => h.fire p

/-! ### Samples of a tenant (R364) -/

theorem length_flatMap_const {α β : Type} {f : α → List β} {n : Nat} (h : ∀ x, (f x).length = n) (l : List α) : (l.flatMap f).length = l.length * n := by
  induction l with
  | nil => simp
  | cons x l ih => rw [List.flatMap_cons, List.length_append, h, ih, List.length_cons]; ring

theorem State.length_sampleItem (s : State) (n : Nat) : (s.sampleItem n).length = 144 := by
  simp only [State.sampleItem, List.length_append, length_leBytes, zeros, List.length_replicate]
  rw [length_flatMap_const (n := 8) fun x => by rw [List.length_append, length_leBytes, length_leBytes]]
  rfl

/-- A sample starts the sojourn of a shaper anew. -/
def State.sojournTaken (t : Nat) (s : State) (x : Nat) : State :=
  if (s.shaper t x).sojourn.isSome then s.setShaper t x { s.shaper t x with sojourn := none } else s

theorem State.shaper_setShaper_self (s : State) (t x : Nat) (v : Shaper) : (s.setShaper t x v).shaper t x = v := KMap.getD_setD_self ..

theorem State.shaper_setShaper_ne {x y : Nat} (h : y ≠ x) (s : State) (t : Nat) (v : Shaper) : (s.setShaper t x v).shaper t y = s.shaper t y :=
  KMap.getD_setD_ne _ _ _ _ (by omega)

theorem State.sojournTaken_holds (t : Nat) (s : State) (x y : Nat) (h : y = x ∨ (s.shaper t y).sojourn = none) :
    ((s.sojournTaken t x).shaper t y).sojourn = none ∧ ∀ q, (s.sojournTaken t x).strap q = s.strap q := by
  unfold State.sojournTaken
  split
  next =>
    refine ⟨?_, fun _ => rfl⟩
    by_cases hy : y = x
    · subst hy
      rw [State.shaper_setShaper_self]
    · rw [State.shaper_setShaper_ne hy]
      exact h.resolve_left hy
  next hs =>
    refine ⟨?_, fun _ => rfl⟩
    rcases h with rfl | h
    · exact Option.not_isSome_iff_eq_none.mp hs
    · exact h

theorem State.each_sojournTaken (t : Nat) (l : List Nat) (s : State) (q : Nat) :
    (∀ y, y ∈ l ∨ (s.shaper t y).sojourn = none → ((s.each l (State.sojournTaken t)).shaper t y).sojourn = none) ∧
    (s.each l (State.sojournTaken t)).strap q = s.strap q := by
  induction l generalizing s with
  | nil => exact ⟨fun y hy => hy.resolve_left List.not_mem_nil, rfl⟩
  | cons x l ih =>
    obtain ⟨hnone, hq⟩ := ih (s.sojournTaken t x)
    refine ⟨fun y hy => hnone y ?_, hq.trans ((s.sojournTaken_holds t x x (.inl rfl)).2 q)⟩
    by_cases hl : y ∈ l
    · exact .inl hl
    · exact .inr (s.sojournTaken_holds t x y (hy.imp_left fun h => (List.mem_cons.mp h).resolve_right hl)).1

/-- The state after the sample of tenant `t` joined its queue. -/
def State.samplePushed (s : State) (t : Nat) : State :=
  (s.each (List.replicate (s.samplesMissed t) 3) fun s w => s.strapDrop 3 w).strapPush 3 3
    ((s.each (List.replicate (s.samplesMissed t) 3) fun s w => s.strapDrop 3 w).sampleItem t)

/-- The state after a sample of tenant `t` whose item has joined its queue. -/
def State.sampleTaken (u : State) (t : Nat) : State :=
  ({ u with curb := { u.curb with sampled := KMap.put u.curb.sampled t (u.sampleInstant t), sampledAt := u.elapsed } } : State).each
    (List.range 16) (State.sojournTaken t)

/-- Whether a sample of `t` waits: it is not due, another was taken less than 1 µs ago, or an earlier one is due. -/
def State.sampleWaits (s : State) (t : Nat) : Bool :=
  !s.sampleDue t || decide (s.elapsed < s.curb.sampledAt + us 1 ∧ !s.curb.sampled.isEmpty)
      || (List.range t).any (fun u => s.sampleDue u && decide (s.sampleInstant u ≤ s.sampleInstant t))

theorem exec_curbSample_eq (n : Fin 256) (dt : Nat) (s : State) : exec (.curbSample n dt) s =
    .next (if (s.advance dt).sampleWaits n then s.advance dt else ((s.advance dt).samplePushed n).sampleTaken n) := rfl

theorem State.sampleTaken_holds {n : Nat} (hm : s.samplesMissed n = 0) (hf : s.strapFull 3 3 = false)
    (hw : (s.strap 3).welt = none) :
    (∃ i, (((s.samplePushed n).sampleTaken n).strap 3).all = (s.strap 3).all ++ [i] ∧ i.words = 3 ∧
      i.data.length = 144 ∧ i.data.head? = some (BitVec.ofNat 8 n)) ∧
    ∀ x, x < 16 → (((s.samplePushed n).sampleTaken n).shaper n x).sojourn = none := by
  have hpush : s.samplePushed n = s.strapPush 3 3 (s.sampleItem n) := by
    rw [State.samplePushed, hm]
    rfl
  rw [hpush]
  unfold State.sampleTaken
  obtain ⟨hnone, -⟩ := State.each_sojournTaken n (List.range 16) ({ s.strapPush 3 3 (s.sampleItem n) with
    curb := { (s.strapPush 3 3 (s.sampleItem n)).curb with
      sampled := KMap.put (s.strapPush 3 3 (s.sampleItem n)).curb.sampled n ((s.strapPush 3 3 (s.sampleItem n)).sampleInstant n),
      sampledAt := (s.strapPush 3 3 (s.sampleItem n)).elapsed } }) 3
  refine ⟨?_, fun x hx => hnone x (.inl (List.mem_range.mpr hx))⟩
  rw [(State.each_sojournTaken ..).2]
  have htaken := strapPush_taken (q := 3) (words := 3) (data := s.sampleItem n) (s := s) (by decide) (by decide) (by decide) hf hw
  rw [exec_strapPush, execStrapPush, if_neg (by decide), gives_next] at htaken
  obtain ⟨-, i, hall, hwords, hdata, -, -⟩ := htaken
  exact ⟨i, hall, hwords, hdata ▸ State.length_sampleItem .., by rw [hdata]; rfl⟩

theorem State.not_sampleWaits {s : State} {n : Nat} (hd : s.sampleDue n = true) (hat : s.curb.sampled = [] ∨ s.curb.sampledAt + us 1 ≤ s.elapsed)
    (hu : ∀ u, u < n → s.sampleDue u = false) : s.sampleWaits n = false := by
  have hearly : ((List.range n).any fun u => s.sampleDue u && decide (s.sampleInstant u ≤ s.sampleInstant n)) = false :=
    List.any_eq_false.mpr fun u hm => by simp [hu u (List.mem_range.mp hm)]
  have hsoon : ¬ (s.elapsed < s.curb.sampledAt + us 1 ∧ (!s.curb.sampled.isEmpty) = true) := by
    rcases hat with h | h
    · simp [h]
    · exact fun hlt => absurd hlt.1 (by omega)
  rw [State.sampleWaits, hd, hearly, decide_eq_false hsoon]
  rfl

theorem State.strapFull_advance (s : State) (dt q w : Nat) : (s.advance dt).strapFull q w = s.strapFull q w := by
  have hrd (j : Nat) : (s.advance dt).rd j = s.rd j := by simp only [State.rd, State.advance_keeps ..]
  have hstrap : (s.advance dt).strap q = s.strap q := by simp only [State.strap, State.advance_keeps ..]
  have hlayout : (s.advance dt).sb.layout = s.sb.layout := by simp only [State.advance_keeps ..]
  have hregion : (s.advance dt).strapRegion q = s.strapRegion q := by
    unfold State.strapRegion
    rw [hrd, hlayout]
  unfold State.strapFull State.strapLimit State.midWords
  rw [hrd, hstrap, hregion]

theorem curbSample_takes (n : Fin 256) (dt : Nat) (s : State) (hd : (s.advance dt).sampleDue n = true)
    (hat : s.curb.sampled = [] ∨ s.curb.sampledAt + us 1 ≤ (s.advance dt).elapsed)
    (hu : ∀ u, u < n.val → (s.advance dt).sampleDue u = false) (hm : (s.advance dt).samplesMissed n = 0) (hf : s.strapFull 3 3 = false)
    (hw : (s.strap 3).welt = none) : Gives (exec (.curbSample n dt) s) fun t =>
      (∃ i, (t.strap 3).all = (s.strap 3).all ++ [i] ∧ i.words = 3 ∧ i.data.length = 144 ∧ i.data.head? = some (BitVec.ofNat 8 n)) ∧
      ∀ x, x < 16 → (t.shaper n x).sojourn = none := by
  rw [exec_curbSample_eq, gives_next]
  have hcurb : (s.advance dt).curb = s.curb := by simp only [State.advance_keeps ..]
  have hstrap : (s.advance dt).strap 3 = s.strap 3 := by simp only [State.strap, State.advance_keeps ..]
  rw [← State.strapFull_advance s dt] at hf
  rw [← hstrap] at hw ⊢
  rw [← hcurb] at hat
  generalize s.advance dt = u at *
  rw [State.not_sampleWaits hd hat hu]
  exact State.sampleTaken_holds hm hf hw

/-- Settles O21: the Cinch tick adds the budget and moves each position by the balance it left; the calendar's slot leaves
entries of the future only; a due sample joins queue 3. -/
theorem cinchAndCurb : Obligations.CinchAndCurb := by
  unfold Obligations.CinchAndCurb
  refine ⟨fun pc s => ?_, fun pc s k hk ho => ?_, fun pc tj s i htj hi => ?_, fun pc s ho => ?_, fun dt s => ?_, fun n dt s hf => ?_,
    curbSample_takes⟩
  · obtain ⟨htok, hpower, hgranted, -, hstage, -⟩ := s.cinchTick_holds pc
    rw [exec_cinchTick_still, gives_next]
    exact ⟨htok.trans (s.ticking_holds pc).2.2.1, hpower, hgranted, hstage⟩
  · rw [exec_cinchTick_still, gives_next, cinchTick_inForce hk ho, posStays_iff]
  · obtain ⟨-, -, -, -, -, hsensor, -⟩ := (s.readSensors tj).cinchTick_holds pc
    rw [exec_cinchTick, execCinchTick, if_neg (by simpa using htj), gives_next, hsensor, State.rd_readSensors s tj hi]
  · rw [exec_cinchTick_still, gives_next]
    obtain ⟨-, -, -, -, -, -, hover⟩ := s.cinchTick_holds pc
    exact hover ho
  · obtain ⟨hfut, hkept, hhar, hdict, -⟩ := (s.advance dt).calendarFired_holds
    have hcurb : (s.advance dt).curb = s.curb := by simp only [State.advance_keeps ..]
    rw [exec_shaperCalendarFire_eq, gives_next]
    refine ⟨hfut, fun p hp hlt => hkept p ?_, hhar.trans (by simp only [State.advance_keeps ..]), hdict.trans (by simp only [State.advance_keeps ..])⟩
    rw [hcurb]
    exact List.mem_filter.mpr ⟨hp, decide_eq_true hlt⟩
  · have hflag : (s.advance dt).flag (Key.curbSample n) = false := by simpa only [State.flag, State.rd, State.advance_keeps ..] using hf
    rw [exec_curbSample_eq, gives_next, if_pos]
    simp only [State.sampleWaits, State.sampleDue, hflag, Bool.false_and, Bool.not_false, Bool.true_or]

end Sys2Proof.Machine
end

section
/-! ## O51: the emulated tag answers its commands and keeps its sessions (R512, R523 to R531) -/

namespace Sys2Proof.Machine

variable {s : State} {dt : Nat}

/-! ### Sessions of the field (R512, R523, R526) -/

theorem State.rd_setCon (s : State) (c : Concho) (k : Nat) : (s.setCon c).rd k = s.rd k := State.rd_of_nums rfl _

theorem State.rd_emit (s : State) (o : Out) (k : Nat) : (s.emit o).rd k = s.rd k := State.rd_of_nums rfl _

theorem State.rd_raise (s : State) (n k : Nat) : (s.raise n).rd k = s.rd k := State.rd_of_nums rfl _

theorem State.rd_tagOpen_tagState (s : State) : s.tagOpen.rd Key.tagState = 0 := (State.rd_setCon ..).trans (State.rd_wr_self ..)

theorem State.rd_tagOpen_ne (s : State) {k : Nat} (h : k ≠ Key.tagState) : s.tagOpen.rd k = s.rd k :=
  (State.rd_setCon ..).trans (State.rd_wr_ne _ _ h)

/-- A new entry of the field opens the tag and leaves the antenna, the pins and the edges. -/
theorem State.fieldEntry_holds (s : State) : s.fieldEntry.rd Key.tagState = 0 ∧ (∃ uid, s.fieldEntry.concho =
      { s.concho with shadow := none, uid := uid, challenge := none, file := 0 }) ∧
    s.fieldEntry.draws = s.draws + 1 ∧ s.fieldEntry.pins = s.pins ∧ s.fieldEntry.buckle = s.buckle := by
  unfold State.fieldEntry
  extract_lets uid u old v
  have hv : v.rd Key.tagState = 0 := (State.rd_setCon ..).trans (State.rd_tagOpen_tagState _)
  split
  · exact ⟨(State.rd_emit ..).trans hv, ⟨uid, rfl⟩, rfl, rfl, rfl⟩
  · exact ⟨hv, ⟨uid, rfl⟩, rfl, rfl, rfl⟩

/-- The antenna once it serves an external field. -/
def Concho.sensed (c : Concho) (low : Bool) (now : Nat) : Concho :=
  { c with antenna := .tag, due := c.due || c.antenna == .listening, fdAt := if low then c.fdAt else now }

/-- A field that is sensed has the antenna serve it, FD_N go low where it may, and source 26 raised. -/
theorem State.fieldSensed_holds (s : State) : s.fieldSensed.rd Key.tagState = 0 ∧ (∃ uid, s.fieldSensed.concho =
      { s.concho.sensed s.pins.fdLow s.elapsed with shadow := none, uid := uid, challenge := none, file := 0 }) ∧
    s.fieldSensed.draws = s.draws + 1 ∧ (s.flag Key.tagFdWake = true → s.fieldSensed.pins.fdLow = true) ∧
    s.fieldSensed.buckle.edges = s.buckle.edges ++ [26] := by
  unfold State.fieldSensed
  extract_lets c u pins v
  have hu : u.concho = s.concho.sensed s.pins.fdLow s.elapsed := rfl
  have hflag : u.flag Key.tagFdWake = s.flag Key.tagFdWake := rfl
  have hv : v.concho = u.concho ∧ v.draws = s.draws ∧ v.buckle = s.buckle := by
    unfold v
    split <;> exact ⟨rfl, rfl, rfl⟩
  obtain ⟨hcon, hdraws, hbuckle⟩ := hv
  obtain ⟨hopen, ⟨uid, hentry⟩, hd, hpins, hb⟩ := v.fieldEntry_holds
  refine ⟨(State.rd_raise ..).trans hopen, ⟨uid, ?_⟩, ?_, fun hw => ?_, ?_⟩
  · rw [hcon, hu] at hentry
    exact hentry
  · rw [← hdraws]
    exact hd
  · refine (congrArg Pins.fdLow hpins).trans ?_
    unfold v
    rw [if_pos (hflag.trans hw)]
  · rw [State.edges_raise, hb, hbuckle]

/-- The state once an external field reaches the device. -/
def State.fieldEnters (s : State) : State :=
  if s.pwr = 0 then s
  else
    match (s.setCon { s.concho with field := true }).concho.antenna with
    | .reader => s.setCon { s.concho with field := true }
    | .tag => (s.setCon { s.concho with field := true }).fieldEntry
    | .quiet | .listening => (s.setCon { s.concho with field := true }).fieldSensed

theorem exec_extFieldDetect_eq (dt : Nat) (s : State) : exec (.extFieldDetect dt) s = .next (s.advance dt).fieldEnters := rfl

theorem State.fieldEnters_quiet (hp : s.pwr ≠ 0) (hq : s.concho.antenna = .quiet) :
    s.fieldEnters = (s.setCon { s.concho with field := true }).fieldSensed := by
  have hant : (s.setCon { s.concho with field := true }).concho.antenna = .quiet := hq
  rw [State.fieldEnters, if_neg hp, hant]

theorem State.fieldEnters_reader (hp : s.pwr ≠ 0) (hr : s.concho.antenna = .reader) :
    s.fieldEnters = { s with concho := { s.concho with field := true } } := by
  have hant : (s.setCon { s.concho with field := true }).concho.antenna = .reader := hr
  rw [State.fieldEnters, if_neg hp, hant]
  rfl

theorem State.pwr_advance (s : State) (dt : Nat) : (s.advance dt).pwr = s.pwr := by simp only [State.pwr, State.rd, State.advance_keeps ..]

theorem State.flag_advance (s : State) (dt k : Nat) : (s.advance dt).flag k = s.flag k := by
  simp only [State.flag, State.rd, State.advance_keeps ..]

theorem State.concho_advance (s : State) (dt : Nat) : (s.advance dt).concho = s.concho := by simp only [State.advance_keeps ..]

/-- What a field finds that reaches a quiet antenna. -/
theorem State.fieldEnters_serves (hp : s.pwr ≠ 0) (hq : s.concho.antenna = .quiet) :
    s.fieldEnters.concho.antenna = .tag ∧ s.fieldEnters.concho.field = true ∧ s.fieldEnters.rd Key.tagState = 0 ∧
    s.fieldEnters.concho.challenge = none ∧ s.fieldEnters.concho.file = 0 ∧ s.fieldEnters.concho.shadow = none ∧
    s.fieldEnters.concho.fdAt = (if s.pins.fdLow then s.concho.fdAt else s.elapsed) ∧ s.fieldEnters.draws = s.draws + 1 ∧
    (s.flag Key.tagFdWake = true → s.fieldEnters.pins.fdLow = true) ∧ s.fieldEnters.buckle.edges = s.buckle.edges ++ [26] := by
  rw [State.fieldEnters_quiet hp hq]
  obtain ⟨hopen, ⟨uid, hc⟩, hd, hw, he⟩ := (s.setCon { s.concho with field := true }).fieldSensed_holds
  exact ⟨by rw [hc]; rfl, by rw [hc]; rfl, hopen, by rw [hc], by rw [hc], by rw [hc], by rw [hc]; rfl, hd, hw, he⟩

theorem extFieldDetect_quiet (hp : s.pwr ≠ 0) (hq : s.concho.antenna = .quiet) : Gives (exec (.extFieldDetect dt) s) fun t =>
    t.concho.antenna = .tag ∧ t.concho.field = true ∧ t.rd Key.tagState = 0 ∧ t.concho.challenge = none ∧ t.concho.file = 0 ∧
    t.concho.shadow = none ∧ t.concho.fdAt = (if s.pins.fdLow then s.concho.fdAt else (s.advance dt).elapsed) ∧ t.draws = s.draws + 1 ∧
    (s.flag Key.tagFdWake = true → t.pins.fdLow = true) ∧ t.buckle.edges = s.buckle.edges ++ [26] := by
  have hpins : (s.advance dt).pins.fdLow = s.pins.fdLow := by simp only [State.advance_keeps ..]
  have hdraws : (s.advance dt).draws = s.draws := by simp only [State.advance_keeps ..]
  have hbuckle : (s.advance dt).buckle.edges = s.buckle.edges := by simp only [State.advance_keeps ..]
  rw [← State.pwr_advance s dt] at hp
  rw [← State.concho_advance s dt] at hq ⊢
  rw [← hpins, ← hdraws, ← hbuckle, ← State.flag_advance s dt, exec_extFieldDetect_eq, gives_next]
  exact State.fieldEnters_serves hp hq

theorem extFieldDetect_reader (hp : s.pwr ≠ 0) (hr : s.concho.antenna = .reader) : Gives (exec (.extFieldDetect dt) s) fun t =>
    t = { s.advance dt with concho := { s.concho with field := true } } := by
  rw [← State.pwr_advance s dt] at hp
  rw [← State.concho_advance s dt] at hr ⊢
  rw [exec_extFieldDetect_eq, State.fieldEnters_reader hp hr, gives_next]

/-! ### The field leaves (R527, R530, R531) -/

theorem State.fieldGone_holds (s : State) (absent : Nat) : (∀ k, (s.fieldGone absent).rd k = s.rd k) ∧ (s.fieldGone absent).concho =
    { s.concho with field := false, goneAt := if s.concho.field then s.elapsed - absent else s.concho.goneAt } := by
  unfold State.fieldGone
  split
  next h => exact ⟨State.rd_setCon _ _, rfl⟩
  next h =>
    refine ⟨fun _ => rfl, ?_⟩
    rw [← Bool.eq_false_iff.mpr h]

/-- The antenna that is free where no field is there listens for a due cycle, or is quiet. -/
theorem State.antennaFree_fieldless (h : s.concho.field = false) : (∀ k, s.antennaFree.rd k = s.rd k) ∧
    s.antennaFree.buckle = s.buckle ∧ s.antennaFree.concho.antenna =
      (if s.concho.due && s.flag Key.conReader && decide (3 ≤ s.pwr) then .listening else .quiet) ∧
    ∃ due at', s.antennaFree.concho = { s.concho with antenna := s.antennaFree.concho.antenna, due := due, listenAt := at' } := by
  unfold State.antennaFree
  extract_lets c u
  rw [if_neg (show ¬ u.concho.field = true from (Bool.eq_false_iff.mp h))]
  change (∀ k, (if s.concho.due && s.flag Key.conReader && decide (3 ≤ s.pwr) then u.cycleListen else u).rd k = s.rd k) ∧
    (if s.concho.due && s.flag Key.conReader && decide (3 ≤ s.pwr) then u.cycleListen else u).buckle = s.buckle ∧
    (if s.concho.due && s.flag Key.conReader && decide (3 ≤ s.pwr) then u.cycleListen else u).concho.antenna = _ ∧
    ∃ due at', (if s.concho.due && s.flag Key.conReader && decide (3 ≤ s.pwr) then u.cycleListen else u).concho =
      { s.concho with antenna := (if s.concho.due && s.flag Key.conReader && decide (3 ≤ s.pwr) then u.cycleListen else u).concho.antenna,
                      due := due, listenAt := at' }
  split
  · exact ⟨fun _ => (State.rd_setCon ..).trans (State.rd_setCon ..), rfl, rfl, false, u.elapsed, rfl⟩
  · exact ⟨fun _ => State.rd_setCon .., rfl, rfl, s.concho.due, s.concho.listenAt, rfl⟩

/-- The state once the field has left the tag. -/
def State.sessionEnd (s : State) (absent : Nat) : State :=
  ((s.fieldGone absent).tagOpen).setCon { (s.fieldGone absent).tagOpen.concho with challenge := none }

theorem State.sessionEnd_holds (s : State) (absent : Nat) : (s.sessionEnd absent).rd Key.tagState = 0 ∧
    (∀ k, k ≠ Key.tagState → (s.sessionEnd absent).rd k = s.rd k) ∧ (s.sessionEnd absent).concho =
      { s.concho with field := false, goneAt := if s.concho.field then s.elapsed - absent else s.concho.goneAt,
                      shadow := none, challenge := none } := by
  obtain ⟨hrd, hcon⟩ := s.fieldGone_holds absent
  refine ⟨(State.rd_setCon ..).trans (State.rd_tagOpen_tagState _), fun k hk => ?_, ?_⟩
  · exact (State.rd_setCon ..).trans ((State.rd_tagOpen_ne _ hk).trans (hrd k))
  · change ({ (s.fieldGone absent).concho with shadow := none, challenge := none } : Concho) = _
    rw [hcon]

/-- What the two commands of an absent field share: which end of it has come. -/
theorem antenna_fieldGone (s : State) (absent : Nat) : (s.fieldGone absent).concho.antenna = s.concho.antenna := by
  rw [(s.fieldGone_holds absent).2]

/-- The state once no field has been there for 50 ms. -/
def State.fieldAbsent (s : State) (absent : Nat) : State :=
  if absent < ms 50 then s
  else if (s.fieldGone absent).concho.antenna = .tag then (s.sessionEnd absent).antennaFree else s.fieldGone absent

theorem exec_tagFieldAbsent_eq (absent dt : Nat) (s : State) : exec (.tagFieldAbsent absent dt) s = .next ((s.advance dt).fieldAbsent absent) :=
  rfl

/-- The state once no field has been there for 5 ms. -/
def State.sessionAbsent (s : State) (absent : Nat) : State :=
  if absent < ms 5 then s
  else if (s.fieldGone absent).concho.antenna = .tag then s.sessionEnd absent else s.fieldGone absent

theorem exec_tagSessionEnd_eq (absent dt : Nat) (s : State) : exec (.tagSessionEnd absent dt) s = .next ((s.advance dt).sessionAbsent absent) :=
  rfl

theorem tagFieldAbsent_ends {absent : Nat} (ha : ms 50 ≤ absent) (ht : s.concho.antenna = .tag) :
    Gives (exec (.tagFieldAbsent absent dt) s) fun t => t.concho.field = false ∧
    t.concho.antenna = (if s.concho.due && s.flag Key.conReader && decide (3 ≤ s.pwr) then .listening else .quiet) ∧ t.rd Key.tagState = 0 ∧
    t.concho.shadow = none ∧ t.concho.challenge = none ∧
    t.concho.goneAt = (if s.concho.field then (s.advance dt).elapsed - absent else s.concho.goneAt) := by
  rw [← State.concho_advance s dt] at ht ⊢
  rw [← State.flag_advance s dt, ← State.pwr_advance s dt, exec_tagFieldAbsent_eq, gives_next]
  generalize s.advance dt = u at *
  rw [State.fieldAbsent, if_neg (Nat.not_lt.mpr ha), if_pos ((antenna_fieldGone u absent).trans ht)]
  obtain ⟨hopen, hrd, hend⟩ := u.sessionEnd_holds absent
  have hreader : (u.sessionEnd absent).flag Key.conReader = u.flag Key.conReader := congrArg (· != 0) (hrd _ (by decide))
  have hpw : (u.sessionEnd absent).pwr = u.pwr := hrd Key.pwrState (by decide)
  obtain ⟨hfree, -, hant, due, at', hc⟩ := State.antennaFree_fieldless (s := u.sessionEnd absent) (by rw [hend])
  refine ⟨by rw [hc, hend], ?_, (hfree _).trans hopen, by rw [hc, hend], by rw [hc, hend], by rw [hc, hend]⟩
  refine hant.trans ?_
  rw [hreader, hpw, hend]

theorem tagSessionEnd_ends {absent : Nat} (ha : ms 5 ≤ absent) (ht : s.concho.antenna = .tag) :
    Gives (exec (.tagSessionEnd absent dt) s) fun t => t.concho.antenna = .tag ∧ t.concho.field = false ∧
    t.rd Key.tagState = 0 ∧ t.concho.shadow = none ∧ t.concho.challenge = none := by
  rw [← State.concho_advance s dt] at ht
  rw [exec_tagSessionEnd_eq, gives_next]
  generalize s.advance dt = u at *
  rw [State.sessionAbsent, if_neg (Nat.not_lt.mpr ha), if_pos ((antenna_fieldGone u absent).trans ht)]
  obtain ⟨hopen, -, hend⟩ := u.sessionEnd_holds absent
  rw [hend]
  exact ⟨ht, rfl, hopen, rfl, rfl⟩

/-- The state after a possible release of FD_N. -/
def State.fdReleased (s : State) : State :=
  if s.pins.fdLow ∧ !s.concho.field ∧ s.concho.goneAt + ms 50 ≤ s.elapsed ∧ s.concho.fdAt + ms 10 ≤ s.elapsed then
    { s with pins := { s.pins with fdLow := false } }
  else s

theorem exec_fdNRelease_eq (dt : Nat) (s : State) : exec (.fdNRelease dt) s = .next (s.advance dt).fdReleased := rfl

theorem State.fdReleased_holds (hl : s.pins.fdLow = true) (hf : s.concho.field = false) (hg : s.concho.goneAt + ms 50 ≤ s.elapsed)
    (hd : s.concho.fdAt + ms 10 ≤ s.elapsed) : s.fdReleased.pins = { s.pins with fdLow := false } ∧ s.fdReleased.concho = s.concho := by
  rw [State.fdReleased, if_pos ⟨hl, by rw [hf]; rfl, hg, hd⟩]
  exact ⟨rfl, rfl⟩

theorem fdNRelease_releases (hl : s.pins.fdLow = true) (hf : s.concho.field = false) (hg : s.concho.goneAt + ms 50 ≤ (s.advance dt).elapsed)
    (hd : s.concho.fdAt + ms 10 ≤ (s.advance dt).elapsed) : Gives (exec (.fdNRelease dt) s) fun t =>
      t.pins = { (s.advance dt).pins with fdLow := false } ∧ t.concho = s.concho := by
  rw [← State.concho_advance s dt] at hf hg hd ⊢
  rw [exec_fdNRelease_eq, gives_next]
  exact State.fdReleased_holds (by simpa only [State.advance_keeps ..] using hl) hf hg hd

theorem fdNRelease_early (h : (s.advance dt).elapsed < s.concho.fdAt + ms 10) : Gives (exec (.fdNRelease dt) s) fun t => t = s.advance dt := by
  rw [← State.concho_advance s dt] at h
  rw [exec_fdNRelease_eq, gives_next]
  generalize s.advance dt = u at *
  exact if_neg fun hc => absurd hc.2.2.2 (Nat.not_le.mpr h)

/-- The state after a possible end of the lockout. -/
def State.lockoutEnded (s : State) : State :=
  match s.concho.lockedUntil with
  | some t => if t ≤ s.elapsed then s.setCon { s.concho with lockedUntil := none } else s
  | none => s

theorem exec_tagLockoutEnd_eq (dt : Nat) (s : State) : exec (.tagLockoutEnd dt) s = .next (s.advance dt).lockoutEnded := rfl

theorem State.lockoutEnded_holds {a : Nat} (hl : s.concho.lockedUntil = some a) (h : a ≤ s.elapsed) :
    s.lockoutEnded.concho = { s.concho with lockedUntil := none } ∧ s.lockoutEnded.dict = s.dict := by
  rw [State.lockoutEnded, hl]
  dsimp only
  rw [if_pos h]
  exact ⟨rfl, rfl⟩

theorem tagLockoutEnd_ends {a : Nat} (hl : s.concho.lockedUntil = some a) (h : a ≤ (s.advance dt).elapsed) :
    Gives (exec (.tagLockoutEnd dt) s) fun t => t.concho = { s.concho with lockedUntil := none } ∧ t.dict = (s.advance dt).dict := by
  rw [← State.concho_advance s dt] at hl ⊢
  rw [exec_tagLockoutEnd_eq, gives_next]
  exact State.lockoutEnded_holds hl h

theorem tagLockoutEnd_early {a : Nat} (hl : s.concho.lockedUntil = some a) (h : (s.advance dt).elapsed < a) :
    Gives (exec (.tagLockoutEnd dt) s) fun t => t = s.advance dt := by
  rw [← State.concho_advance s dt] at hl
  rw [exec_tagLockoutEnd_eq, gives_next]
  generalize s.advance dt = u at *
  rw [State.lockoutEnded, hl]
  exact if_neg (Nat.not_le.mpr h)

/-! ### Commands of a tag that answers (R524 to R528) -/

theorem not_not_answers (h : s.tagAnswers = true) : ¬ (!s.tagAnswers) = true := by simp [h]

theorem tagReadBinary_shadow {off : BitVec 15} {le : Fin 256} {d : Bytes} (ha : s.tagAnswers = true) (hle : le.val < 255)
    (hf : s.concho.file = 0xE104) (hs : s.concho.shadow = some d) (ho : off.toNat < d.length) : Gives (exec (.tagReadBinary off le) s)
      fun t => t = { s with out := .tag ((d.drop off.toNat).take (le.val + 1)) 0x9000 :: s.out } := by
  have hnow : s.fileNow = (some d, s) := by simp [State.fileNow, hf, hs]
  rw [exec_tagReadBinary, execTagReadBinary, if_neg (not_not_answers ha), if_neg (by omega), hnow, gives_next]
  dsimp only
  rw [if_neg (by omega)]
  rfl

/-- An update of the shadow, in a tag that may be written and within the file: it is stored, and at the start with a length it commits. -/
theorem exec_tagUpdateBinary_shadow {off : BitVec 15} {data d : Bytes} {written : Fin 67} (ha : s.tagAnswers = true) (h0 : 0 < data.length)
    (h255 : data.length ≤ 255) (hst : s.rd Key.tagState = 1) (hf : s.concho.file = 0xE104) (hs : s.concho.shadow = some d)
    (hd : off.toNat + data.length ≤ d.length) : exec (.tagUpdateBinary off data written) s = .next
      (if off.toNat = 0 ∧ 2 ≤ data.length ∧ beNat (slice (splice d off.toNat data) 0 2) ≠ 0 then
        (s.setCon { s.concho with shadow := some (splice d off.toNat data) }).shadowCommit (splice d off.toNat data) written
      else (s.setCon { s.concho with shadow := some (splice d off.toNat data) }).reply 0x9000) := by
  have hnow : s.fileNow = (some d, s) := by simp [State.fileNow, hf, hs]
  rw [exec_tagUpdateBinary, execTagUpdateBinary, if_neg (not_not_answers ha), if_neg (by omega), if_neg (by simp [hst, hf]), hnow]
  dsimp only [Option.getD_some]
  rw [if_neg (by omega)]

theorem Posted.of_tagPost {u : State} (h : u.sb.journal = s.sb.journal) (c : Err) (arg arg2 : Nat) :
    Posted s (u.tagPost c arg arg2) c 0x6001 := Posted.of_post h c 0x6001 arg arg2 conDom

theorem State.mem_edges_tagPost {n : Nat} (h : n ∈ s.buckle.edges) (c : Err) (arg arg2 : Nat) : n ∈ (s.tagPost c arg arg2).buckle.edges :=
  State.mem_edges_post h c 0x6001 arg arg2 conDom

theorem State.dom_tagPost (s : State) (c : Err) (arg arg2 k : Nat) : (s.tagPost c arg arg2).dom k = s.dom k := by
  simp only [State.dom, State.tagPost_keeps ..]

/-- A message that is committed is what `TAG_NDEF` reads; source 27 is raised and the status is posted. -/
theorem State.tagCommit_holds {u : State} (h : u.sb.journal = s.sb.journal) (d : Bytes) : (u.tagCommit d).dom Key.tagNdef = d ∧
    27 ∈ (u.tagCommit d).buckle.edges ∧ Posted s (u.tagCommit d) .tagWritten 0x6001 := by
  unfold State.tagCommit
  extract_lets r
  clear_value r
  refine ⟨(State.dom_tagPost ..).trans (KMap.getD_setD_self ..), State.mem_edges_tagPost ?_ .., Posted.of_tagPost ?_ ..⟩
  · exact List.mem_append_right _ (List.mem_singleton_self 27)
  · exact h

theorem State.shadowCommit_refused {d : Bytes} (h : 4096 < beNat (slice d 0 2)) (n : Nat) : s.shadowCommit d n =
    ((s.setCon { s.concho with shadow := none }).tagPost .tagWriteBad (beNat (slice d 0 2))).reply 0x6A80 := if_pos (.inl h)

theorem State.shadowCommit_commits {d : Bytes} (h : beNat (slice d 0 2) ≤ 4096) (hok : ndefOk (slice d 2 (beNat (slice d 0 2))) = true) :
    s.shadowCommit d 66 = (s.tagCommit (slice d 2 (beNat (slice d 0 2)))).reply 0x9000 := by
  rw [State.shadowCommit]
  dsimp only
  rw [if_neg (by rw [hok]; simpa using h), if_neg (by decide)]

theorem tagUpdateBinary_commits {data d : Bytes} (ha : s.tagAnswers = true) (h2 : 2 ≤ data.length) (h255 : data.length ≤ 255)
    (hst : s.rd Key.tagState = 1) (hf : s.concho.file = 0xE104) (hs : s.concho.shadow = some d) (hd : data.length ≤ d.length)
    (hn : beNat (slice (splice d 0 data) 0 2) ≠ 0) (hm : beNat (slice (splice d 0 data) 0 2) ≤ 4096)
    (hok : ndefOk (slice (splice d 0 data) 2 (beNat (slice (splice d 0 data) 0 2))) = true) :
    Gives (exec (.tagUpdateBinary 0#15 data 66) s) fun t =>
      t.dom Key.tagNdef = slice (splice d 0 data) 2 (beNat (slice (splice d 0 data) 0 2)) ∧
      t.out.head? = some (.tag [] 0x9000) ∧ 27 ∈ t.buckle.edges ∧ Posted s t .tagWritten 0x6001 := by
  have hz : (0#15).toNat = 0 := rfl
  rw [exec_tagUpdateBinary_shadow ha (by omega) h255 hst hf hs (by omega), hz, if_pos ⟨rfl, h2, hn⟩, gives_next]
  rw [show ((66 : Fin 67) : Nat) = 66 from rfl, State.shadowCommit_commits hm hok]
  obtain ⟨hdom, hedge, hpost⟩ := State.tagCommit_holds (s := s) (u := s.setCon { s.concho with shadow := some (splice d 0 data) }) rfl
    (slice (splice d 0 data) 2 (beNat (slice (splice d 0 data) 0 2)))
  exact ⟨hdom, rfl, hedge, hpost.journal_eq rfl⟩

theorem tagUpdateBinary_refused {data d : Bytes} {written : Fin 67} (ha : s.tagAnswers = true) (h2 : 2 ≤ data.length)
    (h255 : data.length ≤ 255) (hst : s.rd Key.tagState = 1) (hf : s.concho.file = 0xE104) (hs : s.concho.shadow = some d)
    (hd : data.length ≤ d.length) (hm : 4096 < beNat (slice (splice d 0 data) 0 2)) :
    Gives (exec (.tagUpdateBinary 0#15 data written) s) fun t => t.dom Key.tagNdef = s.dom Key.tagNdef ∧
      t.concho = { s.concho with shadow := none } ∧ t.out.head? = some (.tag [] 0x6A80) ∧ Posted s t .tagWriteBad 0x6001 := by
  have hz : (0#15).toNat = 0 := rfl
  rw [exec_tagUpdateBinary_shadow ha (by omega) h255 hst hf hs (by omega), hz, if_pos ⟨rfl, h2, by omega⟩, gives_next]
  rw [State.shadowCommit_refused hm]
  generalize beNat (slice (splice d 0 data) 0 2) = len
  have hpost : Posted s _ .tagWriteBad 0x6001 := Posted.of_tagPost (s := s) (u := s.setCon { s.concho with shadow := none }) rfl .tagWriteBad len 0
  change State.dom ((State.setCon s { s.concho with shadow := none }).tagPost .tagWriteBad len) Key.tagNdef = s.dom Key.tagNdef ∧
    ((s.setCon { s.concho with shadow := none }).tagPost .tagWriteBad len).concho = { s.concho with shadow := none } ∧ _
  refine ⟨State.dom_tagPost (s.setCon { s.concho with shadow := none }) .tagWriteBad len 0 Key.tagNdef, ?_, rfl, hpost.journal_eq rfl⟩
  simp only [State.tagPost_keeps ..]
  rfl

/-! ### Authentication (R525, R526) -/

theorem State.authDone_ok (s : State) : (s.authDone true).rd Key.tagState = 1 ∧ (s.authDone true).concho = { s.concho with fails := 0 } ∧
    (s.authDone true).out = .tag [] 0x9000 :: s.out :=
  ⟨(State.rd_emit ..).trans (State.rd_wr_self ..), rfl, rfl⟩

theorem State.authDone_fails (s : State) : (s.authDone false).rd Key.tagState = 0 ∧
    (s.authDone false).rd Key.tagAuthFails = satAdd u32Max (s.rd Key.tagAuthFails) 1 ∧
    (s.authDone false).out = .tag [] 0x6300 :: s.out ∧ (s.authDone false).concho =
      { s.concho with shadow := none, fails := s.concho.fails + 1,
                      lockedUntil := if 4 ≤ s.concho.fails + 1 then some (s.elapsed + ms 60000) else none } := by
  have hopen (u : State) : u.tagOpen.out = u.out ∧ u.tagOpen.elapsed = u.elapsed ∧ u.tagOpen.concho = { u.concho with shadow := none } := by
    refine ⟨?_, ?_, ?_⟩
    · simp only [State.tagOpen, State.setCon_keeps .., State.wr_keeps ..]
    · simp only [State.tagOpen, State.elapsed, State.setCon_keeps .., State.wr_keeps ..]
    · rw [State.tagOpen, State.setCon]
  rw [State.authDone, if_neg Bool.false_ne_true]
  dsimp only
  obtain ⟨hout, hnow, hcon⟩ := hopen (s.bump Key.tagAuthFails)
  refine ⟨?_, ?_, ?_, ?_⟩
  · rw [State.reply, State.rd_emit, State.rd_setCon, State.rd_tagOpen_tagState]
  · rw [State.reply, State.rd_emit, State.rd_setCon, State.rd_tagOpen_ne _ (by decide), State.rd_bump_self]
  · rw [State.reply, State.emit]
    simp only [State.setCon_keeps .., State.bump_keeps .., hout]
  · have hset (u : State) (c : Concho) : ((u.setCon c).reply 0x6300).concho = c := rfl
    rw [hset, hcon, hnow]
    simp only [State.elapsed, State.bump_keeps ..]

theorem not_tagLocked (h : s.concho.lockedUntil = none) : ¬ s.tagLocked = true := by simp [State.tagLocked, h]

theorem exec_tagVerify_unlocked {pw : BitVec 32} (ha : s.tagAnswers = true) (hl : s.concho.lockedUntil = none) (hm : s.rd Key.tagAuth = 1) :
    exec (.tagVerify pw) s = .next (s.authDone (pw.toNat != 0 && pw.toNat == s.rd Key.tagPassword)) := by
  rw [exec_tagVerify, execTagVerify, if_neg (not_not_answers ha), if_neg (not_tagLocked hl), if_neg (not_not.mpr hm)]

/-- An external authentication that has a challenge spends it. -/
theorem exec_tagExternalAuth_challenged {data c : BitVec 128} (ha : s.tagAnswers = true) (hl : s.concho.lockedUntil = none)
    (hm : s.rd Key.tagAuth = 2) (hc : s.concho.challenge = some c) : exec (.tagExternalAuth data) s = .next
      (if (s.setCon { s.concho with challenge := none }).tagSlotOk then
        ((s.setCon { s.concho with challenge := none }).useSlot ((s.setCon { s.concho with challenge := none }).rd Key.tagKeySlot)).authDone
        ((beBytes 16 data.toNat).map (·.toNat) ==
          Crypto.aesEnc (((s.setCon { s.concho with challenge := none }).slot
            ((s.setCon { s.concho with challenge := none }).rd Key.tagKeySlot)).key.map (·.toNat)) ((beBytes 16 c.toNat).map (·.toNat)))
      else (s.setCon { s.concho with challenge := none }).authDone false) := by
  rw [exec_tagExternalAuth, execTagExternalAuth, if_neg (not_not_answers ha), if_neg (not_tagLocked hl), if_neg (not_not.mpr hm), hc]

theorem State.ancestorsOk_setCon (s : State) (c : Concho) (n : Nat) (x : Slot) : (s.setCon c).ancestorsOk n x = s.ancestorsOk n x := by
  induction n generalizing x with
  | zero => rfl
  | succ n ih => simp only [State.ancestorsOk, ih]; rfl

theorem State.tagSlotOk_setCon (s : State) (c : Concho) : (s.setCon c).tagSlotOk = s.tagSlotOk := by
  simp only [State.tagSlotOk, State.slotUsable, State.rd_setCon, State.ancestorsOk_setCon]
  rfl

theorem tagExternalAuth_accepts {data c : BitVec 128} (ha : s.tagAnswers = true) (hl : s.concho.lockedUntil = none)
    (hm : s.rd Key.tagAuth = 2) (hc : s.concho.challenge = some c) (hok : s.tagSlotOk = true)
    (hd : (beBytes 16 data.toNat).map (·.toNat) =
      Crypto.aesEnc ((s.slot (s.rd Key.tagKeySlot)).key.map (·.toNat)) ((beBytes 16 c.toNat).map (·.toNat))) :
    Gives (exec (.tagExternalAuth data) s) fun t => t.concho = { s.concho with challenge := none, fails := 0 } ∧ t.rd Key.tagState = 1 ∧
      t.out.head? = some (.tag [] 0x9000) := by
  have hslot (n : Nat) : (s.setCon { s.concho with challenge := none }).slot n = s.slot n := rfl
  rw [exec_tagExternalAuth_challenged ha hl hm hc, if_pos ((State.tagSlotOk_setCon ..).trans hok), State.rd_setCon, hslot, beq_iff_eq.mpr hd,
    gives_next]
  have hcon : ((s.setCon { s.concho with challenge := none }).useSlot (s.rd Key.tagKeySlot)).concho = { s.concho with challenge := none } := by
    simp only [State.useSlot_keeps ..]
    rfl
  obtain ⟨hst, hc, hout⟩ := ((s.setCon { s.concho with challenge := none }).useSlot (s.rd Key.tagKeySlot)).authDone_ok
  exact ⟨hc.trans (by rw [hcon]), hst, by rw [hout]; rfl⟩

/-- Settles O51: a case for each command of the tag and each end of its sessions. -/
theorem emulatedTag : Obligations.EmulatedTag := by
  unfold Obligations.EmulatedTag
  refine ⟨fun dt s hp hq => extFieldDetect_quiet hp hq, fun dt s hp hr => extFieldDetect_reader hp hr, fun dt s hp => ?_,
    fun a dt s ha ht => tagFieldAbsent_ends ha ht, fun a dt s ha => ?_, fun a dt s ha ht => tagSessionEnd_ends ha ht, fun a dt s ha => ?_,
    fun dt s hl hf hg hd => fdNRelease_releases hl hf hg hd, fun dt s h => fdNRelease_early h, fun file s ha => ?_, fun file s ha => ?_,
    fun off le d s ha hle hf hs ho => tagReadBinary_shadow ha hle hf hs ho, fun off data written d s ha h0 h255 hst hf hs hd ho => ?_,
    fun data d s ha h2 h255 hst hf hs hd hn hm hok => tagUpdateBinary_commits ha h2 h255 hst hf hs hd hn hm hok,
    fun data written d s ha h2 h255 hst hf hs hd hm => tagUpdateBinary_refused ha h2 h255 hst hf hs hd hm,
    fun off data written s ha h0 h255 h => ?_, fun pw s ha hl hm h0 hp => ?_, fun pw s ha hl hm hp => ?_, fun s ha hm => ?_,
    fun data s ha hl hc => ?_, fun data c s ha hl hm hc hno => ?_, fun data c s ha hl hm hc hok hd => tagExternalAuth_accepts ha hl hm hc hok hd,
    fun pw data s ha hl => ?_, fun s ha => ?_, fun s ha => ?_, fun dt a s hl h => tagLockoutEnd_ends hl h,
    fun dt a s hl h => tagLockoutEnd_early hl h⟩
  · rw [exec_extFieldDetect_eq, gives_next]
    exact if_pos ((State.pwr_advance ..).trans hp)
  · rw [exec_tagFieldAbsent_eq, gives_next]
    exact if_pos ha
  · rw [exec_tagSessionEnd_eq, gives_next]
    exact if_pos ha
  · rw [exec_tagSelect, execTagSelect, if_neg (not_not_answers ha), gives_next]
    exact ⟨rfl, rfl⟩
  · rw [exec_tagSelect, execTagSelect, if_neg (not_not_answers ha), gives_next]
    dsimp only
    split <;> exact ⟨rfl, rfl⟩
  · rw [exec_tagUpdateBinary_shadow ha h0 h255 hst hf hs hd, if_neg (fun h => ho h.1), gives_next]
    exact ⟨rfl, rfl, rfl⟩
  · rw [exec_tagUpdateBinary, execTagUpdateBinary, if_neg (not_not_answers ha), if_neg (by omega), if_pos h, gives_next]
    rfl
  · rw [exec_tagVerify_unlocked ha hl hm, show (pw.toNat != 0 && pw.toNat == s.rd Key.tagPassword) = true by simpa [hp] using h0, gives_next]
    obtain ⟨hst, hcon, hout⟩ := s.authDone_ok
    exact ⟨hst, by rw [hcon], hout⟩
  · have hno : (pw.toNat != 0 && pw.toNat == s.rd Key.tagPassword) = false := by
      rcases hp with h | h <;> simp [h]
    rw [exec_tagVerify_unlocked ha hl hm, hno, gives_next]
    obtain ⟨hst, hcount, hout, hcon⟩ := s.authDone_fails
    exact ⟨hst, by rw [hcon], hcount, hout, by rw [hcon]⟩
  · rw [exec_tagGetChallenge, execTagGetChallenge, if_neg (not_not_answers ha), if_neg (not_not.mpr hm), gives_next]
    exact ⟨s.draw 128, rfl, rfl⟩
  · rw [exec_tagExternalAuth, execTagExternalAuth, if_neg (not_not_answers ha), if_neg (not_tagLocked hl), hc, gives_next]
    exact ite_self _
  · rw [exec_tagExternalAuth_challenged ha hl hm hc, if_neg (by rw [State.tagSlotOk_setCon, hno]; decide), gives_next]
    obtain ⟨hst, -, hout, hcon⟩ := (s.setCon { s.concho with challenge := none }).authDone_fails
    exact ⟨by rw [hcon]; rfl, hst, by rw [hcon]; rfl, hout⟩
  · have hlocked : s.tagLocked = true := Option.isSome_iff_ne_none.mpr hl
    rw [exec_tagVerify, execTagVerify, exec_tagExternalAuth, execTagExternalAuth, if_neg (not_not_answers ha), if_neg (not_not_answers ha),
      if_pos hlocked, if_pos hlocked]
    exact ⟨gives_next.mpr rfl, gives_next.mpr rfl⟩
  · rw [exec_tagUnknownIns, execTagUnknownIns, if_pos ha, gives_next]
    rfl
  · rw [exec_tagDeselect, execTagDeselect, if_pos ha, gives_next]
    exact ⟨State.rd_tagOpen_tagState s, rfl⟩

end Sys2Proof.Machine
end

section
/-! ## O50: the contactless reader listens, polls, reads and ends its cycle (R512 to R522, R532) -/

namespace Sys2Proof.Machine

variable {s : State} {dt : Nat}

/-! ### A cycle begins (R512, R513) -/

/-- The state after a cycle may have fallen due. -/
def State.cycleDue (s : State) : State :=
  if !s.flag Key.conReader || decide (s.pwr < 3) then s
  else match s.concho.antenna with
    | .listening => s
    | .quiet => if s.concho.due || s.cycleTime then s.cycleListen else s
    | .reader | .tag => if s.cycleTime then s.setCon { s.concho with due := true } else s

theorem exec_readerCycleDue_eq (dt : Nat) (s : State) : exec (.readerCycleDue dt) s = .next (s.advance dt).cycleDue := rfl

theorem State.cycleDue_listens (hf : s.flag Key.conReader = true) (hp : 3 ≤ s.pwr) (hq : s.concho.antenna = .quiet)
    (hd : s.concho.due = true ∨ s.cycleTime = true) :
    s.cycleDue.concho = { s.concho with antenna := .listening, due := false, listenAt := s.elapsed } := by
  have hdue : (s.concho.due || s.cycleTime) = true := by simpa using hd
  rw [State.cycleDue, if_neg (by simp [hf, hp]), hq]
  dsimp only
  rw [if_pos hdue]
  rfl

/-! ### Tags found in the cycle (R515 to R517, R521, R522) -/

theorem State.canPoll_iff {p : TagProto} {uid : Bytes} : s.canPoll p uid = true ↔ s.concho.antenna = .reader ∧
    s.concho.onAt + guardCycles ≤ s.elapsed ∧ s.protoOn p = true ∧ uidOk p uid = true ∧ s.concho.polling ≤ protoNum p ∧ s.concho.read < 64 := by
  simp only [State.canPoll, Bool.and_eq_true, decide_eq_true_eq, beq_iff_eq, and_assoc]

/-- The cycle once it polls a protocol. -/
def State.polls (s : State) (p : TagProto) : State := s.setCon { s.concho with polling := protoNum p }

theorem State.tagFound_listed {x : TagSeen} (hp : s.canPoll x.proto x.uid = true)
    (hc : s.concho.presence.contains (protoNum x.proto, x.uid) = true) : (s.tagFound x).concho =
      { s.concho with polling := protoNum x.proto, seen := s.concho.seen ++ [(protoNum x.proto, x.uid)] } ∧
    (s.tagFound x).dict = s.dict ∧ (s.tagFound x).out = .reader .halt :: s.out := by
  unfold State.tagFound
  rw [if_neg (by simp [hp])]
  change (if s.concho.presence.contains (protoNum x.proto, x.uid) then _ else _ : State).concho = _ ∧
    (if s.concho.presence.contains (protoNum x.proto, x.uid) then _ else _ : State).dict = _ ∧
    (if s.concho.presence.contains (protoNum x.proto, x.uid) then _ else _ : State).out = _
  simp only [if_pos hc]
  exact ⟨rfl, rfl, rfl⟩

/-- A status adds one record to the journal, whatever data goes with it. -/
theorem State.journal_logErr (s : State) (e : ErrEntry) (x : Bytes) : (s.logErr e x).sb.journal = (s.journalAdd (.err e)).sb.journal := by
  unfold State.logErr
  simp only
  split_ifs <;> simp only [State.strapPush_keeps .., State.raise_keeps .., State.bump_keeps ..] <;>
    exact State.journal_journalAdd_congr (by rfl) _

theorem Posted.of_logErr {u : State} (h : u.sb.journal = s.sb.journal) {c : Err} {src : Nat} {e : ErrEntry} (hc : e.code = c.code)
    (hs : e.source = src) (x : Bytes) : Posted s (u.logErr e x) c src :=
  ⟨e, hc, hs, (State.journal_logErr u e x).trans (State.journal_journalAdd_congr h _)⟩

theorem Posted.of_tagRecord {u : State} (h : u.sb.journal = s.sb.journal) (p : TagProto) (uid : Bytes) (kind status : Nat) (data : Bytes) :
    Posted s (u.tagRecord p uid kind status data) .conTagRead 0x6000 := by
  unfold State.tagRecord State.postSev
  exact Posted.of_logErr h rfl rfl _

theorem Concho.remember_presence {c : Concho} (h : c.presence.length < 256) (t : Nat × Bytes) : (c.remember t).presence = c.presence ++ [t] := by
  rw [Concho.remember, if_neg (by omega)]

theorem State.concho_tagRecord (s : State) (p : TagProto) (uid : Bytes) (kind status : Nat) (data : Bytes) :
    (s.tagRecord p uid kind status data).concho = s.concho := by simp only [State.tagRecord_keeps ..]

/-- A tag that is new is read: it is remembered, reported, and let go. -/
theorem State.tagFound_new {x : TagSeen} (hp : s.canPoll x.proto x.uid = true)
    (hc : s.concho.presence.contains (protoNum x.proto, x.uid) = false) : (s.tagFound x).concho =
      ({ s.concho with polling := protoNum x.proto } : Concho).remember (protoNum x.proto, x.uid) ∧
    Posted s (s.tagFound x) .conTagRead 0x6000 ∧
    (s.tagFound x).out.head? = some (.reader (if readsIsoDep x then .deselect else .halt)) := by
  have hfound : s.tagFound x = (((s.polls x.proto).tagRecord x.proto x.uid (tagResult x).1 (tagResult x).2.1 (tagResult x).2.2).setCon
      (({ s.concho with polling := protoNum x.proto } : Concho).remember (protoNum x.proto, x.uid))).readerSend
        (if readsIsoDep x then .deselect else .halt) := by
    unfold State.tagFound
    rw [if_neg (by simp [hp])]
    exact if_neg (by simpa [State.setCon] using hc)
  rw [hfound]
  exact ⟨rfl, (Posted.of_tagRecord (u := s.polls x.proto) rfl x.proto x.uid _ _ _).journal_eq rfl, rfl⟩

/-- The cycle whose field goes on. -/
def State.fieldOn (s : State) : State :=
  s.setCon { s.concho with antenna := .reader, cycleAt := some s.concho.listenAt, onAt := s.elapsed, seen := [], read := 0, polling := 0,
                           found := false, exchange := none }

/-- The state after the listening may have ended. -/
def State.listenEnded (s : State) (tags : List TagSeen) (run : Nat) : State :=
  if s.concho.antenna = .listening ∧ s.concho.listenAt + ms 1 ≤ s.elapsed then (s.fieldOn.advance run).each tags State.tagFound else s

theorem exec_readerListenEnd_eq (tags : List TagSeen) (run dt : Nat) (s : State) :
    exec (.readerListenEnd tags run dt) s = .next ((s.advance dt).listenEnded tags run) := rfl

theorem State.elapsed_fieldOn_advance (s : State) (run : Nat) : (s.fieldOn.advance run).elapsed = (s.advance run).elapsed := by
  simp only [State.elapsed, State.clock_advance]
  rfl

theorem State.rd_advance (s : State) (dt k : Nat) : (s.advance dt).rd k = s.rd k := by simp only [State.rd, State.advance_keeps ..]

/-- What the cycle finds when it polls: its field is on, and nothing has been read. -/
theorem State.canPoll_fieldOn {run : Nat} {p : TagProto} {uid : Bytes} (hp : s.protoOn p = true) (hu : uidOk p uid = true)
    (hg : s.elapsed + guardCycles ≤ (s.advance run).elapsed) : (s.fieldOn.advance run).canPoll p uid = true := by
  have hproto : (s.fieldOn.advance run).protoOn p = s.protoOn p := by
    rw [State.protoOn, State.rd_advance, State.fieldOn, State.rd_setCon, State.protoOn]
  rw [State.canPoll_iff, State.concho_advance, State.elapsed_fieldOn_advance, hproto]
  exact ⟨rfl, hg, hp, hu, Nat.zero_le _, (by decide : 0 < 64)⟩

theorem State.journal_advance (s : State) (dt : Nat) : (s.advance dt).sb.journal = s.sb.journal := by simp only [State.advance_keeps ..]

/-- What the cycle leaves of a new tag, with the cycle's front end and journal those of `s` with its field on. -/
theorem State.fieldOn_reads {u : State} {x : TagSeen} (hcon : u.concho = s.fieldOn.concho) (hj : u.sb.journal = s.sb.journal)
    (hp : u.canPoll x.proto x.uid = true) (hc : s.concho.presence.contains (protoNum x.proto, x.uid) = false)
    (hn : s.concho.presence.length < 256) : (u.tagFound x).concho.antenna = .reader ∧
    (u.tagFound x).concho.presence = s.concho.presence ++ [(protoNum x.proto, x.uid)] ∧ (u.tagFound x).concho.read = 1 ∧
    Posted s (u.tagFound x) .conTagRead 0x6000 ∧
    (u.tagFound x).out.head? = some (.reader (if readsIsoDep x then .deselect else .halt)) := by
  obtain ⟨hfound, ⟨e, he1, he2, he⟩, hout⟩ := State.tagFound_new hp (by rw [hcon]; exact hc)
  rw [hcon] at hfound
  refine ⟨by rw [hfound]; rfl, ?_, by rw [hfound]; rfl, ⟨e, he1, he2, ?_⟩, hout⟩
  · exact (congrArg Concho.presence hfound).trans (Concho.remember_presence hn _)
  · exact he.trans (State.journal_journalAdd_congr hj _)

theorem State.each_one {α : Type} (s : State) (x : α) (f : State → α → State) : s.each [x] f = f s x := rfl

theorem State.listenEnded_reads {x : TagSeen} {run : Nat} (hl : s.concho.antenna = .listening) (hat : s.concho.listenAt + ms 1 ≤ s.elapsed)
    (hp : s.protoOn x.proto = true) (hu : uidOk x.proto x.uid = true) (hg : s.elapsed + guardCycles ≤ (s.advance run).elapsed)
    (hc : s.concho.presence.contains (protoNum x.proto, x.uid) = false) (hn : s.concho.presence.length < 256) :
    (s.listenEnded [x] run).concho.antenna = .reader ∧
    (s.listenEnded [x] run).concho.presence = s.concho.presence ++ [(protoNum x.proto, x.uid)] ∧ (s.listenEnded [x] run).concho.read = 1 ∧
    Posted s (s.listenEnded [x] run) .conTagRead 0x6000 ∧
    (s.listenEnded [x] run).out.head? = some (.reader (if readsIsoDep x then .deselect else .halt)) := by
  rw [State.listenEnded, if_pos ⟨hl, hat⟩, State.each_one]
  exact State.fieldOn_reads (State.concho_advance ..) (State.journal_advance ..) (State.canPoll_fieldOn hp hu hg) hc hn

theorem State.fieldOn_halts {u : State} {x : TagSeen} (hcon : u.concho = s.fieldOn.concho) (hd : u.dict = s.dict) (ho : u.out = s.out)
    (hp : u.canPoll x.proto x.uid = true) (hc : s.concho.presence.contains (protoNum x.proto, x.uid) = true) :
    (u.tagFound x).concho.presence = s.concho.presence ∧ (u.tagFound x).concho.seen = [(protoNum x.proto, x.uid)] ∧
    (u.tagFound x).concho.read = 0 ∧ (u.tagFound x).dict = s.dict ∧ (u.tagFound x).out = .reader .halt :: s.out := by
  obtain ⟨hfound, hdict, hout⟩ := State.tagFound_listed hp (by rw [hcon]; exact hc)
  rw [hfound, hcon, hdict, hout, hd, ho]
  exact ⟨rfl, rfl, rfl, rfl, rfl⟩

theorem State.listenEnded_halts {x : TagSeen} {run : Nat} (hl : s.concho.antenna = .listening) (hat : s.concho.listenAt + ms 1 ≤ s.elapsed)
    (hp : s.protoOn x.proto = true) (hu : uidOk x.proto x.uid = true) (hg : s.elapsed + guardCycles ≤ (s.advance run).elapsed)
    (hc : s.concho.presence.contains (protoNum x.proto, x.uid) = true) :
    (s.listenEnded [x] run).concho.presence = s.concho.presence ∧ (s.listenEnded [x] run).concho.seen = [(protoNum x.proto, x.uid)] ∧
    (s.listenEnded [x] run).concho.read = 0 ∧ (s.listenEnded [x] run).dict = s.dict ∧
    (s.listenEnded [x] run).out = .reader .halt :: s.out := by
  have hdict : (s.fieldOn.advance run).dict = s.fieldOn.dict := by simp only [State.advance_keeps ..]
  have hout : (s.fieldOn.advance run).out = s.fieldOn.out := by simp only [State.advance_keeps ..]
  rw [State.listenEnded, if_pos ⟨hl, hat⟩, State.each_one]
  exact State.fieldOn_halts (State.concho_advance ..) hdict hout (State.canPoll_fieldOn hp hu hg) hc

theorem State.listenEnded_none {run : Nat} (hl : s.concho.antenna = .listening) (hat : s.concho.listenAt + ms 1 ≤ s.elapsed) :
    (s.listenEnded [] run).concho = s.fieldOn.concho := by
  rw [State.listenEnded, if_pos ⟨hl, hat⟩]
  exact State.concho_advance ..

/-! ### Waiting for a tag (R519, R520) -/

/-- The exchange of the wait after so many cycles is the one before. -/
theorem State.exchangeOf_advance (s : State) (dt : Nat) (w : TagWait) (t0 : Nat) : (s.advance dt).exchangeOf w t0 = s.exchangeOf w t0 := by
  unfold State.exchangeOf
  rw [State.concho_advance]

/-- The state after a wait's time may have passed. -/
def State.waitOver (s : State) (w : TagWait) (e : TagExchange) : State :=
  if !s.waitsFor w ∨ s.elapsed < e.waitUntil then s
  else if e.naks < 2 then
    (s.setCon { s.concho with exchange := some { e with naks := e.naks + 1, waitUntil := s.elapsed + linkWait w.link } }).readerSend .nak
  else s.giveUp w 4

theorem exec_fwtTimeout_eq (w : TagWait) (dt : Nat) (s : State) :
    exec (.fwtTimeout w dt) s = .next ((s.advance dt).waitOver w ((s.advance dt).exchangeOf w s.elapsed)) := rfl

/-- The state after a tag asked for a longer wait. -/
def State.waitAsked (s : State) (w : TagWait) (m : Fin 59) (e : TagExchange) : State :=
  match w.link with
  | .isoDep f =>
    if !s.waitsFor w ∨ e.waitUntil < s.elapsed then s
    else if e.granted < s.rd Key.conWtxCap then
      let wait := min wtxMax (fwtCycles f * (m + 1))
      (s.setCon { s.concho with exchange := some { e with granted := e.granted + 1, waitUntil := s.elapsed + wait } }).readerSend (.wtx (m + 1))
    else s.giveUp w 3
  | .type2 | .vicinity => s

theorem exec_wtxRequest_eq (w : TagWait) (m : Fin 59) (dt : Nat) (s : State) :
    exec (.wtxRequest w m dt) s = .next ((s.advance dt).waitAsked w m ((s.advance dt).exchangeOf w s.elapsed)) := rfl

/-- A tag that is given up on is remembered and reported. -/
theorem State.giveUp_holds (s : State) (w : TagWait) (status : Nat) : (s.giveUp w status).concho =
      { s.concho.remember (protoNum w.proto, w.uid) with polling := protoNum w.proto, exchange := none } ∧
    Posted s (s.giveUp w status) .conTagRead 0x6000 := by
  unfold State.giveUp
  extract_lets key sent u
  have hcon : u.concho = s.concho := State.concho_tagRecord ..
  refine ⟨?_, (Posted.of_tagRecord (s := s) (u := sent) rfl w.proto w.uid (linkKind w.link) status []).journal_eq rfl⟩
  change ({ u.concho.remember key with polling := protoNum w.proto, exchange := none } : Concho) = _
  rw [hcon]

theorem State.waitOver_naks {w : TagWait} {e : TagExchange} (hw : s.waitsFor w = true) (he : e.waitUntil ≤ s.elapsed) (hn : e.naks < 2) :
    (s.waitOver w e).out = .reader .nak :: s.out ∧ (s.waitOver w e).concho =
      { s.concho with exchange := some { e with naks := e.naks + 1, waitUntil := s.elapsed + linkWait w.link } } := by
  rw [State.waitOver, if_neg (by simp [hw, he]), if_pos hn]
  exact ⟨rfl, rfl⟩

theorem State.waitOver_givesUp {w : TagWait} {e : TagExchange} (hw : s.waitsFor w = true) (he : e.waitUntil ≤ s.elapsed) (hn : 2 ≤ e.naks) :
    s.waitOver w e = s.giveUp w 4 := by
  rw [State.waitOver, if_neg (by simp [hw, he]), if_neg (by omega)]

theorem State.waitOver_other {w : TagWait} {e : TagExchange} (hw : s.waitsFor w = false) : s.waitOver w e = s := if_pos (.inl (by simp [hw]))

/-- The exchange once it has a longer wait. -/
def TagExchange.extended (e : TagExchange) (now : Nat) (f : Fin 16) (m : Fin 59) : TagExchange :=
  { e with granted := e.granted + 1, waitUntil := now + min wtxMax (fwtCycles f * (m + 1)) }

theorem State.waitAsked_grants {w : TagWait} {e : TagExchange} {f : Fin 16} {m : Fin 59} (hl : w.link = .isoDep f) (hw : s.waitsFor w = true)
    (he : s.elapsed ≤ e.waitUntil) (hg : e.granted < s.rd Key.conWtxCap) : (s.waitAsked w m e).out = .reader (.wtx (m + 1)) :: s.out ∧
      (s.waitAsked w m e).concho = { s.concho with exchange := some (e.extended s.elapsed f m) } := by
  rw [State.waitAsked, hl]
  dsimp only
  rw [if_neg (by simp [hw, he]), if_pos hg]
  exact ⟨rfl, rfl⟩

theorem State.waitAsked_givesUp {w : TagWait} {e : TagExchange} {f : Fin 16} {m : Fin 59} (hl : w.link = .isoDep f) (hw : s.waitsFor w = true)
    (he : s.elapsed ≤ e.waitUntil) (hg : s.rd Key.conWtxCap ≤ e.granted) : s.waitAsked w m e = s.giveUp w 3 := by
  rw [State.waitAsked, hl]
  dsimp only
  rw [if_neg (by simp [hw, he]), if_neg (by omega)]

theorem State.waitAsked_other {w : TagWait} {e : TagExchange} {m : Fin 59} (hl : ∀ f, w.link ≠ .isoDep f) :
    s.waitAsked w m e = s := by
  unfold State.waitAsked
  split
  next f hf => exact absurd hf (hl f)
  next => rfl
  next => rfl

/-! ### A cycle ends (R516, R517, R521) -/

/-- The front end of a cycle that ends with the presence list `left`. -/
def Concho.cycleOver (c : Concho) (left : List (Nat × Bytes)) : Concho :=
  { c with presence := left, found := !c.seen.isEmpty, refNext := c.refNext || c.seen.isEmpty,
           seen := [], read := 0, polling := 0, exchange := none }

/-- The state whose cycle ends: a full tray is posted. -/
def State.cycleOver (s : State) : State :=
  let t := if decide (64 ≤ s.concho.read) then s.conPost .conTrayFull s.concho.read else s
  (t.setCon (s.concho.cycleOver (presenceLeft s.polledOut s.concho.seen s.concho.presence))).raise 27

/-- The state after a cycle may have ended. -/
def State.cycleEnded (s : State) (tags : List TagSeen) : State :=
  if s.concho.antenna ≠ .reader ∨ s.elapsed < s.concho.onAt + guardCycles then s
  else (s.each tags State.tagFound).cycleOver.antennaFree

theorem exec_readerCycleEnd_eq (tags : List TagSeen) (dt : Nat) (s : State) :
    exec (.readerCycleEnd tags dt) s = .next ((s.advance dt).cycleEnded tags) := rfl

theorem State.cycleEnded_none (ha : s.concho.antenna = .reader) (hg : s.concho.onAt + guardCycles ≤ s.elapsed) :
    s.cycleEnded [] = s.cycleOver.antennaFree := by
  rw [State.cycleEnded, if_neg (by simp [ha, hg])]
  rfl

theorem State.polledOut_advance (s : State) (dt : Nat) : (s.advance dt).polledOut = s.polledOut := by
  unfold State.polledOut State.protoOn
  rw [State.concho_advance, State.rd_advance]

/-- A cycle that ends raises source 27, and no other where the tray is not full. -/
theorem State.cycleOver_holds (s : State) : s.cycleOver.concho =
      s.concho.cycleOver (presenceLeft s.polledOut s.concho.seen s.concho.presence) ∧
    (s.concho.read < 64 → (∀ k, s.cycleOver.rd k = s.rd k) ∧ s.cycleOver.buckle.edges = s.buckle.edges ++ [27]) ∧
    (64 ≤ s.concho.read → Posted s s.cycleOver .conTrayFull 0x6000) := by
  unfold State.cycleOver
  refine ⟨rfl, fun hr => ?_, fun hr => ?_⟩
  · rw [decide_eq_false (Nat.not_le.mpr hr)]
    exact ⟨fun k => (State.rd_raise ..).trans (State.rd_setCon ..), rfl⟩
  · rw [decide_eq_true hr]
    exact (Posted.of_post rfl .conTrayFull 0x6000 s.concho.read 0 conDom).journal_eq rfl

/-- A field that waited for the cycle's end is sensed. -/
theorem State.antennaFree_field (h : s.concho.field = true) : s.antennaFree = (s.setCon { s.concho with antenna := .quiet }).fieldSensed :=
  if_pos h

theorem State.journal_antennaFree_fieldless (h : s.concho.field = false) : s.antennaFree.sb.journal = s.sb.journal := by
  unfold State.antennaFree
  extract_lets c u
  rw [if_neg (show ¬ u.concho.field = true from (Bool.eq_false_iff.mp h))]
  split <;> rfl

theorem State.cycleEnded_quiet (ha : s.concho.antenna = .reader) (hg : s.concho.onAt + guardCycles ≤ s.elapsed) (hf : s.concho.field = false) :
    (s.cycleEnded []).concho.read = 0 ∧ (s.cycleEnded []).concho.seen = [] ∧
    (s.cycleEnded []).concho.presence = presenceLeft s.polledOut s.concho.seen s.concho.presence ∧
    (s.concho.read < 64 → (s.cycleEnded []).concho.antenna =
      (if s.concho.due && s.flag Key.conReader && decide (3 ≤ s.pwr) then .listening else .quiet) ∧
      (s.cycleEnded []).buckle.edges = s.buckle.edges ++ [27]) ∧
    (64 ≤ s.concho.read → Posted s (s.cycleEnded []) .conTrayFull 0x6000) := by
  obtain ⟨hover, hroom, hfull⟩ := s.cycleOver_holds
  have hfield : s.cycleOver.concho.field = false := by rw [hover]; exact hf
  obtain ⟨-, hb, hant, due, at', hc⟩ := State.antennaFree_fieldless hfield
  rw [State.cycleEnded_none ha hg]
  refine ⟨by rw [hc, hover]; rfl, by rw [hc, hover]; rfl, by rw [hc, hover]; rfl, fun hr => ?_, fun hr => ?_⟩
  · obtain ⟨hrd, he⟩ := hroom hr
    have hdue : s.cycleOver.concho.due = s.concho.due := by rw [hover]; rfl
    have hflag : s.cycleOver.flag Key.conReader = s.flag Key.conReader := congrArg (· != 0) (hrd _)
    have hpwr : s.cycleOver.pwr = s.pwr := hrd Key.pwrState
    refine ⟨hant.trans (by rw [hdue, hflag, hpwr]), ?_⟩
    rw [hb, he]
  · exact (hfull hr).journal_eq (State.journal_antennaFree_fieldless hfield)

theorem State.cycleEnded_serves (ha : s.concho.antenna = .reader) (hg : s.concho.onAt + guardCycles ≤ s.elapsed) (hf : s.concho.field = true)
    (hr : s.concho.read < 64) : (s.cycleEnded []).concho.antenna = .tag ∧ (s.cycleEnded []).rd Key.tagState = 0 ∧
      (s.cycleEnded []).buckle.edges = s.buckle.edges ++ [27, 26] := by
  obtain ⟨hover, hroom, -⟩ := s.cycleOver_holds
  rw [State.cycleEnded_none ha hg, State.antennaFree_field (by rw [hover]; exact hf)]
  obtain ⟨hopen, ⟨uid, hc⟩, -, -, he⟩ := (s.cycleOver.setCon { s.cycleOver.concho with antenna := .quiet }).fieldSensed_holds
  refine ⟨by rw [hc]; rfl, hopen, he.trans ?_⟩
  change s.cycleOver.buckle.edges ++ [26] = _
  rw [(hroom hr).2, List.append_assoc]
  rfl

/-! ### Card detection (R514) -/

/-- The measurement is one that is made: it is on, the device runs, the antenna is quiet, and the interval is over. -/
def State.Measures (s : State) : Prop :=
  s.flag Key.conLpcd = true ∧ 2 ≤ s.pwr ∧ s.concho.antenna = .quiet ∧ s.concho.measuredAt = none

/-- A card was detected: source 26 is raised, and the reader is woken. -/
def State.cardSeen (s : State) : State := if (s.raise 26).flag Key.conReader then (s.raise 26).wake else s.raise 26

/-- The state after a measurement of the antenna. -/
def State.measured (s : State) (amp : Nat) (phase : Int) : State :=
  let c := s.concho
  let early := match c.measuredAt with
    | some t => decide (s.elapsed < t + ms (s.rd Key.conLpcdMs))
    | none => false
  if !s.flag Key.conLpcd || decide (s.pwr < 2) || c.antenna != .quiet || early then s
  else
    let c := { c with measuredAt := some s.elapsed }
    match c.reference, c.refNext with
    | some r, false =>
      if lpcdHit r amp phase then (s.setCon { c with due := c.due || s.flag Key.conReader }).cardSeen
      else s.setCon { c with reference := some (lpcdMove r amp phase) }
    | _, _ => s.setCon { c with reference := some (amp, phase), refNext := false }

theorem exec_lpcdMeasure_eq (amp : Nat) (phase : Int) (dt : Nat) (s : State) :
    exec (.lpcdMeasure amp phase dt) s = .next ((s.advance dt).measured amp phase) := rfl

theorem State.Measures.guard (h : s.Measures) : (!s.flag Key.conLpcd || decide (s.pwr < 2) || s.concho.antenna != .quiet ||
    (match s.concho.measuredAt with
      | some t => decide (s.elapsed < t + ms (s.rd Key.conLpcdMs))
      | none => false)) = false := by
  obtain ⟨hf, hp, hq, hm⟩ := h
  rw [hf, hq, hm, decide_eq_false (Nat.not_lt.mpr hp)]
  rfl

theorem State.measured_first {amp : Nat} {phase : Int} (h : s.Measures) (hr : s.concho.reference = none) :
    (s.measured amp phase).concho.reference = some (amp, phase) ∧ (s.measured amp phase).concho.measuredAt = some s.elapsed ∧
    (s.measured amp phase).concho.due = s.concho.due := by
  unfold State.measured
  extract_lets c early d
  have hd : d.reference = none := hr
  rw [if_neg (Bool.eq_false_iff.mp h.guard), hd]
  exact ⟨rfl, rfl, rfl⟩

theorem lpcdHit_of_differs {ref : Nat × Int} {amp : Nat} {phase : Int}
    (h : 103 * ref.1 < 100 * amp ∨ 100 * amp < 97 * ref.1 ∨ 200 < phase - ref.2 ∨ 200 < ref.2 - phase) : lpcdHit ref amp phase = true := by
  rw [lpcdHit, absDiff, Bool.or_eq_true, decide_eq_true_eq, decide_eq_true_eq]
  rcases h with h | h | h | h
  · exact .inl (by omega)
  · exact .inl (by omega)
  · exact .inr (by omega)
  · exact .inr (by omega)

theorem State.wake_awake (h : 2 < s.pwr) : s.wake = s := if_neg (by omega)

theorem State.cardSeen_awake (h : 2 < s.pwr) : s.cardSeen = s.raise 26 := by
  have hp : 2 < (s.raise 26).pwr := h
  rw [State.cardSeen, State.wake_awake hp, ite_self]

theorem State.measured_hits {amp : Nat} {phase : Int} {ref : Nat × Int} (h : s.Measures) (hf : s.flag Key.conReader = true)
    (hr : s.concho.reference = some ref) (hn : s.concho.refNext = false) (hp : 2 < s.pwr) (hit : lpcdHit ref amp phase = true) :
    (s.measured amp phase).concho.due = true ∧ (s.measured amp phase).concho.reference = some ref ∧
    (s.measured amp phase).buckle.edges = s.buckle.edges ++ [26] := by
  unfold State.measured
  extract_lets c early d
  have hd : d.reference = some ref := hr
  have hdn : d.refNext = false := hn
  rw [if_neg (Bool.eq_false_iff.mp h.guard), hd, hdn]
  dsimp only
  rw [if_pos hit]
  rw [State.cardSeen_awake (by exact hp)]
  exact ⟨by change (d.due || s.flag Key.conReader) = true; rw [hf, Bool.or_true], rfl, rfl⟩

theorem State.measured_other {amp : Nat} {phase : Int} (h : s.concho.antenna ≠ .quiet) : s.measured amp phase = s := by
  unfold State.measured
  extract_lets c early d
  exact if_pos (by simp [c, h])

/-- Settles O50: a case for each command of the reader. -/
theorem readerCycles : Obligations.ReaderCycles := by
  unfold Obligations.ReaderCycles
  refine ⟨fun dt s hf hp hq hd => ?_, fun dt s hf => ?_, fun run dt s hl hat => ?_, fun x run dt s hl hat hp hu hg hc hn => ?_,
    fun x run dt s hl hat hp hu hg hc => ?_, fun tags run dt s hl => ?_, fun w dt s hw he hn => ?_, fun w dt s hw he hn hlen => ?_,
    fun w dt s hw => ?_, fun w f m dt s hl hw he hg => ?_, fun w f m dt s hl hw he hg => ?_, fun w m dt s hl => ?_,
    fun dt s ha hg hf hr => ?_, fun dt s ha hg hf hr => ?_, fun dt s ha hg hf hr => ?_, fun tags dt s ha => ?_,
    fun amp phase dt s hf hp hq hm hr => ?_, fun amp phase ref dt s hf hfr hq hm hr hn hp hit => ?_, fun amp phase dt s ha => ?_⟩
  · rw [exec_readerCycleDue_eq, gives_next, ← State.concho_advance s dt]
    rw [← State.flag_advance s dt] at hf
    rw [← State.pwr_advance s dt] at hp
    rw [← State.concho_advance s dt] at hq hd
    exact State.cycleDue_listens hf hp hq hd
  · rw [exec_readerCycleDue_eq, gives_next]
    exact if_pos (by rw [State.flag_advance, hf]; rfl)
  · rw [exec_readerListenEnd_eq, gives_next]
    rw [← State.concho_advance s dt] at hl hat ⊢
    rw [State.listenEnded_none hl hat]
    exact ⟨rfl, rfl, rfl, rfl, rfl, rfl⟩
  · rw [exec_readerListenEnd_eq, gives_next]
    rw [State.protoOn, ← State.rd_advance s dt] at hp
    rw [← State.concho_advance s dt] at hl hat hc hn ⊢
    exact State.listenEnded_reads hl hat hp hu hg hc hn
  · rw [exec_readerListenEnd_eq, gives_next]
    rw [State.protoOn, ← State.rd_advance s dt] at hp
    rw [← State.concho_advance s dt] at hl hat hc ⊢
    rw [show s.dict = (s.advance dt).dict by simp only [State.advance_keeps ..], show s.out = (s.advance dt).out by simp only [State.advance_keeps ..]]
    exact State.listenEnded_halts hl hat hp hu hg hc
  · rw [exec_readerListenEnd_eq, gives_next]
    rw [← State.concho_advance s dt] at hl
    exact if_neg fun h => hl h.1
  · rw [exec_fwtTimeout_eq, State.exchangeOf_advance, gives_next, ← State.concho_advance s dt,
      show s.out = (s.advance dt).out by simp only [State.advance_keeps ..]]
    exact State.waitOver_naks hw he hn
  · obtain ⟨hcon, hpost⟩ := (s.advance dt).giveUp_holds w 4
    rw [exec_fwtTimeout_eq, State.exchangeOf_advance, State.waitOver_givesUp hw he hn, gives_next, hcon]
    rw [← State.concho_advance s dt] at hlen ⊢
    exact ⟨rfl, Concho.remember_presence hlen _, hpost⟩
  · rw [exec_fwtTimeout_eq, State.waitOver_other hw, gives_next]
  · rw [exec_wtxRequest_eq, State.exchangeOf_advance, gives_next, ← State.concho_advance s dt,
      show s.out = (s.advance dt).out by simp only [State.advance_keeps ..]]
    exact State.waitAsked_grants hl hw he (by rwa [State.rd_advance])
  · obtain ⟨hcon, hpost⟩ := (s.advance dt).giveUp_holds w 3
    rw [exec_wtxRequest_eq, State.exchangeOf_advance, State.waitAsked_givesUp hl hw he (by rwa [State.rd_advance]), gives_next, hcon]
    exact ⟨rfl, hpost⟩
  · rw [exec_wtxRequest_eq, State.waitAsked_other hl, gives_next]
  · rw [exec_readerCycleEnd_eq, gives_next]
    rw [← State.concho_advance s dt] at ha hg hf hr ⊢
    rw [← State.flag_advance s dt, ← State.pwr_advance s dt, ← State.polledOut_advance s dt,
      show s.buckle.edges = (s.advance dt).buckle.edges by simp only [State.advance_keeps ..]]
    obtain ⟨hread, hseen, hpres, hroom, -⟩ := State.cycleEnded_quiet ha hg hf
    exact ⟨(hroom hr).1, hread, hseen, hpres, (hroom hr).2⟩
  · rw [exec_readerCycleEnd_eq, gives_next]
    rw [← State.concho_advance s dt] at ha hg hf hr ⊢
    rw [← State.polledOut_advance s dt]
    obtain ⟨hread, -, hpres, -, hfull⟩ := State.cycleEnded_quiet ha hg hf
    exact ⟨hread, hpres, hfull hr⟩
  · rw [exec_readerCycleEnd_eq, gives_next]
    rw [← State.concho_advance s dt] at ha hg hf hr
    rw [show s.buckle.edges = (s.advance dt).buckle.edges by simp only [State.advance_keeps ..]]
    exact State.cycleEnded_serves ha hg hf hr
  · rw [exec_readerCycleEnd_eq, gives_next]
    rw [← State.concho_advance s dt] at ha
    exact if_pos (.inl ha)
  · rw [exec_lpcdMeasure_eq, gives_next]
    rw [← State.flag_advance s dt] at hf
    rw [← State.pwr_advance s dt] at hp
    rw [← State.concho_advance s dt] at hq hm hr ⊢
    exact State.measured_first ⟨hf, hp, hq, hm⟩ hr
  · rw [exec_lpcdMeasure_eq, gives_next, show s.buckle.edges = (s.advance dt).buckle.edges by simp only [State.advance_keeps ..]]
    rw [← State.flag_advance s dt] at hf hfr
    rw [← State.pwr_advance s dt] at hp
    rw [← State.concho_advance s dt] at hq hm hr hn
    exact State.measured_hits ⟨hf, hp.le, hq, hm⟩ hfr hr hn hp (lpcdHit_of_differs hit)
  · rw [exec_lpcdMeasure_eq, gives_next]
    rw [← State.concho_advance s dt] at ha
    exact State.measured_other ha

end Sys2Proof.Machine
end

section
/-! ## O48: the ports through which cores and host reach queues, records and frames (R477, R481 to R483, R495, R511) -/

namespace Sys2Proof.Machine

variable {s : State} {dt : Nat}

/-! ### Strap queue ports (R477) -/

/-- Taking items to the head leaves what is there in front. -/
theorem passToHead_head (n : Nat) (x : StrapQ) : x.head <+: (passToHead n x).head := by
  induction n generalizing x with
  | zero => exact List.prefix_rfl
  | succ n ih =>
    rw [passToHead]
    split
    · split
      next i rest _ =>
        split
        · exact (List.prefix_append _ _).trans (ih { x with head := x.head ++ [i], tail := rest })
        · exact List.prefix_rfl
      next => exact List.prefix_rfl
    · exact List.prefix_rfl

theorem State.portPush_takes {q : Fin 64} {w : Nat} (hq : q.val ≠ 0) (h1 : 1 ≤ w) (h16 : w ≤ 16) (hf : s.strapFull q w = false)
    (hw : (s.strap q).welt = none) : (∃ i, ((s.portPush q w).strap q).all = (s.strap q).all ++ [i] ∧ i.words = w ∧
      i.data = slice (s.portWindow q) 8 (60 * w - 8)) ∧ KMap.getD (s.portPush q w).cores.pushed 0 q = w := by
  have htaken := strapPush_taken (data := slice (s.portWindow q) 8 (60 * w - 8)) hq h1 h16 hf hw
  rw [exec_strapPush, execStrapPush, if_neg hq, gives_next] at htaken
  obtain ⟨-, i, hall, hwords, hdata, -, -⟩ := htaken
  refine ⟨⟨i, hall, hwords, hdata⟩, (KMap.getD_setD_self ..).trans ?_⟩
  rw [hf, decide_eq_false (by omega : ¬ w = 0), decide_eq_false (by omega : ¬ 16 < w)]
  rfl

/-- A pop takes the item in front, and the rest stays in its order. -/
theorem State.strapPop_takes {q : Nat} {i : StrapItem} {rest : List StrapItem} (h : (s.strap q).head = i :: rest) :
    (s.strapPop q).2 = some i ∧ ((s.strapPop q).1.strap q).all = rest ++ (s.strap q).mid ++ (s.strap q).tail := by
  obtain ⟨more, hmore⟩ := passToHead_head 65 (s.strap q)
  obtain ⟨hall, -⟩ := passToHead_keeps 65 (s.strap q)
  rw [h, List.cons_append] at hmore
  have hpop : s.strapPop q = (s.setStrap q (passToHead 65 { passToHead 65 (s.strap q) with head := rest ++ more }), some i) := by
    unfold State.strapPop
    extract_lets x
    rw [show x.head = i :: (rest ++ more) from hmore.symm]
  rw [hpop]
  refine ⟨rfl, ?_⟩
  refine (congrArg StrapQ.all (State.strap_setStrap_self ..)).trans ((passToHead_keeps 65 _).1.trans ?_)
  rw [StrapQ.all, StrapQ.all, ← hmore, h] at hall
  change rest ++ more ++ (passToHead 65 (s.strap q)).mid ++ (passToHead 65 (s.strap q)).tail = _
  simpa only [List.cons_append, List.cons.injEq, true_and] using hall

theorem State.portPop_takes {q : Nat} {i : StrapItem} {rest : List StrapItem} (h : (s.strap q).head = i :: rest) :
    (s.portPop q).1.portWindow q = i.bytes ∧ ((s.portPop q).1.strap q).all = rest ++ (s.strap q).mid ++ (s.strap q).tail := by
  obtain ⟨htaken, hall⟩ := State.strapPop_takes h
  rw [State.portPop, htaken]
  exact ⟨KMap.getD_setD_self .., hall⟩

theorem strapPortOf_core {n : Nat} (hn : n < 16) {q : Nat} (h : strapPortOf n q = true) : q ≠ 0 := by
  rw [strapPortOf, if_neg (by unfold hostWindow; omega)] at h
  split at h <;> simp only [Bool.and_eq_true, decide_eq_true_eq] at h <;> omega

/-! ### Node records of the host (R495) -/

theorem nrRead_reads (hl : s.host.linkUp = true) : Gives (exec .nrRead s) fun t =>
    t.host.nrCode = 0 ∧ t.host.nrData = (t.nrec (s.host.nrShort - 0x4000)).bytes ∧ t.girth = s.girth := by
  have hshort : (s.wake.setCause 69).host.nrShort = s.host.nrShort := by simp only [State.setCause_keeps .., State.wake_keeps ..]
  have hgirth : (s.wake.setCause 69).girth = s.girth := by simp only [State.setCause_keeps .., State.wake_keeps ..]
  rw [exec_nrRead, execNrRead, if_neg (by simp [hl]), gives_next, ← hshort]
  exact ⟨rfl, rfl, hgirth⟩

/-- The records that a host's write brings. -/
def State.nrNew (s : State) : List (Nat × Bytes) := [(s.host.nrShort - 0x4000, slice s.host.nrData 0 128)]

/-- The state after a host's write of the records `new`: they are checked, and refused or taken. -/
def State.nrDone (s : State) (new : List (Nat × Bytes)) : State :=
  if !s.host.linkUp then s
  else match s.badRec new with
    | some k => (({ s with host := { s.host with nrCode := 0x30 } }).recBadPost k).setCause 69
    | none =>
      let t := s.recsWrite new
      ({ t with host := { t.host with nrCode := 0 } }).setCause 69

theorem exec_nrWrite_eq (s : State) : exec .nrWrite s = .next ((if s.host.linkUp then s.wake.unwraps s.nrNew else s).nrDone s.nrNew) := by
  rw [exec_nrWrite]
  unfold execNrWrite State.nrDone State.nrNew
  rfl

theorem exec_nrWrite_awake (hl : s.host.linkUp = true) (hp : s.pwr ≠ 2) : exec .nrWrite s = .next ((s.unwraps s.nrNew).nrDone s.nrNew) := by
  have hw : s.wake = s := if_neg fun h => hp h.1
  rw [exec_nrWrite_eq, if_pos hl, hw]

theorem State.linkUp_unwraps (hl : s.host.linkUp = true) (new : List (Nat × Bytes)) : (s.unwraps new).host.linkUp = true := by
  simpa only [State.unwraps_keeps ..] using hl

theorem State.nrDone_refused {new : List (Nat × Bytes)} {k : Nat} (hl : s.host.linkUp = true) (hb : s.badRec new = some k) :
    (s.nrDone new).host.nrCode = 0x30 ∧ (s.nrDone new).girth = s.girth ∧ Posted s (s.nrDone new) .nodeRecordBad 0x4210 := by
  have hpost : Posted s (({ s with host := { s.host with nrCode := 0x30 } } : State).recBadPost k) .nodeRecordBad 0x4210 :=
    Posted.of_post (u := { s with host := { s.host with nrCode := 0x30 } }) rfl .nodeRecordBad 0x4210 k 0 0xFF
  rw [State.nrDone, if_neg (by rw [hl]; decide), hb]
  refine ⟨?_, ?_, hpost.journal_eq ?_⟩ <;> simp only [State.setCause_keeps .., State.recBadPost_keeps ..]

theorem State.nrDone_takes {new : List (Nat × Bytes)} (hl : s.host.linkUp = true) (hb : s.badRec new = none) :
    (s.nrDone new).host.nrCode = 0 ∧ ∀ r, (s.nrDone new).nrec r = (s.recsWrite new).nrec r := by
  rw [State.nrDone, if_neg (by rw [hl]; decide), hb]
  dsimp only
  generalize s.recsWrite new = u
  refine ⟨by simp only [State.setCause_keeps ..], fun r => ?_⟩
  simp only [State.nrec, State.setCause_keeps ..]

theorem nrWrite_refused {k : Nat} (hl : s.host.linkUp = true) (hp : s.pwr ≠ 2) (hb : (s.unwraps s.nrNew).badRec s.nrNew = some k) :
    Gives (exec .nrWrite s) fun t => t.host.nrCode = 0x30 ∧ t.girth = s.girth ∧ Posted (s.unwraps s.nrNew) t .nodeRecordBad 0x4210 := by
  have hgirth : (s.unwraps s.nrNew).girth = s.girth := by simp only [State.unwraps_keeps ..]
  rw [exec_nrWrite_awake hl hp, gives_next, ← hgirth]
  exact State.nrDone_refused (State.linkUp_unwraps hl _) hb

theorem State.host_nrec_wheelEnter (s : State) (ms : Nat) (d : Due) (r : Nat) : ((s.wheelEnter ms d).nrec r).host = (s.nrec r).host := by
  simp only [State.nrec, State.wheelEnter_keeps ..]

theorem State.host_nrec_modHw (s : State) (q r : Nat) (f : NodeHw → NodeHw) : ((s.modHw q f).nrec r).host = (s.nrec r).host := by
  rw [State.nrec_modHw]
  split
  next h => rw [h]
  next => rfl

theorem State.host_nrec_enterUl (s : State) (q a r : Nat) : ((s.enterUl q a).nrec r).host = (s.nrec r).host := by
  unfold State.enterUl
  split
  · rw [State.host_nrec_wheelEnter, State.host_nrec_modHw]
  · rfl

theorem State.host_nrec_enterDl (s : State) (q a r : Nat) : ((s.enterDl q a).nrec r).host = (s.nrec r).host := by
  unfold State.enterDl
  split
  · rw [State.host_nrec_wheelEnter, State.host_nrec_modHw]
  · rfl

/-- Entering the cells of a record leaves the part that the host writes. -/
theorem State.host_nrec_reschedule (s : State) (q r : Nat) : ((s.reschedule q).nrec r).host = (s.nrec r).host := by
  have hun : ((s.unschedule q).nrec r).host = (s.nrec r).host := by simp only [State.nrec, State.unschedule_keeps ..]
  unfold State.reschedule
  extract_lets u x v
  have hv : (v.nrec r).host = (s.nrec r).host := by
    rw [State.host_nrec_enterDl, State.host_nrec_enterUl]
    exact hun
  split
  · exact hun
  · split
    · split
      · rw [State.host_nrec_wheelEnter]
        exact hv
      · exact hv
    · exact hv

/-- A new record holds what the host wrote. -/
theorem State.host_nrec_recNew (s : State) (r : Nat) (host : Bytes) : ((s.recNew r host).nrec r).host = hostMask host := by
  unfold State.recNew
  extract_lets u v y w
  have hw : (w.nrec r).host = hostMask host := by rw [State.nrec_setRec_self]; rfl
  split
  · exact hw
  · simpa only [State.nrec, State.girthPost_keeps ..] using hw

theorem State.host_nrec_recsWrite {r : Nat} {host : Bytes} (h : (s.nrec r).isFree = true) :
    ((s.recsWrite [(r, host)]).nrec r).host = hostMask host := by
  have hplace (u : State) : u.placeAll.nrec r = u.nrec r := by simp only [State.nrec, State.placeAll_keeps ..]
  rw [State.recsWrite, hplace]
  change ((s.recWrite r host).nrec r).host = _
  unfold State.recWrite
  extract_lets x y u
  rw [State.host_nrec_reschedule]
  unfold u
  rw [if_pos (by simp [x, h]), State.host_nrec_recNew]

theorem nrWrite_takes (hl : s.host.linkUp = true) (hp : s.pwr ≠ 2) (hb : (s.unwraps s.nrNew).badRec s.nrNew = none)
    (hf : (s.nrec (s.host.nrShort - 0x4000)).isFree = true) : Gives (exec .nrWrite s) fun t => t.host.nrCode = 0 ∧
      (t.nrec (s.host.nrShort - 0x4000)).host = hostMask (slice s.host.nrData 0 128) := by
  have hfree : ((s.unwraps s.nrNew).nrec (s.host.nrShort - 0x4000)).isFree = true := by
    simpa only [State.nrec, State.unwraps_keeps ..] using hf
  obtain ⟨hcode, hrec⟩ := State.nrDone_takes (State.linkUp_unwraps hl _) hb
  rw [exec_nrWrite_awake hl hp, gives_next, hrec]
  exact ⟨hcode, State.host_nrec_recsWrite hfree⟩

/-! ### The dictionary and table ports of a core (R481) -/

theorem State.dictSubmit_answers {n len : Nat} (hn : 12 ≤ n) (h24 : 24 ≤ len) (h1048 : len ≤ 1048) (h1 : (s.coreRequest n len).op ≠ 1)
    (h8 : (s.coreRequest n len).op ≠ 8) : (s.dictSubmit n len).out = .access (.core n) (respond (s.coreRequest n len) 0x12 []) :: s.out ∧
      ((s.dictSubmit n len).core n).dictRsp ≠ none ∧ (s.dictSubmit n len).dict = { s.dict with nextReq := (s.dict.nextReq + 1) % 65536 } := by
  unfold State.dictSubmit
  rw [if_neg (by omega)]
  extract_lets a c u v
  rw [if_pos ⟨hn, by simp [a, h1, h8]⟩]
  refine ⟨rfl, fun h => ?_, rfl⟩
  have hrsp := congrArg Core.dictRsp (KMap.getD_setD_self u.cores.core (Core.atReset n) n
    { u.core n with dictRsp := some (accessBytes (respond a 0x12 [])) })
  exact Option.some_ne_none _ (hrsp.symm.trans h)

/-- An operation that the port of `who` takes waits behind the others; the port is busy. -/
theorem State.tpStart_takes {who op : Nat} (hc : tpCode op = true) (hb : (s.window who).busy = false) :
    (s.tpStart who op).tables.ops = s.tables.ops ++ [⟨who, op, (s.window who).arg⟩] ∧
    (s.tpStart who op).window who = { s.window who with busy := true } ∧ (s.tpStart who op).tables.prefixes = s.tables.prefixes ∧
    (s.tpStart who op).tables.halter = s.tables.halter ∧ (s.tpStart who op).keeper = s.keeper := by
  unfold State.tpStart
  extract_lets w u
  rw [if_neg (by simp [w, hc, hb])]
  exact ⟨rfl, KMap.getD_setD_self .., rfl, rfl, rfl⟩

theorem State.tpStart_ignores {who op : Nat} (h : tpCode op = false ∨ (s.window who).busy = true) : s.tpStart who op = s :=
  if_pos (by rcases h with h | h <;> simp [h])

theorem tpOpStart_takes {who : Fin 17} {op : BitVec 8} (h : (who.val ≠ 16 ∧ s.coreRuns who = true) ∨ (who.val = 16 ∧ s.host.linkUp = true))
    (hc : tpCode op.toNat = true) (hb : (s.window who).busy = false) : Gives (exec (.tpOpStart who op) s) fun t =>
      t.tables.ops = s.tables.ops ++ [⟨who, op.toNat, (s.window who).arg⟩] ∧ t.window who = { s.window who with busy := true } ∧
      t.tables.prefixes = s.tables.prefixes ∧ t.tables.halter = s.tables.halter ∧ t.keeper = s.keeper := by
  rw [exec_tpOpStart, execTpOpStart, gives_next]
  rcases h with ⟨hn, hr⟩ | ⟨hn, hl⟩
  · rw [if_neg (show ¬ who.val = hostWindow from hn), if_pos hr]
    exact State.tpStart_takes hc hb
  · have hhost : who.val = hostWindow := hn
    have htables : s.wake.tables = s.tables := by simp only [State.wake_keeps ..]
    have hkeeper : s.wake.keeper = s.keeper := by simp only [State.wake_keeps ..]
    have hwindow : s.wake.window who = s.window who := by rw [State.window, htables, State.window]
    rw [if_pos hhost, if_pos hl, ← htables, ← hkeeper, ← hwindow]
    exact State.tpStart_takes hc (by rwa [hwindow])

/-! ### HP9 (R482, R483, Table 18-11) -/

theorem leNat_lt (bs : Bytes) : leNat bs < 2 ^ (8 * bs.length) := by
  induction bs with
  | nil => simp [leNat]
  | cons b bs ih =>
    have hb := b.isLt
    have hp : 2 ^ (8 * (bs.length + 1)) = 256 * 2 ^ (8 * bs.length) := by rw [Nat.mul_add, Nat.pow_add]; omega
    rw [leNat, List.length_cons, hp]
    omega

theorem leNat_leBytes {w x : Nat} (h : x < 2 ^ (8 * w)) : leNat (leBytes w x) = x := by
  induction w generalizing x with
  | zero =>
    have : x = 0 := by simpa using h
    rw [this]
    rfl
  | succ w ih =>
    have hp : 2 ^ (8 * (w + 1)) = 256 * 2 ^ (8 * w) := by rw [Nat.mul_add, Nat.pow_add]; omega
    rw [leBytes, leNat, ih (by omega), BitVec.toNat_ofNat]
    omega

theorem setBits_lt {x lo w v m : Nat} (hx : x < 2 ^ m) (h : lo + w ≤ m) : setBits x lo w v < 2 ^ m := by
  obtain ⟨k, rfl⟩ := Nat.exists_eq_add_of_le h
  have hdiv := setBits_div x lo w v
  rw [Nat.pow_add, Nat.mul_comm] at hx ⊢
  rw [← Nat.div_lt_iff_lt_mul (Nat.two_pow_pos _)] at hx ⊢
  rwa [hdiv]

theorem State.desc_setDesc {n a d : Nat} (h : d < 2 ^ 256) (s : State) : (s.setDesc n a d).desc n a = d := by
  have hbytes : (s.setDesc n a d).localBytes n a 32 = leBytes 32 d := by
    refine List.ext_getElem (by rw [State.localBytes, List.length_map, List.length_range, length_leBytes]) fun i hi _ => ?_
    rw [State.localBytes, List.length_map, List.length_range] at hi
    simp only [State.localBytes, List.getElem_map, List.getElem_range, State.setDesc]
    rw [State.localByte_localStore, if_pos ⟨by omega, by rw [length_leBytes]; omega⟩, Nat.add_sub_cancel_left]
    exact List.getD_eq_getElem ..
  rw [State.desc, hbytes]
  exact leNat_leBytes h

theorem State.desc_lt (s : State) (n a : Nat) : s.desc n a < 2 ^ 256 := by
  have h := leNat_lt (s.localBytes n a 32)
  rwa [State.localBytes, List.length_map, List.length_range] at h

theorem rxDescBack_lt {d : Nat} (h : d < 2 ^ 256) (f : HFrame) : rxDescBack d f < 2 ^ 256 := by
  unfold rxDescBack
  exact setBits_lt (setBits_lt (setBits_lt (setBits_lt (setBits_lt (setBits_lt (setBits_lt h (by decide)) (by decide)) (by decide)) (by decide))
    (by decide)) (by decide)) (by decide)

/-- A frame with the descriptor `d` is in core `n`'s buffer and its entry is given back. -/
def State.hp9Filled (s : State) (n : Nat) (f : HFrame) (d : Nat) : State :=
  ((s.localStore n (bits d 160 32) f.bytes).setDesc n (s.core n).rxRing.headAddr (rxDescBack d f)).setCore n
    { s.core n with rxRing := (s.core n).rxRing.next, rxFilled := (s.core n).rxFilled ++ [(s.core n).rxRing.head] }

theorem State.hp9To_fills {n : Nat} {f : HFrame} (hr : f.report = false) (h0 : (s.core n).rxRing.size ≠ 0)
    (hne : (s.core n).rxRing.head ≠ (s.core n).rxRing.tail) (hd : descHolds (s.desc n (s.core n).rxRing.headAddr) f.bytes.length = true) :
    s.hp9To n f = (s.hp9Filled n f (s.desc n (s.core n).rxRing.headAddr)).bump (Key.hpTx 9) := by
  rw [State.hp9To]
  dsimp only
  rw [if_neg (by simp [h0, hne, hd]), hr]
  rfl

theorem State.desc_setCore (s : State) (m n a : Nat) (c : Core) : (s.setCore m c).desc n a = s.desc n a := by
  have hbyte (i : Nat) : (s.setCore m c).localByte n i = s.localByte n i := rfl
  simp only [State.desc, State.localBytes, hbyte]

theorem State.hp9Filled_holds {n d : Nat} (h : d < 2 ^ 256) (f : HFrame) : (s.hp9Filled n f d).har = s.har ∧
    (s.hp9Filled n f d).core n =
      { s.core n with rxRing := (s.core n).rxRing.next, rxFilled := (s.core n).rxFilled ++ [(s.core n).rxRing.head] } ∧
    (s.hp9Filled n f d).desc n (s.core n).rxRing.headAddr = rxDescBack d f ∧ (s.hp9Filled n f d).dict = s.dict := by
  unfold State.hp9Filled
  refine ⟨?_, State.core_setCore_self .., ?_, ?_⟩
  · simp only [State.setCore_keeps .., State.setDesc_keeps .., State.localStore_keeps ..]
  · rw [State.desc_setCore, State.desc_setDesc (rxDescBack_lt h f)]
  · simp only [State.setCore_keeps .., State.setDesc_keeps .., State.localStore_keeps ..]

/-- A frame that the core's ring has room for. -/
theorem State.hp9To_delivers {n : Nat} {f : HFrame} (hr : f.report = false) (h0 : (s.core n).rxRing.size ≠ 0)
    (hne : (s.core n).rxRing.head ≠ (s.core n).rxRing.tail) (hd : descHolds (s.desc n (s.core n).rxRing.headAddr) f.bytes.length = true) :
    (s.hp9To n f).har = s.har ∧ ((s.hp9To n f).core n).rxRing = (s.core n).rxRing.next ∧
    ((s.hp9To n f).core n).rxFilled = (s.core n).rxFilled ++ [(s.core n).rxRing.head] ∧
    (s.hp9To n f).desc n (s.core n).rxRing.headAddr = rxDescBack (s.desc n (s.core n).rxRing.headAddr) f ∧
    (s.hp9To n f).rd (Key.hpTx 9) = satAdd u32Max (s.rd (Key.hpTx 9)) 1 := by
  obtain ⟨hhar, hcore, hdesc, hdict⟩ := State.hp9Filled_holds (s := s) (s.desc_lt n (s.core n).rxRing.headAddr) f
  have hrd : (s.hp9Filled n f (s.desc n (s.core n).rxRing.headAddr)).rd (Key.hpTx 9) = s.rd (Key.hpTx 9) :=
    State.rd_of_nums (s := s) (congrArg Dictionary.nums hdict) _
  rw [State.hp9To_fills hr h0 hne hd, State.rd_bump_self, hrd]
  generalize s.hp9Filled n f (s.desc n (s.core n).rxRing.headAddr) = u at *
  have hbcore : (u.bump (Key.hpTx 9)).core n = u.core n := by simp only [State.core, State.bump_keeps ..]
  refine ⟨?_, ?_, ?_, ?_, rfl⟩
  · rw [← hhar]
    simp only [State.bump_keeps ..]
  · rw [hbcore, hcore]
  · rw [hbcore, hcore]
  · rw [← hdesc]
    simp only [State.desc, State.localBytes, State.localByte, State.bump_keeps ..]

/-- Core `n` is told that the entry at the head of its transmit ring was taken. -/
def State.hp9Told (s : State) (n : Nat) (r : CoreRing) : State :=
  let c := s.core n
  (s.setCore n { c with txRing := r.next }).raise (48 + n)

/-- The state after the transmit ring of core `n` was looked at. -/
def State.hp9Sent (s : State) (n : Nat) : State :=
  let r := (s.core n).txRing
  if r.size = 0 ∨ r.head = r.tail ∨ s.inputClosed 9 then s
  else
    let a := r.headAddr
    let d := s.desc n a
    let got := s.hp9Take n d
    (got.1.setDesc n a (setBits d 192 4 (if got.2 then 0 else 1))).hp9Told n r

theorem exec_hp9TxTake_eq (n : Fin 16) (dt : Nat) (s : State) : exec (.hp9TxTake n dt) s = .next ((s.advance dt).hp9Sent n) := rfl

theorem State.hp9Told_holds (s : State) (n : Nat) (r : CoreRing) : ((s.hp9Told n r).core n).txRing = r.next ∧
    (s.hp9Told n r).buckle.edges = s.buckle.edges ++ [48 + n] ∧ (s.hp9Told n r).har = s.har :=
  ⟨congrArg Core.txRing (State.core_setCore_self s n { s.core n with txRing := r.next }), rfl, rfl⟩

theorem State.hp9Sent_refused {n : Nat} (h0 : (s.core n).txRing.size ≠ 0) (hne : (s.core n).txRing.head ≠ (s.core n).txRing.tail)
    (hc : s.inputClosed 9 = false) (hd : txDescOk n (s.desc n (s.core n).txRing.headAddr) = false) :
    ((s.hp9Sent n).core n).txRing = (s.core n).txRing.next ∧ (s.hp9Sent n).buckle.edges = s.buckle.edges ++ [48 + n] ∧
    (s.hp9Sent n).har = s.har := by
  have htake : s.hp9Take n (s.desc n (s.core n).txRing.headAddr) = (s, false) := if_neg (by rw [hd]; decide)
  rw [State.hp9Sent]
  dsimp only
  rw [if_neg (by simp [h0, hne, hc]), htake]
  obtain ⟨hring, hedges, hhar⟩ := (s.setDesc n (s.core n).txRing.headAddr
    (setBits (s.desc n (s.core n).txRing.headAddr) 192 4 1)).hp9Told_holds n (s.core n).txRing
  refine ⟨hring, hedges.trans ?_, hhar.trans ?_⟩ <;> simp only [State.setDesc_keeps ..]

/-- The state whose frame has left HP9. -/
def State.hp9Left (s : State) : State := { s with har := { s.har with leaving := KMap.drop s.har.leaving 9 } }

/-- The state after the frame that leaves HP9 was delivered. -/
def State.hp9Delivered (s : State) : State :=
  match KMap.find s.har.leaving 9 with
  | none => s
  | some f =>
    match s.hp9Left.hp9Core f with
    | none => s.hp9Left.qDrop 9 f
    | some n => s.hp9Left.hp9To n f

theorem exec_hp9RxDeliver_eq (s : State) : exec .hp9RxDeliver s = .next s.hp9Delivered := rfl

theorem State.hp9Delivered_none {f : HFrame} (hf : KMap.find s.har.leaving 9 = some f) (hc : s.hp9Core f = none) :
    s.hp9Delivered = s.hp9Left.qDrop 9 f := by
  have hc' : s.hp9Left.hp9Core f = none := hc
  rw [State.hp9Delivered, hf]
  dsimp only
  rw [hc']

theorem State.hp9Delivered_some {f : HFrame} {n : Nat} (hf : KMap.find s.har.leaving 9 = some f) (hc : s.hp9Core f = some n) :
    s.hp9Delivered = s.hp9Left.hp9To n f := by
  have hc' : s.hp9Left.hp9Core f = some n := hc
  rw [State.hp9Delivered, hf]
  dsimp only
  rw [hc']

/-- A frame dropped at HP9 counts there, and the cores are as they were. -/
theorem State.qDrop9_holds {s : State} (f : HFrame) : KMap.find (s.hp9Left.qDrop 9 f).har.leaving 9 = none ∧
    (s.hp9Left.qDrop 9 f).rd (Key.qDrops (72 + f.cls)) = satAdd u32Max (s.rd (Key.qDrops (72 + f.cls))) 1 ∧
    (s.hp9Left.qDrop 9 f).cores = s.cores := by
  unfold State.qDrop
  refine ⟨?_, ?_, ?_⟩
  · simp only [State.copyLost_keeps .., State.bump_keeps ..]
    exact KMap.find_drop_self ..
  · have hlost (u : State) (k : Nat) : (u.copyLost f).rd k = u.rd k := by simp only [State.rd, State.copyLost_keeps ..]
    rw [hlost]
    exact State.rd_bump_self ..
  · simp only [State.copyLost_keeps .., State.bump_keeps ..]
    rfl

theorem State.inputClosed_advance (s : State) (dt h : Nat) : (s.advance dt).inputClosed h = s.inputClosed h := by
  have hrd (j : Nat) : (s.advance dt).rd j = s.rd j := State.rd_advance ..
  unfold State.inputClosed
  rw [hrd]
  simp only [State.advance_keeps ..]

/-- Settles O48: a case for each command of the ports. -/
theorem portsOfCoresAndHost : Obligations.PortsOfCoresAndHost := by
  unfold Obligations.PortsOfCoresAndHost
  refine ⟨fun n q w s hr hp h1 h16 hf hw => ?_, fun n q w s hp => ?_, fun who q i rest s hp hn hr hh hq => ?_, fun who q s hp => ?_,
    fun s hl => nrRead_reads hl, fun s hl => ?_, fun k s hl hp hb => nrWrite_refused hl hp hb,
    fun s hl hp hb hf _ _ _ _ => nrWrite_takes hl hp hb hf, fun n len s hr hlen => ?_, fun n len s hr hn h24 h1048 h1 h8 => ?_,
    fun who op s hn hr h => ?_, fun who op s h hc hb => tpOpStart_takes h hc hb, fun f n s hf hc => ?_,
    fun f n s hf hc hr h0 hne hd => ?_, fun n dt s h0 hne hcl hd => ?_, fun n dt s h => ?_⟩
  · obtain ⟨⟨i, hall, hwords, hdata⟩, hpushed⟩ := State.portPush_takes (strapPortOf_core n.isLt hp) h1 h16 hf hw
    rw [exec_strapPortPush, execStrapPortPush, hr, hp, gives_next]
    exact ⟨i, hall, hwords, hdata, hpushed⟩
  · rw [exec_strapPortPush, execStrapPortPush, hp, Bool.and_false, gives_next]
    rfl
  · rw [exec_strapPortPop, execStrapPortPop, hp, gives_next, if_neg (by decide), if_neg (show ¬ who.val = hostWindow from hn), if_pos hr]
    exact State.portPop_takes hh
  · rw [exec_strapPortPop, execStrapPortPop, hp, gives_next]
    rfl
  · rw [exec_nrRead, execNrRead, hl, gives_next]
    rfl
  · rw [exec_dictPortSubmit, execDictPortSubmit, if_pos hr, gives_next]
    exact if_pos hlen
  · rw [exec_dictPortSubmit, execDictPortSubmit, if_pos hr, gives_next]
    exact State.dictSubmit_answers hn h24 h1048 h1 h8
  · rw [exec_tpOpStart, execTpOpStart, if_neg (show ¬ who.val = hostWindow from hn), if_pos hr, gives_next]
    exact State.tpStart_ignores h
  · rw [exec_hp9RxDeliver_eq, State.hp9Delivered_none hf hc, gives_next]
    exact State.qDrop9_holds f
  · rw [exec_hp9RxDeliver_eq, State.hp9Delivered_some hf hc, gives_next]
    obtain ⟨hhar, hring, hfilled, hdesc, hrd⟩ := State.hp9To_delivers (s := s.hp9Left) hr h0 hne hd
    exact ⟨by rw [hhar]; exact KMap.find_drop_self .., hring, hfilled, hdesc, hrd⟩
  · have hcore : (s.advance dt).core n = s.core n := by simp only [State.core, State.advance_keeps ..]
    have hedges : (s.advance dt).buckle.edges = s.buckle.edges := by simp only [State.advance_keeps ..]
    have hhar : (s.advance dt).har = s.har := by simp only [State.advance_keeps ..]
    have hdesc (a : Nat) : (s.advance dt).desc n a = s.desc n a := by
      simp only [State.desc, State.localBytes, State.localByte, State.advance_keeps ..]
    rw [exec_hp9TxTake_eq, gives_next, ← hcore, ← hedges, ← hhar]
    rw [← hcore] at h0 hne hd
    rw [← hdesc] at hd
    exact State.hp9Sent_refused h0 hne ((State.inputClosed_advance ..).trans hcl) hd
  · rw [exec_hp9TxTake_eq, gives_next]
    have hcore : (s.advance dt).core n = s.core n := by simp only [State.core, State.advance_keeps ..]
    rw [← hcore] at h
    exact if_pos (.inr (.inl h))

end Sys2Proof.Machine
end

section
/-! ## O29: the table port edits prefixes, next hops and copy lists (R325, R330, R331, R337, R339, R340, R481, R510) -/

namespace Sys2Proof.Machine

variable {s : State} {op : Nat} {o : TpOp} {f : State → Nat → Bytes → State}

/-! ### The operation at the front of the port's queue (R339, R481) -/

theorem State.tpRun_runs (h : s.tpFront op = some o) (hb : tpBarred o.who = false) : s.tpRun op f = f s.tpTaken o.who o.arg := by
  rw [State.tpRun, h]
  exact if_neg (by rw [hb]; decide)

theorem State.tpRun_barred (h : s.tpFront op = some o) (hb : tpBarred o.who = true) : s.tpRun op f = s.tpTaken.tpDone o.who 0x11 := by
  rw [State.tpRun, h]
  exact if_pos hb

theorem State.tpRun_none (h : s.tpFront op = none) : s.tpRun op f = s := by rw [State.tpRun, h]

theorem State.tpRead_runs (h : s.tpFront op = some o) : s.tpRead op f = f s.tpTaken o.who o.arg := by rw [State.tpRead, h]

theorem State.tpRead_none (h : s.tpFront op = none) : s.tpRead op f = s := by rw [State.tpRead, h]

theorem State.code_tpDone (s : State) (who c : Nat) (r : Bytes) : ((s.tpDone who c r).window who).code = c := by
  rw [State.window_tpDone_self]

theorem State.ret_tpDone (s : State) (who c : Nat) (r : Bytes) : ((s.tpDone who c r).window who).ret = slice r 0 128 := by
  rw [State.window_tpDone_self]

theorem take_slice {r : Bytes} {k n : Nat} (hr : k ≤ r.length) (hn : k ≤ n) : (slice r 0 n).take k = r.take k := by
  unfold slice
  extract_lets got
  have hgot : got = r.take n := by unfold got; rw [List.drop_zero]
  rw [hgot, List.take_append_of_le_length (by rw [List.length_take]; omega), List.take_take, Nat.min_eq_left hn]

/-- The first bytes that an operation returns. -/
theorem State.ret_take (s : State) (who c : Nat) {r : Bytes} {k : Nat} (hr : k ≤ r.length) (hk : k ≤ 128) :
    ((s.tpDone who c r).window who).ret.take k = r.take k := by
  rw [State.ret_tpDone, take_slice hr hk]

theorem State.ret_leBytes (s : State) (who c x : Nat) {k : Nat} (hk : k ≤ 128) :
    ((s.tpDone who c (leBytes k x)).window who).ret.take k = leBytes k x := by
  rw [State.ret_take s who c (by rw [length_leBytes]) hk, List.take_of_length_le (by rw [length_leBytes])]

/-! ### Prefixes (R331, R337, R340) -/

/-- What the table holds under a key (R331). -/
def State.held (s : State) (inst : Nat) (v4 : Bool) (addr len : Nat) : Option Prefix :=
  s.tables.prefixes.find? fun p => p.inst == inst && p.v4 == v4 && p.len == len && p.addr == addr

/-- What the table holds under the key that the arguments of an operation give. -/
def State.argHeld (s : State) (x : Bytes) : Option Prefix := s.held (tpArg x 0 1) (tpV4 x) (tpPrefix x) (tpArg x 18 1)

/-- The entry that the arguments of a Bridle operation give. -/
def argPrefix (x : Bytes) : Prefix := ⟨tpArg x 0 1, tpV4 x, tpArg x 18 1, tpPrefix x, tpArg x 19 4⟩

theorem State.brInsert_adds {p : Prefix} (who : Nat) (ws : List (Nat × Nat)) (hp : prefixArg p.inst p.v4 p.addr p.len = none)
    (hr : resultOk p.result = true) (hn : s.held p.inst p.v4 p.addr p.len = none) (hl : s.tables.prefixes.length < 262144)
    (hf : bridleFits (s.tables.prefixes ++ [p]) = true) :
    s.brInsert who p ws = ((s.setPrefixes (s.tables.prefixes ++ [p])).rewriteWords ws).tpDone who 0x00 := by
  rw [State.brInsert, hp]
  dsimp only
  rw [if_neg (by rw [hr]; decide)]
  split
  next hold => exact absurd (hold.symm.trans hn) (Option.some_ne_none _)
  next => rw [if_neg (by omega), if_pos hf]

theorem State.brInsert_replaces {p old : Prefix} (who : Nat) (ws : List (Nat × Nat)) (hp : prefixArg p.inst p.v4 p.addr p.len = none)
    (hr : resultOk p.result = true) (hn : s.held p.inst p.v4 p.addr p.len = some old)
    (hf : bridleFits (s.tables.prefixes.map fun q => if q == old then p else q) = true) :
    s.brInsert who p ws = ((s.setPrefixes (s.tables.prefixes.map fun q => if q == old then p else q)).rewriteWords ws).tpDone who 0x01 := by
  rw [State.brInsert, hp]
  dsimp only
  rw [if_neg (by rw [hr]; decide)]
  split
  next q hold =>
    obtain rfl := Option.some.inj (hn.symm.trans hold)
    rw [if_pos hf]
  next hno => exact absurd (hn.symm.trans hno) (Option.some_ne_none _)

theorem State.brInsert_illegal {p : Prefix} {c : Nat} (who : Nat) (ws : List (Nat × Nat)) (hp : prefixArg p.inst p.v4 p.addr p.len = some c) :
    s.brInsert who p ws = s.tpDone who c := by rw [State.brInsert, hp]

/-- An insert that the front asks for, with F in its range. -/
theorem exec_brInsert_runs (ws : List (Nat × Nat)) (h : s.tpFront 0x01 = some o) (hb : tpBarred o.who = false) (hf : tpFamOk o.arg = true) :
    exec (.brInsert ws) s = .next (s.tpTaken.brInsert o.who (argPrefix o.arg) ws) := by
  rw [exec_brInsert, execBrInsert, State.tpRun_runs h hb]
  exact congrArg Host.Outcome.next (if_neg (by rw [hf]; decide))

/-- What is done with prefixes leaves the window's code, the prefixes set, the Halter and the queue. -/
theorem State.prefixesDone (u : State) (l : List Prefix) (ws : List (Nat × Nat)) (who c : Nat) (r : Bytes) :
    ((((u.setPrefixes l).rewriteWords ws).tpDone who c r).window who).code = c ∧
    (((u.setPrefixes l).rewriteWords ws).tpDone who c r).tables.prefixes = l ∧
    (((u.setPrefixes l).rewriteWords ws).tpDone who c r).tables.halter = u.tables.halter ∧
    (((u.setPrefixes l).rewriteWords ws).tpDone who c r).tables.ops = u.tables.ops := by
  refine ⟨State.code_tpDone .., ?_, ?_, ?_⟩ <;> simp only [State.tpDone_keeps ..] <;> rfl

/-- A code that leaves the prefixes as they were. -/
theorem State.codeDone (u : State) (who c : Nat) (r : Bytes) : ((u.tpDone who c r).window who).code = c ∧
    (u.tpDone who c r).tables.prefixes = u.tables.prefixes ∧ (u.tpDone who c r).tables.ops = u.tables.ops := by
  refine ⟨State.code_tpDone .., ?_, ?_⟩ <;> simp only [State.tpDone_keeps ..]

theorem State.prefixes_tpTaken (s : State) : s.tpTaken.tables.prefixes = s.tables.prefixes := rfl

theorem State.ops_tpTaken (s : State) : s.tpTaken.tables.ops = s.tables.ops.drop 1 := rfl

/-- A delete of the front, with F in its range, of an entry that is held. -/
theorem exec_brDelete_held {old : Prefix} (ws : List (Nat × Nat)) (h : s.tpFront 0x02 = some o) (hb : tpBarred o.who = false)
    (hf : tpFamOk o.arg = true) (hp : prefixArg (tpArg o.arg 0 1) (tpV4 o.arg) (tpPrefix o.arg) (tpArg o.arg 18 1) = none)
    (hn : s.argHeld o.arg = some old) : exec (.brDelete ws) s =
      .next (((s.tpTaken.setPrefixes (s.tables.prefixes.filter fun q => q != old)).rewriteWords ws).tpDone o.who 0x00) := by
  rw [exec_brDelete, execBrDelete, State.tpRun_runs h hb]
  refine congrArg Host.Outcome.next ((if_neg (by rw [hf]; decide)).trans ?_)
  simp only [hp]
  split
  next q hold =>
    obtain rfl := Option.some.inj (hn.symm.trans hold)
    rw [State.prefixes_tpTaken]
  next hno => exact absurd (hn.symm.trans hno) (Option.some_ne_none _)

theorem exec_brDelete_absent (ws : List (Nat × Nat)) (h : s.tpFront 0x02 = some o) (hb : tpBarred o.who = false)
    (hf : tpFamOk o.arg = true) (hp : prefixArg (tpArg o.arg 0 1) (tpV4 o.arg) (tpPrefix o.arg) (tpArg o.arg 18 1) = none)
    (hn : s.argHeld o.arg = none) : exec (.brDelete ws) s =
      .next (s.tpTaken.tpDone o.who 0x10) := by
  rw [exec_brDelete, execBrDelete, State.tpRun_runs h hb]
  refine congrArg Host.Outcome.next ((if_neg (by rw [hf]; decide)).trans ?_)
  simp only [hp]
  split
  next hold => exact absurd (hold.symm.trans hn) (Option.some_ne_none _)
  next => rfl

/-- A read of the front, with F in its range, of an entry that is held. -/
theorem exec_brRead_held {p : Prefix} (h : s.tpFront 0x03 = some o) (hf : tpFamOk o.arg = true)
    (hp : prefixArg (tpArg o.arg 0 1) (tpV4 o.arg) (tpPrefix o.arg) (tpArg o.arg 18 1) = none)
    (hn : s.argHeld o.arg = some p) :
    exec (.brRead none) s = .next (s.tpTaken.tpDone o.who 0x00 (leBytes 4 p.result)) := by
  have hhit : s.tpTaken.bridleHit (tpArg o.arg 0 1) (tpV4 o.arg) (tpPrefix o.arg) none = none := rfl
  rw [exec_brRead, execBrRead, State.tpRead_runs h]
  refine congrArg Host.Outcome.next ((if_neg (by rw [hf]; decide)).trans ?_)
  simp only [hp, hhit]
  split
  next q hold =>
    obtain rfl := Option.some.inj (hn.symm.trans hold)
    rfl
  next hno => exact absurd (hn.symm.trans hno) (Option.some_ne_none _)

/-- A read of the front whose walk meets a failed word. -/
theorem exec_brRead_fails {w : Nat × Nat} (h : s.tpFront 0x03 = some o) (hf : tpFamOk o.arg = true)
    (hp : prefixArg (tpArg o.arg 0 1) (tpV4 o.arg) (tpPrefix o.arg) (tpArg o.arg 18 1) = none)
    (hr : s.bridleReads (tpArg o.arg 0 1) (tpV4 o.arg) (tpPrefix o.arg) w.1 = true) :
    exec (.brRead (some w)) s = .next ((s.tpTaken.bridleBad w (tpArg o.arg 0 1)).tpDone o.who 0x16) := by
  have hhit : s.tpTaken.bridleHit (tpArg o.arg 0 1) (tpV4 o.arg) (tpPrefix o.arg) (some w) = some w := if_pos hr
  rw [exec_brRead, execBrRead, State.tpRead_runs h]
  refine congrArg Host.Outcome.next ((if_neg (by rw [hf]; decide)).trans ?_)
  simp only [hp, hhit]

/-- A failed word is counted as a memory's error, and the prefixes stay. -/
theorem State.bridleBad_holds (s : State) (w : Nat × Nat) (inst : Nat) : (s.bridleBad w inst).tables.prefixes = s.tables.prefixes ∧
    (s.bridleBad w inst).rd (Key.memErr 5) = satAdd u32Max (s.rd (Key.memErr 5)) 1 := by
  have hfound : (s.memFound 5 .uncorrectable w.2).rd (Key.memErr 5) = satAdd u32Max (s.rd (Key.memErr 5)) 1 := by
    rw [State.memFound, State.post_rd (by decide), State.rd_bump_ne _ _ (by decide), State.rd_bump_self]
  have hprefixes : (s.memFound 5 .uncorrectable w.2).tables.prefixes = s.tables.prefixes := by simp only [State.memFound_keeps ..]
  unfold State.bridleBad
  generalize s.memFound 5 .uncorrectable w.2 = u at *
  extract_lets v arg
  have hpost (t : State) (hp : t.tables.prefixes = s.tables.prefixes) (hr : t.rd (Key.memErr 5) = satAdd u32Max (s.rd (Key.memErr 5)) 1) :
      (t.post .brParity 0x4200 arg inst 194).tables.prefixes = s.tables.prefixes ∧
      (t.post .brParity 0x4200 arg inst 194).rd (Key.memErr 5) = satAdd u32Max (s.rd (Key.memErr 5)) 1 :=
    ⟨by simp only [State.post_keeps .., hp], by rw [State.post_rd (by decide), hr]⟩
  split
  · exact ⟨hprefixes, hfound⟩
  · split
    · exact hpost { u with tables := { u.tables with badWords := u.tables.badWords ++ [w] } } hprefixes
        ((State.rd_of_nums (s := u) rfl _).trans hfound)
    · exact hpost _ hprefixes hfound

/-! ### Next hops and copy lists (R330) -/

/-- The next hop that the arguments give. -/
def argHop (x : Bytes) : NextHop := { mac := beNat (slice x 2 6), vlan := tpArg x 8 2, output := tpArg x 10 1 }

theorem exec_nhWrite_runs (h : s.tpFront 0x08 = some o) (hb : tpBarred o.who = false) (hn : tpArg o.arg 0 2 ≤ 4095)
    (hv : tpArg o.arg 8 2 ≤ 4094) (ho : tpArg o.arg 10 1 = 4 ∨ tpArg o.arg 10 1 = 5) (hput : tpArg o.arg 11 1 % 2 = 1) :
    exec .nhWrite s = .next (({ s.tpTaken with tables := { s.tpTaken.tables with
      nextHops := KMap.put s.tpTaken.tables.nextHops (tpArg o.arg 0 2) (argHop o.arg) } } : State).tpDone o.who 0x00) := by
  rw [exec_nhWrite, execNhWrite, State.tpRun_runs h hb]
  refine congrArg Host.Outcome.next ((if_neg ?_).trans ?_)
  · rintro (h | h | h)
    · omega
    · exact absurd h (by change ¬ 4094 < tpArg o.arg 8 2; omega)
    · exact h ho
  · rw [if_pos hput]
    rfl

theorem exec_clWrite_runs (h : s.tpFront 0x09 = some o) (hb : tpBarred o.who = false) (hn : tpArg o.arg 0 2 ≤ 2047)
    (hl : ∀ e ∈ copyEntries o.arg, e.output ≤ 11) : exec .clWrite s = .next (({ s.tpTaken with tables := { s.tpTaken.tables with
      copyLists := KMap.setD s.tpTaken.tables.copyLists [] (tpArg o.arg 0 2) (copyEntries o.arg) } } : State).tpDone o.who 0x00) := by
  rw [exec_clWrite, execClWrite, State.tpRun_runs h hb]
  refine congrArg Host.Outcome.next (if_neg ?_)
  rintro (h | h)
  · omega
  · obtain ⟨e, he, hlt⟩ := List.any_eq_true.mp h
    exact absurd (of_decide_eq_true hlt) (by have := hl e he; omega)

/-- A requester that may not change tables gets 0x11, and they stay. -/
theorem State.barredDone (s : State) (who : Nat) : ((s.tpTaken.tpDone who 0x11).window who).code = 0x11 ∧
    (s.tpTaken.tpDone who 0x11).tables.prefixes = s.tables.prefixes ∧ (s.tpTaken.tpDone who 0x11).tables.nextHops = s.tables.nextHops ∧
    (s.tpTaken.tpDone who 0x11).tables.copyLists = s.tables.copyLists ∧ (s.tpTaken.tpDone who 0x11).tables.halter = s.tables.halter := by
  refine ⟨State.code_tpDone .., ?_, ?_, ?_, ?_⟩ <;> simp only [State.tpDone_keeps ..] <;> rfl

theorem brRefused (ws : List (Nat × Nat)) (hb : tpBarred o.who = true) :
    (s.tpFront 0x01 = some o → Gives (exec (.brInsert ws) s) fun t => (t.window o.who).code = 0x11 ∧ t.tables.prefixes = s.tables.prefixes) ∧
    (s.tpFront 0x02 = some o → Gives (exec (.brDelete ws) s) fun t => (t.window o.who).code = 0x11 ∧ t.tables.prefixes = s.tables.prefixes) ∧
    (s.tpFront 0x04 = some o → Gives (exec (.brFlush ws) s) fun t => (t.window o.who).code = 0x11 ∧ t.tables.prefixes = s.tables.prefixes) ∧
    (s.tpFront 0x08 = some o → Gives (exec .nhWrite s) fun t => (t.window o.who).code = 0x11 ∧ t.tables.nextHops = s.tables.nextHops) ∧
    (s.tpFront 0x09 = some o → Gives (exec .clWrite s) fun t => (t.window o.who).code = 0x11 ∧ t.tables.copyLists = s.tables.copyLists) := by
  obtain ⟨hcode, hpre, hhop, hcopy, -⟩ := s.barredDone o.who
  refine ⟨fun h => ?_, fun h => ?_, fun h => ?_, fun h => ?_, fun h => ?_⟩
  · rw [exec_brInsert, execBrInsert, State.tpRun_barred h hb, gives_next]
    exact ⟨hcode, hpre⟩
  · rw [exec_brDelete, execBrDelete, State.tpRun_barred h hb, gives_next]
    exact ⟨hcode, hpre⟩
  · rw [exec_brFlush, execBrFlush, State.tpRun_barred h hb, gives_next]
    exact ⟨hcode, hpre⟩
  · rw [exec_nhWrite, execNhWrite, State.tpRun_barred h hb, gives_next]
    exact ⟨hcode, hhop⟩
  · rw [exec_clWrite, execClWrite, State.tpRun_barred h hb, gives_next]
    exact ⟨hcode, hcopy⟩

theorem brIdle (ws : List (Nat × Nat)) (bad : Option (Nat × Nat)) (s : State) :
    (s.tpFront 0x01 = none → Gives (exec (.brInsert ws) s) fun t => t = s) ∧ (s.tpFront 0x02 = none → Gives (exec (.brDelete ws) s) fun t => t = s) ∧
    (s.tpFront 0x03 = none → Gives (exec (.brRead bad) s) fun t => t = s) ∧ (s.tpFront 0x04 = none → Gives (exec (.brFlush ws) s) fun t => t = s) ∧
    (s.tpFront 0x08 = none → Gives (exec .nhWrite s) fun t => t = s) ∧ (s.tpFront 0x09 = none → Gives (exec .clWrite s) fun t => t = s) := by
  refine ⟨fun h => ?_, fun h => ?_, fun h => ?_, fun h => ?_, fun h => ?_, fun h => ?_⟩
  · rw [exec_brInsert, execBrInsert, State.tpRun_none h, gives_next]
  · rw [exec_brDelete, execBrDelete, State.tpRun_none h, gives_next]
  · rw [exec_brRead, execBrRead, State.tpRead_none h, gives_next]
  · rw [exec_brFlush, execBrFlush, State.tpRun_none h, gives_next]
  · rw [exec_nhWrite, execNhWrite, State.tpRun_none h, gives_next]
  · rw [exec_clWrite, execClWrite, State.tpRun_none h, gives_next]

/-- Settles O29: a case for each operation of the port on prefixes, next hops and copy lists. -/
theorem bridlePort : Obligations.BridlePort := by
  unfold Obligations.BridlePort
  refine ⟨fun o ws s h hb hf hp hr hn hl hfit => ?_, fun o ws old s h hb hf hp hr hn hfit => ?_, fun o ws c s h hb hf hp => ?_,
    fun o ws old s h hb hf hp hn => ?_, fun o ws s h hb hf hp hn => ?_, fun o p s h hf hp hn => ?_, fun o w s h hf hp hr => ?_,
    fun o ws s h hb hf => ?_, fun o s h hb hn hv ho hput => ?_, fun o s h hb hn hl => ?_, fun o ws s hb => brRefused ws hb, brIdle⟩
  · rw [exec_brInsert_runs ws h hb hf, State.brInsert_adds (s := s.tpTaken) (p := argPrefix o.arg) o.who ws hp hr hn hl hfit, gives_next]
    obtain ⟨hcode, hpre, hhal, hops⟩ := s.tpTaken.prefixesDone (s.tpTaken.tables.prefixes ++ [argPrefix o.arg]) ws o.who 0 []
    exact ⟨hpre, hcode, hhal, hops⟩
  · rw [exec_brInsert_runs ws h hb hf, State.brInsert_replaces (s := s.tpTaken) (p := argPrefix o.arg) o.who ws hp hr hn hfit, gives_next]
    obtain ⟨hcode, hpre, -⟩ := s.tpTaken.prefixesDone (s.tpTaken.tables.prefixes.map fun q => if q == old then argPrefix o.arg else q) ws o.who 1 []
    exact ⟨hcode, hpre⟩
  · rw [exec_brInsert_runs ws h hb hf, State.brInsert_illegal (p := argPrefix o.arg) o.who ws hp, gives_next]
    exact s.tpTaken.codeDone o.who c []
  · rw [exec_brDelete_held ws h hb hf hp hn, gives_next]
    obtain ⟨hcode, hpre, -⟩ := s.tpTaken.prefixesDone (s.tpTaken.tables.prefixes.filter fun q => q != old) ws o.who 0 []
    exact ⟨hcode, hpre⟩
  · rw [exec_brDelete_absent ws h hb hf hp hn, gives_next]
    obtain ⟨hcode, hpre, -⟩ := s.tpTaken.codeDone o.who 0x10 []
    exact ⟨hcode, hpre⟩
  · rw [exec_brRead_held h hf hp hn, gives_next]
    obtain ⟨hcode, hpre, -⟩ := s.tpTaken.codeDone o.who 0 (leBytes 4 p.result)
    exact ⟨hcode, State.ret_leBytes _ _ _ _ (by decide), hpre⟩
  · rw [exec_brRead_fails h hf hp hr, gives_next]
    obtain ⟨hpre, hrd⟩ := s.tpTaken.bridleBad_holds w (tpArg o.arg 0 1)
    obtain ⟨hcode, hpre', -⟩ := (s.tpTaken.bridleBad w (tpArg o.arg 0 1)).codeDone o.who 0x16 []
    refine ⟨hcode, hpre'.trans hpre, ?_⟩
    rw [← show s.tpTaken.rd (Key.memErr 5) = s.rd (Key.memErr 5) from rfl, ← hrd]
    simp only [State.rd, State.tpDone_keeps ..]
  · rw [exec_brFlush, execBrFlush, State.tpRun_runs h hb, if_neg (by rw [hf]; decide), gives_next]
    obtain ⟨hcode, hpre, -⟩ := s.tpTaken.prefixesDone
      (s.tpTaken.tables.prefixes.filter fun p => !(p.inst == tpArg o.arg 0 1 && p.v4 == tpV4 o.arg)) ws o.who 0
      (leBytes 4 (s.tpTaken.tables.prefixes.filter fun p => p.inst == tpArg o.arg 0 1 && p.v4 == tpV4 o.arg).length)
    exact ⟨hcode, hpre, State.ret_leBytes _ _ _ _ (by decide)⟩
  · rw [exec_nhWrite_runs h hb hn hv ho hput, gives_next]
    refine ⟨State.code_tpDone .., ?_⟩
    simp only [State.tpDone_keeps ..]
    exact ⟨KMap.find_put_self .., fun m hm => KMap.find_put_ne _ _ hm⟩
  · rw [exec_clWrite_runs h hb hn hl, gives_next]
    refine ⟨State.code_tpDone .., ?_⟩
    simp only [State.tpDone_keeps ..]
    exact ⟨KMap.getD_setD_self .., fun m hm => KMap.getD_setD_ne _ _ _ _ hm⟩

end Sys2Proof.Machine
end

section
/-! ## O30: the table port edits the Halter, and ages rise (R333, R334, R336 to R339, R341, R342, R347, R481) -/

namespace Sys2Proof.Machine

variable {s : State} {o : TpOp} {b t u : Nat}

/-! ### Lookups (R332 to R334) -/

/-- Whether way `w` of bucket `b` holds the key. -/
def State.wayHas (s : State) (b t u w : Nat) : Bool :=
  match KMap.find s.tables.halter (4 * b + w) with
  | some e => e.isKey t u
  | none => false

theorem State.halterFind_eq (s : State) (t u : Nat) : s.halterFind t u =
    match (List.range 4).find? (s.wayHas (halterBucket t u) t u) with
    | some w => (KMap.find s.tables.halter (4 * halterBucket t u + w)).map fun e => (e, .way w)
    | none =>
      match s.overflowWay (halterBucket t u) t u with
      | some w => (KMap.find s.tables.overflow (8 * (halterBucket t u % 1024) + w)).map fun o => (o.entry, .overflow w)
      | none => none := rfl

theorem State.wayHas_of_find {e : HalterEntry} {w : Nat} (h : KMap.find s.tables.halter (4 * b + w) = some e) :
    s.wayHas b t u w = e.isKey t u := by rw [State.wayHas, h]

theorem State.find_of_wayHas {w : Nat} (h : s.wayHas b t u w = true) : ∃ e, KMap.find s.tables.halter (4 * b + w) = some e := by
  cases he : KMap.find s.tables.halter (4 * b + w) with
  | some e => exact ⟨e, rfl⟩
  | none => rw [State.wayHas, he] at h; exact absurd h Bool.false_ne_true

/-- A key that is not held is in no way of its bucket. -/
theorem State.wayHas_of_absent (h : s.halterFind t u = none) {w : Nat} (hw : w < 4) : s.wayHas (halterBucket t u) t u w = false := by
  rw [State.halterFind_eq] at h
  cases hf : (List.range 4).find? (s.wayHas (halterBucket t u) t u) with
  | none => exact Bool.eq_false_iff.mpr (List.find?_eq_none.mp hf w (List.mem_range.mpr hw))
  | some v =>
    obtain ⟨e, he⟩ := State.find_of_wayHas (List.find?_some hf)
    rw [hf] at h
    simp only [he, Option.map_some] at h
    exact absurd h (Option.some_ne_none _)

/-- A key that is held in a way of its bucket: the first way that holds it, and its entry. -/
theorem State.way_of_halterFind {e : HalterEntry} {w : Nat} (h : s.halterFind t u = some (e, .way w)) :
    (List.range 4).find? (s.wayHas (halterBucket t u) t u) = some w ∧
    KMap.find s.tables.halter (4 * halterBucket t u + w) = some e := by
  rw [State.halterFind_eq] at h
  cases hf : (List.range 4).find? (s.wayHas (halterBucket t u) t u) with
  | some v =>
    rw [hf] at h
    obtain ⟨e', he, heq⟩ := Option.map_eq_some_iff.mp h
    obtain ⟨rfl, hv⟩ := Prod.mk.inj heq
    obtain rfl := HalterPlace.way.inj hv
    exact ⟨rfl, he⟩
  | none =>
    rw [hf] at h
    cases ho : s.overflowWay (halterBucket t u) t u with
    | none => simp only [ho] at h; exact absurd h.symm (Option.some_ne_none _)
    | some v =>
      simp only [ho] at h
      obtain ⟨e', -, heq⟩ := Option.map_eq_some_iff.mp h
      exact absurd (Prod.mk.inj heq).2 HalterPlace.noConfusion

theorem State.halterFind_of_way {e : HalterEntry} {w : Nat} (hf : (List.range 4).find? (s.wayHas (halterBucket t u) t u) = some w)
    (he : KMap.find s.tables.halter (4 * halterBucket t u + w) = some e) : s.halterFind t u = some (e, .way w) := by
  rw [State.halterFind_eq, hf]
  simp only [he, Option.map_some]

theorem State.find_halterPut_self (s : State) (b w : Nat) (e : HalterEntry) :
    KMap.find (s.halterPut b (.way w) e).tables.halter (4 * b + w) = some { e with setAt := s.elapsed } := KMap.find_put_self ..

theorem State.find_halterPut_ne (s : State) (b w : Nat) (e : HalterEntry) {k : Nat} (h : k ≠ 4 * b + w) :
    KMap.find (s.halterPut b (.way w) e).tables.halter k = KMap.find s.tables.halter k := KMap.find_put_ne _ _ h

theorem State.wayHas_halterPut (s : State) (w v : Nat) {e : HalterEntry} (h : e.isKey t u = true) :
    (s.halterPut b (.way w) e).wayHas b t u v = (decide (v = w) || s.wayHas b t u v) := by
  by_cases hv : v = w
  · subst hv
    rw [State.wayHas_of_find (s.find_halterPut_self b v e), decide_eq_true rfl, Bool.true_or]
    exact h
  · rw [decide_eq_false hv, Bool.false_or, State.wayHas, State.find_halterPut_ne _ _ _ _ (by omega), State.wayHas]

theorem find?_only {p : Nat → Bool} {w : Nat} {l : List Nat} (hw : w ∈ l) (h : ∀ v ∈ l, p v = decide (v = w)) : l.find? p = some w := by
  induction l with
  | nil => cases hw
  | cons x l ih =>
    by_cases hx : x = w
    · subst hx
      exact List.find?_cons_of_pos (by rw [h x List.mem_cons_self]; exact decide_eq_true rfl)
    · rw [List.find?_cons_of_neg (by rw [h x List.mem_cons_self, decide_eq_false hx]; decide)]
      exact ih (List.mem_of_ne_of_mem (Ne.symm hx) hw) fun v hv => h v (List.mem_cons_of_mem _ hv)

theorem find?_congr {p q : Nat → Bool} {l : List Nat} (h : ∀ v ∈ l, p v = q v) : l.find? p = l.find? q := by
  induction l with
  | nil => rfl
  | cons x l ih => rw [List.find?_cons, List.find?_cons, h x List.mem_cons_self, ih fun v hv => h v (List.mem_cons_of_mem _ hv)]

/-- An entry that takes a free way of its key's bucket is found there. -/
theorem State.halterFind_halterPut_new {e : HalterEntry} {w : Nat} (h : s.halterFind t u = none) (hw : w < 4) (hk : e.isKey t u = true) :
    (s.halterPut (halterBucket t u) (.way w) e).halterFind t u = some ({ e with setAt := s.elapsed }, .way w) := by
  refine State.halterFind_of_way (find?_only (List.mem_range.mpr hw) fun v hv => ?_) (State.find_halterPut_self ..)
  rw [State.wayHas_halterPut s w v hk, State.wayHas_of_absent h (List.mem_range.mp hv), Bool.or_false]

/-- An entry that replaces its key's is found where that was. -/
theorem State.halterFind_halterPut_held {e old : HalterEntry} {w : Nat} (h : s.halterFind t u = some (old, .way w)) (hk : e.isKey t u = true) :
    (s.halterPut (halterBucket t u) (.way w) e).halterFind t u = some ({ e with setAt := s.elapsed }, .way w) := by
  obtain ⟨hf, he⟩ := State.way_of_halterFind h
  refine State.halterFind_of_way ((find?_congr fun v _ => ?_).trans hf) (State.find_halterPut_self ..)
  rw [State.wayHas_halterPut s w v hk]
  by_cases hv : v = w
  · subst hv
    rw [decide_eq_true rfl, Bool.true_or, List.find?_some hf]
  · rw [decide_eq_false hv, Bool.false_or]

theorem State.freeWay_lt {w : Nat} (h : s.freeWay b = some w) : w < 4 := by
  unfold State.freeWay at h
  extract_lets free at h
  have hmem : w ∈ free := by
    split at h
    next v hv =>
      obtain rfl := Option.some.inj h
      exact List.mem_of_find?_eq_some hv
    next => exact List.mem_of_mem_head? (Option.mem_def.mpr h)
  exact List.mem_range.mp (List.mem_filter.mp hmem).1

/-! ### Inserts (R342) -/

theorem State.halterCheck_zero (s : State) (b : Nat) : s.halterCheck b 0 = s := by
  have h4 : (List.range 4).filter (fun w => bitOf 0 w) = [] := by decide
  have h8 : (List.range 8).filter (fun w => bitOf 0 (4 + w)) = [] := by decide
  rw [State.halterCheck, h4, h8]
  rfl

/-- The entry that the arguments of an insert give. -/
def argEntry (x : Bytes) : HalterEntry :=
  { age := 0, tenant := tpArg x 0 1, euiHi := tpArg x 1 8 / 2 ^ 18, device := tpArg x 9 1, record := tpArg x 10 2,
    parent := if tpArg x 12 2 = 0 then none else some (tpArg x 12 2 - 0x4000), setAt := 0 }

theorem argEntry_isKey (x : Bytes) : (argEntry x).isKey (tpArg x 0 1) (tpArg x 1 8) = true := by simp [argEntry, HalterEntry.isKey]

/-- The arguments of an insert that lie in their ranges (R337). -/
def InsertLegal (x : Bytes) : Prop :=
  tpArg x 9 1 ≤ 63 ∧ tpArg x 10 2 ≤ 16383 ∧ (tpArg x 12 2 = 0 ∨ (0x4000 ≤ tpArg x 12 2 ∧ tpArg x 12 2 ≤ 0x7FFF))

theorem exec_haInsert_runs (h : s.tpFront 0x10 = some o) (hb : tpBarred o.who = false) (hl : InsertLegal o.arg) :
    exec (.haInsert 0) s = .next (s.tpTaken.haInsert o.who (tpArg o.arg 1 8) (argEntry o.arg) (tpArg o.arg 14 1 != 0)) := by
  obtain ⟨hd, hr, hp⟩ := hl
  rw [exec_haInsert, execHaInsert, State.tpRun_runs h hb]
  refine congrArg Host.Outcome.next ((if_neg (by omega)).trans ?_)
  rw [State.halterCheck_zero]
  rfl

theorem State.haInsert_free {e : HalterEntry} {w : Nat} (who u : Nat) (ne : Bool) (h : s.halterFind e.tenant u = none)
    (hw : s.freeWay (halterBucket e.tenant u) = some w) :
    s.haInsert who u e ne = (s.halterPut (halterBucket e.tenant u) (.way w) e).tpDone who 0x00 := by
  rw [State.haInsert]
  simp only [h, hw]

theorem State.haInsert_held {e old : HalterEntry} {p : HalterPlace} (who u : Nat) (ne : Bool) (h : s.halterFind e.tenant u = some (old, p)) :
    s.haInsert who u e ne = (s.halterPut (halterBucket e.tenant u) p e).tpDone who 0x01 := by
  rw [State.haInsert]
  simp only [h]

theorem State.haInsert_full {e : HalterEntry} (who u : Nat) (h : s.halterFind e.tenant u = none)
    (hw : s.freeWay (halterBucket e.tenant u) = none) (ho : s.freeOverflow (halterBucket e.tenant u) = none) :
    s.haInsert who u e true = s.tpDone who 0x15 := by
  rw [State.haInsert]
  simp only [h, hw, ho, if_true]

/-- The state of an eviction once the victim is noticed and counted. -/
def State.evicted (s : State) (b : Nat) (old : HalterEntry) : State :=
  ((s.victim b).2.notice 4 old.tenant (entryEui b old) 0xFFFE 0xFFFE (some old)).bump Key.halterEvictions

theorem State.haInsert_evicts {e old : HalterEntry} (who u : Nat) (h : s.halterFind e.tenant u = none)
    (hw : s.freeWay (halterBucket e.tenant u) = none) (ho : s.freeOverflow (halterBucket e.tenant u) = none)
    (hv : KMap.find s.tables.halter (4 * halterBucket e.tenant u + (s.victim (halterBucket e.tenant u)).1) = some old) :
    s.haInsert who u e false = ((s.evicted (halterBucket e.tenant u) old).halterPut (halterBucket e.tenant u)
      (.way (s.victim (halterBucket e.tenant u)).1) e).tpDone who 0x02 (leBytes 12 old.raw) := by
  rw [State.haInsert]
  simp only [h, hw, ho, Bool.false_eq_true, if_false, hv]
  rfl

theorem State.victim_tpTaken (s : State) (b : Nat) : (s.tpTaken.victim b).1 = (s.victim b).1 := by
  have hrd : s.tpTaken.rd Key.halterEvict = s.rd Key.halterEvict := rfl
  by_cases h : s.rd Key.halterEvict = 1
  · have ht : s.tpTaken.victim b = _ := if_pos (hrd.trans h)
    have hs : s.victim b = _ := if_pos h
    rw [ht, hs]
    rfl
  · have ht : s.tpTaken.victim b = _ := if_neg fun h' => h (hrd.symm.trans h')
    have hs : s.victim b = _ := if_neg h
    rw [ht, hs]
    rfl

theorem State.victim_same (s : State) (b : Nat) : (∀ k, (s.victim b).2.rd k = s.rd k) ∧ (s.victim b).2.elapsed = s.elapsed := by
  unfold State.victim
  extract_lets age other cand
  split
  · exact ⟨fun _ => rfl, rfl⟩
  · exact ⟨fun _ => State.rd_of_nums (s := s) rfl _, rfl⟩

theorem State.evicted_holds (s : State) (b : Nat) (old : HalterEntry) :
    (s.evicted b old).rd Key.halterEvictions = satAdd u32Max (s.rd Key.halterEvictions) 1 ∧ (s.evicted b old).elapsed = s.elapsed := by
  obtain ⟨hrd, hel⟩ := s.victim_same b
  unfold State.evicted
  rw [State.rd_bump_self, State.notice_rd (by decide), hrd]
  refine ⟨rfl, ?_⟩
  rw [← hel]
  simp only [State.elapsed, State.bump_keeps .., State.notice_keeps ..]

/-- What an operation that wrote an entry leaves when it ends. -/
theorem State.halterDone (v : State) (who c : Nat) (r : Bytes) : ((v.tpDone who c r).window who).code = c ∧
    (v.tpDone who c r).tables.halter = v.tables.halter ∧ (v.tpDone who c r).tables.overflow = v.tables.overflow ∧
    (v.tpDone who c r).tables.prefixes = v.tables.prefixes ∧ (v.tpDone who c r).tables.ops = v.tables.ops ∧
    (∀ t u, (v.tpDone who c r).halterFind t u = v.halterFind t u) ∧ ∀ k, (v.tpDone who c r).rd k = v.rd k := by
  refine ⟨State.code_tpDone .., ?_, ?_, ?_, ?_, fun t u => ?_, fun k => ?_⟩ <;> simp only [State.rd, State.tpDone_keeps ..]

theorem State.halterFind_tpTaken (s : State) (t u : Nat) : s.tpTaken.halterFind t u = s.halterFind t u := rfl

/-! ### Deletes and reads (R337, R338, R341, R347) -/

theorem exec_haDelete_runs (h : s.tpFront 0x11 = some o) (hb : tpBarred o.who = false) {e : HalterEntry} {w : Nat}
    (hf : s.halterFind (tpArg o.arg 0 1) (tpArg o.arg 1 8) = some (e, .way w)) : exec (.haDelete 0) s = .next
      (((s.tpTaken.halterFree (halterBucket (tpArg o.arg 0 1) (tpArg o.arg 1 8)) (.way w)).pullOverflow
        (halterBucket (tpArg o.arg 0 1) (tpArg o.arg 1 8)) w).tpDone o.who 0x00) := by
  rw [exec_haDelete, execHaDelete, State.tpRun_runs h hb]
  simp only [State.halterCheck_zero, State.halterFind_tpTaken, hf]

theorem exec_haDelete_absent (h : s.tpFront 0x11 = some o) (hb : tpBarred o.who = false)
    (hf : s.halterFind (tpArg o.arg 0 1) (tpArg o.arg 1 8) = none) : exec (.haDelete 0) s = .next (s.tpTaken.tpDone o.who 0x10) := by
  rw [exec_haDelete, execHaDelete, State.tpRun_runs h hb]
  simp only [State.halterCheck_zero, State.halterFind_tpTaken, hf]

theorem State.pullOverflow_none (h : s.tables.overflow = []) (b w : Nat) : s.pullOverflow b w = s := by
  unfold State.pullOverflow
  rw [h]
  split
  next v hv => exact absurd (List.find?_some hv) Bool.false_ne_true
  next => rfl

theorem exec_haRead_found {e : HalterEntry} {p : HalterPlace} (h : s.tpFront 0x12 = some o)
    (hf : s.halterFind (tpArg o.arg 0 1) (tpArg o.arg 1 8) = some (e, p)) : ∃ rest, exec (.haRead 0) s =
      .next (s.tpTaken.tpDone o.who 0x00 (leBytes 12 e.raw ++ rest)) := by
  rw [exec_haRead, execHaRead, State.tpRead_runs h]
  simp only [State.halterCheck_zero, State.halterFind_tpTaken, hf, List.append_assoc]
  exact ⟨_, rfl⟩

theorem exec_haRead_absent (h : s.tpFront 0x12 = some o) (hf : s.halterFind (tpArg o.arg 0 1) (tpArg o.arg 1 8) = none) :
    exec (.haRead 0) s = .next (s.tpTaken.tpDone o.who 0x10) := by
  rw [exec_haRead, execHaRead, State.tpRead_runs h]
  simp only [State.halterCheck_zero, State.halterFind_tpTaken, hf, Option.isSome_none, Bool.false_eq_true, if_false]

/-- The bytes of way `w` of bucket `b`. -/
def State.wayBytes (s : State) (b w : Nat) : Bytes :=
  match KMap.find s.tables.halter (4 * b + w) with
  | some e => leBytes 12 e.raw
  | none => zeros 12

/-- What a read of bucket `b` returns: its ways, and its entries in the overflow set. -/
def State.bucketBytes (s : State) (b : Nat) : Bytes :=
  (List.range 4).flatMap (s.wayBytes b) ++ (List.range 8).flatMap fun w =>
    match KMap.find s.tables.overflow (8 * (b % 1024) + w) with
    | some o => if o.bucketHi = b / 1024 then leBytes 12 o.entry.raw else []
    | none => []

/-- A read of bucket `b` whose ways in `bad` fail. -/
def State.bucketRead (s : State) (who b bad : Nat) : State :=
  if (s.halterCheck b bad).bucketBytes b = s.bucketBytes b then (s.halterCheck b bad).tpDone who 0x00 (s.bucketBytes b)
  else (s.halterCheck b bad).tpDone who 0x16

theorem exec_haReadBucket_runs (bad : Nat) (h : s.tpFront 0x13 = some o) :
    exec (.haReadBucket bad) s = .next (s.tpTaken.bucketRead o.who (tpArg o.arg 0 2) bad) := by
  rw [exec_haReadBucket, execHaReadBucket, State.tpRead_runs h]
  rfl

theorem State.take_bucketBytes (s : State) (b : Nat) : (s.bucketBytes b).take 12 = s.wayBytes b 0 := by
  have hlen : (s.wayBytes b 0).length = 12 := by
    unfold State.wayBytes
    split
    · exact length_leBytes ..
    · rfl
  rw [State.bucketBytes, List.range_succ_eq_map, List.flatMap_cons, List.append_assoc, List.take_left' hlen]

theorem State.wayBytes_zero_of_find {e : HalterEntry} (h : KMap.find s.tables.halter (4 * b) = some e) : s.wayBytes b 0 = leBytes 12 e.raw := by
  rw [State.wayBytes, Nat.add_zero, h]

/-- A read whose way 0 fails its check: the entry leaves the table and is counted. -/
theorem State.halterCheck_one {e : HalterEntry} (h : KMap.find s.tables.halter (4 * b) = some e) :
    KMap.find (s.halterCheck b 1).tables.halter (4 * b) = none ∧
    (s.halterCheck b 1).rd Key.halterParityErr = satAdd u32Max (s.rd Key.halterParityErr) 1 := by
  have h4 : (List.range 4).filter (fun w => bitOf 1 w) = [0] := by decide
  have h8 : (List.range 8).filter (fun w => bitOf 1 (4 + w)) = [] := by decide
  have hsome : ¬ (KMap.find s.tables.halter (4 * b + 0)).isNone = true := by rw [Nat.add_zero, h]; exact Bool.false_ne_true
  rw [State.halterCheck, h4, h8]
  change KMap.find (s.halterParity b (.way 0)).tables.halter (4 * b) = none ∧
    (s.halterParity b (.way 0)).rd Key.halterParityErr = satAdd u32Max (s.rd Key.halterParityErr) 1
  rw [State.halterParity]
  dsimp only
  rw [if_neg hsome]
  constructor
  · simp only [State.post_keeps .., State.memFound_keeps .., State.bump_keeps ..]
    exact KMap.find_drop_self ..
  · rw [State.post_rd (by decide), State.memFound_rd (by decide)]
    exact (State.rd_of_nums (s := (s.halterFree b (.way 0)).bump Key.halterParityErr) rfl _).trans (State.rd_bump_self ..)

/-! ### Ages (R336) -/

/-- The entry as the ageing at `now` leaves it. -/
def HalterEntry.older (e : HalterEntry) (now : Nat) : HalterEntry :=
  if e.setAt = now ∧ e.age = 0 then e else { e with age := min 15 (e.age + 1) }

/-- The state after the ageing may have been due. -/
def State.halterAged (s : State) : State :=
  if s.elapsed < s.tables.ageNext then s
  else { s with tables := { s.tables with
    ageNext := s.tables.ageNext + ms 4096000
    halter := s.tables.halter.map (fun p => (p.1, p.2.older s.elapsed))
    overflow := s.tables.overflow.map (fun p => (p.1, { p.2 with entry := p.2.entry.older s.elapsed })) } }

theorem exec_halterAgeing_eq (dt : Nat) (s : State) : exec (.halterAgeing dt) s = .next (s.advance dt).halterAged := rfl

theorem State.halterAged_ages (h : s.tables.ageNext ≤ s.elapsed) : s.halterAged.tables.ageNext = s.tables.ageNext + ms 4096000 ∧
    s.halterAged.tables.halter = s.tables.halter.map (fun p => (p.1, p.2.older s.elapsed)) ∧
    s.halterAged.tables.prefixes = s.tables.prefixes := by
  rw [State.halterAged, if_neg (by omega)]
  exact ⟨rfl, rfl, rfl⟩

/-- Settles O30: a case for each operation of the port on the Halter, and for its ageing. -/
theorem halterPort : Obligations.HalterPort := by
  unfold Obligations.HalterPort
  refine ⟨fun o b w s h hb hd hr hp hn hbk hw => ?_, fun o old p s h hb hd hr hp hf => ?_,
    fun o b s h hb hd hr hp hn hbk hw ho hne => ?_, fun o b old s h hb hd hr hp hn hbk hw ho hne hv => ?_,
    fun o b e w s h hb hf hbk ho => ?_, fun o s h hb hf => ?_, fun o e p s h hf => ?_, fun o s h hf => ?_, fun o e s h he => ?_,
    fun o e s h he hz => ?_, fun o bad s hb => ⟨fun h => ?_, fun h => ?_⟩, fun bad s => ⟨fun h => ?_, fun h => ?_, fun h => ?_, fun h => ?_⟩,
    fun dt s h => ?_, fun dt s h => ?_⟩
  · subst hbk
    rw [exec_haInsert_runs h hb ⟨hd, hr, hp⟩, State.haInsert_free (s := s.tpTaken) (e := argEntry o.arg) o.who _ _ hn hw, gives_next]
    obtain ⟨hcode, -, hover, hpre, hops, hfind, -⟩ := State.halterDone
      (s.tpTaken.halterPut (halterBucket (tpArg o.arg 0 1) (tpArg o.arg 1 8)) (.way w) (argEntry o.arg)) o.who 0 []
    refine ⟨hcode, (hfind _ _).trans ?_, hover, hpre, hops⟩
    exact State.halterFind_halterPut_new (s := s.tpTaken) hn (State.freeWay_lt hw) (argEntry_isKey o.arg)
  · rw [exec_haInsert_runs h hb ⟨hd, hr, hp⟩, State.haInsert_held (s := s.tpTaken) (e := argEntry o.arg) o.who _ _ hf, gives_next]
    obtain ⟨hcode, -, -, -, -, hfind, -⟩ := State.halterDone
      (s.tpTaken.halterPut (halterBucket (tpArg o.arg 0 1) (tpArg o.arg 1 8)) (.way p) (argEntry o.arg)) o.who 1 []
    exact ⟨hcode, (hfind _ _).trans (State.halterFind_halterPut_held (s := s.tpTaken) hf (argEntry_isKey o.arg))⟩
  · subst hbk
    rw [exec_haInsert_runs h hb ⟨hd, hr, hp⟩, show (tpArg o.arg 14 1 != 0) = true by simpa using hne,
      State.haInsert_full (s := s.tpTaken) (e := argEntry o.arg) o.who _ hn hw ho, gives_next]
    obtain ⟨hcode, hhal, hover, -⟩ := s.tpTaken.halterDone o.who 0x15 []
    exact ⟨hcode, hhal, hover⟩
  · subst hbk
    rw [exec_haInsert_runs h hb ⟨hd, hr, hp⟩, show (tpArg o.arg 14 1 != 0) = false by simpa using hne,
      State.haInsert_evicts (s := s.tpTaken) (e := argEntry o.arg) o.who _ hn hw ho (State.victim_tpTaken s _ ▸ hv), State.victim_tpTaken,
      gives_next]
    obtain ⟨hcount, hel⟩ := s.tpTaken.evicted_holds (halterBucket (argEntry o.arg).tenant (tpArg o.arg 1 8)) old
    generalize s.tpTaken.evicted (halterBucket (argEntry o.arg).tenant (tpArg o.arg 1 8)) old = v at *
    obtain ⟨hcode, hhal, -, -, -, -, hrd⟩ := State.halterDone (v.halterPut (halterBucket (argEntry o.arg).tenant (tpArg o.arg 1 8))
      (.way (s.victim (halterBucket (argEntry o.arg).tenant (tpArg o.arg 1 8))).1) (argEntry o.arg)) o.who 2 (leBytes 12 old.raw)
    refine ⟨hcode, State.ret_leBytes _ _ _ _ (by decide), ?_, ?_⟩
    · refine (congrArg (KMap.find · _) hhal).trans ((State.find_halterPut_self ..).trans ?_)
      rw [hel]
      rfl
    · exact (hrd _).trans ((State.rd_of_nums (s := v) rfl _).trans hcount)
  · subst hbk
    rw [exec_haDelete_runs h hb hf, State.pullOverflow_none (by exact ho), gives_next]
    obtain ⟨hcode, hhal, -⟩ := State.halterDone
      (s.tpTaken.halterFree (halterBucket (tpArg o.arg 0 1) (tpArg o.arg 1 8)) (.way w)) o.who 0 []
    rw [hhal]
    exact ⟨hcode, KMap.find_drop_self .., fun k hk => KMap.find_drop_ne _ hk⟩
  · rw [exec_haDelete_absent h hb hf, gives_next]
    obtain ⟨hcode, hhal, -⟩ := s.tpTaken.halterDone o.who 0x10 []
    exact ⟨hcode, hhal⟩
  · obtain ⟨rest, hex⟩ := exec_haRead_found h hf
    rw [hex, gives_next]
    obtain ⟨hcode, hhal, -⟩ := s.tpTaken.halterDone o.who 0 (leBytes 12 e.raw ++ rest)
    refine ⟨hcode, ?_, hhal⟩
    rw [State.ret_take _ _ _ (by rw [List.length_append, length_leBytes]; omega) (by decide), List.take_left' (length_leBytes ..)]
  · rw [exec_haRead_absent h hf, gives_next]
    obtain ⟨hcode, hhal, -⟩ := s.tpTaken.halterDone o.who 0x10 []
    exact ⟨hcode, hhal⟩
  · rw [exec_haReadBucket_runs 0 h, State.bucketRead, State.halterCheck_zero, if_pos rfl, gives_next]
    obtain ⟨hcode, hhal, -⟩ := s.tpTaken.halterDone o.who 0 (s.tpTaken.bucketBytes (tpArg o.arg 0 2))
    have htake := s.tpTaken.take_bucketBytes (tpArg o.arg 0 2)
    rw [State.wayBytes_zero_of_find (s := s.tpTaken) he] at htake
    have hlen : 12 ≤ (s.tpTaken.bucketBytes (tpArg o.arg 0 2)).length := by
      have := congrArg List.length htake
      rw [List.length_take, length_leBytes] at this
      omega
    exact ⟨hcode, (State.ret_take _ _ _ hlen (by decide)).trans htake, hhal⟩
  · obtain ⟨hnone, hcount⟩ := State.halterCheck_one (s := s.tpTaken) he
    have hne : ¬ (s.tpTaken.halterCheck (tpArg o.arg 0 2) 1).bucketBytes (tpArg o.arg 0 2) = s.tpTaken.bucketBytes (tpArg o.arg 0 2) := by
      intro heq
      have htake := congrArg (List.take 12) heq
      rw [State.take_bucketBytes, State.take_bucketBytes, State.wayBytes_zero_of_find (s := s.tpTaken) he, State.wayBytes, Nat.add_zero, hnone] at htake
      exact hz htake.symm
    rw [exec_haReadBucket_runs 1 h, State.bucketRead, if_neg hne, gives_next]
    obtain ⟨hcode, hhal, -, -, -, -, hrd⟩ := (s.tpTaken.halterCheck (tpArg o.arg 0 2) 1).halterDone o.who 0x16 []
    exact ⟨hcode, by rw [hhal]; exact hnone, (hrd _).trans hcount⟩
  · rw [exec_haInsert, execHaInsert, State.tpRun_barred h hb, gives_next]
    obtain ⟨hcode, -, -, -, hhal⟩ := s.barredDone o.who
    exact ⟨hcode, hhal⟩
  · rw [exec_haDelete, execHaDelete, State.tpRun_barred h hb, gives_next]
    obtain ⟨hcode, -, -, -, hhal⟩ := s.barredDone o.who
    exact ⟨hcode, hhal⟩
  · rw [exec_haInsert, execHaInsert, State.tpRun_none h, gives_next]
  · rw [exec_haDelete, execHaDelete, State.tpRun_none h, gives_next]
  · rw [exec_haRead, execHaRead, State.tpRead_none h, gives_next]
  · rw [exec_haReadBucket, execHaReadBucket, State.tpRead_none h, gives_next]
  · have htables : (s.advance dt).tables = s.tables := by simp only [State.advance_keeps ..]
    rw [exec_halterAgeing_eq, gives_next, ← htables]
    rw [← htables] at h
    exact State.halterAged_ages h
  · have htables : (s.advance dt).tables = s.tables := by simp only [State.advance_keeps ..]
    rw [exec_halterAgeing_eq, gives_next]
    rw [← htables] at h
    exact if_pos h

end Sys2Proof.Machine
end

section
/-! ## O31: key operations write, derive, wrap and free slots of the Keeper (R339, R371 to R374, R378 to R383, R510) -/

namespace Sys2Proof.Machine

variable {s : State} {o : TpOp} {n p w : Nat}

/-! ### What the state of the slots depends on (R372, R382) -/

theorem State.ancestorsOk_congr {t : State} (hk : t.keeper = s.keeper) (hv : t.vbat = s.vbat) (d : Nat) (x : Slot) :
    t.ancestorsOk d x = s.ancestorsOk d x := by
  have hslot (m : Nat) : t.slot m = s.slot m := by rw [State.slot, State.slot, hk]
  induction d generalizing x with
  | zero => rw [State.ancestorsOk, State.ancestorsOk, hv]
  | succ d ih => simp only [State.ancestorsOk, hv, hslot, ih]

theorem State.slotUsable_congr {t : State} (hk : t.keeper = s.keeper) (hv : t.vbat = s.vbat) (m : Nat) : t.slotUsable m = s.slotUsable m := by
  have hslot : t.slot m = s.slot m := by rw [State.slot, State.slot, hk]
  rw [State.slotUsable, State.slotUsable, hslot, State.ancestorsOk_congr hk hv]

theorem State.sourceCheck_congr {t : State} (hk : t.keeper = s.keeper) (hv : t.vbat = s.vbat) (m use : Nat) :
    t.sourceCheck m use = s.sourceCheck m use := by
  have hslot : t.slot m = s.slot m := by rw [State.slot, State.slot, hk]
  rw [State.sourceCheck, State.sourceCheck, State.slotUsable_congr hk hv, hslot]

theorem State.slotUsable_tpTaken (s : State) (m : Nat) : s.tpTaken.slotUsable m = s.slotUsable m :=
  State.slotUsable_congr (s := s) (t := s.tpTaken) rfl rfl m

theorem State.sourceCheck_tpTaken (s : State) (m use : Nat) : s.tpTaken.sourceCheck m use = s.sourceCheck m use :=
  State.sourceCheck_congr (s := s) (t := s.tpTaken) rfl rfl m use

theorem State.slot_tpTaken (s : State) (m : Nat) : s.tpTaken.slot m = s.slot m := rfl

theorem State.keyed_tpTaken (s : State) : s.tpTaken.keyed = s.keyed := rfl

theorem State.usable_of_sourceCheck {use : Nat} (h : s.sourceCheck n use = none) : s.slotUsable n = true := by
  cases hu : s.slotUsable n with
  | true => rfl
  | false => rw [State.sourceCheck, hu] at h; exact absurd h (Option.some_ne_none _)

/-! ### What is written into slots (R373, R374) -/

theorem State.slot_writeSlot_self (s : State) (m : Nat) (x : Slot) :
    (s.writeSlot m x).slot m = { x with valid := true, gen := nextGen (s.slot m).gen, uses := 0 } := State.slot_setSlot_self ..

theorem State.slot_useSlot (s : State) (m r : Nat) : (s.useSlot m).slot r =
    if r = m then { s.slot m with uses := satAdd u32Max (s.slot m).uses 1 } else s.slot r := by
  unfold State.useSlot
  extract_lets x u v
  have hv : v.slot r = if r = m then { s.slot m with uses := satAdd u32Max (s.slot m).uses 1 } else s.slot r := State.slot_setSlot ..
  split
  · rw [← hv]
    simp only [State.kPost_keeps ..]
  · exact hv

theorem State.slot_countSlots (s : State) (m : Nat) : s.countSlots.slot m = s.slot m := by simp only [State.countSlots_keeps ..]

/-- What an operation leaves once its slots are counted and its code is given. -/
theorem State.keyDone (t : State) (who c : Nat) (r : Bytes) : ((t.countSlots.tpDone who c r).window who).code = c ∧
    (∀ m, (t.countSlots.tpDone who c r).slot m = t.slot m) ∧ (t.countSlots.tpDone who c r).tables.ops = t.tables.ops := by
  refine ⟨State.code_tpDone .., fun m => ?_, ?_⟩ <;> simp only [State.tpDone_keeps .., State.countSlots_keeps ..]

/-- What an operation leaves that only gives its code and bytes. -/
theorem State.keyRefused (t : State) (who c : Nat) (r : Bytes) : ((t.tpDone who c r).window who).code = c ∧
    ((t.tpDone who c r).window who).ret = slice r 0 128 ∧ (t.tpDone who c r).keeper = t.keeper ∧ (t.tpDone who c r).vbat = t.vbat ∧
    (∀ m, (t.tpDone who c r).slot m = t.slot m) ∧ (t.tpDone who c r).tables.ops = t.tables.ops := by
  refine ⟨State.code_tpDone .., State.ret_tpDone .., ?_, ?_, fun m => ?_, ?_⟩ <;> simp only [State.tpDone_keeps ..]

theorem tpArg_lt (x : Bytes) (i k : Nat) : tpArg x i k < 2 ^ (8 * k) := by
  have h := leNat_lt (slice x i k)
  rwa [length_slice] at h

theorem not_unkeyed (h : s.keyed = true) : ¬ s.unkeyed = true := by rw [State.unkeyed, h]; decide

theorem not_reserved (h : 2 ≤ n) : reservedSlot n = false := decide_eq_false (by omega)

/-! ### Generation (R381, R382) -/

/-- The slot that a generation writes. -/
def generated (alg use limit : Nat) (expire : Bool) (key : Bytes) : Slot :=
  { Slot.empty 0 with expire := expire, use := use, alg := alg, origin := 1, parent := parentNone, useLimit := limit, key := key }

/-- The arguments of a generation that pass every check. -/
theorem State.kGenerate_done {alg use limit : Nat} (who : Nat) (expire : Bool) (hk : s.keyed = true) (h2 : 2 ≤ n) (hn : n ≤ 4095)
    (ha : attrOk alg use = true) (hl : limit ≤ u32Max) (hu : s.slotUsable n = false) : ∃ key : Bytes, key.length = keyBits alg / 8 ∧
      s.kGenerate who n alg use expire limit = (s.drawn.writeSlot n (generated alg use limit expire key)).countSlots.tpDone who 0x00 := by
  refine ⟨leBytes (keyBits alg / 8) (s.draw (8 * (keyBits alg / 8))).toNat, length_leBytes .., ?_⟩
  rw [State.kGenerate, if_neg (not_unkeyed hk), if_neg (by simp [ha, hn, hl]), if_neg (by rw [not_reserved h2]; decide),
    if_neg (by rw [hu]; decide)]
  rfl

theorem State.kGenerate_occupied {alg use limit : Nat} (who : Nat) (expire : Bool) (hk : s.keyed = true) (h2 : 2 ≤ n) (hn : n ≤ 4095)
    (ha : attrOk alg use = true) (hl : limit ≤ u32Max) (hu : s.slotUsable n = true) : s.kGenerate who n alg use expire limit = s.tpDone who 0x20 := by
  rw [State.kGenerate, if_neg (not_unkeyed hk), if_neg (by simp [ha, hn, hl]), if_neg (by rw [not_reserved h2]; decide), if_pos hu]

theorem exec_kGenerate_runs (h : s.tpFront 0x20 = some o) (hb : tpBarred o.who = false) (he : ¬ (1 < tpArg o.arg 4 1 ∧ s.keyed = true)) :
    exec .kGenerate s = .next (s.tpTaken.kGenerate o.who (tpArg o.arg 0 2) (tpArg o.arg 2 1) (tpArg o.arg 3 1) (tpArg o.arg 4 1 != 0)
      (tpArg o.arg 5 4)) := by
  rw [exec_kGenerate, execKGenerate, State.tpRun_runs h hb]
  exact congrArg Host.Outcome.next (if_neg he)

theorem limit_le (x : Bytes) (i : Nat) : tpArg x i 4 ≤ u32Max := by
  have h := tpArg_lt x i 4
  unfold u32Max
  omega

/-! ### Derivation and import (R378 to R382) -/

/-- The slot that a derivation writes. -/
def derivedSlot (x : Slot) (p alg use limit : Nat) (label : Bytes) (expire : Bool) : Slot :=
  { Slot.empty 0 with
    expire := expire, use := use, alg := alg, origin := 2, parent := p, parentGen := x.gen, depth := x.depth + 1, useLimit := limit,
    label := slice label 0 12, key := Crypto.kdf (Crypto.ofBytes x.key) (slice label 0 12) alg use x.gen (keyBits alg) }

theorem State.kDerive_done {alg use limit : Nat} {label : Bytes} (who : Nat) (expire : Bool) (hk : s.keyed = true) (hn2 : 2 ≤ n)
    (hn : n ≤ 4095) (hp2 : 2 ≤ p) (hp : p ≤ 4095) (ha : attrOk alg use = true) (hl : limit ≤ u32Max) (hu : s.slotUsable n = false)
    (hs : s.sourceCheck p useDerive = none) (hd : (s.slot p).depth ≤ 7) : s.kDerive who p n label alg use expire limit =
      ((s.useSlot p).writeSlot n (derivedSlot (s.slot p) p alg use limit label expire)).countSlots.tpDone who 0x00 := by
  rw [State.kDerive, if_neg (not_unkeyed hk), if_neg (by simp [ha, hn, hp, hl]), if_neg (by rw [not_reserved hn2, not_reserved hp2]; decide),
    if_neg (by rw [hu]; decide), hs]
  exact if_neg (by omega)

/-- The slot that a plain import writes. -/
def imported (alg use limit : Nat) (exportable expire : Bool) (key : Bytes) : Slot :=
  { Slot.empty 0 with
    expire := expire, exportable := exportable, use := use, alg := alg, origin := 4, parent := parentNone, useLimit := limit, key := key }

theorem State.kImport_plain {alg use limit : Nat} {key : Bytes} (who : Nat) (exportable expire : Bool) (hk : s.keyed = true) (h2 : 2 ≤ n)
    (hn : n ≤ 4095) (ha : attrOk alg use = true) (hl : limit ≤ u32Max) (hlen : key.length = keyBits alg / 8) (hu : s.slotUsable n = false) :
    s.kImport who n 0xFFFF alg use exportable expire limit key =
      (s.writeSlot n (imported alg use limit exportable expire key)).countSlots.tpDone who 0x00 := by
  rw [State.kImport]
  dsimp only
  rw [if_neg (not_unkeyed hk), if_neg (by simp [ha, hn, hl, hlen]), if_neg (by rw [not_reserved h2]; decide), if_neg (by rw [hu]; decide),
    if_pos (by decide)]
  rfl

theorem importLen_plain {alg use : Nat} (h : attrOk alg use = true) : importLen true alg = keyBits alg / 8 := by
  simp only [attrOk, Bool.and_eq_true, Bool.or_eq_true, beq_iff_eq] at h
  rcases h.1 with rfl | rfl <;> rfl

theorem exec_kImport_plain (h : s.tpFront 0x22 = some o) (hb : tpBarred o.who = false) (hp : tpArg o.arg 2 2 = 0xFFFF) :
    exec .kImport s = .next (s.tpTaken.kImport o.who (tpArg o.arg 0 2) 0xFFFF (bits (tpArg o.arg 4 32) 236 4) (bits (tpArg o.arg 4 32) 240 5)
      (bitOf (tpArg o.arg 4 32) 252) (bitOf (tpArg o.arg 4 32) 253) (bits (tpArg o.arg 4 32) 96 32)
      (slice o.arg 36 (importLen true (bits (tpArg o.arg 4 32) 236 4)))) := by
  rw [exec_kImport, execKImport, State.tpRun_runs h hb]
  dsimp only
  rw [hp]
  rfl

/-! ### Export, invalidation, attributes and link keys (R372, R373, R379 to R383) -/

theorem State.kExport_done (who : Nat) (hk : s.keyed = true) (hn2 : 2 ≤ n) (hn : n ≤ 4095) (hw2 : 2 ≤ w) (hw : w ≤ 4095)
    (hu : s.slotUsable n = true) (hs : s.sourceCheck w useWrap = none) (he : (s.slot n).exportable = true) :
    s.kExport who n w = (s.useSlot w).tpDone who 0x00 (Crypto.keyWrap (s.slot w).key (s.slot n).key) := by
  rw [State.kExport, if_neg (not_unkeyed hk), if_neg (by simp [hn, hw]), if_neg (by rw [not_reserved hn2, not_reserved hw2]; decide),
    if_neg (by rw [hu]; decide), hs]
  exact if_neg (by rw [he]; decide)

theorem State.kExport_kept (who : Nat) (hk : s.keyed = true) (hn2 : 2 ≤ n) (hn : n ≤ 4095) (hw2 : 2 ≤ w) (hw : w ≤ 4095)
    (hu : s.slotUsable n = true) (hs : s.sourceCheck w useWrap = none) (he : (s.slot n).exportable = false) :
    s.kExport who n w = s.tpDone who 0x23 := by
  rw [State.kExport, if_neg (not_unkeyed hk), if_neg (by simp [hn, hw]), if_neg (by rw [not_reserved hn2, not_reserved hw2]; decide),
    if_neg (by rw [hu]; decide), hs]
  exact if_pos (by rw [he]; decide)

theorem State.kInvalidate_done (who : Nat) (hk : s.keyed = true) (hn2 : 2 ≤ n) (hn : n ≤ 4095) (hv : (s.slot n).valid = true) :
    s.kInvalidate who n = (s.invalidate n).tpDone who 0x00 := by
  rw [State.kInvalidate, if_neg (not_unkeyed hk), if_neg (by omega), if_neg (by rw [not_reserved hn2]; decide), if_neg (by rw [hv]; decide)]

/-- The field of a link key that the root wraps. -/
def State.linkField (s : State) (k : Bytes) : Bytes := Crypto.keyWrap (s.slot 1).key k ++ leBytes 2 s.vbat.rootGen ++ leBytes 1 1 ++ zeros 5

theorem State.kLinkWrap_plain {key : Bytes} (who : Nat) (hk : s.keyed = true) (hlen : key.length = 16) (hu : s.slotUsable 1 = true) :
    s.kLinkWrap who 0xFFFF key = (s.useSlot 1).tpDone who 0x00 (s.linkField key) := by
  rw [State.kLinkWrap]
  dsimp only
  rw [if_neg (not_unkeyed hk), if_neg (by simp [hlen]), if_neg (by decide), if_pos (by decide), if_neg (by rw [hu]; decide)]
  rfl

theorem exec_kLinkWrap_plain (h : s.tpFront 0x26 = some o) (hb : tpBarred o.who = false) (hp : tpArg o.arg 0 2 = 0xFFFF) :
    exec .kLinkWrap s = .next (s.tpTaken.kLinkWrap o.who 0xFFFF (slice o.arg 2 16)) := by
  rw [exec_kLinkWrap, execKLinkWrap, State.tpRun_runs h hb, hp]
  rfl

theorem kIdle (s : State) : (s.tpFront 0x20 = none → Gives (exec .kGenerate s) fun t => t = s) ∧
    (s.tpFront 0x21 = none → Gives (exec .kDerive s) fun t => t = s) ∧ (s.tpFront 0x22 = none → Gives (exec .kImport s) fun t => t = s) ∧
    (s.tpFront 0x23 = none → Gives (exec .kExport s) fun t => t = s) ∧ (s.tpFront 0x24 = none → Gives (exec .kInvalidate s) fun t => t = s) ∧
    (s.tpFront 0x25 = none → Gives (exec .kReadAttr s) fun t => t = s) ∧ (s.tpFront 0x26 = none → Gives (exec .kLinkWrap s) fun t => t = s) := by
  refine ⟨fun h => ?_, fun h => ?_, fun h => ?_, fun h => ?_, fun h => ?_, fun h => ?_, fun h => ?_⟩
  · rw [exec_kGenerate, execKGenerate, State.tpRun_none h, gives_next]
  · rw [exec_kDerive, execKDerive, State.tpRun_none h, gives_next]
  · rw [exec_kImport, execKImport, State.tpRun_none h, gives_next]
  · rw [exec_kExport, execKExport, State.tpRun_none h, gives_next]
  · rw [exec_kInvalidate, execKInvalidate, State.tpRun_none h, gives_next]
  · rw [exec_kReadAttr, execKReadAttr, State.tpRead_none h, gives_next]
  · rw [exec_kLinkWrap, execKLinkWrap, State.tpRun_none h, gives_next]

/-! ### The sweep (R373) -/

/-- The state of a sweep before its slots are counted. -/
def State.swept (s : State) : State :=
  ({ s with keeper := { s.keeper with sweepDue := false } }).freeSlots fun n x => x.valid && !s.slotUsable n

theorem State.sweep_due (h : s.keeper.sweepDue = true) : s.sweep = s.swept.countSlots := if_neg (by rw [h]; decide)

theorem State.sweepDue_swept (s : State) : s.swept.keeper.sweepDue = false := by
  refine State.each_same (fun t => t.keeper.sweepDue) (fun t m => ?_) _ _
  rw [State.freeSlot]
  split <;> rfl

theorem State.swept_frees (hv : (s.slot n).valid = true) (hu : s.slotUsable n = false) : (s.swept.slot n).valid = false := by
  refine State.freed_each_freeSlot _ _ (.inl (List.mem_map.mpr ⟨_, List.mem_filter.mpr ⟨State.mem_slots_of_valid hv, ?_⟩, rfl⟩))
  change ((s.slot n).valid && !s.slotUsable n) = true
  rw [hv, hu]
  rfl

theorem State.swept_keeps (hu : s.slotUsable n = true) : s.swept.slot n = s.slot n :=
  State.kept_freeSlots (s := { s with keeper := { s.keeper with sweepDue := false } }) fun x => by rw [hu, Bool.not_true, Bool.and_false]

/-- Settles O31: a case for each key operation of the port, and for the sweep. -/
theorem keySlots : Obligations.KeySlots := by
  unfold Obligations.KeySlots
  refine ⟨fun o n s h hb hk hn h2 h4 ha he hu => ?_, fun o n s h hb hk hn h2 h4 ha he hu => ?_, fun o s h hb hk => ?_,
    fun o p n s h hb hk hp hn h2 h4 hp2 hp4 ha he hu hs hd => ?_, fun o n alg s h hb hk hn h2 h4 hpl halg ha hu => ?_,
    fun o n w s h hb hk hn h2 h4 hw hw2 hw4 hu hs he => ?_, fun o n w s h hb hk hn h2 h4 hw hw2 hw4 hu hs he => ?_,
    fun o n s h hb hk hn h2 h4 hv => ?_, fun o n s h hn h4 => ?_, fun o s h hb hk hp hu => ?_, kIdle, fun s h => ?_, fun s h => ?_⟩
  · subst hn
    rw [← State.slotUsable_tpTaken] at hu
    obtain ⟨key, hlen, hdone⟩ := State.kGenerate_done (s := s.tpTaken) o.who (tpArg o.arg 4 1 != 0) hk h2 h4 ha (limit_le o.arg 5) hu
    rw [exec_kGenerate_runs h hb (by omega), hdone, gives_next]
    obtain ⟨hcode, hslot, hops⟩ := State.keyDone (s.tpTaken.drawn.writeSlot (tpArg o.arg 0 2)
      (generated (tpArg o.arg 2 1) (tpArg o.arg 3 1) (tpArg o.arg 5 4) (tpArg o.arg 4 1 != 0) key)) o.who 0 []
    rw [hslot, State.slot_writeSlot_self]
    exact ⟨hcode, rfl, rfl, rfl, rfl, rfl, rfl, hlen, fun m hm => (hslot m).trans (State.slot_writeSlot_ne hm ..), hops⟩
  · subst hn
    rw [← State.slotUsable_tpTaken] at hu
    rw [exec_kGenerate_runs h hb (by omega),
      State.kGenerate_occupied (s := s.tpTaken) o.who (tpArg o.arg 4 1 != 0) hk h2 h4 ha (limit_le o.arg 5) hu, gives_next]
    obtain ⟨hcode, -, hkeeper, -⟩ := s.tpTaken.keyRefused o.who 0x20 []
    exact ⟨hcode, hkeeper⟩
  · have hun : s.tpTaken.unkeyed = true := by rw [State.unkeyed, State.keyed_tpTaken, hk]; rfl
    rw [exec_kGenerate_runs h hb (by rw [hk]; simp), State.kGenerate, if_pos hun, gives_next]
    obtain ⟨hcode, -, hkeeper, hvbat, -⟩ := s.tpTaken.keyRefused o.who 0x27 []
    exact ⟨hcode, hkeeper, hvbat⟩
  · subst hp hn
    have hne : tpArg o.arg 0 2 ≠ tpArg o.arg 2 2 := fun heq => by
      rw [← heq, State.usable_of_sourceCheck hs] at hu
      exact absurd hu (by decide)
    rw [← State.slotUsable_tpTaken] at hu
    rw [← State.sourceCheck_tpTaken] at hs
    rw [exec_kDerive, execKDerive, State.tpRun_runs h hb, if_neg (by omega), State.kDerive_done (s := s.tpTaken) o.who (tpArg o.arg 18 1 != 0)
      hk h2 h4 hp2 hp4 ha (limit_le o.arg 19) hu hs hd, gives_next]
    obtain ⟨hcode, hslot, -⟩ := State.keyDone ((s.tpTaken.useSlot (tpArg o.arg 0 2)).writeSlot (tpArg o.arg 2 2)
      (derivedSlot (s.tpTaken.slot (tpArg o.arg 0 2)) (tpArg o.arg 0 2) (tpArg o.arg 16 1) (tpArg o.arg 17 1) (tpArg o.arg 19 4)
        (slice o.arg 4 12) (tpArg o.arg 18 1 != 0))) o.who 0 []
    rw [hslot, hslot, State.slot_writeSlot_self, State.slot_writeSlot_ne hne,
      State.slot_useSlot _ (tpArg o.arg 0 2) (tpArg o.arg 0 2), if_pos rfl]
    exact ⟨hcode, rfl, rfl, rfl, rfl, rfl, rfl, rfl⟩
  · subst hn halg
    rw [← State.slotUsable_tpTaken] at hu
    have hlim : bits (tpArg o.arg 4 32) 96 32 ≤ u32Max := Nat.le_sub_one_of_lt (Nat.mod_lt _ (by decide))
    rw [exec_kImport_plain h hb hpl, State.kImport_plain (s := s.tpTaken) o.who _ _ hk h2 h4 ha hlim
      (by rw [length_slice, importLen_plain ha]) hu, importLen_plain ha, gives_next]
    obtain ⟨hcode, hslot, -⟩ := State.keyDone (s.tpTaken.writeSlot (tpArg o.arg 0 2)
      (imported (bits (tpArg o.arg 4 32) 236 4) (bits (tpArg o.arg 4 32) 240 5) (bits (tpArg o.arg 4 32) 96 32) (bitOf (tpArg o.arg 4 32) 252)
        (bitOf (tpArg o.arg 4 32) 253) (slice o.arg 36 (keyBits (bits (tpArg o.arg 4 32) 236 4) / 8)))) o.who 0 []
    rw [hslot, State.slot_writeSlot_self]
    exact ⟨hcode, rfl, rfl, rfl, rfl, fun m hm => (hslot m).trans (State.slot_writeSlot_ne hm ..)⟩
  · subst hn hw
    rw [← State.slotUsable_tpTaken] at hu
    rw [← State.sourceCheck_tpTaken] at hs
    rw [exec_kExport, execKExport, State.tpRun_runs h hb, State.kExport_done (s := s.tpTaken) o.who hk h2 h4 hw2 hw4 hu hs he, gives_next]
    obtain ⟨hcode, hret, -, -, hslot, -⟩ := (s.tpTaken.useSlot (tpArg o.arg 2 2)).keyRefused o.who 0
      (Crypto.keyWrap (s.tpTaken.slot (tpArg o.arg 2 2)).key (s.tpTaken.slot (tpArg o.arg 0 2)).key)
    refine ⟨hcode, hret, ?_⟩
    rw [hslot, State.slot_useSlot, if_pos rfl]
    rfl
  · subst hn hw
    rw [← State.slotUsable_tpTaken] at hu
    rw [← State.sourceCheck_tpTaken] at hs
    rw [exec_kExport, execKExport, State.tpRun_runs h hb, State.kExport_kept (s := s.tpTaken) o.who hk h2 h4 hw2 hw4 hu hs he, gives_next]
    obtain ⟨hcode, hret, hkeeper, -⟩ := s.tpTaken.keyRefused o.who 0x23 []
    exact ⟨hcode, hret, hkeeper⟩
  · subst hn
    rw [exec_kInvalidate, execKInvalidate, State.tpRun_runs h hb, State.kInvalidate_done (s := s.tpTaken) o.who hk h2 h4 hv, gives_next]
    obtain ⟨hcode, -, hkeeper, -, hslot, -⟩ := (s.tpTaken.invalidate (tpArg o.arg 0 2)).keyRefused o.who 0 []
    have hinv (m : Nat) : (s.tpTaken.invalidate (tpArg o.arg 0 2)).slot m = (s.tpTaken.freeSlot (tpArg o.arg 0 2)).slot m := rfl
    rw [hslot, hinv, State.slot_freeSlot, if_pos ⟨rfl, hv⟩, hkeeper]
    exact ⟨hcode, rfl, rfl, rfl, fun m hm => (hslot m).trans ((hinv m).trans (State.slot_freeSlot_ne hm _))⟩
  · subst hn
    have hattr : s.tpTaken.attrRaw (tpArg o.arg 0 2) = s.attrRaw (tpArg o.arg 0 2) := by
      rw [State.attrRaw, State.attrRaw, State.slotUsable_tpTaken, State.slot_tpTaken]
    rw [exec_kReadAttr, execKReadAttr, State.tpRead_runs h, State.kReadAttr, if_neg (by omega), hattr, gives_next]
    obtain ⟨hcode, hret, hkeeper, -⟩ := s.tpTaken.keyRefused o.who 0 (leBytes 32 (s.attrRaw (tpArg o.arg 0 2)))
    exact ⟨hcode, hret, hkeeper⟩
  · rw [← State.slotUsable_tpTaken] at hu
    rw [exec_kLinkWrap_plain h hb hp, State.kLinkWrap_plain (s := s.tpTaken) o.who hk (length_slice ..) hu, gives_next]
    obtain ⟨hcode, hret, -, -, hslot, -⟩ := (s.tpTaken.useSlot 1).keyRefused o.who 0 (s.tpTaken.linkField (slice o.arg 2 16))
    refine ⟨hcode, ?_, hret⟩
    rw [hslot, State.slot_useSlot, if_pos rfl]
    rfl
  · have hslot (n : Nat) : s.swept.countSlots.slot n = s.swept.slot n := State.slot_countSlots ..
    rw [exec_orphanSweep, execOrphanSweep, State.sweep_due h, gives_next]
    refine ⟨fun n hv hu => ?_, fun n hu => ?_, ?_⟩
    · rw [hslot]
      exact State.swept_frees hv hu
    · rw [hslot]
      exact State.swept_keeps hu
    · simp only [State.countSlots_keeps ..]
      exact s.sweepDue_swept
  · rw [exec_orphanSweep, execOrphanSweep, gives_next]
    exact if_pos (by rw [h]; rfl)

end Sys2Proof.Machine
end

section
/-! ## O15: transmit tiles listen, ramp, send and end; duty buckets advance (R198 to R201, R203, R204, R207, Tables 7-2, 7-6, 7-7) -/

namespace Sys2Proof.Machine

variable {s : State} {n : Nat} {j : TxJob} {code dt : Nat}

/-! ### The operations on tiles and ports -/

theorem State.rd_burstMark (s : State) (p k : Nat) : (s.burstMark p).rd k = s.rd k := rfl

theorem State.tx_burstMark (s : State) (p n : Nat) : (s.burstMark p).tx n = s.tx n := rfl

theorem State.rd_airOut (s : State) (p k : Nat) : (s.airOut p).rd k = s.rd k := rfl

theorem State.tx_airOut (s : State) (p n : Nat) : (s.airOut p).tx n = s.tx n := rfl

theorem State.rd_setTx (s : State) (n : Nat) (x : TxTile) (k : Nat) : (s.setTx n x).rd k = s.rd k := rfl

theorem State.tx_wr (s : State) (k v n : Nat) : (s.wr k v).tx n = s.tx n := by simp only [State.tx, State.wr_keeps ..]

/-! ### The end of a transmission (R207) -/

/-- What the ledger and the duty buckets take at the end of job `j`. -/
def State.txSettled (s : State) (j : TxJob) (code : Nat) : State :=
  let used := j.used s.elapsed
  let s := if j.rampAt.isNone then s.release j.grant
    else if code = txOk then s
    else s.release (j.grant - min j.grant (s.txEnergy used j.power))
  if j.rampAt.isSome then s.addAir j.req.port j.sub (if code = txOk then j.airtime else used) else s

/-- Tile `n` without its job, off and out of its port's stream. -/
def State.txOff (s : State) (n : Nat) (j : TxJob) : State :=
  let s := s.setTx n { (s.tx n) with job := none, isl := (s.tx n).isl.ask false }
  let s := s.wr (Key.txcState n) 0
  let s := if s.rd (Key.txcOwner n) = 1 then s else s.wr (Key.txcPlaced n) unplaced
  if j.rampAt.isSome then (s.airOut j.req.port).burstMark j.req.port else s

theorem State.txFinish_eq (hj : (s.tx n).job = some j) : ∃ word octets last,
    s.txFinish n code = (((s.txSettled j code).txCount (some n) j.req.port code j.cut).txOff n j).placeTx.txReport j.req code word octets last := by
  unfold State.txFinish
  rw [hj]
  exact ⟨_, _, _, rfl⟩

theorem State.txSettled_rd {k : Nat} (hk : Key.fam k ≠ 0x140106) : (s.txSettled j code).rd k = s.rd k := by
  have hrel (u : State) (e : Nat) : (u.release e).rd k = u.rd k := State.release_rd (by simpa using hk)
  have hair (u : State) (p i t : Nat) : (u.addAir p i t).rd k = u.rd k := rfl
  unfold State.txSettled
  extract_lets used paid
  have hpaid : paid.rd k = s.rd k := by
    simp only [paid]
    split_ifs
    exacts [hrel _ _, rfl, hrel _ _]
  split_ifs <;> simp only [hair, hpaid]

theorem State.txOff_rd {k : Nat} (hs : k ≠ Key.txcState n) (hk : Key.fam k ≠ 0x220004) : (s.txOff n j).rd k = s.rd k := by
  have hp : k ≠ Key.txcPlaced n := fun h => hk (by rw [h]; simp)
  unfold State.txOff
  dsimp only
  split_ifs <;> simp only [State.rd_burstMark, State.rd_airOut, State.rd_setTx, State.rd_wr_ne _ _ hs, State.rd_wr_ne _ _ hp]

theorem State.txOff_state : (s.txOff n j).rd (Key.txcState n) = 0 := by
  have hp : Key.txcState n ≠ Key.txcPlaced n := fun h => absurd (congrArg Key.fam h) (by simp)
  unfold State.txOff
  dsimp only
  split_ifs <;> simp only [State.rd_burstMark, State.rd_airOut, State.rd_wr_ne _ _ hp, State.rd_wr_self]

theorem State.txOff_job (hn : n < 16) : ((s.txOff n j).tx n).job = none := by
  unfold State.txOff
  dsimp only
  split_ifs <;> simp only [State.tx_burstMark, State.tx_airOut, State.tx_wr, State.tx_setTx_self _ _ hn]

theorem State.job_placeTx (s : State) (hn : n < 16) : (s.placeTx.tx n).job = (s.tx n).job := by
  unfold State.placeTx
  refine State.each_same (fun t => (t.tx n).job) (fun t m => ?_) s _
  dsimp only
  split_ifs with h1 h2 h3 h4 h5
  · rfl
  · rw [State.tx_wr]
  · rw [State.tx_wr]
  · rw [State.tx_wr]
  · rw [State.tx_wr]
  · have hpost (u : State) (c : Err) (x : Nat) : (u.post c x).tx n = u.tx n := by simp only [State.tx, State.post_keeps ..]
    rw [hpost]
    by_cases hm : n = m
    · subst hm
      rw [State.tx_setTx_self _ _ hn]
    · rw [State.tx_setTx_ne _ _ hm, State.tx_wr]

theorem State.job_portRun (s : State) (p n : Nat) : (s.portRun p).tx n = s.tx n := by simp only [State.tx, State.portRun_keeps ..]

/-- A job that ends leaves its tile off and free (Table 7-2). -/
theorem State.txEnd_off (hn : n < 16) (hj : (s.tx n).job = some j) (code : Nat) :
    (s.txEnd n code).rd (Key.txcState n) = 0 ∧ ((s.txEnd n code).tx n).job = none := by
  obtain ⟨word, octets, last, hfin⟩ := State.txFinish_eq (code := code) hj
  have hrep (u : State) : (u.txReport j.req code word octets last).tx n = u.tx n := by simp only [State.tx, State.txReport_keeps ..]
  rw [State.txEnd, hj]
  refine ⟨?_, ?_⟩
  · rw [State.portRun_rd (by simp), hfin, State.txReport_rd (by simp), State.placeTx_rd (by simp), State.txOff_state]
  · rw [State.job_portRun, hfin, hrep, State.job_placeTx _ hn, State.txOff_job hn]

/-- Between a job's end and its count nothing else reaches the counters of its tile. -/
theorem State.txEnd_counts (hj : (s.tx n).job = some j) {k : Nat} (hk : k ∈ [Key.txFrames n, Key.txLbtBusy n, Key.txCinchDefer n]) :
    ∃ u : State, u.rd k = s.rd k ∧ (s.txEnd n code).rd k = (u.txCount (some n) j.req.port code j.cut).rd k := by
  obtain ⟨word, octets, last, hfin⟩ := State.txFinish_eq (code := code) hj
  have hfam : Key.fam k = 0x220010 ∨ Key.fam k = 0x220011 ∨ Key.fam k = 0x220012 := by
    simp only [List.mem_cons, List.not_mem_nil, or_false] at hk
    obtain rfl | rfl | rfl := hk <;> simp
  have hst : k ≠ Key.txcState n := fun h => by rw [h] at hfam; simp at hfam
  have hother {l : List Nat} (h : ∀ f ∈ [0x220010, 0x220011, 0x220012], l.contains f = false) : l.contains (Key.fam k) = false := by
    obtain h1 | h1 | h1 := hfam <;> rw [h1] <;> exact h _ (by simp)
  refine ⟨s.txSettled j code, State.txSettled_rd fun h => by rw [h] at hfam; simp at hfam, ?_⟩
  rw [State.txEnd, hj]
  rw [State.portRun_rd (hother (by decide)), hfin, State.txReport_rd (hother (by decide)), State.placeTx_rd (hother (by decide)),
    State.txOff_rd hst fun h => by rw [h] at hfam; simp at hfam]

/-- The count of a power cut leaves every other counter. -/
theorem State.rd_cut (s : State) (n : Nat) (cut : Bool) {k : Nat} (hk : k ≠ Key.txPowerCut n) :
    (if cut then s.bump (Key.txPowerCut n) else s).rd k = s.rd k := by
  split_ifs
  · exact State.rd_bump_ne _ _ hk
  · rfl

theorem State.txEnd_busy (hj : (s.tx n).job = some j) :
    (s.txEnd n txLbtBusy).rd (Key.txLbtBusy n) = satAdd u32Max (s.rd (Key.txLbtBusy n)) 1 := by
  obtain ⟨u, hu, h⟩ := State.txEnd_counts (code := txLbtBusy) hj (k := Key.txLbtBusy n) (by simp)
  have hne : Key.txLbtBusy n ≠ Key.txPowerCut n := fun h => absurd (congrArg Key.fam h) (by simp)
  rw [h, State.txCount, if_neg (by decide), if_pos rfl, Option.getD_some, State.rd_bump_self, State.rd_cut _ _ _ hne, hu]

theorem State.txEnd_defer (hj : (s.tx n).job = some j) :
    (s.txEnd n txCinchDefer).rd (Key.txCinchDefer n) = satAdd u32Max (s.rd (Key.txCinchDefer n)) 1 := by
  obtain ⟨u, hu, h⟩ := State.txEnd_counts (code := txCinchDefer) hj (k := Key.txCinchDefer n) (by simp)
  have hne : Key.txCinchDefer n ≠ Key.txPowerCut n := fun h => absurd (congrArg Key.fam h) (by simp)
  rw [h, State.txCount, if_neg (by decide), if_neg (by decide), if_neg (by decide), if_pos rfl, Option.getD_some, State.rd_bump_self, State.rd_cut _ _ _ hne, hu]

theorem State.txEnd_sent (hj : (s.tx n).job = some j) :
    (s.txEnd n txOk).rd (Key.txFrames n) = satAdd u32Max (s.rd (Key.txFrames n)) 1 := by
  obtain ⟨u, hu, h⟩ := State.txEnd_counts (code := txOk) hj (k := Key.txFrames n) (by simp)
  have hne : Key.txFrames n ≠ Key.txPowerCut n := fun h => absurd (congrArg Key.fam h) (by simp)
  rw [h, State.txCount, if_pos rfl, Option.getD_some, State.rd_bump_self, State.rd_cut _ _ _ hne, hu]

theorem State.txEnd_aborted (hj : (s.tx n).job = some j) : (s.txEnd n txAborted).rd (Key.txFrames n) = s.rd (Key.txFrames n) := by
  obtain ⟨u, hu, h⟩ := State.txEnd_counts (code := txAborted) hj (k := Key.txFrames n) (by simp)
  have hne : Key.txFrames n ≠ Key.txPowerCut n := fun h => absurd (congrArg Key.fam h) (by simp)
  rw [h, State.txCount, if_neg (by decide), if_neg (by decide), if_neg (by decide), if_neg (by decide), if_neg (by decide),
    if_neg (by decide), if_pos rfl, State.post_rd (by simp)]
  simp only [Option.getD_some, State.rd_cut _ _ _ hne, hu]

/-! ### What the clock leaves of a transmission -/

theorem State.tx_advance (s : State) (dt n : Nat) : (s.advance dt).tx n = s.tx n := by simp only [State.tx, State.advance_keeps ..]

theorem State.radio_advance (s : State) (dt : Nat) : (s.advance dt).radio = s.radio := by simp only [State.advance_keeps ..]

theorem State.pstate_advance (s : State) (dt p : Nat) : (s.advance dt).pstate p = s.pstate p := State.rd_advance s dt _

theorem State.port_advance (s : State) (dt p : Nat) : (s.advance dt).port p = s.port p := by simp only [State.port, State.advance_keeps ..]

theorem State.dom_advance (s : State) (dt k : Nat) : (s.advance dt).dom k = s.dom k := by simp only [State.dom, State.advance_keeps ..]

theorem State.fuses_advance (s : State) (dt : Nat) : (s.advance dt).fuses = s.fuses := by simp only [State.advance_keeps ..]

theorem State.stampBytes_advance (s : State) (dt p : Nat) : (s.advance dt).stampBytes p = s.stampBytes p := by
  rw [State.stampBytes, State.stampBytes, State.dom_advance, State.fuses_advance]

theorem State.stamp_advance (s : State) (dt p : Nat) : (s.advance dt).stamp p = s.stamp p := by
  rw [State.stamp, State.stamp, State.stampBytes_advance, State.fuses_advance]

theorem State.portHolds_advance (s : State) (dt p : Nat) : (s.advance dt).portHolds p = s.portHolds p := by
  simp only [State.portHolds, State.autoReturn, State.rd_advance]

theorem State.listenNs_advance (s : State) (dt : Nat) (j : TxJob) : (s.advance dt).listenNs j = s.listenNs j := by
  simp only [State.listenNs, State.stampBytes_advance]

theorem State.maskOk_advance (s : State) (dt : Nat) (q : TxReq) : (s.advance dt).maskOk q = s.maskOk q := by
  simp only [State.maskOk, State.txChannel, State.chMask, State.rasterAt, State.raster, State.stamp_advance, State.stampBytes_advance, State.port_advance]

theorem State.mapOk_advance (s : State) (dt : Nat) (q : TxReq) : (s.advance dt).mapOk q = s.mapOk q := by
  simp only [State.mapOk, State.rasterAt, State.raster, State.stampBytes_advance, State.rd_advance]

theorem State.reqPower_advance (s : State) (dt n : Nat) (q : TxReq) : (s.advance dt).reqPower n q = s.reqPower n q := by
  simp only [State.reqPower, State.rdI, State.rd_advance]

theorem State.onAir_advance (s : State) (dt : Nat) : (s.advance dt).onAir = s.onAir := by
  funext n
  simp only [State.onAir, State.rd_advance]

theorem State.airCount_advance (s : State) (dt : Nat) : (s.advance dt).airCount = s.airCount := by
  rw [State.airCount, State.airCount, State.onAir_advance]

theorem State.txCap_advance (s : State) (dt : Nat) (b : Bool) : (s.advance dt).txCap b = s.txCap b := by
  have hcode (c : Nat) : (s.advance dt).codeInForce c = s.codeInForce c := by simp only [State.codeInForce, State.advance_keeps ..]
  have htok : (s.advance dt).tokens = s.tokens := by simp only [State.tokens, State.rdI, State.rd_advance]
  rw [State.txCap, State.txCap, hcode, htok]

theorem State.capReached_advance (s : State) (dt : Nat) (j : TxJob) : (s.advance dt).capReached j = s.capReached j := by
  rw [State.capReached, State.capReached, State.txCap_advance, State.airCount_advance]

theorem State.portReady_advance (s : State) (dt p : Nat) : (s.advance dt).portReady p = s.portReady p := by
  simp only [State.portReady, State.radioHeld, State.advance_keeps ..]

theorem State.airOn_advance (s : State) (dt p : Nat) : (s.advance dt).airOn p = s.airOn p := by
  simp only [State.airOn, State.jobsOn, State.onAir_advance, State.tx_advance]

theorem State.airPw_advance (s : State) (dt p : Nat) (sub : Option Nat) : (s.advance dt).airPw p sub = s.airPw p sub := by
  simp only [State.airPw, State.airOn_advance, State.tx_advance]

theorem State.femGain_advance (s : State) (dt p : Nat) : (s.advance dt).femGain p = s.femGain p := by
  rw [State.femGain, State.femGain, State.stampBytes_advance]

theorem State.portLimit_advance (s : State) (dt p : Nat) : (s.advance dt).portLimit p = s.portLimit p := by
  simp only [State.portLimit, State.stampMax, State.rdI, State.femGain_advance, State.stampBytes_advance, State.rd_advance]

theorem State.grantPower_advance (s : State) (dt n : Nat) (j : TxJob) : (s.advance dt).grantPower n j = s.grantPower n j := by
  simp only [State.grantPower, State.airPw_advance, State.portLimit_advance, State.femGain_advance, State.reqPower_advance,
    State.stampBytes_advance]

/-! ### The commands -/

theorem listenDue_starts {n : Fin 16} (hj : (s.tx n).job = some j) (hst : s.rd (Key.txcState n) = 1) (hl : j.lbt = true) (hc : j.clear = false)
    (hh : s.portHolds j.req.port = false) (hp : s.pstate j.req.port = 3) (hs : (s.port j.req.port).step = none)
    (hd : j.req.due ≤ (s.advance dt).nowNs + s.listenNs j + 32000) :
    exec (.lbtListenDue n dt) s = .next ((s.advance dt).wr (Key.txcState n) 2) := by
  rw [exec_lbtListenDue, execLbtListenDue, State.tx_advance, hj]
  simp only [State.rd_advance, State.listenNs_advance, State.portHolds_advance, State.port_advance]
  rw [if_neg (by simp only [hst, hl, hc]; simpa using hd), if_neg (by simp [hh]), if_pos ⟨hp, by simp [hs]⟩]

theorem listenDue_busy {n : Fin 16} (hj : (s.tx n).job = some j) (hst : s.rd (Key.txcState n) = 1) (hl : j.lbt = true) (hc : j.clear = false)
    (hh : s.portHolds j.req.port = false) (hp : s.pstate j.req.port ≠ 3) (hd : j.req.due ≤ (s.advance dt).nowNs + s.listenNs j + 32000) :
    exec (.lbtListenDue n dt) s = .next ((s.advance dt).txEnd n txLbtBusy) := by
  rw [exec_lbtListenDue, execLbtListenDue, State.tx_advance, hj]
  simp only [State.rd_advance, State.listenNs_advance, State.portHolds_advance, State.port_advance]
  rw [if_neg (by simp only [hst, hl, hc]; simpa using hd), if_neg (by simp [hh]), if_neg fun h => hp h.1]

theorem listenEnd_clear {n : Fin 16} {blocks : List Int} (hj : (s.tx n).job = some j) (hst : s.rd (Key.txcState n) = 2)
    (hp : s.pstate j.req.port = 3) (hs : (s.port j.req.port).step = none) (hd : j.req.due ≤ (s.advance dt).nowNs + 32000)
    (hb : blocks.any (fun b => decide (2 * (subBand (s.stampBytes j.req.port) j.sub).thr ≤ b)) = false) :
    exec (.lbtListenEnd n blocks dt) s = .next (((((s.advance dt).wr (Key.txcState n) 1).setTx n
      { (s.tx n) with job := some { j with clear := true } })).portRun j.req.port) := by
  rw [exec_lbtListenEnd, execLbtListenEnd, State.tx_advance, hj]
  simp only [State.rd_advance, State.stampBytes_advance, State.port_advance]
  rw [if_neg (by simp [hst]), if_neg (by simp [hp, hs]), if_neg (Nat.not_lt.mpr hd), if_neg (by simp [hb])]

theorem listenEnd_busy {n : Fin 16} {blocks : List Int} (hj : (s.tx n).job = some j) (hst : s.rd (Key.txcState n) = 2)
    (h : s.pstate j.req.port ≠ 3 ∨ (j.req.due ≤ (s.advance dt).nowNs + 32000 ∧
      blocks.any (fun b => decide (2 * (subBand (s.stampBytes j.req.port) j.sub).thr ≤ b)) = true)) :
    exec (.lbtListenEnd n blocks dt) s = .next ((s.advance dt).txEnd n txLbtBusy) := by
  rw [exec_lbtListenEnd, execLbtListenEnd, State.tx_advance, hj]
  simp only [State.rd_advance, State.stampBytes_advance, State.port_advance]
  rw [if_neg (by simp [hst])]
  obtain hp | ⟨hd, hb⟩ := h
  · rw [if_pos (by simp [hp])]
  · split_ifs with h1 h2
    · rfl
    · exact absurd hd (Nat.not_le.mpr h2)
    · rfl

theorem portHolds_of_ready {p : Nat} (h : s.portReady p = true) : s.portHolds p = false := by
  have hp : s.pstate p = 4 := by
    by_contra hne
    simp [State.portReady, beq_false_of_ne hne] at h
  simp [State.portHolds, hp]

theorem rampDue_starts {n : Fin 16} {h : Int} (hj : (s.tx n).job = some j) (hr : (s.advance dt).rampReady n j = true)
    (hlow : (s.advance dt).lowerDue n j = false) (hm : s.maskOk j.req = true) (hmap : s.mapOk j.req = true) (hg : s.grantPower n j = some h) :
    exec (.rampDue n dt) s = .next ((((((s.advance dt).wr (Key.txcState n) 3).setTx n
      { (s.tx n) with job := some (j.begin (s.advance dt).elapsed (s.advance dt).nowNs h (s.reqPower n j.req)) }).airOut
        j.req.port)).burstMark j.req.port) := by
  have hr' := hr
  simp only [State.rampReady, Bool.and_eq_true, beq_iff_eq, decide_eq_true_eq] at hr'
  obtain ⟨⟨⟨⟨⟨⟨⟨hst, hclear⟩, hnow⟩, -⟩, hready⟩, -⟩, -⟩, -⟩ := hr'
  rw [exec_rampDue, execRampDue, State.tx_advance, hj]
  simp only [State.rd_advance] at hst
  have hclear' : ¬(j.lbt = true ∧ (!j.clear) = true) := by
    cases hl : j.lbt <;> cases hc : j.clear <;> simp [hl, hc] at hclear ⊢
  simp only [State.rd_advance, State.maskOk_advance, State.mapOk_advance, portHolds_of_ready hready, State.grantPower_advance, hm, hmap, hlow, hr,
    hg, State.reqPower_advance]
  rw [if_neg (by rintro (h | h | h); exacts [h hst, hclear' h, absurd hnow (Nat.not_le.mpr h)])]
  rfl

theorem rampDue_capped {n : Fin 16} (hj : (s.tx n).job = some j) (hst : s.rd (Key.txcState n) = 1) (hl : j.lbt = false)
    (hnow : j.rampNs ≤ (s.advance dt).nowNs) (hm : s.maskOk j.req = true) (hmap : s.mapOk j.req = true) (hh : s.portHolds j.req.port = false)
    (hlow : (s.advance dt).lowerDue n j = false) (hc : s.txCap j.req.code.isSome ≤ s.airCount) :
    exec (.rampDue n dt) s = .next ((s.advance dt).setTx n { (s.tx n) with job := some { j with capped := true } }) := by
  have hcap : s.capReached j = true := by rw [State.capReached, decide_eq_true hc]
  have hnot : (s.advance dt).rampReady n j = false := by
    simp only [State.rampReady, State.capReached_advance, hcap, Bool.not_true, Bool.and_false, Bool.false_and]
  rw [exec_rampDue, execRampDue, State.tx_advance, hj]
  simp only [State.rd_advance, State.maskOk_advance, State.mapOk_advance, State.portHolds_advance, State.capReached_advance, hm, hmap, hlow, hh,
    hnot, hcap]
  rw [if_neg (by rintro (h | h | h); exacts [h hst, by simp [hl] at h, absurd hnow (Nat.not_le.mpr h)])]
  rfl

theorem windowEnd_defers {n : Fin 16} (hj : (s.tx n).job = some j) (hst : s.rd (Key.txcState n) = 1)
    (hw : j.req.windowEnd ≤ (s.advance dt).nowNs) (h : j.capped = true ∨ s.capReached j = true ∨ s.portReady j.req.port = true) :
    exec (.txWindowEnd n dt) s = .next ((s.advance dt).txEnd n txCinchDefer) := by
  rw [exec_txWindowEnd, execTxWindowEnd, State.tx_advance, hj]
  simp only [State.rd_advance, State.capReached_advance, State.portReady_advance]
  rw [if_neg (by simp only [hst]; simpa using hw), if_pos (by simpa [or_assoc] using h)]

theorem lastChip_ramps {n : Fin 16} {a : Nat} (hj : (s.tx n).job = some j) (hst : s.rd (Key.txcState n) = 4) (ha : j.rampAt = some a)
    (he : a + us (rampUs j.req.mode + frameUs j.req.mode (j.psdu.length + 2)) ≤ (s.advance dt).elapsed) :
    exec (.lastChip n dt) s = .next ((((s.advance dt).wr (Key.txcState n) 3).setTx n
      { (s.tx n) with job := some { j with ended := true } }).burstMark j.req.port) := by
  rw [exec_lastChip, execLastChip, State.tx_advance, hj]
  simp only [State.rd_advance, ha]
  rw [if_neg (by simp only [hst]; simpa using he)]

theorem rampDownEnd_sent {n : Fin 16} {a : Nat} (hj : (s.tx n).job = some j) (ha : j.rampAt = some a) (he : j.ended = true)
    (hab : j.aborted = none) (hd : a + us j.airtime ≤ (s.advance dt).elapsed) :
    exec (.rampDownEnd n dt) s = .next ((s.advance dt).txEnd n txOk) := by
  rw [exec_rampDownEnd, execRampDownEnd, State.tx_advance, hj]
  simp only [ha, hab]
  rw [if_pos ⟨he, hd⟩]

theorem rampDownEnd_cut {n : Fin 16} {a d : Nat} (hj : (s.tx n).job = some j) (ha : j.rampAt = some a) (hab : j.aborted = some d)
    (hd : d + us (rampUs j.req.mode) ≤ (s.advance dt).elapsed) :
    exec (.rampDownEnd n dt) s = .next ((s.advance dt).txEnd n txAborted) := by
  rw [exec_rampDownEnd, execRampDownEnd, State.tx_advance, hj]
  simp only [ha, hab]
  rw [if_pos (le_trans (Nat.min_le_left _ _) hd)]

/-- A ramp-up that ends sends, and only the record of an association's node may move with it (Tables 7-2 and 8-3). -/
theorem rampUpEnd_sends {n : Fin 16} {a : Nat} (hj : (s.tx n).job = some j) (hst : s.rd (Key.txcState n) = 3) (ha : j.rampAt = some a)
    (he : j.ended = false) (hd : a + us (rampUs j.req.mode) ≤ (s.advance dt).elapsed) :
    Gives (exec (.rampUpEnd n dt) s) fun t => t.rd (Key.txcState n) = 4 ∧ (t.tx n).job = some j := by
  rw [exec_rampUpEnd, execRampUpEnd, State.tx_advance, hj]
  simp only [State.rd_advance, ha]
  rw [if_neg (by simp only [hst, he]; simpa using hd), gives_next]
  have hrd : (((s.advance dt).wr (Key.txcState n) 4).burstMark j.req.port).rd (Key.txcState n) = 4 := by
    rw [State.rd_burstMark, State.rd_wr_self]
  have htx : (((s.advance dt).wr (Key.txcState n) 4).burstMark j.req.port).tx n = s.tx n := by
    rw [State.tx_burstMark, State.tx_wr, State.tx_advance]
  have hhw (u : State) (r : Nat) (f : NodeHw → NodeHw) : (u.modHw r f).rd (Key.txcState n) = u.rd (Key.txcState n) ∧ (u.modHw r f).tx n = u.tx n := by
    simp only [State.rd, State.tx, State.modHw_keeps .., and_self]
  split
  · split_ifs
    · exact ⟨(hhw _ _ _).1.trans hrd, by rw [(hhw _ _ _).2, htx, hj]⟩
    · exact ⟨hrd, by rw [htx, hj]⟩
  all_goals exact ⟨hrd, by rw [htx, hj]⟩

/-! ### The duty buckets (R204) -/

/-- A fold of writes under keys that tell their entries apart leaves each entry's own value. -/
theorem KMap.getD_foldl_put {α β : Type} (key : β → Nat) (f : β → α) (d : α) (x : β) {l : List β} (hinj : ∀ y ∈ l, key y = key x → f y = f x)
    (hx : x ∈ l) (m : KMap α) : KMap.getD (l.foldl (fun m y => KMap.put m (key y) (f y)) m) d (key x) = f x := by
  have hkeep : ∀ (l : List β), (∀ y ∈ l, key y = key x → f y = f x) → ∀ m : KMap α, KMap.getD m d (key x) = f x →
      KMap.getD (l.foldl (fun m y => KMap.put m (key y) (f y)) m) d (key x) = f x := by
    intro l
    induction l with
    | nil => exact fun _ m h => h
    | cons y ys ih =>
      refine fun hi m h => ih (fun z hz => hi z (.tail _ hz)) _ ?_
      by_cases hk : key y = key x
      · rw [KMap.getD, ← hk, KMap.find_put_self]
        exact hi y (.head _) hk
      · rw [KMap.getD, KMap.find_put_ne _ _ (Ne.symm hk)]
        exact h
  induction l generalizing m with
  | nil => cases hx
  | cons y ys ih =>
    obtain rfl | hys := List.mem_cons.mp hx
    · refine hkeep ys (fun z hz => hinj z (.tail _ hz)) _ ?_
      rw [KMap.getD, KMap.find_put_self]
    · exact ih (fun z hz => hinj z (.tail _ hz)) hys _

/-- The ports and sub-bands that have a duty bucket. -/
def State.dutyKeys (s : State) : List (Nat × Nat) := (List.range 4).flatMap (fun p => (s.subBands p).map (fun b => (p, b.1)))

theorem State.mem_dutyKeys {p i : Nat} : (p, i) ∈ s.dutyKeys ↔ p < 4 ∧ ∃ b, (i, b) ∈ s.subBands p := by
  simp [State.dutyKeys]

theorem State.subBand_lt {p i : Nat} {b : SubBand} (h : (i, b) ∈ s.subBands p) : i < 8 := by
  simp only [State.subBands, List.mem_filter, List.mem_map, List.mem_range] at h
  obtain ⟨⟨k, hk, heq⟩, -⟩ := h
  obtain ⟨rfl, -⟩ := Prod.mk.inj heq
  exact hk

/-- Every duty bucket moved on by a minute. -/
def State.dutyMoved (s : State) : State :=
  let duty := s.dutyKeys.foldl (fun m k => KMap.put m (8 * k.1 + k.2) (0 :: (s.dutyOf k.1 k.2).take 59)) s.radio.duty
  { s with radio := { s.radio with duty := duty, dutyMin := s.radio.dutyMin + 1 } }

theorem State.dutyOf_dutyMoved {p i : Nat} {b : SubBand} (hp : p < 4) (h : (i, b) ∈ s.subBands p) :
    s.dutyMoved.dutyOf p i = 0 :: (s.dutyOf p i).take 59 := by
  refine KMap.getD_foldl_put (fun k : Nat × Nat => 8 * k.1 + k.2) (fun k => 0 :: (s.dutyOf k.1 k.2).take 59) _ (p, i) ?_
    (State.mem_dutyKeys.mpr ⟨hp, b, h⟩) _
  rintro ⟨q, k⟩ hqk heq
  obtain ⟨-, c, hc⟩ := State.mem_dutyKeys.mp hqk
  have hk := State.subBand_lt hc
  have hi := State.subBand_lt h
  simp only at heq ⊢
  obtain ⟨rfl, rfl⟩ : q = p ∧ k = i := by omega
  rfl

theorem State.dutyMin_dutyMoved (s : State) : s.dutyMoved.radio.dutyMin = s.radio.dutyMin + 1 := rfl

theorem exec_dutyBucketAdvance_eq : exec (.dutyBucketAdvance dt) s = .next (if ms (60000 * ((s.advance dt).radio.dutyMin + 1)) ≤ (s.advance dt).elapsed
    then (s.advance dt).dutyMoved else s.advance dt) := by
  rw [exec_dutyBucketAdvance, execDutyBucketAdvance]
  simp only [State.dutyMoved, State.dutyKeys]

theorem dutyBucketAdvance_moves (h : ms (60000 * (s.radio.dutyMin + 1)) ≤ (s.advance dt).elapsed) :
    exec (.dutyBucketAdvance dt) s = .next (s.advance dt).dutyMoved := by
  rw [exec_dutyBucketAdvance_eq, State.radio_advance, if_pos h]

/-- Settles O15. -/
theorem transmitTileStates : Obligations.TransmitTileStates := by
  unfold Obligations.TransmitTileStates
  have hoff {n : Fin 16} {dt : Nat} {j : TxJob} {s : State} (hj : (s.tx n).job = some j) (code : Nat) :=
    State.txEnd_off n.isLt ((State.tx_advance s dt n).symm ▸ hj) code
  refine ⟨?_, ?_, ?_, ?_, ?_, ?_, ?_, ?_, ?_, ?_, ?_, ?_⟩
  · intro n dt j s hj hst hl hc hh hp hs hd
    rw [listenDue_starts hj hst hl hc hh hp hs hd, gives_next]
    exact ⟨State.rd_wr_self _ _ _, by simp only [State.wr_keeps .., State.radio_advance]⟩
  · intro n dt j s hj hst hl hc hh hp hd
    rw [listenDue_busy hj hst hl hc hh hp hd, gives_next, ← State.rd_advance s dt]
    exact ⟨(hoff hj _).1, (hoff hj _).2, State.txEnd_busy ((State.tx_advance s dt n).symm ▸ hj)⟩
  · intro n blocks dt j s hj hst hp hs hd hb
    rw [listenEnd_clear hj hst hp hs hd hb, gives_next, State.portRun_rd (by simp), State.job_portRun, State.rd_setTx, State.rd_wr_self,
      State.tx_setTx_self _ _ n.isLt]
    exact ⟨rfl, rfl⟩
  · intro n blocks dt j s hj hst h
    rw [listenEnd_busy hj hst h, gives_next, ← State.rd_advance s dt]
    exact ⟨(hoff hj _).1, (hoff hj _).2, State.txEnd_busy ((State.tx_advance s dt n).symm ▸ hj)⟩
  · intro n dt j h s hj hr hlow hm hmap hg
    rw [rampDue_starts hj hr hlow hm hmap hg, gives_next, State.rd_burstMark, State.tx_burstMark, State.rd_airOut, State.tx_airOut,
      State.rd_setTx, State.rd_wr_self, State.tx_setTx_self _ _ n.isLt]
    exact ⟨rfl, rfl⟩
  · intro n dt j s hj hst hl hnow hm hmap hh hlow hc
    rw [rampDue_capped hj hst hl hnow hm hmap hh hlow hc, gives_next, State.rd_setTx, State.rd_advance, State.tx_setTx_self _ _ n.isLt]
    exact ⟨hst, rfl⟩
  · intro n dt j s hj hst hw h
    rw [windowEnd_defers hj hst hw h, gives_next, ← State.rd_advance s dt]
    exact ⟨(hoff hj _).1, (hoff hj _).2, State.txEnd_defer ((State.tx_advance s dt n).symm ▸ hj)⟩
  · exact fun n dt j a s hj hst ha he hd => rampUpEnd_sends hj hst ha he hd
  · intro n dt j a s hj hst ha hd
    rw [lastChip_ramps hj hst ha hd, gives_next, State.rd_burstMark, State.tx_burstMark, State.rd_setTx, State.rd_wr_self,
      State.tx_setTx_self _ _ n.isLt]
    exact ⟨rfl, rfl⟩
  · intro n dt j a s hj ha he hab hd
    rw [rampDownEnd_sent hj ha he hab hd, gives_next, ← State.rd_advance s dt]
    exact ⟨(hoff hj _).1, (hoff hj _).2, State.txEnd_sent ((State.tx_advance s dt n).symm ▸ hj)⟩
  · intro n dt j a d s hj ha hab hd
    rw [rampDownEnd_cut hj ha hab hd, gives_next, ← State.rd_advance s dt]
    exact ⟨(hoff hj _).1, (hoff hj _).2, State.txEnd_aborted ((State.tx_advance s dt n).symm ▸ hj)⟩
  · intro dt s h
    rw [dutyBucketAdvance_moves h, gives_next]
    have hbands (p : Nat) : (s.advance dt).subBands p = s.subBands p := by simp only [State.subBands, State.stampBytes_advance]
    have hduty (p i : Nat) : (s.advance dt).dutyOf p i = s.dutyOf p i := by simp only [State.dutyOf, State.radio_advance, State.stampBytes_advance]
    refine ⟨?_, fun p i b hp hb => ?_⟩
    · rw [State.dutyMin_dutyMoved, State.radio_advance]
    · rw [← hbands] at hb
      rw [State.dutyOf_dutyMoved hp hb, hduty]

end Sys2Proof.Machine

end

section
/-! ## O12: a receive tile detects, qualifies, synchronises and times out (R166, R169 to R174, R176, R190) -/

namespace Sys2Proof.Machine

variable {s : State} {dt : Nat}

/-! ### What the clock leaves of a receive tile -/

theorem State.rx_advance (s : State) (dt n : Nat) : (s.advance dt).rx n = s.rx n := by simp only [State.rx, State.advance_keeps ..]

theorem State.rxPort_advance (s : State) (dt n : Nat) : (s.advance dt).rxPort n = s.rxPort n := by rw [State.rxPort, State.rxPort, State.rd_advance]

theorem State.rxMode_advance (s : State) (dt n : Nat) : (s.advance dt).rxMode n = s.rxMode n := by rw [State.rxMode, State.rxMode, State.rd_advance]

theorem State.symbols_advance (s : State) (dt n k : Nat) : (s.advance dt).symbols n k = s.symbols n k := by
  rw [State.symbols, State.symbols, State.rxMode_advance]

theorem State.rdI_advance (s : State) (dt w k : Nat) : (s.advance dt).rdI w k = s.rdI w k := by rw [State.rdI, State.rdI, State.rd_advance]

/-! ### The frame and the end of a frame -/

theorem State.rx_wr (s : State) (k v n : Nat) : (s.wr k v).rx n = s.rx n := by simp only [State.rx, State.wr_keeps ..]

theorem State.rx_bump (s : State) (k n : Nat) : (s.bump k).rx n = s.rx n := by simp only [State.rx, State.bump_keeps ..]

theorem State.rd_setRx (s : State) (n : Nat) (x : RxTile) (k : Nat) : (s.setRx n x).rd k = s.rd k := rfl

theorem State.rd_modFrame (s : State) (n : Nat) (f : RxFrame → RxFrame) (k : Nat) : (s.modFrame n f).rd k = s.rd k := rfl

theorem State.frame_modFrame {n : Nat} (hn : n < 64) (f : RxFrame → RxFrame) : ((s.modFrame n f).rx n).frame = (s.rx n).frame.map f := by
  rw [State.modFrame, State.rx_setRx_self _ _ hn]

/-- A frame that ends leaves its tile without one, listening where its port can receive (Table 6-5). -/
theorem State.rxIdle_holds {n : Nat} (hn : n < 64) : ((s.rxIdle n).rx n).frame = none ∧
    (s.rxIdle n).rd (Key.rxcState n) = (if 3 ≤ s.pstate (s.rxPort n) then 1 else 0) ∧
    ∀ k, Key.fam k ≠ 0x21001A → k ≠ Key.rxcState n → (s.rxIdle n).rd k = s.rd k := by
  have hcands (f : RxFrame) {k : Nat} (hk : Key.fam k ≠ 0x21001A) : (s.failCands n f.cands.length).rd k = s.rd k :=
    State.failCands_rd (by simpa using hk)
  rw [State.rxIdle]
  refine ⟨?_, ?_, fun k hk hne => ?_⟩
  · rw [State.rx_wr, State.rx_setRx_self _ _ hn]
  · rw [State.rd_wr_self]
    split
    · rw [State.pstate, hcands _ (by simp)]
      rfl
    · rfl
  · rw [State.rd_wr_ne _ _ hne, State.rd_setRx]
    split
    · exact hcands _ hk
    · rfl

theorem State.despreadEnd_holds {n : Nat} (hn : n < 64) (hp : 3 ≤ s.pstate (s.rxPort n)) : (s.despreadEnd n).rd (Key.rxcState n) = 1 ∧
    ((s.despreadEnd n).rx n).frame = none ∧
    (s.despreadEnd n).rd (Key.rxDespreadTimeout n) = satAdd u32Max (s.rd (Key.rxDespreadTimeout n)) 1 := by
  obtain ⟨hframe, hstate, hrd⟩ := s.rxIdle_holds hn
  have hne : Key.rxcState n ≠ Key.rxDespreadTimeout n := fun h => absurd (congrArg Key.fam h) (by simp)
  rw [State.despreadEnd, State.rd_bump_ne _ _ hne, State.rx_bump, State.rd_bump_self, hrd _ (by simp) hne.symm, hstate, if_pos hp]
  exact ⟨rfl, hframe, rfl⟩

/-! ### The commands -/

theorem rxDetect_detects {n : Fin 64} {level : Int} (hst : s.rd (Key.rxcState n) = 1) (hp : s.pstate (s.rxPort n) = 3)
    (hs : (s.port (s.rxPort n)).step = none) (hb : (s.advance dt).blindNow (s.rxPort n) = false) (hc : (s.rx n).calUntil ≤ (s.advance dt).elapsed)
    (hl : (2 : Int) * (s.rdI 8 (Key.rxcDetectDbm n) - thrOffset (s.rxMode n)) ≤ level) :
    Gives (exec (.rxDetect n level dt) s) fun t => t.rd (Key.rxcState n) = 2 ∧
      ∃ f, (t.rx n).frame = some f ∧ f.level = level ∧ f.at0 = (s.advance dt).elapsed := by
  rw [exec_rxDetect, execRxDetect]
  simp only [State.rd_advance, State.rdI_advance, State.rxPort_advance, State.rxMode_advance, State.port_advance, State.rx_advance]
  rw [if_pos ⟨hst, hp, by rw [hs]; rfl, by rw [hb]; rfl, hc, hl⟩, gives_next, State.rd_wr_self, State.rx_wr, State.rx_setRx_self _ _ n.isLt]
  exact ⟨rfl, _, rfl, rfl, rfl⟩

theorem rxDetect_below {n : Fin 64} {level : Int} (hl : level < (2 : Int) * (s.rdI 8 (Key.rxcDetectDbm n) - thrOffset (s.rxMode n))) :
    exec (.rxDetect n level dt) s = .next (s.advance dt) := by
  rw [exec_rxDetect, execRxDetect]
  simp only [State.rdI_advance, State.rxMode_advance]
  rw [if_neg]
  rintro ⟨-, -, -, -, -, h⟩
  exact absurd hl (not_lt.mpr h)

theorem qualifierConfirm_qualifies {n : Fin 64} {s1 s2 : List Int} {est : Int} {f : RxFrame} (hf : (s.rx n).frame = some f)
    (hst : s.rd (Key.rxcState n) = 2) (hq : f.qualified = none) (h1 : qualifies (s.rxMode n) (s.rd (Key.rxcQualifier n)) 64 s1 = true)
    (h2 : qualifies (s.rxMode n) (s.rd (Key.rxcQualifier n)) 64 s2 = true) (hd : (s.advance dt).elapsed ≤ f.at0 + s.symbols n 4) :
    Gives (exec (.qualifierConfirm n s1 s2 est dt) s) fun t =>
      (t.rx n).frame = some { f with qualified := some (s.advance dt).elapsed, afc := afcFor (s.rxMode n) est } ∧
      t.rd (Key.rxDetect n) = satAdd u32Max (s.rd (Key.rxDetect n)) 1 := by
  rw [exec_qualifierConfirm, execQualifierConfirm, State.rx_advance, hf]
  simp only [State.rd_advance, State.rxMode_advance, State.symbols_advance]
  rw [if_pos ⟨hst, by rw [hq]; rfl, h1, h2, hd⟩, gives_next, State.rx_bump, State.frame_modFrame n.isLt, State.rx_advance, hf, State.rd_bump_self,
    State.rd_modFrame, State.rd_advance]
  exact ⟨rfl, rfl⟩

theorem detectTimeout_ends {n : Fin 64} {f : RxFrame} (hf : (s.rx n).frame = some f) (hst : s.rd (Key.rxcState n) = 2) (hq : f.qualified = none)
    (hd : f.at0 + s.symbols n 4 ≤ (s.advance dt).elapsed) (hp : 3 ≤ s.pstate (s.rxPort n)) :
    Gives (exec (.detectTimeout n dt) s) fun t => t.rd (Key.rxcState n) = 1 ∧ (t.rx n).frame = none := by
  obtain ⟨hframe, hstate, -⟩ := (s.advance dt).rxIdle_holds n.isLt
  rw [exec_detectTimeout, execDetectTimeout, State.rx_advance, hf]
  simp only [State.rd_advance, State.symbols_advance]
  rw [State.rxPort_advance, State.pstate_advance, if_pos hp] at hstate
  rw [if_pos ⟨hst, by rw [hq]; rfl, hd⟩, gives_next]
  exact ⟨hstate, hframe⟩

theorem sfdFound_receives {n : Fin 64} {sfd : List (List Int)} {word phase fofs : Int} {f : RxFrame} {q : Nat} (hf : (s.rx n).frame = some f)
    (hst : s.rd (Key.rxcState n) = 2) (hq : f.qualified = some q) (ha : f.afc.isSome = true) (ho : fofs.natAbs ≤ afcRange (s.rxMode n))
    (hd : (s.advance dt).elapsed ≤ q + s.symbols n 40) (hs : Machine.sfdFound (s.rxMode n) sfd = true) :
    Gives (exec (.sfdFound n sfd word phase fofs dt) s) fun t => t.rd (Key.rxcState n) = 3 ∧
      ∃ g, (t.rx n).frame = some g ∧ g.stamp = (s.advance dt).nowNs ∧ g.fofs = fofs ∧ g.loop.ref = sfdRef (s.rxMode n) sfd := by
  rw [exec_sfdFound, execSfdFound, State.rx_advance, hf]
  simp only [hq, State.rd_advance, State.rxMode_advance, State.symbols_advance]
  rw [if_pos ⟨hst, ha, ho, hd, hs⟩, gives_next, State.rd_wr_self, State.rx_wr, State.frame_modFrame n.isLt, State.rx_advance, hf]
  exact ⟨rfl, _, rfl, rfl, rfl, rfl⟩

theorem sfdTimeout_ends {n : Fin 64} {f : RxFrame} {q : Nat} (hf : (s.rx n).frame = some f) (hst : s.rd (Key.rxcState n) = 2)
    (hq : f.qualified = some q) (hd : q + s.symbols n 40 ≤ (s.advance dt).elapsed) :
    exec (.sfdTimeout n dt) s = .next ((s.advance dt).despreadEnd n) := by
  rw [exec_sfdTimeout, execSfdTimeout, State.rx_advance, hf]
  simp only [hq, State.rd_advance, State.symbols_advance]
  rw [if_pos ⟨hst, hd⟩, State.despreadEnd]

/-- The PHR is read once its symbols have passed and kept their correlation (R172, R173). -/
theorem exec_phrRx_read {n : Fin 64} {syms : List RxSym} {f : RxFrame} (hf : (s.rx n).frame = some f) (hst : s.rd (Key.rxcState n) = 3)
    (hn : f.len = none) (hl : syms.length = symbolsOf (s.rxMode n) 1)
    (hp : (s.advance dt).octetsPassed (s.rxMode n) (f.sfd.getD 0) 1 = true) (hlost : (f.loop.run (s.rxMode n) syms).lost = false) :
    exec (.phrRx n syms dt) s = .next (if leNat (despread (s.rxMode n) f.loop.ref syms) % 128 ≤ 4
      then ((s.advance dt).rxIdle n).bump (Key.rxFcsErr n)
      else (s.advance dt).modFrame n (fun g => { g with len := some (leNat (despread (s.rxMode n) f.loop.ref syms) % 128),
                                                        loop := f.loop.run (s.rxMode n) syms })) := by
  rw [exec_phrRx, execPhrRx, State.rx_advance, hf]
  simp only [State.rd_advance, State.rxMode_advance]
  rw [if_neg (by simp [hst, hn, hl, hp]), if_neg (by simp [hlost])]

theorem despreadTimeout_ends {n : Fin 64} {syms : List RxSym} {f : RxFrame} {q : Nat} (hf : (s.rx n).frame = some f)
    (hst : s.rd (Key.rxcState n) = 3) (hq : f.sfd = some q) (hd : q + s.symbols n 8 ≤ (s.advance dt).elapsed) (hl : syms.length = 8)
    (hlow : syms.all (fun x => lowSymbol (s.rxMode n) x.chips) = true) :
    exec (.despreadTimeout n syms dt) s = .next ((s.advance dt).despreadEnd n) := by
  rw [exec_despreadTimeout, execDespreadTimeout, State.rx_advance, hf]
  simp only [hq, State.rd_advance, State.symbols_advance, State.rxMode_advance]
  rw [if_pos ⟨hst, hd, hl, hlow⟩]

theorem despreadTimeout_correlated {n : Fin 64} {syms : List RxSym} (h : syms.any (fun x => !lowSymbol (s.rxMode n) x.chips) = true) :
    exec (.despreadTimeout n syms dt) s = .next (s.advance dt) := by
  have hnot : ¬ syms.all (fun x => lowSymbol (s.rxMode n) x.chips) = true := by
    simpa only [List.any_eq_true, List.all_eq_true, Bool.not_eq_true', not_forall, Bool.not_eq_true, exists_prop] using h
  rw [exec_despreadTimeout, execDespreadTimeout, State.rx_advance, State.rxMode_advance]
  split
  · rfl
  · split
    · rfl
    · rw [if_neg fun h => hnot h.2.2.2]

/-- Settles O12. -/
theorem tileReceives : Obligations.TileReceives := by
  unfold Obligations.TileReceives
  have hend {n : Fin 64} {dt : Nat} {s : State} (hp : 3 ≤ s.pstate (s.rxPort n)) :=
    State.despreadEnd_holds (s := s.advance dt) n.isLt (by rw [State.rxPort_advance, State.pstate_advance]; exact hp)
  refine ⟨fun n level dt s hst hp hs hb hc hl => rxDetect_detects hst hp hs hb hc hl, fun n level dt s hl => ?_,
    fun n s1 s2 est dt f s hf hst hq h1 h2 hd => qualifierConfirm_qualifies hf hst hq h1 h2 hd,
    fun n dt f s hf hst hq hd hp => detectTimeout_ends hf hst hq hd hp,
    fun n sfd word phase fofs dt f q s hf hst hq ha ho hd hs => sfdFound_receives hf hst hq ha ho hd hs, ?_, ?_, ?_, ?_, ?_⟩
  · rw [rxDetect_below hl, gives_next]
  · intro n dt f q s hf hst hq hd hp
    rw [sfdTimeout_ends hf hst hq hd, gives_next, ← State.rd_advance s dt]
    exact hend hp
  · intro n syms dt f s hf hst hn hl hp hlost hlen
    rw [exec_phrRx_read hf hst hn hl hp hlost, if_neg (by omega), gives_next, State.frame_modFrame n.isLt, State.rx_advance, hf]
    rfl
  · intro n syms dt f s hf hst hn hl hp hlost hlen
    obtain ⟨hframe, -, hrd⟩ := (s.advance dt).rxIdle_holds n.isLt
    have hne : Key.rxFcsErr n ≠ Key.rxcState n := fun h => absurd (congrArg Key.fam h) (by simp)
    rw [exec_phrRx_read hf hst hn hl hp hlost, if_pos hlen, gives_next, State.rx_bump, State.rd_bump_self, hrd _ (by simp) hne, State.rd_advance]
    exact ⟨hframe, rfl⟩
  · intro n syms dt f q s hf hst hq hd hl hlow hp
    rw [despreadTimeout_ends hf hst hq hd hl hlow, gives_next, ← State.rd_advance s dt]
    exact hend hp
  · intro n syms dt s h
    rw [despreadTimeout_correlated h, gives_next]

end Sys2Proof.Machine

end

section
/-! ## O13: received frames are checked and counted; capture, Backstitch engines and gain (R12, R13, R167, R168, R173, R174, R180 to R186) -/

namespace Sys2Proof.Machine

variable {s : State} {dt : Nat}

/-! ### The checks of R12 -/

theorem State.rxFail_plain {f : AirFrame} (hb : f.bs = false) (c : RxCheck) : s.rxFail f c = s.bump (match c with
    | .fcs => Key.rxFcsErr f.tile
    | .security => Key.rxSecFail f.tile
    | .replay => Key.rxReplay f.tile
    | .duplicate => Key.rxDup f.tile
    | .foreign => Key.rxForeign f.tile) := by
  unfold State.rxFail
  rw [if_neg (by simp [hb])]
  cases c <;> rfl

/-- A frame that is too short or of another FCS counts in RX_FCS_ERR. -/
theorem State.checks_badFcs {f : AirFrame} (hb : f.bs = false)
    (h : f.psdu.length < 5 ∨ Crypto.fcs (f.psdu.take (f.psdu.length - 2)) ≠ leNat (f.psdu.drop (f.psdu.length - 2))) :
    (s.checks f).1 = s.bump (Key.rxFcsErr f.tile) := by
  rw [State.checks]
  dsimp only
  rw [if_pos h, State.rxFail_plain hb]

/-- A frame of an accepted form that acknowledges. -/
theorem State.checks_immAck {f : AirFrame} {h : Mhr} (h5 : 5 ≤ f.psdu.length)
    (hfcs : Crypto.fcs (f.psdu.take (f.psdu.length - 2)) = leNat (f.psdu.drop (f.psdu.length - 2)))
    (hp : parseMhr (f.psdu.take (f.psdu.length - 2)) = some h) (hf : s.formOf h = some .immAck) : s.checks f = s.immAck f h := by
  rw [State.checks]
  dsimp only
  rw [if_neg (by rintro (h | h); exacts [absurd h5 (Nat.not_le.mpr h), h hfcs]), hp]
  dsimp only
  rw [hf]
  exact if_pos rfl

/-- A frame of another accepted form whose header names no record. -/
theorem State.checks_unnamed {f : AirFrame} {h : Mhr} {form : Form} (h5 : 5 ≤ f.psdu.length)
    (hfcs : Crypto.fcs (f.psdu.take (f.psdu.length - 2)) = leNat (f.psdu.drop (f.psdu.length - 2)))
    (hp : parseMhr (f.psdu.take (f.psdu.length - 2)) = some h) (hf : s.formOf h = some form) (hk : form ≠ .immAck)
    (hn : s.nameOf h form f.freq = none) : s.checks f = s.foreign f h form := by
  rw [State.checks]
  dsimp only
  rw [if_neg (by rintro (h | h); exacts [absurd h5 (Nat.not_le.mpr h), h hfcs]), hp]
  dsimp only
  rw [hf]
  dsimp only
  rw [if_neg hk, hn]

/-- A short address outside the records names none of them (R229). -/
theorem State.nameOf_foreign {h : Mhr} {freq : Nat} (ha : h.src.getD 0 < 0x4000 ∨ 0x8000 ≤ h.src.getD 0) : s.nameOf h .uplink freq = none := by
  rw [State.nameOf]
  dsimp only
  rw [if_neg (by omega)]

theorem State.checks_foreign {f : AirFrame} {h : Mhr} (hb : f.bs = false) (h5 : 5 ≤ f.psdu.length)
    (hfcs : Crypto.fcs (f.psdu.take (f.psdu.length - 2)) = leNat (f.psdu.drop (f.psdu.length - 2)))
    (hp : parseMhr (f.psdu.take (f.psdu.length - 2)) = some h) (hf : h.form = some .uplink) (hv : h.version = 2)
    (ha : h.src.getD 0 < 0x4000 ∨ 0x8000 ≤ h.src.getD 0) : (s.checks f).1 = s.bump (Key.rxForeign f.tile) := by
  have hform : s.formOf h = some .uplink := by rw [State.formOf, if_neg (by omega), hf]
  rw [State.checks_unnamed h5 hfcs hp hform (by decide) (State.nameOf_foreign ha), State.foreign]
  exact State.rxFail_plain hb .foreign

/-- An acknowledgement that no copy came before and that no record awaits counts in RX_FRAMES (R185, R224). -/
theorem State.checks_ack {f : AirFrame} {h : Mhr} (hb : f.bs = false) (h5 : 5 ≤ f.psdu.length)
    (hfcs : Crypto.fcs (f.psdu.take (f.psdu.length - 2)) = leNat (f.psdu.drop (f.psdu.length - 2)))
    (hp : parseMhr (f.psdu.take (f.psdu.length - 2)) = some h) (hf : h.form = some .immAck) (hc : s.flag Key.girthCompat = true)
    (hr : s.girth.recs = []) (hd : s.radio.dup = []) :
    (s.checks f).1 = (s.dupEnter f.tile (s.dupOf f h)).bump (Key.rxFrames f.tile) := by
  have hform : s.formOf h = some .immAck := by rw [State.formOf, if_neg (by simp [hc]), hf]
  have hlive : s.dupLive = [] := by rw [State.dupLive, hd]; rfl
  rw [State.checks_immAck h5 hfcs hp hform, State.immAck, if_neg (by simp [hb]), hlive]
  have hpass : (s.dupEnter f.tile (s.dupOf f h)).rxPass f = (s.dupEnter f.tile (s.dupOf f h)).bump (Key.rxFrames f.tile) := by
    rw [State.rxPass, if_neg (by simp [hb])]
  have hrecs : ((s.dupEnter f.tile (s.dupOf f h)).bump (Key.rxFrames f.tile)).girth.recs = [] := by
    simp only [State.bump_keeps .., State.dupEnter_keeps .., hr]
  have hname (freq : Nat) : ((s.dupEnter f.tile (s.dupOf f h)).bump (Key.rxFrames f.tile)).nameOf h .immAck freq = none := by
    rw [State.nameOf, State.heldRecs, hrecs]
    rfl
  dsimp only
  rw [if_neg (by simp), hpass, hname]

/-! ### The end of a frame (R173, R174) -/

/-- Tile `k` with its frame given to the checks and its candidates apart. -/
def State.frameTaken (s : State) (k : Nat) : State := (s.modFrame k (fun f => { f with cands := [] })).rxIdle k

theorem State.frameTaken_holds {n : Nat} (hn : n < 64) : ((s.frameTaken n).rx n).frame = none ∧
    (∀ k, Key.fam k ≠ 0x21001A → k ≠ Key.rxcState n → (s.frameTaken n).rd k = s.rd k) ∧
    (s.frameTaken n).har = s.har ∧ (s.frameTaken n).girth.recs = s.girth.recs ∧ (s.frameTaken n).radio.dup = s.radio.dup := by
  obtain ⟨hframe, -, hrd⟩ := (s.modFrame n (fun f => { f with cands := [] })).rxIdle_holds hn
  refine ⟨hframe, hrd, ?_, ?_, ?_⟩
  · rw [State.frameTaken]; simp only [State.rxIdle_keeps ..]; rfl
  · rw [State.frameTaken]; simp only [State.rxIdle_keeps ..]; rfl
  · rw [State.frameTaken]; simp only [State.rxIdle_keeps ..]; rfl

theorem rxFrameEnd_lost {n : Fin 64} {syms : List RxSym} {rssi : Int} {hb len : Nat} {f : RxFrame} (hf : (s.rx n).frame = some f)
    (hst : s.rd (Key.rxcState n) = 3) (hn : f.len = some len) (hl : syms.length = symbolsOf (s.rxMode n) len)
    (hp : (s.advance dt).octetsPassed (s.rxMode n) (f.sfd.getD 0) (len + 1) = true) (hlost : (f.loop.run (s.rxMode n) syms).lost = true) :
    exec (.rxFrameEnd n syms rssi hb dt) s = .next ((s.advance dt).despreadEnd n) := by
  rw [exec_rxFrameEnd, execRxFrameEnd, State.rx_advance, hf]
  simp only [hn, State.rd_advance, State.rxMode_advance]
  rw [if_neg (by simp [hst, hl, hp]), if_pos hlost]

/-- What the checks get of frame `f` of tile `k`, placed by `w`, with the octets `psdu` and the loop `l` at its end. -/
def RxFrame.air (f : RxFrame) (k w mode haBad : Nat) (rssi : Int) (l : RxLoop) (psdu : Bytes) : AirFrame :=
  { tile := k, port := placePort w, mode := mode, freq := placeFreq w, psdu := psdu, stamp := f.stamp,
    meas := { rssi := rssi, lqi := l.lqi, fofs := f.fofs, tofs := l.word }, gain := f.gain, capt := f.capt, bs := false, diff := 0, haBad := haBad }

/-- A frame whose symbols kept their correlation goes to the checks with the octets that they despread to. -/
theorem rxFrameEnd_checks {n : Fin 64} {syms : List RxSym} {rssi : Int} {hb : Nat} {f : RxFrame} {psdu : Bytes}
    (hf : (s.rx n).frame = some f) (hst : s.rd (Key.rxcState n) = 3) (hn : f.len = some psdu.length) (hc : f.cands = [])
    (hl : syms.length = symbolsOf (s.rxMode n) psdu.length) (hps : psdu = despread (s.rxMode n) f.loop.ref syms)
    (hp : (s.advance dt).octetsPassed (s.rxMode n) (f.sfd.getD 0) (psdu.length + 1) = true)
    (hlost : (f.loop.run (s.rxMode n) syms).lost = false) :
    exec (.rxFrameEnd n syms rssi hb dt) s = .next (((s.advance dt).frameTaken n).checks
      (f.air n (s.rd (Key.rxcPlaced n)) (s.rxMode n) hb rssi (f.loop.run (s.rxMode n) syms) psdu)).1 := by
  rw [exec_rxFrameEnd, execRxFrameEnd, State.rx_advance, hf]
  simp only [hn, State.rd_advance, State.rxMode_advance, hc]
  rw [if_neg (by simp [hst, hl, hp]), if_neg (by simp [hlost]), ← hps]
  rfl

/-! ### Backstitch engines (R183 to R186) -/

theorem State.rd_failCands_self (s : State) (n k : Nat) : (s.failCands n k).rd (Key.bsFailed n) = satAdd u32Max (s.rd (Key.bsFailed n)) k := by
  rw [State.failCands, State.rd_bump_self]

/-- Engine `e` without its candidate. -/
def State.engineFreed (s : State) (e : Nat) : State := { s with radio := { s.radio with bsEngines := vmod (fun _ => none) e s.radio.bsEngines } }

/-- What Cinch gets back of a candidate's grant when its engine ends. -/
def State.unusedGrant (s : State) (c : Recovery) : Nat := c.grant - min c.grant ((s.bsUj * ((s.elapsed - c.started) / 250) + 999) / 1000)

theorem backstitchFrameEnd_lost {e : Fin 8} {sfd : List (List Int)} {syms : List RxSym} {stamp hb : Nat} {fofs rssi : Int} {c : Recovery}
    (hc : s.radio.bsEngines.getD e none = some c) (hl : ∀ k o l, c.despread sfd syms stamp k = some (o, l) → l.lost = true) :
    exec (.backstitchFrameEnd e sfd syms stamp fofs rssi hb dt) s =
      .next ((((s.advance dt).engineFreed e).release (((s.advance dt).engineFreed e).unusedGrant c)).failCands c.tile 1) := by
  rw [exec_backstitchFrameEnd, execBackstitchFrameEnd]
  dsimp only
  rw [State.radio_advance, hc]
  dsimp only
  refine congrArg Host.Outcome.next ?_
  rw [State.unusedGrant, State.engineFreed, State.radio_advance]
  split
  · rfl
  · next o l hd => rw [if_pos (.inr (.inr (.inl (hl _ _ _ hd))))]

theorem backstitchEngineStart_takes {c : Recovery} {rest : List Recovery} {i : Nat} (hq : s.radio.bsQueue = c :: rest)
    (hi : s.radio.bsEngines.toList.findIdx? (fun e => e.isNone) = some i) (hv : (s.advance dt).elapsed ≤ c.verdict + ms 1) :
    Gives (exec (.backstitchEngineStart dt) s) fun t => t.radio.bsQueue = rest ∧
      t.radio.bsEngines.getD i none = some { c with started := (s.advance dt).elapsed } := by
  have hlt : i < 8 := by
    obtain ⟨hlt, -⟩ := List.findIdx?_eq_some_iff_getElem.mp hi
    simpa using hlt
  rw [exec_backstitchEngineStart, execBackstitchEngineStart]
  dsimp only
  rw [State.radio_advance, hq, hi]
  dsimp only
  rw [if_neg (Nat.not_lt.mpr hv), gives_next]
  exact ⟨rfl, vmod_getD_self _ _ _ hlt⟩

/-- The queue of Backstitch without the candidates whose millisecond has passed. -/
def State.queueKept (s : State) : State :=
  { s with radio := { s.radio with bsQueue := s.radio.bsQueue.filter (fun c => decide (s.elapsed ≤ c.verdict + ms 1)) } }

theorem State.bsQueue_each_failed (s : State) (l : List Recovery) :
    (s.each l (fun s c => (s.release c.grant).failCands c.tile 1)).radio.bsQueue = s.radio.bsQueue :=
  State.each_same (fun t => t.radio.bsQueue) (fun t c => by simp only [State.failCands_keeps .., State.release_keeps ..]) s l

theorem exec_backstitchQueueTimeout_eq : exec (.backstitchQueueTimeout dt) s = .next ((s.advance dt).queueKept.each
    ((s.advance dt).radio.bsQueue.filter (fun c => decide (c.verdict + ms 1 < (s.advance dt).elapsed)))
      (fun s c => (s.release c.grant).failCands c.tile 1)) := by
  rw [exec_backstitchQueueTimeout, execBackstitchQueueTimeout, State.queueKept]

/-! ### Capture and late candidates (R180 to R182) -/

theorem capture_captures {n : Fin 64} {s1 s2 : List Int} {level est : Int} {chips : Nat} {sofar : List RxSym} {f : RxFrame}
    (hf : (s.rx n).frame = some f) (hb : s.rxBusy n = true) (h1 : qualifies (s.rxMode n) (s.rd (Key.rxcQualifier n)) 64 s1 = true)
    (h2 : qualifies (s.rxMode n) (s.rd (Key.rxcQualifier n)) 64 s2 = true) (hc : 2 ≤ chips) (hl : f.level + 12 ≤ level) :
    Gives (exec (.capture n s1 s2 level chips est sofar dt) s) fun t => t.rd (Key.rxcState n) = 2 ∧
      ∃ g c, (t.rx n).frame = some g ∧ g.capt = true ∧ g.level = level ∧ g.cands = [c] ∧ c.late = false ∧ c.saved = f.save (s.rxMode n) sofar := by
  have hbusy : (s.advance dt).rxBusy n = true := by rw [State.rxBusy, State.rd_advance]; exact hb
  have hne : Key.rxcState n ≠ Key.rxDetect n := fun h => absurd (congrArg Key.fam h) (by simp)
  rw [exec_capture, execCapture, State.rx_advance, hf]
  simp only [State.rd_advance, State.rxMode_advance]
  rw [if_pos ⟨hbusy, h1, h2, hc, hl⟩, gives_next, State.rd_bump_ne _ _ hne, State.rd_wr_self, State.rx_bump, State.rx_wr,
    State.rx_setRx_self _ _ n.isLt]
  exact ⟨rfl, _, _, rfl, rfl, rfl, rfl, rfl, rfl⟩

theorem lateArrival_adds {n : Fin 64} {s1 s2 : List Int} {level : Int} {chips : Nat} {f : RxFrame}
    (hf : (s.rx n).frame = some f) (hst : s.rd (Key.rxcState n) = 3) (h1 : qualifies (s.rxMode n) (s.rd (Key.rxcQualifier n)) 128 s1 = true)
    (h2 : qualifies (s.rxMode n) (s.rd (Key.rxcQualifier n)) 128 s2 = true) (hc : 2 ≤ chips) (hl : level + 12 ≤ f.level) (hcs : f.cands = []) :
    Gives (exec (.lateArrival n s1 s2 level chips dt) s) fun t => t.rd (Key.rxcState n) = 3 ∧
      ∃ g c, (t.rx n).frame = some g ∧ g.cands = [c] ∧ c.late = true ∧ c.diff = (f.level - level).toNat := by
  have hne : Key.rxcState n ≠ Key.rxDetect n := fun h => absurd (congrArg Key.fam h) (by simp)
  rw [exec_lateArrival, execLateArrival, State.rx_advance, hf]
  simp only [State.rd_advance, State.rxMode_advance]
  rw [if_pos ⟨hst, h1, h2, hc, hl, by rw [hcs]; rfl⟩, gives_next, State.rd_bump_ne _ _ hne, State.rd_modFrame, State.rd_advance, State.rx_bump,
    State.frame_modFrame n.isLt, State.rx_advance, hf]
  exact ⟨hst, _, _, rfl, congrArg (· ++ _) hcs, rfl, rfl⟩

/-! ### Overruns and gain (R167, R168) -/

theorem sampleOverrun_ends {n : Fin 64} (hb : s.rxBusy n = true) : Gives (exec (.sampleOverrun n) s) fun t =>
    (t.rx n).frame = none ∧ t.rd (Key.sampleOverrun n) = satAdd u32Max (s.rd (Key.sampleOverrun n)) 1 := by
  obtain ⟨hframe, -, hrd⟩ := (s.setRx n ((s.rx n).spoil s.elapsed s.elapsed)).rxIdle_holds n.isLt
  have hne : Key.sampleOverrun n ≠ Key.rxcState n := fun h => absurd (congrArg Key.fam h) (by simp)
  have hpost (u : State) (c : Err) (k a b : Nat) : (u.rxPost c k a b).rx n = u.rx n := by simp only [State.rx, State.rxPost_keeps ..]
  rw [exec_sampleOverrun, execSampleOverrun]
  dsimp only
  rw [if_pos hb, gives_next, hpost, State.rx_bump, State.rxPost_rd (by simp), State.rd_bump_self, hrd _ (by simp) hne, State.rd_setRx]
  exact ⟨hframe, rfl⟩

/-- The gain of tile `n` moved by `up`. -/
def State.agcUp (up : Int) (s : State) (n : Nat) : State := s.modFrame n (fun f => { f with agc := f.agc + up })

theorem exec_adcClipGainStep_above {p : Fin 4} (hg : (s.port p).gain ≠ 0) : exec (.adcClipGainStep p) s =
    .next ((s.setPort p ((s.port p).gainTo s.elapsed ((s.port p).gain - 1))).each (s.rxOn p) (State.agcUp (s.stepSize p (s.port p).gain))) := by
  have hon : (s.setPort p ((s.port p).gainTo s.elapsed ((s.port p).gain - 1))).rxOn p = s.rxOn p := rfl
  rw [exec_adcClipGainStep, execAdcClipGainStep]
  dsimp only
  rw [if_neg hg, hon]
  rfl

theorem State.port_each_agcUp (up : Int) (l : List Nat) (s : State) (p : Nat) : (s.each l (State.agcUp up)).port p = s.port p :=
  State.each_same (f := State.agcUp up) (fun t => t.port p) (fun _ _ => rfl) s l

theorem State.rx_agcUp_ne (s : State) (up : Int) {n m : Nat} (h : n ≠ m) : (State.agcUp up s m).rx n = s.rx n := State.rx_setRx_ne _ _ h

theorem State.rx_each_agcUp_notMem (up : Int) {n : Nat} (l : List Nat) (s : State) (h : n ∉ l) : (s.each l (State.agcUp up)).rx n = s.rx n := by
  induction l generalizing s with
  | nil => rfl
  | cons m l ih =>
    have hm : n ≠ m := fun e => h (e ▸ List.mem_cons_self)
    have hl : n ∉ l := fun e => h (List.mem_cons_of_mem _ e)
    exact (ih _ hl).trans (State.rx_agcUp_ne s up hm)

/-- Every tile of a list without repetition takes the step once. -/
theorem State.frame_each_agcUp (up : Int) {n : Nat} (hn : n < 64) {l : List Nat} (hd : l.Nodup) (s : State) (h : n ∈ l) :
    ((s.each l (State.agcUp up)).rx n).frame = (s.rx n).frame.map (fun f => { f with agc := f.agc + up }) := by
  induction l generalizing s with
  | nil => cases h
  | cons m l ih =>
    obtain ⟨hm, hl⟩ := List.nodup_cons.mp hd
    change (((State.agcUp up s m).each l (State.agcUp up)).rx n).frame = _
    obtain rfl | hnl := List.mem_cons.mp h
    · rw [State.rx_each_agcUp_notMem up l _ hm, State.agcUp, State.frame_modFrame hn]
    · have hnm : n ≠ m := fun e => hm (e ▸ hnl)
      rw [ih hl _ hnl, State.rx_agcUp_ne s up hnm]

theorem State.rxOn_lt {p n : Nat} (h : n ∈ s.rxOn p) : n < 64 := List.mem_range.mp (List.mem_filter.mp h).1

theorem State.rxOn_nodup (s : State) (p : Nat) : (s.rxOn p).Nodup := List.nodup_range.filter _

theorem State.rxOn_advance (s : State) (dt p : Nat) : (s.advance dt).rxOn p = s.rxOn p := by simp only [State.rxOn, State.rd_advance]

theorem State.rxBusy_advance (s : State) (dt n : Nat) : (s.advance dt).rxBusy n = s.rxBusy n := by rw [State.rxBusy, State.rxBusy, State.rd_advance]

theorem portGainStep_moves {p : Fin 4} {g : Fin 32} (hg : (s.port p).gainAt = none) (hb : ∀ n, n ∈ s.rxOn p → s.rxBusy n = false) :
    exec (.portGainStep p g dt) s = .next ((s.advance dt).setPort p ((s.port p).gainTo (s.advance dt).elapsed g)) := by
  rw [exec_portGainStep, execPortGainStep]
  rw [State.port_advance, hg, State.rxOn_advance, if_pos]
  simp only [State.rxBusy_advance, Bool.true_and, List.all_eq_true]
  exact fun n hn => by rw [hb n hn]; rfl

theorem portGainStep_held {p : Fin 4} {g : Fin 32} {n : Nat} (hn : n ∈ s.rxOn p) (hb : s.rxBusy n = true) :
    exec (.portGainStep p g dt) s = .next (s.advance dt) := by
  have hall : (s.rxOn p).all (fun n => !s.rxBusy n) = false := List.all_eq_false.mpr ⟨n, hn, by simp [hb]⟩
  rw [exec_portGainStep, execPortGainStep]
  simp only [State.rxOn_advance, State.rxBusy_advance, hall, Bool.and_false, Bool.false_eq_true, if_false]

/-- Settles O13. -/
theorem framesCheckedAndGain : Obligations.FramesCheckedAndGain := by
  unfold Obligations.FramesCheckedAndGain
  have hne (n : Nat) {k : Nat} (h : Key.fam k ≠ 0x210007) : k ≠ Key.rxcState n := fun e => h (by rw [e]; simp)
  refine ⟨?_, ?_, ?_, ?_, ?_, fun n s1 s2 level chips est sofar dt f s hf hb h1 h2 hc hl => capture_captures hf hb h1 h2 hc hl,
    fun n s1 s2 level chips dt f s hf hst h1 h2 hc hl hcs => lateArrival_adds hf hst h1 h2 hc hl hcs,
    fun dt c rest i s hq hi hv => backstitchEngineStart_takes hq hi hv, ?_, fun n f s _ hb => sampleOverrun_ends hb, ?_, ?_, ?_, ?_⟩
  · intro n syms rssi hb dt f len s hf hst hn hl hp hlost
    obtain ⟨hframe, -, hrd⟩ := (s.advance dt).rxIdle_holds n.isLt
    rw [rxFrameEnd_lost hf hst hn hl hp hlost, gives_next, State.despreadEnd, State.rx_bump, State.rd_bump_self,
      hrd _ (by simp) (hne n (by simp)), State.rd_advance]
    exact ⟨hframe, by simp only [State.bump_keeps .., State.rxIdle_keeps .., State.advance_keeps ..], rfl⟩
  · intro n syms rssi hb dt f psdu s hf hst hn hc hl hps hp hlost hbad
    obtain ⟨hframe, hrd, hhar, -, -⟩ := (s.advance dt).frameTaken_holds n.isLt
    rw [rxFrameEnd_checks hf hst hn hc hl hps hp hlost, State.checks_badFcs rfl hbad, gives_next, RxFrame.air, State.rx_bump, State.rd_bump_self,
      hrd _ (by simp) (hne n (by simp)), State.rd_advance]
    exact ⟨hframe, by simp only [State.bump_keeps .., hhar, State.advance_keeps ..], rfl⟩
  · intro n syms rssi hb dt f psdu h form s hf hst hn hc hl hps hp hlost h5 hfcs hm hform hup hv ha
    subst hup
    obtain ⟨hframe, hrd, hhar, -, -⟩ := (s.advance dt).frameTaken_holds n.isLt
    rw [rxFrameEnd_checks hf hst hn hc hl hps hp hlost, State.checks_foreign rfl h5 hfcs hm hform hv ha, gives_next, RxFrame.air, State.rx_bump,
      State.rd_bump_self, hrd _ (by simp) (hne n (by simp)), State.rd_advance]
    exact ⟨hframe, by simp only [State.bump_keeps .., hhar, State.advance_keeps ..], rfl⟩
  · intro n syms rssi hb dt f psdu h s hf hst hn hc hl hps hp hlost h5 hfcs hm hform hcompat hrecs hdup
    obtain ⟨hframe, hrd, hhar, hrec, hdups⟩ := (s.advance dt).frameTaken_holds n.isLt
    have hgirth : (s.advance dt).girth.recs = [] := by simp only [State.advance_keeps .., hrecs]
    have hflag : ((s.advance dt).frameTaken n).flag Key.girthCompat = true := by
      rw [State.flag, hrd _ (by simp) (hne n (by simp)), State.rd_advance]
      exact hcompat
    have henter (u : State) (d : DupEntry) : (u.dupEnter n d).rx n = u.rx n := by simp only [State.rx, State.dupEnter_keeps ..]
    rw [rxFrameEnd_checks hf hst hn hc hl hps hp hlost, State.checks_ack rfl h5 hfcs hm hform hflag (hrec.trans hgirth)
      (hdups.trans (by rw [State.radio_advance, hdup])), gives_next, RxFrame.air, State.rx_bump, State.rd_bump_self, henter,
      State.dupEnter_rd (by simp), hrd _ (by simp) (hne n (by simp)), State.rd_advance]
    exact ⟨hframe, by simp only [State.bump_keeps .., State.dupEnter_keeps .., hhar, State.advance_keeps ..], rfl⟩
  · intro e sfd syms stamp fofs rssi hb dt c s hc hl
    have hfreed (u : State) (k : Nat) : (u.engineFreed e).rd k = u.rd k := rfl
    have hengines (u : State) : (u.engineFreed e).radio.bsEngines.getD e none = none := vmod_getD_self _ _ _ e.isLt
    rw [backstitchFrameEnd_lost hc hl, gives_next, State.rd_failCands_self, State.release_rd (by simp), hfreed, State.rd_advance]
    exact ⟨by simp only [State.failCands_keeps .., State.release_keeps .., hengines], rfl⟩
  · intro dt s
    rw [exec_backstitchQueueTimeout_eq, gives_next, State.bsQueue_each_failed, State.queueKept, State.radio_advance]
  · intro p s hg
    rw [exec_adcClipGainStep_above hg, gives_next, State.port_each_agcUp, State.port_setPort_self _ _ p.isLt]
    exact ⟨rfl, rfl⟩
  · intro p n f s hg hn hf
    have hset (u : State) (x : Port) : (u.setPort p x).rx n = u.rx n := rfl
    rw [exec_adcClipGainStep_above hg, gives_next, State.frame_each_agcUp _ (State.rxOn_lt hn) (s.rxOn_nodup p) _ hn, hset, hf]
    rfl
  · intro p g dt s hg hb
    rw [portGainStep_moves hg hb, gives_next, State.port_setPort_self _ _ p.isLt]
    rfl
  · intro p g dt n s hn hb
    rw [portGainStep_held hn hb, gives_next]

end Sys2Proof.Machine

end

section
/-! ## O14: a commit is checked in order and placed on a tile (R195 to R197, R206, R207) -/

namespace Sys2Proof.Machine

variable {s : State} {q : TxReq} {dt : Nat}

/-! ### A refused commit holds no tile (R197) -/

/-- The report of a beacon counts a missed slot at most. -/
theorem State.txReport_beacon {f : Nat} {pad : Bool} (hk : q.kind = .beacon f pad) (code word octets last : Nat) :
    (s.txReport q code word octets last).radio = s.radio ∧ (s.txReport q code word octets last).sb.journal = s.sb.journal := by
  have hbump (u : State) (k : Nat) : (u.bump k).radio = u.radio ∧ (u.bump k).sb.journal = u.sb.journal := by
    simp only [State.bump_keeps .., and_self]
  rw [State.txReport, hk]
  dsimp only
  split_ifs
  · exact hbump s _
  · exact ⟨rfl, rfl⟩

/-- A refused beacon keeps every tile, and its code is posted with the tile or the port as its source. -/
theorem State.txRefuse_beacon {f code octets : Nat} {pad : Bool} {tile : Option Nat} {c : Err} {src : Nat} (hk : q.kind = .beacon f pad)
    (hg : q.granted = none) (hc : s.txCount tile q.port code false = s.post c src) :
    (s.txRefuse q tile code octets).radio = s.radio ∧ Posted s (s.txRefuse q tile code octets) c src := by
  rw [State.txRefuse, hg]
  dsimp only
  rw [hc]
  obtain ⟨hradio, hjournal⟩ := State.txReport_beacon (s := s.post c src) hk code (txReportWord 0 code (tile.getD 0) q.port q.mode false 0) octets 0
  have hpost : Posted s (s.post c src) c src := Posted.of_post rfl ..
  exact ⟨hradio.trans (by simp only [State.post_keeps ..]), hpost.journal_eq hjournal⟩

theorem exec_txCommit_beacon {f : Nat} {pad : Bool} (hk : q.kind = .beacon f pad) (hp : q.port ≤ 3) (hr : (s.advance dt).reservedFor q = false) :
    exec (.txCommit q dt) s = .next ((s.advance dt).commit q) := by
  rw [exec_txCommit, execTxCommit, hk]
  dsimp only
  rw [if_neg (by rw [hr]; simp; omega)]

/-- The octets that a commit without a key sends. -/
def reqPlain (q : TxReq) : Bytes := q.draft.mhr ++ q.draft.ies ++ q.draft.payload

theorem length_reqPlain (q : TxReq) : (reqPlain q).length = q.draft.mhr.length + q.draft.ies.length + q.draft.payload.length := by
  simp only [reqPlain, List.length_append]

/-- A frame without a key goes to the checks as it is. -/
theorem State.commit_plain (hk : q.draft.key = .none) (hl : s.leadGone q.port q.freq q.due = false) :
    s.commit q = s.commitPsdu q (reqPlain q) := by
  rw [State.commit, if_neg (by simp [hl]), State.secure, hk, reqPlain]

/-! ### The checks in their order (R197) -/

theorem State.commitPsdu_length {b : Bytes} (h : b.length < 3 ∨ 125 < b.length) : s.commitPsdu q b = s.txRefuse q none txBadFrame (b.length + 2) := by
  rw [State.commitPsdu]
  dsimp only
  rw [if_pos (by omega)]

theorem State.commitPsdu_noTile {b : Bytes} (h3 : 3 ≤ b.length) (h125 : b.length ≤ 125) (hp : s.pickTx q = none) :
    s.commitPsdu q b = s.txRefuse q none txNoTile (b.length + 2) := by
  rw [State.commitPsdu]
  dsimp only
  rw [if_neg (by omega), hp]

theorem State.commitPsdu_mask {b : Bytes} {k : Nat} (h3 : 3 ≤ b.length) (h125 : b.length ≤ 125) (hp : s.pickTx q = some k)
    (hm : s.maskOk q = false) : s.commitPsdu q b = s.txRefuse q (some k) txMask (b.length + 2) := by
  rw [State.commitPsdu]
  dsimp only
  rw [if_neg (by omega), hp]
  dsimp only
  rw [if_pos (by rw [hm]; rfl)]

/-- The energy of a transmission without a shedding code, taken from the ledger (R259). -/
def State.txGranted (s : State) (e : Nat) : State :=
  (s.setTokens (s.tokens - e)).setCinch { s.girth.cinch with granted := s.girth.cinch.granted + e }

/-- Tile `k` idle with job `j`, and its port run (Table 7-6). -/
def State.txTaken (s : State) (k : Nat) (j : TxJob) (w p : Nat) : State :=
  (((s.setTx k { (s.tx k) with job := some j, isl := (s.tx k).isl.ask true }).wr (Key.txcState k) 1).wr (Key.txcPlaced k) w).portRun p

/-- The job of a request with its energy, its PSDU and its sub-band. -/
def reqJob (q : TxReq) (e : Nat) (b : Bytes) (sub : Nat × SubBand) : TxJob :=
  { req := { q with granted := some e }, psdu := b, grant := e, sub := sub.1, airtime := airUs q.mode (b.length + 2), lbt := sub.2.lbt, clear := false,
    rampAt := none, first := 0, ended := false, aborted := none, capped := false, power := 0, cut := false }

theorem State.commitPsdu_places {b : Bytes} {k : Nat} {sub : Nat × SubBand} (h3 : 3 ≤ b.length) (h125 : b.length ≤ 125) (hg : q.granted = none)
    (hcode : q.code = none) (hp : s.pickTx q = some k) (hm : s.maskOk q = true) (hmap : s.mapOk q = true) (hs : s.subOf q.port q.freq = some sub)
    (hport : s.portCheck q sub.2.lbt = none) (hd : s.dutyOk q.port (some sub) (airUs q.mode (b.length + 2)) = true) :
    ∃ e, s.commitPsdu q b = (s.txGranted e).txTaken k (reqJob q e b sub) (placeWord q.mode q.port q.freq) q.port := by
  rw [State.commitPsdu]
  dsimp only
  rw [if_neg (by omega), hp]
  dsimp only
  rw [if_neg (by simp [hm]), if_neg (by simp [hmap]), hs]
  dsimp only
  rw [hport]
  dsimp only
  have hgrant (e : Nat) : s.grant q.code e = (s.txGranted e, true) := by rw [hcode]; rfl
  refine ⟨s.reqEnergy q (b.length + 2) (s.reqPower k q), ?_⟩
  rw [if_neg (by simp [hd]), hg]
  dsimp only
  rw [hgrant, if_pos rfl]
  rfl

theorem State.txTaken_holds {k w p : Nat} {j : TxJob} (hk : k < 16) : (s.txTaken k j w p).rd (Key.txcState k) = 1 ∧
    (s.txTaken k j w p).rd (Key.txcPlaced k) = w ∧ ((s.txTaken k j w p).tx k).job = some j := by
  have hne : Key.txcState k ≠ Key.txcPlaced k := fun h => absurd (congrArg Key.fam h) (by simp)
  rw [State.txTaken, State.portRun_rd (by simp), State.portRun_rd (by simp), State.job_portRun, State.rd_wr_ne _ _ hne, State.rd_wr_self,
    State.rd_wr_self, State.tx_wr, State.tx_wr, State.tx_setTx_self _ _ hk]
  exact ⟨rfl, rfl, rfl⟩

theorem State.pickTx_lt {k : Nat} (hport : q.port ≤ 3) (h : s.pickTx q = some k) : k < 16 := by
  rw [State.pickTx] at h
  dsimp only at h
  split at h
  · next m hm =>
    obtain rfl := Option.some.inj h
    exact List.mem_range.mp (List.mem_of_find?_eq_some hm)
  · split_ifs at h
    split at h
    · next i hi =>
      obtain rfl := Option.some.inj h
      have := List.mem_range.mp (List.mem_of_find?_eq_some hi)
      omega
    · exact List.mem_range.mp (List.mem_of_find?_eq_some h)

theorem exec_txCommit_places (hk : ∀ c, q.kind ≠ .lacing c) (hp : q.port ≤ 3) (hr : (s.advance dt).reservedFor q = false) :
    exec (.txCommit q dt) s = .next ((s.advance dt).commit q) := by
  rw [exec_txCommit, execTxCommit]
  dsimp only
  split
  · next c hc => exact absurd hc (hk c)
  all_goals rw [if_neg (by rw [hr]; simp; omega)]

/-- Settles O14. -/
theorem transmitCommit : Obligations.TransmitCommit := by
  unfold Obligations.TransmitCommit
  refine ⟨?_, ?_, ?_, ?_, ?_⟩
  · intro q f pad dt s hk hp hg hkey hr hl hlen
    rw [← length_reqPlain] at hlen
    rw [exec_txCommit_beacon hk hp hr, State.commit_plain hkey hl, State.commitPsdu_length hlen, gives_next, ← State.radio_advance s dt]
    exact State.txRefuse_beacon hk hg rfl
  · intro q f pad dt s hk hp hg hkey hr hl h3 h125 hpick
    rw [← length_reqPlain] at h3 h125
    rw [exec_txCommit_beacon hk hp hr, State.commit_plain hkey hl, State.commitPsdu_noTile h3 h125 hpick, gives_next, ← State.radio_advance s dt]
    exact State.txRefuse_beacon hk hg rfl
  · intro q f pad k dt s hk hp hg hkey hr hl h3 h125 hpick hm
    rw [← length_reqPlain] at h3 h125
    rw [exec_txCommit_beacon hk hp hr, State.commit_plain hkey hl, State.commitPsdu_mask h3 h125 hpick hm, gives_next, ← State.radio_advance s dt]
    exact State.txRefuse_beacon hk hg rfl
  · intro q k sub dt s hk hp hg hcode hkey hr hl h3 h125 hpick hm hmap hsub hport hd
    rw [← length_reqPlain] at h3 h125 hd
    obtain ⟨e, he⟩ := State.commitPsdu_places h3 h125 hg hcode hpick hm hmap hsub hport hd
    obtain ⟨hst, hpl, hj⟩ := ((s.advance dt).txGranted e).txTaken_holds (j := reqJob q e (reqPlain q) sub) (w := placeWord q.mode q.port q.freq) (p := q.port)
      (State.pickTx_lt hp hpick)
    rw [exec_txCommit_places hk hp hr, State.commit_plain hkey hl, he, gives_next]
    exact ⟨hst, hpl, _, hj, rfl, rfl, rfl, rfl⟩
  · intro q f pad dt s hk hp hg hr hl
    rw [exec_txCommit_beacon hk hp hr, State.commit, if_pos hl, State.notCommitted, hg, hk, gives_next]

end Sys2Proof.Machine

end

section
/-! ## O16: association, beacons and broadcasts of Girth (R222, R228 to R230) -/

namespace Sys2Proof.Machine

/-! ### What hopping and serving read (R209, R215) -/

section Reads

variable {s t : State}

theorem State.stampBytes_congr (hd : ∀ p, t.dom (Key.stampPort p) = s.dom (Key.stampPort p)) (hf : t.fuses = s.fuses) (p : Nat) :
    t.stampBytes p = s.stampBytes p := by
  rw [State.stampBytes, State.stampBytes, hd, hf]

theorem State.hopList_congr {k : Nat} (hrd : ∀ p, t.rd (Key.tenChmap k p) = s.rd (Key.tenChmap k p)) (hst : ∀ p, t.stampBytes p = s.stampBytes p)
    (is : Bool) : t.hopList k is = s.hopList k is := by
  simp only [State.hopList, State.raster, hrd, hst]

theorem State.hop_congr {k : Nat} (hrd : ∀ p, t.rd (Key.tenChmap k p) = s.rd (Key.tenChmap k p)) (hst : ∀ p, t.stampBytes p = s.stampBytes p)
    (is : Bool) (a off : Nat) : t.hop k is a off = s.hop k is a off := by
  simp only [State.hop, State.hopList_congr hrd hst]

variable (hd : t.dict = s.dict) (hf : t.fuses = s.fuses)
include hd

theorem State.rd_sameDict (k : Nat) : t.rd k = s.rd k := State.rd_of_nums (congrArg Dictionary.nums hd) k

theorem State.dom_sameDict (k : Nat) : t.dom k = s.dom k := by rw [State.dom, State.dom, hd]

theorem State.flag_sameDict (k : Nat) : t.flag k = s.flag k := by rw [State.flag, State.flag, State.rd_sameDict hd]

theorem State.served_sameDict (k : Nat) : t.served k = s.served k := by simp only [State.served, State.flag_sameDict hd, State.rd_sameDict hd]

theorem State.slotNs_sameDict : t.slotNs = s.slotNs := by rw [State.slotNs, State.slotNs, State.rd_sameDict hd]

theorem State.slotStart_sameDict (a : Nat) : t.slotStart a = s.slotStart a := by rw [State.slotStart, State.slotStart, State.slotNs_sameDict hd]

include hf

theorem State.stampBytes_sameDict (p : Nat) : t.stampBytes p = s.stampBytes p := State.stampBytes_congr (fun _ => State.dom_sameDict hd _) hf p

theorem State.hop_sameDict (k : Nat) (is : Bool) (a off : Nat) : t.hop k is a off = s.hop k is a off :=
  State.hop_congr (fun _ => State.rd_sameDict hd _) (fun _ => State.stampBytes_sameDict hd hf _) is a off

theorem State.cellChannel_sameDict (x : NodeRec) (a : Nat) : t.cellChannel x a = s.cellChannel x a := by
  simp only [State.cellChannel, State.raster, State.rd_sameDict hd, State.stampBytes_sameDict hd hf, State.hop_sameDict hd hf]

theorem State.recSlots_sameDict (x : NodeRec) : t.recSlots x = s.recSlots x := by
  simp only [State.recSlots, State.flag_sameDict hd, State.rd_sameDict hd, State.served_sameDict hd, State.cellChannel_sameDict hd hf]

theorem State.subOf_sameDict (p f : Nat) : t.subOf p f = s.subOf p f := by
  simp only [State.subOf, State.subBands, State.stampBytes_sameDict hd hf]

theorem State.leadNs_sameDict (p f : Nat) : t.leadNs p f = s.leadNs p f := by
  simp only [State.leadNs, State.subOf_sameDict hd hf, State.pstate, State.rd_sameDict hd]

end Reads

variable {s : State} {dt : Nat}

theorem State.dict_advance (s : State) (dt : Nat) : (s.advance dt).dict = s.dict := by simp only [State.advance_keeps ..]

theorem State.nrec_advance (s : State) (dt r : Nat) : (s.advance dt).nrec r = s.nrec r := by simp only [State.nrec, State.advance_keeps ..]

theorem State.tenantModes_congr {t : State} (hr : t.girth.recs = s.girth.recs) (k : Nat) : t.tenantModes k = s.tenantModes k := by
  have hheld : t.heldRecs = s.heldRecs := by rw [State.heldRecs, State.heldRecs, hr]
  have hmodes (p : Nat) : t.beaconModes k p = s.beaconModes k p := by rw [State.beaconModes, State.beaconModes, hheld]
  rw [State.tenantModes, State.tenantModes, hmodes, hmodes]

/-! ### Fired entries (R249) -/

/-- The wheel without its fired entries. -/
def State.firedTaken (s : State) : State := s.setSched { s.girth.sched with fired := [] }

theorem State.takeFired_only {p : Due → Bool} {d l : Nat} {e : Due} (h : s.girth.sched.fired = [⟨d, e, l⟩]) (hp : p e = true) :
    s.takeFired p = (s.firedTaken, some e) := by
  have hfind : s.girth.sched.fired.find? (fun e => p e.due) = some ⟨d, e, l⟩ := by simp [h, hp]
  rw [State.takeFired, hfind, State.firedTaken, h]
  dsimp only
  rw [List.filter_cons_of_neg (by simp), List.filter_nil]

/-! ### Reservations (R234) -/

/-- Without compatibility nodes no span is reserved. -/
theorem State.reserved_noCompat (h : s.flag Key.girthCompat = false) (own : Option Nat) (f a b : Nat) : s.reserved own f a b = false := by
  have hby (x : NodeRec) (f a b : Nat) (hx : x.compat = true) : s.reservedBy x f a b = false := by
    have hslots : s.recSlots x = 0 := by rw [State.recSlots, if_pos (by simp [hx, h])]
    have hcell (l p ph sl n : Nat) : isCell 0 l p ph sl n = false := by simp [isCell]
    simp only [State.reservedBy, hslots, hcell, Bool.false_and, Bool.or_self]
    simp
  refine List.any_eq_false.mpr fun x _ => ?_
  cases hx : x.2.compat with
  | false => simp
  | true => simp [hby x.2 f a b hx]

theorem State.reservedFor_noCompat (h : s.flag Key.girthCompat = false) (q : TxReq) : s.reservedFor q = false := by
  simp only [State.reservedFor, State.reserved_noCompat h, Bool.and_false]

theorem State.sendIn_commits (h : s.flag Key.girthCompat = false) (q : TxReq) : s.sendIn q = s.commit q := by
  rw [State.sendIn, if_neg (by simp [State.reservedFor_noCompat h])]

/-! ### Association requests (R229, R230) -/

/-- The request of the node of record `r` as the tile heard it. -/
def State.assocHeard (s : State) (t eui p mode freq dsn r : Nat) : Heard :=
  { record := r,
    mhr := { typ := 3, security := true, ar := true, panComp := true, suppress := false, iePresent := false, dstMode := 2, version := 2,
             srcMode := 3, res7 := false, dsn := dsn, dstPan := some (s.rd (Key.tenPanId t)), dst := some 0, srcPan := none, src := some eui,
             secCtl := 0, counter := 0, keyIndex := some 1, addrEnd := 0, auxEnd := 0, iesEnd := 0 },
    form := .assocRequest, bytes := [], octets := 29 + s.secExtra t, tile := 0, port := p, mode := mode, freq := freq,
    stamp := s.nowNs - (1 + (29 + s.secExtra t)) * octetUs mode * 1000, rxMeta := 0, haBad := 0 }

theorem State.assocHeard_fields (s : State) (t eui p mode freq dsn r : Nat) : (s.assocHeard t eui p mode freq dsn r).record = r ∧
    (s.assocHeard t eui p mode freq dsn r).port = p ∧ (s.assocHeard t eui p mode freq dsn r).mode = mode ∧
    (s.assocHeard t eui p mode freq dsn r).freq = freq := ⟨rfl, rfl, rfl, rfl⟩

/-- An association request at the present time. -/
def State.assocGo (s : State) (t eui p mode freq dsn : Nat) : State :=
  match s.findRec t eui with
  | none => s.assocUnknown t eui
  | some r =>
    if (s.nrec r).quarantined then s
    else
      let f := s.assocHeard t eui p mode freq dsn r
      let y := if (s.nrec r).compat then (s, Sync.plain) else s.syncNative r f.firstChip false
      (y.1.assocAnswer f y.2).1

theorem exec_assocRequestRx_eq (t : Fin 256) (eui mode freq dsn : Nat) (p : Fin 4) (dt : Nat) (s : State) :
    exec (.assocRequestRx t eui p mode freq dsn dt) s = .next ((s.advance dt).assocGo t eui p mode freq dsn) := rfl

variable {t eui p mode freq dsn r : Nat}

theorem State.assocGo_unknown (h : s.findRec t eui = none) : s.assocGo t eui p mode freq dsn = s.assocUnknown t eui := by rw [State.assocGo, h]

theorem State.assocGo_quarantined (h : s.findRec t eui = some r) (hq : (s.nrec r).quarantined = true) : s.assocGo t eui p mode freq dsn = s := by
  rw [State.assocGo, h]
  exact if_pos hq

/-- A compatibility node gets no association response. -/
theorem State.assocAnswer_compat {f : Heard} {y : Sync} (h : (s.nrec f.record).compat = true) : (s.assocAnswer f y).1 = s := by
  rw [State.assocAnswer]
  rw [if_pos (by simp [h])]

/-- A provisioned node's frame renews its contact alone (R232). -/
theorem State.syncNative_provisioned {r first : Nat} (h : (s.nrec r).hw.macState = 1) : (s.syncNative r first false).1 = s.contact r := by
  have hsync : (s.nrec r).syncState = 1 := by rw [NodeRec.syncState, if_neg (by rw [h]; decide), h]
  rw [State.syncNative, hsync, if_neg (by decide), if_neg (by decide), if_pos (.inl h), if_neg Bool.false_ne_true]

/-- A response in time is committed a millisecond after the request's last chip (R223, R230). -/
theorem State.assocAnswer_commits {f : Heard} {y : Sync} (ho : s.flag Key.assocOpen = true)
    (hk : s.rd (Key.tenKeySlot (s.nrec f.record).tenant) ≠ 0xFFFF) (hm : (s.nrec f.record).hw.macState = 1)
    (hc : (s.nrec f.record).compat = false) (hs : s.recSlots (s.nrec f.record) ≠ 0) (hl : s.nowNs + s.leadNs f.port f.freq ≤ f.lastChip + 1000000) :
    ∃ q : TxReq, (s.assocAnswer f y).1 = s.drawn.commit q ∧ q.kind = .assocRsp f.record ∧ q.port = f.port ∧ q.mode = f.mode ∧ q.freq = f.freq ∧
      q.due = f.lastChip + 1000000 := by
  have hdue : s.answerDue f = some (f.lastChip + 1000000) := by rw [State.answerDue, if_pos hl]
  have hin : (1 == macIn) = false := rfl
  rw [State.assocAnswer]
  rw [if_neg (by simp [ho, hk, hm, hc, hs, hin]), hdue]
  exact ⟨_, rfl, rfl, rfl, rfl, rfl, rfl⟩

theorem State.assocGo_compat (h : s.findRec t eui = some r) (hq : (s.nrec r).quarantined = false) (hc : (s.nrec r).compat = true) :
    s.assocGo t eui p mode freq dsn = s := by
  rw [State.assocGo, h]
  dsimp only
  rw [hq, hc, if_neg Bool.false_ne_true, if_pos rfl]
  exact State.assocAnswer_compat hc

theorem State.assocHeard_lastChip (h : (30 + s.secExtra t) * octetUs mode * 1000 ≤ s.nowNs) :
    (s.assocHeard t eui p mode freq dsn r).lastChip = s.nowNs := by
  have hlen : 1 + (29 + s.secExtra t) = 30 + s.secExtra t := by omega
  rw [Heard.lastChip, State.assocHeard]
  dsimp only
  rw [hlen]
  exact Nat.sub_add_cancel h

/-- A record whose node was heard at `ms`. -/
def contacted (x : NodeRec) (ms : Nat) : NodeRec := { x with hw := { x.hw with lastContact := ms } }

theorem contacted_reads (x : NodeRec) (ms : Nat) : (contacted x ms).tenant = x.tenant ∧ (contacted x ms).compat = x.compat ∧
    (contacted x ms).hw.macState = x.hw.macState ∧ (contacted x ms).hw.lastContact = ms := ⟨rfl, rfl, rfl, rfl⟩

/-- The contact of record `r` renews its time and leaves what planning reads. -/
theorem State.contact_holds (s : State) (r : Nat) :
    (s.contact r).nrec r = contacted (s.nrec r) (s.nowMs % 2 ^ 48) ∧
    (s.contact r).dict = s.dict ∧ (s.contact r).fuses = s.fuses ∧ (s.contact r).radio = s.radio ∧ (s.contact r).nowNs = s.nowNs := by
  refine ⟨?_, ?_, ?_, ?_, ?_⟩
  · rw [State.contact, State.nrec_modHw_self, contacted]
  all_goals simp only [State.nowNs, State.contact_keeps ..]

theorem State.cellChannel_hw (s : State) (x : NodeRec) (w : NodeHw) (a : Nat) : s.cellChannel { x with hw := w } a = s.cellChannel x a := by
  unfold State.cellChannel
  rfl

theorem State.recSlots_hw (s : State) (x : NodeRec) (w : NodeHw) : s.recSlots { x with hw := w } = s.recSlots x := by
  unfold State.recSlots
  rw [State.cellChannel_hw]
  rfl

theorem State.assocGo_native (h : s.findRec t eui = some r) (hq : (s.nrec r).quarantined = false) (hc : (s.nrec r).compat = false)
    (hm : (s.nrec r).hw.macState = 1) :
    ∃ y, s.assocGo t eui p mode freq dsn = ((s.contact r).assocAnswer (s.assocHeard t eui p mode freq dsn r) y).1 := by
  refine ⟨(s.syncNative r (s.assocHeard t eui p mode freq dsn r).firstChip false).2, ?_⟩
  rw [State.assocGo, h, ← State.syncNative_provisioned (first := (s.assocHeard t eui p mode freq dsn r).firstChip) hm]
  simp only [hq, hc, Bool.false_eq_true, if_false]

theorem State.assocGo_answers (h : s.findRec t eui = some r) (hc : (s.nrec r).compat = false) (ht : (s.nrec r).tenant = t)
    (hq : (s.nrec r).quarantined = false) (hs : s.recSlots (s.nrec r) ≠ 0) (ho : s.flag Key.assocOpen = true)
    (hk : s.rd (Key.tenKeySlot t) ≠ 0xFFFF) (hm : (s.nrec r).hw.macState = 1) (hl : s.leadNs p freq ≤ 1000000)
    (hn : (30 + s.secExtra t) * octetUs mode * 1000 ≤ s.nowNs) :
    ∃ (v : State) (q : TxReq), s.assocGo t eui p mode freq dsn = v.commit q ∧ q.kind = .assocRsp r ∧ q.port = p ∧ q.mode = mode ∧ q.freq = freq ∧
      q.due = s.nowNs + 1000000 ∧ v.radio = s.radio ∧ (v.nrec r).hw.lastContact = s.nowMs % 2 ^ 48 := by
  obtain ⟨hrec, hdict, hfuses, hradio, hnow⟩ := s.contact_holds r
  have hlast := s.assocHeard_lastChip (eui := eui) (p := p) (freq := freq) (dsn := dsn) (r := r) hn
  obtain ⟨y, hy⟩ := State.assocGo_native (p := p) (mode := mode) (freq := freq) (dsn := dsn) h hq hc hm
  obtain ⟨hfr, hfp, hfm, hff⟩ := s.assocHeard_fields t eui p mode freq dsn r
  rw [hy]
  generalize s.contact r = u at hrec hdict hfuses hradio hnow ⊢
  generalize s.assocHeard t eui p mode freq dsn r = f at hlast hfr hfp hfm hff ⊢
  subst hfr hfp hfm hff
  generalize s.nrec f.record = x at hrec hc ht hs hm
  obtain ⟨hten, hcom, hmac, hms⟩ := contacted_reads x (s.nowMs % 2 ^ 48)
  rw [← hrec] at hten hcom hmac hms
  have hslots : u.recSlots (u.nrec f.record) ≠ 0 := by
    rw [State.recSlots_sameDict hdict hfuses, hrec, contacted, State.recSlots_hw]
    exact hs
  have hkey : u.rd (Key.tenKeySlot (u.nrec f.record).tenant) ≠ 0xFFFF := by rw [State.rd_sameDict hdict, hten, ht]; exact hk
  have hopen : u.flag Key.assocOpen = true := (State.flag_sameDict hdict _).trans ho
  have hlead : u.nowNs + u.leadNs f.port f.freq ≤ f.lastChip + 1000000 := by
    rw [hlast, hnow, State.leadNs_sameDict hdict hfuses]
    exact Nat.add_le_add_left hl _
  obtain ⟨q, hcommit, hkind, hport, hmode, hfreq, hdue⟩ := u.assocAnswer_commits (f := f) (y := y) hopen hkey (hmac.trans hm) (hcom.trans hc) hslots
    hlead
  refine ⟨u.drawn, q, hcommit, hkind, hport, hmode, hfreq, by rw [hdue, hlast], hradio, ?_⟩
  have hdrawn : u.drawn.nrec f.record = u.nrec f.record := rfl
  rw [hdrawn, hms]

/-! ### Beacons (R222) -/

/-- Over a list with one element of a kind, a run that leaves the others' states as they are takes that element alone. -/
theorem State.each_only {P : Nat → Bool} {f : State → Nat → State} {I : State → Prop} (hskip : ∀ u x, I u → P x = false → f u x = u) {m : Nat}
    {l : List Nat} (hl : l.filter P = [m]) (s : State) (h0 : I s) (h1 : I (f s m)) : s.each l f = f s m := by
  have hnone : ∀ (l : List Nat) (u : State), l.filter P = [] → I u → u.each l f = u := by
    intro l
    induction l with
    | nil => exact fun _ _ _ => rfl
    | cons x xs ih =>
      intro u hx hu
      cases hp : P x with
      | true => rw [List.filter_cons_of_pos hp] at hx; cases hx
      | false =>
        rw [List.filter_cons_of_neg (by simp [hp])] at hx
        exact (congrArg (fun v : State => v.each xs f) (hskip u x hu hp)).trans (ih u hx hu)
  induction l with
  | nil => cases hl
  | cons x xs ih =>
    cases hp : P x with
    | true =>
      rw [List.filter_cons_of_pos hp] at hl
      obtain ⟨rfl, hxs⟩ := List.cons.inj hl
      exact hnone xs _ hxs h1
    | false =>
      rw [List.filter_cons_of_neg (by simp [hp])] at hl
      exact (congrArg (fun v : State => v.each xs f) (hskip s x h0 hp)).trans (ih hl)

/-- A commit leaves the channels of hopping. -/
theorem State.hop_commit (s : State) (q : TxReq) (k : Nat) (is : Bool) (a off : Nat) : (s.commit q).hop k is a off = s.hop k is a off :=
  State.hop_congr (fun p => State.commit_rd (by simp))
    (fun p => State.stampBytes_congr (fun p => by simp only [State.dom, State.commit_keeps ..]) (by simp only [State.commit_keeps ..]) p) is a off

theorem State.beacon_none {f t a m : Nat} (h : s.hop t (m == 1) a m = none) : s.beacon f t a m = s := by rw [State.beacon, h]

/-- A beacon of a mode that has a channel is committed in the middle of its slot. -/
theorem State.beacon_commits {f t a m freq p : Nat} (hc : s.flag Key.girthCompat = false) (h : s.hop t (m == 1) a m = some (freq, p)) :
    ∃ (q : TxReq) (pad : Bool), s.beacon f t a m = s.drawn.commit q ∧ q.kind = .beacon t pad ∧ q.port = p ∧ q.mode = m ∧ q.freq = freq ∧
      q.due = s.slotStart a + s.slotNs / 2 := by
  have hsend (q : TxReq) : s.drawn.sendIn q = s.drawn.commit q := State.sendIn_commits (s := s.drawn) ((State.flag_sameDict (s := s) (t := s.drawn) rfl _).trans hc) q
  rw [State.beacon, h]
  exact ⟨_, _, hsend _, rfl, rfl, rfl, rfl, rfl⟩

theorem State.firedTaken_reads (s : State) : s.firedTaken.dict = s.dict ∧ s.firedTaken.fuses = s.fuses ∧ s.firedTaken.girth.recs = s.girth.recs ∧
    s.firedTaken.radio = s.radio ∧ s.firedTaken.girth.sched.fired = [] ∧ s.firedTaken.girth.casts = s.girth.casts := ⟨rfl, rfl, rfl, rfl, rfl, rfl⟩

/-- A fired beacon entry of slotframe `f` at the present time. -/
def State.beaconGo (s : State) (k : Nat) : State :=
  let got := s.takeFired (Due.beaconOf k)
  let t := s.rd (Key.sfTenant k)
  match got.2 with
  | none => s
  | some d => if s.served t = some k ∧ s.beaconSlot k d.asn then got.1.each (s.tenantModes t) (fun s m => s.beacon k t d.asn m) else got.1

theorem exec_beaconSend_eq (f : Fin 32) (dt : Nat) (s : State) : exec (.beaconSend f dt) s = .next ((s.advance dt).beaconGo f) := rfl

variable {d l a f : Nat}

theorem State.beaconGo_fired (hf : s.girth.sched.fired = [⟨d, .beacon f a, l⟩]) : s.beaconGo f =
    if s.served (s.rd (Key.sfTenant f)) = some f ∧ s.beaconSlot f a then
      s.firedTaken.each (s.tenantModes (s.rd (Key.sfTenant f))) (fun u m => u.beacon f (s.rd (Key.sfTenant f)) a m)
    else s.firedTaken := by
  rw [State.beaconGo, State.takeFired_only hf (by simp [Due.beaconOf])]
  dsimp only [Due.asn]
  rfl

theorem State.beaconGo_commits {m freq p : Nat} (hf : s.girth.sched.fired = [⟨d, .beacon f a, l⟩]) (hc : s.flag Key.girthCompat = false)
    (hs : s.served (s.rd (Key.sfTenant f)) = some f) (hb : s.beaconSlot f a = true)
    (hm : (s.tenantModes (s.rd (Key.sfTenant f))).filter (fun k => (s.hop (s.rd (Key.sfTenant f)) (k == 1) a k).isSome) = [m])
    (hh : s.hop (s.rd (Key.sfTenant f)) (m == 1) a m = some (freq, p)) :
    ∃ (v : State) (q : TxReq) (pad : Bool), s.beaconGo f = v.commit q ∧ q.kind = .beacon (s.rd (Key.sfTenant f)) pad ∧ q.port = p ∧ q.mode = m ∧
      q.freq = freq ∧ q.due = s.slotStart a + s.slotNs / 2 ∧ v.girth.sched.fired = [] ∧ v.radio = s.radio := by
  rw [State.beaconGo_fired hf, if_pos ⟨hs, hb⟩]
  generalize s.rd (Key.sfTenant f) = t at hm hh ⊢
  obtain ⟨hdict, hfuses, -, hradio, hfired, -⟩ := s.firedTaken_reads
  generalize s.firedTaken = u at hdict hfuses hradio hfired ⊢
  have hop (is : Bool) (a off : Nat) : u.hop t is a off = s.hop t is a off := State.hop_sameDict hdict hfuses t is a off
  obtain ⟨q, pad, hq, hkind, hport, hmode, hfreq, hdue⟩ := State.beacon_commits (f := f) ((State.flag_sameDict hdict _).trans hc)
    ((hop (m == 1) a m).trans hh)
  have hskip (v : State) (k : Nat) (hv : ∀ is off, v.hop t is a off = s.hop t is a off) (hk : (s.hop t (k == 1) a k).isSome = false) :
      v.beacon f t a k = v := State.beacon_none ((hv _ _).trans (Option.not_isSome_iff_eq_none.mp (by simp [hk])))
  have hone := State.each_only (f := fun s m => s.beacon f t a m) (I := fun v => ∀ is off, v.hop t is a off = s.hop t is a off) hskip hm u
    (fun is off => hop is a off) fun is off => by
      simp only [hq, State.hop_commit]
      exact hop is a off
  refine ⟨u.drawn, q, pad, hone.trans hq, hkind, hport, hmode, hfreq, ?_, hfired, hradio⟩
  rw [hdue, State.slotStart_sameDict hdict, State.slotNs_sameDict hdict]

theorem State.beaconGo_quiet (hf : s.girth.sched.fired = [⟨d, .beacon f a, l⟩])
    (h : s.served (s.rd (Key.sfTenant f)) ≠ some f ∨ s.beaconSlot f a = false) : s.beaconGo f = s.firedTaken := by
  rw [State.beaconGo_fired hf, if_neg]
  rintro ⟨hs, hb⟩
  obtain h | h := h
  · exact h hs
  · simp [hb] at h

/-! ### Broadcasts (R228) -/

/-- A fired shared slot of tenant `k` at the present time. -/
def State.castGo (s : State) (k : Nat) : State :=
  match s.served k with
  | none => s
  | some f =>
    let got := s.takeFired (Due.sharedOf f)
    match got.2 with
    | none => s
    | some d =>
      let due (c : PendingCast) : Bool := c.tenant == k && decide (c.arrived ≤ s.slotStart d.asn)
      if !s.sharedAt f d.asn then got.1
      else
        let s := got.1
        let now := s.girth.casts.filter due
        let s := { s with girth := { s.girth with casts := s.girth.casts.filter (fun c => !due c) } }
        s.each now (fun s c => s.castOut c d.asn)

theorem exec_broadcastDownlink_eq (k : Fin 256) (dt : Nat) (s : State) : exec (.broadcastDownlink k dt) s = .next ((s.advance dt).castGo k) := rfl

/-- The state with other broadcasts waiting. -/
def State.setCasts (s : State) (l : List PendingCast) : State := { s with girth := { s.girth with casts := l } }

/-- The broadcasts of tenant `k` that had arrived when slot `a` began go out in it, the others wait. -/
theorem State.castGo_fired {k : Nat} (hs : s.served k = some f) (hf : s.girth.sched.fired = [⟨d, .shared f a, l⟩]) (hsh : s.sharedAt f a = true) :
    s.castGo k = (s.firedTaken.setCasts (s.girth.casts.filter fun c => !(c.tenant == k && decide (c.arrived ≤ s.slotStart a)))).each
      (s.girth.casts.filter fun c => c.tenant == k && decide (c.arrived ≤ s.slotStart a)) (fun s c => s.castOut c a) := by
  rw [State.castGo, hs]
  dsimp only
  rw [State.takeFired_only hf (by simp [Due.sharedOf])]
  exact if_neg (by simp [Due.asn, hsh])

theorem State.castGo_waits {k : Nat} {c : PendingCast} (hf : s.girth.sched.fired = [⟨d, .shared f a, l⟩]) (hs : s.served k = some f)
    (hsh : s.sharedAt f a = true) (hc : s.girth.casts = [c]) (ha : s.slotStart a < c.arrived) :
    (s.castGo k).girth.casts = [c] ∧ (s.castGo k).girth.sched.fired = [] ∧ (s.castGo k).radio = s.radio := by
  have hnot : decide (c.arrived ≤ s.slotStart a) = false := decide_eq_false (by omega)
  rw [State.castGo_fired hs hf hsh, hc, List.filter_cons_of_pos (by simp [hnot]), List.filter_cons_of_neg (by simp [hnot])]
  exact ⟨rfl, rfl, rfl⟩

theorem State.castOut_commits {c : PendingCast} {m freq p : Nat} (hcompat : s.flag Key.girthCompat = false)
    (hm : (s.tenantModes c.tenant).filter (fun x => (s.hop c.tenant (x == 1) a 0).isSome) = [m])
    (hh : s.hop c.tenant (m == 1) a 0 = some (freq, p)) :
    ∃ q : TxReq, s.castOut c a = s.drawn.commit q ∧ q.kind = .broadcast c.tenant c.handle c.report ∧ q.port = p ∧ q.mode = m ∧ q.freq = freq ∧
      q.due = s.slotStart a + s.slotNs / 2 := by
  have hsend (q : TxReq) : s.drawn.sendIn q = s.drawn.commit q := State.sendIn_commits (s := s.drawn) ((State.flag_sameDict (s := s) (t := s.drawn) rfl _).trans hcompat) q
  rw [State.castOut, hm]
  rw [if_neg (by simp), State.each_one, State.castIn, hh]
  exact ⟨_, hsend _, by simp, rfl, rfl, rfl, rfl⟩

theorem State.castGo_commits {k m freq p : Nat} {c : PendingCast} (hf : s.girth.sched.fired = [⟨d, .shared f a, l⟩])
    (hsh : s.sharedAt f a = true) (ha : c.arrived ≤ s.slotStart a) (hcompat : s.flag Key.girthCompat = false) (hs : s.served k = some f)
    (hc : s.girth.casts = [c]) (ht : c.tenant = k) (hm : (s.tenantModes k).filter (fun x => (s.hop k (x == 1) a 0).isSome) = [m])
    (hh : s.hop k (m == 1) a 0 = some (freq, p)) :
    ∃ (v : State) (q : TxReq), s.castGo k = v.commit q ∧ q.kind = .broadcast k c.handle c.report ∧ q.port = p ∧ q.mode = m ∧ q.freq = freq ∧
      q.due = s.slotStart a + s.slotNs / 2 ∧ v.girth.sched.fired = [] ∧ v.girth.casts = [] := by
  subst ht
  obtain ⟨hdict, hfuses, hrecs, -, hfired, -⟩ := s.firedTaken_reads
  rw [State.castGo_fired hs hf hsh, hc, List.filter_cons_of_neg (by simp [ha]), List.filter_cons_of_pos (by simp [ha]), List.filter_nil,
    List.filter_nil, State.each_one]
  obtain ⟨u, hu⟩ : ∃ u, u = s.firedTaken.setCasts [] := ⟨_, rfl⟩
  have hd : u.dict = s.dict := by rw [hu]; exact hdict
  have hf' : u.fuses = s.fuses := by rw [hu]; exact hfuses
  have hr : u.girth.recs = s.girth.recs := by rw [hu]; exact hrecs
  have hfi : u.girth.sched.fired = [] := by rw [hu]; exact hfired
  have hca : u.girth.casts = [] := by rw [hu]; rfl
  rw [← hu]
  obtain ⟨q, hq, hkind, hport, hmode, hfreq, hdue⟩ := State.castOut_commits (s := u) (c := c) (a := a) ((State.flag_sameDict hd _).trans hcompat)
    (by simp only [State.tenantModes_congr hr, State.hop_sameDict hd hf']; exact hm) ((State.hop_sameDict hd hf' ..).trans hh)
  refine ⟨u.drawn, q, hq, hkind, hport, hmode, hfreq, ?_, hfi, hca⟩
  rw [hdue, State.slotStart_sameDict hd, State.slotNs_sameDict hd]

theorem State.secExtra_advance (s : State) (dt t : Nat) : (s.advance dt).secExtra t = s.secExtra t := by
  rw [State.secExtra, State.secExtra, State.rd_advance]

theorem State.girth_advance (s : State) (dt : Nat) : (s.advance dt).girth = s.girth := by simp only [State.advance_keeps ..]

/-- Settles O16. -/
theorem associationAndBeacons : Obligations.AssociationAndBeacons := by
  unfold Obligations.AssociationAndBeacons
  have hop (s : State) (dt k : Nat) (is : Bool) (a off : Nat) : (s.advance dt).hop k is a off = s.hop k is a off :=
    State.hop_sameDict (State.dict_advance s dt) (State.fuses_advance s dt) k is a off
  have hserved (s : State) (dt k : Nat) : (s.advance dt).served k = s.served k := State.served_sameDict (State.dict_advance s dt) k
  have hflag (s : State) (dt k : Nat) : (s.advance dt).flag k = s.flag k := State.flag_sameDict (State.dict_advance s dt) k
  have hstart (s : State) (dt a : Nat) : (s.advance dt).slotStart a = s.slotStart a := State.slotStart_sameDict (State.dict_advance s dt) a
  have hslot (s : State) (dt f a : Nat) : (s.advance dt).beaconSlot f a = s.beaconSlot f a := by
    simp only [State.beaconSlot, State.rd_advance]
  have hshared (s : State) (dt f a : Nat) : (s.advance dt).sharedAt f a = s.sharedAt f a := by simp only [State.sharedAt, State.rd_advance]
  have hmodes (s : State) (dt k : Nat) : (s.advance dt).tenantModes k = s.tenantModes k :=
    State.tenantModes_congr (congrArg Girth.recs (State.girth_advance s dt)) k
  refine ⟨?_, ?_, ?_, ?_, ?_, ?_, ?_⟩
  · intro t eui p mode freq dsn dt s h
    rw [exec_assocRequestRx_eq, gives_next, State.assocGo_unknown h, ← State.girth_advance s dt, ← State.radio_advance s dt]
    exact ⟨Posted.of_post rfl .., by simp only [State.assocUnknown, State.post_keeps ..], by simp only [State.assocUnknown, State.post_keeps ..]⟩
  · intro t eui p mode freq dsn dt r s h hcq
    rw [← State.nrec_advance s dt] at hcq
    rw [exec_assocRequestRx_eq, gives_next]
    cases hq : ((s.advance dt).nrec r).quarantined with
    | true => exact State.assocGo_quarantined h hq
    | false => exact State.assocGo_compat h hq (hcq.resolve_right (by simp [hq]))
  · intro t eui p mode freq dsn dt r s h hc ht hq hs ho hk hm hl hn
    rw [← State.nrec_advance s dt] at hc ht hq hs hm
    rw [← State.recSlots_sameDict (State.dict_advance s dt) (State.fuses_advance s dt)] at hs
    rw [← hflag s dt] at ho
    rw [← State.rd_advance s dt] at hk
    rw [← State.secExtra_advance s dt] at hn
    rw [exec_assocRequestRx_eq, gives_next, ← State.radio_advance s dt]
    exact State.assocGo_answers h hc ht hq hs ho hk hm hl hn
  · intro f dt a d l m freq p s hf hc hs hb hm hh
    rw [exec_beaconSend_eq, gives_next, ← State.radio_advance s dt, ← State.rd_advance s dt, ← hstart s dt,
      ← State.slotNs_sameDict (State.dict_advance s dt)]
    rw [← State.girth_advance s dt] at hf
    rw [← hflag s dt] at hc
    rw [← hslot s dt] at hb
    simp only [← State.rd_advance s dt, ← hserved s dt, ← hmodes s dt, ← hop s dt] at hs hm hh
    exact State.beaconGo_commits hf hc hs hb hm hh
  · intro f dt a d l s hf h
    rw [← State.girth_advance s dt] at hf
    rw [← State.rd_advance s dt, ← hserved s dt, ← hslot s dt] at h
    obtain ⟨hdict, -, -, hradio, hfired, -⟩ := (s.advance dt).firedTaken_reads
    rw [exec_beaconSend_eq, gives_next, State.beaconGo_quiet hf h]
    exact ⟨hfired, hradio.trans (State.radio_advance s dt), hdict.trans (State.dict_advance s dt)⟩
  · intro k dt a d l f m freq p c s hf hsh ha hc hs hcs ht hm hh
    rw [← State.girth_advance s dt] at hf hcs
    rw [← hshared s dt] at hsh
    rw [← hstart s dt] at ha
    rw [← hflag s dt] at hc
    rw [exec_broadcastDownlink_eq, gives_next, ← hstart s dt, ← State.slotNs_sameDict (State.dict_advance s dt)]
    simp only [← hserved s dt, ← hmodes s dt, ← hop s dt] at hs hm hh
    exact State.castGo_commits hf hsh ha hc hs hcs ht hm hh
  · intro k dt a d l f c s hf hs hsh hc ha
    rw [← State.girth_advance s dt] at hf hc
    rw [← hshared s dt] at hsh
    rw [← hstart s dt] at ha
    rw [← hserved s dt] at hs
    rw [exec_broadcastDownlink_eq, gives_next, ← State.radio_advance s dt]
    exact State.castGo_waits hf hs hsh hc ha

end Sys2Proof.Machine

end

section
/-! ## O18: handover of a node between two devices (R239 to R241, R393) -/

namespace Sys2Proof.Machine

variable {s : State} {r dt : Nat}

/-! ### Entering the cells of a record leaves the rest of it (R248) -/

/-- Record `x` with the next cells `u` and `d`. -/
def cellsAt (x : NodeRec) (u d : Nat) : NodeRec := { x with hw := { x.hw with nextUl := u, nextDl := d } }

theorem cellsAt_self (x : NodeRec) : cellsAt x x.hw.nextUl x.hw.nextDl = x := rfl

theorem cellsAt_cellsAt (x : NodeRec) (u d u' d' : Nat) : cellsAt (cellsAt x u d) u' d' = cellsAt x u' d' := rfl

theorem State.nrec_wheelEnter (s : State) (ms : Nat) (d : Due) (r : Nat) : (s.wheelEnter ms d).nrec r = s.nrec r := by
  simp only [State.nrec, State.wheelEnter_keeps ..]

theorem State.nrec_enterUl (s : State) (r a : Nat) : ∃ u, (s.enterUl r a).nrec r = cellsAt (s.nrec r) u (s.nrec r).hw.nextDl := by
  unfold State.enterUl
  split
  · exact ⟨_, by rw [State.nrec_wheelEnter, State.nrec_modHw_self]; rfl⟩
  · exact ⟨_, (cellsAt_self _).symm⟩

theorem State.nrec_enterDl (s : State) (r a : Nat) : ∃ d, (s.enterDl r a).nrec r = cellsAt (s.nrec r) (s.nrec r).hw.nextUl d := by
  unfold State.enterDl
  split
  · exact ⟨_, by rw [State.nrec_wheelEnter, State.nrec_modHw_self]; rfl⟩
  · exact ⟨_, (cellsAt_self _).symm⟩

theorem State.nrec_reschedule (s : State) (r : Nat) : ∃ u d, (s.reschedule r).nrec r = cellsAt (s.nrec r) u d := by
  have hun : (s.unschedule r).nrec r = s.nrec r := by simp only [State.nrec, State.unschedule_keeps ..]
  unfold State.reschedule
  extract_lets u x v
  have hv : ∃ a b, v.nrec r = cellsAt (s.nrec r) a b := by
    obtain ⟨a, ha⟩ := u.nrec_enterUl r u.freshAsn
    obtain ⟨b, hb⟩ := (u.enterUl r u.freshAsn).nrec_enterDl r u.freshAsn
    exact ⟨_, b, by rw [hb, ha, cellsAt_cellsAt, hun]⟩
  split
  · exact ⟨_, _, by rw [hun, cellsAt_self]⟩
  · split
    · split
      · rw [State.nrec_wheelEnter]
        exact hv
      · exact hv
    · exact hv

/-! ### Serving a node that was taken over (R241, R393) -/

/-- Record `x` in service with the state `hw` of the other device and the window of `st`. -/
def servedIn (x : NodeRec) (st hw : NodeHw) : NodeRec :=
  { x.clearRole with
    hw := { hw with macState := macSync, ulFc := (mergeWindow st hw).1, ulWin := (mergeWindow st hw).2, dlFc := max st.dlFc hw.dlFc, hoAsn := 0,
                    fcFlags := setBit hw.fcFlags 0 (bitOf hw.fcFlags 0 || bitOf st.fcFlags 0) },
    staged := none, final := none }

theorem cellsAt_servedIn (x : NodeRec) (st hw : NodeHw) (u d : Nat) :
    (cellsAt (servedIn x st hw) u d).hw.macState = 3 ∧ (cellsAt (servedIn x st hw) u d).hw.ulFc = max st.ulFc hw.ulFc ∧
    (cellsAt (servedIn x st hw) u d).hw.dlFc = max st.dlFc hw.dlFc ∧ (cellsAt (servedIn x st hw) u d).hw.hoAsn = 0 ∧
    (cellsAt (servedIn x st hw) u d).handover = none ∧ (cellsAt (servedIn x st hw) u d).staged = none ∧
    (cellsAt (servedIn x st hw) u d).final = none := ⟨rfl, rfl, rfl, rfl, rfl, rfl, rfl⟩

theorem State.serveIn_eq (s : State) (r : Nat) (hw : NodeHw) :
    s.serveIn r hw = ((s.setRec r (servedIn (s.nrec r) ((s.nrec r).staged.getD hw) hw)).reschedule r).laceAdopt r := by
  rw [State.serveIn]
  cases hst : (s.nrec r).staged with
  | none => rw [Option.getD_none, servedIn]
  | some st => rw [Option.getD_some, servedIn]

theorem State.nrec_serveIn (s : State) (r : Nat) (hw : NodeHw) :
    ∃ u d, (s.serveIn r hw).nrec r = cellsAt (servedIn (s.nrec r) ((s.nrec r).staged.getD hw) hw) u d := by
  have hlace (u : State) : (u.laceAdopt r).nrec r = u.nrec r := by simp only [State.nrec, State.laceAdopt_keeps ..]
  rw [State.serveIn_eq, hlace]
  obtain ⟨u, d, h⟩ := (s.setRec r (servedIn (s.nrec r) ((s.nrec r).staged.getD hw) hw)).nrec_reschedule r
  exact ⟨u, d, by rw [h, State.nrec_setRec_self]⟩

/-! ### Abandoning a handover (R240) -/

/-- Record `x` back in state `m` without its role. -/
def givenBack (x : NodeRec) (m : Nat) : NodeRec := { x.clearRole with hw := { x.clearRole.hw with macState := m, hoAsn := 0 } }

/-- The state that a handover of record `x` returns to. -/
def formerState (x : NodeRec) : Nat :=
  match x.handover with
  | some h => if x.hw.macState = macOut then h.former else x.hw.macState
  | none => x.hw.macState

theorem State.abandon_gives (hr : (s.nrec r).hoRole = 1) (hfree : (s.nrec r).isFree = false) (hin : (s.nrec r).hw.macState ≠ macIn) :
    s.abandon r = ((s.wheelDrop (Due.handoverOf r)).setRec r (givenBack (s.nrec r) (formerState (s.nrec r)))).girthPost .hoFail
      (s.nrec r).eui (s.nrec r).hoPeer := by
  rw [State.abandon, if_neg hin, if_pos ⟨hr, by simp [hfree]⟩]
  rfl

theorem State.abandon_holds (hr : (s.nrec r).hoRole = 1) (hfree : (s.nrec r).isFree = false) (hin : (s.nrec r).hw.macState ≠ macIn) :
    ((s.abandon r).nrec r) = givenBack (s.nrec r) (formerState (s.nrec r)) ∧ Posted s (s.abandon r) .hoFail 0x3000 ∧ (s.abandon r).out = s.out := by
  have hpost (u : State) (a b : Nat) : (u.girthPost .hoFail a b).nrec r = u.nrec r ∧ (u.girthPost .hoFail a b).out = u.out := by
    simp only [State.nrec, State.girthPost_keeps .., and_self]
  rw [State.abandon_gives hr hfree hin, (hpost _ _ _).1, (hpost _ _ _).2, State.nrec_setRec_self]
  refine ⟨rfl, Posted.of_post ?_ .., ?_⟩
  · simp only [State.setRec_keeps .., State.wheelDrop_keeps ..]
  · simp only [State.setRec_keeps .., State.wheelDrop_keeps ..]

theorem formerState_of_serving {x : NodeRec} {m : Nat} (hm : x.hw.macState = m) (h : m ≠ macOut) : formerState x = m := by
  rw [formerState, hm]
  split
  · exact if_neg h
  · rfl

theorem formerState_of_out {x : NodeRec} {h : HandoverOut} (hm : x.hw.macState = macOut) (hh : x.handover = some h) : formerState x = h.former := by
  rw [formerState, hh]
  exact if_pos hm

theorem givenBack_reads (x : NodeRec) (m : Nat) : (givenBack x m).hw.macState = m ∧ (givenBack x m).hw.hoAsn = 0 ∧ (givenBack x m).handover = none :=
  ⟨rfl, rfl, rfl⟩

/-! ### Confirmation (R239) -/

/-- Record `x` in handover to another device. -/
def handedOut (x : NodeRec) (pan : Nat) : NodeRec :=
  { x with handover := some { former := x.hw.macState, h := none, confirmed := true, acked := false, pan := pan }, hw := { x.hw with macState := macOut } }

theorem handedOut_reads (x : NodeRec) (pan : Nat) : (handedOut x pan).hw.macState = 5 ∧
    (∃ h, (handedOut x pan).handover = some h ∧ h.former = x.hw.macState ∧ h.h = none ∧ h.pan = pan) ∧ (handedOut x pan).host = x.host :=
  ⟨rfl, ⟨_, rfl, rfl, rfl, rfl⟩, rfl⟩

theorem handoverConfirm_confirms {r : Fin 16384} {pan : BitVec 16} (hr : (s.nrec r).hoRole = 1) (hfree : (s.nrec r).isFree = false)
    (hm : (s.nrec r).hw.macState = 3) (hc : (s.nrec r).compat = false) : exec (.handoverConfirm r true pan) s =
    .next ((s.setRec r (handedOut (s.nrec r) pan.toNat)).emit
      (.handover (s.nrec r).hoPeer (s.nrec r).eui (s.nrec r).tenant false (handedOut (s.nrec r) pan.toNat).hw)) := by
  have hsync : ((3 : Nat) == macSync) = true := rfl
  rw [exec_handoverConfirm, execHandoverConfirm]
  dsimp only
  rw [if_neg (by simp [hr, hfree, hm, hsync]), if_neg (by simp [hc]), if_neg (by simp [hc])]
  rfl

theorem handoverConfirm_refused {r : Fin 16384} {pan : BitVec 16} (hr : (s.nrec r).hoRole = 1) (hfree : (s.nrec r).isFree = false)
    (hm : (s.nrec r).hw.macState = 3) : exec (.handoverConfirm r false pan) s = .next (s.abandon r) := by
  have hsync : ((3 : Nat) == macSync) = true := rfl
  rw [exec_handoverConfirm, execHandoverConfirm]
  dsimp only
  rw [if_neg (by simp [hr, hfree, hm, hsync]), if_pos (.inl rfl)]

/-! ### The instant H (R239, R393) -/

/-- Record `k` at H at the present time, on the side that gives the node away. -/
def State.hOut (s : State) (k b : Nat) : State :=
  let x := s.nrec k
  if x.hw.macState ≠ macOut ∨ s.asn < b then s
  else
    let s := s.emit (.handover x.hoPeer x.eui x.tenant true x.hw)
    let s := s.each ((s.nodeQ k).frames.filter (fun f => !f.forHandover)) (fun s f => s.emit (.passed x.hoPeer x.eui x.tenant f))
    let s := (s.setNodeQ k { frames := [], welt := none }).unschedule k
    let s := (s.setRec k NodeRec.free).laceForget k
    let fw : Forwarding := { eui := x.eui, tenant := x.tenant, peer := x.hoPeer, endsAt := s.elapsed + ms 60000 }
    ({ s with girth := { s.girth with forwards := s.girth.forwards ++ [fw] } }).girthPost .hoDone x.eui x.hoPeer

/-- Record `k` at H at the present time. -/
def State.hGo (s : State) (k : Nat) : State :=
  let x := s.nrec k
  if x.hw.macState = macIn then
    match x.final with
    | some hw => if s.fullH hw.hoAsn ≤ s.asn then s.serveIn k hw else s
    | none => s
  else match x.handover with
  | none => s
  | some h =>
    match h.h with
    | none => s
    | some b => s.hOut k b

theorem exec_handoverHReached_eq (r : Fin 16384) (dt : Nat) (s : State) : exec (.handoverHReached r dt) s = .next ((s.advance dt).hGo r) := rfl

theorem State.hGo_out {h : HandoverOut} {b : Nat} (hh : (s.nrec r).handover = some h) (hb : h.h = some b) (hm : (s.nrec r).hw.macState ≠ macIn) :
    s.hGo r = s.hOut r b := by
  rw [State.hGo, if_neg hm, hh]
  dsimp only
  rw [hb]

theorem State.hOut_early {b : Nat} (h : s.asn < b) : s.hOut r b = s := if_pos (.inr h)

theorem State.hGo_serves {hw : NodeHw} (hm : (s.nrec r).hw.macState = macIn) (hf : (s.nrec r).final = some hw) (ha : s.fullH hw.hoAsn ≤ s.asn) :
    s.hGo r = s.serveIn r hw := by
  rw [State.hGo, if_pos hm, hf]
  exact if_pos ha

/-- At H the record is free, its state goes to the other device and its frames are forwarded for 60 s. -/
theorem State.hOut_leaves {b : Nat} (hm : (s.nrec r).hw.macState = macOut) (hb : b ≤ s.asn) (hq : (s.nodeQ r).frames = []) :
    (s.hOut r b).nrec r = NodeRec.free ∧
    (s.hOut r b).out = .handover (s.nrec r).hoPeer (s.nrec r).eui (s.nrec r).tenant true (s.nrec r).hw :: s.out ∧
    (s.hOut r b).girth.forwards = s.girth.forwards ++ [⟨(s.nrec r).eui, (s.nrec r).tenant, (s.nrec r).hoPeer, s.elapsed + ms 60000⟩] := by
  have hnone (u : State) (o : Out) (hu : u.nodeQ r = s.nodeQ r) (g : State → NodeFrame → State) :
      (u.emit o).each (((u.emit o).nodeQ r).frames.filter (fun f => !f.forHandover)) g = u.emit o := by
    have hnode : (u.emit o).nodeQ r = s.nodeQ r := hu
    rw [hnode, hq]
    rfl
  rw [State.hOut, if_neg (by rw [not_or]; exact ⟨not_not.mpr hm, Nat.not_lt.mpr hb⟩)]
  generalize Out.handover (s.nrec r).hoPeer (s.nrec r).eui (s.nrec r).tenant true (s.nrec r).hw = o
  dsimp only
  rw [hnone s o rfl]
  generalize (s.nrec r).eui = eui, (s.nrec r).tenant = t, (s.nrec r).hoPeer = peer
  obtain ⟨u, hu⟩ : ∃ u, u = ((((s.emit o).setNodeQ r { frames := [], welt := none }).unschedule r).setRec r NodeRec.free).laceForget r := ⟨_, rfl⟩
  have hrec : u.nrec r = NodeRec.free := by
    have hlace (v : State) : (v.laceForget r).nrec r = v.nrec r := by simp only [State.nrec, State.laceForget_keeps ..]
    rw [hu, hlace, State.nrec_setRec_self]
  have hout : u.out = o :: s.out := by
    rw [hu]
    simp only [State.laceForget_keeps .., State.setRec_keeps .., State.unschedule_keeps .., State.setNodeQ_keeps ..]
    rfl
  have hfwd : u.girth.forwards = s.girth.forwards := by
    rw [hu]
    simp only [State.laceForget_keeps .., State.setRec_keeps .., State.unschedule_keeps .., State.setNodeQ_keeps .., State.emit_keeps ..]
  have hel : u.elapsed = s.elapsed := by
    rw [hu]
    simp only [State.elapsed, State.laceForget_keeps .., State.setRec_keeps .., State.unschedule_keeps .., State.setNodeQ_keeps .., State.emit_keeps ..]
  rw [← hu]
  refine ⟨?_, ?_, ?_⟩
  · simp only [State.nrec, State.girthPost_keeps ..]
    exact hrec
  · simp only [State.girthPost_keeps ..]
    exact hout
  · simp only [State.girthPost_keeps ..]
    rw [hfwd, hel]

/-! ### The final state (R393) -/

/-- The final state of record `k` at the present time. -/
def State.finalGo (s : State) (k : Nat) (hw : NodeHw) : State :=
  let x := s.nrec k
  let h := s.fullH hw.hoAsn
  if x.hw.macState ≠ macIn then s
  else if h ≤ s.asn then s.serveIn k hw
  else (s.setRec k { x with final := some hw }).enterOnce (s.planMs h) (.handover k h)

theorem exec_handoverFinalRx_eq (r : Fin 16384) (hw : NodeHw) (dt : Nat) (s : State) :
    exec (.handoverFinalRx r hw dt) s = .next ((s.advance dt).finalGo r hw) := rfl

theorem State.finalGo_serves {hw : NodeHw} (hm : (s.nrec r).hw.macState = macIn) (h : s.fullH hw.hoAsn ≤ s.asn) :
    s.finalGo r hw = s.serveIn r hw := by
  rw [State.finalGo, if_neg (not_not.mpr hm), if_pos h]

theorem State.finalGo_waits {hw : NodeHw} (hm : (s.nrec r).hw.macState = macIn) (h : s.asn < s.fullH hw.hoAsn) :
    (s.finalGo r hw).nrec r = { s.nrec r with final := some hw } := by
  have honce (u : State) (m : Nat) (d : Due) : (u.enterOnce m d).nrec r = u.nrec r := by simp only [State.nrec, State.enterOnce_keeps ..]
  rw [State.finalGo, if_neg (not_not.mpr hm), if_neg (Nat.not_le.mpr h), honce, State.nrec_setRec_self]

theorem State.nodeQ_advance (s : State) (dt r : Nat) : (s.advance dt).nodeQ r = s.nodeQ r := by simp only [State.nodeQ, State.advance_keeps ..]

theorem State.out_advance (s : State) (dt : Nat) : (s.advance dt).out = s.out := by simp only [State.advance_keeps ..]

theorem exec_handoverForwardEnd_eq (dt : Nat) (s : State) : exec (.handoverForwardEnd dt) s = .next { s.advance dt with
    girth := { (s.advance dt).girth with forwards := (s.advance dt).girth.forwards.filter (fun f => decide ((s.advance dt).elapsed < f.endsAt)) } } := rfl

theorem handoverStateRx_stages {r : Fin 16384} {hw : NodeHw} (hm : (s.nrec r).hw.macState = macIn) :
    exec (.handoverStateRx r hw) s = .next (s.setRec r { s.nrec r with staged := some hw }) := by
  rw [exec_handoverStateRx, execHandoverStateRx]
  exact congrArg Host.Outcome.next (if_pos hm)

theorem handoverStateRx_other {r : Fin 16384} {hw : NodeHw} (hm : (s.nrec r).hw.macState ≠ macIn) : exec (.handoverStateRx r hw) s = .next s := by
  rw [exec_handoverStateRx, execHandoverStateRx]
  exact congrArg Host.Outcome.next (if_neg hm)

theorem State.abandon_none (hr : (s.nrec r).hoRole ≠ 1) (hm : (s.nrec r).hw.macState ≠ macIn) : s.abandon r = s := by
  rw [State.abandon, if_neg hm, if_neg fun h => hr h.1]

/-- Settles O18. -/
theorem handover : Obligations.Handover := by
  unfold Obligations.Handover
  refine ⟨?_, ?_, ?_, ?_, ?_, ?_, ?_, ?_, ?_, ?_, ?_, ?_⟩
  · intro r pan s hr hfree hm hc
    obtain ⟨hst, ⟨h, hh, hformer, hnone, hpan⟩, hhost⟩ := handedOut_reads (s.nrec r) pan.toNat
    have hemit (u : State) (o : Out) : (u.emit o).nrec r = u.nrec r := rfl
    rw [handoverConfirm_confirms hr hfree hm hc, gives_next, hemit, State.nrec_setRec_self]
    exact ⟨hst, ⟨h, hh, hformer.trans hm, hnone, hpan⟩, hhost, _, rfl⟩
  · intro r pan s hr hfree hm
    obtain ⟨hrec, hpost, hout⟩ := s.abandon_holds hr hfree (by rw [hm]; decide)
    rw [handoverConfirm_refused hr hfree hm, gives_next, hrec, formerState_of_serving hm (by decide)]
    exact ⟨(givenBack_reads _ _).1, (givenBack_reads _ _).2.2, hpost, hout⟩
  · intro r h s hr hfree hm hh
    obtain ⟨hrec, hpost, -⟩ := s.abandon_holds hr hfree (by rw [hm]; decide)
    obtain ⟨hst, hasn, hnone⟩ := givenBack_reads (s.nrec r) h.former
    rw [exec_handoverAbandon, execHandoverAbandon, gives_next, hrec, formerState_of_out hm hh]
    exact ⟨hst, hasn, hnone, hpost⟩
  · intro r s hr hm
    rw [exec_handoverAbandon, execHandoverAbandon, State.abandon_none hr hm, gives_next]
  · intro r hw s hm
    rw [handoverStateRx_stages hm, gives_next]
    exact ⟨State.nrec_setRec_self .., fun q hq => by rw [State.nrec_setRec, if_neg hq]⟩
  · intro r hw s hm
    rw [handoverStateRx_other hm, gives_next]
  · intro r dt h b s hh hb hm hasn hq
    rw [← State.nrec_advance s dt] at hh hm ⊢
    rw [← State.nodeQ_advance s dt] at hq
    rw [exec_handoverHReached_eq, gives_next, State.hGo_out hh hb (by rw [hm]; decide), ← State.out_advance s dt, ← State.girth_advance s dt]
    exact State.hOut_leaves hm hasn hq
  · intro r dt h b s hh hb hm hasn
    rw [← State.nrec_advance s dt] at hh hm
    rw [exec_handoverHReached_eq, gives_next, State.hGo_out hh hb hm, State.hOut_early hasn]
  · intro r hw st dt s hm hst hasn
    rw [← State.nrec_advance s dt] at hm hst
    obtain ⟨u, d, h⟩ := (s.advance dt).nrec_serveIn r hw
    obtain ⟨hmac, hul, hdl, -, hout, hstaged, -⟩ := cellsAt_servedIn ((s.advance dt).nrec r) st hw u d
    rw [hst, Option.getD_some] at h
    rw [exec_handoverFinalRx_eq, gives_next, State.finalGo_serves hm hasn, h]
    exact ⟨hmac, hul, hdl, hout, hstaged⟩
  · intro r hw dt s hm hasn
    rw [← State.nrec_advance s dt] at hm ⊢
    rw [exec_handoverFinalRx_eq, gives_next, State.finalGo_waits hm hasn]
  · intro r hw dt s hm hf hasn
    rw [← State.nrec_advance s dt] at hm hf
    obtain ⟨u, d, h⟩ := (s.advance dt).nrec_serveIn r hw
    obtain ⟨hmac, -, -, hho, -, -, hfinal⟩ := cellsAt_servedIn ((s.advance dt).nrec r) (((s.advance dt).nrec r).staged.getD hw) hw u d
    rw [exec_handoverHReached_eq, gives_next, State.hGo_serves hm hf hasn, h]
    exact ⟨hmac, hfinal, hho⟩
  · intro dt s
    rw [exec_handoverForwardEnd_eq, gives_next, State.girth_advance]

end Sys2Proof.Machine

end

section
/-! ## O19: the scheduler wheel fires what is due and keeps what is not (R249 to R253, R257) -/

namespace Sys2Proof.Machine

variable {s t : State} {dt : Nat}

/-! ### What only adds to the wheel (R250) -/

/-- From `s` to `t` no entry leaves the wheel or the fired ones, and the last tick stays. -/
def State.WheelGrows (s t : State) : Prop :=
  (∀ e ∈ s.girth.sched.wheel, e ∈ t.girth.sched.wheel) ∧ (∀ e ∈ s.girth.sched.fired, e ∈ t.girth.sched.fired) ∧
    t.girth.sched.ms = s.girth.sched.ms

theorem State.WheelGrows.of_eq (h : t.girth.sched = s.girth.sched) : s.WheelGrows t := by
  rw [State.WheelGrows, h]
  exact ⟨fun _ he => he, fun _ he => he, rfl⟩

theorem State.WheelGrows.trans {u : State} (h : s.WheelGrows t) (h' : t.WheelGrows u) : s.WheelGrows u := by
  obtain ⟨hw, hf, hm⟩ := h
  obtain ⟨hw', hf', hm'⟩ := h'
  exact ⟨fun e he => hw' e (hw e he), fun e he => hf' e (hf e he), hm'.trans hm⟩

theorem State.WheelGrows.each {α : Type} {f : State → α → State} (hf : ∀ u x, State.WheelGrows u (f u x)) (l : List α) (s : State) :
    s.WheelGrows (s.each l f) := by
  induction l generalizing s with
  | nil => exact .of_eq rfl
  | cons x xs ih => exact (hf s x).trans (ih _)

theorem State.wheelGrows_wheelEnter (s : State) (ms : Nat) (d : Due) : s.WheelGrows (s.wheelEnter ms d) := by
  have hadd (u : State) (e : WheelEntry) : u.WheelGrows (u.setSched { u.girth.sched with wheel := u.girth.sched.wheel ++ [e] }) :=
    ⟨fun x hx => List.mem_append_left _ hx, fun _ hx => hx, rfl⟩
  have hbump (k : Nat) : (s.bump k).girth.sched = s.girth.sched := by simp only [State.bump_keeps ..]
  unfold State.wheelEnter
  extract_lets c e
  split
  · split_ifs
    · exact hadd s e
    · exact ⟨fun x hx => hx, fun x hx => hx, rfl⟩
    · exact ⟨fun x hx => hx, fun x hx => hx, rfl⟩
  · split_ifs
    · exact hadd s e
    · exact .of_eq rfl

theorem State.wheelGrows_enterOnce (s : State) (ms : Nat) (d : Due) : s.WheelGrows (s.enterOnce ms d) := by
  unfold State.enterOnce
  split_ifs
  · exact .of_eq rfl
  · exact s.wheelGrows_wheelEnter ms d

theorem State.wheelGrows_modHw (s : State) (r : Nat) (f : NodeHw → NodeHw) : s.WheelGrows (s.modHw r f) :=
  .of_eq (by simp only [State.modHw_keeps ..])

theorem State.wheelGrows_enterUl (s : State) (r a : Nat) : s.WheelGrows (s.enterUl r a) := by
  unfold State.enterUl
  split
  · exact (s.wheelGrows_modHw ..).trans (State.wheelGrows_wheelEnter ..)
  · exact .of_eq rfl

theorem State.wheelGrows_enterDl (s : State) (r a : Nat) : s.WheelGrows (s.enterDl r a) := by
  unfold State.enterDl
  split
  · exact (s.wheelGrows_modHw ..).trans (State.wheelGrows_wheelEnter ..)
  · exact .of_eq rfl

theorem State.wheelGrows_cellMissed (s : State) (r : Nat) : s.WheelGrows (s.cellMissed r) := .of_eq (by simp only [State.cellMissed_keeps ..])

theorem State.wheelGrows_wait (s : State) (e : WheelEntry) :
    s.WheelGrows (s.setSched { s.girth.sched with fired := s.girth.sched.fired ++ [e] }) :=
  ⟨fun _ hx => hx, fun _ hx => List.mem_append_left _ hx, rfl⟩

theorem State.wheelGrows_fireHeld (s : State) (e : WheelEntry) : s.WheelGrows (s.fireHeld e) := by
  unfold State.fireHeld
  split
  case h_1 => exact (s.wheelGrows_cellMissed _).trans (State.wheelGrows_enterDl ..)
  case h_2 => exact (s.wheelGrows_cellMissed _).trans (State.wheelGrows_enterUl ..)
  case h_3 | h_4 | h_5 | h_6 | h_7 => exact .of_eq rfl
  case h_8 | h_9 => exact s.wheelGrows_wait e

theorem State.wheelGrows_fire (s : State) (e : WheelEntry) : s.WheelGrows (s.fire e) := by
  have hmissed (r a : Nat) : s.WheelGrows (s.dlMissed r a) := .of_eq (by simp only [State.dlMissed_keeps ..])
  unfold State.fire
  extract_lets wait
  split_ifs
  · exact s.wheelGrows_fireHeld e
  · split
    case h_1 =>
      split_ifs
      · exact (hmissed _ _).trans (State.wheelGrows_enterDl ..)
      · exact s.wheelGrows_wait e
    case h_2 =>
      split_ifs
      · exact .of_eq rfl
      · exact s.wheelGrows_wait e
    case h_3 => exact .of_eq rfl
    case h_4 | h_5 | h_6 | h_7 | h_8 | h_9 => exact s.wheelGrows_wait e

theorem State.wheelGrows_enterOthers (s : State) : s.WheelGrows s.enterOthers := by
  unfold State.enterOthers
  extract_lets a once u v
  have honce (w : State) (m : Nat) (d : Option Due) : w.WheelGrows (once w m d) := by
    simp only [once]
    split
    · exact w.wheelGrows_enterOnce ..
    · exact .of_eq rfl
  have hu : s.WheelGrows u := by
    refine .each (fun w f => ?_) _ s
    extract_lets S b k
    split_ifs
    · exact .of_eq rfl
    · exact (honce ..).trans (honce ..)
  have hv : s.WheelGrows v := hu.trans (.each (fun w k => w.wheelGrows_enterOnce ..) _ u)
  split
  · split_ifs
    · exact hv
    · exact hv.trans (State.wheelGrows_enterOnce ..)
  · exact hv

/-! ### Opened buckets (R249) -/

theorem WheelEntry.settle_ms (e : WheelEntry) (now : Nat) : (e.settle now).ms = e.ms ∧ (e.settle now).due = e.due := by
  have hdown (e : WheelEntry) (l : Nat) : (e.down l now).ms = e.ms ∧ (e.down l now).due = e.due := by
    unfold WheelEntry.down
    split_ifs <;> exact ⟨rfl, rfl⟩
  obtain ⟨h1, h2⟩ := hdown (e.down 2 now) 1
  obtain ⟨h3, h4⟩ := hdown e 2
  exact ⟨h1.trans h3, h2.trans h4⟩

/-- An entry that is due lies in level 0 once the opened buckets are redistributed. -/
theorem WheelEntry.settle_level {e : WheelEntry} {now : Nat} (hl : e.level ≤ 2) (hd : e.ms ≤ now) : (e.settle now).level = 0 := by
  have hdiv (k : Nat) : e.ms / levelWidth k ≤ now / levelWidth k := Nat.div_le_div_right hd
  obtain h | h | h : e.level = 0 ∨ e.level = 1 ∨ e.level = 2 := by omega
  · simp [WheelEntry.settle, WheelEntry.down, h]
  · simp [WheelEntry.settle, WheelEntry.down, h, hdiv]
  · simp [WheelEntry.settle, WheelEntry.down, h, hdiv]

theorem mem_insertDue {e d : WheelEntry} {l : List WheelEntry} : d ∈ insertDue e l ↔ d = e ∨ d ∈ l := by
  induction l with
  | nil => simp [insertDue]
  | cons x xs ih =>
    rw [insertDue]
    split_ifs
    · exact List.mem_cons
    · simp only [List.mem_cons, ih]
      tauto

theorem length_insertDue (e : WheelEntry) (l : List WheelEntry) : (insertDue e l).length = l.length + 1 := by
  induction l with
  | nil => rfl
  | cons x xs ih =>
    rw [insertDue]
    split_ifs
    · rfl
    · rw [List.length_cons, ih, List.length_cons]

theorem mem_sortDue {d : WheelEntry} {l : List WheelEntry} : d ∈ sortDue l ↔ d ∈ l := by
  have hfold (l acc : List WheelEntry) : d ∈ l.foldl (fun acc e => insertDue e acc) acc ↔ d ∈ acc ∨ d ∈ l := by
    induction l generalizing acc with
    | nil => simp
    | cons x xs ih =>
      rw [List.foldl_cons, ih, mem_insertDue, List.mem_cons]
      tauto
  rw [sortDue, hfold]
  simp

theorem length_sortDue (l : List WheelEntry) : (sortDue l).length = l.length := by
  have hfold (l acc : List WheelEntry) : (l.foldl (fun acc e => insertDue e acc) acc).length = acc.length + l.length := by
    induction l generalizing acc with
    | nil => rfl
    | cons x xs ih => rw [List.foldl_cons, ih, length_insertDue, List.length_cons]; omega
  rw [sortDue, hfold, List.length_nil, Nat.zero_add]

/-- Where the wheel holds no more than its pool, an entry is due exactly when its level is 0 and its millisecond has come. -/
theorem State.mem_dueNow {e : WheelEntry} (hlen : s.girth.sched.wheel.length ≤ 65536) :
    e ∈ s.dueNow ↔ e ∈ s.girth.sched.wheel ∧ e.level = 0 ∧ e.ms ≤ s.nowMs := by
  rw [State.dueNow, List.take_of_length_le (by rw [length_sortDue]; exact (List.length_filter_le _ _).trans hlen), mem_sortDue]
  simp

/-! ### The tick (R249 to R251) -/

theorem State.radioHeld_fire (s : State) (e : WheelEntry) : (s.fire e).radioHeld = s.radioHeld := by
  have hp : (s.fire e).rd Key.pwrState = s.rd Key.pwrState := State.fire_rd (by decide)
  simp only [State.radioHeld, hp, State.fire_keeps ..]

/-- A due uplink entry fires while the radio is not held. -/
theorem State.fired_each_fire {e : WheelEntry} {r a : Nat} (hd : e.due = .uplink r a) (l : List WheelEntry) (s : State) (h : s.radioHeld = false)
    (he : e ∈ l) : e ∈ (s.each l (fun s e => s.fire e)).girth.sched.fired := by
  induction l generalizing s with
  | nil => cases he
  | cons x xs ih =>
    have hx : (s.fire x).radioHeld = false := (s.radioHeld_fire x).trans h
    obtain rfl | hxs := List.mem_cons.mp he
    · have hself : e ∈ (s.fire e).girth.sched.fired := by
        rw [State.fire, if_neg (by simp [h]), hd]
        exact List.mem_append_right _ (List.mem_singleton_self e)
      exact (State.WheelGrows.each (fun u x => u.wheelGrows_fire x) xs (s.fire e)).2.1 e hself
    · exact ih (s.fire x) hx hxs

/-- The present tick's due entries fire; what is not due stays. -/
theorem State.fireDue_holds (hlen : s.girth.sched.wheel.length ≤ 65536) : s.fireDue.girth.sched.ms = s.nowMs ∧
    (∀ e ∈ s.girth.sched.wheel, s.nowMs < e.ms → e ∈ s.fireDue.girth.sched.wheel) ∧
    (s.radioHeld = false → ∀ e ∈ s.girth.sched.wheel, ∀ r a, e.level = 0 → e.due = .uplink r a → e.ms ≤ s.nowMs → e ∈ s.fireDue.girth.sched.fired) := by
  obtain ⟨u, hu⟩ : ∃ u, u = s.setSched { s.girth.sched with wheel := s.girth.sched.wheel.filter (fun e => !s.dueNow.contains e), ms := s.nowMs } :=
    ⟨_, rfl⟩
  have hfire : s.fireDue = u.each s.dueNow (fun s e => s.fire e) := by rw [hu]; rfl
  obtain ⟨hw, -, hm⟩ := State.WheelGrows.each (fun v (x : WheelEntry) => v.wheelGrows_fire x) s.dueNow u
  rw [hfire]
  refine ⟨hm.trans (by rw [hu]; rfl), fun e he hlate => hw e ?_, fun hr e he r a hl hd hdue => ?_⟩
  · have hnot : e ∉ s.dueNow := fun h => absurd ((State.mem_dueNow hlen).mp h).2.2 (Nat.not_le.mpr hlate)
    rw [hu]
    exact List.mem_filter.mpr ⟨he, by simpa using hnot⟩
  · exact State.fired_each_fire hd _ u (by rw [hu]; exact hr) ((State.mem_dueNow hlen).mpr ⟨he, hl, hdue⟩)

/-- The wheel at the tick, before its buckets open: the far list's writes have ended, and what was parked is placed again. -/
def State.tickPlaced (s : State) (ok : Bool) : State := (s.farWritten ok).dropStale.unpark

theorem State.tickPlaced_holds {ok : Bool} (hp : s.girth.sched.parked = []) : (s.tickPlaced ok).girth.sched.wheel = s.girth.sched.wheel ∧
    (s.tickPlaced ok).nowMs = s.nowMs ∧ (s.tickPlaced ok).radioHeld = s.radioHeld := by
  obtain ⟨v, hv⟩ : ∃ v, v = (s.farWritten ok).dropStale := ⟨_, rfl⟩
  have hvw : v.girth.sched.wheel = s.girth.sched.wheel ∧ v.nowMs = s.nowMs ∧ v.radioHeld = s.radioHeld ∧
      ∀ p ∈ v.girth.sched.parked, p.1 = s.nowMs / 65536 + 255 := by
    rw [hv, State.farWritten]
    split_ifs
    · refine ⟨rfl, rfl, rfl, fun p hpm => ?_⟩
      have : p ∈ s.girth.sched.parked := hpm
      rw [hp] at this
      cases this
    · refine ⟨rfl, rfl, rfl, fun p hpm => ?_⟩
      have : p ∈ s.girth.sched.parked ++ s.girth.sched.writing.map (fun e => (s.lastBucket, e)) := hpm
      rw [hp, List.nil_append, List.mem_map] at this
      obtain ⟨e, -, rfl⟩ := this
      rfl
  obtain ⟨hw, hn, hr, hpk⟩ := hvw
  have hopen : v.girth.sched.parked.filter (fun p => decide (p.1 ≤ v.nowMs / 65536)) = [] := by
    refine List.filter_eq_nil_iff.mpr fun p hpm => ?_
    rw [hpk p hpm, hn]
    simp
  rw [State.tickPlaced, ← hv, State.unpark, hopen]
  exact ⟨hw, hn, hr⟩

theorem State.redistribute_holds (s : State) : s.redistribute.girth.sched.wheel = s.girth.sched.wheel.map (fun e => e.settle s.nowMs) ∧
    s.redistribute.nowMs = s.nowMs ∧ s.redistribute.radioHeld = s.radioHeld := ⟨rfl, rfl, rfl⟩

/-- The tick's work at the present time. -/
def State.tickGo (s : State) (ok : Bool) : State :=
  if s.standby ∨ s.nowMs = s.girth.sched.ms then s else ((s.tickPlaced ok).redistribute.fireDue).enterOthers

theorem exec_wheelTick_eq (ok : Bool) (dt : Nat) (s : State) : exec (.wheelTick ok dt) s = .next ((s.advance dt).tickGo ok) := rfl

theorem State.tickGo_holds {ok : Bool} (hs : s.standby = false) (hn : s.nowMs ≠ s.girth.sched.ms) (hlen : s.girth.sched.wheel.length ≤ 65536)
    (hp : s.girth.sched.parked = []) : (s.tickGo ok).girth.sched.ms = s.nowMs ∧
      (∀ e ∈ s.girth.sched.wheel, s.nowMs < e.ms → e.settle s.nowMs ∈ (s.tickGo ok).girth.sched.wheel) ∧
      (s.radioHeld = false → ∀ e ∈ s.girth.sched.wheel, ∀ r a, e.level ≤ 2 → e.due = .uplink r a → e.ms ≤ s.nowMs →
        e.settle s.nowMs ∈ (s.tickGo ok).girth.sched.fired) := by
  obtain ⟨hw, hnow, hheld⟩ := State.tickPlaced_holds (ok := ok) hp
  obtain ⟨hw', hnow', hheld'⟩ := (s.tickPlaced ok).redistribute_holds
  rw [State.tickGo, if_neg (by rintro (h | h); exacts [by simp [hs] at h, hn h])]
  generalize (s.tickPlaced ok).redistribute = u at hw' hnow' hheld' ⊢
  have hwheel : u.girth.sched.wheel = s.girth.sched.wheel.map (fun e => e.settle s.nowMs) := by rw [hw', hw, hnow]
  obtain ⟨hms, hstay, hfire⟩ := State.fireDue_holds (s := u) (by rw [hwheel, List.length_map]; exact hlen)
  obtain ⟨hgw, hgf, hgm⟩ := u.fireDue.wheelGrows_enterOthers
  have hnw : u.nowMs = s.nowMs := hnow'.trans hnow
  rw [hnw] at hms hstay hfire
  have hmem {e : WheelEntry} (he : e ∈ s.girth.sched.wheel) : e.settle s.nowMs ∈ u.girth.sched.wheel := by
    rw [hwheel]
    exact List.mem_map_of_mem he
  refine ⟨hgm.trans hms, fun e he hlate => hgw _ (hstay _ (hmem he) ?_), fun hr e he r a hl hd hdue => hgf _ ?_⟩
  · rw [(e.settle_ms s.nowMs).1]
    exact hlate
  · refine hfire (hheld'.trans (hheld.trans hr)) _ (hmem he) r a (WheelEntry.settle_level hl hdue) ?_ ?_
    · rw [(e.settle_ms s.nowMs).2, hd]
    · rw [(e.settle_ms s.nowMs).1]
      exact hdue

/-! ### The far list (R252) -/

/-- The scheduler with the entries `l` at the end of its wheel. -/
def wheelWith (c : Sched) (l : List WheelEntry) : Sched := { c with wheel := c.wheel ++ l }

theorem wheelWith_wheelWith (c : Sched) (l m : List WheelEntry) : wheelWith (wheelWith c l) m = wheelWith c (l ++ m) := by
  rw [wheelWith, wheelWith, wheelWith, List.append_assoc]

theorem State.wheelEnter_near {ms : Nat} {d : Due} (hd : nodeOf d ≠ none) (h : ms < s.wheelEnd) : s.wheelEnter ms d =
    s.setSched (wheelWith s.girth.sched [{ ms := ms, due := d, level := levelFor s.nowMs ms }]) := by
  unfold State.wheelEnter
  extract_lets c e
  split
  · exact if_pos h
  · next hn => exact absurd hn hd

/-- Far entries within the span join the wheel in their order. -/
theorem State.each_wheelEnter_near (now : Nat) (l : List WheelEntry) (s : State) (hn : s.nowMs = now)
    (hl : ∀ e ∈ l, nodeOf e.due ≠ none ∧ e.ms < levelEnd 2 now) :
    (s.each l (fun s e => s.wheelEnter e.ms e.due)).girth.sched =
      wheelWith s.girth.sched (l.map (fun e => { e with level := levelFor now e.ms })) := by
  induction l generalizing s with
  | nil =>
    rw [wheelWith, List.map_nil, List.append_nil]
    rfl
  | cons x xs ih =>
    obtain ⟨hd, hx⟩ := hl x (.head _)
    have henter := State.wheelEnter_near (s := s) hd (by rw [State.wheelEnd, hn]; exact hx)
    have hcons : s.each (x :: xs) (fun s e => s.wheelEnter e.ms e.due) = (s.wheelEnter x.ms x.due).each xs (fun s e => s.wheelEnter e.ms e.due) := rfl
    have hset (c : Sched) : (s.setSched c).girth.sched = c ∧ (s.setSched c).nowMs = s.nowMs := ⟨rfl, rfl⟩
    rw [hcons, henter, hn, ih _ ((hset _).2.trans hn) fun e he => hl e (.tail _ he), (hset _).1, wheelWith_wheelWith, List.map_cons,
      List.singleton_append]

/-- The far entries beyond the span stay. -/
def State.farKept (s : State) : State := s.setSched { s.girth.sched with far := s.girth.sched.far.filter (fun e => decide (s.wheelEnd ≤ e.ms)) }

/-- The far list at the present time. -/
def State.farGo (s : State) (ok : Bool) : State :=
  let c := s.girth.sched
  if c.far.isEmpty then s
  else if !ok ∨ !s.sbUp then (s.setSched { c with far := [] }).askRebuild 2
  else
    let near := c.far.filter (fun e => decide (e.ms < s.wheelEnd))
    let s := s.setSched { c with far := c.far.filter (fun e => decide (s.wheelEnd ≤ e.ms)) }
    s.each near (fun s e => s.wheelEnter e.ms e.due)

theorem exec_farListMove_eq (ok : Bool) (dt : Nat) (s : State) : exec (.farListMove ok dt) s = .next ((s.advance dt).farGo ok) := rfl

theorem State.farGo_moves (hf : s.girth.sched.far ≠ []) (hu : s.sbUp = true) (hn : ∀ e ∈ s.girth.sched.far, nodeOf e.due ≠ none) :
    (s.farGo true).girth.sched.wheel = s.girth.sched.wheel ++ (s.girth.sched.far.filter (fun e => decide (e.ms < s.wheelEnd))).map
      (fun e => { e with level := levelFor s.nowMs e.ms }) ∧
    (s.farGo true).girth.sched.far = s.girth.sched.far.filter (fun e => decide (s.wheelEnd ≤ e.ms)) ∧
    (s.farGo true).girth.sched.rebuild = s.girth.sched.rebuild := by
  have hgo : s.farGo true =
      s.farKept.each (s.girth.sched.far.filter (fun e => decide (e.ms < s.wheelEnd))) (fun s e => s.wheelEnter e.ms e.due) := by
    rw [State.farGo, if_neg (by simpa using hf), if_neg (by simp [hu])]
    rfl
  have hnear := State.each_wheelEnter_near s.nowMs (s.girth.sched.far.filter (fun e => decide (e.ms < s.wheelEnd))) s.farKept rfl fun e he => by
    obtain ⟨hmem, hlt⟩ := List.mem_filter.mp he
    exact ⟨hn e hmem, of_decide_eq_true hlt⟩
  rw [hgo, hnear]
  exact ⟨rfl, rfl, rfl⟩

theorem State.farGo_fails (hf : s.girth.sched.far ≠ []) : (s.farGo false).girth.sched.far = [] ∧
    (s.farGo false).girth.sched.wheel = s.girth.sched.wheel ∧ (s.farGo false).girth.sched.rebuild =
      if s.girth.sched.rebuild.contains 2 then s.girth.sched.rebuild else s.girth.sched.rebuild ++ [2] := by
  have hask (u : State) : (u.askRebuild 2).girth.sched.far = u.girth.sched.far ∧ (u.askRebuild 2).girth.sched.wheel = u.girth.sched.wheel ∧
      (u.askRebuild 2).girth.sched.rebuild =
        if u.girth.sched.rebuild.contains 2 then u.girth.sched.rebuild else u.girth.sched.rebuild ++ [2] := by
    unfold State.askRebuild
    extract_lets c
    simp only [c]
    split_ifs <;> exact ⟨rfl, rfl, rfl⟩
  rw [State.farGo, if_neg (by simpa using hf), if_pos (.inl rfl)]
  exact hask (s.setSched { s.girth.sched with far := [] })

/-! ### The day start (R257) -/

/-- The day start at the present time. -/
def State.dayGo (s : State) : State :=
  let c := s.girth.sched
  let st := s.rd Key.schedDayStartS
  match c.dayWritten with
  | none => s
  | some w =>
    let first := if w ≤ st then st else st + (w - st + 86399) / 86400 * 86400
    if first ≤ s.clock.sec then s.setSched { c with dayStart := st, dayWritten := none } else s

theorem exec_dayStartChange_eq (dt : Nat) (s : State) : exec (.dayStartChange dt) s = .next (s.advance dt).dayGo := rfl

theorem State.dayGo_takes {w : Nat} (hw : s.girth.sched.dayWritten = some w) (h : w ≤ s.rd Key.schedDayStartS)
    (hs : s.rd Key.schedDayStartS ≤ s.clock.sec) : s.dayGo.girth.sched.dayStart = s.rd Key.schedDayStartS ∧ s.dayGo.girth.sched.dayWritten = none := by
  rw [State.dayGo, hw]
  dsimp only
  rw [if_pos h, if_pos hs]
  exact ⟨rfl, rfl⟩

theorem State.dayGo_early (h : s.clock.sec < s.rd Key.schedDayStartS) : s.dayGo = s := by
  rw [State.dayGo]
  split
  · rfl
  · refine if_neg (Nat.not_le.mpr ?_)
    split_ifs
    · exact h
    · omega

/-! ### What entering a record's cells reads (R246, R247) -/

/-- `t` plans as `s`: the same numbers but the count of spilled entries, the same channels and the same time. -/
def State.PlansAs (s t : State) : Prop :=
  (∀ k, Key.fam k ≠ 0x320003 → t.rd k = s.rd k) ∧ (∀ p, t.stampBytes p = s.stampBytes p) ∧ t.clock = s.clock

theorem State.PlansAs.refl (s : State) : s.PlansAs s := ⟨fun _ _ => rfl, fun _ => rfl, rfl⟩

theorem State.PlansAs.trans {u : State} (h : s.PlansAs t) (h' : t.PlansAs u) : s.PlansAs u := by
  obtain ⟨h1, h2, h3⟩ := h
  obtain ⟨h1', h2', h3'⟩ := h'
  exact ⟨fun k hk => (h1' k hk).trans (h1 k hk), fun p => (h2' p).trans (h2 p), h3'.trans h3⟩

section
variable (h : s.PlansAs t)
include h

theorem State.PlansAs.cellChannel (x : NodeRec) (a : Nat) : t.cellChannel x a = s.cellChannel x a := by
  obtain ⟨hrd, hst, -⟩ := h
  have hmap (k p : Nat) : t.rd (Key.tenChmap k p) = s.rd (Key.tenChmap k p) := hrd _ (by simp)
  simp only [State.cellChannel, State.raster, hmap, hst, State.hop_congr (hmap _) hst]

theorem State.PlansAs.served (k : Nat) : t.served k = s.served k := by
  obtain ⟨hrd, -, -⟩ := h
  have h1 : t.rd (Key.tenSlotframe k) = s.rd (Key.tenSlotframe k) := hrd _ (by simp)
  have h2 : t.rd (Key.tenEnable k) = s.rd (Key.tenEnable k) := hrd _ (by simp)
  have h3 (f : Nat) : t.rd (Key.sfSlots f) = s.rd (Key.sfSlots f) := hrd _ (by simp)
  have h4 (f : Nat) : t.rd (Key.sfTenant f) = s.rd (Key.sfTenant f) := hrd _ (by simp)
  simp only [State.served, State.flag, h1, h2, h3, h4]

theorem State.PlansAs.recSlots (x : NodeRec) : t.recSlots x = s.recSlots x := by
  have hrd := h.1
  have h1 : t.rd Key.girthCompat = s.rd Key.girthCompat := hrd _ (by decide)
  have h2 (f : Nat) : t.rd (Key.sfSlots f) = s.rd (Key.sfSlots f) := hrd _ (by simp)
  simp only [State.recSlots, State.flag, h1, h2, h.served, h.cellChannel]

theorem State.PlansAs.slotNs : t.slotNs = s.slotNs := by rw [State.slotNs, State.slotNs, h.1 _ (by decide)]

theorem State.PlansAs.nowNs : t.nowNs = s.nowNs := by rw [State.nowNs, State.nowNs, h.2.2]

theorem State.PlansAs.freshAsn : t.freshAsn = s.freshAsn := by rw [State.freshAsn, State.freshAsn, h.slotNs, h.nowNs]

theorem State.PlansAs.planMs (n : Nat) : t.planMs n = s.planMs n := by rw [State.planMs, State.planMs, State.slotStart, State.slotStart, h.slotNs]

theorem State.PlansAs.nextUl (x : NodeRec) (u d a : Nat) : t.nextUl (cellsAt x u d) a = s.nextUl x a := by
  have hslots : t.recSlots (cellsAt x u d) = s.recSlots x := by rw [cellsAt, State.recSlots_hw, h.recSlots]
  rw [State.nextUl, State.nextUl, hslots, h.1 Key.girthSlotUs (by decide)]
  rfl

end

theorem State.plansAs_reschedule (s : State) (r : Nat) : s.PlansAs (s.reschedule r) :=
  ⟨fun k hk => State.reschedule_rd (by simpa using hk), fun p => State.stampBytes_congr (fun p => by simp only [State.dom, State.reschedule_keeps ..])
    (by simp only [State.reschedule_keeps ..]) p, by simp only [State.reschedule_keeps ..]⟩

theorem State.plansAs_unschedule (s : State) (r : Nat) : s.PlansAs (s.unschedule r) :=
  ⟨fun _ _ => rfl, fun _ => rfl, rfl⟩

/-- Rescheduling a record leaves every other. -/
theorem State.nrec_reschedule_ne (s : State) {q r : Nat} (h : r ≠ q) : (s.reschedule q).nrec r = s.nrec r := by
  have hmod (u : State) (f : NodeHw → NodeHw) : (u.modHw q f).nrec r = u.nrec r := by rw [State.nrec_modHw, if_neg h]
  have hul (u : State) (a : Nat) : (u.enterUl q a).nrec r = u.nrec r := by
    unfold State.enterUl
    split
    · rw [State.nrec_wheelEnter, hmod]
    · rfl
  have hdl (u : State) (a : Nat) : (u.enterDl q a).nrec r = u.nrec r := by
    unfold State.enterDl
    split
    · rw [State.nrec_wheelEnter, hmod]
    · rfl
  have hun : (s.unschedule q).nrec r = s.nrec r := by simp only [State.nrec, State.unschedule_keeps ..]
  unfold State.reschedule
  extract_lets u x v
  have hv : v.nrec r = s.nrec r := by rw [hdl, hul, hun]
  split
  · exact hun
  · split
    · split
      · rw [State.nrec_wheelEnter, hv]
      · exact hv
    · exact hv

/-! ### A rebuild enters the next uplink cell (R253) -/

/-- An entry for uplink cell `n` of record `r` at millisecond `m` is on the wheel, on its way to the far list or parked. -/
def State.HasUl (s : State) (m r n : Nat) : Prop := ∃ e : WheelEntry, e.ms = m ∧ e.due = .uplink r n ∧
  (e ∈ s.girth.sched.wheel ∨ e ∈ s.girth.sched.writing ∨ ∃ b, (b, e) ∈ s.girth.sched.parked)

variable {m r n : Nat}

theorem State.HasUl.of_eq (h : s.HasUl m r n) (he : t.girth.sched = s.girth.sched) : t.HasUl m r n := by
  rw [State.HasUl, he]
  exact h

theorem State.HasUl.wheelEnter (h : s.HasUl m r n) (ms : Nat) (d : Due) : (s.wheelEnter ms d).HasUl m r n := by
  obtain ⟨e, hm, hd, he⟩ := h
  have hwheel (x : WheelEntry) : (s.setSched (wheelWith s.girth.sched [x])).HasUl m r n :=
    ⟨e, hm, hd, he.imp_left (List.mem_append_left _)⟩
  have hbump (k : Nat) : (s.bump k).girth.sched = s.girth.sched := by simp only [State.bump_keeps ..]
  unfold State.wheelEnter
  extract_lets c x
  split
  · split_ifs
    · exact hwheel x
    · exact ⟨e, hm, hd, he.imp_right (.imp_left (List.mem_append_left _))⟩
    · exact ⟨e, hm, hd, he.imp_right (.imp_right fun ⟨b, hb⟩ => ⟨b, List.mem_append_left _ hb⟩)⟩
  · split_ifs
    · exact hwheel x
    · exact ⟨e, hm, hd, he⟩

theorem State.hasUl_wheelEnter (s : State) (m r n : Nat) : (s.wheelEnter m (.uplink r n)).HasUl m r n := by
  unfold State.wheelEnter
  extract_lets c x
  split
  · split_ifs
    · exact ⟨x, rfl, rfl, .inl (List.mem_append_right _ (List.mem_singleton_self x))⟩
    · exact ⟨x, rfl, rfl, .inr (.inl (List.mem_append_right _ (List.mem_singleton_self x)))⟩
    · exact ⟨x, rfl, rfl, .inr (.inr ⟨_, List.mem_append_right _ (List.mem_singleton_self _)⟩)⟩
  · next hn => cases hn

theorem State.HasUl.modHw (h : s.HasUl m r n) (q : Nat) (f : NodeHw → NodeHw) : (s.modHw q f).HasUl m r n :=
  h.of_eq (by simp only [State.modHw_keeps ..])

theorem State.HasUl.enterUl (h : s.HasUl m r n) (q a : Nat) : (s.enterUl q a).HasUl m r n := by
  unfold State.enterUl
  split
  · exact (h.modHw ..).wheelEnter ..
  · exact h

theorem State.HasUl.enterDl (h : s.HasUl m r n) (q a : Nat) : (s.enterDl q a).HasUl m r n := by
  unfold State.enterDl
  split
  · exact (h.modHw ..).wheelEnter ..
  · exact h

theorem State.HasUl.unschedule (h : s.HasUl m r n) {q : Nat} (hq : q ≠ r) : (s.unschedule q).HasUl m r n := by
  obtain ⟨e, hm, hd, he⟩ := h
  have hkeep : (!(nodeOf e.due == some q)) = true := by
    rw [hd]
    simpa [nodeOf] using hq.symm
  refine ⟨e, hm, hd, ?_⟩
  obtain he | he | ⟨b, he⟩ := he
  · exact .inl (List.mem_filter.mpr ⟨he, hkeep⟩)
  · exact .inr (.inl (List.mem_filter.mpr ⟨he, hkeep⟩))
  · exact .inr (.inr ⟨b, List.mem_filter.mpr ⟨he, hkeep⟩⟩)

/-- Rescheduling another record keeps the entry. -/
theorem State.HasUl.reschedule (h : s.HasUl m r n) {q : Nat} (hq : q ≠ r) : (s.reschedule q).HasUl m r n := by
  have hun := h.unschedule hq
  unfold State.reschedule
  extract_lets u x v
  have hv : v.HasUl m r n := (hun.enterUl ..).enterDl ..
  split
  · exact hun
  · split
    · split
      · exact hv.wheelEnter ..
      · exact hv
    · exact hv

/-- Rescheduling a record in service enters its next uplink cell. -/
theorem State.hasUl_reschedule (hf : (s.nrec r).isFree = false) (hq : (s.nrec r).quarantined = false) (hm : (s.nrec r).hw.macState ≠ macIn)
    (hn : s.nextUl (s.nrec r) s.freshAsn = some n) : (s.reschedule r).HasUl (s.planMs n) r n := by
  have hplan := s.plansAs_unschedule r
  have hrec : (s.unschedule r).nrec r = s.nrec r := by simp only [State.nrec, State.unschedule_keeps ..]
  have hnext : (s.unschedule r).nextUl ((s.unschedule r).nrec r) (s.unschedule r).freshAsn = some n := by
    rw [hrec, hplan.freshAsn, ← cellsAt_self (s.nrec r), hplan.nextUl, hn]
  have hul : ((s.unschedule r).enterUl r (s.unschedule r).freshAsn).HasUl (s.planMs n) r n := by
    rw [State.enterUl, hnext, ← hplan.planMs n]
    exact State.hasUl_wheelEnter ..
  unfold State.reschedule
  extract_lets u x v
  have hv : v.HasUl (s.planMs n) r n := hul.enterDl ..
  have hx : x = s.nrec r := hrec
  rw [if_neg (by simp [hx, hf, hq, hm])]
  split
  · split
    · exact hv.wheelEnter ..
    · exact hv
  · exact hv

/-- A rebuild of a list with record `r` enters its next uplink cell. -/
theorem State.hasUl_rebuildFor (hf : (s.nrec r).isFree = false) (hq : (s.nrec r).quarantined = false) (hm : (s.nrec r).hw.macState ≠ macIn)
    (hn : s.nextUl (s.nrec r) s.freshAsn = some n) {l : List Nat} (hl : r ∈ l) : (s.rebuildFor l).HasUl (s.planMs n) r n := by
  have hinv : ∀ (l : List Nat) (u : State), s.PlansAs u → (∃ a b, u.nrec r = cellsAt (s.nrec r) a b) → (r ∈ l ∨ u.HasUl (s.planMs n) r n) →
      (u.rebuildFor l).HasUl (s.planMs n) r n := by
    intro l
    induction l with
    | nil => exact fun u _ _ h => h.resolve_left (by simp)
    | cons q qs ih =>
      intro u hp hrec h
      refine ih (u.reschedule q) (hp.trans (u.plansAs_reschedule q)) ?_ ?_
      · obtain ⟨a, b, hab⟩ := hrec
        by_cases hqr : q = r
        · obtain ⟨a', b', h'⟩ := u.nrec_reschedule r
          exact ⟨a', b', by rw [hqr, h', hab, cellsAt_cellsAt]⟩
        · exact ⟨a, b, by rw [u.nrec_reschedule_ne (Ne.symm hqr), hab]⟩
      · by_cases hqr : q = r
        · obtain ⟨a, b, hab⟩ := hrec
          refine .inr ?_
          rw [hqr, ← hp.planMs n]
          refine State.hasUl_reschedule (by rw [hab]; exact hf) (by rw [hab]; exact hq) (by rw [hab]; exact hm) ?_
          rw [hab, hp.nextUl, hp.freshAsn, hn]
        · obtain h | h := h
          · exact .inl ((List.mem_cons.mp h).resolve_left (Ne.symm hqr))
          · exact .inr (h.reschedule hqr)
  exact hinv l s (.refl s) ⟨_, _, (cellsAt_self _).symm⟩ (.inl hl)

/-! ### A rebuild (R253) -/

/-- Entering a record's cells leaves the causes that wait for a rebuild. -/
theorem State.causes_reschedule (s : State) (q : Nat) : (s.reschedule q).girth.sched.rebuild = s.girth.sched.rebuild := by
  have hmod (u : State) (f : NodeHw → NodeHw) : (u.modHw q f).girth.sched = u.girth.sched := by simp only [State.modHw_keeps ..]
  have henter (u : State) (m : Nat) (d : Due) : (u.wheelEnter m d).girth.sched.rebuild = u.girth.sched.rebuild := by
    have hbump (k : Nat) : (u.bump k).girth.sched = u.girth.sched := by simp only [State.bump_keeps ..]
    unfold State.wheelEnter
    extract_lets c x
    split <;> split_ifs <;> rfl
  have hul (u : State) (a : Nat) : (u.enterUl q a).girth.sched.rebuild = u.girth.sched.rebuild := by
    unfold State.enterUl
    split
    · rw [henter, hmod]
    · rfl
  have hdl (u : State) (a : Nat) : (u.enterDl q a).girth.sched.rebuild = u.girth.sched.rebuild := by
    unfold State.enterDl
    split
    · rw [henter, hmod]
    · rfl
  have hun : (s.unschedule q).girth.sched.rebuild = s.girth.sched.rebuild := rfl
  unfold State.reschedule
  extract_lets u x v
  have hv : v.girth.sched.rebuild = s.girth.sched.rebuild := by rw [hdl, hul, hun]
  split
  · exact hun
  · split
    · split
      · rw [henter, hv]
      · exact hv
    · exact hv

theorem State.causes_rebuildFor (l : List Nat) (s : State) : (s.rebuildFor l).girth.sched.rebuild = s.girth.sched.rebuild := by
  induction l generalizing s with
  | nil => rfl
  | cons q qs ih => exact (ih (s.reschedule q)).trans (s.causes_reschedule q)

/-- The first cause is taken off the list. -/
def State.causeTaken (s : State) (more : List Nat) : State :=
  s.setSched { s.girth.sched with rebuild := more, lost := s.girth.sched.lost }

theorem execSchedRebuild_cold {more : List Nat} (h : s.girth.sched.rebuild = 1 :: more) :
    execSchedRebuild s = .next ((s.causeTaken more).rebuildFor (s.heldRecs.map (·.1))) := by
  rw [execSchedRebuild, h]
  rfl

theorem execSchedRebuild_none (h : s.girth.sched.rebuild = []) : execSchedRebuild s = .next s := by rw [execSchedRebuild, h]

theorem State.mem_heldRecs (h : (s.nrec r).isFree = false) : r ∈ s.heldRecs.map (·.1) := by
  rw [State.nrec, KMap.getD] at h
  cases hf : KMap.find s.girth.recs r with
  | none =>
    rw [hf] at h
    exact absurd h (by decide)
  | some x =>
    rw [hf] at h
    exact List.mem_map.mpr ⟨(r, x), List.mem_filter.mpr ⟨KMap.mem_of_find hf, by simpa using h⟩, rfl⟩

/-- A rebuild after a start enters the next uplink cell of every record in service. -/
theorem State.rebuildFor_causeTaken (more : List Nat) : ((s.causeTaken more).rebuildFor (s.heldRecs.map (·.1))).girth.sched.rebuild = more ∧
    ∀ r n, (s.nrec r).isFree = false → (s.nrec r).quarantined = false → (s.nrec r).hw.macState ≠ macIn →
      s.nextUl (s.nrec r) s.freshAsn = some n → ((s.causeTaken more).rebuildFor (s.heldRecs.map (·.1))).HasUl (s.planMs n) r n := by
  refine ⟨State.causes_rebuildFor _ (s.causeTaken more), fun r n hf hq hm hn => ?_⟩
  exact State.hasUl_rebuildFor (s := s.causeTaken more) hf hq hm hn (State.mem_heldRecs hf)

/-! ### The obligation -/

theorem State.sbUp_advance (s : State) (dt : Nat) : (s.advance dt).sbUp = s.sbUp := by rw [State.sbUp, State.sbUp, (s.link_advance dt).2.1]

/-- Settles O19. -/
theorem schedulerWheel : Obligations.SchedulerWheel := by
  unfold Obligations.SchedulerWheel
  refine ⟨fun ok dt s hs hn hlen hp => ?_, fun ok dt s h => ?_, fun dt s hf hu hnode => ?_, fun dt s hf => ?_, fun more s h => ?_, fun s h => ?_,
    fun dt w s hw hle hst => ?_, fun dt s h => ?_⟩
  · rw [← State.girth_advance s dt] at hn hlen hp ⊢
    rw [exec_wheelTick_eq, gives_next]
    exact State.tickGo_holds hs hn hlen hp
  · rw [← State.girth_advance s dt] at h
    rw [exec_wheelTick_eq, gives_next, State.tickGo, if_pos h]
  · rw [← State.sbUp_advance s dt] at hu
    rw [← State.girth_advance s dt] at hf hnode ⊢
    rw [exec_farListMove_eq, gives_next]
    exact State.farGo_moves hf hu hnode
  · rw [← State.girth_advance s dt] at hf ⊢
    rw [exec_farListMove_eq, gives_next]
    exact State.farGo_fails hf
  · rw [exec_schedRebuild, execSchedRebuild_cold h, gives_next]
    exact State.rebuildFor_causeTaken more
  · rw [exec_schedRebuild, execSchedRebuild_none h, gives_next]
  · rw [← State.girth_advance s dt] at hw
    rw [← State.rd_advance s dt] at hle hst ⊢
    rw [exec_dayStartChange_eq, gives_next]
    exact State.dayGo_takes hw hle hst
  · rw [← State.rd_advance s dt] at h
    rw [exec_dayStartChange_eq, gives_next, State.dayGo_early h]

end Sys2Proof.Machine

end

section
/-! ## O20: cells are planned and charged (R256, R259, R262, R239) -/

namespace Sys2Proof.Machine

variable {s t : State} {r a dt : Nat}

/-! ### What planning reads of the dictionary -/

section Reads
variable (hd : t.dict = s.dict)
include hd

theorem State.modeCost_sameDict (m : Nat) : t.modeCost m = s.modeCost m := by
  simp only [State.modeCost, State.dom_sameDict hd]

theorem State.ackOctets_sameDict (x : NodeRec) (n : Nat) : t.ackOctets x n = s.ackOctets x n := by
  simp only [State.ackOctets, State.secExtra, State.rd_sameDict hd]

theorem State.dlAckUs_sameDict (x : NodeRec) : t.dlAckUs x = s.dlAckUs x := by
  rw [State.dlAckUs, State.dlAckUs, State.ackOctets_sameDict hd]

theorem State.ulAnswerUs_sameDict (x : NodeRec) : t.ulAnswerUs x = s.ulAnswerUs x := by
  rw [State.ulAnswerUs, State.ulAnswerUs, State.ackOctets_sameDict hd]

theorem State.cellSlots_sameDict (f : Nat) (o : Option Nat) : t.cellSlots f o = s.cellSlots f o := by
  simp only [State.cellSlots, State.rd_sameDict hd]

theorem State.dlCellSlots_sameDict (x : NodeRec) : t.dlCellSlots x = s.dlCellSlots x := by
  rw [State.dlCellSlots, State.dlCellSlots, State.cellSlots_sameDict hd, State.ackOctets_sameDict hd]

theorem State.ulCellSlots_sameDict (x : NodeRec) : t.ulCellSlots x = s.ulCellSlots x := by
  rw [State.ulCellSlots, State.ulCellSlots, State.cellSlots_sameDict hd, State.ackOctets_sameDict hd]

theorem State.cellCharge_sameDict (x : NodeRec) (c : CellUse) : t.cellCharge x c = s.cellCharge x c := by
  simp only [State.cellCharge, State.modeCost_sameDict hd, State.ulAnswerUs_sameDict hd, State.dlAckUs_sameDict hd]

theorem State.draftLen_sameDict (d : Draft) (k : Nat) : t.draftLen d k = s.draftLen d k := by
  simp only [State.draftLen, State.rd_sameDict hd]

end Reads

/-- Cost of the delivery of frame `f` to record `r` (R262 step 4). -/
def State.dlLu (s : State) (r : Nat) (f : NodeFrame) : Nat :=
  dlCharge (s.modeCost (s.nrec r).mode) (frameUs (s.nrec r).mode (s.dlOctets r f)) (s.dlAckUs (s.nrec r))

theorem State.dlLu_same (hd : t.dict = s.dict) (hr : t.nrec r = s.nrec r) (f : NodeFrame) : t.dlLu r f = s.dlLu r f := by
  simp only [State.dlLu, State.dlOctets, hr, State.modeCost_sameDict hd, State.dlAckUs_sameDict hd, State.draftLen_sameDict hd]

/-! ### The ledger (R256 to R259) -/

/-- Record `x` with the fields `h`. -/
def hwAt (x : NodeRec) (h : NodeHw) : NodeRec := { x with hw := h }

/-- The day's turn leaves the record but its ledger, its day and its battery flags. -/
theorem State.nrec_rollover (s : State) (r t : Nat) : ∃ h : NodeHw, (s.rollover r t).nrec r = hwAt (s.nrec r) h ∧
    h.deferrals = (s.nrec r).hw.deferrals ∧ h.life = (s.nrec r).hw.life := by
  have hpost (c : Err) (x y : Nat) : (s.schedPost c x y).nrec r = s.nrec r := by simp only [State.nrec, State.schedPost_keeps ..]
  unfold State.rollover
  extract_lets x
  split
  · exact ⟨_, rfl, rfl, rfl⟩
  · split
    · next lu u _ _ _ _ =>
      have hu : u.nrec r = s.nrec r := by
        simp only [u]
        split_ifs
        · exact hpost ..
        · rfl
      rw [State.nrec_modHw_self, hu]
      exact ⟨_, rfl, rfl, rfl⟩
    · exact ⟨_, rfl, rfl, rfl⟩

/-- A charge adds to the life of the record and leaves its cells. -/
theorem State.nrec_charge (s : State) (r lu t : Nat) : ∃ h : NodeHw, (s.charge r lu t).nrec r = hwAt (s.nrec r) h ∧
    h.life = (s.nrec r).hw.life + lu ∧ h.lastCharge = lu := by
  obtain ⟨h, hr, -, hl⟩ := s.nrec_rollover r t
  have hpost (u : State) (c : Err) (x y : Nat) : (u.schedPost c x y).nrec r = u.nrec r := by simp only [State.nrec, State.schedPost_keeps ..]
  unfold State.charge
  extract_lets u v x
  have hv : v.nrec r = hwAt (s.nrec r) { h with ledger := h.ledger + lu, life := h.life + lu, lastCharge := lu } := by
    rw [State.nrec_modHw_self, hr]
    rfl
  split_ifs
  · rw [hpost, State.nrec_modHw_self, hv]
    exact ⟨_, rfl, congrArg (· + lu) hl, rfl⟩
  · exact ⟨_, hv, congrArg (· + lu) hl, rfl⟩

/-- The ledger's decision leaves the record but its fields of the ledger. -/
theorem State.nrec_ledgerFits (s : State) (r c t : Nat) : ∃ h : NodeHw, (s.ledgerFits r c t).1.nrec r = hwAt (s.nrec r) h ∧
    ((s.ledgerFits r c t).2 = false → h.deferrals = ((s.nrec r).hw.deferrals + 1) % 2 ^ 32) := by
  obtain ⟨h, hr, hd, -⟩ := s.nrec_rollover r t
  have hpost (u : State) (c : Err) (x y : Nat) : (u.schedPost c x y).nrec r = u.nrec r := by simp only [State.nrec, State.schedPost_keeps ..]
  have hdefer (u : State) (c t : Nat) : ∃ at_, (u.deferDelivery r c t).nrec r =
      hwAt (u.nrec r) { (u.nrec r).hw with deferrals := ((u.nrec r).hw.deferrals + 1) % 2 ^ 32, deferTo := at_ } := by
    have hbump (k : Nat) : (u.bump k).nrec r = u.nrec r := by simp only [State.nrec, State.bump_keeps ..]
    unfold State.deferDelivery
    extract_lets x d st want at_ v
    have hv : v.nrec r = hwAt (u.nrec r) { (u.nrec r).hw with deferrals := ((u.nrec r).hw.deferrals + 1) % 2 ^ 32, deferTo := at_ % 2 ^ 32 } := by
      rw [State.nrec_modHw_self, hbump]
      rfl
    refine ⟨at_ % 2 ^ 32, ?_⟩
    split
    · rw [State.nrec_wheelEnter, hv]
    · exact hv
  unfold State.ledgerFits
  extract_lets before u x d
  split_ifs
  · exact ⟨_, by rw [State.nrec_modHw_self, hr]; rfl, fun h => by cases h⟩
  · exact ⟨_, by rw [hpost, State.nrec_modHw_self, hr]; rfl, fun h => by cases h⟩
  · obtain ⟨at_, hat⟩ := hdefer u c t
    exact ⟨_, by rw [hat, hr]; rfl, fun _ => by simp only [hwAt, hd]⟩

/-- A delivery that does not fit counts as deferred. -/
theorem State.rd_ledgerFits {c t : Nat} (h : (s.ledgerFits r c t).2 = false) :
    (s.ledgerFits r c t).1.rd Key.ledgerDeferrals = satAdd u32Max (s.rd Key.ledgerDeferrals) 1 := by
  have hroll : (s.rollover r t).rd Key.ledgerDeferrals = s.rd Key.ledgerDeferrals := State.rollover_rd (by decide)
  have hdefer (u : State) (c t : Nat) : (u.deferDelivery r c t).rd Key.ledgerDeferrals = satAdd u32Max (u.rd Key.ledgerDeferrals) 1 := by
    unfold State.deferDelivery
    extract_lets _ _ _ _ _ v
    have hv : v.rd Key.ledgerDeferrals = satAdd u32Max (u.rd Key.ledgerDeferrals) 1 :=
      (rd_of_nums (s := u.bump Key.ledgerDeferrals) rfl _).trans (State.rd_bump_self ..)
    split
    · rw [State.wheelEnter_rd (by decide), hv]
    · exact hv
  unfold State.ledgerFits at h ⊢
  extract_lets at h ⊢
  split_ifs at h ⊢
  rw [hdefer, hroll]

/-! ### Cells (R262) -/

/-- Cell `c` of record `r` is in use. -/
theorem State.useCell_reads (s : State) (r a : Nat) (up : Bool) : (s.useCell r a up).girth.sched = s.girth.sched ∧
    (s.useCell r a up).radio = s.radio ∧ (s.useCell r a up).sb = s.sb ∧ (s.useCell r a up).dict = s.dict ∧
    ((s.useCell r a up).nrec r).hw = (s.nrec r).hw ∧ ((s.useCell r a up).nrec r).cells = (s.nrec r).cells ++
      [⟨a, s.slotStart a, s.slotStart (a + if up then s.ulCellSlots (s.nrec r) else s.dlCellSlots (s.nrec r)), up, none, none, false⟩] := by
  refine ⟨rfl, rfl, rfl, rfl, ?_, ?_⟩
  · rw [State.useCell, State.nrec_setRec_self]
  · rw [State.useCell, State.nrec_setRec_self]

/-- The cell whose charge is due at the present time. -/
def State.chargeGo (s : State) (r : Nat) : State :=
  let x := s.nrec r
  match x.cells.find? (fun c => decide (c.stop ≤ s.nowNs)) with
  | none => s
  | some c =>
    let s := s.setRec r { x with cells := x.cells.filter (fun d => d != c) }
    s.charge r (s.cellCharge x c) s.clock.sec

theorem exec_cellEndCharge_eq (r : Fin 16384) (dt : Nat) (s : State) : exec (.cellEndCharge r dt) s = .next ((s.advance dt).chargeGo r) := rfl

theorem State.chargeGo_charges {c : CellUse} (hc : (s.nrec r).cells = [c]) (h : c.stop ≤ s.nowNs) : ((s.chargeGo r).nrec r).cells = [] ∧
    ((s.chargeGo r).nrec r).hw.life = (s.nrec r).hw.life + s.cellCharge (s.nrec r) c ∧
    ((s.chargeGo r).nrec r).hw.lastCharge = s.cellCharge (s.nrec r) c := by
  have hfind : (s.nrec r).cells.find? (fun c => decide (c.stop ≤ s.nowNs)) = some c := by simp [hc, h]
  have hnone : (s.nrec r).cells.filter (fun d => d != c) = [] := by simp [hc]
  obtain ⟨hw, hr, hl, hcharge⟩ := (s.setRec r { s.nrec r with cells := [] }).nrec_charge r (s.cellCharge (s.nrec r) c) s.clock.sec
  have hgo : s.chargeGo r = (s.setRec r { s.nrec r with cells := [] }).charge r (s.cellCharge (s.nrec r) c) s.clock.sec := by
    rw [State.chargeGo, hfind]
    dsimp only
    rw [hnone, State.cellCharge_sameDict (s := s) rfl]
    rfl
  rw [State.nrec_setRec_self] at hr hl
  rw [hgo, hr]
  exact ⟨rfl, hl, hcharge⟩

theorem State.chargeGo_none (h : ∀ c ∈ (s.nrec r).cells, s.nowNs < c.stop) : s.chargeGo r = s := by
  have hfind : (s.nrec r).cells.find? (fun c => decide (c.stop ≤ s.nowNs)) = none :=
    List.find?_eq_none.mpr fun c hc => by simpa using h c hc
  rw [State.chargeGo, hfind]

/-! ### Downlink cells (R262) -/

/-- The downlink planning at the present time. -/
def State.dlGo (s : State) (r : Nat) : State :=
  match s.firedDl r with
  | some a => if s.headAwaited r then s else s.planDl r a
  | none => s

theorem exec_downlinkCellPlanning_eq (r : Fin 16384) (dt : Nat) (s : State) : exec (.downlinkCellPlanning r dt) s = .next ((s.advance dt).dlGo r) := rfl

/-- Of one moved entry nothing is left and no next cell is entered. -/
theorem State.dlPlanned_moved {d l : Nat} (h : s.girth.sched.fired = [⟨d, .moved r a, l⟩]) : s.dlPlanned r a = s.firedTaken := by
  rw [State.dlPlanned, h, State.firedTaken]
  simp [Due.dlOf, Due.asn]

theorem State.firedDl_moved {d l : Nat} (h : s.girth.sched.fired = [⟨d, .moved r a, l⟩]) : s.firedDl r = some a := by
  simp [State.firedDl, h, Due.dlOf, Due.asn]

/-- The cell at ASN `a` of record `r` has a place: the node is in step and its channel fits the port. -/
structure State.DlPlaced (s : State) (r a freq p : Nat) : Prop where
  mac : (s.nrec r).hw.macState = macSync
  only : (s.nrec r).handover = none
  slots : s.recSlots (s.nrec r) ≠ 0
  channel : s.cellChannel (s.nrec r) a = some (freq, p)
  fit : fits p (s.port p).centre freq (s.nrec r).mode = true
  early : s.tooLate r a = false

variable {freq p : Nat}

/-- A cell with a place is planned: it is noted empty, held for an earlier delivery, or has its head delivered. -/
theorem State.planDl_placed {d l : Nat} (hf : s.girth.sched.fired = [⟨d, .moved r a, l⟩]) (h : s.DlPlaced r a freq p) : s.planDl r a =
    match (s.nodeQ r).frames with
    | [] => s.firedTaken.useCell r a false
    | f :: _ => if s.firedTaken.deferred r a then s.firedTaken.useCell r a false else s.firedTaken.deliver r a freq p f := by
  obtain ⟨hmac, hho, hslots, hch, hfit, hearly⟩ := h
  have hsync : (s.nrec r).syncState = macSync := by rw [NodeRec.syncState, if_neg (by rw [hmac]; decide), hmac]
  have hrec : s.firedTaken.nrec r = s.nrec r := rfl
  have hsl : s.firedTaken.recSlots (s.nrec r) = s.recSlots (s.nrec r) := rfl
  have hcc : s.firedTaken.cellChannel (s.nrec r) a = s.cellChannel (s.nrec r) a := rfl
  have hlate : s.firedTaken.tooLate r a = s.tooLate r a := rfl
  have hport : s.firedTaken.port p = s.port p := rfl
  have hie : s.firedTaken.ieFrame r = s.firedTaken := by rw [State.ieFrame, hrec, hho]
  rw [State.planDl, State.dlPlanned_moved hf, hrec]
  dsimp only
  rw [if_neg (by rw [hsync, hsl]; simp [hslots]), hcc, hch]
  dsimp only
  rw [if_neg (by rw [hport, hlate]; simp [hfit, hearly]), hie]
  rfl

/-- An entry that was taken waits no more: nothing on an empty wheel is deferred. -/
theorem State.deferred_firedTaken (hw : s.girth.sched.wheel = []) (hf : s.girth.sched.far = []) (hwr : s.girth.sched.writing = [])
    (hp : s.girth.sched.parked = []) : s.firedTaken.deferred r a = false := by
  have hparts : s.firedTaken.girth.sched.wheel = s.girth.sched.wheel ∧ s.firedTaken.girth.sched.far = s.girth.sched.far ∧
      s.firedTaken.girth.sched.writing = s.girth.sched.writing ∧ s.firedTaken.girth.sched.parked = s.girth.sched.parked ∧
      s.firedTaken.girth.sched.fired = [] := ⟨rfl, rfl, rfl, rfl, rfl⟩
  obtain ⟨h1, h2, h3, h4, h5⟩ := hparts
  simp [State.deferred, h1, h2, h3, h4, h5, hw, hf, hwr, hp]

/-- The ledger's decision for the head frame `f` in the cell at ASN `a`. -/
def State.headFits (s : State) (r a : Nat) (f : NodeFrame) : State × Bool := s.ledgerFits r (s.dlLu r f) (s.slotStart a / 1000000000)

theorem State.deliver_deferred {f : NodeFrame} (h : (s.headFits r a f).2 = false) :
    s.deliver r a freq p f = (s.headFits r a f).1.useCell r a false := by
  refine if_pos ?_
  rw [State.headFits] at h
  simpa [State.dlLu] using h

/-- The head counts the attempt and keeps its octets; the radio is untouched, and the request is the cell's. -/
theorem State.dlRequest_reads {f : NodeFrame} (h : (s.nrec r).handover = none) : (s.dlRequest r a freq p f).1.radio = s.radio ∧
    (∀ g rest, (s.nodeQ r).frames = g :: rest → ((s.dlRequest r a freq p f).1.nodeQ r).frames.map (fun g => (g.bytes, g.attempts)) =
      (g.bytes, g.attempts + 1) :: rest.map (fun g => (g.bytes, g.attempts))) ∧
    (s.dlRequest r a freq p f).2.kind = .downlink r ∧ (s.dlRequest r a freq p f).2.port = p ∧ (s.dlRequest r a freq p f).2.freq = freq ∧
    (s.dlRequest r a freq p f).2.mode = (s.nrec r).mode := by
  rw [State.dlRequest, h]
  refine ⟨rfl, fun g rest hg => ?_, rfl, rfl, rfl, rfl⟩
  have hmod (m : NodeHw → NodeHw) (k : NodeFrame → NodeFrame) : (((s.modHw r m).modHead r k).nodeQ r).frames = k g :: rest := by
    have hq : (s.modHw r m).nodeQ r = s.nodeQ r := rfl
    rw [State.modHead, State.nodeQ_setNodeQ_self, hq, hg]
    rfl
  dsimp only
  rw [hmod]
  rfl

/-- A head frame that fits the ledger and finds no other transmission is committed with its energy granted. -/
theorem State.deliver_commits {f : NodeFrame} {rest : List NodeFrame} (hho : (s.nrec r).handover = none) (hfr : (s.nodeQ r).frames = f :: rest)
    (hlow : bitOf (s.rd Key.cinchLowClasses) f.cls = false) (hc : s.flag Key.girthCompat = false) (hj : ∀ n, n < 32 → (s.tx n).job = none)
    (h : (s.headFits r a f).2 = true) : ∃ (v : State) (q : TxReq), s.deliver r a freq p f = v.commit q ∧ q.kind = .downlink r ∧ q.port = p ∧
      q.freq = freq ∧ q.mode = (s.nrec r).mode ∧ q.granted ≠ none ∧ v.radio = s.radio ∧
      (v.nodeQ r).frames.map (fun g => (g.bytes, g.attempts)) = (f.bytes, f.attempts + 1) :: rest.map (fun g => (g.bytes, g.attempts)) := by
  obtain ⟨hw, hrec, -⟩ := s.nrec_ledgerFits r (s.dlLu r f) (s.slotStart a / 1000000000)
  rw [← State.headFits] at hrec
  have hlow' : bitOf ((s.headFits r a f).1.rd Key.cinchLowClasses) f.cls = false := by
    rw [State.headFits, State.ledgerFits_rd (by decide)]
    exact hlow
  obtain ⟨e, he⟩ : ∃ e, e = (s.headFits r a f).1.txEnergy (airUs (s.nrec r).mode (s.dlOctets r f)) (s.headFits r a f).1.topPower := ⟨_, rfl⟩
  obtain ⟨u, hu⟩ : ∃ u, u = ((s.headFits r a f).1.grant none e).1 := ⟨_, rfl⟩
  have huho : (u.nrec r).handover = none ∧ (u.nrec r).mode = (s.nrec r).mode := by
    have : u.nrec r = (s.headFits r a f).1.nrec r := by rw [hu]; simp only [State.nrec, State.grant_keeps ..]
    rw [this, hrec]
    exact ⟨hho, rfl⟩
  have hradio : u.radio = s.radio := by rw [hu, State.headFits]; simp only [State.grant_keeps .., State.ledgerFits_keeps ..]
  have hnode : u.nodeQ r = s.nodeQ r := by rw [hu, State.headFits]; simp only [State.nodeQ, State.grant_keeps .., State.ledgerFits_keeps ..]
  have hcompat : u.flag Key.girthCompat = false := by
    have : u.rd Key.girthCompat = s.rd Key.girthCompat := by rw [hu, State.headFits, State.grant_rd (by decide), State.ledgerFits_rd (by decide)]
    rw [State.flag, this]
    exact hc
  have hclash (x y : Nat) : u.clash freq x y = none := by
    have hnone : (List.range 16).filterMap (fun n => (u.tx n).job) = [] := by
      refine List.filterMap_eq_nil_iff.mpr fun n hn => ?_
      have : (u.tx n).job = (s.tx n).job := by rw [State.tx, State.tx, hradio]
      rw [this]
      exact hj n (by have := List.mem_range.mp hn; omega)
    rw [State.clash, hnone]
    rfl
  obtain ⟨hreq, hframes, hkind, hport, hfreq, hmode⟩ := u.dlRequest_reads (a := a) (freq := freq) (p := p) (f := f) huho.1
  have hcommit : s.deliver r a freq p f =
      ((u.dlRequest r a freq p f).1.useCell r a false).commit { (u.dlRequest r a freq p f).2 with granted := some e } := by
    unfold State.deliver
    extract_lets x n time fit v low e' got w due last stop
    have hfit : fit.2 = true := h
    have hlowx : low = false := by
      have : low = (bitOf ((s.headFits r a f).1.rd Key.cinchLowClasses) f.cls && !x.ieDue) := rfl
      rw [this, hlow', Bool.false_and]
    have he' : e' = e := he.symm
    have hgot : got = (s.headFits r a f).1.grant none e := by
      simp only [got, hlowx, he']
      rfl
    have hw : w = u := by rw [hu, ← hgot]
    rw [if_neg (by simp [hfit]), if_neg (by rw [hgot]; simp [State.grant]), hw, if_neg (by simp [State.reserved_noCompat hcompat]), hclash, he']
  refine ⟨_, _, hcommit, hkind, hport, hfreq, hmode.trans huho.2, by simp, hreq.trans hradio, ?_⟩
  exact hframes f rest (by rw [hnode, hfr])

/-! ### Planning a downlink cell -/

theorem State.dlGo_placed {d l : Nat} (hf : s.girth.sched.fired = [⟨d, .moved r a, l⟩]) (h : s.DlPlaced r a freq p)
    (hc : ∀ f rest, (s.nodeQ r).frames = f :: rest → f.cached = true) : s.dlGo r = match (s.nodeQ r).frames with
    | [] => s.firedTaken.useCell r a false
    | f :: _ => if s.firedTaken.deferred r a then s.firedTaken.useCell r a false else s.firedTaken.deliver r a freq p f := by
  have hready : s.headAwaited r = false := by
    rw [State.headAwaited]
    cases hq : (s.nodeQ r).frames with
    | nil => simp
    | cons f rest => simp [hc f rest hq]
  rw [State.dlGo, State.firedDl_moved hf, hready]
  exact State.planDl_placed hf h

theorem State.dlGo_empty {d l : Nat} (hf : s.girth.sched.fired = [⟨d, .moved r a, l⟩]) (h : s.DlPlaced r a freq p)
    (hq : (s.nodeQ r).frames = []) : s.dlGo r = s.firedTaken.useCell r a false := by
  rw [State.dlGo_placed hf h (by simp [hq]), hq]

theorem State.dlGo_notes {d l : Nat} (hf : s.girth.sched.fired = [⟨d, .moved r a, l⟩]) (h : s.DlPlaced r a freq p)
    (hq : (s.nodeQ r).frames = []) : (s.dlGo r).girth.sched.fired = [] ∧ (s.dlGo r).radio = s.radio ∧ ((s.dlGo r).nrec r).cells =
      (s.nrec r).cells ++ [⟨a, s.slotStart a, s.slotStart (a + s.dlCellSlots (s.nrec r)), false, none, none, false⟩] := by
  obtain ⟨hsched, hradio, -, -, -, hcells⟩ := s.firedTaken.useCell_reads r a false
  rw [State.dlGo_empty hf h hq]
  exact ⟨by rw [hsched]; rfl, hradio, hcells⟩

/-- Nothing else is on the wheel. -/
structure State.WheelEmpty (s : State) : Prop where
  wheel : s.girth.sched.wheel = []
  far : s.girth.sched.far = []
  writing : s.girth.sched.writing = []
  parked : s.girth.sched.parked = []

theorem State.dlGo_head {d l : Nat} {f : NodeFrame} {rest : List NodeFrame} (hf : s.girth.sched.fired = [⟨d, .moved r a, l⟩])
    (h : s.DlPlaced r a freq p) (hw : s.WheelEmpty) (hq : (s.nodeQ r).frames = f :: rest) (hc : f.cached = true) :
    s.dlGo r = s.firedTaken.deliver r a freq p f := by
  have hcached : ∀ g gs, (s.nodeQ r).frames = g :: gs → g.cached = true := fun g gs hg => by
    rw [hq] at hg
    obtain ⟨rfl, -⟩ := List.cons.inj hg
    exact hc
  rw [State.dlGo_placed hf h hcached, hq]
  exact if_neg (by simp [State.deferred_firedTaken hw.wheel hw.far hw.writing hw.parked])

theorem State.dlGo_commits {d l : Nat} {f : NodeFrame} {rest : List NodeFrame} (hf : s.girth.sched.fired = [⟨d, .moved r a, l⟩])
    (h : s.DlPlaced r a freq p) (hw : s.WheelEmpty) (hq : (s.nodeQ r).frames = f :: rest) (hc : f.cached = true)
    (hlow : bitOf (s.rd Key.cinchLowClasses) f.cls = false) (hcom : s.flag Key.girthCompat = false) (hj : ∀ n, n < 32 → (s.tx n).job = none)
    (hfit : (s.firedTaken.headFits r a f).2 = true) : ∃ (v : State) (q : TxReq), s.dlGo r = v.commit q ∧ q.kind = .downlink r ∧ q.port = p ∧
      q.freq = freq ∧ q.mode = (s.nrec r).mode ∧ q.granted ≠ none ∧ v.radio = s.radio ∧
      (v.nodeQ r).frames.map (fun g => (g.bytes, g.attempts)) = (f.bytes, f.attempts + 1) :: rest.map (fun g => (g.bytes, g.attempts)) := by
  rw [State.dlGo_head hf h hw hq hc]
  exact State.deliver_commits (s := s.firedTaken) h.only hq hlow hcom hj hfit

theorem State.dlGo_defers {d l : Nat} {f : NodeFrame} {rest : List NodeFrame} (hf : s.girth.sched.fired = [⟨d, .moved r a, l⟩])
    (h : s.DlPlaced r a freq p) (hw : s.WheelEmpty) (hq : (s.nodeQ r).frames = f :: rest) (hc : f.cached = true)
    (hfit : (s.firedTaken.headFits r a f).2 = false) : (s.dlGo r).nodeQ r = s.nodeQ r ∧ (s.dlGo r).radio = s.radio ∧
      (s.dlGo r).rd Key.ledgerDeferrals = satAdd u32Max (s.rd Key.ledgerDeferrals) 1 ∧
      ((s.dlGo r).nrec r).hw.deferrals = ((s.nrec r).hw.deferrals + 1) % 2 ^ 32 := by
  obtain ⟨hw', hrec, hdef⟩ := s.firedTaken.nrec_ledgerFits r (s.firedTaken.dlLu r f) (s.firedTaken.slotStart a / 1000000000)
  have hrd := State.rd_ledgerFits (s := s.firedTaken) hfit
  obtain ⟨-, hradio, hsb, hdict, hhw, -⟩ := (s.firedTaken.headFits r a f).1.useCell_reads r a false
  rw [← State.headFits] at hrec hdef hrd
  rw [State.dlGo_head hf h hw hq hc, State.deliver_deferred hfit]
  refine ⟨?_, ?_, ?_, ?_⟩
  · rw [State.nodeQ, hsb, State.headFits]
    simp only [State.nodeQ, State.ledgerFits_keeps ..]
    rfl
  · rw [hradio, State.headFits]
    simp only [State.ledgerFits_keeps ..]
    rfl
  · rw [State.rd_sameDict hdict, hrd]
    rfl
  · rw [hhw, hrec]
    exact hdef hfit

/-! ### The Handover IE (R239) -/

/-- The cell's planning with the Handover IE at the present time. -/
def State.ieGo (s : State) (r : Nat) : State :=
  let x := s.nrec r
  match x.handover, s.firedDl r with
  | some h, some a => if h.acked || x.compat then s else s.planDl r a
  | _, _ => s

theorem exec_handoverIeSend_eq (r : Fin 16384) (dt : Nat) (s : State) : exec (.handoverIeSend r dt) s = .next ((s.advance dt).ieGo r) := rfl

theorem State.ieGo_plans {h : HandoverOut} (hh : (s.nrec r).handover = some h) (ha : h.acked = false) (hc : (s.nrec r).compat = false)
    (hf : s.firedDl r = some a) (hw : s.headAwaited r = false) : s.ieGo r = s.dlGo r := by
  rw [State.ieGo, hh, hf, State.dlGo, hf, hw]
  simp [ha, hc]

theorem State.ieGo_acked {h : HandoverOut} (hh : (s.nrec r).handover = some h) (ha : h.acked = true) : s.ieGo r = s := by
  rw [State.ieGo, hh]
  cases s.firedDl r with
  | none => rfl
  | some a => exact if_pos (by simp [ha])

/-! ### Uplink cells (R216, R262) -/

/-- The uplink planning at the present time. -/
def State.ulGo (s : State) (r : Nat) : State :=
  let got := s.takeFired (Due.ulOf r)
  match got.2 with
  | none => s
  | some d => got.1.planUl r d.asn

theorem exec_uplinkCellPlanning_eq (r : Fin 16384) (dt : Nat) (s : State) : exec (.uplinkCellPlanning r dt) s = .next ((s.advance dt).ulGo r) := rfl

theorem State.fired_enterUl (s : State) (r a : Nat) : (s.enterUl r a).girth.sched.fired = s.girth.sched.fired := by
  have henter (u : State) (m : Nat) (d : Due) : (u.wheelEnter m d).girth.sched.fired = u.girth.sched.fired := by
    have hbump (k : Nat) : (u.bump k).girth.sched = u.girth.sched := by simp only [State.bump_keeps ..]
    unfold State.wheelEnter
    extract_lets c x
    split <;> split_ifs <;> rfl
  have hmod (f : NodeHw → NodeHw) : (s.modHw r f).girth.sched = s.girth.sched := by simp only [State.modHw_keeps ..]
  unfold State.enterUl
  split
  · rw [henter, hmod]
  · rfl

theorem State.ulGo_plans {d l : Nat} (h : s.girth.sched.fired = [⟨d, .uplink r a, l⟩]) : (s.ulGo r).girth.sched.fired = [] ∧
    ((s.ulGo r).nrec r).cells = (s.nrec r).cells ++ [⟨a, s.slotStart a, s.slotStart (a + s.ulCellSlots (s.nrec r)), true, none, none, false⟩] := by
  have hgo : s.ulGo r = s.firedTaken.planUl r a := by
    rw [State.ulGo, State.takeFired_only h (by simp [Due.ulOf])]
    rfl
  obtain ⟨hsched, -, -, -, -, hcells⟩ := s.firedTaken.useCell_reads r a true
  have hmissed (u : State) : (u.cellMissed r).girth.sched = u.girth.sched ∧ ((u.cellMissed r).nrec r).cells = (u.nrec r).cells := by
    have hbump (k : Nat) : (u.bump k).nrec r = u.nrec r := by simp only [State.nrec, State.bump_keeps ..]
    refine ⟨by simp only [State.cellMissed_keeps ..], ?_⟩
    rw [State.cellMissed, State.nrec_modHw_self, hbump]
  have henter (u : State) (hs : u.girth.sched = s.firedTaken.girth.sched) (hc : (u.nrec r).cells = ((s.firedTaken.useCell r a true).nrec r).cells) :
      (u.enterUl r (a + 1)).girth.sched.fired = [] ∧ ((u.enterUl r (a + 1)).nrec r).cells =
        (s.nrec r).cells ++ [⟨a, s.slotStart a, s.slotStart (a + s.ulCellSlots (s.nrec r)), true, none, none, false⟩] := by
    obtain ⟨n, hn⟩ := u.nrec_enterUl r (a + 1)
    refine ⟨by rw [State.fired_enterUl, hs]; rfl, ?_⟩
    rw [hn]
    exact hc.trans hcells
  rw [hgo]
  unfold State.planUl
  extract_lets x placed u
  split_ifs
  · exact henter u hsched rfl
  · exact henter _ ((hmissed u).1.trans hsched) (hmissed u).2

/-! ### The obligation -/

theorem State.firedDl_advance (s : State) (dt r : Nat) : (s.advance dt).firedDl r = s.firedDl r := by
  rw [State.firedDl, State.firedDl, State.girth_advance]

theorem State.slotStart_advance (s : State) (dt a : Nat) : (s.advance dt).slotStart a = s.slotStart a := State.slotStart_sameDict (s.dict_advance dt) a

theorem State.headAwaited_advance (s : State) (dt r : Nat) : (s.advance dt).headAwaited r = s.headAwaited r := by
  rw [State.headAwaited, State.headAwaited, State.nrec_advance, State.nodeQ_advance,
    State.recSlots_sameDict (s.dict_advance dt) (s.fuses_advance dt)]

/-- A place that stands now stands after the clock runs on, if the cell is still early. -/
theorem State.dlPlaced_advance (hm : (s.nrec r).hw.macState = macSync) (hh : (s.nrec r).handover = none) (hs : s.recSlots (s.nrec r) ≠ 0)
    (hc : s.cellChannel (s.nrec r) a = some (freq, p)) (hf : fits p (s.port p).centre freq (s.nrec r).mode = true)
    (hl : (s.advance dt).tooLate r a = false) : (s.advance dt).DlPlaced r a freq p where
  mac := by rw [State.nrec_advance, hm]
  only := by rw [State.nrec_advance, hh]
  slots := by rwa [State.nrec_advance, State.recSlots_sameDict (s.dict_advance dt) (s.fuses_advance dt)]
  channel := by rw [State.nrec_advance, State.cellChannel_sameDict (s.dict_advance dt) (s.fuses_advance dt), hc]
  fit := by rw [State.nrec_advance, State.port_advance, hf]
  early := hl

theorem State.headFits_firedTaken (hd : t.dict = s.dict) (hr : t.nrec r = s.nrec r) (f : NodeFrame) :
    t.firedTaken.headFits r a f = t.firedTaken.ledgerFits r (s.dlLu r f) (s.slotStart a / 1000000000) := by
  have hlu : t.firedTaken.dlLu r f = s.dlLu r f := State.dlLu_same hd hr f
  have hst : t.firedTaken.slotStart a = s.slotStart a := State.slotStart_sameDict hd a
  rw [State.headFits, hlu, hst]

/-- The ledger's decision of the statement is the planning's. -/
theorem State.headFits_moved {d l : Nat} {f : NodeFrame} {b : Bool} (hf : s.girth.sched.fired = [⟨d, .moved r a, l⟩])
    (h : (((s.advance dt).dlPlanned r a).ledgerFits r (s.dlLu r f) (s.slotStart a / 1000000000)).2 = b) :
    ((s.advance dt).firedTaken.headFits r a f).2 = b := by
  rw [State.dlPlanned_moved (by rw [State.girth_advance, hf])] at h
  rw [State.headFits_firedTaken (s.dict_advance dt) (s.nrec_advance dt r), h]

/-- Settles O20. -/
theorem cellPlanning : Obligations.CellPlanning := by
  unfold Obligations.CellPlanning
  refine ⟨fun r dt c s hc hst => ?_, fun r dt s h => ?_, fun r d a l dt freq p s hf hm hh hs hch hfit hl hq => ?_,
    fun r d a l dt freq p f rest s hf hw hfar hwr hpk hm hh hs hch hfit hl hq hcd hlow hcom hj hfits => ?_,
    fun r d a l dt freq p f rest s hf hw hfar hwr hpk hm hh hs hch hfit hl hq hcd hfits => ?_,
    fun r dt h a s hh ha hc hf hw => ?_, fun r dt h s hh ha => ?_, fun r d a l dt s hf => ?_⟩
  · rw [exec_cellEndCharge_eq, gives_next, ← State.nrec_advance s dt, ← State.cellCharge_sameDict (s.dict_advance dt)]
    exact State.chargeGo_charges (by rw [State.nrec_advance, hc]) hst
  · rw [exec_cellEndCharge_eq, gives_next]
    exact State.chargeGo_none (by rwa [State.nrec_advance])
  · have hplaced := State.dlPlaced_advance hm hh hs hch hfit hl
    rw [exec_downlinkCellPlanning_eq, gives_next, ← State.radio_advance s dt, ← State.nrec_advance s dt, ← State.slotStart_advance s dt,
      ← State.slotStart_advance s dt, ← State.dlCellSlots_sameDict (s.dict_advance dt)]
    exact State.dlGo_notes (by rw [State.girth_advance, hf]) hplaced (by rw [State.nodeQ_advance, hq])
  · have hplaced := State.dlPlaced_advance hm hh hs hch hfit hl
    have hfits := State.headFits_moved (dt := dt) hf hfits
    rw [exec_downlinkCellPlanning_eq, gives_next, ← State.nrec_advance s dt, ← State.radio_advance s dt]
    refine State.dlGo_commits (by rw [State.girth_advance, hf]) hplaced (by constructor <;> rw [State.girth_advance] <;> assumption)
      (by rw [State.nodeQ_advance, hq]) hcd ?_ ?_ ?_ hfits
    · rw [State.rd_advance, hlow]
    · rw [State.flag, State.rd_advance, ← hcom]
    · exact fun n hn => by rw [State.tx_advance, hj n hn]
  · have hplaced := State.dlPlaced_advance hm hh hs hch hfit hl
    have hfits := State.headFits_moved (dt := dt) hf hfits
    rw [exec_downlinkCellPlanning_eq, gives_next, ← State.nrec_advance s dt, ← State.radio_advance s dt, ← State.nodeQ_advance s dt,
      ← State.rd_advance s dt]
    exact State.dlGo_defers (by rw [State.girth_advance, hf]) hplaced (by constructor <;> rw [State.girth_advance] <;> assumption)
      (by rw [State.nodeQ_advance, hq]) hcd hfits
  · rw [exec_handoverIeSend_eq, exec_downlinkCellPlanning_eq, gives_next,
      State.ieGo_plans (s := s.advance dt) (by rw [State.nrec_advance, hh]) ha (by rw [State.nrec_advance, hc]) (by rw [State.firedDl_advance, hf])
        (by rw [State.headAwaited_advance, hw])]
  · rw [exec_handoverIeSend_eq, gives_next, State.ieGo_acked (by rw [State.nrec_advance, hh]) ha]
  · rw [exec_uplinkCellPlanning_eq, gives_next, ← State.nrec_advance s dt, ← State.slotStart_advance s dt, ← State.slotStart_advance s dt,
      ← State.ulCellSlots_sameDict (s.dict_advance dt)]
    exact State.ulGo_plans (by rw [State.girth_advance, hf])

end Sys2Proof.Machine

end

section
/-! ## O22: a frame that enters Harness (R273 to R276, R280, R283, R295, R324) -/

namespace Sys2Proof.Machine

variable {s t : State} {dt : Nat}

/-! ### Room in an output queue (R282, R283) -/

/-- `t` has the queues, the free cells and the limits of `s`. -/
structure State.QueuesAs (s t : State) : Prop where
  har : t.har.queues = s.har.queues ∧ t.har.freed = s.har.freed ∧ t.har.freedAt = s.har.freedAt
  clock : t.clock = s.clock
  alpha : t.rd Key.harAlphaK = s.rd Key.harAlphaK

theorem State.QueuesAs.trans {u : State} (h : s.QueuesAs t) (h' : t.QueuesAs u) : s.QueuesAs u := by
  obtain ⟨⟨hq, hf, hfa⟩, hc, ha⟩ := h
  obtain ⟨⟨hq', hf', hfa'⟩, hc', ha'⟩ := h'
  exact ⟨⟨hq'.trans hq, hf'.trans hf, hfa'.trans hfa⟩, hc'.trans hc, ha'.trans ha⟩

theorem State.QueuesAs.outQ (h : s.QueuesAs t) (k c : Nat) : t.outQ k c = s.outQ k c := by rw [State.outQ, State.outQ, h.har.1]

theorem State.QueuesAs.freeCells (h : s.QueuesAs t) : t.freeCells = s.freeCells := by
  obtain ⟨⟨hq, hf, hfa⟩, hc, -⟩ := h
  rw [State.freeCells, State.freeCells, State.freedNow, State.freedNow, State.elapsed, State.elapsed, hq, hf, hfa, hc]

theorem State.QueuesAs.alphaLimit (h : s.QueuesAs t) (c : Nat) : t.alphaLimit c = s.alphaLimit c := by
  simp only [State.alphaLimit, h.alpha, h.freeCells]

theorem State.queuesAs_bump (s : State) {k : Nat} (hk : Key.fam Key.harAlphaK ≠ Key.fam k) : s.QueuesAs (s.bump k) :=
  ⟨by simp only [State.bump_keeps .., and_self], by simp only [State.bump_keeps ..], State.rd_bump_of_fam s 1 hk⟩

/-- A queue takes frames of `n` cells of class `c` on die. -/
structure State.Fits (s : State) (k c n : Nat) : Prop where
  spilled : (s.outQ k c).spilled = false
  alpha : (s.outQ k c).cells + n ≤ s.alphaLimit c
  free : n ≤ s.freeCells

theorem State.Fits.of_queuesAs {k c n : Nat} (h : s.QueuesAs t) (hs : s.Fits k c n) : t.Fits k c n := by
  obtain ⟨h1, h2, h3⟩ := hs
  exact ⟨by rwa [h.outQ], by rwa [h.outQ, h.alphaLimit], by rwa [h.freeCells]⟩

/-- Output queue `(k, c)` with frame `f` at its end. -/
def State.queued (s : State) (k c : Nat) (f : HFrame) : State :=
  s.setOutQ k c { s.outQ k c with frames := (s.outQ k c).frames ++ [f] }

theorem State.queued_reads (s : State) (k c : Nat) (f : HFrame) : ((s.queued k c f).outQ k c).frames = (s.outQ k c).frames ++ [f] ∧
    (s.queued k c f).dict = s.dict := by
  refine ⟨?_, rfl⟩
  rw [State.queued, State.outQ_setOutQ_self]

theorem State.admitOne_fits {k : Nat} {f : HFrame} (h : s.Fits k f.cls f.cells) : s.admitOne k f = (s.queued k f.cls f, true) := by
  obtain ⟨hs, ha, hf⟩ := h
  rw [State.admitOne, if_neg (by simp [hs]), if_pos ⟨ha, hf⟩, State.queued]

theorem State.toCores_fits {f : HFrame} {reason c : Nat} (h : s.Fits 9 c f.cells) :
    (s.toCores f reason c).1 = s.queued 9 c { f with reason := reason, cls := c, target := .port } := by
  have hone := State.admitOne_fits (f := { f with reason := reason, cls := c, target := .port }) h
  rw [State.toCores, hone]
  rfl

/-! ### The intake (R273 to R275) -/

/-- Input `h` has taken the frame, and counts it. -/
def State.counted (s : State) (h : Nat) : State := s.drawn.bump (Key.hpRx h)

theorem State.rd_counted_ne (s : State) (h : Nat) {k : Nat} (hk : Key.fam k ≠ Key.fam (Key.hpRx h)) : (s.counted h).rd k = s.rd k :=
  (State.rd_bump_of_fam s.drawn 1 hk).trans rfl

theorem State.rd_counted_self (s : State) (h : Nat) : (s.counted h).rd (Key.hpRx h) = satAdd u32Max (s.rd (Key.hpRx h)) 1 := State.rd_bump_self ..

theorem State.queuesAs_counted (s : State) (h : Nat) : s.QueuesAs (s.counted h) :=
  (show s.QueuesAs s.drawn from ⟨⟨rfl, rfl, rfl⟩, rfl, rfl⟩).trans (s.drawn.queuesAs_bump (by simp))

theorem State.tables_counted (s : State) (h : Nat) : (s.counted h).tables = s.tables := by
  rw [State.counted]
  simp only [State.bump_keeps ..]
  rfl

section Intake
variable {h : Nat} {bytes : Bytes} {hit : TableHit}

/-- A frame above 9,216 bytes is lost. -/
theorem State.frameIn_big {st : Nat} (hb : 9216 < bytes.length) :
    ∃ f : HFrame, (s.frameIn h (.ethernet st) bytes hit).1 = (s.counted h).frameLost h f ∧ f.report = false := by
  refine ⟨s.inFrame h bytes, ?_, rfl⟩
  have hbig : decide (9216 < bytes.length) = true := by simp [hb]
  rw [State.frameIn, hbig]
  rfl

theorem State.frameIn_ethernet {st : Nat} (hb : bytes.length ≤ 9216) : ∃ f : HFrame,
    s.frameIn h (.ethernet st) bytes hit = (s.counted h).parsed f (parseEthernet bytes) true hit ∧ f.input = h ∧ f.bytes = bytes := by
  have hbig : decide (9216 < bytes.length) = false := by simp [hb]
  rw [State.frameIn, hbig]
  exact ⟨_, rfl, rfl, rfl⟩

theorem State.frameIn_routed {k c : Nat} (hb : bytes.length ≤ 9216) : ∃ f : HFrame,
    s.frameIn h (.routed k c none false) bytes hit = (s.counted h).parsed f (parsePacket bytes true (linkCtx s.draws)) false hit ∧
      f.input = h ∧ f.bytes = bytes ∧ f.tenant = k ∧ f.cls = c ∧ f.report = false := by
  have hbig : decide (9216 < bytes.length) = false := by simp [hb]
  rw [State.frameIn, hbig]
  exact ⟨_, rfl, rfl, rfl, rfl, rfl, rfl⟩

end Intake

/-! ### After the parse (R276, R280) -/

theorem State.frameLost_quiet {f : HFrame} (h : Nat) (hr : f.report = false) : s.frameLost h f = s.bump (Key.hpDrop h) := by
  rw [State.frameLost, State.copyLost, hr]
  rfl

/-- A frame that cannot be read so far goes to the cores for reason 1. -/
theorem State.parsed_deep {f : HFrame} {p : Parsed} {limit byDscp : Bool} {hit : TableHit} (hv : p.verdict = .deep limit)
    (h : s.Fits 9 (ipClass p.ip) f.cells) : ∃ (u : State) (g : HFrame), (s.parsed f p byDscp hit).1 = u.queued 9 (ipClass p.ip) g ∧
      s.QueuesAs u ∧ (∀ k, Key.fam k ≠ Key.fam Key.parseDeep → u.rd k = s.rd k) ∧ g.reason = 1 ∧ g.bytes = f.bytes ∧ g.input = f.input := by
  have hparsed : s.parsed f p byDscp hit = (if limit then s.bump Key.parseDeep else s).toCores f 1 (ipClass p.ip) := by
    rw [State.parsed, hv]
  rw [hparsed]
  cases limit with
  | false =>
    rw [if_neg (by simp), State.toCores_fits h]
    exact ⟨_, _, rfl, ⟨⟨rfl, rfl, rfl⟩, rfl, rfl⟩, fun _ _ => rfl, rfl, rfl, rfl⟩
  | true =>
    have hq : s.QueuesAs (s.bump Key.parseDeep) := s.queuesAs_bump (by decide)
    rw [if_pos rfl, State.toCores_fits (h.of_queuesAs hq)]
    exact ⟨_, _, rfl, hq, fun k hk => State.rd_bump_of_fam s 1 hk, rfl, rfl, rfl⟩

/-- A control frame goes to the cores for reason 4. -/
theorem State.parsed_control {f : HFrame} {p : Parsed} {byDscp : Bool} {hit : TableHit} (hv : p.verdict = .control) (h : s.Fits 9 6 f.cells) :
    ∃ g : HFrame, (s.parsed f p byDscp hit).1 = s.queued 9 6 g ∧ g.reason = 4 ∧ g.bytes = f.bytes ∧ g.input = f.input := by
  have hparsed : s.parsed f p byDscp hit = s.toCores f 4 6 := by rw [State.parsed, hv]
  rw [hparsed, State.toCores_fits h]
  exact ⟨_, rfl, rfl, rfl, rfl⟩

/-- A complete frame is routed in its class and policed. -/
theorem State.parsed_complete {f : HFrame} {p : Parsed} {hit : TableHit} {ip : IpHead} (hv : p.verdict = .complete) (hi : p.ip = some ip) :
    s.parsed f p false hit =
      (s.routeFrame { f with bytes := p.bytes } ip hit).1.policeAdmit { f with bytes := p.bytes } ip (s.routeFrame { f with bytes := p.bytes } ip hit).2 := by
  rw [State.parsed, hv, hi]
  rfl

theorem State.routeFrame_none {f : HFrame} {hit : TableHit} {ip : IpHead} (hb : hit.bridle = none)
    (hf : s.bridleFind f.tenant ip.v4 ip.dst = none) : s.routeFrame f ip hit = (s, Routed.miss) := by
  rw [State.routeFrame, hb, State.bridleHit, Option.filter_none, hf]

theorem State.routeFrame_port {f : HFrame} {hit : TableHit} {ip : IpHead} {r : Nat} (hb : hit.bridle = none)
    (hf : s.bridleFind f.tenant ip.v4 ip.dst = some r) (hk : resultKind r = 1) :
    s.routeFrame f ip hit = (s, { copies := [(resultValue r, f)], aside := .nothing, found := true }) := by
  rw [State.routeFrame, hb, State.bridleHit, Option.filter_none, hf]
  dsimp only
  rw [hk]
  rfl

/-- A copy of a green frame for one output that may take it joins that output's queue. -/
theorem State.policeAdmit_one {f : HFrame} {ip : IpHead} {v : Nat} {a : Aside} (hm : bits (s.rd (Key.polMode f.tenant f.cls)) 0 2 = 0)
    (hc : copyAllowed f.input ip.v4 v = true) (h : s.Fits v f.cls f.cells) :
    (s.policeAdmit f ip { copies := [(v, f)], aside := a, found := true }).1 = s.queued v f.cls f := by
  have hpolice : s.police f.tenant f.cls f.bytes.length (some ip.tc) = (s, .green) := by
    rw [State.police]
    exact if_pos hm
  have hfilter : [(v, f)].filter (fun c => copyAllowed f.input ip.v4 c.1) = [(v, f)] := by simp [hc]
  have hall : s.admitAll [(v, f)] = (s.queued v f.cls f, true) := by
    rw [State.admitAll, List.foldl_cons, List.foldl_nil]
    dsimp only
    rw [State.admitOne_fits h]
    rfl
  rw [State.policeAdmit]
  dsimp only
  rw [hpolice, hfilter, hall]
  rfl

theorem State.policeAdmit_miss {f : HFrame} {ip : IpHead} : (s.policeAdmit f ip Routed.miss).1 = s.frameLost f.input f := rfl

/-! ### The obligation -/

/-- A frame at input `h` at the present time. -/
def State.frameGo (s : State) (h : Nat) (a : Arrival) (hit : TableHit) : State :=
  if s.inputClosed h then s
  else if s.takesNext h a then ((s.takeArrival a).frameIn h a.info a.bytes hit).1
  else s

theorem exec_harnessFrameIn_eq (h : Fin 12) (m : InMeta) (bytes : Bytes) (hit : TableHit) (dt : Nat) (s : State) :
    exec (.harnessFrameIn h m bytes hit dt) s = .next ((s.advance dt).frameGo h ⟨h, m, bytes⟩ hit) := rfl

section Go
variable {h : Nat} {a : Arrival} {hit : TableHit}

theorem State.frameGo_takes (hc : s.inputClosed h = false) (ht : s.takesNext h a = true) :
    s.frameGo h a hit = ((s.takeArrival a).frameIn h a.info a.bytes hit).1 := by
  rw [State.frameGo, if_neg (by simp [hc]), if_pos ht]

/-- The state in which the frame is parsed. -/
def State.admitted (s : State) (h : Nat) (a : Arrival) : State := (s.takeArrival a).counted h

theorem State.admitted_holds (s : State) (h : Nat) (a : Arrival) : s.QueuesAs (s.admitted h a) ∧
    (s.admitted h a).rd (Key.hpRx h) = satAdd u32Max (s.rd (Key.hpRx h)) 1 ∧
    (∀ k, Key.fam k ≠ Key.fam (Key.hpRx h) → (s.admitted h a).rd k = s.rd k) ∧ (s.admitted h a).tables = s.tables :=
  ⟨(show s.QueuesAs (s.takeArrival a) from ⟨⟨rfl, rfl, rfl⟩, rfl, rfl⟩).trans (State.queuesAs_counted ..), State.rd_counted_self ..,
    fun _ hk => State.rd_counted_ne _ h hk, State.tables_counted ..⟩

theorem State.fam_hpDrop_ne_hpRx (h : Nat) : Key.fam (Key.hpDrop h) ≠ Key.fam (Key.hpRx h) := by simp

variable {st : Nat} {bytes : Bytes}

theorem State.frameGo_big (hc : s.inputClosed h = false) (ht : s.takesNext h ⟨h, .ethernet st, bytes⟩ = true) (hb : 9216 < bytes.length) :
    (s.frameGo h ⟨h, .ethernet st, bytes⟩ hit).rd (Key.hpRx h) = satAdd u32Max (s.rd (Key.hpRx h)) 1 ∧
    (s.frameGo h ⟨h, .ethernet st, bytes⟩ hit).rd (Key.hpDrop h) = satAdd u32Max (s.rd (Key.hpDrop h)) 1 ∧
    (s.frameGo h ⟨h, .ethernet st, bytes⟩ hit).har.queues = s.har.queues := by
  obtain ⟨hq, hrx, hrd, -⟩ := s.admitted_holds h ⟨h, .ethernet st, bytes⟩
  obtain ⟨f, hf, hr⟩ := State.frameIn_big (s := s.takeArrival ⟨h, .ethernet st, bytes⟩) (h := h) (hit := hit) (st := st) hb
  rw [← State.admitted, State.frameLost_quiet h hr] at hf
  rw [State.frameGo_takes hc ht, hf]
  refine ⟨?_, ?_, ?_⟩
  · rw [State.rd_bump_of_fam _ _ (State.fam_hpDrop_ne_hpRx h).symm, hrx]
  · rw [State.rd_bump_self, hrd _ (State.fam_hpDrop_ne_hpRx h)]
  · simp only [State.bump_keeps ..]
    exact hq.har.1

theorem State.frameGo_deep {limit : Bool} (hc : s.inputClosed h = false) (ht : s.takesNext h ⟨h, .ethernet st, bytes⟩ = true)
    (hb : bytes.length ≤ 9216) (hv : (parseEthernet bytes).verdict = .deep limit)
    (hfit : s.Fits 9 (ipClass (parseEthernet bytes).ip) (cellsOf bytes.length)) :
    ∃ g : HFrame, ((s.frameGo h ⟨h, .ethernet st, bytes⟩ hit).outQ 9 (ipClass (parseEthernet bytes).ip)).frames =
        (s.outQ 9 (ipClass (parseEthernet bytes).ip)).frames ++ [g] ∧ g.reason = 1 ∧ g.bytes = bytes ∧ g.input = h ∧
      (s.frameGo h ⟨h, .ethernet st, bytes⟩ hit).rd (Key.hpDrop h) = s.rd (Key.hpDrop h) := by
  obtain ⟨hq, -, hrd, -⟩ := s.admitted_holds h ⟨h, .ethernet st, bytes⟩
  obtain ⟨f, hf, hin, hby⟩ := State.frameIn_ethernet (s := s.takeArrival ⟨h, .ethernet st, bytes⟩) (h := h) (hit := hit) (st := st) hb
  have hfit' : (s.admitted h ⟨h, .ethernet st, bytes⟩).Fits 9 (ipClass (parseEthernet bytes).ip) f.cells := by
    rw [HFrame.cells, hby]
    exact hfit.of_queuesAs hq
  obtain ⟨u, g, hg, hu, hur, hreason, hgb, hgi⟩ := State.parsed_deep (byDscp := true) (hit := hit) hv hfit'
  obtain ⟨hframes, hdict⟩ := u.queued_reads 9 (ipClass (parseEthernet bytes).ip) g
  rw [← State.admitted] at hf
  rw [State.frameGo_takes hc ht, hf, hg, hframes, (hq.trans hu).outQ, State.rd_sameDict hdict, hur _ (by simp),
    hrd _ (State.fam_hpDrop_ne_hpRx h)]
  exact ⟨g, rfl, hreason, hgb.trans hby, hgi.trans hin, rfl⟩

variable {k c : Nat}

theorem State.frameGo_control (hc : s.inputClosed h = false) (ht : s.takesNext h ⟨h, .routed k c none false, bytes⟩ = true)
    (hb : bytes.length ≤ 9216) (hv : (parsePacket bytes true (linkCtx s.draws)).verdict = .control) (hfit : s.Fits 9 6 (cellsOf bytes.length)) :
    ∃ g : HFrame, ((s.frameGo h ⟨h, .routed k c none false, bytes⟩ hit).outQ 9 6).frames = (s.outQ 9 6).frames ++ [g] ∧ g.reason = 4 ∧
      g.bytes = bytes ∧ g.input = h ∧ (s.frameGo h ⟨h, .routed k c none false, bytes⟩ hit).rd (Key.hpDrop h) = s.rd (Key.hpDrop h) := by
  obtain ⟨hq, -, hrd, -⟩ := s.admitted_holds h ⟨h, .routed k c none false, bytes⟩
  obtain ⟨f, hf, hin, hby, -, -, -⟩ :=
    State.frameIn_routed (s := s.takeArrival ⟨h, .routed k c none false, bytes⟩) (h := h) (hit := hit) (k := k) (c := c) hb
  have hfit' : (s.admitted h ⟨h, .routed k c none false, bytes⟩).Fits 9 6 f.cells := by
    rw [HFrame.cells, hby]
    exact hfit.of_queuesAs hq
  obtain ⟨g, hg, hreason, hgb, hgi⟩ := State.parsed_control (byDscp := false) (hit := hit) hv hfit'
  obtain ⟨hframes, hdict⟩ := (s.admitted h ⟨h, .routed k c none false, bytes⟩).queued_reads 9 6 g
  rw [← State.admitted] at hf
  have hdraws : (s.takeArrival ⟨h, .routed k c none false, bytes⟩).draws = s.draws := rfl
  rw [hdraws] at hf
  rw [State.frameGo_takes hc ht, hf, hg, hframes, hq.outQ, State.rd_sameDict hdict, hrd _ (State.fam_hpDrop_ne_hpRx h)]
  exact ⟨g, rfl, hreason, hgb.trans hby, hgi.trans hin, rfl⟩

/-- The intake of a routed packet that parses: it is routed and policed. -/
theorem State.frameGo_routed {ip : IpHead} (hc : s.inputClosed h = false) (ht : s.takesNext h ⟨h, .routed k c none false, bytes⟩ = true)
    (hb : bytes.length ≤ 9216) (hv : (parsePacket bytes true (linkCtx s.draws)).verdict = .complete)
    (hi : (parsePacket bytes true (linkCtx s.draws)).ip = some ip) : ∃ (u : State) (f : HFrame),
      s.frameGo h ⟨h, .routed k c none false, bytes⟩ hit = ((u.routeFrame f ip hit).1.policeAdmit f ip (u.routeFrame f ip hit).2).1 ∧
      u = s.admitted h ⟨h, .routed k c none false, bytes⟩ ∧ f.input = h ∧ f.bytes = (parsePacket bytes true (linkCtx s.draws)).bytes ∧
      f.tenant = k ∧ f.cls = c ∧ f.report = false := by
  obtain ⟨f, hf, hin, -, hten, hcls, hrep⟩ :=
    State.frameIn_routed (s := s.takeArrival ⟨h, .routed k c none false, bytes⟩) (h := h) (hit := hit) (k := k) (c := c) hb
  have hdraws : (s.takeArrival ⟨h, .routed k c none false, bytes⟩).draws = s.draws := rfl
  rw [← State.admitted, hdraws] at hf
  refine ⟨_, { f with bytes := (parsePacket bytes true (linkCtx s.draws)).bytes }, ?_, rfl, hin, rfl, hten, hcls, hrep⟩
  rw [State.frameGo_takes hc ht, hf, State.parsed_complete hv hi]

theorem State.frameGo_port {ip : IpHead} {r : Nat} (hc : s.inputClosed h = false) (ht : s.takesNext h ⟨h, .routed k c none false, bytes⟩ = true)
    (hb : bytes.length ≤ 9216) (hv : (parsePacket bytes true (linkCtx s.draws)).verdict = .complete)
    (hi : (parsePacket bytes true (linkCtx s.draws)).ip = some ip) (hbr : hit.bridle = none) (hfind : s.bridleFind k ip.v4 ip.dst = some r)
    (hkind : resultKind r = 1) (hm : bits (s.rd (Key.polMode k c)) 0 2 = 0) (hcopy : copyAllowed h ip.v4 (resultValue r) = true)
    (hfit : s.Fits (resultValue r) c (cellsOf (parsePacket bytes true (linkCtx s.draws)).bytes.length)) :
    ∃ g : HFrame, ((s.frameGo h ⟨h, .routed k c none false, bytes⟩ hit).outQ (resultValue r) c).frames =
        (s.outQ (resultValue r) c).frames ++ [g] ∧ g.bytes = (parsePacket bytes true (linkCtx s.draws)).bytes ∧ g.tenant = k ∧ g.cls = c ∧
      g.input = h ∧ (s.frameGo h ⟨h, .routed k c none false, bytes⟩ hit).rd (Key.hpDrop h) = s.rd (Key.hpDrop h) := by
  obtain ⟨hq, -, hrd, htab⟩ := s.admitted_holds h ⟨h, .routed k c none false, bytes⟩
  obtain ⟨u, f, hgo, hu, hin, hby, hten, hcls, -⟩ := State.frameGo_routed (hit := hit) hc ht hb hv hi
  rw [← hu] at hq hrd htab
  have hroute := State.routeFrame_port (s := u) (f := f) (ip := ip) hbr (by rw [State.bridleFind, htab, hten]; exact hfind) hkind
  have hadmit := State.policeAdmit_one (s := u) (f := f) (ip := ip) (v := resultValue r) (a := .nothing)
    (by rw [hten, hcls, hrd _ (by simp), hm]) (by rw [hin, hcopy]) (by rw [hcls, HFrame.cells, hby]; exact hfit.of_queuesAs hq)
  obtain ⟨hframes, hdict⟩ := u.queued_reads (resultValue r) c f
  rw [hgo, hroute]
  dsimp only
  rw [hadmit, hcls, hframes, hq.outQ, State.rd_sameDict hdict, hrd _ (State.fam_hpDrop_ne_hpRx h)]
  exact ⟨f, rfl, hby, hten, hcls, hin, rfl⟩

theorem State.frameGo_noRoute {ip : IpHead} (hc : s.inputClosed h = false) (ht : s.takesNext h ⟨h, .routed k c none false, bytes⟩ = true)
    (hb : bytes.length ≤ 9216) (hv : (parsePacket bytes true (linkCtx s.draws)).verdict = .complete)
    (hi : (parsePacket bytes true (linkCtx s.draws)).ip = some ip) (hbr : hit.bridle = none) (hfind : s.bridleFind k ip.v4 ip.dst = none) :
    (s.frameGo h ⟨h, .routed k c none false, bytes⟩ hit).har.queues = s.har.queues ∧
      (s.frameGo h ⟨h, .routed k c none false, bytes⟩ hit).rd (Key.hpDrop h) = satAdd u32Max (s.rd (Key.hpDrop h)) 1 := by
  obtain ⟨hq, -, hrd, htab⟩ := s.admitted_holds h ⟨h, .routed k c none false, bytes⟩
  obtain ⟨u, f, hgo, hu, hin, -, hten, -, hrep⟩ := State.frameGo_routed (hit := hit) hc ht hb hv hi
  rw [← hu] at hq hrd htab
  have hroute := State.routeFrame_none (s := u) (f := f) (ip := ip) hbr (by rw [State.bridleFind, htab, hten]; exact hfind)
  rw [hgo, hroute, State.policeAdmit_miss, hin, State.frameLost_quiet h hrep]
  refine ⟨?_, ?_⟩
  · simp only [State.bump_keeps ..]
    exact hq.har.1
  · rw [State.rd_bump_self, hrd _ (State.fam_hpDrop_ne_hpRx h)]

end Go

theorem State.har_advance (s : State) (dt : Nat) : (s.advance dt).har = s.har := by simp only [State.advance_keeps ..]

theorem State.outQ_advance (s : State) (dt k c : Nat) : (s.advance dt).outQ k c = s.outQ k c := by rw [State.outQ, State.outQ, State.har_advance]

theorem State.draws_advance (s : State) (dt : Nat) : (s.advance dt).draws = s.draws := by simp only [State.advance_keeps ..]

theorem State.bridleFind_advance (s : State) (dt i : Nat) (v4 : Bool) (x : Nat) : (s.advance dt).bridleFind i v4 x = s.bridleFind i v4 x := by
  have ht : (s.advance dt).tables = s.tables := by simp only [State.advance_keeps ..]
  rw [State.bridleFind, State.bridleFind, ht]

/-- Settles O22. -/
theorem framesEnter : Obligations.FramesEnter := by
  unfold Obligations.FramesEnter
  refine ⟨fun h m bytes hit dt s hc => ?_, fun h m bytes hit dt s ht => ?_, fun h st bytes hit dt s hc ht hb => ?_,
    fun h st bytes hit dt limit c s hc ht hb hv hcls hsp ha hfree => ?_, fun h ten c bytes hit dt s hc ht hb hv hsp ha hfree => ?_,
    fun h ten c bytes hit dt ip r p s hc ht hb hp hv hi hbr hfind hkind hm hcopy hsp ha hfree => ?_,
    fun h ten c bytes hit dt ip p s hc ht hb hp hv hi hbr hfind => ?_⟩
  · rw [exec_harnessFrameIn_eq, gives_next, State.frameGo, if_pos hc]
  · rw [exec_harnessFrameIn_eq, gives_next, State.frameGo, if_neg (by simp [ht] : ¬ (s.advance dt).takesNext _ _ = true), ite_self]
  · rw [exec_harnessFrameIn_eq, gives_next, ← State.rd_advance s dt, ← State.rd_advance s dt, ← State.har_advance s dt]
    exact State.frameGo_big hc ht hb
  · rw [← State.outQ_advance s dt] at hsp ha
    rw [exec_harnessFrameIn_eq, gives_next, ← State.rd_advance s dt, ← State.outQ_advance s dt]
    subst hcls
    exact State.frameGo_deep hc ht hb hv ⟨hsp, ha, hfree⟩
  · rw [← State.outQ_advance s dt] at hsp ha
    rw [← State.draws_advance s dt] at hv
    rw [exec_harnessFrameIn_eq, gives_next, ← State.rd_advance s dt, ← State.outQ_advance s dt]
    exact State.frameGo_control hc ht hb hv ⟨hsp, ha, hfree⟩
  · rw [← State.outQ_advance s dt] at hsp ha
    rw [← State.draws_advance s dt] at hp
    rw [← State.rd_advance s dt] at hm
    rw [← State.bridleFind_advance s dt] at hfind
    rw [exec_harnessFrameIn_eq, gives_next, ← State.rd_advance s dt, ← State.outQ_advance s dt]
    subst hp
    exact State.frameGo_port hc ht hb hv hi hbr hfind hkind hm hcopy ⟨hsp, ha, hfree⟩
  · rw [← State.draws_advance s dt] at hp
    rw [← State.bridleFind_advance s dt] at hfind
    rw [exec_harnessFrameIn_eq, gives_next, ← State.rd_advance s dt, ← State.har_advance s dt]
    subst hp
    exact State.frameGo_noRoute hc ht hb hv hi hbr hfind

end Sys2Proof.Machine

end

section
/-! ## O23: frames leave their outputs and spill (R281, R284, R287 to R289, R291) -/

namespace Sys2Proof.Machine

variable {s : State} {dt : Nat}

/-! ### Output service (R287, R288) -/

theorem State.eligible_empty {k c : Nat} (h : (s.outQ k c).frames = []) : s.eligible k c = (s, false) := by rw [State.eligible, h]

/-- A radio output is always ready for its head. -/
theorem State.eligible_radio {k c : Nat} {f : HFrame} {rest : List HFrame} (hk : k < 4) (h : (s.outQ k c).frames = f :: rest) :
    s.eligible k c = (s, true) := by
  rw [State.eligible, h]
  exact if_pos hk

/-- The Saddlebag's output is ready for a head that no shaper holds. -/
theorem State.eligible_saddlebag {c : Nat} {f : HFrame} {rest : List HFrame} (h : (s.outQ 10 c).frames = f :: rest)
    (hc : s.onCalendar (80 + c) = false) (hr : s.rd (Key.shpRateKbps f.tenant (shaperOf 10 c)) = 0) :
    s.eligible 10 c = (s.shaperNow f.tenant (shaperOf 10 c), true) := by
  have hnow : (s.shaperNow f.tenant (shaperOf 10 c)).rd (Key.shpRateKbps f.tenant (shaperOf 10 c)) = 0 := by
    rw [← hr]
    unfold State.shaperNow
    extract_lets
    split_ifs <;> rfl
  have hat : (s.shaperNow f.tenant (shaperOf 10 c)).eligibleAt f.tenant (shaperOf 10 c) = 0 := by rw [State.eligibleAt, if_pos hnow]
  rw [State.eligible, h]
  dsimp only
  rw [if_neg (by decide), if_neg (by simp [hc]), hat, if_neg (Nat.not_lt_zero _)]
  rfl

/-- The highest class with a frame is served if it is ready. -/
theorem State.pickClass_highest {k c : Nat} {u : State} (he : s.eligible k c = (u, true)) {n : Nat} (hc : c < n)
    (habove : ∀ d, d < n → c < d → (s.outQ k d).frames = []) : s.pickClass k n = (u, some c) := by
  induction n with
  | zero => omega
  | succ n ih =>
    rw [State.pickClass]
    obtain rfl | hlt := Nat.eq_or_lt_of_le (Nat.lt_succ_iff.mp hc)
    · rw [he]
      rfl
    · rw [State.eligible_empty (habove n (Nat.lt_succ_self n) hlt)]
      exact ih hlt fun d hd => habove d (Nat.lt_succ_of_lt hd)

/-- The dequeued frame `f` goes its way. -/
def State.departs (s : State) (k c : Nat) (bad : Option Nat) (f : HFrame) : State :=
  match bad with
  | some a => (s.qDrop k f).memFound 3 .uncorrectable a
  | none =>
    let s := if k < 4 then s else s.shaperDepart f.tenant (shaperOf k c) f.bytes.length f.since
    s.outStage k f

/-- Output queue `(k, c)` left with the frames `rest`. -/
def State.framesLeft (s : State) (k c : Nat) (rest : List HFrame) : State := s.setOutQ k c { s.outQ k c with frames := rest }

/-- The output service at the present time. -/
def State.dequeueGo (s : State) (k : Nat) (bad : Option Nat) : State :=
  if s.outDown k then s
  else
    let p := s.pickClass k 8
    let s := p.1
    match p.2 with
    | none => s
    | some c =>
      let q := s.outQ k c
      match q.frames with
      | [] => s
      | f :: rest =>
        let s := s.setOutQ k c { q with frames := rest }
        match bad with
        | some a => (s.qDrop k f).memFound 3 .uncorrectable a
        | none =>
          let s := if k < 4 then s else s.shaperDepart f.tenant (shaperOf k c) f.bytes.length f.since
          s.outStage k f

theorem exec_outputDequeue_eq (h : Fin 12) (bad : Option Nat) (dt : Nat) (s : State) :
    exec (.outputDequeue h bad dt) s = .next ((s.advance dt).dequeueGo h bad) := rfl

/-- An output that is up takes the head of the class that it serves. -/
theorem State.dequeueGo_serves {k c : Nat} {bad : Option Nat} {u : State} {f : HFrame} {rest : List HFrame} (hd : s.outDown k = false)
    (hp : s.pickClass k 8 = (u, some c)) (hq : (u.outQ k c).frames = f :: rest) :
    s.dequeueGo k bad = (u.framesLeft k c rest).departs k c bad f := by
  rw [State.dequeueGo, if_neg (by simp [hd]), hp]
  dsimp only
  rw [hq]
  rfl

theorem State.framesLeft_reads (s : State) (k c : Nat) (rest : List HFrame) : (s.framesLeft k c rest).outQ k c = { s.outQ k c with frames := rest } ∧
    (s.framesLeft k c rest).dict = s.dict ∧ (s.framesLeft k c rest).out = s.out ∧ (s.framesLeft k c rest).girth = s.girth ∧
    (s.framesLeft k c rest).clock = s.clock ∧ (s.framesLeft k c rest).sb = s.sb := by
  refine ⟨?_, rfl, rfl, rfl, rfl, rfl⟩
  rw [State.framesLeft, State.outQ_setOutQ_self]

theorem State.outQ_framesLeft_ne (s : State) {k c d : Nat} (rest : List HFrame) (h : d ≠ c) : (s.framesLeft k c rest).outQ k d = s.outQ k d := by
  rw [State.framesLeft, State.outQ_setOutQ, if_neg (by omega)]

/-! ### The Saddlebag's output -/

theorem State.shaperNow_reads (s : State) (k x : Nat) : (s.shaperNow k x).har = s.har ∧ (s.shaperNow k x).dict = s.dict ∧
    (s.shaperNow k x).out = s.out := by
  unfold State.shaperNow
  extract_lets
  split_ifs <;> exact ⟨rfl, rfl, rfl⟩

theorem State.departs_saddlebag (s : State) (c : Nat) (f : HFrame) : (s.departs 10 c none f).har = s.har ∧
    (s.departs 10 c none f).out = .harness 10 f :: s.out ∧ (s.departs 10 c none f).rd (Key.hpTx 10) = satAdd u32Max (s.rd (Key.hpTx 10)) 1 := by
  obtain ⟨u, hu, har, hdict, hout⟩ : ∃ u : State, s.departs 10 c none f = u.plainOut 10 f ∧ u.har = s.har ∧ u.dict = s.dict ∧ u.out = s.out :=
    ⟨_, rfl, rfl, rfl, rfl⟩
  have hrep (v : State) (o : Option Nat) : (v.reportFinal o 0 0).rd (Key.hpTx 10) = v.rd (Key.hpTx 10) := by
    simp only [State.rd, State.reportFinal_keeps ..]
  rw [hu, State.plainOut]
  refine ⟨?_, ?_, ?_⟩
  · simp only [State.reportFinal_keeps .., State.emit_keeps .., State.bump_keeps ..]
    exact har
  · have hemit : ((u.bump (Key.hpTx 10)).emit (.harness 10 f)).out = .harness 10 f :: u.out := by
      have hb : (u.bump (Key.hpTx 10)).out = u.out := by simp only [State.bump_keeps ..]
      rw [← hb]
      rfl
    simp only [State.reportFinal_keeps ..]
    rw [hemit, hout]
  · rw [hrep]
    have hemit : ((u.bump (Key.hpTx 10)).emit (.harness 10 f)).rd (Key.hpTx 10) = (u.bump (Key.hpTx 10)).rd (Key.hpTx 10) := rfl
    rw [hemit, State.rd_bump_self, State.rd_sameDict hdict]

theorem State.dequeueGo_saddlebag {c : Nat} (hc8 : c < 8) {f : HFrame} {rest : List HFrame} (hu : s.sbUp = true)
    (hf : (s.outQ 10 c).frames = f :: rest) (habove : ∀ d, d < 8 → c < d → (s.outQ 10 d).frames = []) (hcal : s.onCalendar (80 + c) = false)
    (hr : s.rd (Key.shpRateKbps f.tenant (shaperOf 10 c)) = 0) : ((s.dequeueGo 10 none).outQ 10 c).frames = rest ∧
      (s.dequeueGo 10 none).out = .harness 10 f :: s.out ∧ (s.dequeueGo 10 none).rd (Key.hpTx 10) = satAdd u32Max (s.rd (Key.hpTx 10)) 1 ∧
      ∀ d, d ≠ c → d < 8 → (s.dequeueGo 10 none).outQ 10 d = s.outQ 10 d := by
  obtain ⟨v, hv⟩ : ∃ v, v = s.shaperNow f.tenant (shaperOf 10 c) := ⟨_, rfl⟩
  obtain ⟨hhar, hdict, hout⟩ := s.shaperNow_reads f.tenant (shaperOf 10 c)
  rw [← hv] at hhar hdict hout
  have hq (d : Nat) : v.outQ 10 d = s.outQ 10 d := by rw [State.outQ, State.outQ, hhar]
  have hpick := State.pickClass_highest (State.eligible_saddlebag hf hcal hr) hc8 habove
  rw [← hv] at hpick
  have hdown : s.outDown 10 = false := by simp [State.outDown, hu]
  rw [State.dequeueGo_serves hdown hpick (by rw [hq, hf])]
  obtain ⟨hleft, hldict, hlout, -, -, -⟩ := v.framesLeft_reads 10 c rest
  obtain ⟨hdhar, hdout, hdrd⟩ := (v.framesLeft 10 c rest).departs_saddlebag c f
  have hdq (d : Nat) : ((v.framesLeft 10 c rest).departs 10 c none f).outQ 10 d = (v.framesLeft 10 c rest).outQ 10 d := by
    rw [State.outQ, State.outQ, hdhar]
  refine ⟨by rw [hdq, hleft], by rw [hdout, hlout, hout], by rw [hdrd, State.rd_sameDict (hldict.trans hdict)], fun d hd _ => ?_⟩
  rw [hdq, State.outQ_framesLeft_ne v rest hd, hq]

/-! ### The radio's outputs -/

section Radio
variable {k c : Nat} {f : HFrame} {rest : List HFrame} (hk : k < 4) (hc8 : c < 8) (hf : (s.outQ k c).frames = f :: rest)
  (habove : ∀ d, d < 8 → c < d → (s.outQ k d).frames = [])
include hk hc8 hf habove

theorem State.dequeueGo_radio (bad : Option Nat) : s.dequeueGo k bad = (s.framesLeft k c rest).departs k c bad f := by
  have hdown : s.outDown k = false := by
    rw [State.outDown, if_neg (by omega), if_neg (by omega), if_neg (by omega), if_neg (by omega), if_neg (by omega)]
  exact State.dequeueGo_serves hdown (State.pickClass_highest (State.eligible_radio hk hf) hc8 habove) hf

/-- A broadcast leaves for its tenant's next shared slot. -/
theorem State.dequeueGo_cast {u : Nat} (ht : f.target = .tenantCast u) (hroom : (f.lowpan (linkCtx f.ctx)).length ≤ s.dlRoom u) :
    ((s.dequeueGo k none).outQ k c).frames = rest ∧ (s.dequeueGo k none).girth.casts =
      s.girth.casts ++ [⟨u, f.cls, f.lowpan (linkCtx f.ctx), f.handle, f.report, s.nowNs⟩] := by
  obtain ⟨hleft, hdict, -, hgirth, hclock, -⟩ := s.framesLeft_reads k c rest
  rw [State.dequeueGo_radio hk hc8 hf habove]
  generalize s.framesLeft k c rest = v at hleft hdict hgirth hclock ⊢
  have hroomv : v.dlRoom u = s.dlRoom u := by rw [State.dlRoom, State.dlRoom, State.rd_sameDict hdict]
  obtain ⟨w, hw⟩ : ∃ w, w = v.bump (Key.hpTx k) := ⟨_, rfl⟩
  have hkeep : w.har = v.har ∧ w.girth = v.girth := by
    rw [hw]
    simp only [State.bump_keeps .., and_self]
  obtain ⟨hwhar, hwgirth⟩ := hkeep
  have hstage : v.departs k c none f = { w with girth := { w.girth with casts :=
      w.girth.casts ++ [⟨u, f.cls, f.lowpan (linkCtx f.ctx), f.handle, f.report, v.nowNs⟩] } } := by
    rw [State.departs]
    dsimp only
    rw [if_pos hk, State.outStage, if_pos hk, State.radioOut, ht]
    dsimp only
    rw [if_neg (by rw [hroomv]; omega), hw]
  have hread (x : List PendingCast) : ({ w with girth := { w.girth with casts := x } } : State).outQ k c = w.outQ k c := rfl
  rw [hstage]
  refine ⟨?_, ?_⟩
  · rw [hread, State.outQ, hwhar, ← State.outQ, hleft]
  · have hnow : v.nowNs = s.nowNs := by rw [State.nowNs, State.nowNs, hclock]
    dsimp only
    rw [hwgirth, hgirth, hnow]

/-- A frame with an uncorrectable word is dropped and posted. -/
theorem State.dequeueGo_bad (a : Nat) : ((s.dequeueGo k (some a)).outQ k c).frames = rest ∧
    Posted s (s.dequeueGo k (some a)) .memUncorrected 0x1200 ∧
    (s.dequeueGo k (some a)).rd Key.memUncorrected = satAdd u32Max (s.rd Key.memUncorrected) 1 ∧
    (s.dequeueGo k (some a)).girth.casts = s.girth.casts ∧ (s.dequeueGo k (some a)).out = s.out := by
  obtain ⟨hleft, hdict, hout, hgirth, -, hsb⟩ := s.framesLeft_reads k c rest
  rw [State.dequeueGo_radio hk hc8 hf habove]
  generalize s.framesLeft k c rest = v at hleft hdict hout hgirth hsb ⊢
  have hdep : v.departs k c (some a) f = (v.qDrop k f).memFound 3 .uncorrectable a := rfl
  have hdrop : (v.qDrop k f).rd Key.memUncorrected = v.rd Key.memUncorrected := State.qDrop_rd (by decide)
  rw [hdep]
  refine ⟨?_, ?_, ?_, ?_, ?_⟩
  · have : ((v.qDrop k f).memFound 3 .uncorrectable a).outQ k c = v.outQ k c := by
      simp only [State.outQ, State.memFound_keeps .., State.qDrop_keeps ..]
    rw [this, hleft]
  · rw [State.memFound_uncorrectable]
    exact Posted.of_post (by simp only [State.bump_keeps .., State.qDrop_keeps .., hsb]) ..
  · rw [State.rd_memUncorrected_memFound, hdrop, State.rd_sameDict hdict]
  · simp only [State.memFound_keeps .., State.qDrop_keeps .., hgirth]
  · simp only [State.memFound_keeps .., State.qDrop_keeps .., hout]

end Radio

/-! ### Outputs whose link is down (R289) -/

theorem State.outDown_advance (s : State) (dt k : Nat) : (s.advance dt).outDown k = s.outDown k := by
  have hhost : (s.advance dt).host = s.host := by simp only [State.advance_keeps ..]
  have hlink (p : Side) : (s.advance dt).link p = s.link p := by
    cases p <;> simp only [State.link, State.rd_advance]
  simp only [State.outDown, State.linkUp, State.har_advance, hhost, hlink, State.sbUp_advance]

/-- The head of queue `(k, c)` is given up. -/
def State.headLost (s : State) (k c : Nat) : State :=
  let q := s.outQ k c
  match q.frames with
  | [] => s
  | f :: rest => (s.setOutQ k c { q with frames := rest }).qDrop k f

theorem State.frames_headLost_self (s : State) (k c : Nat) : ((s.headLost k c).outQ k c).frames = ((s.outQ k c).frames).drop 1 := by
  unfold State.headLost
  extract_lets q
  split
  next h => simp [q] at h; rw [h]; rfl
  next f rest h =>
    have hq : (s.outQ k c).frames = f :: rest := h
    have hdrop (u : State) : (u.qDrop k f).outQ k c = u.outQ k c := by simp only [State.outQ, State.qDrop_keeps ..]
    rw [hdrop, State.outQ_setOutQ_self, hq]
    rfl

theorem State.outQ_headLost_ne (s : State) {k c d : Nat} (h : d ≠ c) : (s.headLost k c).outQ k d = s.outQ k d := by
  unfold State.headLost
  extract_lets q
  split
  · rfl
  next f rest _ =>
    have hdrop (u : State) : (u.qDrop k f).outQ k d = u.outQ k d := by simp only [State.outQ, State.qDrop_keeps ..]
    rw [hdrop, State.outQ_setOutQ, if_neg (by omega)]

/-- Of the listed classes each gives up its head once. -/
theorem State.frames_each_headLost {k c : Nat} {l : List Nat} (hn : l.Nodup) (hc : c ∈ l) (s : State) :
    ((s.each l (fun s c => s.headLost k c)).outQ k c).frames = ((s.outQ k c).frames).drop 1 := by
  have hskip : ∀ (l : List Nat) (u : State), c ∉ l → (u.each l (fun s c => s.headLost k c)).outQ k c = u.outQ k c := by
    intro l
    induction l with
    | nil => exact fun _ _ => rfl
    | cons x xs ih =>
      intro u hx
      obtain ⟨hne, hxs⟩ : c ≠ x ∧ c ∉ xs := by simpa using hx
      exact (ih (u.headLost k x) hxs).trans (u.outQ_headLost_ne hne)
  induction l generalizing s with
  | nil => cases hc
  | cons x xs ih =>
    obtain ⟨hx, hxs⟩ := List.nodup_cons.mp hn
    obtain rfl | hc := List.mem_cons.mp hc
    · exact (congrArg OutQ.frames (hskip xs (s.headLost k c) hx)).trans (s.frames_headLost_self k c)
    · have hne : c ≠ x := fun e => hx (e ▸ hc)
      exact (ih hxs hc (s.headLost k x)).trans (by rw [s.outQ_headLost_ne hne])

/-! ### Sticky spill (Table 10-6, R291) -/

/-- What is fetched is the front of the ring. -/
theorem takeCells_isPrefix (n : Nat) (l : List HFrame) : takeCells n l ++ l.drop (takeCells n l).length = l := by
  induction l generalizing n with
  | nil => simp [takeCells]
  | cons f rest ih =>
    cases rest with
    | nil => simp [takeCells]
    | cons g gs =>
      rw [takeCells]
      split_ifs
      · have := ih (n - f.cells)
        rw [List.length_cons, List.drop_succ_cons, List.cons_append, this]
      · rfl

theorem execSpillWriteDone_ok {h : Fin 12} {c : Fin 8} {f : HFrame} {rest : List HFrame} (hb : (s.outQ h c).buffer = f :: rest) (hu : s.sbUp = true) :
    execSpillWriteDone h c true s = .next (s.setOutQ h c { s.outQ h c with buffer := rest, ring := (s.outQ h c).ring ++ [f] }) := by
  rw [execSpillWriteDone, hb]
  exact congrArg Host.Outcome.next ((if_pos rfl).trans (if_pos hu))

theorem execSpillWriteDone_fails {h : Fin 12} {c : Fin 8} {f : HFrame} {rest : List HFrame} (hb : (s.outQ h c).buffer = f :: rest) :
    execSpillWriteDone h c false s = .next ((s.setOutQ h c { s.outQ h c with buffer := rest }).qDrop h f) := by
  rw [execSpillWriteDone, hb]
  rfl

theorem execSpillWriteDone_idle {h : Fin 12} {c : Fin 8} {ok : Bool} (hb : (s.outQ h c).buffer = []) : execSpillWriteDone h c ok s = .next s := by
  rw [execSpillWriteDone, hb]

/-- A queue after a fetch from its ring. -/
def OutQ.fetched (q : OutQ) : OutQ :=
  { q with frames := q.frames ++ takeCells 64 q.ring, ring := q.ring.drop (takeCells 64 q.ring).length,
           spilled := !((q.ring.drop (takeCells 64 q.ring).length).isEmpty && q.buffer.isEmpty) }

theorem OutQ.fetched_holds (q : OutQ) : q.fetched.frames ++ q.fetched.ring = q.frames ++ q.ring ∧ q.fetched.frames = q.frames ++ takeCells 64 q.ring ∧
    (q.fetched.spilled = true ↔ q.fetched.ring ≠ [] ∨ q.buffer ≠ []) := by
  refine ⟨?_, rfl, ?_⟩
  · rw [OutQ.fetched]
    dsimp only
    rw [List.append_assoc, takeCells_isPrefix]
  · rw [OutQ.fetched]
    dsimp only
    rw [Bool.not_eq_true', Bool.and_eq_false_iff, List.isEmpty_eq_false_iff, List.isEmpty_eq_false_iff]

theorem execSpillFetch_fetches {h : Fin 12} {c : Fin 8} (hs : (s.outQ h c).spilled = true) (hu : s.sbUp = true) (hc : (s.outQ h c).cells < 128)
    (hf : 4096 ≤ s.freeCells) : execSpillFetch h c s = .next (s.setOutQ h c (s.outQ h c).fetched) :=
  congrArg Host.Outcome.next (if_neg (by simp [hs, hu, hc, hf]))

theorem execSpillFetch_idle {h : Fin 12} {c : Fin 8}
    (hi : (s.outQ h c).spilled = false ∨ s.sbUp = false ∨ 128 ≤ (s.outQ h c).cells ∨ s.freeCells < 4096) : execSpillFetch h c s = .next s := by
  refine congrArg Host.Outcome.next (if_pos ?_)
  obtain hi | hi | hi | hi := hi <;> simp [hi]

/-! ### The obligation -/

/-- Settles O23. -/
theorem framesLeaveAndSpill : Obligations.FramesLeaveAndSpill := by
  unfold Obligations.FramesLeaveAndSpill
  refine ⟨fun c dt f rest s hu hf habove hcal hr => ?_, fun h c dt f u rest s hf habove ht hroom => ?_,
    fun h c a dt f rest s hf habove => ?_, fun h dt s hd => ?_, fun h s hd => ?_, fun h s hd => ?_, fun p up s => ?_,
    fun h c f rest s hb hu => ?_, fun h c f rest s hb => ?_, fun h c ok s hb => ?_, fun h c s hs hu hc hf => ?_, fun h c s hi => ?_⟩
  · have hout : (s.advance dt).out = s.out := s.out_advance dt
    have hcurb : (s.advance dt).onCalendar (80 + c) = false := by
      have : (s.advance dt).curb = s.curb := by simp only [State.advance_keeps ..]
      rw [State.onCalendar, this]
      exact hcal
    simp only [← State.outQ_advance s dt] at hf habove ⊢
    rw [exec_outputDequeue_eq, gives_next, ← hout, ← State.rd_advance s dt]
    exact State.dequeueGo_saddlebag c.isLt (by rw [State.sbUp_advance, hu]) hf habove hcurb (by rw [State.rd_advance, hr])
  · simp only [← State.outQ_advance s dt] at hf habove
    have hdl : (s.advance dt).dlRoom u = s.dlRoom u := by rw [State.dlRoom, State.dlRoom, State.rd_advance]
    rw [exec_outputDequeue_eq, gives_next, ← State.girth_advance s dt]
    exact State.dequeueGo_cast h.isLt c.isLt hf habove ht (by rw [hdl]; exact hroom)
  · simp only [← State.outQ_advance s dt] at hf habove
    rw [exec_outputDequeue_eq, gives_next, ← State.girth_advance s dt, ← State.out_advance s dt, ← State.rd_advance s dt]
    exact State.dequeueGo_bad h.isLt c.isLt hf habove a
  · rw [exec_outputDequeue_eq, gives_next, State.dequeueGo, if_pos (by rw [State.outDown_advance, hd])]
  · have hexec : execOutputLinkDownDiscard h s = .next (s.each (List.range 8) (fun s c => s.headLost h c)) :=
      congrArg Host.Outcome.next (if_neg (by simp [hd]))
    rw [exec_outputLinkDownDiscard, hexec, gives_next]
    exact fun c hc => State.frames_each_headLost List.nodup_range (List.mem_range.mpr hc) s
  · have hexec : execOutputLinkDownDiscard h s = .next s := congrArg Host.Outcome.next (if_pos (by simp [hd]))
    rw [exec_outputLinkDownDiscard, hexec, gives_next]
  · rw [exec_ethernetLinkChange, execEthernetLinkChange, gives_next]
    exact ⟨vmod_getD_self (fun _ => up) s.har.eth false p.isLt, fun q hq => vmod_getD_ne (fun _ => up) s.har.eth false hq, rfl⟩
  · rw [exec_spillWriteDone, execSpillWriteDone_ok hb hu, gives_next, State.outQ_setOutQ_self]
    exact ⟨rfl, rfl, rfl, rfl⟩
  · have hdrop (u : State) : (u.qDrop h f).outQ h c = u.outQ h c := by simp only [State.outQ, State.qDrop_keeps ..]
    have hrd (u : State) : (u.qDrop h f).rd (Key.qDrops (8 * h + f.cls)) = satAdd u32Max (u.rd (Key.qDrops (8 * h + f.cls))) 1 := by
      have hlost (v : State) (k : Nat) : (v.copyLost f).rd k = v.rd k := by simp only [State.rd, State.copyLost_keeps ..]
      rw [State.qDrop, hlost, State.rd_bump_self]
    rw [exec_spillWriteDone, execSpillWriteDone_fails hb, gives_next, hdrop, State.outQ_setOutQ_self, hrd]
    exact ⟨rfl, rfl, rfl⟩
  · rw [exec_spillWriteDone, execSpillWriteDone_idle hb, gives_next]
  · rw [exec_spillFetch, execSpillFetch_fetches hs hu hc hf, gives_next, State.outQ_setOutQ_self]
    exact OutQ.fetched_holds _
  · rw [exec_spillFetch, execSpillFetch_idle hi, gives_next]

end Sys2Proof.Machine

end

section
/-! ## O27: downlink queues of nodes, held frames and the journal (R8, R16, R315 to R318, R321) -/

namespace Sys2Proof.Machine

variable {s : State} {r dt : Nat} {f : NodeFrame} {rest : List NodeFrame}

/-! ### A frame for a node (R16, R315, R316) -/

/-- A report changes no number and no queue. -/
theorem State.reportFinal_leaves (s : State) (h : Option Nat) (x y : Nat) : (s.reportFinal h x y).dict = s.dict ∧ (s.reportFinal h x y).sb = s.sb := by
  simp only [State.reportFinal_keeps .., and_self]

theorem State.downlink_unknown (h : (s.nrec r).isFree = true) : (s.downlink r f).rd Key.dlUnknown = satAdd u32Max (s.rd Key.dlUnknown) 1 ∧
    (s.downlink r f).sb = s.sb := by
  have hdown : s.downlink r f = (s.bump Key.dlUnknown).reportFinal (if f.report then f.handle else none) 0 2 := if_pos (by simp [h])
  obtain ⟨hdict, hsb⟩ := (s.bump Key.dlUnknown).reportFinal_leaves (if f.report then f.handle else none) 0 2
  rw [hdown, State.rd_sameDict hdict, State.rd_bump_self, hsb]
  exact ⟨rfl, by simp only [State.bump_keeps ..]⟩

theorem State.downlink_known (hf : (s.nrec r).isFree = false) (hq : (s.nrec r).quarantined = false) : s.downlink r f = s.nodePush r f :=
  if_neg (by simp [hf, hq])

/-- A frame for an empty queue is cached as its head. -/
theorem State.nodePush_cached (hq : (s.nodeQ r).frames = []) (hw : (s.nodeQ r).welt = none) (hc : s.cacheFree = true)
    (hl : 0 < s.rd (Key.sqLimit 0)) (hn : 0 < s.nodeSlots) : ((s.nodePush r f).nodeQ r).frames = [{ f with cached := true }] ∧
      (s.nodePush r f).dict = s.dict := by
  have hclose : s.closeNodeWelt r = s := by rw [State.closeNodeWelt, hw]
  rw [State.nodePush, hq]
  dsimp only
  rw [if_neg (by simp [hc]; omega), hclose, State.nodeQ_setNodeQ_self, hq]
  exact ⟨by simp [hc], rfl⟩

/-- A full queue takes no frame. -/
theorem State.nodePush_full (h : min (s.rd (Key.sqLimit 0)) s.nodeSlots ≤ (s.nodeQ r).frames.length) :
    ((s.nodePush r f).nodeQ r).frames = (s.nodeQ r).frames ∧ (s.nodePush r f).rd Key.dlUndelivered = satAdd u32Max (s.rd Key.dlUndelivered) 1 := by
  have hpush : s.nodePush r f = s.nodeDrop r f := if_pos (by simp [h])
  rw [hpush]
  unfold State.nodeDrop
  extract_lets q u w
  have hu : u.rd Key.dlUndelivered = satAdd u32Max (s.rd Key.dlUndelivered) 1 := by
    rw [State.rd_bump_self, State.rd_bump_of_fam s 1 (by simp)]
  obtain ⟨hdict, hsb⟩ := (u.setNodeQ r { q with welt := some w }).reportFinal_leaves (if f.report then f.handle else none) 0 2
  refine ⟨?_, ?_⟩
  · rw [State.nodeQ, hsb, ← State.nodeQ, State.nodeQ_setNodeQ_self]
  · rw [State.rd_sameDict hdict]
    exact hu

/-! ### The head's read (R315, R318) -/

theorem State.undelivered_reads (s : State) (r : Nat) (f : NodeFrame) : (s.undelivered r f).nodeQ r = s.nodeQ r ∧
    (s.undelivered r f).rd Key.dlUndelivered = satAdd u32Max (s.rd Key.dlUndelivered) 1 := by
  refine ⟨by simp only [State.nodeQ, State.undelivered_keeps ..], ?_⟩
  obtain ⟨hdict, -⟩ := ((s.bump Key.dlUndelivered).girthPost .dlUndelivered (shortOf r) (f.dsn.getD 0)).reportFinal_leaves
    (if f.report then f.handle else none) f.lastReport 1
  rw [State.undelivered, State.rd_sameDict hdict, State.girthPost_rd (by decide), State.rd_bump_self]

theorem State.wordsRead_reads (s : State) (fails : List WordFail) : (s.wordsRead 0 fails).sb = s.sb ∧
    (s.wordsRead 0 fails).rd (Key.sqPoison 0) = satAdd u32Max (s.rd (Key.sqPoison 0)) (fails.map failItem).sum ∧
    ∀ k, k ≠ Key.sbMediaErr → k ≠ Key.sqPoison 0 → (s.wordsRead 0 fails).rd k = s.rd k := by
  refine ⟨by simp only [State.wordsRead_keeps ..], ?_, fun k hm hp => ?_⟩
  · rw [State.wordsRead, State.rd_bump_self, State.rd_bump_of_fam s _ (by simp)]
  · rw [State.wordsRead, State.rd_bump_ne _ _ hp, State.rd_bump_ne _ _ hm]

/-- A queue whose header failed is reset. -/
theorem State.resetNodeQ_holds (s : State) (r : Nat) : ((s.resetNodeQ r).nodeQ r).frames = [] ∧
    (s.resetNodeQ r).rd (Key.sqResets 0) = satAdd u32Max (s.rd (Key.sqResets 0)) 1 := by
  unfold State.resetNodeQ
  extract_lets q n u w v
  have hv : v.rd (Key.sqResets 0) = s.rd (Key.sqResets 0) := by
    have hu : u.rd (Key.sqResets 0) = s.rd (Key.sqResets 0) :=
      State.each_same (fun t : State => t.rd (Key.sqResets 0)) (fun t x => State.rd_sameDict (t.reportFinal_leaves ..).1 _) s q.frames
    exact hu
  refine ⟨?_, ?_⟩
  · have hkeep : (((((v.bump (Key.sqLost 0) n).bump Key.dlUndelivered n).bump (Key.sqResets 0))).sqPost .sqReset 0 n (shortOf r)).nodeQ r = v.nodeQ r := by
      simp only [State.nodeQ, State.sqPost_keeps .., State.bump_keeps ..]
    rw [hkeep, State.nodeQ_setNodeQ_self]
  · rw [State.sqPost_rd (by simp), State.rd_bump_self, State.rd_bump_of_fam _ _ (by simp), State.rd_bump_of_fam _ _ (by simp), hv]

/-- A cache entry is free for the head's read. -/
abbrev State.entryFree (s : State) (r : Nat) : Prop := (if (s.firedDl r).isSome then s.planFree else s.cacheFree) = true

/-- What a read of the head of queue `r` does, by the words that failed of its item. -/
theorem State.headRead_reads {fails : List WordFail} (hq : (s.nodeQ r).frames = f :: rest) (hc : f.cached = false) (he : s.entryFree r) :
    s.headRead r fails = if (meetItems [4] fails).any failHead then (s.wordsRead 0 (meetItems [4] fails)).resetNodeQ r
      else if (meetItems [4] fails).any (fun w => failItem w != 0) then
        (((s.wordsRead 0 (meetItems [4] fails)).nodePop r).undelivered r f).sqPost .dlPoisoned 0 (shortOf r)
      else (s.wordsRead 0 (meetItems [4] fails)).modHead r (fun f => { f with cached := true, reserved := (s.firedDl r).isSome }) := by
  rw [State.headRead, hq]
  exact if_neg (by simp [hc, he])

theorem State.nodeQ_wordsRead (s : State) (fails : List WordFail) : (s.wordsRead 0 fails).nodeQ r = s.nodeQ r := by
  rw [State.nodeQ, (s.wordsRead_reads fails).1, ← State.nodeQ]

/-- Without failed words the head is cached. -/
theorem State.headRead_caches (hq : (s.nodeQ r).frames = f :: rest) (hc : f.cached = false) (he : s.entryFree r) :
    ((s.headRead r []).nodeQ r).frames = { f with cached := true, reserved := (s.firedDl r).isSome } :: rest ∧
      s.SameNumbers (s.headRead r []) [Key.sbMediaErr, Key.sqPoison 0] := by
  obtain ⟨-, -, hrd⟩ := s.wordsRead_reads []
  have hread : s.headRead r [] = (s.wordsRead 0 []).modHead r (fun f => { f with cached := true, reserved := (s.firedDl r).isSome }) := by
    rw [State.headRead_reads hq hc he]
    rfl
  rw [hread]
  refine ⟨?_, fun k _ _ hk => ?_⟩
  · rw [State.modHead, State.nodeQ_setNodeQ_self, State.nodeQ_wordsRead, hq]
    rfl
  · have hdict : ((s.wordsRead 0 []).modHead r (fun f => { f with cached := true, reserved := (s.firedDl r).isSome })).dict =
        (s.wordsRead 0 []).dict := rfl
    rw [State.rd_sameDict hdict]
    exact hrd k (fun h => hk (by simp [h])) (fun h => hk (by simp [h]))

theorem meetItems_one {w : WordFail} (hi : w.item = 0) (hw : w.word < 4) : meetItems [4] [w] = [w] := by simp [meetItems, hi, hw]

/-- A failed data lane loses the head alone. -/
theorem State.headRead_poisoned {w : WordFail} (hq : (s.nodeQ r).frames = f :: rest) (hc : f.cached = false) (he : s.entryFree r)
    (hi : w.item = 0) (hw : w.word < 4) (hh : failHead w = false) (hn : failItem w ≠ 0) : ((s.headRead r [w]).nodeQ r).frames = rest ∧
      (s.headRead r [w]).rd (Key.sqPoison 0) = satAdd u32Max (s.rd (Key.sqPoison 0)) (failItem w) ∧
      (s.headRead r [w]).rd Key.dlUndelivered = satAdd u32Max (s.rd Key.dlUndelivered) 1 := by
  obtain ⟨-, hpoison, hrd⟩ := s.wordsRead_reads [w]
  obtain ⟨u, hu⟩ : ∃ u, u = (s.wordsRead 0 [w]).nodePop r := ⟨_, rfl⟩
  have hud : u.dict = (s.wordsRead 0 [w]).dict := by rw [hu]; rfl
  have huq : (u.nodeQ r).frames = rest := by rw [hu, State.nodePop, State.nodeQ_setNodeQ_self, State.nodeQ_wordsRead, hq]; rfl
  obtain ⟨hnq, hnu⟩ := u.undelivered_reads r f
  have hread : s.headRead r [w] = (u.undelivered r f).sqPost .dlPoisoned 0 (shortOf r) := by
    rw [State.headRead_reads hq hc he, meetItems_one hi hw, if_neg (by simp [hh]), if_pos (by simp [hn]), hu]
  have hkeep : ((u.undelivered r f).sqPost .dlPoisoned 0 (shortOf r)).nodeQ r = (u.undelivered r f).nodeQ r := by
    simp only [State.nodeQ, State.sqPost_keeps ..]
  rw [hread]
  refine ⟨by rw [hkeep, hnq, huq], ?_, ?_⟩
  · rw [State.sqPost_rd (by simp), State.undelivered_rd (by simp), State.rd_sameDict hud, hpoison]
    simp
  · rw [State.sqPost_rd (by decide), hnu, State.rd_sameDict hud, hrd _ (by decide) (by decide)]

/-- A failed header lane resets the queue. -/
theorem State.headRead_resets {w : WordFail} (hq : (s.nodeQ r).frames = f :: rest) (hc : f.cached = false) (he : s.entryFree r)
    (hi : w.item = 0) (hh : failHead w = true) : ((s.headRead r [w]).nodeQ r).frames = [] ∧
      (s.headRead r [w]).rd (Key.sqResets 0) = satAdd u32Max (s.rd (Key.sqResets 0)) 1 := by
  have hw : w.word < 4 := by
    have h0 : w.word = 0 := by
      rw [failHead, Bool.and_eq_true, beq_iff_eq] at hh
      exact hh.1
    omega
  obtain ⟨-, -, hrd⟩ := s.wordsRead_reads [w]
  obtain ⟨hframes, hresets⟩ := (s.wordsRead 0 [w]).resetNodeQ_holds r
  rw [State.headRead_reads hq hc he, meetItems_one hi hw, if_pos (by simp [hh])]
  exact ⟨hframes, by rw [hresets, hrd _ (by decide) (by decide)]⟩

/-! ### A head that is not read in time (R315) -/

/-- The timeout of a head's read at the present time. -/
def State.timeoutGo (s : State) (r : Nat) : State :=
  match s.firedDl r, (s.nodeQ r).frames with
  | some a, f :: _ =>
    if f.cached || decide (s.nowMs < s.planMs a + 1) then s
    else ((s.useCell r a false).cellMissed r).dlPlanned r a
  | _, _ => s

theorem exec_headReadTimeout_eq (r : Fin 16384) (dt : Nat) (s : State) : exec (.headReadTimeout r dt) s = .next ((s.advance dt).timeoutGo r) := rfl

theorem State.timeoutGo_misses {m a lvl : Nat} (hf : s.girth.sched.fired = [⟨m, .moved r a, lvl⟩]) (hq : (s.nodeQ r).frames = f :: rest)
    (hc : f.cached = false) (hm : s.planMs a + 1 ≤ s.nowMs) : (s.timeoutGo r).nodeQ r = s.nodeQ r ∧
      ((s.timeoutGo r).nrec r).hw.missed = ((s.nrec r).hw.missed + 1) % 2 ^ 32 ∧ (s.timeoutGo r).girth.sched.fired = [] ∧
      ∃ c, ((s.timeoutGo r).nrec r).cells = (s.nrec r).cells ++ [c] ∧ c.asn = a ∧ c.uplink = false := by
  obtain ⟨hsched, -, hsb, -, hhw, hcells⟩ := s.useCell_reads r a false
  obtain ⟨u, hu⟩ : ∃ u, u = (s.useCell r a false).cellMissed r := ⟨_, rfl⟩
  have hkeep : u.girth.sched = (s.useCell r a false).girth.sched ∧ u.nodeQ r = (s.useCell r a false).nodeQ r := by
    rw [hu]
    simp only [State.nodeQ, State.cellMissed_keeps .., and_self]
  have hrec : (u.nrec r).hw.missed = ((s.nrec r).hw.missed + 1) % 2 ^ 32 ∧ (u.nrec r).cells = ((s.useCell r a false).nrec r).cells := by
    have hbump (v : State) (k : Nat) : (v.bump k).nrec r = v.nrec r := by simp only [State.nrec, State.bump_keeps ..]
    rw [hu, State.cellMissed, State.nrec_modHw_self, hbump]
    exact ⟨by rw [hhw], rfl⟩
  have hgo : s.timeoutGo r = u.firedTaken := by
    rw [State.timeoutGo, State.firedDl_moved hf, hq]
    dsimp only
    rw [if_neg (by simp [hc]; omega), ← hu]
    exact State.dlPlanned_moved (by rw [hkeep.1, hsched, hf])
  obtain ⟨-, -, hrecs, -, hnone, -⟩ := u.firedTaken_reads
  have hnrec : u.firedTaken.nrec r = u.nrec r := by rw [State.nrec, State.nrec, hrecs]
  have hnode : u.firedTaken.nodeQ r = s.nodeQ r := by
    have : u.firedTaken.nodeQ r = u.nodeQ r := rfl
    rw [this, hkeep.2, State.nodeQ, State.nodeQ, hsb]
  rw [hgo, hnrec]
  exact ⟨hnode, hrec.1, hnone, _, hrec.2.trans hcells, rfl, rfl⟩

/-! ### The uplink hold (R317) -/

theorem execHoldDrain_empty (hh : (s.strap 4).head = []) (ht : (s.strap 4).tail = []) : execHoldDrain s = .next s := by
  have hpass : passToHead 65 (s.strap 4) = s.strap 4 := by
    rw [passToHead, ht]
    split_ifs <;> rfl
  have hpop : (s.strapPop 4).2 = none := by rw [State.strapPop, hpass, hh]
  rw [execHoldDrain, hpop]

/-- A held frame whose output has room leaves the hold for it. -/
theorem execHoldDrain_drains {i : StrapItem} {more : List StrapItem} {p : Side} (hh : (s.strap 4).head = i :: more)
    (hr : s.routeTo s.chain.topo.head = some p) (hk : i.kind = 0) (hp : i.poison = false)
    (hc : (s.outQ (harnessPort p) (fieldLe i.data 1 1 % 8)).cells < 128)
    (hfit : s.Fits (harnessPort p) (fieldLe i.data 1 1 % 8) (s.heldFrame i.data).cells) :
    execHoldDrain s = .next ((s.strapPop 4).1.drawn.queued (harnessPort p) (fieldLe i.data 1 1 % 8) (s.heldFrame i.data)) ∧
      s.QueuesAs (s.strapPop 4).1.drawn := by
  obtain ⟨htaken, -⟩ := State.strapPop_takes hh
  have hq : s.QueuesAs (s.strapPop 4).1.drawn := by
    have hkeep : (s.strapPop 4).1.har = s.har ∧ (s.strapPop 4).1.clock = s.clock ∧ (s.strapPop 4).1.rd Key.harAlphaK = s.rd Key.harAlphaK := by
      simp only [State.rd, State.strapPop_keeps .., and_self]
    obtain ⟨hhar, hclock, hrd⟩ := hkeep
    refine ⟨?_, hclock, hrd⟩
    rw [← hhar]
    exact ⟨rfl, rfl, rfl⟩
  have hadmit := State.admitOne_fits (s := (s.strapPop 4).1.drawn) (f := s.heldFrame i.data) (k := harnessPort p) (hfit.of_queuesAs hq)
  have hcls : (s.heldFrame i.data).cls = fieldLe i.data 1 1 % 8 := rfl
  refine ⟨?_, hq⟩
  rw [execHoldDrain, htaken]
  dsimp only
  rw [hr]
  dsimp only
  rw [if_neg (by rw [hcls]; omega), if_neg (by omega), if_neg (by simp [hp]), hadmit, if_pos rfl]
  rfl

/-! ### The journal (R321) -/

theorem length_sbWord (d : Bytes) : (sbWord d).length = 64 := by
  rw [sbWord, List.length_append, length_leBytes, length_slice]

theorem length_journalHeadBytes (eui oldest : Nat) : (journalHeadBytes eui oldest).length = 64 := by
  simp only [journalHeadBytes, List.length_append, length_leBytes, zeros, List.length_replicate]

/-- The journal `j` in place of the present one. -/
def State.journalSet (s : State) (j : Journal) : State := { s with sb := { s.sb with journal := j } }

theorem State.journalSet_reads (s : State) (j : Journal) : (s.journalSet j).sb.mem = s.sb.mem ∧ (s.journalSet j).sb.journal = j ∧
    (s.journalSet j).dict = s.dict := ⟨rfl, rfl, rfl⟩

/-- The journal without the record of number `n` in flight, when `room` records fit. -/
def Journal.landed (j : Journal) (n room : Nat) : Journal :=
  { j with flight := j.flight.filter (fun p => p.1 != n), oldest := max j.oldest (n + 1 - room) }

/-- The journal's record of number `n` is in its slot, and its flight is over. -/
def State.recordPut (s : State) (n : Nat) (r : JournalRec) : State :=
  (s.sbStore (s.journalSlot n) (r.word n)).journalSet (s.sb.journal.landed n (s.sbStore (s.journalSlot n) (r.word n)).journalRoom)

theorem State.recordPut_reads (s : State) (n : Nat) (r : JournalRec) :
    (s.recordPut n r).sb.mem = (s.sbStore (s.journalSlot n) (r.word n)).sb.mem ∧
    (s.recordPut n r).sb.journal.flight = s.sb.journal.flight.filter (fun p => p.1 != n) := by
  obtain ⟨hmem, hj, -⟩ := (s.sbStore (s.journalSlot n) (r.word n)).journalSet_reads
    (s.sb.journal.landed n (s.sbStore (s.journalSlot n) (r.word n)).journalRoom)
  rw [State.recordPut, hmem, hj]
  exact ⟨rfl, rfl⟩

/-- All records up to `top` are committed. -/
def State.seqNoted (s : State) (top : Nat) : State := s.wr Key.sbJournalSeq (max (s.rd Key.sbJournalSeq) top)

theorem State.journalCommit_commits {n : Nat} {x : JournalRec} (hf : s.sb.journal.flight.find? (fun p => p.1 == n) = some (n, x))
    (hr : s.journalRoom ≠ 0) : ∃ top, s.journalCommit n = (s.recordPut n x).seqNoted top := by
  rw [State.journalCommit, hf]
  dsimp only
  rw [if_neg hr, State.recordPut]
  generalize s.sbStore (s.journalSlot n) (x.word n) = u
  exact ⟨_, rfl⟩

theorem State.journalCommit_holds {n : Nat} {x : JournalRec} (hf : s.sb.journal.flight.find? (fun p => p.1 == n) = some (n, x))
    (hr : s.journalRoom ≠ 0) : (s.journalCommit n).sbBytes (s.journalSlot n) 64 = x.word n ∧
      (s.journalCommit n).sb.journal.flight = s.sb.journal.flight.filter (fun p => p.1 != n) ∧
      s.rd Key.sbJournalSeq ≤ (s.journalCommit n).rd Key.sbJournalSeq ∧
      ∀ a, (a < s.journalSlot n ∨ s.journalSlot n + 64 ≤ a) → (s.journalCommit n).sbBytes a 1 = s.sbBytes a 1 := by
  obtain ⟨top, hcommit⟩ := State.journalCommit_commits hf hr
  obtain ⟨hmem, hflight⟩ := s.recordPut_reads n x
  have hlen : (x.word n).length = 64 := length_sbWord _
  have hsb : ((s.recordPut n x).seqNoted top).sb = (s.recordPut n x).sb := by simp only [State.seqNoted, State.wr_keeps ..]
  have hrd : (s.recordPut n x).rd Key.sbJournalSeq = s.rd Key.sbJournalSeq := by
    have hdict : (s.recordPut n x).dict = (s.sbStore (s.journalSlot n) (x.word n)).dict := rfl
    rw [State.rd_sameDict hdict]
    simp only [State.rd, State.sbStore_keeps ..]
  have hbytes (a k : Nat) : ((s.recordPut n x).seqNoted top).sbBytes a k = (s.sbStore (s.journalSlot n) (x.word n)).sbBytes a k :=
    State.sbBytes_congr (by rw [hsb, hmem]) a k
  rw [hcommit]
  refine ⟨?_, by rw [hsb, hflight], ?_, fun a ha => ?_⟩
  · rw [hbytes, ← hlen, State.sbBytes_sbStore_self]
  · rw [State.seqNoted, State.rd_wr_self, hrd]
    exact Nat.le_max_left ..
  · rw [hbytes, State.sbBytes_sbStore_outside (by rwa [hlen])]

/-- The journal's header at the present time. -/
def State.headerGo (s : State) : State :=
  if s.sbUp ∧ s.sb.journal.running = true ∧ s.sb.journal.headerAt + ms 1000 ≤ s.elapsed then s.journalHeader else s

theorem exec_journalHeaderRewrite_eq (dt : Nat) (s : State) : exec (.journalHeaderRewrite dt) s = .next (s.advance dt).headerGo := rfl

theorem State.journalHeader_holds (s : State) : s.journalHeader.sbBytes s.journalBase 64 = journalHeadBytes s.ident.eui64 s.sb.journal.oldest ∧
    s.journalHeader.sb.journal.flight = s.sb.journal.flight := by
  obtain ⟨u, hu, hbase, hid, hold, hflight⟩ : ∃ u : State, s.journalHeader = u.sbStore u.journalBase (journalHeadBytes u.ident.eui64 u.sb.journal.oldest) ∧
      u.journalBase = s.journalBase ∧ u.ident = s.ident ∧ u.sb.journal.oldest = s.sb.journal.oldest ∧ u.sb.journal.flight = s.sb.journal.flight :=
    ⟨_, rfl, rfl, rfl, rfl, rfl⟩
  have hlen := length_journalHeadBytes u.ident.eui64 u.sb.journal.oldest
  have hbytes := u.sbBytes_sbStore_self u.journalBase (journalHeadBytes u.ident.eui64 u.sb.journal.oldest)
  rw [hlen] at hbytes
  refine ⟨?_, ?_⟩
  · rw [hu, ← hbase, hbytes, hid, hold]
  · rw [hu]
    exact hflight

/-! ### The obligation -/

theorem State.sb_advance (s : State) (dt : Nat) : (s.advance dt).sb = s.sb := by simp only [State.advance_keeps ..]

theorem State.planMs_advance (s : State) (dt a : Nat) : (s.advance dt).planMs a = s.planMs a := by
  rw [State.planMs, State.planMs, State.slotStart_advance]

/-- Settles O27. -/
theorem nodeQueuesAndJournal : Obligations.NodeQueuesAndJournal := by
  unfold Obligations.NodeQueuesAndJournal
  refine ⟨fun r f s hf => ?_, fun r f s hf hq hfr hw hc hl hn => ?_, fun r f s hf hq hfull => ?_, fun r f rest s hu hq hc he => ?_,
    fun r w f rest s hu hq hc he hi hw hh hn => ?_, fun r w f rest s hu hq hc he hi hh => ?_, fun r l s hu => ?_,
    fun r m lvl a f rest dt s hf hq hc hm => ?_, fun i rest p s hh hr hk hp hsp hc ha hfree => ?_, fun s hh _ ht => ?_,
    fun seq r s hu hf hr => ?_, fun dt s hu hrun hat => ?_, fun dt s hrun => ?_⟩
  · rw [exec_downlinkEnqueue, execDownlinkEnqueue, gives_next]
    exact State.downlink_unknown hf
  · rw [exec_downlinkEnqueue, execDownlinkEnqueue, gives_next, State.downlink_known hf hq]
    exact State.nodePush_cached hfr hw hc hl hn
  · rw [exec_downlinkEnqueue, execDownlinkEnqueue, gives_next, State.downlink_known hf hq]
    exact State.nodePush_full hfull
  · rw [exec_downlinkHeadRead, execDownlinkHeadRead, gives_next, if_pos hu]
    exact State.headRead_caches hq hc he
  · rw [exec_downlinkHeadRead, execDownlinkHeadRead, gives_next, if_pos hu]
    exact State.headRead_poisoned hq hc he hi hw hh hn
  · rw [exec_downlinkHeadRead, execDownlinkHeadRead, gives_next, if_pos hu]
    exact State.headRead_resets hq hc he hi hh
  · rw [exec_downlinkHeadRead, execDownlinkHeadRead, gives_next, if_neg (by simp [hu])]
  · rw [← State.girth_advance s dt] at hf
    rw [← State.planMs_advance s dt] at hm
    rw [← State.nodeQ_advance s dt] at hq
    rw [exec_headReadTimeout_eq, gives_next, ← State.nodeQ_advance s dt, ← State.nrec_advance s dt]
    exact State.timeoutGo_misses hf hq hc hm
  · have hfit : s.Fits (harnessPort p) (fieldLe i.data 1 1 % 8) (s.heldFrame i.data).cells := by
      have hcells : (s.heldFrame i.data).cells = cellsOf (fieldLe i.data 6 2) := congrArg cellsOf (length_slice ..)
      rw [hcells]
      exact ⟨hsp, ha, hfree⟩
    obtain ⟨hexec, hsame⟩ := execHoldDrain_drains hh hr hk hp hc hfit
    obtain ⟨-, hall⟩ := State.strapPop_takes hh
    obtain ⟨hframes, -⟩ := (s.strapPop 4).1.drawn.queued_reads (harnessPort p) (fieldLe i.data 1 1 % 8) (s.heldFrame i.data)
    rw [exec_holdDrain, hexec, gives_next, hframes, hsame.outQ]
    refine ⟨?_, _, rfl, rfl⟩
    rw [hh, List.cons_append, List.cons_append, ← hall]
    rfl
  · rw [exec_holdDrain, execHoldDrain_empty hh ht, gives_next]
  · rw [exec_journalRecordCommit, execJournalRecordCommit, gives_next, if_pos hu]
    exact State.journalCommit_holds hf hr
  · have hgo : (s.advance dt).headerGo = (s.advance dt).journalHeader := by
      rw [State.headerGo, if_pos ⟨by rw [State.sbUp_advance, hu], by rw [State.sb_advance, hrun], by rw [State.sb_advance]; exact hat⟩]
    have hbase : (s.advance dt).journalBase = s.journalBase := by
      rw [State.journalBase, State.journalBase, State.region, State.region, State.sb_advance]
    have hid : (s.advance dt).ident = s.ident := by simp only [State.advance_keeps ..]
    rw [exec_journalHeaderRewrite_eq, gives_next, hgo, ← hbase, ← hid, ← State.sb_advance s dt]
    exact (s.advance dt).journalHeader_holds
  · rw [exec_journalHeaderRewrite_eq, gives_next, State.headerGo, if_neg (by rw [State.sb_advance, hrun]; simp)]

end Sys2Proof.Machine

end

section
/-! ## O33: campaigns load, run, pause, stop and end (R398 to R401, Table 15-2) -/

namespace Sys2Proof.Machine

variable {s : State} {k r dt : Nat}

/-! ### States of a campaign (R398) -/

theorem State.campSt_setCampSt_self (s : State) (k x : Nat) : (s.setCampSt k x).campSt k = x := by
  have hactive : (s.setCampSt k x).campSt k = (s.wrEdge (Key.campState k) x (160 + k)).campSt k := State.rd_wr_of_fam _ _ (by simp)
  rw [hactive, State.campSt, State.rd_wrEdge_self]

theorem State.setCampSt_leaves (s : State) (k x : Nat) : (s.setCampSt k x).lacing = s.lacing ∧ (s.setCampSt k x).sb = s.sb ∧
    (s.setCampSt k x).har = s.har ∧ (s.setCampSt k x).dict.results = s.dict.results := by
  simp only [State.setCampSt_keeps .., and_self]

theorem State.campSt_setCamp (s : State) (j k : Nat) (c : Campaign) : (s.setCamp j c).campSt k = s.campSt k := rfl

theorem State.campSt_resEnd (s : State) (j c k : Nat) : (s.resEnd j c).campSt k = s.campSt k := State.rd_resEnd ..

/-- What the end of a run leaves. -/
theorem State.resEnd_leaves (s : State) (j c : Nat) : (s.resEnd j c).lacing = s.lacing ∧ (s.resEnd j c).sb = s.sb ∧ (s.resEnd j c).har = s.har := by
  simp only [State.resEnd_keeps .., and_self]

theorem State.camp_of_lacing {t : State} (h : t.lacing = s.lacing) (k : Nat) : t.camp k = s.camp k := by rw [State.camp, State.camp, h]

theorem State.res_of_results {t : State} (h : t.dict.results = s.dict.results) (k : Nat) : t.res k = s.res k := by rw [State.res, State.res, h]

/-- A campaign that fails is in state 5 and posts its failure. -/
theorem State.laceFail_holds {u : State} (h : u.sb.journal = s.sb.journal) (k code : Nat) : (u.laceFail k code).campSt k = 5 ∧
    Posted s (u.laceFail k code) .laceFailed (0x5110 + k) ∧ (u.laceFail k code).lacing = u.lacing ∧ (u.laceFail k code).har = u.har := by
  have hst : (u.laceFail k code).campSt k = (u.setCampSt k 5).campSt k := State.lacePost_rd (by simp)
  refine ⟨hst.trans (u.campSt_setCampSt_self k 5), Posted.of_post ?_ .., ?_, ?_⟩
  · rw [(u.setCampSt_leaves k 5).2.1, h]
  · simp only [State.laceFail_keeps ..]
  · simp only [State.laceFail_keeps ..]

/-- A campaign that is complete is in state 4 and posts it. -/
theorem State.laceDone_holds (s : State) (k : Nat) : (s.laceDone k).campSt k = 4 ∧ Posted s (s.laceDone k) .laceDone (0x5110 + k) := by
  have hst : (s.laceDone k).campSt k = (s.setCampSt k 4).campSt k := State.lacePost_rd (by simp)
  refine ⟨hst.trans (s.campSt_setCampSt_self k 4), Posted.of_post ?_ ..⟩
  rw [(s.setCampSt_leaves k 4).2.1]

theorem State.laceCount_leaves (s : State) (k : Nat) : (s.laceCount k).lacing = s.lacing ∧ (s.laceCount k).sb = s.sb ∧ (s.laceCount k).har = s.har ∧
    (s.laceCount k).dict.results = s.dict.results ∧ (s.laceCount k).campSt k = s.campSt k :=
  have hst : (s.laceCount k).campSt k = s.campSt k := State.laceCount_rd (by simp)
  have hkeep : (s.laceCount k).lacing = s.lacing ∧ (s.laceCount k).sb = s.sb ∧ (s.laceCount k).har = s.har ∧
      (s.laceCount k).dict.results = s.dict.results := by simp only [State.laceCount_keeps .., and_self]
  ⟨hkeep.1, hkeep.2.1, hkeep.2.2.1, hkeep.2.2.2, hst⟩

theorem State.rd_campPending_laceCount (s : State) (k : Nat) :
    (s.laceCount k).rd (Key.campPending k) = ((s.camp k).targets.filter (fun t => !t.done)).length := State.rd_wr_self ..

/-- A campaign that was never complete, or has a pending target, runs on. -/
theorem State.laceCheck_waits (h : (s.camp k).everDone = false ∨ ∃ u ∈ (s.camp k).targets, u.done = false) : s.laceCheck k = s.laceCount k := by
  have hcamp := State.camp_of_lacing (s.laceCount_leaves k).1 k
  refine if_neg ?_
  rw [hcamp, s.rd_campPending_laceCount k]
  rintro ⟨-, hzero, hdone⟩
  obtain h | ⟨u, hu, hpending⟩ := h
  · simp [h] at hdone
  · have hmem : u ∈ (s.camp k).targets.filter (fun t => !t.done) := List.mem_filter.mpr ⟨hu, by simp [hpending]⟩
    rw [List.length_eq_zero_iff.mp hzero] at hmem
    cases hmem

/-! ### Commands (R398) -/

section Commands
variable (h : s.cmdBlocked (Key.campRes k) = false)
include h

theorem State.campCmd_start : s.campCmd k 1 = s.campStart k := by rw [State.campCmd, if_neg (by simp [h]), if_pos rfl]

theorem State.campCmd_pause : s.campCmd k 2 = s.campPause k := by
  rw [State.campCmd, if_neg (by simp [h]), if_neg (by decide), if_pos rfl]

theorem State.campCmd_resume : s.campCmd k 3 = s.campResume k := by
  rw [State.campCmd, if_neg (by simp [h]), if_neg (by decide), if_neg (by decide), if_pos rfl]

theorem State.campCmd_stop : s.campCmd k 4 = s.campStop k := by
  rw [State.campCmd, if_neg (by simp [h]), if_neg (by decide), if_neg (by decide), if_neg (by decide), if_pos rfl]

end Commands

theorem State.campCmd_blocked (h : s.cmdBlocked (Key.campRes k) = true) (v : Nat) : s.campCmd k v = s := if_pos h

theorem State.campBad_holds (s : State) (k : Nat) : (s.campBad k).campSt k = s.campSt k ∧ ((s.campBad k).res (Key.campRes k)).outcome = 2 ∧
    ((s.campBad k).res (Key.campRes k)).code = 6 ∧ (s.campBad k).lacing = s.lacing := by
  rw [State.campBad, State.res_resEnd_self]
  exact ⟨s.campSt_resEnd .., rfl, rfl, (s.resEnd_leaves ..).1⟩

/-- A start empties the campaign and begins its run. -/
theorem State.campStart_starts (h : s.campSt k = 0 ∨ s.campSt k = 4 ∨ s.campSt k = 5) : (s.campStart k).campSt k = 1 ∧
    ((s.campStart k).res (Key.campRes k)).busy = true ∧ ((s.campStart k).camp k).started = s.elapsed ∧ ((s.campStart k).camp k).targets = [] := by
  obtain ⟨u, hu⟩ : ∃ u, u = (s.resBegin (Key.campRes k)).each ((s.resBegin (Key.campRes k)).camp k).planned
    (fun s f => s.release (f.req.granted.getD 0)) := ⟨_, rfl⟩
  have hbegin : (s.resBegin (Key.campRes k)).clock = s.clock := by simp only [State.resBegin_keeps ..]
  have hclock : u.clock = s.clock := by
    rw [hu, ← hbegin]
    exact State.each_same (fun t : State => t.clock) (fun t f => by simp only [State.release_keeps ..]) _ _
  have hresults : u.dict.results = (s.resBegin (Key.campRes k)).dict.results := by
    rw [hu]
    exact State.each_same (fun t : State => t.dict.results) (fun t f => by simp only [State.release_keeps ..]) _ _
  obtain ⟨c, hc, hst, hta⟩ : ∃ c : Campaign, s.campStart k = ((u.setCamp k c).laceCount k).setCampSt k 1 ∧ c.started = u.elapsed ∧ c.targets = [] := by
    rw [State.campStart, hu]
    exact ⟨_, if_pos h, rfl, rfl⟩
  obtain ⟨hclac, -, -, hcres, -⟩ := (u.setCamp k c).laceCount_leaves k
  obtain ⟨hslac, -, -, hsres⟩ := ((u.setCamp k c).laceCount k).setCampSt_leaves k 1
  have hres : (((u.setCamp k c).laceCount k).setCampSt k 1).res (Key.campRes k) = (s.resBegin (Key.campRes k)).res (Key.campRes k) :=
    State.res_of_results ((hsres.trans hcres).trans hresults) _
  rw [hc, State.campSt_setCampSt_self, hres, State.res_resBegin_self, State.camp_of_lacing (hslac.trans hclac), State.camp_setCamp_self]
  refine ⟨rfl, rfl, ?_, hta⟩
  rw [hst, State.elapsed, hclock, State.elapsed]

theorem State.campStart_bad (h : s.campSt k = 2 ∨ s.campSt k = 3) : s.campStart k = s.campBad k := by
  refine if_neg ?_
  rintro (h0 | h0 | h0) <;> obtain h | h := h <;> omega

/-- A pause stops the campaign and its count of failing reads. -/
theorem State.campPause_pauses (h : s.campSt k = 2) : (s.campPause k).campSt k = 3 ∧ ((s.campPause k).res (Key.campRes k)).outcome = 1 ∧
    (s.campPause k).camp k = { s.camp k with failing := none } ∧ ∀ j, j ≠ k → (s.campPause k).camp j = s.camp j := by
  have hpause : s.campPause k = ((s.setCamp k { s.camp k with failing := none }).setCampSt k 3).resEnd (Key.campRes k) 0 := if_pos h
  have hlac := ((s.setCamp k { s.camp k with failing := none }).setCampSt_leaves k 3).1
  rw [hpause, State.campSt_resEnd, State.campSt_setCampSt_self, State.res_resEnd_self]
  refine ⟨rfl, rfl, ?_, fun j hj => ?_⟩
  · rw [State.camp_of_lacing ((State.resEnd_leaves ..).1.trans hlac), State.camp_setCamp_self]
  · rw [State.camp_of_lacing ((State.resEnd_leaves ..).1.trans hlac), State.camp_setCamp, if_neg hj]

/-- A campaign with a pending target runs again from its next burst. -/
theorem State.campResume_resumes (h : s.campSt k = 3) (hp : (s.camp k).everDone = false ∨ ∃ u ∈ (s.camp k).targets, u.done = false) :
    (s.campResume k).campSt k = 2 ∧ ((s.campResume k).res (Key.campRes k)).outcome = 1 ∧
      ((s.campResume k).camp k).burst = s.nextBurst k s.freshAsn := by
  obtain ⟨u, hu⟩ : ∃ u, u = ((s.setCamp k { s.camp k with burst := s.nextBurst k s.freshAsn }).setCampSt k 2).resEnd (Key.campRes k) 0 := ⟨_, rfl⟩
  have hresume : s.campResume k = u.laceCheck k := by
    rw [State.campResume, if_pos h, hu]
  have hlac := ((s.setCamp k { s.camp k with burst := s.nextBurst k s.freshAsn }).setCampSt_leaves k 2).1
  have hcamp : u.camp k = { s.camp k with burst := s.nextBurst k s.freshAsn } := by
    rw [hu, State.camp_of_lacing ((State.resEnd_leaves ..).1.trans hlac), State.camp_setCamp_self]
  obtain ⟨hclac, -, -, hcres, hcst⟩ := u.laceCount_leaves k
  rw [hresume, State.laceCheck_waits (by rw [hcamp]; exact hp), hcst, State.res_of_results hcres, State.camp_of_lacing hclac, hcamp, hu,
    State.campSt_resEnd, State.campSt_setCampSt_self, State.res_resEnd_self]
  exact ⟨rfl, rfl, rfl⟩

/-- One frame to each record joins HP11's arrivals. -/
theorem State.each_laceSend (f : LaceTarget → Nat) (b : Bytes) (l : List LaceTarget) (s : State) :
    (s.each l (fun s t => s.laceSend k (f t) b)).har.arrivals.length = s.har.arrivals.length + l.length := by
  induction l generalizing s with
  | nil => rfl
  | cons x xs ih =>
    have hone : (s.laceSend k (f x) b).har.arrivals.length = s.har.arrivals.length + 1 := List.length_append
    have hcons : s.each (x :: xs) (fun s t => s.laceSend k (f t) b) = (s.laceSend k (f x) b).each xs (fun s t => s.laceSend k (f t) b) := rfl
    rw [hcons, ih, hone, List.length_cons]
    omega

/-- A stop cancels the campaign at its targets and fails it. -/
theorem State.campStop_stops (h : s.campSt k = 2 ∨ s.campSt k = 3) : (s.campStop k).campSt k = 5 ∧
    ((s.campStop k).res (Key.campRes k)).outcome = 1 ∧
    (s.campStop k).har.arrivals.length = s.har.arrivals.length + (s.camp k).targets.length ∧ Posted s (s.campStop k) .laceFailed (0x5110 + k) := by
  obtain ⟨v, hv⟩ : ∃ v, v = s.each (s.camp k).targets (fun u t => u.laceSend k t.record (laceHead 4 (s.camp k).tag)) := ⟨_, rfl⟩
  have hstop : s.campStop k = (v.laceFail k 9).resEnd (Key.campRes k) 0 := by
    rw [State.campStop, if_pos h, hv]
  have hj : v.sb.journal = s.sb.journal := by
    rw [hv]
    exact State.each_same (fun t : State => t.sb.journal) (f := fun u (t : LaceTarget) => u.laceSend k t.record (laceHead 4 (s.camp k).tag)) (fun t x => rfl) _ _
  have hlen : v.har.arrivals.length = s.har.arrivals.length + (s.camp k).targets.length := by rw [hv, State.each_laceSend]
  obtain ⟨hst, hpost, -, hhar⟩ := State.laceFail_holds hj k 9
  obtain ⟨-, hsb, hhar'⟩ := (v.laceFail k 9).resEnd_leaves (Key.campRes k) 0
  rw [hstop, State.campSt_resEnd, hst, State.res_resEnd_self, hhar', hhar, hlen]
  exact ⟨rfl, rfl, rfl, hpost.journal_eq (by rw [hsb])⟩

/-! ### Announcements (R401) -/

/-- Campaign `c` with the targets `l`. -/
def Campaign.aimed (c : Campaign) (l : List LaceTarget) : Campaign := { c with targets := l }

/-- An announcement to a target sends one frame, and changes of the campaign only what its targets last heard. -/
theorem State.announce_hit (h : ∃ u ∈ (s.camp k).targets, u.record = r) : (s.announce k r).dict = s.dict ∧
    (∃ a, (s.announce k r).har.arrivals = s.har.arrivals ++ [a] ∧ a.h = 11 ∧ a.info = .lacing k (shortOf r)) ∧
    ∃ l, (s.announce k r).camp k = (s.camp k).aimed l ∧ l.map (·.record) = (s.camp k).targets.map (·.record) := by
  obtain ⟨u, hu, hur⟩ := h
  have hfind : ∃ v, (s.camp k).targets.find? (fun t => t.record == r) = some v :=
    Option.isSome_iff_exists.mp (List.find?_isSome.mpr ⟨u, hu, by simp [hur]⟩)
  obtain ⟨v, hv⟩ := hfind
  obtain ⟨l, b, hl, hann⟩ : ∃ l b, l = (s.camp k).targets.map (fun u => if u.record = r then { u with heardAt := s.elapsed } else u) ∧
      s.announce k r = (s.setCamp k ((s.camp k).aimed l)).laceSend k r b := by
    rw [State.announce, hv]
    exact ⟨_, _, rfl, rfl⟩
  have hsend (w : State) : (w.laceSend k r b).camp k = w.camp k := rfl
  rw [hann, hsend, State.camp_setCamp_self]
  refine ⟨rfl, ⟨_, rfl, rfl, rfl⟩, l, rfl, ?_⟩
  rw [hl, List.map_map]
  refine List.map_congr_left fun u _ => ?_
  simp only [Function.comp_apply]
  split_ifs <;> rfl

/-- Announcements to records among the targets. -/
theorem State.each_announce (l : List Nat) (s : State) (h : ∀ r ∈ l, r ∈ (s.camp k).targets.map (·.record)) :
    (s.each l (fun s r => s.announce k r)).dict = s.dict ∧
    (s.each l (fun s r => s.announce k r)).har.arrivals.length = s.har.arrivals.length + l.length ∧
    ∃ m, (s.each l (fun s r => s.announce k r)).camp k = (s.camp k).aimed m ∧ m.map (·.record) = (s.camp k).targets.map (·.record) := by
  induction l generalizing s with
  | nil => exact ⟨rfl, rfl, _, rfl, rfl⟩
  | cons x xs ih =>
    have hx : ∃ u ∈ (s.camp k).targets, u.record = x := by simpa using h x (.head _)
    obtain ⟨hdict, ⟨a, harr, -, -⟩, m, hm, hrec⟩ := State.announce_hit hx
    have htargets : ((s.announce k x).camp k).targets.map (·.record) = (s.camp k).targets.map (·.record) := by
      rw [hm]
      exact hrec
    have hxs : ∀ r ∈ xs, r ∈ ((s.announce k x).camp k).targets.map (·.record) := fun r hr => by
      rw [htargets]
      exact h r (.tail _ hr)
    obtain ⟨hdict', hlen, m', hm', hrec'⟩ := ih (s.announce k x) hxs
    have hcons : s.each (x :: xs) (fun s r => s.announce k r) = (s.announce k x).each xs (fun s r => s.announce k r) := rfl
    rw [hcons]
    refine ⟨hdict'.trans hdict, ?_, m', ?_, hrec'.trans htargets⟩
    · rw [hlen, harr, List.length_append, List.length_cons, List.length_cons, List.length_nil]
      omega
    · rw [hm', hm]
      rfl

/-- The announcement that is due at the present time. -/
def State.resendGo (s : State) (k r : Nat) : State :=
  let c := s.camp k
  if s.campSt k ≠ 2 then s
  else match c.targets.find? (fun t => t.record == r) with
    | some t => if !t.done && decide (t.heardAt + ms (1000 * c.announceS) ≤ s.elapsed) then s.announce k r else s
    | none => s

theorem exec_announceResend_eq (k : Fin 16) (r : Fin 16384) (dt : Nat) (s : State) :
    exec (.announceResend k r dt) s = .next ((s.advance dt).resendGo k r) := rfl

theorem State.resendGo_sends {u : LaceTarget} (h : s.campSt k = 2) (hu : (s.camp k).targets.find? (fun x => x.record == r) = some u)
    (hd : u.done = false) (ha : u.heardAt + ms (1000 * (s.camp k).announceS) ≤ s.elapsed) :
    ∃ a, (s.resendGo k r).har.arrivals = s.har.arrivals ++ [a] ∧ a.h = 11 ∧ a.info = .lacing k (shortOf r) := by
  have hgo : s.resendGo k r = s.announce k r := by
    rw [State.resendGo, if_neg (by simp [h]), hu]
    exact if_pos (by simp [hd, ha])
  have hrec : u.record = r := by simpa using List.find?_some hu
  rw [hgo]
  exact (State.announce_hit ⟨u, List.mem_of_find?_eq_some hu, hrec⟩).2.1

/-! ### The deadline (R398) -/

/-- The campaign's deadline at the present time. -/
def State.deadlineGo (s : State) (k : Nat) : State :=
  let c := s.camp k
  if (s.campSt k = 2 ∨ s.campSt k = 3) ∧ c.running + ms (1000 * c.deadlineS) ≤ s.elapsed then
    if s.rd (Key.campPending k) = 0 then s.laceDone k else s.laceFail k 8
  else s

theorem exec_campDeadline_eq (k : Fin 16) (dt : Nat) (s : State) : exec (.campDeadline k dt) s = .next ((s.advance dt).deadlineGo k) := rfl

theorem State.deadlineGo_ends (h : s.campSt k = 2 ∨ s.campSt k = 3) (ht : (s.camp k).running + ms (1000 * (s.camp k).deadlineS) ≤ s.elapsed) :
    s.deadlineGo k = if s.rd (Key.campPending k) = 0 then s.laceDone k else s.laceFail k 8 := if_pos ⟨h, ht⟩

/-! ### Loading (R399, R400) -/

/-- The records that the list of campaign `k` names on this device. -/
def State.foundRecords (s : State) (k : Nat) : List Nat :=
  (euiList (s.targetBytes k)).filterMap (fun e => s.ownedRecord (s.rd (Key.campTenant k)) e)

/-- Of those the native ones. -/
def State.ownedRecords (s : State) (k : Nat) : List Nat := (s.foundRecords k).filter (fun r => !(s.nrec r).compat)

/-- The campaign as its load sets it up, before its first burst is placed. -/
def State.loadedCamp (s : State) (k : Nat) (region : Bytes) (owned : List Nat) : Campaign :=
  let image := region.drop 64
  let z := blocksOf (s.rd (Key.campImageBytes k))
  let targets := owned.map (fun r =>
    ({ record := r, eui := (s.nrec r).eui, done := false, noStorage := false, heardAt := s.elapsed } : LaceTarget))
  let modes := (owned.map (fun r => (s.nrec r).mode)).eraseDups
  let desc := region.take 64
  { s.camp k with desc := desc, crc := Crypto.crc32c image, blockCrc := (List.range z).map (fun i => Crypto.crc32c (blockOf image i)),
                  running := s.elapsed, deadline := s.clock.sec + fieldLe desc 20 4, targets := targets,
                  streams := modes.map (fun m => laceStream m true z) }

/-- Campaign `c` with its next burst at `b`. -/
def Campaign.burstAt (c : Campaign) (b : Nat) : Campaign := { c with burst := b }

/-- The campaign `c` is loaded: it runs from its first burst, and its run has ended. -/
def State.campLoaded (s : State) (k : Nat) (c : Campaign) : State :=
  let s := (s.setCamp k c).laceCount k
  let s := s.setCamp k (c.burstAt (s.nextBurst k s.freshAsn))
  (s.setCampSt k 2).resEnd (Key.campRes k) 0

/-- The load at the present time. -/
def State.loadGo (s : State) (k : Nat) (got : Bytes) (bad : Option Nat) : State :=
  if s.campSt k ≠ 1 then s
  else
    match s.loadCheck k (s.imageRegion k got bad) (s.ownedRecords k) with
    | some c => (s.setCampSt k 5).resEnd (Key.campRes k) c
    | none =>
      if s.targetsBad k then (s.laceFail k 7).resEnd (Key.campRes k) 2
      else
        let u := s.campLoaded k (s.loadedCamp k (s.imageRegion k got bad) (s.ownedRecords k))
        let old := (s.foundRecords k).length - (s.ownedRecords k).length
        (if old = 0 then u else u.lacePost .laceCompatTarget k old).each (s.ownedRecords k) (fun s r => s.announce k r)

theorem exec_campLoadDone_eq (k : Fin 16) (got : Bytes) (bad : Option Nat) (dt : Nat) (s : State) :
    exec (.campLoadDone k got bad dt) s = .next ((s.advance dt).loadGo k got bad) := rfl

variable {got : Bytes} {bad : Option Nat}

theorem State.loadGo_idle (h : s.campSt k ≠ 1) : s.loadGo k got bad = s := if_pos h

theorem State.loadCheck_noStore (h : s.targetStore = none) (region : Bytes) (owned : List Nat) : s.loadCheck k region owned = some 5 := by
  have hnone : s.targetStore.isNone = true := by rw [h]; rfl
  exact if_pos hnone

/-- Without a target store the load fails with code 5. -/
theorem State.loadGo_noStore (h1 : s.campSt k = 1) (h : s.targetStore = none) : (s.loadGo k got bad).campSt k = 5 ∧
    ((s.loadGo k got bad).res (Key.campRes k)).outcome = 2 ∧ ((s.loadGo k got bad).res (Key.campRes k)).code = 5 ∧
    (s.loadGo k got bad).lacing = s.lacing := by
  have hgo : s.loadGo k got bad = (s.setCampSt k 5).resEnd (Key.campRes k) 5 := by
    rw [State.loadGo, if_neg (by simp [h1]), State.loadCheck_noStore h]
  rw [hgo, State.campSt_resEnd, State.campSt_setCampSt_self, State.res_resEnd_self]
  exact ⟨rfl, rfl, rfl, (State.resEnd_leaves ..).1.trans (s.setCampSt_leaves k 5).1⟩

/-- A list that reads wrong fails the load with code 2. -/
theorem State.loadGo_badList (h1 : s.campSt k = 1) (hc : s.loadCheck k (s.imageRegion k got bad) (s.ownedRecords k) = none)
    (hb : s.targetsBad k = true) : (s.loadGo k got bad).campSt k = 5 ∧ ((s.loadGo k got bad).res (Key.campRes k)).code = 2 ∧
      Posted s (s.loadGo k got bad) .laceFailed (0x5110 + k) := by
  have hgo : s.loadGo k got bad = (s.laceFail k 7).resEnd (Key.campRes k) 2 := by
    rw [State.loadGo, if_neg (by simp [h1]), hc]
    exact if_pos hb
  obtain ⟨hst, hpost, -, -⟩ := State.laceFail_holds (s := s) (u := s) rfl k 7
  rw [hgo, State.campSt_resEnd, hst, State.res_resEnd_self]
  exact ⟨rfl, rfl, hpost.journal_eq (by rw [(State.resEnd_leaves ..).2.1])⟩

theorem State.campLoaded_holds (s : State) (k : Nat) (c : Campaign) : (s.campLoaded k c).campSt k = 2 ∧
    ((s.campLoaded k c).res (Key.campRes k)).outcome = 1 ∧ (∃ b, (s.campLoaded k c).camp k = c.burstAt b) ∧
    (s.campLoaded k c).har = s.har := by
  unfold State.campLoaded
  extract_lets u v
  obtain ⟨hlac, -, hhar, -⟩ := v.setCampSt_leaves k 2
  obtain ⟨hlac', -, hhar'⟩ := (v.setCampSt k 2).resEnd_leaves (Key.campRes k) 0
  have hu : u.har = s.har := ((s.setCamp k c).laceCount_leaves k).2.2.1
  rw [State.campSt_resEnd, State.campSt_setCampSt_self, State.res_resEnd_self, State.camp_of_lacing (hlac'.trans hlac), State.camp_setCamp_self]
  exact ⟨rfl, rfl, ⟨_, rfl⟩, hhar'.trans (hhar.trans hu)⟩

/-- A load whose checks pass runs the campaign with the owned targets and announces it to each. -/
theorem State.loadGo_runs (h1 : s.campSt k = 1) (hc : s.loadCheck k (s.imageRegion k got bad) (s.ownedRecords k) = none)
    (hb : s.targetsBad k = false) : (s.loadGo k got bad).campSt k = 2 ∧ ((s.loadGo k got bad).res (Key.campRes k)).outcome = 1 ∧
      ((s.loadGo k got bad).camp k).crc = Crypto.crc32c ((s.imageRegion k got bad).drop 64) ∧
      ((s.loadGo k got bad).camp k).targets.map (·.record) = s.ownedRecords k ∧
      ((s.loadGo k got bad).camp k).deadline = s.clock.sec + fieldLe ((s.imageRegion k got bad).take 64) 20 4 ∧
      (s.loadGo k got bad).har.arrivals.length = s.har.arrivals.length + (s.ownedRecords k).length := by
  obtain ⟨u, hu⟩ : ∃ u, u = s.campLoaded k (s.loadedCamp k (s.imageRegion k got bad) (s.ownedRecords k)) := ⟨_, rfl⟩
  obtain ⟨v, hv⟩ : ∃ v, v = if (s.foundRecords k).length - (s.ownedRecords k).length = 0 then u
      else u.lacePost .laceCompatTarget k ((s.foundRecords k).length - (s.ownedRecords k).length) := ⟨_, rfl⟩
  have hgo : s.loadGo k got bad = v.each (s.ownedRecords k) (fun s r => s.announce k r) := by
    rw [State.loadGo, if_neg (by simp [h1]), hc, hv, hu]
    exact if_neg (by simp [hb])
  have hvu : v.campSt k = u.campSt k ∧ v.lacing = u.lacing ∧ v.har = u.har ∧ v.dict.results = u.dict.results := by
    rw [hv]
    split_ifs
    · exact ⟨rfl, rfl, rfl, rfl⟩
    · refine ⟨State.lacePost_rd (by simp), ?_⟩
      simp only [State.lacePost_keeps .., and_self]
  obtain ⟨hvst, hvlac, hvhar, hvres⟩ := hvu
  obtain ⟨hst, hout, ⟨b, hcamp⟩, hhar⟩ := s.campLoaded_holds k (s.loadedCamp k (s.imageRegion k got bad) (s.ownedRecords k))
  rw [← hu] at hst hout hcamp hhar
  have hvcamp := (State.camp_of_lacing hvlac k).trans hcamp
  have hrecords : (v.camp k).targets.map (·.record) = s.ownedRecords k := by
    rw [hvcamp]
    simp [Campaign.burstAt, State.loadedCamp, Function.comp_def]
  obtain ⟨hdict, hlen, m, hm, hrec⟩ := v.each_announce (k := k) (s.ownedRecords k) (fun r hr => by rw [hrecords]; exact hr)
  rw [hgo, State.campSt, State.rd_sameDict hdict, State.res_of_results (congrArg Dictionary.results hdict), State.res_of_results hvres, hlen, hvhar,
    hhar, hm]
  refine ⟨hvst.trans hst, hout, ?_, hrec.trans hrecords, ?_, rfl⟩
  · rw [hvcamp]
    rfl
  · rw [hvcamp]
    rfl

/-! ### What the advance of time leaves of a load -/

theorem State.lacing_advance (s : State) (dt : Nat) : (s.advance dt).lacing = s.lacing := by simp only [State.advance_keeps ..]

theorem State.camp_advance (s : State) (dt k : Nat) : (s.advance dt).camp k = s.camp k := State.camp_of_lacing (s.lacing_advance dt) k

theorem State.targetStore_advance (s : State) (dt : Nat) : (s.advance dt).targetStore = s.targetStore := by
  simp only [State.targetStore, State.sb_advance, State.sbUp_advance]

theorem State.targetBytes_advance (s : State) (dt k : Nat) : (s.advance dt).targetBytes k = s.targetBytes k := by
  have hbytes (o n : Nat) : (s.advance dt).sbBytes o n = s.sbBytes o n := State.sbBytes_congr (by rw [State.sb_advance]) o n
  simp only [State.targetBytes, State.targetStore_advance, State.lacing_advance, hbytes]

theorem State.targetsBad_advance (s : State) (dt k : Nat) : (s.advance dt).targetsBad k = s.targetsBad k := by
  simp only [State.targetsBad, State.targetStore_advance, State.lacing_advance, State.targetBytes_advance]

theorem State.ownedRecord_advance (s : State) (dt t eui : Nat) : (s.advance dt).ownedRecord t eui = s.ownedRecord t eui := by
  have ht : (s.advance dt).tables = s.tables := by simp only [State.advance_keeps ..]
  simp only [State.ownedRecord, State.halterFind, State.overflowWay, State.addr, ht, State.rd_advance, State.nrec_advance]

theorem State.ownedRecords_advance (s : State) (dt k : Nat) : (s.advance dt).ownedRecords k =
    ((euiList (s.targetBytes k)).filterMap (fun e => s.ownedRecord (s.rd (Key.campTenant k)) e)).filter (fun r => !(s.nrec r).compat) := by
  simp only [State.ownedRecords, State.foundRecords, State.targetBytes_advance, State.ownedRecord_advance, State.rd_advance, State.nrec_advance]

/-! ### The obligation -/

/-- Settles O33. -/
theorem campaignStates : Obligations.CampaignStates := by
  unfold Obligations.CampaignStates
  refine ⟨fun k s h hst => ?_, fun k s h hst => ?_, fun k s h hst => ?_, fun k s h hst hp => ?_, fun k s h hst => ?_, fun k s h => ?_,
    fun k got bad dt s h => ?_, fun k got bad dt s h h5 => ?_, fun k got bad dt region owned s h hreg hown hc hb => ?_,
    fun k got bad dt region owned s h hreg hown hc hb => ?_, fun k r dt u s h hu hd ha => ?_, fun k r dt s h => ?_,
    fun k dt s h ht hp => ?_, fun k dt s h ht hp => ?_⟩
  · rw [exec_campStart, execCampStart, gives_next, State.campCmd_start h]
    exact State.campStart_starts hst
  · rw [exec_campStart, execCampStart, gives_next, State.campCmd_start h, State.campStart_bad hst]
    exact s.campBad_holds k
  · rw [exec_campPause, execCampPause, gives_next, State.campCmd_pause h]
    exact State.campPause_pauses hst
  · rw [exec_campResume, execCampResume, gives_next, State.campCmd_resume h]
    exact State.campResume_resumes hst hp
  · rw [exec_campStop, execCampStop, gives_next, State.campCmd_stop h]
    exact State.campStop_stops hst
  · have hsame (v : Nat) := State.campCmd_blocked h v
    rw [exec_campStart, exec_campPause, exec_campResume, exec_campStop, execCampStart, execCampPause, execCampResume, execCampStop, gives_next,
      gives_next, gives_next, gives_next]
    exact ⟨hsame 1, hsame 2, hsame 3, hsame 4⟩
  · rw [State.campSt, ← State.rd_advance s dt] at h
    rw [exec_campLoadDone_eq, gives_next, State.loadGo_idle h]
  · rw [State.campSt, ← State.rd_advance s dt] at h
    rw [exec_campLoadDone_eq, gives_next, ← State.lacing_advance s dt]
    exact State.loadGo_noStore h (by rw [State.targetStore_advance, h5])
  · rw [State.campSt, ← State.rd_advance s dt] at h
    rw [← State.ownedRecords_advance s dt] at hown
    subst hreg hown
    rw [exec_campLoadDone_eq, gives_next, ← State.har_advance s dt]
    exact State.loadGo_runs h hc (by rw [State.targetsBad_advance, hb])
  · rw [State.campSt, ← State.rd_advance s dt] at h
    rw [← State.ownedRecords_advance s dt] at hown
    subst hreg hown
    rw [exec_campLoadDone_eq, gives_next]
    exact State.loadGo_badList h hc (by rw [State.targetsBad_advance, hb])
  · rw [State.campSt, ← State.rd_advance s dt] at h
    rw [← State.camp_advance s dt] at hu ha
    rw [exec_announceResend_eq, gives_next, ← State.har_advance s dt]
    exact State.resendGo_sends h hu hd ha
  · rw [State.campSt, ← State.rd_advance s dt] at h
    rw [exec_announceResend_eq, gives_next, State.resendGo, if_pos h]
  · rw [State.campSt, ← State.rd_advance s dt] at h
    rw [← State.camp_advance s dt] at ht
    rw [← State.rd_advance s dt] at hp
    obtain ⟨hst, hpost, -, -⟩ := State.laceFail_holds (s := s.advance dt) (u := s.advance dt) rfl k 8
    rw [exec_campDeadline_eq, gives_next, State.deadlineGo_ends h ht, if_neg hp]
    exact ⟨hst, hpost⟩
  · rw [State.campSt, ← State.rd_advance s dt] at h
    rw [← State.camp_advance s dt] at ht
    rw [← State.rd_advance s dt] at hp
    rw [exec_campDeadline_eq, gives_next, State.deadlineGo_ends h ht, if_pos hp]
    exact (s.advance dt).laceDone_holds k

end Sys2Proof.Machine

end

section
/-! ## O34: bursts are planned from the image (R250, R407 to R412) -/

namespace Sys2Proof.Machine

variable {s t : State} {k dt : Nat}

/-! ### The symbols of a burst (R409, R411) -/

theorem mode_fillRepair (low n : Nat) (t : LaceStream) (l : List (Nat × Nat)) : (fillRepair low n t l).stream.mode = t.mode := by
  induction n generalizing t l with
  | zero => rfl
  | succ n ih =>
    rw [fillRepair]
    split
    · exact ih ..
    · rfl

/-- A burst's contents are those of its stream's mode. -/
theorem mode_laceFill (low z n : Nat) (t : LaceStream) : (laceFill low z n t).stream.mode = t.mode := by
  have hended (l : List Nat) (u : LaceStream) :
      (l.foldl (fun t y => t.setBlock y { t.block y with ended := true }) u).mode = u.mode := by
    induction l generalizing u with
    | nil => rfl
    | cons x xs ih => exact ih _
  exact (hended ..).trans (mode_fillRepair ..)

/-- The contents of the burst of stream `x` of campaign `k` on a channel. -/
def State.fillOf (s : State) (k : Nat) (x : LaceStream) (freq p : Nat) : LaceFill :=
  laceFill (64 + 1000 * (s.camp k).a) (blocksOf (s.rd (Key.campImageBytes k)))
    (s.burstFrames (s.camp k) (frameUs x.mode (s.symbolOctets (s.rd (Key.campTenant k)))) (s.burstGap p freq)) x

theorem State.symbolOctets_sameDict (hd : t.dict = s.dict) (j : Nat) : t.symbolOctets j = s.symbolOctets j := State.draftLen_sameDict hd ..

theorem State.fillOf_same (hd : t.dict = s.dict) (hf : t.fuses = s.fuses) (ha : (t.camp k).a = (s.camp k).a)
    (hs : (t.camp k).slots = (s.camp k).slots) (x : LaceStream) (freq p : Nat) : t.fillOf k x freq p = s.fillOf k x freq p := by
  have hgap : t.burstGap p freq = s.burstGap p freq := by rw [State.burstGap, State.burstGap, State.subOf_sameDict hd hf]
  simp only [State.fillOf, State.burstFrames, ha, hs, hgap, State.symbolOctets_sameDict hd, State.rd_sameDict hd]

/-! ### Campaigns in which a stream changes -/

/-- Campaign `c` with the stream of a mode replaced. -/
def Campaign.streamed (c : Campaign) (mode : Nat) (f : LaceStream → LaceStream) : Campaign :=
  { c with streams := c.streams.map (fun x => if x.mode = mode then f x else x) }

theorem State.modStream_eq (s : State) (k mode : Nat) (f : LaceStream → LaceStream) :
    s.modStream k mode f = s.setCamp k ((s.camp k).streamed mode f) := rfl

theorem Campaign.streamed_one {c : Campaign} {x : LaceStream} {m : Nat} (h : c.streams = [x]) (hm : x.mode = m) (f : LaceStream → LaceStream) :
    (c.streamed m f).streams = [f x] := by
  rw [Campaign.streamed, h, ← hm]
  simp

/-- Campaign `c` with its count of failing reads. -/
def Campaign.failingAt (c : Campaign) (a : Option Nat) : Campaign := { c with failing := a }

/-! ### What filling a burst leaves -/

/-- `t` differs from `s` in logs, the journal and `LACE_REPAIRS`, and in its campaigns. -/
structure State.NotedFrom (s t : State) : Prop where
  rd : ∀ j, Nums2.contains (Key.fam j) = false → Key.fam j ≠ 0x510002 → t.rd j = s.rd j
  dom : ∀ j, t.dom j = s.dom j
  clock : t.clock = s.clock
  girth : t.girth = s.girth

/-- The stream as its burst leaves it, with the blocks whose indices ended posted and the repair symbols counted. -/
def State.streamFilled (s : State) (k : Nat) (x : LaceStream) (fill : LaceFill) : State :=
  let s := s.modStream k x.mode (fun _ => fill.stream)
  let s := s.each fill.ended (fun s z => s.lacePost .laceEsiEnd k z x.mode)
  s.bump Key.laceRepairs (fill.symbols.filter (fun p => decide (64 ≤ p.2) && !(x.again.contains p))).length

theorem State.streamFilled_holds (s : State) (k : Nat) (x : LaceStream) (fill : LaceFill) : s.NotedFrom (s.streamFilled k x fill) ∧
    (s.streamFilled k x fill).camp k = (s.camp k).streamed x.mode (fun _ => fill.stream) := by
  unfold State.streamFilled
  extract_lets u v
  have hvrd (j : Nat) (hj : Nums2.contains (Key.fam j) = false) : v.rd j = u.rd j :=
    State.each_same (fun w : State => w.rd j) (fun w z => State.lacePost_rd hj) u fill.ended
  have hvdom (j : Nat) : v.dom j = u.dom j :=
    State.each_same (fun w : State => w.dom j) (fun w z => by simp only [State.dom, State.lacePost_keeps ..]) u fill.ended
  have hvclock : v.clock = u.clock := State.each_same (fun w : State => w.clock) (fun w z => by simp only [State.lacePost_keeps ..]) u fill.ended
  have hvgirth : v.girth = u.girth := State.each_same (fun w : State => w.girth) (fun w z => by simp only [State.lacePost_keeps ..]) u fill.ended
  have hvlac : v.lacing = u.lacing := State.each_same (fun w : State => w.lacing) (fun w z => by simp only [State.lacePost_keeps ..]) u fill.ended
  refine ⟨⟨fun j hj hr => ?_, fun j => ?_, ?_, ?_⟩, ?_⟩
  · rw [State.rd_bump_of_fam _ _ (by simpa using hr), hvrd j hj]
    rfl
  · simp only [State.dom, State.bump_keeps ..]
    exact hvdom j
  · simp only [State.bump_keeps ..]
    exact hvclock
  · simp only [State.bump_keeps ..]
    exact hvgirth
  · rw [State.camp_of_lacing (t := State.bump v _ _) (s := u) (by simp only [State.bump_keeps ..]; exact hvlac)]
    exact State.camp_setCamp_self ..

/-! ### The grant of a burst (R409) -/

/-- Energy of one frame of a burst at the drive `d`, without its symbol's. -/
def State.frameUj (s : State) (ten mode : Nat) (d : Int) : Nat := s.txEnergy (airUs mode (s.symbolOctets ten)) (min s.topPower (2 * d))

section Noted
variable (h : s.NotedFrom t)
include h

theorem State.NotedFrom.frameUj (ten mode : Nat) (d : Int) : t.frameUj ten mode d = s.frameUj ten mode d := by
  have hsec : t.rd (Key.tenSecLevel ten) = s.rd (Key.tenSecLevel ten) := h.rd _ (by simp) (by simp)
  have hpow (n : Nat) : t.rdI 8 (Key.txcPowerDbm n) = s.rdI 8 (Key.txcPowerDbm n) := by
    rw [State.rdI, State.rdI, h.rd _ (by simp) (by simp)]
  simp only [State.frameUj, State.txEnergy, State.txTileUj, State.txDrvQ4, State.energy, State.topPower, State.symbolOctets, State.draftLen, hsec, hpow,
    h.dom]

theorem State.NotedFrom.laceUj : t.laceUj = s.laceUj := by simp only [State.laceUj, State.energy, h.dom]

/-- The grant looks at the tokens and the codes in force. -/
theorem State.NotedFrom.grant (c : Option Nat) (e : Nat) : (t.grant c e).2 = (s.grant c e).2 := by
  have htok : t.tokens = s.tokens := by rw [State.tokens, State.tokens, State.rdI, State.rdI, h.rd _ (by decide) (by decide)]
  unfold State.grant
  extract_lets x g y g'
  have hx : x = y := congrArg (fun z : Girth => z.cinch) h.girth
  cases c with
  | none => rfl
  | some j =>
    have hforce : t.codeInForce j = s.codeInForce j := by rw [State.codeInForce, State.codeInForce, h.girth]
    dsimp only
    rw [hforce, htok, hx]
    split_ifs <;> rfl

end Noted

/-! ### One stream of a burst (R409 to R412) -/

/-- Campaign `c` with the frames `l` planned, and what they use. -/
def Campaign.plans (c : Campaign) (l : List LaceFrame) (u : List LaceUse) : Campaign := { c with planned := c.planned ++ l, uses := c.uses ++ u }

/-- A burst whose blocks are read and check asks its grant. -/
def State.streamAsks (s : State) (k : Nat) (image : Bytes) (x : LaceStream) (c : Campaign) (freq p f g : Nat) (l : List (Nat × Nat)) : State :=
  let ten := s.rd (Key.campTenant k)
  let s := s.setCamp k ((s.camp k).failingAt none)
  let one := s.frameUj ten x.mode c.drvDbm
  let got := s.grant (some 1) (l.length * (s.laceUj + one))
  let s := got.1
  if !got.2 then s.burstHeld k x.mode l
  else
    let reqs := (s.burstReqs k c x.mode freq p f g image l).map (fun r => { r with req := { r.req with granted := some one } })
    let s := { s with draws := s.draws + l.length }
    s.setCamp k ((s.camp k).plans reqs (reqs.map s.laceUse))

/-- A block of the symbols differs from its checksum. -/
def blocksDiffer (image : Bytes) (c : Campaign) (l : List (Nat × Nat)) : Bool :=
  l.any (fun p => Crypto.crc32c (blockOf image p.1) != c.blockCrc.getD p.1 0)

section Stream
variable {x : LaceStream} {freq p : Nat} {image : Bytes} {bad : List Nat}

/-- The burst of a stream that has a channel, at the present time. -/
def State.streamPlan (s : State) (k : Nat) (image : Bytes) (bad : List Nat) (t : LaceStream) (freq p : Nat) : State :=
  let c := s.camp k
  let ten := s.rd (Key.campTenant k)
  let f := frameUs t.mode (s.symbolOctets ten)
  let g := s.burstGap p freq
  let low := 64 + 1000 * c.a
  let fill := laceFill low (blocksOf (s.rd (Key.campImageBytes k))) (s.burstFrames c f g) t
  let l := fill.symbols
  let s := s.modStream k t.mode (fun _ => fill.stream)
  let s := s.each fill.ended (fun s z => s.lacePost .laceEsiEnd k z t.mode)
  let s := s.bump Key.laceRepairs (l.filter (fun p => decide (64 ≤ p.2) && !(t.again.contains p))).length
  if l.isEmpty then s
  else if s.burstUnread k image bad l then
    (s.setCamp k { s.camp k with failing := some ((s.camp k).failing.getD s.elapsed) }).burstHeld k t.mode l
  else if l.any (fun p => Crypto.crc32c (blockOf image p.1) != c.blockCrc.getD p.1 0) then s.laceFail k 7
  else
    let s := s.setCamp k { s.camp k with failing := none }
    let one := s.txEnergy (airUs t.mode (s.symbolOctets ten)) (min s.topPower (2 * c.drvDbm))
    let got := s.grant (some 1) (l.length * (s.laceUj + one))
    let s := got.1
    if !got.2 then s.burstHeld k t.mode l
    else
      let reqs := (s.burstReqs k c t.mode freq p f g image l).map (fun r => { r with req := { r.req with granted := some one } })
      let s := { s with draws := s.draws + l.length }
      let d := s.camp k
      s.setCamp k { d with planned := d.planned ++ reqs, uses := d.uses ++ reqs.map s.laceUse }

theorem State.burstStream_eq (hst : s.campSt k = 2)
    (hh : s.hop (s.rd (Key.campTenant k)) (x.mode == 1) (s.camp k).burst (8 + x.mode) = some (freq, p)) :
    s.burstStream k image bad x = s.streamPlan k image bad x freq p := by
  rw [State.burstStream, hh]
  exact if_neg (by simp [hst])

/-- What becomes of a burst that has symbols. -/
theorem State.streamPlan_cases (hl : (s.fillOf k x freq p).symbols ≠ []) : ∃ (u : State) (f g : Nat),
    u = s.streamFilled k x (s.fillOf k x freq p) ∧ s.streamPlan k image bad x freq p =
        if u.burstUnread k image bad (s.fillOf k x freq p).symbols then
          (u.setCamp k ((u.camp k).failingAt (some ((u.camp k).failing.getD u.elapsed)))).burstHeld k x.mode (s.fillOf k x freq p).symbols
        else if blocksDiffer image (s.camp k) (s.fillOf k x freq p).symbols then u.laceFail k 7
        else u.streamAsks k image x (s.camp k) freq p f g (s.fillOf k x freq p).symbols := by
  unfold State.streamPlan
  extract_lets c ten f g low fill l v w u
  have hfill : s.fillOf k x freq p = fill := rfl
  have hu : u = s.streamFilled k x fill := rfl
  have hten : u.rd (Key.campTenant k) = ten := by
    rw [hu]
    exact (s.streamFilled_holds k x _).1.rd _ (by simp) (by simp)
  rw [hfill] at hl ⊢
  refine ⟨u, f, g, hu, ?_⟩
  rw [if_neg (by simpa using hl : ¬ l.isEmpty = true)]
  have hlfill : fill.symbols = l := rfl
  have hc : s.camp k = c := rfl
  rw [hlfill, hc]
  clear_value u c ten f g low fill l
  rw [State.streamAsks, hten]
  rfl

theorem State.NotedFrom.burstUnread {u : State} (h : s.NotedFrom u) (l : List (Nat × Nat)) :
    u.burstUnread k image bad l = s.burstUnread k image bad l := by
  rw [State.burstUnread, State.burstUnread, h.rd _ (by simp) (by simp)]

/-- The symbols of a burst that is not planned wait for the stream's next burst. -/
theorem State.burstHeld_holds {u : State} {c : Campaign} {y : LaceStream} (hc : u.camp k = c) (hy : c.streams = [y]) (hm : y.mode = x.mode)
    (l : List (Nat × Nat)) : (u.burstHeld k x.mode l).campSt k = u.campSt k ∧ ((u.burstHeld k x.mode l).camp k).planned = c.planned ∧
      ((u.burstHeld k x.mode l).camp k).failing = c.failing ∧ ∃ z, ((u.burstHeld k x.mode l).camp k).streams = [z] ∧ z.again = l ++ y.again := by
  rw [State.burstHeld, State.modStream_eq, State.camp_setCamp_self, hc, Campaign.streamed_one hy hm]
  exact ⟨rfl, rfl, rfl, _, rfl, rfl⟩

/-- The state in which a burst's grant is asked, and its answer. -/
def State.asked (s : State) (k : Nat) (x : LaceStream) (c : Campaign) (l : List (Nat × Nat)) : State × Bool :=
  let ten := s.rd (Key.campTenant k)
  let s := s.setCamp k ((s.camp k).failingAt none)
  s.grant (some 1) (l.length * (s.laceUj + s.frameUj ten x.mode c.drvDbm))

theorem State.asked_holds (s : State) (k : Nat) (x : LaceStream) (c : Campaign) (l : List (Nat × Nat)) :
    (s.asked k x c l).2 = (s.grant (some 1) (l.length * (s.laceUj + s.frameUj (s.rd (Key.campTenant k)) x.mode c.drvDbm))).2 ∧
    (s.asked k x c l).1.camp k = (s.camp k).failingAt none ∧ (s.asked k x c l).1.campSt k = s.campSt k ∧
    (s.asked k x c l).1.girth.sched = s.girth.sched := by
  have hnoted : s.NotedFrom (s.setCamp k ((s.camp k).failingAt none)) := ⟨fun _ _ _ => rfl, fun _ => rfl, rfl, rfl⟩
  unfold State.asked
  extract_lets ten u
  refine ⟨?_, ?_, ?_, ?_⟩
  · rw [hnoted.grant, hnoted.laceUj, hnoted.frameUj]
  · exact (State.camp_of_lacing (s := u) (by simp only [State.grant_keeps ..]) k).trans (State.camp_setCamp_self ..)
  · exact State.grant_rd (by simp)
  · simp only [State.grant_keeps ..]
    rfl

theorem State.streamAsks_refused {c : Campaign} {f g : Nat} {l : List (Nat × Nat)} (h : (s.asked k x c l).2 = false) :
    s.streamAsks k image x c freq p f g l = (s.asked k x c l).1.burstHeld k x.mode l := by
  refine if_pos ?_
  change (!(s.asked k x c l).2) = true
  rw [h]
  rfl

/-- The planned frames of a burst carry its symbols in their order. -/
theorem State.burstReqs_symbols (s : State) (k : Nat) (c : Campaign) (mode freq p f g : Nat) (image : Bytes) (l : List (Nat × Nat)) :
    (s.burstReqs k c mode freq p f g image l).map (fun g => (g.z, g.x)) = l := by
  rw [State.burstReqs, List.map_map]
  refine List.ext_getElem (by simp) fun i h1 h2 => ?_
  rw [List.getElem_map, List.getElem_range]
  exact (List.getElem_eq_getD _).symm

theorem State.streamAsks_granted {c : Campaign} {f g : Nat} {l : List (Nat × Nat)} (h : (s.asked k x c l).2 = true) :
    (s.streamAsks k image x c freq p f g l).campSt k = (s.asked k x c l).1.campSt k ∧
    (s.streamAsks k image x c freq p f g l).girth = (s.asked k x c l).1.girth ∧
    ((s.streamAsks k image x c freq p f g l).camp k).planned.map (fun g => (g.z, g.x)) =
      ((s.asked k x c l).1.camp k).planned.map (fun g => (g.z, g.x)) ++ l := by
  obtain ⟨v, reqs, uses, hasks, hvst, hvgirth, hvcamp, hreqs⟩ : ∃ (v : State) (reqs : List LaceFrame) (uses : List LaceUse),
      s.streamAsks k image x c freq p f g l = v.setCamp k (((s.asked k x c l).1.camp k).plans reqs uses) ∧
      v.campSt k = (s.asked k x c l).1.campSt k ∧ v.girth = (s.asked k x c l).1.girth ∧ v.camp k = (s.asked k x c l).1.camp k ∧
      reqs.map (fun g => (g.z, g.x)) = l := by
    refine ⟨{ (s.asked k x c l).1 with draws := (s.asked k x c l).1.draws + l.length }, _, _, if_neg ?_, rfl, rfl, rfl, ?_⟩
    · change ¬ (!(s.asked k x c l).2) = true
      rw [h]
      simp
    · rw [List.map_map]
      exact State.burstReqs_symbols ..
  rw [hasks, State.camp_setCamp_self]
  refine ⟨hvst, hvgirth, ?_⟩
  rw [Campaign.plans, List.map_append, hreqs]

section Cases
variable (hs : (s.camp k).streams = [x]) (hl : (s.fillOf k x freq p).symbols ≠ [])
include hl

/-- A block that differs from its checksum fails the campaign. -/
theorem State.streamPlan_differs (hr : s.burstUnread k image bad (s.fillOf k x freq p).symbols = false)
    (hd : blocksDiffer image (s.camp k) (s.fillOf k x freq p).symbols = true) : (s.streamPlan k image bad x freq p).campSt k = 5 ∧
      ((s.streamPlan k image bad x freq p).camp k).planned = (s.camp k).planned := by
  obtain ⟨u, f, g, hu, hplan⟩ := State.streamPlan_cases (image := image) (bad := bad) hl
  obtain ⟨hnoted, hcamp⟩ := s.streamFilled_holds k x (s.fillOf k x freq p)
  rw [← hu] at hnoted hcamp
  obtain ⟨hst, -, hlac, -⟩ := State.laceFail_holds (s := u) (u := u) rfl k 7
  rw [hplan, if_neg (by rw [hnoted.burstUnread, hr]; simp), if_pos hd, hst, State.camp_of_lacing hlac, hcamp]
  exact ⟨rfl, rfl⟩

include hs

/-- A burst whose read fails is noted and its symbols wait. -/
theorem State.streamPlan_unread (hr : s.burstUnread k image bad (s.fillOf k x freq p).symbols = true) :
    (s.streamPlan k image bad x freq p).campSt k = s.campSt k ∧
    ((s.streamPlan k image bad x freq p).camp k).planned = (s.camp k).planned ∧
    ((s.streamPlan k image bad x freq p).camp k).failing = some ((s.camp k).failing.getD s.elapsed) ∧
    ∃ y, ((s.streamPlan k image bad x freq p).camp k).streams = [y] ∧
      y.again = (s.fillOf k x freq p).symbols ++ (s.fillOf k x freq p).stream.again := by
  obtain ⟨u, f, g, hu, hplan⟩ := State.streamPlan_cases (image := image) (bad := bad) hl
  obtain ⟨hnoted, hcamp⟩ := s.streamFilled_holds k x (s.fillOf k x freq p)
  rw [← hu] at hnoted hcamp
  have hclock : u.elapsed = s.elapsed := by rw [State.elapsed, State.elapsed, hnoted.clock]
  have hstreams : ((u.camp k).failingAt (some ((u.camp k).failing.getD u.elapsed))).streams = [(s.fillOf k x freq p).stream] := by
    rw [Campaign.failingAt, hcamp]
    exact Campaign.streamed_one hs rfl _
  obtain ⟨hst, hplanned, hfailing, hwait⟩ := State.burstHeld_holds (u := u.setCamp k ((u.camp k).failingAt (some ((u.camp k).failing.getD u.elapsed))))
    (State.camp_setCamp_self ..) hstreams (mode_laceFill ..) (s.fillOf k x freq p).symbols
  rw [hplan, if_pos (by rw [hnoted.burstUnread, hr])]
  refine ⟨hst.trans ?_, hplanned.trans ?_, hfailing.trans ?_, hwait⟩
  · exact hnoted.rd _ (by simp) (by simp)
  · rw [hcamp]
    rfl
  · rw [hcamp, hclock]
    rfl

end Cases

/-- The grant that a burst whose blocks are good asks for. -/
def State.burstGrant (s : State) (k : Nat) (x : LaceStream) (freq p : Nat) : State × Bool :=
  s.grant (some 1) ((s.fillOf k x freq p).symbols.length * (s.laceUj + s.frameUj (s.rd (Key.campTenant k)) x.mode (s.camp k).drvDbm))

/-- A burst whose blocks are good asks for its grant. -/
theorem State.streamPlan_asks (hl : (s.fillOf k x freq p).symbols ≠ []) (hr : s.burstUnread k image bad (s.fillOf k x freq p).symbols = false)
    (hd : blocksDiffer image (s.camp k) (s.fillOf k x freq p).symbols = false) : ∃ (u : State) (f g : Nat), s.NotedFrom u ∧
      u.camp k = (s.camp k).streamed x.mode (fun _ => (s.fillOf k x freq p).stream) ∧ s.streamPlan k image bad x freq p =
        u.streamAsks k image x (s.camp k) freq p f g (s.fillOf k x freq p).symbols ∧
      (u.asked k x (s.camp k) (s.fillOf k x freq p).symbols).2 = (s.burstGrant k x freq p).2 := by
  obtain ⟨u, f, g, hu, hplan⟩ := State.streamPlan_cases (image := image) (bad := bad) hl
  obtain ⟨hnoted, hcamp⟩ := s.streamFilled_holds k x (s.fillOf k x freq p)
  rw [← hu] at hnoted hcamp
  refine ⟨u, f, g, hnoted, hcamp, ?_, ?_⟩
  · rw [hplan, if_neg (by rw [hnoted.burstUnread, hr]; simp), if_neg (by simp [hd])]
  · rw [(State.asked_holds ..).1, hnoted.grant, hnoted.laceUj, hnoted.frameUj, hnoted.rd _ (by simp) (by simp), State.burstGrant]

/-- A burst that is granted plans one frame for each symbol. -/
theorem State.streamPlan_granted (hl : (s.fillOf k x freq p).symbols ≠ []) (hr : s.burstUnread k image bad (s.fillOf k x freq p).symbols = false)
    (hd : blocksDiffer image (s.camp k) (s.fillOf k x freq p).symbols = false) (hg : (s.burstGrant k x freq p).2 = true) :
    (s.streamPlan k image bad x freq p).campSt k = s.campSt k ∧ (s.streamPlan k image bad x freq p).girth.sched = s.girth.sched ∧
    ((s.streamPlan k image bad x freq p).camp k).planned.map (fun g => (g.z, g.x)) =
      (s.camp k).planned.map (fun g => (g.z, g.x)) ++ (s.fillOf k x freq p).symbols := by
  obtain ⟨u, f, g, hnoted, hcamp, hplan, hask⟩ := State.streamPlan_asks (image := image) (bad := bad) hl hr hd
  obtain ⟨-, hacamp, hast, hasched⟩ := u.asked_holds k x (s.camp k) (s.fillOf k x freq p).symbols
  obtain ⟨hst, hgirth, hplanned⟩ := State.streamAsks_granted (image := image) (freq := freq) (p := p) (f := f) (g := g) (hask.trans hg)
  rw [hplan, hst, hgirth, hplanned, hacamp, hast, hasched, hcamp, hnoted.girth]
  exact ⟨hnoted.rd _ (by simp) (by simp), rfl, rfl⟩

/-- A burst that is refused waits with its symbols. -/
theorem State.streamPlan_refused (hs : (s.camp k).streams = [x]) (hl : (s.fillOf k x freq p).symbols ≠ [])
    (hr : s.burstUnread k image bad (s.fillOf k x freq p).symbols = false)
    (hd : blocksDiffer image (s.camp k) (s.fillOf k x freq p).symbols = false) (hg : (s.burstGrant k x freq p).2 = false) :
    (s.streamPlan k image bad x freq p).campSt k = s.campSt k ∧
    ((s.streamPlan k image bad x freq p).camp k).planned = (s.camp k).planned ∧
    ∃ y, ((s.streamPlan k image bad x freq p).camp k).streams = [y] ∧
      y.again = (s.fillOf k x freq p).symbols ++ (s.fillOf k x freq p).stream.again := by
  obtain ⟨u, f, g, hnoted, hcamp, hplan, hask⟩ := State.streamPlan_asks (image := image) (bad := bad) hl hr hd
  obtain ⟨-, hacamp, hast, -⟩ := u.asked_holds k x (s.camp k) (s.fillOf k x freq p).symbols
  have hstreams : ((u.camp k).failingAt none).streams = [(s.fillOf k x freq p).stream] := by
    rw [Campaign.failingAt, hcamp]
    exact Campaign.streamed_one hs rfl _
  obtain ⟨hst, hplanned, -, hwait⟩ := State.burstHeld_holds hacamp hstreams (mode_laceFill ..) (s.fillOf k x freq p).symbols
  rw [hplan, State.streamAsks_refused (hask.trans hg)]
  refine ⟨hst.trans (hast.trans ?_), hplanned.trans ?_, hwait⟩
  · exact hnoted.rd _ (by simp) (by simp)
  · rw [hcamp]
    rfl

end Stream

/-! ### Planning a burst (R250, R407) -/

/-- The campaign's next burst is placed behind ASN `b`. -/
def State.burstNext (s : State) (n b : Nat) : State := s.setCamp n ((s.camp n).burstAt (s.nextBurst n (max s.freshAsn (b + 1))))

theorem Campaign.burstAt_reads (c : Campaign) (b : Nat) : (c.burstAt b).planned = c.planned ∧ (c.burstAt b).streams = c.streams ∧
    (c.burstAt b).failing = c.failing := ⟨rfl, rfl, rfl⟩

theorem State.burstNext_reads (s : State) (k b : Nat) : (s.burstNext k b).campSt k = s.campSt k ∧ (s.burstNext k b).girth = s.girth ∧
    ((s.burstNext k b).camp k).planned = (s.camp k).planned ∧ ((s.burstNext k b).camp k).streams = (s.camp k).streams ∧
    ((s.burstNext k b).camp k).failing = (s.camp k).failing := by
  obtain ⟨hp, hs, hf⟩ := (s.camp k).burstAt_reads (s.nextBurst k (max s.freshAsn (b + 1)))
  have hcamp : (s.burstNext k b).camp k = (s.camp k).burstAt (s.nextBurst k (max s.freshAsn (b + 1))) := State.camp_setCamp_self ..
  rw [hcamp]
  exact ⟨rfl, rfl, hp, hs, hf⟩

/-- Campaign `c` with nothing in use. -/
def Campaign.unused (c : Campaign) : Campaign := { c with uses := [] }

/-- The burst of campaign `n` is planned from the image. -/
def State.burstsPlanned (s : State) (n : Nat) (image : Bytes) (bad : List Nat) (l : List LaceStream) : State :=
  (s.setCamp n ((s.camp n).unused)).each l (fun s t => s.burstStream n image bad t)

/-- The planning of a burst at the present time. -/
def State.burstGo (s : State) (n : Nat) (got : Bytes) (bad : List Nat) : State :=
  let c := s.camp n
  let b := c.burst
  let fired := s.takeFired (fun d => d == .burst n b)
  if s.campSt n ≠ 2 ∨ fired.2.isNone then s
  else
    let s := fired.1
    if s.slotStart b ≤ s.nowNs ∨ (s.served (s.rd (Key.campTenant n))).isNone then s.burstNext n b
    else (s.burstsPlanned n (s.imageNow n got) bad c.streams).burstNext n b

theorem exec_burstPlanning_eq (k : Fin 16) (got : Bytes) (bad : List Nat) (dt : Nat) (s : State) :
    exec (.burstPlanning k got bad dt) s = .next ((s.advance dt).burstGo k got bad) := rfl

variable {x : LaceStream} {freq p : Nat} {got : Bytes} {bad : List Nat}

theorem State.burstGo_idle (h : s.girth.sched.fired.any (fun e => e.due == .burst k (s.camp k).burst) = false) : s.burstGo k got bad = s := by
  have hfind : s.girth.sched.fired.find? (fun e => e.due == .burst k (s.camp k).burst) = none := by
    rw [List.find?_eq_none]
    exact fun e he => by simpa using List.any_eq_false.mp h e he
  have htaken : (s.takeFired (fun d => d == .burst k (s.camp k).burst)).2.isNone = true := by
    rw [State.takeFired, hfind]
    rfl
  exact if_pos (.inr htaken)

/-- The burst of campaign `k` is due, with one stream that has a channel and symbols. -/
structure State.BurstDue (s : State) (k : Nat) (x : LaceStream) (freq p : Nat) : Prop where
  runs : s.campSt k = 2
  fired : ∃ d l, s.girth.sched.fired = [⟨d, .burst k (s.camp k).burst, l⟩]
  early : s.nowNs < s.slotStart (s.camp k).burst
  served : (s.served (s.rd (Key.campTenant k))).isNone = false
  streams : (s.camp k).streams = [x]
  hop : s.hop (s.rd (Key.campTenant k)) (x.mode == 1) (s.camp k).burst (8 + x.mode) = some (freq, p)
  symbols : (s.fillOf k x freq p).symbols ≠ []

/-- The state in which the stream of a due burst is planned. -/
def State.burstBase (s : State) (k : Nat) : State := s.firedTaken.setCamp k ((s.firedTaken.camp k).unused)

theorem State.burstBase_reads (s : State) (k : Nat) : (s.burstBase k).dict = s.dict ∧ (s.burstBase k).fuses = s.fuses ∧
    (s.burstBase k).clock = s.clock ∧ (s.burstBase k).girth.sched.fired = [] ∧ (s.burstBase k).girth.cinch = s.girth.cinch ∧
    (s.burstBase k).camp k = (s.camp k).unused :=
  ⟨rfl, rfl, rfl, rfl, rfl, State.camp_setCamp_self ..⟩

theorem State.fillOf_burstBase (s : State) (k : Nat) (x : LaceStream) (freq p : Nat) : (s.burstBase k).fillOf k x freq p = s.fillOf k x freq p := by
  obtain ⟨hd, hf, -, -, -, hc⟩ := s.burstBase_reads k
  exact State.fillOf_same hd hf (by rw [hc]; rfl) (by rw [hc]; rfl) x freq p

theorem State.burstGo_due (h : s.BurstDue k x freq p) :
    s.burstGo k got bad = ((s.burstBase k).streamPlan k (s.imageNow k got) bad x freq p).burstNext k (s.camp k).burst := by
  obtain ⟨hd, hf, -, -, -, hc⟩ := s.burstBase_reads k
  obtain ⟨d, l, hfired⟩ := h.fired
  have htaken := State.takeFired_only (p := fun d => d == .burst k (s.camp k).burst) hfired (by simp)
  have himage : s.firedTaken.imageNow k got = s.imageNow k got := rfl
  have hserved : (s.firedTaken.served (s.firedTaken.rd (Key.campTenant k))).isNone = false := h.served
  have hearly : ¬ s.firedTaken.slotStart (s.camp k).burst ≤ s.firedTaken.nowNs := Nat.not_le.mpr h.early
  have hstream : (s.burstBase k).burstStream k (s.imageNow k got) bad x = (s.burstBase k).streamPlan k (s.imageNow k got) bad x freq p := by
    refine State.burstStream_eq ((State.rd_sameDict hd _).trans h.runs) ?_
    rw [State.hop_sameDict hd hf, State.rd_sameDict hd, hc, ← h.hop]
    rfl
  have hplanned : s.firedTaken.burstsPlanned k (s.imageNow k got) bad (s.camp k).streams =
      (s.burstBase k).streamPlan k (s.imageNow k got) bad x freq p := by
    rw [h.streams, ← hstream, State.burstsPlanned, State.each_one, ← State.burstBase]
  rw [State.burstGo, htaken]
  dsimp only
  rw [if_neg (by simp [h.runs]), if_neg (by simp [hearly, hserved]), himage, hplanned]

section Due
variable (h : s.BurstDue k x freq p)
include h

theorem State.BurstDue.base_symbols : ((s.burstBase k).fillOf k x freq p).symbols ≠ [] := by
  rw [State.fillOf_burstBase]
  exact h.symbols

theorem State.BurstDue.base_streams : ((s.burstBase k).camp k).streams = [x] := by
  rw [(s.burstBase_reads k).2.2.2.2.2]
  exact h.streams

theorem State.BurstDue.base_runs : (s.burstBase k).campSt k = 2 := (State.rd_sameDict (s.burstBase_reads k).1 _).trans h.runs

end Due

theorem State.burstUnread_base {image : Bytes} {l : List (Nat × Nat)} : (s.burstBase k).burstUnread k image bad l = s.burstUnread k image bad l := by
  rw [State.burstUnread, State.burstUnread, State.rd_sameDict (s.burstBase_reads k).1]

theorem blocksDiffer_unused (image : Bytes) (c : Campaign) (l : List (Nat × Nat)) : blocksDiffer image c.unused l = blocksDiffer image c l := rfl

theorem State.burstGrant_same (hd : t.dict = s.dict) (hcinch : t.girth.cinch = s.girth.cinch) (hfill : t.fillOf k x freq p = s.fillOf k x freq p)
    (hdbm : (t.camp k).drvDbm = (s.camp k).drvDbm) : (t.burstGrant k x freq p).2 = (s.burstGrant k x freq p).2 := by
  have htok : t.tokens = s.tokens := by rw [State.tokens, State.tokens, State.rdI, State.rdI, State.rd_sameDict hd]
  have hcost (j m : Nat) (d : Int) : t.laceUj + t.frameUj j m d = s.laceUj + s.frameUj j m d := by
    simp only [State.laceUj, State.frameUj, State.txEnergy, State.txTileUj, State.txDrvQ4, State.energy, State.topPower, State.rdI,
      State.symbolOctets_sameDict hd, State.rd_sameDict hd, State.dom_sameDict hd]
  have hgrant (e : Nat) : (t.grant (some 1) e).2 = (s.grant (some 1) e).2 := by
    have hforce : t.codeInForce 1 = s.codeInForce 1 := by rw [State.codeInForce, State.codeInForce, hcinch]
    unfold State.grant
    extract_lets c g c' g'
    have hcc : c = c' := hcinch
    dsimp only
    rw [hforce, htok, hcc]
    split_ifs <;> rfl
  rw [State.burstGrant, State.burstGrant, hfill, hcost, hdbm, hgrant, State.rd_sameDict hd]

theorem State.burstGrant_base (s : State) (k : Nat) (x : LaceStream) (freq p : Nat) :
    ((s.burstBase k).burstGrant k x freq p).2 = (s.burstGrant k x freq p).2 := by
  obtain ⟨hd, -, -, -, hcinch, hc⟩ := s.burstBase_reads k
  exact State.burstGrant_same hd hcinch (s.fillOf_burstBase k x freq p) (by rw [hc]; rfl)

section Outcomes
variable (h : s.BurstDue k x freq p)
include h

theorem State.burstGo_granted (hr : s.burstUnread k (s.imageNow k got) bad (s.fillOf k x freq p).symbols = false)
    (hd : blocksDiffer (s.imageNow k got) (s.camp k) (s.fillOf k x freq p).symbols = false) (hg : (s.burstGrant k x freq p).2 = true) :
    (s.burstGo k got bad).campSt k = 2 ∧ ((s.burstGo k got bad).camp k).planned.map (fun g => (g.z, g.x)) =
      (s.camp k).planned.map (fun g => (g.z, g.x)) ++ (s.fillOf k x freq p).symbols ∧ (s.burstGo k got bad).girth.sched.fired = [] := by
  obtain ⟨-, -, -, hfired, -, hc⟩ := s.burstBase_reads k
  obtain ⟨hst, hsched, hplanned⟩ := State.streamPlan_granted (s := s.burstBase k) (image := s.imageNow k got) (bad := bad) h.base_symbols
    (by rw [State.fillOf_burstBase, State.burstUnread_base, hr]) (by rw [State.fillOf_burstBase, hc, blocksDiffer_unused, hd])
    (by rw [State.burstGrant_base, hg])
  obtain ⟨hnst, hngirth, hnp, -, -⟩ := ((s.burstBase k).streamPlan k (s.imageNow k got) bad x freq p).burstNext_reads k (s.camp k).burst
  rw [State.burstGo_due h, hnst, hngirth, hnp]
  refine ⟨hst.trans h.base_runs, ?_, (congrArg Sched.fired hsched).trans hfired⟩
  rw [← State.fillOf_burstBase]
  refine hplanned.trans ?_
  rw [hc]
  rfl

theorem State.burstGo_refused (hr : s.burstUnread k (s.imageNow k got) bad (s.fillOf k x freq p).symbols = false)
    (hd : blocksDiffer (s.imageNow k got) (s.camp k) (s.fillOf k x freq p).symbols = false) (hg : (s.burstGrant k x freq p).2 = false) :
    (s.burstGo k got bad).campSt k = 2 ∧ ((s.burstGo k got bad).camp k).planned = (s.camp k).planned ∧
      ∃ y, ((s.burstGo k got bad).camp k).streams = [y] ∧ y.again = (s.fillOf k x freq p).symbols ++ (s.fillOf k x freq p).stream.again := by
  obtain ⟨-, -, -, -, -, hc⟩ := s.burstBase_reads k
  obtain ⟨hst, hplanned, hwait⟩ := State.streamPlan_refused (s := s.burstBase k) (image := s.imageNow k got) (bad := bad) h.base_streams
    h.base_symbols (by rw [State.fillOf_burstBase, State.burstUnread_base, hr])
    (by rw [State.fillOf_burstBase, hc, blocksDiffer_unused, hd]) (by rw [State.burstGrant_base, hg])
  obtain ⟨hnst, -, hnp, hns, -⟩ := ((s.burstBase k).streamPlan k (s.imageNow k got) bad x freq p).burstNext_reads k (s.camp k).burst
  rw [State.fillOf_burstBase] at hwait
  rw [State.burstGo_due h, hnst, hnp, hns]
  refine ⟨hst.trans h.base_runs, hplanned.trans ?_, hwait⟩
  rw [hc]
  rfl

theorem State.burstGo_unread (hr : s.burstUnread k (s.imageNow k got) bad (s.fillOf k x freq p).symbols = true) :
    (s.burstGo k got bad).campSt k = 2 ∧ ((s.burstGo k got bad).camp k).failing = some ((s.camp k).failing.getD s.elapsed) ∧
      ((s.burstGo k got bad).camp k).planned = (s.camp k).planned ∧
      ∃ y, ((s.burstGo k got bad).camp k).streams = [y] ∧ y.again = (s.fillOf k x freq p).symbols ++ (s.fillOf k x freq p).stream.again := by
  obtain ⟨-, -, hclock, -, -, hc⟩ := s.burstBase_reads k
  obtain ⟨hst, hplanned, hfailing, hwait⟩ := State.streamPlan_unread (s := s.burstBase k) (image := s.imageNow k got) (bad := bad) h.base_streams
    h.base_symbols (by rw [State.fillOf_burstBase, State.burstUnread_base, hr])
  obtain ⟨hnst, -, hnp, hns, hnf⟩ := ((s.burstBase k).streamPlan k (s.imageNow k got) bad x freq p).burstNext_reads k (s.camp k).burst
  have helapsed : (s.burstBase k).elapsed = s.elapsed := by rw [State.elapsed, State.elapsed, hclock]
  rw [State.fillOf_burstBase] at hwait
  rw [helapsed, hc] at hfailing
  rw [hc] at hplanned
  rw [State.burstGo_due h, hnst, hnp, hns, hnf]
  exact ⟨hst.trans h.base_runs, hfailing, hplanned, hwait⟩

theorem State.burstGo_differs (hr : s.burstUnread k (s.imageNow k got) bad (s.fillOf k x freq p).symbols = false)
    (hd : blocksDiffer (s.imageNow k got) (s.camp k) (s.fillOf k x freq p).symbols = true) :
    (s.burstGo k got bad).campSt k = 5 ∧ ((s.burstGo k got bad).camp k).planned = (s.camp k).planned := by
  obtain ⟨-, -, -, -, -, hc⟩ := s.burstBase_reads k
  obtain ⟨hst, hplanned⟩ := State.streamPlan_differs (s := s.burstBase k) (image := s.imageNow k got) (bad := bad) h.base_symbols
    (by rw [State.fillOf_burstBase, State.burstUnread_base, hr]) (by rw [State.fillOf_burstBase, hc, blocksDiffer_unused, hd])
  obtain ⟨hnst, -, hnp, -, -⟩ := ((s.burstBase k).streamPlan k (s.imageNow k got) bad x freq p).burstNext_reads k (s.camp k).burst
  rw [hc] at hplanned
  rw [State.burstGo_due h, hnst, hnp]
  exact ⟨hst, hplanned⟩

end Outcomes

/-! ### Reads that keep failing (R412) -/

/-- The end of a campaign whose reads fail, at the present time. -/
def State.readFailGo (s : State) (k : Nat) : State :=
  match (s.camp k).failing with
  | some a => if s.campSt k = 2 ∧ a + ms 60000 ≤ s.elapsed then s.laceFail k 2 else s
  | none => s

theorem exec_laceReadFail_eq (k : Fin 16) (dt : Nat) (s : State) : exec (.laceReadFail k dt) s = .next ((s.advance dt).readFailGo k) := rfl

theorem State.readFailGo_fails {a : Nat} (hf : (s.camp k).failing = some a) (hst : s.campSt k = 2) (ha : a + ms 60000 ≤ s.elapsed) :
    s.readFailGo k = s.laceFail k 2 := by
  rw [State.readFailGo, hf]
  exact if_pos ⟨hst, ha⟩

theorem State.readFailGo_none (hf : (s.camp k).failing = none) : s.readFailGo k = s := by rw [State.readFailGo, hf]

/-! ### Reports (R410) -/

/-- A target after a report of status 1. -/
def LaceTarget.reported (u : LaceTarget) (at_ : Nat) (noStorage : Bool) : LaceTarget :=
  { u with heardAt := at_, done := true, noStorage := noStorage }

theorem Campaign.targets_withStream (c : Campaign) (mode z : Nat) : (c.withStream mode z).targets = c.targets := by
  rw [Campaign.withStream]
  split_ifs <;> rfl

/-- A report of status 1 marks its target done, and heard now. -/
theorem State.takeReport_done {u : LaceTarget} {b : Bytes} (hu : u ∈ (s.camp k).targets) (h1 : fieldLe b 4 1 = 1) :
    ∃ v ∈ ((s.takeReport k u b).camp k).targets, v.record = u.record ∧ v.done = true ∧ v.heardAt = s.elapsed := by
  obtain ⟨w, f, t1, hw, hrec, hdone, hat⟩ : ∃ (w : State) (f : LaceStream → LaceStream) (t1 : LaceTarget),
      s.takeReport k u b = (w.modStream k (s.nrec u.record).mode f).laceCheck k ∧ t1.record = u.record ∧ t1.done = true ∧ t1.heardAt = s.elapsed ∧
      (w.camp k).targets = (s.camp k).targets.map (fun v => if v.record = u.record then t1 else v) := by
    refine ⟨_, _, { u with heardAt := s.elapsed, done := u.done || fieldLe b 4 1 == 1, noStorage := u.noStorage || fieldLe b 4 1 == 3 }, rfl, rfl, ?_,
      rfl, ?_⟩
    · simp [h1]
    · rw [State.camp_setCamp_self]
      dsimp only
      rw [Campaign.targets_withStream]
  obtain ⟨hat, htargets⟩ := hat
  have hlac : ((w.modStream k (s.nrec u.record).mode f).laceCheck k).lacing = (w.modStream k (s.nrec u.record).mode f).lacing := by
    simp only [State.laceCheck_keeps ..]
  rw [hw, State.camp_of_lacing hlac, State.modStream_eq, State.camp_setCamp_self]
  refine ⟨t1, ?_, hrec, hdone, hat⟩
  change t1 ∈ (w.camp k).targets
  rw [htargets]
  exact List.mem_map.mpr ⟨u, hu, if_pos rfl⟩

theorem execLaceReportTake_takes {i : StrapItem} {rest : List StrapItem} {u : LaceTarget} (hh : (s.strap 5).head = i :: rest) (hk : i.kind = 0)
    (hp : i.poison = false) (hr : s.laceRunning (fieldLe i.data 2 1) (i.data.drop 3) = some k)
    (hu : (s.camp k).targets.find? (fun x => shortOf x.record == fieldLe i.data 0 2) = some u) :
    execLaceReportTake s = .next ((s.strapPop 5).1.takeReport k u (i.data.drop 3)) := by
  obtain ⟨htaken, -⟩ := State.strapPop_takes hh
  obtain ⟨hlac, hdict⟩ : (s.strapPop 5).1.lacing = s.lacing ∧ (s.strapPop 5).1.dict = s.dict := by simp only [State.strapPop_keeps .., and_self]
  have hcamp (j : Nat) := State.camp_of_lacing hlac j
  have hrun : (s.strapPop 5).1.laceRunning (fieldLe i.data 2 1) (i.data.drop 3) = some k := by
    rw [← hr]
    simp only [State.laceRunning, State.laceTagged, State.campSt, hcamp, State.rd_sameDict hdict]
  rw [execLaceReportTake, htaken]
  dsimp only
  rw [if_neg (by simp [hk, hp]), hrun]
  dsimp only
  rw [hcamp, hu]

theorem execLaceReportTake_empty (hh : (s.strap 5).head = []) (ht : (s.strap 5).tail = []) :
    execLaceReportTake s = .next (s.strapPop 5).1 := by
  have hpass : passToHead 65 (s.strap 5) = s.strap 5 := by
    rw [passToHead, ht]
    split_ifs <;> rfl
  have hpop : (s.strapPop 5).2 = none := by rw [State.strapPop, hpass, hh]
  rw [execLaceReportTake, hpop]

/-! ### The obligation -/

theorem State.fillOf_advance (s : State) (dt k : Nat) (x : LaceStream) (freq p : Nat) : (s.advance dt).fillOf k x freq p = s.fillOf k x freq p :=
  State.fillOf_same (s.dict_advance dt) (s.fuses_advance dt) (by rw [State.camp_advance]) (by rw [State.camp_advance]) x freq p

theorem State.burstUnread_advance (s : State) (dt k : Nat) (image : Bytes) (bad : List Nat) (l : List (Nat × Nat)) :
    (s.advance dt).burstUnread k image bad l = s.burstUnread k image bad l := by
  rw [State.burstUnread, State.burstUnread, State.rd_advance]

theorem State.burstGrant_advance (s : State) (dt k : Nat) (x : LaceStream) (freq p : Nat) :
    ((s.advance dt).burstGrant k x freq p).2 = (s.burstGrant k x freq p).2 :=
  State.burstGrant_same (s.dict_advance dt) (by rw [State.girth_advance]) (s.fillOf_advance dt k x freq p) (by rw [State.camp_advance])

/-- The fields of the statement as a burst that is due. -/
theorem State.burstDue_advance {f : Nat} (hst : s.campSt k = 2) (hfired : s.girth.sched.fired.map (·.due) = [.burst k (s.camp k).burst])
    (he : (s.advance dt).nowNs < s.slotStart (s.camp k).burst) (hsv : s.served (s.rd (Key.campTenant k)) = some f)
    (hs : (s.camp k).streams = [x])
    (hh : s.hop (s.rd (Key.campTenant k)) (x.mode == 1) (s.camp k).burst (8 + x.mode) = some (freq, p))
    (hl : (s.fillOf k x freq p).symbols ≠ []) : (s.advance dt).BurstDue k x freq p where
  runs := (s.rd_advance dt _).trans hst
  fired := by
    rw [State.girth_advance, State.camp_advance]
    obtain ⟨e, he, hdue⟩ := List.map_eq_singleton_iff.mp hfired
    obtain ⟨d, due, l⟩ := e
    exact ⟨d, l, by rw [he, ← hdue]⟩
  early := by rwa [State.camp_advance, State.slotStart_advance]
  served := by rw [State.rd_advance, State.served_sameDict (s.dict_advance dt), hsv]; rfl
  streams := by rw [State.camp_advance, hs]
  hop := by rw [State.rd_advance, State.camp_advance, State.hop_sameDict (s.dict_advance dt) (s.fuses_advance dt), hh]
  symbols := by rwa [State.fillOf_advance]

theorem blocksDiffer_false {image : Bytes} {c : Campaign} {l : List (Nat × Nat)}
    (h : ∀ z ∈ l, Crypto.crc32c (blockOf image z.1) = c.blockCrc.getD z.1 0) : blocksDiffer image c l = false :=
  List.any_eq_false.mpr fun z hz => by simp [h z hz]

theorem blocksDiffer_true {image : Bytes} {c : Campaign} {l : List (Nat × Nat)}
    (h : ∃ z ∈ l, Crypto.crc32c (blockOf image z.1) ≠ c.blockCrc.getD z.1 0) : blocksDiffer image c l = true := by
  obtain ⟨z, hz, hne⟩ := h
  exact List.any_eq_true.mpr ⟨z, hz, by simpa using hne⟩

/-- Settles O34. -/
theorem campaignBursts : Obligations.CampaignBursts := by
  unfold Obligations.CampaignBursts
  refine ⟨fun k got bad dt s h => ?_, fun k got bad dt x f freq p fill s hst hfired he hsv hs hh hfill hl hr hd hg => ?_,
    fun k got bad dt x f freq p fill s hst hfired he hsv hs hh hfill hl hr hd hg => ?_,
    fun k got bad dt x f freq p fill s hst hfired he hsv hs hh hfill hl hr => ?_,
    fun k got bad dt x f freq p fill s hst hfired he hsv hs hh hfill hl hr hd => ?_, fun k dt a s hf hst ha => ?_, fun k dt s hf => ?_,
    fun i rest k u s hh hk hp hr hu h1 => ?_, fun s hh _ ht => ?_⟩
  · rw [exec_burstPlanning_eq, gives_next, State.burstGo_idle (by rw [State.girth_advance, State.camp_advance, h])]
  · obtain rfl : fill = s.fillOf k x freq p := hfill
    have hdue := State.burstDue_advance hst hfired he hsv hs hh hl
    rw [← State.fillOf_advance s dt] at hr hd ⊢
    rw [← State.burstUnread_advance s dt] at hr
    rw [← State.camp_advance s dt] at hd ⊢
    rw [exec_burstPlanning_eq, gives_next]
    exact State.burstGo_granted hdue hr (blocksDiffer_false hd) (by rw [State.burstGrant_advance]; exact hg)
  · obtain rfl : fill = s.fillOf k x freq p := hfill
    have hdue := State.burstDue_advance hst hfired he hsv hs hh hl
    rw [← State.fillOf_advance s dt] at hr hd ⊢
    rw [← State.burstUnread_advance s dt] at hr
    rw [← State.camp_advance s dt] at hd ⊢
    rw [exec_burstPlanning_eq, gives_next]
    exact State.burstGo_refused hdue hr (blocksDiffer_false hd) (by rw [State.burstGrant_advance]; exact hg)
  · obtain rfl : fill = s.fillOf k x freq p := hfill
    have hdue := State.burstDue_advance hst hfired he hsv hs hh hl
    rw [← State.fillOf_advance s dt] at hr ⊢
    rw [← State.burstUnread_advance s dt] at hr
    rw [← State.camp_advance s dt]
    rw [exec_burstPlanning_eq, gives_next]
    exact State.burstGo_unread hdue hr
  · obtain rfl : fill = s.fillOf k x freq p := hfill
    have hdue := State.burstDue_advance hst hfired he hsv hs hh hl
    rw [← State.fillOf_advance s dt] at hr hd
    rw [← State.burstUnread_advance s dt] at hr
    rw [← State.camp_advance s dt] at hd ⊢
    rw [exec_burstPlanning_eq, gives_next]
    exact State.burstGo_differs hdue hr (blocksDiffer_true hd)
  · obtain ⟨h5, hpost, -, -⟩ := State.laceFail_holds (s := s.advance dt) (u := s.advance dt) rfl k 2
    rw [← State.camp_advance s dt] at hf
    rw [State.campSt, ← State.rd_advance s dt] at hst
    rw [exec_laceReadFail_eq, gives_next, State.readFailGo_fails hf hst ha]
    exact ⟨h5, hpost⟩
  · rw [exec_laceReadFail_eq, gives_next, State.readFailGo_none (by rw [State.camp_advance, hf])]
  · have hkeep : (s.strapPop 5).1.lacing = s.lacing ∧ (s.strapPop 5).1.clock = s.clock := by simp only [State.strapPop_keeps .., and_self]
    obtain ⟨hlac, hclock⟩ := hkeep
    rw [exec_laceReportTake, execLaceReportTake_takes hh hk hp hr hu, gives_next, State.elapsed, ← hclock]
    exact State.takeReport_done (by rw [State.camp_of_lacing hlac]; exact List.mem_of_find?_eq_some hu) h1
  · rw [exec_laceReportTake, execLaceReportTake_empty hh ht, gives_next]
    simp only [State.strapPop_keeps .., and_self]

end Sys2Proof.Machine

end
